-- ==== Sys2Proof/Word.lean ====
section
/-! DEFINITION. The word types of the block: bytes, 64-byte lines, the 64-bit byte enables of a line.
Only what the spec treats as bits is a bit vector; addresses, numbers of units and counts are Nat. -/

namespace Sys2Proof

/-- One byte of an object value, a payload or a record. -/
abbrev Byte := BitVec 8

/-- The 64 data bytes of a line (00_scope.md R5), byte b in bits 8b+7:8b. -/
abbrev Line := BitVec 512

/-- One bit per byte of a line: byte enables (06_write_path R137). -/
abbrev ByteEn := BitVec 64

/-- A 64-bit fault message, tag or MAC. -/
abbrev Word64 := BitVec 64

end Sys2Proof
end

