-- ==== Sys2Proof/Units.lean ====
section
/-! DEFINITION. The operand types of the commands: roles, requests, sensed lines, outcomes that reach the block from its
medium, its links, its sensors and its managers. -/

namespace Sys2Proof

/-- The roles of WOP (12_management R288). -/
inductive Role where
  | observer | operator | custodian | vendor
  deriving DecidableEq, Repr

/-- Who asks for an object access that starts an operation: role and path (13_object_dictionary R320). -/
structure Req where
  /-- The session's role. -/
  role : Role := .operator
  /-- 0 T1S, 1–8 head + 1. -/
  path : Nat := 0
  deriving DecidableEq, Repr

/-- The tag field of a WOP or mailbox access: zero, one that passes its check, one that fails it (R292, R105). -/
inductive TagField where
  | zero | valid | invalid
  deriving DecidableEq, Repr

/-- The copies of a line's nodes on the medium (R121, R221, R223). -/
inductive NodeCopy where
  | block | l1 | l1Mirror | l2 | l2Mirror
  | l3 (half : Nat)
  deriving DecidableEq, Repr

/-- What a read fetches (R120, R121, R130): its own line, a stripe position of its row, a node of its path, the mirror
of an L1 or L2 node, or a stripe position of the row of a node's copy. -/
inductive ReadSrc where
  | own
  | stripe (position : Nat)
  | counterBlock
  | l1
  | l2
  | l3half (half : Nat)
  | l1Mirror
  | l2Mirror
  | nodeStripe (copy : NodeCopy) (position : Nat)
  deriving DecidableEq, Repr

/-- What a die reports with a sensed line on SQ beside BLANK (R165, R166, R169): a reference fallback, a cell in a guard band. -/
structure SenseStatus where
  /-- REF: the sense used fallback thresholds. -/
  ref : Bool := false
  /-- LOWMARGIN: a cell lay inside the guard band of a threshold. -/
  lowMargin : Bool := false
  deriving DecidableEq, Repr

/-- A line of the medium as it is stored and sensed: blank cells, ciphertext, tag, persistent poison bit (R167, R168). -/
structure StoredLine where
  /-- The line's granule is cleared (BLANK). -/
  blank : Bool := true
  /-- The 64 data bytes as stored (ciphertext, or a node or system line). -/
  ct : Line := 0
  /-- The 64-bit line tag. -/
  tag : Word64 := 0
  /-- The persistent poison bit, metadata bit 95. -/
  poison : Bool := false
  deriving DecidableEq, Repr

/-- A granule header's fields (R167). -/
structure Header where
  tract : Nat := 0
  gran : Nat := 0
  gen : Nat := 0
  epoch : Nat := 0
  sealed : Bool := false
  parity : Bool := false
  kind : Nat := 0
  writer : Nat := 0
  deriving DecidableEq, Repr

/-- A granule: header and four lines; `torn` where its header is neither valid nor blank (R164, R206). -/
structure Granule where
  blank : Bool := true
  hdr : Header := {}
  torn : Bool := false
  line0 : StoredLine := {}
  line1 : StoredLine := {}
  line2 : StoredLine := {}
  line3 : StoredLine := {}
  deriving DecidableEq, Repr

/-- What the ECC stage found in one line: how many bit errors (R240). -/
abbrev Errors := Nat

/-- The outcome of a plane's operation (R169, R176, R180). -/
inductive OpResult where
  | done        -- a program or clear segment completes
  | verifyFail  -- a program's verify fails
  | senseEnd    -- a sense ends
  deriving DecidableEq, Repr

/-- What an SRAM word was found to be (R254). -/
inductive SramFound where
  | clean | corrected | uncorrectable
  deriving DecidableEq, Repr

/-- What an SRAM word holds (R254). -/
inductive SramHolds where
  | mirrored       -- tract map, write buffer, line directory, reserve map
  | pinned         -- pinned levels
  | cache          -- integrity cache
  | wearTable      -- wear and read-count table
  | rootRegister
  | logStaging     -- keel SRAM, Logbook staging
  | tallySnapshot  -- keel SRAM, Tally snapshot
  | coxData        -- keel SRAM, Cox data
  deriving DecidableEq, Repr

/-- The stream that an unsupported IDE_KM request names (R78): the link IDE stream of CXL.io, that of CXL.cachemem, or one that the link
does not have. -/
inductive IdeStream where
  | io | mem | other
  deriving DecidableEq, Repr

/-- The mode that an IDE_KM request asks for (R63, R78). -/
inductive IdeAsk where
  | io          -- key and start the link IDE stream of CXL.io
  | mem         -- key and start the CXL.cachemem stream in containment mode
  | unsupported (stream : IdeStream) -- skid mode, a selective stream, or a stream not of R63
  deriving DecidableEq, Repr

/-- An HDM decoder of a head (R63). -/
structure HdmDecoder where
  base : Nat := 0
  size : Nat := 0
  /-- Interleave ways: 1, 2, 4, 8 or 16. -/
  ways : Nat := 1
  /-- Interleave granularity in bytes: 256 to 16,384. -/
  granularity : Nat := 256
  committed : Bool := false
  deriving DecidableEq, Repr

/-- The AER registers of a function (R83). -/
structure AerS where
  uncStatus : Nat := 0
  uncMask : Nat := 0
  uncSeverity : Nat := 0
  corrStatus : Nat := 0
  corrMask : Nat := 0
  control : Nat := 0
  headerLog : Nat := 0
  deriving DecidableEq, Repr

/-- Standard registers of a function as host software writes them over CXL.io (R63, R75, R82, R83, R113). -/
structure HostCfg where
  /-- Viral_Enable of the CXL DVSEC control register. -/
  viralEnable : Bool := false
  /-- MSI-X Enable, Function Mask, the mask bits of the vectors, and address and data of each. -/
  msixOn : Bool := true
  msixFnMask : Bool := false
  msixMask : Nat := 0
  msixTable : List (Nat × Nat) := []
  /-- The PCI power state: D3hot, else D0. -/
  d3hot : Bool := false
  /-- The HDM decoders. -/
  decoders : List HdmDecoder := []
  /-- AER masks, severity and control; a one in a status bit clears it. -/
  aer : AerS := {}
  deriving DecidableEq, Repr

/-- The instructions of the IEEE 1149.1 test access port (R58). -/
inductive TapInstr where
  | bypass | idcode | samplePreload | extest
  deriving DecidableEq, Repr

/-- A completion that an entry owes to a head (06 R138); after a link-down it is finished without being sent (03 R80). -/
structure Owed where
  head : Nat
  /-- The write was a MemWrPtl. -/
  partl : Bool := false
  discard : Bool := false
  deriving DecidableEq, Repr

/-- The first category of R286 that a dropped frame meets; beside the received frames the two that the MAC counts as it sends: a collision, a
frame dropped after 16 attempts (R284, R286). -/
inductive FrameDrop where
  | fcs | link | network | port | malformed | notForModule | tag | sequence | collision | excessCollisions
  deriving DecidableEq, Repr

/-- What a scrub, patrol, rebuild or refresh step found in a line of its row (R240, R258). -/
structure Finding where
  /-- The position of the granule in its stripe row, 0–8. -/
  position : Nat
  /-- The line of the granule, 0–3; for a visit of a whole physical tract, its stripe row × 4 + line;
  for a span, 4 more in its second row. -/
  line : Nat
  /-- Bit errors found; above 8 is failed, 8 is flagged. -/
  errors : Nat
  /-- The line's granule header failed its check. -/
  headerBad : Bool := false
  /-- What the die reported with the sense. -/
  sq : SenseStatus := {}
  deriving DecidableEq, Repr

/-- An object named in a READ_MULTI or a snapshot definition. -/
structure ObjRef where
  index : Nat
  member : Nat
  deriving DecidableEq, Repr

/-- A sense whose data has not begun in time (R171): a read's, an engine's line sense, a header sense. -/
inductive TimedSense where
  | read (rid : Nat) (src : ReadSrc)
  | engine (ch die granule : Nat)
  | header (ch die granule : Nat)
  deriving DecidableEq, Repr

/-- What the probe of one die finds (R183). -/
structure DieProbe where
  /-- The TRIM read of its factory registers gives what is expected. -/
  trimOk : Bool := true
  /-- Granules of the probe sector, of four, whose program verifies. -/
  verified : Nat := 4
  /-- Senses, of 256, whose line is not as programmed. -/
  wrong : Nat := 0
  /-- Senses, of 256, that report REF. -/
  fallbacks : Nat := 0
  /-- Most bits corrected in one line. -/
  worstBits : Nat := 0
  deriving DecidableEq, Repr

/-- What a re-admission probe finds (R183, R276): of a die or a channel, its dies in order, those not named passing, and whether its
lanes train; of every other unit, whether its own probe passes. -/
structure ProbeFind where
  pass : Bool := true
  trained : Bool := true
  dies : List DieProbe := []
  deriving DecidableEq, Repr

/-- What the lookup finds of a map entry's two copies (R118): both pass their SECDED, one does, neither does. -/
inductive MapCopies where
  | both | one | none
  deriving DecidableEq, Repr

/-- What the check of a counter path finds for a drain unit or a re-key (R228, R231, R236): it verifies; a copy that failed its MAC has
been recovered; a node is unrecoverable. -/
inductive TreeFind where
  | verified | recovered | unrecoverable
  deriving DecidableEq, Repr

/-- How a request names the module: by its pool address, or by its serial number where bit 1 of Flags is set (R287, R289). -/
inductive WopAddr where
  | pool (address : Nat)
  | serial (number : Nat)
  deriving DecidableEq, Repr

/-- The kinds of subscription of a slot (R288). -/
inductive SubKind where
  | none | objectChange | faultClasses | logbookE | headEvents
  deriving DecidableEq, Repr

/-- What a start of Cox finds: of the images (R398), and of the parameter store's records (R409). -/
structure BootFind where
  /-- Image A passes every check of R398. -/
  validA : Bool := true
  /-- Image B passes every check of R398. -/
  validB : Bool := false
  /-- State records of the parameter store of which neither copy passes (17 R409), by the page that log 40 gives. -/
  lostRecords : List Nat := []
  /-- Persist objects of whose records neither copy passes (17 R409): index × 256 + member. -/
  lostObjects : List Nat := []
  deriving DecidableEq, Repr

end Sys2Proof
end

