-- ==== Sys2Proof/Syntax.lean ====
section
/-! DEFINITION. The commands of the block: one constructor per row of spec/opcode_table.json, in the table's order, each with
the operands its rule gives it (the table gives none). What reaches the block from outside with a command (bit errors found by a
decoder, a sensor's reading, whether a tag passes its check) is an operand. -/

namespace Sys2Proof

/-- The commands. -/
inductive Instr where
  /-- MEMRD (R116). A host MemRd is taken whole at the port transaction layer: it is decoded, admitted, looked up and dispatched. -/
  | memrd (head dpa queued latency : Nat) (copies : MapCopies)
  /-- READ_LINE_ARRIVAL (R240). A sensed data or node line arrives in the core, is ECC-decoded, and is verified and decrypted, or sent to reconstruction. -/
  | readLineArrival (rid : Nat) (src : ReadSrc) (errors : Errors) (sensed : Option StoredLine) (sq : SenseStatus)
  /-- LINE_ORDER_POINT_MERGE (R127). Once its inputs and any pending entries are ready, the read is merged with its preceding buffer entries and its data response is emitted. -/
  | lineOrderPointMerge (rid latency : Nat)
  /-- LOOKUP_RESPONSE_HOLD_EXPIRY (R119). The 56 ns hold of a response decided at lookup or at dispatch ends, and the response proceeds to the merge. -/
  | lookupResponseHoldExpiry (rid : Nat)
  /-- MEMWR (R135). A full-line host write is taken whole, enters the line order point, and is allocated or merged into the mirrored write buffer. -/
  | memwr (head dpa : Nat) (data : Line) (poison : Bool)
  /-- MEMWRPTL (R135). A partial host write is taken whole and merged into the line's open entry with its byte enables. -/
  | memwrptl (head dpa : Nat) (be : ByteEn) (data : Line) (poison : Bool)
  /-- MIRROR_WRITE_ACK (R138). Both members, or the surviving member, acknowledge the mirror write; the entry becomes Dirty and the completion is sent. -/
  | mirrorWriteAck (key latency : Nat)
  /-- GPF_PHASE_1 (R150). Global Persistent Flush phase 1 is answered at once. -/
  | gpfPhase1 (head : Nat)
  /-- GPF_PHASE_2 (R150). Global Persistent Flush phase 2 is answered once every completed write has reached its pair, within 1 µs. -/
  | gpfPhase2 (head : Nat)
  /-- SET_SHUTDOWN_STATE (R151). The standard Set Shutdown State command stores its value in 0x3180.0A and has no other effect. -/
  | setShutdownState (head value : Nat)
  /-- GET_SHUTDOWN_STATE (R151). The standard Get Shutdown State command returns the stored value. -/
  | getShutdownState (head : Nat)
  /-- GET_POISON_LIST (R109). The head's poisoned lines in its Assigned or Releasing extents are listed, up to 1,024 entries, with the overflow flag beyond that. -/
  | getPoisonList (head : Nat)
  /-- SANITIZE (R108). The standard Sanitize sanitizes the head's unshared Assigned extents when permitted, and is refused otherwise or while a tract is Suspect. -/
  | sanitize (head : Nat)
  /-- SECURE_ERASE (R108). The standard Secure Erase acts as Sanitize, under the same permission and refusals. -/
  | secureErase (head : Nat)
  /-- ADD_DYNAMIC_CAPACITY_RESPONSE (R95). The host accepts or declines an Offered extent, which becomes Assigned or Free. -/
  | addDynamicCapacityResponse (head ext : Nat) (accept : Bool)
  /-- RELEASE_DYNAMIC_CAPACITY (R95). The host releases an extent; admission to it stops at the next commit point and it becomes Draining. -/
  | releaseDynamicCapacity (head ext : Nat)
  /-- GET_DYNAMIC_CAPACITY_EXTENT_LIST (R97). The host reads the extents assigned to its head. -/
  | getDynamicCapacityExtentList (head : Nat)
  /-- OBJECT_READ (R105). Mailbox opcode 0xC000 performs a WOP object read on a session and returns its status and value. -/
  | objectRead (head : Nat) (form : Bool) (sess seq : Nat) (tag : TagField) (idx mem : Nat)
  /-- OBJECT_WRITE (R105). Mailbox opcode 0xC001 performs a WOP object write on a session and returns its status and ticket. -/
  | objectWrite (head : Nat) (form : Bool) (sess seq : Nat) (tag : TagField) (idx mem : Nat) (value : List Byte)
  /-- SET_EXTENT_HINT (R106). Mailbox opcode 0xC010 sets the temperature hint of a range of extents Assigned to the calling head. -/
  | setExtentHint (head : Nat) (form : Bool) (first count hint : Nat)
  /-- GET_EXTENT_STATE (R107). Mailbox opcode 0xC011 returns one 16 B state entry per extent of a range. -/
  | getExtentState (head : Nat) (form : Bool) (first count : Nat)
  /-- UNSUPPORTED_OPCODE (R104). Any other opcode in the vendor range returns Unsupported. -/
  | unsupportedOpcode (head opcode : Nat)
  /-- GET_HEALTH_INFO (R383). The standard mailbox Get Health Info command returns life used, device temperature, health status and the dirty shutdown count. -/
  | getHealthInfo (head : Nat)
  /-- MAILBOX_OPEN_REQUEST (R299). A write of 0x1210.00 on session 0 prepares a mailbox session. -/
  | mailboxOpenRequest (head : Nat) (role : Role) (nonce : Nat)
  /-- MAILBOX_OPEN_REPLY (R299). A read of 0x1210.01 returns the session, nonce and proof once. -/
  | mailboxOpenReply (head : Nat)
  /-- MEM_ENABLE_WRITE (R67). A host write of Mem_Enable takes effect only while the conditions for CXL.mem hold, and is written back as 0 otherwise.
  `cfg`: what else host software has written of the function's standard registers, for which the table has no row. -/
  | memEnableWrite (head : Nat) (value : Bool) (cfg : HostCfg)
  /-- VIRAL_RECEIVED (R76). A viral indication from the host puts the head in the viral state until its link goes down. -/
  | viralReceived (head : Nat)
  /-- IDE_CHECK_FAILURE (R79). The MAC check of a received epoch fails: the epoch is discarded, the streams become Insecure, admission stops, and the failure is reported. -/
  | ideCheckFailure (head : Nat)
  /-- IDE_KM_REQUEST (R78). An IDE_KM key or mode request is carried out, or answered K_GOSTOP_ACK for an unsupported mode or stream. -/
  | ideKmRequest (head : Nat) (ask : IdeAsk)
  /-- FUNCTION_LEVEL_RESET (R82). A Function Level Reset resets the function's CXL.io state within 100 ms and leaves CXL.mem untouched. -/
  | functionLevelReset (head : Nat)
  /-- PERST_ASSERT (R80). Assertion of a link's PERST_N takes the link down and resets its head. -/
  | perstAssert (port link : Nat)
  /-- PERST_RELEASE (R66). Release of PERST_N with a stable REFCLK starts link training. -/
  | perstRelease (port link : Nat)
  /-- LINK_UP (R66). The link is up at its negotiated width, and configuration requests are answered. -/
  | linkUp (head width flit : Nat)
  /-- SPEED_CHANGE_REQUEST (R68). A host speed change request is carried out; a failure to reach 32 GT/s leaves the link at CXL.io only with a C1 link speed message. -/
  | speedChangeRequest (head asked reached : Nat)
  /-- EQUALISATION_COMPLETE (R66). Equalisation completes at 32 or 64 GT/s, and the link may serve CXL.mem. -/
  | equalisationComplete (head speed : Nat)
  /-- LINK_RECOVERY_ENTRY (R69). The link enters Recovery; more than 64 entries in 1 s give a C1 link unstable message and a 32 GT/s limit. -/
  | linkRecoveryEntry (head : Nat)
  /-- LINK_DOWN (R80). A hot reset, secondary bus reset, Link Disable or surprise link down is a full reset of the link's head. -/
  | linkDown (head : Nat)
  /-- CABLE_REMOVED (R49). CBL_PRES_N goes high, and both links of the port are held in reset. -/
  | cableRemoved (port : Nat)
  /-- CABLE_MATED (R49). CBL_PRES_N goes low, and the port's links are no longer held in reset by cable absence. -/
  | cableMated (port : Nat)
  /-- BIFURCATION_REQUEST (R65). A write of 0x2000+p.00 stores the requested port mode. -/
  | bifurcationRequest (port mode : Nat)
  /-- EQ_ENABLE (R111). Setting ENABLE in EQ_CTRL resets the queue indices, or leaves ENABLE at 0 for a misaligned ring or an invalid SIZE. -/
  | eqEnable (head base mirror coal size : Nat) (mask : BitVec 16)
  /-- EQ_DISABLE (R111). Clearing ENABLE stops the queue after the record being written and its mirror write. -/
  | eqDisable (head : Nat)
  /-- EQ_CI_WRITE (R112). A host write of the consumer index is accepted, or is ignored and sets CI_ERR. -/
  | eqCiWrite (head : Nat) (ci : BitVec 32)
  /-- EQ_STATUS_CLEAR (R110). A write of one clears OVERFLOW or CI_ERR. -/
  | eqStatusClear (head : Nat) (overflow ciErr : Bool)
  /-- EQ_COALESCE_INTERVAL_END (R113). At the end of a coalescing interval, one more vector 2 message is sent if PI has advanced. -/
  | eqCoalesceIntervalEnd (head : Nat)
  /-- HEAD_STALL (R92). An admitted operation in flight for 100 ms gives a C2 head stall message. -/
  | headStall (head : Nat)
  /-- HEAD_RESET (R93). A write of 1 to 0x2100+h.04 holds the link in Link Disable, as a link-down of the head. -/
  | headReset (head : Nat)
  /-- HEAD_RESET_HOLD_END (R93). After 10 ms in Link Disable, the link trains from step 1 of the bring-up. -/
  | headResetHoldEnd (head : Nat)
  /-- IN_FLIGHT_CAP_WRITE (R91). A new in-flight cap is taken up at the next commit point, or refused when outside 64 to 4,096. -/
  | inFlightCapWrite (head cap : Nat)
  /-- EXTENT_OFFER (R95). An Operator offer of a range of extents to heads in a region is refused as a whole or moves the extents to Offered. -/
  | extentOffer (req : Req) (first count mask region : Nat)
  /-- REGION_CHANGE_COMPLETE (R98). The region change of an offered extent completes and the Add Capacity event is posted. -/
  | regionChangeComplete (ext : Nat)
  /-- EXTENT_RELEASE (R95). An unforced Operator release moves Assigned pairs to Releasing and posts Release Capacity events. -/
  | extentRelease (req : Req) (first count mask : Nat)
  /-- EXTENT_RELEASE_FORCED (R95). A forced Operator release stops admission to Assigned or Releasing pairs, which become Draining. -/
  | extentReleaseForced (req : Req) (first count mask : Nat)
  /-- OFFER_TIMEOUT (R95). The offer timeout returns an Offered pair to Free, or moves a Releasing pair to Draining. -/
  | offerTimeout (head ext : Nat)
  /-- EXTENT_DRAIN_COMPLETE (R95). Every admitted operation of the head to a Draining extent has completed, and the pair becomes Free. -/
  | extentDrainComplete (head ext : Nat)
  /-- REGION_CREATE (R102). A Custodian write of a non-zero owner mask to an unused region creates it and derives its key. -/
  | regionCreate (region mask : Nat)
  /-- REGION_MASK_CHANGE (R102). A new owner mask widens or narrows an active region, or is refused when it would drop a head that still holds an extent. -/
  | regionMaskChange (region mask : Nat)
  /-- REGION_DELETE (R102). A mask of 0 deletes a region whose extent count is 0, and is refused otherwise. -/
  | regionDelete (region : Nat)
  /-- CONFIG_COMMIT (R20). A data-plane block applies its staged configuration at its next commit point and confirms the commit. -/
  | configCommit (domain : Nat)
  /-- KEEL_BRIDGE_ACCESS (R19). A 64-bit register access from Cox to a core block completes within 100 ns. -/
  | keelBridgeAccess (domain addr : Nat) (write : Option Word64)
  /-- KEEL_BRIDGE_TIMEOUT (R19). An access to a domain that is off or in reset ends after 1 µs with the status core absent. -/
  | keelBridgeTimeout (domain addr : Nat)
  /-- FAULT_MESSAGE_TAKEN (R269). The collector takes a message from the fault queue, counts it, applies its reaction, logs it, and posts records to the heads. -/
  | faultMessageTaken
  /-- FATAL_LINE_ASSERT (R23). A source's fatal line brings a C3 condition to the collector within 25 ns, whether or not the queue is full. -/
  | fatalLineAssert (msg : Word64)
  /-- CLOCK_LOST (R28). A clock monitor finds a clock more than 5 % off for 10 µs, or stopped, and the reaction of its clock follows. -/
  | clockLost (clock : Nat)
  /-- STICKY_BIT_PERSIST (R270). A newly set sticky bit is written to the parameter store within 100 ms. -/
  | stickyBitPersist (src : Nat)
  /-- STICKY_BIT_CLEAR (R270). An Operator write of one to a bit of 0x4010.mm clears that sticky bit. -/
  | stickyBitClear (member : Nat) (ones : Word64)
  /-- QUIET_TIMER_EXPIRY (R274). A fenced unit's quiet timer expires, and the unit is probed, waits for its channel, or is latched. -/
  | quietTimerExpiry (src : Nat)
  /-- PROBE_COMPLETE (R276). A re-admission probe passes or fails, and the unit moves to Rebuilding, Active, Fenced or Held. -/
  | probeComplete (src : Nat) (find : ProbeFind)
  /-- PROBE_TIMEOUT (R276). A probe that exceeds its maximum time fails. -/
  | probeTimeout (src : Nat)
  /-- OPERATOR_FENCE (R277). The fence action of 0x4003.00 fences or holds a unit, or completes with state conflict. -/
  | operatorFence (req : Req) (src : Nat)
  /-- OPERATOR_READMIT (R277). The re-admit action of 0x4003.00 probes a Fenced or Held unit, or latches it. -/
  | operatorReadmit (req : Req) (src : Nat)
  /-- LATCH_RELEASE (R277). The Custodian releases a Latched unit through 0x4003.01; its recovery count clears and its quiet timer starts. -/
  | latchRelease (req : Req) (src : Nat)
  /-- ENGINE_TIMEOUT (R266). An engine operation that makes no progress for its engine timeout gives kind 0x53. -/
  | engineTimeout (src tract : Nat)
  /-- EASY_ALL_ENTER_COMMAND (R282). A write of 1 to 0x4040.02 sets the Operator cause. -/
  | easyAllEnterCommand (req : Req)
  /-- EASY_ALL_LEAVE_COMMAND (R281). A write of 2 to 0x4040.02 clears the Operator or C2 stop cause, or completes with state conflict. -/
  | easyAllLeaveCommand (req : Req)
  /-- T4_CLEAR_TIMER (R281). After 60 s at T2 or below, the T4 cause clears, and the media domains return with their channel probes. -/
  | t4ClearTimer
  /-- STAGING_PARITY_RECOMPUTE_DONE (R32). The eighth of the pinned-tree parity lost with a group B part has been recomputed. -/
  | stagingParityRecomputeDone (part : Nat)
  /-- WEAR_BAND_RELOAD_DONE (R32). The wear band of a fenced group B part has been reloaded from the last checkpoint. -/
  | wearBandReloadDone (part : Nat)
  /-- STAGING_PART_RESTORE_DONE (R159). The copy into a re-admitted staging part ends; the part is Active and its pair is mirrored again. -/
  | stagingPartRestoreDone (part : Nat)
  /-- SRAM_INIT_DONE (R253). The write-before-read initialisation of an SRAM ends, and its words may be read. -/
  | sramInitDone (which : Nat) (checkerOk : Bool)
  /-- SRAM_PATROL (R255). The patrol reads each staging word once per 60 s and each keel word once per 10 s, and writes back corrected words. -/
  | sramPatrol (which word : Nat) (holds : SramHolds) (found : SramFound)
  /-- SENSE (R169). Channel command SENSE on the priority lane senses one line for a latency-bound read. -/
  | sense (ch die granule line slot : Nat) (sq : SenseStatus)
  /-- ABORT (R169). Channel command ABORT ends the operation holding a plane, which the die reports ABORTED or COMPLETE. -/
  | abort (ch die plane : Nat)
  /-- ESENSE (R169). Channel command ESENSE senses one line for an engine. -/
  | esense (ch die granule line : Nat) (sq : SenseStatus)
  /-- HSENSE (R169). Channel command HSENSE returns a granule header and its check bits. -/
  | hsense (ch die granule : Nat)
  /-- LOAD (R169). Channel command LOAD places a granule image in a plane's program buffer. -/
  | load (ch die plane : Nat) (image : Granule)
  /-- PROG (R169). Channel command PROG programs the plane buffer into a granule. -/
  | prog (ch die granule : Nat)
  /-- CLRSEG (R169). Channel command CLRSEG clears one segment of 16 granules of a sector. -/
  | clrseg (ch die sector segment : Nat)
  /-- STATUS (R169). Channel command STATUS returns each plane's result. -/
  | status (ch die : Nat)
  /-- TRIM (R169). Channel command TRIM accesses a die register, in start-up and probes only. -/
  | trim (ch die reg : Nat)
  /-- CHECK (R178). The plane's wait timer reaches the earliest deadline, and ABORT revokes the grant. -/
  | check (ch die plane : Nat)
  /-- ABORT_REPORT (R176). The die reports ABORTED or COMPLETE; the waiting reads take slots and the owner re-requests at its rank. -/
  | abortReport (ch die plane : Nat) (complete resetBegun : Bool)
  /-- PLANE_OPERATION_END (R176). A program, clear segment or sense ends on a plane, and the grant is continued, ended or given to the next requester. -/
  | planeOperationEnd (ch die plane : Nat) (result : OpResult)
  /-- SENSE_TIMEOUT (R171). A sense whose data has not begun within 120 ns is abandoned, and its read becomes a reconstructed read. -/
  | senseTimeout (sense : TimedSense)
  /-- ABORT_TIMEOUT (R171). An ABORT with no report within 40 ns is issued once more, and the waiting reads become reconstructed reads. -/
  | abortTimeout (ch die plane : Nat)
  /-- PROGRAM_STATUS_TIMEOUT (R171). A program or clear segment with no result within twice its worst-case time is issued once more. -/
  | programStatusTimeout (ch die plane : Nat)
  /-- COMMAND_PARITY_ERROR (R170). A die pulls ALERT_N for a command parity error, and the controller reissues the command at the head of its lane. -/
  | commandParityError (ch die : Nat) (rid : Option Nat)
  /-- CHANNEL_TIMING_ERROR (R173). A DQS tracking error above a quarter beat gives a C1 channel timing message. -/
  | channelTimingError (ch : Nat) (thousandths : Int)
  /-- CHANNEL_TRAINING_DONE (R445). A channel's lanes have trained and its dies have answered TRIM, and the channel becomes active. -/
  | channelTrainingDone (ch : Nat)
  /-- CHANNEL_TRAINING_TIMEOUT (R445). A channel not trained within 40 ms of its media wave reports kind 0x22. -/
  | channelTrainingTimeout (ch : Nat)
  /-- COALESCING_DELAY_EXPIRY (R141). A buffer entry becomes older than the coalescing delay, and its stripe row joins the drain order. -/
  | coalescingDelayExpiry (key : Nat)
  /-- DRAIN_UNIT_SELECT (R141). The drain engine selects an eligible drain unit, verifies counters, assigns minors, encrypts and writes node entries. -/
  | drainUnitSelect (pair tract row : Nat) (findings : List Finding) (tree : TreeFind)
  /-- DRAIN_PROGRAMS_START (R228). Once both members acknowledge every node entry, the images are registered and the unit's data programs begin. -/
  | drainProgramsStart (unit : Nat)
  /-- DRAIN_UNIT_COMPLETE (R145). Every program of the unit has finished and been checked; its slots are freed and credit may resume. -/
  | drainUnitComplete (unit : Nat)
  /-- STARVATION_THRESHOLD (R149). A drain unit in progress past the starvation threshold gives a C0 write starved message. -/
  | starvationThreshold (unit : Nat)
  /-- NODE_HOLD_EXPIRY (R229). A node entry becomes eligible for drain after the node hold time. -/
  | nodeHoldExpiry (key : Nat)
  /-- LEDGER_DELTA (R153). At a 64 µs grid point at which the dirty set has changed, a delta record is started. -/
  | ledgerDelta
  /-- LEDGER_FULL_SET (R153). Every 1 s a full-set record listing the whole dirty set is started. -/
  | ledgerFullSet
  /-- LEDGER_RECORD_DURABLE (R153). A ledger record becomes durable, and the entries of the tracts it lists become eligible for drain. -/
  | ledgerRecordDurable (seq : Nat)
  /-- INPUT_DIP (R154). J1 falls below the input-loss threshold: RwD credit stops and the first seal record starts. -/
  | inputDip
  /-- SEAL_RECORD_DURABLE (R154). A seal record becomes durable; held completions are sent and a further seal starts if a write waits. -/
  | sealRecordDurable (seq : Nat)
  /-- INPUT_DIP_RECOVERED (R154). J1 returns before the loss is qualified; the short-dip count increments and credit resumes after the last seal. -/
  | inputDipRecovered
  /-- FLUSH_COMPLETE (R155). The flush has drained the buffer, made integrity state durable and written the flush-complete record. -/
  | flushComplete
  /-- KEEL_TURN_ON (R39). J1 above keel turn-on for 10 ms: the input switch closes and the keel island starts. -/
  | keelTurnOn
  /-- INPUT_LOSS (R43). A qualified input loss opens the input switch, feeds the bus from the bank, and enters Easy-all. -/
  | inputLoss
  /-- OVERVOLTAGE (R39). A qualified overvoltage opens the input switch and starts the input loss sequence. -/
  | overvoltage
  /-- OVERVOLTAGE_CLEAR (R39). J1 falls below the overvoltage clear threshold for 10 ms, and the input counts as good again. -/
  | overvoltageClear
  /-- KEEL_TURN_OFF (R39). J1 falls below keel turn-off, and the keel island loses J1 as a source. -/
  | keelTurnOff
  /-- BREAKER_TRIP (R41). The breaker trips; the input switch and the keel supply path latch open, as an input loss. -/
  | breakerTrip
  /-- BREAKER_LATCH_RELEASE (R41). After J1 has been below keel turn-off for 1 s, the breaker latch releases. -/
  | breakerLatchRelease
  /-- BLADE_PAIR_IMBALANCE (R42). One pair carries less than 20 % of over 2 A for 1 s, and a C0 message is sent. -/
  | bladePairImbalance (pairA pairB : Nat)
  /-- INPUT_GOOD_AGAIN (R44). J1 returns good during hold-up flush; the input switch closes and the flush completes. -/
  | inputGoodAgain
  /-- INPUT_GOOD_RESET_TIMER (R44). J1 has been good for 100 ms after the flush, and a full module reset follows.
  `ga`: the levels of GA[5:0] now (R52). -/
  | inputGoodResetTimer (ga : Nat)
  /-- BANK_BELOW_40V (R365). The bank falls to 40 V; Seat 1 switches off the keel rails and the module is Off. -/
  | bankBelow40v
  /-- BANK_BELOW_41V (R408). On the bank below 41 V, no flash program starts and parameter store protection becomes 0b11. -/
  | bankBelow41v
  /-- CORE_POWER_OFF_REQUEST (R62). A write of 1 to 0x5080.08 sends the module through Easy-all to Standby. -/
  | corePowerOffRequest
  /-- CORE_POWER_ON_REQUEST (R61). A write of 0 to 0x5080.08 in Standby starts Core start, or is refused under a latch or held HALT_N. -/
  | corePowerOnRequest
  /-- GA_SAMPLE (R53). The 1 s sample of GA[5:0] sets or clears the GA mismatch and reports kind 0x82. -/
  | gaSample (pins : Nat)
  /-- MODRST_ASSERT (R54). MODRST_N low for 10 µs requests a full module reset, preceded by the flush where needed.
  `ga`: the levels of GA[5:0] now (R52). -/
  | modrstAssert (lowUs ga : Nat)
  /-- MODRST_RELEASE (R54). MODRST_N is released; the reset is applied at the later of the release and the flush end.
  `ga`: the levels of GA[5:0] now (R52). -/
  | modrstRelease (ga : Nat)
  /-- MODULE_RESET (R317). A write of 0x01 to 0x7001.00 is answered and then acts as a pulse on MODRST_N.
  `ga`: the levels of GA[5:0] now (R52). -/
  | moduleReset (req : Req) (value ga : Nat)
  /-- HALT_N_LOW (R355). HALT_N low for 1 µs stops power-up, asserts C3, and sets 0x5080.08 to 1. -/
  | haltNLow (outside : Bool) (lowNs : Nat)
  /-- HALT_N_SWITCH_WRITE (R55). A write of 0x1102.03 opens or closes the J6 HALT_N isolating switch within 1 ms. -/
  | haltNSwitchWrite (value : Bool)
  /-- EXTEST_LOAD (R58). EXTEST is accepted outside data service, and otherwise is replaced by BYPASS and a security event.
  `instr`: the instruction that the tool loads; the table has no row for the loads of the other three. -/
  | extestLoad (instr : TapInstr)
  /-- KEEL_RAILS_QUALIFIED (R345). Seat 1's keel rails qualify and the keel island leaves reset.
  `timeTorn`, `cycleTorn`: the loss of power cut off the next write of the operating time, the last write of the power-cycle count (17 R410). -/
  | keelRailsQualified (ga : Nat) (timeTorn cycleTorn : Bool)
  /-- KEEL_RAIL_RETRY (R345). A keel rail that did not qualify is retried after 1 s. -/
  | keelRailRetry
  /-- DOMAIN_QUALIFIED (R348). A domain's power-good stays high for the qualification window; when its step is complete, the next step begins. -/
  | domainQualified (domain drops : Nat)
  /-- POWER_GOOD_DROP (R349). A power-good drop restarts qualification, is reported as chatter, or is a rail failure. -/
  | powerGoodDrop (domain lowNs : Nat)
  /-- STEP_TIMEOUT (R348). A step that does not qualify within its timeout is a failure to come up, with reverse shutdown and a latch. -/
  | stepTimeout
  /-- RAIL_FAILURE (R350). A rail failure or overcurrent switches its domain off, drives HALT_N, and is latched where the table says. -/
  | railFailure (domain : Nat) (overcurrent : Bool)
  /-- POWER_DOWN_STEP (R352). The domains of a step go off, and the next step waits for the rails or for its interval.
  `ga`: the levels of GA[5:0] now, latched where a reset follows (R52). -/
  | powerDownStep (ga : Nat)
  /-- RAIL_FAIL_TO_FALL (R353). A rail not below 10 % after 20 ms gives kind 0x66, and the power-down continues. -/
  | railFailToFall (domain : Nat) (overcurrent : Bool)
  /-- SEAT_PING_TIMER (R358). Every 10 ms Stroke sends PING to each Seat. -/
  | seatPingTimer
  /-- DOMAIN_STATUS_POLL (R358). Every 500 µs during a step Stroke polls DOMAIN_STATUS of the step's domains. -/
  | domainStatusPoll
  /-- SEAT_BUS_FAILURE (R359). A transaction without acknowledge or with a failed CRC is retried, and the fourth failure makes the Seat not responding. -/
  | seatBusFailure (seat : Nat) (crc : Bool)
  /-- SEAT_BUS_STUCK (R439). SCL or SDA held low for 5 µs fails the transaction, and Stroke frees the bus before the retry. -/
  | seatBusStuck (seat : Nat)
  /-- PING (R357). Seat command 0x01 returns the Seat firmware version. -/
  | ping (seat : Nat)
  /-- DOMAIN_ON (R357). Seat command 0x10 switches a domain on. -/
  | domainOn (seat domain : Nat)
  /-- DOMAIN_OFF (R357). Seat command 0x11 switches a domain off. -/
  | domainOff (seat domain : Nat)
  /-- DOMAIN_STATUS (R357). Seat command 0x12 returns a domain's state and drop count. -/
  | domainStatus (seat domain : Nat)
  /-- READ_V (R357). Seat command 0x20 returns the voltage of a domain or of the bank. -/
  | readV (seat domain : Nat)
  /-- READ_I (R357). Seat command 0x21 returns the current of a domain. -/
  | readI (seat domain : Nat)
  /-- MARGIN (R357). Seat command 0x30 sets a domain's margin of −5 to +5 %. -/
  | margin (seat domain : Nat) (percent : Int)
  /-- CHARGER (R357). Seat command 0x40 turns the hold-up boost stage on or off. -/
  | charger (seat : Nat) (on : Bool)
  /-- CAP_MEASURE (R357). Seat command 0x41 starts a capacitance measurement of the bank. -/
  | capMeasure (seat : Nat)
  /-- CAP_RESULT (R357). Seat command 0x42 returns the measured fall time and voltage step. -/
  | capResult (seat : Nat)
  /-- HALT_RELEASE (R356). Seat command 0x50 lets go of HALT_N, or is refused while the Seat's fault persists. -/
  | haltRelease (seat : Nat)
  /-- FAULT_READ (R357). Seat command 0x51 returns the Seat's fault and domain. -/
  | faultRead (seat : Nat)
  /-- SEAT_SELF_SHUTDOWN (R360). A Seat that sees HALT_N low with no valid transaction for 100 ms switches its domains off in reverse order. -/
  | seatSelfShutdown (seat : Nat)
  /-- LATCH_CLEAR (R351). The Operator clears the power latch through 0x5010.01; Core start follows once the reset and conditions hold. -/
  | latchClear (req : Req)
  /-- MARGINING_ENABLE (R361). A write of 0x5030.00 enables margining, or disables it and returns every margin to 0. -/
  | marginingEnable (value : Bool)
  /-- MARGIN_REQUEST (R361). A write of 0x5030.01 moves a rail's margin at 1 % per ms, or is refused. -/
  | marginRequest (domain : Nat) (percent : Int)
  /-- BANK_READY (R363). The bank is at or above 70 V with a measurement of at least 2.4 mF, and data ready may proceed. -/
  | bankReady (mv : Nat)
  /-- BANK_READY_TIMEOUT (R363). The bank is not ready within 3 s of step 0; kind 0x65 is reported and the bank is not ready. -/
  | bankReadyTimeout
  /-- BANK_LOW_VOLTAGE (R364). The bank below 70 V for 100 ms outside a measurement or flush becomes not ready. -/
  | bankLowVoltage (mv : Nat)
  /-- BOOST_FAULT (R364). A boost stage fault makes the bank not ready. -/
  | boostFault
  /-- CAPACITANCE_MEASUREMENT_DUE (R367). The measurement period has passed, and a capacitance measurement starts or is deferred. -/
  | capacitanceMeasurementDue
  /-- MEASURE_NOW (R367). A write of 1 to 0x5040.04 starts a measurement, or completes with 0x07 while the bank is not charged. -/
  | measureNow (req : Req)
  /-- MEASUREMENT_COMPLETE (R367). The fall time gives the capacitance and ESR; the value is normalised and stored, and the bank recharges. -/
  | measurementComplete (timeUs stepMv : Nat)
  /-- THERMAL_CONVERSION (R370). A sensor input is converted and its level, fault state and fast mode are updated. -/
  | thermalConversion (input : Nat) (reading : Int) (openOrShort : Bool)
  /-- LEVEL_FALL (R373). An input below its limit less hysteresis for 1 s falls a level. -/
  | levelFall (input : Nat)
  /-- LIMITS_WRITE (R372). A write of 0x5110.kk sets the limits of a kind, or is refused when out of bounds. -/
  | limitsWrite (kind : Nat) (t1 t2 t3 t4 : Int) (hyst : Nat)
  /-- HEALTH_RECOMPUTE (R381). Each operating hour the wear rate, hold-up fit and predicted end of life are recomputed. -/
  | healthRecompute
  /-- MIGRATION_START (R197). A queued migration with a free descriptor and no Draining entry chooses its destination and sets MIG. -/
  | migrationStart (tract : Nat)
  /-- MIGRATION_ROW_COPY (R198). A stripe row of ciphertext is copied to the destination with recomputed parity. -/
  | migrationRowCopy (tract : Nat) (findings : List Finding)
  /-- SEAL_VERIFIED (R197). The seal granule is verified, and reads switch to the destination. -/
  | sealVerified (tract : Nat)
  /-- SOURCE_READS_DRAINED (R129). The count of reads dispatched to the source reaches zero, and the source's clear starts. -/
  | sourceReadsDrained (tract : Nat)
  /-- SOURCE_CLEAR_COMPLETE (R197). Every clear segment of the source is complete; the checkpoint is programmed and the entry takes the destination. -/
  | sourceClearComplete (tract : Nat)
  /-- CHECKPOINT_VERIFIED (R197). Checkpoint copy B is verified; MIG clears and the source is freed or retired. -/
  | checkpointVerified (tract : Nat)
  /-- WEAR_EPOCH (R191). At the end of each 1 s epoch each PEAK grows by its largest estimated count. -/
  | wearEpoch
  /-- WEAR_CHECKPOINT_WRITEBACK (R191). Once per second the dirty entries of the wear table are written back to both checkpoint copies. -/
  | wearCheckpointWriteback
  /-- HEAT_PERIOD (R192). At the end of each 10 s period HEAT is recomputed from the tract's programs. -/
  | heatPeriod
  /-- REFRESH_VISIT (R200). The refresh sweep visits a physical tract, senses its headers, and rewrites aged or reported granules in place. -/
  | refreshVisit (pt : Nat) (findings : List Finding)
  /-- REKEY_REQUEST (R210). A Custodian write of 0x3201.00 starts a re-key of a region, or is refused when one runs. -/
  | rekeyRequest (req : Req) (region : Nat)
  /-- REKEY_SPAN (R210). A counter block span is re-encrypted under the new key and its KG is flipped; the last span erases the old key. -/
  | rekeySpan (region span : Nat) (findings : List Finding) (tree : TreeFind)
  /-- RE_ESTABLISHMENT (R235). A tract in STATE 3 is given a blank physical tract with PZ = 1 counter blocks and returns to Mapped. -/
  | reEstablishment (tract : Nat)
  /-- DEBUG_WINDOW_OPEN (R239). A Custodian write of 0x3240.ww with a non-zero length opens a read-only plaintext debug window. -/
  | debugWindowOpen (ww dpa len life : Nat)
  /-- DEBUG_WINDOW_CLOSE (R239). A write of length zero closes a debug window. -/
  | debugWindowClose (ww : Nat)
  /-- DEBUG_WINDOW_EXPIRY (R239). A debug window's lifetime ends and the window closes. -/
  | debugWindowExpiry (ww : Nat)
  /-- DEBUG_READ (R239). A debug read at J7 inside a window is decrypted and verified from the medium's content. -/
  | debugRead (dpa : Nat) (sensed : Option StoredLine)
  /-- ROOT_DECISION_ADOPT (R237). The Custodian adopts the computed root. -/
  | rootDecisionAdopt (req : Req)
  /-- ROOT_DECISION_REJECT (R237). The Custodian rejects the root, and every logical tract is set to STATE 3 and re-established. -/
  | rootDecisionReject (req : Req)
  /-- SCRUB_REWRITE (R242). A queued granule is rewritten in place with corrected ciphertext and a fresh header. -/
  | scrubRewrite (granule : Nat)
  /-- REBUILD_STEP (R247). A physical tract of the die row is rebuilt row by row, skipped, or cleared, and the cursor advances. -/
  | rebuildStep (group : Nat) (findings : List Finding)
  /-- SCRUB_DPA_PASS (R257). A scrub request of kind 0 starts a pass over a DPA range, or is refused. -/
  | scrubDpaPass (req : Req) (mode first len : Nat)
  /-- SCRUB_PHYSICAL_PASS (R257). A scrub request of kind 1 starts a pass over a physical range of one die, or is refused. -/
  | scrubPhysicalPass (req : Req) (mode first len : Nat)
  /-- SCRUB_ROW (R258). A scrub pass senses a stripe row, acts on its findings, and at its end writes the summary. -/
  | scrubRow (ticket : Nat) (findings : List Finding)
  /-- SCRUB_CANCEL (R259). A write of 0x3301.01 stops a pass after the row in progress, with status 1. -/
  | scrubCancel (ticket : Nat)
  /-- PATROL_ROW (R261). The patrol senses and repairs a stripe row of an occupied physical tract. -/
  | patrolRow (pt row : Nat) (findings : List Finding)
  /-- FULL_SCAN_COMPLETE (R206). The full scan has sensed every header, resolved tracts and migrations, repaired torn granules and rewritten the checkpoints. -/
  | fullScanComplete (torn : List Nat) (durationMs : Nat)
  /-- DATA_READY (R412). Every condition of data ready holds and data service begins, or Easy-all is entered with nothing to flush. -/
  | dataReady
  /-- SUSPECT_RELEASE (R418). The Custodian releases the Suspect tracts of a range, which become Mapped. -/
  | suspectRelease (req : Req) (first count : Nat)
  /-- SUSPECT_DISCARD (R418). The Custodian discards the Suspect tracts of a range, which are re-established with PZ = 1. -/
  | suspectDiscard (req : Req) (first count : Nat)
  /-- SUSPECT_LIST_READ (R418). A read of 0x3190.05 returns up to 32 Suspect tracts and moves the cursor past them. -/
  | suspectListRead (holder : Nat)
  /-- COX_RESET_RELEASE (R397). Cox leaves reset and the boot ROM invalidates caches, latches options, scans flags, and verifies and selects the image. -/
  | coxResetRelease (watchdog : Bool) (find : BootFind)
  /-- MANAGEMENT_READY (R412). The firmware reaches management ready and resumes deferred work, sessions and advertising. -/
  | managementReady
  /-- WATCHDOG_EXPIRY (R402). The watchdog expires: Cox is reset, kind 0x83 is reported, and orphan operation starts. -/
  | watchdogExpiry
  /-- ORPHAN_LIMIT (R405). The orphan timer reaches its limit, and kind 0x84 puts the module in Easy-all. -/
  | orphanLimit
  /-- FLASH_PROGRAM_DONE (R389). A boot flash word program ends. -/
  | flashProgramDone (ok : Bool)
  /-- FLASH_ERASE_DONE (R394). A sector erase verifies and its flag is cleared. -/
  | flashEraseDone (ok : Bool)
  /-- FLASH_SUSPEND (R392). A suspend request raises the suspend depth and stops the erase. -/
  | flashSuspend
  /-- FLASH_RESUME (R392). A resume lowers the suspend depth, and the erase runs again at depth 0. -/
  | flashResume
  /-- JOURNAL_COMPACTION (R390). With the live generation three quarters full, a full image is written to the other generation and the old one is erased. -/
  | journalCompaction
  /-- OPTIONS_WRITE (R396). An Operator write of 0x6010.00 erases the option sector and programs both option words. -/
  | optionsWrite (req : Req) (rollbackMin bpReset wdtBoot : Nat) (dbgLock t1sOff : Bool)
  /-- UPDATE_BEGIN (R399). A write of 0x6000.10 erases the inactive image's sectors for a new image. -/
  | updateBegin (req : Req) (len : Nat)
  /-- IMAGE_DATA (R401). Image data arrives by bulk transfer into 0x6001.00 and is programmed as it arrives. -/
  | imageData (offset : Nat) (data : List Byte)
  /-- IMAGE_SEGMENT (R401). A segment written to 0x6001.01 is programmed at its offset, or refused. -/
  | imageSegment (offset : Nat) (data : List Byte)
  /-- UPDATE_COMMIT (R399). A write of 0x6000.11 checks the digest and signature and programs the valid word. -/
  | updateCommit (req : Req) (digestOk signatureOk : Bool)
  /-- ACTIVATE (R400). A write of 0x6000.12 sets the trial and restarts Cox into the new image. -/
  | activate (req : Req)
  /-- TRIAL_CONFIRM (R400). The trial image has run for the confirm time and becomes active. -/
  | trialConfirm
  /-- PAGE_WRITE_DONE (R407). A parameter store page write ends and is verified by reading back. -/
  | pageWriteDone (verified : Bool)
  /-- OPERATING_TIME_CELL_WRITE (R410). Every 32.768 s the operating time is written into its next cell. -/
  | operatingTimeCellWrite
  /-- BLOCK_PROTECTION_WRITE (R408). The Custodian changes BP[1:0] between 0b01 and 0b10. -/
  | blockProtectionWrite (value : Nat)
  /-- CONFIG_OBJECT_WRITE (R310). An accepted write of an object that has no row of its own takes effect as its kind gives. -/
  | configObjectWrite (req : Req) (idx mem : Nat) (value : List Byte)
  /-- PERSIST_WRITE_DEFERRED_DONE (R311). A deferred persist write has stored both copies and its ticket reports Done. -/
  | persistWriteDeferredDone (slot : Nat)
  /-- NO_OPERATION (R314). Command 0x0001 completes with no effect. -/
  | noOperation (req : Req)
  /-- RESTORE_DEFAULTS (R315). Command 0x0002 writes the default of every persist object that the role may write, with the listed exceptions. -/
  | restoreDefaults (req : Req)
  /-- SANITIZE_EXTENTS (R316). Command 0x0010 sanitizes a range of extents, skipping those that hold a Suspect tract. -/
  | sanitizeExtents (req : Req) (first count : Nat)
  /-- LOGBOOK_WRITE_OUT (R326). Cox writes staged records to area C and area F, erasing ahead in area C. -/
  | logbookWriteOut (n : Nat)
  /-- STAGING_LOSS (R327). When the ring drains below half full after a loss, a staging-loss record is staged. -/
  | stagingLoss
  /-- WINDOW_READ (R335). A read of 0x4110.01 returns the record under the cursor, an overtaken marker, or nothing, and moves the cursor. -/
  | windowRead (holder : Nat)
  /-- AREA_F_CLEAR (R337). The Custodian clears area F; its sectors are erased and an area-F-cleared record is staged. -/
  | areaFClear (req : Req)
  /-- SNAPSHOT_DEFINITION_WRITE (R333). A snapshot definition is stored, or refused when an object it names is not allowed. -/
  | snapshotDefinitionWrite (defn trigger param : Nat) (objs : List ObjRef)
  /-- SNAPSHOT_NOW (R332). A write of 0x4121.00 fires a definition, or is refused when the definition is off. -/
  | snapshotNow (defn : Nat)
  /-- SNAPSHOT_PERIODIC (R332). The period of a periodic definition expires, and it fires. -/
  | snapshotPeriodic (defn : Nat)
  /-- TALLY_SAMPLE (R339). At each sample instant Tally latches every counter and makes a new snapshot active. -/
  | tallySample
  /-- BANDWIDTH_WINDOW_END (R341). At the end of a window the read and write rates of each port are computed. -/
  | bandwidthWindowEnd
  /-- SOLICIT (R290). A SOLICIT whose filter the module meets schedules one ADVERTISE answer. -/
  | solicit (dst : Option WopAddr) (filter first last : Nat)
  /-- ADVERTISE_ANSWER_TIMER (R290). The answer delay passes and the ADVERTISE is sent. -/
  | advertiseAnswerTimer
  /-- ADVERTISE_PERIOD (R290). Every advertise period an unsolicited ADVERTISE is sent. -/
  | advertisePeriod
  /-- ADVERTISE (R291). An ADVERTISE from another module is received, and a claim of the module's own pool address is a conflict. -/
  | advertise (serial pool : Nat) (valid : Bool)
  /-- OPEN (R294). An OPEN opens a session with a new number and nonce, or is refused. -/
  | openSession (dst : WopAddr) (role : Role) (seq manager nonce : Nat) (tagOk : Bool)
  /-- CLOSE (R294). A CLOSE closes the session. -/
  | close (dst : WopAddr) (sess seq : Nat)
  /-- READ (R296). A WOP READ reads one object, checked in the order of the status codes. -/
  | read (dst : WopAddr) (sess seq : Nat) (tagOk : Bool) (idx mem : Nat)
  /-- WRITE (R296). A WOP WRITE writes one object, immediately or deferred with a ticket. -/
  | write (dst : WopAddr) (sess seq : Nat) (tagOk : Bool) (idx mem : Nat) (value : List Byte)
  /-- READ_MULTI (R288). A READ_MULTI reads up to 16 objects, each at its own instant. -/
  | readMulti (dst : WopAddr) (sess seq : Nat) (tagOk : Bool) (items : List ObjRef)
  /-- BULK_START (R298). A BULK_START opens a bulk transfer with a window of 8 segments, or is refused. -/
  | bulkStart (dst : WopAddr) (sess seq : Nat) (tagOk : Bool) (idx mem : Nat) (fromModule : Bool) (total : Nat)
  /-- BULK_DATA (R298). A BULK_DATA segment is received, acknowledged per window, or discarded when already received. -/
  | bulkData (dst : WopAddr) (sess bulk offset : Nat) (data : List Byte)
  /-- BULK_ACK (R298). A BULK_ACK from the receiver advances the transfer from the module. -/
  | bulkAck (dst : WopAddr) (sess bulk next : Nat)
  /-- BULK_OUT_OF_ORDER_ACK (R298). 50 ms after an out-of-order segment, a BULK_ACK is sent. -/
  | bulkOutOfOrderAck (bulk : Nat)
  /-- BULK_TIMEOUT (R298). A transfer that sees no segment for 2 s is abandoned. -/
  | bulkTimeout (bulk : Nat)
  /-- SUBSCRIBE (R296). A SUBSCRIBE sets or clears a subscription slot of the session. -/
  | subscribe (dst : WopAddr) (sess seq : Nat) (tagOk : Bool) (slot : Nat) (kind : SubKind) (minMs idx mem mask : Nat)
  /-- SUBSCRIPTION_INTERVAL_END (R296). The minimum interval of a slot ends, and a held NOTIFY with its lost count is sent. -/
  | subscriptionIntervalEnd (sess slot : Nat)
  /-- KEEPALIVE (R288). A KEEPALIVE returns the idle timeout remaining. -/
  | keepalive (dst : WopAddr) (sess seq : Nat) (tagOk : Bool)
  /-- STRANGER_FRAME (R286). A frame that fails FCS, addressing, tag or sequence is dropped and counted. -/
  | strangerFrame (drop : FrameDrop)
  /-- ICMPV6_ECHO (R284). An ICMPv6 echo request is answered. -/
  | icmpv6Echo
  /-- NEIGHBOR_DISCOVERY (R284). A Neighbor Discovery message for the module's address is answered. -/
  | neighborDiscovery
  /-- SESSION_OPEN_TIMEOUT (R294). A session with no valid request within 5 s of its OPEN response is discarded. -/
  | sessionOpenTimeout (sess : Nat)
  /-- SESSION_IDLE_TIMEOUT (R294). A session idle for the idle timeout closes. -/
  | sessionIdleTimeout (sess : Nat)
  /-- CLOSE_SESSION (R294). A Custodian write of 0x1202.01 closes the named session. -/
  | closeSession (sess : Nat)
  /-- ROLE_KEY_WRITE (R295). A wrapped role key is unwrapped and set, closing the role's other sessions, or is refused. -/
  | roleKeyWrite (sess : Nat) (role : Role) (unwrapOk : Bool)
  /-- TAG_FAILURE_SECOND (R295). Once per second with WOP tag failures, one security event with the count is logged. -/
  | tagFailureSecond
  /-- POOL_ADDRESS_WRITE (R289). A write of 0x1101.00 sets the pool address, marks it valid, and clears the conflict. -/
  | poolAddressWrite (pool : Nat)
  /-- PLCA_MODE_WRITE (R285). A write of 0x1100.00 sets follower, coordinator or CSMA/CD within 100 ms. -/
  | plcaModeWrite (mode : Nat)
  /-- PLCA_BEACON_LOSS (R285). A follower with no beacon for 10 ms falls back to CSMA/CD. -/
  | plcaBeaconLoss
  /-- PLCA_BEACON (R285). A beacon is received and a fallen-back follower returns to PLCA. -/
  | plcaBeacon
  /-- T1S_PATH_FAILURE (R286). A failed PHY self-check, or no frame sent for 10 s while frames wait, gives kind 0x85. -/
  | t1sPathFailure (selfCheck : Bool)
  /-- MAILBOX_REPLY_EXPIRY (R299). A mailbox open reply not read within 5 s is discarded. -/
  | mailboxReplyExpiry (head : Nat)
  /-- BANK_CHARGED (R363). In Core start, the bank first reaches its 72.0 V charge voltage, and the first capacitance measurement is taken at once. -/
  | bankCharged
  /-- HALT_N_HIGH (R356). The HALT_N net rises past VIH once every driver, internal or on J6, has let go, and release is recognised and logged as power event 15. -/
  | haltNHigh
  /-- ROOT_REBUILD_COMPLETE (R237). At start, the rebuild of the pinned levels and root from the L3 halves ends, and the computed root is judged verified, unverified or mismatch. -/
  | rootRebuildComplete (digestEqual recordReads : Bool) (lostHalves : List Nat)
  /-- ERASE_MINIMUM_RUN_END (R392). A resumed erase has run for 500 µs, and a suspend request made in the meantime takes effect. -/
  | eraseMinimumRunEnd
  deriving DecidableEq, Repr

end Sys2Proof
end

