-- ==== Sys2Proof/Config.lean ====
section
/-! DEFINITION. What the spec leaves open, as constants without a body: nothing in Lean can evaluate them or prove a value of
them. AES-256 and the key derivation stand here too: the model fixes what they are applied to, not their values. -/

namespace Sys2Proof.Config

/-- A free value of a given draw (notes/assumptions/4.md). -/
opaque freeNat : Nat → Nat

/-- A free 64-bit value of a given draw: a TRIM register, a core register read through the bridge (notes/assumptions/4.md). -/
opaque freeWord : Nat → Word64

/-- A free line of a given draw: the content of cells that the spec leaves undefined (notes/assumptions/4.md). -/
opaque freeLine : Nat → Line

/-- A key of AES-256. -/
abbrev Key := BitVec 256

/-- The root key, generated at manufacture (09_integrity R207). -/
opaque rootKey : Key

/-- The key derivation of R207 (NIST SP 800-108, counter mode, AES-256-CMAC): key, label, bytes of the context. The spec names the standard
and gives no input layout (notes/assumptions/4.md). -/
opaque kdf : Key → List Nat → List Byte → Key

/-- The claim code of the claim card, 16 bytes (12_management R295). -/
opaque claimCode : Nat

/-- A role key that a wrapped write has set, of a given draw (12_management R295; notes/assumptions/4.md). -/
opaque roleKey : Nat → Key

/-- AES-256 (09_integrity R211; notes/assumptions/4.md). -/
opaque aes : Key → BitVec 128 → BitVec 128

/-- The MAC slot that a parent holds for a child at shipment: child level, child index (notes/assumptions/12.md). -/
opaque shipMac : Nat → Nat → Word64

/-- A line of a reserve tract as shipped: key tract × 16,384 + line (notes/assumptions/12.md). -/
opaque shipLine : Nat → Line

/-- The 80 check bits of a line's data, tag and metadata bits 95:80 (07 R168; the spec gives no generator polynomial; notes/assumptions/55.md). -/
opaque lineCheck : Line → Word64 → BitVec 16 → BitVec 80

/-- The 64 check bits of a granule header: 48 of the BCH code, 16 of the CRC (07 R167; the spec gives no polynomials;
notes/assumptions/55.md). -/
opaque headerCheck : BitVec 128 → BitVec 64

/-- The serial number 0x1000.02, fixed at manufacture (13). -/
opaque serial : Nat

/-- The identity values fixed at manufacture: hardware revision 0, firmware version 1, Edilo revision 2, boot ROM version 3,
manufacture date 4, MAC address 5 (13 objects). -/
opaque identity : Nat → Nat

/-- Nominal millivolts of a power domain (15 0x5020.01; the spec gives no figure). -/
opaque nominalMv : Nat → Nat

/-- Current of a power domain in mA at a given draw: a physical quantity (15 READ_I). -/
opaque domainMa : Nat → Nat → Nat

/-- Reads (slot 0) and writes (slot 1) of a staging part by a given operating time: accesses the spec does not enumerate
(14 R338, blocks 0x020–0x02F). -/
opaque sramAccesses : Nat → Nat → Nat → Nat

/-- Cache counts of 0x6200.00 by a given operating time: instruction hits 0, misses 1, data hits 2, misses 3, cycles stalled 4. -/
opaque cacheCounts : Nat → Nat → Nat

/-- The staging part that holds a line of the integrity cache, by the hash that the spec leaves open (09 R225). -/
opaque cachePart : Nat → Nat

/-- The hash of a node's level and index that places it in a set of the integrity cache (09 R225). -/
opaque cacheHash : Nat → Nat

/-- Calibration of the normalised capacitance: measured µF and bank temperature in 0.1 °C (15 R367). -/
opaque normalise : Nat → Int → Nat

end Sys2Proof.Config
end

