-- ==== Sys2Proof/Machine/Tab.lean ====
section
/-! DEFINITION. Sparse tables in one canonical form: a list of (key, value) pairs, keys strictly rising, no entry
equal to what an unlisted key reads as. Everything the hardware numbers (granules, tracts, extents, planes, registers
of the dictionary) is held in one of these, so that equal contents are equal data. -/

namespace Sys2Proof.Machine

/-- A sparse table: keys strictly rising, no entry equal to the default of its key. -/
abbrev Tab (α : Type) := List (Nat × α)

/-- The value at a key; `d k` is what an unlisted key reads as. -/
def Tab.get {α : Type} (d : Nat → α) (t : Tab α) (k : Nat) : α :=
  match t with
  | [] => d k
  | (j, v) :: r => if j = k then v else if k < j then d k else Tab.get d r k

/-- The value at a key of a table whose unlisted keys all read `d`. -/
def Tab.rd {α : Type} (d : α) (t : Tab α) (k : Nat) : α := Tab.get (fun _ => d) t k

/-- Remove a key. -/
def Tab.erase {α : Type} (t : Tab α) (k : Nat) : Tab α :=
  match t with
  | [] => []
  | (j, v) :: r => if j = k then Tab.erase r k else (j, v) :: Tab.erase r k

/-- Put a listed value at a key, keeping the keys rising. -/
def Tab.insert {α : Type} (t : Tab α) (k : Nat) (v : α) : Tab α :=
  match t with
  | [] => [(k, v)]
  | (j, w) :: r =>
    if j = k then (k, v) :: r else if k < j then (k, v) :: (j, w) :: r else (j, w) :: Tab.insert r k v

/-- Write a value; writing the default removes the entry. -/
def Tab.put {α : Type} [DecidableEq α] (d : Nat → α) (t : Tab α) (k : Nat) (v : α) : Tab α :=
  if v = d k then Tab.erase t k else Tab.insert t k v

/-- Write into a table whose unlisted keys all read `d`. -/
def Tab.set {α : Type} [DecidableEq α] (d : α) (t : Tab α) (k : Nat) (v : α) : Tab α :=
  Tab.put (fun _ => d) t k v

/-- Change the value at a key. -/
def Tab.mod {α : Type} [DecidableEq α] (d : α) (t : Tab α) (k : Nat) (f : α → α) : Tab α :=
  Tab.set d t k (f (Tab.rd d t k))

/-- The canonical form: keys strictly above `lo`, strictly rising, no entry equal to its default. -/
def Tab.wfFrom {α : Type} [DecidableEq α] (d : Nat → α) (lo : Nat) (t : Tab α) : Bool :=
  match t with
  | [] => true
  | (j, v) :: r => decide (lo ≤ j) && decide (v ≠ d j) && Tab.wfFrom d (j + 1) r

/-- The canonical form of a table. -/
def Tab.wf {α : Type} [DecidableEq α] (d : Nat → α) (t : Tab α) : Bool := Tab.wfFrom d 0 t

/-- Change every listed value, keeping the canonical form: an entry that comes to its default is removed. -/
def Tab.remap {α : Type} [DecidableEq α] (d : α) (f : Nat → α → α) (t : Tab α) : Tab α :=
  t.filterMap fun e => if f e.1 e.2 = d then none else some (e.1, f e.1 e.2)

/-- The listed keys whose value passes a test. -/
def Tab.keysWhere {α : Type} (p : α → Bool) (t : Tab α) : List Nat :=
  (t.filter (fun e => p e.2)).map Prod.fst

/-- How many listed values pass a test. -/
def Tab.countWhere {α : Type} (p : α → Bool) (t : Tab α) : Nat := (t.filter (fun e => p e.2)).length

/-- Insert a number into a strictly rising list. -/
def insertSorted (k : Nat) (l : List Nat) : List Nat :=
  match l with
  | [] => [k]
  | j :: r => if k = j then j :: r else if k < j then k :: j :: r else j :: insertSorted k r

/-- Insert each number of a list. -/
def insertAll (ks l : List Nat) : List Nat := ks.foldl (fun acc k => insertSorted k acc) l

/-- Remove a number from a list without repeats. -/
def removeNat (k : Nat) (l : List Nat) : List Nat := l.filter (fun j => decide (j ≠ k))

/-- The number at a place of a list, 0 past its end. -/
def nth (l : List Nat) (i : Nat) : Nat := l.getD i 0

/-- Change the number at a place of a list. -/
def modNth (l : List Nat) (i : Nat) (f : Nat → Nat) : List Nat := l.modify i f

/-- The places 0 … n-1 of a range that starts at `a`. -/
def range' (a n : Nat) : List Nat := List.range' a n

end Sys2Proof.Machine
end

