-- ==== Sys2Proof/Machine/Enc.lean ====
section
/-! DEFINITION. Bytes and fields: big-endian integers of object values (13 R305), bit fields of registers and of the fault
message. -/

namespace Sys2Proof.Machine

/-- The low byte of a number. -/
def byteOf (n : Nat) : Byte := BitVec.ofNat 8 n

/-- The `n` low bytes of a number, most significant first (R305). -/
def be (n v : Nat) : List Byte :=
  (List.range n).map fun i => byteOf (v / 2 ^ (8 * (n - 1 - i)))

/-- The `n` low bytes of a number, least significant first: the mailbox's own fields (R305). -/
def le (n v : Nat) : List Byte := (be n v).reverse

/-- The number that big-endian bytes spell. -/
def beVal (l : List Byte) : Nat := l.foldl (fun acc b => acc * 256 + b.toNat) 0

/-- Bytes `a … a+n-1` of a value as a number, zero past its end. -/
def fieldAt (l : List Byte) (a n : Nat) : Nat := beVal ((l.drop a).take n)

/-- A BOOL (R305). -/
def boolByte (b : Bool) : List Byte := [if b then 1 else 0]

/-- Zero bytes. -/
def zeros (n : Nat) : List Byte := List.replicate n 0

/-- A signed 32-bit field (S32). -/
def s32 (v : Int) : List Byte := be 4 ((v % 2 ^ 32).toNat)

/-- A signed field of 16 bits. -/
def s16 (v : Int) : Nat := (v % 2 ^ 16).toNat

/-- The signed number of a 32-bit field. -/
def s32Val (n : Nat) : Int := if n < 2 ^ 31 then (n : Int) else (n : Int) - 2 ^ 32

/-- A number cut to a width in bits. -/
def wrap (w n : Nat) : Nat := n % 2 ^ w

/-- A number held at the greatest value of a width (R340). -/
def saturate (w n : Nat) : Nat := if n < 2 ^ w then n else 2 ^ w - 1

/-- The number of a Boolean, for bit fields. -/
def bit (b : Bool) : Nat := if b then 1 else 0

/-- Test a bit of a number. -/
def testBit (n i : Nat) : Bool := n / 2 ^ i % 2 == 1

/-- The bits of an eight-bit mask that are set, rising. -/
def maskBits (mask : Nat) : List Nat := (List.range 8).filter fun i => testBit mask i

end Sys2Proof.Machine
end

