-- ==== Sys2Proof/Machine/Crypt.lean ====
section
/-! DEFINITION. The keys, the keystream, the tags and the MACs of the integrity engine (09 R207, R211, R216, R219, R226), over AES-256 and
the key derivation as constants without a body, and the CRCs of the spec's records (06 R153, 09 R226, 17 R409, R410). -/

namespace Sys2Proof.Machine

/-- A block of AES. -/
abbrev Block := BitVec 128

/-- A string of bytes as a number, its first byte most significant. -/
def bytesNat (l : List Byte) : Nat := l.foldl (fun a b => a * 256 + b.toNat) 0

/-- Byte i of a line. -/
def lineByte (l : Line) (i : Nat) : Byte := BitVec.ofNat 8 (l >>> (8 * i)).toNat

/-- 16-byte block j of a line, its first byte most significant, as AES and GHASH take blocks (notes/assumptions/81.md). -/
def blockOf (l : Line) (j : Nat) : Block := BitVec.ofNat 128 (bytesNat ((List.range 16).map fun i => lineByte l (16 * j + i)))

/-- Four blocks as a line, the inverse of `blockOf`. -/
def lineOfBlocks (f : Nat → Block) : Line :=
  (List.range 64).foldl (fun acc i => acc ||| (BitVec.ofNat 512 ((f (i / 16)).toNat / 2 ^ (8 * (15 - i % 16)) % 256) <<< (8 * i))) 0

/-! ## Keys (R207) -/

/-- The key of a region at a generation: label RGN, context region U8 and generation U32 (R207). -/
def regionKey (r g : Nat) : Config.Key :=
  Config.kdf Config.rootKey [0x52, 0x47, 0x4E] (be 1 r ++ be 4 g)

/-- The tree key: label TRE, context the tree generation U32 (R207). -/
def treeKey (gen : Nat) : Config.Key := Config.kdf Config.rootKey [0x54, 0x52, 0x45] (be 4 gen)

/-! ## Lines (R211, R216) -/

/-- The fields that fix a line's encryption, with their widths (R211): line number, major, minor, region. -/
def lineFields (r n major minor : Nat) : Nat :=
  n % 2 ^ 38 * 2 ^ 86 + major % 2 ^ 56 * 2 ^ 30 + minor % 2 ^ 7 * 2 ^ 23 + r % 2 ^ 6 * 2 ^ 17

/-- Keystream block b of a line (R211). -/
def ksBlock (r g n major minor b : Nat) : Block :=
  Config.aes (regionKey r g) (BitVec.ofNat 128 (b % 4 * 2 ^ 124 + lineFields r n major minor))

/-- The keystream of a line: region, key generation, line number, MAJOR, MINOR (R211). -/
def keystream (r g n major minor : Nat) : Line := lineOfBlocks (ksBlock r g n major minor)

/-- Multiplication in GF(2^128) with the polynomial of GHASH, the most significant bit being the coefficient of 1 (R216, R219). -/
def gfmul (x y : Block) : Block :=
  ((List.range 128).foldl (fun (a : Block × Block) i =>
    (if x.getMsbD i then a.1 ^^^ a.2 else a.1,
     if a.2.getLsbD 0 then (a.2 >>> 1) ^^^ ((0xE1 : Block) <<< 120) else a.2 >>> 1)) (0, y)).1

/-- GHASH of a list of blocks under a hash key (R216). -/
def ghash (h : Block) (l : List Block) : Block := l.foldl (fun acc x => gfmul (acc ^^^ x) h) 0

/-- The tag of a line: region, key generation, line number, MAJOR, MINOR, ciphertext (R216). -/
def lineTag (r g n major minor : Nat) (ct : Line) : Word64 :=
  let k := regionKey r g
  let h := Config.aes k (BitVec.ofNat 128 (2 * 2 ^ 126))
  let b : Block := BitVec.ofNat 128 (n % 2 ^ 38 * 2 ^ 88 + r % 2 ^ 6 * 2 ^ 82 + major % 2 ^ 56 * 2 ^ 26 + minor % 2 ^ 7 * 2 ^ 19)
  let pad := Config.aes k (BitVec.ofNat 128 (2 ^ 126 + lineFields r n major minor))
  BitVec.ofNat 64 ((ghash h [blockOf ct 0, blockOf ct 1, blockOf ct 2, blockOf ct 3, b] ^^^ pad) >>> 64).toNat

/-! ## Nodes (R219, R226) -/

/-- The factor of block j of a node (R219). -/
def nodeFactor (level index j : Nat) : Block :=
  BitVec.ofNat 128 (3 * 2 ^ 126 + level % 16 * 2 ^ 122 + index % 2 ^ 32 * 2 ^ 90 + j % 8 * 2 ^ 87)

/-- The MAC of a node: level, index, tree generation, the node's content (R219). -/
def nodeMac (level index gen : Nat) (x : Line) : Word64 :=
  let k := treeKey gen
  let l := Config.aes k (BitVec.ofNat 128 (3 * 2 ^ 126))
  let e := fun j => Config.aes k (blockOf x j ^^^ gfmul l (nodeFactor level index j))
  BitVec.ofNat 64 (Config.aes k (e 0 ^^^ e 1 ^^^ e 2 ^^^ e 3 ^^^ gfmul l (nodeFactor level index 4)) >>> 64).toNat

/-- Part p of the root register, padded with zero bytes (R226). -/
def rootPart (slots : List Word64) (p : Nat) : Line :=
  (List.range 8).foldl (fun acc c => acc ||| (BitVec.ofNat 512 (slots.getD (8 * p + c) 0).toNat <<< (64 * c))) 0

/-- The digest of the root register's 28 MACs (R226). -/
def rootDigest (gen : Nat) (slots : List Word64) : Word64 :=
  (List.range 4).foldl (fun acc p => acc ^^^ nodeMac 10 p gen (rootPart slots p)) 0

/-! ## AES-256-CMAC (12 R292; NIST SP 800-38B) -/

/-- A block doubled in GF(2^128), as the subkeys of CMAC are. -/
def cmacDouble (b : Block) : Block := if b.getLsbD 127 then (b <<< 1) ^^^ 0x87 else b <<< 1

/-- Bytes as a block, the first most significant, zeros after the last. -/
def padBlock (l : List Byte) : Block := BitVec.ofNat 128 (bytesNat ((l ++ zeros 16).take 16))

/-- The CMAC of a message under a key. -/
def cmac (k : Config.Key) (m : List Byte) : Block :=
  let k1 := cmacDouble (Config.aes k 0)
  let n := max 1 ((m.length + 15) / 16)
  let last := m.drop (16 * (n - 1))
  let tail := if last.length = 16 then padBlock last ^^^ k1 else padBlock (last ++ [0x80]) ^^^ cmacDouble k1
  Config.aes k ((List.range (n - 1)).foldl (fun acc i => Config.aes k (acc ^^^ padBlock (m.drop (16 * i)))) 0 ^^^ tail)

/-- The first 64 bits of a CMAC. -/
def cmacTag (k : Config.Key) (m : List Byte) : Word64 := BitVec.ofNat 64 (cmac k m >>> 64).toNat

/-! ## CRCs -/

/-- One bit of a CRC of width w with its polynomial, most significant bit first. -/
def crcBit (w poly acc : Nat) : Nat := if 2 ^ (w - 1) ≤ acc then (acc * 2 % 2 ^ w) ^^^ poly else acc * 2

/-- A CRC of width w, most significant bit first, from a start value. -/
def crcMsb (w poly start : Nat) (l : List Byte) : Nat :=
  l.foldl (fun acc b => (List.range 8).foldl (fun a _ => crcBit w poly a) (acc ^^^ (b.toNat * 2 ^ (w - 8)))) start

/-- CRC-64 with the polynomial of ECMA-182 (06 R153, 09 R226; start value and order of bits: notes/assumptions/82.md). -/
def crc64 (l : List Byte) : Nat := crcMsb 64 0x42F0E1EBA9EA3693 0 l

/-- One bit of the reflected CRC-32. -/
def crc32Bit (acc : Nat) : Nat := if acc % 2 = 1 then acc / 2 ^^^ 0xEDB88320 else acc / 2

/-- CRC-32 of IEEE 802.3 (17 R409; notes/assumptions/82.md). -/
def crc32 (l : List Byte) : Nat :=
  (l.foldl (fun acc b => (List.range 8).foldl (fun a _ => crc32Bit a) (acc ^^^ b.toNat)) 0xFFFFFFFF) ^^^ 0xFFFFFFFF

/-- CRC-8 with the polynomial 0x07 (15, 17 R410). -/
def crc8 (start : Nat) (l : List Byte) : Nat := crcMsb 8 0x07 start l

/-! ## The parameter store's pages (17 R409, R410) -/

/-- Bytes to the end of their last page. -/
def toPages (l : List Byte) : List Byte := l ++ zeros ((64 - l.length % 64) % 64)

/-- A copy of a record (R409): number, length, sequence, data, CRC-32, zero to the page end. -/
def recordCopy (number seq : Nat) (data : List Byte) : List Byte :=
  let l := be 2 number ++ be 2 data.length ++ be 4 seq ++ data
  toPages (l ++ be 4 (crc32 l))

/-- A cell's page (R410): a U64 and its CRC-8, zero to the page end. -/
def cellPage (v : Nat) : List Byte := toPages (be 8 v ++ be 1 (crc8 0 (be 8 v)))

end Sys2Proof.Machine
end

