-- ==== Sys2Proof/Machine/Dictionary.lean ====
section
/-! DEFINITION. The object dictionary: one row per object of the spec's object tables (00–18), its type, access, limits,
storage and flags, and the defaults of the objects whose default is not 0 (13_object_dictionary R302, R307, R313). -/

namespace Sys2Proof.Machine

/-- A row of the object tables (13 R302). A row may stand for several indices (0x2100+h) and several members (0x2140.rr). -/
structure ObjRow where
  /-- First index. -/
  idx : Nat
  /-- How many indices the row stands for. -/
  n : Nat
  /-- First member. -/
  mem : Nat
  /-- How many members the row stands for. -/
  m : Nat
  /-- Type code of R307. -/
  ty : Nat
  /-- Access: two bits per role, Observer in 7:6 down to Vendor in 1:0; 0 none, 1 R, 2 W, 3 RW (R313). -/
  acc : Nat
  /-- NV persist. -/
  persist : Bool
  /-- Maximum value length in bytes. -/
  len : Nat
  /-- Flags of R313: bit 0 deferred, 1 bulk, 2 mailbox only, 3 single instant, 4 Tally snapshot. -/
  flags : Nat
  /-- Least value a scalar may be written with. -/
  lo : Nat
  /-- Greatest value a scalar may be written with. -/
  hi : Nat
  /-- Only 0 may be written. -/
  zero : Bool
  /-- Core domain whose block the object reads or configures (R312), 255 for the keel island (notes/assumptions/20.md). -/
  dom : Nat
  deriving DecidableEq, Repr

/-- Rows 0–39 of the dictionary, in order of index and member. -/
def rows0 : List ObjRow :=
  [ ⟨0x1000, 1, 0x00, 1, 8, 0x55, true, 64, 0, 0, 0, false, 255⟩ /- Vendor -/
  , ⟨0x1000, 1, 0x01, 1, 8, 0x55, true, 64, 0, 0, 0, false, 255⟩ /- Part number -/
  , ⟨0x1000, 1, 0x02, 1, 4, 0x55, true, 8, 0, 0, 18446744073709551615, false, 255⟩ /- Serial number -/
  , ⟨0x1000, 1, 0x03, 1, 1, 0x55, true, 1, 0, 0, 255, false, 255⟩ /- Hardware revision -/
  , ⟨0x1000, 1, 0x04, 1, 3, 0x55, false, 4, 0, 0, 4294967295, false, 255⟩ /- Firmware version -/
  , ⟨0x1000, 1, 0x05, 1, 1, 0x55, true, 1, 0, 0, 255, false, 255⟩ /- Edilo revision -/
  , ⟨0x1000, 1, 0x06, 1, 3, 0x55, true, 4, 0, 0, 4294967295, false, 255⟩ /- Boot ROM version -/
  , ⟨0x1000, 1, 0x07, 1, 3, 0x55, true, 4, 0, 0, 4294967295, false, 255⟩ /- Manufacture date -/
  , ⟨0x1000, 1, 0x08, 1, 4, 0x55, true, 8, 0, 0, 18446744073709551615, false, 255⟩ /- User capacity -/
  , ⟨0x1000, 1, 0x09, 1, 2, 0x55, false, 2, 0, 0, 65535, false, 255⟩ /- Dictionary version -/
  , ⟨0x1000, 1, 0x0A, 1, 8, 0x7F, true, 64, 0, 0, 0, false, 255⟩ /- Module label -/
  , ⟨0x1001, 1, 0x00, 1, 2, 0xFF, false, 2, 0, 0, 65535, false, 255⟩ /- Directory selector -/
  , ⟨0x1001, 1, 0x01, 1, 10, 0x55, false, 10, 0, 0, 0, false, 255⟩ /- Directory entry -/
  , ⟨0x1001, 1, 0x02, 1, 2, 0x55, false, 2, 0, 0, 65535, false, 255⟩ /- Object count -/
  , ⟨0x1100, 1, 0x00, 1, 7, 0x7F, true, 1, 0, 0, 2, false, 255⟩ /- PLCA mode -/
  , ⟨0x1100, 1, 0x01, 1, 4, 0x55, true, 8, 0, 0, 18446744073709551615, false, 255⟩ /- MAC address -/
  , ⟨0x1100, 1, 0x02, 1, 1, 0x7F, true, 1, 0, 1, 255, false, 255⟩ /- PLCA node -/
  , ⟨0x1100, 1, 0x03, 1, 1, 0x7F, true, 1, 0, 2, 255, false, 255⟩ /- PLCA node count -/
  , ⟨0x1100, 1, 0x04, 1, 1, 0x7F, true, 1, 0, 16, 255, false, 255⟩ /- PLCA TO timer -/
  , ⟨0x1100, 1, 0x05, 1, 1, 0x7F, true, 1, 0, 0, 4, false, 255⟩ /- PLCA burst count -/
  , ⟨0x1100, 1, 0x06, 1, 7, 0x55, false, 1, 0, 0, 0, false, 255⟩ /- PLCA status -/
  , ⟨0x1100, 1, 0x07, 1, 10, 0x7F, false, 72, 0, 0, 0, true, 255⟩ /- Frame counts -/
  , ⟨0x1101, 1, 0x00, 1, 2, 0x7F, true, 2, 0, 0, 65535, false, 255⟩ /- Pool address -/
  , ⟨0x1101, 1, 0x01, 1, 6, 0x7F, true, 1, 0, 0, 1, false, 255⟩ /- Pool address valid -/
  , ⟨0x1101, 1, 0x02, 1, 6, 0x55, false, 1, 0, 0, 1, false, 255⟩ /- Pool address conflict -/
  , ⟨0x1101, 1, 0x03, 1, 2, 0x7F, true, 2, 0, 0, 3600, false, 255⟩ /- Advertise period -/
  , ⟨0x1102, 1, 0x00, 1, 1, 0x55, false, 1, 0, 0, 255, false, 255⟩ /- GA latched -/
  , ⟨0x1102, 1, 0x01, 1, 1, 0x55, false, 1, 0, 0, 255, false, 255⟩ /- GA pins -/
  , ⟨0x1102, 1, 0x02, 1, 6, 0x55, false, 1, 0, 0, 1, false, 255⟩ /- GA mismatch -/
  , ⟨0x1102, 1, 0x03, 1, 6, 0x7F, true, 1, 0, 0, 1, false, 255⟩ /- HALT_N on J6 -/
  , ⟨0x1102, 1, 0x04, 1, 2, 0x55, false, 2, 0, 0, 65535, false, 255⟩ /- Sideband status -/
  , ⟨0x1200, 1, 0x00, 1, 10, 0x55, true, 4, 0, 0, 0, false, 255⟩ /- Role key state -/
  , ⟨0x1201, 1, 0x00, 3, 9, 0x0A, true, 40, 0, 0, 0, false, 255⟩ /- Role key -/
  , ⟨0x1202, 1, 0x00, 1, 10, 0x55, false, 193, 0, 0, 0, false, 255⟩ /- Sessions -/
  , ⟨0x1202, 1, 0x01, 1, 2, 0x0A, false, 2, 0, 0, 65535, false, 255⟩ /- Close session -/
  , ⟨0x1202, 1, 0x02, 1, 3, 0x7F, true, 4, 0, 30, 86400, false, 255⟩ /- Idle timeout -/
  , ⟨0x1210, 1, 0x00, 1, 10, 0xAA, false, 20, 4, 0, 0, false, 255⟩ /- Mailbox open request -/
  , ⟨0x1210, 1, 0x01, 1, 10, 0x55, false, 28, 4, 0, 0, false, 255⟩ /- Mailbox open reply -/
  , ⟨0x2000, 4, 0x00, 1, 7, 0x7F, true, 1, 0, 0, 1, false, 1⟩ /- Bifurcation request -/
  , ⟨0x2000, 4, 0x01, 1, 7, 0x7F, true, 1, 0, 0, 1, false, 1⟩ /- Maximum rate -/ ]

/-- Rows 40–79 of the dictionary, in order of index and member. -/
def rows1 : List ObjRow :=
  [ ⟨0x2000, 4, 0x02, 1, 6, 0x7F, true, 1, 0, 0, 1, false, 1⟩ /- 256 B flit offered -/
  , ⟨0x2000, 4, 0x03, 1, 6, 0x5F, true, 1, 0, 0, 1, false, 1⟩ /- IDE required -/
  , ⟨0x2000, 4, 0x04, 1, 7, 0x55, false, 1, 0, 0, 0, false, 1⟩ /- Port state -/
  , ⟨0x2000, 4, 0x05, 1, 3, 0x7F, false, 4, 0, 0, 0, true, 1⟩ /- Recovery entries -/
  , ⟨0x2000, 4, 0x06, 1, 3, 0x7F, false, 4, 0, 0, 0, true, 1⟩ /- Correctable errors -/
  , ⟨0x2000, 4, 0x07, 1, 3, 0x55, true, 4, 0, 0, 4294967295, false, 1⟩ /- Link-down count -/
  , ⟨0x2000, 4, 0x08, 1, 7, 0x55, false, 1, 0, 0, 0, false, 1⟩ /- Mode in force -/
  , ⟨0x2010, 8, 0x00, 1, 3, 0x55, false, 4, 0, 0, 4294967295, false, 1⟩ /- Link status -/
  , ⟨0x2010, 8, 0x01, 1, 3, 0x55, false, 4, 0, 0, 4294967295, false, 1⟩ /- Bound status -/
  , ⟨0x2010, 8, 0x02, 1, 3, 0x55, false, 4, 0, 0, 4294967295, false, 1⟩ /- PERST_N count -/
  , ⟨0x2100, 8, 0x00, 1, 7, 0x55, false, 1, 0, 0, 0, false, 0⟩ /- Head state -/
  , ⟨0x2100, 8, 0x01, 1, 2, 0x7F, true, 2, 0, 64, 4096, false, 0⟩ /- In-flight cap -/
  , ⟨0x2100, 8, 0x02, 1, 6, 0x5F, true, 1, 0, 0, 1, false, 0⟩ /- Counters visible -/
  , ⟨0x2100, 8, 0x03, 1, 6, 0x5F, true, 1, 0, 0, 1, false, 0⟩ /- Host sanitize permitted -/
  , ⟨0x2100, 8, 0x04, 1, 1, 0x7F, false, 1, 0, 0, 1, false, 0⟩ /- Head reset -/
  , ⟨0x2100, 8, 0x05, 1, 2, 0x55, false, 2, 8, 0, 65535, false, 0⟩ /- Extents assigned -/
  , ⟨0x2100, 8, 0x06, 1, 3, 0x7F, false, 4, 0, 0, 0, true, 0⟩ /- Stray accesses -/
  , ⟨0x2100, 8, 0x07, 1, 3, 0x55, false, 4, 0, 0, 4294967295, false, 0⟩ /- Event queue drops -/
  , ⟨0x2100, 8, 0x08, 1, 4, 0x55, false, 8, 16, 0, 18446744073709551615, false, 0⟩ /- Reads completed -/
  , ⟨0x2100, 8, 0x09, 1, 3, 0x7F, false, 4, 0, 0, 0, true, 0⟩ /- Bound excursions -/
  , ⟨0x2100, 8, 0x0A, 1, 3, 0x7F, false, 4, 0, 0, 0, true, 0⟩ /- Reconstructed reads -/
  , ⟨0x2100, 8, 0x0B, 1, 2, 0x7F, false, 2, 0, 0, 0, true, 0⟩ /- Maximum read latency -/
  , ⟨0x2100, 8, 0x0C, 1, 10, 0x55, false, 32, 16, 0, 0, false, 0⟩ /- Latency histogram -/
  , ⟨0x2100, 8, 0x0D, 1, 4, 0x55, false, 8, 16, 0, 18446744073709551615, false, 0⟩ /- Writes completed -/
  , ⟨0x2100, 8, 0x0E, 1, 4, 0x55, false, 8, 16, 0, 18446744073709551615, false, 0⟩ /- Partial writes -/
  , ⟨0x2100, 8, 0x0F, 1, 2, 0x7F, false, 2, 0, 0, 0, true, 0⟩ /- Maximum write latency -/
  , ⟨0x2120, 1, 0x00, 1, 2, 0xFF, false, 2, 0, 0, 57343, false, 255⟩ /- Extent selector -/
  , ⟨0x2120, 1, 0x01, 1, 10, 0x55, false, 4, 8, 0, 0, false, 255⟩ /- Extent record -/
  , ⟨0x2121, 1, 0x00, 1, 10, 0x2A, false, 6, 1, 0, 0, false, 0⟩ /- Extent offer -/
  , ⟨0x2121, 1, 0x01, 1, 10, 0x2A, false, 6, 1, 0, 0, false, 0⟩ /- Extent release -/
  , ⟨0x2122, 1, 0x00, 1, 3, 0x7F, true, 4, 0, 1000, 600000, false, 255⟩ /- Offer timeout -/
  , ⟨0x2140, 1, 0x00, 64, 10, 0x5F, true, 8, 0, 0, 0, false, 3⟩ /- Region rr -/
  , ⟨0x3000, 1, 0x00, 1, 1, 0x7F, true, 1, 0, 4, 60, false, 5⟩ /- Check threshold -/
  , ⟨0x3000, 1, 0x01, 1, 1, 0x7F, true, 1, 0, 1, 16, false, 5⟩ /- Burst limit -/
  , ⟨0x3000, 1, 0x02, 1, 2, 0x7F, true, 2, 0, 576, 2304, false, 5⟩ /- Program cap -/
  , ⟨0x3000, 1, 0x03, 1, 2, 0x55, false, 2, 8, 0, 65535, false, 5⟩ /- Programs in progress -/
  , ⟨0x3000, 1, 0x04, 1, 2, 0x55, false, 2, 8, 0, 65535, false, 5⟩ /- Limit in force -/
  , ⟨0x3000, 1, 0x05, 1, 4, 0x55, false, 8, 16, 0, 18446744073709551615, false, 5⟩ /- Checks -/
  , ⟨0x3000, 1, 0x06, 1, 4, 0x55, false, 8, 16, 0, 18446744073709551615, false, 5⟩ /- Checks with wear -/
  , ⟨0x3000, 1, 0x07, 1, 1, 0x7F, true, 1, 0, 0, 12, false, 5⟩ /- Engine slot limit -/ ]

/-- Rows 80–119 of the dictionary, in order of index and member. -/
def rows2 : List ObjRow :=
  [ ⟨0x3000, 1, 0x08, 1, 3, 0x55, true, 4, 0, 0, 4294967295, false, 255⟩ /- Program failures -/
  , ⟨0x3010, 36, 0x00, 1, 7, 0x55, false, 1, 8, 0, 0, false, 5⟩ /- Channel state -/
  , ⟨0x3010, 36, 0x01, 1, 4, 0x55, false, 8, 16, 0, 18446744073709551615, false, 5⟩ /- Lines transferred -/
  , ⟨0x3010, 36, 0x02, 1, 4, 0x55, false, 8, 16, 0, 18446744073709551615, false, 5⟩ /- Checks -/
  , ⟨0x3010, 36, 0x03, 1, 2, 0x7F, false, 2, 0, 0, 0, true, 5⟩ /- Maximum read queue -/
  , ⟨0x3010, 36, 0x04, 1, 1, 0x55, true, 1, 0, 0, 255, false, 255⟩ /- Bad granules -/
  , ⟨0x3010, 36, 0x05, 1, 5, 0x55, false, 4, 8, 0, 0, false, 5⟩ /- Timing tracking -/
  , ⟨0x3010, 36, 0x06, 1, 3, 0x7F, false, 4, 0, 0, 0, true, 5⟩ /- Command parity errors -/
  , ⟨0x3040, 1, 0x00, 1, 2, 0xFF, false, 2, 0, 0, 575, false, 255⟩ /- Die selector -/
  , ⟨0x3040, 1, 0x01, 1, 10, 0x55, false, 59, 24, 0, 0, false, 5⟩ /- Die record -/
  , ⟨0x3100, 1, 0x00, 1, 3, 0x7F, true, 4, 0, 16384, 126976, false, 2⟩ /- Rotation quantum -/
  , ⟨0x3100, 1, 0x01, 1, 1, 0x7F, true, 1, 0, 1, 63, false, 2⟩ /- Read-disturb threshold -/
  , ⟨0x3100, 1, 0x02, 1, 2, 0x7F, true, 2, 0, 7, 60, false, 2⟩ /- Refresh age -/
  , ⟨0x3100, 1, 0x03, 1, 1, 0x7F, true, 1, 0, 1, 31, false, 2⟩ /- Hot threshold -/
  , ⟨0x3100, 1, 0x04, 1, 1, 0x7F, true, 1, 0, 0, 30, false, 2⟩ /- Cold threshold -/
  , ⟨0x3100, 1, 0x05, 1, 2, 0x7F, true, 2, 0, 256, 16384, false, 2⟩ /- Levelling spread -/
  , ⟨0x3100, 1, 0x06, 1, 1, 0x7F, true, 1, 0, 1, 64, false, 2⟩ /- Concurrent migrations -/
  , ⟨0x3100, 1, 0x07, 1, 1, 0x55, false, 1, 0, 0, 255, false, 2⟩ /- Migrations in progress -/
  , ⟨0x3100, 1, 0x08, 1, 10, 0x55, false, 40, 16, 0, 0, false, 2⟩ /- Migrations completed -/
  , ⟨0x3100, 1, 0x09, 1, 3, 0x7F, false, 4, 0, 0, 0, true, 2⟩ /- Migrations abandoned -/
  , ⟨0x3100, 1, 0x0A, 1, 10, 0x55, false, 9, 8, 0, 0, false, 2⟩ /- Free tracts -/
  , ⟨0x3100, 1, 0x0B, 1, 3, 0x55, true, 4, 0, 0, 4294967295, false, 255⟩ /- Retired tracts -/
  , ⟨0x3100, 1, 0x0C, 1, 10, 0x55, false, 6, 16, 0, 0, false, 2⟩ /- Module wear -/
  , ⟨0x3100, 1, 0x0D, 1, 4, 0x55, false, 8, 16, 0, 18446744073709551615, false, 2⟩ /- Granules refreshed -/
  , ⟨0x3100, 1, 0x0E, 1, 3, 0x55, false, 4, 0, 0, 4294967295, false, 2⟩ /- Sweep progress -/
  , ⟨0x3100, 1, 0x0F, 1, 10, 0x55, true, 24, 0, 0, 0, false, 255⟩ /- Last full scan -/
  , ⟨0x3110, 1, 0x00, 1, 3, 0xFF, false, 4, 0, 0, 16777215, false, 255⟩ /- Tract selector -/
  , ⟨0x3110, 1, 0x01, 1, 10, 0x55, false, 9, 8, 0, 0, false, 2⟩ /- Tract record -/
  , ⟨0x3180, 1, 0x00, 1, 3, 0x7F, true, 4, 0, 0, 4294967295, false, 9⟩ /- High-water mark -/
  , ⟨0x3180, 1, 0x01, 1, 3, 0x7F, true, 4, 0, 0, 4294967295, false, 9⟩ /- Low-water mark -/
  , ⟨0x3180, 1, 0x02, 1, 3, 0x7F, true, 4, 0, 0, 1000, false, 9⟩ /- Coalescing delay -/
  , ⟨0x3180, 1, 0x03, 1, 10, 0x55, false, 32, 8, 0, 0, false, 9⟩ /- Pair occupancy -/
  , ⟨0x3180, 1, 0x04, 1, 3, 0x55, false, 4, 8, 0, 4294967295, false, 9⟩ /- Dirty tracts -/
  , ⟨0x3180, 1, 0x05, 1, 3, 0x55, false, 4, 0, 0, 4294967295, false, 9⟩ /- Ledger sequence -/
  , ⟨0x3180, 1, 0x06, 1, 3, 0x7F, false, 4, 0, 0, 0, true, 9⟩ /- Starved drain units -/
  , ⟨0x3180, 1, 0x07, 1, 1, 0x55, false, 1, 0, 0, 255, false, 9⟩ /- Single-member pairs -/
  , ⟨0x3180, 1, 0x08, 1, 7, 0x55, true, 1, 0, 0, 0, false, 255⟩ /- Last shutdown -/
  , ⟨0x3180, 1, 0x09, 1, 3, 0x55, true, 4, 0, 0, 4294967295, false, 255⟩ /- Suspect tracts -/
  , ⟨0x3180, 1, 0x0A, 1, 7, 0x55, true, 1, 0, 0, 0, false, 255⟩ /- Host shutdown state -/
  , ⟨0x3180, 1, 0x0B, 1, 3, 0x7F, true, 4, 0, 100, 100000, false, 9⟩ /- Starvation threshold -/ ]

/-- Rows 120–159 of the dictionary, in order of index and member. -/
def rows3 : List ObjRow :=
  [ ⟨0x3180, 1, 0x0C, 1, 3, 0x55, true, 4, 0, 0, 4294967295, false, 255⟩ /- Dirty shutdown count -/
  , ⟨0x3180, 1, 0x0D, 1, 3, 0x55, false, 4, 8, 0, 4294967295, false, 9⟩ /- Flush cost -/
  , ⟨0x3190, 1, 0x00, 1, 7, 0x55, false, 1, 0, 0, 0, false, 255⟩ /- Review state -/
  , ⟨0x3190, 1, 0x01, 1, 7, 0x5F, true, 1, 0, 0, 2, false, 255⟩ /- Review policy -/
  , ⟨0x3190, 1, 0x02, 1, 10, 0x0A, false, 9, 1, 0, 0, false, 2⟩ /- Suspect decision -/
  , ⟨0x3190, 1, 0x03, 1, 10, 0x55, true, 16, 0, 0, 0, false, 255⟩ /- Decisions made -/
  , ⟨0x3190, 1, 0x04, 1, 3, 0xFF, false, 4, 0, 0, 4294967295, false, 255⟩ /- Suspect cursor -/
  , ⟨0x3190, 1, 0x05, 1, 10, 0x55, false, 129, 0, 0, 0, false, 2⟩ /- Suspect list -/
  , ⟨0x3200, 1, 0x00, 1, 7, 0x55, false, 1, 0, 0, 0, false, 3⟩ /- Root state -/
  , ⟨0x3200, 1, 0x01, 1, 7, 0x5F, true, 1, 0, 0, 1, false, 3⟩ /- Root policy -/
  , ⟨0x3200, 1, 0x02, 1, 7, 0x0A, false, 1, 1, 1, 2, false, 3⟩ /- Root decision -/
  , ⟨0x3200, 1, 0x03, 1, 3, 0x55, true, 4, 0, 0, 4294967295, false, 255⟩ /- Security alarms -/
  , ⟨0x3200, 1, 0x04, 1, 3, 0x55, true, 4, 0, 0, 4294967295, false, 255⟩ /- Tag failures -/
  , ⟨0x3200, 1, 0x05, 1, 3, 0x55, true, 4, 0, 0, 4294967295, false, 255⟩ /- Nodes recovered -/
  , ⟨0x3200, 1, 0x06, 1, 3, 0x55, true, 4, 0, 0, 4294967295, false, 255⟩ /- Tracts re-established -/
  , ⟨0x3200, 1, 0x07, 1, 10, 0x55, false, 24, 16, 0, 0, false, 3⟩ /- Cache activity -/
  , ⟨0x3200, 1, 0x08, 1, 4, 0x55, true, 8, 0, 0, 18446744073709551615, false, 255⟩ /- Counter overflows -/
  , ⟨0x3200, 1, 0x09, 1, 4, 0x55, true, 8, 0, 0, 18446744073709551615, false, 255⟩ /- Major reservation -/
  , ⟨0x3200, 1, 0x0A, 1, 3, 0x7F, true, 4, 0, 0, 100000, false, 3⟩ /- Node hold time -/
  , ⟨0x3200, 1, 0x0B, 1, 3, 0x5F, true, 4, 0, 1000, 100000, false, 3⟩ /- Re-key rate -/
  , ⟨0x3200, 1, 0x0C, 1, 3, 0x55, true, 4, 0, 0, 4294967295, false, 255⟩ /- Tree generation -/
  , ⟨0x3201, 1, 0x00, 1, 1, 0x0A, false, 1, 1, 0, 63, false, 3⟩ /- Re-key request -/
  , ⟨0x3201, 1, 0x01, 1, 10, 0x55, true, 6, 0, 0, 0, false, 255⟩ /- Re-key status -/
  , ⟨0x3240, 1, 0x00, 4, 10, 0x5F, false, 24, 0, 0, 0, false, 3⟩ /- Debug window ww -/
  , ⟨0x3300, 1, 0x00, 1, 1, 0x7F, true, 1, 0, 1, 7, false, 4⟩ /- Rewrite threshold -/
  , ⟨0x3300, 1, 0x01, 1, 2, 0x7F, true, 2, 0, 0, 60, false, 4⟩ /- Patrol period -/
  , ⟨0x3300, 1, 0x02, 1, 3, 0x7F, true, 4, 0, 100, 20000, false, 4⟩ /- Scrub rate -/
  , ⟨0x3300, 1, 0x03, 1, 10, 0x55, false, 52, 16, 0, 0, false, 4⟩ /- Line ECC counts -/
  , ⟨0x3300, 1, 0x04, 1, 3, 0x55, true, 4, 0, 0, 4294967295, false, 255⟩ /- Header repairs -/
  , ⟨0x3300, 1, 0x05, 1, 10, 0x55, false, 23, 0, 0, 0, false, 255⟩ /- Self-test result -/
  , ⟨0x3300, 1, 0x06, 1, 3, 0x55, false, 4, 0, 0, 4294967295, false, 4⟩ /- Patrol progress -/
  , ⟨0x3301, 1, 0x00, 1, 10, 0x2A, false, 24, 1, 0, 0, false, 11⟩ /- Scrub request -/
  , ⟨0x3301, 1, 0x01, 1, 3, 0x2A, false, 4, 0, 0, 4294967295, false, 11⟩ /- Scrub cancel -/
  , ⟨0x3301, 1, 0x02, 1, 1, 0x55, false, 1, 8, 0, 255, false, 11⟩ /- Scrub passes running -/
  , ⟨0x3310, 4, 0x00, 1, 10, 0x55, true, 23, 0, 0, 0, false, 255⟩ /- Rebuild status -/
  , ⟨0x3320, 1, 0x00, 1, 10, 0x55, false, 96, 0, 0, 0, false, 255⟩ /- Staging SRAM ECC -/
  , ⟨0x3320, 1, 0x01, 1, 10, 0x55, false, 8, 0, 0, 0, false, 255⟩ /- Keel SRAM ECC -/
  , ⟨0x4000, 1, 0x00, 1, 4, 0x55, false, 8, 16, 0, 18446744073709551615, false, 255⟩ /- Messages -/
  , ⟨0x4000, 1, 0x01, 1, 4, 0x55, true, 8, 0, 0, 18446744073709551615, false, 255⟩ /- C0 messages -/
  , ⟨0x4000, 1, 0x02, 1, 4, 0x55, true, 8, 0, 0, 18446744073709551615, false, 255⟩ /- C1 messages -/ ]

/-- Rows 160–199 of the dictionary, in order of index and member. -/
def rows4 : List ObjRow :=
  [ ⟨0x4000, 1, 0x03, 1, 4, 0x55, true, 8, 0, 0, 18446744073709551615, false, 255⟩ /- C2 messages -/
  , ⟨0x4000, 1, 0x04, 1, 4, 0x55, true, 8, 0, 0, 18446744073709551615, false, 255⟩ /- C3 messages -/
  , ⟨0x4000, 1, 0x10, 1, 3, 0x7F, false, 4, 0, 0, 0, true, 255⟩ /- Fault queue overflow -/
  , ⟨0x4000, 1, 0x11, 1, 2, 0x7F, false, 2, 0, 0, 0, true, 255⟩ /- Queue high mark -/
  , ⟨0x4001, 1, 0x00, 6, 10, 0x7F, true, 3, 0, 0, 0, false, 255⟩ /- Reaction -/
  , ⟨0x4002, 1, 0x00, 1, 3, 0x7F, true, 4, 0, 10, 86400, false, 255⟩ /- Quiet period -/
  , ⟨0x4003, 1, 0x00, 1, 10, 0x2A, false, 3, 1, 0, 0, false, 255⟩ /- Fence command -/
  , ⟨0x4003, 1, 0x01, 1, 2, 0x0A, false, 2, 1, 0, 65535, false, 255⟩ /- Latch release -/
  , ⟨0x4010, 1, 0x00, 16, 4, 0x7F, true, 8, 0, 0, 18446744073709551615, false, 255⟩ /- Sticky bits -/
  , ⟨0x4020, 1, 0x00, 1, 2, 0xFF, false, 2, 0, 0, 1023, false, 255⟩ /- Source selector -/
  , ⟨0x4020, 1, 0x01, 1, 10, 0x55, false, 24, 8, 0, 0, false, 255⟩ /- Source record -/
  , ⟨0x4030, 1, 0x00, 1, 10, 0x55, false, 130, 8, 0, 0, false, 255⟩ /- Fenced units -/
  , ⟨0x4040, 1, 0x00, 1, 7, 0x55, false, 1, 0, 0, 0, false, 255⟩ /- Easy-all state -/
  , ⟨0x4040, 1, 0x01, 1, 1, 0x55, false, 1, 0, 0, 255, false, 255⟩ /- Easy-all causes -/
  , ⟨0x4040, 1, 0x02, 1, 7, 0x2A, false, 1, 1, 1, 2, false, 255⟩ /- Easy-all command -/
  , ⟨0x4040, 1, 0x03, 1, 3, 0x55, true, 4, 0, 0, 4294967295, false, 255⟩ /- Easy-all entries -/
  , ⟨0x4040, 1, 0x04, 1, 10, 0x55, true, 20, 0, 0, 0, false, 255⟩ /- Last C3 -/
  , ⟨0x4100, 1, 0x00, 1, 3, 0x55, false, 4, 8, 0, 4294967295, false, 255⟩ /- Staging occupancy -/
  , ⟨0x4100, 1, 0x01, 1, 3, 0x7F, false, 4, 0, 0, 0, true, 255⟩ /- Records not staged -/
  , ⟨0x4100, 1, 0x03, 1, 1, 0x0A, false, 1, 1, 1, 1, false, 255⟩ /- Area F clear -/
  , ⟨0x4110, 1, 0x00, 1, 10, 0xFF, false, 8, 0, 0, 0, false, 255⟩ /- Cursor -/
  , ⟨0x4110, 1, 0x01, 1, 9, 0x55, false, 256, 0, 0, 0, false, 255⟩ /- Window -/
  , ⟨0x4110, 1, 0x02, 1, 10, 0x55, false, 22, 8, 0, 0, false, 255⟩ /- Fence -/
  , ⟨0x4120, 1, 0x00, 4, 10, 0x7F, true, 105, 0, 0, 0, false, 255⟩ /- Snapshot definition -/
  , ⟨0x4121, 1, 0x00, 1, 1, 0x2A, false, 1, 0, 0, 3, false, 255⟩ /- Snapshot now -/
  , ⟨0x4121, 1, 0x01, 1, 3, 0x7F, false, 4, 0, 0, 0, true, 255⟩ /- Trigger overruns -/
  , ⟨0x4200, 1, 0x00, 1, 2, 0x7F, true, 2, 0, 1, 100, false, 255⟩ /- Sample period -/
  , ⟨0x4200, 1, 0x01, 1, 2, 0x7F, true, 2, 0, 1, 10000, false, 255⟩ /- Bandwidth window -/
  , ⟨0x4200, 1, 0x02, 1, 10, 0x55, false, 20, 0, 0, 0, false, 255⟩ /- Snapshot header -/
  , ⟨0x4200, 1, 0x03, 1, 10, 0x55, false, 72, 0, 0, 0, false, 255⟩ /- Port bandwidth -/
  , ⟨0x4200, 1, 0x04, 1, 9, 0x55, false, 65535, 2, 0, 0, false, 255⟩ /- Snapshot -/
  , ⟨0x4201, 1, 0x00, 1, 2, 0xFF, false, 2, 0, 0, 1599, false, 255⟩ /- Block selector -/
  , ⟨0x4201, 1, 0x01, 1, 10, 0x55, false, 74, 0, 0, 0, false, 255⟩ /- Block counters -/
  , ⟨0x5000, 1, 0x00, 1, 7, 0x55, false, 1, 0, 0, 0, false, 255⟩ /- Sequencer state -/
  , ⟨0x5000, 1, 0x01, 1, 1, 0x55, false, 1, 8, 0, 255, false, 255⟩ /- Step -/
  , ⟨0x5000, 1, 0x02, 1, 2, 0x7F, true, 2, 0, 500, 20000, false, 255⟩ /- Qualification window -/
  , ⟨0x5000, 1, 0x03, 1, 2, 0x7F, true, 2, 0, 10, 500, false, 255⟩ /- Step timeout -/
  , ⟨0x5010, 1, 0x00, 1, 10, 0x55, true, 14, 0, 0, 0, false, 255⟩ /- Power latch -/
  , ⟨0x5010, 1, 0x01, 1, 1, 0x2A, false, 1, 1, 1, 1, false, 255⟩ /- Latch clear -/
  , ⟨0x5020, 1, 0x00, 1, 1, 0xFF, false, 1, 0, 0, 175, false, 255⟩ /- Domain selector -/ ]

/-- Rows 200–239 of the dictionary, in order of index and member. -/
def rows5 : List ObjRow :=
  [ ⟨0x5020, 1, 0x01, 1, 10, 0x55, false, 22, 8, 0, 0, false, 255⟩ /- Domain record -/
  , ⟨0x5030, 1, 0x00, 1, 6, 0x7F, false, 1, 0, 0, 1, false, 255⟩ /- Margining enable -/
  , ⟨0x5030, 1, 0x01, 1, 10, 0x2A, false, 5, 0, 0, 0, false, 255⟩ /- Margin request -/
  , ⟨0x5040, 1, 0x00, 1, 3, 0x55, false, 4, 8, 0, 4294967295, false, 255⟩ /- Bank voltage -/
  , ⟨0x5040, 1, 0x01, 1, 7, 0x55, false, 1, 0, 0, 0, false, 255⟩ /- Bank state -/
  , ⟨0x5040, 1, 0x02, 1, 10, 0x55, true, 24, 0, 0, 0, false, 255⟩ /- Last measurement -/
  , ⟨0x5040, 1, 0x03, 1, 2, 0x7F, true, 2, 0, 1, 168, false, 255⟩ /- Measurement period -/
  , ⟨0x5040, 1, 0x04, 1, 1, 0x2A, false, 1, 1, 1, 1, false, 255⟩ /- Measure now -/
  , ⟨0x5040, 1, 0x05, 1, 6, 0x5F, true, 1, 0, 0, 1, false, 255⟩ /- Serve without hold-up -/
  , ⟨0x5040, 1, 0x06, 1, 10, 0x55, true, 16, 0, 0, 0, false, 255⟩ /- Last flush on the bank -/
  , ⟨0x5050, 1, 0x00, 1, 10, 0x7F, false, 20, 0, 0, 0, true, 255⟩ /- Seat bus counts -/
  , ⟨0x5050, 1, 0x01, 1, 10, 0x55, false, 8, 8, 0, 0, false, 255⟩ /- Seat states -/
  , ⟨0x5060, 1, 0x00, 1, 10, 0x55, true, 14, 0, 0, 0, false, 255⟩ /- HALT_N assertions -/
  , ⟨0x5080, 1, 0x00, 1, 3, 0x55, false, 4, 8, 0, 4294967295, false, 255⟩ /- Input voltage -/
  , ⟨0x5080, 1, 0x01, 1, 3, 0x55, false, 4, 0, 0, 4294967295, false, 255⟩ /- Input current -/
  , ⟨0x5080, 1, 0x02, 1, 3, 0x55, false, 4, 0, 0, 4294967295, false, 255⟩ /- Input power -/
  , ⟨0x5080, 1, 0x03, 1, 3, 0x7F, false, 4, 0, 0, 0, true, 255⟩ /- Peak input power -/
  , ⟨0x5080, 1, 0x04, 1, 7, 0x55, false, 1, 0, 0, 0, false, 255⟩ /- Power state -/
  , ⟨0x5080, 1, 0x05, 1, 10, 0x55, false, 8, 0, 0, 0, false, 255⟩ /- Pair currents -/
  , ⟨0x5080, 1, 0x06, 1, 3, 0x55, true, 4, 0, 0, 4294967295, false, 255⟩ /- Input loss count -/
  , ⟨0x5080, 1, 0x07, 1, 3, 0x55, true, 4, 0, 0, 4294967295, false, 255⟩ /- Breaker trip count -/
  , ⟨0x5080, 1, 0x08, 1, 7, 0x7F, false, 1, 0, 0, 1, false, 255⟩ /- Core power request -/
  , ⟨0x5080, 1, 0x09, 1, 7, 0x7F, true, 1, 0, 0, 1, false, 255⟩ /- Core power at start -/
  , ⟨0x5080, 1, 0x0A, 1, 3, 0x7F, false, 4, 0, 0, 0, true, 255⟩ /- Short-dip count -/
  , ⟨0x5090, 1, 0x00, 1, 7, 0x55, false, 1, 8, 0, 0, false, 255⟩ /- Start phase -/
  , ⟨0x5090, 1, 0x01, 1, 10, 0x55, true, 35, 0, 0, 0, false, 255⟩ /- Last start -/
  , ⟨0x5100, 1, 0x00, 1, 7, 0x55, false, 1, 8, 0, 0, false, 255⟩ /- Thermal level -/
  , ⟨0x5100, 1, 0x01, 1, 1, 0xFF, false, 1, 0, 0, 43, false, 255⟩ /- Input selector -/
  , ⟨0x5100, 1, 0x02, 1, 10, 0x55, false, 14, 8, 0, 0, false, 255⟩ /- Input record -/
  , ⟨0x5100, 1, 0x03, 1, 10, 0x55, false, 9, 8, 0, 0, false, 255⟩ /- Hottest input -/
  , ⟨0x5100, 1, 0x04, 1, 10, 0x55, true, 40, 0, 0, 0, false, 255⟩ /- Time at levels -/
  , ⟨0x5101, 1, 0x00, 1, 2, 0x7F, true, 2, 0, 576, 2304, false, 255⟩ /- T1 program limit -/
  , ⟨0x5101, 1, 0x01, 1, 1, 0x7F, true, 1, 0, 2, 16, false, 255⟩ /- T2 engine divider -/
  , ⟨0x5101, 1, 0x02, 1, 1, 0x7F, true, 1, 0, 10, 90, false, 255⟩ /- T3 read pacing -/
  , ⟨0x5110, 1, 0x00, 5, 10, 0x7F, true, 18, 0, 0, 0, false, 255⟩ /- Limits -/
  , ⟨0x5200, 1, 0x00, 1, 7, 0x55, false, 1, 0, 0, 0, false, 255⟩ /- Health state -/
  , ⟨0x5200, 1, 0x01, 1, 1, 0x55, false, 1, 0, 0, 255, false, 255⟩ /- Life used -/
  , ⟨0x5200, 1, 0x02, 1, 10, 0x55, false, 8, 0, 0, 0, false, 255⟩ /- Media wear -/
  , ⟨0x5200, 1, 0x03, 1, 10, 0x55, true, 22, 0, 0, 0, false, 255⟩ /- Hold-up ageing -/
  , ⟨0x5200, 1, 0x04, 1, 10, 0x55, false, 13, 0, 0, 0, false, 255⟩ /- End of life -/ ]

/-- Rows 240–275 of the dictionary, in order of index and member. -/
def rows6 : List ObjRow :=
  [ ⟨0x5200, 1, 0x05, 1, 10, 0x55, false, 9, 0, 0, 0, false, 255⟩ /- Spares -/
  , ⟨0x5200, 1, 0x06, 1, 10, 0x7F, true, 6, 0, 0, 0, false, 255⟩ /- Health thresholds -/
  , ⟨0x5200, 1, 0x07, 1, 10, 0x55, false, 6, 0, 0, 0, false, 255⟩ /- Indicator states -/
  , ⟨0x6000, 1, 0x00, 1, 7, 0x55, true, 1, 0, 0, 0, false, 255⟩ /- Active image -/
  , ⟨0x6000, 1, 0x01, 1, 10, 0x55, true, 4, 0, 0, 0, false, 255⟩ /- Trial -/
  , ⟨0x6000, 1, 0x02, 1, 10, 0x55, false, 10, 0, 0, 0, false, 255⟩ /- Image A -/
  , ⟨0x6000, 1, 0x03, 1, 10, 0x55, false, 10, 0, 0, 0, false, 255⟩ /- Image B -/
  , ⟨0x6000, 1, 0x04, 1, 2, 0x7F, true, 2, 0, 10, 3600, false, 255⟩ /- Confirm time -/
  , ⟨0x6000, 1, 0x05, 1, 10, 0x55, false, 8, 8, 0, 0, false, 255⟩ /- Flash status -/
  , ⟨0x6000, 1, 0x06, 1, 10, 0x55, true, 28, 0, 0, 0, false, 255⟩ /- Flash counts -/
  , ⟨0x6000, 1, 0x10, 1, 3, 0x2A, false, 4, 1, 0, 4294967295, false, 255⟩ /- Update begin -/
  , ⟨0x6000, 1, 0x11, 1, 1, 0x2A, false, 1, 1, 1, 1, false, 255⟩ /- Update commit -/
  , ⟨0x6000, 1, 0x12, 1, 1, 0x2A, false, 1, 1, 1, 1, false, 255⟩ /- Activate -/
  , ⟨0x6001, 1, 0x00, 1, 9, 0x2A, false, 65535, 2, 0, 0, false, 255⟩ /- Image data -/
  , ⟨0x6001, 1, 0x01, 1, 10, 0x2A, false, 248, 0, 0, 0, false, 255⟩ /- Image segment -/
  , ⟨0x6010, 1, 0x00, 1, 10, 0x7F, true, 6, 1, 0, 0, false, 255⟩ /- Options -/
  , ⟨0x6010, 1, 0x01, 1, 7, 0x55, false, 1, 0, 0, 0, false, 255⟩ /- Option state -/
  , ⟨0x6100, 1, 0x00, 1, 3, 0x55, true, 4, 0, 0, 4294967295, false, 255⟩ /- Power-cycle count -/
  , ⟨0x6100, 1, 0x01, 1, 4, 0x55, true, 8, 8, 0, 18446744073709551615, false, 255⟩ /- Operating time -/
  , ⟨0x6100, 1, 0x02, 1, 7, 0x5F, false, 1, 0, 1, 2, false, 255⟩ /- Block protection -/
  , ⟨0x6100, 1, 0x03, 1, 10, 0x55, false, 10, 8, 0, 0, false, 255⟩ /- Store status -/
  , ⟨0x6100, 1, 0x04, 1, 10, 0x55, true, 56, 0, 0, 0, false, 255⟩ /- Page writes -/
  , ⟨0x6200, 1, 0x00, 1, 10, 0x55, false, 42, 8, 0, 0, false, 255⟩ /- Cache state -/
  , ⟨0x6200, 1, 0x01, 1, 2, 0x7F, true, 2, 0, 100, 10000, false, 255⟩ /- Watchdog timeout -/
  , ⟨0x6200, 1, 0x02, 1, 2, 0x7F, true, 2, 0, 5, 300, false, 255⟩ /- Orphan limit -/
  , ⟨0x6200, 1, 0x03, 1, 3, 0x55, true, 4, 0, 0, 4294967295, false, 255⟩ /- Watchdog resets -/
  , ⟨0x6200, 1, 0x04, 1, 10, 0x55, true, 20, 0, 0, 0, false, 255⟩ /- Last watchdog reset -/
  , ⟨0x6200, 1, 0x05, 1, 7, 0x55, false, 1, 0, 0, 0, false, 255⟩ /- Cox state -/
  , ⟨0x6200, 1, 0x06, 1, 10, 0x55, true, 17, 0, 0, 0, false, 255⟩ /- Last orphan period -/
  , ⟨0x7000, 1, 0x00, 1, 10, 0x2A, false, 8, 1, 0, 0, false, 255⟩ /- Command -/
  , ⟨0x7001, 1, 0x00, 1, 1, 0x2A, false, 1, 0, 1, 1, false, 255⟩ /- Module reset -/
  , ⟨0x7010, 1, 0x00, 32, 10, 0x55, false, 32, 0, 0, 0, false, 255⟩ /- Ticket status -/
  , ⟨0x7011, 1, 0x00, 32, 10, 0x55, false, 256, 0, 0, 0, false, 255⟩ /- Result slot -/
  , ⟨0x7012, 1, 0x00, 1, 3, 0x7F, true, 4, 0, 1, 3600, false, 255⟩ /- Result hold time -/
  , ⟨0x7012, 1, 0x01, 1, 1, 0x55, false, 1, 8, 0, 255, false, 255⟩ /- Slots in use -/
  , ⟨0x7012, 1, 0x02, 1, 3, 0x7F, false, 4, 0, 0, 0, true, 255⟩ /- Slots busy refusals -/ ]

/-- The dictionary, in ascending order of index, then of member. -/
def dictionary : List ObjRow :=
  rows0 ++ rows1 ++ rows2 ++ rows3 ++ rows4 ++ rows5 ++ rows6

/-- The row that an index and a member name, none when no table lists them (R304). -/
def rowOf (idx mem : Nat) : Option ObjRow :=
  dictionary.find? fun r => decide (r.idx ≤ idx ∧ idx < r.idx + r.n ∧ r.mem ≤ mem ∧ mem < r.mem + r.m)

/-- The key of an object in the tables of State: index × 256 + member. -/
def objKey (idx mem : Nat) : Nat := idx * 256 + mem

/-- Every object of the dictionary as (index, member): rows that stand for several indices are expanded (R313). Rows that
share an index run stand member by member within each index. -/
def objectCount : Nat := (dictionary.map fun r => r.n * r.m).sum

/-- The objects of one index run in ascending order: for each index, its members. -/
def expandRow (r : ObjRow) : List (Nat × Nat) :=
  (List.range r.n).flatMap fun i => (List.range r.m).map fun j => (r.idx + i, r.mem + j)

/-- Insert an object's key into a rising list. -/
def objectKeys : List Nat :=
  (dictionary.flatMap expandRow).foldl (fun acc p => insertSorted (objKey p.1 p.2) acc) []

/-- Defaults of the stored objects whose default is not 0, by key, in ascending order (the Default column of the object tables;
the reactions 0x4001.uu as R267: C1 threshold × 256 + C2 reaction). -/
def defaults : Tab Nat :=
  [ (0x100008, 15393162788864) /- User capacity -/
  , (0x100009, 256) /- Dictionary version -/
  , (0x110000, 1) /- PLCA mode -/
  , (0x110002, 255) /- PLCA node -/
  , (0x110003, 16) /- PLCA node count -/
  , (0x110004, 32) /- PLCA TO timer -/
  , (0x110103, 60) /- Advertise period -/
  , (0x120202, 300) /- Idle timeout -/
  , (0x200002, 1) /- 256 B flit offered -/
  , (0x200102, 1) /- 256 B flit offered -/
  , (0x200202, 1) /- 256 B flit offered -/
  , (0x200302, 1) /- 256 B flit offered -/
  , (0x210001, 2048) /- In-flight cap -/
  , (0x210101, 2048) /- In-flight cap -/
  , (0x210201, 2048) /- In-flight cap -/
  , (0x210301, 2048) /- In-flight cap -/
  , (0x210401, 2048) /- In-flight cap -/
  , (0x210501, 2048) /- In-flight cap -/
  , (0x210601, 2048) /- In-flight cap -/
  , (0x210701, 2048) /- In-flight cap -/
  , (0x212200, 10000) /- Offer timeout -/
  , (0x300000, 12) /- Check threshold -/
  , (0x300001, 4) /- Burst limit -/
  , (0x300002, 2304) /- Program cap -/
  , (0x300007, 8) /- Engine slot limit -/
  , (0x310000, 65536) /- Rotation quantum -/
  , (0x310001, 32) /- Read-disturb threshold -/
  , (0x310002, 30) /- Refresh age -/
  , (0x310003, 12) /- Hot threshold -/
  , (0x310005, 1024) /- Levelling spread -/
  , (0x310006, 16) /- Concurrent migrations -/
  , (0x318000, 114688) /- High-water mark -/
  , (0x318001, 98304) /- Low-water mark -/
  , (0x318002, 20) /- Coalescing delay -/
  , (0x31800B, 1000) /- Starvation threshold -/
  , (0x32000A, 2000) /- Node hold time -/
  , (0x32000B, 20000) /- Re-key rate -/
  , (0x32000C, 1) /- Tree generation -/
  , (0x330000, 4) /- Rewrite threshold -/
  , (0x330001, 14) /- Patrol period -/
  , (0x330002, 2000) /- Scrub rate -/
  , (0x400100, 65537) /- Reaction -/
  , (0x400101, 1) /- Reaction -/
  , (0x400102, 1) /- Reaction -/
  , (0x400103, 4097) /- Reaction -/
  , (0x400104, 1) /- Reaction -/
  , (0x400105, 1) /- Reaction -/
  , (0x400200, 60) /- Quiet period -/
  , (0x420000, 1) /- Sample period -/
  , (0x420001, 1000) /- Bandwidth window -/
  , (0x500002, 2000) /- Qualification window -/
  , (0x500003, 50) /- Step timeout -/
  , (0x504003, 24) /- Measurement period -/
  , (0x510100, 1152) /- T1 program limit -/
  , (0x510101, 4) /- T2 engine divider -/
  , (0x510102, 25) /- T3 read pacing -/
  , (0x520006, 82849919148600) /- Health thresholds -/
  , (0x600004, 60) /- Confirm time -/
  , (0x620001, 1000) /- Watchdog timeout -/
  , (0x620002, 30) /- Orphan limit -/
  , (0x701200, 60) /- Result hold time -/ ]

/-- The default of an object (R302): 0 where its table gives 0, false, an empty text or no number. -/
def defaultOf (key : Nat) : Nat := Tab.rd 0 defaults key

end Sys2Proof.Machine
end

