-- ==== Sys2Proof/Machine/State.lean ====
section
/-! DEFINITION. The state of the module: every register, buffer, counter, mode, timer and pin the spec gives it, as plain data, and the queue
of waiting commands. Each field's comment reads: what it is; its width; the file and rule that name it; its value at reset. A value marked [DC]
is a design choice (notes/assumptions/3.md: the spec states no reset value there); [spec] is the spec's own default; [model] is a field of the model and not
of the spec. State.reset is the module at shipment, its keel island just released from reset (notes/assumptions/2.md). -/

namespace Sys2Proof.Machine

/-! ## Reasons to stop -/

/-- The reasons a step can stop with a fault. No meaning of this model raises one: every command of the table has an effect in the spec. -/
inductive Fault where
  /-- Raised by no meaning; it stands for a block that stops, which no rule of the spec describes. Safe. -/
  | stopped
  deriving DecidableEq, Repr

/-- The reasons a command is refused. -/
inductive Refusal where
  /-- Raised by exec alone, for a command whose meaning is not written yet. Safe. -/
  | notModelled (mnemonic : String)
  deriving DecidableEq, Repr

/-! ## Small enumerations -/

/-- Power states (02 R60). -/
inductive PowerState where
  | off | standby | coreStart | dataService | easyAll | easyAllMediaOff | holdUpFlush
  deriving DecidableEq, Repr

/-- Modes of service of a head's reads (00 R6). -/
inductive Mode where
  | normal | startUp | test | recovery
  deriving DecidableEq, Repr

/-- States of a pair of an extent and a head (04 R95). -/
inductive PairState where
  | free | offered | assigned | releasing | draining
  deriving DecidableEq, Repr

/-- States of a fenceable unit (11 R274). -/
inductive UnitState where
  | active | fenced | held | probing | rebuilding | latched
  deriving DecidableEq, Repr

/-- Error classes of a poisoned line (03 R73). -/
inductive Cls where
  | media | integrity | dirtyShutdown
  deriving DecidableEq, Repr

/-- States of the STATE field of a map entry (08 R185). -/
inductive TractState where
  | mapped | zero | suspect | integrityLost
  deriving DecidableEq, Repr

/-- Easy-all progress, 0x4040.00 (11 objects). -/
inductive EasyState where
  | out | quiescing | flushed | flushedMediaOff | leaving
  deriving DecidableEq, Repr

/-- Start phases, 0x5090.00 (18 objects). -/
inductive StartPhase where
  | keelBoot | standby | corePowering | mapLoad | fullScan | rootRebuild | awaitingCustodian | review | normalService
  deriving DecidableEq, Repr

/-! ## Outputs -/

/-- What leaves the module: responses to hosts, messages on its links and pins, answers to managers (the observable effect of a command). -/
inductive Out where
  /-- An S2M data response: head, line address, poison, data (R73). -/
  | readResponse (head dpa : Nat) (poison : Bool) (data : Line)
  /-- An S2M completion of a write (R135). -/
  | completion (head dpa : Nat)
  /-- A Global Persistent Flush response of a phase (R150). -/
  | gpfResponse (head phase : Nat)
  /-- The response to an object access on a path: index, member, status, ticket (R296). -/
  | access (req : Req) (idx mem status ticket : Nat)
  /-- A mailbox command's return: opcode, return code, payload (R104–R109). 0 Success, 1 Invalid Input, 2 Unsupported, 3 Busy. -/
  | mailbox (head opcode ret : Nat) (payload : List Byte)
  /-- A WOP response: session, service, status, ticket, value (R288, R296). -/
  | wop (sess service status ticket : Nat) (value : List Byte)
  /-- A WOP NOTIFY of a slot: kind, count lost, content (R296). -/
  | notify (sess slot kind lost : Nat) (content : List Byte)
  /-- An ADVERTISE to the WOP group with its payload (R288, R290). -/
  | advertise (payload : List Byte)
  /-- A bulk acknowledgement: bulk number, next offset (R298). -/
  | bulkAck (bulk next : Nat)
  /-- A bulk data segment sent from the module (R298). -/
  | bulkData (bulk offset : Nat) (data : List Byte)
  /-- An MSI-X message of a vector (R86). -/
  | msix (head vector : Nat)
  /-- An event queue record written to a ring slot in host memory: slot address, type, flags, source, queue sequence, Logbook sequence,
  operating time, power-cycle count, payload (R112, R115). -/
  | eqRecord (head addr type flags source seq logSeq time cycles : Nat) (payload : List Byte)
  /-- The producer-index mirror write: address, PI, dropped (R112). -/
  | eqMirror (head addr pi dropped : Nat)
  /-- A General Media Event record with its class (R109). -/
  | mediaEvent (head dpa : Nat) (cls : Cls)
  /-- A dynamic capacity event in the head's log: true Add Capacity, false Release Capacity (R95). -/
  | capacityEvent (head ext : Nat) (added : Bool)
  /-- The head signals viral on its link (R75). -/
  | viral (head : Nat)
  /-- K_GOSTOP_ACK of IDE_KM (R78). -/
  | ideGoStopAck (head : Nat)
  /-- An IDE_KM request carried out (R63). -/
  | ideKeyed (head : Nat) (mem : Bool)
  /-- HALT_N as the module drives it on J6 while the switch is closed: true is low (R55). -/
  | haltPin (low : Bool)
  /-- A keel bridge access ended: value read, none with status core absent (R19). -/
  | bridge (value : Option Word64)
  /-- The read data of a seat bus transaction: seat, status byte, data (R357). -/
  | seat (seat status : Nat) (data : List Nat)
  /-- A channel command's result to its controller (R169). -/
  | channelResult (ch die : Nat) (result : List Nat)
  /-- A sensed line on the channel bus (R169). -/
  | sensedLine (ch die granule line : Nat) (l : StoredLine) (ecc : BitVec 80) (sq : SenseStatus)
  /-- A granule header and its check bits on the channel bus: none when the granule is blank (R169). -/
  | sensedHeader (ch die granule : Nat) (h : Option (BitVec 128 × BitVec 64))
  /-- Plaintext, or poisoned data, to the debug tool (R239). -/
  | debugData (dpa : Nat) (poison : Bool) (data : Line)
  /-- The answer of a debug read at J7 outside every window: ciphertext and metadata as sensed, none where nothing can be (R59, R238). -/
  | debugStored (dpa : Nat) (line : Option (StoredLine × BitVec 160))
  /-- The instruction that the test access port selects (R58). -/
  | jtag (instr : TapInstr)
  /-- A reply to an ICMPv6 echo or a Neighbor Discovery message (R284). -/
  | icmpReply (echo : Bool)
  /-- The neighbour solicitation of Duplicate Address Detection (R284). -/
  | addressProbe
  /-- The write of a configuration object confirmed by its block (R20). -/
  | configConfirmed (domain : Nat)
  deriving DecidableEq, Repr

/-- Who waits for a block to confirm its commit: a row that stands for one object's write; a WOP request of a session, by sequence and
service; a mailbox command of a head, by session, sequence and opcode (R20, R105, R288). -/
inductive Asker where
  | row (req : Req) (idx mem : Nat)
  | wop (sess seq svc : Nat)
  | mailbox (head sess seq opcode : Nat)
  /-- A deferred persist write, by its result slot (R20, R311). -/
  | ticket (slot : Nat)
  deriving DecidableEq, Repr

/-! ## Time -/

/-- Time and cycles. -/
structure TimeS where
  /-- Operating time, 1 ms ticks since manufacture; 48 bits; 00 Notation, 17 R410; 0 [DC]. -/
  opTime : Nat := 0
  /-- Power-cycle count; U32; 17 R410 0x6100.00; 1 [DC] (the first keel start has counted itself). -/
  cycles : Nat := 1
  /-- Next operating-time value to write into its cell; U64; 17 R410; 32768 [DC]. -/
  cellDue : Nat := 32768
  /-- Cell of the next operating-time write, counted on over the 32 cells; 17 R410; 1 [DC] (cell 0 holds the first value). -/
  cellWrites : Nat := 1
  /-- Operating-time cells 0–31: the value, none while the cell fails its CRC-8; 32 × U64; 17 R410; 32768 and zeros [DC]. -/
  timeCells : List (Option Nat) := some 32768 :: List.replicate 31 (some 0)
  /-- Power-cycle count cells 0–31: the value, none while the cell fails its CRC-8; 32 × U64; 17 R410; 1 and zeros [DC]. -/
  cycleCells : List (Option Nat) := some 1 :: List.replicate 31 (some 0)
  /-- Cell of the next power-cycle count write, counted on over the 32 cells; 17 R410; 1 [DC]. -/
  cycleWrites : Nat := 1
  deriving DecidableEq, Repr

/-! ## Object dictionary store -/

/-- A ticket's result slot (13 R318–R321). -/
structure Slot where
  /-- Ticket; U32; 13 R318; 0 [spec]. -/
  ticket : Nat := 0
  /-- 0 Free, 1 Running, 2 Done; U8; 13 R320; 0 [spec]. -/
  state : Nat := 0
  /-- Outcome, a WOP status; U8; 13 R320; 0 [spec]. -/
  outcome : Nat := 0
  /-- Progress; U8; 13 R320; 0xFF [DC]. -/
  progress : Nat := 255
  /-- Index of the object written; U16; 13 R320; 0 [spec]. -/
  index : Nat := 0
  /-- Member of the object written; U8; 13 R320; 0 [spec]. -/
  mem : Nat := 0
  /-- Who started it: role and path; 13 R320; 0 [spec]. -/
  req : Req := {}
  /-- Start, operating time; U48; 13 R320; 0 [spec]. -/
  start : Nat := 0
  /-- End, operating time; U48; 13 R320; 0 [spec]. -/
  stop : Nat := 0
  /-- Fields of the result after the common 8 B; 13 R321; none [spec]. -/
  result : List Byte := []
  deriving DecidableEq, Repr

/-- A restore of defaults that waits for a block to confirm the commit of one object (13 R315, 01 R20). -/
structure RestoreS where
  /-- Its result slot. -/
  slot : Nat
  /-- Objects restored. -/
  done : Nat
  /-- Objects refused. -/
  refused : Nat
  /-- Keys still to do. -/
  left : List Nat
  /-- The domain whose commit it waits for. -/
  domain : Nat
  deriving DecidableEq, Repr

/-- The dictionary's stored values, tickets and selectors. -/
structure ObjS where
  /-- Values of configuration and stored objects, key index × 256 + member; as each object's type; 13 R302; the defaults of the object tables [spec]. -/
  vals : Tab Nat := []
  /-- Shadow bank: staged values of data-plane objects waiting for their block's commit point, key → (value + 1); 01 R20; empty [spec]. -/
  shadow : Tab Nat := []
  /-- Module label 0x1000.0A; up to 64 B; 13; "" [spec]. -/
  label : List Byte := []
  /-- Result slots 0–31; 13 R318; Free [spec]. -/
  slots : Tab Slot := []
  /-- Ticket counter; 27 bits; 13 R318; 1 [spec]. -/
  ticketNext : Nat := 1
  /-- Ticket counter reservation in the parameter store; 27 bits; 13 R318; 4097 [spec]. -/
  ticketRes : Nat := 4097
  /-- Slots busy refusals 0x7012.02; U32; 13; 0 [spec]. -/
  busyRefusals : Nat := 0
  /-- Selectors and cursors held per holder (session number, or 0x10000 + head), key holder × 2^24 + index × 256 + member; 12 R296, 13; 0 [spec]. -/
  selectors : Tab Nat := []
  /-- Persist writes deferred under R311: slot → (key of the object + 1, its new value); 13 R311; none [spec]. -/
  deferred : Tab (Nat × Nat) := []
  /-- Accesses whose response is held until a block confirms its commit: (core domain, who waits); 01 R20; none [spec]. -/
  waiting : List (Nat × Asker) := []
  /-- Outcomes of deferred operations that ended while Cox was absent: (slot, outcome, result), oldest first; 18 R424; none [spec]. -/
  ended : List (Nat × Nat × List Byte) := []
  /-- Reaction and limit objects last written by the Custodian (Restore defaults leaves them), keys; 13 R315; none [spec]. -/
  custodianSet : List Nat := []
  /-- A restore of defaults that waits for a block's commit; 13 R315, 01 R20; none [spec]. -/
  restoring : Option RestoreS := none
  deriving DecidableEq, Repr

/-! ## Power -/

/-- One power domain, 0–175 (15 R344, R357). -/
structure DomainS where
  /-- 0 off, 1 ramping, 2 qualifying, 3 on, 4 failed; 15 R357; 0 [spec] (Standby). -/
  state : Nat := 0
  /-- Power-good drops since switched on; U8; 15 R348; 0 [DC]. -/
  drops : Nat := 0
  /-- Margin in percent; S8; 15 R361; 0 [spec]. -/
  margin : Int := 0
  deriving DecidableEq, Repr

/-- The power latch 0x5010.00 (15 R351). -/
structure LatchS where
  /-- A latch is held; 1 bit; 15 R351; false [spec]. -/
  latched : Bool := false
  /-- The domain that failed; U8; 15 R350, R351; 0 [DC]. -/
  domain : Nat := 0
  /-- The step in progress; U8; 15 R351; 0 [DC]. -/
  step : Nat := 0
  /-- Cause: 1 fails to come up, 2 overcurrent, 3 Seat not responding; ENUM; 15 R350, R351; 0 [DC]. -/
  cause : Nat := 0
  /-- Source of the failure; U16; 15 R351; 0 [DC]. -/
  source : Nat := 0
  /-- Operating time of the failure; U64; 15 R351; 0 [DC]. -/
  time : Nat := 0
  deriving DecidableEq, Repr

/-- Input stage, power state, sequencer, HALT_N, sideband. -/
structure PowerS where
  /-- Power state 0x5080.04; ENUM; 02 R60; Standby [DC] (log 2). -/
  state : PowerState := .standby
  /-- Input voltage at J1 in mV, 0x5080.00; U32; 02; 54000 [DC]. -/
  inputMv : Nat := 54000
  /-- Input currents of the blade pairs in mA, 0x5080.05; U32 each; 02; 0 [DC]. -/
  pairA : Nat := 0
  /-- Pair B in mA; U32; 02; 0 [DC]. -/
  pairB : Nat := 0
  /-- Peak input power in mW, 0x5080.03; U32; 02; 0 [spec]. -/
  peakMw : Nat := 0
  /-- The input switch is closed; 02 R39; true [spec] (Standby is reached with it closed). -/
  switchClosed : Bool := true
  /-- The keel supply path from J1 is closed; 02 R41; true [spec]. -/
  keelPath : Bool := true
  /-- The breaker latch holds the switch open; 02 R41; false [DC]. -/
  breaker : Bool := false
  /-- J1 counts as good (above keel turn-on, below overvoltage, no trip); 02 R44; true [DC]. -/
  inputGood : Bool := true
  /-- J1 is above the overvoltage threshold; 02 R39; false [DC]. -/
  overvoltage : Bool := false
  /-- J1 has fallen below the input-loss threshold and not risen above keel turn-on since; 02 R39, R44; false [DC]. -/
  inputLow : Bool := false
  /-- An input dip is in progress; 06 R154; false [DC]. -/
  dip : Bool := false
  /-- Short-dip count 0x5080.0A; U32; 02 R39; 0 [spec]. -/
  shortDips : Nat := 0
  /-- Input loss count 0x5080.06; U32 persist; 02; 0 [spec]. -/
  lossCount : Nat := 0
  /-- Breaker trip count 0x5080.07; U32 persist; 02 R41; 0 [spec]. -/
  tripCount : Nat := 0
  /-- Core power request 0x5080.08: true is off; 02 R61; false [spec]. -/
  reqOff : Bool := false
  /-- Sequencer state 0x5000.00; ENUM; 15; 0 core off [spec]. -/
  seqState : Nat := 0
  /-- Step in progress 0x5000.01; U8; 15 R346; 0 [DC]. -/
  step : Nat := 0
  /-- The running power-down takes 100 µs steps (on the bank) or waits for the rails; 15 R352; false [DC]. -/
  fastDown : Bool := false
  /-- The running power-down ends at step 5 (T4, media only); 15 R352; false [DC]. -/
  mediaOnlyDown : Bool := false
  /-- The running power-up brings the media domains back after T4; 11 R281, 15 R346; false [DC]. -/
  mediaOnlyUp : Bool := false
  /-- The steps pause at T3 or above; 16 R377; false [DC]. -/
  paused : Bool := false
  /-- Power domains 0–175; 15 R344; off [spec]. -/
  domains : Tab DomainS := []
  /-- Power latch 0x5010.00; REC persist; 15 R351; not latched [spec]. -/
  latch : LatchS := {}
  /-- Drivers of the internal HALT_N line: 0 Stroke, 1–8 Seats, 9 outside through J6; 15 R354; none [DC]. -/
  haltDrivers : List Nat := []
  /-- HALT_N has been recognised low and its release not yet recognised; 15 R355, R356; false [DC]. -/
  haltSeen : Bool := false
  /-- HALT_N has held the core off: Standby until a full module reset; 15 R355, R356, 02 R62; false [spec]. -/
  haltHold : Bool := false
  /-- An outside driver holds J6 HALT_N low (pin level); 02 R55; false [DC]. -/
  haltOutside : Bool := false
  /-- Power-good drops and HALT_N assertions since the last full module reset (block 0x06C); 14 R338; 0 [spec]. -/
  counts : List Nat := [0, 0]
  /-- HALT_N assertions 0x5060.00: count; U32 persist; 15; 0 [DC]. -/
  haltCount : Nat := 0
  /-- Source of the latest assertion, 0x3FF outside; U16; 15; 0 [DC]. -/
  haltSource : Nat := 0
  /-- Operating time of the latest assertion; U64; 15; 0 [DC]. -/
  haltTime : Nat := 0
  /-- GA latched 0x1102.00; U8; 02 R52; 63 [DC]. -/
  gaLatched : Nat := 63
  /-- GA pins at the latest sample 0x1102.01; U8; 02 R53; 63 [DC]. -/
  gaPins : Nat := 63
  /-- Levels of GA[5:0] at the latest instant at which a command gave them; pins; 02 R52; 63 [DC]. -/
  gaNow : Nat := 63
  /-- Successive differing samples; 02 R53; 0 [DC]. -/
  gaDiffer : Nat := 0
  /-- GA mismatch 0x1102.02; BOOL; 02 R53; false [spec]. -/
  gaMismatch : Bool := false
  /-- MODRST_N is low; pin; 02 R54; false [DC]. -/
  modrstLow : Bool := false
  /-- A full module reset has been requested and waits for its release and the flush end; 02 R54; false [DC]. -/
  resetAsked : Bool := false
  /-- The reset waits only for J1 good for 100 ms (input good during hold-up flush); 02 R44; false [DC]. -/
  resetOnGood : Bool := false
  /-- Instruction of the test access port; 02 R58; IDCODE [model] (IEEE 1149.1; log 80). -/
  tap : TapInstr := .idcode
  /-- Numbers of the clocks lost since the last full module reset; 01 R28; none [DC]. -/
  lostClocks : List Nat := []
  /-- The keel PLL has fallen back to its oscillator; 01 R28; false [DC]. -/
  keelFallback : Bool := false
  /-- Margining enable 0x5030.00; BOOL; 15 R361; false [spec]. -/
  marginOn : Bool := false
  deriving DecidableEq, Repr

/-- One Seat on the seat bus (15 R357). -/
structure SeatS where
  /-- Firmware version returned by PING; U16; 15 R357; 0 [DC]. -/
  firmware : Nat := 0
  /-- Fault: 0 none, 1 timeout, 2 chatter, 3 overcurrent, 4 out of window, 5 internal; U8; 15 R357; 0 [DC]. -/
  fault : Nat := 0
  /-- Domain of the fault; U8; 15 R357; 0 [DC]. -/
  faultDomain : Nat := 0
  /-- Failures of the transaction in progress; 15 R359; 0 [DC]. -/
  failures : Nat := 0
  /-- Not responding; 15 R359, 0x5050.01; false [DC]. -/
  silent : Bool := false
  deriving DecidableEq, Repr

/-- The seat bus. -/
structure SeatBusS where
  /-- Seats 1–8; 15 R344; responding [DC]. -/
  seats : Tab SeatS := []
  /-- Transactions 0x5050.00; U64; 15; 0 [spec]. -/
  transactions : Nat := 0
  /-- CRC errors; U32; 15; 0 [spec]. -/
  crcErrors : Nat := 0
  /-- Retries; U32; 15 R359; 0 [spec]. -/
  retries : Nat := 0
  /-- Seats found not responding; U32; 15; 0 [spec]. -/
  notResponding : Nat := 0
  deriving DecidableEq, Repr

/-- The hold-up bank. -/
structure BankS where
  /-- Bank state 0x5040.01: 0 discharged, 1 charging, 2 ready, 3 measuring, 4 carrying, 5 not ready; ENUM; 15; 0 [spec] (Standby is discharged). -/
  state : Nat := 0
  /-- Bank voltage in mV 0x5040.00; U32; 15; 0 [DC]. -/
  mv : Nat := 0
  /-- The boost stage is on; 15 R346; false [spec]. -/
  boost : Bool := false
  /-- Normalised capacitance of the latest measurement, µF; U32 persist 0x5040.02; 15 R367; 4000 [DC]. -/
  uF : Nat := 4000
  /-- Measured capacitance, µF; U32; 15 R367; 4000 [DC]. -/
  uFRaw : Nat := 4000
  /-- ESR, mΩ; U32; 15 R367; 0 [DC]. -/
  esr : Nat := 0
  /-- Bank temperature of the latest measurement, 0.1 °C; S32; 15; 250 [DC]. -/
  temp : Int := 250
  /-- Operating time of the latest measurement; U64; 15; 0 [DC]. -/
  measuredAt : Nat := 0
  /-- A measurement has been taken since the core was last switched on; 15 R363; false [spec]. -/
  measured : Bool := false
  /-- The present entry into the not-ready state has been reported; 15 R364; false [DC]. -/
  notReady : Bool := false
  /-- A measurement is running; its ticket's slot + 1, 0 when none was asked; 15 R367; none [DC]. -/
  measuring : Option Nat := none
  /-- A due measurement is deferred; 15 R368; false [DC]. -/
  deferred : Bool := false
  /-- Result of the latest Seat measurement: fall time in µs; U32; 15 R357; 0 [DC]. -/
  capTime : Nat := 0
  /-- Voltage step in mV; U16; 15 R357; 0 [DC]. -/
  capStep : Nat := 0
  /-- Hold-up events: bank voltage at flush start, at flush end in mV 0x5040.06; U32 each persist; 15; 0 [DC]. -/
  flushStartMv : Nat := 0
  /-- Bank voltage at flush end, mV; U32; 15; 0 [DC]. -/
  flushEndMv : Nat := 0
  /-- Duration of that flush, µs; U32; 15; 0 [DC]. -/
  flushUs : Nat := 0
  /-- Time the keel island ran after that flush, ms; U32; 15; 0 [DC]. -/
  keelMs : Nat := 0
  /-- Operating time at which that flush started, or ended once it has; [model]; 0. -/
  flushMark : Nat := 0
  deriving DecidableEq, Repr

/-! ## Thermal and health -/

/-- One thermal input (16 R369–R374). -/
structure SensorS where
  /-- Latest reading or substitute, 0.1 °C; S32; 16 R369; 250 [DC]. -/
  reading : Int := 250
  /-- Reading before it, 0.1 °C; S32; 16 R374; 250 [DC]. -/
  before : Int := 250
  /-- Level 0–4; U8; 16 R373; 0 [spec]. -/
  level : Nat := 0
  /-- Successive conversions at or above each higher limit, of levels 1–4; 16 R373; 0 [DC]. -/
  overs : List Nat := [0, 0, 0, 0]
  /-- Reading since which it has been below its limit less hysteresis: operating time + 1, 0 none; 16 R373; 0 [DC]. -/
  belowSince : Nat := 0
  /-- Converted every 250 µs; BOOL; 16 R370; false [DC]. -/
  fast : Bool := false
  /-- Faulty; BOOL; 16 R374; false [DC]. -/
  faulty : Bool := false
  /-- Successive good conversions while faulty; 16 R374; 0 [DC]. -/
  good : Nat := 0
  /-- It has been converted since the keel island left reset; [model]; false. -/
  seen : Bool := false
  /-- Maximum since full module reset; S32; 16; 250 [DC]. -/
  peak : Int := 250
  deriving DecidableEq, Repr

/-- Thermal state. -/
structure ThermS where
  /-- Inputs 0–43; 16 R369; 25.0 °C [DC]. -/
  inputs : Tab SensorS := []
  /-- Thermal level 0x5100.00; ENUM 0–4; 16 R373; 0 [spec]. -/
  level : Nat := 0
  /-- Levels 0–4: ms at each since manufacture 0x5100.04; U64 each persist; 16; 0 [spec]. -/
  timeAt : List Nat := [0, 0, 0, 0, 0]
  /-- Limits of kinds 0–4 in 0.1 °C: T1, T2, T3, T4, hysteresis; S32, U16; 16 R371; the factory maxima [spec]. -/
  limits : List (List Int) :=
    [[700, 750, 800, 850, 30], [450, 500, 550, 600, 30], [700, 750, 800, 850, 30], [950, 1000, 1050, 1100, 30], [950, 1000, 1050, 1100, 30]]
  /-- Conversions and level changes counted (block 0x06D): conversions, fast, level changes, sensor faults; 14 R338; 0 [spec]. -/
  counts : List Nat := [0, 0, 0, 0]
  deriving DecidableEq, Repr

/-- Health and ageing (16 R379–R383). -/
structure HealthS where
  /-- Health state 0x5200.00; ENUM 0–3; 16 R382; 0 [spec]. -/
  state : Nat := 0
  /-- Indicator states 0x5200.07: thermal, media, hold-up, spares, sensors, power latch; U8 each; 16 R382; 0 [DC]. -/
  indicators : List Nat := [0, 0, 0, 0, 0, 0]
  /-- C0, the first measurement after manufacture, µF, 0 none; U32 persist; 16 R380; 0 [DC]. -/
  c0 : Nat := 0
  /-- Measurements kept for the fit: (operating hour, µF), newest last; 16 R380; none [DC]. -/
  points : List (Nat × Nat) := []
  /-- Highest PEAK at each operating hour of the last 720, newest last; 16 R379; none [DC]. -/
  peaks : List Nat := []
  /-- Life used in percent 0x5200.01; U8; 16 R381; 0 [DC]. -/
  lifeUsed : Nat := 0
  /-- Remaining hours of the media; U32, 0xFFFFFFFF none; 16 R379; none [DC]. -/
  mediaHours : Nat := 0xFFFFFFFF
  /-- Fitted capacitance now, µF; U32 persist; 16 R380; 0 [DC]. -/
  fitted : Nat := 0
  /-- Slope of the fitted line, nF per hour; S32 persist; 16 R380; 0 [DC]. -/
  slope : Int := 0
  /-- Remaining hours of the bank; U32; 16 R380; none [DC]. -/
  bankHours : Nat := 0xFFFFFFFF
  /-- Predicted end of life in hours 0x5200.04; U32; 16 R381; none [DC]. -/
  endHours : Nat := 0xFFFFFFFF
  /-- Governing indicator: 0 none, 1 media, 2 hold-up, 3 spares, 4 bank not ready; ENUM; 16 R381; 0 [DC]. -/
  governing : Nat := 0
  /-- Operating time of the prediction; U64; 16; 0 [DC]. -/
  predictedAt : Nat := 0
  deriving DecidableEq, Repr

/-! ## Ports, links, heads -/

/-- One link, serving head h = 2·port + link (03). -/
structure LinkS where
  /-- LINK_STATUS STATE: 0 down, 1 training, 2 up PCIe only, 3 up CXL, 4 disabled by fence; 4 bits; 03 R89; 0 [spec]. -/
  state : Nat := 0
  /-- SPEED 1–6; 4 bits; 03 R89; 0 [spec]. -/
  speed : Nat := 0
  /-- WIDTH 4, 8, 16; 5 bits; 03 R89; 0 [spec]. -/
  width : Nat := 0
  /-- FLIT 0–2; 2 bits; 03 R89; 0 [spec]. -/
  flit : Nat := 0
  /-- Mem_Enable in the CXL DVSEC control register; 1 bit; 03 R67; 0 [DC]. -/
  memEnable : Bool := false
  /-- Viral_Enable in the CXL DVSEC control register; 1 bit; 03 R75; false [DC]. -/
  viralEnable : Bool := false
  /-- IDE_IO: 0 not configured, 1 Secure, 2 Insecure; 2 bits; 03 R89; 0 [spec]. -/
  ideIo : Nat := 0
  /-- IDE_MEM, as IDE_IO; 2 bits; 03 R89; 0 [spec]. -/
  ideMem : Nat := 0
  /-- IDE was required (0x2000+p.03) at the latest write of Mem_Enable; 03 R67; false [DC]. -/
  ideNeeded : Bool := false
  /-- The head has stopped after an IDE check failure until its link has gone down and its streams are keyed again; 03 R79; false [DC]. -/
  ideStopped : Bool := false
  /-- The link has gone down since the head stopped for IDE; 03 R79; false [DC]. -/
  ideFell : Bool := false
  /-- A speed change has reached 32 GT/s since step 3 of R66; 03 R68; false [DC]. -/
  reached32 : Bool := false
  /-- The port limits the link to 32 GT/s until the next PERST_N release; 03 R69; false [DC]. -/
  limit32 : Bool := false
  /-- Operating times of Recovery entries within the last 1 s; 03 R69; none [DC]. -/
  recoveries : List Nat := []
  /-- PERST_N of the link is low; pin; 02 R47; false [spec] (pulled up when undriven). -/
  perstLow : Bool := false
  /-- Released PERST_N waits for the port domain and CD1; 19 R435; false [DC]. -/
  perstWaiting : Bool := false
  /-- The link is held in Link Disable by a head reset; 04 R93; false [DC]. -/
  held : Bool := false
  /-- PERST_N assertions 0x2010+h.02; U32; 03; 0 [spec]. -/
  perstCount : Nat := 0
  /-- LINKDOWN_COUNT; U32; 03 R89; 0 [spec]. -/
  downCount : Nat := 0
  /-- AER registers, the sticky configuration bits; seven registers; 03 R83; 0 [spec] (cleared by a full module reset). -/
  aer : AerS := {}
  /-- The two HDM decoders: base, size, ways, granularity, commit; 03 R63, R80; not committed [spec]. -/
  decoders : List HdmDecoder := [{}, {}]
  /-- Non-sticky configuration registers as the host wrote them (cleared by FLR); 03 R82; false [spec]. -/
  ioConfigured : Bool := false
  /-- PCI power state: D3hot, else D0; 03 R63; false [DC]. -/
  d3hot : Bool := false
  /-- MSI-X Enable; 1 bit; 03 R82, R86; false [DC]. -/
  msixOn : Bool := false
  /-- MSI-X Function Mask; 1 bit; 04 R113; false [DC]. -/
  msixFnMask : Bool := false
  /-- Mask bits of the MSI-X vectors; 4 bits; 04 R113; 0xF [DC]. -/
  msixMask : Nat := 15
  /-- MSI-X pending bit array at BAR2 + 0x1000; 4 bits; 03 R86; 0 [DC]. -/
  msixPending : Nat := 0
  /-- MSI-X table at BAR2: address and data of each vector; 03 R86; none written [DC]. -/
  msixTable : List (Nat × Nat) := []
  /-- CDAT change number; 03 R87; 0 [DC]. -/
  cdatChange : Nat := 0
  /-- Width, speed and flit of the latest CDAT; 03 R87; 0 [DC]. -/
  cdatLink : Nat := 0
  /-- AFL_IDENT POOL_ADDR, the pool address at the last link-up; U16; 03 R88; 0 [DC]. -/
  poolAtUp : Nat := 0
  deriving DecidableEq, Repr

/-- One event queue (04 R110–R115). -/
structure EqS where
  /-- EQ_BASE; 64 bits; 04 R110; 0 [spec]. -/
  base : Nat := 0
  /-- EQ_MIRROR; 64 bits; 04 R110; 0 [spec]. -/
  mirror : Nat := 0
  /-- EQ_CTRL.ENABLE; 1 bit; 04 R110; 0 [spec]. -/
  enable : Bool := false
  /-- EQ_CTRL.SIZE; 4 bits; 04 R110; 0 [spec]. -/
  size : Nat := 0
  /-- EQ_CTRL.MASK; 16 bits; 04 R110; 0xFFFF [spec]. -/
  mask : BitVec 16 := 0xFFFF
  /-- EQ_COAL; 10 bits; 04 R110; 0 [spec]. -/
  coal : Nat := 0
  /-- EQ_CI; U32; 04 R110; 0 [spec]. -/
  ci : BitVec 32 := 0
  /-- EQ_PI; U32; 04 R110; 0 [spec]. -/
  pi : BitVec 32 := 0
  /-- EQ_STATUS.OVERFLOW; 04 R110; 0 [spec]. -/
  overflow : Bool := false
  /-- EQ_STATUS.CI_ERR; 04 R110; 0 [spec]. -/
  ciErr : Bool := false
  /-- EQ_DROPPED; U32; 04 R110; 0 [spec]. -/
  dropped : Nat := 0
  /-- Queue sequence; U32; 04 R111; 0 [spec]. -/
  seq : BitVec 32 := 0
  /-- A record was dropped since the last one written (flags bit 0 of the next); 04 R115; false [DC]. -/
  gap : Bool := false
  /-- A coalescing interval is running; 04 R113; false [DC]. -/
  coalescing : Bool := false
  /-- PI at the last vector 2 message; U32; 04 R113; 0 [DC]. -/
  signalledPi : BitVec 32 := 0
  deriving DecidableEq, Repr

/-- One head. -/
structure HeadS where
  /-- Viral state; 03 R76; false [spec]. -/
  viral : Bool := false
  /-- Head reset 0x2100+h.04; U8; 04 R93; 0 [spec]. -/
  resetReq : Nat := 0
  /-- Operations in flight (INFLIGHT); U16; 03 R71; 0 [DC]. -/
  inflight : Nat := 0
  /-- Stray accesses 0x2100+h.06; U32; 04 R96; 0 [spec]. -/
  stray : Nat := 0
  /-- Event queue drops 0x2100+h.07; U32; 04; 0 [spec]. -/
  eqDrops : Nat := 0
  /-- MemRd responses sent (block 0x008+h slot 0); 48 bits; 14 R338; 0 [spec]. -/
  readsDone : Nat := 0
  /-- Bound excursions 0x2100+h.09; U32; 05 R124; 0 [spec]. -/
  excursions : Nat := 0
  /-- Reconstructed reads 0x2100+h.0A; U32; 05 R131; 0 [spec]. -/
  reconstructed : Nat := 0
  /-- Maximum read latency 0x2100+h.0B, ns; U16; 05 R134; 0 [spec]. -/
  maxRead : Nat := 0
  /-- Latency histogram bins 0x2100+h.0C; eight counters; 05 R134; 0 [DC]. -/
  hist : List Nat := [0, 0, 0, 0, 0, 0, 0, 0]
  /-- Write completions sent; 48 bits; 14 R338; 0 [spec]. -/
  writesDone : Nat := 0
  /-- Partial write completions sent; 48 bits; 14 R338; 0 [spec]. -/
  partials : Nat := 0
  /-- Poisoned responses; 48 bits; 14 R338; 0 [spec]. -/
  poisoned : Nat := 0
  /-- Event queue records written; 48 bits; 14 R338; 0 [spec]. -/
  eqWritten : Nat := 0
  /-- Maximum write latency 0x2100+h.0F, ns; U16; 06; 0 [spec]. -/
  maxWrite : Nat := 0
  /-- The event queue page; 04 R110; cleared [spec]. -/
  eq : EqS := {}
  /-- Bound status last reported to the head; U32; 03 R89; 0 [spec]. -/
  bound : BitVec 32 := 0
  /-- The mailbox command that waits for Cox, its doorbell set; 18 R424; none [DC]. -/
  doorbell : Option Instr := none
  /-- A prepared mailbox open reply: (session, operating time of its expiry); 12 R299; none [spec]. -/
  openReply : Option (Nat × Nat) := none
  deriving DecidableEq, Repr

/-- One port. -/
structure PortS where
  /-- Mode in force 0x2000+p.08: false x16, true two x8; 03 R65; false [spec]. -/
  bifurcated : Bool := false
  /-- CBL_PRES_N low, a cable mated; pin; 02 R49; false [DC]. -/
  cable : Bool := false
  /-- Recovery entries 0x2000+p.05; U32; 03; 0 [spec]. -/
  recoveries : Nat := 0
  /-- Correctable errors 0x2000+p.06; U32; 03; 0 [spec]. -/
  correctable : Nat := 0
  /-- Link-down count 0x2000+p.07; U32 persist; 03; 0 [spec]. -/
  downCount : Nat := 0
  /-- RwD credit returns are withheld; 06 R147; true [spec] (no data service yet). -/
  rwdWithheld : Bool := true
  /-- Req credit returns are withheld; 03 R72; true [spec] (no data service yet). -/
  reqWithheld : Bool := true
  /-- Core periods with RwD credit, with Req credit withheld (Tally slots 4, 5), counted at each ms; 14 R338; 0 [spec]. -/
  periods : List Nat := [0, 0]
  /-- Tally slots 0–3 of the port: MemRd, MemWr and MemWrPtl, read bytes, write bytes; 48 bits; 14 R338; 0 [spec]. -/
  traffic : List Nat := [0, 0, 0, 0]
  deriving DecidableEq, Repr

/-- Ports, links and heads. -/
structure HostS where
  /-- Ports 0–3; 03; as PortS [DC]. -/
  ports : Tab PortS := []
  /-- Links by head 0–7; 03 R64; as LinkS. -/
  links : Tab LinkS := []
  /-- Heads 0–7; 04 R90; as HeadS. -/
  heads : Tab HeadS := []
  deriving DecidableEq, Repr

/-! ## Extents and regions -/

/-- A pair of an extent and a head. -/
structure PairS where
  /-- State; 04 R95; Free [spec] (shipment). -/
  state : PairState := .free
  /-- Operating time at which its timeout started; 04 R95; 0 [DC]. -/
  since : Nat := 0
  /-- Timeout time left while Cox is absent; ms; 18 R424; 0 [DC]. -/
  paused : Nat := 0
  /-- Cause of the latest change as 04 R115 codes it, repeated by the record of the next; [model]; 0. -/
  cause : Nat := 0
  deriving DecidableEq, Repr

/-- An extent. -/
structure ExtentS where
  /-- Region, 0xFF none; U8; 04 R98; 0xFF [spec]. -/
  region : Nat := 255
  /-- Temperature hint: 0 none, 1 hot, 2 cold; U8; 04 R101; 0 [spec]. -/
  hint : Nat := 0
  /-- A region change waits to complete: (heads of the offer, ticket slot); 04 R98; none [spec]. -/
  changing : Option (Nat × Nat) := none
  /-- Oldest EPOCH the last complete refresh sweep met in the extent + 1; 08 R200; 0 [DC]. -/
  oldest : Nat := 0
  /-- Oldest EPOCH the present refresh sweep has met in the extent + 1; 08 R200; 0 [DC]. -/
  meeting : Nat := 0
  deriving DecidableEq, Repr

/-- A region. -/
structure RegionS where
  /-- Owner mask; U8; 04 R102; 0 [spec]. -/
  mask : Nat := 0
  /-- Key generation; U32 persist; 09 R209; 0 [spec]. -/
  gen : Nat := 0
  /-- The key K(r, g) is held in the key store; 09 R207, R209; false [spec]. -/
  keyed : Bool := false
  deriving DecidableEq, Repr

/-- Extents and regions. -/
structure ExtS where
  /-- Pairs of an extent and a head, key extent × 8 + head; 04 R95; Free [spec]. -/
  pairs : Tab PairS := []
  /-- Extents 0–57,343; 04 R94; no region, no hint [spec]. -/
  extents : Tab ExtentS := []
  /-- Regions 0–63; 04 R102; unused [spec]. -/
  regions : Tab RegionS := []
  /-- Offers whose region changes are not all complete: slot → (extents left, extents changed); 04 R446; none [spec]. -/
  offers : Tab (Nat × Nat) := []
  /-- Extent journal: changes programmed into the live generation, words used of 90,112; 17 R390; 0 [DC]. -/
  journalUsed : Nat := 0
  /-- Live generation of the journal, 0 or 1; 17 R390; 0 [DC]. -/
  journalGen : Nat := 0
  deriving DecidableEq, Repr

/-! ## Entries of the write buffer -/

/-- State of a write buffer entry (06 R137). -/
inductive EntState where
  | pending | dirty | draining
  deriving DecidableEq, Repr

/-- A write buffer entry (descriptor and slot data) (06 R137). -/
structure Entry where
  /-- STATE; 2 bits; 06 R137. -/
  state : EntState := .pending
  /-- POISON; 06 R137. -/
  poison : Bool := false
  /-- FULL; 06 R137. -/
  full : Bool := false
  /-- SUCC; 06 R137. -/
  succ : Bool := false
  /-- SINGLE; 06 R137. -/
  single : Bool := false
  /-- HEAD of the latest write merged; 3 bits; 06 R137. -/
  head : Nat := 0
  /-- BYTE_EN; 64 bits; 06 R137. -/
  be : ByteEn := 0
  /-- The slot's 64 data bytes; 06 R137. -/
  data : Line := 0
  /-- Line order point place of the entry's first write; R126. -/
  first : Nat := 0
  /-- Line order point place of the latest write merged; R126. -/
  order : Nat := 0
  /-- Line order point place of the latest write whose mirror write is done; R127. -/
  acked : Nat := 0
  /-- The coalescing delay (or node hold time) has passed; 06 R141, 09 R229. -/
  aged : Bool := false
  /-- Completions owed, in order; 06 R138. -/
  owed : List Owed := []
  /-- Its completion waits for a seal record listing its tract; 06 R154. -/
  sealing : Bool := false
  /-- For a node entry: the logical tract on whose behalf it was written, + 1; 09 R229. -/
  onBehalf : Nat := 0
  /-- For a mirror node entry: the key of its primary, + 1; 09 R229. -/
  mirrorOf : Nat := 0
  /-- A poison entry of R233. -/
  poisonEntry : Bool := false
  /-- Its slot in the members of its pair, 0–131,071; 06 R137. -/
  slot : Nat := 0
  /-- Every copy of its slot has failed its check: its data are lost; 06 R160. -/
  lost : Bool := false
  deriving DecidableEq, Repr

/-- The entries of one line: at most one open and at most one Draining (06 R138). -/
structure LineEnts where
  /-- The newest entry, which still takes writes; one entry; 06 R137, R140; none [spec]. -/
  opened : Option Entry := none
  /-- The older entry, which is being drained; one entry; 06 R140; none [spec]. -/
  drain : Option Entry := none
  deriving DecidableEq, Repr

/-! ## Counter blocks -/

/-- A counter block (09 R218). -/
structure CounterBlock where
  /-- MAJOR; 56 bits; 09 R218; 0 [spec]. -/
  major : Nat := 0
  /-- KG; 09 R218; 0 [spec]. -/
  kg : Bool := false
  /-- PZ; 09 R218; 0 [spec]. -/
  pz : Bool := false
  /-- MINOR of lines 0–63, bits 7m+6:7m; 448 bits; 09 R218; 0 [spec]. -/
  minors : BitVec 448 := 0
  deriving DecidableEq, Repr

/-! ## Reads -/

/-- A decision on a read's line before the merge (R3, R119, R217). -/
inductive LineOutcome where
  /-- 64 bytes of 0x00, not poisoned. -/
  | zero
  /-- Decrypted data. -/
  | data (pt : Line)
  /-- Poisoned of a class; none for a response with no class (recovery, stray). -/
  | poison (cls : Option Cls)
  deriving DecidableEq, Repr

/-- A read in flight (05 R116). -/
structure ReadS where
  /-- The head that sent it. -/
  head : Nat := 0
  /-- Line number DPA[43:6]. -/
  line : Nat := 0
  /-- Its place in the line order point (entry sequence); R126. -/
  order : Nat := 0
  /-- Mode of service in which it was accepted; R232. -/
  mode : Mode := .normal
  /-- Lines and nodes still to arrive; R120, R121. -/
  waiting : List ReadSrc := []
  /-- Stripe lines that have arrived: XOR of what was sensed and what the dies hold, in ciphertext; R246. -/
  accCt : Line := 0
  /-- The same in the tags; R246. -/
  accTag : Word64 := 0
  /-- The same in the persistent poison bits; R245. -/
  accPoison : Bool := false
  /-- The own line as it arrived, once corrected. -/
  own : Option StoredLine := none
  /-- The own line was flagged at 8 bits and is kept as the last resort; R240. -/
  flagged : Option StoredLine := none
  /-- A degraded read; R130. -/
  degraded : Bool := false
  /-- A reconstructed read; R131. -/
  reconstructed : Bool := false
  /-- Dispatched under admitted load; R123. -/
  admittedLoad : Bool := true
  /-- The lookup or dispatch hold of 56 ns still runs; R119. -/
  holding : Bool := false
  /-- The line's outcome, once decided. -/
  outcome : Option LineOutcome := none
  /-- A tag failure was found (a poison entry follows unless the newest entry is FULL); R233. -/
  tagFail : Bool := false
  /-- Nodes whose first copy has failed; R231. -/
  recovered : List ReadSrc := []
  /-- Nodes a copy of which has failed its MAC and not its ECC; R231. -/
  macFailed : List ReadSrc := []
  /-- The way each node that is fetched is now tried, by its place in the order of R231. -/
  tried : List (ReadSrc × Nat) := []
  /-- Its line at the physical tract that its lookup gave: granule address, line; R128. -/
  place : Nat × Nat := (0, 0)
  /-- The copies of its nodes at dispatch: granule address, line; R121, R128. -/
  places : List (NodeCopy × Nat × Nat) := []
  /-- Its line could not be rebuilt: the poison stays with the line (a poison entry follows unless the newest entry is FULL); R131. -/
  keepPoison : Bool := false
  /-- The link went down while it was in flight: the response is discarded; R80. -/
  discard : Bool := false
  /-- Physical tract + 1 whose count of dispatched reads it is in, 0 none; R129. -/
  pt : Nat := 0
  /-- Physical tracts to whose sectors its lines were dispatched, that of its own line first; R129. -/
  pts : List Nat := []
  /-- Nodes rebuilt from the eight other lines of their rows: what the lines that have arrived differ by from what the dies hold; R121, R231. -/
  nodeAcc : List (ReadSrc × Line) := []
  /-- Nodes of which a copy came flagged, with its corrected content; 10 R240; none [model]. -/
  nodeFlagged : List (ReadSrc × Line) := []
  /-- Rewrite threshold in force at its admission; 01 R21, 10 R242. -/
  threshold : Nat := 4
  /-- Its line as the medium holds it, or its row gives it, at dispatch; R120, R130. -/
  base : StoredLine := {}
  /-- Its counter block at dispatch; R121. -/
  block : CounterBlock := {}
  /-- Buffer entries of its line that preceded it at its probe; R127. -/
  probe : LineEnts := {}
  deriving DecidableEq, Repr

/-- The read path. -/
structure ReadPathS where
  /-- Reads in flight by number; 05 R116; none [DC]. -/
  reads : Tab ReadS := []
  /-- Number of the next read; [model]; 1. -/
  nextId : Nat := 1
  /-- Line order point sequence: the next entry's place; 05 R126; 1 [DC]. -/
  order : Nat := 1
  /-- Line order point counts (block 0x030): line operations, reads, writes, pending-entry waits; 14 R338; 0 [spec]. -/
  counts : List Nat := [0, 0, 0, 0]
  deriving DecidableEq, Repr

/-! ## Write buffer, drain and ledger -/

/-- How a drain unit is written (06 R142). -/
inductive DrainMethod where
  | fullStripe | readModifyWrite | reconstructWrite
  deriving DecidableEq, Repr

/-- A drain unit in progress: one stripe row of one tract (06 R140–R145). -/
structure DrainUnit where
  /-- Number of the unit. -/
  id : Nat := 0
  /-- Mirrored pair. -/
  pair : Nat := 0
  /-- Tract number (logical or reserve). -/
  tract : Nat := 0
  /-- Stripe row within the tract, 0–511. -/
  row : Nat := 0
  /-- Method chosen; R142. -/
  method : DrainMethod := .readModifyWrite
  /-- Keys of the entries it drains. -/
  keys : List Nat := []
  /-- Images to program: (granule address, image). -/
  images : List (Nat × Granule) := []
  /-- Granule addresses whose program has not finished and been checked. -/
  left : List Nat := []
  /-- Its data programs have been started; R228. -/
  started : Bool := false
  /-- Node entries whose acknowledgement it waits for (keys); R228. -/
  nodes : List Nat := []
  /-- It has passed the starvation threshold once; R149. -/
  starved : Bool := false
  /-- Mode of service in force at its selection; R232. -/
  mode : Mode := .normal
  deriving DecidableEq, Repr

/-- A ledger record (06 R153). -/
structure LedgerRec where
  /-- 1 delta, 2 full set, 3 seal, 4 flush complete. -/
  kind : Nat := 0
  /-- Ledger sequence; U32. -/
  seq : Nat := 0
  /-- Tracts added. -/
  added : List Nat := []
  /-- Tracts removed. -/
  removed : List Nat := []
  /-- Power-cycle count; U32. -/
  cycles : Nat := 0
  /-- Operating time of its start; 48 bits. -/
  time : Nat := 0
  /-- Its CRC-64 passes: it was written whole. -/
  whole : Bool := true
  /-- First granule of the ledger area that it fills, counted over the 64 segments; R153, 08 R184. -/
  at' : Nat := 0
  deriving DecidableEq, Repr

/-- The write buffer, drain engines and ledger. -/
structure WbS where
  /-- Entries by line key = tract number × 16,384 + line in tract (logical: DPA[43:6]); 06 R137; Free [spec]. -/
  ents : Tab LineEnts := []
  /-- Drain units in progress; 06 R141; none [spec]. -/
  units : List DrainUnit := []
  /-- Number of the next drain unit; [model]; 1. -/
  nextUnit : Nat := 1
  /-- In-program table: registered images by granule address; 05 R128; empty [spec]. -/
  inProgram : Tab Granule := []
  /-- The dirty set, tract numbers rising; 06 R152; empty [DC]. -/
  dirty : List Nat := []
  /-- Tracts of the durable ledger, rising; 06 R140; empty [DC]. -/
  durable : List Nat := []
  /-- Dirty set as of the latest delta or seal record started; 06 R153; empty [DC]. -/
  lastListed : List Nat := []
  /-- Records started and not yet durable, oldest first; 06 R153; none [DC]. -/
  writing : List LedgerRec := []
  /-- Durable records that a replay reads: since the latest durable full set, oldest first; 06 R153; a flush-complete record [DC]. -/
  ledger : List LedgerRec := [{ kind := 4, seq := 0 }]
  /-- Sequence of the next record; U32; 06 R153; 1 [DC]. -/
  ledgerSeq : Nat := 1
  /-- Next granule of the ledger area, 0–262,143 over the 64 segments; 06 R153; 1 [DC]. -/
  ledgerNext : Nat := 1
  /-- Sequence of the latest durable record 0x3180.05; U32; 06; 0 [DC]. -/
  durableSeq : Nat := 0
  /-- RwD credit withheld because a pair reached its high-water mark; 06 R147; false [DC]. -/
  highWater : Bool := false
  /-- RwD credit withheld because the flush cost reached 2,000,000; 06 R148; false [DC]. -/
  costHeld : Bool := false
  /-- RwD credit withheld because the ledger holds 245,760 tracts; 06 R152; false [DC]. -/
  ledgerHeld : Bool := false
  /-- RwD credit withheld by an input dip until its last seal record; 06 R154; false [DC]. -/
  dipHeld : Bool := false
  /-- A flush is in progress; 06 R155; false [DC]. -/
  flushing : Bool := false
  /-- Number of the next drain unit when the flush began: those before it complete first; 06 R155; 0 [DC]. -/
  flushFrom : Nat := 0
  /-- The flush cannot drain everything: no flush-complete record is written; 11 R280; false [DC]. -/
  flushBroken : Bool := false
  /-- Write buffer pairs on one member 0x3180.07, bit n; U8; 06 R158; 0 [spec]. -/
  singlePairs : Nat := 0
  /-- Starved drain units 0x3180.06; U32; 06 R149; 0 [spec]. -/
  starvedCount : Nat := 0
  /-- Host shutdown state 0x3180.0A; ENUM persist; 06 R151; 0 [spec]. -/
  hostShutdown : Nat := 0
  /-- Last shutdown 0x3180.08: true dirty; ENUM persist; 06 R157; clean [spec]. -/
  lastDirty : Bool := false
  /-- Dirty shutdown count 0x3180.0C; U32 persist; 06 R157; 0 [spec]. -/
  dirtyCount : Nat := 0
  /-- Pair counts, slot pair × 8 + k: entries allocated, writes merged, full-stripe, read-modify-write, reconstruct-write units, programs issued, node entries, core periods at or above the high-water mark; 14 R338; 0 [spec]. -/
  counts : List Nat := List.replicate 64 0
  deriving DecidableEq, Repr

/-! ## Media, channels, arbiters -/

/-- The ranked requesters of a plane (07 R174). -/
inductive Engine where
  | drain | clear | scrub | migration | refresh | rebuild
  deriving DecidableEq, Repr

/-- A non-read operation asked of a plane (07 R174). -/
structure Job where
  /-- Who asks. -/
  engine : Engine := .drain
  /-- True: a clear segment; false: a program. -/
  clear : Bool := false
  /-- Granule address (program), or first granule address of the segment (clear). -/
  target : Nat := 0
  /-- Image to program. -/
  image : Granule := {}
  /-- Its drain unit, or 0. -/
  unit : Nat := 0
  /-- On whose behalf an engine asks: the tract of a migration, the parity group of a rebuild, else 0. -/
  owner : Nat := 0
  /-- Verify has failed once already; R180. -/
  retried : Bool := false
  /-- It has been issued once more after a lost STATUS; R171. -/
  reissued : Bool := false
  deriving DecidableEq, Repr

/-- States of a plane (07 R176). -/
inductive PlaneState where
  | idle | sensing | granted | aborting
  deriving DecidableEq, Repr

/-- A plane of a die and its arbiter (07 R162, R174–R176). -/
structure PlaneS where
  /-- Arbitration state; 07 R176; Idle [DC]. -/
  state : PlaneState := .idle
  /-- Latency-bound senses in progress (slots held), by read number; at most 16 with engine senses; 07 R174; none [DC]. -/
  senses : List Nat := []
  /-- Engine senses in progress; 07 R174; 0 [DC]. -/
  engineSenses : Nat := 0
  /-- Reads waiting: (read number, check threshold of the read in ns); 07 R176; none [DC]. -/
  waiting : List (Nat × Nat) := []
  /-- The operation that holds the plane; 07 R175; none [DC]. -/
  op : Option Job := none
  /-- Granules (or segments) left of the grant's burst; 07 R175; 0 [DC]. -/
  burst : Nat := 0
  /-- The governor has reserved room for the operation that holds the plane and has not started; 07 R174; false [DC]. -/
  room : Bool := false
  /-- Jobs that wait for a grant, oldest first; 07 R174; none [DC]. -/
  jobs : List Job := []
  /-- Ranks of the requesters, highest first; 07 R174; the order listed [spec]. -/
  ranks : List Engine := [.drain, .clear, .scrub, .migration, .refresh, .rebuild]
  /-- The plane's program buffer; 07 R163; a blank image [DC]. -/
  buffer : Granule := {}
  /-- Result the die holds for STATUS: 0 COMPLETE, 1 ABORTED, 2 FAIL, 3 BUSY; 07 R169; 0 [DC]. -/
  result : Nat := 0
  /-- ABORT has been issued once more; 07 R171; false [DC]. -/
  abortRepeated : Bool := false
  /-- Checks on the plane; U32; 07 0x3040.01; 0 [spec]. -/
  checks : Nat := 0
  deriving DecidableEq, Repr

/-- A die. -/
structure DieS where
  /-- Checks with wear; U64; 07; 0 [spec]. -/
  checksWear : Nat := 0
  /-- Programs; U64; 07; 0 [spec]. -/
  programs : Nat := 0
  /-- Clear segments; U64; 07; 0 [spec]. -/
  clears : Nat := 0
  /-- Reference fallbacks; U32; 07; 0 [spec]. -/
  fallbacks : Nat := 0
  /-- Low-margin senses; U32; 07; 0 [spec]. -/
  lowMargin : Nat := 0
  /-- Line senses; 48 bits; 14 R338; 0 [spec]. -/
  senses : Nat := 0
  /-- Operating times of failures to answer within the last 1 s; 07 R171; none [DC]. -/
  noAnswer : List Nat := []
  /-- Operating times at which bad granules were listed within 24 h; 07 R180; none [DC]. -/
  badTimes : List Nat := []
  /-- Granules of the probe sector programmed since manufacture; 07 R162, R183; 0 [DC]. -/
  probePrograms : Nat := 0
  deriving DecidableEq, Repr

/-- A channel. -/
structure ChannelS where
  /-- State 0x3010+c.00 but for fenced and probing: 0 off, 1 training, 2 active; 07 R445; 0 [spec]. -/
  state : Nat := 0
  /-- Lines transferred; U64; 07; 0 [spec]. -/
  lines : Nat := 0
  /-- Command counts: SENSE, ESENSE, HSENSE, PROG, CLRSEG; 14 R338; 0 [spec]. -/
  cmds : List Nat := [0, 0, 0, 0, 0]
  /-- Checks; U64; 07; 0 [spec]. -/
  checks : Nat := 0
  /-- Maximum read queue; U16; 07; 0 [spec]. -/
  maxQueue : Nat := 0
  /-- Bad-granule table: granule addresses, oldest first, at most 64; persist; 07 R180; empty [spec]. -/
  bad : List Nat := []
  /-- Timing tracking, thousandths of a beat; S32; 07; 0 [spec]. -/
  timing : Int := 0
  /-- Command parity errors; U32; 07 R170; 0 [spec]. -/
  parity : Nat := 0
  deriving DecidableEq, Repr

/-- The medium. -/
structure MediaS where
  /-- Granules by address (channel × 16 + die) × 2^27 + granule; blank [DC]. -/
  granules : Tab Granule := []
  /-- Planes by (channel × 16 + die) × 4 + plane; 07 R162; idle [DC]. -/
  planes : Tab PlaneS := []
  /-- Dies 0–575; 07; counts 0 [spec]. -/
  dies : Tab DieS := []
  /-- Channels 0–35; 07; off [spec]. -/
  channels : Tab ChannelS := []
  /-- Segments of sectors not yet cleared of an unfinished clear, key sector address → mask of segments done + 1; 07 R179; none [DC]. -/
  clearing : Tab Nat := []
  /-- Programs in progress, the governor's count; U16; 07 R181; 0 [DC]. -/
  governor : Nat := 0
  /-- Room reserved by grants whose operation has not started, counted as the governor counts; 07 R174; 0 [DC]. -/
  reserved : Nat := 0
  /-- Programs that engines have asked for and that have not finished and been checked: engine, on whose behalf, granule address, oldest first; 05 R128; none [DC]. -/
  work : List (Engine × Nat × Nat) := []
  /-- Checks of all dies 0x3000.05; U64; 07; 0 [spec]. -/
  checks : Nat := 0
  /-- Checks with wear 0x3000.06; U64; 07; 0 [spec]. -/
  checksWear : Nat := 0
  /-- Program failures 0x3000.08; U32 persist; 07 R180; 0 [spec]. -/
  failures : Nat := 0
  deriving DecidableEq, Repr

/-! ## Tracts -/

/-- A map entry (08 R185). -/
structure MapEntry where
  /-- STATE; 3 bits; 08 R185; Zero [spec]. -/
  state : TractState := .zero
  /-- MIG; 08 R185; 0 [spec]. -/
  mig : Bool := false
  /-- REFR; 08 R185; 0 [spec]. -/
  refr : Bool := false
  /-- BADG; 08 R185; 0 [spec]. -/
  badg : Bool := false
  /-- PT; 24 bits; 08 R185; 0 [spec] (an unlisted entry reads its shipment tract, log 12). -/
  pt : Nat := 0
  deriving DecidableEq, Repr

/-- States of a migration (08 R197). -/
inductive MigState where
  | queued | copying | sealing | sealed | clearing | releasing
  deriving DecidableEq, Repr

/-- A migration descriptor, or a queued migration (08 R196, R197). -/
structure Migration where
  /-- The tract. -/
  tract : Nat := 0
  /-- Cause 1–5; R196. -/
  cause : Nat := 1
  /-- Its state. -/
  state : MigState := .queued
  /-- Source physical tract. -/
  src : Nat := 0
  /-- Destination physical tract. -/
  dst : Nat := 0
  /-- Destination generation G + 1. -/
  gen : Nat := 0
  /-- Copy cursor: next stripe row. -/
  cursor : Nat := 0
  /-- Further causes met since it was queued; R199. -/
  also : List Nat := []
  /-- Source lines that could not be read and are copied with poison: stripe row × 36 + position × 4 + line; R198. -/
  lost : List Nat := []
  deriving DecidableEq, Repr

/-- A logical tract's activity record (08 R190). -/
structure Activity where
  /-- READS, less the full scans since `since`; 6 bits; 08 R190; 0 [spec]. -/
  reads : Nat := 0
  /-- Full scans already counted in READS; [model]; 0. -/
  since : Nat := 0
  /-- HEAT; 5 bits; 08 R192; 0 [spec]. -/
  heat : Nat := 0
  /-- OCC, growth of PEAK in the placement, units of 2,048 programs (read as units of 4,096); 08 R190; 0 [spec]. -/
  occ : Nat := 0
  /-- Count-cache remainder of line senses; 08 R193; 0 [DC]. -/
  senses : Nat := 0
  /-- Granule programs in the present heat period; 08 R192; 0 [DC]. -/
  programs : Nat := 0
  /-- Tract generation GEN of its physical copy; U32; 08 R197; 0 [DC]. -/
  gen : Nat := 0
  deriving DecidableEq, Repr

/-- The translation engine. -/
structure TractS where
  /-- Tract map and reserve map by tract number; 08 R185; Zero at the shipment tract [DC]. -/
  map : Tab MapEntry := []
  /-- Map checkpoint copy A: (STATE, PT) by tract number; 08 R187; as the map [DC]. -/
  ckptA : Tab MapEntry := []
  /-- Map checkpoint copy B; 08 R187; as the map [DC]. -/
  ckptB : Tab MapEntry := []
  /-- Activity records by logical tract; 08 R190; 0 [spec]. -/
  act : Tab Activity := []
  /-- PEAK by physical tract, 0xFFFF retired; U16; 08 R190; 0 [DC]. -/
  peak : Tab Nat := []
  /-- Units by which the PEAK of every physical tract that is not retired has been raised at once; U16; 08 R191; 0 [DC]. -/
  peakBase : Nat := 0
  /-- PEAK in wear checkpoint copy A; 08 R191; 0 [DC]. -/
  peakCkpt : Tab Nat := []
  /-- PEAK in wear checkpoint copy B; 08 R191; 0 [DC]. -/
  peakCkptB : Tab Nat := []
  /-- Units by which every PEAK of the wear checkpoint copies has been raised at once; 08 R191; 0 [DC]. -/
  baseCkpt : Nat := 0
  /-- Activity records in wear checkpoint copy A; 08 R190, R191; 0 [DC]. -/
  actCkpt : Tab Activity := []
  /-- Activity records in wear checkpoint copy B; 08 R190, R191; 0 [DC]. -/
  actCkptB : Tab Activity := []
  /-- System directory: physical tract of each system reserve tract, eight two-copy records of 40 in the parameter store; 08 R188; its shipment tract [DC]. -/
  directory : Tab Nat := []
  /-- Full scans, each of which adds one to the READS of every tract; 08 R193; 0 [DC]. -/
  scans : Nat := 0
  /-- Tracts in the count cache, the longest held first, at most 16,384; 08 R193; none [DC]. -/
  counted : List Nat := []
  /-- Estimated programs in the present 1 s epoch by granule address; 08 R191; 0 [DC]. -/
  epoch : Tab Nat := []
  /-- Physical tracts given up and not yet cleared: (PT, retire when freed); 08 R189, R201; none [DC]. -/
  dirtyPts : List (Nat × Bool) := []
  /-- Migrations, queued and running, in order of the queue; 08 R196; none [DC]. -/
  migs : List Migration := []
  /-- Reads dispatched to a physical tract and still sensing; 05 R129; 0 [DC]. -/
  readsOn : Tab Nat := []
  /-- Die row last chosen for a placement; 08 R195; 63 [DC]. -/
  lastRow : Nat := 63
  /-- Migrations completed by cause 1–5 0x3100.08; U64 each; 08; 0 [DC]. -/
  completed : List Nat := [0, 0, 0, 0, 0]
  /-- Migrations abandoned 0x3100.09; U32; 08; 0 [spec]. -/
  abandoned : Nat := 0
  /-- Retired tracts 0x3100.0B; U32 persist; 08; 0 [spec]. -/
  retired : Nat := 0
  /-- Granules refreshed 0x3100.0D; U64; 08; 0 [spec]. -/
  refreshed : Nat := 0
  /-- Physical tracts visited in the present sweep 0x3100.0E; U32; 08; 0 [DC]. -/
  sweep : Nat := 0
  /-- Last full scan 0x3100.0F: duration ms, headers, torn, discarded, adopted; persist; 08; 0 [DC]. -/
  lastScan : List Nat := [0, 0, 0, 0, 0]
  /-- Suspect tracts 0x3180.09 are those of the map; released, discarded 0x3190.03; U64 each persist; 18; 0 [spec]. -/
  decided : List Nat := [0, 0]
  /-- Map lookups and map copy failures (block 0x031); 14 R338; 0 [spec]. -/
  counts : List Nat := [0, 0]
  /-- Die rows with a health event for exhausted spares; 08 R202; none [DC]. -/
  spareRows : List Nat := []
  deriving DecidableEq, Repr

/-! ## Integrity -/

/-- The root record in the parameter store (09 R226). -/
structure RootRecord where
  /-- Record sequence; U32. -/
  seq : Nat := 0
  /-- 1 open, 2 closing. -/
  state : Nat := 2
  /-- Power-cycle count at the write; U32. -/
  cycles : Nat := 0
  /-- Tree generation; U32. -/
  treeGen : Nat := 0
  /-- Root digest; zero in state open. -/
  digest : Word64 := 0
  /-- Operating time at the write; 48 bits. -/
  time : Nat := 0
  deriving DecidableEq, Repr

/-- A debug window (09 R239). -/
structure DebugWin where
  /-- First DPA; U64; 0 [spec]. -/
  first : Nat := 0
  /-- Length; U64; 0 [spec]. -/
  len : Nat := 0
  /-- Lifetime in s; U32; 0 [DC]. -/
  life : Nat := 0
  /-- Operating time at which it opened; [model]; 0. -/
  opened : Nat := 0
  deriving DecidableEq, Repr

/-- The integrity engine. -/
structure IntegS where
  /-- Counter blocks by index i0 = DPA[43:12]; 09 R218; MAJOR 0, minors 0 [DC]. -/
  blocks : Tab CounterBlock := []
  /-- Tree nodes by level × 2^32 + index, levels 1–9 (L1–L3 on the medium and in node entries, L4–L9 pinned); 64 B; 09 R219; the shipment tree [DC]. -/
  nodes : Tab Line := []
  /-- Root register: MAC of L9 node 0–27; 64 bits each; 09 R226; the shipment tree [DC]. -/
  root : Tab Word64 := []
  /-- Integrity cache: keys level × 2^32 + index held; 09 R225; empty [spec]. -/
  cache : List Nat := []
  /-- Major high mark H; 56 bits; 09 R214; 0 [DC]. -/
  high : Nat := 0
  /-- Major reservation Hs 0x3200.09; 56 bits persist; 09 R214; 2^20 [DC]. -/
  reserve : Nat := 1048576
  /-- Root state 0x3200.00; ENUM; 09 R237; 0 [DC]. -/
  rootState : Nat := 0
  /-- Root record; 09 R226; closing [DC]. -/
  record : RootRecord := {}
  /-- Security alarms 0x3200.03; U32 persist; 09 R234; 0 [spec]. -/
  alarms : Nat := 0
  /-- Tag failures 0x3200.04; U32 persist; 09; 0 [spec]. -/
  tagFails : Nat := 0
  /-- Nodes recovered 0x3200.05; U32 persist; 09 R231; 0 [spec]. -/
  recovered : Nat := 0
  /-- Tracts re-established 0x3200.06; U32 persist; 09 R235; 0 [spec]. -/
  reestablished : Nat := 0
  /-- Cache hits, misses, node reads 0x3200.07; U64 each; 09; 0 [DC]. -/
  activity : List Nat := [0, 0, 0]
  /-- Counter overflows 0x3200.08; U64 persist; 09 R213; 0 [spec]. -/
  overflows : Nat := 0
  /-- Tree generation 0x3200.0C; U32 persist; 09 R207; 1 [spec]. -/
  treeGen : Nat := 1
  /-- Re-key status 0x3201.01: region; U8 persist; 09 R210; 0 [DC]. -/
  rekeyRegion : Nat := 0
  /-- Re-key state 0 idle, 1 running, 2 complete; U8 persist; 09 R210; 0 [spec]. -/
  rekeyState : Nat := 0
  /-- Spans of the running re-key still to do; 09 R210; none [DC]. -/
  rekeyLeft : List Nat := []
  /-- Extents done and total of the re-key; U16 each persist; 09; 0 [DC]. -/
  rekeyExtents : List Nat := [0, 0]
  /-- Result slot of the running re-key; 09 R210; 0 [DC]. -/
  rekeySlot : Nat := 0
  /-- Debug windows 0–3 0x3240.ww; 09 R239; length 0 [spec]. -/
  windows : Tab DebugWin := []
  /-- Tag checks, MAC checks, keystreams, tag failures and counter overflows since the last full module reset (block 0x032); 14 R338; 0 [spec]. -/
  counts : List Nat := [0, 0, 0, 0, 0]
  deriving DecidableEq, Repr

/-! ## ECC, scrub, rebuild -/

/-- A running scrub pass (10 R257–R260). -/
structure ScrubPass where
  /-- Ticket. -/
  ticket : Nat := 0
  /-- 0 DPA range, 1 physical range. -/
  kind : Nat := 0
  /-- Mode: true repair, false report only. -/
  repair : Bool := false
  /-- First, as requested. -/
  first : Nat := 0
  /-- Length, as requested. -/
  len : Nat := 0
  /-- Position of the next stripe row: rows visited so far. -/
  cursor : Nat := 0
  /-- Cancel asked; R259. -/
  cancel : Bool := false
  /-- Lines sensed, clean, corrected 1–3, corrected 4–7, flagged, rebuilt, unrecoverable, parity mismatches, header failures, granules rewritten, tracts skipped; R260. -/
  counts : List Nat := [0, 0, 0, 0, 0, 0, 0, 0, 0, 0, 0]
  /-- First unrecoverable DPA or granule, + 1. -/
  firstLost : Nat := 0
  /-- Operating time at its start. -/
  start : Nat := 0
  deriving DecidableEq, Repr

/-- A group's rebuild (10 R247–R251). -/
structure RebuildS where
  /-- Unit source, 0x3FF none; U16 persist; 10 0x3310+g; 0x3FF [spec]. -/
  unit : Nat := 0x3FF
  /-- A second unit covered by the same rebuild, 0x3FF none; 10 R250; 0x3FF [DC]. -/
  second : Nat := 0x3FF
  /-- 0 none, 1 running, 2 paused; U8 persist; 10; 0 [spec]. -/
  state : Nat := 0
  /-- Tracts done (cursor PT'); U32 persist; 10 R247; 0 [DC]. -/
  cursor : Nat := 0
  /-- Cursor in the parameter store, a multiple of 1,024; 10 R250; 0 [DC]. -/
  persisted : Nat := 0
  /-- Rows skipped; U32 persist; 10; 0 [DC]. -/
  skipped : Nat := 0
  /-- Start operating time; U64 persist; 10; 0 [DC]. -/
  start : Nat := 0
  /-- Touched table: rows PT' × 512 + row of the die row × 2^27 marked; 10 R248; empty [DC]. -/
  touched : List Nat := []
  deriving DecidableEq, Repr

/-- ECC, parity, scrub, rebuild. -/
structure ScrubS where
  /-- Line ECC counts 0x3300.03: clean, corrected 1–3, 4–7, flagged or failed, rebuilt, unrecoverable, rewrite queue drops, node lines decoded; 10 R243; 0 [DC]. -/
  ecc : List Nat := [0, 0, 0, 0, 0, 0, 0, 0]
  /-- Rewrite queue: granule addresses, oldest first, at most 4,096; 10 R242; empty [DC]. -/
  rewrite : List Nat := []
  /-- Header repairs 0x3300.04; U32 persist; 10 R244; 0 [spec]. -/
  headerRepairs : Nat := 0
  /-- Self-test result 0x3300.05: failing ECC pipes, header checkers, staging parts, keel checker; 10 R256; none failing [DC]. -/
  selfTest : List Nat := [0, 0, 0, 0]
  /-- Operating time of the self-test; U64; 10; 0 [DC]. -/
  selfTestAt : Nat := 0
  /-- Physical tracts visited in the present patrol period 0x3300.06; U32; 10; 0 [DC]. -/
  patrol : Nat := 0
  /-- Scrub passes running; at most 4; 10 R257; none [spec]. -/
  passes : List ScrubPass := []
  /-- Rebuilds of groups 0–3; 10 R247; none [spec]. -/
  rebuilds : Tab RebuildS := []
  /-- Migration, scrub, refresh, rebuild, clear engine counts, slot engine × 4 + k: operations, granules sensed, granules programmed, checks suffered (blocks 0x038–0x03C); 14 R338; 0 [spec]. -/
  engines : List Nat := List.replicate 20 0
  /-- Parity engine counts (block 0x034): degraded rebuilds, reconstructed rebuilds, computations, mismatches; 14 R338; 0 [spec]. -/
  parity : List Nat := [0, 0, 0, 0]
  deriving DecidableEq, Repr

/-! ## Staging and keel SRAM -/

/-- One SRAM: staging part 0–15, keel SRAM 16, mailbox buffers 17 (10 R253). -/
structure SramS where
  /-- Write-before-read initialisation has ended; 01 R34; false [spec]. -/
  ready : Bool := false
  /-- Corrected words since the last full module reset; U32; 10 0x3320; 0 [spec]. -/
  corrected : Nat := 0
  /-- Uncorrectable words; U32; 10 0x3320; 0 [spec]. -/
  uncorrectable : Nat := 0
  /-- Operating times of corrected words within one operating hour; 10 R254; none [DC]. -/
  corrTimes : List Nat := []
  /-- Operating times of uncorrectable words within one operating hour; 10 R254; none [DC]. -/
  uncTimes : List Nat := []
  deriving DecidableEq, Repr

/-- Staging SRAM service state (01 R29–R33). -/
structure StagingS where
  /-- SRAMs; 10 R253; uninitialised [spec]. -/
  srams : Tab SramS := []
  /-- Group B parts whose parity eighth is being recomputed (5 ms after their fence), numbers; 01 R32; none [DC]. -/
  parityDue : List Nat := []
  /-- Group B parts whose wear band is being reloaded; 01 R32; none [DC]. -/
  bandDue : List Nat := []
  /-- Parts whose restoration copy runs (last part of the probe); 06 R159; none [DC]. -/
  restoring : List Nat := []
  /-- Pinned-tree parity words by 64 B word of a band, 0–131,071; 512 bits each; 01 R31; the XOR of the shipment tree's bands [DC]. -/
  parity : Tab Line := []
  deriving DecidableEq, Repr

/-! ## Faults -/

/-- A fenceable unit's record (11 R274). -/
structure UnitS where
  /-- State; 11 R274; Active [spec]. -/
  state : UnitState := .active
  /-- The quiet timer runs from this operating time + 1; 0 not running; 11 R274; 0 [DC]. -/
  quiet : Nat := 0
  /-- The quiet timer stopped at expiry and the die waits for its channel; 11 R274; false [DC]. -/
  waitsChannel : Bool := false
  /-- Operating times of re-admissions within the last 24 operating hours; persist; 11 R275; none [spec]. -/
  readmissions : List Nat := []
  /-- The probe came from Held; 11 R274; false [DC]. -/
  fromHeld : Bool := false
  deriving DecidableEq, Repr

/-- A source's counts (11 0x4020.01). -/
structure SourceS where
  /-- C0–C3 messages; U32 each; 11; 0 [DC]. -/
  counts : List Nat := [0, 0, 0, 0]
  /-- Minutes of operating time of C1 messages within the last 60: (minute, count); 11 R268; none [spec]. -/
  hour : List (Nat × Nat) := []
  deriving DecidableEq, Repr

/-- The fault collector. -/
structure FaultS where
  /-- Fault queue, oldest first, at most 256; 64-bit messages; 01 R23; empty [DC]. -/
  queue : List Word64 := []
  /-- Messages lost since the queue was last below half full; 01 R23; 0 [DC]. -/
  lost : Nat := 0
  /-- Fault queue overflow 0x4000.10; U32; 01 R23; 0 [spec]. -/
  overflow : Nat := 0
  /-- Queue high mark 0x4000.11; U16; 11; 0 [spec]. -/
  highMark : Nat := 0
  /-- Messages taken 0x4000.00; U64; 11; 0 [spec]. -/
  taken : Nat := 0
  /-- C0–C3 messages 0x4000.01–.04; U64 each persist; 11; 0 [spec]. -/
  classes : List Nat := [0, 0, 0, 0]
  /-- Sticky bits 0x4010, source numbers set, rising; persist; 11 R270; none [spec]. -/
  sticky : List Nat := []
  /-- Sticky bits set and not yet in the parameter store; 11 R270; none [DC]. -/
  stickyDue : List Nat := []
  /-- Sources from which a message has come while a write that clears their bit is in progress; 11 R270; none [DC]. -/
  stickyAgain : List Nat := []
  /-- Units by source; 11 R274; Active [spec]. -/
  units : Tab UnitS := []
  /-- Source records; 11; 0 [DC]. -/
  sources : Tab SourceS := []
  /-- Fence reactions (block 0x068); 14 R338; 0 [spec]. -/
  fences : Nat := 0
  /-- Last C3 0x4040.04: message; U64 persist; 11; 0 [DC]. -/
  lastC3 : Word64 := 0
  /-- Operating time of the last C3; U64; 11; 0 [DC]. -/
  lastC3At : Nat := 0
  /-- Power-cycle count of the last C3; U32; 11; 0 [DC]. -/
  lastC3Cycle : Nat := 0
  /-- Operations of fencing commands in progress: source → slot + 1; 11 R277; none [DC]. -/
  cmdSlots : Tab Nat := []
  deriving DecidableEq, Repr

/-- Easy-all. -/
structure EasyS where
  /-- Easy-all state 0x4040.00; ENUM; 11; 0 [spec]. -/
  state : EasyState := .out
  /-- Cause bits 0x4040.01: C3, C2 stop, T4, Operator, input loss, no link, core off, engine stall; 8 bits; 11 R279; 0 [spec]. -/
  causes : BitVec 8 := 0
  /-- Entries since manufacture 0x4040.03; U32 persist; 11; 0 [spec]. -/
  entries : Nat := 0
  /-- Entries since the last full module reset (block 0x068 slot 3); 14 R338; 0 [spec]. -/
  volatileEntries : Nat := 0
  /-- Units whose C2 reaction set bit 1; 11 R279, R281; none [DC]. -/
  stopUnits : List Nat := []
  /-- The core goes down to Standby when the flush ends; 02 R61; false [DC]. -/
  thenDown : Bool := false
  /-- Slots of commands waiting for entry (false) or exit (true); 11; none [DC]. -/
  slots : List (Nat × Bool) := []
  deriving DecidableEq, Repr

/-! ## Start -/

/-- Start, review and recovery. -/
structure StartS where
  /-- Start phase 0x5090.00; ENUM; 18; keel boot [spec]. -/
  phase : StartPhase := .keelBoot
  /-- Kind of the latest start 0x5090.01: 1 power-on, 2 full module reset, 3 core restart; ENUM persist; 18; 1 [DC]. -/
  kind : Nat := 1
  /-- The present start is clean; BOOL; 18 R415; true [DC]. -/
  clean : Bool := true
  /-- The maps are loaded (or the full scan has ended); 18 R413; false [spec]. -/
  mapsLoaded : Bool := false
  /-- The root has been rebuilt and judged, and adopted where needed; 18 R413; false [spec]. -/
  rootDone : Bool := false
  /-- Every core, staging, media, port domain has qualified; 18 R412; false [spec]. -/
  powered : Bool := false
  /-- Review state 0x3190.00: 0 no, 1 review, 2 automatic decision; ENUM; 18 R417; 0 [spec]. -/
  review : Nat := 0
  /-- The keel checker failed: no service; 10 R256; false [DC]. -/
  keelFailed : Bool := false
  /-- Core start is in progress or data service was reached since power went up; 18; false [DC]. -/
  dataReady : Bool := false
  /-- A Core start has begun since the keel island left reset (the next one is a core restart); [model]; false. -/
  began : Bool := false
  /-- Operating time at the origin of the present start 0x5090.01; U64 persist; 18; 0 [DC]. -/
  origin : Nat := 0
  /-- Times of 0x5090.01 in ms from the origin: management ready, core powered, maps loaded, scan ended, root judged, data ready; U32 each persist; 18; 0 [DC]. -/
  times : List Nat := [0, 0, 0, 0, 0, 0]
  /-- Slot of a pending root decision; 09 R237; 0 [DC]. -/
  rootSlot : Nat := 0
  deriving DecidableEq, Repr

/-! ## Cox, boot flash, parameter store, images -/

/-- Option word fields (17 R395). -/
structure Options where
  /-- ROLLBACK_MIN; U8; 17 R395; 0 [spec]. -/
  rollbackMin : Nat := 0
  /-- BP_RESET; 2 bits; 17 R395; 0b01 [spec]. -/
  bpReset : Nat := 1
  /-- WDT_BOOT; 14 bits, 10 ms; 17 R395; 0x64 [spec]. -/
  wdtBoot : Nat := 0x64
  /-- DBG_LOCK; 17 R395; 0 [spec]. -/
  dbgLock : Bool := false
  /-- T1S_OFF; 17 R395; 0 [spec]. -/
  t1sOff : Bool := false
  deriving DecidableEq, Repr

/-- A line of a Cox cache: its tag, its parity bits as they check, its 64 B (17 R384). -/
structure CacheLine where
  /-- Tag: address div 8,192; 17 R384. -/
  tag : Nat := 0
  /-- Its parity bits are whole; 17 R384. -/
  parityOk : Bool := true
  /-- The 64 bytes; 17 R384. -/
  data : Line := 0
  deriving DecidableEq, Repr

/-- The management processor and its watchdog. -/
structure CoxS where
  /-- Cox state 0x6200.05: 0 boot ROM, 1 firmware starting, 2 management ready; ENUM; 17; 0 [spec]. -/
  state : Nat := 0
  /-- No image verified: no firmware runs; 17 R397; false [DC]. -/
  dead : Bool := false
  /-- Instruction scratchpad converted 0x6200.00; BOOL; 17 R387; false [spec]. -/
  iScratch : Bool := false
  /-- Data scratchpad converted; BOOL; 17 R387; false [spec]. -/
  dScratch : Bool := false
  /-- Instruction cache: valid lines by set × 4 + way, 128 sets of four ways; 17 R384; invalid [spec]. -/
  iCache : List (Nat × CacheLine) := []
  /-- Data cache, as the instruction cache; 17 R384; invalid [spec]. -/
  dCache : List (Nat × CacheLine) := []
  /-- Watchdog timeout in force, ms; 17 R402; 1000 [spec] (WDT_BOOT 0x64 × 10 ms). -/
  watchdogMs : Nat := 1000
  /-- Watchdog resets 0x6200.03; U32 persist; 17 R402; 0 [spec]. -/
  resets : Nat := 0
  /-- Last watchdog reset 0x6200.04: operating time, cycle, firmware, ms to ready; persist; 17; 0 [DC]. -/
  lastReset : List Nat := [0, 0, 0, 0]
  /-- The orphan timer runs since this operating time + 1; 0 stopped; 17 R405; 0 [spec]. -/
  orphan : Nat := 0
  /-- The orphan limit was reached in the present orphan period; 18 R425; false [DC]. -/
  orphanLimit : Bool := false
  /-- Last orphan period 0x6200.06: ms, operating time, records not staged, limit reached; persist; 18; 0 [DC]. -/
  lastOrphan : List Nat := [0, 0, 0, 0]
  /-- Records not staged at the start of the orphan period; [model]; 0. -/
  orphanLostAt : Nat := 0
  /-- Operating time of the latest management ready; [model]; 0. -/
  readyAt : Nat := 0
  /-- Operating time of the latest Cox reset; [model]; 0. -/
  resetAt : Nat := 0
  /-- The present or latest Cox reset was a watchdog reset (or an activation); 17 R403; false [spec]. -/
  byWatchdog : Bool := false
  /-- The present restart is an activation; 17 R400; false [DC]. -/
  byActivate : Bool := false
  /-- Start cause for the start record: 1 power-on, 2 full reset, 3 watchdog; 14 R331; 1 [DC]. -/
  startCause : Nat := 1
  /-- Option words latched; 17 R395; factory defaults [spec]. -/
  options : Options := {}
  /-- Option state 0x6010.01; ENUM; 17 R396; 0 [DC]. -/
  optionState : Nat := 0
  deriving DecidableEq, Repr

/-- An operation of the boot flash (17 R389–R393). -/
inductive FlashOp where
  /-- Program a word: class 2 Logbook, 3 journal, 4 option or image. -/
  | program (cls sector : Nat)
  /-- Erase a sector. -/
  | erase (sector : Nat)
  deriving DecidableEq, Repr

/-- The boot flash. -/
structure FlashS where
  /-- Operation running; 17 R393 0x6000.05; none [spec]. -/
  running : Option FlashOp := none
  /-- Operating time at which the running operation started; [model]; 0. -/
  startedAt : Nat := 0
  /-- Erase suspended beneath; sector; 17 R392; none [spec]. -/
  suspended : Option Nat := none
  /-- Suspend depth 0–7, requests that wait for a program or the 500 µs included; U8; 17 R392; 0 [spec]. -/
  depth : Nat := 0
  /-- Time that the erase running or suspended ran before its latest suspension, ms; 17 R389, R392; 0 [spec]. -/
  ran : Nat := 0
  /-- The resumed erase has not yet run 500 µs; 17 R392; false [spec]. -/
  minimumRun : Bool := false
  /-- Operations waiting, in class order; 17 R393; none [DC]. -/
  queue : List FlashOp := []
  /-- Sectors whose unfinished-erase flag is set; 17 R394; none [DC]. -/
  flags : List Nat := []
  /-- Words programmed, sectors erased, corrected, uncorrectable, flagged erases completed 0x6000.06; persist; 17; 0 [spec]. -/
  counts : List Nat := [0, 0, 0, 0, 0]
  /-- Option words stored: valid contents, none while torn or erased; 17 R395; the defaults [DC]. -/
  optionWords : Option Options := some {}
  /-- An option rewrite in progress: words still to program and the slot; 17 R396; none [DC]. -/
  optionWrite : Option (Options × Nat × Nat) := none
  /-- An option rewrite was cut off, and none has ended since; 17 R396; false [DC]. -/
  optionCut : Bool := false
  deriving DecidableEq, Repr

/-- One firmware image (17 R398, R399). -/
structure ImageS where
  /-- 0 Blank, 1 Erasing, 2 Receiving, 3 Valid, 4 Invalid, 5 Active, 6 Trial; ENUM; 17; 0 [DC] (image A is Active at reset). -/
  state : Nat := 0
  /-- Version; U32; 17; 0 [DC]. -/
  version : Nat := 0
  /-- Rollback level; U8; 17; 0 [DC]. -/
  rollback : Nat := 0
  /-- Length; U32; 17; 0 [DC]. -/
  len : Nat := 0
  /-- Sectors still to erase; 17 R399; 0 [DC]. -/
  toErase : Nat := 0
  /-- Offsets of words programmed since the erase, rising; 17 R399; none [DC]. -/
  words : List Nat := []
  deriving DecidableEq, Repr

/-- Firmware images and the boot selection record. -/
structure ImagesS where
  /-- Image A; 17 R399; Active [DC]. -/
  a : ImageS := { state := 5, len := 8192 }
  /-- Image B; 17 R399; Blank [DC]. -/
  b : ImageS := {}
  /-- Active image: false A, true B; boot selection record, persist; 17 R400; A [DC]. -/
  activeB : Bool := false
  /-- Trial image: none, some false A, some true B; persist; 17 R400; none [spec]. -/
  trial : Option Bool := none
  /-- Trial attempts; U8 persist; 17 R400; 0 [spec]. -/
  attempts : Nat := 0
  /-- Image that runs: false A, true B; 17 R400; A [DC]. -/
  runsB : Bool := false
  /-- Slot of the running update command; 17; none [DC]. -/
  slot : Option Nat := none
  /-- Slot of the activation; 17 R400; none [DC]. -/
  activateSlot : Option Nat := none
  deriving DecidableEq, Repr

/-- A page write of the parameter store (17 R407–R411). -/
structure PageWrite where
  /-- First page. -/
  page : Nat := 0
  /-- Pages left of the write, this one included. -/
  left : Nat := 1
  /-- It has failed its verify once. -/
  failedOnce : Bool := false
  /-- The record's second copy still follows: pages of a copy, or 0. -/
  copy1 : Nat := 0
  /-- The first copy stands on a page that fails, with no spare left; 17 R411. -/
  firstBad : Bool := false
  deriving DecidableEq, Repr

/-- The parameter store. -/
structure ParamS where
  /-- BP[1:0]; 2 bits 0x6100.02; 17 R408; BP_RESET 0b01 [spec]. -/
  bp : Nat := 1
  /-- Page writes queued, the first one running; 17 R407; none [DC]. -/
  queue : List PageWrite := []
  /-- Pages retired; 17 R411; none [DC]. -/
  retired : List Nat := []
  /-- Spare pages free 1,024–2,047; 17 R411; 1024 [DC]. -/
  spares : Nat := 1024
  /-- Records lost 0x6100.03; U32; 17 R409; 0 [DC]. -/
  lost : Nat := 0
  /-- Sequence of a state record, by its page: writes made, the same in both copies; U32; 17 R409; 0 [DC]. -/
  seqs : Tab Nat := []
  /-- Page writes by area of R406 0x6100.04; six U64 persist; 17; 0 [spec]. -/
  writes : List Nat := [0, 0, 0, 0, 0, 0]
  deriving DecidableEq, Repr

/-! ## Logbook and Tally -/

/-- A Logbook record's body (14 R331, R334). -/
inductive LogBody where
  | fault (msg : Word64)
  | queueLoss (lost : Nat)
  | management (code : Nat) (req : Req) (outcome index mem ticket sess : Nat) (value : List Byte)
  | security (kind region count dpa source : Nat)
  | power (kind state mv mw : Nat)
  | headEvent (mask type : Nat) (payload : List Byte)
  | start (cause lastDurable firmware : Nat)
  | stagingLoss (lost first : Nat)
  | damage (word : Nat)
  | areaFCleared (count : Nat)
  | snapshot (defn trigger part last cause : Nat) (items : List (ObjRef × Nat × List Byte))
  deriving DecidableEq, Repr

/-- A Logbook record (14 R330). -/
structure LogRec where
  /-- Sequence; U32. -/
  seq : Nat := 0
  /-- Operating time; U48. -/
  time : Nat := 0
  /-- Power-cycle count; U32. -/
  cycles : Nat := 0
  /-- Body. -/
  body : LogBody := .damage 0
  deriving DecidableEq, Repr

/-- A snapshot definition 0x4120.0n (14 R332). -/
structure SnapDef where
  /-- Trigger 0–6; U8; 14 R332; 0 [spec]. -/
  trigger : Nat := 0
  /-- Parameter; U32; 14 R332; 0 [DC]. -/
  param : Nat := 0
  /-- Objects, at most 32; 14 R332; none [DC]. -/
  objs : List ObjRef := []
  deriving DecidableEq, Repr

/-- The Logbook. -/
structure LogS where
  /-- Staged records not yet durable, oldest first; 128 KiB ring; 14 R324; empty [spec]. -/
  staged : List LogRec := []
  /-- Area C, oldest first; 14 R325; empty [DC]. -/
  areaC : List LogRec := []
  /-- Area F, oldest first, at most 4,096; 14 R324; empty [DC]. -/
  areaF : List LogRec := []
  /-- Next sequence number; U32; 14 R328; 1 [spec]. -/
  next : Nat := 1
  /-- Sequence reservation in the parameter store; U32; 14 R328; 65537 [spec]. -/
  reserve : Nat := 65537
  /-- Last durable sequence; U32; 14; 0 [DC]. -/
  lastDurable : Nat := 0
  /-- Records not staged 0x4100.01; U32; 14 R327; 0 [spec]. -/
  notStaged : Nat := 0
  /-- Records lost since the last staging-loss record; 14 R327; 0 [DC]. -/
  lostNow : Nat := 0
  /-- Operating time of the first of them; 14 R327; 0 [DC]. -/
  lostFirst : Nat := 0
  /-- Area F is being cleared: slot and sectors left; 14 R337; none [DC]. -/
  clearing : Option (Nat × Nat) := none
  /-- Snapshot definitions 0–3; 14 R332; off [spec]. -/
  defs : Tab SnapDef := []
  /-- Trigger overruns 0x4121.01; U32; 14 R334; 0 [spec]. -/
  overruns : Nat := 0
  /-- Records staged, bytes written out, sectors erased (block 0x069); 14 R338; 0 [spec]. -/
  counts : List Nat := [0, 0, 0]
  deriving DecidableEq, Repr

/-- Tally (14 R338–R343). -/
structure TallyS where
  /-- Snapshot number; U64; 14 R339; 0 [spec]. -/
  number : Nat := 0
  /-- Operating time of the sample instant; U48; 14; 0 [DC]. -/
  time : Nat := 0
  /-- The active snapshot: block × 8 + slot; U64 each; 14 R339; 0 [spec]. -/
  snap : Tab Nat := []
  /-- The counter values latched at the previous sample (48 bits); 14 R339; 0 [spec]. -/
  latched : Tab Nat := []
  /-- Bases of objects written 0, by object key; 14 R340; 0 [spec]. -/
  bases : Tab Nat := []
  /-- Slot values at the start of the present bandwidth window, by port × 2 (+1 for writes); 14 R341; 0 [DC]. -/
  winStart : List Nat := [0, 0, 0, 0, 0, 0, 0, 0]
  /-- Read and write rates of ports 0–3 in B/s 0x4200.03; U64 each; 14 R341; 0 [DC]. -/
  rates : List Nat := [0, 0, 0, 0, 0, 0, 0, 0]
  /-- Snapshot number at which the window of the rates ended; U64; 14; 0 [DC]. -/
  winSnap : Nat := 0
  /-- The window in progress was discarded by a change of window or period; 14 R341; false [DC]. -/
  winDiscard : Bool := false
  /-- Tally's own counts (block 0x06B): snapshots, samples discarded, windows; 14 R338; 0 [spec]. -/
  counts : List Nat := [0, 0, 0]
  /-- Highest, median and lowest PEAK of the occupied physical tracts at the sample instant, for 0x3100.0C; U16 each; 08, 01 R22; 0 [DC]. -/
  wear : List Nat := [0, 0, 0]
  deriving DecidableEq, Repr

/-! ## Management network -/

/-- A subscription slot (12 R296). -/
structure SubSlot where
  /-- What it subscribes to; ENUM; 12 R296. -/
  kind : SubKind := .none
  /-- Minimum interval between two NOTIFYs, ms; 12 R296. -/
  minMs : Nat := 0
  /-- Index of the object subscribed to; U16; 12 R296. -/
  index : Nat := 0
  /-- Member of the object subscribed to; U8; 12 R296. -/
  mem : Nat := 0
  /-- Mask of classes or events; 12 R296. -/
  mask : Nat := 0
  /-- A NOTIFY has been sent and the minimum interval still runs. -/
  running : Bool := false
  /-- Events within the interval. -/
  heldCount : Nat := 0
  /-- Content of the latest held event. -/
  heldContent : List Byte := []
  deriving DecidableEq, Repr

/-- A response kept for its sequence (12 R293). -/
structure Stored where
  /-- Sequence answered; U32; 12 R293. -/
  seq : Nat := 0
  /-- Service of the response; U8; 12 R288, R293. -/
  service : Nat := 0
  /-- Status of the response; U8; 12 R288, R293. -/
  status : Nat := 0
  /-- Ticket of the response; U32; 12 R293. -/
  ticket : Nat := 0
  /-- Value of the response; 12 R293. -/
  value : List Byte := []
  deriving DecidableEq, Repr

/-- A WOP session (12 R293, R294). -/
structure SessS where
  /-- The session is open. -/
  opened : Bool := false
  /-- Role opened; ENUM; 12 R292. -/
  role : Role := .observer
  /-- 0 T1S, 1–8 head + 1. -/
  path : Nat := 0
  /-- A valid request has been received since OPEN; R294. -/
  used : Bool := false
  /-- Operating time of the last valid request. -/
  lastAt : Nat := 0
  /-- Highest accepted sequence; U32. -/
  highest : Nat := 0
  /-- The last 4 sequences answered, with their stored responses, oldest first; R293. -/
  answered : List Stored := []
  /-- Module sequence; U32; R293. -/
  modSeq : Nat := 0
  /-- Manager number. -/
  manager : Nat := 0
  /-- Manager nonce of the OPEN or the mailbox open request; 16 B; R292, R299. -/
  peer : Nat := 0
  /-- Module nonce, as a free value's number; R294. -/
  nonce : Nat := 0
  /-- Subscription slots 0–7. -/
  subs : Tab SubSlot := []
  deriving DecidableEq, Repr

/-- A bulk transfer (12 R298). -/
structure BulkS where
  /-- Bulk number; 12 R298. -/
  number : Nat := 0
  /-- Its session; 12 R298. -/
  sess : Nat := 0
  /-- Key of its object, index × 256 + member; 12 R298. -/
  key : Nat := 0
  /-- Direction; 12 R298. -/
  fromModule : Bool := false
  /-- Total length, B; 12 R298. -/
  total : Nat := 0
  /-- Next offset expected (to module) or acknowledged (from module). -/
  next : Nat := 0
  /-- Bytes received since the last acknowledgement. -/
  sinceAck : Nat := 0
  /-- An out-of-order segment waits for its 50 ms acknowledgement. -/
  outOfOrder : Bool := false
  /-- The value sent from the module, as it was at the start of the transfer. -/
  data : List Byte := []
  /-- End of the segments sent (from module). -/
  sent : Nat := 0
  deriving DecidableEq, Repr

/-- The management network and WOP. -/
structure WopS where
  /-- PLCA status 0x1100.06: 0 off, 1 beacons present, 2 fallen back; ENUM; 12 R285; 0 [DC]. -/
  plca : Nat := 0
  /-- Frame counts 0x1100.07: sent, accepted, FCS, link, network, port, malformed, not for module, tag, sequence, collisions, excess; 12 R286; 0 [spec]. -/
  frames : List Nat := [0, 0, 0, 0, 0, 0, 0, 0, 0, 0, 0, 0]
  /-- Beacons, transmit opportunities, WOP requests, NOTIFY sent (block 0x06A); 14 R338; 0 [spec]. -/
  counts : List Nat := [0, 0, 0, 0]
  /-- Pool address conflict 0x1101.02; BOOL; 12 R291; false [spec]. -/
  conflict : Bool := false
  /-- An ADVERTISE answer waits; 12 R290; false [spec]. -/
  answerDue : Bool := false
  /-- Role keys of Observer, Operator, Custodian: 0 unset, 1 shipment, 2 set; 12 R295; 0, 0, 1 [spec]. -/
  keys : List Nat := [0, 0, 1]
  /-- The keys themselves where a write has set them, as free values' numbers; 256 bits each; 12 R292, R295; 0 [DC]. -/
  keyDraws : List Nat := [0, 0, 0]
  /-- Sessions by number; 12 R294; none [spec]. -/
  sess : Tab SessS := []
  /-- Tag failures in the present second; 12 R295; 0 [DC]. -/
  tagFails : Nat := 0
  /-- Bulk transfers; at most two; 12 R298; none [spec]. -/
  bulks : List BulkS := []
  /-- Number of the next bulk transfer; U16; 12 R298; 1 [DC]. -/
  nextBulk : Nat := 1
  deriving DecidableEq, Repr

/-! ## The state -/

/-- The state of the module. -/
structure State where
  /-- Time and cycles. -/
  tim : TimeS := {}
  /-- Object dictionary store, tickets. -/
  obj : ObjS := {}
  /-- Input stage, power state, sequencer, sideband. -/
  pwr : PowerS := {}
  /-- Seat bus and Seats. -/
  seat : SeatBusS := {}
  /-- Hold-up bank. -/
  bank : BankS := {}
  /-- Thermal front end. -/
  thm : ThermS := {}
  /-- Health and ageing. -/
  hlt : HealthS := {}
  /-- Ports, links, heads. -/
  hst : HostS := {}
  /-- Extents and regions. -/
  ext : ExtS := {}
  /-- Reads in flight, line order point. -/
  rdp : ReadPathS := {}
  /-- Write buffer, drain, ledger. -/
  wb : WbS := {}
  /-- The medium, channels, arbiters. -/
  med : MediaS := {}
  /-- Tract translation. -/
  trc : TractS := {}
  /-- Integrity engine. -/
  itg : IntegS := {}
  /-- ECC, scrub, rebuild. -/
  scr : ScrubS := {}
  /-- Staging and keel SRAM. -/
  stg : StagingS := {}
  /-- Fault collector. -/
  flt : FaultS := {}
  /-- Easy-all. -/
  easy : EasyS := {}
  /-- Start, review. -/
  str : StartS := {}
  /-- Cox, watchdog, options. -/
  cox : CoxS := {}
  /-- Boot flash. -/
  fls : FlashS := {}
  /-- Firmware images. -/
  img : ImagesS := {}
  /-- Parameter store. -/
  par : ParamS := {}
  /-- Logbook. -/
  log : LogS := {}
  /-- Tally. -/
  tly : TallyS := {}
  /-- Management network and WOP. -/
  wop : WopS := {}
  /-- Outputs so far, oldest first: the host interface; [model]; none. -/
  out : List Out := []
  /-- Counter of free values drawn (each draw applies an opaque function of Config to it); [model]; 0 [DC]. -/
  free : Nat := 0
  /-- Commands that wait, first in first out; [model]; none. -/
  pending : List Instr := []
  deriving DecidableEq, Repr

/-- The module right after reset: at shipment, the keel island just released, in Standby (log 2). -/
def State.reset : State := {}

end Sys2Proof.Machine
end

