-- ==== Sys2Proof/Machine/Upd.lean ====
section
/-! DEFINITION. One update per field of State: the meanings change the state only through these, so that what a command
leaves alone is read off the updates it makes (Sys2Proof/Laws/State.lean has one lemma per field per update). -/

namespace Sys2Proof.Machine

/-- Change the group `tim`. -/
def State.modTim (f : TimeS → TimeS) (s : State) : State :=
  { s with tim := f s.tim }

/-- Change the group `obj`. -/
def State.modObj (f : ObjS → ObjS) (s : State) : State :=
  { s with obj := f s.obj }

/-- Change the group `pwr`. -/
def State.modPwr (f : PowerS → PowerS) (s : State) : State :=
  { s with pwr := f s.pwr }

/-- Change the group `seat`. -/
def State.modSeat (f : SeatBusS → SeatBusS) (s : State) : State :=
  { s with seat := f s.seat }

/-- Change the group `bank`. -/
def State.modBank (f : BankS → BankS) (s : State) : State :=
  { s with bank := f s.bank }

/-- Change the group `thm`. -/
def State.modThm (f : ThermS → ThermS) (s : State) : State :=
  { s with thm := f s.thm }

/-- Change the group `hlt`. -/
def State.modHlt (f : HealthS → HealthS) (s : State) : State :=
  { s with hlt := f s.hlt }

/-- Change the group `hst`. -/
def State.modHst (f : HostS → HostS) (s : State) : State :=
  { s with hst := f s.hst }

/-- Change the group `ext`. -/
def State.modExt (f : ExtS → ExtS) (s : State) : State :=
  { s with ext := f s.ext }

/-- Change the group `rdp`. -/
def State.modRdp (f : ReadPathS → ReadPathS) (s : State) : State :=
  { s with rdp := f s.rdp }

/-- Change the group `wb`. -/
def State.modWb (f : WbS → WbS) (s : State) : State :=
  { s with wb := f s.wb }

/-- Change the group `med`. -/
def State.modMed (f : MediaS → MediaS) (s : State) : State :=
  { s with med := f s.med }

/-- Change the group `trc`. -/
def State.modTrc (f : TractS → TractS) (s : State) : State :=
  { s with trc := f s.trc }

/-- Change the group `itg`. -/
def State.modItg (f : IntegS → IntegS) (s : State) : State :=
  { s with itg := f s.itg }

/-- Change the group `scr`. -/
def State.modScr (f : ScrubS → ScrubS) (s : State) : State :=
  { s with scr := f s.scr }

/-- Change the group `stg`. -/
def State.modStg (f : StagingS → StagingS) (s : State) : State :=
  { s with stg := f s.stg }

/-- Change the group `flt`. -/
def State.modFlt (f : FaultS → FaultS) (s : State) : State :=
  { s with flt := f s.flt }

/-- Change the group `easy`. -/
def State.modEasy (f : EasyS → EasyS) (s : State) : State :=
  { s with easy := f s.easy }

/-- Change the group `str`. -/
def State.modStr (f : StartS → StartS) (s : State) : State :=
  { s with str := f s.str }

/-- Change the group `cox`. -/
def State.modCox (f : CoxS → CoxS) (s : State) : State :=
  { s with cox := f s.cox }

/-- Change the group `fls`. -/
def State.modFls (f : FlashS → FlashS) (s : State) : State :=
  { s with fls := f s.fls }

/-- Change the group `img`. -/
def State.modImg (f : ImagesS → ImagesS) (s : State) : State :=
  { s with img := f s.img }

/-- Change the group `par`. -/
def State.modPar (f : ParamS → ParamS) (s : State) : State :=
  { s with par := f s.par }

/-- Change the group `log`. -/
def State.modLog (f : LogS → LogS) (s : State) : State :=
  { s with log := f s.log }

/-- Change the group `tly`. -/
def State.modTly (f : TallyS → TallyS) (s : State) : State :=
  { s with tly := f s.tly }

/-- Change the group `wop`. -/
def State.modWop (f : WopS → WopS) (s : State) : State :=
  { s with wop := f s.wop }

/-- Change the group `out`. -/
def State.modOut (f : List Out → List Out) (s : State) : State :=
  { s with out := f s.out }

/-- Change the group `free`. -/
def State.modFree (f : Nat → Nat) (s : State) : State :=
  { s with free := f s.free }

/-- Change the group `pending`. -/
def State.modPending (f : List Instr → List Instr) (s : State) : State :=
  { s with pending := f s.pending }

end Sys2Proof.Machine
end

