-- ==== Sys2Proof/Machine/Flags.lean ====
section
/-! DEFINITION. Everything computed from the state: accessors of tables, classes and fence targets of fault kinds, the status
words LINK_STATUS and BOUND_STATUS, head and port states, the governor's limit, the health and thermal figures. -/

namespace Sys2Proof.Machine

/-! ## Accessors -/

/-- Port `p`. -/
def State.port (s : State) (p : Nat) : PortS := Tab.rd {} s.hst.ports p
/-- Link of head `h`. -/
def State.link (s : State) (h : Nat) : LinkS := Tab.rd {} s.hst.links h
/-- Head `h`. -/
def State.head (s : State) (h : Nat) : HeadS := Tab.rd {} s.hst.heads h
/-- Fenceable unit of a source. -/
def State.unit (s : State) (src : Nat) : UnitS := Tab.rd {} s.flt.units src
/-- Power domain `d`. -/
def State.domain (s : State) (d : Nat) : DomainS := Tab.rd {} s.pwr.domains d
/-- Pair of extent `e` and head `h`. -/
def State.pair (s : State) (e h : Nat) : PairS := Tab.rd {} s.ext.pairs (e * 8 + h)
/-- Extent `e`. -/
def State.extent (s : State) (e : Nat) : ExtentS := Tab.rd {} s.ext.extents e
/-- Region `r`. -/
def State.region (s : State) (r : Nat) : RegionS := Tab.rd {} s.ext.regions r
/-- Plane by key (channel × 16 + die) × 4 + plane. -/
def State.plane (s : State) (k : Nat) : PlaneS := Tab.rd {} s.med.planes k
/-- Die by number. -/
def State.die (s : State) (d : Nat) : DieS := Tab.rd {} s.med.dies d
/-- Channel. -/
def State.channel (s : State) (c : Nat) : ChannelS := Tab.rd {} s.med.channels c
/-- SRAM by number. -/
def State.sram (s : State) (n : Nat) : SramS := Tab.rd {} s.stg.srams n
/-- Seat by number. -/
def State.seatOf (s : State) (n : Nat) : SeatS := Tab.rd {} s.seat.seats n
/-- Rebuild of group `g`. -/
def State.rebuild (s : State) (g : Nat) : RebuildS := Tab.rd {} s.scr.rebuilds g
/-- Session by number. -/
def State.session (s : State) (n : Nat) : SessS := Tab.rd {} s.wop.sess n
/-- Result slot. -/
def State.slot (s : State) (n : Nat) : Slot := Tab.rd {} s.obj.slots n
/-- Thermal input. -/
def State.input (s : State) (i : Nat) : SensorS := Tab.rd {} s.thm.inputs i
/-- Source record. -/
def State.source (s : State) (n : Nat) : SourceS := Tab.rd {} s.flt.sources n

def State.modPort (p : Nat) (f : PortS → PortS) (s : State) : State :=
  s.modHst fun h => { h with ports := Tab.mod {} h.ports p f }
def State.modLink (n : Nat) (f : LinkS → LinkS) (s : State) : State :=
  s.modHst fun h => { h with links := Tab.mod {} h.links n f }
def State.modHead (n : Nat) (f : HeadS → HeadS) (s : State) : State :=
  s.modHst fun h => { h with heads := Tab.mod {} h.heads n f }
def State.modUnit (src : Nat) (f : UnitS → UnitS) (s : State) : State :=
  s.modFlt fun x => { x with units := Tab.mod {} x.units src f }
def State.modDomain (d : Nat) (f : DomainS → DomainS) (s : State) : State :=
  s.modPwr fun x => { x with domains := Tab.mod {} x.domains d f }
def State.modPair (e h : Nat) (f : PairS → PairS) (s : State) : State :=
  s.modExt fun x => { x with pairs := Tab.mod {} x.pairs (e * 8 + h) f }
def State.modExtent (e : Nat) (f : ExtentS → ExtentS) (s : State) : State :=
  s.modExt fun x => { x with extents := Tab.mod {} x.extents e f }
def State.modRegion (r : Nat) (f : RegionS → RegionS) (s : State) : State :=
  s.modExt fun x => { x with regions := Tab.mod {} x.regions r f }
def State.modPlane (k : Nat) (f : PlaneS → PlaneS) (s : State) : State :=
  s.modMed fun x => { x with planes := Tab.mod {} x.planes k f }
def State.modDie (d : Nat) (f : DieS → DieS) (s : State) : State :=
  s.modMed fun x => { x with dies := Tab.mod {} x.dies d f }
def State.modChannel (c : Nat) (f : ChannelS → ChannelS) (s : State) : State :=
  s.modMed fun x => { x with channels := Tab.mod {} x.channels c f }
def State.modSram (n : Nat) (f : SramS → SramS) (s : State) : State :=
  s.modStg fun x => { x with srams := Tab.mod {} x.srams n f }
def State.modSeatOf (n : Nat) (f : SeatS → SeatS) (s : State) : State :=
  s.modSeat fun x => { x with seats := Tab.mod {} x.seats n f }
def State.modRebuild (g : Nat) (f : RebuildS → RebuildS) (s : State) : State :=
  s.modScr fun x => { x with rebuilds := Tab.mod {} x.rebuilds g f }
def State.modSession (n : Nat) (f : SessS → SessS) (s : State) : State :=
  s.modWop fun x => { x with sess := Tab.mod {} x.sess n f }
def State.modSlot (n : Nat) (f : Slot → Slot) (s : State) : State :=
  s.modObj fun x => { x with slots := Tab.mod {} x.slots n f }
def State.modInput (i : Nat) (f : SensorS → SensorS) (s : State) : State :=
  s.modThm fun x => { x with inputs := Tab.mod {} x.inputs i f }
def State.modSource (n : Nat) (f : SourceS → SourceS) (s : State) : State :=
  s.modFlt fun x => { x with sources := Tab.mod {} x.sources n f }
def State.modEq (h : Nat) (f : EqS → EqS) (s : State) : State :=
  s.modHead h fun x => { x with eq := f x.eq }

/-- Apply a state change for each item of a list, in order. -/
def forEach {α : Type} (l : List α) (f : α → State → State) (s : State) : State :=
  match l with
  | [] => s
  | a :: r => forEach r f (f a s)

/-- Apply a state change when a condition holds. -/
def State.when (s : State) (c : Bool) (f : State → State) : State := if c then f s else s

/-- The stored value of an object, its default when nothing has been stored (13 R302). -/
def State.cfg (s : State) (idx mem : Nat) : Nat := Tab.get defaultOf s.obj.vals (objKey idx mem)

/-- Store an object's value. -/
def State.setCfg (idx mem v : Nat) (s : State) : State :=
  s.modObj fun o => { o with vals := Tab.put defaultOf o.vals (objKey idx mem) v }

/-- The key of a selector or cursor: holder (session number, or 0x10000 + head) × 2^24 + the object's key (R296). -/
def selKey (holder idx mem : Nat) : Nat := holder * 2 ^ 24 + objKey idx mem

/-- A holder's selector. -/
def State.sel (s : State) (holder idx mem : Nat) : Nat := Tab.rd 0 s.obj.selectors (selKey holder idx mem)

/-- Set a holder's selector. -/
def State.setSel (holder idx mem v : Nat) (s : State) : State :=
  s.modObj fun o => { o with selectors := Tab.set 0 o.selectors (selKey holder idx mem) v }

/-! ## Sources and kinds (11 R264, R265) -/

/-- Source of the fixed units. -/
def srcChannel (c : Nat) : Nat := 0x240 + c
def srcPart (n : Nat) : Nat := 0x270 + n
def srcPort (p : Nat) : Nat := 0x280 + p
def srcHead (h : Nat) : Nat := 0x288 + h

/-- The types of fenceable unit of 0x4001.uu; the T1S path has no reaction object. -/
inductive UnitKind where
  | die | channel | part | port | head | engine | t1s
  deriving DecidableEq, Repr

/-- The type of a source's unit, none when it is not fenceable (R264). -/
def unitKind (src : Nat) : Option UnitKind :=
  if src < 0x240 then some .die
  else if src < 0x264 then some .channel
  else if 0x270 ≤ src ∧ src < 0x280 then some .part
  else if 0x280 ≤ src ∧ src < 0x284 then some .port
  else if 0x288 ≤ src ∧ src < 0x290 then some .head
  else if src = 0x297 ∨ (0x298 ≤ src ∧ src ≤ 0x29B) then some .engine
  else if src = 0x2F5 then some .t1s
  else none

/-- Engines that are not fenceable and report engine timeouts (R266). -/
def essentialEngine (src : Nat) : Bool :=
  decide ((0x290 ≤ src ∧ src ≤ 0x292) ∨ (0x294 ≤ src ∧ src ≤ 0x296) ∨ src = 0x29C ∨ (0x2A0 ≤ src ∧ src ≤ 0x2A7))

/-- The class of a kind (R265); a kind the table does not list counts as C0. -/
def kindClass (kind : Nat) : Nat :=
  if kind ∈ [0x33, 0x34, 0x55, 0x56, 0x57, 0x63, 0x64, 0x81, 0x84, 0x88] then 3
  else if kind ∈ [0x13, 0x16, 0x21, 0x22, 0x31, 0x32, 0x48, 0x51, 0x52, 0x53, 0x80, 0x85] then 2
  else if kind ∈ [0x01, 0x10, 0x11, 0x12, 0x15, 0x20, 0x30, 0x40, 0x41, 0x42, 0x50, 0x62, 0x65, 0x66, 0x71, 0x83, 0x86, 0x87] then 1
  else 0

/-- The fence target of a message (R265): source, kind, address, AV. -/
def fenceTarget (src kind addr : Nat) (av : Bool) : Option Nat :=
  if kind ∈ [0x10, 0x11, 0x12, 0x13, 0x15, 0x16] then (if src < 0x240 then some src else none)
  else if kind = 0x20 ∨ kind = 0x22 then (if unitKind src = some .channel then some src else none)
  else if kind = 0x21 then (if unitKind src = some .channel ∧ av then some ((src - 0x240) * 16 + addr % 16) else none)
  else if kind ∈ [0x30, 0x31, 0x32] then (if unitKind src = some .part then some src else none)
  else if kind ∈ [0x40, 0x41, 0x42] then (if unitKind src = some .port then some src else none)
  else if kind = 0x48 then (if unitKind src = some .head then some src else none)
  else if kind = 0x53 then (if unitKind src = some .engine then some src else none)
  else if kind = 0x80 then (if av ∧ addr % 256 < 4 then some (srcPort (addr % 256)) else if av ∧ addr % 256 = 11 then some 0x2F5 else none)
  else if kind = 0x85 then some 0x2F5
  else none

/-- The 64-bit fault message (R262). -/
def faultMsg (src kind : Nat) (addr : Option Nat) (fat : Bool) : Word64 :=
  BitVec.ofNat 64 (src % 1024 * 2 ^ 54 + kind % 256 * 2 ^ 46
    + (match addr with | some a => a % 2 ^ 44 * 4 + 2 | none => 0) + bit fat)

/-- SOURCE of a message. -/
def msgSource (m : Word64) : Nat := m.toNat / 2 ^ 54
/-- KIND of a message. -/
def msgKind (m : Word64) : Nat := m.toNat / 2 ^ 46 % 256
/-- ADDR of a message. -/
def msgAddr (m : Word64) : Nat := m.toNat / 4 % 2 ^ 44
/-- AV of a message. -/
def msgAv (m : Word64) : Bool := m.toNat / 2 % 2 == 1

/-- An address that names a DPA's line (R263): A[43] = 1, A[37:0] = DPA[43:6]. -/
def dpaAddr (dpa : Nat) : Nat := 2 ^ 43 + dpa / 64

/-! ## Geometry (00 R5, 04, 08 R184) -/

/-- Line number of a DPA. -/
def lineOf (dpa : Nat) : Nat := dpa / 64
/-- Logical tract of a line number. -/
def tractOfLine (line : Nat) : Nat := line / 16384
/-- Extent of a DPA. -/
def extentOf (dpa : Nat) : Nat := dpa / 2 ^ 28
/-- Bytes of DPA space, 14 TiB. -/
def dpaSize : Nat := 0xE0000000000
/-- Extents. -/
def extents : Nat := 57344
/-- Logical tracts. -/
def logicalTracts : Nat := 0xE00000

/-- Parity group of a channel (nine channels each). -/
def groupOfChannel (c : Nat) : Nat := c / 9
/-- Parity group of a die number. -/
def groupOfDie (d : Nat) : Nat := d / 16 / 9

/-! ## Units out of service -/

/-- The unit takes no work: Fenced, Held, Probing or Latched (R272, R274). -/
def State.isOut (s : State) (src : Nat) : Bool :=
  match (s.unit src).state with
  | .active => false
  | .rebuilding => false
  | _ => true

/-- The unit is neither Active nor out: it serves but is not rebuilt. -/
def State.notHealthy (s : State) (src : Nat) : Bool := decide ((s.unit src).state ≠ .active)

/-- The die cannot be read: itself or its channel out of service. -/
def State.dieOut (s : State) (d : Nat) : Bool := s.isOut d || s.isOut (srcChannel (d / 16))

/-- A monitored clock is lost: 0–3 ports, 4 core, 5–8 channel groups, 9 staging, 10 keel, 11 T1S, 12 seat bus, 13 thermal ADC (R28). -/
def State.clockLost (s : State) (c : Nat) : Bool := s.pwr.lostClocks.contains c

/-- The core and staging clocks run, without which nothing more drains and nothing is issued to a die (R28). -/
def State.coreClocks (s : State) : Bool := !s.clockLost 4 && !s.clockLost 9

/-- A channel is clocked: its group's clock runs, and those of the blocks that feed it (R28). -/
def State.channelClock (s : State) (c : Nat) : Bool := s.coreClocks && !s.clockLost (5 + c / 9)

/-- The die is lost for stripe content: out of service, or not yet rebuilt (R130, R274). -/
def State.dieLost (s : State) (d : Nat) : Bool := s.notHealthy d || s.notHealthy (srcChannel (d / 16))

/-- Units of a parity group that are not Active: its nine channels, then the dies whose channel is Active. -/
def State.groupUnits (s : State) (g : Nat) : List Nat :=
  (s.flt.units.filter fun u => decide (u.2.state ≠ .active)
    && (match unitKind u.1 with
        | some .die => decide (groupOfDie u.1 = g) && !s.notHealthy (srcChannel (u.1 / 16))
        | some .channel => decide (groupOfChannel (u.1 - 0x240) = g)
        | _ => false)).map Prod.fst

/-- The group is degraded: it holds a unit that is not Active (R7, R274). -/
def State.degraded (s : State) (g : Nat) : Bool := !(s.groupUnits g).isEmpty

/-- A staging part is out of service. -/
def State.partOut (s : State) (n : Nat) : Bool := s.isOut (srcPart n)

/-! ## Power -/

/-- A domain is on and qualified. -/
def State.domainOn (s : State) (d : Nat) : Bool := decide ((s.domain d).state = 3)

/-- Every core domain CD0–CD11 is on. -/
def State.coreOn (s : State) : Bool := (List.range 12).all fun d => s.domainOn d

/-- The module offers data service (R60). -/
def State.inService (s : State) : Bool := decide (s.pwr.state = .dataService)

/-- In Easy-all, media on or off, or in the Easy-all that an input loss enters (R43, R279). -/
def State.inEasy (s : State) : Bool :=
  decide (s.pwr.state = .easyAll ∨ s.pwr.state = .easyAllMediaOff ∨ (s.pwr.state = .holdUpFlush ∧ s.easy.state ≠ .out))

/-- The keel island runs. -/
def State.keelOn (s : State) : Bool := decide (s.pwr.state ≠ .off)

/-- Cox runs its firmware at management ready; otherwise the module is in orphan operation or starting (R405, R424). -/
def State.coxUp (s : State) : Bool := decide (s.cox.state = 2) && s.keelOn

/-- The code of 0x5080.04; Off has no code of its own and reads 0. -/
def powerCode : PowerState → Nat
  | .off => 0
  | .standby => 1
  | .coreStart => 2
  | .dataService => 3
  | .easyAll => 4
  | .easyAllMediaOff => 5
  | .holdUpFlush => 6

/-- HALT_N inside the module is low. -/
def State.haltLow (s : State) : Bool := !s.pwr.haltDrivers.isEmpty

/-- The isolating switch of J6 HALT_N is closed (R55). -/
def State.haltSwitch (s : State) : Bool := decide (s.cfg 0x1102 3 = 1)

/-! ## Links and heads -/

/-- The head does not exist in the port's mode in force (R64). -/
def State.absent (s : State) (h : Nat) : Bool := decide (h % 2 = 1) && !(s.port (h / 2)).bifurcated || decide (8 ≤ h)

/-- The link is held in reset or in Link Disable: PERST_N, no cable, a fence of its port or head, a head reset, or its domains off
(R49, R66, R85, R93). -/
def State.linkHeld (s : State) (h : Nat) : Bool :=
  (s.link h).perstLow || !(s.port (h / 2)).cable || s.isOut (srcPort (h / 2)) || s.isOut (srcHead h) || (s.link h).held
    || !s.domainOn 1 || !s.domainOn (12 + h / 2)

/-- The link is up. -/
def State.linkUp (s : State) (h : Nat) : Bool := decide (2 ≤ (s.link h).state ∧ (s.link h).state ≤ 3)

/-- The link is up at 32 or 64 GT/s. -/
def State.fastLink (s : State) (h : Nat) : Bool := s.linkUp h && decide (5 ≤ (s.link h).speed)

/-- Some link is up at 32 or 64 GT/s (R36, R279). -/
def State.anyFast (s : State) : Bool := (List.range 8).any fun h => s.fastLink h

/-- Both IDE streams of the link are Secure. -/
def State.ideSecure (s : State) (h : Nat) : Bool := decide ((s.link h).ideIo = 1 ∧ (s.link h).ideMem = 1)

/-- The conditions of R67 but for Mem_Enable itself. -/
def State.memAllowed (s : State) (h : Nat) (needIde : Bool) : Bool :=
  s.fastLink h && s.inService && (!needIde || s.ideSecure h)

/-- CXL.mem is served on the link (R67). -/
def State.memServed (s : State) (h : Nat) : Bool :=
  (s.link h).memEnable && s.memAllowed h (s.link h).ideNeeded

/-- The head admits new requests (LINK_STATUS.ADMIT). -/
def State.admits (s : State) (h : Nat) : Bool :=
  s.memServed h && !(s.head h).viral && !(s.link h).ideStopped && !s.isOut (srcHead h) && !s.isOut (srcPort (h / 2))

/-- Operations in flight on a port (R71). -/
def State.portInflight (s : State) (h : Nat) : Nat := (s.head (h / 2 * 2)).inflight + (s.head (h / 2 * 2 + 1)).inflight

/-- The port's total and the head's cap leave room, and an IDE failure has not stopped the head (R71, R79). -/
def State.roomFor (s : State) (h : Nat) : Bool :=
  !(s.link h).ideStopped && decide ((s.head h).inflight < s.cfg (0x2100 + h) 1) && decide (s.portInflight h < 4096)

/-- The head's link is advertised M2S Req credit (R71, R72, R79). -/
def State.reqCredit (s : State) (h : Nat) : Bool := !(s.port (h / 2)).reqWithheld && s.roomFor h

/-- The head's link is advertised M2S RwD credit (R71, R72, R79, 06 R147). -/
def State.rwdCredit (s : State) (h : Nat) : Bool := !(s.port (h / 2)).rwdWithheld && s.roomFor h

/-- Memory_Active in the CXL DVSEC range registers: the head's conditions for CXL.mem hold (R66 step 5, R67). -/
def State.memoryActive (s : State) (h : Nat) : Bool := s.memAllowed h (s.link h).ideNeeded

/-- Configuration requests are answered; until the link is up they receive Request Retry Status (R66 step 3). -/
def State.configAnswered (s : State) (h : Nat) : Bool := s.linkUp h

/-- The read data ceiling of a link in MB/s (R70), none where the table lists none. Speeds: 5 is 32 GT/s, 6 is 64 GT/s; flit 0 is 68 B. -/
def linkCeiling (width speed flit : Nat) : Option Nat :=
  if speed = 6 then (if flit = 0 then none else if width = 16 then some 110000 else if width = 8 then some 55000
    else if width = 4 then some 27500 else none)
  else if speed = 5 then (if width = 16 then some (if flit = 0 then 48000 else 55000)
    else if width = 8 then some (if flit = 0 then 24000 else 27500) else none)
  else none

/-- The CDAT table of a head, for its whole DPA range (R87): read and write latency in ns, read and write bandwidth in MB/s, the change
number. Where R70 lists no ceiling (x4 at 32 GT/s, or below 32 GT/s) the bandwidth is a free value (notes/assumptions/4.md). -/
def State.cdatTable (s : State) (h : Nat) : List Nat :=
  let l := s.link h
  let bw := (linkCeiling l.width l.speed l.flit).getD (Config.freeNat (l.width * 8 + l.speed))
  [250, 300, bw, bw, l.cdatChange]

/-- The state of a head (R90). -/
def State.headState (s : State) (h : Nat) : Nat :=
  if s.absent h then 0
  else if s.isOut (srcHead h) || s.isOut (srcPort (h / 2)) then 5
  else if !s.linkUp h then 1
  else if (s.head h).viral then 4
  else if s.memServed h then 3
  else 2

/-- LINK_STATUS (R89); 0 for an absent head. -/
def State.linkStatus (s : State) (h : Nat) : BitVec 32 :=
  if s.absent h then 0 else
  let l := s.link h
  let st := if s.isOut (srcHead h) || s.isOut (srcPort (h / 2)) then 4 else l.state
  BitVec.ofNat 32 (st % 16 * 2 ^ 28 + l.speed % 16 * 2 ^ 24 + l.width % 32 * 2 ^ 19 + l.flit % 4 * 2 ^ 17
    + bit (s.memServed h) * 2 ^ 16 + l.ideIo % 4 * 2 ^ 14 + l.ideMem % 4 * 2 ^ 12 + bit (s.head h).viral * 2 ^ 11
    + bit (s.admits h) * 2 ^ 10)

/-- R77 places the head outside the bound: 32 GT/s with IDE active. -/
def State.ideSlow (s : State) (h : Nat) : Bool :=
  s.linkUp h && decide ((s.link h).speed = 5 ∧ (s.link h).ideMem = 1)

/-- BOUND_STATUS (R89); 0 while CD0 is off. -/
def State.boundStatus (s : State) (h : Nat) : BitVec 32 :=
  if !s.domainOn 0 then 0 else
  let easy := s.inEasy
  let hot := decide (3 ≤ s.thm.level)
  let slow := s.ideSlow h
  BitVec.ofNat 32 (bit (!easy && !hot && !slow) * 2 ^ 31 + bit easy * 2 ^ 30 + bit hot * 2 ^ 29 + bit slow * 2 ^ 28
    + ((List.range 4).map fun g => bit (s.degraded g) * 2 ^ g).sum)

/-- AFL_IDENT and PORT_ID (R88). -/
def State.aflIdent (s : State) (h : Nat) : BitVec 32 :=
  BitVec.ofNat 32 (h / 2 % 4 * 2 ^ 30 + h % 2 * 2 ^ 29 + h % 8 * 2 ^ 26 + bit (s.port (h / 2)).bifurcated * 2 ^ 25
    + (s.link h).poolAtUp % 2 ^ 16)

/-- Port state 0x2000+p.04. -/
def State.portState (s : State) (p : Nat) : Nat :=
  if !s.domainOn (12 + p) then 0
  else if s.isOut (srcPort p) then 4
  else if (s.link (2 * p)).state = 1 ∨ (s.link (2 * p + 1)).state = 1 then 2
  else if s.linkUp (2 * p) || s.linkUp (2 * p + 1) then 3
  else 1

/-- The mode of service of a head's reads now (R6): recovery in review or before the root is adopted, start-up before data
ready. -/
def State.modeNow (s : State) : Mode :=
  if s.str.review ≠ 0 then .recovery
  else if !s.str.dataReady then (if s.str.clean then .startUp else .recovery)
  else .normal

/-- Sideband status 0x1102.04. -/
def State.sideband (s : State) : Nat :=
  bit s.haltLow * 2 ^ 15 + bit (s.haltSwitch && (s.pwr.haltOutside || s.haltLow)) * 2 ^ 14 + bit s.pwr.modrstLow * 2 ^ 13
    + ((List.range 4).map fun p => bit (s.port p).cable * 2 ^ (8 + p)).sum
    + ((List.range 8).map fun h => bit (s.link h).perstLow * 2 ^ h).sum

/-! ## Tracts -/

/-- A tract's map entry as shipped: Zero at its shipment tract for a logical tract; Mapped for a reserve tract
(notes/assumptions/12.md). A logical tract L lies on die row L div 229,376 at place L mod 229,376, as the checkpoint of R187
lists it; reserve tract (home, j) on its home at place 229,376 + j. -/
def shipEntry (t : Nat) : MapEntry :=
  if t < logicalTracts then { state := .zero, pt := t / 229376 * 262144 + t % 229376 }
  else { state := .mapped, pt := (t - logicalTracts) / 0x8000 * 262144 + 229376 + (t - logicalTracts) % 0x8000 }

/-- The die row of a physical tract (R120). -/
def rowOfPt (pt : Nat) : Nat := pt / 262144

/-- The index of a physical tract within its die row, PT' (R189). -/
def inRow (pt : Nat) : Nat := pt % 262144

/-- A reserve tract number that is in use, or a logical tract. -/
def tractNamed (t : Nat) : Bool := decide (t < logicalTracts ∨ (t < 2 ^ 24 ∧ (t - logicalTracts) % 0x8000 < 5261))

/-- The map entry of a tract. -/
def State.entry (s : State) (t : Nat) : MapEntry := Tab.get shipEntry s.trc.map t

/-- Change a tract's map entry (both copies of the map). -/
def State.modEntry (t : Nat) (f : MapEntry → MapEntry) (s : State) : State :=
  s.modTrc fun x => { x with map := Tab.put shipEntry x.map t (f (Tab.get shipEntry x.map t)) }

/-- The activity record of a logical tract. -/
def State.activity (s : State) (t : Nat) : Activity := Tab.rd {} s.trc.act t

def State.modActivity (t : Nat) (f : Activity → Activity) (s : State) : State :=
  s.modTrc fun x => { x with act := Tab.mod {} x.act t f }

/-- The tract shipped on a physical tract (log 12). -/
def homeTract (pt : Nat) : Option Nat :=
  if inRow pt < 229376 then some (rowOfPt pt * 229376 + inRow pt)
  else if inRow pt < 234637 then some (logicalTracts + rowOfPt pt * 0x8000 + (inRow pt - 229376)) else none

/-- Entries that have left their shipment tract. -/
def State.moved (s : State) : List (Nat × MapEntry) := s.trc.map.filter fun e => decide (e.2.pt ≠ (shipEntry e.1).pt)

/-- The tract placed on a physical tract by the maps. -/
def State.tractAt (s : State) (pt : Nat) : Option Nat :=
  match s.moved.find? fun e => e.2.pt == pt with
  | some e => some e.1
  | none => match homeTract pt with
    | some t => if (s.entry t).pt = pt then some t else none
    | none => none

/-- READS of a logical tract, saturating at 63 (R193). -/
def State.readsOf (s : State) (t : Nat) : Nat :=
  min 63 ((s.activity t).reads + (s.trc.scans - (s.activity t).since))

/-- PEAK of a physical tract; 0xFFFF retired. -/
def State.peakOf (s : State) (pt : Nat) : Nat :=
  let v := Tab.rd 0 s.trc.peak pt
  if v = 0xFFFF then v else min 0xFFFE (v + s.trc.peakBase)

/-- The code of STATE (R185). -/
def stateCode : TractState → Nat
  | .mapped => 0
  | .zero => 1
  | .suspect => 2
  | .integrityLost => 3

/-- The 32-bit map entry (R185). -/
def entryWord (e : MapEntry) : Nat :=
  stateCode e.state * 2 ^ 29 + bit e.mig * 2 ^ 28 + bit e.refr * 2 ^ 27 + bit e.badg * 2 ^ 26 + e.pt % 2 ^ 24

/-- Suspect tracts of the map, rising. -/
def State.suspects (s : State) : List Nat :=
  (s.trc.map.filter fun e => decide (e.2.state = .suspect ∧ e.1 < logicalTracts)).map Prod.fst

/-- The code of a migration's state (3110.01). -/
def migCode : MigState → Nat
  | .queued => 0
  | .copying => 1
  | .sealing => 2
  | .sealed => 3
  | .clearing => 4
  | .releasing => 5

/-- The migration of a tract, running or queued. -/
def State.migOf (s : State) (t : Nat) : Option Migration := s.trc.migs.find? fun m => m.tract == t

/-- Migrations that run (not Queued). -/
def State.migsRunning (s : State) : Nat := (s.trc.migs.filter fun m => decide (m.state ≠ .queued)).length

/-- Physical tracts that hold tracts: one for each named tract (R184). -/
def occupiedTracts : Nat := 15016768

/-- Physical tracts of one die row, 262,144; of which 234,637 hold tracts at shipment (R184). -/
def ptsPerRow : Nat := 262144

/-- How many tracts are placed on a die row: each entry holds one, each running migration one more. The shipment placement puts
229,376 logical and 5,261 reserve tracts on each; entries moved since are counted by their difference. -/
def State.placedOn (s : State) (row : Nat) : Nat :=
  let moved := s.moved
  234637 + (moved.filter fun e => decide (rowOfPt e.2.pt = row)).length
    - (moved.filter fun e => decide (rowOfPt (shipEntry e.1).pt = row)).length
    + (s.trc.migs.filter fun m => decide (m.state ≠ .queued ∧ rowOfPt (if m.state = .releasing then m.src else m.dst) = row)).length

/-- Retired physical tracts of a die row. -/
def State.retiredOn (s : State) (row : Nat) : Nat :=
  (s.trc.peak.filter fun e => decide (e.2 = 0xFFFF ∧ rowOfPt e.1 = row)).length

/-- Free physical tracts of a die row. -/
def State.freeOn (s : State) (row : Nat) : Nat :=
  ptsPerRow - s.placedOn row - s.retiredOn row
    - (s.trc.dirtyPts.filter fun p => decide (rowOfPt p.1 = row ∧ s.peakOf p.1 ≠ 0xFFFF)).length

/-- The die row with the fewest free physical tracts, the lowest on a tie: (row, count). -/
def State.fewestFree (s : State) : Nat × Nat :=
  (List.range 64).foldl (fun best row => if s.freeOn row < best.2 then (row, s.freeOn row) else best) (0, s.freeOn 0)

/-! ## Limits -/

/-- The thermal limit of R375. -/
def State.thermalLimit (s : State) : Nat :=
  if s.wb.flushing then 2304
  else if s.thm.level = 0 then 2304 else if s.thm.level = 1 then s.cfg 0x5101 0 else 576

/-- The media power governor's limit in force (R181). -/
def State.governorLimit (s : State) : Nat :=
  min (min (s.cfg 0x3000 2) s.thermalLimit) (if s.wb.flushing then 1152 else 2304)

/-- The entries of a line. -/
def State.lineEnts (s : State) (key : Nat) : LineEnts := Tab.rd {} s.wb.ents key

/-- The key of a line of the write buffer belongs to a node (reserve) line. -/
def isNodeKey (key : Nat) : Bool := decide (logicalTracts * 16384 ≤ key)

/-- The mirrored pair that a tract's map entry lies on, and its lines' entries in the write buffer (R30, R137). -/
def pairOfTract (t : Nat) : Nat :=
  if t < logicalTracts then t / 16 % 8
  else ((t - logicalTracts) / 0x8000 * 5261 + (t - logicalTracts) % 0x8000) / 16 % 8

/-- Number of entries of a line. -/
def LineEnts.count (l : LineEnts) : Nat := bit l.opened.isSome + bit l.drain.isSome

/-- Slots occupied on a pair (R147). -/
def State.occupied (s : State) (pair : Nat) : Nat :=
  ((s.wb.ents.filter fun e => pairOfTract (e.1 / 16384) == pair).map fun e => e.2.count).sum

/-- The flush cost (R148): 14 per data entry; 2 per open node entry. -/
def State.flushCost (s : State) : Nat :=
  (s.wb.ents.map fun e => if isNodeKey e.1 then 2 * bit e.2.opened.isSome else 14 * e.2.count).sum

/-! ## Thermal (16) -/

/-- The kind of a thermal input (R369). -/
def inputKind (i : Nat) : Nat :=
  if i < 36 then 0 else if i < 38 then 1 else if i < 40 then 2 else if i < 42 then 3 else 4

/-- A privileged input (R370). -/
def privileged (i : Nat) : Bool := decide (38 ≤ i ∧ i ≤ 41)

/-- A limit of a kind: levels 1–4, then 5 the hysteresis, in 0.1 °C. -/
def State.limit (s : State) (kind k : Nat) : Int := (s.thm.limits.getD kind []).getD (k - 1) 0

/-- The greatest of a list of readings. -/
def maxInt : List Int → Option Int
  | [] => none
  | a :: r => match maxInt r with
    | none => some a
    | some b => some (max a b)

/-- Readings of the working inputs of a list. -/
def State.working (s : State) (l : List Nat) : List Int :=
  (l.filter fun i => !(s.input i).faulty).map fun i => (s.input i).reading

/-- The value used for an input and the least level it is held at: its reading, or the substitute of R374; none when it sets no
level. -/
def State.used (s : State) (i : Nat) : Option Int × Nat :=
  if !(s.input i).faulty then (some (s.input i).reading, 0) else
  match inputKind i with
  | 0 =>
    match maxInt (s.working ((List.range 36).filter fun j => j / 9 == i / 9)) with
    | some v => (some (v + 50), 0)
    | none => match maxInt (s.working (List.range 36)) with
      | some v => (some (v + 50), 0)
      | none => (none, 3)
  | 1 => (maxInt (s.working [36, 37]), 0)
  | 2 => match maxInt (s.working [38, 39]) with
    | some v => (some v, 0)
    | none => match maxInt (s.working [36, 37]) with
      | some v => (some (v + 150), 0)
      | none => (none, 0)
  | 3 => match maxInt (s.working [40, 41]) with
    | some v => (some v, 0)
    | none => (none, 3)
  | _ => match maxInt (s.working [42, 43]) with
    | some v => (some v, 0)
    | none => (none, 2)

/-- The reading an input is given. -/
def State.given (s : State) (i : Nat) : Int := (s.used i).1.getD (s.input i).reading

/-- The margin of an input to its next rising limit, or to T4 at level 4 (R373). -/
def State.marginOf (s : State) (i : Nat) : Int :=
  s.limit (inputKind i) (min 4 ((s.input i).level + 1)) - s.given i

/-- The hottest input (R373): highest level, then least margin, then lowest number. -/
def State.hottest (s : State) : Nat :=
  (List.range 44).foldl (fun b i =>
    if (s.input b).level < (s.input i).level then i
    else if (s.input i).level = (s.input b).level ∧ s.marginOf i < s.marginOf b then i else b) 0

/-- The bank's temperature: the higher of the hold-up inputs (R367). -/
def State.bankTemp (s : State) : Int := max (s.given 38) (s.given 39)

end Sys2Proof.Machine
end

