-- ==== Sys2Proof/Machine/Records.lean ====
section
/-! DEFINITION. Logbook records as they are stored and read: bodies, lengths, sequences, the cursor and the fence of 0x4110 (14 R327–R336). -/

namespace Sys2Proof.Machine

/-- Role's code. -/
def roleCode : Role → Nat
  | .observer => 0
  | .operator => 1
  | .custodian => 2
  | .vendor => 3

/-- A length rounded up to a multiple of 8. -/
def pad8 (n : Nat) : Nat := (n + 7) / 8 * 8

/-- Bytes of a snapshot item. -/
def itemBytes (x : ObjRef × Nat × List Byte) : List Byte :=
  be 2 x.1.index ++ be 1 x.1.member ++ be 1 x.2.1 ++ be 1 x.2.2.length ++ x.2.2

/-- The type and class byte of a record (R330, R331). -/
def LogBody.typeByte : LogBody → Nat
  | .fault _ => 0x01
  | .queueLoss _ => 0x02
  | .management .. => 0x03
  | .security .. => 0x04
  | .power .. => 0x05
  | .headEvent .. => 0x06
  | .start .. => 0x07
  | .stagingLoss .. => 0x08
  | .damage _ => 0x09
  | .areaFCleared _ => 0x0A
  | .snapshot d .. => 0x80 + d % 128

/-- The body of a record (R331, R334), before its padding. -/
def LogBody.bytes : LogBody → List Byte
  | .fault m => be 8 m.toNat
  | .queueLoss n => be 4 n ++ zeros 4
  | .management code req outcome idx mem ticket sess value =>
    be 1 code ++ be 1 (roleCode req.role) ++ be 1 req.path ++ be 1 outcome ++ be 2 idx ++ be 1 mem ++ be 1 value.length
      ++ be 4 ticket ++ be 2 sess ++ zeros 2 ++ value
  | .security kind region count dpa source => be 1 kind ++ be 1 region ++ zeros 2 ++ be 4 count ++ be 8 dpa ++ be 16 source
  | .power kind state mv mw => be 1 kind ++ be 1 state ++ zeros 2 ++ be 4 mv ++ be 4 mw ++ zeros 4
  | .headEvent mask type payload => be 1 mask ++ be 1 type ++ zeros 6 ++ payload
  | .start cause lastDurable firmware => be 1 cause ++ zeros 3 ++ be 4 lastDurable ++ be 4 firmware ++ zeros 4
  | .stagingLoss lost first => be 4 lost ++ zeros 4 ++ be 8 first
  | .damage w => be 4 w ++ zeros 4
  | .areaFCleared n => be 2 n ++ zeros 6
  | .snapshot _ trigger part last cause items =>
    be 1 trigger ++ be 1 (part % 16 * 16 + last % 16) ++ be 1 items.length ++ [0] ++ be 4 cause ++ items.flatMap itemBytes

/-- The length of a whole record in bytes (R330). -/
def LogBody.size (b : LogBody) : Nat := 16 + pad8 b.bytes.length

/-- A record as it is read (R330). -/
def LogRec.bytes (r : LogRec) : List Byte :=
  be 4 r.seq ++ be 1 (r.body.size / 8) ++ be 1 r.body.typeByte ++ be 6 r.time ++ be 4 r.cycles ++ r.body.bytes
    ++ zeros (pad8 r.body.bytes.length - r.body.bytes.length)

/-- Records that may use the last 4 KiB of the ring (R327). -/
def LogBody.privileged : LogBody → Bool
  | .fault m => decide (2 ≤ kindClass (msgKind m))
  | .power .. => true
  | .start .. => true
  | .stagingLoss .. => true
  | _ => false

/-- Bytes staged and not yet durable (0x4100.00). -/
def State.ringUsed (s : State) : Nat := (s.log.staged.map fun r => r.body.size).sum

/-- The sequence after `n`: after 0xFFFF_FFFF comes 1 (R328). -/
def nextSeq (n : Nat) : Nat := if n = 0xFFFFFFFF then 1 else n + 1

/-- The sequence before `n`: before 1 comes 0xFFFF_FFFF (R328). -/
def prevSeq (n : Nat) : Nat := if n ≤ 1 then 0xFFFFFFFF else n - 1

/-- `a` is older than `b` in serial arithmetic (R328). -/
def olderSeq (a b : Nat) : Bool :=
  let d := (b + 2 ^ 32 - a) % 2 ^ 32
  decide (1 ≤ d ∧ d < 2 ^ 31)

/-- The readable records of an area, oldest first: area C holds the durable records and those staged after them (R324, R335). -/
def State.areaRecords (s : State) (area : Nat) : List LogRec := if area = 1 then s.log.areaF else s.log.areaC ++ s.log.staged

/-- The sequence of the oldest record of an area; that of the next record when it holds none. -/
def State.oldestOf (s : State) (area : Nat) : Nat :=
  match s.areaRecords area with
  | r :: _ => r.seq
  | [] => s.log.next

/-- A holder's cursor: area and next sequence; one that has not been set names area C and its oldest record (0x4110.00). -/
def State.cursor (s : State) (holder : Nat) : Nat × Nat :=
  let v := s.sel holder 0x4110 0
  if v = 0 then (0, s.oldestOf 0) else ((v - 1) / 2 ^ 32, (v - 1) % 2 ^ 32)

/-- Set a holder's cursor. -/
def State.setCursor (holder area seq : Nat) (s : State) : State := s.setSel holder 0x4110 0 (area * 2 ^ 32 + seq % 2 ^ 32 + 1)

/-- The value of 0x4110.00. -/
def State.cursorBytes (s : State) (holder : Nat) : List Byte := be 1 (s.cursor holder).1 ++ zeros 3 ++ be 4 (s.cursor holder).2

/-- The value of 0x4110.02 (R336). -/
def State.fenceBytes (s : State) : List Byte :=
  let newest := match s.log.staged.getLast? with
    | some r => r.seq
    | none => s.log.lastDurable
  let last := match s.log.areaF.getLast? with
    | some r => r.seq
    | none => 0
  let first := match s.log.areaF with
    | r :: _ => r.seq
    | [] => 0
  be 4 newest ++ be 4 s.log.lastDurable ++ be 4 (s.oldestOf 0) ++ be 4 first ++ be 4 last ++ be 2 s.log.areaF.length

end Sys2Proof.Machine
end

