-- ==== Sys2Proof/Machine/Values.lean ====
section
/-! DEFINITION. The value of every object that a read returns (the object tables of 00–18), from the state, as the byte string of
13 R305 and R306; and the counters that Tally latches (14 R338). -/

namespace Sys2Proof.Machine

/-! ## Counters (14 R338) -/

/-- A block's counter now: block, slot. Slots that a block does not use read zero. -/
def State.counterNow (s : State) (b k : Nat) : Nat :=
  if b < 0x004 then
    let p := s.port b
    if k < 4 then nth p.traffic k else if k < 6 then nth p.periods (k - 4) else if k = 6 then p.recoveries else p.correctable
  else if 0x008 ≤ b ∧ b < 0x010 then
    let h := s.head (b - 8)
    nth [h.readsDone, h.writesDone, h.partials, h.poisoned, h.reconstructed, h.excursions, h.stray, h.eqWritten] k
  else if 0x010 ≤ b ∧ b < 0x018 then nth (s.head (b - 0x10)).hist k
  else if 0x018 ≤ b ∧ b < 0x020 then nth s.wb.counts ((b - 0x18) * 8 + k)
  else if 0x020 ≤ b ∧ b < 0x030 then
    if k < 2 then Config.sramAccesses (b - 0x20) k s.tim.opTime
    else if k = 2 then (s.sram (b - 0x20)).corrected else if k = 3 then (s.sram (b - 0x20)).uncorrectable else 0
  else if b = 0x030 then nth s.rdp.counts k
  else if b = 0x031 then nth (s.trc.completed ++ [s.trc.refreshed] ++ s.trc.counts) k
  else if b = 0x032 then
    nth (s.itg.activity ++ [nth s.itg.counts 0, nth s.itg.counts 3, nth s.itg.counts 1, nth s.itg.counts 4, nth s.itg.counts 2]) k
  else if b = 0x033 then nth s.scr.ecc k
  else if b = 0x034 then nth s.scr.parity k
  else if 0x038 ≤ b ∧ b < 0x03D then (if k < 4 then nth s.scr.engines ((b - 0x38) * 4 + k) else 0)
  else if 0x040 ≤ b ∧ b < 0x064 then
    let c := s.channel (b - 0x40)
    nth ([c.lines, c.checks] ++ c.cmds ++ [c.parity]) k
  else if b = 0x068 then nth [s.flt.taken, s.flt.fences, s.flt.overflow, s.easy.volatileEntries] k
  else if b = 0x069 then nth [nth s.log.counts 0, nth s.log.counts 1, s.log.notStaged, nth s.log.counts 2] k
  else if b = 0x06A then
    nth [nth s.wop.frames 0, nth s.wop.frames 1, ((s.wop.frames.drop 2).take 8).sum, nth s.wop.frames 10,
      nth s.wop.counts 0, nth s.wop.counts 1, nth s.wop.counts 2, nth s.wop.counts 3] k
  else if b = 0x06B then nth s.tly.counts k
  else if b = 0x06C then nth [nth s.pwr.counts 0, s.seat.transactions, s.seat.retries, nth s.pwr.counts 1] k
  else if b = 0x06D then nth s.thm.counts k
  else if 0x100 ≤ b ∧ b < 0x340 then (if k < 4 then (s.plane ((b - 0x100) * 4 + k)).checks else 0)
  else if 0x400 ≤ b ∧ b < 0x640 then
    let d := s.die (b - 0x400)
    nth [d.checksWear, d.programs, d.clears, d.fallbacks, d.lowMargin, d.senses] k
  else 0

/-- The number of counter blocks, 0x000–0x63F. -/
def blocks : Nat := 0x640

/-- A counter of the active snapshot (R339). -/
def State.snapVal (s : State) (b k : Nat) : Nat := Tab.rd 0 s.tly.snap (b * 8 + k)

/-- A raw count less the base that a write of 0 recorded for its object (R340). -/
def State.since (s : State) (idx mem raw : Nat) : Nat := raw - Tab.rd 0 s.tly.bases (objKey idx mem)

/-! ## Values -/

/-- The code of a unit's state in 0x4020.01. -/
def unitCode : UnitState → Nat
  | .active => 0
  | .fenced => 1
  | .held => 2
  | .probing => 3
  | .rebuilding => 4
  | .latched => 5

/-- C1 messages of a source over the last 60 minutes (11 R268). -/
def State.hourCount (s : State) (src : Nat) : Nat :=
  (((s.source src).hour.filter fun e => decide (s.tim.opTime / 60000 < e.1 + 60)).map Prod.snd).sum

/-- The recovery count: re-admissions over the last 24 operating hours (R274). -/
def State.recoveryCount (s : State) (src : Nat) : Nat :=
  ((s.unit src).readmissions.filter fun t => decide (s.tim.opTime < t + 86400000)).length

/-- A granule of a die is in its channel's bad-granule table. -/
def State.badOfDie (s : State) (d : Nat) : Nat := ((s.channel (d / 16)).bad.filter fun g => g / 2 ^ 27 == d).length

/-- The PEAKs of the occupied physical tracts that have one of their own; every other occupied one has the base (R190). -/
def State.occupiedPeaks (s : State) : List Nat :=
  (s.trc.peak.filter fun e => decide (e.2 ≠ 0xFFFF) && (s.tractAt e.1).isSome).map fun e => s.peakOf e.1

/-- The highest PEAK of the occupied physical tracts. -/
def State.topPeak (s : State) : Nat := s.occupiedPeaks.foldl max (min 0xFFFE s.trc.peakBase)

/-- The lowest PEAK of the occupied physical tracts. -/
def State.lowPeak (s : State) : Nat :=
  let l := s.occupiedPeaks
  if l.length < occupiedTracts then min 0xFFFE s.trc.peakBase else l.foldl min 0xFFFE

/-- PEAK in hundredths of a percent of 10^8 programs, a PEAK unit being 2,048 programs (08 0x3100.0C). -/
def wearHundredths (peak : Nat) : Nat := peak * 2048 * 10000 / 100000000

/-- The median PEAK of the occupied physical tracts. -/
def State.medianPeak (s : State) : Nat :=
  let l := s.occupiedPeaks
  let rest := occupiedTracts - l.length
  if occupiedTracts / 2 < rest then min 0xFFFE s.trc.peakBase else (l.insertionSort (· ≤ ·)).getD (occupiedTracts / 2 - rest) 0

/-- The state ENUM of 0x5000.00 counts; bank voltage and the like are as the state holds them. -/
def seatOfDomain (d : Nat) : Nat :=
  if d < 12 then 2 else if d < 16 then 8 else if d < 32 then 3
  else if d < 68 then 4 else if d < 104 then 5 else if d < 140 then 6 else 7

/-- A media domain is off by a fence of its channel, or of all four dies of its stack (07 R182). -/
def State.offByFence (s : State) (d : Nat) : Bool :=
  decide (32 ≤ d) && (s.isOut (srcChannel ((d - 32) / 4))
    || (List.range 4).all fun i => s.isOut ((d - 32) / 4 * 16 + (d - 32) % 4 * 4 + i))

/-- Millivolts of a domain as its Seat measures them: nominal and margin while on. -/
def State.domainMv (s : State) (d : Nat) : Nat :=
  if s.domainOn d then (Config.nominalMv d * (100 + (s.domain d).margin).toNat) / 100 else 0

/-- The seconds left of a window that opened at `t` and lasts `life` seconds. -/
def State.left (s : State) (t life : Nat) : Nat := life - (s.tim.opTime - t) / 1000

/-- Easy-all state's code. -/
def easyCode : EasyState → Nat
  | .out => 0
  | .quiescing => 1
  | .flushed => 2
  | .flushedMediaOff => 3
  | .leaving => 4

/-- Start phase's code. -/
def phaseCode : StartPhase → Nat
  | .keelBoot => 0
  | .standby => 1
  | .corePowering => 2
  | .mapLoad => 3
  | .fullScan => 4
  | .rootRebuild => 5
  | .awaitingCustodian => 6
  | .review => 7
  | .normalService => 8

/-- The text of the fixed STR objects (13). -/
def vendorText : List Byte := [0x41, 0x66, 0x6C, 0x61, 0x72, 0x20, 0x53, 0x65, 0x6D, 0x69, 0x63, 0x6F, 0x6E, 0x64, 0x75, 0x63, 0x74, 0x6F, 0x72]
def partText : List Byte := [0x52, 0x4F, 0x53, 0x2D, 0x31, 0x34, 0x54, 0x34]

/-- The n-th object of the directory (R313). -/
def directoryEntry (n : Nat) : List Byte :=
  match objectKeys[n]? with
  | none => zeros 10
  | some k =>
    match rowOf (k / 256) (k % 256) with
    | none => zeros 10
    | some r => be 2 (k / 256) ++ be 1 (k % 256) ++ be 1 r.ty ++ be 1 r.acc ++ boolByte r.persist ++ [0] ++ be 2 r.len ++ be 1 r.flags

/-- The status record of a ticket's slot (R320). -/
def State.ticketStatus (s : State) (n : Nat) : List Byte :=
  let t := s.slot n
  if t.state = 0 then zeros 32 else
  be 4 t.ticket ++ be 1 t.state ++ be 1 t.outcome ++ be 1 t.progress ++ [0] ++ be 2 t.index ++ be 1 t.mem
    ++ be 1 (roleCode t.req.role) ++ be 1 t.req.path ++ zeros 3 ++ be 8 t.start ++ be 8 (if t.state = 1 then 0 else t.stop)

/-- The result record of a slot (R320, R321): 4 B of ticket 0 when Free. -/
def State.resultRecord (s : State) (n : Nat) : List Byte :=
  let t := s.slot n
  if t.state = 0 then zeros 4
  else if t.index = 0x3301 then be 4 t.ticket ++ t.result
  else be 4 t.ticket ++ be 1 t.outcome ++ zeros 3 ++ t.result

/-- Identity, ports and heads. -/
def State.valueA (s : State) (holder idx mem : Nat) : List Byte :=
  if idx = 0x1000 then
    match mem with
    | 0 => vendorText
    | 1 => partText
    | 2 => be 8 Config.serial
    | 3 => be 1 (Config.identity 0)
    | 4 => be 4 (if s.img.runsB then s.img.b.version else s.img.a.version)
    | 5 => be 1 (Config.identity 2)
    | 6 => be 4 (Config.identity 3)
    | 7 => be 4 (Config.identity 4)
    | 8 => be 8 (s.cfg idx mem)
    | 9 => be 2 (s.cfg idx mem)
    | _ => s.obj.label
  else if idx = 0x1001 then
    match mem with
    | 0 => be 2 (s.sel holder idx 0)
    | 1 => directoryEntry (s.sel holder idx 0)
    | _ => be 2 objectCount
  else if idx = 0x1100 then
    match mem with
    | 1 => be 8 (Config.identity 5 % 2 ^ 48)
    | 6 => be 1 s.wop.plca
    | 7 =>
      let f := fun i => nth s.wop.frames i - Tab.rd 0 s.tly.bases (objKey idx 7 + 2 ^ 24 * (i + 1))
      be 8 (f 0) ++ be 8 (f 1) ++ be 4 (f 2) ++ be 8 (f 3) ++ be 8 (f 4) ++ be 8 (f 5) ++ be 4 (f 6) ++ be 8 (f 7)
        ++ be 4 (f 8) ++ be 4 (f 9) ++ be 4 (f 10) ++ be 4 (f 11)
    | _ => be 1 (s.cfg idx mem)
  else if idx = 0x1101 then
    match mem with
    | 1 => be 1 (s.cfg idx 1)
    | 2 => boolByte s.wop.conflict
    | _ => be 2 (s.cfg idx mem)
  else if idx = 0x1102 then
    match mem with
    | 0 => be 1 s.pwr.gaLatched
    | 1 => be 1 s.pwr.gaPins
    | 2 => boolByte s.pwr.gaMismatch
    | 3 => be 1 (s.cfg idx 3)
    | _ => be 2 s.sideband
  else if idx = 0x1200 then be 1 (nth s.wop.keys 0) ++ be 1 (nth s.wop.keys 1) ++ be 1 (nth s.wop.keys 2) ++ [1]
  else if idx = 0x1202 then
    match mem with
    | 0 =>
      let l := s.wop.sess.filter fun e => e.2.opened
      be 1 l.length ++ l.flatMap fun e => be 2 e.1 ++ be 1 (roleCode e.2.role) ++ be 1 e.2.path
        ++ be 2 (saturate 16 ((s.tim.opTime - e.2.lastAt) / 1000))
    | _ => be 4 (s.cfg idx mem)
  else if 0x2000 ≤ idx ∧ idx < 0x2004 then
    let p := idx - 0x2000
    match mem with
    | 4 => be 1 (s.portState p)
    | 5 => be 4 (s.since idx 5 (s.port p).recoveries)
    | 6 => be 4 (s.since idx 6 (s.port p).correctable)
    | 7 => be 4 (s.port p).downCount
    | 8 => boolByte (s.port p).bifurcated
    | _ => be 1 (s.cfg idx mem)
  else if 0x2010 ≤ idx ∧ idx < 0x2018 then
    let h := idx - 0x2010
    match mem with
    | 0 => be 4 (s.linkStatus h).toNat
    | 1 => be 4 (s.boundStatus h).toNat
    | _ => be 4 (s.link h).perstCount
  else
    let h := idx - 0x2100
    let d := s.head h
    match mem with
    | 0 => be 1 (s.headState h)
    | 1 => be 2 (s.cfg idx 1)
    | 2 => be 1 (s.cfg idx 2)
    | 3 => be 1 (s.cfg idx 3)
    | 4 => be 1 d.resetReq
    | 5 => be 2 ((s.ext.pairs.filter fun e => decide (e.1 % 8 = h ∧ e.2.state = .assigned)).length)
    | 6 => be 4 (s.since idx 6 d.stray)
    | 7 => be 4 d.eqDrops
    | 8 => be 8 (s.snapVal (8 + h) 0)
    | 9 => be 4 (s.since idx 9 d.excursions)
    | 10 => be 4 (s.since idx 10 d.reconstructed)
    | 11 => be 2 (saturate 16 d.maxRead)
    | 12 => (List.range 8).flatMap fun k => be 4 (saturate 32 (s.snapVal (0x10 + h) k))
    | 13 => be 8 (s.snapVal (8 + h) 1)
    | 14 => be 8 (s.snapVal (8 + h) 2)
    | _ => be 2 (saturate 16 d.maxWrite)

/-- The two-bit state of a pair in 0x2120.01. -/
def pairCode : PairState → Nat
  | .free => 0
  | .offered => 1
  | .assigned => 2
  | .releasing => 3
  | .draining => 3

/-- Extents of a region. -/
def State.extentsOf (s : State) (r : Nat) : Nat := (s.ext.extents.filter fun e => decide (e.2.region = r)).length

/-- Extents, media, translation, write buffer, review, integrity, scrub. -/
def State.valueB (s : State) (holder idx mem : Nat) : List Byte :=
  if idx = 0x2120 then
    let e := s.sel holder idx 0
    match mem with
    | 0 => be 2 e
    | _ => be 1 (s.extent e).region ++ be 1 (s.extent e).hint
        ++ be 2 ((List.range 8).map fun h => pairCode (s.pair e h).state * 4 ^ h).sum
  else if idx = 0x2122 then be 4 (s.cfg idx mem)
  else if idx = 0x2140 then
    let r := s.region mem
    be 1 r.mask ++ boolByte (decide (r.mask ≠ 0)) ++ be 2 (s.extentsOf mem) ++ be 4 r.gen
  else if idx = 0x3000 then
    match mem with
    | 2 => be 2 (s.cfg idx 2)
    | 3 => be 2 s.med.governor
    | 4 => be 2 s.governorLimit
    | 5 => be 8 ((List.range 36).map fun c => s.snapVal (0x40 + c) 1).sum
    | 6 => be 8 ((List.range 576).map fun d => s.snapVal (0x400 + d) 0).sum
    | 8 => be 4 s.med.failures
    | _ => be 1 (s.cfg idx mem)
  else if 0x3010 ≤ idx ∧ idx < 0x3034 then
    let c := idx - 0x3010
    match mem with
    | 0 => be 1 (if (s.unit (srcChannel c)).state = .probing then 4 else if s.isOut (srcChannel c) then 3 else (s.channel c).state)
    | 1 => be 8 (s.snapVal (0x40 + c) 0)
    | 2 => be 8 (s.snapVal (0x40 + c) 1)
    | 3 => be 2 (s.channel c).maxQueue
    | 4 => be 1 (s.channel c).bad.length
    | 5 => s32 (s.channel c).timing
    | _ => be 4 (s.since idx 6 (s.channel c).parity)
  else if idx = 0x3040 then
    let d := s.sel holder idx 0
    match mem with
    | 0 => be 2 d
    | _ => be 1 (match (s.unit d).state with | .active => 0 | .rebuilding => 2 | .latched => 3 | _ => 1)
        ++ be 8 ((List.range 4).map fun k => s.snapVal (0x100 + d) k).sum
        ++ be 8 (s.snapVal (0x400 + d) 0) ++ be 8 (s.snapVal (0x400 + d) 1) ++ be 8 (s.snapVal (0x400 + d) 2)
        ++ be 4 (saturate 32 (s.snapVal (0x400 + d) 3)) ++ be 4 (saturate 32 (s.snapVal (0x400 + d) 4)) ++ be 2 (s.badOfDie d)
        ++ (List.range 4).flatMap fun k => be 4 (saturate 32 (s.snapVal (0x100 + d) k))
  else if idx = 0x3100 then
    match mem with
    | 0 => be 4 (s.cfg idx 0)
    | 2 => be 2 (s.cfg idx 2)
    | 5 => be 2 (s.cfg idx 5)
    | 7 => be 1 s.migsRunning
    | 8 => (List.range 5).flatMap fun k => be 8 (s.snapVal 0x31 k)
    | 9 => be 4 (s.since idx 9 s.trc.abandoned)
    | 10 => be 4 ((List.range 64).map fun r => s.freeOn r).sum ++ be 4 s.fewestFree.2 ++ be 1 s.fewestFree.1
    | 11 => be 4 s.trc.retired
    | 12 => (List.range 3).flatMap fun k => be 2 (wearHundredths (nth s.tly.wear k))
    | 13 => be 8 (s.snapVal 0x31 5)
    | 14 => be 4 s.trc.sweep
    | 15 => be 4 (nth s.trc.lastScan 0) ++ be 8 (nth s.trc.lastScan 1) ++ be 4 (nth s.trc.lastScan 2)
        ++ be 4 (nth s.trc.lastScan 3) ++ be 4 (nth s.trc.lastScan 4)
    | _ => be 1 (s.cfg idx mem)
  else if idx = 0x3110 then
    let t := s.sel holder idx 0
    match mem with
    | 0 => be 4 t
    | _ => be 4 (entryWord (s.entry t)) ++ be 2 (s.peakOf (s.entry t).pt)
        ++ be 2 (s.readsOf t * 1024 + (s.activity t).heat % 32 * 32 + min 31 ((s.activity t).occ / 2))
        ++ be 1 (match s.migOf t with | some m => migCode m.state | none => 0)
  else if idx = 0x3180 then
    match mem with
    | 3 => (List.range 8).flatMap fun n => be 4 (s.occupied n)
    | 4 => be 4 s.wb.dirty.length
    | 5 => be 4 s.wb.durableSeq
    | 6 => be 4 (s.since idx 6 s.wb.starvedCount)
    | 7 => be 1 s.wb.singlePairs
    | 8 => boolByte s.wb.lastDirty
    | 9 => be 4 s.suspects.length
    | 10 => be 1 s.wb.hostShutdown
    | 12 => be 4 s.wb.dirtyCount
    | 13 => be 4 s.flushCost
    | _ => be 4 (s.cfg idx mem)
  else if idx = 0x3190 then
    match mem with
    | 0 => be 1 s.str.review
    | 1 => be 1 (s.cfg idx 1)
    | 3 => be 8 (nth s.trc.decided 0) ++ be 8 (nth s.trc.decided 1)
    | _ => be 4 (s.sel holder idx 4)
  else if idx = 0x3200 then
    match mem with
    | 0 => be 1 s.itg.rootState
    | 1 => be 1 (s.cfg idx 1)
    | 3 => be 4 s.itg.alarms
    | 4 => be 4 s.itg.tagFails
    | 5 => be 4 s.itg.recovered
    | 6 => be 4 s.itg.reestablished
    | 7 => (List.range 3).flatMap fun k => be 8 (s.snapVal 0x32 k)
    | 8 => be 8 s.itg.overflows
    | 9 => be 8 s.itg.reserve
    | 12 => be 4 s.itg.treeGen
    | _ => be 4 (s.cfg idx mem)
  else if idx = 0x3201 then
    be 1 s.itg.rekeyRegion ++ be 1 s.itg.rekeyState ++ be 2 (nth s.itg.rekeyExtents 0) ++ be 2 (nth s.itg.rekeyExtents 1)
  else if idx = 0x3240 then
    let w := Tab.rd {} s.itg.windows mem
    be 8 w.first ++ be 8 w.len ++ be 4 w.life ++ be 4 (if w.len = 0 then 0 else s.left w.opened w.life)
  else if idx = 0x3300 then
    match mem with
    | 0 => be 1 (s.cfg idx 0)
    | 1 => be 2 (s.cfg idx 1)
    | 2 => be 4 (s.cfg idx 2)
    | 3 => ((List.range 6).flatMap fun k => be 8 (s.snapVal 0x33 k)) ++ be 4 (saturate 32 (s.snapVal 0x33 6))
    | 4 => be 4 s.scr.headerRepairs
    | 5 => be 4 (nth s.scr.selfTest 0) ++ be 8 (nth s.scr.selfTest 1) ++ be 2 (nth s.scr.selfTest 2) ++ be 1 (nth s.scr.selfTest 3)
        ++ be 8 s.scr.selfTestAt
    | _ => be 4 s.scr.patrol
  else if idx = 0x3301 then be 1 s.scr.passes.length
  else if 0x3310 ≤ idx ∧ idx < 0x3314 then
    let r := s.rebuild (idx - 0x3310)
    be 2 r.unit ++ be 1 (if r.state = 1 ∧ s.inEasy then 2 else r.state) ++ be 4 r.cursor ++ be 4 ptsPerRow ++ be 4 r.skipped ++ be 8 r.start
  else
    match mem with
    | 0 => (List.range 16).flatMap fun n => be 4 (saturate 32 (s.sram n).corrected) ++ be 2 (saturate 16 (s.sram n).uncorrectable)
    | _ => be 4 (saturate 32 (s.sram 16).corrected) ++ be 4 (saturate 32 (s.sram 16).uncorrectable)

/-- The whole active snapshot, 0x4200.04: its header, then every block (14 objects). -/
def State.snapshotBytes (s : State) : List Byte :=
  be 8 s.tly.number ++ be 8 s.tly.time ++ be 2 (s.cfg 0x4200 0) ++ be 2 (s.cfg 0x4200 1) ++ zeros 44
    ++ (List.range blocks).flatMap fun b => (List.range 8).flatMap fun k => be 8 (s.snapVal b k)

/-- Faults, Easy-all, Logbook, Tally. -/
def State.valueC (s : State) (holder idx mem : Nat) : List Byte :=
  if idx = 0x4000 then
    match mem with
    | 0 => be 8 (s.snapVal 0x68 0)
    | 0x10 => be 4 (s.since idx 0x10 s.flt.overflow)
    | 0x11 => be 2 s.flt.highMark
    | k => be 8 (nth s.flt.classes (k - 1))
  else if idx = 0x4001 then be 3 (s.cfg idx mem)
  else if idx = 0x4002 then be 4 (s.cfg idx mem)
  else if idx = 0x4010 then
    be 8 ((s.flt.sticky.filter fun n => decide (n / 64 = mem)).map fun n => 2 ^ (n % 64)).sum
  else if idx = 0x4020 then
    let n := s.sel holder idx 0
    match mem with
    | 0 => be 2 n
    | _ => be 1 (match unitKind n with | none => 6 | some _ => unitCode (s.unit n).state)
        ++ ((List.range 4).flatMap fun k => be 4 (nth (s.source n).counts k))
        ++ be 2 (saturate 16 (s.hourCount n)) ++ be 1 (s.recoveryCount n)
        ++ be 4 (if (s.unit n).quiet = 0 then 0 else s.left ((s.unit n).quiet - 1) (s.cfg 0x4002 0))
  else if idx = 0x4030 then
    let l := (s.flt.units.filter fun u => decide (u.2.state ≠ .active)).map Prod.fst
    be 2 l.length ++ (l.take 64).flatMap fun n => be 2 n
  else if idx = 0x4040 then
    match mem with
    | 0 => be 1 (easyCode s.easy.state)
    | 1 => be 1 s.easy.causes.toNat
    | 3 => be 4 s.easy.entries
    | _ => be 8 s.flt.lastC3.toNat ++ be 8 s.flt.lastC3At ++ be 4 s.flt.lastC3Cycle
  else if idx = 0x4100 then
    match mem with
    | 0 => be 4 s.ringUsed
    | _ => be 4 (s.since idx 1 s.log.notStaged)
  else if idx = 0x4110 then (if mem = 0 then s.cursorBytes holder else s.fenceBytes)
  else if idx = 0x4120 then
    let d := Tab.rd {} s.log.defs mem
    be 1 d.trigger ++ zeros 3 ++ be 4 d.param ++ be 1 d.objs.length ++ d.objs.flatMap fun o => be 2 o.index ++ be 1 o.member
  else if idx = 0x4121 then be 4 (s.since idx 1 s.log.overruns)
  else if idx = 0x4200 then
    match mem with
    | 2 => be 8 s.tly.number ++ be 8 s.tly.time ++ be 2 (s.cfg idx 0) ++ be 2 (s.cfg idx 1)
    | 3 => ((List.range 8).flatMap fun k => be 8 (nth s.tly.rates k)) ++ be 8 s.tly.winSnap
    | 4 => s.snapshotBytes
    | k => be 2 (s.cfg idx k)
  else
    let b := s.sel holder idx 0
    match mem with
    | 0 => be 2 b
    | _ => be 2 b ++ be 8 s.tly.number ++ (List.range 8).flatMap fun k => be 8 (s.snapVal b k)

/-- Power, thermal, health. -/
def State.valueD (s : State) (holder idx mem : Nat) : List Byte :=
  if idx = 0x5000 then
    match mem with
    | 0 => be 1 s.pwr.seqState
    | 1 => be 1 s.pwr.step
    | k => be 2 (s.cfg idx k)
  else if idx = 0x5010 then
    boolByte s.pwr.latch.latched ++ be 1 s.pwr.latch.domain ++ be 1 s.pwr.latch.step ++ be 1 s.pwr.latch.cause
      ++ be 2 s.pwr.latch.source ++ be 8 s.pwr.latch.time
  else if idx = 0x5020 then
    let d := s.sel holder idx 0
    match mem with
    | 0 => be 1 d
    | _ => be 1 (if (s.domain d).state = 0 ∧ s.offByFence d then 5 else (s.domain d).state) ++ be 1 (seatOfDomain d)
        ++ be 4 (Config.nominalMv d) ++ be 4 (s.domainMv d) ++ be 4 (if s.domainOn d then Config.domainMa d s.tim.opTime else 0)
        ++ s32 (s.domain d).margin ++ be 4 (s.domain d).drops
  else if idx = 0x5030 then boolByte s.pwr.marginOn
  else if idx = 0x5040 then
    match mem with
    | 0 => be 4 s.bank.mv
    | 1 => be 1 s.bank.state
    | 2 => be 4 s.bank.uFRaw ++ be 4 s.bank.uF ++ be 4 s.bank.esr ++ s32 s.bank.temp ++ be 8 s.bank.measuredAt
    | 3 => be 2 (s.cfg idx 3)
    | 5 => be 1 (s.cfg idx 5)
    | _ => be 4 s.bank.flushStartMv ++ be 4 s.bank.flushEndMv ++ be 4 s.bank.flushUs ++ be 4 s.bank.keelMs
  else if idx = 0x5050 then
    match mem with
    | 0 =>
      let f := fun i raw => raw - Tab.rd 0 s.tly.bases (objKey idx 0 + 2 ^ 24 * (i + 1))
      be 8 (f 0 s.seat.transactions) ++ be 4 (f 1 s.seat.crcErrors) ++ be 4 (f 2 s.seat.retries) ++ be 4 (f 3 s.seat.notResponding)
    | _ => (List.range 8).flatMap fun i =>
        be 1 (if s.pwr.haltDrivers.contains (i + 1) then 2 else bit (s.seatOf (i + 1)).silent)
  else if idx = 0x5060 then be 4 s.pwr.haltCount ++ be 2 s.pwr.haltSource ++ be 8 s.pwr.haltTime
  else if idx = 0x5080 then
    match mem with
    | 0 => be 4 s.pwr.inputMv
    | 1 => be 4 (s.pwr.pairA + s.pwr.pairB)
    | 2 => be 4 (s.pwr.inputMv * (s.pwr.pairA + s.pwr.pairB) / 1000)
    | 3 => be 4 s.pwr.peakMw
    | 4 => be 1 (powerCode s.pwr.state)
    | 5 => be 4 s.pwr.pairA ++ be 4 s.pwr.pairB
    | 6 => be 4 s.pwr.lossCount
    | 7 => be 4 s.pwr.tripCount
    | 8 => boolByte s.pwr.reqOff
    | 9 => be 1 (s.cfg idx 9)
    | _ => be 4 s.pwr.shortDips
  else if idx = 0x5090 then
    match mem with
    | 0 => be 1 (phaseCode s.str.phase)
    | _ => be 1 s.str.kind ++ boolByte s.str.clean ++ be 1 s.itg.rootState
        ++ ((List.range 6).flatMap fun k => be 4 (nth s.str.times k)) ++ be 8 s.str.origin
  else if idx = 0x5100 then
    match mem with
    | 0 => be 1 s.thm.level
    | 1 => be 1 (s.sel holder idx 1)
    | 2 =>
      let i := s.sel holder idx 1
      let x := s.input i
      be 2 (0x2C0 + i) ++ be 1 (inputKind i) ++ s32 (s.given i) ++ be 1 x.level ++ boolByte x.fast ++ boolByte x.faulty ++ s32 x.peak
    | 3 => be 1 s.hottest ++ s32 (s.given s.hottest) ++ s32 (s.marginOf s.hottest)
    | _ => (List.range 5).flatMap fun k => be 8 (nth s.thm.timeAt k)
  else if idx = 0x5101 then (if mem = 0 then be 2 (s.cfg idx 0) else be 1 (s.cfg idx mem))
  else if idx = 0x5110 then
    s32 (s.limit mem 1) ++ s32 (s.limit mem 2) ++ s32 (s.limit mem 3) ++ s32 (s.limit mem 4) ++ be 2 (s.limit mem 5).toNat
  else
    match mem with
    | 0 => be 1 s.hlt.state
    | 1 => be 1 s.hlt.lifeUsed
    | 2 => be 2 (wearHundredths s.topPeak) ++ be 2 (s.topPeak - s.hlt.peaks.headD 0) ++ be 4 s.hlt.mediaHours
    | 3 => be 4 s.hlt.c0 ++ be 4 s.bank.uF ++ be 4 s.hlt.fitted ++ s32 s.hlt.slope ++ be 2 s.hlt.points.length ++ be 4 s.hlt.bankHours
    | 4 => be 4 s.hlt.endHours ++ be 1 s.hlt.governing ++ be 8 s.hlt.predictedAt
    | 5 => be 4 s.fewestFree.2 ++ be 1 s.fewestFree.1 ++ be 4 s.trc.retired
    | 6 => be 6 (s.cfg idx 6)
    | _ => (List.range 6).flatMap fun k => be 1 (nth s.hlt.indicators k)

/-- The record of an image (0x6000.02, .03). -/
def imageRec (i : ImageS) : List Byte := be 1 i.state ++ be 4 i.version ++ be 1 i.rollback ++ be 4 i.len

/-- Boot flash, images, options, parameter store, Cox, tickets. -/
def State.valueE (s : State) (idx mem : Nat) : List Byte :=
  if idx = 0x6000 then
    match mem with
    | 0 => boolByte s.img.activeB
    | 1 => be 1 (match s.img.trial with | none => 0xFF | some b => bit b) ++ be 1 s.img.attempts
        ++ be 2 (match s.img.trial with
          | none => 0
          | some _ => if s.coxUp then s.left s.cox.readyAt (s.cfg idx 4) else s.cfg idx 4)
    | 2 => imageRec s.img.a
    | 3 => imageRec s.img.b
    | 4 => be 2 (s.cfg idx 4)
    | 5 => (match s.fls.running with
        | none => be 1 0 ++ be 2 0
        | some (.program _ sec) => be 1 2 ++ be 2 sec
        | some (.erase sec) => be 1 3 ++ be 2 sec)
        ++ be 1 s.fls.depth ++ be 4 (match s.fls.running with
          | some (.erase _) => (s.fls.ran + (s.tim.opTime - s.fls.startedAt)) * 1000
          | _ => s.fls.ran * 1000)
    | _ => be 8 (nth s.fls.counts 0) ++ be 8 (nth s.fls.counts 1) ++ be 4 (nth s.fls.counts 2) ++ be 4 (nth s.fls.counts 3)
        ++ be 4 (nth s.fls.counts 4)
  else if idx = 0x6010 then
    match mem with
    | 0 =>
      let o := s.fls.optionWords.getD {}
      be 1 o.rollbackMin ++ be 1 o.bpReset ++ be 2 o.wdtBoot ++ boolByte o.dbgLock ++ boolByte o.t1sOff
    | _ => be 1 s.cox.optionState
  else if idx = 0x6100 then
    match mem with
    | 0 => be 4 s.tim.cycles
    | 1 => be 8 (s.tim.opTime % 2 ^ 48)
    | 2 => be 1 s.par.bp
    | 3 => be 2 s.par.queue.length ++ be 2 s.par.retired.length ++ be 2 s.par.spares ++ be 4 s.par.lost
    | _ => be 8 s.par.writes.sum ++ (List.range 6).flatMap fun k => be 8 (nth s.par.writes k)
  else if idx = 0x6200 then
    match mem with
    | 0 => boolByte s.cox.iScratch ++ boolByte s.cox.dScratch ++ (List.range 5).flatMap fun k => be 8 (Config.cacheCounts k s.tim.opTime)
    | 3 => be 4 s.cox.resets
    | 4 => be 8 (nth s.cox.lastReset 0) ++ be 4 (nth s.cox.lastReset 1) ++ be 4 (nth s.cox.lastReset 2) ++ be 4 (nth s.cox.lastReset 3)
    | 5 => be 1 s.cox.state
    | 6 => be 4 (nth s.cox.lastOrphan 0) ++ be 8 (nth s.cox.lastOrphan 1) ++ be 4 (nth s.cox.lastOrphan 2) ++ be 1 (nth s.cox.lastOrphan 3)
    | k => be 2 (s.cfg idx k)
  else if idx = 0x7010 then s.ticketStatus mem
  else if idx = 0x7011 then s.resultRecord mem
  else
    match mem with
    | 0 => be 4 (s.cfg idx 0)
    | 1 => be 1 ((s.obj.slots.filter fun e => decide (e.2.state ≠ 0)).length)
    | _ => be 4 s.obj.busyRefusals

/-- The value of a readable object as the bytes a READ returns; the objects whose reading changes the state (0x1210.01, 0x3190.05,
0x4110.01) and those whose value the Logbook's tables give (0x4100.00, 0x4110.00, 0x4110.02) are read by their own operations. -/
def State.value (s : State) (holder idx mem : Nat) : List Byte :=
  if idx < 0x2108 then s.valueA holder idx mem
  else if idx < 0x4000 then s.valueB holder idx mem
  else if idx < 0x5000 then s.valueC holder idx mem
  else if idx < 0x6000 then s.valueD holder idx mem
  else s.valueE idx mem

end Sys2Proof.Machine
end

