-- ==== Sys2Proof/Machine/Ops.lean ====
section
/-! DEFINITION. The operations that every family shares: outputs, Logbook staging, event queue records, NOTIFY, tickets, the
parameter store's queue, fault messages, entry into Easy-all, the viral state, link-down and training. -/

namespace Sys2Proof.Machine

/-! ## Outputs and free values -/

/-- Send something out of the module. -/
def State.emit (o : Out) (s : State) : State := s.modOut fun l => l ++ [o]

/-- Draw a free value: the counter advances, and the value is an opaque function of it (notes/assumptions/4.md). -/
def State.draw (s : State) : Nat × State := (s.free, s.modFree fun n => n + 1)

/-- An MSI-X message, sent while the link is up (R86). -/
def State.msix (h v : Nat) (s : State) : State :=
  let l := s.link h
  if !s.linkUp h || !l.msixOn then s
  else if l.d3hot || l.msixFnMask || testBit l.msixMask v then
    s.modLink h fun l => { l with msixPending := l.msixPending - bit (testBit l.msixPending v) * 2 ^ v + 2 ^ v }
  else s.emit (.msix h v)

/-- A CXL event log of the head takes a record: vector 1 (03 R86). -/
def State.cxlEvent (h : Nat) (o : Out) (s : State) : State := (s.emit o).msix h 1

/-! ## The Logbook (14 R323–R331) -/

/-- Count page writes of an area of the parameter store (17 R406): 0 operating time, 1 power cycles, 2 state records, 3 spares,
4 configuration records, 5 factory records. -/
def State.countPages (area n : Nat) (s : State) : State :=
  s.modPar fun p => { p with writes := modNth p.writes area (· + n) }

/-- Queue a page write of a state record: both copies of one page, with the record's next sequence (17 R409; notes/assumptions/40.md). -/
def State.storeWrite (page : Nat) (s : State) : State :=
  s.modPar fun p =>
    { p with queue := p.queue ++ [{ page := page, left := 1, copy1 := 1 }], seqs := Tab.mod 0 p.seqs page fun n => (n + 1) % 2 ^ 32 }

/-- Raise the Logbook sequence's reservation before the sequence reaches it (R328). -/
def State.reserveSeq (s : State) : State :=
  if nextSeq s.log.next = s.log.reserve % 2 ^ 32 then
    (s.modLog fun l => { l with reserve := (l.reserve + 65536) % 2 ^ 32 }).storeWrite 80
  else s

/-- Stage a record: its sequence, 0 when it found no room (R324, R327). -/
def State.stage (body : LogBody) (s : State) : Nat × State :=
  if s.ringUsed + body.size ≤ (if body.privileged then 131072 else 126976) then
    let s := s.reserveSeq
    (s.log.next, s.modLog fun l =>
      { l with
        staged := l.staged ++ [{ seq := l.next, time := s.tim.opTime, cycles := s.tim.cycles, body := body }]
        next := nextSeq l.next
        counts := modNth l.counts 0 (· + 1) })
  else
    (0, s.modLog fun l =>
      { l with
        notStaged := l.notStaged + 1
        lostNow := l.lostNow + 1
        lostFirst := if l.lostNow = 0 then s.tim.opTime else l.lostFirst })

/-! ## NOTIFY (12 R296) -/

/-- Send a NOTIFY: it carries the session's next module sequence (R293) and is counted (14 R338). -/
def State.sendNotify (sess k kind lost : Nat) (content : List Byte) (s : State) : State :=
  let s := s.modSession sess fun z => { z with modSeq := z.modSeq + 1 }
  (s.modWop fun w => { w with counts := modNth w.counts 3 (· + 1), frames := modNth w.frames 0 (· + 1) }).emit
    (.notify sess k kind lost content)

/-- One slot of a session meets an event: it is sent, or held and counted while the minimum interval runs. -/
def State.notifySlot (sess k kind : Nat) (content : List Byte) (s : State) : State :=
  let x := Tab.rd {} (s.session sess).subs k
  let put := fun (y : SubSlot) => State.modSession sess fun z => { z with subs := Tab.set {} z.subs k y }
  if x.running then put { x with heldCount := x.heldCount + 1, heldContent := content } s
  else
    let s := if x.minMs = 0 then s else put { x with running := true, heldCount := 0, heldContent := [] } s
    s.sendNotify sess k kind 0 content

/-- The code of a subscription's kind (R288). -/
def subCode : SubKind → Nat
  | .none => 0
  | .objectChange => 1
  | .faultClasses => 2
  | .logbookE => 3
  | .headEvents => 4

/-- Every open slot that asks for an event sees it, while Cox runs (R296, R424). -/
def State.notify (want : SubSlot → Bool) (content : List Byte) (s : State) : State :=
  if !s.coxUp then s else
  forEach (s.wop.sess.flatMap fun e => e.2.subs.map fun k => (e.1, k.1, k.2))
    (fun x => fun s => if want x.2.2 then s.notifySlot x.1 x.2.1 (subCode x.2.2.kind) content else s) s

/-- The value of an object has changed: slots of kind 1 on it (R296). -/
def State.notifyObject (idx mem : Nat) (s : State) : State :=
  let v := s.value 0 idx mem
  s.notify (fun x => decide (x.kind = .objectChange ∧ x.index = idx ∧ x.mem = mem))
    (be 2 idx ++ be 1 mem ++ be 1 (match rowOf idx mem with | some r => r.ty | none => 0) ++ be 2 v.length ++ v)

/-- Stage a class E record, and tell the slots of kind 3 (R296). -/
def State.logE (body : LogBody) (s : State) : Nat × State :=
  let r := s.stage body
  if r.1 = 0 then r else
  (r.1, r.2.notify (fun x => decide (x.kind = .logbookE))
    (be 4 r.1 ++ ({ seq := r.1, time := s.tim.opTime, cycles := s.tim.cycles, body := body } : LogRec).bytes))

/-- Stage a class E record whose sequence nobody needs. -/
def State.record (body : LogBody) (s : State) : State := (s.logE body).2

/-- A power event (15, kinds 1–16). -/
def State.powerEvent (kind : Nat) (s : State) : State :=
  s.record (.power kind (powerCode s.pwr.state) s.pwr.inputMv (s.pwr.inputMv * (s.pwr.pairA + s.pwr.pairB) / 1000))

/-- A management event (R331). -/
def State.manage (code : Nat) (req : Req) (outcome idx mem ticket sess : Nat) (value : List Byte) (s : State) : State :=
  s.record (.management code req outcome idx mem ticket sess value)

/-! ## Sessions (12 R294) -/

/-- A session is held under a number. -/
def State.hasSession (s : State) (n : Nat) : Bool := s.wop.sess.any fun e => e.1 == n

/-- A session closes: its subscriptions, bulk transfers and selectors end with it (R294, R298, R331). -/
def State.closeSess (n : Nat) (s : State) : State :=
  if !s.hasSession n then s else
  let x := s.session n
  let s := s.modWop fun w => { w with sess := Tab.erase w.sess n, bulks := w.bulks.filter fun b => decide (b.sess ≠ n) }
  let s := s.modObj fun o => { o with selectors := o.selectors.filter fun e => decide (e.1 / 2 ^ 24 ≠ n) }
  s.manage 5 { role := x.role, path := x.path } 0 0 0 0 n []

/-! ## Event queues (04 R110–R115) -/

/-- Records the ring holds. -/
def EqS.ringSize (q : EqS) : Nat := 64 * 2 ^ q.size

/-- The ring is full: PI − CI = N (R112). -/
def EqS.full (q : EqS) : Bool := decide ((q.pi - q.ci).toNat = q.ringSize)

/-- An event queue record of 64 B (R115). -/
def eqBytes (s : State) (type flags source seq logSeq : Nat) (payload : List Byte) : List Byte :=
  be 1 type ++ be 1 flags ++ be 2 source ++ be 4 seq ++ be 4 logSeq ++ zeros 4 ++ be 8 (s.tim.opTime % 2 ^ 48)
    ++ be 4 s.tim.cycles ++ zeros 4 ++ payload

/-- Signal the producer index: at most one vector 2 message per coalescing interval (R112, R113). -/
def State.eqSignal (h : Nat) (s : State) : State :=
  let q := (s.head h).eq
  if q.coal = 0 then s.msix h 2
  else if q.coalescing then s
  else (s.modEq h fun q => { q with coalescing := true, signalledPi := q.pi }).msix h 2

/-- Put a record into a head's queue: written, dropped or not generated (R112–R114). -/
def State.eqPost (h type source logSeq : Nat) (payload : List Byte) (s : State) : State :=
  let s := s.when (decide (type ≤ 8)) (State.notify (fun x => decide (x.kind = .headEvents) && testBit x.mask (type - 1))
    (eqBytes s type 0 source (s.head h).eq.seq.toNat logSeq payload))
  let q := (s.head h).eq
  if !q.mask.getLsbD type || !q.enable then s
  else if !s.linkUp h then s.modEq h fun q => { q with seq := q.seq + 1, gap := true }
  else if q.full then
    (s.modEq h fun q => { q with seq := q.seq + 1, gap := true, overflow := true, dropped := q.dropped + 1 }).modHead h
      fun d => { d with eqDrops := d.eqDrops + 1 }
  else
    let rec' := Out.eqRecord h (q.base + 64 * (q.pi.toNat % q.ringSize)) type (bit q.gap) source q.seq.toNat logSeq (s.tim.opTime % 2 ^ 48)
      s.tim.cycles payload
    let s := (s.emit rec').modEq h fun q => { q with seq := q.seq + 1, gap := false, pi := q.pi + 1 }
    let s := s.modHead h fun d => { d with eqWritten := d.eqWritten + 1 }
    (s.emit (.eqMirror h q.mirror (q.pi + 1).toNat q.dropped)).eqSignal h

/-- A record for several heads: one Logbook head event stands for all of them (R331); each copy names it (R115). -/
def State.headEvent (heads : List Nat) (type source : Nat) (payload : List Byte) (s : State) : State :=
  if heads.isEmpty then s else
  let r := s.logE (.headEvent (heads.map fun h => 2 ^ h).sum type payload)
  forEach heads (fun h => State.eqPost h type source r.1 payload) r.2

/-- A record that concerns the module as a whole goes to every head (R115). -/
def allHeads : List Nat := [0, 1, 2, 3, 4, 5, 6, 7]

/-- A payload filled with zeros to 32 B. -/
def payload32 (l : List Byte) : List Byte := l ++ zeros (32 - l.length)

/-- Link and viral record (type 0x07) and vector 3 (R86, R115). -/
def State.linkEvent (h : Nat) (s : State) : State :=
  (s.headEvent [h] 7 0x3FF (payload32 (be 4 (s.linkStatus h).toNat))).msix h 3

/-- Where a head's BOUND_STATUS differs from the one last reported, a type 0x02 record and vector 3 report it (R89, R115). -/
def State.boundSyncHead (h : Nat) (s : State) : State :=
  let new := s.boundStatus h
  let old := (s.head h).bound
  if new = old then s else
  let s := s.modHead h fun d => { d with bound := new }
  (s.headEvent [h] 2 0x3FF (payload32 (be 4 new.toNat ++ be 4 old.toNat))).msix h 3

/-- BOUND_STATUS changes of every head. -/
def State.boundSync (s : State) : State := forEach allHeads State.boundSyncHead s

/-! ## Snapshots (14 R332–R334) -/

/-- What a snapshot holds of an object: its status and its value (R334). -/
def State.snapItem (s : State) (o : ObjRef) : ObjRef × Nat × List Byte :=
  match rowOf o.index o.member with
  | none => (o, 0x02, [])
  | some r => if r.dom < 12 ∧ !s.domainOn r.dom then (o, 0x0A, []) else (o, 0x00, s.value 0 o.index o.member)

/-- Items packed into parts of at most 232 B of items each (a record is at most 256 B). -/
def packItems (room : Nat) (cur : List (ObjRef × Nat × List Byte)) :
    List (ObjRef × Nat × List Byte) → List (List (ObjRef × Nat × List Byte))
  | [] => [cur]
  | x :: r =>
    let n := (itemBytes x).length
    if n ≤ room then packItems (room - n) (cur ++ [x]) r else cur :: packItems (232 - n) [x] r

/-- Fire a definition: its objects are read in order and staged as consecutive class S records (R334). -/
def State.fire (n trigger cause : Nat) (s : State) : State :=
  let d := Tab.rd {} s.log.defs n
  if d.trigger = 0 then s else
  let parts := packItems 232 [] (d.objs.map s.snapItem)
  forEach ((List.range parts.length).zip parts)
    (fun p => fun s => (s.stage (.snapshot n trigger p.1 (parts.length - 1) cause p.2)).2) s

/-- Fire the definitions whose trigger an event meets, while Cox runs the definitions (R332). -/
def State.fireWhere (want : SnapDef → Bool) (cause : Nat) (s : State) : State :=
  if !s.coxUp then s else
  forEach (s.log.defs.filter fun e => want e.2) (fun e => State.fire e.1 e.2.trigger cause) s

/-! ## Tickets (13 R318–R321) -/

/-- The slot a deferred operation takes: the lowest Free, else the Done slot Done the longest, if for the result hold time
(R319). -/
def State.freeSlot (s : State) : Option Nat :=
  match (List.range 32).find? fun n => (s.slot n).state == 0 with
  | some n => some n
  | none =>
    let done := (List.range 32).filter fun n =>
      (s.slot n).state == 2 && decide ((s.slot n).stop + s.cfg 0x7012 0 * 1000 ≤ s.tim.opTime)
    done.foldl (fun b n => match b with
      | none => some n
      | some m => if (s.slot n).stop < (s.slot m).stop then some n else b) none

/-- Start a deferred operation: its slot, none and status 0x08 when no slot qualifies (R319). -/
def State.ticketStart (req : Req) (idx mem : Nat) (s : State) : Option Nat × State :=
  match s.freeSlot with
  | none => (none, s.modObj fun o => { o with busyRefusals := o.busyRefusals + 1 })
  | some n =>
    let t := s.obj.ticketNext * 32 + n
    let s := s.modObj fun o =>
      { o with
        ticketNext := o.ticketNext + 1
        ticketRes := if o.ticketNext + 1 = o.ticketRes then o.ticketRes + 4096 else o.ticketRes
        slots := Tab.set {} o.slots n
          { ticket := t, state := 1, outcome := 1, progress := 255, index := idx, mem := mem, req := req, start := s.tim.opTime } }
    (some n, s.manage 2 req 0 idx mem t 0 [])

/-- End a deferred operation with an outcome and the fields of its result (R320, R321); while Cox is absent the slot is written when it
returns (18 R424). -/
def State.ticketDone (n outcome : Nat) (result : List Byte) (s : State) : State :=
  let t := s.slot n
  if t.state ≠ 1 then s
  else if !s.coxUp then s.modObj fun o => { o with ended := o.ended ++ [(n, outcome, result)] }
  else
  let s := s.modSlot n fun t => { t with state := 2, outcome := outcome, stop := s.tim.opTime, result := result }
  s.manage 3 t.req outcome t.index t.mem t.ticket 0 []

/-- The answer to an object access: status, ticket, and the state after. -/
abbrev Acc := Nat × Nat × State

/-- An access that is refused, or completed without a ticket. -/
def State.answer (status : Nat) (s : State) : Acc := (status, 0, s)

/-- A deferred access: takes a slot and starts `f` on it, or is refused with 0x08 (R319). -/
def State.deferred (req : Req) (idx mem : Nat) (f : Nat → State → State) (s : State) : Acc :=
  match s.ticketStart req idx mem with
  | (none, s) => (0x08, 0, s)
  | (some n, s) => (0x00, (s.slot n).ticket, f n s)

/-- The outcome of a step that sends the response of an object access (R310). -/
def reply (req : Req) (idx mem : Nat) (a : Acc) : State := a.2.2.emit (.access req idx mem a.1 a.2.1)

/-- A role has at least the rights of another (R288). -/
def Role.atLeast (r least : Role) : Bool := decide (roleCode least ≤ roleCode r)

/-! ## Fault messages (01 R23, 11 R262) -/

/-- A write that clears a source's sticky bit is in progress (R270, R311). -/
def State.stickyClearing (s : State) (src : Nat) : Bool :=
  s.obj.deferred.any fun d => d.2.1 == objKey 0x4010 (src / 64) + 1 && testBit d.2.2 (src % 64)

/-- Set a source's sticky bit; a message that arrives while a write of a one to it is in progress leaves it set (R270). -/
def State.setSticky (src : Nat) (s : State) : State :=
  let s := s.when (s.stickyClearing src) (State.modFlt fun x => { x with stickyAgain := insertSorted src x.stickyAgain })
  if s.flt.sticky.contains src then s
  else s.modFlt fun x => { x with sticky := insertSorted src x.sticky, stickyDue := insertSorted src x.stickyDue }

/-- Queue a message; a full queue drops it and counts (R23). -/
def State.queueFault (m : Word64) (s : State) : State :=
  s.modFlt fun x =>
    if x.queue.length < 256 then
      { x with queue := x.queue ++ [m], highMark := max x.highMark (x.queue.length + 1) }
    else { x with overflow := x.overflow + 1, lost := x.lost + 1 }

/-- A head signals viral, or receives it, and enters the viral state (R75, R76). -/
def State.enterViral (h : Nat) (s : State) : State :=
  if (s.head h).viral then s else
  let s := s.modHead h fun d => { d with viral := true }
  ((s.queueFault (faultMsg (srcHead h) 0x49 none false)).linkEvent h)

/-- The module signals viral on a head whose host has enabled it (R75). -/
def State.signalViral (h : Nat) (s : State) : State :=
  if (s.link h).viralEnable && s.linkUp h && !(s.head h).viral then (s.emit (.viral h)).enterViral h else s

/-- Withhold, or return again, both kinds of credit on every port (R72). -/
def State.withholdAll (s : State) : State :=
  forEach [0, 1, 2, 3] (fun p => State.modPort p fun x => { x with rwdWithheld := true, reqWithheld := true }) s

/-- RwD credit is withheld for some reason other than Easy-all (R147, R148, R152, R154, R417). -/
def State.rwdHeld (s : State) : Bool :=
  s.wb.highWater || s.wb.costHeld || s.wb.ledgerHeld || s.wb.dipHeld || decide (s.str.review ≠ 0)

/-- Set every port's credits as the state asks: both withheld outside data service; RwD as R147–R154 and R417. -/
def State.creditSync (s : State) : State :=
  forEach [0, 1, 2, 3] (fun p => State.modPort p fun x =>
    { x with rwdWithheld := !s.inService || s.rwdHeld, reqWithheld := !s.inService }) s

/-- Every margin returns to 0; each change is a power event (15 R361). -/
def State.zeroMargins (s : State) : State :=
  forEach (Tab.keysWhere (fun (d : DomainS) => decide (d.margin ≠ 0)) s.pwr.domains)
    (fun d => fun s => (s.modDomain d fun x => { x with margin := 0 }).powerEvent 16) s

/-- Data service ends: the heads stop, the flush begins, the margins return to 0 (R54, R279, 15 R361). -/
def State.easyBegin (viral : Bool) (s : State) : State :=
  let s := s.modPwr fun p => { p with state := .easyAll }
  let s := s.modEasy fun e => { e with state := .quiescing, entries := e.entries + 1, volatileEntries := e.volatileEntries + 1 }
  let s := (s.modWb fun w => { w with flushing := true, flushFrom := w.nextUnit }).withholdAll
  let s := if viral then forEach allHeads State.signalViral s else s
  ((s.boundSync).fireWhere (fun d => decide (d.trigger = 4)) 0).zeroMargins

/-- Enter Easy-all for a cause (R279): its bit is set; from data service the heads stop, viral is signalled for C3, and the flush
begins. A cause in Easy-all joins the flush in progress (R282). -/
def State.easyEnter (bitNo : Nat) (s : State) : State :=
  let s := s.modEasy fun e => { e with causes := e.causes ||| (1#8 <<< bitNo) }
  if s.inService then s.easyBegin (bitNo == 0)
  else if bitNo = 0 then forEach allHeads State.signalViral s
  else s

/-- The reaction to a fatal line (R23, R269): the last C3 is kept and the module enters Easy-all. -/
def State.fatal (m : Word64) (s : State) : State :=
  let s := s.modFlt fun x =>
    { x with lastC3 := m, lastC3At := s.tim.opTime, lastC3Cycle := s.tim.cycles }
  s.easyEnter 0

/-- A source reports a kind, while the keel island runs: its sticky line, the queue, and for C3 its fatal line (R23, R270). A C3 message that finds the queue
full is counted at the fatal line (0x4000.04). -/
def State.report (src kind : Nat) (addr : Option Nat) (s : State) : State :=
  if !s.keelOn then s else
  let cls := kindClass kind
  let m := faultMsg src kind addr (cls == 3)
  let s := s.when (decide (1 ≤ cls)) (State.setSticky src)
  let room := s.flt.queue.length < 256
  let s := s.queueFault m
  if cls = 3 then
    ((if room then s else s.modFlt fun x => { x with classes := modNth x.classes 3 (· + 1) }).fatal m)
  else s

/-- A security event with the source address of its cause (14 R331); its C0 message of the security monitor (11 R265;
notes/assumptions/43.md). -/
def State.securityFrom (kind region count dpa source : Nat) (s : State) : State :=
  (s.record (.security kind region count dpa source)).report 0x2FB 0x89 none

/-- A security event (14 R331): kind, region, count, DPA. -/
def State.security (kind region count dpa : Nat) (s : State) : State := s.securityFrom kind region count dpa 0

/-! ## Links (03 R66, R80) -/

/-- The port's link is held in reset in one of the ways of R65: PERST_N, no cable, a port fence, or its domains off. -/
def State.modeHeld (s : State) (h : Nat) : Bool :=
  (s.link h).perstLow || !(s.port (h / 2)).cable || s.isOut (srcPort (h / 2)) || !s.domainOn 1 || !s.domainOn (12 + h / 2)

/-- Apply a pending mode of a port whose links are both held in reset (R65). -/
def State.applyMode (p : Nat) (s : State) : State :=
  if s.modeHeld (2 * p) && s.modeHeld (2 * p + 1) then
    s.modPort p fun x => { x with bifurcated := decide (s.cfg (0x2000 + p) 0 = 1) }
  else s

/-- Write completions still owed to a head are not sent (R80). -/
def dropOwed (h : Nat) (e : Entry) : Entry :=
  { e with owed := e.owed.map fun o => if o.head = h then { o with discard := true } else o }

/-- Operations of a head that an entry has still to complete. -/
def owedTo (h : Nat) (l : LineEnts) : Nat :=
  let n := fun (o : Option Entry) => match o with
    | none => 0
    | some e => (e.owed.filter fun x => decide (x.head = h)).length
  n l.opened + n l.drain

/-- The function's CXL.io state cleared: non-sticky configuration registers and MSI-X (R80, R82). -/
def clearedIo (l : LinkS) : LinkS :=
  { l with
    ioConfigured := false, d3hot := false, msixOn := false, msixFnMask := false, msixMask := 15, msixPending := 0, msixTable := [] }

/-- The state of a link cleared when it leaves training or service (R80); AER and other sticky bits stay (R83). A head that an IDE check
stopped stays so until its streams are keyed again (R79). -/
def clearedLink (l : LinkS) : LinkS :=
  { clearedIo l with
    state := 0, speed := 0, width := 0, flit := 0, memEnable := false, viralEnable := false, ideIo := 0, ideMem := 0,
    ideNeeded := false, ideFell := l.ideStopped, reached32 := false, decoders := l.decoders.map fun d => { d with committed := false } }

/-- A loss of the link's data link layer: a full reset of its head (R80). Reads in flight are carried through and their responses
discarded; writes received stay in order and their completions are not sent. Each operation leaves the port's pool as it finishes (R81). -/
def State.linkDown (h : Nat) (s : State) : State :=
  if (s.link h).state = 0 ∨ (s.link h).state = 4 then s else
  let wasUp := s.linkUp h
  let s := s.modLink h fun l => let c := clearedLink l; if wasUp then { c with downCount := c.downCount + 1 } else c
  let s := s.when wasUp (State.modPort (h / 2) fun p => { p with downCount := p.downCount + 1 })
  let s := s.modRdp fun r => { r with reads := r.reads.map fun e =>
    if e.2.head = h then (e.1, { e.2 with discard := true }) else e }
  let s := s.modWb fun w => { w with ents := Tab.remap {} (fun _ l =>
    { opened := l.opened.map (dropOwed h), drain := l.drain.map (dropOwed h) }) w.ents }
  let s := s.modHead h fun d => { d with viral := false, eq := {}, doorbell := none }
  let s := if wasUp then s.headEvent [h] 7 0x3FF (payload32 (be 4 (s.linkStatus h).toNat)) else s
  let s := s.boundSync
  if (s.inService || s.inEasy) && !s.anyFast then s.easyEnter 5 else s

/-- A link that is no longer held trains from step 1 of R66; its head reset object reads 0 again (R93). -/
def State.train (h : Nat) (s : State) : State :=
  if !s.linkHeld h && !s.absent h && (s.link h).state == 0 then
    (s.modLink h fun l => { l with state := 1 }).modHead h fun d => { d with resetReq := 0 }
  else s

/-- A link now held in reset or in Link Disable: down, and its port's pending mode applied (R49, R65, R80, R85). -/
def State.holdLink (h : Nat) (s : State) : State := (s.linkDown h).applyMode (h / 2)

/-- A port's links: those held go down, the mode is applied, those free train. -/
def State.portSync (p : Nat) (s : State) : State :=
  let s := s.when (s.linkHeld (2 * p)) (State.linkDown (2 * p))
  let s := s.when (s.linkHeld (2 * p + 1)) (State.linkDown (2 * p + 1))
  ((s.applyMode p).train (2 * p)).train (2 * p + 1)

/-- Every port's links. -/
def State.linksSync (s : State) : State := forEach [0, 1, 2, 3] State.portSync s

end Sys2Proof.Machine
end

