-- ==== Sys2Proof/Machine/Place.lean ====
section
/-! DEFINITION. Where a line lies on the medium and what is stored there (05 R120, 08 R189, 09 R221): granules, stripe rows, node
positions, parity; the one operation that writes a granule. -/

namespace Sys2Proof.Machine

/-! ## Addresses -/

/-- The address of a granule: (channel × 16 + die) × 2^27 + index within the die. -/
def granAddr (ch die granule : Nat) : Nat := (ch * 16 + die) * 2 ^ 27 + granule

/-- The die of a granule address. -/
def dieOf (a : Nat) : Nat := a / 2 ^ 27
/-- The index within its die. -/
def granOf (a : Nat) : Nat := a % 2 ^ 27
/-- The die row of a granule address: group × 16 + die (R120). -/
def rowOfAddr (a : Nat) : Nat := dieOf a / 16 / 9 * 16 + dieOf a % 16
/-- The physical tract of a granule address (R189). -/
def ptOfAddr (a : Nat) : Nat := rowOfAddr a * 262144 + granOf a / 512
/-- The plane of a granule address: key (channel × 16 + die) × 4 + sector mod 4 (R162). -/
def planeOf (a : Nat) : Nat := dieOf a * 4 + granOf a / 256 % 4
/-- The sector of a granule address: die × 2^19 + sector (R162). -/
def sectorOf (a : Nat) : Nat := dieOf a * 2 ^ 19 + granOf a / 256

/-- The granule address at a position 0–8 of a stripe row of a physical tract (R120). -/
def atPosition (pt row position : Nat) : Nat :=
  granAddr (rowOfPt pt / 16 * 9 + position) (rowOfPt pt % 16) (inRow pt * 512 + row)

/-- The parity position of a stripe row (R120). -/
def parityPos (pt row : Nat) : Nat := (inRow pt * 512 + row) % 9

/-- The position of data granule d of a stripe row (R120). -/
def dataPos (pt row d : Nat) : Nat := if d < parityPos pt row then d else d + 1

/-- The nine granules of a stripe row by position. -/
def stripe (pt row : Nat) : List Nat := (List.range 9).map (atPosition pt row)

/-- The address of data granule `g` (0–4,095) of a tract on a physical tract (R120). -/
def placeGranule (pt g : Nat) : Nat := atPosition pt (g / 8) (dataPos pt (g / 8) (g % 8))

/-- The parity granule of a stripe row. -/
def parityAddr (pt row : Nat) : Nat := atPosition pt row (parityPos pt row)

/-- The position of a granule address in its stripe row. -/
def posOf (a : Nat) : Nat := dieOf a / 16 % 9

/-- The stripe row of a granule address within its physical tract. -/
def stripeRow (a : Nat) : Nat := granOf a % 512

/-- Data granule number of an address within its tract, none for a parity granule. -/
def dataIndex (a : Nat) : Option Nat :=
  let p := granOf a % 9
  if posOf a = p then none else some (stripeRow a * 8 + (if posOf a < p then posOf a else posOf a - 1))

/-! ## Stored contents -/

/-- A stored line with nothing wrong: written, tag zero, as integrity and system lines are (R216). -/
def plainLine (d : Line) : StoredLine := { blank := false, ct := d, tag := 0, poison := false }

/-- XOR of stored lines (R245, R246): a blank line counts as zeros, and a result of zeros counts as blank. -/
def xorLines (l : List StoredLine) : StoredLine :=
  let ct := l.foldl (fun a x => a ^^^ (if x.blank then 0 else x.ct)) 0
  let tag := l.foldl (fun a x => a ^^^ (if x.blank then 0 else x.tag)) 0
  let poison := l.foldl (fun a x => a ^^ (!x.blank && x.poison)) false
  { blank := decide (ct = 0 ∧ tag = 0 ∧ poison = false), ct := ct, tag := tag, poison := poison }

/-- KIND of a tract's granules (R167): user data, integrity, system. -/
def kindOf (t : Nat) : Nat := if t < logicalTracts then 0 else if (t - logicalTracts) % 0x8000 < 5256 then 1 else 2

/-- A granule of a reserve tract as shipped: its lines are constants of Config, its parity their XOR; every other granule is blank. -/
def shipGranule (a : Nat) : Granule :=
  match homeTract (ptOfAddr a) with
  | none => {}
  | some t =>
    if t < logicalTracts then {} else
    let hdr : Header := { tract := t, gran := 0, kind := kindOf t }
    let data := fun g k => plainLine (Config.shipLine (t * 16384 + g * 4 + k))
    match dataIndex a with
    | some g =>
      { blank := false, hdr := { hdr with gran := g }, line0 := data g 0, line1 := data g 1, line2 := data g 2, line3 := data g 3 }
    | none =>
      let row := stripeRow a
      let par := fun k => { xorLines ((List.range 8).map fun d => data (row * 8 + d) k) with blank := false }
      { blank := false, hdr := { hdr with gran := row, parity := true }, line0 := par 0, line1 := par 1, line2 := par 2, line3 := par 3 }

/-- A granule of the medium. -/
def State.granule (s : State) (a : Nat) : Granule := Tab.get shipGranule s.med.granules a

/-- Write a granule: the one operation that changes the medium's cells. -/
def State.putGranule (a : Nat) (g : Granule) (s : State) : State :=
  s.modMed fun m => { m with granules := Tab.put shipGranule m.granules a g }

/-- A granule as a read finds it: its registered image, else the medium (R128, R145). -/
def State.image (s : State) (a : Nat) : Granule := Tab.get s.granule s.wb.inProgram a

/-- A registered image. -/
def State.registered (s : State) (a : Nat) : Option Granule := (s.wb.inProgram.find? fun e => e.1 == a).map Prod.snd

/-- Line k of a granule. -/
def granLine (g : Granule) (k : Nat) : StoredLine :=
  if g.blank then {} else
  let l := if k = 0 then g.line0 else if k = 1 then g.line1 else if k = 2 then g.line2 else g.line3
  { l with blank := false }

/-- A granule with its four lines. -/
def granuleOf (hdr : Header) (f : Nat → StoredLine) : Granule :=
  let l := fun k => { f k with blank := false }
  { blank := false, hdr := hdr, line0 := l 0, line1 := l 1, line2 := l 2, line3 := l 3 }

/-- Replace a line of a granule. -/
def granSet (g : Granule) (k : Nat) (l : StoredLine) : Granule :=
  granuleOf g.hdr fun j => if j = k then l else granLine g j

/-! ## Stored formats (07 R162, R164, R167, R168) -/

/-- The 128-bit granule header (R167). -/
def headerBits (h : Header) : BitVec 128 :=
  BitVec.ofNat 128 (h.tract % 2 ^ 24 * 2 ^ 104 + h.gran % 2 ^ 12 * 2 ^ 92 + h.gen % 2 ^ 32 * 2 ^ 60 + h.epoch % 2 ^ 28 * 2 ^ 32
    + bit h.sealed * 2 ^ 31 + bit h.parity * 2 ^ 30 + h.kind % 4 * 2 ^ 28 + h.writer % 4 * 2 ^ 26)

/-- The header of a granule with its check bits. -/
def headerWord (h : Header) : BitVec 128 × BitVec 64 := (headerBits h, Config.headerCheck (headerBits h))

/-- Metadata bits 95:80 of a line: the persistent poison bit, then zeros (R168). -/
def poisonBits (l : StoredLine) : BitVec 16 := BitVec.ofNat 16 (bit l.poison * 2 ^ 15)

/-- The check bits of a line: zero for a line of zeros, the code being linear (R168, R245). -/
def lineEcc (l : StoredLine) : BitVec 80 :=
  if l.ct = 0 ∧ l.tag = 0 ∧ l.poison = false then 0 else Config.lineCheck l.ct l.tag (poisonBits l)

/-- The 160 bits of a line's metadata: TAG, POISON, zeros, ECC (R168). -/
def lineMeta (l : StoredLine) : BitVec 160 :=
  BitVec.ofNat 160 (l.tag.toNat * 2 ^ 96 + (poisonBits l).toNat * 2 ^ 80 + (lineEcc l).toNat)

/-- The levels of a granule's 16 reference cells, four per level (R162, R164): every cell at the reset level 0 when cleared, the four
target levels once programmed; none that the spec gives where a program was cut off. -/
def refCells (g : Granule) : Option (List Nat) :=
  if g.blank then some (List.replicate 16 0)
  else if g.torn then none
  else some [0, 0, 0, 0, 1, 1, 1, 1, 2, 2, 2, 2, 3, 3, 3, 3]

/-- Write epoch: operating time bits 43:16 (R167). -/
def State.epochNow (s : State) : Nat := s.tim.opTime / 2 ^ 16 % 2 ^ 28

/-- The header that a writer gives a granule of a tract (R167): 0 drain, 1 migration, 2 refresh, 3 scrub or rebuild. -/
def State.headerFor (s : State) (a t writer : Nat) : Header :=
  let g := dataIndex a
  { tract := t, gran := g.getD (stripeRow a), gen := (s.activity t).gen, epoch := s.epochNow, parity := g.isNone, kind := kindOf t
    writer := writer }

/-- The granule is in its channel's bad-granule table (R180). -/
def State.badGranule (s : State) (a : Nat) : Bool := (s.channel (dieOf a / 16)).bad.contains a

/-- The rebuild of a re-admitted unit has passed the granule's row, or the drain has marked it (R144, R248). -/
def State.rebuilt (s : State) (a : Nat) : Bool :=
  let r := s.rebuild (rowOfAddr a / 16)
  decide (granOf a / 512 < r.cursor) || r.touched.contains (rowOfAddr a * 2 ^ 27 + granOf a)

/-- The granule's content cannot be read where it lies: its die or channel is out, re-admitted and not yet rebuilt at its row, or it
is listed bad (R130, R144, R180). -/
def State.lostAt (s : State) (a : Nat) : Bool :=
  s.dieOut (dieOf a) || (s.dieLost (dieOf a) && !s.rebuilt a) || s.badGranule a

/-- Line k of a granule by reconstruction from the other eight, none when a second one is lost (R130, R246). -/
def State.rebuildLine (s : State) (a k : Nat) : Option StoredLine :=
  let others := (stripe (ptOfAddr a) (stripeRow a)).filter fun b => b != a
  if others.any s.lostAt then none else some (xorLines (others.map fun b => granLine (s.image b) k))

/-- Line k of a granule as the module can read it: stored, or rebuilt; none when it is lost. -/
def State.lineAt (s : State) (a k : Nat) : Option StoredLine :=
  if s.lostAt a then s.rebuildLine a k else some (granLine (s.image a) k)

/-- A lost line as it is stored and counted: zeros, zero tag, persistent poison (R144, R247). -/
def lostLine : StoredLine := { blank := false, ct := 0, tag := 0, poison := true }

/-- The granule images that give a line of a stripe row new content: its own granule with a fresh header, and the row's parity by
difference (R142, R245); a granule that is out of service or listed bad gets none (R144, R180). -/
def State.lineImages (s : State) (a k t writer : Nat) (l : StoredLine) : List (Nat × Granule) :=
  let par := parityAddr (ptOfAddr a) (stripeRow a)
  let g := s.image a
  let p := s.image par
  let diff := xorLines [granLine p k, (s.lineAt a k).getD {}, l]
  let own := granuleOf (s.headerFor a t writer) fun j => if j = k then l else granLine g j
  let parity := granuleOf (s.headerFor par t writer) fun j => if j = k then diff else granLine p j
  (if s.lostAt a then [] else [(a, own)]) ++ (if s.lostAt par then [] else [(par, parity)])

/-! ## Tracts -/

/-- A running migration of a tract. -/
def State.running (s : State) (t : Nat) : Option Migration :=
  s.trc.migs.find? fun m => m.tract == t && decide (m.state ≠ .queued)

/-- A migration that has not yet been sealed. -/
def Migration.early (m : Migration) : Bool := decide (m.state = .copying ∨ m.state = .sealing)

/-- The physical tract that serves reads of a tract: its entry's, or the sealed destination (R128, R197). -/
def State.readPt (s : State) (t : Nat) : Nat :=
  match s.running t with
  | some m => if m.state = .copying ∨ m.state = .sealing then (s.entry t).pt else m.dst
  | none => (s.entry t).pt

/-- A physical tract that is free: placed by no entry, destination of no migration, not retired, not waiting for its clear (R189). -/
def State.freePt (s : State) (pt : Nat) : Bool :=
  (s.tractAt pt).isNone && decide (s.peakOf pt ≠ 0xFFFF) && !(s.trc.dirtyPts.any fun d => d.1 == pt)
    && !(s.trc.migs.any fun m => decide (m.state ≠ .queued) && (m.dst == pt || m.src == pt))

/-- The bands of R194. -/
inductive Band where
  | hot | cold | warm
  deriving DecidableEq, Repr

/-- The band of a tract (R194). -/
def State.band (s : State) (t : Nat) : Band :=
  if logicalTracts ≤ t then .hot else
  let hint := (s.extent (t / 256)).hint
  if hint = 1 then .hot else if hint = 2 then .cold
  else if s.cfg 0x3100 3 ≤ (s.activity t).heat then .hot
  else if (s.activity t).heat ≤ s.cfg 0x3100 4 then .cold else .warm

/-- The retirement limit in PEAK units (R202). -/
def retireLimit : Nat := 48828

/-- A die row may take a logical tract (R195). -/
def State.rowEligible (s : State) (row srcGroup : Nat) : Bool :=
  decide (1025 ≤ s.freeOn row) && (!s.degraded (row / 16) || row / 16 == srcGroup)
    && !((List.range 9).any fun i => (s.channel (row / 16 * 9 + i)).bad.any fun a => rowOfAddr a == row)

/-- The candidates of a die row that can be chosen: those with a PEAK of their own, former places of tracts, and the lowest place
above the shipment placement; every other free one ties with the last and lies after it (R195). -/
def State.candidates (s : State) (row : Nat) : List Nat :=
  let peaked := (s.trc.peak.filter fun e => rowOfPt e.1 == row).map Prod.fst
  let homes := (s.moved.filter fun e => rowOfPt (shipEntry e.1).pt == row).map fun e => (shipEntry e.1).pt
  let n := s.trc.map.length + s.trc.peak.length + s.trc.dirtyPts.length + 2 * s.trc.migs.length + 1
  let spare := (range' (row * 262144 + 234637) (min n 27507)).find? s.freePt
  ((peaked ++ homes).filter s.freePt) ++ (match spare with | some p => [p] | none => [])

/-- The score of a candidate, lowest best; none when the band does not take it (R195). -/
def State.score (s : State) (b : Band) (pt : Nat) : Option Nat :=
  let p := s.peakOf pt
  match b with
  | .hot => some p
  | .cold => if p < retireLimit - s.cfg 0x3100 0 / 2048 then some (retireLimit - p) else none
  | .warm => some (max p s.medianPeak - min p s.medianPeak)

/-- The destination of a placement of a tract, none when there is no candidate (R195). -/
def State.destination (s : State) (t : Nat) : Option Nat :=
  let b := s.band t
  let rows := if logicalTracts ≤ t then [(t - logicalTracts) / 0x8000]
    else (List.range 64).filter fun row => s.rowEligible row (rowOfPt (s.entry t).pt / 16)
  let order := fun (pt : Nat) => (rowOfPt pt + 63 - s.trc.lastRow) % 64 * 262144 + inRow pt
  let best := (rows.flatMap s.candidates).foldl (fun (acc : Option (Nat × Nat)) pt =>
    match s.score b pt, acc with
    | none, _ => acc
    | some v, none => some (v, pt)
    | some v, some (w, q) => if v < w ∨ (v = w ∧ order pt < order q) then some (v, pt) else acc) none
  best.map Prod.snd

/-! ## Node positions (09 R221) -/

/-- The kinds of node line of a tract. -/
inductive NodeKind where
  | block | l1 | l1m | l2 | l2m | l3
  deriving DecidableEq, Repr

/-- Home offset, j base, bytes per physical tract, physical tracts per reserve tract (R221). -/
def NodeKind.table : NodeKind → Nat × Nat × Nat × Nat
  | .block => (16, 0, 16384, 64)
  | .l1 => (32, 4096, 2048, 512)
  | .l1m => (48, 4608, 2048, 512)
  | .l2 => (48, 5120, 256, 4096)
  | .l2m => (16, 5184, 256, 4096)
  | .l3 => (8, 5248, 32, 32768)

/-- The byte offset of a node within its reserve tract, with that tract (R221). -/
def nodeAt (pt : Nat) (n : NodeKind) (k : Nat) : Nat × Nat :=
  let (off, jb, size, q) := n.table
  let home := (rowOfPt pt + off) % 64
  (logicalTracts + home * 0x8000 + jb + inRow pt / q, inRow pt % q * size + k * 64)

/-- The line key of a node: reserve tract × 16,384 + line. -/
def nodeKey (pt : Nat) (n : NodeKind) (k : Nat) : Nat := (nodeAt pt n k).1 * 16384 + (nodeAt pt n k).2 / 64

/-- Where the line of a key lies: granule address and line within it. -/
def State.locate (s : State) (key : Nat) : Nat × Nat :=
  (placeGranule (s.readPt (key / 16384)) (key % 16384 / 4), key % 4)

/-! ## Counter blocks and nodes (09 R218–R224) -/

/-- Counter block i0. -/
def State.block (s : State) (i0 : Nat) : CounterBlock := Tab.rd {} s.itg.blocks i0

/-- The minor of line m of a counter block (R218). -/
def CounterBlock.minor (b : CounterBlock) (m : Nat) : Nat := (b.minors >>> (7 * m)).toNat % 128

/-- A counter block with the minor of a line set. -/
def CounterBlock.setMinor (b : CounterBlock) (m v : Nat) : CounterBlock :=
  { b with minors := (b.minors &&& ~~~((127 : BitVec 448) <<< (7 * m))) ||| (BitVec.ofNat 448 (v % 128) <<< (7 * m)) }

/-- A counter block as its 64 B line (R218). -/
def CounterBlock.line (b : CounterBlock) : Line :=
  BitVec.ofNat 512 (b.major % 2 ^ 56 * 2 ^ 456 + bit b.kg * 2 ^ 455 + bit b.pz * 2 ^ 454 + b.minors.toNat)

/-- A node's place in the table of nodes. -/
def nodeIdx (level index : Nat) : Nat := level * 2 ^ 32 + index

/-- A node with the MAC of a child set (R219). -/
def setSlot (l : Line) (c : Nat) (m : Word64) : Line :=
  (l &&& ~~~(BitVec.ofNat 512 (2 ^ 64 - 1) <<< (64 * c))) ||| (BitVec.ofNat 512 m.toNat <<< (64 * c))

/-- The MAC that a node holds for a child. -/
def slotOf (l : Line) (c : Nat) : Word64 := BitVec.ofNat 64 (l >>> (64 * c)).toNat

/-- A node of levels 1–9 as shipped: the MACs of its children (log 12). -/
def shipNode (k : Nat) : Line :=
  (List.range 8).foldl (fun l c => setSlot l c (Config.shipMac (k / 2 ^ 32 - 1) (k % 2 ^ 32 * 8 + c))) 0

/-- The newest content of a node, level 0 being the counter block. -/
def State.node (s : State) (level index : Nat) : Line :=
  if level = 0 then (s.block index).line else Tab.get shipNode s.itg.nodes (nodeIdx level index)

/-- The root register's MAC of an L9 node. -/
def State.rootSlot (s : State) (i : Nat) : Word64 := Tab.get (fun i => Config.shipMac 9 i) s.itg.root i

/-- The MAC of a node's newest content (R219). -/
def State.macOf (s : State) (level index : Nat) : Word64 := nodeMac level index s.itg.treeGen (s.node level index)

/-- Where levels 4–9 begin in the pinned space, and its end (R224). -/
def pinnedBases : List Nat := [0x0000000, 0x3800000, 0x3F00000, 0x3FE0000, 0x3FFC000, 0x3FFF800, 0x4000000]

/-- Byte offset of a pinned node in the pinned space (R224). -/
def pinnedOffset (level index : Nat) : Nat := pinnedBases.getD (level - 4) 0 + index * 64

/-- The pinned node that lies at a byte offset: level and index (R224). -/
def pinnedAt (off : Nat) : Nat × Nat :=
  let level := 3 + (pinnedBases.filter fun b => decide (b ≤ off)).length
  (level, (off - pinnedBases.getD (level - 4) 0) / 64)

/-- Bytes of a band (01 R31). -/
def bandBytes : Nat := 0x800000

/-- The nodes at one offset of the eight bands (01 R31). -/
def bandMates (w : Nat) : List (Nat × Nat) := (List.range 8).map fun n => pinnedAt (n * bandBytes + w * 64)

/-- A parity word of the shipment tree (01 R31). -/
def shipParity (w : Nat) : Line := (bandMates w).foldl (fun a n => a ^^^ shipNode (nodeIdx n.1 n.2)) 0

/-- The parity word at a 64 B word of the bands (01 R31). -/
def State.parityWord (s : State) (w : Nat) : Line := Tab.get shipParity s.stg.parity w

/-- The part that holds a parity word (01 R31). -/
def parityPart (w : Nat) : Nat := 8 + w * 64 / 0x100000 % 8

/-- A pinned node by reconstruction: the seven other bands and the parity (01 R31, R32). -/
def State.rebuiltPinned (s : State) (level index : Nat) : Line :=
  let off := pinnedOffset level index
  let w := off % bandBytes / 64
  ((bandMates w).filter fun n => n ≠ (level, index)).foldl (fun a n => a ^^^ s.node n.1 n.2) (s.parityWord w)

/-- A node as the engine reads it: one of the pinned levels from its band, or by reconstruction where the part of its band is out
(01 R32). -/
def State.nodeRead (s : State) (level index : Nat) : Line :=
  if 4 ≤ level ∧ level ≤ 9 ∧ s.partOut (pinnedOffset level index / bandBytes) then s.rebuiltPinned level index else s.node level index

/-- Write a node; the parity word of a pinned one changes in the same line operation (01 R31, R224). -/
def State.putNode (level index : Nat) (l : Line) (s : State) : State :=
  let old := s.node level index
  let s := s.modItg fun x => { x with nodes := Tab.put shipNode x.nodes (nodeIdx level index) l }
  if 4 ≤ level ∧ level ≤ 9 then
    let w := pinnedOffset level index % bandBytes / 64
    s.modStg fun x => { x with parity := Tab.put shipParity x.parity w (Tab.get shipParity x.parity w ^^^ old ^^^ l) }
  else s

/-- The MAC its parent holds for a node. -/
def State.slotFor (s : State) (level index : Nat) : Word64 :=
  slotOf (if 4 ≤ level + 1 ∧ level + 1 ≤ 9 then s.nodeRead (level + 1) (index / 8) else s.node (level + 1) (index / 8)) (index % 8)

/-- A fetched copy of a node verifies: it is as the engine last wrote it, or its MAC is the one its parent holds (R125). -/
def State.nodeOk (s : State) (level index : Nat) (l : Line) : Bool :=
  decide (l = s.node level index) || nodeMac level index s.itg.treeGen l == s.slotFor level index

/-- Write a node's parent after the node changed. -/
def State.climbOne (level index : Nat) (s : State) : State :=
  let m := s.macOf level index
  s.putNode (level + 1) (index / 8) (setSlot (s.node (level + 1) (index / 8)) (index % 8) m)

/-- Update every node above a counter block and the root register (R228 steps 3 and 4). -/
def State.climb (i0 : Nat) (s : State) : State :=
  let s := forEach (List.range 9) (fun l => State.climbOne l (i0 / 8 ^ l)) s
  let i9 := i0 / 8 ^ 9
  let m := s.macOf 9 i9
  s.modItg fun x => { x with root := Tab.put (fun i => Config.shipMac 9 i) x.root i9 m }

/-- Set a counter block and everything above it. -/
def State.setBlock (i0 : Nat) (b : CounterBlock) (s : State) : State :=
  (s.modItg fun x => { x with blocks := Tab.set {} x.blocks i0 b }).climb i0

/-- A new major, H + 1; the reservation is raised before H comes within 2^16 of it (R214, R215). -/
def State.drawMajor (s : State) : Nat × State :=
  let h := s.itg.high + 1
  let s := s.modItg fun x => { x with high := h }
  (h, if s.itg.reserve ≤ h + 65536 then (s.modItg fun x => { x with reserve := x.reserve + 1048576 }).storeWrite 81 else s)

/-- A major that has been written raises H (R214). -/
def State.usedMajor (m : Nat) (s : State) : State :=
  if m ≤ s.itg.high then s else
  let s := s.modItg fun x => { x with high := m }
  if s.itg.reserve ≤ m + 65536 then (s.modItg fun x => { x with reserve := x.reserve + 1048576 }).storeWrite 81 else s

/-! ## Lines (09 R211–R217) -/

/-- The region of a line. -/
def State.regionOf (s : State) (line : Nat) : Nat := (s.extent (line / 4194304)).region

/-- The key generation under which a span's lines are encrypted, by its KG (R218): g, or g + 1 while a re-key runs. -/
def State.genOf (s : State) (region : Nat) (kg : Bool) : Nat :=
  let g := (s.region region).gen
  if bit kg = g % 2 then g else g + 1

/-- The decision of R217. -/
inductive Decided where
  | zero | data (pt : Line) | poison | tagFail
  deriving DecidableEq, Repr

/-- Decide a line of the medium by its counter block (R217). -/
def State.decideLine (s : State) (b : CounterBlock) (n : Nat) (l : StoredLine) : Decided :=
  let minor := b.minor (n % 64)
  let r := s.regionOf n
  let g := s.genOf r b.kg
  if l.blank then (if minor ≠ 0 then .tagFail else if b.pz then .poison else .zero)
  else if l.poison then .poison
  else if minor = 0 then .tagFail
  else if l.tag = lineTag r g n b.major minor l.ct then .data (l.ct ^^^ keystream r g n b.major minor)
  else .tagFail

/-- A line encrypted and tagged (R211, R216). -/
def sealLine (r g n major minor : Nat) (pt : Line) (poison : Bool) : StoredLine :=
  let ct := pt ^^^ keystream r g n major minor
  { blank := false, ct := ct, tag := lineTag r g n major minor ct, poison := poison }

end Sys2Proof.Machine
end

