-- ==== Sys2Proof/Machine/Plane.lean ====
section
/-! DEFINITION. The arbiter of a plane, the jobs it grants, wear, clears and free physical tracts (07 R162–R182, 08 R189–R202). -/

namespace Sys2Proof.Machine

/-! ## Wear (07 R179, 08 R191) -/

/-- One wear cycle of a granule, entered in its epoch's count. -/
def State.wear (a : Nat) (s : State) : State :=
  s.modTrc fun x => { x with epoch := Tab.mod 0 x.epoch a (· + 1) }

/-- A program of a granule counts for its tract's heat (R192). -/
def State.heatOf (a : Nat) (s : State) : State :=
  match s.tractAt (ptOfAddr a) with
  | some t => if t < logicalTracts then s.modActivity t fun x => { x with programs := x.programs + 1 } else s
  | none => s

/-- Count an engine's work (blocks 0x038–0x03C): engine 0 migration, 1 scrub, 2 refresh, 3 rebuild, 4 clear; 0 operations, 1 granules
sensed, 2 granules programmed. -/
def State.engineCount (e k n : Nat) (s : State) : State :=
  s.modScr fun x => { x with engines := modNth x.engines (e * 4 + k) (· + n) }

/-- An engine's place among those counters. -/
def Engine.slot : Engine → Option Nat
  | .drain => none
  | .clear => some 4
  | .scrub => some 1
  | .migration => some 0
  | .refresh => some 2
  | .rebuild => some 3

/-- A granule programmed in one step, as the checkpoints and the scan are (notes/assumptions/13.md): its cells, one wear cycle, its die's
count. -/
def State.programNow (a : Nat) (g : Granule) (s : State) : State :=
  (((s.putGranule a g).wear a).heatOf a).modDie (dieOf a) fun d => { d with programs := d.programs + 1 }

/-- A further cause for a tract that has a migration: recorded; a queued one is served at the earliest of its causes (R196, R199). -/
def Migration.addCause (m : Migration) (cause : Nat) : Migration :=
  if m.cause = cause ∨ m.also.contains cause then m
  else if m.state = .queued ∧ cause < m.cause then { m with cause := cause, also := m.also ++ [m.cause] }
  else { m with also := m.also ++ [cause] }

/-- Queue a migration for a cause; causes above 1 need STATE Mapped (R196, R199). -/
def State.queueMig (t cause : Nat) (s : State) : State :=
  if 1 < cause ∧ (s.entry t).state ≠ .mapped then s
  else if s.trc.migs.any fun m => m.tract == t then
    s.modTrc fun x => { x with migs := x.migs.map fun m => if m.tract = t then m.addCause cause else m }
  else s.modTrc fun x => { x with migs := x.migs ++ [{ tract := t, cause := cause, src := (s.entry t).pt }] }

/-- READS has grown: at its threshold the tract is queued (R196). -/
def State.readsGrown (t : Nat) (s : State) : State := if s.cfg 0x3100 1 ≤ s.readsOf t then s.queueMig t 3 else s

/-- A tract enters the count cache of 16,384 tracts; the one held longest leaves it, its READS growing by one where it leaves a remainder
(R193; notes/assumptions/56.md). -/
def State.holdCount (t : Nat) (s : State) : State :=
  if s.trc.counted.contains t then s
  else if s.trc.counted.length < 16384 then s.modTrc fun x => { x with counted := x.counted ++ [t] }
  else match s.trc.counted with
    | [] => s
    | u :: l =>
      let s := s.modTrc fun x => { x with counted := l ++ [t] }
      if (s.activity u).senses = 0 then s
      else (s.modActivity u fun x => { x with senses := 0, reads := x.reads + 1 }).readsGrown u

/-- Senses at a granule count for its tract: READS grows by one each 262,144 (R193). -/
def State.countSenses (a n : Nat) (s : State) : State :=
  match s.tractAt (ptOfAddr a) with
  | some t =>
    if t < logicalTracts then
      ((s.holdCount t).modActivity t fun x =>
        { x with senses := (x.senses + n) % 262144, reads := x.reads + (x.senses + n) / 262144 }).readsGrown t
    else s
  | none => s

/-- One sense at a granule. -/
def State.countSense (a : Nat) (s : State) : State := s.countSenses a 1

/-- A tract moved, or rewritten whole, has READS 0 (R193). -/
def State.zeroReads (t : Nat) (s : State) : State := s.modActivity t fun x => { x with reads := 0, senses := 0, since := s.trc.scans }

/-- What lies in a granule whose old content has been destroyed (R164): a free value of the draw. -/
def destroyed (n : Nat) : Granule :=
  { blank := false, torn := true
    hdr := { tract := Config.freeNat n % 2 ^ 24, gran := Config.freeNat (n + 1) % 4096, gen := Config.freeNat (n + 2) % 2 ^ 32 }
    line0 := plainLine (Config.freeLine n), line1 := plainLine (Config.freeLine (n + 1))
    line2 := plainLine (Config.freeLine (n + 2)), line3 := plainLine (Config.freeLine (n + 3)) }

/-- Destroy a granule's content. -/
def State.destroy (a : Nat) (s : State) : State := (s.putGranule a (destroyed s.free)).modFree fun n => n + 4

/-! ## Free physical tracts (08 R189, R202) -/

/-- Raise the PEAK of a physical tract that is not retired. -/
def State.raisePeak (pt n : Nat) (s : State) : State :=
  s.modTrc fun x => { x with peak := Tab.mod 0 x.peak pt fun v => if v = 0xFFFF then v else min 0xFFFE (v + n) }

/-- The sectors of a physical tract (R162). -/
def sectorsOf (pt : Nat) : List Nat :=
  (stripe pt 0).flatMap fun a => [dieOf a * 2 ^ 19 + 2 * inRow pt, dieOf a * 2 ^ 19 + 2 * inRow pt + 1]

/-- Every clear of the physical tract has completed, those of dies out of service included: such a tract waits for their rebuild (R189,
R247). -/
def State.cleared (s : State) (pt : Nat) : Bool :=
  (sectorsOf pt).all fun k => decide (Tab.rd 0 s.med.clearing k = 0)

/-- A die row that runs short of spares is reported once (R202). -/
def State.spareCheck (row : Nat) (s : State) : State :=
  if s.freeOn row < 256 ∧ ¬ s.trc.spareRows.contains row then
    (s.modTrc fun x => { x with spareRows := insertSorted row x.spareRows }).report 0x291 0x51 none
  else s

/-- A cleared physical tract is free, or retired: PEAK at the limit, or it held a bad granule (R202). Its bad granules leave the
table (R180). -/
def State.freeTract (pt : Nat) (retire : Bool) (s : State) : State :=
  let listed := (range' (rowOfPt pt / 16 * 9) 9).any fun c => (s.channel c).bad.any fun a => ptOfAddr a == pt
  let s := forEach (range' (rowOfPt pt / 16 * 9) 9)
    (fun c => State.modChannel c fun x => { x with bad := x.bad.filter fun a => ptOfAddr a != pt }) s
  let s := s.when listed (State.storeWrite 82)
  let s := s.modTrc fun x => { x with dirtyPts := x.dirtyPts.filter fun d => d.1 != pt }
  if retire || listed || decide (retireLimit ≤ s.peakOf pt) then
    (s.modTrc fun x => { x with peak := Tab.set 0 x.peak pt 0xFFFF, retired := x.retired + 1 }).spareCheck (rowOfPt pt)
  else s

/-- The given-up physical tracts whose clear has ended join the free pool, or retire. -/
def State.freeDone (s : State) : State :=
  forEach (s.trc.dirtyPts.filter fun d => s.cleared d.1) (fun d => State.freeTract d.1 d.2) s

/-! ## The arbiter (07 R174–R177) -/

/-- Programs in progress that an operation counts as (R181). -/
def Job.weight (j : Job) : Nat := if j.clear then 2 else 1

/-- The governor can reserve room for an operation: the programs in progress and the room already reserved leave it within the limit in
force (R174, R181). DESIGN CHOICE: "stay below" is read as "do not exceed", so that the cap of 2,304 lets every plane program at once, as
R181 says; a clear segment, which counts as two, needs room for both (notes/assumptions/57.md). -/
def State.hasRoom (s : State) (j : Job) : Bool := decide (s.med.governor + s.med.reserved + j.weight ≤ s.governorLimit)

/-- The owner drops to the lowest rank, the requesters below it each move up one (R175). -/
def dropRank (e : Engine) (l : List Engine) : List Engine := (l.filter fun x => decide (x ≠ e)) ++ [e]

/-- The highest-ranked waiting job (R174). -/
def PlaneS.firstJob (p : PlaneS) : Option Job :=
  (p.ranks.filterMap fun e => p.jobs.find? fun j => decide (j.engine = e)).head?

/-- Remove the first job equal to one. -/
def PlaneS.without (p : PlaneS) (j : Job) : List Job := p.jobs.erase j

/-- Reserve room with the governor (R174). -/
def State.reserve (j : Job) (s : State) : State := s.modMed fun m => { m with reserved := m.reserved + j.weight }

/-- Give back the room of an operation that has not started. -/
def State.unreserve (k : Nat) (s : State) : State :=
  match (s.plane k).op with
  | some j =>
    if (s.plane k).room then
      (s.modMed fun m => { m with reserved := m.reserved - j.weight }).modPlane k fun p => { p with room := false }
    else s
  | none => s

/-- Give the plane to the highest-ranked waiting requester, when no sense is in progress and the governor has reserved room (R174, R181).
DESIGN CHOICE: a requester that a check revoked is granted again at its rank, and with a full burst: a requester of higher rank that has
come to wait meanwhile goes first, as R174 gives the plane to the highest rank (notes/assumptions/58.md). -/
def State.grant (k : Nat) (s : State) : State :=
  let p := s.plane k
  if p.state = .idle ∧ ¬ s.dieOut (k / 4) ∧ s.channelClock (k / 64) then
    match p.firstJob with
    | some j =>
      if s.hasRoom j then
        (s.reserve j).modPlane k fun p =>
          { p with
            state := .granted, op := some j, jobs := p.without j, result := 0, room := true
            burst := if j.clear then 1 else s.cfg 0x3000 1 }
      else s
    | none => s
  else s

/-- Planes on which a job waits for the governor are tried again. -/
def State.grantIdle (s : State) : State :=
  forEach ((s.med.planes.filter fun e => decide (e.2.state = .idle) && !e.2.jobs.isEmpty).map Prod.fst) State.grant s

/-- Add a job to a plane. -/
def State.addJob (j : Job) (s : State) : State :=
  let k := planeOf j.target
  (s.modPlane k fun p => { p with jobs := p.jobs ++ [j] }).grant k

/-- Sense slots in use (R174). -/
def PlaneS.slots (p : PlaneS) : Nat := p.senses.length + p.engineSenses

/-- A latency-bound read reaches a plane: it takes a slot, or waits with its threshold (R122, R176). -/
def State.planeRead (rid t k : Nat) (s : State) : State :=
  s.modPlane k fun p =>
    if (p.state = .idle ∨ p.state = .sensing) ∧ p.slots < 16 then { p with state := .sensing, senses := p.senses ++ [rid] }
    else { p with waiting := p.waiting ++ [(rid, t)] }

/-- Waiting reads take the free slots. -/
def PlaneS.seat (p : PlaneS) : PlaneS :=
  let n := 16 - p.slots
  { p with
    senses := p.senses ++ (p.waiting.take n).map Prod.fst
    waiting := p.waiting.drop n
    state := if p.senses.isEmpty && p.engineSenses == 0 && p.waiting.isEmpty then .idle else .sensing }

/-- A grant ends other than by a check (R175, R176). -/
def State.endGrant (k : Nat) (s : State) : State :=
  ((s.unreserve k).modPlane k fun p =>
    let p := match p.op with
      | some j => { p with op := none, ranks := dropRank j.engine p.ranks }
      | none => p
    ({ p with state := .idle }).seat).grant k

/-- After an operation on a granted plane: reads first, then the burst, then the next rank (R176). The owner's next operation waits for
the governor's room without losing the grant (R175, R181). -/
def State.nextOp (k : Nat) (s : State) : State :=
  let p := s.plane k
  let next := match p.op with
    | some j => p.jobs.find? fun x => decide (x.engine = j.engine)
    | none => none
  match next with
  | some x =>
    if p.waiting.isEmpty ∧ 1 < p.burst then
      (s.when (s.hasRoom x) (State.reserve x)).modPlane k fun p =>
        { p with op := some x, jobs := p.without x, burst := p.burst - 1, result := 0, room := s.hasRoom x }
    else s.endGrant k
  | none => s.endGrant k

/-- The governor's count falls; waiting planes are tried. -/
def State.release (j : Job) (s : State) : State :=
  s.modMed fun m => { m with governor := m.governor - j.weight }

/-- A program of a drain unit has finished. -/
def State.unitDone (unit a : Nat) (s : State) : State :=
  s.modWb fun w =>
    { w with units := w.units.map fun u => if u.id = unit then { u with left := u.left.filter fun b => b != a } else u }

/-- A program has finished and its result has been checked: its drain unit has one less to wait for, an engine's image leaves the
in-program table (R128, R145). -/
def State.programDone (j : Job) (s : State) : State :=
  if j.engine = .drain then s.unitDone j.unit j.target
  else
    (s.modMed fun m => { m with work := m.work.erase (j.engine, j.owner, j.target) }).modWb fun w =>
      { w with inProgram := Tab.erase w.inProgram j.target }

/-- An engine's operation is counted: one granule programmed, one clear segment; a refresh also in 0x3100.0D. -/
def State.countOp (j : Job) (s : State) : State :=
  let s := match j.engine.slot with
    | some e => s.engineCount e (if j.clear then 0 else 2) 1
    | none => s
  if j.engine = .refresh then s.modTrc fun x => { x with refreshed := x.refreshed + 1 } else s

/-- An operation has completed: the cells, the counts, the clear's record (R163, R179). -/
def State.completeOp (j : Job) (s : State) : State :=
  let d := dieOf j.target
  let s := s.countOp j
  if j.clear then
    let s := forEach (range' j.target 16) (fun a => State.putGranule a {}) s
    let s := s.modDie d fun d => { d with clears := d.clears + 1 }
    let key := sectorOf j.target
    let mask := Tab.rd 0 s.med.clearing key - 1
    let done := mask ||| 2 ^ (granOf j.target % 256 / 16)
    (s.modMed fun m => { m with clearing := Tab.set 0 m.clearing key (if done = 65535 then 0 else done + 1) }).freeDone
  else
    let s := ((s.putGranule j.target j.image).wear j.target).heatOf j.target
    (s.modDie d fun d => { d with programs := d.programs + 1 }).programDone j

/-- The operation of a plane has completed. -/
def State.opComplete (k : Nat) (s : State) : State :=
  match (s.plane k).op with
  | none => s
  | some j => (((s.modPlane k fun p => { p with result := 0 }).release j).completeOp j)

/-- Replace the image of a job that waits for its program. -/
def PlaneS.reimage (p : PlaneS) (a : Nat) (g : Granule) : PlaneS :=
  let f := fun (j : Job) => if j.target = a ∧ ¬ j.clear then { j with image := g } else j
  { p with op := p.op.map f, jobs := p.jobs.map f }

/-- An engine asks for the program of a granule: its image is registered at once, so that reads find it, and a job waits for a grant
(R128, R174). A granule out of service or listed bad is left out, as its row is then written (R144, R180). A second image for a granule
whose program still waits replaces the first. -/
def State.request (e : Engine) (owner a : Nat) (g : Granule) (s : State) : State :=
  if s.dieOut (dieOf a) || s.badGranule a then s
  else
    let s := s.modWb fun w => { w with inProgram := Tab.insert w.inProgram a g }
    if s.med.work.contains (e, owner, a) then s.modPlane (planeOf a) fun p => p.reimage a g
    else
      (s.modMed fun m => { m with work := m.work ++ [(e, owner, a)] }).addJob { engine := e, target := a, image := g, owner := owner }

/-- Several programs asked for by an engine. -/
def State.requestAll (e : Engine) (owner : Nat) (l : List (Nat × Granule)) (s : State) : State :=
  forEach l (fun i => State.request e owner i.1 i.2) s

/-- An engine still waits for programs asked for on someone's behalf. -/
def State.engineWorks (s : State) (e : Engine) (owner : Nat) : Bool := s.med.work.any fun w => decide (w.1 = e) && w.2.1 == owner

/-- A granule of the stripe row has a program in progress, so that another engine waits (notes/assumptions/59.md). -/
def State.rowInProgram (s : State) (pt row : Nat) : Bool := (stripe pt row).any fun a => (s.registered a).isSome

/-- Start the clear of the two sectors of a physical tract on one die: sixteen segments each; on a die out of service they wait for its
rebuild (R189, R247). -/
def State.clearDie (pt a : Nat) (s : State) : State :=
  forEach [2 * inRow pt, 2 * inRow pt + 1] (fun sec => fun s =>
    let s := s.modMed fun m => { m with clearing := Tab.set 0 m.clearing (dieOf a * 2 ^ 19 + sec) 1 }
    if s.dieOut (dieOf a) then s
    else forEach (List.range 16) (fun i =>
      State.addJob { engine := .clear, clear := true, target := dieOf a * 2 ^ 27 + sec * 256 + i * 16 }) s) s

/-- Start the clear of every sector of a physical tract (R197, R201). -/
def State.startClear (pt : Nat) (s : State) : State := forEach (stripe pt 0) (State.clearDie pt) s

/-- Give up a physical tract: it is cleared, then free or retired (R189, R201). -/
def State.giveUp (pt : Nat) (retire : Bool) (s : State) : State :=
  ((s.modTrc fun x => { x with dirtyPts := x.dirtyPts ++ [(pt, retire)] }).startClear pt).freeDone

/-- An operation cut off on a granted plane: what it had begun is destroyed and has cost its wear (R164, R179). DESIGN CHOICE: the
reset phase of a program that was in progress counts as begun (notes/assumptions/60.md). -/
def State.cutOff (j : Job) (s : State) : State := if j.clear then s else (s.destroy j.target).wear j.target

/-- Jobs of a die that leaves service: ABORT goes to every plane, what had begun is cut off, every job is dropped and its owner completes
without it; its sectors not yet cleared stay so (R144, R179, R182). -/
def State.dropDie (d : Nat) (s : State) : State :=
  let planes := range' (d * 4) 4
  let gone := planes.flatMap fun k => (s.plane k).jobs ++ (s.plane k).op.toList
  let running := planes.filterMap fun k => if (s.plane k).result = 3 then (s.plane k).op else none
  let s := forEach running (fun j => fun s => (s.release j).cutOff j) s
  let s := forEach planes State.unreserve s
  let s := forEach gone (fun j => fun s => if j.clear then s else s.programDone j) s
  let s := forEach planes (fun k => State.modPlane k fun p =>
    { p with state := .idle, op := none, jobs := [], senses := [], engineSenses := 0, waiting := [], result := 0, burst := 0 }) s
  s.freeDone.grantIdle

/-- A die failed to answer; three failures within 1 s are a C2 "die not responding" (R171). -/
def State.noAnswer (d : Nat) (s : State) : State :=
  let recent := s.tim.opTime :: (s.die d).noAnswer.filter fun t => decide (s.tim.opTime < t + 1000)
  if 3 ≤ recent.length then (s.modDie d fun x => { x with noAnswer := [] }).report d 0x16 none
  else s.modDie d fun x => { x with noAnswer := recent }

/-- List a bad granule after a second failed verify (R180): the table, the tract's BADG and migration, the reports. -/
def State.listBad (a : Nat) (s : State) : State :=
  let d := dieOf a
  let c := d / 16
  let s := s.modMed fun m => { m with failures := m.failures + 1 }
  let s := s.report d 0x12 (some (granOf a))
  if 64 ≤ (s.channel c).bad.length then s.report (srcChannel c) 0x21 (some (granOf a * 16 + d % 16)) else
  let s := (s.modChannel c fun x => { x with bad := x.bad ++ [a] }).storeWrite 82
  let recent := s.tim.opTime :: (s.die d).badTimes.filter fun t => decide (s.tim.opTime < t + 86400000)
  let s := if 5 ≤ recent.length then (s.modDie d fun x => { x with badTimes := [] }).report d 0x13 none
    else s.modDie d fun x => { x with badTimes := recent }
  match s.tractAt (ptOfAddr a) with
  | none => s
  | some t =>
    (s.modEntry t fun e => { e with badg := true }).queueMig t 1

end Sys2Proof.Machine
end

