-- ==== Sys2Proof/Machine/Buffer.lean ====
section
/-! DEFINITION. The write buffer's entries, the dirty set, node entries, fresh counter blocks, zeroed and re-established tracts,
security alarms (06 R137–R161, 08 R201, 09 R215–R235). -/

namespace Sys2Proof.Machine

/-! ## SRAM words (10 R254) -/

/-- The source of an SRAM. -/
def sramSource (which : Nat) : Nat := if which < 16 then srcPart which else 0x2F4

/-- Times within the last operating hour, with a new one. -/
def State.hourOf (s : State) (l : List Nat) : List Nat := s.tim.opTime :: l.filter fun t => decide (s.tim.opTime < t + 3600000)

/-- A staging part with 4 uncorrectable or 1,024 corrected words within an operating hour is failing (R254). -/
def State.partFailing (which : Nat) (s : State) : State :=
  let x := s.sram which
  if which < 16 ∧ (4 ≤ x.uncTimes.length ∨ 1024 ≤ x.corrTimes.length) then
    (s.modSram which fun x => { x with uncTimes := [], corrTimes := [] }).report (srcPart which) 0x31 none
  else s

/-- An uncorrectable word of an SRAM is counted and reported (R254). -/
def State.badWord (which word : Nat) (s : State) : State :=
  let s := s.modSram which fun x => { x with uncorrectable := x.uncorrectable + 1, uncTimes := s.hourOf x.uncTimes }
  (s.report (sramSource which) 0x30 (some (word % 2 ^ 23))).partFailing which

/-- The byte offset of a tract's entry in the map area of its part (01 R30). -/
def mapOffset (t : Nat) : Nat := t / 16 / 8 * 64 + t % 16 * 4

/-- The uses of a staging part (01 R29). -/
inductive SramArea where
  | tractMap | writeBuffer | pinned | cache | wear | parity | working
  deriving DecidableEq, Repr

/-- The areas of a part in order, with their MiB (01 R29). DESIGN CHOICE: they lie in the order of the table (notes/assumptions/71.md). -/
def areasOf (part : Nat) : List (SramArea × Nat) :=
  if part < 8 then [(.tractMap, 7), (.writeBuffer, 10), (.pinned, 8), (.cache, 8), (.working, 3)]
  else [(.tractMap, 7), (.writeBuffer, 10), (.cache, 8), (.wear, 8), (.parity, 1), (.working, 2)]

/-- The area of a byte of a part, with the offset within the area (01 R29). -/
def areaAt (l : List (SramArea × Nat)) (off : Nat) : SramArea × Nat :=
  match l with
  | [] => (.working, off)
  | x :: rest => if off < x.2 * 2 ^ 20 then (x.1, off) else areaAt rest (off - x.2 * 2 ^ 20)

/-- Bytes of a write buffer slot: 64 of data, 16 of descriptor (06 R137). -/
def slotBytes : Nat := 80

/-! ## Credits and the dirty set -/

/-- The high-water, flush-cost and ledger conditions with their hysteresis, and the credits that follow (R147, R148, R152). -/
def State.bufferSync (s : State) : State :=
  let cost := s.flushCost
  let hi := (List.range 8).any fun n => decide (s.cfg 0x3180 0 ≤ s.occupied n)
  let low := (List.range 8).all fun n => decide (s.occupied n ≤ s.cfg 0x3180 1)
  (s.modWb fun w =>
    { w with
      highWater := hi || (w.highWater && !low)
      costHeld := decide (2000000 ≤ cost) || (w.costHeld && decide (1900000 ≤ cost))
      ledgerHeld := decide (245760 ≤ w.dirty.length) }).creditSync

/-- Count something of a pair (blocks 0x040–0x047). -/
def State.pairCount (pair k : Nat) (s : State) : State :=
  s.modWb fun w => { w with counts := modNth w.counts (pair * 8 + k) (· + 1) }

/-- A tract joins the dirty set (R152). -/
def State.dirtyJoin (t : Nat) (s : State) : State := s.modWb fun w => { w with dirty := insertSorted t w.dirty }

/-- A tract stays in the dirty set (R152, R229), as one with a span of the running re-key still to do does (notes/assumptions/25.md). -/
def State.staysDirty (s : State) (t : Nat) : Bool :=
  (s.wb.ents.any fun e => e.1 / 16384 == t) || (s.wb.units.any fun u => u.tract == t)
    || (s.wb.ents.any fun e => (e.2.opened.toList ++ e.2.drain.toList).any fun x => x.onBehalf == t + 1)
    || (s.itg.rekeyState == 1 && s.itg.rekeyLeft.any fun i => i / 256 == t)

/-- Tracts with nothing left leave the dirty set (R152). -/
def State.dirtySync (s : State) : State :=
  let keep := s.wb.dirty.filter s.staysDirty
  s.modWb fun w => { w with dirty := keep }

/-! ## Entries -/

/-- The byte mask of byte enables. -/
def expandBe (be : ByteEn) : Line :=
  (List.range 64).foldl (fun acc b => if be.getLsbD b then acc ||| ((255 : BitVec 512) <<< (8 * b)) else acc) 0

/-- The old bytes with the enabled ones replaced. -/
def mergeBytes (be : ByteEn) (old new : Line) : Line := (old &&& ~~~expandBe be) ||| (new &&& expandBe be)

/-- What a write brings to an entry. -/
structure Put where
  head : Nat := 0
  full : Bool := false
  poison : Bool := false
  be : ByteEn := 0
  data : Line := 0
  owed : List Owed := []
  onBehalf : Nat := 0
  mirrorOf : Nat := 0
  poisonEntry : Bool := false
  deriving DecidableEq, Repr

/-- Merge a write into an entry (R139). -/
def Entry.merge (e : Entry) (p : Put) (order : Nat) : Entry :=
  { e with
    state := .pending
    full := e.full || p.full
    poison := if p.full then p.poison else e.poison || p.poison
    be := if p.full then BitVec.allOnes 64 else e.be ||| p.be
    data := if p.full then p.data else mergeBytes p.be e.data p.data
    head := p.head
    order := order
    owed := e.owed ++ p.owed
    lost := e.lost && !p.full
    onBehalf := if p.onBehalf = 0 then e.onBehalf else p.onBehalf
    mirrorOf := if p.mirrorOf = 0 then e.mirrorOf else p.mirrorOf
    poisonEntry := e.poisonEntry || p.poisonEntry }

/-- A tract is being written under an input dip and no durable record lists it (R154). -/
def State.mustSeal (s : State) (t : Nat) : Bool := s.wb.dipHeld && !s.wb.durable.contains t

/-- Slots of a pair that entries hold (R137). -/
def State.slotsOf (s : State) (pair : Nat) : List Nat :=
  (s.wb.ents.filter fun e => pairOfTract (e.1 / 16384) == pair).flatMap fun e => (e.2.opened.toList ++ e.2.drain.toList).map Entry.slot

/-- The slot that a new entry of a pair takes: the lowest free one (R137; notes/assumptions/65.md). -/
def State.freeSlotIn (s : State) (pair : Nat) : Nat :=
  let used := s.slotsOf pair
  ((List.range (used.length + 1)).find? fun n => !used.contains n).getD 0

/-- STATE of a descriptor (R137). -/
def EntState.code : EntState → Nat
  | .pending => 1
  | .dirty => 2
  | .draining => 3

/-- The descriptor of an entry as the staging SRAM holds it (R137). -/
def descriptor (key : Nat) (e : Entry) : BitVec 128 :=
  BitVec.ofNat 128 (e.state.code * 2 ^ 126 + bit e.poison * 2 ^ 125 + bit e.full * 2 ^ 124 + bit e.succ * 2 ^ 123 + bit e.single * 2 ^ 122
    + e.head % 8 * 2 ^ 119 + key / 16384 % 2 ^ 24 * 2 ^ 95 + key % 16384 * 2 ^ 81 + e.be.toNat)

/-- Enter a write into a line's open entry, or into a new slot (R138): the tract joins the dirty set. -/
def State.enter (key : Nat) (p : Put) (s : State) : State :=
  let t := key / 16384
  let pair := pairOfTract t
  let order := s.rdp.order
  let l := s.lineEnts key
  let s := s.modRdp fun r => { r with order := r.order + 1 }
  let l' : LineEnts := match l.opened with
    | some e => { l with opened := some { e.merge p order with sealing := e.sealing || (s.mustSeal t && !p.owed.isEmpty) } }
    | none =>
      { opened := some { ({ first := order, slot := s.freeSlotIn pair } : Entry).merge p order with sealing := s.mustSeal t && !p.owed.isEmpty }
        drain := l.drain.map fun d => { d with succ := true } }
  let s := s.pairCount pair (if l.opened.isSome then 1 else 0)
  let s := (s.modWb fun w => { w with ents := Tab.set {} w.ents key l' }).dirtyJoin t
  if l.opened.isSome then s else s.bufferSync

/-- The completions that an entry owes are sent (R135); those of a head whose link has gone down are finished without it (03 R80). -/
def State.complete (key latency : Nat) (owed : List Owed) (s : State) : State :=
  forEach owed (fun o => fun s =>
    let s := s.modHead o.head fun d => { d with inflight := d.inflight - 1 }
    if o.discard then s
    else
      (s.modHead o.head fun d =>
        { d with
          writesDone := d.writesDone + 1
          partials := if o.partl then d.partials + 1 else d.partials
          maxWrite := max d.maxWrite (min latency 65535) }).emit (.completion o.head (key * 64))) s

/-- Discard the open entries of a tract (R161). DESIGN CHOICE: completions that a discarded entry still owes are sent at the discard, with
latency 0: the writes had been admitted, and the spec does not say what becomes of their completions (notes/assumptions/66.md). -/
def State.discardOpen (t : Nat) (s : State) : State :=
  let mine := s.wb.ents.filter fun e => e.1 / 16384 == t && e.2.opened.isSome
  forEach mine (fun e => fun s =>
    let owed := match e.2.opened with
      | some x => x.owed
      | none => []
    (s.modWb fun w => { w with ents := Tab.set {} w.ents e.1 { e.2 with opened := none } }).complete e.1 0 owed) s

/-! ## Ledger records (R153, R154) -/

/-- Granules that a record fills: a header of 32 B and 4 B for each tract it names, in whole granules (R153). -/
def LedgerRec.granules (r : LedgerRec) : Nat := (32 + 4 * (r.added.length + r.removed.length) + 255) / 256

/-- The bytes of a record: its header with the CRC over the record, the CRC taken as zero, then the entries (R153). -/
def LedgerRec.bytes (r : LedgerRec) : List Byte :=
  let head := be 1 r.kind ++ zeros 3 ++ be 4 (r.added.length + r.removed.length) ++ be 4 r.seq ++ be 4 r.cycles ++ be 8 (r.time % 2 ^ 48)
  let ents := (r.added.flatMap fun t => be 4 (2 ^ 31 + t)) ++ r.removed.flatMap (be 4)
  head ++ be 8 (crc64 (head ++ zeros 8 ++ ents)) ++ ents

/-- Granules of the ledger area: 4,096 of each die row's segment (08 R184). -/
def ledgerGranules : Nat := 64 * 4096

/-- A record as it starts: the next sequence, the time, the next granules of the circular log (R153). -/
def State.newRec (s : State) (kind : Nat) (added removed : List Nat) : LedgerRec :=
  { kind := kind, seq := s.wb.ledgerSeq, added := added, removed := removed, cycles := s.tim.cycles, time := s.tim.opTime
    at' := s.wb.ledgerNext }

/-- Start a record (R153). -/
def State.startRec (kind : Nat) (added removed : List Nat) (s : State) : State :=
  let r := s.newRec kind added removed
  s.modWb fun w =>
    { w with
      writing := w.writing ++ [r], ledgerSeq := (w.ledgerSeq + 1) % 2 ^ 32
      ledgerNext := (w.ledgerNext + r.granules) % ledgerGranules }

/-- Start a seal record listing every tract that no durable record lists (R154). -/
def State.startSeal (s : State) : State :=
  let added := s.wb.dirty.filter fun t => !s.wb.durable.contains t
  (s.startRec 3 added []).modWb fun w => { w with lastListed := insertAll added w.lastListed }

/-- A seal record is being written. -/
def State.sealWriting (s : State) : Bool := s.wb.writing.any fun r => r.kind == 3

/-- A write still waits for a seal record. -/
def State.sealWaits (s : State) : Bool :=
  s.wb.ents.any fun e => match e.2.opened with | some x => x.sealing | none => false

/-- A further seal record starts where a write waits for one and none is being written (R154). -/
def State.sealMore (s : State) : State := if s.sealWaits && !s.sealWriting then s.startSeal else s

/-! ## Node entries (09 R228, R229) -/

/-- Bytes 32h … 32h+31 of a line. -/
def halfBe (h : Nat) : ByteEn := if h = 0 then 0xFFFFFFFF else 0xFFFFFFFF00000000

/-- The half of an L3 node that a tract owns, at the half of its line where it lies (R223). -/
def halfAt (l : Line) (half h : Nat) : Line := ((l >>> (256 * half)) &&& (BitVec.allOnes 512 >>> 256)) <<< (256 * h)

/-- A node entry of a whole node. -/
def State.nodeEntry (pt : Nat) (n : NodeKind) (k : Nat) (content : Line) (behalf mirror : Nat) (s : State) : State :=
  (s.enter (nodeKey pt n k)
    { full := true, be := BitVec.allOnes 64, data := content, onBehalf := behalf + 1, mirrorOf := mirror }).pairCount
      (pairOfTract (nodeKey pt n k / 16384)) 6

/-- The entry of a tract's L3 half. -/
def State.halfEntry (t pt : Nat) (s : State) : State :=
  let h := (nodeAt pt .l3 0).2 % 64 / 32
  (s.enter (nodeKey pt .l3 0)
    { be := halfBe h, data := halfAt (s.node 3 (t / 2)) (t % 2) h, onBehalf := t + 1 }).pairCount
      (pairOfTract (nodeKey pt .l3 0 / 16384)) 6

/-- Node entries above a counter block: L1, L2 with their mirrors. -/
def State.upperEntries (t pt i0 : Nat) (s : State) : State :=
  let k1 := i0 % 256 / 8
  let k2 := i0 % 256 / 64
  let s := s.nodeEntry pt .l1 k1 (s.node 1 (i0 / 8)) t 0
  let s := s.nodeEntry pt .l1m k1 (s.node 1 (i0 / 8)) t (nodeKey pt .l1 k1 + 1)
  let s := s.nodeEntry pt .l2 k2 (s.node 2 (i0 / 64)) t 0
  s.nodeEntry pt .l2m k2 (s.node 2 (i0 / 64)) t (nodeKey pt .l2 k2 + 1)

/-- The node entries of a changed counter block: itself, L1, L1 mirror, L2, L2 mirror, L3 half (R228 step 3). -/
def State.nodeEntries (t i0 : Nat) (s : State) : State :=
  let pt := (s.entry t).pt
  let s := s.nodeEntry pt .block (i0 % 256) (s.node 0 i0) t 0
  (s.upperEntries t pt i0).halfEntry t pt

/-- Keys of those node entries. -/
def nodeKeysOf (pt i0 : Nat) : List Nat :=
  [nodeKey pt .block (i0 % 256), nodeKey pt .l1 (i0 % 256 / 8), nodeKey pt .l1m (i0 % 256 / 8),
   nodeKey pt .l2 (i0 % 256 / 64), nodeKey pt .l2m (i0 % 256 / 64), nodeKey pt .l3 0]

/-- Fresh counter blocks of a tract on a physical tract (R215): one new major, minors 0, KG of the region, PZ. -/
def State.freshBlocks (t pt : Nat) (pz : Bool) (s : State) : State :=
  let d := s.drawMajor
  let s := d.2
  let region := (s.extent (t / 256)).region
  let b : CounterBlock := { major := d.1, kg := decide ((s.region region).gen % 2 = 1), pz := pz, minors := 0 }
  let s := forEach (range' (t * 256) 256) (fun i0 => State.setBlock i0 b) s
  let s := forEach (range' (t * 256) 256) (fun i0 => fun s => s.nodeEntry pt .block (i0 % 256) (s.node 0 i0) t 0) s
  let s := forEach (List.range 32) (fun k => fun s =>
    let s := s.nodeEntry pt .l1 k (s.node 1 (t * 32 + k)) t 0
    s.nodeEntry pt .l1m k (s.node 1 (t * 32 + k)) t (nodeKey pt .l1 k + 1)) s
  let s := forEach (List.range 4) (fun k => fun s =>
    let s := s.nodeEntry pt .l2 k (s.node 2 (t * 4 + k)) t 0
    s.nodeEntry pt .l2m k (s.node 2 (t * 4 + k)) t (nodeKey pt .l2 k + 1)) s
  let s := s.halfEntry t pt
  s.modItg fun x => { x with cache := x.cache.filter fun c =>
    !(decide (c < 2 ^ 32) && c / 256 == t || decide (c / 2 ^ 32 = 1) && c % 2 ^ 32 / 32 == t
      || decide (c / 2 ^ 32 = 2) && c % 2 ^ 32 / 4 == t || decide (c / 2 ^ 32 = 3) && c % 2 ^ 32 == t / 2) }

/-! ## Map changes (08 R187) -/

/-- An entry as the checkpoint keeps it. -/
def ckptEntry (e : MapEntry) : MapEntry := { e with mig := false, refr := false, badg := false }

/-- Where a tract's entry lies in the checkpoint: die row of the checkpoint tract, granule, byte within the granule (R187). -/
def ckptPlace (t : Nat) : Nat × Nat × Nat :=
  if t < logicalTracts then (t / 229376, t % 229376 / 64, t % 64 * 4)
  else ((t - logicalTracts) / 0x8000, 3584 + (t - logicalTracts) % 0x8000 / 64, (t - logicalTracts) % 0x8000 % 64 * 4)

/-- The checkpoint tract of a copy (0 A, 1 B) of a die row (R184). -/
def ckptTract (copy row : Nat) : Nat := logicalTracts + row * 0x8000 + 5256 + copy

/-- A word placed at a byte of a line, its most significant byte first (notes/assumptions/63.md). -/
def putWord (l : Line) (off w : Nat) : Line :=
  (List.range 4).foldl (fun acc i =>
    let sh := 8 * (off + i)
    (acc &&& ~~~((255 : Line) <<< sh)) ||| (BitVec.ofNat 512 (w / 2 ^ (8 * (3 - i)) % 256) <<< sh)) l

/-- Program the granule of a checkpoint copy that holds a tract's entry, with its parity, by the read-modify-write method (R142, R187). -/
def State.ckptProgram (copy t : Nat) (s : State) : State :=
  let (row, g, off) := ckptPlace t
  let ct := ckptTract copy row
  let a := placeGranule (s.entry ct).pt g
  let k := off / 64
  let old := match s.lineAt a k with
    | some l => if l.blank then 0 else l.ct
    | none => 0
  forEach (s.lineImages a k ct 0 (plainLine (putWord old (off % 64) (entryWord (ckptEntry (s.entry t))))))
    (fun i => State.programNow i.1 i.2) s

/-- Program a tract's checkpoint entry in copy A (R187). -/
def State.checkpointA (t : Nat) (s : State) : State :=
  let e := ckptEntry (s.entry t)
  (s.ckptProgram 0 t).modTrc fun x => { x with ckptA := Tab.put shipEntry x.ckptA t e }

/-- Program a tract's checkpoint entry in copy B (R187). -/
def State.checkpointB (t : Nat) (s : State) : State :=
  let e := ckptEntry (s.entry t)
  (s.ckptProgram 1 t).modTrc fun x => { x with ckptB := Tab.put shipEntry x.ckptB t e }

/-- Program a tract's checkpoint entry in copy A and then in copy B, before anything that depends on it (R187). -/
def State.checkpoint (t : Nat) (s : State) : State := (s.checkpointA t).checkpointB t

/-- Change a tract's entry through the checkpoint. -/
def State.putEntry (t : Nat) (f : MapEntry → MapEntry) (s : State) : State := (s.modEntry t f).checkpoint t

/-- A physical tract is given up once the reads dispatched to it have sensed (R129, R201). -/
def State.giveUpPt (pt : Nat) (retire : Bool) (s : State) : State :=
  if Tab.rd 0 s.trc.readsOn pt = 0 then s.giveUp pt retire
  else
    (s.modTrc fun x => { x with dirtyPts := x.dirtyPts ++ [(pt, retire)] }).modMed fun m =>
      { m with clearing := (sectorsOf pt).foldl (fun c k => Tab.set 0 c k 1) m.clearing }

/-- A read dispatched to a physical tract has sensed: at zero, a clear that waited starts (R129). -/
def State.readSensed (pt : Nat) (s : State) : State :=
  let s := s.modTrc fun x => { x with readsOn := Tab.mod 0 x.readsOn pt (· - 1) }
  if Tab.rd 0 s.trc.readsOn pt = 0 ∧ s.trc.dirtyPts.any (fun d => d.1 == pt) then s.startClear pt else s

/-- Programs asked for on a tract's behalf in a physical tract that is given up are dropped; one that has begun ends, and is not
restarted. -/
def State.dropWork (e : Engine) (owner pt : Nat) (s : State) : State :=
  let mine := s.med.work.filter fun w => decide (w.1 = e) && w.2.1 == owner && ptOfAddr w.2.2 == pt
  let dead := fun (j : Job) => decide (j.engine = e) && j.owner == owner && !j.clear && ptOfAddr j.target == pt
  let s := s.modMed fun m => { m with work := m.work.filter fun w => !mine.contains w }
  let s := s.modWb fun w => { w with inProgram := mine.foldl (fun acc x => Tab.erase acc x.2.2) w.inProgram }
  forEach (mine.map fun w => planeOf w.2.2).dedup (fun k => fun s =>
    let s := s.modPlane k fun p => { p with jobs := p.jobs.filter fun j => !dead j }
    if (s.plane k).op.any dead && decide ((s.plane k).result ≠ 3) && decide ((s.plane k).state = .granted) then s.endGrant k else s) s

/-- Migrations out of a tract stop: before Sealed the destination is cleared and the migration dropped or queued again; from Sealed
on the destination is adopted (R199). -/
def State.abandon (t : Nat) (again retire : Bool) (s : State) : State :=
  match s.running t with
  | none => s
  | some m =>
    let others := s.trc.migs.filter fun x => x.tract != t
    if m.state = .copying ∨ m.state = .sealing then
      let s := s.modTrc fun x =>
        { x with
          abandoned := x.abandoned + 1
          migs := if again then others ++ [{ m with state := .queued, cursor := 0, dst := 0 }] else others }
      ((s.modEntry t fun e => { e with mig := false }).dropWork .migration t m.dst).giveUp m.dst retire
    else
      let s := (s.modTrc fun x => { x with migs := others }).putEntry t fun e => { e with mig := false, pt := m.dst }
      let s := s.modActivity t fun a => { a with occ := 0, reads := 0, gen := m.gen }
      if m.state = .sealed then s.giveUpPt m.src false
      else s.modTrc fun x => { x with dirtyPts := x.dirtyPts ++ [(m.src, false)] }

/-- A destination program has failed its verify twice: the migration is abandoned, its destination retired once cleared, its tract queued
again for a cause with the same generation (R199). -/
def State.abandonFor (cause t : Nat) (s : State) : State :=
  (s.abandon t true true).modTrc fun x => { x with migs := x.migs.map fun m => if m.tract = t then { m with cause := cause } else m }

/-- A physical tract for a tract that gets a blank one: the destination of R195. -/
def State.blankFor (s : State) (t : Nat) : Option Nat := s.destination t

/-- Give a tract a blank physical tract with fresh counter blocks and a STATE; the old one is cleared (R201, R235). -/
def State.renew (t : Nat) (st : TractState) (pz : Bool) (s : State) : State :=
  let s := s.abandon t false false
  let s := s.modTrc fun x => { x with migs := x.migs.filter fun m => m.tract != t }
  match s.blankFor t with
  | none => s
  | some pt =>
    let old := (s.entry t).pt
    let s := s.putEntry t fun _ => { state := st, pt := pt }
    let s := s.modTrc fun x => { x with lastRow := rowOfPt pt, act := Tab.set {} x.act t { gen := (Tab.rd {} x.act t).gen + 1 } }
    (s.giveUpPt old false).freshBlocks t pt pz

/-- Close the debug windows that touch an extent (R239). -/
def State.closeWindow (w : Nat) (s : State) : State :=
  let d := Tab.rd {} s.itg.windows w
  if d.len = 0 then s else
  (s.modItg fun x => { x with windows := Tab.set {} x.windows w {} }).security 4 (s.regionOf (d.first / 64)) 0 d.first

/-- A region change or sanitize of an extent (R98, R161, R201): every tract Zero and blank, open entries discarded, debug windows
closed. -/
def State.zeroExtent (e : Nat) (s : State) : State :=
  let s := forEach [0, 1, 2, 3] (fun w => fun s =>
    let d := Tab.rd {} s.itg.windows w
    if d.len ≠ 0 ∧ d.first / 2 ^ 28 ≤ e ∧ e ≤ (d.first + d.len - 1) / 2 ^ 28 then s.closeWindow w else s) s
  let s := forEach (range' (e * 256) 256) (fun t => fun s => (s.discardOpen t).renew t .zero false) s
  ((s.modItg fun x => { x with rekeyLeft := x.rekeyLeft.filter fun i => decide (i / 65536 ≠ e) }).dirtySync).bufferSync

/-! ## Integrity failures (09 R232–R235) -/

/-- Heads for which an extent holds any state. -/
def State.headsOf (s : State) (e : Nat) : List Nat := allHeads.filter fun h => decide ((s.pair e h).state ≠ .free)

/-- A security alarm in normal service, an integrity event in the other modes (R232, R234). -/
def State.alarm (mode : Mode) (dpa : Nat) (s : State) : State :=
  let r := s.regionOf (dpa / 64)
  if mode = .normal then
    let s := s.modItg fun x => { x with alarms := x.alarms + 1 }
    let s := s.security 1 r 1 dpa
    let s := s.report 0x292 0x50 (some (dpaAddr dpa))
    s.headEvent (s.headsOf (extentOf dpa)) 6 0x292 (payload32 (be 8 dpa ++ be 1 r))
  else s.security 2 r 1 dpa

/-- A line tag failure (0x3200.04). -/
def State.countTagFail (s : State) : State :=
  s.modItg fun x => { x with tagFails := x.tagFails + 1, counts := modNth x.counts 3 (· + 1) }

/-- A node is unrecoverable: its tract, for an L3 node both, to STATE 3, with an alarm or an event (R231, R232). -/
def State.loseTracts (ts : List Nat) (mode : Mode) (dpa : Nat) (s : State) : State :=
  forEach ts (fun t => fun s => (s.abandon t false false).putEntry t fun e => { e with state := .integrityLost }) (s.alarm mode dpa)

/-- A poison entry for a line (R233). -/
def State.poisonLine (key : Nat) (s : State) : State := s.enter key { poison := true, poisonEntry := true }

end Sys2Proof.Machine
end

