-- ==== Sys2Proof/Machine/Access.lean ====
section
/-! DEFINITION. Writing a stored object: its limits, its storage, its commit (01 R20, 13 R305–R312, 17 R408). -/

namespace Sys2Proof.Machine

/-- Rights of a role on a row: 0 none, 1 R, 2 W, 3 RW. -/
def ObjRow.rights (r : ObjRow) (role : Role) : Nat := r.acc / 4 ^ (3 - roleCode role) % 4

/-- Some role has the direction (1 read, 2 write). -/
def ObjRow.anyHas (r : ObjRow) (dir : Nat) : Bool :=
  [Role.observer, .operator, .custodian, .vendor].any fun x => r.rights x / dir % 2 == 1

/-- The access checks of R308, before those of the value: 0x02 no object, 0x04 no role has the direction, 0x03 the role lacks it or
the path is not permitted, else 0x00. -/
def accessCheck (idx mem dir : Nat) (role : Role) (path : Nat) : Nat :=
  if 0xF000 ≤ idx ∧ idx < 0x10000 then 0x03 else
  match rowOf idx mem with
  | none => 0x02
  | some r =>
    if r.anyHas dir && !(r.rights role / dir % 2 == 1) then 0x03
    else if r.anyHas dir && testBit r.flags 2 && path == 0 then 0x03
    else if r.anyHas dir then 0x00 else 0x04

/-- The status 0x03 or 0x04 that a role gets on an object it asks to write, 0x00 when it may (R308). -/
def mayWrite (idx mem : Nat) (req : Req) : Nat := accessCheck idx mem 2 req.role req.path

/-- A value outside the limits that one object sets another (04 R91, 06 R147, 08 0x3100.03, 14 R341, 15 0x5000.03, 16 0x5200.06, 11
0x4001). -/
def State.pairedLimit (s : State) (idx mem v : Nat) : Bool :=
  if idx = 0x3180 ∧ mem = 0 then decide (16384 ≤ v ∧ v ≤ 114688 ∧ s.cfg 0x3180 1 + 4096 ≤ v)
  else if idx = 0x3180 ∧ mem = 1 then decide (v + 4096 ≤ s.cfg 0x3180 0)
  else if idx = 0x3100 ∧ mem = 0 then decide (v % 4096 = 0)
  else if idx = 0x3100 ∧ mem = 3 then decide (s.cfg 0x3100 4 < v)
  else if idx = 0x3100 ∧ mem = 4 then decide (v < s.cfg 0x3100 3)
  else if idx = 0x4200 ∧ mem = 0 then decide (s.cfg 0x4200 1 % v = 0)
  else if idx = 0x4200 ∧ mem = 1 then decide (v % s.cfg 0x4200 0 = 0)
  else if idx = 0x5000 ∧ mem = 2 then decide (v < s.cfg 0x5000 3 * 1000)
  else if idx = 0x5000 ∧ mem = 3 then decide (s.cfg 0x5000 2 < v * 1000)
  else if idx = 0x5200 ∧ mem = 6 then decide (v / 2 ^ 40 < v / 2 ^ 32 % 256)
  else if idx = 0x4001 then decide (v % 256 = 1 ∨ v % 256 = 2)
  else if idx = 0x1101 ∧ mem = 3 then decide (v = 0 ∨ 10 ≤ v)
  else true

/-- The value passes its row's limits (0x06 otherwise). -/
def State.inRange (s : State) (r : ObjRow) (idx mem v : Nat) : Bool :=
  (decide (r.lo ≤ v ∧ v ≤ r.hi) || (r.ty == 10 && (!r.zero || v == 0))) && s.pairedLimit idx mem v

/-- Configuration records are protected: BP 0b10 or 0b11 (17 R406, R408). -/
def State.configLocked (s : State) : Bool := decide (2 ≤ s.par.bp)

/-- A persist write must be deferred: another parameter store write is queued (R311). -/
def State.storeBusy (s : State) : Bool := !s.par.queue.isEmpty

/-- Count the two copies of a configuration record (17 R409). -/
def State.storeConfig (s : State) : State := s.countPages 4 2

/-- The PLCA status as its mode starts: a coordinator's own beacons are present (12 R285). -/
def State.plcaStart (s : State) : State := s.modWop fun w => { w with plca := if s.cfg 0x1100 0 = 2 then 1 else 0 }

/-- Duplicate Address Detection sends its solicitation at the start of the network layer (12 R284). -/
def State.sendAddressProbe (s : State) : State :=
  (s.modWop fun w => { w with frames := modNth w.frames 0 (· + 1) }).emit .addressProbe

/-- What a stored object's new value does at once in its block: a port's mode, the watchdog, the PLCA mode, the network's address,
credits, discarding a bandwidth window, the switch of J6 HALT_N, which lets an outside low in or takes it off the line (02 R55, 19 R444). -/
def State.afterCfg (idx mem : Nat) (s : State) : State :=
  if 0x2000 ≤ idx ∧ idx < 0x2004 ∧ mem = 0 then s.applyMode (idx - 0x2000)
  else if idx = 0x3180 then
    let s := s.modWb fun w => { w with
      highWater := if (List.range 8).any (fun n => decide (s.cfg 0x3180 0 ≤ s.occupied n)) then true
        else w.highWater && !((List.range 8).all fun n => decide (s.occupied n ≤ s.cfg 0x3180 1)) }
    s.creditSync
  else if idx = 0x6200 ∧ mem = 1 then s.modCox fun c => { c with watchdogMs := if s.cox.state = 2 then s.cfg 0x6200 1 else c.watchdogMs }
  else if idx = 0x4200 ∧ mem ≤ 1 then s.modTly fun t => { t with winDiscard := true }
  else if idx = 0x1100 ∧ mem = 0 then s.plcaStart
  else if idx = 0x1102 ∧ mem = 3 then
    s.modPwr fun p => { p with haltDrivers :=
      if s.haltSwitch && p.haltOutside then insertSorted 9 p.haltDrivers else p.haltDrivers.filter fun n => n != 9 }
  else if idx = 0x1101 ∧ mem = 0 then (s.setCfg 0x1101 1 1).modWop fun w => { w with conflict := false }
  else s

/-- Apply a stored object's value and tell its subscribers. -/
def State.applyCfg (idx mem v : Nat) (s : State) : State :=
  let low := s.haltSwitch && s.haltLow
  let s := (s.setCfg idx mem v).afterCfg idx mem
  let now := s.haltSwitch && s.haltLow
  (if now = low then s else s.emit (.haltPin now)).notifyObject idx mem

/-- The status of an access whose response waits for the block's confirmation (R20). -/
def held : Nat := 0xFFFF

/-- The object configures a data-plane block: its domain is a core domain (R310). -/
def ObjRow.dataPlane (r : ObjRow) : Bool := decide (r.dom < 12)

/-- The object's value waits for its block's commit point; a port's mode request is stored at once (03 R65). -/
def ObjRow.staged (r : ObjRow) : Bool := r.dataPlane && !(r.idx == 0x2000 && r.mem == 0)

/-- Note who wrote a reaction or limit object of the fault collector (13 R315). -/
def State.noteWriter (req : Req) (idx mem : Nat) (s : State) : State :=
  if idx = 0x4001 ∨ idx = 0x4002 then
    s.modObj fun o =>
      { o with
        custodianSet := if req.role = .custodian then insertSorted (objKey idx mem) o.custodianSet
          else removeNat (objKey idx mem) o.custodianSet }
  else s

/-- Write a stored object: limits (0x06), protection (0x07), a ticket when the parameter store is busy (R311), its block absent
(0x0A), then storage before effect (R310); a data-plane object's value is staged for its block's commit point (R20). -/
def State.putObject (req : Req) (idx mem v : Nat) (value : List Byte) (s : State) : Acc :=
  match rowOf idx mem with
  | none => s.answer 0x02
  | some r =>
    if !s.inRange r idx mem v then s.answer 0x06
    else if r.persist && s.configLocked then s.answer 0x07
    else if r.dataPlane && !s.domainOn r.dom && !(r.persist && s.storeBusy && s.freeSlot.isNone) then s.answer 0x0A
    else if r.persist && s.storeBusy then
      s.deferred req idx mem (fun n => fun s =>
        (s.modObj fun o => { o with deferred := Tab.set (0, 0) o.deferred n (objKey idx mem + 1, v) }).manage 1 req 0 idx mem
          (s.slot n).ticket 0 value)
    else
      let s := ((s.when r.persist State.storeConfig).noteWriter req idx mem).manage 1 req 0 idx mem 0 0 value
      if r.staged then
        (held, 0, s.modObj fun o => { o with shadow := Tab.set 0 o.shadow (objKey idx mem) (v + 1) })
      else (0x00, 0, s.applyCfg idx mem v)

/-- Defer the persist write of a record under R311: its bytes are kept, after a leading 1, until it is stored. -/
def State.deferRecord (req : Req) (idx mem : Nat) (value : List Byte) (s : State) : Acc :=
  s.deferred req idx mem (fun n => fun s =>
    (s.modObj fun o => { o with deferred := Tab.set (0, 0) o.deferred n (objKey idx mem + 1, beVal (1 :: value)) }).manage 1 req 0 idx mem
      (s.slot n).ticket 0 value)

/-- The bytes that a deferred record holds. -/
def recordBytes (v : Nat) : List Byte := be (Nat.log2 v / 8) v

/-- A persist record's write: refused while configuration is locked, deferred while the parameter store is busy, else stored and applied
(R310, R311, 17 R408). -/
def State.putRecord (req : Req) (idx mem : Nat) (value : List Byte) (apply : State → State) (s : State) : Acc :=
  if s.configLocked then s.answer 0x07
  else if s.storeBusy then s.deferRecord req idx mem value
  else ((apply ((s.storeConfig).manage 1 req 0 idx mem 0 0 (value.take 64))).notifyObject idx mem).answer 0x00

/-- Keep a response for its session (R293): the last four are kept. -/
def State.keepAnswer (sess : Nat) (x : Stored) (s : State) : State :=
  s.modSession sess fun z => { z with answered := (z.answered ++ [x]).drop (z.answered.length - 3), modSeq := z.modSeq + 1 }

/-- A mailbox command's return for an object access (04 R105): status, value length, ticket, value. -/
def State.mbAccess (h opcode status ticket : Nat) (value : List Byte) (s : State) : State :=
  (s.emit (.mailbox h opcode 0 (le 2 status ++ le 2 value.length ++ le 4 ticket ++ value))).msix h 0

/-- Send the response of an access to who waits for it; a session's is kept for a retry (R293), and one that has closed gets none. -/
def State.respondTo (who : Asker) (status ticket : Nat) (value : List Byte) (s : State) : State :=
  match who with
  | .row req idx mem => s.emit (.access req idx mem status ticket)
  | .wop sess seq svc =>
    if !s.hasSession sess then s else
    let s := s.keepAnswer sess { seq := seq, service := svc, status := status, ticket := ticket, value := value }
    (s.modWop fun w => { w with frames := modNth w.frames 0 (· + 1) }).emit (.wop sess svc status ticket value)
  | .ticket n => s.ticketDone n status []
  | .mailbox h sess seq opcode =>
    let s := if s.hasSession sess then s.keepAnswer sess { seq := seq, service := opcode, status := status, ticket := ticket, value := value } else s
    s.mbAccess h opcode status ticket value

/-- Send the response of an access, or keep it until the block of the object confirms its commit. -/
def respond (idx mem : Nat) (who : Asker) (a : Acc) : State :=
  if a.1 = held then
    a.2.2.modObj fun o => { o with waiting := o.waiting ++ [((match rowOf idx mem with | some r => r.dom | none => 255), who)] }
  else a.2.2.respondTo who a.1 a.2.1 []

/-- The response of a row that stands for one object's write. -/
def respondAccess (req : Req) (idx mem : Nat) (a : Acc) : State := respond idx mem (.row req idx mem) a

/-- A write by a role: its access checks, then the operation. -/
def guarded (req : Req) (idx mem : Nat) (f : State → Acc) (s : State) : Acc :=
  if mayWrite idx mem req = 0 then f s else s.answer (mayWrite idx mem req)

/-- The outcome of a step. -/
abbrev Res := Host.Outcome State Fault Refusal

/-- An object access is performed by the firmware: before management ready and in orphan operation it has no response and no effect
(18 R412, R424). -/
def accessed (s out : State) : Res := .next (if s.coxUp then out else s)

/-- The role and path of a row that carries none: the least role of the object's Access column that may write, over T1S. -/
def byOperator : Req := { role := .operator, path := 0 }
def byCustodian : Req := { role := .custodian, path := 0 }

end Sys2Proof.Machine
end

