-- ==== Sys2Proof/Machine/Easy.lean ====
section
/-! DEFINITION. Leaving Easy-all (11 R279–R282), shared by the commands that clear a cause. -/

namespace Sys2Proof.Machine

/-- Complete the commands that wait for entry (false) or exit (true) with an outcome. -/
def State.easySlots (exit : Bool) (outcome : Nat) (s : State) : State :=
  let mine := s.easy.slots.filter fun x => x.2 == exit
  let s := s.modEasy fun e => { e with slots := e.slots.filter fun x => x.2 != exit }
  forEach mine (fun x => State.ticketDone x.1 outcome []) s

/-- The flush has ended: the state is flushed, with the media on or off. -/
def State.easyFlushed (s : State) : Bool :=
  decide (s.easy.state = .flushed ∨ s.easy.state = .flushedMediaOff ∨ s.easy.state = .leaving)

/-- Heads admit again: data service, credits, BOUND_STATUS and its type 0x02 records (R281). -/
def State.easyLeave (s : State) : State :=
  let s := s.modPwr fun p => { p with state := .dataService }
  let s := s.modEasy fun e => { e with state := .out }
  ((s.creditSync).boundSync).easySlots true 0

/-- Leave when every cause bit has cleared, the flush has ended, the media is on, and nothing is to follow the flush (R281). A
module with no fast link takes the cause No link instead. -/
def State.easyCheck (s : State) : State :=
  if s.pwr.state = .easyAll ∧ s.easy.causes = 0 ∧ s.easyFlushed ∧ ¬ s.easy.thenDown ∧ ¬ s.pwr.resetAsked
      ∧ ¬ s.pwr.mediaOnlyUp then
    if s.anyFast then s.easyLeave else s.easyEnter 5
  else s

/-- Clear a cause bit and leave when it was the last (R281). -/
def State.easyClear (bitNo : Nat) (s : State) : State :=
  (s.modEasy fun e => { e with causes := e.causes &&& ~~~(1#8 <<< bitNo) }).easyCheck

/-- A cause bit is set. -/
def State.cause (s : State) (bitNo : Nat) : Bool := s.easy.causes.getLsbD bitNo

/-- A link has trained to 32 or 64 GT/s: the cause No link clears (R281). -/
def State.linkTrained (s : State) : State := if s.cause 5 && s.anyFast then s.easyClear 5 else s

end Sys2Proof.Machine
end

