-- ==== Sys2Proof/Machine/Link.lean ====
section
/-! DEFINITION. The commands of the links and ports (02 R49, 03 R64–R85, 19 R435). -/

namespace Sys2Proof.Machine

/-- A decoder as it is after a write: a commit with ways or a granularity that the module does not support does not take effect (R63). -/
def decoderWritten (d : HdmDecoder) : HdmDecoder :=
  { d with committed := d.committed && [1, 2, 4, 8, 16].contains d.ways && [256, 512, 1024, 2048, 4096, 8192, 16384].contains d.granularity }

/-- AER registers after a write: a one in a status bit clears it; the header log is read-only (R83). -/
def aerWritten (old new : AerS) : AerS :=
  { new with
    uncStatus := old.uncStatus &&& (old.uncStatus ^^^ new.uncStatus), corrStatus := old.corrStatus &&& (old.corrStatus ^^^ new.corrStatus)
    headerLog := old.headerLog }

/-- The standard registers of a function as host software has written them (R63, R75, R82, R83, R113; notes/assumptions/74.md). -/
def LinkS.configure (c : HostCfg) (l : LinkS) : LinkS :=
  { l with
    viralEnable := c.viralEnable, ioConfigured := true, d3hot := c.d3hot, msixOn := c.msixOn, msixFnMask := c.msixFnMask
    msixMask := c.msixMask % 16, msixTable := c.msixTable.take 4, aer := aerWritten l.aer c.aer
    decoders := (List.range 2).map fun i => decoderWritten (c.decoders.getD i {}) }

/-- Pending vectors that are no longer masked are sent (04 R113). -/
def State.msixSync (h : Nat) (s : State) : State :=
  let l := s.link h
  if !l.msixOn || l.d3hot || l.msixFnMask then s
  else forEach ((List.range 4).filter fun v => testBit l.msixPending v && !testBit l.msixMask v) (fun v => fun s =>
    (s.modLink h fun l => { l with msixPending := l.msixPending - 2 ^ v }).msix h v) s

/-- MEM_ENABLE_WRITE (03 R67): a 1 is written back as 0 unless the conditions of R67 hold; IDE required is taken at this write. Requests
to a function that is not up receive Request Retry Status (R66). -/
def execMemEnableWrite (head : Nat) (value : Bool) (cfg : HostCfg) (s : State) : Res :=
  if !s.configAnswered head then .next s
  else
    let need := decide (s.cfg (0x2000 + head / 2) 3 = 1)
    let on := value && s.memAllowed head need
    .next ((s.modLink head fun l => { l.configure cfg with memEnable := on, ideNeeded := on && need }).msixSync head)

/-- VIRAL_RECEIVED (03 R76): the head is viral at once, until its link goes down. -/
def execViralReceived (head : Nat) (s : State) : Res :=
  .next (if s.linkUp head then s.enterViral head else s)

/-- IDE_CHECK_FAILURE (03 R79): the epoch is discarded, both streams are Insecure, admission stops, and the failure is a C1 message
and a security event. -/
def execIdeCheckFailure (head : Nat) (s : State) : Res :=
  if s.linkUp head then
    let s := s.modLink head fun l => { l with ideIo := 2, ideMem := 2, ideStopped := true, ideFell := false }
    let s := s.report (srcPort (head / 2)) 0x42 (some (head % 2))
    let s := s.security 10 0xFF 1 0
    .next ((s.linkEvent head).boundSync)
  else .next s

/-- A stream is keyed: a head that an IDE check has stopped resumes once its link has gone down and both streams are Secure (R79). -/
def LinkS.keyed (l : LinkS) : LinkS :=
  if l.ideFell ∧ l.ideIo = 1 ∧ l.ideMem = 1 then { l with ideStopped := false, ideFell := false } else l

/-- IDE_KM_REQUEST (03 R63, R78, R79): an unsupported request leaves the stream that it names in Insecure. -/
def execIdeKmRequest (head : Nat) (ask : IdeAsk) (s : State) : Res :=
  if s.linkUp head then
    let change := fun (f : LinkS → LinkS) (o : Out) => ((((s.modLink head f).emit o).linkEvent head).boundSync)
    match ask with
    | .io => .next (change (fun l => LinkS.keyed { l with ideIo := 1 }) (.ideKeyed head false))
    | .mem => .next (change (fun l => LinkS.keyed { l with ideMem := 1 }) (.ideKeyed head true))
    | .unsupported .io => .next (change (fun l => { l with ideIo := 2 }) (.ideGoStopAck head))
    | .unsupported .mem => .next (change (fun l => { l with ideMem := 2 }) (.ideGoStopAck head))
    | .unsupported .other => .next (s.emit (.ideGoStopAck head))
  else .next s

/-- FUNCTION_LEVEL_RESET (03 R82): CXL.io state only, MSI-X with it; discarded during a link-down (R84). -/
def execFunctionLevelReset (head : Nat) (s : State) : Res :=
  if s.linkUp head then
    let s := s.modLink head clearedIo
    .next (s.modHead head fun d => { d with eq := {}, doorbell := none })
  else .next s

/-- PERST_ASSERT (03 R66, R80, 19 R435): the link goes down; while the port is fenced it is only counted. In x16 mode PERST1_N is
ignored but for its level (02 R48). -/
def execPerstAssert (port link : Nat) (s : State) : Res :=
  let h := 2 * port + link
  if (s.link h).perstLow then .next s else
  let s := s.modLink h fun l => { l with perstLow := true, perstCount := if s.absent h then l.perstCount else l.perstCount + 1 }
  .next (if s.isOut (srcPort port) then s else s.portSync port)

/-- PERST_RELEASE (03 R66, R69, 19 R435): the limit of R69 ends and the link trains, once its domains are on. -/
def execPerstRelease (port link : Nat) (s : State) : Res :=
  let h := 2 * port + link
  let s := s.modLink h fun l => { l with perstLow := false, limit32 := false }
  .next (s.portSync port)

/-- CDAT regenerated when width, speed or flit mode changed (03 R87). -/
def State.cdat (h : Nat) (s : State) : State :=
  let l := s.link h
  let now := l.speed * 2 ^ 8 + l.width * 4 + l.flit + 1
  if l.cdatLink = now then s else s.modLink h fun l => { l with cdatLink := now, cdatChange := l.cdatChange + 1 }

/-- LINK_UP (03 R66 step 3): the link is up at 2.5 GT/s at its width; widths the module does not bring up (R63), or that the port's
mode does not give, leave it training. -/
def execLinkUp (head width flit : Nat) (s : State) : Res :=
  let wide := !(s.port (head / 2)).bifurcated
  if (s.link head).state = 1 ∧ (width = 4 ∨ width = 8 ∨ (width = 16 ∧ wide)) ∧ flit ≤ 2 then
    let fl := if s.cfg (0x2000 + head / 2) 2 = 1 then flit else 0
    let s := s.modLink head fun l =>
      { l with state := 2, speed := 1, width := width, flit := fl, poolAtUp := s.cfg 0x1101 0 }
    .next ((s.cdat head).linkEvent head)
  else .next s

/-- The highest rate a link may train to: 32 GT/s by the port's object, by 68 B flits, or by the limit of R69 (03). -/
def State.rateLimit (s : State) (h : Nat) : Nat :=
  if s.cfg (0x2000 + h / 2) 1 = 1 ∨ s.cfg (0x2000 + h / 2) 2 = 0 ∨ (s.link h).limit32 ∨ (s.link h).flit = 0 then 5 else 6

/-- The link now runs at a speed: STATE 3 at 32 GT/s or above, else PCIe only (R68, R89). -/
def State.atSpeed (h speed : Nat) (s : State) : State :=
  let s := s.modLink h fun l =>
    { l with speed := speed, state := if 5 ≤ speed then 3 else 2, reached32 := l.reached32 || decide (5 ≤ speed) }
  let s := ((s.cdat h).linkEvent h).boundSync
  let s := if (s.inService || s.inEasy) && !s.anyFast then s.easyEnter 5 else s
  s.linkTrained

/-- SPEED_CHANGE_REQUEST (03 R68): a request to 32 GT/s or above that ends below it is a C1 link speed message each time. -/
def execSpeedChangeRequest (head asked reached : Nat) (s : State) : Res :=
  if s.linkUp head ∧ 1 ≤ asked ∧ asked ≤ 6 ∧ 1 ≤ reached ∧ reached ≤ asked then
    let r := min reached (s.rateLimit head)
    let s := s.atSpeed head r
    .next (if 5 ≤ asked ∧ r < 5 then s.report (srcPort (head / 2)) 0x40 (some (head % 2)) else s)
  else .next s

/-- EQUALISATION_COMPLETE (03 R66 step 4). -/
def execEqualisationComplete (head speed : Nat) (s : State) : Res :=
  if s.linkUp head ∧ (speed = 5 ∨ speed = 6) then .next (s.atSpeed head (min speed (s.rateLimit head))) else .next s

/-- LINK_RECOVERY_ENTRY (03 R69): more than 64 entries within 1 s are a C1 link unstable message and a limit of 32 GT/s. DESIGN CHOICE:
the count starts again at each report, so that 65 new entries are needed for the next; the spec is silent on repeated reports
(notes/assumptions/75.md). -/
def execLinkRecoveryEntry (head : Nat) (s : State) : Res :=
  if s.linkUp head then
    let s := s.modPort (head / 2) fun p => { p with recoveries := p.recoveries + 1 }
    let recent := s.tim.opTime :: (s.link head).recoveries.filter fun t => decide (s.tim.opTime < t + 1000)
    if 64 < recent.length then
      let s := s.modLink head fun l => { l with recoveries := [], limit32 := true }
      let s := s.report (srcPort (head / 2)) 0x41 (some (head % 2))
      .next (if (s.link head).speed = 6 then s.atSpeed head 5 else s)
    else .next (s.modLink head fun l => { l with recoveries := recent })
  else .next s

/-- LINK_DOWN (03 R80): a full reset of the head; a link that is not held trains again. -/
def execLinkDown (head : Nat) (s : State) : Res := .next ((s.linkDown head).portSync (head / 2))

/-- CABLE_REMOVED (02 R49): both links are held in reset. -/
def execCableRemoved (port : Nat) (s : State) : Res :=
  .next ((s.modPort port fun p => { p with cable := false }).portSync port)

/-- CABLE_MATED (02 R49). -/
def execCableMated (port : Nat) (s : State) : Res :=
  .next ((s.modPort port fun p => { p with cable := true }).portSync port)

/-- BIFURCATION_REQUEST (03 R65): stored at once, applied when both links of the port are held in reset. -/
def execBifurcationRequest (port mode : Nat) (s : State) : Res :=
  accessed s (respondAccess byOperator (0x2000 + port) 0 (s.putObject byOperator (0x2000 + port) 0 mode (be 1 mode)))

end Sys2Proof.Machine
end

