-- ==== Sys2Proof/Machine/Read.lean ====
section
/-! DEFINITION. The read path: lookup, dispatch, arrival, reconstruction, decision, merge (05 R116–R134, 09 R217, R231–R233, 10
R240–R246). -/

namespace Sys2Proof.Machine

/-! ## Nodes and addresses of a read -/

/-- The node copy that a source of a read concerns. -/
def copyOf : ReadSrc → Option NodeCopy
  | .own => none
  | .stripe _ => none
  | .counterBlock => some .block
  | .l1 => some .l1
  | .l2 => some .l2
  | .l3half h => some (.l3 h)
  | .l1Mirror => some .l1Mirror
  | .l2Mirror => some .l2Mirror
  | .nodeStripe c _ => some c

/-- The source that reads a copy itself. -/
def copySrc : NodeCopy → ReadSrc
  | .block => .counterBlock
  | .l1 => .l1
  | .l1Mirror => .l1Mirror
  | .l2 => .l2
  | .l2Mirror => .l2Mirror
  | .l3 h => .l3half h

/-- The node that a copy holds, as the source that reads its first copy. -/
def copyNode : NodeCopy → ReadSrc
  | .block => .counterBlock
  | .l1 => .l1
  | .l1Mirror => .l1
  | .l2 => .l2
  | .l2Mirror => .l2
  | .l3 h => .l3half h

/-- Level and index of a node of a line. -/
def nodeOfSrc (line : Nat) (src : ReadSrc) : Nat × Nat :=
  match (copyOf src).map copyNode with
  | some .counterBlock => (0, line / 64)
  | some .l1 => (1, line / 512)
  | some .l2 => (2, line / 4096)
  | some (.l3half _) => (3, line / 32768)
  | _ => (10, 0)

/-- The cache key of a node. -/
def cacheKey (level index : Nat) : Nat := nodeIdx level index

/-- Where a copy of a line's node lies (R221, R223). -/
def State.copyAt (s : State) (line : Nat) (c : NodeCopy) : Nat × Nat :=
  let t := tractOfLine line
  let pt := s.readPt t
  let i := line / 64 % 256
  match c with
  | .block => s.locate (nodeKey pt .block i)
  | .l1 => s.locate (nodeKey pt .l1 (i / 8))
  | .l1Mirror => s.locate (nodeKey pt .l1m (i / 8))
  | .l2 => s.locate (nodeKey pt .l2 (i / 64))
  | .l2Mirror => s.locate (nodeKey pt .l2m (i / 64))
  | .l3 h => s.locate (nodeKey (s.readPt (t / 2 * 2 + h)) .l3 0)

/-- The same line at a position of a granule's stripe row. -/
def rowMate (a position : Nat) : Nat := atPosition (ptOfAddr a) (stripeRow a) position

/-- Where a line lies at its dispatch (R120). -/
def State.lineAddr (s : State) (line : Nat) : Nat × Nat :=
  (placeGranule (s.readPt (tractOfLine line)) (line / 4 % 4096), line % 4)

/-- The granule and line that a source of a read senses: at the physical tracts of its dispatch, whatever the map says since (R128). -/
def ReadS.srcAt (r : ReadS) (src : ReadSrc) : Nat × Nat :=
  let copy := fun (c : NodeCopy) => match r.places.find? fun x => decide (x.1 = c) with
    | some x => x.2
    | none => (0, 0)
  match src with
  | .own => r.place
  | .stripe p => (rowMate r.place.1 p, r.place.2)
  | .nodeStripe c p => (rowMate (copy c).1 p, (copy c).2)
  | src => match copyOf src with
    | some c => copy c
    | none => (0, 0)

/-- A read in flight. -/
def State.readOf (s : State) (rid : Nat) : Option ReadS := (s.rdp.reads.find? fun e => e.1 == rid).map Prod.snd

/-- Change a read in flight. -/
def State.modRead (rid : Nat) (f : ReadS → ReadS) (s : State) : State :=
  s.modRdp fun r => { r with reads := r.reads.map fun e => if e.1 = rid then (rid, f e.2) else e }

/-- Lines that may be queued on a channel ahead of a read under admitted load (R123). -/
def admittedLines (t : Nat) : Nat := (60 - (t - 12)) * 1000 / 3333

/-- The set of the integrity cache where a node is placed: 131,072 sets of 16 ways (R225). -/
def cacheSetOf (k : Nat) : Nat := Config.cacheHash k % 131072

/-- A node enters the integrity cache; the oldest of a full set leaves (R225, notes/assumptions/21.md). -/
def State.cachePut (level index : Nat) (s : State) : State :=
  let k := cacheKey level index
  s.modItg fun x =>
    let mates := x.cache.filter fun c => cacheSetOf c == cacheSetOf k
    { x with cache :=
        if x.cache.contains k then x.cache
        else k :: (if mates.length < 16 then x.cache else x.cache.erase (mates.getLastD k)) }

/-! ## Counts -/

/-- Place of the ECC count of an outcome (R240). -/
def eccBin (errors : Nat) : Nat := if errors = 0 then 0 else if errors ≤ 3 then 1 else if errors ≤ 7 then 2 else 3

/-- Count in 0x3300.03. -/
def State.countEcc (k : Nat) (s : State) : State := s.modScr fun x => { x with ecc := modNth x.ecc k (· + 1) }

/-- Put a granule in the rewrite queue, and REFR in its tract's entry; a full queue drops it (R185, R242). -/
def State.queueRewrite (a : Nat) (s : State) : State :=
  if s.scr.rewrite.contains a then s
  else if s.scr.rewrite.length < 4096 then
    let s := s.modScr fun x => { x with rewrite := x.rewrite ++ [a] }
    match s.tractAt (ptOfAddr a) with
    | some t => s.modEntry t fun e => { e with refr := true }
    | none => s
  else s.countEcc 6

/-- Count what the die reported with a sense; a line so reported goes to the rewrite queue (R165, R166, R242). -/
def State.sqSeen (a : Nat) (sq : SenseStatus) (s : State) : State :=
  let s := s.modDie (dieOf a) fun d => { d with fallbacks := d.fallbacks + bit sq.ref, lowMargin := d.lowMargin + bit sq.lowMargin }
  if sq.ref || sq.lowMargin then s.queueRewrite a else s

/-- A line of a read that was sensed: the counts of its die, its tract and its ECC outcome, and its granule's rewrite where due under the
threshold that the read was admitted with (01 R21, 08 R193, R242, R243). -/
def State.eccSeen (r : ReadS) (a errors : Nat) (sq : SenseStatus) (s : State) : State :=
  let s := ((s.modDie (dieOf a) fun d => { d with senses := d.senses + 1 }).countSense a).sqSeen a sq
  let s := s.countEcc (eccBin errors)
  if r.threshold ≤ errors ∧ errors ≤ 7 then s.queueRewrite a else s

/-- Latency histogram bin (0x2100+h.0C). -/
def latencyBin (ns : Nat) : Nat :=
  if ns < 100 then 0 else if ns < 140 then 1 else if ns < 180 then 2 else if ns < 220 then 3 else if ns ≤ 250 then 4
  else if ns ≤ 380 then 5 else if ns ≤ 1000 then 6 else 7

/-! ## Decision -/

/-- A decided read has sensed: the tract it was dispatched to counts one less (R129). -/
def State.decided (rid : Nat) (o : LineOutcome) (s : State) : State :=
  match s.readOf rid with
  | none => s
  | some r =>
    let s := s.modRead rid fun r => { r with outcome := some o, waiting := [] }
    forEach r.pts State.readSensed s

/-- The outcome of a tag or tree failure in a mode (R232). -/
def failedOutcome (m : Mode) : LineOutcome := if m = .normal then .poison (some .integrity) else .poison none

/-- Decide a read whose line and nodes have all arrived (R217). -/
def State.decideRead (rid : Nat) (s : State) : State :=
  match s.readOf rid with
  | none => s
  | some r =>
    match r.outcome, r.waiting, r.own with
    | none, [], some l =>
      let s := s.modItg fun x => { x with counts := modNth (modNth x.counts 0 (· + 1)) 2 (· + 1) }
      match s.decideLine r.block r.line l with
      | .zero => s.decided rid .zero
      | .data d => s.decided rid (.data d)
      | .poison => s.decided rid (.poison (some .media))
      | .tagFail =>
        if r.flagged.isSome then s.decided rid (.poison (some .media))
        else
          let s := s.modRead rid fun r => { r with tagFail := true }
          ((s.countTagFail.alarm r.mode (r.line * 64)).decided rid (failedOutcome r.mode))
    | _, _, _ => s

/-- A read has become a reconstructed read: counted once in 0x2100+h.0A (R131). -/
def State.markReconstructed (rid : Nat) (s : State) : State :=
  match s.readOf rid with
  | none => s
  | some r =>
    if r.reconstructed then s else
    (s.modRead rid fun r => { r with reconstructed := true }).modHead r.head fun d => { d with reconstructed := d.reconstructed + 1 }

/-- The line cannot be rebuilt: poisoned of class media, or the flagged line where it verifies (R240, R131). -/
def State.cannotRebuild (rid : Nat) (s : State) : State :=
  match s.readOf rid with
  | none => s
  | some r =>
    let a := r.place.1
    let s := (s.countEcc 5).report (dieOf a) 0x11 (some (granOf a))
    match r.flagged with
    | some l =>
      (s.modRead rid fun r => { r with own := some l, waiting := r.waiting.filter fun x =>
        match x with
        | .own => false
        | .stripe _ => false
        | _ => true }).decideRead rid
    | none => (s.modRead rid fun r => { r with keepPoison := true }).decided rid (.poison (some .media))

/-- The other positions of the line's stripe row. -/
def otherPositions (a : Nat) : List Nat := (List.range 9).filter fun p => p != posOf a

/-- Another granule of a granule's stripe row is lost, so that it cannot be rebuilt (R130). -/
def State.rowLost (s : State) (a : Nat) : Bool := (otherPositions a).any fun p => s.lostAt (rowMate a p)

/-- A read's sources are dispatched to their planes with a check threshold: each channel's deepest queue is that of the lines of reads
still to arrive on it (R123, R131, 0x3010+c.03). -/
def State.issue (rid t : Nat) (l : List Nat) (s : State) : State :=
  forEach l (fun a => fun s =>
    let c := dieOf a / 16
    let queued := (s.rdp.reads.map fun e => (e.2.waiting.filter fun src => dieOf (e.2.srcAt src).1 / 16 == c).length).sum
    (s.modChannel c fun x => { x with maxQueue := max x.maxQueue (queued - 1) }).planeRead rid t (planeOf a)) s

/-- Second dispatch of a data line: the eight other lines of its row at the minimum threshold (R131), or its end. -/
def State.reconstruct (rid : Nat) (s : State) : State :=
  match s.readOf rid with
  | none => s
  | some r =>
    let s := s.markReconstructed rid
    let pos := otherPositions r.place.1
    if s.rowLost r.place.1 then s.cannotRebuild rid
    else
      let s := s.modRead rid fun r => { r with waiting := r.waiting ++ pos.map ReadSrc.stripe, accCt := 0, accTag := 0, accPoison := false }
      s.issue rid 4 (pos.map (rowMate r.place.1))

/-! ## Arrival -/

/-- A node with one half of an L3 node taken from a sensed line. -/
def withHalf (whole sensed : Line) (h : Nat) : Line := mergeBytes (halfBe h) whole sensed

/-- The ways in which a node is fetched, in order: its copy, its mirror, each copy by parity (R121, R231): true by parity, the copy. -/
def nodeWays : ReadSrc → List (Bool × NodeCopy)
  | .counterBlock => [(false, .block), (true, .block)]
  | .l1 => [(false, .l1), (false, .l1Mirror), (true, .l1), (true, .l1Mirror)]
  | .l2 => [(false, .l2), (false, .l2Mirror), (true, .l2), (true, .l2Mirror)]
  | .l3half h => [(false, .l3 h), (true, .l3 h)]
  | _ => []

/-- A way can be taken: the copy is not on a lost unit, or the other eight granules of its row are not (R121, R130). -/
def State.wayOpen (s : State) (place : NodeCopy → Nat × Nat) (w : Bool × NodeCopy) : Bool :=
  if w.1 then !s.rowLost (place w.2).1 else !s.lostAt (place w.2).1

/-- The sources that a way fetches, at the place of its copy. -/
def waySrcs (place : NodeCopy → Nat × Nat) (w : Bool × NodeCopy) : List ReadSrc :=
  if w.1 then (otherPositions (place w.2).1).map fun p => .nodeStripe w.2 p else [copySrc w.2]

/-- The first open way of a node from a place of its order on. -/
def State.nextWay (s : State) (place : NodeCopy → Nat × Nat) (node : ReadSrc) (from' : Nat) : Option Nat :=
  (range' from' ((nodeWays node).length - from')).find? fun i => match (nodeWays node)[i]? with
    | some w => s.wayOpen place w
    | none => false

/-- The place of a copy as a read has it from its dispatch. -/
def ReadS.placeOf (r : ReadS) (c : NodeCopy) : Nat × Nat := r.srcAt (copySrc c)

/-- A node has failed in every way: its tract, for an L3 half both of its tracts, to STATE 3 (R231, R232). -/
def State.nodeLost (rid : Nat) (src : ReadSrc) (s : State) : State :=
  match s.readOf rid with
  | none => s
  | some r =>
    let t := tractOfLine r.line
    let ts := match src with
      | .l3half _ => [t / 2 * 2, t / 2 * 2 + 1]
      | _ => [t]
    (s.decided rid (failedOutcome r.mode)).loseTracts ts r.mode (r.line * 64)

/-- The sources still waited for without those of a node's present way. -/
def ReadS.without (r : ReadS) (node : ReadSrc) : List ReadSrc :=
  r.waiting.filter fun x => match copyOf x with
    | some c => decide (copyNode c ≠ node)
    | none => true

/-- A node has come and verifies: it is cached; a recovered copy is counted, as a rebuilt line where no MAC had failed, and its first copy
written back; one recovered from a MAC mismatch raises the alarm only (R225, R231, 10 R243). -/
def State.nodeDone (rid : Nat) (r : ReadS) (src : ReadSrc) (rest : List ReadSrc) (s : State) : State :=
  let (level, idx) := nodeOfSrc r.line src
  let node := match copyOf src with
    | some c => copyNode c
    | none => src
  let s := if r.recovered.contains node then
      (s.modItg fun x => { x with recovered := x.recovered + 1 }).queueRewrite (r.srcAt node).1
    else s
  let s := if r.macFailed.contains node then s.alarm r.mode (r.line * 64)
    else s.when (r.recovered.contains node) (State.countEcc 4)
  let wholeL3 : Bool := match node with
    | .l3half h => !rest.any fun x => match copyOf x with
      | some c => decide (copyNode c = .l3half (1 - h))
      | none => false
    | _ => true
  let s := if wholeL3 then s.cachePut level idx else s
  (s.modRead rid fun r => { r with waiting := rest }).decideRead rid

/-- No way is left for a node: a corrected copy of 8 bits is used where it verifies, else the node is lost (10 R240, R231). -/
def State.nodeLast (rid : Nat) (r : ReadS) (src node : ReadSrc) (s : State) : State :=
  let s := (s.countEcc 5).report (dieOf (r.srcAt src).1) 0x11 (some (granOf (r.srcAt src).1))
  match r.nodeFlagged.find? fun x => decide (x.1 = node) with
  | some x =>
    if s.nodeOk (nodeOfSrc r.line src).1 (nodeOfSrc r.line src).2 x.2 then s.nodeDone rid r src (r.without node) else s.nodeLost rid node
  | none => s.nodeLost rid node

/-- A node's present way has failed: the next of R231, as part of a reconstructed read, or the node is lost (R131, R231). `mac`: the copy
failed its MAC. -/
def State.nodeRetry (rid : Nat) (r : ReadS) (src : ReadSrc) (mac : Bool) (s : State) : State :=
  match copyOf src with
  | none => s
  | some c =>
    let node := copyNode c
    let now := match r.tried.find? fun x => decide (x.1 = node) with
      | some x => x.2
      | none => 0
    match s.nextWay r.placeOf node (now + 1) with
    | none => s.nodeLast rid r src node
    | some i =>
      let s := s.when (!mac) (State.report (dieOf (r.srcAt src).1) 0x10 (some (granOf (r.srcAt src).1)))
      let srcs := match (nodeWays node)[i]? with
        | some w => waySrcs r.placeOf w
        | none => []
      let s := (s.markReconstructed rid).modRead rid fun r =>
        { r with
          waiting := r.without node ++ srcs
          tried := (node, i) :: r.tried.filter fun x => decide (x.1 ≠ node)
          nodeAcc := r.nodeAcc.filter fun x => decide (x.1 ≠ node)
          recovered := if r.recovered.contains node then r.recovered else node :: r.recovered
          macFailed := if mac then node :: r.macFailed else r.macFailed }
      s.issue rid 4 (srcs.map fun x => (r.srcAt x).1)

/-- A node has come in some way: it verifies and is cached, or its way has failed (R231). -/
def State.nodeCame (rid : Nat) (r : ReadS) (src : ReadSrc) (content : Line) (rest : List ReadSrc) (s : State) : State :=
  if s.nodeOk (nodeOfSrc r.line src).1 (nodeOfSrc r.line src).2 content then s.nodeDone rid r src rest else s.nodeRetry rid r src true

/-- The content of a node with what a sensed line of a copy brings: an L3 half only its half. -/
def State.nodeContent (s : State) (line : Nat) (src : ReadSrc) (l : Line) : Line :=
  let n := nodeOfSrc line src
  match (copyOf src).map copyNode with
  | some (.l3half h) => withHalf (s.node n.1 n.2) l h
  | _ => l

/-- A node line arrives, or a line of the row by which a node is rebuilt (R121, R231). -/
def State.nodeArrival (rid : Nat) (r : ReadS) (src : ReadSrc) (errors : Nat) (sensed : Option StoredLine) (sq : SenseStatus)
    (s : State) : State :=
  let n := nodeOfSrc r.line src
  let (a, k) := r.srcAt src
  let s := (s.eccSeen r a errors sq).modScr fun x => { x with ecc := modNth x.ecc 7 (· + 1) }
  let s := s.modItg fun x => { x with counts := modNth x.counts 1 (· + 1) }
  let rest := r.waiting.filter fun x => decide (x ≠ src)
  let direct := match sensed with
    | some l => s.nodeContent r.line src l.ct
    | none => s.node n.1 n.2
  if 8 ≤ errors then
    match copyOf src, src with
    | some _, .nodeStripe _ _ => s.nodeRetry rid r src false
    | some c, _ =>
      let r' := if errors = 8 then { r with nodeFlagged := (copyNode c, direct) :: r.nodeFlagged } else r
      (s.modRead rid fun _ => r').nodeRetry rid r' src false
    | none, _ => s
  else match src with
    | .nodeStripe c _ =>
      let change := match sensed with
        | some l => l.ct ^^^ (granLine (s.image a) k).ct
        | none => 0
      let acc := change ^^^ (match r.nodeAcc.find? fun x => decide (x.1 = copyNode c) with
        | some x => x.2
        | none => 0)
      let more := rest.any fun x => match x with
        | .nodeStripe d _ => decide (d = c)
        | _ => false
      let r' := { r with waiting := rest, nodeAcc := (copyNode c, acc) :: r.nodeAcc.filter fun x => decide (x.1 ≠ copyNode c) }
      let s := s.modRead rid fun _ => r'
      if more then s
      else
        let s := s.modScr fun x => { x with parity := modNth x.parity (if r.recovered.contains (copyNode c) then 1 else 0) (· + 1) }
        s.nodeCame rid r' src (s.nodeContent r.line src (s.node n.1 n.2 ^^^ acc)) rest
    | _ => s.nodeCame rid r src direct rest

/-- The read's own line arrives (R240). -/
def State.ownArrival (rid : Nat) (r : ReadS) (errors : Nat) (sensed : Option StoredLine) (sq : SenseStatus) (s : State) : State :=
  let a := r.place.1
  let l := sensed.getD r.base
  let s := s.eccSeen r a errors sq
  let s := s.modRead rid fun r => { r with waiting := r.waiting.filter fun x => decide (x ≠ .own) }
  if errors ≤ 7 then (s.modRead rid fun r => { r with own := some l }).decideRead rid
  else
    let s := if errors = 8 then s.modRead rid fun r => { r with flagged := some l } else s
    s.reconstruct rid

/-- A line of the stripe row arrives; the eighth gives the rebuilt line (R130, R246). What was sensed otherwise than the dies hold it
changes the rebuilt line by the same bits. -/
def State.stripeArrival (rid : Nat) (r : ReadS) (p errors : Nat) (sensed : Option StoredLine) (sq : SenseStatus) (s : State) : State :=
  let (a, k) := r.srcAt (.stripe p)
  let change := match sensed with
    | some l => xorLines [l, granLine (s.image a) k]
    | none => {}
  let s := s.eccSeen r a errors sq
  let rest := r.waiting.filter fun x => decide (x ≠ .stripe p)
  if 8 ≤ errors then s.cannotRebuild rid
  else
    let now := xorLines [change, { blank := false, ct := r.accCt, tag := r.accTag, poison := r.accPoison }]
    let more := rest.any fun x =>
      match x with
      | .stripe _ => true
      | _ => false
    let s := s.modRead rid fun r =>
      { r with waiting := rest, accCt := now.ct, accTag := now.tag, accPoison := now.poison, own := if more then r.own else some (xorLines [r.base, now]) }
    if more then s else
    let own := r.place.1
    let s := (s.countEcc 4).modScr fun x => { x with parity := modNth x.parity (if r.degraded then 0 else 1) (· + 1) }
    let s := if r.degraded then s else s.report (dieOf own) 0x10 (some (granOf own))
    (s.modRead rid fun r => { r with flagged := none }).decideRead rid

/-! ## Dispatch -/

/-- The nodes that a line needs and the cache does not hold (R121, R223). -/
def State.missingNodes (s : State) (line : Nat) : List ReadSrc :=
  [ReadSrc.counterBlock, .l1, .l2, .l3half 0, .l3half 1].filter fun src =>
    !(s.itg.cache.contains (cacheKey (nodeOfSrc line src).1 (nodeOfSrc line src).2))

/-- A node is now fetched from the copies at a line's dispatch: the way taken and its sources; none where no way is open (R121, R130). -/
def State.nodeFetch (s : State) (line : Nat) (node : ReadSrc) : Option (Nat × List ReadSrc) :=
  match s.nextWay (s.copyAt line) node 0 with
  | none => none
  | some i => match (nodeWays node)[i]? with
    | some w => some (i, waySrcs (s.copyAt line) w)
    | none => none

/-- The node reads of a dispatch, each node with the way taken and its sources; none where a node cannot be fetched. -/
def State.nodeFetches (s : State) (line : Nat) : Option (List (ReadSrc × Nat × List ReadSrc)) :=
  let l := (s.missingNodes line).map fun n => (s.nodeFetch line n).map fun x => (n, x)
  if l.all Option.isSome then some (l.filterMap id) else none

/-- Every copy of a line's nodes. -/
def nodeCopies : List NodeCopy := [.block, .l1, .l1Mirror, .l2, .l2Mirror, .l3 0, .l3 1]

/-- Dispatch a read of a mapped line: its own line, its registered image or its stripe row, and the nodes not cached, each by the way
R121 gives; a line or a node that cannot be had is decided here, without any media fetch (R120–R123, R128, R130). -/
def State.dispatch (rid line queued : Nat) (s : State) : State :=
  let (a, k) := s.lineAddr line
  let missing := s.missingNodes line
  let t := s.cfg 0x3000 0
  let image := s.registered a
  let lost := image.isNone && s.lostAt a
  let s := s.modRead rid fun r =>
    { r with
      admittedLoad := decide (queued ≤ admittedLines t) && decide ((s.plane (planeOf a)).slots < 16), pt := ptOfAddr a + 1
      place := (a, k), places := nodeCopies.map fun c => (c, s.copyAt line c), base := (s.lineAt a k).getD {}, block := s.block (line / 64) }
  match s.nodeFetches line with
  | none => (s.modRead rid fun r => { r with holding := true, degraded := true }).decided rid (.poison (some .media))
  | some fetch =>
    if lost && s.rowLost a then
      (s.modRead rid fun r => { r with holding := true, degraded := true }).decided rid (.poison (some .media))
    else
      let nodes := fetch.flatMap fun x => x.2.2
      let own := if image.isSome then [] else if lost then (otherPositions a).map ReadSrc.stripe else [.own]
      let byParity := fetch.any fun x => decide (1 < x.2.2.length)
      let s := s.modItg fun x =>
        { x with activity := [nth x.activity 0 + (5 - missing.length), nth x.activity 1 + missing.length, nth x.activity 2 + nodes.length] }
      let s := s.modRead rid fun r =>
        { r with
          waiting := nodes ++ own, degraded := lost || byParity, tried := fetch.map fun x => (x.1, x.2.1)
          own := image.map fun g => granLine g k }
      match s.readOf rid with
      | none => s
      | some r =>
        let addrs := (nodes ++ own).map fun src => (r.srcAt src).1
        let pts := (ptOfAddr a :: addrs.map ptOfAddr).dedup
        let s := s.modRead rid fun r => { r with pts := pts }
        let s := s.modTrc fun x => { x with readsOn := pts.foldl (fun acc pt => Tab.mod 0 acc pt (· + 1)) x.readsOn }
        let s := s.modChannel (dieOf a / 16) fun c => { c with maxQueue := max c.maxQueue queued }
        (s.issue rid t addrs).decideRead rid

/-- The head takes a request: CXL.mem is served, its streams have not stopped, and the port and the head have room (R67, R71, R79). -/
def State.takes (s : State) (h : Nat) : Bool :=
  s.memServed h && !s.isOut (srcHead h) && !s.isOut (srcPort (h / 2)) && s.roomFor h

/-- A stray access (R96): counted, reported to the head; kind 0 MemRd, 1 MemWr, 2 MemWrPtl. -/
def State.strayAccess (h dpa kind : Nat) (s : State) : State :=
  let st := match (s.pair (extentOf dpa) h).state with
    | .offered => 1
    | .draining => 4
    | _ => 0
  (s.modHead h fun d => { d with stray := d.stray + 1 }).headEvent [h] 9 0x3FF (payload32 (be 8 dpa ++ be 1 kind ++ be 1 st))

/-- The head serves the extent: Assigned or Releasing (R96). -/
def State.serves (s : State) (h dpa : Nat) : Bool :=
  decide ((s.pair (extentOf dpa) h).state = .assigned ∨ (s.pair (extentOf dpa) h).state = .releasing)

/-- Count a request of a port: Tally slots 0–3. -/
def State.countTraffic (h k n : Nat) (s : State) : State :=
  s.modPort (h / 2) fun p => { p with traffic := modNth p.traffic k (· + n) }

/-- A response is measured by the port (R134). -/
def HeadS.measured (d : HeadS) (latency : Nat) : HeadS :=
  { d with readsDone := d.readsDone + 1, maxRead := max d.maxRead (min latency 65535), hist := modNth d.hist (latencyBin latency) (· + 1) }

/-- A poisoned response with no class: a viral head, a stray access (R76, R96). -/
def State.answerPoisoned (h dpa latency : Nat) (s : State) : State :=
  ((s.modHead h fun d => { d.measured latency with poisoned := d.poisoned + 1 }).countTraffic h 2 64).emit (.readResponse h dpa true 0)

/-- One copy of a tract's map entry has failed its SECDED: the part that holds it reports C1, and the word is rewritten (R118).
DESIGN CHOICE: the row does not say which copy; the model takes that of group A (notes/assumptions/64.md). -/
def State.mapCopyFailed (t : Nat) (s : State) : State :=
  (s.modTrc fun x => { x with counts := modNth x.counts 1 (· + 1) }).badWord (pairOfTract t) (mapOffset t / 8)

/-- Accept a read: the line order point, the probe, the lookup and its outcome (R118, R119, R126, R127). -/
def State.acceptRead (h dpa queued : Nat) (copies : MapCopies) (s : State) : State :=
  let line := lineOf dpa
  let rid := s.rdp.nextId
  let probe := s.lineEnts line
  let pending := match probe.opened with
    | some e => decide (e.state = .pending)
    | none => false
  let r : ReadS :=
    { head := h, line := line, order := s.rdp.order, mode := s.modeNow, probe := probe, threshold := s.cfg 0x3300 0
      pt := ptOfAddr (s.lineAddr line).1 + 1, place := s.lineAddr line }
  let s := s.modRdp fun x =>
    { x with
      reads := x.reads ++ [(rid, r)], nextId := x.nextId + 1, order := x.order + 1
      counts := [nth x.counts 0 + 1, nth x.counts 1 + 1, nth x.counts 2, nth x.counts 3 + bit pending] }
  let s := s.modTrc fun x => { x with counts := modNth x.counts 0 (· + 1) }
  let s := s.modHead h fun d => { d with inflight := d.inflight + 1 }
  let s := s.when (decide (copies = .one)) (State.mapCopyFailed (tractOfLine line))
  let held := fun (o : LineOutcome) => s.modRead rid fun r => { r with outcome := some o, holding := true }
  if copies = .none then
    (s.modRead rid fun r => { r with outcome := some (.poison none), holding := true }).report
      (srcPart (pairOfTract (tractOfLine line))) 0x33 none
  else match (s.entry (tractOfLine line)).state with
  | .zero => held .zero
  | .suspect => held (.poison (some .dirtyShutdown))
  | .integrityLost => held (failedOutcome r.mode)
  | .mapped => s.dispatch rid line queued

/-- MEMRD (05 R116–R123, 03 R76, 04 R96). -/
def execMemrd (head dpa queued latency : Nat) (copies : MapCopies) (s : State) : Res :=
  if !s.takes head || !s.reqCredit head then .next s
  else
    let s := s.countTraffic head 0 1
    if (s.head head).viral then .next (s.answerPoisoned head dpa latency)
    else if !s.serves head dpa then .next ((s.strayAccess head dpa 0).answerPoisoned head dpa latency)
    else .next (s.acceptRead head dpa queued copies)

/-- READ_LINE_ARRIVAL (10 R240, 09 R217, R231). -/
def execReadLineArrival (rid : Nat) (src : ReadSrc) (errors : Errors) (sensed : Option StoredLine) (sq : SenseStatus) (s : State) : Res :=
  match s.readOf rid with
  | none => .next s
  | some r =>
    if !r.waiting.contains src || r.outcome.isSome then .next s
    else match src with
      | .own => .next (s.ownArrival rid r errors sensed sq)
      | .stripe p => .next (s.stripeArrival rid r p errors sensed sq)
      | _ => .next (s.nodeArrival rid r src errors sensed sq)

/-- LOOKUP_RESPONSE_HOLD_EXPIRY (05 R119). -/
def execLookupResponseHoldExpiry (rid : Nat) (s : State) : Res := .next (s.modRead rid fun r => { r with holding := false })

/-! ## Merge -/

/-- The entries that preceded a read, the older first. -/
def LineEnts.entries (l : LineEnts) : List Entry := l.drain.toList ++ l.opened.toList

/-- The newest entry that preceded a read is FULL: the response is the buffer's, whatever the medium gives (R127). -/
def LineEnts.covers (l : LineEnts) : Bool := match l.entries.getLast? with
  | some e => e.full
  | none => false

/-- The line after the preceding buffer entries: poison class and data (R127). -/
def mergeRead (o : LineOutcome) (l : LineEnts) : LineOutcome :=
  l.entries.foldl (fun acc e =>
    if e.lost then .poison (some .media)
    else if e.full then (if e.poison then .poison (some .media) else .data e.data)
    else match acc with
      | .poison c => .poison c
      | .zero => if e.poison then .poison (some .media) else .data (mergeBytes e.be 0 e.data)
      | .data d => if e.poison then .poison (some .media) else .data (mergeBytes e.be d e.data)) o

/-- The code of a class (R109). -/
def classCode : Cls → Nat
  | .media => 1
  | .integrity => 2
  | .dirtyShutdown => 3

/-- The read waits: an earlier read of its line from its head is unanswered, or a preceding entry's mirror write, pending at its probe, has
not finished (R119, R127). A write of the same line that entered later, or finished earlier, holds it no longer. -/
def State.mergeWaits (s : State) (r : ReadS) : Bool :=
  (s.rdp.reads.any fun e => e.2.head == r.head && e.2.line == r.line && decide (e.2.order < r.order))
    || (match r.probe.opened, (s.lineEnts r.line).opened with
      | some e, some now => decide (e.state = .pending ∧ now.state = .pending ∧ now.first = e.first ∧ now.acked < e.order)
      | _, _ => false)

/-- The group of a read's line, or a group that its degraded nodes lie in, is degraded, so that the figure of 380 ns applies (R133). -/
def State.healthyRead (s : State) (r : ReadS) : Bool :=
  !r.degraded && !r.reconstructed && !s.degraded (rowOfAddr r.place.1 / 16)

/-- The response leaves: counts, latency, the record of a poisoned line (R73, R109, R115, R124, R134). -/
def State.respondRead (r : ReadS) (o : LineOutcome) (latency : Nat) (s : State) : State :=
  let dpa := r.line * 64
  let bad := match o with
    | .poison _ => true
    | _ => false
  let data := match o with
    | .data d => d
    | _ => 0
  let late := decide (250 < latency) && (s.boundStatus r.head).getLsbD 31 && s.healthyRead r
  let s := s.modHead r.head fun d =>
    { d.measured latency with poisoned := d.poisoned + bit bad, excursions := d.excursions + bit late }
  let s := (s.countTraffic r.head 2 64).emit (.readResponse r.head dpa bad data)
  match o with
  | .poison (some c) =>
    (s.cxlEvent r.head (.mediaEvent r.head dpa c)).headEvent (s.headsOf (extentOf dpa)) 1 0x3FF (payload32 (be 8 dpa ++ be 1 (classCode c)))
  | _ => s

/-- What follows a failure that reached the response: in normal service viral for an integrity failure, the poison
entry, and for a tract in STATE 3 the alarm; the poison of a line that could not be rebuilt stays with it (R75, R118, R131, R232, R233). -/
def State.afterFailure (r : ReadS) (o : LineOutcome) (s : State) : State :=
  if o = .poison (some .integrity) ∧ r.mode = .normal then
    let s := if r.pts.isEmpty then s.alarm .normal (r.line * 64) else s
    let s := s.signalViral r.head
    if r.tagFail then s.poisonLine r.line else s
  else if r.keepPoison ∧ o = .poison (some .media) then s.poisonLine r.line
  else s

/-- The read's outcome at the merge: the buffer's alone where the newest preceding entry is FULL, so that a media fetch not yet finished is
discarded; else the decided one merged (R127). -/
def ReadS.final (r : ReadS) : Option LineOutcome :=
  if r.probe.covers then some (mergeRead .zero r.probe) else r.outcome.map fun o => mergeRead o r.probe

/-- LINE_ORDER_POINT_MERGE (05 R127). -/
def execLineOrderPointMerge (rid latency : Nat) (s : State) : Res :=
  match s.readOf rid with
  | none => .next s
  | some r =>
    match r.final with
    | none => .next s
    | some final =>
      if r.holding || s.mergeWaits r then .next s
      else
        let s := if r.outcome.isSome then s else s.decided rid final
        let s := s.modRdp fun x => { x with reads := x.reads.filter fun e => e.1 != rid }
        let s := s.modHead r.head fun d => { d with inflight := d.inflight - 1 }
        .next (if r.discard then s else (s.respondRead r final latency).afterFailure r final)

end Sys2Proof.Machine
end

