-- ==== Sys2Proof/Machine/Mailbox.lean ====
section
/-! DEFINITION. Mailbox commands: when one runs and how it returns (04 R104–R109, 18 R424). -/

namespace Sys2Proof.Machine

/-- Return codes of the mailbox. -/
def mbSuccess : Nat := 0
def mbInvalid : Nat := 1
def mbUnsupported : Nat := 2
def mbBusy : Nat := 3

/-- A mailbox command's return, with vector 0 (03 R86). -/
def State.mbReturn (h opcode ret : Nat) (payload : List Byte) (s : State) : State := (s.emit (.mailbox h opcode ret payload)).msix h 0

/-- Run a mailbox command of a head whose link is up, while CD0 is powered (03 R67); while Cox is absent it is not started and its doorbell stays set (R424). -/
def mailboxed (h : Nat) (c : Instr) (op : State → State) (s : State) : State :=
  if !s.linkUp h || !s.domainOn 0 then s
  else if s.coxUp then op s
  else if (s.head h).doorbell.isSome then s
  else s.modHead h fun d => { d with doorbell := some c }

/-- Opcode of the standard commands and of the Aflar ones (R104). -/
def opSetShutdown : Nat := 0x4204
def opGetShutdown : Nat := 0x4203
def opPoisonList : Nat := 0x4300
def opSanitize : Nat := 0x4400
def opSecureErase : Nat := 0x4401
def opCapacityResponse : Nat := 0x4802
def opCapacityRelease : Nat := 0x4803
def opCapacityList : Nat := 0x4801
def opHealthInfo : Nat := 0x4200
def opObjectRead : Nat := 0xC000
def opObjectWrite : Nat := 0xC001
def opSetHint : Nat := 0xC010
def opExtentState : Nat := 0xC011

end Sys2Proof.Machine
end

