-- ==== Sys2Proof/Machine/Write.lean ====
section
/-! DEFINITION. Host writes, Global Persistent Flush, shutdown state (06 R135–R139, R150, R151). -/

namespace Sys2Proof.Machine

/-- The line has an open entry, or its pair a free slot for one (R137). -/
def State.slotFor? (s : State) (key : Nat) : Bool :=
  (s.lineEnts key).opened.isSome || decide ((s.slotsOf (pairOfTract (key / 16384))).length < 131072)

/-- The Global Persistent Flush DVSEC of every function: Phase 2 duration in ns, Phase 2 power in mW (R150). -/
def gpfDvsec : Nat × Nat := (1000, 0)

/-- A host write: viral heads apply nothing, a stray one completes and is discarded, else it enters the buffer (R76, R96, R135). No
write is admitted in review (R417). -/
def State.hostWrite (h dpa kind : Nat) (p : Put) (s : State) : State :=
  if !s.takes h || decide (s.str.review ≠ 0) || !s.slotFor? (lineOf dpa) then s
  else
    let s := (s.countTraffic h 1 1).countTraffic h 3 64
    if (s.head h).viral then s
    else if !s.serves h dpa then
      (s.strayAccess h dpa kind).modHead h (fun d =>
        { d with writesDone := d.writesDone + 1, partials := if kind = 2 then d.partials + 1 else d.partials })
        |>.emit (.completion h (dpa / 64 * 64))
    else
      let s := s.modRdp fun x =>
        { x with counts := [nth x.counts 0 + 1, nth x.counts 1, nth x.counts 2 + 1, nth x.counts 3] }
      ((s.modHead h fun d => { d with inflight := d.inflight + 1 }).enter (lineOf dpa) p).sealMore

/-- MEMWR (06 R135, R138, R139; poison 03 R74). -/
def execMemwr (head dpa : Nat) (data : Line) (poison : Bool) (s : State) : Res :=
  .next (s.hostWrite head dpa 1
    { head := head, full := true, poison := poison, be := BitVec.allOnes 64, data := data, owed := [{ head := head }] })

/-- MEMWRPTL (06 R135, R138, R139): with every byte enabled it is a full-line write, all 64 bytes in one request (00 R12). -/
def execMemwrptl (head dpa : Nat) (be : ByteEn) (data : Line) (poison : Bool) (s : State) : Res :=
  .next (s.hostWrite head dpa 2
    { head := head, full := decide (be = BitVec.allOnes 64), poison := poison, be := be, data := data, owed := [{ head := head, partl := true }] })

/-- A staging part takes no writes: it is out, and its content is not being restored (R158, R159). -/
def State.memberOut (s : State) (n : Nat) : Bool := s.partOut n && !s.stg.restoring.contains n

/-- MIRROR_WRITE_ACK (06 R138, R154, R158): the open entry becomes Dirty, SINGLE where a member is out, and its completions are sent
unless a seal record must list its tract first. -/
def execMirrorWriteAck (key latency : Nat) (s : State) : Res :=
  let l := s.lineEnts key
  match l.opened with
  | none => .next s
  | some e =>
    if e.state ≠ .pending then .next s
    else
      let pair := pairOfTract (key / 16384)
      let single := s.memberOut pair || s.memberOut (pair + 8)
      let e' := { e with state := .dirty, single := single, acked := e.order, owed := if e.sealing then e.owed else [] }
      let s := s.modWb fun w => { w with ents := Tab.set {} w.ents key { l with opened := some e' } }
      .next (if e.sealing then s else s.complete key latency e.owed)

/-- GPF_PHASE_1 (06 R150). -/
def execGpfPhase1 (head : Nat) (s : State) : Res := .next (s.when (s.linkUp head) (State.emit (.gpfResponse head 1)))

/-- GPF_PHASE_2 (06 R150): every write whose completion was sent has reached its pair already. -/
def execGpfPhase2 (head : Nat) (s : State) : Res := .next (s.when (s.linkUp head) (State.emit (.gpfResponse head 2)))

/-- Set Shutdown State (R151): 0 clean, 1 dirty. -/
def State.setShutdown (head value : Nat) (s : State) : State :=
  if 1 < value then s.mbReturn head opSetShutdown mbInvalid []
  else ((s.modWb fun w => { w with hostShutdown := value }).storeWrite 84).mbReturn head opSetShutdown mbSuccess []

/-- SET_SHUTDOWN_STATE (06 R151). -/
def execSetShutdownState (head value : Nat) (s : State) : Res :=
  .next (mailboxed head (.setShutdownState head value) (State.setShutdown head value) s)

/-- Get Shutdown State (R151). -/
def State.getShutdown (head : Nat) (s : State) : State :=
  s.mbReturn head opGetShutdown mbSuccess (be 1 s.wb.hostShutdown)

/-- GET_SHUTDOWN_STATE (06 R151). -/
def execGetShutdownState (head : Nat) (s : State) : Res :=
  .next (mailboxed head (.getShutdownState head) (State.getShutdown head) s)

end Sys2Proof.Machine
end

