-- ==== Sys2Proof/Machine/Drain.lean ====
section
/-! DEFINITION. Drain units: eligibility, the new contents of a stripe row, node entries, programs, completion (06 R140–R149, 09
R212, R213, R228, R229). -/

namespace Sys2Proof.Machine

/-- A node entry's mirror waits until its primary has drained (R229). -/
def State.primaryDone (s : State) (e : Entry) : Bool :=
  e.mirrorOf == 0 || decide ((s.lineEnts (e.mirrorOf - 1)).count = 0)

/-- The clocks that the drain of a tract needs run: core, staging, and that of its channel group (01 R28). -/
def State.drainRuns (s : State) (tract : Nat) : Bool := s.channelClock (rowOfPt (s.readPt tract) / 16 * 9)

/-- A tract whose entries can be drained at all: its STATE is Mapped or Zero (R235) and its clocks run (R280). -/
def State.drainable (s : State) (t : Nat) : Bool :=
  (decide ((s.entry t).state = .mapped) || decide ((s.entry t).state = .zero)) && s.drainRuns t

/-- The tract may be drained now: it is not migrating, and the durable ledger lists it (R140). -/
def State.tractDrains (s : State) (t : Nat) : Bool := s.wb.durable.contains t && (s.running t).isNone && s.drainable t

/-- An entry is eligible for drain (R140, R229). -/
def State.eligible (s : State) (key : Nat) (l : LineEnts) : Bool :=
  match l.opened with
  | none => false
  | some e =>
    decide (e.state = .dirty) && l.drain.isNone && s.tractDrains (key / 16384)
      && (!isNodeKey key || ((e.aged || s.wb.flushing) && s.primaryDone e))

/-- Eligible entries of a stripe row of a tract. -/
def State.rowEntries (s : State) (t row : Nat) : List (Nat × Entry) :=
  (s.wb.ents.filter fun e => decide (e.1 / 16384 = t) && decide (e.1 % 16384 / 32 = row)
    && s.eligible e.1 e.2).filterMap fun e => e.2.opened.map fun x => (e.1, x)

/-- All 32 lines of a row are present in FULL entries (R141). -/
def rowFull (l : List (Nat × Entry)) : Bool := decide (l.length = 32) && l.all fun e => e.2.full

/-- The place of a row in the order of selection: its class (1 full, 2 past the delay, 3 in a flush), SINGLE entries ahead, the oldest
first; none while it is not due (R141, R158). -/
def rowRank (flushing : Bool) (l : List (Nat × Entry)) : Option (Nat × Nat × Nat) :=
  let single := bit !(l.any fun e => e.2.single)
  let age := l.foldl (fun m e => min m e.2.first) (2 ^ 64)
  if l.isEmpty then none
  else if rowFull l then some (1, single, 0)
  else if l.any fun e => e.2.aged then some (2, single, age)
  else if flushing then some (3, single, age)
  else none

/-- One rank goes before another. -/
def rankBefore (a b : Nat × Nat × Nat) : Bool :=
  decide (a.1 < b.1) || (a.1 == b.1 && (decide (a.2.1 < b.2.1) || (a.2.1 == b.2.1 && decide (a.2.2 < b.2.2))))

/-- What a line of a row becomes. -/
structure NewLine where
  line : StoredLine := {}
  /-- Its old content failed its tag. -/
  failed : Bool := false
  deriving DecidableEq, Repr

/-- A failing line of a row can be rebuilt: no other granule of the row is lost, and no other line at its place fails (10 R246). -/
def State.rebuildable (s : State) (pt row : Nat) (fs : List Finding) (f : Finding) : Bool :=
  !((stripe pt row).any fun a => posOf a != f.position && s.lostAt a)
    && !(fs.any fun x => decide (8 ≤ x.errors) && x.line == f.line && x.position != f.position)

/-- The nodes that a line of a reserve tract holds: the level and index of each, and its half for an L3 line (R221, R223). -/
def State.nodesOfLine (s : State) (t line : Nat) : List (Nat × Nat × Option Nat) :=
  let home := (t - logicalTracts) / 0x8000
  let j := (t - logicalTracts) % 0x8000
  let owner := fun (n : NodeKind) (b : Nat) =>
    let (off, jb, size, q) := n.table
    ((s.tractAt ((home + 64 - off) % 64 * 262144 + (j - jb) * q + b / size)).map fun x => (x, b % size / 64)).toList
  let up := fun (level per : Nat) (n : NodeKind) =>
    (owner n (line * 64)).map fun x => (level, x.1 * per + x.2, (none : Option Nat))
  if j < 4096 then up 0 256 .block
  else if j < 4608 then up 1 32 .l1
  else if j < 5120 then up 1 32 .l1m
  else if j < 5184 then up 2 4 .l2
  else if j < 5248 then up 2 4 .l2m
  else if j < 5256 then [0, 1].flatMap fun h => (owner .l3 (line * 64 + 32 * h)).map fun x => (3, x.1 / 2, some (2 * h + x.1 % 2))
  else []

/-- A line as stored verifies: a user line by its tag, a node by its parent's MAC; a system line by its own check (10 R240). -/
def State.lineVerifies (s : State) (a k : Nat) : Bool :=
  let l := granLine (s.image a) k
  match s.tractAt (ptOfAddr a), dataIndex a with
  | some t, some g =>
    if t < logicalTracts then
      let n := t * 16384 + g * 4 + k
      match s.decideLine (s.block (n / 64)) n l with
      | .tagFail => false
      | _ => true
    else (s.nodesOfLine t (g * 4 + k)).all fun x => match x.2.2 with
      | none => s.nodeOk x.1 x.2.1 l.ct
      | some h => s.nodeOk x.1 x.2.1 (mergeBytes (halfBe (h % 2)) (s.node x.1 x.2.1) (halfAt l.ct (h / 2) (h % 2)))
  | _, _ => false

/-- A failing line can be used: rebuilt, or flagged at 8 bits and verifying as corrected (10 R240). -/
def State.usable (s : State) (pt row : Nat) (fs : List Finding) (f : Finding) : Bool :=
  s.rebuildable pt row fs f || (f.errors == 8 && s.lineVerifies (atPosition pt row f.position) f.line)

/-- A line of a row as an engine gets it that senses the row: as stored or corrected, rebuilt, or lost (R143, 10 R240). -/
def State.senseLine (s : State) (pt row : Nat) (fs : List Finding) (a k : Nat) : Option StoredLine :=
  match fs.find? fun f => decide (8 ≤ f.errors) && f.position == posOf a && f.line == k with
  | some f =>
    if s.rebuildable pt row fs f then s.lineAt a k
    else if f.errors = 8 ∧ s.lineVerifies a k then some (granLine (s.image a) k) else none
  | none => s.lineAt a k

/-- Findings of an engine that senses a row: what the die reported is counted, lines at the rewrite threshold are queued, each line that
failed is reported rebuilt or lost by its die (07 R166, 10 R242, R243). -/
def State.reportFound (pt row : Nat) (fs : List Finding) (s : State) : State :=
  forEach fs (fun f => fun t =>
    let a := atPosition pt row f.position
    let t := (t.sqSeen a f.sq).when (decide (s.cfg 0x3300 0 ≤ f.errors ∧ f.errors ≤ 7)) (State.queueRewrite a)
    if 8 ≤ f.errors then t.report (dieOf a) (if s.rebuildable pt row fs f then 0x10 else 0x11) (some (granOf a)) else t) s

/-- The plain content under a line and whether it is poisoned or has failed its tag, for a merge (R143): bytes, poison, failed. -/
def State.under (s : State) (n : Nat) (cur : Option StoredLine) : Line × Bool × Bool :=
  match cur with
  | none => (0, true, false)
  | some l =>
    let b := s.block (n / 64)
    let r := s.regionOf n
    match s.decideLine b n l with
    | .zero => (0, false, false)
    | .data d => (d, false, false)
    | .poison =>
      (if l.blank then 0 else l.ct ^^^ keystream r (s.genOf r b.kg) n b.major (b.minor (n % 64)), true, false)
    | .tagFail => (0, true, true)

/-- The new stored line n of a logical tract under the new major and minor: an entry's line, a carried line, or a line of a blank
granule stored as zeros (R142, R143, R212, R213). -/
def State.newLine (s : State) (n major minor : Nat) (e : Option Entry) (cur : Option StoredLine) (overflow : Bool) : NewLine :=
  let b := s.block (n / 64)
  let r := s.regionOf n
  let g := s.genOf r b.kg
  match e with
  | some e =>
    if e.lost then { line := sealLine r g n major minor 0 true }
    else if e.full then { line := sealLine r g n major minor e.data e.poison }
    else
      let u := s.under n cur
      { line := sealLine r g n major minor (mergeBytes e.be u.1 e.data) (e.poison || u.2.1), failed := u.2.2 }
  | none =>
    if b.minor (n % 64) = 0 then { line := sealLine r g n major minor 0 b.pz }
    else if overflow then
      let u := s.under n cur
      { line := sealLine r g n major minor u.1 u.2.1, failed := u.2.2 }
    else { line := cur.getD lostLine }

/-- The new line of a reserve tract: integrity and system lines are stored as they are (R216, R228). -/
def newNodeLine (e : Option Entry) (cur : Option StoredLine) : NewLine :=
  let old := match cur with
    | some l => if l.blank then 0 else l.ct
    | none => 0
  match e with
  | some e => { line := plainLine (if e.full then e.data else mergeBytes e.be old e.data) }
  | none => { line := plainLine old }

/-- A re-admitted unit's granule that the rebuild has not passed (R144). -/
def State.readmitted (s : State) (a : Nat) : Bool := s.lostAt a && !s.dieOut (dieOf a) && !s.badGranule a

/-- What a drain writes in a stripe row: data granule d's new lines where it is changed; the parity over all eight positions, or by
difference where `diff`; the granules that are programmed (R142, R144). `full`: the line has a FULL entry.
With one lost unit, re-admitted, every granule is programmed. With two, of which one is re-admitted, its granule takes the lines with a
FULL entry and stores every other with poison, and a fenced one counts as poisoned. With two fenced, each lost granule counts as zero. -/
def State.rowImages (s : State) (t pt row : Nat) (diff : Bool) (changed : Nat → Bool) (full : Nat → Nat → Bool)
    (new : Nat → Nat → StoredLine) : List (Nat × Granule) :=
  let lost := (stripe pt row).filter s.lostAt
  let two := decide (2 ≤ lost.length)
  let back := lost.any s.readmitted
  let filler : StoredLine := if back then lostLine else {}
  let addr := fun d => placeGranule pt (row * 8 + d)
  let content := fun (d k : Nat) =>
    let a := addr d
    if two && s.readmitted a then (if changed d && full d k then new d k else lostLine)
    else if two && s.lostAt a then filler
    else if changed d then new d k
    else (s.lineAt a k).getD filler
  let programmed := (List.range 8).filter fun d =>
    if s.lostAt (addr d) then s.readmitted (addr d) else changed d || (back && !two)
  let data := programmed.map fun d => (addr d, granuleOf (s.headerFor (addr d) t 0) (content d))
  let par := parityAddr pt row
  let old := fun (d k : Nat) => (s.lineAt (addr d) k).getD {}
  let parity := fun (k : Nat) =>
    if diff && lost.isEmpty then
      xorLines (granLine (s.image par) k :: ((List.range 8).filter changed).flatMap fun d => [old d k, content d k])
    else xorLines ((List.range 8).map fun d => content d k)
  data ++ (if s.lostAt par && !s.readmitted par then [] else [(par, granuleOf (s.headerFor par t 0) parity)])

/-- The method of a row (R142). -/
def methodOf (es : List (Nat × Entry)) (changed : Nat) : DrainMethod :=
  if es.length = 32 ∧ es.all (fun e => e.2.full) then .fullStripe else if changed ≤ 4 then .readModifyWrite else .reconstructWrite

/-- The slot of a pair's counters for a method. -/
def methodSlot : DrainMethod → Nat
  | .fullStripe => 2
  | .readModifyWrite => 3
  | .reconstructWrite => 4

/-- The entry of a key among a row's. -/
def entryIn (es : List (Nat × Entry)) (key : Nat) : Option Entry := (es.find? fun e => e.1 == key).map Prod.snd

/-- Start the unit: its entries become Draining and its images are registered in the in-program table (R138). -/
def State.startUnit (t row : Nat) (es : List (Nat × Entry)) (images : List (Nat × Granule)) (m : DrainMethod) (nodes : List Nat)
    (mode : Mode) (s : State) : State :=
  let u : DrainUnit :=
    { id := s.wb.nextUnit, pair := pairOfTract t, tract := t, row := row, method := m, keys := es.map Prod.fst
      images := images, left := images.map Prod.fst, nodes := nodes, mode := mode }
  let s := s.modWb fun w =>
    { w with
      nextUnit := w.nextUnit + 1, units := w.units ++ [u]
      inProgram := images.foldl (fun acc i => Tab.insert acc i.1 i.2) w.inProgram
      ents := es.foldl (fun acc e => Tab.set {} acc e.1 { opened := none, drain := some { e.2 with state := .draining } }) w.ents }
  s.pairCount (pairOfTract t) (methodSlot m)

/-- The rows that a unit writes. -/
def DrainUnit.rows (u : DrainUnit) : List Nat := (u.row :: u.images.map fun i => stripeRow i.1).dedup

/-- A row already has a drain unit, or an engine's program of one of its granules has not finished (R141, R248). -/
def State.rowBusy (s : State) (t row : Nat) : Bool :=
  (s.wb.units.any fun u => u.tract == t && u.rows.contains row) || s.rowInProgram (s.entry t).pt row

/-- Lines that the drain of a row senses: none by the full-stripe method, the changed granules and the parity by read-modify-write, the
eight data granules otherwise (R142); they count as senses of the tract (08 R193). -/
def drainSenses (m : DrainMethod) (changed : Nat) : Nat :=
  match m with
  | .fullStripe => 0
  | .readModifyWrite => 4 * (changed + 1)
  | .reconstructWrite => 32

/-- Entries whose data are lost are drained with persistent poison, a C3 of the part that held them (R160). -/
def State.lostEntries (es : List (Nat × Entry)) (s : State) : State :=
  forEach (es.filter fun e => e.2.lost) (fun e => State.report (srcPart (pairOfTract (e.1 / 16384))) 0x33 none) s

/-- A span that holds no written line takes the key generation in force before its first line is encrypted, the new one while a re-key of
its region runs. DESIGN CHOICE: the spec sets KG with a fresh block and at a re-key only, and a re-key skips such a span
(notes/assumptions/68.md). -/
def State.takeKey (i0 : Nat) (s : State) : State :=
  let b := s.block i0
  let r := (s.extent (i0 / 65536)).region
  let g := (s.region r).gen + bit (s.itg.rekeyState == 1 && s.itg.rekeyRegion == r)
  if b.minors = 0 then s.modItg fun x => { x with blocks := Tab.set {} x.blocks i0 { b with kg := decide (g % 2 = 1) } } else s

/-- Drain a row of a logical tract: counters, ciphertext, tree, node entries (R212, R213, R228). -/
def State.drainData (t row : Nat) (es : List (Nat × Entry)) (fs : List Finding) (s : State) : State :=
  let s := if (s.entry t).state = .zero then s.putEntry t (fun e => { e with state := .mapped }) else s
  let mode := s.modeNow
  let pt := (s.entry t).pt
  let i0 := t * 256 + row / 2
  let s := s.takeKey i0
  let b := s.block i0
  let wraps := es.any fun e => decide (127 ≤ b.minor (e.1 % 64))
  let changed := fun (r d : Nat) =>
    if r = row then (List.range 4).any (fun k => (entryIn es (t * 16384 + r * 32 + d * 4 + k)).isSome) || (wraps
        && (List.range 4).any fun k => decide (b.minor (r % 2 * 32 + d * 4 + k) ≠ 0))
    else wraps && (List.range 4).any fun k => decide (b.minor (r % 2 * 32 + d * 4 + k) ≠ 0)
  let major := if wraps then b.major + 1 else b.major
  let minorOf := fun (m : Nat) =>
    let r := row / 2 * 2 + m / 32
    let ch := changed r (m % 32 / 4)
    if wraps then (if b.minor m ≠ 0 ∨ (entryIn es (i0 * 64 + m)).isSome then 1 else if ch then 1 else 0)
    else if (entryIn es (i0 * 64 + m)).isSome then b.minor m + 1
    else if ch && b.minor m == 0 then 1 else b.minor m
  let rows := if wraps then [row / 2 * 2, row / 2 * 2 + 1] else [row]
  let cur := fun (r d k : Nat) =>
    let a := placeGranule pt (r * 8 + d)
    if r = row then s.senseLine pt r fs a k else s.lineAt a k
  let at' := fun (r d k : Nat) =>
    let n := t * 16384 + r * 32 + d * 4 + k
    s.newLine n major (minorOf (n % 64)) (entryIn es n) (cur r d k) wraps
  let count := ((List.range 8).filter (changed row)).length
  let method := if wraps then .fullStripe else methodOf es count
  let full := fun (r d k : Nat) => match entryIn es (t * 16384 + r * 32 + d * 4 + k) with
    | some e => e.full
    | none => false
  let images := rows.flatMap fun r =>
    s.rowImages t pt r (decide (method = .readModifyWrite)) (changed r) (full r) fun d k => (at' r d k).line
  let failed := rows.flatMap fun r => (List.range 32).filterMap fun m =>
    if changed r (m / 4) && (at' r (m / 4) (m % 4)).failed then some (t * 16384 + r * 32 + m) else none
  let b' := (List.range 64).foldl (fun acc m => CounterBlock.setMinor acc m (minorOf m)) { b with major := major }
  let s := ((s.reportFound pt row fs).lostEntries es).countSenses (placeGranule pt (row * 8)) (drainSenses method count)
  let s := forEach failed (fun n => fun s => s.countTagFail.alarm mode (n * 64)) s
  let s := if wraps then (s.modItg fun x => { x with overflows := x.overflows + 1, counts := modNth x.counts 4 (· + 1) }).usedMajor major
    else s
  let s := ((s.setBlock i0 b').nodeEntries t i0)
  s.startUnit t row es images method (nodeKeysOf pt i0) mode

/-- The logical tracts that own the bytes of a node line of a reserve tract (R221): of an L3 line, by half. -/
def State.ownersOf (s : State) (t line : Nat) : List Nat :=
  let home := (t - logicalTracts) / 0x8000
  let j := (t - logicalTracts) % 0x8000
  let owner := fun (off jb size q : Nat) (b : Nat) =>
    s.tractAt ((home + 64 - off) % 64 * 262144 + (j - jb) * q + b / size)
  if j < 4096 then (owner 16 0 16384 64 (line * 64)).toList
  else if 5248 ≤ j ∧ j < 5256 then [line * 64, line * 64 + 32].flatMap fun b => (owner 8 5248 32 32768 b).toList
  else []

/-- Both tracts of a tract's L3 node. -/
def nodePair (t : Nat) : List Nat := [t / 2 * 2, t / 2 * 2 + 1]

/-- The other half under a partial entry cannot be produced: both tracts of the node whose half it was are lost (R228, R231). -/
def State.halfLost (key : Nat) (e : Entry) (s : State) : State :=
  let l := ((s.ownersOf (key / 16384) (key % 16384)).filter fun x => x + 1 != e.onBehalf).flatMap nodePair
  if l.isEmpty then s else s.loseTracts l s.modeNow (l.headD 0 * 2 ^ 20)

/-- Drain a row of a reserve tract: no counters, no node entries. -/
def State.drainNodes (t row : Nat) (es : List (Nat × Entry)) (fs : List Finding) (s : State) : State :=
  let pt := (s.entry t).pt
  let changed := fun (d : Nat) => (List.range 4).any fun k => (entryIn es (t * 16384 + row * 32 + d * 4 + k)).isSome
  let method := methodOf es ((List.range 8).filter changed).length
  let full := fun (d k : Nat) => match entryIn es (t * 16384 + row * 32 + d * 4 + k) with
    | some e => e.full
    | none => false
  let images := s.rowImages t pt row (decide (method = .readModifyWrite)) changed full fun d k =>
    (newNodeLine (entryIn es (t * 16384 + row * 32 + d * 4 + k)) (s.senseLine pt row fs (placeGranule pt (row * 8 + d)) k)).line
  let half := es.filter fun e =>
    !e.2.full && (s.senseLine pt row fs (placeGranule pt (e.1 % 16384 / 4)) (e.1 % 4)).isNone
  let s := forEach half (fun e => State.halfLost e.1 e.2) ((s.reportFound pt row fs).lostEntries es)
  s.startUnit t row es images method [] s.modeNow

/-- A drain of the row would take a minor past 127, so that it writes both rows of the span (R213). -/
def State.rowWraps (s : State) (t : Nat) (es : List (Nat × Entry)) : Bool :=
  decide (t < logicalTracts) && es.any fun e => decide (127 ≤ (s.block (e.1 / 64)).minor (e.1 % 64))

/-- The rows of a pair that hold eligible entries and have no unit. -/
def State.openRows (s : State) (pair : Nat) : List (Nat × Nat) :=
  (((s.wb.ents.filter fun e => pairOfTract (e.1 / 16384) == pair && s.eligible e.1 e.2).map fun e =>
    (e.1 / 16384, e.1 % 16384 / 32)).dedup).filter fun r => !s.rowBusy r.1 r.2

/-- The flush has come to its third step: its seal record is durable, the mirror writes and the units of before it are done (R155). -/
def State.flushDrains (s : State) : Bool :=
  !s.sealWriting && s.wb.units.all (fun u => decide (s.wb.flushFrom ≤ u.id))
    && !(s.wb.ents.any fun e => !isNodeKey e.1 && e.2.opened.any fun x => decide (x.state = .pending))

/-- The row is the next of its pair in the order of R141: no other open row goes before it. -/
def State.rowNext (s : State) (pair tract row : Nat) : Bool :=
  match rowRank s.wb.flushing (s.rowEntries tract row) with
  | none => false
  | some k => !((s.openRows pair).any fun r => match rowRank s.wb.flushing (s.rowEntries r.1 r.2) with
    | some k' => rankBefore k' k
    | none => false)

/-- A node recovered after a MAC mismatch: counted, and the alarm raised (R231). -/
def State.nodeRecovered (dpa : Nat) (s : State) : State :=
  (s.modItg fun x => { x with recovered := x.recovered + 1 }).alarm s.modeNow dpa

/-- What the check of a tract's counter path leads to before a unit's programs (R228, R231, R236): the unit goes on, or it is abandoned,
its tract being lost and its entries staying Dirty. -/
def State.pathChecked (tree : TreeFind) (tract dpa : Nat) (unit : State → State) (s : State) : State :=
  match tree with
  | .verified => unit s
  | .recovered => unit (s.nodeRecovered dpa)
  | .unrecoverable => s.loseTracts [tract] s.modeNow dpa

/-- DRAIN_UNIT_SELECT (06 R141, R155, 09 R228). In a flush a migration not yet sealed is abandoned first (08 R199). -/
def execDrainUnitSelect (pair tract row : Nat) (findings : List Finding) (tree : TreeFind) (s : State) : Res :=
  if pairOfTract tract ≠ pair ∨ !tractNamed tract ∨ s.rowBusy tract row ∨ !s.drainRuns tract ∨ (s.wb.flushing ∧ !s.flushDrains) then .next s
  else
    let s' := match s.running tract with
      | some m => if s.wb.flushing && (m.early) then s.abandon tract true false else s
      | none => s
    let es := s'.rowEntries tract row
    if !s'.rowNext pair tract row ∨ (s'.rowWraps tract es ∧ s'.rowBusy tract (row / 2 * 2 + (1 - row % 2))) then .next s
    else if tract < logicalTracts then
      .next (s'.pathChecked tree tract (tract * 2 ^ 20 + row * 2048) (State.drainData tract row es findings))
    else .next (s'.drainNodes tract row es findings)

/-- A drain unit by its number. -/
def State.unitOf (s : State) (id : Nat) : Option DrainUnit := s.wb.units.find? fun u => u.id == id

/-- The node entries of a unit have all been acknowledged (R228 step 5). -/
def State.nodesAcked (s : State) (u : DrainUnit) : Bool :=
  u.nodes.all fun k => match (s.lineEnts k).opened with
    | some e => decide (e.state ≠ .pending)
    | none => true

/-- DRAIN_PROGRAMS_START (09 R228, 05 R128): the programs of the registered images are requested; a granule whose die has been fenced
since the selection is left out, its row then being degraded (R144, R160). -/
def execDrainProgramsStart (unit : Nat) (s : State) : Res :=
  match s.unitOf unit with
  | none => .next s
  | some u =>
    if u.started || !s.nodesAcked u || !s.drainRuns u.tract then .next s
    else
      let s := s.modWb fun w =>
        { w with
          units := w.units.map fun x => if x.id = unit then { x with started := true } else x
          counts := modNth w.counts (u.pair * 8 + 5) (· + u.images.length) }
      .next (forEach u.images (fun i => fun s =>
        if s.dieOut (dieOf i.1) then s.unitDone unit i.1
        else s.addJob { engine := .drain, target := i.1, image := i.2, unit := unit }) s)

/-- Rows that the drain has written on a re-admitted unit beyond the rebuild's cursor are marked, while the table has room (R248). -/
def State.markRow (pt row : Nat) (s : State) : State :=
  let g := rowOfPt pt / 16
  let key := rowOfPt pt * 2 ^ 27 + inRow pt * 512 + row
  let r := s.rebuild g
  let tracts := (r.touched.map fun k => k / 512).dedup
  if (stripe pt row).any s.readmitted && (tracts.contains (key / 512) || decide (tracts.length < 16384)) then
    s.modRebuild g fun r => { r with touched := insertSorted key r.touched }
  else s

/-- Extents that still hold a span to do. -/
def rekeyExtentsLeft (l : List Nat) : Nat := (l.map fun i => i / 65536).dedup.length

/-- The last span is done: the new generation is recorded, the old key erased, the ticket Done (R210). -/
def State.rekeyFinish (s : State) : State :=
  if s.itg.rekeyState = 1 ∧ s.itg.rekeyLeft = [] then
    let r := s.itg.rekeyRegion
    let s := (s.modRegion r fun x => { x with gen := x.gen + 1, keyed := true }).storeWrite 86
    let s := s.modItg fun x => { x with rekeyState := 2, rekeyExtents := [nth x.rekeyExtents 1, nth x.rekeyExtents 1] }
    s.ticketDone s.itg.rekeySlot 0 []
  else s

/-- A span of the running re-key is done (R210). -/
def State.spanDone (i0 : Nat) (s : State) : State :=
  (s.modItg fun x =>
    let l := x.rekeyLeft.filter fun j => j != i0
    { x with rekeyLeft := l, rekeyExtents := [nth x.rekeyExtents 1 - rekeyExtentsLeft l, nth x.rekeyExtents 1] }).rekeyFinish

/-- A unit's slots are freed: its entries leave, its images too (R145); one with no entries was that of a re-key span. -/
def State.finishUnit (u : DrainUnit) (s : State) : State :=
  let pt := (s.entry u.tract).pt
  let s := forEach (u.images.map fun i => stripeRow i.1).dedup (State.markRow pt) s
  let s := s.modWb fun w =>
    { w with
      units := w.units.filter fun x => x.id != u.id
      inProgram := u.images.foldl (fun acc i => Tab.erase acc i.1) w.inProgram
      ents := u.keys.foldl (fun acc k => Tab.mod {} acc k fun l => { l with drain := none }) w.ents }
  (s.when u.keys.isEmpty (State.spanDone (u.tract * 256 + u.row / 2))).dirtySync.bufferSync

/-- The bad-granule table's latest entry is still being written to the parameter store (07 R180). -/
def State.badTableDue (s : State) : Bool := s.par.queue.any fun w => w.page % 256 == 82

/-- DRAIN_UNIT_COMPLETE (06 R145, 07 R180). -/
def execDrainUnitComplete (unit : Nat) (s : State) : Res :=
  match s.unitOf unit with
  | none => .next s
  | some u => if u.started && u.left.isEmpty && !s.badTableDue then .next (s.finishUnit u) else .next s

/-- STARVATION_THRESHOLD (06 R149): once per unit. DESIGN CHOICE: of several unfinished programs, the die of the first granule that the
unit still waits for reports, or the die of its row's parity granule where none is left (notes/assumptions/67.md). -/
def execStarvationThreshold (unit : Nat) (s : State) : Res :=
  match s.unitOf unit with
  | none => .next s
  | some u =>
    if u.starved then .next s
    else
      let s := s.modWb fun w =>
        { w with
          starvedCount := w.starvedCount + 1
          units := w.units.map fun x => if x.id = unit then { x with starved := true } else x }
      let a := match u.left with
        | a :: _ => a
        | [] => parityAddr (s.entry u.tract).pt u.row
      .next (s.report (dieOf a) 0x14 (some (granOf a)))

/-- An open entry grows old. -/
def State.ageEntry (key : Nat) (s : State) : State :=
  s.modWb fun w => { w with ents := Tab.mod {} w.ents key fun l => { l with opened := l.opened.map fun e => { e with aged := true } } }

/-- COALESCING_DELAY_EXPIRY (06 R141). -/
def execCoalescingDelayExpiry (key : Nat) (s : State) : Res := .next (if isNodeKey key then s else s.ageEntry key)

/-- NODE_HOLD_EXPIRY (09 R229). -/
def execNodeHoldExpiry (key : Nat) (s : State) : Res := .next (if isNodeKey key then s.ageEntry key else s)

end Sys2Proof.Machine
end

