-- ==== Sys2Proof/Machine/Ledger.lean ====
section
/-! DEFINITION. The dirty-tract ledger and input dips (06 R152–R155). -/

namespace Sys2Proof.Machine

/-- The set after a record. -/
def applyRec (set : List Nat) (r : LedgerRec) : List Nat :=
  if r.kind = 2 then r.added
  else if r.kind = 4 then []
  else insertAll r.added (set.filter fun t => !r.removed.contains t)

/-- The dirty set that a replay of records gives: a record that fails its CRC ends it; a full-set record that fails is passed over, since
the records after the previous one cover every change (R153). -/
def replay (l : List LedgerRec) : List Nat :=
  ((l.filter fun r => r.whole || r.kind != 2).takeWhile fun r => r.whole).foldl applyRec []

/-- Insert a record in order of sequence. -/
def insertRec (r : LedgerRec) : List LedgerRec → List LedgerRec
  | [] => [r]
  | x :: l => if r.seq < x.seq then r :: x :: l else x :: insertRec r l

/-- A record becomes durable: what a replay now reads; a full set replaces the records before it. -/
def State.recDurable (r : LedgerRec) (s : State) : State :=
  s.modWb fun w =>
    let l := if r.kind = 2 then r :: w.ledger.filter fun x => decide (r.seq < x.seq) else insertRec r w.ledger
    { w with writing := w.writing.filter fun x => x.seq != r.seq, ledger := l, durable := replay l, durableSeq := max w.durableSeq r.seq }

/-- LEDGER_DELTA (06 R153): only where the set has changed since the previous delta or seal record. -/
def execLedgerDelta (s : State) : Res :=
  if !s.coreOn || decide (s.wb.dirty = s.wb.lastListed) then .next s
  else
    let added := s.wb.dirty.filter fun t => !s.wb.lastListed.contains t
    let removed := s.wb.lastListed.filter fun t => !s.wb.dirty.contains t
    .next ((s.startRec 1 added removed).modWb fun w => { w with lastListed := w.dirty })

/-- LEDGER_FULL_SET (06 R153). -/
def execLedgerFullSet (s : State) : Res := if s.coreOn then .next (s.startRec 2 s.wb.dirty []) else .next s

/-- LEDGER_RECORD_DURABLE (06 R153). -/
def execLedgerRecordDurable (seq : Nat) (s : State) : Res :=
  match s.wb.writing.find? fun r => r.seq == seq && (r.kind == 1 || r.kind == 2) with
  | some r => .next (s.recDurable r)
  | none => .next s

/-- INPUT_DIP (06 R154): RwD credit stops and the first seal starts. -/
def execInputDip (s : State) : Res :=
  if s.pwr.dip || !s.pwr.switchClosed then .next s
  else
    let s := s.modPwr fun p => { p with dip := true }
    if s.coreOn then .next ((s.modWb fun w => { w with dipHeld := true }).creditSync).startSeal else .next s

/-- A held entry whose tract is now durable is released, its completions sent once its mirror write is done (R154). -/
def State.unseal (s : State) : State :=
  let mine := s.wb.ents.filter fun e => (match e.2.opened with | some x => x.sealing | none => false)
    && s.wb.durable.contains (e.1 / 16384)
  forEach mine (fun e => fun s =>
    match e.2.opened with
    | none => s
    | some x =>
      let x' := if x.state = .pending then { x with sealing := false } else { x with sealing := false, owed := [] }
      let s := s.modWb fun w => { w with ents := Tab.set {} w.ents e.1 { e.2 with opened := some x' } }
      if x.state = .pending then s else s.complete e.1 0 x.owed) s

/-- The dip has ended and the last seal is durable: credit resumes (R154). -/
def State.dipEnd (s : State) : State :=
  if s.wb.dipHeld && !s.pwr.dip && !s.sealWriting then
    (s.modWb fun w => { w with dipHeld := false }).creditSync
  else s

/-- SEAL_RECORD_DURABLE (06 R154). -/
def execSealRecordDurable (seq : Nat) (s : State) : Res :=
  match s.wb.writing.find? fun r => r.seq == seq && r.kind == 3 with
  | none => .next s
  | some r =>
    let s := (s.recDurable r).unseal
    .next s.sealMore.dipEnd

/-- INPUT_DIP_RECOVERED (06 R154, 02 R39): counted as a short dip, an input event (11 R265; notes/assumptions/46.md); credit resumes
after the last seal. -/
def execInputDipRecovered (s : State) : Res :=
  if s.pwr.dip then
    .next (((s.modPwr fun p => { p with dip := false, shortDips := p.shortDips + 1 }).report 0x2BA 0x61 none).dipEnd)
  else .next s

/-- The flush-complete record empties the set (R153, R155, R156). -/
def State.flushRecord (s : State) : State :=
  s.modWb fun w =>
    { w with
      ledger := [s.newRec 4 [] []], durableSeq := w.ledgerSeq, ledgerSeq := (w.ledgerSeq + 1) % 2 ^ 32
      ledgerNext := (w.ledgerNext + 1) % ledgerGranules
      writing := [], durable := [], dirty := [], lastListed := [] }

end Sys2Proof.Machine
end

