-- ==== Sys2Proof/Machine/Copy.lean ====
section
/-! DEFINITION. The copy of a migrating tract: its rows, its nodes, its seal, a tract with nothing to copy (08 R197–R199, 09 R222). -/

namespace Sys2Proof.Machine

/-- Change a tract's migration. -/
def State.modMig (t : Nat) (f : Migration → Migration) (s : State) : State :=
  s.modTrc fun x => { x with migs := x.migs.map fun m => if m.tract = t then f m else m }

/-- A source data granule is blank as the module can read it. -/
def State.blankAt (s : State) (a : Nat) : Bool :=
  if s.lostAt a then (List.range 4).all fun k => match s.rebuildLine a k with
    | some l => l.blank
    | none => false
  else (s.image a).blank

/-- The last data granule of a tract that is not blank, none when every one is (R198). -/
def State.sealIndex (s : State) (pt : Nat) : Option Nat :=
  (List.range 4096).reverse.find? fun g => !s.blankAt (placeGranule pt g)

/-- A source line's place among those a migration could not read. -/
def lostKey (a k : Nat) : Nat := stripeRow a * 36 + posOf a * 4 + k

/-- The content of a source data granule as it is copied: ciphertext, tags and poison as they are; a line that could not be read has its
poison bit set (R198). -/
def State.copied (s : State) (m : Migration) (g : Nat) (sealBit : Bool) : Granule :=
  let a := placeGranule m.src g
  granuleOf { tract := m.tract, gran := g, gen := m.gen, epoch := s.epochNow, sealed := sealBit, kind := kindOf m.tract, writer := 1 }
    fun k =>
      if m.lost.contains (lostKey a k) ∧ ¬ s.lostAt a then { granLine (s.image a) k with poison := true }
      else (s.lineAt a k).getD lostLine

/-- The images of a copied stripe row: parity first, then every data granule that is not blank but the seal granule (R198). -/
def State.copyRow (s : State) (m : Migration) (row : Nat) (sealG : Nat) : List (Nat × Granule) :=
  let written := (List.range 8).filter fun d => !s.blankAt (placeGranule m.src (row * 8 + d))
  if written.isEmpty then [] else
  let img := fun d => s.copied m (row * 8 + d) false
  let par := granuleOf
    { tract := m.tract, gran := row, gen := m.gen, epoch := s.epochNow, parity := true, kind := kindOf m.tract, writer := 1 }
    fun k => xorLines (written.map fun d => granLine (img d) k)
  (parityAddr m.dst row, par)
    :: (written.filter fun d => sealG ≠ row * 8 + d).map fun d => (placeGranule m.dst (row * 8 + d), img d)

/-- An engine asks for the programs that give a node's line new content, with its row's parity. -/
def State.writeNode (owner key : Nat) (l : StoredLine) (s : State) : State :=
  let (a, k) := s.locate key
  s.requestAll .migration owner (s.lineImages a k (key / 16384) 1 l)

/-- Every node of a tract with its kind, place and newest content (R221). -/
def State.nodesOf (s : State) (t : Nat) : List (NodeKind × Nat × Line) :=
  ((List.range 256).map fun k => (.block, k, s.node 0 (t * 256 + k)))
    ++ ((List.range 32).flatMap fun k => [(.l1, k, s.node 1 (t * 32 + k)), (.l1m, k, s.node 1 (t * 32 + k))])
    ++ ((List.range 4).flatMap fun k => [(.l2, k, s.node 2 (t * 4 + k)), (.l2m, k, s.node 2 (t * 4 + k))])

/-- The nodes of a migrating tract are written at the destination's positions (R222). -/
def State.moveNodes (m : Migration) (s : State) : State :=
  if logicalTracts ≤ m.tract then s else
  let s := forEach (s.nodesOf m.tract) (fun n => State.writeNode m.tract (nodeKey m.dst n.1 n.2.1) (plainLine n.2.2)) s
  let key := nodeKey m.dst .l3 0
  let h := (nodeAt m.dst .l3 0).2 % 64 / 32
  let (a, k) := s.locate key
  s.writeNode m.tract key (plainLine (mergeBytes (halfBe h) (granLine (s.image a) k).ct (halfAt (s.node 3 (m.tract / 2)) (m.tract % 2) h)))

/-- A stripe row at the destination's node positions has a program in progress, so that the nodes wait (notes/assumptions/59.md). -/
def State.nodesBusy (s : State) (m : Migration) : Bool :=
  decide (m.tract < logicalTracts) && ((s.nodesOf m.tract).map (fun n => nodeKey m.dst n.1 n.2.1) ++ [nodeKey m.dst .l3 0]).any fun key =>
    let a := (s.locate key).1
    s.rowInProgram (ptOfAddr a) (stripeRow a)

/-- A tract's placement is now its destination: its activity starts anew (R193, R197). -/
def State.placed (m : Migration) (s : State) : State :=
  (s.zeroReads m.tract).modActivity m.tract fun a => { a with occ := 0, gen := m.gen }

/-- Count a completed migration (0x3100.08). -/
def State.countMig (cause : Nat) (s : State) : State :=
  s.modTrc fun x => { x with completed := modNth x.completed (cause - 1) (· + 1) }

/-- A wholly blank tract needs no copy: its entry changes through the checkpoint (R198). -/
def State.moveBlank (m : Migration) (s : State) : State :=
  let s := s.modTrc fun x => { x with migs := x.migs.filter fun y => y.tract != m.tract }
  let s := s.putEntry m.tract fun e => { e with mig := false, badg := false, pt := m.dst }
  ((s.placed m).countMig m.cause).giveUpPt m.src false

/-- A migration whose rows and nodes have all been programmed and verified: the seal granule is asked for, and it is Sealing (R197); with
nothing to copy, the entry changes (R198). -/
def State.copyEnds (m : Migration) (s : State) : State :=
  if m.state = .copying ∧ m.cursor = 512 ∧ ¬ s.engineWorks .migration m.tract then
    match s.sealIndex m.src with
    | none => s.moveBlank m
    | some g =>
      (s.modMig m.tract fun m => { m with state := .sealing }).request .migration m.tract (placeGranule m.dst g) (s.copied m g true)
  else s

/-- Migrations whose copy has come to its end go on. -/
def State.migSync (s : State) : State := forEach s.trc.migs State.copyEnds s

end Sys2Proof.Machine
end

