-- ==== Sys2Proof/Machine/Media.lean ====
section
/-! DEFINITION. The channel bus commands, the plane's events and the channels' training (07 R163–R183, R445). -/

namespace Sys2Proof.Machine

/-- The controller may drive the die: its channel is active and neither is out of service (R182, R445), and its clocks run (R28). -/
def State.busOk (s : State) (ch die : Nat) : Bool :=
  decide ((s.channel ch).state = 2) && !s.dieOut (ch * 16 + die) && s.channelClock ch

/-- The controller may drive the die with TRIM: in the training of a core start, on a die in service; in the probe of the die or of its
channel (R169, R182, R445). -/
def State.trimOk (s : State) (ch die : Nat) : Bool :=
  decide ((s.unit (ch * 16 + die)).state = .probing)
    || (decide ((s.unit (srcChannel ch)).state = .probing) && !s.isOut (ch * 16 + die))
    || (decide ((s.channel ch).state = 1) && !s.dieOut (ch * 16 + die))

/-- Count a channel command: 0 SENSE, 1 ESENSE, 2 HSENSE, 3 PROG, 4 CLRSEG; lines moved on DQ. -/
def State.busCount (ch k lines : Nat) (s : State) : State :=
  s.modChannel ch fun c => { c with cmds := modNth c.cmds k (· + 1), lines := c.lines + lines }

/-- Plane key of a plane of a die. -/
def planeKey (ch die plane : Nat) : Nat := (ch * 16 + die) * 4 + plane

/-- A unit's probe is in progress: its own, or that of its channel (R183). -/
def State.probedDie (s : State) (ch die : Nat) : Bool :=
  decide ((s.unit (ch * 16 + die)).state = .probing) || decide ((s.unit (srcChannel ch)).state = .probing)

/-- A sensed line leaves on DQ, MQ and SQ: counted on its die, for its tract, and for what SQ reports (R169). -/
def State.sensed (ch die granule line : Nat) (sq : SenseStatus) (s : State) : State :=
  let a := granAddr ch die granule
  let l := granLine (s.granule a) line
  let s := ((s.modDie (ch * 16 + die) fun d => { d with senses := d.senses + 1 }).countSense a).sqSeen a sq
  s.emit (.sensedLine ch die granule line l (lineEcc l) sq)

/-- The plane can be sensed: no operation holds it (R174, R176). -/
def PlaneS.senses? (p : PlaneS) : Bool := decide (p.state = .idle) || decide (p.state = .sensing)

/-- SENSE (07 R169, R174): in a slot, the line as the cells hold it. A slot that no read of the plane holds yet is taken. -/
def execSense (ch die granule line slot : Nat) (sq : SenseStatus) (s : State) : Res :=
  let a := granAddr ch die granule
  if s.busOk ch die && (s.plane (planeOf a)).senses? && decide (slot < 16) then
    let s := (s.busCount ch 0 1).modPlane (planeOf a) fun p =>
      if slot < p.slots ∨ 16 ≤ p.slots then p else { p with state := .sensing, senses := p.senses ++ [0] }
    .next (s.sensed ch die granule line sq)
  else .next s

/-- An engine sense may start on a plane: within the engine slot limit, while no requester waits for a grant; at a limit of 0 only while
no other sense is in progress (R174). -/
def State.engineSlot (s : State) (k : Nat) : Bool :=
  let p := s.plane k
  let limit := s.cfg 0x3000 7
  p.senses? && p.jobs.isEmpty
    && (if limit = 0 then p.slots == 0 else decide (p.engineSenses < limit) && decide (p.slots < 16))

/-- An engine sense takes its slot. -/
def State.takeEngineSlot (k : Nat) (s : State) : State :=
  s.modPlane k fun p => { p with state := .sensing, engineSenses := p.engineSenses + 1 }

/-- ESENSE (07 R169, R174). -/
def execEsense (ch die granule line : Nat) (sq : SenseStatus) (s : State) : Res :=
  let k := planeOf (granAddr ch die granule)
  if s.busOk ch die && s.engineSlot k then
    .next (((s.busCount ch 1 1).takeEngineSlot k).sensed ch die granule line sq)
  else .next s

/-- HSENSE (07 R164, R169): an engine sense of the header and its check bits, or BLANK. -/
def execHsense (ch die granule : Nat) (s : State) : Res :=
  let a := granAddr ch die granule
  let k := planeOf a
  if s.busOk ch die && s.engineSlot k then
    let g := s.granule a
    .next ((((s.busCount ch 2 0).takeEngineSlot k).countSense a).emit
      (.sensedHeader ch die granule (if g.blank then none else some (headerWord g.hdr))))
  else .next s

/-- LOAD (07 R163, R169): the plane's program buffer keeps the image until the next load. -/
def execLoad (ch die plane : Nat) (image : Granule) (s : State) : Res :=
  if s.busOk ch die then
    .next ((s.modChannel ch fun c => { c with lines := c.lines + 4 }).modPlane (planeKey ch die plane) fun p => { p with buffer := image })
  else .next s

/-- PROG (07 R169, R176, R181): the granted program of the granule starts from the plane buffer. -/
def execProg (ch die granule : Nat) (s : State) : Res :=
  let a := granAddr ch die granule
  let p := s.plane (planeOf a)
  match p.op with
  | some j =>
    if s.busOk ch die && decide (p.state = .granted) && !j.clear && j.target == a && decide (p.result ≠ 3) && decide (p.buffer = j.image)
        && (p.room || s.hasRoom j) && decide (Tab.rd 0 s.med.clearing (sectorOf a) = 0) then
      let s := ((s.busCount ch 3 0).unreserve (planeOf a)).modMed fun m => { m with governor := m.governor + 1 }
      .next (s.modPlane (planeOf a) fun p => { p with result := 3 })
    else .next s
  | none => .next s

/-- CLRSEG (07 R169, R179): the granted clear segment starts; each of its 16 granules counts one wear cycle. -/
def execClrseg (ch die sector segment : Nat) (s : State) : Res :=
  let a := granAddr ch die (sector * 256 + segment * 16)
  let p := s.plane (planeOf a)
  match p.op with
  | some j =>
    if s.busOk ch die && decide (p.state = .granted) && j.clear && j.target == a && decide (p.result ≠ 3) && (p.room || s.hasRoom j) then
      let s := ((s.busCount ch 4 0).unreserve (planeOf a)).modMed fun m => { m with governor := m.governor + 2 }
      let s := forEach (range' a 16) State.wear s
      .next (s.modPlane (planeOf a) fun p => { p with result := 3 })
    else .next s
  | none => .next s

/-- STATUS (07 R169): the result of each plane. -/
def execStatus (ch die : Nat) (s : State) : Res :=
  if s.busOk ch die then
    .next (s.emit (.channelResult ch die ((List.range 4).map fun p => (s.plane (planeKey ch die p)).result)))
  else .next s

/-- TRIM (07 R169): in start-up and probes only; what a die register holds is a free value. -/
def execTrim (ch die reg : Nat) (s : State) : Res :=
  if s.trimOk ch die then
    let d := s.draw
    .next (d.2.emit (.channelResult ch die [reg, Config.freeNat d.1]))
  else .next s

/-- ABORT goes to the plane (R169): a granted plane is now aborting. -/
def State.abortPlane (k : Nat) (s : State) : State :=
  s.modPlane k fun p => if p.state = .granted then { p with state := .aborting, abortRepeated := false } else p

/-- ABORT (07 R169). -/
def execAbort (ch die plane : Nat) (s : State) : Res :=
  if s.busOk ch die then .next (s.abortPlane (planeKey ch die plane)) else .next s

/-- CHECK (07 R176, R178): a read has waited for its threshold at a granted plane; the check is counted. -/
def execCheck (ch die plane : Nat) (s : State) : Res :=
  let k := planeKey ch die plane
  let p := s.plane k
  if decide (p.state = .granted) && !p.waiting.isEmpty then
    let s := (s.abortPlane k).modPlane k fun p => { p with checks := p.checks + 1 }
    let s := s.modChannel ch fun c => { c with checks := c.checks + 1 }
    .next (s.modMed fun m => { m with checks := m.checks + 1 })
  else .next s

/-- The revoked operation costs wear where its reset had begun, and its owner asks again at its rank (R178, R179), ahead of its other
jobs. -/
def State.revoke (k : Nat) (j : Job) (begun : Bool) (s : State) : State :=
  let d := k / 4
  let running := decide ((s.plane k).result = 3)
  let s := if running then s.release j else s.unreserve k
  let s := if begun && running then
      let s := s.cutOff j
      (s.modDie d fun x => { x with checksWear := x.checksWear + 1 }).modMed fun m => { m with checksWear := m.checksWear + 1 }
    else s
  let again := j.engine == .drain || j.clear || s.med.work.contains (j.engine, j.owner, j.target)
  s.modPlane k fun p => { p with op := none, jobs := if again then j :: p.jobs else p.jobs, result := 1, burst := 0 }

/-- ABORT_REPORT (07 R176, R178, R179): waiting reads take slots. -/
def execAbortReport (ch die plane : Nat) (complete resetBegun : Bool) (s : State) : Res :=
  let k := planeKey ch die plane
  let p := s.plane k
  if p.state ≠ .aborting then .next s
  else match p.op with
    | none => .next ((s.modPlane k fun p => ({ p with state := .idle }).seat).grant k)
    | some j =>
      let s := if complete && decide (p.result = 3) then (s.opComplete k).modPlane k fun p => { p with op := none }
        else s.revoke k j resetBegun
      let s := s.modPlane k fun p => ({ p with state := .idle }).seat
      .next ((s.grant k).grantIdle).migSync

/-- A sense ends: its slot frees, waiting reads take it, else the plane may be granted (R176). DESIGN CHOICE: the row names no sense; the
latency-bound sense that began first is the one that ends, and an engine's only where no read senses (notes/assumptions/61.md). -/
def State.senseEnds (k : Nat) (s : State) : State :=
  let p := s.plane k
  if p.slots = 0 then s else
  (s.modPlane k fun p =>
    (if p.senses.isEmpty then { p with engineSenses := p.engineSenses - 1 } else { p with senses := p.senses.drop 1 }).seat).grant k

/-- A verify has failed: retried once, then the granule is bad and its row completes without it (R180). -/
def State.verifyFailed (k : Nat) (j : Job) (s : State) : State :=
  let s := s.wear j.target
  if j.retried then
    let s := (s.release j).modPlane k fun p => { p with result := 2 }
    let s := ((s.destroy j.target).listBad j.target).programDone j
    (if j.engine = .migration ∧ (s.running j.owner).any (fun m => m.early && m.dst == ptOfAddr j.target) then
      s.abandonFor 1 j.owner else s).nextOp k
  else s.modPlane k fun p => { p with op := some { j with retried := true } }

/-- PLANE_OPERATION_END (07 R176, R180). -/
def execPlaneOperationEnd (ch die plane : Nat) (result : OpResult) (s : State) : Res :=
  let k := planeKey ch die plane
  let p := s.plane k
  match result with
  | .senseEnd => .next (if p.state = .sensing then s.senseEnds k else s)
  | .done =>
    if p.state = .granted ∧ p.result = 3 then .next (((s.opComplete k).nextOp k).grantIdle).migSync else .next s
  | .verifyFail =>
    match p.op with
    | some j =>
      if p.state = .granted ∧ p.result = 3 ∧ ¬ j.clear then .next ((s.verifyFailed k j).grantIdle).migSync else .next s
    | none => .next s

/-- An engine's sense is abandoned: its slot frees, the failure counts for the die (R171). -/
def State.engineAbandoned (ch die granule : Nat) (s : State) : State :=
  let k := planeOf (granAddr ch die granule)
  if (s.plane k).engineSenses = 0 then s
  else
    let s := (s.noAnswer (ch * 16 + die)).modPlane k fun p => ({ p with engineSenses := p.engineSenses - 1 }).seat
    s.grant k

/-- A line that a read waits for does not come: a reconstructed read (R171). -/
def State.lineAbsent (rid : Nat) (src : ReadSrc) (s : State) : State :=
  match s.readOf rid with
  | none => s
  | some r =>
    match src with
    | .own => (s.modRead rid fun r => { r with waiting := r.waiting.filter fun x => decide (x ≠ .own) }).reconstruct rid
    | .stripe _ => s.cannotRebuild rid
    | _ => s.nodeRetry rid r src false

/-- SENSE_TIMEOUT (07 R171). -/
def execSenseTimeout (sense : TimedSense) (s : State) : Res :=
  match sense with
  | .read rid src =>
    match s.readOf rid with
    | none => .next s
    | some r =>
      if !r.waiting.contains src then .next s
      else .next ((s.noAnswer (dieOf (r.srcAt src).1)).lineAbsent rid src)
  | .engine ch die granule => .next (s.engineAbandoned ch die granule)
  | .header ch die granule => .next (s.engineAbandoned ch die granule)

/-- A read that waited at a plane becomes a reconstructed read (R171). -/
def State.waitedRead (k rid : Nat) (s : State) : State :=
  match s.readOf rid with
  | none => s
  | some r =>
    match r.waiting.find? fun src => planeOf (r.srcAt src).1 == k with
    | some src => s.lineAbsent rid src
    | none => s

/-- ABORT_TIMEOUT (07 R171): issued once more, every waiting read reconstructed; unanswered again, the die is not responding. -/
def execAbortTimeout (ch die plane : Nat) (s : State) : Res :=
  let k := planeKey ch die plane
  let p := s.plane k
  if p.state ≠ .aborting then .next s
  else if p.abortRepeated then .next (s.report (ch * 16 + die) 0x16 none)
  else
    let s := s.modPlane k fun p => { p with abortRepeated := true, waiting := [] }
    .next (forEach (p.waiting.map Prod.fst) (State.waitedRead k) (s.noAnswer (ch * 16 + die)))

/-- PROGRAM_STATUS_TIMEOUT (07 R171): issued once more, its owner as after a check. DESIGN CHOICE: a second loss of the same operation's
result is handled as the first, the count of failures to answer ending it at three within 1 s (notes/assumptions/62.md). -/
def execProgramStatusTimeout (ch die plane : Nat) (s : State) : Res :=
  let k := planeKey ch die plane
  let p := s.plane k
  match p.op with
  | some j =>
    if p.state = .granted ∧ p.result = 3 then
      let s := (s.noAnswer (ch * 16 + die)).revoke k { j with reissued := true } true
      let s := s.modPlane k fun p => ({ p with state := .idle }).seat
      .next ((s.grant k).grantIdle)
    else .next s
  | none => .next s

/-- COMMAND_PARITY_ERROR (07 R170). -/
def execCommandParityError (ch die : Nat) (rid : Option Nat) (s : State) : Res :=
  if s.busOk ch die || s.trimOk ch die then
    let s := s.modChannel ch fun c => { c with parity := c.parity + 1 }
    match rid with
    | some r => .next (s.markReconstructed r)
    | none => .next s
  else .next s

/-- CHANNEL_TIMING_ERROR (07 R173): above a quarter beat it is a C1 message. -/
def execChannelTimingError (ch : Nat) (thousandths : Int) (s : State) : Res :=
  if (s.channel ch).state = 2 then
    let s := s.modChannel ch fun c => { c with timing := if c.timing.natAbs < thousandths.natAbs then thousandths else c.timing }
    .next (if 250 < thousandths.natAbs then s.report (srcChannel ch) 0x20 none else s)
  else .next s

/-- CHANNEL_TRAINING_TIMEOUT (07 R445). -/
def execChannelTrainingTimeout (ch : Nat) (s : State) : Res :=
  if (s.channel ch).state = 1 then .next (s.report (srcChannel ch) 0x22 none) else .next s

end Sys2Proof.Machine
end

