-- ==== Sys2Proof/Machine/Tract.lean ====
section
/-! DEFINITION. The translation engine's commands: migrations, wear, heat, refresh, re-establishment (08 R190–R202, 09 R222, R235). -/

namespace Sys2Proof.Machine

/-- An entry of the tract is Draining. -/
def State.drains (s : State) (t : Nat) : Bool := s.wb.ents.any fun e => e.1 / 16384 == t && e.2.drain.isSome

/-- The migration is the next of the queue (R196): no earlier cause, nor an older one of its cause, could start. -/
def State.nextMig (s : State) (m : Migration) : Bool :=
  !((s.trc.migs.takeWhile fun x => decide (x ≠ m)).any fun x => decide (x.state = .queued ∧ x.cause = m.cause) && !s.drains x.tract)
    && !(s.trc.migs.any fun x => decide (x.state = .queued ∧ x.cause < m.cause) && !s.drains x.tract)

/-- A descriptor is free (R196). -/
def State.migRoom (s : State) (cause : Nat) : Bool :=
  decide (s.migsRunning < s.cfg 0x3100 6 + (if cause = 1 then 8 else 0))

/-- MIGRATION_START (08 R197): the destination is chosen and MIG set. None starts at T2 or above (R199). -/
def execMigrationStart (tract : Nat) (s : State) : Res :=
  match s.trc.migs.find? fun m => m.tract == tract && decide (m.state = .queued) with
  | none => .next s
  | some m =>
    if s.migRoom m.cause && !s.drains tract && s.nextMig m && decide (s.thm.level < 2) && !s.isOut 0x298
        && (m.cause == 1 || decide ((s.entry tract).state = .mapped)) then
      match s.destination tract with
      | none => .next s
      | some dst =>
        let gen := if m.gen = 0 then (s.activity tract).gen + 1 else m.gen
        let s := s.modMig tract fun m => { m with state := .copying, src := (s.entry tract).pt, dst := dst, gen := gen, cursor := 0 }
        let s := s.modTrc fun x => { x with lastRow := rowOfPt dst }
        .next (s.modEntry tract fun e => { e with mig := true })
    else .next s

/-- MIGRATION_ROW_COPY (08 R198): the row at the cursor is sensed and its destination row asked for; with the last, the nodes are. The
rows after that of the seal granule are blank. A line that fails and cannot be rebuilt is copied with poison. -/
def execMigrationRowCopy (tract : Nat) (findings : List Finding) (s : State) : Res :=
  match s.running tract with
  | none => .next s
  | some m =>
    if m.state ≠ .copying ∨ m.cursor = 512 ∨ s.isOut 0x298 ∨ s.nodesBusy m then .next s
    else
      let failed := findings.filter fun f => decide (8 ≤ f.errors) && !s.usable m.src m.cursor findings f
      let m := { m with lost := m.lost ++ failed.map fun f => lostKey (atPosition m.src m.cursor f.position) f.line }
      let s := s.modMig tract fun _ => m
      match s.sealIndex m.src with
      | none => .next ((s.moveNodes m).modMig tract fun m => { m with cursor := 512 }).migSync
      | some g =>
        let images := s.copyRow m m.cursor g
        let s := (s.reportFound m.src m.cursor findings).countSenses (placeGranule m.src (m.cursor * 8)) 32
        let s := ((s.requestAll .migration tract images).engineCount 0 0 1).engineCount 0 1 8
        if g / 8 ≤ m.cursor then .next ((s.moveNodes m).modMig tract fun m => { m with cursor := 512 }).migSync
        else .next (s.modMig tract fun m => { m with cursor := m.cursor + 1 })

/-- Open node entries at the positions of a physical tract are discarded (R222). -/
def State.dropNodesAt (t pt : Nat) (s : State) : State :=
  let keys := ((List.range 256).map fun k => nodeKey pt .block k) ++ ((List.range 32).flatMap fun k => [nodeKey pt .l1 k, nodeKey pt .l1m k])
    ++ ((List.range 4).flatMap fun k => [nodeKey pt .l2 k, nodeKey pt .l2m k]) ++ [nodeKey pt .l3 0]
  let mine := (s.wb.ents.filter fun e => keys.contains e.1 && (match e.2.opened with
    | some x => x.onBehalf == t + 1
    | none => false)).map Prod.fst
  s.modWb fun w => { w with ents := mine.foldl (fun acc k => Tab.mod {} acc k fun l => { l with opened := none }) w.ents }

/-- SEAL_VERIFIED (08 R197, 05 R128): the seal granule's program has been verified, and reads go to the destination. -/
def execSealVerified (tract : Nat) (s : State) : Res :=
  match s.running tract with
  | none => .next s
  | some m =>
    if m.state ≠ .sealing ∨ s.engineWorks .migration tract then .next s
    else .next (((s.modMig tract fun m => { m with state := .sealed }).dropNodesAt tract m.src).dirtySync).bufferSync

/-- A system reserve tract, which the system directory names (R184, R188). -/
def systemTract (t : Nat) : Bool := decide (logicalTracts ≤ t ∧ 5256 ≤ (t - logicalTracts) % 0x8000)

/-- The directory record that names a system tract is rewritten with its physical tract (R188). -/
def State.putDirectory (t pt : Nat) (s : State) : State :=
  (s.modTrc fun x => { x with directory := Tab.put (fun u => (shipEntry u).pt) x.directory t pt }).storeWrite 83

/-- SOURCE_READS_DRAINED (05 R129, 08 R197); of a system tract the directory record is rewritten before the clear (R188). -/
def execSourceReadsDrained (tract : Nat) (s : State) : Res :=
  match s.running tract with
  | none => .next s
  | some m =>
    if m.state = .sealed ∧ Tab.rd 0 s.trc.readsOn m.src = 0 then
      .next (((s.modMig tract fun m => { m with state := .clearing }).when (systemTract tract) (State.putDirectory tract m.dst)).startClear m.src)
    else .next s

/-- The largest estimated count of a physical tract's granules in an epoch; the estimator reports at most 2 % more than the true count,
and how much more is a free value (R191). -/
def estimate (n draw : Nat) : Nat := n + Config.freeNat draw % (n / 50 + 1)

/-- Units of PEAK that a physical tract's epoch adds, rounded up (R191). -/
def State.epochUnits (s : State) (pt : Nat) : Nat :=
  let n := (s.trc.epoch.filter fun e => ptOfAddr e.1 == pt).foldl (fun m e => max m e.2) 0
  (estimate n s.free + 2047) / 2048

/-- End the epoch of a physical tract: PEAK and the OCC of its tract grow (R190, R191); at the quantum the tract is queued (R196). -/
def State.endEpoch (pt : Nat) (s : State) : State :=
  let u := s.epochUnits pt
  let s := ((s.raisePeak pt u).modFree fun n => n + 1).modTrc fun x => { x with epoch := x.epoch.filter fun e => ptOfAddr e.1 != pt }
  match s.tractAt pt with
  | some t =>
    if t < logicalTracts then
      let s := s.modActivity t fun a => { a with occ := a.occ + u }
      if s.cfg 0x3100 0 ≤ (s.activity t).occ * 2048 then s.queueMig t 2 else s
    else s
  | none => s

/-- SOURCE_CLEAR_COMPLETE (08 R187, R197): the entry takes the destination, and copy A of the checkpoint is programmed. -/
def execSourceClearComplete (tract : Nat) (s : State) : Res :=
  match s.running tract with
  | none => .next s
  | some m =>
    if m.state = .clearing ∧ s.cleared m.src then
      let s := ((s.endEpoch m.src).modEntry tract fun e => { e with pt := m.dst }).checkpointA tract
      .next ((s.placed m).modMig tract fun m => { m with state := .releasing })
    else .next s

/-- CHECKPOINT_VERIFIED (08 R197): copy B is programmed and verified; MIG clears; the source is free, or retired (R202). -/
def execCheckpointVerified (tract : Nat) (s : State) : Res :=
  match s.running tract with
  | none => .next s
  | some m =>
    if m.state = .releasing then
      let s := (s.checkpointB tract).modTrc fun x => { x with migs := x.migs.filter fun y => y.tract != tract }
      let s := s.modEntry tract fun e => { e with mig := false, badg := false, refr := false }
      .next ((s.countMig m.cause).freeTract m.src false)
    else .next s

/-- Logical tracts in STATE Mapped: their entries are listed, since a tract is shipped Zero. -/
def State.mappedTracts (s : State) : List Nat :=
  (s.trc.map.filter fun e => decide (e.1 < logicalTracts ∧ e.2.state = .mapped)).map Prod.fst

/-- The coldest of a list of tracts, at most `n`, in tract order among equals. -/
def State.coldest (s : State) (l : List Nat) (n : Nat) : List Nat :=
  (l.insertionSort fun a b => (s.activity a).heat ≤ (s.activity b).heat).take n

/-- Levelling (R196): where the spread of PEAK over the occupied physical tracts is exceeded, the coldest tracts on those of the lowest
PEAK are queued, at most ten per second. -/
def State.levelling (s : State) : State :=
  let lo := s.lowPeak
  if s.cfg 0x3100 5 < s.topPeak - lo then
    forEach (s.coldest (s.mappedTracts.filter fun t => s.peakOf (s.entry t).pt == lo) 10) (fun t => State.queueMig t 4) s
  else s

/-- Evacuation (R196): a die row with fewer than 1,024 free physical tracts queues its coldest tracts until it has 2,048. -/
def State.evacuation (s : State) : State :=
  forEach ((List.range 64).filter fun row => decide (s.freeOn row < 1024)) (fun row => fun s =>
    forEach (s.coldest (s.mappedTracts.filter fun t => rowOfPt (s.entry t).pt == row) (2048 - s.freeOn row))
      (fun t => State.queueMig t 5) s) s

/-- WEAR_EPOCH (08 R191, R196). -/
def execWearEpoch (s : State) : Res :=
  let pts := (s.trc.epoch.map fun e => ptOfAddr e.1).dedup
  .next (((forEach pts State.endEpoch s).levelling).evacuation)

/-- The wear table is written back to copy A of the wear checkpoint, then to copy B (R191). -/
def State.wearWriteback (s : State) : State :=
  s.modTrc fun x => { x with peakCkpt := x.peak, peakCkptB := x.peak, baseCkpt := x.peakBase, actCkpt := x.act, actCkptB := x.act }

/-- WEAR_CHECKPOINT_WRITEBACK (08 R191). -/
def execWearCheckpointWriteback (s : State) : Res := .next s.wearWriteback

/-- The heat of a period of n programs (R192). -/
def heatLevel (n : Nat) : Nat := min 31 (Nat.log2 (1 + n / 10))

/-- HEAT_PERIOD (08 R192). -/
def execHeatPeriod (s : State) : Res :=
  .next (forEach (s.trc.act.map Prod.fst) (fun t => State.modActivity t fun a =>
    { a with heat := max (a.heat - 1) (heatLevel a.programs), programs := 0 }) s)

/-- REFR stays while granules of the tract are queued for a rewrite in place (R185). -/
def State.refrSync (t : Nat) (s : State) : State :=
  s.modEntry t fun e => { e with refr := e.refr && s.scr.rewrite.any fun a => ptOfAddr a == e.pt }

/-- A granule is rewritten in place: the same lines, a new EPOCH and WRITER (R200, R242); its image is registered (R128). -/
def State.rewrite (e : Engine) (owner a writer : Nat) (s : State) : State :=
  let g := s.image a
  if g.blank || s.lostAt a then s
  else (s.countSenses a 4).request e owner a { g with hdr := { g.hdr with epoch := s.epochNow, writer := writer } }

/-- Age in units of 65.536 s beyond which the sweep rewrites: the refresh age less one sweep period, two thirds of it (R200). -/
def State.refreshUnits (s : State) : Nat := s.cfg 0x3100 2 * 86400000 * 2 / 3 / 65536

/-- A granule is due: its age, or a report under R166 at its place. -/
def State.refreshDue (s : State) (pt : Nat) (findings : List Finding) (a : Nat) : Bool :=
  decide (s.refreshUnits < s.epochNow - (s.image a).hdr.epoch)
    || findings.any fun f => f.position == posOf a && f.line / 4 == stripeRow a && decide (ptOfAddr a = pt)

/-- The oldest EPOCH that the present sweep meets in the tract's extent (R200). -/
def State.noteOldest (t epoch : Nat) (s : State) : State :=
  s.modExtent (t / 256) fun e => { e with meeting := if e.meeting = 0 then epoch + 1 else min e.meeting (epoch + 1) }

/-- A sweep has ended: what it met in each extent is what R107 reports, and the next one starts (R200). -/
def State.sweepEnds (s : State) : State :=
  s.modExt fun x => { x with extents := Tab.remap {} (fun _ e => { e with oldest := e.meeting, meeting := 0 }) x.extents }

/-- REFRESH_VISIT (08 R200): what the visit finds is counted with its die, and the due granules are rewritten; a granule whose program is in
progress has been rewritten already. Rewriting every granule sets READS to 0 (R193). -/
def execRefreshVisit (pt : Nat) (findings : List Finding) (s : State) : Res :=
  match s.tractAt pt with
  | none => .next s
  | some t =>
    if s.isOut 0x29A || !s.coreOn then .next s
    else
      let all := (List.range 512).flatMap fun row => (stripe pt row).filter fun a => !(s.image a).blank && !s.lostAt a
      let due := all.filter fun a => s.refreshDue pt findings a && (s.registered a).isNone
      let old := all.foldl (fun m a => min m (s.image a).hdr.epoch) s.epochNow
      let s := forEach due (fun a => State.rewrite .refresh pt a 2) s
      let s := (s.engineCount 2 0 1).engineCount 2 1 all.length
      let s := s.modScr fun x => { x with rewrite := x.rewrite.filter fun a => !due.contains a }
      let s := (s.refrSync t).when (decide (t < logicalTracts) && decide (0 < due.length) && decide (due.length = all.length)) (State.zeroReads t)
      let s := s.when (decide (t < logicalTracts) && !all.isEmpty) (State.noteOldest t old)
      let s := s.modTrc fun x => { x with sweep := (x.sweep + 1) % occupiedTracts }
      .next (s.when (decide (s.trc.sweep = 0)) State.sweepEnds)

/-- A tract in STATE 3 re-established: blank, PZ = 1, Mapped (09 R215, R235). -/
def State.reestablish (t : Nat) (s : State) : State :=
  (s.renew t .mapped true).modItg fun x => { x with reestablished := x.reestablished + 1 }

/-- RE_ESTABLISHMENT (09 R235, R236): in data service, once no unit of the tract is Draining. -/
def execReEstablishment (tract : Nat) (s : State) : Res :=
  if tract < logicalTracts ∧ (s.entry tract).state = .integrityLost ∧ s.str.dataReady ∧ ¬ s.drains tract ∧ (s.blankFor tract).isSome then
    .next (s.reestablish tract)
  else .next s

/-- Migrations whose destination lies in a group that loses a unit are abandoned and queued again (R199). -/
def State.fenceMigrations (g : Nat) (s : State) : State :=
  forEach (s.trc.migs.filter fun m => m.early && rowOfPt m.dst / 16 == g) (fun m => State.abandon m.tract true false) s

end Sys2Proof.Machine
end

