-- ==== Sys2Proof/Machine/Integrity.lean ====
section
/-! DEFINITION. Re-keys, debug windows and the judgement of the root (09 R210, R226, R237, R239). -/

namespace Sys2Proof.Machine

/-- The keys of a region that the key store holds: K(r, g), and K(r, g + 1) while its re-key runs (R207, R209). -/
def State.keysHeld (s : State) (r : Nat) : List Config.Key :=
  let g := (s.region r).gen
  if !(s.region r).keyed then []
  else if s.itg.rekeyState = 1 ∧ s.itg.rekeyRegion = r then [regionKey r g, regionKey r (g + 1)] else [regionKey r g]

/-! ## Re-key -/

/-- A counter block of a region whose span holds a written line and is still under the old key (R210). -/
def State.rekeySpans (s : State) (r : Nat) : List Nat :=
  (s.itg.blocks.filter fun e => decide ((s.extent (e.1 / 65536)).region = r) && decide (e.2.minors ≠ 0)
    && decide (bit e.2.kg = (s.region r).gen % 2)).map Prod.fst

/-- Start a re-key (R210): refused with state conflict while one runs, or where the region is unused. -/
def State.rekeyOp (req : Req) (region : Nat) (s : State) : Acc :=
  if 63 < region then s.answer 0x06
  else if s.itg.rekeyState = 1 ∨ (s.region region).mask = 0 then s.answer 0x07
  else if !s.domainOn 3 && s.freeSlot.isSome then s.answer 0x0A
  else s.deferred req 0x3201 0 (fun n => fun s =>
    let spans := s.rekeySpans region
    let s := (s.modItg fun x =>
      { x with rekeyRegion := region, rekeyState := 1, rekeyLeft := spans, rekeySlot := n
               rekeyExtents := [s.extentsOf region - rekeyExtentsLeft spans, s.extentsOf region] }).storeWrite 85
    s.rekeyFinish)

/-- REKEY_REQUEST (09 R210). -/
def execRekeyRequest (req : Req) (region : Nat) (s : State) : Res :=
  accessed s (respondAccess req 0x3201 0 (guarded req 0x3201 0 (State.rekeyOp req region) s))

/-- The findings of a row (0 or 1) of a span. -/
def spanFindings (fs : List Finding) (r : Nat) : List Finding := (fs.filter fun f => f.line / 4 == r).map fun f => { f with line := f.line % 4 }

/-- Rewrite a span under the new key as one drain unit of both its stripe rows: counters unchanged, KG flipped; a line that fails its tag or
cannot be read is stored with persistent poison, a tag failure raising the alarm (R210, R236). -/
def State.rekeyUnit (i0 : Nat) (fs : List Finding) (s : State) : State :=
  let t := i0 / 256
  let pt := (s.entry t).pt
  let b := s.block i0
  let g := (s.region s.itg.rekeyRegion).gen + 1
  let first := i0 % 256 * 2
  let cur := fun (m : Nat) =>
    s.senseLine pt (first + m / 32) (spanFindings fs (m / 32)) (placeGranule pt ((first + m / 32) * 8 + m % 32 / 4)) (m % 4)
  let new := fun (m : Nat) =>
    let u := s.under (i0 * 64 + m) (cur m)
    sealLine s.itg.rekeyRegion g (i0 * 64 + m) b.major (b.minor m) u.1 u.2.1
  let failed := (List.range 64).filter fun m => decide (b.minor m ≠ 0) && (s.under (i0 * 64 + m) (cur m)).2.2
  let changed := fun (row d : Nat) => (List.range 4).any fun k => decide (b.minor (row % 2 * 32 + d * 4 + k) ≠ 0)
  let images := [first, first + 1].flatMap fun row =>
    s.rowImages t pt row false (changed row) (fun _ _ => false) fun d k => new (row % 2 * 32 + d * 4 + k)
  let mode := s.modeNow
  let s := ((s.reportFound pt first (spanFindings fs 0)).reportFound pt (first + 1) (spanFindings fs 1)).countSenses
    (placeGranule pt (first * 8)) 64
  let s := forEach failed (fun m => fun s => s.countTagFail.alarm mode ((i0 * 64 + m) * 64)) s
  ((s.setBlock i0 { b with kg := !b.kg }).nodeEntries t i0).startUnit t first [] images .fullStripe (nodeKeysOf pt i0) mode

/-- A span cannot be rewritten now: one of its rows has a unit or a program in progress, or its tract migrates (R140, R210). -/
def State.spanBusy (s : State) (span : Nat) : Bool :=
  let t := span / 256
  s.rowBusy t (span % 256 * 2) || s.rowBusy t (span % 256 * 2 + 1) || (s.running t).isSome || !s.drainRuns t
    || (s.wb.ents.any fun e => e.1 / 64 == span && e.2.drain.isSome)

/-- REKEY_SPAN (09 R210): a span waits for what its rows have in progress, and for a durable record that lists its tract (06 R152); one that
holds no written line, or already shows the new generation, is skipped. -/
def execRekeySpan (region span : Nat) (findings : List Finding) (tree : TreeFind) (s : State) : Res :=
  let b := s.block span
  if s.itg.rekeyState ≠ 1 ∨ s.itg.rekeyRegion ≠ region ∨ ¬ s.itg.rekeyLeft.contains span ∨ ¬ s.coreOn then .next s
  else if b.minors = 0 ∨ bit b.kg ≠ (s.region region).gen % 2 then .next (s.spanDone span)
  else if s.spanBusy span then .next s
  else if !s.wb.durable.contains (span / 256) then .next (s.dirtyJoin (span / 256))
  else .next (s.pathChecked tree (span / 256) (span * 4096) (State.rekeyUnit span findings))

/-! ## Debug windows -/

/-- Open a window (R239): a line-aligned DPA, 1 B to 256 MiB within the DPA space, 1 to 86,400 s. -/
def State.windowOpen (req : Req) (ww dpa len life : Nat) (s : State) : Acc :=
  if 3 < ww then s.answer 0x02
  else if dpa % 64 ≠ 0 ∨ 2 ^ 28 < len ∨ dpaSize < dpa + len ∨ (len ≠ 0 ∧ (life = 0 ∨ 86400 < life)) then s.answer 0x06
  else if !s.domainOn 3 then s.answer 0x0A
  else
    let s := s.manage 1 req 0 0x3240 ww 0 0 (be 8 dpa ++ be 8 len ++ be 4 life ++ zeros 4)
    let s := s.closeWindow ww
    if len = 0 then s.answer 0
    else
      let s := s.modItg fun x =>
        { x with windows := Tab.set {} x.windows ww { first := dpa, len := len, life := life, opened := s.tim.opTime } }
      (s.security 3 (s.regionOf (dpa / 64)) 0 dpa).answer 0

/-- DEBUG_WINDOW_OPEN (09 R239). -/
def execDebugWindowOpen (ww dpa len life : Nat) (s : State) : Res :=
  accessed s (respondAccess byCustodian 0x3240 ww (State.windowOpen byCustodian ww dpa len life s))

/-- DEBUG_WINDOW_CLOSE (09 R239). -/
def execDebugWindowClose (ww : Nat) (s : State) : Res :=
  accessed s (respondAccess byCustodian 0x3240 ww (State.windowOpen byCustodian ww 0 0 0 s))

/-- DEBUG_WINDOW_EXPIRY (09 R239). -/
def execDebugWindowExpiry (ww : Nat) (s : State) : Res := .next (s.closeWindow ww)

/-- A line lies inside an open window. -/
def State.inWindow (s : State) (dpa : Nat) : Bool :=
  s.itg.windows.any fun w => decide (w.2.len ≠ 0 ∧ w.2.first ≤ dpa ∧ dpa + 64 ≤ w.2.first + w.2.len)

/-- The line that a debug read senses: what the command brings, else the line as the module can read it. -/
def State.debugLine (s : State) (dpa : Nat) (sensed : Option StoredLine) : Option StoredLine :=
  match sensed with
  | some l => some l
  | none => let (a, k) := s.lineAddr (lineOf dpa); s.lineAt a k

/-- A debug read inside a window: the medium's content, decrypted and verified (R236, R239). -/
def State.debugPlain (dpa : Nat) (sensed : Option StoredLine) (s : State) : State :=
  let n := lineOf dpa
  let poisoned := fun (s : State) => s.emit (.debugData dpa true 0)
  match (s.entry (tractOfLine n)).state with
  | .zero => s.emit (.debugData dpa false 0)
  | .suspect => poisoned s
  | .integrityLost => poisoned s
  | .mapped =>
    match s.debugLine dpa sensed with
    | none => poisoned s
    | some l =>
      match s.decideLine (s.block (n / 64)) n l with
      | .zero => s.emit (.debugData dpa false 0)
      | .data d => s.emit (.debugData dpa false d)
      | .poison => poisoned s
      | .tagFail => poisoned (s.countTagFail.alarm s.modeNow dpa)

/-- DEBUG_READ (02 R59, 09 R236, R238, R239, 17 R395): plaintext inside a window, ciphertext and metadata outside; nothing with DBG_LOCK
set. -/
def execDebugRead (dpa : Nat) (sensed : Option StoredLine) (s : State) : Res :=
  if s.cox.options.dbgLock || !s.coreOn then .next s
  else if s.inWindow dpa then .next (s.debugPlain dpa sensed)
  else .next (s.emit (.debugStored dpa ((s.debugLine dpa sensed).map fun l => (l, lineMeta l))))

/-! ## The root -/

/-- The root record is written: sequence, state, cycle count, tree generation, digest, operating time (R226). -/
def State.putRecordOf (st : Nat) (digest : Word64) (s : State) : State :=
  (s.modItg fun x =>
    { x with record :=
        { seq := x.record.seq + 1, state := st, cycles := s.tim.cycles, treeGen := x.treeGen, digest := digest, time := s.tim.opTime } }).storeWrite 87

/-- The root record's 40 bytes, its CRC over the record with the CRC taken as zero (R226). -/
def RootRecord.bytes (r : RootRecord) : List Byte :=
  let l := be 4 r.seq ++ be 1 r.state ++ zeros 3 ++ be 4 r.cycles ++ be 4 r.treeGen ++ be 8 r.digest.toNat ++ be 8 (r.time % 2 ^ 48)
  l ++ be 8 (crc64 (l ++ zeros 8))

/-- The root record in state open (R227). -/
def State.recordOpen (s : State) : State := s.putRecordOf 1 0

/-- The root record in state closing, with the final digest (R230). -/
def State.recordClosing (s : State) : State :=
  let d := rootDigest s.itg.treeGen ((List.range 28).map s.rootSlot)
  s.putRecordOf 2 d

/-- Adopt the computed root, which the Logbook says was not verified (R237). -/
def State.adoptRoot (s : State) : State :=
  let s := (s.modItg fun x => { x with rootState := 1 }).recordOpen
  (s.security 9 0xFF 0 0).modStr fun x => { x with rootDone := true }

/-- The Custodian's decision (R237): only in states 2 and 3. -/
def State.rootOp (req : Req) (adopt : Bool) (s : State) : Acc :=
  if !s.domainOn 3 then (if s.freeSlot.isSome then s.answer 0x0A else s.deferred req 0x3200 2 fun _ => id)
  else if s.itg.rootState < 2 then s.answer 0x07
  else s.deferred req 0x3200 2 (fun n => fun s =>
    let s := if adopt then s
      else forEach (List.range logicalTracts) (fun t => State.putEntry t fun e => { e with state := .integrityLost }) s
    (s.adoptRoot).ticketDone n 0 [])

/-- ROOT_DECISION_ADOPT (09 R237). -/
def execRootDecisionAdopt (req : Req) (s : State) : Res :=
  accessed s (respondAccess req 0x3200 2 (guarded req 0x3200 2 (State.rootOp req true) s))

/-- ROOT_DECISION_REJECT (09 R237): every logical tract to STATE 3. -/
def execRootDecisionReject (req : Req) (s : State) : Res :=
  accessed s (respondAccess req 0x3200 2 (guarded req 0x3200 2 (State.rootOp req false) s))

/-- Mismatch: an alarm that names no line, and the wait for the Custodian (R234, R237). -/
def State.rootMismatch (s : State) : State :=
  let s := s.modItg fun x => { x with rootState := 3, alarms := x.alarms + 1 }
  let s := (s.security 1 0xFF 1 0).report 0x292 0x50 none
  s.modStr fun x => { x with phase := .awaitingCustodian }

/-- Unverified: adopted, or left to the Custodian, by the policy 0x3200.01 (R237). -/
def State.rootUnverified (s : State) : State :=
  if s.cfg 0x3200 1 = 0 then s.adoptRoot
  else (s.modItg fun x => { x with rootState := 2 }).modStr fun x => { x with phase := .awaitingCustodian }

/-- An L3 half that cannot be rebuilt is taken as 32 zero bytes in the computation of the pinned levels and the root, and the two tracts
of its node are lost (R237). -/
def State.halfZeroed (t : Nat) (s : State) : State :=
  let m := t / 2
  let old := s.node 3 m
  let kept := old &&& ~~~((BitVec.allOnes 512 >>> 256) <<< (256 * (t % 2)))
  let s := s.putNode 3 m kept
  let s := forEach (range' 3 6) (fun l => State.climbOne l (m / 8 ^ (l - 3))) s
  let i9 := m / 8 ^ 6
  let r := s.macOf 9 i9
  (s.modItg fun x => { x with root := Tab.put (fun i => Config.shipMac 9 i) x.root i9 r }).loseTracts (nodePair t) s.modeNow (t * 2 ^ 20)

/-- ROOT_REBUILD_COMPLETE (09 R237): the judgement, once the maps are loaded. `lostHalves`: the tracts whose L3 half could not be rebuilt,
which makes the computed root differ. -/
def execRootRebuildComplete (equal recordReads : Bool) (lostHalves : List Nat) (s : State) : Res :=
  if s.str.phase ≠ .rootRebuild ∨ s.str.rootDone then .next s
  else
    let digestEqual := equal && lostHalves.isEmpty
    let s := forEach lostHalves State.halfZeroed s
    let s := s.modStr fun x => { x with times := modNth x.times 4 fun _ => s.tim.opTime - x.origin }
    if !recordReads then .next s.rootMismatch
    else if s.itg.record.state = 2 ∧ digestEqual then
      .next ((s.modItg fun x => { x with rootState := 0 }).modStr fun x => { x with rootDone := true })
    else if s.itg.record.state = 2 ∧ s.str.clean then .next s.rootMismatch
    else .next s.rootUnverified

end Sys2Proof.Machine
end

