-- ==== Sys2Proof/Machine/Scrub.lean ====
section
/-! DEFINITION. Scrub passes, the patrol, the rewrite queue and the rebuild (10 R242–R261). -/

namespace Sys2Proof.Machine

/-! ## One stripe row -/

/-- GEN of a repaired header: the value that most valid headers of the row's other granules carry (R244); the tract's own where none is
valid. -/
def State.rowGen (s : State) (a t : Nat) : Nat :=
  let gens := (((stripe (ptOfAddr a) (stripeRow a)).filter fun b => b != a && !s.lostAt b).map s.image).filterMap fun g =>
    if g.blank || g.torn || g.hdr.tract != t then none else some g.hdr.gen
  let most := gens.foldl (fun (acc : Nat × Nat) v => if acc.1 < gens.count v then (gens.count v, v) else acc) (0, (s.activity t).gen)
  most.2

/-- The header that a rebuild or scrub repair writes (R244). -/
def State.repairHeader (s : State) (a t : Nat) : Header := { s.headerFor a t 3 with gen := s.rowGen a t }

/-- Rewrite a granule in place with a fresh header (R242, R244). -/
def State.repair (a t : Nat) (s : State) : State :=
  let g := s.image a
  if s.lostAt a || g.blank then s else s.request .scrub 0 a { g with hdr := s.repairHeader a t, torn := false }

/-- The parity of a row whose lines all pass does not fit (R258): a check that no lost granule prevents. -/
def State.parityBad (s : State) (pt row : Nat) : Bool :=
  !((stripe pt row).any s.lostAt)
    && (List.range 4).any fun k => !(xorLines ((stripe pt row).map fun a => granLine (s.image a) k)).blank

/-- The tracts that a node line of a reserve tract serves (R221, R231): for an L3 line, both tracts of each half. -/
def State.servedBy (s : State) (t line : Nat) : List Nat :=
  let l := s.ownersOf t line
  if 4096 ≤ (t - logicalTracts) % 0x8000 then l.flatMap nodePair else l

/-- Line `n` of a tract is gone: a user line gets a poison entry; a counter block or L3 line loses its tracts; an L1 or L2 is taken
from its mirror (R231, R258). -/
def State.dataLost (t a n : Nat) (s : State) : State :=
  if t < logicalTracts then s.poisonLine (t * 16384 + n)
  else
    let ts := s.servedBy t n
    if ts.isEmpty then s.repair a t else s.loseTracts ts s.modeNow (ts.headD 0 * 2 ^ 20)

/-- A line at a place is gone, unless it is parity. -/
def State.lineGone (t a k : Nat) (s : State) : State :=
  match dataIndex a with
  | none => s
  | some g => s.dataLost t a (g * 4 + k)

/-- A line that cannot be rebuilt is reported and, unless it is parity, gone (R231, R258). -/
def State.lineLost (t pt row : Nat) (f : Finding) (s : State) : State :=
  let a := atPosition pt row f.position
  (s.report (dieOf a) 0x11 (some (granOf a))).lineGone t a f.line

/-- Counts of a pass (R260). -/
def passAdd (c : List Nat) (k n : Nat) : List Nat := modNth c k (· + n)

/-- The finding has its granule rewritten in repair mode: a header failure, a line corrected at the rewrite threshold, one rebuilt (R258). -/
def State.rewrites (s : State) (pt row : Nat) (fs : List Finding) (f : Finding) : Bool :=
  f.headerBad || decide (s.cfg 0x3300 0 ≤ f.errors ∧ f.errors ≤ 7) || (decide (8 ≤ f.errors) && s.rebuildable pt row fs f)

/-- What a row adds to a summary: sensed, clean, 1–3, 4–7, flagged, rebuilt, unrecoverable, parity mismatches, header failures,
rewritten. -/
def State.rowCounts (s : State) (pt row : Nat) (fs : List Finding) (repairMode : Bool) : List Nat :=
  let bad := fs.filter fun f => decide (8 ≤ f.errors)
  let reb := (bad.filter (s.rebuildable pt row fs)).length
  let low := (fs.filter fun f => decide (1 ≤ f.errors ∧ f.errors ≤ 3)).length
  let mid := (fs.filter fun f => decide (4 ≤ f.errors ∧ f.errors ≤ 7)).length
  let mism := bit (bad.isEmpty && s.parityBad pt row)
  let hdr := (fs.filter fun f => f.headerBad).length
  let touched := ((fs.filter (s.rewrites pt row fs)).map fun f => f.position).dedup.length
  [36, 36 - low - mid - bad.length, low, mid, bad.length, reb, bad.length - reb, mism, hdr, if repairMode then touched + mism else 0, 0]

/-- The senses of a row: counted for its tract, and what the dies reported on SQ (07 R166, 08 R193). -/
def State.rowSensed (pt row : Nat) (fs : List Finding) (s : State) : State :=
  forEach fs (fun f => State.sqSeen (atPosition pt row f.position) f.sq) (s.countSenses (atPosition pt row 0) 36)

/-- Act on the findings of a row in repair mode (R258). -/
def State.repairRow (t pt row : Nat) (fs : List Finding) (s : State) : State :=
  let bad := fs.filter fun f => decide (8 ≤ f.errors)
  let s0 := s
  let s := forEach ((fs.filter (s0.rewrites pt row fs)).map fun f => f.position).dedup (fun p => State.repair (atPosition pt row p) t) s
  let s := s.modScr fun x => { x with headerRepairs := x.headerRepairs + (fs.filter fun f => f.headerBad).length }
  let s := forEach bad (fun f => fun s =>
    if s0.rebuildable pt row fs f then
      let a := atPosition pt row f.position
      s.report (dieOf a) 0x10 (some (granOf a))
    else s.lineLost t pt row f) s
  if bad.isEmpty && s0.parityBad pt row then
    let par := parityAddr pt row
    let lines := fun k => xorLines ((List.range 8).map fun d => granLine (s.image (placeGranule pt (row * 8 + d))) k)
    let s := s.modScr fun x => { x with parity := modNth x.parity 3 (· + 1) }
    (s.request .scrub 0 par (granuleOf (s.repairHeader par t) lines)).report (dieOf par) 0x15 (some (granOf par))
  else s

/-! ## Passes -/

/-- A physical or DPA pass names a row: the physical tract, its stripe row, its tract; none where the row is skipped (R258). -/
def State.passRow (s : State) (p : ScrubPass) : Option (Nat × Nat × Nat) :=
  if p.kind = 0 then
    let r := p.first / 2048 + p.cursor
    let t := r / 512
    if (s.entry t).state = .mapped then some (s.readPt t, r % 512, t) else none
  else
    let g := p.first % 2 ^ 27 + p.cursor
    let a := p.first / 2 ^ 27 * 2 ^ 27 + g
    match s.tractAt (ptOfAddr a) with
    | some t => if s.peakOf (ptOfAddr a) = 0xFFFF then none else some (ptOfAddr a, stripeRow a, t)
    | none => none

/-- Rows of a pass. -/
def passRows (p : ScrubPass) : Nat :=
  if p.kind = 0 then (p.first + p.len - 1) / 2048 - p.first / 2048 + 1 else p.len

/-- The summary after the ticket (R260). -/
def State.passSummary (s : State) (p : ScrubPass) (status : Nat) : List Byte :=
  be 1 status ++ be 1 p.kind ++ be 1 (bit p.repair) ++ zeros 1 ++ be 8 p.first ++ be 8 p.len ++ be 8 (nth p.counts 0)
    ++ be 8 (nth p.counts 1) ++ be 8 (nth p.counts 2) ++ be 4 (nth p.counts 3) ++ be 4 (nth p.counts 4) ++ be 4 (nth p.counts 5)
    ++ be 4 (nth p.counts 6) ++ be 4 (nth p.counts 7) ++ be 4 (nth p.counts 8) ++ be 4 (nth p.counts 9) ++ be 4 (nth p.counts 10)
    ++ be 8 (if p.firstLost = 0 then 2 ^ 64 - 1 else p.firstLost - 1) ++ be 4 (s.tim.opTime - p.start) ++ zeros 4

/-- A pass ends with its summary (R259, R260). -/
def State.endPass (p : ScrubPass) (status : Nat) (s : State) : State :=
  let sum := s.passSummary p status
  (s.modScr fun x => { x with passes := x.passes.filter fun q => q.ticket != p.ticket }).ticketDone (p.ticket % 32) 0 sum

/-- Every pass stops with status 2 (R259). -/
def State.stopPasses (s : State) : State := forEach s.scr.passes (fun p => State.endPass p 2) s

/-- Start a pass (R257). -/
def State.scrubOp (req : Req) (kind mode first len : Nat) (s : State) : Acc :=
  let bad := decide (1 < mode ∨ len = 0) || (if kind = 0 then decide (first % 64 ≠ 0 ∨ len % 64 ≠ 0 ∨ dpaSize < first + len)
    else decide (576 ≤ first / 2 ^ 27 ∨ 2 ^ 27 < first % 2 ^ 27 + len))
  if bad then s.answer 0x06
  else if !s.coreOn && s.freeSlot.isSome then s.answer 0x0A
  else if 4 ≤ s.scr.passes.length then s.answer 0x07
  else s.deferred req 0x3301 0 (fun n => fun s =>
    s.modScr fun x =>
      { x with passes := x.passes ++
          [{ ticket := (s.slot n).ticket, kind := kind, repair := decide (mode = 1), first := first, len := len, start := s.tim.opTime }] })

/-- SCRUB_DPA_PASS (10 R257). -/
def execScrubDpaPass (req : Req) (mode first len : Nat) (s : State) : Res :=
  accessed s (respondAccess req 0x3301 0 (guarded req 0x3301 0 (State.scrubOp req 0 mode first len) s))

/-- SCRUB_PHYSICAL_PASS (10 R257). -/
def execScrubPhysicalPass (req : Req) (mode first len : Nat) (s : State) : Res :=
  accessed s (respondAccess req 0x3301 0 (guarded req 0x3301 0 (State.scrubOp req 1 mode first len) s))

/-- Change a pass. -/
def State.modPass (ticket : Nat) (f : ScrubPass → ScrubPass) (s : State) : State :=
  s.modScr fun x => { x with passes := x.passes.map fun p => if p.ticket = ticket then f p else p }

/-- A row that a drain unit or an engine's program has in progress makes the scrub wait (R248, R259). -/
def State.unitOnRow (s : State) (pt row : Nat) : Bool :=
  (match s.tractAt pt with
    | some t => s.wb.units.any fun u => u.tract == t && u.rows.contains row
    | none => false) || s.rowInProgram pt row

/-- First unrecoverable place of a row, + 1: its DPA, or its physical granule (R260). -/
def lostPlace (p : ScrubPass) (t pt row : Nat) (f : Finding) : Nat :=
  let a := atPosition pt row f.position
  if p.kind = 1 then a + 1
  else match dataIndex a with
    | some g => t * 2 ^ 20 + g * 256 + f.line * 64 + 1
    | none => t * 2 ^ 20 + row * 2048 + 1

/-- Visit one row of a pass. -/
def State.visitRow (p : ScrubPass) (fs : List Finding) (s : State) : State :=
  match s.passRow p with
  | none =>
    let jump := if p.kind = 0 then 512 - (p.first / 2048 + p.cursor) % 512 else 1
    s.modPass p.ticket fun p => { p with cursor := p.cursor + jump, counts := passAdd p.counts 10 1 }
  | some (pt, row, t) =>
    if (stripe pt row).all fun a => (s.image a).blank then
      s.modPass p.ticket fun p => { p with cursor := p.cursor + 1, counts := passAdd p.counts 10 1 }
    else
      let c := s.rowCounts pt row fs p.repair
      let lost := fs.filter fun f => decide (8 ≤ f.errors) && !s.rebuildable pt row fs f
      let s := ((s.rowSensed pt row fs).engineCount 1 0 1).engineCount 1 1 9
      let s := if p.repair then s.repairRow t pt row fs else s
      s.modPass p.ticket fun p =>
        { p with
          cursor := p.cursor + 1
          counts := (List.range 11).map fun k => nth p.counts k + nth c k
          firstLost := if p.firstLost = 0 then (match lost with | f :: _ => lostPlace p t pt row f | [] => 0) else p.firstLost }

/-- SCRUB_ROW (10 R258–R260): a cancelled pass ends after it with status 1, the last row ends it with status 0. -/
def execScrubRow (ticket : Nat) (findings : List Finding) (s : State) : Res :=
  match s.scr.passes.find? fun p => p.ticket == ticket with
  | none => .next s
  | some p =>
    if s.isOut 0x299 || (match s.passRow p with | some (pt, row, _) => s.unitOnRow pt row | none => false) then .next s
    else
      let s := s.visitRow p findings
      match s.scr.passes.find? fun p => p.ticket == ticket with
      | none => .next s
      | some p =>
        if p.cancel then .next (s.endPass p 1)
        else if passRows p ≤ p.cursor then .next (s.endPass p 0) else .next s

/-- Cancel a pass (R259). -/
def State.scrubCancelOp (req : Req) (ticket : Nat) (s : State) : Acc :=
  if s.scr.passes.any fun p => p.ticket == ticket then
    ((s.modPass ticket fun p => { p with cancel := true }).manage 1 req 0 0x3301 1 0 0 (be 4 ticket)).answer 0
  else s.answer 0x07

/-- SCRUB_CANCEL (10 R259). -/
def execScrubCancel (ticket : Nat) (s : State) : Res :=
  accessed s (respondAccess byOperator 0x3301 1 (s.scrubCancelOp byOperator ticket))

/-- SCRUB_REWRITE (10 R242): a queued granule is rewritten in place, once a program of it that is in progress has ended. -/
def execScrubRewrite (granule : Nat) (s : State) : Res :=
  if s.scr.rewrite.contains granule && !s.isOut 0x299 && s.coreOn && (s.registered granule).isNone then
    let s := s.modScr fun x => { x with rewrite := x.rewrite.filter fun a => a != granule }
    match s.tractAt (ptOfAddr granule) with
    | some t => .next (((s.countSenses granule 4).repair granule t).refrSync t)
    | none => .next s
  else .next s

/-- PATROL_ROW (10 R261): a repair-mode row that counts in 0x3300.03; a period of 0 stops the patrol. -/
def execPatrolRow (pt row : Nat) (findings : List Finding) (s : State) : Res :=
  match s.tractAt pt with
  | none => .next s
  | some t =>
    if s.isOut 0x299 || decide (s.cfg 0x3300 1 = 0) || decide (512 ≤ row) || s.unitOnRow pt row || !s.coreOn then .next s
    else
      let c := s.rowCounts pt row findings true
      let s := s.modScr fun x =>
        { x with
          ecc := [nth x.ecc 0 + nth c 1, nth x.ecc 1 + nth c 2, nth x.ecc 2 + nth c 3, nth x.ecc 3 + nth c 4, nth x.ecc 4 + nth c 5,
            nth x.ecc 5 + nth c 6, nth x.ecc 6, nth x.ecc 7]
          patrol := if row = 511 then (x.patrol + 1) % occupiedTracts else x.patrol }
      let s := ((s.rowSensed pt row findings).engineCount 1 0 1).engineCount 1 1 9
      .next (s.repairRow t pt row findings)

/-! ## Rebuild (10 R247–R251) -/

/-- Positions of a stripe row on re-admitted units that the rebuild writes. -/
def State.rebuildTargets (s : State) (pt row : Nat) : List Nat := (stripe pt row).filter s.readmitted

/-- The content of a line of a re-admitted unit: by reconstruction; where an input line failed, as rebuilt with its poison bit set, so that
parity stays whole; on a row with a second lost unit, parity afresh and data with poison (R247). -/
def State.rebuiltLine (s : State) (pt row : Nat) (failed : Nat → Bool) (a k : Nat) : StoredLine :=
  match s.rebuildLine a k with
  | some l => if failed k then { l with blank := false, poison := true } else l
  | none =>
    if (dataIndex a).isNone then xorLines ((List.range 8).map fun d => (s.lineAt (placeGranule pt (row * 8 + d)) k).getD lostLine)
    else lostLine

/-- Rebuild the granules of a row that lie on re-admitted units (R247). DESIGN CHOICE: a granule that rebuilds to zeros in all four lines is
made blank, with one wear cycle: a never-written line must sense blank (R217), and no command programs a blank granule
(notes/assumptions/69.md). -/
def State.rebuildRow (pt row t : Nat) (fs : List Finding) (s : State) : State :=
  let targets := s.rebuildTargets pt row
  let mine := fs.filter fun f => f.line / 4 == row
  let failed := fun (k : Nat) => mine.any fun f => f.line % 4 == k && decide (8 ≤ f.errors)
  let lost := (List.range 4).filter failed
  let blank := targets.all fun a => (List.range 4).all fun k => match s.rebuildLine a k with
    | some l => l.blank
    | none => false
  let images := targets.map fun a => (a, granuleOf (s.repairHeader a t) (s.rebuiltLine pt row failed a))
  let s := forEach mine (fun f => State.sqSeen (atPosition pt row f.position) f.sq) (s.countSenses (atPosition pt row 0) 32)
  let s := forEach lost (fun _ => fun s => match targets with
    | a :: _ => s.report (dieOf a) 0x11 (some (granOf a))
    | [] => s) s
  if blank && lost.isEmpty then forEach targets (fun a => fun s => (s.putGranule a {}).wear a) s
  else s.requestAll .rebuild (rowOfPt pt / 16) images

/-- The physical tracts at a place PT' of the die rows that a rebuild covers. -/
def State.rebuildTracts (s : State) (g : Nat) : List Nat :=
  let r := s.rebuild g
  let rows := fun (u : Nat) => if u < 0x240 then [g * 16 + u % 16] else if u < 0x264 then (range' (g * 16) 16) else []
  ((rows r.unit ++ rows r.second).dedup).map fun row => row * 262144 + r.cursor

/-- One physical tract under the rebuild: rebuilt row by row, skipped when retired, its sectors on the unit cleared otherwise (R247). -/
def State.rebuildTract (fs : List Finding) (pt : Nat) (s : State) : State :=
  let g := rowOfPt pt / 16
  match s.tractAt pt with
  | some t =>
    let skip := (List.range 512).filter fun row => (s.rebuild g).touched.contains (rowOfPt pt * 2 ^ 27 + inRow pt * 512 + row)
    let s := forEach (List.range 512) (fun row => fun s => if skip.contains row then s else s.rebuildRow pt row t fs) s
    s.modRebuild g fun r => { r with skipped := r.skipped + skip.length }
  | none =>
    if s.peakOf pt = 0xFFFF then s
    else forEach ((stripe pt 0).filter s.readmitted) (State.clearDie pt) s

/-- The rebuild is complete: its units are Active, the group leaves degraded state (R251). -/
def State.rebuildDone (g : Nat) (s : State) : State :=
  let r := s.rebuild g
  let back := fun (u : Nat) (s : State) => if (s.unit u).state = .rebuilding then s.modUnit u fun x => { x with state := .active } else s
  let s := back r.second (back r.unit s)
  ((s.modRebuild g fun _ => {}).storeWrite 88).boundSync

/-- A program or a drain unit of a physical tract is in progress, so that the rebuild waits (R248). -/
def State.tractBusy (s : State) (pts : List Nat) : Bool :=
  (s.wb.units.any fun u => pts.contains (s.entry u.tract).pt) || s.wb.inProgram.any fun e => pts.contains (ptOfAddr e.1)

/-- A multiple of 1,024 physical tracts is done: the cursor is written (R250). -/
def State.persistCursor (g : Nat) (s : State) : State :=
  let c := (s.rebuild g).cursor
  if c % 1024 = 0 ∧ c ≠ (s.rebuild g).persisted then (s.modRebuild g fun r => { r with persisted := c }).storeWrite 88 else s

/-- REBUILD_STEP (10 R247–R251): the physical tracts at the cursor, then the cursor; a step waits for the programs of the one before. With
none left the rebuild is done. -/
def execRebuildStep (group : Nat) (findings : List Finding) (s : State) : Res :=
  let r := s.rebuild group
  if r.state ≠ 1 ∨ s.isOut 0x29B ∨ s.inEasy ∨ ¬ s.coreOn ∨ s.engineWorks .rebuild group then .next s
  else
    let s := s.persistCursor group
    if 262144 ≤ r.cursor then .next (s.rebuildDone group)
    else
      let pts := s.rebuildTracts group
      if s.tractBusy pts then .next s
      else
        let s := forEach pts (State.rebuildTract findings) s
        let s := (s.engineCount 3 0 1).modRebuild group fun r => { r with cursor := r.cursor + 1 }
        .next (if 262144 ≤ r.cursor + 1 ∧ ¬ s.engineWorks .rebuild group then s.rebuildDone group else s)

end Sys2Proof.Machine
end

