-- ==== Sys2Proof/Machine/Boot.lean ====
section
/-! DEFINITION. The start from the core's power to the root rebuild: training, map load, the full scan and what it leaves
(06 R156, R157, 08 R203–R206, 18 R412–R416). -/

namespace Sys2Proof.Machine

/-! ## Channels and map load -/

/-- Every channel is active or out of service (R412 step 7). -/
def State.channelsReady (s : State) : Bool :=
  (List.range 36).all fun c => decide ((s.channel c).state = 2) || s.isOut (srcChannel c)

/-- Every staging part has been initialised, or is out of service (R253). -/
def State.partsReady (s : State) : Bool := (List.range 16).all fun n => (s.sram n).ready || s.partOut n

/-- The physical tract that the system directory gives for a system tract (R188). -/
def State.directoryPt (s : State) (t : Nat) : Nat := Tab.get (fun u => (shipEntry u).pt) s.trc.directory t

/-- Granule g of a system tract of a die row cannot be read: torn, or lost and not to be rebuilt (R187, R204). -/
def State.systemLost (s : State) (row j g : Nat) : Bool :=
  let a := placeGranule (s.directoryPt (logicalTracts + row * 0x8000 + j)) g
  if s.lostAt a then (List.range 4).any fun k => (s.rebuildLine a k).isNone else (s.granule a).torn

/-- Granules of system tract j of a die row, by number, that are torn on the medium. -/
def State.tornSystem (s : State) (j : Nat) : List (Nat × Nat) :=
  s.med.granules.filterMap fun e =>
    if !e.2.torn then none else
    let row := rowOfAddr e.1
    if ptOfAddr e.1 = s.directoryPt (logicalTracts + row * 0x8000 + j) then (dataIndex e.1).map fun g => (row, g) else none

/-- A granule of a checkpoint fails its check in both copies, so that the start is dirty (R204, R415). -/
def State.checkpointLost (s : State) : Bool :=
  ((s.tornSystem 5256).any fun p => s.systemLost p.1 5257 p.2) || (s.tornSystem 5258).any fun p => s.systemLost p.1 5259 p.2

/-- A tract's entry as the checkpoint gives it: from copy A where its granule passes its check, from copy B otherwise (R187). DESIGN CHOICE:
where both fail, the entry last programmed, Suspect (notes/assumptions/70.md). -/
def State.loadedEntry (s : State) (t : Nat) : MapEntry :=
  let (row, g, _) := ckptPlace t
  let a := Tab.get shipEntry s.trc.ckptA t
  let e := if !s.systemLost row 5256 g then a
    else if !s.systemLost row 5257 g then Tab.get shipEntry s.trc.ckptB t
    else if t < logicalTracts then { a with state := .suspect } else a
  if systemTract t then { e with pt := s.directoryPt t } else e

/-- Activity records as the wear checkpoint gives them; GEN is that of the tract's headers. -/
def mergeActivity (now ckpt : Tab Activity) : Tab Activity :=
  ((now ++ ckpt).map Prod.fst).dedup.foldl (fun acc t =>
    Tab.set {} acc t { Tab.rd {} ckpt t with gen := (Tab.rd {} now t).gen, senses := 0, programs := 0 }) []

/-- The maps and the wear table as their checkpoints give them (R187, R204). Every physical tract that no entry references is then free, or
retired (R202). -/
def State.loadMaps (s : State) : State :=
  let keys := ((s.trc.ckptA ++ s.trc.ckptB ++ s.trc.directory.map fun e => (e.1, shipEntry e.1)).map Prod.fst).dedup
  let map := keys.foldl (fun acc t => Tab.put shipEntry acc t (s.loadedEntry t)) []
  let given := s.trc.dirtyPts
  let s := s.modTrc fun x =>
    { x with
      map := map, peak := x.peakCkpt, peakBase := x.baseCkpt, act := mergeActivity x.act x.actCkpt
      epoch := [], migs := [], readsOn := [], counted := [] }
  let s := s.modMed fun m => { m with clearing := [] }
  forEach given (fun d => State.freeTract d.1 d.2) s

/-- The tracts of the replayed dirty set become Suspect; only logical tracts have the state (R156). -/
def State.markSuspects (s : State) : State :=
  forEach (s.wb.dirty.filter fun t => decide (t < logicalTracts)) (fun t => State.putEntry t fun e => { e with state := .suspect }) s

/-- The ledger's replay gives the dirty set (R153). -/
def State.replayLedger (s : State) : State :=
  s.modWb fun w => { w with dirty := replay w.ledger, durable := replay w.ledger, lastListed := replay w.ledger, writing := [] }

/-- A clean start: the last ledger record is a flush-complete record (R156, R415). -/
def State.ledgerClean (s : State) : Bool :=
  match s.wb.ledger.getLast? with
  | some r => decide (r.kind = 4)
  | none => false

/-- Record a time of the last start (0x5090.01). -/
def State.startTime (k : Nat) (s : State) : State :=
  s.modStr fun x => { x with times := modNth x.times k fun _ => s.tim.opTime - x.origin }

/-- Step 8 of the start: the checkpoints are loaded and the ledger replayed. A clean start goes on to the root; a dirty start counts
itself, marks the Suspect tracts, and scans (R412, R415, R157). -/
def State.mapLoad (s : State) : State :=
  let clean := s.ledgerClean && !s.checkpointLost
  let s := (s.loadMaps.replayLedger.startTime 2).modStr fun x => { x with clean := clean }
  let s := s.modWb fun w => { w with lastDirty := !clean }
  if clean then s.modStr fun x => { x with phase := .rootRebuild, mapsLoaded := true }
  else
    let s := (s.modWb fun w => { w with dirtyCount := w.dirtyCount + 1 }).storeWrite 91
    s.markSuspects.modStr fun x => { x with phase := .fullScan }

/-- The media are back after T4: the channels have passed their probes (11 R281). -/
def State.mediaBack (s : State) : State :=
  if s.pwr.mediaOnlyUp ∧ s.pwr.seqState = 2 ∧ s.channelsReady then
    let s := s.modPwr fun p => { p with mediaOnlyUp := false, state := if p.state = .easyAllMediaOff then .easyAll else p.state }
    (s.modEasy fun e => { e with state := if e.state = .flushedMediaOff ∨ e.state = .leaving then .flushed else e.state }).easyCheck
  else s

/-- Go on with the start where its conditions hold: the core powered, channels trained, staging initialised, Cox running; or with the exit
after T4. -/
def State.mapStep (s : State) : State :=
  (if decide (s.str.phase = .mapLoad) && s.str.powered && s.channelsReady && s.partsReady && s.coxUp then s.mapLoad else s).mediaBack

/-- CHANNEL_TRAINING_DONE (07 R445): the lanes are trained and every unfenced die has answered. -/
def execChannelTrainingDone (ch : Nat) (s : State) : Res :=
  if (s.channel ch).state = 1 then .next (s.modChannel ch fun c => { c with state := 2 }).mapStep else .next s

/-! ## The full scan (08 R203, R205, R206) -/

/-- Listed granules that the scan meets: not blank, on dies that are not fenced (R205). -/
def State.scanMeets (s : State) : List (Nat × Granule) := s.med.granules.filter fun e => !e.2.blank && !s.dieOut (dieOf e.1)

/-- Physical tracts with content of their own. -/
def State.scanned (s : State) : List Nat := (s.scanMeets.map fun e => ptOfAddr e.1).dedup

/-- The valid headers met on a physical tract. -/
def State.headersOn (s : State) (pt : Nat) : List Header :=
  (s.scanMeets.filter fun e => !e.2.torn && decide (ptOfAddr e.1 = pt)).map fun e => e.2.hdr

/-- TRACT and GEN that most of a list of headers carry, the first met on a tie (R206). -/
def claimOf (l : List Header) : Option (Nat × Nat) :=
  let count := fun (h : Header) => (l.filter fun x => x.tract == h.tract && x.gen == h.gen).length
  (l.foldl (fun (b : Option Header) h => match b with
    | none => some h
    | some c => if count c < count h then some h else some c) none).map fun h => (h.tract, h.gen)

/-- A claim is sealed: a valid header of its tract and generation carries SEAL, which only the seal granule's does (R197, R206). -/
def sealedOn (l : List Header) (t gen : Nat) : Bool := l.any fun h => h.sealed && h.tract == t && h.gen == gen

/-- A claim of a physical tract: tract, generation, sealed, place. -/
structure Claim where
  tract : Nat
  gen : Nat
  isSealed : Bool
  pt : Nat
  deriving DecidableEq, Repr

/-- Every claim of the medium. -/
def State.claims (s : State) : List Claim :=
  s.scanned.filterMap fun pt =>
    let l := s.headersOn pt
    (claimOf l).map fun c => { tract := c.1, gen := c.2, isSealed := sealedOn l c.1 c.2, pt := pt }

/-- The generation claimed for a tract on a physical tract, 0 when none is. -/
def genOn (l : List Claim) (t pt : Nat) : Nat :=
  match l.find? fun c => c.tract == t && c.pt == pt with
  | some c => c.gen
  | none => 0

/-- The sealed claim of highest generation of a tract, the lower physical tract on a tie (R206). -/
def bestSealed (l : List Claim) (t : Nat) : Option Claim :=
  (l.filter fun c => c.tract == t && c.isSealed).foldl (fun (b : Option Claim) c => match b with
    | none => some c
    | some d => if d.gen < c.gen ∨ (d.gen = c.gen ∧ c.pt < d.pt) then some c else some d) none

/-- Two sealed claims of the highest generation of a tract. -/
def conflict (l : List Claim) (c : Claim) : Bool :=
  l.any fun d => d.tract == c.tract && d.isSealed && d.gen == c.gen && d.pt != c.pt

/-- A tract is adopted on a claim: the checkpoint and, of a system tract, the directory are rewritten where they differ (R206). -/
def State.adopt (t : Nat) (c : Claim) (s : State) : State :=
  if c.pt = (s.entry t).pt then s
  else
    let s := (s.putEntry t fun e => { e with pt := c.pt }).when (systemTract t) (State.putDirectory t c.pt)
    let s := (s.zeroReads t).modActivity t fun a => { a with gen := c.gen, occ := 0 }
    s.modTrc fun x => { x with lastScan := modNth x.lastScan 4 (· + 1) }

/-- Adopt a tract's sealed copy of highest generation where it is above the one that the checkpoint names; of two of equal generation the
lower, the tract being Suspect and a generation conflict reported (R206). -/
def State.adoptClaim (l : List Claim) (t : Nat) (s : State) : State :=
  match bestSealed l t with
  | none => s
  | some c =>
    if conflict l c then
      let s := s.adopt t c
      (s.when (decide (t < logicalTracts)) (State.putEntry t fun e => { e with state := .suspect })).report 0x291 0x52 (some t)
    else if genOn l t (s.entry t).pt < c.gen then s.adopt t c else s

/-- Clear a physical tract, as the scan does: one wear cycle of each granule, 32 segments of each die (07 R179). -/
def State.wipe (pt : Nat) (s : State) : State :=
  let s := forEach ((List.range 512).flatMap fun row => stripe pt row) (fun a => fun s =>
    if s.dieOut (dieOf a) then s else (s.putGranule a {}).wear a) s
  forEach (stripe pt 0) (fun a => fun s =>
    if s.dieOut (dieOf a) then s else s.modDie (dieOf a) fun d => { d with clears := d.clears + 32 }) s

/-- Claimed or torn physical tracts that hold no adopted tract are cleared and freed, or retired (R202, R206 step 3). -/
def State.dropClaims (pts : List Nat) (s : State) : State :=
  forEach (pts.filter fun pt => (s.tractAt pt).isNone && decide (s.peakOf pt ≠ 0xFFFF)) (fun pt => fun s =>
    ((s.wipe pt).freeTract pt false).modTrc fun x => { x with lastScan := modNth x.lastScan 3 (· + 1) }) s

/-- Line k of granule g of a map checkpoint tract of a die row: sixteen entries (R187). -/
def State.checkpointLine (s : State) (row g k : Nat) : Line :=
  (List.range 16).foldl (fun l i =>
    let n := g * 64 + k * 16 + i
    let t := if g < 3584 then row * 229376 + n else logicalTracts + row * 0x8000 + (n - 229376)
    putWord l (i * 4) (if g < 3584 ∨ n - 229376 < 5261 then entryWord (ckptEntry (s.entry t)) else 0)) 0

/-- The content of a line of a torn reserve granule: a map checkpoint's as the maps are; L1 and L2 recomputed from their children, an L3 line with both its halves as the
engine has them, else zeros (R206, R415). -/
def State.remade (s : State) (t line : Nat) : StoredLine :=
  let j := (t - logicalTracts) % 0x8000
  if j = 5256 ∨ j = 5257 then plainLine (s.checkpointLine ((t - logicalTracts) / 0x8000) (line / 4) (line % 4))
  else match s.nodesOfLine t line with
  | (l, i, _) :: _ => plainLine (if l = 1 ∨ l = 2 then s.node l i else 0)
  | [] => plainLine 0

/-- Repair a torn granule of an adopted physical tract (R156): a user granule's lines are lost, a node granule is rebuilt, a counter
block makes its tract integrity-lost; a parity granule is programmed afresh with its row. -/
def State.repairTorn (a : Nat) (s : State) : State :=
  match s.tractAt (ptOfAddr a) with
  | none => s
  | some t =>
    let s := s.modTrc fun x => { x with lastScan := modNth x.lastScan 2 (· + 1) }
    let hdr := s.repairHeader a t
    match dataIndex a with
    | none => s
    | some g =>
      if t < logicalTracts then s.programNow a (granuleOf hdr fun _ => lostLine)
      else
        let lost := (List.range 4).flatMap fun k => s.servedBy t (g * 4 + k)
        let s := s.programNow a (granuleOf hdr fun k => s.remade t (g * 4 + k))
        forEach lost (fun x => State.putEntry x fun e => { e with state := .integrityLost }) s

/-- Recompute the parity of a stripe row from its data granules; a data granule that cannot be read counts as lost lines; a parity
granule that cannot be read is left for the rebuild (R156). -/
def State.reparity (pt row t : Nat) (s : State) : State :=
  let par := parityAddr pt row
  let data := (List.range 8).map fun d => placeGranule pt (row * 8 + d)
  if s.lostAt par || (!(s.granule par).torn && data.all fun a => (s.image a).blank && !s.lostAt a) then s
  else
    let line := fun k => xorLines (data.map fun a => if s.lostAt a then lostLine else granLine (s.image a) k)
    s.programNow par (granuleOf (s.repairHeader par t) line)

/-- The counter block that a line holds (R218). -/
def blockOfLine (l : Line) : CounterBlock :=
  { major := l.toNat / 2 ^ 456, kg := l.getLsbD 455, pz := l.getLsbD 454, minors := BitVec.ofNat 448 l.toNat }

/-- The counter blocks of a tract as the medium now holds them, with everything above them (R415 step 10). -/
def State.rereadBlocks (t : Nat) (s : State) : State :=
  let pt := (s.entry t).pt
  let read := fun (s : State) (k : Nat) =>
    let (a, j) := s.locate (nodeKey pt .block k)
    s.lineAt a j
  forEach (List.range 256) (fun k => fun s => match read s k with
    | some l => if l.blank then s else s.setBlock (t * 256 + k) (blockOfLine l.ct)
    | none => s.putEntry t fun e => { e with state := .integrityLost }) s

/-- The full scan's outcome (R206; torn granules that the rebuild of their unit will write are left to it, 10 R250): claims resolved, leftovers cleared, torn granules repaired, parity and node content recomputed,
every PEAK raised. -/
def State.fullScan (torn : List Nat) (s : State) : State :=
  let l := s.claims
  let tornAll := ((torn ++ ((s.med.granules.filter fun e => e.2.torn).map Prod.fst)).dedup).filter fun a => !s.dieOut (dieOf a)
  let pts := (s.scanned ++ tornAll.map ptOfAddr).dedup
  let s := forEach ((l.map fun c => c.tract).dedup) (State.adoptClaim l) s
  let s := s.dropClaims pts
  let mine := tornAll.filter fun a => match s.tractAt (ptOfAddr a) with
    | some t => !s.readmitted a || decide ((s.entry t).state = .suspect)
    | none => false
  let s := forEach mine State.repairTorn s
  let suspects := s.suspects
  let s := forEach suspects State.rereadBlocks s
  let s := forEach mine (fun a => fun s => match s.tractAt (ptOfAddr a) with
    | some t => s.reparity (ptOfAddr a) (stripeRow a) t
    | none => s) s
  let s := forEach suspects (fun t => fun s =>
    forEach (List.range 512) (fun row => State.reparity (s.entry t).pt row t) s) s
  (s.modTrc fun x => { x with peakBase := x.peakBase + 256, scans := x.scans + 1 }).wearWriteback

end Sys2Proof.Machine
end

