-- ==== Sys2Proof/Machine/Fence.lean ====
section
/-! DEFINITION. The fault collector's reactions: fences and their effects, probes, re-admission (10 R250, 11 R266–R278). -/

namespace Sys2Proof.Machine

/-! ## Groups and rebuilds -/

/-- The parity group of a die or channel. -/
def unitGroup (src : Nat) : Option Nat :=
  match unitKind src with
  | some .die => some (groupOfDie src)
  | some .channel => some (groupOfChannel (src - 0x240))
  | _ => none

/-- The units of a group that a new fence of a source meets (R271). -/
def State.otherUnits (s : State) (g src : Nat) : List Nat := (s.groupUnits g).filter fun u => u != src

/-- A unit of the group is out of service. -/
def State.groupOut (s : State) (g : Nat) : Bool := (s.groupUnits g).any s.isOut

/-- A group's rebuild runs, or is paused while its engine or another unit of the group is out (R250, R273). -/
def State.rebuildSync (g : Nat) (s : State) : State :=
  let r := s.rebuild g
  if r.unit = 0x3FF then s
  else s.modRebuild g fun r => { r with state := if s.isOut 0x29B || s.groupOut g then 2 else 1 }

/-- A unit that is fenced again abandons its part of the rebuild (R250). -/
def State.rebuildFence (g src : Nat) (s : State) : State :=
  let r := s.rebuild g
  let s := if r.unit = src then
      (if r.second = 0x3FF then s.modRebuild g fun _ => {} else s.modRebuild g fun r => { r with unit := r.second, second := 0x3FF })
    else if r.second = src then s.modRebuild g fun r => { r with second := 0x3FF }
    else s
  (s.rebuildSync g).storeWrite 88

/-- A re-admitted die or channel is rebuilt from PT' 0; with a rebuild in its group, one rebuild covers both; one whose rebuild a reset cut
off goes on from its cursor (R247, R250, R275). -/
def State.startRebuild (g src : Nat) (s : State) : State :=
  let s := s.modRebuild g fun r =>
    if r.unit = 0x3FF then { unit := src, state := 1, start := s.tim.opTime }
    else if r.unit = src ∨ r.second = src then r
    else { r with second := src, cursor := 0, persisted := 0, touched := [] }
  (s.rebuildSync g).storeWrite 88

/-! ## Effects of a fence (R272, R273) -/

/-- Reads that waited for a line of a die go to reconstruction (R130). -/
def State.lostReads (d : Nat) (s : State) : State :=
  forEach ((range' (d * 4) 4).flatMap fun k => s.rdp.reads.map fun r => (k, r.1)) (fun x => State.waitedRead x.1 x.2) s

/-- A die leaves service. -/
def State.fenceDie (d : Nat) (s : State) : State := ((s.dropDie d).lostReads d).migSync

/-- Media domains of a channel that a fence switches off (R182). -/
def State.stacksOff (c : Nat) (s : State) : State :=
  forEach (range' (32 + 4 * c) 4) (fun d => fun s => if s.offByFence d then s.modDomain d fun _ => {} else s) s

/-- A staging fence that ends data service (R33): both members of a pair; a second part while a group A part is out; any part while the
parity of a group B part is being recomputed. -/
def State.stagingLoses (s : State) (n : Nat) : Bool :=
  let out := (List.range 16).filter fun m => m != n && s.partOut m
  out.contains ((n + 8) % 16) || (out.any fun m => decide (m < 8)) || (s.stg.parityDue.any fun m => m != n)

/-- Both members of a pair are out: its entries are lost, its dirty tracts Suspect, through the checkpoint (R158, 08 R187). -/
def State.pairLost (n : Nat) (s : State) : State :=
  let ts := s.wb.dirty.filter fun t => pairOfTract t == n && decide (t < logicalTracts)
  let s := s.modWb fun w => { w with ents := w.ents.filter fun e => pairOfTract (e.1 / 16384) != n, flushBroken := true }
  (forEach ts (fun t => State.putEntry t fun e => { e with state := .suspect }) s).bufferSync

/-- A staging part leaves service (R32, R158): its cache lines miss; a group B part's parity is recomputed and its wear band
reloaded. -/
def State.fencePart (n : Nat) (s : State) : State :=
  let s := s.modWb fun w => { w with singlePairs := w.singlePairs ||| 2 ^ (n % 8) }
  let s := s.modItg fun x => { x with cache := x.cache.filter fun k => Config.cachePart k % 16 != n }
  let s := s.modStg fun x => { x with restoring := removeNat n x.restoring }
  let s := if 8 ≤ n then
      s.modStg fun x => { x with parityDue := insertSorted n x.parityDue, bandDue := insertSorted n x.bandDue }
    else s
  if s.partOut ((n + 8) % 16) then s.pairLost (n % 8) else s

/-- The T1S path leaves service: its sessions close (R272, 12 R301). -/
def State.fenceT1s (s : State) : State :=
  let s := s.modWop fun w => { w with plca := 0, answerDue := false }
  forEach (Tab.keysWhere (fun (x : SessS) => decide (x.path = 0)) s.wop.sess) State.closeSess s

/-- An engine leaves service (R273). -/
def State.fenceEngine (src : Nat) (s : State) : State :=
  if src = 0x298 then
    forEach (s.trc.migs.filter fun m => m.early) (fun m => State.abandon m.tract true false) s
  else if src = 0x299 then s.stopPasses
  else if src = 0x29B then forEach [0, 1, 2, 3] State.rebuildSync s
  else s

/-- What stops and what takes over when a unit leaves service (R272). -/
def State.fenceEffects (src : Nat) (s : State) : State :=
  let s := match unitKind src with
    | some .die =>
      let g := groupOfDie src
      (((s.fenceDie src).fenceMigrations g).stacksOff (src / 16)).rebuildFence g src
    | some .channel =>
      let c := src - 0x240
      let g := groupOfChannel c
      let s := forEach (range' (c * 16) 16) State.fenceDie s
      (((s.modChannel c fun x => { x with state := 0 }).fenceMigrations g).stacksOff c).rebuildFence g src
    | some .part => s.fencePart (src - 0x270)
    | some .port => s.linksSync
    | some .head => s.linksSync
    | some .engine => s.fenceEngine src
    | some .t1s => s.fenceT1s
    | none => s
  s.boundSync.mapStep

/-- The C3 that a fence leads to: a lost parity group, lost staging service (R33, R271). -/
def State.fenceVerdict (s : State) (src : Nat) : Option (Nat × Nat) :=
  match unitKind src with
  | some .part => if s.stagingLoses (src - 0x270) then some (src, 0x34) else none
  | some .die =>
    if 2 ≤ (s.otherUnits (groupOfDie src) src).length then some (0x295, 0x55) else none
  | some .channel =>
    let l := s.otherUnits (groupOfChannel (src - 0x240)) src
    if 2 ≤ l.length ∨ (l.any fun u => decide (unitKind u = some .channel)) then some (0x295, 0x55) else none
  | _ => none

/-- Report the C3 that a fence led to; its flush cannot drain everything (R280). -/
def State.verdict (v : Option (Nat × Nat)) (s : State) : State :=
  match v with
  | some (src, kind) => (s.modWb fun w => { w with flushBroken := true }).report src kind none
  | none => s

/-- The quiet timer starts, or starts again (R274). -/
def State.startQuiet (src : Nat) (s : State) : State :=
  s.modUnit src fun u => { u with quiet := s.tim.opTime + 1, waitsChannel := false }

/-- A command on a unit ends with an outcome (R277). -/
def State.cmdDone (src outcome : Nat) (s : State) : State :=
  let n := Tab.rd 0 s.flt.cmdSlots src
  if n = 0 then s
  else (s.modFlt fun x => { x with cmdSlots := Tab.set 0 x.cmdSlots src 0 }).ticketDone (n - 1) outcome []

/-! ## Probes (R274–R278) -/

/-- Whether a probe must wait: for the die's channel, for the probe of another unit of the group, for Cox (R274, R278, R424). -/
def State.probeBlocked (s : State) (src : Nat) : Bool :=
  !s.coxUp
    || (decide (unitKind src = some .die) && s.isOut (srcChannel (src / 16)))
    || (match unitGroup src with
        | some g => s.flt.units.any fun u => decide (u.2.state = .probing ∧ unitGroup u.1 = some g)
        | none => false)

/-- Domains that a probe powers on its own (R347). -/
def probeDomains (src : Nat) : List Nat :=
  match unitKind src with
  | some .die => [32 + src / 16 * 4 + src % 16 / 4]
  | some .channel => range' (32 + 4 * (src - 0x240)) 4
  | _ => []

/-- A probe begins (R276). -/
def State.startProbe (src : Nat) (s : State) : State :=
  let s := s.modUnit src fun u => { u with state := .probing, fromHeld := decide (u.state = .held), quiet := 0, waitsChannel := false }
  let s := forEach (probeDomains src) (fun d => fun s =>
    if (s.domain d).state = 3 then s else s.modDomain d fun x => { x with state := 1 }) s
  match unitKind src with
  | some .part => s.modSram (src - 0x270) fun x => { x with ready := false }
  | _ => s

/-- The quiet timer ends, or the Operator asks: the unit is probed, waits, or is latched (R274). -/
def State.askProbe (src : Nat) (s : State) : State :=
  if 3 ≤ s.recoveryCount src then
    (((s.modUnit src fun u => { u with state := .latched, quiet := 0, waitsChannel := false }).storeWrite 89).report src 0x03 none).cmdDone src 0x07
  else if s.probeBlocked src then s.modUnit src fun u => { u with quiet := 0, waitsChannel := true }
  else s.startProbe src

/-- Units whose probe waited are probed, the lowest source first (R278). -/
def State.probeWaiting (s : State) : State :=
  forEach ((s.flt.units.filter fun u => u.2.waitsChannel).map Prod.fst)
    (fun src => fun s => if s.probeBlocked src then s else s.startProbe src) s

/-- The probe of a unit ends without its re-admission: the stacks that it powered go off, a copy into a staging part stops (07 R182, R274). -/
def State.probeStopped (src : Nat) (s : State) : State :=
  match unitKind src with
  | some .channel => s.stacksOff (src - 0x240)
  | some .die => s.stacksOff (src / 16)
  | some .part => s.modStg fun x => { x with restoring := removeNat (src - 0x270) x.restoring }
  | _ => s

/-- A reaction fences a unit (R271, R274, R278). A die whose channel is out is only counted. -/
def State.reactionFence (src : Nat) (s : State) : State :=
  let s := s.modFlt fun x => { x with fences := x.fences + 1 }
  if decide (unitKind src = some .die) && s.isOut (srcChannel (src / 16)) && decide ((s.unit src).state = .active) then s
  else match (s.unit src).state with
  | .active =>
    let v := s.fenceVerdict src
    let s := (s.modUnit src fun u => { u with state := .fenced }).startQuiet src
    (s.fenceEffects src).verdict v
  | .rebuilding =>
    let s := (s.modUnit src fun u => { u with state := .fenced }).startQuiet src
    s.fenceEffects src
  | .fenced => s.startQuiet src
  | .held => ((s.modUnit src fun u => { u with state := .fenced }).startQuiet src).boundSync
  | .probing => ((((s.modUnit src fun u => { u with state := .fenced }).startQuiet src).probeStopped src).cmdDone src 0x07).probeWaiting
  | .latched => s

/-- The clock of a re-admitted unit runs again: a later loss of it is a new one (01 R28). -/
def State.clockBack (c : Nat) (s : State) : State := s.modPwr fun p => { p with lostClocks := removeNat c p.lostClocks }

/-- A die's probe passes: every result matches, no REF, no correction above 4 bits (07 R183). -/
def dieProbePasses (d : DieProbe) : Bool :=
  d.trimOk && decide (d.verified = 4 ∧ d.wrong = 0 ∧ d.fallbacks = 0 ∧ d.worstBits ≤ 4)

/-- The dies that the probe of a unit probes, with what it finds: the die itself, or every die of the channel that is not fenced (07 R183,
R278). -/
def State.probedDies (s : State) (src : Nat) (f : ProbeFind) : List (Nat × DieProbe) :=
  match unitKind src with
  | some .die => [(src, f.dies.headD {})]
  | some .channel =>
    let c := src - 0x240
    ((List.range 16).filter fun d => !s.isOut (c * 16 + d)).map fun d => (c * 16 + d, f.dies.getD d {})
  | _ => []

/-- Whether a probe passes (07 R183, R276). -/
def State.probePasses (s : State) (src : Nat) (f : ProbeFind) : Bool :=
  let dies := (s.probedDies src f).all fun d => dieProbePasses d.2
  match unitKind src with
  | some .die => dies
  | some .channel => f.trained && dies
  | _ => f.pass

/-- A probe programs four granules of each die's probe sector and senses them 256 times (07 R183). -/
def State.probeCounts (src : Nat) (f : ProbeFind) (s : State) : State :=
  forEach (s.probedDies src f) (fun d => State.modDie d.1 fun x =>
    { x with probePrograms := x.probePrograms + 4, programs := x.programs + 4, senses := x.senses + 256, fallbacks := x.fallbacks + d.2.fallbacks })
    s

/-- A unit that has passed is back in service (R274, R276). -/
def State.readmit (src : Nat) (s : State) : State :=
  let now := match unitKind src with
    | some .die => UnitState.rebuilding
    | some .channel => .rebuilding
    | _ => .active
  let s := s.modUnit src fun u =>
    { u with
      state := now, fromHeld := false
      readmissions := s.tim.opTime :: u.readmissions.filter fun t => decide (s.tim.opTime < t + 86400000) }
  let s := (s.modSource src fun x => { x with hour := [] }).storeWrite 89
  let s := forEach (probeDomains src) (fun d => State.modDomain d fun x => { x with state := 3 }) s
  let s := match unitKind src with
    | some .die => s.startRebuild (groupOfDie src) src
    | some .channel => ((s.modChannel (src - 0x240) fun x => { x with state := 2 }).startRebuild (groupOfChannel (src - 0x240)) src)
    | some .port => (s.clockBack (src - 0x280)).linksSync
    | some .head => s.linksSync
    | some .engine => if src = 0x29B then forEach [0, 1, 2, 3] State.rebuildSync s else s
    | some .t1s => if s.coxUp then s.plcaStart else s
    | _ => s
  ((s.report src 0x02 none).cmdDone src 0x00).boundSync.mapStep

/-- A probe fails (R274): Held again when it came from Held, else Fenced with its timer. -/
def State.probeFailed (src : Nat) (s : State) : State :=
  let held := (s.unit src).fromHeld
  let s := s.modUnit src fun u => { u with state := if held then .held else .fenced, fromHeld := false }
  let s := if held then s else s.startQuiet src
  (((s.probeStopped src).report src 0x01 none).cmdDone src 0x07).boundSync

/-- QUIET_TIMER_EXPIRY (11 R274). -/
def execQuietTimerExpiry (src : Nat) (s : State) : Res :=
  if (s.unit src).state = .fenced ∧ (s.unit src).quiet ≠ 0 then .next (s.askProbe src) else .next s

/-- PROBE_COMPLETE (07 R183, 11 R276): a staging part goes on to the copy of R159, which is the last part of its probe. -/
def execProbeComplete (src : Nat) (find : ProbeFind) (s : State) : Res :=
  if (s.unit src).state ≠ .probing then .next s
  else
  let s := s.probeCounts src find
  if !s.probePasses src find then .next (s.probeFailed src).probeWaiting
  else match unitKind src with
  | some .part =>
    .next ((s.modSram (src - 0x270) fun x => { x with ready := true }).modStg fun x =>
      { x with restoring := insertSorted (src - 0x270) x.restoring })
  | _ => .next (s.readmit src).probeWaiting

/-- PROBE_TIMEOUT (11 R276). -/
def execProbeTimeout (src : Nat) (s : State) : Res :=
  if (s.unit src).state = .probing then .next (s.probeFailed src).probeWaiting else .next s

/-! ## Operator commands (R277) -/

/-- An Operator fence of an Active unit is refused (R271). -/
def State.fenceRefused (s : State) (req : Req) (src : Nat) : Bool :=
  let others := fun (mine : Nat → Bool) => (List.range 8).any fun h => !mine h && s.linkUp h
  match unitKind src with
  | some .die => !(s.otherUnits (groupOfDie src) src).isEmpty
  | some .channel => !(s.otherUnits (groupOfChannel (src - 0x240)) src).isEmpty
  | some .part => s.stagingLoses (src - 0x270)
  | some .port => !others fun h => h / 2 == src - 0x280
  | some .head => !others fun h => h == src - 0x288
  | some .t1s => req.path == 0
  | _ => false

/-- A unit becomes Held: no timer (R274). -/
def State.hold (src : Nat) (s : State) : State :=
  s.modUnit src fun u => { u with state := .held, quiet := 0, waitsChannel := false, fromHeld := false }

/-- The Operator fence as an operation with its outcome (R271, R274). -/
def State.operatorFenceNow (req : Req) (src : Nat) (s : State) : Nat × State :=
  match (s.unit src).state with
  | .active => if s.fenceRefused req src then (0x07, s) else (0x00, ((s.hold src).fenceEffects src))
  | .fenced => (0x00, (s.hold src).cmdDone src 0x07)
  | .probing => (0x00, (((s.hold src).probeStopped src).cmdDone src 0x07).probeWaiting)
  | .rebuilding => (0x00, (s.hold src).fenceEffects src)
  | .held => (0x07, s)
  | .latched => (0x07, s)

/-- OPERATOR_FENCE as an access (R277): a source that is not fenceable is refused at once. -/
def State.fenceOp (req : Req) (src : Nat) (s : State) : Acc :=
  if unitKind src = none then s.answer 0x06
  else s.deferred req 0x4003 0 (fun n => fun s =>
    let r := s.operatorFenceNow req src
    r.2.ticketDone n r.1 [])

/-- OPERATOR_FENCE (11 R277). -/
def execOperatorFence (req : Req) (src : Nat) (s : State) : Res :=
  accessed s (respondAccess req 0x4003 0 (guarded req 0x4003 0 (State.fenceOp req src) s))

/-- OPERATOR_READMIT as an access: state conflict for a unit that is neither Fenced nor Held, and in Easy-all after C3 (R277,
R278). -/
def State.readmitOp (req : Req) (src : Nat) (s : State) : Acc :=
  if unitKind src = none then s.answer 0x06
  else s.deferred req 0x4003 0 (fun n => fun s =>
    let st := (s.unit src).state
    if (st = .fenced ∨ st = .held) ∧ ¬ (s.inEasy ∧ s.cause 0) then
      ((s.cmdDone src 0x07).modFlt fun x => { x with cmdSlots := Tab.set 0 x.cmdSlots src (n + 1) }).askProbe src
    else s.ticketDone n 0x07 [])

/-- OPERATOR_READMIT (11 R277). -/
def execOperatorReadmit (req : Req) (src : Nat) (s : State) : Res :=
  accessed s (respondAccess req 0x4003 0 (guarded req 0x4003 0 (State.readmitOp req src) s))

/-- The latch release as an access (R274, R277). -/
def State.latchReleaseOp (req : Req) (src : Nat) (s : State) : Acc :=
  if unitKind src = none then s.answer 0x06
  else s.deferred req 0x4003 1 (fun n => fun s =>
    if (s.unit src).state = .latched then
      (((s.modUnit src fun u => { u with state := .fenced, readmissions := [] }).startQuiet src).storeWrite 89).ticketDone n 0 []
    else s.ticketDone n 0x07 [])

/-- LATCH_RELEASE (11 R277). -/
def execLatchRelease (req : Req) (src : Nat) (s : State) : Res :=
  accessed s (respondAccess req 0x4003 1 (guarded req 0x4003 1 (State.latchReleaseOp req src) s))

/-! ## The collector (R23, R267–R270) -/

/-- The reaction object of a unit's type (0x4001.uu): C1 threshold × 256 + C2 reaction. -/
def reactionMember : UnitKind → Option Nat
  | .die => some 0
  | .channel => some 1
  | .part => some 2
  | .port => some 3
  | .head => some 4
  | .engine => some 5
  | .t1s => none

/-- C1 messages counted for a source in this minute (R268). -/
def State.countHour (src : Nat) (s : State) : State :=
  let m := s.tim.opTime / 60000
  s.modSource src fun x =>
    { x with hour := match x.hour with
      | (k, n) :: r => if k = m then (k, n + 1) :: r else (m, 1) :: (k, n) :: r.filter fun e => decide (m < e.1 + 60)
      | [] => [(m, 1)] }

/-- Step 1 of R269: the counts. A C3 message is counted here, whether or not its fatal line has acted. -/
def State.countMessage (src cls : Nat) (s : State) : State :=
  let s := s.modFlt fun x => { x with taken := x.taken + 1, classes := modNth x.classes cls (· + 1) }
  let s := s.modSource src fun x => { x with counts := modNth x.counts cls (· + 1) }
  if cls = 1 then s.countHour src else s

/-- Step 2 of R269: the reaction of the class and the target (R267). -/
def State.react (m : Word64) (s : State) : State :=
  let src := msgSource m
  let cls := kindClass (msgKind m)
  let s := if 1 ≤ cls ∧ (s.unit src).state = .fenced then s.startQuiet src else s
  match cls, fenceTarget src (msgKind m) (msgAddr m) (msgAv m) with
  | 1, some t =>
    match (unitKind t).bind reactionMember with
    | some k =>
      let limit := s.cfg 0x4001 k / 256
      if limit ≠ 0 ∧ limit ≤ s.hourCount src then s.reactionFence t else s
    | none => s
  | 2, some t =>
    let s := s.reactionFence t
    match (unitKind t).bind reactionMember with
    | some k =>
      if s.cfg 0x4001 k % 256 = 2 then (s.modEasy fun e => { e with stopUnits := insertSorted t e.stopUnits }).easyEnter 1 else s
    | none => s
  | 2, none => if msgKind m = 0x53 ∧ essentialEngine src then s.easyEnter 7 else s
  | 3, _ => if s.cause 0 then s else s.fatal m
  | _, _ => s

/-- Steps 3 and 4 of R269: the Logbook record; for C2 and C3 an event queue record of type 0x04 for every head, which names that
record. -/
def State.recordFault (m : Word64) (s : State) : Nat × State :=
  let cls := kindClass (msgKind m)
  let r := s.logE (.fault m)
  if 2 ≤ cls then
    (r.1, forEach allHeads (fun h => State.eqPost h 4 (msgSource m) r.1 (payload32 (be 8 m.toNat ++ be 1 cls))) r.2)
  else r

/-- Messages lost are recorded once the queue is below half full (R23). -/
def State.queueLossCheck (s : State) : State :=
  if s.flt.lost ≠ 0 ∧ s.flt.queue.length < 128 then
    (s.record (.queueLoss s.flt.lost)).modFlt fun x => { x with lost := 0 }
  else s

/-- FAULT_MESSAGE_TAKEN (11 R269). -/
def execFaultMessageTaken (s : State) : Res :=
  match s.flt.queue with
  | [] => .next s
  | m :: rest =>
    let cls := kindClass (msgKind m)
    let s := s.modFlt fun x => { x with queue := rest }
    let r := ((s.countMessage (msgSource m) cls).react m).recordFault m
    let s := r.2.notify (fun x => decide (x.kind = .faultClasses) && testBit x.mask cls) (be 8 m.toNat)
    let s := s.fireWhere (fun d => decide (d.trigger = 2 ∧ d.param ≤ cls) || decide (d.trigger = 3 ∧ d.param = msgKind m)) r.1
    .next s.queueLossCheck

/-- FATAL_LINE_ASSERT (01 R23): a source's C3 condition reaches the collector whether or not its message is queued. -/
def execFatalLineAssert (msg : Word64) (s : State) : Res :=
  if kindClass (msgKind msg) = 3 then
    .next (s.report (msgSource msg) (msgKind msg) (if msgAv msg then some (msgAddr msg) else none))
  else .next s

/-- STICKY_BIT_PERSIST (11 R270): while Cox is absent the write waits (R424). -/
def execStickyBitPersist (src : Nat) (s : State) : Res :=
  if s.flt.stickyDue.contains src ∧ s.coxUp then
    .next ((s.modFlt fun x => { x with stickyDue := removeNat src x.stickyDue }).storeWrite 90)
  else .next s

/-- Clear the sticky bits that a write names, but for those of messages that came while it was in progress (R270). -/
def State.clearSticky (member : Nat) (ones : Nat) (s : State) : State :=
  let named := fun (n : Nat) => n / 64 == member && testBit ones (n % 64)
  let hit := fun (x : FaultS) (n : Nat) => named n && !x.stickyAgain.contains n
  s.modFlt fun x =>
    { x with
      sticky := x.sticky.filter fun n => !hit x n, stickyDue := x.stickyDue.filter fun n => !hit x n
      stickyAgain := x.stickyAgain.filter fun n => !named n }

/-- A write of 0x4010.mm (R270, R311). -/
def State.stickyOp (req : Req) (member ones : Nat) (s : State) : Acc :=
  if s.configLocked then s.answer 0x07
  else if s.storeBusy then
    s.deferred req 0x4010 member (fun n => fun s =>
      (s.modObj fun o => { o with deferred := Tab.set (0, 0) o.deferred n (objKey 0x4010 member + 1, ones) }).manage 1 req 0 0x4010 member
        (s.slot n).ticket 0 (be 8 ones))
  else
    (((s.storeConfig).manage 1 req 0 0x4010 member 0 0 (be 8 ones)).clearSticky member ones).answer 0

/-- STICKY_BIT_CLEAR (11 R270). -/
def execStickyBitClear (member : Nat) (ones : Word64) (s : State) : Res :=
  accessed s (respondAccess byOperator 0x4010 member (s.stickyOp byOperator member ones.toNat))

/-- ENGINE_TIMEOUT (11 R266): kind 0x53 from an engine, with the tract. -/
def execEngineTimeout (src tract : Nat) (s : State) : Res :=
  if unitKind src = some .engine ∨ essentialEngine src then .next (s.report src 0x53 (some (tract % 2 ^ 24))) else .next s

/-! ## Clocks (01 R28) -/

/-- The clocks whose loss is C3: core, channel groups, staging, keel, seat bus, thermal ADC. -/
def clockFatal (c : Nat) : Bool := decide (4 ≤ c ∧ c ≤ 10) || c == 12 || c == 13

/-- Loss of the core, a channel group or the staging clock leaves entries that cannot be drained (R28, R280). -/
def clockBreaks (c : Nat) : Bool := decide (4 ≤ c ∧ c ≤ 9)

/-- A driver pulls HALT_N low (15 R354); the line's recognition is HALT_N_LOW. -/
def State.driveHalt (who : Nat) (s : State) : State :=
  s.modPwr fun p => { p with haltDrivers := insertSorted who p.haltDrivers }

/-- CLOCK_LOST (01 R28). -/
def execClockLost (clock : Nat) (s : State) : Res :=
  if 13 < clock ∨ s.pwr.lostClocks.contains clock then .next s
  else
    let s := s.modPwr fun p => { p with lostClocks := insertSorted clock p.lostClocks, keelFallback := p.keelFallback || clock == 10 }
    let s := s.when (clockBreaks clock) (State.modWb fun w => { w with flushBroken := true })
    let s := s.when (clock == 12) (State.driveHalt 0)
    .next (s.report 0x2F6 (if clockFatal clock then 0x81 else 0x80) (some clock))

end Sys2Proof.Machine
end

