-- ==== Sys2Proof/Machine/Staging.lean ====
section
/-! DEFINITION. Staging SRAM and keel SRAM: initialisation, self-test, patrol, restoration (01 R31–R34, 06 R159, 10 R252–R256). -/

namespace Sys2Proof.Machine

/-- The pinned nodes that have content of their own: level and index. -/
def State.pinnedNodes (s : State) : List (Nat × Nat) :=
  ((s.itg.nodes.map Prod.fst).filter fun k => decide (4 * 2 ^ 32 ≤ k ∧ k < 10 * 2 ^ 32)).map fun k => (k / 2 ^ 32, k % 2 ^ 32)

/-- A parity word is computed afresh from the eight bands (R31, R32). -/
def State.reparityWord (w : Nat) (s : State) : State :=
  let v := (bandMates w).foldl (fun a n => a ^^^ s.node n.1 n.2) 0
  s.modStg fun x => { x with parity := Tab.put shipParity x.parity w v }

/-- The parity words of a group B part are computed afresh (R32, 06 R159). -/
def State.reparityPart (part : Nat) (s : State) : State :=
  let words := ((s.pinnedNodes.map fun n => pinnedOffset n.1 n.2 % bandBytes / 64).filter fun w => parityPart w == part).dedup
  (forEach words State.reparityWord s).modStg fun x => { x with parityDue := removeNat part x.parityDue }

/-- STAGING_PARITY_RECOMPUTE_DONE (01 R32). -/
def execStagingParityRecomputeDone (part : Nat) (s : State) : Res :=
  if s.stg.parityDue.contains part then .next (s.reparityPart part) else .next s

/-- The band of the wear and read-count table that a group B part holds. DESIGN CHOICE: the spec does not say which entries lie in which
band; the model gives part 8 + n the n-th eighth of the physical and of the logical tracts (notes/assumptions/72.md). -/
def wearBand (part pts n : Nat) : Bool := decide (8 + n / (pts / 8) = part)

/-- A wear band is reloaded from the last checkpoint, its read counts at the checkpoint values; every PEAK raised 256 units (R32,
R191). -/
def State.reloadBand (part : Nat) (s : State) : State :=
  let mine := fun (pt : Nat) => wearBand part (2 ^ 24) pt
  let tracts := ((s.trc.act ++ s.trc.actCkpt).map Prod.fst).dedup.filter fun t => wearBand part logicalTracts t
  let s := s.modTrc fun x =>
    { x with
      peak := (x.peakCkpt.filter fun e => mine e.1).foldl
        (fun acc e => Tab.set 0 acc e.1 (if e.2 = 0xFFFF then e.2 else min 0xFFFE (e.2 + x.baseCkpt - x.peakBase)))
        (x.peak.filter fun e => !mine e.1 || e.2 == 0xFFFF)
      peakBase := x.peakBase + 256 }
  forEach tracts (fun t => fun s =>
    let c := Tab.rd {} s.trc.actCkpt t
    s.modActivity t fun a => { a with reads := c.reads, since := c.since, senses := 0, heat := c.heat, occ := c.occ }) s

/-- WEAR_BAND_RELOAD_DONE (01 R32, 08 R191). -/
def execWearBandReloadDone (part : Nat) (s : State) : Res :=
  if s.stg.bandDue.contains part then .next ((s.modStg fun x => { x with bandDue := removeNat part x.bandDue }).reloadBand part) else .next s

/-- A pinned node is written back as reconstruction gives it (R31, R32, 09 R231). -/
def State.restorePinned (level index : Nat) (s : State) : State :=
  let l := s.rebuiltPinned level index
  s.modItg fun x => { x with nodes := Tab.put shipNode x.nodes (nodeIdx level index) l }

/-- The band of a group A part is written from reconstruction (06 R159). -/
def State.restoreBand (part : Nat) (s : State) : State :=
  forEach (s.pinnedNodes.filter fun n => pinnedOffset n.1 n.2 / bandBytes == part) (fun n => State.restorePinned n.1 n.2) s

/-- SINGLE is cleared from the entries of a pair as their copies complete (R159). -/
def unsingle (e : Entry) : Entry := { e with single := false }

/-- STAGING_PART_RESTORE_DONE (06 R159): the part is Active and its pair mirrored again; a group A part has its band back, a group B part its parity and its
wear band. -/
def execStagingPartRestoreDone (part : Nat) (s : State) : Res :=
  if s.stg.restoring.contains part ∧ (s.unit (srcPart part)).state = .probing then
    let s := s.modStg fun x => { x with restoring := removeNat part x.restoring, bandDue := removeNat part x.bandDue }
    let s := s.modWb fun w =>
      { w with
        singlePairs := w.singlePairs - bit (testBit w.singlePairs (part % 8)) * 2 ^ (part % 8)
        ents := Tab.remap {} (fun key l => if pairOfTract (key / 16384) = part % 8 then
          { opened := l.opened.map unsingle, drain := l.drain.map unsingle } else l) w.ents }
    let s := if 8 ≤ part then (s.reparityPart part).reloadBand part else s.restoreBand part
    .next (s.readmit (srcPart part)).probeWaiting
  else .next s

/-- A staging part whose checker fails is fenced before use (R256). -/
def State.partCheckFailed (n : Nat) (s : State) : State :=
  (s.modScr fun x => { x with selfTest := modNth x.selfTest 2 (· ||| 2 ^ n), selfTestAt := s.tim.opTime }).report (srcPart n) 0x32 none

/-- A line ECC pipe or a channel's header checker fails its self-test: C3, and the core does not reach data ready (R256). -/
def State.coreCheckFailed (k n : Nat) (s : State) : State :=
  (s.modScr fun x => { x with selfTest := modNth x.selfTest k (· ||| 2 ^ n), selfTestAt := s.tim.opTime }).report 0x2FA 0x88 none

/-- SRAM_INIT_DONE (10 R253, R256): `which` is a staging part 0–15, the keel SRAM 16, the mailbox buffers 17; the self-tests of the core's
other checkers come with it: 32–63 an ECC pipe, 64–99 the header checker of a channel (notes/assumptions/83.md). -/
def execSramInitDone (which : Nat) (checkerOk : Bool) (s : State) : Res :=
  if 32 ≤ which ∧ which < 100 then
    if checkerOk ∨ !s.coreOn then .next s
    else .next (if which < 64 then s.coreCheckFailed 0 (which - 32) else s.coreCheckFailed 1 (which - 64))
  else if 17 < which then .next s
  else if checkerOk then .next (s.modSram which fun x => { x with ready := true }).mapStep
  else if which < 16 then .next (s.partCheckFailed which)
  else if which = 16 then
    .next ((s.modScr fun x => { x with selfTest := modNth x.selfTest 3 fun _ => 1, selfTestAt := s.tim.opTime }).modStr
      fun x => { x with keelFailed := true })
  else .next s

/-- A staged Logbook record whose word is lost becomes a damage marker with its sequence (R254, R336): the oldest one. -/
def State.damage (word : Nat) (s : State) : State :=
  s.modLog fun l => { l with staged := match l.staged with
    | r :: rest => { r with body := .damage word } :: rest
    | [] => [] }

/-- The word of the wear and read-count table held some entries; which ones the spec does not say, so a draw says it: their PEAK is
raised 256 units and their READS set to the read-disturb threshold (R254, R191, R196). -/
def State.wearWordLost (s : State) : State :=
  let d := s.draw
  let pts := range' (Config.freeNat d.1 % 2 ^ 22 * 4) 4
  let ts := range' (Config.freeNat d.1 / 2 ^ 22 % 3670016 * 4) 4
  let s := forEach pts (fun pt => State.raisePeak pt 256) d.2
  forEach ts (fun t => fun s =>
    (s.modActivity t fun a => { a with reads := s.cfg 0x3100 1, since := s.trc.scans }).queueMig t 3) s

/-- The cache line of the word counts as a miss; which line the word holds is open (R225, R254). -/
def State.cacheWordLost (s : State) : State :=
  let d := s.draw
  d.2.modItg fun x => { x with cache := x.cache.eraseIdx (Config.freeNat d.1 % (x.cache.length + 1)) }

/-- Neither member of a pair has a word of mirrored state. A buffer slot's entry is lost: at its drain for a data entry (06 R160), at once
for a node entry, whose tract is integrity-lost (09 R231); any other word is a C3. -/
def State.mirrorLost (which word : Nat) (s : State) : State :=
  let (area, off) := areaAt (areasOf which) (word * 8)
  let pair := which % 8
  let hit := s.wb.ents.find? fun e => pairOfTract (e.1 / 16384) == pair
    && (e.2.opened.toList ++ e.2.drain.toList).any fun x => x.slot == off / slotBytes
  match hit with
  | some (key, l) =>
    if area ≠ .writeBuffer then s.report (srcPart which) 0x33 none
    else if isNodeKey key then
      let s := s.modWb fun w => { w with ents := Tab.mod {} w.ents key fun l => { l with opened := none } }
      let t := (match l.opened with | some x => x.onBehalf | none => 0) - 1
      (s.loseTracts [t] s.modeNow (t * 2 ^ 20)).report (srcPart which) 0x33 none
    else
      let mark := fun (x : Entry) => if x.slot = off / slotBytes then { x with lost := true } else x
      s.modWb fun w => { w with ents := Tab.mod {} w.ents key fun l => { opened := l.opened.map mark, drain := l.drain.map mark } }
  | none => if area = .writeBuffer then s else s.report (srcPart which) 0x33 none

/-- A word of a pinned band is lost: the node is written back from the band parity and counted, or where that cannot be read it is the C3
of lost staging service (01 R31, R33, 09 R231). -/
def State.pinnedLost (which word : Nat) (s : State) : State :=
  let off := (areaAt (areasOf which) (word * 8)).2
  let n := pinnedAt (which * bandBytes + off)
  let p := parityPart (off / 64)
  let readable := !s.partOut p && !s.stg.parityDue.contains p && !((List.range 8).any fun m => m != which && s.partOut m)
  if readable then (s.restorePinned n.1 n.2).modItg fun x => { x with recovered := x.recovered + 1 }
  else s.report (srcPart which) 0x34 none

/-- What an uncorrectable word costs by what it held (R254): mirrored state has another copy while its other member is in service; the
cache's line is fetched again. -/
def State.wordLost (which word : Nat) (holds : SramHolds) (s : State) : State :=
  match holds with
  | .mirrored => if s.memberOut ((which + 8) % 16) then s.mirrorLost which word else s
  | .pinned => s.pinnedLost which word
  | .cache => s.cacheWordLost
  | .wearTable => s.wearWordLost
  | .rootRegister => s.report 0x292 0x56 none
  | .logStaging => s.damage word
  | .tallySnapshot => s.modTly fun x => { x with counts := modNth x.counts 1 (· + 1) }
  | .coxData => s

/-- SRAM_PATROL (10 R254, R255): a corrected word is written back and counted; an uncorrectable one is counted, reported and handled. -/
def State.patrolWord (which word : Nat) (holds : SramHolds) (found : SramFound) (s : State) : State :=
  match found with
  | .clean => s
  | .corrected =>
    (s.modSram which fun x => { x with corrected := x.corrected + 1, corrTimes := s.hourOf x.corrTimes }).partFailing which
  | .uncorrectable =>
    (s.badWord which word).wordLost which word holds

end Sys2Proof.Machine
end

