-- ==== Sys2Proof/Machine/Extents.lean ====
section
/-! DEFINITION. Extents, regions and the mailbox commands about them (04 R94–R109, R446, 06 R161, 08 R201). -/

namespace Sys2Proof.Machine

/-! ## Changes of a pair and of an extent -/

/-- The block that an object belongs to has no power (R312). -/
def State.noBlock (s : State) (idx mem : Nat) : Bool :=
  match rowOf idx mem with
  | some r => decide (r.dom < 12) && !s.domainOn r.dom
  | none => false

/-- One word of the extent journal, which is durable before its change is reported (17 R390). -/
def State.journal (s : State) : State :=
  (s.modExt fun x => { x with journalUsed := x.journalUsed + 1 }).modFls fun f => { f with counts := modNth f.counts 0 (· + 1) }

/-- The code of a pair's state in a record of type 0x03 (R115). -/
def pairEvent : PairState → Nat
  | .free => 0
  | .offered => 1
  | .assigned => 2
  | .releasing => 3
  | .draining => 4

/-- Move a pair of an extent and a head (R95): one journal word and one record for every head that holds the extent in some state, the
head itself among them (R115); the timeout starts. Causes: 0 offer, 1 accept, 2 decline, 3 timeout, 4 release, 5 forced. -/
def State.movePair (e h : Nat) (st : PairState) (cause : Nat) (s : State) : State :=
  let s := (s.modPair e h fun p =>
    if st = .free then {} else { p with state := st, since := s.tim.opTime, paused := 0, cause := cause }).journal
  s.headEvent (allHeads.filter fun x => x == h || decide ((s.pair e x).state ≠ .free)) 3 0x3FF (payload32 (be 2 e ++ be 1 (pairEvent st) ++ be 1 (s.extent e).region ++ be 1 cause))

/-- The extent is Free for every head and no offer of it is under way (R98, R99). -/
def State.freeExtent (s : State) (e : Nat) : Bool := (s.headsOf e).isEmpty && (s.extent e).changing.isNone

/-- A tract of the extent is Suspect (R417, R427). -/
def State.suspectIn (s : State) (e : Nat) : Bool := s.suspects.any fun t => t / 256 == e

/-- The extent becomes Offered for the heads of a mask, with an Add Capacity event each (R95). -/
def State.offerTo (e mask : Nat) (s : State) : State :=
  forEach (maskBits mask) (fun h => fun s => (s.movePair e h .offered 0).cxlEvent h (.capacityEvent h e true)) s

/-! ## Zeroing an extent -/

/-- A Draining unit runs to completion (R161): what it has still to program is programmed, and its slots are freed. -/
def State.runUnit (id : Nat) (s : State) : State :=
  match s.unitOf id with
  | none => s
  | some u =>
    let holding := (s.med.planes.filter fun p => match p.2.op with | some j => j.unit == id | none => false)
    let s := forEach holding (fun p => fun s => match p.2.op with
      | some j => if p.2.result = 3 then s.release j else s
      | none => s) s
    let s := s.modMed fun m =>
      { m with planes := Tab.remap {} (fun _ p => { p with jobs := p.jobs.filter fun j => j.unit != id }) m.planes }
    let s := forEach (u.images.filter fun i => u.left.contains i.1 && !s.dieOut (dieOf i.1))
      (fun i => State.completeOp { target := i.1, image := i.2, unit := id }) s
    let s := forEach (holding.map Prod.fst) (fun k => fun s => (s.modPlane k fun p => { p with result := 0 }).endGrant k) s
    s.finishUnit u

/-- The units of an extent's tracts run to completion. -/
def State.runUnits (e : Nat) (s : State) : State :=
  forEach ((s.wb.units.filter fun u => u.tract / 256 == e).map fun u => u.id) State.runUnit s

/-- The extent's range is returned to the written-never state (R98, R161, R201). -/
def State.sanitizeExtent (e : Nat) (s : State) : State := (s.runUnits e).zeroExtent e

/-- Each tract of the extent has been given a blank physical tract (R201). -/
def State.zeroed (old new : State) (e : Nat) : Bool := (range' (e * 256) 256).all fun t => decide ((old.entry t).pt ≠ (new.entry t).pt)

/-- DC region of a head: base DPA, length, block size; only region 0 has a length (R94). -/
def dcRegion (r : Nat) : Nat × Nat × Nat := if r = 0 then (0, 0xE0000000000, 2 ^ 28) else (0, 0, 0)

/-! ## Offers and releases -/

/-- The result of an offer or release (R446, R321). -/
def extentResult (changed first : Nat) : List Byte := be 2 changed ++ be 2 first ++ zeros 2

/-- The first extent that R103 refuses, none when the offer is accepted. -/
def State.offerRefusal (s : State) (first count mask region : Nat) : Option Nat :=
  let owner := (s.region region).mask
  if owner = 0 ∨ (maskBits mask).any (fun h => !testBit owner h) then some first
  else (range' first count).find? fun e =>
    (s.extent e).changing.isSome || (maskBits mask).any (fun h => decide ((s.pair e h).state ≠ .free))
      || ((s.extent e).region != region && (!s.freeExtent e || s.suspectIn e))

/-- An accepted offer: extents that keep their region are Offered at once; the others first change their region (R95, R98). -/
def State.offerNow (n first count mask region : Nat) (s : State) : State :=
  let l := range' first count
  let change := l.filter fun e => (s.extent e).region != region
  let s := forEach (l.filter fun e => (s.extent e).region == region) (fun e => State.offerTo e mask) s
  let s := forEach change (fun e => State.modExtent e fun x => { x with changing := some (mask + 256 * region, n) }) s
  if change.isEmpty then s.ticketDone n 0x00 (extentResult count 0xFFFF)
  else s.modExt fun x => { x with offers := Tab.set (0, 0) x.offers n (change.length, count) }

/-- The offer as an access (R103, R446). DESIGN CHOICE: a head mask of 0 is accepted: such an offer changes the region and offers the
extents to no head; the spec does not say (notes/assumptions/76.md). -/
def State.offerOp (req : Req) (first count mask region : Nat) (s : State) : Acc :=
  if count = 0 ∨ 4096 < count ∨ extents < first + count ∨ 63 < region ∨ 255 < mask then s.answer 0x06
  else if s.noBlock 0x2121 0 && s.freeSlot.isSome then s.answer 0x0A
  else s.deferred req 0x2121 0 (fun n => fun s =>
    match s.offerRefusal first count mask region with
    | some e => s.ticketDone n 0x07 (extentResult 0 e)
    | none => s.offerNow n first count mask region)

/-- EXTENT_OFFER (04 R95, R446). -/
def execExtentOffer (req : Req) (first count mask region : Nat) (s : State) : Res :=
  accessed s (respondAccess req 0x2121 0 (guarded req 0x2121 0 (State.offerOp req first count mask region) s))

/-- One extent less to change; the offer's ticket is Done with its last (R446). -/
def State.offerStep (n : Nat) (s : State) : State :=
  let o := Tab.rd (0, 0) s.ext.offers n
  if o.1 ≤ 1 then
    (s.modExt fun x => { x with offers := Tab.erase x.offers n }).ticketDone n 0x00 (extentResult o.2 0xFFFF)
  else s.modExt fun x => { x with offers := Tab.set (0, 0) x.offers n (o.1 - 1, o.2) }

/-- REGION_CHANGE_COMPLETE (04 R98): the extent is zeroed, takes its region, loses its hint (R101), and is Offered. The change waits
while there is no blank physical tract for each of its tracts (notes/assumptions/22.md). -/
def execRegionChangeComplete (ext : Nat) (s : State) : Res :=
  match (s.extent ext).changing with
  | none => .next s
  | some c =>
    if !State.zeroed s (s.sanitizeExtent ext) ext then .next s else
    let s := s.sanitizeExtent ext
    let s := (s.modExtent ext fun x => { x with region := c.1 / 256, hint := 0, changing := none }).journal
    .next ((s.offerTo ext (c.1 % 256)).offerStep c.2)

/-- Release one pair: whether the release has a transition from its state, and the state after (R95). -/
def State.releasePair (e h : Nat) (forced : Bool) (s : State) : Bool × State :=
  match (s.pair e h).state, forced with
  | .assigned, false => (true, (s.movePair e h .releasing 4).cxlEvent h (.capacityEvent h e false))
  | .assigned, true => (true, (s.movePair e h .draining 5).cxlEvent h (.capacityEvent h e false))
  | .releasing, true => (true, s.movePair e h .draining 5)
  | _, _ => (false, s)

/-- Release the pairs of an extent: (some changed, some refused), and the state after. -/
def State.releaseExtent (e : Nat) (forced : Bool) (hs : List Nat) (s : State) : (Bool × Bool) × State :=
  match hs with
  | [] => ((false, false), s)
  | h :: r =>
    let a := s.releasePair e h forced
    let b := a.2.releaseExtent e forced r
    ((a.1 || b.1.1, !a.1 || b.1.2), b.2)

/-- Release a range: extents changed, the first refused, and the state after (R446). -/
def State.releaseAll (forced : Bool) (mask : Nat) (l : List Nat) (s : State) : (Nat × Nat) × State :=
  match l with
  | [] => ((0, 0xFFFF), s)
  | e :: r =>
    let a := s.releaseExtent e forced (maskBits mask)
    let b := a.2.releaseAll forced mask r
    ((bit a.1.1 + b.1.1, if a.1.2 then e else b.1.2), b.2)

/-- The release as an access. A head mask of 0 changes nothing, so that the ticket is a state conflict (R446; notes/assumptions/76.md). -/
def State.releaseOp (req : Req) (first count mask : Nat) (forced : Bool) (s : State) : Acc :=
  if extents < first + count ∨ extents ≤ first ∨ 255 < mask then s.answer 0x06
  else if s.noBlock 0x2121 1 && s.freeSlot.isSome then s.answer 0x0A
  else s.deferred req 0x2121 1 (fun n => fun s =>
    let r := s.releaseAll forced mask (range' first count)
    r.2.ticketDone n (if r.1.1 = 0 then 0x07 else 0x00) (extentResult r.1.1 r.1.2))

/-- EXTENT_RELEASE (04 R95, R446). -/
def execExtentRelease (req : Req) (first count mask : Nat) (s : State) : Res :=
  accessed s (respondAccess req 0x2121 1 (guarded req 0x2121 1 (State.releaseOp req first count mask false) s))

/-- EXTENT_RELEASE_FORCED (04 R95, R446). -/
def execExtentReleaseForced (req : Req) (first count mask : Nat) (s : State) : Res :=
  accessed s (respondAccess req 0x2121 1 (guarded req 0x2121 1 (State.releaseOp req first count mask true) s))

/-- OFFER_TIMEOUT (04 R95): paused while Cox is absent (18 R424). -/
def execOfferTimeout (head ext : Nat) (s : State) : Res :=
  if !s.coxUp then .next s else
  match (s.pair ext head).state with
  | .offered => .next (s.movePair ext head .free 3)
  | .releasing => .next (s.movePair ext head .draining 3)
  | _ => .next s

/-- An operation that the head has in flight to the extent: a read, or a write whose completion is owed (R95). -/
def State.extentBusy (s : State) (e h : Nat) : Bool :=
  (s.rdp.reads.any fun r => r.2.head == h && r.2.line / 4194304 == e)
    || s.wb.ents.any fun x => x.1 / 4194304 == e && decide (owedTo h x.2 ≠ 0)

/-- EXTENT_DRAIN_COMPLETE (04 R95): every admitted operation of the head to the extent has completed. -/
def execExtentDrainComplete (head ext : Nat) (s : State) : Res :=
  if (s.pair ext head).state = .draining ∧ ¬ s.extentBusy ext head then
    .next (s.movePair ext head .free (s.pair ext head).cause)
  else .next s

/-! ## Regions (R102, 09 R209) -/

/-- Some extent of the region is held for a head outside the mask, or a change into the region is under way for one (R99). -/
def State.heldOutside (s : State) (r mask : Nat) : Bool :=
  (s.ext.pairs.any fun p => decide (p.2.state ≠ .free) && decide ((s.extent (p.1 / 8)).region = r) && !testBit mask (p.1 % 8))
    || s.ext.extents.any fun e => match e.2.changing with
      | some c => c.1 / 256 == r && (maskBits (c.1 % 256)).any fun h => !testBit mask h
      | none => false

/-- A region's new mask: creation, a new mask, deletion (R102, R209); its status, and the state after. -/
def State.setRegion (r mask : Nat) (s : State) : Nat × State :=
  let old := s.region r
  let changing := s.ext.extents.any fun e => match e.2.changing with
    | some c => c.1 / 256 == r
    | none => false
  if mask = 0 then
    if old.mask ≠ 0 ∧ (s.extentsOf r ≠ 0 ∨ changing) then (0x07, s)
    else (0x00, s.modRegion r fun x => { x with mask := 0, keyed := false })
  else if old.mask = 0 then (0x00, s.modRegion r fun x => { mask := mask, gen := x.gen + 1, keyed := true })
  else if s.heldOutside r mask then (0x07, s)
  else (0x00, s.modRegion r fun x => { x with mask := mask })

/-- A write of 0x2140.rr (R102). -/
def State.regionOp (req : Req) (r mask : Nat) (s : State) : Acc :=
  if 63 < r then s.answer 0x02
  else if 255 < mask then s.answer 0x06
  else if (s.setRegion r mask).1 ≠ 0 then s.answer 0x07
  else if s.noBlock 0x2140 r && !s.configLocked && !(s.storeBusy && s.freeSlot.isNone) then s.answer 0x0A
  else s.putRecord req 0x2140 r (be 1 mask ++ zeros 7) fun s => (s.setRegion r mask).2

/-- REGION_CREATE (04 R102). -/
def execRegionCreate (region mask : Nat) (s : State) : Res :=
  accessed s (respondAccess byCustodian 0x2140 region (s.regionOp byCustodian region mask))

/-- REGION_MASK_CHANGE (04 R102). -/
def execRegionMaskChange (region mask : Nat) (s : State) : Res :=
  accessed s (respondAccess byCustodian 0x2140 region (s.regionOp byCustodian region mask))

/-- REGION_DELETE (04 R102). -/
def execRegionDelete (region : Nat) (s : State) : Res :=
  accessed s (respondAccess byCustodian 0x2140 region (s.regionOp byCustodian region 0))

/-! ## Mailbox commands of the host (R95, R97, R106–R109) -/

/-- Add Dynamic Capacity Response (R95). DESIGN CHOICE: of a pair in a state with no such transition it returns Invalid Input
(notes/assumptions/77.md). -/
def State.capacityResponse (h e : Nat) (accept : Bool) (s : State) : State :=
  if (s.pair e h).state = .offered then
    (if accept then s.movePair e h .assigned 1 else s.movePair e h .free 2).mbReturn h opCapacityResponse mbSuccess []
  else s.mbReturn h opCapacityResponse mbInvalid []

/-- ADD_DYNAMIC_CAPACITY_RESPONSE (04 R95). -/
def execAddDynamicCapacityResponse (head ext : Nat) (accept : Bool) (s : State) : Res :=
  .next (mailboxed head (.addDynamicCapacityResponse head ext accept) (State.capacityResponse head ext accept) s)

/-- Release Dynamic Capacity (R95); without a transition Invalid Input (notes/assumptions/77.md). -/
def State.capacityRelease (h e : Nat) (s : State) : State :=
  match (s.pair e h).state with
  | .assigned => (s.movePair e h .draining 4).mbReturn h opCapacityRelease mbSuccess []
  | .releasing => (s.movePair e h .draining 4).mbReturn h opCapacityRelease mbSuccess []
  | _ => s.mbReturn h opCapacityRelease mbInvalid []

/-- RELEASE_DYNAMIC_CAPACITY (04 R95). -/
def execReleaseDynamicCapacity (head ext : Nat) (s : State) : Res :=
  .next (mailboxed head (.releaseDynamicCapacity head ext) (State.capacityRelease head ext) s)

/-- Extents of a head in one of two states. -/
def State.extentsIn (s : State) (h : Nat) (a b : PairState) : List Nat :=
  (s.ext.pairs.filter fun p => p.1 % 8 == h && decide (p.2.state = a ∨ p.2.state = b)).map fun p => p.1 / 8

/-- Get Dynamic Capacity Extent List (R97, R100): the extents that the head holds or is offered, with their DPA and length. -/
def State.capacityList (h : Nat) (s : State) : State :=
  let l := (s.extentsIn h .assigned .releasing ++ s.extentsIn h .offered .offered).insertionSort (· ≤ ·)
  s.mbReturn h opCapacityList mbSuccess (be 4 l.length ++ l.flatMap fun e => be 8 (e * 2 ^ 28) ++ be 8 (2 ^ 28))

/-- GET_DYNAMIC_CAPACITY_EXTENT_LIST (04 R97). -/
def execGetDynamicCapacityExtentList (head : Nat) (s : State) : Res :=
  .next (mailboxed head (.getDynamicCapacityExtentList head) (State.capacityList head) s)

/-- Set Extent Hint (R101, R106): `form` is false where the payload's length or a reserved field is wrong (R104). -/
def State.setHint (h : Nat) (form : Bool) (first count hint : Nat) (s : State) : State :=
  let l := range' first count
  if form && decide (1 ≤ count ∧ count ≤ 256 ∧ hint ≤ 2) && l.all fun e => decide ((s.pair e h).state = .assigned) then
    (forEach l (fun e => fun s => (s.modExtent e fun x => { x with hint := hint }).journal) s).mbReturn h opSetHint mbSuccess []
  else s.mbReturn h opSetHint mbInvalid []

/-- SET_EXTENT_HINT (04 R106). -/
def execSetExtentHint (head : Nat) (form : Bool) (first count hint : Nat) (s : State) : Res :=
  .next (mailboxed head (.setExtentHint head form first count hint) (State.setHint head form first count hint) s)

/-- Physical tracts of an extent. -/
def State.ptsOf (s : State) (e : Nat) : List Nat := (range' (e * 256) 256).map fun t => (s.entry t).pt

/-- Granules with content on a physical tract. -/
def State.contentOf (s : State) (pt : Nat) : List (Nat × Granule) :=
  s.med.granules.filter fun g => ptOfAddr g.1 == pt && !g.2.blank

/-- What the buffer makes of a line's poison (R127): decided by its entries where one is FULL or poisoned, else none. -/
def LineEnts.poisonNow (l : LineEnts) : Option Bool :=
  match l.opened, l.drain with
  | some o, d => if o.full || o.poison then some o.poison else match d with
    | some d => if d.full || d.poison then some d.poison else none
    | none => none
  | none, some d => if d.full || d.poison then some d.poison else none
  | none, none => none

/-- Poisoned lines of a tract, as line numbers (R109): every line of a Suspect or lost tract; else its poisoned entries, and, where no
newer entry has replaced them, its lines with the persistent poison bit and its blank lines under PZ. -/
def State.poisonedLines (s : State) (t : Nat) : List Nat :=
  if (s.entry t).state = .suspect ∨ (s.entry t).state = .integrityLost then range' (t * 16384) 16384
  else
    let entries := (s.wb.ents.filter fun x => x.1 / 16384 == t && x.2.poisonNow == some true).map Prod.fst
    if (s.entry t).state = .zero then entries
    else
      let written := (s.contentOf (s.readPt t)).flatMap fun g => match dataIndex g.1 with
        | none => []
        | some i => ((List.range 4).filter fun k => !(granLine g.2 k).blank && (granLine g.2 k).poison).map fun k => t * 16384 + i * 4 + k
      let blank := (s.itg.blocks.filter fun b => b.1 / 256 == t && b.2.pz).flatMap fun b =>
        (List.range 64).filterMap fun m => if b.2.minor m = 0 then some (b.1 * 64 + m) else none
      let medium := (written ++ blank).filter fun n => (s.lineEnts n).poisonNow.isNone
      ((medium ++ entries).dedup).insertionSort (· ≤ ·)

/-- Poisoned lines are present in the extent (R107). -/
def State.poisonIn (s : State) (e : Nat) : Bool := (range' (e * 256) 256).any fun t => !(s.poisonedLines t).isEmpty

/-- The oldest EPOCH of the extent: as the sweep's record gives it, plus one (R200); where no sweep has met a granule of it yet, as its
headers give it (R107, R167; notes/assumptions/22.md). -/
def State.oldestEpoch (s : State) (e : Nat) : Nat :=
  let x := s.extent e
  if x.oldest ≠ 0 then x.oldest - 1
  else if x.meeting ≠ 0 then x.meeting - 1
  else ((s.ptsOf e).flatMap fun pt => (s.contentOf pt).map fun g => g.2.hdr.epoch).foldl min s.epochNow

/-- Age in hours of the oldest granule of the extent (R107): an EPOCH unit is 65.536 s. -/
def State.oldestAge (s : State) (e : Nat) : Nat := (s.epochNow - s.oldestEpoch e) * 65536 / 3600000

/-- A granule of the tract waits for a refresh: its map entry says so, it is queued for a rewrite, or its age is due (R107, R185, R200). -/
def State.refreshPending (s : State) (t : Nat) : Bool :=
  let pt := (s.entry t).pt
  (s.entry t).refr || (s.scr.rewrite.any fun a => ptOfAddr a == pt)
    || (s.contentOf pt).any fun g => decide (s.refreshUnits < s.epochNow - g.2.hdr.epoch)

/-- An entry of Get Extent State (R107). DESIGN CHOICE: in the payloads of Get Extent State, of the poison list and of the extent list, the
fields of several bytes have their most significant byte first; the spec does not say (notes/assumptions/78.md). -/
def State.extentEntry (s : State) (h e : Nat) : List Byte :=
  if (s.pair e h).state = .assigned ∨ (s.pair e h).state = .releasing then
    let pts := s.ptsOf e
    let peaks := pts.map fun pt => wearHundredths (s.peakOf pt)
    let migrating := (range' (e * 256) 256).any fun t => (s.running t).isSome
    let refresh := (range' (e * 256) 256).any s.refreshPending
    be 2 e ++ be 1 (s.extent e).hint
      ++ be 1 (bit migrating * 8 + bit (s.poisonIn e) * 4 + bit refresh * 2 + bit (decide (1 < (s.headsOf e).length)))
      ++ be 2 (min 10000 (peaks.foldl max 0)) ++ be 2 (min 10000 (peaks.sum / 256)) ++ be 4 (s.oldestAge e) ++ zeros 4
  else be 2 e ++ [0] ++ be 1 128 ++ zeros 12

/-- Get Extent State (R107). DESIGN CHOICE: a range that runs past extent 57,343 returns Invalid Input (notes/assumptions/78.md). -/
def State.extentStates (h : Nat) (form : Bool) (first count : Nat) (s : State) : State :=
  if form && decide (1 ≤ count ∧ count ≤ 64 ∧ first + count ≤ extents) then
    s.mbReturn h opExtentState mbSuccess ((range' first count).flatMap (s.extentEntry h))
  else s.mbReturn h opExtentState mbInvalid []

/-- GET_EXTENT_STATE (04 R107). -/
def execGetExtentState (head : Nat) (form : Bool) (first count : Nat) (s : State) : Res :=
  .next (mailboxed head (.getExtentState head form first count) (State.extentStates head form first count) s)

/-- UNSUPPORTED_OPCODE (04 R104). -/
def execUnsupportedOpcode (head opcode : Nat) (s : State) : Res :=
  .next (mailboxed head (.unsupportedOpcode head opcode) (State.mbReturn head opcode mbUnsupported []) s)

/-- A standard Sanitize or Secure Erase (R108): the extents Assigned to the head alone; Busy where one holds a Suspect tract, or where there
are too few blank physical tracts (notes/assumptions/22.md). -/
def State.hostSanitize (h opcode : Nat) (s : State) : State :=
  let l := (s.extentsIn h .assigned .assigned).filter fun e => decide (s.headsOf e = [h])
  if s.cfg (0x2100 + h) 3 = 0 then s.mbReturn h opcode mbUnsupported []
  else if l.any s.suspectIn || !(l.all fun e => State.zeroed s (forEach l State.sanitizeExtent s) e) then s.mbReturn h opcode mbBusy []
  else (forEach l State.sanitizeExtent s).mbReturn h opcode mbSuccess []

/-- SANITIZE (04 R108). -/
def execSanitize (head : Nat) (s : State) : Res :=
  .next (mailboxed head (.sanitize head) (State.hostSanitize head opSanitize) s)

/-- SECURE_ERASE (04 R108). -/
def execSecureErase (head : Nat) (s : State) : Res :=
  .next (mailboxed head (.secureErase head) (State.hostSanitize head opSecureErase) s)

/-- Tracts that may hold a poisoned line: those whose entry, granules, entries of the buffer or counter blocks are listed. -/
def State.poisonTracts (s : State) : List Nat :=
  let named := s.trc.map.map Prod.fst ++ (s.wb.ents.map Prod.fst).map (· / 16384) ++ (s.itg.blocks.map Prod.fst).map (· / 256)
  (named.dedup.filter fun t => decide (t < logicalTracts)).insertionSort (· ≤ ·)

/-- Get Poison List (R109): at most 1,024 entries of DPA; the first byte is the overflow flag. -/
def State.poisonList (h : Nat) (s : State) : State :=
  let held := s.extentsIn h .assigned .releasing
  let all := (s.poisonTracts.filter fun t => held.contains (t / 256)).flatMap s.poisonedLines
  s.mbReturn h opPoisonList mbSuccess
    (boolByte (decide (1024 < all.length)) ++ be 2 (min 1024 all.length) ++ (all.take 1024).flatMap fun n => be 8 (n * 64))

/-- GET_POISON_LIST (04 R109). -/
def execGetPoisonList (head : Nat) (s : State) : Res :=
  .next (mailboxed head (.getPoisonList head) (State.poisonList head) s)

end Sys2Proof.Machine
end

