-- ==== Sys2Proof/Machine/FlashArray.lean ====
section
/-! DEFINITION. The boot flash controller: one operation at a time, its order of classes, suspension (17 R388–R394). -/

namespace Sys2Proof.Machine

/-- Sectors of the layout (17 R388). -/
def imageSector (b : Bool) : Nat := if b then 1536 else 0
def areaFSector : Nat := 3072
def optionSector : Nat := 4095

/-- The module runs on the hold-up bank: no erase starts (15 R365, 17 R393). -/
def State.onBank (s : State) : Bool := decide (s.bank.state = 4)

/-- Below 41 V on the bank no program starts (15 R365, 17 R408). -/
def State.noPrograms (s : State) : Bool := decide (s.par.bp = 3)

/-- The class of an operation (R393). -/
def FlashOp.cls : FlashOp → Nat
  | .program c _ => c
  | .erase _ => 5

/-- The sector of an operation. -/
def FlashOp.sector : FlashOp → Nat
  | .program _ n => n
  | .erase n => n

/-- The operation that may start: the first of the lowest class that is allowed (R392, R393). A suspended erase runs again before another
erase starts. -/
def State.flashNext (s : State) : Option FlashOp :=
  let ok := fun (o : FlashOp) => match o with
    | .program _ n => !s.noPrograms && decide (s.fls.suspended ≠ some n)
    | .erase _ => decide (s.fls.depth = 0) && s.fls.suspended.isNone && !s.onBank
  (s.fls.queue.filter ok).foldl (fun (b : Option FlashOp) o => match b with
    | none => some o
    | some c => if o.cls < c.cls then some o else some c) none

/-- Start an operation: the flag of a sector is set before its first erase pulse (R394). -/
def State.flashStart (o : FlashOp) (s : State) : State :=
  s.modFls fun f =>
    { f with
      running := some o, startedAt := s.tim.opTime, queue := f.queue.erase o, minimumRun := false
      ran := (match o with | .erase _ => 0 | .program .. => f.ran)
      flags := (match o with | .erase n => insertSorted n f.flags | .program .. => f.flags) }

/-- An erase that runs stops once a request asks for it and it has run its minimum (R392). -/
def State.flashSuspendNow (s : State) : State :=
  match s.fls.running with
  | some (.erase n) =>
    if s.fls.depth ≠ 0 ∧ ¬ s.fls.minimumRun then
      s.modFls fun f => { f with running := none, suspended := some n, ran := f.ran + (s.tim.opTime - f.startedAt) }
    else s
  | _ => s

/-- The controller goes on: a program first, then the suspended erase at depth 0, then a waiting erase (R392, R393). -/
def State.flashKick (s : State) : State :=
  let s := s.flashSuspendNow
  if s.fls.running.isSome then s else
  match s.flashNext with
  | some (.program c n) => s.flashStart (.program c n)
  | next =>
    match s.fls.suspended with
    | some n =>
      if s.fls.depth = 0 then
        s.modFls fun f => { f with running := some (.erase n), suspended := none, startedAt := s.tim.opTime, minimumRun := true }
      else s
    | none =>
      match next with
      | some o => s.flashStart o
      | none => s

/-- Ask for an operation. -/
def State.flashAsk (o : FlashOp) (s : State) : State := (s.modFls fun f => { f with queue := f.queue ++ [o] }).flashKick

/-- The controller is reset: the operation in progress is cut off; the flag of a sector being erased stays set (R394, R403). -/
def State.flashReset (s : State) : State :=
  s.modFls fun f => { f with running := none, suspended := none, depth := 0, minimumRun := false, queue := [], ran := 0 }

end Sys2Proof.Machine
end

