-- ==== Sys2Proof/Machine/Logbook.lean ====
section
/-! DEFINITION. The Logbook's commands: write-out, loss, window, area F, snapshot definitions (14 R323–R337). -/

namespace Sys2Proof.Machine

/-! ## Write-out (R323–R326) -/

/-- Bytes of a sector. -/
def sectorBytes : Nat := 4096

/-- Sectors that records take when they are written one after another from the start of a sector; none crosses a sector (R323). The first
argument is the room left in the sector being written. -/
def sectorsFor (room : Nat) : List LogRec → Nat
  | [] => 0
  | r :: l =>
    if r.body.size ≤ room then sectorsFor (room - r.body.size) l else 1 + sectorsFor (sectorBytes - r.body.size) l

/-- The records after those of the oldest sector. -/
def dropSector (room : Nat) : List LogRec → List LogRec
  | [] => []
  | r :: l => if r.body.size ≤ room then dropSector (room - r.body.size) l else r :: l

/-- Make room in area C: with fewer than eight erased sectors left ahead, the sector of the oldest records is erased (R325). -/
def State.eraseAhead (s : State) : State :=
  if 376 < sectorsFor 0 s.log.areaC ∧ ¬ s.onBank then
    (s.modLog fun l => { l with areaC := dropSector sectorBytes l.areaC, counts := modNth l.counts 2 (· + 1) }).modFls
      fun f => { f with counts := modNth f.counts 1 (· + 1) }
  else s

/-- Write out the oldest staged record: to area C, and to area F while it holds fewer than 4,096 records and is not being cleared
(R324). -/
def State.writeOutOne (s : State) : State :=
  match s.log.staged with
  | [] => s
  | r :: rest =>
    let toF := decide (s.log.areaF.length < 4096) && s.log.clearing.isNone
    let copies := 1 + bit toF
    let s := s.modLog fun l =>
      { l with
        staged := rest, areaC := l.areaC ++ [r], lastDurable := r.seq
        areaF := if toF then l.areaF ++ [r] else l.areaF
        counts := modNth l.counts 1 (· + r.body.size * copies) }
    (s.modFls fun f => { f with counts := modNth f.counts 0 (· + r.body.size / 8 * copies) }).eraseAhead

/-- Write out up to n records. -/
def State.writeOut (n : Nat) (s : State) : State :=
  match n with
  | 0 => s
  | k + 1 => s.writeOutOne.writeOut k

/-- One staging-loss record once the ring is below half full (R327). -/
def State.lossCheck (s : State) : State :=
  if s.log.lostNow ≠ 0 ∧ s.ringUsed < 65536 then
    (s.record (.stagingLoss s.log.lostNow s.log.lostFirst)).modLog fun l => { l with lostNow := 0, lostFirst := 0 }
  else s

/-- LOGBOOK_WRITE_OUT (14 R324–R326): Cox writes; none below 41 V on the bank (15 R365), none while Cox is absent (18 R424). -/
def execLogbookWriteOut (n : Nat) (s : State) : Res :=
  if s.coxUp ∧ s.par.bp ≠ 3 then .next (s.writeOut (min n s.log.staged.length)).lossCheck else .next s

/-- STAGING_LOSS (14 R327). -/
def execStagingLoss (s : State) : Res := .next s.lossCheck

/-- Records that fit in the bytes that are surely written. -/
def recordsWithin (room : Nat) : List LogRec → Nat
  | [] => 0
  | r :: l => if r.body.size ≤ room then 1 + recordsWithin (room - r.body.size) l else 0

/-- A write-out cut short: at least the records within so many bytes are written; how many more is a free value (18 R422, 14 R326,
R329). -/
def State.writeOutSome (bytes : Nat) (s : State) : State :=
  let sure := recordsWithin bytes s.log.staged
  let d := s.draw
  d.2.writeOut (sure + Config.freeNat d.1 % (s.log.staged.length - sure + 1))

/-! ## Reading (R335, R336) -/

/-- The overtaken marker: never stored, sequence 0 (R331, R335). -/
def State.overtaken (s : State) (asked oldest : Nat) : List Byte :=
  be 4 0 ++ be 1 3 ++ be 1 0x7F ++ be 6 s.tim.opTime ++ be 4 s.tim.cycles ++ be 4 asked ++ be 4 oldest

/-- A read of the window (R335): the bytes, and the state with the cursor moved. -/
def State.readWindow (holder : Nat) (s : State) : List Byte × State :=
  let (area, q) := s.cursor holder
  let l := s.areaRecords area
  if l.isEmpty then ([], s)
  else if olderSeq q (s.oldestOf area) then (s.overtaken q (s.oldestOf area), s.setCursor holder area (s.oldestOf area))
  else match l.find? fun r => !olderSeq r.seq q with
    | some r => (r.bytes, s.setCursor holder area (nextSeq r.seq))
    | none => ([], s)

/-- The role and path of a holder: a session's own, or a head's mailbox on session 0. -/
def State.holderReq (s : State) (holder : Nat) : Req :=
  if 0x10000 ≤ holder then { role := .observer, path := holder - 0x10000 + 1 }
  else { role := (s.session holder).role, path := (s.session holder).path }

/-- The service code of a READ (R288). -/
def svcRead : Nat := 5

/-- WINDOW_READ (14 R335): the read of 0x4110.01 by a session or a head's mailbox. -/
def execWindowRead (holder : Nat) (s : State) : Res :=
  let r := s.readWindow holder
  accessed s (r.2.emit (.wop holder svcRead 0 0 r.1))

/-! ## Area F (R337) -/

/-- The clear of area F: 256 sectors erased one at a time. -/
def State.clearFOp (req : Req) (s : State) : Acc :=
  if s.log.clearing.isSome then s.answer 0x07
  else s.deferred req 0x4100 3 (fun n => fun s => (s.modLog fun l => { l with clearing := some (n, 256) }).flashAsk (.erase areaFSector))

/-- AREA_F_CLEAR (14 R337): the sectors are erased by FLASH_ERASE_DONE. -/
def execAreaFClear (req : Req) (s : State) : Res :=
  accessed s (respondAccess req 0x4100 3 (guarded req 0x4100 3 (State.clearFOp req) s))

/-- A sector of area F has been erased; with the last one the area is empty, and its record is the first of the new area (R337). -/
def State.areaFErased (s : State) : State :=
  match s.log.clearing with
  | none => s
  | some (n, left) =>
    if left ≤ 1 then
      let count := s.log.areaF.length
      let s := s.modLog fun l => { l with clearing := none, areaF := [] }
      ((s.record (.areaFCleared count)).ticketDone n 0x00 (be 2 count))
    else (s.modLog fun l => { l with clearing := some (n, left - 1) }).flashAsk (.erase (areaFSector + 257 - left))

/-! ## Snapshot definitions (R332–R334) -/

/-- The object's value depends on a selector or a cursor (R333): the selectors and cursors themselves, and what they select. -/
def selected (o : ObjRef) : Bool :=
  [0x100100, 0x100101, 0x212000, 0x212001, 0x304000, 0x304001, 0x311000, 0x311001, 0x319004, 0x319005, 0x402000, 0x402001, 0x411000,
   0x411001, 0x420100, 0x420101, 0x502000, 0x502001, 0x510001, 0x510002].contains (objKey o.index o.member)

/-- An object that a definition may name (R333). -/
def snapAllowed (o : ObjRef) : Bool :=
  match rowOf o.index o.member with
  | none => false
  | some r => r.rights .observer % 2 == 1 && decide (r.len ≤ 64) && !testBit r.flags 1 && !testBit r.flags 2 && !selected o

/-- The parameter of a trigger is within its limits (R332). -/
def snapParamOk (trigger param : Nat) : Bool :=
  match trigger with
  | 0 => true
  | 1 => decide (1 ≤ param ∧ param ≤ 86400)
  | 2 => decide (param ≤ 3)
  | 3 => decide (param ≤ 255)
  | 4 => true
  | 5 => decide (1 ≤ param ∧ param ≤ 4)
  | 6 => true
  | _ => false

/-- The bytes of a definition (0x4120.0n). -/
def snapBytes (trigger param : Nat) (objs : List ObjRef) : List Byte :=
  be 1 trigger ++ zeros 3 ++ be 4 param ++ be 1 objs.length ++ objs.flatMap fun o => be 2 o.index ++ be 1 o.member

/-- Store a definition. -/
def State.setSnap (d : Nat) (x : SnapDef) (s : State) : State := s.modLog fun l => { l with defs := Tab.set {} l.defs d x }

/-- The definition write as an access (R333). -/
def State.snapOp (req : Req) (d trigger param : Nat) (objs : List ObjRef) (s : State) : Acc :=
  if 3 < d then s.answer 0x02
  else if !snapParamOk trigger param || decide (32 < objs.length) || !(objs.all snapAllowed) then s.answer 0x06
  else s.putRecord req 0x4120 d (snapBytes trigger param objs) (State.setSnap d { trigger := trigger, param := param, objs := objs })

/-- SNAPSHOT_DEFINITION_WRITE (14 R333). -/
def execSnapshotDefinitionWrite (defn trigger param : Nat) (objs : List ObjRef) (s : State) : Res :=
  accessed s (respondAccess byOperator 0x4120 defn (s.snapOp byOperator defn trigger param objs))

/-- A manual firing as an access (R332): refused for a definition that is off. -/
def State.fireOp (req : Req) (d : Nat) (s : State) : Acc :=
  if 3 < d then s.answer 0x06
  else if (Tab.rd {} s.log.defs d).trigger = 0 then s.answer 0x07
  else ((s.manage 1 req 0 0x4121 0 0 0 (be 1 d)).fire d 6 0).answer 0x00

/-- SNAPSHOT_NOW (14 R332). -/
def execSnapshotNow (defn : Nat) (s : State) : Res := accessed s (respondAccess byOperator 0x4121 0 (s.fireOp byOperator defn))

/-- SNAPSHOT_PERIODIC (14 R332): by the firmware, which is absent in orphan operation. -/
def execSnapshotPeriodic (defn : Nat) (s : State) : Res :=
  if (Tab.rd {} s.log.defs defn).trigger = 1 ∧ s.coxUp then .next (s.fire defn 1 0) else .next s

end Sys2Proof.Machine
end

