-- ==== Sys2Proof/Machine/Store.lean ====
section
/-! DEFINITION. The parameter store's commands (17 R406–R411). -/

namespace Sys2Proof.Machine

/-- The objects that survive: those marked persist. -/
def persistKey (key : Nat) : Bool :=
  match rowOf (key / 256) (key % 256) with
  | some r => r.persist
  | none => false

/-- The area of a page (R406). -/
def pageArea (page : Nat) : Nat :=
  if page < 32 then 0 else if page < 64 then 1 else if page < 1024 then 2 else if page < 2048 then 3 else if page < 3072 then 4 else 5

/-- What follows a page that has been written: the rest of the copy, then the second copy, in pages of its own (R409;
notes/assumptions/40.md). -/
def PageWrite.after (w : PageWrite) (bad : Bool) : Option PageWrite :=
  if 1 < w.left then some { w with page := w.page + 1, left := w.left - 1, failedOnce := false }
  else if 0 < w.copy1 then some { page := w.page % 256 + 256, left := w.copy1, firstBad := bad }
  else none

/-- Replace the write in progress. -/
def State.frontWrite (o : Option PageWrite) (s : State) : State :=
  s.modPar fun p => { p with queue := o.toList ++ p.queue.tail }

/-- A page that has failed twice (R411): it is retired and its content goes to the lowest free spare page, with the relocation table
rewritten; with no spare left the record keeps its failing page. -/
def State.pageFailed (w : PageWrite) (s : State) : State :=
  if 0 < s.par.spares then
    let s := s.frontWrite (some { w with page := 1024 + (1024 - s.par.spares), failedOnce := false })
    let s := s.modPar fun p => { p with retired := p.retired ++ [w.page], spares := p.spares - 1 }
    (s.storeWrite 64).report 0x2F3 0x87 (some w.page)
  else
    let s := s.frontWrite (w.after true)
    let s := s.when (w.firstBad && w.copy1 == 0) (State.modPar fun p => { p with lost := p.lost + 1 })
    s.report 0x2F3 0x87 (some w.page)

/-- PAGE_WRITE_DONE (17 R407, R411): the page at the head of the queue has been written and read back. While Cox is absent nothing more is
written (18 R424). -/
def execPageWriteDone (verified : Bool) (s : State) : Res :=
  match s.par.queue with
  | [] => .next s
  | w :: _ =>
    if !s.coxUp then .next s else
    let s := s.countPages (pageArea w.page) 1
    .next (if verified then s.frontWrite (w.after w.firstBad)
      else if w.failedOnce then s.pageFailed w
      else s.frontWrite (some { w with failedOnce := true }))

/-- The time at which the next write falls due goes into the next cell (17 R410). -/
def TimeS.writeCell (t : TimeS) : TimeS :=
  let v := max t.cellDue t.opTime + 32768
  { t with cellDue := v, cellWrites := t.cellWrites + 1, timeCells := t.timeCells.set (t.cellWrites % 32) (some v) }

/-- OPERATING_TIME_CELL_WRITE (17 R410): the time at which the next write falls due, into the next cell; not while Cox is absent (18 R424),
nor under protection 0b11 (R406). -/
def execOperatingTimeCellWrite (s : State) : Res :=
  if s.coxUp ∧ s.par.bp ≠ 3 then
    .next ((s.modTim TimeS.writeCell).countPages 0 1)
  else .next s

/-- The block protection write as an access (R408). -/
def State.protectOp (req : Req) (v : Nat) (s : State) : Acc :=
  if v ≠ 1 ∧ v ≠ 2 then s.answer 0x06
  else if s.par.bp = 3 then s.answer 0x07
  else (((s.manage 1 req 0 0x6100 2 0 0 (be 1 v)).modPar fun p => { p with bp := v }).notifyObject 0x6100 2).answer 0x00

/-- BLOCK_PROTECTION_WRITE (17 R408). -/
def execBlockProtectionWrite (value : Nat) (s : State) : Res :=
  accessed s (respondAccess byCustodian 0x6100 2 (s.protectOp byCustodian value))

end Sys2Proof.Machine
end

