-- ==== Sys2Proof/Machine/Cox.lean ====
section
/-! DEFINITION. Cox: its resets, the watchdog, the orphan limit, the boot ROM (17 R384–R405, 18 R424–R426). -/

namespace Sys2Proof.Machine

/-- Change an image. -/
def State.modImage (b : Bool) (f : ImageS → ImageS) (s : State) : State :=
  s.modImg fun x => if b then { x with b := f x.b } else { x with a := f x.a }

/-- An image. -/
def State.image' (s : State) (b : Bool) : ImageS := if b then s.img.b else s.img.a

/-- The version of the firmware that runs. -/
def State.firmware (s : State) : Nat := (s.image' s.img.runsB).version

/-! ## The caches (R384–R387) -/

/-- The set of an address: 128 sets of 64 B lines (R384). -/
def cacheSet (addr : Nat) : Nat := addr / 64 % 128

/-- The tag of an address. -/
def cacheTag (addr : Nat) : Nat := addr / 8192

/-- Ways that a cache uses: two while its scratchpad is converted (R387). -/
def cacheWays (scratch : Bool) : Nat := if scratch then 2 else 4

/-- The line that an access hits: valid, of its tag, its parity whole; a parity error counts as a miss (R384). -/
def cacheHit (l : List (Nat × CacheLine)) (scratch : Bool) (addr : Nat) : Option CacheLine :=
  ((l.find? fun e => e.1 / 4 == cacheSet addr && decide (e.1 % 4 < cacheWays scratch) && e.2.tag == cacheTag addr
    && e.2.parityOk)).map Prod.snd

/-- A line filled into a way of its set, in place of what the way held (R384, R385). -/
def cacheFill (way addr : Nat) (data : Line) (l : List (Nat × CacheLine)) : List (Nat × CacheLine) :=
  (l.filter fun e => e.1 != cacheSet addr * 4 + way) ++ [(cacheSet addr * 4 + way, { tag := cacheTag addr, data := data })]

/-- A write hit: the data cache is write-through, so that the line and the memory behind it take the same data (R384). -/
def cacheWrite (addr : Nat) (data : Line) (l : List (Nat × CacheLine)) : List (Nat × CacheLine) :=
  l.map fun e => if e.1 / 4 = cacheSet addr ∧ e.2.tag = cacheTag addr then (e.1, { e.2 with data := data, parityOk := true }) else e

/-- Ways 2 and 3 invalidated, as a conversion to scratchpad or its reversion leaves them (R387). -/
def cacheConvert (l : List (Nat × CacheLine)) : List (Nat × CacheLine) := l.filter fun e => decide (e.1 % 4 < 2)

/-- Every tag of both caches invalidated, four ways and no scratchpad (R386). -/
def CoxS.invalidated (c : CoxS) : CoxS := { c with iCache := [], dCache := [], iScratch := false, dScratch := false }

/-! ## Resets of Cox (R403, R404) -/

/-- An update cut off by a reset: its image is Invalid, its command ends with 0x07 (R399, R404). -/
def State.cutImage (b : Bool) (s : State) : State :=
  if (s.image' b).state = 1 ∨ (s.image' b).state = 2 then
    let s := s.modImage b fun i => { i with state := 4, toErase := 0, words := [] }
    match s.img.slot with
    | some n => (s.ticketDone n 0x07 []).modImg fun x => { x with slot := none }
    | none => s
  else s

/-- An option rewrite cut off by a reset (R396, R404). -/
def State.cutOptions (s : State) : State :=
  match s.fls.optionWrite with
  | some (_, n, _) =>
    (s.modFls fun f => { f with optionWrite := none, optionCut := f.flags.contains optionSector || f.optionWords.isNone }).ticketDone n 0x07 []
  | none => s

/-- The flash controller, the images and the options at a reset of Cox. -/
def State.cutFlash (s : State) : State := (((s.flashReset).cutImage false).cutImage true).cutOptions

/-- A start whose firmware's part runs again from the map load (18 R426). -/
def restartPhase (p : StartPhase) : StartPhase :=
  match p with
  | .fullScan => .mapLoad
  | .rootRebuild => .mapLoad
  | .awaitingCustodian => .mapLoad
  | x => x

/-- A reset of Cox as by the watchdog (R403, R404): caches, scratchpads, the flash and store controllers, WOP; the rest goes on. -/
def State.coxReset (s : State) : State :=
  let s := s.modCox fun c =>
    { c.invalidated with state := 0, dead := false, byWatchdog := true, resetAt := s.tim.opTime, startCause := 3 }
  let s := s.cutFlash
  let s := s.modWop fun w => { w with sess := [], bulks := [], answerDue := false, plca := 0 }
  let s := s.modObj fun o =>
    { o with
      selectors := []
      waiting := o.waiting.filter fun w => match w.2 with
        | .mailbox .. => true
        | .ticket _ => true
        | _ => false }
  let s := forEach allHeads (fun h => State.modHead h fun d => { d with openReply := none }) s
  let s := s.modExt fun x => { x with pairs := Tab.remap {} (fun _ p =>
    if p.state = .offered ∨ p.state = .releasing then { p with paused := s.tim.opTime - p.since } else p) x.pairs }
  if s.str.dataReady then s
  else s.modStr fun x =>
    { x with
      phase := restartPhase x.phase, mapsLoaded := x.mapsLoaded && restartPhase x.phase == x.phase
      rootDone := x.rootDone && restartPhase x.phase == x.phase }

/-- The orphan timer starts at a watchdog expiry; further expiries do not restart it (R405). -/
def State.orphanStart (s : State) : State :=
  if s.cox.orphan ≠ 0 then s
  else s.modCox fun c => { c with orphan := s.tim.opTime + 1, orphanLimit := false, orphanLostAt := s.log.notStaged }

/-- A reset of Cox that is a watchdog reset: it is reported, counted and recorded (R402). -/
def State.watchdogReset (s : State) : State :=
  let s := s.modCox fun c =>
    { c with resets := c.resets + 1, lastReset := [s.tim.opTime, s.tim.cycles, s.firmware, 0], byActivate := false }
  (((s.storeWrite 93).report 0x2F1 0x83 none).orphanStart).coxReset

/-- WATCHDOG_EXPIRY (17 R402). -/
def execWatchdogExpiry (s : State) : Res := if s.keelOn then .next s.watchdogReset else .next s

/-- ORPHAN_LIMIT (17 R405, 18 R425, R426): not before data ready. -/
def execOrphanLimit (s : State) : Res :=
  if s.keelOn ∧ s.cox.orphan ≠ 0 ∧ ¬ s.cox.orphanLimit ∧ s.str.dataReady then
    .next ((s.modCox fun c => { c with orphanLimit := true }).report 0x2F1 0x84 none)
  else .next s

/-- SRAM_PATROL (10 R254, R255): an uncorrectable keel SRAM word that holds Cox data resets Cox as the watchdog does. -/
def execSramPatrol (which word : Nat) (holds : SramHolds) (found : SramFound) (s : State) : Res :=
  if !(s.sram which).ready || (decide (which < 16) && s.partOut which) then .next s
  else
    let s := s.patrolWord which word holds found
    .next (if found = .uncorrectable ∧ holds = .coxData then s.watchdogReset else s)

/-! ## The boot ROM (R395–R400) -/

/-- The options as latched (R395). -/
def Options.latched (o : Options) : Options := if o.bpReset = 1 ∨ o.bpReset = 2 then o else { o with bpReset := 1 }

/-- Step 4 of R397: the option words, BP and the watchdog's first timeout. -/
def State.latchOptions (s : State) : State :=
  let put := fun (o : Options) (st : Nat) (s : State) =>
    ((s.modCox fun c => { c with options := o, optionState := st, watchdogMs := o.wdtBoot * 10 }).modPar fun p => { p with bp := o.bpReset })
  if s.fls.optionCut then (put {} 2 s).report 0x2F2 0x86 (some optionSector)
  else match s.fls.optionWords with
    | some o => put o.latched 0 s
    | none => put {} 3 s

/-- The image a sector belongs to. -/
def imageOfSector (n : Nat) : Option Bool := if n < 1536 then some false else if n < 3072 then some true else none

/-- The erase of a flagged sector is completed, and means what R394 says. -/
def State.flagErase (n : Nat) (s : State) : State :=
  let s := s.modFls fun f =>
    { f with flags := removeNat n f.flags, counts := modNth (modNth f.counts 1 (· + 1)) 4 (· + 1) }
  match imageOfSector n with
  | some b => s.modImage b fun i => if i.state = 5 ∨ i.state = 6 then i else { i with state := 4 }
  | none =>
    if n = optionSector then s.modFls fun f => { f with optionWords := none }
    else if areaFSector ≤ n ∧ n < areaFSector + 256 then s.areaFErased
    else s

/-- An image passes the checks of R398. -/
def State.bootable (s : State) (find : BootFind) (b : Bool) : Bool :=
  let i := s.image' b
  (if b then find.validB else find.validA) && decide (3 ≤ i.state ∧ i.state ≠ 4) && decide (s.cox.options.rollbackMin ≤ i.rollback)

/-- The boot selection record with no trial (R400). -/
def State.selectActive (find : BootFind) (s : State) : State :=
  let act := s.img.activeB
  if s.bootable find act then (s.modImg fun x => { x with runsB := act }).modCox fun c => { c with state := 1 }
  else if s.bootable find (!act) then
    let s := (s.modImage act fun i => { i with state := 4 }).modImage (!act) fun i => { i with state := 5 }
    let s := (s.modImg fun x => { x with activeB := !act, runsB := !act }).storeWrite 92
    (s.report 0x2F2 0x86 (some (imageSector act))).modCox fun c => { c with state := 1 }
  else s.modCox fun c => { c with dead := true }

/-- A trial ends: its image is Valid, and a management event says so (R399; notes/assumptions/44.md). -/
def State.endTrial (t : Bool) (s : State) : State :=
  let s := (s.modImage t fun i => { i with state := 3 }).modImg fun x => { x with trial := none, attempts := 0 }
  (s.storeWrite 92).manage 3 {} 0x07 0x6000 1 0 0 []

/-- The image selection (R400). -/
def State.selectImage (find : BootFind) (s : State) : State :=
  match s.img.trial with
  | none => s.selectActive find
  | some t =>
    if s.img.attempts < 2 ∧ ¬ (s.cox.byWatchdog ∧ ¬ s.cox.byActivate) ∧ s.bootable find t then
      let s := (s.modImg fun x => { x with attempts := x.attempts + 1, runsB := t }).storeWrite 92
      s.modCox fun c => { c with state := 1 }
    else (s.endTrial t).selectActive find

/-- A state record, by its page (notes/assumptions/40.md), at its owner's default (R409); the dirty-shutdown count is taken as never lost
(notes/assumptions/86.md). -/
def State.recordDefault (page : Nat) (s : State) : State :=
  match page with
  | 80 => s.modLog fun l => { l with next := 1, reserve := 65537 }
  | 81 => s.modItg fun x => { x with high := ({} : IntegS).high, reserve := ({} : IntegS).reserve }
  | 82 => s.modMed fun m => { m with channels := Tab.remap {} (fun _ c => { c with bad := [] }) m.channels }
  | 83 => s.modTrc fun x => { x with directory := [] }
  | 84 => s.modWb fun w => { w with hostShutdown := ({} : WbS).hostShutdown }
  | 85 => s.modItg fun x => { x with rekeyRegion := ({} : IntegS).rekeyRegion, rekeyState := 0, rekeyLeft := [], rekeyExtents := [0, 0] }
  | 86 => s.modExt fun x => { x with regions := Tab.remap {} (fun _ r => { r with gen := 0 }) x.regions }
  | 87 => s.modItg fun x => { x with record := {} }
  | 88 => s.modScr fun x => { x with rebuilds := [] }
  | 89 => s.modFlt fun x => { x with units := Tab.remap {} (fun _ u => { u with readmissions := [] }) x.units }
  | 90 => s.modFlt fun x => { x with sticky := [], stickyDue := [] }
  | 92 => s.modImg fun x => { x with activeB := false, trial := none, attempts := 0 }
  | 93 => s.modCox fun c => { c with resets := 0, lastReset := ({} : CoxS).lastReset, lastOrphan := ({} : CoxS).lastOrphan }
  | 94 => s.modPwr fun p => { p with latch := {}, seqState := 0 }
  | 95 => s.modHlt fun h => { h with c0 := 0, points := [] }
  | 96 => s.modPwr fun p => { p with haltCount := 0 }
  | _ => s

/-- A record of which neither copy passes is lost (R409). -/
def State.recordLost (f : State → State) (s : State) : State :=
  (f (s.modPar fun p => { p with lost := p.lost + 1 })).report 0x2F3 0x87 none

/-- The records read at a start (R406, R409); a watchdog reset keeps the keel SRAM's copies (R403). -/
def State.readRecords (watchdog : Bool) (find : BootFind) (s : State) : State :=
  if watchdog then s
  else
    let s := forEach find.lostRecords (fun p => State.recordLost (State.recordDefault p)) s
    forEach (find.lostObjects.filter persistKey)
      (fun k => State.recordLost (State.modObj fun o => { o with vals := o.vals.filter fun e => e.1 ≠ k })) s

/-- COX_RESET_RELEASE (17 R386, R397, R409): caches invalidated, options latched, flags scanned, records read, the image chosen; the keel
SRAM's initialisation ends with SRAM_INIT_DONE. A MODRST_N held low keeps the module in reset (19 R436). -/
def execCoxResetRelease (watchdog : Bool) (find : BootFind) (s : State) : Res :=
  if s.keelOn ∧ s.cox.state = 0 ∧ ¬ s.cox.dead ∧ watchdog = s.cox.byWatchdog ∧ ¬ s.pwr.modrstLow then
    let s := s.modCox CoxS.invalidated
    let s := s.latchOptions
    .next (((forEach s.fls.flags State.flagErase s).readRecords watchdog find).selectImage find)
  else .next s

end Sys2Proof.Machine
end

