-- ==== Sys2Proof/Machine/Images.lean ====
section
/-! DEFINITION. The boot flash's operations, the options, firmware images and their update (17 R389–R401). -/

namespace Sys2Proof.Machine

/-! ## Journal (R390) -/

/-- Words of a generation, and its three quarters. -/
def journalWords : Nat := 90112
def journalDue : Nat := 67584

/-- JOURNAL_COMPACTION (17 R390): a full image of every extent and a start word go into the other generation, then the old one is erased;
not on the bank (R393), nor while Cox is absent. -/
def execJournalCompaction (s : State) : Res :=
  if s.coxUp ∧ journalDue ≤ s.ext.journalUsed ∧ ¬ s.onBank then
    let s := s.modExt fun x => { x with journalUsed := extents + 1, journalGen := 1 - x.journalGen }
    .next (s.modFls fun f => { f with counts := modNth (modNth f.counts 0 (· + (extents + 1))) 1 (· + 176) })
  else .next s

/-! ## Options (R395, R396) -/

/-- The option write as an access: values within their fields, one rewrite at a time. -/
def State.optionsOp (req : Req) (o : Options) (s : State) : Acc :=
  if 255 < o.rollbackMin ∨ 3 < o.bpReset ∨ o.wdtBoot < 10 ∨ 1000 < o.wdtBoot then s.answer 0x06
  else if s.fls.optionWrite.isSome then s.answer 0x07
  else s.deferred req 0x6010 0 (fun n => fun s =>
    (s.modFls fun f => { f with optionWrite := some (o, n, 2) }).flashAsk (.erase optionSector))

/-- OPTIONS_WRITE (17 R396). -/
def execOptionsWrite (req : Req) (rollbackMin bpReset wdtBoot : Nat) (dbgLock t1sOff : Bool) (s : State) : Res :=
  let o : Options := { rollbackMin := rollbackMin, bpReset := bpReset, wdtBoot := wdtBoot, dbgLock := dbgLock, t1sOff := t1sOff }
  accessed s (respondAccess req 0x6010 0 (guarded req 0x6010 0 (State.optionsOp req o) s))

/-- A word of the option sector has been programmed: with the second one the options are stored, and latched at the next start (R396). -/
def State.optionWord (s : State) : State :=
  match s.fls.optionWrite with
  | none => s
  | some (o, n, left) =>
    if 1 < left then (s.modFls fun f => { f with optionWrite := some (o, n, left - 1) }).flashAsk (.program 4 optionSector)
    else
      let s := s.modFls fun f => { f with optionWords := some o, optionWrite := none, optionCut := false }
      ((s.modCox fun c => { c with optionState := 1 }).ticketDone n 0x00 []).notifyObject 0x6010 0

/-- The option words could not be programmed: the area holds no valid options (R395). -/
def State.optionFailed (s : State) : State :=
  match s.fls.optionWrite with
  | none => s
  | some (_, n, _) => (s.modFls fun f => { f with optionWrite := none, optionWords := none }).ticketDone n 0x07 []

/-! ## The controller's events -/

/-- FLASH_PROGRAM_DONE (17 R389, R392, R393): a word that reads uncorrectable is reported with its sector. -/
def execFlashProgramDone (ok : Bool) (s : State) : Res :=
  match s.fls.running with
  | some (.program _ n) =>
    let s := s.modFls fun f => { f with running := none, counts := modNth f.counts 0 (· + 1) }
    let s := if ok then s.optionWord
      else ((s.modFls fun f => { f with counts := modNth f.counts 3 (· + 1) }).report 0x2F2 0x86 (some n)).optionFailed
    .next s.flashKick
  | _ => .next s

/-- The sectors of an image left to erase; with the last one the image receives, and its command is done (R399). -/
def State.imageErased (b : Bool) (s : State) : State :=
  let i := s.image' b
  if i.state ≠ 1 then s
  else if 1 < i.toErase then
    (s.modImage b fun i => { i with toErase := i.toErase - 1 }).flashAsk
      (.erase (imageSector b + (i.len + 4095) / 4096 - i.toErase + 1))
  else
    let s := s.modImage b fun i => { i with state := 2, toErase := 0 }
    match s.img.slot with
    | some n => (s.ticketDone n 0x00 []).modImg fun x => { x with slot := none }
    | none => s

/-- What the erase of a sector was for. -/
def State.sectorErased (n : Nat) (s : State) : State :=
  match imageOfSector n with
  | some b => s.imageErased b
  | none =>
    if n = optionSector then s.flashAsk (.program 4 optionSector)
    else if areaFSector ≤ n ∧ n < areaFSector + 256 then s.areaFErased
    else s

/-- FLASH_ERASE_DONE (17 R394): after the erase has verified its flag is cleared; one that does not verify goes on. -/
def execFlashEraseDone (ok : Bool) (s : State) : Res :=
  match s.fls.running with
  | some (.erase n) =>
    if !ok then .next s else
    let s := s.modFls fun f =>
      { f with
        running := none, minimumRun := false, ran := 0, flags := removeNat n f.flags, counts := modNth f.counts 1 (· + 1)
        optionWords := if n = optionSector then none else f.optionWords }
    .next ((s.sectorErased n).flashKick)
  | _ => .next s

/-- FLASH_SUSPEND (17 R392): requests nest up to 7; one during a program, or before the minimum run, takes effect later. -/
def execFlashSuspend (s : State) : Res :=
  if s.fls.depth < 7 then .next ((s.modFls fun f => { f with depth := f.depth + 1 }).flashKick) else .next s

/-- FLASH_RESUME (17 R392). -/
def execFlashResume (s : State) : Res := .next ((s.modFls fun f => { f with depth := f.depth - 1 }).flashKick)

/-- ERASE_MINIMUM_RUN_END (17 R392). -/
def execEraseMinimumRunEnd (s : State) : Res := .next ((s.modFls fun f => { f with minimumRun := false }).flashKick)

/-! ## Update (R398–R401) -/

/-- The image an update writes: the one that is not active. -/
def State.spareImage (s : State) : Bool := !s.img.activeB

/-- The update's begin as an access. -/
def State.updateOp (req : Req) (len : Nat) (s : State) : Acc :=
  let b := s.spareImage
  let st := (s.image' b).state
  if len < 8192 ∨ 6291456 < len then s.answer 0x06
  else if s.img.trial.isSome ∨ ¬ (st = 0 ∨ st = 3 ∨ st = 4) then s.answer 0x07
  else s.deferred req 0x6000 16 (fun n => fun s =>
    let s := (s.modImage b fun _ => { state := 1, len := len, toErase := (len + 4095) / 4096 }).modImg fun x => { x with slot := some n }
    s.flashAsk (.erase (imageSector b)))

/-- UPDATE_BEGIN (17 R399). -/
def execUpdateBegin (req : Req) (len : Nat) (s : State) : Res :=
  accessed s (respondAccess req 0x6000 16 (guarded req 0x6000 16 (State.updateOp req len) s))

/-- Words of image data that may not be programmed: offset 0xFF8, past the length, or a programmed word (R399). -/
def ImageS.refuses (i : ImageS) (o : Nat) : Bool := decide (o = 0xFF8 ∨ i.len < o + 8) || i.words.contains o

/-- The header fields that a word carries (R398): version at 0x004, rollback level at 0x00C. -/
def ImageS.header (i : ImageS) (o : Nat) (w : List Byte) : ImageS :=
  if o = 0 then { i with version := fieldAt w 4 4 } else if o = 8 then { i with rollback := fieldAt w 4 1 } else i

/-- Program the words of a run of image data. -/
def State.programImage (b : Bool) (offset : Nat) (data : List Byte) (s : State) : State :=
  let n := data.length / 8
  let s := forEach (List.range n) (fun k => State.modImage b fun i =>
    { i.header (offset + 8 * k) ((data.drop (8 * k)).take 8) with words := insertSorted (offset + 8 * k) i.words }) s
  s.modFls fun f => { f with counts := modNth f.counts 0 (· + n) }

/-- Image data as a write: its status, and the state with it programmed (R399, R401). -/
def State.imageWrite (offset : Nat) (data : List Byte) (s : State) : Nat × State :=
  let b := s.spareImage
  let i := s.image' b
  if data.isEmpty ∨ data.length % 8 ≠ 0 then (0x05, s)
  else if offset % 8 ≠ 0 ∨ ((List.range (data.length / 8)).any fun k => i.refuses (offset + 8 * k)) then
    (if i.state = 2 ∨ offset % 8 ≠ 0 then (0x06, s) else (0x07, s))
  else if i.state ≠ 2 ∨ s.noPrograms then (0x07, s)
  else (0x00, s.programImage b offset data)

/-- IMAGE_DATA (17 R401): a segment of a bulk transfer into 0x6001.00. -/
def execImageData (offset : Nat) (data : List Byte) (s : State) : Res :=
  let r := s.imageWrite offset data
  accessed s (respondAccess byOperator 0x6001 0 (r.2.answer r.1))

/-- A segment as an access: 8 to 240 bytes (0x6001.01). -/
def State.segmentOp (offset : Nat) (data : List Byte) (s : State) : Acc :=
  if 240 < data.length then s.answer 0x06
  else let r := s.imageWrite offset data
    r.2.answer r.1

/-- IMAGE_SEGMENT (17 R401). -/
def execImageSegment (offset : Nat) (data : List Byte) (s : State) : Res :=
  accessed s (respondAccess byOperator 0x6001 1 (s.segmentOp offset data))

/-- The commit as an access: a digest or signature that does not check leaves the image Invalid (R399). -/
def State.commitOp (req : Req) (pass : Bool) (s : State) : Acc :=
  let b := s.spareImage
  if (s.image' b).state ≠ 2 ∨ s.noPrograms then s.answer 0x07
  else s.deferred req 0x6000 17 (fun n => fun s =>
    if pass then
      let s := (s.modImage b fun i => { i with state := 3 }).modFls fun f => { f with counts := modNth f.counts 0 (· + 1) }
      s.ticketDone n 0x00 []
    else (s.modImage b fun i => { i with state := 4 }).ticketDone n 0x07 [])

/-- UPDATE_COMMIT (17 R399). -/
def execUpdateCommit (req : Req) (digestOk signatureOk : Bool) (s : State) : Res :=
  accessed s (respondAccess req 0x6000 17 (guarded req 0x6000 17 (State.commitOp req (digestOk && signatureOk)) s))

/-- The activation as an access: its ticket is completed at management ready (R400). -/
def State.activateOp (req : Req) (s : State) : Acc :=
  let b := s.spareImage
  if s.img.trial.isSome ∨ (s.image' b).state ≠ 3 then s.answer 0x07
  else s.deferred req 0x6000 18 (fun n => fun s =>
    let s := (s.modImage b fun i => { i with state := 6 }).modImg fun x =>
      { x with trial := some b, attempts := 0, activateSlot := some n }
    s.storeWrite 92)

/-- Cox restarts into the image: as a watchdog reset does, but uncounted and unreported (R400). -/
def State.restartInto (s : State) : State :=
  match s.img.activateSlot with
  | some _ => (s.coxReset).modCox fun c => { c with byActivate := true }
  | none => s

/-- ACTIVATE (17 R400): the response leaves, then Cox restarts. -/
def execActivate (req : Req) (s : State) : Res :=
  let a := guarded req 0x6000 18 (State.activateOp req) s
  let t := respondAccess req 0x6000 18 a
  accessed s (if a.1 = 0 then t.restartInto else t)

/-- TRIAL_CONFIRM (17 R399, R400): the image that has run for the confirm time is active. -/
def execTrialConfirm (s : State) : Res :=
  match s.img.trial with
  | some t =>
    if s.coxUp ∧ s.img.runsB = t then
      let s := (s.modImage (!t) fun i => { i with state := 3 }).modImage t fun i => { i with state := 5 }
      .next ((s.modImg fun x => { x with activeB := t, trial := none, attempts := 0 }).storeWrite 92)
    else .next s
  | none => .next s

end Sys2Proof.Machine
end

