-- ==== Sys2Proof/Machine/Health.lean ====
section
/-! DEFINITION. Ageing, the predicted end of life, and the health indicators (16 R379–R383). -/

namespace Sys2Proof.Machine

/-! ## Ageing (R379–R381) -/

/-- None, for remaining lives. -/
def noHours : Nat := 0xFFFFFFFF

/-- A number of hours as its U32 holds it: none stays apart. -/
def hours32 (n : Nat) : Nat := min n 0xFFFFFFFE

/-- Remaining life of the media (R379): the wear left over the growth of the highest PEAK in 720 hours; none until that much data exists,
or without growth. The list holds the PEAK at each of the last 721 hours. -/
def mediaLife (peaks : List Nat) : Nat :=
  let now := peaks.getLast?.getD 0
  let growth := now - peaks.headD 0
  if peaks.length < 721 ∨ growth = 0 then noHours else hours32 ((retireLimit - now) * 720 / growth)

/-- Points of the fit: at most one in each 24 operating hours, the latest kept; none older than 2,160 hours (R380). -/
def keepPoint (hour uF : Nat) (l : List (Nat × Nat)) : List (Nat × Nat) :=
  (l.filter fun e => decide (e.1 / 24 ≠ hour / 24)) ++ [(hour, uF)]

/-- The points of the last 2,160 hours. -/
def recentPoints (hour : Nat) (l : List (Nat × Nat)) : List (Nat × Nat) := l.filter fun e => decide (hour ≤ e.1 + 2160)

/-- The sums of a least-squares line over points (x, y), x in hours from now: n, Σx, Σy, Σxx, Σxy. -/
def fitSums (hour : Nat) (l : List (Nat × Nat)) : Int × Int × Int × Int × Int :=
  l.foldl (fun a e =>
    let x : Int := (e.1 : Int) - hour
    let y : Int := e.2
    (a.1 + 1, a.2.1 + x, a.2.2.1 + y, a.2.2.2.1 + x * x, a.2.2.2.2 + x * y)) (0, 0, 0, 0, 0)

/-- The fitted line now: its value in µF, its slope in nF per hour, the hours until it reaches 2,400 µF; fewer than 14 points, or a line
that does not fall, give none (R380). -/
def fitLine (hour : Nat) (l : List (Nat × Nat)) : Nat × Int × Nat :=
  let (n, sx, sy, sxx, sxy) := fitSums hour l
  let num := n * sxy - sx * sy
  let den := n * sxx - sx * sx
  if den = 0 then ((if n = 0 then 0 else (sy / n).toNat), 0, noHours)
  else
    let top := sy * den - num * sx
    let value := (top / (n * den)).toNat
    if n < 14 ∨ 0 ≤ num then (value, num * 1000 / den, noHours)
    else (value, num * 1000 / den, hours32 (((top - 2400 * n * den) / (n * -num)).toNat))

/-- Media life used in percent (R381). -/
def State.mediaUsed (s : State) : Nat := s.topPeak * 100 / retireLimit

/-- Bank life used in percent (R381): 0 before the first measurement or above it; with a first measurement at or below 2.4 mF the spec
states no figure, and it is a free value. -/
def State.bankUsed (s : State) : Nat :=
  if s.hlt.c0 = 0 then 0
  else if s.hlt.c0 ≤ 2400 then Config.freeNat (2 ^ 64 + s.hlt.c0 * 2 ^ 32 + s.bank.uF) % 256
  else (s.hlt.c0 - s.bank.uF) * 100 / (s.hlt.c0 - 2400)

/-- Fit the line to the points of the last 2,160 hours (R380). -/
def State.refit (s : State) : State :=
  let hour := s.tim.opTime / 3600000
  s.modHlt fun h =>
    let l := recentPoints hour h.points
    let f := fitLine hour l
    { h with points := l, fitted := f.1, slope := f.2.1, bankHours := f.2.2 }

/-- The predicted end of life and what governs it (R381). -/
def State.predict (s : State) : State :=
  let cause : Nat × Nat :=
    if s.bank.state = 5 then (0, 4)
    else if s.fewestFree.2 < 256 then (0, 3)
    else if s.hlt.mediaHours = noHours ∧ s.hlt.bankHours = noHours then (noHours, 0)
    else if s.hlt.bankHours < s.hlt.mediaHours then (s.hlt.bankHours, 2)
    else (s.hlt.mediaHours, 1)
  s.modHlt fun h =>
    { h with
      lifeUsed := saturate 8 (max s.mediaUsed s.bankUsed), endHours := cause.1, governing := cause.2, predictedAt := s.tim.opTime }

/-! ## Indicators (R382) -/

/-- The state of an indicator from its life used and its remaining hours. -/
def State.ageState (s : State) (used hours : Nat) : Nat :=
  let th := s.cfg 0x5200 6
  if hours = 0 then 3
  else if th / 2 ^ 32 % 256 ≤ used ∨ hours < th % 2 ^ 32 then 2
  else if th / 2 ^ 40 ≤ used then 1
  else 0

/-- The six indicators: thermal, media, hold-up, spares, sensors, power latch (R382). -/
def State.indicators (s : State) : List Nat :=
  [ min 3 s.thm.level
  , s.ageState s.mediaUsed s.hlt.mediaHours
  , if s.bank.state = 5 then 3 else s.ageState s.bankUsed s.hlt.bankHours
  , if s.fewestFree.2 < 256 then 3 else if s.fewestFree.2 < 1024 then 1 else 0
  , bit ((List.range 44).any fun i => (s.input i).faulty)
  , if s.pwr.latch.latched then 3 else 0 ]

/-- The object of an indicator. -/
def indicatorObject : Nat → Nat × Nat
  | 0 => (0x5100, 0)
  | 1 => (0x5200, 2)
  | 2 => (0x5200, 3)
  | 3 => (0x5200, 5)
  | 4 => (0x5100, 2)
  | _ => (0x5010, 0)

/-- The payload of a type 0x08 record (04 R115). -/
def healthPayload (k : Nat) : List Byte := payload32 (be 2 (indicatorObject k).1 ++ be 1 (indicatorObject k).2)

/-- The indicators and the health state follow their inputs; each change of an indicator is a type 0x08 record for every head and a head
event (R382). -/
def State.healthSync (s : State) : State :=
  let old := s.hlt.indicators
  let new := s.indicators
  let s := s.modHlt fun h => { h with indicators := new, state := new.foldl max 0 }
  forEach ((List.range 6).filter fun k => decide (nth old k ≠ nth new k))
    (fun k => State.headEvent allHeads 8 0x3FF (healthPayload k)) s

/-- HEALTH_RECOMPUTE (16 R379–R381): each operating hour, in the firmware, which is absent in orphan operation (17 R385). -/
def execHealthRecompute (s : State) : Res :=
  if s.coxUp then
    let s := s.modHlt fun h =>
      let l := h.peaks ++ [s.topPeak]
      let l := l.drop (l.length - 721)
      { h with peaks := l, mediaHours := mediaLife l }
    .next s.refit.predict.healthSync
  else .next s

/-! ## The standard health information (R383) -/

/-- The value of a device temperature: whole °C in sixteen bits. -/
def State.deviceTemp (s : State) : Nat := s16 (max (s.given 40) (s.given 41) / 10)

/-- Get Health Info: Health Status (bit 0, maintenance needed, when critical), media status, additional status, Life Used, Device
Temperature, Dirty Shutdown Count; corrected error counts zero (R383). -/
def State.healthInfo (head : Nat) (s : State) : State :=
  s.mbReturn head opHealthInfo mbSuccess
    ([byteOf (bit (decide (s.hlt.state = 3))), 0, 0, byteOf s.hlt.lifeUsed]
      ++ (be 2 s.deviceTemp).reverse ++ (be 4 s.wb.dirtyCount).reverse ++ zeros 8)

/-- GET_HEALTH_INFO (16 R383). -/
def execGetHealthInfo (head : Nat) (s : State) : Res := .next (mailboxed head (.getHealthInfo head) (State.healthInfo head) s)

end Sys2Proof.Machine
end

