-- ==== Sys2Proof/Machine/Reset.lean ====
section
/-! DEFINITION. What the core loses with its power, and what the resets of the keel island clear and keep (18 R421–R423). -/

namespace Sys2Proof.Machine

/-! ## The core loses power -/

/-- A response that waited for a block's confirmation is given with the status core absent, and a restore that waited for one ends, what is
left of it refused (01 R20, 13 R312). -/
def State.answerWaiting (s : State) : State :=
  let l := s.obj.waiting
  let r := s.obj.restoring
  let s := (forEach l (fun w => State.respondTo w.2 0x0A 0 []) s).modObj fun o => { o with waiting := [], shadow := [], restoring := none }
  match r with
  | some r => s.ticketDone r.slot 0x0A (be 2 r.done ++ be 2 (r.refused + 1 + r.left.length))
  | none => s

/-- The granules that an operation changes. -/
def Job.granules (j : Job) : List Nat := if j.clear then range' j.target 16 else [j.target]

/-- A plane stops: an operation on its die runs to its end, or is cut off and leaves its granules destroyed (07 R164); one that has not
begun is dropped. -/
def State.stopPlane (torn : Bool) (k : Nat) (s : State) : State :=
  let p := s.plane k
  let s := match p.op with
    | some j =>
      if p.result ≠ 3 then s
      else if torn then (if j.clear then forEach j.granules State.destroy s else s.cutOff j)
      else s.completeOp j
    | none => s
  s.modPlane k fun p =>
    { p with
      state := .idle, op := none, jobs := [], senses := [], engineSenses := 0, waiting := [], result := 0, burst := 0
      room := false, abortRepeated := false }

/-- Every plane stops. -/
def State.stopPlanes (torn : Bool) (s : State) : State :=
  (forEach (s.med.planes.map Prod.fst) (State.stopPlane torn) s).modMed fun m => { m with governor := 0, reserved := 0, work := [] }

/-- What the core's blocks hold is gone with their power: reads, the write buffer, planes, migrations, the cache, windows, keys, passes,
staging (R421). `torn`: operations on the medium are cut off. `keel`: the keel SRAM and the mailbox buffers lose theirs too (01 R34). -/
def State.coreLost (torn keel : Bool) (s : State) : State :=
  let s := (s.stopPlanes torn).stopPasses.answerWaiting
  let s := forEach [0, 1, 2, 3] State.closeWindow s
  let s := s.modRdp fun r => { r with reads := [] }
  let s := s.when torn (State.modWb fun w =>
    { w with ledger := w.writing.foldl (fun l r => insertRec { r with whole := false } l) w.ledger })
  let s := s.modWb fun w =>
    { w with
      ents := [], units := [], inProgram := [], dirty := [], lastListed := [], writing := []
      highWater := false, costHeld := false, ledgerHeld := false, dipHeld := false, flushing := false, flushBroken := false }
  let s := s.modMed fun m => { m with channels := Tab.remap {} (fun _ c => { c with state := 0 }) m.channels }
  let s := s.modTrc fun x => { x with migs := [], readsOn := [], epoch := [], counted := [] }
  let s := s.modItg fun x => { x with cache := [] }
  let s := s.modExt fun x => { x with regions := Tab.remap {} (fun _ r => { r with keyed := false }) x.regions }
  let s := s.modScr fun x =>
    { x with
      rewrite := []
      rebuilds := Tab.remap {} (fun _ r => { r with cursor := r.persisted, touched := [] }) x.rebuilds }
  let s := s.modStg fun x =>
    { x with
      srams := Tab.remap {} (fun n m => if 16 ≤ n ∧ !keel then m else { m with ready := false }) x.srams
      parityDue := [], bandDue := [], restoring := [] }
  let s := s.modHst fun h => { h with heads := Tab.remap {} (fun _ d => { d with inflight := 0, bound := 0 }) h.heads }
  s.modStr fun x => { x with mapsLoaded := false, rootDone := false, powered := false, dataReady := false, review := 0 }

/-! ## The keel island leaves reset -/

/-- A unit after a reset (11 R275): Probing and Rebuilding return Fenced; a Fenced unit's quiet timer starts again. -/
def unitAfter (now : Nat) (u : UnitS) : UnitS :=
  match u.state with
  | .probing => { state := .fenced, quiet := now + 1, readmissions := u.readmissions }
  | .rebuilding => { state := .fenced, quiet := now + 1, readmissions := u.readmissions }
  | .fenced => { state := .fenced, quiet := now + 1, readmissions := u.readmissions }
  | x => { state := x, readmissions := u.readmissions }

/-- A pair after a reset (04 R97): Draining returns Free; a timeout starts again. -/
def pairAfter (now : Nat) (p : PairS) : PairS :=
  match p.state with
  | .draining => {}
  | .free => {}
  | x => { p with state := x, since := now, paused := 0 }

/-- The clear of area F was cut off: the sectors that it has erased are gone (14 R337). -/
def cutClear (n : Nat) (l : List LogRec) : List LogRec :=
  match n with
  | 0 => l
  | k + 1 => cutClear k (dropSector sectorBytes l)

/-- HALT_N drivers that a reset of the keel island leaves: the outside one. -/
def State.haltAfter (s : State) : List Nat := if s.pwr.haltOutside && s.haltSwitch then [9] else []

/-- The last cell counted and the value of a counter striped across 32 cells (17 R410): the highest value that passes (of equal ones the
last cell's), and the cell after it counted with one step more where it fails its check. -/
def countedCell (step : Nat) (cells : List (Option Nat)) : Nat × Nat :=
  let top := cells.zipIdx.foldl (fun (a : Nat × Nat) e => match e.1 with
    | some v => if a.2 ≤ v then (e.2, v) else a
    | none => a) (31, 0)
  if (cells.getD ((top.1 + 1) % 32) (some 0)).isNone then ((top.1 + 1) % 32, top.2 + step) else top

/-- A keel start from Off (17 R410): the operating time and the power-cycle count are recovered from their cells, and the count is written. -/
def TimeS.coldStart (t : TimeS) : TimeS :=
  let time := countedCell 32768 t.timeCells
  let cycle := countedCell 1 t.cycleCells
  { t with
    opTime := time.2, cellDue := time.2, cellWrites := time.1 + 1, cycles := cycle.2 + 1
    cycleCells := t.cycleCells.set ((cycle.1 + 1) % 32) (some (cycle.2 + 1)), cycleWrites := (cycle.1 + 1) % 32 + 1 }

/-- Cells whose write the loss of power cut off (17 R410): the next one of the operating time, the last one of the power-cycle count. -/
def TimeS.tear (timeTorn cycleTorn : Bool) (t : TimeS) : TimeS :=
  { t with
    timeCells := if timeTorn then t.timeCells.set (t.cellWrites % 32) none else t.timeCells
    cycleCells := if cycleTorn then t.cycleCells.set ((t.cycleWrites + 31) % 32) none else t.cycleCells }

/-- The dictionary's store after a reset. -/
def ObjS.afterReset (o : ObjS) : ObjS :=
  { vals := o.vals.filter fun e => persistKey e.1
    label := o.label
    ticketNext := o.ticketRes
    ticketRes := o.ticketRes + 4096
    custodianSet := o.custodianSet }

/-- The input stage and Stroke after a reset: the pins as they are, the persist records, Standby. -/
def State.pwrAfter (s : State) : PowerS :=
  { state := .standby
    inputMv := s.pwr.inputMv, pairA := s.pwr.pairA, pairB := s.pwr.pairB
    switchClosed := s.pwr.switchClosed, keelPath := s.pwr.keelPath, breaker := s.pwr.breaker, inputGood := s.pwr.inputGood
    overvoltage := s.pwr.overvoltage
    lossCount := s.pwr.lossCount, tripCount := s.pwr.tripCount
    latch := s.pwr.latch, seqState := if s.pwr.latch.latched then 4 else 0
    haltDrivers := s.haltAfter, haltOutside := s.pwr.haltOutside
    haltCount := s.pwr.haltCount, haltSource := s.pwr.haltSource, haltTime := s.pwr.haltTime
    gaLatched := s.pwr.gaNow, gaPins := s.pwr.gaNow, gaNow := s.pwr.gaNow
    inputLow := s.pwr.inputLow, modrstLow := s.pwr.modrstLow, tap := s.pwr.tap }

/-- Ports and links after a reset: pins kept, the requested mode applied (R421, 03 R65). -/
def State.hstAfter (s : State) : HostS :=
  { ports := (List.range 4).foldl (fun acc p => Tab.set {} acc p
      { cable := (s.port p).cable, downCount := (s.port p).downCount, bifurcated := decide (s.cfg (0x2000 + p) 0 = 1) }) []
    links := (List.range 8).foldl (fun acc h => Tab.set {} acc h { perstLow := (s.link h).perstLow }) [] }

/-- The keel island leaves reset, after a power-on (`cold`) or a full module reset: persist state is kept, everything else is at its
default (R421). -/
def State.keelReset (cold : Bool) (s : State) : State :=
  let s := s.cutFlash
  let s := if cold then s.modTim TimeS.coldStart else s
  let s := s.when cold (State.countPages 1 1)
  let now := s.tim.opTime
  let cause := if cold then 1 else 2
  let pwr := s.pwrAfter
  let hst := s.hstAfter
  let s := s.modObj ObjS.afterReset
  let s := s.modPwr fun _ => pwr
  let s := s.modHst fun _ => hst
  let s := s.modSeat fun _ => {}
  let s := s.modBank fun b => { b with state := 0, boost := false, measured := false, measuring := none, deferred := false }
  let s := s.modThm fun t => { timeAt := t.timeAt, limits := t.limits }
  let s := s.modHlt fun h => { c0 := h.c0, points := h.points, peaks := h.peaks, fitted := h.fitted, slope := h.slope }
  let s := s.modExt fun x =>
    { pairs := Tab.remap {} (fun _ => pairAfter now) x.pairs
      extents := Tab.remap {} (fun _ e => { e with changing := none }) x.extents
      regions := Tab.remap {} (fun _ r => { r with keyed := false }) x.regions
      journalUsed := x.journalUsed, journalGen := x.journalGen }
  let s := s.modRdp fun _ => {}
  let s := s.modWb fun w =>
    { ledger := w.ledger, ledgerSeq := w.ledgerSeq, ledgerNext := w.ledgerNext, durableSeq := w.durableSeq, hostShutdown := w.hostShutdown, lastDirty := w.lastDirty
      dirtyCount := w.dirtyCount, singlePairs := w.singlePairs }
  let s := s.modMed fun m =>
    { granules := m.granules, clearing := m.clearing, failures := m.failures
      channels := Tab.remap {} (fun _ c => { bad := c.bad }) m.channels
      dies := Tab.remap {} (fun _ d => { badTimes := d.badTimes, probePrograms := d.probePrograms }) m.dies }
  let s := s.modTrc fun x =>
    { map := x.map, ckptA := x.ckptA, ckptB := x.ckptB, act := x.act, peak := x.peak, peakBase := x.peakBase, peakCkpt := x.peakCkpt
      peakCkptB := x.peakCkptB, baseCkpt := x.baseCkpt, actCkpt := x.actCkpt, actCkptB := x.actCkptB, directory := x.directory
      scans := x.scans, dirtyPts := x.dirtyPts, retired := x.retired, lastScan := x.lastScan, decided := x.decided }
  let s := s.modItg fun x =>
    { blocks := x.blocks, nodes := x.nodes, root := x.root, high := x.reserve, reserve := x.reserve, record := x.record
      alarms := x.alarms, tagFails := x.tagFails, recovered := x.recovered, reestablished := x.reestablished, overflows := x.overflows
      treeGen := x.treeGen, rekeyRegion := x.rekeyRegion, rekeyState := x.rekeyState, rekeyLeft := x.rekeyLeft
      rekeyExtents := x.rekeyExtents, rekeySlot := 32 }
  let s := s.modScr fun x =>
    { headerRepairs := x.headerRepairs
      rebuilds := Tab.remap {} (fun _ r => { r with cursor := r.persisted, touched := [] }) x.rebuilds }
  let s := s.modStg fun x => { parity := x.parity }
  let s := s.modFlt fun x =>
    { classes := x.classes
      sticky := if cold then x.sticky.filter fun n => !x.stickyDue.contains n else x.sticky
      units := Tab.remap {} (fun _ => unitAfter now) x.units
      lastC3 := x.lastC3, lastC3At := x.lastC3At, lastC3Cycle := x.lastC3Cycle }
  let s := s.modEasy fun e => { entries := e.entries }
  let s := s.modStr fun x => { kind := cause, clean := x.clean, origin := now }
  let s := s.modCox fun c =>
    { watchdogMs := c.watchdogMs, resets := c.resets, lastReset := c.lastReset, lastOrphan := c.lastOrphan, resetAt := now
      startCause := cause, options := c.options, optionState := c.optionState }
  let s := s.modImg fun x => { x with slot := none, activateSlot := none }
  let s := s.modPar fun p => { p with queue := [] }
  let s := s.modLog fun l =>
    { areaC := l.areaC
      areaF := match l.clearing with
        | some (_, left) => cutClear (256 - left) l.areaF
        | none => l.areaF
      next := l.reserve, reserve := (l.reserve + 65536) % 2 ^ 32, lastDurable := l.lastDurable, defs := l.defs }
  let s := s.modTly fun _ => {}
  (s.modWop fun w => { keys := w.keys, nextBulk := w.nextBulk }).storeWrite 80

/-- A full module reset is applied (R422 steps 3 and 4): staged records are written out for at most 500 ms, then the keel island is
reset. -/
def State.fullReset (s : State) : State :=
  (if s.noPrograms then s else s.writeOutSome 20150).keelReset false

/-- The keel island loses its power: the module is Off. Operations on the medium are cut off; what was only staged is gone (14 R329). -/
def State.powerLost (s : State) : State :=
  let s := if s.pwr.state = .holdUpFlush then
      s.modBank fun b => { b with keelMs := s.tim.opTime - b.flushMark }
    else s
  let s := s.coreLost true true
  let s := s.modPwr fun p => { p with state := .off, domains := [], seqState := 0, step := 0, reqOff := false, tap := .idcode }
  let s := s.modCox fun c => { c with state := 0 }
  let s := s.modBank fun b => { b with state := 0, boost := false, measuring := none }
  s.linksSync

end Sys2Proof.Machine
end

