-- ==== Sys2Proof/Machine/Power.lean ====
section
/-! DEFINITION. Stroke's sequences: power-up, power-down, the latch, HALT_N, Core start, what follows a flush (15 R344–R356, 02 R61). -/

namespace Sys2Proof.Machine

/-! ## Steps (R346) -/

/-- Domains of a step, in ascending number. -/
def stepDomains (k : Nat) : List Nat :=
  if k = 1 then [0]
  else if k = 2 then [9, 10] ++ range' 16 16
  else if k = 3 then [2, 3, 4, 11]
  else if k = 4 then [5, 6, 7, 8]
  else if 5 ≤ k ∧ k ≤ 13 then [k - 5, k + 4, k + 13, k + 22].flatMap fun c => range' (32 + 4 * c) 4
  else if k = 14 then [1]
  else if k = 15 then [12, 13, 14, 15]
  else []

/-- The step of a domain. -/
def stepOf (d : Nat) : Nat :=
  if d = 0 then 1
  else if d = 1 then 14
  else if d = 9 ∨ d = 10 ∨ (16 ≤ d ∧ d < 32) then 2
  else if d = 2 ∨ d = 3 ∨ d = 4 ∨ d = 11 then 3
  else if d < 12 then 4
  else if d < 16 then 15
  else 5 + (d - 32) / 4 % 9

/-- The address of a power fault message: domain in A[7:0], step in A[15:8] (R344, R346). -/
def powerAddr (d : Nat) : Nat := d + 256 * stepOf d

/-- The source of a Seat. -/
def srcSeat (n : Nat) : Nat := 0x2B0 + n

/-- Count seat bus transactions (0x5050.00). -/
def State.seatTx (n : Nat) (s : State) : State := s.modSeat fun x => { x with transactions := x.transactions + n }

/-- Stroke reaches a Seat. -/
def State.seatAnswers (s : State) (d : Nat) : Bool := !(s.seatOf (seatOfDomain d)).silent

/-- Every domain of a step is on, or is skipped for a fence (R347). -/
def State.stepDone (s : State) (k : Nat) : Bool := (stepDomains k).all fun d => s.domainOn d || s.offByFence d

/-- A step begins: its domains are switched on (R346). -/
def State.beginStep (k : Nat) (s : State) : State :=
  let l := (stepDomains k).filter fun d => !s.domainOn d && !s.offByFence d && s.seatAnswers d
  let s := (s.modPwr fun p => { p with step := k }).seatTx l.length
  forEach l (fun d => State.modDomain d fun x => { x with state := 1, drops := 0 }) s

/-- A channel's lanes follow the power of its four stacks (07 R182, R445): training begins with the last of them. -/
def State.chanSync (c : Nat) (s : State) : State :=
  let powered := (range' (32 + 4 * c) 4).all fun d => s.domainOn d || s.offByFence d
  s.modChannel c fun x =>
    if s.isOut (srcChannel c) || !powered then { x with state := 0 }
    else if x.state = 0 then { x with state := 1 } else x

/-- What a domain's power brings or takes: links, a channel's lanes, the content of a staging part, the reports of CD0. -/
def State.domainSync (d : Nat) (s : State) : State :=
  if d = 0 then
    forEach allHeads (fun h => fun s => let b := s.boundStatus h; s.modHead h fun x => { x with bound := b }) s
  else if d = 1 ∨ (12 ≤ d ∧ d < 16) then s.linksSync
  else if 16 ≤ d ∧ d < 32 then
    (if s.domainOn d then s else s.modSram (d - 16) fun x => { x with ready := false })
  else if 32 ≤ d then s.chanSync ((d - 32) / 4)
  else s

/-- Switch domains off together; a margin returns to 0 (R352, R361). -/
def State.switchOff (l : List Nat) (s : State) : State :=
  let on := l.filter fun d => decide (1 ≤ (s.domain d).state ∧ (s.domain d).state ≤ 3)
  let margined := on.filter fun d => decide ((s.domain d).margin ≠ 0)
  let s := s.seatTx on.length
  let s := forEach on (fun d => State.modDomain d fun _ => {}) s
  let s := forEach margined (fun _ => State.powerEvent 16) s
  forEach on State.domainSync s

/-! ## The latch (R351) -/

/-- Set the latch: the first failure stays, of two at one time the lower source (R351, R368). -/
def State.setLatch (d cause src : Nat) (s : State) : State :=
  let l := s.pwr.latch
  if l.latched ∧ ¬ (l.time = s.tim.opTime ∧ src < l.source) then s
  else
    let s := s.modPwr fun p =>
      { p with latch := { latched := true, domain := d, step := stepOf d, cause := cause, source := src, time := s.tim.opTime } }
    let s := s.storeWrite 94
    ((if l.latched then s else s.powerEvent 9)).healthSync

/-- Nothing is latched any more. -/
def State.clearLatch (s : State) : State :=
  let s := s.modPwr fun p => { p with latch := {}, seqState := if p.seqState = 4 then 0 else p.seqState }
  ((s.storeWrite 94).powerEvent 10).healthSync

/-! ## HALT_N (R354–R356) -/

/-- The fault of a Seat is still present: its domain has failed. -/
def State.faultPresent (s : State) (n : Nat) : Bool :=
  decide ((s.seatOf n).fault ≠ 0) && decide ((s.domain (s.seatOf n).faultDomain).state = 4)

/-- The module's drive of J6 HALT_N follows the internal line while the switch is closed (02 R55). -/
def State.haltSync (before : Bool) (s : State) : State :=
  let now := s.haltSwitch && s.haltLow
  if now = before then s else s.emit (.haltPin now)

/-- With the core down, Stroke lets go, and every Seat that it reaches and whose fault is gone lets go (R356). -/
def State.releaseHalt (s : State) : State :=
  let before := s.haltSwitch && s.haltLow
  let mine := s.pwr.haltDrivers.filter fun n => decide (1 ≤ n ∧ n ≤ 8)
  let keep := fun (n : Nat) => n == 9 || (decide (1 ≤ n ∧ n ≤ 8) && (s.faultPresent n || (s.seatOf n).silent))
  let s := s.seatTx mine.length
  (s.modPwr fun p => { p with haltDrivers := p.haltDrivers.filter keep }).haltSync before

/-- A Seat's fault (R357). -/
def State.seatFault (n fault d : Nat) (s : State) : State := s.modSeatOf n fun x => { x with fault := fault, faultDomain := d }

/-- A driver pulls HALT_N low (R354). -/
def State.pullHalt (who : Nat) (s : State) : State :=
  let before := s.haltSwitch && s.haltLow
  (s.driveHalt who).haltSync before

/-! ## Core start (02 R61, 15 R346) -/

/-- The limits of R61: management ready, J1 within 36–75 V, no latch, HALT_N released and not held; MODRST_N high (19 R436). -/
def State.canStart (s : State) : Bool :=
  decide (s.pwr.state = .standby) && s.coxUp && !s.str.keelFailed && !s.pwr.latch.latched && !s.haltLow && !s.pwr.haltHold
    && !s.pwr.resetAsked && !s.pwr.modrstLow && s.pwr.switchClosed && decide (36000 ≤ s.pwr.inputMv ∧ s.pwr.inputMv ≤ 75000)

/-! ## Going up -/

/-- Step 15 has qualified: the core is powered (R346, 18 R412 step 6). -/
def State.corePowered (s : State) : State :=
  let s := s.modPwr fun p => { p with seqState := 2 }
  if s.str.powered then s.mapStep
  else
    let s := ((s.modStr fun x => { x with powered := true, phase := .mapLoad }).startTime 1).powerEvent 7
    (s.linksSync).mapStep

/-- Go on with the power-up where the step in progress is complete (R346, R347, R377). -/
def State.advance (fuel : Nat) (s : State) : State :=
  match fuel with
  | 0 => s
  | n + 1 =>
    if s.pwr.seqState = 1 ∧ ¬ s.pwr.paused ∧ s.stepDone s.pwr.step then
      if s.pwr.mediaOnlyUp ∧ s.pwr.step = 13 then (s.modPwr fun p => { p with seqState := 2 }).mediaBack
      else if 15 ≤ s.pwr.step then s.corePowered
      else (s.beginStep (s.pwr.step + 1)).advance n
    else s

/-- Core start begins: the boost stage, step 1, the times of the start (R346, R421, R423). -/
def State.coreStart (s : State) : State :=
  let now := s.tim.opTime
  let s := s.modPwr fun p =>
    { p with
      state := .coreStart, seqState := 1, step := 0, fastDown := false, mediaOnlyDown := false, mediaOnlyUp := false, paused := decide (3 ≤ s.thm.level) }
  let s := s.modEasy fun e => { e with causes := e.causes &&& ~~~(1#8 <<< 6), state := .out, thenDown := false }
  let s := s.modBank fun b => { b with boost := true, state := 1, measured := false }
  let s := s.modStr fun x =>
    if x.began then { x with phase := .corePowering, kind := 3, origin := now, times := [0, 0, 0, 0, 0, 0] }
    else { x with phase := .corePowering, began := true }
  (s.powerEvent 6).advance 17

/-! ## Going down (R352) -/

/-- A power-down begins: its first step, the whole core or the media alone, with or without waits. -/
def State.startDown (fast mediaOnly : Bool) (s : State) : State :=
  let top :=
    if s.pwr.seqState = 3 ∧ ¬ s.pwr.mediaOnlyDown then s.pwr.step
    else if s.pwr.seqState = 1 ∧ ¬ s.pwr.mediaOnlyUp ∧ ¬ s.str.powered then s.pwr.step
    else 15
  s.modPwr fun p =>
    { p with seqState := 3, step := if mediaOnly then min 13 top else top, fastDown := fast, mediaOnlyDown := mediaOnly, mediaOnlyUp := false }

/-- The reset that was asked for is applied once MODRST_N is high and the core is down (02 R54). -/
def State.tryReset (s : State) : State :=
  if s.pwr.resetAsked ∧ ¬ s.pwr.modrstLow ∧ s.pwr.state = .standby ∧ s.pwr.seqState ≠ 3 then s.fullReset else s

/-- A measurement is asked for and ends without one (15 R367). -/
def State.measureEnd (outcome : Nat) (s : State) : State :=
  let s := match s.bank.measuring with
    | some (n + 1) => s.ticketDone n outcome []
    | _ => s
  s.modBank fun b => { b with measuring := none, deferred := false }

/-- The core is down: what follows (R352, R356, R365, R422). -/
def State.downDone (s : State) : State :=
  let onBank := s.pwr.state = .holdUpFlush
  let off := s.pwr.state = .coreStart ∧ ¬ s.pwr.switchClosed
  let s := (s.coreLost false false).modPwr fun p =>
    { p with seqState := if onBank then 5 else if p.latch.latched then 4 else 0, step := 0, fastDown := false, mediaOnlyDown := false }
  let s := (s.powerEvent 8).releaseHalt
  if onBank ∧ ¬ s.pwr.resetAsked then s.powerEvent 5
  else if off then s.powerLost
  else
    let s := s.measureEnd 0x07
    let s := s.modPwr fun p => { p with state := .standby }
    let d := s.draw
    let s := d.2.modBank fun b =>
      { b with boost := false, state := 0, mv := if b.mv < 40000 then b.mv else Config.freeNat d.1 % 40000, measured := false }
    let s := s.modEasy fun e => { e with state := .out, thenDown := false }
    let s := (s.easySlots false 0x07).easySlots true 0x07
    (s.modStr fun x => { x with phase := .standby }).tryReset

/-- The media alone are down (11 R281, 16 R377): in Core start the steps wait before the first media wave. -/
def State.mediaDown (s : State) : State :=
  if s.pwr.state = .coreStart then
    s.modPwr fun p => { p with seqState := 1, step := 4, mediaOnlyDown := false, paused := true }
  else
    let s := s.modPwr fun p => { p with seqState := 2, step := 0, mediaOnlyDown := false, state := .easyAllMediaOff }
    s.modEasy fun e => { e with state := .flushedMediaOff }

/-- One step of a power-down: its domains go off together. -/
def State.downStep (s : State) : State :=
  let k := s.pwr.step
  let s := s.switchOff (stepDomains k)
  if s.pwr.mediaOnlyDown ∧ k ≤ 5 then s.mediaDown
  else if k ≤ 1 then s.downDone
  else s.modPwr fun p => { p with step := k - 1 }

/-- A failure to come up (R348, R350): reported by Stroke, which drives HALT_N; latched; every domain that is on goes down. -/
def State.comeUpFailure (d fault : Nat) (s : State) : State :=
  let s := (s.modDomain d fun x => { x with state := 4, margin := 0 }).seatFault (seatOfDomain d) fault d
  let s := (s.report 0x2B0 0x63 (some (powerAddr d))).setLatch d 1 0x2B0
  (s.pullHalt 0).startDown false false

/-! ## After the flush -/

/-- The bank stands at its charge voltage with the boost stage on: ready, low in capacitance, or waiting for its first measurement. -/
def State.bankCharged (s : State) : Bool :=
  s.bank.boost && decide ((s.bank.state = 1 ∨ s.bank.state = 2 ∨ s.bank.state = 5) ∧ 70000 ≤ s.bank.mv)

/-- A deferred measurement may start: the bank is charged, no flush runs, the level is below T3 (R367, R368). -/
def State.measureFree (s : State) : Bool :=
  s.bankCharged && !s.wb.flushing && decide (s.thm.level < 3)

/-- Start a measurement (R367). -/
def State.measure (slot : Option Nat) (s : State) : State :=
  s.modBank fun b => { b with state := 3, measuring := some (match slot with | some n => n + 1 | none => 0), deferred := false }

/-- The deferred measurement starts when it can. -/
def State.measureSync (s : State) : State :=
  if s.bank.deferred ∧ s.measureFree then
    s.measure (match s.bank.measuring with | some (n + 1) => some n | _ => none)
  else s

/-- What the end of the flush leads to (02 R44, R61, R62, 15 R365): the core down on the bank, for a reset, or for Standby; the media down
after T4; else the exit where no cause is left. -/
def State.afterFlush (s : State) : State :=
  if s.pwr.state = .holdUpFlush then
    (if s.bank.state = 4 then s.startDown true false else s)
  else if s.pwr.resetAsked ∨ s.easy.thenDown then s.startDown false false
  else if s.cause 2 then
    (if s.pwr.state = .easyAllMediaOff ∧ ¬ s.pwr.mediaOnlyUp then s else s.startDown false true)
  else s.easyCheck.measureSync

/-- In Easy-all with its flush ended and no power-down running: a new cause acts at once. -/
def State.easyNext (s : State) : State :=
  if (s.pwr.state = .easyAll ∨ s.pwr.state = .easyAllMediaOff) ∧ s.easyFlushed ∧ s.pwr.seqState ≠ 3 then s.afterFlush else s

/-- Take the core down on request: Easy-all first in data service, at once in Core start (02 R61, R62, 15 R355). -/
def State.coreDown (s : State) : State :=
  let s := s.modEasy fun e => { e with thenDown := true }
  if s.pwr.state = .coreStart then (if s.pwr.seqState = 3 ∧ ¬ s.pwr.mediaOnlyDown then s else s.startDown false false)
  else if s.pwr.state = .easyAll ∧ s.easyFlushed then s.startDown false false
  else if s.pwr.state = .easyAllMediaOff then s.startDown false false
  else s

end Sys2Proof.Machine
end

