-- ==== Sys2Proof/Machine/Thermal.lean ====
section
/-! DEFINITION. The thermal front end: conversions, faults, levels, limits, the actions of the levels (16 R369–R378). -/

namespace Sys2Proof.Machine

/-- The source of an input. -/
def srcInput (i : Nat) : Nat := 0x2C0 + i

/-- Factory maxima of the limits and the hysteresis (R371). -/
def factoryLimits : List (List Int) :=
  [[700, 750, 800, 850, 30], [450, 500, 550, 600, 30], [700, 750, 800, 850, 30], [950, 1000, 1050, 1100, 30], [950, 1000, 1050, 1100, 30]]

/-! ## A conversion (R370, R374) -/

/-- The conversion is not good: outside −40 °C to 150 °C, open or shorted, or more than 20 °C from the one before (R374). -/
def badConversion (x : SensorS) (reading : Int) (broken : Bool) : Bool :=
  broken || decide (reading < -400 ∨ 1500 < reading) || (x.seen && decide (200 < (reading - x.reading).natAbs))

/-- An input after a conversion, its level not yet considered: readings, fault, maximum (R374). -/
def SensorS.take (x : SensorS) (reading : Int) (bad : Bool) : SensorS :=
  let good := if bad then 0 else x.good + 1
  { x with
    before := x.reading, reading := reading, seen := true
    peak := if bad then x.peak else if x.seen then max x.peak reading else reading
    faulty := bad || (x.faulty && decide (good < 100))
    good := if bad || !x.faulty then 0 else if good < 100 then good else 0 }

/-- Successive conversions at or above each limit (R373). -/
def State.oversOf (s : State) (i : Nat) (v : Option Int) (old : List Nat) : List Nat :=
  (List.range 4).map fun k => match v with
    | some r => if s.limit (inputKind i) (k + 1) ≤ r then nth old k + 1 else 0
    | none => 0

/-- The highest level that the counts give: two conversions; one for T4 of a privileged input (R373). -/
def risenTo (i : Nat) (overs : List Nat) : Nat :=
  if 2 ≤ nth overs 3 ∨ (privileged i ∧ 1 ≤ nth overs 3) then 4
  else if 2 ≤ nth overs 2 then 3
  else if 2 ≤ nth overs 1 then 2
  else if 2 ≤ nth overs 0 then 1
  else 0

/-- The reading lies below the limit of a level less the hysteresis (R373). -/
def State.belowLevel (s : State) (i level : Nat) (v : Option Int) : Bool :=
  match v with
  | some r => decide (1 ≤ level) && decide (r < s.limit (inputKind i) level - s.limit (inputKind i) 5)
  | none => false

/-- A privileged input is converted every 250 µs from T1 less 5 °C up to its fall below T1 less 7 °C (R370). -/
def State.fastOf (s : State) (i : Nat) (was : Bool) (v : Option Int) : Bool :=
  match v with
  | some r => privileged i && (if was then decide (s.limit (inputKind i) 1 - 70 ≤ r) else decide (s.limit (inputKind i) 1 - 50 ≤ r))
  | none => false

/-- The level of an input after a conversion of it: the value used, rising, or held where no working input gives one (R373, R374). -/
def State.judge (i : Nat) (s : State) : State :=
  let u := s.used i
  let x := s.input i
  let overs := s.oversOf i u.1 x.overs
  let level := match u.1 with
    | some _ => max (max x.level (risenTo i overs)) u.2
    | none => u.2
  let below := s.belowLevel i level u.1
  s.modInput i fun x =>
    { x with
      overs := overs, level := level, fast := s.fastOf i x.fast u.1
      belowSince := if below then (if level = x.level ∧ x.belowSince ≠ 0 then x.belowSince else s.tim.opTime + 1) else 0 }

/-! ## The module's level (R373, R375–R377) -/

/-- The steps of Core start pause while the level is T3 or above, or T4 has not cleared (R377). -/
def State.pauseSync (s : State) : State :=
  if s.pwr.state = .coreStart ∧ s.pwr.seqState = 1 then
    (s.modPwr fun p => { p with paused := decide (3 ≤ s.thm.level) || s.cause 2 }).advance 17
  else s

/-- T4 (R375, R377): Easy-all and its media off; in Core start the cause, and the media that are on go off. -/
def State.reachT4 (s : State) : State :=
  if s.inService || s.inEasy then (s.easyEnter 2).easyNext
  else if s.pwr.state = .coreStart then
    let s := s.easyEnter 2
    if s.pwr.seqState = 2 ∨ (s.pwr.seqState = 1 ∧ 5 ≤ s.pwr.step) then s.startDown false true else s.pauseSync
  else s

/-- The module's level follows its inputs; a change is reported and acts (R373). The input is the one that decided. -/
def State.levelSync (i : Nat) (s : State) : State :=
  let old := s.thm.level
  let new := ((List.range 44).map fun j => (s.input j).level).foldl max 0
  if new = old then s
  else
    let s := s.modThm fun t => { t with level := new, counts := modNth t.counts 2 (· + 1) }
    let s := s.report (srcInput i) 0x70 (some (s16 (s.given i)))
    let s := s.headEvent allHeads 5 (srcInput i)
      (payload32 (be 1 new ++ be 1 old ++ be 2 s.hottest ++ s32 (s.given s.hottest)))
    let s := s.fireWhere (fun d => decide (d.trigger = 5 ∧ d.param ≤ new)) 0
    let s := s.boundSync.healthSync
    let s := if new = 4 then s.reachT4 else s.pauseSync
    if new < old then s.grantIdle.measureSync else s

/-- THERMAL_CONVERSION (16 R370, R373, R374): in every power state but Off. -/
def execThermalConversion (input : Nat) (reading : Int) (openOrShort : Bool) (s : State) : Res :=
  if !s.keelOn || decide (44 ≤ input) then .next s
  else
    let x := s.input input
    let bad := badConversion x reading openOrShort
    let s := s.modThm fun t => { t with counts := modNth (modNth t.counts 0 (· + 1)) 1 (· + bit x.fast) }
    let s := s.modInput input fun x => x.take reading bad
    let s := if bad ∧ ¬ x.faulty then
        (s.modThm fun t => { t with counts := modNth t.counts 3 (· + 1) }).report (srcInput input) 0x71 (some (s16 reading))
      else s
    let s := s.judge input
    let s := if (s.input input).faulty = x.faulty then s else s.healthSync
    .next (s.levelSync input)

/-- LEVEL_FALL (16 R373): the input has been below its limit less the hysteresis for 1 s; one level per event. -/
def execLevelFall (input : Nat) (s : State) : Res :=
  let x := s.input input
  if s.keelOn ∧ x.belowSince ≠ 0 ∧ 1 ≤ x.level then
    let below := s.belowLevel input (x.level - 1) (s.used input).1
    let s := s.modInput input fun x =>
      { x with level := x.level - 1, belowSince := if below then s.tim.opTime + 1 else 0 }
    .next (s.levelSync input)
  else .next s

/-! ## T4 clears (11 R281) -/

/-- T4_CLEAR_TIMER (11 R281, 16 R377): the level has been T2 or below for 60 s; the cause clears and the media come back. -/
def execT4ClearTimer (s : State) : Res :=
  if s.cause 2 ∧ s.thm.level ≤ 2 ∧ s.pwr.seqState ≠ 3 then
    let s := s.modEasy fun e => { e with causes := e.causes &&& ~~~(1#8 <<< 2) }
    if s.pwr.state = .easyAllMediaOff then
      let s := s.modPwr fun p => { p with mediaOnlyUp := true, seqState := 1, step := 4, paused := false }
      .next ((s.modEasy fun e => { e with state := .leaving }).advance 17)
    else if s.pwr.state = .coreStart then .next s.pauseSync
    else .next s.easyCheck
  else .next s

/-! ## Limits (R371, R372) -/

/-- A write of limits passes R372. -/
def limitsOk (kind : Nat) (l : List Int) (hyst : Nat) : Bool :=
  let top := factoryLimits.getD kind []
  ((List.range 4).all fun k => decide (l.getD k 0 ≤ top.getD k 0))
    && ((List.range 3).all fun k => decide (l.getD k 0 + 20 ≤ l.getD (k + 1) 0))
    && decide (10 ≤ hyst ∧ hyst ≤ 100)

/-- Store the limits of a kind. -/
def State.setLimits (kind : Nat) (l : List Int) (s : State) : State :=
  s.modThm fun t => { t with limits := t.limits.set kind l }

/-- A write of 0x5110.kk (R372). -/
def State.limitsOp (req : Req) (kind : Nat) (l : List Int) (hyst : Nat) (s : State) : Acc :=
  if 4 < kind then s.answer 0x02
  else if !limitsOk kind l hyst then s.answer 0x06
  else s.putRecord req 0x5110 kind (l.flatMap s32 ++ be 2 hyst) (State.setLimits kind (l ++ [(hyst : Int)]))

/-- LIMITS_WRITE (16 R372). -/
def execLimitsWrite (kind : Nat) (t1 t2 t3 t4 : Int) (hyst : Nat) (s : State) : Res :=
  accessed s (respondAccess byOperator 0x5110 kind (s.limitsOp byOperator kind [t1, t2, t3, t4] hyst))

end Sys2Proof.Machine
end

