-- ==== Sys2Proof/Machine/Bank.lean ====
section
/-! DEFINITION. The hold-up bank and its capacitance (15 R362–R368). -/

namespace Sys2Proof.Machine

/-- End-of-life capacitance, µF (R362). -/
def bankEndOfLife : Nat := 2400

/-- The bank becomes not ready: reported once per entry (R363, R364). -/
def State.bankFail (s : State) : State :=
  let first := !s.bank.notReady
  let s := s.modBank fun b => { b with state := 5, notReady := true }
  if first then ((s.report 0x2B9 0x65 none).powerEvent 13).predict.healthSync else s

/-- BANK_CHARGED (15 R363, R367): 72.0 V for the first time since the core was switched on; the first measurement, at T3 or above
deferred (R368). -/
def execBankCharged (s : State) : Res :=
  if s.bank.boost ∧ (s.bank.state = 1 ∨ s.bank.state = 5) ∧ ¬ s.bank.measured ∧ s.bank.measuring = none then
    let s := s.modBank fun b => { b with mv := 72000, deferred := true }
    .next s.measureSync
  else .next s

/-- BANK_READY (15 R363): at least 70.0 V, and a measurement of at least 2.4 mF since the core was switched on. -/
def execBankReady (mv : Nat) (s : State) : Res :=
  if s.bank.boost ∧ (s.bank.state = 1 ∨ s.bank.state = 5) ∧ 70000 ≤ mv ∧ s.bank.measured ∧ bankEndOfLife ≤ s.bank.uF then
    let s := s.modBank fun b => { b with state := 2, mv := mv, notReady := false }
    .next (s.powerEvent 12).predict.healthSync.measureSync
  else .next s

/-- BANK_READY_TIMEOUT (15 R363): not ready within 3 s of step 0. -/
def execBankReadyTimeout (s : State) : Res :=
  if s.pwr.state = .coreStart ∧ s.bank.boost ∧ s.bank.state ≠ 2 then .next s.bankFail else .next s

/-- BANK_LOW_VOLTAGE (15 R364): below 70.0 V for 100 ms in data service, outside a measurement and a flush. -/
def execBankLowVoltage (mv : Nat) (s : State) : Res :=
  if s.inService ∧ (s.bank.state = 2 ∨ s.bank.state = 5) ∧ mv < 70000 then
    .next (s.modBank fun b => { b with mv := mv }).bankFail
  else .next s

/-- BOOST_FAULT (15 R364). -/
def execBoostFault (s : State) : Res :=
  if s.inService ∧ s.bank.boost then .next s.bankFail else .next s

/-- CAPACITANCE_MEASUREMENT_DUE (15 R367, R368): in data service, and in Easy-all after the flush; deferred in a flush and at T3 or above. -/
def execCapacitanceMeasurementDue (s : State) : Res :=
  if (s.inService || s.inEasy) ∧ s.bank.state ≠ 3 ∧ s.bank.state ≠ 4 then
    .next (s.modBank fun b => { b with deferred := true }).measureSync
  else .next s

/-- The request of a measurement as an access (0x5040.04): state conflict while the bank is not charged, or is being measured. -/
def State.measureOp (req : Req) (s : State) : Acc :=
  s.deferred req 0x5040 4 (fun n => fun s =>
    if s.bankCharged && s.bank.measuring.isNone then
      (s.modBank fun b => { b with deferred := true, measuring := some (n + 1) }).measureSync
    else s.ticketDone n 0x07 [])

/-- MEASURE_NOW (15 R367). -/
def execMeasureNow (req : Req) (s : State) : Res :=
  accessed s (respondAccess req 0x5040 4 (guarded req 0x5040 4 (State.measureOp req) s))

/-- The figures of a measurement (R367): 0.5 A × t ÷ 1.0 V, the step over 0.5 A, normalised by the factory characterisation. -/
def State.measured (timeUs stepMv : Nat) (s : State) : State :=
  let temp := s.bankTemp
  let raw := timeUs / 2
  let uF := Config.normalise raw temp
  let now := s.tim.opTime
  let s := s.modBank fun b =>
    { b with
      uFRaw := raw, uF := uF, esr := 2 * stepMv, temp := temp, measuredAt := now, measured := true, capTime := timeUs, capStep := stepMv
      mv := 72000 }
  let s := s.modHlt fun h => { h with c0 := if h.c0 = 0 then uF else h.c0, points := keepPoint (now / 3600000) uF h.points }
  (s.storeWrite 95).powerEvent 11

/-- MEASUREMENT_COMPLETE (15 R363, R364, R367, 16 R380). -/
def execMeasurementComplete (timeUs stepMv : Nat) (s : State) : Res :=
  if s.bank.measuring.isSome ∧ ¬ s.bank.deferred then
    let s := (s.measured timeUs stepMv).measureEnd 0x00
    let s := if s.bank.uF < bankEndOfLife then s.bankFail
      else if s.pwr.state = .coreStart ∨ s.bank.notReady then s.modBank fun b => { b with state := 1 }
      else s.modBank fun b => { b with state := 2 }
    .next s.refit.predict.healthSync
  else .next s

end Sys2Proof.Machine
end

