-- ==== Sys2Proof/Machine/EventQueue.lean ====
section
/-! DEFINITION. The commands of the event queue page (04 R110–R113). A host reaches it over CXL.io, while its link is up. -/

namespace Sys2Proof.Machine

/-- The ring lies on a boundary of its own size and SIZE is at most 8 (R111). -/
def ringOk (base size : Nat) : Bool := decide (size ≤ 8 ∧ base / 4096 * 4096 % (4096 * 2 ^ size) = 0)

/-- EQ_ENABLE (04 R110, R111): the page is written and ENABLE set; the indices, the drop count and the sequence start at 0. While
ENABLE is 1, EQ_BASE, EQ_MIRROR and SIZE are ignored. -/
def execEqEnable (head base mirror coal size : Nat) (mask : BitVec 16) (s : State) : Res :=
  if s.linkUp head then
    .next (s.modEq head fun q =>
      if q.enable then { q with coal := coal % 1024, mask := mask }
      else
        let q := { q with
          base := base / 4096 * 4096, mirror := mirror / 8 * 8, coal := coal % 1024, size := size % 16, mask := mask }
        if ringOk base (size % 16) then
          { q with enable := true, pi := 0, ci := 0, dropped := 0, seq := 0, gap := false, coalescing := false, signalledPi := 0 }
        else q)
  else .next s

/-- EQ_DISABLE (04 R111). -/
def execEqDisable (head : Nat) (s : State) : Res :=
  if s.linkUp head then .next (s.modEq head fun q => { q with enable := false }) else .next s

/-- EQ_CI_WRITE (04 R112): ignored, with CI_ERR, when (PI − new) exceeds N or (new − old) exceeds (PI − old). -/
def execEqCiWrite (head : Nat) (ci : BitVec 32) (s : State) : Res :=
  if s.linkUp head then
    .next (s.modEq head fun q =>
      if q.ringSize < (q.pi - ci).toNat ∨ (q.pi - q.ci).toNat < (ci - q.ci).toNat then { q with ciErr := true }
      else { q with ci := ci })
  else .next s

/-- EQ_STATUS_CLEAR (04 R110): a written one clears. -/
def execEqStatusClear (head : Nat) (overflow ciErr : Bool) (s : State) : Res :=
  if s.linkUp head then
    .next (s.modEq head fun q => { q with overflow := q.overflow && !overflow, ciErr := q.ciErr && !ciErr })
  else .next s

/-- EQ_COALESCE_INTERVAL_END (04 R113): one more message when PI has advanced, and the next interval runs from it. -/
def execEqCoalesceIntervalEnd (head : Nat) (s : State) : Res :=
  let q := (s.head head).eq
  if q.coalescing then
    if q.pi ≠ q.signalledPi then .next ((s.modEq head fun q => { q with signalledPi := q.pi }).msix head 2)
    else .next (s.modEq head fun q => { q with coalescing := false })
  else .next s

end Sys2Proof.Machine
end

