-- ==== Sys2Proof/Machine/Sequencer.lean ====
section
/-! DEFINITION. The commands of Stroke and the Seats: qualification, rail failures, power-down, HALT_N, the seat bus, the latch, margining
(15 R344–R361, 19 R439). -/

namespace Sys2Proof.Machine

/-! ## Qualification and failures (R347–R353) -/

/-- The unit whose probe powers a domain (R347). -/
def State.probeOf (s : State) (d : Nat) : Option Nat :=
  ((s.flt.units.filter fun u => decide (u.2.state = .probing) && (probeDomains u.1).contains d).map Prod.fst).head?

/-- A domain of a probe does not come up: it goes off again and the probe fails (R347). -/
def State.probeRail (src d : Nat) (s : State) : State :=
  ((s.modDomain d fun _ => {}).probeFailed src).probeWaiting

/-- A media domain that does not come up on the way out of T4: the channel's probe fails (R350). -/
def State.mediaRail (d : Nat) (s : State) : State :=
  let c := (d - 32) / 4
  let s := (s.modDomain d fun _ => {}).report (srcChannel c) 0x01 none
  ((s.reactionFence (srcChannel c)).advance 17)

/-- A domain of the step in progress does not come up (R348, R350). -/
def State.railUpFailed (d fault : Nat) (s : State) : State :=
  match s.probeOf d with
  | some src => s.probeRail src d
  | none => if s.pwr.mediaOnlyUp ∧ 32 ≤ d then s.mediaRail d else s.comeUpFailure d fault

/-- DOMAIN_QUALIFIED (15 R346, R348): after two to seven drops it is chatter too; the eighth is a failure to come up. -/
def execDomainQualified (domain drops : Nat) (s : State) : Res :=
  let x := s.domain domain
  if x.state = 1 ∨ x.state = 2 then
    let n := max x.drops drops
    if 8 ≤ n then .next (s.railUpFailed domain 2)
    else
      let s := (s.modDomain domain fun x => { x with state := 3, drops := n }).domainSync domain
      let s := if 2 ≤ n then s.report (srcSeat (seatOfDomain domain)) 0x62 (some (powerAddr domain)) else s
      .next (s.advance 17)
  else .next s

/-- STEP_TIMEOUT (15 R348): suspended during a pause (16 R377); the first domain that has not qualified names the failure. -/
def execStepTimeout (s : State) : Res :=
  if s.pwr.seqState = 1 ∧ ¬ s.pwr.paused then
    match (stepDomains s.pwr.step).find? fun d => !s.domainOn d && !s.offByFence d with
    | some d => .next (s.railUpFailed d 1)
    | none => .next s
  else .next s

/-- What the loss of a domain that was on takes with it (R447). -/
def State.railGone (d : Nat) (s : State) : State :=
  let s := s.domainSync d
  if d = 0 ∨ (2 ≤ d ∧ d < 12) then s.modWb fun w => { w with flushBroken := true }
  else if 16 ≤ d ∧ d < 32 then s.reactionFence (srcPart (d - 16))
  else if 32 ≤ d then
    forEach (range' ((d - 32) / 4 * 16 + (d - 32) % 4 * 4) 4) State.reactionFence s
  else s

/-- RAIL_FAILURE (15 R350, R353, R447). -/
def execRailFailure (domain : Nat) (overcurrent : Bool) (s : State) : Res :=
  let st := (s.domain domain).state
  let seat := seatOfDomain domain
  let src := srcSeat seat
  if !s.keelOn || decide (176 ≤ domain) then .next s
  else if st = 0 ∨ st = 4 then
    if s.pwr.seqState = 3 ∧ stepOf domain = s.pwr.step + 1 then
      -- its power-down has not completed
      .next (if overcurrent then (s.report src 0x64 (some (powerAddr domain))).setLatch domain 2 src
        else s.report src 0x66 (some (powerAddr domain)))
    else
      let s := (s.modDomain domain fun x => { x with state := 4 }).seatFault seat (if overcurrent then 3 else 4) domain
      let s := (s.report src (if overcurrent then 0x64 else 0x63) (some (powerAddr domain))).setLatch domain 2 src
      .next (s.pullHalt seat)
  else if overcurrent then
    let s := (s.modDomain domain fun _ => {}).seatFault seat 3 domain
    let s := (s.report src 0x64 (some (powerAddr domain))).setLatch domain 2 src
    .next ((s.railGone domain).pullHalt seat)
  else if st = 3 then
    if s.pwr.seqState = 3 then .next (s.report src 0x66 (some (powerAddr domain)))
    else if s.pwr.mediaOnlyUp ∧ 32 ≤ domain then .next (s.mediaRail domain)
    else
      let s := (s.modDomain domain fun _ => {}).seatFault seat 4 domain
      let s := s.report src 0x63 (some (powerAddr domain))
      .next ((s.railGone domain).pullHalt seat)
  else .next s

/-- POWER_GOOD_DROP (15 R348, R349): 200 ns count; once on, below 5 µs it is chatter, else a rail failure. -/
def execPowerGoodDrop (domain lowNs : Nat) (s : State) : Res :=
  let x := s.domain domain
  if lowNs < 200 then .next s
  else if x.state = 1 ∨ x.state = 2 then
    let s := (s.modDomain domain fun x => { x with state := 2, drops := x.drops + 1 }).modPwr fun p => { p with counts := modNth p.counts 0 (· + 1) }
    .next (if 8 ≤ x.drops + 1 then s.railUpFailed domain 2 else s)
  else if x.state = 3 then
    let s := (s.modDomain domain fun x => { x with drops := x.drops + 1 }).modPwr fun p => { p with counts := modNth p.counts 0 (· + 1) }
    if lowNs < 5000 then .next (s.report (srcSeat (seatOfDomain domain)) 0x62 (some (powerAddr domain)))
    else execRailFailure domain false s
  else .next s

/-- POWER_DOWN_STEP (15 R352): with the last step a reset that was asked for is applied, and latches the address pins (02 R52). -/
def execPowerDownStep (ga : Nat) (s : State) : Res :=
  let s := s.modPwr fun p => { p with gaNow := ga % 64 }
  if s.pwr.seqState = 3 then .next s.downStep else .next s

/-- RAIL_FAIL_TO_FALL (15 R353): the power-down goes on; overcurrent sets the latch, and its Seat drives HALT_N. -/
def execRailFailToFall (domain : Nat) (overcurrent : Bool) (s : State) : Res :=
  let seat := seatOfDomain domain
  if s.pwr.seqState = 3 ∧ domain < 176 then
    if overcurrent then
      let s := (s.seatFault seat 3 domain).report (srcSeat seat) 0x64 (some (powerAddr domain))
      .next ((s.setLatch domain 2 (srcSeat seat)).pullHalt seat)
    else .next (s.report (srcSeat seat) 0x66 (some (powerAddr domain)))
  else .next s

/-! ## HALT_N (R354–R356, 02 R55) -/

/-- HALT_N recognised low (R355): power-up stops, C3, 0x5080.08 becomes 1, the core goes down. -/
def State.haltRecognised (outside : Bool) (s : State) : State :=
  let driver := s.pwr.haltDrivers.headD 9
  let alone := outside && s.pwr.haltDrivers.all fun n => n == 9
  let s := s.modPwr fun p =>
    { p with
      haltSeen := true, haltHold := true, haltCount := p.haltCount + 1, haltTime := s.tim.opTime
      haltSource := if alone then 0x3FF else srcSeat driver
      counts := modNth p.counts 1 (· + 1), reqOff := true }
  let s := (s.storeWrite 96).powerEvent 14
  let s := if alone then s.report 0x2B0 0x63 none else s
  let s := s.easyEnter 0
  if s.inEasy || decide (s.pwr.state = .coreStart) then s.coreDown else s

/-- HALT_N_LOW (15 R355): a low of less than 1 µs, or an outside one while the switch is open, does nothing. -/
def execHaltNLow (outside : Bool) (lowNs : Nat) (s : State) : Res :=
  if !s.keelOn then .next s
  else
    let s := if outside then s.modPwr fun p => { p with haltOutside := true } else s
    if lowNs < 1000 ∨ (outside ∧ ¬ s.haltSwitch) then .next s
    else
      let s := if outside then s.modPwr fun p => { p with haltDrivers := insertSorted 9 p.haltDrivers } else s
      .next (if s.pwr.haltSeen ∨ ¬ s.haltLow then s else s.haltRecognised outside)

/-- HALT_N_HIGH (15 R356): every driver has let go. -/
def execHaltNHigh (s : State) : Res :=
  if (s.pwr.haltDrivers.all fun n => n == 9) then
    let s := s.modPwr fun p => { p with haltDrivers := [], haltOutside := false }
    if s.pwr.haltSeen then .next ((s.modPwr fun p => { p with haltSeen := false }).powerEvent 15) else .next s
  else .next s

/-- HALT_N_SWITCH_WRITE (02 R55): the stored object's value moves the switch. -/
def execHaltNSwitchWrite (value : Bool) (s : State) : Res :=
  accessed s (respondAccess byOperator 0x1102 3 (s.putObject byOperator 0x1102 3 (bit value) (boolByte value)))

/-! ## The seat bus (R357–R360) -/

/-- A transaction to a Seat: its status and data, when the Seat answers. -/
def State.seatReply (n : Nat) (r : Nat × List Nat) (s : State) : State :=
  if !s.keelOn || (s.seatOf n).silent then s else
  ((s.modSeatOf n fun x => { x with failures := 0 }).seatTx 1).emit (.seat n r.1 r.2)

/-- The Seat answers, and the operation acts. -/
def State.seatAct (n : Nat) (r : Nat × List Nat) (act : State → State) (s : State) : State :=
  if !s.keelOn || (s.seatOf n).silent then s else (s.seatReply n r) |> fun s => if r.1 = 0 then act s else s

/-- The domain belongs to the Seat. -/
def owns (n d : Nat) : Bool := decide (d < 176) && seatOfDomain d == n

/-- PING (15 R357). -/
def execPing (seat : Nat) (s : State) : Res := .next (s.seatReply seat (0, [(s.seatOf seat).firmware]))

/-- DOMAIN_ON (15 R357): not allowed for a domain that has failed. -/
def execDomainOn (seat domain : Nat) (s : State) : Res :=
  let st := (s.domain domain).state
  .next (s.seatAct seat (if !owns seat domain then (1, []) else if st = 0 then (0, []) else (2, []))
    (State.modDomain domain fun x => { x with state := 1, drops := 0 }))

/-- DOMAIN_OFF (15 R357): not allowed for a domain that is off or has failed, nor for a core domain in data service (01 R18). -/
def execDomainOff (seat domain : Nat) (s : State) : Res :=
  let st := (s.domain domain).state
  .next (s.seatAct seat (if !owns seat domain then (1, []) else if st = 0 ∨ st = 4 ∨ (domain < 12 ∧ s.inService) then (2, []) else (0, []))
    fun s =>
      let s := if (s.domain domain).margin = 0 then s else s.powerEvent 16
      (s.modDomain domain fun _ => {}).domainSync domain)

/-- DOMAIN_STATUS (15 R357). -/
def execDomainStatus (seat domain : Nat) (s : State) : Res :=
  .next (s.seatReply seat (if owns seat domain then (0, [(s.domain domain).state, min 255 (s.domain domain).drops]) else (1, [])))

/-- READ_V (15 R357): a domain of the Seat, or the bank at Seat 1. -/
def execReadV (seat domain : Nat) (s : State) : Res :=
  .next (s.seatReply seat
    (if domain = 255 ∧ seat = 1 then (0, [s.bank.mv]) else if owns seat domain then (0, [s.domainMv domain]) else (1, [])))

/-- READ_I (15 R357). -/
def execReadI (seat domain : Nat) (s : State) : Res :=
  .next (s.seatReply seat
    (if owns seat domain then (0, [if s.domainOn domain then Config.domainMa domain s.tim.opTime else 0]) else (1, [])))

/-- MARGIN (15 R357, R361): on a domain that is on, within 5 %. -/
def execMargin (seat domain : Nat) (percent : Int) (s : State) : Res :=
  .next (s.seatAct seat
    (if !owns seat domain then (1, []) else if s.domainOn domain ∧ -5 ≤ percent ∧ percent ≤ 5 then (0, []) else (2, []))
    fun s => if (s.domain domain).margin = percent then s
      else (s.modDomain domain fun x => { x with margin := percent }).powerEvent 16)

/-- CHARGER (15 R357): Seat 1 only. -/
def execCharger (seat : Nat) (on : Bool) (s : State) : Res :=
  .next (s.seatAct seat (if seat = 1 then (0, []) else (4, []))
    (State.modBank fun b => { b with boost := on, state := if on ∧ b.state = 0 then 1 else b.state }))

/-- CAP_MEASURE (15 R357): Seat 1 only; not while the bank is not charged. -/
def execCapMeasure (seat : Nat) (s : State) : Res :=
  .next (s.seatAct seat (if seat ≠ 1 then (4, []) else if s.bankCharged then (0, []) else (2, [])) (State.measure none))

/-- CAP_RESULT (15 R357): Seat 1 only. -/
def execCapResult (seat : Nat) (s : State) : Res :=
  .next (s.seatReply seat (if seat = 1 then (0, [s.bank.capTime, s.bank.capStep]) else (4, [])))

/-- HALT_RELEASE (15 R356): refused while the fault is present. -/
def execHaltRelease (seat : Nat) (s : State) : Res :=
  .next (s.seatAct seat (if s.faultPresent seat then (3, []) else (0, [])) fun s =>
    let before := s.haltSwitch && s.haltLow
    (s.modPwr fun p => { p with haltDrivers := removeNat seat p.haltDrivers }).haltSync before)

/-- FAULT_READ (15 R357). -/
def execFaultRead (seat : Nat) (s : State) : Res :=
  .next (s.seatReply seat (0, [(s.seatOf seat).fault, (s.seatOf seat).faultDomain]))

/-- SEAT_PING_TIMER (15 R358): PING to each Seat, every 10 ms. -/
def execSeatPingTimer (s : State) : Res :=
  .next (forEach ((range' 1 8).filter fun n => s.keelOn && !(s.seatOf n).silent)
    (fun n => fun s => (s.modSeatOf n fun x => { x with failures := 0 }).seatTx 1) s)

/-- DOMAIN_STATUS_POLL (15 R358): each domain of the step in progress. -/
def execDomainStatusPoll (s : State) : Res :=
  .next (if s.pwr.seqState = 1 ∨ s.pwr.seqState = 3 then
    s.seatTx ((stepDomains s.pwr.step).filter fun d => s.seatAnswers d).length else s)

/-- A transaction has failed (R359): retried up to three times; with the fourth failure the Seat is not responding. -/
def State.busFailure (n : Nat) (crc : Bool) (s : State) : State :=
  if !s.keelOn || (s.seatOf n).silent then s else
  let s := if crc then s.modSeat fun x => { x with crcErrors := x.crcErrors + 1 } else s
  if (s.seatOf n).failures < 3 then
    (s.modSeatOf n fun x => { x with failures := x.failures + 1 }).modSeat fun x => { x with retries := x.retries + 1 }
  else
    let s := (s.modSeatOf n fun x => { x with failures := 0, silent := true }).modSeat fun x => { x with notResponding := x.notResponding + 1 }
    ((s.report (srcSeat n) 0x63 none).setLatch 0 3 (srcSeat n)).pullHalt 0

/-- SEAT_BUS_FAILURE (15 R359). -/
def execSeatBusFailure (seat : Nat) (crc : Bool) (s : State) : Res := .next (s.busFailure seat crc)

/-- SEAT_BUS_STUCK (19 R439): a transaction that fails without a CRC error. -/
def execSeatBusStuck (seat : Nat) (s : State) : Res := .next (s.busFailure seat false)

/-- Domains of a Seat, in the reverse order of R346. -/
def seatDomains (n : Nat) : List Nat := ((range' 1 15).reverse.flatMap stepDomains).filter fun d => seatOfDomain d == n

/-- SEAT_SELF_SHUTDOWN (15 R360): HALT_N low and no valid transaction for 100 ms; Seat 1 owns no domain. -/
def execSeatSelfShutdown (seat : Nat) (s : State) : Res :=
  if s.keelOn ∧ s.haltLow then
    let on := (seatDomains seat).filter fun d => decide (1 ≤ (s.domain d).state ∧ (s.domain d).state ≤ 3)
    .next (forEach on (fun d => fun s => (s.modDomain d fun _ => {}).domainSync d) s)
  else .next s

/-! ## The latch (R351) -/

/-- After a latch clear Core start follows when 0x5080.08 is 0, no cause but No link is set, and HALT_N is high (R351). -/
def State.startAfterClear (s : State) : State :=
  if s.canStart ∧ ¬ s.pwr.reqOff ∧ s.easy.causes &&& ~~~(1#8 <<< 5) = 0 then s.coreStart else s

/-- The latch clear as an access (0x5010.01). -/
def State.latchOp (req : Req) (s : State) : Acc :=
  s.deferred req 0x5010 1 (fun n => fun s =>
    if s.pwr.latch.latched then (s.clearLatch.ticketDone n 0x00 []).startAfterClear else s.ticketDone n 0x07 [])

/-- LATCH_CLEAR (15 R351). -/
def execLatchClear (req : Req) (s : State) : Res :=
  accessed s (respondAccess req 0x5010 1 (guarded req 0x5010 1 (State.latchOp req) s))

/-! ## Margining (R361) -/

/-- The margining enable as an access. -/
def State.marginOnOp (req : Req) (v : Bool) (s : State) : Acc :=
  let s := (s.modPwr fun p => { p with marginOn := v }).manage 1 req 0 0x5030 0 0 0 (boolByte v)
  (((if v then s else s.zeroMargins)).notifyObject 0x5030 0).answer 0x00

/-- MARGINING_ENABLE (15 R361). -/
def execMarginingEnable (value : Bool) (s : State) : Res :=
  accessed s (respondAccess byOperator 0x5030 0 (s.marginOnOp byOperator value))

/-- The margin request as an access. -/
def State.marginOp (req : Req) (d : Nat) (percent : Int) (s : State) : Acc :=
  if 176 ≤ d ∨ percent < -5 ∨ 5 < percent then s.answer 0x06
  else if !s.pwr.marginOn || !s.domainOn d || decide (s.pwr.state = .holdUpFlush ∨ s.pwr.state = .coreStart) then s.answer 0x07
  else
    let s := s.manage 1 req 0 0x5030 1 0 0 (be 1 d ++ s32 percent)
    (if (s.domain d).margin = percent then s
      else (s.modDomain d fun x => { x with margin := percent }).seatTx 1 |>.powerEvent 16).answer 0x00

/-- MARGIN_REQUEST (15 R361). -/
def execMarginRequest (domain : Nat) (percent : Int) (s : State) : Res :=
  accessed s (respondAccess byOperator 0x5030 1 (s.marginOp byOperator domain percent))

end Sys2Proof.Machine
end

