-- ==== Sys2Proof/Machine/InputPower.lean ====
section
/-! DEFINITION. The input stage, power states, geographic address, resets asked for from outside, the test port (02 R39–R62, 15 R365). -/

namespace Sys2Proof.Machine

/-- The input monitor reports an input event (11 R265; notes/assumptions/46.md). -/
def State.inputEvent (s : State) : State := s.report 0x2BA 0x61 none

/-! ## Losing J1 (R41, R43, R44) -/

/-- The flush, if one runs, goes on from the bank (R43, 15 R365). -/
def State.ontoBank (s : State) : State :=
  let s := s.measureEnd 0x07
  let now := s.tim.opTime
  let s := s.modBank fun b =>
    if s.wb.flushing then { b with state := 4, boost := false, flushStartMv := b.mv, flushMark := now }
    else { b with state := 4, boost := false }
  s.modPwr fun p => { p with resetAsked := false, resetOnGood := false }

/-- The input switch opens: what each power state does then (R43, R44, R61). -/
def State.switchOpens (s : State) : State :=
  let s := s.modPwr fun p => { p with switchClosed := false, dip := false }
  match s.pwr.state with
  | .off => s
  | .standby => if s.pwr.keelPath then s else s.powerLost
  | .coreStart =>
    let s := s.ontoBank
    s.startDown true false
  | .holdUpFlush =>
    let s := s.ontoBank
    if s.wb.flushing ∨ s.pwr.seqState = 5 then s else s.startDown true false
  | _ =>
    let s := (s.easyEnter 4).ontoBank
    let s := (s.modPwr fun p => { p with state := .holdUpFlush }).zeroMargins
    if s.wb.flushing then s else s.startDown true false

/-- INPUT_LOSS (02 R39, R43, R44): the input switch opens, while the keel rails still come up too. -/
def execInputLoss (s : State) : Res :=
  let s := s.modPwr fun p => { p with inputGood := false, inputLow := true }
  if s.keelOn then
    if s.pwr.switchClosed then
      .next ((s.modPwr fun p => { p with lossCount := p.lossCount + 1 }).inputEvent.powerEvent 1).switchOpens
    else .next (s.modPwr fun p => { p with resetOnGood := false })
  else .next (s.modPwr fun p => { p with switchClosed := false })

/-- OVERVOLTAGE (02 R39, R43). -/
def execOvervoltage (s : State) : Res :=
  let s := s.modPwr fun p => { p with inputGood := false, overvoltage := true }
  if s.keelOn ∧ s.pwr.switchClosed then
    .next ((s.modPwr fun p => { p with lossCount := p.lossCount + 1 }).inputEvent.powerEvent 2).switchOpens
  else .next (s.modPwr fun p => { p with switchClosed := false, resetOnGood := false })

/-- BREAKER_TRIP (02 R41, R44): as an input loss, with the switch and the keel supply path latched open. -/
def execBreakerTrip (s : State) : Res :=
  if s.pwr.breaker then .next s
  else
    let s := s.modPwr fun p =>
      { p with breaker := true, keelPath := false, inputGood := false, resetOnGood := false, tripCount := p.tripCount + 1 }
    if s.keelOn then .next (s.inputEvent.powerEvent 3).switchOpens
    else .next (s.modPwr fun p => { p with switchClosed := false })

/-- KEEL_TURN_OFF (02 R39, R44): without the bank the module is Off. -/
def execKeelTurnOff (s : State) : Res :=
  let s := s.modPwr fun p => { p with inputGood := false, inputLow := true }
  if s.pwr.state = .standby then .next (s.modPwr fun p => { p with switchClosed := false }).powerLost
  else if s.pwr.state = .off then .next (s.modPwr fun p => { p with switchClosed := false })
  else .next s

/-- BREAKER_LATCH_RELEASE (02 R41). -/
def execBreakerLatchRelease (s : State) : Res :=
  if s.pwr.breaker then .next (s.modPwr fun p => { p with breaker := false, keelPath := true }) else .next s

/-! ## J1 good again (R39, R44) -/

/-- Core start from Standby once its limits hold, where the core is not to wait for a request (R61). -/
def State.startSync (s : State) : State :=
  if s.canStart ∧ ¬ s.pwr.reqOff ∧ s.cfg 0x5080 9 = 0 then s.coreStart else s

/-- J1 is good: above keel turn-on for 10 ms, below overvoltage, no trip. The switch closes (R39, R44); in Core start on its way to Off it
stays open (R61). PRESUMED: an input-event message reports the return in Hold-up flush, where the loss was one, and none in Standby; the
spec does not say which events send it (notes/assumptions/46.md). -/
def State.inputReturns (s : State) : State :=
  if s.pwr.breaker || s.pwr.overvoltage || s.pwr.inputLow then s
  else
    let s := s.modPwr fun p => { p with inputGood := true }
    match s.pwr.state with
    | .off => s.modPwr fun p => { p with switchClosed := true, keelPath := true }
    | .standby => if s.pwr.switchClosed then s else ((s.modPwr fun p => { p with switchClosed := true }).powerEvent 4).startSync
    | .holdUpFlush =>
      if s.pwr.switchClosed then s
      else
        let up := s.pwr.seqState ≠ 5
        let s := s.modBank fun b => { b with state := if up then 1 else 0, boost := up }
        (s.modPwr fun p => { p with switchClosed := true, resetOnGood := true }).inputEvent.powerEvent 4
    | _ => s

/-- J1 has risen above keel turn-on, and stayed for 10 ms (R39). -/
def State.inputRises (s : State) : State := (s.modPwr fun p => { p with inputLow := false }).inputReturns

/-- KEEL_TURN_ON (02 R39, R61). -/
def execKeelTurnOn (s : State) : Res := .next s.inputRises

/-- INPUT_GOOD_AGAIN (02 R44). -/
def execInputGoodAgain (s : State) : Res := if s.keelOn then .next s.inputRises else .next s

/-- OVERVOLTAGE_CLEAR (02 R39, R44): the input counts as good again, unless it has meanwhile fallen below keel turn-on. -/
def execOvervoltageClear (s : State) : Res :=
  if s.pwr.overvoltage then .next (s.modPwr fun p => { p with overvoltage := false }).inputReturns else .next s

/-- The levels of GA[5:0] at this instant (R52). -/
def State.pinsNow (ga : Nat) (s : State) : State := s.modPwr fun p => { p with gaNow := ga % 64 }

/-- INPUT_GOOD_RESET_TIMER (02 R44): J1 good for 100 ms after the flush; a full module reset, after the power-down of 18 R422. -/
def execInputGoodResetTimer (ga : Nat) (s : State) : Res :=
  let s := s.pinsNow ga
  if s.pwr.state = .holdUpFlush ∧ s.pwr.resetOnGood ∧ s.pwr.inputGood ∧ ¬ s.wb.flushing then
    let s := s.modPwr fun p => { p with resetAsked := true, resetOnGood := false }
    if s.pwr.seqState = 5 then .next (s.modPwr fun p => { p with state := .standby, seqState := 0 }).tryReset
    else if s.pwr.seqState = 3 then .next s
    else .next (s.startDown false false)
  else .next s

/-- KEEL_RAILS_QUALIFIED (15 R345, 02 R52, R61): the keel island leaves reset; the address pins are latched. -/
def execKeelRailsQualified (ga : Nat) (timeTorn cycleTorn : Bool) (s : State) : Res :=
  if s.pwr.state = .off ∧ s.pwr.switchClosed ∧ s.pwr.keelPath then
    .next (((s.pinsNow ga).modTim (TimeS.tear timeTorn cycleTorn)).keelReset true)
  else .next s

/-- KEEL_RAIL_RETRY (15 R345): the rail is tried again; nothing else has started. -/
def execKeelRailRetry (s : State) : Res := .next s

/-! ## The bank runs down (15 R365, 17 R408) -/

/-- BANK_BELOW_41V (15 R365, 17 R408): no flash program starts; hardware sets protection 0b11, and a page write that runs completes. -/
def execBankBelow41v (s : State) : Res :=
  if s.keelOn ∧ s.bank.state = 4 then .next (s.modPar fun p => { p with bp := 3, queue := p.queue.take 1 }) else .next s

/-- BANK_BELOW_40V (15 R365, 02 R61). -/
def execBankBelow40v (s : State) : Res :=
  if s.keelOn ∧ s.bank.state = 4 then .next s.powerLost else .next s

/-! ## The core on request (R61, R62, 15 R368) -/

/-- The write of 1 to 0x5080.08: Easy-all, then Standby; in Core start it is held until data ready (15 R368). -/
def State.coreOff (s : State) : State :=
  let s := s.modPwr fun p => { p with reqOff := true }
  if s.inService || decide (s.pwr.state = .easyAll ∨ s.pwr.state = .easyAllMediaOff) then (s.easyEnter 6).coreDown else s

/-- The write of 0: Core start from Standby; under a latch or a held HALT_N a state conflict (15 R351, R356). -/
def State.coreOnOp (req : Req) (s : State) : Acc :=
  if s.pwr.state = .standby ∧ (s.pwr.latch.latched ∨ s.haltLow ∨ s.pwr.haltHold) then s.answer 0x07
  else
    let s := (s.modPwr fun p => { p with reqOff := false }).manage 1 req 0 0x5080 8 0 0 (be 1 0)
    let s := s.notifyObject 0x5080 8
    (if s.canStart then s.coreStart else s).answer 0x00

/-- The write of 1 as an access. -/
def State.coreOffOp (req : Req) (s : State) : Acc :=
  let s := (s.manage 1 req 0 0x5080 8 0 0 (be 1 1)).coreOff
  (s.notifyObject 0x5080 8).answer 0x00

/-- CORE_POWER_OFF_REQUEST (02 R62, 15 R368). -/
def execCorePowerOffRequest (s : State) : Res :=
  accessed s (respondAccess byOperator 0x5080 8 (s.coreOffOp byOperator))

/-- CORE_POWER_ON_REQUEST (02 R61, R62, 15 R351, R356). -/
def execCorePowerOnRequest (s : State) : Res :=
  accessed s (respondAccess byOperator 0x5080 8 (s.coreOnOp byOperator))

/-! ## Full module reset (R54, 13 R317) -/

/-- A full module reset is requested (R54). -/
def State.askReset (s : State) : State :=
  let asked := fun (s : State) => s.modPwr fun p => { p with resetAsked := true }
  match s.pwr.state with
  | .off => s
  | .holdUpFlush => s
  | .standby => (asked s).tryReset
  | .coreStart => (asked s).startDown s.pwr.fastDown false
  | .dataService => asked (s.easyBegin false)
  | .easyAllMediaOff => (asked s).startDown false false
  | .easyAll =>
    if s.wb.flushing ∨ (s.pwr.seqState = 3 ∧ ¬ s.pwr.mediaOnlyDown) then asked s else (asked s).startDown false false

/-- MODRST_ASSERT (02 R54): from 10 µs a request; below 2 µs nothing; between, either, by a free value. While the keel island does not run
it has no effect but its level, which holds the start that follows (19 R436). -/
def execModrstAssert (lowUs ga : Nat) (s : State) : Res :=
  let s := s.pinsNow ga
  if lowUs < 2 then .next s
  else if !s.keelOn then .next (s.modPwr fun p => { p with modrstLow := p.modrstLow || decide (10 ≤ lowUs) })
  else if lowUs < 10 then
    let d := s.draw
    .next (if Config.freeNat d.1 % 2 = 1 then d.2.askReset else d.2)
  else .next (s.modPwr fun p => { p with modrstLow := true }).askReset

/-- MODRST_RELEASE (02 R54): the reset is applied if the core is down. -/
def execModrstRelease (ga : Nat) (s : State) : Res := .next ((s.pinsNow ga).modPwr fun p => { p with modrstLow := false }).tryReset

/-- The reset object's write (13 R317). -/
def State.resetOp (req : Req) (v : Nat) (s : State) : Acc :=
  if v = 1 then (s.manage 1 req 0 0x7001 0 0 0 (be 1 1)).answer 0x00 else s.answer 0x06

/-- MODULE_RESET (13 R317, 02 R54): answered, then as a pulse on MODRST_N. -/
def execModuleReset (req : Req) (value ga : Nat) (s : State) : Res :=
  let s := s.pinsNow ga
  let a := guarded req 0x7001 0 (State.resetOp req value) s
  accessed s (if a.1 = 0 then (respondAccess req 0x7001 0 a).askReset else respondAccess req 0x7001 0 a)

/-! ## Sideband and test port (R42, R53, R58) -/

/-- BLADE_PAIR_IMBALANCE (02 R42): more than 2 A in all, one pair below 20 % of it for 1 s. -/
def execBladePairImbalance (pairA pairB : Nat) (s : State) : Res :=
  if s.keelOn then
    let s := s.modPwr fun p => { p with pairA := pairA, pairB := pairB }
    let total := pairA + pairB
    .next (if 2000 < total ∧ min pairA pairB * 5 < total then s.report 0x2B0 0x60 none else s)
  else .next s

/-- GA_SAMPLE (02 R53): two differing samples in succession set the mismatch; it clears when the pins match again. -/
def execGaSample (pins : Nat) (s : State) : Res :=
  if !s.keelOn then .next s
  else if pins = s.pwr.gaLatched then
    let was := s.pwr.gaMismatch
    let s := s.modPwr fun p => { p with gaPins := pins, gaNow := pins % 64, gaDiffer := 0, gaMismatch := false }
    .next (if was then s.notifyObject 0x1102 2 else s)
  else
    let set := 1 ≤ s.pwr.gaDiffer ∧ ¬ s.pwr.gaMismatch
    let s := s.modPwr fun p =>
      { p with gaPins := pins, gaNow := pins % 64, gaDiffer := p.gaDiffer + 1, gaMismatch := p.gaMismatch || decide (1 ≤ p.gaDiffer) }
    .next (if set then (s.report 0x2F7 0x82 none).notifyObject 0x1102 2 else s)

/-- EXTEST_LOAD (02 R58): an instruction is loaded into the test access port; EXTEST in data service selects BYPASS in its place, and is a
security event. -/
def execExtestLoad (instr : TapInstr) (s : State) : Res :=
  if !s.keelOn then .next s
  else if s.inService ∧ instr = .extest then
    .next (((s.modPwr fun p => { p with tap := .bypass }).emit (.jtag .bypass)).security 8 0xFF 0 0)
  else .next ((s.modPwr fun p => { p with tap := instr }).emit (.jtag instr))

end Sys2Proof.Machine
end

