-- ==== Sys2Proof/Machine/Flush.lean ====
section
/-! DEFINITION. The end of the flush, and the Easy-all command (06 R155, R156, 09 R230, 11 R279–R282). -/

namespace Sys2Proof.Machine

/-! ## The flush ends -/

/-- Run what a plane still has to do to its end, where its clock runs; a clear that had not begun wears its granules (07 R179). -/
def State.finishPlane (k : Nat) (s : State) : State :=
  if !s.channelClock (k / 64) then s else
  let p := s.plane k
  let first := match p.op with
    | some j => [(j, decide (p.result = 3))]
    | none => []
  let l := first ++ p.jobs.map fun j => (j, false)
  let s := forEach l (fun x => fun s =>
    let s := if x.1.clear && !x.2 then forEach x.1.granules State.wear s else s
    s.completeOp x.1) s
  s.modPlane k fun p => { p with state := if p.slots = 0 then .idle else .sensing, op := none, jobs := [], result := 0, burst := 0, room := false }

/-- The medium is idle: every operation has ended (R279 step 4). -/
def State.mediumIdle (s : State) : State :=
  ((forEach (s.med.planes.map Prod.fst) State.finishPlane s).modMed fun m => { m with governor := 0, reserved := 0 }).migSync

/-- Migrations not yet sealed are abandoned, their destinations cleared within the flush (08 R199). -/
def State.flushMigrations (s : State) : State :=
  forEach (s.trc.migs.filter fun m => m.early) (fun m => State.abandon m.tract true false) s

/-- The migration cannot go on: the clocks of its source or of its destination are lost (01 R28). -/
def State.migStuck (s : State) (m : Migration) : Bool := !s.channelClock (rowOfPt m.src / 16 * 9) || !s.channelClock (rowOfPt m.dst / 16 * 9)

/-- A migration from Sealed on still runs (08 R199). -/
def State.migsFinish (s : State) : Bool := s.trc.migs.any fun m => decide (m.state ≠ .queued) && !m.early && !s.migStuck m

/-- The flush cannot drain an entry: its tract cannot be drained, or that of the node entry whose mirror it is (R229, R280). -/
def State.undrainable (s : State) (key : Nat) (l : LineEnts) : Bool :=
  let stuck := fun (t : Nat) => !s.drainable t || (match s.running t with
    | some m => s.migStuck m
    | none => false)
  stuck (key / 16384) || (match l.opened with
    | some e => e.mirrorOf != 0 && stuck ((e.mirrorOf - 1) / 16384)
    | none => false)

/-- The steps of the flush before its integrity step have ended: the seal records are durable, no unit is in progress, and nothing is left
that can be drained (R155, R280). -/
def State.flushedOut (s : State) : Bool :=
  !s.sealWriting && !s.sealWaits && s.wb.units.isEmpty && !s.migsFinish && s.wb.ents.all fun e => s.undrainable e.1 e.2

/-- The flush has left part of the buffer undrained, or a part of it was lost: no flush-complete record (R280). -/
def State.flushFails (s : State) : Bool := s.wb.flushBroken || !s.wb.ents.isEmpty

/-- The wear and read counts held on chip enter their table, which is written back: wear is never under-counted, and a count that leaves
the cache with a remainder counts one (08 R191, R193). -/
def State.wearFlush (s : State) : State :=
  let s := forEach ((s.trc.epoch.map fun e => ptOfAddr e.1).dedup) State.endEpoch s
  let s := forEach s.trc.counted (fun t => State.modActivity t fun a =>
    if a.senses = 0 then a else { a with senses := 0, reads := a.reads + 1 }) s
  (s.modTrc fun x => { x with counted := [] }).wearWriteback

/-- The end of the flush: the integrity step and the flush-complete record, but where part of the buffer could not be drained (R155, R230,
R280); on the bank its power event (02 R43 step 4; notes/assumptions/73.md); what follows it. -/
def State.flushEnd (s : State) : State :=
  let s := s.flushMigrations.mediumIdle.wearFlush
  let s := if s.flushFails then s else s.recordClosing.flushRecord
  let s := (s.modWb fun w => { w with flushing := false }).modEasy fun e =>
    { e with state := if e.state = .quiescing then .flushed else e.state }
  let s := if s.pwr.state = .holdUpFlush ∧ s.bank.state = 4 then
      let d := s.draw
      d.2.modBank fun b =>
        { b with
          mv := Config.freeNat d.1 % (b.flushStartMv + 1), flushEndMv := Config.freeNat d.1 % (b.flushStartMv + 1)
          flushUs := (s.tim.opTime - b.flushMark) * 1000, flushMark := s.tim.opTime }
    else s
  let s := s.when (decide (s.pwr.state = .holdUpFlush)) (State.powerEvent 5)
  (s.easySlots false 0x00).afterFlush

/-- FLUSH_COMPLETE (06 R155). -/
def execFlushComplete (s : State) : Res := if s.wb.flushing && s.flushedOut then .next s.flushEnd else .next s

/-! ## The Easy-all command (R279, R281, R282) -/

/-- Standby and Core start (R282). -/
def State.beforeService (s : State) : Bool := decide (s.pwr.state = .standby ∨ s.pwr.state = .coreStart)

/-- The write of 1: the ticket is Done once the flush has ended. -/
def State.easyIn (n : Nat) (s : State) : State :=
  if s.pwr.state = .holdUpFlush then s.ticketDone n 0x07 []
  else if s.beforeService || s.easyFlushed then (s.easyEnter 3).ticketDone n 0x00 []
  else (s.modEasy fun e => { e with slots := e.slots ++ [(n, false)] }).easyEnter 3

/-- The bits that a write of 2 clears: Operator, and C2 stop with its units fenced (R281). -/
def State.leaveBits (s : State) : BitVec 8 :=
  (if s.cause 3 then 8#8 else 0) ||| (if s.cause 1 && s.easy.stopUnits.all s.isOut then 2#8 else 0)

/-- The write of 2: the ticket is Done once the heads admit. -/
def State.easyOut (n : Nat) (s : State) : State :=
  if s.pwr.state = .holdUpFlush ∨ s.cause 0 ∨ s.cause 4 ∨ s.cause 7 then s.ticketDone n 0x07 []
  else if s.beforeService then (s.modEasy fun e => { e with causes := e.causes &&& ~~~(8#8) }).ticketDone n 0x00 []
  else if s.leaveBits = 0 then s.ticketDone n 0x07 []
  else
    let bits := s.leaveBits
    (s.modEasy fun e =>
      { e with
        causes := e.causes &&& ~~~bits, stopUnits := if bits.getLsbD 1 then [] else e.stopUnits, slots := e.slots ++ [(n, true)] }).easyCheck

/-- The command as an access (0x4040.02). -/
def State.easyOp (req : Req) (v : Nat) (s : State) : Acc :=
  if v = 1 then s.deferred req 0x4040 2 State.easyIn
  else if v = 2 then s.deferred req 0x4040 2 State.easyOut
  else s.answer 0x06

/-- EASY_ALL_ENTER_COMMAND (11 R282). -/
def execEasyAllEnterCommand (req : Req) (s : State) : Res :=
  accessed s (respondAccess req 0x4040 2 (guarded req 0x4040 2 (State.easyOp req 1) s))

/-- EASY_ALL_LEAVE_COMMAND (11 R281, R282). -/
def execEasyAllLeaveCommand (req : Req) (s : State) : Res :=
  accessed s (respondAccess req 0x4040 2 (guarded req 0x4040 2 (State.easyOp req 2) s))

end Sys2Proof.Machine
end

