-- ==== Sys2Proof/Machine/Head.lean ====
section
/-! DEFINITION. The commands of the heads (04 R91–R93). -/

namespace Sys2Proof.Machine

/-- HEAD_STALL (04 R92): a C2 head stall message with the line of the head's oldest read in flight, if it has one. -/
def execHeadStall (head : Nat) (s : State) : Res :=
  if 0 < (s.head head).inflight then
    let line := (s.rdp.reads.find? fun e => e.2.head == head).map fun e => e.2.line
    .next (s.report (srcHead head) 0x48 line)
  else .next s

/-- The head reset as an access (R93). -/
def State.headResetOp (req : Req) (h : Nat) (s : State) : Acc :=
  if !s.domainOn 0 then s.answer 0x0A else
  let s := (s.modLink h fun l => { l with held := true }).modHead h fun d => { d with resetReq := 1 }
  ((s.linkDown h).manage 1 req 0 (0x2100 + h) 4 0 0 [1]).answer 0x00

/-- HEAD_RESET (04 R93): the link is held in Link Disable, a link-down of the head. -/
def execHeadReset (head : Nat) (s : State) : Res :=
  accessed s (respondAccess byOperator (0x2100 + head) 4 (s.headResetOp byOperator head))

/-- HEAD_RESET_HOLD_END (04 R93): after 10 ms the link trains from step 1 of R66. -/
def execHeadResetHoldEnd (head : Nat) (s : State) : Res :=
  if (s.link head).held then .next ((s.modLink head fun l => { l with held := false }).train head) else .next s

/-- IN_FLIGHT_CAP_WRITE (04 R91): 64 to 4,096; taken up at the next commit point (R20, R21). -/
def execInFlightCapWrite (head cap : Nat) (s : State) : Res :=
  accessed s (respondAccess byOperator (0x2100 + head) 1 (s.putObject byOperator (0x2100 + head) 1 cap (be 2 cap)))

end Sys2Proof.Machine
end

