-- ==== Sys2Proof/Machine/Operands.lean ====
section
/-! DEFINITION. The operands that a written object's value carries: lengths, types and fields of every writable object (13 R305, R306; the
object tables of 02–18). -/

namespace Sys2Proof.Machine

/-! ## Lengths and types (R305, R306) -/

/-- The bytes that follow a first byte of UTF-8, with the least and greatest first of them; none where the byte begins no sequence. -/
def utf8Follow (b : Nat) : Option (Nat × Nat × Nat) :=
  if b < 0x80 then some (0, 0, 0)
  else if b < 0xC2 then none
  else if b < 0xE0 then some (1, 0x80, 0xBF)
  else if b = 0xE0 then some (2, 0xA0, 0xBF)
  else if b = 0xED then some (2, 0x80, 0x9F)
  else if b < 0xF0 then some (2, 0x80, 0xBF)
  else if b = 0xF0 then some (3, 0x90, 0xBF)
  else if b < 0xF4 then some (3, 0x80, 0xBF)
  else if b = 0xF4 then some (3, 0x80, 0x8F)
  else none

/-- Well-formed UTF-8: bytes still to come, and the bounds of the next of them. -/
def utf8From (left lo hi : Nat) : List Byte → Bool
  | [] => left == 0
  | b :: r =>
    if left = 0 then
      match utf8Follow b.toNat with
      | some (n, lo', hi') => utf8From n lo' hi' r
      | none => false
    else decide (lo ≤ b.toNat ∧ b.toNat ≤ hi) && utf8From (left - 1) 0x80 0xBF r

/-- A well-formed STR. -/
def utf8Ok (l : List Byte) : Bool := utf8From 0 0 0 l

/-- The length a command's parameters have (13 R314): the whole record, 0 for an unknown code, whose length is not checked. -/
def commandLength (code : Nat) : Nat := if code = 0x0010 then 8 else if code = 0x0001 ∨ code = 0x0002 then 4 else 0

/-- A written value has its object's length, and a BOOL or STR is one (R305, R306). A bulk object is not moved by a WRITE. -/
def formOk (r : ObjRow) (value : List Byte) : Bool :=
  if testBit r.flags 1 then false
  else if r.ty = 8 then decide (value.length ≤ r.len) && utf8Ok value
  else if r.idx = 0x4120 then decide (9 ≤ value.length) && decide (value.length = 9 + 3 * fieldAt value 8 1)
  else if r.idx = 0x6001 then decide (8 ≤ value.length) && decide (value.length = 8 + fieldAt value 4 2)
  else if r.idx = 0x7000 then
    decide (4 ≤ value.length) && decide (commandLength (fieldAt value 0 2) = 0 ∨ value.length = commandLength (fieldAt value 0 2))
  else decide (value.length = r.len) && (r.ty != 6 || decide (beVal value ≤ 1))

/-- The reserved bytes of a record are zero, and its BOOL fields are BOOL (R297 status 0x05). -/
def reservedOk (idx mem : Nat) (value : List Byte) : Bool :=
  if idx = 0x1210 then decide (fieldAt value 1 3 = 0)
  else if idx = 0x2121 ∧ mem = 1 then decide (fieldAt value 5 1 ≤ 1)
  else if idx = 0x3301 ∧ mem = 0 then decide (fieldAt value 2 6 = 0)
  else if idx = 0x4110 then decide (fieldAt value 1 3 = 0)
  else if idx = 0x4120 then decide (fieldAt value 1 3 = 0)
  else if idx = 0x6001 then decide (fieldAt value 6 2 = 0)
  else if idx = 0x6010 then decide (fieldAt value 4 1 ≤ 1 ∧ fieldAt value 5 1 ≤ 1)
  else if idx = 0x7000 then decide (fieldAt value 2 2 = 0)
  else true

/-! ## Fields -/

/-- The role that a code names, none above 3 (12 R288). -/
def roleOf (code : Nat) : Option Role :=
  match code with
  | 0 => some .observer
  | 1 => some .operator
  | 2 => some .custodian
  | 3 => some .vendor
  | _ => none

/-- The objects named by three-byte items (14 0x4120). -/
def objRefs (n : Nat) (value : List Byte) : List ObjRef :=
  (List.range n).map fun k => { index := fieldAt value (3 * k) 2, member := fieldAt value (3 * k + 2) 1 }

/-- The four limits of 0x5110.kk, S32 each (16). -/
def limitFields (value : List Byte) : List Int := (List.range 4).map fun k => s32Val (fieldAt value (4 * k) 4)

/-- Keys of the selectors: objects that the session or head mailbox holds for itself (12 R296, 13 R310). -/
def selectorKeys : List Nat := [0x100100, 0x212000, 0x304000, 0x311000, 0x319004, 0x402000, 0x420100, 0x502000, 0x510001]

/-- The greatest value of a selector. -/
def selectorTop (r : ObjRow) : Nat := if r.idx = 0x1001 then objectCount - 1 else r.hi

end Sys2Proof.Machine
end

