-- ==== Sys2Proof/Machine/Start.lean ====
section
/-! DEFINITION. The end of the start: the full scan, data ready, the review of Suspect tracts (18 R412–R420, 08 R206). -/

namespace Sys2Proof.Machine

/-- FULL_SCAN_COMPLETE (08 R206, 18 R415): claims resolved, torn granules repaired, checkpoints and system directory rewritten. -/
def execFullScanComplete (torn : List Nat) (durationMs : Nat) (s : State) : Res :=
  if s.str.phase = .fullScan ∧ s.channelsReady then
    let headers := 2 ^ 27 * ((List.range 576).filter fun d => !s.dieOut d).length
    let s := s.modTrc fun x => { x with lastScan := [durationMs, headers, 0, 0, 0] }
    let s := s.fullScan torn
    .next ((s.modStr fun x => { x with phase := .rootRebuild, mapsLoaded := true }).startTime 3)
  else .next s

/-! ## The Suspect tracts (R417–R420) -/

/-- Review ends when no Suspect tract is left: RwD credit is given again (R419). -/
def State.reviewSync (s : State) : State :=
  if s.str.review ≠ 0 ∧ s.suspects = [] then
    ((s.modStr fun x => { x with review := 0, phase := .normalService }).creditSync).notifyObject 0x3190 0
  else s

/-- Decide the Suspect tracts of a list: released through the checkpoint, or re-established (R418). -/
def State.settle (release : Bool) (l : List Nat) (s : State) : State :=
  let s := forEach l (fun t => fun s =>
    if release then s.putEntry t fun e => { e with state := .mapped } else s.reestablish t) s
  s.modTrc fun x => { x with decided := modNth x.decided (if release then 0 else 1) (· + l.length) }

/-- The decision as an access (0x3190.02): a range past the last tract, or an empty one, is refused; before data ready a state
conflict. -/
def State.decisionOp (req : Req) (first count action : Nat) (s : State) : Acc :=
  if count = 0 ∨ logicalTracts < first + count ∨ (action ≠ 1 ∧ action ≠ 2) then s.answer 0x06
  else if !s.domainOn 2 && s.freeSlot.isSome then s.answer 0x0A
  else if !s.str.dataReady then s.answer 0x07
  else s.deferred req 0x3190 2 (fun n => fun s =>
    let l := s.suspects.filter fun t => decide (first ≤ t ∧ t < first + count)
    let s := s.manage 1 req 0 0x3190 2 (s.slot n).ticket 0 (be 4 first ++ be 4 count ++ be 1 action)
    (s.settle (action == 1) l).reviewSync.ticketDone n 0x00 (be 4 l.length))

/-- SUSPECT_RELEASE (18 R418). -/
def execSuspectRelease (req : Req) (first count : Nat) (s : State) : Res :=
  accessed s (respondAccess req 0x3190 2 (guarded req 0x3190 2 (State.decisionOp req first count 1) s))

/-- SUSPECT_DISCARD (18 R418). -/
def execSuspectDiscard (req : Req) (first count : Nat) (s : State) : Res :=
  accessed s (respondAccess req 0x3190 2 (guarded req 0x3190 2 (State.decisionOp req first count 2) s))

/-- The list from a holder's cursor, which moves past it (0x3190.04, 0x3190.05). -/
def State.suspectList (holder : Nat) (s : State) : List Byte × State :=
  let l := (s.suspects.filter fun t => decide (s.sel holder 0x3190 4 ≤ t)).take 32
  (be 1 l.length ++ l.flatMap (be 4), match l.getLast? with
    | some t => s.setSel holder 0x3190 4 (t + 1)
    | none => s)

/-- SUSPECT_LIST_READ (18 R418). -/
def execSuspectListRead (holder : Nat) (s : State) : Res :=
  let r := s.suspectList holder
  accessed s (if s.domainOn 2 then r.2.emit (.wop holder svcRead 0 0 r.1) else s.emit (.wop holder svcRead 0x0A 0 []))

/-! ## Data ready (R412, R413) -/

/-- The conditions of R413, with the staging limits of R33. -/
def State.readyForData (s : State) : Bool :=
  decide (s.pwr.state = .coreStart ∧ s.pwr.seqState = 2) && s.str.powered && s.coreOn && s.partsReady && s.str.mapsLoaded && s.str.rootDone
    && decide (s.itg.rootState ≤ 1) && (decide (s.bank.state = 2) || decide (s.cfg 0x5040 5 = 1))
    && decide (s.easy.causes &&& ~~~(40#8) = 0) && !s.str.dataReady

/-- The keys of every active region are derived (09 R207). -/
def State.deriveKeys (s : State) : State :=
  s.modExt fun x => { x with regions := Tab.remap {} (fun _ r => { r with keyed := decide (r.mask ≠ 0) }) x.regions }

/-- A re-key goes on with the spans that are not yet under the new key (09 R210). -/
def State.rekeyResume (s : State) : State :=
  if s.itg.rekeyState = 1 then
    (s.modItg fun x => { x with rekeyLeft := s.rekeySpans x.rekeyRegion }).rekeyFinish
  else s

/-- Review, or the decision that the policy gives (R417, R419, R420). -/
def State.startReview (s : State) : State :=
  if s.suspects = [] then s.modStr fun x => { x with review := 0, phase := .normalService }
  else
    let policy := s.cfg 0x3190 1
    let s := s.modStr fun x => { x with review := if policy = 0 then 1 else 2, phase := .review }
    if policy = 0 then s else (s.settle (policy == 2) s.suspects).reviewSync

/-- Easy-all at data ready, with nothing to flush (R412 step 12, 15 R368). -/
def State.easyAtReady (s : State) : State :=
  let s := if s.anyFast then s else s.modEasy fun e => { e with causes := e.causes ||| 32#8 }
  let s := if s.pwr.reqOff then s.modEasy fun e => { e with causes := e.causes ||| 64#8, thenDown := true } else s
  if s.easy.causes = 0 then s else (s.easyBegin false).flushEnd

/-- The tracts that hold listed bad granules have BADG and are queued for migration again (07 R180). -/
def State.requeueBad (s : State) : State :=
  forEach (((List.range 36).flatMap fun c => (s.channel c).bad).filterMap fun a => s.tractAt (ptOfAddr a)).dedup
    (fun t => fun s => (s.modEntry t fun e => { e with badg := true }).queueMig t 1) s

/-- DATA_READY (18 R412, R413, R417, R419). -/
def execDataReady (s : State) : Res :=
  if s.readyForData then
    let s := s.deriveKeys.recordOpen
    let s := (s.modStr fun x => { x with dataReady := true }).startTime 5
    let s := s.modPwr fun p => { p with state := .dataService }
    let s := s.modEasy fun e => { e with state := .out }
    let s := forEach [0, 1, 2, 3] State.rebuildSync s
    let s := s.requeueBad.rekeyResume.startReview
    .next ((s.creditSync).boundSync).easyAtReady
  else .next s

end Sys2Proof.Machine
end

