-- ==== Sys2Proof/Machine/Tally.lean ====
section
/-! DEFINITION. Tally: the sample instant, the bandwidth window, the counter page (14 R338–R343). -/

namespace Sys2Proof.Machine

/-- Tally takes snapshots: the core is on and Tally is in service (R339). -/
def State.tallyRuns (s : State) : Bool := s.coreOn && !s.isOut 0x297

/-- Slots that growth over the bandwidth window is taken of: read and write bytes of ports 0–3, at block × 8 + slot. -/
def rateSlots : List Nat := [2, 3, 10, 11, 18, 19, 26, 27]

/-- TALLY_SAMPLE (14 R339): every counter is latched at one instant; the snapshot grows by the difference modulo 2^48. -/
def execTallySample (s : State) : Res :=
  if s.tallyRuns then
    let now := fun (k : Nat) => s.counterNow (k / 8) (k % 8) % 2 ^ 48
    let keys := List.range (blocks * 8)
    let grown := fun (k : Nat) => Tab.rd 0 s.tly.snap k + (now k + 2 ^ 48 - Tab.rd 0 s.tly.latched k) % 2 ^ 48
    let table := fun (f : Nat → Nat) => keys.filterMap fun k => if f k = 0 then none else some (k, f k)
    .next (s.modTly fun t =>
      { t with
        number := t.number + 1, time := s.tim.opTime % 2 ^ 48, snap := table grown, latched := table now
        winStart := if t.winDiscard then rateSlots.map grown else t.winStart
        winDiscard := false
        wear := [s.topPeak, s.medianPeak, s.lowPeak]
        counts := modNth t.counts 0 (· + 1) })
  else .next s

/-- BANDWIDTH_WINDOW_END (14 R341): a window cut by a change of window or period is discarded. -/
def execBandwidthWindowEnd (s : State) : Res :=
  if s.tallyRuns ∧ ¬ s.tly.winDiscard then
    let now := rateSlots.map fun k => Tab.rd 0 s.tly.snap k
    let rate := fun (i : Nat) => (nth now i - nth s.tly.winStart i) * 1000 / s.cfg 0x4200 1
    .next (s.modTly fun t =>
      { t with winStart := now, rates := (List.range 8).map rate, winSnap := t.number, counts := modNth t.counts 2 (· + 1) })
  else .next s

/-- A 64-bit read of head h's counter page at an offset (R342): zero while 0x2100+h.02 is false, and at unlisted offsets. -/
def State.counterPage (s : State) (h offset : Nat) : Nat :=
  let p := h / 2
  if s.cfg (0x2100 + h) 2 = 0 ∨ offset % 8 ≠ 0 then 0
  else if offset = 0 ∨ offset = 0xFF8 then s.tly.number
  else if offset = 0x008 then s.tly.time
  else if offset = 0x010 then s.cfg 0x4200 0 + s.cfg 0x4200 1 * 65536
  else if offset = 0x020 then nth s.tly.rates (2 * p)
  else if offset = 0x028 then nth s.tly.rates (2 * p + 1)
  else if offset = 0x030 then s.tly.winSnap
  else if 0x040 ≤ offset ∧ offset < 0x080 then s.snapVal (8 + h) ((offset - 0x040) / 8)
  else if 0x080 ≤ offset ∧ offset < 0x0C0 then s.snapVal (0x10 + h) ((offset - 0x080) / 8)
  else if 0x0C0 ≤ offset ∧ offset < 0x100 then s.snapVal p ((offset - 0x0C0) / 8)
  else 0

end Sys2Proof.Machine
end

