-- ==== Sys2Proof/Machine/Objects.lean ====
section
/-! DEFINITION. Object access as a whole: every read and write of the dictionary (12 R296, R297, 13 R302–R317), session and key objects (12
R294, R295, R299), the commands of 0x7000.00, the commit of data-plane configuration and the keel bridge (01 R19, R20). -/

namespace Sys2Proof.Machine

/-! ## Session and key objects (12 R294, R295, R299) -/

/-- A number that no session has, among `n` from `lo` on: which one is a free value (R294 says only that it is new). -/
def State.freshSession (lo n : Nat) (s : State) : Nat × State :=
  let d := s.draw
  let l := (List.range 33).map fun i => lo + (Config.freeNat d.1 + i) % n
  ((l.find? fun x => !s.hasSession x).getD lo, d.2)

/-- A session begins under a number, with its module nonce (R294, R331). -/
def State.beginSess (number : Nat) (x : SessS) (s : State) : State :=
  let d := s.draw
  d.2.modWop fun w => { w with sess := Tab.set {} w.sess number { x with nonce := d.1, lastAt := s.tim.opTime } }

/-- The record of a session that has opened (R331). -/
def State.recordSess (number : Nat) (s : State) : State :=
  s.manage 4 { role := (s.session number).role, path := (s.session number).path } 0 0 0 0 number []

/-- The key of a role: 32 zero bytes while it is unset, the Custodian's claim code with the serial number at shipment, else the one written
(R292, R295). -/
def State.roleKey (s : State) (role : Nat) : Config.Key :=
  match nth s.wop.keys role with
  | 0 => 0
  | 1 => BitVec.ofNat 256 (Config.claimCode % 2 ^ 128 * 2 ^ 128 + Config.serial % 2 ^ 64 * 2 ^ 64)
  | _ => Config.roleKey (nth s.wop.keyDraws role)

/-- K_disc (R292). -/
def State.keyDisc (s : State) : Config.Key := Config.kdf (s.roleKey 0) [0x44, 0x53, 0x43] []

/-- K_open of a role (R292). -/
def State.keyOpen (s : State) (role : Role) : Config.Key :=
  Config.kdf (s.roleKey (roleCode role)) [0x4F, 0x50, 0x4E] (be 8 Config.serial)

/-- SK of a session (R292). -/
def State.sessionKey (s : State) (n : Nat) : Config.Key :=
  let x := s.session n
  Config.kdf (s.roleKey (roleCode x.role)) [0x57, 0x4F, 0x50]
    (be 1 (roleCode x.role) ++ be 16 x.peer ++ be 16 (Config.freeNat x.nonce) ++ be 2 n ++ be 8 Config.serial)

/-- KW of a session (R292). -/
def State.wrapKey (s : State) (n : Nat) : Config.Key := Config.kdf (s.sessionKey n) [0x4B, 0x57, 0x52] []

/-- The 20 bytes of an OPEN response or of the first part of an open reply: session and module nonce. -/
def State.openBytes (number : Nat) (s : State) : List Byte := be 2 number ++ zeros 2 ++ be 16 (Config.freeNat (s.session number).nonce)

/-- Whether a session may open for a role (R292): status 0x03 for a role whose key is unset and for Vendor, whose attempt is a security
event. -/
def State.openRefused (role : Role) (s : State) : Option State :=
  if role = .vendor then some (s.security 7 0xFF 1 0)
  else if nth s.wop.keys (roleCode role) = 0 then some s else none

/-- The prepared session of a head is discarded with its reply. -/
def State.dropReply (h : Nat) (s : State) : State :=
  match (s.head h).openReply with
  | some (n, _) => (s.modWop fun w => { w with sess := Tab.erase w.sess n }).modHead h fun d => { d with openReply := none }
  | none => s

/-- The open request of a head's mailbox, 0x1210.00 (R299): at most two sessions per head (R294). -/
def State.mailboxOpenOp (h : Nat) (role : Role) (nonce : Nat) (s : State) : Acc :=
  match s.openRefused role with
  | some s => s.answer 0x03
  | none =>
    let s := s.dropReply h
    if 2 ≤ Tab.countWhere (fun (x : SessS) => decide (x.path = h + 1)) s.wop.sess then s.answer 0x0C
    else
      let r := s.freshSession 0x8000 0x8000
      let s := r.2.beginSess r.1 { role := role, path := h + 1, peer := nonce }
      (s.modHead h fun d => { d with openReply := some (r.1, s.tim.opTime + 5000) }).answer 0x00

/-- The open reply of a head's mailbox, 0x1210.01 (R299): read once; the session is open from then on. -/
def State.mailboxReplyOp (h : Nat) (s : State) : Option (List Byte) × State :=
  match (s.head h).openReply with
  | none => (none, s)
  | some (n, _) =>
    let x := s.session n
    let proof := cmacTag (s.sessionKey n) (be 2 n ++ be 16 x.peer ++ be 16 (Config.freeNat x.nonce))
    let value := s.openBytes n ++ be 8 proof.toNat
    let s := (s.modSession n fun x => { x with opened := true }).modHead h fun d => { d with openReply := none }
    (some value, s.recordSess n)

/-- A role key is set: every other session of the role closes (R295). -/
def State.setKey (role sess : Nat) (s : State) : State :=
  let d := s.draw
  let s := d.2.modWop fun w => { w with keys := modNth w.keys role fun _ => 2, keyDraws := modNth w.keyDraws role fun _ => d.1 }
  forEach ((s.wop.sess.filter fun e => decide (roleCode e.2.role = role ∧ e.1 ≠ sess)).map Prod.fst) State.closeSess s

/-- A write of 0x1201.00–02 (R295): an unwrap that fails is a security event; the key itself is never recorded (R331). -/
def State.roleKeyOp (req : Req) (sess role : Nat) (unwrapOk : Bool) (s : State) : Acc :=
  if !unwrapOk then (s.security 6 0xFF 1 0).answer 0x05
  else if s.configLocked then s.answer 0x07
  else if s.storeBusy then
    s.deferred req 0x1201 role (fun n => fun s =>
      (s.modObj fun o => { o with deferred := Tab.set (0, 0) o.deferred n (objKey 0x1201 role + 1, sess) }).manage 1 req 0 0x1201 role
        (s.slot n).ticket sess [])
  else (((s.storeConfig).manage 1 req 0 0x1201 role 0 sess []).setKey role sess).answer 0x00

/-! ## Counters that a write of 0 clears (13 R309, 14 R340) -/

/-- The raw count behind an object that a write of 0 rebases. -/
def State.rawCount (s : State) (idx mem : Nat) : Nat :=
  if 0x2000 ≤ idx ∧ idx < 0x2004 then (if mem = 5 then (s.port (idx - 0x2000)).recoveries else (s.port (idx - 0x2000)).correctable)
  else if 0x2100 ≤ idx ∧ idx < 0x2108 then
    let d := s.head (idx - 0x2100)
    if mem = 6 then d.stray else if mem = 9 then d.excursions else d.reconstructed
  else if 0x3010 ≤ idx ∧ idx < 0x3034 then (s.channel (idx - 0x3010)).parity
  else if idx = 0x3100 then s.trc.abandoned
  else if idx = 0x3180 then s.wb.starvedCount
  else if idx = 0x4000 then s.flt.overflow
  else if idx = 0x4100 then s.log.notStaged
  else s.log.overruns

/-- Record the present counts as the bases of an object's fields. -/
def State.rebase (idx mem : Nat) (counts : List Nat) (s : State) : State :=
  s.modTly fun t =>
    { t with
      bases := ((List.range counts.length).zip counts).foldl
        (fun b x => Tab.set 0 b (objKey idx mem + (if counts.length = 1 then 0 else 2 ^ 24 * (x.1 + 1))) x.2) t.bases }

/-- Clear a counter object at one instant: maxima and single counts are set to 0, the others take their present count as base. -/
def State.clearCount (idx mem : Nat) (s : State) : State :=
  if idx = 0x1100 then s.rebase idx mem ((List.range 12).map fun i => nth s.wop.frames i)
  else if idx = 0x5050 then s.rebase idx mem [s.seat.transactions, s.seat.crcErrors, s.seat.retries, s.seat.notResponding]
  else if 0x2100 ≤ idx ∧ idx < 0x2108 ∧ mem = 0x0B then s.modHead (idx - 0x2100) fun d => { d with maxRead := 0 }
  else if 0x2100 ≤ idx ∧ idx < 0x2108 ∧ mem = 0x0F then s.modHead (idx - 0x2100) fun d => { d with maxWrite := 0 }
  else if 0x3010 ≤ idx ∧ idx < 0x3034 ∧ mem = 3 then s.modChannel (idx - 0x3010) fun c => { c with maxQueue := 0 }
  else if idx = 0x4000 ∧ mem = 0x11 then s.modFlt fun x => { x with highMark := 0 }
  else if idx = 0x5080 ∧ mem = 3 then s.modPwr fun p => { p with peakMw := 0 }
  else if idx = 0x5080 then s.modPwr fun p => { p with shortDips := 0 }
  else if idx = 0x7012 then s.modObj fun o => { o with busyRefusals := 0 }
  else s.rebase idx mem [s.rawCount idx mem]

/-- A write of a counter object: only 0 may be written. -/
def State.zeroOp (req : Req) (r : ObjRow) (idx mem : Nat) (value : List Byte) (s : State) : Acc :=
  if beVal value ≠ 0 then s.answer 0x06
  else if r.dataPlane && !s.domainOn r.dom then s.answer 0x0A
  else (((s.manage 1 req 0 idx mem 0 0 (value.take 64)).clearCount idx mem).notifyObject idx mem).answer 0x00

/-! ## The commands of 0x7000.00 (13 R314–R316) -/

/-- No operation: Done with no effect (R314). -/
def State.noOp (req : Req) (s : State) : Acc := s.deferred req 0x7000 0 (fun n => fun s => s.ticketDone n 0x00 [])

/-- An object that Restore defaults leaves as it is (R315): the pool address and its validity, the PLCA node, role keys, regions. -/
def keptByRestore (k : Nat) : Bool :=
  [0x110100, 0x110101, 0x110002].contains k || decide (k / 256 = 0x1201 ∨ k / 256 = 0x2140)

/-- The objects that Restore defaults writes for a role (R315). -/
def State.restoreKeys (s : State) (role : Role) : List Nat :=
  objectKeys.filter fun k =>
    match rowOf (k / 256) (k % 256) with
    | none => false
    | some r => r.persist && decide (r.rights role / 2 % 2 = 1) && !keptByRestore k
        && !(role == .operator && s.obj.custodianSet.contains k)

/-- What became of one object of a restore. -/
inductive Restored where
  | done | refused
  /-- Staged for the commit point of a core domain's block (01 R20). -/
  | staged (domain : Nat)
  deriving DecidableEq, Repr

/-- Restored, or refused. -/
def restored (b : Bool) : Restored := if b then .done else .refused

/-- Write one default: what became of it, and the state after. -/
def State.restoreOne (req : Req) (k : Nat) (s : State) : Restored × State :=
  let idx := k / 256
  let mem := k % 256
  match rowOf idx mem with
  | none => (.refused, s)
  | some r =>
    if s.configLocked then (.refused, s)
    else if idx = 0x6010 then (let a := s.optionsOp req {}; (restored (a.1 == 0), a.2.2))
    else if idx = 0x1000 then (.done, (s.storeConfig.modObj fun o => { o with label := [] }).notifyObject idx mem)
    else if idx = 0x4010 then (.done, s.storeConfig)
    else if idx = 0x4120 then (.done, (s.storeConfig.setSnap mem {}).notifyObject idx mem)
    else if idx = 0x5110 then (.done, (s.storeConfig.setLimits mem (({} : ThermS).limits.getD mem [])).notifyObject idx mem)
    else if !s.inRange r idx mem (defaultOf k) || (r.dataPlane && !s.domainOn r.dom) then (.refused, s)
    else
      let s := (s.storeConfig).noteWriter req idx mem
      if r.staged then (.staged r.dom, s.modObj fun o => { o with shadow := Tab.set 0 o.shadow k (defaultOf k + 1) })
      else (.done, s.applyCfg idx mem (defaultOf k))

/-- A restore waits for a block to commit what it staged. -/
def State.restoreWaits (x : RestoreS) (s : State) : State := s.modObj fun o => { o with restoring := some x }

/-- Write the defaults one object at a time; where one is staged the rest waits for its block's commit (01 R20). With the last the ticket is
Done: how many were restored and refused. -/
def State.restoreRun (req : Req) (n done refused : Nat) (l : List Nat) (s : State) : State :=
  match l with
  | [] => s.ticketDone n 0x00 (be 2 done ++ be 2 refused)
  | k :: r =>
    let a := s.restoreOne req k
    match a.1 with
    | .done => a.2.restoreRun req n (done + 1) refused r
    | .refused => a.2.restoreRun req n done (refused + 1) r
    | .staged d => a.2.restoreWaits { slot := n, done := done, refused := refused, left := r, domain := d }

/-- A block has committed: a restore that waited for it goes on. -/
def State.restoreGoesOn (domain : Nat) (s : State) : State :=
  match s.obj.restoring with
  | some x =>
    if x.domain = domain then
      (s.modObj fun o => { o with restoring := none }).restoreRun (s.slot x.slot).req x.slot (x.done + 1) x.refused x.left
    else s
  | none => s

/-- Restore defaults (R315); one at a time (notes/assumptions/49.md). -/
def State.restoreOp (req : Req) (s : State) : Acc :=
  if s.obj.restoring.isSome then s.answer 0x07
  else s.deferred req 0x7000 0 (fun n => fun s => s.restoreRun req n 0 0 (s.restoreKeys req.role))

/-- Sanitize extents one after another, skipping those that hold a Suspect tract, and those for whose tracts there are too few blank physical
tracts (notes/assumptions/22.md): (sanitized, first skipped). -/
def State.sanitizeAll (done first : Nat) (l : List Nat) (s : State) : (Nat × Nat) × State :=
  match l with
  | [] => ((done, first), s)
  | e :: r =>
    if s.suspectIn e || !State.zeroed s (s.sanitizeExtent e) e then s.sanitizeAll done (if first = 0xFFFF then e else first) r
    else (s.sanitizeExtent e).sanitizeAll (done + 1) first r

/-- Sanitize extents (R316): the core must be on and its maps loaded. -/
def State.sanitizeOp (req : Req) (first count : Nat) (s : State) : Acc :=
  if !Role.atLeast req.role .custodian then s.answer 0x03
  else if count = 0 ∨ extents < first + count then s.answer 0x06
  else s.deferred req 0x7000 0 (fun n => fun s =>
    if !s.domainOn 2 then s.ticketDone n 0x0A (be 2 0 ++ be 2 first)
    else if !s.str.mapsLoaded then s.ticketDone n 0x07 (be 2 0 ++ be 2 first)
    else
      let r := s.sanitizeAll 0 0xFFFF (range' first count)
      r.2.ticketDone n (if r.1.2 = 0xFFFF then 0x00 else 0x07) (be 2 r.1.1 ++ be 2 r.1.2))

/-- A write of 0x7000.00 (R314): the role of its command, then the code. -/
def State.commandOp (req : Req) (value : List Byte) (s : State) : Acc :=
  match fieldAt value 0 2 with
  | 0x0001 => s.noOp req
  | 0x0002 => s.restoreOp req
  | 0x0010 => s.sanitizeOp req (fieldAt value 4 2) (fieldAt value 6 2)
  | _ => s.answer 0x06

/-- The command's minimum role is not met: 0x03, before the value is looked at (R314). -/
def commandDenied (req : Req) (idx : Nat) (value : List Byte) : Bool :=
  decide (idx = 0x7000 ∧ fieldAt value 0 2 = 0x0010) && !Role.atLeast req.role .custodian

/-! ## Every write (13 R310) -/

/-- A write of an object of the ranges 0x1000–0x3FFF. -/
def State.writeLow (req : Req) (holder idx mem : Nat) (value : List Byte) (s : State) : Acc :=
  let f := fieldAt value
  if idx = 0x1000 then s.putRecord req idx mem value (State.modObj fun o => { o with label := value })
  else if idx = 0x1201 then
    let d := s.draw
    d.2.roleKeyOp req holder mem (decide (Config.freeNat d.1 % 2 = 1))
  else if idx = 0x1202 ∧ mem = 1 then
    (if s.hasSession (beVal value) then (s.manage 1 req 0 idx mem 0 (beVal value) value).answer 0x00 else s.answer 0x07)
  else if idx = 0x1210 then
    (match roleOf (f 0 1) with
      | some role => s.mailboxOpenOp (req.path - 1) role (f 4 16)
      | none => s.answer 0x06)
  else if 0x2100 ≤ idx ∧ idx < 0x2108 ∧ mem = 4 then
    (if beVal value = 1 then s.headResetOp req (idx - 0x2100) else s.answer 0x06)
  else if idx = 0x2121 ∧ mem = 0 then s.offerOp req (f 0 2) (f 2 2) (f 4 1) (f 5 1)
  else if idx = 0x2121 then s.releaseOp req (f 0 2) (f 2 2) (f 4 1) (decide (f 5 1 = 1))
  else if idx = 0x2140 then s.regionOp req mem (f 0 1)
  else if idx = 0x3190 ∧ mem = 2 then s.decisionOp req (f 0 4) (f 4 4) (f 8 1)
  else if idx = 0x3200 ∧ mem = 2 then
    (if beVal value = 1 then s.rootOp req true else if beVal value = 2 then s.rootOp req false else s.answer 0x06)
  else if idx = 0x3201 then s.rekeyOp req (beVal value)
  else if idx = 0x3240 then s.windowOpen req mem (f 0 8) (f 8 8) (f 16 4)
  else if idx = 0x3301 ∧ mem = 0 then (if f 0 1 ≤ 1 then s.scrubOp req (f 0 1) (f 1 1) (f 8 8) (f 16 8) else s.answer 0x06)
  else if idx = 0x3301 then s.scrubCancelOp req (beVal value)
  else s.putObject req idx mem (beVal value) value

/-- A write of an object of the ranges 0x4000–0x7FFF. -/
def State.writeHigh (req : Req) (holder idx mem : Nat) (value : List Byte) (s : State) : Acc :=
  let f := fieldAt value
  let v := beVal value
  if idx = 0x4003 ∧ mem = 0 then
    (if f 2 1 = 1 then s.fenceOp req (f 0 2) else if f 2 1 = 2 then s.readmitOp req (f 0 2) else s.answer 0x06)
  else if idx = 0x4003 then s.latchReleaseOp req v
  else if idx = 0x4010 then s.stickyOp req mem v
  else if idx = 0x4040 then s.easyOp req v
  else if idx = 0x4100 then (if v = 1 then s.clearFOp req else s.answer 0x06)
  else if idx = 0x4110 then (if f 0 1 ≤ 1 then (s.setCursor holder (f 0 1) (f 4 4)).answer 0x00 else s.answer 0x06)
  else if idx = 0x4120 then s.snapOp req mem (f 0 1) (f 4 4) (objRefs (f 8 1) (value.drop 9))
  else if idx = 0x4121 then s.fireOp req v
  else if idx = 0x5010 then (if v = 1 then s.latchOp req else s.answer 0x06)
  else if idx = 0x5030 ∧ mem = 0 then s.marginOnOp req (decide (v = 1))
  else if idx = 0x5030 then s.marginOp req (f 0 1) (s32Val (f 1 4))
  else if idx = 0x5040 ∧ mem = 4 then (if v = 1 then s.measureOp req else s.answer 0x06)
  else if idx = 0x5080 ∧ mem = 8 then (if v = 0 then s.coreOnOp req else if v = 1 then s.coreOffOp req else s.answer 0x06)
  else if idx = 0x5110 then s.limitsOp req mem (limitFields value) (f 16 2)
  else if idx = 0x6000 ∧ mem = 0x10 then s.updateOp req v
  else if idx = 0x6000 ∧ mem = 0x11 then
    (if v = 1 then (let d := s.draw; d.2.commitOp req (decide (Config.freeNat d.1 % 2 = 1))) else s.answer 0x06)
  else if idx = 0x6000 ∧ mem = 0x12 then (if v = 1 then s.activateOp req else s.answer 0x06)
  else if idx = 0x6001 then s.segmentOp (f 0 4) (value.drop 8)
  else if idx = 0x6010 then
    s.optionsOp req { rollbackMin := f 0 1, bpReset := f 1 1, wdtBoot := f 2 2, dbgLock := decide (f 4 1 = 1), t1sOff := decide (f 5 1 = 1) }
  else if idx = 0x6100 then s.protectOp req v
  else if idx = 0x7000 then s.commandOp req value
  else if idx = 0x7001 then s.resetOp req v
  else s.putObject req idx mem v value

/-- A write whose access checks have passed (R297 from status 0x05 on). -/
def State.writeValue (req : Req) (holder idx mem : Nat) (value : List Byte) (s : State) : Acc :=
  match rowOf idx mem with
  | none => s.answer 0x02
  | some r =>
    if commandDenied req idx value then s.answer 0x03
    else if !formOk r value || !reservedOk idx mem value then s.answer 0x05
    else if selectorKeys.contains (objKey idx mem) then
      (if beVal value ≤ selectorTop r ∧ (idx = 0x3110 → tractNamed (beVal value)) then (s.setSel holder idx mem (beVal value)).answer 0x00 else s.answer 0x06)
    else if r.zero then s.zeroOp req r idx mem value
    else if idx < 0x4000 then s.writeLow req holder idx mem value
    else s.writeHigh req holder idx mem value

/-- A write of an object by a role and path, for a holder of selectors (R308). -/
def State.writeObject (req : Req) (holder idx mem : Nat) (value : List Byte) (s : State) : Acc :=
  guarded req idx mem (State.writeValue req holder idx mem value) s

/-- What an accepted write does once its response has been sent: the restart of an activation (17 R400), the module reset (R317), the closing
of a session (12 R294). -/
def State.afterWrite (idx mem : Nat) (value : List Byte) (s : State) : State :=
  if idx = 0x6000 ∧ mem = 0x12 then s.restartInto
  else if idx = 0x7001 then s.askReset
  else if idx = 0x1202 ∧ mem = 1 then s.closeSess (beVal value)
  else s

/-- Send the response of a write, then do what follows it. -/
def finishWrite (who : Asker) (idx mem : Nat) (value : List Byte) (a : Acc) : State :=
  if a.1 = 0 then (respond idx mem who a).afterWrite idx mem value else respond idx mem who a

/-! ## Every read (12 R296, 13 R308) -/

/-- A read: status, ticket and value, and the state after (the window, the Suspect list and the open reply move what they read from). -/
def State.readObject (req : Req) (holder idx mem : Nat) (s : State) : (Nat × Nat × List Byte) × State :=
  let c := accessCheck idx mem 1 req.role req.path
  if c ≠ 0 then ((c, 0, []), s) else
  match rowOf idx mem with
  | none => ((0x02, 0, []), s)
  | some r =>
    if testBit r.flags 1 then ((0x05, 0, []), s)
    else if r.dataPlane && !s.domainOn r.dom then ((0x0A, 0, []), s)
    else if idx = 0x1210 then
      (match s.mailboxReplyOp (req.path - 1) with
        | (some v, s) => ((0x00, 0, v), s)
        | (none, s) => ((0x02, 0, []), s))
    else if idx = 0x3190 ∧ mem = 5 then (let a := s.suspectList holder; ((0x00, 0, a.1), a.2))
    else if idx = 0x4110 ∧ mem = 1 then (let a := s.readWindow holder; ((0x00, 0, a.1), a.2))
    else if idx = 0x7011 ∧ (s.slot mem).state = 1 then ((0x01, (s.slot mem).ticket, []), s)
    else ((0x00, 0, s.value holder idx mem), s)

/-! ## Rows -/

/-- The holder of selectors of a row that names no session: a head's mailbox by its path (notes/assumptions/47.md). -/
def pathHolder (req : Req) : Nat := if req.path = 0 then 0 else 0x10000 + (req.path - 1)

/-- CONFIG_OBJECT_WRITE (13 R310). -/
def execConfigObjectWrite (req : Req) (idx mem : Nat) (value : List Byte) (s : State) : Res :=
  accessed s (finishWrite (.row req idx mem) idx mem value (s.writeObject req (pathHolder req) idx mem value))

/-- NO_OPERATION (13 R314). -/
def execNoOperation (req : Req) (s : State) : Res :=
  accessed s (respondAccess req 0x7000 0 (guarded req 0x7000 0 (State.noOp req) s))

/-- RESTORE_DEFAULTS (13 R315). -/
def execRestoreDefaults (req : Req) (s : State) : Res :=
  accessed s (respondAccess req 0x7000 0 (guarded req 0x7000 0 (State.restoreOp req) s))

/-- SANITIZE_EXTENTS (13 R316). -/
def execSanitizeExtents (req : Req) (first count : Nat) (s : State) : Res :=
  accessed s (respondAccess req 0x7000 0 (guarded req 0x7000 0 (State.sanitizeOp req first count) s))

/-- The effect of a deferred persist write once it is stored, by its object; false where it is no longer allowed. -/
def State.applyDeferred (req : Req) (idx mem v : Nat) (s : State) : Bool × State :=
  let bytes := recordBytes v
  if idx = 0x4010 then (true, s.storeConfig.clearSticky mem v)
  else if idx = 0x1000 then (true, (s.storeConfig.modObj fun o => { o with label := bytes }).notifyObject idx mem)
  else if idx = 0x1201 then (true, s.storeConfig.setKey mem v)
  else if idx = 0x2140 then
    let r := s.storeConfig.setRegion mem (fieldAt bytes 0 1)
    (r.1 == 0, if r.1 = 0 then r.2.notifyObject idx mem else s)
  else if idx = 0x4120 then
    (true, (s.storeConfig.setSnap mem
      { trigger := fieldAt bytes 0 1, param := fieldAt bytes 4 4, objs := objRefs (fieldAt bytes 8 1) (bytes.drop 9) }).notifyObject idx mem)
  else if idx = 0x5110 then
    (true, (s.storeConfig.setLimits mem (limitFields bytes ++ [(fieldAt bytes 16 2 : Int)])).notifyObject idx mem)
  else (true, ((s.storeConfig).noteWriter req idx mem).applyCfg idx mem v)

/-- A deferred persist write ends: stored, applied, its ticket Done, for a data-plane object once its block has committed it (01 R20); refused with 0x07 where the configuration has been locked meanwhile, with
0x0A where its block is off (R311, R322). -/
def State.storeDeferred (slot : Nat) (s : State) : State :=
  let d := Tab.rd (0, 0) s.obj.deferred slot
  if d.1 = 0 then s else
  let idx := (d.1 - 1) / 256
  let mem := (d.1 - 1) % 256
  let s := s.modObj fun o => { o with deferred := Tab.erase o.deferred slot }
  let absent := match rowOf idx mem with
    | some r => r.dataPlane && !s.domainOn r.dom
    | none => false
  let staged := match rowOf idx mem with
    | some r => r.staged && idx != 0x2140
    | none => false
  if s.configLocked then s.ticketDone slot 0x07 []
  else if absent then s.ticketDone slot 0x0A []
  else if staged then
    (((s.storeConfig).noteWriter (s.slot slot).req idx mem).modObj fun o =>
      { o with
        shadow := Tab.set 0 o.shadow (objKey idx mem) (d.2 + 1)
        waiting := o.waiting ++ [((match rowOf idx mem with | some r => r.dom | none => 255), .ticket slot)] })
  else
    let a := s.applyDeferred (s.slot slot).req idx mem d.2
    a.2.ticketDone slot (if a.1 then 0x00 else 0x07) []

/-- PERSIST_WRITE_DEFERRED_DONE (13 R311). -/
def execPersistWriteDeferredDone (slot : Nat) (s : State) : Res := accessed s (s.storeDeferred slot)

/-- The staged values of a domain's blocks are applied at their commit point, and the waiting writers answered (01 R20, R21). -/
def State.commit (domain : Nat) (s : State) : State :=
  let mine := fun (k : Nat) => match rowOf (k / 256) (k % 256) with
    | some r => decide (r.dom = domain)
    | none => false
  let l := s.obj.shadow.filter fun e => mine e.1
  let w := s.obj.waiting.filter fun x => decide (x.1 = domain)
  let s := s.modObj fun o =>
    { o with shadow := o.shadow.filter fun e => !mine e.1, waiting := o.waiting.filter fun x => decide (x.1 ≠ domain) }
  let s := forEach l (fun e => State.applyCfg (e.1 / 256) (e.1 % 256) (e.2 - 1)) s
  ((forEach w (fun x => State.respondTo x.2 0x00 0 []) s).emit (.configConfirmed domain)).restoreGoesOn domain

/-- CONFIG_COMMIT (01 R20): a block that has no power commits nothing. -/
def execConfigCommit (domain : Nat) (s : State) : Res := if s.domainOn domain then .next (s.commit domain) else .next s

/-- KEEL_BRIDGE_ACCESS (01 R19): from Cox; the spec lays out no core register, so what is read is a free value, and a word written has no
effect that a rule names. While the domain is off the access ends with core absent. -/
def execKeelBridgeAccess (domain _addr : Nat) (write : Option Word64) (s : State) : Res :=
  if s.cox.state = 0 then .next s
  else if !s.domainOn domain then .next (s.emit (.bridge none))
  else
    match write with
    | some w => .next (s.emit (.bridge (some w)))
    | none => .next (s.draw.2.emit (.bridge (some (Config.freeWord s.draw.1))))

/-- KEEL_BRIDGE_TIMEOUT (01 R19): an access to a domain that is off ends with the status core absent. -/
def execKeelBridgeTimeout (domain _addr : Nat) (s : State) : Res :=
  if s.cox.state = 0 ∨ s.domainOn domain then .next s else .next (s.emit (.bridge none))

end Sys2Proof.Machine
end

