-- ==== Sys2Proof/Machine/Wop.lean ====
section
/-! DEFINITION. The management network and the Wobry Object Protocol: frames, discovery, sessions, requests, bulk transfer, subscriptions, and the
object access of the mailbox (12 R284–R301, 04 R105). -/

namespace Sys2Proof.Machine

/-! ## The T1S path (R284–R286) -/

/-- The T1S path works: the keel island is on, the PHY powered and the path not fenced (R286, 17 R395). -/
def State.t1sUp (s : State) : Bool := s.keelOn && !s.isOut 0x2F5 && !s.cox.options.t1sOff

/-- Count a frame in one of the places of 0x1100.07. -/
def State.countFrame (i : Nat) (s : State) : State := s.modWop fun w => { w with frames := modNth w.frames i (· + 1) }

/-- Count a WOP request as received (14 R338, 18 R424). -/
def State.countRequest (s : State) : State := s.modWop fun w => { w with counts := modNth w.counts 2 (· + 1) }

/-- A frame whose tag check fails: dropped and counted (R286, R295). -/
def State.dropTag (s : State) : State := (s.countFrame 8).modWop fun w => { w with tagFails := w.tagFails + 1 }

/-- The place of a category of dropped frame in 0x1100.07. -/
def dropPlace : FrameDrop → Nat
  | .fcs => 2
  | .link => 3
  | .network => 4
  | .port => 5
  | .malformed => 6
  | .notForModule => 7
  | .tag => 8
  | .sequence => 9
  | .collision => 10
  | .excessCollisions => 11

/-- The MAC itself counts these, the firmware the others. -/
def byMac (d : FrameDrop) : Bool := decide (d = .fcs ∨ d = .link ∨ d = .collision ∨ d = .excessCollisions)

/-- STRANGER_FRAME (12 R284, R286): the MAC drops frames of the first two categories, the firmware the others. DESIGN CHOICE: the collisions
and the excess-collision drops of 0x1100.07, for which the table has no row, come with this one (notes/assumptions/84.md). -/
def execStrangerFrame (drop : FrameDrop) (s : State) : Res :=
  if !s.t1sUp || !(s.coxUp || byMac drop) then .next s
  else if drop = .tag then .next s.dropTag
  else .next (s.countFrame (dropPlace drop))

/-- An answer of the network layer: the request accepted, the answer sent. -/
def State.networkAnswer (echo : Bool) (s : State) : State :=
  if s.t1sUp && s.coxUp then ((s.countFrame 1).countFrame 0).emit (.icmpReply echo) else s

/-- ICMPV6_ECHO (12 R284). -/
def execIcmpv6Echo (s : State) : Res := .next (s.networkAnswer true)

/-- NEIGHBOR_DISCOVERY (12 R284). -/
def execNeighborDiscovery (s : State) : Res := .next (s.networkAnswer false)

/-- The interface identifier of a MAC address, as a modified EUI-64 (R284). -/
def interfaceId (mac : Nat) : Nat := (mac / 2 ^ 24 % 2 ^ 24 * 2 ^ 40 + 0xFFFE * 2 ^ 24 + mac % 2 ^ 24) ^^^ 2 ^ 57

/-- The module's IPv6 address, fe80::/64 with that identifier (R284). -/
def ipv6Address : Nat := 0xFE80 * 2 ^ 112 + interfaceId (Config.identity 5)

/-- The WOP group ff02::1FA4:5750 (R284). -/
def multicastGroup : Nat := 0xFF02 * 2 ^ 112 + 0x1FA45750

/-- The IPv6 addresses that the module listens on (R284). -/
def listensOn : List Nat := [ipv6Address, 0xFF02 * 2 ^ 112 + 1, multicastGroup]

/-- PLCA_MODE_WRITE (12 R285). -/
def execPlcaModeWrite (mode : Nat) (s : State) : Res :=
  accessed s (respondAccess byOperator 0x1100 0 (s.putObject byOperator 0x1100 0 mode (be 1 mode)))

/-- The module's PLCA node as a follower: the one written, or GA + 1 for a geographic address below 63 (R285). -/
def State.plcaNode (s : State) : Option Nat :=
  if s.cfg 0x1100 2 ≠ 0xFF then some (s.cfg 0x1100 2) else if s.pwr.gaLatched < 63 then some (s.pwr.gaLatched + 1) else none

/-- The module has a PLCA node of its own (R285). -/
def State.hasNode (s : State) : Bool := s.plcaNode.isSome

/-- The module is a follower on a working path. -/
def State.follows (s : State) : Bool := s.t1sUp && decide (s.cfg 0x1100 0 = 1) && s.hasNode

/-- PLCA_BEACON_LOSS (12 R285): CSMA/CD until the next beacon. -/
def execPlcaBeaconLoss (s : State) : Res := if s.follows then .next (s.modWop fun w => { w with plca := 2 }) else .next s

/-- PLCA_BEACON (12 R285): a beacon, and the transmit opportunity of its cycle. -/
def execPlcaBeacon (s : State) : Res :=
  if s.follows then
    .next (s.modWop fun w => { w with plca := 1, counts := modNth (modNth w.counts 0 (· + 1)) 1 (· + 1) })
  else .next s

/-- T1S_PATH_FAILURE (12 R286): the PHY self-check failed, or no frame left for 10 s while frames waited; the fence is the collector's. -/
def execT1sPathFailure (_selfCheck : Bool) (s : State) : Res := .next (if s.t1sUp then s.report 0x2F5 0x85 none else s)

/-! ## Discovery (R289–R291) -/

/-- The payload of the module's ADVERTISE (R288). -/
def State.advertiseBytes (s : State) : List Byte :=
  be 8 Config.serial ++ be 2 (s.cfg 0x1101 0) ++ be 1 (s.cfg 0x1101 1) ++ be 1 s.pwr.gaLatched ++ be 1 (powerCode s.pwr.state)
    ++ boolByte s.wop.conflict ++ be 4 s.firmware ++ be 8 (Config.identity 5 % 2 ^ 48) ++ zeros 6

/-- Send an ADVERTISE to the group (R290). -/
def State.sendAdvertise (s : State) : State := if s.t1sUp then (s.countFrame 0).emit (.advertise s.advertiseBytes) else s

/-- The filter of a SOLICIT: all; an address that is not valid; a range of valid addresses (R288). -/
def State.meetsFilter (s : State) (filter first last : Nat) : Bool :=
  match filter with
  | 0 => true
  | 1 => decide (s.cfg 0x1101 1 = 0)
  | 2 => decide (s.cfg 0x1101 1 = 1 ∧ first ≤ s.cfg 0x1101 0 ∧ s.cfg 0x1101 0 ≤ last)
  | _ => false

/-- A request names this module (R289): by its valid pool address while no conflict has been heard (R291), or by its serial number. -/
def State.addressed (s : State) (dst : WopAddr) : Bool :=
  match dst with
  | .pool a => decide (s.cfg 0x1101 1 = 1 ∧ a = s.cfg 0x1101 0) && !s.wop.conflict
  | .serial n => decide (n = Config.serial)

/-- SOLICIT (12 R288–R290, R297): one addressed singly is answered 0x0D. -/
def execSolicit (dst : Option WopAddr) (filter first last : Nat) (s : State) : Res :=
  let single := dst.isSome
  if !s.t1sUp then .next s
  else if !s.coxUp then .next s.countRequest
  else if !(dst.all s.addressed) then .next (s.countFrame 7)
  else
    let s := s.countRequest.countFrame 1
    if single then .next ((s.countFrame 0).emit (.wop 0 1 0x0D 0 []))
    else if s.meetsFilter filter first last then .next (s.modWop fun w => { w with answerDue := true })
    else .next s

/-- ADVERTISE_ANSWER_TIMER (12 R290). -/
def execAdvertiseAnswerTimer (s : State) : Res :=
  if s.wop.answerDue ∧ s.coxUp then .next ((s.modWop fun w => { w with answerDue := false }).sendAdvertise) else .next s

/-- ADVERTISE_PERIOD (12 R290): a period of 0 sends none. -/
def execAdvertisePeriod (s : State) : Res := if s.coxUp ∧ s.cfg 0x1101 3 ≠ 0 then .next s.sendAdvertise else .next s

/-- ADVERTISE (12 R291): another module claims the module's own valid pool address. -/
def execAdvertise (serial pool : Nat) (valid : Bool) (s : State) : Res :=
  if !s.t1sUp || !s.coxUp then .next s
  else
    let s := s.countFrame 1
    if valid = true ∧ serial ≠ Config.serial ∧ s.cfg 0x1101 1 = 1 ∧ pool = s.cfg 0x1101 0 then
      .next ((((s.modWop fun w => { w with conflict := true }).notifyObject 0x1101 2).report 0x2F5 0x8A (some (pool % 65536))))
    else .next s

/-- POOL_ADDRESS_WRITE (12 R289). -/
def execPoolAddressWrite (pool : Nat) (s : State) : Res :=
  accessed s (respondAccess byOperator 0x1101 0 (s.putObject byOperator 0x1101 0 pool (be 2 pool)))

/-! ## Sessions (R292–R295) -/

/-- Service codes (R288). -/
def svcOpen : Nat := 3
def svcClose : Nat := 4
def svcWrite : Nat := 6
def svcReadMulti : Nat := 7
def svcBulkStart : Nat := 8
def svcSubscribe : Nat := 11
def svcKeepalive : Nat := 13

/-- A response that belongs to no session. -/
def State.wopAnswer (sess svc status : Nat) (value : List Byte) (s : State) : State :=
  (s.countFrame 0).emit (.wop sess svc status 0 value)

/-- OPEN (12 R292, R294): a role whose key is unset and the Vendor role get status 0x03, beyond 16 sessions 0x0C. -/
def execOpenSession (dst : WopAddr) (role : Role) (_seq manager nonce : Nat) (tagOk : Bool) (s : State) : Res :=
  if !s.t1sUp then .next s
  else if !s.coxUp then .next s.countRequest
  else if !s.addressed dst then .next (s.countFrame 7)
  else
    match s.openRefused role with
    | some s => .next ((s.countRequest.countFrame 1).wopAnswer 0 svcOpen 0x03 [])
    | none =>
      if !tagOk then .next s.dropTag
      else
        let s := s.countRequest.countFrame 1
        if 16 ≤ Tab.countWhere (fun (x : SessS) => decide (x.path = 0)) s.wop.sess then .next (s.wopAnswer 0 svcOpen 0x0C [])
        else
          let r := s.freshSession 1 0x7FFF
          let s := (r.2.beginSess r.1 { opened := true, role := role, modSeq := 1, manager := manager, peer := nonce }).recordSess r.1
          .next (s.wopAnswer r.1 svcOpen 0x00 (s.openBytes r.1))

/-- A session answers requests of a path: it is open and was opened on that path (R299). -/
def State.answers (s : State) (sess path : Nat) : Bool :=
  s.hasSession sess && (s.session sess).opened && decide ((s.session sess).path = path)

/-- A valid request of a session: the idle timer starts again. -/
def State.touch (sess : Nat) (s : State) : State := s.modSession sess fun z => { z with used := true, lastAt := s.tim.opTime }

/-- A request of a session over T1S (R286, R289, R293): its address, its tag, its session, its sequence; a retry gets its stored response, a
new sequence is executed. -/
def State.wopRequest (dst : WopAddr) (sess seq : Nat) (tagOk : Bool) (svc : Nat) (body : State → State) (s : State) : State :=
  if !s.t1sUp then s
  else if !s.coxUp then s.countRequest
  else if !s.addressed dst then s.countFrame 7
  else if !tagOk then s.dropTag
  else if !s.answers sess 0 then (s.countRequest.countFrame 1).wopAnswer sess svc 0x09 []
  else
    match (s.session sess).answered.find? fun x => x.seq == seq with
    | some x =>
      let s := ((s.countRequest.countFrame 1).touch sess).modSession sess fun z => { z with modSeq := z.modSeq + 1 }
      (s.countFrame 0).emit (.wop sess x.service x.status x.ticket x.value)
    | none =>
      if seq ≤ (s.session sess).highest then s.countFrame 9
      else body (((s.countRequest.countFrame 1).touch sess).modSession sess fun z => { z with highest := seq })

/-- The answer to a session's request. -/
def State.wopReply (sess seq svc status ticket : Nat) (value : List Byte) (s : State) : State :=
  s.respondTo (.wop sess seq svc) status ticket value

/-- CLOSE (12 R294): answered, then closed. -/
def execClose (dst : WopAddr) (sess seq : Nat) (s : State) : Res :=
  .next (s.wopRequest dst sess seq true svcClose (fun s => (s.wopReply sess seq svcClose 0 0 []).closeSess sess))

/-- SESSION_OPEN_TIMEOUT (12 R294): no valid request since the OPEN response. -/
def execSessionOpenTimeout (sess : Nat) (s : State) : Res :=
  if s.coxUp ∧ ¬ (s.session sess).used then .next (s.closeSess sess) else .next s

/-- SESSION_IDLE_TIMEOUT (12 R294). -/
def execSessionIdleTimeout (sess : Nat) (s : State) : Res := if s.coxUp then .next (s.closeSess sess) else .next s

/-- CLOSE_SESSION (12 R294): the Custodian's write of 0x1202.01. -/
def execCloseSession (sess : Nat) (s : State) : Res :=
  accessed s (finishWrite (.row byCustodian 0x1202 1) 0x1202 1 (be 2 sess) (s.writeObject byCustodian 0 0x1202 1 (be 2 sess)))

/-- ROLE_KEY_WRITE (12 R295): inside a session of the Custodian. -/
def execRoleKeyWrite (sess : Nat) (role : Role) (unwrapOk : Bool) (s : State) : Res :=
  let req := s.holderReq sess
  accessed s (respondAccess req 0x1201 (roleCode role)
    (if !s.hasSession sess then s.answer 0x09
      else guarded req 0x1201 (roleCode role) (State.roleKeyOp req sess (roleCode role) unwrapOk) s))

/-- TAG_FAILURE_SECOND (12 R295): one security event with the count; the model knows no addresses, so the source of the first failure is a
free value. -/
def execTagFailureSecond (s : State) : Res :=
  if s.wop.tagFails ≠ 0 ∧ s.coxUp then
    let d := s.draw
    .next ((d.2.modWop fun w => { w with tagFails := 0 }).securityFrom 5 0xFF s.wop.tagFails 0 (Config.freeNat d.1 % 2 ^ 128))
  else .next s

/-- KEEPALIVE (12 R288): the request itself starts the idle timeout again, so all of it remains. -/
def execKeepalive (dst : WopAddr) (sess seq : Nat) (tagOk : Bool) (s : State) : Res :=
  .next (s.wopRequest dst sess seq tagOk svcKeepalive (fun s => s.wopReply sess seq svcKeepalive 0 0 (be 4 (s.cfg 0x1202 2))))

/-! ## Reads and writes (R296) -/

/-- READ (12 R296). -/
def execRead (dst : WopAddr) (sess seq : Nat) (tagOk : Bool) (idx mem : Nat) (s : State) : Res :=
  .next (s.wopRequest dst sess seq tagOk svcRead (fun s =>
    let r := s.readObject (s.holderReq sess) sess idx mem
    r.2.wopReply sess seq svcRead r.1.1 r.1.2.1 r.1.2.2))

/-- WRITE (12 R296). -/
def execWrite (dst : WopAddr) (sess seq : Nat) (tagOk : Bool) (idx mem : Nat) (value : List Byte) (s : State) : Res :=
  .next (s.wopRequest dst sess seq tagOk svcWrite (fun s =>
    finishWrite (.wop sess seq svcWrite) idx mem value (s.writeObject (s.holderReq sess) sess idx mem value)))

/-- Items of a READ_MULTI, each at its own instant in the order given (R288). -/
def State.readItems (req : Req) (holder : Nat) (l : List ObjRef) (s : State) : List Byte × State :=
  match l with
  | [] => ([], s)
  | o :: r =>
    let a := s.readObject req holder o.index o.member
    let ty := match rowOf o.index o.member with
      | some r => r.ty
      | none => 0
    let rest := a.2.readItems req holder r
    (be 1 a.1.1 ++ be 1 ty ++ be 2 a.1.2.2.length ++ a.1.2.2 ++ rest.1, rest.2)

/-- READ_MULTI (12 R288): 1 to 16 items. -/
def execReadMulti (dst : WopAddr) (sess seq : Nat) (tagOk : Bool) (items : List ObjRef) (s : State) : Res :=
  .next (s.wopRequest dst sess seq tagOk svcReadMulti (fun s =>
    if items.isEmpty || decide (16 < items.length) then s.wopReply sess seq svcReadMulti 0x05 0 []
    else
      let r := s.readItems (s.holderReq sess) sess items
      r.2.wopReply sess seq svcReadMulti 0 0 (be 1 items.length ++ zeros 3 ++ r.1)))

/-! ## Bulk transfer (R298) -/

/-- A segment's bytes, and the segments of a window. -/
def segmentBytes : Nat := 1024
def windowSegments : Nat := 8

/-- Send the segments from an offset to an end. -/
def State.sendSegments (b : BulkS) (a stop : Nat) (s : State) : State :=
  forEach (List.range ((stop - a + segmentBytes - 1) / segmentBytes)) (fun k => fun s =>
    let o := a + k * segmentBytes
    (s.countFrame 0).emit (.bulkData b.number o ((b.data.drop o).take (min segmentBytes (stop - o))))) s

/-- Replace a transfer. -/
def State.putBulk (b : BulkS) (s : State) : State :=
  s.modWop fun w => { w with bulks := w.bulks.map fun x => if x.number = b.number then b else x }

/-- A transfer ends. -/
def State.endBulk (number : Nat) (s : State) : State :=
  s.modWop fun w => { w with bulks := w.bulks.filter fun x => decide (x.number ≠ number) }

/-- The status with which a transfer starts: the access checks, 0x05 for an object that is not bulk, 0x07 and 0x0B for an image that is not
being received or has another length, 0x08 when the session has one or the module two. -/
def State.bulkStatus (s : State) (req : Req) (sess idx mem : Nat) (fromModule : Bool) (total : Nat) : Nat :=
  let c := accessCheck idx mem (if fromModule then 1 else 2) req.role req.path
  let bulk := match rowOf idx mem with
    | some r => testBit r.flags 1
    | none => false
  if c ≠ 0 then c
  else if !bulk then 0x05
  else if !fromModule && decide ((s.image' s.spareImage).state ≠ 2) then 0x07
  else if (s.wop.bulks.any fun b => b.sess == sess) || decide (2 ≤ s.wop.bulks.length) then 0x08
  else if !fromModule && decide (total ≠ (s.image' s.spareImage).len) then 0x0B
  else 0x00

/-- BULK_START (12 R298). -/
def execBulkStart (dst : WopAddr) (sess seq : Nat) (tagOk : Bool) (idx mem : Nat) (fromModule : Bool) (total : Nat) (s : State) : Res :=
  .next (s.wopRequest dst sess seq tagOk svcBulkStart (fun s =>
    let c := s.bulkStatus (s.holderReq sess) sess idx mem fromModule total
    if c ≠ 0 then s.wopReply sess seq svcBulkStart c 0 []
    else
      let data := if fromModule then s.value sess idx mem else []
      let size := if fromModule then data.length else total
      let first := min size (windowSegments * segmentBytes)
      let b : BulkS :=
        { number := s.wop.nextBulk, sess := sess, key := objKey idx mem, fromModule := fromModule, total := size, data := data
          sent := if fromModule then first else 0 }
      let s := s.modWop fun w => { w with bulks := w.bulks ++ [b], nextBulk := w.nextBulk % 0xFFFF + 1 }
      let s := s.wopReply sess seq svcBulkStart 0 0 (be 2 b.number ++ be 1 windowSegments ++ zeros 1 ++ be 2 segmentBytes)
      if fromModule then s.sendSegments b 0 first else s))

/-- The transfer of a session that a segment or an acknowledgement names. -/
def State.bulkOf (s : State) (sess bulk : Nat) (fromModule : Bool) : Option BulkS :=
  s.wop.bulks.find? fun b => b.number == bulk && b.sess == sess && b.fromModule == fromModule

/-- A segment arrives (R298, 17 R401): one already received is discarded, one out of order is left for its acknowledgement, one in order is
programmed; a wrong offset or length, or data that the image refuses, abandons the transfer. -/
def State.bulkSegment (b : BulkS) (offset : Nat) (data : List Byte) (s : State) : State :=
  if offset < b.next then s
  else if data.isEmpty || decide (offset % segmentBytes ≠ 0 ∨ b.total < offset + data.length)
      || decide (data.length ≠ segmentBytes ∧ offset + data.length ≠ b.total) then s.endBulk b.number
  else if b.next < offset then s.putBulk { b with outOfOrder := true }
  else
    let r := s.imageWrite offset data
    if r.1 ≠ 0 then s.endBulk b.number
    else
      let next := offset + data.length
      let due := decide (next = b.total ∨ windowSegments ≤ b.sinceAck + 1)
      let s := r.2.putBulk { b with next := next, sinceAck := if due then 0 else b.sinceAck + 1, outOfOrder := false }
      let s := if due then (s.countFrame 0).emit (.bulkAck b.number next) else s
      if next = b.total then s.endBulk b.number else s

/-- A message of a bulk transfer counts as accepted, and keeps its session from idling. -/
def State.bulkHeard (sess : Nat) (s : State) : State := (s.countFrame 1).touch sess

/-- BULK_DATA (12 R298). -/
def execBulkData (dst : WopAddr) (sess bulk offset : Nat) (data : List Byte) (s : State) : Res :=
  if !s.t1sUp || !s.coxUp then .next s
  else if !s.addressed dst then .next (s.countFrame 7)
  else
    match s.bulkOf sess bulk false with
    | some b => .next ((s.bulkHeard sess).bulkSegment b offset data)
    | none => .next s

/-- BULK_ACK (12 R298): everything before the offset has arrived; the window moves on from there. -/
def execBulkAck (dst : WopAddr) (sess bulk next : Nat) (s : State) : Res :=
  if !s.t1sUp || !s.coxUp then .next s
  else if !s.addressed dst then .next (s.countFrame 7)
  else
    match s.bulkOf sess bulk true with
    | none => .next s
    | some b =>
      let s := s.bulkHeard sess
      if next < b.next ∨ b.sent < next then .next (s.endBulk bulk)
      else if next = b.total then .next (s.endBulk bulk)
      else
        let stop := min b.total (next + windowSegments * segmentBytes)
        .next ((s.putBulk { b with next := next, sent := stop }).sendSegments b next stop)

/-- BULK_OUT_OF_ORDER_ACK (12 R298). -/
def execBulkOutOfOrderAck (bulk : Nat) (s : State) : Res :=
  match s.wop.bulks.find? fun b => b.number == bulk && b.outOfOrder with
  | some b =>
    if s.t1sUp && s.coxUp then
      .next (((s.putBulk { b with outOfOrder := false, sinceAck := 0 }).countFrame 0).emit (.bulkAck bulk b.next))
    else .next s
  | none => .next s

/-- BULK_TIMEOUT (12 R298): no segment for 2 s. -/
def execBulkTimeout (bulk : Nat) (s : State) : Res := if s.coxUp then .next (s.endBulk bulk) else .next s

/-! ## Subscriptions (R288, R296) -/

/-- Slots in use across the module. -/
def State.slotsInUse (s : State) : Nat := (s.wop.sess.map fun e => e.2.subs.length).sum

/-- The status of a SUBSCRIBE: an object slot needs a readable object; masks and slots have their ranges; at most 32 slots. -/
def State.subscribeStatus (s : State) (req : Req) (sess slot : Nat) (kind : SubKind) (idx mem mask : Nat) : Nat :=
  let c := if kind = .objectChange then accessCheck idx mem 1 req.role req.path else 0
  if c ≠ 0 then c
  else if 7 < slot ∨ (kind = .faultClasses ∧ 15 < mask) ∨ (kind = .headEvents ∧ 255 < mask) then 0x06
  else if kind ≠ .none ∧ (Tab.rd {} (s.session sess).subs slot).kind = .none ∧ 32 ≤ s.slotsInUse then 0x0C
  else 0x00

/-- SUBSCRIBE (12 R288, R296): kind none clears the slot. -/
def execSubscribe (dst : WopAddr) (sess seq : Nat) (tagOk : Bool) (slot : Nat) (kind : SubKind) (minMs idx mem mask : Nat) (s : State) : Res :=
  .next (s.wopRequest dst sess seq tagOk svcSubscribe (fun s =>
    let c := s.subscribeStatus (s.holderReq sess) sess slot kind idx mem mask
    if c ≠ 0 then s.wopReply sess seq svcSubscribe c 0 []
    else
      let x : SubSlot := if kind = .none then {} else { kind := kind, minMs := minMs, index := idx, mem := mem, mask := mask }
      (s.modSession sess fun z => { z with subs := Tab.set {} z.subs slot x }).wopReply sess seq svcSubscribe 0 0 []))

/-- SUBSCRIPTION_INTERVAL_END (12 R296): a held event is sent with the count of the interval, and the interval runs again. -/
def execSubscriptionIntervalEnd (sess slot : Nat) (s : State) : Res :=
  let x := Tab.rd {} (s.session sess).subs slot
  let put := fun (y : SubSlot) => State.modSession sess fun z => { z with subs := Tab.set {} z.subs slot y }
  if !s.coxUp || !x.running then .next s
  else if x.heldCount = 0 then .next (put { x with running := false } s)
  else .next ((put { x with heldCount := 0, heldContent := [] } s).sendNotify sess slot (subCode x.kind) x.heldCount x.heldContent)

/-! ## Object access by mailbox (04 R105, R299) -/

/-- An Object Read or Object Write: the form, the session, the tag and the sequence; a session that was not opened by this head's mailbox is
status 0x09. -/
def State.mailboxAccess (h opcode : Nat) (form : Bool) (sess seq : Nat) (tag : TagField) (body : Req → Nat → Asker → State → State)
    (s : State) : State :=
  if !form then s.mbReturn h opcode mbInvalid []
  else if sess = 0 then
    (if tag = .zero then body { role := .observer, path := h + 1 } (0x10000 + h) (.mailbox h 0 0 opcode) s
      else s.mbReturn h opcode mbInvalid [])
  else if !s.answers sess (h + 1) then s.mbAccess h opcode 0x09 0 []
  else if tag ≠ .valid then (s.modWop fun w => { w with tagFails := w.tagFails + 1 }).mbReturn h opcode mbInvalid []
  else
    match (s.session sess).answered.find? fun x => x.seq == seq with
    | some x => ((s.touch sess).modSession sess fun z => { z with modSeq := z.modSeq + 1 }).mbAccess h opcode x.status x.ticket x.value
    | none =>
      if seq ≤ (s.session sess).highest then s.mbReturn h opcode mbInvalid []
      else body (s.holderReq sess) sess (.mailbox h sess seq opcode)
        ((s.touch sess).modSession sess fun z => { z with highest := seq })

/-- OBJECT_READ (04 R105). -/
def execObjectRead (head : Nat) (form : Bool) (sess seq : Nat) (tag : TagField) (idx mem : Nat) (s : State) : Res :=
  .next (mailboxed head (.objectRead head form sess seq tag idx mem)
    (State.mailboxAccess head opObjectRead form sess seq tag fun req holder who s =>
      let r := s.readObject req holder idx mem
      r.2.respondTo who r.1.1 r.1.2.1 r.1.2.2) s)

/-- OBJECT_WRITE (04 R105). -/
def execObjectWrite (head : Nat) (form : Bool) (sess seq : Nat) (tag : TagField) (idx mem : Nat) (value : List Byte) (s : State) : Res :=
  .next (mailboxed head (.objectWrite head form sess seq tag idx mem value)
    (State.mailboxAccess head opObjectWrite form sess seq tag fun req holder who s =>
      finishWrite who idx mem value (s.writeObject req holder idx mem value)) s)

/-- MAILBOX_OPEN_REQUEST (12 R299): on session 0. -/
def execMailboxOpenRequest (head : Nat) (role : Role) (nonce : Nat) (s : State) : Res :=
  .next (mailboxed head (.mailboxOpenRequest head role nonce) (fun s =>
    let a := s.mailboxOpenOp head role nonce
    a.2.2.mbAccess head opObjectWrite a.1 0 []) s)

/-- MAILBOX_OPEN_REPLY (12 R299): on session 0; status 0x02 without a reply. -/
def execMailboxOpenReply (head : Nat) (s : State) : Res :=
  .next (mailboxed head (.mailboxOpenReply head) (fun s =>
    match s.mailboxReplyOp head with
    | (some v, s) => s.mbAccess head opObjectRead 0x00 0 v
    | (none, s) => s.mbAccess head opObjectRead 0x02 0 []) s)

/-- MAILBOX_REPLY_EXPIRY (12 R299): the reply is discarded, and with it the session it would have opened. -/
def execMailboxReplyExpiry (head : Nat) (s : State) : Res := .next (s.dropReply head)

end Sys2Proof.Machine
end

