-- ==== Sys2Proof/Machine/Ready.lean ====
section
/-! DEFINITION. Management ready: what the firmware resumes when it takes over (18 R412 step 5, R424–R426, 17 R400, R404, R405). -/

namespace Sys2Proof.Machine

/-- The state that a step leaves. -/
def Res.stateOr (s : State) (r : Res) : State :=
  match r with
  | .next t => t
  | .fault _ => s
  | .refused _ => s

/-- A mailbox command whose doorbell was set while Cox was absent is run (R424). -/
def runMailbox (c : Instr) (s : State) : State :=
  match c with
  | .setShutdownState h v => (execSetShutdownState h v s).stateOr s
  | .getShutdownState h => (execGetShutdownState h s).stateOr s
  | .getPoisonList h => (execGetPoisonList h s).stateOr s
  | .sanitize h => (execSanitize h s).stateOr s
  | .secureErase h => (execSecureErase h s).stateOr s
  | .addDynamicCapacityResponse h e a => (execAddDynamicCapacityResponse h e a s).stateOr s
  | .releaseDynamicCapacity h e => (execReleaseDynamicCapacity h e s).stateOr s
  | .getDynamicCapacityExtentList h => (execGetDynamicCapacityExtentList h s).stateOr s
  | .objectRead h f a q t i m => (execObjectRead h f a q t i m s).stateOr s
  | .objectWrite h f a q t i m v => (execObjectWrite h f a q t i m v s).stateOr s
  | .setExtentHint h f a n x => (execSetExtentHint h f a n x s).stateOr s
  | .getExtentState h f a n => (execGetExtentState h f a n s).stateOr s
  | .unsupportedOpcode h o => (execUnsupportedOpcode h o s).stateOr s
  | .getHealthInfo h => (execGetHealthInfo h s).stateOr s
  | .mailboxOpenRequest h r n => (execMailboxOpenRequest h r n s).stateOr s
  | .mailboxOpenReply h => (execMailboxOpenReply h s).stateOr s
  | _ => s

/-- A head's waiting mailbox command runs, its doorbell clears. -/
def State.runDoorbell (h : Nat) (s : State) : State :=
  match (s.head h).doorbell with
  | some c => runMailbox c (s.modHead h fun d => { d with doorbell := none })
  | none => s

/-- The orphan period ends, and is recorded (17 R405, 18 R425). -/
def State.orphanEnd (s : State) : State :=
  if s.cox.orphan = 0 then s
  else
    let since := s.cox.orphan - 1
    (s.modCox fun c =>
      { c with
        orphan := 0, orphanLimit := false
        lastOrphan := [s.tim.opTime - since, since, s.log.notStaged - c.orphanLostAt, bit c.orphanLimit] }).storeWrite 93

/-- The firmware has taken over: the times of its return. -/
def State.coxReturns (s : State) : State :=
  let watchdog := s.cox.byWatchdog && !s.cox.byActivate
  s.modCox fun c =>
    { c with
      state := 2, readyAt := s.tim.opTime, iScratch := true, dScratch := true, iCache := cacheConvert c.iCache, dCache := cacheConvert c.dCache
      watchdogMs := s.cfg 0x6200 1
      byWatchdog := false, byActivate := false
      lastReset := if watchdog then modNth c.lastReset 3 fun _ => s.tim.opTime - c.resetAt else c.lastReset }

/-- Offer timeouts go on with the time that remained (R424). -/
def State.resumeTimeouts (s : State) : State :=
  s.modExt fun x => { x with pairs := Tab.remap {} (fun _ p =>
    if p.paused = 0 then p else { p with since := s.tim.opTime - p.paused, paused := 0 }) x.pairs }

/-- Operations that ended while Cox was absent are written to their slots (R424). -/
def State.settleEnded (s : State) : State :=
  let l := s.obj.ended
  forEach l (fun x => State.ticketDone x.1 x.2.1 x.2.2) (s.modObj fun o => { o with ended := [] })

/-- An activation ends with the image that runs (17 R400). -/
def State.settleActivation (s : State) : State :=
  match s.img.activateSlot with
  | some n => (s.modImg fun x => { x with activateSlot := none }).ticketDone n (if s.img.trial.isSome then 0x00 else 0x07) []
  | none => s

/-- The clear of area F goes on with its next sector (17 R404). -/
def State.resumeClear (s : State) : State :=
  match s.log.clearing with
  | some (_, left) =>
    let o := FlashOp.erase (areaFSector + 256 - left)
    if s.fls.running = some o ∨ s.fls.queue.contains o ∨ s.fls.suspended = some (areaFSector + 256 - left) then s else s.flashAsk o
  | none => s

/-- A way to the managers: the T1S path, or the mailbox of a port whose port domain, CD0 and CD1 are powered (01 R35). -/
def State.managed (s : State) : Bool := s.t1sUp || (s.domainOn 0 && s.domainOn 1 && (List.range 4).any fun p => s.domainOn (12 + p))

/-- MANAGEMENT_READY (18 R412, R424–R426): Cox, the keel SRAM initialised, and a way to the managers (01 R34, R35). -/
def execManagementReady (s : State) : Res :=
  if s.keelOn ∧ s.cox.state = 1 ∧ ¬ s.str.keelFailed ∧ (s.sram 16).ready ∧ s.managed ∧ ¬ s.pwr.modrstLow then
    let cause := if s.cox.byWatchdog then 3 else s.cox.startCause
    let lastDurable := s.log.lastDurable
    let s := s.coxReturns.orphanEnd
    let s := if s.str.phase = .keelBoot then (s.modStr fun x => { x with phase := .standby }).startTime 0 else s
    let s := s.record (.start cause lastDurable s.firmware)
    let s := s.resumeTimeouts.settleEnded.settleActivation.resumeClear
    let s := (if s.t1sUp then s.plcaStart.sendAddressProbe else s).sendAdvertise.probeWaiting.healthSync
    let s := forEach allHeads State.runDoorbell s
    .next (if s.pwr.state = .standby then s.startSync else s.mapStep)
  else .next s

end Sys2Proof.Machine
end

