-- ==== Sys2Proof/Machine/Dispatch.lean ====
section
/-! DEFINITION. One arm per command: its meaning, or its refusal by name. -/

namespace Sys2Proof.Machine

/-- The effect of a command on everything but the queue. -/
def exec (i : Instr) (s : State) : Host.Outcome State Fault Refusal :=
  match i with
  | .memrd head dpa queued latency copies => Sys2Proof.Machine.execMemrd head dpa queued latency copies s
  | .readLineArrival rid src errors sensed sq => Sys2Proof.Machine.execReadLineArrival rid src errors sensed sq s
  | .lineOrderPointMerge rid latency => Sys2Proof.Machine.execLineOrderPointMerge rid latency s
  | .lookupResponseHoldExpiry rid => Sys2Proof.Machine.execLookupResponseHoldExpiry rid s
  | .memwr head dpa data poison => Sys2Proof.Machine.execMemwr head dpa data poison s
  | .memwrptl head dpa be data poison => Sys2Proof.Machine.execMemwrptl head dpa be data poison s
  | .mirrorWriteAck key latency => Sys2Proof.Machine.execMirrorWriteAck key latency s
  | .gpfPhase1 head => Sys2Proof.Machine.execGpfPhase1 head s
  | .gpfPhase2 head => Sys2Proof.Machine.execGpfPhase2 head s
  | .setShutdownState head value => Sys2Proof.Machine.execSetShutdownState head value s
  | .getShutdownState head => Sys2Proof.Machine.execGetShutdownState head s
  | .getPoisonList head => Sys2Proof.Machine.execGetPoisonList head s
  | .sanitize head => Sys2Proof.Machine.execSanitize head s
  | .secureErase head => Sys2Proof.Machine.execSecureErase head s
  | .addDynamicCapacityResponse head ext accept => Sys2Proof.Machine.execAddDynamicCapacityResponse head ext accept s
  | .releaseDynamicCapacity head ext => Sys2Proof.Machine.execReleaseDynamicCapacity head ext s
  | .getDynamicCapacityExtentList head => Sys2Proof.Machine.execGetDynamicCapacityExtentList head s
  | .objectRead head form sess seq tag idx mem => Sys2Proof.Machine.execObjectRead head form sess seq tag idx mem s
  | .objectWrite head form sess seq tag idx mem value => Sys2Proof.Machine.execObjectWrite head form sess seq tag idx mem value s
  | .setExtentHint head form first count hint => Sys2Proof.Machine.execSetExtentHint head form first count hint s
  | .getExtentState head form first count => Sys2Proof.Machine.execGetExtentState head form first count s
  | .unsupportedOpcode head opcode => Sys2Proof.Machine.execUnsupportedOpcode head opcode s
  | .getHealthInfo head => Sys2Proof.Machine.execGetHealthInfo head s
  | .mailboxOpenRequest head role nonce => Sys2Proof.Machine.execMailboxOpenRequest head role nonce s
  | .mailboxOpenReply head => Sys2Proof.Machine.execMailboxOpenReply head s
  | .memEnableWrite head value cfg => Sys2Proof.Machine.execMemEnableWrite head value cfg s
  | .viralReceived head => Sys2Proof.Machine.execViralReceived head s
  | .ideCheckFailure head => Sys2Proof.Machine.execIdeCheckFailure head s
  | .ideKmRequest head ask => Sys2Proof.Machine.execIdeKmRequest head ask s
  | .functionLevelReset head => Sys2Proof.Machine.execFunctionLevelReset head s
  | .perstAssert port link => Sys2Proof.Machine.execPerstAssert port link s
  | .perstRelease port link => Sys2Proof.Machine.execPerstRelease port link s
  | .linkUp head width flit => Sys2Proof.Machine.execLinkUp head width flit s
  | .speedChangeRequest head asked reached => Sys2Proof.Machine.execSpeedChangeRequest head asked reached s
  | .equalisationComplete head speed => Sys2Proof.Machine.execEqualisationComplete head speed s
  | .linkRecoveryEntry head => Sys2Proof.Machine.execLinkRecoveryEntry head s
  | .linkDown head => Sys2Proof.Machine.execLinkDown head s
  | .cableRemoved port => Sys2Proof.Machine.execCableRemoved port s
  | .cableMated port => Sys2Proof.Machine.execCableMated port s
  | .bifurcationRequest port mode => Sys2Proof.Machine.execBifurcationRequest port mode s
  | .eqEnable head base mirror coal size mask => Sys2Proof.Machine.execEqEnable head base mirror coal size mask s
  | .eqDisable head => Sys2Proof.Machine.execEqDisable head s
  | .eqCiWrite head ci => Sys2Proof.Machine.execEqCiWrite head ci s
  | .eqStatusClear head overflow ciErr => Sys2Proof.Machine.execEqStatusClear head overflow ciErr s
  | .eqCoalesceIntervalEnd head => Sys2Proof.Machine.execEqCoalesceIntervalEnd head s
  | .headStall head => Sys2Proof.Machine.execHeadStall head s
  | .headReset head => Sys2Proof.Machine.execHeadReset head s
  | .headResetHoldEnd head => Sys2Proof.Machine.execHeadResetHoldEnd head s
  | .inFlightCapWrite head cap => Sys2Proof.Machine.execInFlightCapWrite head cap s
  | .extentOffer req first count mask region => Sys2Proof.Machine.execExtentOffer req first count mask region s
  | .regionChangeComplete ext => Sys2Proof.Machine.execRegionChangeComplete ext s
  | .extentRelease req first count mask => Sys2Proof.Machine.execExtentRelease req first count mask s
  | .extentReleaseForced req first count mask => Sys2Proof.Machine.execExtentReleaseForced req first count mask s
  | .offerTimeout head ext => Sys2Proof.Machine.execOfferTimeout head ext s
  | .extentDrainComplete head ext => Sys2Proof.Machine.execExtentDrainComplete head ext s
  | .regionCreate region mask => Sys2Proof.Machine.execRegionCreate region mask s
  | .regionMaskChange region mask => Sys2Proof.Machine.execRegionMaskChange region mask s
  | .regionDelete region => Sys2Proof.Machine.execRegionDelete region s
  | .configCommit domain => Sys2Proof.Machine.execConfigCommit domain s
  | .keelBridgeAccess domain addr write => Sys2Proof.Machine.execKeelBridgeAccess domain addr write s
  | .keelBridgeTimeout domain addr => Sys2Proof.Machine.execKeelBridgeTimeout domain addr s
  | .faultMessageTaken => Sys2Proof.Machine.execFaultMessageTaken s
  | .fatalLineAssert msg => Sys2Proof.Machine.execFatalLineAssert msg s
  | .clockLost clock => Sys2Proof.Machine.execClockLost clock s
  | .stickyBitPersist src => Sys2Proof.Machine.execStickyBitPersist src s
  | .stickyBitClear member ones => Sys2Proof.Machine.execStickyBitClear member ones s
  | .quietTimerExpiry src => Sys2Proof.Machine.execQuietTimerExpiry src s
  | .probeComplete src find => Sys2Proof.Machine.execProbeComplete src find s
  | .probeTimeout src => Sys2Proof.Machine.execProbeTimeout src s
  | .operatorFence req src => Sys2Proof.Machine.execOperatorFence req src s
  | .operatorReadmit req src => Sys2Proof.Machine.execOperatorReadmit req src s
  | .latchRelease req src => Sys2Proof.Machine.execLatchRelease req src s
  | .engineTimeout src tract => Sys2Proof.Machine.execEngineTimeout src tract s
  | .easyAllEnterCommand req => Sys2Proof.Machine.execEasyAllEnterCommand req s
  | .easyAllLeaveCommand req => Sys2Proof.Machine.execEasyAllLeaveCommand req s
  | .t4ClearTimer => Sys2Proof.Machine.execT4ClearTimer s
  | .stagingParityRecomputeDone part => Sys2Proof.Machine.execStagingParityRecomputeDone part s
  | .wearBandReloadDone part => Sys2Proof.Machine.execWearBandReloadDone part s
  | .stagingPartRestoreDone part => Sys2Proof.Machine.execStagingPartRestoreDone part s
  | .sramInitDone which checkerOk => Sys2Proof.Machine.execSramInitDone which checkerOk s
  | .sramPatrol which word holds found => Sys2Proof.Machine.execSramPatrol which word holds found s
  | .sense ch die granule line slot sq => Sys2Proof.Machine.execSense ch die granule line slot sq s
  | .abort ch die plane => Sys2Proof.Machine.execAbort ch die plane s
  | .esense ch die granule line sq => Sys2Proof.Machine.execEsense ch die granule line sq s
  | .hsense ch die granule => Sys2Proof.Machine.execHsense ch die granule s
  | .load ch die plane image => Sys2Proof.Machine.execLoad ch die plane image s
  | .prog ch die granule => Sys2Proof.Machine.execProg ch die granule s
  | .clrseg ch die sector segment => Sys2Proof.Machine.execClrseg ch die sector segment s
  | .status ch die => Sys2Proof.Machine.execStatus ch die s
  | .trim ch die reg => Sys2Proof.Machine.execTrim ch die reg s
  | .check ch die plane => Sys2Proof.Machine.execCheck ch die plane s
  | .abortReport ch die plane complete resetBegun => Sys2Proof.Machine.execAbortReport ch die plane complete resetBegun s
  | .planeOperationEnd ch die plane result => Sys2Proof.Machine.execPlaneOperationEnd ch die plane result s
  | .senseTimeout sense => Sys2Proof.Machine.execSenseTimeout sense s
  | .abortTimeout ch die plane => Sys2Proof.Machine.execAbortTimeout ch die plane s
  | .programStatusTimeout ch die plane => Sys2Proof.Machine.execProgramStatusTimeout ch die plane s
  | .commandParityError ch die rid => Sys2Proof.Machine.execCommandParityError ch die rid s
  | .channelTimingError ch thousandths => Sys2Proof.Machine.execChannelTimingError ch thousandths s
  | .channelTrainingDone ch => Sys2Proof.Machine.execChannelTrainingDone ch s
  | .channelTrainingTimeout ch => Sys2Proof.Machine.execChannelTrainingTimeout ch s
  | .coalescingDelayExpiry key => Sys2Proof.Machine.execCoalescingDelayExpiry key s
  | .drainUnitSelect pair tract row findings tree => Sys2Proof.Machine.execDrainUnitSelect pair tract row findings tree s
  | .drainProgramsStart unit => Sys2Proof.Machine.execDrainProgramsStart unit s
  | .drainUnitComplete unit => Sys2Proof.Machine.execDrainUnitComplete unit s
  | .starvationThreshold unit => Sys2Proof.Machine.execStarvationThreshold unit s
  | .nodeHoldExpiry key => Sys2Proof.Machine.execNodeHoldExpiry key s
  | .ledgerDelta => Sys2Proof.Machine.execLedgerDelta s
  | .ledgerFullSet => Sys2Proof.Machine.execLedgerFullSet s
  | .ledgerRecordDurable seq => Sys2Proof.Machine.execLedgerRecordDurable seq s
  | .inputDip => Sys2Proof.Machine.execInputDip s
  | .sealRecordDurable seq => Sys2Proof.Machine.execSealRecordDurable seq s
  | .inputDipRecovered => Sys2Proof.Machine.execInputDipRecovered s
  | .flushComplete => Sys2Proof.Machine.execFlushComplete s
  | .keelTurnOn => Sys2Proof.Machine.execKeelTurnOn s
  | .inputLoss => Sys2Proof.Machine.execInputLoss s
  | .overvoltage => Sys2Proof.Machine.execOvervoltage s
  | .overvoltageClear => Sys2Proof.Machine.execOvervoltageClear s
  | .keelTurnOff => Sys2Proof.Machine.execKeelTurnOff s
  | .breakerTrip => Sys2Proof.Machine.execBreakerTrip s
  | .breakerLatchRelease => Sys2Proof.Machine.execBreakerLatchRelease s
  | .bladePairImbalance pairA pairB => Sys2Proof.Machine.execBladePairImbalance pairA pairB s
  | .inputGoodAgain => Sys2Proof.Machine.execInputGoodAgain s
  | .inputGoodResetTimer ga => Sys2Proof.Machine.execInputGoodResetTimer ga s
  | .bankBelow40v => Sys2Proof.Machine.execBankBelow40v s
  | .bankBelow41v => Sys2Proof.Machine.execBankBelow41v s
  | .corePowerOffRequest => Sys2Proof.Machine.execCorePowerOffRequest s
  | .corePowerOnRequest => Sys2Proof.Machine.execCorePowerOnRequest s
  | .gaSample pins => Sys2Proof.Machine.execGaSample pins s
  | .modrstAssert lowUs ga => Sys2Proof.Machine.execModrstAssert lowUs ga s
  | .modrstRelease ga => Sys2Proof.Machine.execModrstRelease ga s
  | .moduleReset req value ga => Sys2Proof.Machine.execModuleReset req value ga s
  | .haltNLow outside lowNs => Sys2Proof.Machine.execHaltNLow outside lowNs s
  | .haltNSwitchWrite value => Sys2Proof.Machine.execHaltNSwitchWrite value s
  | .extestLoad instr => Sys2Proof.Machine.execExtestLoad instr s
  | .keelRailsQualified ga timeTorn cycleTorn => Sys2Proof.Machine.execKeelRailsQualified ga timeTorn cycleTorn s
  | .keelRailRetry => Sys2Proof.Machine.execKeelRailRetry s
  | .domainQualified domain drops => Sys2Proof.Machine.execDomainQualified domain drops s
  | .powerGoodDrop domain lowNs => Sys2Proof.Machine.execPowerGoodDrop domain lowNs s
  | .stepTimeout => Sys2Proof.Machine.execStepTimeout s
  | .railFailure domain overcurrent => Sys2Proof.Machine.execRailFailure domain overcurrent s
  | .powerDownStep ga => Sys2Proof.Machine.execPowerDownStep ga s
  | .railFailToFall domain overcurrent => Sys2Proof.Machine.execRailFailToFall domain overcurrent s
  | .seatPingTimer => Sys2Proof.Machine.execSeatPingTimer s
  | .domainStatusPoll => Sys2Proof.Machine.execDomainStatusPoll s
  | .seatBusFailure seat crc => Sys2Proof.Machine.execSeatBusFailure seat crc s
  | .seatBusStuck seat => Sys2Proof.Machine.execSeatBusStuck seat s
  | .ping seat => Sys2Proof.Machine.execPing seat s
  | .domainOn seat domain => Sys2Proof.Machine.execDomainOn seat domain s
  | .domainOff seat domain => Sys2Proof.Machine.execDomainOff seat domain s
  | .domainStatus seat domain => Sys2Proof.Machine.execDomainStatus seat domain s
  | .readV seat domain => Sys2Proof.Machine.execReadV seat domain s
  | .readI seat domain => Sys2Proof.Machine.execReadI seat domain s
  | .margin seat domain percent => Sys2Proof.Machine.execMargin seat domain percent s
  | .charger seat on => Sys2Proof.Machine.execCharger seat on s
  | .capMeasure seat => Sys2Proof.Machine.execCapMeasure seat s
  | .capResult seat => Sys2Proof.Machine.execCapResult seat s
  | .haltRelease seat => Sys2Proof.Machine.execHaltRelease seat s
  | .faultRead seat => Sys2Proof.Machine.execFaultRead seat s
  | .seatSelfShutdown seat => Sys2Proof.Machine.execSeatSelfShutdown seat s
  | .latchClear req => Sys2Proof.Machine.execLatchClear req s
  | .marginingEnable value => Sys2Proof.Machine.execMarginingEnable value s
  | .marginRequest domain percent => Sys2Proof.Machine.execMarginRequest domain percent s
  | .bankReady mv => Sys2Proof.Machine.execBankReady mv s
  | .bankReadyTimeout => Sys2Proof.Machine.execBankReadyTimeout s
  | .bankLowVoltage mv => Sys2Proof.Machine.execBankLowVoltage mv s
  | .boostFault => Sys2Proof.Machine.execBoostFault s
  | .capacitanceMeasurementDue => Sys2Proof.Machine.execCapacitanceMeasurementDue s
  | .measureNow req => Sys2Proof.Machine.execMeasureNow req s
  | .measurementComplete timeUs stepMv => Sys2Proof.Machine.execMeasurementComplete timeUs stepMv s
  | .thermalConversion input reading openOrShort => Sys2Proof.Machine.execThermalConversion input reading openOrShort s
  | .levelFall input => Sys2Proof.Machine.execLevelFall input s
  | .limitsWrite kind t1 t2 t3 t4 hyst => Sys2Proof.Machine.execLimitsWrite kind t1 t2 t3 t4 hyst s
  | .healthRecompute => Sys2Proof.Machine.execHealthRecompute s
  | .migrationStart tract => Sys2Proof.Machine.execMigrationStart tract s
  | .migrationRowCopy tract findings => Sys2Proof.Machine.execMigrationRowCopy tract findings s
  | .sealVerified tract => Sys2Proof.Machine.execSealVerified tract s
  | .sourceReadsDrained tract => Sys2Proof.Machine.execSourceReadsDrained tract s
  | .sourceClearComplete tract => Sys2Proof.Machine.execSourceClearComplete tract s
  | .checkpointVerified tract => Sys2Proof.Machine.execCheckpointVerified tract s
  | .wearEpoch => Sys2Proof.Machine.execWearEpoch s
  | .wearCheckpointWriteback => Sys2Proof.Machine.execWearCheckpointWriteback s
  | .heatPeriod => Sys2Proof.Machine.execHeatPeriod s
  | .refreshVisit pt findings => Sys2Proof.Machine.execRefreshVisit pt findings s
  | .rekeyRequest req region => Sys2Proof.Machine.execRekeyRequest req region s
  | .rekeySpan region span findings tree => Sys2Proof.Machine.execRekeySpan region span findings tree s
  | .reEstablishment tract => Sys2Proof.Machine.execReEstablishment tract s
  | .debugWindowOpen ww dpa len life => Sys2Proof.Machine.execDebugWindowOpen ww dpa len life s
  | .debugWindowClose ww => Sys2Proof.Machine.execDebugWindowClose ww s
  | .debugWindowExpiry ww => Sys2Proof.Machine.execDebugWindowExpiry ww s
  | .debugRead dpa sensed => Sys2Proof.Machine.execDebugRead dpa sensed s
  | .rootDecisionAdopt req => Sys2Proof.Machine.execRootDecisionAdopt req s
  | .rootDecisionReject req => Sys2Proof.Machine.execRootDecisionReject req s
  | .scrubRewrite granule => Sys2Proof.Machine.execScrubRewrite granule s
  | .rebuildStep group findings => Sys2Proof.Machine.execRebuildStep group findings s
  | .scrubDpaPass req mode first len => Sys2Proof.Machine.execScrubDpaPass req mode first len s
  | .scrubPhysicalPass req mode first len => Sys2Proof.Machine.execScrubPhysicalPass req mode first len s
  | .scrubRow ticket findings => Sys2Proof.Machine.execScrubRow ticket findings s
  | .scrubCancel ticket => Sys2Proof.Machine.execScrubCancel ticket s
  | .patrolRow pt row findings => Sys2Proof.Machine.execPatrolRow pt row findings s
  | .fullScanComplete torn durationMs => Sys2Proof.Machine.execFullScanComplete torn durationMs s
  | .dataReady => Sys2Proof.Machine.execDataReady s
  | .suspectRelease req first count => Sys2Proof.Machine.execSuspectRelease req first count s
  | .suspectDiscard req first count => Sys2Proof.Machine.execSuspectDiscard req first count s
  | .suspectListRead holder => Sys2Proof.Machine.execSuspectListRead holder s
  | .coxResetRelease watchdog find => Sys2Proof.Machine.execCoxResetRelease watchdog find s
  | .managementReady => Sys2Proof.Machine.execManagementReady s
  | .watchdogExpiry => Sys2Proof.Machine.execWatchdogExpiry s
  | .orphanLimit => Sys2Proof.Machine.execOrphanLimit s
  | .flashProgramDone ok => Sys2Proof.Machine.execFlashProgramDone ok s
  | .flashEraseDone ok => Sys2Proof.Machine.execFlashEraseDone ok s
  | .flashSuspend => Sys2Proof.Machine.execFlashSuspend s
  | .flashResume => Sys2Proof.Machine.execFlashResume s
  | .journalCompaction => Sys2Proof.Machine.execJournalCompaction s
  | .optionsWrite req rollbackMin bpReset wdtBoot dbgLock t1sOff => Sys2Proof.Machine.execOptionsWrite req rollbackMin bpReset wdtBoot dbgLock t1sOff s
  | .updateBegin req len => Sys2Proof.Machine.execUpdateBegin req len s
  | .imageData offset data => Sys2Proof.Machine.execImageData offset data s
  | .imageSegment offset data => Sys2Proof.Machine.execImageSegment offset data s
  | .updateCommit req digestOk signatureOk => Sys2Proof.Machine.execUpdateCommit req digestOk signatureOk s
  | .activate req => Sys2Proof.Machine.execActivate req s
  | .trialConfirm => Sys2Proof.Machine.execTrialConfirm s
  | .pageWriteDone verified => Sys2Proof.Machine.execPageWriteDone verified s
  | .operatingTimeCellWrite => Sys2Proof.Machine.execOperatingTimeCellWrite s
  | .blockProtectionWrite value => Sys2Proof.Machine.execBlockProtectionWrite value s
  | .configObjectWrite req idx mem value => Sys2Proof.Machine.execConfigObjectWrite req idx mem value s
  | .persistWriteDeferredDone slot => Sys2Proof.Machine.execPersistWriteDeferredDone slot s
  | .noOperation req => Sys2Proof.Machine.execNoOperation req s
  | .restoreDefaults req => Sys2Proof.Machine.execRestoreDefaults req s
  | .sanitizeExtents req first count => Sys2Proof.Machine.execSanitizeExtents req first count s
  | .logbookWriteOut n => Sys2Proof.Machine.execLogbookWriteOut n s
  | .stagingLoss => Sys2Proof.Machine.execStagingLoss s
  | .windowRead holder => Sys2Proof.Machine.execWindowRead holder s
  | .areaFClear req => Sys2Proof.Machine.execAreaFClear req s
  | .snapshotDefinitionWrite defn trigger param objs => Sys2Proof.Machine.execSnapshotDefinitionWrite defn trigger param objs s
  | .snapshotNow defn => Sys2Proof.Machine.execSnapshotNow defn s
  | .snapshotPeriodic defn => Sys2Proof.Machine.execSnapshotPeriodic defn s
  | .tallySample => Sys2Proof.Machine.execTallySample s
  | .bandwidthWindowEnd => Sys2Proof.Machine.execBandwidthWindowEnd s
  | .solicit dst filter first last => Sys2Proof.Machine.execSolicit dst filter first last s
  | .advertiseAnswerTimer => Sys2Proof.Machine.execAdvertiseAnswerTimer s
  | .advertisePeriod => Sys2Proof.Machine.execAdvertisePeriod s
  | .advertise serial pool valid => Sys2Proof.Machine.execAdvertise serial pool valid s
  | .openSession dst role seq manager nonce tagOk => Sys2Proof.Machine.execOpenSession dst role seq manager nonce tagOk s
  | .close dst sess seq => Sys2Proof.Machine.execClose dst sess seq s
  | .read dst sess seq tagOk idx mem => Sys2Proof.Machine.execRead dst sess seq tagOk idx mem s
  | .write dst sess seq tagOk idx mem value => Sys2Proof.Machine.execWrite dst sess seq tagOk idx mem value s
  | .readMulti dst sess seq tagOk items => Sys2Proof.Machine.execReadMulti dst sess seq tagOk items s
  | .bulkStart dst sess seq tagOk idx mem fromModule total => Sys2Proof.Machine.execBulkStart dst sess seq tagOk idx mem fromModule total s
  | .bulkData dst sess bulk offset data => Sys2Proof.Machine.execBulkData dst sess bulk offset data s
  | .bulkAck dst sess bulk next => Sys2Proof.Machine.execBulkAck dst sess bulk next s
  | .bulkOutOfOrderAck bulk => Sys2Proof.Machine.execBulkOutOfOrderAck bulk s
  | .bulkTimeout bulk => Sys2Proof.Machine.execBulkTimeout bulk s
  | .subscribe dst sess seq tagOk slot kind minMs idx mem mask => Sys2Proof.Machine.execSubscribe dst sess seq tagOk slot kind minMs idx mem mask s
  | .subscriptionIntervalEnd sess slot => Sys2Proof.Machine.execSubscriptionIntervalEnd sess slot s
  | .keepalive dst sess seq tagOk => Sys2Proof.Machine.execKeepalive dst sess seq tagOk s
  | .strangerFrame drop => Sys2Proof.Machine.execStrangerFrame drop s
  | .icmpv6Echo => Sys2Proof.Machine.execIcmpv6Echo s
  | .neighborDiscovery => Sys2Proof.Machine.execNeighborDiscovery s
  | .sessionOpenTimeout sess => Sys2Proof.Machine.execSessionOpenTimeout sess s
  | .sessionIdleTimeout sess => Sys2Proof.Machine.execSessionIdleTimeout sess s
  | .closeSession sess => Sys2Proof.Machine.execCloseSession sess s
  | .roleKeyWrite sess role unwrapOk => Sys2Proof.Machine.execRoleKeyWrite sess role unwrapOk s
  | .tagFailureSecond => Sys2Proof.Machine.execTagFailureSecond s
  | .poolAddressWrite pool => Sys2Proof.Machine.execPoolAddressWrite pool s
  | .plcaModeWrite mode => Sys2Proof.Machine.execPlcaModeWrite mode s
  | .plcaBeaconLoss => Sys2Proof.Machine.execPlcaBeaconLoss s
  | .plcaBeacon => Sys2Proof.Machine.execPlcaBeacon s
  | .t1sPathFailure selfCheck => Sys2Proof.Machine.execT1sPathFailure selfCheck s
  | .mailboxReplyExpiry head => Sys2Proof.Machine.execMailboxReplyExpiry head s
  | .bankCharged => Sys2Proof.Machine.execBankCharged s
  | .haltNHigh => Sys2Proof.Machine.execHaltNHigh s
  | .rootRebuildComplete digestEqual recordReads lostHalves => Sys2Proof.Machine.execRootRebuildComplete digestEqual recordReads lostHalves s
  | .eraseMinimumRunEnd => Sys2Proof.Machine.execEraseMinimumRunEnd s

end Sys2Proof.Machine
end

