-- ==== Sys2Proof/Machine/Tick.lean ====
section
/-! DEFINITION. A millisecond of operating time, which passes when no command waits (notes/assumptions/1.md): what runs with time alone.
Everything that the table lists as an event of its own (a timer's end, a conversion, a sample) comes as that command. -/

namespace Sys2Proof.Machine

/-- Core periods of 0.625 ns in a millisecond (01 R24's table of clocks). -/
def periodsPerMs : Nat := 1600000

/-- The periods for which a condition held. -/
def heldFor (c : Bool) : Nat := if c then periodsPerMs else 0

/-- A port's periods with credits withheld, for its total too (03 R71, 14 R338). -/
def PortS.millisecond (full : Bool) (x : PortS) : PortS :=
  { x with periods := [nth x.periods 0 + heldFor (x.rwdWithheld || full), nth x.periods 1 + heldFor (x.reqWithheld || full)] }

/-- Core counters of the millisecond: credits withheld on each port, each pair at or above its high-water mark. -/
def State.corePeriods (s : State) : State :=
  if !s.coreOn then s else
  let s := forEach [0, 1, 2, 3] (fun p => State.modPort p (PortS.millisecond (decide (4096 ≤ s.portInflight (2 * p))))) s
  let full := fun (n : Nat) => decide (s.cfg 0x3180 0 ≤ s.occupied n)
  s.modWb fun w => { w with counts := (List.range 8).foldl (fun l n => modNth l (n * 8 + 7) (· + heldFor (full n))) w.counts }

/-- The most that the module draws at J1, in mW, within 36–75 V (02 R60); none where R60 gives no figure: while the input has come back in
Hold-up flush. -/
def State.drawLimit (s : State) : Option Nat :=
  match s.pwr.state with
  | .off => some 0
  | .standby => some 12000
  | .coreStart => some 360000
  | .dataService => some 360000
  | .easyAll => some (if s.wb.flushing then 360000 else 130000)
  | .easyAllMediaOff => some 70000
  | .holdUpFlush => if s.pwr.switchClosed then none else some 0

/-- The input stage's sample: a voltage and two currents that are free values, the currents within what R60 lets the module draw (02
0x5080.00, .05; notes/assumptions/4.md). -/
def State.sampleInput (s : State) : State :=
  let a := s.draw
  let b := a.2.draw
  let c := b.2.draw
  let mv := Config.freeNat a.1 % 2 ^ 32
  let total := match s.drawLimit with
    | some mw => if mw = 0 then 0 else if 36000 ≤ mv ∧ mv ≤ 75000 then Config.freeNat b.1 % (mw * 1000 / mv + 1) else Config.freeNat b.1 % 2 ^ 32
    | none => Config.freeNat b.1 % 2 ^ 32
  let pa := Config.freeNat c.1 % (total + 1)
  let pb := total - pa
  c.2.modPwr fun p => { p with inputMv := mv, pairA := pa, pairB := pb, peakMw := max p.peakMw (mv * (pa + pb) / 1000 % 2 ^ 32) }

/-- A millisecond: operating time, time at the thermal level, the input stage's sample, the counters of core periods; a core start that only
waited for its input begins (02 R61). Nothing passes while the keel island is off. -/
def tick (s : State) : State :=
  if !s.keelOn then s else
  let s := s.modTim fun t => { t with opTime := t.opTime + 1 }
  let s := s.modThm fun t => { t with timeAt := modNth t.timeAt t.level (· + 1) }
  s.sampleInput.corePeriods.startSync

end Sys2Proof.Machine
end

