-- ==== Sys2Proof/Safety.lean ====
section
/-! DEFINITION. What claims say about a step: the fields of state it may change, and that it changes nothing else. -/

namespace Sys2Proof.Machine

/-- The fields of State: one for each register, counter, table, buffer and mode that its groups hold. -/
inductive Field where
  | timOpTime | timCycles | timCellDue | timCellWrites | timTimeCells | timCycleCells | timCycleWrites
  | objVals | objShadow | objLabel | objSlots | objTicketNext | objTicketRes | objBusyRefusals | objSelectors
  | objDeferred | objWaiting | objEnded | objCustodianSet | objRestoring
  | pwrState | pwrInputMv | pwrPairA | pwrPairB | pwrPeakMw | pwrSwitchClosed | pwrKeelPath | pwrBreaker
  | pwrInputGood | pwrOvervoltage | pwrInputLow | pwrDip | pwrShortDips | pwrLossCount | pwrTripCount | pwrReqOff
  | pwrSeqState | pwrStep | pwrFastDown | pwrMediaOnlyDown | pwrMediaOnlyUp | pwrPaused | pwrDomains | pwrLatch
  | pwrHaltDrivers | pwrHaltSeen | pwrHaltHold | pwrHaltOutside | pwrCounts | pwrHaltCount | pwrHaltSource | pwrHaltTime
  | pwrGaLatched | pwrGaPins | pwrGaNow | pwrGaDiffer | pwrGaMismatch | pwrModrstLow | pwrResetAsked | pwrResetOnGood
  | pwrTap | pwrLostClocks | pwrKeelFallback | pwrMarginOn
  | seatSeats | seatTransactions | seatCrcErrors | seatRetries | seatNotResponding
  | bankState | bankMv | bankBoost | bankUF | bankUFRaw | bankEsr | bankTemp | bankMeasuredAt
  | bankMeasured | bankNotReady | bankMeasuring | bankDeferred | bankCapTime | bankCapStep | bankFlushStartMv | bankFlushEndMv
  | bankFlushUs | bankKeelMs | bankFlushMark
  | thmInputs | thmLevel | thmTimeAt | thmLimits | thmCounts
  | hltState | hltIndicators | hltC0 | hltPoints | hltPeaks | hltLifeUsed | hltMediaHours | hltFitted
  | hltSlope | hltBankHours | hltEndHours | hltGoverning | hltPredictedAt
  | hstPorts | hstLinks | hstHeads
  | extPairs | extExtents | extRegions | extOffers | extJournalUsed | extJournalGen
  | rdpReads | rdpNextId | rdpOrder | rdpCounts
  | wbEnts | wbUnits | wbNextUnit | wbInProgram | wbDirty | wbDurable | wbLastListed | wbWriting
  | wbLedger | wbLedgerSeq | wbLedgerNext | wbDurableSeq | wbHighWater | wbCostHeld | wbLedgerHeld | wbDipHeld
  | wbFlushing | wbFlushFrom | wbFlushBroken | wbSinglePairs | wbStarvedCount | wbHostShutdown | wbLastDirty | wbDirtyCount
  | wbCounts
  | medGranules | medPlanes | medDies | medChannels | medClearing | medGovernor | medReserved | medWork
  | medChecks | medChecksWear | medFailures
  | trcMap | trcCkptA | trcCkptB | trcAct | trcPeak | trcPeakBase | trcPeakCkpt | trcPeakCkptB
  | trcBaseCkpt | trcActCkpt | trcActCkptB | trcDirectory | trcScans | trcCounted | trcEpoch | trcDirtyPts
  | trcMigs | trcReadsOn | trcLastRow | trcCompleted | trcAbandoned | trcRetired | trcRefreshed | trcSweep
  | trcLastScan | trcDecided | trcCounts | trcSpareRows
  | itgBlocks | itgNodes | itgRoot | itgCache | itgHigh | itgReserve | itgRootState | itgRecord
  | itgAlarms | itgTagFails | itgRecovered | itgReestablished | itgActivity | itgOverflows | itgTreeGen | itgRekeyRegion
  | itgRekeyState | itgRekeyLeft | itgRekeyExtents | itgRekeySlot | itgWindows | itgCounts
  | scrEcc | scrRewrite | scrHeaderRepairs | scrSelfTest | scrSelfTestAt | scrPatrol | scrPasses | scrRebuilds
  | scrEngines | scrParity
  | stgSrams | stgParityDue | stgBandDue | stgRestoring | stgParity
  | fltQueue | fltLost | fltOverflow | fltHighMark | fltTaken | fltClasses | fltSticky | fltStickyDue
  | fltStickyAgain | fltUnits | fltSources | fltFences | fltLastC3 | fltLastC3At | fltLastC3Cycle | fltCmdSlots
  | easyState | easyCauses | easyEntries | easyVolatileEntries | easyStopUnits | easyThenDown | easySlots
  | strPhase | strKind | strClean | strMapsLoaded | strRootDone | strPowered | strReview | strKeelFailed
  | strDataReady | strBegan | strOrigin | strTimes | strRootSlot
  | coxState | coxDead | coxIScratch | coxDScratch | coxICache | coxDCache | coxWatchdogMs | coxResets
  | coxLastReset | coxOrphan | coxOrphanLimit | coxLastOrphan | coxOrphanLostAt | coxReadyAt | coxResetAt | coxByWatchdog
  | coxByActivate | coxStartCause | coxOptions | coxOptionState
  | flsRunning | flsStartedAt | flsSuspended | flsDepth | flsRan | flsMinimumRun | flsQueue | flsFlags
  | flsCounts | flsOptionWords | flsOptionWrite | flsOptionCut
  | imgA | imgB | imgActiveB | imgTrial | imgAttempts | imgRunsB | imgSlot | imgActivateSlot
  | parBp | parQueue | parRetired | parSpares | parLost | parSeqs | parWrites
  | logStaged | logAreaC | logAreaF | logNext | logReserve | logLastDurable | logNotStaged | logLostNow
  | logLostFirst | logClearing | logDefs | logOverruns | logCounts
  | tlyNumber | tlyTime | tlySnap | tlyLatched | tlyBases | tlyWinStart | tlyRates | tlyWinSnap
  | tlyWinDiscard | tlyCounts | tlyWear
  | wopPlca | wopFrames | wopCounts | wopConflict | wopAnswerDue | wopKeys | wopKeyDraws | wopSess
  | wopTagFails | wopBulks | wopNextBulk
  | out
  | free
  | pending
  deriving DecidableEq, Repr

/-- A field is the same in two states. -/
def Field.same (f : Field) (s t : State) : Prop :=
  match f with
  | Field.timOpTime => t.tim.opTime = s.tim.opTime
  | Field.timCycles => t.tim.cycles = s.tim.cycles
  | Field.timCellDue => t.tim.cellDue = s.tim.cellDue
  | Field.timCellWrites => t.tim.cellWrites = s.tim.cellWrites
  | Field.timTimeCells => t.tim.timeCells = s.tim.timeCells
  | Field.timCycleCells => t.tim.cycleCells = s.tim.cycleCells
  | Field.timCycleWrites => t.tim.cycleWrites = s.tim.cycleWrites
  | Field.objVals => t.obj.vals = s.obj.vals
  | Field.objShadow => t.obj.shadow = s.obj.shadow
  | Field.objLabel => t.obj.label = s.obj.label
  | Field.objSlots => t.obj.slots = s.obj.slots
  | Field.objTicketNext => t.obj.ticketNext = s.obj.ticketNext
  | Field.objTicketRes => t.obj.ticketRes = s.obj.ticketRes
  | Field.objBusyRefusals => t.obj.busyRefusals = s.obj.busyRefusals
  | Field.objSelectors => t.obj.selectors = s.obj.selectors
  | Field.objDeferred => t.obj.deferred = s.obj.deferred
  | Field.objWaiting => t.obj.waiting = s.obj.waiting
  | Field.objEnded => t.obj.ended = s.obj.ended
  | Field.objCustodianSet => t.obj.custodianSet = s.obj.custodianSet
  | Field.objRestoring => t.obj.restoring = s.obj.restoring
  | Field.pwrState => t.pwr.state = s.pwr.state
  | Field.pwrInputMv => t.pwr.inputMv = s.pwr.inputMv
  | Field.pwrPairA => t.pwr.pairA = s.pwr.pairA
  | Field.pwrPairB => t.pwr.pairB = s.pwr.pairB
  | Field.pwrPeakMw => t.pwr.peakMw = s.pwr.peakMw
  | Field.pwrSwitchClosed => t.pwr.switchClosed = s.pwr.switchClosed
  | Field.pwrKeelPath => t.pwr.keelPath = s.pwr.keelPath
  | Field.pwrBreaker => t.pwr.breaker = s.pwr.breaker
  | Field.pwrInputGood => t.pwr.inputGood = s.pwr.inputGood
  | Field.pwrOvervoltage => t.pwr.overvoltage = s.pwr.overvoltage
  | Field.pwrInputLow => t.pwr.inputLow = s.pwr.inputLow
  | Field.pwrDip => t.pwr.dip = s.pwr.dip
  | Field.pwrShortDips => t.pwr.shortDips = s.pwr.shortDips
  | Field.pwrLossCount => t.pwr.lossCount = s.pwr.lossCount
  | Field.pwrTripCount => t.pwr.tripCount = s.pwr.tripCount
  | Field.pwrReqOff => t.pwr.reqOff = s.pwr.reqOff
  | Field.pwrSeqState => t.pwr.seqState = s.pwr.seqState
  | Field.pwrStep => t.pwr.step = s.pwr.step
  | Field.pwrFastDown => t.pwr.fastDown = s.pwr.fastDown
  | Field.pwrMediaOnlyDown => t.pwr.mediaOnlyDown = s.pwr.mediaOnlyDown
  | Field.pwrMediaOnlyUp => t.pwr.mediaOnlyUp = s.pwr.mediaOnlyUp
  | Field.pwrPaused => t.pwr.paused = s.pwr.paused
  | Field.pwrDomains => t.pwr.domains = s.pwr.domains
  | Field.pwrLatch => t.pwr.latch = s.pwr.latch
  | Field.pwrHaltDrivers => t.pwr.haltDrivers = s.pwr.haltDrivers
  | Field.pwrHaltSeen => t.pwr.haltSeen = s.pwr.haltSeen
  | Field.pwrHaltHold => t.pwr.haltHold = s.pwr.haltHold
  | Field.pwrHaltOutside => t.pwr.haltOutside = s.pwr.haltOutside
  | Field.pwrCounts => t.pwr.counts = s.pwr.counts
  | Field.pwrHaltCount => t.pwr.haltCount = s.pwr.haltCount
  | Field.pwrHaltSource => t.pwr.haltSource = s.pwr.haltSource
  | Field.pwrHaltTime => t.pwr.haltTime = s.pwr.haltTime
  | Field.pwrGaLatched => t.pwr.gaLatched = s.pwr.gaLatched
  | Field.pwrGaPins => t.pwr.gaPins = s.pwr.gaPins
  | Field.pwrGaNow => t.pwr.gaNow = s.pwr.gaNow
  | Field.pwrGaDiffer => t.pwr.gaDiffer = s.pwr.gaDiffer
  | Field.pwrGaMismatch => t.pwr.gaMismatch = s.pwr.gaMismatch
  | Field.pwrModrstLow => t.pwr.modrstLow = s.pwr.modrstLow
  | Field.pwrResetAsked => t.pwr.resetAsked = s.pwr.resetAsked
  | Field.pwrResetOnGood => t.pwr.resetOnGood = s.pwr.resetOnGood
  | Field.pwrTap => t.pwr.tap = s.pwr.tap
  | Field.pwrLostClocks => t.pwr.lostClocks = s.pwr.lostClocks
  | Field.pwrKeelFallback => t.pwr.keelFallback = s.pwr.keelFallback
  | Field.pwrMarginOn => t.pwr.marginOn = s.pwr.marginOn
  | Field.seatSeats => t.seat.seats = s.seat.seats
  | Field.seatTransactions => t.seat.transactions = s.seat.transactions
  | Field.seatCrcErrors => t.seat.crcErrors = s.seat.crcErrors
  | Field.seatRetries => t.seat.retries = s.seat.retries
  | Field.seatNotResponding => t.seat.notResponding = s.seat.notResponding
  | Field.bankState => t.bank.state = s.bank.state
  | Field.bankMv => t.bank.mv = s.bank.mv
  | Field.bankBoost => t.bank.boost = s.bank.boost
  | Field.bankUF => t.bank.uF = s.bank.uF
  | Field.bankUFRaw => t.bank.uFRaw = s.bank.uFRaw
  | Field.bankEsr => t.bank.esr = s.bank.esr
  | Field.bankTemp => t.bank.temp = s.bank.temp
  | Field.bankMeasuredAt => t.bank.measuredAt = s.bank.measuredAt
  | Field.bankMeasured => t.bank.measured = s.bank.measured
  | Field.bankNotReady => t.bank.notReady = s.bank.notReady
  | Field.bankMeasuring => t.bank.measuring = s.bank.measuring
  | Field.bankDeferred => t.bank.deferred = s.bank.deferred
  | Field.bankCapTime => t.bank.capTime = s.bank.capTime
  | Field.bankCapStep => t.bank.capStep = s.bank.capStep
  | Field.bankFlushStartMv => t.bank.flushStartMv = s.bank.flushStartMv
  | Field.bankFlushEndMv => t.bank.flushEndMv = s.bank.flushEndMv
  | Field.bankFlushUs => t.bank.flushUs = s.bank.flushUs
  | Field.bankKeelMs => t.bank.keelMs = s.bank.keelMs
  | Field.bankFlushMark => t.bank.flushMark = s.bank.flushMark
  | Field.thmInputs => t.thm.inputs = s.thm.inputs
  | Field.thmLevel => t.thm.level = s.thm.level
  | Field.thmTimeAt => t.thm.timeAt = s.thm.timeAt
  | Field.thmLimits => t.thm.limits = s.thm.limits
  | Field.thmCounts => t.thm.counts = s.thm.counts
  | Field.hltState => t.hlt.state = s.hlt.state
  | Field.hltIndicators => t.hlt.indicators = s.hlt.indicators
  | Field.hltC0 => t.hlt.c0 = s.hlt.c0
  | Field.hltPoints => t.hlt.points = s.hlt.points
  | Field.hltPeaks => t.hlt.peaks = s.hlt.peaks
  | Field.hltLifeUsed => t.hlt.lifeUsed = s.hlt.lifeUsed
  | Field.hltMediaHours => t.hlt.mediaHours = s.hlt.mediaHours
  | Field.hltFitted => t.hlt.fitted = s.hlt.fitted
  | Field.hltSlope => t.hlt.slope = s.hlt.slope
  | Field.hltBankHours => t.hlt.bankHours = s.hlt.bankHours
  | Field.hltEndHours => t.hlt.endHours = s.hlt.endHours
  | Field.hltGoverning => t.hlt.governing = s.hlt.governing
  | Field.hltPredictedAt => t.hlt.predictedAt = s.hlt.predictedAt
  | Field.hstPorts => t.hst.ports = s.hst.ports
  | Field.hstLinks => t.hst.links = s.hst.links
  | Field.hstHeads => t.hst.heads = s.hst.heads
  | Field.extPairs => t.ext.pairs = s.ext.pairs
  | Field.extExtents => t.ext.extents = s.ext.extents
  | Field.extRegions => t.ext.regions = s.ext.regions
  | Field.extOffers => t.ext.offers = s.ext.offers
  | Field.extJournalUsed => t.ext.journalUsed = s.ext.journalUsed
  | Field.extJournalGen => t.ext.journalGen = s.ext.journalGen
  | Field.rdpReads => t.rdp.reads = s.rdp.reads
  | Field.rdpNextId => t.rdp.nextId = s.rdp.nextId
  | Field.rdpOrder => t.rdp.order = s.rdp.order
  | Field.rdpCounts => t.rdp.counts = s.rdp.counts
  | Field.wbEnts => t.wb.ents = s.wb.ents
  | Field.wbUnits => t.wb.units = s.wb.units
  | Field.wbNextUnit => t.wb.nextUnit = s.wb.nextUnit
  | Field.wbInProgram => t.wb.inProgram = s.wb.inProgram
  | Field.wbDirty => t.wb.dirty = s.wb.dirty
  | Field.wbDurable => t.wb.durable = s.wb.durable
  | Field.wbLastListed => t.wb.lastListed = s.wb.lastListed
  | Field.wbWriting => t.wb.writing = s.wb.writing
  | Field.wbLedger => t.wb.ledger = s.wb.ledger
  | Field.wbLedgerSeq => t.wb.ledgerSeq = s.wb.ledgerSeq
  | Field.wbLedgerNext => t.wb.ledgerNext = s.wb.ledgerNext
  | Field.wbDurableSeq => t.wb.durableSeq = s.wb.durableSeq
  | Field.wbHighWater => t.wb.highWater = s.wb.highWater
  | Field.wbCostHeld => t.wb.costHeld = s.wb.costHeld
  | Field.wbLedgerHeld => t.wb.ledgerHeld = s.wb.ledgerHeld
  | Field.wbDipHeld => t.wb.dipHeld = s.wb.dipHeld
  | Field.wbFlushing => t.wb.flushing = s.wb.flushing
  | Field.wbFlushFrom => t.wb.flushFrom = s.wb.flushFrom
  | Field.wbFlushBroken => t.wb.flushBroken = s.wb.flushBroken
  | Field.wbSinglePairs => t.wb.singlePairs = s.wb.singlePairs
  | Field.wbStarvedCount => t.wb.starvedCount = s.wb.starvedCount
  | Field.wbHostShutdown => t.wb.hostShutdown = s.wb.hostShutdown
  | Field.wbLastDirty => t.wb.lastDirty = s.wb.lastDirty
  | Field.wbDirtyCount => t.wb.dirtyCount = s.wb.dirtyCount
  | Field.wbCounts => t.wb.counts = s.wb.counts
  | Field.medGranules => t.med.granules = s.med.granules
  | Field.medPlanes => t.med.planes = s.med.planes
  | Field.medDies => t.med.dies = s.med.dies
  | Field.medChannels => t.med.channels = s.med.channels
  | Field.medClearing => t.med.clearing = s.med.clearing
  | Field.medGovernor => t.med.governor = s.med.governor
  | Field.medReserved => t.med.reserved = s.med.reserved
  | Field.medWork => t.med.work = s.med.work
  | Field.medChecks => t.med.checks = s.med.checks
  | Field.medChecksWear => t.med.checksWear = s.med.checksWear
  | Field.medFailures => t.med.failures = s.med.failures
  | Field.trcMap => t.trc.map = s.trc.map
  | Field.trcCkptA => t.trc.ckptA = s.trc.ckptA
  | Field.trcCkptB => t.trc.ckptB = s.trc.ckptB
  | Field.trcAct => t.trc.act = s.trc.act
  | Field.trcPeak => t.trc.peak = s.trc.peak
  | Field.trcPeakBase => t.trc.peakBase = s.trc.peakBase
  | Field.trcPeakCkpt => t.trc.peakCkpt = s.trc.peakCkpt
  | Field.trcPeakCkptB => t.trc.peakCkptB = s.trc.peakCkptB
  | Field.trcBaseCkpt => t.trc.baseCkpt = s.trc.baseCkpt
  | Field.trcActCkpt => t.trc.actCkpt = s.trc.actCkpt
  | Field.trcActCkptB => t.trc.actCkptB = s.trc.actCkptB
  | Field.trcDirectory => t.trc.directory = s.trc.directory
  | Field.trcScans => t.trc.scans = s.trc.scans
  | Field.trcCounted => t.trc.counted = s.trc.counted
  | Field.trcEpoch => t.trc.epoch = s.trc.epoch
  | Field.trcDirtyPts => t.trc.dirtyPts = s.trc.dirtyPts
  | Field.trcMigs => t.trc.migs = s.trc.migs
  | Field.trcReadsOn => t.trc.readsOn = s.trc.readsOn
  | Field.trcLastRow => t.trc.lastRow = s.trc.lastRow
  | Field.trcCompleted => t.trc.completed = s.trc.completed
  | Field.trcAbandoned => t.trc.abandoned = s.trc.abandoned
  | Field.trcRetired => t.trc.retired = s.trc.retired
  | Field.trcRefreshed => t.trc.refreshed = s.trc.refreshed
  | Field.trcSweep => t.trc.sweep = s.trc.sweep
  | Field.trcLastScan => t.trc.lastScan = s.trc.lastScan
  | Field.trcDecided => t.trc.decided = s.trc.decided
  | Field.trcCounts => t.trc.counts = s.trc.counts
  | Field.trcSpareRows => t.trc.spareRows = s.trc.spareRows
  | Field.itgBlocks => t.itg.blocks = s.itg.blocks
  | Field.itgNodes => t.itg.nodes = s.itg.nodes
  | Field.itgRoot => t.itg.root = s.itg.root
  | Field.itgCache => t.itg.cache = s.itg.cache
  | Field.itgHigh => t.itg.high = s.itg.high
  | Field.itgReserve => t.itg.reserve = s.itg.reserve
  | Field.itgRootState => t.itg.rootState = s.itg.rootState
  | Field.itgRecord => t.itg.record = s.itg.record
  | Field.itgAlarms => t.itg.alarms = s.itg.alarms
  | Field.itgTagFails => t.itg.tagFails = s.itg.tagFails
  | Field.itgRecovered => t.itg.recovered = s.itg.recovered
  | Field.itgReestablished => t.itg.reestablished = s.itg.reestablished
  | Field.itgActivity => t.itg.activity = s.itg.activity
  | Field.itgOverflows => t.itg.overflows = s.itg.overflows
  | Field.itgTreeGen => t.itg.treeGen = s.itg.treeGen
  | Field.itgRekeyRegion => t.itg.rekeyRegion = s.itg.rekeyRegion
  | Field.itgRekeyState => t.itg.rekeyState = s.itg.rekeyState
  | Field.itgRekeyLeft => t.itg.rekeyLeft = s.itg.rekeyLeft
  | Field.itgRekeyExtents => t.itg.rekeyExtents = s.itg.rekeyExtents
  | Field.itgRekeySlot => t.itg.rekeySlot = s.itg.rekeySlot
  | Field.itgWindows => t.itg.windows = s.itg.windows
  | Field.itgCounts => t.itg.counts = s.itg.counts
  | Field.scrEcc => t.scr.ecc = s.scr.ecc
  | Field.scrRewrite => t.scr.rewrite = s.scr.rewrite
  | Field.scrHeaderRepairs => t.scr.headerRepairs = s.scr.headerRepairs
  | Field.scrSelfTest => t.scr.selfTest = s.scr.selfTest
  | Field.scrSelfTestAt => t.scr.selfTestAt = s.scr.selfTestAt
  | Field.scrPatrol => t.scr.patrol = s.scr.patrol
  | Field.scrPasses => t.scr.passes = s.scr.passes
  | Field.scrRebuilds => t.scr.rebuilds = s.scr.rebuilds
  | Field.scrEngines => t.scr.engines = s.scr.engines
  | Field.scrParity => t.scr.parity = s.scr.parity
  | Field.stgSrams => t.stg.srams = s.stg.srams
  | Field.stgParityDue => t.stg.parityDue = s.stg.parityDue
  | Field.stgBandDue => t.stg.bandDue = s.stg.bandDue
  | Field.stgRestoring => t.stg.restoring = s.stg.restoring
  | Field.stgParity => t.stg.parity = s.stg.parity
  | Field.fltQueue => t.flt.queue = s.flt.queue
  | Field.fltLost => t.flt.lost = s.flt.lost
  | Field.fltOverflow => t.flt.overflow = s.flt.overflow
  | Field.fltHighMark => t.flt.highMark = s.flt.highMark
  | Field.fltTaken => t.flt.taken = s.flt.taken
  | Field.fltClasses => t.flt.classes = s.flt.classes
  | Field.fltSticky => t.flt.sticky = s.flt.sticky
  | Field.fltStickyDue => t.flt.stickyDue = s.flt.stickyDue
  | Field.fltStickyAgain => t.flt.stickyAgain = s.flt.stickyAgain
  | Field.fltUnits => t.flt.units = s.flt.units
  | Field.fltSources => t.flt.sources = s.flt.sources
  | Field.fltFences => t.flt.fences = s.flt.fences
  | Field.fltLastC3 => t.flt.lastC3 = s.flt.lastC3
  | Field.fltLastC3At => t.flt.lastC3At = s.flt.lastC3At
  | Field.fltLastC3Cycle => t.flt.lastC3Cycle = s.flt.lastC3Cycle
  | Field.fltCmdSlots => t.flt.cmdSlots = s.flt.cmdSlots
  | Field.easyState => t.easy.state = s.easy.state
  | Field.easyCauses => t.easy.causes = s.easy.causes
  | Field.easyEntries => t.easy.entries = s.easy.entries
  | Field.easyVolatileEntries => t.easy.volatileEntries = s.easy.volatileEntries
  | Field.easyStopUnits => t.easy.stopUnits = s.easy.stopUnits
  | Field.easyThenDown => t.easy.thenDown = s.easy.thenDown
  | Field.easySlots => t.easy.slots = s.easy.slots
  | Field.strPhase => t.str.phase = s.str.phase
  | Field.strKind => t.str.kind = s.str.kind
  | Field.strClean => t.str.clean = s.str.clean
  | Field.strMapsLoaded => t.str.mapsLoaded = s.str.mapsLoaded
  | Field.strRootDone => t.str.rootDone = s.str.rootDone
  | Field.strPowered => t.str.powered = s.str.powered
  | Field.strReview => t.str.review = s.str.review
  | Field.strKeelFailed => t.str.keelFailed = s.str.keelFailed
  | Field.strDataReady => t.str.dataReady = s.str.dataReady
  | Field.strBegan => t.str.began = s.str.began
  | Field.strOrigin => t.str.origin = s.str.origin
  | Field.strTimes => t.str.times = s.str.times
  | Field.strRootSlot => t.str.rootSlot = s.str.rootSlot
  | Field.coxState => t.cox.state = s.cox.state
  | Field.coxDead => t.cox.dead = s.cox.dead
  | Field.coxIScratch => t.cox.iScratch = s.cox.iScratch
  | Field.coxDScratch => t.cox.dScratch = s.cox.dScratch
  | Field.coxICache => t.cox.iCache = s.cox.iCache
  | Field.coxDCache => t.cox.dCache = s.cox.dCache
  | Field.coxWatchdogMs => t.cox.watchdogMs = s.cox.watchdogMs
  | Field.coxResets => t.cox.resets = s.cox.resets
  | Field.coxLastReset => t.cox.lastReset = s.cox.lastReset
  | Field.coxOrphan => t.cox.orphan = s.cox.orphan
  | Field.coxOrphanLimit => t.cox.orphanLimit = s.cox.orphanLimit
  | Field.coxLastOrphan => t.cox.lastOrphan = s.cox.lastOrphan
  | Field.coxOrphanLostAt => t.cox.orphanLostAt = s.cox.orphanLostAt
  | Field.coxReadyAt => t.cox.readyAt = s.cox.readyAt
  | Field.coxResetAt => t.cox.resetAt = s.cox.resetAt
  | Field.coxByWatchdog => t.cox.byWatchdog = s.cox.byWatchdog
  | Field.coxByActivate => t.cox.byActivate = s.cox.byActivate
  | Field.coxStartCause => t.cox.startCause = s.cox.startCause
  | Field.coxOptions => t.cox.options = s.cox.options
  | Field.coxOptionState => t.cox.optionState = s.cox.optionState
  | Field.flsRunning => t.fls.running = s.fls.running
  | Field.flsStartedAt => t.fls.startedAt = s.fls.startedAt
  | Field.flsSuspended => t.fls.suspended = s.fls.suspended
  | Field.flsDepth => t.fls.depth = s.fls.depth
  | Field.flsRan => t.fls.ran = s.fls.ran
  | Field.flsMinimumRun => t.fls.minimumRun = s.fls.minimumRun
  | Field.flsQueue => t.fls.queue = s.fls.queue
  | Field.flsFlags => t.fls.flags = s.fls.flags
  | Field.flsCounts => t.fls.counts = s.fls.counts
  | Field.flsOptionWords => t.fls.optionWords = s.fls.optionWords
  | Field.flsOptionWrite => t.fls.optionWrite = s.fls.optionWrite
  | Field.flsOptionCut => t.fls.optionCut = s.fls.optionCut
  | Field.imgA => t.img.a = s.img.a
  | Field.imgB => t.img.b = s.img.b
  | Field.imgActiveB => t.img.activeB = s.img.activeB
  | Field.imgTrial => t.img.trial = s.img.trial
  | Field.imgAttempts => t.img.attempts = s.img.attempts
  | Field.imgRunsB => t.img.runsB = s.img.runsB
  | Field.imgSlot => t.img.slot = s.img.slot
  | Field.imgActivateSlot => t.img.activateSlot = s.img.activateSlot
  | Field.parBp => t.par.bp = s.par.bp
  | Field.parQueue => t.par.queue = s.par.queue
  | Field.parRetired => t.par.retired = s.par.retired
  | Field.parSpares => t.par.spares = s.par.spares
  | Field.parLost => t.par.lost = s.par.lost
  | Field.parSeqs => t.par.seqs = s.par.seqs
  | Field.parWrites => t.par.writes = s.par.writes
  | Field.logStaged => t.log.staged = s.log.staged
  | Field.logAreaC => t.log.areaC = s.log.areaC
  | Field.logAreaF => t.log.areaF = s.log.areaF
  | Field.logNext => t.log.next = s.log.next
  | Field.logReserve => t.log.reserve = s.log.reserve
  | Field.logLastDurable => t.log.lastDurable = s.log.lastDurable
  | Field.logNotStaged => t.log.notStaged = s.log.notStaged
  | Field.logLostNow => t.log.lostNow = s.log.lostNow
  | Field.logLostFirst => t.log.lostFirst = s.log.lostFirst
  | Field.logClearing => t.log.clearing = s.log.clearing
  | Field.logDefs => t.log.defs = s.log.defs
  | Field.logOverruns => t.log.overruns = s.log.overruns
  | Field.logCounts => t.log.counts = s.log.counts
  | Field.tlyNumber => t.tly.number = s.tly.number
  | Field.tlyTime => t.tly.time = s.tly.time
  | Field.tlySnap => t.tly.snap = s.tly.snap
  | Field.tlyLatched => t.tly.latched = s.tly.latched
  | Field.tlyBases => t.tly.bases = s.tly.bases
  | Field.tlyWinStart => t.tly.winStart = s.tly.winStart
  | Field.tlyRates => t.tly.rates = s.tly.rates
  | Field.tlyWinSnap => t.tly.winSnap = s.tly.winSnap
  | Field.tlyWinDiscard => t.tly.winDiscard = s.tly.winDiscard
  | Field.tlyCounts => t.tly.counts = s.tly.counts
  | Field.tlyWear => t.tly.wear = s.tly.wear
  | Field.wopPlca => t.wop.plca = s.wop.plca
  | Field.wopFrames => t.wop.frames = s.wop.frames
  | Field.wopCounts => t.wop.counts = s.wop.counts
  | Field.wopConflict => t.wop.conflict = s.wop.conflict
  | Field.wopAnswerDue => t.wop.answerDue = s.wop.answerDue
  | Field.wopKeys => t.wop.keys = s.wop.keys
  | Field.wopKeyDraws => t.wop.keyDraws = s.wop.keyDraws
  | Field.wopSess => t.wop.sess = s.wop.sess
  | Field.wopTagFails => t.wop.tagFails = s.wop.tagFails
  | Field.wopBulks => t.wop.bulks = s.wop.bulks
  | Field.wopNextBulk => t.wop.nextBulk = s.wop.nextBulk
  | Field.out => t.out = s.out
  | Field.free => t.free = s.free
  | Field.pending => t.pending = s.pending

/-- Every field outside the list is unchanged from `s` to `t`. -/
def Frame (l : List Field) (s t : State) : Prop := ∀ f, f ∉ l → f.same s t

/-- The last thing that left the module is the response to an object access with status 0x00. -/
def accepted (req : Req) (idx mem : Nat) (t : State) : Prop := ∃ ticket, t.out.getLast? = some (.access req idx mem 0x00 ticket)

/-- The last thing that left the module, but for messages of vector 0, is the return of a mailbox command (03 R86, 04 R104). -/
def returned (h op ret : Nat) (payload : List Byte) (t : State) : Prop :=
  (t.out.filter fun o => decide (o ≠ .msix h 0)).getLast? = some (.mailbox h op ret payload)

/-- The message has joined the fault queue. -/
def queued (s t : State) (m : Word64) : Prop := s.flt.queue ++ [m] <+: t.flt.queue

/-- The message has joined the fault queue or, the queue being full, is counted as lost (01 R23). -/
def reported (s t : State) (m : Word64) : Prop :=
  if s.flt.queue.length < 256 then queued s t m else t.flt.queue = s.flt.queue ∧ t.flt.lost = s.flt.lost + 1

/-- A request that the module takes as new over T1S: the path works, the session is open on it, and the sequence is above every one before and
has no stored response (12 R293). -/
def newRequest (s : State) (sess seq : Nat) : Prop :=
  s.t1sUp = true ∧ s.coxUp = true ∧ sess < 65536 ∧ s.answers sess 0 = true ∧ (s.session sess).highest < seq
    ∧ (s.session sess).answered.find? (fun x => x.seq == seq) = none

/-! ## Fields that the shared effects write -/

/-- A NOTIFY to the open slots (R296). -/
def noticeFields : List Field :=
  [Field.wopFrames, Field.wopCounts, Field.wopSess, Field.out]

/-- The flash controller goes on with a program or an erase (R392, R393). -/
def flashFields : List Field :=
  [Field.flsRunning, Field.flsStartedAt, Field.flsSuspended, Field.flsRan, Field.flsMinimumRun, Field.flsQueue, Field.flsFlags]

/-- A write enters the write buffer (R138). -/
def bufferFields : List Field :=
  [Field.hstPorts, Field.rdpOrder, Field.wbEnts, Field.wbDirty, Field.wbHighWater, Field.wbCostHeld, Field.wbLedgerHeld,
    Field.wbCounts]

/-- A Logbook record of class E, with the NOTIFY messages and the page write that it may bring (R296, R324). -/
def recordFields : List Field :=
  noticeFields ++ [Field.parQueue, Field.parSeqs, Field.logStaged, Field.logNext, Field.logReserve, Field.logNotStaged, Field.logLostNow,
    Field.logLostFirst, Field.logCounts]

/-- Event records and MSI-X messages of heads, with the Logbook record that stands for them (R86, R115, R331). -/
def headEventFields : List Field :=
  recordFields ++ [Field.hstLinks, Field.hstHeads]

/-- The response to an object access of a row, or its wait for a commit (R20, R310). -/
def answerFields : List Field :=
  recordFields ++ [Field.objSlots, Field.objWaiting, Field.objEnded, Field.hstLinks]

/-- The start or the end of a deferred operation (R319–R321). -/
def ticketFields : List Field :=
  recordFields ++ [Field.objSlots, Field.objTicketNext, Field.objTicketRes, Field.objBusyRefusals, Field.objEnded]

/-- Entry into Easy-all (R279). -/
def easyFields : List Field :=
  headEventFields ++ [Field.pwrState, Field.pwrDomains, Field.hstPorts, Field.wbFlushing, Field.wbFlushFrom, Field.fltQueue, Field.fltLost,
    Field.fltOverflow, Field.fltHighMark, Field.easyState, Field.easyCauses, Field.easyEntries, Field.easyVolatileEntries]

/-- A stored object is written, with the units that its value configures (R20, R310, R311). -/
def objectFields : List Field :=
  recordFields ++ [Field.objVals, Field.objShadow, Field.objSlots, Field.objTicketNext, Field.objTicketRes, Field.objBusyRefusals,
    Field.objDeferred, Field.objCustodianSet, Field.pwrHaltDrivers, Field.hstPorts, Field.wbHighWater, Field.coxWatchdogMs,
    Field.parWrites, Field.tlyWinDiscard, Field.wopPlca, Field.wopConflict]

/-- A loss of a link's data link layer, which resets its head (R80). -/
def linkDownFields : List Field :=
  easyFields ++ [Field.rdpReads, Field.wbEnts]

/-- A fault message, with what a C3 brings at once: Easy-all (R23, R270, R279). -/
def reportFields : List Field :=
  easyFields ++ [Field.fltClasses, Field.fltSticky, Field.fltStickyDue, Field.fltStickyAgain, Field.fltLastC3, Field.fltLastC3At,
    Field.fltLastC3Cycle]

/-- Migrations out of a tract stop (R199). -/
def abandonFields : List Field :=
  reportFields ++ [Field.wbInProgram, Field.medGranules, Field.medPlanes, Field.medDies, Field.medChannels, Field.medClearing,
    Field.medReserved, Field.medWork, Field.trcMap, Field.trcCkptA, Field.trcCkptB, Field.trcAct, Field.trcPeak, Field.trcEpoch,
    Field.trcDirtyPts, Field.trcMigs, Field.trcAbandoned, Field.trcRetired, Field.trcSpareRows]

/-- Cox restarts into an image (R400). -/
def imageStartFields : List Field :=
  recordFields ++ [Field.objSlots, Field.objSelectors, Field.objWaiting, Field.objEnded, Field.hstHeads, Field.extPairs, Field.strPhase,
    Field.strMapsLoaded, Field.strRootDone, Field.coxState, Field.coxDead, Field.coxIScratch, Field.coxDScratch,
    Field.coxICache, Field.coxDCache, Field.coxWatchdogMs, Field.coxResets, Field.coxLastReset, Field.coxOrphan,
    Field.coxOrphanLimit, Field.coxLastOrphan, Field.coxOrphanLostAt, Field.coxReadyAt, Field.coxResetAt, Field.coxByWatchdog,
    Field.coxByActivate, Field.coxStartCause, Field.coxOptions, Field.coxOptionState, Field.flsRunning, Field.flsSuspended,
    Field.flsDepth, Field.flsRan, Field.flsMinimumRun, Field.flsQueue, Field.flsOptionWrite, Field.flsOptionCut, Field.imgA,
    Field.imgB, Field.imgSlot, Field.wopPlca, Field.wopAnswerDue, Field.wopBulks]

/-- Every operation of the medium ends (R279). -/
def mediumFields : List Field :=
  reportFields ++ [Field.wbUnits, Field.wbInProgram, Field.medGranules, Field.medPlanes, Field.medDies, Field.medChannels, Field.medClearing,
    Field.medGovernor, Field.medReserved, Field.medWork, Field.trcMap, Field.trcCkptA, Field.trcCkptB, Field.trcAct,
    Field.trcPeak, Field.trcEpoch, Field.trcDirtyPts, Field.trcMigs, Field.trcCompleted, Field.trcRetired, Field.trcRefreshed,
    Field.trcSpareRows, Field.scrEngines]

/-- The start goes on where its conditions hold, or the exit after T4 (Machine/Boot.lean, State.mapStep). -/
def mapFields : List Field :=
  reportFields ++ [Field.objSlots, Field.objEnded, Field.pwrMediaOnlyUp, Field.wbDirty, Field.wbDurable, Field.wbLastListed, Field.wbWriting,
    Field.wbLastDirty, Field.wbDirtyCount, Field.medGranules, Field.medDies, Field.medChannels, Field.medClearing, Field.trcMap,
    Field.trcCkptA, Field.trcCkptB, Field.trcAct, Field.trcPeak, Field.trcPeakBase, Field.trcCounted, Field.trcEpoch,
    Field.trcDirtyPts, Field.trcMigs, Field.trcReadsOn, Field.trcRetired, Field.trcSpareRows, Field.easySlots, Field.strPhase,
    Field.strClean, Field.strMapsLoaded, Field.strTimes]

/-- A tract is given a blank physical tract with fresh counter blocks; the old one is cleared (R201, R235). -/
def renewFields : List Field :=
  abandonFields ++ bufferFields ++ [Field.trcLastRow, Field.itgBlocks, Field.itgNodes, Field.itgRoot, Field.itgCache, Field.itgHigh, Field.itgReserve,
    Field.stgParity]

/-- Core start begins (R346, R421, R423). -/
def coreStartFields : List Field :=
  mapFields ++ linkDownFields ++ [Field.pwrSeqState, Field.pwrStep, Field.pwrFastDown, Field.pwrMediaOnlyDown, Field.pwrPaused, Field.seatTransactions,
    Field.bankState, Field.bankBoost, Field.bankMeasured, Field.easyThenDown, Field.strKind, Field.strPowered, Field.strBegan,
    Field.strOrigin]

/-- The keel island loses its power: what was volatile or only staged is gone (R329). -/
def powerLostFields : List Field :=
  reportFields ++ linkDownFields ++ answerFields ++ [Field.objShadow, Field.objRestoring, Field.pwrReqOff, Field.pwrSeqState, Field.pwrStep, Field.pwrTap, Field.bankState,
    Field.bankBoost, Field.bankMeasuring, Field.bankKeelMs, Field.extRegions, Field.wbUnits, Field.wbInProgram, Field.wbDirty,
    Field.wbLastListed, Field.wbWriting, Field.wbLedger, Field.wbHighWater, Field.wbCostHeld, Field.wbLedgerHeld,
    Field.wbDipHeld, Field.wbFlushBroken, Field.medGranules, Field.medPlanes, Field.medDies, Field.medChannels,
    Field.medClearing, Field.medGovernor, Field.medReserved, Field.medWork, Field.trcAct, Field.trcPeak, Field.trcCounted,
    Field.trcEpoch, Field.trcDirtyPts, Field.trcMigs, Field.trcReadsOn, Field.trcRetired, Field.trcRefreshed,
    Field.trcSpareRows, Field.itgCache, Field.itgWindows, Field.scrRewrite, Field.scrPasses, Field.scrRebuilds,
    Field.scrEngines, Field.stgSrams, Field.stgParityDue, Field.stgBandDue, Field.stgRestoring, Field.strMapsLoaded,
    Field.strRootDone, Field.strPowered, Field.strReview, Field.strDataReady, Field.coxState, Field.free]

/-- What stops and what takes over when a unit leaves service (R272). -/
def fenceFields : List Field :=
  mapFields ++ abandonFields ++ linkDownFields ++ [Field.objSelectors, Field.wbUnits, Field.wbHighWater, Field.wbCostHeld, Field.wbLedgerHeld, Field.wbFlushBroken,
    Field.wbSinglePairs, Field.medGovernor, Field.trcCompleted, Field.itgCache, Field.itgAlarms, Field.itgTagFails,
    Field.itgRecovered, Field.itgCounts, Field.scrEcc, Field.scrRewrite, Field.scrPasses, Field.scrRebuilds, Field.stgParityDue,
    Field.stgBandDue, Field.stgRestoring, Field.wopPlca, Field.wopAnswerDue, Field.wopBulks, Field.free]

/-- The fields of the group `tim`. -/
def timGroup : List Field :=
  [Field.timOpTime, Field.timCycles, Field.timCellDue, Field.timCellWrites, Field.timTimeCells, Field.timCycleCells,
   Field.timCycleWrites]

/-- The fields of the group `obj`. -/
def objGroup : List Field :=
  [Field.objVals, Field.objShadow, Field.objLabel, Field.objSlots, Field.objTicketNext, Field.objTicketRes,
   Field.objBusyRefusals, Field.objSelectors, Field.objDeferred, Field.objWaiting, Field.objEnded, Field.objCustodianSet,
   Field.objRestoring]

/-- The fields of the group `pwr`. -/
def pwrGroup : List Field :=
  [Field.pwrState, Field.pwrInputMv, Field.pwrPairA, Field.pwrPairB, Field.pwrPeakMw, Field.pwrSwitchClosed, Field.pwrKeelPath,
   Field.pwrBreaker, Field.pwrInputGood, Field.pwrOvervoltage, Field.pwrInputLow, Field.pwrDip, Field.pwrShortDips,
   Field.pwrLossCount, Field.pwrTripCount, Field.pwrReqOff, Field.pwrSeqState, Field.pwrStep, Field.pwrFastDown,
   Field.pwrMediaOnlyDown, Field.pwrMediaOnlyUp, Field.pwrPaused, Field.pwrDomains, Field.pwrLatch, Field.pwrHaltDrivers,
   Field.pwrHaltSeen, Field.pwrHaltHold, Field.pwrHaltOutside, Field.pwrCounts, Field.pwrHaltCount, Field.pwrHaltSource,
   Field.pwrHaltTime, Field.pwrGaLatched, Field.pwrGaPins, Field.pwrGaNow, Field.pwrGaDiffer, Field.pwrGaMismatch,
   Field.pwrModrstLow, Field.pwrResetAsked, Field.pwrResetOnGood, Field.pwrTap, Field.pwrLostClocks, Field.pwrKeelFallback,
   Field.pwrMarginOn]

/-- The fields of the group `seat`. -/
def seatGroup : List Field :=
  [Field.seatSeats, Field.seatTransactions, Field.seatCrcErrors, Field.seatRetries, Field.seatNotResponding]

/-- The fields of the group `bank`. -/
def bankGroup : List Field :=
  [Field.bankState, Field.bankMv, Field.bankBoost, Field.bankUF, Field.bankUFRaw, Field.bankEsr, Field.bankTemp,
   Field.bankMeasuredAt, Field.bankMeasured, Field.bankNotReady, Field.bankMeasuring, Field.bankDeferred, Field.bankCapTime,
   Field.bankCapStep, Field.bankFlushStartMv, Field.bankFlushEndMv, Field.bankFlushUs, Field.bankKeelMs, Field.bankFlushMark]

/-- The fields of the group `thm`. -/
def thmGroup : List Field :=
  [Field.thmInputs, Field.thmLevel, Field.thmTimeAt, Field.thmLimits, Field.thmCounts]

/-- The fields of the group `hlt`. -/
def hltGroup : List Field :=
  [Field.hltState, Field.hltIndicators, Field.hltC0, Field.hltPoints, Field.hltPeaks, Field.hltLifeUsed, Field.hltMediaHours,
   Field.hltFitted, Field.hltSlope, Field.hltBankHours, Field.hltEndHours, Field.hltGoverning, Field.hltPredictedAt]

/-- The fields of the group `hst`. -/
def hstGroup : List Field :=
  [Field.hstPorts, Field.hstLinks, Field.hstHeads]

/-- The fields of the group `ext`. -/
def extGroup : List Field :=
  [Field.extPairs, Field.extExtents, Field.extRegions, Field.extOffers, Field.extJournalUsed, Field.extJournalGen]

/-- The fields of the group `rdp`. -/
def rdpGroup : List Field :=
  [Field.rdpReads, Field.rdpNextId, Field.rdpOrder, Field.rdpCounts]

/-- The fields of the group `wb`. -/
def wbGroup : List Field :=
  [Field.wbEnts, Field.wbUnits, Field.wbNextUnit, Field.wbInProgram, Field.wbDirty, Field.wbDurable, Field.wbLastListed,
   Field.wbWriting, Field.wbLedger, Field.wbLedgerSeq, Field.wbLedgerNext, Field.wbDurableSeq, Field.wbHighWater,
   Field.wbCostHeld, Field.wbLedgerHeld, Field.wbDipHeld, Field.wbFlushing, Field.wbFlushFrom, Field.wbFlushBroken,
   Field.wbSinglePairs, Field.wbStarvedCount, Field.wbHostShutdown, Field.wbLastDirty, Field.wbDirtyCount, Field.wbCounts]

/-- The fields of the group `med`. -/
def medGroup : List Field :=
  [Field.medGranules, Field.medPlanes, Field.medDies, Field.medChannels, Field.medClearing, Field.medGovernor,
   Field.medReserved, Field.medWork, Field.medChecks, Field.medChecksWear, Field.medFailures]

/-- The fields of the group `trc`. -/
def trcGroup : List Field :=
  [Field.trcMap, Field.trcCkptA, Field.trcCkptB, Field.trcAct, Field.trcPeak, Field.trcPeakBase, Field.trcPeakCkpt,
   Field.trcPeakCkptB, Field.trcBaseCkpt, Field.trcActCkpt, Field.trcActCkptB, Field.trcDirectory, Field.trcScans,
   Field.trcCounted, Field.trcEpoch, Field.trcDirtyPts, Field.trcMigs, Field.trcReadsOn, Field.trcLastRow, Field.trcCompleted,
   Field.trcAbandoned, Field.trcRetired, Field.trcRefreshed, Field.trcSweep, Field.trcLastScan, Field.trcDecided,
   Field.trcCounts, Field.trcSpareRows]

/-- The fields of the group `itg`. -/
def itgGroup : List Field :=
  [Field.itgBlocks, Field.itgNodes, Field.itgRoot, Field.itgCache, Field.itgHigh, Field.itgReserve, Field.itgRootState,
   Field.itgRecord, Field.itgAlarms, Field.itgTagFails, Field.itgRecovered, Field.itgReestablished, Field.itgActivity,
   Field.itgOverflows, Field.itgTreeGen, Field.itgRekeyRegion, Field.itgRekeyState, Field.itgRekeyLeft, Field.itgRekeyExtents,
   Field.itgRekeySlot, Field.itgWindows, Field.itgCounts]

/-- The fields of the group `scr`. -/
def scrGroup : List Field :=
  [Field.scrEcc, Field.scrRewrite, Field.scrHeaderRepairs, Field.scrSelfTest, Field.scrSelfTestAt, Field.scrPatrol,
   Field.scrPasses, Field.scrRebuilds, Field.scrEngines, Field.scrParity]

/-- The fields of the group `stg`. -/
def stgGroup : List Field :=
  [Field.stgSrams, Field.stgParityDue, Field.stgBandDue, Field.stgRestoring, Field.stgParity]

/-- The fields of the group `flt`. -/
def fltGroup : List Field :=
  [Field.fltQueue, Field.fltLost, Field.fltOverflow, Field.fltHighMark, Field.fltTaken, Field.fltClasses, Field.fltSticky,
   Field.fltStickyDue, Field.fltStickyAgain, Field.fltUnits, Field.fltSources, Field.fltFences, Field.fltLastC3,
   Field.fltLastC3At, Field.fltLastC3Cycle, Field.fltCmdSlots]

/-- The fields of the group `easy`. -/
def easyGroup : List Field :=
  [Field.easyState, Field.easyCauses, Field.easyEntries, Field.easyVolatileEntries, Field.easyStopUnits, Field.easyThenDown,
   Field.easySlots]

/-- The fields of the group `str`. -/
def strGroup : List Field :=
  [Field.strPhase, Field.strKind, Field.strClean, Field.strMapsLoaded, Field.strRootDone, Field.strPowered, Field.strReview,
   Field.strKeelFailed, Field.strDataReady, Field.strBegan, Field.strOrigin, Field.strTimes, Field.strRootSlot]

/-- The fields of the group `cox`. -/
def coxGroup : List Field :=
  [Field.coxState, Field.coxDead, Field.coxIScratch, Field.coxDScratch, Field.coxICache, Field.coxDCache, Field.coxWatchdogMs,
   Field.coxResets, Field.coxLastReset, Field.coxOrphan, Field.coxOrphanLimit, Field.coxLastOrphan, Field.coxOrphanLostAt,
   Field.coxReadyAt, Field.coxResetAt, Field.coxByWatchdog, Field.coxByActivate, Field.coxStartCause, Field.coxOptions,
   Field.coxOptionState]

/-- The fields of the group `fls`. -/
def flsGroup : List Field :=
  [Field.flsRunning, Field.flsStartedAt, Field.flsSuspended, Field.flsDepth, Field.flsRan, Field.flsMinimumRun, Field.flsQueue,
   Field.flsFlags, Field.flsCounts, Field.flsOptionWords, Field.flsOptionWrite, Field.flsOptionCut]

/-- The fields of the group `img`. -/
def imgGroup : List Field :=
  [Field.imgA, Field.imgB, Field.imgActiveB, Field.imgTrial, Field.imgAttempts, Field.imgRunsB, Field.imgSlot,
   Field.imgActivateSlot]

/-- The fields of the group `par`. -/
def parGroup : List Field :=
  [Field.parBp, Field.parQueue, Field.parRetired, Field.parSpares, Field.parLost, Field.parSeqs, Field.parWrites]

/-- The fields of the group `log`. -/
def logGroup : List Field :=
  [Field.logStaged, Field.logAreaC, Field.logAreaF, Field.logNext, Field.logReserve, Field.logLastDurable, Field.logNotStaged,
   Field.logLostNow, Field.logLostFirst, Field.logClearing, Field.logDefs, Field.logOverruns, Field.logCounts]

/-- The fields of the group `tly`. -/
def tlyGroup : List Field :=
  [Field.tlyNumber, Field.tlyTime, Field.tlySnap, Field.tlyLatched, Field.tlyBases, Field.tlyWinStart, Field.tlyRates,
   Field.tlyWinSnap, Field.tlyWinDiscard, Field.tlyCounts, Field.tlyWear]

/-- The fields of the group `wop`. -/
def wopGroup : List Field :=
  [Field.wopPlca, Field.wopFrames, Field.wopCounts, Field.wopConflict, Field.wopAnswerDue, Field.wopKeys, Field.wopKeyDraws,
   Field.wopSess, Field.wopTagFails, Field.wopBulks, Field.wopNextBulk]

/-- Every field. -/
def allFields : List Field :=
  timGroup ++ objGroup ++ pwrGroup ++ seatGroup ++ bankGroup ++ thmGroup ++ hltGroup ++ hstGroup ++ extGroup ++ rdpGroup ++ wbGroup ++ medGroup ++ trcGroup ++ itgGroup ++ scrGroup ++ stgGroup ++ fltGroup ++ easyGroup ++ strGroup ++ coxGroup ++ flsGroup ++ imgGroup ++ parGroup ++ logGroup ++ tlyGroup ++ wopGroup ++ [Field.out] ++ [Field.free] ++ [Field.pending]

/-- Every field but those of the list. -/
def allBut (l : List Field) : List Field :=
  allFields.filter fun f => !l.contains f

/-- The keel island leaves reset (R421): every field but those that a reset keeps. -/
def resetFields : List Field :=
  allBut [Field.timTimeCells, Field.objLabel, Field.objCustodianSet, Field.bankMv, Field.bankUF, Field.bankUFRaw, Field.bankEsr,
     Field.bankTemp, Field.bankMeasuredAt, Field.bankNotReady, Field.bankCapTime, Field.bankCapStep, Field.bankFlushStartMv,
     Field.bankFlushEndMv, Field.bankFlushUs, Field.bankKeelMs, Field.bankFlushMark, Field.thmTimeAt, Field.thmLimits,
     Field.hltC0, Field.hltPoints, Field.hltPeaks, Field.hltFitted, Field.hltSlope, Field.extJournalUsed, Field.extJournalGen,
     Field.wbLedger, Field.wbLedgerSeq, Field.wbLedgerNext, Field.wbDurableSeq, Field.wbSinglePairs, Field.wbHostShutdown,
     Field.wbLastDirty, Field.wbDirtyCount, Field.medGranules, Field.medClearing, Field.medFailures, Field.trcMap,
     Field.trcCkptA, Field.trcCkptB, Field.trcAct, Field.trcPeak, Field.trcPeakBase, Field.trcPeakCkpt, Field.trcPeakCkptB,
     Field.trcBaseCkpt, Field.trcActCkpt, Field.trcActCkptB, Field.trcDirectory, Field.trcScans, Field.trcDirtyPts,
     Field.trcRetired, Field.trcLastScan, Field.trcDecided, Field.itgBlocks, Field.itgNodes, Field.itgRoot, Field.itgReserve,
     Field.itgRecord, Field.itgAlarms, Field.itgTagFails, Field.itgRecovered, Field.itgReestablished, Field.itgOverflows,
     Field.itgTreeGen, Field.itgRekeyRegion, Field.itgRekeyState, Field.itgRekeyLeft, Field.itgRekeyExtents,
     Field.scrHeaderRepairs, Field.stgParity, Field.fltClasses, Field.fltLastC3, Field.fltLastC3At, Field.fltLastC3Cycle,
     Field.easyEntries, Field.strClean, Field.coxWatchdogMs, Field.coxResets, Field.coxLastReset, Field.coxLastOrphan,
     Field.coxOptions, Field.coxOptionState, Field.flsStartedAt, Field.flsFlags, Field.flsCounts, Field.flsOptionWords,
     Field.imgActiveB, Field.imgTrial, Field.imgAttempts, Field.imgRunsB, Field.parBp, Field.parRetired, Field.parSpares,
     Field.parLost, Field.logAreaC, Field.logLastDurable, Field.logDefs, Field.wopKeys, Field.wopNextBulk, Field.free,
     Field.pending]

/-! ## What each command may change -/

/-- The fields that a command may change, in whatever state it runs: every register, counter, table, buffer and flag outside the list is left
alone. -/
def frameOf : Instr → List Field
  | .memrd _ _ _ _ _ => reportFields ++ rdpGroup ++ [Field.medPlanes, Field.medChannels, Field.medClearing, Field.medReserved, Field.trcReadsOn, Field.trcCounts,
     Field.itgAlarms, Field.itgTagFails, Field.itgActivity, Field.itgCounts, Field.stgSrams]
  | .readLineArrival _ _ _ _ _ => abandonFields ++ [Field.rdpReads, Field.trcCounted, Field.trcReadsOn, Field.itgCache, Field.itgAlarms, Field.itgTagFails, Field.itgRecovered,
     Field.itgCounts, Field.scrEcc, Field.scrRewrite, Field.scrParity]
  | .lineOrderPointMerge _ _ => reportFields ++ linkDownFields ++ bufferFields ++ [Field.medPlanes, Field.medClearing, Field.medReserved, Field.trcReadsOn, Field.itgAlarms]
  | .lookupResponseHoldExpiry _ => [Field.rdpReads]
  | .memwr _ _ _ _ => headEventFields ++ bufferFields ++ [Field.rdpCounts, Field.wbLastListed, Field.wbWriting, Field.wbLedgerSeq, Field.wbLedgerNext]
  | .memwrptl _ _ _ _ _ => headEventFields ++ bufferFields ++ [Field.rdpCounts, Field.wbLastListed, Field.wbWriting, Field.wbLedgerSeq, Field.wbLedgerNext]
  | .mirrorWriteAck _ _ => [Field.hstHeads, Field.wbEnts, Field.out]
  | .gpfPhase1 _ => [Field.out]
  | .gpfPhase2 _ => [Field.out]
  | .setShutdownState _ _ => [Field.hstLinks, Field.hstHeads, Field.wbHostShutdown, Field.parQueue, Field.parSeqs, Field.out]
  | .getShutdownState _ => [Field.hstLinks, Field.hstHeads, Field.out]
  | .getPoisonList _ => [Field.hstLinks, Field.hstHeads, Field.out]
  | .sanitize _ => renewFields ++ [Field.objSlots, Field.objEnded, Field.extRegions, Field.wbUnits, Field.medGovernor, Field.trcRefreshed, Field.itgRekeyState,
     Field.itgRekeyLeft, Field.itgRekeyExtents, Field.itgWindows, Field.scrRebuilds, Field.scrEngines]
  | .secureErase _ => renewFields ++ [Field.objSlots, Field.objEnded, Field.extRegions, Field.wbUnits, Field.medGovernor, Field.trcRefreshed, Field.itgRekeyState,
     Field.itgRekeyLeft, Field.itgRekeyExtents, Field.itgWindows, Field.scrRebuilds, Field.scrEngines]
  | .addDynamicCapacityResponse _ _ _ => headEventFields ++ [Field.extPairs, Field.extJournalUsed, Field.flsCounts]
  | .releaseDynamicCapacity _ _ => headEventFields ++ [Field.extPairs, Field.extJournalUsed, Field.flsCounts]
  | .getDynamicCapacityExtentList _ => [Field.hstLinks, Field.hstHeads, Field.out]
  | .objectRead _ _ _ _ _ _ _ => headEventFields ++ [Field.objSlots, Field.objSelectors, Field.objEnded, Field.wopTagFails]
  | .objectWrite _ _ _ _ _ _ _ _ => resetFields ++ [Field.objLabel, Field.objCustodianSet, Field.thmLimits, Field.extJournalUsed, Field.wbSinglePairs, Field.wbLastDirty,
     Field.wbDirtyCount, Field.medGranules, Field.medClearing, Field.trcMap, Field.trcCkptA, Field.trcCkptB, Field.trcAct,
     Field.trcPeak, Field.trcPeakBase, Field.trcDirtyPts, Field.trcRetired, Field.trcDecided, Field.itgBlocks, Field.itgNodes,
     Field.itgRoot, Field.itgReserve, Field.itgRecord, Field.itgAlarms, Field.itgTagFails, Field.itgRecovered,
     Field.itgReestablished, Field.itgRekeyRegion, Field.itgRekeyState, Field.itgRekeyLeft, Field.itgRekeyExtents,
     Field.stgParity, Field.fltClasses, Field.fltLastC3, Field.fltLastC3At, Field.fltLastC3Cycle, Field.easyEntries,
     Field.strClean, Field.coxWatchdogMs, Field.coxResets, Field.coxLastReset, Field.coxLastOrphan, Field.coxOptions,
     Field.coxOptionState, Field.flsStartedAt, Field.flsFlags, Field.flsCounts, Field.imgTrial, Field.imgAttempts, Field.parBp,
     Field.logAreaC, Field.logLastDurable, Field.logDefs, Field.wopKeys, Field.free]
  | .setExtentHint _ _ _ _ _ => [Field.hstLinks, Field.hstHeads, Field.extExtents, Field.extJournalUsed, Field.flsCounts, Field.out]
  | .getExtentState _ _ _ _ => [Field.hstLinks, Field.hstHeads, Field.out]
  | .unsupportedOpcode _ _ => [Field.hstLinks, Field.hstHeads, Field.out]
  | .getHealthInfo _ => [Field.hstLinks, Field.hstHeads, Field.out]
  | .mailboxOpenRequest _ _ _ => reportFields ++ [Field.free]
  | .mailboxOpenReply _ => headEventFields
  | .memEnableWrite _ _ _ => [Field.hstLinks, Field.out]
  | .viralReceived _ => headEventFields ++ [Field.fltQueue, Field.fltLost, Field.fltOverflow, Field.fltHighMark]
  | .ideCheckFailure _ => reportFields
  | .ideKmRequest _ _ => headEventFields
  | .functionLevelReset _ => [Field.hstLinks, Field.hstHeads]
  | .perstAssert _ _ => linkDownFields
  | .perstRelease _ _ => linkDownFields
  | .linkUp _ _ _ => headEventFields
  | .speedChangeRequest _ _ _ => reportFields ++ [Field.objSlots, Field.objEnded, Field.easySlots]
  | .equalisationComplete _ _ => easyFields ++ [Field.objSlots, Field.objEnded, Field.easySlots]
  | .linkRecoveryEntry _ => reportFields ++ [Field.objSlots, Field.objEnded, Field.easySlots]
  | .linkDown _ => linkDownFields
  | .cableRemoved _ => linkDownFields
  | .cableMated _ => linkDownFields
  | .bifurcationRequest _ _ => objectFields ++ answerFields
  | .eqEnable _ _ _ _ _ _ => [Field.hstHeads]
  | .eqDisable _ => [Field.hstHeads]
  | .eqCiWrite _ _ => [Field.hstHeads]
  | .eqStatusClear _ _ _ => [Field.hstHeads]
  | .eqCoalesceIntervalEnd _ => [Field.hstLinks, Field.hstHeads, Field.out]
  | .headStall _ => reportFields
  | .headReset _ => linkDownFields ++ answerFields
  | .headResetHoldEnd _ => [Field.hstLinks, Field.hstHeads]
  | .inFlightCapWrite _ _ => objectFields ++ answerFields
  | .extentOffer _ _ _ _ _ => ticketFields ++ answerFields ++ [Field.hstHeads, Field.extPairs, Field.extExtents, Field.extOffers, Field.extJournalUsed, Field.flsCounts]
  | .regionChangeComplete _ => renewFields ++ [Field.objSlots, Field.objEnded, Field.extPairs, Field.extExtents, Field.extRegions, Field.extOffers, Field.extJournalUsed,
     Field.wbUnits, Field.medGovernor, Field.trcRefreshed, Field.itgRekeyState, Field.itgRekeyLeft, Field.itgRekeyExtents,
     Field.itgWindows, Field.scrRebuilds, Field.scrEngines, Field.flsCounts]
  | .extentRelease _ _ _ _ => ticketFields ++ answerFields ++ [Field.hstHeads, Field.extPairs, Field.extJournalUsed, Field.flsCounts]
  | .extentReleaseForced _ _ _ _ => ticketFields ++ answerFields ++ [Field.hstHeads, Field.extPairs, Field.extJournalUsed, Field.flsCounts]
  | .offerTimeout _ _ => headEventFields ++ [Field.extPairs, Field.extJournalUsed, Field.flsCounts]
  | .extentDrainComplete _ _ => headEventFields ++ [Field.extPairs, Field.extJournalUsed, Field.flsCounts]
  | .regionCreate _ _ => ticketFields ++ answerFields ++ [Field.objDeferred, Field.extRegions, Field.parWrites]
  | .regionMaskChange _ _ => ticketFields ++ answerFields ++ [Field.objDeferred, Field.extRegions, Field.parWrites]
  | .regionDelete _ => ticketFields ++ answerFields ++ [Field.objDeferred, Field.extRegions, Field.parWrites]
  | .configCommit _ => ticketFields ++ answerFields ++ flashFields ++ [Field.objVals, Field.objShadow, Field.objLabel, Field.objCustodianSet, Field.objRestoring, Field.pwrHaltDrivers,
     Field.thmLimits, Field.hstPorts, Field.wbHighWater, Field.coxWatchdogMs, Field.flsOptionWrite, Field.parWrites,
     Field.logDefs, Field.tlyWinDiscard, Field.wopPlca, Field.wopConflict]
  | .keelBridgeAccess _ _ _ => [Field.out, Field.free]
  | .keelBridgeTimeout _ _ => [Field.out]
  | .faultMessageTaken => fenceFields ++ fltGroup ++ [Field.stgSrams, Field.easyStopUnits]
  | .fatalLineAssert _ => reportFields
  | .clockLost _ => reportFields ++ [Field.pwrHaltDrivers, Field.pwrLostClocks, Field.pwrKeelFallback, Field.wbFlushBroken]
  | .stickyBitPersist _ => [Field.fltStickyDue, Field.parQueue, Field.parSeqs]
  | .stickyBitClear _ _ => ticketFields ++ answerFields ++ [Field.objDeferred, Field.fltSticky, Field.fltStickyDue, Field.fltStickyAgain, Field.parWrites]
  | .quietTimerExpiry _ => reportFields ++ [Field.objSlots, Field.objEnded, Field.stgSrams, Field.fltUnits, Field.fltCmdSlots]
  | .probeComplete _ _ => mapFields ++ linkDownFields ++ [Field.pwrLostClocks, Field.scrRebuilds, Field.stgSrams, Field.stgRestoring, Field.fltUnits, Field.fltSources,
     Field.fltCmdSlots, Field.wopPlca]
  | .probeTimeout _ => reportFields ++ [Field.objSlots, Field.objEnded, Field.stgSrams, Field.stgRestoring, Field.fltUnits, Field.fltCmdSlots]
  | .operatorFence _ _ => fenceFields ++ ticketFields ++ [Field.objWaiting, Field.stgSrams, Field.fltUnits, Field.fltCmdSlots]
  | .operatorReadmit _ _ => reportFields ++ ticketFields ++ [Field.objWaiting, Field.stgSrams, Field.fltUnits, Field.fltCmdSlots]
  | .latchRelease _ _ => ticketFields ++ answerFields ++ [Field.fltUnits]
  | .engineTimeout _ _ => reportFields
  | .easyAllEnterCommand _ => easyFields ++ ticketFields ++ [Field.objWaiting, Field.easyStopUnits, Field.easySlots]
  | .easyAllLeaveCommand _ => easyFields ++ ticketFields ++ [Field.objWaiting, Field.easyStopUnits, Field.easySlots]
  | .t4ClearTimer => mapFields ++ linkDownFields ++ [Field.pwrSeqState, Field.pwrStep, Field.pwrPaused, Field.seatTransactions, Field.strPowered]
  | .stagingParityRecomputeDone _ => [Field.stgParityDue, Field.stgParity]
  | .wearBandReloadDone _ => [Field.trcAct, Field.trcPeak, Field.trcPeakBase, Field.stgBandDue]
  | .stagingPartRestoreDone _ => mapFields ++ linkDownFields ++ stgGroup ++ [Field.pwrLostClocks, Field.wbSinglePairs, Field.itgNodes, Field.scrRebuilds, Field.fltUnits, Field.fltSources,
     Field.fltCmdSlots, Field.wopPlca]
  | .sramInitDone _ _ => mapFields ++ [Field.scrSelfTest, Field.scrSelfTestAt, Field.stgSrams, Field.strKeelFailed]
  | .sramPatrol _ _ _ _ => imageStartFields ++ abandonFields ++ [Field.wbEnts, Field.itgNodes, Field.itgCache, Field.itgAlarms, Field.itgRecovered, Field.stgSrams, Field.tlyCounts,
     Field.free]
  | .sense _ _ _ _ _ _ => [Field.medPlanes, Field.medDies, Field.medChannels, Field.trcMap, Field.trcAct, Field.trcCounted, Field.trcMigs,
     Field.scrEcc, Field.scrRewrite, Field.out]
  | .abort _ _ _ => [Field.medPlanes]
  | .esense _ _ _ _ _ => [Field.medPlanes, Field.medDies, Field.medChannels, Field.trcMap, Field.trcAct, Field.trcCounted, Field.trcMigs,
     Field.scrEcc, Field.scrRewrite, Field.out]
  | .hsense _ _ _ => [Field.medPlanes, Field.medChannels, Field.trcAct, Field.trcCounted, Field.trcMigs, Field.out]
  | .load _ _ _ _ => [Field.medPlanes, Field.medChannels]
  | .prog _ _ _ => [Field.medPlanes, Field.medChannels, Field.medGovernor, Field.medReserved]
  | .clrseg _ _ _ _ => [Field.medPlanes, Field.medChannels, Field.medGovernor, Field.medReserved, Field.trcEpoch]
  | .status _ _ => [Field.out]
  | .trim _ _ _ => [Field.out, Field.free]
  | .check _ _ _ => [Field.medPlanes, Field.medChannels, Field.medChecks]
  | .abortReport _ _ _ _ _ => mediumFields ++ [Field.medChecksWear, Field.free]
  | .planeOperationEnd _ _ _ _ => mediumFields ++ [Field.medFailures, Field.trcAbandoned, Field.free]
  | .senseTimeout _ => abandonFields ++ [Field.rdpReads, Field.trcReadsOn, Field.itgCache, Field.itgAlarms, Field.itgTagFails, Field.itgRecovered, Field.itgCounts,
     Field.scrEcc, Field.scrRewrite]
  | .abortTimeout _ _ _ => abandonFields ++ [Field.rdpReads, Field.trcReadsOn, Field.itgCache, Field.itgAlarms, Field.itgTagFails, Field.itgRecovered, Field.itgCounts,
     Field.scrEcc, Field.scrRewrite]
  | .programStatusTimeout _ _ _ => reportFields ++ [Field.medGranules, Field.medPlanes, Field.medDies, Field.medGovernor, Field.medReserved, Field.medChecksWear,
     Field.trcEpoch, Field.free]
  | .commandParityError _ _ _ => [Field.hstHeads, Field.rdpReads, Field.medChannels]
  | .channelTimingError _ _ => reportFields ++ [Field.medChannels]
  | .channelTrainingDone _ => mapFields
  | .channelTrainingTimeout _ => reportFields
  | .coalescingDelayExpiry _ => [Field.wbEnts]
  | .drainUnitSelect _ _ _ _ _ => abandonFields ++ bufferFields ++ [Field.wbUnits, Field.wbNextUnit, Field.trcCounted, Field.itgBlocks, Field.itgNodes, Field.itgRoot, Field.itgHigh,
     Field.itgReserve, Field.itgAlarms, Field.itgTagFails, Field.itgRecovered, Field.itgOverflows, Field.itgCounts, Field.scrEcc,
     Field.scrRewrite, Field.stgParity]
  | .drainProgramsStart _ => [Field.wbUnits, Field.wbCounts, Field.medPlanes, Field.medReserved]
  | .drainUnitComplete _ => recordFields ++ [Field.objSlots, Field.objEnded, Field.hstPorts, Field.extRegions, Field.wbEnts, Field.wbUnits, Field.wbInProgram,
     Field.wbDirty, Field.wbHighWater, Field.wbCostHeld, Field.wbLedgerHeld, Field.itgRekeyState, Field.itgRekeyLeft,
     Field.itgRekeyExtents, Field.scrRebuilds]
  | .starvationThreshold _ => reportFields ++ [Field.wbUnits, Field.wbStarvedCount]
  | .nodeHoldExpiry _ => [Field.wbEnts]
  | .ledgerDelta => [Field.wbLastListed, Field.wbWriting, Field.wbLedgerSeq, Field.wbLedgerNext]
  | .ledgerFullSet => [Field.wbWriting, Field.wbLedgerSeq, Field.wbLedgerNext]
  | .ledgerRecordDurable _ => [Field.wbDurable, Field.wbWriting, Field.wbLedger, Field.wbDurableSeq]
  | .inputDip => [Field.pwrDip, Field.hstPorts, Field.wbLastListed, Field.wbWriting, Field.wbLedgerSeq, Field.wbLedgerNext, Field.wbDipHeld]
  | .sealRecordDurable _ => [Field.hstPorts, Field.hstHeads, Field.wbEnts, Field.wbDurable, Field.wbLastListed, Field.wbWriting, Field.wbLedger,
     Field.wbLedgerSeq, Field.wbLedgerNext, Field.wbDurableSeq, Field.wbDipHeld, Field.out]
  | .inputDipRecovered => reportFields ++ [Field.pwrDip, Field.pwrShortDips, Field.wbDipHeld]
  | .flushComplete => mediumFields ++ [Field.objSlots, Field.objEnded, Field.pwrSeqState, Field.pwrStep, Field.pwrFastDown, Field.pwrMediaOnlyDown,
     Field.pwrMediaOnlyUp, Field.bankState, Field.bankMv, Field.bankMeasuring, Field.bankDeferred, Field.bankFlushEndMv,
     Field.bankFlushUs, Field.bankFlushMark, Field.wbDirty, Field.wbDurable, Field.wbLastListed, Field.wbWriting, Field.wbLedger,
     Field.wbLedgerSeq, Field.wbLedgerNext, Field.wbDurableSeq, Field.trcPeakCkpt, Field.trcPeakCkptB, Field.trcBaseCkpt,
     Field.trcActCkpt, Field.trcActCkptB, Field.trcCounted, Field.trcAbandoned, Field.itgRecord, Field.easySlots, Field.free]
  | .keelTurnOn => coreStartFields ++ [Field.pwrSwitchClosed, Field.pwrKeelPath, Field.pwrInputGood, Field.pwrInputLow, Field.pwrResetOnGood]
  | .inputLoss => powerLostFields ++ [Field.pwrSwitchClosed, Field.pwrInputGood, Field.pwrInputLow, Field.pwrDip, Field.pwrLossCount, Field.pwrFastDown,
     Field.pwrMediaOnlyDown, Field.pwrMediaOnlyUp, Field.pwrResetAsked, Field.pwrResetOnGood, Field.bankDeferred,
     Field.bankFlushStartMv, Field.bankFlushMark]
  | .overvoltage => powerLostFields ++ [Field.pwrSwitchClosed, Field.pwrInputGood, Field.pwrOvervoltage, Field.pwrDip, Field.pwrLossCount, Field.pwrFastDown,
     Field.pwrMediaOnlyDown, Field.pwrMediaOnlyUp, Field.pwrResetAsked, Field.pwrResetOnGood, Field.bankDeferred,
     Field.bankFlushStartMv, Field.bankFlushMark]
  | .overvoltageClear => coreStartFields ++ [Field.pwrSwitchClosed, Field.pwrKeelPath, Field.pwrInputGood, Field.pwrOvervoltage, Field.pwrResetOnGood]
  | .keelTurnOff => powerLostFields ++ [Field.pwrSwitchClosed, Field.pwrInputGood, Field.pwrInputLow]
  | .breakerTrip => powerLostFields ++ [Field.pwrSwitchClosed, Field.pwrKeelPath, Field.pwrBreaker, Field.pwrInputGood, Field.pwrDip, Field.pwrTripCount,
     Field.pwrFastDown, Field.pwrMediaOnlyDown, Field.pwrMediaOnlyUp, Field.pwrResetAsked, Field.pwrResetOnGood,
     Field.bankDeferred, Field.bankFlushStartMv, Field.bankFlushMark]
  | .breakerLatchRelease => [Field.pwrKeelPath, Field.pwrBreaker]
  | .bladePairImbalance _ _ => reportFields ++ [Field.pwrPairA, Field.pwrPairB]
  | .inputGoodAgain => coreStartFields ++ [Field.pwrSwitchClosed, Field.pwrKeelPath, Field.pwrInputGood, Field.pwrInputLow, Field.pwrResetOnGood]
  | .inputGoodResetTimer _ => resetFields ++ [Field.flsCounts, Field.logAreaC, Field.logLastDurable, Field.free]
  | .bankBelow40v => powerLostFields
  | .bankBelow41v => [Field.parBp, Field.parQueue]
  | .corePowerOffRequest => easyFields ++ answerFields ++ [Field.pwrReqOff, Field.pwrSeqState, Field.pwrStep, Field.pwrFastDown, Field.pwrMediaOnlyDown, Field.pwrMediaOnlyUp,
     Field.easyThenDown]
  | .corePowerOnRequest => coreStartFields ++ [Field.objWaiting, Field.pwrReqOff]
  | .gaSample _ => reportFields ++ [Field.pwrGaPins, Field.pwrGaNow, Field.pwrGaDiffer, Field.pwrGaMismatch]
  | .modrstAssert _ _ => resetFields ++ [Field.easyEntries, Field.flsCounts, Field.logAreaC, Field.logLastDurable, Field.free]
  | .modrstRelease _ => resetFields ++ [Field.flsCounts, Field.logAreaC, Field.logLastDurable, Field.free]
  | .moduleReset _ _ _ => resetFields ++ [Field.easyEntries, Field.flsCounts, Field.logAreaC, Field.logLastDurable, Field.free]
  | .haltNLow _ _ => reportFields ++ [Field.pwrReqOff, Field.pwrSeqState, Field.pwrStep, Field.pwrFastDown, Field.pwrMediaOnlyDown, Field.pwrMediaOnlyUp,
     Field.pwrHaltDrivers, Field.pwrHaltSeen, Field.pwrHaltHold, Field.pwrHaltOutside, Field.pwrCounts, Field.pwrHaltCount,
     Field.pwrHaltSource, Field.pwrHaltTime, Field.easyThenDown]
  | .haltNSwitchWrite _ => objectFields ++ answerFields
  | .extestLoad _ => reportFields ++ [Field.pwrTap]
  | .keelRailsQualified _ _ _ => resetFields ++ [Field.timTimeCells]
  | .keelRailRetry => []
  | .domainQualified _ _ => fenceFields ++ [Field.pwrSeqState, Field.pwrStep, Field.pwrFastDown, Field.pwrMediaOnlyDown, Field.pwrLatch, Field.pwrHaltDrivers,
     Field.seatSeats, Field.seatTransactions, Field.hltState, Field.hltIndicators, Field.stgSrams, Field.fltUnits,
     Field.fltFences, Field.fltCmdSlots, Field.strPowered]
  | .powerGoodDrop _ _ => fenceFields ++ [Field.pwrSeqState, Field.pwrStep, Field.pwrFastDown, Field.pwrMediaOnlyDown, Field.pwrLatch, Field.pwrHaltDrivers,
     Field.pwrCounts, Field.seatSeats, Field.seatTransactions, Field.hltState, Field.hltIndicators, Field.stgSrams,
     Field.fltUnits, Field.fltFences, Field.fltCmdSlots, Field.strPowered]
  | .stepTimeout => fenceFields ++ [Field.pwrSeqState, Field.pwrStep, Field.pwrFastDown, Field.pwrMediaOnlyDown, Field.pwrLatch, Field.pwrHaltDrivers,
     Field.seatSeats, Field.seatTransactions, Field.hltState, Field.hltIndicators, Field.stgSrams, Field.fltUnits,
     Field.fltFences, Field.fltCmdSlots, Field.strPowered]
  | .railFailure _ _ => fenceFields ++ [Field.pwrSeqState, Field.pwrStep, Field.pwrLatch, Field.pwrHaltDrivers, Field.seatSeats, Field.seatTransactions,
     Field.hltState, Field.hltIndicators, Field.stgSrams, Field.fltUnits, Field.fltFences, Field.fltCmdSlots, Field.strPowered]
  | .powerDownStep _ => resetFields ++ [Field.bankMv, Field.bankKeelMs, Field.wbLedger, Field.medGranules, Field.medClearing, Field.trcAct, Field.trcPeak,
     Field.trcDirtyPts, Field.trcRetired, Field.fltClasses, Field.fltLastC3, Field.fltLastC3At, Field.fltLastC3Cycle,
     Field.easyEntries, Field.flsCounts, Field.logAreaC, Field.logLastDurable, Field.free]
  | .railFailToFall _ _ => reportFields ++ [Field.pwrLatch, Field.pwrHaltDrivers, Field.seatSeats, Field.hltState, Field.hltIndicators]
  | .seatPingTimer => [Field.seatSeats, Field.seatTransactions]
  | .domainStatusPoll => [Field.seatTransactions]
  | .seatBusFailure _ _ => reportFields ++ [Field.pwrLatch, Field.pwrHaltDrivers, Field.seatSeats, Field.seatCrcErrors, Field.seatRetries, Field.seatNotResponding,
     Field.hltState, Field.hltIndicators]
  | .seatBusStuck _ => reportFields ++ [Field.pwrLatch, Field.pwrHaltDrivers, Field.seatSeats, Field.seatCrcErrors, Field.seatRetries, Field.seatNotResponding,
     Field.hltState, Field.hltIndicators]
  | .ping _ => [Field.seatSeats, Field.seatTransactions, Field.out]
  | .domainOn _ _ => [Field.pwrDomains, Field.seatSeats, Field.seatTransactions, Field.out]
  | .domainOff _ _ => linkDownFields ++ [Field.seatSeats, Field.seatTransactions, Field.medChannels, Field.stgSrams]
  | .domainStatus _ _ => [Field.seatSeats, Field.seatTransactions, Field.out]
  | .readV _ _ => [Field.seatSeats, Field.seatTransactions, Field.out]
  | .readI _ _ => [Field.seatSeats, Field.seatTransactions, Field.out]
  | .margin _ _ _ => recordFields ++ [Field.pwrDomains, Field.seatSeats, Field.seatTransactions]
  | .charger _ _ => [Field.seatSeats, Field.seatTransactions, Field.bankState, Field.bankBoost, Field.out]
  | .capMeasure _ => [Field.seatSeats, Field.seatTransactions, Field.bankState, Field.bankMeasuring, Field.bankDeferred, Field.out]
  | .capResult _ => [Field.seatSeats, Field.seatTransactions, Field.out]
  | .haltRelease _ => [Field.pwrHaltDrivers, Field.seatSeats, Field.seatTransactions, Field.out]
  | .faultRead _ => [Field.seatSeats, Field.seatTransactions, Field.out]
  | .seatSelfShutdown _ => linkDownFields ++ [Field.medChannels, Field.stgSrams]
  | .latchClear _ => coreStartFields ++ ticketFields ++ [Field.objWaiting, Field.pwrLatch, Field.hltState, Field.hltIndicators]
  | .marginingEnable _ => answerFields ++ [Field.pwrDomains, Field.pwrMarginOn]
  | .marginRequest _ _ => answerFields ++ [Field.pwrDomains, Field.seatTransactions]
  | .bankReady _ => headEventFields ++ [Field.bankState, Field.bankMv, Field.bankNotReady, Field.bankMeasuring, Field.bankDeferred, Field.hltState,
     Field.hltIndicators, Field.hltLifeUsed, Field.hltEndHours, Field.hltGoverning, Field.hltPredictedAt]
  | .bankReadyTimeout => reportFields ++ [Field.bankState, Field.bankNotReady, Field.hltState, Field.hltIndicators, Field.hltLifeUsed, Field.hltEndHours,
     Field.hltGoverning, Field.hltPredictedAt]
  | .bankLowVoltage _ => reportFields ++ [Field.bankState, Field.bankMv, Field.bankNotReady, Field.hltState, Field.hltIndicators, Field.hltLifeUsed,
     Field.hltEndHours, Field.hltGoverning, Field.hltPredictedAt]
  | .boostFault => reportFields ++ [Field.bankState, Field.bankNotReady, Field.hltState, Field.hltIndicators, Field.hltLifeUsed, Field.hltEndHours,
     Field.hltGoverning, Field.hltPredictedAt]
  | .capacitanceMeasurementDue => [Field.bankState, Field.bankMeasuring, Field.bankDeferred]
  | .measureNow _ => ticketFields ++ answerFields ++ [Field.bankState, Field.bankMeasuring, Field.bankDeferred]
  | .measurementComplete _ _ => reportFields ++ [Field.objSlots, Field.objEnded, Field.bankState, Field.bankMv, Field.bankUF, Field.bankUFRaw, Field.bankEsr, Field.bankTemp,
     Field.bankMeasuredAt, Field.bankMeasured, Field.bankNotReady, Field.bankMeasuring, Field.bankDeferred, Field.bankCapTime,
     Field.bankCapStep, Field.hltState, Field.hltIndicators, Field.hltC0, Field.hltPoints, Field.hltLifeUsed, Field.hltFitted,
     Field.hltSlope, Field.hltBankHours, Field.hltEndHours, Field.hltGoverning, Field.hltPredictedAt]
  | .thermalConversion _ _ _ => mapFields ++ linkDownFields ++ [Field.pwrSeqState, Field.pwrStep, Field.pwrFastDown, Field.pwrMediaOnlyDown, Field.pwrPaused, Field.seatTransactions,
     Field.bankState, Field.bankMeasuring, Field.bankDeferred, Field.thmInputs, Field.thmLevel, Field.thmCounts, Field.hltState,
     Field.hltIndicators, Field.medPlanes, Field.medReserved, Field.strPowered]
  | .levelFall _ => mapFields ++ linkDownFields ++ [Field.pwrSeqState, Field.pwrStep, Field.pwrFastDown, Field.pwrMediaOnlyDown, Field.pwrPaused, Field.seatTransactions,
     Field.bankState, Field.bankMeasuring, Field.bankDeferred, Field.thmInputs, Field.thmLevel, Field.thmCounts, Field.hltState,
     Field.hltIndicators, Field.medPlanes, Field.medReserved, Field.strPowered]
  | .limitsWrite _ _ _ _ _ _ => ticketFields ++ answerFields ++ [Field.objDeferred, Field.thmLimits, Field.parWrites]
  | .healthRecompute => headEventFields ++ [Field.hltState, Field.hltIndicators, Field.hltPoints, Field.hltPeaks, Field.hltLifeUsed, Field.hltMediaHours,
     Field.hltFitted, Field.hltSlope, Field.hltBankHours, Field.hltEndHours, Field.hltGoverning, Field.hltPredictedAt]
  | .migrationStart _ => [Field.trcMap, Field.trcMigs, Field.trcLastRow]
  | .migrationRowCopy _ _ => reportFields ++ [Field.wbInProgram, Field.medGranules, Field.medPlanes, Field.medDies, Field.medChannels, Field.medClearing,
     Field.medReserved, Field.medWork, Field.trcMap, Field.trcCkptA, Field.trcCkptB, Field.trcAct, Field.trcPeak,
     Field.trcCounted, Field.trcEpoch, Field.trcDirtyPts, Field.trcMigs, Field.trcCompleted, Field.trcRetired,
     Field.trcSpareRows, Field.scrEcc, Field.scrRewrite, Field.scrEngines]
  | .sealVerified _ => [Field.hstPorts, Field.wbEnts, Field.wbDirty, Field.wbHighWater, Field.wbCostHeld, Field.wbLedgerHeld, Field.trcMigs]
  | .sourceReadsDrained _ => [Field.medPlanes, Field.medClearing, Field.medReserved, Field.trcDirectory, Field.trcMigs, Field.parQueue, Field.parSeqs]
  | .sourceClearComplete _ => [Field.medGranules, Field.medDies, Field.trcMap, Field.trcCkptA, Field.trcAct, Field.trcPeak, Field.trcEpoch, Field.trcMigs,
     Field.free]
  | .checkpointVerified _ => reportFields ++ [Field.medGranules, Field.medDies, Field.medChannels, Field.trcMap, Field.trcCkptB, Field.trcAct, Field.trcPeak,
     Field.trcEpoch, Field.trcDirtyPts, Field.trcMigs, Field.trcCompleted, Field.trcRetired, Field.trcSpareRows]
  | .wearEpoch => [Field.trcAct, Field.trcPeak, Field.trcEpoch, Field.trcMigs, Field.free]
  | .wearCheckpointWriteback => [Field.trcPeakCkpt, Field.trcPeakCkptB, Field.trcBaseCkpt, Field.trcActCkpt, Field.trcActCkptB]
  | .heatPeriod => [Field.trcAct]
  | .refreshVisit _ _ => [Field.extExtents, Field.wbInProgram, Field.medPlanes, Field.medReserved, Field.medWork, Field.trcMap, Field.trcAct,
     Field.trcCounted, Field.trcMigs, Field.trcSweep, Field.scrRewrite, Field.scrEngines]
  | .rekeyRequest _ _ => ticketFields ++ answerFields ++ [Field.extRegions, Field.itgRekeyRegion, Field.itgRekeyState, Field.itgRekeyLeft, Field.itgRekeyExtents, Field.itgRekeySlot]
  | .rekeySpan _ _ _ _ => abandonFields ++ bufferFields ++ [Field.objSlots, Field.objEnded, Field.extRegions, Field.wbUnits, Field.wbNextUnit, Field.trcCounted, Field.itgBlocks,
     Field.itgNodes, Field.itgRoot, Field.itgAlarms, Field.itgTagFails, Field.itgRecovered, Field.itgRekeyState,
     Field.itgRekeyLeft, Field.itgRekeyExtents, Field.itgCounts, Field.scrEcc, Field.scrRewrite, Field.stgParity]
  | .reEstablishment _ => renewFields ++ [Field.itgReestablished]
  | .debugWindowOpen _ _ _ _ => reportFields ++ answerFields ++ [Field.itgWindows]
  | .debugWindowClose _ => reportFields ++ answerFields ++ [Field.itgWindows]
  | .debugWindowExpiry _ => reportFields ++ [Field.itgWindows]
  | .debugRead _ _ => reportFields ++ [Field.itgAlarms, Field.itgTagFails, Field.itgCounts]
  | .rootDecisionAdopt _ => reportFields ++ ticketFields ++ [Field.objWaiting, Field.medGranules, Field.medDies, Field.trcMap, Field.trcCkptA, Field.trcCkptB, Field.trcAct,
     Field.trcEpoch, Field.itgRootState, Field.itgRecord, Field.strRootDone]
  | .rootDecisionReject _ => reportFields ++ ticketFields ++ [Field.objWaiting, Field.medGranules, Field.medDies, Field.trcMap, Field.trcCkptA, Field.trcCkptB, Field.trcAct,
     Field.trcEpoch, Field.itgRootState, Field.itgRecord, Field.strRootDone]
  | .scrubRewrite _ => [Field.wbInProgram, Field.medPlanes, Field.medReserved, Field.medWork, Field.trcMap, Field.trcAct, Field.trcCounted,
     Field.trcMigs, Field.scrRewrite]
  | .rebuildStep _ _ => reportFields ++ [Field.wbInProgram, Field.medGranules, Field.medPlanes, Field.medDies, Field.medClearing, Field.medReserved, Field.medWork,
     Field.trcMap, Field.trcAct, Field.trcCounted, Field.trcEpoch, Field.trcMigs, Field.scrEcc, Field.scrRewrite,
     Field.scrRebuilds, Field.scrEngines, Field.fltUnits]
  | .scrubDpaPass _ _ _ _ => ticketFields ++ answerFields ++ [Field.scrPasses]
  | .scrubPhysicalPass _ _ _ _ => ticketFields ++ answerFields ++ [Field.scrPasses]
  | .scrubRow _ _ => abandonFields ++ bufferFields ++ [Field.objSlots, Field.objEnded, Field.trcCounted, Field.itgAlarms, Field.scrEcc, Field.scrRewrite, Field.scrHeaderRepairs,
     Field.scrPasses, Field.scrEngines, Field.scrParity]
  | .scrubCancel _ => answerFields ++ [Field.scrPasses]
  | .patrolRow _ _ _ => abandonFields ++ bufferFields ++ [Field.trcCounted, Field.itgAlarms, Field.scrEcc, Field.scrRewrite, Field.scrHeaderRepairs, Field.scrPatrol,
     Field.scrEngines, Field.scrParity]
  | .fullScanComplete _ _ => reportFields ++ [Field.medGranules, Field.medDies, Field.medChannels, Field.trcMap, Field.trcCkptA, Field.trcCkptB, Field.trcAct,
     Field.trcPeak, Field.trcPeakBase, Field.trcPeakCkpt, Field.trcPeakCkptB, Field.trcBaseCkpt, Field.trcActCkpt,
     Field.trcActCkptB, Field.trcDirectory, Field.trcScans, Field.trcEpoch, Field.trcDirtyPts, Field.trcRetired,
     Field.trcLastScan, Field.trcSpareRows, Field.itgBlocks, Field.itgNodes, Field.itgRoot, Field.stgParity, Field.strPhase,
     Field.strMapsLoaded, Field.strTimes]
  | .dataReady => renewFields ++ mediumFields ++ [Field.objSlots, Field.objEnded, Field.pwrSeqState, Field.pwrStep, Field.pwrFastDown, Field.pwrMediaOnlyDown,
     Field.pwrMediaOnlyUp, Field.bankState, Field.bankMv, Field.bankMeasuring, Field.bankDeferred, Field.bankFlushEndMv,
     Field.bankFlushUs, Field.bankFlushMark, Field.extRegions, Field.wbDurable, Field.wbLastListed, Field.wbWriting,
     Field.wbLedger, Field.wbLedgerSeq, Field.wbLedgerNext, Field.wbDurableSeq, Field.trcPeakCkpt, Field.trcPeakCkptB,
     Field.trcBaseCkpt, Field.trcActCkpt, Field.trcActCkptB, Field.trcCounted, Field.trcDecided, Field.itgRecord,
     Field.itgReestablished, Field.itgRekeyState, Field.itgRekeyLeft, Field.itgRekeyExtents, Field.scrRebuilds,
     Field.easyThenDown, Field.easySlots, Field.strPhase, Field.strReview, Field.strDataReady, Field.strTimes, Field.free]
  | .suspectRelease _ _ _ => renewFields ++ ticketFields ++ [Field.objWaiting, Field.trcDecided, Field.itgReestablished, Field.strPhase, Field.strReview]
  | .suspectDiscard _ _ _ => renewFields ++ ticketFields ++ [Field.objWaiting, Field.trcDecided, Field.itgReestablished, Field.strPhase, Field.strReview]
  | .suspectListRead _ => [Field.objSelectors, Field.out]
  | .coxResetRelease _ _ => reportFields ++ flashFields ++ [Field.objVals, Field.objSlots, Field.objEnded, Field.pwrSeqState, Field.pwrLatch, Field.pwrHaltCount, Field.hltC0,
     Field.hltPoints, Field.extRegions, Field.wbHostShutdown, Field.medChannels, Field.trcDirectory, Field.itgHigh,
     Field.itgReserve, Field.itgRecord, Field.itgRekeyRegion, Field.itgRekeyState, Field.itgRekeyLeft, Field.itgRekeyExtents,
     Field.scrRebuilds, Field.fltUnits, Field.coxState, Field.coxDead, Field.coxIScratch, Field.coxDScratch, Field.coxICache,
     Field.coxDCache, Field.coxWatchdogMs, Field.coxResets, Field.coxLastReset, Field.coxLastOrphan, Field.coxOptions,
     Field.coxOptionState, Field.flsCounts, Field.flsOptionWords, Field.imgA, Field.imgB, Field.imgActiveB, Field.imgTrial,
     Field.imgAttempts, Field.imgRunsB, Field.parBp, Field.parLost, Field.logAreaF, Field.logClearing]
  | .managementReady => resetFields ++ [Field.objLabel, Field.objCustodianSet, Field.thmLimits, Field.extJournalUsed, Field.wbSinglePairs, Field.wbHostShutdown,
     Field.wbLastDirty, Field.wbDirtyCount, Field.medGranules, Field.medClearing, Field.trcMap, Field.trcCkptA, Field.trcCkptB,
     Field.trcAct, Field.trcPeak, Field.trcPeakBase, Field.trcDirtyPts, Field.trcRetired, Field.trcDecided, Field.itgBlocks,
     Field.itgNodes, Field.itgRoot, Field.itgReserve, Field.itgRecord, Field.itgAlarms, Field.itgTagFails, Field.itgRecovered,
     Field.itgReestablished, Field.itgRekeyRegion, Field.itgRekeyState, Field.itgRekeyLeft, Field.itgRekeyExtents,
     Field.stgParity, Field.fltClasses, Field.fltLastC3, Field.fltLastC3At, Field.fltLastC3Cycle, Field.easyEntries,
     Field.strClean, Field.coxWatchdogMs, Field.coxResets, Field.coxLastReset, Field.coxLastOrphan, Field.coxOptions,
     Field.coxOptionState, Field.flsStartedAt, Field.flsFlags, Field.flsCounts, Field.imgTrial, Field.imgAttempts, Field.parBp,
     Field.logAreaC, Field.logLastDurable, Field.logDefs, Field.wopKeys, Field.free]
  | .watchdogExpiry => imageStartFields ++ reportFields
  | .orphanLimit => reportFields ++ [Field.coxOrphanLimit]
  | .flashProgramDone _ => reportFields ++ flashFields ++ [Field.objSlots, Field.objEnded, Field.coxOptionState, Field.flsCounts, Field.flsOptionWords, Field.flsOptionWrite,
     Field.flsOptionCut]
  | .flashEraseDone _ => recordFields ++ flashFields ++ [Field.objSlots, Field.objEnded, Field.flsCounts, Field.flsOptionWords, Field.imgA, Field.imgB, Field.imgSlot,
     Field.logAreaF, Field.logClearing]
  | .flashSuspend => flashFields ++ [Field.flsDepth]
  | .flashResume => flashFields ++ [Field.flsDepth]
  | .journalCompaction => [Field.extJournalUsed, Field.extJournalGen, Field.flsCounts]
  | .optionsWrite _ _ _ _ _ _ => ticketFields ++ answerFields ++ flashFields ++ [Field.flsOptionWrite]
  | .updateBegin _ _ => ticketFields ++ answerFields ++ flashFields ++ [Field.imgA, Field.imgB, Field.imgSlot]
  | .imageData _ _ => answerFields ++ [Field.flsCounts, Field.imgA, Field.imgB]
  | .imageSegment _ _ => answerFields ++ [Field.flsCounts, Field.imgA, Field.imgB]
  | .updateCommit _ _ _ => ticketFields ++ answerFields ++ [Field.flsCounts, Field.imgA, Field.imgB]
  | .activate _ => imageStartFields ++ ticketFields ++ [Field.hstLinks, Field.imgTrial, Field.imgAttempts, Field.imgActivateSlot]
  | .trialConfirm => [Field.imgA, Field.imgB, Field.imgActiveB, Field.imgTrial, Field.imgAttempts, Field.parQueue, Field.parSeqs]
  | .pageWriteDone _ => reportFields ++ [Field.parRetired, Field.parSpares, Field.parLost, Field.parWrites]
  | .operatingTimeCellWrite => [Field.timCellDue, Field.timCellWrites, Field.timTimeCells, Field.parWrites]
  | .blockProtectionWrite _ => answerFields ++ [Field.parBp]
  | .configObjectWrite _ _ _ _ => resetFields ++ [Field.objLabel, Field.objCustodianSet, Field.thmLimits, Field.extJournalUsed, Field.wbSinglePairs, Field.wbLastDirty,
     Field.wbDirtyCount, Field.medGranules, Field.medClearing, Field.trcMap, Field.trcCkptA, Field.trcCkptB, Field.trcAct,
     Field.trcPeak, Field.trcPeakBase, Field.trcDirtyPts, Field.trcRetired, Field.trcDecided, Field.itgBlocks, Field.itgNodes,
     Field.itgRoot, Field.itgReserve, Field.itgRecord, Field.itgAlarms, Field.itgTagFails, Field.itgRecovered,
     Field.itgReestablished, Field.itgRekeyRegion, Field.itgRekeyState, Field.itgRekeyLeft, Field.itgRekeyExtents,
     Field.stgParity, Field.fltClasses, Field.fltLastC3, Field.fltLastC3At, Field.fltLastC3Cycle, Field.easyEntries,
     Field.strClean, Field.coxWatchdogMs, Field.coxResets, Field.coxLastReset, Field.coxLastOrphan, Field.coxOptions,
     Field.coxOptionState, Field.flsStartedAt, Field.flsFlags, Field.flsCounts, Field.imgTrial, Field.imgAttempts, Field.parBp,
     Field.logAreaC, Field.logLastDurable, Field.logDefs, Field.wopKeys, Field.free]
  | .persistWriteDeferredDone _ => recordFields ++ [Field.objVals, Field.objShadow, Field.objLabel, Field.objSlots, Field.objSelectors, Field.objDeferred, Field.objWaiting,
     Field.objEnded, Field.objCustodianSet, Field.pwrHaltDrivers, Field.thmLimits, Field.hstPorts, Field.extRegions,
     Field.wbHighWater, Field.fltSticky, Field.fltStickyDue, Field.fltStickyAgain, Field.coxWatchdogMs, Field.parWrites,
     Field.logDefs, Field.tlyWinDiscard, Field.wopPlca, Field.wopConflict, Field.wopKeys, Field.wopKeyDraws, Field.wopBulks,
     Field.free]
  | .noOperation _ => ticketFields ++ answerFields
  | .restoreDefaults _ => ticketFields ++ answerFields ++ flashFields ++ [Field.objVals, Field.objShadow, Field.objLabel, Field.objCustodianSet, Field.objRestoring, Field.pwrHaltDrivers,
     Field.thmLimits, Field.hstPorts, Field.wbHighWater, Field.coxWatchdogMs, Field.flsOptionWrite, Field.parWrites,
     Field.logDefs, Field.tlyWinDiscard, Field.wopPlca, Field.wopConflict]
  | .sanitizeExtents _ _ _ => renewFields ++ ticketFields ++ [Field.objWaiting, Field.extRegions, Field.wbUnits, Field.medGovernor, Field.trcRefreshed, Field.itgRekeyState,
     Field.itgRekeyLeft, Field.itgRekeyExtents, Field.itgWindows, Field.scrRebuilds, Field.scrEngines]
  | .logbookWriteOut _ => recordFields ++ [Field.flsCounts, Field.logAreaC, Field.logAreaF, Field.logLastDurable]
  | .stagingLoss => recordFields
  | .windowRead _ => [Field.objSelectors, Field.out]
  | .areaFClear _ => ticketFields ++ answerFields ++ flashFields ++ [Field.logClearing]
  | .snapshotDefinitionWrite _ _ _ _ => ticketFields ++ answerFields ++ [Field.objDeferred, Field.parWrites, Field.logDefs]
  | .snapshotNow _ => answerFields
  | .snapshotPeriodic _ => [Field.parQueue, Field.parSeqs, Field.logStaged, Field.logNext, Field.logReserve, Field.logNotStaged, Field.logLostNow,
     Field.logLostFirst, Field.logCounts]
  | .tallySample => [Field.tlyNumber, Field.tlyTime, Field.tlySnap, Field.tlyLatched, Field.tlyWinStart, Field.tlyWinDiscard, Field.tlyCounts,
     Field.tlyWear]
  | .bandwidthWindowEnd => [Field.tlyWinStart, Field.tlyRates, Field.tlyWinSnap, Field.tlyCounts]
  | .solicit _ _ _ _ => [Field.wopFrames, Field.wopCounts, Field.wopAnswerDue, Field.out]
  | .advertiseAnswerTimer => [Field.wopFrames, Field.wopAnswerDue, Field.out]
  | .advertisePeriod => [Field.wopFrames, Field.out]
  | .advertise _ _ _ => reportFields ++ [Field.wopConflict]
  | .openSession _ _ _ _ _ _ => reportFields ++ [Field.wopTagFails, Field.free]
  | .close _ _ _ => recordFields ++ [Field.objSlots, Field.objSelectors, Field.objEnded, Field.hstLinks, Field.wopTagFails, Field.wopBulks]
  | .read _ _ _ _ _ _ => headEventFields ++ [Field.objSlots, Field.objSelectors, Field.objEnded, Field.wopTagFails]
  | .write _ _ _ _ _ _ _ => resetFields ++ [Field.objLabel, Field.objCustodianSet, Field.thmLimits, Field.extJournalUsed, Field.wbSinglePairs, Field.wbLastDirty,
     Field.wbDirtyCount, Field.medGranules, Field.medClearing, Field.trcMap, Field.trcCkptA, Field.trcCkptB, Field.trcAct,
     Field.trcPeak, Field.trcPeakBase, Field.trcDirtyPts, Field.trcRetired, Field.trcDecided, Field.itgBlocks, Field.itgNodes,
     Field.itgRoot, Field.itgReserve, Field.itgRecord, Field.itgAlarms, Field.itgTagFails, Field.itgRecovered,
     Field.itgReestablished, Field.itgRekeyRegion, Field.itgRekeyState, Field.itgRekeyLeft, Field.itgRekeyExtents,
     Field.stgParity, Field.fltClasses, Field.fltLastC3, Field.fltLastC3At, Field.fltLastC3Cycle, Field.easyEntries,
     Field.strClean, Field.coxWatchdogMs, Field.coxResets, Field.coxLastReset, Field.coxLastOrphan, Field.coxOptions,
     Field.coxOptionState, Field.flsStartedAt, Field.flsFlags, Field.flsCounts, Field.imgTrial, Field.imgAttempts, Field.parBp,
     Field.logAreaC, Field.logLastDurable, Field.logDefs, Field.wopKeys, Field.free]
  | .readMulti _ _ _ _ _ => headEventFields ++ [Field.objSlots, Field.objSelectors, Field.objEnded, Field.wopTagFails]
  | .bulkStart _ _ _ _ _ _ _ _ => recordFields ++ [Field.objSlots, Field.objEnded, Field.hstLinks, Field.wopTagFails, Field.wopBulks, Field.wopNextBulk]
  | .bulkData _ _ _ _ _ => [Field.flsCounts, Field.imgA, Field.imgB, Field.wopFrames, Field.wopSess, Field.wopBulks, Field.out]
  | .bulkAck _ _ _ _ => [Field.wopFrames, Field.wopSess, Field.wopBulks, Field.out]
  | .bulkOutOfOrderAck _ => [Field.wopFrames, Field.wopBulks, Field.out]
  | .bulkTimeout _ => [Field.wopBulks]
  | .subscribe _ _ _ _ _ _ _ _ _ _ => recordFields ++ [Field.objSlots, Field.objEnded, Field.hstLinks, Field.wopTagFails]
  | .subscriptionIntervalEnd _ _ => noticeFields
  | .keepalive _ _ _ _ => recordFields ++ [Field.objSlots, Field.objEnded, Field.hstLinks, Field.wopTagFails]
  | .strangerFrame _ => [Field.wopFrames, Field.wopTagFails]
  | .icmpv6Echo => [Field.wopFrames, Field.out]
  | .neighborDiscovery => [Field.wopFrames, Field.out]
  | .sessionOpenTimeout _ => recordFields ++ [Field.objSelectors, Field.wopBulks]
  | .sessionIdleTimeout _ => recordFields ++ [Field.objSelectors, Field.wopBulks]
  | .closeSession _ => resetFields ++ [Field.objLabel, Field.objCustodianSet, Field.thmLimits, Field.extJournalUsed, Field.wbSinglePairs, Field.wbLastDirty,
     Field.wbDirtyCount, Field.medGranules, Field.medClearing, Field.trcMap, Field.trcCkptA, Field.trcCkptB, Field.trcAct,
     Field.trcPeak, Field.trcPeakBase, Field.trcDirtyPts, Field.trcRetired, Field.trcDecided, Field.itgBlocks, Field.itgNodes,
     Field.itgRoot, Field.itgReserve, Field.itgRecord, Field.itgAlarms, Field.itgTagFails, Field.itgRecovered,
     Field.itgReestablished, Field.itgRekeyRegion, Field.itgRekeyState, Field.itgRekeyLeft, Field.itgRekeyExtents,
     Field.stgParity, Field.fltClasses, Field.fltLastC3, Field.fltLastC3At, Field.fltLastC3Cycle, Field.easyEntries,
     Field.strClean, Field.coxWatchdogMs, Field.coxResets, Field.coxLastReset, Field.coxLastOrphan, Field.coxOptions,
     Field.coxOptionState, Field.flsStartedAt, Field.flsFlags, Field.flsCounts, Field.imgTrial, Field.imgAttempts, Field.parBp,
     Field.logAreaC, Field.logLastDurable, Field.logDefs, Field.wopKeys, Field.free]
  | .roleKeyWrite _ _ _ => reportFields ++ ticketFields ++ [Field.objSelectors, Field.objDeferred, Field.objWaiting, Field.parWrites, Field.wopKeys, Field.wopKeyDraws, Field.wopBulks,
     Field.free]
  | .tagFailureSecond => reportFields ++ [Field.wopTagFails, Field.free]
  | .poolAddressWrite _ => objectFields ++ answerFields
  | .plcaModeWrite _ => objectFields ++ answerFields
  | .plcaBeaconLoss => [Field.wopPlca]
  | .plcaBeacon => [Field.wopPlca, Field.wopCounts]
  | .t1sPathFailure _ => reportFields
  | .mailboxReplyExpiry _ => [Field.hstHeads, Field.wopSess]
  | .bankCharged => [Field.bankState, Field.bankMv, Field.bankMeasuring, Field.bankDeferred]
  | .haltNHigh => recordFields ++ [Field.pwrHaltDrivers, Field.pwrHaltSeen, Field.pwrHaltOutside]
  | .rootRebuildComplete _ _ _ => abandonFields ++ [Field.itgNodes, Field.itgRoot, Field.itgRootState, Field.itgRecord, Field.itgAlarms, Field.stgParity, Field.strPhase,
     Field.strRootDone, Field.strTimes]
  | .eraseMinimumRunEnd => flashFields

/-- The command answers a next state of which `P` holds, and which is the state before in every field outside its frame. -/
def Does (c : Instr) (s : State) (P : State → Prop) : Prop := ∃ t, exec c s = .next t ∧ Frame (frameOf c) s t ∧ P t

/-! ## The canonical form of the tables -/

/-- The tables of a group are canonical: keys strictly rising, no entry equal to what an unlisted key reads as. -/
def ObjS.canonical (x : ObjS) : Bool :=
  Tab.wf defaultOf x.vals && Tab.wf (fun _ => 0) x.shadow && Tab.wf (fun _ => {}) x.slots && Tab.wf (fun _ => 0) x.selectors
      && Tab.wf (fun _ => (0, 0)) x.deferred

/-- The tables of a group are canonical: keys strictly rising, no entry equal to what an unlisted key reads as. -/
def PowerS.canonical (x : PowerS) : Bool :=
  Tab.wf (fun _ => {}) x.domains

/-- The tables of a group are canonical: keys strictly rising, no entry equal to what an unlisted key reads as. -/
def SeatBusS.canonical (x : SeatBusS) : Bool :=
  Tab.wf (fun _ => {}) x.seats

/-- The tables of a group are canonical: keys strictly rising, no entry equal to what an unlisted key reads as. -/
def ThermS.canonical (x : ThermS) : Bool :=
  Tab.wf (fun _ => {}) x.inputs

/-- The tables of a group are canonical: keys strictly rising, no entry equal to what an unlisted key reads as. -/
def HostS.canonical (x : HostS) : Bool :=
  Tab.wf (fun _ => {}) x.ports && Tab.wf (fun _ => {}) x.links && Tab.wf (fun _ => {}) x.heads

/-- The tables of a group are canonical: keys strictly rising, no entry equal to what an unlisted key reads as. -/
def ExtS.canonical (x : ExtS) : Bool :=
  Tab.wf (fun _ => {}) x.pairs && Tab.wf (fun _ => {}) x.extents && Tab.wf (fun _ => {}) x.regions
      && Tab.wf (fun _ => (0, 0)) x.offers

/-- The tables of a group are canonical: keys strictly rising, no entry equal to what an unlisted key reads as. -/
def WbS.canonical (x : WbS) : Bool :=
  Tab.wf (fun _ => {}) x.ents

/-- The tables of a group are canonical: keys strictly rising, no entry equal to what an unlisted key reads as. -/
def MediaS.canonical (x : MediaS) : Bool :=
  Tab.wf shipGranule x.granules && Tab.wf (fun _ => {}) x.planes && Tab.wf (fun _ => {}) x.dies
      && Tab.wf (fun _ => {}) x.channels && Tab.wf (fun _ => 0) x.clearing

/-- The tables of a group are canonical: keys strictly rising, no entry equal to what an unlisted key reads as. -/
def TractS.canonical (x : TractS) : Bool :=
  Tab.wf shipEntry x.map && Tab.wf shipEntry x.ckptA && Tab.wf shipEntry x.ckptB && Tab.wf (fun _ => {}) x.act
      && Tab.wf (fun _ => 0) x.peak && Tab.wf (fun _ => 0) x.peakCkpt && Tab.wf (fun _ => 0) x.peakCkptB
      && Tab.wf (fun _ => {}) x.actCkpt && Tab.wf (fun _ => {}) x.actCkptB && Tab.wf (fun u => (shipEntry u).pt) x.directory
      && Tab.wf (fun _ => 0) x.epoch && Tab.wf (fun _ => 0) x.readsOn

/-- The tables of a group are canonical: keys strictly rising, no entry equal to what an unlisted key reads as. -/
def IntegS.canonical (x : IntegS) : Bool :=
  Tab.wf (fun _ => {}) x.blocks && Tab.wf shipNode x.nodes && Tab.wf (fun i => Config.shipMac 9 i) x.root
      && Tab.wf (fun _ => {}) x.windows

/-- The tables of a group are canonical: keys strictly rising, no entry equal to what an unlisted key reads as. -/
def ScrubS.canonical (x : ScrubS) : Bool :=
  Tab.wf (fun _ => {}) x.rebuilds

/-- The tables of a group are canonical: keys strictly rising, no entry equal to what an unlisted key reads as. -/
def StagingS.canonical (x : StagingS) : Bool :=
  Tab.wf (fun _ => {}) x.srams && Tab.wf shipParity x.parity

/-- The tables of a group are canonical: keys strictly rising, no entry equal to what an unlisted key reads as. -/
def FaultS.canonical (x : FaultS) : Bool :=
  Tab.wf (fun _ => {}) x.units && Tab.wf (fun _ => {}) x.sources && Tab.wf (fun _ => 0) x.cmdSlots

/-- The tables of a group are canonical: keys strictly rising, no entry equal to what an unlisted key reads as. -/
def ParamS.canonical (x : ParamS) : Bool :=
  Tab.wf (fun _ => 0) x.seqs

/-- The tables of a group are canonical: keys strictly rising, no entry equal to what an unlisted key reads as. -/
def LogS.canonical (x : LogS) : Bool :=
  Tab.wf (fun _ => {}) x.defs

/-- The tables of a group are canonical: keys strictly rising, no entry equal to what an unlisted key reads as. -/
def TallyS.canonical (x : TallyS) : Bool :=
  Tab.wf (fun _ => 0) x.snap && Tab.wf (fun _ => 0) x.latched && Tab.wf (fun _ => 0) x.bases

/-- The tables of a group are canonical: keys strictly rising, no entry equal to what an unlisted key reads as. -/
def WopS.canonical (x : WopS) : Bool :=
  Tab.wf (fun _ => {}) x.sess

/-- Every table of the module is canonical: the storage granules, the maps, the counter blocks, the object dictionary, the heads, the extents,
the units, the buffer, the sessions. -/
def State.canonical (s : State) : Bool :=
  s.obj.canonical && s.pwr.canonical && s.seat.canonical && s.thm.canonical && s.hst.canonical && s.ext.canonical && s.wb.canonical
    && s.med.canonical && s.trc.canonical && s.itg.canonical && s.scr.canonical && s.stg.canonical && s.flt.canonical && s.par.canonical && s.log.canonical && s.tly.canonical && s.wop.canonical

end Sys2Proof.Machine
end

