-- ==== Sys2Proof/Certificates/Slice0/Obligations.lean ====
section
/-! DEFINITION. The statements for the provers. A clause about a command has the form Does c s P: exec of c on s answers a next state, which is s
outside the fields that frameOf lists for c, and of which P holds; so each such clause states completion and frame at once. -/

open Sys2Proof Sys2Proof.Machine

/-- R116–R119, R217: a MemRd that is taken and whose extent the head serves enters the line order point; on a tract that is Zero, Suspect
or lost its outcome is decided at the lookup, and the response is held. It is so whether both copies of the map entry pass their SECDED or
one does. -/
def Obligations.ReadDecidedAtLookup : Prop :=
  ∀ (s : State) (h dpa queued latency : Nat) (copies : MapCopies), s.takes h = true → s.reqCredit h = true → (s.head h).viral = false →
    s.serves h dpa = true → s.readOf s.rdp.nextId = none → copies ≠ .none →
    ∀ o, (((s.entry (tractOfLine (lineOf dpa))).state = .zero ∧ o = LineOutcome.zero)
        ∨ ((s.entry (tractOfLine (lineOf dpa))).state = .suspect ∧ o = .poison (some .dirtyShutdown))
        ∨ ((s.entry (tractOfLine (lineOf dpa))).state = .integrityLost ∧ s.modeNow = .normal ∧ o = .poison (some .integrity))) →
    Does (.memrd h dpa queued latency copies) s fun t =>
      (∃ r, t.readOf s.rdp.nextId = some r ∧ r.head = h ∧ r.line = dpa / 64 ∧ r.order = s.rdp.order ∧ r.outcome = some o ∧ r.holding = true)
        ∧ t.rdp.order = s.rdp.order + 1 ∧ t.rdp.nextId = s.rdp.nextId + 1
        ∧ (t.head h).inflight = (s.head h).inflight + 1 ∧ t.trc.map = s.trc.map

/-- R76, R96: a head in the viral state, and a read of an extent that the head does not hold, are answered with a poisoned response of
zeros at once; the stray access is counted. -/
def Obligations.RefusedReadsArePoisoned : Prop :=
  ∀ (s : State) (h dpa queued latency : Nat) (copies : MapCopies), s.takes h = true → s.reqCredit h = true →
    ((s.head h).viral = true →
      Does (.memrd h dpa queued latency copies) s fun t => t.out = s.out ++ [.readResponse h dpa true 0] ∧ (t.head h).stray = (s.head h).stray)
    ∧ ((s.head h).viral = false → s.serves h dpa = false →
      Does (.memrd h dpa queued latency copies) s fun t =>
        t.out.getLast? = some (.readResponse h dpa true 0) ∧ (t.head h).stray = (s.head h).stray + 1)

/-- R120, R121: a read of a mapped line whose nodes are cached, on a die that serves, waits for its own line alone. -/
def Obligations.MappedReadSensesItsLine : Prop :=
  ∀ (s : State) (h dpa queued latency : Nat) (copies : MapCopies), s.takes h = true → s.reqCredit h = true → (s.head h).viral = false →
    s.serves h dpa = true → s.readOf s.rdp.nextId = none → copies ≠ .none → (s.entry (tractOfLine (lineOf dpa))).state = .mapped →
    s.missingNodes (lineOf dpa) = [] → s.registered (s.lineAddr (lineOf dpa)).1 = none → s.lostAt (s.lineAddr (lineOf dpa)).1 = false →
    Does (.memrd h dpa queued latency copies) s fun t =>
      (∃ r, t.readOf s.rdp.nextId = some r ∧ r.head = h ∧ r.line = dpa / 64 ∧ r.outcome = none ∧ r.waiting = [.own])
        ∧ t.rdp.order = s.rdp.order + 1 ∧ (t.head h).inflight = (s.head h).inflight + 1 ∧ t.med.granules = s.med.granules

/-- R240, R217: the own line of a read that waits for nothing else arrives with at most 7 bit errors: the read is decided by the line and its
counter block. -/
def Obligations.LineArrivalDecides : Prop :=
  ∀ (s : State) (rid : Nat) (r : ReadS) (errors : Nat) (sensed : Option StoredLine) (sq : SenseStatus), s.readOf rid = some r →
    r.waiting = [.own] → r.outcome = none → errors ≤ 7 →
    ∀ l, l = sensed.getD r.base →
    ∀ o, ((s.decideLine r.block r.line l = .zero ∧ o = LineOutcome.zero)
        ∨ (∃ d, s.decideLine r.block r.line l = .data d ∧ o = .data d)
        ∨ (s.decideLine r.block r.line l = .poison ∧ o = .poison (some .media))) →
    Does (.readLineArrival rid .own errors sensed sq) s fun t =>
      (∃ r', t.readOf rid = some r' ∧ r'.outcome = some o ∧ r'.waiting = [] ∧ r'.head = r.head ∧ r'.line = r.line ∧ r'.order = r.order)
        ∧ (∀ u, t.entry u = { s.entry u with refr := (t.entry u).refr }) ∧ t.med.granules = s.med.granules ∧ t.itg.blocks = s.itg.blocks

/-- R119, R127, R73: a held response is released; a read whose final outcome is known, by the preceding entries alone where the newest is FULL,
else once it is decided, is answered with that outcome when no earlier read of its line and no mirror write holds it. A poisoned response of class
media is a CXL media event and a record for the heads of the extent. -/
def Obligations.MergeAnswersRead : Prop :=
  ∀ (s : State) (rid : Nat) (r : ReadS), s.readOf rid = some r →
    (Does (.lookupResponseHoldExpiry rid) s fun t => t.readOf rid = some { r with holding := false })
    ∧ (r.probe.covers = true → r.final = some (mergeRead .zero r.probe))
    ∧ (r.probe.covers = false → ∀ o, r.outcome = some o → r.final = some (mergeRead o r.probe))
    ∧ ∀ (latency : Nat) (o : LineOutcome), r.final = some o → r.holding = false → s.mergeWaits r = false → r.discard = false →
    ((o = .zero ∨ ∃ d, o = .data d) →
      Does (.lineOrderPointMerge rid latency) s fun t =>
        t.out = s.out ++ [.readResponse r.head (r.line * 64) false (match o with | .data d => d | _ => 0)]
        ∧ t.readOf rid = none ∧ (t.head r.head).inflight = (s.head r.head).inflight - 1
        ∧ (t.head r.head).readsDone = (s.head r.head).readsDone + 1 ∧ (t.head r.head).poisoned = (s.head r.head).poisoned)
    ∧ (o = .poison none →
      Does (.lineOrderPointMerge rid latency) s fun t =>
        t.out = s.out ++ [.readResponse r.head (r.line * 64) true 0] ∧ t.readOf rid = none
        ∧ (t.head r.head).poisoned = (s.head r.head).poisoned + 1)
    ∧ (o = .poison (some .media) →
      Does (.lineOrderPointMerge rid latency) s fun t =>
        (∃ l, t.out = s.out ++ [.readResponse r.head (r.line * 64) true 0, .mediaEvent r.head (r.line * 64) .media] ++ l) ∧ t.readOf rid = none)

/-- R135, R138, R139: a write that is taken enters the line's open entry, which is Pending; a full-line write replaces every byte, a
partial one its enabled bytes; one that enables all 64 bytes is a full-line write. No completion is sent yet. -/
def Obligations.WritesEnterTheBuffer : Prop :=
  ∀ (s : State) (h dpa : Nat) (data : Line) (poison : Bool), s.takes h = true → s.str.review = 0 → (s.head h).viral = false →
    s.serves h dpa = true → s.slotFor? (dpa / 64) = true →
    Does (.memwr h dpa data poison) s (fun t =>
      (∃ e, (t.lineEnts (dpa / 64)).opened = some e ∧ e.state = .pending ∧ e.full = true ∧ e.poison = poison ∧ e.data = data
        ∧ e.be = BitVec.allOnes 64 ∧ e.head = h ∧ e.order = s.rdp.order)
      ∧ dpa / 64 / 16384 ∈ t.wb.dirty ∧ t.rdp.order = s.rdp.order + 1 ∧ (t.head h).inflight = (s.head h).inflight + 1)
    ∧ ∀ be : ByteEn,
      Does (.memwrptl h dpa be data poison) s (fun t =>
        (∃ e, (t.lineEnts (dpa / 64)).opened = some e ∧ e.state = .pending ∧ e.head = h ∧ e.order = s.rdp.order
          ∧ (match (s.lineEnts (dpa / 64)).opened with
            | some old => e.data = mergeBytes be old.data data ∧ e.be = old.be ||| be ∧ e.full = (old.full || decide (be = BitVec.allOnes 64))
                ∧ e.poison = (if be = BitVec.allOnes 64 then poison else old.poison || poison)
            | none => e.data = mergeBytes be 0 data ∧ e.be = be ∧ e.full = decide (be = BitVec.allOnes 64) ∧ e.poison = poison))
        ∧ dpa / 64 / 16384 ∈ t.wb.dirty ∧ (t.head h).inflight = (s.head h).inflight + 1)

/-- R135, R138, R154: with the mirror write acknowledged the open entry is Dirty and each completion that it owes is sent, unless a seal
record must first list its tract. -/
def Obligations.MirrorAckCompletesWrites : Prop :=
  ∀ (s : State) (key latency : Nat) (e : Entry), (s.lineEnts key).opened = some e → e.state = .pending →
    (e.sealing = false →
      Does (.mirrorWriteAck key latency) s fun t =>
        (∃ e', (t.lineEnts key).opened = some e' ∧ e'.state = .dirty ∧ e'.owed = [] ∧ e'.data = e.data ∧ e'.be = e.be ∧ e'.poison = e.poison)
        ∧ t.out = s.out ++ (e.owed.filter fun o => !o.discard).map (fun o => Out.completion o.head (key * 64)))
    ∧ (e.sealing = true →
      Does (.mirrorWriteAck key latency) s fun t =>
        ∃ e', (t.lineEnts key).opened = some e' ∧ e'.state = .dirty ∧ e'.owed = e.owed ∧ e'.data = e.data)

/-- R150: Global Persistent Flush is answered in both phases while the link is up, and changes nothing else; with the link down there is
nothing to answer. -/
def Obligations.PersistentFlushAnswered : Prop :=
  ∀ (s : State) (h : Nat), (s.linkUp h = true →
      exec (.gpfPhase1 h) s = .next (s.modOut (· ++ [.gpfResponse h 1])) ∧ exec (.gpfPhase2 h) s = .next (s.modOut (· ++ [.gpfResponse h 2])))
    ∧ (s.linkUp h = false → exec (.gpfPhase1 h) s = .next s ∧ exec (.gpfPhase2 h) s = .next s)

/-- R151, R104, R97, R107, R109: the mailbox commands that report, and Set Shutdown State, with the module's management ready. -/
def Obligations.MailboxReports : Prop :=
  ∀ (s : State) (h : Nat), s.linkUp h = true → s.domainOn 0 = true → s.coxUp = true →
    let back : Nat → List Byte → State := fun op p => (s.emit (.mailbox h op 0 p)).msix h 0
    (∀ v, v ≤ 1 → Does (.setShutdownState h v) s fun t => t.wb = { s.wb with hostShutdown := v } ∧ returned h 0x4204 0 [] t)
    ∧ exec (.getShutdownState h) s = .next (back 0x4203 (be 1 s.wb.hostShutdown))
    ∧ (Does (.getPoisonList h) s fun t => ∃ l, returned h 0x4300 0 l t)
    ∧ (s.extentsIn h .assigned .releasing = [] → exec (.getPoisonList h) s = .next (back 0x4300 [0, 0, 0]))
    ∧ exec (.getDynamicCapacityExtentList h) s = .next (back 0x4801
        (be 4 (s.extentsIn h .assigned .releasing ++ s.extentsIn h .offered .offered).length
          ++ ((s.extentsIn h .assigned .releasing ++ s.extentsIn h .offered .offered).insertionSort (· ≤ ·)).flatMap
            fun e => be 8 (e * 2 ^ 28) ++ be 8 (2 ^ 28)))
    ∧ (∀ first count, 1 ≤ count → count ≤ 64 → first + count ≤ extents →
      exec (.getExtentState h true first count) s = .next (back 0xC011 ((range' first count).flatMap (s.extentEntry h))))
    ∧ (∀ e, (s.pair e h).state = .free → s.extentEntry h e = be 2 e ++ [0, 128] ++ zeros 12)
    ∧ (∀ op, Does (.unsupportedOpcode h op) s fun t => returned h op 2 [] t)
    ∧ (Does (.getHealthInfo h) s fun t => ∃ l, returned h 0x4200 0 l t)

/-- R108: the standard Sanitize and Secure Erase are refused while not permitted, and while a tract is Suspect; else, where every tract of the
head's own extents can be given a blank physical tract, each of them has another one and leaves a running re-key, since its counter blocks are
fresh, and Success is returned. That too few blank physical tracts return Busy is the model's choice (notes/assumptions/22.md). -/
def Obligations.HostSanitize : Prop :=
  ∀ (s : State) (h : Nat), s.linkUp h = true → s.domainOn 0 = true → s.coxUp = true →
    let own : List Nat := (s.extentsIn h .assigned .assigned).filter fun e => decide (s.headsOf e = [h])
    let back : Nat → Nat → State := fun op c => (s.emit (.mailbox h op c [])).msix h 0
    (s.cfg (0x2100 + h) 3 = 0 →
      exec (.sanitize h) s = .next (back 0x4400 2) ∧ exec (.secureErase h) s = .next (back 0x4401 2))
    ∧ (s.cfg (0x2100 + h) 3 ≠ 0 → own.any s.suspectIn = true →
      exec (.sanitize h) s = .next (back 0x4400 3) ∧ exec (.secureErase h) s = .next (back 0x4401 3))
    ∧ (s.cfg (0x2100 + h) 3 ≠ 0 → own.any s.suspectIn = false →
      let P : Nat → State → Prop := fun op t =>
        if (own.all fun e => State.zeroed s (forEach own State.sanitizeExtent s) e) = true then
          returned h op 0 [] t ∧ (∀ e ∈ own, ∀ i ∈ t.itg.rekeyLeft, i / 65536 ≠ e)
            ∧ ∀ e ∈ own, ∀ u, u / 256 = e → (t.entry u).pt ≠ (s.entry u).pt
        else t = back op 3
      Does (.sanitize h) s (P 0x4400) ∧ Does (.secureErase h) s (P 0x4401))

/-- R95: the host's answer to an offer, and its release. That a pair in a state with no transition returns Invalid Input is the model's choice
(notes/assumptions/77.md). -/
def Obligations.HostMovesItsExtents : Prop :=
  ∀ (s : State) (h e : Nat), s.linkUp h = true → s.domainOn 0 = true → s.coxUp = true →
    ((s.pair e h).state = .offered →
      (Does (.addDynamicCapacityResponse h e true) s fun t =>
        (t.pair e h).state = .assigned ∧ t.ext.extents = s.ext.extents ∧ t.ext.regions = s.ext.regions ∧ returned h 0x4802 0 [] t)
      ∧ (Does (.addDynamicCapacityResponse h e false) s fun t => (t.pair e h).state = .free ∧ returned h 0x4802 0 [] t))
    ∧ ((s.pair e h).state ≠ .offered → ∀ a,
      exec (.addDynamicCapacityResponse h e a) s = .next ((s.emit (.mailbox h 0x4802 1 [])).msix h 0))
    ∧ ((s.pair e h).state = .assigned ∨ (s.pair e h).state = .releasing →
      Does (.releaseDynamicCapacity h e) s fun t =>
        (t.pair e h).state = .draining ∧ t.ext.extents = s.ext.extents ∧ returned h 0x4803 0 [] t)

/-- R106, whole: the hint of a range, and its refusal. -/
def Obligations.ExtentHint : Prop :=
  ∀ (s : State) (h : Nat) (form : Bool) (first count hint : Nat), s.linkUp h = true → s.domainOn 0 = true → s.coxUp = true →
    Tab.wf (fun _ => {}) s.ext.extents = true →
    (form = true → 1 ≤ count → count ≤ 256 → hint ≤ 2 → (∀ e, first ≤ e → e < first + count → (s.pair e h).state = .assigned) →
      Does (.setExtentHint h form first count hint) s fun t =>
        (∀ e, first ≤ e → e < first + count → t.extent e = { s.extent e with hint := hint })
        ∧ (∀ e, (e < first ∨ first + count ≤ e) → t.extent e = s.extent e)
        ∧ t.ext.pairs = s.ext.pairs ∧ returned h 0xC010 0 [] t)
    ∧ (((∃ e, first ≤ e ∧ e < first + count ∧ (s.pair e h).state ≠ .assigned) ∨ 2 < hint ∨ count = 0 ∨ 256 < count ∨ form = false) →
      exec (.setExtentHint h form first count hint) s = .next ((s.emit (.mailbox h 0xC010 1 [])).msix h 0))

/-- R95, R98, R446: an offer of extents that already have the region offers every pair; a refused one changes no extent. -/
def Obligations.OfferOfExtents : Prop :=
  ∀ (s : State) (req : Req) (first count mask region n : Nat), s.coxUp = true → mayWrite 0x2121 0 req = 0 → 1 ≤ count → count ≤ 4096 →
    first + count ≤ extents → region ≤ 63 → mask ≤ 255 → s.noBlock 0x2121 0 = false → s.freeSlot = some n →
    (s.offerRefusal first count mask region = none → (∀ e, first ≤ e → e < first + count → (s.extent e).region = region) →
      Does (.extentOffer req first count mask region) s fun t =>
        (∀ e h, first ≤ e → e < first + count → h < 8 → testBit mask h = true → (t.pair e h).state = .offered)
        ∧ t.ext.extents = s.ext.extents ∧ t.ext.regions = s.ext.regions ∧ (t.slot n).state = 2 ∧ (t.slot n).outcome = 0
        ∧ accepted req 0x2121 0 t)
    ∧ (∀ e, s.offerRefusal first count mask region = some e →
      Does (.extentOffer req first count mask region) s fun t =>
        (t.slot n).state = 2 ∧ (t.slot n).outcome = 7 ∧ accepted req 0x2121 0 t)

/-- R95, R446: the Operator releases one pair of an extent and a head, forced or not; a pair's timeout; the end of its draining. -/
def Obligations.PairsMove : Prop :=
  ∀ (s : State) (h e : Nat),
    (∀ req n, s.coxUp = true → mayWrite 0x2121 1 req = 0 → e < extents → h < 8 → s.noBlock 0x2121 1 = false → s.freeSlot = some n →
      ((s.pair e h).state = .assigned →
        Does (.extentRelease req e 1 (2 ^ h)) s fun t =>
          (t.pair e h).state = .releasing ∧ t.ext.extents = s.ext.extents ∧ (t.slot n).outcome = 0 ∧ accepted req 0x2121 1 t)
      ∧ ((s.pair e h).state = .assigned ∨ (s.pair e h).state = .releasing →
        Does (.extentReleaseForced req e 1 (2 ^ h)) s fun t =>
          (t.pair e h).state = .draining ∧ t.ext.extents = s.ext.extents ∧ (t.slot n).outcome = 0 ∧ accepted req 0x2121 1 t))
    ∧ (s.coxUp = true → (s.pair e h).state = .offered →
      Does (.offerTimeout h e) s fun t => (t.pair e h).state = .free ∧ t.ext.extents = s.ext.extents)
    ∧ (s.coxUp = true → (s.pair e h).state = .releasing →
      Does (.offerTimeout h e) s fun t => (t.pair e h).state = .draining ∧ t.ext.extents = s.ext.extents)
    ∧ ((s.pair e h).state = .draining → s.extentBusy e h = false →
      Does (.extentDrainComplete h e) s fun t => (t.pair e h).state = .free ∧ t.ext.extents = s.ext.extents)

/-- R98, R101, R102, R209: a region is created with a key generation one above the last, takes a new mask, and is deleted; a region change gives its
extent the region, clears its hint, and offers it to the heads of the offer. That it waits while there are too few blank physical tracts is the
model's choice (notes/assumptions/22.md). -/
def Obligations.Regions : Prop :=
  ∀ (s : State),
    (∀ e c, (s.extent e).changing = some c →
      Does (.regionChangeComplete e) s fun t => if State.zeroed s (s.sanitizeExtent e) e = true then
        t.extent e = { s.extent e with region := c.1 / 256, hint := 0, changing := none } ∧ t.ext.regions = s.ext.regions
          ∧ ∀ h, h < 8 → testBit (c.1 % 256) h = true → (t.pair e h).state = .offered
        else t = s)
    ∧ (∀ r, s.coxUp = true → r ≤ 63 → s.noBlock 0x2140 r = false → s.configLocked = false → s.storeBusy = false →
      (∀ mask, 1 ≤ mask → mask ≤ 255 → (s.region r).mask = 0 →
        Does (.regionCreate r mask) s fun t =>
          t.region r = { mask := mask, gen := (s.region r).gen + 1, keyed := true } ∧ t.ext.pairs = s.ext.pairs ∧ t.ext.extents = s.ext.extents
            ∧ accepted byCustodian 0x2140 r t)
      ∧ (∀ mask, 1 ≤ mask → mask ≤ 255 → (s.region r).mask ≠ 0 → s.heldOutside r mask = false →
        Does (.regionMaskChange r mask) s fun t =>
          t.region r = { s.region r with mask := mask } ∧ t.ext.extents = s.ext.extents ∧ accepted byCustodian 0x2140 r t)
      ∧ ((s.region r).mask ≠ 0 → s.extentsOf r = 0 → (s.ext.extents.any fun e => match e.2.changing with | some c => c.1 / 256 == r | none => false) = false →
        Does (.regionDelete r) s fun t =>
          t.region r = { s.region r with mask := 0, keyed := false } ∧ t.ext.extents = s.ext.extents ∧ accepted byCustodian 0x2140 r t))

/-- R63, R67, R75, R76, R78, R79, R82, R83, R113: the controls of one link that is up. No other link changes, but for the pending bits of its
vectors. The host's write of Mem_Enable brings the function's other standard registers with it (notes/assumptions/74.md). -/
def Obligations.LinkControls : Prop :=
  ∀ (s : State) (h : Nat), s.canonical = true → s.linkUp h = true →
    let Sets : State → LinkS → Prop := fun t l =>
      t.link h = { l with msixPending := (t.link h).msixPending }
        ∧ ∀ j, j ≠ h → t.link j = { s.link j with msixPending := (t.link j).msixPending }
    (∀ v cfg need, need = decide (s.cfg (0x2000 + h / 2) 3 = 1) →
      Does (.memEnableWrite h v cfg) s fun t => Sets t { (s.link h).configure cfg with
        memEnable := v && s.memAllowed h need, ideNeeded := v && s.memAllowed h need && need })
    ∧ (Does (.functionLevelReset h) s fun t => t.link h = clearedIo (s.link h) ∧ (t.link h).aer = (s.link h).aer
        ∧ (t.link h).memEnable = (s.link h).memEnable ∧ (t.link h).msixOn = false
        ∧ t.head h = { s.head h with eq := {}, doorbell := none } ∧ (∀ j, j ≠ h → t.link j = s.link j ∧ t.head j = s.head j))
    ∧ ((s.head h).viral = false → s.flt.queue.length < 256 → Does (.viralReceived h) s fun t => (t.head h).viral = true
        ∧ queued s t (faultMsg (srcHead h) 0x49 none false))
    ∧ (s.keelOn = true → s.flt.queue.length < 256 → Does (.ideCheckFailure h) s fun t =>
        Sets t { s.link h with ideIo := 2, ideMem := 2, ideStopped := true, ideFell := false }
        ∧ queued s t (faultMsg (srcPort (h / 2)) 0x42 (some (h % 2)) false))
    ∧ (Does (.ideKmRequest h .io) s fun t => Sets t (LinkS.keyed { s.link h with ideIo := 1 }) ∧ Out.ideKeyed h false ∈ t.out)
    ∧ (Does (.ideKmRequest h .mem) s fun t => Sets t (LinkS.keyed { s.link h with ideMem := 1 }) ∧ Out.ideKeyed h true ∈ t.out)
    ∧ (Does (.ideKmRequest h (.unsupported .io)) s fun t => Sets t { s.link h with ideIo := 2 } ∧ Out.ideGoStopAck h ∈ t.out)
    ∧ (Does (.ideKmRequest h (.unsupported .mem)) s fun t => Sets t { s.link h with ideMem := 2 } ∧ Out.ideGoStopAck h ∈ t.out)
    ∧ (Does (.ideKmRequest h (.unsupported .other)) s fun t => t.link h = s.link h ∧ Out.ideGoStopAck h ∈ t.out)

/-- R66, R68, R69: a link trains, comes up at 2.5 GT/s, and takes a speed; below 32 GT/s it is PCIe only. More than 64 recovery entries
within 1 s limit it to 32 GT/s. -/
def Obligations.LinkTraining : Prop :=
  ∀ (s : State) (h : Nat),
    (∀ width flit, (s.link h).state = 1 → (width = 4 ∨ width = 8 ∨ (width = 16 ∧ (s.port (h / 2)).bifurcated = false)) → flit ≤ 2 →
      Does (.linkUp h width flit) s fun t => (t.link h).state = 2 ∧ (t.link h).speed = 1 ∧ (t.link h).width = width
        ∧ (t.link h).flit = (if s.cfg (0x2000 + h / 2) 2 = 1 then flit else 0) ∧ (t.link h).poolAtUp = s.cfg 0x1101 0)
    ∧ (∀ speed, s.linkUp h = true → (speed = 5 ∨ speed = 6) → Does (.equalisationComplete h speed) s fun t =>
        (t.link h).speed = min speed (s.rateLimit h) ∧ (t.link h).state = 3 ∧ (t.link h).reached32 = true)
    ∧ (∀ asked reached r, s.linkUp h = true → asked ≤ 6 → 1 ≤ reached → reached ≤ asked → r = min reached (s.rateLimit h) →
      Does (.speedChangeRequest h asked reached) s fun t =>
        (t.link h).speed = r ∧ (t.link h).state = (if 5 ≤ r then 3 else 2)
        ∧ (5 ≤ asked → r < 5 → s.keelOn = true → s.flt.queue.length < 256 →
          faultMsg (srcPort (h / 2)) 0x40 (some (h % 2)) false ∈ t.flt.queue))
    ∧ (∀ recent, s.linkUp h = true → recent = s.tim.opTime :: (s.link h).recoveries.filter (fun x => decide (s.tim.opTime < x + 1000)) →
        (recent.length ≤ 64 → Does (.linkRecoveryEntry h) s fun t => t.link h = { s.link h with recoveries := recent }
          ∧ (t.port (h / 2)).recoveries = (s.port (h / 2)).recoveries + 1)
        ∧ (64 < recent.length → s.keelOn = true → s.flt.queue.length < 256 → Does (.linkRecoveryEntry h) s fun t =>
          (t.link h).limit32 = true ∧ queued s t (faultMsg (srcPort (h / 2)) 0x41 (some (h % 2)) false)))
    ∧ ((s.link h).state = 0 → s.absent h = false → s.isOut (srcPort (h / 2)) = false → s.isOut (srcHead h) = false →
        s.domainOn 1 = true → s.domainOn (12 + h / 2) = true →
        ((s.port (h / 2)).cable = true → (s.link h).held = false →
          Does (.perstRelease (h / 2) (h % 2)) s fun t => (t.link h).perstLow = false ∧ (t.link h).limit32 = false ∧ (t.link h).state = 1)
        ∧ ((s.link h).perstLow = false → (s.link h).held = false →
          Does (.cableMated (h / 2)) s fun t => (t.port (h / 2)).cable = true ∧ (t.link h).state = 1)
        ∧ ((s.port (h / 2)).cable = true → (s.link h).perstLow = false → (s.link h).held = true →
          Does (.headResetHoldEnd h) s fun t => t.link h = { s.link h with held := false, state := 1 } ∧ (t.head h).resetReq = 0))

/-- R49, R80, R93, R435: each way in which a link goes down is a full reset of its head: its event queue and viral state clear, reads in
flight are to be discarded, and the link leaves its state. -/
def Obligations.LinkLoss : Prop :=
  ∀ (s : State) (h : Nat), s.linkUp h = true →
    (Does (.linkDown h) s fun t => (t.head h).viral = false ∧ (t.head h).eq = {} ∧ (t.head h).doorbell = none ∧ (t.link h).memEnable = false
      ∧ (t.link h).ideMem = 0 ∧ (t.link h).downCount = (s.link h).downCount + 1 ∧ ∀ e ∈ t.rdp.reads, e.2.head = h → e.2.discard = true)
    ∧ (s.absent h = false → s.isOut (srcPort (h / 2)) = false → (s.link h).perstLow = false →
      Does (.perstAssert (h / 2) (h % 2)) s fun t => (t.link h).perstLow = true ∧ (t.link h).perstCount = (s.link h).perstCount + 1
        ∧ (t.link h).state = 0 ∧ (t.head h).eq = {} ∧ ∀ e ∈ t.rdp.reads, e.2.head = h → e.2.discard = true)
    ∧ (Does (.cableRemoved (h / 2)) s fun t => (t.port (h / 2)).cable = false ∧ (t.link h).state = 0 ∧ (t.head h).eq = {}
        ∧ ∀ e ∈ t.rdp.reads, e.2.head = h → e.2.discard = true)
    ∧ (s.coxUp = true → s.domainOn 0 = true → Does (.headReset h) s fun t => (t.link h).held = true ∧ (t.link h).state = 0
        ∧ (t.head h).resetReq = 1 ∧ (t.head h).eq = {} ∧ accepted byOperator (0x2100 + h) 4 t)

/-- R110–R113: the event queue page of a head whose link is up; vector 2 is sent, or is pending while it is masked. -/
def Obligations.EventQueuePage : Prop :=
  ∀ (s : State) (h : Nat) (q : EqS), s.canonical = true → s.linkUp h = true → (s.head h).eq = q →
    let Eq : Instr → EqS → Prop := fun c q' =>
      Does c s fun t => t.head h = { s.head h with eq := q' } ∧ ∀ j, j ≠ h → t.head j = s.head j
    (∀ base mirror coal size mask,
      (q.enable = true → Eq (.eqEnable h base mirror coal size mask) { q with coal := coal % 1024, mask := mask })
      ∧ (q.enable = false → ∀ q', q' = { q with base := base / 4096 * 4096, mirror := mirror / 8 * 8, coal := coal % 1024, size := size % 16, mask := mask } →
        (size % 16 ≤ 8 → base / 4096 * 4096 % (4096 * 2 ^ (size % 16)) = 0 → Eq (.eqEnable h base mirror coal size mask)
          { q' with enable := true, pi := 0, ci := 0, dropped := 0, seq := 0, gap := false, coalescing := false, signalledPi := 0 })
        ∧ (8 < size % 16 ∨ base / 4096 * 4096 % (4096 * 2 ^ (size % 16)) ≠ 0 → Eq (.eqEnable h base mirror coal size mask) q')))
    ∧ Eq (.eqDisable h) { q with enable := false }
    ∧ (∀ ci, ((q.pi - ci).toNat ≤ 64 * 2 ^ q.size ∧ (ci - q.ci).toNat ≤ (q.pi - q.ci).toNat → Eq (.eqCiWrite h ci) { q with ci := ci })
      ∧ (64 * 2 ^ q.size < (q.pi - ci).toNat ∨ (q.pi - q.ci).toNat < (ci - q.ci).toNat → Eq (.eqCiWrite h ci) { q with ciErr := true }))
    ∧ (∀ o c, Eq (.eqStatusClear h o c) { q with overflow := q.overflow && !o, ciErr := q.ciErr && !c })
    ∧ (q.coalescing = true →
      (q.pi = q.signalledPi → Eq (.eqCoalesceIntervalEnd h) { q with coalescing := false })
      ∧ (q.pi ≠ q.signalledPi → Does (.eqCoalesceIntervalEnd h) s fun t =>
        t.head h = { s.head h with eq := { q with signalledPi := q.pi } }
        ∧ ((s.link h).msixOn = false → t.out = s.out)
        ∧ ((s.link h).msixOn = true →
          ((s.link h).d3hot = false → (s.link h).msixFnMask = false → testBit (s.link h).msixMask 2 = false → t.out = s.out ++ [.msix h 2])
          ∧ ((s.link h).d3hot = true ∨ (s.link h).msixFnMask = true ∨ testBit (s.link h).msixMask 2 = true →
            t.out = s.out ∧ testBit (t.link h).msixPending 2 = true))))

/-- R20, R65, R91, R310, 0x1102.03, 0x1101.00, 0x1100.00: a stored object's write, of a block outside the core, is stored before its response;
the in-flight cap of a head waits for its block's commit. -/
def Obligations.StoredObjects : Prop :=
  ∀ (s : State), s.canonical = true → s.coxUp = true → s.configLocked = false → s.storeBusy = false →
    (∀ p m, p < 4 → m ≤ 1 → s.domainOn 1 = true → Does (.bifurcationRequest p m) s fun t =>
      t.cfg (0x2000 + p) 0 = m ∧ accepted byOperator (0x2000 + p) 0 t)
    ∧ (∀ v, Does (.haltNSwitchWrite v) s fun t => t.cfg 0x1102 3 = (if v then 1 else 0) ∧ accepted byOperator 0x1102 3 t)
    ∧ (∀ pool, pool ≤ 0xFFFF → Does (.poolAddressWrite pool) s fun t =>
      t.cfg 0x1101 0 = pool ∧ t.cfg 0x1101 1 = 1 ∧ t.wop.conflict = false ∧ accepted byOperator 0x1101 0 t)
    ∧ (∀ m, m ≤ 2 → Does (.plcaModeWrite m) s fun t =>
      t.cfg 0x1100 0 = m ∧ t.wop.plca = (if m = 2 then 1 else 0) ∧ accepted byOperator 0x1100 0 t)
    ∧ (∀ h cap, h < 8 → 64 ≤ cap → cap ≤ 4096 → s.domainOn 0 = true → Does (.inFlightCapWrite h cap) s fun t =>
      t.obj.vals = s.obj.vals ∧ Tab.rd 0 t.obj.shadow (objKey (0x2100 + h) 1) = cap + 1
        ∧ t.obj.waiting = s.obj.waiting ++ [(0, .row byOperator (0x2100 + h) 1)])
    ∧ (∀ h cap, h < 8 → cap ≤ 4096 → s.domainOn 0 = true → s.obj.shadow = [(objKey (0x2100 + h) 1, cap + 1)] →
      s.obj.waiting = [(0, .row byOperator (0x2100 + h) 1)] → Does (.configCommit 0) s fun t =>
      t.cfg (0x2100 + h) 1 = cap ∧ t.obj.shadow = [] ∧ t.obj.waiting = [] ∧ Out.access byOperator (0x2100 + h) 1 0 0 ∈ t.out
        ∧ t.out.getLast? = some (.configConfirmed 0))

/-- R284, R285, R286: what the network layer answers, drops and counts; the PLCA follower and its beacon. -/
def Obligations.ManagementNetwork : Prop :=
  ∀ (s : State), s.t1sUp = true → s.wop.frames.length = 12 → s.wop.counts.length = 4 →
    (∀ d, d ≠ .tag → (s.coxUp = true ∨ byMac d = true) → Does (.strangerFrame d) s fun t =>
      nth t.wop.frames (dropPlace d) = nth s.wop.frames (dropPlace d) + 1 ∧ t.wop.tagFails = s.wop.tagFails ∧ t.out = s.out)
    ∧ (s.coxUp = true → Does (.strangerFrame .tag) s fun t =>
      nth t.wop.frames 8 = nth s.wop.frames 8 + 1 ∧ t.wop.tagFails = s.wop.tagFails + 1 ∧ t.out = s.out)
    ∧ (s.coxUp = true → (Does .icmpv6Echo s fun t => t.out = s.out ++ [.icmpReply true] ∧ nth t.wop.frames 0 = nth s.wop.frames 0 + 1)
      ∧ (Does .neighborDiscovery s fun t => t.out = s.out ++ [.icmpReply false] ∧ nth t.wop.frames 0 = nth s.wop.frames 0 + 1))
    ∧ (s.cfg 0x1100 0 = 1 → s.hasNode = true →
      (exec .plcaBeaconLoss s = .next (s.modWop fun w => { w with plca := 2 }))
      ∧ (Does .plcaBeacon s fun t => t.wop.plca = 1 ∧ nth t.wop.counts 0 = nth s.wop.counts 0 + 1 ∧ nth t.wop.counts 1 = nth s.wop.counts 1 + 1))

/-- R284, R288–R291: discovery. A SOLICIT to the group is answered in time; one addressed to the module alone gets 0x0D; one addressed to another
module is dropped and counted, and so is one to the module's own pool address while a conflict is heard. -/
def Obligations.Discovery : Prop :=
  ∀ (s : State), s.t1sUp = true → s.coxUp = true →
    (∀ f a b, s.meetsFilter f a b = true → Does (.solicit none f a b) s fun t => t.wop.answerDue = true ∧ t.out = s.out)
    ∧ (∀ f a b, s.meetsFilter f a b = false → Does (.solicit none f a b) s fun t => t.wop.answerDue = s.wop.answerDue ∧ t.out = s.out)
    ∧ (∀ dst f a b, s.addressed dst = true →
      Does (.solicit (some dst) f a b) s fun t => t.wop.answerDue = s.wop.answerDue ∧ t.out = s.out ++ [.wop 0 1 0x0D 0 []])
    ∧ (∀ dst f a b, s.addressed dst = false →
      exec (.solicit (some dst) f a b) s = .next (s.modWop fun w => { w with frames := modNth w.frames 7 (· + 1) }))
    ∧ s.addressed (.serial Config.serial) = true
    ∧ (s.cfg 0x1101 1 = 1 → s.addressed (.pool (s.cfg 0x1101 0)) = !s.wop.conflict)
    ∧ (s.wop.answerDue = true → Does .advertiseAnswerTimer s fun t =>
      t.wop.answerDue = false ∧ t.out = s.out ++ [.advertise s.advertiseBytes])
    ∧ (s.cfg 0x1101 3 ≠ 0 → Does .advertisePeriod s fun t => t.out = s.out ++ [.advertise s.advertiseBytes])
    ∧ (s.cfg 0x1101 3 = 0 → exec .advertisePeriod s = .next s)
    ∧ (∀ serial, serial ≠ Config.serial → s.cfg 0x1101 1 = 1 → s.flt.queue.length < 256 → Does (.advertise serial (s.cfg 0x1101 0) true) s fun t =>
      t.wop.conflict = true ∧ queued s t (faultMsg 0x2F5 0x8A (some (s.cfg 0x1101 0 % 65536)) false))
    ∧ (∀ serial pool, pool ≠ s.cfg 0x1101 0 → Does (.advertise serial pool true) s fun t => t.wop.conflict = s.wop.conflict ∧ t.out = s.out)

/-- R292, R294, R295, R299: how sessions open and close, over T1S and through a head's mailbox; the keys of the roles. -/
def Obligations.Sessions : Prop :=
  ∀ (s : State), s.canonical = true → s.coxUp = true →
    (∀ dst role seq manager nonce, s.t1sUp = true → s.addressed dst = true → role ≠ .vendor → nth s.wop.keys (roleCode role) ≠ 0 →
      Tab.countWhere (fun (x : SessS) => decide (x.path = 0)) s.wop.sess < 16 →
      Does (.openSession dst role seq manager nonce true) s fun t => ∃ n v, (t.session n).opened = true ∧ (t.session n).role = role
        ∧ (t.session n).path = 0 ∧ (t.session n).manager = manager ∧ (t.session n).peer = nonce
        ∧ t.out.getLast? = some (.wop n svcOpen 0 0 v))
    ∧ (∀ dst role seq manager nonce tagOk, s.t1sUp = true → s.addressed dst = true → role ≠ .vendor → nth s.wop.keys (roleCode role) = 0 →
      Does (.openSession dst role seq manager nonce tagOk) s fun t => t.wop.sess = s.wop.sess ∧ t.out = s.out ++ [.wop 0 svcOpen 0x03 0 []])
    ∧ (∀ dst sess seq, s.addressed dst = true → newRequest s sess seq → Does (.close dst sess seq) s fun t =>
      t.hasSession sess = false ∧ (∀ b ∈ t.wop.bulks, b.sess ≠ sess) ∧ Out.wop sess svcClose 0 0 [] ∈ t.out)
    ∧ (∀ sess, s.hasSession sess = true → (s.session sess).used = false → Does (.sessionOpenTimeout sess) s fun t => t.hasSession sess = false)
    ∧ (∀ sess, s.hasSession sess = true → Does (.sessionIdleTimeout sess) s fun t => t.hasSession sess = false)
    ∧ (∀ sess, sess < 65536 → s.hasSession sess = true → Does (.closeSession sess) s fun t =>
      t.hasSession sess = false ∧ Out.access byCustodian 0x1202 1 0 0 ∈ t.out)
    ∧ (∀ sess role, s.hasSession sess = true → mayWrite 0x1201 (roleCode role) (s.holderReq sess) = 0 → roleCode role < s.wop.keys.length →
      s.configLocked = false → s.storeBusy = false → Does (.roleKeyWrite sess role true) s fun t => nth t.wop.keys (roleCode role) = 2
        ∧ (∀ n, n ≠ sess → t.hasSession n = true → (t.session n).role ≠ role) ∧ accepted (s.holderReq sess) 0x1201 (roleCode role) t)
    ∧ (s.wop.tagFails ≠ 0 → s.flt.queue.length < 256 → Does .tagFailureSecond s fun t =>
      t.wop.tagFails = 0 ∧ t.free = s.free + 1 ∧ queued s t (faultMsg 0x2FB 0x89 none false))
    ∧ (∀ h role nonce, s.linkUp h = true → s.domainOn 0 = true → (s.head h).openReply = none → role ≠ .vendor → nth s.wop.keys (roleCode role) ≠ 0 →
      Tab.countWhere (fun (x : SessS) => decide (x.path = h + 1)) s.wop.sess < 2 →
      Does (.mailboxOpenRequest h role nonce) s fun t => (∃ n, (t.head h).openReply = some (n, s.tim.opTime + 5000)
        ∧ (t.session n).role = role ∧ (t.session n).path = h + 1 ∧ (t.session n).peer = nonce ∧ (t.session n).opened = false)
        ∧ returned h opObjectWrite 0 (le 2 0 ++ le 2 0 ++ le 4 0) t)
    ∧ (∀ h n at_, s.linkUp h = true → s.domainOn 0 = true → (s.head h).openReply = some (n, at_) →
      (Does (.mailboxOpenReply h) s fun t => (t.head h).openReply = none ∧ (t.session n).opened = true
        ∧ ∃ v, returned h opObjectRead 0 v t)
      ∧ (Does (.mailboxReplyExpiry h) s fun t => (t.head h).openReply = none ∧ t.hasSession n = false))

/-- R286, R289, R293, R296, R297: requests of a session over T1S that are addressed to the module. A new sequence is executed and its response kept; a retry gets the stored response. -/
def Obligations.SessionRequests : Prop :=
  ∀ (s : State) (dst : WopAddr) (sess seq : Nat), s.canonical = true → s.addressed dst = true → newRequest s sess seq →
    (Does (.keepalive dst sess seq true) s fun t => t.out = s.out ++ [.wop sess svcKeepalive 0 0 (be 4 (s.cfg 0x1202 2))]
      ∧ (t.session sess).lastAt = s.tim.opTime ∧ (t.session sess).used = true ∧ (t.session sess).highest = seq
      ∧ ∃ x ∈ (t.session sess).answered, x.seq = seq ∧ x.service = svcKeepalive ∧ x.status = 0)
    ∧ (Does (.read dst sess seq true 0x1101 0) s fun t => t.out = s.out ++ [.wop sess svcRead 0 0 (s.value sess 0x1101 0)]
      ∧ (t.session sess).highest = seq)
    ∧ (∀ idx mem, accessCheck idx mem 1 (s.session sess).role 0 ≠ 0 → Does (.read dst sess seq true idx mem) s fun t =>
      t.out = s.out ++ [.wop sess svcRead (accessCheck idx mem 1 (s.session sess).role 0) 0 []])
    ∧ (∀ pool, pool ≤ 0xFFFF → (s.session sess).role ≠ .observer → s.configLocked = false → s.storeBusy = false →
      Does (.write dst sess seq true 0x1101 0 (be 2 pool)) s fun t => t.cfg 0x1101 0 = pool
        ∧ t.out.getLast? = some (.wop sess svcWrite 0 0 []) ∧ (t.session sess).highest = seq)
    ∧ (Does (.readMulti dst sess seq true [{ index := 0x1101, member := 0 }]) s fun t =>
      t.out = s.out ++ [.wop sess svcReadMulti 0 0 (be 1 1 ++ zeros 3 ++ be 1 0 ++ be 1 2 ++ be 2 2 ++ s.value sess 0x1101 0)])
    ∧ (∀ slot minMs mask, slot ≤ 7 → mask ≤ 15 → s.slotsInUse < 32 →
      Does (.subscribe dst sess seq true slot .faultClasses minMs 0 0 mask) s fun t =>
        Tab.rd {} (t.session sess).subs slot = { kind := .faultClasses, minMs := minMs, mask := mask }
        ∧ t.out = s.out ++ [.wop sess svcSubscribe 0 0 []])
    ∧ (∀ slot x, Tab.rd {} (s.session sess).subs slot = x → x.running = true →
      (x.heldCount = 0 → Does (.subscriptionIntervalEnd sess slot) s fun t =>
        Tab.rd {} (t.session sess).subs slot = { x with running := false } ∧ t.out = s.out)
      ∧ (x.heldCount ≠ 0 → Does (.subscriptionIntervalEnd sess slot) s fun t =>
        Tab.rd {} (t.session sess).subs slot = { x with heldCount := 0, heldContent := [] }
        ∧ t.out = s.out ++ [.notify sess slot (subCode x.kind) x.heldCount x.heldContent]))
    ∧ (∀ seq' idx mem x, (s.session sess).answered.find? (fun y => y.seq == seq') = some x →
      Does (.read dst sess seq' true idx mem) s fun t => t.out = s.out ++ [.wop sess x.service x.status x.ticket x.value]
        ∧ (t.session sess).highest = (s.session sess).highest)

/-- R298: bulk transfer. -/
def Obligations.BulkTransfer : Prop :=
  ∀ (s : State) (dst : WopAddr) (sess bulk : Nat), s.canonical = true → s.t1sUp = true → s.coxUp = true → s.addressed dst = true →
    (∀ seq idx mem fromModule total, newRequest s sess seq → s.bulkStatus (s.holderReq sess) sess idx mem fromModule total = 0 →
      Does (.bulkStart dst sess seq true idx mem fromModule total) s fun t => t.wop.nextBulk = s.wop.nextBulk % 0xFFFF + 1
        ∧ (∃ b ∈ t.wop.bulks, b.number = s.wop.nextBulk ∧ b.sess = sess ∧ b.key = objKey idx mem ∧ b.fromModule = fromModule ∧ b.next = 0)
        ∧ Out.wop sess svcBulkStart 0 0 (be 2 s.wop.nextBulk ++ be 1 8 ++ zeros 1 ++ be 2 1024) ∈ t.out)
    ∧ (∀ b data, s.bulkOf sess bulk false = some b → data.length = 1024 → b.next % 1024 = 0 → b.next + 1024 ≤ b.total →
      ((s.bulkHeard sess).imageWrite b.next data).1 = 0 →
      (b.next + 1024 = b.total → Does (.bulkData dst sess bulk b.next data) s fun t =>
        (∀ x ∈ t.wop.bulks, x.number ≠ bulk) ∧ t.out = s.out ++ [.bulkAck bulk b.total])
      ∧ (b.next + 1024 ≠ b.total → b.sinceAck < 7 → Does (.bulkData dst sess bulk b.next data) s fun t =>
        (∃ x ∈ t.wop.bulks, x.number = bulk ∧ x.next = b.next + 1024 ∧ x.sinceAck = b.sinceAck + 1) ∧ t.out = s.out)
      ∧ (b.next + 1024 ≠ b.total → 7 ≤ b.sinceAck → Does (.bulkData dst sess bulk b.next data) s fun t =>
        (∃ x ∈ t.wop.bulks, x.number = bulk ∧ x.next = b.next + 1024 ∧ x.sinceAck = 0) ∧ t.out = s.out ++ [.bulkAck bulk (b.next + 1024)]))
    ∧ (∀ b next, s.bulkOf sess bulk true = some b → b.next ≤ next → next ≤ b.sent →
      (next = b.total → Does (.bulkAck dst sess bulk next) s fun t => (∀ x ∈ t.wop.bulks, x.number ≠ bulk) ∧ t.out = s.out)
      ∧ (next ≠ b.total → Does (.bulkAck dst sess bulk next) s fun t =>
        ∃ x ∈ t.wop.bulks, x.number = bulk ∧ x.next = next ∧ x.sent = min b.total (next + 8192)))
    ∧ (∀ b, (s.wop.bulks.find? fun x => x.number == bulk && x.outOfOrder) = some b → Does (.bulkOutOfOrderAck bulk) s fun t =>
      (∃ x ∈ t.wop.bulks, x.number = bulk ∧ x.outOfOrder = false ∧ x.next = b.next) ∧ t.out = s.out ++ [.bulkAck bulk b.next])
    ∧ (Does (.bulkTimeout bulk) s fun t => ∀ x ∈ t.wop.bulks, x.number ≠ bulk)

/-- R105, R299: object access through a head's mailbox: without a session it reads as an Observer; a session of the mailbox also writes. -/
def Obligations.MailboxObjects : Prop :=
  ∀ (s : State) (h : Nat), s.canonical = true → s.linkUp h = true → s.domainOn 0 = true → s.coxUp = true →
    (Does (.objectRead h true 0 0 .zero 0x1101 0) s fun t =>
      returned h opObjectRead 0 (le 2 0 ++ le 2 2 ++ le 4 0 ++ s.value (0x10000 + h) 0x1101 0) t)
    ∧ (∀ seq idx mem, exec (.objectRead h false 0 seq .zero idx mem) s = .next ((s.emit (.mailbox h opObjectRead 1 [])).msix h 0))
    ∧ (∀ idx mem value, mayWrite idx mem { role := .observer, path := h + 1 } ≠ 0 → Does (.objectWrite h true 0 0 .zero idx mem value) s fun t =>
      returned h opObjectWrite 0 (le 2 (mayWrite idx mem { role := .observer, path := h + 1 }) ++ le 2 0 ++ le 4 0) t)
    ∧ (∀ sess seq pool, 1 ≤ sess → sess < 65536 → s.answers sess (h + 1) = true → (s.session sess).highest < seq →
      (s.session sess).answered.find? (fun x => x.seq == seq) = none → (s.session sess).role ≠ .observer → pool ≤ 0xFFFF →
      s.configLocked = false → s.storeBusy = false → Does (.objectWrite h true sess seq .valid 0x1101 0 (be 2 pool)) s fun t =>
        t.cfg 0x1101 0 = pool ∧ returned h opObjectWrite 0 (le 2 0 ++ le 2 0 ++ le 4 0) t ∧ (t.session sess).highest = seq)

/-- R309, R310, R311, R314–R316, R19: object writes, the commands of 0x7000.00, a deferred write, and the keel bridge. That an extent
for whose tracts there are too few blank physical tracts is skipped is the model's choice (notes/assumptions/22.md). -/
def Obligations.ObjectWrites : Prop :=
  ∀ (s : State), s.canonical = true → s.coxUp = true →
    (∀ req idx mem value, mayWrite idx mem req ≠ 0 →
      exec (.configObjectWrite req idx mem value) s = .next (s.emit (.access req idx mem (mayWrite idx mem req) 0)))
    ∧ (∀ req v, mayWrite 0x1102 3 req = 0 → s.configLocked = false → s.storeBusy = false →
      Does (.configObjectWrite req 0x1102 3 (boolByte v)) s fun t => t.cfg 0x1102 3 = (if v then 1 else 0) ∧ accepted req 0x1102 3 t)
    ∧ (∀ req, mayWrite 0x4000 0x11 req = 0 → Does (.configObjectWrite req 0x4000 0x11 (be 2 0)) s fun t =>
      t.flt.highMark = 0 ∧ t.flt.queue = s.flt.queue ∧ accepted req 0x4000 0x11 t)
    ∧ (∀ req n, mayWrite 0x7000 0 req = 0 → s.freeSlot = some n →
      (Does (.noOperation req) s fun t => (t.slot n).state = 2 ∧ (t.slot n).outcome = 0 ∧ accepted req 0x7000 0 t ∧ t.obj.vals = s.obj.vals)
      ∧ (s.obj.restoring = none → Does (.restoreDefaults req) s fun t => accepted req 0x7000 0 t
        ∧ ((t.slot n).state = 2 ∧ (t.slot n).outcome = 0 ∧ t.obj.restoring = none
          ∨ (t.slot n).state = 1 ∧ ∃ x, t.obj.restoring = some x ∧ x.slot = n ∧ s.domainOn x.domain = true)
        ∧ ((∀ d, d < 12 → s.domainOn d = false) → t.obj.restoring = none
          ∧ (s.configLocked = false → objKey 0x1000 0x0A ∈ s.restoreKeys req.role → t.obj.label = []))
        ∧ t.cfg 0x1101 0 = s.cfg 0x1101 0 ∧ t.cfg 0x1101 1 = s.cfg 0x1101 1 ∧ t.wop.keys = s.wop.keys)
      ∧ (∀ e, Role.atLeast req.role .custodian = true → e < extents → s.domainOn 2 = true → s.str.mapsLoaded = true →
        (s.suspectIn e = false → Does (.sanitizeExtents req e 1) s fun t => (t.slot n).state = 2 ∧ accepted req 0x7000 0 t
          ∧ ((t.slot n).outcome = 0 ∧ (t.slot n).result = be 2 1 ++ be 2 0xFFFF ∧ (∀ u, u / 256 = e → (t.entry u).pt ≠ (s.entry u).pt)
            ∨ (t.slot n).outcome = 7 ∧ (t.slot n).result = be 2 0 ++ be 2 e ∧ t.trc.map = s.trc.map))
        ∧ (s.suspectIn e = true → Does (.sanitizeExtents req e 1) s fun t => (t.slot n).state = 2 ∧ (t.slot n).outcome = 7
          ∧ (t.slot n).result = be 2 0 ++ be 2 e ∧ t.trc.map = s.trc.map ∧ t.itg.blocks = s.itg.blocks ∧ accepted req 0x7000 0 t)))
    ∧ (∀ n m, Tab.rd (0, 0) s.obj.deferred n = (objKey 0x1100 0 + 1, m) → (s.slot n).state = 1 → s.configLocked = false →
      Does (.persistWriteDeferredDone n) s fun t => t.cfg 0x1100 0 = m ∧ Tab.rd (0, 0) t.obj.deferred n = (0, 0)
        ∧ (t.slot n).state = 2 ∧ (t.slot n).outcome = 0)
    ∧ (∀ d a, s.domainOn d = true →
      (∀ w, exec (.keelBridgeAccess d a (some w)) s = .next (s.emit (.bridge (some w))))
      ∧ (Does (.keelBridgeAccess d a none) s fun t => (∃ w, t.out = s.out ++ [.bridge (some w)]) ∧ t.free = s.free + 1))
    ∧ (∀ d a, s.domainOn d = false → (∀ w, exec (.keelBridgeAccess d a w) s = .next (s.emit (.bridge none)))
      ∧ exec (.keelBridgeTimeout d a) s = .next (s.emit (.bridge none)))

/-- R23, R92, R149, R170, R173, R266, R286, R445: what a unit reports to the fault collector, each with its source, kind and address; a report of a class
below C3 joins the queue or, where the queue is full, is counted as lost; a fatal line acts at once, whether or not the queue is full. -/
def Obligations.UnitsReport : Prop :=
  ∀ (s : State), s.keelOn = true →
    (∀ h, 0 < (s.head h).inflight → exec (.headStall h) s
      = .next (s.report (srcHead h) 0x48 ((s.rdp.reads.find? fun e => e.2.head == h).map fun e => e.2.line)))
    ∧ (∀ src tract, unitKind src = some .engine ∨ essentialEngine src = true →
      exec (.engineTimeout src tract) s = .next (s.report src 0x53 (some (tract % 2 ^ 24))))
    ∧ (∀ ch, (s.channel ch).state = 1 → exec (.channelTrainingTimeout ch) s = .next (s.report (srcChannel ch) 0x22 none))
    ∧ (∀ ch e, (s.channel ch).state = 2 → Does (.channelTimingError ch e) s fun t =>
      (t.channel ch).timing = (if (s.channel ch).timing.natAbs < e.natAbs then e else (s.channel ch).timing)
        ∧ (if 250 < e.natAbs then reported s t (faultMsg (srcChannel ch) 0x20 none false) else t.flt = s.flt))
    ∧ (s.t1sUp = true → ∀ check, exec (.t1sPathFailure check) s = .next (s.report 0x2F5 0x85 none))
    ∧ (∀ unit u a l, s.unitOf unit = some u → u.starved = false → u.left = a :: l → Does (.starvationThreshold unit) s fun t =>
      t.wb.starvedCount = s.wb.starvedCount + 1 ∧ reported s t (faultMsg (dieOf a) 0x14 (some (granOf a)) false))
    ∧ (∀ m, kindClass (msgKind m) = 3 → Does (.fatalLineAssert m) s fun t =>
      t.flt.lastC3 = faultMsg (msgSource m) (msgKind m) (if msgAv m then some (msgAddr m) else none) true ∧ t.cause 0 = true
        ∧ msgSource m ∈ t.flt.sticky ∧ (s.flt.queue.length < 256 → queued s t t.flt.lastC3)
        ∧ (s.inService = true → t.pwr.state = .easyAll ∧ t.wb.flushing = true))
    ∧ (∀ src kind addr, kindClass kind ≠ 3 → reported s (s.report src kind addr) (faultMsg src kind addr false)
      ∧ (1 ≤ kindClass kind → src ∈ (s.report src kind addr).flt.sticky))

/-- R267–R269: the collector takes the oldest message. A message of class 0 is counted and has no reaction; a C2 message of an Active die with no other unit
of its group out fences the die; a C3 whose cause already stands leaves the last C3 as it is. -/
def Obligations.FaultCollector : Prop :=
  ∀ (s : State) (m : Word64) (rest : List Word64) (c : Nat), s.flt.queue = m :: rest → c = kindClass (msgKind m) → s.flt.classes.length = 4 →
    Does .faultMessageTaken s (fun t => rest <+: t.flt.queue ∧ t.flt.taken = s.flt.taken + 1 ∧ nth s.flt.classes c + 1 ≤ nth t.flt.classes c)
    ∧ (c = 0 → Does .faultMessageTaken s fun t => t.flt.units = s.flt.units ∧ t.flt.queue = rest ∧ t.pwr.state = s.pwr.state)
    ∧ (c = 2 → ∀ d, fenceTarget (msgSource m) (msgKind m) (msgAddr m) (msgAv m) = some d → unitKind d = some .die →
      (s.unit d).state = .active → s.isOut (srcChannel (d / 16)) = false → s.otherUnits (groupOfDie d) d = [] →
      Does .faultMessageTaken s fun t => (t.unit d).state = .fenced ∧ (t.unit d).quiet = s.tim.opTime + 1 ∧ t.flt.fences = s.flt.fences + 1)
    ∧ (c = 3 → s.cause 0 = true → Does .faultMessageTaken s fun t => t.flt.lastC3 = s.flt.lastC3 ∧ t.pwr.state = s.pwr.state)

/-- R28, R270: a clock's loss is reported, as a C3 for the clocks that a data service needs; sticky bits are stored, and cleared by writing ones. -/
def Obligations.ClocksAndStickyBits : Prop :=
  ∀ (s : State),
    (∀ c, c ≤ 13 → c ∉ s.pwr.lostClocks → s.keelOn = true → s.flt.queue.length < 256 → Does (.clockLost c) s fun t =>
      c ∈ t.pwr.lostClocks ∧ queued s t (faultMsg 0x2F6 (if clockFatal c then 0x81 else 0x80) (some c) (clockFatal c))
        ∧ (clockFatal c = true → t.cause 0 = true) ∧ (c = 12 → 0 ∈ t.pwr.haltDrivers))
    ∧ (∀ src, src ∈ s.flt.stickyDue → s.coxUp = true → Does (.stickyBitPersist src) s fun t =>
      src ∉ t.flt.stickyDue ∧ t.flt.sticky = s.flt.sticky ∧ t.par.queue = s.par.queue ++ [{ page := 90, left := 1, copy1 := 1 }])
    ∧ (∀ member ones, s.coxUp = true → s.configLocked = false → s.storeBusy = false → Does (.stickyBitClear member ones) s fun t =>
      t.flt.sticky = s.flt.sticky.filter (fun n => !(n / 64 == member && testBit ones.toNat (n % 64))) ∧ accepted byOperator 0x4010 member t)

/-- R274, R276–R278: the quiet timer leads to a probe, to a wait, or after three re-admissions to Latched; a probe's end re-admits the unit or fences it
again; the Operator fences, re-admits and releases. -/
def Obligations.FencesAndProbes : Prop :=
  ∀ (s : State) (src : Nat) (u : UnitS), s.canonical = true → s.unit src = u →
    (u.state = .fenced → u.quiet ≠ 0 →
      (3 ≤ s.recoveryCount src → s.keelOn = true → s.flt.queue.length < 256 → Does (.quietTimerExpiry src) s fun t =>
        (t.unit src).state = .latched ∧ queued s t (faultMsg src 0x03 none false))
      ∧ (s.recoveryCount src < 3 → s.probeBlocked src = true → Does (.quietTimerExpiry src) s fun t =>
        t.unit src = { u with quiet := 0, waitsChannel := true } ∧ ∀ j, j ≠ src → t.unit j = s.unit j)
      ∧ (s.recoveryCount src < 3 → s.probeBlocked src = false → Does (.quietTimerExpiry src) s fun t =>
        t.unit src = { u with state := .probing, fromHeld := false, quiet := 0, waitsChannel := false } ∧ ∀ j, j ≠ src → t.unit j = s.unit j))
    ∧ (u.state = .probing → u.waitsChannel = false → s.keelOn = true → s.flt.queue.length < 256 →
      (∀ find, s.probePasses src find = true → unitKind src = some .die ∨ unitKind src = some .channel → Does (.probeComplete src find) s fun t =>
        (t.unit src).state = .rebuilding ∧ queued s t (faultMsg src 0x02 none false))
      ∧ (∀ find, find.pass = true → unitKind src = some .port ∨ unitKind src = some .head ∨ unitKind src = some .engine ∨ unitKind src = some .t1s →
        Does (.probeComplete src find) s fun t => (t.unit src).state = .active ∧ queued s t (faultMsg src 0x02 none false))
      ∧ (∀ find, find.pass = true → unitKind src = some .part → Does (.probeComplete src find) s fun t =>
        src - 0x270 ∈ t.stg.restoring ∧ (t.sram (src - 0x270)).ready = true ∧ t.unit src = u)
      ∧ (∀ d, unitKind src = some .die → s.probePasses src { dies := [d] }
        = (d.trimOk && decide (d.verified = 4 ∧ d.wrong = 0 ∧ d.fallbacks = 0 ∧ d.worstBits ≤ 4)))
      ∧ (∀ find, unitKind src = some .channel → find.trained = false → s.probePasses src find = false)
      ∧ (∀ find, s.probePasses src find = false → Does (.probeComplete src find) s fun t => (t.unit src).state = (if u.fromHeld then .held else .fenced)
        ∧ queued s t (faultMsg src 0x01 none false))
      ∧ (Does (.probeTimeout src) s fun t => (t.unit src).state = (if u.fromHeld then .held else .fenced)
        ∧ queued s t (faultMsg src 0x01 none false)))
    ∧ (∀ req n, s.coxUp = true → s.freeSlot = some n → unitKind src ≠ none →
      (mayWrite 0x4003 0 req = 0 → u.state = .active → s.fenceRefused req src = false → Does (.operatorFence req src) s fun t =>
        (t.unit src).state = .held ∧ accepted req 0x4003 0 t)
      ∧ (mayWrite 0x4003 0 req = 0 → u.state = .fenced ∨ u.state = .held → s.recoveryCount src < 3 → s.probeBlocked src = false →
        s.cause 0 = false → Does (.operatorReadmit req src) s fun t =>
        t.unit src = { u with state := .probing, fromHeld := decide (u.state = .held), quiet := 0, waitsChannel := false } ∧ accepted req 0x4003 0 t)
      ∧ (mayWrite 0x4003 1 req = 0 → u.state = .latched → Does (.latchRelease req src) s fun t =>
        t.unit src = { u with state := .fenced, readmissions := [], quiet := s.tim.opTime + 1, waitsChannel := false }
          ∧ (t.slot n).state = 2 ∧ (t.slot n).outcome = 0 ∧ accepted req 0x4003 1 t))

/-- R230, R279, R281, R282: the Easy-all command enters from data service and leaves once it was the only cause; the end of the flush closes the root
record and leaves a flush-complete record alone in the ledger; T4's cause clears by its timer. -/
def Obligations.EasyAll : Prop :=
  ∀ (s : State),
    (∀ req n, s.coxUp = true → mayWrite 0x4040 2 req = 0 → s.freeSlot = some n →
      (s.inService = true → s.easy.state = .out → Does (.easyAllEnterCommand req) s fun t => t.pwr.state = .easyAll ∧ t.easy.state = .quiescing ∧ t.cause 3 = true
        ∧ t.wb.flushing = true ∧ (n, false) ∈ t.easy.slots ∧ (t.slot n).state = 1 ∧ accepted req 0x4040 2 t)
      ∧ (s.pwr.state = .easyAll → s.easy.causes = 8 → s.easyFlushed = true → s.easy.thenDown = false → s.pwr.resetAsked = false →
        s.pwr.mediaOnlyUp = false → s.anyFast = true → Does (.easyAllLeaveCommand req) s fun t => t.pwr.state = .dataService
          ∧ t.easy.state = .out ∧ t.easy.causes = 0 ∧ (t.slot n).state = 2 ∧ (t.slot n).outcome = 0 ∧ accepted req 0x4040 2 t)
      ∧ (s.pwr.state = .easyAll → s.cause 0 = true → Does (.easyAllLeaveCommand req) s fun t => t.pwr.state = .easyAll
        ∧ t.easy.causes = s.easy.causes ∧ (t.slot n).state = 2 ∧ (t.slot n).outcome = 7 ∧ accepted req 0x4040 2 t))
    ∧ (s.wb.flushing = true → s.flushedOut = true → s.pwr.state = .easyAll → s.easy.state = .quiescing → s.easy.thenDown = false →
      s.pwr.resetAsked = false → s.cause 2 = false →
      (s.wb.flushBroken = false → s.wb.ents = [] → Does .flushComplete s fun t => t.wb.flushing = false ∧ t.wb.dirty = [] ∧ t.wb.durable = []
        ∧ (∃ r, t.wb.ledger = [r] ∧ r.kind = 4) ∧ t.itg.record.state = 2)
      ∧ (s.wb.flushBroken = true ∨ s.wb.ents ≠ [] → Does .flushComplete s fun t => t.wb.flushing = false ∧ t.wb.ledger = s.wb.ledger ∧ t.itg.record = s.itg.record)
      ∧ (s.easy.causes ≠ 0 → Does .flushComplete s fun t => t.pwr.state = .easyAll ∧ t.easy.state = .flushed ∧ t.easy.causes = s.easy.causes))
    ∧ (s.cause 2 = true → s.thm.level ≤ 2 → s.pwr.seqState ≠ 3 → Does .t4ClearTimer s fun t => t.cause 2 = false)

/-- R31, R32, R159, R253–R256: the staging parts and the keel SRAM. -/
def Obligations.StagingSram : Prop :=
  ∀ (s : State) (n : Nat), s.canonical = true →
    (n ∈ s.stg.parityDue → Does (.stagingParityRecomputeDone n) s fun t => n ∉ t.stg.parityDue
      ∧ ∀ k ∈ s.pinnedNodes, ∀ w, w = pinnedOffset k.1 k.2 % bandBytes / 64 → parityPart w = n →
        t.parityWord w = (bandMates w).foldl (fun a m => a ^^^ s.node m.1 m.2) 0)
    ∧ (n ∈ s.stg.bandDue → Does (.wearBandReloadDone n) s fun t =>
      t.stg = { s.stg with bandDue := removeNat n s.stg.bandDue } ∧ t.trc.peakBase = s.trc.peakBase + 256
        ∧ ∀ tract, wearBand n logicalTracts tract = true → (t.activity tract).reads = (Tab.rd {} s.trc.actCkpt tract).reads)
    ∧ (n < 16 → n ∈ s.stg.restoring → (s.unit (srcPart n)).state = .probing → (s.unit (srcPart n)).waitsChannel = false →
      Does (.stagingPartRestoreDone n) s fun t => (t.unit (srcPart n)).state = .active ∧ n ∉ t.stg.restoring
        ∧ t.trc.peakBase = s.trc.peakBase + (if 8 ≤ n then 256 else 0))
    ∧ (n ≤ 17 → Does (.sramInitDone n true) s fun t => (t.sram n).ready = true ∧ ∀ j, j ≠ n → t.sram j = s.sram j)
    ∧ (n < 16 → s.keelOn = true → s.flt.queue.length < 256 → Does (.sramInitDone n false) s fun t =>
      queued s t (faultMsg (srcPart n) 0x32 none false) ∧ t.stg = s.stg)
    ∧ (32 ≤ n → n < 100 → s.keelOn = true → s.coreOn = true → s.flt.queue.length < 256 → Does (.sramInitDone n false) s fun t =>
      queued s t (faultMsg 0x2FA 0x88 none true) ∧ t.cause 0 = true)
    ∧ (Does (.sramInitDone 16 false) s fun t => t.str.keelFailed = true)
    ∧ ((s.sram n).ready = true → s.partOut n = false →
      (∀ word holds, exec (.sramPatrol n word holds .clean) s = .next s)
      ∧ (∀ word holds, Does (.sramPatrol n word holds .corrected) s fun t => (t.sram n).corrected = (s.sram n).corrected + 1
        ∧ ∀ j, j ≠ n → t.sram j = s.sram j)
      ∧ (∀ word holds, s.keelOn = true → s.flt.queue.length < 256 → Does (.sramPatrol n word holds .uncorrectable) s fun t =>
        (t.sram n).uncorrectable = (s.sram n).uncorrectable + 1
          ∧ queued s t (faultMsg (if n < 16 then srcPart n else 0x2F4) 0x30 (some (word % 2 ^ 23)) false)
          ∧ (holds = .mirrored → s.memberOut ((n + 8) % 16) = false → t.wb.ents = s.wb.ents)
          ∧ (holds = .coxData → t.cox.resets = s.cox.resets + 1 ∧ t.cox.state = 0)))

/-- R395, R397, R400, R402–R405, R412: Cox's resets. The watchdog resets Cox and starts the orphan timer; its release latches the options and starts the
image that the boot selection names. -/
def Obligations.CoxResets : Prop :=
  ∀ (s : State), s.keelOn = true →
    (s.flt.queue.length < 256 → Does .watchdogExpiry s fun t => t.cox.state = 0 ∧ t.cox.byWatchdog = true ∧ t.cox.resets = s.cox.resets + 1
      ∧ t.wop.sess = [] ∧ t.wop.bulks = [] ∧ t.cox.orphan ≠ 0 ∧ queued s t (faultMsg 0x2F1 0x83 none false))
    ∧ (s.cox.orphan ≠ 0 → s.cox.orphanLimit = false → s.str.dataReady = true → s.flt.queue.length < 256 → Does .orphanLimit s fun t =>
      t.cox.orphanLimit = true ∧ t.cause 0 = true ∧ queued s t (faultMsg 0x2F1 0x84 none true))
    ∧ (∀ find o, s.pwr.modrstLow = false → find.lostRecords = [] → find.lostObjects = [] → s.cox.state = 0 → s.cox.dead = false → s.fls.optionCut = false → s.fls.optionWords = some o → s.fls.flags = [] →
      s.img.trial = none → (if s.img.activeB then find.validB else find.validA) = true →
      3 ≤ (s.image' s.img.activeB).state → (s.image' s.img.activeB).state ≠ 4 → o.rollbackMin ≤ (s.image' s.img.activeB).rollback →
      Does (.coxResetRelease s.cox.byWatchdog find) s fun t => t.cox.state = 1 ∧ t.img.runsB = s.img.activeB ∧ t.cox.options = o.latched ∧ t.cox.iCache = [] ∧ t.cox.dCache = []
        ∧ t.cox.watchdogMs = o.wdtBoot * 10 ∧ t.par.bp = o.latched.bpReset)
    ∧ (∀ find, s.pwr.modrstLow = false → find.lostRecords = [] → find.lostObjects = [] → s.cox.state = 0 → s.cox.dead = false → s.fls.optionCut = false → s.fls.optionWords = none → s.fls.flags = [] → s.img.trial = none →
      find.validA = false → find.validB = false → Does (.coxResetRelease s.cox.byWatchdog find) s fun t =>
        t.cox.state = 0 ∧ t.cox.dead = true ∧ t.cox.options = {} ∧ t.cox.optionState = 3)
    ∧ (∀ byWatchdog find, s.pwr.modrstLow = true → exec (.coxResetRelease byWatchdog find) s = .next s)

/-- R369–R374, R379–R382: a conversion gives its input a reading or a fault, levels rise and fall, and the module's level is the highest of its inputs'; limits are
written within R372; the health figures follow once an hour. -/
def Obligations.Thermal : Prop :=
  ∀ (s : State) (i : Nat),
    (∀ r broken, s.keelOn = true → i < 44 → s.thm.counts.length = 4 →
      Does (.thermalConversion i r broken) s (fun t => (t.input i).reading = r ∧ (t.input i).seen = true
        ∧ (t.input i).faulty = (badConversion (s.input i) r broken || ((s.input i).faulty && decide ((s.input i).good + 1 < 100)))
        ∧ t.thm.level = ((List.range 44).map fun j => (t.input j).level).foldl max 0 ∧ nth t.thm.counts 0 = nth s.thm.counts 0 + 1)
      ∧ (badConversion (s.input i) r broken = true → (s.input i).faulty = false → s.flt.queue.length < 256 →
        Does (.thermalConversion i r broken) s fun t => queued s t (faultMsg (srcInput i) 0x71 (some (s16 r)) false)))
    ∧ (s.keelOn = true → (s.input i).belowSince ≠ 0 → 1 ≤ (s.input i).level → Does (.levelFall i) s fun t =>
      (t.input i).level = (s.input i).level - 1 ∧ t.thm.level = ((List.range 44).map fun j => (t.input j).level).foldl max 0)
    ∧ (∀ kind t1 t2 t3 t4 hyst, s.coxUp = true → s.configLocked = false → s.storeBusy = false → kind ≤ 4 →
      (limitsOk kind [t1, t2, t3, t4] hyst = true → Does (.limitsWrite kind t1 t2 t3 t4 hyst) s fun t =>
        t.thm = { s.thm with limits := s.thm.limits.set kind [t1, t2, t3, t4, (hyst : Int)] } ∧ accepted byOperator 0x5110 kind t)
      ∧ (limitsOk kind [t1, t2, t3, t4] hyst = false →
        exec (.limitsWrite kind t1 t2 t3 t4 hyst) s = .next (s.emit (.access byOperator 0x5110 kind 0x06 0))))
    ∧ (s.coxUp = true → Does .healthRecompute s fun t => t.hlt.peaks = (s.hlt.peaks ++ [s.topPeak]).drop (s.hlt.peaks.length + 1 - 721)
      ∧ t.hlt.predictedAt = s.tim.opTime ∧ t.hlt.state = t.hlt.indicators.foldl max 0)

/-- R169, R174, R176–R179, R181: the commands on a channel's bus. A sense or a header comes back as the cells hold it; a program or a clear starts only
on the plane granted for it; the trim registers answer in start-up and probes. -/
def Obligations.ChannelBus : Prop :=
  ∀ (s : State) (ch die : Nat), s.canonical = true →
    (s.busOk ch die = true →
      (∀ g l slot sq, slot < 16 → (s.plane (planeOf (granAddr ch die g))).senses? = true → Does (.sense ch die g l slot sq) s fun t =>
        t.out = s.out ++ [.sensedLine ch die g l (granLine (s.granule (granAddr ch die g)) l) (lineEcc (granLine (s.granule (granAddr ch die g)) l)) sq]
        ∧ (slot < (s.plane (planeOf (granAddr ch die g))).slots → t.plane (planeOf (granAddr ch die g)) = s.plane (planeOf (granAddr ch die g))))
      ∧ (∀ g p, s.plane (planeOf (granAddr ch die g)) = p → p.senses? = true → p.jobs = [] →
        (if s.cfg 0x3000 7 = 0 then p.slots = 0 else p.engineSenses < s.cfg 0x3000 7 ∧ p.slots < 16) →
        (∀ l sq, Does (.esense ch die g l sq) s fun t =>
          t.out = s.out ++ [.sensedLine ch die g l (granLine (s.granule (granAddr ch die g)) l) (lineEcc (granLine (s.granule (granAddr ch die g)) l)) sq]
          ∧ t.plane (planeOf (granAddr ch die g)) = { p with state := .sensing, engineSenses := p.engineSenses + 1 })
        ∧ (Does (.hsense ch die g) s fun t => t.out = s.out ++ [.sensedHeader ch die g
            (if (s.granule (granAddr ch die g)).blank then none else some (headerWord (s.granule (granAddr ch die g)).hdr))]
          ∧ t.plane (planeOf (granAddr ch die g)) = { p with state := .sensing, engineSenses := p.engineSenses + 1 }))
      ∧ (∀ plane image, Does (.load ch die plane image) s fun t =>
        t.plane (planeKey ch die plane) = { s.plane (planeKey ch die plane) with buffer := image } ∧ t.med.granules = s.med.granules)
      ∧ exec (.status ch die) s = .next (s.emit (.channelResult ch die ((List.range 4).map fun p => (s.plane (planeKey ch die p)).result)))
      ∧ (∀ plane p, s.plane (planeKey ch die plane) = p → p.state = .granted → Does (.abort ch die plane) s fun t =>
        t.plane (planeKey ch die plane) = { p with state := .aborting, abortRepeated := false })
      ∧ (∀ g a j p, a = granAddr ch die g → s.plane (planeOf a) = p → p.op = some j → p.state = .granted → j.clear = false → j.target = a →
        p.result ≠ 3 → p.buffer = j.image → p.room = true ∨ s.hasRoom j = true → Tab.rd 0 s.med.clearing (sectorOf a) = 0 → Does (.prog ch die g) s fun t =>
          t.plane (planeOf a) = { p with result := 3, room := false } ∧ t.med.governor = s.med.governor + 1 ∧ t.med.granules = s.med.granules)
      ∧ (∀ sector segment a j p, a = granAddr ch die (sector * 256 + segment * 16) → s.plane (planeOf a) = p → p.op = some j →
        p.state = .granted → j.clear = true → j.target = a → p.result ≠ 3 → p.room = true ∨ s.hasRoom j = true → Does (.clrseg ch die sector segment) s fun t =>
          t.plane (planeOf a) = { p with result := 3, room := false } ∧ t.med.governor = s.med.governor + 2 ∧ t.med.granules = s.med.granules
          ∧ ∀ i, i < 16 → Tab.rd 0 t.trc.epoch (a + i) = Tab.rd 0 s.trc.epoch (a + i) + 1))
    ∧ (∀ reg, ((s.channel ch).state = 1 ∧ s.dieOut (ch * 16 + die) = false) ∨ (s.unit (ch * 16 + die)).state = .probing → Does (.trim ch die reg) s fun t =>
      t.out = s.out ++ [.channelResult ch die [reg, Config.freeNat s.free]] ∧ t.free = s.free + 1)
    ∧ (∀ plane p, s.plane (planeKey ch die plane) = p → p.state = .granted → p.waiting ≠ [] → Does (.check ch die plane) s fun t =>
      t.plane (planeKey ch die plane) = { p with state := .aborting, abortRepeated := false, checks := p.checks + 1 }
      ∧ (t.channel ch).checks = (s.channel ch).checks + 1 ∧ t.med.checks = s.med.checks + 1)

/-- R163, R170, R171, R175–R180, R445: the ends of a plane's operations and the failures of its answers. -/
def Obligations.PlaneEnds : Prop :=
  ∀ (s : State) (ch die plane k : Nat) (p : PlaneS), s.canonical = true → k = planeKey ch die plane → s.plane k = p →
    (∀ a b l, p.state = .sensing → p.senses = a :: b :: l → p.waiting = [] → Does (.planeOperationEnd ch die plane .senseEnd) s fun t =>
      (t.plane k).senses = b :: l ∧ (t.plane k).state = .sensing)
    ∧ (∀ j, p.op = some j → p.state = .granted → p.result = 3 →
      (j.clear = false → Does (.planeOperationEnd ch die plane .done) s fun t => t.granule j.target = j.image
        ∧ t.med.governor = s.med.governor - 1 ∧ (t.die (dieOf j.target)).programs = (s.die (dieOf j.target)).programs + 1)
      ∧ (j.clear = true → Does (.planeOperationEnd ch die plane .done) s fun t => (∀ i, i < 16 → t.granule (j.target + i) = {})
        ∧ t.med.governor = s.med.governor - 2 ∧ (t.die (dieOf j.target)).clears = (s.die (dieOf j.target)).clears + 1)
      ∧ (j.clear = false → j.retried = false → Does (.planeOperationEnd ch die plane .verifyFail) s fun t =>
        (t.plane k).op = some { j with retried := true } ∧ (t.plane k).state = .granted ∧ (t.plane k).result = 3 ∧ Tab.rd 0 t.trc.epoch j.target = Tab.rd 0 s.trc.epoch j.target + 1)
      ∧ (j.clear = false → j.retried = true → (s.channel (dieOf j.target / 16)).bad.length < 64 →
        (s.trc.dirtyPts.any fun d => d.1 == ptOfAddr j.target && s.cleared d.1) = false →
        Does (.planeOperationEnd ch die plane .verifyFail) s fun t => j.target ∈ (t.channel (dieOf j.target / 16)).bad
          ∧ t.med.failures = s.med.failures + 1)
      ∧ (j.engine = .drain ∨ j.clear = true ∨ (j.engine, j.owner, j.target) ∈ s.med.work → Does (.programStatusTimeout ch die plane) s fun t => ({ j with reissued := true } ∈ (t.plane k).jobs
        ∨ (t.plane k).op = some { j with reissued := true }) ∧ t.med.governor = s.med.governor - j.weight))
    ∧ (∀ j rb, j.engine = .drain ∨ j.clear = true ∨ (j.engine, j.owner, j.target) ∈ s.med.work → p.op = some j → p.state = .aborting → p.result ≠ 3 → p.waiting ≠ [] → p.senses = [] → p.engineSenses = 0 →
      Does (.abortReport ch die plane false rb) s fun t => (t.plane k).op = none ∧ j ∈ (t.plane k).jobs ∧ (t.plane k).state = .sensing
        ∧ (t.plane k).senses = (p.waiting.take 16).map Prod.fst)
    ∧ (p.state = .aborting →
      (p.abortRepeated = false → Does (.abortTimeout ch die plane) s fun t => (t.plane k).abortRepeated = true ∧ (t.plane k).state = .aborting)
      ∧ (p.abortRepeated = true → s.keelOn = true → s.flt.queue.length < 256 → Does (.abortTimeout ch die plane) s fun t =>
        queued s t (faultMsg (ch * 16 + die) 0x16 none false)))
    ∧ (∀ rid r, s.readOf rid = some r → ReadSrc.own ∈ r.waiting → Does (.senseTimeout (.read rid .own)) s fun t =>
      ∃ r', t.readOf rid = some r' ∧ ReadSrc.own ∉ r'.waiting ∧ r'.reconstructed = true)
    ∧ (∀ g p', s.plane (planeOf (granAddr ch die g)) = p' → 0 < p'.engineSenses → Does (.senseTimeout (.engine ch die g)) s fun t =>
      t.rdp = s.rdp ∧ t.med.granules = s.med.granules)
    ∧ (s.busOk ch die = true ∨ s.trimOk ch die = true → Does (.commandParityError ch die none) s fun t =>
      t.channel ch = { s.channel ch with parity := (s.channel ch).parity + 1 })
    ∧ ((s.channel ch).state = 1 → Does (.channelTrainingDone ch) s fun t => t.channel ch = { s.channel ch with state := 2 })

/-- R138, R141, R145, R228, R229: a drain unit takes the eligible entries of a due row, starts its programs once its node entries are acknowledged, and frees
its entries and images at its end. -/
def Obligations.DrainUnits : Prop :=
  ∀ (s : State), s.canonical = true →
    (∀ key e, (s.lineEnts key).opened = some e →
      (isNodeKey key = false → Does (.coalescingDelayExpiry key) s fun t =>
        t.lineEnts key = { s.lineEnts key with opened := some { e with aged := true } })
      ∧ (isNodeKey key = true → Does (.nodeHoldExpiry key) s fun t =>
        t.lineEnts key = { s.lineEnts key with opened := some { e with aged := true } }))
    ∧ (∀ tract row fs tree es, tractNamed tract = true → s.rowBusy tract row = false → s.running tract = none → s.rowEntries tract row = es →
      s.drainRuns tract = true → (s.wb.flushing = true → s.flushDrains = true) → s.rowNext (pairOfTract tract) tract row = true →
      (s.rowWraps tract es = true → s.rowBusy tract (row / 2 * 2 + (1 - row % 2)) = false) →
      (tract < logicalTracts → tree = .unrecoverable → Does (.drainUnitSelect (pairOfTract tract) tract row fs tree) s fun t =>
        (t.entry tract).state = .integrityLost ∧ t.wb.units = s.wb.units ∧ t.wb.ents = s.wb.ents)
      ∧ (logicalTracts ≤ tract ∨ tree ≠ .unrecoverable → Does (.drainUnitSelect (pairOfTract tract) tract row fs tree) s fun t =>
        (∃ u ∈ t.wb.units, u.id = s.wb.nextUnit ∧ u.tract = tract ∧ u.row = row ∧ u.keys = es.map Prod.fst ∧ u.started = false)
        ∧ t.wb.nextUnit = s.wb.nextUnit + 1
        ∧ ∀ x ∈ es, t.lineEnts x.1 = { opened := none, drain := some { x.2 with state := .draining } }))
    ∧ (∀ unit u, s.unitOf unit = some u → u.started = false → s.nodesAcked u = true → s.drainRuns u.tract = true →
      Does (.drainProgramsStart unit) s fun t => (∃ u', t.unitOf unit = some u' ∧ u' = { u with started := true, left := u'.left }
        ∧ ∀ a, a ∈ u'.left ↔ a ∈ u.left ∧ ¬ (s.dieOut (dieOf a) = true ∧ a ∈ u.images.map Prod.fst)) ∧ t.wb.ents = s.wb.ents)
    ∧ (∀ unit u, s.unitOf unit = some u → u.started = true → u.left = [] → s.badTableDue = false → Does (.drainUnitComplete unit) s fun t =>
      (∀ x ∈ t.wb.units, x.id ≠ unit) ∧ (∀ key ∈ u.keys, (t.lineEnts key).drain = none) ∧ (∀ i ∈ u.images, t.registered i.1 = none)
        ∧ (u.keys = [] → t.itg.rekeyLeft = s.itg.rekeyLeft.filter fun i => i != u.tract * 256 + u.row / 2))

/-- R153, R154: the ledger's records, and an input dip, which withholds RwD credit and seals. -/
def Obligations.LedgerAndDips : Prop :=
  ∀ (s : State),
    (s.coreOn = true → s.wb.dirty ≠ s.wb.lastListed → Does .ledgerDelta s fun t => t.wb.lastListed = s.wb.dirty
      ∧ t.wb.writing = s.wb.writing ++ [s.newRec 1 (s.wb.dirty.filter fun x => !s.wb.lastListed.contains x) (s.wb.lastListed.filter fun x => !s.wb.dirty.contains x)]
      ∧ t.wb.ledgerSeq = (s.wb.ledgerSeq + 1) % 2 ^ 32)
    ∧ (s.coreOn = true → Does .ledgerFullSet s fun t =>
      t.wb.writing = s.wb.writing ++ [s.newRec 2 s.wb.dirty []])
    ∧ (∀ kind added removed, s.newRec kind added removed =
      { kind := kind, seq := s.wb.ledgerSeq, added := added, removed := removed,
        cycles := s.tim.cycles, time := s.tim.opTime, whole := true, at' := s.wb.ledgerNext })
    ∧ (∀ r l, r.whole = false → r.kind ≠ 2 → replay (r :: l) = [])
    ∧ (∀ seq r, (s.wb.writing.find? fun r => r.seq == seq && (r.kind == 1 || r.kind == 2)) = some r →
      Does (.ledgerRecordDurable seq) s fun t => r ∈ t.wb.ledger ∧ t.wb.durable = replay t.wb.ledger ∧ (∀ x ∈ t.wb.writing, x.seq ≠ seq)
        ∧ (r.kind = 2 → t.wb.ledger = r :: s.wb.ledger.filter fun x => decide (r.seq < x.seq)))
    ∧ (s.pwr.dip = false → s.pwr.switchClosed = true → s.coreOn = true → Does .inputDip s fun t => t.pwr.dip = true ∧ t.wb.dipHeld = true
      ∧ (∀ p, p < 4 → (t.port p).rwdWithheld = true)
      ∧ t.wb.writing = s.wb.writing ++ [s.newRec 3 (s.wb.dirty.filter fun x => !s.wb.durable.contains x) []])
    ∧ (∀ seq r, (s.wb.writing.find? fun r => r.seq == seq && r.kind == 3) = some r →
      Does (.sealRecordDurable seq) s (fun t => r ∈ t.wb.ledger ∧ t.wb.durable = replay t.wb.ledger)
      ∧ (s.pwr.dip = false → s.sealWaits = false → (∀ x ∈ s.wb.writing, x.kind = 3 → x.seq = seq) →
        Does (.sealRecordDurable seq) s fun t => t.wb.dipHeld = false))
    ∧ (s.pwr.dip = true → s.keelOn = true → s.flt.queue.length < 256 → Does .inputDipRecovered s fun t => t.pwr.dip = false
      ∧ t.pwr.shortDips = s.pwr.shortDips + 1 ∧ queued s t (faultMsg 0x2BA 0x61 none false)
      ∧ ((∀ x ∈ s.wb.writing, x.kind ≠ 3) → t.wb.dipHeld = false))

/-- R128, R129, R187, R196–R198: a migration from its start to the checkpoint that ends it. Reads go to the destination from the seal on. -/
def Obligations.Migrations : Prop :=
  ∀ (s : State) (tract : Nat) (m : Migration), s.canonical = true →
    (∀ dst, (s.trc.migs.find? fun m => m.tract == tract && decide (m.state = .queued)) = some m → s.migRoom m.cause = true →
      s.drains tract = false → s.nextMig m = true → s.thm.level < 2 → s.isOut 0x298 = false → m.cause = 1 ∨ (s.entry tract).state = .mapped →
      s.destination tract = some dst → Does (.migrationStart tract) s fun t => t.entry tract = { s.entry tract with mig := true }
        ∧ (∀ j, j ≠ tract → t.entry j = s.entry j)
        ∧ ∃ x ∈ t.trc.migs, x.tract = tract ∧ x.state = .copying ∧ x.src = (s.entry tract).pt ∧ x.dst = dst ∧ x.cursor = 0)
    ∧ (s.running tract = some m → (∀ x ∈ s.trc.migs, x.tract = tract → x = m) →
      (∀ g fs, m.state = .copying → m.cursor ≠ 512 → s.isOut 0x298 = false → s.nodesBusy m = false → s.sealIndex m.src = some g →
        (m.cursor < g / 8 → Does (.migrationRowCopy tract fs) s fun t => (∃ x, t.running tract = some x ∧ x.state = .copying
          ∧ x.cursor = m.cursor + 1 ∧ x.src = m.src ∧ x.dst = m.dst) ∧ ∀ j, (t.entry j).pt = (s.entry j).pt ∧ (t.entry j).state = (s.entry j).state)
        ∧ (g / 8 ≤ m.cursor → Does (.migrationRowCopy tract fs) s fun t => ∀ x, t.running tract = some x → x.cursor = 512))
      ∧ (∀ fs, m.state = .copying → m.cursor ≠ 512 → s.isOut 0x298 = false → s.sealIndex m.src = none → logicalTracts ≤ tract →
        s.engineWorks .migration tract = false → s.trc.migs = [m] → Does (.migrationRowCopy tract fs) s fun t =>
        t.running tract = none ∧ (t.entry tract).pt = m.dst ∧ (t.entry tract).mig = false)
      ∧ (m.state = .sealing → s.engineWorks .migration tract = false → Does (.sealVerified tract) s fun t =>
        t.running tract = some { m with state := .sealed } ∧ t.readPt tract = m.dst ∧ t.trc.map = s.trc.map)
      ∧ (m.state = .sealed → Tab.rd 0 s.trc.readsOn m.src = 0 → Does (.sourceReadsDrained tract) s fun t =>
        t.running tract = some { m with state := .clearing } ∧ t.trc.map = s.trc.map
          ∧ (systemTract tract = true → t.directoryPt tract = m.dst))
      ∧ (m.state = .clearing → s.cleared m.src = true → Does (.sourceClearComplete tract) s fun t =>
        (∃ x, t.running tract = some x ∧ x.state = .releasing) ∧ t.entry tract = { s.entry tract with pt := m.dst }
          ∧ Tab.get shipEntry t.trc.ckptA tract = ckptEntry (t.entry tract) ∧ t.trc.ckptB = s.trc.ckptB)
      ∧ (m.state = .releasing → Does (.checkpointVerified tract) s fun t => (∀ x ∈ t.trc.migs, x.tract ≠ tract)
        ∧ t.entry tract = { s.entry tract with mig := false, badg := false, refr := false } ∧ ∀ j, j ≠ tract → t.entry j = s.entry j))

/-- R191, R200, R235: the wear epoch, the wear checkpoint, a refresh visit, and the re-establishment of a lost tract. -/
def Obligations.WearAndRefresh : Prop :=
  ∀ (s : State), s.canonical = true →
    (Does .wearEpoch s fun t => t.trc.epoch = [] ∧ t.free = s.free + ((s.trc.epoch.map fun e => ptOfAddr e.1).dedup).length
      ∧ ∀ pt, (∀ e ∈ s.trc.epoch, ptOfAddr e.1 ≠ pt) → t.peakOf pt = s.peakOf pt)
    ∧ exec .wearCheckpointWriteback s = .next (s.modTrc fun x =>
      { x with peakCkpt := x.peak, peakCkptB := x.peak, baseCkpt := x.peakBase, actCkpt := x.act, actCkptB := x.act })
    ∧ (∀ pt n fs, s.tractAt pt = some n → s.isOut 0x29A = false → s.coreOn = true → Does (.refreshVisit pt fs) s fun t =>
      t.entry n = { s.entry n with refr := (t.entry n).refr } ∧ ((t.entry n).refr = true → (s.entry n).refr = true) ∧ (∀ j, j ≠ n → t.entry j = s.entry j)
        ∧ t.trc.sweep = (s.trc.sweep + 1) % occupiedTracts
        ∧ ∀ row a, row < 512 → a ∈ stripe pt row → (s.image a).blank = false → s.lostAt a = false → s.dieOut (dieOf a) = false →
          s.badGranule a = false → s.registered a = none → s.refreshDue pt fs a = true →
          t.registered a = some { s.image a with hdr := { (s.image a).hdr with epoch := s.epochNow, writer := 2 } })
    ∧ (∀ n pt, n < logicalTracts → (s.entry n).state = .integrityLost → s.str.dataReady = true → s.drains n = false → s.running n = none →
      s.trc.migs = [] → s.blankFor n = some pt → Does (.reEstablishment n) s fun t =>
        t.entry n = { state := .mapped, pt := pt } ∧ t.itg.reestablished = s.itg.reestablished + 1)

/-- R192, whole: a heat period's end. HEAT becomes the larger of HEAT − 1 and floor(log2(1 + n ÷ 10)), n the granule programs of the tract since the
last; a tract without a program loses one level; each program that ends on a tract's place adds 1 to its n. HEAT has 5 bits, so the formula holds
below 10 × (2^32 − 1) programs, above which it would not fit. -/
def Obligations.HeatPeriod : Prop :=
  ∀ (s : State), s.canonical = true →
    (Does .heatPeriod s fun t => ∀ n, (t.activity n).programs = 0
      ∧ ((s.activity n).programs < 10 * (2 ^ 32 - 1) →
        (t.activity n).heat = max ((s.activity n).heat - 1) (Nat.log2 (1 + (s.activity n).programs / 10)))
      ∧ ((s.activity n).programs = 0 → (t.activity n).heat = (s.activity n).heat - 1)
      ∧ t.activity n = { s.activity n with heat := (t.activity n).heat, programs := 0 })
    ∧ (∀ ch die plane k p j n, (∀ m ∈ s.trc.migs, m.state = .copying → m.cursor < 512) → k = planeKey ch die plane → s.plane k = p → p.op = some j → p.state = .granted → p.result = 3 → j.clear = false →
      s.tractAt (ptOfAddr j.target) = some n → n < logicalTracts → Does (.planeOperationEnd ch die plane .done) s fun t =>
        t.activity n = { s.activity n with programs := (s.activity n).programs + 1 } ∧ ∀ m, m ≠ n → t.activity m = s.activity m)

/-- R210, R236–R239: re-keying a region, debug windows and reads, and the judgement of the root. -/
def Obligations.KeysAndRoot : Prop :=
  ∀ (s : State), s.canonical = true →
    (∀ req region n, s.coxUp = true → mayWrite 0x3201 0 req = 0 → region ≤ 63 → s.itg.rekeyState ≠ 1 → (s.region region).mask ≠ 0 →
      s.domainOn 3 = true → s.freeSlot = some n →
      (s.rekeySpans region ≠ [] → Does (.rekeyRequest req region) s fun t => t.itg.rekeyState = 1 ∧ t.itg.rekeyRegion = region
        ∧ t.itg.rekeyLeft = s.rekeySpans region ∧ t.itg.rekeySlot = n ∧ t.region region = s.region region ∧ accepted req 0x3201 0 t)
      ∧ (s.rekeySpans region = [] → Does (.rekeyRequest req region) s fun t => t.itg.rekeyState = 2
        ∧ t.region region = { s.region region with gen := (s.region region).gen + 1, keyed := true } ∧ accepted req 0x3201 0 t))
    ∧ (∀ span fs tree, s.itg.rekeyState = 1 → span ∈ s.itg.rekeyLeft → s.coreOn = true →
      ((s.block span).minors = 0 ∨ bit (s.block span).kg ≠ (s.region s.itg.rekeyRegion).gen % 2 → (∃ j ∈ s.itg.rekeyLeft, j ≠ span) →
        Does (.rekeySpan s.itg.rekeyRegion span fs tree) s fun t => t.itg.rekeyLeft = s.itg.rekeyLeft.filter (fun j => j != span)
          ∧ t.itg.blocks = s.itg.blocks ∧ t.itg.rekeyState = 1 ∧ t.ext.regions = s.ext.regions)
      ∧ ((s.block span).minors ≠ 0 → bit (s.block span).kg = (s.region s.itg.rekeyRegion).gen % 2 → s.spanBusy span = false →
        s.wb.durable.contains (span / 256) = true → tree ≠ .unrecoverable → Does (.rekeySpan s.itg.rekeyRegion span fs tree) s fun t =>
          t.block span = { s.block span with kg := !(s.block span).kg } ∧ t.itg.rekeyLeft = s.itg.rekeyLeft
          ∧ (∃ u ∈ t.wb.units, u.id = s.wb.nextUnit ∧ u.tract = span / 256 ∧ u.row = span % 256 * 2 ∧ u.keys = [])
          ∧ t.itg.rekeyState = 1 ∧ t.ext.regions = s.ext.regions))
    ∧ (s.coxUp = true → ∀ ww, ww ≤ 3 → s.domainOn 3 = true →
      (∀ dpa len life, dpa % 64 = 0 → 1 ≤ len → len ≤ 2 ^ 28 → dpa + len ≤ dpaSize → 1 ≤ life → life ≤ 86400 →
        Does (.debugWindowOpen ww dpa len life) s fun t =>
          Tab.rd {} t.itg.windows ww = { first := dpa, len := len, life := life, opened := s.tim.opTime } ∧ accepted byCustodian 0x3240 ww t)
      ∧ (Does (.debugWindowClose ww) s fun t => (Tab.rd {} t.itg.windows ww).len = 0 ∧ accepted byCustodian 0x3240 ww t))
    ∧ (∀ ww, Does (.debugWindowExpiry ww) s fun t => (Tab.rd {} t.itg.windows ww).len = 0)
    ∧ (∀ dpa l, s.inWindow dpa = true → s.cox.options.dbgLock = false → s.coreOn = true →
      ((s.entry (tractOfLine (lineOf dpa))).state = .zero → ∀ o, exec (.debugRead dpa o) s = .next (s.emit (.debugData dpa false 0)))
      ∧ ((s.entry (tractOfLine (lineOf dpa))).state = .suspect ∨ (s.entry (tractOfLine (lineOf dpa))).state = .integrityLost →
        ∀ o, exec (.debugRead dpa o) s = .next (s.emit (.debugData dpa true 0)))
      ∧ ((s.entry (tractOfLine (lineOf dpa))).state = .mapped → ∀ d, s.decideLine (s.block (lineOf dpa / 64)) (lineOf dpa) l = .data d →
        exec (.debugRead dpa (some l)) s = .next (s.emit (.debugData dpa false d))))
    ∧ (∀ dpa l, s.inWindow dpa = false → s.cox.options.dbgLock = false → s.coreOn = true →
      exec (.debugRead dpa (some l)) s = .next (s.emit (.debugStored dpa (some (l, lineMeta l)))))
    ∧ (∀ req n, s.coxUp = true → mayWrite 0x3200 2 req = 0 → s.domainOn 3 = true → 2 ≤ s.itg.rootState → s.freeSlot = some n →
      (Does (.rootDecisionAdopt req) s fun t => t.itg.rootState = 1 ∧ t.str.rootDone = true ∧ t.itg.record.state = 1
        ∧ t.trc.map = s.trc.map ∧ accepted req 0x3200 2 t)
      ∧ (Does (.rootDecisionReject req) s fun t => t.itg.rootState = 1 ∧ t.str.rootDone = true
        ∧ (∀ x, x < logicalTracts → (t.entry x).state = .integrityLost) ∧ accepted req 0x3200 2 t))
    ∧ (s.str.phase = .rootRebuild → s.str.rootDone = false →
      (s.itg.record.state = 2 → Does (.rootRebuildComplete true true []) s fun t => t.itg.rootState = 0 ∧ t.str.rootDone = true)
      ∧ (∀ e, Does (.rootRebuildComplete e false []) s fun t => t.itg.rootState = 3 ∧ t.itg.alarms = s.itg.alarms + 1
        ∧ t.str.phase = .awaitingCustodian ∧ t.str.rootDone = false)
      ∧ (s.itg.record.state = 2 → s.str.clean = true → Does (.rootRebuildComplete false true []) s fun t => t.itg.rootState = 3
        ∧ t.str.phase = .awaitingCustodian ∧ t.str.rootDone = false)
      ∧ (∀ e, s.itg.record.state ≠ 2 ∨ (e = false ∧ s.str.clean = false) → Does (.rootRebuildComplete e true []) s fun t =>
        (if s.cfg 0x3200 1 = 0 then t.itg.rootState = 1 ∧ t.str.rootDone = true else t.itg.rootState = 2 ∧ t.str.phase = .awaitingCustodian))
      ∧ (∀ e x, Does (.rootRebuildComplete e true [x]) s fun t => (t.entry x).state = .integrityLost ∧ t.itg.rootState ≠ 0))

/-- R242, R247–R251, R257–R261: scrub passes, the patrol, the rewrite queue and the rebuild of a re-admitted unit. -/
def Obligations.ScrubAndRebuild : Prop :=
  ∀ (s : State),
    (∀ req mode first len n, s.coxUp = true → mayWrite 0x3301 0 req = 0 → mode ≤ 1 → 1 ≤ len → s.coreOn = true → s.scr.passes.length < 4 →
      s.freeSlot = some n →
      (first % 64 = 0 → len % 64 = 0 → first + len ≤ dpaSize → Does (.scrubDpaPass req mode first len) s fun t =>
        t.scr.passes = s.scr.passes ++ [{ ticket := (t.slot n).ticket, kind := 0, repair := decide (mode = 1), first := first, len := len, start := s.tim.opTime }] ∧ (t.slot n).state = 1 ∧ accepted req 0x3301 0 t)
      ∧ (first / 2 ^ 27 < 576 → first % 2 ^ 27 + len ≤ 2 ^ 27 → Does (.scrubPhysicalPass req mode first len) s fun t =>
        t.scr.passes = s.scr.passes ++ [{ ticket := (t.slot n).ticket, kind := 1, repair := decide (mode = 1), first := first, len := len, start := s.tim.opTime }] ∧ (t.slot n).state = 1 ∧ accepted req 0x3301 0 t))
    ∧ (∀ ticket p, s.coxUp = true → (s.scr.passes.find? fun p => p.ticket == ticket) = some p → Does (.scrubCancel ticket) s fun t =>
      (∀ x ∈ t.scr.passes, x.ticket = ticket → x.cancel = true) ∧ t.scr.passes.length = s.scr.passes.length ∧ accepted byOperator 0x3301 1 t)
    ∧ (∀ ticket fs p pt row n, (s.scr.passes.find? fun p => p.ticket == ticket) = some p → s.isOut 0x299 = false → p.repair = false →
      s.passRow p = some (pt, row, n) → s.unitOnRow pt row = false → ((stripe pt row).all fun a => (s.image a).blank) = false →
      (p.cancel = false → p.cursor + 1 < passRows p → Does (.scrubRow ticket fs) s fun t => ∃ x ∈ t.scr.passes, x.ticket = ticket
        ∧ x.cursor = p.cursor + 1 ∧ x.counts = (List.range 11).map fun k => nth p.counts k + nth (s.rowCounts pt row fs false) k)
      ∧ (p.cancel = true ∨ passRows p ≤ p.cursor + 1 → Does (.scrubRow ticket fs) s fun t => ∀ x ∈ t.scr.passes, x.ticket ≠ ticket))
    ∧ (∀ a n, a ∈ s.scr.rewrite → s.isOut 0x299 = false → s.coreOn = true → s.tractAt (ptOfAddr a) = some n → s.registered a = none →
      s.lostAt a = false → s.dieOut (dieOf a) = false → s.badGranule a = false → (s.image a).blank = false → Does (.scrubRewrite a) s fun t =>
        a ∉ t.scr.rewrite ∧ t.registered a = some { s.image a with hdr := s.repairHeader a n, torn := false })
    ∧ (∀ pt row n fs, s.tractAt pt = some n → s.isOut 0x299 = false → s.cfg 0x3300 1 ≠ 0 → row < 512 → s.unitOnRow pt row = false →
      s.coreOn = true → Does (.patrolRow pt row fs) s fun t =>
        t.scr.patrol = if row = 511 then (s.scr.patrol + 1) % occupiedTracts else s.scr.patrol)
    ∧ (∀ g r fs, s.rebuild g = r → r.state = 1 → s.isOut 0x29B = false → s.inEasy = false → s.coreOn = true →
      s.engineWorks .rebuild g = false → s.tractBusy (s.rebuildTracts g) = false →
      (r.cursor + 1 < 262144 → Does (.rebuildStep g fs) s fun t => (t.rebuild g).cursor = r.cursor + 1 ∧ (t.rebuild g).unit = r.unit)
      ∧ (262144 ≤ r.cursor → Does (.rebuildStep g fs) s fun t => t.rebuild g = {}
        ∧ ((s.unit r.unit).state = .rebuilding → (t.unit r.unit).state = .active)))

/-- R157, R206, R412, R413, R415, R417–R420, R424: the end of the full scan, management ready, data ready with its review, and the Custodian's decisions. -/
def Obligations.StartAndReview : Prop :=
  ∀ (s : State), s.canonical = true →
    (∀ torn ms, s.str.phase = .fullScan → s.channelsReady = true → Does (.fullScanComplete torn ms) s fun t =>
      t.str.phase = .rootRebuild ∧ t.str.mapsLoaded = true ∧ t.trc.peakBase = s.trc.peakBase + 256
        ∧ t.trc.peakCkpt = t.trc.peak ∧ t.trc.scans = s.trc.scans + 1)
    ∧ (s.keelOn = true → s.cox.state = 1 → s.str.keelFailed = false → (s.sram 16).ready = true → s.managed = true → s.pwr.modrstLow = false → (∀ h, (s.head h).doorbell = none) → Does .managementReady s fun t =>
      t.coxUp = true ∧ t.cox.orphan = 0 ∧ t.cox.byWatchdog = false ∧ t.obj.ended = [])
    ∧ (s.readyForData = true → s.itg.rekeyState ≠ 1 → s.anyFast = true → s.pwr.reqOff = false → s.easy.causes = 0 →
      Does .dataReady s (fun t => t.pwr.state = .dataService ∧ t.str.dataReady = true ∧ t.itg.record.state = 1 ∧ t.itg.record.seq = s.itg.record.seq + 1
        ∧ (∀ p, p < 4 → (t.port p).reqWithheld = false))
      ∧ (s.suspects = [] → Does .dataReady s fun t => t.str.review = 0 ∧ t.str.phase = .normalService)
      ∧ (s.suspects ≠ [] → s.cfg 0x3190 1 = 0 → Does .dataReady s fun t => t.str.review = 1
        ∧ (∀ x, (t.entry x).state = (s.entry x).state ∧ (t.entry x).pt = (s.entry x).pt) ∧ ∀ p, p < 4 → (t.port p).rwdWithheld = true))
    ∧ (∀ req first count n, s.coxUp = true → mayWrite 0x3190 2 req = 0 → 1 ≤ count → first + count ≤ logicalTracts → s.domainOn 2 = true →
      s.str.dataReady = true → s.freeSlot = some n →
      (Does (.suspectRelease req first count) s fun t => (∀ x, first ≤ x → x < first + count → (s.entry x).state = .suspect →
          t.entry x = { s.entry x with state := .mapped })
        ∧ (∀ x, (x < first ∨ first + count ≤ x ∨ (s.entry x).state ≠ .suspect) → t.entry x = s.entry x) ∧ (t.slot n).outcome = 0
        ∧ accepted req 0x3190 2 t)
      ∧ (Does (.suspectDiscard req first count) s fun t => t.itg.reestablished = s.itg.reestablished
          + (s.suspects.filter fun x => decide (first ≤ x ∧ x < first + count)).length ∧ (t.slot n).outcome = 0 ∧ accepted req 0x3190 2 t))
    ∧ (∀ holder, s.coxUp = true → s.domainOn 2 = true → Does (.suspectListRead holder) s fun t =>
      t.out = s.out ++ [.wop holder 5 0 0 (s.suspectList holder).1] ∧ t.trc.map = s.trc.map)

/-- R39, R41, R43, R44, R52, R365, R408: the input stage. A loss of J1 in data service puts the flush on the hold-up bank; its return closes the switch;
the bank's last two voltages. -/
def Obligations.InputStage : Prop :=
  ∀ (s : State),
    (s.inService = true → s.pwr.switchClosed = true → s.flt.queue.length < 256 →
      let P : State → Prop := fun t => t.pwr.state = .holdUpFlush ∧ t.pwr.switchClosed = false ∧ t.pwr.inputGood = false ∧ t.bank.state = 4
        ∧ t.bank.boost = false ∧ t.wb.flushing = true ∧ t.cause 4 = true ∧ queued s t (faultMsg 0x2BA 0x61 none false)
      Does .inputLoss s (fun t => P t ∧ t.pwr.lossCount = s.pwr.lossCount + 1)
      ∧ Does .overvoltage s (fun t => P t ∧ t.pwr.overvoltage = true ∧ t.pwr.lossCount = s.pwr.lossCount + 1)
      ∧ (s.pwr.breaker = false → Does .breakerTrip s fun t => P t ∧ t.pwr.breaker = true ∧ t.pwr.keelPath = false
        ∧ t.pwr.tripCount = s.pwr.tripCount + 1))
    ∧ (s.pwr.state = .standby → s.pwr.switchClosed = true → s.pwr.keelPath = true → Does .inputLoss s fun t =>
      t.pwr.state = .standby ∧ t.pwr.switchClosed = false)
    ∧ (s.pwr.state = .standby → Does .keelTurnOff s fun t => t.pwr.state = .off ∧ t.pwr.switchClosed = false ∧ t.cox.state = 0)
    ∧ (s.pwr.breaker = true → exec .breakerLatchRelease s = .next (s.modPwr fun p => { p with breaker := false, keelPath := true }))
    ∧ (s.pwr.breaker = false → s.pwr.state = .off →
      (s.pwr.overvoltage = false → exec .keelTurnOn s =
        .next (s.modPwr fun p => { p with inputLow := false, inputGood := true, switchClosed := true, keelPath := true }))
      ∧ (s.pwr.overvoltage = true → s.pwr.inputLow = false → exec .overvoltageClear s =
        .next (s.modPwr fun p => { p with overvoltage := false, inputGood := true, switchClosed := true, keelPath := true })))
    ∧ (s.pwr.overvoltage = true → s.pwr.inputLow = true → exec .overvoltageClear s = .next (s.modPwr fun p => { p with overvoltage := false }))
    ∧ (s.pwr.state = .off → exec .inputLoss s = .next (s.modPwr fun p => { p with inputGood := false, inputLow := true, switchClosed := false }))
    ∧ (s.pwr.breaker = false → s.pwr.overvoltage = false → s.pwr.switchClosed = false →
      (s.pwr.state = .standby → Does .inputGoodAgain s fun t => t.pwr.switchClosed = true ∧ t.pwr.inputGood = true)
      ∧ (s.pwr.state = .holdUpFlush → Does .inputGoodAgain s fun t => t.pwr.switchClosed = true ∧ t.pwr.resetOnGood = true
        ∧ t.pwr.state = .holdUpFlush ∧ t.wb = s.wb))
    ∧ (s.pwr.state = .holdUpFlush → s.pwr.resetOnGood = true → s.pwr.inputGood = true → s.wb.flushing = false →
      (s.pwr.seqState ≠ 3 → s.pwr.seqState ≠ 5 → ∀ ga, Does (.inputGoodResetTimer ga) s fun t => t.pwr.resetAsked = true ∧ t.pwr.seqState = 3
        ∧ t.pwr.fastDown = false)
      ∧ (s.pwr.seqState = 5 → s.pwr.modrstLow = false → ∀ ga, Does (.inputGoodResetTimer ga) s fun t => t.pwr.state = .standby ∧ t.pwr.gaLatched = ga % 64 ∧ t.pwr.resetAsked = false
        ∧ t.cox.state = 0 ∧ t.str.kind = 2 ∧ t.trc.map = s.trc.map))
    ∧ (∀ ga timeTorn cycleTorn cells, s.pwr.state = .off → s.pwr.switchClosed = true → s.pwr.keelPath = true → s.tim.tear timeTorn cycleTorn = cells →
      Does (.keelRailsQualified ga timeTorn cycleTorn) s fun t => t.pwr.state = .standby ∧ t.pwr.gaLatched = ga % 64 ∧ t.cox.state = 0 ∧ t.str.kind = 1
        ∧ t.tim.cycles = (countedCell 1 cells.cycleCells).2 + 1 ∧ t.tim.opTime = (countedCell 32768 cells.timeCells).2)
    ∧ exec .keelRailRetry s = .next s
    ∧ (s.keelOn = true → s.bank.state = 4 →
      exec .bankBelow41v s = .next (s.modPar fun p => { p with bp := 3, queue := p.queue.take 1 })
      ∧ Does .bankBelow40v s fun t => t.pwr.state = .off ∧ t.wb.ents = [] ∧ t.cox.state = 0)

/-- R42, R54, R58, R61, R62, R317: the core asked on and off, the full module reset, the blade pairs and the test port. -/
def Obligations.RequestsAndSideband : Prop :=
  ∀ (s : State),
    (s.coxUp = true → s.inService = true → Does .corePowerOffRequest s fun t => t.pwr.reqOff = true ∧ t.cause 6 = true ∧ t.easy.thenDown = true
      ∧ t.pwr.state = .easyAll ∧ t.wb.flushing = true ∧ accepted byOperator 0x5080 8 t)
    ∧ (s.canStart = true → Does .corePowerOnRequest s fun t => t.pwr.state = .coreStart ∧ t.pwr.reqOff = false ∧ t.bank.boost = true
      ∧ accepted byOperator 0x5080 8 t)
    ∧ (s.coxUp = true → s.pwr.state = .standby → s.pwr.latch.latched = true →
      exec .corePowerOnRequest s = .next (s.emit (.access byOperator 0x5080 8 0x07 0)))
    ∧ (∀ us ga, s.inService = true → 10 ≤ us → Does (.modrstAssert us ga) s fun t => t.pwr.modrstLow = true ∧ t.pwr.resetAsked = true
      ∧ t.pwr.state = .easyAll ∧ t.wb.flushing = true)
    ∧ (∀ us ga, us < 2 → exec (.modrstAssert us ga) s = .next (s.pinsNow ga))
    ∧ (∀ ga, s.pwr.resetAsked = false → exec (.modrstRelease ga) s = .next ((s.pinsNow ga).modPwr fun p => { p with modrstLow := false }))
    ∧ (∀ ga, s.pwr.resetAsked = true → s.pwr.state = .standby → s.pwr.seqState ≠ 3 → Does (.modrstRelease ga) s fun t => t.pwr.resetAsked = false
      ∧ t.pwr.gaLatched = ga % 64
      ∧ t.pwr.state = .standby ∧ t.cox.state = 0 ∧ t.str.kind = 2)
    ∧ (∀ req ga, s.coxUp = true → mayWrite 0x7001 0 req = 0 →
      (s.inService = true → Does (.moduleReset req 1 ga) s fun t => Out.access req 0x7001 0 0 0 ∈ t.out ∧ t.pwr.resetAsked = true
        ∧ t.pwr.state = .easyAll)
      ∧ (∀ v, v ≠ 1 → exec (.moduleReset req v ga) s = .next ((s.pinsNow ga).emit (.access req 0x7001 0 0x06 0))))
    ∧ (∀ a b, s.keelOn = true → s.flt.queue.length < 256 →
      (2000 < a + b → min a b * 5 < a + b → Does (.bladePairImbalance a b) s fun t => queued s t (faultMsg 0x2B0 0x60 none false)
        ∧ t.pwr.pairA = a ∧ t.pwr.pairB = b)
      ∧ ((a + b ≤ 2000 ∨ a + b ≤ min a b * 5) → exec (.bladePairImbalance a b) s = .next (s.modPwr fun p => { p with pairA := a, pairB := b })))
    ∧ (s.keelOn = true →
      (s.inService = true → Does (.extestLoad .extest) s fun t => t.pwr.tap = .bypass ∧ Out.jtag .bypass ∈ t.out)
      ∧ (∀ i, s.inService = false ∨ i ≠ .extest → exec (.extestLoad i) s = .next ((s.modPwr fun p => { p with tap := i }).emit (.jtag i))))

/-- R53, whole: a sample of GA[5:0] that equals the latched value clears 0x1102.02; of two in succession that differ from it the second sets 0x1102.02 and
reports kind 0x82 from 0x2F7; no sample changes the latched value. -/
def Obligations.GeographicAddress : Prop :=
  ∀ (s : State), s.keelOn = true →
    (Does (.gaSample s.pwr.gaLatched) s fun t => t.value 0 0x1102 2 = [0] ∧ t.pwr.gaLatched = s.pwr.gaLatched ∧ t.pwr.gaDiffer = 0
      ∧ t.flt.queue = s.flt.queue)
    ∧ (∀ p, p ≠ s.pwr.gaLatched → s.pwr.gaDiffer = 0 → s.pwr.gaMismatch = false → Does (.gaSample p) s fun t =>
      t.value 0 0x1102 2 = [0] ∧ t.pwr.gaLatched = s.pwr.gaLatched ∧ t.pwr.gaDiffer = 1 ∧ t.flt.queue = s.flt.queue)
    ∧ (∀ p, p ≠ s.pwr.gaLatched → 1 ≤ s.pwr.gaDiffer → Does (.gaSample p) s fun t =>
      t.value 0 0x1102 2 = [1] ∧ t.pwr.gaLatched = s.pwr.gaLatched
        ∧ (s.pwr.gaMismatch = false → s.flt.queue.length < 256 → queued s t (faultMsg 0x2F7 0x82 none false)))

/-- R346–R356, R360, R361: domains come up, fail and go down; HALT_N; the latch; margining. -/
def Obligations.PowerSequence : Prop :=
  ∀ (s : State) (d : Nat), s.canonical = true → s.keelOn = true → s.flt.queue.length < 256 →
    (∀ drops, (s.domain d).state = 1 ∨ (s.domain d).state = 2 →
      (max (s.domain d).drops drops < 8 → Does (.domainQualified d drops) s fun t => (t.domain d).state = 3
        ∧ (2 ≤ max (s.domain d).drops drops → queued s t (faultMsg (srcSeat (seatOfDomain d)) 0x62 (some (powerAddr d)) false))
        ∧ (s.pwr.seqState = 1 → s.pwr.paused = false → s.pwr.mediaOnlyUp = false → s.pwr.step < 15 →
          (∀ x ∈ stepDomains s.pwr.step, x ≠ d → s.domainOn x = true) → s.pwr.step + 1 ≤ t.pwr.step))
      ∧ (8 ≤ max (s.domain d).drops drops → s.probeOf d = none → s.pwr.mediaOnlyUp = false → Does (.domainQualified d drops) s fun t =>
        (t.domain d).state = 4 ∧ t.pwr.latch.latched = true ∧ t.pwr.seqState = 3 ∧ 0 ∈ t.pwr.haltDrivers
          ∧ queued s t (faultMsg 0x2B0 0x63 (some (powerAddr d)) true)))
    ∧ (((stepDomains s.pwr.step).find? fun x => !s.domainOn x && !s.offByFence x) = some d → s.pwr.seqState = 1 → s.pwr.paused = false →
      s.probeOf d = none → s.pwr.mediaOnlyUp = false → Does .stepTimeout s fun t => (t.domain d).state = 4 ∧ t.pwr.latch.latched = true
        ∧ t.pwr.seqState = 3 ∧ 0 ∈ t.pwr.haltDrivers ∧ queued s t (faultMsg 0x2B0 0x63 (some (powerAddr d)) true))
    ∧ (d < 176 → (s.domain d).state = 3 →
      (Does (.railFailure d true) s fun t => (t.domain d).state = 0 ∧ t.pwr.latch.latched = true ∧ seatOfDomain d ∈ t.pwr.haltDrivers
        ∧ queued s t (faultMsg (srcSeat (seatOfDomain d)) 0x64 (some (powerAddr d)) true))
      ∧ (s.pwr.seqState ≠ 3 → s.pwr.mediaOnlyUp = false → Does (.railFailure d false) s fun t => (t.domain d).state = 0
        ∧ seatOfDomain d ∈ t.pwr.haltDrivers ∧ queued s t (faultMsg (srcSeat (seatOfDomain d)) 0x63 (some (powerAddr d)) true))
      ∧ (∀ ns, 200 ≤ ns → ns < 5000 → Does (.powerGoodDrop d ns) s fun t => (t.domain d).state = 3
        ∧ (t.domain d).drops = (s.domain d).drops + 1 ∧ queued s t (faultMsg (srcSeat (seatOfDomain d)) 0x62 (some (powerAddr d)) false)))
    ∧ (∀ ns, ns < 200 → exec (.powerGoodDrop d ns) s = .next s)
    ∧ (s.pwr.seqState = 3 → s.pwr.mediaOnlyDown = false →
      (1 < s.pwr.step → ∀ ga, Does (.powerDownStep ga) s fun t => t.pwr.step = s.pwr.step - 1 ∧ ∀ x ∈ stepDomains s.pwr.step, s.domainOn x = true →
        t.domain x = {})
      ∧ (s.pwr.step ≤ 1 → s.pwr.state = .easyAll → s.pwr.resetAsked = false → ∀ ga, Does (.powerDownStep ga) s fun t => t.pwr.state = .standby
        ∧ t.wb.ents = [] ∧ t.str.dataReady = false))
    ∧ (s.pwr.seqState = 3 → d < 176 →
      (Does (.railFailToFall d false) s fun t => queued s t (faultMsg (srcSeat (seatOfDomain d)) 0x66 (some (powerAddr d)) false)
        ∧ t.pwr.step = s.pwr.step)
      ∧ (Does (.railFailToFall d true) s fun t => queued s t (faultMsg (srcSeat (seatOfDomain d)) 0x64 (some (powerAddr d)) true)
        ∧ t.pwr.latch.latched = true ∧ seatOfDomain d ∈ t.pwr.haltDrivers))
    ∧ (∀ ns, 1000 ≤ ns → s.pwr.haltSeen = false → s.haltLow = true → Does (.haltNLow false ns) s fun t => t.pwr.haltSeen = true
      ∧ t.pwr.haltHold = true ∧ t.pwr.reqOff = true ∧ t.pwr.haltCount = s.pwr.haltCount + 1 ∧ t.cause 0 = true
      ∧ (s.inService = true → t.pwr.state = .easyAll ∧ t.easy.thenDown = true))
    ∧ (∀ ns, 1000 ≤ ns → s.haltSwitch = false → Does (.haltNLow true ns) s fun t => t.pwr.haltOutside = true ∧ t.pwr.haltSeen = s.pwr.haltSeen
      ∧ t.pwr.state = s.pwr.state)
    ∧ ((∀ x ∈ s.pwr.haltDrivers, x = 9) → Does .haltNHigh s fun t => t.pwr.haltDrivers = [] ∧ t.pwr.haltOutside = false ∧ t.pwr.haltSeen = false)
    ∧ (∀ seat, s.haltLow = true → Does (.seatSelfShutdown seat) s fun t => ∀ x ∈ seatDomains seat, s.domainOn x = true → t.domain x = {})
    ∧ (∀ req n, s.coxUp = true → mayWrite 0x5010 1 req = 0 → s.freeSlot = some n →
      (s.pwr.latch.latched = true → Does (.latchClear req) s fun t => t.pwr.latch.latched = false ∧ (t.slot n).outcome = 0 ∧ accepted req 0x5010 1 t)
      ∧ (s.pwr.latch.latched = false → Does (.latchClear req) s fun t => (t.slot n).outcome = 7 ∧ t.pwr.state = s.pwr.state
        ∧ accepted req 0x5010 1 t))
    ∧ (s.coxUp = true →
      (∀ v, Does (.marginingEnable v) s fun t => t.pwr.marginOn = v ∧ (v = false → ∀ x, (t.domain x).margin = 0) ∧ accepted byOperator 0x5030 0 t)
      ∧ (∀ p : Int, d < 176 → -5 ≤ p → p ≤ 5 → s.pwr.marginOn = true → s.domainOn d = true → s.pwr.state ≠ .holdUpFlush →
        s.pwr.state ≠ .coreStart → Does (.marginRequest d p) s fun t => t.domain d = { s.domain d with margin := p }
          ∧ (∀ j, j ≠ d → t.domain j = s.domain j) ∧ accepted byOperator 0x5030 1 t))

/-- R356–R358: the seat bus. A Seat that answers returns its status and data; Stroke's ping and its poll of a step's domains. -/
def Obligations.SeatBus : Prop :=
  ∀ (s : State) (n : Nat), s.canonical = true → s.keelOn = true → (s.seatOf n).silent = false →
    let R : Instr → Nat → List Nat → Prop := fun c status data => Does c s fun t =>
      t.out = s.out ++ [.seat n status data] ∧ (t.seatOf n).failures = 0 ∧ t.seat.transactions = s.seat.transactions + 1
    R (.ping n) 0 [(s.seatOf n).firmware]
    ∧ R (.faultRead n) 0 [(s.seatOf n).fault, (s.seatOf n).faultDomain]
    ∧ (∀ d, owns n d = true →
      R (.domainStatus n d) 0 [(s.domain d).state, min 255 (s.domain d).drops]
      ∧ R (.readV n d) 0 [s.domainMv d]
      ∧ R (.readI n d) 0 [if s.domainOn d then Config.domainMa d s.tim.opTime else 0]
      ∧ ((s.domain d).state = 0 → R (.domainOn n d) 0 [] ∧ Does (.domainOn n d) s fun t => (t.domain d).state = 1)
      ∧ ((s.domain d).state ≠ 0 → R (.domainOn n d) 2 [] ∧ Does (.domainOn n d) s fun t => t.domain d = s.domain d)
      ∧ (d < 12 → s.inService = true → R (.domainOff n d) 2 [])
      ∧ (s.domainOn d = true → (d < 12 → s.inService = false) → Does (.domainOff n d) s fun t => t.domain d = {} ∧ Out.seat n 0 [] ∈ t.out)
      ∧ (∀ p : Int, s.domainOn d = true → -5 ≤ p → p ≤ 5 → Does (.margin n d p) s fun t => t.domain d = { s.domain d with margin := p }
        ∧ Out.seat n 0 [] ∈ t.out)
      ∧ (∀ p : Int, p < -5 ∨ 5 < p → R (.margin n d p) 2 []))
    ∧ (∀ d, owns n d = false → R (.domainStatus n d) 1 [] ∧ R (.readI n d) 1 [] ∧ R (.domainOn n d) 1 [] ∧ R (.domainOff n d) 1 [])
    ∧ (n = 1 → R (.readV n 255) 0 [s.bank.mv] ∧ R (.capResult n) 0 [s.bank.capTime, s.bank.capStep]
      ∧ (∀ v, R (.charger n v) 0 [] ∧ Does (.charger n v) s fun t => t.bank.boost = v)
      ∧ (s.bankCharged = true → R (.capMeasure n) 0 [] ∧ Does (.capMeasure n) s fun t => t.bank.state = 3 ∧ t.bank.measuring = some 0)
      ∧ (s.bankCharged = false → R (.capMeasure n) 2 []))
    ∧ (n ≠ 1 → R (.capResult n) 4 [] ∧ R (.capMeasure n) 4 [] ∧ ∀ v, R (.charger n v) 4 [])
    ∧ (s.faultPresent n = true → R (.haltRelease n) 3 [])
    ∧ (s.faultPresent n = false → Does (.haltRelease n) s fun t => n ∉ t.pwr.haltDrivers ∧ Out.seat n 0 [] ∈ t.out)
    ∧ (Does .seatPingTimer s fun t => t.seat.transactions = s.seat.transactions + ((range' 1 8).filter fun k => !(s.seatOf k).silent).length
      ∧ (1 ≤ n → n ≤ 8 → (t.seatOf n).failures = 0))
    ∧ (s.pwr.seqState = 1 ∨ s.pwr.seqState = 3 → Does .domainStatusPoll s fun t => t.seat.transactions = s.seat.transactions
        + ((stepDomains s.pwr.step).filter fun d => s.seatAnswers d).length)

/-- R359, whole: a transaction that gets no acknowledge (or holds the bus, R439), or whose CRC fails, is retried up to three times; a fourth failure in a
row makes the Seat not responding, which latches the power; each retry is counted in 0x5050.00; an answer ends the row of failures. -/
def Obligations.SeatRetries : Prop :=
  ∀ (s : State) (n : Nat), s.canonical = true → s.keelOn = true → (s.seatOf n).silent = false →
    (∀ c ∈ [Instr.seatBusFailure n true, .seatBusFailure n false, .seatBusStuck n],
      ((s.seatOf n).failures < 3 → Does c s fun t => t.seatOf n = { s.seatOf n with failures := (s.seatOf n).failures + 1 }
        ∧ (∀ j, j ≠ n → t.seatOf j = s.seatOf j) ∧ t.seat.retries = s.seat.retries + 1 ∧ t.seat.notResponding = s.seat.notResponding)
      ∧ (3 ≤ (s.seatOf n).failures → s.flt.queue.length < 256 → Does c s fun t => (t.seatOf n).silent = true
        ∧ t.seat.notResponding = s.seat.notResponding + 1 ∧ t.seat.retries = s.seat.retries ∧ t.pwr.latch.latched = true
        ∧ 0 ∈ t.pwr.haltDrivers ∧ queued s t (faultMsg (srcSeat n) 0x63 none true)))
    ∧ (∀ crc, (s.seatOf n).failures < 3 → Does (.seatBusFailure n crc) s fun t =>
      t.seat.crcErrors = s.seat.crcErrors + (if crc then 1 else 0))
    ∧ ((s.seatOf n).failures < 3 → Does (.seatBusStuck n) s fun t => t.seat.crcErrors = s.seat.crcErrors)
    ∧ (Tab.rd 0 s.tly.bases (objKey 0x5050 0 + 2 ^ 24 * 3) = 0 → ((s.value 0 0x5050 0).drop 12).take 4 = be 4 s.seat.retries)
    ∧ (Does (.ping n) s fun t => (t.seatOf n).failures = 0)

/-- R362–R368: the hold-up bank: charge, readiness, its faults, and the measurement of its capacitance. -/
def Obligations.HoldUpBank : Prop :=
  ∀ (s : State),
    (s.bank.boost = true → s.bank.state = 1 ∨ s.bank.state = 5 →
      (s.bank.measured = false → s.bank.measuring = none →
        (s.wb.flushing = false → s.thm.level < 3 → Does .bankCharged s fun t => t.bank.mv = 72000 ∧ t.bank.state = 3 ∧ t.bank.measuring = some 0)
        ∧ (3 ≤ s.thm.level → Does .bankCharged s fun t => t.bank.mv = 72000 ∧ t.bank.state = s.bank.state ∧ t.bank.deferred = true))
      ∧ (∀ mv, 70000 ≤ mv → s.bank.measured = true → 2400 ≤ s.bank.uF → s.bank.deferred = false → Does (.bankReady mv) s fun t =>
        t.bank = { s.bank with state := 2, mv := mv, notReady := false }))
    ∧ (s.bank.notReady = false → s.flt.queue.length < 256 →
      let P : State → Prop := fun t => t.bank.state = 5 ∧ t.bank.notReady = true ∧ queued s t (faultMsg 0x2B9 0x65 none false)
      (s.pwr.state = .coreStart → s.bank.boost = true → s.bank.state ≠ 2 → Does .bankReadyTimeout s P)
      ∧ (∀ mv, s.inService = true → s.bank.state = 2 → mv < 70000 → Does (.bankLowVoltage mv) s fun t => P t ∧ t.bank.mv = mv)
      ∧ (s.inService = true → s.bank.boost = true → Does .boostFault s P))
    ∧ (s.inService = true ∨ s.inEasy = true → s.bank.state = 2 → s.bank.measuring = none →
      (s.bankCharged = true → s.wb.flushing = false → s.thm.level < 3 → Does .capacitanceMeasurementDue s fun t =>
        t.bank.state = 3 ∧ t.bank.measuring = some 0 ∧ t.bank.deferred = false)
      ∧ (s.wb.flushing = true ∨ 3 ≤ s.thm.level → Does .capacitanceMeasurementDue s fun t => t.bank = { s.bank with deferred := true }))
    ∧ (∀ req n, s.coxUp = true → mayWrite 0x5040 4 req = 0 → s.freeSlot = some n →
      (s.bankCharged = true → s.bank.measuring = none → s.wb.flushing = false → s.thm.level < 3 → Does (.measureNow req) s fun t =>
        t.bank.state = 3 ∧ t.bank.measuring = some (n + 1) ∧ (t.slot n).state = 1 ∧ accepted req 0x5040 4 t)
      ∧ (s.bankCharged = false → Does (.measureNow req) s fun t => t.bank = s.bank ∧ (t.slot n).outcome = 7 ∧ accepted req 0x5040 4 t))
    ∧ (∀ us mv, s.bank.measuring ≠ none → s.bank.deferred = false → Does (.measurementComplete us mv) s fun t => t.bank.uFRaw = us / 2
      ∧ t.bank.uF = Config.normalise (us / 2) s.bankTemp ∧ t.bank.esr = 2 * mv ∧ t.bank.measuring = none ∧ t.bank.measured = true
      ∧ t.bank.state = if t.bank.uF < 2400 then 5 else if s.pwr.state = .coreStart ∨ s.bank.notReady = true then 1 else 2)

/-- R389–R401: the boot flash's controller, the journal, the options, and an update from its begin to the confirmed trial. -/
def Obligations.FlashAndImages : Prop :=
  ∀ (s : State), s.fls.counts.length = 5 →
    (∀ c n, s.fls.running = some (.program c n) →
      (Does (.flashProgramDone true) s fun t => nth t.fls.counts 0 = nth s.fls.counts 0 + 1
        ∧ ∀ o k, s.fls.optionWrite = some (o, k, 1) → t.fls.optionWords = some o ∧ t.fls.optionWrite = none ∧ t.cox.optionState = 1)
      ∧ (s.keelOn = true → s.flt.queue.length < 256 → Does (.flashProgramDone false) s fun t => nth t.fls.counts 3 = nth s.fls.counts 3 + 1
        ∧ queued s t (faultMsg 0x2F2 0x86 (some n) false)))
    ∧ (∀ n, s.fls.running = some (.erase n) → exec (.flashEraseDone false) s = .next s
      ∧ (Does (.flashEraseDone true) s fun t => nth t.fls.counts 1 = nth s.fls.counts 1 + 1)
      ∧ (n = optionSector → s.fls.queue = [] → s.fls.suspended = none → s.par.bp ≠ 3 → Does (.flashEraseDone true) s fun t =>
        t.fls.running = some (.program 4 optionSector) ∧ optionSector ∉ t.fls.flags ∧ t.fls.optionWords = none)
      ∧ (s.fls.depth < 7 → s.fls.minimumRun = false → Does .flashSuspend s fun t => t.fls.depth = s.fls.depth + 1 ∧ t.fls.suspended = some n)
      ∧ (Does .eraseMinimumRunEnd s fun t => t.fls.minimumRun = false ∧ (s.fls.depth ≠ 0 → t.fls.suspended = some n)))
    ∧ (∀ n, s.fls.depth = 1 → s.fls.running = none → s.fls.queue = [] → s.fls.suspended = some n → Does .flashResume s fun t =>
      t.fls.depth = 0 ∧ t.fls.running = some (.erase n) ∧ t.fls.suspended = none ∧ t.fls.minimumRun = true)
    ∧ (s.coxUp = true →
      (journalDue ≤ s.ext.journalUsed → s.onBank = false → Does .journalCompaction s fun t => t.ext.journalUsed = extents + 1
        ∧ t.ext.journalGen = 1 - s.ext.journalGen ∧ t.ext.pairs = s.ext.pairs)
      ∧ (∀ req n r b w g x, mayWrite 0x6010 0 req = 0 → r ≤ 255 → b ≤ 3 → 10 ≤ w → w ≤ 1000 → s.fls.optionWrite = none → s.freeSlot = some n →
        Does (.optionsWrite req r b w g x) s fun t => t.cox.options = s.cox.options ∧ accepted req 0x6010 0 t
          ∧ t.fls.optionWrite = some ({ rollbackMin := r, bpReset := b, wdtBoot := w, dbgLock := g, t1sOff := x }, n, 2))
      ∧ (∀ req n, s.freeSlot = some n → s.img.trial = none →
        (∀ len, mayWrite 0x6000 16 req = 0 → 8192 ≤ len → len ≤ 6291456 → (s.image' s.spareImage).state = 0 ∨ (s.image' s.spareImage).state = 3
          ∨ (s.image' s.spareImage).state = 4 → Does (.updateBegin req len) s fun t => t.img.slot = some n ∧ accepted req 0x6000 16 t
            ∧ t.image' s.spareImage = { state := 1, len := len, toErase := (len + 4095) / 4096 } ∧ t.image' s.img.activeB = s.image' s.img.activeB)
        ∧ (∀ d g, mayWrite 0x6000 17 req = 0 → (s.image' s.spareImage).state = 2 → s.noPrograms = false → Does (.updateCommit req d g) s fun t =>
          t.image' s.spareImage = { s.image' s.spareImage with state := if d && g then 3 else 4 }
            ∧ (t.slot n).outcome = (if d && g then 0 else 7) ∧ accepted req 0x6000 17 t)
        ∧ (mayWrite 0x6000 18 req = 0 → (s.image' s.spareImage).state = 3 → Does (.activate req) s fun t => t.img.trial = some s.spareImage
          ∧ (t.image' s.spareImage).state = 6 ∧ t.cox.state = 0 ∧ t.cox.byActivate = true ∧ (t.slot n).state = 1 ∧ accepted req 0x6000 18 t))
      ∧ (∀ o data, data ≠ [] → data.length % 8 = 0 → o % 8 = 0 →
        (∀ k, k < data.length / 8 → (s.image' s.spareImage).refuses (o + 8 * k) = false) → (s.image' s.spareImage).state = 2 → s.noPrograms = false →
        let P : State → Prop := fun t => (t.image' s.spareImage).state = 2
          ∧ (∀ k, k < data.length / 8 → o + 8 * k ∈ (t.image' s.spareImage).words) ∧ t.image' s.img.activeB = s.image' s.img.activeB
        Does (.imageData o data) s (fun t => P t ∧ accepted byOperator 0x6001 0 t)
        ∧ (data.length ≤ 240 → Does (.imageSegment o data) s fun t => P t ∧ accepted byOperator 0x6001 1 t))
      ∧ (∀ b, s.img.trial = some b → s.img.runsB = b → Does .trialConfirm s fun t => t.img.activeB = b ∧ t.img.trial = none
        ∧ (t.image' b).state = 5 ∧ (t.image' (!b)).state = 3))

/-- R324–R327, R332–R341, R406–R411: the parameter store's pages, the Logbook and its snapshots, and Tally's sample. -/
def Obligations.StoreLogTally : Prop :=
  ∀ (s : State),
    (s.coxUp = true →
      (∀ w rest, s.par.queue = w :: rest →
        (Does (.pageWriteDone true) s fun t => t.par.queue = (w.after w.firstBad).toList ++ rest)
        ∧ (w.failedOnce = false → Does (.pageWriteDone false) s fun t => t.par.queue = { w with failedOnce := true } :: rest)
        ∧ (w.failedOnce = true → 0 < s.par.spares → s.flt.queue.length < 256 → Does (.pageWriteDone false) s fun t =>
          t.par.spares = s.par.spares - 1 ∧ t.par.retired = s.par.retired ++ [w.page] ∧ queued s t (faultMsg 0x2F3 0x87 (some w.page) false)))
      ∧ (s.par.bp ≠ 3 → Does .operatingTimeCellWrite s fun t => t.tim = { s.tim with
          cellDue := max s.tim.cellDue s.tim.opTime + 32768, cellWrites := s.tim.cellWrites + 1,
          timeCells := s.tim.timeCells.set (s.tim.cellWrites % 32) (some (max s.tim.cellDue s.tim.opTime + 32768)) })
      ∧ (∀ v, v = 1 ∨ v = 2 → s.par.bp ≠ 3 → Does (.blockProtectionWrite v) s fun t => t.par.bp = v ∧ accepted byCustodian 0x6100 2 t)
      ∧ (∀ r rest, s.par.bp ≠ 3 → s.log.staged = r :: rest → s.log.lostNow = 0 → Does (.logbookWriteOut 1) s fun t => t.log.staged = rest
        ∧ t.log.lastDurable = r.seq ∧ (sectorsFor 0 (s.log.areaC ++ [r]) ≤ 376 → t.log.areaC = s.log.areaC ++ [r])
        ∧ (s.log.areaF.length < 4096 → s.log.clearing = none → t.log.areaF = s.log.areaF ++ [r]))
      ∧ (∀ holder, Does (.windowRead holder) s fun t => t.out = s.out ++ [.wop holder 5 0 0 (s.readWindow holder).1])
      ∧ (∀ req n, mayWrite 0x4100 3 req = 0 → s.log.clearing = none → s.freeSlot = some n → Does (.areaFClear req) s fun t =>
        t.log.clearing = some (n, 256) ∧ t.log.areaF = s.log.areaF ∧ accepted req 0x4100 3 t)
      ∧ (∀ d trigger param objs, d ≤ 3 → snapParamOk trigger param = true → objs.length ≤ 32 → objs.all snapAllowed = true →
        s.configLocked = false → s.storeBusy = false → Does (.snapshotDefinitionWrite d trigger param objs) s fun t =>
          Tab.rd {} t.log.defs d = { trigger := trigger, param := param, objs := objs } ∧ accepted byOperator 0x4120 d t)
      ∧ (∀ d x, d ≤ 3 → Tab.rd {} s.log.defs d = x →
        (x.trigger ≠ 0 → Does (.snapshotNow d) s fun t => s.log.staged <+: t.log.staged ∧ t.log.defs = s.log.defs
          ∧ (x.objs = [] → s.ringUsed ≤ 65536 → ∃ r ∈ t.log.staged, r.body = .snapshot d 6 0 0 0 []) ∧ accepted byOperator 0x4121 0 t)
        ∧ (x.trigger = 1 → Does (.snapshotPeriodic d) s fun t => s.log.staged <+: t.log.staged ∧ t.out = s.out
          ∧ (x.objs = [] → s.ringUsed ≤ 65536 → ∃ r ∈ t.log.staged, r.body = .snapshot d 1 0 0 0 []))))
    ∧ (s.log.lostNow ≠ 0 → s.ringUsed < 65536 → Does .stagingLoss s fun t => t.log.lostNow = 0
      ∧ ∃ r, t.log.staged = s.log.staged ++ [r] ∧ r.body = .stagingLoss s.log.lostNow s.log.lostFirst)
    ∧ (s.tallyRuns = true → Does .tallySample s fun t => t.tly.number = s.tly.number + 1 ∧ t.tly.time = s.tim.opTime % 2 ^ 48
      ∧ ∀ k, k < blocks * 8 → Tab.rd 0 t.tly.latched k = s.counterNow (k / 8) (k % 8) % 2 ^ 48
        ∧ Tab.rd 0 t.tly.snap k = Tab.rd 0 s.tly.snap k
          + (s.counterNow (k / 8) (k % 8) % 2 ^ 48 + 2 ^ 48 - Tab.rd 0 s.tly.latched k) % 2 ^ 48)
    ∧ (s.tallyRuns = true → s.tly.winDiscard = false → Does .bandwidthWindowEnd s fun t => t.tly.winSnap = s.tly.number
      ∧ t.tly.winStart = rateSlots.map (fun k => Tab.rd 0 s.tly.snap k)
      ∧ ∀ i, i < 8 → nth t.tly.rates i = (nth t.tly.winStart i - nth s.tly.winStart i) * 1000 / s.cfg 0x4200 1)

/-- A step takes the command at the front of the queue and executes it with the queue's rest; with the queue empty a millisecond of operating time passes.
The model's own choices, notes/assumptions/1.md. -/
def Obligations.StepTakesTheFront : Prop :=
  ∀ (s : State),
    (∀ c rest, s.pending = c :: rest → step s = exec c { s with pending := rest })
    ∧ (s.pending = [] → step s = .next (tick s) ∧ (s.keelOn = true → (tick s).tim.opTime = s.tim.opTime + 1) ∧ (s.keelOn = false → tick s = s))

/-- Every command ends in a next state, in every state and with any operands, and leaves the queue as it is. -/
def Obligations.EveryCommandCompletes : Prop :=
  ∀ (c : Instr) (s : State), ∃ t, exec c s = .next t ∧ t.pending = s.pending

/-- What a command may change: the fields that frameOf lists for it. Every other field of the module is as before, whatever the operands. -/
def Obligations.EveryCommandFrame : Prop :=
  ∀ (c : Instr) (s t : State), exec c s = .next t → Frame (frameOf c) s t

/-- Every step keeps every table in canonical form (the medium's granules among them) and the fault queue of R23 within its 256 messages. -/
def Obligations.EveryStepKeepsTheTables : Prop :=
  ∀ (s t : State), step s = .next t → s.canonical = true → s.flt.queue.length ≤ 256 → t.canonical = true ∧ t.flt.queue.length ≤ 256

/-- No step takes back what the module has sent, a free value, or a dirty start (R151: the Dirty Shutdown Count is never decreased). -/
def Obligations.EveryStepOnlyAdds : Prop :=
  ∀ (s t : State), step s = .next t → s.out <+: t.out ∧ s.free ≤ t.free ∧ s.wb.dirtyCount ≤ t.wb.dirtyCount

/-- The state after reset: its tables are canonical, its fault and command queues empty, every stored object at the default of the dictionary, the options
of R395 at their defaults, no link up, and each plane's requesters ranked as R174 lists them. The placement it starts from is the model's, notes/assumptions/2.md. -/
def Obligations.ResetState : Prop :=
  State.reset.canonical = true ∧ State.reset.flt.queue = [] ∧ State.reset.pending = []
    ∧ (∀ idx mem, State.reset.cfg idx mem = defaultOf (objKey idx mem))
    ∧ State.reset.cox.options = { rollbackMin := 0, bpReset := 1, wdtBoot := 100, dbgLock := false, t1sOff := false }
    ∧ (∀ h, State.reset.linkUp h = false)
    ∧ (∀ k, (State.reset.plane k).ranks = [.drain, .clear, .scrub, .migration, .refresh, .rebuild])
end

