-- ==== Sys2Proof/Laws/Mask.lean ====
section
/-! SUPPORT. A state with some fields blanked: two states agree outside a set of fields when they are equal with the set blanked. A set of
fields is a number, one bit a field. Every operation of the machine has one lemma, in Laws/Keep*.lean, that says which fields it can change. -/

set_option Elab.async false

set_option linter.unusedSimpArgs false

namespace Sys2Proof.Machine

/-- The bit of a field in a set. -/
def Field.bit : Field → Nat
  | Field.timOpTime => 0
  | Field.timCycles => 1
  | Field.timCellDue => 2
  | Field.timCellWrites => 3
  | Field.timTimeCells => 4
  | Field.timCycleCells => 5
  | Field.timCycleWrites => 6
  | Field.objVals => 7
  | Field.objShadow => 8
  | Field.objLabel => 9
  | Field.objSlots => 10
  | Field.objTicketNext => 11
  | Field.objTicketRes => 12
  | Field.objBusyRefusals => 13
  | Field.objSelectors => 14
  | Field.objDeferred => 15
  | Field.objWaiting => 16
  | Field.objEnded => 17
  | Field.objCustodianSet => 18
  | Field.objRestoring => 19
  | Field.pwrState => 20
  | Field.pwrInputMv => 21
  | Field.pwrPairA => 22
  | Field.pwrPairB => 23
  | Field.pwrPeakMw => 24
  | Field.pwrSwitchClosed => 25
  | Field.pwrKeelPath => 26
  | Field.pwrBreaker => 27
  | Field.pwrInputGood => 28
  | Field.pwrOvervoltage => 29
  | Field.pwrInputLow => 30
  | Field.pwrDip => 31
  | Field.pwrShortDips => 32
  | Field.pwrLossCount => 33
  | Field.pwrTripCount => 34
  | Field.pwrReqOff => 35
  | Field.pwrSeqState => 36
  | Field.pwrStep => 37
  | Field.pwrFastDown => 38
  | Field.pwrMediaOnlyDown => 39
  | Field.pwrMediaOnlyUp => 40
  | Field.pwrPaused => 41
  | Field.pwrDomains => 42
  | Field.pwrLatch => 43
  | Field.pwrHaltDrivers => 44
  | Field.pwrHaltSeen => 45
  | Field.pwrHaltHold => 46
  | Field.pwrHaltOutside => 47
  | Field.pwrCounts => 48
  | Field.pwrHaltCount => 49
  | Field.pwrHaltSource => 50
  | Field.pwrHaltTime => 51
  | Field.pwrGaLatched => 52
  | Field.pwrGaPins => 53
  | Field.pwrGaNow => 54
  | Field.pwrGaDiffer => 55
  | Field.pwrGaMismatch => 56
  | Field.pwrModrstLow => 57
  | Field.pwrResetAsked => 58
  | Field.pwrResetOnGood => 59
  | Field.pwrTap => 60
  | Field.pwrLostClocks => 61
  | Field.pwrKeelFallback => 62
  | Field.pwrMarginOn => 63
  | Field.seatSeats => 64
  | Field.seatTransactions => 65
  | Field.seatCrcErrors => 66
  | Field.seatRetries => 67
  | Field.seatNotResponding => 68
  | Field.bankState => 69
  | Field.bankMv => 70
  | Field.bankBoost => 71
  | Field.bankUF => 72
  | Field.bankUFRaw => 73
  | Field.bankEsr => 74
  | Field.bankTemp => 75
  | Field.bankMeasuredAt => 76
  | Field.bankMeasured => 77
  | Field.bankNotReady => 78
  | Field.bankMeasuring => 79
  | Field.bankDeferred => 80
  | Field.bankCapTime => 81
  | Field.bankCapStep => 82
  | Field.bankFlushStartMv => 83
  | Field.bankFlushEndMv => 84
  | Field.bankFlushUs => 85
  | Field.bankKeelMs => 86
  | Field.bankFlushMark => 87
  | Field.thmInputs => 88
  | Field.thmLevel => 89
  | Field.thmTimeAt => 90
  | Field.thmLimits => 91
  | Field.thmCounts => 92
  | Field.hltState => 93
  | Field.hltIndicators => 94
  | Field.hltC0 => 95
  | Field.hltPoints => 96
  | Field.hltPeaks => 97
  | Field.hltLifeUsed => 98
  | Field.hltMediaHours => 99
  | Field.hltFitted => 100
  | Field.hltSlope => 101
  | Field.hltBankHours => 102
  | Field.hltEndHours => 103
  | Field.hltGoverning => 104
  | Field.hltPredictedAt => 105
  | Field.hstPorts => 106
  | Field.hstLinks => 107
  | Field.hstHeads => 108
  | Field.extPairs => 109
  | Field.extExtents => 110
  | Field.extRegions => 111
  | Field.extOffers => 112
  | Field.extJournalUsed => 113
  | Field.extJournalGen => 114
  | Field.rdpReads => 115
  | Field.rdpNextId => 116
  | Field.rdpOrder => 117
  | Field.rdpCounts => 118
  | Field.wbEnts => 119
  | Field.wbUnits => 120
  | Field.wbNextUnit => 121
  | Field.wbInProgram => 122
  | Field.wbDirty => 123
  | Field.wbDurable => 124
  | Field.wbLastListed => 125
  | Field.wbWriting => 126
  | Field.wbLedger => 127
  | Field.wbLedgerSeq => 128
  | Field.wbLedgerNext => 129
  | Field.wbDurableSeq => 130
  | Field.wbHighWater => 131
  | Field.wbCostHeld => 132
  | Field.wbLedgerHeld => 133
  | Field.wbDipHeld => 134
  | Field.wbFlushing => 135
  | Field.wbFlushFrom => 136
  | Field.wbFlushBroken => 137
  | Field.wbSinglePairs => 138
  | Field.wbStarvedCount => 139
  | Field.wbHostShutdown => 140
  | Field.wbLastDirty => 141
  | Field.wbDirtyCount => 142
  | Field.wbCounts => 143
  | Field.medGranules => 144
  | Field.medPlanes => 145
  | Field.medDies => 146
  | Field.medChannels => 147
  | Field.medClearing => 148
  | Field.medGovernor => 149
  | Field.medReserved => 150
  | Field.medWork => 151
  | Field.medChecks => 152
  | Field.medChecksWear => 153
  | Field.medFailures => 154
  | Field.trcMap => 155
  | Field.trcCkptA => 156
  | Field.trcCkptB => 157
  | Field.trcAct => 158
  | Field.trcPeak => 159
  | Field.trcPeakBase => 160
  | Field.trcPeakCkpt => 161
  | Field.trcPeakCkptB => 162
  | Field.trcBaseCkpt => 163
  | Field.trcActCkpt => 164
  | Field.trcActCkptB => 165
  | Field.trcDirectory => 166
  | Field.trcScans => 167
  | Field.trcCounted => 168
  | Field.trcEpoch => 169
  | Field.trcDirtyPts => 170
  | Field.trcMigs => 171
  | Field.trcReadsOn => 172
  | Field.trcLastRow => 173
  | Field.trcCompleted => 174
  | Field.trcAbandoned => 175
  | Field.trcRetired => 176
  | Field.trcRefreshed => 177
  | Field.trcSweep => 178
  | Field.trcLastScan => 179
  | Field.trcDecided => 180
  | Field.trcCounts => 181
  | Field.trcSpareRows => 182
  | Field.itgBlocks => 183
  | Field.itgNodes => 184
  | Field.itgRoot => 185
  | Field.itgCache => 186
  | Field.itgHigh => 187
  | Field.itgReserve => 188
  | Field.itgRootState => 189
  | Field.itgRecord => 190
  | Field.itgAlarms => 191
  | Field.itgTagFails => 192
  | Field.itgRecovered => 193
  | Field.itgReestablished => 194
  | Field.itgActivity => 195
  | Field.itgOverflows => 196
  | Field.itgTreeGen => 197
  | Field.itgRekeyRegion => 198
  | Field.itgRekeyState => 199
  | Field.itgRekeyLeft => 200
  | Field.itgRekeyExtents => 201
  | Field.itgRekeySlot => 202
  | Field.itgWindows => 203
  | Field.itgCounts => 204
  | Field.scrEcc => 205
  | Field.scrRewrite => 206
  | Field.scrHeaderRepairs => 207
  | Field.scrSelfTest => 208
  | Field.scrSelfTestAt => 209
  | Field.scrPatrol => 210
  | Field.scrPasses => 211
  | Field.scrRebuilds => 212
  | Field.scrEngines => 213
  | Field.scrParity => 214
  | Field.stgSrams => 215
  | Field.stgParityDue => 216
  | Field.stgBandDue => 217
  | Field.stgRestoring => 218
  | Field.stgParity => 219
  | Field.fltQueue => 220
  | Field.fltLost => 221
  | Field.fltOverflow => 222
  | Field.fltHighMark => 223
  | Field.fltTaken => 224
  | Field.fltClasses => 225
  | Field.fltSticky => 226
  | Field.fltStickyDue => 227
  | Field.fltStickyAgain => 228
  | Field.fltUnits => 229
  | Field.fltSources => 230
  | Field.fltFences => 231
  | Field.fltLastC3 => 232
  | Field.fltLastC3At => 233
  | Field.fltLastC3Cycle => 234
  | Field.fltCmdSlots => 235
  | Field.easyState => 236
  | Field.easyCauses => 237
  | Field.easyEntries => 238
  | Field.easyVolatileEntries => 239
  | Field.easyStopUnits => 240
  | Field.easyThenDown => 241
  | Field.easySlots => 242
  | Field.strPhase => 243
  | Field.strKind => 244
  | Field.strClean => 245
  | Field.strMapsLoaded => 246
  | Field.strRootDone => 247
  | Field.strPowered => 248
  | Field.strReview => 249
  | Field.strKeelFailed => 250
  | Field.strDataReady => 251
  | Field.strBegan => 252
  | Field.strOrigin => 253
  | Field.strTimes => 254
  | Field.strRootSlot => 255
  | Field.coxState => 256
  | Field.coxDead => 257
  | Field.coxIScratch => 258
  | Field.coxDScratch => 259
  | Field.coxICache => 260
  | Field.coxDCache => 261
  | Field.coxWatchdogMs => 262
  | Field.coxResets => 263
  | Field.coxLastReset => 264
  | Field.coxOrphan => 265
  | Field.coxOrphanLimit => 266
  | Field.coxLastOrphan => 267
  | Field.coxOrphanLostAt => 268
  | Field.coxReadyAt => 269
  | Field.coxResetAt => 270
  | Field.coxByWatchdog => 271
  | Field.coxByActivate => 272
  | Field.coxStartCause => 273
  | Field.coxOptions => 274
  | Field.coxOptionState => 275
  | Field.flsRunning => 276
  | Field.flsStartedAt => 277
  | Field.flsSuspended => 278
  | Field.flsDepth => 279
  | Field.flsRan => 280
  | Field.flsMinimumRun => 281
  | Field.flsQueue => 282
  | Field.flsFlags => 283
  | Field.flsCounts => 284
  | Field.flsOptionWords => 285
  | Field.flsOptionWrite => 286
  | Field.flsOptionCut => 287
  | Field.imgA => 288
  | Field.imgB => 289
  | Field.imgActiveB => 290
  | Field.imgTrial => 291
  | Field.imgAttempts => 292
  | Field.imgRunsB => 293
  | Field.imgSlot => 294
  | Field.imgActivateSlot => 295
  | Field.parBp => 296
  | Field.parQueue => 297
  | Field.parRetired => 298
  | Field.parSpares => 299
  | Field.parLost => 300
  | Field.parSeqs => 301
  | Field.parWrites => 302
  | Field.logStaged => 303
  | Field.logAreaC => 304
  | Field.logAreaF => 305
  | Field.logNext => 306
  | Field.logReserve => 307
  | Field.logLastDurable => 308
  | Field.logNotStaged => 309
  | Field.logLostNow => 310
  | Field.logLostFirst => 311
  | Field.logClearing => 312
  | Field.logDefs => 313
  | Field.logOverruns => 314
  | Field.logCounts => 315
  | Field.tlyNumber => 316
  | Field.tlyTime => 317
  | Field.tlySnap => 318
  | Field.tlyLatched => 319
  | Field.tlyBases => 320
  | Field.tlyWinStart => 321
  | Field.tlyRates => 322
  | Field.tlyWinSnap => 323
  | Field.tlyWinDiscard => 324
  | Field.tlyCounts => 325
  | Field.tlyWear => 326
  | Field.wopPlca => 327
  | Field.wopFrames => 328
  | Field.wopCounts => 329
  | Field.wopConflict => 330
  | Field.wopAnswerDue => 331
  | Field.wopKeys => 332
  | Field.wopKeyDraws => 333
  | Field.wopSess => 334
  | Field.wopTagFails => 335
  | Field.wopBulks => 336
  | Field.wopNextBulk => 337
  | Field.out => 338
  | Field.free => 339
  | Field.pending => 340

/-- The set of a list of fields. -/
def fieldSet (l : List Field) : Nat := l.foldr (fun f m => m ||| 2 ^ f.bit) 0

/-- A set lies within another. -/
def covers (need l : Nat) : Prop := need &&& l = need

theorem covers_self (l : Nat) : covers l l := Nat.and_self l

theorem covers_trans {a b l : Nat} (h : a &&& b = a) (k : covers b l) : covers a l := by
  unfold covers at *
  rw [← h, Nat.and_assoc, k]

theorem covers_bit {a l i : Nat} (h : covers a l) (k : a.testBit i = true) : l.testBit i = true := by
  have := congrArg (fun n => Nat.testBit n i) h
  simp only [Nat.testBit_and, k, Bool.true_and] at this
  exact this

/-- A group with the fields of a set blanked. -/
def TimeS.blank (m : Nat) (x : TimeS) : TimeS :=
  { opTime := if m.testBit 0 then ({} : TimeS).opTime else x.opTime
    cycles := if m.testBit 1 then ({} : TimeS).cycles else x.cycles
    cellDue := if m.testBit 2 then ({} : TimeS).cellDue else x.cellDue
    cellWrites := if m.testBit 3 then ({} : TimeS).cellWrites else x.cellWrites
    timeCells := if m.testBit 4 then ({} : TimeS).timeCells else x.timeCells
    cycleCells := if m.testBit 5 then ({} : TimeS).cycleCells else x.cycleCells
    cycleWrites := if m.testBit 6 then ({} : TimeS).cycleWrites else x.cycleWrites }

/-- A group with the fields of a set blanked. -/
def ObjS.blank (m : Nat) (x : ObjS) : ObjS :=
  { vals := if m.testBit 7 then ({} : ObjS).vals else x.vals
    shadow := if m.testBit 8 then ({} : ObjS).shadow else x.shadow
    label := if m.testBit 9 then ({} : ObjS).label else x.label
    slots := if m.testBit 10 then ({} : ObjS).slots else x.slots
    ticketNext := if m.testBit 11 then ({} : ObjS).ticketNext else x.ticketNext
    ticketRes := if m.testBit 12 then ({} : ObjS).ticketRes else x.ticketRes
    busyRefusals := if m.testBit 13 then ({} : ObjS).busyRefusals else x.busyRefusals
    selectors := if m.testBit 14 then ({} : ObjS).selectors else x.selectors
    deferred := if m.testBit 15 then ({} : ObjS).deferred else x.deferred
    waiting := if m.testBit 16 then ({} : ObjS).waiting else x.waiting
    ended := if m.testBit 17 then ({} : ObjS).ended else x.ended
    custodianSet := if m.testBit 18 then ({} : ObjS).custodianSet else x.custodianSet
    restoring := if m.testBit 19 then ({} : ObjS).restoring else x.restoring }

/-- A group with the fields of a set blanked. -/
def PowerS.blank (m : Nat) (x : PowerS) : PowerS :=
  { state := if m.testBit 20 then ({} : PowerS).state else x.state
    inputMv := if m.testBit 21 then ({} : PowerS).inputMv else x.inputMv
    pairA := if m.testBit 22 then ({} : PowerS).pairA else x.pairA
    pairB := if m.testBit 23 then ({} : PowerS).pairB else x.pairB
    peakMw := if m.testBit 24 then ({} : PowerS).peakMw else x.peakMw
    switchClosed := if m.testBit 25 then ({} : PowerS).switchClosed else x.switchClosed
    keelPath := if m.testBit 26 then ({} : PowerS).keelPath else x.keelPath
    breaker := if m.testBit 27 then ({} : PowerS).breaker else x.breaker
    inputGood := if m.testBit 28 then ({} : PowerS).inputGood else x.inputGood
    overvoltage := if m.testBit 29 then ({} : PowerS).overvoltage else x.overvoltage
    inputLow := if m.testBit 30 then ({} : PowerS).inputLow else x.inputLow
    dip := if m.testBit 31 then ({} : PowerS).dip else x.dip
    shortDips := if m.testBit 32 then ({} : PowerS).shortDips else x.shortDips
    lossCount := if m.testBit 33 then ({} : PowerS).lossCount else x.lossCount
    tripCount := if m.testBit 34 then ({} : PowerS).tripCount else x.tripCount
    reqOff := if m.testBit 35 then ({} : PowerS).reqOff else x.reqOff
    seqState := if m.testBit 36 then ({} : PowerS).seqState else x.seqState
    step := if m.testBit 37 then ({} : PowerS).step else x.step
    fastDown := if m.testBit 38 then ({} : PowerS).fastDown else x.fastDown
    mediaOnlyDown := if m.testBit 39 then ({} : PowerS).mediaOnlyDown else x.mediaOnlyDown
    mediaOnlyUp := if m.testBit 40 then ({} : PowerS).mediaOnlyUp else x.mediaOnlyUp
    paused := if m.testBit 41 then ({} : PowerS).paused else x.paused
    domains := if m.testBit 42 then ({} : PowerS).domains else x.domains
    latch := if m.testBit 43 then ({} : PowerS).latch else x.latch
    haltDrivers := if m.testBit 44 then ({} : PowerS).haltDrivers else x.haltDrivers
    haltSeen := if m.testBit 45 then ({} : PowerS).haltSeen else x.haltSeen
    haltHold := if m.testBit 46 then ({} : PowerS).haltHold else x.haltHold
    haltOutside := if m.testBit 47 then ({} : PowerS).haltOutside else x.haltOutside
    counts := if m.testBit 48 then ({} : PowerS).counts else x.counts
    haltCount := if m.testBit 49 then ({} : PowerS).haltCount else x.haltCount
    haltSource := if m.testBit 50 then ({} : PowerS).haltSource else x.haltSource
    haltTime := if m.testBit 51 then ({} : PowerS).haltTime else x.haltTime
    gaLatched := if m.testBit 52 then ({} : PowerS).gaLatched else x.gaLatched
    gaPins := if m.testBit 53 then ({} : PowerS).gaPins else x.gaPins
    gaNow := if m.testBit 54 then ({} : PowerS).gaNow else x.gaNow
    gaDiffer := if m.testBit 55 then ({} : PowerS).gaDiffer else x.gaDiffer
    gaMismatch := if m.testBit 56 then ({} : PowerS).gaMismatch else x.gaMismatch
    modrstLow := if m.testBit 57 then ({} : PowerS).modrstLow else x.modrstLow
    resetAsked := if m.testBit 58 then ({} : PowerS).resetAsked else x.resetAsked
    resetOnGood := if m.testBit 59 then ({} : PowerS).resetOnGood else x.resetOnGood
    tap := if m.testBit 60 then ({} : PowerS).tap else x.tap
    lostClocks := if m.testBit 61 then ({} : PowerS).lostClocks else x.lostClocks
    keelFallback := if m.testBit 62 then ({} : PowerS).keelFallback else x.keelFallback
    marginOn := if m.testBit 63 then ({} : PowerS).marginOn else x.marginOn }

/-- A group with the fields of a set blanked. -/
def SeatBusS.blank (m : Nat) (x : SeatBusS) : SeatBusS :=
  { seats := if m.testBit 64 then ({} : SeatBusS).seats else x.seats
    transactions := if m.testBit 65 then ({} : SeatBusS).transactions else x.transactions
    crcErrors := if m.testBit 66 then ({} : SeatBusS).crcErrors else x.crcErrors
    retries := if m.testBit 67 then ({} : SeatBusS).retries else x.retries
    notResponding := if m.testBit 68 then ({} : SeatBusS).notResponding else x.notResponding }

/-- A group with the fields of a set blanked. -/
def BankS.blank (m : Nat) (x : BankS) : BankS :=
  { state := if m.testBit 69 then ({} : BankS).state else x.state
    mv := if m.testBit 70 then ({} : BankS).mv else x.mv
    boost := if m.testBit 71 then ({} : BankS).boost else x.boost
    uF := if m.testBit 72 then ({} : BankS).uF else x.uF
    uFRaw := if m.testBit 73 then ({} : BankS).uFRaw else x.uFRaw
    esr := if m.testBit 74 then ({} : BankS).esr else x.esr
    temp := if m.testBit 75 then ({} : BankS).temp else x.temp
    measuredAt := if m.testBit 76 then ({} : BankS).measuredAt else x.measuredAt
    measured := if m.testBit 77 then ({} : BankS).measured else x.measured
    notReady := if m.testBit 78 then ({} : BankS).notReady else x.notReady
    measuring := if m.testBit 79 then ({} : BankS).measuring else x.measuring
    deferred := if m.testBit 80 then ({} : BankS).deferred else x.deferred
    capTime := if m.testBit 81 then ({} : BankS).capTime else x.capTime
    capStep := if m.testBit 82 then ({} : BankS).capStep else x.capStep
    flushStartMv := if m.testBit 83 then ({} : BankS).flushStartMv else x.flushStartMv
    flushEndMv := if m.testBit 84 then ({} : BankS).flushEndMv else x.flushEndMv
    flushUs := if m.testBit 85 then ({} : BankS).flushUs else x.flushUs
    keelMs := if m.testBit 86 then ({} : BankS).keelMs else x.keelMs
    flushMark := if m.testBit 87 then ({} : BankS).flushMark else x.flushMark }

/-- A group with the fields of a set blanked. -/
def ThermS.blank (m : Nat) (x : ThermS) : ThermS :=
  { inputs := if m.testBit 88 then ({} : ThermS).inputs else x.inputs
    level := if m.testBit 89 then ({} : ThermS).level else x.level
    timeAt := if m.testBit 90 then ({} : ThermS).timeAt else x.timeAt
    limits := if m.testBit 91 then ({} : ThermS).limits else x.limits
    counts := if m.testBit 92 then ({} : ThermS).counts else x.counts }

/-- A group with the fields of a set blanked. -/
def HealthS.blank (m : Nat) (x : HealthS) : HealthS :=
  { state := if m.testBit 93 then ({} : HealthS).state else x.state
    indicators := if m.testBit 94 then ({} : HealthS).indicators else x.indicators
    c0 := if m.testBit 95 then ({} : HealthS).c0 else x.c0
    points := if m.testBit 96 then ({} : HealthS).points else x.points
    peaks := if m.testBit 97 then ({} : HealthS).peaks else x.peaks
    lifeUsed := if m.testBit 98 then ({} : HealthS).lifeUsed else x.lifeUsed
    mediaHours := if m.testBit 99 then ({} : HealthS).mediaHours else x.mediaHours
    fitted := if m.testBit 100 then ({} : HealthS).fitted else x.fitted
    slope := if m.testBit 101 then ({} : HealthS).slope else x.slope
    bankHours := if m.testBit 102 then ({} : HealthS).bankHours else x.bankHours
    endHours := if m.testBit 103 then ({} : HealthS).endHours else x.endHours
    governing := if m.testBit 104 then ({} : HealthS).governing else x.governing
    predictedAt := if m.testBit 105 then ({} : HealthS).predictedAt else x.predictedAt }

/-- A group with the fields of a set blanked. -/
def HostS.blank (m : Nat) (x : HostS) : HostS :=
  { ports := if m.testBit 106 then ({} : HostS).ports else x.ports
    links := if m.testBit 107 then ({} : HostS).links else x.links
    heads := if m.testBit 108 then ({} : HostS).heads else x.heads }

/-- A group with the fields of a set blanked. -/
def ExtS.blank (m : Nat) (x : ExtS) : ExtS :=
  { pairs := if m.testBit 109 then ({} : ExtS).pairs else x.pairs
    extents := if m.testBit 110 then ({} : ExtS).extents else x.extents
    regions := if m.testBit 111 then ({} : ExtS).regions else x.regions
    offers := if m.testBit 112 then ({} : ExtS).offers else x.offers
    journalUsed := if m.testBit 113 then ({} : ExtS).journalUsed else x.journalUsed
    journalGen := if m.testBit 114 then ({} : ExtS).journalGen else x.journalGen }

/-- A group with the fields of a set blanked. -/
def ReadPathS.blank (m : Nat) (x : ReadPathS) : ReadPathS :=
  { reads := if m.testBit 115 then ({} : ReadPathS).reads else x.reads
    nextId := if m.testBit 116 then ({} : ReadPathS).nextId else x.nextId
    order := if m.testBit 117 then ({} : ReadPathS).order else x.order
    counts := if m.testBit 118 then ({} : ReadPathS).counts else x.counts }

/-- A group with the fields of a set blanked. -/
def WbS.blank (m : Nat) (x : WbS) : WbS :=
  { ents := if m.testBit 119 then ({} : WbS).ents else x.ents
    units := if m.testBit 120 then ({} : WbS).units else x.units
    nextUnit := if m.testBit 121 then ({} : WbS).nextUnit else x.nextUnit
    inProgram := if m.testBit 122 then ({} : WbS).inProgram else x.inProgram
    dirty := if m.testBit 123 then ({} : WbS).dirty else x.dirty
    durable := if m.testBit 124 then ({} : WbS).durable else x.durable
    lastListed := if m.testBit 125 then ({} : WbS).lastListed else x.lastListed
    writing := if m.testBit 126 then ({} : WbS).writing else x.writing
    ledger := if m.testBit 127 then ({} : WbS).ledger else x.ledger
    ledgerSeq := if m.testBit 128 then ({} : WbS).ledgerSeq else x.ledgerSeq
    ledgerNext := if m.testBit 129 then ({} : WbS).ledgerNext else x.ledgerNext
    durableSeq := if m.testBit 130 then ({} : WbS).durableSeq else x.durableSeq
    highWater := if m.testBit 131 then ({} : WbS).highWater else x.highWater
    costHeld := if m.testBit 132 then ({} : WbS).costHeld else x.costHeld
    ledgerHeld := if m.testBit 133 then ({} : WbS).ledgerHeld else x.ledgerHeld
    dipHeld := if m.testBit 134 then ({} : WbS).dipHeld else x.dipHeld
    flushing := if m.testBit 135 then ({} : WbS).flushing else x.flushing
    flushFrom := if m.testBit 136 then ({} : WbS).flushFrom else x.flushFrom
    flushBroken := if m.testBit 137 then ({} : WbS).flushBroken else x.flushBroken
    singlePairs := if m.testBit 138 then ({} : WbS).singlePairs else x.singlePairs
    starvedCount := if m.testBit 139 then ({} : WbS).starvedCount else x.starvedCount
    hostShutdown := if m.testBit 140 then ({} : WbS).hostShutdown else x.hostShutdown
    lastDirty := if m.testBit 141 then ({} : WbS).lastDirty else x.lastDirty
    dirtyCount := if m.testBit 142 then ({} : WbS).dirtyCount else x.dirtyCount
    counts := if m.testBit 143 then ({} : WbS).counts else x.counts }

/-- A group with the fields of a set blanked. -/
def MediaS.blank (m : Nat) (x : MediaS) : MediaS :=
  { granules := if m.testBit 144 then ({} : MediaS).granules else x.granules
    planes := if m.testBit 145 then ({} : MediaS).planes else x.planes
    dies := if m.testBit 146 then ({} : MediaS).dies else x.dies
    channels := if m.testBit 147 then ({} : MediaS).channels else x.channels
    clearing := if m.testBit 148 then ({} : MediaS).clearing else x.clearing
    governor := if m.testBit 149 then ({} : MediaS).governor else x.governor
    reserved := if m.testBit 150 then ({} : MediaS).reserved else x.reserved
    work := if m.testBit 151 then ({} : MediaS).work else x.work
    checks := if m.testBit 152 then ({} : MediaS).checks else x.checks
    checksWear := if m.testBit 153 then ({} : MediaS).checksWear else x.checksWear
    failures := if m.testBit 154 then ({} : MediaS).failures else x.failures }

/-- A group with the fields of a set blanked. -/
def TractS.blank (m : Nat) (x : TractS) : TractS :=
  { map := if m.testBit 155 then ({} : TractS).map else x.map
    ckptA := if m.testBit 156 then ({} : TractS).ckptA else x.ckptA
    ckptB := if m.testBit 157 then ({} : TractS).ckptB else x.ckptB
    act := if m.testBit 158 then ({} : TractS).act else x.act
    peak := if m.testBit 159 then ({} : TractS).peak else x.peak
    peakBase := if m.testBit 160 then ({} : TractS).peakBase else x.peakBase
    peakCkpt := if m.testBit 161 then ({} : TractS).peakCkpt else x.peakCkpt
    peakCkptB := if m.testBit 162 then ({} : TractS).peakCkptB else x.peakCkptB
    baseCkpt := if m.testBit 163 then ({} : TractS).baseCkpt else x.baseCkpt
    actCkpt := if m.testBit 164 then ({} : TractS).actCkpt else x.actCkpt
    actCkptB := if m.testBit 165 then ({} : TractS).actCkptB else x.actCkptB
    directory := if m.testBit 166 then ({} : TractS).directory else x.directory
    scans := if m.testBit 167 then ({} : TractS).scans else x.scans
    counted := if m.testBit 168 then ({} : TractS).counted else x.counted
    epoch := if m.testBit 169 then ({} : TractS).epoch else x.epoch
    dirtyPts := if m.testBit 170 then ({} : TractS).dirtyPts else x.dirtyPts
    migs := if m.testBit 171 then ({} : TractS).migs else x.migs
    readsOn := if m.testBit 172 then ({} : TractS).readsOn else x.readsOn
    lastRow := if m.testBit 173 then ({} : TractS).lastRow else x.lastRow
    completed := if m.testBit 174 then ({} : TractS).completed else x.completed
    abandoned := if m.testBit 175 then ({} : TractS).abandoned else x.abandoned
    retired := if m.testBit 176 then ({} : TractS).retired else x.retired
    refreshed := if m.testBit 177 then ({} : TractS).refreshed else x.refreshed
    sweep := if m.testBit 178 then ({} : TractS).sweep else x.sweep
    lastScan := if m.testBit 179 then ({} : TractS).lastScan else x.lastScan
    decided := if m.testBit 180 then ({} : TractS).decided else x.decided
    counts := if m.testBit 181 then ({} : TractS).counts else x.counts
    spareRows := if m.testBit 182 then ({} : TractS).spareRows else x.spareRows }

/-- A group with the fields of a set blanked. -/
def IntegS.blank (m : Nat) (x : IntegS) : IntegS :=
  { blocks := if m.testBit 183 then ({} : IntegS).blocks else x.blocks
    nodes := if m.testBit 184 then ({} : IntegS).nodes else x.nodes
    root := if m.testBit 185 then ({} : IntegS).root else x.root
    cache := if m.testBit 186 then ({} : IntegS).cache else x.cache
    high := if m.testBit 187 then ({} : IntegS).high else x.high
    reserve := if m.testBit 188 then ({} : IntegS).reserve else x.reserve
    rootState := if m.testBit 189 then ({} : IntegS).rootState else x.rootState
    record := if m.testBit 190 then ({} : IntegS).record else x.record
    alarms := if m.testBit 191 then ({} : IntegS).alarms else x.alarms
    tagFails := if m.testBit 192 then ({} : IntegS).tagFails else x.tagFails
    recovered := if m.testBit 193 then ({} : IntegS).recovered else x.recovered
    reestablished := if m.testBit 194 then ({} : IntegS).reestablished else x.reestablished
    activity := if m.testBit 195 then ({} : IntegS).activity else x.activity
    overflows := if m.testBit 196 then ({} : IntegS).overflows else x.overflows
    treeGen := if m.testBit 197 then ({} : IntegS).treeGen else x.treeGen
    rekeyRegion := if m.testBit 198 then ({} : IntegS).rekeyRegion else x.rekeyRegion
    rekeyState := if m.testBit 199 then ({} : IntegS).rekeyState else x.rekeyState
    rekeyLeft := if m.testBit 200 then ({} : IntegS).rekeyLeft else x.rekeyLeft
    rekeyExtents := if m.testBit 201 then ({} : IntegS).rekeyExtents else x.rekeyExtents
    rekeySlot := if m.testBit 202 then ({} : IntegS).rekeySlot else x.rekeySlot
    windows := if m.testBit 203 then ({} : IntegS).windows else x.windows
    counts := if m.testBit 204 then ({} : IntegS).counts else x.counts }

/-- A group with the fields of a set blanked. -/
def ScrubS.blank (m : Nat) (x : ScrubS) : ScrubS :=
  { ecc := if m.testBit 205 then ({} : ScrubS).ecc else x.ecc
    rewrite := if m.testBit 206 then ({} : ScrubS).rewrite else x.rewrite
    headerRepairs := if m.testBit 207 then ({} : ScrubS).headerRepairs else x.headerRepairs
    selfTest := if m.testBit 208 then ({} : ScrubS).selfTest else x.selfTest
    selfTestAt := if m.testBit 209 then ({} : ScrubS).selfTestAt else x.selfTestAt
    patrol := if m.testBit 210 then ({} : ScrubS).patrol else x.patrol
    passes := if m.testBit 211 then ({} : ScrubS).passes else x.passes
    rebuilds := if m.testBit 212 then ({} : ScrubS).rebuilds else x.rebuilds
    engines := if m.testBit 213 then ({} : ScrubS).engines else x.engines
    parity := if m.testBit 214 then ({} : ScrubS).parity else x.parity }

/-- A group with the fields of a set blanked. -/
def StagingS.blank (m : Nat) (x : StagingS) : StagingS :=
  { srams := if m.testBit 215 then ({} : StagingS).srams else x.srams
    parityDue := if m.testBit 216 then ({} : StagingS).parityDue else x.parityDue
    bandDue := if m.testBit 217 then ({} : StagingS).bandDue else x.bandDue
    restoring := if m.testBit 218 then ({} : StagingS).restoring else x.restoring
    parity := if m.testBit 219 then ({} : StagingS).parity else x.parity }

/-- A group with the fields of a set blanked. -/
def FaultS.blank (m : Nat) (x : FaultS) : FaultS :=
  { queue := if m.testBit 220 then ({} : FaultS).queue else x.queue
    lost := if m.testBit 221 then ({} : FaultS).lost else x.lost
    overflow := if m.testBit 222 then ({} : FaultS).overflow else x.overflow
    highMark := if m.testBit 223 then ({} : FaultS).highMark else x.highMark
    taken := if m.testBit 224 then ({} : FaultS).taken else x.taken
    classes := if m.testBit 225 then ({} : FaultS).classes else x.classes
    sticky := if m.testBit 226 then ({} : FaultS).sticky else x.sticky
    stickyDue := if m.testBit 227 then ({} : FaultS).stickyDue else x.stickyDue
    stickyAgain := if m.testBit 228 then ({} : FaultS).stickyAgain else x.stickyAgain
    units := if m.testBit 229 then ({} : FaultS).units else x.units
    sources := if m.testBit 230 then ({} : FaultS).sources else x.sources
    fences := if m.testBit 231 then ({} : FaultS).fences else x.fences
    lastC3 := if m.testBit 232 then ({} : FaultS).lastC3 else x.lastC3
    lastC3At := if m.testBit 233 then ({} : FaultS).lastC3At else x.lastC3At
    lastC3Cycle := if m.testBit 234 then ({} : FaultS).lastC3Cycle else x.lastC3Cycle
    cmdSlots := if m.testBit 235 then ({} : FaultS).cmdSlots else x.cmdSlots }

/-- A group with the fields of a set blanked. -/
def EasyS.blank (m : Nat) (x : EasyS) : EasyS :=
  { state := if m.testBit 236 then ({} : EasyS).state else x.state
    causes := if m.testBit 237 then ({} : EasyS).causes else x.causes
    entries := if m.testBit 238 then ({} : EasyS).entries else x.entries
    volatileEntries := if m.testBit 239 then ({} : EasyS).volatileEntries else x.volatileEntries
    stopUnits := if m.testBit 240 then ({} : EasyS).stopUnits else x.stopUnits
    thenDown := if m.testBit 241 then ({} : EasyS).thenDown else x.thenDown
    slots := if m.testBit 242 then ({} : EasyS).slots else x.slots }

/-- A group with the fields of a set blanked. -/
def StartS.blank (m : Nat) (x : StartS) : StartS :=
  { phase := if m.testBit 243 then ({} : StartS).phase else x.phase
    kind := if m.testBit 244 then ({} : StartS).kind else x.kind
    clean := if m.testBit 245 then ({} : StartS).clean else x.clean
    mapsLoaded := if m.testBit 246 then ({} : StartS).mapsLoaded else x.mapsLoaded
    rootDone := if m.testBit 247 then ({} : StartS).rootDone else x.rootDone
    powered := if m.testBit 248 then ({} : StartS).powered else x.powered
    review := if m.testBit 249 then ({} : StartS).review else x.review
    keelFailed := if m.testBit 250 then ({} : StartS).keelFailed else x.keelFailed
    dataReady := if m.testBit 251 then ({} : StartS).dataReady else x.dataReady
    began := if m.testBit 252 then ({} : StartS).began else x.began
    origin := if m.testBit 253 then ({} : StartS).origin else x.origin
    times := if m.testBit 254 then ({} : StartS).times else x.times
    rootSlot := if m.testBit 255 then ({} : StartS).rootSlot else x.rootSlot }

/-- A group with the fields of a set blanked. -/
def CoxS.blank (m : Nat) (x : CoxS) : CoxS :=
  { state := if m.testBit 256 then ({} : CoxS).state else x.state
    dead := if m.testBit 257 then ({} : CoxS).dead else x.dead
    iScratch := if m.testBit 258 then ({} : CoxS).iScratch else x.iScratch
    dScratch := if m.testBit 259 then ({} : CoxS).dScratch else x.dScratch
    iCache := if m.testBit 260 then ({} : CoxS).iCache else x.iCache
    dCache := if m.testBit 261 then ({} : CoxS).dCache else x.dCache
    watchdogMs := if m.testBit 262 then ({} : CoxS).watchdogMs else x.watchdogMs
    resets := if m.testBit 263 then ({} : CoxS).resets else x.resets
    lastReset := if m.testBit 264 then ({} : CoxS).lastReset else x.lastReset
    orphan := if m.testBit 265 then ({} : CoxS).orphan else x.orphan
    orphanLimit := if m.testBit 266 then ({} : CoxS).orphanLimit else x.orphanLimit
    lastOrphan := if m.testBit 267 then ({} : CoxS).lastOrphan else x.lastOrphan
    orphanLostAt := if m.testBit 268 then ({} : CoxS).orphanLostAt else x.orphanLostAt
    readyAt := if m.testBit 269 then ({} : CoxS).readyAt else x.readyAt
    resetAt := if m.testBit 270 then ({} : CoxS).resetAt else x.resetAt
    byWatchdog := if m.testBit 271 then ({} : CoxS).byWatchdog else x.byWatchdog
    byActivate := if m.testBit 272 then ({} : CoxS).byActivate else x.byActivate
    startCause := if m.testBit 273 then ({} : CoxS).startCause else x.startCause
    options := if m.testBit 274 then ({} : CoxS).options else x.options
    optionState := if m.testBit 275 then ({} : CoxS).optionState else x.optionState }

/-- A group with the fields of a set blanked. -/
def FlashS.blank (m : Nat) (x : FlashS) : FlashS :=
  { running := if m.testBit 276 then ({} : FlashS).running else x.running
    startedAt := if m.testBit 277 then ({} : FlashS).startedAt else x.startedAt
    suspended := if m.testBit 278 then ({} : FlashS).suspended else x.suspended
    depth := if m.testBit 279 then ({} : FlashS).depth else x.depth
    ran := if m.testBit 280 then ({} : FlashS).ran else x.ran
    minimumRun := if m.testBit 281 then ({} : FlashS).minimumRun else x.minimumRun
    queue := if m.testBit 282 then ({} : FlashS).queue else x.queue
    flags := if m.testBit 283 then ({} : FlashS).flags else x.flags
    counts := if m.testBit 284 then ({} : FlashS).counts else x.counts
    optionWords := if m.testBit 285 then ({} : FlashS).optionWords else x.optionWords
    optionWrite := if m.testBit 286 then ({} : FlashS).optionWrite else x.optionWrite
    optionCut := if m.testBit 287 then ({} : FlashS).optionCut else x.optionCut }

/-- A group with the fields of a set blanked. -/
def ImagesS.blank (m : Nat) (x : ImagesS) : ImagesS :=
  { a := if m.testBit 288 then ({} : ImagesS).a else x.a
    b := if m.testBit 289 then ({} : ImagesS).b else x.b
    activeB := if m.testBit 290 then ({} : ImagesS).activeB else x.activeB
    trial := if m.testBit 291 then ({} : ImagesS).trial else x.trial
    attempts := if m.testBit 292 then ({} : ImagesS).attempts else x.attempts
    runsB := if m.testBit 293 then ({} : ImagesS).runsB else x.runsB
    slot := if m.testBit 294 then ({} : ImagesS).slot else x.slot
    activateSlot := if m.testBit 295 then ({} : ImagesS).activateSlot else x.activateSlot }

/-- A group with the fields of a set blanked. -/
def ParamS.blank (m : Nat) (x : ParamS) : ParamS :=
  { bp := if m.testBit 296 then ({} : ParamS).bp else x.bp
    queue := if m.testBit 297 then ({} : ParamS).queue else x.queue
    retired := if m.testBit 298 then ({} : ParamS).retired else x.retired
    spares := if m.testBit 299 then ({} : ParamS).spares else x.spares
    lost := if m.testBit 300 then ({} : ParamS).lost else x.lost
    seqs := if m.testBit 301 then ({} : ParamS).seqs else x.seqs
    writes := if m.testBit 302 then ({} : ParamS).writes else x.writes }

/-- A group with the fields of a set blanked. -/
def LogS.blank (m : Nat) (x : LogS) : LogS :=
  { staged := if m.testBit 303 then ({} : LogS).staged else x.staged
    areaC := if m.testBit 304 then ({} : LogS).areaC else x.areaC
    areaF := if m.testBit 305 then ({} : LogS).areaF else x.areaF
    next := if m.testBit 306 then ({} : LogS).next else x.next
    reserve := if m.testBit 307 then ({} : LogS).reserve else x.reserve
    lastDurable := if m.testBit 308 then ({} : LogS).lastDurable else x.lastDurable
    notStaged := if m.testBit 309 then ({} : LogS).notStaged else x.notStaged
    lostNow := if m.testBit 310 then ({} : LogS).lostNow else x.lostNow
    lostFirst := if m.testBit 311 then ({} : LogS).lostFirst else x.lostFirst
    clearing := if m.testBit 312 then ({} : LogS).clearing else x.clearing
    defs := if m.testBit 313 then ({} : LogS).defs else x.defs
    overruns := if m.testBit 314 then ({} : LogS).overruns else x.overruns
    counts := if m.testBit 315 then ({} : LogS).counts else x.counts }

/-- A group with the fields of a set blanked. -/
def TallyS.blank (m : Nat) (x : TallyS) : TallyS :=
  { number := if m.testBit 316 then ({} : TallyS).number else x.number
    time := if m.testBit 317 then ({} : TallyS).time else x.time
    snap := if m.testBit 318 then ({} : TallyS).snap else x.snap
    latched := if m.testBit 319 then ({} : TallyS).latched else x.latched
    bases := if m.testBit 320 then ({} : TallyS).bases else x.bases
    winStart := if m.testBit 321 then ({} : TallyS).winStart else x.winStart
    rates := if m.testBit 322 then ({} : TallyS).rates else x.rates
    winSnap := if m.testBit 323 then ({} : TallyS).winSnap else x.winSnap
    winDiscard := if m.testBit 324 then ({} : TallyS).winDiscard else x.winDiscard
    counts := if m.testBit 325 then ({} : TallyS).counts else x.counts
    wear := if m.testBit 326 then ({} : TallyS).wear else x.wear }

/-- A group with the fields of a set blanked. -/
def WopS.blank (m : Nat) (x : WopS) : WopS :=
  { plca := if m.testBit 327 then ({} : WopS).plca else x.plca
    frames := if m.testBit 328 then ({} : WopS).frames else x.frames
    counts := if m.testBit 329 then ({} : WopS).counts else x.counts
    conflict := if m.testBit 330 then ({} : WopS).conflict else x.conflict
    answerDue := if m.testBit 331 then ({} : WopS).answerDue else x.answerDue
    keys := if m.testBit 332 then ({} : WopS).keys else x.keys
    keyDraws := if m.testBit 333 then ({} : WopS).keyDraws else x.keyDraws
    sess := if m.testBit 334 then ({} : WopS).sess else x.sess
    tagFails := if m.testBit 335 then ({} : WopS).tagFails else x.tagFails
    bulks := if m.testBit 336 then ({} : WopS).bulks else x.bulks
    nextBulk := if m.testBit 337 then ({} : WopS).nextBulk else x.nextBulk }

/-- The state with the fields of a set blanked. -/
def State.mask (m : Nat) (s : State) : State :=
  { tim := s.tim.blank m
    obj := s.obj.blank m
    pwr := s.pwr.blank m
    seat := s.seat.blank m
    bank := s.bank.blank m
    thm := s.thm.blank m
    hlt := s.hlt.blank m
    hst := s.hst.blank m
    ext := s.ext.blank m
    rdp := s.rdp.blank m
    wb := s.wb.blank m
    med := s.med.blank m
    trc := s.trc.blank m
    itg := s.itg.blank m
    scr := s.scr.blank m
    stg := s.stg.blank m
    flt := s.flt.blank m
    easy := s.easy.blank m
    str := s.str.blank m
    cox := s.cox.blank m
    fls := s.fls.blank m
    img := s.img.blank m
    par := s.par.blank m
    log := s.log.blank m
    tly := s.tly.blank m
    wop := s.wop.blank m
    out := if m.testBit 338 then [] else s.out
    free := if m.testBit 339 then 0 else s.free
    pending := if m.testBit 340 then [] else s.pending }

theorem Field.bit_lt (f : Field) : f.bit < 341 := by cases f <;> decide

theorem fieldSet_bit (l : List Field) (i : Nat) : (fieldSet l).testBit i = l.any fun f => f.bit == i := by
  induction l with
  | nil => simp [fieldSet]
  | cons a r ih =>
    have : fieldSet (a :: r) = fieldSet r ||| 2 ^ a.bit := rfl
    rw [this, Nat.testBit_or, ih, Nat.testBit_two_pow, List.any_cons, Bool.or_comm]
    rfl

theorem same_timOpTime {m : Nat} {s t : State} (h : t.mask m = s.mask m) (k : m.testBit 0 = false) : Field.same .timOpTime s t := by
  have := congrArg (fun s : State => s.tim.opTime) h
  simpa only [State.mask, TimeS.blank, Field.same, k, Bool.false_eq_true, if_false] using this

theorem same_timCycles {m : Nat} {s t : State} (h : t.mask m = s.mask m) (k : m.testBit 1 = false) : Field.same .timCycles s t := by
  have := congrArg (fun s : State => s.tim.cycles) h
  simpa only [State.mask, TimeS.blank, Field.same, k, Bool.false_eq_true, if_false] using this

theorem same_timCellDue {m : Nat} {s t : State} (h : t.mask m = s.mask m) (k : m.testBit 2 = false) : Field.same .timCellDue s t := by
  have := congrArg (fun s : State => s.tim.cellDue) h
  simpa only [State.mask, TimeS.blank, Field.same, k, Bool.false_eq_true, if_false] using this

theorem same_timCellWrites {m : Nat} {s t : State} (h : t.mask m = s.mask m) (k : m.testBit 3 = false) : Field.same .timCellWrites s t := by
  have := congrArg (fun s : State => s.tim.cellWrites) h
  simpa only [State.mask, TimeS.blank, Field.same, k, Bool.false_eq_true, if_false] using this

theorem same_timTimeCells {m : Nat} {s t : State} (h : t.mask m = s.mask m) (k : m.testBit 4 = false) : Field.same .timTimeCells s t := by
  have := congrArg (fun s : State => s.tim.timeCells) h
  simpa only [State.mask, TimeS.blank, Field.same, k, Bool.false_eq_true, if_false] using this

theorem same_timCycleCells {m : Nat} {s t : State} (h : t.mask m = s.mask m) (k : m.testBit 5 = false) : Field.same .timCycleCells s t := by
  have := congrArg (fun s : State => s.tim.cycleCells) h
  simpa only [State.mask, TimeS.blank, Field.same, k, Bool.false_eq_true, if_false] using this

theorem same_timCycleWrites {m : Nat} {s t : State} (h : t.mask m = s.mask m) (k : m.testBit 6 = false) : Field.same .timCycleWrites s t := by
  have := congrArg (fun s : State => s.tim.cycleWrites) h
  simpa only [State.mask, TimeS.blank, Field.same, k, Bool.false_eq_true, if_false] using this

theorem same_objVals {m : Nat} {s t : State} (h : t.mask m = s.mask m) (k : m.testBit 7 = false) : Field.same .objVals s t := by
  have := congrArg (fun s : State => s.obj.vals) h
  simpa only [State.mask, ObjS.blank, Field.same, k, Bool.false_eq_true, if_false] using this

theorem same_objShadow {m : Nat} {s t : State} (h : t.mask m = s.mask m) (k : m.testBit 8 = false) : Field.same .objShadow s t := by
  have := congrArg (fun s : State => s.obj.shadow) h
  simpa only [State.mask, ObjS.blank, Field.same, k, Bool.false_eq_true, if_false] using this

theorem same_objLabel {m : Nat} {s t : State} (h : t.mask m = s.mask m) (k : m.testBit 9 = false) : Field.same .objLabel s t := by
  have := congrArg (fun s : State => s.obj.label) h
  simpa only [State.mask, ObjS.blank, Field.same, k, Bool.false_eq_true, if_false] using this

theorem same_objSlots {m : Nat} {s t : State} (h : t.mask m = s.mask m) (k : m.testBit 10 = false) : Field.same .objSlots s t := by
  have := congrArg (fun s : State => s.obj.slots) h
  simpa only [State.mask, ObjS.blank, Field.same, k, Bool.false_eq_true, if_false] using this

theorem same_objTicketNext {m : Nat} {s t : State} (h : t.mask m = s.mask m) (k : m.testBit 11 = false) : Field.same .objTicketNext s t := by
  have := congrArg (fun s : State => s.obj.ticketNext) h
  simpa only [State.mask, ObjS.blank, Field.same, k, Bool.false_eq_true, if_false] using this

theorem same_objTicketRes {m : Nat} {s t : State} (h : t.mask m = s.mask m) (k : m.testBit 12 = false) : Field.same .objTicketRes s t := by
  have := congrArg (fun s : State => s.obj.ticketRes) h
  simpa only [State.mask, ObjS.blank, Field.same, k, Bool.false_eq_true, if_false] using this

theorem same_objBusyRefusals {m : Nat} {s t : State} (h : t.mask m = s.mask m) (k : m.testBit 13 = false) : Field.same .objBusyRefusals s t := by
  have := congrArg (fun s : State => s.obj.busyRefusals) h
  simpa only [State.mask, ObjS.blank, Field.same, k, Bool.false_eq_true, if_false] using this

theorem same_objSelectors {m : Nat} {s t : State} (h : t.mask m = s.mask m) (k : m.testBit 14 = false) : Field.same .objSelectors s t := by
  have := congrArg (fun s : State => s.obj.selectors) h
  simpa only [State.mask, ObjS.blank, Field.same, k, Bool.false_eq_true, if_false] using this

theorem same_objDeferred {m : Nat} {s t : State} (h : t.mask m = s.mask m) (k : m.testBit 15 = false) : Field.same .objDeferred s t := by
  have := congrArg (fun s : State => s.obj.deferred) h
  simpa only [State.mask, ObjS.blank, Field.same, k, Bool.false_eq_true, if_false] using this

theorem same_objWaiting {m : Nat} {s t : State} (h : t.mask m = s.mask m) (k : m.testBit 16 = false) : Field.same .objWaiting s t := by
  have := congrArg (fun s : State => s.obj.waiting) h
  simpa only [State.mask, ObjS.blank, Field.same, k, Bool.false_eq_true, if_false] using this

theorem same_objEnded {m : Nat} {s t : State} (h : t.mask m = s.mask m) (k : m.testBit 17 = false) : Field.same .objEnded s t := by
  have := congrArg (fun s : State => s.obj.ended) h
  simpa only [State.mask, ObjS.blank, Field.same, k, Bool.false_eq_true, if_false] using this

theorem same_objCustodianSet {m : Nat} {s t : State} (h : t.mask m = s.mask m) (k : m.testBit 18 = false) : Field.same .objCustodianSet s t := by
  have := congrArg (fun s : State => s.obj.custodianSet) h
  simpa only [State.mask, ObjS.blank, Field.same, k, Bool.false_eq_true, if_false] using this

theorem same_objRestoring {m : Nat} {s t : State} (h : t.mask m = s.mask m) (k : m.testBit 19 = false) : Field.same .objRestoring s t := by
  have := congrArg (fun s : State => s.obj.restoring) h
  simpa only [State.mask, ObjS.blank, Field.same, k, Bool.false_eq_true, if_false] using this

theorem same_pwrState {m : Nat} {s t : State} (h : t.mask m = s.mask m) (k : m.testBit 20 = false) : Field.same .pwrState s t := by
  have := congrArg (fun s : State => s.pwr.state) h
  simpa only [State.mask, PowerS.blank, Field.same, k, Bool.false_eq_true, if_false] using this

theorem same_pwrInputMv {m : Nat} {s t : State} (h : t.mask m = s.mask m) (k : m.testBit 21 = false) : Field.same .pwrInputMv s t := by
  have := congrArg (fun s : State => s.pwr.inputMv) h
  simpa only [State.mask, PowerS.blank, Field.same, k, Bool.false_eq_true, if_false] using this

theorem same_pwrPairA {m : Nat} {s t : State} (h : t.mask m = s.mask m) (k : m.testBit 22 = false) : Field.same .pwrPairA s t := by
  have := congrArg (fun s : State => s.pwr.pairA) h
  simpa only [State.mask, PowerS.blank, Field.same, k, Bool.false_eq_true, if_false] using this

theorem same_pwrPairB {m : Nat} {s t : State} (h : t.mask m = s.mask m) (k : m.testBit 23 = false) : Field.same .pwrPairB s t := by
  have := congrArg (fun s : State => s.pwr.pairB) h
  simpa only [State.mask, PowerS.blank, Field.same, k, Bool.false_eq_true, if_false] using this

theorem same_pwrPeakMw {m : Nat} {s t : State} (h : t.mask m = s.mask m) (k : m.testBit 24 = false) : Field.same .pwrPeakMw s t := by
  have := congrArg (fun s : State => s.pwr.peakMw) h
  simpa only [State.mask, PowerS.blank, Field.same, k, Bool.false_eq_true, if_false] using this

theorem same_pwrSwitchClosed {m : Nat} {s t : State} (h : t.mask m = s.mask m) (k : m.testBit 25 = false) : Field.same .pwrSwitchClosed s t := by
  have := congrArg (fun s : State => s.pwr.switchClosed) h
  simpa only [State.mask, PowerS.blank, Field.same, k, Bool.false_eq_true, if_false] using this

theorem same_pwrKeelPath {m : Nat} {s t : State} (h : t.mask m = s.mask m) (k : m.testBit 26 = false) : Field.same .pwrKeelPath s t := by
  have := congrArg (fun s : State => s.pwr.keelPath) h
  simpa only [State.mask, PowerS.blank, Field.same, k, Bool.false_eq_true, if_false] using this

theorem same_pwrBreaker {m : Nat} {s t : State} (h : t.mask m = s.mask m) (k : m.testBit 27 = false) : Field.same .pwrBreaker s t := by
  have := congrArg (fun s : State => s.pwr.breaker) h
  simpa only [State.mask, PowerS.blank, Field.same, k, Bool.false_eq_true, if_false] using this

theorem same_pwrInputGood {m : Nat} {s t : State} (h : t.mask m = s.mask m) (k : m.testBit 28 = false) : Field.same .pwrInputGood s t := by
  have := congrArg (fun s : State => s.pwr.inputGood) h
  simpa only [State.mask, PowerS.blank, Field.same, k, Bool.false_eq_true, if_false] using this

theorem same_pwrOvervoltage {m : Nat} {s t : State} (h : t.mask m = s.mask m) (k : m.testBit 29 = false) : Field.same .pwrOvervoltage s t := by
  have := congrArg (fun s : State => s.pwr.overvoltage) h
  simpa only [State.mask, PowerS.blank, Field.same, k, Bool.false_eq_true, if_false] using this

theorem same_pwrInputLow {m : Nat} {s t : State} (h : t.mask m = s.mask m) (k : m.testBit 30 = false) : Field.same .pwrInputLow s t := by
  have := congrArg (fun s : State => s.pwr.inputLow) h
  simpa only [State.mask, PowerS.blank, Field.same, k, Bool.false_eq_true, if_false] using this

theorem same_pwrDip {m : Nat} {s t : State} (h : t.mask m = s.mask m) (k : m.testBit 31 = false) : Field.same .pwrDip s t := by
  have := congrArg (fun s : State => s.pwr.dip) h
  simpa only [State.mask, PowerS.blank, Field.same, k, Bool.false_eq_true, if_false] using this

theorem same_pwrShortDips {m : Nat} {s t : State} (h : t.mask m = s.mask m) (k : m.testBit 32 = false) : Field.same .pwrShortDips s t := by
  have := congrArg (fun s : State => s.pwr.shortDips) h
  simpa only [State.mask, PowerS.blank, Field.same, k, Bool.false_eq_true, if_false] using this

theorem same_pwrLossCount {m : Nat} {s t : State} (h : t.mask m = s.mask m) (k : m.testBit 33 = false) : Field.same .pwrLossCount s t := by
  have := congrArg (fun s : State => s.pwr.lossCount) h
  simpa only [State.mask, PowerS.blank, Field.same, k, Bool.false_eq_true, if_false] using this

theorem same_pwrTripCount {m : Nat} {s t : State} (h : t.mask m = s.mask m) (k : m.testBit 34 = false) : Field.same .pwrTripCount s t := by
  have := congrArg (fun s : State => s.pwr.tripCount) h
  simpa only [State.mask, PowerS.blank, Field.same, k, Bool.false_eq_true, if_false] using this

theorem same_pwrReqOff {m : Nat} {s t : State} (h : t.mask m = s.mask m) (k : m.testBit 35 = false) : Field.same .pwrReqOff s t := by
  have := congrArg (fun s : State => s.pwr.reqOff) h
  simpa only [State.mask, PowerS.blank, Field.same, k, Bool.false_eq_true, if_false] using this

theorem same_pwrSeqState {m : Nat} {s t : State} (h : t.mask m = s.mask m) (k : m.testBit 36 = false) : Field.same .pwrSeqState s t := by
  have := congrArg (fun s : State => s.pwr.seqState) h
  simpa only [State.mask, PowerS.blank, Field.same, k, Bool.false_eq_true, if_false] using this

theorem same_pwrStep {m : Nat} {s t : State} (h : t.mask m = s.mask m) (k : m.testBit 37 = false) : Field.same .pwrStep s t := by
  have := congrArg (fun s : State => s.pwr.step) h
  simpa only [State.mask, PowerS.blank, Field.same, k, Bool.false_eq_true, if_false] using this

theorem same_pwrFastDown {m : Nat} {s t : State} (h : t.mask m = s.mask m) (k : m.testBit 38 = false) : Field.same .pwrFastDown s t := by
  have := congrArg (fun s : State => s.pwr.fastDown) h
  simpa only [State.mask, PowerS.blank, Field.same, k, Bool.false_eq_true, if_false] using this

theorem same_pwrMediaOnlyDown {m : Nat} {s t : State} (h : t.mask m = s.mask m) (k : m.testBit 39 = false) : Field.same .pwrMediaOnlyDown s t := by
  have := congrArg (fun s : State => s.pwr.mediaOnlyDown) h
  simpa only [State.mask, PowerS.blank, Field.same, k, Bool.false_eq_true, if_false] using this

theorem same_pwrMediaOnlyUp {m : Nat} {s t : State} (h : t.mask m = s.mask m) (k : m.testBit 40 = false) : Field.same .pwrMediaOnlyUp s t := by
  have := congrArg (fun s : State => s.pwr.mediaOnlyUp) h
  simpa only [State.mask, PowerS.blank, Field.same, k, Bool.false_eq_true, if_false] using this

theorem same_pwrPaused {m : Nat} {s t : State} (h : t.mask m = s.mask m) (k : m.testBit 41 = false) : Field.same .pwrPaused s t := by
  have := congrArg (fun s : State => s.pwr.paused) h
  simpa only [State.mask, PowerS.blank, Field.same, k, Bool.false_eq_true, if_false] using this

theorem same_pwrDomains {m : Nat} {s t : State} (h : t.mask m = s.mask m) (k : m.testBit 42 = false) : Field.same .pwrDomains s t := by
  have := congrArg (fun s : State => s.pwr.domains) h
  simpa only [State.mask, PowerS.blank, Field.same, k, Bool.false_eq_true, if_false] using this

theorem same_pwrLatch {m : Nat} {s t : State} (h : t.mask m = s.mask m) (k : m.testBit 43 = false) : Field.same .pwrLatch s t := by
  have := congrArg (fun s : State => s.pwr.latch) h
  simpa only [State.mask, PowerS.blank, Field.same, k, Bool.false_eq_true, if_false] using this

theorem same_pwrHaltDrivers {m : Nat} {s t : State} (h : t.mask m = s.mask m) (k : m.testBit 44 = false) : Field.same .pwrHaltDrivers s t := by
  have := congrArg (fun s : State => s.pwr.haltDrivers) h
  simpa only [State.mask, PowerS.blank, Field.same, k, Bool.false_eq_true, if_false] using this

theorem same_pwrHaltSeen {m : Nat} {s t : State} (h : t.mask m = s.mask m) (k : m.testBit 45 = false) : Field.same .pwrHaltSeen s t := by
  have := congrArg (fun s : State => s.pwr.haltSeen) h
  simpa only [State.mask, PowerS.blank, Field.same, k, Bool.false_eq_true, if_false] using this

theorem same_pwrHaltHold {m : Nat} {s t : State} (h : t.mask m = s.mask m) (k : m.testBit 46 = false) : Field.same .pwrHaltHold s t := by
  have := congrArg (fun s : State => s.pwr.haltHold) h
  simpa only [State.mask, PowerS.blank, Field.same, k, Bool.false_eq_true, if_false] using this

theorem same_pwrHaltOutside {m : Nat} {s t : State} (h : t.mask m = s.mask m) (k : m.testBit 47 = false) : Field.same .pwrHaltOutside s t := by
  have := congrArg (fun s : State => s.pwr.haltOutside) h
  simpa only [State.mask, PowerS.blank, Field.same, k, Bool.false_eq_true, if_false] using this

theorem same_pwrCounts {m : Nat} {s t : State} (h : t.mask m = s.mask m) (k : m.testBit 48 = false) : Field.same .pwrCounts s t := by
  have := congrArg (fun s : State => s.pwr.counts) h
  simpa only [State.mask, PowerS.blank, Field.same, k, Bool.false_eq_true, if_false] using this

theorem same_pwrHaltCount {m : Nat} {s t : State} (h : t.mask m = s.mask m) (k : m.testBit 49 = false) : Field.same .pwrHaltCount s t := by
  have := congrArg (fun s : State => s.pwr.haltCount) h
  simpa only [State.mask, PowerS.blank, Field.same, k, Bool.false_eq_true, if_false] using this

theorem same_pwrHaltSource {m : Nat} {s t : State} (h : t.mask m = s.mask m) (k : m.testBit 50 = false) : Field.same .pwrHaltSource s t := by
  have := congrArg (fun s : State => s.pwr.haltSource) h
  simpa only [State.mask, PowerS.blank, Field.same, k, Bool.false_eq_true, if_false] using this

theorem same_pwrHaltTime {m : Nat} {s t : State} (h : t.mask m = s.mask m) (k : m.testBit 51 = false) : Field.same .pwrHaltTime s t := by
  have := congrArg (fun s : State => s.pwr.haltTime) h
  simpa only [State.mask, PowerS.blank, Field.same, k, Bool.false_eq_true, if_false] using this

theorem same_pwrGaLatched {m : Nat} {s t : State} (h : t.mask m = s.mask m) (k : m.testBit 52 = false) : Field.same .pwrGaLatched s t := by
  have := congrArg (fun s : State => s.pwr.gaLatched) h
  simpa only [State.mask, PowerS.blank, Field.same, k, Bool.false_eq_true, if_false] using this

theorem same_pwrGaPins {m : Nat} {s t : State} (h : t.mask m = s.mask m) (k : m.testBit 53 = false) : Field.same .pwrGaPins s t := by
  have := congrArg (fun s : State => s.pwr.gaPins) h
  simpa only [State.mask, PowerS.blank, Field.same, k, Bool.false_eq_true, if_false] using this

theorem same_pwrGaNow {m : Nat} {s t : State} (h : t.mask m = s.mask m) (k : m.testBit 54 = false) : Field.same .pwrGaNow s t := by
  have := congrArg (fun s : State => s.pwr.gaNow) h
  simpa only [State.mask, PowerS.blank, Field.same, k, Bool.false_eq_true, if_false] using this

theorem same_pwrGaDiffer {m : Nat} {s t : State} (h : t.mask m = s.mask m) (k : m.testBit 55 = false) : Field.same .pwrGaDiffer s t := by
  have := congrArg (fun s : State => s.pwr.gaDiffer) h
  simpa only [State.mask, PowerS.blank, Field.same, k, Bool.false_eq_true, if_false] using this

theorem same_pwrGaMismatch {m : Nat} {s t : State} (h : t.mask m = s.mask m) (k : m.testBit 56 = false) : Field.same .pwrGaMismatch s t := by
  have := congrArg (fun s : State => s.pwr.gaMismatch) h
  simpa only [State.mask, PowerS.blank, Field.same, k, Bool.false_eq_true, if_false] using this

theorem same_pwrModrstLow {m : Nat} {s t : State} (h : t.mask m = s.mask m) (k : m.testBit 57 = false) : Field.same .pwrModrstLow s t := by
  have := congrArg (fun s : State => s.pwr.modrstLow) h
  simpa only [State.mask, PowerS.blank, Field.same, k, Bool.false_eq_true, if_false] using this

theorem same_pwrResetAsked {m : Nat} {s t : State} (h : t.mask m = s.mask m) (k : m.testBit 58 = false) : Field.same .pwrResetAsked s t := by
  have := congrArg (fun s : State => s.pwr.resetAsked) h
  simpa only [State.mask, PowerS.blank, Field.same, k, Bool.false_eq_true, if_false] using this

theorem same_pwrResetOnGood {m : Nat} {s t : State} (h : t.mask m = s.mask m) (k : m.testBit 59 = false) : Field.same .pwrResetOnGood s t := by
  have := congrArg (fun s : State => s.pwr.resetOnGood) h
  simpa only [State.mask, PowerS.blank, Field.same, k, Bool.false_eq_true, if_false] using this

theorem same_pwrTap {m : Nat} {s t : State} (h : t.mask m = s.mask m) (k : m.testBit 60 = false) : Field.same .pwrTap s t := by
  have := congrArg (fun s : State => s.pwr.tap) h
  simpa only [State.mask, PowerS.blank, Field.same, k, Bool.false_eq_true, if_false] using this

theorem same_pwrLostClocks {m : Nat} {s t : State} (h : t.mask m = s.mask m) (k : m.testBit 61 = false) : Field.same .pwrLostClocks s t := by
  have := congrArg (fun s : State => s.pwr.lostClocks) h
  simpa only [State.mask, PowerS.blank, Field.same, k, Bool.false_eq_true, if_false] using this

theorem same_pwrKeelFallback {m : Nat} {s t : State} (h : t.mask m = s.mask m) (k : m.testBit 62 = false) : Field.same .pwrKeelFallback s t := by
  have := congrArg (fun s : State => s.pwr.keelFallback) h
  simpa only [State.mask, PowerS.blank, Field.same, k, Bool.false_eq_true, if_false] using this

theorem same_pwrMarginOn {m : Nat} {s t : State} (h : t.mask m = s.mask m) (k : m.testBit 63 = false) : Field.same .pwrMarginOn s t := by
  have := congrArg (fun s : State => s.pwr.marginOn) h
  simpa only [State.mask, PowerS.blank, Field.same, k, Bool.false_eq_true, if_false] using this

theorem same_seatSeats {m : Nat} {s t : State} (h : t.mask m = s.mask m) (k : m.testBit 64 = false) : Field.same .seatSeats s t := by
  have := congrArg (fun s : State => s.seat.seats) h
  simpa only [State.mask, SeatBusS.blank, Field.same, k, Bool.false_eq_true, if_false] using this

theorem same_seatTransactions {m : Nat} {s t : State} (h : t.mask m = s.mask m) (k : m.testBit 65 = false) : Field.same .seatTransactions s t := by
  have := congrArg (fun s : State => s.seat.transactions) h
  simpa only [State.mask, SeatBusS.blank, Field.same, k, Bool.false_eq_true, if_false] using this

theorem same_seatCrcErrors {m : Nat} {s t : State} (h : t.mask m = s.mask m) (k : m.testBit 66 = false) : Field.same .seatCrcErrors s t := by
  have := congrArg (fun s : State => s.seat.crcErrors) h
  simpa only [State.mask, SeatBusS.blank, Field.same, k, Bool.false_eq_true, if_false] using this

theorem same_seatRetries {m : Nat} {s t : State} (h : t.mask m = s.mask m) (k : m.testBit 67 = false) : Field.same .seatRetries s t := by
  have := congrArg (fun s : State => s.seat.retries) h
  simpa only [State.mask, SeatBusS.blank, Field.same, k, Bool.false_eq_true, if_false] using this

theorem same_seatNotResponding {m : Nat} {s t : State} (h : t.mask m = s.mask m) (k : m.testBit 68 = false) : Field.same .seatNotResponding s t := by
  have := congrArg (fun s : State => s.seat.notResponding) h
  simpa only [State.mask, SeatBusS.blank, Field.same, k, Bool.false_eq_true, if_false] using this

theorem same_bankState {m : Nat} {s t : State} (h : t.mask m = s.mask m) (k : m.testBit 69 = false) : Field.same .bankState s t := by
  have := congrArg (fun s : State => s.bank.state) h
  simpa only [State.mask, BankS.blank, Field.same, k, Bool.false_eq_true, if_false] using this

theorem same_bankMv {m : Nat} {s t : State} (h : t.mask m = s.mask m) (k : m.testBit 70 = false) : Field.same .bankMv s t := by
  have := congrArg (fun s : State => s.bank.mv) h
  simpa only [State.mask, BankS.blank, Field.same, k, Bool.false_eq_true, if_false] using this

theorem same_bankBoost {m : Nat} {s t : State} (h : t.mask m = s.mask m) (k : m.testBit 71 = false) : Field.same .bankBoost s t := by
  have := congrArg (fun s : State => s.bank.boost) h
  simpa only [State.mask, BankS.blank, Field.same, k, Bool.false_eq_true, if_false] using this

theorem same_bankUF {m : Nat} {s t : State} (h : t.mask m = s.mask m) (k : m.testBit 72 = false) : Field.same .bankUF s t := by
  have := congrArg (fun s : State => s.bank.uF) h
  simpa only [State.mask, BankS.blank, Field.same, k, Bool.false_eq_true, if_false] using this

theorem same_bankUFRaw {m : Nat} {s t : State} (h : t.mask m = s.mask m) (k : m.testBit 73 = false) : Field.same .bankUFRaw s t := by
  have := congrArg (fun s : State => s.bank.uFRaw) h
  simpa only [State.mask, BankS.blank, Field.same, k, Bool.false_eq_true, if_false] using this

theorem same_bankEsr {m : Nat} {s t : State} (h : t.mask m = s.mask m) (k : m.testBit 74 = false) : Field.same .bankEsr s t := by
  have := congrArg (fun s : State => s.bank.esr) h
  simpa only [State.mask, BankS.blank, Field.same, k, Bool.false_eq_true, if_false] using this

theorem same_bankTemp {m : Nat} {s t : State} (h : t.mask m = s.mask m) (k : m.testBit 75 = false) : Field.same .bankTemp s t := by
  have := congrArg (fun s : State => s.bank.temp) h
  simpa only [State.mask, BankS.blank, Field.same, k, Bool.false_eq_true, if_false] using this

theorem same_bankMeasuredAt {m : Nat} {s t : State} (h : t.mask m = s.mask m) (k : m.testBit 76 = false) : Field.same .bankMeasuredAt s t := by
  have := congrArg (fun s : State => s.bank.measuredAt) h
  simpa only [State.mask, BankS.blank, Field.same, k, Bool.false_eq_true, if_false] using this

theorem same_bankMeasured {m : Nat} {s t : State} (h : t.mask m = s.mask m) (k : m.testBit 77 = false) : Field.same .bankMeasured s t := by
  have := congrArg (fun s : State => s.bank.measured) h
  simpa only [State.mask, BankS.blank, Field.same, k, Bool.false_eq_true, if_false] using this

theorem same_bankNotReady {m : Nat} {s t : State} (h : t.mask m = s.mask m) (k : m.testBit 78 = false) : Field.same .bankNotReady s t := by
  have := congrArg (fun s : State => s.bank.notReady) h
  simpa only [State.mask, BankS.blank, Field.same, k, Bool.false_eq_true, if_false] using this

theorem same_bankMeasuring {m : Nat} {s t : State} (h : t.mask m = s.mask m) (k : m.testBit 79 = false) : Field.same .bankMeasuring s t := by
  have := congrArg (fun s : State => s.bank.measuring) h
  simpa only [State.mask, BankS.blank, Field.same, k, Bool.false_eq_true, if_false] using this

theorem same_bankDeferred {m : Nat} {s t : State} (h : t.mask m = s.mask m) (k : m.testBit 80 = false) : Field.same .bankDeferred s t := by
  have := congrArg (fun s : State => s.bank.deferred) h
  simpa only [State.mask, BankS.blank, Field.same, k, Bool.false_eq_true, if_false] using this

theorem same_bankCapTime {m : Nat} {s t : State} (h : t.mask m = s.mask m) (k : m.testBit 81 = false) : Field.same .bankCapTime s t := by
  have := congrArg (fun s : State => s.bank.capTime) h
  simpa only [State.mask, BankS.blank, Field.same, k, Bool.false_eq_true, if_false] using this

theorem same_bankCapStep {m : Nat} {s t : State} (h : t.mask m = s.mask m) (k : m.testBit 82 = false) : Field.same .bankCapStep s t := by
  have := congrArg (fun s : State => s.bank.capStep) h
  simpa only [State.mask, BankS.blank, Field.same, k, Bool.false_eq_true, if_false] using this

theorem same_bankFlushStartMv {m : Nat} {s t : State} (h : t.mask m = s.mask m) (k : m.testBit 83 = false) : Field.same .bankFlushStartMv s t := by
  have := congrArg (fun s : State => s.bank.flushStartMv) h
  simpa only [State.mask, BankS.blank, Field.same, k, Bool.false_eq_true, if_false] using this

theorem same_bankFlushEndMv {m : Nat} {s t : State} (h : t.mask m = s.mask m) (k : m.testBit 84 = false) : Field.same .bankFlushEndMv s t := by
  have := congrArg (fun s : State => s.bank.flushEndMv) h
  simpa only [State.mask, BankS.blank, Field.same, k, Bool.false_eq_true, if_false] using this

theorem same_bankFlushUs {m : Nat} {s t : State} (h : t.mask m = s.mask m) (k : m.testBit 85 = false) : Field.same .bankFlushUs s t := by
  have := congrArg (fun s : State => s.bank.flushUs) h
  simpa only [State.mask, BankS.blank, Field.same, k, Bool.false_eq_true, if_false] using this

theorem same_bankKeelMs {m : Nat} {s t : State} (h : t.mask m = s.mask m) (k : m.testBit 86 = false) : Field.same .bankKeelMs s t := by
  have := congrArg (fun s : State => s.bank.keelMs) h
  simpa only [State.mask, BankS.blank, Field.same, k, Bool.false_eq_true, if_false] using this

theorem same_bankFlushMark {m : Nat} {s t : State} (h : t.mask m = s.mask m) (k : m.testBit 87 = false) : Field.same .bankFlushMark s t := by
  have := congrArg (fun s : State => s.bank.flushMark) h
  simpa only [State.mask, BankS.blank, Field.same, k, Bool.false_eq_true, if_false] using this

theorem same_thmInputs {m : Nat} {s t : State} (h : t.mask m = s.mask m) (k : m.testBit 88 = false) : Field.same .thmInputs s t := by
  have := congrArg (fun s : State => s.thm.inputs) h
  simpa only [State.mask, ThermS.blank, Field.same, k, Bool.false_eq_true, if_false] using this

theorem same_thmLevel {m : Nat} {s t : State} (h : t.mask m = s.mask m) (k : m.testBit 89 = false) : Field.same .thmLevel s t := by
  have := congrArg (fun s : State => s.thm.level) h
  simpa only [State.mask, ThermS.blank, Field.same, k, Bool.false_eq_true, if_false] using this

theorem same_thmTimeAt {m : Nat} {s t : State} (h : t.mask m = s.mask m) (k : m.testBit 90 = false) : Field.same .thmTimeAt s t := by
  have := congrArg (fun s : State => s.thm.timeAt) h
  simpa only [State.mask, ThermS.blank, Field.same, k, Bool.false_eq_true, if_false] using this

theorem same_thmLimits {m : Nat} {s t : State} (h : t.mask m = s.mask m) (k : m.testBit 91 = false) : Field.same .thmLimits s t := by
  have := congrArg (fun s : State => s.thm.limits) h
  simpa only [State.mask, ThermS.blank, Field.same, k, Bool.false_eq_true, if_false] using this

theorem same_thmCounts {m : Nat} {s t : State} (h : t.mask m = s.mask m) (k : m.testBit 92 = false) : Field.same .thmCounts s t := by
  have := congrArg (fun s : State => s.thm.counts) h
  simpa only [State.mask, ThermS.blank, Field.same, k, Bool.false_eq_true, if_false] using this

theorem same_hltState {m : Nat} {s t : State} (h : t.mask m = s.mask m) (k : m.testBit 93 = false) : Field.same .hltState s t := by
  have := congrArg (fun s : State => s.hlt.state) h
  simpa only [State.mask, HealthS.blank, Field.same, k, Bool.false_eq_true, if_false] using this

theorem same_hltIndicators {m : Nat} {s t : State} (h : t.mask m = s.mask m) (k : m.testBit 94 = false) : Field.same .hltIndicators s t := by
  have := congrArg (fun s : State => s.hlt.indicators) h
  simpa only [State.mask, HealthS.blank, Field.same, k, Bool.false_eq_true, if_false] using this

theorem same_hltC0 {m : Nat} {s t : State} (h : t.mask m = s.mask m) (k : m.testBit 95 = false) : Field.same .hltC0 s t := by
  have := congrArg (fun s : State => s.hlt.c0) h
  simpa only [State.mask, HealthS.blank, Field.same, k, Bool.false_eq_true, if_false] using this

theorem same_hltPoints {m : Nat} {s t : State} (h : t.mask m = s.mask m) (k : m.testBit 96 = false) : Field.same .hltPoints s t := by
  have := congrArg (fun s : State => s.hlt.points) h
  simpa only [State.mask, HealthS.blank, Field.same, k, Bool.false_eq_true, if_false] using this

theorem same_hltPeaks {m : Nat} {s t : State} (h : t.mask m = s.mask m) (k : m.testBit 97 = false) : Field.same .hltPeaks s t := by
  have := congrArg (fun s : State => s.hlt.peaks) h
  simpa only [State.mask, HealthS.blank, Field.same, k, Bool.false_eq_true, if_false] using this

theorem same_hltLifeUsed {m : Nat} {s t : State} (h : t.mask m = s.mask m) (k : m.testBit 98 = false) : Field.same .hltLifeUsed s t := by
  have := congrArg (fun s : State => s.hlt.lifeUsed) h
  simpa only [State.mask, HealthS.blank, Field.same, k, Bool.false_eq_true, if_false] using this

theorem same_hltMediaHours {m : Nat} {s t : State} (h : t.mask m = s.mask m) (k : m.testBit 99 = false) : Field.same .hltMediaHours s t := by
  have := congrArg (fun s : State => s.hlt.mediaHours) h
  simpa only [State.mask, HealthS.blank, Field.same, k, Bool.false_eq_true, if_false] using this

theorem same_hltFitted {m : Nat} {s t : State} (h : t.mask m = s.mask m) (k : m.testBit 100 = false) : Field.same .hltFitted s t := by
  have := congrArg (fun s : State => s.hlt.fitted) h
  simpa only [State.mask, HealthS.blank, Field.same, k, Bool.false_eq_true, if_false] using this

theorem same_hltSlope {m : Nat} {s t : State} (h : t.mask m = s.mask m) (k : m.testBit 101 = false) : Field.same .hltSlope s t := by
  have := congrArg (fun s : State => s.hlt.slope) h
  simpa only [State.mask, HealthS.blank, Field.same, k, Bool.false_eq_true, if_false] using this

theorem same_hltBankHours {m : Nat} {s t : State} (h : t.mask m = s.mask m) (k : m.testBit 102 = false) : Field.same .hltBankHours s t := by
  have := congrArg (fun s : State => s.hlt.bankHours) h
  simpa only [State.mask, HealthS.blank, Field.same, k, Bool.false_eq_true, if_false] using this

theorem same_hltEndHours {m : Nat} {s t : State} (h : t.mask m = s.mask m) (k : m.testBit 103 = false) : Field.same .hltEndHours s t := by
  have := congrArg (fun s : State => s.hlt.endHours) h
  simpa only [State.mask, HealthS.blank, Field.same, k, Bool.false_eq_true, if_false] using this

theorem same_hltGoverning {m : Nat} {s t : State} (h : t.mask m = s.mask m) (k : m.testBit 104 = false) : Field.same .hltGoverning s t := by
  have := congrArg (fun s : State => s.hlt.governing) h
  simpa only [State.mask, HealthS.blank, Field.same, k, Bool.false_eq_true, if_false] using this

theorem same_hltPredictedAt {m : Nat} {s t : State} (h : t.mask m = s.mask m) (k : m.testBit 105 = false) : Field.same .hltPredictedAt s t := by
  have := congrArg (fun s : State => s.hlt.predictedAt) h
  simpa only [State.mask, HealthS.blank, Field.same, k, Bool.false_eq_true, if_false] using this

theorem same_hstPorts {m : Nat} {s t : State} (h : t.mask m = s.mask m) (k : m.testBit 106 = false) : Field.same .hstPorts s t := by
  have := congrArg (fun s : State => s.hst.ports) h
  simpa only [State.mask, HostS.blank, Field.same, k, Bool.false_eq_true, if_false] using this

theorem same_hstLinks {m : Nat} {s t : State} (h : t.mask m = s.mask m) (k : m.testBit 107 = false) : Field.same .hstLinks s t := by
  have := congrArg (fun s : State => s.hst.links) h
  simpa only [State.mask, HostS.blank, Field.same, k, Bool.false_eq_true, if_false] using this

theorem same_hstHeads {m : Nat} {s t : State} (h : t.mask m = s.mask m) (k : m.testBit 108 = false) : Field.same .hstHeads s t := by
  have := congrArg (fun s : State => s.hst.heads) h
  simpa only [State.mask, HostS.blank, Field.same, k, Bool.false_eq_true, if_false] using this

theorem same_extPairs {m : Nat} {s t : State} (h : t.mask m = s.mask m) (k : m.testBit 109 = false) : Field.same .extPairs s t := by
  have := congrArg (fun s : State => s.ext.pairs) h
  simpa only [State.mask, ExtS.blank, Field.same, k, Bool.false_eq_true, if_false] using this

theorem same_extExtents {m : Nat} {s t : State} (h : t.mask m = s.mask m) (k : m.testBit 110 = false) : Field.same .extExtents s t := by
  have := congrArg (fun s : State => s.ext.extents) h
  simpa only [State.mask, ExtS.blank, Field.same, k, Bool.false_eq_true, if_false] using this

theorem same_extRegions {m : Nat} {s t : State} (h : t.mask m = s.mask m) (k : m.testBit 111 = false) : Field.same .extRegions s t := by
  have := congrArg (fun s : State => s.ext.regions) h
  simpa only [State.mask, ExtS.blank, Field.same, k, Bool.false_eq_true, if_false] using this

theorem same_extOffers {m : Nat} {s t : State} (h : t.mask m = s.mask m) (k : m.testBit 112 = false) : Field.same .extOffers s t := by
  have := congrArg (fun s : State => s.ext.offers) h
  simpa only [State.mask, ExtS.blank, Field.same, k, Bool.false_eq_true, if_false] using this

theorem same_extJournalUsed {m : Nat} {s t : State} (h : t.mask m = s.mask m) (k : m.testBit 113 = false) : Field.same .extJournalUsed s t := by
  have := congrArg (fun s : State => s.ext.journalUsed) h
  simpa only [State.mask, ExtS.blank, Field.same, k, Bool.false_eq_true, if_false] using this

theorem same_extJournalGen {m : Nat} {s t : State} (h : t.mask m = s.mask m) (k : m.testBit 114 = false) : Field.same .extJournalGen s t := by
  have := congrArg (fun s : State => s.ext.journalGen) h
  simpa only [State.mask, ExtS.blank, Field.same, k, Bool.false_eq_true, if_false] using this

theorem same_rdpReads {m : Nat} {s t : State} (h : t.mask m = s.mask m) (k : m.testBit 115 = false) : Field.same .rdpReads s t := by
  have := congrArg (fun s : State => s.rdp.reads) h
  simpa only [State.mask, ReadPathS.blank, Field.same, k, Bool.false_eq_true, if_false] using this

theorem same_rdpNextId {m : Nat} {s t : State} (h : t.mask m = s.mask m) (k : m.testBit 116 = false) : Field.same .rdpNextId s t := by
  have := congrArg (fun s : State => s.rdp.nextId) h
  simpa only [State.mask, ReadPathS.blank, Field.same, k, Bool.false_eq_true, if_false] using this

theorem same_rdpOrder {m : Nat} {s t : State} (h : t.mask m = s.mask m) (k : m.testBit 117 = false) : Field.same .rdpOrder s t := by
  have := congrArg (fun s : State => s.rdp.order) h
  simpa only [State.mask, ReadPathS.blank, Field.same, k, Bool.false_eq_true, if_false] using this

theorem same_rdpCounts {m : Nat} {s t : State} (h : t.mask m = s.mask m) (k : m.testBit 118 = false) : Field.same .rdpCounts s t := by
  have := congrArg (fun s : State => s.rdp.counts) h
  simpa only [State.mask, ReadPathS.blank, Field.same, k, Bool.false_eq_true, if_false] using this

theorem same_wbEnts {m : Nat} {s t : State} (h : t.mask m = s.mask m) (k : m.testBit 119 = false) : Field.same .wbEnts s t := by
  have := congrArg (fun s : State => s.wb.ents) h
  simpa only [State.mask, WbS.blank, Field.same, k, Bool.false_eq_true, if_false] using this

theorem same_wbUnits {m : Nat} {s t : State} (h : t.mask m = s.mask m) (k : m.testBit 120 = false) : Field.same .wbUnits s t := by
  have := congrArg (fun s : State => s.wb.units) h
  simpa only [State.mask, WbS.blank, Field.same, k, Bool.false_eq_true, if_false] using this

theorem same_wbNextUnit {m : Nat} {s t : State} (h : t.mask m = s.mask m) (k : m.testBit 121 = false) : Field.same .wbNextUnit s t := by
  have := congrArg (fun s : State => s.wb.nextUnit) h
  simpa only [State.mask, WbS.blank, Field.same, k, Bool.false_eq_true, if_false] using this

theorem same_wbInProgram {m : Nat} {s t : State} (h : t.mask m = s.mask m) (k : m.testBit 122 = false) : Field.same .wbInProgram s t := by
  have := congrArg (fun s : State => s.wb.inProgram) h
  simpa only [State.mask, WbS.blank, Field.same, k, Bool.false_eq_true, if_false] using this

theorem same_wbDirty {m : Nat} {s t : State} (h : t.mask m = s.mask m) (k : m.testBit 123 = false) : Field.same .wbDirty s t := by
  have := congrArg (fun s : State => s.wb.dirty) h
  simpa only [State.mask, WbS.blank, Field.same, k, Bool.false_eq_true, if_false] using this

theorem same_wbDurable {m : Nat} {s t : State} (h : t.mask m = s.mask m) (k : m.testBit 124 = false) : Field.same .wbDurable s t := by
  have := congrArg (fun s : State => s.wb.durable) h
  simpa only [State.mask, WbS.blank, Field.same, k, Bool.false_eq_true, if_false] using this

theorem same_wbLastListed {m : Nat} {s t : State} (h : t.mask m = s.mask m) (k : m.testBit 125 = false) : Field.same .wbLastListed s t := by
  have := congrArg (fun s : State => s.wb.lastListed) h
  simpa only [State.mask, WbS.blank, Field.same, k, Bool.false_eq_true, if_false] using this

theorem same_wbWriting {m : Nat} {s t : State} (h : t.mask m = s.mask m) (k : m.testBit 126 = false) : Field.same .wbWriting s t := by
  have := congrArg (fun s : State => s.wb.writing) h
  simpa only [State.mask, WbS.blank, Field.same, k, Bool.false_eq_true, if_false] using this

theorem same_wbLedger {m : Nat} {s t : State} (h : t.mask m = s.mask m) (k : m.testBit 127 = false) : Field.same .wbLedger s t := by
  have := congrArg (fun s : State => s.wb.ledger) h
  simpa only [State.mask, WbS.blank, Field.same, k, Bool.false_eq_true, if_false] using this

theorem same_wbLedgerSeq {m : Nat} {s t : State} (h : t.mask m = s.mask m) (k : m.testBit 128 = false) : Field.same .wbLedgerSeq s t := by
  have := congrArg (fun s : State => s.wb.ledgerSeq) h
  simpa only [State.mask, WbS.blank, Field.same, k, Bool.false_eq_true, if_false] using this

theorem same_wbLedgerNext {m : Nat} {s t : State} (h : t.mask m = s.mask m) (k : m.testBit 129 = false) : Field.same .wbLedgerNext s t := by
  have := congrArg (fun s : State => s.wb.ledgerNext) h
  simpa only [State.mask, WbS.blank, Field.same, k, Bool.false_eq_true, if_false] using this

theorem same_wbDurableSeq {m : Nat} {s t : State} (h : t.mask m = s.mask m) (k : m.testBit 130 = false) : Field.same .wbDurableSeq s t := by
  have := congrArg (fun s : State => s.wb.durableSeq) h
  simpa only [State.mask, WbS.blank, Field.same, k, Bool.false_eq_true, if_false] using this

theorem same_wbHighWater {m : Nat} {s t : State} (h : t.mask m = s.mask m) (k : m.testBit 131 = false) : Field.same .wbHighWater s t := by
  have := congrArg (fun s : State => s.wb.highWater) h
  simpa only [State.mask, WbS.blank, Field.same, k, Bool.false_eq_true, if_false] using this

theorem same_wbCostHeld {m : Nat} {s t : State} (h : t.mask m = s.mask m) (k : m.testBit 132 = false) : Field.same .wbCostHeld s t := by
  have := congrArg (fun s : State => s.wb.costHeld) h
  simpa only [State.mask, WbS.blank, Field.same, k, Bool.false_eq_true, if_false] using this

theorem same_wbLedgerHeld {m : Nat} {s t : State} (h : t.mask m = s.mask m) (k : m.testBit 133 = false) : Field.same .wbLedgerHeld s t := by
  have := congrArg (fun s : State => s.wb.ledgerHeld) h
  simpa only [State.mask, WbS.blank, Field.same, k, Bool.false_eq_true, if_false] using this

theorem same_wbDipHeld {m : Nat} {s t : State} (h : t.mask m = s.mask m) (k : m.testBit 134 = false) : Field.same .wbDipHeld s t := by
  have := congrArg (fun s : State => s.wb.dipHeld) h
  simpa only [State.mask, WbS.blank, Field.same, k, Bool.false_eq_true, if_false] using this

theorem same_wbFlushing {m : Nat} {s t : State} (h : t.mask m = s.mask m) (k : m.testBit 135 = false) : Field.same .wbFlushing s t := by
  have := congrArg (fun s : State => s.wb.flushing) h
  simpa only [State.mask, WbS.blank, Field.same, k, Bool.false_eq_true, if_false] using this

theorem same_wbFlushFrom {m : Nat} {s t : State} (h : t.mask m = s.mask m) (k : m.testBit 136 = false) : Field.same .wbFlushFrom s t := by
  have := congrArg (fun s : State => s.wb.flushFrom) h
  simpa only [State.mask, WbS.blank, Field.same, k, Bool.false_eq_true, if_false] using this

theorem same_wbFlushBroken {m : Nat} {s t : State} (h : t.mask m = s.mask m) (k : m.testBit 137 = false) : Field.same .wbFlushBroken s t := by
  have := congrArg (fun s : State => s.wb.flushBroken) h
  simpa only [State.mask, WbS.blank, Field.same, k, Bool.false_eq_true, if_false] using this

theorem same_wbSinglePairs {m : Nat} {s t : State} (h : t.mask m = s.mask m) (k : m.testBit 138 = false) : Field.same .wbSinglePairs s t := by
  have := congrArg (fun s : State => s.wb.singlePairs) h
  simpa only [State.mask, WbS.blank, Field.same, k, Bool.false_eq_true, if_false] using this

theorem same_wbStarvedCount {m : Nat} {s t : State} (h : t.mask m = s.mask m) (k : m.testBit 139 = false) : Field.same .wbStarvedCount s t := by
  have := congrArg (fun s : State => s.wb.starvedCount) h
  simpa only [State.mask, WbS.blank, Field.same, k, Bool.false_eq_true, if_false] using this

theorem same_wbHostShutdown {m : Nat} {s t : State} (h : t.mask m = s.mask m) (k : m.testBit 140 = false) : Field.same .wbHostShutdown s t := by
  have := congrArg (fun s : State => s.wb.hostShutdown) h
  simpa only [State.mask, WbS.blank, Field.same, k, Bool.false_eq_true, if_false] using this

theorem same_wbLastDirty {m : Nat} {s t : State} (h : t.mask m = s.mask m) (k : m.testBit 141 = false) : Field.same .wbLastDirty s t := by
  have := congrArg (fun s : State => s.wb.lastDirty) h
  simpa only [State.mask, WbS.blank, Field.same, k, Bool.false_eq_true, if_false] using this

theorem same_wbDirtyCount {m : Nat} {s t : State} (h : t.mask m = s.mask m) (k : m.testBit 142 = false) : Field.same .wbDirtyCount s t := by
  have := congrArg (fun s : State => s.wb.dirtyCount) h
  simpa only [State.mask, WbS.blank, Field.same, k, Bool.false_eq_true, if_false] using this

theorem same_wbCounts {m : Nat} {s t : State} (h : t.mask m = s.mask m) (k : m.testBit 143 = false) : Field.same .wbCounts s t := by
  have := congrArg (fun s : State => s.wb.counts) h
  simpa only [State.mask, WbS.blank, Field.same, k, Bool.false_eq_true, if_false] using this

theorem same_medGranules {m : Nat} {s t : State} (h : t.mask m = s.mask m) (k : m.testBit 144 = false) : Field.same .medGranules s t := by
  have := congrArg (fun s : State => s.med.granules) h
  simpa only [State.mask, MediaS.blank, Field.same, k, Bool.false_eq_true, if_false] using this

theorem same_medPlanes {m : Nat} {s t : State} (h : t.mask m = s.mask m) (k : m.testBit 145 = false) : Field.same .medPlanes s t := by
  have := congrArg (fun s : State => s.med.planes) h
  simpa only [State.mask, MediaS.blank, Field.same, k, Bool.false_eq_true, if_false] using this

theorem same_medDies {m : Nat} {s t : State} (h : t.mask m = s.mask m) (k : m.testBit 146 = false) : Field.same .medDies s t := by
  have := congrArg (fun s : State => s.med.dies) h
  simpa only [State.mask, MediaS.blank, Field.same, k, Bool.false_eq_true, if_false] using this

theorem same_medChannels {m : Nat} {s t : State} (h : t.mask m = s.mask m) (k : m.testBit 147 = false) : Field.same .medChannels s t := by
  have := congrArg (fun s : State => s.med.channels) h
  simpa only [State.mask, MediaS.blank, Field.same, k, Bool.false_eq_true, if_false] using this

theorem same_medClearing {m : Nat} {s t : State} (h : t.mask m = s.mask m) (k : m.testBit 148 = false) : Field.same .medClearing s t := by
  have := congrArg (fun s : State => s.med.clearing) h
  simpa only [State.mask, MediaS.blank, Field.same, k, Bool.false_eq_true, if_false] using this

theorem same_medGovernor {m : Nat} {s t : State} (h : t.mask m = s.mask m) (k : m.testBit 149 = false) : Field.same .medGovernor s t := by
  have := congrArg (fun s : State => s.med.governor) h
  simpa only [State.mask, MediaS.blank, Field.same, k, Bool.false_eq_true, if_false] using this

theorem same_medReserved {m : Nat} {s t : State} (h : t.mask m = s.mask m) (k : m.testBit 150 = false) : Field.same .medReserved s t := by
  have := congrArg (fun s : State => s.med.reserved) h
  simpa only [State.mask, MediaS.blank, Field.same, k, Bool.false_eq_true, if_false] using this

theorem same_medWork {m : Nat} {s t : State} (h : t.mask m = s.mask m) (k : m.testBit 151 = false) : Field.same .medWork s t := by
  have := congrArg (fun s : State => s.med.work) h
  simpa only [State.mask, MediaS.blank, Field.same, k, Bool.false_eq_true, if_false] using this

theorem same_medChecks {m : Nat} {s t : State} (h : t.mask m = s.mask m) (k : m.testBit 152 = false) : Field.same .medChecks s t := by
  have := congrArg (fun s : State => s.med.checks) h
  simpa only [State.mask, MediaS.blank, Field.same, k, Bool.false_eq_true, if_false] using this

theorem same_medChecksWear {m : Nat} {s t : State} (h : t.mask m = s.mask m) (k : m.testBit 153 = false) : Field.same .medChecksWear s t := by
  have := congrArg (fun s : State => s.med.checksWear) h
  simpa only [State.mask, MediaS.blank, Field.same, k, Bool.false_eq_true, if_false] using this

theorem same_medFailures {m : Nat} {s t : State} (h : t.mask m = s.mask m) (k : m.testBit 154 = false) : Field.same .medFailures s t := by
  have := congrArg (fun s : State => s.med.failures) h
  simpa only [State.mask, MediaS.blank, Field.same, k, Bool.false_eq_true, if_false] using this

theorem same_trcMap {m : Nat} {s t : State} (h : t.mask m = s.mask m) (k : m.testBit 155 = false) : Field.same .trcMap s t := by
  have := congrArg (fun s : State => s.trc.map) h
  simpa only [State.mask, TractS.blank, Field.same, k, Bool.false_eq_true, if_false] using this

theorem same_trcCkptA {m : Nat} {s t : State} (h : t.mask m = s.mask m) (k : m.testBit 156 = false) : Field.same .trcCkptA s t := by
  have := congrArg (fun s : State => s.trc.ckptA) h
  simpa only [State.mask, TractS.blank, Field.same, k, Bool.false_eq_true, if_false] using this

theorem same_trcCkptB {m : Nat} {s t : State} (h : t.mask m = s.mask m) (k : m.testBit 157 = false) : Field.same .trcCkptB s t := by
  have := congrArg (fun s : State => s.trc.ckptB) h
  simpa only [State.mask, TractS.blank, Field.same, k, Bool.false_eq_true, if_false] using this

theorem same_trcAct {m : Nat} {s t : State} (h : t.mask m = s.mask m) (k : m.testBit 158 = false) : Field.same .trcAct s t := by
  have := congrArg (fun s : State => s.trc.act) h
  simpa only [State.mask, TractS.blank, Field.same, k, Bool.false_eq_true, if_false] using this

theorem same_trcPeak {m : Nat} {s t : State} (h : t.mask m = s.mask m) (k : m.testBit 159 = false) : Field.same .trcPeak s t := by
  have := congrArg (fun s : State => s.trc.peak) h
  simpa only [State.mask, TractS.blank, Field.same, k, Bool.false_eq_true, if_false] using this

theorem same_trcPeakBase {m : Nat} {s t : State} (h : t.mask m = s.mask m) (k : m.testBit 160 = false) : Field.same .trcPeakBase s t := by
  have := congrArg (fun s : State => s.trc.peakBase) h
  simpa only [State.mask, TractS.blank, Field.same, k, Bool.false_eq_true, if_false] using this

theorem same_trcPeakCkpt {m : Nat} {s t : State} (h : t.mask m = s.mask m) (k : m.testBit 161 = false) : Field.same .trcPeakCkpt s t := by
  have := congrArg (fun s : State => s.trc.peakCkpt) h
  simpa only [State.mask, TractS.blank, Field.same, k, Bool.false_eq_true, if_false] using this

theorem same_trcPeakCkptB {m : Nat} {s t : State} (h : t.mask m = s.mask m) (k : m.testBit 162 = false) : Field.same .trcPeakCkptB s t := by
  have := congrArg (fun s : State => s.trc.peakCkptB) h
  simpa only [State.mask, TractS.blank, Field.same, k, Bool.false_eq_true, if_false] using this

theorem same_trcBaseCkpt {m : Nat} {s t : State} (h : t.mask m = s.mask m) (k : m.testBit 163 = false) : Field.same .trcBaseCkpt s t := by
  have := congrArg (fun s : State => s.trc.baseCkpt) h
  simpa only [State.mask, TractS.blank, Field.same, k, Bool.false_eq_true, if_false] using this

theorem same_trcActCkpt {m : Nat} {s t : State} (h : t.mask m = s.mask m) (k : m.testBit 164 = false) : Field.same .trcActCkpt s t := by
  have := congrArg (fun s : State => s.trc.actCkpt) h
  simpa only [State.mask, TractS.blank, Field.same, k, Bool.false_eq_true, if_false] using this

theorem same_trcActCkptB {m : Nat} {s t : State} (h : t.mask m = s.mask m) (k : m.testBit 165 = false) : Field.same .trcActCkptB s t := by
  have := congrArg (fun s : State => s.trc.actCkptB) h
  simpa only [State.mask, TractS.blank, Field.same, k, Bool.false_eq_true, if_false] using this

theorem same_trcDirectory {m : Nat} {s t : State} (h : t.mask m = s.mask m) (k : m.testBit 166 = false) : Field.same .trcDirectory s t := by
  have := congrArg (fun s : State => s.trc.directory) h
  simpa only [State.mask, TractS.blank, Field.same, k, Bool.false_eq_true, if_false] using this

theorem same_trcScans {m : Nat} {s t : State} (h : t.mask m = s.mask m) (k : m.testBit 167 = false) : Field.same .trcScans s t := by
  have := congrArg (fun s : State => s.trc.scans) h
  simpa only [State.mask, TractS.blank, Field.same, k, Bool.false_eq_true, if_false] using this

theorem same_trcCounted {m : Nat} {s t : State} (h : t.mask m = s.mask m) (k : m.testBit 168 = false) : Field.same .trcCounted s t := by
  have := congrArg (fun s : State => s.trc.counted) h
  simpa only [State.mask, TractS.blank, Field.same, k, Bool.false_eq_true, if_false] using this

theorem same_trcEpoch {m : Nat} {s t : State} (h : t.mask m = s.mask m) (k : m.testBit 169 = false) : Field.same .trcEpoch s t := by
  have := congrArg (fun s : State => s.trc.epoch) h
  simpa only [State.mask, TractS.blank, Field.same, k, Bool.false_eq_true, if_false] using this

theorem same_trcDirtyPts {m : Nat} {s t : State} (h : t.mask m = s.mask m) (k : m.testBit 170 = false) : Field.same .trcDirtyPts s t := by
  have := congrArg (fun s : State => s.trc.dirtyPts) h
  simpa only [State.mask, TractS.blank, Field.same, k, Bool.false_eq_true, if_false] using this

theorem same_trcMigs {m : Nat} {s t : State} (h : t.mask m = s.mask m) (k : m.testBit 171 = false) : Field.same .trcMigs s t := by
  have := congrArg (fun s : State => s.trc.migs) h
  simpa only [State.mask, TractS.blank, Field.same, k, Bool.false_eq_true, if_false] using this

theorem same_trcReadsOn {m : Nat} {s t : State} (h : t.mask m = s.mask m) (k : m.testBit 172 = false) : Field.same .trcReadsOn s t := by
  have := congrArg (fun s : State => s.trc.readsOn) h
  simpa only [State.mask, TractS.blank, Field.same, k, Bool.false_eq_true, if_false] using this

theorem same_trcLastRow {m : Nat} {s t : State} (h : t.mask m = s.mask m) (k : m.testBit 173 = false) : Field.same .trcLastRow s t := by
  have := congrArg (fun s : State => s.trc.lastRow) h
  simpa only [State.mask, TractS.blank, Field.same, k, Bool.false_eq_true, if_false] using this

theorem same_trcCompleted {m : Nat} {s t : State} (h : t.mask m = s.mask m) (k : m.testBit 174 = false) : Field.same .trcCompleted s t := by
  have := congrArg (fun s : State => s.trc.completed) h
  simpa only [State.mask, TractS.blank, Field.same, k, Bool.false_eq_true, if_false] using this

theorem same_trcAbandoned {m : Nat} {s t : State} (h : t.mask m = s.mask m) (k : m.testBit 175 = false) : Field.same .trcAbandoned s t := by
  have := congrArg (fun s : State => s.trc.abandoned) h
  simpa only [State.mask, TractS.blank, Field.same, k, Bool.false_eq_true, if_false] using this

theorem same_trcRetired {m : Nat} {s t : State} (h : t.mask m = s.mask m) (k : m.testBit 176 = false) : Field.same .trcRetired s t := by
  have := congrArg (fun s : State => s.trc.retired) h
  simpa only [State.mask, TractS.blank, Field.same, k, Bool.false_eq_true, if_false] using this

theorem same_trcRefreshed {m : Nat} {s t : State} (h : t.mask m = s.mask m) (k : m.testBit 177 = false) : Field.same .trcRefreshed s t := by
  have := congrArg (fun s : State => s.trc.refreshed) h
  simpa only [State.mask, TractS.blank, Field.same, k, Bool.false_eq_true, if_false] using this

theorem same_trcSweep {m : Nat} {s t : State} (h : t.mask m = s.mask m) (k : m.testBit 178 = false) : Field.same .trcSweep s t := by
  have := congrArg (fun s : State => s.trc.sweep) h
  simpa only [State.mask, TractS.blank, Field.same, k, Bool.false_eq_true, if_false] using this

theorem same_trcLastScan {m : Nat} {s t : State} (h : t.mask m = s.mask m) (k : m.testBit 179 = false) : Field.same .trcLastScan s t := by
  have := congrArg (fun s : State => s.trc.lastScan) h
  simpa only [State.mask, TractS.blank, Field.same, k, Bool.false_eq_true, if_false] using this

theorem same_trcDecided {m : Nat} {s t : State} (h : t.mask m = s.mask m) (k : m.testBit 180 = false) : Field.same .trcDecided s t := by
  have := congrArg (fun s : State => s.trc.decided) h
  simpa only [State.mask, TractS.blank, Field.same, k, Bool.false_eq_true, if_false] using this

theorem same_trcCounts {m : Nat} {s t : State} (h : t.mask m = s.mask m) (k : m.testBit 181 = false) : Field.same .trcCounts s t := by
  have := congrArg (fun s : State => s.trc.counts) h
  simpa only [State.mask, TractS.blank, Field.same, k, Bool.false_eq_true, if_false] using this

theorem same_trcSpareRows {m : Nat} {s t : State} (h : t.mask m = s.mask m) (k : m.testBit 182 = false) : Field.same .trcSpareRows s t := by
  have := congrArg (fun s : State => s.trc.spareRows) h
  simpa only [State.mask, TractS.blank, Field.same, k, Bool.false_eq_true, if_false] using this

theorem same_itgBlocks {m : Nat} {s t : State} (h : t.mask m = s.mask m) (k : m.testBit 183 = false) : Field.same .itgBlocks s t := by
  have := congrArg (fun s : State => s.itg.blocks) h
  simpa only [State.mask, IntegS.blank, Field.same, k, Bool.false_eq_true, if_false] using this

theorem same_itgNodes {m : Nat} {s t : State} (h : t.mask m = s.mask m) (k : m.testBit 184 = false) : Field.same .itgNodes s t := by
  have := congrArg (fun s : State => s.itg.nodes) h
  simpa only [State.mask, IntegS.blank, Field.same, k, Bool.false_eq_true, if_false] using this

theorem same_itgRoot {m : Nat} {s t : State} (h : t.mask m = s.mask m) (k : m.testBit 185 = false) : Field.same .itgRoot s t := by
  have := congrArg (fun s : State => s.itg.root) h
  simpa only [State.mask, IntegS.blank, Field.same, k, Bool.false_eq_true, if_false] using this

theorem same_itgCache {m : Nat} {s t : State} (h : t.mask m = s.mask m) (k : m.testBit 186 = false) : Field.same .itgCache s t := by
  have := congrArg (fun s : State => s.itg.cache) h
  simpa only [State.mask, IntegS.blank, Field.same, k, Bool.false_eq_true, if_false] using this

theorem same_itgHigh {m : Nat} {s t : State} (h : t.mask m = s.mask m) (k : m.testBit 187 = false) : Field.same .itgHigh s t := by
  have := congrArg (fun s : State => s.itg.high) h
  simpa only [State.mask, IntegS.blank, Field.same, k, Bool.false_eq_true, if_false] using this

theorem same_itgReserve {m : Nat} {s t : State} (h : t.mask m = s.mask m) (k : m.testBit 188 = false) : Field.same .itgReserve s t := by
  have := congrArg (fun s : State => s.itg.reserve) h
  simpa only [State.mask, IntegS.blank, Field.same, k, Bool.false_eq_true, if_false] using this

theorem same_itgRootState {m : Nat} {s t : State} (h : t.mask m = s.mask m) (k : m.testBit 189 = false) : Field.same .itgRootState s t := by
  have := congrArg (fun s : State => s.itg.rootState) h
  simpa only [State.mask, IntegS.blank, Field.same, k, Bool.false_eq_true, if_false] using this

theorem same_itgRecord {m : Nat} {s t : State} (h : t.mask m = s.mask m) (k : m.testBit 190 = false) : Field.same .itgRecord s t := by
  have := congrArg (fun s : State => s.itg.record) h
  simpa only [State.mask, IntegS.blank, Field.same, k, Bool.false_eq_true, if_false] using this

theorem same_itgAlarms {m : Nat} {s t : State} (h : t.mask m = s.mask m) (k : m.testBit 191 = false) : Field.same .itgAlarms s t := by
  have := congrArg (fun s : State => s.itg.alarms) h
  simpa only [State.mask, IntegS.blank, Field.same, k, Bool.false_eq_true, if_false] using this

theorem same_itgTagFails {m : Nat} {s t : State} (h : t.mask m = s.mask m) (k : m.testBit 192 = false) : Field.same .itgTagFails s t := by
  have := congrArg (fun s : State => s.itg.tagFails) h
  simpa only [State.mask, IntegS.blank, Field.same, k, Bool.false_eq_true, if_false] using this

theorem same_itgRecovered {m : Nat} {s t : State} (h : t.mask m = s.mask m) (k : m.testBit 193 = false) : Field.same .itgRecovered s t := by
  have := congrArg (fun s : State => s.itg.recovered) h
  simpa only [State.mask, IntegS.blank, Field.same, k, Bool.false_eq_true, if_false] using this

theorem same_itgReestablished {m : Nat} {s t : State} (h : t.mask m = s.mask m) (k : m.testBit 194 = false) : Field.same .itgReestablished s t := by
  have := congrArg (fun s : State => s.itg.reestablished) h
  simpa only [State.mask, IntegS.blank, Field.same, k, Bool.false_eq_true, if_false] using this

theorem same_itgActivity {m : Nat} {s t : State} (h : t.mask m = s.mask m) (k : m.testBit 195 = false) : Field.same .itgActivity s t := by
  have := congrArg (fun s : State => s.itg.activity) h
  simpa only [State.mask, IntegS.blank, Field.same, k, Bool.false_eq_true, if_false] using this

theorem same_itgOverflows {m : Nat} {s t : State} (h : t.mask m = s.mask m) (k : m.testBit 196 = false) : Field.same .itgOverflows s t := by
  have := congrArg (fun s : State => s.itg.overflows) h
  simpa only [State.mask, IntegS.blank, Field.same, k, Bool.false_eq_true, if_false] using this

theorem same_itgTreeGen {m : Nat} {s t : State} (h : t.mask m = s.mask m) (k : m.testBit 197 = false) : Field.same .itgTreeGen s t := by
  have := congrArg (fun s : State => s.itg.treeGen) h
  simpa only [State.mask, IntegS.blank, Field.same, k, Bool.false_eq_true, if_false] using this

theorem same_itgRekeyRegion {m : Nat} {s t : State} (h : t.mask m = s.mask m) (k : m.testBit 198 = false) : Field.same .itgRekeyRegion s t := by
  have := congrArg (fun s : State => s.itg.rekeyRegion) h
  simpa only [State.mask, IntegS.blank, Field.same, k, Bool.false_eq_true, if_false] using this

theorem same_itgRekeyState {m : Nat} {s t : State} (h : t.mask m = s.mask m) (k : m.testBit 199 = false) : Field.same .itgRekeyState s t := by
  have := congrArg (fun s : State => s.itg.rekeyState) h
  simpa only [State.mask, IntegS.blank, Field.same, k, Bool.false_eq_true, if_false] using this

theorem same_itgRekeyLeft {m : Nat} {s t : State} (h : t.mask m = s.mask m) (k : m.testBit 200 = false) : Field.same .itgRekeyLeft s t := by
  have := congrArg (fun s : State => s.itg.rekeyLeft) h
  simpa only [State.mask, IntegS.blank, Field.same, k, Bool.false_eq_true, if_false] using this

theorem same_itgRekeyExtents {m : Nat} {s t : State} (h : t.mask m = s.mask m) (k : m.testBit 201 = false) : Field.same .itgRekeyExtents s t := by
  have := congrArg (fun s : State => s.itg.rekeyExtents) h
  simpa only [State.mask, IntegS.blank, Field.same, k, Bool.false_eq_true, if_false] using this

theorem same_itgRekeySlot {m : Nat} {s t : State} (h : t.mask m = s.mask m) (k : m.testBit 202 = false) : Field.same .itgRekeySlot s t := by
  have := congrArg (fun s : State => s.itg.rekeySlot) h
  simpa only [State.mask, IntegS.blank, Field.same, k, Bool.false_eq_true, if_false] using this

theorem same_itgWindows {m : Nat} {s t : State} (h : t.mask m = s.mask m) (k : m.testBit 203 = false) : Field.same .itgWindows s t := by
  have := congrArg (fun s : State => s.itg.windows) h
  simpa only [State.mask, IntegS.blank, Field.same, k, Bool.false_eq_true, if_false] using this

theorem same_itgCounts {m : Nat} {s t : State} (h : t.mask m = s.mask m) (k : m.testBit 204 = false) : Field.same .itgCounts s t := by
  have := congrArg (fun s : State => s.itg.counts) h
  simpa only [State.mask, IntegS.blank, Field.same, k, Bool.false_eq_true, if_false] using this

theorem same_scrEcc {m : Nat} {s t : State} (h : t.mask m = s.mask m) (k : m.testBit 205 = false) : Field.same .scrEcc s t := by
  have := congrArg (fun s : State => s.scr.ecc) h
  simpa only [State.mask, ScrubS.blank, Field.same, k, Bool.false_eq_true, if_false] using this

theorem same_scrRewrite {m : Nat} {s t : State} (h : t.mask m = s.mask m) (k : m.testBit 206 = false) : Field.same .scrRewrite s t := by
  have := congrArg (fun s : State => s.scr.rewrite) h
  simpa only [State.mask, ScrubS.blank, Field.same, k, Bool.false_eq_true, if_false] using this

theorem same_scrHeaderRepairs {m : Nat} {s t : State} (h : t.mask m = s.mask m) (k : m.testBit 207 = false) : Field.same .scrHeaderRepairs s t := by
  have := congrArg (fun s : State => s.scr.headerRepairs) h
  simpa only [State.mask, ScrubS.blank, Field.same, k, Bool.false_eq_true, if_false] using this

theorem same_scrSelfTest {m : Nat} {s t : State} (h : t.mask m = s.mask m) (k : m.testBit 208 = false) : Field.same .scrSelfTest s t := by
  have := congrArg (fun s : State => s.scr.selfTest) h
  simpa only [State.mask, ScrubS.blank, Field.same, k, Bool.false_eq_true, if_false] using this

theorem same_scrSelfTestAt {m : Nat} {s t : State} (h : t.mask m = s.mask m) (k : m.testBit 209 = false) : Field.same .scrSelfTestAt s t := by
  have := congrArg (fun s : State => s.scr.selfTestAt) h
  simpa only [State.mask, ScrubS.blank, Field.same, k, Bool.false_eq_true, if_false] using this

theorem same_scrPatrol {m : Nat} {s t : State} (h : t.mask m = s.mask m) (k : m.testBit 210 = false) : Field.same .scrPatrol s t := by
  have := congrArg (fun s : State => s.scr.patrol) h
  simpa only [State.mask, ScrubS.blank, Field.same, k, Bool.false_eq_true, if_false] using this

theorem same_scrPasses {m : Nat} {s t : State} (h : t.mask m = s.mask m) (k : m.testBit 211 = false) : Field.same .scrPasses s t := by
  have := congrArg (fun s : State => s.scr.passes) h
  simpa only [State.mask, ScrubS.blank, Field.same, k, Bool.false_eq_true, if_false] using this

theorem same_scrRebuilds {m : Nat} {s t : State} (h : t.mask m = s.mask m) (k : m.testBit 212 = false) : Field.same .scrRebuilds s t := by
  have := congrArg (fun s : State => s.scr.rebuilds) h
  simpa only [State.mask, ScrubS.blank, Field.same, k, Bool.false_eq_true, if_false] using this

theorem same_scrEngines {m : Nat} {s t : State} (h : t.mask m = s.mask m) (k : m.testBit 213 = false) : Field.same .scrEngines s t := by
  have := congrArg (fun s : State => s.scr.engines) h
  simpa only [State.mask, ScrubS.blank, Field.same, k, Bool.false_eq_true, if_false] using this

theorem same_scrParity {m : Nat} {s t : State} (h : t.mask m = s.mask m) (k : m.testBit 214 = false) : Field.same .scrParity s t := by
  have := congrArg (fun s : State => s.scr.parity) h
  simpa only [State.mask, ScrubS.blank, Field.same, k, Bool.false_eq_true, if_false] using this

theorem same_stgSrams {m : Nat} {s t : State} (h : t.mask m = s.mask m) (k : m.testBit 215 = false) : Field.same .stgSrams s t := by
  have := congrArg (fun s : State => s.stg.srams) h
  simpa only [State.mask, StagingS.blank, Field.same, k, Bool.false_eq_true, if_false] using this

theorem same_stgParityDue {m : Nat} {s t : State} (h : t.mask m = s.mask m) (k : m.testBit 216 = false) : Field.same .stgParityDue s t := by
  have := congrArg (fun s : State => s.stg.parityDue) h
  simpa only [State.mask, StagingS.blank, Field.same, k, Bool.false_eq_true, if_false] using this

theorem same_stgBandDue {m : Nat} {s t : State} (h : t.mask m = s.mask m) (k : m.testBit 217 = false) : Field.same .stgBandDue s t := by
  have := congrArg (fun s : State => s.stg.bandDue) h
  simpa only [State.mask, StagingS.blank, Field.same, k, Bool.false_eq_true, if_false] using this

theorem same_stgRestoring {m : Nat} {s t : State} (h : t.mask m = s.mask m) (k : m.testBit 218 = false) : Field.same .stgRestoring s t := by
  have := congrArg (fun s : State => s.stg.restoring) h
  simpa only [State.mask, StagingS.blank, Field.same, k, Bool.false_eq_true, if_false] using this

theorem same_stgParity {m : Nat} {s t : State} (h : t.mask m = s.mask m) (k : m.testBit 219 = false) : Field.same .stgParity s t := by
  have := congrArg (fun s : State => s.stg.parity) h
  simpa only [State.mask, StagingS.blank, Field.same, k, Bool.false_eq_true, if_false] using this

theorem same_fltQueue {m : Nat} {s t : State} (h : t.mask m = s.mask m) (k : m.testBit 220 = false) : Field.same .fltQueue s t := by
  have := congrArg (fun s : State => s.flt.queue) h
  simpa only [State.mask, FaultS.blank, Field.same, k, Bool.false_eq_true, if_false] using this

theorem same_fltLost {m : Nat} {s t : State} (h : t.mask m = s.mask m) (k : m.testBit 221 = false) : Field.same .fltLost s t := by
  have := congrArg (fun s : State => s.flt.lost) h
  simpa only [State.mask, FaultS.blank, Field.same, k, Bool.false_eq_true, if_false] using this

theorem same_fltOverflow {m : Nat} {s t : State} (h : t.mask m = s.mask m) (k : m.testBit 222 = false) : Field.same .fltOverflow s t := by
  have := congrArg (fun s : State => s.flt.overflow) h
  simpa only [State.mask, FaultS.blank, Field.same, k, Bool.false_eq_true, if_false] using this

theorem same_fltHighMark {m : Nat} {s t : State} (h : t.mask m = s.mask m) (k : m.testBit 223 = false) : Field.same .fltHighMark s t := by
  have := congrArg (fun s : State => s.flt.highMark) h
  simpa only [State.mask, FaultS.blank, Field.same, k, Bool.false_eq_true, if_false] using this

theorem same_fltTaken {m : Nat} {s t : State} (h : t.mask m = s.mask m) (k : m.testBit 224 = false) : Field.same .fltTaken s t := by
  have := congrArg (fun s : State => s.flt.taken) h
  simpa only [State.mask, FaultS.blank, Field.same, k, Bool.false_eq_true, if_false] using this

theorem same_fltClasses {m : Nat} {s t : State} (h : t.mask m = s.mask m) (k : m.testBit 225 = false) : Field.same .fltClasses s t := by
  have := congrArg (fun s : State => s.flt.classes) h
  simpa only [State.mask, FaultS.blank, Field.same, k, Bool.false_eq_true, if_false] using this

theorem same_fltSticky {m : Nat} {s t : State} (h : t.mask m = s.mask m) (k : m.testBit 226 = false) : Field.same .fltSticky s t := by
  have := congrArg (fun s : State => s.flt.sticky) h
  simpa only [State.mask, FaultS.blank, Field.same, k, Bool.false_eq_true, if_false] using this

theorem same_fltStickyDue {m : Nat} {s t : State} (h : t.mask m = s.mask m) (k : m.testBit 227 = false) : Field.same .fltStickyDue s t := by
  have := congrArg (fun s : State => s.flt.stickyDue) h
  simpa only [State.mask, FaultS.blank, Field.same, k, Bool.false_eq_true, if_false] using this

theorem same_fltStickyAgain {m : Nat} {s t : State} (h : t.mask m = s.mask m) (k : m.testBit 228 = false) : Field.same .fltStickyAgain s t := by
  have := congrArg (fun s : State => s.flt.stickyAgain) h
  simpa only [State.mask, FaultS.blank, Field.same, k, Bool.false_eq_true, if_false] using this

theorem same_fltUnits {m : Nat} {s t : State} (h : t.mask m = s.mask m) (k : m.testBit 229 = false) : Field.same .fltUnits s t := by
  have := congrArg (fun s : State => s.flt.units) h
  simpa only [State.mask, FaultS.blank, Field.same, k, Bool.false_eq_true, if_false] using this

theorem same_fltSources {m : Nat} {s t : State} (h : t.mask m = s.mask m) (k : m.testBit 230 = false) : Field.same .fltSources s t := by
  have := congrArg (fun s : State => s.flt.sources) h
  simpa only [State.mask, FaultS.blank, Field.same, k, Bool.false_eq_true, if_false] using this

theorem same_fltFences {m : Nat} {s t : State} (h : t.mask m = s.mask m) (k : m.testBit 231 = false) : Field.same .fltFences s t := by
  have := congrArg (fun s : State => s.flt.fences) h
  simpa only [State.mask, FaultS.blank, Field.same, k, Bool.false_eq_true, if_false] using this

theorem same_fltLastC3 {m : Nat} {s t : State} (h : t.mask m = s.mask m) (k : m.testBit 232 = false) : Field.same .fltLastC3 s t := by
  have := congrArg (fun s : State => s.flt.lastC3) h
  simpa only [State.mask, FaultS.blank, Field.same, k, Bool.false_eq_true, if_false] using this

theorem same_fltLastC3At {m : Nat} {s t : State} (h : t.mask m = s.mask m) (k : m.testBit 233 = false) : Field.same .fltLastC3At s t := by
  have := congrArg (fun s : State => s.flt.lastC3At) h
  simpa only [State.mask, FaultS.blank, Field.same, k, Bool.false_eq_true, if_false] using this

theorem same_fltLastC3Cycle {m : Nat} {s t : State} (h : t.mask m = s.mask m) (k : m.testBit 234 = false) : Field.same .fltLastC3Cycle s t := by
  have := congrArg (fun s : State => s.flt.lastC3Cycle) h
  simpa only [State.mask, FaultS.blank, Field.same, k, Bool.false_eq_true, if_false] using this

theorem same_fltCmdSlots {m : Nat} {s t : State} (h : t.mask m = s.mask m) (k : m.testBit 235 = false) : Field.same .fltCmdSlots s t := by
  have := congrArg (fun s : State => s.flt.cmdSlots) h
  simpa only [State.mask, FaultS.blank, Field.same, k, Bool.false_eq_true, if_false] using this

theorem same_easyState {m : Nat} {s t : State} (h : t.mask m = s.mask m) (k : m.testBit 236 = false) : Field.same .easyState s t := by
  have := congrArg (fun s : State => s.easy.state) h
  simpa only [State.mask, EasyS.blank, Field.same, k, Bool.false_eq_true, if_false] using this

theorem same_easyCauses {m : Nat} {s t : State} (h : t.mask m = s.mask m) (k : m.testBit 237 = false) : Field.same .easyCauses s t := by
  have := congrArg (fun s : State => s.easy.causes) h
  simpa only [State.mask, EasyS.blank, Field.same, k, Bool.false_eq_true, if_false] using this

theorem same_easyEntries {m : Nat} {s t : State} (h : t.mask m = s.mask m) (k : m.testBit 238 = false) : Field.same .easyEntries s t := by
  have := congrArg (fun s : State => s.easy.entries) h
  simpa only [State.mask, EasyS.blank, Field.same, k, Bool.false_eq_true, if_false] using this

theorem same_easyVolatileEntries {m : Nat} {s t : State} (h : t.mask m = s.mask m) (k : m.testBit 239 = false) : Field.same .easyVolatileEntries s t := by
  have := congrArg (fun s : State => s.easy.volatileEntries) h
  simpa only [State.mask, EasyS.blank, Field.same, k, Bool.false_eq_true, if_false] using this

theorem same_easyStopUnits {m : Nat} {s t : State} (h : t.mask m = s.mask m) (k : m.testBit 240 = false) : Field.same .easyStopUnits s t := by
  have := congrArg (fun s : State => s.easy.stopUnits) h
  simpa only [State.mask, EasyS.blank, Field.same, k, Bool.false_eq_true, if_false] using this

theorem same_easyThenDown {m : Nat} {s t : State} (h : t.mask m = s.mask m) (k : m.testBit 241 = false) : Field.same .easyThenDown s t := by
  have := congrArg (fun s : State => s.easy.thenDown) h
  simpa only [State.mask, EasyS.blank, Field.same, k, Bool.false_eq_true, if_false] using this

theorem same_easySlots {m : Nat} {s t : State} (h : t.mask m = s.mask m) (k : m.testBit 242 = false) : Field.same .easySlots s t := by
  have := congrArg (fun s : State => s.easy.slots) h
  simpa only [State.mask, EasyS.blank, Field.same, k, Bool.false_eq_true, if_false] using this

theorem same_strPhase {m : Nat} {s t : State} (h : t.mask m = s.mask m) (k : m.testBit 243 = false) : Field.same .strPhase s t := by
  have := congrArg (fun s : State => s.str.phase) h
  simpa only [State.mask, StartS.blank, Field.same, k, Bool.false_eq_true, if_false] using this

theorem same_strKind {m : Nat} {s t : State} (h : t.mask m = s.mask m) (k : m.testBit 244 = false) : Field.same .strKind s t := by
  have := congrArg (fun s : State => s.str.kind) h
  simpa only [State.mask, StartS.blank, Field.same, k, Bool.false_eq_true, if_false] using this

theorem same_strClean {m : Nat} {s t : State} (h : t.mask m = s.mask m) (k : m.testBit 245 = false) : Field.same .strClean s t := by
  have := congrArg (fun s : State => s.str.clean) h
  simpa only [State.mask, StartS.blank, Field.same, k, Bool.false_eq_true, if_false] using this

theorem same_strMapsLoaded {m : Nat} {s t : State} (h : t.mask m = s.mask m) (k : m.testBit 246 = false) : Field.same .strMapsLoaded s t := by
  have := congrArg (fun s : State => s.str.mapsLoaded) h
  simpa only [State.mask, StartS.blank, Field.same, k, Bool.false_eq_true, if_false] using this

theorem same_strRootDone {m : Nat} {s t : State} (h : t.mask m = s.mask m) (k : m.testBit 247 = false) : Field.same .strRootDone s t := by
  have := congrArg (fun s : State => s.str.rootDone) h
  simpa only [State.mask, StartS.blank, Field.same, k, Bool.false_eq_true, if_false] using this

theorem same_strPowered {m : Nat} {s t : State} (h : t.mask m = s.mask m) (k : m.testBit 248 = false) : Field.same .strPowered s t := by
  have := congrArg (fun s : State => s.str.powered) h
  simpa only [State.mask, StartS.blank, Field.same, k, Bool.false_eq_true, if_false] using this

theorem same_strReview {m : Nat} {s t : State} (h : t.mask m = s.mask m) (k : m.testBit 249 = false) : Field.same .strReview s t := by
  have := congrArg (fun s : State => s.str.review) h
  simpa only [State.mask, StartS.blank, Field.same, k, Bool.false_eq_true, if_false] using this

theorem same_strKeelFailed {m : Nat} {s t : State} (h : t.mask m = s.mask m) (k : m.testBit 250 = false) : Field.same .strKeelFailed s t := by
  have := congrArg (fun s : State => s.str.keelFailed) h
  simpa only [State.mask, StartS.blank, Field.same, k, Bool.false_eq_true, if_false] using this

theorem same_strDataReady {m : Nat} {s t : State} (h : t.mask m = s.mask m) (k : m.testBit 251 = false) : Field.same .strDataReady s t := by
  have := congrArg (fun s : State => s.str.dataReady) h
  simpa only [State.mask, StartS.blank, Field.same, k, Bool.false_eq_true, if_false] using this

theorem same_strBegan {m : Nat} {s t : State} (h : t.mask m = s.mask m) (k : m.testBit 252 = false) : Field.same .strBegan s t := by
  have := congrArg (fun s : State => s.str.began) h
  simpa only [State.mask, StartS.blank, Field.same, k, Bool.false_eq_true, if_false] using this

theorem same_strOrigin {m : Nat} {s t : State} (h : t.mask m = s.mask m) (k : m.testBit 253 = false) : Field.same .strOrigin s t := by
  have := congrArg (fun s : State => s.str.origin) h
  simpa only [State.mask, StartS.blank, Field.same, k, Bool.false_eq_true, if_false] using this

theorem same_strTimes {m : Nat} {s t : State} (h : t.mask m = s.mask m) (k : m.testBit 254 = false) : Field.same .strTimes s t := by
  have := congrArg (fun s : State => s.str.times) h
  simpa only [State.mask, StartS.blank, Field.same, k, Bool.false_eq_true, if_false] using this

theorem same_strRootSlot {m : Nat} {s t : State} (h : t.mask m = s.mask m) (k : m.testBit 255 = false) : Field.same .strRootSlot s t := by
  have := congrArg (fun s : State => s.str.rootSlot) h
  simpa only [State.mask, StartS.blank, Field.same, k, Bool.false_eq_true, if_false] using this

theorem same_coxState {m : Nat} {s t : State} (h : t.mask m = s.mask m) (k : m.testBit 256 = false) : Field.same .coxState s t := by
  have := congrArg (fun s : State => s.cox.state) h
  simpa only [State.mask, CoxS.blank, Field.same, k, Bool.false_eq_true, if_false] using this

theorem same_coxDead {m : Nat} {s t : State} (h : t.mask m = s.mask m) (k : m.testBit 257 = false) : Field.same .coxDead s t := by
  have := congrArg (fun s : State => s.cox.dead) h
  simpa only [State.mask, CoxS.blank, Field.same, k, Bool.false_eq_true, if_false] using this

theorem same_coxIScratch {m : Nat} {s t : State} (h : t.mask m = s.mask m) (k : m.testBit 258 = false) : Field.same .coxIScratch s t := by
  have := congrArg (fun s : State => s.cox.iScratch) h
  simpa only [State.mask, CoxS.blank, Field.same, k, Bool.false_eq_true, if_false] using this

theorem same_coxDScratch {m : Nat} {s t : State} (h : t.mask m = s.mask m) (k : m.testBit 259 = false) : Field.same .coxDScratch s t := by
  have := congrArg (fun s : State => s.cox.dScratch) h
  simpa only [State.mask, CoxS.blank, Field.same, k, Bool.false_eq_true, if_false] using this

theorem same_coxICache {m : Nat} {s t : State} (h : t.mask m = s.mask m) (k : m.testBit 260 = false) : Field.same .coxICache s t := by
  have := congrArg (fun s : State => s.cox.iCache) h
  simpa only [State.mask, CoxS.blank, Field.same, k, Bool.false_eq_true, if_false] using this

theorem same_coxDCache {m : Nat} {s t : State} (h : t.mask m = s.mask m) (k : m.testBit 261 = false) : Field.same .coxDCache s t := by
  have := congrArg (fun s : State => s.cox.dCache) h
  simpa only [State.mask, CoxS.blank, Field.same, k, Bool.false_eq_true, if_false] using this

theorem same_coxWatchdogMs {m : Nat} {s t : State} (h : t.mask m = s.mask m) (k : m.testBit 262 = false) : Field.same .coxWatchdogMs s t := by
  have := congrArg (fun s : State => s.cox.watchdogMs) h
  simpa only [State.mask, CoxS.blank, Field.same, k, Bool.false_eq_true, if_false] using this

theorem same_coxResets {m : Nat} {s t : State} (h : t.mask m = s.mask m) (k : m.testBit 263 = false) : Field.same .coxResets s t := by
  have := congrArg (fun s : State => s.cox.resets) h
  simpa only [State.mask, CoxS.blank, Field.same, k, Bool.false_eq_true, if_false] using this

theorem same_coxLastReset {m : Nat} {s t : State} (h : t.mask m = s.mask m) (k : m.testBit 264 = false) : Field.same .coxLastReset s t := by
  have := congrArg (fun s : State => s.cox.lastReset) h
  simpa only [State.mask, CoxS.blank, Field.same, k, Bool.false_eq_true, if_false] using this

theorem same_coxOrphan {m : Nat} {s t : State} (h : t.mask m = s.mask m) (k : m.testBit 265 = false) : Field.same .coxOrphan s t := by
  have := congrArg (fun s : State => s.cox.orphan) h
  simpa only [State.mask, CoxS.blank, Field.same, k, Bool.false_eq_true, if_false] using this

theorem same_coxOrphanLimit {m : Nat} {s t : State} (h : t.mask m = s.mask m) (k : m.testBit 266 = false) : Field.same .coxOrphanLimit s t := by
  have := congrArg (fun s : State => s.cox.orphanLimit) h
  simpa only [State.mask, CoxS.blank, Field.same, k, Bool.false_eq_true, if_false] using this

theorem same_coxLastOrphan {m : Nat} {s t : State} (h : t.mask m = s.mask m) (k : m.testBit 267 = false) : Field.same .coxLastOrphan s t := by
  have := congrArg (fun s : State => s.cox.lastOrphan) h
  simpa only [State.mask, CoxS.blank, Field.same, k, Bool.false_eq_true, if_false] using this

theorem same_coxOrphanLostAt {m : Nat} {s t : State} (h : t.mask m = s.mask m) (k : m.testBit 268 = false) : Field.same .coxOrphanLostAt s t := by
  have := congrArg (fun s : State => s.cox.orphanLostAt) h
  simpa only [State.mask, CoxS.blank, Field.same, k, Bool.false_eq_true, if_false] using this

theorem same_coxReadyAt {m : Nat} {s t : State} (h : t.mask m = s.mask m) (k : m.testBit 269 = false) : Field.same .coxReadyAt s t := by
  have := congrArg (fun s : State => s.cox.readyAt) h
  simpa only [State.mask, CoxS.blank, Field.same, k, Bool.false_eq_true, if_false] using this

theorem same_coxResetAt {m : Nat} {s t : State} (h : t.mask m = s.mask m) (k : m.testBit 270 = false) : Field.same .coxResetAt s t := by
  have := congrArg (fun s : State => s.cox.resetAt) h
  simpa only [State.mask, CoxS.blank, Field.same, k, Bool.false_eq_true, if_false] using this

theorem same_coxByWatchdog {m : Nat} {s t : State} (h : t.mask m = s.mask m) (k : m.testBit 271 = false) : Field.same .coxByWatchdog s t := by
  have := congrArg (fun s : State => s.cox.byWatchdog) h
  simpa only [State.mask, CoxS.blank, Field.same, k, Bool.false_eq_true, if_false] using this

theorem same_coxByActivate {m : Nat} {s t : State} (h : t.mask m = s.mask m) (k : m.testBit 272 = false) : Field.same .coxByActivate s t := by
  have := congrArg (fun s : State => s.cox.byActivate) h
  simpa only [State.mask, CoxS.blank, Field.same, k, Bool.false_eq_true, if_false] using this

theorem same_coxStartCause {m : Nat} {s t : State} (h : t.mask m = s.mask m) (k : m.testBit 273 = false) : Field.same .coxStartCause s t := by
  have := congrArg (fun s : State => s.cox.startCause) h
  simpa only [State.mask, CoxS.blank, Field.same, k, Bool.false_eq_true, if_false] using this

theorem same_coxOptions {m : Nat} {s t : State} (h : t.mask m = s.mask m) (k : m.testBit 274 = false) : Field.same .coxOptions s t := by
  have := congrArg (fun s : State => s.cox.options) h
  simpa only [State.mask, CoxS.blank, Field.same, k, Bool.false_eq_true, if_false] using this

theorem same_coxOptionState {m : Nat} {s t : State} (h : t.mask m = s.mask m) (k : m.testBit 275 = false) : Field.same .coxOptionState s t := by
  have := congrArg (fun s : State => s.cox.optionState) h
  simpa only [State.mask, CoxS.blank, Field.same, k, Bool.false_eq_true, if_false] using this

theorem same_flsRunning {m : Nat} {s t : State} (h : t.mask m = s.mask m) (k : m.testBit 276 = false) : Field.same .flsRunning s t := by
  have := congrArg (fun s : State => s.fls.running) h
  simpa only [State.mask, FlashS.blank, Field.same, k, Bool.false_eq_true, if_false] using this

theorem same_flsStartedAt {m : Nat} {s t : State} (h : t.mask m = s.mask m) (k : m.testBit 277 = false) : Field.same .flsStartedAt s t := by
  have := congrArg (fun s : State => s.fls.startedAt) h
  simpa only [State.mask, FlashS.blank, Field.same, k, Bool.false_eq_true, if_false] using this

theorem same_flsSuspended {m : Nat} {s t : State} (h : t.mask m = s.mask m) (k : m.testBit 278 = false) : Field.same .flsSuspended s t := by
  have := congrArg (fun s : State => s.fls.suspended) h
  simpa only [State.mask, FlashS.blank, Field.same, k, Bool.false_eq_true, if_false] using this

theorem same_flsDepth {m : Nat} {s t : State} (h : t.mask m = s.mask m) (k : m.testBit 279 = false) : Field.same .flsDepth s t := by
  have := congrArg (fun s : State => s.fls.depth) h
  simpa only [State.mask, FlashS.blank, Field.same, k, Bool.false_eq_true, if_false] using this

theorem same_flsRan {m : Nat} {s t : State} (h : t.mask m = s.mask m) (k : m.testBit 280 = false) : Field.same .flsRan s t := by
  have := congrArg (fun s : State => s.fls.ran) h
  simpa only [State.mask, FlashS.blank, Field.same, k, Bool.false_eq_true, if_false] using this

theorem same_flsMinimumRun {m : Nat} {s t : State} (h : t.mask m = s.mask m) (k : m.testBit 281 = false) : Field.same .flsMinimumRun s t := by
  have := congrArg (fun s : State => s.fls.minimumRun) h
  simpa only [State.mask, FlashS.blank, Field.same, k, Bool.false_eq_true, if_false] using this

theorem same_flsQueue {m : Nat} {s t : State} (h : t.mask m = s.mask m) (k : m.testBit 282 = false) : Field.same .flsQueue s t := by
  have := congrArg (fun s : State => s.fls.queue) h
  simpa only [State.mask, FlashS.blank, Field.same, k, Bool.false_eq_true, if_false] using this

theorem same_flsFlags {m : Nat} {s t : State} (h : t.mask m = s.mask m) (k : m.testBit 283 = false) : Field.same .flsFlags s t := by
  have := congrArg (fun s : State => s.fls.flags) h
  simpa only [State.mask, FlashS.blank, Field.same, k, Bool.false_eq_true, if_false] using this

theorem same_flsCounts {m : Nat} {s t : State} (h : t.mask m = s.mask m) (k : m.testBit 284 = false) : Field.same .flsCounts s t := by
  have := congrArg (fun s : State => s.fls.counts) h
  simpa only [State.mask, FlashS.blank, Field.same, k, Bool.false_eq_true, if_false] using this

theorem same_flsOptionWords {m : Nat} {s t : State} (h : t.mask m = s.mask m) (k : m.testBit 285 = false) : Field.same .flsOptionWords s t := by
  have := congrArg (fun s : State => s.fls.optionWords) h
  simpa only [State.mask, FlashS.blank, Field.same, k, Bool.false_eq_true, if_false] using this

theorem same_flsOptionWrite {m : Nat} {s t : State} (h : t.mask m = s.mask m) (k : m.testBit 286 = false) : Field.same .flsOptionWrite s t := by
  have := congrArg (fun s : State => s.fls.optionWrite) h
  simpa only [State.mask, FlashS.blank, Field.same, k, Bool.false_eq_true, if_false] using this

theorem same_flsOptionCut {m : Nat} {s t : State} (h : t.mask m = s.mask m) (k : m.testBit 287 = false) : Field.same .flsOptionCut s t := by
  have := congrArg (fun s : State => s.fls.optionCut) h
  simpa only [State.mask, FlashS.blank, Field.same, k, Bool.false_eq_true, if_false] using this

theorem same_imgA {m : Nat} {s t : State} (h : t.mask m = s.mask m) (k : m.testBit 288 = false) : Field.same .imgA s t := by
  have := congrArg (fun s : State => s.img.a) h
  simpa only [State.mask, ImagesS.blank, Field.same, k, Bool.false_eq_true, if_false] using this

theorem same_imgB {m : Nat} {s t : State} (h : t.mask m = s.mask m) (k : m.testBit 289 = false) : Field.same .imgB s t := by
  have := congrArg (fun s : State => s.img.b) h
  simpa only [State.mask, ImagesS.blank, Field.same, k, Bool.false_eq_true, if_false] using this

theorem same_imgActiveB {m : Nat} {s t : State} (h : t.mask m = s.mask m) (k : m.testBit 290 = false) : Field.same .imgActiveB s t := by
  have := congrArg (fun s : State => s.img.activeB) h
  simpa only [State.mask, ImagesS.blank, Field.same, k, Bool.false_eq_true, if_false] using this

theorem same_imgTrial {m : Nat} {s t : State} (h : t.mask m = s.mask m) (k : m.testBit 291 = false) : Field.same .imgTrial s t := by
  have := congrArg (fun s : State => s.img.trial) h
  simpa only [State.mask, ImagesS.blank, Field.same, k, Bool.false_eq_true, if_false] using this

theorem same_imgAttempts {m : Nat} {s t : State} (h : t.mask m = s.mask m) (k : m.testBit 292 = false) : Field.same .imgAttempts s t := by
  have := congrArg (fun s : State => s.img.attempts) h
  simpa only [State.mask, ImagesS.blank, Field.same, k, Bool.false_eq_true, if_false] using this

theorem same_imgRunsB {m : Nat} {s t : State} (h : t.mask m = s.mask m) (k : m.testBit 293 = false) : Field.same .imgRunsB s t := by
  have := congrArg (fun s : State => s.img.runsB) h
  simpa only [State.mask, ImagesS.blank, Field.same, k, Bool.false_eq_true, if_false] using this

theorem same_imgSlot {m : Nat} {s t : State} (h : t.mask m = s.mask m) (k : m.testBit 294 = false) : Field.same .imgSlot s t := by
  have := congrArg (fun s : State => s.img.slot) h
  simpa only [State.mask, ImagesS.blank, Field.same, k, Bool.false_eq_true, if_false] using this

theorem same_imgActivateSlot {m : Nat} {s t : State} (h : t.mask m = s.mask m) (k : m.testBit 295 = false) : Field.same .imgActivateSlot s t := by
  have := congrArg (fun s : State => s.img.activateSlot) h
  simpa only [State.mask, ImagesS.blank, Field.same, k, Bool.false_eq_true, if_false] using this

theorem same_parBp {m : Nat} {s t : State} (h : t.mask m = s.mask m) (k : m.testBit 296 = false) : Field.same .parBp s t := by
  have := congrArg (fun s : State => s.par.bp) h
  simpa only [State.mask, ParamS.blank, Field.same, k, Bool.false_eq_true, if_false] using this

theorem same_parQueue {m : Nat} {s t : State} (h : t.mask m = s.mask m) (k : m.testBit 297 = false) : Field.same .parQueue s t := by
  have := congrArg (fun s : State => s.par.queue) h
  simpa only [State.mask, ParamS.blank, Field.same, k, Bool.false_eq_true, if_false] using this

theorem same_parRetired {m : Nat} {s t : State} (h : t.mask m = s.mask m) (k : m.testBit 298 = false) : Field.same .parRetired s t := by
  have := congrArg (fun s : State => s.par.retired) h
  simpa only [State.mask, ParamS.blank, Field.same, k, Bool.false_eq_true, if_false] using this

theorem same_parSpares {m : Nat} {s t : State} (h : t.mask m = s.mask m) (k : m.testBit 299 = false) : Field.same .parSpares s t := by
  have := congrArg (fun s : State => s.par.spares) h
  simpa only [State.mask, ParamS.blank, Field.same, k, Bool.false_eq_true, if_false] using this

theorem same_parLost {m : Nat} {s t : State} (h : t.mask m = s.mask m) (k : m.testBit 300 = false) : Field.same .parLost s t := by
  have := congrArg (fun s : State => s.par.lost) h
  simpa only [State.mask, ParamS.blank, Field.same, k, Bool.false_eq_true, if_false] using this

theorem same_parSeqs {m : Nat} {s t : State} (h : t.mask m = s.mask m) (k : m.testBit 301 = false) : Field.same .parSeqs s t := by
  have := congrArg (fun s : State => s.par.seqs) h
  simpa only [State.mask, ParamS.blank, Field.same, k, Bool.false_eq_true, if_false] using this

theorem same_parWrites {m : Nat} {s t : State} (h : t.mask m = s.mask m) (k : m.testBit 302 = false) : Field.same .parWrites s t := by
  have := congrArg (fun s : State => s.par.writes) h
  simpa only [State.mask, ParamS.blank, Field.same, k, Bool.false_eq_true, if_false] using this

theorem same_logStaged {m : Nat} {s t : State} (h : t.mask m = s.mask m) (k : m.testBit 303 = false) : Field.same .logStaged s t := by
  have := congrArg (fun s : State => s.log.staged) h
  simpa only [State.mask, LogS.blank, Field.same, k, Bool.false_eq_true, if_false] using this

theorem same_logAreaC {m : Nat} {s t : State} (h : t.mask m = s.mask m) (k : m.testBit 304 = false) : Field.same .logAreaC s t := by
  have := congrArg (fun s : State => s.log.areaC) h
  simpa only [State.mask, LogS.blank, Field.same, k, Bool.false_eq_true, if_false] using this

theorem same_logAreaF {m : Nat} {s t : State} (h : t.mask m = s.mask m) (k : m.testBit 305 = false) : Field.same .logAreaF s t := by
  have := congrArg (fun s : State => s.log.areaF) h
  simpa only [State.mask, LogS.blank, Field.same, k, Bool.false_eq_true, if_false] using this

theorem same_logNext {m : Nat} {s t : State} (h : t.mask m = s.mask m) (k : m.testBit 306 = false) : Field.same .logNext s t := by
  have := congrArg (fun s : State => s.log.next) h
  simpa only [State.mask, LogS.blank, Field.same, k, Bool.false_eq_true, if_false] using this

theorem same_logReserve {m : Nat} {s t : State} (h : t.mask m = s.mask m) (k : m.testBit 307 = false) : Field.same .logReserve s t := by
  have := congrArg (fun s : State => s.log.reserve) h
  simpa only [State.mask, LogS.blank, Field.same, k, Bool.false_eq_true, if_false] using this

theorem same_logLastDurable {m : Nat} {s t : State} (h : t.mask m = s.mask m) (k : m.testBit 308 = false) : Field.same .logLastDurable s t := by
  have := congrArg (fun s : State => s.log.lastDurable) h
  simpa only [State.mask, LogS.blank, Field.same, k, Bool.false_eq_true, if_false] using this

theorem same_logNotStaged {m : Nat} {s t : State} (h : t.mask m = s.mask m) (k : m.testBit 309 = false) : Field.same .logNotStaged s t := by
  have := congrArg (fun s : State => s.log.notStaged) h
  simpa only [State.mask, LogS.blank, Field.same, k, Bool.false_eq_true, if_false] using this

theorem same_logLostNow {m : Nat} {s t : State} (h : t.mask m = s.mask m) (k : m.testBit 310 = false) : Field.same .logLostNow s t := by
  have := congrArg (fun s : State => s.log.lostNow) h
  simpa only [State.mask, LogS.blank, Field.same, k, Bool.false_eq_true, if_false] using this

theorem same_logLostFirst {m : Nat} {s t : State} (h : t.mask m = s.mask m) (k : m.testBit 311 = false) : Field.same .logLostFirst s t := by
  have := congrArg (fun s : State => s.log.lostFirst) h
  simpa only [State.mask, LogS.blank, Field.same, k, Bool.false_eq_true, if_false] using this

theorem same_logClearing {m : Nat} {s t : State} (h : t.mask m = s.mask m) (k : m.testBit 312 = false) : Field.same .logClearing s t := by
  have := congrArg (fun s : State => s.log.clearing) h
  simpa only [State.mask, LogS.blank, Field.same, k, Bool.false_eq_true, if_false] using this

theorem same_logDefs {m : Nat} {s t : State} (h : t.mask m = s.mask m) (k : m.testBit 313 = false) : Field.same .logDefs s t := by
  have := congrArg (fun s : State => s.log.defs) h
  simpa only [State.mask, LogS.blank, Field.same, k, Bool.false_eq_true, if_false] using this

theorem same_logOverruns {m : Nat} {s t : State} (h : t.mask m = s.mask m) (k : m.testBit 314 = false) : Field.same .logOverruns s t := by
  have := congrArg (fun s : State => s.log.overruns) h
  simpa only [State.mask, LogS.blank, Field.same, k, Bool.false_eq_true, if_false] using this

theorem same_logCounts {m : Nat} {s t : State} (h : t.mask m = s.mask m) (k : m.testBit 315 = false) : Field.same .logCounts s t := by
  have := congrArg (fun s : State => s.log.counts) h
  simpa only [State.mask, LogS.blank, Field.same, k, Bool.false_eq_true, if_false] using this

theorem same_tlyNumber {m : Nat} {s t : State} (h : t.mask m = s.mask m) (k : m.testBit 316 = false) : Field.same .tlyNumber s t := by
  have := congrArg (fun s : State => s.tly.number) h
  simpa only [State.mask, TallyS.blank, Field.same, k, Bool.false_eq_true, if_false] using this

theorem same_tlyTime {m : Nat} {s t : State} (h : t.mask m = s.mask m) (k : m.testBit 317 = false) : Field.same .tlyTime s t := by
  have := congrArg (fun s : State => s.tly.time) h
  simpa only [State.mask, TallyS.blank, Field.same, k, Bool.false_eq_true, if_false] using this

theorem same_tlySnap {m : Nat} {s t : State} (h : t.mask m = s.mask m) (k : m.testBit 318 = false) : Field.same .tlySnap s t := by
  have := congrArg (fun s : State => s.tly.snap) h
  simpa only [State.mask, TallyS.blank, Field.same, k, Bool.false_eq_true, if_false] using this

theorem same_tlyLatched {m : Nat} {s t : State} (h : t.mask m = s.mask m) (k : m.testBit 319 = false) : Field.same .tlyLatched s t := by
  have := congrArg (fun s : State => s.tly.latched) h
  simpa only [State.mask, TallyS.blank, Field.same, k, Bool.false_eq_true, if_false] using this

theorem same_tlyBases {m : Nat} {s t : State} (h : t.mask m = s.mask m) (k : m.testBit 320 = false) : Field.same .tlyBases s t := by
  have := congrArg (fun s : State => s.tly.bases) h
  simpa only [State.mask, TallyS.blank, Field.same, k, Bool.false_eq_true, if_false] using this

theorem same_tlyWinStart {m : Nat} {s t : State} (h : t.mask m = s.mask m) (k : m.testBit 321 = false) : Field.same .tlyWinStart s t := by
  have := congrArg (fun s : State => s.tly.winStart) h
  simpa only [State.mask, TallyS.blank, Field.same, k, Bool.false_eq_true, if_false] using this

theorem same_tlyRates {m : Nat} {s t : State} (h : t.mask m = s.mask m) (k : m.testBit 322 = false) : Field.same .tlyRates s t := by
  have := congrArg (fun s : State => s.tly.rates) h
  simpa only [State.mask, TallyS.blank, Field.same, k, Bool.false_eq_true, if_false] using this

theorem same_tlyWinSnap {m : Nat} {s t : State} (h : t.mask m = s.mask m) (k : m.testBit 323 = false) : Field.same .tlyWinSnap s t := by
  have := congrArg (fun s : State => s.tly.winSnap) h
  simpa only [State.mask, TallyS.blank, Field.same, k, Bool.false_eq_true, if_false] using this

theorem same_tlyWinDiscard {m : Nat} {s t : State} (h : t.mask m = s.mask m) (k : m.testBit 324 = false) : Field.same .tlyWinDiscard s t := by
  have := congrArg (fun s : State => s.tly.winDiscard) h
  simpa only [State.mask, TallyS.blank, Field.same, k, Bool.false_eq_true, if_false] using this

theorem same_tlyCounts {m : Nat} {s t : State} (h : t.mask m = s.mask m) (k : m.testBit 325 = false) : Field.same .tlyCounts s t := by
  have := congrArg (fun s : State => s.tly.counts) h
  simpa only [State.mask, TallyS.blank, Field.same, k, Bool.false_eq_true, if_false] using this

theorem same_tlyWear {m : Nat} {s t : State} (h : t.mask m = s.mask m) (k : m.testBit 326 = false) : Field.same .tlyWear s t := by
  have := congrArg (fun s : State => s.tly.wear) h
  simpa only [State.mask, TallyS.blank, Field.same, k, Bool.false_eq_true, if_false] using this

theorem same_wopPlca {m : Nat} {s t : State} (h : t.mask m = s.mask m) (k : m.testBit 327 = false) : Field.same .wopPlca s t := by
  have := congrArg (fun s : State => s.wop.plca) h
  simpa only [State.mask, WopS.blank, Field.same, k, Bool.false_eq_true, if_false] using this

theorem same_wopFrames {m : Nat} {s t : State} (h : t.mask m = s.mask m) (k : m.testBit 328 = false) : Field.same .wopFrames s t := by
  have := congrArg (fun s : State => s.wop.frames) h
  simpa only [State.mask, WopS.blank, Field.same, k, Bool.false_eq_true, if_false] using this

theorem same_wopCounts {m : Nat} {s t : State} (h : t.mask m = s.mask m) (k : m.testBit 329 = false) : Field.same .wopCounts s t := by
  have := congrArg (fun s : State => s.wop.counts) h
  simpa only [State.mask, WopS.blank, Field.same, k, Bool.false_eq_true, if_false] using this

theorem same_wopConflict {m : Nat} {s t : State} (h : t.mask m = s.mask m) (k : m.testBit 330 = false) : Field.same .wopConflict s t := by
  have := congrArg (fun s : State => s.wop.conflict) h
  simpa only [State.mask, WopS.blank, Field.same, k, Bool.false_eq_true, if_false] using this

theorem same_wopAnswerDue {m : Nat} {s t : State} (h : t.mask m = s.mask m) (k : m.testBit 331 = false) : Field.same .wopAnswerDue s t := by
  have := congrArg (fun s : State => s.wop.answerDue) h
  simpa only [State.mask, WopS.blank, Field.same, k, Bool.false_eq_true, if_false] using this

theorem same_wopKeys {m : Nat} {s t : State} (h : t.mask m = s.mask m) (k : m.testBit 332 = false) : Field.same .wopKeys s t := by
  have := congrArg (fun s : State => s.wop.keys) h
  simpa only [State.mask, WopS.blank, Field.same, k, Bool.false_eq_true, if_false] using this

theorem same_wopKeyDraws {m : Nat} {s t : State} (h : t.mask m = s.mask m) (k : m.testBit 333 = false) : Field.same .wopKeyDraws s t := by
  have := congrArg (fun s : State => s.wop.keyDraws) h
  simpa only [State.mask, WopS.blank, Field.same, k, Bool.false_eq_true, if_false] using this

theorem same_wopSess {m : Nat} {s t : State} (h : t.mask m = s.mask m) (k : m.testBit 334 = false) : Field.same .wopSess s t := by
  have := congrArg (fun s : State => s.wop.sess) h
  simpa only [State.mask, WopS.blank, Field.same, k, Bool.false_eq_true, if_false] using this

theorem same_wopTagFails {m : Nat} {s t : State} (h : t.mask m = s.mask m) (k : m.testBit 335 = false) : Field.same .wopTagFails s t := by
  have := congrArg (fun s : State => s.wop.tagFails) h
  simpa only [State.mask, WopS.blank, Field.same, k, Bool.false_eq_true, if_false] using this

theorem same_wopBulks {m : Nat} {s t : State} (h : t.mask m = s.mask m) (k : m.testBit 336 = false) : Field.same .wopBulks s t := by
  have := congrArg (fun s : State => s.wop.bulks) h
  simpa only [State.mask, WopS.blank, Field.same, k, Bool.false_eq_true, if_false] using this

theorem same_wopNextBulk {m : Nat} {s t : State} (h : t.mask m = s.mask m) (k : m.testBit 337 = false) : Field.same .wopNextBulk s t := by
  have := congrArg (fun s : State => s.wop.nextBulk) h
  simpa only [State.mask, WopS.blank, Field.same, k, Bool.false_eq_true, if_false] using this

theorem same_out {m : Nat} {s t : State} (h : t.mask m = s.mask m) (k : m.testBit 338 = false) : Field.same .out s t := by
  have := congrArg (fun s : State => s.out) h
  simpa only [State.mask, Field.same, k, Bool.false_eq_true, if_false] using this

theorem same_free {m : Nat} {s t : State} (h : t.mask m = s.mask m) (k : m.testBit 339 = false) : Field.same .free s t := by
  have := congrArg (fun s : State => s.free) h
  simpa only [State.mask, Field.same, k, Bool.false_eq_true, if_false] using this

theorem same_pending {m : Nat} {s t : State} (h : t.mask m = s.mask m) (k : m.testBit 340 = false) : Field.same .pending s t := by
  have := congrArg (fun s : State => s.pending) h
  simpa only [State.mask, Field.same, k, Bool.false_eq_true, if_false] using this

theorem field_same {m : Nat} {s t : State} (h : t.mask m = s.mask m) (f : Field) (k : m.testBit f.bit = false) : f.same s t :=
  match f, k with
  | .timOpTime, k => same_timOpTime h k
  | .timCycles, k => same_timCycles h k
  | .timCellDue, k => same_timCellDue h k
  | .timCellWrites, k => same_timCellWrites h k
  | .timTimeCells, k => same_timTimeCells h k
  | .timCycleCells, k => same_timCycleCells h k
  | .timCycleWrites, k => same_timCycleWrites h k
  | .objVals, k => same_objVals h k
  | .objShadow, k => same_objShadow h k
  | .objLabel, k => same_objLabel h k
  | .objSlots, k => same_objSlots h k
  | .objTicketNext, k => same_objTicketNext h k
  | .objTicketRes, k => same_objTicketRes h k
  | .objBusyRefusals, k => same_objBusyRefusals h k
  | .objSelectors, k => same_objSelectors h k
  | .objDeferred, k => same_objDeferred h k
  | .objWaiting, k => same_objWaiting h k
  | .objEnded, k => same_objEnded h k
  | .objCustodianSet, k => same_objCustodianSet h k
  | .objRestoring, k => same_objRestoring h k
  | .pwrState, k => same_pwrState h k
  | .pwrInputMv, k => same_pwrInputMv h k
  | .pwrPairA, k => same_pwrPairA h k
  | .pwrPairB, k => same_pwrPairB h k
  | .pwrPeakMw, k => same_pwrPeakMw h k
  | .pwrSwitchClosed, k => same_pwrSwitchClosed h k
  | .pwrKeelPath, k => same_pwrKeelPath h k
  | .pwrBreaker, k => same_pwrBreaker h k
  | .pwrInputGood, k => same_pwrInputGood h k
  | .pwrOvervoltage, k => same_pwrOvervoltage h k
  | .pwrInputLow, k => same_pwrInputLow h k
  | .pwrDip, k => same_pwrDip h k
  | .pwrShortDips, k => same_pwrShortDips h k
  | .pwrLossCount, k => same_pwrLossCount h k
  | .pwrTripCount, k => same_pwrTripCount h k
  | .pwrReqOff, k => same_pwrReqOff h k
  | .pwrSeqState, k => same_pwrSeqState h k
  | .pwrStep, k => same_pwrStep h k
  | .pwrFastDown, k => same_pwrFastDown h k
  | .pwrMediaOnlyDown, k => same_pwrMediaOnlyDown h k
  | .pwrMediaOnlyUp, k => same_pwrMediaOnlyUp h k
  | .pwrPaused, k => same_pwrPaused h k
  | .pwrDomains, k => same_pwrDomains h k
  | .pwrLatch, k => same_pwrLatch h k
  | .pwrHaltDrivers, k => same_pwrHaltDrivers h k
  | .pwrHaltSeen, k => same_pwrHaltSeen h k
  | .pwrHaltHold, k => same_pwrHaltHold h k
  | .pwrHaltOutside, k => same_pwrHaltOutside h k
  | .pwrCounts, k => same_pwrCounts h k
  | .pwrHaltCount, k => same_pwrHaltCount h k
  | .pwrHaltSource, k => same_pwrHaltSource h k
  | .pwrHaltTime, k => same_pwrHaltTime h k
  | .pwrGaLatched, k => same_pwrGaLatched h k
  | .pwrGaPins, k => same_pwrGaPins h k
  | .pwrGaNow, k => same_pwrGaNow h k
  | .pwrGaDiffer, k => same_pwrGaDiffer h k
  | .pwrGaMismatch, k => same_pwrGaMismatch h k
  | .pwrModrstLow, k => same_pwrModrstLow h k
  | .pwrResetAsked, k => same_pwrResetAsked h k
  | .pwrResetOnGood, k => same_pwrResetOnGood h k
  | .pwrTap, k => same_pwrTap h k
  | .pwrLostClocks, k => same_pwrLostClocks h k
  | .pwrKeelFallback, k => same_pwrKeelFallback h k
  | .pwrMarginOn, k => same_pwrMarginOn h k
  | .seatSeats, k => same_seatSeats h k
  | .seatTransactions, k => same_seatTransactions h k
  | .seatCrcErrors, k => same_seatCrcErrors h k
  | .seatRetries, k => same_seatRetries h k
  | .seatNotResponding, k => same_seatNotResponding h k
  | .bankState, k => same_bankState h k
  | .bankMv, k => same_bankMv h k
  | .bankBoost, k => same_bankBoost h k
  | .bankUF, k => same_bankUF h k
  | .bankUFRaw, k => same_bankUFRaw h k
  | .bankEsr, k => same_bankEsr h k
  | .bankTemp, k => same_bankTemp h k
  | .bankMeasuredAt, k => same_bankMeasuredAt h k
  | .bankMeasured, k => same_bankMeasured h k
  | .bankNotReady, k => same_bankNotReady h k
  | .bankMeasuring, k => same_bankMeasuring h k
  | .bankDeferred, k => same_bankDeferred h k
  | .bankCapTime, k => same_bankCapTime h k
  | .bankCapStep, k => same_bankCapStep h k
  | .bankFlushStartMv, k => same_bankFlushStartMv h k
  | .bankFlushEndMv, k => same_bankFlushEndMv h k
  | .bankFlushUs, k => same_bankFlushUs h k
  | .bankKeelMs, k => same_bankKeelMs h k
  | .bankFlushMark, k => same_bankFlushMark h k
  | .thmInputs, k => same_thmInputs h k
  | .thmLevel, k => same_thmLevel h k
  | .thmTimeAt, k => same_thmTimeAt h k
  | .thmLimits, k => same_thmLimits h k
  | .thmCounts, k => same_thmCounts h k
  | .hltState, k => same_hltState h k
  | .hltIndicators, k => same_hltIndicators h k
  | .hltC0, k => same_hltC0 h k
  | .hltPoints, k => same_hltPoints h k
  | .hltPeaks, k => same_hltPeaks h k
  | .hltLifeUsed, k => same_hltLifeUsed h k
  | .hltMediaHours, k => same_hltMediaHours h k
  | .hltFitted, k => same_hltFitted h k
  | .hltSlope, k => same_hltSlope h k
  | .hltBankHours, k => same_hltBankHours h k
  | .hltEndHours, k => same_hltEndHours h k
  | .hltGoverning, k => same_hltGoverning h k
  | .hltPredictedAt, k => same_hltPredictedAt h k
  | .hstPorts, k => same_hstPorts h k
  | .hstLinks, k => same_hstLinks h k
  | .hstHeads, k => same_hstHeads h k
  | .extPairs, k => same_extPairs h k
  | .extExtents, k => same_extExtents h k
  | .extRegions, k => same_extRegions h k
  | .extOffers, k => same_extOffers h k
  | .extJournalUsed, k => same_extJournalUsed h k
  | .extJournalGen, k => same_extJournalGen h k
  | .rdpReads, k => same_rdpReads h k
  | .rdpNextId, k => same_rdpNextId h k
  | .rdpOrder, k => same_rdpOrder h k
  | .rdpCounts, k => same_rdpCounts h k
  | .wbEnts, k => same_wbEnts h k
  | .wbUnits, k => same_wbUnits h k
  | .wbNextUnit, k => same_wbNextUnit h k
  | .wbInProgram, k => same_wbInProgram h k
  | .wbDirty, k => same_wbDirty h k
  | .wbDurable, k => same_wbDurable h k
  | .wbLastListed, k => same_wbLastListed h k
  | .wbWriting, k => same_wbWriting h k
  | .wbLedger, k => same_wbLedger h k
  | .wbLedgerSeq, k => same_wbLedgerSeq h k
  | .wbLedgerNext, k => same_wbLedgerNext h k
  | .wbDurableSeq, k => same_wbDurableSeq h k
  | .wbHighWater, k => same_wbHighWater h k
  | .wbCostHeld, k => same_wbCostHeld h k
  | .wbLedgerHeld, k => same_wbLedgerHeld h k
  | .wbDipHeld, k => same_wbDipHeld h k
  | .wbFlushing, k => same_wbFlushing h k
  | .wbFlushFrom, k => same_wbFlushFrom h k
  | .wbFlushBroken, k => same_wbFlushBroken h k
  | .wbSinglePairs, k => same_wbSinglePairs h k
  | .wbStarvedCount, k => same_wbStarvedCount h k
  | .wbHostShutdown, k => same_wbHostShutdown h k
  | .wbLastDirty, k => same_wbLastDirty h k
  | .wbDirtyCount, k => same_wbDirtyCount h k
  | .wbCounts, k => same_wbCounts h k
  | .medGranules, k => same_medGranules h k
  | .medPlanes, k => same_medPlanes h k
  | .medDies, k => same_medDies h k
  | .medChannels, k => same_medChannels h k
  | .medClearing, k => same_medClearing h k
  | .medGovernor, k => same_medGovernor h k
  | .medReserved, k => same_medReserved h k
  | .medWork, k => same_medWork h k
  | .medChecks, k => same_medChecks h k
  | .medChecksWear, k => same_medChecksWear h k
  | .medFailures, k => same_medFailures h k
  | .trcMap, k => same_trcMap h k
  | .trcCkptA, k => same_trcCkptA h k
  | .trcCkptB, k => same_trcCkptB h k
  | .trcAct, k => same_trcAct h k
  | .trcPeak, k => same_trcPeak h k
  | .trcPeakBase, k => same_trcPeakBase h k
  | .trcPeakCkpt, k => same_trcPeakCkpt h k
  | .trcPeakCkptB, k => same_trcPeakCkptB h k
  | .trcBaseCkpt, k => same_trcBaseCkpt h k
  | .trcActCkpt, k => same_trcActCkpt h k
  | .trcActCkptB, k => same_trcActCkptB h k
  | .trcDirectory, k => same_trcDirectory h k
  | .trcScans, k => same_trcScans h k
  | .trcCounted, k => same_trcCounted h k
  | .trcEpoch, k => same_trcEpoch h k
  | .trcDirtyPts, k => same_trcDirtyPts h k
  | .trcMigs, k => same_trcMigs h k
  | .trcReadsOn, k => same_trcReadsOn h k
  | .trcLastRow, k => same_trcLastRow h k
  | .trcCompleted, k => same_trcCompleted h k
  | .trcAbandoned, k => same_trcAbandoned h k
  | .trcRetired, k => same_trcRetired h k
  | .trcRefreshed, k => same_trcRefreshed h k
  | .trcSweep, k => same_trcSweep h k
  | .trcLastScan, k => same_trcLastScan h k
  | .trcDecided, k => same_trcDecided h k
  | .trcCounts, k => same_trcCounts h k
  | .trcSpareRows, k => same_trcSpareRows h k
  | .itgBlocks, k => same_itgBlocks h k
  | .itgNodes, k => same_itgNodes h k
  | .itgRoot, k => same_itgRoot h k
  | .itgCache, k => same_itgCache h k
  | .itgHigh, k => same_itgHigh h k
  | .itgReserve, k => same_itgReserve h k
  | .itgRootState, k => same_itgRootState h k
  | .itgRecord, k => same_itgRecord h k
  | .itgAlarms, k => same_itgAlarms h k
  | .itgTagFails, k => same_itgTagFails h k
  | .itgRecovered, k => same_itgRecovered h k
  | .itgReestablished, k => same_itgReestablished h k
  | .itgActivity, k => same_itgActivity h k
  | .itgOverflows, k => same_itgOverflows h k
  | .itgTreeGen, k => same_itgTreeGen h k
  | .itgRekeyRegion, k => same_itgRekeyRegion h k
  | .itgRekeyState, k => same_itgRekeyState h k
  | .itgRekeyLeft, k => same_itgRekeyLeft h k
  | .itgRekeyExtents, k => same_itgRekeyExtents h k
  | .itgRekeySlot, k => same_itgRekeySlot h k
  | .itgWindows, k => same_itgWindows h k
  | .itgCounts, k => same_itgCounts h k
  | .scrEcc, k => same_scrEcc h k
  | .scrRewrite, k => same_scrRewrite h k
  | .scrHeaderRepairs, k => same_scrHeaderRepairs h k
  | .scrSelfTest, k => same_scrSelfTest h k
  | .scrSelfTestAt, k => same_scrSelfTestAt h k
  | .scrPatrol, k => same_scrPatrol h k
  | .scrPasses, k => same_scrPasses h k
  | .scrRebuilds, k => same_scrRebuilds h k
  | .scrEngines, k => same_scrEngines h k
  | .scrParity, k => same_scrParity h k
  | .stgSrams, k => same_stgSrams h k
  | .stgParityDue, k => same_stgParityDue h k
  | .stgBandDue, k => same_stgBandDue h k
  | .stgRestoring, k => same_stgRestoring h k
  | .stgParity, k => same_stgParity h k
  | .fltQueue, k => same_fltQueue h k
  | .fltLost, k => same_fltLost h k
  | .fltOverflow, k => same_fltOverflow h k
  | .fltHighMark, k => same_fltHighMark h k
  | .fltTaken, k => same_fltTaken h k
  | .fltClasses, k => same_fltClasses h k
  | .fltSticky, k => same_fltSticky h k
  | .fltStickyDue, k => same_fltStickyDue h k
  | .fltStickyAgain, k => same_fltStickyAgain h k
  | .fltUnits, k => same_fltUnits h k
  | .fltSources, k => same_fltSources h k
  | .fltFences, k => same_fltFences h k
  | .fltLastC3, k => same_fltLastC3 h k
  | .fltLastC3At, k => same_fltLastC3At h k
  | .fltLastC3Cycle, k => same_fltLastC3Cycle h k
  | .fltCmdSlots, k => same_fltCmdSlots h k
  | .easyState, k => same_easyState h k
  | .easyCauses, k => same_easyCauses h k
  | .easyEntries, k => same_easyEntries h k
  | .easyVolatileEntries, k => same_easyVolatileEntries h k
  | .easyStopUnits, k => same_easyStopUnits h k
  | .easyThenDown, k => same_easyThenDown h k
  | .easySlots, k => same_easySlots h k
  | .strPhase, k => same_strPhase h k
  | .strKind, k => same_strKind h k
  | .strClean, k => same_strClean h k
  | .strMapsLoaded, k => same_strMapsLoaded h k
  | .strRootDone, k => same_strRootDone h k
  | .strPowered, k => same_strPowered h k
  | .strReview, k => same_strReview h k
  | .strKeelFailed, k => same_strKeelFailed h k
  | .strDataReady, k => same_strDataReady h k
  | .strBegan, k => same_strBegan h k
  | .strOrigin, k => same_strOrigin h k
  | .strTimes, k => same_strTimes h k
  | .strRootSlot, k => same_strRootSlot h k
  | .coxState, k => same_coxState h k
  | .coxDead, k => same_coxDead h k
  | .coxIScratch, k => same_coxIScratch h k
  | .coxDScratch, k => same_coxDScratch h k
  | .coxICache, k => same_coxICache h k
  | .coxDCache, k => same_coxDCache h k
  | .coxWatchdogMs, k => same_coxWatchdogMs h k
  | .coxResets, k => same_coxResets h k
  | .coxLastReset, k => same_coxLastReset h k
  | .coxOrphan, k => same_coxOrphan h k
  | .coxOrphanLimit, k => same_coxOrphanLimit h k
  | .coxLastOrphan, k => same_coxLastOrphan h k
  | .coxOrphanLostAt, k => same_coxOrphanLostAt h k
  | .coxReadyAt, k => same_coxReadyAt h k
  | .coxResetAt, k => same_coxResetAt h k
  | .coxByWatchdog, k => same_coxByWatchdog h k
  | .coxByActivate, k => same_coxByActivate h k
  | .coxStartCause, k => same_coxStartCause h k
  | .coxOptions, k => same_coxOptions h k
  | .coxOptionState, k => same_coxOptionState h k
  | .flsRunning, k => same_flsRunning h k
  | .flsStartedAt, k => same_flsStartedAt h k
  | .flsSuspended, k => same_flsSuspended h k
  | .flsDepth, k => same_flsDepth h k
  | .flsRan, k => same_flsRan h k
  | .flsMinimumRun, k => same_flsMinimumRun h k
  | .flsQueue, k => same_flsQueue h k
  | .flsFlags, k => same_flsFlags h k
  | .flsCounts, k => same_flsCounts h k
  | .flsOptionWords, k => same_flsOptionWords h k
  | .flsOptionWrite, k => same_flsOptionWrite h k
  | .flsOptionCut, k => same_flsOptionCut h k
  | .imgA, k => same_imgA h k
  | .imgB, k => same_imgB h k
  | .imgActiveB, k => same_imgActiveB h k
  | .imgTrial, k => same_imgTrial h k
  | .imgAttempts, k => same_imgAttempts h k
  | .imgRunsB, k => same_imgRunsB h k
  | .imgSlot, k => same_imgSlot h k
  | .imgActivateSlot, k => same_imgActivateSlot h k
  | .parBp, k => same_parBp h k
  | .parQueue, k => same_parQueue h k
  | .parRetired, k => same_parRetired h k
  | .parSpares, k => same_parSpares h k
  | .parLost, k => same_parLost h k
  | .parSeqs, k => same_parSeqs h k
  | .parWrites, k => same_parWrites h k
  | .logStaged, k => same_logStaged h k
  | .logAreaC, k => same_logAreaC h k
  | .logAreaF, k => same_logAreaF h k
  | .logNext, k => same_logNext h k
  | .logReserve, k => same_logReserve h k
  | .logLastDurable, k => same_logLastDurable h k
  | .logNotStaged, k => same_logNotStaged h k
  | .logLostNow, k => same_logLostNow h k
  | .logLostFirst, k => same_logLostFirst h k
  | .logClearing, k => same_logClearing h k
  | .logDefs, k => same_logDefs h k
  | .logOverruns, k => same_logOverruns h k
  | .logCounts, k => same_logCounts h k
  | .tlyNumber, k => same_tlyNumber h k
  | .tlyTime, k => same_tlyTime h k
  | .tlySnap, k => same_tlySnap h k
  | .tlyLatched, k => same_tlyLatched h k
  | .tlyBases, k => same_tlyBases h k
  | .tlyWinStart, k => same_tlyWinStart h k
  | .tlyRates, k => same_tlyRates h k
  | .tlyWinSnap, k => same_tlyWinSnap h k
  | .tlyWinDiscard, k => same_tlyWinDiscard h k
  | .tlyCounts, k => same_tlyCounts h k
  | .tlyWear, k => same_tlyWear h k
  | .wopPlca, k => same_wopPlca h k
  | .wopFrames, k => same_wopFrames h k
  | .wopCounts, k => same_wopCounts h k
  | .wopConflict, k => same_wopConflict h k
  | .wopAnswerDue, k => same_wopAnswerDue h k
  | .wopKeys, k => same_wopKeys h k
  | .wopKeyDraws, k => same_wopKeyDraws h k
  | .wopSess, k => same_wopSess h k
  | .wopTagFails, k => same_wopTagFails h k
  | .wopBulks, k => same_wopBulks h k
  | .wopNextBulk, k => same_wopNextBulk h k
  | .out, k => same_out h k
  | .free, k => same_free h k
  | .pending, k => same_pending h k

/-- The field of a bit. -/
def fieldOf : Nat → Field
  | 0 => Field.timOpTime
  | 1 => Field.timCycles
  | 2 => Field.timCellDue
  | 3 => Field.timCellWrites
  | 4 => Field.timTimeCells
  | 5 => Field.timCycleCells
  | 6 => Field.timCycleWrites
  | 7 => Field.objVals
  | 8 => Field.objShadow
  | 9 => Field.objLabel
  | 10 => Field.objSlots
  | 11 => Field.objTicketNext
  | 12 => Field.objTicketRes
  | 13 => Field.objBusyRefusals
  | 14 => Field.objSelectors
  | 15 => Field.objDeferred
  | 16 => Field.objWaiting
  | 17 => Field.objEnded
  | 18 => Field.objCustodianSet
  | 19 => Field.objRestoring
  | 20 => Field.pwrState
  | 21 => Field.pwrInputMv
  | 22 => Field.pwrPairA
  | 23 => Field.pwrPairB
  | 24 => Field.pwrPeakMw
  | 25 => Field.pwrSwitchClosed
  | 26 => Field.pwrKeelPath
  | 27 => Field.pwrBreaker
  | 28 => Field.pwrInputGood
  | 29 => Field.pwrOvervoltage
  | 30 => Field.pwrInputLow
  | 31 => Field.pwrDip
  | 32 => Field.pwrShortDips
  | 33 => Field.pwrLossCount
  | 34 => Field.pwrTripCount
  | 35 => Field.pwrReqOff
  | 36 => Field.pwrSeqState
  | 37 => Field.pwrStep
  | 38 => Field.pwrFastDown
  | 39 => Field.pwrMediaOnlyDown
  | 40 => Field.pwrMediaOnlyUp
  | 41 => Field.pwrPaused
  | 42 => Field.pwrDomains
  | 43 => Field.pwrLatch
  | 44 => Field.pwrHaltDrivers
  | 45 => Field.pwrHaltSeen
  | 46 => Field.pwrHaltHold
  | 47 => Field.pwrHaltOutside
  | 48 => Field.pwrCounts
  | 49 => Field.pwrHaltCount
  | 50 => Field.pwrHaltSource
  | 51 => Field.pwrHaltTime
  | 52 => Field.pwrGaLatched
  | 53 => Field.pwrGaPins
  | 54 => Field.pwrGaNow
  | 55 => Field.pwrGaDiffer
  | 56 => Field.pwrGaMismatch
  | 57 => Field.pwrModrstLow
  | 58 => Field.pwrResetAsked
  | 59 => Field.pwrResetOnGood
  | 60 => Field.pwrTap
  | 61 => Field.pwrLostClocks
  | 62 => Field.pwrKeelFallback
  | 63 => Field.pwrMarginOn
  | 64 => Field.seatSeats
  | 65 => Field.seatTransactions
  | 66 => Field.seatCrcErrors
  | 67 => Field.seatRetries
  | 68 => Field.seatNotResponding
  | 69 => Field.bankState
  | 70 => Field.bankMv
  | 71 => Field.bankBoost
  | 72 => Field.bankUF
  | 73 => Field.bankUFRaw
  | 74 => Field.bankEsr
  | 75 => Field.bankTemp
  | 76 => Field.bankMeasuredAt
  | 77 => Field.bankMeasured
  | 78 => Field.bankNotReady
  | 79 => Field.bankMeasuring
  | 80 => Field.bankDeferred
  | 81 => Field.bankCapTime
  | 82 => Field.bankCapStep
  | 83 => Field.bankFlushStartMv
  | 84 => Field.bankFlushEndMv
  | 85 => Field.bankFlushUs
  | 86 => Field.bankKeelMs
  | 87 => Field.bankFlushMark
  | 88 => Field.thmInputs
  | 89 => Field.thmLevel
  | 90 => Field.thmTimeAt
  | 91 => Field.thmLimits
  | 92 => Field.thmCounts
  | 93 => Field.hltState
  | 94 => Field.hltIndicators
  | 95 => Field.hltC0
  | 96 => Field.hltPoints
  | 97 => Field.hltPeaks
  | 98 => Field.hltLifeUsed
  | 99 => Field.hltMediaHours
  | 100 => Field.hltFitted
  | 101 => Field.hltSlope
  | 102 => Field.hltBankHours
  | 103 => Field.hltEndHours
  | 104 => Field.hltGoverning
  | 105 => Field.hltPredictedAt
  | 106 => Field.hstPorts
  | 107 => Field.hstLinks
  | 108 => Field.hstHeads
  | 109 => Field.extPairs
  | 110 => Field.extExtents
  | 111 => Field.extRegions
  | 112 => Field.extOffers
  | 113 => Field.extJournalUsed
  | 114 => Field.extJournalGen
  | 115 => Field.rdpReads
  | 116 => Field.rdpNextId
  | 117 => Field.rdpOrder
  | 118 => Field.rdpCounts
  | 119 => Field.wbEnts
  | 120 => Field.wbUnits
  | 121 => Field.wbNextUnit
  | 122 => Field.wbInProgram
  | 123 => Field.wbDirty
  | 124 => Field.wbDurable
  | 125 => Field.wbLastListed
  | 126 => Field.wbWriting
  | 127 => Field.wbLedger
  | 128 => Field.wbLedgerSeq
  | 129 => Field.wbLedgerNext
  | 130 => Field.wbDurableSeq
  | 131 => Field.wbHighWater
  | 132 => Field.wbCostHeld
  | 133 => Field.wbLedgerHeld
  | 134 => Field.wbDipHeld
  | 135 => Field.wbFlushing
  | 136 => Field.wbFlushFrom
  | 137 => Field.wbFlushBroken
  | 138 => Field.wbSinglePairs
  | 139 => Field.wbStarvedCount
  | 140 => Field.wbHostShutdown
  | 141 => Field.wbLastDirty
  | 142 => Field.wbDirtyCount
  | 143 => Field.wbCounts
  | 144 => Field.medGranules
  | 145 => Field.medPlanes
  | 146 => Field.medDies
  | 147 => Field.medChannels
  | 148 => Field.medClearing
  | 149 => Field.medGovernor
  | 150 => Field.medReserved
  | 151 => Field.medWork
  | 152 => Field.medChecks
  | 153 => Field.medChecksWear
  | 154 => Field.medFailures
  | 155 => Field.trcMap
  | 156 => Field.trcCkptA
  | 157 => Field.trcCkptB
  | 158 => Field.trcAct
  | 159 => Field.trcPeak
  | 160 => Field.trcPeakBase
  | 161 => Field.trcPeakCkpt
  | 162 => Field.trcPeakCkptB
  | 163 => Field.trcBaseCkpt
  | 164 => Field.trcActCkpt
  | 165 => Field.trcActCkptB
  | 166 => Field.trcDirectory
  | 167 => Field.trcScans
  | 168 => Field.trcCounted
  | 169 => Field.trcEpoch
  | 170 => Field.trcDirtyPts
  | 171 => Field.trcMigs
  | 172 => Field.trcReadsOn
  | 173 => Field.trcLastRow
  | 174 => Field.trcCompleted
  | 175 => Field.trcAbandoned
  | 176 => Field.trcRetired
  | 177 => Field.trcRefreshed
  | 178 => Field.trcSweep
  | 179 => Field.trcLastScan
  | 180 => Field.trcDecided
  | 181 => Field.trcCounts
  | 182 => Field.trcSpareRows
  | 183 => Field.itgBlocks
  | 184 => Field.itgNodes
  | 185 => Field.itgRoot
  | 186 => Field.itgCache
  | 187 => Field.itgHigh
  | 188 => Field.itgReserve
  | 189 => Field.itgRootState
  | 190 => Field.itgRecord
  | 191 => Field.itgAlarms
  | 192 => Field.itgTagFails
  | 193 => Field.itgRecovered
  | 194 => Field.itgReestablished
  | 195 => Field.itgActivity
  | 196 => Field.itgOverflows
  | 197 => Field.itgTreeGen
  | 198 => Field.itgRekeyRegion
  | 199 => Field.itgRekeyState
  | 200 => Field.itgRekeyLeft
  | 201 => Field.itgRekeyExtents
  | 202 => Field.itgRekeySlot
  | 203 => Field.itgWindows
  | 204 => Field.itgCounts
  | 205 => Field.scrEcc
  | 206 => Field.scrRewrite
  | 207 => Field.scrHeaderRepairs
  | 208 => Field.scrSelfTest
  | 209 => Field.scrSelfTestAt
  | 210 => Field.scrPatrol
  | 211 => Field.scrPasses
  | 212 => Field.scrRebuilds
  | 213 => Field.scrEngines
  | 214 => Field.scrParity
  | 215 => Field.stgSrams
  | 216 => Field.stgParityDue
  | 217 => Field.stgBandDue
  | 218 => Field.stgRestoring
  | 219 => Field.stgParity
  | 220 => Field.fltQueue
  | 221 => Field.fltLost
  | 222 => Field.fltOverflow
  | 223 => Field.fltHighMark
  | 224 => Field.fltTaken
  | 225 => Field.fltClasses
  | 226 => Field.fltSticky
  | 227 => Field.fltStickyDue
  | 228 => Field.fltStickyAgain
  | 229 => Field.fltUnits
  | 230 => Field.fltSources
  | 231 => Field.fltFences
  | 232 => Field.fltLastC3
  | 233 => Field.fltLastC3At
  | 234 => Field.fltLastC3Cycle
  | 235 => Field.fltCmdSlots
  | 236 => Field.easyState
  | 237 => Field.easyCauses
  | 238 => Field.easyEntries
  | 239 => Field.easyVolatileEntries
  | 240 => Field.easyStopUnits
  | 241 => Field.easyThenDown
  | 242 => Field.easySlots
  | 243 => Field.strPhase
  | 244 => Field.strKind
  | 245 => Field.strClean
  | 246 => Field.strMapsLoaded
  | 247 => Field.strRootDone
  | 248 => Field.strPowered
  | 249 => Field.strReview
  | 250 => Field.strKeelFailed
  | 251 => Field.strDataReady
  | 252 => Field.strBegan
  | 253 => Field.strOrigin
  | 254 => Field.strTimes
  | 255 => Field.strRootSlot
  | 256 => Field.coxState
  | 257 => Field.coxDead
  | 258 => Field.coxIScratch
  | 259 => Field.coxDScratch
  | 260 => Field.coxICache
  | 261 => Field.coxDCache
  | 262 => Field.coxWatchdogMs
  | 263 => Field.coxResets
  | 264 => Field.coxLastReset
  | 265 => Field.coxOrphan
  | 266 => Field.coxOrphanLimit
  | 267 => Field.coxLastOrphan
  | 268 => Field.coxOrphanLostAt
  | 269 => Field.coxReadyAt
  | 270 => Field.coxResetAt
  | 271 => Field.coxByWatchdog
  | 272 => Field.coxByActivate
  | 273 => Field.coxStartCause
  | 274 => Field.coxOptions
  | 275 => Field.coxOptionState
  | 276 => Field.flsRunning
  | 277 => Field.flsStartedAt
  | 278 => Field.flsSuspended
  | 279 => Field.flsDepth
  | 280 => Field.flsRan
  | 281 => Field.flsMinimumRun
  | 282 => Field.flsQueue
  | 283 => Field.flsFlags
  | 284 => Field.flsCounts
  | 285 => Field.flsOptionWords
  | 286 => Field.flsOptionWrite
  | 287 => Field.flsOptionCut
  | 288 => Field.imgA
  | 289 => Field.imgB
  | 290 => Field.imgActiveB
  | 291 => Field.imgTrial
  | 292 => Field.imgAttempts
  | 293 => Field.imgRunsB
  | 294 => Field.imgSlot
  | 295 => Field.imgActivateSlot
  | 296 => Field.parBp
  | 297 => Field.parQueue
  | 298 => Field.parRetired
  | 299 => Field.parSpares
  | 300 => Field.parLost
  | 301 => Field.parSeqs
  | 302 => Field.parWrites
  | 303 => Field.logStaged
  | 304 => Field.logAreaC
  | 305 => Field.logAreaF
  | 306 => Field.logNext
  | 307 => Field.logReserve
  | 308 => Field.logLastDurable
  | 309 => Field.logNotStaged
  | 310 => Field.logLostNow
  | 311 => Field.logLostFirst
  | 312 => Field.logClearing
  | 313 => Field.logDefs
  | 314 => Field.logOverruns
  | 315 => Field.logCounts
  | 316 => Field.tlyNumber
  | 317 => Field.tlyTime
  | 318 => Field.tlySnap
  | 319 => Field.tlyLatched
  | 320 => Field.tlyBases
  | 321 => Field.tlyWinStart
  | 322 => Field.tlyRates
  | 323 => Field.tlyWinSnap
  | 324 => Field.tlyWinDiscard
  | 325 => Field.tlyCounts
  | 326 => Field.tlyWear
  | 327 => Field.wopPlca
  | 328 => Field.wopFrames
  | 329 => Field.wopCounts
  | 330 => Field.wopConflict
  | 331 => Field.wopAnswerDue
  | 332 => Field.wopKeys
  | 333 => Field.wopKeyDraws
  | 334 => Field.wopSess
  | 335 => Field.wopTagFails
  | 336 => Field.wopBulks
  | 337 => Field.wopNextBulk
  | 338 => Field.out
  | 339 => Field.free
  | _ => .pending

theorem Field.bit_inj {f g : Field} (h : f.bit = g.bit) : f = g := by
  have : ∀ f : Field, f = fieldOf f.bit := by intro f; cases f <;> rfl
  rw [this f, this g, h]

/-- Equal with the set of a list blanked: the same in every other field. -/
theorem frame_of_mask {m : Nat} {l : List Field} {s t : State} (h : t.mask m = s.mask m) (k : m &&& fieldSet l = m) : Frame l s t := by
  intro f hf
  apply field_same h f
  cases e : m.testBit f.bit with
  | false => rfl
  | true =>
    have := covers_bit (l := fieldSet l) k e
    rw [fieldSet_bit, List.any_eq_true] at this
    obtain ⟨g, hg, hb⟩ := this
    exact absurd (Field.bit_inj (by simpa using hb) ▸ hg) hf

theorem Frame.refl (l : List Field) (s : State) : Frame l s s := fun f _ => by cases f <;> rfl

theorem Frame.trans {l : List Field} {s t u : State} (h : Frame l s t) (k : Frame l t u) : Frame l s u := by
  intro f hf
  have a := h f hf
  have b := k f hf
  cases f <;> exact Eq.trans b a

theorem Frame.mono {l l' : List Field} {s t : State} (h : Frame l s t) (k : ∀ f ∈ l, f ∈ l') : Frame l' s t :=
  fun f hf => h f fun hl => hf (k f hl)

end Sys2Proof.Machine
end

