-- ==== Sys2Proof/Laws/Keep.lean ====
section
/-! SUPPORT. What an operation keeps: outside a set of fields the state after is the state before. One lemma per primitive update, and
the rules for the ways in which operations are put together. -/

set_option Elab.async false

namespace Sys2Proof.Machine

/-- Outside the fields of the set, `t` is `s`. -/
def Keep (m : Nat) (s t : State) : Prop := t.mask m = s.mask m

/-- An outcome, where it is a next state, keeps what is outside the set. -/
def KeepR (m : Nat) (s : State) (r : Res) : Prop := ∀ t, r = .next t → Keep m s t

theorem Keep.refl (m : Nat) (s : State) : Keep m s s := rfl

theorem Keep.frame {m : Nat} {l : List Field} {s t : State} (h : Keep m s t) (k : m &&& fieldSet l = m) : Frame l s t := frame_of_mask h k

theorem KeepR.next {m : Nat} {s t : State} (h : Keep m s t) : KeepR m s (.next t) := by
  intro u e; cases e; exact h

theorem KeepR.frame {m : Nat} {l : List Field} {s t : State} {r : Res} (h : KeepR m s r) (k : m &&& fieldSet l = m) (e : r = .next t) :
    Frame l s t := (h t e).frame k

theorem keep_ite {m : Nat} {s a b : State} {c : Prop} {d : Decidable c} (h : Keep m s a) (k : Keep m s b) :
    Keep m s (if c then a else b) := by
  split <;> assumption

theorem keep_ite_snd {α : Type} {m : Nat} {s : State} {a b : α × State} {c : Prop} {d : Decidable c} (h : Keep m s a.2) (k : Keep m s b.2) :
    Keep m s (if c then a else b).2 := by
  split <;> assumption

theorem keep_ite_acc {m : Nat} {s : State} {a b : Acc} {c : Prop} {d : Decidable c} (h : Keep m s a.2.2) (k : Keep m s b.2.2) :
    Keep m s (if c then a else b).2.2 := by
  split <;> assumption

theorem keepR_ite {m : Nat} {s : State} {a b : Res} {c : Prop} {d : Decidable c} (h : KeepR m s a) (k : KeepR m s b) :
    KeepR m s (if c then a else b) := by
  split <;> assumption

theorem id_keep {m : Nat} {s t : State} (h : Keep m s t) : Keep m s (id t) := h

/-- An operation on the state after another, said of every state that keeps as much. -/
theorem keep_generalize {m : Nat} {s u : State} {C : State → State} (k : Keep m s u) (h : ∀ v, Keep m s v → Keep m s (C v)) :
    Keep m s (C u) := h u k

theorem snd_of_eq {α : Type} {m : Nat} {s t : State} {p : α × State} {a : α} (e : p = (a, t)) (h : Keep m s p.2) : Keep m s t := by
  rw [e] at h; exact h

theorem forEach_keep {α : Type} {m : Nat} {s u : State} {f : α → State → State} (h : ∀ a v, Keep m s v → Keep m s (f a v))
    (k : Keep m s u) (as : List α) : Keep m s (forEach as f u) := by
  induction as generalizing u with
  | nil => exact k
  | cons a r ih => exact ih (h a u k)

theorem State.when_keep {m : Nat} {s u : State} {f : State → State} (h : Keep m s u → Keep m s (f u)) (k : Keep m s u) (c : Bool) :
    Keep m s (u.when c f) := by
  unfold State.when; split
  · exact h k
  · exact k

theorem Res.stateOr_keep {m : Nat} {s u : State} {r : Res} (k : Keep m s u) (h : KeepR m s r) : Keep m s (r.stateOr u) := by
  unfold Res.stateOr; split
  · exact h _ rfl
  all_goals exact k

theorem State.modTim_keep {m : Nat} {s u : State} {f : TimeS → TimeS} (h : ∀ x, (f x).blank m = x.blank m) (k : Keep m s u) :
    Keep m s (u.modTim f) := by
  refine Eq.trans ?_ k
  show ({ u.mask m with tim := (f u.tim).blank m } : State) = u.mask m
  rw [h]; rfl

theorem State.modObj_keep {m : Nat} {s u : State} {f : ObjS → ObjS} (h : ∀ x, (f x).blank m = x.blank m) (k : Keep m s u) :
    Keep m s (u.modObj f) := by
  refine Eq.trans ?_ k
  show ({ u.mask m with obj := (f u.obj).blank m } : State) = u.mask m
  rw [h]; rfl

theorem State.modPwr_keep {m : Nat} {s u : State} {f : PowerS → PowerS} (h : ∀ x, (f x).blank m = x.blank m) (k : Keep m s u) :
    Keep m s (u.modPwr f) := by
  refine Eq.trans ?_ k
  show ({ u.mask m with pwr := (f u.pwr).blank m } : State) = u.mask m
  rw [h]; rfl

theorem State.modSeat_keep {m : Nat} {s u : State} {f : SeatBusS → SeatBusS} (h : ∀ x, (f x).blank m = x.blank m) (k : Keep m s u) :
    Keep m s (u.modSeat f) := by
  refine Eq.trans ?_ k
  show ({ u.mask m with seat := (f u.seat).blank m } : State) = u.mask m
  rw [h]; rfl

theorem State.modBank_keep {m : Nat} {s u : State} {f : BankS → BankS} (h : ∀ x, (f x).blank m = x.blank m) (k : Keep m s u) :
    Keep m s (u.modBank f) := by
  refine Eq.trans ?_ k
  show ({ u.mask m with bank := (f u.bank).blank m } : State) = u.mask m
  rw [h]; rfl

theorem State.modThm_keep {m : Nat} {s u : State} {f : ThermS → ThermS} (h : ∀ x, (f x).blank m = x.blank m) (k : Keep m s u) :
    Keep m s (u.modThm f) := by
  refine Eq.trans ?_ k
  show ({ u.mask m with thm := (f u.thm).blank m } : State) = u.mask m
  rw [h]; rfl

theorem State.modHlt_keep {m : Nat} {s u : State} {f : HealthS → HealthS} (h : ∀ x, (f x).blank m = x.blank m) (k : Keep m s u) :
    Keep m s (u.modHlt f) := by
  refine Eq.trans ?_ k
  show ({ u.mask m with hlt := (f u.hlt).blank m } : State) = u.mask m
  rw [h]; rfl

theorem State.modHst_keep {m : Nat} {s u : State} {f : HostS → HostS} (h : ∀ x, (f x).blank m = x.blank m) (k : Keep m s u) :
    Keep m s (u.modHst f) := by
  refine Eq.trans ?_ k
  show ({ u.mask m with hst := (f u.hst).blank m } : State) = u.mask m
  rw [h]; rfl

theorem State.modExt_keep {m : Nat} {s u : State} {f : ExtS → ExtS} (h : ∀ x, (f x).blank m = x.blank m) (k : Keep m s u) :
    Keep m s (u.modExt f) := by
  refine Eq.trans ?_ k
  show ({ u.mask m with ext := (f u.ext).blank m } : State) = u.mask m
  rw [h]; rfl

theorem State.modRdp_keep {m : Nat} {s u : State} {f : ReadPathS → ReadPathS} (h : ∀ x, (f x).blank m = x.blank m) (k : Keep m s u) :
    Keep m s (u.modRdp f) := by
  refine Eq.trans ?_ k
  show ({ u.mask m with rdp := (f u.rdp).blank m } : State) = u.mask m
  rw [h]; rfl

theorem State.modWb_keep {m : Nat} {s u : State} {f : WbS → WbS} (h : ∀ x, (f x).blank m = x.blank m) (k : Keep m s u) :
    Keep m s (u.modWb f) := by
  refine Eq.trans ?_ k
  show ({ u.mask m with wb := (f u.wb).blank m } : State) = u.mask m
  rw [h]; rfl

theorem State.modMed_keep {m : Nat} {s u : State} {f : MediaS → MediaS} (h : ∀ x, (f x).blank m = x.blank m) (k : Keep m s u) :
    Keep m s (u.modMed f) := by
  refine Eq.trans ?_ k
  show ({ u.mask m with med := (f u.med).blank m } : State) = u.mask m
  rw [h]; rfl

theorem State.modTrc_keep {m : Nat} {s u : State} {f : TractS → TractS} (h : ∀ x, (f x).blank m = x.blank m) (k : Keep m s u) :
    Keep m s (u.modTrc f) := by
  refine Eq.trans ?_ k
  show ({ u.mask m with trc := (f u.trc).blank m } : State) = u.mask m
  rw [h]; rfl

theorem State.modItg_keep {m : Nat} {s u : State} {f : IntegS → IntegS} (h : ∀ x, (f x).blank m = x.blank m) (k : Keep m s u) :
    Keep m s (u.modItg f) := by
  refine Eq.trans ?_ k
  show ({ u.mask m with itg := (f u.itg).blank m } : State) = u.mask m
  rw [h]; rfl

theorem State.modScr_keep {m : Nat} {s u : State} {f : ScrubS → ScrubS} (h : ∀ x, (f x).blank m = x.blank m) (k : Keep m s u) :
    Keep m s (u.modScr f) := by
  refine Eq.trans ?_ k
  show ({ u.mask m with scr := (f u.scr).blank m } : State) = u.mask m
  rw [h]; rfl

theorem State.modStg_keep {m : Nat} {s u : State} {f : StagingS → StagingS} (h : ∀ x, (f x).blank m = x.blank m) (k : Keep m s u) :
    Keep m s (u.modStg f) := by
  refine Eq.trans ?_ k
  show ({ u.mask m with stg := (f u.stg).blank m } : State) = u.mask m
  rw [h]; rfl

theorem State.modFlt_keep {m : Nat} {s u : State} {f : FaultS → FaultS} (h : ∀ x, (f x).blank m = x.blank m) (k : Keep m s u) :
    Keep m s (u.modFlt f) := by
  refine Eq.trans ?_ k
  show ({ u.mask m with flt := (f u.flt).blank m } : State) = u.mask m
  rw [h]; rfl

theorem State.modEasy_keep {m : Nat} {s u : State} {f : EasyS → EasyS} (h : ∀ x, (f x).blank m = x.blank m) (k : Keep m s u) :
    Keep m s (u.modEasy f) := by
  refine Eq.trans ?_ k
  show ({ u.mask m with easy := (f u.easy).blank m } : State) = u.mask m
  rw [h]; rfl

theorem State.modStr_keep {m : Nat} {s u : State} {f : StartS → StartS} (h : ∀ x, (f x).blank m = x.blank m) (k : Keep m s u) :
    Keep m s (u.modStr f) := by
  refine Eq.trans ?_ k
  show ({ u.mask m with str := (f u.str).blank m } : State) = u.mask m
  rw [h]; rfl

theorem State.modCox_keep {m : Nat} {s u : State} {f : CoxS → CoxS} (h : ∀ x, (f x).blank m = x.blank m) (k : Keep m s u) :
    Keep m s (u.modCox f) := by
  refine Eq.trans ?_ k
  show ({ u.mask m with cox := (f u.cox).blank m } : State) = u.mask m
  rw [h]; rfl

theorem State.modFls_keep {m : Nat} {s u : State} {f : FlashS → FlashS} (h : ∀ x, (f x).blank m = x.blank m) (k : Keep m s u) :
    Keep m s (u.modFls f) := by
  refine Eq.trans ?_ k
  show ({ u.mask m with fls := (f u.fls).blank m } : State) = u.mask m
  rw [h]; rfl

theorem State.modImg_keep {m : Nat} {s u : State} {f : ImagesS → ImagesS} (h : ∀ x, (f x).blank m = x.blank m) (k : Keep m s u) :
    Keep m s (u.modImg f) := by
  refine Eq.trans ?_ k
  show ({ u.mask m with img := (f u.img).blank m } : State) = u.mask m
  rw [h]; rfl

theorem State.modPar_keep {m : Nat} {s u : State} {f : ParamS → ParamS} (h : ∀ x, (f x).blank m = x.blank m) (k : Keep m s u) :
    Keep m s (u.modPar f) := by
  refine Eq.trans ?_ k
  show ({ u.mask m with par := (f u.par).blank m } : State) = u.mask m
  rw [h]; rfl

theorem State.modLog_keep {m : Nat} {s u : State} {f : LogS → LogS} (h : ∀ x, (f x).blank m = x.blank m) (k : Keep m s u) :
    Keep m s (u.modLog f) := by
  refine Eq.trans ?_ k
  show ({ u.mask m with log := (f u.log).blank m } : State) = u.mask m
  rw [h]; rfl

theorem State.modTly_keep {m : Nat} {s u : State} {f : TallyS → TallyS} (h : ∀ x, (f x).blank m = x.blank m) (k : Keep m s u) :
    Keep m s (u.modTly f) := by
  refine Eq.trans ?_ k
  show ({ u.mask m with tly := (f u.tly).blank m } : State) = u.mask m
  rw [h]; rfl

theorem State.modWop_keep {m : Nat} {s u : State} {f : WopS → WopS} (h : ∀ x, (f x).blank m = x.blank m) (k : Keep m s u) :
    Keep m s (u.modWop f) := by
  refine Eq.trans ?_ k
  show ({ u.mask m with wop := (f u.wop).blank m } : State) = u.mask m
  rw [h]; rfl

theorem State.modOut_keep {m : Nat} {s u : State} {f : List Out → List Out} (h : m.testBit 338 = true) (k : Keep m s u) : Keep m s (u.modOut f) := by
  refine Eq.trans ?_ k
  simp only [State.mask, State.modOut, h, if_true]

theorem State.modFree_keep {m : Nat} {s u : State} {f : Nat → Nat} (h : m.testBit 339 = true) (k : Keep m s u) : Keep m s (u.modFree f) := by
  refine Eq.trans ?_ k
  simp only [State.mask, State.modFree, h, if_true]

theorem State.modPending_keep {m : Nat} {s u : State} {f : List Instr → List Instr} (h : m.testBit 340 = true) (k : Keep m s u) : Keep m s (u.modPending f) := by
  refine Eq.trans ?_ k
  simp only [State.mask, State.modPending, h, if_true]

end Sys2Proof.Machine
end

