-- ==== Sys2Proof/Laws/KeepShared.lean ====
section
/-! SUPPORT. What every operation and meaning keeps (the operations that several units share): outside the fields that it lists, the state after is the state before. -/

set_option Elab.async false

set_option linter.unusedTactic false
set_option linter.unreachableTactic false
set_option linter.unnecessarySeqFocus false
set_option linter.unusedSimpArgs false

namespace Sys2Proof.Machine

theorem State.emit_keep {l : Nat} (h : covers 0x4000000000000000000000000000000000000000000000000000000000000000000000000000000000000 l) {s : State} {u : State} (k : Keep l s u) (a0) :
    Keep l s (State.emit a0 u) := by
  have b338 := covers_bit (i := 338) h (by decide)
  unfold State.emit
  with_reducible repeat' first
    | assumption
    | exact covers_trans (by decide) h
    | apply keep_ite
    | refine State.modOut_keep b338 ?_
    | split
    | dsimp only
    | intro _

theorem State.modSlot_keep {l : Nat} (h : covers 0x400 l) {s : State} {u : State} (k : Keep l s u) (a0) (a1) :
    Keep l s (State.modSlot a0 a1 u) := by
  have b10 := covers_bit (i := 10) h (by decide)
  unfold State.modSlot
  with_reducible repeat' first
    | assumption
    | exact covers_trans (by decide) h
    | apply keep_ite
    | (intro x; simp only [ObjS.blank, b10, if_true]; done)
    | (intro x; (try dsimp only); (repeat' split) <;> (simp only [ObjS.blank, b10, if_true]; done))
    | refine State.modObj_keep ?_ ?_
    | split
    | dsimp only
    | intro _

theorem State.storeWrite_keep {l : Nat} (h : covers 0x2200000000000000000000000000000000000000000000000000000000000000000000000000 l) {s : State} {u : State} (k : Keep l s u) (a0) :
    Keep l s (State.storeWrite a0 u) := by
  have b297 := covers_bit (i := 297) h (by decide)
  have b301 := covers_bit (i := 301) h (by decide)
  unfold State.storeWrite
  with_reducible repeat' first
    | assumption
    | exact covers_trans (by decide) h
    | apply keep_ite
    | (intro x; simp only [ParamS.blank, b297, b301, if_true]; done)
    | (intro x; (try dsimp only); (repeat' split) <;> (simp only [ParamS.blank, b297, b301, if_true]; done))
    | refine State.modPar_keep ?_ ?_
    | split
    | dsimp only
    | intro _

theorem State.reserveSeq_keep {l : Nat} (h : covers 0x82200000000000000000000000000000000000000000000000000000000000000000000000000 l) {s : State} {u : State} (k : Keep l s u)  :
    Keep l s (State.reserveSeq u) := by
  have b307 := covers_bit (i := 307) h (by decide)
  unfold State.reserveSeq
  with_reducible repeat' first
    | assumption
    | exact covers_trans (by decide) h
    | apply keep_ite
    | (intro x; simp only [LogS.blank, b307, if_true]; done)
    | (intro x; (try dsimp only); (repeat' split) <;> (simp only [LogS.blank, b307, if_true]; done))
    | refine State.modLog_keep ?_ ?_
    | apply State.storeWrite_keep
    | split
    | dsimp only
    | intro _

theorem State.stage_keep {l : Nat} (h : covers 0x8eca200000000000000000000000000000000000000000000000000000000000000000000000000 l) {s : State} {u : State} (k : Keep l s u) (a0) :
    Keep l s (State.stage a0 u).2 := by
  have b303 := covers_bit (i := 303) h (by decide)
  have b306 := covers_bit (i := 306) h (by decide)
  have b309 := covers_bit (i := 309) h (by decide)
  have b310 := covers_bit (i := 310) h (by decide)
  have b311 := covers_bit (i := 311) h (by decide)
  have b315 := covers_bit (i := 315) h (by decide)
  unfold State.stage
  with_reducible repeat' first
    | assumption
    | exact covers_trans (by decide) h
    | apply keep_ite
    | apply keep_ite_snd
    | (intro x; simp only [LogS.blank, b303, b306, b309, b310, b311, b315, if_true]; done)
    | (intro x; (try dsimp only); (repeat' split) <;> (simp only [LogS.blank, b303, b306, b309, b310, b311, b315, if_true]; done))
    | refine State.modLog_keep ?_ ?_
    | apply State.reserveSeq_keep
    | split
    | dsimp only
    | intro _

theorem State.modSession_keep {l : Nat} (h : covers 0x400000000000000000000000000000000000000000000000000000000000000000000000000000000000 l) {s : State} {u : State} (k : Keep l s u) (a0) (a1) :
    Keep l s (State.modSession a0 a1 u) := by
  have b334 := covers_bit (i := 334) h (by decide)
  unfold State.modSession
  with_reducible repeat' first
    | assumption
    | exact covers_trans (by decide) h
    | apply keep_ite
    | (intro x; simp only [WopS.blank, b334, if_true]; done)
    | (intro x; (try dsimp only); (repeat' split) <;> (simp only [WopS.blank, b334, if_true]; done))
    | refine State.modWop_keep ?_ ?_
    | split
    | dsimp only
    | intro _

theorem State.sendNotify_keep {l : Nat} (h : covers 0x4430000000000000000000000000000000000000000000000000000000000000000000000000000000000 l) {s : State} {u : State} (k : Keep l s u) (a0) (a1) (a2) (a3) (a4) :
    Keep l s (State.sendNotify a0 a1 a2 a3 a4 u) := by
  have b328 := covers_bit (i := 328) h (by decide)
  have b329 := covers_bit (i := 329) h (by decide)
  unfold State.sendNotify
  with_reducible repeat' first
    | assumption
    | exact covers_trans (by decide) h
    | apply keep_ite
    | (intro x; simp only [WopS.blank, b328, b329, if_true]; done)
    | (intro x; (try dsimp only); (repeat' split) <;> (simp only [WopS.blank, b328, b329, if_true]; done))
    | refine State.modWop_keep ?_ ?_
    | apply State.emit_keep
    | apply State.modSession_keep
    | split
    | dsimp only
    | intro _

theorem State.notifySlot_keep {l : Nat} (h : covers 0x4430000000000000000000000000000000000000000000000000000000000000000000000000000000000 l) {s : State} {u : State} (k : Keep l s u) (a0) (a1) (a2) (a3) :
    Keep l s (State.notifySlot a0 a1 a2 a3 u) := by
  unfold State.notifySlot
  with_reducible repeat' first
    | assumption
    | exact covers_trans (by decide) h
    | apply keep_ite
    | apply State.modSession_keep
    | apply State.sendNotify_keep
    | split
    | dsimp only
    | intro _

theorem State.notify_keep {l : Nat} (h : covers 0x4430000000000000000000000000000000000000000000000000000000000000000000000000000000000 l) {s : State} {u : State} (k : Keep l s u) (a0) (a1) :
    Keep l s (State.notify a0 a1 u) := by
  unfold State.notify
  with_reducible repeat' first
    | assumption
    | exact covers_trans (by decide) h
    | apply keep_ite
    | refine forEach_keep (fun _ _ _ => ?_) ?_ _
    | apply State.notifySlot_keep
    | split
    | dsimp only
    | intro _

theorem State.logE_keep {l : Nat} (h : covers 0x4430008eca200000000000000000000000000000000000000000000000000000000000000000000000000 l) {s : State} {u : State} (k : Keep l s u) (a0) :
    Keep l s (State.logE a0 u).2 := by
  unfold State.logE
  with_reducible repeat' first
    | assumption
    | exact covers_trans (by decide) h
    | apply keep_ite
    | apply keep_ite_snd
    | apply State.stage_keep
    | refine snd_of_eq ‹State.stage _ _ = _› (State.stage_keep ?_ ?_ _)
    | apply State.notify_keep
    | split
    | dsimp only
    | intro _

theorem State.record_keep {l : Nat} (h : covers 0x4430008eca200000000000000000000000000000000000000000000000000000000000000000000000000 l) {s : State} {u : State} (k : Keep l s u) (a0) :
    Keep l s (State.record a0 u) := by
  unfold State.record
  with_reducible repeat' first
    | assumption
    | exact covers_trans (by decide) h
    | apply keep_ite
    | apply State.logE_keep
    | refine snd_of_eq ‹State.logE _ _ = _› (State.logE_keep ?_ ?_ _)
    | split
    | dsimp only
    | intro _

theorem State.manage_keep {l : Nat} (h : covers 0x4430008eca200000000000000000000000000000000000000000000000000000000000000000000000000 l) {s : State} {u : State} (k : Keep l s u) (a0) (a1) (a2) (a3) (a4) (a5) (a6) (a7) :
    Keep l s (State.manage a0 a1 a2 a3 a4 a5 a6 a7 u) := by
  unfold State.manage
  with_reducible repeat' first
    | assumption
    | exact covers_trans (by decide) h
    | apply keep_ite
    | apply State.record_keep
    | split
    | dsimp only
    | intro _

theorem State.ticketDone_keep {l : Nat} (h : covers 0x4430008eca200000000000000000000000000000000000000000000000000000000000000000000020400 l) {s : State} {u : State} (k : Keep l s u) (a0) (a1) (a2) :
    Keep l s (State.ticketDone a0 a1 a2 u) := by
  have b17 := covers_bit (i := 17) h (by decide)
  unfold State.ticketDone
  with_reducible repeat' first
    | assumption
    | exact covers_trans (by decide) h
    | apply keep_ite
    | (intro x; simp only [ObjS.blank, b17, if_true]; done)
    | (intro x; (try dsimp only); (repeat' split) <;> (simp only [ObjS.blank, b17, if_true]; done))
    | refine State.modObj_keep ?_ ?_
    | apply State.modSlot_keep
    | apply State.manage_keep
    | split
    | dsimp only
    | intro _

theorem State.modHead_keep {l : Nat} (h : covers 0x1000000000000000000000000000 l) {s : State} {u : State} (k : Keep l s u) (a0) (a1) :
    Keep l s (State.modHead a0 a1 u) := by
  have b108 := covers_bit (i := 108) h (by decide)
  unfold State.modHead
  with_reducible repeat' first
    | assumption
    | exact covers_trans (by decide) h
    | apply keep_ite
    | (intro x; simp only [HostS.blank, b108, if_true]; done)
    | (intro x; (try dsimp only); (repeat' split) <;> (simp only [HostS.blank, b108, if_true]; done))
    | refine State.modHst_keep ?_ ?_
    | split
    | dsimp only
    | intro _

theorem State.modLink_keep {l : Nat} (h : covers 0x800000000000000000000000000 l) {s : State} {u : State} (k : Keep l s u) (a0) (a1) :
    Keep l s (State.modLink a0 a1 u) := by
  have b107 := covers_bit (i := 107) h (by decide)
  unfold State.modLink
  with_reducible repeat' first
    | assumption
    | exact covers_trans (by decide) h
    | apply keep_ite
    | (intro x; simp only [HostS.blank, b107, if_true]; done)
    | (intro x; (try dsimp only); (repeat' split) <;> (simp only [HostS.blank, b107, if_true]; done))
    | refine State.modHst_keep ?_ ?_
    | split
    | dsimp only
    | intro _

theorem State.msix_keep {l : Nat} (h : covers 0x4000000000000000000000000000000000000000000000000000000000800000000000000000000000000 l) {s : State} {u : State} (k : Keep l s u) (a0) (a1) :
    Keep l s (State.msix a0 a1 u) := by
  unfold State.msix
  with_reducible repeat' first
    | assumption
    | exact covers_trans (by decide) h
    | apply keep_ite
    | apply State.emit_keep
    | apply State.modLink_keep
    | split
    | dsimp only
    | intro _

theorem State.modEq_keep {l : Nat} (h : covers 0x1000000000000000000000000000 l) {s : State} {u : State} (k : Keep l s u) (a0) (a1) :
    Keep l s (State.modEq a0 a1 u) := by
  unfold State.modEq
  with_reducible repeat' first
    | assumption
    | exact covers_trans (by decide) h
    | apply keep_ite
    | apply State.modHead_keep
    | split
    | dsimp only
    | intro _

theorem State.eqSignal_keep {l : Nat} (h : covers 0x4000000000000000000000000000000000000000000000000000000001800000000000000000000000000 l) {s : State} {u : State} (k : Keep l s u) (a0) :
    Keep l s (State.eqSignal a0 u) := by
  unfold State.eqSignal
  with_reducible repeat' first
    | assumption
    | exact covers_trans (by decide) h
    | apply keep_ite
    | apply State.msix_keep
    | apply State.modEq_keep
    | split
    | dsimp only
    | intro _

theorem State.eqPost_keep {l : Nat} (h : covers 0x4430000000000000000000000000000000000000000000000000000001800000000000000000000000000 l) {s : State} {u : State} (k : Keep l s u) (a0) (a1) (a2) (a3) (a4) :
    Keep l s (State.eqPost a0 a1 a2 a3 a4 u) := by
  unfold State.eqPost
  with_reducible repeat' first
    | assumption
    | exact covers_trans (by decide) h
    | apply keep_ite
    | apply State.when_keep
    | apply State.emit_keep
    | apply State.notify_keep
    | apply State.modHead_keep
    | apply State.modEq_keep
    | apply State.eqSignal_keep
    | split
    | dsimp only
    | intro _

theorem State.headEvent_keep {l : Nat} (h : covers 0x4430008eca200000000000000000000000000000000000000000000001800000000000000000000000000 l) {s : State} {u : State} (k : Keep l s u) (a0) (a1) (a2) (a3) :
    Keep l s (State.headEvent a0 a1 a2 a3 u) := by
  unfold State.headEvent
  with_reducible repeat' first
    | assumption
    | exact covers_trans (by decide) h
    | apply keep_ite
    | refine forEach_keep (fun _ _ _ => ?_) ?_ _
    | apply State.logE_keep
    | refine snd_of_eq ‹State.logE _ _ = _› (State.logE_keep ?_ ?_ _)
    | apply State.eqPost_keep
    | split
    | dsimp only
    | intro _

theorem State.boundSyncHead_keep {l : Nat} (h : covers 0x4430008eca200000000000000000000000000000000000000000000001800000000000000000000000000 l) {s : State} {u : State} (k : Keep l s u) (a0) :
    Keep l s (State.boundSyncHead a0 u) := by
  unfold State.boundSyncHead
  with_reducible repeat' first
    | assumption
    | exact covers_trans (by decide) h
    | apply keep_ite
    | apply State.modHead_keep
    | apply State.msix_keep
    | apply State.headEvent_keep
    | split
    | dsimp only
    | intro _

theorem State.boundSync_keep {l : Nat} (h : covers 0x4430008eca200000000000000000000000000000000000000000000001800000000000000000000000000 l) {s : State} {u : State} (k : Keep l s u)  :
    Keep l s (State.boundSync u) := by
  unfold State.boundSync
  with_reducible repeat' first
    | assumption
    | exact covers_trans (by decide) h
    | apply keep_ite
    | refine forEach_keep (fun _ _ _ => ?_) ?_ _
    | apply State.boundSyncHead_keep
    | split
    | dsimp only
    | intro _

theorem State.modPort_keep {l : Nat} (h : covers 0x400000000000000000000000000 l) {s : State} {u : State} (k : Keep l s u) (a0) (a1) :
    Keep l s (State.modPort a0 a1 u) := by
  have b106 := covers_bit (i := 106) h (by decide)
  unfold State.modPort
  with_reducible repeat' first
    | assumption
    | exact covers_trans (by decide) h
    | apply keep_ite
    | (intro x; simp only [HostS.blank, b106, if_true]; done)
    | (intro x; (try dsimp only); (repeat' split) <;> (simp only [HostS.blank, b106, if_true]; done))
    | refine State.modHst_keep ?_ ?_
    | split
    | dsimp only
    | intro _

theorem State.creditSync_keep {l : Nat} (h : covers 0x400000000000000000000000000 l) {s : State} {u : State} (k : Keep l s u)  :
    Keep l s (State.creditSync u) := by
  unfold State.creditSync
  with_reducible repeat' first
    | assumption
    | exact covers_trans (by decide) h
    | apply keep_ite
    | refine forEach_keep (fun _ _ _ => ?_) ?_ _
    | apply State.modPort_keep
    | split
    | dsimp only
    | intro _

theorem State.withholdAll_keep {l : Nat} (h : covers 0x400000000000000000000000000 l) {s : State} {u : State} (k : Keep l s u)  :
    Keep l s (State.withholdAll u) := by
  unfold State.withholdAll
  with_reducible repeat' first
    | assumption
    | exact covers_trans (by decide) h
    | apply keep_ite
    | refine forEach_keep (fun _ _ _ => ?_) ?_ _
    | apply State.modPort_keep
    | split
    | dsimp only
    | intro _

theorem State.linkEvent_keep {l : Nat} (h : covers 0x4430008eca200000000000000000000000000000000000000000000001800000000000000000000000000 l) {s : State} {u : State} (k : Keep l s u) (a0) :
    Keep l s (State.linkEvent a0 u) := by
  unfold State.linkEvent
  with_reducible repeat' first
    | assumption
    | exact covers_trans (by decide) h
    | apply keep_ite
    | apply State.msix_keep
    | apply State.headEvent_keep
    | split
    | dsimp only
    | intro _

theorem State.queueFault_keep {l : Nat} (h : covers 0xf0000000000000000000000000000000000000000000000000000000 l) {s : State} {u : State} (k : Keep l s u) (a0) :
    Keep l s (State.queueFault a0 u) := by
  have b220 := covers_bit (i := 220) h (by decide)
  have b221 := covers_bit (i := 221) h (by decide)
  have b222 := covers_bit (i := 222) h (by decide)
  have b223 := covers_bit (i := 223) h (by decide)
  unfold State.queueFault
  with_reducible repeat' first
    | assumption
    | exact covers_trans (by decide) h
    | apply keep_ite
    | (intro x; simp only [FaultS.blank, b220, b221, b222, b223, if_true]; done)
    | (intro x; (try dsimp only); (repeat' split) <;> (simp only [FaultS.blank, b220, b221, b222, b223, if_true]; done))
    | refine State.modFlt_keep ?_ ?_
    | split
    | dsimp only
    | intro _

theorem State.enterViral_keep {l : Nat} (h : covers 0x4430008eca2000000000000000000f0000000000000000000000000001800000000000000000000000000 l) {s : State} {u : State} (k : Keep l s u) (a0) :
    Keep l s (State.enterViral a0 u) := by
  unfold State.enterViral
  with_reducible repeat' first
    | assumption
    | exact covers_trans (by decide) h
    | apply keep_ite
    | apply State.modHead_keep
    | apply State.linkEvent_keep
    | apply State.queueFault_keep
    | split
    | dsimp only
    | intro _

theorem State.signalViral_keep {l : Nat} (h : covers 0x4430008eca2000000000000000000f0000000000000000000000000001800000000000000000000000000 l) {s : State} {u : State} (k : Keep l s u) (a0) :
    Keep l s (State.signalViral a0 u) := by
  unfold State.signalViral
  with_reducible repeat' first
    | assumption
    | exact covers_trans (by decide) h
    | apply keep_ite
    | apply State.emit_keep
    | apply State.enterViral_keep
    | split
    | dsimp only
    | intro _

theorem State.powerEvent_keep {l : Nat} (h : covers 0x4430008eca200000000000000000000000000000000000000000000000000000000000000000000000000 l) {s : State} {u : State} (k : Keep l s u) (a0) :
    Keep l s (State.powerEvent a0 u) := by
  unfold State.powerEvent
  with_reducible repeat' first
    | assumption
    | exact covers_trans (by decide) h
    | apply keep_ite
    | apply State.record_keep
    | split
    | dsimp only
    | intro _

theorem State.modDomain_keep {l : Nat} (h : covers 0x40000000000 l) {s : State} {u : State} (k : Keep l s u) (a0) (a1) :
    Keep l s (State.modDomain a0 a1 u) := by
  have b42 := covers_bit (i := 42) h (by decide)
  unfold State.modDomain
  with_reducible repeat' first
    | assumption
    | exact covers_trans (by decide) h
    | apply keep_ite
    | (intro x; simp only [PowerS.blank, b42, if_true]; done)
    | (intro x; (try dsimp only); (repeat' split) <;> (simp only [PowerS.blank, b42, if_true]; done))
    | refine State.modPwr_keep ?_ ?_
    | split
    | dsimp only
    | intro _

theorem State.zeroMargins_keep {l : Nat} (h : covers 0x4430008eca200000000000000000000000000000000000000000000000000000000000000040000000000 l) {s : State} {u : State} (k : Keep l s u)  :
    Keep l s (State.zeroMargins u) := by
  unfold State.zeroMargins
  with_reducible repeat' first
    | assumption
    | exact covers_trans (by decide) h
    | apply keep_ite
    | refine forEach_keep (fun _ _ _ => ?_) ?_ _
    | apply State.powerEvent_keep
    | apply State.modDomain_keep
    | split
    | dsimp only
    | intro _

theorem State.fire_keep {l : Nat} (h : covers 0x8eca200000000000000000000000000000000000000000000000000000000000000000000000000 l) {s : State} {u : State} (k : Keep l s u) (a0) (a1) (a2) :
    Keep l s (State.fire a0 a1 a2 u) := by
  unfold State.fire
  with_reducible repeat' first
    | assumption
    | exact covers_trans (by decide) h
    | apply keep_ite
    | refine forEach_keep (fun _ _ _ => ?_) ?_ _
    | apply State.stage_keep
    | refine snd_of_eq ‹State.stage _ _ = _› (State.stage_keep ?_ ?_ _)
    | split
    | dsimp only
    | intro _

theorem State.fireWhere_keep {l : Nat} (h : covers 0x8eca200000000000000000000000000000000000000000000000000000000000000000000000000 l) {s : State} {u : State} (k : Keep l s u) (a0) (a1) :
    Keep l s (State.fireWhere a0 a1 u) := by
  unfold State.fireWhere
  with_reducible repeat' first
    | assumption
    | exact covers_trans (by decide) h
    | apply keep_ite
    | refine forEach_keep (fun _ _ _ => ?_) ?_ _
    | apply State.fire_keep
    | split
    | dsimp only
    | intro _

theorem State.easyBegin_keep {l : Nat} (h : covers 0x4430008eca200000000000000d000f0000000000000000000018000001c00000000000000040000100000 l) {s : State} {u : State} (k : Keep l s u) (a0) :
    Keep l s (State.easyBegin a0 u) := by
  have b20 := covers_bit (i := 20) h (by decide)
  have b135 := covers_bit (i := 135) h (by decide)
  have b136 := covers_bit (i := 136) h (by decide)
  have b236 := covers_bit (i := 236) h (by decide)
  have b238 := covers_bit (i := 238) h (by decide)
  have b239 := covers_bit (i := 239) h (by decide)
  unfold State.easyBegin
  with_reducible repeat' first
    | assumption
    | exact covers_trans (by decide) h
    | apply keep_ite
    | (intro x; simp only [PowerS.blank, EasyS.blank, WbS.blank, b20, b135, b136, b236, b238, b239, if_true]; done)
    | (intro x; (try dsimp only); (repeat' split) <;> (simp only [PowerS.blank, EasyS.blank, WbS.blank, b20, b135, b136, b236, b238, b239, if_true]; done))
    | refine State.modPwr_keep ?_ ?_
    | refine State.modEasy_keep ?_ ?_
    | refine State.modWb_keep ?_ ?_
    | refine forEach_keep (fun _ _ _ => ?_) ?_ _
    | apply State.boundSync_keep
    | apply State.withholdAll_keep
    | apply State.signalViral_keep
    | apply State.zeroMargins_keep
    | apply State.fireWhere_keep
    | split
    | dsimp only
    | intro _

theorem State.easyEnter_keep {l : Nat} (h : covers 0x4430008eca200000000000000f000f0000000000000000000018000001c00000000000000040000100000 l) {s : State} {u : State} (k : Keep l s u) (a0) :
    Keep l s (State.easyEnter a0 u) := by
  have b237 := covers_bit (i := 237) h (by decide)
  unfold State.easyEnter
  with_reducible repeat' first
    | assumption
    | exact covers_trans (by decide) h
    | apply keep_ite
    | (intro x; simp only [EasyS.blank, b237, if_true]; done)
    | (intro x; (try dsimp only); (repeat' split) <;> (simp only [EasyS.blank, b237, if_true]; done))
    | refine State.modEasy_keep ?_ ?_
    | refine forEach_keep (fun _ _ _ => ?_) ?_ _
    | apply State.signalViral_keep
    | apply State.easyBegin_keep
    | split
    | dsimp only
    | intro _

theorem State.modChannel_keep {l : Nat} (h : covers 0x8000000000000000000000000000000000000 l) {s : State} {u : State} (k : Keep l s u) (a0) (a1) :
    Keep l s (State.modChannel a0 a1 u) := by
  have b147 := covers_bit (i := 147) h (by decide)
  unfold State.modChannel
  with_reducible repeat' first
    | assumption
    | exact covers_trans (by decide) h
    | apply keep_ite
    | (intro x; simp only [MediaS.blank, b147, if_true]; done)
    | (intro x; (try dsimp only); (repeat' split) <;> (simp only [MediaS.blank, b147, if_true]; done))
    | refine State.modMed_keep ?_ ?_
    | split
    | dsimp only
    | intro _

theorem State.setSticky_keep {l : Nat} (h : covers 0x1c00000000000000000000000000000000000000000000000000000000 l) {s : State} {u : State} (k : Keep l s u) (a0) :
    Keep l s (State.setSticky a0 u) := by
  have b226 := covers_bit (i := 226) h (by decide)
  have b227 := covers_bit (i := 227) h (by decide)
  have b228 := covers_bit (i := 228) h (by decide)
  unfold State.setSticky
  with_reducible repeat' first
    | assumption
    | exact covers_trans (by decide) h
    | apply keep_ite
    | (intro x; simp only [FaultS.blank, b226, b227, b228, if_true]; done)
    | (intro x; (try dsimp only); (repeat' split) <;> (simp only [FaultS.blank, b226, b227, b228, if_true]; done))
    | refine State.modFlt_keep ?_ ?_
    | apply State.when_keep
    | split
    | dsimp only
    | intro _

theorem State.fatal_keep {l : Nat} (h : covers 0x4430008eca200000000000000f700f0000000000000000000018000001c00000000000000040000100000 l) {s : State} {u : State} (k : Keep l s u) (a0) :
    Keep l s (State.fatal a0 u) := by
  have b232 := covers_bit (i := 232) h (by decide)
  have b233 := covers_bit (i := 233) h (by decide)
  have b234 := covers_bit (i := 234) h (by decide)
  unfold State.fatal
  with_reducible repeat' first
    | assumption
    | exact covers_trans (by decide) h
    | apply keep_ite
    | (intro x; simp only [FaultS.blank, b232, b233, b234, if_true]; done)
    | (intro x; (try dsimp only); (repeat' split) <;> (simp only [FaultS.blank, b232, b233, b234, if_true]; done))
    | refine State.modFlt_keep ?_ ?_
    | apply State.easyEnter_keep
    | split
    | dsimp only
    | intro _

theorem State.report_keep {l : Nat} (h : covers 0x4430008eca200000000000000f71ef0000000000000000000018000001c00000000000000040000100000 l) {s : State} {u : State} (k : Keep l s u) (a0) (a1) (a2) :
    Keep l s (State.report a0 a1 a2 u) := by
  have b225 := covers_bit (i := 225) h (by decide)
  unfold State.report
  with_reducible repeat' first
    | assumption
    | exact covers_trans (by decide) h
    | apply keep_ite
    | (intro x; simp only [FaultS.blank, b225, if_true]; done)
    | (intro x; (try dsimp only); (repeat' split) <;> (simp only [FaultS.blank, b225, if_true]; done))
    | refine State.modFlt_keep ?_ ?_
    | apply State.when_keep
    | apply State.queueFault_keep
    | apply State.setSticky_keep
    | apply State.fatal_keep
    | split
    | dsimp only
    | intro _

theorem State.modDie_keep {l : Nat} (h : covers 0x4000000000000000000000000000000000000 l) {s : State} {u : State} (k : Keep l s u) (a0) (a1) :
    Keep l s (State.modDie a0 a1 u) := by
  have b146 := covers_bit (i := 146) h (by decide)
  unfold State.modDie
  with_reducible repeat' first
    | assumption
    | exact covers_trans (by decide) h
    | apply keep_ite
    | (intro x; simp only [MediaS.blank, b146, if_true]; done)
    | (intro x; (try dsimp only); (repeat' split) <;> (simp only [MediaS.blank, b146, if_true]; done))
    | refine State.modMed_keep ?_ ?_
    | split
    | dsimp only
    | intro _

theorem State.modActivity_keep {l : Nat} (h : covers 0x4000000000000000000000000000000000000000 l) {s : State} {u : State} (k : Keep l s u) (a0) (a1) :
    Keep l s (State.modActivity a0 a1 u) := by
  have b158 := covers_bit (i := 158) h (by decide)
  unfold State.modActivity
  with_reducible repeat' first
    | assumption
    | exact covers_trans (by decide) h
    | apply keep_ite
    | (intro x; simp only [TractS.blank, b158, if_true]; done)
    | (intro x; (try dsimp only); (repeat' split) <;> (simp only [TractS.blank, b158, if_true]; done))
    | refine State.modTrc_keep ?_ ?_
    | split
    | dsimp only
    | intro _

theorem State.modEntry_keep {l : Nat} (h : covers 0x800000000000000000000000000000000000000 l) {s : State} {u : State} (k : Keep l s u) (a0) (a1) :
    Keep l s (State.modEntry a0 a1 u) := by
  have b155 := covers_bit (i := 155) h (by decide)
  unfold State.modEntry
  with_reducible repeat' first
    | assumption
    | exact covers_trans (by decide) h
    | apply keep_ite
    | (intro x; simp only [TractS.blank, b155, if_true]; done)
    | (intro x; (try dsimp only); (repeat' split) <;> (simp only [TractS.blank, b155, if_true]; done))
    | refine State.modTrc_keep ?_ ?_
    | split
    | dsimp only
    | intro _

theorem State.linkDown_keep {l : Nat} (h : covers 0x4430008eca200000000000000f000f0000000000000000000018000881c00000000000000040000100000 l) {s : State} {u : State} (k : Keep l s u) (a0) :
    Keep l s (State.linkDown a0 u) := by
  have b115 := covers_bit (i := 115) h (by decide)
  have b119 := covers_bit (i := 119) h (by decide)
  unfold State.linkDown
  with_reducible repeat' first
    | assumption
    | exact covers_trans (by decide) h
    | apply keep_ite
    | (intro x; simp only [ReadPathS.blank, WbS.blank, b115, b119, if_true]; done)
    | (intro x; (try dsimp only); (repeat' split) <;> (simp only [ReadPathS.blank, WbS.blank, b115, b119, if_true]; done))
    | refine State.modRdp_keep ?_ ?_
    | refine State.modWb_keep ?_ ?_
    | apply State.when_keep
    | apply State.modHead_keep
    | apply State.modLink_keep
    | apply State.headEvent_keep
    | apply State.boundSync_keep
    | apply State.modPort_keep
    | apply State.easyEnter_keep
    | split
    | dsimp only
    | intro _

theorem State.train_keep {l : Nat} (h : covers 0x1800000000000000000000000000 l) {s : State} {u : State} (k : Keep l s u) (a0) :
    Keep l s (State.train a0 u) := by
  unfold State.train
  with_reducible repeat' first
    | assumption
    | exact covers_trans (by decide) h
    | apply keep_ite
    | apply State.modHead_keep
    | apply State.modLink_keep
    | split
    | dsimp only
    | intro _

theorem State.applyMode_keep {l : Nat} (h : covers 0x400000000000000000000000000 l) {s : State} {u : State} (k : Keep l s u) (a0) :
    Keep l s (State.applyMode a0 u) := by
  unfold State.applyMode
  with_reducible repeat' first
    | assumption
    | exact covers_trans (by decide) h
    | apply keep_ite
    | apply State.modPort_keep
    | split
    | dsimp only
    | intro _

theorem State.portSync_keep {l : Nat} (h : covers 0x4430008eca200000000000000f000f0000000000000000000018000881c00000000000000040000100000 l) {s : State} {u : State} (k : Keep l s u) (a0) :
    Keep l s (State.portSync a0 u) := by
  unfold State.portSync
  with_reducible repeat' first
    | assumption
    | exact covers_trans (by decide) h
    | apply keep_ite
    | apply State.when_keep
    | apply State.linkDown_keep
    | apply State.train_keep
    | apply State.applyMode_keep
    | split
    | dsimp only
    | intro _

theorem State.linksSync_keep {l : Nat} (h : covers 0x4430008eca200000000000000f000f0000000000000000000018000881c00000000000000040000100000 l) {s : State} {u : State} (k : Keep l s u)  :
    Keep l s (State.linksSync u) := by
  unfold State.linksSync
  with_reducible repeat' first
    | assumption
    | exact covers_trans (by decide) h
    | apply keep_ite
    | refine forEach_keep (fun _ _ _ => ?_) ?_ _
    | apply State.portSync_keep
    | split
    | dsimp only
    | intro _

theorem State.modPlane_keep {l : Nat} (h : covers 0x2000000000000000000000000000000000000 l) {s : State} {u : State} (k : Keep l s u) (a0) (a1) :
    Keep l s (State.modPlane a0 a1 u) := by
  have b145 := covers_bit (i := 145) h (by decide)
  unfold State.modPlane
  with_reducible repeat' first
    | assumption
    | exact covers_trans (by decide) h
    | apply keep_ite
    | (intro x; simp only [MediaS.blank, b145, if_true]; done)
    | (intro x; (try dsimp only); (repeat' split) <;> (simp only [MediaS.blank, b145, if_true]; done))
    | refine State.modMed_keep ?_ ?_
    | split
    | dsimp only
    | intro _

theorem State.securityFrom_keep {l : Nat} (h : covers 0x4430008eca200000000000000f71ef0000000000000000000018000001c00000000000000040000100000 l) {s : State} {u : State} (k : Keep l s u) (a0) (a1) (a2) (a3) (a4) :
    Keep l s (State.securityFrom a0 a1 a2 a3 a4 u) := by
  unfold State.securityFrom
  with_reducible repeat' first
    | assumption
    | exact covers_trans (by decide) h
    | apply keep_ite
    | apply State.record_keep
    | apply State.report_keep
    | split
    | dsimp only
    | intro _

theorem State.security_keep {l : Nat} (h : covers 0x4430008eca200000000000000f71ef0000000000000000000018000001c00000000000000040000100000 l) {s : State} {u : State} (k : Keep l s u) (a0) (a1) (a2) (a3) :
    Keep l s (State.security a0 a1 a2 a3 u) := by
  unfold State.security
  with_reducible repeat' first
    | assumption
    | exact covers_trans (by decide) h
    | apply keep_ite
    | apply State.securityFrom_keep
    | split
    | dsimp only
    | intro _

theorem State.keepAnswer_keep {l : Nat} (h : covers 0x400000000000000000000000000000000000000000000000000000000000000000000000000000000000 l) {s : State} {u : State} (k : Keep l s u) (a0) (a1) :
    Keep l s (State.keepAnswer a0 a1 u) := by
  unfold State.keepAnswer
  with_reducible repeat' first
    | assumption
    | exact covers_trans (by decide) h
    | apply keep_ite
    | apply State.modSession_keep
    | split
    | dsimp only
    | intro _

theorem State.mbAccess_keep {l : Nat} (h : covers 0x4000000000000000000000000000000000000000000000000000000000800000000000000000000000000 l) {s : State} {u : State} (k : Keep l s u) (a0) (a1) (a2) (a3) (a4) :
    Keep l s (State.mbAccess a0 a1 a2 a3 a4 u) := by
  unfold State.mbAccess
  with_reducible repeat' first
    | assumption
    | exact covers_trans (by decide) h
    | apply keep_ite
    | apply State.emit_keep
    | apply State.msix_keep
    | split
    | dsimp only
    | intro _

theorem State.respondTo_keep {l : Nat} (h : covers 0x4430008eca200000000000000000000000000000000000000000000000800000000000000000000020400 l) {s : State} {u : State} (k : Keep l s u) (a0) (a1) (a2) (a3) :
    Keep l s (State.respondTo a0 a1 a2 a3 u) := by
  have b328 := covers_bit (i := 328) h (by decide)
  unfold State.respondTo
  with_reducible repeat' first
    | assumption
    | exact covers_trans (by decide) h
    | apply keep_ite
    | (intro x; simp only [WopS.blank, b328, if_true]; done)
    | (intro x; (try dsimp only); (repeat' split) <;> (simp only [WopS.blank, b328, if_true]; done))
    | refine State.modWop_keep ?_ ?_
    | apply State.emit_keep
    | apply State.ticketDone_keep
    | apply State.keepAnswer_keep
    | apply State.mbAccess_keep
    | split
    | dsimp only
    | intro _

theorem State.countPages_keep {l : Nat} (h : covers 0x4000000000000000000000000000000000000000000000000000000000000000000000000000 l) {s : State} {u : State} (k : Keep l s u) (a0) (a1) :
    Keep l s (State.countPages a0 a1 u) := by
  have b302 := covers_bit (i := 302) h (by decide)
  unfold State.countPages
  with_reducible repeat' first
    | assumption
    | exact covers_trans (by decide) h
    | apply keep_ite
    | (intro x; simp only [ParamS.blank, b302, if_true]; done)
    | (intro x; (try dsimp only); (repeat' split) <;> (simp only [ParamS.blank, b302, if_true]; done))
    | refine State.modPar_keep ?_ ?_
    | split
    | dsimp only
    | intro _

theorem State.draw_keep {l : Nat} (h : covers 0x8000000000000000000000000000000000000000000000000000000000000000000000000000000000000 l) {s : State} {u : State} (k : Keep l s u)  :
    Keep l s (State.draw u).2 := by
  have b339 := covers_bit (i := 339) h (by decide)
  unfold State.draw
  with_reducible repeat' first
    | assumption
    | exact covers_trans (by decide) h
    | apply keep_ite
    | apply keep_ite_snd
    | refine State.modFree_keep b339 ?_
    | split
    | dsimp only
    | intro _

theorem State.closeSess_keep {l : Nat} (h : covers 0x5430008eca200000000000000000000000000000000000000000000000000000000000000000000004000 l) {s : State} {u : State} (k : Keep l s u) (a0) :
    Keep l s (State.closeSess a0 u) := by
  have b14 := covers_bit (i := 14) h (by decide)
  have b334 := covers_bit (i := 334) h (by decide)
  have b336 := covers_bit (i := 336) h (by decide)
  unfold State.closeSess
  with_reducible repeat' first
    | assumption
    | exact covers_trans (by decide) h
    | apply keep_ite
    | (intro x; simp only [WopS.blank, ObjS.blank, b14, b334, b336, if_true]; done)
    | (intro x; (try dsimp only); (repeat' split) <;> (simp only [WopS.blank, ObjS.blank, b14, b334, b336, if_true]; done))
    | refine State.modWop_keep ?_ ?_
    | refine State.modObj_keep ?_ ?_
    | apply State.manage_keep
    | split
    | dsimp only
    | intro _

theorem State.modUnit_keep {l : Nat} (h : covers 0x2000000000000000000000000000000000000000000000000000000000 l) {s : State} {u : State} (k : Keep l s u) (a0) (a1) :
    Keep l s (State.modUnit a0 a1 u) := by
  have b229 := covers_bit (i := 229) h (by decide)
  unfold State.modUnit
  with_reducible repeat' first
    | assumption
    | exact covers_trans (by decide) h
    | apply keep_ite
    | (intro x; simp only [FaultS.blank, b229, if_true]; done)
    | (intro x; (try dsimp only); (repeat' split) <;> (simp only [FaultS.blank, b229, if_true]; done))
    | refine State.modFlt_keep ?_ ?_
    | split
    | dsimp only
    | intro _

theorem State.modRebuild_keep {l : Nat} (h : covers 0x100000000000000000000000000000000000000000000000000000 l) {s : State} {u : State} (k : Keep l s u) (a0) (a1) :
    Keep l s (State.modRebuild a0 a1 u) := by
  have b212 := covers_bit (i := 212) h (by decide)
  unfold State.modRebuild
  with_reducible repeat' first
    | assumption
    | exact covers_trans (by decide) h
    | apply keep_ite
    | (intro x; simp only [ScrubS.blank, b212, if_true]; done)
    | (intro x; (try dsimp only); (repeat' split) <;> (simp only [ScrubS.blank, b212, if_true]; done))
    | refine State.modScr_keep ?_ ?_
    | split
    | dsimp only
    | intro _

theorem State.modSram_keep {l : Nat} (h : covers 0x800000000000000000000000000000000000000000000000000000 l) {s : State} {u : State} (k : Keep l s u) (a0) (a1) :
    Keep l s (State.modSram a0 a1 u) := by
  have b215 := covers_bit (i := 215) h (by decide)
  unfold State.modSram
  with_reducible repeat' first
    | assumption
    | exact covers_trans (by decide) h
    | apply keep_ite
    | (intro x; simp only [StagingS.blank, b215, if_true]; done)
    | (intro x; (try dsimp only); (repeat' split) <;> (simp only [StagingS.blank, b215, if_true]; done))
    | refine State.modStg_keep ?_ ?_
    | split
    | dsimp only
    | intro _

theorem State.answer_keep {l : Nat} {s : State} {u : State} (k : Keep l s u) (a0) :
    Keep l s (State.answer a0 u).2.2 := by
  unfold State.answer
  with_reducible repeat' first
    | assumption
    | apply keep_ite
    | apply keep_ite_acc
    | split
    | dsimp only
    | intro _

theorem guarded_keep {l : Nat} {s : State} {a3 : State → Acc} (ka3 : ∀  v, Keep l s v → Keep l s (a3  v).2.2) {u : State} (k : Keep l s u) (a0) (a1) (a2) :
    Keep l s (guarded a0 a1 a2 a3 u).2.2 := by
  unfold guarded
  with_reducible repeat' first
    | assumption
    | apply keep_ite
    | apply keep_ite_acc
    | apply State.answer_keep
    | refine ka3  _ ?_
    | split
    | dsimp only
    | intro _

theorem accessed_keep {l : Nat} {s u v : State} (k : Keep l s u) (k' : Keep l s v) : KeepR l s (accessed u v) := by
  unfold accessed
  exact .next (keep_ite k' k)

theorem respond_keep {l : Nat} (h : covers 0x4430008eca200000000000000000000000000000000000000000000000800000000000000000000030400 l) {s : State} {u : Acc} (k : Keep l s u.2.2) (a0) (a1) (a2) :
    Keep l s (respond a0 a1 a2 u) := by
  have b16 := covers_bit (i := 16) h (by decide)
  unfold respond
  with_reducible repeat' first
    | assumption
    | exact covers_trans (by decide) h
    | apply keep_ite
    | (intro x; simp only [ObjS.blank, b16, if_true]; done)
    | (intro x; (try dsimp only); (repeat' split) <;> (simp only [ObjS.blank, b16, if_true]; done))
    | refine State.modObj_keep ?_ ?_
    | apply State.respondTo_keep
    | split
    | dsimp only
    | intro _

theorem respondAccess_keep {l : Nat} (h : covers 0x4430008eca200000000000000000000000000000000000000000000000800000000000000000000030400 l) {s : State} {u : Acc} (k : Keep l s u.2.2) (a0) (a1) (a2) :
    Keep l s (respondAccess a0 a1 a2 u) := by
  unfold respondAccess
  with_reducible repeat' first
    | assumption
    | exact covers_trans (by decide) h
    | apply keep_ite
    | apply respond_keep
    | split
    | dsimp only
    | intro _

theorem State.ticketStart_keep {l : Nat} (h : covers 0x4430008eca200000000000000000000000000000000000000000000000000000000000000000000003c00 l) {s : State} {u : State} (k : Keep l s u) (a0) (a1) (a2) :
    Keep l s (State.ticketStart a0 a1 a2 u).2 := by
  have b10 := covers_bit (i := 10) h (by decide)
  have b11 := covers_bit (i := 11) h (by decide)
  have b12 := covers_bit (i := 12) h (by decide)
  have b13 := covers_bit (i := 13) h (by decide)
  unfold State.ticketStart
  with_reducible repeat' first
    | assumption
    | exact covers_trans (by decide) h
    | apply keep_ite
    | apply keep_ite_snd
    | (intro x; simp only [ObjS.blank, b10, b11, b12, b13, if_true]; done)
    | (intro x; (try dsimp only); (repeat' split) <;> (simp only [ObjS.blank, b10, b11, b12, b13, if_true]; done))
    | refine State.modObj_keep ?_ ?_
    | apply State.manage_keep
    | split
    | dsimp only
    | intro _

theorem State.deferred_keep {l : Nat} (h : covers 0x4430008eca200000000000000000000000000000000000000000000000000000000000000000000003c00 l) {s : State} {a3 : Nat → State → State} (ka3 : ∀ x0 v, Keep l s v → Keep l s (a3 x0 v)) {u : State} (k : Keep l s u) (a0) (a1) (a2) :
    Keep l s (State.deferred a0 a1 a2 a3 u).2.2 := by
  unfold State.deferred
  with_reducible repeat' first
    | assumption
    | exact covers_trans (by decide) h
    | apply keep_ite
    | apply keep_ite_acc
    | apply State.ticketStart_keep
    | refine snd_of_eq ‹State.ticketStart _ _ _ _ = _› (State.ticketStart_keep ?_ ?_ _ _ _)
    | refine ka3 _  _ ?_
    | split
    | dsimp only
    | intro _

theorem State.cxlEvent_keep {l : Nat} (h : covers 0x4000000000000000000000000000000000000000000000000000000000800000000000000000000000000 l) {s : State} {u : State} (k : Keep l s u) (a0) (a1) :
    Keep l s (State.cxlEvent a0 a1 u) := by
  unfold State.cxlEvent
  with_reducible repeat' first
    | assumption
    | exact covers_trans (by decide) h
    | apply keep_ite
    | apply State.emit_keep
    | apply State.msix_keep
    | split
    | dsimp only
    | intro _

theorem State.modPair_keep {l : Nat} (h : covers 0x2000000000000000000000000000 l) {s : State} {u : State} (k : Keep l s u) (a0) (a1) (a2) :
    Keep l s (State.modPair a0 a1 a2 u) := by
  have b109 := covers_bit (i := 109) h (by decide)
  unfold State.modPair
  with_reducible repeat' first
    | assumption
    | exact covers_trans (by decide) h
    | apply keep_ite
    | (intro x; simp only [ExtS.blank, b109, if_true]; done)
    | (intro x; (try dsimp only); (repeat' split) <;> (simp only [ExtS.blank, b109, if_true]; done))
    | refine State.modExt_keep ?_ ?_
    | split
    | dsimp only
    | intro _

theorem State.noteWriter_keep {l : Nat} (h : covers 0x40000 l) {s : State} {u : State} (k : Keep l s u) (a0) (a1) (a2) :
    Keep l s (State.noteWriter a0 a1 a2 u) := by
  have b18 := covers_bit (i := 18) h (by decide)
  unfold State.noteWriter
  with_reducible repeat' first
    | assumption
    | exact covers_trans (by decide) h
    | apply keep_ite
    | (intro x; simp only [ObjS.blank, b18, if_true]; done)
    | (intro x; (try dsimp only); (repeat' split) <;> (simp only [ObjS.blank, b18, if_true]; done))
    | refine State.modObj_keep ?_ ?_
    | split
    | dsimp only
    | intro _

theorem State.storeConfig_keep {l : Nat} (h : covers 0x4000000000000000000000000000000000000000000000000000000000000000000000000000 l) {s : State} {u : State} (k : Keep l s u)  :
    Keep l s (State.storeConfig u) := by
  unfold State.storeConfig
  with_reducible repeat' first
    | assumption
    | exact covers_trans (by decide) h
    | apply keep_ite
    | apply State.countPages_keep
    | split
    | dsimp only
    | intro _

theorem State.plcaStart_keep {l : Nat} (h : covers 0x8000000000000000000000000000000000000000000000000000000000000000000000000000000000 l) {s : State} {u : State} (k : Keep l s u)  :
    Keep l s (State.plcaStart u) := by
  have b327 := covers_bit (i := 327) h (by decide)
  unfold State.plcaStart
  with_reducible repeat' first
    | assumption
    | exact covers_trans (by decide) h
    | apply keep_ite
    | (intro x; simp only [WopS.blank, b327, if_true]; done)
    | (intro x; (try dsimp only); (repeat' split) <;> (simp only [WopS.blank, b327, if_true]; done))
    | refine State.modWop_keep ?_ ?_
    | split
    | dsimp only
    | intro _

theorem State.setCfg_keep {l : Nat} (h : covers 0x80 l) {s : State} {u : State} (k : Keep l s u) (a0) (a1) (a2) :
    Keep l s (State.setCfg a0 a1 a2 u) := by
  have b7 := covers_bit (i := 7) h (by decide)
  unfold State.setCfg
  with_reducible repeat' first
    | assumption
    | exact covers_trans (by decide) h
    | apply keep_ite
    | (intro x; simp only [ObjS.blank, b7, if_true]; done)
    | (intro x; (try dsimp only); (repeat' split) <;> (simp only [ObjS.blank, b7, if_true]; done))
    | refine State.modObj_keep ?_ ?_
    | split
    | dsimp only
    | intro _

theorem State.afterCfg_keep {l : Nat} (h : covers 0x49000000000000000400000000000000000000000000000000800000400000000000000100000000080 l) {s : State} {u : State} (k : Keep l s u) (a0) (a1) :
    Keep l s (State.afterCfg a0 a1 u) := by
  have b44 := covers_bit (i := 44) h (by decide)
  have b131 := covers_bit (i := 131) h (by decide)
  have b262 := covers_bit (i := 262) h (by decide)
  have b324 := covers_bit (i := 324) h (by decide)
  have b330 := covers_bit (i := 330) h (by decide)
  unfold State.afterCfg
  with_reducible repeat' first
    | assumption
    | exact covers_trans (by decide) h
    | apply keep_ite
    | (intro x; simp only [WbS.blank, CoxS.blank, TallyS.blank, PowerS.blank, WopS.blank, b44, b131, b262, b324, b330, if_true]; done)
    | (intro x; (try dsimp only); (repeat' split) <;> (simp only [WbS.blank, CoxS.blank, TallyS.blank, PowerS.blank, WopS.blank, b44, b131, b262, b324, b330, if_true]; done))
    | refine State.modWb_keep ?_ ?_
    | refine State.modCox_keep ?_ ?_
    | refine State.modTly_keep ?_ ?_
    | refine State.modPwr_keep ?_ ?_
    | refine State.modWop_keep ?_ ?_
    | apply State.creditSync_keep
    | apply State.applyMode_keep
    | apply State.plcaStart_keep
    | apply State.setCfg_keep
    | split
    | dsimp only
    | intro _

theorem State.notifyObject_keep {l : Nat} (h : covers 0x4430000000000000000000000000000000000000000000000000000000000000000000000000000000000 l) {s : State} {u : State} (k : Keep l s u) (a0) (a1) :
    Keep l s (State.notifyObject a0 a1 u) := by
  unfold State.notifyObject
  with_reducible repeat' first
    | assumption
    | exact covers_trans (by decide) h
    | apply keep_ite
    | apply State.notify_keep
    | split
    | dsimp only
    | intro _

theorem State.applyCfg_keep {l : Nat} (h : covers 0x4479000000000000000400000000000000000000000000000000800000400000000000000100000000080 l) {s : State} {u : State} (k : Keep l s u) (a0) (a1) (a2) :
    Keep l s (State.applyCfg a0 a1 a2 u) := by
  unfold State.applyCfg
  with_reducible repeat' first
    | assumption
    | exact covers_trans (by decide) h
    | apply keep_ite
    | apply State.emit_keep
    | apply State.setCfg_keep
    | apply State.afterCfg_keep
    | apply State.notifyObject_keep
    | split
    | dsimp only
    | intro _

theorem State.putObject_keep {l : Nat} (h : covers 0x4479008ece20000000040000000000000000000000000000000080000040000000000000010000004bd80 l) {s : State} {u : State} (k : Keep l s u) (a0) (a1) (a2) (a3) (a4) :
    Keep l s (State.putObject a0 a1 a2 a3 a4 u).2.2 := by
  have b8 := covers_bit (i := 8) h (by decide)
  have b15 := covers_bit (i := 15) h (by decide)
  unfold State.putObject
  with_reducible repeat' first
    | assumption
    | exact covers_trans (by decide) h
    | apply keep_ite
    | apply keep_ite_acc
    | (intro x; simp only [ObjS.blank, b8, b15, if_true]; done)
    | (intro x; (try dsimp only); (repeat' split) <;> (simp only [ObjS.blank, b8, b15, if_true]; done))
    | refine State.modObj_keep ?_ ?_
    | apply State.when_keep
    | apply State.manage_keep
    | apply State.answer_keep
    | apply State.deferred_keep
    | apply State.noteWriter_keep
    | apply State.storeConfig_keep
    | apply State.applyCfg_keep
    | split
    | dsimp only
    | intro _

theorem State.modRegion_keep {l : Nat} (h : covers 0x8000000000000000000000000000 l) {s : State} {u : State} (k : Keep l s u) (a0) (a1) :
    Keep l s (State.modRegion a0 a1 u) := by
  have b111 := covers_bit (i := 111) h (by decide)
  unfold State.modRegion
  with_reducible repeat' first
    | assumption
    | exact covers_trans (by decide) h
    | apply keep_ite
    | (intro x; simp only [ExtS.blank, b111, if_true]; done)
    | (intro x; (try dsimp only); (repeat' split) <;> (simp only [ExtS.blank, b111, if_true]; done))
    | refine State.modExt_keep ?_ ?_
    | split
    | dsimp only
    | intro _

theorem State.deferRecord_keep {l : Nat} (h : covers 0x4430008eca20000000000000000000000000000000000000000000000000000000000000000000000bc00 l) {s : State} {u : State} (k : Keep l s u) (a0) (a1) (a2) (a3) :
    Keep l s (State.deferRecord a0 a1 a2 a3 u).2.2 := by
  have b15 := covers_bit (i := 15) h (by decide)
  unfold State.deferRecord
  with_reducible repeat' first
    | assumption
    | exact covers_trans (by decide) h
    | apply keep_ite
    | apply keep_ite_acc
    | (intro x; simp only [ObjS.blank, b15, if_true]; done)
    | (intro x; (try dsimp only); (repeat' split) <;> (simp only [ObjS.blank, b15, if_true]; done))
    | refine State.modObj_keep ?_ ?_
    | apply State.manage_keep
    | apply State.deferred_keep
    | split
    | dsimp only
    | intro _

theorem State.putRecord_keep {l : Nat} (h : covers 0x4430008ece20000000000000000000000000000000000000000000000000000000000000000000000bc00 l) {s : State} {a4 : State → State} (ka4 : ∀  v, Keep l s v → Keep l s (a4  v)) {u : State} (k : Keep l s u) (a0) (a1) (a2) (a3) :
    Keep l s (State.putRecord a0 a1 a2 a3 a4 u).2.2 := by
  unfold State.putRecord
  with_reducible repeat' first
    | assumption
    | exact covers_trans (by decide) h
    | apply keep_ite
    | apply keep_ite_acc
    | apply State.manage_keep
    | apply State.answer_keep
    | apply State.storeConfig_keep
    | apply State.notifyObject_keep
    | apply State.deferRecord_keep
    | refine ka4  _ ?_
    | split
    | dsimp only
    | intro _

theorem State.modExtent_keep {l : Nat} (h : covers 0x4000000000000000000000000000 l) {s : State} {u : State} (k : Keep l s u) (a0) (a1) :
    Keep l s (State.modExtent a0 a1 u) := by
  have b110 := covers_bit (i := 110) h (by decide)
  unfold State.modExtent
  with_reducible repeat' first
    | assumption
    | exact covers_trans (by decide) h
    | apply keep_ite
    | (intro x; simp only [ExtS.blank, b110, if_true]; done)
    | (intro x; (try dsimp only); (repeat' split) <;> (simp only [ExtS.blank, b110, if_true]; done))
    | refine State.modExt_keep ?_ ?_
    | split
    | dsimp only
    | intro _

theorem State.modSeatOf_keep {l : Nat} (h : covers 0x10000000000000000 l) {s : State} {u : State} (k : Keep l s u) (a0) (a1) :
    Keep l s (State.modSeatOf a0 a1 u) := by
  have b64 := covers_bit (i := 64) h (by decide)
  unfold State.modSeatOf
  with_reducible repeat' first
    | assumption
    | exact covers_trans (by decide) h
    | apply keep_ite
    | (intro x; simp only [SeatBusS.blank, b64, if_true]; done)
    | (intro x; (try dsimp only); (repeat' split) <;> (simp only [SeatBusS.blank, b64, if_true]; done))
    | refine State.modSeat_keep ?_ ?_
    | split
    | dsimp only
    | intro _

theorem State.setSel_keep {l : Nat} (h : covers 0x4000 l) {s : State} {u : State} (k : Keep l s u) (a0) (a1) (a2) (a3) :
    Keep l s (State.setSel a0 a1 a2 a3 u) := by
  have b14 := covers_bit (i := 14) h (by decide)
  unfold State.setSel
  with_reducible repeat' first
    | assumption
    | exact covers_trans (by decide) h
    | apply keep_ite
    | (intro x; simp only [ObjS.blank, b14, if_true]; done)
    | (intro x; (try dsimp only); (repeat' split) <;> (simp only [ObjS.blank, b14, if_true]; done))
    | refine State.modObj_keep ?_ ?_
    | split
    | dsimp only
    | intro _

theorem State.setCursor_keep {l : Nat} (h : covers 0x4000 l) {s : State} {u : State} (k : Keep l s u) (a0) (a1) (a2) :
    Keep l s (State.setCursor a0 a1 a2 u) := by
  unfold State.setCursor
  with_reducible repeat' first
    | assumption
    | exact covers_trans (by decide) h
    | apply keep_ite
    | apply State.setSel_keep
    | split
    | dsimp only
    | intro _

theorem State.modInput_keep {l : Nat} (h : covers 0x10000000000000000000000 l) {s : State} {u : State} (k : Keep l s u) (a0) (a1) :
    Keep l s (State.modInput a0 a1 u) := by
  have b88 := covers_bit (i := 88) h (by decide)
  unfold State.modInput
  with_reducible repeat' first
    | assumption
    | exact covers_trans (by decide) h
    | apply keep_ite
    | (intro x; simp only [ThermS.blank, b88, if_true]; done)
    | (intro x; (try dsimp only); (repeat' split) <;> (simp only [ThermS.blank, b88, if_true]; done))
    | refine State.modThm_keep ?_ ?_
    | split
    | dsimp only
    | intro _

theorem State.modSource_keep {l : Nat} (h : covers 0x4000000000000000000000000000000000000000000000000000000000 l) {s : State} {u : State} (k : Keep l s u) (a0) (a1) :
    Keep l s (State.modSource a0 a1 u) := by
  have b230 := covers_bit (i := 230) h (by decide)
  unfold State.modSource
  with_reducible repeat' first
    | assumption
    | exact covers_trans (by decide) h
    | apply keep_ite
    | (intro x; simp only [FaultS.blank, b230, if_true]; done)
    | (intro x; (try dsimp only); (repeat' split) <;> (simp only [FaultS.blank, b230, if_true]; done))
    | refine State.modFlt_keep ?_ ?_
    | split
    | dsimp only
    | intro _

theorem State.sendAddressProbe_keep {l : Nat} (h : covers 0x4010000000000000000000000000000000000000000000000000000000000000000000000000000000000 l) {s : State} {u : State} (k : Keep l s u)  :
    Keep l s (State.sendAddressProbe u) := by
  have b328 := covers_bit (i := 328) h (by decide)
  unfold State.sendAddressProbe
  with_reducible repeat' first
    | assumption
    | exact covers_trans (by decide) h
    | apply keep_ite
    | (intro x; simp only [WopS.blank, b328, if_true]; done)
    | (intro x; (try dsimp only); (repeat' split) <;> (simp only [WopS.blank, b328, if_true]; done))
    | refine State.modWop_keep ?_ ?_
    | apply State.emit_keep
    | split
    | dsimp only
    | intro _

theorem State.holdLink_keep {l : Nat} (h : covers 0x4430008eca200000000000000f000f0000000000000000000018000881c00000000000000040000100000 l) {s : State} {u : State} (k : Keep l s u) (a0) :
    Keep l s (State.holdLink a0 u) := by
  unfold State.holdLink
  with_reducible repeat' first
    | assumption
    | exact covers_trans (by decide) h
    | apply keep_ite
    | apply State.linkDown_keep
    | apply State.applyMode_keep
    | split
    | dsimp only
    | intro _

theorem reply_keep {l : Nat} (h : covers 0x4000000000000000000000000000000000000000000000000000000000000000000000000000000000000 l) {s : State} {u : Acc} (k : Keep l s u.2.2) (a0) (a1) (a2) :
    Keep l s (reply a0 a1 a2 u) := by
  unfold reply
  with_reducible repeat' first
    | assumption
    | exact covers_trans (by decide) h
    | apply keep_ite
    | apply State.emit_keep
    | split
    | dsimp only
    | intro _

end Sys2Proof.Machine
end

