-- ==== Sys2Proof/Laws/KeepPath.lean ====
section
/-! SUPPORT. What every operation and meaning keeps (the read and write paths): outside the fields that it lists, the state after is the state before. -/

set_option Elab.async false

set_option linter.unusedTactic false
set_option linter.unreachableTactic false
set_option linter.unnecessarySeqFocus false
set_option linter.unusedSimpArgs false

namespace Sys2Proof.Machine

theorem State.easySlots_keep {l : Nat} (h : covers 0x4430008eca200000000000004000000000000000000000000000000000000000000000000000000020400 l) {s : State} {u : State} (k : Keep l s u) (a0) (a1) :
    Keep l s (State.easySlots a0 a1 u) := by
  have b242 := covers_bit (i := 242) h (by decide)
  unfold State.easySlots
  with_reducible repeat' first
    | assumption
    | exact covers_trans (by decide) h
    | apply keep_ite
    | (intro x; simp only [EasyS.blank, b242, if_true]; done)
    | (intro x; (try dsimp only); (repeat' split) <;> (simp only [EasyS.blank, b242, if_true]; done))
    | refine State.modEasy_keep ?_ ?_
    | refine forEach_keep (fun _ _ _ => ?_) ?_ _
    | apply State.ticketDone_keep
    | split
    | dsimp only
    | intro _

theorem State.easyLeave_keep {l : Nat} (h : covers 0x4430008eca200000000000004100000000000000000000000000000001c00000000000000000000120400 l) {s : State} {u : State} (k : Keep l s u)  :
    Keep l s (State.easyLeave u) := by
  have b20 := covers_bit (i := 20) h (by decide)
  have b236 := covers_bit (i := 236) h (by decide)
  unfold State.easyLeave
  with_reducible repeat' first
    | assumption
    | exact covers_trans (by decide) h
    | apply keep_ite
    | (intro x; simp only [PowerS.blank, EasyS.blank, b20, b236, if_true]; done)
    | (intro x; (try dsimp only); (repeat' split) <;> (simp only [PowerS.blank, EasyS.blank, b20, b236, if_true]; done))
    | refine State.modPwr_keep ?_ ?_
    | refine State.modEasy_keep ?_ ?_
    | apply State.easySlots_keep
    | apply State.boundSync_keep
    | apply State.creditSync_keep
    | split
    | dsimp only
    | intro _

theorem State.easyCheck_keep {l : Nat} (h : covers 0x4430008eca200000000000004f000f0000000000000000000018000001c00000000000000040000120400 l) {s : State} {u : State} (k : Keep l s u)  :
    Keep l s (State.easyCheck u) := by
  unfold State.easyCheck
  with_reducible repeat' first
    | assumption
    | exact covers_trans (by decide) h
    | apply keep_ite
    | apply State.easyLeave_keep
    | apply State.easyEnter_keep
    | split
    | dsimp only
    | intro _

theorem State.spareCheck_keep {l : Nat} (h : covers 0x4430008eca200000000000000f71ef0000000004000000000018000001c00000000000000040000100000 l) {s : State} {u : State} (k : Keep l s u) (a0) :
    Keep l s (State.spareCheck a0 u) := by
  have b182 := covers_bit (i := 182) h (by decide)
  unfold State.spareCheck
  with_reducible repeat' first
    | assumption
    | exact covers_trans (by decide) h
    | apply keep_ite
    | (intro x; simp only [TractS.blank, b182, if_true]; done)
    | (intro x; (try dsimp only); (repeat' split) <;> (simp only [TractS.blank, b182, if_true]; done))
    | refine State.modTrc_keep ?_ ?_
    | apply State.report_keep
    | split
    | dsimp only
    | intro _

theorem State.freeTract_keep {l : Nat} (h : covers 0x4430008eca200000000000000f71ef0000000004104008008018000001c00000000000000040000100000 l) {s : State} {u : State} (k : Keep l s u) (a0) (a1) :
    Keep l s (State.freeTract a0 a1 u) := by
  have b159 := covers_bit (i := 159) h (by decide)
  have b170 := covers_bit (i := 170) h (by decide)
  have b176 := covers_bit (i := 176) h (by decide)
  unfold State.freeTract
  with_reducible repeat' first
    | assumption
    | exact covers_trans (by decide) h
    | apply keep_ite
    | (intro x; simp only [TractS.blank, b159, b170, b176, if_true]; done)
    | (intro x; (try dsimp only); (repeat' split) <;> (simp only [TractS.blank, b159, b170, b176, if_true]; done))
    | refine State.modTrc_keep ?_ ?_
    | refine forEach_keep (fun _ _ _ => ?_) ?_ _
    | apply State.when_keep
    | apply State.storeWrite_keep
    | apply State.modChannel_keep
    | apply State.spareCheck_keep
    | split
    | dsimp only
    | intro _

theorem State.heatOf_keep {l : Nat} (h : covers 0x4000000000000000000000000000000000000000 l) {s : State} {u : State} (k : Keep l s u) (a0) :
    Keep l s (State.heatOf a0 u) := by
  unfold State.heatOf
  with_reducible repeat' first
    | assumption
    | exact covers_trans (by decide) h
    | apply keep_ite
    | apply State.modActivity_keep
    | split
    | dsimp only
    | intro _

theorem State.wear_keep {l : Nat} (h : covers 0x2000000000000000000000000000000000000000000 l) {s : State} {u : State} (k : Keep l s u) (a0) :
    Keep l s (State.wear a0 u) := by
  have b169 := covers_bit (i := 169) h (by decide)
  unfold State.wear
  with_reducible repeat' first
    | assumption
    | exact covers_trans (by decide) h
    | apply keep_ite
    | (intro x; simp only [TractS.blank, b169, if_true]; done)
    | (intro x; (try dsimp only); (repeat' split) <;> (simp only [TractS.blank, b169, if_true]; done))
    | refine State.modTrc_keep ?_ ?_
    | split
    | dsimp only
    | intro _

theorem State.putGranule_keep {l : Nat} (h : covers 0x1000000000000000000000000000000000000 l) {s : State} {u : State} (k : Keep l s u) (a0) (a1) :
    Keep l s (State.putGranule a0 a1 u) := by
  have b144 := covers_bit (i := 144) h (by decide)
  unfold State.putGranule
  with_reducible repeat' first
    | assumption
    | exact covers_trans (by decide) h
    | apply keep_ite
    | (intro x; simp only [MediaS.blank, b144, if_true]; done)
    | (intro x; (try dsimp only); (repeat' split) <;> (simp only [MediaS.blank, b144, if_true]; done))
    | refine State.modMed_keep ?_ ?_
    | split
    | dsimp only
    | intro _

theorem State.programNow_keep {l : Nat} (h : covers 0x2004005000000000000000000000000000000000000 l) {s : State} {u : State} (k : Keep l s u) (a0) (a1) :
    Keep l s (State.programNow a0 a1 u) := by
  unfold State.programNow
  with_reducible repeat' first
    | assumption
    | exact covers_trans (by decide) h
    | apply keep_ite
    | apply State.modDie_keep
    | apply State.heatOf_keep
    | apply State.wear_keep
    | apply State.putGranule_keep
    | split
    | dsimp only
    | intro _

theorem State.ckptProgram_keep {l : Nat} (h : covers 0x2004005000000000000000000000000000000000000 l) {s : State} {u : State} (k : Keep l s u) (a0) (a1) :
    Keep l s (State.ckptProgram a0 a1 u) := by
  unfold State.ckptProgram
  with_reducible repeat' first
    | assumption
    | exact covers_trans (by decide) h
    | apply keep_ite
    | refine forEach_keep (fun _ _ _ => ?_) ?_ _
    | apply State.programNow_keep
    | split
    | dsimp only
    | intro _

theorem State.checkpointB_keep {l : Nat} (h : covers 0x2006005000000000000000000000000000000000000 l) {s : State} {u : State} (k : Keep l s u) (a0) :
    Keep l s (State.checkpointB a0 u) := by
  have b157 := covers_bit (i := 157) h (by decide)
  unfold State.checkpointB
  with_reducible repeat' first
    | assumption
    | exact covers_trans (by decide) h
    | apply keep_ite
    | (intro x; simp only [TractS.blank, b157, if_true]; done)
    | (intro x; (try dsimp only); (repeat' split) <;> (simp only [TractS.blank, b157, if_true]; done))
    | refine State.modTrc_keep ?_ ?_
    | apply State.ckptProgram_keep
    | split
    | dsimp only
    | intro _

theorem State.checkpointA_keep {l : Nat} (h : covers 0x2005005000000000000000000000000000000000000 l) {s : State} {u : State} (k : Keep l s u) (a0) :
    Keep l s (State.checkpointA a0 u) := by
  have b156 := covers_bit (i := 156) h (by decide)
  unfold State.checkpointA
  with_reducible repeat' first
    | assumption
    | exact covers_trans (by decide) h
    | apply keep_ite
    | (intro x; simp only [TractS.blank, b156, if_true]; done)
    | (intro x; (try dsimp only); (repeat' split) <;> (simp only [TractS.blank, b156, if_true]; done))
    | refine State.modTrc_keep ?_ ?_
    | apply State.ckptProgram_keep
    | split
    | dsimp only
    | intro _

theorem State.checkpoint_keep {l : Nat} (h : covers 0x2007005000000000000000000000000000000000000 l) {s : State} {u : State} (k : Keep l s u) (a0) :
    Keep l s (State.checkpoint a0 u) := by
  unfold State.checkpoint
  with_reducible repeat' first
    | assumption
    | exact covers_trans (by decide) h
    | apply keep_ite
    | apply State.checkpointB_keep
    | apply State.checkpointA_keep
    | split
    | dsimp only
    | intro _

theorem State.putEntry_keep {l : Nat} (h : covers 0x2007805000000000000000000000000000000000000 l) {s : State} {u : State} (k : Keep l s u) (a0) (a1) :
    Keep l s (State.putEntry a0 a1 u) := by
  unfold State.putEntry
  with_reducible repeat' first
    | assumption
    | exact covers_trans (by decide) h
    | apply keep_ite
    | apply State.checkpoint_keep
    | apply State.modEntry_keep
    | split
    | dsimp only
    | intro _

theorem State.complete_keep {l : Nat} (h : covers 0x4000000000000000000000000000000000000000000000000000000001000000000000000000000000000 l) {s : State} {u : State} (k : Keep l s u) (a0) (a1) (a2) :
    Keep l s (State.complete a0 a1 a2 u) := by
  unfold State.complete
  with_reducible repeat' first
    | assumption
    | exact covers_trans (by decide) h
    | apply keep_ite
    | refine forEach_keep (fun _ _ _ => ?_) ?_ _
    | apply State.emit_keep
    | apply State.modHead_keep
    | split
    | dsimp only
    | intro _

theorem State.discardOpen_keep {l : Nat} (h : covers 0x4000000000000000000000000000000000000000000000000000000801000000000000000000000000000 l) {s : State} {u : State} (k : Keep l s u) (a0) :
    Keep l s (State.discardOpen a0 u) := by
  have b119 := covers_bit (i := 119) h (by decide)
  unfold State.discardOpen
  with_reducible repeat' first
    | assumption
    | exact covers_trans (by decide) h
    | apply keep_ite
    | (intro x; simp only [WbS.blank, b119, if_true]; done)
    | (intro x; (try dsimp only); (repeat' split) <;> (simp only [WbS.blank, b119, if_true]; done))
    | refine State.modWb_keep ?_ ?_
    | refine forEach_keep (fun _ _ _ => ?_) ?_ _
    | apply State.complete_keep
    | split
    | dsimp only
    | intro _

theorem State.countEcc_keep {l : Nat} (h : covers 0x2000000000000000000000000000000000000000000000000000 l) {s : State} {u : State} (k : Keep l s u) (a0) :
    Keep l s (State.countEcc a0 u) := by
  have b205 := covers_bit (i := 205) h (by decide)
  unfold State.countEcc
  with_reducible repeat' first
    | assumption
    | exact covers_trans (by decide) h
    | apply keep_ite
    | (intro x; simp only [ScrubS.blank, b205, if_true]; done)
    | (intro x; (try dsimp only); (repeat' split) <;> (simp only [ScrubS.blank, b205, if_true]; done))
    | refine State.modScr_keep ?_ ?_
    | split
    | dsimp only
    | intro _

theorem State.queueRewrite_keep {l : Nat} (h : covers 0x6000000000000800000000000000000000000000000000000000 l) {s : State} {u : State} (k : Keep l s u) (a0) :
    Keep l s (State.queueRewrite a0 u) := by
  have b206 := covers_bit (i := 206) h (by decide)
  unfold State.queueRewrite
  with_reducible repeat' first
    | assumption
    | exact covers_trans (by decide) h
    | apply keep_ite
    | (intro x; simp only [ScrubS.blank, b206, if_true]; done)
    | (intro x; (try dsimp only); (repeat' split) <;> (simp only [ScrubS.blank, b206, if_true]; done))
    | refine State.modScr_keep ?_ ?_
    | apply State.modEntry_keep
    | apply State.countEcc_keep
    | split
    | dsimp only
    | intro _

theorem State.sqSeen_keep {l : Nat} (h : covers 0x6000000000000804000000000000000000000000000000000000 l) {s : State} {u : State} (k : Keep l s u) (a0) (a1) :
    Keep l s (State.sqSeen a0 a1 u) := by
  unfold State.sqSeen
  with_reducible repeat' first
    | assumption
    | exact covers_trans (by decide) h
    | apply keep_ite
    | apply State.modDie_keep
    | apply State.queueRewrite_keep
    | split
    | dsimp only
    | intro _

theorem State.queueMig_keep {l : Nat} (h : covers 0x8000000000000000000000000000000000000000000 l) {s : State} {u : State} (k : Keep l s u) (a0) (a1) :
    Keep l s (State.queueMig a0 a1 u) := by
  have b171 := covers_bit (i := 171) h (by decide)
  unfold State.queueMig
  with_reducible repeat' first
    | assumption
    | exact covers_trans (by decide) h
    | apply keep_ite
    | (intro x; simp only [TractS.blank, b171, if_true]; done)
    | (intro x; (try dsimp only); (repeat' split) <;> (simp only [TractS.blank, b171, if_true]; done))
    | refine State.modTrc_keep ?_ ?_
    | split
    | dsimp only
    | intro _

theorem State.readsGrown_keep {l : Nat} (h : covers 0x8000000000000000000000000000000000000000000 l) {s : State} {u : State} (k : Keep l s u) (a0) :
    Keep l s (State.readsGrown a0 u) := by
  unfold State.readsGrown
  with_reducible repeat' first
    | assumption
    | exact covers_trans (by decide) h
    | apply keep_ite
    | apply State.queueMig_keep
    | split
    | dsimp only
    | intro _

theorem State.holdCount_keep {l : Nat} (h : covers 0x9004000000000000000000000000000000000000000 l) {s : State} {u : State} (k : Keep l s u) (a0) :
    Keep l s (State.holdCount a0 u) := by
  have b168 := covers_bit (i := 168) h (by decide)
  unfold State.holdCount
  with_reducible repeat' first
    | assumption
    | exact covers_trans (by decide) h
    | apply keep_ite
    | (intro x; simp only [TractS.blank, b168, if_true]; done)
    | (intro x; (try dsimp only); (repeat' split) <;> (simp only [TractS.blank, b168, if_true]; done))
    | refine State.modTrc_keep ?_ ?_
    | apply State.modActivity_keep
    | apply State.readsGrown_keep
    | split
    | dsimp only
    | intro _

theorem State.countSenses_keep {l : Nat} (h : covers 0x9004000000000000000000000000000000000000000 l) {s : State} {u : State} (k : Keep l s u) (a0) (a1) :
    Keep l s (State.countSenses a0 a1 u) := by
  unfold State.countSenses
  with_reducible repeat' first
    | assumption
    | exact covers_trans (by decide) h
    | apply keep_ite
    | apply State.modActivity_keep
    | apply State.readsGrown_keep
    | apply State.holdCount_keep
    | split
    | dsimp only
    | intro _

theorem State.countSense_keep {l : Nat} (h : covers 0x9004000000000000000000000000000000000000000 l) {s : State} {u : State} (k : Keep l s u) (a0) :
    Keep l s (State.countSense a0 u) := by
  unfold State.countSense
  with_reducible repeat' first
    | assumption
    | exact covers_trans (by decide) h
    | apply keep_ite
    | apply State.countSenses_keep
    | split
    | dsimp only
    | intro _

theorem State.eccSeen_keep {l : Nat} (h : covers 0x6000000009004804000000000000000000000000000000000000 l) {s : State} {u : State} (k : Keep l s u) (a0) (a1) (a2) (a3) :
    Keep l s (State.eccSeen a0 a1 a2 a3 u) := by
  unfold State.eccSeen
  with_reducible repeat' first
    | assumption
    | exact covers_trans (by decide) h
    | apply keep_ite
    | apply State.modDie_keep
    | apply State.countEcc_keep
    | apply State.queueRewrite_keep
    | apply State.sqSeen_keep
    | apply State.countSense_keep
    | split
    | dsimp only
    | intro _

theorem State.modRead_keep {l : Nat} (h : covers 0x80000000000000000000000000000 l) {s : State} {u : State} (k : Keep l s u) (a0) (a1) :
    Keep l s (State.modRead a0 a1 u) := by
  have b115 := covers_bit (i := 115) h (by decide)
  unfold State.modRead
  with_reducible repeat' first
    | assumption
    | exact covers_trans (by decide) h
    | apply keep_ite
    | (intro x; simp only [ReadPathS.blank, b115, if_true]; done)
    | (intro x; (try dsimp only); (repeat' split) <;> (simp only [ReadPathS.blank, b115, if_true]; done))
    | refine State.modRdp_keep ?_ ?_
    | split
    | dsimp only
    | intro _

theorem State.reserve_keep {l : Nat} (h : covers 0x40000000000000000000000000000000000000 l) {s : State} {u : State} (k : Keep l s u) (a0) :
    Keep l s (State.reserve a0 u) := by
  have b150 := covers_bit (i := 150) h (by decide)
  unfold State.reserve
  with_reducible repeat' first
    | assumption
    | exact covers_trans (by decide) h
    | apply keep_ite
    | (intro x; simp only [MediaS.blank, b150, if_true]; done)
    | (intro x; (try dsimp only); (repeat' split) <;> (simp only [MediaS.blank, b150, if_true]; done))
    | refine State.modMed_keep ?_ ?_
    | split
    | dsimp only
    | intro _

theorem State.grant_keep {l : Nat} (h : covers 0x42000000000000000000000000000000000000 l) {s : State} {u : State} (k : Keep l s u) (a0) :
    Keep l s (State.grant a0 u) := by
  unfold State.grant
  with_reducible repeat' first
    | assumption
    | exact covers_trans (by decide) h
    | apply keep_ite
    | apply State.modPlane_keep
    | apply State.reserve_keep
    | split
    | dsimp only
    | intro _

theorem State.addJob_keep {l : Nat} (h : covers 0x42000000000000000000000000000000000000 l) {s : State} {u : State} (k : Keep l s u) (a0) :
    Keep l s (State.addJob a0 u) := by
  unfold State.addJob
  with_reducible repeat' first
    | assumption
    | exact covers_trans (by decide) h
    | apply keep_ite
    | apply State.modPlane_keep
    | apply State.grant_keep
    | split
    | dsimp only
    | intro _

theorem State.clearDie_keep {l : Nat} (h : covers 0x52000000000000000000000000000000000000 l) {s : State} {u : State} (k : Keep l s u) (a0) (a1) :
    Keep l s (State.clearDie a0 a1 u) := by
  have b148 := covers_bit (i := 148) h (by decide)
  unfold State.clearDie
  with_reducible repeat' first
    | assumption
    | exact covers_trans (by decide) h
    | apply keep_ite
    | (intro x; simp only [MediaS.blank, b148, if_true]; done)
    | (intro x; (try dsimp only); (repeat' split) <;> (simp only [MediaS.blank, b148, if_true]; done))
    | refine State.modMed_keep ?_ ?_
    | refine forEach_keep (fun _ _ _ => ?_) ?_ _
    | apply State.addJob_keep
    | split
    | dsimp only
    | intro _

theorem State.startClear_keep {l : Nat} (h : covers 0x52000000000000000000000000000000000000 l) {s : State} {u : State} (k : Keep l s u) (a0) :
    Keep l s (State.startClear a0 u) := by
  unfold State.startClear
  with_reducible repeat' first
    | assumption
    | exact covers_trans (by decide) h
    | apply keep_ite
    | refine forEach_keep (fun _ _ _ => ?_) ?_ _
    | apply State.clearDie_keep
    | split
    | dsimp only
    | intro _

theorem State.readSensed_keep {l : Nat} (h : covers 0x10000052000000000000000000000000000000000000 l) {s : State} {u : State} (k : Keep l s u) (a0) :
    Keep l s (State.readSensed a0 u) := by
  have b172 := covers_bit (i := 172) h (by decide)
  unfold State.readSensed
  with_reducible repeat' first
    | assumption
    | exact covers_trans (by decide) h
    | apply keep_ite
    | (intro x; simp only [TractS.blank, b172, if_true]; done)
    | (intro x; (try dsimp only); (repeat' split) <;> (simp only [TractS.blank, b172, if_true]; done))
    | refine State.modTrc_keep ?_ ?_
    | apply State.startClear_keep
    | split
    | dsimp only
    | intro _

theorem State.decided_keep {l : Nat} (h : covers 0x10000052000000080000000000000000000000000000 l) {s : State} {u : State} (k : Keep l s u) (a0) (a1) :
    Keep l s (State.decided a0 a1 u) := by
  unfold State.decided
  with_reducible repeat' first
    | assumption
    | exact covers_trans (by decide) h
    | apply keep_ite
    | refine forEach_keep (fun _ _ _ => ?_) ?_ _
    | apply State.modRead_keep
    | apply State.readSensed_keep
    | split
    | dsimp only
    | intro _

theorem State.alarm_keep {l : Nat} (h : covers 0x4430008eca200000000000000f71ef0000000800000000000018000001c00000000000000040000100000 l) {s : State} {u : State} (k : Keep l s u) (a0) (a1) :
    Keep l s (State.alarm a0 a1 u) := by
  have b191 := covers_bit (i := 191) h (by decide)
  unfold State.alarm
  with_reducible repeat' first
    | assumption
    | exact covers_trans (by decide) h
    | apply keep_ite
    | (intro x; simp only [IntegS.blank, b191, if_true]; done)
    | (intro x; (try dsimp only); (repeat' split) <;> (simp only [IntegS.blank, b191, if_true]; done))
    | refine State.modItg_keep ?_ ?_
    | apply State.headEvent_keep
    | apply State.report_keep
    | apply State.security_keep
    | split
    | dsimp only
    | intro _

theorem State.countTagFail_keep {l : Nat} (h : covers 0x1001000000000000000000000000000000000000000000000000 l) {s : State} {u : State} (k : Keep l s u)  :
    Keep l s (State.countTagFail u) := by
  have b192 := covers_bit (i := 192) h (by decide)
  have b204 := covers_bit (i := 204) h (by decide)
  unfold State.countTagFail
  with_reducible repeat' first
    | assumption
    | exact covers_trans (by decide) h
    | apply keep_ite
    | (intro x; simp only [IntegS.blank, b192, b204, if_true]; done)
    | (intro x; (try dsimp only); (repeat' split) <;> (simp only [IntegS.blank, b192, b204, if_true]; done))
    | refine State.modItg_keep ?_ ?_
    | split
    | dsimp only
    | intro _

theorem State.decideRead_keep {l : Nat} (h : covers 0x4430008eca200000000000000f71ef0001001800010000052018000081c00000000000000040000100000 l) {s : State} {u : State} (k : Keep l s u) (a0) :
    Keep l s (State.decideRead a0 u) := by
  have b204 := covers_bit (i := 204) h (by decide)
  unfold State.decideRead
  with_reducible repeat' first
    | assumption
    | exact covers_trans (by decide) h
    | apply keep_ite
    | (intro x; simp only [IntegS.blank, b204, if_true]; done)
    | (intro x; (try dsimp only); (repeat' split) <;> (simp only [IntegS.blank, b204, if_true]; done))
    | refine State.modItg_keep ?_ ?_
    | apply State.modRead_keep
    | apply State.decided_keep
    | apply State.alarm_keep
    | apply State.countTagFail_keep
    | split
    | dsimp only
    | intro _

theorem State.cannotRebuild_keep {l : Nat} (h : covers 0x4430008eca200000000000000f71ef0003001800010000052018000081c00000000000000040000100000 l) {s : State} {u : State} (k : Keep l s u) (a0) :
    Keep l s (State.cannotRebuild a0 u) := by
  unfold State.cannotRebuild
  with_reducible repeat' first
    | assumption
    | exact covers_trans (by decide) h
    | apply keep_ite
    | apply State.report_keep
    | apply State.countEcc_keep
    | apply State.modRead_keep
    | apply State.decided_keep
    | apply State.decideRead_keep
    | split
    | dsimp only
    | intro _

theorem State.stripeArrival_keep {l : Nat} (h : covers 0x4430008eca200000000000000f71ef0407001800019004856018000081c00000000000000040000100000 l) {s : State} {u : State} (k : Keep l s u) (a0) (a1) (a2) (a3) (a4) (a5) :
    Keep l s (State.stripeArrival a0 a1 a2 a3 a4 a5 u) := by
  have b214 := covers_bit (i := 214) h (by decide)
  unfold State.stripeArrival
  with_reducible repeat' first
    | assumption
    | exact covers_trans (by decide) h
    | apply keep_ite
    | (intro x; simp only [ScrubS.blank, b214, if_true]; done)
    | (intro x; (try dsimp only); (repeat' split) <;> (simp only [ScrubS.blank, b214, if_true]; done))
    | refine State.modScr_keep ?_ ?_
    | apply State.report_keep
    | apply State.countEcc_keep
    | apply State.eccSeen_keep
    | apply State.modRead_keep
    | apply State.decideRead_keep
    | apply State.cannotRebuild_keep
    | split
    | dsimp only
    | intro _

theorem State.destroy_keep {l : Nat} (h : covers 0x8000000000000000000000000000000000000000000000001000000000000000000000000000000000000 l) {s : State} {u : State} (k : Keep l s u) (a0) :
    Keep l s (State.destroy a0 u) := by
  have b339 := covers_bit (i := 339) h (by decide)
  unfold State.destroy
  with_reducible repeat' first
    | assumption
    | exact covers_trans (by decide) h
    | apply keep_ite
    | refine State.modFree_keep b339 ?_
    | apply State.putGranule_keep
    | split
    | dsimp only
    | intro _

theorem State.cutOff_keep {l : Nat} (h : covers 0x8000000000000000000000000000000000000000002000001000000000000000000000000000000000000 l) {s : State} {u : State} (k : Keep l s u) (a0) :
    Keep l s (State.cutOff a0 u) := by
  unfold State.cutOff
  with_reducible repeat' first
    | assumption
    | exact covers_trans (by decide) h
    | apply keep_ite
    | apply State.wear_keep
    | apply State.destroy_keep
    | split
    | dsimp only
    | intro _

theorem State.engineCount_keep {l : Nat} (h : covers 0x200000000000000000000000000000000000000000000000000000 l) {s : State} {u : State} (k : Keep l s u) (a0) (a1) (a2) :
    Keep l s (State.engineCount a0 a1 a2 u) := by
  have b213 := covers_bit (i := 213) h (by decide)
  unfold State.engineCount
  with_reducible repeat' first
    | assumption
    | exact covers_trans (by decide) h
    | apply keep_ite
    | (intro x; simp only [ScrubS.blank, b213, if_true]; done)
    | (intro x; (try dsimp only); (repeat' split) <;> (simp only [ScrubS.blank, b213, if_true]; done))
    | refine State.modScr_keep ?_ ?_
    | split
    | dsimp only
    | intro _

theorem State.countOp_keep {l : Nat} (h : covers 0x200000000200000000000000000000000000000000000000000000 l) {s : State} {u : State} (k : Keep l s u) (a0) :
    Keep l s (State.countOp a0 u) := by
  have b177 := covers_bit (i := 177) h (by decide)
  unfold State.countOp
  with_reducible repeat' first
    | assumption
    | exact covers_trans (by decide) h
    | apply keep_ite
    | (intro x; simp only [TractS.blank, b177, if_true]; done)
    | (intro x; (try dsimp only); (repeat' split) <;> (simp only [TractS.blank, b177, if_true]; done))
    | refine State.modTrc_keep ?_ ?_
    | apply State.engineCount_keep
    | split
    | dsimp only
    | intro _

theorem State.freeDone_keep {l : Nat} (h : covers 0x4430008eca200000000000000f71ef0000000004104008008018000001c00000000000000040000100000 l) {s : State} {u : State} (k : Keep l s u)  :
    Keep l s (State.freeDone u) := by
  unfold State.freeDone
  with_reducible repeat' first
    | assumption
    | exact covers_trans (by decide) h
    | apply keep_ite
    | refine forEach_keep (fun _ _ _ => ?_) ?_ _
    | apply State.freeTract_keep
    | split
    | dsimp only
    | intro _

theorem State.unitDone_keep {l : Nat} (h : covers 0x1000000000000000000000000000000 l) {s : State} {u : State} (k : Keep l s u) (a0) (a1) :
    Keep l s (State.unitDone a0 a1 u) := by
  have b120 := covers_bit (i := 120) h (by decide)
  unfold State.unitDone
  with_reducible repeat' first
    | assumption
    | exact covers_trans (by decide) h
    | apply keep_ite
    | (intro x; simp only [WbS.blank, b120, if_true]; done)
    | (intro x; (try dsimp only); (repeat' split) <;> (simp only [WbS.blank, b120, if_true]; done))
    | refine State.modWb_keep ?_ ?_
    | split
    | dsimp only
    | intro _

theorem State.programDone_keep {l : Nat} (h : covers 0x80000005000000000000000000000000000000 l) {s : State} {u : State} (k : Keep l s u) (a0) :
    Keep l s (State.programDone a0 u) := by
  have b122 := covers_bit (i := 122) h (by decide)
  have b151 := covers_bit (i := 151) h (by decide)
  unfold State.programDone
  with_reducible repeat' first
    | assumption
    | exact covers_trans (by decide) h
    | apply keep_ite
    | (intro x; simp only [WbS.blank, MediaS.blank, b122, b151, if_true]; done)
    | (intro x; (try dsimp only); (repeat' split) <;> (simp only [WbS.blank, MediaS.blank, b122, b151, if_true]; done))
    | refine State.modWb_keep ?_ ?_
    | refine State.modMed_keep ?_ ?_
    | apply State.unitDone_keep
    | split
    | dsimp only
    | intro _

theorem State.completeOp_keep {l : Nat} (h : covers 0x4430008eca200000000000000f71ef020000000430600c09d018005001c00000000000000040000100000 l) {s : State} {u : State} (k : Keep l s u) (a0) :
    Keep l s (State.completeOp a0 u) := by
  have b148 := covers_bit (i := 148) h (by decide)
  unfold State.completeOp
  with_reducible repeat' first
    | assumption
    | exact covers_trans (by decide) h
    | apply keep_ite
    | (intro x; simp only [MediaS.blank, b148, if_true]; done)
    | (intro x; (try dsimp only); (repeat' split) <;> (simp only [MediaS.blank, b148, if_true]; done))
    | refine State.modMed_keep ?_ ?_
    | refine forEach_keep (fun _ _ _ => ?_) ?_ _
    | apply State.modDie_keep
    | apply State.heatOf_keep
    | apply State.wear_keep
    | apply State.putGranule_keep
    | apply State.countOp_keep
    | apply State.freeDone_keep
    | apply State.programDone_keep
    | split
    | dsimp only
    | intro _

theorem State.closeWindow_keep {l : Nat} (h : covers 0x4430008eca200000000000000f71ef0000800000000000000018000001c00000000000000040000100000 l) {s : State} {u : State} (k : Keep l s u) (a0) :
    Keep l s (State.closeWindow a0 u) := by
  have b203 := covers_bit (i := 203) h (by decide)
  unfold State.closeWindow
  with_reducible repeat' first
    | assumption
    | exact covers_trans (by decide) h
    | apply keep_ite
    | (intro x; simp only [IntegS.blank, b203, if_true]; done)
    | (intro x; (try dsimp only); (repeat' split) <;> (simp only [IntegS.blank, b203, if_true]; done))
    | refine State.modItg_keep ?_ ?_
    | apply State.security_keep
    | split
    | dsimp only
    | intro _

theorem State.dirtySync_keep {l : Nat} (h : covers 0x8000000000000000000000000000000 l) {s : State} {u : State} (k : Keep l s u)  :
    Keep l s (State.dirtySync u) := by
  have b123 := covers_bit (i := 123) h (by decide)
  unfold State.dirtySync
  with_reducible repeat' first
    | assumption
    | exact covers_trans (by decide) h
    | apply keep_ite
    | (intro x; simp only [WbS.blank, b123, if_true]; done)
    | (intro x; (try dsimp only); (repeat' split) <;> (simp only [WbS.blank, b123, if_true]; done))
    | refine State.modWb_keep ?_ ?_
    | split
    | dsimp only
    | intro _

theorem State.giveUp_keep {l : Nat} (h : covers 0x4430008eca200000000000000f71ef000000000410400805a018000001c00000000000000040000100000 l) {s : State} {u : State} (k : Keep l s u) (a0) (a1) :
    Keep l s (State.giveUp a0 a1 u) := by
  have b170 := covers_bit (i := 170) h (by decide)
  unfold State.giveUp
  with_reducible repeat' first
    | assumption
    | exact covers_trans (by decide) h
    | apply keep_ite
    | (intro x; simp only [TractS.blank, b170, if_true]; done)
    | (intro x; (try dsimp only); (repeat' split) <;> (simp only [TractS.blank, b170, if_true]; done))
    | refine State.modTrc_keep ?_ ?_
    | apply State.startClear_keep
    | apply State.freeDone_keep
    | split
    | dsimp only
    | intro _

theorem State.unreserve_keep {l : Nat} (h : covers 0x42000000000000000000000000000000000000 l) {s : State} {u : State} (k : Keep l s u) (a0) :
    Keep l s (State.unreserve a0 u) := by
  have b150 := covers_bit (i := 150) h (by decide)
  unfold State.unreserve
  with_reducible repeat' first
    | assumption
    | exact covers_trans (by decide) h
    | apply keep_ite
    | (intro x; simp only [MediaS.blank, b150, if_true]; done)
    | (intro x; (try dsimp only); (repeat' split) <;> (simp only [MediaS.blank, b150, if_true]; done))
    | refine State.modMed_keep ?_ ?_
    | apply State.modPlane_keep
    | split
    | dsimp only
    | intro _

theorem State.endGrant_keep {l : Nat} (h : covers 0x42000000000000000000000000000000000000 l) {s : State} {u : State} (k : Keep l s u) (a0) :
    Keep l s (State.endGrant a0 u) := by
  unfold State.endGrant
  with_reducible repeat' first
    | assumption
    | exact covers_trans (by decide) h
    | apply keep_ite
    | apply State.modPlane_keep
    | apply State.grant_keep
    | apply State.unreserve_keep
    | split
    | dsimp only
    | intro _

theorem State.dropWork_keep {l : Nat} (h : covers 0xc2000004000000000000000000000000000000 l) {s : State} {u : State} (k : Keep l s u) (a0) (a1) (a2) :
    Keep l s (State.dropWork a0 a1 a2 u) := by
  have b122 := covers_bit (i := 122) h (by decide)
  have b151 := covers_bit (i := 151) h (by decide)
  unfold State.dropWork
  with_reducible repeat' first
    | assumption
    | exact covers_trans (by decide) h
    | apply keep_ite
    | (intro x; simp only [MediaS.blank, WbS.blank, b122, b151, if_true]; done)
    | (intro x; (try dsimp only); (repeat' split) <;> (simp only [MediaS.blank, WbS.blank, b122, b151, if_true]; done))
    | refine State.modMed_keep ?_ ?_
    | refine State.modWb_keep ?_ ?_
    | refine forEach_keep (fun _ _ _ => ?_) ?_ _
    | apply State.modPlane_keep
    | apply State.endGrant_keep
    | split
    | dsimp only
    | intro _

theorem State.giveUpPt_keep {l : Nat} (h : covers 0x4430008eca200000000000000f71ef000000000410400805a018000001c00000000000000040000100000 l) {s : State} {u : State} (k : Keep l s u) (a0) (a1) :
    Keep l s (State.giveUpPt a0 a1 u) := by
  have b148 := covers_bit (i := 148) h (by decide)
  have b170 := covers_bit (i := 170) h (by decide)
  unfold State.giveUpPt
  with_reducible repeat' first
    | assumption
    | exact covers_trans (by decide) h
    | apply keep_ite
    | (intro x; simp only [MediaS.blank, TractS.blank, b148, b170, if_true]; done)
    | (intro x; (try dsimp only); (repeat' split) <;> (simp only [MediaS.blank, TractS.blank, b148, b170, if_true]; done))
    | refine State.modMed_keep ?_ ?_
    | refine State.modTrc_keep ?_ ?_
    | apply State.giveUp_keep
    | split
    | dsimp only
    | intro _

theorem State.abandon_keep {l : Nat} (h : covers 0x4430008eca200000000000000f71ef000000000418e00f8df018004001c00000000000000040000100000 l) {s : State} {u : State} (k : Keep l s u) (a0) (a1) (a2) :
    Keep l s (State.abandon a0 a1 a2 u) := by
  have b170 := covers_bit (i := 170) h (by decide)
  have b171 := covers_bit (i := 171) h (by decide)
  have b175 := covers_bit (i := 175) h (by decide)
  unfold State.abandon
  with_reducible repeat' first
    | assumption
    | exact covers_trans (by decide) h
    | apply keep_ite
    | (intro x; simp only [TractS.blank, b170, b171, b175, if_true]; done)
    | (intro x; (try dsimp only); (repeat' split) <;> (simp only [TractS.blank, b170, b171, b175, if_true]; done))
    | refine State.modTrc_keep ?_ ?_
    | apply State.modActivity_keep
    | apply State.modEntry_keep
    | apply State.putEntry_keep
    | apply State.giveUp_keep
    | apply State.dropWork_keep
    | apply State.giveUpPt_keep
    | split
    | dsimp only
    | intro _

theorem State.zeroReads_keep {l : Nat} (h : covers 0x4000000000000000000000000000000000000000 l) {s : State} {u : State} (k : Keep l s u) (a0) :
    Keep l s (State.zeroReads a0 u) := by
  unfold State.zeroReads
  with_reducible repeat' first
    | assumption
    | exact covers_trans (by decide) h
    | apply keep_ite
    | apply State.modActivity_keep
    | split
    | dsimp only
    | intro _

theorem State.request_keep {l : Nat} (h : covers 0xc2000004000000000000000000000000000000 l) {s : State} {u : State} (k : Keep l s u) (a0) (a1) (a2) (a3) :
    Keep l s (State.request a0 a1 a2 a3 u) := by
  have b122 := covers_bit (i := 122) h (by decide)
  have b151 := covers_bit (i := 151) h (by decide)
  unfold State.request
  with_reducible repeat' first
    | assumption
    | exact covers_trans (by decide) h
    | apply keep_ite
    | (intro x; simp only [WbS.blank, MediaS.blank, b122, b151, if_true]; done)
    | (intro x; (try dsimp only); (repeat' split) <;> (simp only [WbS.blank, MediaS.blank, b122, b151, if_true]; done))
    | refine State.modWb_keep ?_ ?_
    | refine State.modMed_keep ?_ ?_
    | apply State.modPlane_keep
    | apply State.addJob_keep
    | split
    | dsimp only
    | intro _

theorem State.markReconstructed_keep {l : Nat} (h : covers 0x81000000000000000000000000000 l) {s : State} {u : State} (k : Keep l s u) (a0) :
    Keep l s (State.markReconstructed a0 u) := by
  unfold State.markReconstructed
  with_reducible repeat' first
    | assumption
    | exact covers_trans (by decide) h
    | apply keep_ite
    | apply State.modHead_keep
    | apply State.modRead_keep
    | split
    | dsimp only
    | intro _

theorem State.planeRead_keep {l : Nat} (h : covers 0x2000000000000000000000000000000000000 l) {s : State} {u : State} (k : Keep l s u) (a0) (a1) (a2) :
    Keep l s (State.planeRead a0 a1 a2 u) := by
  unfold State.planeRead
  with_reducible repeat' first
    | assumption
    | exact covers_trans (by decide) h
    | apply keep_ite
    | apply State.modPlane_keep
    | split
    | dsimp only
    | intro _

theorem State.issue_keep {l : Nat} (h : covers 0xa000000000000000000000000000000000000 l) {s : State} {u : State} (k : Keep l s u) (a0) (a1) (a2) :
    Keep l s (State.issue a0 a1 a2 u) := by
  unfold State.issue
  with_reducible repeat' first
    | assumption
    | exact covers_trans (by decide) h
    | apply keep_ite
    | refine forEach_keep (fun _ _ _ => ?_) ?_ _
    | apply State.modChannel_keep
    | apply State.planeRead_keep
    | split
    | dsimp only
    | intro _

theorem State.reconstruct_keep {l : Nat} (h : covers 0x4430008eca200000000000000f71ef000300180001000005a018000081c00000000000000040000100000 l) {s : State} {u : State} (k : Keep l s u) (a0) :
    Keep l s (State.reconstruct a0 u) := by
  unfold State.reconstruct
  with_reducible repeat' first
    | assumption
    | exact covers_trans (by decide) h
    | apply keep_ite
    | apply State.modRead_keep
    | apply State.cannotRebuild_keep
    | apply State.markReconstructed_keep
    | apply State.issue_keep
    | split
    | dsimp only
    | intro _

theorem State.cachePut_keep {l : Nat} (h : covers 0x40000000000000000000000000000000000000000000000 l) {s : State} {u : State} (k : Keep l s u) (a0) (a1) :
    Keep l s (State.cachePut a0 a1 u) := by
  have b186 := covers_bit (i := 186) h (by decide)
  unfold State.cachePut
  with_reducible repeat' first
    | assumption
    | exact covers_trans (by decide) h
    | apply keep_ite
    | (intro x; simp only [IntegS.blank, b186, if_true]; done)
    | (intro x; (try dsimp only); (repeat' split) <;> (simp only [IntegS.blank, b186, if_true]; done))
    | refine State.modItg_keep ?_ ?_
    | split
    | dsimp only
    | intro _

theorem State.nodeDone_keep {l : Nat} (h : covers 0x4430008eca200000000000000f71ef0007003840010000852018000081c00000000000000040000100000 l) {s : State} {u : State} (k : Keep l s u) (a0) (a1) (a2) (a3) :
    Keep l s (State.nodeDone a0 a1 a2 a3 u) := by
  have b193 := covers_bit (i := 193) h (by decide)
  unfold State.nodeDone
  with_reducible repeat' first
    | assumption
    | exact covers_trans (by decide) h
    | apply keep_ite
    | (intro x; simp only [IntegS.blank, b193, if_true]; done)
    | (intro x; (try dsimp only); (repeat' split) <;> (simp only [IntegS.blank, b193, if_true]; done))
    | refine State.modItg_keep ?_ ?_
    | apply State.when_keep
    | apply State.countEcc_keep
    | apply State.queueRewrite_keep
    | apply State.modRead_keep
    | apply State.alarm_keep
    | apply State.decideRead_keep
    | apply State.cachePut_keep
    | split
    | dsimp only
    | intro _

theorem State.loseTracts_keep {l : Nat} (h : covers 0x4430008eca200000000000000f71ef000000080418e00f8df018004001c00000000000000040000100000 l) {s : State} {u : State} (k : Keep l s u) (a0) (a1) (a2) :
    Keep l s (State.loseTracts a0 a1 a2 u) := by
  unfold State.loseTracts
  with_reducible repeat' first
    | assumption
    | exact covers_trans (by decide) h
    | apply keep_ite
    | refine forEach_keep (fun _ _ _ => ?_) ?_ _
    | apply State.putEntry_keep
    | apply State.alarm_keep
    | apply State.abandon_keep
    | split
    | dsimp only
    | intro _

theorem State.nodeLost_keep {l : Nat} (h : covers 0x4430008eca200000000000000f71ef000000080419e00f8df018004081c00000000000000040000100000 l) {s : State} {u : State} (k : Keep l s u) (a0) (a1) :
    Keep l s (State.nodeLost a0 a1 u) := by
  unfold State.nodeLost
  with_reducible repeat' first
    | assumption
    | exact covers_trans (by decide) h
    | apply keep_ite
    | apply State.decided_keep
    | apply State.loseTracts_keep
    | split
    | dsimp only
    | intro _

theorem State.nodeLast_keep {l : Nat} (h : covers 0x4430008eca200000000000000f71ef000700384419e00f8df018004081c00000000000000040000100000 l) {s : State} {u : State} (k : Keep l s u) (a0) (a1) (a2) (a3) :
    Keep l s (State.nodeLast a0 a1 a2 a3 u) := by
  unfold State.nodeLast
  with_reducible repeat' first
    | assumption
    | exact covers_trans (by decide) h
    | apply keep_ite
    | apply State.report_keep
    | apply State.countEcc_keep
    | apply State.nodeDone_keep
    | apply State.nodeLost_keep
    | split
    | dsimp only
    | intro _

theorem State.nodeRetry_keep {l : Nat} (h : covers 0x4430008eca200000000000000f71ef000700384419e00f8df018004081c00000000000000040000100000 l) {s : State} {u : State} (k : Keep l s u) (a0) (a1) (a2) (a3) :
    Keep l s (State.nodeRetry a0 a1 a2 a3 u) := by
  unfold State.nodeRetry
  with_reducible repeat' first
    | assumption
    | exact covers_trans (by decide) h
    | apply keep_ite
    | apply State.when_keep
    | apply State.report_keep
    | apply State.modRead_keep
    | apply State.markReconstructed_keep
    | apply State.issue_keep
    | apply State.nodeLast_keep
    | split
    | dsimp only
    | intro _

theorem State.release_keep {l : Nat} (h : covers 0x20000000000000000000000000000000000000 l) {s : State} {u : State} (k : Keep l s u) (a0) :
    Keep l s (State.release a0 u) := by
  have b149 := covers_bit (i := 149) h (by decide)
  unfold State.release
  with_reducible repeat' first
    | assumption
    | exact covers_trans (by decide) h
    | apply keep_ite
    | (intro x; simp only [MediaS.blank, b149, if_true]; done)
    | (intro x; (try dsimp only); (repeat' split) <;> (simp only [MediaS.blank, b149, if_true]; done))
    | refine State.modMed_keep ?_ ?_
    | split
    | dsimp only
    | intro _

theorem State.grantIdle_keep {l : Nat} (h : covers 0x42000000000000000000000000000000000000 l) {s : State} {u : State} (k : Keep l s u)  :
    Keep l s (State.grantIdle u) := by
  unfold State.grantIdle
  with_reducible repeat' first
    | assumption
    | exact covers_trans (by decide) h
    | apply keep_ite
    | refine forEach_keep (fun _ _ _ => ?_) ?_ _
    | apply State.grant_keep
    | split
    | dsimp only
    | intro _

theorem State.dropDie_keep {l : Nat} (h : covers 0xc430008eca200000000000000f71ef00000000041060080eb018005001c00000000000000040000100000 l) {s : State} {u : State} (k : Keep l s u) (a0) :
    Keep l s (State.dropDie a0 u) := by
  unfold State.dropDie
  with_reducible repeat' first
    | assumption
    | exact covers_trans (by decide) h
    | apply keep_ite
    | refine forEach_keep (fun _ _ _ => ?_) ?_ _
    | apply State.modPlane_keep
    | apply State.cutOff_keep
    | apply State.freeDone_keep
    | apply State.programDone_keep
    | apply State.unreserve_keep
    | apply State.release_keep
    | apply State.grantIdle_keep
    | split
    | dsimp only
    | intro _

theorem State.bufferSync_keep {l : Nat} (h : covers 0x3800000400000000000000000000000000 l) {s : State} {u : State} (k : Keep l s u)  :
    Keep l s (State.bufferSync u) := by
  have b131 := covers_bit (i := 131) h (by decide)
  have b132 := covers_bit (i := 132) h (by decide)
  have b133 := covers_bit (i := 133) h (by decide)
  unfold State.bufferSync
  with_reducible repeat' first
    | assumption
    | exact covers_trans (by decide) h
    | apply keep_ite
    | (intro x; simp only [WbS.blank, b131, b132, b133, if_true]; done)
    | (intro x; (try dsimp only); (repeat' split) <;> (simp only [WbS.blank, b131, b132, b133, if_true]; done))
    | refine State.modWb_keep ?_ ?_
    | apply State.creditSync_keep
    | split
    | dsimp only
    | intro _

theorem State.raisePeak_keep {l : Nat} (h : covers 0x8000000000000000000000000000000000000000 l) {s : State} {u : State} (k : Keep l s u) (a0) (a1) :
    Keep l s (State.raisePeak a0 a1 u) := by
  have b159 := covers_bit (i := 159) h (by decide)
  unfold State.raisePeak
  with_reducible repeat' first
    | assumption
    | exact covers_trans (by decide) h
    | apply keep_ite
    | (intro x; simp only [TractS.blank, b159, if_true]; done)
    | (intro x; (try dsimp only); (repeat' split) <;> (simp only [TractS.blank, b159, if_true]; done))
    | refine State.modTrc_keep ?_ ?_
    | split
    | dsimp only
    | intro _

theorem execLinkDown_keep {l : Nat} (h : covers 0x4430008eca200000000000000f000f0000000000000000000018000881c00000000000000040000100000 l) {s : State} {u : State} (k : Keep l s u) (a0) :
    KeepR l s (execLinkDown a0 u) := by
  unfold execLinkDown
  with_reducible repeat' first
    | assumption
    | exact covers_trans (by decide) h
    | apply keep_ite
    | apply keepR_ite
    | apply State.linkDown_keep
    | apply State.portSync_keep
    | apply KeepR.next
    | split
    | dsimp only
    | intro _

theorem mailboxed_keep {l : Nat} (h : covers 0x1000000000000000000000000000 l) {s : State} {a2 : State → State} (ka2 : ∀  v, Keep l s v → Keep l s (a2  v)) {u : State} (k : Keep l s u) (a0) (a1) :
    Keep l s (mailboxed a0 a1 a2 u) := by
  unfold mailboxed
  with_reducible repeat' first
    | assumption
    | exact covers_trans (by decide) h
    | apply keep_ite
    | apply State.modHead_keep
    | refine ka2  _ ?_
    | split
    | dsimp only
    | intro _

theorem State.partFailing_keep {l : Nat} (h : covers 0x4430008eca200000000000000f71ef0800000000000000000018000001c00000000000000040000100000 l) {s : State} {u : State} (k : Keep l s u) (a0) :
    Keep l s (State.partFailing a0 u) := by
  unfold State.partFailing
  with_reducible repeat' first
    | assumption
    | exact covers_trans (by decide) h
    | apply keep_ite
    | apply State.report_keep
    | apply State.modSram_keep
    | split
    | dsimp only
    | intro _

theorem State.badWord_keep {l : Nat} (h : covers 0x4430008eca200000000000000f71ef0800000000000000000018000001c00000000000000040000100000 l) {s : State} {u : State} (k : Keep l s u) (a0) (a1) :
    Keep l s (State.badWord a0 a1 u) := by
  unfold State.badWord
  with_reducible repeat' first
    | assumption
    | exact covers_trans (by decide) h
    | apply keep_ite
    | apply State.report_keep
    | apply State.modSram_keep
    | apply State.partFailing_keep
    | split
    | dsimp only
    | intro _

theorem State.mapCopyFailed_keep {l : Nat} (h : covers 0x4430008eca200000000000000f71ef0800000002000000000018000001c00000000000000040000100000 l) {s : State} {u : State} (k : Keep l s u) (a0) :
    Keep l s (State.mapCopyFailed a0 u) := by
  have b181 := covers_bit (i := 181) h (by decide)
  unfold State.mapCopyFailed
  with_reducible repeat' first
    | assumption
    | exact covers_trans (by decide) h
    | apply keep_ite
    | (intro x; simp only [TractS.blank, b181, if_true]; done)
    | (intro x; (try dsimp only); (repeat' split) <;> (simp only [TractS.blank, b181, if_true]; done))
    | refine State.modTrc_keep ?_ ?_
    | apply State.badWord_keep
    | split
    | dsimp only
    | intro _

theorem State.strayAccess_keep {l : Nat} (h : covers 0x4430008eca200000000000000000000000000000000000000000000001800000000000000000000000000 l) {s : State} {u : State} (k : Keep l s u) (a0) (a1) (a2) :
    Keep l s (State.strayAccess a0 a1 a2 u) := by
  unfold State.strayAccess
  with_reducible repeat' first
    | assumption
    | exact covers_trans (by decide) h
    | apply keep_ite
    | apply State.modHead_keep
    | apply State.headEvent_keep
    | split
    | dsimp only
    | intro _

theorem State.nodeCame_keep {l : Nat} (h : covers 0x4430008eca200000000000000f71ef000700384419e00f8df018004081c00000000000000040000100000 l) {s : State} {u : State} (k : Keep l s u) (a0) (a1) (a2) (a3) (a4) :
    Keep l s (State.nodeCame a0 a1 a2 a3 a4 u) := by
  unfold State.nodeCame
  with_reducible repeat' first
    | assumption
    | exact covers_trans (by decide) h
    | apply keep_ite
    | apply State.nodeDone_keep
    | apply State.nodeRetry_keep
    | split
    | dsimp only
    | intro _

theorem State.countTraffic_keep {l : Nat} (h : covers 0x400000000000000000000000000 l) {s : State} {u : State} (k : Keep l s u) (a0) (a1) (a2) :
    Keep l s (State.countTraffic a0 a1 a2 u) := by
  unfold State.countTraffic
  with_reducible repeat' first
    | assumption
    | exact covers_trans (by decide) h
    | apply keep_ite
    | apply State.modPort_keep
    | split
    | dsimp only
    | intro _

theorem State.startRec_keep {l : Nat} (h : covers 0x340000000000000000000000000000000 l) {s : State} {u : State} (k : Keep l s u) (a0) (a1) (a2) :
    Keep l s (State.startRec a0 a1 a2 u) := by
  have b126 := covers_bit (i := 126) h (by decide)
  have b128 := covers_bit (i := 128) h (by decide)
  have b129 := covers_bit (i := 129) h (by decide)
  unfold State.startRec
  with_reducible repeat' first
    | assumption
    | exact covers_trans (by decide) h
    | apply keep_ite
    | (intro x; simp only [WbS.blank, b126, b128, b129, if_true]; done)
    | (intro x; (try dsimp only); (repeat' split) <;> (simp only [WbS.blank, b126, b128, b129, if_true]; done))
    | refine State.modWb_keep ?_ ?_
    | split
    | dsimp only
    | intro _

theorem State.startSeal_keep {l : Nat} (h : covers 0x360000000000000000000000000000000 l) {s : State} {u : State} (k : Keep l s u)  :
    Keep l s (State.startSeal u) := by
  have b125 := covers_bit (i := 125) h (by decide)
  unfold State.startSeal
  with_reducible repeat' first
    | assumption
    | exact covers_trans (by decide) h
    | apply keep_ite
    | (intro x; simp only [WbS.blank, b125, if_true]; done)
    | (intro x; (try dsimp only); (repeat' split) <;> (simp only [WbS.blank, b125, if_true]; done))
    | refine State.modWb_keep ?_ ?_
    | apply State.startRec_keep
    | split
    | dsimp only
    | intro _

theorem State.sealMore_keep {l : Nat} (h : covers 0x360000000000000000000000000000000 l) {s : State} {u : State} (k : Keep l s u)  :
    Keep l s (State.sealMore u) := by
  unfold State.sealMore
  with_reducible repeat' first
    | assumption
    | exact covers_trans (by decide) h
    | apply keep_ite
    | apply State.startSeal_keep
    | split
    | dsimp only
    | intro _

theorem State.pairCount_keep {l : Nat} (h : covers 0x800000000000000000000000000000000000 l) {s : State} {u : State} (k : Keep l s u) (a0) (a1) :
    Keep l s (State.pairCount a0 a1 u) := by
  have b143 := covers_bit (i := 143) h (by decide)
  unfold State.pairCount
  with_reducible repeat' first
    | assumption
    | exact covers_trans (by decide) h
    | apply keep_ite
    | (intro x; simp only [WbS.blank, b143, if_true]; done)
    | (intro x; (try dsimp only); (repeat' split) <;> (simp only [WbS.blank, b143, if_true]; done))
    | refine State.modWb_keep ?_ ?_
    | split
    | dsimp only
    | intro _

theorem State.dirtyJoin_keep {l : Nat} (h : covers 0x8000000000000000000000000000000 l) {s : State} {u : State} (k : Keep l s u) (a0) :
    Keep l s (State.dirtyJoin a0 u) := by
  have b123 := covers_bit (i := 123) h (by decide)
  unfold State.dirtyJoin
  with_reducible repeat' first
    | assumption
    | exact covers_trans (by decide) h
    | apply keep_ite
    | (intro x; simp only [WbS.blank, b123, if_true]; done)
    | (intro x; (try dsimp only); (repeat' split) <;> (simp only [WbS.blank, b123, if_true]; done))
    | refine State.modWb_keep ?_ ?_
    | split
    | dsimp only
    | intro _

theorem State.enter_keep {l : Nat} (h : covers 0x803808a00400000000000000000000000000 l) {s : State} {u : State} (k : Keep l s u) (a0) (a1) :
    Keep l s (State.enter a0 a1 u) := by
  have b117 := covers_bit (i := 117) h (by decide)
  have b119 := covers_bit (i := 119) h (by decide)
  unfold State.enter
  with_reducible repeat' first
    | assumption
    | exact covers_trans (by decide) h
    | apply keep_ite
    | (intro x; simp only [ReadPathS.blank, WbS.blank, b117, b119, if_true]; done)
    | (intro x; (try dsimp only); (repeat' split) <;> (simp only [ReadPathS.blank, WbS.blank, b117, b119, if_true]; done))
    | refine State.modRdp_keep ?_ ?_
    | refine State.modWb_keep ?_ ?_
    | apply State.bufferSync_keep
    | apply State.pairCount_keep
    | apply State.dirtyJoin_keep
    | split
    | dsimp only
    | intro _

theorem State.hostWrite_keep {l : Nat} (h : covers 0x4430008eca200000000000000000000000000000000000000803b68e01c00000000000000000000000000 l) {s : State} {u : State} (k : Keep l s u) (a0) (a1) (a2) (a3) :
    Keep l s (State.hostWrite a0 a1 a2 a3 u) := by
  have b118 := covers_bit (i := 118) h (by decide)
  unfold State.hostWrite
  with_reducible repeat' first
    | assumption
    | exact covers_trans (by decide) h
    | apply keep_ite
    | (intro x; simp only [ReadPathS.blank, b118, if_true]; done)
    | (intro x; (try dsimp only); (repeat' split) <;> (simp only [ReadPathS.blank, b118, if_true]; done))
    | refine State.modRdp_keep ?_ ?_
    | apply State.emit_keep
    | apply State.modHead_keep
    | apply State.strayAccess_keep
    | apply State.countTraffic_keep
    | apply State.sealMore_keep
    | apply State.enter_keep
    | split
    | dsimp only
    | intro _

theorem execMemwr_keep {l : Nat} (h : covers 0x4430008eca200000000000000000000000000000000000000803b68e01c00000000000000000000000000 l) {s : State} {u : State} (k : Keep l s u) (a0) (a1) (a2) (a3) :
    KeepR l s (execMemwr a0 a1 a2 a3 u) := by
  unfold execMemwr
  with_reducible repeat' first
    | assumption
    | exact covers_trans (by decide) h
    | apply keep_ite
    | apply keepR_ite
    | apply State.hostWrite_keep
    | apply KeepR.next
    | split
    | dsimp only
    | intro _

theorem State.mbReturn_keep {l : Nat} (h : covers 0x4000000000000000000000000000000000000000000000000000000000800000000000000000000000000 l) {s : State} {u : State} (k : Keep l s u) (a0) (a1) (a2) (a3) :
    Keep l s (State.mbReturn a0 a1 a2 a3 u) := by
  unfold State.mbReturn
  with_reducible repeat' first
    | assumption
    | exact covers_trans (by decide) h
    | apply keep_ite
    | apply State.emit_keep
    | apply State.msix_keep
    | split
    | dsimp only
    | intro _

theorem State.drawMajor_keep {l : Nat} (h : covers 0x2200000000000000000000000000180000000000000000000000000000000000000000000000 l) {s : State} {u : State} (k : Keep l s u)  :
    Keep l s (State.drawMajor u).2 := by
  have b187 := covers_bit (i := 187) h (by decide)
  have b188 := covers_bit (i := 188) h (by decide)
  unfold State.drawMajor
  with_reducible repeat' first
    | assumption
    | exact covers_trans (by decide) h
    | apply keep_ite
    | apply keep_ite_snd
    | (intro x; simp only [IntegS.blank, b187, b188, if_true]; done)
    | (intro x; (try dsimp only); (repeat' split) <;> (simp only [IntegS.blank, b187, b188, if_true]; done))
    | refine State.modItg_keep ?_ ?_
    | apply State.storeWrite_keep
    | split
    | dsimp only
    | intro _

theorem State.putNode_keep {l : Nat} (h : covers 0x8000000010000000000000000000000000000000000000000000000 l) {s : State} {u : State} (k : Keep l s u) (a0) (a1) (a2) :
    Keep l s (State.putNode a0 a1 a2 u) := by
  have b184 := covers_bit (i := 184) h (by decide)
  have b219 := covers_bit (i := 219) h (by decide)
  unfold State.putNode
  with_reducible repeat' first
    | assumption
    | exact covers_trans (by decide) h
    | apply keep_ite
    | (intro x; simp only [IntegS.blank, StagingS.blank, b184, b219, if_true]; done)
    | (intro x; (try dsimp only); (repeat' split) <;> (simp only [IntegS.blank, StagingS.blank, b184, b219, if_true]; done))
    | refine State.modItg_keep ?_ ?_
    | refine State.modStg_keep ?_ ?_
    | split
    | dsimp only
    | intro _

theorem State.climbOne_keep {l : Nat} (h : covers 0x8000000010000000000000000000000000000000000000000000000 l) {s : State} {u : State} (k : Keep l s u) (a0) (a1) :
    Keep l s (State.climbOne a0 a1 u) := by
  unfold State.climbOne
  with_reducible repeat' first
    | assumption
    | exact covers_trans (by decide) h
    | apply keep_ite
    | apply State.putNode_keep
    | split
    | dsimp only
    | intro _

theorem State.climb_keep {l : Nat} (h : covers 0x8000000030000000000000000000000000000000000000000000000 l) {s : State} {u : State} (k : Keep l s u) (a0) :
    Keep l s (State.climb a0 u) := by
  have b185 := covers_bit (i := 185) h (by decide)
  unfold State.climb
  with_reducible repeat' first
    | assumption
    | exact covers_trans (by decide) h
    | apply keep_ite
    | (intro x; simp only [IntegS.blank, b185, if_true]; done)
    | (intro x; (try dsimp only); (repeat' split) <;> (simp only [IntegS.blank, b185, if_true]; done))
    | refine State.modItg_keep ?_ ?_
    | refine forEach_keep (fun _ _ _ => ?_) ?_ _
    | apply State.climbOne_keep
    | split
    | dsimp only
    | intro _

theorem State.setBlock_keep {l : Nat} (h : covers 0x8000000038000000000000000000000000000000000000000000000 l) {s : State} {u : State} (k : Keep l s u) (a0) (a1) :
    Keep l s (State.setBlock a0 a1 u) := by
  have b183 := covers_bit (i := 183) h (by decide)
  unfold State.setBlock
  with_reducible repeat' first
    | assumption
    | exact covers_trans (by decide) h
    | apply keep_ite
    | (intro x; simp only [IntegS.blank, b183, if_true]; done)
    | (intro x; (try dsimp only); (repeat' split) <;> (simp only [IntegS.blank, b183, if_true]; done))
    | refine State.modItg_keep ?_ ?_
    | apply State.climb_keep
    | split
    | dsimp only
    | intro _

theorem State.nodeEntry_keep {l : Nat} (h : covers 0x803808a00400000000000000000000000000 l) {s : State} {u : State} (k : Keep l s u) (a0) (a1) (a2) (a3) (a4) (a5) :
    Keep l s (State.nodeEntry a0 a1 a2 a3 a4 a5 u) := by
  unfold State.nodeEntry
  with_reducible repeat' first
    | assumption
    | exact covers_trans (by decide) h
    | apply keep_ite
    | apply State.pairCount_keep
    | apply State.enter_keep
    | split
    | dsimp only
    | intro _

theorem State.halfEntry_keep {l : Nat} (h : covers 0x803808a00400000000000000000000000000 l) {s : State} {u : State} (k : Keep l s u) (a0) (a1) :
    Keep l s (State.halfEntry a0 a1 u) := by
  unfold State.halfEntry
  with_reducible repeat' first
    | assumption
    | exact covers_trans (by decide) h
    | apply keep_ite
    | apply State.pairCount_keep
    | apply State.enter_keep
    | split
    | dsimp only
    | intro _

theorem State.freshBlocks_keep {l : Nat} (h : covers 0x22000000000000000000080000001f8000000000803808a00400000000000000000000000000 l) {s : State} {u : State} (k : Keep l s u) (a0) (a1) (a2) :
    Keep l s (State.freshBlocks a0 a1 a2 u) := by
  have b186 := covers_bit (i := 186) h (by decide)
  unfold State.freshBlocks
  with_reducible repeat' first
    | assumption
    | exact covers_trans (by decide) h
    | apply keep_ite
    | (intro x; simp only [IntegS.blank, b186, if_true]; done)
    | (intro x; (try dsimp only); (repeat' split) <;> (simp only [IntegS.blank, b186, if_true]; done))
    | refine State.modItg_keep ?_ ?_
    | refine forEach_keep (fun _ _ _ => ?_) ?_ _
    | apply State.drawMajor_keep
    | refine snd_of_eq ‹State.drawMajor _ = _› (State.drawMajor_keep ?_ ?_)
    | apply State.setBlock_keep
    | apply State.nodeEntry_keep
    | apply State.halfEntry_keep
    | split
    | dsimp only
    | intro _

theorem State.renew_keep {l : Nat} (h : covers 0x4430008eca200000000000000f71ef80000001fc1ae00f8df81b80ca01c00000000000000040000100000 l) {s : State} {u : State} (k : Keep l s u) (a0) (a1) (a2) :
    Keep l s (State.renew a0 a1 a2 u) := by
  have b158 := covers_bit (i := 158) h (by decide)
  have b171 := covers_bit (i := 171) h (by decide)
  have b173 := covers_bit (i := 173) h (by decide)
  unfold State.renew
  with_reducible repeat' first
    | assumption
    | exact covers_trans (by decide) h
    | apply keep_ite
    | (intro x; simp only [TractS.blank, b158, b171, b173, if_true]; done)
    | (intro x; (try dsimp only); (repeat' split) <;> (simp only [TractS.blank, b158, b171, b173, if_true]; done))
    | refine State.modTrc_keep ?_ ?_
    | apply State.putEntry_keep
    | apply State.giveUpPt_keep
    | apply State.abandon_keep
    | apply State.freshBlocks_keep
    | split
    | dsimp only
    | intro _

theorem State.zeroExtent_keep {l : Nat} (h : covers 0x4430008eca200000000000000f71ef80009001fc1ae00f8df81b80ca01c00000000000000040000100000 l) {s : State} {u : State} (k : Keep l s u) (a0) :
    Keep l s (State.zeroExtent a0 u) := by
  have b200 := covers_bit (i := 200) h (by decide)
  unfold State.zeroExtent
  with_reducible repeat' first
    | assumption
    | exact covers_trans (by decide) h
    | apply keep_ite
    | (intro x; simp only [IntegS.blank, b200, if_true]; done)
    | (intro x; (try dsimp only); (repeat' split) <;> (simp only [IntegS.blank, b200, if_true]; done))
    | refine State.modItg_keep ?_ ?_
    | refine forEach_keep (fun _ _ _ => ?_) ?_ _
    | apply State.discardOpen_keep
    | apply State.closeWindow_keep
    | apply State.dirtySync_keep
    | apply State.bufferSync_keep
    | apply State.renew_keep
    | split
    | dsimp only
    | intro _

theorem execViralReceived_keep {l : Nat} (h : covers 0x4430008eca2000000000000000000f0000000000000000000000000001800000000000000000000000000 l) {s : State} {u : State} (k : Keep l s u) (a0) :
    KeepR l s (execViralReceived a0 u) := by
  unfold execViralReceived
  with_reducible repeat' first
    | assumption
    | exact covers_trans (by decide) h
    | apply keep_ite
    | apply keepR_ite
    | apply State.enterViral_keep
    | apply KeepR.next
    | split
    | dsimp only
    | intro _

theorem State.getShutdown_keep {l : Nat} (h : covers 0x4000000000000000000000000000000000000000000000000000000000800000000000000000000000000 l) {s : State} {u : State} (k : Keep l s u) (a0) :
    Keep l s (State.getShutdown a0 u) := by
  unfold State.getShutdown
  with_reducible repeat' first
    | assumption
    | exact covers_trans (by decide) h
    | apply keep_ite
    | apply State.mbReturn_keep
    | split
    | dsimp only
    | intro _

theorem execGetShutdownState_keep {l : Nat} (h : covers 0x4000000000000000000000000000000000000000000000000000000001800000000000000000000000000 l) {s : State} {u : State} (k : Keep l s u) (a0) :
    KeepR l s (execGetShutdownState a0 u) := by
  unfold execGetShutdownState
  with_reducible repeat' first
    | assumption
    | exact covers_trans (by decide) h
    | apply keep_ite
    | apply keepR_ite
    | apply mailboxed_keep
    | apply State.getShutdown_keep
    | apply KeepR.next
    | split
    | dsimp only
    | intro _

theorem State.usedMajor_keep {l : Nat} (h : covers 0x2200000000000000000000000000180000000000000000000000000000000000000000000000 l) {s : State} {u : State} (k : Keep l s u) (a0) :
    Keep l s (State.usedMajor a0 u) := by
  have b187 := covers_bit (i := 187) h (by decide)
  have b188 := covers_bit (i := 188) h (by decide)
  unfold State.usedMajor
  with_reducible repeat' first
    | assumption
    | exact covers_trans (by decide) h
    | apply keep_ite
    | (intro x; simp only [IntegS.blank, b187, b188, if_true]; done)
    | (intro x; (try dsimp only); (repeat' split) <;> (simp only [IntegS.blank, b187, b188, if_true]; done))
    | refine State.modItg_keep ?_ ?_
    | apply State.storeWrite_keep
    | split
    | dsimp only
    | intro _

theorem State.upperEntries_keep {l : Nat} (h : covers 0x803808a00400000000000000000000000000 l) {s : State} {u : State} (k : Keep l s u) (a0) (a1) (a2) :
    Keep l s (State.upperEntries a0 a1 a2 u) := by
  unfold State.upperEntries
  with_reducible repeat' first
    | assumption
    | exact covers_trans (by decide) h
    | apply keep_ite
    | apply State.nodeEntry_keep
    | split
    | dsimp only
    | intro _

theorem State.nodeEntries_keep {l : Nat} (h : covers 0x803808a00400000000000000000000000000 l) {s : State} {u : State} (k : Keep l s u) (a0) (a1) :
    Keep l s (State.nodeEntries a0 a1 u) := by
  unfold State.nodeEntries
  with_reducible repeat' first
    | assumption
    | exact covers_trans (by decide) h
    | apply keep_ite
    | apply State.nodeEntry_keep
    | apply State.halfEntry_keep
    | apply State.upperEntries_keep
    | split
    | dsimp only
    | intro _

theorem State.requestAll_keep {l : Nat} (h : covers 0xc2000004000000000000000000000000000000 l) {s : State} {u : State} (k : Keep l s u) (a0) (a1) (a2) :
    Keep l s (State.requestAll a0 a1 a2 u) := by
  unfold State.requestAll
  with_reducible repeat' first
    | assumption
    | exact covers_trans (by decide) h
    | apply keep_ite
    | refine forEach_keep (fun _ _ _ => ?_) ?_ _
    | apply State.request_keep
    | split
    | dsimp only
    | intro _

theorem execMemwrptl_keep {l : Nat} (h : covers 0x4430008eca200000000000000000000000000000000000000803b68e01c00000000000000000000000000 l) {s : State} {u : State} (k : Keep l s u) (a0) (a1) (a2) (a3) (a4) :
    KeepR l s (execMemwrptl a0 a1 a2 a3 a4 u) := by
  unfold execMemwrptl
  with_reducible repeat' first
    | assumption
    | exact covers_trans (by decide) h
    | apply keep_ite
    | apply keepR_ite
    | apply State.hostWrite_keep
    | apply KeepR.next
    | split
    | dsimp only
    | intro _

theorem State.dispatch_keep {l : Nat} (h : covers 0x4430008eca200000000000000f71ef000100980001000005a018000081c00000000000000040000100000 l) {s : State} {u : State} (k : Keep l s u) (a0) (a1) (a2) :
    Keep l s (State.dispatch a0 a1 a2 u) := by
  have b172 := covers_bit (i := 172) h (by decide)
  have b195 := covers_bit (i := 195) h (by decide)
  unfold State.dispatch
  with_reducible repeat' first
    | assumption
    | exact covers_trans (by decide) h
    | apply keep_ite
    | (intro x; simp only [IntegS.blank, TractS.blank, b172, b195, if_true]; done)
    | (intro x; (try dsimp only); (repeat' split) <;> (simp only [IntegS.blank, TractS.blank, b172, b195, if_true]; done))
    | refine State.modItg_keep ?_ ?_
    | refine State.modTrc_keep ?_ ?_
    | apply State.modChannel_keep
    | apply State.modRead_keep
    | apply State.decided_keep
    | apply State.decideRead_keep
    | apply State.issue_keep
    | split
    | dsimp only
    | intro _

theorem State.acceptRead_keep {l : Nat} (h : covers 0x4430008eca200000000000000f71ef080100980201000005a018000781c00000000000000040000100000 l) {s : State} {u : State} (k : Keep l s u) (a0) (a1) (a2) (a3) :
    Keep l s (State.acceptRead a0 a1 a2 a3 u) := by
  have b115 := covers_bit (i := 115) h (by decide)
  have b116 := covers_bit (i := 116) h (by decide)
  have b117 := covers_bit (i := 117) h (by decide)
  have b118 := covers_bit (i := 118) h (by decide)
  have b181 := covers_bit (i := 181) h (by decide)
  unfold State.acceptRead
  with_reducible repeat' first
    | assumption
    | exact covers_trans (by decide) h
    | apply keep_ite
    | (intro x; simp only [ReadPathS.blank, TractS.blank, b115, b116, b117, b118, b181, if_true]; done)
    | (intro x; (try dsimp only); (repeat' split) <;> (simp only [ReadPathS.blank, TractS.blank, b115, b116, b117, b118, b181, if_true]; done))
    | refine State.modRdp_keep ?_ ?_
    | refine State.modTrc_keep ?_ ?_
    | apply State.when_keep
    | apply State.modHead_keep
    | apply State.report_keep
    | apply State.modRead_keep
    | apply State.mapCopyFailed_keep
    | apply State.dispatch_keep
    | split
    | dsimp only
    | intro _

theorem execMirrorWriteAck_keep {l : Nat} (h : covers 0x4000000000000000000000000000000000000000000000000000000801000000000000000000000000000 l) {s : State} {u : State} (k : Keep l s u) (a0) (a1) :
    KeepR l s (execMirrorWriteAck a0 a1 u) := by
  have b119 := covers_bit (i := 119) h (by decide)
  unfold execMirrorWriteAck
  with_reducible repeat' first
    | assumption
    | exact covers_trans (by decide) h
    | apply keep_ite
    | apply keepR_ite
    | (intro x; simp only [WbS.blank, b119, if_true]; done)
    | (intro x; (try dsimp only); (repeat' split) <;> (simp only [WbS.blank, b119, if_true]; done))
    | refine State.modWb_keep ?_ ?_
    | apply State.complete_keep
    | apply KeepR.next
    | split
    | dsimp only
    | intro _

theorem State.answerPoisoned_keep {l : Nat} (h : covers 0x4000000000000000000000000000000000000000000000000000000001400000000000000000000000000 l) {s : State} {u : State} (k : Keep l s u) (a0) (a1) (a2) :
    Keep l s (State.answerPoisoned a0 a1 a2 u) := by
  unfold State.answerPoisoned
  with_reducible repeat' first
    | assumption
    | exact covers_trans (by decide) h
    | apply keep_ite
    | apply State.emit_keep
    | apply State.modHead_keep
    | apply State.countTraffic_keep
    | split
    | dsimp only
    | intro _

theorem State.ownArrival_keep {l : Nat} (h : covers 0x4430008eca200000000000000f71ef000700180001900485e018000081c00000000000000040000100000 l) {s : State} {u : State} (k : Keep l s u) (a0) (a1) (a2) (a3) (a4) :
    Keep l s (State.ownArrival a0 a1 a2 a3 a4 u) := by
  unfold State.ownArrival
  with_reducible repeat' first
    | assumption
    | exact covers_trans (by decide) h
    | apply keep_ite
    | apply State.eccSeen_keep
    | apply State.modRead_keep
    | apply State.decideRead_keep
    | apply State.reconstruct_keep
    | split
    | dsimp only
    | intro _

theorem execIdeKmRequest_keep {l : Nat} (h : covers 0x4430008eca200000000000000000000000000000000000000000000001800000000000000000000000000 l) {s : State} {u : State} (k : Keep l s u) (a0) (a1) :
    KeepR l s (execIdeKmRequest a0 a1 u) := by
  unfold execIdeKmRequest
  with_reducible repeat' first
    | assumption
    | exact covers_trans (by decide) h
    | apply keep_ite
    | apply keepR_ite
    | apply State.emit_keep
    | apply State.modLink_keep
    | apply State.boundSync_keep
    | apply State.linkEvent_keep
    | apply KeepR.next
    | split
    | dsimp only
    | intro _

theorem State.noAnswer_keep {l : Nat} (h : covers 0x4430008eca200000000000000f71ef0000000000000000004018000001c00000000000000040000100000 l) {s : State} {u : State} (k : Keep l s u) (a0) :
    Keep l s (State.noAnswer a0 u) := by
  unfold State.noAnswer
  with_reducible repeat' first
    | assumption
    | exact covers_trans (by decide) h
    | apply keep_ite
    | apply State.report_keep
    | apply State.modDie_keep
    | split
    | dsimp only
    | intro _

theorem execPerstAssert_keep {l : Nat} (h : covers 0x4430008eca200000000000000f000f0000000000000000000018000881c00000000000000040000100000 l) {s : State} {u : State} (k : Keep l s u) (a0) (a1) :
    KeepR l s (execPerstAssert a0 a1 u) := by
  unfold execPerstAssert
  with_reducible repeat' first
    | assumption
    | exact covers_trans (by decide) h
    | apply keep_ite
    | apply keepR_ite
    | apply State.modLink_keep
    | apply State.portSync_keep
    | apply KeepR.next
    | split
    | dsimp only
    | intro _

theorem execCableMated_keep {l : Nat} (h : covers 0x4430008eca200000000000000f000f0000000000000000000018000881c00000000000000040000100000 l) {s : State} {u : State} (k : Keep l s u) (a0) :
    KeepR l s (execCableMated a0 u) := by
  unfold execCableMated
  with_reducible repeat' first
    | assumption
    | exact covers_trans (by decide) h
    | apply keep_ite
    | apply keepR_ite
    | apply State.modPort_keep
    | apply State.portSync_keep
    | apply KeepR.next
    | split
    | dsimp only
    | intro _

theorem State.cdat_keep {l : Nat} (h : covers 0x800000000000000000000000000 l) {s : State} {u : State} (k : Keep l s u) (a0) :
    Keep l s (State.cdat a0 u) := by
  unfold State.cdat
  with_reducible repeat' first
    | assumption
    | exact covers_trans (by decide) h
    | apply keep_ite
    | apply State.modLink_keep
    | split
    | dsimp only
    | intro _

theorem State.easyClear_keep {l : Nat} (h : covers 0x4430008eca200000000000004f000f0000000000000000000018000001c00000000000000040000120400 l) {s : State} {u : State} (k : Keep l s u) (a0) :
    Keep l s (State.easyClear a0 u) := by
  have b237 := covers_bit (i := 237) h (by decide)
  unfold State.easyClear
  with_reducible repeat' first
    | assumption
    | exact covers_trans (by decide) h
    | apply keep_ite
    | (intro x; simp only [EasyS.blank, b237, if_true]; done)
    | (intro x; (try dsimp only); (repeat' split) <;> (simp only [EasyS.blank, b237, if_true]; done))
    | refine State.modEasy_keep ?_ ?_
    | apply State.easyCheck_keep
    | split
    | dsimp only
    | intro _

theorem State.linkTrained_keep {l : Nat} (h : covers 0x4430008eca200000000000004f000f0000000000000000000018000001c00000000000000040000120400 l) {s : State} {u : State} (k : Keep l s u)  :
    Keep l s (State.linkTrained u) := by
  unfold State.linkTrained
  with_reducible repeat' first
    | assumption
    | exact covers_trans (by decide) h
    | apply keep_ite
    | apply State.easyClear_keep
    | split
    | dsimp only
    | intro _

theorem State.atSpeed_keep {l : Nat} (h : covers 0x4430008eca200000000000004f000f0000000000000000000018000001c00000000000000040000120400 l) {s : State} {u : State} (k : Keep l s u) (a0) (a1) :
    Keep l s (State.atSpeed a0 a1 u) := by
  unfold State.atSpeed
  with_reducible repeat' first
    | assumption
    | exact covers_trans (by decide) h
    | apply keep_ite
    | apply State.modLink_keep
    | apply State.boundSync_keep
    | apply State.linkEvent_keep
    | apply State.easyEnter_keep
    | apply State.cdat_keep
    | apply State.linkTrained_keep
    | split
    | dsimp only
    | intro _

theorem execLinkRecoveryEntry_keep {l : Nat} (h : covers 0x4430008eca200000000000004f71ef0000000000000000000018000001c00000000000000040000120400 l) {s : State} {u : State} (k : Keep l s u) (a0) :
    KeepR l s (execLinkRecoveryEntry a0 u) := by
  unfold execLinkRecoveryEntry
  with_reducible repeat' first
    | assumption
    | exact covers_trans (by decide) h
    | apply keep_ite
    | apply keepR_ite
    | apply State.modLink_keep
    | apply State.modPort_keep
    | apply State.report_keep
    | apply State.atSpeed_keep
    | apply KeepR.next
    | split
    | dsimp only
    | intro _

theorem execMemrd_keep {l : Nat} (h : covers 0x4430008eca200000000000000f71ef080100980201000005a018000781c00000000000000040000100000 l) {s : State} {u : State} (k : Keep l s u) (a0) (a1) (a2) (a3) (a4) :
    KeepR l s (execMemrd a0 a1 a2 a3 a4 u) := by
  unfold execMemrd
  with_reducible repeat' first
    | assumption
    | exact covers_trans (by decide) h
    | apply keep_ite
    | apply keepR_ite
    | apply State.strayAccess_keep
    | apply State.countTraffic_keep
    | apply State.acceptRead_keep
    | apply State.answerPoisoned_keep
    | apply KeepR.next
    | split
    | dsimp only
    | intro _

theorem State.nodeArrival_keep {l : Nat} (h : covers 0x4430008eca200000000000000f71ef040700384419f00f8df018004081c00000000000000040000100000 l) {s : State} {u : State} (k : Keep l s u) (a0) (a1) (a2) (a3) (a4) (a5) :
    Keep l s (State.nodeArrival a0 a1 a2 a3 a4 a5 u) := by
  have b204 := covers_bit (i := 204) h (by decide)
  have b205 := covers_bit (i := 205) h (by decide)
  have b214 := covers_bit (i := 214) h (by decide)
  unfold State.nodeArrival
  with_reducible repeat' first
    | assumption
    | exact covers_trans (by decide) h
    | apply keep_ite
    | (intro x; simp only [ScrubS.blank, IntegS.blank, b204, b205, b214, if_true]; done)
    | (intro x; (try dsimp only); (repeat' split) <;> (simp only [ScrubS.blank, IntegS.blank, b204, b205, b214, if_true]; done))
    | refine State.modScr_keep ?_ ?_
    | refine State.modItg_keep ?_ ?_
    | apply State.eccSeen_keep
    | apply State.modRead_keep
    | apply State.nodeRetry_keep
    | apply State.nodeCame_keep
    | split
    | dsimp only
    | intro _

theorem execReadLineArrival_keep {l : Nat} (h : covers 0x4430008eca200000000000000f71ef040700384419f00f8df018004081c00000000000000040000100000 l) {s : State} {u : State} (k : Keep l s u) (a0) (a1) (a2) (a3) (a4) :
    KeepR l s (execReadLineArrival a0 a1 a2 a3 a4 u) := by
  unfold execReadLineArrival
  with_reducible repeat' first
    | assumption
    | exact covers_trans (by decide) h
    | apply keep_ite
    | apply keepR_ite
    | apply State.stripeArrival_keep
    | apply State.ownArrival_keep
    | apply State.nodeArrival_keep
    | apply KeepR.next
    | split
    | dsimp only
    | intro _

theorem State.poisonLine_keep {l : Nat} (h : covers 0x803808a00400000000000000000000000000 l) {s : State} {u : State} (k : Keep l s u) (a0) :
    Keep l s (State.poisonLine a0 u) := by
  unfold State.poisonLine
  with_reducible repeat' first
    | assumption
    | exact covers_trans (by decide) h
    | apply keep_ite
    | apply State.enter_keep
    | split
    | dsimp only
    | intro _

theorem State.afterFailure_keep {l : Nat} (h : covers 0x4430008eca200000000000000f71ef000000080000000000081b808a01c00000000000000040000100000 l) {s : State} {u : State} (k : Keep l s u) (a0) (a1) :
    Keep l s (State.afterFailure a0 a1 u) := by
  unfold State.afterFailure
  with_reducible repeat' first
    | assumption
    | exact covers_trans (by decide) h
    | apply keep_ite
    | apply State.signalViral_keep
    | apply State.alarm_keep
    | apply State.poisonLine_keep
    | split
    | dsimp only
    | intro _

theorem State.respondRead_keep {l : Nat} (h : covers 0x4430008eca200000000000000000000000000000000000000000000001c00000000000000000000000000 l) {s : State} {u : State} (k : Keep l s u) (a0) (a1) (a2) :
    Keep l s (State.respondRead a0 a1 a2 u) := by
  unfold State.respondRead
  with_reducible repeat' first
    | assumption
    | exact covers_trans (by decide) h
    | apply keep_ite
    | apply State.emit_keep
    | apply State.modHead_keep
    | apply State.headEvent_keep
    | apply State.cxlEvent_keep
    | apply State.countTraffic_keep
    | split
    | dsimp only
    | intro _

theorem execLineOrderPointMerge_keep {l : Nat} (h : covers 0x4430008eca200000000000000f71ef000000080001000005281b808a81c00000000000000040000100000 l) {s : State} {u : State} (k : Keep l s u) (a0) (a1) :
    KeepR l s (execLineOrderPointMerge a0 a1 u) := by
  have b115 := covers_bit (i := 115) h (by decide)
  unfold execLineOrderPointMerge
  with_reducible repeat' first
    | assumption
    | exact covers_trans (by decide) h
    | apply keep_ite
    | apply keepR_ite
    | (intro x; simp only [ReadPathS.blank, b115, if_true]; done)
    | (intro x; (try dsimp only); (repeat' split) <;> (simp only [ReadPathS.blank, b115, if_true]; done))
    | refine State.modRdp_keep ?_ ?_
    | apply State.modHead_keep
    | apply State.decided_keep
    | apply State.afterFailure_keep
    | apply State.respondRead_keep
    | apply KeepR.next
    | split
    | dsimp only
    | intro _

theorem execLookupResponseHoldExpiry_keep {l : Nat} (h : covers 0x80000000000000000000000000000 l) {s : State} {u : State} (k : Keep l s u) (a0) :
    KeepR l s (execLookupResponseHoldExpiry a0 u) := by
  unfold execLookupResponseHoldExpiry
  with_reducible repeat' first
    | assumption
    | exact covers_trans (by decide) h
    | apply keep_ite
    | apply keepR_ite
    | apply State.modRead_keep
    | apply KeepR.next
    | split
    | dsimp only
    | intro _

theorem execGpfPhase1_keep {l : Nat} (h : covers 0x4000000000000000000000000000000000000000000000000000000000000000000000000000000000000 l) {s : State} {u : State} (k : Keep l s u) (a0) :
    KeepR l s (execGpfPhase1 a0 u) := by
  unfold execGpfPhase1
  with_reducible repeat' first
    | assumption
    | exact covers_trans (by decide) h
    | apply keep_ite
    | apply keepR_ite
    | apply State.when_keep
    | apply State.emit_keep
    | apply KeepR.next
    | split
    | dsimp only
    | intro _

theorem execGpfPhase2_keep {l : Nat} (h : covers 0x4000000000000000000000000000000000000000000000000000000000000000000000000000000000000 l) {s : State} {u : State} (k : Keep l s u) (a0) :
    KeepR l s (execGpfPhase2 a0 u) := by
  unfold execGpfPhase2
  with_reducible repeat' first
    | assumption
    | exact covers_trans (by decide) h
    | apply keep_ite
    | apply keepR_ite
    | apply State.when_keep
    | apply State.emit_keep
    | apply KeepR.next
    | split
    | dsimp only
    | intro _

theorem State.setShutdown_keep {l : Nat} (h : covers 0x4000000002200000000000000000000000000000000000000100000000800000000000000000000000000 l) {s : State} {u : State} (k : Keep l s u) (a0) (a1) :
    Keep l s (State.setShutdown a0 a1 u) := by
  have b140 := covers_bit (i := 140) h (by decide)
  unfold State.setShutdown
  with_reducible repeat' first
    | assumption
    | exact covers_trans (by decide) h
    | apply keep_ite
    | (intro x; simp only [WbS.blank, b140, if_true]; done)
    | (intro x; (try dsimp only); (repeat' split) <;> (simp only [WbS.blank, b140, if_true]; done))
    | refine State.modWb_keep ?_ ?_
    | apply State.storeWrite_keep
    | apply State.mbReturn_keep
    | split
    | dsimp only
    | intro _

theorem execSetShutdownState_keep {l : Nat} (h : covers 0x4000000002200000000000000000000000000000000000000100000001800000000000000000000000000 l) {s : State} {u : State} (k : Keep l s u) (a0) (a1) :
    KeepR l s (execSetShutdownState a0 a1 u) := by
  unfold execSetShutdownState
  with_reducible repeat' first
    | assumption
    | exact covers_trans (by decide) h
    | apply keep_ite
    | apply keepR_ite
    | apply mailboxed_keep
    | apply State.setShutdown_keep
    | apply KeepR.next
    | split
    | dsimp only
    | intro _

theorem State.msixSync_keep {l : Nat} (h : covers 0x4000000000000000000000000000000000000000000000000000000000800000000000000000000000000 l) {s : State} {u : State} (k : Keep l s u) (a0) :
    Keep l s (State.msixSync a0 u) := by
  unfold State.msixSync
  with_reducible repeat' first
    | assumption
    | exact covers_trans (by decide) h
    | apply keep_ite
    | refine forEach_keep (fun _ _ _ => ?_) ?_ _
    | apply State.modLink_keep
    | apply State.msix_keep
    | split
    | dsimp only
    | intro _

theorem execMemEnableWrite_keep {l : Nat} (h : covers 0x4000000000000000000000000000000000000000000000000000000000800000000000000000000000000 l) {s : State} {u : State} (k : Keep l s u) (a0) (a1) (a2) :
    KeepR l s (execMemEnableWrite a0 a1 a2 u) := by
  unfold execMemEnableWrite
  with_reducible repeat' first
    | assumption
    | exact covers_trans (by decide) h
    | apply keep_ite
    | apply keepR_ite
    | apply State.modLink_keep
    | apply State.msixSync_keep
    | apply KeepR.next
    | split
    | dsimp only
    | intro _

theorem execIdeCheckFailure_keep {l : Nat} (h : covers 0x4430008eca200000000000000f71ef0000000000000000000018000001c00000000000000040000100000 l) {s : State} {u : State} (k : Keep l s u) (a0) :
    KeepR l s (execIdeCheckFailure a0 u) := by
  unfold execIdeCheckFailure
  with_reducible repeat' first
    | assumption
    | exact covers_trans (by decide) h
    | apply keep_ite
    | apply keepR_ite
    | apply State.modLink_keep
    | apply State.boundSync_keep
    | apply State.linkEvent_keep
    | apply State.report_keep
    | apply State.security_keep
    | apply KeepR.next
    | split
    | dsimp only
    | intro _

theorem execFunctionLevelReset_keep {l : Nat} (h : covers 0x1800000000000000000000000000 l) {s : State} {u : State} (k : Keep l s u) (a0) :
    KeepR l s (execFunctionLevelReset a0 u) := by
  unfold execFunctionLevelReset
  with_reducible repeat' first
    | assumption
    | exact covers_trans (by decide) h
    | apply keep_ite
    | apply keepR_ite
    | apply State.modHead_keep
    | apply State.modLink_keep
    | apply KeepR.next
    | split
    | dsimp only
    | intro _

theorem execPerstRelease_keep {l : Nat} (h : covers 0x4430008eca200000000000000f000f0000000000000000000018000881c00000000000000040000100000 l) {s : State} {u : State} (k : Keep l s u) (a0) (a1) :
    KeepR l s (execPerstRelease a0 a1 u) := by
  unfold execPerstRelease
  with_reducible repeat' first
    | assumption
    | exact covers_trans (by decide) h
    | apply keep_ite
    | apply keepR_ite
    | apply State.modLink_keep
    | apply State.portSync_keep
    | apply KeepR.next
    | split
    | dsimp only
    | intro _

theorem execLinkUp_keep {l : Nat} (h : covers 0x4430008eca200000000000000000000000000000000000000000000001800000000000000000000000000 l) {s : State} {u : State} (k : Keep l s u) (a0) (a1) (a2) :
    KeepR l s (execLinkUp a0 a1 a2 u) := by
  unfold execLinkUp
  with_reducible repeat' first
    | assumption
    | exact covers_trans (by decide) h
    | apply keep_ite
    | apply keepR_ite
    | apply State.modLink_keep
    | apply State.linkEvent_keep
    | apply State.cdat_keep
    | apply KeepR.next
    | split
    | dsimp only
    | intro _

theorem execSpeedChangeRequest_keep {l : Nat} (h : covers 0x4430008eca200000000000004f71ef0000000000000000000018000001c00000000000000040000120400 l) {s : State} {u : State} (k : Keep l s u) (a0) (a1) (a2) :
    KeepR l s (execSpeedChangeRequest a0 a1 a2 u) := by
  unfold execSpeedChangeRequest
  with_reducible repeat' first
    | assumption
    | exact covers_trans (by decide) h
    | apply keep_ite
    | apply keepR_ite
    | apply State.report_keep
    | apply State.atSpeed_keep
    | apply KeepR.next
    | split
    | dsimp only
    | intro _

theorem execEqualisationComplete_keep {l : Nat} (h : covers 0x4430008eca200000000000004f000f0000000000000000000018000001c00000000000000040000120400 l) {s : State} {u : State} (k : Keep l s u) (a0) (a1) :
    KeepR l s (execEqualisationComplete a0 a1 u) := by
  unfold execEqualisationComplete
  with_reducible repeat' first
    | assumption
    | exact covers_trans (by decide) h
    | apply keep_ite
    | apply keepR_ite
    | apply State.atSpeed_keep
    | apply KeepR.next
    | split
    | dsimp only
    | intro _

theorem execCableRemoved_keep {l : Nat} (h : covers 0x4430008eca200000000000000f000f0000000000000000000018000881c00000000000000040000100000 l) {s : State} {u : State} (k : Keep l s u) (a0) :
    KeepR l s (execCableRemoved a0 u) := by
  unfold execCableRemoved
  with_reducible repeat' first
    | assumption
    | exact covers_trans (by decide) h
    | apply keep_ite
    | apply keepR_ite
    | apply State.modPort_keep
    | apply State.portSync_keep
    | apply KeepR.next
    | split
    | dsimp only
    | intro _

theorem execBifurcationRequest_keep {l : Nat} (h : covers 0x4479008ece200000000400000000000000000000000000000000800000c0000000000000010000007bd80 l) {s : State} {u : State} (k : Keep l s u) (a0) (a1) :
    KeepR l s (execBifurcationRequest a0 a1 u) := by
  unfold execBifurcationRequest
  with_reducible repeat' first
    | assumption
    | exact covers_trans (by decide) h
    | apply keep_ite
    | apply keepR_ite
    | apply accessed_keep
    | apply respondAccess_keep
    | apply State.putObject_keep
    | apply KeepR.next
    | split
    | dsimp only
    | intro _

theorem State.opComplete_keep {l : Nat} (h : covers 0x4430008eca200000000000000f71ef020000000430600c0bf018005001c00000000000000040000100000 l) {s : State} {u : State} (k : Keep l s u) (a0) :
    Keep l s (State.opComplete a0 u) := by
  unfold State.opComplete
  with_reducible repeat' first
    | assumption
    | exact covers_trans (by decide) h
    | apply keep_ite
    | apply State.modPlane_keep
    | apply State.completeOp_keep
    | apply State.release_keep
    | split
    | dsimp only
    | intro _

theorem State.nextOp_keep {l : Nat} (h : covers 0x42000000000000000000000000000000000000 l) {s : State} {u : State} (k : Keep l s u) (a0) :
    Keep l s (State.nextOp a0 u) := by
  unfold State.nextOp
  with_reducible repeat' first
    | assumption
    | exact covers_trans (by decide) h
    | apply keep_ite
    | apply State.when_keep
    | apply State.modPlane_keep
    | apply State.reserve_keep
    | apply State.endGrant_keep
    | split
    | dsimp only
    | intro _

theorem State.listBad_keep {l : Nat} (h : covers 0x4430008eca200000000000000f71ef0000000000008000c0c018000001c00000000000000040000100000 l) {s : State} {u : State} (k : Keep l s u) (a0) :
    Keep l s (State.listBad a0 u) := by
  have b154 := covers_bit (i := 154) h (by decide)
  unfold State.listBad
  with_reducible repeat' first
    | assumption
    | exact covers_trans (by decide) h
    | apply keep_ite
    | (intro x; simp only [MediaS.blank, b154, if_true]; done)
    | (intro x; (try dsimp only); (repeat' split) <;> (simp only [MediaS.blank, b154, if_true]; done))
    | refine State.modMed_keep ?_ ?_
    | apply State.storeWrite_keep
    | apply State.modChannel_keep
    | apply State.report_keep
    | apply State.modDie_keep
    | apply State.modEntry_keep
    | apply State.queueMig_keep
    | split
    | dsimp only
    | intro _

theorem State.abandonFor_keep {l : Nat} (h : covers 0x4430008eca200000000000000f71ef000000000418e00f8df018004001c00000000000000040000100000 l) {s : State} {u : State} (k : Keep l s u) (a0) (a1) :
    Keep l s (State.abandonFor a0 a1 u) := by
  have b171 := covers_bit (i := 171) h (by decide)
  unfold State.abandonFor
  with_reducible repeat' first
    | assumption
    | exact covers_trans (by decide) h
    | apply keep_ite
    | (intro x; simp only [TractS.blank, b171, if_true]; done)
    | (intro x; (try dsimp only); (repeat' split) <;> (simp only [TractS.blank, b171, if_true]; done))
    | refine State.modTrc_keep ?_ ?_
    | apply State.abandon_keep
    | split
    | dsimp only
    | intro _

end Sys2Proof.Machine
end

