-- ==== Sys2Proof/Laws/KeepMedium.lean ====
section
/-! SUPPORT. What every operation and meaning keeps (drain, medium, translation, integrity, scrub): outside the fields that it lists, the state after is the state before. -/

set_option Elab.async false

set_option linter.unusedTactic false
set_option linter.unreachableTactic false
set_option linter.unnecessarySeqFocus false
set_option linter.unusedSimpArgs false

namespace Sys2Proof.Machine

theorem State.levelling_keep {l : Nat} (h : covers 0x8000000000000000000000000000000000000000000 l) {s : State} {u : State} (k : Keep l s u)  :
    Keep l s (State.levelling u) := by
  unfold State.levelling
  with_reducible repeat' first
    | assumption
    | exact covers_trans (by decide) h
    | apply keep_ite
    | refine forEach_keep (fun _ _ _ => ?_) ?_ _
    | apply State.queueMig_keep
    | split
    | dsimp only
    | intro _

theorem State.endPass_keep {l : Nat} (h : covers 0x4430008eca200000000000000000000080000000000000000000000000000000000000000000000020400 l) {s : State} {u : State} (k : Keep l s u) (a0) (a1) :
    Keep l s (State.endPass a0 a1 u) := by
  have b211 := covers_bit (i := 211) h (by decide)
  unfold State.endPass
  with_reducible repeat' first
    | assumption
    | exact covers_trans (by decide) h
    | apply keep_ite
    | (intro x; simp only [ScrubS.blank, b211, if_true]; done)
    | (intro x; (try dsimp only); (repeat' split) <;> (simp only [ScrubS.blank, b211, if_true]; done))
    | refine State.modScr_keep ?_ ?_
    | apply State.ticketDone_keep
    | split
    | dsimp only
    | intro _

theorem State.stopPasses_keep {l : Nat} (h : covers 0x4430008eca200000000000000000000080000000000000000000000000000000000000000000000020400 l) {s : State} {u : State} (k : Keep l s u)  :
    Keep l s (State.stopPasses u) := by
  unfold State.stopPasses
  with_reducible repeat' first
    | assumption
    | exact covers_trans (by decide) h
    | apply keep_ite
    | refine forEach_keep (fun _ _ _ => ?_) ?_ _
    | apply State.endPass_keep
    | split
    | dsimp only
    | intro _

theorem State.fenceMigrations_keep {l : Nat} (h : covers 0x4430008eca200000000000000f71ef000000000418e00f8df018004001c00000000000000040000100000 l) {s : State} {u : State} (k : Keep l s u) (a0) :
    Keep l s (State.fenceMigrations a0 u) := by
  unfold State.fenceMigrations
  with_reducible repeat' first
    | assumption
    | exact covers_trans (by decide) h
    | apply keep_ite
    | refine forEach_keep (fun _ _ _ => ?_) ?_ _
    | apply State.abandon_keep
    | split
    | dsimp only
    | intro _

theorem State.countMig_keep {l : Nat} (h : covers 0x40000000000000000000000000000000000000000000 l) {s : State} {u : State} (k : Keep l s u) (a0) :
    Keep l s (State.countMig a0 u) := by
  have b174 := covers_bit (i := 174) h (by decide)
  unfold State.countMig
  with_reducible repeat' first
    | assumption
    | exact covers_trans (by decide) h
    | apply keep_ite
    | (intro x; simp only [TractS.blank, b174, if_true]; done)
    | (intro x; (try dsimp only); (repeat' split) <;> (simp only [TractS.blank, b174, if_true]; done))
    | refine State.modTrc_keep ?_ ?_
    | split
    | dsimp only
    | intro _

theorem State.placed_keep {l : Nat} (h : covers 0x4000000000000000000000000000000000000000 l) {s : State} {u : State} (k : Keep l s u) (a0) :
    Keep l s (State.placed a0 u) := by
  unfold State.placed
  with_reducible repeat' first
    | assumption
    | exact covers_trans (by decide) h
    | apply keep_ite
    | apply State.modActivity_keep
    | apply State.zeroReads_keep
    | split
    | dsimp only
    | intro _

theorem State.moveBlank_keep {l : Nat} (h : covers 0x4430008eca200000000000000f71ef000000000414e00f85f018000001c00000000000000040000100000 l) {s : State} {u : State} (k : Keep l s u) (a0) :
    Keep l s (State.moveBlank a0 u) := by
  have b171 := covers_bit (i := 171) h (by decide)
  unfold State.moveBlank
  with_reducible repeat' first
    | assumption
    | exact covers_trans (by decide) h
    | apply keep_ite
    | (intro x; simp only [TractS.blank, b171, if_true]; done)
    | (intro x; (try dsimp only); (repeat' split) <;> (simp only [TractS.blank, b171, if_true]; done))
    | refine State.modTrc_keep ?_ ?_
    | apply State.putEntry_keep
    | apply State.giveUpPt_keep
    | apply State.countMig_keep
    | apply State.placed_keep
    | split
    | dsimp only
    | intro _

theorem State.modMig_keep {l : Nat} (h : covers 0x8000000000000000000000000000000000000000000 l) {s : State} {u : State} (k : Keep l s u) (a0) (a1) :
    Keep l s (State.modMig a0 a1 u) := by
  have b171 := covers_bit (i := 171) h (by decide)
  unfold State.modMig
  with_reducible repeat' first
    | assumption
    | exact covers_trans (by decide) h
    | apply keep_ite
    | (intro x; simp only [TractS.blank, b171, if_true]; done)
    | (intro x; (try dsimp only); (repeat' split) <;> (simp only [TractS.blank, b171, if_true]; done))
    | refine State.modTrc_keep ?_ ?_
    | split
    | dsimp only
    | intro _

theorem State.copyEnds_keep {l : Nat} (h : covers 0x4430008eca200000000000000f71ef000000000414e00f8df018004001c00000000000000040000100000 l) {s : State} {u : State} (k : Keep l s u) (a0) :
    Keep l s (State.copyEnds a0 u) := by
  unfold State.copyEnds
  with_reducible repeat' first
    | assumption
    | exact covers_trans (by decide) h
    | apply keep_ite
    | apply State.moveBlank_keep
    | apply State.request_keep
    | apply State.modMig_keep
    | split
    | dsimp only
    | intro _

theorem State.migSync_keep {l : Nat} (h : covers 0x4430008eca200000000000000f71ef000000000414e00f8df018004001c00000000000000040000100000 l) {s : State} {u : State} (k : Keep l s u)  :
    Keep l s (State.migSync u) := by
  unfold State.migSync
  with_reducible repeat' first
    | assumption
    | exact covers_trans (by decide) h
    | apply keep_ite
    | refine forEach_keep (fun _ _ _ => ?_) ?_ _
    | apply State.copyEnds_keep
    | split
    | dsimp only
    | intro _

theorem State.lineAbsent_keep {l : Nat} (h : covers 0x4430008eca200000000000000f71ef000700384419e00f8df018004081c00000000000000040000100000 l) {s : State} {u : State} (k : Keep l s u) (a0) (a1) :
    Keep l s (State.lineAbsent a0 a1 u) := by
  unfold State.lineAbsent
  with_reducible repeat' first
    | assumption
    | exact covers_trans (by decide) h
    | apply keep_ite
    | apply State.modRead_keep
    | apply State.cannotRebuild_keep
    | apply State.reconstruct_keep
    | apply State.nodeRetry_keep
    | split
    | dsimp only
    | intro _

theorem State.waitedRead_keep {l : Nat} (h : covers 0x4430008eca200000000000000f71ef000700384419e00f8df018004081c00000000000000040000100000 l) {s : State} {u : State} (k : Keep l s u) (a0) (a1) :
    Keep l s (State.waitedRead a0 a1 u) := by
  unfold State.waitedRead
  with_reducible repeat' first
    | assumption
    | exact covers_trans (by decide) h
    | apply keep_ite
    | apply State.lineAbsent_keep
    | split
    | dsimp only
    | intro _

theorem State.endEpoch_keep {l : Nat} (h : covers 0x800000000000000000000000000000000000000000a00c000000000000000000000000000000000000000 l) {s : State} {u : State} (k : Keep l s u) (a0) :
    Keep l s (State.endEpoch a0 u) := by
  have b169 := covers_bit (i := 169) h (by decide)
  have b339 := covers_bit (i := 339) h (by decide)
  unfold State.endEpoch
  with_reducible repeat' first
    | assumption
    | exact covers_trans (by decide) h
    | apply keep_ite
    | (intro x; simp only [TractS.blank, b169, if_true]; done)
    | (intro x; (try dsimp only); (repeat' split) <;> (simp only [TractS.blank, b169, if_true]; done))
    | refine State.modFree_keep b339 ?_
    | refine State.modTrc_keep ?_ ?_
    | apply State.modActivity_keep
    | apply State.queueMig_keep
    | apply State.raisePeak_keep
    | split
    | dsimp only
    | intro _

theorem State.wearWriteback_keep {l : Nat} (h : covers 0x3e0000000000000000000000000000000000000000 l) {s : State} {u : State} (k : Keep l s u)  :
    Keep l s (State.wearWriteback u) := by
  have b161 := covers_bit (i := 161) h (by decide)
  have b162 := covers_bit (i := 162) h (by decide)
  have b163 := covers_bit (i := 163) h (by decide)
  have b164 := covers_bit (i := 164) h (by decide)
  have b165 := covers_bit (i := 165) h (by decide)
  unfold State.wearWriteback
  with_reducible repeat' first
    | assumption
    | exact covers_trans (by decide) h
    | apply keep_ite
    | (intro x; simp only [TractS.blank, b161, b162, b163, b164, b165, if_true]; done)
    | (intro x; (try dsimp only); (repeat' split) <;> (simp only [TractS.blank, b161, b162, b163, b164, b165, if_true]; done))
    | refine State.modTrc_keep ?_ ?_
    | split
    | dsimp only
    | intro _

theorem State.flushRecord_keep {l : Nat} (h : covers 0x7f8000000000000000000000000000000 l) {s : State} {u : State} (k : Keep l s u)  :
    Keep l s (State.flushRecord u) := by
  have b123 := covers_bit (i := 123) h (by decide)
  have b124 := covers_bit (i := 124) h (by decide)
  have b125 := covers_bit (i := 125) h (by decide)
  have b126 := covers_bit (i := 126) h (by decide)
  have b127 := covers_bit (i := 127) h (by decide)
  have b128 := covers_bit (i := 128) h (by decide)
  have b129 := covers_bit (i := 129) h (by decide)
  have b130 := covers_bit (i := 130) h (by decide)
  unfold State.flushRecord
  with_reducible repeat' first
    | assumption
    | exact covers_trans (by decide) h
    | apply keep_ite
    | (intro x; simp only [WbS.blank, b123, b124, b125, b126, b127, b128, b129, b130, if_true]; done)
    | (intro x; (try dsimp only); (repeat' split) <;> (simp only [WbS.blank, b123, b124, b125, b126, b127, b128, b129, b130, if_true]; done))
    | refine State.modWb_keep ?_ ?_
    | split
    | dsimp only
    | intro _

theorem State.putRecordOf_keep {l : Nat} (h : covers 0x2200000000000000000000000000400000000000000000000000000000000000000000000000 l) {s : State} {u : State} (k : Keep l s u) (a0) (a1) :
    Keep l s (State.putRecordOf a0 a1 u) := by
  have b190 := covers_bit (i := 190) h (by decide)
  unfold State.putRecordOf
  with_reducible repeat' first
    | assumption
    | exact covers_trans (by decide) h
    | apply keep_ite
    | (intro x; simp only [IntegS.blank, b190, if_true]; done)
    | (intro x; (try dsimp only); (repeat' split) <;> (simp only [IntegS.blank, b190, if_true]; done))
    | refine State.modItg_keep ?_ ?_
    | apply State.storeWrite_keep
    | split
    | dsimp only
    | intro _

theorem State.recordClosing_keep {l : Nat} (h : covers 0x2200000000000000000000000000400000000000000000000000000000000000000000000000 l) {s : State} {u : State} (k : Keep l s u)  :
    Keep l s (State.recordClosing u) := by
  unfold State.recordClosing
  with_reducible repeat' first
    | assumption
    | exact covers_trans (by decide) h
    | apply keep_ite
    | apply State.putRecordOf_keep
    | split
    | dsimp only
    | intro _

theorem State.lostEntries_keep {l : Nat} (h : covers 0x4430008eca200000000000000f71ef0000000000000000000018000001c00000000000000040000100000 l) {s : State} {u : State} (k : Keep l s u) (a0) :
    Keep l s (State.lostEntries a0 u) := by
  unfold State.lostEntries
  with_reducible repeat' first
    | assumption
    | exact covers_trans (by decide) h
    | apply keep_ite
    | refine forEach_keep (fun _ _ _ => ?_) ?_ _
    | apply State.report_keep
    | split
    | dsimp only
    | intro _

theorem State.busCount_keep {l : Nat} (h : covers 0x8000000000000000000000000000000000000 l) {s : State} {u : State} (k : Keep l s u) (a0) (a1) (a2) :
    Keep l s (State.busCount a0 a1 a2 u) := by
  unfold State.busCount
  with_reducible repeat' first
    | assumption
    | exact covers_trans (by decide) h
    | apply keep_ite
    | apply State.modChannel_keep
    | split
    | dsimp only
    | intro _

theorem execProg_keep {l : Nat} (h : covers 0x6a000000000000000000000000000000000000 l) {s : State} {u : State} (k : Keep l s u) (a0) (a1) (a2) :
    KeepR l s (execProg a0 a1 a2 u) := by
  have b149 := covers_bit (i := 149) h (by decide)
  unfold execProg
  with_reducible repeat' first
    | assumption
    | exact covers_trans (by decide) h
    | apply keep_ite
    | apply keepR_ite
    | (intro x; simp only [MediaS.blank, b149, if_true]; done)
    | (intro x; (try dsimp only); (repeat' split) <;> (simp only [MediaS.blank, b149, if_true]; done))
    | refine State.modMed_keep ?_ ?_
    | apply State.modPlane_keep
    | apply State.unreserve_keep
    | apply State.busCount_keep
    | apply KeepR.next
    | split
    | dsimp only
    | intro _

theorem State.markRow_keep {l : Nat} (h : covers 0x100000000000000000000000000000000000000000000000000000 l) {s : State} {u : State} (k : Keep l s u) (a0) (a1) :
    Keep l s (State.markRow a0 a1 u) := by
  unfold State.markRow
  with_reducible repeat' first
    | assumption
    | exact covers_trans (by decide) h
    | apply keep_ite
    | apply State.modRebuild_keep
    | split
    | dsimp only
    | intro _

theorem State.rekeyFinish_keep {l : Nat} (h : covers 0x4430008eca200000000000000000000000280000000000000000000008000000000000000000000020400 l) {s : State} {u : State} (k : Keep l s u)  :
    Keep l s (State.rekeyFinish u) := by
  have b199 := covers_bit (i := 199) h (by decide)
  have b201 := covers_bit (i := 201) h (by decide)
  unfold State.rekeyFinish
  with_reducible repeat' first
    | assumption
    | exact covers_trans (by decide) h
    | apply keep_ite
    | (intro x; simp only [IntegS.blank, b199, b201, if_true]; done)
    | (intro x; (try dsimp only); (repeat' split) <;> (simp only [IntegS.blank, b199, b201, if_true]; done))
    | refine State.modItg_keep ?_ ?_
    | apply State.storeWrite_keep
    | apply State.ticketDone_keep
    | apply State.modRegion_keep
    | split
    | dsimp only
    | intro _

theorem State.spanDone_keep {l : Nat} (h : covers 0x4430008eca200000000000000000000000380000000000000000000008000000000000000000000020400 l) {s : State} {u : State} (k : Keep l s u) (a0) :
    Keep l s (State.spanDone a0 u) := by
  have b200 := covers_bit (i := 200) h (by decide)
  have b201 := covers_bit (i := 201) h (by decide)
  unfold State.spanDone
  with_reducible repeat' first
    | assumption
    | exact covers_trans (by decide) h
    | apply keep_ite
    | (intro x; simp only [IntegS.blank, b200, b201, if_true]; done)
    | (intro x; (try dsimp only); (repeat' split) <;> (simp only [IntegS.blank, b200, b201, if_true]; done))
    | refine State.modItg_keep ?_ ?_
    | apply State.rekeyFinish_keep
    | split
    | dsimp only
    | intro _

theorem State.finishUnit_keep {l : Nat} (h : covers 0x4430008eca20000000000000000000010038000000000000000380d808400000000000000000000020400 l) {s : State} {u : State} (k : Keep l s u) (a0) :
    Keep l s (State.finishUnit a0 u) := by
  have b119 := covers_bit (i := 119) h (by decide)
  have b120 := covers_bit (i := 120) h (by decide)
  have b122 := covers_bit (i := 122) h (by decide)
  unfold State.finishUnit
  with_reducible repeat' first
    | assumption
    | exact covers_trans (by decide) h
    | apply keep_ite
    | (intro x; simp only [WbS.blank, b119, b120, b122, if_true]; done)
    | (intro x; (try dsimp only); (repeat' split) <;> (simp only [WbS.blank, b119, b120, b122, if_true]; done))
    | refine State.modWb_keep ?_ ?_
    | refine forEach_keep (fun _ _ _ => ?_) ?_ _
    | apply State.when_keep
    | apply State.dirtySync_keep
    | apply State.bufferSync_keep
    | apply State.markRow_keep
    | apply State.spanDone_keep
    | split
    | dsimp only
    | intro _

theorem execWearCheckpointWriteback_keep {l : Nat} (h : covers 0x3e0000000000000000000000000000000000000000 l) {s : State} {u : State} (k : Keep l s u)  :
    KeepR l s (execWearCheckpointWriteback u) := by
  unfold execWearCheckpointWriteback
  with_reducible repeat' first
    | assumption
    | exact covers_trans (by decide) h
    | apply keep_ite
    | apply keepR_ite
    | apply State.wearWriteback_keep
    | apply KeepR.next
    | split
    | dsimp only
    | intro _

theorem State.putDirectory_keep {l : Nat} (h : covers 0x2200000000000000000000000000000000400000000000000000000000000000000000000000 l) {s : State} {u : State} (k : Keep l s u) (a0) (a1) :
    Keep l s (State.putDirectory a0 a1 u) := by
  have b166 := covers_bit (i := 166) h (by decide)
  unfold State.putDirectory
  with_reducible repeat' first
    | assumption
    | exact covers_trans (by decide) h
    | apply keep_ite
    | (intro x; simp only [TractS.blank, b166, if_true]; done)
    | (intro x; (try dsimp only); (repeat' split) <;> (simp only [TractS.blank, b166, if_true]; done))
    | refine State.modTrc_keep ?_ ?_
    | apply State.storeWrite_keep
    | split
    | dsimp only
    | intro _

theorem State.windowOpen_keep {l : Nat} (h : covers 0x4430008eca200000000000000f71ef0000800000000000000018000001c00000000000000040000100000 l) {s : State} {u : State} (k : Keep l s u) (a0) (a1) (a2) (a3) (a4) :
    Keep l s (State.windowOpen a0 a1 a2 a3 a4 u).2.2 := by
  have b203 := covers_bit (i := 203) h (by decide)
  unfold State.windowOpen
  with_reducible repeat' first
    | assumption
    | exact covers_trans (by decide) h
    | apply keep_ite
    | apply keep_ite_acc
    | (intro x; simp only [IntegS.blank, b203, if_true]; done)
    | (intro x; (try dsimp only); (repeat' split) <;> (simp only [IntegS.blank, b203, if_true]; done))
    | refine State.modItg_keep ?_ ?_
    | apply State.manage_keep
    | apply State.security_keep
    | apply State.closeWindow_keep
    | apply State.answer_keep
    | split
    | dsimp only
    | intro _

theorem execDebugWindowClose_keep {l : Nat} (h : covers 0x4430008eca200000000000000f71ef0000800000000000000018000001c00000000000000040000130400 l) {s : State} {u : State} (k : Keep l s u) (a0) :
    KeepR l s (execDebugWindowClose a0 u) := by
  unfold execDebugWindowClose
  with_reducible repeat' first
    | assumption
    | exact covers_trans (by decide) h
    | apply keep_ite
    | apply keepR_ite
    | apply accessed_keep
    | apply respondAccess_keep
    | apply State.windowOpen_keep
    | apply KeepR.next
    | split
    | dsimp only
    | intro _

theorem State.sensed_keep {l : Nat} (h : covers 0x4000000000000000000000000000000006000000009004804000000000000000000000000000000000000 l) {s : State} {u : State} (k : Keep l s u) (a0) (a1) (a2) (a3) (a4) :
    Keep l s (State.sensed a0 a1 a2 a3 a4 u) := by
  unfold State.sensed
  with_reducible repeat' first
    | assumption
    | exact covers_trans (by decide) h
    | apply keep_ite
    | apply State.emit_keep
    | apply State.modDie_keep
    | apply State.sqSeen_keep
    | apply State.countSense_keep
    | split
    | dsimp only
    | intro _

theorem execSense_keep {l : Nat} (h : covers 0x400000000000000000000000000000000600000000900480e000000000000000000000000000000000000 l) {s : State} {u : State} (k : Keep l s u) (a0) (a1) (a2) (a3) (a4) (a5) :
    KeepR l s (execSense a0 a1 a2 a3 a4 a5 u) := by
  unfold execSense
  with_reducible repeat' first
    | assumption
    | exact covers_trans (by decide) h
    | apply keep_ite
    | apply keepR_ite
    | apply State.modPlane_keep
    | apply State.busCount_keep
    | apply State.sensed_keep
    | apply KeepR.next
    | split
    | dsimp only
    | intro _

theorem State.takeKey_keep {l : Nat} (h : covers 0x8000000000000000000000000000000000000000000000 l) {s : State} {u : State} (k : Keep l s u) (a0) :
    Keep l s (State.takeKey a0 u) := by
  have b183 := covers_bit (i := 183) h (by decide)
  unfold State.takeKey
  with_reducible repeat' first
    | assumption
    | exact covers_trans (by decide) h
    | apply keep_ite
    | (intro x; simp only [IntegS.blank, b183, if_true]; done)
    | (intro x; (try dsimp only); (repeat' split) <;> (simp only [IntegS.blank, b183, if_true]; done))
    | refine State.modItg_keep ?_ ?_
    | split
    | dsimp only
    | intro _

theorem State.reportFound_keep {l : Nat} (h : covers 0x4430008eca200000000000000f71ef0006000000000000804018000001c00000000000000040000100000 l) {s : State} {u : State} (k : Keep l s u) (a0) (a1) (a2) :
    Keep l s (State.reportFound a0 a1 a2 u) := by
  unfold State.reportFound
  with_reducible repeat' first
    | assumption
    | exact covers_trans (by decide) h
    | apply keep_ite
    | refine forEach_keep (fun _ _ _ => ?_) ?_ _
    | apply State.when_keep
    | apply State.report_keep
    | apply State.queueRewrite_keep
    | apply State.sqSeen_keep
    | split
    | dsimp only
    | intro _

theorem State.startUnit_keep {l : Nat} (h : covers 0x800007800000000000000000000000000000 l) {s : State} {u : State} (k : Keep l s u) (a0) (a1) (a2) (a3) (a4) (a5) (a6) :
    Keep l s (State.startUnit a0 a1 a2 a3 a4 a5 a6 u) := by
  have b119 := covers_bit (i := 119) h (by decide)
  have b120 := covers_bit (i := 120) h (by decide)
  have b121 := covers_bit (i := 121) h (by decide)
  have b122 := covers_bit (i := 122) h (by decide)
  unfold State.startUnit
  with_reducible repeat' first
    | assumption
    | exact covers_trans (by decide) h
    | apply keep_ite
    | (intro x; simp only [WbS.blank, b119, b120, b121, b122, if_true]; done)
    | (intro x; (try dsimp only); (repeat' split) <;> (simp only [WbS.blank, b119, b120, b121, b122, if_true]; done))
    | refine State.modWb_keep ?_ ?_
    | apply State.pairCount_keep
    | split
    | dsimp only
    | intro _

theorem State.drainData_keep {l : Nat} (h : covers 0x4430008eca200000000000000f71ef80070119b800b00780581b80fa01c00000000000000040000100000 l) {s : State} {u : State} (k : Keep l s u) (a0) (a1) (a2) (a3) :
    Keep l s (State.drainData a0 a1 a2 a3 u) := by
  have b196 := covers_bit (i := 196) h (by decide)
  have b204 := covers_bit (i := 204) h (by decide)
  unfold State.drainData
  with_reducible repeat' first
    | assumption
    | exact covers_trans (by decide) h
    | apply keep_ite
    | (intro x; simp only [IntegS.blank, b196, b204, if_true]; done)
    | (intro x; (try dsimp only); (repeat' split) <;> (simp only [IntegS.blank, b196, b204, if_true]; done))
    | refine State.modItg_keep ?_ ?_
    | refine forEach_keep (fun _ _ _ => ?_) ?_ _
    | apply State.putEntry_keep
    | apply State.countSenses_keep
    | apply State.alarm_keep
    | apply State.countTagFail_keep
    | apply State.lostEntries_keep
    | apply State.setBlock_keep
    | apply State.takeKey_keep
    | apply State.reportFound_keep
    | apply State.usedMajor_keep
    | apply State.nodeEntries_keep
    | apply State.startUnit_keep
    | split
    | dsimp only
    | intro _

theorem State.unseal_keep {l : Nat} (h : covers 0x4000000000000000000000000000000000000000000000000000000801000000000000000000000000000 l) {s : State} {u : State} (k : Keep l s u)  :
    Keep l s (State.unseal u) := by
  have b119 := covers_bit (i := 119) h (by decide)
  unfold State.unseal
  with_reducible repeat' first
    | assumption
    | exact covers_trans (by decide) h
    | apply keep_ite
    | (intro x; simp only [WbS.blank, b119, if_true]; done)
    | (intro x; (try dsimp only); (repeat' split) <;> (simp only [WbS.blank, b119, if_true]; done))
    | refine State.modWb_keep ?_ ?_
    | refine forEach_keep (fun _ _ _ => ?_) ?_ _
    | apply State.complete_keep
    | split
    | dsimp only
    | intro _

theorem State.recDurable_keep {l : Nat} (h : covers 0x4d0000000000000000000000000000000 l) {s : State} {u : State} (k : Keep l s u) (a0) :
    Keep l s (State.recDurable a0 u) := by
  have b124 := covers_bit (i := 124) h (by decide)
  have b126 := covers_bit (i := 126) h (by decide)
  have b127 := covers_bit (i := 127) h (by decide)
  have b130 := covers_bit (i := 130) h (by decide)
  unfold State.recDurable
  with_reducible repeat' first
    | assumption
    | exact covers_trans (by decide) h
    | apply keep_ite
    | (intro x; simp only [WbS.blank, b124, b126, b127, b130, if_true]; done)
    | (intro x; (try dsimp only); (repeat' split) <;> (simp only [WbS.blank, b124, b126, b127, b130, if_true]; done))
    | refine State.modWb_keep ?_ ?_
    | split
    | dsimp only
    | intro _

theorem State.dipEnd_keep {l : Nat} (h : covers 0x4000000400000000000000000000000000 l) {s : State} {u : State} (k : Keep l s u)  :
    Keep l s (State.dipEnd u) := by
  have b134 := covers_bit (i := 134) h (by decide)
  unfold State.dipEnd
  with_reducible repeat' first
    | assumption
    | exact covers_trans (by decide) h
    | apply keep_ite
    | (intro x; simp only [WbS.blank, b134, if_true]; done)
    | (intro x; (try dsimp only); (repeat' split) <;> (simp only [WbS.blank, b134, if_true]; done))
    | refine State.modWb_keep ?_ ?_
    | apply State.creditSync_keep
    | split
    | dsimp only
    | intro _

theorem execSealRecordDurable_keep {l : Nat} (h : covers 0x40000000000000000000000000000000000000000000000000047f0801400000000000000000000000000 l) {s : State} {u : State} (k : Keep l s u) (a0) :
    KeepR l s (execSealRecordDurable a0 u) := by
  unfold execSealRecordDurable
  with_reducible repeat' first
    | assumption
    | exact covers_trans (by decide) h
    | apply keep_ite
    | apply keepR_ite
    | apply State.sealMore_keep
    | apply State.unseal_keep
    | apply State.recDurable_keep
    | apply State.dipEnd_keep
    | apply KeepR.next
    | split
    | dsimp only
    | intro _

theorem State.ageEntry_keep {l : Nat} (h : covers 0x800000000000000000000000000000 l) {s : State} {u : State} (k : Keep l s u) (a0) :
    Keep l s (State.ageEntry a0 u) := by
  have b119 := covers_bit (i := 119) h (by decide)
  unfold State.ageEntry
  with_reducible repeat' first
    | assumption
    | exact covers_trans (by decide) h
    | apply keep_ite
    | (intro x; simp only [WbS.blank, b119, if_true]; done)
    | (intro x; (try dsimp only); (repeat' split) <;> (simp only [WbS.blank, b119, if_true]; done))
    | refine State.modWb_keep ?_ ?_
    | split
    | dsimp only
    | intro _

theorem State.rebuildRow_keep {l : Nat} (h : covers 0x4430008eca200000000000000f71ef000600000000b0048c7018004001c00000000000000040000100000 l) {s : State} {u : State} (k : Keep l s u) (a0) (a1) (a2) (a3) :
    Keep l s (State.rebuildRow a0 a1 a2 a3 u) := by
  unfold State.rebuildRow
  with_reducible repeat' first
    | assumption
    | exact covers_trans (by decide) h
    | apply keep_ite
    | refine forEach_keep (fun _ _ _ => ?_) ?_ _
    | apply State.report_keep
    | apply State.wear_keep
    | apply State.putGranule_keep
    | apply State.sqSeen_keep
    | apply State.countSenses_keep
    | apply State.requestAll_keep
    | split
    | dsimp only
    | intro _

theorem execStatus_keep {l : Nat} (h : covers 0x4000000000000000000000000000000000000000000000000000000000000000000000000000000000000 l) {s : State} {u : State} (k : Keep l s u) (a0) (a1) :
    KeepR l s (execStatus a0 a1 u) := by
  unfold execStatus
  with_reducible repeat' first
    | assumption
    | exact covers_trans (by decide) h
    | apply keep_ite
    | apply keepR_ite
    | apply State.emit_keep
    | apply KeepR.next
    | split
    | dsimp only
    | intro _

theorem State.modPass_keep {l : Nat} (h : covers 0x80000000000000000000000000000000000000000000000000000 l) {s : State} {u : State} (k : Keep l s u) (a0) (a1) :
    Keep l s (State.modPass a0 a1 u) := by
  have b211 := covers_bit (i := 211) h (by decide)
  unfold State.modPass
  with_reducible repeat' first
    | assumption
    | exact covers_trans (by decide) h
    | apply keep_ite
    | (intro x; simp only [ScrubS.blank, b211, if_true]; done)
    | (intro x; (try dsimp only); (repeat' split) <;> (simp only [ScrubS.blank, b211, if_true]; done))
    | refine State.modScr_keep ?_ ?_
    | split
    | dsimp only
    | intro _

theorem execHeatPeriod_keep {l : Nat} (h : covers 0x4000000000000000000000000000000000000000 l) {s : State} {u : State} (k : Keep l s u)  :
    KeepR l s (execHeatPeriod u) := by
  unfold execHeatPeriod
  with_reducible repeat' first
    | assumption
    | exact covers_trans (by decide) h
    | apply keep_ite
    | apply keepR_ite
    | refine forEach_keep (fun _ _ _ => ?_) ?_ _
    | apply State.modActivity_keep
    | apply KeepR.next
    | split
    | dsimp only
    | intro _

theorem State.scrubCancelOp_keep {l : Nat} (h : covers 0x4430008eca200000000000000000000080000000000000000000000000000000000000000000000000000 l) {s : State} {u : State} (k : Keep l s u) (a0) (a1) :
    Keep l s (State.scrubCancelOp a0 a1 u).2.2 := by
  unfold State.scrubCancelOp
  with_reducible repeat' first
    | assumption
    | exact covers_trans (by decide) h
    | apply keep_ite
    | apply keep_ite_acc
    | apply State.manage_keep
    | apply State.answer_keep
    | apply State.modPass_keep
    | split
    | dsimp only
    | intro _

theorem execScrubCancel_keep {l : Nat} (h : covers 0x4430008eca200000000000000000000080000000000000000000000000800000000000000000000030400 l) {s : State} {u : State} (k : Keep l s u) (a0) :
    KeepR l s (execScrubCancel a0 u) := by
  unfold execScrubCancel
  with_reducible repeat' first
    | assumption
    | exact covers_trans (by decide) h
    | apply keep_ite
    | apply keepR_ite
    | apply accessed_keep
    | apply respondAccess_keep
    | apply State.scrubCancelOp_keep
    | apply KeepR.next
    | split
    | dsimp only
    | intro _

theorem State.recordOpen_keep {l : Nat} (h : covers 0x2200000000000000000000000000400000000000000000000000000000000000000000000000 l) {s : State} {u : State} (k : Keep l s u)  :
    Keep l s (State.recordOpen u) := by
  unfold State.recordOpen
  with_reducible repeat' first
    | assumption
    | exact covers_trans (by decide) h
    | apply keep_ite
    | apply State.putRecordOf_keep
    | split
    | dsimp only
    | intro _

theorem State.adoptRoot_keep {l : Nat} (h : covers 0x4430008eca200000000000080f71ef0000000600000000000018000001c00000000000000040000100000 l) {s : State} {u : State} (k : Keep l s u)  :
    Keep l s (State.adoptRoot u) := by
  have b189 := covers_bit (i := 189) h (by decide)
  have b247 := covers_bit (i := 247) h (by decide)
  unfold State.adoptRoot
  with_reducible repeat' first
    | assumption
    | exact covers_trans (by decide) h
    | apply keep_ite
    | (intro x; simp only [IntegS.blank, StartS.blank, b189, b247, if_true]; done)
    | (intro x; (try dsimp only); (repeat' split) <;> (simp only [IntegS.blank, StartS.blank, b189, b247, if_true]; done))
    | refine State.modItg_keep ?_ ?_
    | refine State.modStr_keep ?_ ?_
    | apply State.security_keep
    | apply State.recordOpen_keep
    | split
    | dsimp only
    | intro _

theorem State.rootOp_keep {l : Nat} (h : covers 0x4430008eca200000000000080f71ef0000000600002007805018000001c00000000000000040000123c00 l) {s : State} {u : State} (k : Keep l s u) (a0) (a1) :
    Keep l s (State.rootOp a0 a1 u).2.2 := by
  unfold State.rootOp
  with_reducible repeat' first
    | assumption
    | exact covers_trans (by decide) h
    | apply keep_ite
    | apply keep_ite_acc
    | refine forEach_keep (fun _ _ _ => ?_) ?_ _
    | apply State.ticketDone_keep
    | apply State.putEntry_keep
    | apply State.answer_keep
    | apply State.deferred_keep
    | apply State.adoptRoot_keep
    | apply id_keep
    | split
    | dsimp only
    | intro _

theorem execRootDecisionReject_keep {l : Nat} (h : covers 0x4430008eca200000000000080f71ef0000000600002007805018000001c00000000000000040000133c00 l) {s : State} {u : State} (k : Keep l s u) (a0) :
    KeepR l s (execRootDecisionReject a0 u) := by
  unfold execRootDecisionReject
  with_reducible repeat' first
    | assumption
    | exact covers_trans (by decide) h
    | apply keep_ite
    | apply keepR_ite
    | apply guarded_keep
    | apply accessed_keep
    | apply respondAccess_keep
    | apply State.rootOp_keep
    | apply KeepR.next
    | split
    | dsimp only
    | intro _

theorem State.sweepEnds_keep {l : Nat} (h : covers 0x4000000000000000000000000000 l) {s : State} {u : State} (k : Keep l s u)  :
    Keep l s (State.sweepEnds u) := by
  have b110 := covers_bit (i := 110) h (by decide)
  unfold State.sweepEnds
  with_reducible repeat' first
    | assumption
    | exact covers_trans (by decide) h
    | apply keep_ite
    | (intro x; simp only [ExtS.blank, b110, if_true]; done)
    | (intro x; (try dsimp only); (repeat' split) <;> (simp only [ExtS.blank, b110, if_true]; done))
    | refine State.modExt_keep ?_ ?_
    | split
    | dsimp only
    | intro _

theorem State.refrSync_keep {l : Nat} (h : covers 0x800000000000000000000000000000000000000 l) {s : State} {u : State} (k : Keep l s u) (a0) :
    Keep l s (State.refrSync a0 u) := by
  unfold State.refrSync
  with_reducible repeat' first
    | assumption
    | exact covers_trans (by decide) h
    | apply keep_ite
    | apply State.modEntry_keep
    | split
    | dsimp only
    | intro _

theorem State.takeEngineSlot_keep {l : Nat} (h : covers 0x2000000000000000000000000000000000000 l) {s : State} {u : State} (k : Keep l s u) (a0) :
    Keep l s (State.takeEngineSlot a0 u) := by
  unfold State.takeEngineSlot
  with_reducible repeat' first
    | assumption
    | exact covers_trans (by decide) h
    | apply keep_ite
    | apply State.modPlane_keep
    | split
    | dsimp only
    | intro _

theorem execHsense_keep {l : Nat} (h : covers 0x400000000000000000000000000000000000000000900400a000000000000000000000000000000000000 l) {s : State} {u : State} (k : Keep l s u) (a0) (a1) (a2) :
    KeepR l s (execHsense a0 a1 a2 u) := by
  unfold execHsense
  with_reducible repeat' first
    | assumption
    | exact covers_trans (by decide) h
    | apply keep_ite
    | apply keepR_ite
    | apply State.emit_keep
    | apply State.countSense_keep
    | apply State.busCount_keep
    | apply State.takeEngineSlot_keep
    | apply KeepR.next
    | split
    | dsimp only
    | intro _

theorem State.reestablish_keep {l : Nat} (h : covers 0x4430008eca200000000000000f71ef80000041fc1ae00f8df81b80ca01c00000000000000040000100000 l) {s : State} {u : State} (k : Keep l s u) (a0) :
    Keep l s (State.reestablish a0 u) := by
  have b194 := covers_bit (i := 194) h (by decide)
  unfold State.reestablish
  with_reducible repeat' first
    | assumption
    | exact covers_trans (by decide) h
    | apply keep_ite
    | (intro x; simp only [IntegS.blank, b194, if_true]; done)
    | (intro x; (try dsimp only); (repeat' split) <;> (simp only [IntegS.blank, b194, if_true]; done))
    | refine State.modItg_keep ?_ ?_
    | apply State.renew_keep
    | split
    | dsimp only
    | intro _

theorem State.rekeyOp_keep {l : Nat} (h : covers 0x4430008eca2000000000000000000000007c0000000000000000000008000000000000000000000023c00 l) {s : State} {u : State} (k : Keep l s u) (a0) (a1) :
    Keep l s (State.rekeyOp a0 a1 u).2.2 := by
  have b198 := covers_bit (i := 198) h (by decide)
  have b199 := covers_bit (i := 199) h (by decide)
  have b200 := covers_bit (i := 200) h (by decide)
  have b201 := covers_bit (i := 201) h (by decide)
  have b202 := covers_bit (i := 202) h (by decide)
  unfold State.rekeyOp
  with_reducible repeat' first
    | assumption
    | exact covers_trans (by decide) h
    | apply keep_ite
    | apply keep_ite_acc
    | (intro x; simp only [IntegS.blank, b198, b199, b200, b201, b202, if_true]; done)
    | (intro x; (try dsimp only); (repeat' split) <;> (simp only [IntegS.blank, b198, b199, b200, b201, b202, if_true]; done))
    | refine State.modItg_keep ?_ ?_
    | apply State.storeWrite_keep
    | apply State.answer_keep
    | apply State.deferred_keep
    | apply State.rekeyFinish_keep
    | split
    | dsimp only
    | intro _

theorem State.scrubOp_keep {l : Nat} (h : covers 0x4430008eca200000000000000000000080000000000000000000000000000000000000000000000003c00 l) {s : State} {u : State} (k : Keep l s u) (a0) (a1) (a2) (a3) (a4) :
    Keep l s (State.scrubOp a0 a1 a2 a3 a4 u).2.2 := by
  have b211 := covers_bit (i := 211) h (by decide)
  unfold State.scrubOp
  with_reducible repeat' first
    | assumption
    | exact covers_trans (by decide) h
    | apply keep_ite
    | apply keep_ite_acc
    | (intro x; simp only [ScrubS.blank, b211, if_true]; done)
    | (intro x; (try dsimp only); (repeat' split) <;> (simp only [ScrubS.blank, b211, if_true]; done))
    | refine State.modScr_keep ?_ ?_
    | apply State.answer_keep
    | apply State.deferred_keep
    | split
    | dsimp only
    | intro _

theorem State.nodeRecovered_keep {l : Nat} (h : covers 0x4430008eca200000000000000f71ef0000002800000000000018000001c00000000000000040000100000 l) {s : State} {u : State} (k : Keep l s u) (a0) :
    Keep l s (State.nodeRecovered a0 u) := by
  have b193 := covers_bit (i := 193) h (by decide)
  unfold State.nodeRecovered
  with_reducible repeat' first
    | assumption
    | exact covers_trans (by decide) h
    | apply keep_ite
    | (intro x; simp only [IntegS.blank, b193, if_true]; done)
    | (intro x; (try dsimp only); (repeat' split) <;> (simp only [IntegS.blank, b193, if_true]; done))
    | refine State.modItg_keep ?_ ?_
    | apply State.alarm_keep
    | split
    | dsimp only
    | intro _

theorem State.pathChecked_keep {l : Nat} (h : covers 0x4430008eca200000000000000f71ef000000280418e00f8df018004001c00000000000000040000100000 l) {s : State} {a3 : State → State} (ka3 : ∀  v, Keep l s v → Keep l s (a3  v)) {u : State} (k : Keep l s u) (a0) (a1) (a2) :
    Keep l s (State.pathChecked a0 a1 a2 a3 u) := by
  unfold State.pathChecked
  with_reducible repeat' first
    | assumption
    | exact covers_trans (by decide) h
    | apply keep_ite
    | apply State.loseTracts_keep
    | apply State.nodeRecovered_keep
    | refine ka3  _ ?_
    | split
    | dsimp only
    | intro _

theorem State.halfLost_keep {l : Nat} (h : covers 0x4430008eca200000000000000f71ef000000080418e00f8df018004001c00000000000000040000100000 l) {s : State} {u : State} (k : Keep l s u) (a0) (a1) :
    Keep l s (State.halfLost a0 a1 u) := by
  unfold State.halfLost
  with_reducible repeat' first
    | assumption
    | exact covers_trans (by decide) h
    | apply keep_ite
    | apply State.loseTracts_keep
    | split
    | dsimp only
    | intro _

theorem State.drainNodes_keep {l : Nat} (h : covers 0x4430008eca200000000000000f71ef000600080418e00f8df818007801c00000000000000040000100000 l) {s : State} {u : State} (k : Keep l s u) (a0) (a1) (a2) (a3) :
    Keep l s (State.drainNodes a0 a1 a2 a3 u) := by
  unfold State.drainNodes
  with_reducible repeat' first
    | assumption
    | exact covers_trans (by decide) h
    | apply keep_ite
    | refine forEach_keep (fun _ _ _ => ?_) ?_ _
    | apply State.lostEntries_keep
    | apply State.reportFound_keep
    | apply State.startUnit_keep
    | apply State.halfLost_keep
    | split
    | dsimp only
    | intro _

theorem execDrainUnitSelect_keep {l : Nat} (h : covers 0x4430008eca200000000000000f71ef80070139bc18f00f8df81b80fa01c00000000000000040000100000 l) {s : State} {u : State} (k : Keep l s u) (a0) (a1) (a2) (a3) (a4) :
    KeepR l s (execDrainUnitSelect a0 a1 a2 a3 a4 u) := by
  unfold execDrainUnitSelect
  with_reducible repeat' first
    | assumption
    | exact covers_trans (by decide) h
    | apply keep_ite
    | apply keepR_ite
    | apply State.abandon_keep
    | apply State.drainData_keep
    | apply State.pathChecked_keep
    | apply State.drainNodes_keep
    | apply KeepR.next
    | split
    | dsimp only
    | intro _

theorem State.writeNode_keep {l : Nat} (h : covers 0xc2000004000000000000000000000000000000 l) {s : State} {u : State} (k : Keep l s u) (a0) (a1) (a2) :
    Keep l s (State.writeNode a0 a1 a2 u) := by
  unfold State.writeNode
  with_reducible repeat' first
    | assumption
    | exact covers_trans (by decide) h
    | apply keep_ite
    | apply State.requestAll_keep
    | split
    | dsimp only
    | intro _

theorem State.moveNodes_keep {l : Nat} (h : covers 0xc2000004000000000000000000000000000000 l) {s : State} {u : State} (k : Keep l s u) (a0) :
    Keep l s (State.moveNodes a0 u) := by
  unfold State.moveNodes
  with_reducible repeat' first
    | assumption
    | exact covers_trans (by decide) h
    | apply keep_ite
    | refine forEach_keep (fun _ _ _ => ?_) ?_ _
    | apply State.writeNode_keep
    | split
    | dsimp only
    | intro _

theorem execMigrationRowCopy_keep {l : Nat} (h : covers 0x4430008eca200000000000000f71ef020600000414f00f8df018004001c00000000000000040000100000 l) {s : State} {u : State} (k : Keep l s u) (a0) (a1) :
    KeepR l s (execMigrationRowCopy a0 a1 u) := by
  unfold execMigrationRowCopy
  with_reducible repeat' first
    | assumption
    | exact covers_trans (by decide) h
    | apply keep_ite
    | apply keepR_ite
    | apply State.countSenses_keep
    | apply State.engineCount_keep
    | apply State.modMig_keep
    | apply State.migSync_keep
    | apply State.reportFound_keep
    | apply State.requestAll_keep
    | apply State.moveNodes_keep
    | apply KeepR.next
    | split
    | dsimp only
    | intro _

theorem execDebugWindowExpiry_keep {l : Nat} (h : covers 0x4430008eca200000000000000f71ef0000800000000000000018000001c00000000000000040000100000 l) {s : State} {u : State} (k : Keep l s u) (a0) :
    KeepR l s (execDebugWindowExpiry a0 u) := by
  unfold execDebugWindowExpiry
  with_reducible repeat' first
    | assumption
    | exact covers_trans (by decide) h
    | apply keep_ite
    | apply keepR_ite
    | apply State.closeWindow_keep
    | apply KeepR.next
    | split
    | dsimp only
    | intro _

theorem execScrubPhysicalPass_keep {l : Nat} (h : covers 0x4430008eca200000000000000000000080000000000000000000000000800000000000000000000033c00 l) {s : State} {u : State} (k : Keep l s u) (a0) (a1) (a2) (a3) :
    KeepR l s (execScrubPhysicalPass a0 a1 a2 a3 u) := by
  unfold execScrubPhysicalPass
  with_reducible repeat' first
    | assumption
    | exact covers_trans (by decide) h
    | apply keep_ite
    | apply keepR_ite
    | apply guarded_keep
    | apply accessed_keep
    | apply respondAccess_keep
    | apply State.scrubOp_keep
    | apply KeepR.next
    | split
    | dsimp only
    | intro _

theorem execCheckpointVerified_keep {l : Nat} (h : covers 0x4430008eca200000000000000f71ef000000000414e00e80d018000001c00000000000000040000100000 l) {s : State} {u : State} (k : Keep l s u) (a0) :
    KeepR l s (execCheckpointVerified a0 u) := by
  have b171 := covers_bit (i := 171) h (by decide)
  unfold execCheckpointVerified
  with_reducible repeat' first
    | assumption
    | exact covers_trans (by decide) h
    | apply keep_ite
    | apply keepR_ite
    | (intro x; simp only [TractS.blank, b171, if_true]; done)
    | (intro x; (try dsimp only); (repeat' split) <;> (simp only [TractS.blank, b171, if_true]; done))
    | refine State.modTrc_keep ?_ ?_
    | apply State.freeTract_keep
    | apply State.checkpointB_keep
    | apply State.modEntry_keep
    | apply State.countMig_keep
    | apply KeepR.next
    | split
    | dsimp only
    | intro _

theorem execDrainUnitComplete_keep {l : Nat} (h : covers 0x4430008eca20000000000000000000010038000000000000000380d808400000000000000000000020400 l) {s : State} {u : State} (k : Keep l s u) (a0) :
    KeepR l s (execDrainUnitComplete a0 u) := by
  unfold execDrainUnitComplete
  with_reducible repeat' first
    | assumption
    | exact covers_trans (by decide) h
    | apply keep_ite
    | apply keepR_ite
    | apply State.finishUnit_keep
    | apply KeepR.next
    | split
    | dsimp only
    | intro _

theorem execLoad_keep {l : Nat} (h : covers 0xa000000000000000000000000000000000000 l) {s : State} {u : State} (k : Keep l s u) (a0) (a1) (a2) (a3) :
    KeepR l s (execLoad a0 a1 a2 a3 u) := by
  unfold execLoad
  with_reducible repeat' first
    | assumption
    | exact covers_trans (by decide) h
    | apply keep_ite
    | apply keepR_ite
    | apply State.modChannel_keep
    | apply State.modPlane_keep
    | apply KeepR.next
    | split
    | dsimp only
    | intro _

theorem execAbortTimeout_keep {l : Nat} (h : covers 0x4430008eca200000000000000f71ef000700384419e00f8df018004081c00000000000000040000100000 l) {s : State} {u : State} (k : Keep l s u) (a0) (a1) (a2) :
    KeepR l s (execAbortTimeout a0 a1 a2 u) := by
  unfold execAbortTimeout
  with_reducible repeat' first
    | assumption
    | exact covers_trans (by decide) h
    | apply keep_ite
    | apply keepR_ite
    | refine forEach_keep (fun _ _ _ => ?_) ?_ _
    | apply State.report_keep
    | apply State.modPlane_keep
    | apply State.waitedRead_keep
    | apply State.noAnswer_keep
    | apply KeepR.next
    | split
    | dsimp only
    | intro _

theorem State.dropNodesAt_keep {l : Nat} (h : covers 0x800000000000000000000000000000 l) {s : State} {u : State} (k : Keep l s u) (a0) (a1) :
    Keep l s (State.dropNodesAt a0 a1 u) := by
  have b119 := covers_bit (i := 119) h (by decide)
  unfold State.dropNodesAt
  with_reducible repeat' first
    | assumption
    | exact covers_trans (by decide) h
    | apply keep_ite
    | (intro x; simp only [WbS.blank, b119, if_true]; done)
    | (intro x; (try dsimp only); (repeat' split) <;> (simp only [WbS.blank, b119, if_true]; done))
    | refine State.modWb_keep ?_ ?_
    | split
    | dsimp only
    | intro _

theorem execSealVerified_keep {l : Nat} (h : covers 0x8000000003808800400000000000000000000000000 l) {s : State} {u : State} (k : Keep l s u) (a0) :
    KeepR l s (execSealVerified a0 u) := by
  unfold execSealVerified
  with_reducible repeat' first
    | assumption
    | exact covers_trans (by decide) h
    | apply keep_ite
    | apply keepR_ite
    | apply State.dirtySync_keep
    | apply State.modMig_keep
    | apply State.bufferSync_keep
    | apply State.dropNodesAt_keep
    | apply KeepR.next
    | split
    | dsimp only
    | intro _

theorem execDebugWindowOpen_keep {l : Nat} (h : covers 0x4430008eca200000000000000f71ef0000800000000000000018000001c00000000000000040000130400 l) {s : State} {u : State} (k : Keep l s u) (a0) (a1) (a2) (a3) :
    KeepR l s (execDebugWindowOpen a0 a1 a2 a3 u) := by
  unfold execDebugWindowOpen
  with_reducible repeat' first
    | assumption
    | exact covers_trans (by decide) h
    | apply keep_ite
    | apply keepR_ite
    | apply accessed_keep
    | apply respondAccess_keep
    | apply State.windowOpen_keep
    | apply KeepR.next
    | split
    | dsimp only
    | intro _

theorem execStarvationThreshold_keep {l : Nat} (h : covers 0x4430008eca200000000000000f71ef0000000000000000000098001001c00000000000000040000100000 l) {s : State} {u : State} (k : Keep l s u) (a0) :
    KeepR l s (execStarvationThreshold a0 u) := by
  have b120 := covers_bit (i := 120) h (by decide)
  have b139 := covers_bit (i := 139) h (by decide)
  unfold execStarvationThreshold
  with_reducible repeat' first
    | assumption
    | exact covers_trans (by decide) h
    | apply keep_ite
    | apply keepR_ite
    | (intro x; simp only [WbS.blank, b120, b139, if_true]; done)
    | (intro x; (try dsimp only); (repeat' split) <;> (simp only [WbS.blank, b120, b139, if_true]; done))
    | refine State.modWb_keep ?_ ?_
    | apply State.report_keep
    | apply KeepR.next
    | split
    | dsimp only
    | intro _

theorem State.abortPlane_keep {l : Nat} (h : covers 0x2000000000000000000000000000000000000 l) {s : State} {u : State} (k : Keep l s u) (a0) :
    Keep l s (State.abortPlane a0 u) := by
  unfold State.abortPlane
  with_reducible repeat' first
    | assumption
    | exact covers_trans (by decide) h
    | apply keep_ite
    | apply State.modPlane_keep
    | split
    | dsimp only
    | intro _

theorem execAbort_keep {l : Nat} (h : covers 0x2000000000000000000000000000000000000 l) {s : State} {u : State} (k : Keep l s u) (a0) (a1) (a2) :
    KeepR l s (execAbort a0 a1 a2 u) := by
  unfold execAbort
  with_reducible repeat' first
    | assumption
    | exact covers_trans (by decide) h
    | apply keep_ite
    | apply keepR_ite
    | apply State.abortPlane_keep
    | apply KeepR.next
    | split
    | dsimp only
    | intro _

theorem execEsense_keep {l : Nat} (h : covers 0x400000000000000000000000000000000600000000900480e000000000000000000000000000000000000 l) {s : State} {u : State} (k : Keep l s u) (a0) (a1) (a2) (a3) (a4) :
    KeepR l s (execEsense a0 a1 a2 a3 a4 u) := by
  unfold execEsense
  with_reducible repeat' first
    | assumption
    | exact covers_trans (by decide) h
    | apply keep_ite
    | apply keepR_ite
    | apply State.busCount_keep
    | apply State.sensed_keep
    | apply State.takeEngineSlot_keep
    | apply KeepR.next
    | split
    | dsimp only
    | intro _

theorem execClrseg_keep {l : Nat} (h : covers 0x200006a000000000000000000000000000000000000 l) {s : State} {u : State} (k : Keep l s u) (a0) (a1) (a2) (a3) :
    KeepR l s (execClrseg a0 a1 a2 a3 u) := by
  have b149 := covers_bit (i := 149) h (by decide)
  unfold execClrseg
  with_reducible repeat' first
    | assumption
    | exact covers_trans (by decide) h
    | apply keep_ite
    | apply keepR_ite
    | (intro x; simp only [MediaS.blank, b149, if_true]; done)
    | (intro x; (try dsimp only); (repeat' split) <;> (simp only [MediaS.blank, b149, if_true]; done))
    | refine State.modMed_keep ?_ ?_
    | refine forEach_keep (fun _ _ _ => ?_) ?_ _
    | apply State.wear_keep
    | apply State.modPlane_keep
    | apply State.unreserve_keep
    | apply State.busCount_keep
    | apply KeepR.next
    | split
    | dsimp only
    | intro _

theorem execTrim_keep {l : Nat} (h : covers 0xc000000000000000000000000000000000000000000000000000000000000000000000000000000000000 l) {s : State} {u : State} (k : Keep l s u) (a0) (a1) (a2) :
    KeepR l s (execTrim a0 a1 a2 u) := by
  unfold execTrim
  with_reducible repeat' first
    | assumption
    | exact covers_trans (by decide) h
    | apply keep_ite
    | apply keepR_ite
    | apply State.emit_keep
    | apply State.draw_keep
    | refine snd_of_eq ‹State.draw _ = _› (State.draw_keep ?_ ?_)
    | apply KeepR.next
    | split
    | dsimp only
    | intro _

theorem execCheck_keep {l : Nat} (h : covers 0x10a000000000000000000000000000000000000 l) {s : State} {u : State} (k : Keep l s u) (a0) (a1) (a2) :
    KeepR l s (execCheck a0 a1 a2 u) := by
  have b152 := covers_bit (i := 152) h (by decide)
  unfold execCheck
  with_reducible repeat' first
    | assumption
    | exact covers_trans (by decide) h
    | apply keep_ite
    | apply keepR_ite
    | (intro x; simp only [MediaS.blank, b152, if_true]; done)
    | (intro x; (try dsimp only); (repeat' split) <;> (simp only [MediaS.blank, b152, if_true]; done))
    | refine State.modMed_keep ?_ ?_
    | apply State.modChannel_keep
    | apply State.modPlane_keep
    | apply State.abortPlane_keep
    | apply KeepR.next
    | split
    | dsimp only
    | intro _

theorem State.revoke_keep {l : Nat} (h : covers 0x8000000000000000000000000000000000000000002000267000000000000000000000000000000000000 l) {s : State} {u : State} (k : Keep l s u) (a0) (a1) (a2) :
    Keep l s (State.revoke a0 a1 a2 u) := by
  have b153 := covers_bit (i := 153) h (by decide)
  unfold State.revoke
  with_reducible repeat' first
    | assumption
    | exact covers_trans (by decide) h
    | apply keep_ite
    | (intro x; simp only [MediaS.blank, b153, if_true]; done)
    | (intro x; (try dsimp only); (repeat' split) <;> (simp only [MediaS.blank, b153, if_true]; done))
    | refine State.modMed_keep ?_ ?_
    | apply State.modDie_keep
    | apply State.modPlane_keep
    | apply State.cutOff_keep
    | apply State.unreserve_keep
    | apply State.release_keep
    | split
    | dsimp only
    | intro _

theorem execAbortReport_keep {l : Nat} (h : covers 0xc430008eca200000000000000f71ef020000000434e00faff018005001c00000000000000040000100000 l) {s : State} {u : State} (k : Keep l s u) (a0) (a1) (a2) (a3) (a4) :
    KeepR l s (execAbortReport a0 a1 a2 a3 a4 u) := by
  unfold execAbortReport
  with_reducible repeat' first
    | assumption
    | exact covers_trans (by decide) h
    | apply keep_ite
    | apply keepR_ite
    | apply State.modPlane_keep
    | apply State.grant_keep
    | apply State.migSync_keep
    | apply State.grantIdle_keep
    | apply State.opComplete_keep
    | apply State.revoke_keep
    | apply KeepR.next
    | split
    | dsimp only
    | intro _

theorem State.senseEnds_keep {l : Nat} (h : covers 0x42000000000000000000000000000000000000 l) {s : State} {u : State} (k : Keep l s u) (a0) :
    Keep l s (State.senseEnds a0 u) := by
  unfold State.senseEnds
  with_reducible repeat' first
    | assumption
    | exact covers_trans (by decide) h
    | apply keep_ite
    | apply State.modPlane_keep
    | apply State.grant_keep
    | split
    | dsimp only
    | intro _

theorem State.verifyFailed_keep {l : Nat} (h : covers 0xc430008eca200000000000000f71ef000000000418e00fcff018005001c00000000000000040000100000 l) {s : State} {u : State} (k : Keep l s u) (a0) (a1) :
    Keep l s (State.verifyFailed a0 a1 u) := by
  unfold State.verifyFailed
  with_reducible repeat' first
    | assumption
    | exact covers_trans (by decide) h
    | apply keep_ite
    | apply State.wear_keep
    | apply State.modPlane_keep
    | apply State.destroy_keep
    | apply State.programDone_keep
    | apply State.release_keep
    | apply State.nextOp_keep
    | apply State.listBad_keep
    | apply State.abandonFor_keep
    | split
    | dsimp only
    | intro _

theorem execPlaneOperationEnd_keep {l : Nat} (h : covers 0xc430008eca200000000000000f71ef02000000043ce00fcff018005001c00000000000000040000100000 l) {s : State} {u : State} (k : Keep l s u) (a0) (a1) (a2) (a3) :
    KeepR l s (execPlaneOperationEnd a0 a1 a2 a3 u) := by
  unfold execPlaneOperationEnd
  with_reducible repeat' first
    | assumption
    | exact covers_trans (by decide) h
    | apply keep_ite
    | apply keepR_ite
    | apply State.migSync_keep
    | apply State.grantIdle_keep
    | apply State.opComplete_keep
    | apply State.senseEnds_keep
    | apply State.nextOp_keep
    | apply State.verifyFailed_keep
    | apply KeepR.next
    | split
    | dsimp only
    | intro _

theorem State.engineAbandoned_keep {l : Nat} (h : covers 0x4430008eca200000000000000f71ef0000000000000000046018000001c00000000000000040000100000 l) {s : State} {u : State} (k : Keep l s u) (a0) (a1) (a2) :
    Keep l s (State.engineAbandoned a0 a1 a2 u) := by
  unfold State.engineAbandoned
  with_reducible repeat' first
    | assumption
    | exact covers_trans (by decide) h
    | apply keep_ite
    | apply State.modPlane_keep
    | apply State.grant_keep
    | apply State.noAnswer_keep
    | split
    | dsimp only
    | intro _

theorem execSenseTimeout_keep {l : Nat} (h : covers 0x4430008eca200000000000000f71ef000700384419e00f8df018004081c00000000000000040000100000 l) {s : State} {u : State} (k : Keep l s u) (a0) :
    KeepR l s (execSenseTimeout a0 u) := by
  unfold execSenseTimeout
  with_reducible repeat' first
    | assumption
    | exact covers_trans (by decide) h
    | apply keep_ite
    | apply keepR_ite
    | apply State.lineAbsent_keep
    | apply State.noAnswer_keep
    | apply State.engineAbandoned_keep
    | apply KeepR.next
    | split
    | dsimp only
    | intro _

theorem execProgramStatusTimeout_keep {l : Nat} (h : covers 0xc430008eca200000000000000f71ef0000000000002000267018000001c00000000000000040000100000 l) {s : State} {u : State} (k : Keep l s u) (a0) (a1) (a2) :
    KeepR l s (execProgramStatusTimeout a0 a1 a2 u) := by
  unfold execProgramStatusTimeout
  with_reducible repeat' first
    | assumption
    | exact covers_trans (by decide) h
    | apply keep_ite
    | apply keepR_ite
    | apply State.modPlane_keep
    | apply State.grant_keep
    | apply State.grantIdle_keep
    | apply State.noAnswer_keep
    | apply State.revoke_keep
    | apply KeepR.next
    | split
    | dsimp only
    | intro _

theorem execCommandParityError_keep {l : Nat} (h : covers 0x8000000081000000000000000000000000000 l) {s : State} {u : State} (k : Keep l s u) (a0) (a1) (a2) :
    KeepR l s (execCommandParityError a0 a1 a2 u) := by
  unfold execCommandParityError
  with_reducible repeat' first
    | assumption
    | exact covers_trans (by decide) h
    | apply keep_ite
    | apply keepR_ite
    | apply State.modChannel_keep
    | apply State.markReconstructed_keep
    | apply KeepR.next
    | split
    | dsimp only
    | intro _

theorem execChannelTimingError_keep {l : Nat} (h : covers 0x4430008eca200000000000000f71ef0000000000000000008018000001c00000000000000040000100000 l) {s : State} {u : State} (k : Keep l s u) (a0) (a1) :
    KeepR l s (execChannelTimingError a0 a1 u) := by
  unfold execChannelTimingError
  with_reducible repeat' first
    | assumption
    | exact covers_trans (by decide) h
    | apply keep_ite
    | apply keepR_ite
    | apply State.modChannel_keep
    | apply State.report_keep
    | apply KeepR.next
    | split
    | dsimp only
    | intro _

theorem execChannelTrainingTimeout_keep {l : Nat} (h : covers 0x4430008eca200000000000000f71ef0000000000000000000018000001c00000000000000040000100000 l) {s : State} {u : State} (k : Keep l s u) (a0) :
    KeepR l s (execChannelTrainingTimeout a0 u) := by
  unfold execChannelTrainingTimeout
  with_reducible repeat' first
    | assumption
    | exact covers_trans (by decide) h
    | apply keep_ite
    | apply keepR_ite
    | apply State.report_keep
    | apply KeepR.next
    | split
    | dsimp only
    | intro _

theorem execCoalescingDelayExpiry_keep {l : Nat} (h : covers 0x800000000000000000000000000000 l) {s : State} {u : State} (k : Keep l s u) (a0) :
    KeepR l s (execCoalescingDelayExpiry a0 u) := by
  unfold execCoalescingDelayExpiry
  with_reducible repeat' first
    | assumption
    | exact covers_trans (by decide) h
    | apply keep_ite
    | apply keepR_ite
    | apply State.ageEntry_keep
    | apply KeepR.next
    | split
    | dsimp only
    | intro _

theorem execDrainProgramsStart_keep {l : Nat} (h : covers 0x42800001000000000000000000000000000000 l) {s : State} {u : State} (k : Keep l s u) (a0) :
    KeepR l s (execDrainProgramsStart a0 u) := by
  have b120 := covers_bit (i := 120) h (by decide)
  have b143 := covers_bit (i := 143) h (by decide)
  unfold execDrainProgramsStart
  with_reducible repeat' first
    | assumption
    | exact covers_trans (by decide) h
    | apply keep_ite
    | apply keepR_ite
    | (intro x; simp only [WbS.blank, b120, b143, if_true]; done)
    | (intro x; (try dsimp only); (repeat' split) <;> (simp only [WbS.blank, b120, b143, if_true]; done))
    | refine State.modWb_keep ?_ ?_
    | refine forEach_keep (fun _ _ _ => ?_) ?_ _
    | apply State.addJob_keep
    | apply State.unitDone_keep
    | apply KeepR.next
    | split
    | dsimp only
    | intro _

theorem execNodeHoldExpiry_keep {l : Nat} (h : covers 0x800000000000000000000000000000 l) {s : State} {u : State} (k : Keep l s u) (a0) :
    KeepR l s (execNodeHoldExpiry a0 u) := by
  unfold execNodeHoldExpiry
  with_reducible repeat' first
    | assumption
    | exact covers_trans (by decide) h
    | apply keep_ite
    | apply keepR_ite
    | apply State.ageEntry_keep
    | apply KeepR.next
    | split
    | dsimp only
    | intro _

theorem execLedgerDelta_keep {l : Nat} (h : covers 0x360000000000000000000000000000000 l) {s : State} {u : State} (k : Keep l s u)  :
    KeepR l s (execLedgerDelta u) := by
  have b125 := covers_bit (i := 125) h (by decide)
  unfold execLedgerDelta
  with_reducible repeat' first
    | assumption
    | exact covers_trans (by decide) h
    | apply keep_ite
    | apply keepR_ite
    | (intro x; simp only [WbS.blank, b125, if_true]; done)
    | (intro x; (try dsimp only); (repeat' split) <;> (simp only [WbS.blank, b125, if_true]; done))
    | refine State.modWb_keep ?_ ?_
    | apply State.startRec_keep
    | apply KeepR.next
    | split
    | dsimp only
    | intro _

theorem execLedgerFullSet_keep {l : Nat} (h : covers 0x340000000000000000000000000000000 l) {s : State} {u : State} (k : Keep l s u)  :
    KeepR l s (execLedgerFullSet u) := by
  unfold execLedgerFullSet
  with_reducible repeat' first
    | assumption
    | exact covers_trans (by decide) h
    | apply keep_ite
    | apply keepR_ite
    | apply State.startRec_keep
    | apply KeepR.next
    | split
    | dsimp only
    | intro _

theorem execLedgerRecordDurable_keep {l : Nat} (h : covers 0x4d0000000000000000000000000000000 l) {s : State} {u : State} (k : Keep l s u) (a0) :
    KeepR l s (execLedgerRecordDurable a0 u) := by
  unfold execLedgerRecordDurable
  with_reducible repeat' first
    | assumption
    | exact covers_trans (by decide) h
    | apply keep_ite
    | apply keepR_ite
    | apply State.recDurable_keep
    | apply KeepR.next
    | split
    | dsimp only
    | intro _

theorem execInputDip_keep {l : Nat} (h : covers 0x4360000400000000000000000080000000 l) {s : State} {u : State} (k : Keep l s u)  :
    KeepR l s (execInputDip u) := by
  have b31 := covers_bit (i := 31) h (by decide)
  have b134 := covers_bit (i := 134) h (by decide)
  unfold execInputDip
  with_reducible repeat' first
    | assumption
    | exact covers_trans (by decide) h
    | apply keep_ite
    | apply keepR_ite
    | (intro x; simp only [PowerS.blank, WbS.blank, b31, b134, if_true]; done)
    | (intro x; (try dsimp only); (repeat' split) <;> (simp only [PowerS.blank, WbS.blank, b31, b134, if_true]; done))
    | refine State.modPwr_keep ?_ ?_
    | refine State.modWb_keep ?_ ?_
    | apply State.creditSync_keep
    | apply State.startSeal_keep
    | apply KeepR.next
    | split
    | dsimp only
    | intro _

theorem execInputDipRecovered_keep {l : Nat} (h : covers 0x4430008eca200000000000000f71ef000000000000000000001c000001c00000000000000040180100000 l) {s : State} {u : State} (k : Keep l s u)  :
    KeepR l s (execInputDipRecovered u) := by
  have b31 := covers_bit (i := 31) h (by decide)
  have b32 := covers_bit (i := 32) h (by decide)
  unfold execInputDipRecovered
  with_reducible repeat' first
    | assumption
    | exact covers_trans (by decide) h
    | apply keep_ite
    | apply keepR_ite
    | (intro x; simp only [PowerS.blank, b31, b32, if_true]; done)
    | (intro x; (try dsimp only); (repeat' split) <;> (simp only [PowerS.blank, b31, b32, if_true]; done))
    | refine State.modPwr_keep ?_ ?_
    | apply State.report_keep
    | apply State.dipEnd_keep
    | apply KeepR.next
    | split
    | dsimp only
    | intro _

theorem execMigrationStart_keep {l : Nat} (h : covers 0x28000800000000000000000000000000000000000000 l) {s : State} {u : State} (k : Keep l s u) (a0) :
    KeepR l s (execMigrationStart a0 u) := by
  have b173 := covers_bit (i := 173) h (by decide)
  unfold execMigrationStart
  with_reducible repeat' first
    | assumption
    | exact covers_trans (by decide) h
    | apply keep_ite
    | apply keepR_ite
    | (intro x; simp only [TractS.blank, b173, if_true]; done)
    | (intro x; (try dsimp only); (repeat' split) <;> (simp only [TractS.blank, b173, if_true]; done))
    | refine State.modTrc_keep ?_ ?_
    | apply State.modEntry_keep
    | apply State.modMig_keep
    | apply KeepR.next
    | split
    | dsimp only
    | intro _

theorem execSourceReadsDrained_keep {l : Nat} (h : covers 0x2200000000000000000000000000000008400052000000000000000000000000000000000000 l) {s : State} {u : State} (k : Keep l s u) (a0) :
    KeepR l s (execSourceReadsDrained a0 u) := by
  unfold execSourceReadsDrained
  with_reducible repeat' first
    | assumption
    | exact covers_trans (by decide) h
    | apply keep_ite
    | apply keepR_ite
    | apply State.when_keep
    | apply State.startClear_keep
    | apply State.modMig_keep
    | apply State.putDirectory_keep
    | apply KeepR.next
    | split
    | dsimp only
    | intro _

theorem execSourceClearComplete_keep {l : Nat} (h : covers 0x800000000000000000000000000000000000000000a00d805000000000000000000000000000000000000 l) {s : State} {u : State} (k : Keep l s u) (a0) :
    KeepR l s (execSourceClearComplete a0 u) := by
  unfold execSourceClearComplete
  with_reducible repeat' first
    | assumption
    | exact covers_trans (by decide) h
    | apply keep_ite
    | apply keepR_ite
    | apply State.checkpointA_keep
    | apply State.modEntry_keep
    | apply State.placed_keep
    | apply State.modMig_keep
    | apply State.endEpoch_keep
    | apply KeepR.next
    | split
    | dsimp only
    | intro _

theorem State.evacuation_keep {l : Nat} (h : covers 0x8000000000000000000000000000000000000000000 l) {s : State} {u : State} (k : Keep l s u)  :
    Keep l s (State.evacuation u) := by
  unfold State.evacuation
  with_reducible repeat' first
    | assumption
    | exact covers_trans (by decide) h
    | apply keep_ite
    | refine forEach_keep (fun _ _ _ => ?_) ?_ _
    | apply State.queueMig_keep
    | split
    | dsimp only
    | intro _

theorem execWearEpoch_keep {l : Nat} (h : covers 0x800000000000000000000000000000000000000000a00c000000000000000000000000000000000000000 l) {s : State} {u : State} (k : Keep l s u)  :
    KeepR l s (execWearEpoch u) := by
  unfold execWearEpoch
  with_reducible repeat' first
    | assumption
    | exact covers_trans (by decide) h
    | apply keep_ite
    | apply keepR_ite
    | refine forEach_keep (fun _ _ _ => ?_) ?_ _
    | apply State.levelling_keep
    | apply State.endEpoch_keep
    | apply State.evacuation_keep
    | apply KeepR.next
    | split
    | dsimp only
    | intro _

theorem State.rewrite_keep {l : Nat} (h : covers 0x90040c2000004000000000000000000000000000000 l) {s : State} {u : State} (k : Keep l s u) (a0) (a1) (a2) (a3) :
    Keep l s (State.rewrite a0 a1 a2 a3 u) := by
  unfold State.rewrite
  with_reducible repeat' first
    | assumption
    | exact covers_trans (by decide) h
    | apply keep_ite
    | apply State.countSenses_keep
    | apply State.request_keep
    | split
    | dsimp only
    | intro _

theorem State.noteOldest_keep {l : Nat} (h : covers 0x4000000000000000000000000000 l) {s : State} {u : State} (k : Keep l s u) (a0) (a1) :
    Keep l s (State.noteOldest a0 a1 u) := by
  unfold State.noteOldest
  with_reducible repeat' first
    | assumption
    | exact covers_trans (by decide) h
    | apply keep_ite
    | apply State.modExtent_keep
    | split
    | dsimp only
    | intro _

theorem execRefreshVisit_keep {l : Nat} (h : covers 0x2040000004090048c2000004004000000000000000000000000000 l) {s : State} {u : State} (k : Keep l s u) (a0) (a1) :
    KeepR l s (execRefreshVisit a0 a1 u) := by
  have b178 := covers_bit (i := 178) h (by decide)
  have b206 := covers_bit (i := 206) h (by decide)
  unfold execRefreshVisit
  with_reducible repeat' first
    | assumption
    | exact covers_trans (by decide) h
    | apply keep_ite
    | apply keepR_ite
    | (intro x; simp only [ScrubS.blank, TractS.blank, b178, b206, if_true]; done)
    | (intro x; (try dsimp only); (repeat' split) <;> (simp only [ScrubS.blank, TractS.blank, b178, b206, if_true]; done))
    | refine State.modScr_keep ?_ ?_
    | refine State.modTrc_keep ?_ ?_
    | refine forEach_keep (fun _ _ _ => ?_) ?_ _
    | apply State.when_keep
    | apply State.engineCount_keep
    | apply State.zeroReads_keep
    | apply State.sweepEnds_keep
    | apply State.refrSync_keep
    | apply State.rewrite_keep
    | apply State.noteOldest_keep
    | apply KeepR.next
    | split
    | dsimp only
    | intro _

theorem execRekeyRequest_keep {l : Nat} (h : covers 0x4430008eca2000000000000000000000007c0000000000000000000008800000000000000000000033c00 l) {s : State} {u : State} (k : Keep l s u) (a0) (a1) :
    KeepR l s (execRekeyRequest a0 a1 u) := by
  unfold execRekeyRequest
  with_reducible repeat' first
    | assumption
    | exact covers_trans (by decide) h
    | apply keep_ite
    | apply keepR_ite
    | apply guarded_keep
    | apply accessed_keep
    | apply respondAccess_keep
    | apply State.rekeyOp_keep
    | apply KeepR.next
    | split
    | dsimp only
    | intro _

theorem State.rekeyUnit_keep {l : Nat} (h : covers 0x4430008eca200000000000000f71ef800700183800900480481b80fa01c00000000000000040000100000 l) {s : State} {u : State} (k : Keep l s u) (a0) (a1) :
    Keep l s (State.rekeyUnit a0 a1 u) := by
  unfold State.rekeyUnit
  with_reducible repeat' first
    | assumption
    | exact covers_trans (by decide) h
    | apply keep_ite
    | refine forEach_keep (fun _ _ _ => ?_) ?_ _
    | apply State.countSenses_keep
    | apply State.alarm_keep
    | apply State.countTagFail_keep
    | apply State.setBlock_keep
    | apply State.reportFound_keep
    | apply State.nodeEntries_keep
    | apply State.startUnit_keep
    | split
    | dsimp only
    | intro _

theorem execRekeySpan_keep {l : Nat} (h : covers 0x4430008eca200000000000000f71ef800738383c18f00f8df81b80fa09c00000000000000040000120400 l) {s : State} {u : State} (k : Keep l s u) (a0) (a1) (a2) (a3) :
    KeepR l s (execRekeySpan a0 a1 a2 a3 u) := by
  unfold execRekeySpan
  with_reducible repeat' first
    | assumption
    | exact covers_trans (by decide) h
    | apply keep_ite
    | apply keepR_ite
    | apply State.dirtyJoin_keep
    | apply State.spanDone_keep
    | apply State.pathChecked_keep
    | apply State.rekeyUnit_keep
    | apply KeepR.next
    | split
    | dsimp only
    | intro _

theorem execReEstablishment_keep {l : Nat} (h : covers 0x4430008eca200000000000000f71ef80000041fc1ae00f8df81b80ca01c00000000000000040000100000 l) {s : State} {u : State} (k : Keep l s u) (a0) :
    KeepR l s (execReEstablishment a0 u) := by
  unfold execReEstablishment
  with_reducible repeat' first
    | assumption
    | exact covers_trans (by decide) h
    | apply keep_ite
    | apply keepR_ite
    | apply State.reestablish_keep
    | apply KeepR.next
    | split
    | dsimp only
    | intro _

theorem State.debugPlain_keep {l : Nat} (h : covers 0x4430008eca200000000000000f71ef0001001800000000000018000001c00000000000000040000100000 l) {s : State} {u : State} (k : Keep l s u) (a0) (a1) :
    Keep l s (State.debugPlain a0 a1 u) := by
  unfold State.debugPlain
  with_reducible repeat' first
    | assumption
    | exact covers_trans (by decide) h
    | apply keep_ite
    | apply State.emit_keep
    | apply State.alarm_keep
    | apply State.countTagFail_keep
    | split
    | dsimp only
    | intro _

theorem execDebugRead_keep {l : Nat} (h : covers 0x4430008eca200000000000000f71ef0001001800000000000018000001c00000000000000040000100000 l) {s : State} {u : State} (k : Keep l s u) (a0) (a1) :
    KeepR l s (execDebugRead a0 a1 u) := by
  unfold execDebugRead
  with_reducible repeat' first
    | assumption
    | exact covers_trans (by decide) h
    | apply keep_ite
    | apply keepR_ite
    | apply State.emit_keep
    | apply State.debugPlain_keep
    | apply KeepR.next
    | split
    | dsimp only
    | intro _

theorem execRootDecisionAdopt_keep {l : Nat} (h : covers 0x4430008eca200000000000080f71ef0000000600002007805018000001c00000000000000040000133c00 l) {s : State} {u : State} (k : Keep l s u) (a0) :
    KeepR l s (execRootDecisionAdopt a0 u) := by
  unfold execRootDecisionAdopt
  with_reducible repeat' first
    | assumption
    | exact covers_trans (by decide) h
    | apply keep_ite
    | apply keepR_ite
    | apply guarded_keep
    | apply accessed_keep
    | apply respondAccess_keep
    | apply State.rootOp_keep
    | apply KeepR.next
    | split
    | dsimp only
    | intro _

theorem State.repair_keep {l : Nat} (h : covers 0xc2000004000000000000000000000000000000 l) {s : State} {u : State} (k : Keep l s u) (a0) (a1) :
    Keep l s (State.repair a0 a1 u) := by
  unfold State.repair
  with_reducible repeat' first
    | assumption
    | exact covers_trans (by decide) h
    | apply keep_ite
    | apply State.request_keep
    | split
    | dsimp only
    | intro _

theorem execScrubRewrite_keep {l : Nat} (h : covers 0x40000000090048c2000004000000000000000000000000000000 l) {s : State} {u : State} (k : Keep l s u) (a0) :
    KeepR l s (execScrubRewrite a0 u) := by
  have b206 := covers_bit (i := 206) h (by decide)
  unfold execScrubRewrite
  with_reducible repeat' first
    | assumption
    | exact covers_trans (by decide) h
    | apply keep_ite
    | apply keepR_ite
    | (intro x; simp only [ScrubS.blank, b206, if_true]; done)
    | (intro x; (try dsimp only); (repeat' split) <;> (simp only [ScrubS.blank, b206, if_true]; done))
    | refine State.modScr_keep ?_ ?_
    | apply State.countSenses_keep
    | apply State.refrSync_keep
    | apply State.repair_keep
    | apply KeepR.next
    | split
    | dsimp only
    | intro _

theorem State.persistCursor_keep {l : Nat} (h : covers 0x2200000000000000000000100000000000000000000000000000000000000000000000000000 l) {s : State} {u : State} (k : Keep l s u) (a0) :
    Keep l s (State.persistCursor a0 u) := by
  unfold State.persistCursor
  with_reducible repeat' first
    | assumption
    | exact covers_trans (by decide) h
    | apply keep_ite
    | apply State.storeWrite_keep
    | apply State.modRebuild_keep
    | split
    | dsimp only
    | intro _

theorem State.rebuildDone_keep {l : Nat} (h : covers 0x4430008eca200000000000000002000100000000000000000000000001800000000000000000000000000 l) {s : State} {u : State} (k : Keep l s u) (a0) :
    Keep l s (State.rebuildDone a0 u) := by
  unfold State.rebuildDone
  with_reducible repeat' first
    | assumption
    | exact covers_trans (by decide) h
    | apply keep_ite
    | apply State.storeWrite_keep
    | apply State.boundSync_keep
    | apply State.modUnit_keep
    | apply State.modRebuild_keep
    | split
    | dsimp only
    | intro _

theorem State.rebuildTract_keep {l : Nat} (h : covers 0x4430008eca200000000000000f71ef010600000000b0048d7018004001c00000000000000040000100000 l) {s : State} {u : State} (k : Keep l s u) (a0) (a1) :
    Keep l s (State.rebuildTract a0 a1 u) := by
  unfold State.rebuildTract
  with_reducible repeat' first
    | assumption
    | exact covers_trans (by decide) h
    | apply keep_ite
    | refine forEach_keep (fun _ _ _ => ?_) ?_ _
    | apply State.clearDie_keep
    | apply State.modRebuild_keep
    | apply State.rebuildRow_keep
    | split
    | dsimp only
    | intro _

theorem execRebuildStep_keep {l : Nat} (h : covers 0x4430008eca200000000000000f73ef030600000000b0048d7018004001c00000000000000040000100000 l) {s : State} {u : State} (k : Keep l s u) (a0) (a1) :
    KeepR l s (execRebuildStep a0 a1 u) := by
  unfold execRebuildStep
  with_reducible repeat' first
    | assumption
    | exact covers_trans (by decide) h
    | apply keep_ite
    | apply keepR_ite
    | refine forEach_keep (fun _ _ _ => ?_) ?_ _
    | apply State.engineCount_keep
    | apply State.modRebuild_keep
    | apply State.persistCursor_keep
    | apply State.rebuildDone_keep
    | apply State.rebuildTract_keep
    | apply KeepR.next
    | split
    | dsimp only
    | intro _

theorem execScrubDpaPass_keep {l : Nat} (h : covers 0x4430008eca200000000000000000000080000000000000000000000000800000000000000000000033c00 l) {s : State} {u : State} (k : Keep l s u) (a0) (a1) (a2) (a3) :
    KeepR l s (execScrubDpaPass a0 a1 a2 a3 u) := by
  unfold execScrubDpaPass
  with_reducible repeat' first
    | assumption
    | exact covers_trans (by decide) h
    | apply keep_ite
    | apply keepR_ite
    | apply guarded_keep
    | apply accessed_keep
    | apply respondAccess_keep
    | apply State.scrubOp_keep
    | apply KeepR.next
    | split
    | dsimp only
    | intro _

theorem State.rowSensed_keep {l : Nat} (h : covers 0x6000000009004804000000000000000000000000000000000000 l) {s : State} {u : State} (k : Keep l s u) (a0) (a1) (a2) :
    Keep l s (State.rowSensed a0 a1 a2 u) := by
  unfold State.rowSensed
  with_reducible repeat' first
    | assumption
    | exact covers_trans (by decide) h
    | apply keep_ite
    | refine forEach_keep (fun _ _ _ => ?_) ?_ _
    | apply State.sqSeen_keep
    | apply State.countSenses_keep
    | split
    | dsimp only
    | intro _

theorem State.dataLost_keep {l : Nat} (h : covers 0x4430008eca200000000000000f71ef000000080418e00f8df81b80ca01c00000000000000040000100000 l) {s : State} {u : State} (k : Keep l s u) (a0) (a1) (a2) :
    Keep l s (State.dataLost a0 a1 a2 u) := by
  unfold State.dataLost
  with_reducible repeat' first
    | assumption
    | exact covers_trans (by decide) h
    | apply keep_ite
    | apply State.loseTracts_keep
    | apply State.poisonLine_keep
    | apply State.repair_keep
    | split
    | dsimp only
    | intro _

theorem State.lineGone_keep {l : Nat} (h : covers 0x4430008eca200000000000000f71ef000000080418e00f8df81b80ca01c00000000000000040000100000 l) {s : State} {u : State} (k : Keep l s u) (a0) (a1) (a2) :
    Keep l s (State.lineGone a0 a1 a2 u) := by
  unfold State.lineGone
  with_reducible repeat' first
    | assumption
    | exact covers_trans (by decide) h
    | apply keep_ite
    | apply State.dataLost_keep
    | split
    | dsimp only
    | intro _

theorem State.lineLost_keep {l : Nat} (h : covers 0x4430008eca200000000000000f71ef000000080418e00f8df81b80ca01c00000000000000040000100000 l) {s : State} {u : State} (k : Keep l s u) (a0) (a1) (a2) (a3) :
    Keep l s (State.lineLost a0 a1 a2 a3 u) := by
  unfold State.lineLost
  with_reducible repeat' first
    | assumption
    | exact covers_trans (by decide) h
    | apply keep_ite
    | apply State.report_keep
    | apply State.lineGone_keep
    | split
    | dsimp only
    | intro _

theorem State.repairRow_keep {l : Nat} (h : covers 0x4430008eca200000000000000f71ef040800080418e00f8df81b80ca01c00000000000000040000100000 l) {s : State} {u : State} (k : Keep l s u) (a0) (a1) (a2) (a3) :
    Keep l s (State.repairRow a0 a1 a2 a3 u) := by
  have b207 := covers_bit (i := 207) h (by decide)
  have b214 := covers_bit (i := 214) h (by decide)
  unfold State.repairRow
  with_reducible repeat' first
    | assumption
    | exact covers_trans (by decide) h
    | apply keep_ite
    | (intro x; simp only [ScrubS.blank, b207, b214, if_true]; done)
    | (intro x; (try dsimp only); (repeat' split) <;> (simp only [ScrubS.blank, b207, b214, if_true]; done))
    | refine State.modScr_keep ?_ ?_
    | refine forEach_keep (fun _ _ _ => ?_) ?_ _
    | apply State.report_keep
    | apply State.request_keep
    | apply State.repair_keep
    | apply State.lineLost_keep
    | split
    | dsimp only
    | intro _

theorem State.visitRow_keep {l : Nat} (h : covers 0x4430008eca200000000000000f71ef068e00080418f00f8df81b80ca01c00000000000000040000100000 l) {s : State} {u : State} (k : Keep l s u) (a0) (a1) :
    Keep l s (State.visitRow a0 a1 u) := by
  unfold State.visitRow
  with_reducible repeat' first
    | assumption
    | exact covers_trans (by decide) h
    | apply keep_ite
    | apply State.engineCount_keep
    | apply State.modPass_keep
    | apply State.rowSensed_keep
    | apply State.repairRow_keep
    | split
    | dsimp only
    | intro _

theorem execScrubRow_keep {l : Nat} (h : covers 0x4430008eca200000000000000f71ef068e00080418f00f8df81b80ca01c00000000000000040000120400 l) {s : State} {u : State} (k : Keep l s u) (a0) (a1) :
    KeepR l s (execScrubRow a0 a1 u) := by
  unfold execScrubRow
  with_reducible repeat' first
    | assumption
    | exact covers_trans (by decide) h
    | apply keep_ite
    | apply keepR_ite
    | apply State.endPass_keep
    | apply State.visitRow_keep
    | apply KeepR.next
    | split
    | dsimp only
    | intro _

theorem execPatrolRow_keep {l : Nat} (h : covers 0x4430008eca200000000000000f71ef064e00080418f00f8df81b80ca01c00000000000000040000100000 l) {s : State} {u : State} (k : Keep l s u) (a0) (a1) (a2) :
    KeepR l s (execPatrolRow a0 a1 a2 u) := by
  have b205 := covers_bit (i := 205) h (by decide)
  have b210 := covers_bit (i := 210) h (by decide)
  unfold execPatrolRow
  with_reducible repeat' first
    | assumption
    | exact covers_trans (by decide) h
    | apply keep_ite
    | apply keepR_ite
    | (intro x; simp only [ScrubS.blank, b205, b210, if_true]; done)
    | (intro x; (try dsimp only); (repeat' split) <;> (simp only [ScrubS.blank, b205, b210, if_true]; done))
    | refine State.modScr_keep ?_ ?_
    | apply State.engineCount_keep
    | apply State.rowSensed_keep
    | apply State.repairRow_keep
    | apply KeepR.next
    | split
    | dsimp only
    | intro _

theorem State.halfZeroed_keep {l : Nat} (h : covers 0x4430008eca200000000000000f71ef800000083418e00f8df018004001c00000000000000040000100000 l) {s : State} {u : State} (k : Keep l s u) (a0) :
    Keep l s (State.halfZeroed a0 u) := by
  have b185 := covers_bit (i := 185) h (by decide)
  unfold State.halfZeroed
  with_reducible repeat' first
    | assumption
    | exact covers_trans (by decide) h
    | apply keep_ite
    | (intro x; simp only [IntegS.blank, b185, if_true]; done)
    | (intro x; (try dsimp only); (repeat' split) <;> (simp only [IntegS.blank, b185, if_true]; done))
    | refine State.modItg_keep ?_ ?_
    | refine forEach_keep (fun _ _ _ => ?_) ?_ _
    | apply State.loseTracts_keep
    | apply State.putNode_keep
    | apply State.climbOne_keep
    | split
    | dsimp only
    | intro _

theorem State.rootMismatch_keep {l : Nat} (h : covers 0x4430008eca200000000000008f71ef0000000a00000000000018000001c00000000000000040000100000 l) {s : State} {u : State} (k : Keep l s u)  :
    Keep l s (State.rootMismatch u) := by
  have b189 := covers_bit (i := 189) h (by decide)
  have b191 := covers_bit (i := 191) h (by decide)
  have b243 := covers_bit (i := 243) h (by decide)
  unfold State.rootMismatch
  with_reducible repeat' first
    | assumption
    | exact covers_trans (by decide) h
    | apply keep_ite
    | (intro x; simp only [IntegS.blank, StartS.blank, b189, b191, b243, if_true]; done)
    | (intro x; (try dsimp only); (repeat' split) <;> (simp only [IntegS.blank, StartS.blank, b189, b191, b243, if_true]; done))
    | refine State.modItg_keep ?_ ?_
    | refine State.modStr_keep ?_ ?_
    | apply State.report_keep
    | apply State.security_keep
    | split
    | dsimp only
    | intro _

theorem State.rootUnverified_keep {l : Nat} (h : covers 0x4430008eca200000000000088f71ef0000000600000000000018000001c00000000000000040000100000 l) {s : State} {u : State} (k : Keep l s u)  :
    Keep l s (State.rootUnverified u) := by
  have b189 := covers_bit (i := 189) h (by decide)
  have b243 := covers_bit (i := 243) h (by decide)
  unfold State.rootUnverified
  with_reducible repeat' first
    | assumption
    | exact covers_trans (by decide) h
    | apply keep_ite
    | (intro x; simp only [StartS.blank, IntegS.blank, b189, b243, if_true]; done)
    | (intro x; (try dsimp only); (repeat' split) <;> (simp only [StartS.blank, IntegS.blank, b189, b243, if_true]; done))
    | refine State.modStr_keep ?_ ?_
    | refine State.modItg_keep ?_ ?_
    | apply State.adoptRoot_keep
    | split
    | dsimp only
    | intro _

theorem execRootRebuildComplete_keep {l : Nat} (h : covers 0x4430008eca200000000004088f71ef8000000e3418e00f8df018004001c00000000000000040000100000 l) {s : State} {u : State} (k : Keep l s u) (a0) (a1) (a2) :
    KeepR l s (execRootRebuildComplete a0 a1 a2 u) := by
  have b189 := covers_bit (i := 189) h (by decide)
  have b247 := covers_bit (i := 247) h (by decide)
  have b254 := covers_bit (i := 254) h (by decide)
  unfold execRootRebuildComplete
  with_reducible repeat' first
    | assumption
    | exact covers_trans (by decide) h
    | apply keep_ite
    | apply keepR_ite
    | (intro x; simp only [StartS.blank, IntegS.blank, b189, b247, b254, if_true]; done)
    | (intro x; (try dsimp only); (repeat' split) <;> (simp only [StartS.blank, IntegS.blank, b189, b247, b254, if_true]; done))
    | refine State.modStr_keep ?_ ?_
    | refine State.modItg_keep ?_ ?_
    | refine forEach_keep (fun _ _ _ => ?_) ?_ _
    | apply State.halfZeroed_keep
    | apply State.rootMismatch_keep
    | apply State.rootUnverified_keep
    | apply KeepR.next
    | split
    | dsimp only
    | intro _

end Sys2Proof.Machine
end

