-- ==== Sys2Proof/Laws/KeepUnits.lean ====
section
/-! SUPPORT. What every operation and meaning keeps (boot, fencing, extents, Logbook, store, Cox, images): outside the fields that it lists, the state after is the state before. -/

set_option Elab.async false

set_option linter.unusedTactic false
set_option linter.unreachableTactic false
set_option linter.unnecessarySeqFocus false
set_option linter.unusedSimpArgs false

namespace Sys2Proof.Machine

theorem State.restorePinned_keep {l : Nat} (h : covers 0x10000000000000000000000000000000000000000000000 l) {s : State} {u : State} (k : Keep l s u) (a0) (a1) :
    Keep l s (State.restorePinned a0 a1 u) := by
  have b184 := covers_bit (i := 184) h (by decide)
  unfold State.restorePinned
  with_reducible repeat' first
    | assumption
    | exact covers_trans (by decide) h
    | apply keep_ite
    | (intro x; simp only [IntegS.blank, b184, if_true]; done)
    | (intro x; (try dsimp only); (repeat' split) <;> (simp only [IntegS.blank, b184, if_true]; done))
    | refine State.modItg_keep ?_ ?_
    | split
    | dsimp only
    | intro _

theorem State.restoreBand_keep {l : Nat} (h : covers 0x10000000000000000000000000000000000000000000000 l) {s : State} {u : State} (k : Keep l s u) (a0) :
    Keep l s (State.restoreBand a0 u) := by
  unfold State.restoreBand
  with_reducible repeat' first
    | assumption
    | exact covers_trans (by decide) h
    | apply keep_ite
    | refine forEach_keep (fun _ _ _ => ?_) ?_ _
    | apply State.restorePinned_keep
    | split
    | dsimp only
    | intro _

theorem State.mediaBack_keep {l : Nat} (h : covers 0x4430008eca200000000000004f000f0000000000000000000018000001c00000000000000050000120400 l) {s : State} {u : State} (k : Keep l s u)  :
    Keep l s (State.mediaBack u) := by
  have b20 := covers_bit (i := 20) h (by decide)
  have b40 := covers_bit (i := 40) h (by decide)
  have b236 := covers_bit (i := 236) h (by decide)
  unfold State.mediaBack
  with_reducible repeat' first
    | assumption
    | exact covers_trans (by decide) h
    | apply keep_ite
    | (intro x; simp only [PowerS.blank, EasyS.blank, b20, b40, b236, if_true]; done)
    | (intro x; (try dsimp only); (repeat' split) <;> (simp only [PowerS.blank, EasyS.blank, b20, b40, b236, if_true]; done))
    | refine State.modPwr_keep ?_ ?_
    | refine State.modEasy_keep ?_ ?_
    | apply State.easyCheck_keep
    | split
    | dsimp only
    | intro _

theorem State.startTime_keep {l : Nat} (h : covers 0x4000000000000000000000000000000000000000000000000000000000000000 l) {s : State} {u : State} (k : Keep l s u) (a0) :
    Keep l s (State.startTime a0 u) := by
  have b254 := covers_bit (i := 254) h (by decide)
  unfold State.startTime
  with_reducible repeat' first
    | assumption
    | exact covers_trans (by decide) h
    | apply keep_ite
    | (intro x; simp only [StartS.blank, b254, if_true]; done)
    | (intro x; (try dsimp only); (repeat' split) <;> (simp only [StartS.blank, b254, if_true]; done))
    | refine State.modStr_keep ?_ ?_
    | split
    | dsimp only
    | intro _

theorem State.replayLedger_keep {l : Nat} (h : covers 0x78000000000000000000000000000000 l) {s : State} {u : State} (k : Keep l s u)  :
    Keep l s (State.replayLedger u) := by
  have b123 := covers_bit (i := 123) h (by decide)
  have b124 := covers_bit (i := 124) h (by decide)
  have b125 := covers_bit (i := 125) h (by decide)
  have b126 := covers_bit (i := 126) h (by decide)
  unfold State.replayLedger
  with_reducible repeat' first
    | assumption
    | exact covers_trans (by decide) h
    | apply keep_ite
    | (intro x; simp only [WbS.blank, b123, b124, b125, b126, if_true]; done)
    | (intro x; (try dsimp only); (repeat' split) <;> (simp only [WbS.blank, b123, b124, b125, b126, if_true]; done))
    | refine State.modWb_keep ?_ ?_
    | split
    | dsimp only
    | intro _

theorem State.loadMaps_keep {l : Nat} (h : covers 0x4430008eca200000000000000f71ef000000000411f01c818018000001c00000000000000040000100000 l) {s : State} {u : State} (k : Keep l s u)  :
    Keep l s (State.loadMaps u) := by
  have b148 := covers_bit (i := 148) h (by decide)
  have b155 := covers_bit (i := 155) h (by decide)
  have b158 := covers_bit (i := 158) h (by decide)
  have b159 := covers_bit (i := 159) h (by decide)
  have b160 := covers_bit (i := 160) h (by decide)
  have b168 := covers_bit (i := 168) h (by decide)
  have b169 := covers_bit (i := 169) h (by decide)
  have b171 := covers_bit (i := 171) h (by decide)
  have b172 := covers_bit (i := 172) h (by decide)
  unfold State.loadMaps
  with_reducible repeat' first
    | assumption
    | exact covers_trans (by decide) h
    | apply keep_ite
    | (intro x; simp only [TractS.blank, MediaS.blank, b148, b155, b158, b159, b160, b168, b169, b171, b172, if_true]; done)
    | (intro x; (try dsimp only); (repeat' split) <;> (simp only [TractS.blank, MediaS.blank, b148, b155, b158, b159, b160, b168, b169, b171, b172, if_true]; done))
    | refine State.modTrc_keep ?_ ?_
    | refine State.modMed_keep ?_ ?_
    | refine forEach_keep (fun _ _ _ => ?_) ?_ _
    | apply State.freeTract_keep
    | split
    | dsimp only
    | intro _

theorem State.markSuspects_keep {l : Nat} (h : covers 0x2007805000000000000000000000000000000000000 l) {s : State} {u : State} (k : Keep l s u)  :
    Keep l s (State.markSuspects u) := by
  unfold State.markSuspects
  with_reducible repeat' first
    | assumption
    | exact covers_trans (by decide) h
    | apply keep_ite
    | refine forEach_keep (fun _ _ _ => ?_) ?_ _
    | apply State.putEntry_keep
    | split
    | dsimp only
    | intro _

theorem State.mapLoad_keep {l : Nat} (h : covers 0x4430008eca200000000004068f71ef000000000411f01f81d618078001c00000000000000040000100000 l) {s : State} {u : State} (k : Keep l s u)  :
    Keep l s (State.mapLoad u) := by
  have b141 := covers_bit (i := 141) h (by decide)
  have b142 := covers_bit (i := 142) h (by decide)
  have b243 := covers_bit (i := 243) h (by decide)
  have b245 := covers_bit (i := 245) h (by decide)
  have b246 := covers_bit (i := 246) h (by decide)
  unfold State.mapLoad
  with_reducible repeat' first
    | assumption
    | exact covers_trans (by decide) h
    | apply keep_ite
    | (intro x; simp only [StartS.blank, WbS.blank, b141, b142, b243, b245, b246, if_true]; done)
    | (intro x; (try dsimp only); (repeat' split) <;> (simp only [StartS.blank, WbS.blank, b141, b142, b243, b245, b246, if_true]; done))
    | refine State.modStr_keep ?_ ?_
    | refine State.modWb_keep ?_ ?_
    | apply State.storeWrite_keep
    | apply State.startTime_keep
    | apply State.replayLedger_keep
    | apply State.loadMaps_keep
    | apply State.markSuspects_keep
    | split
    | dsimp only
    | intro _

theorem State.mapStep_keep {l : Nat} (h : covers 0x4430008eca20000000000406cf71ef000000000411f01f81d618078001c00000000000000050000120400 l) {s : State} {u : State} (k : Keep l s u)  :
    Keep l s (State.mapStep u) := by
  unfold State.mapStep
  with_reducible repeat' first
    | assumption
    | exact covers_trans (by decide) h
    | apply keep_ite
    | apply State.mediaBack_keep
    | apply State.mapLoad_keep
    | split
    | dsimp only
    | intro _

theorem State.cutOptions_keep {l : Nat} (h : covers 0x4430008eca200c00000000000000000000000000000000000000000000000000000000000000000020400 l) {s : State} {u : State} (k : Keep l s u)  :
    Keep l s (State.cutOptions u) := by
  have b286 := covers_bit (i := 286) h (by decide)
  have b287 := covers_bit (i := 287) h (by decide)
  unfold State.cutOptions
  with_reducible repeat' first
    | assumption
    | exact covers_trans (by decide) h
    | apply keep_ite
    | (intro x; simp only [FlashS.blank, b286, b287, if_true]; done)
    | (intro x; (try dsimp only); (repeat' split) <;> (simp only [FlashS.blank, b286, b287, if_true]; done))
    | refine State.modFls_keep ?_ ?_
    | apply State.ticketDone_keep
    | split
    | dsimp only
    | intro _

theorem State.modImage_keep {l : Nat} (h : covers 0x3000000000000000000000000000000000000000000000000000000000000000000000000 l) {s : State} {u : State} (k : Keep l s u) (a0) (a1) :
    Keep l s (State.modImage a0 a1 u) := by
  have b288 := covers_bit (i := 288) h (by decide)
  have b289 := covers_bit (i := 289) h (by decide)
  unfold State.modImage
  with_reducible repeat' first
    | assumption
    | exact covers_trans (by decide) h
    | apply keep_ite
    | (intro x; simp only [ImagesS.blank, b288, b289, if_true]; done)
    | (intro x; (try dsimp only); (repeat' split) <;> (simp only [ImagesS.blank, b288, b289, if_true]; done))
    | refine State.modImg_keep ?_ ?_
    | split
    | dsimp only
    | intro _

theorem State.cutImage_keep {l : Nat} (h : covers 0x4430008eca243000000000000000000000000000000000000000000000000000000000000000000020400 l) {s : State} {u : State} (k : Keep l s u) (a0) :
    Keep l s (State.cutImage a0 u) := by
  have b294 := covers_bit (i := 294) h (by decide)
  unfold State.cutImage
  with_reducible repeat' first
    | assumption
    | exact covers_trans (by decide) h
    | apply keep_ite
    | (intro x; simp only [ImagesS.blank, b294, if_true]; done)
    | (intro x; (try dsimp only); (repeat' split) <;> (simp only [ImagesS.blank, b294, if_true]; done))
    | refine State.modImg_keep ?_ ?_
    | apply State.ticketDone_keep
    | apply State.modImage_keep
    | split
    | dsimp only
    | intro _

theorem State.flashReset_keep {l : Nat} (h : covers 0x7d000000000000000000000000000000000000000000000000000000000000000000000 l) {s : State} {u : State} (k : Keep l s u)  :
    Keep l s (State.flashReset u) := by
  have b276 := covers_bit (i := 276) h (by decide)
  have b278 := covers_bit (i := 278) h (by decide)
  have b279 := covers_bit (i := 279) h (by decide)
  have b280 := covers_bit (i := 280) h (by decide)
  have b281 := covers_bit (i := 281) h (by decide)
  have b282 := covers_bit (i := 282) h (by decide)
  unfold State.flashReset
  with_reducible repeat' first
    | assumption
    | exact covers_trans (by decide) h
    | apply keep_ite
    | (intro x; simp only [FlashS.blank, b276, b278, b279, b280, b281, b282, if_true]; done)
    | (intro x; (try dsimp only); (repeat' split) <;> (simp only [FlashS.blank, b276, b278, b279, b280, b281, b282, if_true]; done))
    | refine State.modFls_keep ?_ ?_
    | split
    | dsimp only
    | intro _

theorem State.cutFlash_keep {l : Nat} (h : covers 0x4430008eca243c7d000000000000000000000000000000000000000000000000000000000000000020400 l) {s : State} {u : State} (k : Keep l s u)  :
    Keep l s (State.cutFlash u) := by
  unfold State.cutFlash
  with_reducible repeat' first
    | assumption
    | exact covers_trans (by decide) h
    | apply keep_ite
    | apply State.cutOptions_keep
    | apply State.cutImage_keep
    | apply State.flashReset_keep
    | split
    | dsimp only
    | intro _

theorem State.coxReset_keep {l : Nat} (h : covers 0x54b8008eca243c7dfffff00c8000000000000000000000000000000003000000000000000000000034400 l) {s : State} {u : State} (k : Keep l s u)  :
    Keep l s (State.coxReset u) := by
  have b14 := covers_bit (i := 14) h (by decide)
  have b16 := covers_bit (i := 16) h (by decide)
  have b109 := covers_bit (i := 109) h (by decide)
  have b243 := covers_bit (i := 243) h (by decide)
  have b246 := covers_bit (i := 246) h (by decide)
  have b247 := covers_bit (i := 247) h (by decide)
  have b256 := covers_bit (i := 256) h (by decide)
  have b257 := covers_bit (i := 257) h (by decide)
  have b258 := covers_bit (i := 258) h (by decide)
  have b259 := covers_bit (i := 259) h (by decide)
  have b260 := covers_bit (i := 260) h (by decide)
  have b261 := covers_bit (i := 261) h (by decide)
  have b262 := covers_bit (i := 262) h (by decide)
  have b263 := covers_bit (i := 263) h (by decide)
  have b264 := covers_bit (i := 264) h (by decide)
  have b265 := covers_bit (i := 265) h (by decide)
  have b266 := covers_bit (i := 266) h (by decide)
  have b267 := covers_bit (i := 267) h (by decide)
  have b268 := covers_bit (i := 268) h (by decide)
  have b269 := covers_bit (i := 269) h (by decide)
  have b270 := covers_bit (i := 270) h (by decide)
  have b271 := covers_bit (i := 271) h (by decide)
  have b272 := covers_bit (i := 272) h (by decide)
  have b273 := covers_bit (i := 273) h (by decide)
  have b274 := covers_bit (i := 274) h (by decide)
  have b275 := covers_bit (i := 275) h (by decide)
  have b327 := covers_bit (i := 327) h (by decide)
  have b331 := covers_bit (i := 331) h (by decide)
  have b334 := covers_bit (i := 334) h (by decide)
  have b336 := covers_bit (i := 336) h (by decide)
  unfold State.coxReset
  with_reducible repeat' first
    | assumption
    | exact covers_trans (by decide) h
    | apply keep_ite
    | (intro x; simp only [CoxS.blank, WopS.blank, ObjS.blank, ExtS.blank, StartS.blank, b14, b16, b109, b243, b246, b247, b256, b257, b258, b259, b260, b261, b262, b263, b264, b265, b266, b267, b268, b269, b270, b271, b272, b273, b274, b275, b327, b331, b334, b336, CoxS.invalidated, if_true]; done)
    | (intro x; (try dsimp only); (repeat' split) <;> (simp only [CoxS.blank, WopS.blank, ObjS.blank, ExtS.blank, StartS.blank, b14, b16, b109, b243, b246, b247, b256, b257, b258, b259, b260, b261, b262, b263, b264, b265, b266, b267, b268, b269, b270, b271, b272, b273, b274, b275, b327, b331, b334, b336, CoxS.invalidated, if_true]; done))
    | refine State.modCox_keep ?_ ?_
    | refine State.modWop_keep ?_ ?_
    | refine State.modObj_keep ?_ ?_
    | refine State.modExt_keep ?_ ?_
    | refine State.modStr_keep ?_ ?_
    | refine forEach_keep (fun _ _ _ => ?_) ?_ _
    | apply State.modHead_keep
    | apply State.cutFlash_keep
    | split
    | dsimp only
    | intro _

theorem State.restartInto_keep {l : Nat} (h : covers 0x54b8008eca243c7dfffff00c8000000000000000000000000000000003000000000000000000000034400 l) {s : State} {u : State} (k : Keep l s u)  :
    Keep l s (State.restartInto u) := by
  have b272 := covers_bit (i := 272) h (by decide)
  unfold State.restartInto
  with_reducible repeat' first
    | assumption
    | exact covers_trans (by decide) h
    | apply keep_ite
    | (intro x; simp only [CoxS.blank, b272, if_true]; done)
    | (intro x; (try dsimp only); (repeat' split) <;> (simp only [CoxS.blank, b272, if_true]; done))
    | refine State.modCox_keep ?_ ?_
    | apply State.coxReset_keep
    | split
    | dsimp only
    | intro _

theorem State.eraseAhead_keep {l : Nat} (h : covers 0x8010000100000000000000000000000000000000000000000000000000000000000000000000000 l) {s : State} {u : State} (k : Keep l s u)  :
    Keep l s (State.eraseAhead u) := by
  have b284 := covers_bit (i := 284) h (by decide)
  have b304 := covers_bit (i := 304) h (by decide)
  have b315 := covers_bit (i := 315) h (by decide)
  unfold State.eraseAhead
  with_reducible repeat' first
    | assumption
    | exact covers_trans (by decide) h
    | apply keep_ite
    | (intro x; simp only [FlashS.blank, LogS.blank, b284, b304, b315, if_true]; done)
    | (intro x; (try dsimp only); (repeat' split) <;> (simp only [FlashS.blank, LogS.blank, b284, b304, b315, if_true]; done))
    | refine State.modFls_keep ?_ ?_
    | refine State.modLog_keep ?_ ?_
    | split
    | dsimp only
    | intro _

theorem State.writeOutOne_keep {l : Nat} (h : covers 0x8138000100000000000000000000000000000000000000000000000000000000000000000000000 l) {s : State} {u : State} (k : Keep l s u)  :
    Keep l s (State.writeOutOne u) := by
  have b284 := covers_bit (i := 284) h (by decide)
  have b303 := covers_bit (i := 303) h (by decide)
  have b304 := covers_bit (i := 304) h (by decide)
  have b305 := covers_bit (i := 305) h (by decide)
  have b308 := covers_bit (i := 308) h (by decide)
  have b315 := covers_bit (i := 315) h (by decide)
  unfold State.writeOutOne
  with_reducible repeat' first
    | assumption
    | exact covers_trans (by decide) h
    | apply keep_ite
    | (intro x; simp only [LogS.blank, FlashS.blank, b284, b303, b304, b305, b308, b315, if_true]; done)
    | (intro x; (try dsimp only); (repeat' split) <;> (simp only [LogS.blank, FlashS.blank, b284, b303, b304, b305, b308, b315, if_true]; done))
    | refine State.modLog_keep ?_ ?_
    | refine State.modFls_keep ?_ ?_
    | apply State.eraseAhead_keep
    | split
    | dsimp only
    | intro _

theorem State.writeOut_keep {l : Nat} (h : covers 0x8138000100000000000000000000000000000000000000000000000000000000000000000000000 l) {s : State} {u : State} (k : Keep l s u) (a0) :
    Keep l s (State.writeOut a0 u) := by
  induction a0 generalizing u  with
  | zero =>
    unfold State.writeOut
    with_reducible repeat' first
      | assumption
      | exact covers_trans (by decide) h
      | apply keep_ite
      | apply State.writeOutOne_keep
      | split
      | dsimp only
      | intro _
  | succ _ ih =>
    unfold State.writeOut
    with_reducible repeat' first
      | assumption
      | exact covers_trans (by decide) h
      | apply keep_ite
      | apply State.writeOutOne_keep
      | refine ih ?_
      | split
      | dsimp only
      | intro _

theorem State.writeOutSome_keep {l : Nat} (h : covers 0x8000008138000100000000000000000000000000000000000000000000000000000000000000000000000 l) {s : State} {u : State} (k : Keep l s u) (a0) :
    Keep l s (State.writeOutSome a0 u) := by
  unfold State.writeOutSome
  with_reducible repeat' first
    | assumption
    | exact covers_trans (by decide) h
    | apply keep_ite
    | apply State.draw_keep
    | refine snd_of_eq ‹State.draw _ = _› (State.draw_keep ?_ ?_)
    | apply State.writeOut_keep
    | split
    | dsimp only
    | intro _

theorem State.selectActive_keep {l : Nat} (h : covers 0x4430008eca227000000030000f71ef0000000000000000000018000001c00000000000000040000100000 l) {s : State} {u : State} (k : Keep l s u) (a0) :
    Keep l s (State.selectActive a0 u) := by
  have b256 := covers_bit (i := 256) h (by decide)
  have b257 := covers_bit (i := 257) h (by decide)
  have b290 := covers_bit (i := 290) h (by decide)
  have b293 := covers_bit (i := 293) h (by decide)
  unfold State.selectActive
  with_reducible repeat' first
    | assumption
    | exact covers_trans (by decide) h
    | apply keep_ite
    | (intro x; simp only [CoxS.blank, ImagesS.blank, b256, b257, b290, b293, if_true]; done)
    | (intro x; (try dsimp only); (repeat' split) <;> (simp only [CoxS.blank, ImagesS.blank, b256, b257, b290, b293, if_true]; done))
    | refine State.modCox_keep ?_ ?_
    | refine State.modImg_keep ?_ ?_
    | apply State.storeWrite_keep
    | apply State.report_keep
    | apply State.modImage_keep
    | split
    | dsimp only
    | intro _

theorem State.startQuiet_keep {l : Nat} (h : covers 0x2000000000000000000000000000000000000000000000000000000000 l) {s : State} {u : State} (k : Keep l s u) (a0) :
    Keep l s (State.startQuiet a0 u) := by
  unfold State.startQuiet
  with_reducible repeat' first
    | assumption
    | exact covers_trans (by decide) h
    | apply keep_ite
    | apply State.modUnit_keep
    | split
    | dsimp only
    | intro _

theorem State.verdict_keep {l : Nat} (h : covers 0x4430008eca200000000000000f71ef0000000000000000000038000001c00000000000000040000100000 l) {s : State} {u : State} (k : Keep l s u) (a0) :
    Keep l s (State.verdict a0 u) := by
  have b137 := covers_bit (i := 137) h (by decide)
  unfold State.verdict
  with_reducible repeat' first
    | assumption
    | exact covers_trans (by decide) h
    | apply keep_ite
    | (intro x; simp only [WbS.blank, b137, if_true]; done)
    | (intro x; (try dsimp only); (repeat' split) <;> (simp only [WbS.blank, b137, if_true]; done))
    | refine State.modWb_keep ?_ ?_
    | apply State.report_keep
    | split
    | dsimp only
    | intro _

theorem State.rebuildSync_keep {l : Nat} (h : covers 0x100000000000000000000000000000000000000000000000000000 l) {s : State} {u : State} (k : Keep l s u) (a0) :
    Keep l s (State.rebuildSync a0 u) := by
  unfold State.rebuildSync
  with_reducible repeat' first
    | assumption
    | exact covers_trans (by decide) h
    | apply keep_ite
    | apply State.modRebuild_keep
    | split
    | dsimp only
    | intro _

theorem State.rebuildFence_keep {l : Nat} (h : covers 0x2200000000000000000000100000000000000000000000000000000000000000000000000000 l) {s : State} {u : State} (k : Keep l s u) (a0) (a1) :
    Keep l s (State.rebuildFence a0 a1 u) := by
  unfold State.rebuildFence
  with_reducible repeat' first
    | assumption
    | exact covers_trans (by decide) h
    | apply keep_ite
    | apply State.storeWrite_keep
    | apply State.modRebuild_keep
    | apply State.rebuildSync_keep
    | split
    | dsimp only
    | intro _

theorem State.stacksOff_keep {l : Nat} (h : covers 0x40000000000 l) {s : State} {u : State} (k : Keep l s u) (a0) :
    Keep l s (State.stacksOff a0 u) := by
  unfold State.stacksOff
  with_reducible repeat' first
    | assumption
    | exact covers_trans (by decide) h
    | apply keep_ite
    | refine forEach_keep (fun _ _ _ => ?_) ?_ _
    | apply State.modDomain_keep
    | split
    | dsimp only
    | intro _

theorem State.lostReads_keep {l : Nat} (h : covers 0x4430008eca200000000000000f71ef000700384419e00f8df018004081c00000000000000040000100000 l) {s : State} {u : State} (k : Keep l s u) (a0) :
    Keep l s (State.lostReads a0 u) := by
  unfold State.lostReads
  with_reducible repeat' first
    | assumption
    | exact covers_trans (by decide) h
    | apply keep_ite
    | refine forEach_keep (fun _ _ _ => ?_) ?_ _
    | apply State.waitedRead_keep
    | split
    | dsimp only
    | intro _

theorem State.fenceDie_keep {l : Nat} (h : covers 0xc430008eca200000000000000f71ef00070038441de00f8ff018005081c00000000000000040000100000 l) {s : State} {u : State} (k : Keep l s u) (a0) :
    Keep l s (State.fenceDie a0 u) := by
  unfold State.fenceDie
  with_reducible repeat' first
    | assumption
    | exact covers_trans (by decide) h
    | apply keep_ite
    | apply State.migSync_keep
    | apply State.lostReads_keep
    | apply State.dropDie_keep
    | split
    | dsimp only
    | intro _

theorem State.pairLost_keep {l : Nat} (h : covers 0x2007805023800800400000000000000000000000000 l) {s : State} {u : State} (k : Keep l s u) (a0) :
    Keep l s (State.pairLost a0 u) := by
  have b119 := covers_bit (i := 119) h (by decide)
  have b137 := covers_bit (i := 137) h (by decide)
  unfold State.pairLost
  with_reducible repeat' first
    | assumption
    | exact covers_trans (by decide) h
    | apply keep_ite
    | (intro x; simp only [WbS.blank, b119, b137, if_true]; done)
    | (intro x; (try dsimp only); (repeat' split) <;> (simp only [WbS.blank, b119, b137, if_true]; done))
    | refine State.modWb_keep ?_ ?_
    | refine forEach_keep (fun _ _ _ => ?_) ?_ _
    | apply State.putEntry_keep
    | apply State.bufferSync_keep
    | split
    | dsimp only
    | intro _

theorem State.fencePart_keep {l : Nat} (h : covers 0x7000000040002007805063800800400000000000000000000000000 l) {s : State} {u : State} (k : Keep l s u) (a0) :
    Keep l s (State.fencePart a0 u) := by
  have b138 := covers_bit (i := 138) h (by decide)
  have b186 := covers_bit (i := 186) h (by decide)
  have b216 := covers_bit (i := 216) h (by decide)
  have b217 := covers_bit (i := 217) h (by decide)
  have b218 := covers_bit (i := 218) h (by decide)
  unfold State.fencePart
  with_reducible repeat' first
    | assumption
    | exact covers_trans (by decide) h
    | apply keep_ite
    | (intro x; simp only [WbS.blank, IntegS.blank, StagingS.blank, b138, b186, b216, b217, b218, if_true]; done)
    | (intro x; (try dsimp only); (repeat' split) <;> (simp only [WbS.blank, IntegS.blank, StagingS.blank, b138, b186, b216, b217, b218, if_true]; done))
    | refine State.modWb_keep ?_ ?_
    | refine State.modItg_keep ?_ ?_
    | refine State.modStg_keep ?_ ?_
    | apply State.pairLost_keep
    | split
    | dsimp only
    | intro _

theorem State.fenceEngine_keep {l : Nat} (h : covers 0x4430008eca200000000000000f71ef018000000418e00f8df018004001c00000000000000040000120400 l) {s : State} {u : State} (k : Keep l s u) (a0) :
    Keep l s (State.fenceEngine a0 u) := by
  unfold State.fenceEngine
  with_reducible repeat' first
    | assumption
    | exact covers_trans (by decide) h
    | apply keep_ite
    | refine forEach_keep (fun _ _ _ => ?_) ?_ _
    | apply State.stopPasses_keep
    | apply State.rebuildSync_keep
    | apply State.abandon_keep
    | split
    | dsimp only
    | intro _

theorem State.fenceT1s_keep {l : Nat} (h : covers 0x54b8008eca200000000000000000000000000000000000000000000000000000000000000000000004000 l) {s : State} {u : State} (k : Keep l s u)  :
    Keep l s (State.fenceT1s u) := by
  have b327 := covers_bit (i := 327) h (by decide)
  have b331 := covers_bit (i := 331) h (by decide)
  unfold State.fenceT1s
  with_reducible repeat' first
    | assumption
    | exact covers_trans (by decide) h
    | apply keep_ite
    | (intro x; simp only [WopS.blank, b327, b331, if_true]; done)
    | (intro x; (try dsimp only); (repeat' split) <;> (simp only [WopS.blank, b327, b331, if_true]; done))
    | refine State.modWop_keep ?_ ?_
    | refine forEach_keep (fun _ _ _ => ?_) ?_ _
    | apply State.closeSess_keep
    | split
    | dsimp only
    | intro _

theorem State.fenceEffects_keep {l : Nat} (h : covers 0xd4b8008eca20000000000406cf71ef71870038441df01f8ff67b87d881c00000000000000050000124400 l) {s : State} {u : State} (k : Keep l s u) (a0) :
    Keep l s (State.fenceEffects a0 u) := by
  unfold State.fenceEffects
  with_reducible repeat' first
    | assumption
    | exact covers_trans (by decide) h
    | apply keep_ite
    | refine forEach_keep (fun _ _ _ => ?_) ?_ _
    | apply State.boundSync_keep
    | apply State.modChannel_keep
    | apply State.mapStep_keep
    | apply State.linksSync_keep
    | apply State.rebuildFence_keep
    | apply State.stacksOff_keep
    | apply State.fenceMigrations_keep
    | apply State.fenceDie_keep
    | apply State.fencePart_keep
    | apply State.fenceEngine_keep
    | apply State.fenceT1s_keep
    | split
    | dsimp only
    | intro _

theorem State.startProbe_keep {l : Nat} (h : covers 0x2000800000000000000000000000000000000000000000040000000000 l) {s : State} {u : State} (k : Keep l s u) (a0) :
    Keep l s (State.startProbe a0 u) := by
  unfold State.startProbe
  with_reducible repeat' first
    | assumption
    | exact covers_trans (by decide) h
    | apply keep_ite
    | refine forEach_keep (fun _ _ _ => ?_) ?_ _
    | apply State.modDomain_keep
    | apply State.modUnit_keep
    | apply State.modSram_keep
    | split
    | dsimp only
    | intro _

theorem State.probeWaiting_keep {l : Nat} (h : covers 0x2000800000000000000000000000000000000000000000040000000000 l) {s : State} {u : State} (k : Keep l s u)  :
    Keep l s (State.probeWaiting u) := by
  unfold State.probeWaiting
  with_reducible repeat' first
    | assumption
    | exact covers_trans (by decide) h
    | apply keep_ite
    | refine forEach_keep (fun _ _ _ => ?_) ?_ _
    | apply State.startProbe_keep
    | split
    | dsimp only
    | intro _

theorem State.cmdDone_keep {l : Nat} (h : covers 0x4430008eca200000000000000080000000000000000000000000000000000000000000000000000020400 l) {s : State} {u : State} (k : Keep l s u) (a0) (a1) :
    Keep l s (State.cmdDone a0 a1 u) := by
  have b235 := covers_bit (i := 235) h (by decide)
  unfold State.cmdDone
  with_reducible repeat' first
    | assumption
    | exact covers_trans (by decide) h
    | apply keep_ite
    | (intro x; simp only [FaultS.blank, b235, if_true]; done)
    | (intro x; (try dsimp only); (repeat' split) <;> (simp only [FaultS.blank, b235, if_true]; done))
    | refine State.modFlt_keep ?_ ?_
    | apply State.ticketDone_keep
    | split
    | dsimp only
    | intro _

theorem State.probeStopped_keep {l : Nat} (h : covers 0x4000000000000000000000000000000000000000000040000000000 l) {s : State} {u : State} (k : Keep l s u) (a0) :
    Keep l s (State.probeStopped a0 u) := by
  have b218 := covers_bit (i := 218) h (by decide)
  unfold State.probeStopped
  with_reducible repeat' first
    | assumption
    | exact covers_trans (by decide) h
    | apply keep_ite
    | (intro x; simp only [StagingS.blank, b218, if_true]; done)
    | (intro x; (try dsimp only); (repeat' split) <;> (simp only [StagingS.blank, b218, if_true]; done))
    | refine State.modStg_keep ?_ ?_
    | apply State.stacksOff_keep
    | split
    | dsimp only
    | intro _

theorem State.reactionFence_keep {l : Nat} (h : covers 0xd4b8008eca20000000000406cffbef79870038441df01f8ff67b87d881c00000000000000050000124400 l) {s : State} {u : State} (k : Keep l s u) (a0) :
    Keep l s (State.reactionFence a0 u) := by
  have b231 := covers_bit (i := 231) h (by decide)
  unfold State.reactionFence
  with_reducible repeat' first
    | assumption
    | exact covers_trans (by decide) h
    | apply keep_ite
    | (intro x; simp only [FaultS.blank, b231, if_true]; done)
    | (intro x; (try dsimp only); (repeat' split) <;> (simp only [FaultS.blank, b231, if_true]; done))
    | refine State.modFlt_keep ?_ ?_
    | apply State.boundSync_keep
    | apply State.modUnit_keep
    | apply State.startQuiet_keep
    | apply State.verdict_keep
    | apply State.fenceEffects_keep
    | apply State.probeWaiting_keep
    | apply State.cmdDone_keep
    | apply State.probeStopped_keep
    | split
    | dsimp only
    | intro _

theorem State.react_keep {l : Nat} (h : covers 0xd4b8008eca20000000000406dffbef79870038441df01f8ff67b87d881c00000000000000050000124400 l) {s : State} {u : State} (k : Keep l s u) (a0) :
    Keep l s (State.react a0 u) := by
  have b240 := covers_bit (i := 240) h (by decide)
  unfold State.react
  with_reducible repeat' first
    | assumption
    | exact covers_trans (by decide) h
    | apply keep_ite
    | (intro x; simp only [EasyS.blank, b240, if_true]; done)
    | (intro x; (try dsimp only); (repeat' split) <;> (simp only [EasyS.blank, b240, if_true]; done))
    | refine State.modEasy_keep ?_ ?_
    | apply State.easyEnter_keep
    | apply State.fatal_keep
    | apply State.startQuiet_keep
    | apply State.reactionFence_keep
    | split
    | dsimp only
    | intro _

theorem State.commitOp_keep {l : Nat} (h : covers 0x4430008eca203100000000000000000000000000000000000000000000000000000000000000000023c00 l) {s : State} {u : State} (k : Keep l s u) (a0) (a1) :
    Keep l s (State.commitOp a0 a1 u).2.2 := by
  have b284 := covers_bit (i := 284) h (by decide)
  unfold State.commitOp
  with_reducible repeat' first
    | assumption
    | exact covers_trans (by decide) h
    | apply keep_ite
    | apply keep_ite_acc
    | (intro x; simp only [FlashS.blank, b284, if_true]; done)
    | (intro x; (try dsimp only); (repeat' split) <;> (simp only [FlashS.blank, b284, if_true]; done))
    | refine State.modFls_keep ?_ ?_
    | apply State.ticketDone_keep
    | apply State.modImage_keep
    | apply State.answer_keep
    | apply State.deferred_keep
    | split
    | dsimp only
    | intro _

theorem execUpdateCommit_keep {l : Nat} (h : covers 0x4430008eca203100000000000000000000000000000000000000000000800000000000000000000033c00 l) {s : State} {u : State} (k : Keep l s u) (a0) (a1) (a2) :
    KeepR l s (execUpdateCommit a0 a1 a2 u) := by
  unfold execUpdateCommit
  with_reducible repeat' first
    | assumption
    | exact covers_trans (by decide) h
    | apply keep_ite
    | apply keepR_ite
    | apply guarded_keep
    | apply accessed_keep
    | apply respondAccess_keep
    | apply State.commitOp_keep
    | apply KeepR.next
    | split
    | dsimp only
    | intro _

theorem State.latchReleaseOp_keep {l : Nat} (h : covers 0x4430008eca200000000000000002000000000000000000000000000000000000000000000000000023c00 l) {s : State} {u : State} (k : Keep l s u) (a0) (a1) :
    Keep l s (State.latchReleaseOp a0 a1 u).2.2 := by
  unfold State.latchReleaseOp
  with_reducible repeat' first
    | assumption
    | exact covers_trans (by decide) h
    | apply keep_ite
    | apply keep_ite_acc
    | apply State.storeWrite_keep
    | apply State.ticketDone_keep
    | apply State.modUnit_keep
    | apply State.startQuiet_keep
    | apply State.answer_keep
    | apply State.deferred_keep
    | split
    | dsimp only
    | intro _

theorem State.journal_keep {l : Nat} (h : covers 0x100000000000000000000000000000000000000000020000000000000000000000000000 l) {s : State} {u : State} (k : Keep l s u)  :
    Keep l s (State.journal u) := by
  have b113 := covers_bit (i := 113) h (by decide)
  have b284 := covers_bit (i := 284) h (by decide)
  unfold State.journal
  with_reducible repeat' first
    | assumption
    | exact covers_trans (by decide) h
    | apply keep_ite
    | (intro x; simp only [FlashS.blank, ExtS.blank, b113, b284, if_true]; done)
    | (intro x; (try dsimp only); (repeat' split) <;> (simp only [FlashS.blank, ExtS.blank, b113, b284, if_true]; done))
    | refine State.modFls_keep ?_ ?_
    | refine State.modExt_keep ?_ ?_
    | split
    | dsimp only
    | intro _

theorem State.movePair_keep {l : Nat} (h : covers 0x4430008eca200100000000000000000000000000000000000000000023800000000000000000000000000 l) {s : State} {u : State} (k : Keep l s u) (a0) (a1) (a2) (a3) :
    Keep l s (State.movePair a0 a1 a2 a3 u) := by
  unfold State.movePair
  with_reducible repeat' first
    | assumption
    | exact covers_trans (by decide) h
    | apply keep_ite
    | apply State.headEvent_keep
    | apply State.journal_keep
    | apply State.modPair_keep
    | split
    | dsimp only
    | intro _

theorem State.releasePair_keep {l : Nat} (h : covers 0x4430008eca200100000000000000000000000000000000000000000023800000000000000000000000000 l) {s : State} {u : State} (k : Keep l s u) (a0) (a1) (a2) :
    Keep l s (State.releasePair a0 a1 a2 u).2 := by
  unfold State.releasePair
  with_reducible repeat' first
    | assumption
    | exact covers_trans (by decide) h
    | apply keep_ite
    | apply keep_ite_snd
    | apply State.cxlEvent_keep
    | apply State.movePair_keep
    | split
    | dsimp only
    | intro _

theorem State.releaseExtent_keep {l : Nat} (h : covers 0x4430008eca200100000000000000000000000000000000000000000023800000000000000000000000000 l) {s : State} {u : State} (k : Keep l s u) (a0) (a1) (a2) :
    Keep l s (State.releaseExtent a0 a1 a2 u).2 := by
  induction a2 generalizing u a0 a1 with
  | nil =>
    unfold State.releaseExtent
    with_reducible repeat' first
      | assumption
      | exact covers_trans (by decide) h
      | apply keep_ite
      | apply keep_ite_snd
      | apply State.releasePair_keep
      | refine snd_of_eq ‹State.releasePair _ _ _ _ = _› (State.releasePair_keep ?_ ?_ _ _ _)
      | split
      | dsimp only
      | intro _
  | cons _ _ ih =>
    unfold State.releaseExtent
    with_reducible repeat' first
      | assumption
      | exact covers_trans (by decide) h
      | apply keep_ite
      | apply keep_ite_snd
      | apply State.releasePair_keep
      | refine snd_of_eq ‹State.releasePair _ _ _ _ = _› (State.releasePair_keep ?_ ?_ _ _ _)
      | refine ih ?_ _ _
      | split
      | dsimp only
      | intro _

theorem State.optionFailed_keep {l : Nat} (h : covers 0x4430008eca200600000000000000000000000000000000000000000000000000000000000000000020400 l) {s : State} {u : State} (k : Keep l s u)  :
    Keep l s (State.optionFailed u) := by
  have b285 := covers_bit (i := 285) h (by decide)
  have b286 := covers_bit (i := 286) h (by decide)
  unfold State.optionFailed
  with_reducible repeat' first
    | assumption
    | exact covers_trans (by decide) h
    | apply keep_ite
    | (intro x; simp only [FlashS.blank, b285, b286, if_true]; done)
    | (intro x; (try dsimp only); (repeat' split) <;> (simp only [FlashS.blank, b285, b286, if_true]; done))
    | refine State.modFls_keep ?_ ?_
    | apply State.ticketDone_keep
    | split
    | dsimp only
    | intro _

theorem State.frontWrite_keep {l : Nat} (h : covers 0x200000000000000000000000000000000000000000000000000000000000000000000000000 l) {s : State} {u : State} (k : Keep l s u) (a0) :
    Keep l s (State.frontWrite a0 u) := by
  have b297 := covers_bit (i := 297) h (by decide)
  unfold State.frontWrite
  with_reducible repeat' first
    | assumption
    | exact covers_trans (by decide) h
    | apply keep_ite
    | (intro x; simp only [ParamS.blank, b297, if_true]; done)
    | (intro x; (try dsimp only); (repeat' split) <;> (simp only [ParamS.blank, b297, if_true]; done))
    | refine State.modPar_keep ?_ ?_
    | split
    | dsimp only
    | intro _

theorem State.pageFailed_keep {l : Nat} (h : covers 0x4430008ecbe00000000000000f71ef0000000000000000000018000001c00000000000000040000100000 l) {s : State} {u : State} (k : Keep l s u) (a0) :
    Keep l s (State.pageFailed a0 u) := by
  have b298 := covers_bit (i := 298) h (by decide)
  have b299 := covers_bit (i := 299) h (by decide)
  have b300 := covers_bit (i := 300) h (by decide)
  unfold State.pageFailed
  with_reducible repeat' first
    | assumption
    | exact covers_trans (by decide) h
    | apply keep_ite
    | (intro x; simp only [ParamS.blank, b298, b299, b300, if_true]; done)
    | (intro x; (try dsimp only); (repeat' split) <;> (simp only [ParamS.blank, b298, b299, b300, if_true]; done))
    | refine State.modPar_keep ?_ ?_
    | apply State.when_keep
    | apply State.storeWrite_keep
    | apply State.report_keep
    | apply State.frontWrite_keep
    | split
    | dsimp only
    | intro _

theorem State.fireOp_keep {l : Nat} (h : covers 0x4430008eca200000000000000000000000000000000000000000000000000000000000000000000000000 l) {s : State} {u : State} (k : Keep l s u) (a0) (a1) :
    Keep l s (State.fireOp a0 a1 u).2.2 := by
  unfold State.fireOp
  with_reducible repeat' first
    | assumption
    | exact covers_trans (by decide) h
    | apply keep_ite
    | apply keep_ite_acc
    | apply State.manage_keep
    | apply State.fire_keep
    | apply State.answer_keep
    | split
    | dsimp only
    | intro _

theorem execSnapshotNow_keep {l : Nat} (h : covers 0x4430008eca200000000000000000000000000000000000000000000000800000000000000000000030400 l) {s : State} {u : State} (k : Keep l s u) (a0) :
    KeepR l s (execSnapshotNow a0 u) := by
  unfold execSnapshotNow
  with_reducible repeat' first
    | assumption
    | exact covers_trans (by decide) h
    | apply keep_ite
    | apply keepR_ite
    | apply accessed_keep
    | apply respondAccess_keep
    | apply State.fireOp_keep
    | apply KeepR.next
    | split
    | dsimp only
    | intro _

theorem State.runUnit_keep {l : Nat} (h : covers 0x4430008eca200000000000000f71ef030038000430600c0ff01b80d809c00000000000000040000120400 l) {s : State} {u : State} (k : Keep l s u) (a0) :
    Keep l s (State.runUnit a0 u) := by
  have b145 := covers_bit (i := 145) h (by decide)
  unfold State.runUnit
  with_reducible repeat' first
    | assumption
    | exact covers_trans (by decide) h
    | apply keep_ite
    | (intro x; simp only [MediaS.blank, b145, if_true]; done)
    | (intro x; (try dsimp only); (repeat' split) <;> (simp only [MediaS.blank, b145, if_true]; done))
    | refine State.modMed_keep ?_ ?_
    | refine forEach_keep (fun _ _ _ => ?_) ?_ _
    | apply State.modPlane_keep
    | apply State.completeOp_keep
    | apply State.endGrant_keep
    | apply State.release_keep
    | apply State.finishUnit_keep
    | split
    | dsimp only
    | intro _

theorem State.runUnits_keep {l : Nat} (h : covers 0x4430008eca200000000000000f71ef030038000430600c0ff01b80d809c00000000000000040000120400 l) {s : State} {u : State} (k : Keep l s u) (a0) :
    Keep l s (State.runUnits a0 u) := by
  unfold State.runUnits
  with_reducible repeat' first
    | assumption
    | exact covers_trans (by decide) h
    | apply keep_ite
    | refine forEach_keep (fun _ _ _ => ?_) ?_ _
    | apply State.runUnit_keep
    | split
    | dsimp only
    | intro _

theorem State.sanitizeExtent_keep {l : Nat} (h : covers 0x4430008eca200000000000000f71ef8300b801fc3ae00f8ff81b80da09c00000000000000040000120400 l) {s : State} {u : State} (k : Keep l s u) (a0) :
    Keep l s (State.sanitizeExtent a0 u) := by
  unfold State.sanitizeExtent
  with_reducible repeat' first
    | assumption
    | exact covers_trans (by decide) h
    | apply keep_ite
    | apply State.zeroExtent_keep
    | apply State.runUnits_keep
    | split
    | dsimp only
    | intro _

theorem State.hostSanitize_keep {l : Nat} (h : covers 0x4430008eca200000000000000f71ef8300b801fc3ae00f8ff81b80da09c00000000000000040000120400 l) {s : State} {u : State} (k : Keep l s u) (a0) (a1) :
    Keep l s (State.hostSanitize a0 a1 u) := by
  unfold State.hostSanitize
  with_reducible repeat' first
    | assumption
    | exact covers_trans (by decide) h
    | apply keep_ite
    | refine forEach_keep (fun _ _ _ => ?_) ?_ _
    | apply State.mbReturn_keep
    | apply State.sanitizeExtent_keep
    | split
    | dsimp only
    | intro _

theorem State.adopt_keep {l : Nat} (h : covers 0x2200000000000000000000000000000802407805000000000000000000000000000000000000 l) {s : State} {u : State} (k : Keep l s u) (a0) (a1) :
    Keep l s (State.adopt a0 a1 u) := by
  have b179 := covers_bit (i := 179) h (by decide)
  unfold State.adopt
  with_reducible repeat' first
    | assumption
    | exact covers_trans (by decide) h
    | apply keep_ite
    | (intro x; simp only [TractS.blank, b179, if_true]; done)
    | (intro x; (try dsimp only); (repeat' split) <;> (simp only [TractS.blank, b179, if_true]; done))
    | refine State.modTrc_keep ?_ ?_
    | apply State.when_keep
    | apply State.modActivity_keep
    | apply State.putEntry_keep
    | apply State.zeroReads_keep
    | apply State.putDirectory_keep
    | split
    | dsimp only
    | intro _

theorem State.adoptClaim_keep {l : Nat} (h : covers 0x4430008eca200000000000000f71ef0000000000802407805018000001c00000000000000040000100000 l) {s : State} {u : State} (k : Keep l s u) (a0) (a1) :
    Keep l s (State.adoptClaim a0 a1 u) := by
  unfold State.adoptClaim
  with_reducible repeat' first
    | assumption
    | exact covers_trans (by decide) h
    | apply keep_ite
    | apply State.when_keep
    | apply State.report_keep
    | apply State.putEntry_keep
    | apply State.adopt_keep
    | split
    | dsimp only
    | intro _

theorem State.wipe_keep {l : Nat} (h : covers 0x2000005000000000000000000000000000000000000 l) {s : State} {u : State} (k : Keep l s u) (a0) :
    Keep l s (State.wipe a0 u) := by
  unfold State.wipe
  with_reducible repeat' first
    | assumption
    | exact covers_trans (by decide) h
    | apply keep_ite
    | refine forEach_keep (fun _ _ _ => ?_) ?_ _
    | apply State.modDie_keep
    | apply State.wear_keep
    | apply State.putGranule_keep
    | split
    | dsimp only
    | intro _

theorem State.dropClaims_keep {l : Nat} (h : covers 0x4430008eca200000000000000f71ef000000000490600800d018000001c00000000000000040000100000 l) {s : State} {u : State} (k : Keep l s u) (a0) :
    Keep l s (State.dropClaims a0 u) := by
  have b179 := covers_bit (i := 179) h (by decide)
  unfold State.dropClaims
  with_reducible repeat' first
    | assumption
    | exact covers_trans (by decide) h
    | apply keep_ite
    | (intro x; simp only [TractS.blank, b179, if_true]; done)
    | (intro x; (try dsimp only); (repeat' split) <;> (simp only [TractS.blank, b179, if_true]; done))
    | refine State.modTrc_keep ?_ ?_
    | refine forEach_keep (fun _ _ _ => ?_) ?_ _
    | apply State.freeTract_keep
    | apply State.wipe_keep
    | split
    | dsimp only
    | intro _

theorem State.repairTorn_keep {l : Nat} (h : covers 0x802007805000000000000000000000000000000000000 l) {s : State} {u : State} (k : Keep l s u) (a0) :
    Keep l s (State.repairTorn a0 u) := by
  have b179 := covers_bit (i := 179) h (by decide)
  unfold State.repairTorn
  with_reducible repeat' first
    | assumption
    | exact covers_trans (by decide) h
    | apply keep_ite
    | (intro x; simp only [TractS.blank, b179, if_true]; done)
    | (intro x; (try dsimp only); (repeat' split) <;> (simp only [TractS.blank, b179, if_true]; done))
    | refine State.modTrc_keep ?_ ?_
    | refine forEach_keep (fun _ _ _ => ?_) ?_ _
    | apply State.programNow_keep
    | apply State.putEntry_keep
    | split
    | dsimp only
    | intro _

theorem State.rereadBlocks_keep {l : Nat} (h : covers 0x8000000038002007805000000000000000000000000000000000000 l) {s : State} {u : State} (k : Keep l s u) (a0) :
    Keep l s (State.rereadBlocks a0 u) := by
  unfold State.rereadBlocks
  with_reducible repeat' first
    | assumption
    | exact covers_trans (by decide) h
    | apply keep_ite
    | refine forEach_keep (fun _ _ _ => ?_) ?_ _
    | apply State.putEntry_keep
    | apply State.setBlock_keep
    | split
    | dsimp only
    | intro _

theorem State.reparity_keep {l : Nat} (h : covers 0x2004005000000000000000000000000000000000000 l) {s : State} {u : State} (k : Keep l s u) (a0) (a1) (a2) :
    Keep l s (State.reparity a0 a1 a2 u) := by
  unfold State.reparity
  with_reducible repeat' first
    | assumption
    | exact covers_trans (by decide) h
    | apply keep_ite
    | apply State.programNow_keep
    | split
    | dsimp only
    | intro _

theorem State.fullScan_keep {l : Nat} (h : covers 0x4430008eca200000000000000f71ef800000003c906fff80d018000001c00000000000000040000100000 l) {s : State} {u : State} (k : Keep l s u) (a0) :
    Keep l s (State.fullScan a0 u) := by
  have b160 := covers_bit (i := 160) h (by decide)
  have b167 := covers_bit (i := 167) h (by decide)
  unfold State.fullScan
  with_reducible repeat' first
    | assumption
    | exact covers_trans (by decide) h
    | apply keep_ite
    | (intro x; simp only [TractS.blank, b160, b167, if_true]; done)
    | (intro x; (try dsimp only); (repeat' split) <;> (simp only [TractS.blank, b160, b167, if_true]; done))
    | refine State.modTrc_keep ?_ ?_
    | refine forEach_keep (fun _ _ _ => ?_) ?_ _
    | apply State.wearWriteback_keep
    | apply State.adoptClaim_keep
    | apply State.dropClaims_keep
    | apply State.repairTorn_keep
    | apply State.rereadBlocks_keep
    | apply State.reparity_keep
    | split
    | dsimp only
    | intro _

theorem State.releaseAll_keep {l : Nat} (h : covers 0x4430008eca200100000000000000000000000000000000000000000023800000000000000000000000000 l) {s : State} {u : State} (k : Keep l s u) (a0) (a1) (a2) :
    Keep l s (State.releaseAll a0 a1 a2 u).2 := by
  induction a2 generalizing u a0 a1 with
  | nil =>
    unfold State.releaseAll
    with_reducible repeat' first
      | assumption
      | exact covers_trans (by decide) h
      | apply keep_ite
      | apply keep_ite_snd
      | apply State.releaseExtent_keep
      | refine snd_of_eq ‹State.releaseExtent _ _ _ _ = _› (State.releaseExtent_keep ?_ ?_ _ _ _)
      | split
      | dsimp only
      | intro _
  | cons _ _ ih =>
    unfold State.releaseAll
    with_reducible repeat' first
      | assumption
      | exact covers_trans (by decide) h
      | apply keep_ite
      | apply keep_ite_snd
      | apply State.releaseExtent_keep
      | refine snd_of_eq ‹State.releaseExtent _ _ _ _ = _› (State.releaseExtent_keep ?_ ?_ _ _ _)
      | refine ih ?_ _ _
      | split
      | dsimp only
      | intro _

theorem State.releaseOp_keep {l : Nat} (h : covers 0x4430008eca200100000000000000000000000000000000000000000023800000000000000000000023c00 l) {s : State} {u : State} (k : Keep l s u) (a0) (a1) (a2) (a3) (a4) :
    Keep l s (State.releaseOp a0 a1 a2 a3 a4 u).2.2 := by
  unfold State.releaseOp
  with_reducible repeat' first
    | assumption
    | exact covers_trans (by decide) h
    | apply keep_ite
    | apply keep_ite_acc
    | apply State.ticketDone_keep
    | apply State.answer_keep
    | apply State.deferred_keep
    | apply State.releaseAll_keep
    | refine snd_of_eq ‹State.releaseAll _ _ _ _ = _› (State.releaseAll_keep ?_ ?_ _ _ _)
    | split
    | dsimp only
    | intro _

theorem execExtentReleaseForced_keep {l : Nat} (h : covers 0x4430008eca200100000000000000000000000000000000000000000023800000000000000000000033c00 l) {s : State} {u : State} (k : Keep l s u) (a0) (a1) (a2) (a3) :
    KeepR l s (execExtentReleaseForced a0 a1 a2 a3 u) := by
  unfold execExtentReleaseForced
  with_reducible repeat' first
    | assumption
    | exact covers_trans (by decide) h
    | apply keep_ite
    | apply keepR_ite
    | apply guarded_keep
    | apply accessed_keep
    | apply respondAccess_keep
    | apply State.releaseOp_keep
    | apply KeepR.next
    | split
    | dsimp only
    | intro _

theorem State.capacityList_keep {l : Nat} (h : covers 0x4000000000000000000000000000000000000000000000000000000000800000000000000000000000000 l) {s : State} {u : State} (k : Keep l s u) (a0) :
    Keep l s (State.capacityList a0 u) := by
  unfold State.capacityList
  with_reducible repeat' first
    | assumption
    | exact covers_trans (by decide) h
    | apply keep_ite
    | apply State.mbReturn_keep
    | split
    | dsimp only
    | intro _

theorem State.coreCheckFailed_keep {l : Nat} (h : covers 0x4430008eca200000000000000f71ef0030000000000000000018000001c00000000000000040000100000 l) {s : State} {u : State} (k : Keep l s u) (a0) (a1) :
    Keep l s (State.coreCheckFailed a0 a1 u) := by
  have b208 := covers_bit (i := 208) h (by decide)
  have b209 := covers_bit (i := 209) h (by decide)
  unfold State.coreCheckFailed
  with_reducible repeat' first
    | assumption
    | exact covers_trans (by decide) h
    | apply keep_ite
    | (intro x; simp only [ScrubS.blank, b208, b209, if_true]; done)
    | (intro x; (try dsimp only); (repeat' split) <;> (simp only [ScrubS.blank, b208, b209, if_true]; done))
    | refine State.modScr_keep ?_ ?_
    | apply State.report_keep
    | split
    | dsimp only
    | intro _

theorem State.capacityRelease_keep {l : Nat} (h : covers 0x4430008eca200100000000000000000000000000000000000000000023800000000000000000000000000 l) {s : State} {u : State} (k : Keep l s u) (a0) (a1) :
    Keep l s (State.capacityRelease a0 a1 u) := by
  unfold State.capacityRelease
  with_reducible repeat' first
    | assumption
    | exact covers_trans (by decide) h
    | apply keep_ite
    | apply State.movePair_keep
    | apply State.mbReturn_keep
    | split
    | dsimp only
    | intro _

theorem State.offerTo_keep {l : Nat} (h : covers 0x4430008eca200100000000000000000000000000000000000000000023800000000000000000000000000 l) {s : State} {u : State} (k : Keep l s u) (a0) (a1) :
    Keep l s (State.offerTo a0 a1 u) := by
  unfold State.offerTo
  with_reducible repeat' first
    | assumption
    | exact covers_trans (by decide) h
    | apply keep_ite
    | refine forEach_keep (fun _ _ _ => ?_) ?_ _
    | apply State.cxlEvent_keep
    | apply State.movePair_keep
    | split
    | dsimp only
    | intro _

theorem State.offerNow_keep {l : Nat} (h : covers 0x4430008eca200100000000000000000000000000000000000000000037800000000000000000000020400 l) {s : State} {u : State} (k : Keep l s u) (a0) (a1) (a2) (a3) (a4) :
    Keep l s (State.offerNow a0 a1 a2 a3 a4 u) := by
  have b112 := covers_bit (i := 112) h (by decide)
  unfold State.offerNow
  with_reducible repeat' first
    | assumption
    | exact covers_trans (by decide) h
    | apply keep_ite
    | (intro x; simp only [ExtS.blank, b112, if_true]; done)
    | (intro x; (try dsimp only); (repeat' split) <;> (simp only [ExtS.blank, b112, if_true]; done))
    | refine State.modExt_keep ?_ ?_
    | refine forEach_keep (fun _ _ _ => ?_) ?_ _
    | apply State.ticketDone_keep
    | apply State.offerTo_keep
    | apply State.modExtent_keep
    | split
    | dsimp only
    | intro _

theorem State.probeFailed_keep {l : Nat} (h : covers 0x4430008eca200000000000000ff3ef4000000000000000000018000001c00000000000000040000120400 l) {s : State} {u : State} (k : Keep l s u) (a0) :
    Keep l s (State.probeFailed a0 u) := by
  unfold State.probeFailed
  with_reducible repeat' first
    | assumption
    | exact covers_trans (by decide) h
    | apply keep_ite
    | apply State.boundSync_keep
    | apply State.report_keep
    | apply State.modUnit_keep
    | apply State.startQuiet_keep
    | apply State.cmdDone_keep
    | apply State.probeStopped_keep
    | split
    | dsimp only
    | intro _

theorem State.driveHalt_keep {l : Nat} (h : covers 0x100000000000 l) {s : State} {u : State} (k : Keep l s u) (a0) :
    Keep l s (State.driveHalt a0 u) := by
  have b44 := covers_bit (i := 44) h (by decide)
  unfold State.driveHalt
  with_reducible repeat' first
    | assumption
    | exact covers_trans (by decide) h
    | apply keep_ite
    | (intro x; simp only [PowerS.blank, b44, if_true]; done)
    | (intro x; (try dsimp only); (repeat' split) <;> (simp only [PowerS.blank, b44, if_true]; done))
    | refine State.modPwr_keep ?_ ?_
    | split
    | dsimp only
    | intro _

theorem State.flashSuspendNow_keep {l : Nat} (h : covers 0x15000000000000000000000000000000000000000000000000000000000000000000000 l) {s : State} {u : State} (k : Keep l s u)  :
    Keep l s (State.flashSuspendNow u) := by
  have b276 := covers_bit (i := 276) h (by decide)
  have b278 := covers_bit (i := 278) h (by decide)
  have b280 := covers_bit (i := 280) h (by decide)
  unfold State.flashSuspendNow
  with_reducible repeat' first
    | assumption
    | exact covers_trans (by decide) h
    | apply keep_ite
    | (intro x; simp only [FlashS.blank, b276, b278, b280, if_true]; done)
    | (intro x; (try dsimp only); (repeat' split) <;> (simp only [FlashS.blank, b276, b278, b280, if_true]; done))
    | refine State.modFls_keep ?_ ?_
    | split
    | dsimp only
    | intro _

theorem State.flashStart_keep {l : Nat} (h : covers 0xf3000000000000000000000000000000000000000000000000000000000000000000000 l) {s : State} {u : State} (k : Keep l s u) (a0) :
    Keep l s (State.flashStart a0 u) := by
  have b276 := covers_bit (i := 276) h (by decide)
  have b277 := covers_bit (i := 277) h (by decide)
  have b280 := covers_bit (i := 280) h (by decide)
  have b281 := covers_bit (i := 281) h (by decide)
  have b282 := covers_bit (i := 282) h (by decide)
  have b283 := covers_bit (i := 283) h (by decide)
  unfold State.flashStart
  with_reducible repeat' first
    | assumption
    | exact covers_trans (by decide) h
    | apply keep_ite
    | (intro x; simp only [FlashS.blank, b276, b277, b280, b281, b282, b283, if_true]; done)
    | (intro x; (try dsimp only); (repeat' split) <;> (simp only [FlashS.blank, b276, b277, b280, b281, b282, b283, if_true]; done))
    | refine State.modFls_keep ?_ ?_
    | split
    | dsimp only
    | intro _

theorem State.flashKick_keep {l : Nat} (h : covers 0xf7000000000000000000000000000000000000000000000000000000000000000000000 l) {s : State} {u : State} (k : Keep l s u)  :
    Keep l s (State.flashKick u) := by
  have b276 := covers_bit (i := 276) h (by decide)
  have b277 := covers_bit (i := 277) h (by decide)
  have b278 := covers_bit (i := 278) h (by decide)
  have b281 := covers_bit (i := 281) h (by decide)
  unfold State.flashKick
  with_reducible repeat' first
    | assumption
    | exact covers_trans (by decide) h
    | apply keep_ite
    | (intro x; simp only [FlashS.blank, b276, b277, b278, b281, if_true]; done)
    | (intro x; (try dsimp only); (repeat' split) <;> (simp only [FlashS.blank, b276, b277, b278, b281, if_true]; done))
    | refine State.modFls_keep ?_ ?_
    | apply State.flashSuspendNow_keep
    | apply State.flashStart_keep
    | split
    | dsimp only
    | intro _

theorem State.flashAsk_keep {l : Nat} (h : covers 0xf7000000000000000000000000000000000000000000000000000000000000000000000 l) {s : State} {u : State} (k : Keep l s u) (a0) :
    Keep l s (State.flashAsk a0 u) := by
  have b282 := covers_bit (i := 282) h (by decide)
  unfold State.flashAsk
  with_reducible repeat' first
    | assumption
    | exact covers_trans (by decide) h
    | apply keep_ite
    | (intro x; simp only [FlashS.blank, b282, if_true]; done)
    | (intro x; (try dsimp only); (repeat' split) <;> (simp only [FlashS.blank, b282, if_true]; done))
    | refine State.modFls_keep ?_ ?_
    | apply State.flashKick_keep
    | split
    | dsimp only
    | intro _

theorem State.wearWordLost_keep {l : Nat} (h : covers 0x800000000000000000000000000000000000000000800c000000000000000000000000000000000000000 l) {s : State} {u : State} (k : Keep l s u)  :
    Keep l s (State.wearWordLost u) := by
  unfold State.wearWordLost
  with_reducible repeat' first
    | assumption
    | exact covers_trans (by decide) h
    | apply keep_ite
    | refine forEach_keep (fun _ _ _ => ?_) ?_ _
    | apply State.modActivity_keep
    | apply State.queueMig_keep
    | apply State.draw_keep
    | refine snd_of_eq ‹State.draw _ = _› (State.draw_keep ?_ ?_)
    | apply State.raisePeak_keep
    | split
    | dsimp only
    | intro _

theorem State.readWindow_keep {l : Nat} (h : covers 0x4000 l) {s : State} {u : State} (k : Keep l s u) (a0) :
    Keep l s (State.readWindow a0 u).2 := by
  unfold State.readWindow
  with_reducible repeat' first
    | assumption
    | exact covers_trans (by decide) h
    | apply keep_ite
    | apply keep_ite_snd
    | apply State.setCursor_keep
    | split
    | dsimp only
    | intro _

theorem execWindowRead_keep {l : Nat} (h : covers 0x4000000000000000000000000000000000000000000000000000000000000000000000000000000004000 l) {s : State} {u : State} (k : Keep l s u) (a0) :
    KeepR l s (execWindowRead a0 u) := by
  unfold execWindowRead
  with_reducible repeat' first
    | assumption
    | exact covers_trans (by decide) h
    | apply keep_ite
    | apply keepR_ite
    | apply State.emit_keep
    | apply accessed_keep
    | apply State.readWindow_keep
    | refine snd_of_eq ‹State.readWindow _ _ = _› (State.readWindow_keep ?_ ?_ _)
    | apply KeepR.next
    | split
    | dsimp only
    | intro _

theorem State.imageErased_keep {l : Nat} (h : covers 0x4430008eca2430f7000000000000000000000000000000000000000000000000000000000000000020400 l) {s : State} {u : State} (k : Keep l s u) (a0) :
    Keep l s (State.imageErased a0 u) := by
  have b294 := covers_bit (i := 294) h (by decide)
  unfold State.imageErased
  with_reducible repeat' first
    | assumption
    | exact covers_trans (by decide) h
    | apply keep_ite
    | (intro x; simp only [ImagesS.blank, b294, if_true]; done)
    | (intro x; (try dsimp only); (repeat' split) <;> (simp only [ImagesS.blank, b294, if_true]; done))
    | refine State.modImg_keep ?_ ?_
    | apply State.ticketDone_keep
    | apply State.modImage_keep
    | apply State.flashAsk_keep
    | split
    | dsimp only
    | intro _

theorem State.areaFErased_keep {l : Nat} (h : covers 0x4430009eea2000f7000000000000000000000000000000000000000000000000000000000000000020400 l) {s : State} {u : State} (k : Keep l s u)  :
    Keep l s (State.areaFErased u) := by
  have b305 := covers_bit (i := 305) h (by decide)
  have b312 := covers_bit (i := 312) h (by decide)
  unfold State.areaFErased
  with_reducible repeat' first
    | assumption
    | exact covers_trans (by decide) h
    | apply keep_ite
    | (intro x; simp only [LogS.blank, b305, b312, if_true]; done)
    | (intro x; (try dsimp only); (repeat' split) <;> (simp only [LogS.blank, b305, b312, if_true]; done))
    | refine State.modLog_keep ?_ ?_
    | apply State.record_keep
    | apply State.ticketDone_keep
    | apply State.flashAsk_keep
    | split
    | dsimp only
    | intro _

theorem State.sectorErased_keep {l : Nat} (h : covers 0x4430009eea2430f7000000000000000000000000000000000000000000000000000000000000000020400 l) {s : State} {u : State} (k : Keep l s u) (a0) :
    Keep l s (State.sectorErased a0 u) := by
  unfold State.sectorErased
  with_reducible repeat' first
    | assumption
    | exact covers_trans (by decide) h
    | apply keep_ite
    | apply State.flashAsk_keep
    | apply State.imageErased_keep
    | apply State.areaFErased_keep
    | split
    | dsimp only
    | intro _

theorem execFlashEraseDone_keep {l : Nat} (h : covers 0x4430009eea2433f7000000000000000000000000000000000000000000000000000000000000000020400 l) {s : State} {u : State} (k : Keep l s u) (a0) :
    KeepR l s (execFlashEraseDone a0 u) := by
  have b276 := covers_bit (i := 276) h (by decide)
  have b280 := covers_bit (i := 280) h (by decide)
  have b281 := covers_bit (i := 281) h (by decide)
  have b283 := covers_bit (i := 283) h (by decide)
  have b284 := covers_bit (i := 284) h (by decide)
  have b285 := covers_bit (i := 285) h (by decide)
  unfold execFlashEraseDone
  with_reducible repeat' first
    | assumption
    | exact covers_trans (by decide) h
    | apply keep_ite
    | apply keepR_ite
    | (intro x; simp only [FlashS.blank, b276, b280, b281, b283, b284, b285, if_true]; done)
    | (intro x; (try dsimp only); (repeat' split) <;> (simp only [FlashS.blank, b276, b280, b281, b283, b284, b285, if_true]; done))
    | refine State.modFls_keep ?_ ?_
    | apply State.flashKick_keep
    | apply State.sectorErased_keep
    | apply KeepR.next
    | split
    | dsimp only
    | intro _

theorem State.endTrial_keep {l : Nat} (h : covers 0x4430008eca21b000000000000000000000000000000000000000000000000000000000000000000000000 l) {s : State} {u : State} (k : Keep l s u) (a0) :
    Keep l s (State.endTrial a0 u) := by
  have b291 := covers_bit (i := 291) h (by decide)
  have b292 := covers_bit (i := 292) h (by decide)
  unfold State.endTrial
  with_reducible repeat' first
    | assumption
    | exact covers_trans (by decide) h
    | apply keep_ite
    | (intro x; simp only [ImagesS.blank, b291, b292, if_true]; done)
    | (intro x; (try dsimp only); (repeat' split) <;> (simp only [ImagesS.blank, b291, b292, if_true]; done))
    | refine State.modImg_keep ?_ ?_
    | apply State.storeWrite_keep
    | apply State.manage_keep
    | apply State.modImage_keep
    | split
    | dsimp only
    | intro _

theorem State.selectImage_keep {l : Nat} (h : covers 0x4430008eca23f000000030000f71ef0000000000000000000018000001c00000000000000040000100000 l) {s : State} {u : State} (k : Keep l s u) (a0) :
    Keep l s (State.selectImage a0 u) := by
  have b256 := covers_bit (i := 256) h (by decide)
  have b292 := covers_bit (i := 292) h (by decide)
  have b293 := covers_bit (i := 293) h (by decide)
  unfold State.selectImage
  with_reducible repeat' first
    | assumption
    | exact covers_trans (by decide) h
    | apply keep_ite
    | (intro x; simp only [ImagesS.blank, CoxS.blank, b256, b292, b293, if_true]; done)
    | (intro x; (try dsimp only); (repeat' split) <;> (simp only [ImagesS.blank, CoxS.blank, b256, b292, b293, if_true]; done))
    | refine State.modImg_keep ?_ ?_
    | refine State.modCox_keep ?_ ?_
    | apply State.storeWrite_keep
    | apply State.selectActive_keep
    | apply State.endTrial_keep
    | split
    | dsimp only
    | intro _

theorem State.offerOp_keep {l : Nat} (h : covers 0x4430008eca200100000000000000000000000000000000000000000037800000000000000000000023c00 l) {s : State} {u : State} (k : Keep l s u) (a0) (a1) (a2) (a3) (a4) :
    Keep l s (State.offerOp a0 a1 a2 a3 a4 u).2.2 := by
  unfold State.offerOp
  with_reducible repeat' first
    | assumption
    | exact covers_trans (by decide) h
    | apply keep_ite
    | apply keep_ite_acc
    | apply State.ticketDone_keep
    | apply State.answer_keep
    | apply State.deferred_keep
    | apply State.offerNow_keep
    | split
    | dsimp only
    | intro _

theorem State.setRegion_keep {l : Nat} (h : covers 0x8000000000000000000000000000 l) {s : State} {u : State} (k : Keep l s u) (a0) (a1) :
    Keep l s (State.setRegion a0 a1 u).2 := by
  unfold State.setRegion
  with_reducible repeat' first
    | assumption
    | exact covers_trans (by decide) h
    | apply keep_ite
    | apply keep_ite_snd
    | apply State.modRegion_keep
    | split
    | dsimp only
    | intro _

theorem State.regionOp_keep {l : Nat} (h : covers 0x4430008ece20000000000000000000000000000000000000000000000800000000000000000000000bc00 l) {s : State} {u : State} (k : Keep l s u) (a0) (a1) (a2) :
    Keep l s (State.regionOp a0 a1 a2 u).2.2 := by
  unfold State.regionOp
  with_reducible repeat' first
    | assumption
    | exact covers_trans (by decide) h
    | apply keep_ite
    | apply keep_ite_acc
    | apply State.answer_keep
    | apply State.putRecord_keep
    | apply State.setRegion_keep
    | refine snd_of_eq ‹State.setRegion _ _ _ = _› (State.setRegion_keep ?_ ?_ _ _)
    | split
    | dsimp only
    | intro _

theorem State.hold_keep {l : Nat} (h : covers 0x2000000000000000000000000000000000000000000000000000000000 l) {s : State} {u : State} (k : Keep l s u) (a0) :
    Keep l s (State.hold a0 u) := by
  unfold State.hold
  with_reducible repeat' first
    | assumption
    | exact covers_trans (by decide) h
    | apply keep_ite
    | apply State.modUnit_keep
    | split
    | dsimp only
    | intro _

theorem State.operatorFenceNow_keep {l : Nat} (h : covers 0xd4b8008eca20000000000406cff3ef79870038441df01f8ff67b87d881c00000000000000050000124400 l) {s : State} {u : State} (k : Keep l s u) (a0) (a1) :
    Keep l s (State.operatorFenceNow a0 a1 u).2 := by
  unfold State.operatorFenceNow
  with_reducible repeat' first
    | assumption
    | exact covers_trans (by decide) h
    | apply keep_ite
    | apply keep_ite_snd
    | apply State.fenceEffects_keep
    | apply State.probeWaiting_keep
    | apply State.cmdDone_keep
    | apply State.probeStopped_keep
    | apply State.hold_keep
    | split
    | dsimp only
    | intro _

theorem State.fenceOp_keep {l : Nat} (h : covers 0xd4b8008eca20000000000406cff3ef79870038441df01f8ff67b87d881c00000000000000050000127c00 l) {s : State} {u : State} (k : Keep l s u) (a0) (a1) :
    Keep l s (State.fenceOp a0 a1 u).2.2 := by
  unfold State.fenceOp
  with_reducible repeat' first
    | assumption
    | exact covers_trans (by decide) h
    | apply keep_ite
    | apply keep_ite_acc
    | apply State.ticketDone_keep
    | apply State.answer_keep
    | apply State.deferred_keep
    | apply State.operatorFenceNow_keep
    | refine snd_of_eq ‹State.operatorFenceNow _ _ _ = _› (State.operatorFenceNow_keep ?_ ?_ _ _)
    | split
    | dsimp only
    | intro _

theorem State.askProbe_keep {l : Nat} (h : covers 0x4430008eca200000000000000ff3ef0800000000000000000018000001c00000000000000040000120400 l) {s : State} {u : State} (k : Keep l s u) (a0) :
    Keep l s (State.askProbe a0 u) := by
  unfold State.askProbe
  with_reducible repeat' first
    | assumption
    | exact covers_trans (by decide) h
    | apply keep_ite
    | apply State.storeWrite_keep
    | apply State.report_keep
    | apply State.modUnit_keep
    | apply State.startProbe_keep
    | apply State.cmdDone_keep
    | split
    | dsimp only
    | intro _

theorem State.readmitOp_keep {l : Nat} (h : covers 0x4430008eca200000000000000ff3ef0800000000000000000018000001c00000000000000040000123c00 l) {s : State} {u : State} (k : Keep l s u) (a0) (a1) :
    Keep l s (State.readmitOp a0 a1 u).2.2 := by
  have b235 := covers_bit (i := 235) h (by decide)
  unfold State.readmitOp
  with_reducible repeat' first
    | assumption
    | exact covers_trans (by decide) h
    | apply keep_ite
    | apply keep_ite_acc
    | (intro x; simp only [FaultS.blank, b235, if_true]; done)
    | (intro x; (try dsimp only); (repeat' split) <;> (simp only [FaultS.blank, b235, if_true]; done))
    | refine State.modFlt_keep ?_ ?_
    | apply State.ticketDone_keep
    | apply State.cmdDone_keep
    | apply State.answer_keep
    | apply State.deferred_keep
    | apply State.askProbe_keep
    | split
    | dsimp only
    | intro _

theorem State.clearSticky_keep {l : Nat} (h : covers 0x1c00000000000000000000000000000000000000000000000000000000 l) {s : State} {u : State} (k : Keep l s u) (a0) (a1) :
    Keep l s (State.clearSticky a0 a1 u) := by
  have b226 := covers_bit (i := 226) h (by decide)
  have b227 := covers_bit (i := 227) h (by decide)
  have b228 := covers_bit (i := 228) h (by decide)
  unfold State.clearSticky
  with_reducible repeat' first
    | assumption
    | exact covers_trans (by decide) h
    | apply keep_ite
    | (intro x; simp only [FaultS.blank, b226, b227, b228, if_true]; done)
    | (intro x; (try dsimp only); (repeat' split) <;> (simp only [FaultS.blank, b226, b227, b228, if_true]; done))
    | refine State.modFlt_keep ?_ ?_
    | split
    | dsimp only
    | intro _

theorem State.stickyOp_keep {l : Nat} (h : covers 0x4430008ece200000000000000001c0000000000000000000000000000000000000000000000000000bc00 l) {s : State} {u : State} (k : Keep l s u) (a0) (a1) (a2) :
    Keep l s (State.stickyOp a0 a1 a2 u).2.2 := by
  have b15 := covers_bit (i := 15) h (by decide)
  unfold State.stickyOp
  with_reducible repeat' first
    | assumption
    | exact covers_trans (by decide) h
    | apply keep_ite
    | apply keep_ite_acc
    | (intro x; simp only [ObjS.blank, b15, if_true]; done)
    | (intro x; (try dsimp only); (repeat' split) <;> (simp only [ObjS.blank, b15, if_true]; done))
    | refine State.modObj_keep ?_ ?_
    | apply State.manage_keep
    | apply State.answer_keep
    | apply State.deferred_keep
    | apply State.storeConfig_keep
    | apply State.clearSticky_keep
    | split
    | dsimp only
    | intro _

theorem State.clearFOp_keep {l : Nat} (h : covers 0x4430009eca2000f7000000000000000000000000000000000000000000000000000000000000000003c00 l) {s : State} {u : State} (k : Keep l s u) (a0) :
    Keep l s (State.clearFOp a0 u).2.2 := by
  have b312 := covers_bit (i := 312) h (by decide)
  unfold State.clearFOp
  with_reducible repeat' first
    | assumption
    | exact covers_trans (by decide) h
    | apply keep_ite
    | apply keep_ite_acc
    | (intro x; simp only [LogS.blank, b312, if_true]; done)
    | (intro x; (try dsimp only); (repeat' split) <;> (simp only [LogS.blank, b312, if_true]; done))
    | refine State.modLog_keep ?_ ?_
    | apply State.answer_keep
    | apply State.deferred_keep
    | apply State.flashAsk_keep
    | split
    | dsimp only
    | intro _

theorem State.setSnap_keep {l : Nat} (h : covers 0x2000000000000000000000000000000000000000000000000000000000000000000000000000000 l) {s : State} {u : State} (k : Keep l s u) (a0) (a1) :
    Keep l s (State.setSnap a0 a1 u) := by
  have b313 := covers_bit (i := 313) h (by decide)
  unfold State.setSnap
  with_reducible repeat' first
    | assumption
    | exact covers_trans (by decide) h
    | apply keep_ite
    | (intro x; simp only [LogS.blank, b313, if_true]; done)
    | (intro x; (try dsimp only); (repeat' split) <;> (simp only [LogS.blank, b313, if_true]; done))
    | refine State.modLog_keep ?_ ?_
    | split
    | dsimp only
    | intro _

theorem State.snapOp_keep {l : Nat} (h : covers 0x443000aece20000000000000000000000000000000000000000000000000000000000000000000000bc00 l) {s : State} {u : State} (k : Keep l s u) (a0) (a1) (a2) (a3) (a4) :
    Keep l s (State.snapOp a0 a1 a2 a3 a4 u).2.2 := by
  unfold State.snapOp
  with_reducible repeat' first
    | assumption
    | exact covers_trans (by decide) h
    | apply keep_ite
    | apply keep_ite_acc
    | apply State.answer_keep
    | apply State.putRecord_keep
    | apply State.setSnap_keep
    | split
    | dsimp only
    | intro _

theorem State.updateOp_keep {l : Nat} (h : covers 0x4430008eca2430f7000000000000000000000000000000000000000000000000000000000000000003c00 l) {s : State} {u : State} (k : Keep l s u) (a0) (a1) :
    Keep l s (State.updateOp a0 a1 u).2.2 := by
  have b294 := covers_bit (i := 294) h (by decide)
  unfold State.updateOp
  with_reducible repeat' first
    | assumption
    | exact covers_trans (by decide) h
    | apply keep_ite
    | apply keep_ite_acc
    | (intro x; simp only [ImagesS.blank, b294, if_true]; done)
    | (intro x; (try dsimp only); (repeat' split) <;> (simp only [ImagesS.blank, b294, if_true]; done))
    | refine State.modImg_keep ?_ ?_
    | apply State.modImage_keep
    | apply State.answer_keep
    | apply State.deferred_keep
    | apply State.flashAsk_keep
    | split
    | dsimp only
    | intro _

theorem State.activateOp_keep {l : Nat} (h : covers 0x4430008eca29b000000000000000000000000000000000000000000000000000000000000000000003c00 l) {s : State} {u : State} (k : Keep l s u) (a0) :
    Keep l s (State.activateOp a0 u).2.2 := by
  have b291 := covers_bit (i := 291) h (by decide)
  have b292 := covers_bit (i := 292) h (by decide)
  have b295 := covers_bit (i := 295) h (by decide)
  unfold State.activateOp
  with_reducible repeat' first
    | assumption
    | exact covers_trans (by decide) h
    | apply keep_ite
    | apply keep_ite_acc
    | (intro x; simp only [ImagesS.blank, b291, b292, b295, if_true]; done)
    | (intro x; (try dsimp only); (repeat' split) <;> (simp only [ImagesS.blank, b291, b292, b295, if_true]; done))
    | refine State.modImg_keep ?_ ?_
    | apply State.storeWrite_keep
    | apply State.modImage_keep
    | apply State.answer_keep
    | apply State.deferred_keep
    | split
    | dsimp only
    | intro _

theorem State.programImage_keep {l : Nat} (h : covers 0x3100000000000000000000000000000000000000000000000000000000000000000000000 l) {s : State} {u : State} (k : Keep l s u) (a0) (a1) (a2) :
    Keep l s (State.programImage a0 a1 a2 u) := by
  have b284 := covers_bit (i := 284) h (by decide)
  unfold State.programImage
  with_reducible repeat' first
    | assumption
    | exact covers_trans (by decide) h
    | apply keep_ite
    | (intro x; simp only [FlashS.blank, b284, if_true]; done)
    | (intro x; (try dsimp only); (repeat' split) <;> (simp only [FlashS.blank, b284, if_true]; done))
    | refine State.modFls_keep ?_ ?_
    | refine forEach_keep (fun _ _ _ => ?_) ?_ _
    | apply State.modImage_keep
    | split
    | dsimp only
    | intro _

theorem State.imageWrite_keep {l : Nat} (h : covers 0x3100000000000000000000000000000000000000000000000000000000000000000000000 l) {s : State} {u : State} (k : Keep l s u) (a0) (a1) :
    Keep l s (State.imageWrite a0 a1 u).2 := by
  unfold State.imageWrite
  with_reducible repeat' first
    | assumption
    | exact covers_trans (by decide) h
    | apply keep_ite
    | apply keep_ite_snd
    | apply State.programImage_keep
    | split
    | dsimp only
    | intro _

theorem State.segmentOp_keep {l : Nat} (h : covers 0x3100000000000000000000000000000000000000000000000000000000000000000000000 l) {s : State} {u : State} (k : Keep l s u) (a0) (a1) :
    Keep l s (State.segmentOp a0 a1 u).2.2 := by
  unfold State.segmentOp
  with_reducible repeat' first
    | assumption
    | exact covers_trans (by decide) h
    | apply keep_ite
    | apply keep_ite_acc
    | apply State.answer_keep
    | apply State.imageWrite_keep
    | refine snd_of_eq ‹State.imageWrite _ _ _ = _› (State.imageWrite_keep ?_ ?_ _ _)
    | split
    | dsimp only
    | intro _

theorem State.optionsOp_keep {l : Nat} (h : covers 0x4430008eca2004f7000000000000000000000000000000000000000000000000000000000000000003c00 l) {s : State} {u : State} (k : Keep l s u) (a0) (a1) :
    Keep l s (State.optionsOp a0 a1 u).2.2 := by
  have b286 := covers_bit (i := 286) h (by decide)
  unfold State.optionsOp
  with_reducible repeat' first
    | assumption
    | exact covers_trans (by decide) h
    | apply keep_ite
    | apply keep_ite_acc
    | (intro x; simp only [FlashS.blank, b286, if_true]; done)
    | (intro x; (try dsimp only); (repeat' split) <;> (simp only [FlashS.blank, b286, if_true]; done))
    | refine State.modFls_keep ?_ ?_
    | apply State.answer_keep
    | apply State.deferred_keep
    | apply State.flashAsk_keep
    | split
    | dsimp only
    | intro _

theorem State.protectOp_keep {l : Nat} (h : covers 0x4430008eca300000000000000000000000000000000000000000000000000000000000000000000000000 l) {s : State} {u : State} (k : Keep l s u) (a0) (a1) :
    Keep l s (State.protectOp a0 a1 u).2.2 := by
  have b296 := covers_bit (i := 296) h (by decide)
  unfold State.protectOp
  with_reducible repeat' first
    | assumption
    | exact covers_trans (by decide) h
    | apply keep_ite
    | apply keep_ite_acc
    | (intro x; simp only [ParamS.blank, b296, if_true]; done)
    | (intro x; (try dsimp only); (repeat' split) <;> (simp only [ParamS.blank, b296, if_true]; done))
    | refine State.modPar_keep ?_ ?_
    | apply State.manage_keep
    | apply State.answer_keep
    | apply State.notifyObject_keep
    | split
    | dsimp only
    | intro _

theorem execProbeTimeout_keep {l : Nat} (h : covers 0x4430008eca200000000000000ff3ef4800000000000000000018000001c00000000000000040000120400 l) {s : State} {u : State} (k : Keep l s u) (a0) :
    KeepR l s (execProbeTimeout a0 u) := by
  unfold execProbeTimeout
  with_reducible repeat' first
    | assumption
    | exact covers_trans (by decide) h
    | apply keep_ite
    | apply keepR_ite
    | apply State.probeWaiting_keep
    | apply State.probeFailed_keep
    | apply KeepR.next
    | split
    | dsimp only
    | intro _

theorem execOptionsWrite_keep {l : Nat} (h : covers 0x4430008eca2004f7000000000000000000000000000000000000000000800000000000000000000033c00 l) {s : State} {u : State} (k : Keep l s u) (a0) (a1) (a2) (a3) (a4) (a5) :
    KeepR l s (execOptionsWrite a0 a1 a2 a3 a4 a5 u) := by
  unfold execOptionsWrite
  with_reducible repeat' first
    | assumption
    | exact covers_trans (by decide) h
    | apply keep_ite
    | apply keepR_ite
    | apply guarded_keep
    | apply accessed_keep
    | apply respondAccess_keep
    | apply State.optionsOp_keep
    | apply KeepR.next
    | split
    | dsimp only
    | intro _

theorem execLatchRelease_keep {l : Nat} (h : covers 0x4430008eca200000000000000002000000000000000000000000000000800000000000000000000033c00 l) {s : State} {u : State} (k : Keep l s u) (a0) (a1) :
    KeepR l s (execLatchRelease a0 a1 u) := by
  unfold execLatchRelease
  with_reducible repeat' first
    | assumption
    | exact covers_trans (by decide) h
    | apply keep_ite
    | apply keepR_ite
    | apply guarded_keep
    | apply accessed_keep
    | apply respondAccess_keep
    | apply State.latchReleaseOp_keep
    | apply KeepR.next
    | split
    | dsimp only
    | intro _

theorem State.mirrorLost_keep {l : Nat} (h : covers 0x4430008eca200000000000000f71ef000000080418e00f8df018004801c00000000000000040000100000 l) {s : State} {u : State} (k : Keep l s u) (a0) (a1) :
    Keep l s (State.mirrorLost a0 a1 u) := by
  have b119 := covers_bit (i := 119) h (by decide)
  unfold State.mirrorLost
  with_reducible repeat' first
    | assumption
    | exact covers_trans (by decide) h
    | apply keep_ite
    | (intro x; simp only [WbS.blank, b119, if_true]; done)
    | (intro x; (try dsimp only); (repeat' split) <;> (simp only [WbS.blank, b119, if_true]; done))
    | refine State.modWb_keep ?_ ?_
    | apply State.report_keep
    | apply State.loseTracts_keep
    | split
    | dsimp only
    | intro _

theorem State.orphanStart_keep {l : Nat} (h : covers 0x16000000000000000000000000000000000000000000000000000000000000000000 l) {s : State} {u : State} (k : Keep l s u)  :
    Keep l s (State.orphanStart u) := by
  have b265 := covers_bit (i := 265) h (by decide)
  have b266 := covers_bit (i := 266) h (by decide)
  have b268 := covers_bit (i := 268) h (by decide)
  unfold State.orphanStart
  with_reducible repeat' first
    | assumption
    | exact covers_trans (by decide) h
    | apply keep_ite
    | (intro x; simp only [CoxS.blank, b265, b266, b268, if_true]; done)
    | (intro x; (try dsimp only); (repeat' split) <;> (simp only [CoxS.blank, b265, b266, b268, if_true]; done))
    | refine State.modCox_keep ?_ ?_
    | split
    | dsimp only
    | intro _

theorem State.watchdogReset_keep {l : Nat} (h : covers 0x54b8008eca243c7dfffff00c8f71ef0000000000000000000018000003c00000000000000040000134400 l) {s : State} {u : State} (k : Keep l s u)  :
    Keep l s (State.watchdogReset u) := by
  have b263 := covers_bit (i := 263) h (by decide)
  have b264 := covers_bit (i := 264) h (by decide)
  have b272 := covers_bit (i := 272) h (by decide)
  unfold State.watchdogReset
  with_reducible repeat' first
    | assumption
    | exact covers_trans (by decide) h
    | apply keep_ite
    | (intro x; simp only [CoxS.blank, b263, b264, b272, if_true]; done)
    | (intro x; (try dsimp only); (repeat' split) <;> (simp only [CoxS.blank, b263, b264, b272, if_true]; done))
    | refine State.modCox_keep ?_ ?_
    | apply State.storeWrite_keep
    | apply State.report_keep
    | apply State.coxReset_keep
    | apply State.orphanStart_keep
    | split
    | dsimp only
    | intro _

theorem execWatchdogExpiry_keep {l : Nat} (h : covers 0x54b8008eca243c7dfffff00c8f71ef0000000000000000000018000003c00000000000000040000134400 l) {s : State} {u : State} (k : Keep l s u)  :
    KeepR l s (execWatchdogExpiry u) := by
  unfold execWatchdogExpiry
  with_reducible repeat' first
    | assumption
    | exact covers_trans (by decide) h
    | apply keep_ite
    | apply keepR_ite
    | apply State.watchdogReset_keep
    | apply KeepR.next
    | split
    | dsimp only
    | intro _

theorem execExtentRelease_keep {l : Nat} (h : covers 0x4430008eca200100000000000000000000000000000000000000000023800000000000000000000033c00 l) {s : State} {u : State} (k : Keep l s u) (a0) (a1) (a2) (a3) :
    KeepR l s (execExtentRelease a0 a1 a2 a3 u) := by
  unfold execExtentRelease
  with_reducible repeat' first
    | assumption
    | exact covers_trans (by decide) h
    | apply keep_ite
    | apply keepR_ite
    | apply guarded_keep
    | apply accessed_keep
    | apply respondAccess_keep
    | apply State.releaseOp_keep
    | apply KeepR.next
    | split
    | dsimp only
    | intro _

theorem execSanitize_keep {l : Nat} (h : covers 0x4430008eca200000000000000f71ef8300b801fc3ae00f8ff81b80da09c00000000000000040000120400 l) {s : State} {u : State} (k : Keep l s u) (a0) :
    KeepR l s (execSanitize a0 u) := by
  unfold execSanitize
  with_reducible repeat' first
    | assumption
    | exact covers_trans (by decide) h
    | apply keep_ite
    | apply keepR_ite
    | apply mailboxed_keep
    | apply State.hostSanitize_keep
    | apply KeepR.next
    | split
    | dsimp only
    | intro _

theorem State.reparityWord_keep {l : Nat} (h : covers 0x8000000000000000000000000000000000000000000000000000000 l) {s : State} {u : State} (k : Keep l s u) (a0) :
    Keep l s (State.reparityWord a0 u) := by
  have b219 := covers_bit (i := 219) h (by decide)
  unfold State.reparityWord
  with_reducible repeat' first
    | assumption
    | exact covers_trans (by decide) h
    | apply keep_ite
    | (intro x; simp only [StagingS.blank, b219, if_true]; done)
    | (intro x; (try dsimp only); (repeat' split) <;> (simp only [StagingS.blank, b219, if_true]; done))
    | refine State.modStg_keep ?_ ?_
    | split
    | dsimp only
    | intro _

theorem State.reparityPart_keep {l : Nat} (h : covers 0x9000000000000000000000000000000000000000000000000000000 l) {s : State} {u : State} (k : Keep l s u) (a0) :
    Keep l s (State.reparityPart a0 u) := by
  have b216 := covers_bit (i := 216) h (by decide)
  unfold State.reparityPart
  with_reducible repeat' first
    | assumption
    | exact covers_trans (by decide) h
    | apply keep_ite
    | (intro x; simp only [StagingS.blank, b216, if_true]; done)
    | (intro x; (try dsimp only); (repeat' split) <;> (simp only [StagingS.blank, b216, if_true]; done))
    | refine State.modStg_keep ?_ ?_
    | refine forEach_keep (fun _ _ _ => ?_) ?_ _
    | apply State.reparityWord_keep
    | split
    | dsimp only
    | intro _

theorem execImageData_keep {l : Nat} (h : covers 0x4430008eca203100000000000000000000000000000000000000000000800000000000000000000030400 l) {s : State} {u : State} (k : Keep l s u) (a0) (a1) :
    KeepR l s (execImageData a0 a1 u) := by
  unfold execImageData
  with_reducible repeat' first
    | assumption
    | exact covers_trans (by decide) h
    | apply keep_ite
    | apply keepR_ite
    | apply State.answer_keep
    | apply accessed_keep
    | apply respondAccess_keep
    | apply State.imageWrite_keep
    | refine snd_of_eq ‹State.imageWrite _ _ _ = _› (State.imageWrite_keep ?_ ?_ _ _)
    | apply KeepR.next
    | split
    | dsimp only
    | intro _

theorem State.lossCheck_keep {l : Nat} (h : covers 0x4430008eca200000000000000000000000000000000000000000000000000000000000000000000000000 l) {s : State} {u : State} (k : Keep l s u)  :
    Keep l s (State.lossCheck u) := by
  have b310 := covers_bit (i := 310) h (by decide)
  have b311 := covers_bit (i := 311) h (by decide)
  unfold State.lossCheck
  with_reducible repeat' first
    | assumption
    | exact covers_trans (by decide) h
    | apply keep_ite
    | (intro x; simp only [LogS.blank, b310, b311, if_true]; done)
    | (intro x; (try dsimp only); (repeat' split) <;> (simp only [LogS.blank, b310, b311, if_true]; done))
    | refine State.modLog_keep ?_ ?_
    | apply State.record_keep
    | split
    | dsimp only
    | intro _

theorem execLogbookWriteOut_keep {l : Nat} (h : covers 0x4430008ffa200100000000000000000000000000000000000000000000000000000000000000000000000 l) {s : State} {u : State} (k : Keep l s u) (a0) :
    KeepR l s (execLogbookWriteOut a0 u) := by
  unfold execLogbookWriteOut
  with_reducible repeat' first
    | assumption
    | exact covers_trans (by decide) h
    | apply keep_ite
    | apply keepR_ite
    | apply State.writeOut_keep
    | apply State.lossCheck_keep
    | apply KeepR.next
    | split
    | dsimp only
    | intro _

theorem State.poisonList_keep {l : Nat} (h : covers 0x4000000000000000000000000000000000000000000000000000000000800000000000000000000000000 l) {s : State} {u : State} (k : Keep l s u) (a0) :
    Keep l s (State.poisonList a0 u) := by
  unfold State.poisonList
  with_reducible repeat' first
    | assumption
    | exact covers_trans (by decide) h
    | apply keep_ite
    | apply State.mbReturn_keep
    | split
    | dsimp only
    | intro _

theorem execGetPoisonList_keep {l : Nat} (h : covers 0x4000000000000000000000000000000000000000000000000000000001800000000000000000000000000 l) {s : State} {u : State} (k : Keep l s u) (a0) :
    KeepR l s (execGetPoisonList a0 u) := by
  unfold execGetPoisonList
  with_reducible repeat' first
    | assumption
    | exact covers_trans (by decide) h
    | apply keep_ite
    | apply keepR_ite
    | apply mailboxed_keep
    | apply State.poisonList_keep
    | apply KeepR.next
    | split
    | dsimp only
    | intro _

theorem execClockLost_keep {l : Nat} (h : covers 0x4430008eca200000000000000f71ef0000000000000000000038000001c00000000006000140000100000 l) {s : State} {u : State} (k : Keep l s u) (a0) :
    KeepR l s (execClockLost a0 u) := by
  have b61 := covers_bit (i := 61) h (by decide)
  have b62 := covers_bit (i := 62) h (by decide)
  have b137 := covers_bit (i := 137) h (by decide)
  unfold execClockLost
  with_reducible repeat' first
    | assumption
    | exact covers_trans (by decide) h
    | apply keep_ite
    | apply keepR_ite
    | (intro x; simp only [PowerS.blank, WbS.blank, b61, b62, b137, if_true]; done)
    | (intro x; (try dsimp only); (repeat' split) <;> (simp only [PowerS.blank, WbS.blank, b61, b62, b137, if_true]; done))
    | refine State.modPwr_keep ?_ ?_
    | refine State.modWb_keep ?_ ?_
    | apply State.when_keep
    | apply State.report_keep
    | apply State.driveHalt_keep
    | apply KeepR.next
    | split
    | dsimp only
    | intro _

theorem State.clockBack_keep {l : Nat} (h : covers 0x2000000000000000 l) {s : State} {u : State} (k : Keep l s u) (a0) :
    Keep l s (State.clockBack a0 u) := by
  have b61 := covers_bit (i := 61) h (by decide)
  unfold State.clockBack
  with_reducible repeat' first
    | assumption
    | exact covers_trans (by decide) h
    | apply keep_ite
    | (intro x; simp only [PowerS.blank, b61, if_true]; done)
    | (intro x; (try dsimp only); (repeat' split) <;> (simp only [PowerS.blank, b61, if_true]; done))
    | refine State.modPwr_keep ?_ ?_
    | split
    | dsimp only
    | intro _

theorem execFlashResume_keep {l : Nat} (h : covers 0xff000000000000000000000000000000000000000000000000000000000000000000000 l) {s : State} {u : State} (k : Keep l s u)  :
    KeepR l s (execFlashResume u) := by
  have b279 := covers_bit (i := 279) h (by decide)
  unfold execFlashResume
  with_reducible repeat' first
    | assumption
    | exact covers_trans (by decide) h
    | apply keep_ite
    | apply keepR_ite
    | (intro x; simp only [FlashS.blank, b279, if_true]; done)
    | (intro x; (try dsimp only); (repeat' split) <;> (simp only [FlashS.blank, b279, if_true]; done))
    | refine State.modFls_keep ?_ ?_
    | apply State.flashKick_keep
    | apply KeepR.next
    | split
    | dsimp only
    | intro _

theorem State.pinnedLost_keep {l : Nat} (h : covers 0x4430008eca200000000000000f71ef0000002010000000000018000001c00000000000000040000100000 l) {s : State} {u : State} (k : Keep l s u) (a0) (a1) :
    Keep l s (State.pinnedLost a0 a1 u) := by
  have b193 := covers_bit (i := 193) h (by decide)
  unfold State.pinnedLost
  with_reducible repeat' first
    | assumption
    | exact covers_trans (by decide) h
    | apply keep_ite
    | (intro x; simp only [IntegS.blank, b193, if_true]; done)
    | (intro x; (try dsimp only); (repeat' split) <;> (simp only [IntegS.blank, b193, if_true]; done))
    | refine State.modItg_keep ?_ ?_
    | apply State.restorePinned_keep
    | apply State.report_keep
    | split
    | dsimp only
    | intro _

theorem State.cacheWordLost_keep {l : Nat} (h : covers 0x8000000000000000000000000000000000000040000000000000000000000000000000000000000000000 l) {s : State} {u : State} (k : Keep l s u)  :
    Keep l s (State.cacheWordLost u) := by
  have b186 := covers_bit (i := 186) h (by decide)
  unfold State.cacheWordLost
  with_reducible repeat' first
    | assumption
    | exact covers_trans (by decide) h
    | apply keep_ite
    | (intro x; simp only [IntegS.blank, b186, if_true]; done)
    | (intro x; (try dsimp only); (repeat' split) <;> (simp only [IntegS.blank, b186, if_true]; done))
    | refine State.modItg_keep ?_ ?_
    | apply State.draw_keep
    | refine snd_of_eq ‹State.draw _ = _› (State.draw_keep ?_ ?_)
    | split
    | dsimp only
    | intro _

theorem State.damage_keep {l : Nat} (h : covers 0x8000000000000000000000000000000000000000000000000000000000000000000000000000 l) {s : State} {u : State} (k : Keep l s u) (a0) :
    Keep l s (State.damage a0 u) := by
  have b303 := covers_bit (i := 303) h (by decide)
  unfold State.damage
  with_reducible repeat' first
    | assumption
    | exact covers_trans (by decide) h
    | apply keep_ite
    | (intro x; simp only [LogS.blank, b303, if_true]; done)
    | (intro x; (try dsimp only); (repeat' split) <;> (simp only [LogS.blank, b303, if_true]; done))
    | refine State.modLog_keep ?_ ?_
    | split
    | dsimp only
    | intro _

theorem State.wordLost_keep {l : Nat} (h : covers 0xc432008eca200000000000000f71ef000000285418e00f8df018004801c00000000000000040000100000 l) {s : State} {u : State} (k : Keep l s u) (a0) (a1) (a2) :
    Keep l s (State.wordLost a0 a1 a2 u) := by
  have b325 := covers_bit (i := 325) h (by decide)
  unfold State.wordLost
  with_reducible repeat' first
    | assumption
    | exact covers_trans (by decide) h
    | apply keep_ite
    | (intro x; simp only [TallyS.blank, b325, if_true]; done)
    | (intro x; (try dsimp only); (repeat' split) <;> (simp only [TallyS.blank, b325, if_true]; done))
    | refine State.modTly_keep ?_ ?_
    | apply State.report_keep
    | apply State.wearWordLost_keep
    | apply State.mirrorLost_keep
    | apply State.pinnedLost_keep
    | apply State.cacheWordLost_keep
    | apply State.damage_keep
    | split
    | dsimp only
    | intro _

theorem State.patrolWord_keep {l : Nat} (h : covers 0xc432008eca200000000000000f71ef080000285418e00f8df018004801c00000000000000040000100000 l) {s : State} {u : State} (k : Keep l s u) (a0) (a1) (a2) (a3) :
    Keep l s (State.patrolWord a0 a1 a2 a3 u) := by
  unfold State.patrolWord
  with_reducible repeat' first
    | assumption
    | exact covers_trans (by decide) h
    | apply keep_ite
    | apply State.modSram_keep
    | apply State.partFailing_keep
    | apply State.badWord_keep
    | apply State.wordLost_keep
    | split
    | dsimp only
    | intro _

theorem execSramPatrol_keep {l : Nat} (h : covers 0xd4ba008eca243c7dfffff00c8f71ef080000285418e00f8df018004803c00000000000000040000134400 l) {s : State} {u : State} (k : Keep l s u) (a0) (a1) (a2) (a3) :
    KeepR l s (execSramPatrol a0 a1 a2 a3 u) := by
  unfold execSramPatrol
  with_reducible repeat' first
    | assumption
    | exact covers_trans (by decide) h
    | apply keep_ite
    | apply keepR_ite
    | apply State.watchdogReset_keep
    | apply State.patrolWord_keep
    | apply KeepR.next
    | split
    | dsimp only
    | intro _

theorem execBlockProtectionWrite_keep {l : Nat} (h : covers 0x4430008eca300000000000000000000000000000000000000000000000800000000000000000000030400 l) {s : State} {u : State} (k : Keep l s u) (a0) :
    KeepR l s (execBlockProtectionWrite a0 u) := by
  unfold execBlockProtectionWrite
  with_reducible repeat' first
    | assumption
    | exact covers_trans (by decide) h
    | apply keep_ite
    | apply keepR_ite
    | apply accessed_keep
    | apply respondAccess_keep
    | apply State.protectOp_keep
    | apply KeepR.next
    | split
    | dsimp only
    | intro _

theorem State.startRebuild_keep {l : Nat} (h : covers 0x2200000000000000000000100000000000000000000000000000000000000000000000000000 l) {s : State} {u : State} (k : Keep l s u) (a0) (a1) :
    Keep l s (State.startRebuild a0 a1 u) := by
  unfold State.startRebuild
  with_reducible repeat' first
    | assumption
    | exact covers_trans (by decide) h
    | apply keep_ite
    | apply State.storeWrite_keep
    | apply State.modRebuild_keep
    | apply State.rebuildSync_keep
    | split
    | dsimp only
    | intro _

theorem State.readmit_keep {l : Nat} (h : covers 0x4438008eca20000000000406cff7ef010000000411f01f81d618078881c00000000002000050000120400 l) {s : State} {u : State} (k : Keep l s u) (a0) :
    Keep l s (State.readmit a0 u) := by
  unfold State.readmit
  with_reducible repeat' first
    | assumption
    | exact covers_trans (by decide) h
    | apply keep_ite
    | refine forEach_keep (fun _ _ _ => ?_) ?_ _
    | apply State.storeWrite_keep
    | apply State.boundSync_keep
    | apply State.modDomain_keep
    | apply State.modChannel_keep
    | apply State.report_keep
    | apply State.mapStep_keep
    | apply State.linksSync_keep
    | apply State.modUnit_keep
    | apply State.rebuildSync_keep
    | apply State.cmdDone_keep
    | apply State.plcaStart_keep
    | apply State.clockBack_keep
    | apply State.modSource_keep
    | apply State.startRebuild_keep
    | split
    | dsimp only
    | intro _

theorem State.reloadBand_keep {l : Nat} (h : covers 0x1c000000000000000000000000000000000000000 l) {s : State} {u : State} (k : Keep l s u) (a0) :
    Keep l s (State.reloadBand a0 u) := by
  have b159 := covers_bit (i := 159) h (by decide)
  have b160 := covers_bit (i := 160) h (by decide)
  unfold State.reloadBand
  with_reducible repeat' first
    | assumption
    | exact covers_trans (by decide) h
    | apply keep_ite
    | (intro x; simp only [TractS.blank, b159, b160, if_true]; done)
    | (intro x; (try dsimp only); (repeat' split) <;> (simp only [TractS.blank, b159, b160, if_true]; done))
    | refine State.modTrc_keep ?_ ?_
    | refine forEach_keep (fun _ _ _ => ?_) ?_ _
    | apply State.modActivity_keep
    | split
    | dsimp only
    | intro _

theorem execStagingPartRestoreDone_keep {l : Nat} (h : covers 0x4438008eca20000000000406cff7eff90000001411f01f81d658078881c00000000002000050000120400 l) {s : State} {u : State} (k : Keep l s u) (a0) :
    KeepR l s (execStagingPartRestoreDone a0 u) := by
  have b119 := covers_bit (i := 119) h (by decide)
  have b138 := covers_bit (i := 138) h (by decide)
  have b217 := covers_bit (i := 217) h (by decide)
  have b218 := covers_bit (i := 218) h (by decide)
  unfold execStagingPartRestoreDone
  with_reducible repeat' first
    | assumption
    | exact covers_trans (by decide) h
    | apply keep_ite
    | apply keepR_ite
    | (intro x; simp only [StagingS.blank, WbS.blank, b119, b138, b217, b218, if_true]; done)
    | (intro x; (try dsimp only); (repeat' split) <;> (simp only [StagingS.blank, WbS.blank, b119, b138, b217, b218, if_true]; done))
    | refine State.modStg_keep ?_ ?_
    | refine State.modWb_keep ?_ ?_
    | apply State.restoreBand_keep
    | apply State.probeWaiting_keep
    | apply State.reparityPart_keep
    | apply State.readmit_keep
    | apply State.reloadBand_keep
    | apply KeepR.next
    | split
    | dsimp only
    | intro _

theorem State.probeCounts_keep {l : Nat} (h : covers 0x4000000000000000000000000000000000000 l) {s : State} {u : State} (k : Keep l s u) (a0) (a1) :
    Keep l s (State.probeCounts a0 a1 u) := by
  unfold State.probeCounts
  with_reducible repeat' first
    | assumption
    | exact covers_trans (by decide) h
    | apply keep_ite
    | refine forEach_keep (fun _ _ _ => ?_) ?_ _
    | apply State.modDie_keep
    | split
    | dsimp only
    | intro _

theorem State.latchOptions_keep {l : Nat} (h : covers 0x4430008eca300000c00400000f71ef0000000000000000000018000001c00000000000000040000100000 l) {s : State} {u : State} (k : Keep l s u)  :
    Keep l s (State.latchOptions u) := by
  have b262 := covers_bit (i := 262) h (by decide)
  have b274 := covers_bit (i := 274) h (by decide)
  have b275 := covers_bit (i := 275) h (by decide)
  have b296 := covers_bit (i := 296) h (by decide)
  unfold State.latchOptions
  with_reducible repeat' first
    | assumption
    | exact covers_trans (by decide) h
    | apply keep_ite
    | (intro x; simp only [ParamS.blank, CoxS.blank, b262, b274, b275, b296, if_true]; done)
    | (intro x; (try dsimp only); (repeat' split) <;> (simp only [ParamS.blank, CoxS.blank, b262, b274, b275, b296, if_true]; done))
    | refine State.modPar_keep ?_ ?_
    | refine State.modCox_keep ?_ ?_
    | apply State.report_keep
    | split
    | dsimp only
    | intro _

theorem State.recordLost_keep {l : Nat} (h : covers 0x4430008ecb200000000000000f71ef0000000000000000000018000001c00000000000000040000100000 l) {s : State} {a0 : State → State} (ka0 : ∀  v, Keep l s v → Keep l s (a0  v)) {u : State} (k : Keep l s u)  :
    Keep l s (State.recordLost a0 u) := by
  have b300 := covers_bit (i := 300) h (by decide)
  unfold State.recordLost
  with_reducible repeat' first
    | assumption
    | exact covers_trans (by decide) h
    | apply keep_ite
    | (intro x; simp only [ParamS.blank, b300, if_true]; done)
    | (intro x; (try dsimp only); (repeat' split) <;> (simp only [ParamS.blank, b300, if_true]; done))
    | refine State.modPar_keep ?_ ?_
    | apply State.report_keep
    | refine ka0  _ ?_
    | split
    | dsimp only
    | intro _

theorem State.recordDefault_keep {l : Nat} (h : covers 0xc001c000009800000002c001003c0580000400008100000008001800000000002081000000000 l) {s : State} {u : State} (k : Keep l s u) (a0) :
    Keep l s (State.recordDefault a0 u) := by
  have b36 := covers_bit (i := 36) h (by decide)
  have b43 := covers_bit (i := 43) h (by decide)
  have b49 := covers_bit (i := 49) h (by decide)
  have b95 := covers_bit (i := 95) h (by decide)
  have b96 := covers_bit (i := 96) h (by decide)
  have b111 := covers_bit (i := 111) h (by decide)
  have b140 := covers_bit (i := 140) h (by decide)
  have b147 := covers_bit (i := 147) h (by decide)
  have b166 := covers_bit (i := 166) h (by decide)
  have b187 := covers_bit (i := 187) h (by decide)
  have b188 := covers_bit (i := 188) h (by decide)
  have b190 := covers_bit (i := 190) h (by decide)
  have b198 := covers_bit (i := 198) h (by decide)
  have b199 := covers_bit (i := 199) h (by decide)
  have b200 := covers_bit (i := 200) h (by decide)
  have b201 := covers_bit (i := 201) h (by decide)
  have b212 := covers_bit (i := 212) h (by decide)
  have b226 := covers_bit (i := 226) h (by decide)
  have b227 := covers_bit (i := 227) h (by decide)
  have b229 := covers_bit (i := 229) h (by decide)
  have b263 := covers_bit (i := 263) h (by decide)
  have b264 := covers_bit (i := 264) h (by decide)
  have b267 := covers_bit (i := 267) h (by decide)
  have b290 := covers_bit (i := 290) h (by decide)
  have b291 := covers_bit (i := 291) h (by decide)
  have b292 := covers_bit (i := 292) h (by decide)
  have b306 := covers_bit (i := 306) h (by decide)
  have b307 := covers_bit (i := 307) h (by decide)
  unfold State.recordDefault
  with_reducible repeat' first
    | assumption
    | exact covers_trans (by decide) h
    | apply keep_ite
    | (intro x; simp only [LogS.blank, IntegS.blank, MediaS.blank, TractS.blank, WbS.blank, ExtS.blank, ScrubS.blank, FaultS.blank, ImagesS.blank, CoxS.blank, PowerS.blank, HealthS.blank, b36, b43, b49, b95, b96, b111, b140, b147, b166, b187, b188, b190, b198, b199, b200, b201, b212, b226, b227, b229, b263, b264, b267, b290, b291, b292, b306, b307, if_true]; done)
    | (intro x; (try dsimp only); (repeat' split) <;> (simp only [LogS.blank, IntegS.blank, MediaS.blank, TractS.blank, WbS.blank, ExtS.blank, ScrubS.blank, FaultS.blank, ImagesS.blank, CoxS.blank, PowerS.blank, HealthS.blank, b36, b43, b49, b95, b96, b111, b140, b147, b166, b187, b188, b190, b198, b199, b200, b201, b212, b226, b227, b229, b263, b264, b267, b290, b291, b292, b306, b307, if_true]; done))
    | refine State.modLog_keep ?_ ?_
    | refine State.modItg_keep ?_ ?_
    | refine State.modMed_keep ?_ ?_
    | refine State.modTrc_keep ?_ ?_
    | refine State.modWb_keep ?_ ?_
    | refine State.modExt_keep ?_ ?_
    | refine State.modScr_keep ?_ ?_
    | refine State.modFlt_keep ?_ ?_
    | refine State.modImg_keep ?_ ?_
    | refine State.modCox_keep ?_ ?_
    | refine State.modPwr_keep ?_ ?_
    | refine State.modHlt_keep ?_ ?_
    | split
    | dsimp only
    | intro _

theorem State.readRecords_keep {l : Nat} (h : covers 0x4430008ecb21c000009800000f73ef01003c0580000400008118000009c018000000000020c1000100080 l) {s : State} {u : State} (k : Keep l s u) (a0) (a1) :
    Keep l s (State.readRecords a0 a1 u) := by
  have b7 := covers_bit (i := 7) h (by decide)
  unfold State.readRecords
  with_reducible repeat' first
    | assumption
    | exact covers_trans (by decide) h
    | apply keep_ite
    | (intro x; simp only [ObjS.blank, b7, if_true]; done)
    | (intro x; (try dsimp only); (repeat' split) <;> (simp only [ObjS.blank, b7, if_true]; done))
    | refine State.modObj_keep ?_ ?_
    | refine forEach_keep (fun _ _ _ => ?_) ?_ _
    | apply State.recordLost_keep
    | apply State.recordDefault_keep
    | split
    | dsimp only
    | intro _

theorem State.flagErase_keep {l : Nat} (h : covers 0x4430009eea2033f7000000000000000000000000000000000000000000000000000000000000000020400 l) {s : State} {u : State} (k : Keep l s u) (a0) :
    Keep l s (State.flagErase a0 u) := by
  have b283 := covers_bit (i := 283) h (by decide)
  have b284 := covers_bit (i := 284) h (by decide)
  have b285 := covers_bit (i := 285) h (by decide)
  unfold State.flagErase
  with_reducible repeat' first
    | assumption
    | exact covers_trans (by decide) h
    | apply keep_ite
    | (intro x; simp only [FlashS.blank, b283, b284, b285, if_true]; done)
    | (intro x; (try dsimp only); (repeat' split) <;> (simp only [FlashS.blank, b283, b284, b285, if_true]; done))
    | refine State.modFls_keep ?_ ?_
    | apply State.modImage_keep
    | apply State.areaFErased_keep
    | split
    | dsimp only
    | intro _

theorem execCoxResetRelease_keep {l : Nat} (h : covers 0x4430009eeb33f3f7c09ff0000f73ef01003c0580000400008118000009c018000000000020c1000120480 l) {s : State} {u : State} (k : Keep l s u) (a0) (a1) :
    KeepR l s (execCoxResetRelease a0 a1 u) := by
  have b258 := covers_bit (i := 258) h (by decide)
  have b259 := covers_bit (i := 259) h (by decide)
  have b260 := covers_bit (i := 260) h (by decide)
  have b261 := covers_bit (i := 261) h (by decide)
  unfold execCoxResetRelease
  with_reducible repeat' first
    | assumption
    | exact covers_trans (by decide) h
    | apply keep_ite
    | apply keepR_ite
    | (intro x; simp only [CoxS.blank, b258, b259, b260, b261, CoxS.invalidated, if_true]; done)
    | (intro x; (try dsimp only); (repeat' split) <;> (simp only [CoxS.blank, b258, b259, b260, b261, CoxS.invalidated, if_true]; done))
    | refine State.modCox_keep ?_ ?_
    | refine forEach_keep (fun _ _ _ => ?_) ?_ _
    | apply State.selectImage_keep
    | apply State.latchOptions_keep
    | apply State.readRecords_keep
    | apply State.flagErase_keep
    | apply KeepR.next
    | split
    | dsimp only
    | intro _

theorem execWearBandReloadDone_keep {l : Nat} (h : covers 0x200000000000001c000000000000000000000000000000000000000 l) {s : State} {u : State} (k : Keep l s u) (a0) :
    KeepR l s (execWearBandReloadDone a0 u) := by
  have b217 := covers_bit (i := 217) h (by decide)
  unfold execWearBandReloadDone
  with_reducible repeat' first
    | assumption
    | exact covers_trans (by decide) h
    | apply keep_ite
    | apply keepR_ite
    | (intro x; simp only [StagingS.blank, b217, if_true]; done)
    | (intro x; (try dsimp only); (repeat' split) <;> (simp only [StagingS.blank, b217, if_true]; done))
    | refine State.modStg_keep ?_ ?_
    | apply State.reloadBand_keep
    | apply KeepR.next
    | split
    | dsimp only
    | intro _

theorem execSecureErase_keep {l : Nat} (h : covers 0x4430008eca200000000000000f71ef8300b801fc3ae00f8ff81b80da09c00000000000000040000120400 l) {s : State} {u : State} (k : Keep l s u) (a0) :
    KeepR l s (execSecureErase a0 u) := by
  unfold execSecureErase
  with_reducible repeat' first
    | assumption
    | exact covers_trans (by decide) h
    | apply keep_ite
    | apply keepR_ite
    | apply mailboxed_keep
    | apply State.hostSanitize_keep
    | apply KeepR.next
    | split
    | dsimp only
    | intro _

theorem State.capacityResponse_keep {l : Nat} (h : covers 0x4430008eca200100000000000000000000000000000000000000000023800000000000000000000000000 l) {s : State} {u : State} (k : Keep l s u) (a0) (a1) (a2) :
    Keep l s (State.capacityResponse a0 a1 a2 u) := by
  unfold State.capacityResponse
  with_reducible repeat' first
    | assumption
    | exact covers_trans (by decide) h
    | apply keep_ite
    | apply State.movePair_keep
    | apply State.mbReturn_keep
    | split
    | dsimp only
    | intro _

theorem execAddDynamicCapacityResponse_keep {l : Nat} (h : covers 0x4430008eca200100000000000000000000000000000000000000000023800000000000000000000000000 l) {s : State} {u : State} (k : Keep l s u) (a0) (a1) (a2) :
    KeepR l s (execAddDynamicCapacityResponse a0 a1 a2 u) := by
  unfold execAddDynamicCapacityResponse
  with_reducible repeat' first
    | assumption
    | exact covers_trans (by decide) h
    | apply keep_ite
    | apply keepR_ite
    | apply mailboxed_keep
    | apply State.capacityResponse_keep
    | apply KeepR.next
    | split
    | dsimp only
    | intro _

theorem execReleaseDynamicCapacity_keep {l : Nat} (h : covers 0x4430008eca200100000000000000000000000000000000000000000023800000000000000000000000000 l) {s : State} {u : State} (k : Keep l s u) (a0) (a1) :
    KeepR l s (execReleaseDynamicCapacity a0 a1 u) := by
  unfold execReleaseDynamicCapacity
  with_reducible repeat' first
    | assumption
    | exact covers_trans (by decide) h
    | apply keep_ite
    | apply keepR_ite
    | apply mailboxed_keep
    | apply State.capacityRelease_keep
    | apply KeepR.next
    | split
    | dsimp only
    | intro _

theorem execGetDynamicCapacityExtentList_keep {l : Nat} (h : covers 0x4000000000000000000000000000000000000000000000000000000001800000000000000000000000000 l) {s : State} {u : State} (k : Keep l s u) (a0) :
    KeepR l s (execGetDynamicCapacityExtentList a0 u) := by
  unfold execGetDynamicCapacityExtentList
  with_reducible repeat' first
    | assumption
    | exact covers_trans (by decide) h
    | apply keep_ite
    | apply keepR_ite
    | apply mailboxed_keep
    | apply State.capacityList_keep
    | apply KeepR.next
    | split
    | dsimp only
    | intro _

theorem State.setHint_keep {l : Nat} (h : covers 0x4000000000000100000000000000000000000000000000000000000024800000000000000000000000000 l) {s : State} {u : State} (k : Keep l s u) (a0) (a1) (a2) (a3) (a4) :
    Keep l s (State.setHint a0 a1 a2 a3 a4 u) := by
  unfold State.setHint
  with_reducible repeat' first
    | assumption
    | exact covers_trans (by decide) h
    | apply keep_ite
    | refine forEach_keep (fun _ _ _ => ?_) ?_ _
    | apply State.journal_keep
    | apply State.mbReturn_keep
    | apply State.modExtent_keep
    | split
    | dsimp only
    | intro _

theorem execSetExtentHint_keep {l : Nat} (h : covers 0x4000000000000100000000000000000000000000000000000000000025800000000000000000000000000 l) {s : State} {u : State} (k : Keep l s u) (a0) (a1) (a2) (a3) (a4) :
    KeepR l s (execSetExtentHint a0 a1 a2 a3 a4 u) := by
  unfold execSetExtentHint
  with_reducible repeat' first
    | assumption
    | exact covers_trans (by decide) h
    | apply keep_ite
    | apply keepR_ite
    | apply mailboxed_keep
    | apply State.setHint_keep
    | apply KeepR.next
    | split
    | dsimp only
    | intro _

theorem State.extentStates_keep {l : Nat} (h : covers 0x4000000000000000000000000000000000000000000000000000000000800000000000000000000000000 l) {s : State} {u : State} (k : Keep l s u) (a0) (a1) (a2) (a3) :
    Keep l s (State.extentStates a0 a1 a2 a3 u) := by
  unfold State.extentStates
  with_reducible repeat' first
    | assumption
    | exact covers_trans (by decide) h
    | apply keep_ite
    | apply State.mbReturn_keep
    | split
    | dsimp only
    | intro _

theorem execGetExtentState_keep {l : Nat} (h : covers 0x4000000000000000000000000000000000000000000000000000000001800000000000000000000000000 l) {s : State} {u : State} (k : Keep l s u) (a0) (a1) (a2) (a3) :
    KeepR l s (execGetExtentState a0 a1 a2 a3 u) := by
  unfold execGetExtentState
  with_reducible repeat' first
    | assumption
    | exact covers_trans (by decide) h
    | apply keep_ite
    | apply keepR_ite
    | apply mailboxed_keep
    | apply State.extentStates_keep
    | apply KeepR.next
    | split
    | dsimp only
    | intro _

theorem execUnsupportedOpcode_keep {l : Nat} (h : covers 0x4000000000000000000000000000000000000000000000000000000001800000000000000000000000000 l) {s : State} {u : State} (k : Keep l s u) (a0) (a1) :
    KeepR l s (execUnsupportedOpcode a0 a1 u) := by
  unfold execUnsupportedOpcode
  with_reducible repeat' first
    | assumption
    | exact covers_trans (by decide) h
    | apply keep_ite
    | apply keepR_ite
    | apply mailboxed_keep
    | apply State.mbReturn_keep
    | apply KeepR.next
    | split
    | dsimp only
    | intro _

theorem execExtentOffer_keep {l : Nat} (h : covers 0x4430008eca200100000000000000000000000000000000000000000037800000000000000000000033c00 l) {s : State} {u : State} (k : Keep l s u) (a0) (a1) (a2) (a3) (a4) :
    KeepR l s (execExtentOffer a0 a1 a2 a3 a4 u) := by
  unfold execExtentOffer
  with_reducible repeat' first
    | assumption
    | exact covers_trans (by decide) h
    | apply keep_ite
    | apply keepR_ite
    | apply guarded_keep
    | apply accessed_keep
    | apply respondAccess_keep
    | apply State.offerOp_keep
    | apply KeepR.next
    | split
    | dsimp only
    | intro _

theorem State.offerStep_keep {l : Nat} (h : covers 0x4430008eca200000000000000000000000000000000000000000000010000000000000000000000020400 l) {s : State} {u : State} (k : Keep l s u) (a0) :
    Keep l s (State.offerStep a0 u) := by
  have b112 := covers_bit (i := 112) h (by decide)
  unfold State.offerStep
  with_reducible repeat' first
    | assumption
    | exact covers_trans (by decide) h
    | apply keep_ite
    | (intro x; simp only [ExtS.blank, b112, if_true]; done)
    | (intro x; (try dsimp only); (repeat' split) <;> (simp only [ExtS.blank, b112, if_true]; done))
    | refine State.modExt_keep ?_ ?_
    | apply State.ticketDone_keep
    | split
    | dsimp only
    | intro _

theorem execRegionChangeComplete_keep {l : Nat} (h : covers 0x4430008eca200100000000000f71ef8300b801fc3ae00f8ff81b80da3fc00000000000000040000120400 l) {s : State} {u : State} (k : Keep l s u) (a0) :
    KeepR l s (execRegionChangeComplete a0 u) := by
  unfold execRegionChangeComplete
  with_reducible repeat' first
    | assumption
    | exact covers_trans (by decide) h
    | apply keep_ite
    | apply keepR_ite
    | apply State.journal_keep
    | apply State.sanitizeExtent_keep
    | apply State.offerTo_keep
    | apply State.modExtent_keep
    | apply State.offerStep_keep
    | apply KeepR.next
    | split
    | dsimp only
    | intro _

theorem execOfferTimeout_keep {l : Nat} (h : covers 0x4430008eca200100000000000000000000000000000000000000000023800000000000000000000000000 l) {s : State} {u : State} (k : Keep l s u) (a0) (a1) :
    KeepR l s (execOfferTimeout a0 a1 u) := by
  unfold execOfferTimeout
  with_reducible repeat' first
    | assumption
    | exact covers_trans (by decide) h
    | apply keep_ite
    | apply keepR_ite
    | apply State.movePair_keep
    | apply KeepR.next
    | split
    | dsimp only
    | intro _

theorem execExtentDrainComplete_keep {l : Nat} (h : covers 0x4430008eca200100000000000000000000000000000000000000000023800000000000000000000000000 l) {s : State} {u : State} (k : Keep l s u) (a0) (a1) :
    KeepR l s (execExtentDrainComplete a0 a1 u) := by
  unfold execExtentDrainComplete
  with_reducible repeat' first
    | assumption
    | exact covers_trans (by decide) h
    | apply keep_ite
    | apply keepR_ite
    | apply State.movePair_keep
    | apply KeepR.next
    | split
    | dsimp only
    | intro _

theorem execRegionCreate_keep {l : Nat} (h : covers 0x4430008ece20000000000000000000000000000000000000000000000880000000000000000000003bc00 l) {s : State} {u : State} (k : Keep l s u) (a0) (a1) :
    KeepR l s (execRegionCreate a0 a1 u) := by
  unfold execRegionCreate
  with_reducible repeat' first
    | assumption
    | exact covers_trans (by decide) h
    | apply keep_ite
    | apply keepR_ite
    | apply accessed_keep
    | apply respondAccess_keep
    | apply State.regionOp_keep
    | apply KeepR.next
    | split
    | dsimp only
    | intro _

theorem execRegionMaskChange_keep {l : Nat} (h : covers 0x4430008ece20000000000000000000000000000000000000000000000880000000000000000000003bc00 l) {s : State} {u : State} (k : Keep l s u) (a0) (a1) :
    KeepR l s (execRegionMaskChange a0 a1 u) := by
  unfold execRegionMaskChange
  with_reducible repeat' first
    | assumption
    | exact covers_trans (by decide) h
    | apply keep_ite
    | apply keepR_ite
    | apply accessed_keep
    | apply respondAccess_keep
    | apply State.regionOp_keep
    | apply KeepR.next
    | split
    | dsimp only
    | intro _

theorem execRegionDelete_keep {l : Nat} (h : covers 0x4430008ece20000000000000000000000000000000000000000000000880000000000000000000003bc00 l) {s : State} {u : State} (k : Keep l s u) (a0) :
    KeepR l s (execRegionDelete a0 u) := by
  unfold execRegionDelete
  with_reducible repeat' first
    | assumption
    | exact covers_trans (by decide) h
    | apply keep_ite
    | apply keepR_ite
    | apply accessed_keep
    | apply respondAccess_keep
    | apply State.regionOp_keep
    | apply KeepR.next
    | split
    | dsimp only
    | intro _

theorem State.recordFault_keep {l : Nat} (h : covers 0x4430008eca200000000000000000000000000000000000000000000001800000000000000000000000000 l) {s : State} {u : State} (k : Keep l s u) (a0) :
    Keep l s (State.recordFault a0 u).2 := by
  unfold State.recordFault
  with_reducible repeat' first
    | assumption
    | exact covers_trans (by decide) h
    | apply keep_ite
    | apply keep_ite_snd
    | refine forEach_keep (fun _ _ _ => ?_) ?_ _
    | apply State.logE_keep
    | refine snd_of_eq ‹State.logE _ _ = _› (State.logE_keep ?_ ?_ _)
    | apply State.eqPost_keep
    | split
    | dsimp only
    | intro _

theorem State.countHour_keep {l : Nat} (h : covers 0x4000000000000000000000000000000000000000000000000000000000 l) {s : State} {u : State} (k : Keep l s u) (a0) :
    Keep l s (State.countHour a0 u) := by
  unfold State.countHour
  with_reducible repeat' first
    | assumption
    | exact covers_trans (by decide) h
    | apply keep_ite
    | apply State.modSource_keep
    | split
    | dsimp only
    | intro _

theorem State.countMessage_keep {l : Nat} (h : covers 0x4300000000000000000000000000000000000000000000000000000000 l) {s : State} {u : State} (k : Keep l s u) (a0) (a1) :
    Keep l s (State.countMessage a0 a1 u) := by
  have b224 := covers_bit (i := 224) h (by decide)
  have b225 := covers_bit (i := 225) h (by decide)
  unfold State.countMessage
  with_reducible repeat' first
    | assumption
    | exact covers_trans (by decide) h
    | apply keep_ite
    | (intro x; simp only [FaultS.blank, b224, b225, if_true]; done)
    | (intro x; (try dsimp only); (repeat' split) <;> (simp only [FaultS.blank, b224, b225, if_true]; done))
    | refine State.modFlt_keep ?_ ?_
    | apply State.modSource_keep
    | apply State.countHour_keep
    | split
    | dsimp only
    | intro _

theorem State.queueLossCheck_keep {l : Nat} (h : covers 0x4430008eca200000000000000000020000000000000000000000000000000000000000000000000000000 l) {s : State} {u : State} (k : Keep l s u)  :
    Keep l s (State.queueLossCheck u) := by
  have b221 := covers_bit (i := 221) h (by decide)
  unfold State.queueLossCheck
  with_reducible repeat' first
    | assumption
    | exact covers_trans (by decide) h
    | apply keep_ite
    | (intro x; simp only [FaultS.blank, b221, if_true]; done)
    | (intro x; (try dsimp only); (repeat' split) <;> (simp only [FaultS.blank, b221, if_true]; done))
    | refine State.modFlt_keep ?_ ?_
    | apply State.record_keep
    | split
    | dsimp only
    | intro _

theorem execFaultMessageTaken_keep {l : Nat} (h : covers 0xd4b8008eca20000000000406dfffff79870038441df01f8ff67b87d881c00000000000000050000124400 l) {s : State} {u : State} (k : Keep l s u)  :
    KeepR l s (execFaultMessageTaken u) := by
  have b220 := covers_bit (i := 220) h (by decide)
  unfold execFaultMessageTaken
  with_reducible repeat' first
    | assumption
    | exact covers_trans (by decide) h
    | apply keep_ite
    | apply keepR_ite
    | (intro x; simp only [FaultS.blank, b220, if_true]; done)
    | (intro x; (try dsimp only); (repeat' split) <;> (simp only [FaultS.blank, b220, if_true]; done))
    | refine State.modFlt_keep ?_ ?_
    | apply State.notify_keep
    | apply State.fireWhere_keep
    | apply State.react_keep
    | apply State.recordFault_keep
    | refine snd_of_eq ‹State.recordFault _ _ = _› (State.recordFault_keep ?_ ?_ _)
    | apply State.countMessage_keep
    | apply State.queueLossCheck_keep
    | apply KeepR.next
    | split
    | dsimp only
    | intro _

theorem execFatalLineAssert_keep {l : Nat} (h : covers 0x4430008eca200000000000000f71ef0000000000000000000018000001c00000000000000040000100000 l) {s : State} {u : State} (k : Keep l s u) (a0) :
    KeepR l s (execFatalLineAssert a0 u) := by
  unfold execFatalLineAssert
  with_reducible repeat' first
    | assumption
    | exact covers_trans (by decide) h
    | apply keep_ite
    | apply keepR_ite
    | apply State.report_keep
    | apply KeepR.next
    | split
    | dsimp only
    | intro _

theorem execStickyBitPersist_keep {l : Nat} (h : covers 0x2200000000000000000800000000000000000000000000000000000000000000000000000000 l) {s : State} {u : State} (k : Keep l s u) (a0) :
    KeepR l s (execStickyBitPersist a0 u) := by
  have b227 := covers_bit (i := 227) h (by decide)
  unfold execStickyBitPersist
  with_reducible repeat' first
    | assumption
    | exact covers_trans (by decide) h
    | apply keep_ite
    | apply keepR_ite
    | (intro x; simp only [FaultS.blank, b227, if_true]; done)
    | (intro x; (try dsimp only); (repeat' split) <;> (simp only [FaultS.blank, b227, if_true]; done))
    | refine State.modFlt_keep ?_ ?_
    | apply State.storeWrite_keep
    | apply KeepR.next
    | split
    | dsimp only
    | intro _

theorem execStickyBitClear_keep {l : Nat} (h : covers 0x4430008ece200000000000000001c0000000000000000000000000000080000000000000000000003bc00 l) {s : State} {u : State} (k : Keep l s u) (a0) (a1) :
    KeepR l s (execStickyBitClear a0 a1 u) := by
  unfold execStickyBitClear
  with_reducible repeat' first
    | assumption
    | exact covers_trans (by decide) h
    | apply keep_ite
    | apply keepR_ite
    | apply accessed_keep
    | apply respondAccess_keep
    | apply State.stickyOp_keep
    | apply KeepR.next
    | split
    | dsimp only
    | intro _

theorem execQuietTimerExpiry_keep {l : Nat} (h : covers 0x4430008eca200000000000000ff3ef0800000000000000000018000001c00000000000000040000120400 l) {s : State} {u : State} (k : Keep l s u) (a0) :
    KeepR l s (execQuietTimerExpiry a0 u) := by
  unfold execQuietTimerExpiry
  with_reducible repeat' first
    | assumption
    | exact covers_trans (by decide) h
    | apply keep_ite
    | apply keepR_ite
    | apply State.askProbe_keep
    | apply KeepR.next
    | split
    | dsimp only
    | intro _

theorem execProbeComplete_keep {l : Nat} (h : covers 0x4438008eca20000000000406cff7ef490000000411f01f81d618078881c00000000002000050000120400 l) {s : State} {u : State} (k : Keep l s u) (a0) (a1) :
    KeepR l s (execProbeComplete a0 a1 u) := by
  have b218 := covers_bit (i := 218) h (by decide)
  unfold execProbeComplete
  with_reducible repeat' first
    | assumption
    | exact covers_trans (by decide) h
    | apply keep_ite
    | apply keepR_ite
    | (intro x; simp only [StagingS.blank, b218, if_true]; done)
    | (intro x; (try dsimp only); (repeat' split) <;> (simp only [StagingS.blank, b218, if_true]; done))
    | refine State.modStg_keep ?_ ?_
    | apply State.modSram_keep
    | apply State.probeWaiting_keep
    | apply State.probeFailed_keep
    | apply State.readmit_keep
    | apply State.probeCounts_keep
    | apply KeepR.next
    | split
    | dsimp only
    | intro _

theorem execOperatorFence_keep {l : Nat} (h : covers 0xd4b8008eca20000000000406cff3ef79870038441df01f8ff67b87d881c00000000000000050000137c00 l) {s : State} {u : State} (k : Keep l s u) (a0) (a1) :
    KeepR l s (execOperatorFence a0 a1 u) := by
  unfold execOperatorFence
  with_reducible repeat' first
    | assumption
    | exact covers_trans (by decide) h
    | apply keep_ite
    | apply keepR_ite
    | apply guarded_keep
    | apply accessed_keep
    | apply respondAccess_keep
    | apply State.fenceOp_keep
    | apply KeepR.next
    | split
    | dsimp only
    | intro _

theorem execOperatorReadmit_keep {l : Nat} (h : covers 0x4430008eca200000000000000ff3ef0800000000000000000018000001c00000000000000040000133c00 l) {s : State} {u : State} (k : Keep l s u) (a0) (a1) :
    KeepR l s (execOperatorReadmit a0 a1 u) := by
  unfold execOperatorReadmit
  with_reducible repeat' first
    | assumption
    | exact covers_trans (by decide) h
    | apply keep_ite
    | apply keepR_ite
    | apply guarded_keep
    | apply accessed_keep
    | apply respondAccess_keep
    | apply State.readmitOp_keep
    | apply KeepR.next
    | split
    | dsimp only
    | intro _

theorem execEngineTimeout_keep {l : Nat} (h : covers 0x4430008eca200000000000000f71ef0000000000000000000018000001c00000000000000040000100000 l) {s : State} {u : State} (k : Keep l s u) (a0) (a1) :
    KeepR l s (execEngineTimeout a0 a1 u) := by
  unfold execEngineTimeout
  with_reducible repeat' first
    | assumption
    | exact covers_trans (by decide) h
    | apply keep_ite
    | apply keepR_ite
    | apply State.report_keep
    | apply KeepR.next
    | split
    | dsimp only
    | intro _

theorem execStagingParityRecomputeDone_keep {l : Nat} (h : covers 0x9000000000000000000000000000000000000000000000000000000 l) {s : State} {u : State} (k : Keep l s u) (a0) :
    KeepR l s (execStagingParityRecomputeDone a0 u) := by
  unfold execStagingParityRecomputeDone
  with_reducible repeat' first
    | assumption
    | exact covers_trans (by decide) h
    | apply keep_ite
    | apply keepR_ite
    | apply State.reparityPart_keep
    | apply KeepR.next
    | split
    | dsimp only
    | intro _

theorem State.partCheckFailed_keep {l : Nat} (h : covers 0x4430008eca200000000000000f71ef0030000000000000000018000001c00000000000000040000100000 l) {s : State} {u : State} (k : Keep l s u) (a0) :
    Keep l s (State.partCheckFailed a0 u) := by
  have b208 := covers_bit (i := 208) h (by decide)
  have b209 := covers_bit (i := 209) h (by decide)
  unfold State.partCheckFailed
  with_reducible repeat' first
    | assumption
    | exact covers_trans (by decide) h
    | apply keep_ite
    | (intro x; simp only [ScrubS.blank, b208, b209, if_true]; done)
    | (intro x; (try dsimp only); (repeat' split) <;> (simp only [ScrubS.blank, b208, b209, if_true]; done))
    | refine State.modScr_keep ?_ ?_
    | apply State.report_keep
    | split
    | dsimp only
    | intro _

theorem execSramInitDone_keep {l : Nat} (h : covers 0x4430008eca20000000000446cf71ef083000000411f01f81d618078001c00000000000000050000120400 l) {s : State} {u : State} (k : Keep l s u) (a0) (a1) :
    KeepR l s (execSramInitDone a0 a1 u) := by
  have b208 := covers_bit (i := 208) h (by decide)
  have b209 := covers_bit (i := 209) h (by decide)
  have b250 := covers_bit (i := 250) h (by decide)
  unfold execSramInitDone
  with_reducible repeat' first
    | assumption
    | exact covers_trans (by decide) h
    | apply keep_ite
    | apply keepR_ite
    | (intro x; simp only [StartS.blank, ScrubS.blank, b208, b209, b250, if_true]; done)
    | (intro x; (try dsimp only); (repeat' split) <;> (simp only [StartS.blank, ScrubS.blank, b208, b209, b250, if_true]; done))
    | refine State.modStr_keep ?_ ?_
    | refine State.modScr_keep ?_ ?_
    | apply State.mapStep_keep
    | apply State.modSram_keep
    | apply State.coreCheckFailed_keep
    | apply State.partCheckFailed_keep
    | apply KeepR.next
    | split
    | dsimp only
    | intro _

theorem execChannelTrainingDone_keep {l : Nat} (h : covers 0x4430008eca20000000000406cf71ef000000000411f01f81d618078001c00000000000000050000120400 l) {s : State} {u : State} (k : Keep l s u) (a0) :
    KeepR l s (execChannelTrainingDone a0 u) := by
  unfold execChannelTrainingDone
  with_reducible repeat' first
    | assumption
    | exact covers_trans (by decide) h
    | apply keep_ite
    | apply keepR_ite
    | apply State.modChannel_keep
    | apply State.mapStep_keep
    | apply KeepR.next
    | split
    | dsimp only
    | intro _

theorem execOrphanLimit_keep {l : Nat} (h : covers 0x4430008eca200000004000000f71ef0000000000000000000018000001c00000000000000040000100000 l) {s : State} {u : State} (k : Keep l s u)  :
    KeepR l s (execOrphanLimit u) := by
  have b266 := covers_bit (i := 266) h (by decide)
  unfold execOrphanLimit
  with_reducible repeat' first
    | assumption
    | exact covers_trans (by decide) h
    | apply keep_ite
    | apply keepR_ite
    | (intro x; simp only [CoxS.blank, b266, if_true]; done)
    | (intro x; (try dsimp only); (repeat' split) <;> (simp only [CoxS.blank, b266, if_true]; done))
    | refine State.modCox_keep ?_ ?_
    | apply State.report_keep
    | apply KeepR.next
    | split
    | dsimp only
    | intro _

theorem State.optionWord_keep {l : Nat} (h : covers 0x4430008eca200ef7800000000000000000000000000000000000000000000000000000000000000020400 l) {s : State} {u : State} (k : Keep l s u)  :
    Keep l s (State.optionWord u) := by
  have b275 := covers_bit (i := 275) h (by decide)
  have b285 := covers_bit (i := 285) h (by decide)
  have b286 := covers_bit (i := 286) h (by decide)
  have b287 := covers_bit (i := 287) h (by decide)
  unfold State.optionWord
  with_reducible repeat' first
    | assumption
    | exact covers_trans (by decide) h
    | apply keep_ite
    | (intro x; simp only [FlashS.blank, CoxS.blank, b275, b285, b286, b287, if_true]; done)
    | (intro x; (try dsimp only); (repeat' split) <;> (simp only [FlashS.blank, CoxS.blank, b275, b285, b286, b287, if_true]; done))
    | refine State.modFls_keep ?_ ?_
    | refine State.modCox_keep ?_ ?_
    | apply State.ticketDone_keep
    | apply State.notifyObject_keep
    | apply State.flashAsk_keep
    | split
    | dsimp only
    | intro _

theorem execFlashProgramDone_keep {l : Nat} (h : covers 0x4430008eca200ff7800000000f71ef0000000000000000000018000001c00000000000000040000120400 l) {s : State} {u : State} (k : Keep l s u) (a0) :
    KeepR l s (execFlashProgramDone a0 u) := by
  have b276 := covers_bit (i := 276) h (by decide)
  have b284 := covers_bit (i := 284) h (by decide)
  unfold execFlashProgramDone
  with_reducible repeat' first
    | assumption
    | exact covers_trans (by decide) h
    | apply keep_ite
    | apply keepR_ite
    | (intro x; simp only [FlashS.blank, b276, b284, if_true]; done)
    | (intro x; (try dsimp only); (repeat' split) <;> (simp only [FlashS.blank, b276, b284, if_true]; done))
    | refine State.modFls_keep ?_ ?_
    | apply State.report_keep
    | apply State.optionFailed_keep
    | apply State.flashKick_keep
    | apply State.optionWord_keep
    | apply KeepR.next
    | split
    | dsimp only
    | intro _

theorem execFlashSuspend_keep {l : Nat} (h : covers 0xff000000000000000000000000000000000000000000000000000000000000000000000 l) {s : State} {u : State} (k : Keep l s u)  :
    KeepR l s (execFlashSuspend u) := by
  have b279 := covers_bit (i := 279) h (by decide)
  unfold execFlashSuspend
  with_reducible repeat' first
    | assumption
    | exact covers_trans (by decide) h
    | apply keep_ite
    | apply keepR_ite
    | (intro x; simp only [FlashS.blank, b279, if_true]; done)
    | (intro x; (try dsimp only); (repeat' split) <;> (simp only [FlashS.blank, b279, if_true]; done))
    | refine State.modFls_keep ?_ ?_
    | apply State.flashKick_keep
    | apply KeepR.next
    | split
    | dsimp only
    | intro _

theorem execJournalCompaction_keep {l : Nat} (h : covers 0x100000000000000000000000000000000000000000060000000000000000000000000000 l) {s : State} {u : State} (k : Keep l s u)  :
    KeepR l s (execJournalCompaction u) := by
  have b113 := covers_bit (i := 113) h (by decide)
  have b114 := covers_bit (i := 114) h (by decide)
  have b284 := covers_bit (i := 284) h (by decide)
  unfold execJournalCompaction
  with_reducible repeat' first
    | assumption
    | exact covers_trans (by decide) h
    | apply keep_ite
    | apply keepR_ite
    | (intro x; simp only [ExtS.blank, FlashS.blank, b113, b114, b284, if_true]; done)
    | (intro x; (try dsimp only); (repeat' split) <;> (simp only [ExtS.blank, FlashS.blank, b113, b114, b284, if_true]; done))
    | refine State.modExt_keep ?_ ?_
    | refine State.modFls_keep ?_ ?_
    | apply KeepR.next
    | split
    | dsimp only
    | intro _

theorem execUpdateBegin_keep {l : Nat} (h : covers 0x4430008eca2430f7000000000000000000000000000000000000000000800000000000000000000033c00 l) {s : State} {u : State} (k : Keep l s u) (a0) (a1) :
    KeepR l s (execUpdateBegin a0 a1 u) := by
  unfold execUpdateBegin
  with_reducible repeat' first
    | assumption
    | exact covers_trans (by decide) h
    | apply keep_ite
    | apply keepR_ite
    | apply guarded_keep
    | apply accessed_keep
    | apply respondAccess_keep
    | apply State.updateOp_keep
    | apply KeepR.next
    | split
    | dsimp only
    | intro _

theorem execImageSegment_keep {l : Nat} (h : covers 0x4430008eca203100000000000000000000000000000000000000000000800000000000000000000030400 l) {s : State} {u : State} (k : Keep l s u) (a0) (a1) :
    KeepR l s (execImageSegment a0 a1 u) := by
  unfold execImageSegment
  with_reducible repeat' first
    | assumption
    | exact covers_trans (by decide) h
    | apply keep_ite
    | apply keepR_ite
    | apply accessed_keep
    | apply respondAccess_keep
    | apply State.segmentOp_keep
    | apply KeepR.next
    | split
    | dsimp only
    | intro _

theorem execActivate_keep {l : Nat} (h : covers 0x54b8008eca2dbc7dfffff00c8000000000000000000000000000000003800000000000000000000037c00 l) {s : State} {u : State} (k : Keep l s u) (a0) :
    KeepR l s (execActivate a0 u) := by
  unfold execActivate
  with_reducible repeat' first
    | assumption
    | exact covers_trans (by decide) h
    | apply keep_ite
    | apply keepR_ite
    | apply State.restartInto_keep
    | apply guarded_keep
    | apply accessed_keep
    | apply respondAccess_keep
    | apply State.activateOp_keep
    | apply KeepR.next
    | split
    | dsimp only
    | intro _

theorem execTrialConfirm_keep {l : Nat} (h : covers 0x221f000000000000000000000000000000000000000000000000000000000000000000000000 l) {s : State} {u : State} (k : Keep l s u)  :
    KeepR l s (execTrialConfirm u) := by
  have b290 := covers_bit (i := 290) h (by decide)
  have b291 := covers_bit (i := 291) h (by decide)
  have b292 := covers_bit (i := 292) h (by decide)
  unfold execTrialConfirm
  with_reducible repeat' first
    | assumption
    | exact covers_trans (by decide) h
    | apply keep_ite
    | apply keepR_ite
    | (intro x; simp only [ImagesS.blank, b290, b291, b292, if_true]; done)
    | (intro x; (try dsimp only); (repeat' split) <;> (simp only [ImagesS.blank, b290, b291, b292, if_true]; done))
    | refine State.modImg_keep ?_ ?_
    | apply State.storeWrite_keep
    | apply State.modImage_keep
    | apply KeepR.next
    | split
    | dsimp only
    | intro _

theorem execPageWriteDone_keep {l : Nat} (h : covers 0x4430008ecfe00000000000000f71ef0000000000000000000018000001c00000000000000040000100000 l) {s : State} {u : State} (k : Keep l s u) (a0) :
    KeepR l s (execPageWriteDone a0 u) := by
  unfold execPageWriteDone
  with_reducible repeat' first
    | assumption
    | exact covers_trans (by decide) h
    | apply keep_ite
    | apply keepR_ite
    | apply State.countPages_keep
    | apply State.frontWrite_keep
    | apply State.pageFailed_keep
    | apply KeepR.next
    | split
    | dsimp only
    | intro _

theorem execOperatingTimeCellWrite_keep {l : Nat} (h : covers 0x400000000000000000000000000000000000000000000000000000000000000000000000001c l) {s : State} {u : State} (k : Keep l s u)  :
    KeepR l s (execOperatingTimeCellWrite u) := by
  have b2 := covers_bit (i := 2) h (by decide)
  have b3 := covers_bit (i := 3) h (by decide)
  have b4 := covers_bit (i := 4) h (by decide)
  unfold execOperatingTimeCellWrite
  with_reducible repeat' first
    | assumption
    | exact covers_trans (by decide) h
    | apply keep_ite
    | apply keepR_ite
    | (intro x; simp only [TimeS.blank, b2, b3, b4, TimeS.writeCell, if_true]; done)
    | (intro x; (try dsimp only); (repeat' split) <;> (simp only [TimeS.blank, b2, b3, b4, TimeS.writeCell, if_true]; done))
    | refine State.modTim_keep ?_ ?_
    | apply State.countPages_keep
    | apply KeepR.next
    | split
    | dsimp only
    | intro _

theorem execStagingLoss_keep {l : Nat} (h : covers 0x4430008eca200000000000000000000000000000000000000000000000000000000000000000000000000 l) {s : State} {u : State} (k : Keep l s u)  :
    KeepR l s (execStagingLoss u) := by
  unfold execStagingLoss
  with_reducible repeat' first
    | assumption
    | exact covers_trans (by decide) h
    | apply keep_ite
    | apply keepR_ite
    | apply State.lossCheck_keep
    | apply KeepR.next
    | split
    | dsimp only
    | intro _

theorem execAreaFClear_keep {l : Nat} (h : covers 0x4430009eca2000f7000000000000000000000000000000000000000000800000000000000000000033c00 l) {s : State} {u : State} (k : Keep l s u) (a0) :
    KeepR l s (execAreaFClear a0 u) := by
  unfold execAreaFClear
  with_reducible repeat' first
    | assumption
    | exact covers_trans (by decide) h
    | apply keep_ite
    | apply keepR_ite
    | apply guarded_keep
    | apply accessed_keep
    | apply respondAccess_keep
    | apply State.clearFOp_keep
    | apply KeepR.next
    | split
    | dsimp only
    | intro _

theorem execSnapshotDefinitionWrite_keep {l : Nat} (h : covers 0x443000aece20000000000000000000000000000000000000000000000080000000000000000000003bc00 l) {s : State} {u : State} (k : Keep l s u) (a0) (a1) (a2) (a3) :
    KeepR l s (execSnapshotDefinitionWrite a0 a1 a2 a3 u) := by
  unfold execSnapshotDefinitionWrite
  with_reducible repeat' first
    | assumption
    | exact covers_trans (by decide) h
    | apply keep_ite
    | apply keepR_ite
    | apply accessed_keep
    | apply respondAccess_keep
    | apply State.snapOp_keep
    | apply KeepR.next
    | split
    | dsimp only
    | intro _

theorem execSnapshotPeriodic_keep {l : Nat} (h : covers 0x8eca200000000000000000000000000000000000000000000000000000000000000000000000000 l) {s : State} {u : State} (k : Keep l s u) (a0) :
    KeepR l s (execSnapshotPeriodic a0 u) := by
  unfold execSnapshotPeriodic
  with_reducible repeat' first
    | assumption
    | exact covers_trans (by decide) h
    | apply keep_ite
    | apply keepR_ite
    | apply State.fire_keep
    | apply KeepR.next
    | split
    | dsimp only
    | intro _

theorem execEraseMinimumRunEnd_keep {l : Nat} (h : covers 0xf7000000000000000000000000000000000000000000000000000000000000000000000 l) {s : State} {u : State} (k : Keep l s u)  :
    KeepR l s (execEraseMinimumRunEnd u) := by
  have b281 := covers_bit (i := 281) h (by decide)
  unfold execEraseMinimumRunEnd
  with_reducible repeat' first
    | assumption
    | exact covers_trans (by decide) h
    | apply keep_ite
    | apply keepR_ite
    | (intro x; simp only [FlashS.blank, b281, if_true]; done)
    | (intro x; (try dsimp only); (repeat' split) <;> (simp only [FlashS.blank, b281, if_true]; done))
    | refine State.modFls_keep ?_ ?_
    | apply State.flashKick_keep
    | apply KeepR.next
    | split
    | dsimp only
    | intro _

end Sys2Proof.Machine
end

