-- ==== Sys2Proof/Laws/KeepPower.lean ====
section
/-! SUPPORT. What every operation and meaning keeps (health, reset, power, thermal, bank, flush): outside the fields that it lists, the state after is the state before. -/

set_option Elab.async false

set_option linter.unusedTactic false
set_option linter.unreachableTactic false
set_option linter.unnecessarySeqFocus false
set_option linter.unusedSimpArgs false

namespace Sys2Proof.Machine

theorem State.corePowered_keep {l : Nat} (h : covers 0x4430008eca20000000000416cf71ef000000000411f01f81d618078881c00000000000000051000120400 l) {s : State} {u : State} (k : Keep l s u)  :
    Keep l s (State.corePowered u) := by
  have b36 := covers_bit (i := 36) h (by decide)
  have b243 := covers_bit (i := 243) h (by decide)
  have b248 := covers_bit (i := 248) h (by decide)
  unfold State.corePowered
  with_reducible repeat' first
    | assumption
    | exact covers_trans (by decide) h
    | apply keep_ite
    | (intro x; simp only [PowerS.blank, StartS.blank, b36, b243, b248, if_true]; done)
    | (intro x; (try dsimp only); (repeat' split) <;> (simp only [PowerS.blank, StartS.blank, b36, b243, b248, if_true]; done))
    | refine State.modPwr_keep ?_ ?_
    | refine State.modStr_keep ?_ ?_
    | apply State.powerEvent_keep
    | apply State.startTime_keep
    | apply State.mapStep_keep
    | apply State.linksSync_keep
    | split
    | dsimp only
    | intro _

theorem State.seatTx_keep {l : Nat} (h : covers 0x20000000000000000 l) {s : State} {u : State} (k : Keep l s u) (a0) :
    Keep l s (State.seatTx a0 u) := by
  have b65 := covers_bit (i := 65) h (by decide)
  unfold State.seatTx
  with_reducible repeat' first
    | assumption
    | exact covers_trans (by decide) h
    | apply keep_ite
    | (intro x; simp only [SeatBusS.blank, b65, if_true]; done)
    | (intro x; (try dsimp only); (repeat' split) <;> (simp only [SeatBusS.blank, b65, if_true]; done))
    | refine State.modSeat_keep ?_ ?_
    | split
    | dsimp only
    | intro _

theorem State.beginStep_keep {l : Nat} (h : covers 0x20000042000000000 l) {s : State} {u : State} (k : Keep l s u) (a0) :
    Keep l s (State.beginStep a0 u) := by
  have b37 := covers_bit (i := 37) h (by decide)
  unfold State.beginStep
  with_reducible repeat' first
    | assumption
    | exact covers_trans (by decide) h
    | apply keep_ite
    | (intro x; simp only [PowerS.blank, b37, if_true]; done)
    | (intro x; (try dsimp only); (repeat' split) <;> (simp only [PowerS.blank, b37, if_true]; done))
    | refine State.modPwr_keep ?_ ?_
    | refine forEach_keep (fun _ _ _ => ?_) ?_ _
    | apply State.modDomain_keep
    | apply State.seatTx_keep
    | split
    | dsimp only
    | intro _

theorem State.advance_keep {l : Nat} (h : covers 0x4430008eca20000000000416cf71ef000000000411f01f81d618078881c00000000020000053000120400 l) {s : State} {u : State} (k : Keep l s u) (a0) :
    Keep l s (State.advance a0 u) := by
  have bSEQ := covers_bit (i := 36) h (by decide)
  induction a0 generalizing u  with
  | zero =>
    unfold State.advance
    with_reducible repeat' first
      | assumption
      | (intro x; simp only [PowerS.blank, bSEQ, if_true]; done)
      | refine State.modPwr_keep ?_ ?_
      | exact covers_trans (by decide) h
      | apply keep_ite
      | apply State.mediaBack_keep
      | apply State.corePowered_keep
      | apply State.beginStep_keep
      | split
      | dsimp only
      | intro _
  | succ _ ih =>
    unfold State.advance
    with_reducible repeat' first
      | assumption
      | (intro x; simp only [PowerS.blank, bSEQ, if_true]; done)
      | refine State.modPwr_keep ?_ ?_
      | exact covers_trans (by decide) h
      | apply keep_ite
      | apply State.mediaBack_keep
      | apply State.corePowered_keep
      | apply State.beginStep_keep
      | refine ih ?_
      | split
      | dsimp only
      | intro _

theorem State.coreStart_keep {l : Nat} (h : covers 0x4430008eca20000000000717ef71ef000000000411f01f81d618078881c00000020a2000007f000120400 l) {s : State} {u : State} (k : Keep l s u)  :
    Keep l s (State.coreStart u) := by
  have b20 := covers_bit (i := 20) h (by decide)
  have b36 := covers_bit (i := 36) h (by decide)
  have b37 := covers_bit (i := 37) h (by decide)
  have b38 := covers_bit (i := 38) h (by decide)
  have b39 := covers_bit (i := 39) h (by decide)
  have b40 := covers_bit (i := 40) h (by decide)
  have b41 := covers_bit (i := 41) h (by decide)
  have b69 := covers_bit (i := 69) h (by decide)
  have b71 := covers_bit (i := 71) h (by decide)
  have b77 := covers_bit (i := 77) h (by decide)
  have b236 := covers_bit (i := 236) h (by decide)
  have b237 := covers_bit (i := 237) h (by decide)
  have b241 := covers_bit (i := 241) h (by decide)
  have b243 := covers_bit (i := 243) h (by decide)
  have b244 := covers_bit (i := 244) h (by decide)
  have b252 := covers_bit (i := 252) h (by decide)
  have b253 := covers_bit (i := 253) h (by decide)
  have b254 := covers_bit (i := 254) h (by decide)
  unfold State.coreStart
  with_reducible repeat' first
    | assumption
    | exact covers_trans (by decide) h
    | apply keep_ite
    | (intro x; simp only [PowerS.blank, EasyS.blank, BankS.blank, StartS.blank, b20, b36, b37, b38, b39, b40, b41, b69, b71, b77, b236, b237, b241, b243, b244, b252, b253, b254, if_true]; done)
    | (intro x; (try dsimp only); (repeat' split) <;> (simp only [PowerS.blank, EasyS.blank, BankS.blank, StartS.blank, b20, b36, b37, b38, b39, b40, b41, b69, b71, b77, b236, b237, b241, b243, b244, b252, b253, b254, if_true]; done))
    | refine State.modPwr_keep ?_ ?_
    | refine State.modEasy_keep ?_ ?_
    | refine State.modBank_keep ?_ ?_
    | refine State.modStr_keep ?_ ?_
    | apply State.powerEvent_keep
    | apply State.advance_keep
    | split
    | dsimp only
    | intro _

theorem State.startSync_keep {l : Nat} (h : covers 0x4430008eca20000000000717ef71ef000000000411f01f81d618078881c00000020a2000007f000120400 l) {s : State} {u : State} (k : Keep l s u)  :
    Keep l s (State.startSync u) := by
  unfold State.startSync
  with_reducible repeat' first
    | assumption
    | exact covers_trans (by decide) h
    | apply keep_ite
    | apply State.coreStart_keep
    | split
    | dsimp only
    | intro _

theorem State.inputEvent_keep {l : Nat} (h : covers 0x4430008eca200000000000000f71ef0000000000000000000018000001c00000000000000040000100000 l) {s : State} {u : State} (k : Keep l s u)  :
    Keep l s (State.inputEvent u) := by
  unfold State.inputEvent
  with_reducible repeat' first
    | assumption
    | exact covers_trans (by decide) h
    | apply keep_ite
    | apply State.report_keep
    | split
    | dsimp only
    | intro _

theorem State.inputReturns_keep {l : Nat} (h : covers 0x4430008eca20000000000717ef71ef000000000411f01f81d618078881c00000020a2080007f016120400 l) {s : State} {u : State} (k : Keep l s u)  :
    Keep l s (State.inputReturns u) := by
  have b25 := covers_bit (i := 25) h (by decide)
  have b26 := covers_bit (i := 26) h (by decide)
  have b28 := covers_bit (i := 28) h (by decide)
  have b59 := covers_bit (i := 59) h (by decide)
  have b69 := covers_bit (i := 69) h (by decide)
  have b71 := covers_bit (i := 71) h (by decide)
  unfold State.inputReturns
  with_reducible repeat' first
    | assumption
    | exact covers_trans (by decide) h
    | apply keep_ite
    | (intro x; simp only [PowerS.blank, BankS.blank, b25, b26, b28, b59, b69, b71, if_true]; done)
    | (intro x; (try dsimp only); (repeat' split) <;> (simp only [PowerS.blank, BankS.blank, b25, b26, b28, b59, b69, b71, if_true]; done))
    | refine State.modPwr_keep ?_ ?_
    | refine State.modBank_keep ?_ ?_
    | apply State.powerEvent_keep
    | apply State.startSync_keep
    | apply State.inputEvent_keep
    | split
    | dsimp only
    | intro _

theorem State.inputRises_keep {l : Nat} (h : covers 0x4430008eca20000000000717ef71ef000000000411f01f81d618078881c00000020a2080007f056120400 l) {s : State} {u : State} (k : Keep l s u)  :
    Keep l s (State.inputRises u) := by
  have b30 := covers_bit (i := 30) h (by decide)
  unfold State.inputRises
  with_reducible repeat' first
    | assumption
    | exact covers_trans (by decide) h
    | apply keep_ite
    | (intro x; simp only [PowerS.blank, b30, if_true]; done)
    | (intro x; (try dsimp only); (repeat' split) <;> (simp only [PowerS.blank, b30, if_true]; done))
    | refine State.modPwr_keep ?_ ?_
    | apply State.inputReturns_keep
    | split
    | dsimp only
    | intro _

theorem State.startDown_keep {l : Nat} (h : covers 0x1f000000000 l) {s : State} {u : State} (k : Keep l s u) (a0) (a1) :
    Keep l s (State.startDown a0 a1 u) := by
  have b36 := covers_bit (i := 36) h (by decide)
  have b37 := covers_bit (i := 37) h (by decide)
  have b38 := covers_bit (i := 38) h (by decide)
  have b39 := covers_bit (i := 39) h (by decide)
  have b40 := covers_bit (i := 40) h (by decide)
  unfold State.startDown
  with_reducible repeat' first
    | assumption
    | exact covers_trans (by decide) h
    | apply keep_ite
    | (intro x; simp only [PowerS.blank, b36, b37, b38, b39, b40, if_true]; done)
    | (intro x; (try dsimp only); (repeat' split) <;> (simp only [PowerS.blank, b36, b37, b38, b39, b40, if_true]; done))
    | refine State.modPwr_keep ?_ ?_
    | split
    | dsimp only
    | intro _

theorem State.measure_keep {l : Nat} (h : covers 0x180200000000000000000 l) {s : State} {u : State} (k : Keep l s u) (a0) :
    Keep l s (State.measure a0 u) := by
  have b69 := covers_bit (i := 69) h (by decide)
  have b79 := covers_bit (i := 79) h (by decide)
  have b80 := covers_bit (i := 80) h (by decide)
  unfold State.measure
  with_reducible repeat' first
    | assumption
    | exact covers_trans (by decide) h
    | apply keep_ite
    | (intro x; simp only [BankS.blank, b69, b79, b80, if_true]; done)
    | (intro x; (try dsimp only); (repeat' split) <;> (simp only [BankS.blank, b69, b79, b80, if_true]; done))
    | refine State.modBank_keep ?_ ?_
    | split
    | dsimp only
    | intro _

theorem State.measureSync_keep {l : Nat} (h : covers 0x180200000000000000000 l) {s : State} {u : State} (k : Keep l s u)  :
    Keep l s (State.measureSync u) := by
  unfold State.measureSync
  with_reducible repeat' first
    | assumption
    | exact covers_trans (by decide) h
    | apply keep_ite
    | apply State.measure_keep
    | split
    | dsimp only
    | intro _

theorem State.afterFlush_keep {l : Nat} (h : covers 0x4430008eca200000000000004f000f0000000000000000000018000001c0000018020000005f000120400 l) {s : State} {u : State} (k : Keep l s u)  :
    Keep l s (State.afterFlush u) := by
  unfold State.afterFlush
  with_reducible repeat' first
    | assumption
    | exact covers_trans (by decide) h
    | apply keep_ite
    | apply State.easyCheck_keep
    | apply State.startDown_keep
    | apply State.measureSync_keep
    | split
    | dsimp only
    | intro _

theorem State.easyNext_keep {l : Nat} (h : covers 0x4430008eca200000000000004f000f0000000000000000000018000001c0000018020000005f000120400 l) {s : State} {u : State} (k : Keep l s u)  :
    Keep l s (State.easyNext u) := by
  unfold State.easyNext
  with_reducible repeat' first
    | assumption
    | exact covers_trans (by decide) h
    | apply keep_ite
    | apply State.afterFlush_keep
    | split
    | dsimp only
    | intro _

theorem State.pauseSync_keep {l : Nat} (h : covers 0x4430008eca20000000000416cf71ef000000000411f01f81d618078881c00000000020000073000120400 l) {s : State} {u : State} (k : Keep l s u)  :
    Keep l s (State.pauseSync u) := by
  have b41 := covers_bit (i := 41) h (by decide)
  unfold State.pauseSync
  with_reducible repeat' first
    | assumption
    | exact covers_trans (by decide) h
    | apply keep_ite
    | (intro x; simp only [PowerS.blank, b41, if_true]; done)
    | (intro x; (try dsimp only); (repeat' split) <;> (simp only [PowerS.blank, b41, if_true]; done))
    | refine State.modPwr_keep ?_ ?_
    | apply State.advance_keep
    | split
    | dsimp only
    | intro _

theorem State.reachT4_keep {l : Nat} (h : covers 0x4430008eca20000000000416cf71ef000000000411f01f81d618078881c0000018022000007f000120400 l) {s : State} {u : State} (k : Keep l s u)  :
    Keep l s (State.reachT4 u) := by
  unfold State.reachT4
  with_reducible repeat' first
    | assumption
    | exact covers_trans (by decide) h
    | apply keep_ite
    | apply State.easyEnter_keep
    | apply State.startDown_keep
    | apply State.easyNext_keep
    | apply State.pauseSync_keep
    | split
    | dsimp only
    | intro _

theorem State.answerWaiting_keep {l : Nat} (h : covers 0x4430008eca2000000000000000000000000000000000000000000000008000000000000000000000b0500 l) {s : State} {u : State} (k : Keep l s u)  :
    Keep l s (State.answerWaiting u) := by
  have b8 := covers_bit (i := 8) h (by decide)
  have b16 := covers_bit (i := 16) h (by decide)
  have b19 := covers_bit (i := 19) h (by decide)
  unfold State.answerWaiting
  with_reducible repeat' first
    | assumption
    | exact covers_trans (by decide) h
    | apply keep_ite
    | (intro x; simp only [ObjS.blank, b8, b16, b19, if_true]; done)
    | (intro x; (try dsimp only); (repeat' split) <;> (simp only [ObjS.blank, b8, b16, b19, if_true]; done))
    | refine State.modObj_keep ?_ ?_
    | refine forEach_keep (fun _ _ _ => ?_) ?_ _
    | apply State.ticketDone_keep
    | apply State.respondTo_keep
    | split
    | dsimp only
    | intro _

theorem State.stopPlane_keep {l : Nat} (h : covers 0xc430008eca200000000000000f71ef020000000430600c09f018005001c00000000000000040000100000 l) {s : State} {u : State} (k : Keep l s u) (a0) (a1) :
    Keep l s (State.stopPlane a0 a1 u) := by
  unfold State.stopPlane
  with_reducible repeat' first
    | assumption
    | exact covers_trans (by decide) h
    | apply keep_ite
    | refine forEach_keep (fun _ _ _ => ?_) ?_ _
    | apply State.modPlane_keep
    | apply State.destroy_keep
    | apply State.cutOff_keep
    | apply State.completeOp_keep
    | split
    | dsimp only
    | intro _

theorem State.stopPlanes_keep {l : Nat} (h : covers 0xc430008eca200000000000000f71ef020000000430600c0ff018005001c00000000000000040000100000 l) {s : State} {u : State} (k : Keep l s u) (a0) :
    Keep l s (State.stopPlanes a0 u) := by
  have b149 := covers_bit (i := 149) h (by decide)
  have b150 := covers_bit (i := 150) h (by decide)
  have b151 := covers_bit (i := 151) h (by decide)
  unfold State.stopPlanes
  with_reducible repeat' first
    | assumption
    | exact covers_trans (by decide) h
    | apply keep_ite
    | (intro x; simp only [MediaS.blank, b149, b150, b151, if_true]; done)
    | (intro x; (try dsimp only); (repeat' split) <;> (simp only [MediaS.blank, b149, b150, b151, if_true]; done))
    | refine State.modMed_keep ?_ ?_
    | refine forEach_keep (fun _ _ _ => ?_) ?_ _
    | apply State.stopPlane_keep
    | split
    | dsimp only
    | intro _

theorem State.coreLost_keep {l : Nat} (h : covers 0xc430008eca200000000000bc0f71ef7b8480004431f00c0ff03f8ed889c000000000000000400001b0500 l) {s : State} {u : State} (k : Keep l s u) (a0) (a1) :
    Keep l s (State.coreLost a0 a1 u) := by
  have b108 := covers_bit (i := 108) h (by decide)
  have b111 := covers_bit (i := 111) h (by decide)
  have b115 := covers_bit (i := 115) h (by decide)
  have b119 := covers_bit (i := 119) h (by decide)
  have b120 := covers_bit (i := 120) h (by decide)
  have b122 := covers_bit (i := 122) h (by decide)
  have b123 := covers_bit (i := 123) h (by decide)
  have b125 := covers_bit (i := 125) h (by decide)
  have b126 := covers_bit (i := 126) h (by decide)
  have b127 := covers_bit (i := 127) h (by decide)
  have b131 := covers_bit (i := 131) h (by decide)
  have b132 := covers_bit (i := 132) h (by decide)
  have b133 := covers_bit (i := 133) h (by decide)
  have b134 := covers_bit (i := 134) h (by decide)
  have b135 := covers_bit (i := 135) h (by decide)
  have b137 := covers_bit (i := 137) h (by decide)
  have b147 := covers_bit (i := 147) h (by decide)
  have b168 := covers_bit (i := 168) h (by decide)
  have b169 := covers_bit (i := 169) h (by decide)
  have b171 := covers_bit (i := 171) h (by decide)
  have b172 := covers_bit (i := 172) h (by decide)
  have b186 := covers_bit (i := 186) h (by decide)
  have b206 := covers_bit (i := 206) h (by decide)
  have b212 := covers_bit (i := 212) h (by decide)
  have b215 := covers_bit (i := 215) h (by decide)
  have b216 := covers_bit (i := 216) h (by decide)
  have b217 := covers_bit (i := 217) h (by decide)
  have b218 := covers_bit (i := 218) h (by decide)
  have b246 := covers_bit (i := 246) h (by decide)
  have b247 := covers_bit (i := 247) h (by decide)
  have b248 := covers_bit (i := 248) h (by decide)
  have b249 := covers_bit (i := 249) h (by decide)
  have b251 := covers_bit (i := 251) h (by decide)
  unfold State.coreLost
  with_reducible repeat' first
    | assumption
    | exact covers_trans (by decide) h
    | apply keep_ite
    | (intro x; simp only [ReadPathS.blank, WbS.blank, MediaS.blank, TractS.blank, IntegS.blank, ExtS.blank, ScrubS.blank, StagingS.blank, HostS.blank, StartS.blank, b108, b111, b115, b119, b120, b122, b123, b125, b126, b127, b131, b132, b133, b134, b135, b137, b147, b168, b169, b171, b172, b186, b206, b212, b215, b216, b217, b218, b246, b247, b248, b249, b251, if_true]; done)
    | (intro x; (try dsimp only); (repeat' split) <;> (simp only [ReadPathS.blank, WbS.blank, MediaS.blank, TractS.blank, IntegS.blank, ExtS.blank, ScrubS.blank, StagingS.blank, HostS.blank, StartS.blank, b108, b111, b115, b119, b120, b122, b123, b125, b126, b127, b131, b132, b133, b134, b135, b137, b147, b168, b169, b171, b172, b186, b206, b212, b215, b216, b217, b218, b246, b247, b248, b249, b251, if_true]; done))
    | refine State.modRdp_keep ?_ ?_
    | refine State.modWb_keep ?_ ?_
    | refine State.modMed_keep ?_ ?_
    | refine State.modTrc_keep ?_ ?_
    | refine State.modItg_keep ?_ ?_
    | refine State.modExt_keep ?_ ?_
    | refine State.modScr_keep ?_ ?_
    | refine State.modStg_keep ?_ ?_
    | refine State.modHst_keep ?_ ?_
    | refine State.modStr_keep ?_ ?_
    | refine forEach_keep (fun _ _ _ => ?_) ?_ _
    | apply State.when_keep
    | apply State.answerWaiting_keep
    | apply State.stopPasses_keep
    | apply State.stopPlanes_keep
    | apply State.closeWindow_keep
    | split
    | dsimp only
    | intro _

theorem State.powerLost_keep {l : Nat} (h : covers 0xc430008eca200000000010bc0f71ef7b8480004431f00c0ff03f8ed889c00004080a010000438001b0500 l) {s : State} {u : State} (k : Keep l s u)  :
    Keep l s (State.powerLost u) := by
  have b20 := covers_bit (i := 20) h (by decide)
  have b35 := covers_bit (i := 35) h (by decide)
  have b36 := covers_bit (i := 36) h (by decide)
  have b37 := covers_bit (i := 37) h (by decide)
  have b42 := covers_bit (i := 42) h (by decide)
  have b60 := covers_bit (i := 60) h (by decide)
  have b69 := covers_bit (i := 69) h (by decide)
  have b71 := covers_bit (i := 71) h (by decide)
  have b79 := covers_bit (i := 79) h (by decide)
  have b86 := covers_bit (i := 86) h (by decide)
  have b256 := covers_bit (i := 256) h (by decide)
  unfold State.powerLost
  with_reducible repeat' first
    | assumption
    | exact covers_trans (by decide) h
    | apply keep_ite
    | (intro x; simp only [BankS.blank, PowerS.blank, CoxS.blank, b20, b35, b36, b37, b42, b60, b69, b71, b79, b86, b256, if_true]; done)
    | (intro x; (try dsimp only); (repeat' split) <;> (simp only [BankS.blank, PowerS.blank, CoxS.blank, b20, b35, b36, b37, b42, b60, b69, b71, b79, b86, b256, if_true]; done))
    | refine State.modBank_keep ?_ ?_
    | refine State.modPwr_keep ?_ ?_
    | refine State.modCox_keep ?_ ?_
    | apply State.linksSync_keep
    | apply State.coreLost_keep
    | split
    | dsimp only
    | intro _

theorem execKeelTurnOff_keep {l : Nat} (h : covers 0xc430008eca200000000010bc0f71ef7b8480004431f00c0ff03f8ed889c00004080a010000438521b0500 l) {s : State} {u : State} (k : Keep l s u)  :
    KeepR l s (execKeelTurnOff u) := by
  have b25 := covers_bit (i := 25) h (by decide)
  have b28 := covers_bit (i := 28) h (by decide)
  have b30 := covers_bit (i := 30) h (by decide)
  unfold execKeelTurnOff
  with_reducible repeat' first
    | assumption
    | exact covers_trans (by decide) h
    | apply keep_ite
    | apply keepR_ite
    | (intro x; simp only [PowerS.blank, b25, b28, b30, if_true]; done)
    | (intro x; (try dsimp only); (repeat' split) <;> (simp only [PowerS.blank, b25, b28, b30, if_true]; done))
    | refine State.modPwr_keep ?_ ?_
    | apply State.powerLost_keep
    | apply KeepR.next
    | split
    | dsimp only
    | intro _

theorem State.keelReset_keep {l : Nat} (h : covers 0x5effffdeee2c3c7d3f63fffdfb8fdf7ff7c082c66fb0003ee8bf87ff9ffcc7301a0bffffffffffffbfdef l) {s : State} {u : State} (k : Keep l s u) (a0) :
    Keep l s (State.keelReset a0 u) := by
  have b0 := covers_bit (i := 0) h (by decide)
  have b1 := covers_bit (i := 1) h (by decide)
  have b2 := covers_bit (i := 2) h (by decide)
  have b3 := covers_bit (i := 3) h (by decide)
  have b5 := covers_bit (i := 5) h (by decide)
  have b6 := covers_bit (i := 6) h (by decide)
  have b7 := covers_bit (i := 7) h (by decide)
  have b8 := covers_bit (i := 8) h (by decide)
  have b10 := covers_bit (i := 10) h (by decide)
  have b11 := covers_bit (i := 11) h (by decide)
  have b12 := covers_bit (i := 12) h (by decide)
  have b13 := covers_bit (i := 13) h (by decide)
  have b14 := covers_bit (i := 14) h (by decide)
  have b15 := covers_bit (i := 15) h (by decide)
  have b16 := covers_bit (i := 16) h (by decide)
  have b17 := covers_bit (i := 17) h (by decide)
  have b19 := covers_bit (i := 19) h (by decide)
  have b20 := covers_bit (i := 20) h (by decide)
  have b21 := covers_bit (i := 21) h (by decide)
  have b22 := covers_bit (i := 22) h (by decide)
  have b23 := covers_bit (i := 23) h (by decide)
  have b24 := covers_bit (i := 24) h (by decide)
  have b25 := covers_bit (i := 25) h (by decide)
  have b26 := covers_bit (i := 26) h (by decide)
  have b27 := covers_bit (i := 27) h (by decide)
  have b28 := covers_bit (i := 28) h (by decide)
  have b29 := covers_bit (i := 29) h (by decide)
  have b30 := covers_bit (i := 30) h (by decide)
  have b31 := covers_bit (i := 31) h (by decide)
  have b32 := covers_bit (i := 32) h (by decide)
  have b33 := covers_bit (i := 33) h (by decide)
  have b34 := covers_bit (i := 34) h (by decide)
  have b35 := covers_bit (i := 35) h (by decide)
  have b36 := covers_bit (i := 36) h (by decide)
  have b37 := covers_bit (i := 37) h (by decide)
  have b38 := covers_bit (i := 38) h (by decide)
  have b39 := covers_bit (i := 39) h (by decide)
  have b40 := covers_bit (i := 40) h (by decide)
  have b41 := covers_bit (i := 41) h (by decide)
  have b42 := covers_bit (i := 42) h (by decide)
  have b43 := covers_bit (i := 43) h (by decide)
  have b44 := covers_bit (i := 44) h (by decide)
  have b45 := covers_bit (i := 45) h (by decide)
  have b46 := covers_bit (i := 46) h (by decide)
  have b47 := covers_bit (i := 47) h (by decide)
  have b48 := covers_bit (i := 48) h (by decide)
  have b49 := covers_bit (i := 49) h (by decide)
  have b50 := covers_bit (i := 50) h (by decide)
  have b51 := covers_bit (i := 51) h (by decide)
  have b52 := covers_bit (i := 52) h (by decide)
  have b53 := covers_bit (i := 53) h (by decide)
  have b54 := covers_bit (i := 54) h (by decide)
  have b55 := covers_bit (i := 55) h (by decide)
  have b56 := covers_bit (i := 56) h (by decide)
  have b57 := covers_bit (i := 57) h (by decide)
  have b58 := covers_bit (i := 58) h (by decide)
  have b59 := covers_bit (i := 59) h (by decide)
  have b60 := covers_bit (i := 60) h (by decide)
  have b61 := covers_bit (i := 61) h (by decide)
  have b62 := covers_bit (i := 62) h (by decide)
  have b63 := covers_bit (i := 63) h (by decide)
  have b64 := covers_bit (i := 64) h (by decide)
  have b65 := covers_bit (i := 65) h (by decide)
  have b66 := covers_bit (i := 66) h (by decide)
  have b67 := covers_bit (i := 67) h (by decide)
  have b68 := covers_bit (i := 68) h (by decide)
  have b69 := covers_bit (i := 69) h (by decide)
  have b71 := covers_bit (i := 71) h (by decide)
  have b77 := covers_bit (i := 77) h (by decide)
  have b79 := covers_bit (i := 79) h (by decide)
  have b80 := covers_bit (i := 80) h (by decide)
  have b88 := covers_bit (i := 88) h (by decide)
  have b89 := covers_bit (i := 89) h (by decide)
  have b92 := covers_bit (i := 92) h (by decide)
  have b93 := covers_bit (i := 93) h (by decide)
  have b94 := covers_bit (i := 94) h (by decide)
  have b98 := covers_bit (i := 98) h (by decide)
  have b99 := covers_bit (i := 99) h (by decide)
  have b102 := covers_bit (i := 102) h (by decide)
  have b103 := covers_bit (i := 103) h (by decide)
  have b104 := covers_bit (i := 104) h (by decide)
  have b105 := covers_bit (i := 105) h (by decide)
  have b106 := covers_bit (i := 106) h (by decide)
  have b107 := covers_bit (i := 107) h (by decide)
  have b108 := covers_bit (i := 108) h (by decide)
  have b109 := covers_bit (i := 109) h (by decide)
  have b110 := covers_bit (i := 110) h (by decide)
  have b111 := covers_bit (i := 111) h (by decide)
  have b112 := covers_bit (i := 112) h (by decide)
  have b115 := covers_bit (i := 115) h (by decide)
  have b116 := covers_bit (i := 116) h (by decide)
  have b117 := covers_bit (i := 117) h (by decide)
  have b118 := covers_bit (i := 118) h (by decide)
  have b119 := covers_bit (i := 119) h (by decide)
  have b120 := covers_bit (i := 120) h (by decide)
  have b121 := covers_bit (i := 121) h (by decide)
  have b122 := covers_bit (i := 122) h (by decide)
  have b123 := covers_bit (i := 123) h (by decide)
  have b124 := covers_bit (i := 124) h (by decide)
  have b125 := covers_bit (i := 125) h (by decide)
  have b126 := covers_bit (i := 126) h (by decide)
  have b131 := covers_bit (i := 131) h (by decide)
  have b132 := covers_bit (i := 132) h (by decide)
  have b133 := covers_bit (i := 133) h (by decide)
  have b134 := covers_bit (i := 134) h (by decide)
  have b135 := covers_bit (i := 135) h (by decide)
  have b136 := covers_bit (i := 136) h (by decide)
  have b137 := covers_bit (i := 137) h (by decide)
  have b139 := covers_bit (i := 139) h (by decide)
  have b143 := covers_bit (i := 143) h (by decide)
  have b145 := covers_bit (i := 145) h (by decide)
  have b146 := covers_bit (i := 146) h (by decide)
  have b147 := covers_bit (i := 147) h (by decide)
  have b149 := covers_bit (i := 149) h (by decide)
  have b150 := covers_bit (i := 150) h (by decide)
  have b151 := covers_bit (i := 151) h (by decide)
  have b152 := covers_bit (i := 152) h (by decide)
  have b153 := covers_bit (i := 153) h (by decide)
  have b168 := covers_bit (i := 168) h (by decide)
  have b169 := covers_bit (i := 169) h (by decide)
  have b171 := covers_bit (i := 171) h (by decide)
  have b172 := covers_bit (i := 172) h (by decide)
  have b173 := covers_bit (i := 173) h (by decide)
  have b174 := covers_bit (i := 174) h (by decide)
  have b175 := covers_bit (i := 175) h (by decide)
  have b177 := covers_bit (i := 177) h (by decide)
  have b178 := covers_bit (i := 178) h (by decide)
  have b181 := covers_bit (i := 181) h (by decide)
  have b182 := covers_bit (i := 182) h (by decide)
  have b186 := covers_bit (i := 186) h (by decide)
  have b187 := covers_bit (i := 187) h (by decide)
  have b189 := covers_bit (i := 189) h (by decide)
  have b195 := covers_bit (i := 195) h (by decide)
  have b202 := covers_bit (i := 202) h (by decide)
  have b203 := covers_bit (i := 203) h (by decide)
  have b204 := covers_bit (i := 204) h (by decide)
  have b205 := covers_bit (i := 205) h (by decide)
  have b206 := covers_bit (i := 206) h (by decide)
  have b208 := covers_bit (i := 208) h (by decide)
  have b209 := covers_bit (i := 209) h (by decide)
  have b210 := covers_bit (i := 210) h (by decide)
  have b211 := covers_bit (i := 211) h (by decide)
  have b212 := covers_bit (i := 212) h (by decide)
  have b213 := covers_bit (i := 213) h (by decide)
  have b214 := covers_bit (i := 214) h (by decide)
  have b215 := covers_bit (i := 215) h (by decide)
  have b216 := covers_bit (i := 216) h (by decide)
  have b217 := covers_bit (i := 217) h (by decide)
  have b218 := covers_bit (i := 218) h (by decide)
  have b220 := covers_bit (i := 220) h (by decide)
  have b221 := covers_bit (i := 221) h (by decide)
  have b222 := covers_bit (i := 222) h (by decide)
  have b223 := covers_bit (i := 223) h (by decide)
  have b224 := covers_bit (i := 224) h (by decide)
  have b226 := covers_bit (i := 226) h (by decide)
  have b227 := covers_bit (i := 227) h (by decide)
  have b228 := covers_bit (i := 228) h (by decide)
  have b229 := covers_bit (i := 229) h (by decide)
  have b230 := covers_bit (i := 230) h (by decide)
  have b231 := covers_bit (i := 231) h (by decide)
  have b235 := covers_bit (i := 235) h (by decide)
  have b236 := covers_bit (i := 236) h (by decide)
  have b237 := covers_bit (i := 237) h (by decide)
  have b239 := covers_bit (i := 239) h (by decide)
  have b240 := covers_bit (i := 240) h (by decide)
  have b241 := covers_bit (i := 241) h (by decide)
  have b242 := covers_bit (i := 242) h (by decide)
  have b243 := covers_bit (i := 243) h (by decide)
  have b244 := covers_bit (i := 244) h (by decide)
  have b246 := covers_bit (i := 246) h (by decide)
  have b247 := covers_bit (i := 247) h (by decide)
  have b248 := covers_bit (i := 248) h (by decide)
  have b249 := covers_bit (i := 249) h (by decide)
  have b250 := covers_bit (i := 250) h (by decide)
  have b251 := covers_bit (i := 251) h (by decide)
  have b252 := covers_bit (i := 252) h (by decide)
  have b253 := covers_bit (i := 253) h (by decide)
  have b254 := covers_bit (i := 254) h (by decide)
  have b255 := covers_bit (i := 255) h (by decide)
  have b256 := covers_bit (i := 256) h (by decide)
  have b257 := covers_bit (i := 257) h (by decide)
  have b258 := covers_bit (i := 258) h (by decide)
  have b259 := covers_bit (i := 259) h (by decide)
  have b260 := covers_bit (i := 260) h (by decide)
  have b261 := covers_bit (i := 261) h (by decide)
  have b265 := covers_bit (i := 265) h (by decide)
  have b266 := covers_bit (i := 266) h (by decide)
  have b268 := covers_bit (i := 268) h (by decide)
  have b269 := covers_bit (i := 269) h (by decide)
  have b270 := covers_bit (i := 270) h (by decide)
  have b271 := covers_bit (i := 271) h (by decide)
  have b272 := covers_bit (i := 272) h (by decide)
  have b273 := covers_bit (i := 273) h (by decide)
  have b294 := covers_bit (i := 294) h (by decide)
  have b295 := covers_bit (i := 295) h (by decide)
  have b297 := covers_bit (i := 297) h (by decide)
  have b303 := covers_bit (i := 303) h (by decide)
  have b305 := covers_bit (i := 305) h (by decide)
  have b306 := covers_bit (i := 306) h (by decide)
  have b307 := covers_bit (i := 307) h (by decide)
  have b309 := covers_bit (i := 309) h (by decide)
  have b310 := covers_bit (i := 310) h (by decide)
  have b311 := covers_bit (i := 311) h (by decide)
  have b312 := covers_bit (i := 312) h (by decide)
  have b314 := covers_bit (i := 314) h (by decide)
  have b315 := covers_bit (i := 315) h (by decide)
  have b316 := covers_bit (i := 316) h (by decide)
  have b317 := covers_bit (i := 317) h (by decide)
  have b318 := covers_bit (i := 318) h (by decide)
  have b319 := covers_bit (i := 319) h (by decide)
  have b320 := covers_bit (i := 320) h (by decide)
  have b321 := covers_bit (i := 321) h (by decide)
  have b322 := covers_bit (i := 322) h (by decide)
  have b323 := covers_bit (i := 323) h (by decide)
  have b324 := covers_bit (i := 324) h (by decide)
  have b325 := covers_bit (i := 325) h (by decide)
  have b326 := covers_bit (i := 326) h (by decide)
  have b327 := covers_bit (i := 327) h (by decide)
  have b328 := covers_bit (i := 328) h (by decide)
  have b329 := covers_bit (i := 329) h (by decide)
  have b330 := covers_bit (i := 330) h (by decide)
  have b331 := covers_bit (i := 331) h (by decide)
  have b333 := covers_bit (i := 333) h (by decide)
  have b334 := covers_bit (i := 334) h (by decide)
  have b335 := covers_bit (i := 335) h (by decide)
  have b336 := covers_bit (i := 336) h (by decide)
  unfold State.keelReset
  with_reducible repeat' first
    | assumption
    | exact covers_trans (by decide) h
    | apply keep_ite
    | (intro x; simp only [TimeS.blank, ObjS.blank, PowerS.blank, HostS.blank, SeatBusS.blank, BankS.blank, ThermS.blank, HealthS.blank, ExtS.blank, ReadPathS.blank, WbS.blank, MediaS.blank, TractS.blank, IntegS.blank, ScrubS.blank, StagingS.blank, FaultS.blank, EasyS.blank, StartS.blank, CoxS.blank, ImagesS.blank, ParamS.blank, LogS.blank, TallyS.blank, WopS.blank, b0, b1, b2, b3, b5, b6, b7, b8, b10, b11, b12, b13, b14, b15, b16, b17, b19, b20, b21, b22, b23, b24, b25, b26, b27, b28, b29, b30, b31, b32, b33, b34, b35, b36, b37, b38, b39, b40, b41, b42, b43, b44, b45, b46, b47, b48, b49, b50, b51, b52, b53, b54, b55, b56, b57, b58, b59, b60, b61, b62, b63, b64, b65, b66, b67, b68, b69, b71, b77, b79, b80, b88, b89, b92, b93, b94, b98, b99, b102, b103, b104, b105, b106, b107, b108, b109, b110, b111, b112, b115, b116, b117, b118, b119, b120, b121, b122, b123, b124, b125, b126, b131, b132, b133, b134, b135, b136, b137, b139, b143, b145, b146, b147, b149, b150, b151, b152, b153, b168, b169, b171, b172, b173, b174, b175, b177, b178, b181, b182, b186, b187, b189, b195, b202, b203, b204, b205, b206, b208, b209, b210, b211, b212, b213, b214, b215, b216, b217, b218, b220, b221, b222, b223, b224, b226, b227, b228, b229, b230, b231, b235, b236, b237, b239, b240, b241, b242, b243, b244, b246, b247, b248, b249, b250, b251, b252, b253, b254, b255, b256, b257, b258, b259, b260, b261, b265, b266, b268, b269, b270, b271, b272, b273, b294, b295, b297, b303, b305, b306, b307, b309, b310, b311, b312, b314, b315, b316, b317, b318, b319, b320, b321, b322, b323, b324, b325, b326, b327, b328, b329, b330, b331, b333, b334, b335, b336, TimeS.coldStart, ObjS.afterReset, if_true]; done)
    | (intro x; (try dsimp only); (repeat' split) <;> (simp only [TimeS.blank, ObjS.blank, PowerS.blank, HostS.blank, SeatBusS.blank, BankS.blank, ThermS.blank, HealthS.blank, ExtS.blank, ReadPathS.blank, WbS.blank, MediaS.blank, TractS.blank, IntegS.blank, ScrubS.blank, StagingS.blank, FaultS.blank, EasyS.blank, StartS.blank, CoxS.blank, ImagesS.blank, ParamS.blank, LogS.blank, TallyS.blank, WopS.blank, b0, b1, b2, b3, b5, b6, b7, b8, b10, b11, b12, b13, b14, b15, b16, b17, b19, b20, b21, b22, b23, b24, b25, b26, b27, b28, b29, b30, b31, b32, b33, b34, b35, b36, b37, b38, b39, b40, b41, b42, b43, b44, b45, b46, b47, b48, b49, b50, b51, b52, b53, b54, b55, b56, b57, b58, b59, b60, b61, b62, b63, b64, b65, b66, b67, b68, b69, b71, b77, b79, b80, b88, b89, b92, b93, b94, b98, b99, b102, b103, b104, b105, b106, b107, b108, b109, b110, b111, b112, b115, b116, b117, b118, b119, b120, b121, b122, b123, b124, b125, b126, b131, b132, b133, b134, b135, b136, b137, b139, b143, b145, b146, b147, b149, b150, b151, b152, b153, b168, b169, b171, b172, b173, b174, b175, b177, b178, b181, b182, b186, b187, b189, b195, b202, b203, b204, b205, b206, b208, b209, b210, b211, b212, b213, b214, b215, b216, b217, b218, b220, b221, b222, b223, b224, b226, b227, b228, b229, b230, b231, b235, b236, b237, b239, b240, b241, b242, b243, b244, b246, b247, b248, b249, b250, b251, b252, b253, b254, b255, b256, b257, b258, b259, b260, b261, b265, b266, b268, b269, b270, b271, b272, b273, b294, b295, b297, b303, b305, b306, b307, b309, b310, b311, b312, b314, b315, b316, b317, b318, b319, b320, b321, b322, b323, b324, b325, b326, b327, b328, b329, b330, b331, b333, b334, b335, b336, TimeS.coldStart, ObjS.afterReset, if_true]; done))
    | refine State.modTim_keep ?_ ?_
    | refine State.modObj_keep ?_ ?_
    | refine State.modPwr_keep ?_ ?_
    | refine State.modHst_keep ?_ ?_
    | refine State.modSeat_keep ?_ ?_
    | refine State.modBank_keep ?_ ?_
    | refine State.modThm_keep ?_ ?_
    | refine State.modHlt_keep ?_ ?_
    | refine State.modExt_keep ?_ ?_
    | refine State.modRdp_keep ?_ ?_
    | refine State.modWb_keep ?_ ?_
    | refine State.modMed_keep ?_ ?_
    | refine State.modTrc_keep ?_ ?_
    | refine State.modItg_keep ?_ ?_
    | refine State.modScr_keep ?_ ?_
    | refine State.modStg_keep ?_ ?_
    | refine State.modFlt_keep ?_ ?_
    | refine State.modEasy_keep ?_ ?_
    | refine State.modStr_keep ?_ ?_
    | refine State.modCox_keep ?_ ?_
    | refine State.modImg_keep ?_ ?_
    | refine State.modPar_keep ?_ ?_
    | refine State.modLog_keep ?_ ?_
    | refine State.modTly_keep ?_ ?_
    | refine State.modWop_keep ?_ ?_
    | apply State.when_keep
    | apply State.storeWrite_keep
    | apply State.cutFlash_keep
    | apply State.countPages_keep
    | split
    | dsimp only
    | intro _

theorem State.fullReset_keep {l : Nat} (h : covers 0xdeffffdffe2c3d7d3f63fffdfb8fdf7ff7c082c66fb0003ee8bf87ff9ffcc7301a0bffffffffffffbfdef l) {s : State} {u : State} (k : Keep l s u)  :
    Keep l s (State.fullReset u) := by
  unfold State.fullReset
  with_reducible repeat' first
    | assumption
    | exact covers_trans (by decide) h
    | apply keep_ite
    | apply State.keelReset_keep
    | apply State.writeOutSome_keep
    | split
    | dsimp only
    | intro _

theorem State.tryReset_keep {l : Nat} (h : covers 0xdeffffdffe2c3d7d3f63fffdfb8fdf7ff7c082c66fb0003ee8bf87ff9ffcc7301a0bffffffffffffbfdef l) {s : State} {u : State} (k : Keep l s u)  :
    Keep l s (State.tryReset u) := by
  unfold State.tryReset
  with_reducible repeat' first
    | assumption
    | exact covers_trans (by decide) h
    | apply keep_ite
    | apply State.fullReset_keep
    | split
    | dsimp only
    | intro _

theorem State.askReset_keep {l : Nat} (h : covers 0xdeffffdffe2c3d7d3f63fffdff8fdf7ff7c082c66fb0003ee8bf87ff9ffcc7301a0bffffffffffffbfdef l) {s : State} {u : State} (k : Keep l s u)  :
    Keep l s (State.askReset u) := by
  have b58 := covers_bit (i := 58) h (by decide)
  unfold State.askReset
  with_reducible repeat' first
    | assumption
    | exact covers_trans (by decide) h
    | apply keep_ite
    | (intro x; simp only [PowerS.blank, b58, if_true]; done)
    | (intro x; (try dsimp only); (repeat' split) <;> (simp only [PowerS.blank, b58, if_true]; done))
    | refine State.modPwr_keep ?_ ?_
    | apply State.easyBegin_keep
    | apply State.startDown_keep
    | apply State.tryReset_keep
    | split
    | dsimp only
    | intro _

theorem State.healthSync_keep {l : Nat} (h : covers 0x4430008eca200000000000000000000000000000000000000000000001800600000000000000000000000 l) {s : State} {u : State} (k : Keep l s u)  :
    Keep l s (State.healthSync u) := by
  have b93 := covers_bit (i := 93) h (by decide)
  have b94 := covers_bit (i := 94) h (by decide)
  unfold State.healthSync
  with_reducible repeat' first
    | assumption
    | exact covers_trans (by decide) h
    | apply keep_ite
    | (intro x; simp only [HealthS.blank, b93, b94, if_true]; done)
    | (intro x; (try dsimp only); (repeat' split) <;> (simp only [HealthS.blank, b93, b94, if_true]; done))
    | refine State.modHlt_keep ?_ ?_
    | refine forEach_keep (fun _ _ _ => ?_) ?_ _
    | apply State.headEvent_keep
    | split
    | dsimp only
    | intro _

theorem State.setLatch_keep {l : Nat} (h : covers 0x4430008eca200000000000000000000000000000000000000000000001800600000000000080000000000 l) {s : State} {u : State} (k : Keep l s u) (a0) (a1) (a2) :
    Keep l s (State.setLatch a0 a1 a2 u) := by
  have b43 := covers_bit (i := 43) h (by decide)
  unfold State.setLatch
  with_reducible repeat' first
    | assumption
    | exact covers_trans (by decide) h
    | apply keep_ite
    | (intro x; simp only [PowerS.blank, b43, if_true]; done)
    | (intro x; (try dsimp only); (repeat' split) <;> (simp only [PowerS.blank, b43, if_true]; done))
    | refine State.modPwr_keep ?_ ?_
    | apply State.storeWrite_keep
    | apply State.powerEvent_keep
    | apply State.healthSync_keep
    | split
    | dsimp only
    | intro _

theorem State.haltSync_keep {l : Nat} (h : covers 0x4000000000000000000000000000000000000000000000000000000000000000000000000000000000000 l) {s : State} {u : State} (k : Keep l s u) (a0) :
    Keep l s (State.haltSync a0 u) := by
  unfold State.haltSync
  with_reducible repeat' first
    | assumption
    | exact covers_trans (by decide) h
    | apply keep_ite
    | apply State.emit_keep
    | split
    | dsimp only
    | intro _

theorem State.wearFlush_keep {l : Nat} (h : covers 0x800000000000000000000000000000000000000000b3ec000000000000000000000000000000000000000 l) {s : State} {u : State} (k : Keep l s u)  :
    Keep l s (State.wearFlush u) := by
  have b168 := covers_bit (i := 168) h (by decide)
  unfold State.wearFlush
  with_reducible repeat' first
    | assumption
    | exact covers_trans (by decide) h
    | apply keep_ite
    | (intro x; simp only [TractS.blank, b168, if_true]; done)
    | (intro x; (try dsimp only); (repeat' split) <;> (simp only [TractS.blank, b168, if_true]; done))
    | refine State.modTrc_keep ?_ ?_
    | refine forEach_keep (fun _ _ _ => ?_) ?_ _
    | apply State.modActivity_keep
    | apply State.endEpoch_keep
    | apply State.wearWriteback_keep
    | split
    | dsimp only
    | intro _

theorem State.finishPlane_keep {l : Nat} (h : covers 0x4430008eca200000000000000f71ef020000000430600c09f018005001c00000000000000040000100000 l) {s : State} {u : State} (k : Keep l s u) (a0) :
    Keep l s (State.finishPlane a0 u) := by
  unfold State.finishPlane
  with_reducible repeat' first
    | assumption
    | exact covers_trans (by decide) h
    | apply keep_ite
    | refine forEach_keep (fun _ _ _ => ?_) ?_ _
    | apply State.wear_keep
    | apply State.modPlane_keep
    | apply State.completeOp_keep
    | split
    | dsimp only
    | intro _

theorem State.mediumIdle_keep {l : Nat} (h : covers 0x4430008eca200000000000000f71ef020000000434e00f8ff018005001c00000000000000040000100000 l) {s : State} {u : State} (k : Keep l s u)  :
    Keep l s (State.mediumIdle u) := by
  have b149 := covers_bit (i := 149) h (by decide)
  have b150 := covers_bit (i := 150) h (by decide)
  unfold State.mediumIdle
  with_reducible repeat' first
    | assumption
    | exact covers_trans (by decide) h
    | apply keep_ite
    | (intro x; simp only [MediaS.blank, b149, b150, if_true]; done)
    | (intro x; (try dsimp only); (repeat' split) <;> (simp only [MediaS.blank, b149, b150, if_true]; done))
    | refine State.modMed_keep ?_ ?_
    | refine forEach_keep (fun _ _ _ => ?_) ?_ _
    | apply State.migSync_keep
    | apply State.finishPlane_keep
    | split
    | dsimp only
    | intro _

theorem State.flushMigrations_keep {l : Nat} (h : covers 0x4430008eca200000000000000f71ef000000000418e00f8df018004001c00000000000000040000100000 l) {s : State} {u : State} (k : Keep l s u)  :
    Keep l s (State.flushMigrations u) := by
  unfold State.flushMigrations
  with_reducible repeat' first
    | assumption
    | exact covers_trans (by decide) h
    | apply keep_ite
    | refine forEach_keep (fun _ _ _ => ?_) ?_ _
    | apply State.abandon_keep
    | split
    | dsimp only
    | intro _

theorem State.flushEnd_keep {l : Nat} (h : covers 0xc430008eca200000000000004f71ef02000004043cf3ef8ff0187fd001c0000b18060000005f000120400 l) {s : State} {u : State} (k : Keep l s u)  :
    Keep l s (State.flushEnd u) := by
  have b70 := covers_bit (i := 70) h (by decide)
  have b84 := covers_bit (i := 84) h (by decide)
  have b85 := covers_bit (i := 85) h (by decide)
  have b87 := covers_bit (i := 87) h (by decide)
  have b135 := covers_bit (i := 135) h (by decide)
  have b236 := covers_bit (i := 236) h (by decide)
  unfold State.flushEnd
  with_reducible repeat' first
    | assumption
    | exact covers_trans (by decide) h
    | apply keep_ite
    | (intro x; simp only [EasyS.blank, WbS.blank, BankS.blank, b70, b84, b85, b87, b135, b236, if_true]; done)
    | (intro x; (try dsimp only); (repeat' split) <;> (simp only [EasyS.blank, WbS.blank, BankS.blank, b70, b84, b85, b87, b135, b236, if_true]; done))
    | refine State.modEasy_keep ?_ ?_
    | refine State.modWb_keep ?_ ?_
    | refine State.modBank_keep ?_ ?_
    | apply State.when_keep
    | apply State.easySlots_keep
    | apply State.powerEvent_keep
    | apply State.afterFlush_keep
    | apply State.draw_keep
    | refine snd_of_eq ‹State.draw _ = _› (State.draw_keep ?_ ?_)
    | apply State.wearFlush_keep
    | apply State.mediumIdle_keep
    | apply State.flushMigrations_keep
    | apply State.flushRecord_keep
    | apply State.recordClosing_keep
    | split
    | dsimp only
    | intro _

theorem State.measureEnd_keep {l : Nat} (h : covers 0x4430008eca200000000000000000000000000000000000000000000000000000180000000000000020400 l) {s : State} {u : State} (k : Keep l s u) (a0) :
    Keep l s (State.measureEnd a0 u) := by
  have b79 := covers_bit (i := 79) h (by decide)
  have b80 := covers_bit (i := 80) h (by decide)
  unfold State.measureEnd
  with_reducible repeat' first
    | assumption
    | exact covers_trans (by decide) h
    | apply keep_ite
    | (intro x; simp only [BankS.blank, b79, b80, if_true]; done)
    | (intro x; (try dsimp only); (repeat' split) <;> (simp only [BankS.blank, b79, b80, if_true]; done))
    | refine State.modBank_keep ?_ ?_
    | apply State.ticketDone_keep
    | split
    | dsimp only
    | intro _

theorem State.measured_keep {l : Nat} (h : covers 0x4430008eca20000000000000000000000000000000000000000000000000180063f400000000000000000 l) {s : State} {u : State} (k : Keep l s u) (a0) (a1) :
    Keep l s (State.measured a0 a1 u) := by
  have b70 := covers_bit (i := 70) h (by decide)
  have b72 := covers_bit (i := 72) h (by decide)
  have b73 := covers_bit (i := 73) h (by decide)
  have b74 := covers_bit (i := 74) h (by decide)
  have b75 := covers_bit (i := 75) h (by decide)
  have b76 := covers_bit (i := 76) h (by decide)
  have b77 := covers_bit (i := 77) h (by decide)
  have b81 := covers_bit (i := 81) h (by decide)
  have b82 := covers_bit (i := 82) h (by decide)
  have b95 := covers_bit (i := 95) h (by decide)
  have b96 := covers_bit (i := 96) h (by decide)
  unfold State.measured
  with_reducible repeat' first
    | assumption
    | exact covers_trans (by decide) h
    | apply keep_ite
    | (intro x; simp only [BankS.blank, HealthS.blank, b70, b72, b73, b74, b75, b76, b77, b81, b82, b95, b96, if_true]; done)
    | (intro x; (try dsimp only); (repeat' split) <;> (simp only [BankS.blank, HealthS.blank, b70, b72, b73, b74, b75, b76, b77, b81, b82, b95, b96, if_true]; done))
    | refine State.modBank_keep ?_ ?_
    | refine State.modHlt_keep ?_ ?_
    | apply State.storeWrite_keep
    | apply State.powerEvent_keep
    | split
    | dsimp only
    | intro _

theorem State.predict_keep {l : Nat} (h : covers 0x384000000000000000000000000 l) {s : State} {u : State} (k : Keep l s u)  :
    Keep l s (State.predict u) := by
  have b98 := covers_bit (i := 98) h (by decide)
  have b103 := covers_bit (i := 103) h (by decide)
  have b104 := covers_bit (i := 104) h (by decide)
  have b105 := covers_bit (i := 105) h (by decide)
  unfold State.predict
  with_reducible repeat' first
    | assumption
    | exact covers_trans (by decide) h
    | apply keep_ite
    | (intro x; simp only [HealthS.blank, b98, b103, b104, b105, if_true]; done)
    | (intro x; (try dsimp only); (repeat' split) <;> (simp only [HealthS.blank, b98, b103, b104, b105, if_true]; done))
    | refine State.modHlt_keep ?_ ?_
    | split
    | dsimp only
    | intro _

theorem State.bankFail_keep {l : Nat} (h : covers 0x4430008eca200000000000000f71ef0000000000000000000018000001f84600040200000040000100000 l) {s : State} {u : State} (k : Keep l s u)  :
    Keep l s (State.bankFail u) := by
  have b69 := covers_bit (i := 69) h (by decide)
  have b78 := covers_bit (i := 78) h (by decide)
  unfold State.bankFail
  with_reducible repeat' first
    | assumption
    | exact covers_trans (by decide) h
    | apply keep_ite
    | (intro x; simp only [BankS.blank, b69, b78, if_true]; done)
    | (intro x; (try dsimp only); (repeat' split) <;> (simp only [BankS.blank, b69, b78, if_true]; done))
    | refine State.modBank_keep ?_ ?_
    | apply State.powerEvent_keep
    | apply State.report_keep
    | apply State.healthSync_keep
    | apply State.predict_keep
    | split
    | dsimp only
    | intro _

theorem State.refit_keep {l : Nat} (h : covers 0x71000000000000000000000000 l) {s : State} {u : State} (k : Keep l s u)  :
    Keep l s (State.refit u) := by
  have b96 := covers_bit (i := 96) h (by decide)
  have b100 := covers_bit (i := 100) h (by decide)
  have b101 := covers_bit (i := 101) h (by decide)
  have b102 := covers_bit (i := 102) h (by decide)
  unfold State.refit
  with_reducible repeat' first
    | assumption
    | exact covers_trans (by decide) h
    | apply keep_ite
    | (intro x; simp only [HealthS.blank, b96, b100, b101, b102, if_true]; done)
    | (intro x; (try dsimp only); (repeat' split) <;> (simp only [HealthS.blank, b96, b100, b101, b102, if_true]; done))
    | refine State.modHlt_keep ?_ ?_
    | split
    | dsimp only
    | intro _

theorem execMeasurementComplete_keep {l : Nat} (h : covers 0x4430008eca200000000000000f71ef0000000000000000000018000001ff5e007ff600000040000120400 l) {s : State} {u : State} (k : Keep l s u) (a0) (a1) :
    KeepR l s (execMeasurementComplete a0 a1 u) := by
  have b69 := covers_bit (i := 69) h (by decide)
  unfold execMeasurementComplete
  with_reducible repeat' first
    | assumption
    | exact covers_trans (by decide) h
    | apply keep_ite
    | apply keepR_ite
    | (intro x; simp only [BankS.blank, b69, if_true]; done)
    | (intro x; (try dsimp only); (repeat' split) <;> (simp only [BankS.blank, b69, if_true]; done))
    | refine State.modBank_keep ?_ ?_
    | apply State.healthSync_keep
    | apply State.measureEnd_keep
    | apply State.measured_keep
    | apply State.predict_keep
    | apply State.bankFail_keep
    | apply State.refit_keep
    | apply KeepR.next
    | split
    | dsimp only
    | intro _

theorem State.marginOp_keep {l : Nat} (h : covers 0x4430008eca200000000000000000000000000000000000000000000000000000000020000040000000000 l) {s : State} {u : State} (k : Keep l s u) (a0) (a1) (a2) :
    Keep l s (State.marginOp a0 a1 a2 u).2.2 := by
  unfold State.marginOp
  with_reducible repeat' first
    | assumption
    | exact covers_trans (by decide) h
    | apply keep_ite
    | apply keep_ite_acc
    | apply State.manage_keep
    | apply State.powerEvent_keep
    | apply State.modDomain_keep
    | apply State.seatTx_keep
    | apply State.answer_keep
    | split
    | dsimp only
    | intro _

theorem State.ontoBank_keep {l : Nat} (h : covers 0x4430008eca200000000000000000000000000000000000000000000000000008980a00c00000000020400 l) {s : State} {u : State} (k : Keep l s u)  :
    Keep l s (State.ontoBank u) := by
  have b58 := covers_bit (i := 58) h (by decide)
  have b59 := covers_bit (i := 59) h (by decide)
  have b69 := covers_bit (i := 69) h (by decide)
  have b71 := covers_bit (i := 71) h (by decide)
  have b83 := covers_bit (i := 83) h (by decide)
  have b87 := covers_bit (i := 87) h (by decide)
  unfold State.ontoBank
  with_reducible repeat' first
    | assumption
    | exact covers_trans (by decide) h
    | apply keep_ite
    | (intro x; simp only [BankS.blank, PowerS.blank, b58, b59, b69, b71, b83, b87, if_true]; done)
    | (intro x; (try dsimp only); (repeat' split) <;> (simp only [BankS.blank, PowerS.blank, b58, b59, b69, b71, b83, b87, if_true]; done))
    | refine State.modBank_keep ?_ ?_
    | refine State.modPwr_keep ?_ ?_
    | apply State.measureEnd_keep
    | split
    | dsimp only
    | intro _

theorem State.switchOpens_keep {l : Nat} (h : covers 0xc430008eca200000000010bc0f71ef7b8480004431f00c0ff03f8ed889c0000c980a01c0005f8821b0500 l) {s : State} {u : State} (k : Keep l s u)  :
    Keep l s (State.switchOpens u) := by
  have b20 := covers_bit (i := 20) h (by decide)
  have b25 := covers_bit (i := 25) h (by decide)
  have b31 := covers_bit (i := 31) h (by decide)
  unfold State.switchOpens
  with_reducible repeat' first
    | assumption
    | exact covers_trans (by decide) h
    | apply keep_ite
    | (intro x; simp only [PowerS.blank, b20, b25, b31, if_true]; done)
    | (intro x; (try dsimp only); (repeat' split) <;> (simp only [PowerS.blank, b20, b25, b31, if_true]; done))
    | refine State.modPwr_keep ?_ ?_
    | apply State.zeroMargins_keep
    | apply State.easyEnter_keep
    | apply State.startDown_keep
    | apply State.powerLost_keep
    | apply State.ontoBank_keep
    | split
    | dsimp only
    | intro _

theorem State.coreDown_keep {l : Nat} (h : covers 0x200000000000000000000000000000000000000000000000001f000000000 l) {s : State} {u : State} (k : Keep l s u)  :
    Keep l s (State.coreDown u) := by
  have b241 := covers_bit (i := 241) h (by decide)
  unfold State.coreDown
  with_reducible repeat' first
    | assumption
    | exact covers_trans (by decide) h
    | apply keep_ite
    | (intro x; simp only [EasyS.blank, b241, if_true]; done)
    | (intro x; (try dsimp only); (repeat' split) <;> (simp only [EasyS.blank, b241, if_true]; done))
    | refine State.modEasy_keep ?_ ?_
    | apply State.startDown_keep
    | split
    | dsimp only
    | intro _

theorem State.haltRecognised_keep {l : Nat} (h : covers 0x4430008eca200000000000002f71ef0000000000000000000018000001c0000000000000f65f800100000 l) {s : State} {u : State} (k : Keep l s u) (a0) :
    Keep l s (State.haltRecognised a0 u) := by
  have b35 := covers_bit (i := 35) h (by decide)
  have b45 := covers_bit (i := 45) h (by decide)
  have b46 := covers_bit (i := 46) h (by decide)
  have b48 := covers_bit (i := 48) h (by decide)
  have b49 := covers_bit (i := 49) h (by decide)
  have b50 := covers_bit (i := 50) h (by decide)
  have b51 := covers_bit (i := 51) h (by decide)
  unfold State.haltRecognised
  with_reducible repeat' first
    | assumption
    | exact covers_trans (by decide) h
    | apply keep_ite
    | (intro x; simp only [PowerS.blank, b35, b45, b46, b48, b49, b50, b51, if_true]; done)
    | (intro x; (try dsimp only); (repeat' split) <;> (simp only [PowerS.blank, b35, b45, b46, b48, b49, b50, b51, if_true]; done))
    | refine State.modPwr_keep ?_ ?_
    | apply State.storeWrite_keep
    | apply State.powerEvent_keep
    | apply State.easyEnter_keep
    | apply State.report_keep
    | apply State.coreDown_keep
    | split
    | dsimp only
    | intro _

theorem execHaltNLow_keep {l : Nat} (h : covers 0x4430008eca200000000000002f71ef0000000000000000000018000001c0000000000000ff5f800100000 l) {s : State} {u : State} (k : Keep l s u) (a0) (a1) :
    KeepR l s (execHaltNLow a0 a1 u) := by
  have b44 := covers_bit (i := 44) h (by decide)
  have b47 := covers_bit (i := 47) h (by decide)
  unfold execHaltNLow
  with_reducible repeat' first
    | assumption
    | exact covers_trans (by decide) h
    | apply keep_ite
    | apply keepR_ite
    | (intro x; simp only [PowerS.blank, b44, b47, if_true]; done)
    | (intro x; (try dsimp only); (repeat' split) <;> (simp only [PowerS.blank, b44, b47, if_true]; done))
    | refine State.modPwr_keep ?_ ?_
    | apply State.haltRecognised_keep
    | apply KeepR.next
    | split
    | dsimp only
    | intro _

theorem execHealthRecompute_keep {l : Nat} (h : covers 0x4430008eca200000000000000000000000000000000000000000000001bff600000000000000000000000 l) {s : State} {u : State} (k : Keep l s u)  :
    KeepR l s (execHealthRecompute u) := by
  have b97 := covers_bit (i := 97) h (by decide)
  have b99 := covers_bit (i := 99) h (by decide)
  unfold execHealthRecompute
  with_reducible repeat' first
    | assumption
    | exact covers_trans (by decide) h
    | apply keep_ite
    | apply keepR_ite
    | (intro x; simp only [HealthS.blank, b97, b99, if_true]; done)
    | (intro x; (try dsimp only); (repeat' split) <;> (simp only [HealthS.blank, b97, b99, if_true]; done))
    | refine State.modHlt_keep ?_ ?_
    | apply State.healthSync_keep
    | apply State.predict_keep
    | apply State.refit_keep
    | apply KeepR.next
    | split
    | dsimp only
    | intro _

theorem execBankReadyTimeout_keep {l : Nat} (h : covers 0x4430008eca200000000000000f71ef0000000000000000000018000001f84600040200000040000100000 l) {s : State} {u : State} (k : Keep l s u)  :
    KeepR l s (execBankReadyTimeout u) := by
  unfold execBankReadyTimeout
  with_reducible repeat' first
    | assumption
    | exact covers_trans (by decide) h
    | apply keep_ite
    | apply keepR_ite
    | apply State.bankFail_keep
    | apply KeepR.next
    | split
    | dsimp only
    | intro _

theorem execHaltNSwitchWrite_keep {l : Nat} (h : covers 0x4479008ece200000000400000000000000000000000000000000800000c0000000000000010000007bd80 l) {s : State} {u : State} (k : Keep l s u) (a0) :
    KeepR l s (execHaltNSwitchWrite a0 u) := by
  unfold execHaltNSwitchWrite
  with_reducible repeat' first
    | assumption
    | exact covers_trans (by decide) h
    | apply keep_ite
    | apply keepR_ite
    | apply accessed_keep
    | apply respondAccess_keep
    | apply State.putObject_keep
    | apply KeepR.next
    | split
    | dsimp only
    | intro _

theorem State.probeRail_keep {l : Nat} (h : covers 0x4430008eca200000000000000ff3ef4800000000000000000018000001c00000000000000040000120400 l) {s : State} {u : State} (k : Keep l s u) (a0) (a1) :
    Keep l s (State.probeRail a0 a1 u) := by
  unfold State.probeRail
  with_reducible repeat' first
    | assumption
    | exact covers_trans (by decide) h
    | apply keep_ite
    | apply State.modDomain_keep
    | apply State.probeWaiting_keep
    | apply State.probeFailed_keep
    | split
    | dsimp only
    | intro _

theorem State.mediaRail_keep {l : Nat} (h : covers 0xd4b8008eca20000000000416cffbef79870038441df01f8ff67b87d881c00000000020000053000124400 l) {s : State} {u : State} (k : Keep l s u) (a0) :
    Keep l s (State.mediaRail a0 u) := by
  unfold State.mediaRail
  with_reducible repeat' first
    | assumption
    | exact covers_trans (by decide) h
    | apply keep_ite
    | apply State.modDomain_keep
    | apply State.report_keep
    | apply State.advance_keep
    | apply State.reactionFence_keep
    | split
    | dsimp only
    | intro _

theorem State.seatFault_keep {l : Nat} (h : covers 0x10000000000000000 l) {s : State} {u : State} (k : Keep l s u) (a0) (a1) (a2) :
    Keep l s (State.seatFault a0 a1 a2 u) := by
  unfold State.seatFault
  with_reducible repeat' first
    | assumption
    | exact covers_trans (by decide) h
    | apply keep_ite
    | apply State.modSeatOf_keep
    | split
    | dsimp only
    | intro _

theorem State.pullHalt_keep {l : Nat} (h : covers 0x4000000000000000000000000000000000000000000000000000000000000000000000000100000000000 l) {s : State} {u : State} (k : Keep l s u) (a0) :
    Keep l s (State.pullHalt a0 u) := by
  unfold State.pullHalt
  with_reducible repeat' first
    | assumption
    | exact covers_trans (by decide) h
    | apply keep_ite
    | apply State.haltSync_keep
    | apply State.driveHalt_keep
    | split
    | dsimp only
    | intro _

theorem State.comeUpFailure_keep {l : Nat} (h : covers 0x4430008eca200000000000000f71ef0000000000000000000018000001c006000000100001df000100000 l) {s : State} {u : State} (k : Keep l s u) (a0) (a1) :
    Keep l s (State.comeUpFailure a0 a1 u) := by
  unfold State.comeUpFailure
  with_reducible repeat' first
    | assumption
    | exact covers_trans (by decide) h
    | apply keep_ite
    | apply State.modDomain_keep
    | apply State.report_keep
    | apply State.startDown_keep
    | apply State.setLatch_keep
    | apply State.seatFault_keep
    | apply State.pullHalt_keep
    | split
    | dsimp only
    | intro _

theorem State.railUpFailed_keep {l : Nat} (h : covers 0xd4b8008eca20000000000416cffbef79870038441df01f8ff67b87d881c006000000300001df000124400 l) {s : State} {u : State} (k : Keep l s u) (a0) (a1) :
    Keep l s (State.railUpFailed a0 a1 u) := by
  unfold State.railUpFailed
  with_reducible repeat' first
    | assumption
    | exact covers_trans (by decide) h
    | apply keep_ite
    | apply State.probeRail_keep
    | apply State.mediaRail_keep
    | apply State.comeUpFailure_keep
    | split
    | dsimp only
    | intro _

theorem execStepTimeout_keep {l : Nat} (h : covers 0xd4b8008eca20000000000416cffbef79870038441df01f8ff67b87d881c006000000300001df000124400 l) {s : State} {u : State} (k : Keep l s u)  :
    KeepR l s (execStepTimeout u) := by
  unfold execStepTimeout
  with_reducible repeat' first
    | assumption
    | exact covers_trans (by decide) h
    | apply keep_ite
    | apply keepR_ite
    | apply State.railUpFailed_keep
    | apply KeepR.next
    | split
    | dsimp only
    | intro _

theorem State.seatReply_keep {l : Nat} (h : covers 0x4000000000000000000000000000000000000000000000000000000000000000000030000000000000000 l) {s : State} {u : State} (k : Keep l s u) (a0) (a1) :
    Keep l s (State.seatReply a0 a1 u) := by
  unfold State.seatReply
  with_reducible repeat' first
    | assumption
    | exact covers_trans (by decide) h
    | apply keep_ite
    | apply State.emit_keep
    | apply State.seatTx_keep
    | apply State.modSeatOf_keep
    | split
    | dsimp only
    | intro _

theorem State.seatAct_keep {l : Nat} (h : covers 0x4000000000000000000000000000000000000000000000000000000000000000000030000000000000000 l) {s : State} {a2 : State → State} (ka2 : ∀  v, Keep l s v → Keep l s (a2  v)) {u : State} (k : Keep l s u) (a0) (a1) :
    Keep l s (State.seatAct a0 a1 a2 u) := by
  unfold State.seatAct
  with_reducible repeat' first
    | assumption
    | exact covers_trans (by decide) h
    | apply keep_ite
    | apply State.seatReply_keep
    | refine ka2  _ ?_
    | split
    | dsimp only
    | intro _

theorem execMargin_keep {l : Nat} (h : covers 0x4430008eca200000000000000000000000000000000000000000000000000000000030000040000000000 l) {s : State} {u : State} (k : Keep l s u) (a0) (a1) (a2) :
    KeepR l s (execMargin a0 a1 a2 u) := by
  unfold execMargin
  with_reducible repeat' first
    | assumption
    | exact covers_trans (by decide) h
    | apply keep_ite
    | apply keepR_ite
    | apply State.powerEvent_keep
    | apply State.modDomain_keep
    | apply State.seatAct_keep
    | apply KeepR.next
    | split
    | dsimp only
    | intro _

theorem execExtestLoad_keep {l : Nat} (h : covers 0x4430008eca200000000000000f71ef0000000000000000000018000001c00000000001000040000100000 l) {s : State} {u : State} (k : Keep l s u) (a0) :
    KeepR l s (execExtestLoad a0 u) := by
  have b60 := covers_bit (i := 60) h (by decide)
  unfold execExtestLoad
  with_reducible repeat' first
    | assumption
    | exact covers_trans (by decide) h
    | apply keep_ite
    | apply keepR_ite
    | (intro x; simp only [PowerS.blank, b60, if_true]; done)
    | (intro x; (try dsimp only); (repeat' split) <;> (simp only [PowerS.blank, b60, if_true]; done))
    | refine State.modPwr_keep ?_ ?_
    | apply State.emit_keep
    | apply State.security_keep
    | apply KeepR.next
    | split
    | dsimp only
    | intro _

theorem execBankBelow41v_keep {l : Nat} (h : covers 0x300000000000000000000000000000000000000000000000000000000000000000000000000 l) {s : State} {u : State} (k : Keep l s u)  :
    KeepR l s (execBankBelow41v u) := by
  have b296 := covers_bit (i := 296) h (by decide)
  have b297 := covers_bit (i := 297) h (by decide)
  unfold execBankBelow41v
  with_reducible repeat' first
    | assumption
    | exact covers_trans (by decide) h
    | apply keep_ite
    | apply keepR_ite
    | (intro x; simp only [ParamS.blank, b296, b297, if_true]; done)
    | (intro x; (try dsimp only); (repeat' split) <;> (simp only [ParamS.blank, b296, b297, if_true]; done))
    | refine State.modPar_keep ?_ ?_
    | apply KeepR.next
    | split
    | dsimp only
    | intro _

theorem State.easyIn_keep {l : Nat} (h : covers 0x4430008eca200000000000004f000f0000000000000000000018000001c00000000000000040000120400 l) {s : State} {u : State} (k : Keep l s u) (a0) :
    Keep l s (State.easyIn a0 u) := by
  have b242 := covers_bit (i := 242) h (by decide)
  unfold State.easyIn
  with_reducible repeat' first
    | assumption
    | exact covers_trans (by decide) h
    | apply keep_ite
    | (intro x; simp only [EasyS.blank, b242, if_true]; done)
    | (intro x; (try dsimp only); (repeat' split) <;> (simp only [EasyS.blank, b242, if_true]; done))
    | refine State.modEasy_keep ?_ ?_
    | apply State.ticketDone_keep
    | apply State.easyEnter_keep
    | split
    | dsimp only
    | intro _

theorem State.easyOut_keep {l : Nat} (h : covers 0x4430008eca200000000000005f000f0000000000000000000018000001c00000000000000040000120400 l) {s : State} {u : State} (k : Keep l s u) (a0) :
    Keep l s (State.easyOut a0 u) := by
  have b237 := covers_bit (i := 237) h (by decide)
  have b240 := covers_bit (i := 240) h (by decide)
  have b242 := covers_bit (i := 242) h (by decide)
  unfold State.easyOut
  with_reducible repeat' first
    | assumption
    | exact covers_trans (by decide) h
    | apply keep_ite
    | (intro x; simp only [EasyS.blank, b237, b240, b242, if_true]; done)
    | (intro x; (try dsimp only); (repeat' split) <;> (simp only [EasyS.blank, b237, b240, b242, if_true]; done))
    | refine State.modEasy_keep ?_ ?_
    | apply State.ticketDone_keep
    | apply State.easyCheck_keep
    | split
    | dsimp only
    | intro _

theorem State.easyOp_keep {l : Nat} (h : covers 0x4430008eca200000000000005f000f0000000000000000000018000001c00000000000000040000123c00 l) {s : State} {u : State} (k : Keep l s u) (a0) (a1) :
    Keep l s (State.easyOp a0 a1 u).2.2 := by
  unfold State.easyOp
  with_reducible repeat' first
    | assumption
    | exact covers_trans (by decide) h
    | apply keep_ite
    | apply keep_ite_acc
    | apply State.answer_keep
    | apply State.deferred_keep
    | apply State.easyIn_keep
    | apply State.easyOut_keep
    | split
    | dsimp only
    | intro _

theorem State.startAfterClear_keep {l : Nat} (h : covers 0x4430008eca20000000000717ef71ef000000000411f01f81d618078881c00000020a2000007f000120400 l) {s : State} {u : State} (k : Keep l s u)  :
    Keep l s (State.startAfterClear u) := by
  unfold State.startAfterClear
  with_reducible repeat' first
    | assumption
    | exact covers_trans (by decide) h
    | apply keep_ite
    | apply State.coreStart_keep
    | split
    | dsimp only
    | intro _

theorem State.clearLatch_keep {l : Nat} (h : covers 0x4430008eca200000000000000000000000000000000000000000000001800600000000000081000000000 l) {s : State} {u : State} (k : Keep l s u)  :
    Keep l s (State.clearLatch u) := by
  have b36 := covers_bit (i := 36) h (by decide)
  have b43 := covers_bit (i := 43) h (by decide)
  unfold State.clearLatch
  with_reducible repeat' first
    | assumption
    | exact covers_trans (by decide) h
    | apply keep_ite
    | (intro x; simp only [PowerS.blank, b36, b43, if_true]; done)
    | (intro x; (try dsimp only); (repeat' split) <;> (simp only [PowerS.blank, b36, b43, if_true]; done))
    | refine State.modPwr_keep ?_ ?_
    | apply State.storeWrite_keep
    | apply State.powerEvent_keep
    | apply State.healthSync_keep
    | split
    | dsimp only
    | intro _

theorem State.latchOp_keep {l : Nat} (h : covers 0x4430008eca20000000000717ef71ef000000000411f01f81d618078881c00600020a200000ff000123c00 l) {s : State} {u : State} (k : Keep l s u) (a0) :
    Keep l s (State.latchOp a0 u).2.2 := by
  unfold State.latchOp
  with_reducible repeat' first
    | assumption
    | exact covers_trans (by decide) h
    | apply keep_ite
    | apply keep_ite_acc
    | apply State.ticketDone_keep
    | apply State.deferred_keep
    | apply State.startAfterClear_keep
    | apply State.clearLatch_keep
    | split
    | dsimp only
    | intro _

theorem State.marginOnOp_keep {l : Nat} (h : covers 0x4430008eca200000000000000000000000000000000000000000000000000000000008000040000000000 l) {s : State} {u : State} (k : Keep l s u) (a0) (a1) :
    Keep l s (State.marginOnOp a0 a1 u).2.2 := by
  have b63 := covers_bit (i := 63) h (by decide)
  unfold State.marginOnOp
  with_reducible repeat' first
    | assumption
    | exact covers_trans (by decide) h
    | apply keep_ite
    | apply keep_ite_acc
    | (intro x; simp only [PowerS.blank, b63, if_true]; done)
    | (intro x; (try dsimp only); (repeat' split) <;> (simp only [PowerS.blank, b63, if_true]; done))
    | refine State.modPwr_keep ?_ ?_
    | apply State.manage_keep
    | apply State.zeroMargins_keep
    | apply State.answer_keep
    | apply State.notifyObject_keep
    | split
    | dsimp only
    | intro _

theorem State.measureOp_keep {l : Nat} (h : covers 0x4430008eca200000000000000000000000000000000000000000000000000000180200000000000023c00 l) {s : State} {u : State} (k : Keep l s u) (a0) :
    Keep l s (State.measureOp a0 u).2.2 := by
  have b79 := covers_bit (i := 79) h (by decide)
  have b80 := covers_bit (i := 80) h (by decide)
  unfold State.measureOp
  with_reducible repeat' first
    | assumption
    | exact covers_trans (by decide) h
    | apply keep_ite
    | apply keep_ite_acc
    | (intro x; simp only [BankS.blank, b79, b80, if_true]; done)
    | (intro x; (try dsimp only); (repeat' split) <;> (simp only [BankS.blank, b79, b80, if_true]; done))
    | refine State.modBank_keep ?_ ?_
    | apply State.ticketDone_keep
    | apply State.measureSync_keep
    | apply State.deferred_keep
    | split
    | dsimp only
    | intro _

theorem State.coreOnOp_keep {l : Nat} (h : covers 0x4430008eca20000000000717ef71ef000000000411f01f81d618078881c00000020a2000007f800120400 l) {s : State} {u : State} (k : Keep l s u) (a0) :
    Keep l s (State.coreOnOp a0 u).2.2 := by
  have b35 := covers_bit (i := 35) h (by decide)
  unfold State.coreOnOp
  with_reducible repeat' first
    | assumption
    | exact covers_trans (by decide) h
    | apply keep_ite
    | apply keep_ite_acc
    | (intro x; simp only [PowerS.blank, b35, if_true]; done)
    | (intro x; (try dsimp only); (repeat' split) <;> (simp only [PowerS.blank, b35, if_true]; done))
    | refine State.modPwr_keep ?_ ?_
    | apply State.manage_keep
    | apply State.coreStart_keep
    | apply State.answer_keep
    | apply State.notifyObject_keep
    | split
    | dsimp only
    | intro _

theorem State.coreOff_keep {l : Nat} (h : covers 0x4430008eca200000000000002f000f0000000000000000000018000001c0000000000000005f800100000 l) {s : State} {u : State} (k : Keep l s u)  :
    Keep l s (State.coreOff u) := by
  have b35 := covers_bit (i := 35) h (by decide)
  unfold State.coreOff
  with_reducible repeat' first
    | assumption
    | exact covers_trans (by decide) h
    | apply keep_ite
    | (intro x; simp only [PowerS.blank, b35, if_true]; done)
    | (intro x; (try dsimp only); (repeat' split) <;> (simp only [PowerS.blank, b35, if_true]; done))
    | refine State.modPwr_keep ?_ ?_
    | apply State.easyEnter_keep
    | apply State.coreDown_keep
    | split
    | dsimp only
    | intro _

theorem State.coreOffOp_keep {l : Nat} (h : covers 0x4430008eca200000000000002f000f0000000000000000000018000001c0000000000000005f800100000 l) {s : State} {u : State} (k : Keep l s u) (a0) :
    Keep l s (State.coreOffOp a0 u).2.2 := by
  unfold State.coreOffOp
  with_reducible repeat' first
    | assumption
    | exact covers_trans (by decide) h
    | apply keep_ite
    | apply keep_ite_acc
    | apply State.manage_keep
    | apply State.answer_keep
    | apply State.notifyObject_keep
    | apply State.coreOff_keep
    | split
    | dsimp only
    | intro _

theorem State.setLimits_keep {l : Nat} (h : covers 0x80000000000000000000000 l) {s : State} {u : State} (k : Keep l s u) (a0) (a1) :
    Keep l s (State.setLimits a0 a1 u) := by
  have b91 := covers_bit (i := 91) h (by decide)
  unfold State.setLimits
  with_reducible repeat' first
    | assumption
    | exact covers_trans (by decide) h
    | apply keep_ite
    | (intro x; simp only [ThermS.blank, b91, if_true]; done)
    | (intro x; (try dsimp only); (repeat' split) <;> (simp only [ThermS.blank, b91, if_true]; done))
    | refine State.modThm_keep ?_ ?_
    | split
    | dsimp only
    | intro _

theorem State.limitsOp_keep {l : Nat} (h : covers 0x4430008ece20000000000000000000000000000000000000000000000000008000000000000000000bc00 l) {s : State} {u : State} (k : Keep l s u) (a0) (a1) (a2) (a3) :
    Keep l s (State.limitsOp a0 a1 a2 a3 u).2.2 := by
  unfold State.limitsOp
  with_reducible repeat' first
    | assumption
    | exact covers_trans (by decide) h
    | apply keep_ite
    | apply keep_ite_acc
    | apply State.answer_keep
    | apply State.putRecord_keep
    | apply State.setLimits_keep
    | split
    | dsimp only
    | intro _

theorem State.resetOp_keep {l : Nat} (h : covers 0x4430008eca200000000000000000000000000000000000000000000000000000000000000000000000000 l) {s : State} {u : State} (k : Keep l s u) (a0) (a1) :
    Keep l s (State.resetOp a0 a1 u).2.2 := by
  unfold State.resetOp
  with_reducible repeat' first
    | assumption
    | exact covers_trans (by decide) h
    | apply keep_ite
    | apply keep_ite_acc
    | apply State.manage_keep
    | apply State.answer_keep
    | split
    | dsimp only
    | intro _

theorem execEasyAllEnterCommand_keep {l : Nat} (h : covers 0x4430008eca200000000000005f000f0000000000000000000018000001c00000000000000040000133c00 l) {s : State} {u : State} (k : Keep l s u) (a0) :
    KeepR l s (execEasyAllEnterCommand a0 u) := by
  unfold execEasyAllEnterCommand
  with_reducible repeat' first
    | assumption
    | exact covers_trans (by decide) h
    | apply keep_ite
    | apply keepR_ite
    | apply guarded_keep
    | apply accessed_keep
    | apply respondAccess_keep
    | apply State.easyOp_keep
    | apply KeepR.next
    | split
    | dsimp only
    | intro _

theorem execLimitsWrite_keep {l : Nat} (h : covers 0x4430008ece20000000000000000000000000000000000000000000000080008000000000000000003bc00 l) {s : State} {u : State} (k : Keep l s u) (a0) (a1) (a2) (a3) (a4) (a5) :
    KeepR l s (execLimitsWrite a0 a1 a2 a3 a4 a5 u) := by
  unfold execLimitsWrite
  with_reducible repeat' first
    | assumption
    | exact covers_trans (by decide) h
    | apply keep_ite
    | apply keepR_ite
    | apply accessed_keep
    | apply respondAccess_keep
    | apply State.limitsOp_keep
    | apply KeepR.next
    | split
    | dsimp only
    | intro _

theorem State.chanSync_keep {l : Nat} (h : covers 0x8000000000000000000000000000000000000 l) {s : State} {u : State} (k : Keep l s u) (a0) :
    Keep l s (State.chanSync a0 u) := by
  unfold State.chanSync
  with_reducible repeat' first
    | assumption
    | exact covers_trans (by decide) h
    | apply keep_ite
    | apply State.modChannel_keep
    | split
    | dsimp only
    | intro _

theorem State.domainSync_keep {l : Nat} (h : covers 0x4430008eca200000000000000f000f0800000000000000008018000881c00000000000000040000100000 l) {s : State} {u : State} (k : Keep l s u) (a0) :
    Keep l s (State.domainSync a0 u) := by
  unfold State.domainSync
  with_reducible repeat' first
    | assumption
    | exact covers_trans (by decide) h
    | apply keep_ite
    | refine forEach_keep (fun _ _ _ => ?_) ?_ _
    | apply State.modHead_keep
    | apply State.linksSync_keep
    | apply State.modSram_keep
    | apply State.chanSync_keep
    | split
    | dsimp only
    | intro _

theorem State.switchOff_keep {l : Nat} (h : covers 0x4430008eca200000000000000f000f0800000000000000008018000881c00000000020000040000100000 l) {s : State} {u : State} (k : Keep l s u) (a0) :
    Keep l s (State.switchOff a0 u) := by
  unfold State.switchOff
  with_reducible repeat' first
    | assumption
    | exact covers_trans (by decide) h
    | apply keep_ite
    | refine forEach_keep (fun _ _ _ => ?_) ?_ _
    | apply State.powerEvent_keep
    | apply State.modDomain_keep
    | apply State.seatTx_keep
    | apply State.domainSync_keep
    | split
    | dsimp only
    | intro _

theorem State.mediaDown_keep {l : Nat} (h : covers 0x10000000000000000000000000000000000000000000000002b000100000 l) {s : State} {u : State} (k : Keep l s u)  :
    Keep l s (State.mediaDown u) := by
  have b20 := covers_bit (i := 20) h (by decide)
  have b36 := covers_bit (i := 36) h (by decide)
  have b37 := covers_bit (i := 37) h (by decide)
  have b39 := covers_bit (i := 39) h (by decide)
  have b41 := covers_bit (i := 41) h (by decide)
  have b236 := covers_bit (i := 236) h (by decide)
  unfold State.mediaDown
  with_reducible repeat' first
    | assumption
    | exact covers_trans (by decide) h
    | apply keep_ite
    | (intro x; simp only [PowerS.blank, EasyS.blank, b20, b36, b37, b39, b41, b236, if_true]; done)
    | (intro x; (try dsimp only); (repeat' split) <;> (simp only [PowerS.blank, EasyS.blank, b20, b36, b37, b39, b41, b236, if_true]; done))
    | refine State.modPwr_keep ?_ ?_
    | refine State.modEasy_keep ?_ ?_
    | split
    | dsimp only
    | intro _

theorem State.releaseHalt_keep {l : Nat} (h : covers 0x4000000000000000000000000000000000000000000000000000000000000000000020000100000000000 l) {s : State} {u : State} (k : Keep l s u)  :
    Keep l s (State.releaseHalt u) := by
  have b44 := covers_bit (i := 44) h (by decide)
  unfold State.releaseHalt
  with_reducible repeat' first
    | assumption
    | exact covers_trans (by decide) h
    | apply keep_ite
    | (intro x; simp only [PowerS.blank, b44, if_true]; done)
    | (intro x; (try dsimp only); (repeat' split) <;> (simp only [PowerS.blank, b44, if_true]; done))
    | refine State.modPwr_keep ?_ ?_
    | apply State.seatTx_keep
    | apply State.haltSync_keep
    | split
    | dsimp only
    | intro _

theorem State.downDone_keep {l : Nat} (h : covers 0xdeffffdffe2c3d7d3f63fffdffffff7ff7c082c67ff00c3ff8bf8fff9ffcc7341a0fffffffffffffbfdef l) {s : State} {u : State} (k : Keep l s u)  :
    Keep l s (State.downDone u) := by
  have b20 := covers_bit (i := 20) h (by decide)
  have b36 := covers_bit (i := 36) h (by decide)
  have b37 := covers_bit (i := 37) h (by decide)
  have b38 := covers_bit (i := 38) h (by decide)
  have b39 := covers_bit (i := 39) h (by decide)
  have b69 := covers_bit (i := 69) h (by decide)
  have b70 := covers_bit (i := 70) h (by decide)
  have b71 := covers_bit (i := 71) h (by decide)
  have b77 := covers_bit (i := 77) h (by decide)
  have b236 := covers_bit (i := 236) h (by decide)
  have b241 := covers_bit (i := 241) h (by decide)
  have b243 := covers_bit (i := 243) h (by decide)
  unfold State.downDone
  with_reducible repeat' first
    | assumption
    | exact covers_trans (by decide) h
    | apply keep_ite
    | (intro x; simp only [PowerS.blank, BankS.blank, EasyS.blank, StartS.blank, b20, b36, b37, b38, b39, b69, b70, b71, b77, b236, b241, b243, if_true]; done)
    | (intro x; (try dsimp only); (repeat' split) <;> (simp only [PowerS.blank, BankS.blank, EasyS.blank, StartS.blank, b20, b36, b37, b38, b39, b69, b70, b71, b77, b236, b241, b243, if_true]; done))
    | refine State.modPwr_keep ?_ ?_
    | refine State.modBank_keep ?_ ?_
    | refine State.modEasy_keep ?_ ?_
    | refine State.modStr_keep ?_ ?_
    | apply State.easySlots_keep
    | apply State.powerEvent_keep
    | apply State.coreLost_keep
    | apply State.powerLost_keep
    | apply State.draw_keep
    | refine snd_of_eq ‹State.draw _ = _› (State.draw_keep ?_ ?_)
    | apply State.tryReset_keep
    | apply State.measureEnd_keep
    | apply State.releaseHalt_keep
    | split
    | dsimp only
    | intro _

theorem State.downStep_keep {l : Nat} (h : covers 0xdeffffdffe2c3d7d3f63fffdffffff7ff7c082c67ff00c3ff8bf8fff9ffcc7341a0fffffffffffffbfdef l) {s : State} {u : State} (k : Keep l s u)  :
    Keep l s (State.downStep u) := by
  have b37 := covers_bit (i := 37) h (by decide)
  unfold State.downStep
  with_reducible repeat' first
    | assumption
    | exact covers_trans (by decide) h
    | apply keep_ite
    | (intro x; simp only [PowerS.blank, b37, if_true]; done)
    | (intro x; (try dsimp only); (repeat' split) <;> (simp only [PowerS.blank, b37, if_true]; done))
    | refine State.modPwr_keep ?_ ?_
    | apply State.switchOff_keep
    | apply State.mediaDown_keep
    | apply State.downDone_keep
    | split
    | dsimp only
    | intro _

theorem execPowerDownStep_keep {l : Nat} (h : covers 0xdeffffdffe2c3d7d3f63fffdffffff7ff7c082c67ff00c3ff8bf8fff9ffcc7341a0fffffffffffffbfdef l) {s : State} {u : State} (k : Keep l s u) (a0) :
    KeepR l s (execPowerDownStep a0 u) := by
  have b54 := covers_bit (i := 54) h (by decide)
  unfold execPowerDownStep
  with_reducible repeat' first
    | assumption
    | exact covers_trans (by decide) h
    | apply keep_ite
    | apply keepR_ite
    | (intro x; simp only [PowerS.blank, b54, if_true]; done)
    | (intro x; (try dsimp only); (repeat' split) <;> (simp only [PowerS.blank, b54, if_true]; done))
    | refine State.modPwr_keep ?_ ?_
    | apply State.downStep_keep
    | apply KeepR.next
    | split
    | dsimp only
    | intro _

theorem execBankLowVoltage_keep {l : Nat} (h : covers 0x4430008eca200000000000000f71ef0000000000000000000018000001f84600040600000040000100000 l) {s : State} {u : State} (k : Keep l s u) (a0) :
    KeepR l s (execBankLowVoltage a0 u) := by
  have b70 := covers_bit (i := 70) h (by decide)
  unfold execBankLowVoltage
  with_reducible repeat' first
    | assumption
    | exact covers_trans (by decide) h
    | apply keep_ite
    | apply keepR_ite
    | (intro x; simp only [BankS.blank, b70, if_true]; done)
    | (intro x; (try dsimp only); (repeat' split) <;> (simp only [BankS.blank, b70, if_true]; done))
    | refine State.modBank_keep ?_ ?_
    | apply State.bankFail_keep
    | apply KeepR.next
    | split
    | dsimp only
    | intro _

theorem execLatchClear_keep {l : Nat} (h : covers 0x4430008eca20000000000717ef71ef000000000411f01f81d618078881c00600020a200000ff000133c00 l) {s : State} {u : State} (k : Keep l s u) (a0) :
    KeepR l s (execLatchClear a0 u) := by
  unfold execLatchClear
  with_reducible repeat' first
    | assumption
    | exact covers_trans (by decide) h
    | apply keep_ite
    | apply keepR_ite
    | apply guarded_keep
    | apply accessed_keep
    | apply respondAccess_keep
    | apply State.latchOp_keep
    | apply KeepR.next
    | split
    | dsimp only
    | intro _

theorem execFlushComplete_keep {l : Nat} (h : covers 0xc430008eca200000000000004f71ef02000004043cf3ef8ff0187fd001c0000b18060000005f000120400 l) {s : State} {u : State} (k : Keep l s u)  :
    KeepR l s (execFlushComplete u) := by
  unfold execFlushComplete
  with_reducible repeat' first
    | assumption
    | exact covers_trans (by decide) h
    | apply keep_ite
    | apply keepR_ite
    | apply State.flushEnd_keep
    | apply KeepR.next
    | split
    | dsimp only
    | intro _

theorem execInputLoss_keep {l : Nat} (h : covers 0xc430008eca200000000010bc0f71ef7b8480004431f00c0ff03f8ed889c0000c980a01c0005fad21b0500 l) {s : State} {u : State} (k : Keep l s u)  :
    KeepR l s (execInputLoss u) := by
  have b25 := covers_bit (i := 25) h (by decide)
  have b28 := covers_bit (i := 28) h (by decide)
  have b30 := covers_bit (i := 30) h (by decide)
  have b33 := covers_bit (i := 33) h (by decide)
  have b59 := covers_bit (i := 59) h (by decide)
  unfold execInputLoss
  with_reducible repeat' first
    | assumption
    | exact covers_trans (by decide) h
    | apply keep_ite
    | apply keepR_ite
    | (intro x; simp only [PowerS.blank, b25, b28, b30, b33, b59, if_true]; done)
    | (intro x; (try dsimp only); (repeat' split) <;> (simp only [PowerS.blank, b25, b28, b30, b33, b59, if_true]; done))
    | refine State.modPwr_keep ?_ ?_
    | apply State.powerEvent_keep
    | apply State.inputEvent_keep
    | apply State.switchOpens_keep
    | apply KeepR.next
    | split
    | dsimp only
    | intro _

theorem State.healthInfo_keep {l : Nat} (h : covers 0x4000000000000000000000000000000000000000000000000000000000800000000000000000000000000 l) {s : State} {u : State} (k : Keep l s u) (a0) :
    Keep l s (State.healthInfo a0 u) := by
  unfold State.healthInfo
  with_reducible repeat' first
    | assumption
    | exact covers_trans (by decide) h
    | apply keep_ite
    | apply State.mbReturn_keep
    | split
    | dsimp only
    | intro _

theorem State.levelSync_keep {l : Nat} (h : covers 0x4430008eca20000000000416cf71ef000000000411f01f85f618078881c0072018022000007f000120400 l) {s : State} {u : State} (k : Keep l s u) (a0) :
    Keep l s (State.levelSync a0 u) := by
  have b89 := covers_bit (i := 89) h (by decide)
  have b92 := covers_bit (i := 92) h (by decide)
  unfold State.levelSync
  with_reducible repeat' first
    | assumption
    | exact covers_trans (by decide) h
    | apply keep_ite
    | (intro x; simp only [ThermS.blank, b89, b92, if_true]; done)
    | (intro x; (try dsimp only); (repeat' split) <;> (simp only [ThermS.blank, b89, b92, if_true]; done))
    | refine State.modThm_keep ?_ ?_
    | apply State.headEvent_keep
    | apply State.boundSync_keep
    | apply State.fireWhere_keep
    | apply State.report_keep
    | apply State.measureSync_keep
    | apply State.pauseSync_keep
    | apply State.reachT4_keep
    | apply State.healthSync_keep
    | apply State.grantIdle_keep
    | split
    | dsimp only
    | intro _

theorem execLevelFall_keep {l : Nat} (h : covers 0x4430008eca20000000000416cf71ef000000000411f01f85f618078881c0073018022000007f000120400 l) {s : State} {u : State} (k : Keep l s u) (a0) :
    KeepR l s (execLevelFall a0 u) := by
  unfold execLevelFall
  with_reducible repeat' first
    | assumption
    | exact covers_trans (by decide) h
    | apply keep_ite
    | apply keepR_ite
    | apply State.modInput_keep
    | apply State.levelSync_keep
    | apply KeepR.next
    | split
    | dsimp only
    | intro _

theorem execEasyAllLeaveCommand_keep {l : Nat} (h : covers 0x4430008eca200000000000005f000f0000000000000000000018000001c00000000000000040000133c00 l) {s : State} {u : State} (k : Keep l s u) (a0) :
    KeepR l s (execEasyAllLeaveCommand a0 u) := by
  unfold execEasyAllLeaveCommand
  with_reducible repeat' first
    | assumption
    | exact covers_trans (by decide) h
    | apply keep_ite
    | apply keepR_ite
    | apply guarded_keep
    | apply accessed_keep
    | apply respondAccess_keep
    | apply State.easyOp_keep
    | apply KeepR.next
    | split
    | dsimp only
    | intro _

theorem execDomainOn_keep {l : Nat} (h : covers 0x4000000000000000000000000000000000000000000000000000000000000000000030000040000000000 l) {s : State} {u : State} (k : Keep l s u) (a0) (a1) :
    KeepR l s (execDomainOn a0 a1 u) := by
  unfold execDomainOn
  with_reducible repeat' first
    | assumption
    | exact covers_trans (by decide) h
    | apply keep_ite
    | apply keepR_ite
    | apply State.modDomain_keep
    | apply State.seatAct_keep
    | apply KeepR.next
    | split
    | dsimp only
    | intro _

theorem execKeelTurnOn_keep {l : Nat} (h : covers 0x4430008eca20000000000717ef71ef000000000411f01f81d618078881c00000020a2080007f056120400 l) {s : State} {u : State} (k : Keep l s u)  :
    KeepR l s (execKeelTurnOn u) := by
  unfold execKeelTurnOn
  with_reducible repeat' first
    | assumption
    | exact covers_trans (by decide) h
    | apply keep_ite
    | apply keepR_ite
    | apply State.inputRises_keep
    | apply KeepR.next
    | split
    | dsimp only
    | intro _

theorem execMeasureNow_keep {l : Nat} (h : covers 0x4430008eca200000000000000000000000000000000000000000000000800000180200000000000033c00 l) {s : State} {u : State} (k : Keep l s u) (a0) :
    KeepR l s (execMeasureNow a0 u) := by
  unfold execMeasureNow
  with_reducible repeat' first
    | assumption
    | exact covers_trans (by decide) h
    | apply keep_ite
    | apply keepR_ite
    | apply guarded_keep
    | apply accessed_keep
    | apply respondAccess_keep
    | apply State.measureOp_keep
    | apply KeepR.next
    | split
    | dsimp only
    | intro _

theorem execReadV_keep {l : Nat} (h : covers 0x4000000000000000000000000000000000000000000000000000000000000000000030000000000000000 l) {s : State} {u : State} (k : Keep l s u) (a0) (a1) :
    KeepR l s (execReadV a0 a1 u) := by
  unfold execReadV
  with_reducible repeat' first
    | assumption
    | exact covers_trans (by decide) h
    | apply keep_ite
    | apply keepR_ite
    | apply State.seatReply_keep
    | apply KeepR.next
    | split
    | dsimp only
    | intro _

theorem execBreakerLatchRelease_keep {l : Nat} (h : covers 0xc000000 l) {s : State} {u : State} (k : Keep l s u)  :
    KeepR l s (execBreakerLatchRelease u) := by
  have b26 := covers_bit (i := 26) h (by decide)
  have b27 := covers_bit (i := 27) h (by decide)
  unfold execBreakerLatchRelease
  with_reducible repeat' first
    | assumption
    | exact covers_trans (by decide) h
    | apply keep_ite
    | apply keepR_ite
    | (intro x; simp only [PowerS.blank, b26, b27, if_true]; done)
    | (intro x; (try dsimp only); (repeat' split) <;> (simp only [PowerS.blank, b26, b27, if_true]; done))
    | refine State.modPwr_keep ?_ ?_
    | apply KeepR.next
    | split
    | dsimp only
    | intro _

theorem State.busFailure_keep {l : Nat} (h : covers 0x4430008eca200000000000000f71ef0000000000000000000018000001c006000001d00001c0000100000 l) {s : State} {u : State} (k : Keep l s u) (a0) (a1) :
    Keep l s (State.busFailure a0 a1 u) := by
  have b66 := covers_bit (i := 66) h (by decide)
  have b67 := covers_bit (i := 67) h (by decide)
  have b68 := covers_bit (i := 68) h (by decide)
  unfold State.busFailure
  with_reducible repeat' first
    | assumption
    | exact covers_trans (by decide) h
    | apply keep_ite
    | (intro x; simp only [SeatBusS.blank, b66, b67, b68, if_true]; done)
    | (intro x; (try dsimp only); (repeat' split) <;> (simp only [SeatBusS.blank, b66, b67, b68, if_true]; done))
    | refine State.modSeat_keep ?_ ?_
    | apply State.report_keep
    | apply State.setLatch_keep
    | apply State.modSeatOf_keep
    | apply State.pullHalt_keep
    | split
    | dsimp only
    | intro _

theorem execSeatBusStuck_keep {l : Nat} (h : covers 0x4430008eca200000000000000f71ef0000000000000000000018000001c006000001d00001c0000100000 l) {s : State} {u : State} (k : Keep l s u) (a0) :
    KeepR l s (execSeatBusStuck a0 u) := by
  unfold execSeatBusStuck
  with_reducible repeat' first
    | assumption
    | exact covers_trans (by decide) h
    | apply keep_ite
    | apply keepR_ite
    | apply State.busFailure_keep
    | apply KeepR.next
    | split
    | dsimp only
    | intro _

theorem execGetHealthInfo_keep {l : Nat} (h : covers 0x4000000000000000000000000000000000000000000000000000000001800000000000000000000000000 l) {s : State} {u : State} (k : Keep l s u) (a0) :
    KeepR l s (execGetHealthInfo a0 u) := by
  unfold execGetHealthInfo
  with_reducible repeat' first
    | assumption
    | exact covers_trans (by decide) h
    | apply keep_ite
    | apply keepR_ite
    | apply mailboxed_keep
    | apply State.healthInfo_keep
    | apply KeepR.next
    | split
    | dsimp only
    | intro _

theorem execT4ClearTimer_keep {l : Nat} (h : covers 0x4430008eca20000000000416cf71ef000000000411f01f81d618078881c00000000020000073000120400 l) {s : State} {u : State} (k : Keep l s u)  :
    KeepR l s (execT4ClearTimer u) := by
  have b36 := covers_bit (i := 36) h (by decide)
  have b37 := covers_bit (i := 37) h (by decide)
  have b40 := covers_bit (i := 40) h (by decide)
  have b41 := covers_bit (i := 41) h (by decide)
  have b236 := covers_bit (i := 236) h (by decide)
  have b237 := covers_bit (i := 237) h (by decide)
  unfold execT4ClearTimer
  with_reducible repeat' first
    | assumption
    | exact covers_trans (by decide) h
    | apply keep_ite
    | apply keepR_ite
    | (intro x; simp only [EasyS.blank, PowerS.blank, b36, b37, b40, b41, b236, b237, if_true]; done)
    | (intro x; (try dsimp only); (repeat' split) <;> (simp only [EasyS.blank, PowerS.blank, b36, b37, b40, b41, b236, b237, if_true]; done))
    | refine State.modEasy_keep ?_ ?_
    | refine State.modPwr_keep ?_ ?_
    | apply State.easyCheck_keep
    | apply State.advance_keep
    | apply State.pauseSync_keep
    | apply KeepR.next
    | split
    | dsimp only
    | intro _

theorem execOvervoltage_keep {l : Nat} (h : covers 0xc430008eca200000000010bc0f71ef7b8480004431f00c0ff03f8ed889c0000c980a01c0005fab21b0500 l) {s : State} {u : State} (k : Keep l s u)  :
    KeepR l s (execOvervoltage u) := by
  have b25 := covers_bit (i := 25) h (by decide)
  have b28 := covers_bit (i := 28) h (by decide)
  have b29 := covers_bit (i := 29) h (by decide)
  have b33 := covers_bit (i := 33) h (by decide)
  have b59 := covers_bit (i := 59) h (by decide)
  unfold execOvervoltage
  with_reducible repeat' first
    | assumption
    | exact covers_trans (by decide) h
    | apply keep_ite
    | apply keepR_ite
    | (intro x; simp only [PowerS.blank, b25, b28, b29, b33, b59, if_true]; done)
    | (intro x; (try dsimp only); (repeat' split) <;> (simp only [PowerS.blank, b25, b28, b29, b33, b59, if_true]; done))
    | refine State.modPwr_keep ?_ ?_
    | apply State.powerEvent_keep
    | apply State.inputEvent_keep
    | apply State.switchOpens_keep
    | apply KeepR.next
    | split
    | dsimp only
    | intro _

theorem execOvervoltageClear_keep {l : Nat} (h : covers 0x4430008eca20000000000717ef71ef000000000411f01f81d618078881c00000020a2080007f036120400 l) {s : State} {u : State} (k : Keep l s u)  :
    KeepR l s (execOvervoltageClear u) := by
  have b29 := covers_bit (i := 29) h (by decide)
  unfold execOvervoltageClear
  with_reducible repeat' first
    | assumption
    | exact covers_trans (by decide) h
    | apply keep_ite
    | apply keepR_ite
    | (intro x; simp only [PowerS.blank, b29, if_true]; done)
    | (intro x; (try dsimp only); (repeat' split) <;> (simp only [PowerS.blank, b29, if_true]; done))
    | refine State.modPwr_keep ?_ ?_
    | apply State.inputReturns_keep
    | apply KeepR.next
    | split
    | dsimp only
    | intro _

theorem execBreakerTrip_keep {l : Nat} (h : covers 0xc430008eca200000000010bc0f71ef7b8480004431f00c0ff03f8ed889c0000c980a01c0005fc9e1b0500 l) {s : State} {u : State} (k : Keep l s u)  :
    KeepR l s (execBreakerTrip u) := by
  have b25 := covers_bit (i := 25) h (by decide)
  have b26 := covers_bit (i := 26) h (by decide)
  have b27 := covers_bit (i := 27) h (by decide)
  have b28 := covers_bit (i := 28) h (by decide)
  have b34 := covers_bit (i := 34) h (by decide)
  have b59 := covers_bit (i := 59) h (by decide)
  unfold execBreakerTrip
  with_reducible repeat' first
    | assumption
    | exact covers_trans (by decide) h
    | apply keep_ite
    | apply keepR_ite
    | (intro x; simp only [PowerS.blank, b25, b26, b27, b28, b34, b59, if_true]; done)
    | (intro x; (try dsimp only); (repeat' split) <;> (simp only [PowerS.blank, b25, b26, b27, b28, b34, b59, if_true]; done))
    | refine State.modPwr_keep ?_ ?_
    | apply State.powerEvent_keep
    | apply State.inputEvent_keep
    | apply State.switchOpens_keep
    | apply KeepR.next
    | split
    | dsimp only
    | intro _

theorem execBladePairImbalance_keep {l : Nat} (h : covers 0x4430008eca200000000000000f71ef0000000000000000000018000001c00000000000000040000d00000 l) {s : State} {u : State} (k : Keep l s u) (a0) (a1) :
    KeepR l s (execBladePairImbalance a0 a1 u) := by
  have b22 := covers_bit (i := 22) h (by decide)
  have b23 := covers_bit (i := 23) h (by decide)
  unfold execBladePairImbalance
  with_reducible repeat' first
    | assumption
    | exact covers_trans (by decide) h
    | apply keep_ite
    | apply keepR_ite
    | (intro x; simp only [PowerS.blank, b22, b23, if_true]; done)
    | (intro x; (try dsimp only); (repeat' split) <;> (simp only [PowerS.blank, b22, b23, if_true]; done))
    | refine State.modPwr_keep ?_ ?_
    | apply State.report_keep
    | apply KeepR.next
    | split
    | dsimp only
    | intro _

theorem execInputGoodAgain_keep {l : Nat} (h : covers 0x4430008eca20000000000717ef71ef000000000411f01f81d618078881c00000020a2080007f056120400 l) {s : State} {u : State} (k : Keep l s u)  :
    KeepR l s (execInputGoodAgain u) := by
  unfold execInputGoodAgain
  with_reducible repeat' first
    | assumption
    | exact covers_trans (by decide) h
    | apply keep_ite
    | apply keepR_ite
    | apply State.inputRises_keep
    | apply KeepR.next
    | split
    | dsimp only
    | intro _

theorem State.pinsNow_keep {l : Nat} (h : covers 0x40000000000000 l) {s : State} {u : State} (k : Keep l s u) (a0) :
    Keep l s (State.pinsNow a0 u) := by
  have b54 := covers_bit (i := 54) h (by decide)
  unfold State.pinsNow
  with_reducible repeat' first
    | assumption
    | exact covers_trans (by decide) h
    | apply keep_ite
    | (intro x; simp only [PowerS.blank, b54, if_true]; done)
    | (intro x; (try dsimp only); (repeat' split) <;> (simp only [PowerS.blank, b54, if_true]; done))
    | refine State.modPwr_keep ?_ ?_
    | split
    | dsimp only
    | intro _

theorem execInputGoodResetTimer_keep {l : Nat} (h : covers 0xdeffffdffe2c3d7d3f63fffdfb8fdf7ff7c082c66fb0003ee8bf87ff9ffcc7301a0bffffffffffffbfdef l) {s : State} {u : State} (k : Keep l s u) (a0) :
    KeepR l s (execInputGoodResetTimer a0 u) := by
  have b20 := covers_bit (i := 20) h (by decide)
  have b36 := covers_bit (i := 36) h (by decide)
  have b58 := covers_bit (i := 58) h (by decide)
  have b59 := covers_bit (i := 59) h (by decide)
  unfold execInputGoodResetTimer
  with_reducible repeat' first
    | assumption
    | exact covers_trans (by decide) h
    | apply keep_ite
    | apply keepR_ite
    | (intro x; simp only [PowerS.blank, b20, b36, b58, b59, if_true]; done)
    | (intro x; (try dsimp only); (repeat' split) <;> (simp only [PowerS.blank, b20, b36, b58, b59, if_true]; done))
    | refine State.modPwr_keep ?_ ?_
    | apply State.startDown_keep
    | apply State.tryReset_keep
    | apply State.pinsNow_keep
    | apply KeepR.next
    | split
    | dsimp only
    | intro _

theorem execBankBelow40v_keep {l : Nat} (h : covers 0xc430008eca200000000010bc0f71ef7b8480004431f00c0ff03f8ed889c00004080a010000438001b0500 l) {s : State} {u : State} (k : Keep l s u)  :
    KeepR l s (execBankBelow40v u) := by
  unfold execBankBelow40v
  with_reducible repeat' first
    | assumption
    | exact covers_trans (by decide) h
    | apply keep_ite
    | apply keepR_ite
    | apply State.powerLost_keep
    | apply KeepR.next
    | split
    | dsimp only
    | intro _

theorem execCorePowerOffRequest_keep {l : Nat} (h : covers 0x4430008eca200000000000002f000f0000000000000000000018000001c0000000000000005f800130400 l) {s : State} {u : State} (k : Keep l s u)  :
    KeepR l s (execCorePowerOffRequest u) := by
  unfold execCorePowerOffRequest
  with_reducible repeat' first
    | assumption
    | exact covers_trans (by decide) h
    | apply keep_ite
    | apply keepR_ite
    | apply accessed_keep
    | apply respondAccess_keep
    | apply State.coreOffOp_keep
    | apply KeepR.next
    | split
    | dsimp only
    | intro _

theorem execCorePowerOnRequest_keep {l : Nat} (h : covers 0x4430008eca20000000000717ef71ef000000000411f01f81d618078881c00000020a2000007f800130400 l) {s : State} {u : State} (k : Keep l s u)  :
    KeepR l s (execCorePowerOnRequest u) := by
  unfold execCorePowerOnRequest
  with_reducible repeat' first
    | assumption
    | exact covers_trans (by decide) h
    | apply keep_ite
    | apply keepR_ite
    | apply accessed_keep
    | apply respondAccess_keep
    | apply State.coreOnOp_keep
    | apply KeepR.next
    | split
    | dsimp only
    | intro _

theorem execGaSample_keep {l : Nat} (h : covers 0x4430008eca200000000000000f71ef0000000000000000000018000001c000000000001e0040000100000 l) {s : State} {u : State} (k : Keep l s u) (a0) :
    KeepR l s (execGaSample a0 u) := by
  have b53 := covers_bit (i := 53) h (by decide)
  have b54 := covers_bit (i := 54) h (by decide)
  have b55 := covers_bit (i := 55) h (by decide)
  have b56 := covers_bit (i := 56) h (by decide)
  unfold execGaSample
  with_reducible repeat' first
    | assumption
    | exact covers_trans (by decide) h
    | apply keep_ite
    | apply keepR_ite
    | (intro x; simp only [PowerS.blank, b53, b54, b55, b56, if_true]; done)
    | (intro x; (try dsimp only); (repeat' split) <;> (simp only [PowerS.blank, b53, b54, b55, b56, if_true]; done))
    | refine State.modPwr_keep ?_ ?_
    | apply State.report_keep
    | apply State.notifyObject_keep
    | apply KeepR.next
    | split
    | dsimp only
    | intro _

theorem execModrstAssert_keep {l : Nat} (h : covers 0xdeffffdffe2c3d7d3f63fffdff8fdf7ff7c082c66fb0003ee8bf87ff9ffcc7301a0bffffffffffffbfdef l) {s : State} {u : State} (k : Keep l s u) (a0) (a1) :
    KeepR l s (execModrstAssert a0 a1 u) := by
  have b57 := covers_bit (i := 57) h (by decide)
  unfold execModrstAssert
  with_reducible repeat' first
    | assumption
    | exact covers_trans (by decide) h
    | apply keep_ite
    | apply keepR_ite
    | (intro x; simp only [PowerS.blank, b57, if_true]; done)
    | (intro x; (try dsimp only); (repeat' split) <;> (simp only [PowerS.blank, b57, if_true]; done))
    | refine State.modPwr_keep ?_ ?_
    | apply State.draw_keep
    | refine snd_of_eq ‹State.draw _ = _› (State.draw_keep ?_ ?_)
    | apply State.askReset_keep
    | apply State.pinsNow_keep
    | apply KeepR.next
    | split
    | dsimp only
    | intro _

theorem execModrstRelease_keep {l : Nat} (h : covers 0xdeffffdffe2c3d7d3f63fffdfb8fdf7ff7c082c66fb0003ee8bf87ff9ffcc7301a0bffffffffffffbfdef l) {s : State} {u : State} (k : Keep l s u) (a0) :
    KeepR l s (execModrstRelease a0 u) := by
  have b57 := covers_bit (i := 57) h (by decide)
  unfold execModrstRelease
  with_reducible repeat' first
    | assumption
    | exact covers_trans (by decide) h
    | apply keep_ite
    | apply keepR_ite
    | (intro x; simp only [PowerS.blank, b57, if_true]; done)
    | (intro x; (try dsimp only); (repeat' split) <;> (simp only [PowerS.blank, b57, if_true]; done))
    | refine State.modPwr_keep ?_ ?_
    | apply State.tryReset_keep
    | apply State.pinsNow_keep
    | apply KeepR.next
    | split
    | dsimp only
    | intro _

theorem execModuleReset_keep {l : Nat} (h : covers 0xdeffffdffe2c3d7d3f63fffdff8fdf7ff7c082c66fb0003ee8bf87ff9ffcc7301a0bffffffffffffbfdef l) {s : State} {u : State} (k : Keep l s u) (a0) (a1) (a2) :
    KeepR l s (execModuleReset a0 a1 a2 u) := by
  unfold execModuleReset
  with_reducible repeat' first
    | assumption
    | exact covers_trans (by decide) h
    | apply keep_ite
    | apply keepR_ite
    | apply State.askReset_keep
    | apply guarded_keep
    | apply accessed_keep
    | apply respondAccess_keep
    | apply State.resetOp_keep
    | apply State.pinsNow_keep
    | apply KeepR.next
    | split
    | dsimp only
    | intro _

theorem execKeelRailsQualified_keep {l : Nat} (h : covers 0x5effffdeee2c3c7d3f63fffdfb8fdf7ff7c082c66fb0003ee8bf87ff9ffcc7301a0bffffffffffffbfdff l) {s : State} {u : State} (k : Keep l s u) (a0) (a1) (a2) :
    KeepR l s (execKeelRailsQualified a0 a1 a2 u) := by
  have b4 := covers_bit (i := 4) h (by decide)
  have b5 := covers_bit (i := 5) h (by decide)
  unfold execKeelRailsQualified
  with_reducible repeat' first
    | assumption
    | exact covers_trans (by decide) h
    | apply keep_ite
    | apply keepR_ite
    | (intro x; simp only [TimeS.blank, b4, b5, TimeS.tear, if_true]; done)
    | (intro x; (try dsimp only); (repeat' split) <;> (simp only [TimeS.blank, b4, b5, TimeS.tear, if_true]; done))
    | refine State.modTim_keep ?_ ?_
    | apply State.keelReset_keep
    | apply State.pinsNow_keep
    | apply KeepR.next
    | split
    | dsimp only
    | intro _

theorem execKeelRailRetry_keep {l : Nat} {s : State} {u : State} (k : Keep l s u)  :
    KeepR l s (execKeelRailRetry u) := by
  unfold execKeelRailRetry
  with_reducible repeat' first
    | assumption
    | apply keep_ite
    | apply keepR_ite
    | apply KeepR.next
    | split
    | dsimp only
    | intro _

theorem execDomainQualified_keep {l : Nat} (h : covers 0xd4b8008eca20000000000416cffbef79870038441df01f8ff67b87d881c006000000300001df000124400 l) {s : State} {u : State} (k : Keep l s u) (a0) (a1) :
    KeepR l s (execDomainQualified a0 a1 u) := by
  unfold execDomainQualified
  with_reducible repeat' first
    | assumption
    | exact covers_trans (by decide) h
    | apply keep_ite
    | apply keepR_ite
    | apply State.modDomain_keep
    | apply State.report_keep
    | apply State.advance_keep
    | apply State.railUpFailed_keep
    | apply State.domainSync_keep
    | apply KeepR.next
    | split
    | dsimp only
    | intro _

theorem State.railGone_keep {l : Nat} (h : covers 0xd4b8008eca20000000000406cffbef79870038441df01f8ff67b87d881c00000000000000050000124400 l) {s : State} {u : State} (k : Keep l s u) (a0) :
    Keep l s (State.railGone a0 u) := by
  have b137 := covers_bit (i := 137) h (by decide)
  unfold State.railGone
  with_reducible repeat' first
    | assumption
    | exact covers_trans (by decide) h
    | apply keep_ite
    | (intro x; simp only [WbS.blank, b137, if_true]; done)
    | (intro x; (try dsimp only); (repeat' split) <;> (simp only [WbS.blank, b137, if_true]; done))
    | refine State.modWb_keep ?_ ?_
    | refine forEach_keep (fun _ _ _ => ?_) ?_ _
    | apply State.reactionFence_keep
    | apply State.domainSync_keep
    | split
    | dsimp only
    | intro _

theorem execRailFailure_keep {l : Nat} (h : covers 0xd4b8008eca20000000000416cffbef79870038441df01f8ff67b87d881c006000000300001d3000124400 l) {s : State} {u : State} (k : Keep l s u) (a0) (a1) :
    KeepR l s (execRailFailure a0 a1 u) := by
  unfold execRailFailure
  with_reducible repeat' first
    | assumption
    | exact covers_trans (by decide) h
    | apply keep_ite
    | apply keepR_ite
    | apply State.modDomain_keep
    | apply State.report_keep
    | apply State.setLatch_keep
    | apply State.mediaRail_keep
    | apply State.seatFault_keep
    | apply State.pullHalt_keep
    | apply State.railGone_keep
    | apply KeepR.next
    | split
    | dsimp only
    | intro _

theorem execPowerGoodDrop_keep {l : Nat} (h : covers 0xd4b8008eca20000000000416cffbef79870038441df01f8ff67b87d881c006000000300011df000124400 l) {s : State} {u : State} (k : Keep l s u) (a0) (a1) :
    KeepR l s (execPowerGoodDrop a0 a1 u) := by
  have b48 := covers_bit (i := 48) h (by decide)
  unfold execPowerGoodDrop
  with_reducible repeat' first
    | assumption
    | exact covers_trans (by decide) h
    | apply keep_ite
    | apply keepR_ite
    | (intro x; simp only [PowerS.blank, b48, if_true]; done)
    | (intro x; (try dsimp only); (repeat' split) <;> (simp only [PowerS.blank, b48, if_true]; done))
    | refine State.modPwr_keep ?_ ?_
    | apply State.modDomain_keep
    | apply State.report_keep
    | apply State.railUpFailed_keep
    | apply execRailFailure_keep
    | apply KeepR.next
    | split
    | dsimp only
    | intro _

theorem execRailFailToFall_keep {l : Nat} (h : covers 0x4430008eca200000000000000f71ef0000000000000000000018000001c006000000100001c0000100000 l) {s : State} {u : State} (k : Keep l s u) (a0) (a1) :
    KeepR l s (execRailFailToFall a0 a1 u) := by
  unfold execRailFailToFall
  with_reducible repeat' first
    | assumption
    | exact covers_trans (by decide) h
    | apply keep_ite
    | apply keepR_ite
    | apply State.report_keep
    | apply State.setLatch_keep
    | apply State.seatFault_keep
    | apply State.pullHalt_keep
    | apply KeepR.next
    | split
    | dsimp only
    | intro _

theorem execSeatPingTimer_keep {l : Nat} (h : covers 0x30000000000000000 l) {s : State} {u : State} (k : Keep l s u)  :
    KeepR l s (execSeatPingTimer u) := by
  unfold execSeatPingTimer
  with_reducible repeat' first
    | assumption
    | exact covers_trans (by decide) h
    | apply keep_ite
    | apply keepR_ite
    | refine forEach_keep (fun _ _ _ => ?_) ?_ _
    | apply State.seatTx_keep
    | apply State.modSeatOf_keep
    | apply KeepR.next
    | split
    | dsimp only
    | intro _

theorem execDomainStatusPoll_keep {l : Nat} (h : covers 0x20000000000000000 l) {s : State} {u : State} (k : Keep l s u)  :
    KeepR l s (execDomainStatusPoll u) := by
  unfold execDomainStatusPoll
  with_reducible repeat' first
    | assumption
    | exact covers_trans (by decide) h
    | apply keep_ite
    | apply keepR_ite
    | apply State.seatTx_keep
    | apply KeepR.next
    | split
    | dsimp only
    | intro _

theorem execSeatBusFailure_keep {l : Nat} (h : covers 0x4430008eca200000000000000f71ef0000000000000000000018000001c006000001d00001c0000100000 l) {s : State} {u : State} (k : Keep l s u) (a0) (a1) :
    KeepR l s (execSeatBusFailure a0 a1 u) := by
  unfold execSeatBusFailure
  with_reducible repeat' first
    | assumption
    | exact covers_trans (by decide) h
    | apply keep_ite
    | apply keepR_ite
    | apply State.busFailure_keep
    | apply KeepR.next
    | split
    | dsimp only
    | intro _

theorem execPing_keep {l : Nat} (h : covers 0x4000000000000000000000000000000000000000000000000000000000000000000030000000000000000 l) {s : State} {u : State} (k : Keep l s u) (a0) :
    KeepR l s (execPing a0 u) := by
  unfold execPing
  with_reducible repeat' first
    | assumption
    | exact covers_trans (by decide) h
    | apply keep_ite
    | apply keepR_ite
    | apply State.seatReply_keep
    | apply KeepR.next
    | split
    | dsimp only
    | intro _

theorem execDomainOff_keep {l : Nat} (h : covers 0x4430008eca200000000000000f000f0800000000000000008018000881c00000000030000040000100000 l) {s : State} {u : State} (k : Keep l s u) (a0) (a1) :
    KeepR l s (execDomainOff a0 a1 u) := by
  unfold execDomainOff
  with_reducible repeat' first
    | assumption
    | exact covers_trans (by decide) h
    | apply keep_ite
    | apply keepR_ite
    | apply State.powerEvent_keep
    | apply State.modDomain_keep
    | apply State.seatAct_keep
    | apply State.domainSync_keep
    | apply KeepR.next
    | split
    | dsimp only
    | intro _

theorem execDomainStatus_keep {l : Nat} (h : covers 0x4000000000000000000000000000000000000000000000000000000000000000000030000000000000000 l) {s : State} {u : State} (k : Keep l s u) (a0) (a1) :
    KeepR l s (execDomainStatus a0 a1 u) := by
  unfold execDomainStatus
  with_reducible repeat' first
    | assumption
    | exact covers_trans (by decide) h
    | apply keep_ite
    | apply keepR_ite
    | apply State.seatReply_keep
    | apply KeepR.next
    | split
    | dsimp only
    | intro _

theorem execReadI_keep {l : Nat} (h : covers 0x4000000000000000000000000000000000000000000000000000000000000000000030000000000000000 l) {s : State} {u : State} (k : Keep l s u) (a0) (a1) :
    KeepR l s (execReadI a0 a1 u) := by
  unfold execReadI
  with_reducible repeat' first
    | assumption
    | exact covers_trans (by decide) h
    | apply keep_ite
    | apply keepR_ite
    | apply State.seatReply_keep
    | apply KeepR.next
    | split
    | dsimp only
    | intro _

theorem execCharger_keep {l : Nat} (h : covers 0x4000000000000000000000000000000000000000000000000000000000000000000a30000000000000000 l) {s : State} {u : State} (k : Keep l s u) (a0) (a1) :
    KeepR l s (execCharger a0 a1 u) := by
  have b69 := covers_bit (i := 69) h (by decide)
  have b71 := covers_bit (i := 71) h (by decide)
  unfold execCharger
  with_reducible repeat' first
    | assumption
    | exact covers_trans (by decide) h
    | apply keep_ite
    | apply keepR_ite
    | (intro x; simp only [BankS.blank, b69, b71, if_true]; done)
    | (intro x; (try dsimp only); (repeat' split) <;> (simp only [BankS.blank, b69, b71, if_true]; done))
    | refine State.modBank_keep ?_ ?_
    | apply State.seatAct_keep
    | apply KeepR.next
    | split
    | dsimp only
    | intro _

theorem execCapMeasure_keep {l : Nat} (h : covers 0x4000000000000000000000000000000000000000000000000000000000000000180230000000000000000 l) {s : State} {u : State} (k : Keep l s u) (a0) :
    KeepR l s (execCapMeasure a0 u) := by
  unfold execCapMeasure
  with_reducible repeat' first
    | assumption
    | exact covers_trans (by decide) h
    | apply keep_ite
    | apply keepR_ite
    | apply State.measure_keep
    | apply State.seatAct_keep
    | apply KeepR.next
    | split
    | dsimp only
    | intro _

theorem execCapResult_keep {l : Nat} (h : covers 0x4000000000000000000000000000000000000000000000000000000000000000000030000000000000000 l) {s : State} {u : State} (k : Keep l s u) (a0) :
    KeepR l s (execCapResult a0 u) := by
  unfold execCapResult
  with_reducible repeat' first
    | assumption
    | exact covers_trans (by decide) h
    | apply keep_ite
    | apply keepR_ite
    | apply State.seatReply_keep
    | apply KeepR.next
    | split
    | dsimp only
    | intro _

theorem execHaltRelease_keep {l : Nat} (h : covers 0x4000000000000000000000000000000000000000000000000000000000000000000030000100000000000 l) {s : State} {u : State} (k : Keep l s u) (a0) :
    KeepR l s (execHaltRelease a0 u) := by
  have b44 := covers_bit (i := 44) h (by decide)
  unfold execHaltRelease
  with_reducible repeat' first
    | assumption
    | exact covers_trans (by decide) h
    | apply keep_ite
    | apply keepR_ite
    | (intro x; simp only [PowerS.blank, b44, if_true]; done)
    | (intro x; (try dsimp only); (repeat' split) <;> (simp only [PowerS.blank, b44, if_true]; done))
    | refine State.modPwr_keep ?_ ?_
    | apply State.haltSync_keep
    | apply State.seatAct_keep
    | apply KeepR.next
    | split
    | dsimp only
    | intro _

theorem execFaultRead_keep {l : Nat} (h : covers 0x4000000000000000000000000000000000000000000000000000000000000000000030000000000000000 l) {s : State} {u : State} (k : Keep l s u) (a0) :
    KeepR l s (execFaultRead a0 u) := by
  unfold execFaultRead
  with_reducible repeat' first
    | assumption
    | exact covers_trans (by decide) h
    | apply keep_ite
    | apply keepR_ite
    | apply State.seatReply_keep
    | apply KeepR.next
    | split
    | dsimp only
    | intro _

theorem execSeatSelfShutdown_keep {l : Nat} (h : covers 0x4430008eca200000000000000f000f0800000000000000008018000881c00000000000000040000100000 l) {s : State} {u : State} (k : Keep l s u) (a0) :
    KeepR l s (execSeatSelfShutdown a0 u) := by
  unfold execSeatSelfShutdown
  with_reducible repeat' first
    | assumption
    | exact covers_trans (by decide) h
    | apply keep_ite
    | apply keepR_ite
    | refine forEach_keep (fun _ _ _ => ?_) ?_ _
    | apply State.modDomain_keep
    | apply State.domainSync_keep
    | apply KeepR.next
    | split
    | dsimp only
    | intro _

theorem execMarginingEnable_keep {l : Nat} (h : covers 0x4430008eca200000000000000000000000000000000000000000000000800000000008000040000030400 l) {s : State} {u : State} (k : Keep l s u) (a0) :
    KeepR l s (execMarginingEnable a0 u) := by
  unfold execMarginingEnable
  with_reducible repeat' first
    | assumption
    | exact covers_trans (by decide) h
    | apply keep_ite
    | apply keepR_ite
    | apply accessed_keep
    | apply respondAccess_keep
    | apply State.marginOnOp_keep
    | apply KeepR.next
    | split
    | dsimp only
    | intro _

theorem execMarginRequest_keep {l : Nat} (h : covers 0x4430008eca200000000000000000000000000000000000000000000000800000000020000040000030400 l) {s : State} {u : State} (k : Keep l s u) (a0) (a1) :
    KeepR l s (execMarginRequest a0 a1 u) := by
  unfold execMarginRequest
  with_reducible repeat' first
    | assumption
    | exact covers_trans (by decide) h
    | apply keep_ite
    | apply keepR_ite
    | apply State.marginOp_keep
    | apply accessed_keep
    | apply respondAccess_keep
    | apply KeepR.next
    | split
    | dsimp only
    | intro _

theorem execBankReady_keep {l : Nat} (h : covers 0x4430008eca200000000000000000000000000000000000000000000001b846001c0600000000000000000 l) {s : State} {u : State} (k : Keep l s u) (a0) :
    KeepR l s (execBankReady a0 u) := by
  have b69 := covers_bit (i := 69) h (by decide)
  have b70 := covers_bit (i := 70) h (by decide)
  have b78 := covers_bit (i := 78) h (by decide)
  unfold execBankReady
  with_reducible repeat' first
    | assumption
    | exact covers_trans (by decide) h
    | apply keep_ite
    | apply keepR_ite
    | (intro x; simp only [BankS.blank, b69, b70, b78, if_true]; done)
    | (intro x; (try dsimp only); (repeat' split) <;> (simp only [BankS.blank, b69, b70, b78, if_true]; done))
    | refine State.modBank_keep ?_ ?_
    | apply State.powerEvent_keep
    | apply State.measureSync_keep
    | apply State.healthSync_keep
    | apply State.predict_keep
    | apply KeepR.next
    | split
    | dsimp only
    | intro _

theorem execBoostFault_keep {l : Nat} (h : covers 0x4430008eca200000000000000f71ef0000000000000000000018000001f84600040200000040000100000 l) {s : State} {u : State} (k : Keep l s u)  :
    KeepR l s (execBoostFault u) := by
  unfold execBoostFault
  with_reducible repeat' first
    | assumption
    | exact covers_trans (by decide) h
    | apply keep_ite
    | apply keepR_ite
    | apply State.bankFail_keep
    | apply KeepR.next
    | split
    | dsimp only
    | intro _

theorem execCapacitanceMeasurementDue_keep {l : Nat} (h : covers 0x180200000000000000000 l) {s : State} {u : State} (k : Keep l s u)  :
    KeepR l s (execCapacitanceMeasurementDue u) := by
  have b80 := covers_bit (i := 80) h (by decide)
  unfold execCapacitanceMeasurementDue
  with_reducible repeat' first
    | assumption
    | exact covers_trans (by decide) h
    | apply keep_ite
    | apply keepR_ite
    | (intro x; simp only [BankS.blank, b80, if_true]; done)
    | (intro x; (try dsimp only); (repeat' split) <;> (simp only [BankS.blank, b80, if_true]; done))
    | refine State.modBank_keep ?_ ?_
    | apply State.measureSync_keep
    | apply KeepR.next
    | split
    | dsimp only
    | intro _

theorem State.judge_keep {l : Nat} (h : covers 0x10000000000000000000000 l) {s : State} {u : State} (k : Keep l s u) (a0) :
    Keep l s (State.judge a0 u) := by
  unfold State.judge
  with_reducible repeat' first
    | assumption
    | exact covers_trans (by decide) h
    | apply keep_ite
    | apply State.modInput_keep
    | split
    | dsimp only
    | intro _

theorem execThermalConversion_keep {l : Nat} (h : covers 0x4430008eca20000000000416cf71ef000000000411f01f85f618078881c0073018022000007f000120400 l) {s : State} {u : State} (k : Keep l s u) (a0) (a1) (a2) :
    KeepR l s (execThermalConversion a0 a1 a2 u) := by
  have b92 := covers_bit (i := 92) h (by decide)
  unfold execThermalConversion
  with_reducible repeat' first
    | assumption
    | exact covers_trans (by decide) h
    | apply keep_ite
    | apply keepR_ite
    | (intro x; simp only [ThermS.blank, b92, if_true]; done)
    | (intro x; (try dsimp only); (repeat' split) <;> (simp only [ThermS.blank, b92, if_true]; done))
    | refine State.modThm_keep ?_ ?_
    | apply State.report_keep
    | apply State.healthSync_keep
    | apply State.modInput_keep
    | apply State.levelSync_keep
    | apply State.judge_keep
    | apply KeepR.next
    | split
    | dsimp only
    | intro _

theorem execBankCharged_keep {l : Nat} (h : covers 0x180600000000000000000 l) {s : State} {u : State} (k : Keep l s u)  :
    KeepR l s (execBankCharged u) := by
  have b70 := covers_bit (i := 70) h (by decide)
  have b80 := covers_bit (i := 80) h (by decide)
  unfold execBankCharged
  with_reducible repeat' first
    | assumption
    | exact covers_trans (by decide) h
    | apply keep_ite
    | apply keepR_ite
    | (intro x; simp only [BankS.blank, b70, b80, if_true]; done)
    | (intro x; (try dsimp only); (repeat' split) <;> (simp only [BankS.blank, b70, b80, if_true]; done))
    | refine State.modBank_keep ?_ ?_
    | apply State.measureSync_keep
    | apply KeepR.next
    | split
    | dsimp only
    | intro _

theorem execHaltNHigh_keep {l : Nat} (h : covers 0x4430008eca200000000000000000000000000000000000000000000000000000000000000b00000000000 l) {s : State} {u : State} (k : Keep l s u)  :
    KeepR l s (execHaltNHigh u) := by
  have b44 := covers_bit (i := 44) h (by decide)
  have b45 := covers_bit (i := 45) h (by decide)
  have b47 := covers_bit (i := 47) h (by decide)
  unfold execHaltNHigh
  with_reducible repeat' first
    | assumption
    | exact covers_trans (by decide) h
    | apply keep_ite
    | apply keepR_ite
    | (intro x; simp only [PowerS.blank, b44, b45, b47, if_true]; done)
    | (intro x; (try dsimp only); (repeat' split) <;> (simp only [PowerS.blank, b44, b45, b47, if_true]; done))
    | refine State.modPwr_keep ?_ ?_
    | apply State.powerEvent_keep
    | apply KeepR.next
    | split
    | dsimp only
    | intro _

end Sys2Proof.Machine
end

