-- ==== Sys2Proof/Laws/KeepAccess.lean ====
section
/-! SUPPORT. What every operation and meaning keeps (objects, sessions, messages): outside the fields that it lists, the state after is the state before. -/

set_option Elab.async false

set_option linter.unusedTactic false
set_option linter.unreachableTactic false
set_option linter.unnecessarySeqFocus false
set_option linter.unusedSimpArgs false

namespace Sys2Proof.Machine

theorem State.countFrame_keep {l : Nat} (h : covers 0x10000000000000000000000000000000000000000000000000000000000000000000000000000000000 l) {s : State} {u : State} (k : Keep l s u) (a0) :
    Keep l s (State.countFrame a0 u) := by
  have b328 := covers_bit (i := 328) h (by decide)
  unfold State.countFrame
  with_reducible repeat' first
    | assumption
    | exact covers_trans (by decide) h
    | apply keep_ite
    | (intro x; simp only [WopS.blank, b328, if_true]; done)
    | (intro x; (try dsimp only); (repeat' split) <;> (simp only [WopS.blank, b328, if_true]; done))
    | refine State.modWop_keep ?_ ?_
    | split
    | dsimp only
    | intro _

theorem State.networkAnswer_keep {l : Nat} (h : covers 0x4010000000000000000000000000000000000000000000000000000000000000000000000000000000000 l) {s : State} {u : State} (k : Keep l s u) (a0) :
    Keep l s (State.networkAnswer a0 u) := by
  unfold State.networkAnswer
  with_reducible repeat' first
    | assumption
    | exact covers_trans (by decide) h
    | apply keep_ite
    | apply State.emit_keep
    | apply State.countFrame_keep
    | split
    | dsimp only
    | intro _

theorem execIcmpv6Echo_keep {l : Nat} (h : covers 0x4010000000000000000000000000000000000000000000000000000000000000000000000000000000000 l) {s : State} {u : State} (k : Keep l s u)  :
    KeepR l s (execIcmpv6Echo u) := by
  unfold execIcmpv6Echo
  with_reducible repeat' first
    | assumption
    | exact covers_trans (by decide) h
    | apply keep_ite
    | apply keepR_ite
    | apply State.networkAnswer_keep
    | apply KeepR.next
    | split
    | dsimp only
    | intro _

theorem State.dropReply_keep {l : Nat} (h : covers 0x400000000000000000000000000000000000000000000000000000001000000000000000000000000000 l) {s : State} {u : State} (k : Keep l s u) (a0) :
    Keep l s (State.dropReply a0 u) := by
  have b334 := covers_bit (i := 334) h (by decide)
  unfold State.dropReply
  with_reducible repeat' first
    | assumption
    | exact covers_trans (by decide) h
    | apply keep_ite
    | (intro x; simp only [WopS.blank, b334, if_true]; done)
    | (intro x; (try dsimp only); (repeat' split) <;> (simp only [WopS.blank, b334, if_true]; done))
    | refine State.modWop_keep ?_ ?_
    | apply State.modHead_keep
    | split
    | dsimp only
    | intro _

theorem execMailboxReplyExpiry_keep {l : Nat} (h : covers 0x400000000000000000000000000000000000000000000000000000001000000000000000000000000000 l) {s : State} {u : State} (k : Keep l s u) (a0) :
    KeepR l s (execMailboxReplyExpiry a0 u) := by
  unfold execMailboxReplyExpiry
  with_reducible repeat' first
    | assumption
    | exact covers_trans (by decide) h
    | apply keep_ite
    | apply keepR_ite
    | apply State.dropReply_keep
    | apply KeepR.next
    | split
    | dsimp only
    | intro _

theorem execBandwidthWindowEnd_keep {l : Nat} (h : covers 0x2e00000000000000000000000000000000000000000000000000000000000000000000000000000000 l) {s : State} {u : State} (k : Keep l s u)  :
    KeepR l s (execBandwidthWindowEnd u) := by
  have b321 := covers_bit (i := 321) h (by decide)
  have b322 := covers_bit (i := 322) h (by decide)
  have b323 := covers_bit (i := 323) h (by decide)
  have b325 := covers_bit (i := 325) h (by decide)
  unfold execBandwidthWindowEnd
  with_reducible repeat' first
    | assumption
    | exact covers_trans (by decide) h
    | apply keep_ite
    | apply keepR_ite
    | (intro x; simp only [TallyS.blank, b321, b322, b323, b325, if_true]; done)
    | (intro x; (try dsimp only); (repeat' split) <;> (simp only [TallyS.blank, b321, b322, b323, b325, if_true]; done))
    | refine State.modTly_keep ?_ ?_
    | apply KeepR.next
    | split
    | dsimp only
    | intro _

theorem State.afterWrite_keep {l : Nat} (h : covers 0xdeffffdffe2c3d7dfffffffdff8fdf7ff7c082c66fb0003ee8bf87ff9ffcc7301a0bffffffffffffbfdef l) {s : State} {u : State} (k : Keep l s u) (a0) (a1) (a2) :
    Keep l s (State.afterWrite a0 a1 a2 u) := by
  unfold State.afterWrite
  with_reducible repeat' first
    | assumption
    | exact covers_trans (by decide) h
    | apply keep_ite
    | apply State.restartInto_keep
    | apply State.askReset_keep
    | apply State.closeSess_keep
    | split
    | dsimp only
    | intro _

theorem State.easyAtReady_keep {l : Nat} (h : covers 0xc430008eca200000000000006f71ef02000004043cf3ef8ff0187fd001c0000b18060000005f000120400 l) {s : State} {u : State} (k : Keep l s u)  :
    Keep l s (State.easyAtReady u) := by
  have b237 := covers_bit (i := 237) h (by decide)
  have b241 := covers_bit (i := 241) h (by decide)
  unfold State.easyAtReady
  with_reducible repeat' first
    | assumption
    | exact covers_trans (by decide) h
    | apply keep_ite
    | (intro x; simp only [EasyS.blank, b237, b241, if_true]; done)
    | (intro x; (try dsimp only); (repeat' split) <;> (simp only [EasyS.blank, b237, b241, if_true]; done))
    | refine State.modEasy_keep ?_ ?_
    | apply State.easyBegin_keep
    | apply State.flushEnd_keep
    | split
    | dsimp only
    | intro _

theorem State.endBulk_keep {l : Nat} (h : covers 0x1000000000000000000000000000000000000000000000000000000000000000000000000000000000000 l) {s : State} {u : State} (k : Keep l s u) (a0) :
    Keep l s (State.endBulk a0 u) := by
  have b336 := covers_bit (i := 336) h (by decide)
  unfold State.endBulk
  with_reducible repeat' first
    | assumption
    | exact covers_trans (by decide) h
    | apply keep_ite
    | (intro x; simp only [WopS.blank, b336, if_true]; done)
    | (intro x; (try dsimp only); (repeat' split) <;> (simp only [WopS.blank, b336, if_true]; done))
    | refine State.modWop_keep ?_ ?_
    | split
    | dsimp only
    | intro _

theorem execEqDisable_keep {l : Nat} (h : covers 0x1000000000000000000000000000 l) {s : State} {u : State} (k : Keep l s u) (a0) :
    KeepR l s (execEqDisable a0 u) := by
  unfold execEqDisable
  with_reducible repeat' first
    | assumption
    | exact covers_trans (by decide) h
    | apply keep_ite
    | apply keepR_ite
    | apply State.modEq_keep
    | apply KeepR.next
    | split
    | dsimp only
    | intro _

theorem execInFlightCapWrite_keep {l : Nat} (h : covers 0x4479008ece200000000400000000000000000000000000000000800000c0000000000000010000007bd80 l) {s : State} {u : State} (k : Keep l s u) (a0) (a1) :
    KeepR l s (execInFlightCapWrite a0 a1 u) := by
  unfold execInFlightCapWrite
  with_reducible repeat' first
    | assumption
    | exact covers_trans (by decide) h
    | apply keep_ite
    | apply keepR_ite
    | apply accessed_keep
    | apply respondAccess_keep
    | apply State.putObject_keep
    | apply KeepR.next
    | split
    | dsimp only
    | intro _

theorem execPlcaBeaconLoss_keep {l : Nat} (h : covers 0x8000000000000000000000000000000000000000000000000000000000000000000000000000000000 l) {s : State} {u : State} (k : Keep l s u)  :
    KeepR l s (execPlcaBeaconLoss u) := by
  have b327 := covers_bit (i := 327) h (by decide)
  unfold execPlcaBeaconLoss
  with_reducible repeat' first
    | assumption
    | exact covers_trans (by decide) h
    | apply keep_ite
    | apply keepR_ite
    | (intro x; simp only [WopS.blank, b327, if_true]; done)
    | (intro x; (try dsimp only); (repeat' split) <;> (simp only [WopS.blank, b327, if_true]; done))
    | refine State.modWop_keep ?_ ?_
    | apply KeepR.next
    | split
    | dsimp only
    | intro _

theorem execSubscriptionIntervalEnd_keep {l : Nat} (h : covers 0x4430000000000000000000000000000000000000000000000000000000000000000000000000000000000 l) {s : State} {u : State} (k : Keep l s u) (a0) (a1) :
    KeepR l s (execSubscriptionIntervalEnd a0 a1 u) := by
  unfold execSubscriptionIntervalEnd
  with_reducible repeat' first
    | assumption
    | exact covers_trans (by decide) h
    | apply keep_ite
    | apply keepR_ite
    | apply State.modSession_keep
    | apply State.sendNotify_keep
    | apply KeepR.next
    | split
    | dsimp only
    | intro _

theorem State.recordSess_keep {l : Nat} (h : covers 0x4430008eca200000000000000000000000000000000000000000000000000000000000000000000000000 l) {s : State} {u : State} (k : Keep l s u) (a0) :
    Keep l s (State.recordSess a0 u) := by
  unfold State.recordSess
  with_reducible repeat' first
    | assumption
    | exact covers_trans (by decide) h
    | apply keep_ite
    | apply State.manage_keep
    | split
    | dsimp only
    | intro _

theorem State.mailboxReplyOp_keep {l : Nat} (h : covers 0x4430008eca200000000000000000000000000000000000000000000001000000000000000000000000000 l) {s : State} {u : State} (k : Keep l s u) (a0) :
    Keep l s (State.mailboxReplyOp a0 u).2 := by
  unfold State.mailboxReplyOp
  with_reducible repeat' first
    | assumption
    | exact covers_trans (by decide) h
    | apply keep_ite
    | apply keep_ite_snd
    | apply State.modSession_keep
    | apply State.modHead_keep
    | apply State.recordSess_keep
    | split
    | dsimp only
    | intro _

theorem execMailboxOpenReply_keep {l : Nat} (h : covers 0x4430008eca200000000000000000000000000000000000000000000001800000000000000000000000000 l) {s : State} {u : State} (k : Keep l s u) (a0) :
    KeepR l s (execMailboxOpenReply a0 u) := by
  unfold execMailboxOpenReply
  with_reducible repeat' first
    | assumption
    | exact covers_trans (by decide) h
    | apply keep_ite
    | apply keepR_ite
    | apply State.mbAccess_keep
    | apply mailboxed_keep
    | apply State.mailboxReplyOp_keep
    | refine snd_of_eq ‹State.mailboxReplyOp _ _ = _› (State.mailboxReplyOp_keep ?_ ?_ _)
    | apply KeepR.next
    | split
    | dsimp only
    | intro _

theorem execHeadStall_keep {l : Nat} (h : covers 0x4430008eca200000000000000f71ef0000000000000000000018000001c00000000000000040000100000 l) {s : State} {u : State} (k : Keep l s u) (a0) :
    KeepR l s (execHeadStall a0 u) := by
  unfold execHeadStall
  with_reducible repeat' first
    | assumption
    | exact covers_trans (by decide) h
    | apply keep_ite
    | apply keepR_ite
    | apply State.report_keep
    | apply KeepR.next
    | split
    | dsimp only
    | intro _

theorem State.putBulk_keep {l : Nat} (h : covers 0x1000000000000000000000000000000000000000000000000000000000000000000000000000000000000 l) {s : State} {u : State} (k : Keep l s u) (a0) :
    Keep l s (State.putBulk a0 u) := by
  have b336 := covers_bit (i := 336) h (by decide)
  unfold State.putBulk
  with_reducible repeat' first
    | assumption
    | exact covers_trans (by decide) h
    | apply keep_ite
    | (intro x; simp only [WopS.blank, b336, if_true]; done)
    | (intro x; (try dsimp only); (repeat' split) <;> (simp only [WopS.blank, b336, if_true]; done))
    | refine State.modWop_keep ?_ ?_
    | split
    | dsimp only
    | intro _

theorem State.noOp_keep {l : Nat} (h : covers 0x4430008eca200000000000000000000000000000000000000000000000000000000000000000000023c00 l) {s : State} {u : State} (k : Keep l s u) (a0) :
    Keep l s (State.noOp a0 u).2.2 := by
  unfold State.noOp
  with_reducible repeat' first
    | assumption
    | exact covers_trans (by decide) h
    | apply keep_ite
    | apply keep_ite_acc
    | apply State.ticketDone_keep
    | apply State.deferred_keep
    | split
    | dsimp only
    | intro _

theorem State.rebase_keep {l : Nat} (h : covers 0x100000000000000000000000000000000000000000000000000000000000000000000000000000000 l) {s : State} {u : State} (k : Keep l s u) (a0) (a1) (a2) :
    Keep l s (State.rebase a0 a1 a2 u) := by
  have b320 := covers_bit (i := 320) h (by decide)
  unfold State.rebase
  with_reducible repeat' first
    | assumption
    | exact covers_trans (by decide) h
    | apply keep_ite
    | (intro x; simp only [TallyS.blank, b320, if_true]; done)
    | (intro x; (try dsimp only); (repeat' split) <;> (simp only [TallyS.blank, b320, if_true]; done))
    | refine State.modTly_keep ?_ ?_
    | split
    | dsimp only
    | intro _

theorem State.clearCount_keep {l : Nat} (h : covers 0x100000000000000000000000080000000000000000008000000001000000000000000000101002000 l) {s : State} {u : State} (k : Keep l s u) (a0) (a1) :
    Keep l s (State.clearCount a0 a1 u) := by
  have b13 := covers_bit (i := 13) h (by decide)
  have b24 := covers_bit (i := 24) h (by decide)
  have b32 := covers_bit (i := 32) h (by decide)
  have b223 := covers_bit (i := 223) h (by decide)
  unfold State.clearCount
  with_reducible repeat' first
    | assumption
    | exact covers_trans (by decide) h
    | apply keep_ite
    | (intro x; simp only [FaultS.blank, PowerS.blank, ObjS.blank, b13, b24, b32, b223, if_true]; done)
    | (intro x; (try dsimp only); (repeat' split) <;> (simp only [FaultS.blank, PowerS.blank, ObjS.blank, b13, b24, b32, b223, if_true]; done))
    | refine State.modFlt_keep ?_ ?_
    | refine State.modPwr_keep ?_ ?_
    | refine State.modObj_keep ?_ ?_
    | apply State.modHead_keep
    | apply State.modChannel_keep
    | apply State.rebase_keep
    | split
    | dsimp only
    | intro _

theorem State.zeroOp_keep {l : Nat} (h : covers 0x4430108eca200000000000000000080000000000000000008000000001000000000000000000101002000 l) {s : State} {u : State} (k : Keep l s u) (a0) (a1) (a2) (a3) (a4) :
    Keep l s (State.zeroOp a0 a1 a2 a3 a4 u).2.2 := by
  unfold State.zeroOp
  with_reducible repeat' first
    | assumption
    | exact covers_trans (by decide) h
    | apply keep_ite
    | apply keep_ite_acc
    | apply State.manage_keep
    | apply State.answer_keep
    | apply State.notifyObject_keep
    | apply State.clearCount_keep
    | split
    | dsimp only
    | intro _

theorem State.setKey_keep {l : Nat} (h : covers 0xd730008eca200000000000000000000000000000000000000000000000000000000000000000000004000 l) {s : State} {u : State} (k : Keep l s u) (a0) (a1) :
    Keep l s (State.setKey a0 a1 u) := by
  have b332 := covers_bit (i := 332) h (by decide)
  have b333 := covers_bit (i := 333) h (by decide)
  unfold State.setKey
  with_reducible repeat' first
    | assumption
    | exact covers_trans (by decide) h
    | apply keep_ite
    | (intro x; simp only [WopS.blank, b332, b333, if_true]; done)
    | (intro x; (try dsimp only); (repeat' split) <;> (simp only [WopS.blank, b332, b333, if_true]; done))
    | refine State.modWop_keep ?_ ?_
    | refine forEach_keep (fun _ _ _ => ?_) ?_ _
    | apply State.draw_keep
    | refine snd_of_eq ‹State.draw _ = _› (State.draw_keep ?_ ?_)
    | apply State.closeSess_keep
    | split
    | dsimp only
    | intro _

theorem State.roleKeyOp_keep {l : Nat} (h : covers 0xd730008ece200000000000000f71ef0000000000000000000018000001c0000000000000004000010fc00 l) {s : State} {u : State} (k : Keep l s u) (a0) (a1) (a2) (a3) :
    Keep l s (State.roleKeyOp a0 a1 a2 a3 u).2.2 := by
  have b15 := covers_bit (i := 15) h (by decide)
  unfold State.roleKeyOp
  with_reducible repeat' first
    | assumption
    | exact covers_trans (by decide) h
    | apply keep_ite
    | apply keep_ite_acc
    | (intro x; simp only [ObjS.blank, b15, if_true]; done)
    | (intro x; (try dsimp only); (repeat' split) <;> (simp only [ObjS.blank, b15, if_true]; done))
    | refine State.modObj_keep ?_ ?_
    | apply State.manage_keep
    | apply State.security_keep
    | apply State.answer_keep
    | apply State.deferred_keep
    | apply State.storeConfig_keep
    | apply State.setKey_keep
    | split
    | dsimp only
    | intro _

theorem State.openRefused_keep {l : Nat} (h : covers 0x4430008eca200000000000000f71ef0000000000000000000018000001c00000000000000040000100000 l) {s u t : State} (k : Keep l s u) (r)
    (e : State.openRefused r u = some t) : Keep l s t := by
  unfold State.openRefused at e
  split at e
  · cases e; exact State.security_keep h k _ _ _ _
  · split at e
    · cases e; exact k
    · cases e

theorem State.freshSession_keep {l : Nat} (h : covers 0x8000000000000000000000000000000000000000000000000000000000000000000000000000000000000 l) {s : State} {u : State} (k : Keep l s u) (a0) (a1) :
    Keep l s (State.freshSession a0 a1 u).2 := by
  unfold State.freshSession
  with_reducible repeat' first
    | assumption
    | exact covers_trans (by decide) h
    | apply keep_ite
    | apply keep_ite_snd
    | apply State.draw_keep
    | refine snd_of_eq ‹State.draw _ = _› (State.draw_keep ?_ ?_)
    | split
    | dsimp only
    | intro _

theorem State.beginSess_keep {l : Nat} (h : covers 0x8400000000000000000000000000000000000000000000000000000000000000000000000000000000000 l) {s : State} {u : State} (k : Keep l s u) (a0) (a1) :
    Keep l s (State.beginSess a0 a1 u) := by
  have b334 := covers_bit (i := 334) h (by decide)
  unfold State.beginSess
  with_reducible repeat' first
    | assumption
    | exact covers_trans (by decide) h
    | apply keep_ite
    | (intro x; simp only [WopS.blank, b334, if_true]; done)
    | (intro x; (try dsimp only); (repeat' split) <;> (simp only [WopS.blank, b334, if_true]; done))
    | refine State.modWop_keep ?_ ?_
    | apply State.draw_keep
    | refine snd_of_eq ‹State.draw _ = _› (State.draw_keep ?_ ?_)
    | split
    | dsimp only
    | intro _

theorem State.mailboxOpenOp_keep {l : Nat} (h : covers 0xc430008eca200000000000000f71ef0000000000000000000018000001c00000000000000040000100000 l) {s : State} {u : State} (k : Keep l s u) (a0) (a1) (a2) :
    Keep l s (State.mailboxOpenOp a0 a1 a2 u).2.2 := by
  unfold State.mailboxOpenOp
  with_reducible repeat' first
    | assumption
    | exact covers_trans (by decide) h
    | apply keep_ite
    | apply keep_ite_acc
    | apply State.modHead_keep
    | apply State.dropReply_keep
    | apply State.answer_keep
    | refine State.openRefused_keep ?_ ?_ _ ‹State.openRefused _ _ = some _›
    | apply State.freshSession_keep
    | refine snd_of_eq ‹State.freshSession _ _ _ = _› (State.freshSession_keep ?_ ?_ _ _)
    | apply State.beginSess_keep
    | split
    | dsimp only
    | intro _

theorem State.headResetOp_keep {l : Nat} (h : covers 0x4430008eca200000000000000f000f0000000000000000000018000881c00000000000000040000100000 l) {s : State} {u : State} (k : Keep l s u) (a0) (a1) :
    Keep l s (State.headResetOp a0 a1 u).2.2 := by
  unfold State.headResetOp
  with_reducible repeat' first
    | assumption
    | exact covers_trans (by decide) h
    | apply keep_ite
    | apply keep_ite_acc
    | apply State.manage_keep
    | apply State.modHead_keep
    | apply State.modLink_keep
    | apply State.linkDown_keep
    | apply State.answer_keep
    | split
    | dsimp only
    | intro _

theorem State.reviewSync_keep {l : Nat} (h : covers 0x4430000000000000000000208000000000000000000000000000000000400000000000000000000000000 l) {s : State} {u : State} (k : Keep l s u)  :
    Keep l s (State.reviewSync u) := by
  have b243 := covers_bit (i := 243) h (by decide)
  have b249 := covers_bit (i := 249) h (by decide)
  unfold State.reviewSync
  with_reducible repeat' first
    | assumption
    | exact covers_trans (by decide) h
    | apply keep_ite
    | (intro x; simp only [StartS.blank, b243, b249, if_true]; done)
    | (intro x; (try dsimp only); (repeat' split) <;> (simp only [StartS.blank, b243, b249, if_true]; done))
    | refine State.modStr_keep ?_ ?_
    | apply State.creditSync_keep
    | apply State.notifyObject_keep
    | split
    | dsimp only
    | intro _

theorem State.settle_keep {l : Nat} (h : covers 0x4430008eca200000000000000f71ef80000041fd1ae00f8df81b80ca01c00000000000000040000100000 l) {s : State} {u : State} (k : Keep l s u) (a0) (a1) :
    Keep l s (State.settle a0 a1 u) := by
  have b180 := covers_bit (i := 180) h (by decide)
  unfold State.settle
  with_reducible repeat' first
    | assumption
    | exact covers_trans (by decide) h
    | apply keep_ite
    | (intro x; simp only [TractS.blank, b180, if_true]; done)
    | (intro x; (try dsimp only); (repeat' split) <;> (simp only [TractS.blank, b180, if_true]; done))
    | refine State.modTrc_keep ?_ ?_
    | refine forEach_keep (fun _ _ _ => ?_) ?_ _
    | apply State.putEntry_keep
    | apply State.reestablish_keep
    | split
    | dsimp only
    | intro _

theorem State.decisionOp_keep {l : Nat} (h : covers 0x4430008eca200000000000208f71ef80000041fd1ae00f8df81b80ca01c00000000000000040000123c00 l) {s : State} {u : State} (k : Keep l s u) (a0) (a1) (a2) (a3) :
    Keep l s (State.decisionOp a0 a1 a2 a3 u).2.2 := by
  unfold State.decisionOp
  with_reducible repeat' first
    | assumption
    | exact covers_trans (by decide) h
    | apply keep_ite
    | apply keep_ite_acc
    | apply State.manage_keep
    | apply State.ticketDone_keep
    | apply State.answer_keep
    | apply State.deferred_keep
    | apply State.reviewSync_keep
    | apply State.settle_keep
    | split
    | dsimp only
    | intro _

theorem State.writeLow_keep {l : Nat} (h : covers 0xd779008ece200100000400288f71ef8080fc47fd1ae00f8df81b80cabfc0000000000000014000016ff80 l) {s : State} {u : State} (k : Keep l s u) (a0) (a1) (a2) (a3) (a4) :
    Keep l s (State.writeLow a0 a1 a2 a3 a4 u).2.2 := by
  have b9 := covers_bit (i := 9) h (by decide)
  unfold State.writeLow
  with_reducible repeat' first
    | assumption
    | exact covers_trans (by decide) h
    | apply keep_ite
    | apply keep_ite_acc
    | (intro x; simp only [ObjS.blank, b9, if_true]; done)
    | (intro x; (try dsimp only); (repeat' split) <;> (simp only [ObjS.blank, b9, if_true]; done))
    | refine State.modObj_keep ?_ ?_
    | apply State.manage_keep
    | apply State.draw_keep
    | refine snd_of_eq ‹State.draw _ = _› (State.draw_keep ?_ ?_)
    | apply State.answer_keep
    | apply State.putObject_keep
    | apply State.releaseOp_keep
    | apply State.windowOpen_keep
    | apply State.putRecord_keep
    | apply State.scrubCancelOp_keep
    | apply State.rootOp_keep
    | apply State.roleKeyOp_keep
    | apply State.mailboxOpenOp_keep
    | apply State.headResetOp_keep
    | apply State.offerOp_keep
    | apply State.regionOp_keep
    | apply State.decisionOp_keep
    | apply State.rekeyOp_keep
    | apply State.scrubOp_keep
    | split
    | dsimp only
    | intro _

theorem State.restoreOne_keep {l : Nat} (h : covers 0x447900aece2004f7000400000000000000000000000000000000800000400080000000000100000043f80 l) {s : State} {u : State} (k : Keep l s u) (a0) (a1) :
    Keep l s (State.restoreOne a0 a1 u).2 := by
  have b8 := covers_bit (i := 8) h (by decide)
  have b9 := covers_bit (i := 9) h (by decide)
  unfold State.restoreOne
  with_reducible repeat' first
    | assumption
    | exact covers_trans (by decide) h
    | apply keep_ite
    | apply keep_ite_snd
    | (intro x; simp only [ObjS.blank, b8, b9, if_true]; done)
    | (intro x; (try dsimp only); (repeat' split) <;> (simp only [ObjS.blank, b8, b9, if_true]; done))
    | refine State.modObj_keep ?_ ?_
    | apply State.noteWriter_keep
    | apply State.storeConfig_keep
    | apply State.notifyObject_keep
    | apply State.applyCfg_keep
    | apply State.setSnap_keep
    | apply State.setLimits_keep
    | apply State.optionsOp_keep
    | split
    | dsimp only
    | intro _

theorem State.restoreWaits_keep {l : Nat} (h : covers 0x80000 l) {s : State} {u : State} (k : Keep l s u) (a0) :
    Keep l s (State.restoreWaits a0 u) := by
  have b19 := covers_bit (i := 19) h (by decide)
  unfold State.restoreWaits
  with_reducible repeat' first
    | assumption
    | exact covers_trans (by decide) h
    | apply keep_ite
    | (intro x; simp only [ObjS.blank, b19, if_true]; done)
    | (intro x; (try dsimp only); (repeat' split) <;> (simp only [ObjS.blank, b19, if_true]; done))
    | refine State.modObj_keep ?_ ?_
    | split
    | dsimp only
    | intro _

theorem State.restoreRun_keep {l : Nat} (h : covers 0x447900aece2004f70004000000000000000000000000000000008000004000800000000001000000e3f80 l) {s : State} {u : State} (k : Keep l s u) (a0) (a1) (a2) (a3) (a4) :
    Keep l s (State.restoreRun a0 a1 a2 a3 a4 u) := by
  induction a4 generalizing u a0 a1 a2 a3 with
  | nil =>
    unfold State.restoreRun
    with_reducible repeat' first
      | assumption
      | exact covers_trans (by decide) h
      | apply keep_ite
      | apply State.ticketDone_keep
      | apply State.restoreOne_keep
      | refine snd_of_eq ‹State.restoreOne _ _ _ = _› (State.restoreOne_keep ?_ ?_ _ _)
      | apply State.restoreWaits_keep
      | split
      | dsimp only
      | intro _
  | cons _ _ ih =>
    unfold State.restoreRun
    with_reducible repeat' first
      | assumption
      | exact covers_trans (by decide) h
      | apply keep_ite
      | apply State.ticketDone_keep
      | apply State.restoreOne_keep
      | refine snd_of_eq ‹State.restoreOne _ _ _ = _› (State.restoreOne_keep ?_ ?_ _ _)
      | apply State.restoreWaits_keep
      | refine ih ?_ _ _ _ _
      | split
      | dsimp only
      | intro _

theorem State.restoreOp_keep {l : Nat} (h : covers 0x447900aece2004f70004000000000000000000000000000000008000004000800000000001000000e3f80 l) {s : State} {u : State} (k : Keep l s u) (a0) :
    Keep l s (State.restoreOp a0 u).2.2 := by
  unfold State.restoreOp
  with_reducible repeat' first
    | assumption
    | exact covers_trans (by decide) h
    | apply keep_ite
    | apply keep_ite_acc
    | apply State.answer_keep
    | apply State.deferred_keep
    | apply State.restoreRun_keep
    | split
    | dsimp only
    | intro _

theorem State.sanitizeAll_keep {l : Nat} (h : covers 0x4430008eca200000000000000f71ef8300b801fc3ae00f8ff81b80da09c00000000000000040000120400 l) {s : State} {u : State} (k : Keep l s u) (a0) (a1) (a2) :
    Keep l s (State.sanitizeAll a0 a1 a2 u).2 := by
  induction a2 generalizing u a0 a1 with
  | nil =>
    unfold State.sanitizeAll
    with_reducible repeat' first
      | assumption
      | exact covers_trans (by decide) h
      | apply keep_ite
      | apply keep_ite_snd
      | apply State.sanitizeExtent_keep
      | split
      | dsimp only
      | intro _
  | cons _ _ ih =>
    unfold State.sanitizeAll
    with_reducible repeat' first
      | assumption
      | exact covers_trans (by decide) h
      | apply keep_ite
      | apply keep_ite_snd
      | apply State.sanitizeExtent_keep
      | refine ih ?_ _ _
      | split
      | dsimp only
      | intro _

theorem State.sanitizeOp_keep {l : Nat} (h : covers 0x4430008eca200000000000000f71ef8300b801fc3ae00f8ff81b80da09c00000000000000040000123c00 l) {s : State} {u : State} (k : Keep l s u) (a0) (a1) (a2) :
    Keep l s (State.sanitizeOp a0 a1 a2 u).2.2 := by
  unfold State.sanitizeOp
  with_reducible repeat' first
    | assumption
    | exact covers_trans (by decide) h
    | apply keep_ite
    | apply keep_ite_acc
    | apply State.ticketDone_keep
    | apply State.answer_keep
    | apply State.deferred_keep
    | apply State.sanitizeAll_keep
    | refine snd_of_eq ‹State.sanitizeAll _ _ _ _ = _› (State.sanitizeAll_keep ?_ ?_ _ _ _)
    | split
    | dsimp only
    | intro _

theorem State.commandOp_keep {l : Nat} (h : covers 0x447900aece2004f7000400000f71ef8300b801fc3ae00f8ff81b80da09c000800000000001400001e3f80 l) {s : State} {u : State} (k : Keep l s u) (a0) (a1) :
    Keep l s (State.commandOp a0 a1 u).2.2 := by
  unfold State.commandOp
  with_reducible repeat' first
    | assumption
    | exact covers_trans (by decide) h
    | apply keep_ite
    | apply keep_ite_acc
    | apply State.answer_keep
    | apply State.noOp_keep
    | apply State.restoreOp_keep
    | apply State.sanitizeOp_keep
    | split
    | dsimp only
    | intro _

theorem State.writeHigh_keep {l : Nat} (h : covers 0xd4f900bece3db5f700040717fff3effb87b839fc3ff01f8ffe7b87da89c006801a0a280001ff8001eff80 l) {s : State} {u : State} (k : Keep l s u) (a0) (a1) (a2) (a3) (a4) :
    Keep l s (State.writeHigh a0 a1 a2 a3 a4 u).2.2 := by
  unfold State.writeHigh
  with_reducible repeat' first
    | assumption
    | exact covers_trans (by decide) h
    | apply keep_ite
    | apply keep_ite_acc
    | apply State.draw_keep
    | refine snd_of_eq ‹State.draw _ = _› (State.draw_keep ?_ ?_)
    | apply State.answer_keep
    | apply State.marginOp_keep
    | apply State.commitOp_keep
    | apply State.latchReleaseOp_keep
    | apply State.putObject_keep
    | apply State.fireOp_keep
    | apply State.setCursor_keep
    | apply State.fenceOp_keep
    | apply State.readmitOp_keep
    | apply State.stickyOp_keep
    | apply State.easyOp_keep
    | apply State.clearFOp_keep
    | apply State.snapOp_keep
    | apply State.latchOp_keep
    | apply State.marginOnOp_keep
    | apply State.measureOp_keep
    | apply State.coreOnOp_keep
    | apply State.coreOffOp_keep
    | apply State.limitsOp_keep
    | apply State.updateOp_keep
    | apply State.activateOp_keep
    | apply State.segmentOp_keep
    | apply State.optionsOp_keep
    | apply State.protectOp_keep
    | apply State.commandOp_keep
    | apply State.resetOp_keep
    | split
    | dsimp only
    | intro _

theorem State.writeValue_keep {l : Nat} (h : covers 0xd7f910bece3db5f70004073ffff3effb87fc7ffd3ff01f8ffe7b87dabfc006801a0a280001ff9011eff80 l) {s : State} {u : State} (k : Keep l s u) (a0) (a1) (a2) (a3) (a4) :
    Keep l s (State.writeValue a0 a1 a2 a3 a4 u).2.2 := by
  unfold State.writeValue
  with_reducible repeat' first
    | assumption
    | exact covers_trans (by decide) h
    | apply keep_ite
    | apply keep_ite_acc
    | apply State.answer_keep
    | apply State.setSel_keep
    | apply State.zeroOp_keep
    | apply State.writeLow_keep
    | apply State.writeHigh_keep
    | split
    | dsimp only
    | intro _

theorem State.deriveKeys_keep {l : Nat} (h : covers 0x8000000000000000000000000000 l) {s : State} {u : State} (k : Keep l s u)  :
    Keep l s (State.deriveKeys u) := by
  have b111 := covers_bit (i := 111) h (by decide)
  unfold State.deriveKeys
  with_reducible repeat' first
    | assumption
    | exact covers_trans (by decide) h
    | apply keep_ite
    | (intro x; simp only [ExtS.blank, b111, if_true]; done)
    | (intro x; (try dsimp only); (repeat' split) <;> (simp only [ExtS.blank, b111, if_true]; done))
    | refine State.modExt_keep ?_ ?_
    | split
    | dsimp only
    | intro _

theorem State.startReview_keep {l : Nat} (h : covers 0x4430008eca200000000000208f71ef80000041fd1ae00f8df81b80ca01c00000000000000040000100000 l) {s : State} {u : State} (k : Keep l s u)  :
    Keep l s (State.startReview u) := by
  have b243 := covers_bit (i := 243) h (by decide)
  have b249 := covers_bit (i := 249) h (by decide)
  unfold State.startReview
  with_reducible repeat' first
    | assumption
    | exact covers_trans (by decide) h
    | apply keep_ite
    | (intro x; simp only [StartS.blank, b243, b249, if_true]; done)
    | (intro x; (try dsimp only); (repeat' split) <;> (simp only [StartS.blank, b243, b249, if_true]; done))
    | refine State.modStr_keep ?_ ?_
    | apply State.reviewSync_keep
    | apply State.settle_keep
    | split
    | dsimp only
    | intro _

theorem State.rekeyResume_keep {l : Nat} (h : covers 0x4430008eca200000000000000000000000380000000000000000000008000000000000000000000020400 l) {s : State} {u : State} (k : Keep l s u)  :
    Keep l s (State.rekeyResume u) := by
  have b200 := covers_bit (i := 200) h (by decide)
  unfold State.rekeyResume
  with_reducible repeat' first
    | assumption
    | exact covers_trans (by decide) h
    | apply keep_ite
    | (intro x; simp only [IntegS.blank, b200, if_true]; done)
    | (intro x; (try dsimp only); (repeat' split) <;> (simp only [IntegS.blank, b200, if_true]; done))
    | refine State.modItg_keep ?_ ?_
    | apply State.rekeyFinish_keep
    | split
    | dsimp only
    | intro _

theorem State.requeueBad_keep {l : Nat} (h : covers 0x8000800000000000000000000000000000000000000 l) {s : State} {u : State} (k : Keep l s u)  :
    Keep l s (State.requeueBad u) := by
  unfold State.requeueBad
  with_reducible repeat' first
    | assumption
    | exact covers_trans (by decide) h
    | apply keep_ite
    | refine forEach_keep (fun _ _ _ => ?_) ?_ _
    | apply State.modEntry_keep
    | apply State.queueMig_keep
    | split
    | dsimp only
    | intro _

theorem execDataReady_keep {l : Nat} (h : covers 0xc430008eca200000000004a0ef71ef83003845fd3ef3ef8ff81bffda09c0000b18060000005f000120400 l) {s : State} {u : State} (k : Keep l s u)  :
    KeepR l s (execDataReady u) := by
  have b20 := covers_bit (i := 20) h (by decide)
  have b236 := covers_bit (i := 236) h (by decide)
  have b251 := covers_bit (i := 251) h (by decide)
  unfold execDataReady
  with_reducible repeat' first
    | assumption
    | exact covers_trans (by decide) h
    | apply keep_ite
    | apply keepR_ite
    | (intro x; simp only [StartS.blank, PowerS.blank, EasyS.blank, b20, b236, b251, if_true]; done)
    | (intro x; (try dsimp only); (repeat' split) <;> (simp only [StartS.blank, PowerS.blank, EasyS.blank, b20, b236, b251, if_true]; done))
    | refine State.modStr_keep ?_ ?_
    | refine State.modPwr_keep ?_ ?_
    | refine State.modEasy_keep ?_ ?_
    | refine forEach_keep (fun _ _ _ => ?_) ?_ _
    | apply State.boundSync_keep
    | apply State.creditSync_keep
    | apply State.startTime_keep
    | apply State.rebuildSync_keep
    | apply State.easyAtReady_keep
    | apply State.recordOpen_keep
    | apply State.deriveKeys_keep
    | apply State.startReview_keep
    | apply State.rekeyResume_keep
    | apply State.requeueBad_keep
    | apply KeepR.next
    | split
    | dsimp only
    | intro _

theorem State.restoreGoesOn_keep {l : Nat} (h : covers 0x447900aece2004f70004000000000000000000000000000000008000004000800000000001000000e3f80 l) {s : State} {u : State} (k : Keep l s u) (a0) :
    Keep l s (State.restoreGoesOn a0 u) := by
  have b19 := covers_bit (i := 19) h (by decide)
  unfold State.restoreGoesOn
  with_reducible repeat' first
    | assumption
    | exact covers_trans (by decide) h
    | apply keep_ite
    | (intro x; simp only [ObjS.blank, b19, if_true]; done)
    | (intro x; (try dsimp only); (repeat' split) <;> (simp only [ObjS.blank, b19, if_true]; done))
    | refine State.modObj_keep ?_ ?_
    | apply State.restoreRun_keep
    | split
    | dsimp only
    | intro _

theorem State.commit_keep {l : Nat} (h : covers 0x447900aece2004f7000400000000000000000000000000000000800000c000800000000001000000f3f80 l) {s : State} {u : State} (k : Keep l s u) (a0) :
    Keep l s (State.commit a0 u) := by
  have b8 := covers_bit (i := 8) h (by decide)
  have b16 := covers_bit (i := 16) h (by decide)
  unfold State.commit
  with_reducible repeat' first
    | assumption
    | exact covers_trans (by decide) h
    | apply keep_ite
    | (intro x; simp only [ObjS.blank, b8, b16, if_true]; done)
    | (intro x; (try dsimp only); (repeat' split) <;> (simp only [ObjS.blank, b8, b16, if_true]; done))
    | refine State.modObj_keep ?_ ?_
    | refine forEach_keep (fun _ _ _ => ?_) ?_ _
    | apply State.emit_keep
    | apply State.respondTo_keep
    | apply State.applyCfg_keep
    | apply State.restoreGoesOn_keep
    | split
    | dsimp only
    | intro _

theorem execConfigCommit_keep {l : Nat} (h : covers 0x447900aece2004f7000400000000000000000000000000000000800000c000800000000001000000f3f80 l) {s : State} {u : State} (k : Keep l s u) (a0) :
    KeepR l s (execConfigCommit a0 u) := by
  unfold execConfigCommit
  with_reducible repeat' first
    | assumption
    | exact covers_trans (by decide) h
    | apply keep_ite
    | apply keepR_ite
    | apply State.commit_keep
    | apply KeepR.next
    | split
    | dsimp only
    | intro _

theorem execPoolAddressWrite_keep {l : Nat} (h : covers 0x4479008ece200000000400000000000000000000000000000000800000c0000000000000010000007bd80 l) {s : State} {u : State} (k : Keep l s u) (a0) :
    KeepR l s (execPoolAddressWrite a0 u) := by
  unfold execPoolAddressWrite
  with_reducible repeat' first
    | assumption
    | exact covers_trans (by decide) h
    | apply keep_ite
    | apply keepR_ite
    | apply accessed_keep
    | apply respondAccess_keep
    | apply State.putObject_keep
    | apply KeepR.next
    | split
    | dsimp only
    | intro _

theorem State.dropTag_keep {l : Nat} (h : covers 0x810000000000000000000000000000000000000000000000000000000000000000000000000000000000 l) {s : State} {u : State} (k : Keep l s u)  :
    Keep l s (State.dropTag u) := by
  have b335 := covers_bit (i := 335) h (by decide)
  unfold State.dropTag
  with_reducible repeat' first
    | assumption
    | exact covers_trans (by decide) h
    | apply keep_ite
    | (intro x; simp only [WopS.blank, b335, if_true]; done)
    | (intro x; (try dsimp only); (repeat' split) <;> (simp only [WopS.blank, b335, if_true]; done))
    | refine State.modWop_keep ?_ ?_
    | apply State.countFrame_keep
    | split
    | dsimp only
    | intro _

theorem execRoleKeyWrite_keep {l : Nat} (h : covers 0xd730008ece200000000000000f71ef0000000000000000000018000001c0000000000000004000013fc00 l) {s : State} {u : State} (k : Keep l s u) (a0) (a1) (a2) :
    KeepR l s (execRoleKeyWrite a0 a1 a2 u) := by
  unfold execRoleKeyWrite
  with_reducible repeat' first
    | assumption
    | exact covers_trans (by decide) h
    | apply keep_ite
    | apply keepR_ite
    | apply State.answer_keep
    | apply guarded_keep
    | apply accessed_keep
    | apply respondAccess_keep
    | apply State.roleKeyOp_keep
    | apply KeepR.next
    | split
    | dsimp only
    | intro _

theorem execSessionOpenTimeout_keep {l : Nat} (h : covers 0x5430008eca200000000000000000000000000000000000000000000000000000000000000000000004000 l) {s : State} {u : State} (k : Keep l s u) (a0) :
    KeepR l s (execSessionOpenTimeout a0 u) := by
  unfold execSessionOpenTimeout
  with_reducible repeat' first
    | assumption
    | exact covers_trans (by decide) h
    | apply keep_ite
    | apply keepR_ite
    | apply State.closeSess_keep
    | apply KeepR.next
    | split
    | dsimp only
    | intro _

theorem execAdvertise_keep {l : Nat} (h : covers 0x4470008eca200000000000000f71ef0000000000000000000018000001c00000000000000040000100000 l) {s : State} {u : State} (k : Keep l s u) (a0) (a1) (a2) :
    KeepR l s (execAdvertise a0 a1 a2 u) := by
  have b330 := covers_bit (i := 330) h (by decide)
  unfold execAdvertise
  with_reducible repeat' first
    | assumption
    | exact covers_trans (by decide) h
    | apply keep_ite
    | apply keepR_ite
    | (intro x; simp only [WopS.blank, b330, if_true]; done)
    | (intro x; (try dsimp only); (repeat' split) <;> (simp only [WopS.blank, b330, if_true]; done))
    | refine State.modWop_keep ?_ ?_
    | apply State.countFrame_keep
    | apply State.report_keep
    | apply State.notifyObject_keep
    | apply KeepR.next
    | split
    | dsimp only
    | intro _

theorem State.suspectList_keep {l : Nat} (h : covers 0x4000 l) {s : State} {u : State} (k : Keep l s u) (a0) :
    Keep l s (State.suspectList a0 u).2 := by
  unfold State.suspectList
  with_reducible repeat' first
    | assumption
    | exact covers_trans (by decide) h
    | apply keep_ite
    | apply keep_ite_snd
    | apply State.setSel_keep
    | split
    | dsimp only
    | intro _

theorem execSuspectListRead_keep {l : Nat} (h : covers 0x4000000000000000000000000000000000000000000000000000000000000000000000000000000004000 l) {s : State} {u : State} (k : Keep l s u) (a0) :
    KeepR l s (execSuspectListRead a0 u) := by
  unfold execSuspectListRead
  with_reducible repeat' first
    | assumption
    | exact covers_trans (by decide) h
    | apply keep_ite
    | apply keepR_ite
    | apply State.emit_keep
    | apply accessed_keep
    | apply State.suspectList_keep
    | refine snd_of_eq ‹State.suspectList _ _ = _› (State.suspectList_keep ?_ ?_ _)
    | apply KeepR.next
    | split
    | dsimp only
    | intro _

theorem State.touch_keep {l : Nat} (h : covers 0x400000000000000000000000000000000000000000000000000000000000000000000000000000000000 l) {s : State} {u : State} (k : Keep l s u) (a0) :
    Keep l s (State.touch a0 u) := by
  unfold State.touch
  with_reducible repeat' first
    | assumption
    | exact covers_trans (by decide) h
    | apply keep_ite
    | apply State.modSession_keep
    | split
    | dsimp only
    | intro _

theorem State.mailboxAccess_keep {l : Nat} (h : covers 0x4c00000000000000000000000000000000000000000000000000000000800000000000000000000000000 l) {s : State} {a6 : Req → Nat → Asker → State → State} (ka6 : ∀ x0 x1 x2 v, Keep l s v → Keep l s (a6 x0 x1 x2 v)) {u : State} (k : Keep l s u) (a0) (a1) (a2) (a3) (a4) (a5) :
    Keep l s (State.mailboxAccess a0 a1 a2 a3 a4 a5 a6 u) := by
  have b335 := covers_bit (i := 335) h (by decide)
  unfold State.mailboxAccess
  with_reducible repeat' first
    | assumption
    | exact covers_trans (by decide) h
    | apply keep_ite
    | (intro x; simp only [WopS.blank, b335, if_true]; done)
    | (intro x; (try dsimp only); (repeat' split) <;> (simp only [WopS.blank, b335, if_true]; done))
    | refine State.modWop_keep ?_ ?_
    | apply State.modSession_keep
    | apply State.mbAccess_keep
    | apply State.mbReturn_keep
    | apply State.touch_keep
    | refine ka6 _ _ _  _ ?_
    | split
    | dsimp only
    | intro _

theorem State.readObject_keep {l : Nat} (h : covers 0x4430008eca200000000000000000000000000000000000000000000001000000000000000000000004000 l) {s : State} {u : State} (k : Keep l s u) (a0) (a1) (a2) (a3) :
    Keep l s (State.readObject a0 a1 a2 a3 u).2 := by
  unfold State.readObject
  with_reducible repeat' first
    | assumption
    | exact covers_trans (by decide) h
    | apply keep_ite
    | apply keep_ite_snd
    | apply State.mailboxReplyOp_keep
    | refine snd_of_eq ‹State.mailboxReplyOp _ _ = _› (State.mailboxReplyOp_keep ?_ ?_ _)
    | apply State.readWindow_keep
    | refine snd_of_eq ‹State.readWindow _ _ = _› (State.readWindow_keep ?_ ?_ _)
    | apply State.suspectList_keep
    | refine snd_of_eq ‹State.suspectList _ _ = _› (State.suspectList_keep ?_ ?_ _)
    | split
    | dsimp only
    | intro _

theorem execObjectRead_keep {l : Nat} (h : covers 0x4c30008eca200000000000000000000000000000000000000000000001800000000000000000000024400 l) {s : State} {u : State} (k : Keep l s u) (a0) (a1) (a2) (a3) (a4) (a5) (a6) :
    KeepR l s (execObjectRead a0 a1 a2 a3 a4 a5 a6 u) := by
  unfold execObjectRead
  with_reducible repeat' first
    | assumption
    | exact covers_trans (by decide) h
    | apply keep_ite
    | apply keepR_ite
    | apply State.respondTo_keep
    | apply mailboxed_keep
    | apply State.mailboxAccess_keep
    | apply State.readObject_keep
    | refine snd_of_eq ‹State.readObject _ _ _ _ _ = _› (State.readObject_keep ?_ ?_ _ _ _ _)
    | apply KeepR.next
    | split
    | dsimp only
    | intro _

theorem finishWrite_keep {l : Nat} (h : covers 0xdeffffdffe2c3d7dfffffffdff8fdf7ff7c082c66fb0003ee8bf87ff9ffcc7301a0bffffffffffffbfdef l) {s : State} {u : Acc} (k : Keep l s u.2.2) (a0) (a1) (a2) (a3) :
    Keep l s (finishWrite a0 a1 a2 a3 u) := by
  unfold finishWrite
  with_reducible repeat' first
    | assumption
    | exact covers_trans (by decide) h
    | apply keep_ite
    | apply State.afterWrite_keep
    | apply respond_keep
    | split
    | dsimp only
    | intro _

theorem State.writeObject_keep {l : Nat} (h : covers 0xd7f910bece3db5f70004073ffff3effb87fc7ffd3ff01f8ffe7b87dabfc006801a0a280001ff9011eff80 l) {s : State} {u : State} (k : Keep l s u) (a0) (a1) (a2) (a3) (a4) :
    Keep l s (State.writeObject a0 a1 a2 a3 a4 u).2.2 := by
  unfold State.writeObject
  with_reducible repeat' first
    | assumption
    | exact covers_trans (by decide) h
    | apply keep_ite
    | apply keep_ite_acc
    | apply guarded_keep
    | apply State.writeValue_keep
    | split
    | dsimp only
    | intro _

theorem execObjectWrite_keep {l : Nat} (h : covers 0xdffffffffe3dbdfffffffffffffffffff7fcffff7ff01fbffeff87ffbffcc7b01a0bfffffffffffffffef l) {s : State} {u : State} (k : Keep l s u) (a0) (a1) (a2) (a3) (a4) (a5) (a6) (a7) :
    KeepR l s (execObjectWrite a0 a1 a2 a3 a4 a5 a6 a7 u) := by
  unfold execObjectWrite
  with_reducible repeat' first
    | assumption
    | exact covers_trans (by decide) h
    | apply keep_ite
    | apply keepR_ite
    | apply mailboxed_keep
    | apply State.mailboxAccess_keep
    | apply finishWrite_keep
    | apply State.writeObject_keep
    | apply KeepR.next
    | split
    | dsimp only
    | intro _

theorem execMailboxOpenRequest_keep {l : Nat} (h : covers 0xc430008eca200000000000000f71ef0000000000000000000018000001c00000000000000040000100000 l) {s : State} {u : State} (k : Keep l s u) (a0) (a1) (a2) :
    KeepR l s (execMailboxOpenRequest a0 a1 a2 u) := by
  unfold execMailboxOpenRequest
  with_reducible repeat' first
    | assumption
    | exact covers_trans (by decide) h
    | apply keep_ite
    | apply keepR_ite
    | apply State.mbAccess_keep
    | apply mailboxed_keep
    | apply State.mailboxOpenOp_keep
    | apply KeepR.next
    | split
    | dsimp only
    | intro _

theorem execEqEnable_keep {l : Nat} (h : covers 0x1000000000000000000000000000 l) {s : State} {u : State} (k : Keep l s u) (a0) (a1) (a2) (a3) (a4) (a5) :
    KeepR l s (execEqEnable a0 a1 a2 a3 a4 a5 u) := by
  unfold execEqEnable
  with_reducible repeat' first
    | assumption
    | exact covers_trans (by decide) h
    | apply keep_ite
    | apply keepR_ite
    | apply State.modEq_keep
    | apply KeepR.next
    | split
    | dsimp only
    | intro _

theorem execEqCiWrite_keep {l : Nat} (h : covers 0x1000000000000000000000000000 l) {s : State} {u : State} (k : Keep l s u) (a0) (a1) :
    KeepR l s (execEqCiWrite a0 a1 u) := by
  unfold execEqCiWrite
  with_reducible repeat' first
    | assumption
    | exact covers_trans (by decide) h
    | apply keep_ite
    | apply keepR_ite
    | apply State.modEq_keep
    | apply KeepR.next
    | split
    | dsimp only
    | intro _

theorem execEqStatusClear_keep {l : Nat} (h : covers 0x1000000000000000000000000000 l) {s : State} {u : State} (k : Keep l s u) (a0) (a1) (a2) :
    KeepR l s (execEqStatusClear a0 a1 a2 u) := by
  unfold execEqStatusClear
  with_reducible repeat' first
    | assumption
    | exact covers_trans (by decide) h
    | apply keep_ite
    | apply keepR_ite
    | apply State.modEq_keep
    | apply KeepR.next
    | split
    | dsimp only
    | intro _

theorem execEqCoalesceIntervalEnd_keep {l : Nat} (h : covers 0x4000000000000000000000000000000000000000000000000000000001800000000000000000000000000 l) {s : State} {u : State} (k : Keep l s u) (a0) :
    KeepR l s (execEqCoalesceIntervalEnd a0 u) := by
  unfold execEqCoalesceIntervalEnd
  with_reducible repeat' first
    | assumption
    | exact covers_trans (by decide) h
    | apply keep_ite
    | apply keepR_ite
    | apply State.msix_keep
    | apply State.modEq_keep
    | apply KeepR.next
    | split
    | dsimp only
    | intro _

theorem execHeadReset_keep {l : Nat} (h : covers 0x4430008eca200000000000000f000f0000000000000000000018000881c00000000000000040000130400 l) {s : State} {u : State} (k : Keep l s u) (a0) :
    KeepR l s (execHeadReset a0 u) := by
  unfold execHeadReset
  with_reducible repeat' first
    | assumption
    | exact covers_trans (by decide) h
    | apply keep_ite
    | apply keepR_ite
    | apply accessed_keep
    | apply respondAccess_keep
    | apply State.headResetOp_keep
    | apply KeepR.next
    | split
    | dsimp only
    | intro _

theorem execHeadResetHoldEnd_keep {l : Nat} (h : covers 0x1800000000000000000000000000 l) {s : State} {u : State} (k : Keep l s u) (a0) :
    KeepR l s (execHeadResetHoldEnd a0 u) := by
  unfold execHeadResetHoldEnd
  with_reducible repeat' first
    | assumption
    | exact covers_trans (by decide) h
    | apply keep_ite
    | apply keepR_ite
    | apply State.modLink_keep
    | apply State.train_keep
    | apply KeepR.next
    | split
    | dsimp only
    | intro _

theorem execKeelBridgeAccess_keep {l : Nat} (h : covers 0xc000000000000000000000000000000000000000000000000000000000000000000000000000000000000 l) {s : State} {u : State} (k : Keep l s u) (a0) (a1) (a2) :
    KeepR l s (execKeelBridgeAccess a0 a1 a2 u) := by
  unfold execKeelBridgeAccess
  with_reducible repeat' first
    | assumption
    | exact covers_trans (by decide) h
    | apply keep_ite
    | apply keepR_ite
    | apply State.emit_keep
    | apply State.draw_keep
    | refine snd_of_eq ‹State.draw _ = _› (State.draw_keep ?_ ?_)
    | apply KeepR.next
    | split
    | dsimp only
    | intro _

theorem execKeelBridgeTimeout_keep {l : Nat} (h : covers 0x4000000000000000000000000000000000000000000000000000000000000000000000000000000000000 l) {s : State} {u : State} (k : Keep l s u) (a0) (a1) :
    KeepR l s (execKeelBridgeTimeout a0 a1 u) := by
  unfold execKeelBridgeTimeout
  with_reducible repeat' first
    | assumption
    | exact covers_trans (by decide) h
    | apply keep_ite
    | apply keepR_ite
    | apply State.emit_keep
    | apply KeepR.next
    | split
    | dsimp only
    | intro _

theorem execFullScanComplete_keep {l : Nat} (h : covers 0x4430008eca200000000004048f71ef800000003c906fff80d018000001c00000000000000040000100000 l) {s : State} {u : State} (k : Keep l s u) (a0) (a1) :
    KeepR l s (execFullScanComplete a0 a1 u) := by
  have b179 := covers_bit (i := 179) h (by decide)
  have b243 := covers_bit (i := 243) h (by decide)
  have b246 := covers_bit (i := 246) h (by decide)
  unfold execFullScanComplete
  with_reducible repeat' first
    | assumption
    | exact covers_trans (by decide) h
    | apply keep_ite
    | apply keepR_ite
    | (intro x; simp only [TractS.blank, StartS.blank, b179, b243, b246, if_true]; done)
    | (intro x; (try dsimp only); (repeat' split) <;> (simp only [TractS.blank, StartS.blank, b179, b243, b246, if_true]; done))
    | refine State.modTrc_keep ?_ ?_
    | refine State.modStr_keep ?_ ?_
    | apply State.startTime_keep
    | apply State.fullScan_keep
    | apply KeepR.next
    | split
    | dsimp only
    | intro _

theorem execSuspectRelease_keep {l : Nat} (h : covers 0x4430008eca200000000000208f71ef80000041fd1ae00f8df81b80ca01c00000000000000040000133c00 l) {s : State} {u : State} (k : Keep l s u) (a0) (a1) (a2) :
    KeepR l s (execSuspectRelease a0 a1 a2 u) := by
  unfold execSuspectRelease
  with_reducible repeat' first
    | assumption
    | exact covers_trans (by decide) h
    | apply keep_ite
    | apply keepR_ite
    | apply guarded_keep
    | apply accessed_keep
    | apply respondAccess_keep
    | apply State.decisionOp_keep
    | apply KeepR.next
    | split
    | dsimp only
    | intro _

theorem execSuspectDiscard_keep {l : Nat} (h : covers 0x4430008eca200000000000208f71ef80000041fd1ae00f8df81b80ca01c00000000000000040000133c00 l) {s : State} {u : State} (k : Keep l s u) (a0) (a1) (a2) :
    KeepR l s (execSuspectDiscard a0 a1 a2 u) := by
  unfold execSuspectDiscard
  with_reducible repeat' first
    | assumption
    | exact covers_trans (by decide) h
    | apply keep_ite
    | apply keepR_ite
    | apply guarded_keep
    | apply accessed_keep
    | apply respondAccess_keep
    | apply State.decisionOp_keep
    | apply KeepR.next
    | split
    | dsimp only
    | intro _

theorem State.sendAdvertise_keep {l : Nat} (h : covers 0x4010000000000000000000000000000000000000000000000000000000000000000000000000000000000 l) {s : State} {u : State} (k : Keep l s u)  :
    Keep l s (State.sendAdvertise u) := by
  unfold State.sendAdvertise
  with_reducible repeat' first
    | assumption
    | exact covers_trans (by decide) h
    | apply keep_ite
    | apply State.emit_keep
    | apply State.countFrame_keep
    | split
    | dsimp only
    | intro _

theorem execConfigObjectWrite_keep {l : Nat} (h : covers 0xdffffffffe3dbdfffffffffffffffffff7fcffff7ff01fbffeff87ffbffcc7b01a0bfffffffffffffffef l) {s : State} {u : State} (k : Keep l s u) (a0) (a1) (a2) (a3) :
    KeepR l s (execConfigObjectWrite a0 a1 a2 a3 u) := by
  unfold execConfigObjectWrite
  with_reducible repeat' first
    | assumption
    | exact covers_trans (by decide) h
    | apply keep_ite
    | apply keepR_ite
    | apply accessed_keep
    | apply finishWrite_keep
    | apply State.writeObject_keep
    | apply KeepR.next
    | split
    | dsimp only
    | intro _

theorem State.applyDeferred_keep {l : Nat} (h : covers 0xd77900aece200000000400000001c00000000000000000000000800008400080000000000100000044280 l) {s : State} {u : State} (k : Keep l s u) (a0) (a1) (a2) (a3) :
    Keep l s (State.applyDeferred a0 a1 a2 a3 u).2 := by
  have b9 := covers_bit (i := 9) h (by decide)
  unfold State.applyDeferred
  with_reducible repeat' first
    | assumption
    | exact covers_trans (by decide) h
    | apply keep_ite
    | apply keep_ite_snd
    | (intro x; simp only [ObjS.blank, b9, if_true]; done)
    | (intro x; (try dsimp only); (repeat' split) <;> (simp only [ObjS.blank, b9, if_true]; done))
    | refine State.modObj_keep ?_ ?_
    | apply State.noteWriter_keep
    | apply State.storeConfig_keep
    | apply State.notifyObject_keep
    | apply State.applyCfg_keep
    | apply State.setKey_keep
    | apply State.setRegion_keep
    | refine snd_of_eq ‹State.setRegion _ _ _ = _› (State.setRegion_keep ?_ ?_ _ _)
    | apply State.clearSticky_keep
    | apply State.setSnap_keep
    | apply State.setLimits_keep
    | split
    | dsimp only
    | intro _

theorem State.storeDeferred_keep {l : Nat} (h : covers 0xd77900aece200000000400000001c0000000000000000000000080000840008000000000010000007c780 l) {s : State} {u : State} (k : Keep l s u) (a0) :
    Keep l s (State.storeDeferred a0 u) := by
  have b8 := covers_bit (i := 8) h (by decide)
  have b15 := covers_bit (i := 15) h (by decide)
  have b16 := covers_bit (i := 16) h (by decide)
  unfold State.storeDeferred
  with_reducible repeat' first
    | assumption
    | exact covers_trans (by decide) h
    | apply keep_ite
    | (intro x; simp only [ObjS.blank, b8, b15, b16, if_true]; done)
    | (intro x; (try dsimp only); (repeat' split) <;> (simp only [ObjS.blank, b8, b15, b16, if_true]; done))
    | refine State.modObj_keep ?_ ?_
    | apply State.ticketDone_keep
    | apply State.noteWriter_keep
    | apply State.storeConfig_keep
    | apply State.applyDeferred_keep
    | refine snd_of_eq ‹State.applyDeferred _ _ _ _ _ = _› (State.applyDeferred_keep ?_ ?_ _ _ _ _)
    | split
    | dsimp only
    | intro _

theorem execPersistWriteDeferredDone_keep {l : Nat} (h : covers 0xd77900aece200000000400000001c0000000000000000000000080000840008000000000010000007c780 l) {s : State} {u : State} (k : Keep l s u) (a0) :
    KeepR l s (execPersistWriteDeferredDone a0 u) := by
  unfold execPersistWriteDeferredDone
  with_reducible repeat' first
    | assumption
    | exact covers_trans (by decide) h
    | apply keep_ite
    | apply keepR_ite
    | apply accessed_keep
    | apply State.storeDeferred_keep
    | apply KeepR.next
    | split
    | dsimp only
    | intro _

theorem execNoOperation_keep {l : Nat} (h : covers 0x4430008eca200000000000000000000000000000000000000000000000800000000000000000000033c00 l) {s : State} {u : State} (k : Keep l s u) (a0) :
    KeepR l s (execNoOperation a0 u) := by
  unfold execNoOperation
  with_reducible repeat' first
    | assumption
    | exact covers_trans (by decide) h
    | apply keep_ite
    | apply keepR_ite
    | apply guarded_keep
    | apply accessed_keep
    | apply respondAccess_keep
    | apply State.noOp_keep
    | apply KeepR.next
    | split
    | dsimp only
    | intro _

theorem execRestoreDefaults_keep {l : Nat} (h : covers 0x447900aece2004f7000400000000000000000000000000000000800000c000800000000001000000f3f80 l) {s : State} {u : State} (k : Keep l s u) (a0) :
    KeepR l s (execRestoreDefaults a0 u) := by
  unfold execRestoreDefaults
  with_reducible repeat' first
    | assumption
    | exact covers_trans (by decide) h
    | apply keep_ite
    | apply keepR_ite
    | apply guarded_keep
    | apply accessed_keep
    | apply respondAccess_keep
    | apply State.restoreOp_keep
    | apply KeepR.next
    | split
    | dsimp only
    | intro _

theorem execSanitizeExtents_keep {l : Nat} (h : covers 0x4430008eca200000000000000f71ef8300b801fc3ae00f8ff81b80da09c00000000000000040000133c00 l) {s : State} {u : State} (k : Keep l s u) (a0) (a1) (a2) :
    KeepR l s (execSanitizeExtents a0 a1 a2 u) := by
  unfold execSanitizeExtents
  with_reducible repeat' first
    | assumption
    | exact covers_trans (by decide) h
    | apply keep_ite
    | apply keepR_ite
    | apply guarded_keep
    | apply accessed_keep
    | apply respondAccess_keep
    | apply State.sanitizeOp_keep
    | apply KeepR.next
    | split
    | dsimp only
    | intro _

theorem execTallySample_keep {l : Nat} (h : covers 0x72f0000000000000000000000000000000000000000000000000000000000000000000000000000000 l) {s : State} {u : State} (k : Keep l s u)  :
    KeepR l s (execTallySample u) := by
  have b316 := covers_bit (i := 316) h (by decide)
  have b317 := covers_bit (i := 317) h (by decide)
  have b318 := covers_bit (i := 318) h (by decide)
  have b319 := covers_bit (i := 319) h (by decide)
  have b321 := covers_bit (i := 321) h (by decide)
  have b324 := covers_bit (i := 324) h (by decide)
  have b325 := covers_bit (i := 325) h (by decide)
  have b326 := covers_bit (i := 326) h (by decide)
  unfold execTallySample
  with_reducible repeat' first
    | assumption
    | exact covers_trans (by decide) h
    | apply keep_ite
    | apply keepR_ite
    | (intro x; simp only [TallyS.blank, b316, b317, b318, b319, b321, b324, b325, b326, if_true]; done)
    | (intro x; (try dsimp only); (repeat' split) <;> (simp only [TallyS.blank, b316, b317, b318, b319, b321, b324, b325, b326, if_true]; done))
    | refine State.modTly_keep ?_ ?_
    | apply KeepR.next
    | split
    | dsimp only
    | intro _

theorem State.countRequest_keep {l : Nat} (h : covers 0x20000000000000000000000000000000000000000000000000000000000000000000000000000000000 l) {s : State} {u : State} (k : Keep l s u)  :
    Keep l s (State.countRequest u) := by
  have b329 := covers_bit (i := 329) h (by decide)
  unfold State.countRequest
  with_reducible repeat' first
    | assumption
    | exact covers_trans (by decide) h
    | apply keep_ite
    | (intro x; simp only [WopS.blank, b329, if_true]; done)
    | (intro x; (try dsimp only); (repeat' split) <;> (simp only [WopS.blank, b329, if_true]; done))
    | refine State.modWop_keep ?_ ?_
    | split
    | dsimp only
    | intro _

theorem execSolicit_keep {l : Nat} (h : covers 0x40b0000000000000000000000000000000000000000000000000000000000000000000000000000000000 l) {s : State} {u : State} (k : Keep l s u) (a0) (a1) (a2) (a3) :
    KeepR l s (execSolicit a0 a1 a2 a3 u) := by
  have b331 := covers_bit (i := 331) h (by decide)
  unfold execSolicit
  with_reducible repeat' first
    | assumption
    | exact covers_trans (by decide) h
    | apply keep_ite
    | apply keepR_ite
    | (intro x; simp only [WopS.blank, b331, if_true]; done)
    | (intro x; (try dsimp only); (repeat' split) <;> (simp only [WopS.blank, b331, if_true]; done))
    | refine State.modWop_keep ?_ ?_
    | apply State.emit_keep
    | apply State.countFrame_keep
    | apply State.countRequest_keep
    | apply KeepR.next
    | split
    | dsimp only
    | intro _

theorem execAdvertiseAnswerTimer_keep {l : Nat} (h : covers 0x4090000000000000000000000000000000000000000000000000000000000000000000000000000000000 l) {s : State} {u : State} (k : Keep l s u)  :
    KeepR l s (execAdvertiseAnswerTimer u) := by
  have b331 := covers_bit (i := 331) h (by decide)
  unfold execAdvertiseAnswerTimer
  with_reducible repeat' first
    | assumption
    | exact covers_trans (by decide) h
    | apply keep_ite
    | apply keepR_ite
    | (intro x; simp only [WopS.blank, b331, if_true]; done)
    | (intro x; (try dsimp only); (repeat' split) <;> (simp only [WopS.blank, b331, if_true]; done))
    | refine State.modWop_keep ?_ ?_
    | apply State.sendAdvertise_keep
    | apply KeepR.next
    | split
    | dsimp only
    | intro _

theorem execAdvertisePeriod_keep {l : Nat} (h : covers 0x4010000000000000000000000000000000000000000000000000000000000000000000000000000000000 l) {s : State} {u : State} (k : Keep l s u)  :
    KeepR l s (execAdvertisePeriod u) := by
  unfold execAdvertisePeriod
  with_reducible repeat' first
    | assumption
    | exact covers_trans (by decide) h
    | apply keep_ite
    | apply keepR_ite
    | apply State.sendAdvertise_keep
    | apply KeepR.next
    | split
    | dsimp only
    | intro _

theorem State.wopAnswer_keep {l : Nat} (h : covers 0x4010000000000000000000000000000000000000000000000000000000000000000000000000000000000 l) {s : State} {u : State} (k : Keep l s u) (a0) (a1) (a2) (a3) :
    Keep l s (State.wopAnswer a0 a1 a2 a3 u) := by
  unfold State.wopAnswer
  with_reducible repeat' first
    | assumption
    | exact covers_trans (by decide) h
    | apply keep_ite
    | apply State.emit_keep
    | apply State.countFrame_keep
    | split
    | dsimp only
    | intro _

theorem execOpenSession_keep {l : Nat} (h : covers 0xcc30008eca200000000000000f71ef0000000000000000000018000001c00000000000000040000100000 l) {s : State} {u : State} (k : Keep l s u) (a0) (a1) (a2) (a3) (a4) (a5) :
    KeepR l s (execOpenSession a0 a1 a2 a3 a4 a5 u) := by
  unfold execOpenSession
  with_reducible repeat' first
    | assumption
    | exact covers_trans (by decide) h
    | apply keep_ite
    | apply keepR_ite
    | apply State.countFrame_keep
    | apply State.recordSess_keep
    | refine State.openRefused_keep ?_ ?_ _ ‹State.openRefused _ _ = some _›
    | apply State.freshSession_keep
    | refine snd_of_eq ‹State.freshSession _ _ _ = _› (State.freshSession_keep ?_ ?_ _ _)
    | apply State.beginSess_keep
    | apply State.dropTag_keep
    | apply State.countRequest_keep
    | apply State.wopAnswer_keep
    | apply KeepR.next
    | split
    | dsimp only
    | intro _

theorem State.wopRequest_keep {l : Nat} (h : covers 0x4c30000000000000000000000000000000000000000000000000000000000000000000000000000000000 l) {s : State} {a5 : State → State} (ka5 : ∀  v, Keep l s v → Keep l s (a5  v)) {u : State} (k : Keep l s u) (a0) (a1) (a2) (a3) (a4) :
    Keep l s (State.wopRequest a0 a1 a2 a3 a4 a5 u) := by
  unfold State.wopRequest
  with_reducible repeat' first
    | assumption
    | exact covers_trans (by decide) h
    | apply keep_ite
    | apply State.emit_keep
    | apply State.countFrame_keep
    | apply State.modSession_keep
    | apply State.dropTag_keep
    | apply State.touch_keep
    | apply State.countRequest_keep
    | apply State.wopAnswer_keep
    | refine ka5  _ ?_
    | split
    | dsimp only
    | intro _

theorem State.wopReply_keep {l : Nat} (h : covers 0x4430008eca200000000000000000000000000000000000000000000000800000000000000000000020400 l) {s : State} {u : State} (k : Keep l s u) (a0) (a1) (a2) (a3) (a4) (a5) :
    Keep l s (State.wopReply a0 a1 a2 a3 a4 a5 u) := by
  unfold State.wopReply
  with_reducible repeat' first
    | assumption
    | exact covers_trans (by decide) h
    | apply keep_ite
    | apply State.respondTo_keep
    | split
    | dsimp only
    | intro _

theorem execClose_keep {l : Nat} (h : covers 0x5c30008eca200000000000000000000000000000000000000000000000800000000000000000000024400 l) {s : State} {u : State} (k : Keep l s u) (a0) (a1) (a2) :
    KeepR l s (execClose a0 a1 a2 u) := by
  unfold execClose
  with_reducible repeat' first
    | assumption
    | exact covers_trans (by decide) h
    | apply keep_ite
    | apply keepR_ite
    | apply State.closeSess_keep
    | apply State.wopRequest_keep
    | apply State.wopReply_keep
    | apply KeepR.next
    | split
    | dsimp only
    | intro _

theorem execRead_keep {l : Nat} (h : covers 0x4c30008eca200000000000000000000000000000000000000000000001800000000000000000000024400 l) {s : State} {u : State} (k : Keep l s u) (a0) (a1) (a2) (a3) (a4) (a5) :
    KeepR l s (execRead a0 a1 a2 a3 a4 a5 u) := by
  unfold execRead
  with_reducible repeat' first
    | assumption
    | exact covers_trans (by decide) h
    | apply keep_ite
    | apply keepR_ite
    | apply State.readObject_keep
    | refine snd_of_eq ‹State.readObject _ _ _ _ _ = _› (State.readObject_keep ?_ ?_ _ _ _ _)
    | apply State.wopRequest_keep
    | apply State.wopReply_keep
    | apply KeepR.next
    | split
    | dsimp only
    | intro _

theorem execWrite_keep {l : Nat} (h : covers 0xdffffffffe3dbdfffffffffffffffffff7fcffff7ff01fbffeff87ffbffcc7b01a0bfffffffffffffffef l) {s : State} {u : State} (k : Keep l s u) (a0) (a1) (a2) (a3) (a4) (a5) (a6) :
    KeepR l s (execWrite a0 a1 a2 a3 a4 a5 a6 u) := by
  unfold execWrite
  with_reducible repeat' first
    | assumption
    | exact covers_trans (by decide) h
    | apply keep_ite
    | apply keepR_ite
    | apply finishWrite_keep
    | apply State.writeObject_keep
    | apply State.wopRequest_keep
    | apply KeepR.next
    | split
    | dsimp only
    | intro _

theorem State.readItems_keep {l : Nat} (h : covers 0x4430008eca200000000000000000000000000000000000000000000001000000000000000000000004000 l) {s : State} {u : State} (k : Keep l s u) (a0) (a1) (a2) :
    Keep l s (State.readItems a0 a1 a2 u).2 := by
  induction a2 generalizing u a0 a1 with
  | nil =>
    unfold State.readItems
    with_reducible repeat' first
      | assumption
      | exact covers_trans (by decide) h
      | apply keep_ite
      | apply keep_ite_snd
      | apply State.readObject_keep
      | refine snd_of_eq ‹State.readObject _ _ _ _ _ = _› (State.readObject_keep ?_ ?_ _ _ _ _)
      | split
      | dsimp only
      | intro _
  | cons _ _ ih =>
    unfold State.readItems
    with_reducible repeat' first
      | assumption
      | exact covers_trans (by decide) h
      | apply keep_ite
      | apply keep_ite_snd
      | apply State.readObject_keep
      | refine snd_of_eq ‹State.readObject _ _ _ _ _ = _› (State.readObject_keep ?_ ?_ _ _ _ _)
      | refine ih ?_ _ _
      | split
      | dsimp only
      | intro _

theorem execReadMulti_keep {l : Nat} (h : covers 0x4c30008eca200000000000000000000000000000000000000000000001800000000000000000000024400 l) {s : State} {u : State} (k : Keep l s u) (a0) (a1) (a2) (a3) (a4) :
    KeepR l s (execReadMulti a0 a1 a2 a3 a4 u) := by
  unfold execReadMulti
  with_reducible repeat' first
    | assumption
    | exact covers_trans (by decide) h
    | apply keep_ite
    | apply keepR_ite
    | apply State.wopRequest_keep
    | apply State.wopReply_keep
    | apply State.readItems_keep
    | refine snd_of_eq ‹State.readItems _ _ _ _ = _› (State.readItems_keep ?_ ?_ _ _ _)
    | apply KeepR.next
    | split
    | dsimp only
    | intro _

theorem State.sendSegments_keep {l : Nat} (h : covers 0x4010000000000000000000000000000000000000000000000000000000000000000000000000000000000 l) {s : State} {u : State} (k : Keep l s u) (a0) (a1) (a2) :
    Keep l s (State.sendSegments a0 a1 a2 u) := by
  unfold State.sendSegments
  with_reducible repeat' first
    | assumption
    | exact covers_trans (by decide) h
    | apply keep_ite
    | refine forEach_keep (fun _ _ _ => ?_) ?_ _
    | apply State.emit_keep
    | apply State.countFrame_keep
    | split
    | dsimp only
    | intro _

theorem execBulkStart_keep {l : Nat} (h : covers 0x7c30008eca200000000000000000000000000000000000000000000000800000000000000000000020400 l) {s : State} {u : State} (k : Keep l s u) (a0) (a1) (a2) (a3) (a4) (a5) (a6) (a7) :
    KeepR l s (execBulkStart a0 a1 a2 a3 a4 a5 a6 a7 u) := by
  have b336 := covers_bit (i := 336) h (by decide)
  have b337 := covers_bit (i := 337) h (by decide)
  unfold execBulkStart
  with_reducible repeat' first
    | assumption
    | exact covers_trans (by decide) h
    | apply keep_ite
    | apply keepR_ite
    | (intro x; simp only [WopS.blank, b336, b337, if_true]; done)
    | (intro x; (try dsimp only); (repeat' split) <;> (simp only [WopS.blank, b336, b337, if_true]; done))
    | refine State.modWop_keep ?_ ?_
    | apply State.wopRequest_keep
    | apply State.wopReply_keep
    | apply State.sendSegments_keep
    | apply KeepR.next
    | split
    | dsimp only
    | intro _

theorem State.bulkSegment_keep {l : Nat} (h : covers 0x5010000000003100000000000000000000000000000000000000000000000000000000000000000000000 l) {s : State} {u : State} (k : Keep l s u) (a0) (a1) (a2) :
    Keep l s (State.bulkSegment a0 a1 a2 u) := by
  unfold State.bulkSegment
  with_reducible repeat' first
    | assumption
    | exact covers_trans (by decide) h
    | apply keep_ite
    | apply State.emit_keep
    | apply State.countFrame_keep
    | apply State.endBulk_keep
    | apply State.putBulk_keep
    | apply State.imageWrite_keep
    | refine snd_of_eq ‹State.imageWrite _ _ _ = _› (State.imageWrite_keep ?_ ?_ _ _)
    | split
    | dsimp only
    | intro _

theorem State.bulkHeard_keep {l : Nat} (h : covers 0x410000000000000000000000000000000000000000000000000000000000000000000000000000000000 l) {s : State} {u : State} (k : Keep l s u) (a0) :
    Keep l s (State.bulkHeard a0 u) := by
  unfold State.bulkHeard
  with_reducible repeat' first
    | assumption
    | exact covers_trans (by decide) h
    | apply keep_ite
    | apply State.countFrame_keep
    | apply State.touch_keep
    | split
    | dsimp only
    | intro _

theorem execBulkData_keep {l : Nat} (h : covers 0x5410000000003100000000000000000000000000000000000000000000000000000000000000000000000 l) {s : State} {u : State} (k : Keep l s u) (a0) (a1) (a2) (a3) (a4) :
    KeepR l s (execBulkData a0 a1 a2 a3 a4 u) := by
  unfold execBulkData
  with_reducible repeat' first
    | assumption
    | exact covers_trans (by decide) h
    | apply keep_ite
    | apply keepR_ite
    | apply State.countFrame_keep
    | apply State.bulkSegment_keep
    | apply State.bulkHeard_keep
    | apply KeepR.next
    | split
    | dsimp only
    | intro _

theorem execBulkAck_keep {l : Nat} (h : covers 0x5410000000000000000000000000000000000000000000000000000000000000000000000000000000000 l) {s : State} {u : State} (k : Keep l s u) (a0) (a1) (a2) (a3) :
    KeepR l s (execBulkAck a0 a1 a2 a3 u) := by
  unfold execBulkAck
  with_reducible repeat' first
    | assumption
    | exact covers_trans (by decide) h
    | apply keep_ite
    | apply keepR_ite
    | apply State.countFrame_keep
    | apply State.endBulk_keep
    | apply State.putBulk_keep
    | apply State.sendSegments_keep
    | apply State.bulkHeard_keep
    | apply KeepR.next
    | split
    | dsimp only
    | intro _

theorem execBulkOutOfOrderAck_keep {l : Nat} (h : covers 0x5010000000000000000000000000000000000000000000000000000000000000000000000000000000000 l) {s : State} {u : State} (k : Keep l s u) (a0) :
    KeepR l s (execBulkOutOfOrderAck a0 u) := by
  unfold execBulkOutOfOrderAck
  with_reducible repeat' first
    | assumption
    | exact covers_trans (by decide) h
    | apply keep_ite
    | apply keepR_ite
    | apply State.emit_keep
    | apply State.countFrame_keep
    | apply State.putBulk_keep
    | apply KeepR.next
    | split
    | dsimp only
    | intro _

theorem execBulkTimeout_keep {l : Nat} (h : covers 0x1000000000000000000000000000000000000000000000000000000000000000000000000000000000000 l) {s : State} {u : State} (k : Keep l s u) (a0) :
    KeepR l s (execBulkTimeout a0 u) := by
  unfold execBulkTimeout
  with_reducible repeat' first
    | assumption
    | exact covers_trans (by decide) h
    | apply keep_ite
    | apply keepR_ite
    | apply State.endBulk_keep
    | apply KeepR.next
    | split
    | dsimp only
    | intro _

theorem execSubscribe_keep {l : Nat} (h : covers 0x4c30008eca200000000000000000000000000000000000000000000000800000000000000000000020400 l) {s : State} {u : State} (k : Keep l s u) (a0) (a1) (a2) (a3) (a4) (a5) (a6) (a7) (a8) (a9) :
    KeepR l s (execSubscribe a0 a1 a2 a3 a4 a5 a6 a7 a8 a9 u) := by
  unfold execSubscribe
  with_reducible repeat' first
    | assumption
    | exact covers_trans (by decide) h
    | apply keep_ite
    | apply keepR_ite
    | apply State.modSession_keep
    | apply State.wopRequest_keep
    | apply State.wopReply_keep
    | apply KeepR.next
    | split
    | dsimp only
    | intro _

theorem execKeepalive_keep {l : Nat} (h : covers 0x4c30008eca200000000000000000000000000000000000000000000000800000000000000000000020400 l) {s : State} {u : State} (k : Keep l s u) (a0) (a1) (a2) (a3) :
    KeepR l s (execKeepalive a0 a1 a2 a3 u) := by
  unfold execKeepalive
  with_reducible repeat' first
    | assumption
    | exact covers_trans (by decide) h
    | apply keep_ite
    | apply keepR_ite
    | apply State.wopRequest_keep
    | apply State.wopReply_keep
    | apply KeepR.next
    | split
    | dsimp only
    | intro _

theorem execStrangerFrame_keep {l : Nat} (h : covers 0x810000000000000000000000000000000000000000000000000000000000000000000000000000000000 l) {s : State} {u : State} (k : Keep l s u) (a0) :
    KeepR l s (execStrangerFrame a0 u) := by
  unfold execStrangerFrame
  with_reducible repeat' first
    | assumption
    | exact covers_trans (by decide) h
    | apply keep_ite
    | apply keepR_ite
    | apply State.countFrame_keep
    | apply State.dropTag_keep
    | apply KeepR.next
    | split
    | dsimp only
    | intro _

theorem execNeighborDiscovery_keep {l : Nat} (h : covers 0x4010000000000000000000000000000000000000000000000000000000000000000000000000000000000 l) {s : State} {u : State} (k : Keep l s u)  :
    KeepR l s (execNeighborDiscovery u) := by
  unfold execNeighborDiscovery
  with_reducible repeat' first
    | assumption
    | exact covers_trans (by decide) h
    | apply keep_ite
    | apply keepR_ite
    | apply State.networkAnswer_keep
    | apply KeepR.next
    | split
    | dsimp only
    | intro _

theorem execSessionIdleTimeout_keep {l : Nat} (h : covers 0x5430008eca200000000000000000000000000000000000000000000000000000000000000000000004000 l) {s : State} {u : State} (k : Keep l s u) (a0) :
    KeepR l s (execSessionIdleTimeout a0 u) := by
  unfold execSessionIdleTimeout
  with_reducible repeat' first
    | assumption
    | exact covers_trans (by decide) h
    | apply keep_ite
    | apply keepR_ite
    | apply State.closeSess_keep
    | apply KeepR.next
    | split
    | dsimp only
    | intro _

theorem execCloseSession_keep {l : Nat} (h : covers 0xdffffffffe3dbdfffffffffffffffffff7fcffff7ff01fbffeff87ffbffcc7b01a0bfffffffffffffffef l) {s : State} {u : State} (k : Keep l s u) (a0) :
    KeepR l s (execCloseSession a0 u) := by
  unfold execCloseSession
  with_reducible repeat' first
    | assumption
    | exact covers_trans (by decide) h
    | apply keep_ite
    | apply keepR_ite
    | apply accessed_keep
    | apply finishWrite_keep
    | apply State.writeObject_keep
    | apply KeepR.next
    | split
    | dsimp only
    | intro _

theorem execTagFailureSecond_keep {l : Nat} (h : covers 0xcc30008eca200000000000000f71ef0000000000000000000018000001c00000000000000040000100000 l) {s : State} {u : State} (k : Keep l s u)  :
    KeepR l s (execTagFailureSecond u) := by
  have b335 := covers_bit (i := 335) h (by decide)
  unfold execTagFailureSecond
  with_reducible repeat' first
    | assumption
    | exact covers_trans (by decide) h
    | apply keep_ite
    | apply keepR_ite
    | (intro x; simp only [WopS.blank, b335, if_true]; done)
    | (intro x; (try dsimp only); (repeat' split) <;> (simp only [WopS.blank, b335, if_true]; done))
    | refine State.modWop_keep ?_ ?_
    | apply State.securityFrom_keep
    | apply State.draw_keep
    | refine snd_of_eq ‹State.draw _ = _› (State.draw_keep ?_ ?_)
    | apply KeepR.next
    | split
    | dsimp only
    | intro _

theorem execPlcaModeWrite_keep {l : Nat} (h : covers 0x4479008ece200000000400000000000000000000000000000000800000c0000000000000010000007bd80 l) {s : State} {u : State} (k : Keep l s u) (a0) :
    KeepR l s (execPlcaModeWrite a0 u) := by
  unfold execPlcaModeWrite
  with_reducible repeat' first
    | assumption
    | exact covers_trans (by decide) h
    | apply keep_ite
    | apply keepR_ite
    | apply accessed_keep
    | apply respondAccess_keep
    | apply State.putObject_keep
    | apply KeepR.next
    | split
    | dsimp only
    | intro _

theorem execPlcaBeacon_keep {l : Nat} (h : covers 0x28000000000000000000000000000000000000000000000000000000000000000000000000000000000 l) {s : State} {u : State} (k : Keep l s u)  :
    KeepR l s (execPlcaBeacon u) := by
  have b327 := covers_bit (i := 327) h (by decide)
  have b329 := covers_bit (i := 329) h (by decide)
  unfold execPlcaBeacon
  with_reducible repeat' first
    | assumption
    | exact covers_trans (by decide) h
    | apply keep_ite
    | apply keepR_ite
    | (intro x; simp only [WopS.blank, b327, b329, if_true]; done)
    | (intro x; (try dsimp only); (repeat' split) <;> (simp only [WopS.blank, b327, b329, if_true]; done))
    | refine State.modWop_keep ?_ ?_
    | apply KeepR.next
    | split
    | dsimp only
    | intro _

theorem execT1sPathFailure_keep {l : Nat} (h : covers 0x4430008eca200000000000000f71ef0000000000000000000018000001c00000000000000040000100000 l) {s : State} {u : State} (k : Keep l s u) (a0) :
    KeepR l s (execT1sPathFailure a0 u) := by
  unfold execT1sPathFailure
  with_reducible repeat' first
    | assumption
    | exact covers_trans (by decide) h
    | apply keep_ite
    | apply keepR_ite
    | apply State.report_keep
    | apply KeepR.next
    | split
    | dsimp only
    | intro _

end Sys2Proof.Machine
end

