-- ==== Sys2Proof/Laws/KeepStep.lean ====
section
/-! SUPPORT. What every operation and meaning keeps (management ready and the clock): outside the fields that it lists, the state after is the state before. -/

set_option Elab.async false

set_option linter.unusedTactic false
set_option linter.unreachableTactic false
set_option linter.unnecessarySeqFocus false
set_option linter.unusedSimpArgs false

namespace Sys2Proof.Machine

theorem State.coxReturns_keep {l : Nat} (h : covers 0x1a17d0000000000000000000000000000000000000000000000000000000000000000 l) {s : State} {u : State} (k : Keep l s u)  :
    Keep l s (State.coxReturns u) := by
  have b256 := covers_bit (i := 256) h (by decide)
  have b258 := covers_bit (i := 258) h (by decide)
  have b259 := covers_bit (i := 259) h (by decide)
  have b260 := covers_bit (i := 260) h (by decide)
  have b261 := covers_bit (i := 261) h (by decide)
  have b262 := covers_bit (i := 262) h (by decide)
  have b264 := covers_bit (i := 264) h (by decide)
  have b269 := covers_bit (i := 269) h (by decide)
  have b271 := covers_bit (i := 271) h (by decide)
  have b272 := covers_bit (i := 272) h (by decide)
  unfold State.coxReturns
  with_reducible repeat' first
    | assumption
    | exact covers_trans (by decide) h
    | apply keep_ite
    | (intro x; simp only [CoxS.blank, b256, b258, b259, b260, b261, b262, b264, b269, b271, b272, if_true]; done)
    | (intro x; (try dsimp only); (repeat' split) <;> (simp only [CoxS.blank, b256, b258, b259, b260, b261, b262, b264, b269, b271, b272, if_true]; done))
    | refine State.modCox_keep ?_ ?_
    | split
    | dsimp only
    | intro _

theorem State.corePeriods_keep {l : Nat} (h : covers 0x800000000400000000000000000000000000 l) {s : State} {u : State} (k : Keep l s u)  :
    Keep l s (State.corePeriods u) := by
  have b143 := covers_bit (i := 143) h (by decide)
  unfold State.corePeriods
  with_reducible repeat' first
    | assumption
    | exact covers_trans (by decide) h
    | apply keep_ite
    | (intro x; simp only [WbS.blank, b143, if_true]; done)
    | (intro x; (try dsimp only); (repeat' split) <;> (simp only [WbS.blank, b143, if_true]; done))
    | refine State.modWb_keep ?_ ?_
    | refine forEach_keep (fun _ _ _ => ?_) ?_ _
    | apply State.modPort_keep
    | split
    | dsimp only
    | intro _

theorem State.sampleInput_keep {l : Nat} (h : covers 0x8000000000000000000000000000000000000000000000000000000000000000000000000000001e00000 l) {s : State} {u : State} (k : Keep l s u)  :
    Keep l s (State.sampleInput u) := by
  have b21 := covers_bit (i := 21) h (by decide)
  have b22 := covers_bit (i := 22) h (by decide)
  have b23 := covers_bit (i := 23) h (by decide)
  have b24 := covers_bit (i := 24) h (by decide)
  unfold State.sampleInput
  with_reducible repeat' first
    | assumption
    | exact covers_trans (by decide) h
    | apply keep_ite
    | (intro x; simp only [PowerS.blank, b21, b22, b23, b24, if_true]; done)
    | (intro x; (try dsimp only); (repeat' split) <;> (simp only [PowerS.blank, b21, b22, b23, b24, if_true]; done))
    | refine State.modPwr_keep ?_ ?_
    | apply State.draw_keep
    | refine snd_of_eq ‹State.draw _ = _› (State.draw_keep ?_ ?_)
    | split
    | dsimp only
    | intro _

theorem tick_keep {l : Nat} (h : covers 0xc430008eca20000000000717ef71ef000000000411f01f81de18078881c00040020a2000007f001f20401 l) {s : State} {u : State} (k : Keep l s u)  :
    Keep l s (tick u) := by
  have b0 := covers_bit (i := 0) h (by decide)
  have b90 := covers_bit (i := 90) h (by decide)
  unfold tick
  with_reducible repeat' first
    | assumption
    | exact covers_trans (by decide) h
    | apply keep_ite
    | (intro x; simp only [TimeS.blank, ThermS.blank, b0, b90, if_true]; done)
    | (intro x; (try dsimp only); (repeat' split) <;> (simp only [TimeS.blank, ThermS.blank, b0, b90, if_true]; done))
    | refine State.modTim_keep ?_ ?_
    | refine State.modThm_keep ?_ ?_
    | apply State.startSync_keep
    | apply State.corePeriods_keep
    | apply State.sampleInput_keep
    | split
    | dsimp only
    | intro _

theorem State.resumeClear_keep {l : Nat} (h : covers 0xf7000000000000000000000000000000000000000000000000000000000000000000000 l) {s : State} {u : State} (k : Keep l s u)  :
    Keep l s (State.resumeClear u) := by
  unfold State.resumeClear
  with_reducible repeat' first
    | assumption
    | exact covers_trans (by decide) h
    | apply keep_ite
    | apply State.flashAsk_keep
    | split
    | dsimp only
    | intro _

theorem State.orphanEnd_keep {l : Nat} (h : covers 0x220000000e000000000000000000000000000000000000000000000000000000000000000000 l) {s : State} {u : State} (k : Keep l s u)  :
    Keep l s (State.orphanEnd u) := by
  have b265 := covers_bit (i := 265) h (by decide)
  have b266 := covers_bit (i := 266) h (by decide)
  have b267 := covers_bit (i := 267) h (by decide)
  unfold State.orphanEnd
  with_reducible repeat' first
    | assumption
    | exact covers_trans (by decide) h
    | apply keep_ite
    | (intro x; simp only [CoxS.blank, b265, b266, b267, if_true]; done)
    | (intro x; (try dsimp only); (repeat' split) <;> (simp only [CoxS.blank, b265, b266, b267, if_true]; done))
    | refine State.modCox_keep ?_ ?_
    | apply State.storeWrite_keep
    | split
    | dsimp only
    | intro _

theorem State.settleActivation_keep {l : Nat} (h : covers 0x4430008eca280000000000000000000000000000000000000000000000000000000000000000000020400 l) {s : State} {u : State} (k : Keep l s u)  :
    Keep l s (State.settleActivation u) := by
  have b295 := covers_bit (i := 295) h (by decide)
  unfold State.settleActivation
  with_reducible repeat' first
    | assumption
    | exact covers_trans (by decide) h
    | apply keep_ite
    | (intro x; simp only [ImagesS.blank, b295, if_true]; done)
    | (intro x; (try dsimp only); (repeat' split) <;> (simp only [ImagesS.blank, b295, if_true]; done))
    | refine State.modImg_keep ?_ ?_
    | apply State.ticketDone_keep
    | split
    | dsimp only
    | intro _

theorem State.settleEnded_keep {l : Nat} (h : covers 0x4430008eca200000000000000000000000000000000000000000000000000000000000000000000020400 l) {s : State} {u : State} (k : Keep l s u)  :
    Keep l s (State.settleEnded u) := by
  have b17 := covers_bit (i := 17) h (by decide)
  unfold State.settleEnded
  with_reducible repeat' first
    | assumption
    | exact covers_trans (by decide) h
    | apply keep_ite
    | (intro x; simp only [ObjS.blank, b17, if_true]; done)
    | (intro x; (try dsimp only); (repeat' split) <;> (simp only [ObjS.blank, b17, if_true]; done))
    | refine State.modObj_keep ?_ ?_
    | refine forEach_keep (fun _ _ _ => ?_) ?_ _
    | apply State.ticketDone_keep
    | split
    | dsimp only
    | intro _

theorem State.resumeTimeouts_keep {l : Nat} (h : covers 0x2000000000000000000000000000 l) {s : State} {u : State} (k : Keep l s u)  :
    Keep l s (State.resumeTimeouts u) := by
  have b109 := covers_bit (i := 109) h (by decide)
  unfold State.resumeTimeouts
  with_reducible repeat' first
    | assumption
    | exact covers_trans (by decide) h
    | apply keep_ite
    | (intro x; simp only [ExtS.blank, b109, if_true]; done)
    | (intro x; (try dsimp only); (repeat' split) <;> (simp only [ExtS.blank, b109, if_true]; done))
    | refine State.modExt_keep ?_ ?_
    | split
    | dsimp only
    | intro _

theorem runMailbox_keep {l : Nat} (h : covers 0xdffffffffe3dbdfffffffffffffffffff7fcffff7ff01fbfffff87ffbffcc7b01a0bfffffffffffffffef l) {s : State} {u : State} (k : Keep l s u) (a0) :
    Keep l s (runMailbox a0 u) := by
  unfold runMailbox
  with_reducible repeat' first
    | assumption
    | exact covers_trans (by decide) h
    | apply keep_ite
    | apply Res.stateOr_keep
    | apply execGetShutdownState_keep
    | apply execMailboxOpenReply_keep
    | apply execSanitize_keep
    | apply execGetPoisonList_keep
    | apply execSetShutdownState_keep
    | apply execSecureErase_keep
    | apply execAddDynamicCapacityResponse_keep
    | apply execReleaseDynamicCapacity_keep
    | apply execGetDynamicCapacityExtentList_keep
    | apply execObjectRead_keep
    | apply execObjectWrite_keep
    | apply execSetExtentHint_keep
    | apply execGetExtentState_keep
    | apply execUnsupportedOpcode_keep
    | apply execGetHealthInfo_keep
    | apply execMailboxOpenRequest_keep
    | split
    | dsimp only
    | intro _

theorem State.runDoorbell_keep {l : Nat} (h : covers 0xdffffffffe3dbdfffffffffffffffffff7fcffff7ff01fbfffff87ffbffcc7b01a0bfffffffffffffffef l) {s : State} {u : State} (k : Keep l s u) (a0) :
    Keep l s (State.runDoorbell a0 u) := by
  unfold State.runDoorbell
  with_reducible repeat' first
    | assumption
    | exact covers_trans (by decide) h
    | apply keep_ite
    | apply State.modHead_keep
    | apply runMailbox_keep
    | split
    | dsimp only
    | intro _

theorem execManagementReady_keep {l : Nat} (h : covers 0xdffffffffe3dbdfffffffffffffffffff7fcffff7ff01fbfffff87ffbffcc7b01a0bfffffffffffffffef l) {s : State} {u : State} (k : Keep l s u)  :
    KeepR l s (execManagementReady u) := by
  have b243 := covers_bit (i := 243) h (by decide)
  unfold execManagementReady
  with_reducible repeat' first
    | assumption
    | exact covers_trans (by decide) h
    | apply keep_ite
    | apply keepR_ite
    | (intro x; simp only [StartS.blank, b243, if_true]; done)
    | (intro x; (try dsimp only); (repeat' split) <;> (simp only [StartS.blank, b243, if_true]; done))
    | refine State.modStr_keep ?_ ?_
    | refine forEach_keep (fun _ _ _ => ?_) ?_ _
    | apply State.record_keep
    | apply State.startTime_keep
    | apply State.mapStep_keep
    | apply State.startSync_keep
    | apply State.healthSync_keep
    | apply State.probeWaiting_keep
    | apply State.coxReturns_keep
    | apply State.plcaStart_keep
    | apply State.resumeClear_keep
    | apply State.orphanEnd_keep
    | apply State.settleActivation_keep
    | apply State.settleEnded_keep
    | apply State.resumeTimeouts_keep
    | apply State.sendAdvertise_keep
    | apply State.sendAddressProbe_keep
    | apply State.runDoorbell_keep
    | apply KeepR.next
    | split
    | dsimp only
    | intro _

theorem State.withFetchWord_keep {l : Nat} (h : covers 0x10000000000000000000000000000000000000000000000000000000000000000000000000000000000000 l) {s : State} {u : State} (k : Keep l s u) (a1) (a2) :
    Keep l s (State.withFetchWord u a1 a2) := by
  have b340 := covers_bit (i := 340) h (by decide)
  unfold State.withFetchWord
  with_reducible repeat' first
    | assumption
    | exact covers_trans (by decide) h
    | apply keep_ite
    | refine State.modPending_keep b340 ?_
    | split
    | dsimp only
    | intro _

end Sys2Proof.Machine
end

