-- ==== Sys2Proof/Laws/PerInstr.lean ====
section
/-! SUPPORT. Per command, as syntax: spec/opcode_table.json gives its row no bits, so no word spells it. -/

set_option Elab.async false

namespace Sys2Proof.Laws

/-- No word of the table spells the command. -/
def NoTableWord.Statement (i : Instr) : Prop := ∀ nbits w, decodeTableWord nbits w ≠ some i

/-- It holds of every command, since the decoder answers none. -/
theorem noTableWord (i : Instr) : NoTableWord.Statement i := by
  intro _ _ h
  cases h

theorem NoTableWord.memrd (head : Nat) (dpa : Nat) (queued : Nat) (latency : Nat) (copies : MapCopies) : NoTableWord.Statement (.memrd head dpa queued latency copies) := noTableWord _
theorem NoTableWord.readLineArrival (rid : Nat) (src : ReadSrc) (errors : Errors) (sensed : Option StoredLine) (sq : SenseStatus) : NoTableWord.Statement (.readLineArrival rid src errors sensed sq) := noTableWord _
theorem NoTableWord.lineOrderPointMerge (rid : Nat) (latency : Nat) : NoTableWord.Statement (.lineOrderPointMerge rid latency) := noTableWord _
theorem NoTableWord.lookupResponseHoldExpiry (rid : Nat) : NoTableWord.Statement (.lookupResponseHoldExpiry rid) := noTableWord _
theorem NoTableWord.memwr (head : Nat) (dpa : Nat) (data : Line) (poison : Bool) : NoTableWord.Statement (.memwr head dpa data poison) := noTableWord _
theorem NoTableWord.memwrptl (head : Nat) (dpa : Nat) (be : ByteEn) (data : Line) (poison : Bool) : NoTableWord.Statement (.memwrptl head dpa be data poison) := noTableWord _
theorem NoTableWord.mirrorWriteAck (key : Nat) (latency : Nat) : NoTableWord.Statement (.mirrorWriteAck key latency) := noTableWord _
theorem NoTableWord.gpfPhase1 (head : Nat) : NoTableWord.Statement (.gpfPhase1 head) := noTableWord _
theorem NoTableWord.gpfPhase2 (head : Nat) : NoTableWord.Statement (.gpfPhase2 head) := noTableWord _
theorem NoTableWord.setShutdownState (head : Nat) (value : Nat) : NoTableWord.Statement (.setShutdownState head value) := noTableWord _
theorem NoTableWord.getShutdownState (head : Nat) : NoTableWord.Statement (.getShutdownState head) := noTableWord _
theorem NoTableWord.getPoisonList (head : Nat) : NoTableWord.Statement (.getPoisonList head) := noTableWord _
theorem NoTableWord.sanitize (head : Nat) : NoTableWord.Statement (.sanitize head) := noTableWord _
theorem NoTableWord.secureErase (head : Nat) : NoTableWord.Statement (.secureErase head) := noTableWord _
theorem NoTableWord.addDynamicCapacityResponse (head : Nat) (ext : Nat) (accept : Bool) : NoTableWord.Statement (.addDynamicCapacityResponse head ext accept) := noTableWord _
theorem NoTableWord.releaseDynamicCapacity (head : Nat) (ext : Nat) : NoTableWord.Statement (.releaseDynamicCapacity head ext) := noTableWord _
theorem NoTableWord.getDynamicCapacityExtentList (head : Nat) : NoTableWord.Statement (.getDynamicCapacityExtentList head) := noTableWord _
theorem NoTableWord.objectRead (head : Nat) (form : Bool) (sess : Nat) (seq : Nat) (tag : TagField) (idx : Nat) (mem : Nat) : NoTableWord.Statement (.objectRead head form sess seq tag idx mem) := noTableWord _
theorem NoTableWord.objectWrite (head : Nat) (form : Bool) (sess : Nat) (seq : Nat) (tag : TagField) (idx : Nat) (mem : Nat) (value : List Byte) : NoTableWord.Statement (.objectWrite head form sess seq tag idx mem value) := noTableWord _
theorem NoTableWord.setExtentHint (head : Nat) (form : Bool) (first : Nat) (count : Nat) (hint : Nat) : NoTableWord.Statement (.setExtentHint head form first count hint) := noTableWord _
theorem NoTableWord.getExtentState (head : Nat) (form : Bool) (first : Nat) (count : Nat) : NoTableWord.Statement (.getExtentState head form first count) := noTableWord _
theorem NoTableWord.unsupportedOpcode (head : Nat) (opcode : Nat) : NoTableWord.Statement (.unsupportedOpcode head opcode) := noTableWord _
theorem NoTableWord.getHealthInfo (head : Nat) : NoTableWord.Statement (.getHealthInfo head) := noTableWord _
theorem NoTableWord.mailboxOpenRequest (head : Nat) (role : Role) (nonce : Nat) : NoTableWord.Statement (.mailboxOpenRequest head role nonce) := noTableWord _
theorem NoTableWord.mailboxOpenReply (head : Nat) : NoTableWord.Statement (.mailboxOpenReply head) := noTableWord _
theorem NoTableWord.memEnableWrite (head : Nat) (value : Bool) (cfg : HostCfg) : NoTableWord.Statement (.memEnableWrite head value cfg) := noTableWord _
theorem NoTableWord.viralReceived (head : Nat) : NoTableWord.Statement (.viralReceived head) := noTableWord _
theorem NoTableWord.ideCheckFailure (head : Nat) : NoTableWord.Statement (.ideCheckFailure head) := noTableWord _
theorem NoTableWord.ideKmRequest (head : Nat) (ask : IdeAsk) : NoTableWord.Statement (.ideKmRequest head ask) := noTableWord _
theorem NoTableWord.functionLevelReset (head : Nat) : NoTableWord.Statement (.functionLevelReset head) := noTableWord _
theorem NoTableWord.perstAssert (port : Nat) (link : Nat) : NoTableWord.Statement (.perstAssert port link) := noTableWord _
theorem NoTableWord.perstRelease (port : Nat) (link : Nat) : NoTableWord.Statement (.perstRelease port link) := noTableWord _
theorem NoTableWord.linkUp (head : Nat) (width : Nat) (flit : Nat) : NoTableWord.Statement (.linkUp head width flit) := noTableWord _
theorem NoTableWord.speedChangeRequest (head : Nat) (asked : Nat) (reached : Nat) : NoTableWord.Statement (.speedChangeRequest head asked reached) := noTableWord _
theorem NoTableWord.equalisationComplete (head : Nat) (speed : Nat) : NoTableWord.Statement (.equalisationComplete head speed) := noTableWord _
theorem NoTableWord.linkRecoveryEntry (head : Nat) : NoTableWord.Statement (.linkRecoveryEntry head) := noTableWord _
theorem NoTableWord.linkDown (head : Nat) : NoTableWord.Statement (.linkDown head) := noTableWord _
theorem NoTableWord.cableRemoved (port : Nat) : NoTableWord.Statement (.cableRemoved port) := noTableWord _
theorem NoTableWord.cableMated (port : Nat) : NoTableWord.Statement (.cableMated port) := noTableWord _
theorem NoTableWord.bifurcationRequest (port : Nat) (mode : Nat) : NoTableWord.Statement (.bifurcationRequest port mode) := noTableWord _
theorem NoTableWord.eqEnable (head : Nat) (base : Nat) (mirror : Nat) (coal : Nat) (size : Nat) (mask : BitVec 16) : NoTableWord.Statement (.eqEnable head base mirror coal size mask) := noTableWord _
theorem NoTableWord.eqDisable (head : Nat) : NoTableWord.Statement (.eqDisable head) := noTableWord _
theorem NoTableWord.eqCiWrite (head : Nat) (ci : BitVec 32) : NoTableWord.Statement (.eqCiWrite head ci) := noTableWord _
theorem NoTableWord.eqStatusClear (head : Nat) (overflow : Bool) (ciErr : Bool) : NoTableWord.Statement (.eqStatusClear head overflow ciErr) := noTableWord _
theorem NoTableWord.eqCoalesceIntervalEnd (head : Nat) : NoTableWord.Statement (.eqCoalesceIntervalEnd head) := noTableWord _
theorem NoTableWord.headStall (head : Nat) : NoTableWord.Statement (.headStall head) := noTableWord _
theorem NoTableWord.headReset (head : Nat) : NoTableWord.Statement (.headReset head) := noTableWord _
theorem NoTableWord.headResetHoldEnd (head : Nat) : NoTableWord.Statement (.headResetHoldEnd head) := noTableWord _
theorem NoTableWord.inFlightCapWrite (head : Nat) (cap : Nat) : NoTableWord.Statement (.inFlightCapWrite head cap) := noTableWord _
theorem NoTableWord.extentOffer (req : Req) (first : Nat) (count : Nat) (mask : Nat) (region : Nat) : NoTableWord.Statement (.extentOffer req first count mask region) := noTableWord _
theorem NoTableWord.regionChangeComplete (ext : Nat) : NoTableWord.Statement (.regionChangeComplete ext) := noTableWord _
theorem NoTableWord.extentRelease (req : Req) (first : Nat) (count : Nat) (mask : Nat) : NoTableWord.Statement (.extentRelease req first count mask) := noTableWord _
theorem NoTableWord.extentReleaseForced (req : Req) (first : Nat) (count : Nat) (mask : Nat) : NoTableWord.Statement (.extentReleaseForced req first count mask) := noTableWord _
theorem NoTableWord.offerTimeout (head : Nat) (ext : Nat) : NoTableWord.Statement (.offerTimeout head ext) := noTableWord _
theorem NoTableWord.extentDrainComplete (head : Nat) (ext : Nat) : NoTableWord.Statement (.extentDrainComplete head ext) := noTableWord _
theorem NoTableWord.regionCreate (region : Nat) (mask : Nat) : NoTableWord.Statement (.regionCreate region mask) := noTableWord _
theorem NoTableWord.regionMaskChange (region : Nat) (mask : Nat) : NoTableWord.Statement (.regionMaskChange region mask) := noTableWord _
theorem NoTableWord.regionDelete (region : Nat) : NoTableWord.Statement (.regionDelete region) := noTableWord _
theorem NoTableWord.configCommit (domain : Nat) : NoTableWord.Statement (.configCommit domain) := noTableWord _
theorem NoTableWord.keelBridgeAccess (domain : Nat) (addr : Nat) (write : Option Word64) : NoTableWord.Statement (.keelBridgeAccess domain addr write) := noTableWord _
theorem NoTableWord.keelBridgeTimeout (domain : Nat) (addr : Nat) : NoTableWord.Statement (.keelBridgeTimeout domain addr) := noTableWord _
theorem NoTableWord.faultMessageTaken : NoTableWord.Statement (.faultMessageTaken) := noTableWord _
theorem NoTableWord.fatalLineAssert (msg : Word64) : NoTableWord.Statement (.fatalLineAssert msg) := noTableWord _
theorem NoTableWord.clockLost (clock : Nat) : NoTableWord.Statement (.clockLost clock) := noTableWord _
theorem NoTableWord.stickyBitPersist (src : Nat) : NoTableWord.Statement (.stickyBitPersist src) := noTableWord _
theorem NoTableWord.stickyBitClear (member : Nat) (ones : Word64) : NoTableWord.Statement (.stickyBitClear member ones) := noTableWord _
theorem NoTableWord.quietTimerExpiry (src : Nat) : NoTableWord.Statement (.quietTimerExpiry src) := noTableWord _
theorem NoTableWord.probeComplete (src : Nat) (find : ProbeFind) : NoTableWord.Statement (.probeComplete src find) := noTableWord _
theorem NoTableWord.probeTimeout (src : Nat) : NoTableWord.Statement (.probeTimeout src) := noTableWord _
theorem NoTableWord.operatorFence (req : Req) (src : Nat) : NoTableWord.Statement (.operatorFence req src) := noTableWord _
theorem NoTableWord.operatorReadmit (req : Req) (src : Nat) : NoTableWord.Statement (.operatorReadmit req src) := noTableWord _
theorem NoTableWord.latchRelease (req : Req) (src : Nat) : NoTableWord.Statement (.latchRelease req src) := noTableWord _
theorem NoTableWord.engineTimeout (src : Nat) (tract : Nat) : NoTableWord.Statement (.engineTimeout src tract) := noTableWord _
theorem NoTableWord.easyAllEnterCommand (req : Req) : NoTableWord.Statement (.easyAllEnterCommand req) := noTableWord _
theorem NoTableWord.easyAllLeaveCommand (req : Req) : NoTableWord.Statement (.easyAllLeaveCommand req) := noTableWord _
theorem NoTableWord.t4ClearTimer : NoTableWord.Statement (.t4ClearTimer) := noTableWord _
theorem NoTableWord.stagingParityRecomputeDone (part : Nat) : NoTableWord.Statement (.stagingParityRecomputeDone part) := noTableWord _
theorem NoTableWord.wearBandReloadDone (part : Nat) : NoTableWord.Statement (.wearBandReloadDone part) := noTableWord _
theorem NoTableWord.stagingPartRestoreDone (part : Nat) : NoTableWord.Statement (.stagingPartRestoreDone part) := noTableWord _
theorem NoTableWord.sramInitDone (which : Nat) (checkerOk : Bool) : NoTableWord.Statement (.sramInitDone which checkerOk) := noTableWord _
theorem NoTableWord.sramPatrol (which : Nat) (word : Nat) (holds : SramHolds) (found : SramFound) : NoTableWord.Statement (.sramPatrol which word holds found) := noTableWord _
theorem NoTableWord.sense (ch : Nat) (die : Nat) (granule : Nat) (line : Nat) (slot : Nat) (sq : SenseStatus) : NoTableWord.Statement (.sense ch die granule line slot sq) := noTableWord _
theorem NoTableWord.abort (ch : Nat) (die : Nat) (plane : Nat) : NoTableWord.Statement (.abort ch die plane) := noTableWord _
theorem NoTableWord.esense (ch : Nat) (die : Nat) (granule : Nat) (line : Nat) (sq : SenseStatus) : NoTableWord.Statement (.esense ch die granule line sq) := noTableWord _
theorem NoTableWord.hsense (ch : Nat) (die : Nat) (granule : Nat) : NoTableWord.Statement (.hsense ch die granule) := noTableWord _
theorem NoTableWord.load (ch : Nat) (die : Nat) (plane : Nat) (image : Granule) : NoTableWord.Statement (.load ch die plane image) := noTableWord _
theorem NoTableWord.prog (ch : Nat) (die : Nat) (granule : Nat) : NoTableWord.Statement (.prog ch die granule) := noTableWord _
theorem NoTableWord.clrseg (ch : Nat) (die : Nat) (sector : Nat) (segment : Nat) : NoTableWord.Statement (.clrseg ch die sector segment) := noTableWord _
theorem NoTableWord.status (ch : Nat) (die : Nat) : NoTableWord.Statement (.status ch die) := noTableWord _
theorem NoTableWord.trim (ch : Nat) (die : Nat) (reg : Nat) : NoTableWord.Statement (.trim ch die reg) := noTableWord _
theorem NoTableWord.check (ch : Nat) (die : Nat) (plane : Nat) : NoTableWord.Statement (.check ch die plane) := noTableWord _
theorem NoTableWord.abortReport (ch : Nat) (die : Nat) (plane : Nat) (complete : Bool) (resetBegun : Bool) : NoTableWord.Statement (.abortReport ch die plane complete resetBegun) := noTableWord _
theorem NoTableWord.planeOperationEnd (ch : Nat) (die : Nat) (plane : Nat) (result : OpResult) : NoTableWord.Statement (.planeOperationEnd ch die plane result) := noTableWord _
theorem NoTableWord.senseTimeout (sense : TimedSense) : NoTableWord.Statement (.senseTimeout sense) := noTableWord _
theorem NoTableWord.abortTimeout (ch : Nat) (die : Nat) (plane : Nat) : NoTableWord.Statement (.abortTimeout ch die plane) := noTableWord _
theorem NoTableWord.programStatusTimeout (ch : Nat) (die : Nat) (plane : Nat) : NoTableWord.Statement (.programStatusTimeout ch die plane) := noTableWord _
theorem NoTableWord.commandParityError (ch : Nat) (die : Nat) (rid : Option Nat) : NoTableWord.Statement (.commandParityError ch die rid) := noTableWord _
theorem NoTableWord.channelTimingError (ch : Nat) (thousandths : Int) : NoTableWord.Statement (.channelTimingError ch thousandths) := noTableWord _
theorem NoTableWord.channelTrainingDone (ch : Nat) : NoTableWord.Statement (.channelTrainingDone ch) := noTableWord _
theorem NoTableWord.channelTrainingTimeout (ch : Nat) : NoTableWord.Statement (.channelTrainingTimeout ch) := noTableWord _
theorem NoTableWord.coalescingDelayExpiry (key : Nat) : NoTableWord.Statement (.coalescingDelayExpiry key) := noTableWord _
theorem NoTableWord.drainUnitSelect (pair : Nat) (tract : Nat) (row : Nat) (findings : List Finding) (tree : TreeFind) : NoTableWord.Statement (.drainUnitSelect pair tract row findings tree) := noTableWord _
theorem NoTableWord.drainProgramsStart (unit : Nat) : NoTableWord.Statement (.drainProgramsStart unit) := noTableWord _
theorem NoTableWord.drainUnitComplete (unit : Nat) : NoTableWord.Statement (.drainUnitComplete unit) := noTableWord _
theorem NoTableWord.starvationThreshold (unit : Nat) : NoTableWord.Statement (.starvationThreshold unit) := noTableWord _
theorem NoTableWord.nodeHoldExpiry (key : Nat) : NoTableWord.Statement (.nodeHoldExpiry key) := noTableWord _
theorem NoTableWord.ledgerDelta : NoTableWord.Statement (.ledgerDelta) := noTableWord _
theorem NoTableWord.ledgerFullSet : NoTableWord.Statement (.ledgerFullSet) := noTableWord _
theorem NoTableWord.ledgerRecordDurable (seq : Nat) : NoTableWord.Statement (.ledgerRecordDurable seq) := noTableWord _
theorem NoTableWord.inputDip : NoTableWord.Statement (.inputDip) := noTableWord _
theorem NoTableWord.sealRecordDurable (seq : Nat) : NoTableWord.Statement (.sealRecordDurable seq) := noTableWord _
theorem NoTableWord.inputDipRecovered : NoTableWord.Statement (.inputDipRecovered) := noTableWord _
theorem NoTableWord.flushComplete : NoTableWord.Statement (.flushComplete) := noTableWord _
theorem NoTableWord.keelTurnOn : NoTableWord.Statement (.keelTurnOn) := noTableWord _
theorem NoTableWord.inputLoss : NoTableWord.Statement (.inputLoss) := noTableWord _
theorem NoTableWord.overvoltage : NoTableWord.Statement (.overvoltage) := noTableWord _
theorem NoTableWord.overvoltageClear : NoTableWord.Statement (.overvoltageClear) := noTableWord _
theorem NoTableWord.keelTurnOff : NoTableWord.Statement (.keelTurnOff) := noTableWord _
theorem NoTableWord.breakerTrip : NoTableWord.Statement (.breakerTrip) := noTableWord _
theorem NoTableWord.breakerLatchRelease : NoTableWord.Statement (.breakerLatchRelease) := noTableWord _
theorem NoTableWord.bladePairImbalance (pairA : Nat) (pairB : Nat) : NoTableWord.Statement (.bladePairImbalance pairA pairB) := noTableWord _
theorem NoTableWord.inputGoodAgain : NoTableWord.Statement (.inputGoodAgain) := noTableWord _
theorem NoTableWord.inputGoodResetTimer (ga : Nat) : NoTableWord.Statement (.inputGoodResetTimer ga) := noTableWord _
theorem NoTableWord.bankBelow40v : NoTableWord.Statement (.bankBelow40v) := noTableWord _
theorem NoTableWord.bankBelow41v : NoTableWord.Statement (.bankBelow41v) := noTableWord _
theorem NoTableWord.corePowerOffRequest : NoTableWord.Statement (.corePowerOffRequest) := noTableWord _
theorem NoTableWord.corePowerOnRequest : NoTableWord.Statement (.corePowerOnRequest) := noTableWord _
theorem NoTableWord.gaSample (pins : Nat) : NoTableWord.Statement (.gaSample pins) := noTableWord _
theorem NoTableWord.modrstAssert (lowUs : Nat) (ga : Nat) : NoTableWord.Statement (.modrstAssert lowUs ga) := noTableWord _
theorem NoTableWord.modrstRelease (ga : Nat) : NoTableWord.Statement (.modrstRelease ga) := noTableWord _
theorem NoTableWord.moduleReset (req : Req) (value : Nat) (ga : Nat) : NoTableWord.Statement (.moduleReset req value ga) := noTableWord _
theorem NoTableWord.haltNLow (outside : Bool) (lowNs : Nat) : NoTableWord.Statement (.haltNLow outside lowNs) := noTableWord _
theorem NoTableWord.haltNSwitchWrite (value : Bool) : NoTableWord.Statement (.haltNSwitchWrite value) := noTableWord _
theorem NoTableWord.extestLoad (instr : TapInstr) : NoTableWord.Statement (.extestLoad instr) := noTableWord _
theorem NoTableWord.keelRailsQualified (ga : Nat) (timeTorn : Bool) (cycleTorn : Bool) : NoTableWord.Statement (.keelRailsQualified ga timeTorn cycleTorn) := noTableWord _
theorem NoTableWord.keelRailRetry : NoTableWord.Statement (.keelRailRetry) := noTableWord _
theorem NoTableWord.domainQualified (domain : Nat) (drops : Nat) : NoTableWord.Statement (.domainQualified domain drops) := noTableWord _
theorem NoTableWord.powerGoodDrop (domain : Nat) (lowNs : Nat) : NoTableWord.Statement (.powerGoodDrop domain lowNs) := noTableWord _
theorem NoTableWord.stepTimeout : NoTableWord.Statement (.stepTimeout) := noTableWord _
theorem NoTableWord.railFailure (domain : Nat) (overcurrent : Bool) : NoTableWord.Statement (.railFailure domain overcurrent) := noTableWord _
theorem NoTableWord.powerDownStep (ga : Nat) : NoTableWord.Statement (.powerDownStep ga) := noTableWord _
theorem NoTableWord.railFailToFall (domain : Nat) (overcurrent : Bool) : NoTableWord.Statement (.railFailToFall domain overcurrent) := noTableWord _
theorem NoTableWord.seatPingTimer : NoTableWord.Statement (.seatPingTimer) := noTableWord _
theorem NoTableWord.domainStatusPoll : NoTableWord.Statement (.domainStatusPoll) := noTableWord _
theorem NoTableWord.seatBusFailure (seat : Nat) (crc : Bool) : NoTableWord.Statement (.seatBusFailure seat crc) := noTableWord _
theorem NoTableWord.seatBusStuck (seat : Nat) : NoTableWord.Statement (.seatBusStuck seat) := noTableWord _
theorem NoTableWord.ping (seat : Nat) : NoTableWord.Statement (.ping seat) := noTableWord _
theorem NoTableWord.domainOn (seat : Nat) (domain : Nat) : NoTableWord.Statement (.domainOn seat domain) := noTableWord _
theorem NoTableWord.domainOff (seat : Nat) (domain : Nat) : NoTableWord.Statement (.domainOff seat domain) := noTableWord _
theorem NoTableWord.domainStatus (seat : Nat) (domain : Nat) : NoTableWord.Statement (.domainStatus seat domain) := noTableWord _
theorem NoTableWord.readV (seat : Nat) (domain : Nat) : NoTableWord.Statement (.readV seat domain) := noTableWord _
theorem NoTableWord.readI (seat : Nat) (domain : Nat) : NoTableWord.Statement (.readI seat domain) := noTableWord _
theorem NoTableWord.margin (seat : Nat) (domain : Nat) (percent : Int) : NoTableWord.Statement (.margin seat domain percent) := noTableWord _
theorem NoTableWord.charger (seat : Nat) (on : Bool) : NoTableWord.Statement (.charger seat on) := noTableWord _
theorem NoTableWord.capMeasure (seat : Nat) : NoTableWord.Statement (.capMeasure seat) := noTableWord _
theorem NoTableWord.capResult (seat : Nat) : NoTableWord.Statement (.capResult seat) := noTableWord _
theorem NoTableWord.haltRelease (seat : Nat) : NoTableWord.Statement (.haltRelease seat) := noTableWord _
theorem NoTableWord.faultRead (seat : Nat) : NoTableWord.Statement (.faultRead seat) := noTableWord _
theorem NoTableWord.seatSelfShutdown (seat : Nat) : NoTableWord.Statement (.seatSelfShutdown seat) := noTableWord _
theorem NoTableWord.latchClear (req : Req) : NoTableWord.Statement (.latchClear req) := noTableWord _
theorem NoTableWord.marginingEnable (value : Bool) : NoTableWord.Statement (.marginingEnable value) := noTableWord _
theorem NoTableWord.marginRequest (domain : Nat) (percent : Int) : NoTableWord.Statement (.marginRequest domain percent) := noTableWord _
theorem NoTableWord.bankReady (mv : Nat) : NoTableWord.Statement (.bankReady mv) := noTableWord _
theorem NoTableWord.bankReadyTimeout : NoTableWord.Statement (.bankReadyTimeout) := noTableWord _
theorem NoTableWord.bankLowVoltage (mv : Nat) : NoTableWord.Statement (.bankLowVoltage mv) := noTableWord _
theorem NoTableWord.boostFault : NoTableWord.Statement (.boostFault) := noTableWord _
theorem NoTableWord.capacitanceMeasurementDue : NoTableWord.Statement (.capacitanceMeasurementDue) := noTableWord _
theorem NoTableWord.measureNow (req : Req) : NoTableWord.Statement (.measureNow req) := noTableWord _
theorem NoTableWord.measurementComplete (timeUs : Nat) (stepMv : Nat) : NoTableWord.Statement (.measurementComplete timeUs stepMv) := noTableWord _
theorem NoTableWord.thermalConversion (input : Nat) (reading : Int) (openOrShort : Bool) : NoTableWord.Statement (.thermalConversion input reading openOrShort) := noTableWord _
theorem NoTableWord.levelFall (input : Nat) : NoTableWord.Statement (.levelFall input) := noTableWord _
theorem NoTableWord.limitsWrite (kind : Nat) (t1 : Int) (t2 : Int) (t3 : Int) (t4 : Int) (hyst : Nat) : NoTableWord.Statement (.limitsWrite kind t1 t2 t3 t4 hyst) := noTableWord _
theorem NoTableWord.healthRecompute : NoTableWord.Statement (.healthRecompute) := noTableWord _
theorem NoTableWord.migrationStart (tract : Nat) : NoTableWord.Statement (.migrationStart tract) := noTableWord _
theorem NoTableWord.migrationRowCopy (tract : Nat) (findings : List Finding) : NoTableWord.Statement (.migrationRowCopy tract findings) := noTableWord _
theorem NoTableWord.sealVerified (tract : Nat) : NoTableWord.Statement (.sealVerified tract) := noTableWord _
theorem NoTableWord.sourceReadsDrained (tract : Nat) : NoTableWord.Statement (.sourceReadsDrained tract) := noTableWord _
theorem NoTableWord.sourceClearComplete (tract : Nat) : NoTableWord.Statement (.sourceClearComplete tract) := noTableWord _
theorem NoTableWord.checkpointVerified (tract : Nat) : NoTableWord.Statement (.checkpointVerified tract) := noTableWord _
theorem NoTableWord.wearEpoch : NoTableWord.Statement (.wearEpoch) := noTableWord _
theorem NoTableWord.wearCheckpointWriteback : NoTableWord.Statement (.wearCheckpointWriteback) := noTableWord _
theorem NoTableWord.heatPeriod : NoTableWord.Statement (.heatPeriod) := noTableWord _
theorem NoTableWord.refreshVisit (pt : Nat) (findings : List Finding) : NoTableWord.Statement (.refreshVisit pt findings) := noTableWord _
theorem NoTableWord.rekeyRequest (req : Req) (region : Nat) : NoTableWord.Statement (.rekeyRequest req region) := noTableWord _
theorem NoTableWord.rekeySpan (region : Nat) (span : Nat) (findings : List Finding) (tree : TreeFind) : NoTableWord.Statement (.rekeySpan region span findings tree) := noTableWord _
theorem NoTableWord.reEstablishment (tract : Nat) : NoTableWord.Statement (.reEstablishment tract) := noTableWord _
theorem NoTableWord.debugWindowOpen (ww : Nat) (dpa : Nat) (len : Nat) (life : Nat) : NoTableWord.Statement (.debugWindowOpen ww dpa len life) := noTableWord _
theorem NoTableWord.debugWindowClose (ww : Nat) : NoTableWord.Statement (.debugWindowClose ww) := noTableWord _
theorem NoTableWord.debugWindowExpiry (ww : Nat) : NoTableWord.Statement (.debugWindowExpiry ww) := noTableWord _
theorem NoTableWord.debugRead (dpa : Nat) (sensed : Option StoredLine) : NoTableWord.Statement (.debugRead dpa sensed) := noTableWord _
theorem NoTableWord.rootDecisionAdopt (req : Req) : NoTableWord.Statement (.rootDecisionAdopt req) := noTableWord _
theorem NoTableWord.rootDecisionReject (req : Req) : NoTableWord.Statement (.rootDecisionReject req) := noTableWord _
theorem NoTableWord.scrubRewrite (granule : Nat) : NoTableWord.Statement (.scrubRewrite granule) := noTableWord _
theorem NoTableWord.rebuildStep (group : Nat) (findings : List Finding) : NoTableWord.Statement (.rebuildStep group findings) := noTableWord _
theorem NoTableWord.scrubDpaPass (req : Req) (mode : Nat) (first : Nat) (len : Nat) : NoTableWord.Statement (.scrubDpaPass req mode first len) := noTableWord _
theorem NoTableWord.scrubPhysicalPass (req : Req) (mode : Nat) (first : Nat) (len : Nat) : NoTableWord.Statement (.scrubPhysicalPass req mode first len) := noTableWord _
theorem NoTableWord.scrubRow (ticket : Nat) (findings : List Finding) : NoTableWord.Statement (.scrubRow ticket findings) := noTableWord _
theorem NoTableWord.scrubCancel (ticket : Nat) : NoTableWord.Statement (.scrubCancel ticket) := noTableWord _
theorem NoTableWord.patrolRow (pt : Nat) (row : Nat) (findings : List Finding) : NoTableWord.Statement (.patrolRow pt row findings) := noTableWord _
theorem NoTableWord.fullScanComplete (torn : List Nat) (durationMs : Nat) : NoTableWord.Statement (.fullScanComplete torn durationMs) := noTableWord _
theorem NoTableWord.dataReady : NoTableWord.Statement (.dataReady) := noTableWord _
theorem NoTableWord.suspectRelease (req : Req) (first : Nat) (count : Nat) : NoTableWord.Statement (.suspectRelease req first count) := noTableWord _
theorem NoTableWord.suspectDiscard (req : Req) (first : Nat) (count : Nat) : NoTableWord.Statement (.suspectDiscard req first count) := noTableWord _
theorem NoTableWord.suspectListRead (holder : Nat) : NoTableWord.Statement (.suspectListRead holder) := noTableWord _
theorem NoTableWord.coxResetRelease (watchdog : Bool) (find : BootFind) : NoTableWord.Statement (.coxResetRelease watchdog find) := noTableWord _
theorem NoTableWord.managementReady : NoTableWord.Statement (.managementReady) := noTableWord _
theorem NoTableWord.watchdogExpiry : NoTableWord.Statement (.watchdogExpiry) := noTableWord _
theorem NoTableWord.orphanLimit : NoTableWord.Statement (.orphanLimit) := noTableWord _
theorem NoTableWord.flashProgramDone (ok : Bool) : NoTableWord.Statement (.flashProgramDone ok) := noTableWord _
theorem NoTableWord.flashEraseDone (ok : Bool) : NoTableWord.Statement (.flashEraseDone ok) := noTableWord _
theorem NoTableWord.flashSuspend : NoTableWord.Statement (.flashSuspend) := noTableWord _
theorem NoTableWord.flashResume : NoTableWord.Statement (.flashResume) := noTableWord _
theorem NoTableWord.journalCompaction : NoTableWord.Statement (.journalCompaction) := noTableWord _
theorem NoTableWord.optionsWrite (req : Req) (rollbackMin : Nat) (bpReset : Nat) (wdtBoot : Nat) (dbgLock : Bool) (t1sOff : Bool) : NoTableWord.Statement (.optionsWrite req rollbackMin bpReset wdtBoot dbgLock t1sOff) := noTableWord _
theorem NoTableWord.updateBegin (req : Req) (len : Nat) : NoTableWord.Statement (.updateBegin req len) := noTableWord _
theorem NoTableWord.imageData (offset : Nat) (data : List Byte) : NoTableWord.Statement (.imageData offset data) := noTableWord _
theorem NoTableWord.imageSegment (offset : Nat) (data : List Byte) : NoTableWord.Statement (.imageSegment offset data) := noTableWord _
theorem NoTableWord.updateCommit (req : Req) (digestOk : Bool) (signatureOk : Bool) : NoTableWord.Statement (.updateCommit req digestOk signatureOk) := noTableWord _
theorem NoTableWord.activate (req : Req) : NoTableWord.Statement (.activate req) := noTableWord _
theorem NoTableWord.trialConfirm : NoTableWord.Statement (.trialConfirm) := noTableWord _
theorem NoTableWord.pageWriteDone (verified : Bool) : NoTableWord.Statement (.pageWriteDone verified) := noTableWord _
theorem NoTableWord.operatingTimeCellWrite : NoTableWord.Statement (.operatingTimeCellWrite) := noTableWord _
theorem NoTableWord.blockProtectionWrite (value : Nat) : NoTableWord.Statement (.blockProtectionWrite value) := noTableWord _
theorem NoTableWord.configObjectWrite (req : Req) (idx : Nat) (mem : Nat) (value : List Byte) : NoTableWord.Statement (.configObjectWrite req idx mem value) := noTableWord _
theorem NoTableWord.persistWriteDeferredDone (slot : Nat) : NoTableWord.Statement (.persistWriteDeferredDone slot) := noTableWord _
theorem NoTableWord.noOperation (req : Req) : NoTableWord.Statement (.noOperation req) := noTableWord _
theorem NoTableWord.restoreDefaults (req : Req) : NoTableWord.Statement (.restoreDefaults req) := noTableWord _
theorem NoTableWord.sanitizeExtents (req : Req) (first : Nat) (count : Nat) : NoTableWord.Statement (.sanitizeExtents req first count) := noTableWord _
theorem NoTableWord.logbookWriteOut (n : Nat) : NoTableWord.Statement (.logbookWriteOut n) := noTableWord _
theorem NoTableWord.stagingLoss : NoTableWord.Statement (.stagingLoss) := noTableWord _
theorem NoTableWord.windowRead (holder : Nat) : NoTableWord.Statement (.windowRead holder) := noTableWord _
theorem NoTableWord.areaFClear (req : Req) : NoTableWord.Statement (.areaFClear req) := noTableWord _
theorem NoTableWord.snapshotDefinitionWrite (defn : Nat) (trigger : Nat) (param : Nat) (objs : List ObjRef) : NoTableWord.Statement (.snapshotDefinitionWrite defn trigger param objs) := noTableWord _
theorem NoTableWord.snapshotNow (defn : Nat) : NoTableWord.Statement (.snapshotNow defn) := noTableWord _
theorem NoTableWord.snapshotPeriodic (defn : Nat) : NoTableWord.Statement (.snapshotPeriodic defn) := noTableWord _
theorem NoTableWord.tallySample : NoTableWord.Statement (.tallySample) := noTableWord _
theorem NoTableWord.bandwidthWindowEnd : NoTableWord.Statement (.bandwidthWindowEnd) := noTableWord _
theorem NoTableWord.solicit (dst : Option WopAddr) (filter : Nat) (first : Nat) (last : Nat) : NoTableWord.Statement (.solicit dst filter first last) := noTableWord _
theorem NoTableWord.advertiseAnswerTimer : NoTableWord.Statement (.advertiseAnswerTimer) := noTableWord _
theorem NoTableWord.advertisePeriod : NoTableWord.Statement (.advertisePeriod) := noTableWord _
theorem NoTableWord.advertise (serial : Nat) (pool : Nat) (valid : Bool) : NoTableWord.Statement (.advertise serial pool valid) := noTableWord _
theorem NoTableWord.openSession (dst : WopAddr) (role : Role) (seq : Nat) (manager : Nat) (nonce : Nat) (tagOk : Bool) : NoTableWord.Statement (.openSession dst role seq manager nonce tagOk) := noTableWord _
theorem NoTableWord.close (dst : WopAddr) (sess : Nat) (seq : Nat) : NoTableWord.Statement (.close dst sess seq) := noTableWord _
theorem NoTableWord.read (dst : WopAddr) (sess : Nat) (seq : Nat) (tagOk : Bool) (idx : Nat) (mem : Nat) : NoTableWord.Statement (.read dst sess seq tagOk idx mem) := noTableWord _
theorem NoTableWord.write (dst : WopAddr) (sess : Nat) (seq : Nat) (tagOk : Bool) (idx : Nat) (mem : Nat) (value : List Byte) : NoTableWord.Statement (.write dst sess seq tagOk idx mem value) := noTableWord _
theorem NoTableWord.readMulti (dst : WopAddr) (sess : Nat) (seq : Nat) (tagOk : Bool) (items : List ObjRef) : NoTableWord.Statement (.readMulti dst sess seq tagOk items) := noTableWord _
theorem NoTableWord.bulkStart (dst : WopAddr) (sess : Nat) (seq : Nat) (tagOk : Bool) (idx : Nat) (mem : Nat) (fromModule : Bool) (total : Nat) : NoTableWord.Statement (.bulkStart dst sess seq tagOk idx mem fromModule total) := noTableWord _
theorem NoTableWord.bulkData (dst : WopAddr) (sess : Nat) (bulk : Nat) (offset : Nat) (data : List Byte) : NoTableWord.Statement (.bulkData dst sess bulk offset data) := noTableWord _
theorem NoTableWord.bulkAck (dst : WopAddr) (sess : Nat) (bulk : Nat) (next : Nat) : NoTableWord.Statement (.bulkAck dst sess bulk next) := noTableWord _
theorem NoTableWord.bulkOutOfOrderAck (bulk : Nat) : NoTableWord.Statement (.bulkOutOfOrderAck bulk) := noTableWord _
theorem NoTableWord.bulkTimeout (bulk : Nat) : NoTableWord.Statement (.bulkTimeout bulk) := noTableWord _
theorem NoTableWord.subscribe (dst : WopAddr) (sess : Nat) (seq : Nat) (tagOk : Bool) (slot : Nat) (kind : SubKind) (minMs : Nat) (idx : Nat) (mem : Nat) (mask : Nat) : NoTableWord.Statement (.subscribe dst sess seq tagOk slot kind minMs idx mem mask) := noTableWord _
theorem NoTableWord.subscriptionIntervalEnd (sess : Nat) (slot : Nat) : NoTableWord.Statement (.subscriptionIntervalEnd sess slot) := noTableWord _
theorem NoTableWord.keepalive (dst : WopAddr) (sess : Nat) (seq : Nat) (tagOk : Bool) : NoTableWord.Statement (.keepalive dst sess seq tagOk) := noTableWord _
theorem NoTableWord.strangerFrame (drop : FrameDrop) : NoTableWord.Statement (.strangerFrame drop) := noTableWord _
theorem NoTableWord.icmpv6Echo : NoTableWord.Statement (.icmpv6Echo) := noTableWord _
theorem NoTableWord.neighborDiscovery : NoTableWord.Statement (.neighborDiscovery) := noTableWord _
theorem NoTableWord.sessionOpenTimeout (sess : Nat) : NoTableWord.Statement (.sessionOpenTimeout sess) := noTableWord _
theorem NoTableWord.sessionIdleTimeout (sess : Nat) : NoTableWord.Statement (.sessionIdleTimeout sess) := noTableWord _
theorem NoTableWord.closeSession (sess : Nat) : NoTableWord.Statement (.closeSession sess) := noTableWord _
theorem NoTableWord.roleKeyWrite (sess : Nat) (role : Role) (unwrapOk : Bool) : NoTableWord.Statement (.roleKeyWrite sess role unwrapOk) := noTableWord _
theorem NoTableWord.tagFailureSecond : NoTableWord.Statement (.tagFailureSecond) := noTableWord _
theorem NoTableWord.poolAddressWrite (pool : Nat) : NoTableWord.Statement (.poolAddressWrite pool) := noTableWord _
theorem NoTableWord.plcaModeWrite (mode : Nat) : NoTableWord.Statement (.plcaModeWrite mode) := noTableWord _
theorem NoTableWord.plcaBeaconLoss : NoTableWord.Statement (.plcaBeaconLoss) := noTableWord _
theorem NoTableWord.plcaBeacon : NoTableWord.Statement (.plcaBeacon) := noTableWord _
theorem NoTableWord.t1sPathFailure (selfCheck : Bool) : NoTableWord.Statement (.t1sPathFailure selfCheck) := noTableWord _
theorem NoTableWord.mailboxReplyExpiry (head : Nat) : NoTableWord.Statement (.mailboxReplyExpiry head) := noTableWord _
theorem NoTableWord.bankCharged : NoTableWord.Statement (.bankCharged) := noTableWord _
theorem NoTableWord.haltNHigh : NoTableWord.Statement (.haltNHigh) := noTableWord _
theorem NoTableWord.rootRebuildComplete (digestEqual : Bool) (recordReads : Bool) (lostHalves : List Nat) : NoTableWord.Statement (.rootRebuildComplete digestEqual recordReads lostHalves) := noTableWord _
theorem NoTableWord.eraseMinimumRunEnd : NoTableWord.Statement (.eraseMinimumRunEnd) := noTableWord _

end Sys2Proof.Laws
end

