-- ==== Sys2Proof/Laws/State.lean ====
section
/-! SUPPORT. One lemma per field of State per update, true by unfolding the update: no later proof unfolds a record update. -/

set_option Elab.async false

namespace Sys2Proof.Machine

variable (s : State)

section
variable (f : TimeS → TimeS)
@[simp] theorem State.modTim_tim : (s.modTim f).tim = f s.tim := rfl
@[simp] theorem State.modTim_obj : (s.modTim f).obj = s.obj := rfl
@[simp] theorem State.modTim_pwr : (s.modTim f).pwr = s.pwr := rfl
@[simp] theorem State.modTim_seat : (s.modTim f).seat = s.seat := rfl
@[simp] theorem State.modTim_bank : (s.modTim f).bank = s.bank := rfl
@[simp] theorem State.modTim_thm : (s.modTim f).thm = s.thm := rfl
@[simp] theorem State.modTim_hlt : (s.modTim f).hlt = s.hlt := rfl
@[simp] theorem State.modTim_hst : (s.modTim f).hst = s.hst := rfl
@[simp] theorem State.modTim_ext : (s.modTim f).ext = s.ext := rfl
@[simp] theorem State.modTim_rdp : (s.modTim f).rdp = s.rdp := rfl
@[simp] theorem State.modTim_wb : (s.modTim f).wb = s.wb := rfl
@[simp] theorem State.modTim_med : (s.modTim f).med = s.med := rfl
@[simp] theorem State.modTim_trc : (s.modTim f).trc = s.trc := rfl
@[simp] theorem State.modTim_itg : (s.modTim f).itg = s.itg := rfl
@[simp] theorem State.modTim_scr : (s.modTim f).scr = s.scr := rfl
@[simp] theorem State.modTim_stg : (s.modTim f).stg = s.stg := rfl
@[simp] theorem State.modTim_flt : (s.modTim f).flt = s.flt := rfl
@[simp] theorem State.modTim_easy : (s.modTim f).easy = s.easy := rfl
@[simp] theorem State.modTim_str : (s.modTim f).str = s.str := rfl
@[simp] theorem State.modTim_cox : (s.modTim f).cox = s.cox := rfl
@[simp] theorem State.modTim_fls : (s.modTim f).fls = s.fls := rfl
@[simp] theorem State.modTim_img : (s.modTim f).img = s.img := rfl
@[simp] theorem State.modTim_par : (s.modTim f).par = s.par := rfl
@[simp] theorem State.modTim_log : (s.modTim f).log = s.log := rfl
@[simp] theorem State.modTim_tly : (s.modTim f).tly = s.tly := rfl
@[simp] theorem State.modTim_wop : (s.modTim f).wop = s.wop := rfl
@[simp] theorem State.modTim_out : (s.modTim f).out = s.out := rfl
@[simp] theorem State.modTim_free : (s.modTim f).free = s.free := rfl
@[simp] theorem State.modTim_pending : (s.modTim f).pending = s.pending := rfl
end

section
variable (f : ObjS → ObjS)
@[simp] theorem State.modObj_tim : (s.modObj f).tim = s.tim := rfl
@[simp] theorem State.modObj_obj : (s.modObj f).obj = f s.obj := rfl
@[simp] theorem State.modObj_pwr : (s.modObj f).pwr = s.pwr := rfl
@[simp] theorem State.modObj_seat : (s.modObj f).seat = s.seat := rfl
@[simp] theorem State.modObj_bank : (s.modObj f).bank = s.bank := rfl
@[simp] theorem State.modObj_thm : (s.modObj f).thm = s.thm := rfl
@[simp] theorem State.modObj_hlt : (s.modObj f).hlt = s.hlt := rfl
@[simp] theorem State.modObj_hst : (s.modObj f).hst = s.hst := rfl
@[simp] theorem State.modObj_ext : (s.modObj f).ext = s.ext := rfl
@[simp] theorem State.modObj_rdp : (s.modObj f).rdp = s.rdp := rfl
@[simp] theorem State.modObj_wb : (s.modObj f).wb = s.wb := rfl
@[simp] theorem State.modObj_med : (s.modObj f).med = s.med := rfl
@[simp] theorem State.modObj_trc : (s.modObj f).trc = s.trc := rfl
@[simp] theorem State.modObj_itg : (s.modObj f).itg = s.itg := rfl
@[simp] theorem State.modObj_scr : (s.modObj f).scr = s.scr := rfl
@[simp] theorem State.modObj_stg : (s.modObj f).stg = s.stg := rfl
@[simp] theorem State.modObj_flt : (s.modObj f).flt = s.flt := rfl
@[simp] theorem State.modObj_easy : (s.modObj f).easy = s.easy := rfl
@[simp] theorem State.modObj_str : (s.modObj f).str = s.str := rfl
@[simp] theorem State.modObj_cox : (s.modObj f).cox = s.cox := rfl
@[simp] theorem State.modObj_fls : (s.modObj f).fls = s.fls := rfl
@[simp] theorem State.modObj_img : (s.modObj f).img = s.img := rfl
@[simp] theorem State.modObj_par : (s.modObj f).par = s.par := rfl
@[simp] theorem State.modObj_log : (s.modObj f).log = s.log := rfl
@[simp] theorem State.modObj_tly : (s.modObj f).tly = s.tly := rfl
@[simp] theorem State.modObj_wop : (s.modObj f).wop = s.wop := rfl
@[simp] theorem State.modObj_out : (s.modObj f).out = s.out := rfl
@[simp] theorem State.modObj_free : (s.modObj f).free = s.free := rfl
@[simp] theorem State.modObj_pending : (s.modObj f).pending = s.pending := rfl
end

section
variable (f : PowerS → PowerS)
@[simp] theorem State.modPwr_tim : (s.modPwr f).tim = s.tim := rfl
@[simp] theorem State.modPwr_obj : (s.modPwr f).obj = s.obj := rfl
@[simp] theorem State.modPwr_pwr : (s.modPwr f).pwr = f s.pwr := rfl
@[simp] theorem State.modPwr_seat : (s.modPwr f).seat = s.seat := rfl
@[simp] theorem State.modPwr_bank : (s.modPwr f).bank = s.bank := rfl
@[simp] theorem State.modPwr_thm : (s.modPwr f).thm = s.thm := rfl
@[simp] theorem State.modPwr_hlt : (s.modPwr f).hlt = s.hlt := rfl
@[simp] theorem State.modPwr_hst : (s.modPwr f).hst = s.hst := rfl
@[simp] theorem State.modPwr_ext : (s.modPwr f).ext = s.ext := rfl
@[simp] theorem State.modPwr_rdp : (s.modPwr f).rdp = s.rdp := rfl
@[simp] theorem State.modPwr_wb : (s.modPwr f).wb = s.wb := rfl
@[simp] theorem State.modPwr_med : (s.modPwr f).med = s.med := rfl
@[simp] theorem State.modPwr_trc : (s.modPwr f).trc = s.trc := rfl
@[simp] theorem State.modPwr_itg : (s.modPwr f).itg = s.itg := rfl
@[simp] theorem State.modPwr_scr : (s.modPwr f).scr = s.scr := rfl
@[simp] theorem State.modPwr_stg : (s.modPwr f).stg = s.stg := rfl
@[simp] theorem State.modPwr_flt : (s.modPwr f).flt = s.flt := rfl
@[simp] theorem State.modPwr_easy : (s.modPwr f).easy = s.easy := rfl
@[simp] theorem State.modPwr_str : (s.modPwr f).str = s.str := rfl
@[simp] theorem State.modPwr_cox : (s.modPwr f).cox = s.cox := rfl
@[simp] theorem State.modPwr_fls : (s.modPwr f).fls = s.fls := rfl
@[simp] theorem State.modPwr_img : (s.modPwr f).img = s.img := rfl
@[simp] theorem State.modPwr_par : (s.modPwr f).par = s.par := rfl
@[simp] theorem State.modPwr_log : (s.modPwr f).log = s.log := rfl
@[simp] theorem State.modPwr_tly : (s.modPwr f).tly = s.tly := rfl
@[simp] theorem State.modPwr_wop : (s.modPwr f).wop = s.wop := rfl
@[simp] theorem State.modPwr_out : (s.modPwr f).out = s.out := rfl
@[simp] theorem State.modPwr_free : (s.modPwr f).free = s.free := rfl
@[simp] theorem State.modPwr_pending : (s.modPwr f).pending = s.pending := rfl
end

section
variable (f : SeatBusS → SeatBusS)
@[simp] theorem State.modSeat_tim : (s.modSeat f).tim = s.tim := rfl
@[simp] theorem State.modSeat_obj : (s.modSeat f).obj = s.obj := rfl
@[simp] theorem State.modSeat_pwr : (s.modSeat f).pwr = s.pwr := rfl
@[simp] theorem State.modSeat_seat : (s.modSeat f).seat = f s.seat := rfl
@[simp] theorem State.modSeat_bank : (s.modSeat f).bank = s.bank := rfl
@[simp] theorem State.modSeat_thm : (s.modSeat f).thm = s.thm := rfl
@[simp] theorem State.modSeat_hlt : (s.modSeat f).hlt = s.hlt := rfl
@[simp] theorem State.modSeat_hst : (s.modSeat f).hst = s.hst := rfl
@[simp] theorem State.modSeat_ext : (s.modSeat f).ext = s.ext := rfl
@[simp] theorem State.modSeat_rdp : (s.modSeat f).rdp = s.rdp := rfl
@[simp] theorem State.modSeat_wb : (s.modSeat f).wb = s.wb := rfl
@[simp] theorem State.modSeat_med : (s.modSeat f).med = s.med := rfl
@[simp] theorem State.modSeat_trc : (s.modSeat f).trc = s.trc := rfl
@[simp] theorem State.modSeat_itg : (s.modSeat f).itg = s.itg := rfl
@[simp] theorem State.modSeat_scr : (s.modSeat f).scr = s.scr := rfl
@[simp] theorem State.modSeat_stg : (s.modSeat f).stg = s.stg := rfl
@[simp] theorem State.modSeat_flt : (s.modSeat f).flt = s.flt := rfl
@[simp] theorem State.modSeat_easy : (s.modSeat f).easy = s.easy := rfl
@[simp] theorem State.modSeat_str : (s.modSeat f).str = s.str := rfl
@[simp] theorem State.modSeat_cox : (s.modSeat f).cox = s.cox := rfl
@[simp] theorem State.modSeat_fls : (s.modSeat f).fls = s.fls := rfl
@[simp] theorem State.modSeat_img : (s.modSeat f).img = s.img := rfl
@[simp] theorem State.modSeat_par : (s.modSeat f).par = s.par := rfl
@[simp] theorem State.modSeat_log : (s.modSeat f).log = s.log := rfl
@[simp] theorem State.modSeat_tly : (s.modSeat f).tly = s.tly := rfl
@[simp] theorem State.modSeat_wop : (s.modSeat f).wop = s.wop := rfl
@[simp] theorem State.modSeat_out : (s.modSeat f).out = s.out := rfl
@[simp] theorem State.modSeat_free : (s.modSeat f).free = s.free := rfl
@[simp] theorem State.modSeat_pending : (s.modSeat f).pending = s.pending := rfl
end

section
variable (f : BankS → BankS)
@[simp] theorem State.modBank_tim : (s.modBank f).tim = s.tim := rfl
@[simp] theorem State.modBank_obj : (s.modBank f).obj = s.obj := rfl
@[simp] theorem State.modBank_pwr : (s.modBank f).pwr = s.pwr := rfl
@[simp] theorem State.modBank_seat : (s.modBank f).seat = s.seat := rfl
@[simp] theorem State.modBank_bank : (s.modBank f).bank = f s.bank := rfl
@[simp] theorem State.modBank_thm : (s.modBank f).thm = s.thm := rfl
@[simp] theorem State.modBank_hlt : (s.modBank f).hlt = s.hlt := rfl
@[simp] theorem State.modBank_hst : (s.modBank f).hst = s.hst := rfl
@[simp] theorem State.modBank_ext : (s.modBank f).ext = s.ext := rfl
@[simp] theorem State.modBank_rdp : (s.modBank f).rdp = s.rdp := rfl
@[simp] theorem State.modBank_wb : (s.modBank f).wb = s.wb := rfl
@[simp] theorem State.modBank_med : (s.modBank f).med = s.med := rfl
@[simp] theorem State.modBank_trc : (s.modBank f).trc = s.trc := rfl
@[simp] theorem State.modBank_itg : (s.modBank f).itg = s.itg := rfl
@[simp] theorem State.modBank_scr : (s.modBank f).scr = s.scr := rfl
@[simp] theorem State.modBank_stg : (s.modBank f).stg = s.stg := rfl
@[simp] theorem State.modBank_flt : (s.modBank f).flt = s.flt := rfl
@[simp] theorem State.modBank_easy : (s.modBank f).easy = s.easy := rfl
@[simp] theorem State.modBank_str : (s.modBank f).str = s.str := rfl
@[simp] theorem State.modBank_cox : (s.modBank f).cox = s.cox := rfl
@[simp] theorem State.modBank_fls : (s.modBank f).fls = s.fls := rfl
@[simp] theorem State.modBank_img : (s.modBank f).img = s.img := rfl
@[simp] theorem State.modBank_par : (s.modBank f).par = s.par := rfl
@[simp] theorem State.modBank_log : (s.modBank f).log = s.log := rfl
@[simp] theorem State.modBank_tly : (s.modBank f).tly = s.tly := rfl
@[simp] theorem State.modBank_wop : (s.modBank f).wop = s.wop := rfl
@[simp] theorem State.modBank_out : (s.modBank f).out = s.out := rfl
@[simp] theorem State.modBank_free : (s.modBank f).free = s.free := rfl
@[simp] theorem State.modBank_pending : (s.modBank f).pending = s.pending := rfl
end

section
variable (f : ThermS → ThermS)
@[simp] theorem State.modThm_tim : (s.modThm f).tim = s.tim := rfl
@[simp] theorem State.modThm_obj : (s.modThm f).obj = s.obj := rfl
@[simp] theorem State.modThm_pwr : (s.modThm f).pwr = s.pwr := rfl
@[simp] theorem State.modThm_seat : (s.modThm f).seat = s.seat := rfl
@[simp] theorem State.modThm_bank : (s.modThm f).bank = s.bank := rfl
@[simp] theorem State.modThm_thm : (s.modThm f).thm = f s.thm := rfl
@[simp] theorem State.modThm_hlt : (s.modThm f).hlt = s.hlt := rfl
@[simp] theorem State.modThm_hst : (s.modThm f).hst = s.hst := rfl
@[simp] theorem State.modThm_ext : (s.modThm f).ext = s.ext := rfl
@[simp] theorem State.modThm_rdp : (s.modThm f).rdp = s.rdp := rfl
@[simp] theorem State.modThm_wb : (s.modThm f).wb = s.wb := rfl
@[simp] theorem State.modThm_med : (s.modThm f).med = s.med := rfl
@[simp] theorem State.modThm_trc : (s.modThm f).trc = s.trc := rfl
@[simp] theorem State.modThm_itg : (s.modThm f).itg = s.itg := rfl
@[simp] theorem State.modThm_scr : (s.modThm f).scr = s.scr := rfl
@[simp] theorem State.modThm_stg : (s.modThm f).stg = s.stg := rfl
@[simp] theorem State.modThm_flt : (s.modThm f).flt = s.flt := rfl
@[simp] theorem State.modThm_easy : (s.modThm f).easy = s.easy := rfl
@[simp] theorem State.modThm_str : (s.modThm f).str = s.str := rfl
@[simp] theorem State.modThm_cox : (s.modThm f).cox = s.cox := rfl
@[simp] theorem State.modThm_fls : (s.modThm f).fls = s.fls := rfl
@[simp] theorem State.modThm_img : (s.modThm f).img = s.img := rfl
@[simp] theorem State.modThm_par : (s.modThm f).par = s.par := rfl
@[simp] theorem State.modThm_log : (s.modThm f).log = s.log := rfl
@[simp] theorem State.modThm_tly : (s.modThm f).tly = s.tly := rfl
@[simp] theorem State.modThm_wop : (s.modThm f).wop = s.wop := rfl
@[simp] theorem State.modThm_out : (s.modThm f).out = s.out := rfl
@[simp] theorem State.modThm_free : (s.modThm f).free = s.free := rfl
@[simp] theorem State.modThm_pending : (s.modThm f).pending = s.pending := rfl
end

section
variable (f : HealthS → HealthS)
@[simp] theorem State.modHlt_tim : (s.modHlt f).tim = s.tim := rfl
@[simp] theorem State.modHlt_obj : (s.modHlt f).obj = s.obj := rfl
@[simp] theorem State.modHlt_pwr : (s.modHlt f).pwr = s.pwr := rfl
@[simp] theorem State.modHlt_seat : (s.modHlt f).seat = s.seat := rfl
@[simp] theorem State.modHlt_bank : (s.modHlt f).bank = s.bank := rfl
@[simp] theorem State.modHlt_thm : (s.modHlt f).thm = s.thm := rfl
@[simp] theorem State.modHlt_hlt : (s.modHlt f).hlt = f s.hlt := rfl
@[simp] theorem State.modHlt_hst : (s.modHlt f).hst = s.hst := rfl
@[simp] theorem State.modHlt_ext : (s.modHlt f).ext = s.ext := rfl
@[simp] theorem State.modHlt_rdp : (s.modHlt f).rdp = s.rdp := rfl
@[simp] theorem State.modHlt_wb : (s.modHlt f).wb = s.wb := rfl
@[simp] theorem State.modHlt_med : (s.modHlt f).med = s.med := rfl
@[simp] theorem State.modHlt_trc : (s.modHlt f).trc = s.trc := rfl
@[simp] theorem State.modHlt_itg : (s.modHlt f).itg = s.itg := rfl
@[simp] theorem State.modHlt_scr : (s.modHlt f).scr = s.scr := rfl
@[simp] theorem State.modHlt_stg : (s.modHlt f).stg = s.stg := rfl
@[simp] theorem State.modHlt_flt : (s.modHlt f).flt = s.flt := rfl
@[simp] theorem State.modHlt_easy : (s.modHlt f).easy = s.easy := rfl
@[simp] theorem State.modHlt_str : (s.modHlt f).str = s.str := rfl
@[simp] theorem State.modHlt_cox : (s.modHlt f).cox = s.cox := rfl
@[simp] theorem State.modHlt_fls : (s.modHlt f).fls = s.fls := rfl
@[simp] theorem State.modHlt_img : (s.modHlt f).img = s.img := rfl
@[simp] theorem State.modHlt_par : (s.modHlt f).par = s.par := rfl
@[simp] theorem State.modHlt_log : (s.modHlt f).log = s.log := rfl
@[simp] theorem State.modHlt_tly : (s.modHlt f).tly = s.tly := rfl
@[simp] theorem State.modHlt_wop : (s.modHlt f).wop = s.wop := rfl
@[simp] theorem State.modHlt_out : (s.modHlt f).out = s.out := rfl
@[simp] theorem State.modHlt_free : (s.modHlt f).free = s.free := rfl
@[simp] theorem State.modHlt_pending : (s.modHlt f).pending = s.pending := rfl
end

section
variable (f : HostS → HostS)
@[simp] theorem State.modHst_tim : (s.modHst f).tim = s.tim := rfl
@[simp] theorem State.modHst_obj : (s.modHst f).obj = s.obj := rfl
@[simp] theorem State.modHst_pwr : (s.modHst f).pwr = s.pwr := rfl
@[simp] theorem State.modHst_seat : (s.modHst f).seat = s.seat := rfl
@[simp] theorem State.modHst_bank : (s.modHst f).bank = s.bank := rfl
@[simp] theorem State.modHst_thm : (s.modHst f).thm = s.thm := rfl
@[simp] theorem State.modHst_hlt : (s.modHst f).hlt = s.hlt := rfl
@[simp] theorem State.modHst_hst : (s.modHst f).hst = f s.hst := rfl
@[simp] theorem State.modHst_ext : (s.modHst f).ext = s.ext := rfl
@[simp] theorem State.modHst_rdp : (s.modHst f).rdp = s.rdp := rfl
@[simp] theorem State.modHst_wb : (s.modHst f).wb = s.wb := rfl
@[simp] theorem State.modHst_med : (s.modHst f).med = s.med := rfl
@[simp] theorem State.modHst_trc : (s.modHst f).trc = s.trc := rfl
@[simp] theorem State.modHst_itg : (s.modHst f).itg = s.itg := rfl
@[simp] theorem State.modHst_scr : (s.modHst f).scr = s.scr := rfl
@[simp] theorem State.modHst_stg : (s.modHst f).stg = s.stg := rfl
@[simp] theorem State.modHst_flt : (s.modHst f).flt = s.flt := rfl
@[simp] theorem State.modHst_easy : (s.modHst f).easy = s.easy := rfl
@[simp] theorem State.modHst_str : (s.modHst f).str = s.str := rfl
@[simp] theorem State.modHst_cox : (s.modHst f).cox = s.cox := rfl
@[simp] theorem State.modHst_fls : (s.modHst f).fls = s.fls := rfl
@[simp] theorem State.modHst_img : (s.modHst f).img = s.img := rfl
@[simp] theorem State.modHst_par : (s.modHst f).par = s.par := rfl
@[simp] theorem State.modHst_log : (s.modHst f).log = s.log := rfl
@[simp] theorem State.modHst_tly : (s.modHst f).tly = s.tly := rfl
@[simp] theorem State.modHst_wop : (s.modHst f).wop = s.wop := rfl
@[simp] theorem State.modHst_out : (s.modHst f).out = s.out := rfl
@[simp] theorem State.modHst_free : (s.modHst f).free = s.free := rfl
@[simp] theorem State.modHst_pending : (s.modHst f).pending = s.pending := rfl
end

section
variable (f : ExtS → ExtS)
@[simp] theorem State.modExt_tim : (s.modExt f).tim = s.tim := rfl
@[simp] theorem State.modExt_obj : (s.modExt f).obj = s.obj := rfl
@[simp] theorem State.modExt_pwr : (s.modExt f).pwr = s.pwr := rfl
@[simp] theorem State.modExt_seat : (s.modExt f).seat = s.seat := rfl
@[simp] theorem State.modExt_bank : (s.modExt f).bank = s.bank := rfl
@[simp] theorem State.modExt_thm : (s.modExt f).thm = s.thm := rfl
@[simp] theorem State.modExt_hlt : (s.modExt f).hlt = s.hlt := rfl
@[simp] theorem State.modExt_hst : (s.modExt f).hst = s.hst := rfl
@[simp] theorem State.modExt_ext : (s.modExt f).ext = f s.ext := rfl
@[simp] theorem State.modExt_rdp : (s.modExt f).rdp = s.rdp := rfl
@[simp] theorem State.modExt_wb : (s.modExt f).wb = s.wb := rfl
@[simp] theorem State.modExt_med : (s.modExt f).med = s.med := rfl
@[simp] theorem State.modExt_trc : (s.modExt f).trc = s.trc := rfl
@[simp] theorem State.modExt_itg : (s.modExt f).itg = s.itg := rfl
@[simp] theorem State.modExt_scr : (s.modExt f).scr = s.scr := rfl
@[simp] theorem State.modExt_stg : (s.modExt f).stg = s.stg := rfl
@[simp] theorem State.modExt_flt : (s.modExt f).flt = s.flt := rfl
@[simp] theorem State.modExt_easy : (s.modExt f).easy = s.easy := rfl
@[simp] theorem State.modExt_str : (s.modExt f).str = s.str := rfl
@[simp] theorem State.modExt_cox : (s.modExt f).cox = s.cox := rfl
@[simp] theorem State.modExt_fls : (s.modExt f).fls = s.fls := rfl
@[simp] theorem State.modExt_img : (s.modExt f).img = s.img := rfl
@[simp] theorem State.modExt_par : (s.modExt f).par = s.par := rfl
@[simp] theorem State.modExt_log : (s.modExt f).log = s.log := rfl
@[simp] theorem State.modExt_tly : (s.modExt f).tly = s.tly := rfl
@[simp] theorem State.modExt_wop : (s.modExt f).wop = s.wop := rfl
@[simp] theorem State.modExt_out : (s.modExt f).out = s.out := rfl
@[simp] theorem State.modExt_free : (s.modExt f).free = s.free := rfl
@[simp] theorem State.modExt_pending : (s.modExt f).pending = s.pending := rfl
end

section
variable (f : ReadPathS → ReadPathS)
@[simp] theorem State.modRdp_tim : (s.modRdp f).tim = s.tim := rfl
@[simp] theorem State.modRdp_obj : (s.modRdp f).obj = s.obj := rfl
@[simp] theorem State.modRdp_pwr : (s.modRdp f).pwr = s.pwr := rfl
@[simp] theorem State.modRdp_seat : (s.modRdp f).seat = s.seat := rfl
@[simp] theorem State.modRdp_bank : (s.modRdp f).bank = s.bank := rfl
@[simp] theorem State.modRdp_thm : (s.modRdp f).thm = s.thm := rfl
@[simp] theorem State.modRdp_hlt : (s.modRdp f).hlt = s.hlt := rfl
@[simp] theorem State.modRdp_hst : (s.modRdp f).hst = s.hst := rfl
@[simp] theorem State.modRdp_ext : (s.modRdp f).ext = s.ext := rfl
@[simp] theorem State.modRdp_rdp : (s.modRdp f).rdp = f s.rdp := rfl
@[simp] theorem State.modRdp_wb : (s.modRdp f).wb = s.wb := rfl
@[simp] theorem State.modRdp_med : (s.modRdp f).med = s.med := rfl
@[simp] theorem State.modRdp_trc : (s.modRdp f).trc = s.trc := rfl
@[simp] theorem State.modRdp_itg : (s.modRdp f).itg = s.itg := rfl
@[simp] theorem State.modRdp_scr : (s.modRdp f).scr = s.scr := rfl
@[simp] theorem State.modRdp_stg : (s.modRdp f).stg = s.stg := rfl
@[simp] theorem State.modRdp_flt : (s.modRdp f).flt = s.flt := rfl
@[simp] theorem State.modRdp_easy : (s.modRdp f).easy = s.easy := rfl
@[simp] theorem State.modRdp_str : (s.modRdp f).str = s.str := rfl
@[simp] theorem State.modRdp_cox : (s.modRdp f).cox = s.cox := rfl
@[simp] theorem State.modRdp_fls : (s.modRdp f).fls = s.fls := rfl
@[simp] theorem State.modRdp_img : (s.modRdp f).img = s.img := rfl
@[simp] theorem State.modRdp_par : (s.modRdp f).par = s.par := rfl
@[simp] theorem State.modRdp_log : (s.modRdp f).log = s.log := rfl
@[simp] theorem State.modRdp_tly : (s.modRdp f).tly = s.tly := rfl
@[simp] theorem State.modRdp_wop : (s.modRdp f).wop = s.wop := rfl
@[simp] theorem State.modRdp_out : (s.modRdp f).out = s.out := rfl
@[simp] theorem State.modRdp_free : (s.modRdp f).free = s.free := rfl
@[simp] theorem State.modRdp_pending : (s.modRdp f).pending = s.pending := rfl
end

section
variable (f : WbS → WbS)
@[simp] theorem State.modWb_tim : (s.modWb f).tim = s.tim := rfl
@[simp] theorem State.modWb_obj : (s.modWb f).obj = s.obj := rfl
@[simp] theorem State.modWb_pwr : (s.modWb f).pwr = s.pwr := rfl
@[simp] theorem State.modWb_seat : (s.modWb f).seat = s.seat := rfl
@[simp] theorem State.modWb_bank : (s.modWb f).bank = s.bank := rfl
@[simp] theorem State.modWb_thm : (s.modWb f).thm = s.thm := rfl
@[simp] theorem State.modWb_hlt : (s.modWb f).hlt = s.hlt := rfl
@[simp] theorem State.modWb_hst : (s.modWb f).hst = s.hst := rfl
@[simp] theorem State.modWb_ext : (s.modWb f).ext = s.ext := rfl
@[simp] theorem State.modWb_rdp : (s.modWb f).rdp = s.rdp := rfl
@[simp] theorem State.modWb_wb : (s.modWb f).wb = f s.wb := rfl
@[simp] theorem State.modWb_med : (s.modWb f).med = s.med := rfl
@[simp] theorem State.modWb_trc : (s.modWb f).trc = s.trc := rfl
@[simp] theorem State.modWb_itg : (s.modWb f).itg = s.itg := rfl
@[simp] theorem State.modWb_scr : (s.modWb f).scr = s.scr := rfl
@[simp] theorem State.modWb_stg : (s.modWb f).stg = s.stg := rfl
@[simp] theorem State.modWb_flt : (s.modWb f).flt = s.flt := rfl
@[simp] theorem State.modWb_easy : (s.modWb f).easy = s.easy := rfl
@[simp] theorem State.modWb_str : (s.modWb f).str = s.str := rfl
@[simp] theorem State.modWb_cox : (s.modWb f).cox = s.cox := rfl
@[simp] theorem State.modWb_fls : (s.modWb f).fls = s.fls := rfl
@[simp] theorem State.modWb_img : (s.modWb f).img = s.img := rfl
@[simp] theorem State.modWb_par : (s.modWb f).par = s.par := rfl
@[simp] theorem State.modWb_log : (s.modWb f).log = s.log := rfl
@[simp] theorem State.modWb_tly : (s.modWb f).tly = s.tly := rfl
@[simp] theorem State.modWb_wop : (s.modWb f).wop = s.wop := rfl
@[simp] theorem State.modWb_out : (s.modWb f).out = s.out := rfl
@[simp] theorem State.modWb_free : (s.modWb f).free = s.free := rfl
@[simp] theorem State.modWb_pending : (s.modWb f).pending = s.pending := rfl
end

section
variable (f : MediaS → MediaS)
@[simp] theorem State.modMed_tim : (s.modMed f).tim = s.tim := rfl
@[simp] theorem State.modMed_obj : (s.modMed f).obj = s.obj := rfl
@[simp] theorem State.modMed_pwr : (s.modMed f).pwr = s.pwr := rfl
@[simp] theorem State.modMed_seat : (s.modMed f).seat = s.seat := rfl
@[simp] theorem State.modMed_bank : (s.modMed f).bank = s.bank := rfl
@[simp] theorem State.modMed_thm : (s.modMed f).thm = s.thm := rfl
@[simp] theorem State.modMed_hlt : (s.modMed f).hlt = s.hlt := rfl
@[simp] theorem State.modMed_hst : (s.modMed f).hst = s.hst := rfl
@[simp] theorem State.modMed_ext : (s.modMed f).ext = s.ext := rfl
@[simp] theorem State.modMed_rdp : (s.modMed f).rdp = s.rdp := rfl
@[simp] theorem State.modMed_wb : (s.modMed f).wb = s.wb := rfl
@[simp] theorem State.modMed_med : (s.modMed f).med = f s.med := rfl
@[simp] theorem State.modMed_trc : (s.modMed f).trc = s.trc := rfl
@[simp] theorem State.modMed_itg : (s.modMed f).itg = s.itg := rfl
@[simp] theorem State.modMed_scr : (s.modMed f).scr = s.scr := rfl
@[simp] theorem State.modMed_stg : (s.modMed f).stg = s.stg := rfl
@[simp] theorem State.modMed_flt : (s.modMed f).flt = s.flt := rfl
@[simp] theorem State.modMed_easy : (s.modMed f).easy = s.easy := rfl
@[simp] theorem State.modMed_str : (s.modMed f).str = s.str := rfl
@[simp] theorem State.modMed_cox : (s.modMed f).cox = s.cox := rfl
@[simp] theorem State.modMed_fls : (s.modMed f).fls = s.fls := rfl
@[simp] theorem State.modMed_img : (s.modMed f).img = s.img := rfl
@[simp] theorem State.modMed_par : (s.modMed f).par = s.par := rfl
@[simp] theorem State.modMed_log : (s.modMed f).log = s.log := rfl
@[simp] theorem State.modMed_tly : (s.modMed f).tly = s.tly := rfl
@[simp] theorem State.modMed_wop : (s.modMed f).wop = s.wop := rfl
@[simp] theorem State.modMed_out : (s.modMed f).out = s.out := rfl
@[simp] theorem State.modMed_free : (s.modMed f).free = s.free := rfl
@[simp] theorem State.modMed_pending : (s.modMed f).pending = s.pending := rfl
end

section
variable (f : TractS → TractS)
@[simp] theorem State.modTrc_tim : (s.modTrc f).tim = s.tim := rfl
@[simp] theorem State.modTrc_obj : (s.modTrc f).obj = s.obj := rfl
@[simp] theorem State.modTrc_pwr : (s.modTrc f).pwr = s.pwr := rfl
@[simp] theorem State.modTrc_seat : (s.modTrc f).seat = s.seat := rfl
@[simp] theorem State.modTrc_bank : (s.modTrc f).bank = s.bank := rfl
@[simp] theorem State.modTrc_thm : (s.modTrc f).thm = s.thm := rfl
@[simp] theorem State.modTrc_hlt : (s.modTrc f).hlt = s.hlt := rfl
@[simp] theorem State.modTrc_hst : (s.modTrc f).hst = s.hst := rfl
@[simp] theorem State.modTrc_ext : (s.modTrc f).ext = s.ext := rfl
@[simp] theorem State.modTrc_rdp : (s.modTrc f).rdp = s.rdp := rfl
@[simp] theorem State.modTrc_wb : (s.modTrc f).wb = s.wb := rfl
@[simp] theorem State.modTrc_med : (s.modTrc f).med = s.med := rfl
@[simp] theorem State.modTrc_trc : (s.modTrc f).trc = f s.trc := rfl
@[simp] theorem State.modTrc_itg : (s.modTrc f).itg = s.itg := rfl
@[simp] theorem State.modTrc_scr : (s.modTrc f).scr = s.scr := rfl
@[simp] theorem State.modTrc_stg : (s.modTrc f).stg = s.stg := rfl
@[simp] theorem State.modTrc_flt : (s.modTrc f).flt = s.flt := rfl
@[simp] theorem State.modTrc_easy : (s.modTrc f).easy = s.easy := rfl
@[simp] theorem State.modTrc_str : (s.modTrc f).str = s.str := rfl
@[simp] theorem State.modTrc_cox : (s.modTrc f).cox = s.cox := rfl
@[simp] theorem State.modTrc_fls : (s.modTrc f).fls = s.fls := rfl
@[simp] theorem State.modTrc_img : (s.modTrc f).img = s.img := rfl
@[simp] theorem State.modTrc_par : (s.modTrc f).par = s.par := rfl
@[simp] theorem State.modTrc_log : (s.modTrc f).log = s.log := rfl
@[simp] theorem State.modTrc_tly : (s.modTrc f).tly = s.tly := rfl
@[simp] theorem State.modTrc_wop : (s.modTrc f).wop = s.wop := rfl
@[simp] theorem State.modTrc_out : (s.modTrc f).out = s.out := rfl
@[simp] theorem State.modTrc_free : (s.modTrc f).free = s.free := rfl
@[simp] theorem State.modTrc_pending : (s.modTrc f).pending = s.pending := rfl
end

section
variable (f : IntegS → IntegS)
@[simp] theorem State.modItg_tim : (s.modItg f).tim = s.tim := rfl
@[simp] theorem State.modItg_obj : (s.modItg f).obj = s.obj := rfl
@[simp] theorem State.modItg_pwr : (s.modItg f).pwr = s.pwr := rfl
@[simp] theorem State.modItg_seat : (s.modItg f).seat = s.seat := rfl
@[simp] theorem State.modItg_bank : (s.modItg f).bank = s.bank := rfl
@[simp] theorem State.modItg_thm : (s.modItg f).thm = s.thm := rfl
@[simp] theorem State.modItg_hlt : (s.modItg f).hlt = s.hlt := rfl
@[simp] theorem State.modItg_hst : (s.modItg f).hst = s.hst := rfl
@[simp] theorem State.modItg_ext : (s.modItg f).ext = s.ext := rfl
@[simp] theorem State.modItg_rdp : (s.modItg f).rdp = s.rdp := rfl
@[simp] theorem State.modItg_wb : (s.modItg f).wb = s.wb := rfl
@[simp] theorem State.modItg_med : (s.modItg f).med = s.med := rfl
@[simp] theorem State.modItg_trc : (s.modItg f).trc = s.trc := rfl
@[simp] theorem State.modItg_itg : (s.modItg f).itg = f s.itg := rfl
@[simp] theorem State.modItg_scr : (s.modItg f).scr = s.scr := rfl
@[simp] theorem State.modItg_stg : (s.modItg f).stg = s.stg := rfl
@[simp] theorem State.modItg_flt : (s.modItg f).flt = s.flt := rfl
@[simp] theorem State.modItg_easy : (s.modItg f).easy = s.easy := rfl
@[simp] theorem State.modItg_str : (s.modItg f).str = s.str := rfl
@[simp] theorem State.modItg_cox : (s.modItg f).cox = s.cox := rfl
@[simp] theorem State.modItg_fls : (s.modItg f).fls = s.fls := rfl
@[simp] theorem State.modItg_img : (s.modItg f).img = s.img := rfl
@[simp] theorem State.modItg_par : (s.modItg f).par = s.par := rfl
@[simp] theorem State.modItg_log : (s.modItg f).log = s.log := rfl
@[simp] theorem State.modItg_tly : (s.modItg f).tly = s.tly := rfl
@[simp] theorem State.modItg_wop : (s.modItg f).wop = s.wop := rfl
@[simp] theorem State.modItg_out : (s.modItg f).out = s.out := rfl
@[simp] theorem State.modItg_free : (s.modItg f).free = s.free := rfl
@[simp] theorem State.modItg_pending : (s.modItg f).pending = s.pending := rfl
end

section
variable (f : ScrubS → ScrubS)
@[simp] theorem State.modScr_tim : (s.modScr f).tim = s.tim := rfl
@[simp] theorem State.modScr_obj : (s.modScr f).obj = s.obj := rfl
@[simp] theorem State.modScr_pwr : (s.modScr f).pwr = s.pwr := rfl
@[simp] theorem State.modScr_seat : (s.modScr f).seat = s.seat := rfl
@[simp] theorem State.modScr_bank : (s.modScr f).bank = s.bank := rfl
@[simp] theorem State.modScr_thm : (s.modScr f).thm = s.thm := rfl
@[simp] theorem State.modScr_hlt : (s.modScr f).hlt = s.hlt := rfl
@[simp] theorem State.modScr_hst : (s.modScr f).hst = s.hst := rfl
@[simp] theorem State.modScr_ext : (s.modScr f).ext = s.ext := rfl
@[simp] theorem State.modScr_rdp : (s.modScr f).rdp = s.rdp := rfl
@[simp] theorem State.modScr_wb : (s.modScr f).wb = s.wb := rfl
@[simp] theorem State.modScr_med : (s.modScr f).med = s.med := rfl
@[simp] theorem State.modScr_trc : (s.modScr f).trc = s.trc := rfl
@[simp] theorem State.modScr_itg : (s.modScr f).itg = s.itg := rfl
@[simp] theorem State.modScr_scr : (s.modScr f).scr = f s.scr := rfl
@[simp] theorem State.modScr_stg : (s.modScr f).stg = s.stg := rfl
@[simp] theorem State.modScr_flt : (s.modScr f).flt = s.flt := rfl
@[simp] theorem State.modScr_easy : (s.modScr f).easy = s.easy := rfl
@[simp] theorem State.modScr_str : (s.modScr f).str = s.str := rfl
@[simp] theorem State.modScr_cox : (s.modScr f).cox = s.cox := rfl
@[simp] theorem State.modScr_fls : (s.modScr f).fls = s.fls := rfl
@[simp] theorem State.modScr_img : (s.modScr f).img = s.img := rfl
@[simp] theorem State.modScr_par : (s.modScr f).par = s.par := rfl
@[simp] theorem State.modScr_log : (s.modScr f).log = s.log := rfl
@[simp] theorem State.modScr_tly : (s.modScr f).tly = s.tly := rfl
@[simp] theorem State.modScr_wop : (s.modScr f).wop = s.wop := rfl
@[simp] theorem State.modScr_out : (s.modScr f).out = s.out := rfl
@[simp] theorem State.modScr_free : (s.modScr f).free = s.free := rfl
@[simp] theorem State.modScr_pending : (s.modScr f).pending = s.pending := rfl
end

section
variable (f : StagingS → StagingS)
@[simp] theorem State.modStg_tim : (s.modStg f).tim = s.tim := rfl
@[simp] theorem State.modStg_obj : (s.modStg f).obj = s.obj := rfl
@[simp] theorem State.modStg_pwr : (s.modStg f).pwr = s.pwr := rfl
@[simp] theorem State.modStg_seat : (s.modStg f).seat = s.seat := rfl
@[simp] theorem State.modStg_bank : (s.modStg f).bank = s.bank := rfl
@[simp] theorem State.modStg_thm : (s.modStg f).thm = s.thm := rfl
@[simp] theorem State.modStg_hlt : (s.modStg f).hlt = s.hlt := rfl
@[simp] theorem State.modStg_hst : (s.modStg f).hst = s.hst := rfl
@[simp] theorem State.modStg_ext : (s.modStg f).ext = s.ext := rfl
@[simp] theorem State.modStg_rdp : (s.modStg f).rdp = s.rdp := rfl
@[simp] theorem State.modStg_wb : (s.modStg f).wb = s.wb := rfl
@[simp] theorem State.modStg_med : (s.modStg f).med = s.med := rfl
@[simp] theorem State.modStg_trc : (s.modStg f).trc = s.trc := rfl
@[simp] theorem State.modStg_itg : (s.modStg f).itg = s.itg := rfl
@[simp] theorem State.modStg_scr : (s.modStg f).scr = s.scr := rfl
@[simp] theorem State.modStg_stg : (s.modStg f).stg = f s.stg := rfl
@[simp] theorem State.modStg_flt : (s.modStg f).flt = s.flt := rfl
@[simp] theorem State.modStg_easy : (s.modStg f).easy = s.easy := rfl
@[simp] theorem State.modStg_str : (s.modStg f).str = s.str := rfl
@[simp] theorem State.modStg_cox : (s.modStg f).cox = s.cox := rfl
@[simp] theorem State.modStg_fls : (s.modStg f).fls = s.fls := rfl
@[simp] theorem State.modStg_img : (s.modStg f).img = s.img := rfl
@[simp] theorem State.modStg_par : (s.modStg f).par = s.par := rfl
@[simp] theorem State.modStg_log : (s.modStg f).log = s.log := rfl
@[simp] theorem State.modStg_tly : (s.modStg f).tly = s.tly := rfl
@[simp] theorem State.modStg_wop : (s.modStg f).wop = s.wop := rfl
@[simp] theorem State.modStg_out : (s.modStg f).out = s.out := rfl
@[simp] theorem State.modStg_free : (s.modStg f).free = s.free := rfl
@[simp] theorem State.modStg_pending : (s.modStg f).pending = s.pending := rfl
end

section
variable (f : FaultS → FaultS)
@[simp] theorem State.modFlt_tim : (s.modFlt f).tim = s.tim := rfl
@[simp] theorem State.modFlt_obj : (s.modFlt f).obj = s.obj := rfl
@[simp] theorem State.modFlt_pwr : (s.modFlt f).pwr = s.pwr := rfl
@[simp] theorem State.modFlt_seat : (s.modFlt f).seat = s.seat := rfl
@[simp] theorem State.modFlt_bank : (s.modFlt f).bank = s.bank := rfl
@[simp] theorem State.modFlt_thm : (s.modFlt f).thm = s.thm := rfl
@[simp] theorem State.modFlt_hlt : (s.modFlt f).hlt = s.hlt := rfl
@[simp] theorem State.modFlt_hst : (s.modFlt f).hst = s.hst := rfl
@[simp] theorem State.modFlt_ext : (s.modFlt f).ext = s.ext := rfl
@[simp] theorem State.modFlt_rdp : (s.modFlt f).rdp = s.rdp := rfl
@[simp] theorem State.modFlt_wb : (s.modFlt f).wb = s.wb := rfl
@[simp] theorem State.modFlt_med : (s.modFlt f).med = s.med := rfl
@[simp] theorem State.modFlt_trc : (s.modFlt f).trc = s.trc := rfl
@[simp] theorem State.modFlt_itg : (s.modFlt f).itg = s.itg := rfl
@[simp] theorem State.modFlt_scr : (s.modFlt f).scr = s.scr := rfl
@[simp] theorem State.modFlt_stg : (s.modFlt f).stg = s.stg := rfl
@[simp] theorem State.modFlt_flt : (s.modFlt f).flt = f s.flt := rfl
@[simp] theorem State.modFlt_easy : (s.modFlt f).easy = s.easy := rfl
@[simp] theorem State.modFlt_str : (s.modFlt f).str = s.str := rfl
@[simp] theorem State.modFlt_cox : (s.modFlt f).cox = s.cox := rfl
@[simp] theorem State.modFlt_fls : (s.modFlt f).fls = s.fls := rfl
@[simp] theorem State.modFlt_img : (s.modFlt f).img = s.img := rfl
@[simp] theorem State.modFlt_par : (s.modFlt f).par = s.par := rfl
@[simp] theorem State.modFlt_log : (s.modFlt f).log = s.log := rfl
@[simp] theorem State.modFlt_tly : (s.modFlt f).tly = s.tly := rfl
@[simp] theorem State.modFlt_wop : (s.modFlt f).wop = s.wop := rfl
@[simp] theorem State.modFlt_out : (s.modFlt f).out = s.out := rfl
@[simp] theorem State.modFlt_free : (s.modFlt f).free = s.free := rfl
@[simp] theorem State.modFlt_pending : (s.modFlt f).pending = s.pending := rfl
end

section
variable (f : EasyS → EasyS)
@[simp] theorem State.modEasy_tim : (s.modEasy f).tim = s.tim := rfl
@[simp] theorem State.modEasy_obj : (s.modEasy f).obj = s.obj := rfl
@[simp] theorem State.modEasy_pwr : (s.modEasy f).pwr = s.pwr := rfl
@[simp] theorem State.modEasy_seat : (s.modEasy f).seat = s.seat := rfl
@[simp] theorem State.modEasy_bank : (s.modEasy f).bank = s.bank := rfl
@[simp] theorem State.modEasy_thm : (s.modEasy f).thm = s.thm := rfl
@[simp] theorem State.modEasy_hlt : (s.modEasy f).hlt = s.hlt := rfl
@[simp] theorem State.modEasy_hst : (s.modEasy f).hst = s.hst := rfl
@[simp] theorem State.modEasy_ext : (s.modEasy f).ext = s.ext := rfl
@[simp] theorem State.modEasy_rdp : (s.modEasy f).rdp = s.rdp := rfl
@[simp] theorem State.modEasy_wb : (s.modEasy f).wb = s.wb := rfl
@[simp] theorem State.modEasy_med : (s.modEasy f).med = s.med := rfl
@[simp] theorem State.modEasy_trc : (s.modEasy f).trc = s.trc := rfl
@[simp] theorem State.modEasy_itg : (s.modEasy f).itg = s.itg := rfl
@[simp] theorem State.modEasy_scr : (s.modEasy f).scr = s.scr := rfl
@[simp] theorem State.modEasy_stg : (s.modEasy f).stg = s.stg := rfl
@[simp] theorem State.modEasy_flt : (s.modEasy f).flt = s.flt := rfl
@[simp] theorem State.modEasy_easy : (s.modEasy f).easy = f s.easy := rfl
@[simp] theorem State.modEasy_str : (s.modEasy f).str = s.str := rfl
@[simp] theorem State.modEasy_cox : (s.modEasy f).cox = s.cox := rfl
@[simp] theorem State.modEasy_fls : (s.modEasy f).fls = s.fls := rfl
@[simp] theorem State.modEasy_img : (s.modEasy f).img = s.img := rfl
@[simp] theorem State.modEasy_par : (s.modEasy f).par = s.par := rfl
@[simp] theorem State.modEasy_log : (s.modEasy f).log = s.log := rfl
@[simp] theorem State.modEasy_tly : (s.modEasy f).tly = s.tly := rfl
@[simp] theorem State.modEasy_wop : (s.modEasy f).wop = s.wop := rfl
@[simp] theorem State.modEasy_out : (s.modEasy f).out = s.out := rfl
@[simp] theorem State.modEasy_free : (s.modEasy f).free = s.free := rfl
@[simp] theorem State.modEasy_pending : (s.modEasy f).pending = s.pending := rfl
end

section
variable (f : StartS → StartS)
@[simp] theorem State.modStr_tim : (s.modStr f).tim = s.tim := rfl
@[simp] theorem State.modStr_obj : (s.modStr f).obj = s.obj := rfl
@[simp] theorem State.modStr_pwr : (s.modStr f).pwr = s.pwr := rfl
@[simp] theorem State.modStr_seat : (s.modStr f).seat = s.seat := rfl
@[simp] theorem State.modStr_bank : (s.modStr f).bank = s.bank := rfl
@[simp] theorem State.modStr_thm : (s.modStr f).thm = s.thm := rfl
@[simp] theorem State.modStr_hlt : (s.modStr f).hlt = s.hlt := rfl
@[simp] theorem State.modStr_hst : (s.modStr f).hst = s.hst := rfl
@[simp] theorem State.modStr_ext : (s.modStr f).ext = s.ext := rfl
@[simp] theorem State.modStr_rdp : (s.modStr f).rdp = s.rdp := rfl
@[simp] theorem State.modStr_wb : (s.modStr f).wb = s.wb := rfl
@[simp] theorem State.modStr_med : (s.modStr f).med = s.med := rfl
@[simp] theorem State.modStr_trc : (s.modStr f).trc = s.trc := rfl
@[simp] theorem State.modStr_itg : (s.modStr f).itg = s.itg := rfl
@[simp] theorem State.modStr_scr : (s.modStr f).scr = s.scr := rfl
@[simp] theorem State.modStr_stg : (s.modStr f).stg = s.stg := rfl
@[simp] theorem State.modStr_flt : (s.modStr f).flt = s.flt := rfl
@[simp] theorem State.modStr_easy : (s.modStr f).easy = s.easy := rfl
@[simp] theorem State.modStr_str : (s.modStr f).str = f s.str := rfl
@[simp] theorem State.modStr_cox : (s.modStr f).cox = s.cox := rfl
@[simp] theorem State.modStr_fls : (s.modStr f).fls = s.fls := rfl
@[simp] theorem State.modStr_img : (s.modStr f).img = s.img := rfl
@[simp] theorem State.modStr_par : (s.modStr f).par = s.par := rfl
@[simp] theorem State.modStr_log : (s.modStr f).log = s.log := rfl
@[simp] theorem State.modStr_tly : (s.modStr f).tly = s.tly := rfl
@[simp] theorem State.modStr_wop : (s.modStr f).wop = s.wop := rfl
@[simp] theorem State.modStr_out : (s.modStr f).out = s.out := rfl
@[simp] theorem State.modStr_free : (s.modStr f).free = s.free := rfl
@[simp] theorem State.modStr_pending : (s.modStr f).pending = s.pending := rfl
end

section
variable (f : CoxS → CoxS)
@[simp] theorem State.modCox_tim : (s.modCox f).tim = s.tim := rfl
@[simp] theorem State.modCox_obj : (s.modCox f).obj = s.obj := rfl
@[simp] theorem State.modCox_pwr : (s.modCox f).pwr = s.pwr := rfl
@[simp] theorem State.modCox_seat : (s.modCox f).seat = s.seat := rfl
@[simp] theorem State.modCox_bank : (s.modCox f).bank = s.bank := rfl
@[simp] theorem State.modCox_thm : (s.modCox f).thm = s.thm := rfl
@[simp] theorem State.modCox_hlt : (s.modCox f).hlt = s.hlt := rfl
@[simp] theorem State.modCox_hst : (s.modCox f).hst = s.hst := rfl
@[simp] theorem State.modCox_ext : (s.modCox f).ext = s.ext := rfl
@[simp] theorem State.modCox_rdp : (s.modCox f).rdp = s.rdp := rfl
@[simp] theorem State.modCox_wb : (s.modCox f).wb = s.wb := rfl
@[simp] theorem State.modCox_med : (s.modCox f).med = s.med := rfl
@[simp] theorem State.modCox_trc : (s.modCox f).trc = s.trc := rfl
@[simp] theorem State.modCox_itg : (s.modCox f).itg = s.itg := rfl
@[simp] theorem State.modCox_scr : (s.modCox f).scr = s.scr := rfl
@[simp] theorem State.modCox_stg : (s.modCox f).stg = s.stg := rfl
@[simp] theorem State.modCox_flt : (s.modCox f).flt = s.flt := rfl
@[simp] theorem State.modCox_easy : (s.modCox f).easy = s.easy := rfl
@[simp] theorem State.modCox_str : (s.modCox f).str = s.str := rfl
@[simp] theorem State.modCox_cox : (s.modCox f).cox = f s.cox := rfl
@[simp] theorem State.modCox_fls : (s.modCox f).fls = s.fls := rfl
@[simp] theorem State.modCox_img : (s.modCox f).img = s.img := rfl
@[simp] theorem State.modCox_par : (s.modCox f).par = s.par := rfl
@[simp] theorem State.modCox_log : (s.modCox f).log = s.log := rfl
@[simp] theorem State.modCox_tly : (s.modCox f).tly = s.tly := rfl
@[simp] theorem State.modCox_wop : (s.modCox f).wop = s.wop := rfl
@[simp] theorem State.modCox_out : (s.modCox f).out = s.out := rfl
@[simp] theorem State.modCox_free : (s.modCox f).free = s.free := rfl
@[simp] theorem State.modCox_pending : (s.modCox f).pending = s.pending := rfl
end

section
variable (f : FlashS → FlashS)
@[simp] theorem State.modFls_tim : (s.modFls f).tim = s.tim := rfl
@[simp] theorem State.modFls_obj : (s.modFls f).obj = s.obj := rfl
@[simp] theorem State.modFls_pwr : (s.modFls f).pwr = s.pwr := rfl
@[simp] theorem State.modFls_seat : (s.modFls f).seat = s.seat := rfl
@[simp] theorem State.modFls_bank : (s.modFls f).bank = s.bank := rfl
@[simp] theorem State.modFls_thm : (s.modFls f).thm = s.thm := rfl
@[simp] theorem State.modFls_hlt : (s.modFls f).hlt = s.hlt := rfl
@[simp] theorem State.modFls_hst : (s.modFls f).hst = s.hst := rfl
@[simp] theorem State.modFls_ext : (s.modFls f).ext = s.ext := rfl
@[simp] theorem State.modFls_rdp : (s.modFls f).rdp = s.rdp := rfl
@[simp] theorem State.modFls_wb : (s.modFls f).wb = s.wb := rfl
@[simp] theorem State.modFls_med : (s.modFls f).med = s.med := rfl
@[simp] theorem State.modFls_trc : (s.modFls f).trc = s.trc := rfl
@[simp] theorem State.modFls_itg : (s.modFls f).itg = s.itg := rfl
@[simp] theorem State.modFls_scr : (s.modFls f).scr = s.scr := rfl
@[simp] theorem State.modFls_stg : (s.modFls f).stg = s.stg := rfl
@[simp] theorem State.modFls_flt : (s.modFls f).flt = s.flt := rfl
@[simp] theorem State.modFls_easy : (s.modFls f).easy = s.easy := rfl
@[simp] theorem State.modFls_str : (s.modFls f).str = s.str := rfl
@[simp] theorem State.modFls_cox : (s.modFls f).cox = s.cox := rfl
@[simp] theorem State.modFls_fls : (s.modFls f).fls = f s.fls := rfl
@[simp] theorem State.modFls_img : (s.modFls f).img = s.img := rfl
@[simp] theorem State.modFls_par : (s.modFls f).par = s.par := rfl
@[simp] theorem State.modFls_log : (s.modFls f).log = s.log := rfl
@[simp] theorem State.modFls_tly : (s.modFls f).tly = s.tly := rfl
@[simp] theorem State.modFls_wop : (s.modFls f).wop = s.wop := rfl
@[simp] theorem State.modFls_out : (s.modFls f).out = s.out := rfl
@[simp] theorem State.modFls_free : (s.modFls f).free = s.free := rfl
@[simp] theorem State.modFls_pending : (s.modFls f).pending = s.pending := rfl
end

section
variable (f : ImagesS → ImagesS)
@[simp] theorem State.modImg_tim : (s.modImg f).tim = s.tim := rfl
@[simp] theorem State.modImg_obj : (s.modImg f).obj = s.obj := rfl
@[simp] theorem State.modImg_pwr : (s.modImg f).pwr = s.pwr := rfl
@[simp] theorem State.modImg_seat : (s.modImg f).seat = s.seat := rfl
@[simp] theorem State.modImg_bank : (s.modImg f).bank = s.bank := rfl
@[simp] theorem State.modImg_thm : (s.modImg f).thm = s.thm := rfl
@[simp] theorem State.modImg_hlt : (s.modImg f).hlt = s.hlt := rfl
@[simp] theorem State.modImg_hst : (s.modImg f).hst = s.hst := rfl
@[simp] theorem State.modImg_ext : (s.modImg f).ext = s.ext := rfl
@[simp] theorem State.modImg_rdp : (s.modImg f).rdp = s.rdp := rfl
@[simp] theorem State.modImg_wb : (s.modImg f).wb = s.wb := rfl
@[simp] theorem State.modImg_med : (s.modImg f).med = s.med := rfl
@[simp] theorem State.modImg_trc : (s.modImg f).trc = s.trc := rfl
@[simp] theorem State.modImg_itg : (s.modImg f).itg = s.itg := rfl
@[simp] theorem State.modImg_scr : (s.modImg f).scr = s.scr := rfl
@[simp] theorem State.modImg_stg : (s.modImg f).stg = s.stg := rfl
@[simp] theorem State.modImg_flt : (s.modImg f).flt = s.flt := rfl
@[simp] theorem State.modImg_easy : (s.modImg f).easy = s.easy := rfl
@[simp] theorem State.modImg_str : (s.modImg f).str = s.str := rfl
@[simp] theorem State.modImg_cox : (s.modImg f).cox = s.cox := rfl
@[simp] theorem State.modImg_fls : (s.modImg f).fls = s.fls := rfl
@[simp] theorem State.modImg_img : (s.modImg f).img = f s.img := rfl
@[simp] theorem State.modImg_par : (s.modImg f).par = s.par := rfl
@[simp] theorem State.modImg_log : (s.modImg f).log = s.log := rfl
@[simp] theorem State.modImg_tly : (s.modImg f).tly = s.tly := rfl
@[simp] theorem State.modImg_wop : (s.modImg f).wop = s.wop := rfl
@[simp] theorem State.modImg_out : (s.modImg f).out = s.out := rfl
@[simp] theorem State.modImg_free : (s.modImg f).free = s.free := rfl
@[simp] theorem State.modImg_pending : (s.modImg f).pending = s.pending := rfl
end

section
variable (f : ParamS → ParamS)
@[simp] theorem State.modPar_tim : (s.modPar f).tim = s.tim := rfl
@[simp] theorem State.modPar_obj : (s.modPar f).obj = s.obj := rfl
@[simp] theorem State.modPar_pwr : (s.modPar f).pwr = s.pwr := rfl
@[simp] theorem State.modPar_seat : (s.modPar f).seat = s.seat := rfl
@[simp] theorem State.modPar_bank : (s.modPar f).bank = s.bank := rfl
@[simp] theorem State.modPar_thm : (s.modPar f).thm = s.thm := rfl
@[simp] theorem State.modPar_hlt : (s.modPar f).hlt = s.hlt := rfl
@[simp] theorem State.modPar_hst : (s.modPar f).hst = s.hst := rfl
@[simp] theorem State.modPar_ext : (s.modPar f).ext = s.ext := rfl
@[simp] theorem State.modPar_rdp : (s.modPar f).rdp = s.rdp := rfl
@[simp] theorem State.modPar_wb : (s.modPar f).wb = s.wb := rfl
@[simp] theorem State.modPar_med : (s.modPar f).med = s.med := rfl
@[simp] theorem State.modPar_trc : (s.modPar f).trc = s.trc := rfl
@[simp] theorem State.modPar_itg : (s.modPar f).itg = s.itg := rfl
@[simp] theorem State.modPar_scr : (s.modPar f).scr = s.scr := rfl
@[simp] theorem State.modPar_stg : (s.modPar f).stg = s.stg := rfl
@[simp] theorem State.modPar_flt : (s.modPar f).flt = s.flt := rfl
@[simp] theorem State.modPar_easy : (s.modPar f).easy = s.easy := rfl
@[simp] theorem State.modPar_str : (s.modPar f).str = s.str := rfl
@[simp] theorem State.modPar_cox : (s.modPar f).cox = s.cox := rfl
@[simp] theorem State.modPar_fls : (s.modPar f).fls = s.fls := rfl
@[simp] theorem State.modPar_img : (s.modPar f).img = s.img := rfl
@[simp] theorem State.modPar_par : (s.modPar f).par = f s.par := rfl
@[simp] theorem State.modPar_log : (s.modPar f).log = s.log := rfl
@[simp] theorem State.modPar_tly : (s.modPar f).tly = s.tly := rfl
@[simp] theorem State.modPar_wop : (s.modPar f).wop = s.wop := rfl
@[simp] theorem State.modPar_out : (s.modPar f).out = s.out := rfl
@[simp] theorem State.modPar_free : (s.modPar f).free = s.free := rfl
@[simp] theorem State.modPar_pending : (s.modPar f).pending = s.pending := rfl
end

section
variable (f : LogS → LogS)
@[simp] theorem State.modLog_tim : (s.modLog f).tim = s.tim := rfl
@[simp] theorem State.modLog_obj : (s.modLog f).obj = s.obj := rfl
@[simp] theorem State.modLog_pwr : (s.modLog f).pwr = s.pwr := rfl
@[simp] theorem State.modLog_seat : (s.modLog f).seat = s.seat := rfl
@[simp] theorem State.modLog_bank : (s.modLog f).bank = s.bank := rfl
@[simp] theorem State.modLog_thm : (s.modLog f).thm = s.thm := rfl
@[simp] theorem State.modLog_hlt : (s.modLog f).hlt = s.hlt := rfl
@[simp] theorem State.modLog_hst : (s.modLog f).hst = s.hst := rfl
@[simp] theorem State.modLog_ext : (s.modLog f).ext = s.ext := rfl
@[simp] theorem State.modLog_rdp : (s.modLog f).rdp = s.rdp := rfl
@[simp] theorem State.modLog_wb : (s.modLog f).wb = s.wb := rfl
@[simp] theorem State.modLog_med : (s.modLog f).med = s.med := rfl
@[simp] theorem State.modLog_trc : (s.modLog f).trc = s.trc := rfl
@[simp] theorem State.modLog_itg : (s.modLog f).itg = s.itg := rfl
@[simp] theorem State.modLog_scr : (s.modLog f).scr = s.scr := rfl
@[simp] theorem State.modLog_stg : (s.modLog f).stg = s.stg := rfl
@[simp] theorem State.modLog_flt : (s.modLog f).flt = s.flt := rfl
@[simp] theorem State.modLog_easy : (s.modLog f).easy = s.easy := rfl
@[simp] theorem State.modLog_str : (s.modLog f).str = s.str := rfl
@[simp] theorem State.modLog_cox : (s.modLog f).cox = s.cox := rfl
@[simp] theorem State.modLog_fls : (s.modLog f).fls = s.fls := rfl
@[simp] theorem State.modLog_img : (s.modLog f).img = s.img := rfl
@[simp] theorem State.modLog_par : (s.modLog f).par = s.par := rfl
@[simp] theorem State.modLog_log : (s.modLog f).log = f s.log := rfl
@[simp] theorem State.modLog_tly : (s.modLog f).tly = s.tly := rfl
@[simp] theorem State.modLog_wop : (s.modLog f).wop = s.wop := rfl
@[simp] theorem State.modLog_out : (s.modLog f).out = s.out := rfl
@[simp] theorem State.modLog_free : (s.modLog f).free = s.free := rfl
@[simp] theorem State.modLog_pending : (s.modLog f).pending = s.pending := rfl
end

section
variable (f : TallyS → TallyS)
@[simp] theorem State.modTly_tim : (s.modTly f).tim = s.tim := rfl
@[simp] theorem State.modTly_obj : (s.modTly f).obj = s.obj := rfl
@[simp] theorem State.modTly_pwr : (s.modTly f).pwr = s.pwr := rfl
@[simp] theorem State.modTly_seat : (s.modTly f).seat = s.seat := rfl
@[simp] theorem State.modTly_bank : (s.modTly f).bank = s.bank := rfl
@[simp] theorem State.modTly_thm : (s.modTly f).thm = s.thm := rfl
@[simp] theorem State.modTly_hlt : (s.modTly f).hlt = s.hlt := rfl
@[simp] theorem State.modTly_hst : (s.modTly f).hst = s.hst := rfl
@[simp] theorem State.modTly_ext : (s.modTly f).ext = s.ext := rfl
@[simp] theorem State.modTly_rdp : (s.modTly f).rdp = s.rdp := rfl
@[simp] theorem State.modTly_wb : (s.modTly f).wb = s.wb := rfl
@[simp] theorem State.modTly_med : (s.modTly f).med = s.med := rfl
@[simp] theorem State.modTly_trc : (s.modTly f).trc = s.trc := rfl
@[simp] theorem State.modTly_itg : (s.modTly f).itg = s.itg := rfl
@[simp] theorem State.modTly_scr : (s.modTly f).scr = s.scr := rfl
@[simp] theorem State.modTly_stg : (s.modTly f).stg = s.stg := rfl
@[simp] theorem State.modTly_flt : (s.modTly f).flt = s.flt := rfl
@[simp] theorem State.modTly_easy : (s.modTly f).easy = s.easy := rfl
@[simp] theorem State.modTly_str : (s.modTly f).str = s.str := rfl
@[simp] theorem State.modTly_cox : (s.modTly f).cox = s.cox := rfl
@[simp] theorem State.modTly_fls : (s.modTly f).fls = s.fls := rfl
@[simp] theorem State.modTly_img : (s.modTly f).img = s.img := rfl
@[simp] theorem State.modTly_par : (s.modTly f).par = s.par := rfl
@[simp] theorem State.modTly_log : (s.modTly f).log = s.log := rfl
@[simp] theorem State.modTly_tly : (s.modTly f).tly = f s.tly := rfl
@[simp] theorem State.modTly_wop : (s.modTly f).wop = s.wop := rfl
@[simp] theorem State.modTly_out : (s.modTly f).out = s.out := rfl
@[simp] theorem State.modTly_free : (s.modTly f).free = s.free := rfl
@[simp] theorem State.modTly_pending : (s.modTly f).pending = s.pending := rfl
end

section
variable (f : WopS → WopS)
@[simp] theorem State.modWop_tim : (s.modWop f).tim = s.tim := rfl
@[simp] theorem State.modWop_obj : (s.modWop f).obj = s.obj := rfl
@[simp] theorem State.modWop_pwr : (s.modWop f).pwr = s.pwr := rfl
@[simp] theorem State.modWop_seat : (s.modWop f).seat = s.seat := rfl
@[simp] theorem State.modWop_bank : (s.modWop f).bank = s.bank := rfl
@[simp] theorem State.modWop_thm : (s.modWop f).thm = s.thm := rfl
@[simp] theorem State.modWop_hlt : (s.modWop f).hlt = s.hlt := rfl
@[simp] theorem State.modWop_hst : (s.modWop f).hst = s.hst := rfl
@[simp] theorem State.modWop_ext : (s.modWop f).ext = s.ext := rfl
@[simp] theorem State.modWop_rdp : (s.modWop f).rdp = s.rdp := rfl
@[simp] theorem State.modWop_wb : (s.modWop f).wb = s.wb := rfl
@[simp] theorem State.modWop_med : (s.modWop f).med = s.med := rfl
@[simp] theorem State.modWop_trc : (s.modWop f).trc = s.trc := rfl
@[simp] theorem State.modWop_itg : (s.modWop f).itg = s.itg := rfl
@[simp] theorem State.modWop_scr : (s.modWop f).scr = s.scr := rfl
@[simp] theorem State.modWop_stg : (s.modWop f).stg = s.stg := rfl
@[simp] theorem State.modWop_flt : (s.modWop f).flt = s.flt := rfl
@[simp] theorem State.modWop_easy : (s.modWop f).easy = s.easy := rfl
@[simp] theorem State.modWop_str : (s.modWop f).str = s.str := rfl
@[simp] theorem State.modWop_cox : (s.modWop f).cox = s.cox := rfl
@[simp] theorem State.modWop_fls : (s.modWop f).fls = s.fls := rfl
@[simp] theorem State.modWop_img : (s.modWop f).img = s.img := rfl
@[simp] theorem State.modWop_par : (s.modWop f).par = s.par := rfl
@[simp] theorem State.modWop_log : (s.modWop f).log = s.log := rfl
@[simp] theorem State.modWop_tly : (s.modWop f).tly = s.tly := rfl
@[simp] theorem State.modWop_wop : (s.modWop f).wop = f s.wop := rfl
@[simp] theorem State.modWop_out : (s.modWop f).out = s.out := rfl
@[simp] theorem State.modWop_free : (s.modWop f).free = s.free := rfl
@[simp] theorem State.modWop_pending : (s.modWop f).pending = s.pending := rfl
end

section
variable (f : List Out → List Out)
@[simp] theorem State.modOut_tim : (s.modOut f).tim = s.tim := rfl
@[simp] theorem State.modOut_obj : (s.modOut f).obj = s.obj := rfl
@[simp] theorem State.modOut_pwr : (s.modOut f).pwr = s.pwr := rfl
@[simp] theorem State.modOut_seat : (s.modOut f).seat = s.seat := rfl
@[simp] theorem State.modOut_bank : (s.modOut f).bank = s.bank := rfl
@[simp] theorem State.modOut_thm : (s.modOut f).thm = s.thm := rfl
@[simp] theorem State.modOut_hlt : (s.modOut f).hlt = s.hlt := rfl
@[simp] theorem State.modOut_hst : (s.modOut f).hst = s.hst := rfl
@[simp] theorem State.modOut_ext : (s.modOut f).ext = s.ext := rfl
@[simp] theorem State.modOut_rdp : (s.modOut f).rdp = s.rdp := rfl
@[simp] theorem State.modOut_wb : (s.modOut f).wb = s.wb := rfl
@[simp] theorem State.modOut_med : (s.modOut f).med = s.med := rfl
@[simp] theorem State.modOut_trc : (s.modOut f).trc = s.trc := rfl
@[simp] theorem State.modOut_itg : (s.modOut f).itg = s.itg := rfl
@[simp] theorem State.modOut_scr : (s.modOut f).scr = s.scr := rfl
@[simp] theorem State.modOut_stg : (s.modOut f).stg = s.stg := rfl
@[simp] theorem State.modOut_flt : (s.modOut f).flt = s.flt := rfl
@[simp] theorem State.modOut_easy : (s.modOut f).easy = s.easy := rfl
@[simp] theorem State.modOut_str : (s.modOut f).str = s.str := rfl
@[simp] theorem State.modOut_cox : (s.modOut f).cox = s.cox := rfl
@[simp] theorem State.modOut_fls : (s.modOut f).fls = s.fls := rfl
@[simp] theorem State.modOut_img : (s.modOut f).img = s.img := rfl
@[simp] theorem State.modOut_par : (s.modOut f).par = s.par := rfl
@[simp] theorem State.modOut_log : (s.modOut f).log = s.log := rfl
@[simp] theorem State.modOut_tly : (s.modOut f).tly = s.tly := rfl
@[simp] theorem State.modOut_wop : (s.modOut f).wop = s.wop := rfl
@[simp] theorem State.modOut_out : (s.modOut f).out = f s.out := rfl
@[simp] theorem State.modOut_free : (s.modOut f).free = s.free := rfl
@[simp] theorem State.modOut_pending : (s.modOut f).pending = s.pending := rfl
end

section
variable (f : Nat → Nat)
@[simp] theorem State.modFree_tim : (s.modFree f).tim = s.tim := rfl
@[simp] theorem State.modFree_obj : (s.modFree f).obj = s.obj := rfl
@[simp] theorem State.modFree_pwr : (s.modFree f).pwr = s.pwr := rfl
@[simp] theorem State.modFree_seat : (s.modFree f).seat = s.seat := rfl
@[simp] theorem State.modFree_bank : (s.modFree f).bank = s.bank := rfl
@[simp] theorem State.modFree_thm : (s.modFree f).thm = s.thm := rfl
@[simp] theorem State.modFree_hlt : (s.modFree f).hlt = s.hlt := rfl
@[simp] theorem State.modFree_hst : (s.modFree f).hst = s.hst := rfl
@[simp] theorem State.modFree_ext : (s.modFree f).ext = s.ext := rfl
@[simp] theorem State.modFree_rdp : (s.modFree f).rdp = s.rdp := rfl
@[simp] theorem State.modFree_wb : (s.modFree f).wb = s.wb := rfl
@[simp] theorem State.modFree_med : (s.modFree f).med = s.med := rfl
@[simp] theorem State.modFree_trc : (s.modFree f).trc = s.trc := rfl
@[simp] theorem State.modFree_itg : (s.modFree f).itg = s.itg := rfl
@[simp] theorem State.modFree_scr : (s.modFree f).scr = s.scr := rfl
@[simp] theorem State.modFree_stg : (s.modFree f).stg = s.stg := rfl
@[simp] theorem State.modFree_flt : (s.modFree f).flt = s.flt := rfl
@[simp] theorem State.modFree_easy : (s.modFree f).easy = s.easy := rfl
@[simp] theorem State.modFree_str : (s.modFree f).str = s.str := rfl
@[simp] theorem State.modFree_cox : (s.modFree f).cox = s.cox := rfl
@[simp] theorem State.modFree_fls : (s.modFree f).fls = s.fls := rfl
@[simp] theorem State.modFree_img : (s.modFree f).img = s.img := rfl
@[simp] theorem State.modFree_par : (s.modFree f).par = s.par := rfl
@[simp] theorem State.modFree_log : (s.modFree f).log = s.log := rfl
@[simp] theorem State.modFree_tly : (s.modFree f).tly = s.tly := rfl
@[simp] theorem State.modFree_wop : (s.modFree f).wop = s.wop := rfl
@[simp] theorem State.modFree_out : (s.modFree f).out = s.out := rfl
@[simp] theorem State.modFree_free : (s.modFree f).free = f s.free := rfl
@[simp] theorem State.modFree_pending : (s.modFree f).pending = s.pending := rfl
end

section
variable (f : List Instr → List Instr)
@[simp] theorem State.modPending_tim : (s.modPending f).tim = s.tim := rfl
@[simp] theorem State.modPending_obj : (s.modPending f).obj = s.obj := rfl
@[simp] theorem State.modPending_pwr : (s.modPending f).pwr = s.pwr := rfl
@[simp] theorem State.modPending_seat : (s.modPending f).seat = s.seat := rfl
@[simp] theorem State.modPending_bank : (s.modPending f).bank = s.bank := rfl
@[simp] theorem State.modPending_thm : (s.modPending f).thm = s.thm := rfl
@[simp] theorem State.modPending_hlt : (s.modPending f).hlt = s.hlt := rfl
@[simp] theorem State.modPending_hst : (s.modPending f).hst = s.hst := rfl
@[simp] theorem State.modPending_ext : (s.modPending f).ext = s.ext := rfl
@[simp] theorem State.modPending_rdp : (s.modPending f).rdp = s.rdp := rfl
@[simp] theorem State.modPending_wb : (s.modPending f).wb = s.wb := rfl
@[simp] theorem State.modPending_med : (s.modPending f).med = s.med := rfl
@[simp] theorem State.modPending_trc : (s.modPending f).trc = s.trc := rfl
@[simp] theorem State.modPending_itg : (s.modPending f).itg = s.itg := rfl
@[simp] theorem State.modPending_scr : (s.modPending f).scr = s.scr := rfl
@[simp] theorem State.modPending_stg : (s.modPending f).stg = s.stg := rfl
@[simp] theorem State.modPending_flt : (s.modPending f).flt = s.flt := rfl
@[simp] theorem State.modPending_easy : (s.modPending f).easy = s.easy := rfl
@[simp] theorem State.modPending_str : (s.modPending f).str = s.str := rfl
@[simp] theorem State.modPending_cox : (s.modPending f).cox = s.cox := rfl
@[simp] theorem State.modPending_fls : (s.modPending f).fls = s.fls := rfl
@[simp] theorem State.modPending_img : (s.modPending f).img = s.img := rfl
@[simp] theorem State.modPending_par : (s.modPending f).par = s.par := rfl
@[simp] theorem State.modPending_log : (s.modPending f).log = s.log := rfl
@[simp] theorem State.modPending_tly : (s.modPending f).tly = s.tly := rfl
@[simp] theorem State.modPending_wop : (s.modPending f).wop = s.wop := rfl
@[simp] theorem State.modPending_out : (s.modPending f).out = s.out := rfl
@[simp] theorem State.modPending_free : (s.modPending f).free = s.free := rfl
@[simp] theorem State.modPending_pending : (s.modPending f).pending = f s.pending := rfl
end

end Sys2Proof.Machine
end

