-- ==== Sys2Proof/Laws/Tab.lean ====
section
/-! SUPPORT. Reading a sparse table after writing it, and that every write keeps its canonical form. -/

set_option Elab.async false

namespace Sys2Proof.Machine

variable {α : Type}

theorem Tab.get_insert_same (d : Nat → α) (t : Tab α) (k : Nat) (v : α) : Tab.get d (Tab.insert t k v) k = v := by
  induction t with
  | nil => simp [Tab.insert, Tab.get]
  | cons e r ih =>
    obtain ⟨j, w⟩ := e
    unfold Tab.insert
    split
    · simp [Tab.get]
    · split
      · simp [Tab.get]
      · simp [Tab.get, *]

theorem Tab.get_erase_same (d : Nat → α) (t : Tab α) (k : Nat) : Tab.get d (Tab.erase t k) k = d k := by
  induction t with
  | nil => rfl
  | cons e r ih =>
    obtain ⟨j, w⟩ := e
    unfold Tab.erase
    split
    · exact ih
    · simp [Tab.get, *]

variable [DecidableEq α]

@[simp] theorem Tab.get_put_same (d : Nat → α) (t : Tab α) (k : Nat) (v : α) : Tab.get d (Tab.put d t k v) k = v := by
  unfold Tab.put
  split
  · rw [Tab.get_erase_same]; symm; assumption
  · exact Tab.get_insert_same d t k v

@[simp] theorem Tab.rd_set_same (d : α) (t : Tab α) (k : Nat) (v : α) : Tab.rd d (Tab.set d t k v) k = v :=
  Tab.get_put_same _ t k v

@[simp] theorem Tab.rd_mod_same (d : α) (t : Tab α) (k : Nat) (f : α → α) : Tab.rd d (Tab.mod d t k f) k = f (Tab.rd d t k) :=
  Tab.rd_set_same d t k _

omit [DecidableEq α] in
theorem Tab.get_insert_ne (d : Nat → α) (t : Tab α) {j k : Nat} (v : α) (h : j ≠ k) :
    Tab.get d (Tab.insert t k v) j = Tab.get d t j := by
  induction t with
  | nil =>
    simp only [Tab.insert, Tab.get, h.symm, if_false]
    split <;> rfl
  | cons e r ih =>
    obtain ⟨i, w⟩ := e
    unfold Tab.insert
    by_cases h1 : i = k
    · subst h1
      simp [Tab.get, h.symm]
    · by_cases h2 : k < i
      · simp only [h1, h2, if_false, if_true, Tab.get, h.symm]
        by_cases h3 : j < k
        · simp [h3, show ¬ i = j by omega, show j < i by omega]
        · simp [h3]
      · simp only [h1, h2, if_false, Tab.get, ih]

/-- In the canonical form a key below every key of the table reads its default. -/
theorem Tab.get_below (d : Nat → α) (t : Tab α) {lo k : Nat} (h : Tab.wfFrom d lo t = true) (hk : k < lo) : Tab.get d t k = d k := by
  cases t with
  | nil => rfl
  | cons e r =>
    obtain ⟨i, w⟩ := e
    simp only [Tab.wfFrom, Bool.and_eq_true, decide_eq_true_eq] at h
    simp only [Tab.get]
    rw [if_neg (by omega), if_pos (by omega)]

theorem Tab.wfFrom_mono (d : Nat → α) (t : Tab α) {lo lo' : Nat} (h : Tab.wfFrom d lo t = true) (hk : lo' ≤ lo) :
    Tab.wfFrom d lo' t = true := by
  cases t with
  | nil => rfl
  | cons e r =>
    simp only [Tab.wfFrom, Bool.and_eq_true, decide_eq_true_eq] at h ⊢
    exact ⟨⟨by omega, h.1.2⟩, h.2⟩

theorem Tab.wfFrom_erase (d : Nat → α) (t : Tab α) {lo k : Nat} (h : Tab.wfFrom d lo t = true) : Tab.wfFrom d lo (Tab.erase t k) = true := by
  induction t generalizing lo with
  | nil => rfl
  | cons e r ih =>
    obtain ⟨i, w⟩ := e
    simp only [Tab.wfFrom, Bool.and_eq_true, decide_eq_true_eq] at h
    unfold Tab.erase
    split
    · exact Tab.wfFrom_mono d _ (ih h.2) (by omega)
    · simp only [Tab.wfFrom, Bool.and_eq_true, decide_eq_true_eq]
      exact ⟨h.1, ih h.2⟩

theorem Tab.get_erase_ne (d : Nat → α) (t : Tab α) {lo j k : Nat} (h : j ≠ k) (w : Tab.wfFrom d lo t = true) :
    Tab.get d (Tab.erase t k) j = Tab.get d t j := by
  induction t generalizing lo with
  | nil => rfl
  | cons e r ih =>
    obtain ⟨i, v⟩ := e
    simp only [Tab.wfFrom, Bool.and_eq_true, decide_eq_true_eq] at w
    unfold Tab.erase
    split
    · subst_vars
      rw [ih w.2]
      simp only [Tab.get, h.symm, if_false]
      split
      · exact Tab.get_below d r w.2 (by omega)
      · rfl
    · simp only [Tab.get, ih w.2]

/-- A write leaves every other key of a table in canonical form alone. -/
theorem Tab.get_put_ne (d : Nat → α) (t : Tab α) {j k : Nat} (v : α) (h : j ≠ k) (w : Tab.wf d t = true) :
    Tab.get d (Tab.put d t k v) j = Tab.get d t j := by
  unfold Tab.put
  split
  · exact Tab.get_erase_ne d t h w
  · exact Tab.get_insert_ne d t v h

theorem Tab.wfFrom_insert (d : Nat → α) (t : Tab α) {lo k : Nat} (v : α) (hv : v ≠ d k) (hk : lo ≤ k) (h : Tab.wfFrom d lo t = true) :
    Tab.wfFrom d lo (Tab.insert t k v) = true := by
  induction t generalizing lo with
  | nil => simp [Tab.insert, Tab.wfFrom, hv, hk]
  | cons e r ih =>
    obtain ⟨i, w⟩ := e
    simp only [Tab.wfFrom, Bool.and_eq_true, decide_eq_true_eq] at h
    unfold Tab.insert
    split
    · subst_vars
      simp only [Tab.wfFrom, Bool.and_eq_true, decide_eq_true_eq]
      exact ⟨⟨hk, hv⟩, h.2⟩
    · split
      · simp only [Tab.wfFrom, Bool.and_eq_true, decide_eq_true_eq]
        exact ⟨⟨hk, hv⟩, ⟨by omega, h.1.2⟩, h.2⟩
      · simp only [Tab.wfFrom, Bool.and_eq_true, decide_eq_true_eq]
        exact ⟨h.1, ih (by omega) h.2⟩

/-- Every write of a table keeps its canonical form. -/
theorem Tab.put_wf (d : Nat → α) (t : Tab α) (k : Nat) (v : α) (h : Tab.wf d t = true) : Tab.wf d (Tab.put d t k v) = true := by
  unfold Tab.put
  split
  · exact Tab.wfFrom_erase d t h
  · exact Tab.wfFrom_insert d t v ‹_› (Nat.zero_le _) h

theorem Tab.set_wf (d : α) (t : Tab α) (k : Nat) (v : α) (h : Tab.wf (fun _ => d) t = true) : Tab.wf (fun _ => d) (Tab.set d t k v) = true :=
  Tab.put_wf _ t k v h

theorem Tab.mod_wf (d : α) (t : Tab α) (k : Nat) (f : α → α) (h : Tab.wf (fun _ => d) t = true) :
    Tab.wf (fun _ => d) (Tab.mod d t k f) = true :=
  Tab.set_wf d t k _ h

theorem Tab.erase_wf (d : Nat → α) (t : Tab α) (k : Nat) (h : Tab.wf d t = true) : Tab.wf d (Tab.erase t k) = true :=
  Tab.wfFrom_erase d t h

theorem Tab.wf_nil (d : Nat → α) : Tab.wf d [] = true := rfl

theorem Tab.wfFrom_filterMap (d : Nat → α) (f : Nat → α → Option α) (hf : ∀ k v w, f k v = some w → w ≠ d k) (t : Tab α) {lo : Nat}
    (h : Tab.wfFrom d lo t = true) : Tab.wfFrom d lo (t.filterMap fun e => (f e.1 e.2).map fun w => (e.1, w)) = true := by
  induction t generalizing lo with
  | nil => rfl
  | cons e r ih =>
    obtain ⟨i, v⟩ := e
    simp only [Tab.wfFrom, Bool.and_eq_true, decide_eq_true_eq] at h
    simp only [List.filterMap_cons]
    cases e : f i v with
    | none => exact Tab.wfFrom_mono d _ (ih h.2) (by omega)
    | some w =>
      simp only [Option.map_some, Tab.wfFrom, Bool.and_eq_true, decide_eq_true_eq]
      exact ⟨⟨h.1.1, hf i v w e⟩, ih h.2⟩

theorem Tab.remap_wf (d : α) (f : Nat → α → α) (t : Tab α) (h : Tab.wf (fun _ => d) t = true) :
    Tab.wf (fun _ => d) (Tab.remap d f t) = true := by
  have := Tab.wfFrom_filterMap (fun _ => d) (fun k v => if f k v = d then none else some (f k v))
    (by intro k v w h; split at h <;> simp_all) t h
  refine Eq.trans ?_ this
  unfold Tab.remap Tab.wf
  congr 2
  funext e
  split <;> rfl

theorem Tab.filter_wf (d : Nat → α) (p : Nat × α → Bool) (t : Tab α) (h : Tab.wf d t = true) : Tab.wf d (t.filter p) = true := by
  unfold Tab.wf at *
  generalize 0 = lo at *
  induction t generalizing lo with
  | nil => rfl
  | cons e r ih =>
    obtain ⟨i, v⟩ := e
    simp only [Tab.wfFrom, Bool.and_eq_true, decide_eq_true_eq] at h
    rw [List.filter_cons]
    split
    · simp only [Tab.wfFrom, Bool.and_eq_true, decide_eq_true_eq]
      exact ⟨h.1, ih _ h.2⟩
    · exact Tab.wfFrom_mono d _ (ih _ h.2) (by omega)

omit [DecidableEq α] in
/-- A fold that keeps a property of its accumulator. -/
theorem foldl_keeps {β γ : Type} {p : β → Prop} {f : β → γ → β} (h : ∀ b c, p b → p (f b c)) {b : β} (hb : p b) (l : List γ) : p (l.foldl f b) := by
  induction l generalizing b with
  | nil => exact hb
  | cons c r ih => exact ih (h b c hb)

theorem Tab.foldl_set_wf {γ : Type} (d : α) (key : γ → Nat) (val : γ → α) (t : Tab α) (l : List γ) (h : Tab.wf (fun _ => d) t = true) :
    Tab.wf (fun _ => d) (l.foldl (fun acc c => Tab.set d acc (key c) (val c)) t) = true :=
  foldl_keeps (p := fun t => Tab.wf (fun _ => d) t = true) (fun b c hb => Tab.set_wf d b (key c) (val c) hb) h l

theorem Tab.foldl_put_wf {γ : Type} (d : Nat → α) (key : γ → Nat) (val : γ → α) (t : Tab α) (l : List γ) (h : Tab.wf d t = true) :
    Tab.wf d (l.foldl (fun acc c => Tab.put d acc (key c) (val c)) t) = true :=
  foldl_keeps (p := fun t => Tab.wf d t = true) (fun b c hb => Tab.put_wf d b (key c) (val c) hb) h l

theorem Tab.foldl_mod_wf {γ : Type} (d : α) (key : γ → Nat) (f : γ → α → α) (t : Tab α) (l : List γ) (h : Tab.wf (fun _ => d) t = true) :
    Tab.wf (fun _ => d) (l.foldl (fun acc c => Tab.mod d acc (key c) (f c)) t) = true :=
  foldl_keeps (p := fun t => Tab.wf (fun _ => d) t = true) (fun b c hb => Tab.mod_wf d b (key c) (f c) hb) h l

end Sys2Proof.Machine
end

