-- ==== Sys2Proof/Laws/Steady.lean ====
section
/-! SUPPORT. What every operation and every command leaves true: tables stay canonical, what has left the module stays sent, free values
are never drawn twice, the fault queue never passes its 256 places, the dirty-shutdown count never falls. -/

set_option Elab.async false

namespace Sys2Proof.Machine

/-- What holds of the state after an operation, seen from a state before it. -/
structure Steady (s u : State) : Prop where
  canonical : s.canonical = true → u.canonical = true
  out : s.out <+: u.out
  free : s.free ≤ u.free
  queue : s.flt.queue.length ≤ 256 → u.flt.queue.length ≤ 256
  dirty : s.wb.dirtyCount ≤ u.wb.dirtyCount

/-- An outcome that answers a next state answers a steady one. -/
def SteadyR (s : State) (r : Res) : Prop := ∀ t, r = .next t → Steady s t

theorem Steady.refl (s : State) : Steady s s := ⟨id, List.prefix_refl _, Nat.le_refl _, id, Nat.le_refl _⟩

theorem SteadyR.next {s t : State} (h : Steady s t) : SteadyR s (.next t) := by
  intro u e; cases e; exact h

theorem steady_ite {s a b : State} {c : Prop} {d : Decidable c} (h : Steady s a) (k : Steady s b) :
    Steady s (if c then a else b) := by
  split <;> assumption

theorem steady_ite_snd {α : Type} {s : State} {a b : α × State} {c : Prop} {d : Decidable c} (h : Steady s a.2) (k : Steady s b.2) :
    Steady s (if c then a else b).2 := by
  split <;> assumption

theorem steady_ite_acc {s : State} {a b : Acc} {c : Prop} {d : Decidable c} (h : Steady s a.2.2) (k : Steady s b.2.2) :
    Steady s (if c then a else b).2.2 := by
  split <;> assumption

theorem steadyR_ite {s : State} {a b : Res} {c : Prop} {d : Decidable c} (h : SteadyR s a) (k : SteadyR s b) :
    SteadyR s (if c then a else b) := by
  split <;> assumption

theorem id_steady {s t : State} (h : Steady s t) : Steady s (id t) := h

theorem steady_snd_of_eq {α : Type} {s t : State} {p : α × State} {a : α} (e : p = (a, t)) (h : Steady s p.2) : Steady s t := by
  rw [e] at h; exact h

theorem forEach_steady {α : Type} {s u : State} {f : α → State → State} (h : ∀ a v, Steady s v → Steady s (f a v))
    (k : Steady s u) (as : List α) : Steady s (forEach as f u) := by
  induction as generalizing u with
  | nil => exact k
  | cons a r ih => exact ih (h a u k)

theorem State.when_steady {s u : State} {f : State → State} (h : Steady s u → Steady s (f u)) (k : Steady s u) (c : Bool) :
    Steady s (u.when c f) := by
  unfold State.when; split
  · exact h k
  · exact k

theorem Res.stateOr_steady {s u : State} {r : Res} (k : Steady s u) (h : SteadyR s r) : Steady s (r.stateOr u) := by
  unfold Res.stateOr; split
  · exact h _ rfl
  all_goals exact k

theorem State.modTim_steady {s u : State} {f : TimeS → TimeS} (k : Steady s u) : Steady s (u.modTim f) := by
  refine ⟨fun c => ?_, k.out, k.free, k.queue, k.dirty⟩
  exact k.canonical c

theorem State.modObj_steady {s u : State} {f : ObjS → ObjS} (h : ∀ x, x.canonical = true → (f x).canonical = true) (k : Steady s u) : Steady s (u.modObj f) := by
  refine ⟨fun c => ?_, k.out, k.free, k.queue, k.dirty⟩
  have := k.canonical c
  simp only [State.canonical, State.modObj, Bool.and_eq_true] at this ⊢
  simp only [this, h _, and_self]

theorem State.modPwr_steady {s u : State} {f : PowerS → PowerS} (h : ∀ x, x.canonical = true → (f x).canonical = true) (k : Steady s u) : Steady s (u.modPwr f) := by
  refine ⟨fun c => ?_, k.out, k.free, k.queue, k.dirty⟩
  have := k.canonical c
  simp only [State.canonical, State.modPwr, Bool.and_eq_true] at this ⊢
  simp only [this, h _, and_self]

theorem State.modSeat_steady {s u : State} {f : SeatBusS → SeatBusS} (h : ∀ x, x.canonical = true → (f x).canonical = true) (k : Steady s u) : Steady s (u.modSeat f) := by
  refine ⟨fun c => ?_, k.out, k.free, k.queue, k.dirty⟩
  have := k.canonical c
  simp only [State.canonical, State.modSeat, Bool.and_eq_true] at this ⊢
  simp only [this, h _, and_self]

theorem State.modBank_steady {s u : State} {f : BankS → BankS} (k : Steady s u) : Steady s (u.modBank f) := by
  refine ⟨fun c => ?_, k.out, k.free, k.queue, k.dirty⟩
  exact k.canonical c

theorem State.modThm_steady {s u : State} {f : ThermS → ThermS} (h : ∀ x, x.canonical = true → (f x).canonical = true) (k : Steady s u) : Steady s (u.modThm f) := by
  refine ⟨fun c => ?_, k.out, k.free, k.queue, k.dirty⟩
  have := k.canonical c
  simp only [State.canonical, State.modThm, Bool.and_eq_true] at this ⊢
  simp only [this, h _, and_self]

theorem State.modHlt_steady {s u : State} {f : HealthS → HealthS} (k : Steady s u) : Steady s (u.modHlt f) := by
  refine ⟨fun c => ?_, k.out, k.free, k.queue, k.dirty⟩
  exact k.canonical c

theorem State.modHst_steady {s u : State} {f : HostS → HostS} (h : ∀ x, x.canonical = true → (f x).canonical = true) (k : Steady s u) : Steady s (u.modHst f) := by
  refine ⟨fun c => ?_, k.out, k.free, k.queue, k.dirty⟩
  have := k.canonical c
  simp only [State.canonical, State.modHst, Bool.and_eq_true] at this ⊢
  simp only [this, h _, and_self]

theorem State.modExt_steady {s u : State} {f : ExtS → ExtS} (h : ∀ x, x.canonical = true → (f x).canonical = true) (k : Steady s u) : Steady s (u.modExt f) := by
  refine ⟨fun c => ?_, k.out, k.free, k.queue, k.dirty⟩
  have := k.canonical c
  simp only [State.canonical, State.modExt, Bool.and_eq_true] at this ⊢
  simp only [this, h _, and_self]

theorem State.modRdp_steady {s u : State} {f : ReadPathS → ReadPathS} (k : Steady s u) : Steady s (u.modRdp f) := by
  refine ⟨fun c => ?_, k.out, k.free, k.queue, k.dirty⟩
  exact k.canonical c

theorem State.modWb_steady {s u : State} {f : WbS → WbS} (h : ∀ x, x.canonical = true → (f x).canonical = true) (q : ∀ x, x.dirtyCount ≤ (f x).dirtyCount) (k : Steady s u) : Steady s (u.modWb f) := by
  refine ⟨fun c => ?_, k.out, k.free, k.queue, Nat.le_trans k.dirty (q _)⟩
  have := k.canonical c
  simp only [State.canonical, State.modWb, Bool.and_eq_true] at this ⊢
  simp only [this, h _, and_self]

theorem State.modMed_steady {s u : State} {f : MediaS → MediaS} (h : ∀ x, x.canonical = true → (f x).canonical = true) (k : Steady s u) : Steady s (u.modMed f) := by
  refine ⟨fun c => ?_, k.out, k.free, k.queue, k.dirty⟩
  have := k.canonical c
  simp only [State.canonical, State.modMed, Bool.and_eq_true] at this ⊢
  simp only [this, h _, and_self]

theorem State.modTrc_steady {s u : State} {f : TractS → TractS} (h : ∀ x, x.canonical = true → (f x).canonical = true) (k : Steady s u) : Steady s (u.modTrc f) := by
  refine ⟨fun c => ?_, k.out, k.free, k.queue, k.dirty⟩
  have := k.canonical c
  simp only [State.canonical, State.modTrc, Bool.and_eq_true] at this ⊢
  simp only [this, h _, and_self]

theorem State.modItg_steady {s u : State} {f : IntegS → IntegS} (h : ∀ x, x.canonical = true → (f x).canonical = true) (k : Steady s u) : Steady s (u.modItg f) := by
  refine ⟨fun c => ?_, k.out, k.free, k.queue, k.dirty⟩
  have := k.canonical c
  simp only [State.canonical, State.modItg, Bool.and_eq_true] at this ⊢
  simp only [this, h _, and_self]

theorem State.modScr_steady {s u : State} {f : ScrubS → ScrubS} (h : ∀ x, x.canonical = true → (f x).canonical = true) (k : Steady s u) : Steady s (u.modScr f) := by
  refine ⟨fun c => ?_, k.out, k.free, k.queue, k.dirty⟩
  have := k.canonical c
  simp only [State.canonical, State.modScr, Bool.and_eq_true] at this ⊢
  simp only [this, h _, and_self]

theorem State.modStg_steady {s u : State} {f : StagingS → StagingS} (h : ∀ x, x.canonical = true → (f x).canonical = true) (k : Steady s u) : Steady s (u.modStg f) := by
  refine ⟨fun c => ?_, k.out, k.free, k.queue, k.dirty⟩
  have := k.canonical c
  simp only [State.canonical, State.modStg, Bool.and_eq_true] at this ⊢
  simp only [this, h _, and_self]

theorem State.modFlt_steady {s u : State} {f : FaultS → FaultS} (h : ∀ x, x.canonical = true → (f x).canonical = true) (q : u.flt.queue.length ≤ 256 → (f u.flt).queue.length ≤ 256) (k : Steady s u) : Steady s (u.modFlt f) := by
  refine ⟨fun c => ?_, k.out, k.free, fun c => q (k.queue c), k.dirty⟩
  have := k.canonical c
  simp only [State.canonical, State.modFlt, Bool.and_eq_true] at this ⊢
  simp only [this, h _, and_self]

theorem State.modEasy_steady {s u : State} {f : EasyS → EasyS} (k : Steady s u) : Steady s (u.modEasy f) := by
  refine ⟨fun c => ?_, k.out, k.free, k.queue, k.dirty⟩
  exact k.canonical c

theorem State.modStr_steady {s u : State} {f : StartS → StartS} (k : Steady s u) : Steady s (u.modStr f) := by
  refine ⟨fun c => ?_, k.out, k.free, k.queue, k.dirty⟩
  exact k.canonical c

theorem State.modCox_steady {s u : State} {f : CoxS → CoxS} (k : Steady s u) : Steady s (u.modCox f) := by
  refine ⟨fun c => ?_, k.out, k.free, k.queue, k.dirty⟩
  exact k.canonical c

theorem State.modFls_steady {s u : State} {f : FlashS → FlashS} (k : Steady s u) : Steady s (u.modFls f) := by
  refine ⟨fun c => ?_, k.out, k.free, k.queue, k.dirty⟩
  exact k.canonical c

theorem State.modImg_steady {s u : State} {f : ImagesS → ImagesS} (k : Steady s u) : Steady s (u.modImg f) := by
  refine ⟨fun c => ?_, k.out, k.free, k.queue, k.dirty⟩
  exact k.canonical c

theorem State.modPar_steady {s u : State} {f : ParamS → ParamS} (h : ∀ x, x.canonical = true → (f x).canonical = true) (k : Steady s u) : Steady s (u.modPar f) := by
  refine ⟨fun c => ?_, k.out, k.free, k.queue, k.dirty⟩
  have := k.canonical c
  simp only [State.canonical, State.modPar, Bool.and_eq_true] at this ⊢
  simp only [this, h _, and_self]

theorem State.modLog_steady {s u : State} {f : LogS → LogS} (h : ∀ x, x.canonical = true → (f x).canonical = true) (k : Steady s u) : Steady s (u.modLog f) := by
  refine ⟨fun c => ?_, k.out, k.free, k.queue, k.dirty⟩
  have := k.canonical c
  simp only [State.canonical, State.modLog, Bool.and_eq_true] at this ⊢
  simp only [this, h _, and_self]

theorem State.modTly_steady {s u : State} {f : TallyS → TallyS} (h : ∀ x, x.canonical = true → (f x).canonical = true) (k : Steady s u) : Steady s (u.modTly f) := by
  refine ⟨fun c => ?_, k.out, k.free, k.queue, k.dirty⟩
  have := k.canonical c
  simp only [State.canonical, State.modTly, Bool.and_eq_true] at this ⊢
  simp only [this, h _, and_self]

theorem State.modWop_steady {s u : State} {f : WopS → WopS} (h : ∀ x, x.canonical = true → (f x).canonical = true) (k : Steady s u) : Steady s (u.modWop f) := by
  refine ⟨fun c => ?_, k.out, k.free, k.queue, k.dirty⟩
  have := k.canonical c
  simp only [State.canonical, State.modWop, Bool.and_eq_true] at this ⊢
  simp only [this, h _, and_self]

theorem State.emit_steady {s u : State} {o : Out} (k : Steady s u) : Steady s (u.emit o) :=
  ⟨k.canonical, k.out.trans (List.prefix_append _ _), k.free, k.queue, k.dirty⟩

theorem State.modFree_steady {s u : State} {f : Nat → Nat} (h : ∀ n, n ≤ f n) (k : Steady s u) : Steady s (u.modFree f) :=
  ⟨k.canonical, k.out, Nat.le_trans k.free (h _), k.queue, k.dirty⟩

theorem State.modPending_steady {s u : State} {f : List Instr → List Instr} (k : Steady s u) : Steady s (u.modPending f) :=
  ⟨k.canonical, k.out, k.free, k.queue, k.dirty⟩

theorem ObjS.afterReset_canonical (o : ObjS) (h : o.canonical = true) : o.afterReset.canonical = true := by
  simp only [ObjS.canonical, ObjS.afterReset, Bool.and_eq_true] at h ⊢
  exact ⟨⟨⟨⟨Tab.filter_wf _ _ _ h.1.1.1.1, rfl⟩, rfl⟩, rfl⟩, rfl⟩

theorem State.hstAfter_canonical (s : State) : s.hstAfter.canonical = true := by
  simp only [State.hstAfter, HostS.canonical, Bool.and_eq_true]
  exact ⟨⟨Tab.foldl_set_wf _ _ _ _ _ rfl, Tab.foldl_set_wf _ _ _ _ _ rfl⟩, rfl⟩

theorem State.pwrAfter_canonical (s : State) : s.pwrAfter.canonical = true := rfl

theorem loaded_wf (f : Nat → MapEntry) (l : List Nat) :
    Tab.wf shipEntry (l.foldl (fun acc t => Tab.put shipEntry acc t (f t)) []) = true := Tab.foldl_put_wf _ _ _ _ _ rfl

theorem mergeActivity_wf (now ckpt : Tab Activity) : Tab.wf (fun _ => {}) (mergeActivity now ckpt) = true :=
  Tab.foldl_set_wf _ _ _ _ _ rfl

/-- A table made from a function on a range of keys. -/
theorem Tab.filterMap_range_wf (f : Nat → Nat) (n : Nat) :
    Tab.wf (fun _ => 0) ((List.range n).filterMap fun k => if f k = 0 then none else some (k, f k)) = true := by
  rw [List.range_eq_range']
  unfold Tab.wf
  suffices h : ∀ a lo, lo ≤ a → Tab.wfFrom (fun _ => 0) lo ((List.range' a n).filterMap fun k => if f k = 0 then none else some (k, f k)) = true
    from h 0 0 (Nat.le_refl _)
  induction n with
  | zero => intro a lo _; rfl
  | succ n ih =>
    intro a lo h
    simp only [List.range'_succ, List.filterMap_cons]
    split
    · exact ih (a + 1) lo (by omega)
    · rename_i b e
      split at e
      · cases e
      · cases e
        simp only [Tab.wfFrom, Bool.and_eq_true, decide_eq_true_eq]
        exact ⟨⟨h, ‹_›⟩, ih (a + 1) (a + 1) (Nat.le_refl _)⟩

end Sys2Proof.Machine
end

