-- ==== Sys2Proof/Laws/SteadyShared.lean ====
section
/-! SUPPORT. What every operation and meaning leaves true (the operations that several units share). -/

set_option Elab.async false

set_option linter.unusedTactic false
set_option linter.unreachableTactic false
set_option linter.unnecessarySeqFocus false
set_option linter.unusedSimpArgs false

namespace Sys2Proof.Machine

theorem State.modSlot_steady {s : State} {u : State} (k : Steady s u) (a0) (a1) :
    Steady s (State.modSlot a0 a1 u) := by
  unfold State.modSlot
  with_reducible repeat' first
    | assumption
    | apply steady_ite
    | (intro x h; simp only [ObjS.canonical, Bool.and_eq_true] at h ⊢; (repeat' split) <;> (simp only [h, Tab.set_wf, Tab.mod_wf, Tab.put_wf, Tab.erase_wf, Tab.remap_wf, Tab.filter_wf, Tab.wf_nil, Tab.foldl_set_wf, Tab.foldl_mod_wf, loaded_wf, mergeActivity_wf, and_self]; done))
    | refine State.modObj_steady ?_ ?_ 
    | split
    | dsimp only
    | intro _

theorem State.storeWrite_steady {s : State} {u : State} (k : Steady s u) (a0) :
    Steady s (State.storeWrite a0 u) := by
  unfold State.storeWrite
  with_reducible repeat' first
    | assumption
    | apply steady_ite
    | (intro x h; simp only [ParamS.canonical, Bool.and_eq_true] at h ⊢; (repeat' split) <;> (simp only [h, Tab.set_wf, Tab.mod_wf, Tab.put_wf, Tab.erase_wf, Tab.remap_wf, Tab.filter_wf, Tab.wf_nil, Tab.foldl_set_wf, Tab.foldl_mod_wf, loaded_wf, mergeActivity_wf, and_self]; done))
    | refine State.modPar_steady ?_ ?_ 
    | split
    | dsimp only
    | intro _

theorem State.reserveSeq_steady {s : State} {u : State} (k : Steady s u)  :
    Steady s (State.reserveSeq u) := by
  unfold State.reserveSeq
  with_reducible repeat' first
    | assumption
    | apply steady_ite
    | (intro x h; simp only [LogS.canonical, Bool.and_eq_true] at h ⊢; (repeat' split) <;> (simp only [h, Tab.set_wf, Tab.mod_wf, Tab.put_wf, Tab.erase_wf, Tab.remap_wf, Tab.filter_wf, Tab.wf_nil, Tab.foldl_set_wf, Tab.foldl_mod_wf, loaded_wf, mergeActivity_wf, and_self]; done))
    | refine State.modLog_steady ?_ ?_ 
    | apply State.storeWrite_steady
    | split
    | dsimp only
    | intro _

theorem State.stage_steady {s : State} {u : State} (k : Steady s u) (a0) :
    Steady s (State.stage a0 u).2 := by
  unfold State.stage
  with_reducible repeat' first
    | assumption
    | apply steady_ite
    | apply steady_ite_snd
    | (intro x h; simp only [LogS.canonical, Bool.and_eq_true] at h ⊢; (repeat' split) <;> (simp only [h, Tab.set_wf, Tab.mod_wf, Tab.put_wf, Tab.erase_wf, Tab.remap_wf, Tab.filter_wf, Tab.wf_nil, Tab.foldl_set_wf, Tab.foldl_mod_wf, loaded_wf, mergeActivity_wf, and_self]; done))
    | refine State.modLog_steady ?_ ?_ 
    | apply State.reserveSeq_steady
    | split
    | dsimp only
    | intro _

theorem State.modSession_steady {s : State} {u : State} (k : Steady s u) (a0) (a1) :
    Steady s (State.modSession a0 a1 u) := by
  unfold State.modSession
  with_reducible repeat' first
    | assumption
    | apply steady_ite
    | (intro x h; simp only [WopS.canonical, Bool.and_eq_true] at h ⊢; (repeat' split) <;> (simp only [h, Tab.set_wf, Tab.mod_wf, Tab.put_wf, Tab.erase_wf, Tab.remap_wf, Tab.filter_wf, Tab.wf_nil, Tab.foldl_set_wf, Tab.foldl_mod_wf, loaded_wf, mergeActivity_wf, and_self]; done))
    | refine State.modWop_steady ?_ ?_ 
    | split
    | dsimp only
    | intro _

theorem State.sendNotify_steady {s : State} {u : State} (k : Steady s u) (a0) (a1) (a2) (a3) (a4) :
    Steady s (State.sendNotify a0 a1 a2 a3 a4 u) := by
  unfold State.sendNotify
  with_reducible repeat' first
    | assumption
    | apply steady_ite
    | (intro x h; simp only [WopS.canonical, Bool.and_eq_true] at h ⊢; (repeat' split) <;> (simp only [h, Tab.set_wf, Tab.mod_wf, Tab.put_wf, Tab.erase_wf, Tab.remap_wf, Tab.filter_wf, Tab.wf_nil, Tab.foldl_set_wf, Tab.foldl_mod_wf, loaded_wf, mergeActivity_wf, and_self]; done))
    | refine State.modWop_steady ?_ ?_ 
    | apply State.emit_steady
    | apply State.modSession_steady
    | split
    | dsimp only
    | intro _

theorem State.notifySlot_steady {s : State} {u : State} (k : Steady s u) (a0) (a1) (a2) (a3) :
    Steady s (State.notifySlot a0 a1 a2 a3 u) := by
  unfold State.notifySlot
  with_reducible repeat' first
    | assumption
    | apply steady_ite
    | apply State.modSession_steady
    | apply State.sendNotify_steady
    | split
    | dsimp only
    | intro _

theorem State.notify_steady {s : State} {u : State} (k : Steady s u) (a0) (a1) :
    Steady s (State.notify a0 a1 u) := by
  unfold State.notify
  with_reducible repeat' first
    | assumption
    | apply steady_ite
    | refine forEach_steady (fun _ _ _ => ?_) ?_ _
    | apply State.notifySlot_steady
    | split
    | dsimp only
    | intro _

theorem State.logE_steady {s : State} {u : State} (k : Steady s u) (a0) :
    Steady s (State.logE a0 u).2 := by
  unfold State.logE
  with_reducible repeat' first
    | assumption
    | apply steady_ite
    | apply steady_ite_snd
    | apply State.stage_steady
    | refine steady_snd_of_eq ‹State.stage _ _ = _› (State.stage_steady ?_ _)
    | apply State.notify_steady
    | split
    | dsimp only
    | intro _

theorem State.record_steady {s : State} {u : State} (k : Steady s u) (a0) :
    Steady s (State.record a0 u) := by
  unfold State.record
  with_reducible repeat' first
    | assumption
    | apply steady_ite
    | apply State.logE_steady
    | refine steady_snd_of_eq ‹State.logE _ _ = _› (State.logE_steady ?_ _)
    | split
    | dsimp only
    | intro _

theorem State.manage_steady {s : State} {u : State} (k : Steady s u) (a0) (a1) (a2) (a3) (a4) (a5) (a6) (a7) :
    Steady s (State.manage a0 a1 a2 a3 a4 a5 a6 a7 u) := by
  unfold State.manage
  with_reducible repeat' first
    | assumption
    | apply steady_ite
    | apply State.record_steady
    | split
    | dsimp only
    | intro _

theorem State.ticketDone_steady {s : State} {u : State} (k : Steady s u) (a0) (a1) (a2) :
    Steady s (State.ticketDone a0 a1 a2 u) := by
  unfold State.ticketDone
  with_reducible repeat' first
    | assumption
    | apply steady_ite
    | (intro x h; simp only [ObjS.canonical, Bool.and_eq_true] at h ⊢; (repeat' split) <;> (simp only [h, Tab.set_wf, Tab.mod_wf, Tab.put_wf, Tab.erase_wf, Tab.remap_wf, Tab.filter_wf, Tab.wf_nil, Tab.foldl_set_wf, Tab.foldl_mod_wf, loaded_wf, mergeActivity_wf, and_self]; done))
    | refine State.modObj_steady ?_ ?_ 
    | apply State.modSlot_steady
    | apply State.manage_steady
    | split
    | dsimp only
    | intro _

theorem State.modHead_steady {s : State} {u : State} (k : Steady s u) (a0) (a1) :
    Steady s (State.modHead a0 a1 u) := by
  unfold State.modHead
  with_reducible repeat' first
    | assumption
    | apply steady_ite
    | (intro x h; simp only [HostS.canonical, Bool.and_eq_true] at h ⊢; (repeat' split) <;> (simp only [h, Tab.set_wf, Tab.mod_wf, Tab.put_wf, Tab.erase_wf, Tab.remap_wf, Tab.filter_wf, Tab.wf_nil, Tab.foldl_set_wf, Tab.foldl_mod_wf, loaded_wf, mergeActivity_wf, and_self]; done))
    | refine State.modHst_steady ?_ ?_ 
    | split
    | dsimp only
    | intro _

theorem State.modLink_steady {s : State} {u : State} (k : Steady s u) (a0) (a1) :
    Steady s (State.modLink a0 a1 u) := by
  unfold State.modLink
  with_reducible repeat' first
    | assumption
    | apply steady_ite
    | (intro x h; simp only [HostS.canonical, Bool.and_eq_true] at h ⊢; (repeat' split) <;> (simp only [h, Tab.set_wf, Tab.mod_wf, Tab.put_wf, Tab.erase_wf, Tab.remap_wf, Tab.filter_wf, Tab.wf_nil, Tab.foldl_set_wf, Tab.foldl_mod_wf, loaded_wf, mergeActivity_wf, and_self]; done))
    | refine State.modHst_steady ?_ ?_ 
    | split
    | dsimp only
    | intro _

theorem State.msix_steady {s : State} {u : State} (k : Steady s u) (a0) (a1) :
    Steady s (State.msix a0 a1 u) := by
  unfold State.msix
  with_reducible repeat' first
    | assumption
    | apply steady_ite
    | apply State.emit_steady
    | apply State.modLink_steady
    | split
    | dsimp only
    | intro _

theorem State.modEq_steady {s : State} {u : State} (k : Steady s u) (a0) (a1) :
    Steady s (State.modEq a0 a1 u) := by
  unfold State.modEq
  with_reducible repeat' first
    | assumption
    | apply steady_ite
    | apply State.modHead_steady
    | split
    | dsimp only
    | intro _

theorem State.eqSignal_steady {s : State} {u : State} (k : Steady s u) (a0) :
    Steady s (State.eqSignal a0 u) := by
  unfold State.eqSignal
  with_reducible repeat' first
    | assumption
    | apply steady_ite
    | apply State.msix_steady
    | apply State.modEq_steady
    | split
    | dsimp only
    | intro _

theorem State.eqPost_steady {s : State} {u : State} (k : Steady s u) (a0) (a1) (a2) (a3) (a4) :
    Steady s (State.eqPost a0 a1 a2 a3 a4 u) := by
  unfold State.eqPost
  with_reducible repeat' first
    | assumption
    | apply steady_ite
    | apply State.when_steady
    | apply State.emit_steady
    | apply State.notify_steady
    | apply State.modHead_steady
    | apply State.modEq_steady
    | apply State.eqSignal_steady
    | split
    | dsimp only
    | intro _

theorem State.headEvent_steady {s : State} {u : State} (k : Steady s u) (a0) (a1) (a2) (a3) :
    Steady s (State.headEvent a0 a1 a2 a3 u) := by
  unfold State.headEvent
  with_reducible repeat' first
    | assumption
    | apply steady_ite
    | refine forEach_steady (fun _ _ _ => ?_) ?_ _
    | apply State.logE_steady
    | refine steady_snd_of_eq ‹State.logE _ _ = _› (State.logE_steady ?_ _)
    | apply State.eqPost_steady
    | split
    | dsimp only
    | intro _

theorem State.boundSyncHead_steady {s : State} {u : State} (k : Steady s u) (a0) :
    Steady s (State.boundSyncHead a0 u) := by
  unfold State.boundSyncHead
  with_reducible repeat' first
    | assumption
    | apply steady_ite
    | apply State.modHead_steady
    | apply State.msix_steady
    | apply State.headEvent_steady
    | split
    | dsimp only
    | intro _

theorem State.boundSync_steady {s : State} {u : State} (k : Steady s u)  :
    Steady s (State.boundSync u) := by
  unfold State.boundSync
  with_reducible repeat' first
    | assumption
    | apply steady_ite
    | refine forEach_steady (fun _ _ _ => ?_) ?_ _
    | apply State.boundSyncHead_steady
    | split
    | dsimp only
    | intro _

theorem State.modPort_steady {s : State} {u : State} (k : Steady s u) (a0) (a1) :
    Steady s (State.modPort a0 a1 u) := by
  unfold State.modPort
  with_reducible repeat' first
    | assumption
    | apply steady_ite
    | (intro x h; simp only [HostS.canonical, Bool.and_eq_true] at h ⊢; (repeat' split) <;> (simp only [h, Tab.set_wf, Tab.mod_wf, Tab.put_wf, Tab.erase_wf, Tab.remap_wf, Tab.filter_wf, Tab.wf_nil, Tab.foldl_set_wf, Tab.foldl_mod_wf, loaded_wf, mergeActivity_wf, and_self]; done))
    | refine State.modHst_steady ?_ ?_ 
    | split
    | dsimp only
    | intro _

theorem State.creditSync_steady {s : State} {u : State} (k : Steady s u)  :
    Steady s (State.creditSync u) := by
  unfold State.creditSync
  with_reducible repeat' first
    | assumption
    | apply steady_ite
    | refine forEach_steady (fun _ _ _ => ?_) ?_ _
    | apply State.modPort_steady
    | split
    | dsimp only
    | intro _

theorem State.withholdAll_steady {s : State} {u : State} (k : Steady s u)  :
    Steady s (State.withholdAll u) := by
  unfold State.withholdAll
  with_reducible repeat' first
    | assumption
    | apply steady_ite
    | refine forEach_steady (fun _ _ _ => ?_) ?_ _
    | apply State.modPort_steady
    | split
    | dsimp only
    | intro _

theorem State.linkEvent_steady {s : State} {u : State} (k : Steady s u) (a0) :
    Steady s (State.linkEvent a0 u) := by
  unfold State.linkEvent
  with_reducible repeat' first
    | assumption
    | apply steady_ite
    | apply State.msix_steady
    | apply State.headEvent_steady
    | split
    | dsimp only
    | intro _

theorem State.queueFault_steady {s : State} {u : State} (k : Steady s u) (a0) :
    Steady s (State.queueFault a0 u) := by
  unfold State.queueFault
  with_reducible repeat' first
    | assumption
    | apply steady_ite
    | (intro h; exact h)
    | (intro h; (try split) <;> (simp only [List.length_append, List.length_cons, List.length_nil, List.length_tail]; first | assumption | omega))
    | (intro x h; simp only [FaultS.canonical, Bool.and_eq_true] at h ⊢; (repeat' split) <;> (simp only [h, Tab.set_wf, Tab.mod_wf, Tab.put_wf, Tab.erase_wf, Tab.remap_wf, Tab.filter_wf, Tab.wf_nil, Tab.foldl_set_wf, Tab.foldl_mod_wf, loaded_wf, mergeActivity_wf, and_self]; done))
    | refine State.modFlt_steady ?_ ?_ ?_ 
    | split
    | dsimp only
    | intro _

theorem State.enterViral_steady {s : State} {u : State} (k : Steady s u) (a0) :
    Steady s (State.enterViral a0 u) := by
  unfold State.enterViral
  with_reducible repeat' first
    | assumption
    | apply steady_ite
    | apply State.modHead_steady
    | apply State.linkEvent_steady
    | apply State.queueFault_steady
    | split
    | dsimp only
    | intro _

theorem State.signalViral_steady {s : State} {u : State} (k : Steady s u) (a0) :
    Steady s (State.signalViral a0 u) := by
  unfold State.signalViral
  with_reducible repeat' first
    | assumption
    | apply steady_ite
    | apply State.emit_steady
    | apply State.enterViral_steady
    | split
    | dsimp only
    | intro _

theorem State.powerEvent_steady {s : State} {u : State} (k : Steady s u) (a0) :
    Steady s (State.powerEvent a0 u) := by
  unfold State.powerEvent
  with_reducible repeat' first
    | assumption
    | apply steady_ite
    | apply State.record_steady
    | split
    | dsimp only
    | intro _

theorem State.modDomain_steady {s : State} {u : State} (k : Steady s u) (a0) (a1) :
    Steady s (State.modDomain a0 a1 u) := by
  unfold State.modDomain
  with_reducible repeat' first
    | assumption
    | apply steady_ite
    | (intro x h; simp only [PowerS.canonical, Bool.and_eq_true] at h ⊢; (repeat' split) <;> (simp only [h, Tab.set_wf, Tab.mod_wf, Tab.put_wf, Tab.erase_wf, Tab.remap_wf, Tab.filter_wf, Tab.wf_nil, Tab.foldl_set_wf, Tab.foldl_mod_wf, loaded_wf, mergeActivity_wf, and_self]; done))
    | refine State.modPwr_steady ?_ ?_ 
    | split
    | dsimp only
    | intro _

theorem State.zeroMargins_steady {s : State} {u : State} (k : Steady s u)  :
    Steady s (State.zeroMargins u) := by
  unfold State.zeroMargins
  with_reducible repeat' first
    | assumption
    | apply steady_ite
    | refine forEach_steady (fun _ _ _ => ?_) ?_ _
    | apply State.powerEvent_steady
    | apply State.modDomain_steady
    | split
    | dsimp only
    | intro _

theorem State.fire_steady {s : State} {u : State} (k : Steady s u) (a0) (a1) (a2) :
    Steady s (State.fire a0 a1 a2 u) := by
  unfold State.fire
  with_reducible repeat' first
    | assumption
    | apply steady_ite
    | refine forEach_steady (fun _ _ _ => ?_) ?_ _
    | apply State.stage_steady
    | refine steady_snd_of_eq ‹State.stage _ _ = _› (State.stage_steady ?_ _)
    | split
    | dsimp only
    | intro _

theorem State.fireWhere_steady {s : State} {u : State} (k : Steady s u) (a0) (a1) :
    Steady s (State.fireWhere a0 a1 u) := by
  unfold State.fireWhere
  with_reducible repeat' first
    | assumption
    | apply steady_ite
    | refine forEach_steady (fun _ _ _ => ?_) ?_ _
    | apply State.fire_steady
    | split
    | dsimp only
    | intro _

theorem State.easyBegin_steady {s : State} {u : State} (k : Steady s u) (a0) :
    Steady s (State.easyBegin a0 u) := by
  unfold State.easyBegin
  with_reducible repeat' first
    | assumption
    | apply steady_ite
    | (intro x; (try dsimp only); (repeat' split) <;> (simp only [Nat.le_refl]; done))
    | (intro x; dsimp only; omega)
    | (intro x h; simp only [WbS.canonical, Bool.and_eq_true] at h ⊢; (repeat' split) <;> (simp only [h, Tab.set_wf, Tab.mod_wf, Tab.put_wf, Tab.erase_wf, Tab.remap_wf, Tab.filter_wf, Tab.wf_nil, Tab.foldl_set_wf, Tab.foldl_mod_wf, loaded_wf, mergeActivity_wf, and_self]; done))
    | (intro x h; simp only [PowerS.canonical, Bool.and_eq_true] at h ⊢; (repeat' split) <;> (simp only [h, Tab.set_wf, Tab.mod_wf, Tab.put_wf, Tab.erase_wf, Tab.remap_wf, Tab.filter_wf, Tab.wf_nil, Tab.foldl_set_wf, Tab.foldl_mod_wf, loaded_wf, mergeActivity_wf, and_self]; done))
    | refine State.modPwr_steady ?_ ?_ 
    | apply State.modEasy_steady
    | refine State.modWb_steady ?_ ?_ ?_ 
    | refine forEach_steady (fun _ _ _ => ?_) ?_ _
    | apply State.boundSync_steady
    | apply State.withholdAll_steady
    | apply State.signalViral_steady
    | apply State.zeroMargins_steady
    | apply State.fireWhere_steady
    | split
    | dsimp only
    | intro _

theorem State.easyEnter_steady {s : State} {u : State} (k : Steady s u) (a0) :
    Steady s (State.easyEnter a0 u) := by
  unfold State.easyEnter
  with_reducible repeat' first
    | assumption
    | apply steady_ite
    | apply State.modEasy_steady
    | refine forEach_steady (fun _ _ _ => ?_) ?_ _
    | apply State.signalViral_steady
    | apply State.easyBegin_steady
    | split
    | dsimp only
    | intro _

theorem State.modChannel_steady {s : State} {u : State} (k : Steady s u) (a0) (a1) :
    Steady s (State.modChannel a0 a1 u) := by
  unfold State.modChannel
  with_reducible repeat' first
    | assumption
    | apply steady_ite
    | (intro x h; simp only [MediaS.canonical, Bool.and_eq_true] at h ⊢; (repeat' split) <;> (simp only [h, Tab.set_wf, Tab.mod_wf, Tab.put_wf, Tab.erase_wf, Tab.remap_wf, Tab.filter_wf, Tab.wf_nil, Tab.foldl_set_wf, Tab.foldl_mod_wf, loaded_wf, mergeActivity_wf, and_self]; done))
    | refine State.modMed_steady ?_ ?_ 
    | split
    | dsimp only
    | intro _

theorem State.setSticky_steady {s : State} {u : State} (k : Steady s u) (a0) :
    Steady s (State.setSticky a0 u) := by
  unfold State.setSticky
  with_reducible repeat' first
    | assumption
    | apply steady_ite
    | (intro h; exact h)
    | (intro h; (try split) <;> (simp only [List.length_append, List.length_cons, List.length_nil, List.length_tail]; first | assumption | omega))
    | (intro x h; simp only [FaultS.canonical, Bool.and_eq_true] at h ⊢; (repeat' split) <;> (simp only [h, Tab.set_wf, Tab.mod_wf, Tab.put_wf, Tab.erase_wf, Tab.remap_wf, Tab.filter_wf, Tab.wf_nil, Tab.foldl_set_wf, Tab.foldl_mod_wf, loaded_wf, mergeActivity_wf, and_self]; done))
    | refine State.modFlt_steady ?_ ?_ ?_ 
    | apply State.when_steady
    | split
    | dsimp only
    | intro _

theorem State.fatal_steady {s : State} {u : State} (k : Steady s u) (a0) :
    Steady s (State.fatal a0 u) := by
  unfold State.fatal
  with_reducible repeat' first
    | assumption
    | apply steady_ite
    | (intro h; exact h)
    | (intro h; (try split) <;> (simp only [List.length_append, List.length_cons, List.length_nil, List.length_tail]; first | assumption | omega))
    | (intro x h; simp only [FaultS.canonical, Bool.and_eq_true] at h ⊢; (repeat' split) <;> (simp only [h, Tab.set_wf, Tab.mod_wf, Tab.put_wf, Tab.erase_wf, Tab.remap_wf, Tab.filter_wf, Tab.wf_nil, Tab.foldl_set_wf, Tab.foldl_mod_wf, loaded_wf, mergeActivity_wf, and_self]; done))
    | refine State.modFlt_steady ?_ ?_ ?_ 
    | apply State.easyEnter_steady
    | split
    | dsimp only
    | intro _

theorem State.report_steady {s : State} {u : State} (k : Steady s u) (a0) (a1) (a2) :
    Steady s (State.report a0 a1 a2 u) := by
  unfold State.report
  with_reducible repeat' first
    | assumption
    | apply steady_ite
    | (intro h; exact h)
    | (intro h; (try split) <;> (simp only [List.length_append, List.length_cons, List.length_nil, List.length_tail]; first | assumption | omega))
    | (intro x h; simp only [FaultS.canonical, Bool.and_eq_true] at h ⊢; (repeat' split) <;> (simp only [h, Tab.set_wf, Tab.mod_wf, Tab.put_wf, Tab.erase_wf, Tab.remap_wf, Tab.filter_wf, Tab.wf_nil, Tab.foldl_set_wf, Tab.foldl_mod_wf, loaded_wf, mergeActivity_wf, and_self]; done))
    | refine State.modFlt_steady ?_ ?_ ?_ 
    | apply State.when_steady
    | apply State.queueFault_steady
    | apply State.setSticky_steady
    | apply State.fatal_steady
    | split
    | dsimp only
    | intro _

theorem State.modDie_steady {s : State} {u : State} (k : Steady s u) (a0) (a1) :
    Steady s (State.modDie a0 a1 u) := by
  unfold State.modDie
  with_reducible repeat' first
    | assumption
    | apply steady_ite
    | (intro x h; simp only [MediaS.canonical, Bool.and_eq_true] at h ⊢; (repeat' split) <;> (simp only [h, Tab.set_wf, Tab.mod_wf, Tab.put_wf, Tab.erase_wf, Tab.remap_wf, Tab.filter_wf, Tab.wf_nil, Tab.foldl_set_wf, Tab.foldl_mod_wf, loaded_wf, mergeActivity_wf, and_self]; done))
    | refine State.modMed_steady ?_ ?_ 
    | split
    | dsimp only
    | intro _

theorem State.modActivity_steady {s : State} {u : State} (k : Steady s u) (a0) (a1) :
    Steady s (State.modActivity a0 a1 u) := by
  unfold State.modActivity
  with_reducible repeat' first
    | assumption
    | apply steady_ite
    | (intro x h; simp only [TractS.canonical, Bool.and_eq_true] at h ⊢; (repeat' split) <;> (simp only [h, Tab.set_wf, Tab.mod_wf, Tab.put_wf, Tab.erase_wf, Tab.remap_wf, Tab.filter_wf, Tab.wf_nil, Tab.foldl_set_wf, Tab.foldl_mod_wf, loaded_wf, mergeActivity_wf, and_self]; done))
    | refine State.modTrc_steady ?_ ?_ 
    | split
    | dsimp only
    | intro _

theorem State.modEntry_steady {s : State} {u : State} (k : Steady s u) (a0) (a1) :
    Steady s (State.modEntry a0 a1 u) := by
  unfold State.modEntry
  with_reducible repeat' first
    | assumption
    | apply steady_ite
    | (intro x h; simp only [TractS.canonical, Bool.and_eq_true] at h ⊢; (repeat' split) <;> (simp only [h, Tab.set_wf, Tab.mod_wf, Tab.put_wf, Tab.erase_wf, Tab.remap_wf, Tab.filter_wf, Tab.wf_nil, Tab.foldl_set_wf, Tab.foldl_mod_wf, loaded_wf, mergeActivity_wf, and_self]; done))
    | refine State.modTrc_steady ?_ ?_ 
    | split
    | dsimp only
    | intro _

theorem State.linkDown_steady {s : State} {u : State} (k : Steady s u) (a0) :
    Steady s (State.linkDown a0 u) := by
  unfold State.linkDown
  with_reducible repeat' first
    | assumption
    | apply steady_ite
    | (intro x; (try dsimp only); (repeat' split) <;> (simp only [Nat.le_refl]; done))
    | (intro x; dsimp only; omega)
    | (intro x h; simp only [WbS.canonical, Bool.and_eq_true] at h ⊢; (repeat' split) <;> (simp only [h, Tab.set_wf, Tab.mod_wf, Tab.put_wf, Tab.erase_wf, Tab.remap_wf, Tab.filter_wf, Tab.wf_nil, Tab.foldl_set_wf, Tab.foldl_mod_wf, loaded_wf, mergeActivity_wf, and_self]; done))
    | apply State.modRdp_steady
    | refine State.modWb_steady ?_ ?_ ?_ 
    | apply State.when_steady
    | apply State.modHead_steady
    | apply State.modLink_steady
    | apply State.headEvent_steady
    | apply State.boundSync_steady
    | apply State.modPort_steady
    | apply State.easyEnter_steady
    | split
    | dsimp only
    | intro _

theorem State.train_steady {s : State} {u : State} (k : Steady s u) (a0) :
    Steady s (State.train a0 u) := by
  unfold State.train
  with_reducible repeat' first
    | assumption
    | apply steady_ite
    | apply State.modHead_steady
    | apply State.modLink_steady
    | split
    | dsimp only
    | intro _

theorem State.applyMode_steady {s : State} {u : State} (k : Steady s u) (a0) :
    Steady s (State.applyMode a0 u) := by
  unfold State.applyMode
  with_reducible repeat' first
    | assumption
    | apply steady_ite
    | apply State.modPort_steady
    | split
    | dsimp only
    | intro _

theorem State.portSync_steady {s : State} {u : State} (k : Steady s u) (a0) :
    Steady s (State.portSync a0 u) := by
  unfold State.portSync
  with_reducible repeat' first
    | assumption
    | apply steady_ite
    | apply State.when_steady
    | apply State.linkDown_steady
    | apply State.train_steady
    | apply State.applyMode_steady
    | split
    | dsimp only
    | intro _

theorem State.linksSync_steady {s : State} {u : State} (k : Steady s u)  :
    Steady s (State.linksSync u) := by
  unfold State.linksSync
  with_reducible repeat' first
    | assumption
    | apply steady_ite
    | refine forEach_steady (fun _ _ _ => ?_) ?_ _
    | apply State.portSync_steady
    | split
    | dsimp only
    | intro _

theorem State.modPlane_steady {s : State} {u : State} (k : Steady s u) (a0) (a1) :
    Steady s (State.modPlane a0 a1 u) := by
  unfold State.modPlane
  with_reducible repeat' first
    | assumption
    | apply steady_ite
    | (intro x h; simp only [MediaS.canonical, Bool.and_eq_true] at h ⊢; (repeat' split) <;> (simp only [h, Tab.set_wf, Tab.mod_wf, Tab.put_wf, Tab.erase_wf, Tab.remap_wf, Tab.filter_wf, Tab.wf_nil, Tab.foldl_set_wf, Tab.foldl_mod_wf, loaded_wf, mergeActivity_wf, and_self]; done))
    | refine State.modMed_steady ?_ ?_ 
    | split
    | dsimp only
    | intro _

theorem State.securityFrom_steady {s : State} {u : State} (k : Steady s u) (a0) (a1) (a2) (a3) (a4) :
    Steady s (State.securityFrom a0 a1 a2 a3 a4 u) := by
  unfold State.securityFrom
  with_reducible repeat' first
    | assumption
    | apply steady_ite
    | apply State.record_steady
    | apply State.report_steady
    | split
    | dsimp only
    | intro _

theorem State.security_steady {s : State} {u : State} (k : Steady s u) (a0) (a1) (a2) (a3) :
    Steady s (State.security a0 a1 a2 a3 u) := by
  unfold State.security
  with_reducible repeat' first
    | assumption
    | apply steady_ite
    | apply State.securityFrom_steady
    | split
    | dsimp only
    | intro _

theorem State.keepAnswer_steady {s : State} {u : State} (k : Steady s u) (a0) (a1) :
    Steady s (State.keepAnswer a0 a1 u) := by
  unfold State.keepAnswer
  with_reducible repeat' first
    | assumption
    | apply steady_ite
    | apply State.modSession_steady
    | split
    | dsimp only
    | intro _

theorem State.mbAccess_steady {s : State} {u : State} (k : Steady s u) (a0) (a1) (a2) (a3) (a4) :
    Steady s (State.mbAccess a0 a1 a2 a3 a4 u) := by
  unfold State.mbAccess
  with_reducible repeat' first
    | assumption
    | apply steady_ite
    | apply State.emit_steady
    | apply State.msix_steady
    | split
    | dsimp only
    | intro _

theorem State.respondTo_steady {s : State} {u : State} (k : Steady s u) (a0) (a1) (a2) (a3) :
    Steady s (State.respondTo a0 a1 a2 a3 u) := by
  unfold State.respondTo
  with_reducible repeat' first
    | assumption
    | apply steady_ite
    | (intro x h; simp only [WopS.canonical, Bool.and_eq_true] at h ⊢; (repeat' split) <;> (simp only [h, Tab.set_wf, Tab.mod_wf, Tab.put_wf, Tab.erase_wf, Tab.remap_wf, Tab.filter_wf, Tab.wf_nil, Tab.foldl_set_wf, Tab.foldl_mod_wf, loaded_wf, mergeActivity_wf, and_self]; done))
    | refine State.modWop_steady ?_ ?_ 
    | apply State.emit_steady
    | apply State.ticketDone_steady
    | apply State.keepAnswer_steady
    | apply State.mbAccess_steady
    | split
    | dsimp only
    | intro _

theorem State.countPages_steady {s : State} {u : State} (k : Steady s u) (a0) (a1) :
    Steady s (State.countPages a0 a1 u) := by
  unfold State.countPages
  with_reducible repeat' first
    | assumption
    | apply steady_ite
    | (intro x h; simp only [ParamS.canonical, Bool.and_eq_true] at h ⊢; (repeat' split) <;> (simp only [h, Tab.set_wf, Tab.mod_wf, Tab.put_wf, Tab.erase_wf, Tab.remap_wf, Tab.filter_wf, Tab.wf_nil, Tab.foldl_set_wf, Tab.foldl_mod_wf, loaded_wf, mergeActivity_wf, and_self]; done))
    | refine State.modPar_steady ?_ ?_ 
    | split
    | dsimp only
    | intro _

theorem State.draw_steady {s : State} {u : State} (k : Steady s u)  :
    Steady s (State.draw u).2 := by
  unfold State.draw
  with_reducible repeat' first
    | assumption
    | apply steady_ite
    | apply steady_ite_snd
    | (intro n; omega)
    | refine State.modFree_steady ?_ ?_
    | split
    | dsimp only
    | intro _

theorem State.closeSess_steady {s : State} {u : State} (k : Steady s u) (a0) :
    Steady s (State.closeSess a0 u) := by
  unfold State.closeSess
  with_reducible repeat' first
    | assumption
    | apply steady_ite
    | (intro x h; simp only [ObjS.canonical, Bool.and_eq_true] at h ⊢; (repeat' split) <;> (simp only [h, Tab.set_wf, Tab.mod_wf, Tab.put_wf, Tab.erase_wf, Tab.remap_wf, Tab.filter_wf, Tab.wf_nil, Tab.foldl_set_wf, Tab.foldl_mod_wf, loaded_wf, mergeActivity_wf, and_self]; done))
    | (intro x h; simp only [WopS.canonical, Bool.and_eq_true] at h ⊢; (repeat' split) <;> (simp only [h, Tab.set_wf, Tab.mod_wf, Tab.put_wf, Tab.erase_wf, Tab.remap_wf, Tab.filter_wf, Tab.wf_nil, Tab.foldl_set_wf, Tab.foldl_mod_wf, loaded_wf, mergeActivity_wf, and_self]; done))
    | refine State.modWop_steady ?_ ?_ 
    | refine State.modObj_steady ?_ ?_ 
    | apply State.manage_steady
    | split
    | dsimp only
    | intro _

theorem State.modUnit_steady {s : State} {u : State} (k : Steady s u) (a0) (a1) :
    Steady s (State.modUnit a0 a1 u) := by
  unfold State.modUnit
  with_reducible repeat' first
    | assumption
    | apply steady_ite
    | (intro h; exact h)
    | (intro h; (try split) <;> (simp only [List.length_append, List.length_cons, List.length_nil, List.length_tail]; first | assumption | omega))
    | (intro x h; simp only [FaultS.canonical, Bool.and_eq_true] at h ⊢; (repeat' split) <;> (simp only [h, Tab.set_wf, Tab.mod_wf, Tab.put_wf, Tab.erase_wf, Tab.remap_wf, Tab.filter_wf, Tab.wf_nil, Tab.foldl_set_wf, Tab.foldl_mod_wf, loaded_wf, mergeActivity_wf, and_self]; done))
    | refine State.modFlt_steady ?_ ?_ ?_ 
    | split
    | dsimp only
    | intro _

theorem State.modRebuild_steady {s : State} {u : State} (k : Steady s u) (a0) (a1) :
    Steady s (State.modRebuild a0 a1 u) := by
  unfold State.modRebuild
  with_reducible repeat' first
    | assumption
    | apply steady_ite
    | (intro x h; simp only [ScrubS.canonical, Bool.and_eq_true] at h ⊢; (repeat' split) <;> (simp only [h, Tab.set_wf, Tab.mod_wf, Tab.put_wf, Tab.erase_wf, Tab.remap_wf, Tab.filter_wf, Tab.wf_nil, Tab.foldl_set_wf, Tab.foldl_mod_wf, loaded_wf, mergeActivity_wf, and_self]; done))
    | refine State.modScr_steady ?_ ?_ 
    | split
    | dsimp only
    | intro _

theorem State.modSram_steady {s : State} {u : State} (k : Steady s u) (a0) (a1) :
    Steady s (State.modSram a0 a1 u) := by
  unfold State.modSram
  with_reducible repeat' first
    | assumption
    | apply steady_ite
    | (intro x h; simp only [StagingS.canonical, Bool.and_eq_true] at h ⊢; (repeat' split) <;> (simp only [h, Tab.set_wf, Tab.mod_wf, Tab.put_wf, Tab.erase_wf, Tab.remap_wf, Tab.filter_wf, Tab.wf_nil, Tab.foldl_set_wf, Tab.foldl_mod_wf, loaded_wf, mergeActivity_wf, and_self]; done))
    | refine State.modStg_steady ?_ ?_ 
    | split
    | dsimp only
    | intro _

theorem State.answer_steady {s : State} {u : State} (k : Steady s u) (a0) :
    Steady s (State.answer a0 u).2.2 := by
  unfold State.answer
  with_reducible repeat' first
    | assumption
    | apply steady_ite
    | apply steady_ite_acc
    | split
    | dsimp only
    | intro _

theorem guarded_steady {s : State} {a3 : State → Acc} (ka3 : ∀  v, Steady s v → Steady s (a3  v).2.2) {u : State} (k : Steady s u) (a0) (a1) (a2) :
    Steady s (guarded a0 a1 a2 a3 u).2.2 := by
  unfold guarded
  with_reducible repeat' first
    | assumption
    | apply steady_ite
    | apply steady_ite_acc
    | apply State.answer_steady
    | refine ka3  _ ?_
    | split
    | dsimp only
    | intro _

theorem accessed_steady {s u v : State} (k : Steady s u) (k' : Steady s v) : SteadyR s (accessed u v) := by
  unfold accessed
  exact .next (steady_ite k' k)

theorem respond_steady {s : State} {u : Acc} (k : Steady s u.2.2) (a0) (a1) (a2) :
    Steady s (respond a0 a1 a2 u) := by
  unfold respond
  with_reducible repeat' first
    | assumption
    | apply steady_ite
    | (intro x h; simp only [ObjS.canonical, Bool.and_eq_true] at h ⊢; (repeat' split) <;> (simp only [h, Tab.set_wf, Tab.mod_wf, Tab.put_wf, Tab.erase_wf, Tab.remap_wf, Tab.filter_wf, Tab.wf_nil, Tab.foldl_set_wf, Tab.foldl_mod_wf, loaded_wf, mergeActivity_wf, and_self]; done))
    | refine State.modObj_steady ?_ ?_ 
    | apply State.respondTo_steady
    | split
    | dsimp only
    | intro _

theorem respondAccess_steady {s : State} {u : Acc} (k : Steady s u.2.2) (a0) (a1) (a2) :
    Steady s (respondAccess a0 a1 a2 u) := by
  unfold respondAccess
  with_reducible repeat' first
    | assumption
    | apply steady_ite
    | apply respond_steady
    | split
    | dsimp only
    | intro _

theorem State.ticketStart_steady {s : State} {u : State} (k : Steady s u) (a0) (a1) (a2) :
    Steady s (State.ticketStart a0 a1 a2 u).2 := by
  unfold State.ticketStart
  with_reducible repeat' first
    | assumption
    | apply steady_ite
    | apply steady_ite_snd
    | (intro x h; simp only [ObjS.canonical, Bool.and_eq_true] at h ⊢; (repeat' split) <;> (simp only [h, Tab.set_wf, Tab.mod_wf, Tab.put_wf, Tab.erase_wf, Tab.remap_wf, Tab.filter_wf, Tab.wf_nil, Tab.foldl_set_wf, Tab.foldl_mod_wf, loaded_wf, mergeActivity_wf, and_self]; done))
    | refine State.modObj_steady ?_ ?_ 
    | apply State.manage_steady
    | split
    | dsimp only
    | intro _

theorem State.deferred_steady {s : State} {a3 : Nat → State → State} (ka3 : ∀ x0 v, Steady s v → Steady s (a3 x0 v)) {u : State} (k : Steady s u) (a0) (a1) (a2) :
    Steady s (State.deferred a0 a1 a2 a3 u).2.2 := by
  unfold State.deferred
  with_reducible repeat' first
    | assumption
    | apply steady_ite
    | apply steady_ite_acc
    | apply State.ticketStart_steady
    | refine steady_snd_of_eq ‹State.ticketStart _ _ _ _ = _› (State.ticketStart_steady ?_ _ _ _)
    | refine ka3 _  _ ?_
    | split
    | dsimp only
    | intro _

theorem State.cxlEvent_steady {s : State} {u : State} (k : Steady s u) (a0) (a1) :
    Steady s (State.cxlEvent a0 a1 u) := by
  unfold State.cxlEvent
  with_reducible repeat' first
    | assumption
    | apply steady_ite
    | apply State.emit_steady
    | apply State.msix_steady
    | split
    | dsimp only
    | intro _

theorem State.modPair_steady {s : State} {u : State} (k : Steady s u) (a0) (a1) (a2) :
    Steady s (State.modPair a0 a1 a2 u) := by
  unfold State.modPair
  with_reducible repeat' first
    | assumption
    | apply steady_ite
    | (intro x h; simp only [ExtS.canonical, Bool.and_eq_true] at h ⊢; (repeat' split) <;> (simp only [h, Tab.set_wf, Tab.mod_wf, Tab.put_wf, Tab.erase_wf, Tab.remap_wf, Tab.filter_wf, Tab.wf_nil, Tab.foldl_set_wf, Tab.foldl_mod_wf, loaded_wf, mergeActivity_wf, and_self]; done))
    | refine State.modExt_steady ?_ ?_ 
    | split
    | dsimp only
    | intro _

theorem State.noteWriter_steady {s : State} {u : State} (k : Steady s u) (a0) (a1) (a2) :
    Steady s (State.noteWriter a0 a1 a2 u) := by
  unfold State.noteWriter
  with_reducible repeat' first
    | assumption
    | apply steady_ite
    | (intro x h; simp only [ObjS.canonical, Bool.and_eq_true] at h ⊢; (repeat' split) <;> (simp only [h, Tab.set_wf, Tab.mod_wf, Tab.put_wf, Tab.erase_wf, Tab.remap_wf, Tab.filter_wf, Tab.wf_nil, Tab.foldl_set_wf, Tab.foldl_mod_wf, loaded_wf, mergeActivity_wf, and_self]; done))
    | refine State.modObj_steady ?_ ?_ 
    | split
    | dsimp only
    | intro _

theorem State.storeConfig_steady {s : State} {u : State} (k : Steady s u)  :
    Steady s (State.storeConfig u) := by
  unfold State.storeConfig
  with_reducible repeat' first
    | assumption
    | apply steady_ite
    | apply State.countPages_steady
    | split
    | dsimp only
    | intro _

theorem State.plcaStart_steady {s : State} {u : State} (k : Steady s u)  :
    Steady s (State.plcaStart u) := by
  unfold State.plcaStart
  with_reducible repeat' first
    | assumption
    | apply steady_ite
    | (intro x h; simp only [WopS.canonical, Bool.and_eq_true] at h ⊢; (repeat' split) <;> (simp only [h, Tab.set_wf, Tab.mod_wf, Tab.put_wf, Tab.erase_wf, Tab.remap_wf, Tab.filter_wf, Tab.wf_nil, Tab.foldl_set_wf, Tab.foldl_mod_wf, loaded_wf, mergeActivity_wf, and_self]; done))
    | refine State.modWop_steady ?_ ?_ 
    | split
    | dsimp only
    | intro _

theorem State.setCfg_steady {s : State} {u : State} (k : Steady s u) (a0) (a1) (a2) :
    Steady s (State.setCfg a0 a1 a2 u) := by
  unfold State.setCfg
  with_reducible repeat' first
    | assumption
    | apply steady_ite
    | (intro x h; simp only [ObjS.canonical, Bool.and_eq_true] at h ⊢; (repeat' split) <;> (simp only [h, Tab.set_wf, Tab.mod_wf, Tab.put_wf, Tab.erase_wf, Tab.remap_wf, Tab.filter_wf, Tab.wf_nil, Tab.foldl_set_wf, Tab.foldl_mod_wf, loaded_wf, mergeActivity_wf, and_self]; done))
    | refine State.modObj_steady ?_ ?_ 
    | split
    | dsimp only
    | intro _

theorem State.afterCfg_steady {s : State} {u : State} (k : Steady s u) (a0) (a1) :
    Steady s (State.afterCfg a0 a1 u) := by
  unfold State.afterCfg
  with_reducible repeat' first
    | assumption
    | apply steady_ite
    | (intro x h; simp only [WopS.canonical, Bool.and_eq_true] at h ⊢; (repeat' split) <;> (simp only [h, Tab.set_wf, Tab.mod_wf, Tab.put_wf, Tab.erase_wf, Tab.remap_wf, Tab.filter_wf, Tab.wf_nil, Tab.foldl_set_wf, Tab.foldl_mod_wf, loaded_wf, mergeActivity_wf, and_self]; done))
    | (intro x h; simp only [PowerS.canonical, Bool.and_eq_true] at h ⊢; (repeat' split) <;> (simp only [h, Tab.set_wf, Tab.mod_wf, Tab.put_wf, Tab.erase_wf, Tab.remap_wf, Tab.filter_wf, Tab.wf_nil, Tab.foldl_set_wf, Tab.foldl_mod_wf, loaded_wf, mergeActivity_wf, and_self]; done))
    | (intro x h; simp only [TallyS.canonical, Bool.and_eq_true] at h ⊢; (repeat' split) <;> (simp only [h, Tab.set_wf, Tab.mod_wf, Tab.put_wf, Tab.erase_wf, Tab.remap_wf, Tab.filter_wf, Tab.wf_nil, Tab.foldl_set_wf, Tab.foldl_mod_wf, loaded_wf, mergeActivity_wf, and_self]; done))
    | (intro x; (try dsimp only); (repeat' split) <;> (simp only [Nat.le_refl]; done))
    | (intro x; dsimp only; omega)
    | (intro x h; simp only [WbS.canonical, Bool.and_eq_true] at h ⊢; (repeat' split) <;> (simp only [h, Tab.set_wf, Tab.mod_wf, Tab.put_wf, Tab.erase_wf, Tab.remap_wf, Tab.filter_wf, Tab.wf_nil, Tab.foldl_set_wf, Tab.foldl_mod_wf, loaded_wf, mergeActivity_wf, and_self]; done))
    | refine State.modWb_steady ?_ ?_ ?_ 
    | apply State.modCox_steady
    | refine State.modTly_steady ?_ ?_ 
    | refine State.modPwr_steady ?_ ?_ 
    | refine State.modWop_steady ?_ ?_ 
    | apply State.creditSync_steady
    | apply State.applyMode_steady
    | apply State.plcaStart_steady
    | apply State.setCfg_steady
    | split
    | dsimp only
    | intro _

theorem State.notifyObject_steady {s : State} {u : State} (k : Steady s u) (a0) (a1) :
    Steady s (State.notifyObject a0 a1 u) := by
  unfold State.notifyObject
  with_reducible repeat' first
    | assumption
    | apply steady_ite
    | apply State.notify_steady
    | split
    | dsimp only
    | intro _

theorem State.applyCfg_steady {s : State} {u : State} (k : Steady s u) (a0) (a1) (a2) :
    Steady s (State.applyCfg a0 a1 a2 u) := by
  unfold State.applyCfg
  with_reducible repeat' first
    | assumption
    | apply steady_ite
    | apply State.emit_steady
    | apply State.setCfg_steady
    | apply State.afterCfg_steady
    | apply State.notifyObject_steady
    | split
    | dsimp only
    | intro _

theorem State.putObject_steady {s : State} {u : State} (k : Steady s u) (a0) (a1) (a2) (a3) (a4) :
    Steady s (State.putObject a0 a1 a2 a3 a4 u).2.2 := by
  unfold State.putObject
  with_reducible repeat' first
    | assumption
    | apply steady_ite
    | apply steady_ite_acc
    | (intro x h; simp only [ObjS.canonical, Bool.and_eq_true] at h ⊢; (repeat' split) <;> (simp only [h, Tab.set_wf, Tab.mod_wf, Tab.put_wf, Tab.erase_wf, Tab.remap_wf, Tab.filter_wf, Tab.wf_nil, Tab.foldl_set_wf, Tab.foldl_mod_wf, loaded_wf, mergeActivity_wf, and_self]; done))
    | refine State.modObj_steady ?_ ?_ 
    | apply State.when_steady
    | apply State.manage_steady
    | apply State.answer_steady
    | apply State.deferred_steady
    | apply State.noteWriter_steady
    | apply State.storeConfig_steady
    | apply State.applyCfg_steady
    | split
    | dsimp only
    | intro _

theorem State.modRegion_steady {s : State} {u : State} (k : Steady s u) (a0) (a1) :
    Steady s (State.modRegion a0 a1 u) := by
  unfold State.modRegion
  with_reducible repeat' first
    | assumption
    | apply steady_ite
    | (intro x h; simp only [ExtS.canonical, Bool.and_eq_true] at h ⊢; (repeat' split) <;> (simp only [h, Tab.set_wf, Tab.mod_wf, Tab.put_wf, Tab.erase_wf, Tab.remap_wf, Tab.filter_wf, Tab.wf_nil, Tab.foldl_set_wf, Tab.foldl_mod_wf, loaded_wf, mergeActivity_wf, and_self]; done))
    | refine State.modExt_steady ?_ ?_ 
    | split
    | dsimp only
    | intro _

theorem State.deferRecord_steady {s : State} {u : State} (k : Steady s u) (a0) (a1) (a2) (a3) :
    Steady s (State.deferRecord a0 a1 a2 a3 u).2.2 := by
  unfold State.deferRecord
  with_reducible repeat' first
    | assumption
    | apply steady_ite
    | apply steady_ite_acc
    | (intro x h; simp only [ObjS.canonical, Bool.and_eq_true] at h ⊢; (repeat' split) <;> (simp only [h, Tab.set_wf, Tab.mod_wf, Tab.put_wf, Tab.erase_wf, Tab.remap_wf, Tab.filter_wf, Tab.wf_nil, Tab.foldl_set_wf, Tab.foldl_mod_wf, loaded_wf, mergeActivity_wf, and_self]; done))
    | refine State.modObj_steady ?_ ?_ 
    | apply State.manage_steady
    | apply State.deferred_steady
    | split
    | dsimp only
    | intro _

theorem State.putRecord_steady {s : State} {a4 : State → State} (ka4 : ∀  v, Steady s v → Steady s (a4  v)) {u : State} (k : Steady s u) (a0) (a1) (a2) (a3) :
    Steady s (State.putRecord a0 a1 a2 a3 a4 u).2.2 := by
  unfold State.putRecord
  with_reducible repeat' first
    | assumption
    | apply steady_ite
    | apply steady_ite_acc
    | apply State.manage_steady
    | apply State.answer_steady
    | apply State.storeConfig_steady
    | apply State.notifyObject_steady
    | apply State.deferRecord_steady
    | refine ka4  _ ?_
    | split
    | dsimp only
    | intro _

theorem State.modExtent_steady {s : State} {u : State} (k : Steady s u) (a0) (a1) :
    Steady s (State.modExtent a0 a1 u) := by
  unfold State.modExtent
  with_reducible repeat' first
    | assumption
    | apply steady_ite
    | (intro x h; simp only [ExtS.canonical, Bool.and_eq_true] at h ⊢; (repeat' split) <;> (simp only [h, Tab.set_wf, Tab.mod_wf, Tab.put_wf, Tab.erase_wf, Tab.remap_wf, Tab.filter_wf, Tab.wf_nil, Tab.foldl_set_wf, Tab.foldl_mod_wf, loaded_wf, mergeActivity_wf, and_self]; done))
    | refine State.modExt_steady ?_ ?_ 
    | split
    | dsimp only
    | intro _

theorem State.modSeatOf_steady {s : State} {u : State} (k : Steady s u) (a0) (a1) :
    Steady s (State.modSeatOf a0 a1 u) := by
  unfold State.modSeatOf
  with_reducible repeat' first
    | assumption
    | apply steady_ite
    | (intro x h; simp only [SeatBusS.canonical, Bool.and_eq_true] at h ⊢; (repeat' split) <;> (simp only [h, Tab.set_wf, Tab.mod_wf, Tab.put_wf, Tab.erase_wf, Tab.remap_wf, Tab.filter_wf, Tab.wf_nil, Tab.foldl_set_wf, Tab.foldl_mod_wf, loaded_wf, mergeActivity_wf, and_self]; done))
    | refine State.modSeat_steady ?_ ?_ 
    | split
    | dsimp only
    | intro _

theorem State.setSel_steady {s : State} {u : State} (k : Steady s u) (a0) (a1) (a2) (a3) :
    Steady s (State.setSel a0 a1 a2 a3 u) := by
  unfold State.setSel
  with_reducible repeat' first
    | assumption
    | apply steady_ite
    | (intro x h; simp only [ObjS.canonical, Bool.and_eq_true] at h ⊢; (repeat' split) <;> (simp only [h, Tab.set_wf, Tab.mod_wf, Tab.put_wf, Tab.erase_wf, Tab.remap_wf, Tab.filter_wf, Tab.wf_nil, Tab.foldl_set_wf, Tab.foldl_mod_wf, loaded_wf, mergeActivity_wf, and_self]; done))
    | refine State.modObj_steady ?_ ?_ 
    | split
    | dsimp only
    | intro _

theorem State.setCursor_steady {s : State} {u : State} (k : Steady s u) (a0) (a1) (a2) :
    Steady s (State.setCursor a0 a1 a2 u) := by
  unfold State.setCursor
  with_reducible repeat' first
    | assumption
    | apply steady_ite
    | apply State.setSel_steady
    | split
    | dsimp only
    | intro _

theorem State.modInput_steady {s : State} {u : State} (k : Steady s u) (a0) (a1) :
    Steady s (State.modInput a0 a1 u) := by
  unfold State.modInput
  with_reducible repeat' first
    | assumption
    | apply steady_ite
    | (intro x h; simp only [ThermS.canonical, Bool.and_eq_true] at h ⊢; (repeat' split) <;> (simp only [h, Tab.set_wf, Tab.mod_wf, Tab.put_wf, Tab.erase_wf, Tab.remap_wf, Tab.filter_wf, Tab.wf_nil, Tab.foldl_set_wf, Tab.foldl_mod_wf, loaded_wf, mergeActivity_wf, and_self]; done))
    | refine State.modThm_steady ?_ ?_ 
    | split
    | dsimp only
    | intro _

theorem State.modSource_steady {s : State} {u : State} (k : Steady s u) (a0) (a1) :
    Steady s (State.modSource a0 a1 u) := by
  unfold State.modSource
  with_reducible repeat' first
    | assumption
    | apply steady_ite
    | (intro h; exact h)
    | (intro h; (try split) <;> (simp only [List.length_append, List.length_cons, List.length_nil, List.length_tail]; first | assumption | omega))
    | (intro x h; simp only [FaultS.canonical, Bool.and_eq_true] at h ⊢; (repeat' split) <;> (simp only [h, Tab.set_wf, Tab.mod_wf, Tab.put_wf, Tab.erase_wf, Tab.remap_wf, Tab.filter_wf, Tab.wf_nil, Tab.foldl_set_wf, Tab.foldl_mod_wf, loaded_wf, mergeActivity_wf, and_self]; done))
    | refine State.modFlt_steady ?_ ?_ ?_ 
    | split
    | dsimp only
    | intro _

theorem State.sendAddressProbe_steady {s : State} {u : State} (k : Steady s u)  :
    Steady s (State.sendAddressProbe u) := by
  unfold State.sendAddressProbe
  with_reducible repeat' first
    | assumption
    | apply steady_ite
    | (intro x h; simp only [WopS.canonical, Bool.and_eq_true] at h ⊢; (repeat' split) <;> (simp only [h, Tab.set_wf, Tab.mod_wf, Tab.put_wf, Tab.erase_wf, Tab.remap_wf, Tab.filter_wf, Tab.wf_nil, Tab.foldl_set_wf, Tab.foldl_mod_wf, loaded_wf, mergeActivity_wf, and_self]; done))
    | refine State.modWop_steady ?_ ?_ 
    | apply State.emit_steady
    | split
    | dsimp only
    | intro _

theorem State.holdLink_steady {s : State} {u : State} (k : Steady s u) (a0) :
    Steady s (State.holdLink a0 u) := by
  unfold State.holdLink
  with_reducible repeat' first
    | assumption
    | apply steady_ite
    | apply State.linkDown_steady
    | apply State.applyMode_steady
    | split
    | dsimp only
    | intro _

theorem reply_steady {s : State} {u : Acc} (k : Steady s u.2.2) (a0) (a1) (a2) :
    Steady s (reply a0 a1 a2 u) := by
  unfold reply
  with_reducible repeat' first
    | assumption
    | apply steady_ite
    | apply State.emit_steady
    | split
    | dsimp only
    | intro _

end Sys2Proof.Machine
end

