-- ==== Sys2Proof/Laws/SteadyPath.lean ====
section
/-! SUPPORT. What every operation and meaning leaves true (the read and write paths). -/

set_option Elab.async false

set_option linter.unusedTactic false
set_option linter.unreachableTactic false
set_option linter.unnecessarySeqFocus false
set_option linter.unusedSimpArgs false

namespace Sys2Proof.Machine

theorem State.easySlots_steady {s : State} {u : State} (k : Steady s u) (a0) (a1) :
    Steady s (State.easySlots a0 a1 u) := by
  unfold State.easySlots
  with_reducible repeat' first
    | assumption
    | apply steady_ite
    | apply State.modEasy_steady
    | refine forEach_steady (fun _ _ _ => ?_) ?_ _
    | apply State.ticketDone_steady
    | split
    | dsimp only
    | intro _

theorem State.easyLeave_steady {s : State} {u : State} (k : Steady s u)  :
    Steady s (State.easyLeave u) := by
  unfold State.easyLeave
  with_reducible repeat' first
    | assumption
    | apply steady_ite
    | (intro x h; simp only [PowerS.canonical, Bool.and_eq_true] at h ⊢; (repeat' split) <;> (simp only [h, Tab.set_wf, Tab.mod_wf, Tab.put_wf, Tab.erase_wf, Tab.remap_wf, Tab.filter_wf, Tab.wf_nil, Tab.foldl_set_wf, Tab.foldl_mod_wf, loaded_wf, mergeActivity_wf, and_self]; done))
    | refine State.modPwr_steady ?_ ?_ 
    | apply State.modEasy_steady
    | apply State.easySlots_steady
    | apply State.boundSync_steady
    | apply State.creditSync_steady
    | split
    | dsimp only
    | intro _

theorem State.easyCheck_steady {s : State} {u : State} (k : Steady s u)  :
    Steady s (State.easyCheck u) := by
  unfold State.easyCheck
  with_reducible repeat' first
    | assumption
    | apply steady_ite
    | apply State.easyLeave_steady
    | apply State.easyEnter_steady
    | split
    | dsimp only
    | intro _

theorem State.spareCheck_steady {s : State} {u : State} (k : Steady s u) (a0) :
    Steady s (State.spareCheck a0 u) := by
  unfold State.spareCheck
  with_reducible repeat' first
    | assumption
    | apply steady_ite
    | (intro x h; simp only [TractS.canonical, Bool.and_eq_true] at h ⊢; (repeat' split) <;> (simp only [h, Tab.set_wf, Tab.mod_wf, Tab.put_wf, Tab.erase_wf, Tab.remap_wf, Tab.filter_wf, Tab.wf_nil, Tab.foldl_set_wf, Tab.foldl_mod_wf, loaded_wf, mergeActivity_wf, and_self]; done))
    | refine State.modTrc_steady ?_ ?_ 
    | apply State.report_steady
    | split
    | dsimp only
    | intro _

theorem State.freeTract_steady {s : State} {u : State} (k : Steady s u) (a0) (a1) :
    Steady s (State.freeTract a0 a1 u) := by
  unfold State.freeTract
  with_reducible repeat' first
    | assumption
    | apply steady_ite
    | (intro x h; simp only [TractS.canonical, Bool.and_eq_true] at h ⊢; (repeat' split) <;> (simp only [h, Tab.set_wf, Tab.mod_wf, Tab.put_wf, Tab.erase_wf, Tab.remap_wf, Tab.filter_wf, Tab.wf_nil, Tab.foldl_set_wf, Tab.foldl_mod_wf, loaded_wf, mergeActivity_wf, and_self]; done))
    | refine State.modTrc_steady ?_ ?_ 
    | refine forEach_steady (fun _ _ _ => ?_) ?_ _
    | apply State.when_steady
    | apply State.storeWrite_steady
    | apply State.modChannel_steady
    | apply State.spareCheck_steady
    | split
    | dsimp only
    | intro _

theorem State.heatOf_steady {s : State} {u : State} (k : Steady s u) (a0) :
    Steady s (State.heatOf a0 u) := by
  unfold State.heatOf
  with_reducible repeat' first
    | assumption
    | apply steady_ite
    | apply State.modActivity_steady
    | split
    | dsimp only
    | intro _

theorem State.wear_steady {s : State} {u : State} (k : Steady s u) (a0) :
    Steady s (State.wear a0 u) := by
  unfold State.wear
  with_reducible repeat' first
    | assumption
    | apply steady_ite
    | (intro x h; simp only [TractS.canonical, Bool.and_eq_true] at h ⊢; (repeat' split) <;> (simp only [h, Tab.set_wf, Tab.mod_wf, Tab.put_wf, Tab.erase_wf, Tab.remap_wf, Tab.filter_wf, Tab.wf_nil, Tab.foldl_set_wf, Tab.foldl_mod_wf, loaded_wf, mergeActivity_wf, and_self]; done))
    | refine State.modTrc_steady ?_ ?_ 
    | split
    | dsimp only
    | intro _

theorem State.putGranule_steady {s : State} {u : State} (k : Steady s u) (a0) (a1) :
    Steady s (State.putGranule a0 a1 u) := by
  unfold State.putGranule
  with_reducible repeat' first
    | assumption
    | apply steady_ite
    | (intro x h; simp only [MediaS.canonical, Bool.and_eq_true] at h ⊢; (repeat' split) <;> (simp only [h, Tab.set_wf, Tab.mod_wf, Tab.put_wf, Tab.erase_wf, Tab.remap_wf, Tab.filter_wf, Tab.wf_nil, Tab.foldl_set_wf, Tab.foldl_mod_wf, loaded_wf, mergeActivity_wf, and_self]; done))
    | refine State.modMed_steady ?_ ?_ 
    | split
    | dsimp only
    | intro _

theorem State.programNow_steady {s : State} {u : State} (k : Steady s u) (a0) (a1) :
    Steady s (State.programNow a0 a1 u) := by
  unfold State.programNow
  with_reducible repeat' first
    | assumption
    | apply steady_ite
    | apply State.modDie_steady
    | apply State.heatOf_steady
    | apply State.wear_steady
    | apply State.putGranule_steady
    | split
    | dsimp only
    | intro _

theorem State.ckptProgram_steady {s : State} {u : State} (k : Steady s u) (a0) (a1) :
    Steady s (State.ckptProgram a0 a1 u) := by
  unfold State.ckptProgram
  with_reducible repeat' first
    | assumption
    | apply steady_ite
    | refine forEach_steady (fun _ _ _ => ?_) ?_ _
    | apply State.programNow_steady
    | split
    | dsimp only
    | intro _

theorem State.checkpointB_steady {s : State} {u : State} (k : Steady s u) (a0) :
    Steady s (State.checkpointB a0 u) := by
  unfold State.checkpointB
  with_reducible repeat' first
    | assumption
    | apply steady_ite
    | (intro x h; simp only [TractS.canonical, Bool.and_eq_true] at h ⊢; (repeat' split) <;> (simp only [h, Tab.set_wf, Tab.mod_wf, Tab.put_wf, Tab.erase_wf, Tab.remap_wf, Tab.filter_wf, Tab.wf_nil, Tab.foldl_set_wf, Tab.foldl_mod_wf, loaded_wf, mergeActivity_wf, and_self]; done))
    | refine State.modTrc_steady ?_ ?_ 
    | apply State.ckptProgram_steady
    | split
    | dsimp only
    | intro _

theorem State.checkpointA_steady {s : State} {u : State} (k : Steady s u) (a0) :
    Steady s (State.checkpointA a0 u) := by
  unfold State.checkpointA
  with_reducible repeat' first
    | assumption
    | apply steady_ite
    | (intro x h; simp only [TractS.canonical, Bool.and_eq_true] at h ⊢; (repeat' split) <;> (simp only [h, Tab.set_wf, Tab.mod_wf, Tab.put_wf, Tab.erase_wf, Tab.remap_wf, Tab.filter_wf, Tab.wf_nil, Tab.foldl_set_wf, Tab.foldl_mod_wf, loaded_wf, mergeActivity_wf, and_self]; done))
    | refine State.modTrc_steady ?_ ?_ 
    | apply State.ckptProgram_steady
    | split
    | dsimp only
    | intro _

theorem State.checkpoint_steady {s : State} {u : State} (k : Steady s u) (a0) :
    Steady s (State.checkpoint a0 u) := by
  unfold State.checkpoint
  with_reducible repeat' first
    | assumption
    | apply steady_ite
    | apply State.checkpointB_steady
    | apply State.checkpointA_steady
    | split
    | dsimp only
    | intro _

theorem State.putEntry_steady {s : State} {u : State} (k : Steady s u) (a0) (a1) :
    Steady s (State.putEntry a0 a1 u) := by
  unfold State.putEntry
  with_reducible repeat' first
    | assumption
    | apply steady_ite
    | apply State.checkpoint_steady
    | apply State.modEntry_steady
    | split
    | dsimp only
    | intro _

theorem State.complete_steady {s : State} {u : State} (k : Steady s u) (a0) (a1) (a2) :
    Steady s (State.complete a0 a1 a2 u) := by
  unfold State.complete
  with_reducible repeat' first
    | assumption
    | apply steady_ite
    | refine forEach_steady (fun _ _ _ => ?_) ?_ _
    | apply State.emit_steady
    | apply State.modHead_steady
    | split
    | dsimp only
    | intro _

theorem State.discardOpen_steady {s : State} {u : State} (k : Steady s u) (a0) :
    Steady s (State.discardOpen a0 u) := by
  unfold State.discardOpen
  with_reducible repeat' first
    | assumption
    | apply steady_ite
    | (intro x; (try dsimp only); (repeat' split) <;> (simp only [Nat.le_refl]; done))
    | (intro x; dsimp only; omega)
    | (intro x h; simp only [WbS.canonical, Bool.and_eq_true] at h ⊢; (repeat' split) <;> (simp only [h, Tab.set_wf, Tab.mod_wf, Tab.put_wf, Tab.erase_wf, Tab.remap_wf, Tab.filter_wf, Tab.wf_nil, Tab.foldl_set_wf, Tab.foldl_mod_wf, loaded_wf, mergeActivity_wf, and_self]; done))
    | refine State.modWb_steady ?_ ?_ ?_ 
    | refine forEach_steady (fun _ _ _ => ?_) ?_ _
    | apply State.complete_steady
    | split
    | dsimp only
    | intro _

theorem State.countEcc_steady {s : State} {u : State} (k : Steady s u) (a0) :
    Steady s (State.countEcc a0 u) := by
  unfold State.countEcc
  with_reducible repeat' first
    | assumption
    | apply steady_ite
    | (intro x h; simp only [ScrubS.canonical, Bool.and_eq_true] at h ⊢; (repeat' split) <;> (simp only [h, Tab.set_wf, Tab.mod_wf, Tab.put_wf, Tab.erase_wf, Tab.remap_wf, Tab.filter_wf, Tab.wf_nil, Tab.foldl_set_wf, Tab.foldl_mod_wf, loaded_wf, mergeActivity_wf, and_self]; done))
    | refine State.modScr_steady ?_ ?_ 
    | split
    | dsimp only
    | intro _

theorem State.queueRewrite_steady {s : State} {u : State} (k : Steady s u) (a0) :
    Steady s (State.queueRewrite a0 u) := by
  unfold State.queueRewrite
  with_reducible repeat' first
    | assumption
    | apply steady_ite
    | (intro x h; simp only [ScrubS.canonical, Bool.and_eq_true] at h ⊢; (repeat' split) <;> (simp only [h, Tab.set_wf, Tab.mod_wf, Tab.put_wf, Tab.erase_wf, Tab.remap_wf, Tab.filter_wf, Tab.wf_nil, Tab.foldl_set_wf, Tab.foldl_mod_wf, loaded_wf, mergeActivity_wf, and_self]; done))
    | refine State.modScr_steady ?_ ?_ 
    | apply State.modEntry_steady
    | apply State.countEcc_steady
    | split
    | dsimp only
    | intro _

theorem State.sqSeen_steady {s : State} {u : State} (k : Steady s u) (a0) (a1) :
    Steady s (State.sqSeen a0 a1 u) := by
  unfold State.sqSeen
  with_reducible repeat' first
    | assumption
    | apply steady_ite
    | apply State.modDie_steady
    | apply State.queueRewrite_steady
    | split
    | dsimp only
    | intro _

theorem State.queueMig_steady {s : State} {u : State} (k : Steady s u) (a0) (a1) :
    Steady s (State.queueMig a0 a1 u) := by
  unfold State.queueMig
  with_reducible repeat' first
    | assumption
    | apply steady_ite
    | (intro x h; simp only [TractS.canonical, Bool.and_eq_true] at h ⊢; (repeat' split) <;> (simp only [h, Tab.set_wf, Tab.mod_wf, Tab.put_wf, Tab.erase_wf, Tab.remap_wf, Tab.filter_wf, Tab.wf_nil, Tab.foldl_set_wf, Tab.foldl_mod_wf, loaded_wf, mergeActivity_wf, and_self]; done))
    | refine State.modTrc_steady ?_ ?_ 
    | split
    | dsimp only
    | intro _

theorem State.readsGrown_steady {s : State} {u : State} (k : Steady s u) (a0) :
    Steady s (State.readsGrown a0 u) := by
  unfold State.readsGrown
  with_reducible repeat' first
    | assumption
    | apply steady_ite
    | apply State.queueMig_steady
    | split
    | dsimp only
    | intro _

theorem State.holdCount_steady {s : State} {u : State} (k : Steady s u) (a0) :
    Steady s (State.holdCount a0 u) := by
  unfold State.holdCount
  with_reducible repeat' first
    | assumption
    | apply steady_ite
    | (intro x h; simp only [TractS.canonical, Bool.and_eq_true] at h ⊢; (repeat' split) <;> (simp only [h, Tab.set_wf, Tab.mod_wf, Tab.put_wf, Tab.erase_wf, Tab.remap_wf, Tab.filter_wf, Tab.wf_nil, Tab.foldl_set_wf, Tab.foldl_mod_wf, loaded_wf, mergeActivity_wf, and_self]; done))
    | refine State.modTrc_steady ?_ ?_ 
    | apply State.modActivity_steady
    | apply State.readsGrown_steady
    | split
    | dsimp only
    | intro _

theorem State.countSenses_steady {s : State} {u : State} (k : Steady s u) (a0) (a1) :
    Steady s (State.countSenses a0 a1 u) := by
  unfold State.countSenses
  with_reducible repeat' first
    | assumption
    | apply steady_ite
    | apply State.modActivity_steady
    | apply State.readsGrown_steady
    | apply State.holdCount_steady
    | split
    | dsimp only
    | intro _

theorem State.countSense_steady {s : State} {u : State} (k : Steady s u) (a0) :
    Steady s (State.countSense a0 u) := by
  unfold State.countSense
  with_reducible repeat' first
    | assumption
    | apply steady_ite
    | apply State.countSenses_steady
    | split
    | dsimp only
    | intro _

theorem State.eccSeen_steady {s : State} {u : State} (k : Steady s u) (a0) (a1) (a2) (a3) :
    Steady s (State.eccSeen a0 a1 a2 a3 u) := by
  unfold State.eccSeen
  with_reducible repeat' first
    | assumption
    | apply steady_ite
    | apply State.modDie_steady
    | apply State.countEcc_steady
    | apply State.queueRewrite_steady
    | apply State.sqSeen_steady
    | apply State.countSense_steady
    | split
    | dsimp only
    | intro _

theorem State.modRead_steady {s : State} {u : State} (k : Steady s u) (a0) (a1) :
    Steady s (State.modRead a0 a1 u) := by
  unfold State.modRead
  with_reducible repeat' first
    | assumption
    | apply steady_ite
    | apply State.modRdp_steady
    | split
    | dsimp only
    | intro _

theorem State.reserve_steady {s : State} {u : State} (k : Steady s u) (a0) :
    Steady s (State.reserve a0 u) := by
  unfold State.reserve
  with_reducible repeat' first
    | assumption
    | apply steady_ite
    | (intro x h; simp only [MediaS.canonical, Bool.and_eq_true] at h ⊢; (repeat' split) <;> (simp only [h, Tab.set_wf, Tab.mod_wf, Tab.put_wf, Tab.erase_wf, Tab.remap_wf, Tab.filter_wf, Tab.wf_nil, Tab.foldl_set_wf, Tab.foldl_mod_wf, loaded_wf, mergeActivity_wf, and_self]; done))
    | refine State.modMed_steady ?_ ?_ 
    | split
    | dsimp only
    | intro _

theorem State.grant_steady {s : State} {u : State} (k : Steady s u) (a0) :
    Steady s (State.grant a0 u) := by
  unfold State.grant
  with_reducible repeat' first
    | assumption
    | apply steady_ite
    | apply State.modPlane_steady
    | apply State.reserve_steady
    | split
    | dsimp only
    | intro _

theorem State.addJob_steady {s : State} {u : State} (k : Steady s u) (a0) :
    Steady s (State.addJob a0 u) := by
  unfold State.addJob
  with_reducible repeat' first
    | assumption
    | apply steady_ite
    | apply State.modPlane_steady
    | apply State.grant_steady
    | split
    | dsimp only
    | intro _

theorem State.clearDie_steady {s : State} {u : State} (k : Steady s u) (a0) (a1) :
    Steady s (State.clearDie a0 a1 u) := by
  unfold State.clearDie
  with_reducible repeat' first
    | assumption
    | apply steady_ite
    | (intro x h; simp only [MediaS.canonical, Bool.and_eq_true] at h ⊢; (repeat' split) <;> (simp only [h, Tab.set_wf, Tab.mod_wf, Tab.put_wf, Tab.erase_wf, Tab.remap_wf, Tab.filter_wf, Tab.wf_nil, Tab.foldl_set_wf, Tab.foldl_mod_wf, loaded_wf, mergeActivity_wf, and_self]; done))
    | refine State.modMed_steady ?_ ?_ 
    | refine forEach_steady (fun _ _ _ => ?_) ?_ _
    | apply State.addJob_steady
    | split
    | dsimp only
    | intro _

theorem State.startClear_steady {s : State} {u : State} (k : Steady s u) (a0) :
    Steady s (State.startClear a0 u) := by
  unfold State.startClear
  with_reducible repeat' first
    | assumption
    | apply steady_ite
    | refine forEach_steady (fun _ _ _ => ?_) ?_ _
    | apply State.clearDie_steady
    | split
    | dsimp only
    | intro _

theorem State.readSensed_steady {s : State} {u : State} (k : Steady s u) (a0) :
    Steady s (State.readSensed a0 u) := by
  unfold State.readSensed
  with_reducible repeat' first
    | assumption
    | apply steady_ite
    | (intro x h; simp only [TractS.canonical, Bool.and_eq_true] at h ⊢; (repeat' split) <;> (simp only [h, Tab.set_wf, Tab.mod_wf, Tab.put_wf, Tab.erase_wf, Tab.remap_wf, Tab.filter_wf, Tab.wf_nil, Tab.foldl_set_wf, Tab.foldl_mod_wf, loaded_wf, mergeActivity_wf, and_self]; done))
    | refine State.modTrc_steady ?_ ?_ 
    | apply State.startClear_steady
    | split
    | dsimp only
    | intro _

theorem State.decided_steady {s : State} {u : State} (k : Steady s u) (a0) (a1) :
    Steady s (State.decided a0 a1 u) := by
  unfold State.decided
  with_reducible repeat' first
    | assumption
    | apply steady_ite
    | refine forEach_steady (fun _ _ _ => ?_) ?_ _
    | apply State.modRead_steady
    | apply State.readSensed_steady
    | split
    | dsimp only
    | intro _

theorem State.alarm_steady {s : State} {u : State} (k : Steady s u) (a0) (a1) :
    Steady s (State.alarm a0 a1 u) := by
  unfold State.alarm
  with_reducible repeat' first
    | assumption
    | apply steady_ite
    | (intro x h; simp only [IntegS.canonical, Bool.and_eq_true] at h ⊢; (repeat' split) <;> (simp only [h, Tab.set_wf, Tab.mod_wf, Tab.put_wf, Tab.erase_wf, Tab.remap_wf, Tab.filter_wf, Tab.wf_nil, Tab.foldl_set_wf, Tab.foldl_mod_wf, loaded_wf, mergeActivity_wf, and_self]; done))
    | refine State.modItg_steady ?_ ?_ 
    | apply State.headEvent_steady
    | apply State.report_steady
    | apply State.security_steady
    | split
    | dsimp only
    | intro _

theorem State.countTagFail_steady {s : State} {u : State} (k : Steady s u)  :
    Steady s (State.countTagFail u) := by
  unfold State.countTagFail
  with_reducible repeat' first
    | assumption
    | apply steady_ite
    | (intro x h; simp only [IntegS.canonical, Bool.and_eq_true] at h ⊢; (repeat' split) <;> (simp only [h, Tab.set_wf, Tab.mod_wf, Tab.put_wf, Tab.erase_wf, Tab.remap_wf, Tab.filter_wf, Tab.wf_nil, Tab.foldl_set_wf, Tab.foldl_mod_wf, loaded_wf, mergeActivity_wf, and_self]; done))
    | refine State.modItg_steady ?_ ?_ 
    | split
    | dsimp only
    | intro _

theorem State.decideRead_steady {s : State} {u : State} (k : Steady s u) (a0) :
    Steady s (State.decideRead a0 u) := by
  unfold State.decideRead
  with_reducible repeat' first
    | assumption
    | apply steady_ite
    | (intro x h; simp only [IntegS.canonical, Bool.and_eq_true] at h ⊢; (repeat' split) <;> (simp only [h, Tab.set_wf, Tab.mod_wf, Tab.put_wf, Tab.erase_wf, Tab.remap_wf, Tab.filter_wf, Tab.wf_nil, Tab.foldl_set_wf, Tab.foldl_mod_wf, loaded_wf, mergeActivity_wf, and_self]; done))
    | refine State.modItg_steady ?_ ?_ 
    | apply State.modRead_steady
    | apply State.decided_steady
    | apply State.alarm_steady
    | apply State.countTagFail_steady
    | split
    | dsimp only
    | intro _

theorem State.cannotRebuild_steady {s : State} {u : State} (k : Steady s u) (a0) :
    Steady s (State.cannotRebuild a0 u) := by
  unfold State.cannotRebuild
  with_reducible repeat' first
    | assumption
    | apply steady_ite
    | apply State.report_steady
    | apply State.countEcc_steady
    | apply State.modRead_steady
    | apply State.decided_steady
    | apply State.decideRead_steady
    | split
    | dsimp only
    | intro _

theorem State.stripeArrival_steady {s : State} {u : State} (k : Steady s u) (a0) (a1) (a2) (a3) (a4) (a5) :
    Steady s (State.stripeArrival a0 a1 a2 a3 a4 a5 u) := by
  unfold State.stripeArrival
  with_reducible repeat' first
    | assumption
    | apply steady_ite
    | (intro x h; simp only [ScrubS.canonical, Bool.and_eq_true] at h ⊢; (repeat' split) <;> (simp only [h, Tab.set_wf, Tab.mod_wf, Tab.put_wf, Tab.erase_wf, Tab.remap_wf, Tab.filter_wf, Tab.wf_nil, Tab.foldl_set_wf, Tab.foldl_mod_wf, loaded_wf, mergeActivity_wf, and_self]; done))
    | refine State.modScr_steady ?_ ?_ 
    | apply State.report_steady
    | apply State.countEcc_steady
    | apply State.eccSeen_steady
    | apply State.modRead_steady
    | apply State.decideRead_steady
    | apply State.cannotRebuild_steady
    | split
    | dsimp only
    | intro _

theorem State.destroy_steady {s : State} {u : State} (k : Steady s u) (a0) :
    Steady s (State.destroy a0 u) := by
  unfold State.destroy
  with_reducible repeat' first
    | assumption
    | apply steady_ite
    | (intro n; omega)
    | refine State.modFree_steady ?_ ?_
    | apply State.putGranule_steady
    | split
    | dsimp only
    | intro _

theorem State.cutOff_steady {s : State} {u : State} (k : Steady s u) (a0) :
    Steady s (State.cutOff a0 u) := by
  unfold State.cutOff
  with_reducible repeat' first
    | assumption
    | apply steady_ite
    | apply State.wear_steady
    | apply State.destroy_steady
    | split
    | dsimp only
    | intro _

theorem State.engineCount_steady {s : State} {u : State} (k : Steady s u) (a0) (a1) (a2) :
    Steady s (State.engineCount a0 a1 a2 u) := by
  unfold State.engineCount
  with_reducible repeat' first
    | assumption
    | apply steady_ite
    | (intro x h; simp only [ScrubS.canonical, Bool.and_eq_true] at h ⊢; (repeat' split) <;> (simp only [h, Tab.set_wf, Tab.mod_wf, Tab.put_wf, Tab.erase_wf, Tab.remap_wf, Tab.filter_wf, Tab.wf_nil, Tab.foldl_set_wf, Tab.foldl_mod_wf, loaded_wf, mergeActivity_wf, and_self]; done))
    | refine State.modScr_steady ?_ ?_ 
    | split
    | dsimp only
    | intro _

theorem State.countOp_steady {s : State} {u : State} (k : Steady s u) (a0) :
    Steady s (State.countOp a0 u) := by
  unfold State.countOp
  with_reducible repeat' first
    | assumption
    | apply steady_ite
    | (intro x h; simp only [TractS.canonical, Bool.and_eq_true] at h ⊢; (repeat' split) <;> (simp only [h, Tab.set_wf, Tab.mod_wf, Tab.put_wf, Tab.erase_wf, Tab.remap_wf, Tab.filter_wf, Tab.wf_nil, Tab.foldl_set_wf, Tab.foldl_mod_wf, loaded_wf, mergeActivity_wf, and_self]; done))
    | refine State.modTrc_steady ?_ ?_ 
    | apply State.engineCount_steady
    | split
    | dsimp only
    | intro _

theorem State.freeDone_steady {s : State} {u : State} (k : Steady s u)  :
    Steady s (State.freeDone u) := by
  unfold State.freeDone
  with_reducible repeat' first
    | assumption
    | apply steady_ite
    | refine forEach_steady (fun _ _ _ => ?_) ?_ _
    | apply State.freeTract_steady
    | split
    | dsimp only
    | intro _

theorem State.unitDone_steady {s : State} {u : State} (k : Steady s u) (a0) (a1) :
    Steady s (State.unitDone a0 a1 u) := by
  unfold State.unitDone
  with_reducible repeat' first
    | assumption
    | apply steady_ite
    | (intro x; (try dsimp only); (repeat' split) <;> (simp only [Nat.le_refl]; done))
    | (intro x; dsimp only; omega)
    | (intro x h; simp only [WbS.canonical, Bool.and_eq_true] at h ⊢; (repeat' split) <;> (simp only [h, Tab.set_wf, Tab.mod_wf, Tab.put_wf, Tab.erase_wf, Tab.remap_wf, Tab.filter_wf, Tab.wf_nil, Tab.foldl_set_wf, Tab.foldl_mod_wf, loaded_wf, mergeActivity_wf, and_self]; done))
    | refine State.modWb_steady ?_ ?_ ?_ 
    | split
    | dsimp only
    | intro _

theorem State.programDone_steady {s : State} {u : State} (k : Steady s u) (a0) :
    Steady s (State.programDone a0 u) := by
  unfold State.programDone
  with_reducible repeat' first
    | assumption
    | apply steady_ite
    | (intro x h; simp only [MediaS.canonical, Bool.and_eq_true] at h ⊢; (repeat' split) <;> (simp only [h, Tab.set_wf, Tab.mod_wf, Tab.put_wf, Tab.erase_wf, Tab.remap_wf, Tab.filter_wf, Tab.wf_nil, Tab.foldl_set_wf, Tab.foldl_mod_wf, loaded_wf, mergeActivity_wf, and_self]; done))
    | (intro x; (try dsimp only); (repeat' split) <;> (simp only [Nat.le_refl]; done))
    | (intro x; dsimp only; omega)
    | (intro x h; simp only [WbS.canonical, Bool.and_eq_true] at h ⊢; (repeat' split) <;> (simp only [h, Tab.set_wf, Tab.mod_wf, Tab.put_wf, Tab.erase_wf, Tab.remap_wf, Tab.filter_wf, Tab.wf_nil, Tab.foldl_set_wf, Tab.foldl_mod_wf, loaded_wf, mergeActivity_wf, and_self]; done))
    | refine State.modWb_steady ?_ ?_ ?_ 
    | refine State.modMed_steady ?_ ?_ 
    | apply State.unitDone_steady
    | split
    | dsimp only
    | intro _

theorem State.completeOp_steady {s : State} {u : State} (k : Steady s u) (a0) :
    Steady s (State.completeOp a0 u) := by
  unfold State.completeOp
  with_reducible repeat' first
    | assumption
    | apply steady_ite
    | (intro x h; simp only [MediaS.canonical, Bool.and_eq_true] at h ⊢; (repeat' split) <;> (simp only [h, Tab.set_wf, Tab.mod_wf, Tab.put_wf, Tab.erase_wf, Tab.remap_wf, Tab.filter_wf, Tab.wf_nil, Tab.foldl_set_wf, Tab.foldl_mod_wf, loaded_wf, mergeActivity_wf, and_self]; done))
    | refine State.modMed_steady ?_ ?_ 
    | refine forEach_steady (fun _ _ _ => ?_) ?_ _
    | apply State.modDie_steady
    | apply State.heatOf_steady
    | apply State.wear_steady
    | apply State.putGranule_steady
    | apply State.countOp_steady
    | apply State.freeDone_steady
    | apply State.programDone_steady
    | split
    | dsimp only
    | intro _

theorem State.closeWindow_steady {s : State} {u : State} (k : Steady s u) (a0) :
    Steady s (State.closeWindow a0 u) := by
  unfold State.closeWindow
  with_reducible repeat' first
    | assumption
    | apply steady_ite
    | (intro x h; simp only [IntegS.canonical, Bool.and_eq_true] at h ⊢; (repeat' split) <;> (simp only [h, Tab.set_wf, Tab.mod_wf, Tab.put_wf, Tab.erase_wf, Tab.remap_wf, Tab.filter_wf, Tab.wf_nil, Tab.foldl_set_wf, Tab.foldl_mod_wf, loaded_wf, mergeActivity_wf, and_self]; done))
    | refine State.modItg_steady ?_ ?_ 
    | apply State.security_steady
    | split
    | dsimp only
    | intro _

theorem State.dirtySync_steady {s : State} {u : State} (k : Steady s u)  :
    Steady s (State.dirtySync u) := by
  unfold State.dirtySync
  with_reducible repeat' first
    | assumption
    | apply steady_ite
    | (intro x; (try dsimp only); (repeat' split) <;> (simp only [Nat.le_refl]; done))
    | (intro x; dsimp only; omega)
    | (intro x h; simp only [WbS.canonical, Bool.and_eq_true] at h ⊢; (repeat' split) <;> (simp only [h, Tab.set_wf, Tab.mod_wf, Tab.put_wf, Tab.erase_wf, Tab.remap_wf, Tab.filter_wf, Tab.wf_nil, Tab.foldl_set_wf, Tab.foldl_mod_wf, loaded_wf, mergeActivity_wf, and_self]; done))
    | refine State.modWb_steady ?_ ?_ ?_ 
    | split
    | dsimp only
    | intro _

theorem State.giveUp_steady {s : State} {u : State} (k : Steady s u) (a0) (a1) :
    Steady s (State.giveUp a0 a1 u) := by
  unfold State.giveUp
  with_reducible repeat' first
    | assumption
    | apply steady_ite
    | (intro x h; simp only [TractS.canonical, Bool.and_eq_true] at h ⊢; (repeat' split) <;> (simp only [h, Tab.set_wf, Tab.mod_wf, Tab.put_wf, Tab.erase_wf, Tab.remap_wf, Tab.filter_wf, Tab.wf_nil, Tab.foldl_set_wf, Tab.foldl_mod_wf, loaded_wf, mergeActivity_wf, and_self]; done))
    | refine State.modTrc_steady ?_ ?_ 
    | apply State.startClear_steady
    | apply State.freeDone_steady
    | split
    | dsimp only
    | intro _

theorem State.unreserve_steady {s : State} {u : State} (k : Steady s u) (a0) :
    Steady s (State.unreserve a0 u) := by
  unfold State.unreserve
  with_reducible repeat' first
    | assumption
    | apply steady_ite
    | (intro x h; simp only [MediaS.canonical, Bool.and_eq_true] at h ⊢; (repeat' split) <;> (simp only [h, Tab.set_wf, Tab.mod_wf, Tab.put_wf, Tab.erase_wf, Tab.remap_wf, Tab.filter_wf, Tab.wf_nil, Tab.foldl_set_wf, Tab.foldl_mod_wf, loaded_wf, mergeActivity_wf, and_self]; done))
    | refine State.modMed_steady ?_ ?_ 
    | apply State.modPlane_steady
    | split
    | dsimp only
    | intro _

theorem State.endGrant_steady {s : State} {u : State} (k : Steady s u) (a0) :
    Steady s (State.endGrant a0 u) := by
  unfold State.endGrant
  with_reducible repeat' first
    | assumption
    | apply steady_ite
    | apply State.modPlane_steady
    | apply State.grant_steady
    | apply State.unreserve_steady
    | split
    | dsimp only
    | intro _

theorem State.dropWork_steady {s : State} {u : State} (k : Steady s u) (a0) (a1) (a2) :
    Steady s (State.dropWork a0 a1 a2 u) := by
  unfold State.dropWork
  with_reducible repeat' first
    | assumption
    | apply steady_ite
    | (intro x; (try dsimp only); (repeat' split) <;> (simp only [Nat.le_refl]; done))
    | (intro x; dsimp only; omega)
    | (intro x h; simp only [WbS.canonical, Bool.and_eq_true] at h ⊢; (repeat' split) <;> (simp only [h, Tab.set_wf, Tab.mod_wf, Tab.put_wf, Tab.erase_wf, Tab.remap_wf, Tab.filter_wf, Tab.wf_nil, Tab.foldl_set_wf, Tab.foldl_mod_wf, loaded_wf, mergeActivity_wf, and_self]; done))
    | (intro x h; simp only [MediaS.canonical, Bool.and_eq_true] at h ⊢; (repeat' split) <;> (simp only [h, Tab.set_wf, Tab.mod_wf, Tab.put_wf, Tab.erase_wf, Tab.remap_wf, Tab.filter_wf, Tab.wf_nil, Tab.foldl_set_wf, Tab.foldl_mod_wf, loaded_wf, mergeActivity_wf, and_self]; done))
    | refine State.modMed_steady ?_ ?_ 
    | refine State.modWb_steady ?_ ?_ ?_ 
    | refine forEach_steady (fun _ _ _ => ?_) ?_ _
    | apply State.modPlane_steady
    | apply State.endGrant_steady
    | split
    | dsimp only
    | intro _

theorem State.giveUpPt_steady {s : State} {u : State} (k : Steady s u) (a0) (a1) :
    Steady s (State.giveUpPt a0 a1 u) := by
  unfold State.giveUpPt
  with_reducible repeat' first
    | assumption
    | apply steady_ite
    | (intro x h; simp only [TractS.canonical, Bool.and_eq_true] at h ⊢; (repeat' split) <;> (simp only [h, Tab.set_wf, Tab.mod_wf, Tab.put_wf, Tab.erase_wf, Tab.remap_wf, Tab.filter_wf, Tab.wf_nil, Tab.foldl_set_wf, Tab.foldl_mod_wf, loaded_wf, mergeActivity_wf, and_self]; done))
    | (intro x h; simp only [MediaS.canonical, Bool.and_eq_true] at h ⊢; (repeat' split) <;> (simp only [h, Tab.set_wf, Tab.mod_wf, Tab.put_wf, Tab.erase_wf, Tab.remap_wf, Tab.filter_wf, Tab.wf_nil, Tab.foldl_set_wf, Tab.foldl_mod_wf, loaded_wf, mergeActivity_wf, and_self]; done))
    | refine State.modMed_steady ?_ ?_ 
    | refine State.modTrc_steady ?_ ?_ 
    | apply State.giveUp_steady
    | split
    | dsimp only
    | intro _

theorem State.abandon_steady {s : State} {u : State} (k : Steady s u) (a0) (a1) (a2) :
    Steady s (State.abandon a0 a1 a2 u) := by
  unfold State.abandon
  with_reducible repeat' first
    | assumption
    | apply steady_ite
    | (intro x h; simp only [TractS.canonical, Bool.and_eq_true] at h ⊢; (repeat' split) <;> (simp only [h, Tab.set_wf, Tab.mod_wf, Tab.put_wf, Tab.erase_wf, Tab.remap_wf, Tab.filter_wf, Tab.wf_nil, Tab.foldl_set_wf, Tab.foldl_mod_wf, loaded_wf, mergeActivity_wf, and_self]; done))
    | refine State.modTrc_steady ?_ ?_ 
    | apply State.modActivity_steady
    | apply State.modEntry_steady
    | apply State.putEntry_steady
    | apply State.giveUp_steady
    | apply State.dropWork_steady
    | apply State.giveUpPt_steady
    | split
    | dsimp only
    | intro _

theorem State.zeroReads_steady {s : State} {u : State} (k : Steady s u) (a0) :
    Steady s (State.zeroReads a0 u) := by
  unfold State.zeroReads
  with_reducible repeat' first
    | assumption
    | apply steady_ite
    | apply State.modActivity_steady
    | split
    | dsimp only
    | intro _

theorem State.request_steady {s : State} {u : State} (k : Steady s u) (a0) (a1) (a2) (a3) :
    Steady s (State.request a0 a1 a2 a3 u) := by
  unfold State.request
  with_reducible repeat' first
    | assumption
    | apply steady_ite
    | (intro x h; simp only [MediaS.canonical, Bool.and_eq_true] at h ⊢; (repeat' split) <;> (simp only [h, Tab.set_wf, Tab.mod_wf, Tab.put_wf, Tab.erase_wf, Tab.remap_wf, Tab.filter_wf, Tab.wf_nil, Tab.foldl_set_wf, Tab.foldl_mod_wf, loaded_wf, mergeActivity_wf, and_self]; done))
    | (intro x; (try dsimp only); (repeat' split) <;> (simp only [Nat.le_refl]; done))
    | (intro x; dsimp only; omega)
    | (intro x h; simp only [WbS.canonical, Bool.and_eq_true] at h ⊢; (repeat' split) <;> (simp only [h, Tab.set_wf, Tab.mod_wf, Tab.put_wf, Tab.erase_wf, Tab.remap_wf, Tab.filter_wf, Tab.wf_nil, Tab.foldl_set_wf, Tab.foldl_mod_wf, loaded_wf, mergeActivity_wf, and_self]; done))
    | refine State.modWb_steady ?_ ?_ ?_ 
    | refine State.modMed_steady ?_ ?_ 
    | apply State.modPlane_steady
    | apply State.addJob_steady
    | split
    | dsimp only
    | intro _

theorem State.markReconstructed_steady {s : State} {u : State} (k : Steady s u) (a0) :
    Steady s (State.markReconstructed a0 u) := by
  unfold State.markReconstructed
  with_reducible repeat' first
    | assumption
    | apply steady_ite
    | apply State.modHead_steady
    | apply State.modRead_steady
    | split
    | dsimp only
    | intro _

theorem State.planeRead_steady {s : State} {u : State} (k : Steady s u) (a0) (a1) (a2) :
    Steady s (State.planeRead a0 a1 a2 u) := by
  unfold State.planeRead
  with_reducible repeat' first
    | assumption
    | apply steady_ite
    | apply State.modPlane_steady
    | split
    | dsimp only
    | intro _

theorem State.issue_steady {s : State} {u : State} (k : Steady s u) (a0) (a1) (a2) :
    Steady s (State.issue a0 a1 a2 u) := by
  unfold State.issue
  with_reducible repeat' first
    | assumption
    | apply steady_ite
    | refine forEach_steady (fun _ _ _ => ?_) ?_ _
    | apply State.modChannel_steady
    | apply State.planeRead_steady
    | split
    | dsimp only
    | intro _

theorem State.reconstruct_steady {s : State} {u : State} (k : Steady s u) (a0) :
    Steady s (State.reconstruct a0 u) := by
  unfold State.reconstruct
  with_reducible repeat' first
    | assumption
    | apply steady_ite
    | apply State.modRead_steady
    | apply State.cannotRebuild_steady
    | apply State.markReconstructed_steady
    | apply State.issue_steady
    | split
    | dsimp only
    | intro _

theorem State.cachePut_steady {s : State} {u : State} (k : Steady s u) (a0) (a1) :
    Steady s (State.cachePut a0 a1 u) := by
  unfold State.cachePut
  with_reducible repeat' first
    | assumption
    | apply steady_ite
    | (intro x h; simp only [IntegS.canonical, Bool.and_eq_true] at h ⊢; (repeat' split) <;> (simp only [h, Tab.set_wf, Tab.mod_wf, Tab.put_wf, Tab.erase_wf, Tab.remap_wf, Tab.filter_wf, Tab.wf_nil, Tab.foldl_set_wf, Tab.foldl_mod_wf, loaded_wf, mergeActivity_wf, and_self]; done))
    | refine State.modItg_steady ?_ ?_ 
    | split
    | dsimp only
    | intro _

theorem State.nodeDone_steady {s : State} {u : State} (k : Steady s u) (a0) (a1) (a2) (a3) :
    Steady s (State.nodeDone a0 a1 a2 a3 u) := by
  unfold State.nodeDone
  with_reducible repeat' first
    | assumption
    | apply steady_ite
    | (intro x h; simp only [IntegS.canonical, Bool.and_eq_true] at h ⊢; (repeat' split) <;> (simp only [h, Tab.set_wf, Tab.mod_wf, Tab.put_wf, Tab.erase_wf, Tab.remap_wf, Tab.filter_wf, Tab.wf_nil, Tab.foldl_set_wf, Tab.foldl_mod_wf, loaded_wf, mergeActivity_wf, and_self]; done))
    | refine State.modItg_steady ?_ ?_ 
    | apply State.when_steady
    | apply State.countEcc_steady
    | apply State.queueRewrite_steady
    | apply State.modRead_steady
    | apply State.alarm_steady
    | apply State.decideRead_steady
    | apply State.cachePut_steady
    | split
    | dsimp only
    | intro _

theorem State.loseTracts_steady {s : State} {u : State} (k : Steady s u) (a0) (a1) (a2) :
    Steady s (State.loseTracts a0 a1 a2 u) := by
  unfold State.loseTracts
  with_reducible repeat' first
    | assumption
    | apply steady_ite
    | refine forEach_steady (fun _ _ _ => ?_) ?_ _
    | apply State.putEntry_steady
    | apply State.alarm_steady
    | apply State.abandon_steady
    | split
    | dsimp only
    | intro _

theorem State.nodeLost_steady {s : State} {u : State} (k : Steady s u) (a0) (a1) :
    Steady s (State.nodeLost a0 a1 u) := by
  unfold State.nodeLost
  with_reducible repeat' first
    | assumption
    | apply steady_ite
    | apply State.decided_steady
    | apply State.loseTracts_steady
    | split
    | dsimp only
    | intro _

theorem State.nodeLast_steady {s : State} {u : State} (k : Steady s u) (a0) (a1) (a2) (a3) :
    Steady s (State.nodeLast a0 a1 a2 a3 u) := by
  unfold State.nodeLast
  with_reducible repeat' first
    | assumption
    | apply steady_ite
    | apply State.report_steady
    | apply State.countEcc_steady
    | apply State.nodeDone_steady
    | apply State.nodeLost_steady
    | split
    | dsimp only
    | intro _

theorem State.nodeRetry_steady {s : State} {u : State} (k : Steady s u) (a0) (a1) (a2) (a3) :
    Steady s (State.nodeRetry a0 a1 a2 a3 u) := by
  unfold State.nodeRetry
  with_reducible repeat' first
    | assumption
    | apply steady_ite
    | apply State.when_steady
    | apply State.report_steady
    | apply State.modRead_steady
    | apply State.markReconstructed_steady
    | apply State.issue_steady
    | apply State.nodeLast_steady
    | split
    | dsimp only
    | intro _

theorem State.release_steady {s : State} {u : State} (k : Steady s u) (a0) :
    Steady s (State.release a0 u) := by
  unfold State.release
  with_reducible repeat' first
    | assumption
    | apply steady_ite
    | (intro x h; simp only [MediaS.canonical, Bool.and_eq_true] at h ⊢; (repeat' split) <;> (simp only [h, Tab.set_wf, Tab.mod_wf, Tab.put_wf, Tab.erase_wf, Tab.remap_wf, Tab.filter_wf, Tab.wf_nil, Tab.foldl_set_wf, Tab.foldl_mod_wf, loaded_wf, mergeActivity_wf, and_self]; done))
    | refine State.modMed_steady ?_ ?_ 
    | split
    | dsimp only
    | intro _

theorem State.grantIdle_steady {s : State} {u : State} (k : Steady s u)  :
    Steady s (State.grantIdle u) := by
  unfold State.grantIdle
  with_reducible repeat' first
    | assumption
    | apply steady_ite
    | refine forEach_steady (fun _ _ _ => ?_) ?_ _
    | apply State.grant_steady
    | split
    | dsimp only
    | intro _

theorem State.dropDie_steady {s : State} {u : State} (k : Steady s u) (a0) :
    Steady s (State.dropDie a0 u) := by
  unfold State.dropDie
  with_reducible repeat' first
    | assumption
    | apply steady_ite
    | refine forEach_steady (fun _ _ _ => ?_) ?_ _
    | apply State.modPlane_steady
    | apply State.cutOff_steady
    | apply State.freeDone_steady
    | apply State.programDone_steady
    | apply State.unreserve_steady
    | apply State.release_steady
    | apply State.grantIdle_steady
    | split
    | dsimp only
    | intro _

theorem State.bufferSync_steady {s : State} {u : State} (k : Steady s u)  :
    Steady s (State.bufferSync u) := by
  unfold State.bufferSync
  with_reducible repeat' first
    | assumption
    | apply steady_ite
    | (intro x; (try dsimp only); (repeat' split) <;> (simp only [Nat.le_refl]; done))
    | (intro x; dsimp only; omega)
    | (intro x h; simp only [WbS.canonical, Bool.and_eq_true] at h ⊢; (repeat' split) <;> (simp only [h, Tab.set_wf, Tab.mod_wf, Tab.put_wf, Tab.erase_wf, Tab.remap_wf, Tab.filter_wf, Tab.wf_nil, Tab.foldl_set_wf, Tab.foldl_mod_wf, loaded_wf, mergeActivity_wf, and_self]; done))
    | refine State.modWb_steady ?_ ?_ ?_ 
    | apply State.creditSync_steady
    | split
    | dsimp only
    | intro _

theorem State.raisePeak_steady {s : State} {u : State} (k : Steady s u) (a0) (a1) :
    Steady s (State.raisePeak a0 a1 u) := by
  unfold State.raisePeak
  with_reducible repeat' first
    | assumption
    | apply steady_ite
    | (intro x h; simp only [TractS.canonical, Bool.and_eq_true] at h ⊢; (repeat' split) <;> (simp only [h, Tab.set_wf, Tab.mod_wf, Tab.put_wf, Tab.erase_wf, Tab.remap_wf, Tab.filter_wf, Tab.wf_nil, Tab.foldl_set_wf, Tab.foldl_mod_wf, loaded_wf, mergeActivity_wf, and_self]; done))
    | refine State.modTrc_steady ?_ ?_ 
    | split
    | dsimp only
    | intro _

theorem execLinkDown_steady {s : State} {u : State} (k : Steady s u) (a0) :
    SteadyR s (execLinkDown a0 u) := by
  unfold execLinkDown
  with_reducible repeat' first
    | assumption
    | apply steady_ite
    | apply steadyR_ite
    | apply State.linkDown_steady
    | apply State.portSync_steady
    | apply SteadyR.next
    | split
    | dsimp only
    | intro _

theorem mailboxed_steady {s : State} {a2 : State → State} (ka2 : ∀  v, Steady s v → Steady s (a2  v)) {u : State} (k : Steady s u) (a0) (a1) :
    Steady s (mailboxed a0 a1 a2 u) := by
  unfold mailboxed
  with_reducible repeat' first
    | assumption
    | apply steady_ite
    | apply State.modHead_steady
    | refine ka2  _ ?_
    | split
    | dsimp only
    | intro _

theorem State.partFailing_steady {s : State} {u : State} (k : Steady s u) (a0) :
    Steady s (State.partFailing a0 u) := by
  unfold State.partFailing
  with_reducible repeat' first
    | assumption
    | apply steady_ite
    | apply State.report_steady
    | apply State.modSram_steady
    | split
    | dsimp only
    | intro _

theorem State.badWord_steady {s : State} {u : State} (k : Steady s u) (a0) (a1) :
    Steady s (State.badWord a0 a1 u) := by
  unfold State.badWord
  with_reducible repeat' first
    | assumption
    | apply steady_ite
    | apply State.report_steady
    | apply State.modSram_steady
    | apply State.partFailing_steady
    | split
    | dsimp only
    | intro _

theorem State.mapCopyFailed_steady {s : State} {u : State} (k : Steady s u) (a0) :
    Steady s (State.mapCopyFailed a0 u) := by
  unfold State.mapCopyFailed
  with_reducible repeat' first
    | assumption
    | apply steady_ite
    | (intro x h; simp only [TractS.canonical, Bool.and_eq_true] at h ⊢; (repeat' split) <;> (simp only [h, Tab.set_wf, Tab.mod_wf, Tab.put_wf, Tab.erase_wf, Tab.remap_wf, Tab.filter_wf, Tab.wf_nil, Tab.foldl_set_wf, Tab.foldl_mod_wf, loaded_wf, mergeActivity_wf, and_self]; done))
    | refine State.modTrc_steady ?_ ?_ 
    | apply State.badWord_steady
    | split
    | dsimp only
    | intro _

theorem State.strayAccess_steady {s : State} {u : State} (k : Steady s u) (a0) (a1) (a2) :
    Steady s (State.strayAccess a0 a1 a2 u) := by
  unfold State.strayAccess
  with_reducible repeat' first
    | assumption
    | apply steady_ite
    | apply State.modHead_steady
    | apply State.headEvent_steady
    | split
    | dsimp only
    | intro _

theorem State.nodeCame_steady {s : State} {u : State} (k : Steady s u) (a0) (a1) (a2) (a3) (a4) :
    Steady s (State.nodeCame a0 a1 a2 a3 a4 u) := by
  unfold State.nodeCame
  with_reducible repeat' first
    | assumption
    | apply steady_ite
    | apply State.nodeDone_steady
    | apply State.nodeRetry_steady
    | split
    | dsimp only
    | intro _

theorem State.countTraffic_steady {s : State} {u : State} (k : Steady s u) (a0) (a1) (a2) :
    Steady s (State.countTraffic a0 a1 a2 u) := by
  unfold State.countTraffic
  with_reducible repeat' first
    | assumption
    | apply steady_ite
    | apply State.modPort_steady
    | split
    | dsimp only
    | intro _

theorem State.startRec_steady {s : State} {u : State} (k : Steady s u) (a0) (a1) (a2) :
    Steady s (State.startRec a0 a1 a2 u) := by
  unfold State.startRec
  with_reducible repeat' first
    | assumption
    | apply steady_ite
    | (intro x; (try dsimp only); (repeat' split) <;> (simp only [Nat.le_refl]; done))
    | (intro x; dsimp only; omega)
    | (intro x h; simp only [WbS.canonical, Bool.and_eq_true] at h ⊢; (repeat' split) <;> (simp only [h, Tab.set_wf, Tab.mod_wf, Tab.put_wf, Tab.erase_wf, Tab.remap_wf, Tab.filter_wf, Tab.wf_nil, Tab.foldl_set_wf, Tab.foldl_mod_wf, loaded_wf, mergeActivity_wf, and_self]; done))
    | refine State.modWb_steady ?_ ?_ ?_ 
    | split
    | dsimp only
    | intro _

theorem State.startSeal_steady {s : State} {u : State} (k : Steady s u)  :
    Steady s (State.startSeal u) := by
  unfold State.startSeal
  with_reducible repeat' first
    | assumption
    | apply steady_ite
    | (intro x; (try dsimp only); (repeat' split) <;> (simp only [Nat.le_refl]; done))
    | (intro x; dsimp only; omega)
    | (intro x h; simp only [WbS.canonical, Bool.and_eq_true] at h ⊢; (repeat' split) <;> (simp only [h, Tab.set_wf, Tab.mod_wf, Tab.put_wf, Tab.erase_wf, Tab.remap_wf, Tab.filter_wf, Tab.wf_nil, Tab.foldl_set_wf, Tab.foldl_mod_wf, loaded_wf, mergeActivity_wf, and_self]; done))
    | refine State.modWb_steady ?_ ?_ ?_ 
    | apply State.startRec_steady
    | split
    | dsimp only
    | intro _

theorem State.sealMore_steady {s : State} {u : State} (k : Steady s u)  :
    Steady s (State.sealMore u) := by
  unfold State.sealMore
  with_reducible repeat' first
    | assumption
    | apply steady_ite
    | apply State.startSeal_steady
    | split
    | dsimp only
    | intro _

theorem State.pairCount_steady {s : State} {u : State} (k : Steady s u) (a0) (a1) :
    Steady s (State.pairCount a0 a1 u) := by
  unfold State.pairCount
  with_reducible repeat' first
    | assumption
    | apply steady_ite
    | (intro x; (try dsimp only); (repeat' split) <;> (simp only [Nat.le_refl]; done))
    | (intro x; dsimp only; omega)
    | (intro x h; simp only [WbS.canonical, Bool.and_eq_true] at h ⊢; (repeat' split) <;> (simp only [h, Tab.set_wf, Tab.mod_wf, Tab.put_wf, Tab.erase_wf, Tab.remap_wf, Tab.filter_wf, Tab.wf_nil, Tab.foldl_set_wf, Tab.foldl_mod_wf, loaded_wf, mergeActivity_wf, and_self]; done))
    | refine State.modWb_steady ?_ ?_ ?_ 
    | split
    | dsimp only
    | intro _

theorem State.dirtyJoin_steady {s : State} {u : State} (k : Steady s u) (a0) :
    Steady s (State.dirtyJoin a0 u) := by
  unfold State.dirtyJoin
  with_reducible repeat' first
    | assumption
    | apply steady_ite
    | (intro x; (try dsimp only); (repeat' split) <;> (simp only [Nat.le_refl]; done))
    | (intro x; dsimp only; omega)
    | (intro x h; simp only [WbS.canonical, Bool.and_eq_true] at h ⊢; (repeat' split) <;> (simp only [h, Tab.set_wf, Tab.mod_wf, Tab.put_wf, Tab.erase_wf, Tab.remap_wf, Tab.filter_wf, Tab.wf_nil, Tab.foldl_set_wf, Tab.foldl_mod_wf, loaded_wf, mergeActivity_wf, and_self]; done))
    | refine State.modWb_steady ?_ ?_ ?_ 
    | split
    | dsimp only
    | intro _

theorem State.enter_steady {s : State} {u : State} (k : Steady s u) (a0) (a1) :
    Steady s (State.enter a0 a1 u) := by
  unfold State.enter
  with_reducible repeat' first
    | assumption
    | apply steady_ite
    | (intro x; (try dsimp only); (repeat' split) <;> (simp only [Nat.le_refl]; done))
    | (intro x; dsimp only; omega)
    | (intro x h; simp only [WbS.canonical, Bool.and_eq_true] at h ⊢; (repeat' split) <;> (simp only [h, Tab.set_wf, Tab.mod_wf, Tab.put_wf, Tab.erase_wf, Tab.remap_wf, Tab.filter_wf, Tab.wf_nil, Tab.foldl_set_wf, Tab.foldl_mod_wf, loaded_wf, mergeActivity_wf, and_self]; done))
    | apply State.modRdp_steady
    | refine State.modWb_steady ?_ ?_ ?_ 
    | apply State.bufferSync_steady
    | apply State.pairCount_steady
    | apply State.dirtyJoin_steady
    | split
    | dsimp only
    | intro _

theorem State.hostWrite_steady {s : State} {u : State} (k : Steady s u) (a0) (a1) (a2) (a3) :
    Steady s (State.hostWrite a0 a1 a2 a3 u) := by
  unfold State.hostWrite
  with_reducible repeat' first
    | assumption
    | apply steady_ite
    | apply State.modRdp_steady
    | apply State.emit_steady
    | apply State.modHead_steady
    | apply State.strayAccess_steady
    | apply State.countTraffic_steady
    | apply State.sealMore_steady
    | apply State.enter_steady
    | split
    | dsimp only
    | intro _

theorem execMemwr_steady {s : State} {u : State} (k : Steady s u) (a0) (a1) (a2) (a3) :
    SteadyR s (execMemwr a0 a1 a2 a3 u) := by
  unfold execMemwr
  with_reducible repeat' first
    | assumption
    | apply steady_ite
    | apply steadyR_ite
    | apply State.hostWrite_steady
    | apply SteadyR.next
    | split
    | dsimp only
    | intro _

theorem State.mbReturn_steady {s : State} {u : State} (k : Steady s u) (a0) (a1) (a2) (a3) :
    Steady s (State.mbReturn a0 a1 a2 a3 u) := by
  unfold State.mbReturn
  with_reducible repeat' first
    | assumption
    | apply steady_ite
    | apply State.emit_steady
    | apply State.msix_steady
    | split
    | dsimp only
    | intro _

theorem State.drawMajor_steady {s : State} {u : State} (k : Steady s u)  :
    Steady s (State.drawMajor u).2 := by
  unfold State.drawMajor
  with_reducible repeat' first
    | assumption
    | apply steady_ite
    | apply steady_ite_snd
    | (intro x h; simp only [IntegS.canonical, Bool.and_eq_true] at h ⊢; (repeat' split) <;> (simp only [h, Tab.set_wf, Tab.mod_wf, Tab.put_wf, Tab.erase_wf, Tab.remap_wf, Tab.filter_wf, Tab.wf_nil, Tab.foldl_set_wf, Tab.foldl_mod_wf, loaded_wf, mergeActivity_wf, and_self]; done))
    | refine State.modItg_steady ?_ ?_ 
    | apply State.storeWrite_steady
    | split
    | dsimp only
    | intro _

theorem State.putNode_steady {s : State} {u : State} (k : Steady s u) (a0) (a1) (a2) :
    Steady s (State.putNode a0 a1 a2 u) := by
  unfold State.putNode
  with_reducible repeat' first
    | assumption
    | apply steady_ite
    | (intro x h; simp only [StagingS.canonical, Bool.and_eq_true] at h ⊢; (repeat' split) <;> (simp only [h, Tab.set_wf, Tab.mod_wf, Tab.put_wf, Tab.erase_wf, Tab.remap_wf, Tab.filter_wf, Tab.wf_nil, Tab.foldl_set_wf, Tab.foldl_mod_wf, loaded_wf, mergeActivity_wf, and_self]; done))
    | (intro x h; simp only [IntegS.canonical, Bool.and_eq_true] at h ⊢; (repeat' split) <;> (simp only [h, Tab.set_wf, Tab.mod_wf, Tab.put_wf, Tab.erase_wf, Tab.remap_wf, Tab.filter_wf, Tab.wf_nil, Tab.foldl_set_wf, Tab.foldl_mod_wf, loaded_wf, mergeActivity_wf, and_self]; done))
    | refine State.modItg_steady ?_ ?_ 
    | refine State.modStg_steady ?_ ?_ 
    | split
    | dsimp only
    | intro _

theorem State.climbOne_steady {s : State} {u : State} (k : Steady s u) (a0) (a1) :
    Steady s (State.climbOne a0 a1 u) := by
  unfold State.climbOne
  with_reducible repeat' first
    | assumption
    | apply steady_ite
    | apply State.putNode_steady
    | split
    | dsimp only
    | intro _

theorem State.climb_steady {s : State} {u : State} (k : Steady s u) (a0) :
    Steady s (State.climb a0 u) := by
  unfold State.climb
  with_reducible repeat' first
    | assumption
    | apply steady_ite
    | (intro x h; simp only [IntegS.canonical, Bool.and_eq_true] at h ⊢; (repeat' split) <;> (simp only [h, Tab.set_wf, Tab.mod_wf, Tab.put_wf, Tab.erase_wf, Tab.remap_wf, Tab.filter_wf, Tab.wf_nil, Tab.foldl_set_wf, Tab.foldl_mod_wf, loaded_wf, mergeActivity_wf, and_self]; done))
    | refine State.modItg_steady ?_ ?_ 
    | refine forEach_steady (fun _ _ _ => ?_) ?_ _
    | apply State.climbOne_steady
    | split
    | dsimp only
    | intro _

theorem State.setBlock_steady {s : State} {u : State} (k : Steady s u) (a0) (a1) :
    Steady s (State.setBlock a0 a1 u) := by
  unfold State.setBlock
  with_reducible repeat' first
    | assumption
    | apply steady_ite
    | (intro x h; simp only [IntegS.canonical, Bool.and_eq_true] at h ⊢; (repeat' split) <;> (simp only [h, Tab.set_wf, Tab.mod_wf, Tab.put_wf, Tab.erase_wf, Tab.remap_wf, Tab.filter_wf, Tab.wf_nil, Tab.foldl_set_wf, Tab.foldl_mod_wf, loaded_wf, mergeActivity_wf, and_self]; done))
    | refine State.modItg_steady ?_ ?_ 
    | apply State.climb_steady
    | split
    | dsimp only
    | intro _

theorem State.nodeEntry_steady {s : State} {u : State} (k : Steady s u) (a0) (a1) (a2) (a3) (a4) (a5) :
    Steady s (State.nodeEntry a0 a1 a2 a3 a4 a5 u) := by
  unfold State.nodeEntry
  with_reducible repeat' first
    | assumption
    | apply steady_ite
    | apply State.pairCount_steady
    | apply State.enter_steady
    | split
    | dsimp only
    | intro _

theorem State.halfEntry_steady {s : State} {u : State} (k : Steady s u) (a0) (a1) :
    Steady s (State.halfEntry a0 a1 u) := by
  unfold State.halfEntry
  with_reducible repeat' first
    | assumption
    | apply steady_ite
    | apply State.pairCount_steady
    | apply State.enter_steady
    | split
    | dsimp only
    | intro _

theorem State.freshBlocks_steady {s : State} {u : State} (k : Steady s u) (a0) (a1) (a2) :
    Steady s (State.freshBlocks a0 a1 a2 u) := by
  unfold State.freshBlocks
  with_reducible repeat' first
    | assumption
    | apply steady_ite
    | (intro x h; simp only [IntegS.canonical, Bool.and_eq_true] at h ⊢; (repeat' split) <;> (simp only [h, Tab.set_wf, Tab.mod_wf, Tab.put_wf, Tab.erase_wf, Tab.remap_wf, Tab.filter_wf, Tab.wf_nil, Tab.foldl_set_wf, Tab.foldl_mod_wf, loaded_wf, mergeActivity_wf, and_self]; done))
    | refine State.modItg_steady ?_ ?_ 
    | refine forEach_steady (fun _ _ _ => ?_) ?_ _
    | apply State.drawMajor_steady
    | refine steady_snd_of_eq ‹State.drawMajor _ = _› (State.drawMajor_steady ?_)
    | apply State.setBlock_steady
    | apply State.nodeEntry_steady
    | apply State.halfEntry_steady
    | split
    | dsimp only
    | intro _

theorem State.renew_steady {s : State} {u : State} (k : Steady s u) (a0) (a1) (a2) :
    Steady s (State.renew a0 a1 a2 u) := by
  unfold State.renew
  with_reducible repeat' first
    | assumption
    | apply steady_ite
    | (intro x h; simp only [TractS.canonical, Bool.and_eq_true] at h ⊢; (repeat' split) <;> (simp only [h, Tab.set_wf, Tab.mod_wf, Tab.put_wf, Tab.erase_wf, Tab.remap_wf, Tab.filter_wf, Tab.wf_nil, Tab.foldl_set_wf, Tab.foldl_mod_wf, loaded_wf, mergeActivity_wf, and_self]; done))
    | refine State.modTrc_steady ?_ ?_ 
    | apply State.putEntry_steady
    | apply State.giveUpPt_steady
    | apply State.abandon_steady
    | apply State.freshBlocks_steady
    | split
    | dsimp only
    | intro _

theorem State.zeroExtent_steady {s : State} {u : State} (k : Steady s u) (a0) :
    Steady s (State.zeroExtent a0 u) := by
  unfold State.zeroExtent
  with_reducible repeat' first
    | assumption
    | apply steady_ite
    | (intro x h; simp only [IntegS.canonical, Bool.and_eq_true] at h ⊢; (repeat' split) <;> (simp only [h, Tab.set_wf, Tab.mod_wf, Tab.put_wf, Tab.erase_wf, Tab.remap_wf, Tab.filter_wf, Tab.wf_nil, Tab.foldl_set_wf, Tab.foldl_mod_wf, loaded_wf, mergeActivity_wf, and_self]; done))
    | refine State.modItg_steady ?_ ?_ 
    | refine forEach_steady (fun _ _ _ => ?_) ?_ _
    | apply State.discardOpen_steady
    | apply State.closeWindow_steady
    | apply State.dirtySync_steady
    | apply State.bufferSync_steady
    | apply State.renew_steady
    | split
    | dsimp only
    | intro _

theorem execViralReceived_steady {s : State} {u : State} (k : Steady s u) (a0) :
    SteadyR s (execViralReceived a0 u) := by
  unfold execViralReceived
  with_reducible repeat' first
    | assumption
    | apply steady_ite
    | apply steadyR_ite
    | apply State.enterViral_steady
    | apply SteadyR.next
    | split
    | dsimp only
    | intro _

theorem State.getShutdown_steady {s : State} {u : State} (k : Steady s u) (a0) :
    Steady s (State.getShutdown a0 u) := by
  unfold State.getShutdown
  with_reducible repeat' first
    | assumption
    | apply steady_ite
    | apply State.mbReturn_steady
    | split
    | dsimp only
    | intro _

theorem execGetShutdownState_steady {s : State} {u : State} (k : Steady s u) (a0) :
    SteadyR s (execGetShutdownState a0 u) := by
  unfold execGetShutdownState
  with_reducible repeat' first
    | assumption
    | apply steady_ite
    | apply steadyR_ite
    | apply mailboxed_steady
    | apply State.getShutdown_steady
    | apply SteadyR.next
    | split
    | dsimp only
    | intro _

theorem State.usedMajor_steady {s : State} {u : State} (k : Steady s u) (a0) :
    Steady s (State.usedMajor a0 u) := by
  unfold State.usedMajor
  with_reducible repeat' first
    | assumption
    | apply steady_ite
    | (intro x h; simp only [IntegS.canonical, Bool.and_eq_true] at h ⊢; (repeat' split) <;> (simp only [h, Tab.set_wf, Tab.mod_wf, Tab.put_wf, Tab.erase_wf, Tab.remap_wf, Tab.filter_wf, Tab.wf_nil, Tab.foldl_set_wf, Tab.foldl_mod_wf, loaded_wf, mergeActivity_wf, and_self]; done))
    | refine State.modItg_steady ?_ ?_ 
    | apply State.storeWrite_steady
    | split
    | dsimp only
    | intro _

theorem State.upperEntries_steady {s : State} {u : State} (k : Steady s u) (a0) (a1) (a2) :
    Steady s (State.upperEntries a0 a1 a2 u) := by
  unfold State.upperEntries
  with_reducible repeat' first
    | assumption
    | apply steady_ite
    | apply State.nodeEntry_steady
    | split
    | dsimp only
    | intro _

theorem State.nodeEntries_steady {s : State} {u : State} (k : Steady s u) (a0) (a1) :
    Steady s (State.nodeEntries a0 a1 u) := by
  unfold State.nodeEntries
  with_reducible repeat' first
    | assumption
    | apply steady_ite
    | apply State.nodeEntry_steady
    | apply State.halfEntry_steady
    | apply State.upperEntries_steady
    | split
    | dsimp only
    | intro _

theorem State.requestAll_steady {s : State} {u : State} (k : Steady s u) (a0) (a1) (a2) :
    Steady s (State.requestAll a0 a1 a2 u) := by
  unfold State.requestAll
  with_reducible repeat' first
    | assumption
    | apply steady_ite
    | refine forEach_steady (fun _ _ _ => ?_) ?_ _
    | apply State.request_steady
    | split
    | dsimp only
    | intro _

theorem execMemwrptl_steady {s : State} {u : State} (k : Steady s u) (a0) (a1) (a2) (a3) (a4) :
    SteadyR s (execMemwrptl a0 a1 a2 a3 a4 u) := by
  unfold execMemwrptl
  with_reducible repeat' first
    | assumption
    | apply steady_ite
    | apply steadyR_ite
    | apply State.hostWrite_steady
    | apply SteadyR.next
    | split
    | dsimp only
    | intro _

theorem State.dispatch_steady {s : State} {u : State} (k : Steady s u) (a0) (a1) (a2) :
    Steady s (State.dispatch a0 a1 a2 u) := by
  unfold State.dispatch
  with_reducible repeat' first
    | assumption
    | apply steady_ite
    | (intro x h; simp only [TractS.canonical, Bool.and_eq_true] at h ⊢; (repeat' split) <;> (simp only [h, Tab.set_wf, Tab.mod_wf, Tab.put_wf, Tab.erase_wf, Tab.remap_wf, Tab.filter_wf, Tab.wf_nil, Tab.foldl_set_wf, Tab.foldl_mod_wf, loaded_wf, mergeActivity_wf, and_self]; done))
    | (intro x h; simp only [IntegS.canonical, Bool.and_eq_true] at h ⊢; (repeat' split) <;> (simp only [h, Tab.set_wf, Tab.mod_wf, Tab.put_wf, Tab.erase_wf, Tab.remap_wf, Tab.filter_wf, Tab.wf_nil, Tab.foldl_set_wf, Tab.foldl_mod_wf, loaded_wf, mergeActivity_wf, and_self]; done))
    | refine State.modItg_steady ?_ ?_ 
    | refine State.modTrc_steady ?_ ?_ 
    | apply State.modChannel_steady
    | apply State.modRead_steady
    | apply State.decided_steady
    | apply State.decideRead_steady
    | apply State.issue_steady
    | split
    | dsimp only
    | intro _

theorem State.acceptRead_steady {s : State} {u : State} (k : Steady s u) (a0) (a1) (a2) (a3) :
    Steady s (State.acceptRead a0 a1 a2 a3 u) := by
  unfold State.acceptRead
  with_reducible repeat' first
    | assumption
    | apply steady_ite
    | (intro x h; simp only [TractS.canonical, Bool.and_eq_true] at h ⊢; (repeat' split) <;> (simp only [h, Tab.set_wf, Tab.mod_wf, Tab.put_wf, Tab.erase_wf, Tab.remap_wf, Tab.filter_wf, Tab.wf_nil, Tab.foldl_set_wf, Tab.foldl_mod_wf, loaded_wf, mergeActivity_wf, and_self]; done))
    | apply State.modRdp_steady
    | refine State.modTrc_steady ?_ ?_ 
    | apply State.when_steady
    | apply State.modHead_steady
    | apply State.report_steady
    | apply State.modRead_steady
    | apply State.mapCopyFailed_steady
    | apply State.dispatch_steady
    | split
    | dsimp only
    | intro _

theorem execMirrorWriteAck_steady {s : State} {u : State} (k : Steady s u) (a0) (a1) :
    SteadyR s (execMirrorWriteAck a0 a1 u) := by
  unfold execMirrorWriteAck
  with_reducible repeat' first
    | assumption
    | apply steady_ite
    | apply steadyR_ite
    | (intro x; (try dsimp only); (repeat' split) <;> (simp only [Nat.le_refl]; done))
    | (intro x; dsimp only; omega)
    | (intro x h; simp only [WbS.canonical, Bool.and_eq_true] at h ⊢; (repeat' split) <;> (simp only [h, Tab.set_wf, Tab.mod_wf, Tab.put_wf, Tab.erase_wf, Tab.remap_wf, Tab.filter_wf, Tab.wf_nil, Tab.foldl_set_wf, Tab.foldl_mod_wf, loaded_wf, mergeActivity_wf, and_self]; done))
    | refine State.modWb_steady ?_ ?_ ?_ 
    | apply State.complete_steady
    | apply SteadyR.next
    | split
    | dsimp only
    | intro _

theorem State.answerPoisoned_steady {s : State} {u : State} (k : Steady s u) (a0) (a1) (a2) :
    Steady s (State.answerPoisoned a0 a1 a2 u) := by
  unfold State.answerPoisoned
  with_reducible repeat' first
    | assumption
    | apply steady_ite
    | apply State.emit_steady
    | apply State.modHead_steady
    | apply State.countTraffic_steady
    | split
    | dsimp only
    | intro _

theorem State.ownArrival_steady {s : State} {u : State} (k : Steady s u) (a0) (a1) (a2) (a3) (a4) :
    Steady s (State.ownArrival a0 a1 a2 a3 a4 u) := by
  unfold State.ownArrival
  with_reducible repeat' first
    | assumption
    | apply steady_ite
    | apply State.eccSeen_steady
    | apply State.modRead_steady
    | apply State.decideRead_steady
    | apply State.reconstruct_steady
    | split
    | dsimp only
    | intro _

theorem execIdeKmRequest_steady {s : State} {u : State} (k : Steady s u) (a0) (a1) :
    SteadyR s (execIdeKmRequest a0 a1 u) := by
  unfold execIdeKmRequest
  with_reducible repeat' first
    | assumption
    | apply steady_ite
    | apply steadyR_ite
    | apply State.emit_steady
    | apply State.modLink_steady
    | apply State.boundSync_steady
    | apply State.linkEvent_steady
    | apply SteadyR.next
    | split
    | dsimp only
    | intro _

theorem State.noAnswer_steady {s : State} {u : State} (k : Steady s u) (a0) :
    Steady s (State.noAnswer a0 u) := by
  unfold State.noAnswer
  with_reducible repeat' first
    | assumption
    | apply steady_ite
    | apply State.report_steady
    | apply State.modDie_steady
    | split
    | dsimp only
    | intro _

theorem execPerstAssert_steady {s : State} {u : State} (k : Steady s u) (a0) (a1) :
    SteadyR s (execPerstAssert a0 a1 u) := by
  unfold execPerstAssert
  with_reducible repeat' first
    | assumption
    | apply steady_ite
    | apply steadyR_ite
    | apply State.modLink_steady
    | apply State.portSync_steady
    | apply SteadyR.next
    | split
    | dsimp only
    | intro _

theorem execCableMated_steady {s : State} {u : State} (k : Steady s u) (a0) :
    SteadyR s (execCableMated a0 u) := by
  unfold execCableMated
  with_reducible repeat' first
    | assumption
    | apply steady_ite
    | apply steadyR_ite
    | apply State.modPort_steady
    | apply State.portSync_steady
    | apply SteadyR.next
    | split
    | dsimp only
    | intro _

theorem State.cdat_steady {s : State} {u : State} (k : Steady s u) (a0) :
    Steady s (State.cdat a0 u) := by
  unfold State.cdat
  with_reducible repeat' first
    | assumption
    | apply steady_ite
    | apply State.modLink_steady
    | split
    | dsimp only
    | intro _

theorem State.easyClear_steady {s : State} {u : State} (k : Steady s u) (a0) :
    Steady s (State.easyClear a0 u) := by
  unfold State.easyClear
  with_reducible repeat' first
    | assumption
    | apply steady_ite
    | apply State.modEasy_steady
    | apply State.easyCheck_steady
    | split
    | dsimp only
    | intro _

theorem State.linkTrained_steady {s : State} {u : State} (k : Steady s u)  :
    Steady s (State.linkTrained u) := by
  unfold State.linkTrained
  with_reducible repeat' first
    | assumption
    | apply steady_ite
    | apply State.easyClear_steady
    | split
    | dsimp only
    | intro _

theorem State.atSpeed_steady {s : State} {u : State} (k : Steady s u) (a0) (a1) :
    Steady s (State.atSpeed a0 a1 u) := by
  unfold State.atSpeed
  with_reducible repeat' first
    | assumption
    | apply steady_ite
    | apply State.modLink_steady
    | apply State.boundSync_steady
    | apply State.linkEvent_steady
    | apply State.easyEnter_steady
    | apply State.cdat_steady
    | apply State.linkTrained_steady
    | split
    | dsimp only
    | intro _

theorem execLinkRecoveryEntry_steady {s : State} {u : State} (k : Steady s u) (a0) :
    SteadyR s (execLinkRecoveryEntry a0 u) := by
  unfold execLinkRecoveryEntry
  with_reducible repeat' first
    | assumption
    | apply steady_ite
    | apply steadyR_ite
    | apply State.modLink_steady
    | apply State.modPort_steady
    | apply State.report_steady
    | apply State.atSpeed_steady
    | apply SteadyR.next
    | split
    | dsimp only
    | intro _

theorem execMemrd_steady {s : State} {u : State} (k : Steady s u) (a0) (a1) (a2) (a3) (a4) :
    SteadyR s (execMemrd a0 a1 a2 a3 a4 u) := by
  unfold execMemrd
  with_reducible repeat' first
    | assumption
    | apply steady_ite
    | apply steadyR_ite
    | apply State.strayAccess_steady
    | apply State.countTraffic_steady
    | apply State.acceptRead_steady
    | apply State.answerPoisoned_steady
    | apply SteadyR.next
    | split
    | dsimp only
    | intro _

theorem State.nodeArrival_steady {s : State} {u : State} (k : Steady s u) (a0) (a1) (a2) (a3) (a4) (a5) :
    Steady s (State.nodeArrival a0 a1 a2 a3 a4 a5 u) := by
  unfold State.nodeArrival
  with_reducible repeat' first
    | assumption
    | apply steady_ite
    | (intro x h; simp only [IntegS.canonical, Bool.and_eq_true] at h ⊢; (repeat' split) <;> (simp only [h, Tab.set_wf, Tab.mod_wf, Tab.put_wf, Tab.erase_wf, Tab.remap_wf, Tab.filter_wf, Tab.wf_nil, Tab.foldl_set_wf, Tab.foldl_mod_wf, loaded_wf, mergeActivity_wf, and_self]; done))
    | (intro x h; simp only [ScrubS.canonical, Bool.and_eq_true] at h ⊢; (repeat' split) <;> (simp only [h, Tab.set_wf, Tab.mod_wf, Tab.put_wf, Tab.erase_wf, Tab.remap_wf, Tab.filter_wf, Tab.wf_nil, Tab.foldl_set_wf, Tab.foldl_mod_wf, loaded_wf, mergeActivity_wf, and_self]; done))
    | refine State.modScr_steady ?_ ?_ 
    | refine State.modItg_steady ?_ ?_ 
    | apply State.eccSeen_steady
    | apply State.modRead_steady
    | apply State.nodeRetry_steady
    | apply State.nodeCame_steady
    | split
    | dsimp only
    | intro _

theorem execReadLineArrival_steady {s : State} {u : State} (k : Steady s u) (a0) (a1) (a2) (a3) (a4) :
    SteadyR s (execReadLineArrival a0 a1 a2 a3 a4 u) := by
  unfold execReadLineArrival
  with_reducible repeat' first
    | assumption
    | apply steady_ite
    | apply steadyR_ite
    | apply State.stripeArrival_steady
    | apply State.ownArrival_steady
    | apply State.nodeArrival_steady
    | apply SteadyR.next
    | split
    | dsimp only
    | intro _

theorem State.poisonLine_steady {s : State} {u : State} (k : Steady s u) (a0) :
    Steady s (State.poisonLine a0 u) := by
  unfold State.poisonLine
  with_reducible repeat' first
    | assumption
    | apply steady_ite
    | apply State.enter_steady
    | split
    | dsimp only
    | intro _

theorem State.afterFailure_steady {s : State} {u : State} (k : Steady s u) (a0) (a1) :
    Steady s (State.afterFailure a0 a1 u) := by
  unfold State.afterFailure
  with_reducible repeat' first
    | assumption
    | apply steady_ite
    | apply State.signalViral_steady
    | apply State.alarm_steady
    | apply State.poisonLine_steady
    | split
    | dsimp only
    | intro _

theorem State.respondRead_steady {s : State} {u : State} (k : Steady s u) (a0) (a1) (a2) :
    Steady s (State.respondRead a0 a1 a2 u) := by
  unfold State.respondRead
  with_reducible repeat' first
    | assumption
    | apply steady_ite
    | apply State.emit_steady
    | apply State.modHead_steady
    | apply State.headEvent_steady
    | apply State.cxlEvent_steady
    | apply State.countTraffic_steady
    | split
    | dsimp only
    | intro _

theorem execLineOrderPointMerge_steady {s : State} {u : State} (k : Steady s u) (a0) (a1) :
    SteadyR s (execLineOrderPointMerge a0 a1 u) := by
  unfold execLineOrderPointMerge
  with_reducible repeat' first
    | assumption
    | apply steady_ite
    | apply steadyR_ite
    | apply State.modRdp_steady
    | apply State.modHead_steady
    | apply State.decided_steady
    | apply State.afterFailure_steady
    | apply State.respondRead_steady
    | apply SteadyR.next
    | split
    | dsimp only
    | intro _

theorem execLookupResponseHoldExpiry_steady {s : State} {u : State} (k : Steady s u) (a0) :
    SteadyR s (execLookupResponseHoldExpiry a0 u) := by
  unfold execLookupResponseHoldExpiry
  with_reducible repeat' first
    | assumption
    | apply steady_ite
    | apply steadyR_ite
    | apply State.modRead_steady
    | apply SteadyR.next
    | split
    | dsimp only
    | intro _

theorem execGpfPhase1_steady {s : State} {u : State} (k : Steady s u) (a0) :
    SteadyR s (execGpfPhase1 a0 u) := by
  unfold execGpfPhase1
  with_reducible repeat' first
    | assumption
    | apply steady_ite
    | apply steadyR_ite
    | apply State.when_steady
    | apply State.emit_steady
    | apply SteadyR.next
    | split
    | dsimp only
    | intro _

theorem execGpfPhase2_steady {s : State} {u : State} (k : Steady s u) (a0) :
    SteadyR s (execGpfPhase2 a0 u) := by
  unfold execGpfPhase2
  with_reducible repeat' first
    | assumption
    | apply steady_ite
    | apply steadyR_ite
    | apply State.when_steady
    | apply State.emit_steady
    | apply SteadyR.next
    | split
    | dsimp only
    | intro _

theorem State.setShutdown_steady {s : State} {u : State} (k : Steady s u) (a0) (a1) :
    Steady s (State.setShutdown a0 a1 u) := by
  unfold State.setShutdown
  with_reducible repeat' first
    | assumption
    | apply steady_ite
    | (intro x; (try dsimp only); (repeat' split) <;> (simp only [Nat.le_refl]; done))
    | (intro x; dsimp only; omega)
    | (intro x h; simp only [WbS.canonical, Bool.and_eq_true] at h ⊢; (repeat' split) <;> (simp only [h, Tab.set_wf, Tab.mod_wf, Tab.put_wf, Tab.erase_wf, Tab.remap_wf, Tab.filter_wf, Tab.wf_nil, Tab.foldl_set_wf, Tab.foldl_mod_wf, loaded_wf, mergeActivity_wf, and_self]; done))
    | refine State.modWb_steady ?_ ?_ ?_ 
    | apply State.storeWrite_steady
    | apply State.mbReturn_steady
    | split
    | dsimp only
    | intro _

theorem execSetShutdownState_steady {s : State} {u : State} (k : Steady s u) (a0) (a1) :
    SteadyR s (execSetShutdownState a0 a1 u) := by
  unfold execSetShutdownState
  with_reducible repeat' first
    | assumption
    | apply steady_ite
    | apply steadyR_ite
    | apply mailboxed_steady
    | apply State.setShutdown_steady
    | apply SteadyR.next
    | split
    | dsimp only
    | intro _

theorem State.msixSync_steady {s : State} {u : State} (k : Steady s u) (a0) :
    Steady s (State.msixSync a0 u) := by
  unfold State.msixSync
  with_reducible repeat' first
    | assumption
    | apply steady_ite
    | refine forEach_steady (fun _ _ _ => ?_) ?_ _
    | apply State.modLink_steady
    | apply State.msix_steady
    | split
    | dsimp only
    | intro _

theorem execMemEnableWrite_steady {s : State} {u : State} (k : Steady s u) (a0) (a1) (a2) :
    SteadyR s (execMemEnableWrite a0 a1 a2 u) := by
  unfold execMemEnableWrite
  with_reducible repeat' first
    | assumption
    | apply steady_ite
    | apply steadyR_ite
    | apply State.modLink_steady
    | apply State.msixSync_steady
    | apply SteadyR.next
    | split
    | dsimp only
    | intro _

theorem execIdeCheckFailure_steady {s : State} {u : State} (k : Steady s u) (a0) :
    SteadyR s (execIdeCheckFailure a0 u) := by
  unfold execIdeCheckFailure
  with_reducible repeat' first
    | assumption
    | apply steady_ite
    | apply steadyR_ite
    | apply State.modLink_steady
    | apply State.boundSync_steady
    | apply State.linkEvent_steady
    | apply State.report_steady
    | apply State.security_steady
    | apply SteadyR.next
    | split
    | dsimp only
    | intro _

theorem execFunctionLevelReset_steady {s : State} {u : State} (k : Steady s u) (a0) :
    SteadyR s (execFunctionLevelReset a0 u) := by
  unfold execFunctionLevelReset
  with_reducible repeat' first
    | assumption
    | apply steady_ite
    | apply steadyR_ite
    | apply State.modHead_steady
    | apply State.modLink_steady
    | apply SteadyR.next
    | split
    | dsimp only
    | intro _

theorem execPerstRelease_steady {s : State} {u : State} (k : Steady s u) (a0) (a1) :
    SteadyR s (execPerstRelease a0 a1 u) := by
  unfold execPerstRelease
  with_reducible repeat' first
    | assumption
    | apply steady_ite
    | apply steadyR_ite
    | apply State.modLink_steady
    | apply State.portSync_steady
    | apply SteadyR.next
    | split
    | dsimp only
    | intro _

theorem execLinkUp_steady {s : State} {u : State} (k : Steady s u) (a0) (a1) (a2) :
    SteadyR s (execLinkUp a0 a1 a2 u) := by
  unfold execLinkUp
  with_reducible repeat' first
    | assumption
    | apply steady_ite
    | apply steadyR_ite
    | apply State.modLink_steady
    | apply State.linkEvent_steady
    | apply State.cdat_steady
    | apply SteadyR.next
    | split
    | dsimp only
    | intro _

theorem execSpeedChangeRequest_steady {s : State} {u : State} (k : Steady s u) (a0) (a1) (a2) :
    SteadyR s (execSpeedChangeRequest a0 a1 a2 u) := by
  unfold execSpeedChangeRequest
  with_reducible repeat' first
    | assumption
    | apply steady_ite
    | apply steadyR_ite
    | apply State.report_steady
    | apply State.atSpeed_steady
    | apply SteadyR.next
    | split
    | dsimp only
    | intro _

theorem execEqualisationComplete_steady {s : State} {u : State} (k : Steady s u) (a0) (a1) :
    SteadyR s (execEqualisationComplete a0 a1 u) := by
  unfold execEqualisationComplete
  with_reducible repeat' first
    | assumption
    | apply steady_ite
    | apply steadyR_ite
    | apply State.atSpeed_steady
    | apply SteadyR.next
    | split
    | dsimp only
    | intro _

theorem execCableRemoved_steady {s : State} {u : State} (k : Steady s u) (a0) :
    SteadyR s (execCableRemoved a0 u) := by
  unfold execCableRemoved
  with_reducible repeat' first
    | assumption
    | apply steady_ite
    | apply steadyR_ite
    | apply State.modPort_steady
    | apply State.portSync_steady
    | apply SteadyR.next
    | split
    | dsimp only
    | intro _

theorem execBifurcationRequest_steady {s : State} {u : State} (k : Steady s u) (a0) (a1) :
    SteadyR s (execBifurcationRequest a0 a1 u) := by
  unfold execBifurcationRequest
  with_reducible repeat' first
    | assumption
    | apply steady_ite
    | apply steadyR_ite
    | apply accessed_steady
    | apply respondAccess_steady
    | apply State.putObject_steady
    | apply SteadyR.next
    | split
    | dsimp only
    | intro _

theorem State.opComplete_steady {s : State} {u : State} (k : Steady s u) (a0) :
    Steady s (State.opComplete a0 u) := by
  unfold State.opComplete
  with_reducible repeat' first
    | assumption
    | apply steady_ite
    | apply State.modPlane_steady
    | apply State.completeOp_steady
    | apply State.release_steady
    | split
    | dsimp only
    | intro _

theorem State.nextOp_steady {s : State} {u : State} (k : Steady s u) (a0) :
    Steady s (State.nextOp a0 u) := by
  unfold State.nextOp
  with_reducible repeat' first
    | assumption
    | apply steady_ite
    | apply State.when_steady
    | apply State.modPlane_steady
    | apply State.reserve_steady
    | apply State.endGrant_steady
    | split
    | dsimp only
    | intro _

theorem State.listBad_steady {s : State} {u : State} (k : Steady s u) (a0) :
    Steady s (State.listBad a0 u) := by
  unfold State.listBad
  with_reducible repeat' first
    | assumption
    | apply steady_ite
    | (intro x h; simp only [MediaS.canonical, Bool.and_eq_true] at h ⊢; (repeat' split) <;> (simp only [h, Tab.set_wf, Tab.mod_wf, Tab.put_wf, Tab.erase_wf, Tab.remap_wf, Tab.filter_wf, Tab.wf_nil, Tab.foldl_set_wf, Tab.foldl_mod_wf, loaded_wf, mergeActivity_wf, and_self]; done))
    | refine State.modMed_steady ?_ ?_ 
    | apply State.storeWrite_steady
    | apply State.modChannel_steady
    | apply State.report_steady
    | apply State.modDie_steady
    | apply State.modEntry_steady
    | apply State.queueMig_steady
    | split
    | dsimp only
    | intro _

theorem State.abandonFor_steady {s : State} {u : State} (k : Steady s u) (a0) (a1) :
    Steady s (State.abandonFor a0 a1 u) := by
  unfold State.abandonFor
  with_reducible repeat' first
    | assumption
    | apply steady_ite
    | (intro x h; simp only [TractS.canonical, Bool.and_eq_true] at h ⊢; (repeat' split) <;> (simp only [h, Tab.set_wf, Tab.mod_wf, Tab.put_wf, Tab.erase_wf, Tab.remap_wf, Tab.filter_wf, Tab.wf_nil, Tab.foldl_set_wf, Tab.foldl_mod_wf, loaded_wf, mergeActivity_wf, and_self]; done))
    | refine State.modTrc_steady ?_ ?_ 
    | apply State.abandon_steady
    | split
    | dsimp only
    | intro _

end Sys2Proof.Machine
end

