-- ==== Sys2Proof/Laws/SteadyMedium.lean ====
section
/-! SUPPORT. What every operation and meaning leaves true (drain, medium, translation, integrity, scrub). -/

set_option Elab.async false

set_option linter.unusedTactic false
set_option linter.unreachableTactic false
set_option linter.unnecessarySeqFocus false
set_option linter.unusedSimpArgs false

namespace Sys2Proof.Machine

theorem State.levelling_steady {s : State} {u : State} (k : Steady s u)  :
    Steady s (State.levelling u) := by
  unfold State.levelling
  with_reducible repeat' first
    | assumption
    | apply steady_ite
    | refine forEach_steady (fun _ _ _ => ?_) ?_ _
    | apply State.queueMig_steady
    | split
    | dsimp only
    | intro _

theorem State.endPass_steady {s : State} {u : State} (k : Steady s u) (a0) (a1) :
    Steady s (State.endPass a0 a1 u) := by
  unfold State.endPass
  with_reducible repeat' first
    | assumption
    | apply steady_ite
    | (intro x h; simp only [ScrubS.canonical, Bool.and_eq_true] at h ⊢; (repeat' split) <;> (simp only [h, Tab.set_wf, Tab.mod_wf, Tab.put_wf, Tab.erase_wf, Tab.remap_wf, Tab.filter_wf, Tab.wf_nil, Tab.foldl_set_wf, Tab.foldl_mod_wf, loaded_wf, mergeActivity_wf, and_self]; done))
    | refine State.modScr_steady ?_ ?_ 
    | apply State.ticketDone_steady
    | split
    | dsimp only
    | intro _

theorem State.stopPasses_steady {s : State} {u : State} (k : Steady s u)  :
    Steady s (State.stopPasses u) := by
  unfold State.stopPasses
  with_reducible repeat' first
    | assumption
    | apply steady_ite
    | refine forEach_steady (fun _ _ _ => ?_) ?_ _
    | apply State.endPass_steady
    | split
    | dsimp only
    | intro _

theorem State.fenceMigrations_steady {s : State} {u : State} (k : Steady s u) (a0) :
    Steady s (State.fenceMigrations a0 u) := by
  unfold State.fenceMigrations
  with_reducible repeat' first
    | assumption
    | apply steady_ite
    | refine forEach_steady (fun _ _ _ => ?_) ?_ _
    | apply State.abandon_steady
    | split
    | dsimp only
    | intro _

theorem State.countMig_steady {s : State} {u : State} (k : Steady s u) (a0) :
    Steady s (State.countMig a0 u) := by
  unfold State.countMig
  with_reducible repeat' first
    | assumption
    | apply steady_ite
    | (intro x h; simp only [TractS.canonical, Bool.and_eq_true] at h ⊢; (repeat' split) <;> (simp only [h, Tab.set_wf, Tab.mod_wf, Tab.put_wf, Tab.erase_wf, Tab.remap_wf, Tab.filter_wf, Tab.wf_nil, Tab.foldl_set_wf, Tab.foldl_mod_wf, loaded_wf, mergeActivity_wf, and_self]; done))
    | refine State.modTrc_steady ?_ ?_ 
    | split
    | dsimp only
    | intro _

theorem State.placed_steady {s : State} {u : State} (k : Steady s u) (a0) :
    Steady s (State.placed a0 u) := by
  unfold State.placed
  with_reducible repeat' first
    | assumption
    | apply steady_ite
    | apply State.modActivity_steady
    | apply State.zeroReads_steady
    | split
    | dsimp only
    | intro _

theorem State.moveBlank_steady {s : State} {u : State} (k : Steady s u) (a0) :
    Steady s (State.moveBlank a0 u) := by
  unfold State.moveBlank
  with_reducible repeat' first
    | assumption
    | apply steady_ite
    | (intro x h; simp only [TractS.canonical, Bool.and_eq_true] at h ⊢; (repeat' split) <;> (simp only [h, Tab.set_wf, Tab.mod_wf, Tab.put_wf, Tab.erase_wf, Tab.remap_wf, Tab.filter_wf, Tab.wf_nil, Tab.foldl_set_wf, Tab.foldl_mod_wf, loaded_wf, mergeActivity_wf, and_self]; done))
    | refine State.modTrc_steady ?_ ?_ 
    | apply State.putEntry_steady
    | apply State.giveUpPt_steady
    | apply State.countMig_steady
    | apply State.placed_steady
    | split
    | dsimp only
    | intro _

theorem State.modMig_steady {s : State} {u : State} (k : Steady s u) (a0) (a1) :
    Steady s (State.modMig a0 a1 u) := by
  unfold State.modMig
  with_reducible repeat' first
    | assumption
    | apply steady_ite
    | (intro x h; simp only [TractS.canonical, Bool.and_eq_true] at h ⊢; (repeat' split) <;> (simp only [h, Tab.set_wf, Tab.mod_wf, Tab.put_wf, Tab.erase_wf, Tab.remap_wf, Tab.filter_wf, Tab.wf_nil, Tab.foldl_set_wf, Tab.foldl_mod_wf, loaded_wf, mergeActivity_wf, and_self]; done))
    | refine State.modTrc_steady ?_ ?_ 
    | split
    | dsimp only
    | intro _

theorem State.copyEnds_steady {s : State} {u : State} (k : Steady s u) (a0) :
    Steady s (State.copyEnds a0 u) := by
  unfold State.copyEnds
  with_reducible repeat' first
    | assumption
    | apply steady_ite
    | apply State.moveBlank_steady
    | apply State.request_steady
    | apply State.modMig_steady
    | split
    | dsimp only
    | intro _

theorem State.migSync_steady {s : State} {u : State} (k : Steady s u)  :
    Steady s (State.migSync u) := by
  unfold State.migSync
  with_reducible repeat' first
    | assumption
    | apply steady_ite
    | refine forEach_steady (fun _ _ _ => ?_) ?_ _
    | apply State.copyEnds_steady
    | split
    | dsimp only
    | intro _

theorem State.lineAbsent_steady {s : State} {u : State} (k : Steady s u) (a0) (a1) :
    Steady s (State.lineAbsent a0 a1 u) := by
  unfold State.lineAbsent
  with_reducible repeat' first
    | assumption
    | apply steady_ite
    | apply State.modRead_steady
    | apply State.cannotRebuild_steady
    | apply State.reconstruct_steady
    | apply State.nodeRetry_steady
    | split
    | dsimp only
    | intro _

theorem State.waitedRead_steady {s : State} {u : State} (k : Steady s u) (a0) (a1) :
    Steady s (State.waitedRead a0 a1 u) := by
  unfold State.waitedRead
  with_reducible repeat' first
    | assumption
    | apply steady_ite
    | apply State.lineAbsent_steady
    | split
    | dsimp only
    | intro _

theorem State.endEpoch_steady {s : State} {u : State} (k : Steady s u) (a0) :
    Steady s (State.endEpoch a0 u) := by
  unfold State.endEpoch
  with_reducible repeat' first
    | assumption
    | apply steady_ite
    | (intro n; omega)
    | (intro x h; simp only [TractS.canonical, Bool.and_eq_true] at h ⊢; (repeat' split) <;> (simp only [h, Tab.set_wf, Tab.mod_wf, Tab.put_wf, Tab.erase_wf, Tab.remap_wf, Tab.filter_wf, Tab.wf_nil, Tab.foldl_set_wf, Tab.foldl_mod_wf, loaded_wf, mergeActivity_wf, and_self]; done))
    | refine State.modTrc_steady ?_ ?_ 
    | refine State.modFree_steady ?_ ?_
    | apply State.modActivity_steady
    | apply State.queueMig_steady
    | apply State.raisePeak_steady
    | split
    | dsimp only
    | intro _

theorem State.wearWriteback_steady {s : State} {u : State} (k : Steady s u)  :
    Steady s (State.wearWriteback u) := by
  unfold State.wearWriteback
  with_reducible repeat' first
    | assumption
    | apply steady_ite
    | (intro x h; simp only [TractS.canonical, Bool.and_eq_true] at h ⊢; (repeat' split) <;> (simp only [h, Tab.set_wf, Tab.mod_wf, Tab.put_wf, Tab.erase_wf, Tab.remap_wf, Tab.filter_wf, Tab.wf_nil, Tab.foldl_set_wf, Tab.foldl_mod_wf, loaded_wf, mergeActivity_wf, and_self]; done))
    | refine State.modTrc_steady ?_ ?_ 
    | split
    | dsimp only
    | intro _

theorem State.flushRecord_steady {s : State} {u : State} (k : Steady s u)  :
    Steady s (State.flushRecord u) := by
  unfold State.flushRecord
  with_reducible repeat' first
    | assumption
    | apply steady_ite
    | (intro x; (try dsimp only); (repeat' split) <;> (simp only [Nat.le_refl]; done))
    | (intro x; dsimp only; omega)
    | (intro x h; simp only [WbS.canonical, Bool.and_eq_true] at h ⊢; (repeat' split) <;> (simp only [h, Tab.set_wf, Tab.mod_wf, Tab.put_wf, Tab.erase_wf, Tab.remap_wf, Tab.filter_wf, Tab.wf_nil, Tab.foldl_set_wf, Tab.foldl_mod_wf, loaded_wf, mergeActivity_wf, and_self]; done))
    | refine State.modWb_steady ?_ ?_ ?_ 
    | split
    | dsimp only
    | intro _

theorem State.putRecordOf_steady {s : State} {u : State} (k : Steady s u) (a0) (a1) :
    Steady s (State.putRecordOf a0 a1 u) := by
  unfold State.putRecordOf
  with_reducible repeat' first
    | assumption
    | apply steady_ite
    | (intro x h; simp only [IntegS.canonical, Bool.and_eq_true] at h ⊢; (repeat' split) <;> (simp only [h, Tab.set_wf, Tab.mod_wf, Tab.put_wf, Tab.erase_wf, Tab.remap_wf, Tab.filter_wf, Tab.wf_nil, Tab.foldl_set_wf, Tab.foldl_mod_wf, loaded_wf, mergeActivity_wf, and_self]; done))
    | refine State.modItg_steady ?_ ?_ 
    | apply State.storeWrite_steady
    | split
    | dsimp only
    | intro _

theorem State.recordClosing_steady {s : State} {u : State} (k : Steady s u)  :
    Steady s (State.recordClosing u) := by
  unfold State.recordClosing
  with_reducible repeat' first
    | assumption
    | apply steady_ite
    | apply State.putRecordOf_steady
    | split
    | dsimp only
    | intro _

theorem State.lostEntries_steady {s : State} {u : State} (k : Steady s u) (a0) :
    Steady s (State.lostEntries a0 u) := by
  unfold State.lostEntries
  with_reducible repeat' first
    | assumption
    | apply steady_ite
    | refine forEach_steady (fun _ _ _ => ?_) ?_ _
    | apply State.report_steady
    | split
    | dsimp only
    | intro _

theorem State.busCount_steady {s : State} {u : State} (k : Steady s u) (a0) (a1) (a2) :
    Steady s (State.busCount a0 a1 a2 u) := by
  unfold State.busCount
  with_reducible repeat' first
    | assumption
    | apply steady_ite
    | apply State.modChannel_steady
    | split
    | dsimp only
    | intro _

theorem execProg_steady {s : State} {u : State} (k : Steady s u) (a0) (a1) (a2) :
    SteadyR s (execProg a0 a1 a2 u) := by
  unfold execProg
  with_reducible repeat' first
    | assumption
    | apply steady_ite
    | apply steadyR_ite
    | (intro x h; simp only [MediaS.canonical, Bool.and_eq_true] at h ⊢; (repeat' split) <;> (simp only [h, Tab.set_wf, Tab.mod_wf, Tab.put_wf, Tab.erase_wf, Tab.remap_wf, Tab.filter_wf, Tab.wf_nil, Tab.foldl_set_wf, Tab.foldl_mod_wf, loaded_wf, mergeActivity_wf, and_self]; done))
    | refine State.modMed_steady ?_ ?_ 
    | apply State.modPlane_steady
    | apply State.unreserve_steady
    | apply State.busCount_steady
    | apply SteadyR.next
    | split
    | dsimp only
    | intro _

theorem State.markRow_steady {s : State} {u : State} (k : Steady s u) (a0) (a1) :
    Steady s (State.markRow a0 a1 u) := by
  unfold State.markRow
  with_reducible repeat' first
    | assumption
    | apply steady_ite
    | apply State.modRebuild_steady
    | split
    | dsimp only
    | intro _

theorem State.rekeyFinish_steady {s : State} {u : State} (k : Steady s u)  :
    Steady s (State.rekeyFinish u) := by
  unfold State.rekeyFinish
  with_reducible repeat' first
    | assumption
    | apply steady_ite
    | (intro x h; simp only [IntegS.canonical, Bool.and_eq_true] at h ⊢; (repeat' split) <;> (simp only [h, Tab.set_wf, Tab.mod_wf, Tab.put_wf, Tab.erase_wf, Tab.remap_wf, Tab.filter_wf, Tab.wf_nil, Tab.foldl_set_wf, Tab.foldl_mod_wf, loaded_wf, mergeActivity_wf, and_self]; done))
    | refine State.modItg_steady ?_ ?_ 
    | apply State.storeWrite_steady
    | apply State.ticketDone_steady
    | apply State.modRegion_steady
    | split
    | dsimp only
    | intro _

theorem State.spanDone_steady {s : State} {u : State} (k : Steady s u) (a0) :
    Steady s (State.spanDone a0 u) := by
  unfold State.spanDone
  with_reducible repeat' first
    | assumption
    | apply steady_ite
    | (intro x h; simp only [IntegS.canonical, Bool.and_eq_true] at h ⊢; (repeat' split) <;> (simp only [h, Tab.set_wf, Tab.mod_wf, Tab.put_wf, Tab.erase_wf, Tab.remap_wf, Tab.filter_wf, Tab.wf_nil, Tab.foldl_set_wf, Tab.foldl_mod_wf, loaded_wf, mergeActivity_wf, and_self]; done))
    | refine State.modItg_steady ?_ ?_ 
    | apply State.rekeyFinish_steady
    | split
    | dsimp only
    | intro _

theorem State.finishUnit_steady {s : State} {u : State} (k : Steady s u) (a0) :
    Steady s (State.finishUnit a0 u) := by
  unfold State.finishUnit
  with_reducible repeat' first
    | assumption
    | apply steady_ite
    | (intro x; (try dsimp only); (repeat' split) <;> (simp only [Nat.le_refl]; done))
    | (intro x; dsimp only; omega)
    | (intro x h; simp only [WbS.canonical, Bool.and_eq_true] at h ⊢; (repeat' split) <;> (simp only [h, Tab.set_wf, Tab.mod_wf, Tab.put_wf, Tab.erase_wf, Tab.remap_wf, Tab.filter_wf, Tab.wf_nil, Tab.foldl_set_wf, Tab.foldl_mod_wf, loaded_wf, mergeActivity_wf, and_self]; done))
    | refine State.modWb_steady ?_ ?_ ?_ 
    | refine forEach_steady (fun _ _ _ => ?_) ?_ _
    | apply State.when_steady
    | apply State.dirtySync_steady
    | apply State.bufferSync_steady
    | apply State.markRow_steady
    | apply State.spanDone_steady
    | split
    | dsimp only
    | intro _

theorem execWearCheckpointWriteback_steady {s : State} {u : State} (k : Steady s u)  :
    SteadyR s (execWearCheckpointWriteback u) := by
  unfold execWearCheckpointWriteback
  with_reducible repeat' first
    | assumption
    | apply steady_ite
    | apply steadyR_ite
    | apply State.wearWriteback_steady
    | apply SteadyR.next
    | split
    | dsimp only
    | intro _

theorem State.putDirectory_steady {s : State} {u : State} (k : Steady s u) (a0) (a1) :
    Steady s (State.putDirectory a0 a1 u) := by
  unfold State.putDirectory
  with_reducible repeat' first
    | assumption
    | apply steady_ite
    | (intro x h; simp only [TractS.canonical, Bool.and_eq_true] at h ⊢; (repeat' split) <;> (simp only [h, Tab.set_wf, Tab.mod_wf, Tab.put_wf, Tab.erase_wf, Tab.remap_wf, Tab.filter_wf, Tab.wf_nil, Tab.foldl_set_wf, Tab.foldl_mod_wf, loaded_wf, mergeActivity_wf, and_self]; done))
    | refine State.modTrc_steady ?_ ?_ 
    | apply State.storeWrite_steady
    | split
    | dsimp only
    | intro _

theorem State.windowOpen_steady {s : State} {u : State} (k : Steady s u) (a0) (a1) (a2) (a3) (a4) :
    Steady s (State.windowOpen a0 a1 a2 a3 a4 u).2.2 := by
  unfold State.windowOpen
  with_reducible repeat' first
    | assumption
    | apply steady_ite
    | apply steady_ite_acc
    | (intro x h; simp only [IntegS.canonical, Bool.and_eq_true] at h ⊢; (repeat' split) <;> (simp only [h, Tab.set_wf, Tab.mod_wf, Tab.put_wf, Tab.erase_wf, Tab.remap_wf, Tab.filter_wf, Tab.wf_nil, Tab.foldl_set_wf, Tab.foldl_mod_wf, loaded_wf, mergeActivity_wf, and_self]; done))
    | refine State.modItg_steady ?_ ?_ 
    | apply State.manage_steady
    | apply State.security_steady
    | apply State.closeWindow_steady
    | apply State.answer_steady
    | split
    | dsimp only
    | intro _

theorem execDebugWindowClose_steady {s : State} {u : State} (k : Steady s u) (a0) :
    SteadyR s (execDebugWindowClose a0 u) := by
  unfold execDebugWindowClose
  with_reducible repeat' first
    | assumption
    | apply steady_ite
    | apply steadyR_ite
    | apply accessed_steady
    | apply respondAccess_steady
    | apply State.windowOpen_steady
    | apply SteadyR.next
    | split
    | dsimp only
    | intro _

theorem State.sensed_steady {s : State} {u : State} (k : Steady s u) (a0) (a1) (a2) (a3) (a4) :
    Steady s (State.sensed a0 a1 a2 a3 a4 u) := by
  unfold State.sensed
  with_reducible repeat' first
    | assumption
    | apply steady_ite
    | apply State.emit_steady
    | apply State.modDie_steady
    | apply State.sqSeen_steady
    | apply State.countSense_steady
    | split
    | dsimp only
    | intro _

theorem execSense_steady {s : State} {u : State} (k : Steady s u) (a0) (a1) (a2) (a3) (a4) (a5) :
    SteadyR s (execSense a0 a1 a2 a3 a4 a5 u) := by
  unfold execSense
  with_reducible repeat' first
    | assumption
    | apply steady_ite
    | apply steadyR_ite
    | apply State.modPlane_steady
    | apply State.busCount_steady
    | apply State.sensed_steady
    | apply SteadyR.next
    | split
    | dsimp only
    | intro _

theorem State.takeKey_steady {s : State} {u : State} (k : Steady s u) (a0) :
    Steady s (State.takeKey a0 u) := by
  unfold State.takeKey
  with_reducible repeat' first
    | assumption
    | apply steady_ite
    | (intro x h; simp only [IntegS.canonical, Bool.and_eq_true] at h ⊢; (repeat' split) <;> (simp only [h, Tab.set_wf, Tab.mod_wf, Tab.put_wf, Tab.erase_wf, Tab.remap_wf, Tab.filter_wf, Tab.wf_nil, Tab.foldl_set_wf, Tab.foldl_mod_wf, loaded_wf, mergeActivity_wf, and_self]; done))
    | refine State.modItg_steady ?_ ?_ 
    | split
    | dsimp only
    | intro _

theorem State.reportFound_steady {s : State} {u : State} (k : Steady s u) (a0) (a1) (a2) :
    Steady s (State.reportFound a0 a1 a2 u) := by
  unfold State.reportFound
  with_reducible repeat' first
    | assumption
    | apply steady_ite
    | refine forEach_steady (fun _ _ _ => ?_) ?_ _
    | apply State.when_steady
    | apply State.report_steady
    | apply State.queueRewrite_steady
    | apply State.sqSeen_steady
    | split
    | dsimp only
    | intro _

theorem State.startUnit_steady {s : State} {u : State} (k : Steady s u) (a0) (a1) (a2) (a3) (a4) (a5) (a6) :
    Steady s (State.startUnit a0 a1 a2 a3 a4 a5 a6 u) := by
  unfold State.startUnit
  with_reducible repeat' first
    | assumption
    | apply steady_ite
    | (intro x; (try dsimp only); (repeat' split) <;> (simp only [Nat.le_refl]; done))
    | (intro x; dsimp only; omega)
    | (intro x h; simp only [WbS.canonical, Bool.and_eq_true] at h ⊢; (repeat' split) <;> (simp only [h, Tab.set_wf, Tab.mod_wf, Tab.put_wf, Tab.erase_wf, Tab.remap_wf, Tab.filter_wf, Tab.wf_nil, Tab.foldl_set_wf, Tab.foldl_mod_wf, loaded_wf, mergeActivity_wf, and_self]; done))
    | refine State.modWb_steady ?_ ?_ ?_ 
    | apply State.pairCount_steady
    | split
    | dsimp only
    | intro _

theorem State.drainData_steady {s : State} {u : State} (k : Steady s u) (a0) (a1) (a2) (a3) :
    Steady s (State.drainData a0 a1 a2 a3 u) := by
  unfold State.drainData
  with_reducible repeat' first
    | assumption
    | apply steady_ite
    | (intro x h; simp only [IntegS.canonical, Bool.and_eq_true] at h ⊢; (repeat' split) <;> (simp only [h, Tab.set_wf, Tab.mod_wf, Tab.put_wf, Tab.erase_wf, Tab.remap_wf, Tab.filter_wf, Tab.wf_nil, Tab.foldl_set_wf, Tab.foldl_mod_wf, loaded_wf, mergeActivity_wf, and_self]; done))
    | refine State.modItg_steady ?_ ?_ 
    | refine forEach_steady (fun _ _ _ => ?_) ?_ _
    | apply State.putEntry_steady
    | apply State.countSenses_steady
    | apply State.alarm_steady
    | apply State.countTagFail_steady
    | apply State.lostEntries_steady
    | apply State.setBlock_steady
    | apply State.takeKey_steady
    | apply State.reportFound_steady
    | apply State.usedMajor_steady
    | apply State.nodeEntries_steady
    | apply State.startUnit_steady
    | split
    | dsimp only
    | intro _

theorem State.unseal_steady {s : State} {u : State} (k : Steady s u)  :
    Steady s (State.unseal u) := by
  unfold State.unseal
  with_reducible repeat' first
    | assumption
    | apply steady_ite
    | (intro x; (try dsimp only); (repeat' split) <;> (simp only [Nat.le_refl]; done))
    | (intro x; dsimp only; omega)
    | (intro x h; simp only [WbS.canonical, Bool.and_eq_true] at h ⊢; (repeat' split) <;> (simp only [h, Tab.set_wf, Tab.mod_wf, Tab.put_wf, Tab.erase_wf, Tab.remap_wf, Tab.filter_wf, Tab.wf_nil, Tab.foldl_set_wf, Tab.foldl_mod_wf, loaded_wf, mergeActivity_wf, and_self]; done))
    | refine State.modWb_steady ?_ ?_ ?_ 
    | refine forEach_steady (fun _ _ _ => ?_) ?_ _
    | apply State.complete_steady
    | split
    | dsimp only
    | intro _

theorem State.recDurable_steady {s : State} {u : State} (k : Steady s u) (a0) :
    Steady s (State.recDurable a0 u) := by
  unfold State.recDurable
  with_reducible repeat' first
    | assumption
    | apply steady_ite
    | (intro x; (try dsimp only); (repeat' split) <;> (simp only [Nat.le_refl]; done))
    | (intro x; dsimp only; omega)
    | (intro x h; simp only [WbS.canonical, Bool.and_eq_true] at h ⊢; (repeat' split) <;> (simp only [h, Tab.set_wf, Tab.mod_wf, Tab.put_wf, Tab.erase_wf, Tab.remap_wf, Tab.filter_wf, Tab.wf_nil, Tab.foldl_set_wf, Tab.foldl_mod_wf, loaded_wf, mergeActivity_wf, and_self]; done))
    | refine State.modWb_steady ?_ ?_ ?_ 
    | split
    | dsimp only
    | intro _

theorem State.dipEnd_steady {s : State} {u : State} (k : Steady s u)  :
    Steady s (State.dipEnd u) := by
  unfold State.dipEnd
  with_reducible repeat' first
    | assumption
    | apply steady_ite
    | (intro x; (try dsimp only); (repeat' split) <;> (simp only [Nat.le_refl]; done))
    | (intro x; dsimp only; omega)
    | (intro x h; simp only [WbS.canonical, Bool.and_eq_true] at h ⊢; (repeat' split) <;> (simp only [h, Tab.set_wf, Tab.mod_wf, Tab.put_wf, Tab.erase_wf, Tab.remap_wf, Tab.filter_wf, Tab.wf_nil, Tab.foldl_set_wf, Tab.foldl_mod_wf, loaded_wf, mergeActivity_wf, and_self]; done))
    | refine State.modWb_steady ?_ ?_ ?_ 
    | apply State.creditSync_steady
    | split
    | dsimp only
    | intro _

theorem execSealRecordDurable_steady {s : State} {u : State} (k : Steady s u) (a0) :
    SteadyR s (execSealRecordDurable a0 u) := by
  unfold execSealRecordDurable
  with_reducible repeat' first
    | assumption
    | apply steady_ite
    | apply steadyR_ite
    | apply State.sealMore_steady
    | apply State.unseal_steady
    | apply State.recDurable_steady
    | apply State.dipEnd_steady
    | apply SteadyR.next
    | split
    | dsimp only
    | intro _

theorem State.ageEntry_steady {s : State} {u : State} (k : Steady s u) (a0) :
    Steady s (State.ageEntry a0 u) := by
  unfold State.ageEntry
  with_reducible repeat' first
    | assumption
    | apply steady_ite
    | (intro x; (try dsimp only); (repeat' split) <;> (simp only [Nat.le_refl]; done))
    | (intro x; dsimp only; omega)
    | (intro x h; simp only [WbS.canonical, Bool.and_eq_true] at h ⊢; (repeat' split) <;> (simp only [h, Tab.set_wf, Tab.mod_wf, Tab.put_wf, Tab.erase_wf, Tab.remap_wf, Tab.filter_wf, Tab.wf_nil, Tab.foldl_set_wf, Tab.foldl_mod_wf, loaded_wf, mergeActivity_wf, and_self]; done))
    | refine State.modWb_steady ?_ ?_ ?_ 
    | split
    | dsimp only
    | intro _

theorem State.rebuildRow_steady {s : State} {u : State} (k : Steady s u) (a0) (a1) (a2) (a3) :
    Steady s (State.rebuildRow a0 a1 a2 a3 u) := by
  unfold State.rebuildRow
  with_reducible repeat' first
    | assumption
    | apply steady_ite
    | refine forEach_steady (fun _ _ _ => ?_) ?_ _
    | apply State.report_steady
    | apply State.wear_steady
    | apply State.putGranule_steady
    | apply State.sqSeen_steady
    | apply State.countSenses_steady
    | apply State.requestAll_steady
    | split
    | dsimp only
    | intro _

theorem execStatus_steady {s : State} {u : State} (k : Steady s u) (a0) (a1) :
    SteadyR s (execStatus a0 a1 u) := by
  unfold execStatus
  with_reducible repeat' first
    | assumption
    | apply steady_ite
    | apply steadyR_ite
    | apply State.emit_steady
    | apply SteadyR.next
    | split
    | dsimp only
    | intro _

theorem State.modPass_steady {s : State} {u : State} (k : Steady s u) (a0) (a1) :
    Steady s (State.modPass a0 a1 u) := by
  unfold State.modPass
  with_reducible repeat' first
    | assumption
    | apply steady_ite
    | (intro x h; simp only [ScrubS.canonical, Bool.and_eq_true] at h ⊢; (repeat' split) <;> (simp only [h, Tab.set_wf, Tab.mod_wf, Tab.put_wf, Tab.erase_wf, Tab.remap_wf, Tab.filter_wf, Tab.wf_nil, Tab.foldl_set_wf, Tab.foldl_mod_wf, loaded_wf, mergeActivity_wf, and_self]; done))
    | refine State.modScr_steady ?_ ?_ 
    | split
    | dsimp only
    | intro _

theorem execHeatPeriod_steady {s : State} {u : State} (k : Steady s u)  :
    SteadyR s (execHeatPeriod u) := by
  unfold execHeatPeriod
  with_reducible repeat' first
    | assumption
    | apply steady_ite
    | apply steadyR_ite
    | refine forEach_steady (fun _ _ _ => ?_) ?_ _
    | apply State.modActivity_steady
    | apply SteadyR.next
    | split
    | dsimp only
    | intro _

theorem State.scrubCancelOp_steady {s : State} {u : State} (k : Steady s u) (a0) (a1) :
    Steady s (State.scrubCancelOp a0 a1 u).2.2 := by
  unfold State.scrubCancelOp
  with_reducible repeat' first
    | assumption
    | apply steady_ite
    | apply steady_ite_acc
    | apply State.manage_steady
    | apply State.answer_steady
    | apply State.modPass_steady
    | split
    | dsimp only
    | intro _

theorem execScrubCancel_steady {s : State} {u : State} (k : Steady s u) (a0) :
    SteadyR s (execScrubCancel a0 u) := by
  unfold execScrubCancel
  with_reducible repeat' first
    | assumption
    | apply steady_ite
    | apply steadyR_ite
    | apply accessed_steady
    | apply respondAccess_steady
    | apply State.scrubCancelOp_steady
    | apply SteadyR.next
    | split
    | dsimp only
    | intro _

theorem State.recordOpen_steady {s : State} {u : State} (k : Steady s u)  :
    Steady s (State.recordOpen u) := by
  unfold State.recordOpen
  with_reducible repeat' first
    | assumption
    | apply steady_ite
    | apply State.putRecordOf_steady
    | split
    | dsimp only
    | intro _

theorem State.adoptRoot_steady {s : State} {u : State} (k : Steady s u)  :
    Steady s (State.adoptRoot u) := by
  unfold State.adoptRoot
  with_reducible repeat' first
    | assumption
    | apply steady_ite
    | (intro x h; simp only [IntegS.canonical, Bool.and_eq_true] at h ⊢; (repeat' split) <;> (simp only [h, Tab.set_wf, Tab.mod_wf, Tab.put_wf, Tab.erase_wf, Tab.remap_wf, Tab.filter_wf, Tab.wf_nil, Tab.foldl_set_wf, Tab.foldl_mod_wf, loaded_wf, mergeActivity_wf, and_self]; done))
    | refine State.modItg_steady ?_ ?_ 
    | apply State.modStr_steady
    | apply State.security_steady
    | apply State.recordOpen_steady
    | split
    | dsimp only
    | intro _

theorem State.rootOp_steady {s : State} {u : State} (k : Steady s u) (a0) (a1) :
    Steady s (State.rootOp a0 a1 u).2.2 := by
  unfold State.rootOp
  with_reducible repeat' first
    | assumption
    | apply steady_ite
    | apply steady_ite_acc
    | refine forEach_steady (fun _ _ _ => ?_) ?_ _
    | apply State.ticketDone_steady
    | apply State.putEntry_steady
    | apply State.answer_steady
    | apply State.deferred_steady
    | apply State.adoptRoot_steady
    | apply id_steady
    | split
    | dsimp only
    | intro _

theorem execRootDecisionReject_steady {s : State} {u : State} (k : Steady s u) (a0) :
    SteadyR s (execRootDecisionReject a0 u) := by
  unfold execRootDecisionReject
  with_reducible repeat' first
    | assumption
    | apply steady_ite
    | apply steadyR_ite
    | apply guarded_steady
    | apply accessed_steady
    | apply respondAccess_steady
    | apply State.rootOp_steady
    | apply SteadyR.next
    | split
    | dsimp only
    | intro _

theorem State.sweepEnds_steady {s : State} {u : State} (k : Steady s u)  :
    Steady s (State.sweepEnds u) := by
  unfold State.sweepEnds
  with_reducible repeat' first
    | assumption
    | apply steady_ite
    | (intro x h; simp only [ExtS.canonical, Bool.and_eq_true] at h ⊢; (repeat' split) <;> (simp only [h, Tab.set_wf, Tab.mod_wf, Tab.put_wf, Tab.erase_wf, Tab.remap_wf, Tab.filter_wf, Tab.wf_nil, Tab.foldl_set_wf, Tab.foldl_mod_wf, loaded_wf, mergeActivity_wf, and_self]; done))
    | refine State.modExt_steady ?_ ?_ 
    | split
    | dsimp only
    | intro _

theorem State.refrSync_steady {s : State} {u : State} (k : Steady s u) (a0) :
    Steady s (State.refrSync a0 u) := by
  unfold State.refrSync
  with_reducible repeat' first
    | assumption
    | apply steady_ite
    | apply State.modEntry_steady
    | split
    | dsimp only
    | intro _

theorem State.takeEngineSlot_steady {s : State} {u : State} (k : Steady s u) (a0) :
    Steady s (State.takeEngineSlot a0 u) := by
  unfold State.takeEngineSlot
  with_reducible repeat' first
    | assumption
    | apply steady_ite
    | apply State.modPlane_steady
    | split
    | dsimp only
    | intro _

theorem execHsense_steady {s : State} {u : State} (k : Steady s u) (a0) (a1) (a2) :
    SteadyR s (execHsense a0 a1 a2 u) := by
  unfold execHsense
  with_reducible repeat' first
    | assumption
    | apply steady_ite
    | apply steadyR_ite
    | apply State.emit_steady
    | apply State.countSense_steady
    | apply State.busCount_steady
    | apply State.takeEngineSlot_steady
    | apply SteadyR.next
    | split
    | dsimp only
    | intro _

theorem State.reestablish_steady {s : State} {u : State} (k : Steady s u) (a0) :
    Steady s (State.reestablish a0 u) := by
  unfold State.reestablish
  with_reducible repeat' first
    | assumption
    | apply steady_ite
    | (intro x h; simp only [IntegS.canonical, Bool.and_eq_true] at h ⊢; (repeat' split) <;> (simp only [h, Tab.set_wf, Tab.mod_wf, Tab.put_wf, Tab.erase_wf, Tab.remap_wf, Tab.filter_wf, Tab.wf_nil, Tab.foldl_set_wf, Tab.foldl_mod_wf, loaded_wf, mergeActivity_wf, and_self]; done))
    | refine State.modItg_steady ?_ ?_ 
    | apply State.renew_steady
    | split
    | dsimp only
    | intro _

theorem State.rekeyOp_steady {s : State} {u : State} (k : Steady s u) (a0) (a1) :
    Steady s (State.rekeyOp a0 a1 u).2.2 := by
  unfold State.rekeyOp
  with_reducible repeat' first
    | assumption
    | apply steady_ite
    | apply steady_ite_acc
    | (intro x h; simp only [IntegS.canonical, Bool.and_eq_true] at h ⊢; (repeat' split) <;> (simp only [h, Tab.set_wf, Tab.mod_wf, Tab.put_wf, Tab.erase_wf, Tab.remap_wf, Tab.filter_wf, Tab.wf_nil, Tab.foldl_set_wf, Tab.foldl_mod_wf, loaded_wf, mergeActivity_wf, and_self]; done))
    | refine State.modItg_steady ?_ ?_ 
    | apply State.storeWrite_steady
    | apply State.answer_steady
    | apply State.deferred_steady
    | apply State.rekeyFinish_steady
    | split
    | dsimp only
    | intro _

theorem State.scrubOp_steady {s : State} {u : State} (k : Steady s u) (a0) (a1) (a2) (a3) (a4) :
    Steady s (State.scrubOp a0 a1 a2 a3 a4 u).2.2 := by
  unfold State.scrubOp
  with_reducible repeat' first
    | assumption
    | apply steady_ite
    | apply steady_ite_acc
    | (intro x h; simp only [ScrubS.canonical, Bool.and_eq_true] at h ⊢; (repeat' split) <;> (simp only [h, Tab.set_wf, Tab.mod_wf, Tab.put_wf, Tab.erase_wf, Tab.remap_wf, Tab.filter_wf, Tab.wf_nil, Tab.foldl_set_wf, Tab.foldl_mod_wf, loaded_wf, mergeActivity_wf, and_self]; done))
    | refine State.modScr_steady ?_ ?_ 
    | apply State.answer_steady
    | apply State.deferred_steady
    | split
    | dsimp only
    | intro _

theorem State.nodeRecovered_steady {s : State} {u : State} (k : Steady s u) (a0) :
    Steady s (State.nodeRecovered a0 u) := by
  unfold State.nodeRecovered
  with_reducible repeat' first
    | assumption
    | apply steady_ite
    | (intro x h; simp only [IntegS.canonical, Bool.and_eq_true] at h ⊢; (repeat' split) <;> (simp only [h, Tab.set_wf, Tab.mod_wf, Tab.put_wf, Tab.erase_wf, Tab.remap_wf, Tab.filter_wf, Tab.wf_nil, Tab.foldl_set_wf, Tab.foldl_mod_wf, loaded_wf, mergeActivity_wf, and_self]; done))
    | refine State.modItg_steady ?_ ?_ 
    | apply State.alarm_steady
    | split
    | dsimp only
    | intro _

theorem State.pathChecked_steady {s : State} {a3 : State → State} (ka3 : ∀  v, Steady s v → Steady s (a3  v)) {u : State} (k : Steady s u) (a0) (a1) (a2) :
    Steady s (State.pathChecked a0 a1 a2 a3 u) := by
  unfold State.pathChecked
  with_reducible repeat' first
    | assumption
    | apply steady_ite
    | apply State.loseTracts_steady
    | apply State.nodeRecovered_steady
    | refine ka3  _ ?_
    | split
    | dsimp only
    | intro _

theorem State.halfLost_steady {s : State} {u : State} (k : Steady s u) (a0) (a1) :
    Steady s (State.halfLost a0 a1 u) := by
  unfold State.halfLost
  with_reducible repeat' first
    | assumption
    | apply steady_ite
    | apply State.loseTracts_steady
    | split
    | dsimp only
    | intro _

theorem State.drainNodes_steady {s : State} {u : State} (k : Steady s u) (a0) (a1) (a2) (a3) :
    Steady s (State.drainNodes a0 a1 a2 a3 u) := by
  unfold State.drainNodes
  with_reducible repeat' first
    | assumption
    | apply steady_ite
    | refine forEach_steady (fun _ _ _ => ?_) ?_ _
    | apply State.lostEntries_steady
    | apply State.reportFound_steady
    | apply State.startUnit_steady
    | apply State.halfLost_steady
    | split
    | dsimp only
    | intro _

theorem execDrainUnitSelect_steady {s : State} {u : State} (k : Steady s u) (a0) (a1) (a2) (a3) (a4) :
    SteadyR s (execDrainUnitSelect a0 a1 a2 a3 a4 u) := by
  unfold execDrainUnitSelect
  with_reducible repeat' first
    | assumption
    | apply steady_ite
    | apply steadyR_ite
    | apply State.abandon_steady
    | apply State.drainData_steady
    | apply State.pathChecked_steady
    | apply State.drainNodes_steady
    | apply SteadyR.next
    | split
    | dsimp only
    | intro _

theorem State.writeNode_steady {s : State} {u : State} (k : Steady s u) (a0) (a1) (a2) :
    Steady s (State.writeNode a0 a1 a2 u) := by
  unfold State.writeNode
  with_reducible repeat' first
    | assumption
    | apply steady_ite
    | apply State.requestAll_steady
    | split
    | dsimp only
    | intro _

theorem State.moveNodes_steady {s : State} {u : State} (k : Steady s u) (a0) :
    Steady s (State.moveNodes a0 u) := by
  unfold State.moveNodes
  with_reducible repeat' first
    | assumption
    | apply steady_ite
    | refine forEach_steady (fun _ _ _ => ?_) ?_ _
    | apply State.writeNode_steady
    | split
    | dsimp only
    | intro _

theorem execMigrationRowCopy_steady {s : State} {u : State} (k : Steady s u) (a0) (a1) :
    SteadyR s (execMigrationRowCopy a0 a1 u) := by
  unfold execMigrationRowCopy
  with_reducible repeat' first
    | assumption
    | apply steady_ite
    | apply steadyR_ite
    | apply State.countSenses_steady
    | apply State.engineCount_steady
    | apply State.modMig_steady
    | apply State.migSync_steady
    | apply State.reportFound_steady
    | apply State.requestAll_steady
    | apply State.moveNodes_steady
    | apply SteadyR.next
    | split
    | dsimp only
    | intro _

theorem execDebugWindowExpiry_steady {s : State} {u : State} (k : Steady s u) (a0) :
    SteadyR s (execDebugWindowExpiry a0 u) := by
  unfold execDebugWindowExpiry
  with_reducible repeat' first
    | assumption
    | apply steady_ite
    | apply steadyR_ite
    | apply State.closeWindow_steady
    | apply SteadyR.next
    | split
    | dsimp only
    | intro _

theorem execScrubPhysicalPass_steady {s : State} {u : State} (k : Steady s u) (a0) (a1) (a2) (a3) :
    SteadyR s (execScrubPhysicalPass a0 a1 a2 a3 u) := by
  unfold execScrubPhysicalPass
  with_reducible repeat' first
    | assumption
    | apply steady_ite
    | apply steadyR_ite
    | apply guarded_steady
    | apply accessed_steady
    | apply respondAccess_steady
    | apply State.scrubOp_steady
    | apply SteadyR.next
    | split
    | dsimp only
    | intro _

theorem execCheckpointVerified_steady {s : State} {u : State} (k : Steady s u) (a0) :
    SteadyR s (execCheckpointVerified a0 u) := by
  unfold execCheckpointVerified
  with_reducible repeat' first
    | assumption
    | apply steady_ite
    | apply steadyR_ite
    | (intro x h; simp only [TractS.canonical, Bool.and_eq_true] at h ⊢; (repeat' split) <;> (simp only [h, Tab.set_wf, Tab.mod_wf, Tab.put_wf, Tab.erase_wf, Tab.remap_wf, Tab.filter_wf, Tab.wf_nil, Tab.foldl_set_wf, Tab.foldl_mod_wf, loaded_wf, mergeActivity_wf, and_self]; done))
    | refine State.modTrc_steady ?_ ?_ 
    | apply State.freeTract_steady
    | apply State.checkpointB_steady
    | apply State.modEntry_steady
    | apply State.countMig_steady
    | apply SteadyR.next
    | split
    | dsimp only
    | intro _

theorem execDrainUnitComplete_steady {s : State} {u : State} (k : Steady s u) (a0) :
    SteadyR s (execDrainUnitComplete a0 u) := by
  unfold execDrainUnitComplete
  with_reducible repeat' first
    | assumption
    | apply steady_ite
    | apply steadyR_ite
    | apply State.finishUnit_steady
    | apply SteadyR.next
    | split
    | dsimp only
    | intro _

theorem execLoad_steady {s : State} {u : State} (k : Steady s u) (a0) (a1) (a2) (a3) :
    SteadyR s (execLoad a0 a1 a2 a3 u) := by
  unfold execLoad
  with_reducible repeat' first
    | assumption
    | apply steady_ite
    | apply steadyR_ite
    | apply State.modChannel_steady
    | apply State.modPlane_steady
    | apply SteadyR.next
    | split
    | dsimp only
    | intro _

theorem execAbortTimeout_steady {s : State} {u : State} (k : Steady s u) (a0) (a1) (a2) :
    SteadyR s (execAbortTimeout a0 a1 a2 u) := by
  unfold execAbortTimeout
  with_reducible repeat' first
    | assumption
    | apply steady_ite
    | apply steadyR_ite
    | refine forEach_steady (fun _ _ _ => ?_) ?_ _
    | apply State.report_steady
    | apply State.modPlane_steady
    | apply State.waitedRead_steady
    | apply State.noAnswer_steady
    | apply SteadyR.next
    | split
    | dsimp only
    | intro _

theorem State.dropNodesAt_steady {s : State} {u : State} (k : Steady s u) (a0) (a1) :
    Steady s (State.dropNodesAt a0 a1 u) := by
  unfold State.dropNodesAt
  with_reducible repeat' first
    | assumption
    | apply steady_ite
    | (intro x; (try dsimp only); (repeat' split) <;> (simp only [Nat.le_refl]; done))
    | (intro x; dsimp only; omega)
    | (intro x h; simp only [WbS.canonical, Bool.and_eq_true] at h ⊢; (repeat' split) <;> (simp only [h, Tab.set_wf, Tab.mod_wf, Tab.put_wf, Tab.erase_wf, Tab.remap_wf, Tab.filter_wf, Tab.wf_nil, Tab.foldl_set_wf, Tab.foldl_mod_wf, loaded_wf, mergeActivity_wf, and_self]; done))
    | refine State.modWb_steady ?_ ?_ ?_ 
    | split
    | dsimp only
    | intro _

theorem execSealVerified_steady {s : State} {u : State} (k : Steady s u) (a0) :
    SteadyR s (execSealVerified a0 u) := by
  unfold execSealVerified
  with_reducible repeat' first
    | assumption
    | apply steady_ite
    | apply steadyR_ite
    | apply State.dirtySync_steady
    | apply State.modMig_steady
    | apply State.bufferSync_steady
    | apply State.dropNodesAt_steady
    | apply SteadyR.next
    | split
    | dsimp only
    | intro _

theorem execDebugWindowOpen_steady {s : State} {u : State} (k : Steady s u) (a0) (a1) (a2) (a3) :
    SteadyR s (execDebugWindowOpen a0 a1 a2 a3 u) := by
  unfold execDebugWindowOpen
  with_reducible repeat' first
    | assumption
    | apply steady_ite
    | apply steadyR_ite
    | apply accessed_steady
    | apply respondAccess_steady
    | apply State.windowOpen_steady
    | apply SteadyR.next
    | split
    | dsimp only
    | intro _

theorem execStarvationThreshold_steady {s : State} {u : State} (k : Steady s u) (a0) :
    SteadyR s (execStarvationThreshold a0 u) := by
  unfold execStarvationThreshold
  with_reducible repeat' first
    | assumption
    | apply steady_ite
    | apply steadyR_ite
    | (intro x; (try dsimp only); (repeat' split) <;> (simp only [Nat.le_refl]; done))
    | (intro x; dsimp only; omega)
    | (intro x h; simp only [WbS.canonical, Bool.and_eq_true] at h ⊢; (repeat' split) <;> (simp only [h, Tab.set_wf, Tab.mod_wf, Tab.put_wf, Tab.erase_wf, Tab.remap_wf, Tab.filter_wf, Tab.wf_nil, Tab.foldl_set_wf, Tab.foldl_mod_wf, loaded_wf, mergeActivity_wf, and_self]; done))
    | refine State.modWb_steady ?_ ?_ ?_ 
    | apply State.report_steady
    | apply SteadyR.next
    | split
    | dsimp only
    | intro _

theorem State.abortPlane_steady {s : State} {u : State} (k : Steady s u) (a0) :
    Steady s (State.abortPlane a0 u) := by
  unfold State.abortPlane
  with_reducible repeat' first
    | assumption
    | apply steady_ite
    | apply State.modPlane_steady
    | split
    | dsimp only
    | intro _

theorem execAbort_steady {s : State} {u : State} (k : Steady s u) (a0) (a1) (a2) :
    SteadyR s (execAbort a0 a1 a2 u) := by
  unfold execAbort
  with_reducible repeat' first
    | assumption
    | apply steady_ite
    | apply steadyR_ite
    | apply State.abortPlane_steady
    | apply SteadyR.next
    | split
    | dsimp only
    | intro _

theorem execEsense_steady {s : State} {u : State} (k : Steady s u) (a0) (a1) (a2) (a3) (a4) :
    SteadyR s (execEsense a0 a1 a2 a3 a4 u) := by
  unfold execEsense
  with_reducible repeat' first
    | assumption
    | apply steady_ite
    | apply steadyR_ite
    | apply State.busCount_steady
    | apply State.sensed_steady
    | apply State.takeEngineSlot_steady
    | apply SteadyR.next
    | split
    | dsimp only
    | intro _

theorem execClrseg_steady {s : State} {u : State} (k : Steady s u) (a0) (a1) (a2) (a3) :
    SteadyR s (execClrseg a0 a1 a2 a3 u) := by
  unfold execClrseg
  with_reducible repeat' first
    | assumption
    | apply steady_ite
    | apply steadyR_ite
    | (intro x h; simp only [MediaS.canonical, Bool.and_eq_true] at h ⊢; (repeat' split) <;> (simp only [h, Tab.set_wf, Tab.mod_wf, Tab.put_wf, Tab.erase_wf, Tab.remap_wf, Tab.filter_wf, Tab.wf_nil, Tab.foldl_set_wf, Tab.foldl_mod_wf, loaded_wf, mergeActivity_wf, and_self]; done))
    | refine State.modMed_steady ?_ ?_ 
    | refine forEach_steady (fun _ _ _ => ?_) ?_ _
    | apply State.wear_steady
    | apply State.modPlane_steady
    | apply State.unreserve_steady
    | apply State.busCount_steady
    | apply SteadyR.next
    | split
    | dsimp only
    | intro _

theorem execTrim_steady {s : State} {u : State} (k : Steady s u) (a0) (a1) (a2) :
    SteadyR s (execTrim a0 a1 a2 u) := by
  unfold execTrim
  with_reducible repeat' first
    | assumption
    | apply steady_ite
    | apply steadyR_ite
    | apply State.emit_steady
    | apply State.draw_steady
    | refine steady_snd_of_eq ‹State.draw _ = _› (State.draw_steady ?_)
    | apply SteadyR.next
    | split
    | dsimp only
    | intro _

theorem execCheck_steady {s : State} {u : State} (k : Steady s u) (a0) (a1) (a2) :
    SteadyR s (execCheck a0 a1 a2 u) := by
  unfold execCheck
  with_reducible repeat' first
    | assumption
    | apply steady_ite
    | apply steadyR_ite
    | (intro x h; simp only [MediaS.canonical, Bool.and_eq_true] at h ⊢; (repeat' split) <;> (simp only [h, Tab.set_wf, Tab.mod_wf, Tab.put_wf, Tab.erase_wf, Tab.remap_wf, Tab.filter_wf, Tab.wf_nil, Tab.foldl_set_wf, Tab.foldl_mod_wf, loaded_wf, mergeActivity_wf, and_self]; done))
    | refine State.modMed_steady ?_ ?_ 
    | apply State.modChannel_steady
    | apply State.modPlane_steady
    | apply State.abortPlane_steady
    | apply SteadyR.next
    | split
    | dsimp only
    | intro _

theorem State.revoke_steady {s : State} {u : State} (k : Steady s u) (a0) (a1) (a2) :
    Steady s (State.revoke a0 a1 a2 u) := by
  unfold State.revoke
  with_reducible repeat' first
    | assumption
    | apply steady_ite
    | (intro x h; simp only [MediaS.canonical, Bool.and_eq_true] at h ⊢; (repeat' split) <;> (simp only [h, Tab.set_wf, Tab.mod_wf, Tab.put_wf, Tab.erase_wf, Tab.remap_wf, Tab.filter_wf, Tab.wf_nil, Tab.foldl_set_wf, Tab.foldl_mod_wf, loaded_wf, mergeActivity_wf, and_self]; done))
    | refine State.modMed_steady ?_ ?_ 
    | apply State.modDie_steady
    | apply State.modPlane_steady
    | apply State.cutOff_steady
    | apply State.unreserve_steady
    | apply State.release_steady
    | split
    | dsimp only
    | intro _

theorem execAbortReport_steady {s : State} {u : State} (k : Steady s u) (a0) (a1) (a2) (a3) (a4) :
    SteadyR s (execAbortReport a0 a1 a2 a3 a4 u) := by
  unfold execAbortReport
  with_reducible repeat' first
    | assumption
    | apply steady_ite
    | apply steadyR_ite
    | apply State.modPlane_steady
    | apply State.grant_steady
    | apply State.migSync_steady
    | apply State.grantIdle_steady
    | apply State.opComplete_steady
    | apply State.revoke_steady
    | apply SteadyR.next
    | split
    | dsimp only
    | intro _

theorem State.senseEnds_steady {s : State} {u : State} (k : Steady s u) (a0) :
    Steady s (State.senseEnds a0 u) := by
  unfold State.senseEnds
  with_reducible repeat' first
    | assumption
    | apply steady_ite
    | apply State.modPlane_steady
    | apply State.grant_steady
    | split
    | dsimp only
    | intro _

theorem State.verifyFailed_steady {s : State} {u : State} (k : Steady s u) (a0) (a1) :
    Steady s (State.verifyFailed a0 a1 u) := by
  unfold State.verifyFailed
  with_reducible repeat' first
    | assumption
    | apply steady_ite
    | apply State.wear_steady
    | apply State.modPlane_steady
    | apply State.destroy_steady
    | apply State.programDone_steady
    | apply State.release_steady
    | apply State.nextOp_steady
    | apply State.listBad_steady
    | apply State.abandonFor_steady
    | split
    | dsimp only
    | intro _

theorem execPlaneOperationEnd_steady {s : State} {u : State} (k : Steady s u) (a0) (a1) (a2) (a3) :
    SteadyR s (execPlaneOperationEnd a0 a1 a2 a3 u) := by
  unfold execPlaneOperationEnd
  with_reducible repeat' first
    | assumption
    | apply steady_ite
    | apply steadyR_ite
    | apply State.migSync_steady
    | apply State.grantIdle_steady
    | apply State.opComplete_steady
    | apply State.senseEnds_steady
    | apply State.nextOp_steady
    | apply State.verifyFailed_steady
    | apply SteadyR.next
    | split
    | dsimp only
    | intro _

theorem State.engineAbandoned_steady {s : State} {u : State} (k : Steady s u) (a0) (a1) (a2) :
    Steady s (State.engineAbandoned a0 a1 a2 u) := by
  unfold State.engineAbandoned
  with_reducible repeat' first
    | assumption
    | apply steady_ite
    | apply State.modPlane_steady
    | apply State.grant_steady
    | apply State.noAnswer_steady
    | split
    | dsimp only
    | intro _

theorem execSenseTimeout_steady {s : State} {u : State} (k : Steady s u) (a0) :
    SteadyR s (execSenseTimeout a0 u) := by
  unfold execSenseTimeout
  with_reducible repeat' first
    | assumption
    | apply steady_ite
    | apply steadyR_ite
    | apply State.lineAbsent_steady
    | apply State.noAnswer_steady
    | apply State.engineAbandoned_steady
    | apply SteadyR.next
    | split
    | dsimp only
    | intro _

theorem execProgramStatusTimeout_steady {s : State} {u : State} (k : Steady s u) (a0) (a1) (a2) :
    SteadyR s (execProgramStatusTimeout a0 a1 a2 u) := by
  unfold execProgramStatusTimeout
  with_reducible repeat' first
    | assumption
    | apply steady_ite
    | apply steadyR_ite
    | apply State.modPlane_steady
    | apply State.grant_steady
    | apply State.grantIdle_steady
    | apply State.noAnswer_steady
    | apply State.revoke_steady
    | apply SteadyR.next
    | split
    | dsimp only
    | intro _

theorem execCommandParityError_steady {s : State} {u : State} (k : Steady s u) (a0) (a1) (a2) :
    SteadyR s (execCommandParityError a0 a1 a2 u) := by
  unfold execCommandParityError
  with_reducible repeat' first
    | assumption
    | apply steady_ite
    | apply steadyR_ite
    | apply State.modChannel_steady
    | apply State.markReconstructed_steady
    | apply SteadyR.next
    | split
    | dsimp only
    | intro _

theorem execChannelTimingError_steady {s : State} {u : State} (k : Steady s u) (a0) (a1) :
    SteadyR s (execChannelTimingError a0 a1 u) := by
  unfold execChannelTimingError
  with_reducible repeat' first
    | assumption
    | apply steady_ite
    | apply steadyR_ite
    | apply State.modChannel_steady
    | apply State.report_steady
    | apply SteadyR.next
    | split
    | dsimp only
    | intro _

theorem execChannelTrainingTimeout_steady {s : State} {u : State} (k : Steady s u) (a0) :
    SteadyR s (execChannelTrainingTimeout a0 u) := by
  unfold execChannelTrainingTimeout
  with_reducible repeat' first
    | assumption
    | apply steady_ite
    | apply steadyR_ite
    | apply State.report_steady
    | apply SteadyR.next
    | split
    | dsimp only
    | intro _

theorem execCoalescingDelayExpiry_steady {s : State} {u : State} (k : Steady s u) (a0) :
    SteadyR s (execCoalescingDelayExpiry a0 u) := by
  unfold execCoalescingDelayExpiry
  with_reducible repeat' first
    | assumption
    | apply steady_ite
    | apply steadyR_ite
    | apply State.ageEntry_steady
    | apply SteadyR.next
    | split
    | dsimp only
    | intro _

theorem execDrainProgramsStart_steady {s : State} {u : State} (k : Steady s u) (a0) :
    SteadyR s (execDrainProgramsStart a0 u) := by
  unfold execDrainProgramsStart
  with_reducible repeat' first
    | assumption
    | apply steady_ite
    | apply steadyR_ite
    | (intro x; (try dsimp only); (repeat' split) <;> (simp only [Nat.le_refl]; done))
    | (intro x; dsimp only; omega)
    | (intro x h; simp only [WbS.canonical, Bool.and_eq_true] at h ⊢; (repeat' split) <;> (simp only [h, Tab.set_wf, Tab.mod_wf, Tab.put_wf, Tab.erase_wf, Tab.remap_wf, Tab.filter_wf, Tab.wf_nil, Tab.foldl_set_wf, Tab.foldl_mod_wf, loaded_wf, mergeActivity_wf, and_self]; done))
    | refine State.modWb_steady ?_ ?_ ?_ 
    | refine forEach_steady (fun _ _ _ => ?_) ?_ _
    | apply State.addJob_steady
    | apply State.unitDone_steady
    | apply SteadyR.next
    | split
    | dsimp only
    | intro _

theorem execNodeHoldExpiry_steady {s : State} {u : State} (k : Steady s u) (a0) :
    SteadyR s (execNodeHoldExpiry a0 u) := by
  unfold execNodeHoldExpiry
  with_reducible repeat' first
    | assumption
    | apply steady_ite
    | apply steadyR_ite
    | apply State.ageEntry_steady
    | apply SteadyR.next
    | split
    | dsimp only
    | intro _

theorem execLedgerDelta_steady {s : State} {u : State} (k : Steady s u)  :
    SteadyR s (execLedgerDelta u) := by
  unfold execLedgerDelta
  with_reducible repeat' first
    | assumption
    | apply steady_ite
    | apply steadyR_ite
    | (intro x; (try dsimp only); (repeat' split) <;> (simp only [Nat.le_refl]; done))
    | (intro x; dsimp only; omega)
    | (intro x h; simp only [WbS.canonical, Bool.and_eq_true] at h ⊢; (repeat' split) <;> (simp only [h, Tab.set_wf, Tab.mod_wf, Tab.put_wf, Tab.erase_wf, Tab.remap_wf, Tab.filter_wf, Tab.wf_nil, Tab.foldl_set_wf, Tab.foldl_mod_wf, loaded_wf, mergeActivity_wf, and_self]; done))
    | refine State.modWb_steady ?_ ?_ ?_ 
    | apply State.startRec_steady
    | apply SteadyR.next
    | split
    | dsimp only
    | intro _

theorem execLedgerFullSet_steady {s : State} {u : State} (k : Steady s u)  :
    SteadyR s (execLedgerFullSet u) := by
  unfold execLedgerFullSet
  with_reducible repeat' first
    | assumption
    | apply steady_ite
    | apply steadyR_ite
    | apply State.startRec_steady
    | apply SteadyR.next
    | split
    | dsimp only
    | intro _

theorem execLedgerRecordDurable_steady {s : State} {u : State} (k : Steady s u) (a0) :
    SteadyR s (execLedgerRecordDurable a0 u) := by
  unfold execLedgerRecordDurable
  with_reducible repeat' first
    | assumption
    | apply steady_ite
    | apply steadyR_ite
    | apply State.recDurable_steady
    | apply SteadyR.next
    | split
    | dsimp only
    | intro _

theorem execInputDip_steady {s : State} {u : State} (k : Steady s u)  :
    SteadyR s (execInputDip u) := by
  unfold execInputDip
  with_reducible repeat' first
    | assumption
    | apply steady_ite
    | apply steadyR_ite
    | (intro x; (try dsimp only); (repeat' split) <;> (simp only [Nat.le_refl]; done))
    | (intro x; dsimp only; omega)
    | (intro x h; simp only [WbS.canonical, Bool.and_eq_true] at h ⊢; (repeat' split) <;> (simp only [h, Tab.set_wf, Tab.mod_wf, Tab.put_wf, Tab.erase_wf, Tab.remap_wf, Tab.filter_wf, Tab.wf_nil, Tab.foldl_set_wf, Tab.foldl_mod_wf, loaded_wf, mergeActivity_wf, and_self]; done))
    | (intro x h; simp only [PowerS.canonical, Bool.and_eq_true] at h ⊢; (repeat' split) <;> (simp only [h, Tab.set_wf, Tab.mod_wf, Tab.put_wf, Tab.erase_wf, Tab.remap_wf, Tab.filter_wf, Tab.wf_nil, Tab.foldl_set_wf, Tab.foldl_mod_wf, loaded_wf, mergeActivity_wf, and_self]; done))
    | refine State.modPwr_steady ?_ ?_ 
    | refine State.modWb_steady ?_ ?_ ?_ 
    | apply State.creditSync_steady
    | apply State.startSeal_steady
    | apply SteadyR.next
    | split
    | dsimp only
    | intro _

theorem execInputDipRecovered_steady {s : State} {u : State} (k : Steady s u)  :
    SteadyR s (execInputDipRecovered u) := by
  unfold execInputDipRecovered
  with_reducible repeat' first
    | assumption
    | apply steady_ite
    | apply steadyR_ite
    | (intro x h; simp only [PowerS.canonical, Bool.and_eq_true] at h ⊢; (repeat' split) <;> (simp only [h, Tab.set_wf, Tab.mod_wf, Tab.put_wf, Tab.erase_wf, Tab.remap_wf, Tab.filter_wf, Tab.wf_nil, Tab.foldl_set_wf, Tab.foldl_mod_wf, loaded_wf, mergeActivity_wf, and_self]; done))
    | refine State.modPwr_steady ?_ ?_ 
    | apply State.report_steady
    | apply State.dipEnd_steady
    | apply SteadyR.next
    | split
    | dsimp only
    | intro _

theorem execMigrationStart_steady {s : State} {u : State} (k : Steady s u) (a0) :
    SteadyR s (execMigrationStart a0 u) := by
  unfold execMigrationStart
  with_reducible repeat' first
    | assumption
    | apply steady_ite
    | apply steadyR_ite
    | (intro x h; simp only [TractS.canonical, Bool.and_eq_true] at h ⊢; (repeat' split) <;> (simp only [h, Tab.set_wf, Tab.mod_wf, Tab.put_wf, Tab.erase_wf, Tab.remap_wf, Tab.filter_wf, Tab.wf_nil, Tab.foldl_set_wf, Tab.foldl_mod_wf, loaded_wf, mergeActivity_wf, and_self]; done))
    | refine State.modTrc_steady ?_ ?_ 
    | apply State.modEntry_steady
    | apply State.modMig_steady
    | apply SteadyR.next
    | split
    | dsimp only
    | intro _

theorem execSourceReadsDrained_steady {s : State} {u : State} (k : Steady s u) (a0) :
    SteadyR s (execSourceReadsDrained a0 u) := by
  unfold execSourceReadsDrained
  with_reducible repeat' first
    | assumption
    | apply steady_ite
    | apply steadyR_ite
    | apply State.when_steady
    | apply State.startClear_steady
    | apply State.modMig_steady
    | apply State.putDirectory_steady
    | apply SteadyR.next
    | split
    | dsimp only
    | intro _

theorem execSourceClearComplete_steady {s : State} {u : State} (k : Steady s u) (a0) :
    SteadyR s (execSourceClearComplete a0 u) := by
  unfold execSourceClearComplete
  with_reducible repeat' first
    | assumption
    | apply steady_ite
    | apply steadyR_ite
    | apply State.checkpointA_steady
    | apply State.modEntry_steady
    | apply State.placed_steady
    | apply State.modMig_steady
    | apply State.endEpoch_steady
    | apply SteadyR.next
    | split
    | dsimp only
    | intro _

theorem State.evacuation_steady {s : State} {u : State} (k : Steady s u)  :
    Steady s (State.evacuation u) := by
  unfold State.evacuation
  with_reducible repeat' first
    | assumption
    | apply steady_ite
    | refine forEach_steady (fun _ _ _ => ?_) ?_ _
    | apply State.queueMig_steady
    | split
    | dsimp only
    | intro _

theorem execWearEpoch_steady {s : State} {u : State} (k : Steady s u)  :
    SteadyR s (execWearEpoch u) := by
  unfold execWearEpoch
  with_reducible repeat' first
    | assumption
    | apply steady_ite
    | apply steadyR_ite
    | refine forEach_steady (fun _ _ _ => ?_) ?_ _
    | apply State.levelling_steady
    | apply State.endEpoch_steady
    | apply State.evacuation_steady
    | apply SteadyR.next
    | split
    | dsimp only
    | intro _

theorem State.rewrite_steady {s : State} {u : State} (k : Steady s u) (a0) (a1) (a2) (a3) :
    Steady s (State.rewrite a0 a1 a2 a3 u) := by
  unfold State.rewrite
  with_reducible repeat' first
    | assumption
    | apply steady_ite
    | apply State.countSenses_steady
    | apply State.request_steady
    | split
    | dsimp only
    | intro _

theorem State.noteOldest_steady {s : State} {u : State} (k : Steady s u) (a0) (a1) :
    Steady s (State.noteOldest a0 a1 u) := by
  unfold State.noteOldest
  with_reducible repeat' first
    | assumption
    | apply steady_ite
    | apply State.modExtent_steady
    | split
    | dsimp only
    | intro _

theorem execRefreshVisit_steady {s : State} {u : State} (k : Steady s u) (a0) (a1) :
    SteadyR s (execRefreshVisit a0 a1 u) := by
  unfold execRefreshVisit
  with_reducible repeat' first
    | assumption
    | apply steady_ite
    | apply steadyR_ite
    | (intro x h; simp only [TractS.canonical, Bool.and_eq_true] at h ⊢; (repeat' split) <;> (simp only [h, Tab.set_wf, Tab.mod_wf, Tab.put_wf, Tab.erase_wf, Tab.remap_wf, Tab.filter_wf, Tab.wf_nil, Tab.foldl_set_wf, Tab.foldl_mod_wf, loaded_wf, mergeActivity_wf, and_self]; done))
    | (intro x h; simp only [ScrubS.canonical, Bool.and_eq_true] at h ⊢; (repeat' split) <;> (simp only [h, Tab.set_wf, Tab.mod_wf, Tab.put_wf, Tab.erase_wf, Tab.remap_wf, Tab.filter_wf, Tab.wf_nil, Tab.foldl_set_wf, Tab.foldl_mod_wf, loaded_wf, mergeActivity_wf, and_self]; done))
    | refine State.modScr_steady ?_ ?_ 
    | refine State.modTrc_steady ?_ ?_ 
    | refine forEach_steady (fun _ _ _ => ?_) ?_ _
    | apply State.when_steady
    | apply State.engineCount_steady
    | apply State.zeroReads_steady
    | apply State.sweepEnds_steady
    | apply State.refrSync_steady
    | apply State.rewrite_steady
    | apply State.noteOldest_steady
    | apply SteadyR.next
    | split
    | dsimp only
    | intro _

theorem execRekeyRequest_steady {s : State} {u : State} (k : Steady s u) (a0) (a1) :
    SteadyR s (execRekeyRequest a0 a1 u) := by
  unfold execRekeyRequest
  with_reducible repeat' first
    | assumption
    | apply steady_ite
    | apply steadyR_ite
    | apply guarded_steady
    | apply accessed_steady
    | apply respondAccess_steady
    | apply State.rekeyOp_steady
    | apply SteadyR.next
    | split
    | dsimp only
    | intro _

theorem State.rekeyUnit_steady {s : State} {u : State} (k : Steady s u) (a0) (a1) :
    Steady s (State.rekeyUnit a0 a1 u) := by
  unfold State.rekeyUnit
  with_reducible repeat' first
    | assumption
    | apply steady_ite
    | refine forEach_steady (fun _ _ _ => ?_) ?_ _
    | apply State.countSenses_steady
    | apply State.alarm_steady
    | apply State.countTagFail_steady
    | apply State.setBlock_steady
    | apply State.reportFound_steady
    | apply State.nodeEntries_steady
    | apply State.startUnit_steady
    | split
    | dsimp only
    | intro _

theorem execRekeySpan_steady {s : State} {u : State} (k : Steady s u) (a0) (a1) (a2) (a3) :
    SteadyR s (execRekeySpan a0 a1 a2 a3 u) := by
  unfold execRekeySpan
  with_reducible repeat' first
    | assumption
    | apply steady_ite
    | apply steadyR_ite
    | apply State.dirtyJoin_steady
    | apply State.spanDone_steady
    | apply State.pathChecked_steady
    | apply State.rekeyUnit_steady
    | apply SteadyR.next
    | split
    | dsimp only
    | intro _

theorem execReEstablishment_steady {s : State} {u : State} (k : Steady s u) (a0) :
    SteadyR s (execReEstablishment a0 u) := by
  unfold execReEstablishment
  with_reducible repeat' first
    | assumption
    | apply steady_ite
    | apply steadyR_ite
    | apply State.reestablish_steady
    | apply SteadyR.next
    | split
    | dsimp only
    | intro _

theorem State.debugPlain_steady {s : State} {u : State} (k : Steady s u) (a0) (a1) :
    Steady s (State.debugPlain a0 a1 u) := by
  unfold State.debugPlain
  with_reducible repeat' first
    | assumption
    | apply steady_ite
    | apply State.emit_steady
    | apply State.alarm_steady
    | apply State.countTagFail_steady
    | split
    | dsimp only
    | intro _

theorem execDebugRead_steady {s : State} {u : State} (k : Steady s u) (a0) (a1) :
    SteadyR s (execDebugRead a0 a1 u) := by
  unfold execDebugRead
  with_reducible repeat' first
    | assumption
    | apply steady_ite
    | apply steadyR_ite
    | apply State.emit_steady
    | apply State.debugPlain_steady
    | apply SteadyR.next
    | split
    | dsimp only
    | intro _

theorem execRootDecisionAdopt_steady {s : State} {u : State} (k : Steady s u) (a0) :
    SteadyR s (execRootDecisionAdopt a0 u) := by
  unfold execRootDecisionAdopt
  with_reducible repeat' first
    | assumption
    | apply steady_ite
    | apply steadyR_ite
    | apply guarded_steady
    | apply accessed_steady
    | apply respondAccess_steady
    | apply State.rootOp_steady
    | apply SteadyR.next
    | split
    | dsimp only
    | intro _

theorem State.repair_steady {s : State} {u : State} (k : Steady s u) (a0) (a1) :
    Steady s (State.repair a0 a1 u) := by
  unfold State.repair
  with_reducible repeat' first
    | assumption
    | apply steady_ite
    | apply State.request_steady
    | split
    | dsimp only
    | intro _

theorem execScrubRewrite_steady {s : State} {u : State} (k : Steady s u) (a0) :
    SteadyR s (execScrubRewrite a0 u) := by
  unfold execScrubRewrite
  with_reducible repeat' first
    | assumption
    | apply steady_ite
    | apply steadyR_ite
    | (intro x h; simp only [ScrubS.canonical, Bool.and_eq_true] at h ⊢; (repeat' split) <;> (simp only [h, Tab.set_wf, Tab.mod_wf, Tab.put_wf, Tab.erase_wf, Tab.remap_wf, Tab.filter_wf, Tab.wf_nil, Tab.foldl_set_wf, Tab.foldl_mod_wf, loaded_wf, mergeActivity_wf, and_self]; done))
    | refine State.modScr_steady ?_ ?_ 
    | apply State.countSenses_steady
    | apply State.refrSync_steady
    | apply State.repair_steady
    | apply SteadyR.next
    | split
    | dsimp only
    | intro _

theorem State.persistCursor_steady {s : State} {u : State} (k : Steady s u) (a0) :
    Steady s (State.persistCursor a0 u) := by
  unfold State.persistCursor
  with_reducible repeat' first
    | assumption
    | apply steady_ite
    | apply State.storeWrite_steady
    | apply State.modRebuild_steady
    | split
    | dsimp only
    | intro _

theorem State.rebuildDone_steady {s : State} {u : State} (k : Steady s u) (a0) :
    Steady s (State.rebuildDone a0 u) := by
  unfold State.rebuildDone
  with_reducible repeat' first
    | assumption
    | apply steady_ite
    | apply State.storeWrite_steady
    | apply State.boundSync_steady
    | apply State.modUnit_steady
    | apply State.modRebuild_steady
    | split
    | dsimp only
    | intro _

theorem State.rebuildTract_steady {s : State} {u : State} (k : Steady s u) (a0) (a1) :
    Steady s (State.rebuildTract a0 a1 u) := by
  unfold State.rebuildTract
  with_reducible repeat' first
    | assumption
    | apply steady_ite
    | refine forEach_steady (fun _ _ _ => ?_) ?_ _
    | apply State.clearDie_steady
    | apply State.modRebuild_steady
    | apply State.rebuildRow_steady
    | split
    | dsimp only
    | intro _

theorem execRebuildStep_steady {s : State} {u : State} (k : Steady s u) (a0) (a1) :
    SteadyR s (execRebuildStep a0 a1 u) := by
  unfold execRebuildStep
  with_reducible repeat' first
    | assumption
    | apply steady_ite
    | apply steadyR_ite
    | refine forEach_steady (fun _ _ _ => ?_) ?_ _
    | apply State.engineCount_steady
    | apply State.modRebuild_steady
    | apply State.persistCursor_steady
    | apply State.rebuildDone_steady
    | apply State.rebuildTract_steady
    | apply SteadyR.next
    | split
    | dsimp only
    | intro _

theorem execScrubDpaPass_steady {s : State} {u : State} (k : Steady s u) (a0) (a1) (a2) (a3) :
    SteadyR s (execScrubDpaPass a0 a1 a2 a3 u) := by
  unfold execScrubDpaPass
  with_reducible repeat' first
    | assumption
    | apply steady_ite
    | apply steadyR_ite
    | apply guarded_steady
    | apply accessed_steady
    | apply respondAccess_steady
    | apply State.scrubOp_steady
    | apply SteadyR.next
    | split
    | dsimp only
    | intro _

theorem State.rowSensed_steady {s : State} {u : State} (k : Steady s u) (a0) (a1) (a2) :
    Steady s (State.rowSensed a0 a1 a2 u) := by
  unfold State.rowSensed
  with_reducible repeat' first
    | assumption
    | apply steady_ite
    | refine forEach_steady (fun _ _ _ => ?_) ?_ _
    | apply State.sqSeen_steady
    | apply State.countSenses_steady
    | split
    | dsimp only
    | intro _

theorem State.dataLost_steady {s : State} {u : State} (k : Steady s u) (a0) (a1) (a2) :
    Steady s (State.dataLost a0 a1 a2 u) := by
  unfold State.dataLost
  with_reducible repeat' first
    | assumption
    | apply steady_ite
    | apply State.loseTracts_steady
    | apply State.poisonLine_steady
    | apply State.repair_steady
    | split
    | dsimp only
    | intro _

theorem State.lineGone_steady {s : State} {u : State} (k : Steady s u) (a0) (a1) (a2) :
    Steady s (State.lineGone a0 a1 a2 u) := by
  unfold State.lineGone
  with_reducible repeat' first
    | assumption
    | apply steady_ite
    | apply State.dataLost_steady
    | split
    | dsimp only
    | intro _

theorem State.lineLost_steady {s : State} {u : State} (k : Steady s u) (a0) (a1) (a2) (a3) :
    Steady s (State.lineLost a0 a1 a2 a3 u) := by
  unfold State.lineLost
  with_reducible repeat' first
    | assumption
    | apply steady_ite
    | apply State.report_steady
    | apply State.lineGone_steady
    | split
    | dsimp only
    | intro _

theorem State.repairRow_steady {s : State} {u : State} (k : Steady s u) (a0) (a1) (a2) (a3) :
    Steady s (State.repairRow a0 a1 a2 a3 u) := by
  unfold State.repairRow
  with_reducible repeat' first
    | assumption
    | apply steady_ite
    | (intro x h; simp only [ScrubS.canonical, Bool.and_eq_true] at h ⊢; (repeat' split) <;> (simp only [h, Tab.set_wf, Tab.mod_wf, Tab.put_wf, Tab.erase_wf, Tab.remap_wf, Tab.filter_wf, Tab.wf_nil, Tab.foldl_set_wf, Tab.foldl_mod_wf, loaded_wf, mergeActivity_wf, and_self]; done))
    | refine State.modScr_steady ?_ ?_ 
    | refine forEach_steady (fun _ _ _ => ?_) ?_ _
    | apply State.report_steady
    | apply State.request_steady
    | apply State.repair_steady
    | apply State.lineLost_steady
    | split
    | dsimp only
    | intro _

theorem State.visitRow_steady {s : State} {u : State} (k : Steady s u) (a0) (a1) :
    Steady s (State.visitRow a0 a1 u) := by
  unfold State.visitRow
  with_reducible repeat' first
    | assumption
    | apply steady_ite
    | apply State.engineCount_steady
    | apply State.modPass_steady
    | apply State.rowSensed_steady
    | apply State.repairRow_steady
    | split
    | dsimp only
    | intro _

theorem execScrubRow_steady {s : State} {u : State} (k : Steady s u) (a0) (a1) :
    SteadyR s (execScrubRow a0 a1 u) := by
  unfold execScrubRow
  with_reducible repeat' first
    | assumption
    | apply steady_ite
    | apply steadyR_ite
    | apply State.endPass_steady
    | apply State.visitRow_steady
    | apply SteadyR.next
    | split
    | dsimp only
    | intro _

theorem execPatrolRow_steady {s : State} {u : State} (k : Steady s u) (a0) (a1) (a2) :
    SteadyR s (execPatrolRow a0 a1 a2 u) := by
  unfold execPatrolRow
  with_reducible repeat' first
    | assumption
    | apply steady_ite
    | apply steadyR_ite
    | (intro x h; simp only [ScrubS.canonical, Bool.and_eq_true] at h ⊢; (repeat' split) <;> (simp only [h, Tab.set_wf, Tab.mod_wf, Tab.put_wf, Tab.erase_wf, Tab.remap_wf, Tab.filter_wf, Tab.wf_nil, Tab.foldl_set_wf, Tab.foldl_mod_wf, loaded_wf, mergeActivity_wf, and_self]; done))
    | refine State.modScr_steady ?_ ?_ 
    | apply State.engineCount_steady
    | apply State.rowSensed_steady
    | apply State.repairRow_steady
    | apply SteadyR.next
    | split
    | dsimp only
    | intro _

theorem State.halfZeroed_steady {s : State} {u : State} (k : Steady s u) (a0) :
    Steady s (State.halfZeroed a0 u) := by
  unfold State.halfZeroed
  with_reducible repeat' first
    | assumption
    | apply steady_ite
    | (intro x h; simp only [IntegS.canonical, Bool.and_eq_true] at h ⊢; (repeat' split) <;> (simp only [h, Tab.set_wf, Tab.mod_wf, Tab.put_wf, Tab.erase_wf, Tab.remap_wf, Tab.filter_wf, Tab.wf_nil, Tab.foldl_set_wf, Tab.foldl_mod_wf, loaded_wf, mergeActivity_wf, and_self]; done))
    | refine State.modItg_steady ?_ ?_ 
    | refine forEach_steady (fun _ _ _ => ?_) ?_ _
    | apply State.loseTracts_steady
    | apply State.putNode_steady
    | apply State.climbOne_steady
    | split
    | dsimp only
    | intro _

theorem State.rootMismatch_steady {s : State} {u : State} (k : Steady s u)  :
    Steady s (State.rootMismatch u) := by
  unfold State.rootMismatch
  with_reducible repeat' first
    | assumption
    | apply steady_ite
    | (intro x h; simp only [IntegS.canonical, Bool.and_eq_true] at h ⊢; (repeat' split) <;> (simp only [h, Tab.set_wf, Tab.mod_wf, Tab.put_wf, Tab.erase_wf, Tab.remap_wf, Tab.filter_wf, Tab.wf_nil, Tab.foldl_set_wf, Tab.foldl_mod_wf, loaded_wf, mergeActivity_wf, and_self]; done))
    | refine State.modItg_steady ?_ ?_ 
    | apply State.modStr_steady
    | apply State.report_steady
    | apply State.security_steady
    | split
    | dsimp only
    | intro _

theorem State.rootUnverified_steady {s : State} {u : State} (k : Steady s u)  :
    Steady s (State.rootUnverified u) := by
  unfold State.rootUnverified
  with_reducible repeat' first
    | assumption
    | apply steady_ite
    | (intro x h; simp only [IntegS.canonical, Bool.and_eq_true] at h ⊢; (repeat' split) <;> (simp only [h, Tab.set_wf, Tab.mod_wf, Tab.put_wf, Tab.erase_wf, Tab.remap_wf, Tab.filter_wf, Tab.wf_nil, Tab.foldl_set_wf, Tab.foldl_mod_wf, loaded_wf, mergeActivity_wf, and_self]; done))
    | apply State.modStr_steady
    | refine State.modItg_steady ?_ ?_ 
    | apply State.adoptRoot_steady
    | split
    | dsimp only
    | intro _

theorem execRootRebuildComplete_steady {s : State} {u : State} (k : Steady s u) (a0) (a1) (a2) :
    SteadyR s (execRootRebuildComplete a0 a1 a2 u) := by
  unfold execRootRebuildComplete
  with_reducible repeat' first
    | assumption
    | apply steady_ite
    | apply steadyR_ite
    | (intro x h; simp only [IntegS.canonical, Bool.and_eq_true] at h ⊢; (repeat' split) <;> (simp only [h, Tab.set_wf, Tab.mod_wf, Tab.put_wf, Tab.erase_wf, Tab.remap_wf, Tab.filter_wf, Tab.wf_nil, Tab.foldl_set_wf, Tab.foldl_mod_wf, loaded_wf, mergeActivity_wf, and_self]; done))
    | apply State.modStr_steady
    | refine State.modItg_steady ?_ ?_ 
    | refine forEach_steady (fun _ _ _ => ?_) ?_ _
    | apply State.halfZeroed_steady
    | apply State.rootMismatch_steady
    | apply State.rootUnverified_steady
    | apply SteadyR.next
    | split
    | dsimp only
    | intro _

end Sys2Proof.Machine
end

