-- ==== Sys2Proof/Laws/SteadyUnits.lean ====
section
/-! SUPPORT. What every operation and meaning leaves true (boot, fencing, extents, Logbook, store, Cox, images). -/

set_option Elab.async false

set_option linter.unusedTactic false
set_option linter.unreachableTactic false
set_option linter.unnecessarySeqFocus false
set_option linter.unusedSimpArgs false

namespace Sys2Proof.Machine

theorem State.restorePinned_steady {s : State} {u : State} (k : Steady s u) (a0) (a1) :
    Steady s (State.restorePinned a0 a1 u) := by
  unfold State.restorePinned
  with_reducible repeat' first
    | assumption
    | apply steady_ite
    | (intro x h; simp only [IntegS.canonical, Bool.and_eq_true] at h ⊢; (repeat' split) <;> (simp only [h, Tab.set_wf, Tab.mod_wf, Tab.put_wf, Tab.erase_wf, Tab.remap_wf, Tab.filter_wf, Tab.wf_nil, Tab.foldl_set_wf, Tab.foldl_mod_wf, loaded_wf, mergeActivity_wf, and_self]; done))
    | refine State.modItg_steady ?_ ?_ 
    | split
    | dsimp only
    | intro _

theorem State.restoreBand_steady {s : State} {u : State} (k : Steady s u) (a0) :
    Steady s (State.restoreBand a0 u) := by
  unfold State.restoreBand
  with_reducible repeat' first
    | assumption
    | apply steady_ite
    | refine forEach_steady (fun _ _ _ => ?_) ?_ _
    | apply State.restorePinned_steady
    | split
    | dsimp only
    | intro _

theorem State.mediaBack_steady {s : State} {u : State} (k : Steady s u)  :
    Steady s (State.mediaBack u) := by
  unfold State.mediaBack
  with_reducible repeat' first
    | assumption
    | apply steady_ite
    | (intro x h; simp only [PowerS.canonical, Bool.and_eq_true] at h ⊢; (repeat' split) <;> (simp only [h, Tab.set_wf, Tab.mod_wf, Tab.put_wf, Tab.erase_wf, Tab.remap_wf, Tab.filter_wf, Tab.wf_nil, Tab.foldl_set_wf, Tab.foldl_mod_wf, loaded_wf, mergeActivity_wf, and_self]; done))
    | refine State.modPwr_steady ?_ ?_ 
    | apply State.modEasy_steady
    | apply State.easyCheck_steady
    | split
    | dsimp only
    | intro _

theorem State.startTime_steady {s : State} {u : State} (k : Steady s u) (a0) :
    Steady s (State.startTime a0 u) := by
  unfold State.startTime
  with_reducible repeat' first
    | assumption
    | apply steady_ite
    | apply State.modStr_steady
    | split
    | dsimp only
    | intro _

theorem State.replayLedger_steady {s : State} {u : State} (k : Steady s u)  :
    Steady s (State.replayLedger u) := by
  unfold State.replayLedger
  with_reducible repeat' first
    | assumption
    | apply steady_ite
    | (intro x; (try dsimp only); (repeat' split) <;> (simp only [Nat.le_refl]; done))
    | (intro x; dsimp only; omega)
    | (intro x h; simp only [WbS.canonical, Bool.and_eq_true] at h ⊢; (repeat' split) <;> (simp only [h, Tab.set_wf, Tab.mod_wf, Tab.put_wf, Tab.erase_wf, Tab.remap_wf, Tab.filter_wf, Tab.wf_nil, Tab.foldl_set_wf, Tab.foldl_mod_wf, loaded_wf, mergeActivity_wf, and_self]; done))
    | refine State.modWb_steady ?_ ?_ ?_ 
    | split
    | dsimp only
    | intro _

theorem State.loadMaps_steady {s : State} {u : State} (k : Steady s u)  :
    Steady s (State.loadMaps u) := by
  unfold State.loadMaps
  with_reducible repeat' first
    | assumption
    | apply steady_ite
    | (intro x h; simp only [MediaS.canonical, Bool.and_eq_true] at h ⊢; (repeat' split) <;> (simp only [h, Tab.set_wf, Tab.mod_wf, Tab.put_wf, Tab.erase_wf, Tab.remap_wf, Tab.filter_wf, Tab.wf_nil, Tab.foldl_set_wf, Tab.foldl_mod_wf, loaded_wf, mergeActivity_wf, and_self]; done))
    | (intro x h; simp only [TractS.canonical, Bool.and_eq_true] at h ⊢; (repeat' split) <;> (simp only [h, Tab.set_wf, Tab.mod_wf, Tab.put_wf, Tab.erase_wf, Tab.remap_wf, Tab.filter_wf, Tab.wf_nil, Tab.foldl_set_wf, Tab.foldl_mod_wf, loaded_wf, mergeActivity_wf, and_self]; done))
    | refine State.modTrc_steady ?_ ?_ 
    | refine State.modMed_steady ?_ ?_ 
    | refine forEach_steady (fun _ _ _ => ?_) ?_ _
    | apply State.freeTract_steady
    | split
    | dsimp only
    | intro _

theorem State.markSuspects_steady {s : State} {u : State} (k : Steady s u)  :
    Steady s (State.markSuspects u) := by
  unfold State.markSuspects
  with_reducible repeat' first
    | assumption
    | apply steady_ite
    | refine forEach_steady (fun _ _ _ => ?_) ?_ _
    | apply State.putEntry_steady
    | split
    | dsimp only
    | intro _

theorem State.mapLoad_steady {s : State} {u : State} (k : Steady s u)  :
    Steady s (State.mapLoad u) := by
  unfold State.mapLoad
  with_reducible repeat' first
    | assumption
    | apply steady_ite
    | (intro x; (try dsimp only); (repeat' split) <;> (simp only [Nat.le_refl]; done))
    | (intro x; dsimp only; omega)
    | (intro x h; simp only [WbS.canonical, Bool.and_eq_true] at h ⊢; (repeat' split) <;> (simp only [h, Tab.set_wf, Tab.mod_wf, Tab.put_wf, Tab.erase_wf, Tab.remap_wf, Tab.filter_wf, Tab.wf_nil, Tab.foldl_set_wf, Tab.foldl_mod_wf, loaded_wf, mergeActivity_wf, and_self]; done))
    | apply State.modStr_steady
    | refine State.modWb_steady ?_ ?_ ?_ 
    | apply State.storeWrite_steady
    | apply State.startTime_steady
    | apply State.replayLedger_steady
    | apply State.loadMaps_steady
    | apply State.markSuspects_steady
    | split
    | dsimp only
    | intro _

theorem State.mapStep_steady {s : State} {u : State} (k : Steady s u)  :
    Steady s (State.mapStep u) := by
  unfold State.mapStep
  with_reducible repeat' first
    | assumption
    | apply steady_ite
    | apply State.mediaBack_steady
    | apply State.mapLoad_steady
    | split
    | dsimp only
    | intro _

theorem State.cutOptions_steady {s : State} {u : State} (k : Steady s u)  :
    Steady s (State.cutOptions u) := by
  unfold State.cutOptions
  with_reducible repeat' first
    | assumption
    | apply steady_ite
    | apply State.modFls_steady
    | apply State.ticketDone_steady
    | split
    | dsimp only
    | intro _

theorem State.modImage_steady {s : State} {u : State} (k : Steady s u) (a0) (a1) :
    Steady s (State.modImage a0 a1 u) := by
  unfold State.modImage
  with_reducible repeat' first
    | assumption
    | apply steady_ite
    | apply State.modImg_steady
    | split
    | dsimp only
    | intro _

theorem State.cutImage_steady {s : State} {u : State} (k : Steady s u) (a0) :
    Steady s (State.cutImage a0 u) := by
  unfold State.cutImage
  with_reducible repeat' first
    | assumption
    | apply steady_ite
    | apply State.modImg_steady
    | apply State.ticketDone_steady
    | apply State.modImage_steady
    | split
    | dsimp only
    | intro _

theorem State.flashReset_steady {s : State} {u : State} (k : Steady s u)  :
    Steady s (State.flashReset u) := by
  unfold State.flashReset
  with_reducible repeat' first
    | assumption
    | apply steady_ite
    | apply State.modFls_steady
    | split
    | dsimp only
    | intro _

theorem State.cutFlash_steady {s : State} {u : State} (k : Steady s u)  :
    Steady s (State.cutFlash u) := by
  unfold State.cutFlash
  with_reducible repeat' first
    | assumption
    | apply steady_ite
    | apply State.cutOptions_steady
    | apply State.cutImage_steady
    | apply State.flashReset_steady
    | split
    | dsimp only
    | intro _

theorem State.coxReset_steady {s : State} {u : State} (k : Steady s u)  :
    Steady s (State.coxReset u) := by
  unfold State.coxReset
  with_reducible repeat' first
    | assumption
    | apply steady_ite
    | (intro x h; simp only [ExtS.canonical, Bool.and_eq_true] at h ⊢; (repeat' split) <;> (simp only [h, Tab.set_wf, Tab.mod_wf, Tab.put_wf, Tab.erase_wf, Tab.remap_wf, Tab.filter_wf, Tab.wf_nil, Tab.foldl_set_wf, Tab.foldl_mod_wf, loaded_wf, mergeActivity_wf, and_self]; done))
    | (intro x h; simp only [ObjS.canonical, Bool.and_eq_true] at h ⊢; (repeat' split) <;> (simp only [h, Tab.set_wf, Tab.mod_wf, Tab.put_wf, Tab.erase_wf, Tab.remap_wf, Tab.filter_wf, Tab.wf_nil, Tab.foldl_set_wf, Tab.foldl_mod_wf, loaded_wf, mergeActivity_wf, and_self]; done))
    | (intro x h; simp only [WopS.canonical, Bool.and_eq_true] at h ⊢; (repeat' split) <;> (simp only [h, Tab.set_wf, Tab.mod_wf, Tab.put_wf, Tab.erase_wf, Tab.remap_wf, Tab.filter_wf, Tab.wf_nil, Tab.foldl_set_wf, Tab.foldl_mod_wf, loaded_wf, mergeActivity_wf, and_self]; done))
    | apply State.modCox_steady
    | refine State.modWop_steady ?_ ?_ 
    | refine State.modObj_steady ?_ ?_ 
    | refine State.modExt_steady ?_ ?_ 
    | apply State.modStr_steady
    | refine forEach_steady (fun _ _ _ => ?_) ?_ _
    | apply State.modHead_steady
    | apply State.cutFlash_steady
    | split
    | dsimp only
    | intro _

theorem State.restartInto_steady {s : State} {u : State} (k : Steady s u)  :
    Steady s (State.restartInto u) := by
  unfold State.restartInto
  with_reducible repeat' first
    | assumption
    | apply steady_ite
    | apply State.modCox_steady
    | apply State.coxReset_steady
    | split
    | dsimp only
    | intro _

theorem State.eraseAhead_steady {s : State} {u : State} (k : Steady s u)  :
    Steady s (State.eraseAhead u) := by
  unfold State.eraseAhead
  with_reducible repeat' first
    | assumption
    | apply steady_ite
    | (intro x h; simp only [LogS.canonical, Bool.and_eq_true] at h ⊢; (repeat' split) <;> (simp only [h, Tab.set_wf, Tab.mod_wf, Tab.put_wf, Tab.erase_wf, Tab.remap_wf, Tab.filter_wf, Tab.wf_nil, Tab.foldl_set_wf, Tab.foldl_mod_wf, loaded_wf, mergeActivity_wf, and_self]; done))
    | apply State.modFls_steady
    | refine State.modLog_steady ?_ ?_ 
    | split
    | dsimp only
    | intro _

theorem State.writeOutOne_steady {s : State} {u : State} (k : Steady s u)  :
    Steady s (State.writeOutOne u) := by
  unfold State.writeOutOne
  with_reducible repeat' first
    | assumption
    | apply steady_ite
    | (intro x h; simp only [LogS.canonical, Bool.and_eq_true] at h ⊢; (repeat' split) <;> (simp only [h, Tab.set_wf, Tab.mod_wf, Tab.put_wf, Tab.erase_wf, Tab.remap_wf, Tab.filter_wf, Tab.wf_nil, Tab.foldl_set_wf, Tab.foldl_mod_wf, loaded_wf, mergeActivity_wf, and_self]; done))
    | refine State.modLog_steady ?_ ?_ 
    | apply State.modFls_steady
    | apply State.eraseAhead_steady
    | split
    | dsimp only
    | intro _

theorem State.writeOut_steady {s : State} {u : State} (k : Steady s u) (a0) :
    Steady s (State.writeOut a0 u) := by
  induction a0 generalizing u  with
  | zero =>
    unfold State.writeOut
    with_reducible repeat' first
      | assumption
      | apply steady_ite
      | apply State.writeOutOne_steady
      | split
      | dsimp only
      | intro _
  | succ _ ih =>
    unfold State.writeOut
    with_reducible repeat' first
      | assumption
      | apply steady_ite
      | apply State.writeOutOne_steady
      | refine ih ?_
      | split
      | dsimp only
      | intro _

theorem State.writeOutSome_steady {s : State} {u : State} (k : Steady s u) (a0) :
    Steady s (State.writeOutSome a0 u) := by
  unfold State.writeOutSome
  with_reducible repeat' first
    | assumption
    | apply steady_ite
    | apply State.draw_steady
    | refine steady_snd_of_eq ‹State.draw _ = _› (State.draw_steady ?_)
    | apply State.writeOut_steady
    | split
    | dsimp only
    | intro _

theorem State.selectActive_steady {s : State} {u : State} (k : Steady s u) (a0) :
    Steady s (State.selectActive a0 u) := by
  unfold State.selectActive
  with_reducible repeat' first
    | assumption
    | apply steady_ite
    | apply State.modCox_steady
    | apply State.modImg_steady
    | apply State.storeWrite_steady
    | apply State.report_steady
    | apply State.modImage_steady
    | split
    | dsimp only
    | intro _

theorem State.startQuiet_steady {s : State} {u : State} (k : Steady s u) (a0) :
    Steady s (State.startQuiet a0 u) := by
  unfold State.startQuiet
  with_reducible repeat' first
    | assumption
    | apply steady_ite
    | apply State.modUnit_steady
    | split
    | dsimp only
    | intro _

theorem State.verdict_steady {s : State} {u : State} (k : Steady s u) (a0) :
    Steady s (State.verdict a0 u) := by
  unfold State.verdict
  with_reducible repeat' first
    | assumption
    | apply steady_ite
    | (intro x; (try dsimp only); (repeat' split) <;> (simp only [Nat.le_refl]; done))
    | (intro x; dsimp only; omega)
    | (intro x h; simp only [WbS.canonical, Bool.and_eq_true] at h ⊢; (repeat' split) <;> (simp only [h, Tab.set_wf, Tab.mod_wf, Tab.put_wf, Tab.erase_wf, Tab.remap_wf, Tab.filter_wf, Tab.wf_nil, Tab.foldl_set_wf, Tab.foldl_mod_wf, loaded_wf, mergeActivity_wf, and_self]; done))
    | refine State.modWb_steady ?_ ?_ ?_ 
    | apply State.report_steady
    | split
    | dsimp only
    | intro _

theorem State.rebuildSync_steady {s : State} {u : State} (k : Steady s u) (a0) :
    Steady s (State.rebuildSync a0 u) := by
  unfold State.rebuildSync
  with_reducible repeat' first
    | assumption
    | apply steady_ite
    | apply State.modRebuild_steady
    | split
    | dsimp only
    | intro _

theorem State.rebuildFence_steady {s : State} {u : State} (k : Steady s u) (a0) (a1) :
    Steady s (State.rebuildFence a0 a1 u) := by
  unfold State.rebuildFence
  with_reducible repeat' first
    | assumption
    | apply steady_ite
    | apply State.storeWrite_steady
    | apply State.modRebuild_steady
    | apply State.rebuildSync_steady
    | split
    | dsimp only
    | intro _

theorem State.stacksOff_steady {s : State} {u : State} (k : Steady s u) (a0) :
    Steady s (State.stacksOff a0 u) := by
  unfold State.stacksOff
  with_reducible repeat' first
    | assumption
    | apply steady_ite
    | refine forEach_steady (fun _ _ _ => ?_) ?_ _
    | apply State.modDomain_steady
    | split
    | dsimp only
    | intro _

theorem State.lostReads_steady {s : State} {u : State} (k : Steady s u) (a0) :
    Steady s (State.lostReads a0 u) := by
  unfold State.lostReads
  with_reducible repeat' first
    | assumption
    | apply steady_ite
    | refine forEach_steady (fun _ _ _ => ?_) ?_ _
    | apply State.waitedRead_steady
    | split
    | dsimp only
    | intro _

theorem State.fenceDie_steady {s : State} {u : State} (k : Steady s u) (a0) :
    Steady s (State.fenceDie a0 u) := by
  unfold State.fenceDie
  with_reducible repeat' first
    | assumption
    | apply steady_ite
    | apply State.migSync_steady
    | apply State.lostReads_steady
    | apply State.dropDie_steady
    | split
    | dsimp only
    | intro _

theorem State.pairLost_steady {s : State} {u : State} (k : Steady s u) (a0) :
    Steady s (State.pairLost a0 u) := by
  unfold State.pairLost
  with_reducible repeat' first
    | assumption
    | apply steady_ite
    | (intro x; (try dsimp only); (repeat' split) <;> (simp only [Nat.le_refl]; done))
    | (intro x; dsimp only; omega)
    | (intro x h; simp only [WbS.canonical, Bool.and_eq_true] at h ⊢; (repeat' split) <;> (simp only [h, Tab.set_wf, Tab.mod_wf, Tab.put_wf, Tab.erase_wf, Tab.remap_wf, Tab.filter_wf, Tab.wf_nil, Tab.foldl_set_wf, Tab.foldl_mod_wf, loaded_wf, mergeActivity_wf, and_self]; done))
    | refine State.modWb_steady ?_ ?_ ?_ 
    | refine forEach_steady (fun _ _ _ => ?_) ?_ _
    | apply State.putEntry_steady
    | apply State.bufferSync_steady
    | split
    | dsimp only
    | intro _

theorem State.fencePart_steady {s : State} {u : State} (k : Steady s u) (a0) :
    Steady s (State.fencePart a0 u) := by
  unfold State.fencePart
  with_reducible repeat' first
    | assumption
    | apply steady_ite
    | (intro x h; simp only [StagingS.canonical, Bool.and_eq_true] at h ⊢; (repeat' split) <;> (simp only [h, Tab.set_wf, Tab.mod_wf, Tab.put_wf, Tab.erase_wf, Tab.remap_wf, Tab.filter_wf, Tab.wf_nil, Tab.foldl_set_wf, Tab.foldl_mod_wf, loaded_wf, mergeActivity_wf, and_self]; done))
    | (intro x h; simp only [IntegS.canonical, Bool.and_eq_true] at h ⊢; (repeat' split) <;> (simp only [h, Tab.set_wf, Tab.mod_wf, Tab.put_wf, Tab.erase_wf, Tab.remap_wf, Tab.filter_wf, Tab.wf_nil, Tab.foldl_set_wf, Tab.foldl_mod_wf, loaded_wf, mergeActivity_wf, and_self]; done))
    | (intro x; (try dsimp only); (repeat' split) <;> (simp only [Nat.le_refl]; done))
    | (intro x; dsimp only; omega)
    | (intro x h; simp only [WbS.canonical, Bool.and_eq_true] at h ⊢; (repeat' split) <;> (simp only [h, Tab.set_wf, Tab.mod_wf, Tab.put_wf, Tab.erase_wf, Tab.remap_wf, Tab.filter_wf, Tab.wf_nil, Tab.foldl_set_wf, Tab.foldl_mod_wf, loaded_wf, mergeActivity_wf, and_self]; done))
    | refine State.modWb_steady ?_ ?_ ?_ 
    | refine State.modItg_steady ?_ ?_ 
    | refine State.modStg_steady ?_ ?_ 
    | apply State.pairLost_steady
    | split
    | dsimp only
    | intro _

theorem State.fenceEngine_steady {s : State} {u : State} (k : Steady s u) (a0) :
    Steady s (State.fenceEngine a0 u) := by
  unfold State.fenceEngine
  with_reducible repeat' first
    | assumption
    | apply steady_ite
    | refine forEach_steady (fun _ _ _ => ?_) ?_ _
    | apply State.stopPasses_steady
    | apply State.rebuildSync_steady
    | apply State.abandon_steady
    | split
    | dsimp only
    | intro _

theorem State.fenceT1s_steady {s : State} {u : State} (k : Steady s u)  :
    Steady s (State.fenceT1s u) := by
  unfold State.fenceT1s
  with_reducible repeat' first
    | assumption
    | apply steady_ite
    | (intro x h; simp only [WopS.canonical, Bool.and_eq_true] at h ⊢; (repeat' split) <;> (simp only [h, Tab.set_wf, Tab.mod_wf, Tab.put_wf, Tab.erase_wf, Tab.remap_wf, Tab.filter_wf, Tab.wf_nil, Tab.foldl_set_wf, Tab.foldl_mod_wf, loaded_wf, mergeActivity_wf, and_self]; done))
    | refine State.modWop_steady ?_ ?_ 
    | refine forEach_steady (fun _ _ _ => ?_) ?_ _
    | apply State.closeSess_steady
    | split
    | dsimp only
    | intro _

theorem State.fenceEffects_steady {s : State} {u : State} (k : Steady s u) (a0) :
    Steady s (State.fenceEffects a0 u) := by
  unfold State.fenceEffects
  with_reducible repeat' first
    | assumption
    | apply steady_ite
    | refine forEach_steady (fun _ _ _ => ?_) ?_ _
    | apply State.boundSync_steady
    | apply State.modChannel_steady
    | apply State.mapStep_steady
    | apply State.linksSync_steady
    | apply State.rebuildFence_steady
    | apply State.stacksOff_steady
    | apply State.fenceMigrations_steady
    | apply State.fenceDie_steady
    | apply State.fencePart_steady
    | apply State.fenceEngine_steady
    | apply State.fenceT1s_steady
    | split
    | dsimp only
    | intro _

theorem State.startProbe_steady {s : State} {u : State} (k : Steady s u) (a0) :
    Steady s (State.startProbe a0 u) := by
  unfold State.startProbe
  with_reducible repeat' first
    | assumption
    | apply steady_ite
    | refine forEach_steady (fun _ _ _ => ?_) ?_ _
    | apply State.modDomain_steady
    | apply State.modUnit_steady
    | apply State.modSram_steady
    | split
    | dsimp only
    | intro _

theorem State.probeWaiting_steady {s : State} {u : State} (k : Steady s u)  :
    Steady s (State.probeWaiting u) := by
  unfold State.probeWaiting
  with_reducible repeat' first
    | assumption
    | apply steady_ite
    | refine forEach_steady (fun _ _ _ => ?_) ?_ _
    | apply State.startProbe_steady
    | split
    | dsimp only
    | intro _

theorem State.cmdDone_steady {s : State} {u : State} (k : Steady s u) (a0) (a1) :
    Steady s (State.cmdDone a0 a1 u) := by
  unfold State.cmdDone
  with_reducible repeat' first
    | assumption
    | apply steady_ite
    | (intro h; exact h)
    | (intro h; (try split) <;> (simp only [List.length_append, List.length_cons, List.length_nil, List.length_tail]; first | assumption | omega))
    | (intro x h; simp only [FaultS.canonical, Bool.and_eq_true] at h ⊢; (repeat' split) <;> (simp only [h, Tab.set_wf, Tab.mod_wf, Tab.put_wf, Tab.erase_wf, Tab.remap_wf, Tab.filter_wf, Tab.wf_nil, Tab.foldl_set_wf, Tab.foldl_mod_wf, loaded_wf, mergeActivity_wf, and_self]; done))
    | refine State.modFlt_steady ?_ ?_ ?_ 
    | apply State.ticketDone_steady
    | split
    | dsimp only
    | intro _

theorem State.probeStopped_steady {s : State} {u : State} (k : Steady s u) (a0) :
    Steady s (State.probeStopped a0 u) := by
  unfold State.probeStopped
  with_reducible repeat' first
    | assumption
    | apply steady_ite
    | (intro x h; simp only [StagingS.canonical, Bool.and_eq_true] at h ⊢; (repeat' split) <;> (simp only [h, Tab.set_wf, Tab.mod_wf, Tab.put_wf, Tab.erase_wf, Tab.remap_wf, Tab.filter_wf, Tab.wf_nil, Tab.foldl_set_wf, Tab.foldl_mod_wf, loaded_wf, mergeActivity_wf, and_self]; done))
    | refine State.modStg_steady ?_ ?_ 
    | apply State.stacksOff_steady
    | split
    | dsimp only
    | intro _

theorem State.reactionFence_steady {s : State} {u : State} (k : Steady s u) (a0) :
    Steady s (State.reactionFence a0 u) := by
  unfold State.reactionFence
  with_reducible repeat' first
    | assumption
    | apply steady_ite
    | (intro h; exact h)
    | (intro h; (try split) <;> (simp only [List.length_append, List.length_cons, List.length_nil, List.length_tail]; first | assumption | omega))
    | (intro x h; simp only [FaultS.canonical, Bool.and_eq_true] at h ⊢; (repeat' split) <;> (simp only [h, Tab.set_wf, Tab.mod_wf, Tab.put_wf, Tab.erase_wf, Tab.remap_wf, Tab.filter_wf, Tab.wf_nil, Tab.foldl_set_wf, Tab.foldl_mod_wf, loaded_wf, mergeActivity_wf, and_self]; done))
    | refine State.modFlt_steady ?_ ?_ ?_ 
    | apply State.boundSync_steady
    | apply State.modUnit_steady
    | apply State.startQuiet_steady
    | apply State.verdict_steady
    | apply State.fenceEffects_steady
    | apply State.probeWaiting_steady
    | apply State.cmdDone_steady
    | apply State.probeStopped_steady
    | split
    | dsimp only
    | intro _

theorem State.react_steady {s : State} {u : State} (k : Steady s u) (a0) :
    Steady s (State.react a0 u) := by
  unfold State.react
  with_reducible repeat' first
    | assumption
    | apply steady_ite
    | apply State.modEasy_steady
    | apply State.easyEnter_steady
    | apply State.fatal_steady
    | apply State.startQuiet_steady
    | apply State.reactionFence_steady
    | split
    | dsimp only
    | intro _

theorem State.commitOp_steady {s : State} {u : State} (k : Steady s u) (a0) (a1) :
    Steady s (State.commitOp a0 a1 u).2.2 := by
  unfold State.commitOp
  with_reducible repeat' first
    | assumption
    | apply steady_ite
    | apply steady_ite_acc
    | apply State.modFls_steady
    | apply State.ticketDone_steady
    | apply State.modImage_steady
    | apply State.answer_steady
    | apply State.deferred_steady
    | split
    | dsimp only
    | intro _

theorem execUpdateCommit_steady {s : State} {u : State} (k : Steady s u) (a0) (a1) (a2) :
    SteadyR s (execUpdateCommit a0 a1 a2 u) := by
  unfold execUpdateCommit
  with_reducible repeat' first
    | assumption
    | apply steady_ite
    | apply steadyR_ite
    | apply guarded_steady
    | apply accessed_steady
    | apply respondAccess_steady
    | apply State.commitOp_steady
    | apply SteadyR.next
    | split
    | dsimp only
    | intro _

theorem State.latchReleaseOp_steady {s : State} {u : State} (k : Steady s u) (a0) (a1) :
    Steady s (State.latchReleaseOp a0 a1 u).2.2 := by
  unfold State.latchReleaseOp
  with_reducible repeat' first
    | assumption
    | apply steady_ite
    | apply steady_ite_acc
    | apply State.storeWrite_steady
    | apply State.ticketDone_steady
    | apply State.modUnit_steady
    | apply State.startQuiet_steady
    | apply State.answer_steady
    | apply State.deferred_steady
    | split
    | dsimp only
    | intro _

theorem State.journal_steady {s : State} {u : State} (k : Steady s u)  :
    Steady s (State.journal u) := by
  unfold State.journal
  with_reducible repeat' first
    | assumption
    | apply steady_ite
    | (intro x h; simp only [ExtS.canonical, Bool.and_eq_true] at h ⊢; (repeat' split) <;> (simp only [h, Tab.set_wf, Tab.mod_wf, Tab.put_wf, Tab.erase_wf, Tab.remap_wf, Tab.filter_wf, Tab.wf_nil, Tab.foldl_set_wf, Tab.foldl_mod_wf, loaded_wf, mergeActivity_wf, and_self]; done))
    | apply State.modFls_steady
    | refine State.modExt_steady ?_ ?_ 
    | split
    | dsimp only
    | intro _

theorem State.movePair_steady {s : State} {u : State} (k : Steady s u) (a0) (a1) (a2) (a3) :
    Steady s (State.movePair a0 a1 a2 a3 u) := by
  unfold State.movePair
  with_reducible repeat' first
    | assumption
    | apply steady_ite
    | apply State.headEvent_steady
    | apply State.journal_steady
    | apply State.modPair_steady
    | split
    | dsimp only
    | intro _

theorem State.releasePair_steady {s : State} {u : State} (k : Steady s u) (a0) (a1) (a2) :
    Steady s (State.releasePair a0 a1 a2 u).2 := by
  unfold State.releasePair
  with_reducible repeat' first
    | assumption
    | apply steady_ite
    | apply steady_ite_snd
    | apply State.cxlEvent_steady
    | apply State.movePair_steady
    | split
    | dsimp only
    | intro _

theorem State.releaseExtent_steady {s : State} {u : State} (k : Steady s u) (a0) (a1) (a2) :
    Steady s (State.releaseExtent a0 a1 a2 u).2 := by
  induction a2 generalizing u a0 a1 with
  | nil =>
    unfold State.releaseExtent
    with_reducible repeat' first
      | assumption
      | apply steady_ite
      | apply steady_ite_snd
      | apply State.releasePair_steady
      | refine steady_snd_of_eq ‹State.releasePair _ _ _ _ = _› (State.releasePair_steady ?_ _ _ _)
      | split
      | dsimp only
      | intro _
  | cons _ _ ih =>
    unfold State.releaseExtent
    with_reducible repeat' first
      | assumption
      | apply steady_ite
      | apply steady_ite_snd
      | apply State.releasePair_steady
      | refine steady_snd_of_eq ‹State.releasePair _ _ _ _ = _› (State.releasePair_steady ?_ _ _ _)
      | refine ih ?_ _ _
      | split
      | dsimp only
      | intro _

theorem State.optionFailed_steady {s : State} {u : State} (k : Steady s u)  :
    Steady s (State.optionFailed u) := by
  unfold State.optionFailed
  with_reducible repeat' first
    | assumption
    | apply steady_ite
    | apply State.modFls_steady
    | apply State.ticketDone_steady
    | split
    | dsimp only
    | intro _

theorem State.frontWrite_steady {s : State} {u : State} (k : Steady s u) (a0) :
    Steady s (State.frontWrite a0 u) := by
  unfold State.frontWrite
  with_reducible repeat' first
    | assumption
    | apply steady_ite
    | (intro x h; simp only [ParamS.canonical, Bool.and_eq_true] at h ⊢; (repeat' split) <;> (simp only [h, Tab.set_wf, Tab.mod_wf, Tab.put_wf, Tab.erase_wf, Tab.remap_wf, Tab.filter_wf, Tab.wf_nil, Tab.foldl_set_wf, Tab.foldl_mod_wf, loaded_wf, mergeActivity_wf, and_self]; done))
    | refine State.modPar_steady ?_ ?_ 
    | split
    | dsimp only
    | intro _

theorem State.pageFailed_steady {s : State} {u : State} (k : Steady s u) (a0) :
    Steady s (State.pageFailed a0 u) := by
  unfold State.pageFailed
  with_reducible repeat' first
    | assumption
    | apply steady_ite
    | (intro x h; simp only [ParamS.canonical, Bool.and_eq_true] at h ⊢; (repeat' split) <;> (simp only [h, Tab.set_wf, Tab.mod_wf, Tab.put_wf, Tab.erase_wf, Tab.remap_wf, Tab.filter_wf, Tab.wf_nil, Tab.foldl_set_wf, Tab.foldl_mod_wf, loaded_wf, mergeActivity_wf, and_self]; done))
    | refine State.modPar_steady ?_ ?_ 
    | apply State.when_steady
    | apply State.storeWrite_steady
    | apply State.report_steady
    | apply State.frontWrite_steady
    | split
    | dsimp only
    | intro _

theorem State.fireOp_steady {s : State} {u : State} (k : Steady s u) (a0) (a1) :
    Steady s (State.fireOp a0 a1 u).2.2 := by
  unfold State.fireOp
  with_reducible repeat' first
    | assumption
    | apply steady_ite
    | apply steady_ite_acc
    | apply State.manage_steady
    | apply State.fire_steady
    | apply State.answer_steady
    | split
    | dsimp only
    | intro _

theorem execSnapshotNow_steady {s : State} {u : State} (k : Steady s u) (a0) :
    SteadyR s (execSnapshotNow a0 u) := by
  unfold execSnapshotNow
  with_reducible repeat' first
    | assumption
    | apply steady_ite
    | apply steadyR_ite
    | apply accessed_steady
    | apply respondAccess_steady
    | apply State.fireOp_steady
    | apply SteadyR.next
    | split
    | dsimp only
    | intro _

theorem State.runUnit_steady {s : State} {u : State} (k : Steady s u) (a0) :
    Steady s (State.runUnit a0 u) := by
  unfold State.runUnit
  with_reducible repeat' first
    | assumption
    | apply steady_ite
    | (intro x h; simp only [MediaS.canonical, Bool.and_eq_true] at h ⊢; (repeat' split) <;> (simp only [h, Tab.set_wf, Tab.mod_wf, Tab.put_wf, Tab.erase_wf, Tab.remap_wf, Tab.filter_wf, Tab.wf_nil, Tab.foldl_set_wf, Tab.foldl_mod_wf, loaded_wf, mergeActivity_wf, and_self]; done))
    | refine State.modMed_steady ?_ ?_ 
    | refine forEach_steady (fun _ _ _ => ?_) ?_ _
    | apply State.modPlane_steady
    | apply State.completeOp_steady
    | apply State.endGrant_steady
    | apply State.release_steady
    | apply State.finishUnit_steady
    | split
    | dsimp only
    | intro _

theorem State.runUnits_steady {s : State} {u : State} (k : Steady s u) (a0) :
    Steady s (State.runUnits a0 u) := by
  unfold State.runUnits
  with_reducible repeat' first
    | assumption
    | apply steady_ite
    | refine forEach_steady (fun _ _ _ => ?_) ?_ _
    | apply State.runUnit_steady
    | split
    | dsimp only
    | intro _

theorem State.sanitizeExtent_steady {s : State} {u : State} (k : Steady s u) (a0) :
    Steady s (State.sanitizeExtent a0 u) := by
  unfold State.sanitizeExtent
  with_reducible repeat' first
    | assumption
    | apply steady_ite
    | apply State.zeroExtent_steady
    | apply State.runUnits_steady
    | split
    | dsimp only
    | intro _

theorem State.hostSanitize_steady {s : State} {u : State} (k : Steady s u) (a0) (a1) :
    Steady s (State.hostSanitize a0 a1 u) := by
  unfold State.hostSanitize
  with_reducible repeat' first
    | assumption
    | apply steady_ite
    | refine forEach_steady (fun _ _ _ => ?_) ?_ _
    | apply State.mbReturn_steady
    | apply State.sanitizeExtent_steady
    | split
    | dsimp only
    | intro _

theorem State.adopt_steady {s : State} {u : State} (k : Steady s u) (a0) (a1) :
    Steady s (State.adopt a0 a1 u) := by
  unfold State.adopt
  with_reducible repeat' first
    | assumption
    | apply steady_ite
    | (intro x h; simp only [TractS.canonical, Bool.and_eq_true] at h ⊢; (repeat' split) <;> (simp only [h, Tab.set_wf, Tab.mod_wf, Tab.put_wf, Tab.erase_wf, Tab.remap_wf, Tab.filter_wf, Tab.wf_nil, Tab.foldl_set_wf, Tab.foldl_mod_wf, loaded_wf, mergeActivity_wf, and_self]; done))
    | refine State.modTrc_steady ?_ ?_ 
    | apply State.when_steady
    | apply State.modActivity_steady
    | apply State.putEntry_steady
    | apply State.zeroReads_steady
    | apply State.putDirectory_steady
    | split
    | dsimp only
    | intro _

theorem State.adoptClaim_steady {s : State} {u : State} (k : Steady s u) (a0) (a1) :
    Steady s (State.adoptClaim a0 a1 u) := by
  unfold State.adoptClaim
  with_reducible repeat' first
    | assumption
    | apply steady_ite
    | apply State.when_steady
    | apply State.report_steady
    | apply State.putEntry_steady
    | apply State.adopt_steady
    | split
    | dsimp only
    | intro _

theorem State.wipe_steady {s : State} {u : State} (k : Steady s u) (a0) :
    Steady s (State.wipe a0 u) := by
  unfold State.wipe
  with_reducible repeat' first
    | assumption
    | apply steady_ite
    | refine forEach_steady (fun _ _ _ => ?_) ?_ _
    | apply State.modDie_steady
    | apply State.wear_steady
    | apply State.putGranule_steady
    | split
    | dsimp only
    | intro _

theorem State.dropClaims_steady {s : State} {u : State} (k : Steady s u) (a0) :
    Steady s (State.dropClaims a0 u) := by
  unfold State.dropClaims
  with_reducible repeat' first
    | assumption
    | apply steady_ite
    | (intro x h; simp only [TractS.canonical, Bool.and_eq_true] at h ⊢; (repeat' split) <;> (simp only [h, Tab.set_wf, Tab.mod_wf, Tab.put_wf, Tab.erase_wf, Tab.remap_wf, Tab.filter_wf, Tab.wf_nil, Tab.foldl_set_wf, Tab.foldl_mod_wf, loaded_wf, mergeActivity_wf, and_self]; done))
    | refine State.modTrc_steady ?_ ?_ 
    | refine forEach_steady (fun _ _ _ => ?_) ?_ _
    | apply State.freeTract_steady
    | apply State.wipe_steady
    | split
    | dsimp only
    | intro _

theorem State.repairTorn_steady {s : State} {u : State} (k : Steady s u) (a0) :
    Steady s (State.repairTorn a0 u) := by
  unfold State.repairTorn
  with_reducible repeat' first
    | assumption
    | apply steady_ite
    | (intro x h; simp only [TractS.canonical, Bool.and_eq_true] at h ⊢; (repeat' split) <;> (simp only [h, Tab.set_wf, Tab.mod_wf, Tab.put_wf, Tab.erase_wf, Tab.remap_wf, Tab.filter_wf, Tab.wf_nil, Tab.foldl_set_wf, Tab.foldl_mod_wf, loaded_wf, mergeActivity_wf, and_self]; done))
    | refine State.modTrc_steady ?_ ?_ 
    | refine forEach_steady (fun _ _ _ => ?_) ?_ _
    | apply State.programNow_steady
    | apply State.putEntry_steady
    | split
    | dsimp only
    | intro _

theorem State.rereadBlocks_steady {s : State} {u : State} (k : Steady s u) (a0) :
    Steady s (State.rereadBlocks a0 u) := by
  unfold State.rereadBlocks
  with_reducible repeat' first
    | assumption
    | apply steady_ite
    | refine forEach_steady (fun _ _ _ => ?_) ?_ _
    | apply State.putEntry_steady
    | apply State.setBlock_steady
    | split
    | dsimp only
    | intro _

theorem State.reparity_steady {s : State} {u : State} (k : Steady s u) (a0) (a1) (a2) :
    Steady s (State.reparity a0 a1 a2 u) := by
  unfold State.reparity
  with_reducible repeat' first
    | assumption
    | apply steady_ite
    | apply State.programNow_steady
    | split
    | dsimp only
    | intro _

theorem State.fullScan_steady {s : State} {u : State} (k : Steady s u) (a0) :
    Steady s (State.fullScan a0 u) := by
  unfold State.fullScan
  with_reducible repeat' first
    | assumption
    | apply steady_ite
    | (intro x h; simp only [TractS.canonical, Bool.and_eq_true] at h ⊢; (repeat' split) <;> (simp only [h, Tab.set_wf, Tab.mod_wf, Tab.put_wf, Tab.erase_wf, Tab.remap_wf, Tab.filter_wf, Tab.wf_nil, Tab.foldl_set_wf, Tab.foldl_mod_wf, loaded_wf, mergeActivity_wf, and_self]; done))
    | refine State.modTrc_steady ?_ ?_ 
    | refine forEach_steady (fun _ _ _ => ?_) ?_ _
    | apply State.wearWriteback_steady
    | apply State.adoptClaim_steady
    | apply State.dropClaims_steady
    | apply State.repairTorn_steady
    | apply State.rereadBlocks_steady
    | apply State.reparity_steady
    | split
    | dsimp only
    | intro _

theorem State.releaseAll_steady {s : State} {u : State} (k : Steady s u) (a0) (a1) (a2) :
    Steady s (State.releaseAll a0 a1 a2 u).2 := by
  induction a2 generalizing u a0 a1 with
  | nil =>
    unfold State.releaseAll
    with_reducible repeat' first
      | assumption
      | apply steady_ite
      | apply steady_ite_snd
      | apply State.releaseExtent_steady
      | refine steady_snd_of_eq ‹State.releaseExtent _ _ _ _ = _› (State.releaseExtent_steady ?_ _ _ _)
      | split
      | dsimp only
      | intro _
  | cons _ _ ih =>
    unfold State.releaseAll
    with_reducible repeat' first
      | assumption
      | apply steady_ite
      | apply steady_ite_snd
      | apply State.releaseExtent_steady
      | refine steady_snd_of_eq ‹State.releaseExtent _ _ _ _ = _› (State.releaseExtent_steady ?_ _ _ _)
      | refine ih ?_ _ _
      | split
      | dsimp only
      | intro _

theorem State.releaseOp_steady {s : State} {u : State} (k : Steady s u) (a0) (a1) (a2) (a3) (a4) :
    Steady s (State.releaseOp a0 a1 a2 a3 a4 u).2.2 := by
  unfold State.releaseOp
  with_reducible repeat' first
    | assumption
    | apply steady_ite
    | apply steady_ite_acc
    | apply State.ticketDone_steady
    | apply State.answer_steady
    | apply State.deferred_steady
    | apply State.releaseAll_steady
    | refine steady_snd_of_eq ‹State.releaseAll _ _ _ _ = _› (State.releaseAll_steady ?_ _ _ _)
    | split
    | dsimp only
    | intro _

theorem execExtentReleaseForced_steady {s : State} {u : State} (k : Steady s u) (a0) (a1) (a2) (a3) :
    SteadyR s (execExtentReleaseForced a0 a1 a2 a3 u) := by
  unfold execExtentReleaseForced
  with_reducible repeat' first
    | assumption
    | apply steady_ite
    | apply steadyR_ite
    | apply guarded_steady
    | apply accessed_steady
    | apply respondAccess_steady
    | apply State.releaseOp_steady
    | apply SteadyR.next
    | split
    | dsimp only
    | intro _

theorem State.capacityList_steady {s : State} {u : State} (k : Steady s u) (a0) :
    Steady s (State.capacityList a0 u) := by
  unfold State.capacityList
  with_reducible repeat' first
    | assumption
    | apply steady_ite
    | apply State.mbReturn_steady
    | split
    | dsimp only
    | intro _

theorem State.coreCheckFailed_steady {s : State} {u : State} (k : Steady s u) (a0) (a1) :
    Steady s (State.coreCheckFailed a0 a1 u) := by
  unfold State.coreCheckFailed
  with_reducible repeat' first
    | assumption
    | apply steady_ite
    | (intro x h; simp only [ScrubS.canonical, Bool.and_eq_true] at h ⊢; (repeat' split) <;> (simp only [h, Tab.set_wf, Tab.mod_wf, Tab.put_wf, Tab.erase_wf, Tab.remap_wf, Tab.filter_wf, Tab.wf_nil, Tab.foldl_set_wf, Tab.foldl_mod_wf, loaded_wf, mergeActivity_wf, and_self]; done))
    | refine State.modScr_steady ?_ ?_ 
    | apply State.report_steady
    | split
    | dsimp only
    | intro _

theorem State.capacityRelease_steady {s : State} {u : State} (k : Steady s u) (a0) (a1) :
    Steady s (State.capacityRelease a0 a1 u) := by
  unfold State.capacityRelease
  with_reducible repeat' first
    | assumption
    | apply steady_ite
    | apply State.movePair_steady
    | apply State.mbReturn_steady
    | split
    | dsimp only
    | intro _

theorem State.offerTo_steady {s : State} {u : State} (k : Steady s u) (a0) (a1) :
    Steady s (State.offerTo a0 a1 u) := by
  unfold State.offerTo
  with_reducible repeat' first
    | assumption
    | apply steady_ite
    | refine forEach_steady (fun _ _ _ => ?_) ?_ _
    | apply State.cxlEvent_steady
    | apply State.movePair_steady
    | split
    | dsimp only
    | intro _

theorem State.offerNow_steady {s : State} {u : State} (k : Steady s u) (a0) (a1) (a2) (a3) (a4) :
    Steady s (State.offerNow a0 a1 a2 a3 a4 u) := by
  unfold State.offerNow
  with_reducible repeat' first
    | assumption
    | apply steady_ite
    | (intro x h; simp only [ExtS.canonical, Bool.and_eq_true] at h ⊢; (repeat' split) <;> (simp only [h, Tab.set_wf, Tab.mod_wf, Tab.put_wf, Tab.erase_wf, Tab.remap_wf, Tab.filter_wf, Tab.wf_nil, Tab.foldl_set_wf, Tab.foldl_mod_wf, loaded_wf, mergeActivity_wf, and_self]; done))
    | refine State.modExt_steady ?_ ?_ 
    | refine forEach_steady (fun _ _ _ => ?_) ?_ _
    | apply State.ticketDone_steady
    | apply State.offerTo_steady
    | apply State.modExtent_steady
    | split
    | dsimp only
    | intro _

theorem State.probeFailed_steady {s : State} {u : State} (k : Steady s u) (a0) :
    Steady s (State.probeFailed a0 u) := by
  unfold State.probeFailed
  with_reducible repeat' first
    | assumption
    | apply steady_ite
    | apply State.boundSync_steady
    | apply State.report_steady
    | apply State.modUnit_steady
    | apply State.startQuiet_steady
    | apply State.cmdDone_steady
    | apply State.probeStopped_steady
    | split
    | dsimp only
    | intro _

theorem State.driveHalt_steady {s : State} {u : State} (k : Steady s u) (a0) :
    Steady s (State.driveHalt a0 u) := by
  unfold State.driveHalt
  with_reducible repeat' first
    | assumption
    | apply steady_ite
    | (intro x h; simp only [PowerS.canonical, Bool.and_eq_true] at h ⊢; (repeat' split) <;> (simp only [h, Tab.set_wf, Tab.mod_wf, Tab.put_wf, Tab.erase_wf, Tab.remap_wf, Tab.filter_wf, Tab.wf_nil, Tab.foldl_set_wf, Tab.foldl_mod_wf, loaded_wf, mergeActivity_wf, and_self]; done))
    | refine State.modPwr_steady ?_ ?_ 
    | split
    | dsimp only
    | intro _

theorem State.flashSuspendNow_steady {s : State} {u : State} (k : Steady s u)  :
    Steady s (State.flashSuspendNow u) := by
  unfold State.flashSuspendNow
  with_reducible repeat' first
    | assumption
    | apply steady_ite
    | apply State.modFls_steady
    | split
    | dsimp only
    | intro _

theorem State.flashStart_steady {s : State} {u : State} (k : Steady s u) (a0) :
    Steady s (State.flashStart a0 u) := by
  unfold State.flashStart
  with_reducible repeat' first
    | assumption
    | apply steady_ite
    | apply State.modFls_steady
    | split
    | dsimp only
    | intro _

theorem State.flashKick_steady {s : State} {u : State} (k : Steady s u)  :
    Steady s (State.flashKick u) := by
  unfold State.flashKick
  with_reducible repeat' first
    | assumption
    | apply steady_ite
    | apply State.modFls_steady
    | apply State.flashSuspendNow_steady
    | apply State.flashStart_steady
    | split
    | dsimp only
    | intro _

theorem State.flashAsk_steady {s : State} {u : State} (k : Steady s u) (a0) :
    Steady s (State.flashAsk a0 u) := by
  unfold State.flashAsk
  with_reducible repeat' first
    | assumption
    | apply steady_ite
    | apply State.modFls_steady
    | apply State.flashKick_steady
    | split
    | dsimp only
    | intro _

theorem State.wearWordLost_steady {s : State} {u : State} (k : Steady s u)  :
    Steady s (State.wearWordLost u) := by
  unfold State.wearWordLost
  with_reducible repeat' first
    | assumption
    | apply steady_ite
    | refine forEach_steady (fun _ _ _ => ?_) ?_ _
    | apply State.modActivity_steady
    | apply State.queueMig_steady
    | apply State.draw_steady
    | refine steady_snd_of_eq ‹State.draw _ = _› (State.draw_steady ?_)
    | apply State.raisePeak_steady
    | split
    | dsimp only
    | intro _

theorem State.readWindow_steady {s : State} {u : State} (k : Steady s u) (a0) :
    Steady s (State.readWindow a0 u).2 := by
  unfold State.readWindow
  with_reducible repeat' first
    | assumption
    | apply steady_ite
    | apply steady_ite_snd
    | apply State.setCursor_steady
    | split
    | dsimp only
    | intro _

theorem execWindowRead_steady {s : State} {u : State} (k : Steady s u) (a0) :
    SteadyR s (execWindowRead a0 u) := by
  unfold execWindowRead
  with_reducible repeat' first
    | assumption
    | apply steady_ite
    | apply steadyR_ite
    | apply State.emit_steady
    | apply accessed_steady
    | apply State.readWindow_steady
    | refine steady_snd_of_eq ‹State.readWindow _ _ = _› (State.readWindow_steady ?_ _)
    | apply SteadyR.next
    | split
    | dsimp only
    | intro _

theorem State.imageErased_steady {s : State} {u : State} (k : Steady s u) (a0) :
    Steady s (State.imageErased a0 u) := by
  unfold State.imageErased
  with_reducible repeat' first
    | assumption
    | apply steady_ite
    | apply State.modImg_steady
    | apply State.ticketDone_steady
    | apply State.modImage_steady
    | apply State.flashAsk_steady
    | split
    | dsimp only
    | intro _

theorem State.areaFErased_steady {s : State} {u : State} (k : Steady s u)  :
    Steady s (State.areaFErased u) := by
  unfold State.areaFErased
  with_reducible repeat' first
    | assumption
    | apply steady_ite
    | (intro x h; simp only [LogS.canonical, Bool.and_eq_true] at h ⊢; (repeat' split) <;> (simp only [h, Tab.set_wf, Tab.mod_wf, Tab.put_wf, Tab.erase_wf, Tab.remap_wf, Tab.filter_wf, Tab.wf_nil, Tab.foldl_set_wf, Tab.foldl_mod_wf, loaded_wf, mergeActivity_wf, and_self]; done))
    | refine State.modLog_steady ?_ ?_ 
    | apply State.record_steady
    | apply State.ticketDone_steady
    | apply State.flashAsk_steady
    | split
    | dsimp only
    | intro _

theorem State.sectorErased_steady {s : State} {u : State} (k : Steady s u) (a0) :
    Steady s (State.sectorErased a0 u) := by
  unfold State.sectorErased
  with_reducible repeat' first
    | assumption
    | apply steady_ite
    | apply State.flashAsk_steady
    | apply State.imageErased_steady
    | apply State.areaFErased_steady
    | split
    | dsimp only
    | intro _

theorem execFlashEraseDone_steady {s : State} {u : State} (k : Steady s u) (a0) :
    SteadyR s (execFlashEraseDone a0 u) := by
  unfold execFlashEraseDone
  with_reducible repeat' first
    | assumption
    | apply steady_ite
    | apply steadyR_ite
    | apply State.modFls_steady
    | apply State.flashKick_steady
    | apply State.sectorErased_steady
    | apply SteadyR.next
    | split
    | dsimp only
    | intro _

theorem State.endTrial_steady {s : State} {u : State} (k : Steady s u) (a0) :
    Steady s (State.endTrial a0 u) := by
  unfold State.endTrial
  with_reducible repeat' first
    | assumption
    | apply steady_ite
    | apply State.modImg_steady
    | apply State.storeWrite_steady
    | apply State.manage_steady
    | apply State.modImage_steady
    | split
    | dsimp only
    | intro _

theorem State.selectImage_steady {s : State} {u : State} (k : Steady s u) (a0) :
    Steady s (State.selectImage a0 u) := by
  unfold State.selectImage
  with_reducible repeat' first
    | assumption
    | apply steady_ite
    | apply State.modImg_steady
    | apply State.modCox_steady
    | apply State.storeWrite_steady
    | apply State.selectActive_steady
    | apply State.endTrial_steady
    | split
    | dsimp only
    | intro _

theorem State.offerOp_steady {s : State} {u : State} (k : Steady s u) (a0) (a1) (a2) (a3) (a4) :
    Steady s (State.offerOp a0 a1 a2 a3 a4 u).2.2 := by
  unfold State.offerOp
  with_reducible repeat' first
    | assumption
    | apply steady_ite
    | apply steady_ite_acc
    | apply State.ticketDone_steady
    | apply State.answer_steady
    | apply State.deferred_steady
    | apply State.offerNow_steady
    | split
    | dsimp only
    | intro _

theorem State.setRegion_steady {s : State} {u : State} (k : Steady s u) (a0) (a1) :
    Steady s (State.setRegion a0 a1 u).2 := by
  unfold State.setRegion
  with_reducible repeat' first
    | assumption
    | apply steady_ite
    | apply steady_ite_snd
    | apply State.modRegion_steady
    | split
    | dsimp only
    | intro _

theorem State.regionOp_steady {s : State} {u : State} (k : Steady s u) (a0) (a1) (a2) :
    Steady s (State.regionOp a0 a1 a2 u).2.2 := by
  unfold State.regionOp
  with_reducible repeat' first
    | assumption
    | apply steady_ite
    | apply steady_ite_acc
    | apply State.answer_steady
    | apply State.putRecord_steady
    | apply State.setRegion_steady
    | refine steady_snd_of_eq ‹State.setRegion _ _ _ = _› (State.setRegion_steady ?_ _ _)
    | split
    | dsimp only
    | intro _

theorem State.hold_steady {s : State} {u : State} (k : Steady s u) (a0) :
    Steady s (State.hold a0 u) := by
  unfold State.hold
  with_reducible repeat' first
    | assumption
    | apply steady_ite
    | apply State.modUnit_steady
    | split
    | dsimp only
    | intro _

theorem State.operatorFenceNow_steady {s : State} {u : State} (k : Steady s u) (a0) (a1) :
    Steady s (State.operatorFenceNow a0 a1 u).2 := by
  unfold State.operatorFenceNow
  with_reducible repeat' first
    | assumption
    | apply steady_ite
    | apply steady_ite_snd
    | apply State.fenceEffects_steady
    | apply State.probeWaiting_steady
    | apply State.cmdDone_steady
    | apply State.probeStopped_steady
    | apply State.hold_steady
    | split
    | dsimp only
    | intro _

theorem State.fenceOp_steady {s : State} {u : State} (k : Steady s u) (a0) (a1) :
    Steady s (State.fenceOp a0 a1 u).2.2 := by
  unfold State.fenceOp
  with_reducible repeat' first
    | assumption
    | apply steady_ite
    | apply steady_ite_acc
    | apply State.ticketDone_steady
    | apply State.answer_steady
    | apply State.deferred_steady
    | apply State.operatorFenceNow_steady
    | refine steady_snd_of_eq ‹State.operatorFenceNow _ _ _ = _› (State.operatorFenceNow_steady ?_ _ _)
    | split
    | dsimp only
    | intro _

theorem State.askProbe_steady {s : State} {u : State} (k : Steady s u) (a0) :
    Steady s (State.askProbe a0 u) := by
  unfold State.askProbe
  with_reducible repeat' first
    | assumption
    | apply steady_ite
    | apply State.storeWrite_steady
    | apply State.report_steady
    | apply State.modUnit_steady
    | apply State.startProbe_steady
    | apply State.cmdDone_steady
    | split
    | dsimp only
    | intro _

theorem State.readmitOp_steady {s : State} {u : State} (k : Steady s u) (a0) (a1) :
    Steady s (State.readmitOp a0 a1 u).2.2 := by
  unfold State.readmitOp
  with_reducible repeat' first
    | assumption
    | apply steady_ite
    | apply steady_ite_acc
    | (intro h; exact h)
    | (intro h; (try split) <;> (simp only [List.length_append, List.length_cons, List.length_nil, List.length_tail]; first | assumption | omega))
    | (intro x h; simp only [FaultS.canonical, Bool.and_eq_true] at h ⊢; (repeat' split) <;> (simp only [h, Tab.set_wf, Tab.mod_wf, Tab.put_wf, Tab.erase_wf, Tab.remap_wf, Tab.filter_wf, Tab.wf_nil, Tab.foldl_set_wf, Tab.foldl_mod_wf, loaded_wf, mergeActivity_wf, and_self]; done))
    | refine State.modFlt_steady ?_ ?_ ?_ 
    | apply State.ticketDone_steady
    | apply State.cmdDone_steady
    | apply State.answer_steady
    | apply State.deferred_steady
    | apply State.askProbe_steady
    | split
    | dsimp only
    | intro _

theorem State.clearSticky_steady {s : State} {u : State} (k : Steady s u) (a0) (a1) :
    Steady s (State.clearSticky a0 a1 u) := by
  unfold State.clearSticky
  with_reducible repeat' first
    | assumption
    | apply steady_ite
    | (intro h; exact h)
    | (intro h; (try split) <;> (simp only [List.length_append, List.length_cons, List.length_nil, List.length_tail]; first | assumption | omega))
    | (intro x h; simp only [FaultS.canonical, Bool.and_eq_true] at h ⊢; (repeat' split) <;> (simp only [h, Tab.set_wf, Tab.mod_wf, Tab.put_wf, Tab.erase_wf, Tab.remap_wf, Tab.filter_wf, Tab.wf_nil, Tab.foldl_set_wf, Tab.foldl_mod_wf, loaded_wf, mergeActivity_wf, and_self]; done))
    | refine State.modFlt_steady ?_ ?_ ?_ 
    | split
    | dsimp only
    | intro _

theorem State.stickyOp_steady {s : State} {u : State} (k : Steady s u) (a0) (a1) (a2) :
    Steady s (State.stickyOp a0 a1 a2 u).2.2 := by
  unfold State.stickyOp
  with_reducible repeat' first
    | assumption
    | apply steady_ite
    | apply steady_ite_acc
    | (intro x h; simp only [ObjS.canonical, Bool.and_eq_true] at h ⊢; (repeat' split) <;> (simp only [h, Tab.set_wf, Tab.mod_wf, Tab.put_wf, Tab.erase_wf, Tab.remap_wf, Tab.filter_wf, Tab.wf_nil, Tab.foldl_set_wf, Tab.foldl_mod_wf, loaded_wf, mergeActivity_wf, and_self]; done))
    | refine State.modObj_steady ?_ ?_ 
    | apply State.manage_steady
    | apply State.answer_steady
    | apply State.deferred_steady
    | apply State.storeConfig_steady
    | apply State.clearSticky_steady
    | split
    | dsimp only
    | intro _

theorem State.clearFOp_steady {s : State} {u : State} (k : Steady s u) (a0) :
    Steady s (State.clearFOp a0 u).2.2 := by
  unfold State.clearFOp
  with_reducible repeat' first
    | assumption
    | apply steady_ite
    | apply steady_ite_acc
    | (intro x h; simp only [LogS.canonical, Bool.and_eq_true] at h ⊢; (repeat' split) <;> (simp only [h, Tab.set_wf, Tab.mod_wf, Tab.put_wf, Tab.erase_wf, Tab.remap_wf, Tab.filter_wf, Tab.wf_nil, Tab.foldl_set_wf, Tab.foldl_mod_wf, loaded_wf, mergeActivity_wf, and_self]; done))
    | refine State.modLog_steady ?_ ?_ 
    | apply State.answer_steady
    | apply State.deferred_steady
    | apply State.flashAsk_steady
    | split
    | dsimp only
    | intro _

theorem State.setSnap_steady {s : State} {u : State} (k : Steady s u) (a0) (a1) :
    Steady s (State.setSnap a0 a1 u) := by
  unfold State.setSnap
  with_reducible repeat' first
    | assumption
    | apply steady_ite
    | (intro x h; simp only [LogS.canonical, Bool.and_eq_true] at h ⊢; (repeat' split) <;> (simp only [h, Tab.set_wf, Tab.mod_wf, Tab.put_wf, Tab.erase_wf, Tab.remap_wf, Tab.filter_wf, Tab.wf_nil, Tab.foldl_set_wf, Tab.foldl_mod_wf, loaded_wf, mergeActivity_wf, and_self]; done))
    | refine State.modLog_steady ?_ ?_ 
    | split
    | dsimp only
    | intro _

theorem State.snapOp_steady {s : State} {u : State} (k : Steady s u) (a0) (a1) (a2) (a3) (a4) :
    Steady s (State.snapOp a0 a1 a2 a3 a4 u).2.2 := by
  unfold State.snapOp
  with_reducible repeat' first
    | assumption
    | apply steady_ite
    | apply steady_ite_acc
    | apply State.answer_steady
    | apply State.putRecord_steady
    | apply State.setSnap_steady
    | split
    | dsimp only
    | intro _

theorem State.updateOp_steady {s : State} {u : State} (k : Steady s u) (a0) (a1) :
    Steady s (State.updateOp a0 a1 u).2.2 := by
  unfold State.updateOp
  with_reducible repeat' first
    | assumption
    | apply steady_ite
    | apply steady_ite_acc
    | apply State.modImg_steady
    | apply State.modImage_steady
    | apply State.answer_steady
    | apply State.deferred_steady
    | apply State.flashAsk_steady
    | split
    | dsimp only
    | intro _

theorem State.activateOp_steady {s : State} {u : State} (k : Steady s u) (a0) :
    Steady s (State.activateOp a0 u).2.2 := by
  unfold State.activateOp
  with_reducible repeat' first
    | assumption
    | apply steady_ite
    | apply steady_ite_acc
    | apply State.modImg_steady
    | apply State.storeWrite_steady
    | apply State.modImage_steady
    | apply State.answer_steady
    | apply State.deferred_steady
    | split
    | dsimp only
    | intro _

theorem State.programImage_steady {s : State} {u : State} (k : Steady s u) (a0) (a1) (a2) :
    Steady s (State.programImage a0 a1 a2 u) := by
  unfold State.programImage
  with_reducible repeat' first
    | assumption
    | apply steady_ite
    | apply State.modFls_steady
    | refine forEach_steady (fun _ _ _ => ?_) ?_ _
    | apply State.modImage_steady
    | split
    | dsimp only
    | intro _

theorem State.imageWrite_steady {s : State} {u : State} (k : Steady s u) (a0) (a1) :
    Steady s (State.imageWrite a0 a1 u).2 := by
  unfold State.imageWrite
  with_reducible repeat' first
    | assumption
    | apply steady_ite
    | apply steady_ite_snd
    | apply State.programImage_steady
    | split
    | dsimp only
    | intro _

theorem State.segmentOp_steady {s : State} {u : State} (k : Steady s u) (a0) (a1) :
    Steady s (State.segmentOp a0 a1 u).2.2 := by
  unfold State.segmentOp
  with_reducible repeat' first
    | assumption
    | apply steady_ite
    | apply steady_ite_acc
    | apply State.answer_steady
    | apply State.imageWrite_steady
    | refine steady_snd_of_eq ‹State.imageWrite _ _ _ = _› (State.imageWrite_steady ?_ _ _)
    | split
    | dsimp only
    | intro _

theorem State.optionsOp_steady {s : State} {u : State} (k : Steady s u) (a0) (a1) :
    Steady s (State.optionsOp a0 a1 u).2.2 := by
  unfold State.optionsOp
  with_reducible repeat' first
    | assumption
    | apply steady_ite
    | apply steady_ite_acc
    | apply State.modFls_steady
    | apply State.answer_steady
    | apply State.deferred_steady
    | apply State.flashAsk_steady
    | split
    | dsimp only
    | intro _

theorem State.protectOp_steady {s : State} {u : State} (k : Steady s u) (a0) (a1) :
    Steady s (State.protectOp a0 a1 u).2.2 := by
  unfold State.protectOp
  with_reducible repeat' first
    | assumption
    | apply steady_ite
    | apply steady_ite_acc
    | (intro x h; simp only [ParamS.canonical, Bool.and_eq_true] at h ⊢; (repeat' split) <;> (simp only [h, Tab.set_wf, Tab.mod_wf, Tab.put_wf, Tab.erase_wf, Tab.remap_wf, Tab.filter_wf, Tab.wf_nil, Tab.foldl_set_wf, Tab.foldl_mod_wf, loaded_wf, mergeActivity_wf, and_self]; done))
    | refine State.modPar_steady ?_ ?_ 
    | apply State.manage_steady
    | apply State.answer_steady
    | apply State.notifyObject_steady
    | split
    | dsimp only
    | intro _

theorem execProbeTimeout_steady {s : State} {u : State} (k : Steady s u) (a0) :
    SteadyR s (execProbeTimeout a0 u) := by
  unfold execProbeTimeout
  with_reducible repeat' first
    | assumption
    | apply steady_ite
    | apply steadyR_ite
    | apply State.probeWaiting_steady
    | apply State.probeFailed_steady
    | apply SteadyR.next
    | split
    | dsimp only
    | intro _

theorem execOptionsWrite_steady {s : State} {u : State} (k : Steady s u) (a0) (a1) (a2) (a3) (a4) (a5) :
    SteadyR s (execOptionsWrite a0 a1 a2 a3 a4 a5 u) := by
  unfold execOptionsWrite
  with_reducible repeat' first
    | assumption
    | apply steady_ite
    | apply steadyR_ite
    | apply guarded_steady
    | apply accessed_steady
    | apply respondAccess_steady
    | apply State.optionsOp_steady
    | apply SteadyR.next
    | split
    | dsimp only
    | intro _

theorem execLatchRelease_steady {s : State} {u : State} (k : Steady s u) (a0) (a1) :
    SteadyR s (execLatchRelease a0 a1 u) := by
  unfold execLatchRelease
  with_reducible repeat' first
    | assumption
    | apply steady_ite
    | apply steadyR_ite
    | apply guarded_steady
    | apply accessed_steady
    | apply respondAccess_steady
    | apply State.latchReleaseOp_steady
    | apply SteadyR.next
    | split
    | dsimp only
    | intro _

theorem State.mirrorLost_steady {s : State} {u : State} (k : Steady s u) (a0) (a1) :
    Steady s (State.mirrorLost a0 a1 u) := by
  unfold State.mirrorLost
  with_reducible repeat' first
    | assumption
    | apply steady_ite
    | (intro x; (try dsimp only); (repeat' split) <;> (simp only [Nat.le_refl]; done))
    | (intro x; dsimp only; omega)
    | (intro x h; simp only [WbS.canonical, Bool.and_eq_true] at h ⊢; (repeat' split) <;> (simp only [h, Tab.set_wf, Tab.mod_wf, Tab.put_wf, Tab.erase_wf, Tab.remap_wf, Tab.filter_wf, Tab.wf_nil, Tab.foldl_set_wf, Tab.foldl_mod_wf, loaded_wf, mergeActivity_wf, and_self]; done))
    | refine State.modWb_steady ?_ ?_ ?_ 
    | apply State.report_steady
    | apply State.loseTracts_steady
    | split
    | dsimp only
    | intro _

theorem State.orphanStart_steady {s : State} {u : State} (k : Steady s u)  :
    Steady s (State.orphanStart u) := by
  unfold State.orphanStart
  with_reducible repeat' first
    | assumption
    | apply steady_ite
    | apply State.modCox_steady
    | split
    | dsimp only
    | intro _

theorem State.watchdogReset_steady {s : State} {u : State} (k : Steady s u)  :
    Steady s (State.watchdogReset u) := by
  unfold State.watchdogReset
  with_reducible repeat' first
    | assumption
    | apply steady_ite
    | apply State.modCox_steady
    | apply State.storeWrite_steady
    | apply State.report_steady
    | apply State.coxReset_steady
    | apply State.orphanStart_steady
    | split
    | dsimp only
    | intro _

theorem execWatchdogExpiry_steady {s : State} {u : State} (k : Steady s u)  :
    SteadyR s (execWatchdogExpiry u) := by
  unfold execWatchdogExpiry
  with_reducible repeat' first
    | assumption
    | apply steady_ite
    | apply steadyR_ite
    | apply State.watchdogReset_steady
    | apply SteadyR.next
    | split
    | dsimp only
    | intro _

theorem execExtentRelease_steady {s : State} {u : State} (k : Steady s u) (a0) (a1) (a2) (a3) :
    SteadyR s (execExtentRelease a0 a1 a2 a3 u) := by
  unfold execExtentRelease
  with_reducible repeat' first
    | assumption
    | apply steady_ite
    | apply steadyR_ite
    | apply guarded_steady
    | apply accessed_steady
    | apply respondAccess_steady
    | apply State.releaseOp_steady
    | apply SteadyR.next
    | split
    | dsimp only
    | intro _

theorem execSanitize_steady {s : State} {u : State} (k : Steady s u) (a0) :
    SteadyR s (execSanitize a0 u) := by
  unfold execSanitize
  with_reducible repeat' first
    | assumption
    | apply steady_ite
    | apply steadyR_ite
    | apply mailboxed_steady
    | apply State.hostSanitize_steady
    | apply SteadyR.next
    | split
    | dsimp only
    | intro _

theorem State.reparityWord_steady {s : State} {u : State} (k : Steady s u) (a0) :
    Steady s (State.reparityWord a0 u) := by
  unfold State.reparityWord
  with_reducible repeat' first
    | assumption
    | apply steady_ite
    | (intro x h; simp only [StagingS.canonical, Bool.and_eq_true] at h ⊢; (repeat' split) <;> (simp only [h, Tab.set_wf, Tab.mod_wf, Tab.put_wf, Tab.erase_wf, Tab.remap_wf, Tab.filter_wf, Tab.wf_nil, Tab.foldl_set_wf, Tab.foldl_mod_wf, loaded_wf, mergeActivity_wf, and_self]; done))
    | refine State.modStg_steady ?_ ?_ 
    | split
    | dsimp only
    | intro _

theorem State.reparityPart_steady {s : State} {u : State} (k : Steady s u) (a0) :
    Steady s (State.reparityPart a0 u) := by
  unfold State.reparityPart
  with_reducible repeat' first
    | assumption
    | apply steady_ite
    | (intro x h; simp only [StagingS.canonical, Bool.and_eq_true] at h ⊢; (repeat' split) <;> (simp only [h, Tab.set_wf, Tab.mod_wf, Tab.put_wf, Tab.erase_wf, Tab.remap_wf, Tab.filter_wf, Tab.wf_nil, Tab.foldl_set_wf, Tab.foldl_mod_wf, loaded_wf, mergeActivity_wf, and_self]; done))
    | refine State.modStg_steady ?_ ?_ 
    | refine forEach_steady (fun _ _ _ => ?_) ?_ _
    | apply State.reparityWord_steady
    | split
    | dsimp only
    | intro _

theorem execImageData_steady {s : State} {u : State} (k : Steady s u) (a0) (a1) :
    SteadyR s (execImageData a0 a1 u) := by
  unfold execImageData
  with_reducible repeat' first
    | assumption
    | apply steady_ite
    | apply steadyR_ite
    | apply State.answer_steady
    | apply accessed_steady
    | apply respondAccess_steady
    | apply State.imageWrite_steady
    | refine steady_snd_of_eq ‹State.imageWrite _ _ _ = _› (State.imageWrite_steady ?_ _ _)
    | apply SteadyR.next
    | split
    | dsimp only
    | intro _

theorem State.lossCheck_steady {s : State} {u : State} (k : Steady s u)  :
    Steady s (State.lossCheck u) := by
  unfold State.lossCheck
  with_reducible repeat' first
    | assumption
    | apply steady_ite
    | (intro x h; simp only [LogS.canonical, Bool.and_eq_true] at h ⊢; (repeat' split) <;> (simp only [h, Tab.set_wf, Tab.mod_wf, Tab.put_wf, Tab.erase_wf, Tab.remap_wf, Tab.filter_wf, Tab.wf_nil, Tab.foldl_set_wf, Tab.foldl_mod_wf, loaded_wf, mergeActivity_wf, and_self]; done))
    | refine State.modLog_steady ?_ ?_ 
    | apply State.record_steady
    | split
    | dsimp only
    | intro _

theorem execLogbookWriteOut_steady {s : State} {u : State} (k : Steady s u) (a0) :
    SteadyR s (execLogbookWriteOut a0 u) := by
  unfold execLogbookWriteOut
  with_reducible repeat' first
    | assumption
    | apply steady_ite
    | apply steadyR_ite
    | apply State.writeOut_steady
    | apply State.lossCheck_steady
    | apply SteadyR.next
    | split
    | dsimp only
    | intro _

theorem State.poisonList_steady {s : State} {u : State} (k : Steady s u) (a0) :
    Steady s (State.poisonList a0 u) := by
  unfold State.poisonList
  with_reducible repeat' first
    | assumption
    | apply steady_ite
    | apply State.mbReturn_steady
    | split
    | dsimp only
    | intro _

theorem execGetPoisonList_steady {s : State} {u : State} (k : Steady s u) (a0) :
    SteadyR s (execGetPoisonList a0 u) := by
  unfold execGetPoisonList
  with_reducible repeat' first
    | assumption
    | apply steady_ite
    | apply steadyR_ite
    | apply mailboxed_steady
    | apply State.poisonList_steady
    | apply SteadyR.next
    | split
    | dsimp only
    | intro _

theorem execClockLost_steady {s : State} {u : State} (k : Steady s u) (a0) :
    SteadyR s (execClockLost a0 u) := by
  unfold execClockLost
  with_reducible repeat' first
    | assumption
    | apply steady_ite
    | apply steadyR_ite
    | (intro x; (try dsimp only); (repeat' split) <;> (simp only [Nat.le_refl]; done))
    | (intro x; dsimp only; omega)
    | (intro x h; simp only [WbS.canonical, Bool.and_eq_true] at h ⊢; (repeat' split) <;> (simp only [h, Tab.set_wf, Tab.mod_wf, Tab.put_wf, Tab.erase_wf, Tab.remap_wf, Tab.filter_wf, Tab.wf_nil, Tab.foldl_set_wf, Tab.foldl_mod_wf, loaded_wf, mergeActivity_wf, and_self]; done))
    | (intro x h; simp only [PowerS.canonical, Bool.and_eq_true] at h ⊢; (repeat' split) <;> (simp only [h, Tab.set_wf, Tab.mod_wf, Tab.put_wf, Tab.erase_wf, Tab.remap_wf, Tab.filter_wf, Tab.wf_nil, Tab.foldl_set_wf, Tab.foldl_mod_wf, loaded_wf, mergeActivity_wf, and_self]; done))
    | refine State.modPwr_steady ?_ ?_ 
    | refine State.modWb_steady ?_ ?_ ?_ 
    | apply State.when_steady
    | apply State.report_steady
    | apply State.driveHalt_steady
    | apply SteadyR.next
    | split
    | dsimp only
    | intro _

theorem State.clockBack_steady {s : State} {u : State} (k : Steady s u) (a0) :
    Steady s (State.clockBack a0 u) := by
  unfold State.clockBack
  with_reducible repeat' first
    | assumption
    | apply steady_ite
    | (intro x h; simp only [PowerS.canonical, Bool.and_eq_true] at h ⊢; (repeat' split) <;> (simp only [h, Tab.set_wf, Tab.mod_wf, Tab.put_wf, Tab.erase_wf, Tab.remap_wf, Tab.filter_wf, Tab.wf_nil, Tab.foldl_set_wf, Tab.foldl_mod_wf, loaded_wf, mergeActivity_wf, and_self]; done))
    | refine State.modPwr_steady ?_ ?_ 
    | split
    | dsimp only
    | intro _

theorem execFlashResume_steady {s : State} {u : State} (k : Steady s u)  :
    SteadyR s (execFlashResume u) := by
  unfold execFlashResume
  with_reducible repeat' first
    | assumption
    | apply steady_ite
    | apply steadyR_ite
    | apply State.modFls_steady
    | apply State.flashKick_steady
    | apply SteadyR.next
    | split
    | dsimp only
    | intro _

theorem State.pinnedLost_steady {s : State} {u : State} (k : Steady s u) (a0) (a1) :
    Steady s (State.pinnedLost a0 a1 u) := by
  unfold State.pinnedLost
  with_reducible repeat' first
    | assumption
    | apply steady_ite
    | (intro x h; simp only [IntegS.canonical, Bool.and_eq_true] at h ⊢; (repeat' split) <;> (simp only [h, Tab.set_wf, Tab.mod_wf, Tab.put_wf, Tab.erase_wf, Tab.remap_wf, Tab.filter_wf, Tab.wf_nil, Tab.foldl_set_wf, Tab.foldl_mod_wf, loaded_wf, mergeActivity_wf, and_self]; done))
    | refine State.modItg_steady ?_ ?_ 
    | apply State.restorePinned_steady
    | apply State.report_steady
    | split
    | dsimp only
    | intro _

theorem State.cacheWordLost_steady {s : State} {u : State} (k : Steady s u)  :
    Steady s (State.cacheWordLost u) := by
  unfold State.cacheWordLost
  with_reducible repeat' first
    | assumption
    | apply steady_ite
    | (intro x h; simp only [IntegS.canonical, Bool.and_eq_true] at h ⊢; (repeat' split) <;> (simp only [h, Tab.set_wf, Tab.mod_wf, Tab.put_wf, Tab.erase_wf, Tab.remap_wf, Tab.filter_wf, Tab.wf_nil, Tab.foldl_set_wf, Tab.foldl_mod_wf, loaded_wf, mergeActivity_wf, and_self]; done))
    | refine State.modItg_steady ?_ ?_ 
    | apply State.draw_steady
    | refine steady_snd_of_eq ‹State.draw _ = _› (State.draw_steady ?_)
    | split
    | dsimp only
    | intro _

theorem State.damage_steady {s : State} {u : State} (k : Steady s u) (a0) :
    Steady s (State.damage a0 u) := by
  unfold State.damage
  with_reducible repeat' first
    | assumption
    | apply steady_ite
    | (intro x h; simp only [LogS.canonical, Bool.and_eq_true] at h ⊢; (repeat' split) <;> (simp only [h, Tab.set_wf, Tab.mod_wf, Tab.put_wf, Tab.erase_wf, Tab.remap_wf, Tab.filter_wf, Tab.wf_nil, Tab.foldl_set_wf, Tab.foldl_mod_wf, loaded_wf, mergeActivity_wf, and_self]; done))
    | refine State.modLog_steady ?_ ?_ 
    | split
    | dsimp only
    | intro _

theorem State.wordLost_steady {s : State} {u : State} (k : Steady s u) (a0) (a1) (a2) :
    Steady s (State.wordLost a0 a1 a2 u) := by
  unfold State.wordLost
  with_reducible repeat' first
    | assumption
    | apply steady_ite
    | (intro x h; simp only [TallyS.canonical, Bool.and_eq_true] at h ⊢; (repeat' split) <;> (simp only [h, Tab.set_wf, Tab.mod_wf, Tab.put_wf, Tab.erase_wf, Tab.remap_wf, Tab.filter_wf, Tab.wf_nil, Tab.foldl_set_wf, Tab.foldl_mod_wf, loaded_wf, mergeActivity_wf, and_self]; done))
    | refine State.modTly_steady ?_ ?_ 
    | apply State.report_steady
    | apply State.wearWordLost_steady
    | apply State.mirrorLost_steady
    | apply State.pinnedLost_steady
    | apply State.cacheWordLost_steady
    | apply State.damage_steady
    | split
    | dsimp only
    | intro _

theorem State.patrolWord_steady {s : State} {u : State} (k : Steady s u) (a0) (a1) (a2) (a3) :
    Steady s (State.patrolWord a0 a1 a2 a3 u) := by
  unfold State.patrolWord
  with_reducible repeat' first
    | assumption
    | apply steady_ite
    | apply State.modSram_steady
    | apply State.partFailing_steady
    | apply State.badWord_steady
    | apply State.wordLost_steady
    | split
    | dsimp only
    | intro _

theorem execSramPatrol_steady {s : State} {u : State} (k : Steady s u) (a0) (a1) (a2) (a3) :
    SteadyR s (execSramPatrol a0 a1 a2 a3 u) := by
  unfold execSramPatrol
  with_reducible repeat' first
    | assumption
    | apply steady_ite
    | apply steadyR_ite
    | apply State.watchdogReset_steady
    | apply State.patrolWord_steady
    | apply SteadyR.next
    | split
    | dsimp only
    | intro _

theorem execBlockProtectionWrite_steady {s : State} {u : State} (k : Steady s u) (a0) :
    SteadyR s (execBlockProtectionWrite a0 u) := by
  unfold execBlockProtectionWrite
  with_reducible repeat' first
    | assumption
    | apply steady_ite
    | apply steadyR_ite
    | apply accessed_steady
    | apply respondAccess_steady
    | apply State.protectOp_steady
    | apply SteadyR.next
    | split
    | dsimp only
    | intro _

theorem State.startRebuild_steady {s : State} {u : State} (k : Steady s u) (a0) (a1) :
    Steady s (State.startRebuild a0 a1 u) := by
  unfold State.startRebuild
  with_reducible repeat' first
    | assumption
    | apply steady_ite
    | apply State.storeWrite_steady
    | apply State.modRebuild_steady
    | apply State.rebuildSync_steady
    | split
    | dsimp only
    | intro _

theorem State.readmit_steady {s : State} {u : State} (k : Steady s u) (a0) :
    Steady s (State.readmit a0 u) := by
  unfold State.readmit
  with_reducible repeat' first
    | assumption
    | apply steady_ite
    | refine forEach_steady (fun _ _ _ => ?_) ?_ _
    | apply State.storeWrite_steady
    | apply State.boundSync_steady
    | apply State.modDomain_steady
    | apply State.modChannel_steady
    | apply State.report_steady
    | apply State.mapStep_steady
    | apply State.linksSync_steady
    | apply State.modUnit_steady
    | apply State.rebuildSync_steady
    | apply State.cmdDone_steady
    | apply State.plcaStart_steady
    | apply State.clockBack_steady
    | apply State.modSource_steady
    | apply State.startRebuild_steady
    | split
    | dsimp only
    | intro _

theorem State.reloadBand_steady {s : State} {u : State} (k : Steady s u) (a0) :
    Steady s (State.reloadBand a0 u) := by
  unfold State.reloadBand
  with_reducible repeat' first
    | assumption
    | apply steady_ite
    | (intro x h; simp only [TractS.canonical, Bool.and_eq_true] at h ⊢; (repeat' split) <;> (simp only [h, Tab.set_wf, Tab.mod_wf, Tab.put_wf, Tab.erase_wf, Tab.remap_wf, Tab.filter_wf, Tab.wf_nil, Tab.foldl_set_wf, Tab.foldl_mod_wf, loaded_wf, mergeActivity_wf, and_self]; done))
    | refine State.modTrc_steady ?_ ?_ 
    | refine forEach_steady (fun _ _ _ => ?_) ?_ _
    | apply State.modActivity_steady
    | split
    | dsimp only
    | intro _

theorem execStagingPartRestoreDone_steady {s : State} {u : State} (k : Steady s u) (a0) :
    SteadyR s (execStagingPartRestoreDone a0 u) := by
  unfold execStagingPartRestoreDone
  with_reducible repeat' first
    | assumption
    | apply steady_ite
    | apply steadyR_ite
    | (intro x; (try dsimp only); (repeat' split) <;> (simp only [Nat.le_refl]; done))
    | (intro x; dsimp only; omega)
    | (intro x h; simp only [WbS.canonical, Bool.and_eq_true] at h ⊢; (repeat' split) <;> (simp only [h, Tab.set_wf, Tab.mod_wf, Tab.put_wf, Tab.erase_wf, Tab.remap_wf, Tab.filter_wf, Tab.wf_nil, Tab.foldl_set_wf, Tab.foldl_mod_wf, loaded_wf, mergeActivity_wf, and_self]; done))
    | (intro x h; simp only [StagingS.canonical, Bool.and_eq_true] at h ⊢; (repeat' split) <;> (simp only [h, Tab.set_wf, Tab.mod_wf, Tab.put_wf, Tab.erase_wf, Tab.remap_wf, Tab.filter_wf, Tab.wf_nil, Tab.foldl_set_wf, Tab.foldl_mod_wf, loaded_wf, mergeActivity_wf, and_self]; done))
    | refine State.modStg_steady ?_ ?_ 
    | refine State.modWb_steady ?_ ?_ ?_ 
    | apply State.restoreBand_steady
    | apply State.probeWaiting_steady
    | apply State.reparityPart_steady
    | apply State.readmit_steady
    | apply State.reloadBand_steady
    | apply SteadyR.next
    | split
    | dsimp only
    | intro _

theorem State.probeCounts_steady {s : State} {u : State} (k : Steady s u) (a0) (a1) :
    Steady s (State.probeCounts a0 a1 u) := by
  unfold State.probeCounts
  with_reducible repeat' first
    | assumption
    | apply steady_ite
    | refine forEach_steady (fun _ _ _ => ?_) ?_ _
    | apply State.modDie_steady
    | split
    | dsimp only
    | intro _

theorem State.latchOptions_steady {s : State} {u : State} (k : Steady s u)  :
    Steady s (State.latchOptions u) := by
  unfold State.latchOptions
  with_reducible repeat' first
    | assumption
    | apply steady_ite
    | (intro x h; simp only [ParamS.canonical, Bool.and_eq_true] at h ⊢; (repeat' split) <;> (simp only [h, Tab.set_wf, Tab.mod_wf, Tab.put_wf, Tab.erase_wf, Tab.remap_wf, Tab.filter_wf, Tab.wf_nil, Tab.foldl_set_wf, Tab.foldl_mod_wf, loaded_wf, mergeActivity_wf, and_self]; done))
    | refine State.modPar_steady ?_ ?_ 
    | apply State.modCox_steady
    | apply State.report_steady
    | split
    | dsimp only
    | intro _

theorem State.recordLost_steady {s : State} {a0 : State → State} (ka0 : ∀  v, Steady s v → Steady s (a0  v)) {u : State} (k : Steady s u)  :
    Steady s (State.recordLost a0 u) := by
  unfold State.recordLost
  with_reducible repeat' first
    | assumption
    | apply steady_ite
    | (intro x h; simp only [ParamS.canonical, Bool.and_eq_true] at h ⊢; (repeat' split) <;> (simp only [h, Tab.set_wf, Tab.mod_wf, Tab.put_wf, Tab.erase_wf, Tab.remap_wf, Tab.filter_wf, Tab.wf_nil, Tab.foldl_set_wf, Tab.foldl_mod_wf, loaded_wf, mergeActivity_wf, and_self]; done))
    | refine State.modPar_steady ?_ ?_ 
    | apply State.report_steady
    | refine ka0  _ ?_
    | split
    | dsimp only
    | intro _

theorem State.recordDefault_steady {s : State} {u : State} (k : Steady s u) (a0) :
    Steady s (State.recordDefault a0 u) := by
  unfold State.recordDefault
  with_reducible repeat' first
    | assumption
    | apply steady_ite
    | (intro x h; simp only [PowerS.canonical, Bool.and_eq_true] at h ⊢; (repeat' split) <;> (simp only [h, Tab.set_wf, Tab.mod_wf, Tab.put_wf, Tab.erase_wf, Tab.remap_wf, Tab.filter_wf, Tab.wf_nil, Tab.foldl_set_wf, Tab.foldl_mod_wf, loaded_wf, mergeActivity_wf, and_self]; done))
    | (intro h; exact h)
    | (intro h; (try split) <;> (simp only [List.length_append, List.length_cons, List.length_nil, List.length_tail]; first | assumption | omega))
    | (intro x h; simp only [FaultS.canonical, Bool.and_eq_true] at h ⊢; (repeat' split) <;> (simp only [h, Tab.set_wf, Tab.mod_wf, Tab.put_wf, Tab.erase_wf, Tab.remap_wf, Tab.filter_wf, Tab.wf_nil, Tab.foldl_set_wf, Tab.foldl_mod_wf, loaded_wf, mergeActivity_wf, and_self]; done))
    | (intro x h; simp only [ScrubS.canonical, Bool.and_eq_true] at h ⊢; (repeat' split) <;> (simp only [h, Tab.set_wf, Tab.mod_wf, Tab.put_wf, Tab.erase_wf, Tab.remap_wf, Tab.filter_wf, Tab.wf_nil, Tab.foldl_set_wf, Tab.foldl_mod_wf, loaded_wf, mergeActivity_wf, and_self]; done))
    | (intro x h; simp only [ExtS.canonical, Bool.and_eq_true] at h ⊢; (repeat' split) <;> (simp only [h, Tab.set_wf, Tab.mod_wf, Tab.put_wf, Tab.erase_wf, Tab.remap_wf, Tab.filter_wf, Tab.wf_nil, Tab.foldl_set_wf, Tab.foldl_mod_wf, loaded_wf, mergeActivity_wf, and_self]; done))
    | (intro x; (try dsimp only); (repeat' split) <;> (simp only [Nat.le_refl]; done))
    | (intro x; dsimp only; omega)
    | (intro x h; simp only [WbS.canonical, Bool.and_eq_true] at h ⊢; (repeat' split) <;> (simp only [h, Tab.set_wf, Tab.mod_wf, Tab.put_wf, Tab.erase_wf, Tab.remap_wf, Tab.filter_wf, Tab.wf_nil, Tab.foldl_set_wf, Tab.foldl_mod_wf, loaded_wf, mergeActivity_wf, and_self]; done))
    | (intro x h; simp only [TractS.canonical, Bool.and_eq_true] at h ⊢; (repeat' split) <;> (simp only [h, Tab.set_wf, Tab.mod_wf, Tab.put_wf, Tab.erase_wf, Tab.remap_wf, Tab.filter_wf, Tab.wf_nil, Tab.foldl_set_wf, Tab.foldl_mod_wf, loaded_wf, mergeActivity_wf, and_self]; done))
    | (intro x h; simp only [MediaS.canonical, Bool.and_eq_true] at h ⊢; (repeat' split) <;> (simp only [h, Tab.set_wf, Tab.mod_wf, Tab.put_wf, Tab.erase_wf, Tab.remap_wf, Tab.filter_wf, Tab.wf_nil, Tab.foldl_set_wf, Tab.foldl_mod_wf, loaded_wf, mergeActivity_wf, and_self]; done))
    | (intro x h; simp only [IntegS.canonical, Bool.and_eq_true] at h ⊢; (repeat' split) <;> (simp only [h, Tab.set_wf, Tab.mod_wf, Tab.put_wf, Tab.erase_wf, Tab.remap_wf, Tab.filter_wf, Tab.wf_nil, Tab.foldl_set_wf, Tab.foldl_mod_wf, loaded_wf, mergeActivity_wf, and_self]; done))
    | (intro x h; simp only [LogS.canonical, Bool.and_eq_true] at h ⊢; (repeat' split) <;> (simp only [h, Tab.set_wf, Tab.mod_wf, Tab.put_wf, Tab.erase_wf, Tab.remap_wf, Tab.filter_wf, Tab.wf_nil, Tab.foldl_set_wf, Tab.foldl_mod_wf, loaded_wf, mergeActivity_wf, and_self]; done))
    | refine State.modLog_steady ?_ ?_ 
    | refine State.modItg_steady ?_ ?_ 
    | refine State.modMed_steady ?_ ?_ 
    | refine State.modTrc_steady ?_ ?_ 
    | refine State.modWb_steady ?_ ?_ ?_ 
    | refine State.modExt_steady ?_ ?_ 
    | refine State.modScr_steady ?_ ?_ 
    | refine State.modFlt_steady ?_ ?_ ?_ 
    | apply State.modImg_steady
    | apply State.modCox_steady
    | refine State.modPwr_steady ?_ ?_ 
    | apply State.modHlt_steady
    | split
    | dsimp only
    | intro _

theorem State.readRecords_steady {s : State} {u : State} (k : Steady s u) (a0) (a1) :
    Steady s (State.readRecords a0 a1 u) := by
  unfold State.readRecords
  with_reducible repeat' first
    | assumption
    | apply steady_ite
    | (intro x h; simp only [ObjS.canonical, Bool.and_eq_true] at h ⊢; (repeat' split) <;> (simp only [h, Tab.set_wf, Tab.mod_wf, Tab.put_wf, Tab.erase_wf, Tab.remap_wf, Tab.filter_wf, Tab.wf_nil, Tab.foldl_set_wf, Tab.foldl_mod_wf, loaded_wf, mergeActivity_wf, and_self]; done))
    | refine State.modObj_steady ?_ ?_ 
    | refine forEach_steady (fun _ _ _ => ?_) ?_ _
    | apply State.recordLost_steady
    | apply State.recordDefault_steady
    | split
    | dsimp only
    | intro _

theorem State.flagErase_steady {s : State} {u : State} (k : Steady s u) (a0) :
    Steady s (State.flagErase a0 u) := by
  unfold State.flagErase
  with_reducible repeat' first
    | assumption
    | apply steady_ite
    | apply State.modFls_steady
    | apply State.modImage_steady
    | apply State.areaFErased_steady
    | split
    | dsimp only
    | intro _

theorem execCoxResetRelease_steady {s : State} {u : State} (k : Steady s u) (a0) (a1) :
    SteadyR s (execCoxResetRelease a0 a1 u) := by
  unfold execCoxResetRelease
  with_reducible repeat' first
    | assumption
    | apply steady_ite
    | apply steadyR_ite
    | apply State.modCox_steady
    | refine forEach_steady (fun _ _ _ => ?_) ?_ _
    | apply State.selectImage_steady
    | apply State.latchOptions_steady
    | apply State.readRecords_steady
    | apply State.flagErase_steady
    | apply SteadyR.next
    | split
    | dsimp only
    | intro _

theorem execWearBandReloadDone_steady {s : State} {u : State} (k : Steady s u) (a0) :
    SteadyR s (execWearBandReloadDone a0 u) := by
  unfold execWearBandReloadDone
  with_reducible repeat' first
    | assumption
    | apply steady_ite
    | apply steadyR_ite
    | (intro x h; simp only [StagingS.canonical, Bool.and_eq_true] at h ⊢; (repeat' split) <;> (simp only [h, Tab.set_wf, Tab.mod_wf, Tab.put_wf, Tab.erase_wf, Tab.remap_wf, Tab.filter_wf, Tab.wf_nil, Tab.foldl_set_wf, Tab.foldl_mod_wf, loaded_wf, mergeActivity_wf, and_self]; done))
    | refine State.modStg_steady ?_ ?_ 
    | apply State.reloadBand_steady
    | apply SteadyR.next
    | split
    | dsimp only
    | intro _

theorem execSecureErase_steady {s : State} {u : State} (k : Steady s u) (a0) :
    SteadyR s (execSecureErase a0 u) := by
  unfold execSecureErase
  with_reducible repeat' first
    | assumption
    | apply steady_ite
    | apply steadyR_ite
    | apply mailboxed_steady
    | apply State.hostSanitize_steady
    | apply SteadyR.next
    | split
    | dsimp only
    | intro _

theorem State.capacityResponse_steady {s : State} {u : State} (k : Steady s u) (a0) (a1) (a2) :
    Steady s (State.capacityResponse a0 a1 a2 u) := by
  unfold State.capacityResponse
  with_reducible repeat' first
    | assumption
    | apply steady_ite
    | apply State.movePair_steady
    | apply State.mbReturn_steady
    | split
    | dsimp only
    | intro _

theorem execAddDynamicCapacityResponse_steady {s : State} {u : State} (k : Steady s u) (a0) (a1) (a2) :
    SteadyR s (execAddDynamicCapacityResponse a0 a1 a2 u) := by
  unfold execAddDynamicCapacityResponse
  with_reducible repeat' first
    | assumption
    | apply steady_ite
    | apply steadyR_ite
    | apply mailboxed_steady
    | apply State.capacityResponse_steady
    | apply SteadyR.next
    | split
    | dsimp only
    | intro _

theorem execReleaseDynamicCapacity_steady {s : State} {u : State} (k : Steady s u) (a0) (a1) :
    SteadyR s (execReleaseDynamicCapacity a0 a1 u) := by
  unfold execReleaseDynamicCapacity
  with_reducible repeat' first
    | assumption
    | apply steady_ite
    | apply steadyR_ite
    | apply mailboxed_steady
    | apply State.capacityRelease_steady
    | apply SteadyR.next
    | split
    | dsimp only
    | intro _

theorem execGetDynamicCapacityExtentList_steady {s : State} {u : State} (k : Steady s u) (a0) :
    SteadyR s (execGetDynamicCapacityExtentList a0 u) := by
  unfold execGetDynamicCapacityExtentList
  with_reducible repeat' first
    | assumption
    | apply steady_ite
    | apply steadyR_ite
    | apply mailboxed_steady
    | apply State.capacityList_steady
    | apply SteadyR.next
    | split
    | dsimp only
    | intro _

theorem State.setHint_steady {s : State} {u : State} (k : Steady s u) (a0) (a1) (a2) (a3) (a4) :
    Steady s (State.setHint a0 a1 a2 a3 a4 u) := by
  unfold State.setHint
  with_reducible repeat' first
    | assumption
    | apply steady_ite
    | refine forEach_steady (fun _ _ _ => ?_) ?_ _
    | apply State.journal_steady
    | apply State.mbReturn_steady
    | apply State.modExtent_steady
    | split
    | dsimp only
    | intro _

theorem execSetExtentHint_steady {s : State} {u : State} (k : Steady s u) (a0) (a1) (a2) (a3) (a4) :
    SteadyR s (execSetExtentHint a0 a1 a2 a3 a4 u) := by
  unfold execSetExtentHint
  with_reducible repeat' first
    | assumption
    | apply steady_ite
    | apply steadyR_ite
    | apply mailboxed_steady
    | apply State.setHint_steady
    | apply SteadyR.next
    | split
    | dsimp only
    | intro _

theorem State.extentStates_steady {s : State} {u : State} (k : Steady s u) (a0) (a1) (a2) (a3) :
    Steady s (State.extentStates a0 a1 a2 a3 u) := by
  unfold State.extentStates
  with_reducible repeat' first
    | assumption
    | apply steady_ite
    | apply State.mbReturn_steady
    | split
    | dsimp only
    | intro _

theorem execGetExtentState_steady {s : State} {u : State} (k : Steady s u) (a0) (a1) (a2) (a3) :
    SteadyR s (execGetExtentState a0 a1 a2 a3 u) := by
  unfold execGetExtentState
  with_reducible repeat' first
    | assumption
    | apply steady_ite
    | apply steadyR_ite
    | apply mailboxed_steady
    | apply State.extentStates_steady
    | apply SteadyR.next
    | split
    | dsimp only
    | intro _

theorem execUnsupportedOpcode_steady {s : State} {u : State} (k : Steady s u) (a0) (a1) :
    SteadyR s (execUnsupportedOpcode a0 a1 u) := by
  unfold execUnsupportedOpcode
  with_reducible repeat' first
    | assumption
    | apply steady_ite
    | apply steadyR_ite
    | apply mailboxed_steady
    | apply State.mbReturn_steady
    | apply SteadyR.next
    | split
    | dsimp only
    | intro _

theorem execExtentOffer_steady {s : State} {u : State} (k : Steady s u) (a0) (a1) (a2) (a3) (a4) :
    SteadyR s (execExtentOffer a0 a1 a2 a3 a4 u) := by
  unfold execExtentOffer
  with_reducible repeat' first
    | assumption
    | apply steady_ite
    | apply steadyR_ite
    | apply guarded_steady
    | apply accessed_steady
    | apply respondAccess_steady
    | apply State.offerOp_steady
    | apply SteadyR.next
    | split
    | dsimp only
    | intro _

theorem State.offerStep_steady {s : State} {u : State} (k : Steady s u) (a0) :
    Steady s (State.offerStep a0 u) := by
  unfold State.offerStep
  with_reducible repeat' first
    | assumption
    | apply steady_ite
    | (intro x h; simp only [ExtS.canonical, Bool.and_eq_true] at h ⊢; (repeat' split) <;> (simp only [h, Tab.set_wf, Tab.mod_wf, Tab.put_wf, Tab.erase_wf, Tab.remap_wf, Tab.filter_wf, Tab.wf_nil, Tab.foldl_set_wf, Tab.foldl_mod_wf, loaded_wf, mergeActivity_wf, and_self]; done))
    | refine State.modExt_steady ?_ ?_ 
    | apply State.ticketDone_steady
    | split
    | dsimp only
    | intro _

theorem execRegionChangeComplete_steady {s : State} {u : State} (k : Steady s u) (a0) :
    SteadyR s (execRegionChangeComplete a0 u) := by
  unfold execRegionChangeComplete
  with_reducible repeat' first
    | assumption
    | apply steady_ite
    | apply steadyR_ite
    | apply State.journal_steady
    | apply State.sanitizeExtent_steady
    | apply State.offerTo_steady
    | apply State.modExtent_steady
    | apply State.offerStep_steady
    | apply SteadyR.next
    | split
    | dsimp only
    | intro _

theorem execOfferTimeout_steady {s : State} {u : State} (k : Steady s u) (a0) (a1) :
    SteadyR s (execOfferTimeout a0 a1 u) := by
  unfold execOfferTimeout
  with_reducible repeat' first
    | assumption
    | apply steady_ite
    | apply steadyR_ite
    | apply State.movePair_steady
    | apply SteadyR.next
    | split
    | dsimp only
    | intro _

theorem execExtentDrainComplete_steady {s : State} {u : State} (k : Steady s u) (a0) (a1) :
    SteadyR s (execExtentDrainComplete a0 a1 u) := by
  unfold execExtentDrainComplete
  with_reducible repeat' first
    | assumption
    | apply steady_ite
    | apply steadyR_ite
    | apply State.movePair_steady
    | apply SteadyR.next
    | split
    | dsimp only
    | intro _

theorem execRegionCreate_steady {s : State} {u : State} (k : Steady s u) (a0) (a1) :
    SteadyR s (execRegionCreate a0 a1 u) := by
  unfold execRegionCreate
  with_reducible repeat' first
    | assumption
    | apply steady_ite
    | apply steadyR_ite
    | apply accessed_steady
    | apply respondAccess_steady
    | apply State.regionOp_steady
    | apply SteadyR.next
    | split
    | dsimp only
    | intro _

theorem execRegionMaskChange_steady {s : State} {u : State} (k : Steady s u) (a0) (a1) :
    SteadyR s (execRegionMaskChange a0 a1 u) := by
  unfold execRegionMaskChange
  with_reducible repeat' first
    | assumption
    | apply steady_ite
    | apply steadyR_ite
    | apply accessed_steady
    | apply respondAccess_steady
    | apply State.regionOp_steady
    | apply SteadyR.next
    | split
    | dsimp only
    | intro _

theorem execRegionDelete_steady {s : State} {u : State} (k : Steady s u) (a0) :
    SteadyR s (execRegionDelete a0 u) := by
  unfold execRegionDelete
  with_reducible repeat' first
    | assumption
    | apply steady_ite
    | apply steadyR_ite
    | apply accessed_steady
    | apply respondAccess_steady
    | apply State.regionOp_steady
    | apply SteadyR.next
    | split
    | dsimp only
    | intro _

theorem State.recordFault_steady {s : State} {u : State} (k : Steady s u) (a0) :
    Steady s (State.recordFault a0 u).2 := by
  unfold State.recordFault
  with_reducible repeat' first
    | assumption
    | apply steady_ite
    | apply steady_ite_snd
    | refine forEach_steady (fun _ _ _ => ?_) ?_ _
    | apply State.logE_steady
    | refine steady_snd_of_eq ‹State.logE _ _ = _› (State.logE_steady ?_ _)
    | apply State.eqPost_steady
    | split
    | dsimp only
    | intro _

theorem State.countHour_steady {s : State} {u : State} (k : Steady s u) (a0) :
    Steady s (State.countHour a0 u) := by
  unfold State.countHour
  with_reducible repeat' first
    | assumption
    | apply steady_ite
    | apply State.modSource_steady
    | split
    | dsimp only
    | intro _

theorem State.countMessage_steady {s : State} {u : State} (k : Steady s u) (a0) (a1) :
    Steady s (State.countMessage a0 a1 u) := by
  unfold State.countMessage
  with_reducible repeat' first
    | assumption
    | apply steady_ite
    | (intro h; exact h)
    | (intro h; (try split) <;> (simp only [List.length_append, List.length_cons, List.length_nil, List.length_tail]; first | assumption | omega))
    | (intro x h; simp only [FaultS.canonical, Bool.and_eq_true] at h ⊢; (repeat' split) <;> (simp only [h, Tab.set_wf, Tab.mod_wf, Tab.put_wf, Tab.erase_wf, Tab.remap_wf, Tab.filter_wf, Tab.wf_nil, Tab.foldl_set_wf, Tab.foldl_mod_wf, loaded_wf, mergeActivity_wf, and_self]; done))
    | refine State.modFlt_steady ?_ ?_ ?_ 
    | apply State.modSource_steady
    | apply State.countHour_steady
    | split
    | dsimp only
    | intro _

theorem State.queueLossCheck_steady {s : State} {u : State} (k : Steady s u)  :
    Steady s (State.queueLossCheck u) := by
  unfold State.queueLossCheck
  with_reducible repeat' first
    | assumption
    | apply steady_ite
    | (intro h; exact h)
    | (intro h; (try split) <;> (simp only [List.length_append, List.length_cons, List.length_nil, List.length_tail]; first | assumption | omega))
    | (intro x h; simp only [FaultS.canonical, Bool.and_eq_true] at h ⊢; (repeat' split) <;> (simp only [h, Tab.set_wf, Tab.mod_wf, Tab.put_wf, Tab.erase_wf, Tab.remap_wf, Tab.filter_wf, Tab.wf_nil, Tab.foldl_set_wf, Tab.foldl_mod_wf, loaded_wf, mergeActivity_wf, and_self]; done))
    | refine State.modFlt_steady ?_ ?_ ?_ 
    | apply State.record_steady
    | split
    | dsimp only
    | intro _

theorem execFaultMessageTaken_steady {s : State} {u : State} (k : Steady s u)  :
    SteadyR s (execFaultMessageTaken u) := by
  unfold execFaultMessageTaken
  with_reducible repeat' first
    | assumption
    | apply steady_ite
    | apply steadyR_ite
    | (intro h; exact h)
    | (intro h; (try split) <;> (simp only [List.length_append, List.length_cons, List.length_nil, List.length_tail]; first | assumption | omega))
    | (intro h; simp only [‹_ = _ :: _›, List.length_cons] at h; dsimp only; omega)
    | (intro x h; simp only [FaultS.canonical, Bool.and_eq_true] at h ⊢; (repeat' split) <;> (simp only [h, Tab.set_wf, Tab.mod_wf, Tab.put_wf, Tab.erase_wf, Tab.remap_wf, Tab.filter_wf, Tab.wf_nil, Tab.foldl_set_wf, Tab.foldl_mod_wf, loaded_wf, mergeActivity_wf, and_self]; done))
    | refine State.modFlt_steady ?_ ?_ ?_ 
    | apply State.notify_steady
    | apply State.fireWhere_steady
    | apply State.react_steady
    | apply State.recordFault_steady
    | refine steady_snd_of_eq ‹State.recordFault _ _ = _› (State.recordFault_steady ?_ _)
    | apply State.countMessage_steady
    | apply State.queueLossCheck_steady
    | apply SteadyR.next
    | split
    | dsimp only
    | intro _

theorem execFatalLineAssert_steady {s : State} {u : State} (k : Steady s u) (a0) :
    SteadyR s (execFatalLineAssert a0 u) := by
  unfold execFatalLineAssert
  with_reducible repeat' first
    | assumption
    | apply steady_ite
    | apply steadyR_ite
    | apply State.report_steady
    | apply SteadyR.next
    | split
    | dsimp only
    | intro _

theorem execStickyBitPersist_steady {s : State} {u : State} (k : Steady s u) (a0) :
    SteadyR s (execStickyBitPersist a0 u) := by
  unfold execStickyBitPersist
  with_reducible repeat' first
    | assumption
    | apply steady_ite
    | apply steadyR_ite
    | (intro h; exact h)
    | (intro h; (try split) <;> (simp only [List.length_append, List.length_cons, List.length_nil, List.length_tail]; first | assumption | omega))
    | (intro x h; simp only [FaultS.canonical, Bool.and_eq_true] at h ⊢; (repeat' split) <;> (simp only [h, Tab.set_wf, Tab.mod_wf, Tab.put_wf, Tab.erase_wf, Tab.remap_wf, Tab.filter_wf, Tab.wf_nil, Tab.foldl_set_wf, Tab.foldl_mod_wf, loaded_wf, mergeActivity_wf, and_self]; done))
    | refine State.modFlt_steady ?_ ?_ ?_ 
    | apply State.storeWrite_steady
    | apply SteadyR.next
    | split
    | dsimp only
    | intro _

theorem execStickyBitClear_steady {s : State} {u : State} (k : Steady s u) (a0) (a1) :
    SteadyR s (execStickyBitClear a0 a1 u) := by
  unfold execStickyBitClear
  with_reducible repeat' first
    | assumption
    | apply steady_ite
    | apply steadyR_ite
    | apply accessed_steady
    | apply respondAccess_steady
    | apply State.stickyOp_steady
    | apply SteadyR.next
    | split
    | dsimp only
    | intro _

theorem execQuietTimerExpiry_steady {s : State} {u : State} (k : Steady s u) (a0) :
    SteadyR s (execQuietTimerExpiry a0 u) := by
  unfold execQuietTimerExpiry
  with_reducible repeat' first
    | assumption
    | apply steady_ite
    | apply steadyR_ite
    | apply State.askProbe_steady
    | apply SteadyR.next
    | split
    | dsimp only
    | intro _

theorem execProbeComplete_steady {s : State} {u : State} (k : Steady s u) (a0) (a1) :
    SteadyR s (execProbeComplete a0 a1 u) := by
  unfold execProbeComplete
  with_reducible repeat' first
    | assumption
    | apply steady_ite
    | apply steadyR_ite
    | (intro x h; simp only [StagingS.canonical, Bool.and_eq_true] at h ⊢; (repeat' split) <;> (simp only [h, Tab.set_wf, Tab.mod_wf, Tab.put_wf, Tab.erase_wf, Tab.remap_wf, Tab.filter_wf, Tab.wf_nil, Tab.foldl_set_wf, Tab.foldl_mod_wf, loaded_wf, mergeActivity_wf, and_self]; done))
    | refine State.modStg_steady ?_ ?_ 
    | apply State.modSram_steady
    | apply State.probeWaiting_steady
    | apply State.probeFailed_steady
    | apply State.readmit_steady
    | apply State.probeCounts_steady
    | apply SteadyR.next
    | split
    | dsimp only
    | intro _

theorem execOperatorFence_steady {s : State} {u : State} (k : Steady s u) (a0) (a1) :
    SteadyR s (execOperatorFence a0 a1 u) := by
  unfold execOperatorFence
  with_reducible repeat' first
    | assumption
    | apply steady_ite
    | apply steadyR_ite
    | apply guarded_steady
    | apply accessed_steady
    | apply respondAccess_steady
    | apply State.fenceOp_steady
    | apply SteadyR.next
    | split
    | dsimp only
    | intro _

theorem execOperatorReadmit_steady {s : State} {u : State} (k : Steady s u) (a0) (a1) :
    SteadyR s (execOperatorReadmit a0 a1 u) := by
  unfold execOperatorReadmit
  with_reducible repeat' first
    | assumption
    | apply steady_ite
    | apply steadyR_ite
    | apply guarded_steady
    | apply accessed_steady
    | apply respondAccess_steady
    | apply State.readmitOp_steady
    | apply SteadyR.next
    | split
    | dsimp only
    | intro _

theorem execEngineTimeout_steady {s : State} {u : State} (k : Steady s u) (a0) (a1) :
    SteadyR s (execEngineTimeout a0 a1 u) := by
  unfold execEngineTimeout
  with_reducible repeat' first
    | assumption
    | apply steady_ite
    | apply steadyR_ite
    | apply State.report_steady
    | apply SteadyR.next
    | split
    | dsimp only
    | intro _

theorem execStagingParityRecomputeDone_steady {s : State} {u : State} (k : Steady s u) (a0) :
    SteadyR s (execStagingParityRecomputeDone a0 u) := by
  unfold execStagingParityRecomputeDone
  with_reducible repeat' first
    | assumption
    | apply steady_ite
    | apply steadyR_ite
    | apply State.reparityPart_steady
    | apply SteadyR.next
    | split
    | dsimp only
    | intro _

theorem State.partCheckFailed_steady {s : State} {u : State} (k : Steady s u) (a0) :
    Steady s (State.partCheckFailed a0 u) := by
  unfold State.partCheckFailed
  with_reducible repeat' first
    | assumption
    | apply steady_ite
    | (intro x h; simp only [ScrubS.canonical, Bool.and_eq_true] at h ⊢; (repeat' split) <;> (simp only [h, Tab.set_wf, Tab.mod_wf, Tab.put_wf, Tab.erase_wf, Tab.remap_wf, Tab.filter_wf, Tab.wf_nil, Tab.foldl_set_wf, Tab.foldl_mod_wf, loaded_wf, mergeActivity_wf, and_self]; done))
    | refine State.modScr_steady ?_ ?_ 
    | apply State.report_steady
    | split
    | dsimp only
    | intro _

theorem execSramInitDone_steady {s : State} {u : State} (k : Steady s u) (a0) (a1) :
    SteadyR s (execSramInitDone a0 a1 u) := by
  unfold execSramInitDone
  with_reducible repeat' first
    | assumption
    | apply steady_ite
    | apply steadyR_ite
    | (intro x h; simp only [ScrubS.canonical, Bool.and_eq_true] at h ⊢; (repeat' split) <;> (simp only [h, Tab.set_wf, Tab.mod_wf, Tab.put_wf, Tab.erase_wf, Tab.remap_wf, Tab.filter_wf, Tab.wf_nil, Tab.foldl_set_wf, Tab.foldl_mod_wf, loaded_wf, mergeActivity_wf, and_self]; done))
    | apply State.modStr_steady
    | refine State.modScr_steady ?_ ?_ 
    | apply State.mapStep_steady
    | apply State.modSram_steady
    | apply State.coreCheckFailed_steady
    | apply State.partCheckFailed_steady
    | apply SteadyR.next
    | split
    | dsimp only
    | intro _

theorem execChannelTrainingDone_steady {s : State} {u : State} (k : Steady s u) (a0) :
    SteadyR s (execChannelTrainingDone a0 u) := by
  unfold execChannelTrainingDone
  with_reducible repeat' first
    | assumption
    | apply steady_ite
    | apply steadyR_ite
    | apply State.modChannel_steady
    | apply State.mapStep_steady
    | apply SteadyR.next
    | split
    | dsimp only
    | intro _

theorem execOrphanLimit_steady {s : State} {u : State} (k : Steady s u)  :
    SteadyR s (execOrphanLimit u) := by
  unfold execOrphanLimit
  with_reducible repeat' first
    | assumption
    | apply steady_ite
    | apply steadyR_ite
    | apply State.modCox_steady
    | apply State.report_steady
    | apply SteadyR.next
    | split
    | dsimp only
    | intro _

theorem State.optionWord_steady {s : State} {u : State} (k : Steady s u)  :
    Steady s (State.optionWord u) := by
  unfold State.optionWord
  with_reducible repeat' first
    | assumption
    | apply steady_ite
    | apply State.modFls_steady
    | apply State.modCox_steady
    | apply State.ticketDone_steady
    | apply State.notifyObject_steady
    | apply State.flashAsk_steady
    | split
    | dsimp only
    | intro _

theorem execFlashProgramDone_steady {s : State} {u : State} (k : Steady s u) (a0) :
    SteadyR s (execFlashProgramDone a0 u) := by
  unfold execFlashProgramDone
  with_reducible repeat' first
    | assumption
    | apply steady_ite
    | apply steadyR_ite
    | apply State.modFls_steady
    | apply State.report_steady
    | apply State.optionFailed_steady
    | apply State.flashKick_steady
    | apply State.optionWord_steady
    | apply SteadyR.next
    | split
    | dsimp only
    | intro _

theorem execFlashSuspend_steady {s : State} {u : State} (k : Steady s u)  :
    SteadyR s (execFlashSuspend u) := by
  unfold execFlashSuspend
  with_reducible repeat' first
    | assumption
    | apply steady_ite
    | apply steadyR_ite
    | apply State.modFls_steady
    | apply State.flashKick_steady
    | apply SteadyR.next
    | split
    | dsimp only
    | intro _

theorem execJournalCompaction_steady {s : State} {u : State} (k : Steady s u)  :
    SteadyR s (execJournalCompaction u) := by
  unfold execJournalCompaction
  with_reducible repeat' first
    | assumption
    | apply steady_ite
    | apply steadyR_ite
    | (intro x h; simp only [ExtS.canonical, Bool.and_eq_true] at h ⊢; (repeat' split) <;> (simp only [h, Tab.set_wf, Tab.mod_wf, Tab.put_wf, Tab.erase_wf, Tab.remap_wf, Tab.filter_wf, Tab.wf_nil, Tab.foldl_set_wf, Tab.foldl_mod_wf, loaded_wf, mergeActivity_wf, and_self]; done))
    | refine State.modExt_steady ?_ ?_ 
    | apply State.modFls_steady
    | apply SteadyR.next
    | split
    | dsimp only
    | intro _

theorem execUpdateBegin_steady {s : State} {u : State} (k : Steady s u) (a0) (a1) :
    SteadyR s (execUpdateBegin a0 a1 u) := by
  unfold execUpdateBegin
  with_reducible repeat' first
    | assumption
    | apply steady_ite
    | apply steadyR_ite
    | apply guarded_steady
    | apply accessed_steady
    | apply respondAccess_steady
    | apply State.updateOp_steady
    | apply SteadyR.next
    | split
    | dsimp only
    | intro _

theorem execImageSegment_steady {s : State} {u : State} (k : Steady s u) (a0) (a1) :
    SteadyR s (execImageSegment a0 a1 u) := by
  unfold execImageSegment
  with_reducible repeat' first
    | assumption
    | apply steady_ite
    | apply steadyR_ite
    | apply accessed_steady
    | apply respondAccess_steady
    | apply State.segmentOp_steady
    | apply SteadyR.next
    | split
    | dsimp only
    | intro _

theorem execActivate_steady {s : State} {u : State} (k : Steady s u) (a0) :
    SteadyR s (execActivate a0 u) := by
  unfold execActivate
  with_reducible repeat' first
    | assumption
    | apply steady_ite
    | apply steadyR_ite
    | apply State.restartInto_steady
    | apply guarded_steady
    | apply accessed_steady
    | apply respondAccess_steady
    | apply State.activateOp_steady
    | apply SteadyR.next
    | split
    | dsimp only
    | intro _

theorem execTrialConfirm_steady {s : State} {u : State} (k : Steady s u)  :
    SteadyR s (execTrialConfirm u) := by
  unfold execTrialConfirm
  with_reducible repeat' first
    | assumption
    | apply steady_ite
    | apply steadyR_ite
    | apply State.modImg_steady
    | apply State.storeWrite_steady
    | apply State.modImage_steady
    | apply SteadyR.next
    | split
    | dsimp only
    | intro _

theorem execPageWriteDone_steady {s : State} {u : State} (k : Steady s u) (a0) :
    SteadyR s (execPageWriteDone a0 u) := by
  unfold execPageWriteDone
  with_reducible repeat' first
    | assumption
    | apply steady_ite
    | apply steadyR_ite
    | apply State.countPages_steady
    | apply State.frontWrite_steady
    | apply State.pageFailed_steady
    | apply SteadyR.next
    | split
    | dsimp only
    | intro _

theorem execOperatingTimeCellWrite_steady {s : State} {u : State} (k : Steady s u)  :
    SteadyR s (execOperatingTimeCellWrite u) := by
  unfold execOperatingTimeCellWrite
  with_reducible repeat' first
    | assumption
    | apply steady_ite
    | apply steadyR_ite
    | apply State.modTim_steady
    | apply State.countPages_steady
    | apply SteadyR.next
    | split
    | dsimp only
    | intro _

theorem execStagingLoss_steady {s : State} {u : State} (k : Steady s u)  :
    SteadyR s (execStagingLoss u) := by
  unfold execStagingLoss
  with_reducible repeat' first
    | assumption
    | apply steady_ite
    | apply steadyR_ite
    | apply State.lossCheck_steady
    | apply SteadyR.next
    | split
    | dsimp only
    | intro _

theorem execAreaFClear_steady {s : State} {u : State} (k : Steady s u) (a0) :
    SteadyR s (execAreaFClear a0 u) := by
  unfold execAreaFClear
  with_reducible repeat' first
    | assumption
    | apply steady_ite
    | apply steadyR_ite
    | apply guarded_steady
    | apply accessed_steady
    | apply respondAccess_steady
    | apply State.clearFOp_steady
    | apply SteadyR.next
    | split
    | dsimp only
    | intro _

theorem execSnapshotDefinitionWrite_steady {s : State} {u : State} (k : Steady s u) (a0) (a1) (a2) (a3) :
    SteadyR s (execSnapshotDefinitionWrite a0 a1 a2 a3 u) := by
  unfold execSnapshotDefinitionWrite
  with_reducible repeat' first
    | assumption
    | apply steady_ite
    | apply steadyR_ite
    | apply accessed_steady
    | apply respondAccess_steady
    | apply State.snapOp_steady
    | apply SteadyR.next
    | split
    | dsimp only
    | intro _

theorem execSnapshotPeriodic_steady {s : State} {u : State} (k : Steady s u) (a0) :
    SteadyR s (execSnapshotPeriodic a0 u) := by
  unfold execSnapshotPeriodic
  with_reducible repeat' first
    | assumption
    | apply steady_ite
    | apply steadyR_ite
    | apply State.fire_steady
    | apply SteadyR.next
    | split
    | dsimp only
    | intro _

theorem execEraseMinimumRunEnd_steady {s : State} {u : State} (k : Steady s u)  :
    SteadyR s (execEraseMinimumRunEnd u) := by
  unfold execEraseMinimumRunEnd
  with_reducible repeat' first
    | assumption
    | apply steady_ite
    | apply steadyR_ite
    | apply State.modFls_steady
    | apply State.flashKick_steady
    | apply SteadyR.next
    | split
    | dsimp only
    | intro _

end Sys2Proof.Machine
end

