-- ==== Sys2Proof/Laws/SteadyPower.lean ====
section
/-! SUPPORT. What every operation and meaning leaves true (health, reset, power, thermal, bank, flush). -/

set_option Elab.async false

set_option linter.unusedTactic false
set_option linter.unreachableTactic false
set_option linter.unnecessarySeqFocus false
set_option linter.unusedSimpArgs false

namespace Sys2Proof.Machine

theorem State.corePowered_steady {s : State} {u : State} (k : Steady s u)  :
    Steady s (State.corePowered u) := by
  unfold State.corePowered
  with_reducible repeat' first
    | assumption
    | apply steady_ite
    | (intro x h; simp only [PowerS.canonical, Bool.and_eq_true] at h ⊢; (repeat' split) <;> (simp only [h, Tab.set_wf, Tab.mod_wf, Tab.put_wf, Tab.erase_wf, Tab.remap_wf, Tab.filter_wf, Tab.wf_nil, Tab.foldl_set_wf, Tab.foldl_mod_wf, loaded_wf, mergeActivity_wf, and_self]; done))
    | refine State.modPwr_steady ?_ ?_ 
    | apply State.modStr_steady
    | apply State.powerEvent_steady
    | apply State.startTime_steady
    | apply State.mapStep_steady
    | apply State.linksSync_steady
    | split
    | dsimp only
    | intro _

theorem State.seatTx_steady {s : State} {u : State} (k : Steady s u) (a0) :
    Steady s (State.seatTx a0 u) := by
  unfold State.seatTx
  with_reducible repeat' first
    | assumption
    | apply steady_ite
    | (intro x h; simp only [SeatBusS.canonical, Bool.and_eq_true] at h ⊢; (repeat' split) <;> (simp only [h, Tab.set_wf, Tab.mod_wf, Tab.put_wf, Tab.erase_wf, Tab.remap_wf, Tab.filter_wf, Tab.wf_nil, Tab.foldl_set_wf, Tab.foldl_mod_wf, loaded_wf, mergeActivity_wf, and_self]; done))
    | refine State.modSeat_steady ?_ ?_ 
    | split
    | dsimp only
    | intro _

theorem State.beginStep_steady {s : State} {u : State} (k : Steady s u) (a0) :
    Steady s (State.beginStep a0 u) := by
  unfold State.beginStep
  with_reducible repeat' first
    | assumption
    | apply steady_ite
    | (intro x h; simp only [PowerS.canonical, Bool.and_eq_true] at h ⊢; (repeat' split) <;> (simp only [h, Tab.set_wf, Tab.mod_wf, Tab.put_wf, Tab.erase_wf, Tab.remap_wf, Tab.filter_wf, Tab.wf_nil, Tab.foldl_set_wf, Tab.foldl_mod_wf, loaded_wf, mergeActivity_wf, and_self]; done))
    | refine State.modPwr_steady ?_ ?_ 
    | refine forEach_steady (fun _ _ _ => ?_) ?_ _
    | apply State.modDomain_steady
    | apply State.seatTx_steady
    | split
    | dsimp only
    | intro _

theorem State.advance_steady {s : State} {u : State} (k : Steady s u) (a0) :
    Steady s (State.advance a0 u) := by
  induction a0 generalizing u  with
  | zero =>
    unfold State.advance
    with_reducible repeat' first
      | assumption
      | apply steady_ite
      | (intro x h; simp only [PowerS.canonical, Bool.and_eq_true] at h ⊢; (repeat' split) <;> (simp only [h, Tab.set_wf, Tab.mod_wf, Tab.put_wf, Tab.erase_wf, Tab.remap_wf, Tab.filter_wf, Tab.wf_nil, Tab.foldl_set_wf, Tab.foldl_mod_wf, loaded_wf, mergeActivity_wf, and_self]; done))
      | refine State.modPwr_steady ?_ ?_ 
      | apply State.mediaBack_steady
      | apply State.corePowered_steady
      | apply State.beginStep_steady
      | split
      | dsimp only
      | intro _
  | succ _ ih =>
    unfold State.advance
    with_reducible repeat' first
      | assumption
      | apply steady_ite
      | (intro x h; simp only [PowerS.canonical, Bool.and_eq_true] at h ⊢; (repeat' split) <;> (simp only [h, Tab.set_wf, Tab.mod_wf, Tab.put_wf, Tab.erase_wf, Tab.remap_wf, Tab.filter_wf, Tab.wf_nil, Tab.foldl_set_wf, Tab.foldl_mod_wf, loaded_wf, mergeActivity_wf, and_self]; done))
      | refine State.modPwr_steady ?_ ?_ 
      | apply State.mediaBack_steady
      | apply State.corePowered_steady
      | apply State.beginStep_steady
      | refine ih ?_
      | split
      | dsimp only
      | intro _

theorem State.coreStart_steady {s : State} {u : State} (k : Steady s u)  :
    Steady s (State.coreStart u) := by
  unfold State.coreStart
  with_reducible repeat' first
    | assumption
    | apply steady_ite
    | (intro x h; simp only [PowerS.canonical, Bool.and_eq_true] at h ⊢; (repeat' split) <;> (simp only [h, Tab.set_wf, Tab.mod_wf, Tab.put_wf, Tab.erase_wf, Tab.remap_wf, Tab.filter_wf, Tab.wf_nil, Tab.foldl_set_wf, Tab.foldl_mod_wf, loaded_wf, mergeActivity_wf, and_self]; done))
    | refine State.modPwr_steady ?_ ?_ 
    | apply State.modEasy_steady
    | apply State.modBank_steady
    | apply State.modStr_steady
    | apply State.powerEvent_steady
    | apply State.advance_steady
    | split
    | dsimp only
    | intro _

theorem State.startSync_steady {s : State} {u : State} (k : Steady s u)  :
    Steady s (State.startSync u) := by
  unfold State.startSync
  with_reducible repeat' first
    | assumption
    | apply steady_ite
    | apply State.coreStart_steady
    | split
    | dsimp only
    | intro _

theorem State.inputEvent_steady {s : State} {u : State} (k : Steady s u)  :
    Steady s (State.inputEvent u) := by
  unfold State.inputEvent
  with_reducible repeat' first
    | assumption
    | apply steady_ite
    | apply State.report_steady
    | split
    | dsimp only
    | intro _

theorem State.inputReturns_steady {s : State} {u : State} (k : Steady s u)  :
    Steady s (State.inputReturns u) := by
  unfold State.inputReturns
  with_reducible repeat' first
    | assumption
    | apply steady_ite
    | (intro x h; simp only [PowerS.canonical, Bool.and_eq_true] at h ⊢; (repeat' split) <;> (simp only [h, Tab.set_wf, Tab.mod_wf, Tab.put_wf, Tab.erase_wf, Tab.remap_wf, Tab.filter_wf, Tab.wf_nil, Tab.foldl_set_wf, Tab.foldl_mod_wf, loaded_wf, mergeActivity_wf, and_self]; done))
    | refine State.modPwr_steady ?_ ?_ 
    | apply State.modBank_steady
    | apply State.powerEvent_steady
    | apply State.startSync_steady
    | apply State.inputEvent_steady
    | split
    | dsimp only
    | intro _

theorem State.inputRises_steady {s : State} {u : State} (k : Steady s u)  :
    Steady s (State.inputRises u) := by
  unfold State.inputRises
  with_reducible repeat' first
    | assumption
    | apply steady_ite
    | (intro x h; simp only [PowerS.canonical, Bool.and_eq_true] at h ⊢; (repeat' split) <;> (simp only [h, Tab.set_wf, Tab.mod_wf, Tab.put_wf, Tab.erase_wf, Tab.remap_wf, Tab.filter_wf, Tab.wf_nil, Tab.foldl_set_wf, Tab.foldl_mod_wf, loaded_wf, mergeActivity_wf, and_self]; done))
    | refine State.modPwr_steady ?_ ?_ 
    | apply State.inputReturns_steady
    | split
    | dsimp only
    | intro _

theorem State.startDown_steady {s : State} {u : State} (k : Steady s u) (a0) (a1) :
    Steady s (State.startDown a0 a1 u) := by
  unfold State.startDown
  with_reducible repeat' first
    | assumption
    | apply steady_ite
    | (intro x h; simp only [PowerS.canonical, Bool.and_eq_true] at h ⊢; (repeat' split) <;> (simp only [h, Tab.set_wf, Tab.mod_wf, Tab.put_wf, Tab.erase_wf, Tab.remap_wf, Tab.filter_wf, Tab.wf_nil, Tab.foldl_set_wf, Tab.foldl_mod_wf, loaded_wf, mergeActivity_wf, and_self]; done))
    | refine State.modPwr_steady ?_ ?_ 
    | split
    | dsimp only
    | intro _

theorem State.measure_steady {s : State} {u : State} (k : Steady s u) (a0) :
    Steady s (State.measure a0 u) := by
  unfold State.measure
  with_reducible repeat' first
    | assumption
    | apply steady_ite
    | apply State.modBank_steady
    | split
    | dsimp only
    | intro _

theorem State.measureSync_steady {s : State} {u : State} (k : Steady s u)  :
    Steady s (State.measureSync u) := by
  unfold State.measureSync
  with_reducible repeat' first
    | assumption
    | apply steady_ite
    | apply State.measure_steady
    | split
    | dsimp only
    | intro _

theorem State.afterFlush_steady {s : State} {u : State} (k : Steady s u)  :
    Steady s (State.afterFlush u) := by
  unfold State.afterFlush
  with_reducible repeat' first
    | assumption
    | apply steady_ite
    | apply State.easyCheck_steady
    | apply State.startDown_steady
    | apply State.measureSync_steady
    | split
    | dsimp only
    | intro _

theorem State.easyNext_steady {s : State} {u : State} (k : Steady s u)  :
    Steady s (State.easyNext u) := by
  unfold State.easyNext
  with_reducible repeat' first
    | assumption
    | apply steady_ite
    | apply State.afterFlush_steady
    | split
    | dsimp only
    | intro _

theorem State.pauseSync_steady {s : State} {u : State} (k : Steady s u)  :
    Steady s (State.pauseSync u) := by
  unfold State.pauseSync
  with_reducible repeat' first
    | assumption
    | apply steady_ite
    | (intro x h; simp only [PowerS.canonical, Bool.and_eq_true] at h ⊢; (repeat' split) <;> (simp only [h, Tab.set_wf, Tab.mod_wf, Tab.put_wf, Tab.erase_wf, Tab.remap_wf, Tab.filter_wf, Tab.wf_nil, Tab.foldl_set_wf, Tab.foldl_mod_wf, loaded_wf, mergeActivity_wf, and_self]; done))
    | refine State.modPwr_steady ?_ ?_ 
    | apply State.advance_steady
    | split
    | dsimp only
    | intro _

theorem State.reachT4_steady {s : State} {u : State} (k : Steady s u)  :
    Steady s (State.reachT4 u) := by
  unfold State.reachT4
  with_reducible repeat' first
    | assumption
    | apply steady_ite
    | apply State.easyEnter_steady
    | apply State.startDown_steady
    | apply State.easyNext_steady
    | apply State.pauseSync_steady
    | split
    | dsimp only
    | intro _

theorem State.answerWaiting_steady {s : State} {u : State} (k : Steady s u)  :
    Steady s (State.answerWaiting u) := by
  unfold State.answerWaiting
  with_reducible repeat' first
    | assumption
    | apply steady_ite
    | (intro x h; simp only [ObjS.canonical, Bool.and_eq_true] at h ⊢; (repeat' split) <;> (simp only [h, Tab.set_wf, Tab.mod_wf, Tab.put_wf, Tab.erase_wf, Tab.remap_wf, Tab.filter_wf, Tab.wf_nil, Tab.foldl_set_wf, Tab.foldl_mod_wf, loaded_wf, mergeActivity_wf, and_self]; done))
    | refine State.modObj_steady ?_ ?_ 
    | refine forEach_steady (fun _ _ _ => ?_) ?_ _
    | apply State.ticketDone_steady
    | apply State.respondTo_steady
    | split
    | dsimp only
    | intro _

theorem State.stopPlane_steady {s : State} {u : State} (k : Steady s u) (a0) (a1) :
    Steady s (State.stopPlane a0 a1 u) := by
  unfold State.stopPlane
  with_reducible repeat' first
    | assumption
    | apply steady_ite
    | refine forEach_steady (fun _ _ _ => ?_) ?_ _
    | apply State.modPlane_steady
    | apply State.destroy_steady
    | apply State.cutOff_steady
    | apply State.completeOp_steady
    | split
    | dsimp only
    | intro _

theorem State.stopPlanes_steady {s : State} {u : State} (k : Steady s u) (a0) :
    Steady s (State.stopPlanes a0 u) := by
  unfold State.stopPlanes
  with_reducible repeat' first
    | assumption
    | apply steady_ite
    | (intro x h; simp only [MediaS.canonical, Bool.and_eq_true] at h ⊢; (repeat' split) <;> (simp only [h, Tab.set_wf, Tab.mod_wf, Tab.put_wf, Tab.erase_wf, Tab.remap_wf, Tab.filter_wf, Tab.wf_nil, Tab.foldl_set_wf, Tab.foldl_mod_wf, loaded_wf, mergeActivity_wf, and_self]; done))
    | refine State.modMed_steady ?_ ?_ 
    | refine forEach_steady (fun _ _ _ => ?_) ?_ _
    | apply State.stopPlane_steady
    | split
    | dsimp only
    | intro _

theorem State.coreLost_steady {s : State} {u : State} (k : Steady s u) (a0) (a1) :
    Steady s (State.coreLost a0 a1 u) := by
  unfold State.coreLost
  with_reducible repeat' first
    | assumption
    | apply steady_ite
    | (intro x h; simp only [HostS.canonical, Bool.and_eq_true] at h ⊢; (repeat' split) <;> (simp only [h, Tab.set_wf, Tab.mod_wf, Tab.put_wf, Tab.erase_wf, Tab.remap_wf, Tab.filter_wf, Tab.wf_nil, Tab.foldl_set_wf, Tab.foldl_mod_wf, loaded_wf, mergeActivity_wf, and_self]; done))
    | (intro x h; simp only [StagingS.canonical, Bool.and_eq_true] at h ⊢; (repeat' split) <;> (simp only [h, Tab.set_wf, Tab.mod_wf, Tab.put_wf, Tab.erase_wf, Tab.remap_wf, Tab.filter_wf, Tab.wf_nil, Tab.foldl_set_wf, Tab.foldl_mod_wf, loaded_wf, mergeActivity_wf, and_self]; done))
    | (intro x h; simp only [ScrubS.canonical, Bool.and_eq_true] at h ⊢; (repeat' split) <;> (simp only [h, Tab.set_wf, Tab.mod_wf, Tab.put_wf, Tab.erase_wf, Tab.remap_wf, Tab.filter_wf, Tab.wf_nil, Tab.foldl_set_wf, Tab.foldl_mod_wf, loaded_wf, mergeActivity_wf, and_self]; done))
    | (intro x h; simp only [ExtS.canonical, Bool.and_eq_true] at h ⊢; (repeat' split) <;> (simp only [h, Tab.set_wf, Tab.mod_wf, Tab.put_wf, Tab.erase_wf, Tab.remap_wf, Tab.filter_wf, Tab.wf_nil, Tab.foldl_set_wf, Tab.foldl_mod_wf, loaded_wf, mergeActivity_wf, and_self]; done))
    | (intro x h; simp only [IntegS.canonical, Bool.and_eq_true] at h ⊢; (repeat' split) <;> (simp only [h, Tab.set_wf, Tab.mod_wf, Tab.put_wf, Tab.erase_wf, Tab.remap_wf, Tab.filter_wf, Tab.wf_nil, Tab.foldl_set_wf, Tab.foldl_mod_wf, loaded_wf, mergeActivity_wf, and_self]; done))
    | (intro x h; simp only [TractS.canonical, Bool.and_eq_true] at h ⊢; (repeat' split) <;> (simp only [h, Tab.set_wf, Tab.mod_wf, Tab.put_wf, Tab.erase_wf, Tab.remap_wf, Tab.filter_wf, Tab.wf_nil, Tab.foldl_set_wf, Tab.foldl_mod_wf, loaded_wf, mergeActivity_wf, and_self]; done))
    | (intro x h; simp only [MediaS.canonical, Bool.and_eq_true] at h ⊢; (repeat' split) <;> (simp only [h, Tab.set_wf, Tab.mod_wf, Tab.put_wf, Tab.erase_wf, Tab.remap_wf, Tab.filter_wf, Tab.wf_nil, Tab.foldl_set_wf, Tab.foldl_mod_wf, loaded_wf, mergeActivity_wf, and_self]; done))
    | (intro x; (try dsimp only); (repeat' split) <;> (simp only [Nat.le_refl]; done))
    | (intro x; dsimp only; omega)
    | (intro x h; simp only [WbS.canonical, Bool.and_eq_true] at h ⊢; (repeat' split) <;> (simp only [h, Tab.set_wf, Tab.mod_wf, Tab.put_wf, Tab.erase_wf, Tab.remap_wf, Tab.filter_wf, Tab.wf_nil, Tab.foldl_set_wf, Tab.foldl_mod_wf, loaded_wf, mergeActivity_wf, and_self]; done))
    | apply State.modRdp_steady
    | refine State.modWb_steady ?_ ?_ ?_ 
    | refine State.modMed_steady ?_ ?_ 
    | refine State.modTrc_steady ?_ ?_ 
    | refine State.modItg_steady ?_ ?_ 
    | refine State.modExt_steady ?_ ?_ 
    | refine State.modScr_steady ?_ ?_ 
    | refine State.modStg_steady ?_ ?_ 
    | refine State.modHst_steady ?_ ?_ 
    | apply State.modStr_steady
    | refine forEach_steady (fun _ _ _ => ?_) ?_ _
    | apply State.when_steady
    | apply State.answerWaiting_steady
    | apply State.stopPasses_steady
    | apply State.stopPlanes_steady
    | apply State.closeWindow_steady
    | split
    | dsimp only
    | intro _

theorem State.powerLost_steady {s : State} {u : State} (k : Steady s u)  :
    Steady s (State.powerLost u) := by
  unfold State.powerLost
  with_reducible repeat' first
    | assumption
    | apply steady_ite
    | (intro x h; simp only [PowerS.canonical, Bool.and_eq_true] at h ⊢; (repeat' split) <;> (simp only [h, Tab.set_wf, Tab.mod_wf, Tab.put_wf, Tab.erase_wf, Tab.remap_wf, Tab.filter_wf, Tab.wf_nil, Tab.foldl_set_wf, Tab.foldl_mod_wf, loaded_wf, mergeActivity_wf, and_self]; done))
    | apply State.modBank_steady
    | refine State.modPwr_steady ?_ ?_ 
    | apply State.modCox_steady
    | apply State.linksSync_steady
    | apply State.coreLost_steady
    | split
    | dsimp only
    | intro _

theorem execKeelTurnOff_steady {s : State} {u : State} (k : Steady s u)  :
    SteadyR s (execKeelTurnOff u) := by
  unfold execKeelTurnOff
  with_reducible repeat' first
    | assumption
    | apply steady_ite
    | apply steadyR_ite
    | (intro x h; simp only [PowerS.canonical, Bool.and_eq_true] at h ⊢; (repeat' split) <;> (simp only [h, Tab.set_wf, Tab.mod_wf, Tab.put_wf, Tab.erase_wf, Tab.remap_wf, Tab.filter_wf, Tab.wf_nil, Tab.foldl_set_wf, Tab.foldl_mod_wf, loaded_wf, mergeActivity_wf, and_self]; done))
    | refine State.modPwr_steady ?_ ?_ 
    | apply State.powerLost_steady
    | apply SteadyR.next
    | split
    | dsimp only
    | intro _

theorem State.keelReset_steady {s : State} {u : State} (k : Steady s u) (a0) :
    Steady s (State.keelReset a0 u) := by
  unfold State.keelReset
  with_reducible repeat' first
    | assumption
    | apply steady_ite
    | (intro x h; simp only [WopS.canonical, Bool.and_eq_true] at h ⊢; (repeat' split) <;> (simp only [h, Tab.set_wf, Tab.mod_wf, Tab.put_wf, Tab.erase_wf, Tab.remap_wf, Tab.filter_wf, Tab.wf_nil, Tab.foldl_set_wf, Tab.foldl_mod_wf, loaded_wf, mergeActivity_wf, and_self]; done))
    | (intro x h; simp only [TallyS.canonical, Bool.and_eq_true] at h ⊢; (repeat' split) <;> (simp only [h, Tab.set_wf, Tab.mod_wf, Tab.put_wf, Tab.erase_wf, Tab.remap_wf, Tab.filter_wf, Tab.wf_nil, Tab.foldl_set_wf, Tab.foldl_mod_wf, loaded_wf, mergeActivity_wf, and_self]; done))
    | (intro x h; simp only [LogS.canonical, Bool.and_eq_true] at h ⊢; (repeat' split) <;> (simp only [h, Tab.set_wf, Tab.mod_wf, Tab.put_wf, Tab.erase_wf, Tab.remap_wf, Tab.filter_wf, Tab.wf_nil, Tab.foldl_set_wf, Tab.foldl_mod_wf, loaded_wf, mergeActivity_wf, and_self]; done))
    | (intro x h; simp only [ParamS.canonical, Bool.and_eq_true] at h ⊢; (repeat' split) <;> (simp only [h, Tab.set_wf, Tab.mod_wf, Tab.put_wf, Tab.erase_wf, Tab.remap_wf, Tab.filter_wf, Tab.wf_nil, Tab.foldl_set_wf, Tab.foldl_mod_wf, loaded_wf, mergeActivity_wf, and_self]; done))
    | (intro h; exact h)
    | (intro h; (try split) <;> (simp only [List.length_append, List.length_cons, List.length_nil, List.length_tail]; first | assumption | omega))
    | (intro x h; simp only [FaultS.canonical, Bool.and_eq_true] at h ⊢; (repeat' split) <;> (simp only [h, Tab.set_wf, Tab.mod_wf, Tab.put_wf, Tab.erase_wf, Tab.remap_wf, Tab.filter_wf, Tab.wf_nil, Tab.foldl_set_wf, Tab.foldl_mod_wf, loaded_wf, mergeActivity_wf, and_self]; done))
    | (intro x h; simp only [StagingS.canonical, Bool.and_eq_true] at h ⊢; (repeat' split) <;> (simp only [h, Tab.set_wf, Tab.mod_wf, Tab.put_wf, Tab.erase_wf, Tab.remap_wf, Tab.filter_wf, Tab.wf_nil, Tab.foldl_set_wf, Tab.foldl_mod_wf, loaded_wf, mergeActivity_wf, and_self]; done))
    | (intro x h; simp only [ScrubS.canonical, Bool.and_eq_true] at h ⊢; (repeat' split) <;> (simp only [h, Tab.set_wf, Tab.mod_wf, Tab.put_wf, Tab.erase_wf, Tab.remap_wf, Tab.filter_wf, Tab.wf_nil, Tab.foldl_set_wf, Tab.foldl_mod_wf, loaded_wf, mergeActivity_wf, and_self]; done))
    | (intro x h; simp only [IntegS.canonical, Bool.and_eq_true] at h ⊢; (repeat' split) <;> (simp only [h, Tab.set_wf, Tab.mod_wf, Tab.put_wf, Tab.erase_wf, Tab.remap_wf, Tab.filter_wf, Tab.wf_nil, Tab.foldl_set_wf, Tab.foldl_mod_wf, loaded_wf, mergeActivity_wf, and_self]; done))
    | (intro x h; simp only [TractS.canonical, Bool.and_eq_true] at h ⊢; (repeat' split) <;> (simp only [h, Tab.set_wf, Tab.mod_wf, Tab.put_wf, Tab.erase_wf, Tab.remap_wf, Tab.filter_wf, Tab.wf_nil, Tab.foldl_set_wf, Tab.foldl_mod_wf, loaded_wf, mergeActivity_wf, and_self]; done))
    | (intro x h; simp only [MediaS.canonical, Bool.and_eq_true] at h ⊢; (repeat' split) <;> (simp only [h, Tab.set_wf, Tab.mod_wf, Tab.put_wf, Tab.erase_wf, Tab.remap_wf, Tab.filter_wf, Tab.wf_nil, Tab.foldl_set_wf, Tab.foldl_mod_wf, loaded_wf, mergeActivity_wf, and_self]; done))
    | (intro x; (try dsimp only); (repeat' split) <;> (simp only [Nat.le_refl]; done))
    | (intro x; dsimp only; omega)
    | (intro x h; simp only [WbS.canonical, Bool.and_eq_true] at h ⊢; (repeat' split) <;> (simp only [h, Tab.set_wf, Tab.mod_wf, Tab.put_wf, Tab.erase_wf, Tab.remap_wf, Tab.filter_wf, Tab.wf_nil, Tab.foldl_set_wf, Tab.foldl_mod_wf, loaded_wf, mergeActivity_wf, and_self]; done))
    | (intro x h; simp only [ExtS.canonical, Bool.and_eq_true] at h ⊢; (repeat' split) <;> (simp only [h, Tab.set_wf, Tab.mod_wf, Tab.put_wf, Tab.erase_wf, Tab.remap_wf, Tab.filter_wf, Tab.wf_nil, Tab.foldl_set_wf, Tab.foldl_mod_wf, loaded_wf, mergeActivity_wf, and_self]; done))
    | (intro x h; simp only [ThermS.canonical, Bool.and_eq_true] at h ⊢; (repeat' split) <;> (simp only [h, Tab.set_wf, Tab.mod_wf, Tab.put_wf, Tab.erase_wf, Tab.remap_wf, Tab.filter_wf, Tab.wf_nil, Tab.foldl_set_wf, Tab.foldl_mod_wf, loaded_wf, mergeActivity_wf, and_self]; done))
    | (intro x h; simp only [SeatBusS.canonical, Bool.and_eq_true] at h ⊢; (repeat' split) <;> (simp only [h, Tab.set_wf, Tab.mod_wf, Tab.put_wf, Tab.erase_wf, Tab.remap_wf, Tab.filter_wf, Tab.wf_nil, Tab.foldl_set_wf, Tab.foldl_mod_wf, loaded_wf, mergeActivity_wf, and_self]; done))
    | (intro x h; simp only [HostS.canonical, Bool.and_eq_true] at h ⊢; (repeat' split) <;> (simp only [h, Tab.set_wf, Tab.mod_wf, Tab.put_wf, Tab.erase_wf, Tab.remap_wf, Tab.filter_wf, Tab.wf_nil, Tab.foldl_set_wf, Tab.foldl_mod_wf, loaded_wf, mergeActivity_wf, and_self]; done))
    | (intro x h; simp only [PowerS.canonical, Bool.and_eq_true] at h ⊢; (repeat' split) <;> (simp only [h, Tab.set_wf, Tab.mod_wf, Tab.put_wf, Tab.erase_wf, Tab.remap_wf, Tab.filter_wf, Tab.wf_nil, Tab.foldl_set_wf, Tab.foldl_mod_wf, loaded_wf, mergeActivity_wf, and_self]; done))
    | (intro x h; simp only [ObjS.canonical, Bool.and_eq_true] at h ⊢; (repeat' split) <;> (simp only [h, Tab.set_wf, Tab.mod_wf, Tab.put_wf, Tab.erase_wf, Tab.remap_wf, Tab.filter_wf, Tab.wf_nil, Tab.foldl_set_wf, Tab.foldl_mod_wf, loaded_wf, mergeActivity_wf, and_self]; done))
    | apply State.modTim_steady
    | refine State.modObj_steady ?_ ?_ 
    | exact ObjS.afterReset_canonical
    | exact fun _ _ => State.hstAfter_canonical _
    | exact fun _ _ => State.pwrAfter_canonical _
    | refine State.modPwr_steady ?_ ?_ 
    | exact ObjS.afterReset_canonical
    | exact fun _ _ => State.hstAfter_canonical _
    | exact fun _ _ => State.pwrAfter_canonical _
    | refine State.modHst_steady ?_ ?_ 
    | exact ObjS.afterReset_canonical
    | exact fun _ _ => State.hstAfter_canonical _
    | exact fun _ _ => State.pwrAfter_canonical _
    | refine State.modSeat_steady ?_ ?_ 
    | exact ObjS.afterReset_canonical
    | exact fun _ _ => State.hstAfter_canonical _
    | exact fun _ _ => State.pwrAfter_canonical _
    | apply State.modBank_steady
    | refine State.modThm_steady ?_ ?_ 
    | exact ObjS.afterReset_canonical
    | exact fun _ _ => State.hstAfter_canonical _
    | exact fun _ _ => State.pwrAfter_canonical _
    | apply State.modHlt_steady
    | refine State.modExt_steady ?_ ?_ 
    | exact ObjS.afterReset_canonical
    | exact fun _ _ => State.hstAfter_canonical _
    | exact fun _ _ => State.pwrAfter_canonical _
    | apply State.modRdp_steady
    | refine State.modWb_steady ?_ ?_ ?_ 
    | exact ObjS.afterReset_canonical
    | exact fun _ _ => State.hstAfter_canonical _
    | exact fun _ _ => State.pwrAfter_canonical _
    | refine State.modMed_steady ?_ ?_ 
    | exact ObjS.afterReset_canonical
    | exact fun _ _ => State.hstAfter_canonical _
    | exact fun _ _ => State.pwrAfter_canonical _
    | refine State.modTrc_steady ?_ ?_ 
    | exact ObjS.afterReset_canonical
    | exact fun _ _ => State.hstAfter_canonical _
    | exact fun _ _ => State.pwrAfter_canonical _
    | refine State.modItg_steady ?_ ?_ 
    | exact ObjS.afterReset_canonical
    | exact fun _ _ => State.hstAfter_canonical _
    | exact fun _ _ => State.pwrAfter_canonical _
    | refine State.modScr_steady ?_ ?_ 
    | exact ObjS.afterReset_canonical
    | exact fun _ _ => State.hstAfter_canonical _
    | exact fun _ _ => State.pwrAfter_canonical _
    | refine State.modStg_steady ?_ ?_ 
    | exact ObjS.afterReset_canonical
    | exact fun _ _ => State.hstAfter_canonical _
    | exact fun _ _ => State.pwrAfter_canonical _
    | refine State.modFlt_steady ?_ ?_ ?_ 
    | exact ObjS.afterReset_canonical
    | exact fun _ _ => State.hstAfter_canonical _
    | exact fun _ _ => State.pwrAfter_canonical _
    | apply State.modEasy_steady
    | apply State.modStr_steady
    | apply State.modCox_steady
    | apply State.modImg_steady
    | refine State.modPar_steady ?_ ?_ 
    | exact ObjS.afterReset_canonical
    | exact fun _ _ => State.hstAfter_canonical _
    | exact fun _ _ => State.pwrAfter_canonical _
    | refine State.modLog_steady ?_ ?_ 
    | exact ObjS.afterReset_canonical
    | exact fun _ _ => State.hstAfter_canonical _
    | exact fun _ _ => State.pwrAfter_canonical _
    | refine State.modTly_steady ?_ ?_ 
    | exact ObjS.afterReset_canonical
    | exact fun _ _ => State.hstAfter_canonical _
    | exact fun _ _ => State.pwrAfter_canonical _
    | refine State.modWop_steady ?_ ?_ 
    | exact ObjS.afterReset_canonical
    | exact fun _ _ => State.hstAfter_canonical _
    | exact fun _ _ => State.pwrAfter_canonical _
    | apply State.when_steady
    | apply State.storeWrite_steady
    | apply State.cutFlash_steady
    | apply State.countPages_steady
    | split
    | dsimp only
    | intro _

theorem State.fullReset_steady {s : State} {u : State} (k : Steady s u)  :
    Steady s (State.fullReset u) := by
  unfold State.fullReset
  with_reducible repeat' first
    | assumption
    | apply steady_ite
    | apply State.keelReset_steady
    | apply State.writeOutSome_steady
    | split
    | dsimp only
    | intro _

theorem State.tryReset_steady {s : State} {u : State} (k : Steady s u)  :
    Steady s (State.tryReset u) := by
  unfold State.tryReset
  with_reducible repeat' first
    | assumption
    | apply steady_ite
    | apply State.fullReset_steady
    | split
    | dsimp only
    | intro _

theorem State.askReset_steady {s : State} {u : State} (k : Steady s u)  :
    Steady s (State.askReset u) := by
  unfold State.askReset
  with_reducible repeat' first
    | assumption
    | apply steady_ite
    | (intro x h; simp only [PowerS.canonical, Bool.and_eq_true] at h ⊢; (repeat' split) <;> (simp only [h, Tab.set_wf, Tab.mod_wf, Tab.put_wf, Tab.erase_wf, Tab.remap_wf, Tab.filter_wf, Tab.wf_nil, Tab.foldl_set_wf, Tab.foldl_mod_wf, loaded_wf, mergeActivity_wf, and_self]; done))
    | refine State.modPwr_steady ?_ ?_ 
    | apply State.easyBegin_steady
    | apply State.startDown_steady
    | apply State.tryReset_steady
    | split
    | dsimp only
    | intro _

theorem State.healthSync_steady {s : State} {u : State} (k : Steady s u)  :
    Steady s (State.healthSync u) := by
  unfold State.healthSync
  with_reducible repeat' first
    | assumption
    | apply steady_ite
    | apply State.modHlt_steady
    | refine forEach_steady (fun _ _ _ => ?_) ?_ _
    | apply State.headEvent_steady
    | split
    | dsimp only
    | intro _

theorem State.setLatch_steady {s : State} {u : State} (k : Steady s u) (a0) (a1) (a2) :
    Steady s (State.setLatch a0 a1 a2 u) := by
  unfold State.setLatch
  with_reducible repeat' first
    | assumption
    | apply steady_ite
    | (intro x h; simp only [PowerS.canonical, Bool.and_eq_true] at h ⊢; (repeat' split) <;> (simp only [h, Tab.set_wf, Tab.mod_wf, Tab.put_wf, Tab.erase_wf, Tab.remap_wf, Tab.filter_wf, Tab.wf_nil, Tab.foldl_set_wf, Tab.foldl_mod_wf, loaded_wf, mergeActivity_wf, and_self]; done))
    | refine State.modPwr_steady ?_ ?_ 
    | apply State.storeWrite_steady
    | apply State.powerEvent_steady
    | apply State.healthSync_steady
    | split
    | dsimp only
    | intro _

theorem State.haltSync_steady {s : State} {u : State} (k : Steady s u) (a0) :
    Steady s (State.haltSync a0 u) := by
  unfold State.haltSync
  with_reducible repeat' first
    | assumption
    | apply steady_ite
    | apply State.emit_steady
    | split
    | dsimp only
    | intro _

theorem State.wearFlush_steady {s : State} {u : State} (k : Steady s u)  :
    Steady s (State.wearFlush u) := by
  unfold State.wearFlush
  with_reducible repeat' first
    | assumption
    | apply steady_ite
    | (intro x h; simp only [TractS.canonical, Bool.and_eq_true] at h ⊢; (repeat' split) <;> (simp only [h, Tab.set_wf, Tab.mod_wf, Tab.put_wf, Tab.erase_wf, Tab.remap_wf, Tab.filter_wf, Tab.wf_nil, Tab.foldl_set_wf, Tab.foldl_mod_wf, loaded_wf, mergeActivity_wf, and_self]; done))
    | refine State.modTrc_steady ?_ ?_ 
    | refine forEach_steady (fun _ _ _ => ?_) ?_ _
    | apply State.modActivity_steady
    | apply State.endEpoch_steady
    | apply State.wearWriteback_steady
    | split
    | dsimp only
    | intro _

theorem State.finishPlane_steady {s : State} {u : State} (k : Steady s u) (a0) :
    Steady s (State.finishPlane a0 u) := by
  unfold State.finishPlane
  with_reducible repeat' first
    | assumption
    | apply steady_ite
    | refine forEach_steady (fun _ _ _ => ?_) ?_ _
    | apply State.wear_steady
    | apply State.modPlane_steady
    | apply State.completeOp_steady
    | split
    | dsimp only
    | intro _

theorem State.mediumIdle_steady {s : State} {u : State} (k : Steady s u)  :
    Steady s (State.mediumIdle u) := by
  unfold State.mediumIdle
  with_reducible repeat' first
    | assumption
    | apply steady_ite
    | (intro x h; simp only [MediaS.canonical, Bool.and_eq_true] at h ⊢; (repeat' split) <;> (simp only [h, Tab.set_wf, Tab.mod_wf, Tab.put_wf, Tab.erase_wf, Tab.remap_wf, Tab.filter_wf, Tab.wf_nil, Tab.foldl_set_wf, Tab.foldl_mod_wf, loaded_wf, mergeActivity_wf, and_self]; done))
    | refine State.modMed_steady ?_ ?_ 
    | refine forEach_steady (fun _ _ _ => ?_) ?_ _
    | apply State.migSync_steady
    | apply State.finishPlane_steady
    | split
    | dsimp only
    | intro _

theorem State.flushMigrations_steady {s : State} {u : State} (k : Steady s u)  :
    Steady s (State.flushMigrations u) := by
  unfold State.flushMigrations
  with_reducible repeat' first
    | assumption
    | apply steady_ite
    | refine forEach_steady (fun _ _ _ => ?_) ?_ _
    | apply State.abandon_steady
    | split
    | dsimp only
    | intro _

theorem State.flushEnd_steady {s : State} {u : State} (k : Steady s u)  :
    Steady s (State.flushEnd u) := by
  unfold State.flushEnd
  with_reducible repeat' first
    | assumption
    | apply steady_ite
    | (intro x; (try dsimp only); (repeat' split) <;> (simp only [Nat.le_refl]; done))
    | (intro x; dsimp only; omega)
    | (intro x h; simp only [WbS.canonical, Bool.and_eq_true] at h ⊢; (repeat' split) <;> (simp only [h, Tab.set_wf, Tab.mod_wf, Tab.put_wf, Tab.erase_wf, Tab.remap_wf, Tab.filter_wf, Tab.wf_nil, Tab.foldl_set_wf, Tab.foldl_mod_wf, loaded_wf, mergeActivity_wf, and_self]; done))
    | apply State.modEasy_steady
    | refine State.modWb_steady ?_ ?_ ?_ 
    | apply State.modBank_steady
    | apply State.when_steady
    | apply State.easySlots_steady
    | apply State.powerEvent_steady
    | apply State.afterFlush_steady
    | apply State.draw_steady
    | refine steady_snd_of_eq ‹State.draw _ = _› (State.draw_steady ?_)
    | apply State.wearFlush_steady
    | apply State.mediumIdle_steady
    | apply State.flushMigrations_steady
    | apply State.flushRecord_steady
    | apply State.recordClosing_steady
    | split
    | dsimp only
    | intro _

theorem State.measureEnd_steady {s : State} {u : State} (k : Steady s u) (a0) :
    Steady s (State.measureEnd a0 u) := by
  unfold State.measureEnd
  with_reducible repeat' first
    | assumption
    | apply steady_ite
    | apply State.modBank_steady
    | apply State.ticketDone_steady
    | split
    | dsimp only
    | intro _

theorem State.measured_steady {s : State} {u : State} (k : Steady s u) (a0) (a1) :
    Steady s (State.measured a0 a1 u) := by
  unfold State.measured
  with_reducible repeat' first
    | assumption
    | apply steady_ite
    | apply State.modBank_steady
    | apply State.modHlt_steady
    | apply State.storeWrite_steady
    | apply State.powerEvent_steady
    | split
    | dsimp only
    | intro _

theorem State.predict_steady {s : State} {u : State} (k : Steady s u)  :
    Steady s (State.predict u) := by
  unfold State.predict
  with_reducible repeat' first
    | assumption
    | apply steady_ite
    | apply State.modHlt_steady
    | split
    | dsimp only
    | intro _

theorem State.bankFail_steady {s : State} {u : State} (k : Steady s u)  :
    Steady s (State.bankFail u) := by
  unfold State.bankFail
  with_reducible repeat' first
    | assumption
    | apply steady_ite
    | apply State.modBank_steady
    | apply State.powerEvent_steady
    | apply State.report_steady
    | apply State.healthSync_steady
    | apply State.predict_steady
    | split
    | dsimp only
    | intro _

theorem State.refit_steady {s : State} {u : State} (k : Steady s u)  :
    Steady s (State.refit u) := by
  unfold State.refit
  with_reducible repeat' first
    | assumption
    | apply steady_ite
    | apply State.modHlt_steady
    | split
    | dsimp only
    | intro _

theorem execMeasurementComplete_steady {s : State} {u : State} (k : Steady s u) (a0) (a1) :
    SteadyR s (execMeasurementComplete a0 a1 u) := by
  unfold execMeasurementComplete
  with_reducible repeat' first
    | assumption
    | apply steady_ite
    | apply steadyR_ite
    | apply State.modBank_steady
    | apply State.healthSync_steady
    | apply State.measureEnd_steady
    | apply State.measured_steady
    | apply State.predict_steady
    | apply State.bankFail_steady
    | apply State.refit_steady
    | apply SteadyR.next
    | split
    | dsimp only
    | intro _

theorem State.marginOp_steady {s : State} {u : State} (k : Steady s u) (a0) (a1) (a2) :
    Steady s (State.marginOp a0 a1 a2 u).2.2 := by
  unfold State.marginOp
  with_reducible repeat' first
    | assumption
    | apply steady_ite
    | apply steady_ite_acc
    | apply State.manage_steady
    | apply State.powerEvent_steady
    | apply State.modDomain_steady
    | apply State.seatTx_steady
    | apply State.answer_steady
    | split
    | dsimp only
    | intro _

theorem State.ontoBank_steady {s : State} {u : State} (k : Steady s u)  :
    Steady s (State.ontoBank u) := by
  unfold State.ontoBank
  with_reducible repeat' first
    | assumption
    | apply steady_ite
    | (intro x h; simp only [PowerS.canonical, Bool.and_eq_true] at h ⊢; (repeat' split) <;> (simp only [h, Tab.set_wf, Tab.mod_wf, Tab.put_wf, Tab.erase_wf, Tab.remap_wf, Tab.filter_wf, Tab.wf_nil, Tab.foldl_set_wf, Tab.foldl_mod_wf, loaded_wf, mergeActivity_wf, and_self]; done))
    | apply State.modBank_steady
    | refine State.modPwr_steady ?_ ?_ 
    | apply State.measureEnd_steady
    | split
    | dsimp only
    | intro _

theorem State.switchOpens_steady {s : State} {u : State} (k : Steady s u)  :
    Steady s (State.switchOpens u) := by
  unfold State.switchOpens
  with_reducible repeat' first
    | assumption
    | apply steady_ite
    | (intro x h; simp only [PowerS.canonical, Bool.and_eq_true] at h ⊢; (repeat' split) <;> (simp only [h, Tab.set_wf, Tab.mod_wf, Tab.put_wf, Tab.erase_wf, Tab.remap_wf, Tab.filter_wf, Tab.wf_nil, Tab.foldl_set_wf, Tab.foldl_mod_wf, loaded_wf, mergeActivity_wf, and_self]; done))
    | refine State.modPwr_steady ?_ ?_ 
    | apply State.zeroMargins_steady
    | apply State.easyEnter_steady
    | apply State.startDown_steady
    | apply State.powerLost_steady
    | apply State.ontoBank_steady
    | split
    | dsimp only
    | intro _

theorem State.coreDown_steady {s : State} {u : State} (k : Steady s u)  :
    Steady s (State.coreDown u) := by
  unfold State.coreDown
  with_reducible repeat' first
    | assumption
    | apply steady_ite
    | apply State.modEasy_steady
    | apply State.startDown_steady
    | split
    | dsimp only
    | intro _

theorem State.haltRecognised_steady {s : State} {u : State} (k : Steady s u) (a0) :
    Steady s (State.haltRecognised a0 u) := by
  unfold State.haltRecognised
  with_reducible repeat' first
    | assumption
    | apply steady_ite
    | (intro x h; simp only [PowerS.canonical, Bool.and_eq_true] at h ⊢; (repeat' split) <;> (simp only [h, Tab.set_wf, Tab.mod_wf, Tab.put_wf, Tab.erase_wf, Tab.remap_wf, Tab.filter_wf, Tab.wf_nil, Tab.foldl_set_wf, Tab.foldl_mod_wf, loaded_wf, mergeActivity_wf, and_self]; done))
    | refine State.modPwr_steady ?_ ?_ 
    | apply State.storeWrite_steady
    | apply State.powerEvent_steady
    | apply State.easyEnter_steady
    | apply State.report_steady
    | apply State.coreDown_steady
    | split
    | dsimp only
    | intro _

theorem execHaltNLow_steady {s : State} {u : State} (k : Steady s u) (a0) (a1) :
    SteadyR s (execHaltNLow a0 a1 u) := by
  unfold execHaltNLow
  with_reducible repeat' first
    | assumption
    | apply steady_ite
    | apply steadyR_ite
    | (intro x h; simp only [PowerS.canonical, Bool.and_eq_true] at h ⊢; (repeat' split) <;> (simp only [h, Tab.set_wf, Tab.mod_wf, Tab.put_wf, Tab.erase_wf, Tab.remap_wf, Tab.filter_wf, Tab.wf_nil, Tab.foldl_set_wf, Tab.foldl_mod_wf, loaded_wf, mergeActivity_wf, and_self]; done))
    | refine State.modPwr_steady ?_ ?_ 
    | apply State.haltRecognised_steady
    | apply SteadyR.next
    | split
    | dsimp only
    | intro _

theorem execHealthRecompute_steady {s : State} {u : State} (k : Steady s u)  :
    SteadyR s (execHealthRecompute u) := by
  unfold execHealthRecompute
  with_reducible repeat' first
    | assumption
    | apply steady_ite
    | apply steadyR_ite
    | apply State.modHlt_steady
    | apply State.healthSync_steady
    | apply State.predict_steady
    | apply State.refit_steady
    | apply SteadyR.next
    | split
    | dsimp only
    | intro _

theorem execBankReadyTimeout_steady {s : State} {u : State} (k : Steady s u)  :
    SteadyR s (execBankReadyTimeout u) := by
  unfold execBankReadyTimeout
  with_reducible repeat' first
    | assumption
    | apply steady_ite
    | apply steadyR_ite
    | apply State.bankFail_steady
    | apply SteadyR.next
    | split
    | dsimp only
    | intro _

theorem execHaltNSwitchWrite_steady {s : State} {u : State} (k : Steady s u) (a0) :
    SteadyR s (execHaltNSwitchWrite a0 u) := by
  unfold execHaltNSwitchWrite
  with_reducible repeat' first
    | assumption
    | apply steady_ite
    | apply steadyR_ite
    | apply accessed_steady
    | apply respondAccess_steady
    | apply State.putObject_steady
    | apply SteadyR.next
    | split
    | dsimp only
    | intro _

theorem State.probeRail_steady {s : State} {u : State} (k : Steady s u) (a0) (a1) :
    Steady s (State.probeRail a0 a1 u) := by
  unfold State.probeRail
  with_reducible repeat' first
    | assumption
    | apply steady_ite
    | apply State.modDomain_steady
    | apply State.probeWaiting_steady
    | apply State.probeFailed_steady
    | split
    | dsimp only
    | intro _

theorem State.mediaRail_steady {s : State} {u : State} (k : Steady s u) (a0) :
    Steady s (State.mediaRail a0 u) := by
  unfold State.mediaRail
  with_reducible repeat' first
    | assumption
    | apply steady_ite
    | apply State.modDomain_steady
    | apply State.report_steady
    | apply State.advance_steady
    | apply State.reactionFence_steady
    | split
    | dsimp only
    | intro _

theorem State.seatFault_steady {s : State} {u : State} (k : Steady s u) (a0) (a1) (a2) :
    Steady s (State.seatFault a0 a1 a2 u) := by
  unfold State.seatFault
  with_reducible repeat' first
    | assumption
    | apply steady_ite
    | apply State.modSeatOf_steady
    | split
    | dsimp only
    | intro _

theorem State.pullHalt_steady {s : State} {u : State} (k : Steady s u) (a0) :
    Steady s (State.pullHalt a0 u) := by
  unfold State.pullHalt
  with_reducible repeat' first
    | assumption
    | apply steady_ite
    | apply State.haltSync_steady
    | apply State.driveHalt_steady
    | split
    | dsimp only
    | intro _

theorem State.comeUpFailure_steady {s : State} {u : State} (k : Steady s u) (a0) (a1) :
    Steady s (State.comeUpFailure a0 a1 u) := by
  unfold State.comeUpFailure
  with_reducible repeat' first
    | assumption
    | apply steady_ite
    | apply State.modDomain_steady
    | apply State.report_steady
    | apply State.startDown_steady
    | apply State.setLatch_steady
    | apply State.seatFault_steady
    | apply State.pullHalt_steady
    | split
    | dsimp only
    | intro _

theorem State.railUpFailed_steady {s : State} {u : State} (k : Steady s u) (a0) (a1) :
    Steady s (State.railUpFailed a0 a1 u) := by
  unfold State.railUpFailed
  with_reducible repeat' first
    | assumption
    | apply steady_ite
    | apply State.probeRail_steady
    | apply State.mediaRail_steady
    | apply State.comeUpFailure_steady
    | split
    | dsimp only
    | intro _

theorem execStepTimeout_steady {s : State} {u : State} (k : Steady s u)  :
    SteadyR s (execStepTimeout u) := by
  unfold execStepTimeout
  with_reducible repeat' first
    | assumption
    | apply steady_ite
    | apply steadyR_ite
    | apply State.railUpFailed_steady
    | apply SteadyR.next
    | split
    | dsimp only
    | intro _

theorem State.seatReply_steady {s : State} {u : State} (k : Steady s u) (a0) (a1) :
    Steady s (State.seatReply a0 a1 u) := by
  unfold State.seatReply
  with_reducible repeat' first
    | assumption
    | apply steady_ite
    | apply State.emit_steady
    | apply State.seatTx_steady
    | apply State.modSeatOf_steady
    | split
    | dsimp only
    | intro _

theorem State.seatAct_steady {s : State} {a2 : State → State} (ka2 : ∀  v, Steady s v → Steady s (a2  v)) {u : State} (k : Steady s u) (a0) (a1) :
    Steady s (State.seatAct a0 a1 a2 u) := by
  unfold State.seatAct
  with_reducible repeat' first
    | assumption
    | apply steady_ite
    | apply State.seatReply_steady
    | refine ka2  _ ?_
    | split
    | dsimp only
    | intro _

theorem execMargin_steady {s : State} {u : State} (k : Steady s u) (a0) (a1) (a2) :
    SteadyR s (execMargin a0 a1 a2 u) := by
  unfold execMargin
  with_reducible repeat' first
    | assumption
    | apply steady_ite
    | apply steadyR_ite
    | apply State.powerEvent_steady
    | apply State.modDomain_steady
    | apply State.seatAct_steady
    | apply SteadyR.next
    | split
    | dsimp only
    | intro _

theorem execExtestLoad_steady {s : State} {u : State} (k : Steady s u) (a0) :
    SteadyR s (execExtestLoad a0 u) := by
  unfold execExtestLoad
  with_reducible repeat' first
    | assumption
    | apply steady_ite
    | apply steadyR_ite
    | (intro x h; simp only [PowerS.canonical, Bool.and_eq_true] at h ⊢; (repeat' split) <;> (simp only [h, Tab.set_wf, Tab.mod_wf, Tab.put_wf, Tab.erase_wf, Tab.remap_wf, Tab.filter_wf, Tab.wf_nil, Tab.foldl_set_wf, Tab.foldl_mod_wf, loaded_wf, mergeActivity_wf, and_self]; done))
    | refine State.modPwr_steady ?_ ?_ 
    | apply State.emit_steady
    | apply State.security_steady
    | apply SteadyR.next
    | split
    | dsimp only
    | intro _

theorem execBankBelow41v_steady {s : State} {u : State} (k : Steady s u)  :
    SteadyR s (execBankBelow41v u) := by
  unfold execBankBelow41v
  with_reducible repeat' first
    | assumption
    | apply steady_ite
    | apply steadyR_ite
    | (intro x h; simp only [ParamS.canonical, Bool.and_eq_true] at h ⊢; (repeat' split) <;> (simp only [h, Tab.set_wf, Tab.mod_wf, Tab.put_wf, Tab.erase_wf, Tab.remap_wf, Tab.filter_wf, Tab.wf_nil, Tab.foldl_set_wf, Tab.foldl_mod_wf, loaded_wf, mergeActivity_wf, and_self]; done))
    | refine State.modPar_steady ?_ ?_ 
    | apply SteadyR.next
    | split
    | dsimp only
    | intro _

theorem State.easyIn_steady {s : State} {u : State} (k : Steady s u) (a0) :
    Steady s (State.easyIn a0 u) := by
  unfold State.easyIn
  with_reducible repeat' first
    | assumption
    | apply steady_ite
    | apply State.modEasy_steady
    | apply State.ticketDone_steady
    | apply State.easyEnter_steady
    | split
    | dsimp only
    | intro _

theorem State.easyOut_steady {s : State} {u : State} (k : Steady s u) (a0) :
    Steady s (State.easyOut a0 u) := by
  unfold State.easyOut
  with_reducible repeat' first
    | assumption
    | apply steady_ite
    | apply State.modEasy_steady
    | apply State.ticketDone_steady
    | apply State.easyCheck_steady
    | split
    | dsimp only
    | intro _

theorem State.easyOp_steady {s : State} {u : State} (k : Steady s u) (a0) (a1) :
    Steady s (State.easyOp a0 a1 u).2.2 := by
  unfold State.easyOp
  with_reducible repeat' first
    | assumption
    | apply steady_ite
    | apply steady_ite_acc
    | apply State.answer_steady
    | apply State.deferred_steady
    | apply State.easyIn_steady
    | apply State.easyOut_steady
    | split
    | dsimp only
    | intro _

theorem State.startAfterClear_steady {s : State} {u : State} (k : Steady s u)  :
    Steady s (State.startAfterClear u) := by
  unfold State.startAfterClear
  with_reducible repeat' first
    | assumption
    | apply steady_ite
    | apply State.coreStart_steady
    | split
    | dsimp only
    | intro _

theorem State.clearLatch_steady {s : State} {u : State} (k : Steady s u)  :
    Steady s (State.clearLatch u) := by
  unfold State.clearLatch
  with_reducible repeat' first
    | assumption
    | apply steady_ite
    | (intro x h; simp only [PowerS.canonical, Bool.and_eq_true] at h ⊢; (repeat' split) <;> (simp only [h, Tab.set_wf, Tab.mod_wf, Tab.put_wf, Tab.erase_wf, Tab.remap_wf, Tab.filter_wf, Tab.wf_nil, Tab.foldl_set_wf, Tab.foldl_mod_wf, loaded_wf, mergeActivity_wf, and_self]; done))
    | refine State.modPwr_steady ?_ ?_ 
    | apply State.storeWrite_steady
    | apply State.powerEvent_steady
    | apply State.healthSync_steady
    | split
    | dsimp only
    | intro _

theorem State.latchOp_steady {s : State} {u : State} (k : Steady s u) (a0) :
    Steady s (State.latchOp a0 u).2.2 := by
  unfold State.latchOp
  with_reducible repeat' first
    | assumption
    | apply steady_ite
    | apply steady_ite_acc
    | apply State.ticketDone_steady
    | apply State.deferred_steady
    | apply State.startAfterClear_steady
    | apply State.clearLatch_steady
    | split
    | dsimp only
    | intro _

theorem State.marginOnOp_steady {s : State} {u : State} (k : Steady s u) (a0) (a1) :
    Steady s (State.marginOnOp a0 a1 u).2.2 := by
  unfold State.marginOnOp
  with_reducible repeat' first
    | assumption
    | apply steady_ite
    | apply steady_ite_acc
    | (intro x h; simp only [PowerS.canonical, Bool.and_eq_true] at h ⊢; (repeat' split) <;> (simp only [h, Tab.set_wf, Tab.mod_wf, Tab.put_wf, Tab.erase_wf, Tab.remap_wf, Tab.filter_wf, Tab.wf_nil, Tab.foldl_set_wf, Tab.foldl_mod_wf, loaded_wf, mergeActivity_wf, and_self]; done))
    | refine State.modPwr_steady ?_ ?_ 
    | apply State.manage_steady
    | apply State.zeroMargins_steady
    | apply State.answer_steady
    | apply State.notifyObject_steady
    | split
    | dsimp only
    | intro _

theorem State.measureOp_steady {s : State} {u : State} (k : Steady s u) (a0) :
    Steady s (State.measureOp a0 u).2.2 := by
  unfold State.measureOp
  with_reducible repeat' first
    | assumption
    | apply steady_ite
    | apply steady_ite_acc
    | apply State.modBank_steady
    | apply State.ticketDone_steady
    | apply State.measureSync_steady
    | apply State.deferred_steady
    | split
    | dsimp only
    | intro _

theorem State.coreOnOp_steady {s : State} {u : State} (k : Steady s u) (a0) :
    Steady s (State.coreOnOp a0 u).2.2 := by
  unfold State.coreOnOp
  with_reducible repeat' first
    | assumption
    | apply steady_ite
    | apply steady_ite_acc
    | (intro x h; simp only [PowerS.canonical, Bool.and_eq_true] at h ⊢; (repeat' split) <;> (simp only [h, Tab.set_wf, Tab.mod_wf, Tab.put_wf, Tab.erase_wf, Tab.remap_wf, Tab.filter_wf, Tab.wf_nil, Tab.foldl_set_wf, Tab.foldl_mod_wf, loaded_wf, mergeActivity_wf, and_self]; done))
    | refine State.modPwr_steady ?_ ?_ 
    | apply State.manage_steady
    | apply State.coreStart_steady
    | apply State.answer_steady
    | apply State.notifyObject_steady
    | split
    | dsimp only
    | intro _

theorem State.coreOff_steady {s : State} {u : State} (k : Steady s u)  :
    Steady s (State.coreOff u) := by
  unfold State.coreOff
  with_reducible repeat' first
    | assumption
    | apply steady_ite
    | (intro x h; simp only [PowerS.canonical, Bool.and_eq_true] at h ⊢; (repeat' split) <;> (simp only [h, Tab.set_wf, Tab.mod_wf, Tab.put_wf, Tab.erase_wf, Tab.remap_wf, Tab.filter_wf, Tab.wf_nil, Tab.foldl_set_wf, Tab.foldl_mod_wf, loaded_wf, mergeActivity_wf, and_self]; done))
    | refine State.modPwr_steady ?_ ?_ 
    | apply State.easyEnter_steady
    | apply State.coreDown_steady
    | split
    | dsimp only
    | intro _

theorem State.coreOffOp_steady {s : State} {u : State} (k : Steady s u) (a0) :
    Steady s (State.coreOffOp a0 u).2.2 := by
  unfold State.coreOffOp
  with_reducible repeat' first
    | assumption
    | apply steady_ite
    | apply steady_ite_acc
    | apply State.manage_steady
    | apply State.answer_steady
    | apply State.notifyObject_steady
    | apply State.coreOff_steady
    | split
    | dsimp only
    | intro _

theorem State.setLimits_steady {s : State} {u : State} (k : Steady s u) (a0) (a1) :
    Steady s (State.setLimits a0 a1 u) := by
  unfold State.setLimits
  with_reducible repeat' first
    | assumption
    | apply steady_ite
    | (intro x h; simp only [ThermS.canonical, Bool.and_eq_true] at h ⊢; (repeat' split) <;> (simp only [h, Tab.set_wf, Tab.mod_wf, Tab.put_wf, Tab.erase_wf, Tab.remap_wf, Tab.filter_wf, Tab.wf_nil, Tab.foldl_set_wf, Tab.foldl_mod_wf, loaded_wf, mergeActivity_wf, and_self]; done))
    | refine State.modThm_steady ?_ ?_ 
    | split
    | dsimp only
    | intro _

theorem State.limitsOp_steady {s : State} {u : State} (k : Steady s u) (a0) (a1) (a2) (a3) :
    Steady s (State.limitsOp a0 a1 a2 a3 u).2.2 := by
  unfold State.limitsOp
  with_reducible repeat' first
    | assumption
    | apply steady_ite
    | apply steady_ite_acc
    | apply State.answer_steady
    | apply State.putRecord_steady
    | apply State.setLimits_steady
    | split
    | dsimp only
    | intro _

theorem State.resetOp_steady {s : State} {u : State} (k : Steady s u) (a0) (a1) :
    Steady s (State.resetOp a0 a1 u).2.2 := by
  unfold State.resetOp
  with_reducible repeat' first
    | assumption
    | apply steady_ite
    | apply steady_ite_acc
    | apply State.manage_steady
    | apply State.answer_steady
    | split
    | dsimp only
    | intro _

theorem execEasyAllEnterCommand_steady {s : State} {u : State} (k : Steady s u) (a0) :
    SteadyR s (execEasyAllEnterCommand a0 u) := by
  unfold execEasyAllEnterCommand
  with_reducible repeat' first
    | assumption
    | apply steady_ite
    | apply steadyR_ite
    | apply guarded_steady
    | apply accessed_steady
    | apply respondAccess_steady
    | apply State.easyOp_steady
    | apply SteadyR.next
    | split
    | dsimp only
    | intro _

theorem execLimitsWrite_steady {s : State} {u : State} (k : Steady s u) (a0) (a1) (a2) (a3) (a4) (a5) :
    SteadyR s (execLimitsWrite a0 a1 a2 a3 a4 a5 u) := by
  unfold execLimitsWrite
  with_reducible repeat' first
    | assumption
    | apply steady_ite
    | apply steadyR_ite
    | apply accessed_steady
    | apply respondAccess_steady
    | apply State.limitsOp_steady
    | apply SteadyR.next
    | split
    | dsimp only
    | intro _

theorem State.chanSync_steady {s : State} {u : State} (k : Steady s u) (a0) :
    Steady s (State.chanSync a0 u) := by
  unfold State.chanSync
  with_reducible repeat' first
    | assumption
    | apply steady_ite
    | apply State.modChannel_steady
    | split
    | dsimp only
    | intro _

theorem State.domainSync_steady {s : State} {u : State} (k : Steady s u) (a0) :
    Steady s (State.domainSync a0 u) := by
  unfold State.domainSync
  with_reducible repeat' first
    | assumption
    | apply steady_ite
    | refine forEach_steady (fun _ _ _ => ?_) ?_ _
    | apply State.modHead_steady
    | apply State.linksSync_steady
    | apply State.modSram_steady
    | apply State.chanSync_steady
    | split
    | dsimp only
    | intro _

theorem State.switchOff_steady {s : State} {u : State} (k : Steady s u) (a0) :
    Steady s (State.switchOff a0 u) := by
  unfold State.switchOff
  with_reducible repeat' first
    | assumption
    | apply steady_ite
    | refine forEach_steady (fun _ _ _ => ?_) ?_ _
    | apply State.powerEvent_steady
    | apply State.modDomain_steady
    | apply State.seatTx_steady
    | apply State.domainSync_steady
    | split
    | dsimp only
    | intro _

theorem State.mediaDown_steady {s : State} {u : State} (k : Steady s u)  :
    Steady s (State.mediaDown u) := by
  unfold State.mediaDown
  with_reducible repeat' first
    | assumption
    | apply steady_ite
    | (intro x h; simp only [PowerS.canonical, Bool.and_eq_true] at h ⊢; (repeat' split) <;> (simp only [h, Tab.set_wf, Tab.mod_wf, Tab.put_wf, Tab.erase_wf, Tab.remap_wf, Tab.filter_wf, Tab.wf_nil, Tab.foldl_set_wf, Tab.foldl_mod_wf, loaded_wf, mergeActivity_wf, and_self]; done))
    | refine State.modPwr_steady ?_ ?_ 
    | apply State.modEasy_steady
    | split
    | dsimp only
    | intro _

theorem State.releaseHalt_steady {s : State} {u : State} (k : Steady s u)  :
    Steady s (State.releaseHalt u) := by
  unfold State.releaseHalt
  with_reducible repeat' first
    | assumption
    | apply steady_ite
    | (intro x h; simp only [PowerS.canonical, Bool.and_eq_true] at h ⊢; (repeat' split) <;> (simp only [h, Tab.set_wf, Tab.mod_wf, Tab.put_wf, Tab.erase_wf, Tab.remap_wf, Tab.filter_wf, Tab.wf_nil, Tab.foldl_set_wf, Tab.foldl_mod_wf, loaded_wf, mergeActivity_wf, and_self]; done))
    | refine State.modPwr_steady ?_ ?_ 
    | apply State.seatTx_steady
    | apply State.haltSync_steady
    | split
    | dsimp only
    | intro _

theorem State.downDone_steady {s : State} {u : State} (k : Steady s u)  :
    Steady s (State.downDone u) := by
  unfold State.downDone
  with_reducible repeat' first
    | assumption
    | apply steady_ite
    | (intro x h; simp only [PowerS.canonical, Bool.and_eq_true] at h ⊢; (repeat' split) <;> (simp only [h, Tab.set_wf, Tab.mod_wf, Tab.put_wf, Tab.erase_wf, Tab.remap_wf, Tab.filter_wf, Tab.wf_nil, Tab.foldl_set_wf, Tab.foldl_mod_wf, loaded_wf, mergeActivity_wf, and_self]; done))
    | refine State.modPwr_steady ?_ ?_ 
    | apply State.modBank_steady
    | apply State.modEasy_steady
    | apply State.modStr_steady
    | apply State.easySlots_steady
    | apply State.powerEvent_steady
    | apply State.coreLost_steady
    | apply State.powerLost_steady
    | apply State.draw_steady
    | refine steady_snd_of_eq ‹State.draw _ = _› (State.draw_steady ?_)
    | apply State.tryReset_steady
    | apply State.measureEnd_steady
    | apply State.releaseHalt_steady
    | split
    | dsimp only
    | intro _

theorem State.downStep_steady {s : State} {u : State} (k : Steady s u)  :
    Steady s (State.downStep u) := by
  unfold State.downStep
  with_reducible repeat' first
    | assumption
    | apply steady_ite
    | (intro x h; simp only [PowerS.canonical, Bool.and_eq_true] at h ⊢; (repeat' split) <;> (simp only [h, Tab.set_wf, Tab.mod_wf, Tab.put_wf, Tab.erase_wf, Tab.remap_wf, Tab.filter_wf, Tab.wf_nil, Tab.foldl_set_wf, Tab.foldl_mod_wf, loaded_wf, mergeActivity_wf, and_self]; done))
    | refine State.modPwr_steady ?_ ?_ 
    | apply State.switchOff_steady
    | apply State.mediaDown_steady
    | apply State.downDone_steady
    | split
    | dsimp only
    | intro _

theorem execPowerDownStep_steady {s : State} {u : State} (k : Steady s u) (a0) :
    SteadyR s (execPowerDownStep a0 u) := by
  unfold execPowerDownStep
  with_reducible repeat' first
    | assumption
    | apply steady_ite
    | apply steadyR_ite
    | (intro x h; simp only [PowerS.canonical, Bool.and_eq_true] at h ⊢; (repeat' split) <;> (simp only [h, Tab.set_wf, Tab.mod_wf, Tab.put_wf, Tab.erase_wf, Tab.remap_wf, Tab.filter_wf, Tab.wf_nil, Tab.foldl_set_wf, Tab.foldl_mod_wf, loaded_wf, mergeActivity_wf, and_self]; done))
    | refine State.modPwr_steady ?_ ?_ 
    | apply State.downStep_steady
    | apply SteadyR.next
    | split
    | dsimp only
    | intro _

theorem execBankLowVoltage_steady {s : State} {u : State} (k : Steady s u) (a0) :
    SteadyR s (execBankLowVoltage a0 u) := by
  unfold execBankLowVoltage
  with_reducible repeat' first
    | assumption
    | apply steady_ite
    | apply steadyR_ite
    | apply State.modBank_steady
    | apply State.bankFail_steady
    | apply SteadyR.next
    | split
    | dsimp only
    | intro _

theorem execLatchClear_steady {s : State} {u : State} (k : Steady s u) (a0) :
    SteadyR s (execLatchClear a0 u) := by
  unfold execLatchClear
  with_reducible repeat' first
    | assumption
    | apply steady_ite
    | apply steadyR_ite
    | apply guarded_steady
    | apply accessed_steady
    | apply respondAccess_steady
    | apply State.latchOp_steady
    | apply SteadyR.next
    | split
    | dsimp only
    | intro _

theorem execFlushComplete_steady {s : State} {u : State} (k : Steady s u)  :
    SteadyR s (execFlushComplete u) := by
  unfold execFlushComplete
  with_reducible repeat' first
    | assumption
    | apply steady_ite
    | apply steadyR_ite
    | apply State.flushEnd_steady
    | apply SteadyR.next
    | split
    | dsimp only
    | intro _

theorem execInputLoss_steady {s : State} {u : State} (k : Steady s u)  :
    SteadyR s (execInputLoss u) := by
  unfold execInputLoss
  with_reducible repeat' first
    | assumption
    | apply steady_ite
    | apply steadyR_ite
    | (intro x h; simp only [PowerS.canonical, Bool.and_eq_true] at h ⊢; (repeat' split) <;> (simp only [h, Tab.set_wf, Tab.mod_wf, Tab.put_wf, Tab.erase_wf, Tab.remap_wf, Tab.filter_wf, Tab.wf_nil, Tab.foldl_set_wf, Tab.foldl_mod_wf, loaded_wf, mergeActivity_wf, and_self]; done))
    | refine State.modPwr_steady ?_ ?_ 
    | apply State.powerEvent_steady
    | apply State.inputEvent_steady
    | apply State.switchOpens_steady
    | apply SteadyR.next
    | split
    | dsimp only
    | intro _

theorem State.healthInfo_steady {s : State} {u : State} (k : Steady s u) (a0) :
    Steady s (State.healthInfo a0 u) := by
  unfold State.healthInfo
  with_reducible repeat' first
    | assumption
    | apply steady_ite
    | apply State.mbReturn_steady
    | split
    | dsimp only
    | intro _

theorem State.levelSync_steady {s : State} {u : State} (k : Steady s u) (a0) :
    Steady s (State.levelSync a0 u) := by
  unfold State.levelSync
  with_reducible repeat' first
    | assumption
    | apply steady_ite
    | (intro x h; simp only [ThermS.canonical, Bool.and_eq_true] at h ⊢; (repeat' split) <;> (simp only [h, Tab.set_wf, Tab.mod_wf, Tab.put_wf, Tab.erase_wf, Tab.remap_wf, Tab.filter_wf, Tab.wf_nil, Tab.foldl_set_wf, Tab.foldl_mod_wf, loaded_wf, mergeActivity_wf, and_self]; done))
    | refine State.modThm_steady ?_ ?_ 
    | apply State.headEvent_steady
    | apply State.boundSync_steady
    | apply State.fireWhere_steady
    | apply State.report_steady
    | apply State.measureSync_steady
    | apply State.pauseSync_steady
    | apply State.reachT4_steady
    | apply State.healthSync_steady
    | apply State.grantIdle_steady
    | split
    | dsimp only
    | intro _

theorem execLevelFall_steady {s : State} {u : State} (k : Steady s u) (a0) :
    SteadyR s (execLevelFall a0 u) := by
  unfold execLevelFall
  with_reducible repeat' first
    | assumption
    | apply steady_ite
    | apply steadyR_ite
    | apply State.modInput_steady
    | apply State.levelSync_steady
    | apply SteadyR.next
    | split
    | dsimp only
    | intro _

theorem execEasyAllLeaveCommand_steady {s : State} {u : State} (k : Steady s u) (a0) :
    SteadyR s (execEasyAllLeaveCommand a0 u) := by
  unfold execEasyAllLeaveCommand
  with_reducible repeat' first
    | assumption
    | apply steady_ite
    | apply steadyR_ite
    | apply guarded_steady
    | apply accessed_steady
    | apply respondAccess_steady
    | apply State.easyOp_steady
    | apply SteadyR.next
    | split
    | dsimp only
    | intro _

theorem execDomainOn_steady {s : State} {u : State} (k : Steady s u) (a0) (a1) :
    SteadyR s (execDomainOn a0 a1 u) := by
  unfold execDomainOn
  with_reducible repeat' first
    | assumption
    | apply steady_ite
    | apply steadyR_ite
    | apply State.modDomain_steady
    | apply State.seatAct_steady
    | apply SteadyR.next
    | split
    | dsimp only
    | intro _

theorem execKeelTurnOn_steady {s : State} {u : State} (k : Steady s u)  :
    SteadyR s (execKeelTurnOn u) := by
  unfold execKeelTurnOn
  with_reducible repeat' first
    | assumption
    | apply steady_ite
    | apply steadyR_ite
    | apply State.inputRises_steady
    | apply SteadyR.next
    | split
    | dsimp only
    | intro _

theorem execMeasureNow_steady {s : State} {u : State} (k : Steady s u) (a0) :
    SteadyR s (execMeasureNow a0 u) := by
  unfold execMeasureNow
  with_reducible repeat' first
    | assumption
    | apply steady_ite
    | apply steadyR_ite
    | apply guarded_steady
    | apply accessed_steady
    | apply respondAccess_steady
    | apply State.measureOp_steady
    | apply SteadyR.next
    | split
    | dsimp only
    | intro _

theorem execReadV_steady {s : State} {u : State} (k : Steady s u) (a0) (a1) :
    SteadyR s (execReadV a0 a1 u) := by
  unfold execReadV
  with_reducible repeat' first
    | assumption
    | apply steady_ite
    | apply steadyR_ite
    | apply State.seatReply_steady
    | apply SteadyR.next
    | split
    | dsimp only
    | intro _

theorem execBreakerLatchRelease_steady {s : State} {u : State} (k : Steady s u)  :
    SteadyR s (execBreakerLatchRelease u) := by
  unfold execBreakerLatchRelease
  with_reducible repeat' first
    | assumption
    | apply steady_ite
    | apply steadyR_ite
    | (intro x h; simp only [PowerS.canonical, Bool.and_eq_true] at h ⊢; (repeat' split) <;> (simp only [h, Tab.set_wf, Tab.mod_wf, Tab.put_wf, Tab.erase_wf, Tab.remap_wf, Tab.filter_wf, Tab.wf_nil, Tab.foldl_set_wf, Tab.foldl_mod_wf, loaded_wf, mergeActivity_wf, and_self]; done))
    | refine State.modPwr_steady ?_ ?_ 
    | apply SteadyR.next
    | split
    | dsimp only
    | intro _

theorem State.busFailure_steady {s : State} {u : State} (k : Steady s u) (a0) (a1) :
    Steady s (State.busFailure a0 a1 u) := by
  unfold State.busFailure
  with_reducible repeat' first
    | assumption
    | apply steady_ite
    | (intro x h; simp only [SeatBusS.canonical, Bool.and_eq_true] at h ⊢; (repeat' split) <;> (simp only [h, Tab.set_wf, Tab.mod_wf, Tab.put_wf, Tab.erase_wf, Tab.remap_wf, Tab.filter_wf, Tab.wf_nil, Tab.foldl_set_wf, Tab.foldl_mod_wf, loaded_wf, mergeActivity_wf, and_self]; done))
    | refine State.modSeat_steady ?_ ?_ 
    | apply State.report_steady
    | apply State.setLatch_steady
    | apply State.modSeatOf_steady
    | apply State.pullHalt_steady
    | split
    | dsimp only
    | intro _

theorem execSeatBusStuck_steady {s : State} {u : State} (k : Steady s u) (a0) :
    SteadyR s (execSeatBusStuck a0 u) := by
  unfold execSeatBusStuck
  with_reducible repeat' first
    | assumption
    | apply steady_ite
    | apply steadyR_ite
    | apply State.busFailure_steady
    | apply SteadyR.next
    | split
    | dsimp only
    | intro _

theorem execGetHealthInfo_steady {s : State} {u : State} (k : Steady s u) (a0) :
    SteadyR s (execGetHealthInfo a0 u) := by
  unfold execGetHealthInfo
  with_reducible repeat' first
    | assumption
    | apply steady_ite
    | apply steadyR_ite
    | apply mailboxed_steady
    | apply State.healthInfo_steady
    | apply SteadyR.next
    | split
    | dsimp only
    | intro _

theorem execT4ClearTimer_steady {s : State} {u : State} (k : Steady s u)  :
    SteadyR s (execT4ClearTimer u) := by
  unfold execT4ClearTimer
  with_reducible repeat' first
    | assumption
    | apply steady_ite
    | apply steadyR_ite
    | (intro x h; simp only [PowerS.canonical, Bool.and_eq_true] at h ⊢; (repeat' split) <;> (simp only [h, Tab.set_wf, Tab.mod_wf, Tab.put_wf, Tab.erase_wf, Tab.remap_wf, Tab.filter_wf, Tab.wf_nil, Tab.foldl_set_wf, Tab.foldl_mod_wf, loaded_wf, mergeActivity_wf, and_self]; done))
    | apply State.modEasy_steady
    | refine State.modPwr_steady ?_ ?_ 
    | apply State.easyCheck_steady
    | apply State.advance_steady
    | apply State.pauseSync_steady
    | apply SteadyR.next
    | split
    | dsimp only
    | intro _

theorem execOvervoltage_steady {s : State} {u : State} (k : Steady s u)  :
    SteadyR s (execOvervoltage u) := by
  unfold execOvervoltage
  with_reducible repeat' first
    | assumption
    | apply steady_ite
    | apply steadyR_ite
    | (intro x h; simp only [PowerS.canonical, Bool.and_eq_true] at h ⊢; (repeat' split) <;> (simp only [h, Tab.set_wf, Tab.mod_wf, Tab.put_wf, Tab.erase_wf, Tab.remap_wf, Tab.filter_wf, Tab.wf_nil, Tab.foldl_set_wf, Tab.foldl_mod_wf, loaded_wf, mergeActivity_wf, and_self]; done))
    | refine State.modPwr_steady ?_ ?_ 
    | apply State.powerEvent_steady
    | apply State.inputEvent_steady
    | apply State.switchOpens_steady
    | apply SteadyR.next
    | split
    | dsimp only
    | intro _

theorem execOvervoltageClear_steady {s : State} {u : State} (k : Steady s u)  :
    SteadyR s (execOvervoltageClear u) := by
  unfold execOvervoltageClear
  with_reducible repeat' first
    | assumption
    | apply steady_ite
    | apply steadyR_ite
    | (intro x h; simp only [PowerS.canonical, Bool.and_eq_true] at h ⊢; (repeat' split) <;> (simp only [h, Tab.set_wf, Tab.mod_wf, Tab.put_wf, Tab.erase_wf, Tab.remap_wf, Tab.filter_wf, Tab.wf_nil, Tab.foldl_set_wf, Tab.foldl_mod_wf, loaded_wf, mergeActivity_wf, and_self]; done))
    | refine State.modPwr_steady ?_ ?_ 
    | apply State.inputReturns_steady
    | apply SteadyR.next
    | split
    | dsimp only
    | intro _

theorem execBreakerTrip_steady {s : State} {u : State} (k : Steady s u)  :
    SteadyR s (execBreakerTrip u) := by
  unfold execBreakerTrip
  with_reducible repeat' first
    | assumption
    | apply steady_ite
    | apply steadyR_ite
    | (intro x h; simp only [PowerS.canonical, Bool.and_eq_true] at h ⊢; (repeat' split) <;> (simp only [h, Tab.set_wf, Tab.mod_wf, Tab.put_wf, Tab.erase_wf, Tab.remap_wf, Tab.filter_wf, Tab.wf_nil, Tab.foldl_set_wf, Tab.foldl_mod_wf, loaded_wf, mergeActivity_wf, and_self]; done))
    | refine State.modPwr_steady ?_ ?_ 
    | apply State.powerEvent_steady
    | apply State.inputEvent_steady
    | apply State.switchOpens_steady
    | apply SteadyR.next
    | split
    | dsimp only
    | intro _

theorem execBladePairImbalance_steady {s : State} {u : State} (k : Steady s u) (a0) (a1) :
    SteadyR s (execBladePairImbalance a0 a1 u) := by
  unfold execBladePairImbalance
  with_reducible repeat' first
    | assumption
    | apply steady_ite
    | apply steadyR_ite
    | (intro x h; simp only [PowerS.canonical, Bool.and_eq_true] at h ⊢; (repeat' split) <;> (simp only [h, Tab.set_wf, Tab.mod_wf, Tab.put_wf, Tab.erase_wf, Tab.remap_wf, Tab.filter_wf, Tab.wf_nil, Tab.foldl_set_wf, Tab.foldl_mod_wf, loaded_wf, mergeActivity_wf, and_self]; done))
    | refine State.modPwr_steady ?_ ?_ 
    | apply State.report_steady
    | apply SteadyR.next
    | split
    | dsimp only
    | intro _

theorem execInputGoodAgain_steady {s : State} {u : State} (k : Steady s u)  :
    SteadyR s (execInputGoodAgain u) := by
  unfold execInputGoodAgain
  with_reducible repeat' first
    | assumption
    | apply steady_ite
    | apply steadyR_ite
    | apply State.inputRises_steady
    | apply SteadyR.next
    | split
    | dsimp only
    | intro _

theorem State.pinsNow_steady {s : State} {u : State} (k : Steady s u) (a0) :
    Steady s (State.pinsNow a0 u) := by
  unfold State.pinsNow
  with_reducible repeat' first
    | assumption
    | apply steady_ite
    | (intro x h; simp only [PowerS.canonical, Bool.and_eq_true] at h ⊢; (repeat' split) <;> (simp only [h, Tab.set_wf, Tab.mod_wf, Tab.put_wf, Tab.erase_wf, Tab.remap_wf, Tab.filter_wf, Tab.wf_nil, Tab.foldl_set_wf, Tab.foldl_mod_wf, loaded_wf, mergeActivity_wf, and_self]; done))
    | refine State.modPwr_steady ?_ ?_ 
    | split
    | dsimp only
    | intro _

theorem execInputGoodResetTimer_steady {s : State} {u : State} (k : Steady s u) (a0) :
    SteadyR s (execInputGoodResetTimer a0 u) := by
  unfold execInputGoodResetTimer
  with_reducible repeat' first
    | assumption
    | apply steady_ite
    | apply steadyR_ite
    | (intro x h; simp only [PowerS.canonical, Bool.and_eq_true] at h ⊢; (repeat' split) <;> (simp only [h, Tab.set_wf, Tab.mod_wf, Tab.put_wf, Tab.erase_wf, Tab.remap_wf, Tab.filter_wf, Tab.wf_nil, Tab.foldl_set_wf, Tab.foldl_mod_wf, loaded_wf, mergeActivity_wf, and_self]; done))
    | refine State.modPwr_steady ?_ ?_ 
    | apply State.startDown_steady
    | apply State.tryReset_steady
    | apply State.pinsNow_steady
    | apply SteadyR.next
    | split
    | dsimp only
    | intro _

theorem execBankBelow40v_steady {s : State} {u : State} (k : Steady s u)  :
    SteadyR s (execBankBelow40v u) := by
  unfold execBankBelow40v
  with_reducible repeat' first
    | assumption
    | apply steady_ite
    | apply steadyR_ite
    | apply State.powerLost_steady
    | apply SteadyR.next
    | split
    | dsimp only
    | intro _

theorem execCorePowerOffRequest_steady {s : State} {u : State} (k : Steady s u)  :
    SteadyR s (execCorePowerOffRequest u) := by
  unfold execCorePowerOffRequest
  with_reducible repeat' first
    | assumption
    | apply steady_ite
    | apply steadyR_ite
    | apply accessed_steady
    | apply respondAccess_steady
    | apply State.coreOffOp_steady
    | apply SteadyR.next
    | split
    | dsimp only
    | intro _

theorem execCorePowerOnRequest_steady {s : State} {u : State} (k : Steady s u)  :
    SteadyR s (execCorePowerOnRequest u) := by
  unfold execCorePowerOnRequest
  with_reducible repeat' first
    | assumption
    | apply steady_ite
    | apply steadyR_ite
    | apply accessed_steady
    | apply respondAccess_steady
    | apply State.coreOnOp_steady
    | apply SteadyR.next
    | split
    | dsimp only
    | intro _

theorem execGaSample_steady {s : State} {u : State} (k : Steady s u) (a0) :
    SteadyR s (execGaSample a0 u) := by
  unfold execGaSample
  with_reducible repeat' first
    | assumption
    | apply steady_ite
    | apply steadyR_ite
    | (intro x h; simp only [PowerS.canonical, Bool.and_eq_true] at h ⊢; (repeat' split) <;> (simp only [h, Tab.set_wf, Tab.mod_wf, Tab.put_wf, Tab.erase_wf, Tab.remap_wf, Tab.filter_wf, Tab.wf_nil, Tab.foldl_set_wf, Tab.foldl_mod_wf, loaded_wf, mergeActivity_wf, and_self]; done))
    | refine State.modPwr_steady ?_ ?_ 
    | apply State.report_steady
    | apply State.notifyObject_steady
    | apply SteadyR.next
    | split
    | dsimp only
    | intro _

theorem execModrstAssert_steady {s : State} {u : State} (k : Steady s u) (a0) (a1) :
    SteadyR s (execModrstAssert a0 a1 u) := by
  unfold execModrstAssert
  with_reducible repeat' first
    | assumption
    | apply steady_ite
    | apply steadyR_ite
    | (intro x h; simp only [PowerS.canonical, Bool.and_eq_true] at h ⊢; (repeat' split) <;> (simp only [h, Tab.set_wf, Tab.mod_wf, Tab.put_wf, Tab.erase_wf, Tab.remap_wf, Tab.filter_wf, Tab.wf_nil, Tab.foldl_set_wf, Tab.foldl_mod_wf, loaded_wf, mergeActivity_wf, and_self]; done))
    | refine State.modPwr_steady ?_ ?_ 
    | apply State.draw_steady
    | refine steady_snd_of_eq ‹State.draw _ = _› (State.draw_steady ?_)
    | apply State.askReset_steady
    | apply State.pinsNow_steady
    | apply SteadyR.next
    | split
    | dsimp only
    | intro _

theorem execModrstRelease_steady {s : State} {u : State} (k : Steady s u) (a0) :
    SteadyR s (execModrstRelease a0 u) := by
  unfold execModrstRelease
  with_reducible repeat' first
    | assumption
    | apply steady_ite
    | apply steadyR_ite
    | (intro x h; simp only [PowerS.canonical, Bool.and_eq_true] at h ⊢; (repeat' split) <;> (simp only [h, Tab.set_wf, Tab.mod_wf, Tab.put_wf, Tab.erase_wf, Tab.remap_wf, Tab.filter_wf, Tab.wf_nil, Tab.foldl_set_wf, Tab.foldl_mod_wf, loaded_wf, mergeActivity_wf, and_self]; done))
    | refine State.modPwr_steady ?_ ?_ 
    | apply State.tryReset_steady
    | apply State.pinsNow_steady
    | apply SteadyR.next
    | split
    | dsimp only
    | intro _

theorem execModuleReset_steady {s : State} {u : State} (k : Steady s u) (a0) (a1) (a2) :
    SteadyR s (execModuleReset a0 a1 a2 u) := by
  unfold execModuleReset
  with_reducible repeat' first
    | assumption
    | apply steady_ite
    | apply steadyR_ite
    | apply State.askReset_steady
    | apply guarded_steady
    | apply accessed_steady
    | apply respondAccess_steady
    | apply State.resetOp_steady
    | apply State.pinsNow_steady
    | apply SteadyR.next
    | split
    | dsimp only
    | intro _

theorem execKeelRailsQualified_steady {s : State} {u : State} (k : Steady s u) (a0) (a1) (a2) :
    SteadyR s (execKeelRailsQualified a0 a1 a2 u) := by
  unfold execKeelRailsQualified
  with_reducible repeat' first
    | assumption
    | apply steady_ite
    | apply steadyR_ite
    | apply State.modTim_steady
    | apply State.keelReset_steady
    | apply State.pinsNow_steady
    | apply SteadyR.next
    | split
    | dsimp only
    | intro _

theorem execKeelRailRetry_steady {s : State} {u : State} (k : Steady s u)  :
    SteadyR s (execKeelRailRetry u) := by
  unfold execKeelRailRetry
  with_reducible repeat' first
    | assumption
    | apply steady_ite
    | apply steadyR_ite
    | apply SteadyR.next
    | split
    | dsimp only
    | intro _

theorem execDomainQualified_steady {s : State} {u : State} (k : Steady s u) (a0) (a1) :
    SteadyR s (execDomainQualified a0 a1 u) := by
  unfold execDomainQualified
  with_reducible repeat' first
    | assumption
    | apply steady_ite
    | apply steadyR_ite
    | apply State.modDomain_steady
    | apply State.report_steady
    | apply State.advance_steady
    | apply State.railUpFailed_steady
    | apply State.domainSync_steady
    | apply SteadyR.next
    | split
    | dsimp only
    | intro _

theorem State.railGone_steady {s : State} {u : State} (k : Steady s u) (a0) :
    Steady s (State.railGone a0 u) := by
  unfold State.railGone
  with_reducible repeat' first
    | assumption
    | apply steady_ite
    | (intro x; (try dsimp only); (repeat' split) <;> (simp only [Nat.le_refl]; done))
    | (intro x; dsimp only; omega)
    | (intro x h; simp only [WbS.canonical, Bool.and_eq_true] at h ⊢; (repeat' split) <;> (simp only [h, Tab.set_wf, Tab.mod_wf, Tab.put_wf, Tab.erase_wf, Tab.remap_wf, Tab.filter_wf, Tab.wf_nil, Tab.foldl_set_wf, Tab.foldl_mod_wf, loaded_wf, mergeActivity_wf, and_self]; done))
    | refine State.modWb_steady ?_ ?_ ?_ 
    | refine forEach_steady (fun _ _ _ => ?_) ?_ _
    | apply State.reactionFence_steady
    | apply State.domainSync_steady
    | split
    | dsimp only
    | intro _

theorem execRailFailure_steady {s : State} {u : State} (k : Steady s u) (a0) (a1) :
    SteadyR s (execRailFailure a0 a1 u) := by
  unfold execRailFailure
  with_reducible repeat' first
    | assumption
    | apply steady_ite
    | apply steadyR_ite
    | apply State.modDomain_steady
    | apply State.report_steady
    | apply State.setLatch_steady
    | apply State.mediaRail_steady
    | apply State.seatFault_steady
    | apply State.pullHalt_steady
    | apply State.railGone_steady
    | apply SteadyR.next
    | split
    | dsimp only
    | intro _

theorem execPowerGoodDrop_steady {s : State} {u : State} (k : Steady s u) (a0) (a1) :
    SteadyR s (execPowerGoodDrop a0 a1 u) := by
  unfold execPowerGoodDrop
  with_reducible repeat' first
    | assumption
    | apply steady_ite
    | apply steadyR_ite
    | (intro x h; simp only [PowerS.canonical, Bool.and_eq_true] at h ⊢; (repeat' split) <;> (simp only [h, Tab.set_wf, Tab.mod_wf, Tab.put_wf, Tab.erase_wf, Tab.remap_wf, Tab.filter_wf, Tab.wf_nil, Tab.foldl_set_wf, Tab.foldl_mod_wf, loaded_wf, mergeActivity_wf, and_self]; done))
    | refine State.modPwr_steady ?_ ?_ 
    | apply State.modDomain_steady
    | apply State.report_steady
    | apply State.railUpFailed_steady
    | apply execRailFailure_steady
    | apply SteadyR.next
    | split
    | dsimp only
    | intro _

theorem execRailFailToFall_steady {s : State} {u : State} (k : Steady s u) (a0) (a1) :
    SteadyR s (execRailFailToFall a0 a1 u) := by
  unfold execRailFailToFall
  with_reducible repeat' first
    | assumption
    | apply steady_ite
    | apply steadyR_ite
    | apply State.report_steady
    | apply State.setLatch_steady
    | apply State.seatFault_steady
    | apply State.pullHalt_steady
    | apply SteadyR.next
    | split
    | dsimp only
    | intro _

theorem execSeatPingTimer_steady {s : State} {u : State} (k : Steady s u)  :
    SteadyR s (execSeatPingTimer u) := by
  unfold execSeatPingTimer
  with_reducible repeat' first
    | assumption
    | apply steady_ite
    | apply steadyR_ite
    | refine forEach_steady (fun _ _ _ => ?_) ?_ _
    | apply State.seatTx_steady
    | apply State.modSeatOf_steady
    | apply SteadyR.next
    | split
    | dsimp only
    | intro _

theorem execDomainStatusPoll_steady {s : State} {u : State} (k : Steady s u)  :
    SteadyR s (execDomainStatusPoll u) := by
  unfold execDomainStatusPoll
  with_reducible repeat' first
    | assumption
    | apply steady_ite
    | apply steadyR_ite
    | apply State.seatTx_steady
    | apply SteadyR.next
    | split
    | dsimp only
    | intro _

theorem execSeatBusFailure_steady {s : State} {u : State} (k : Steady s u) (a0) (a1) :
    SteadyR s (execSeatBusFailure a0 a1 u) := by
  unfold execSeatBusFailure
  with_reducible repeat' first
    | assumption
    | apply steady_ite
    | apply steadyR_ite
    | apply State.busFailure_steady
    | apply SteadyR.next
    | split
    | dsimp only
    | intro _

theorem execPing_steady {s : State} {u : State} (k : Steady s u) (a0) :
    SteadyR s (execPing a0 u) := by
  unfold execPing
  with_reducible repeat' first
    | assumption
    | apply steady_ite
    | apply steadyR_ite
    | apply State.seatReply_steady
    | apply SteadyR.next
    | split
    | dsimp only
    | intro _

theorem execDomainOff_steady {s : State} {u : State} (k : Steady s u) (a0) (a1) :
    SteadyR s (execDomainOff a0 a1 u) := by
  unfold execDomainOff
  with_reducible repeat' first
    | assumption
    | apply steady_ite
    | apply steadyR_ite
    | apply State.powerEvent_steady
    | apply State.modDomain_steady
    | apply State.seatAct_steady
    | apply State.domainSync_steady
    | apply SteadyR.next
    | split
    | dsimp only
    | intro _

theorem execDomainStatus_steady {s : State} {u : State} (k : Steady s u) (a0) (a1) :
    SteadyR s (execDomainStatus a0 a1 u) := by
  unfold execDomainStatus
  with_reducible repeat' first
    | assumption
    | apply steady_ite
    | apply steadyR_ite
    | apply State.seatReply_steady
    | apply SteadyR.next
    | split
    | dsimp only
    | intro _

theorem execReadI_steady {s : State} {u : State} (k : Steady s u) (a0) (a1) :
    SteadyR s (execReadI a0 a1 u) := by
  unfold execReadI
  with_reducible repeat' first
    | assumption
    | apply steady_ite
    | apply steadyR_ite
    | apply State.seatReply_steady
    | apply SteadyR.next
    | split
    | dsimp only
    | intro _

theorem execCharger_steady {s : State} {u : State} (k : Steady s u) (a0) (a1) :
    SteadyR s (execCharger a0 a1 u) := by
  unfold execCharger
  with_reducible repeat' first
    | assumption
    | apply steady_ite
    | apply steadyR_ite
    | apply State.modBank_steady
    | apply State.seatAct_steady
    | apply SteadyR.next
    | split
    | dsimp only
    | intro _

theorem execCapMeasure_steady {s : State} {u : State} (k : Steady s u) (a0) :
    SteadyR s (execCapMeasure a0 u) := by
  unfold execCapMeasure
  with_reducible repeat' first
    | assumption
    | apply steady_ite
    | apply steadyR_ite
    | apply State.measure_steady
    | apply State.seatAct_steady
    | apply SteadyR.next
    | split
    | dsimp only
    | intro _

theorem execCapResult_steady {s : State} {u : State} (k : Steady s u) (a0) :
    SteadyR s (execCapResult a0 u) := by
  unfold execCapResult
  with_reducible repeat' first
    | assumption
    | apply steady_ite
    | apply steadyR_ite
    | apply State.seatReply_steady
    | apply SteadyR.next
    | split
    | dsimp only
    | intro _

theorem execHaltRelease_steady {s : State} {u : State} (k : Steady s u) (a0) :
    SteadyR s (execHaltRelease a0 u) := by
  unfold execHaltRelease
  with_reducible repeat' first
    | assumption
    | apply steady_ite
    | apply steadyR_ite
    | (intro x h; simp only [PowerS.canonical, Bool.and_eq_true] at h ⊢; (repeat' split) <;> (simp only [h, Tab.set_wf, Tab.mod_wf, Tab.put_wf, Tab.erase_wf, Tab.remap_wf, Tab.filter_wf, Tab.wf_nil, Tab.foldl_set_wf, Tab.foldl_mod_wf, loaded_wf, mergeActivity_wf, and_self]; done))
    | refine State.modPwr_steady ?_ ?_ 
    | apply State.haltSync_steady
    | apply State.seatAct_steady
    | apply SteadyR.next
    | split
    | dsimp only
    | intro _

theorem execFaultRead_steady {s : State} {u : State} (k : Steady s u) (a0) :
    SteadyR s (execFaultRead a0 u) := by
  unfold execFaultRead
  with_reducible repeat' first
    | assumption
    | apply steady_ite
    | apply steadyR_ite
    | apply State.seatReply_steady
    | apply SteadyR.next
    | split
    | dsimp only
    | intro _

theorem execSeatSelfShutdown_steady {s : State} {u : State} (k : Steady s u) (a0) :
    SteadyR s (execSeatSelfShutdown a0 u) := by
  unfold execSeatSelfShutdown
  with_reducible repeat' first
    | assumption
    | apply steady_ite
    | apply steadyR_ite
    | refine forEach_steady (fun _ _ _ => ?_) ?_ _
    | apply State.modDomain_steady
    | apply State.domainSync_steady
    | apply SteadyR.next
    | split
    | dsimp only
    | intro _

theorem execMarginingEnable_steady {s : State} {u : State} (k : Steady s u) (a0) :
    SteadyR s (execMarginingEnable a0 u) := by
  unfold execMarginingEnable
  with_reducible repeat' first
    | assumption
    | apply steady_ite
    | apply steadyR_ite
    | apply accessed_steady
    | apply respondAccess_steady
    | apply State.marginOnOp_steady
    | apply SteadyR.next
    | split
    | dsimp only
    | intro _

theorem execMarginRequest_steady {s : State} {u : State} (k : Steady s u) (a0) (a1) :
    SteadyR s (execMarginRequest a0 a1 u) := by
  unfold execMarginRequest
  with_reducible repeat' first
    | assumption
    | apply steady_ite
    | apply steadyR_ite
    | apply State.marginOp_steady
    | apply accessed_steady
    | apply respondAccess_steady
    | apply SteadyR.next
    | split
    | dsimp only
    | intro _

theorem execBankReady_steady {s : State} {u : State} (k : Steady s u) (a0) :
    SteadyR s (execBankReady a0 u) := by
  unfold execBankReady
  with_reducible repeat' first
    | assumption
    | apply steady_ite
    | apply steadyR_ite
    | apply State.modBank_steady
    | apply State.powerEvent_steady
    | apply State.measureSync_steady
    | apply State.healthSync_steady
    | apply State.predict_steady
    | apply SteadyR.next
    | split
    | dsimp only
    | intro _

theorem execBoostFault_steady {s : State} {u : State} (k : Steady s u)  :
    SteadyR s (execBoostFault u) := by
  unfold execBoostFault
  with_reducible repeat' first
    | assumption
    | apply steady_ite
    | apply steadyR_ite
    | apply State.bankFail_steady
    | apply SteadyR.next
    | split
    | dsimp only
    | intro _

theorem execCapacitanceMeasurementDue_steady {s : State} {u : State} (k : Steady s u)  :
    SteadyR s (execCapacitanceMeasurementDue u) := by
  unfold execCapacitanceMeasurementDue
  with_reducible repeat' first
    | assumption
    | apply steady_ite
    | apply steadyR_ite
    | apply State.modBank_steady
    | apply State.measureSync_steady
    | apply SteadyR.next
    | split
    | dsimp only
    | intro _

theorem State.judge_steady {s : State} {u : State} (k : Steady s u) (a0) :
    Steady s (State.judge a0 u) := by
  unfold State.judge
  with_reducible repeat' first
    | assumption
    | apply steady_ite
    | apply State.modInput_steady
    | split
    | dsimp only
    | intro _

theorem execThermalConversion_steady {s : State} {u : State} (k : Steady s u) (a0) (a1) (a2) :
    SteadyR s (execThermalConversion a0 a1 a2 u) := by
  unfold execThermalConversion
  with_reducible repeat' first
    | assumption
    | apply steady_ite
    | apply steadyR_ite
    | (intro x h; simp only [ThermS.canonical, Bool.and_eq_true] at h ⊢; (repeat' split) <;> (simp only [h, Tab.set_wf, Tab.mod_wf, Tab.put_wf, Tab.erase_wf, Tab.remap_wf, Tab.filter_wf, Tab.wf_nil, Tab.foldl_set_wf, Tab.foldl_mod_wf, loaded_wf, mergeActivity_wf, and_self]; done))
    | refine State.modThm_steady ?_ ?_ 
    | apply State.report_steady
    | apply State.healthSync_steady
    | apply State.modInput_steady
    | apply State.levelSync_steady
    | apply State.judge_steady
    | apply SteadyR.next
    | split
    | dsimp only
    | intro _

theorem execBankCharged_steady {s : State} {u : State} (k : Steady s u)  :
    SteadyR s (execBankCharged u) := by
  unfold execBankCharged
  with_reducible repeat' first
    | assumption
    | apply steady_ite
    | apply steadyR_ite
    | apply State.modBank_steady
    | apply State.measureSync_steady
    | apply SteadyR.next
    | split
    | dsimp only
    | intro _

theorem execHaltNHigh_steady {s : State} {u : State} (k : Steady s u)  :
    SteadyR s (execHaltNHigh u) := by
  unfold execHaltNHigh
  with_reducible repeat' first
    | assumption
    | apply steady_ite
    | apply steadyR_ite
    | (intro x h; simp only [PowerS.canonical, Bool.and_eq_true] at h ⊢; (repeat' split) <;> (simp only [h, Tab.set_wf, Tab.mod_wf, Tab.put_wf, Tab.erase_wf, Tab.remap_wf, Tab.filter_wf, Tab.wf_nil, Tab.foldl_set_wf, Tab.foldl_mod_wf, loaded_wf, mergeActivity_wf, and_self]; done))
    | refine State.modPwr_steady ?_ ?_ 
    | apply State.powerEvent_steady
    | apply SteadyR.next
    | split
    | dsimp only
    | intro _

end Sys2Proof.Machine
end

