-- ==== Sys2Proof/Laws/SteadyAccess.lean ====
section
/-! SUPPORT. What every operation and meaning leaves true (objects, sessions, messages). -/

set_option Elab.async false

set_option linter.unusedTactic false
set_option linter.unreachableTactic false
set_option linter.unnecessarySeqFocus false
set_option linter.unusedSimpArgs false

namespace Sys2Proof.Machine

theorem State.countFrame_steady {s : State} {u : State} (k : Steady s u) (a0) :
    Steady s (State.countFrame a0 u) := by
  unfold State.countFrame
  with_reducible repeat' first
    | assumption
    | apply steady_ite
    | (intro x h; simp only [WopS.canonical, Bool.and_eq_true] at h ⊢; (repeat' split) <;> (simp only [h, Tab.set_wf, Tab.mod_wf, Tab.put_wf, Tab.erase_wf, Tab.remap_wf, Tab.filter_wf, Tab.wf_nil, Tab.foldl_set_wf, Tab.foldl_mod_wf, loaded_wf, mergeActivity_wf, and_self]; done))
    | refine State.modWop_steady ?_ ?_ 
    | split
    | dsimp only
    | intro _

theorem State.networkAnswer_steady {s : State} {u : State} (k : Steady s u) (a0) :
    Steady s (State.networkAnswer a0 u) := by
  unfold State.networkAnswer
  with_reducible repeat' first
    | assumption
    | apply steady_ite
    | apply State.emit_steady
    | apply State.countFrame_steady
    | split
    | dsimp only
    | intro _

theorem execIcmpv6Echo_steady {s : State} {u : State} (k : Steady s u)  :
    SteadyR s (execIcmpv6Echo u) := by
  unfold execIcmpv6Echo
  with_reducible repeat' first
    | assumption
    | apply steady_ite
    | apply steadyR_ite
    | apply State.networkAnswer_steady
    | apply SteadyR.next
    | split
    | dsimp only
    | intro _

theorem State.dropReply_steady {s : State} {u : State} (k : Steady s u) (a0) :
    Steady s (State.dropReply a0 u) := by
  unfold State.dropReply
  with_reducible repeat' first
    | assumption
    | apply steady_ite
    | (intro x h; simp only [WopS.canonical, Bool.and_eq_true] at h ⊢; (repeat' split) <;> (simp only [h, Tab.set_wf, Tab.mod_wf, Tab.put_wf, Tab.erase_wf, Tab.remap_wf, Tab.filter_wf, Tab.wf_nil, Tab.foldl_set_wf, Tab.foldl_mod_wf, loaded_wf, mergeActivity_wf, and_self]; done))
    | refine State.modWop_steady ?_ ?_ 
    | apply State.modHead_steady
    | split
    | dsimp only
    | intro _

theorem execMailboxReplyExpiry_steady {s : State} {u : State} (k : Steady s u) (a0) :
    SteadyR s (execMailboxReplyExpiry a0 u) := by
  unfold execMailboxReplyExpiry
  with_reducible repeat' first
    | assumption
    | apply steady_ite
    | apply steadyR_ite
    | apply State.dropReply_steady
    | apply SteadyR.next
    | split
    | dsimp only
    | intro _

theorem execBandwidthWindowEnd_steady {s : State} {u : State} (k : Steady s u)  :
    SteadyR s (execBandwidthWindowEnd u) := by
  unfold execBandwidthWindowEnd
  with_reducible repeat' first
    | assumption
    | apply steady_ite
    | apply steadyR_ite
    | (intro x h; simp only [TallyS.canonical, Bool.and_eq_true] at h ⊢; (repeat' split) <;> (simp only [h, Tab.set_wf, Tab.mod_wf, Tab.put_wf, Tab.erase_wf, Tab.remap_wf, Tab.filter_wf, Tab.wf_nil, Tab.foldl_set_wf, Tab.foldl_mod_wf, loaded_wf, mergeActivity_wf, and_self]; done))
    | refine State.modTly_steady ?_ ?_ 
    | apply SteadyR.next
    | split
    | dsimp only
    | intro _

theorem State.afterWrite_steady {s : State} {u : State} (k : Steady s u) (a0) (a1) (a2) :
    Steady s (State.afterWrite a0 a1 a2 u) := by
  unfold State.afterWrite
  with_reducible repeat' first
    | assumption
    | apply steady_ite
    | apply State.restartInto_steady
    | apply State.askReset_steady
    | apply State.closeSess_steady
    | split
    | dsimp only
    | intro _

theorem State.easyAtReady_steady {s : State} {u : State} (k : Steady s u)  :
    Steady s (State.easyAtReady u) := by
  unfold State.easyAtReady
  with_reducible repeat' first
    | assumption
    | apply steady_ite
    | apply State.modEasy_steady
    | apply State.easyBegin_steady
    | apply State.flushEnd_steady
    | split
    | dsimp only
    | intro _

theorem State.endBulk_steady {s : State} {u : State} (k : Steady s u) (a0) :
    Steady s (State.endBulk a0 u) := by
  unfold State.endBulk
  with_reducible repeat' first
    | assumption
    | apply steady_ite
    | (intro x h; simp only [WopS.canonical, Bool.and_eq_true] at h ⊢; (repeat' split) <;> (simp only [h, Tab.set_wf, Tab.mod_wf, Tab.put_wf, Tab.erase_wf, Tab.remap_wf, Tab.filter_wf, Tab.wf_nil, Tab.foldl_set_wf, Tab.foldl_mod_wf, loaded_wf, mergeActivity_wf, and_self]; done))
    | refine State.modWop_steady ?_ ?_ 
    | split
    | dsimp only
    | intro _

theorem execEqDisable_steady {s : State} {u : State} (k : Steady s u) (a0) :
    SteadyR s (execEqDisable a0 u) := by
  unfold execEqDisable
  with_reducible repeat' first
    | assumption
    | apply steady_ite
    | apply steadyR_ite
    | apply State.modEq_steady
    | apply SteadyR.next
    | split
    | dsimp only
    | intro _

theorem execInFlightCapWrite_steady {s : State} {u : State} (k : Steady s u) (a0) (a1) :
    SteadyR s (execInFlightCapWrite a0 a1 u) := by
  unfold execInFlightCapWrite
  with_reducible repeat' first
    | assumption
    | apply steady_ite
    | apply steadyR_ite
    | apply accessed_steady
    | apply respondAccess_steady
    | apply State.putObject_steady
    | apply SteadyR.next
    | split
    | dsimp only
    | intro _

theorem execPlcaBeaconLoss_steady {s : State} {u : State} (k : Steady s u)  :
    SteadyR s (execPlcaBeaconLoss u) := by
  unfold execPlcaBeaconLoss
  with_reducible repeat' first
    | assumption
    | apply steady_ite
    | apply steadyR_ite
    | (intro x h; simp only [WopS.canonical, Bool.and_eq_true] at h ⊢; (repeat' split) <;> (simp only [h, Tab.set_wf, Tab.mod_wf, Tab.put_wf, Tab.erase_wf, Tab.remap_wf, Tab.filter_wf, Tab.wf_nil, Tab.foldl_set_wf, Tab.foldl_mod_wf, loaded_wf, mergeActivity_wf, and_self]; done))
    | refine State.modWop_steady ?_ ?_ 
    | apply SteadyR.next
    | split
    | dsimp only
    | intro _

theorem execSubscriptionIntervalEnd_steady {s : State} {u : State} (k : Steady s u) (a0) (a1) :
    SteadyR s (execSubscriptionIntervalEnd a0 a1 u) := by
  unfold execSubscriptionIntervalEnd
  with_reducible repeat' first
    | assumption
    | apply steady_ite
    | apply steadyR_ite
    | apply State.modSession_steady
    | apply State.sendNotify_steady
    | apply SteadyR.next
    | split
    | dsimp only
    | intro _

theorem State.recordSess_steady {s : State} {u : State} (k : Steady s u) (a0) :
    Steady s (State.recordSess a0 u) := by
  unfold State.recordSess
  with_reducible repeat' first
    | assumption
    | apply steady_ite
    | apply State.manage_steady
    | split
    | dsimp only
    | intro _

theorem State.mailboxReplyOp_steady {s : State} {u : State} (k : Steady s u) (a0) :
    Steady s (State.mailboxReplyOp a0 u).2 := by
  unfold State.mailboxReplyOp
  with_reducible repeat' first
    | assumption
    | apply steady_ite
    | apply steady_ite_snd
    | apply State.modSession_steady
    | apply State.modHead_steady
    | apply State.recordSess_steady
    | split
    | dsimp only
    | intro _

theorem execMailboxOpenReply_steady {s : State} {u : State} (k : Steady s u) (a0) :
    SteadyR s (execMailboxOpenReply a0 u) := by
  unfold execMailboxOpenReply
  with_reducible repeat' first
    | assumption
    | apply steady_ite
    | apply steadyR_ite
    | apply State.mbAccess_steady
    | apply mailboxed_steady
    | apply State.mailboxReplyOp_steady
    | refine steady_snd_of_eq ‹State.mailboxReplyOp _ _ = _› (State.mailboxReplyOp_steady ?_ _)
    | apply SteadyR.next
    | split
    | dsimp only
    | intro _

theorem execHeadStall_steady {s : State} {u : State} (k : Steady s u) (a0) :
    SteadyR s (execHeadStall a0 u) := by
  unfold execHeadStall
  with_reducible repeat' first
    | assumption
    | apply steady_ite
    | apply steadyR_ite
    | apply State.report_steady
    | apply SteadyR.next
    | split
    | dsimp only
    | intro _

theorem State.putBulk_steady {s : State} {u : State} (k : Steady s u) (a0) :
    Steady s (State.putBulk a0 u) := by
  unfold State.putBulk
  with_reducible repeat' first
    | assumption
    | apply steady_ite
    | (intro x h; simp only [WopS.canonical, Bool.and_eq_true] at h ⊢; (repeat' split) <;> (simp only [h, Tab.set_wf, Tab.mod_wf, Tab.put_wf, Tab.erase_wf, Tab.remap_wf, Tab.filter_wf, Tab.wf_nil, Tab.foldl_set_wf, Tab.foldl_mod_wf, loaded_wf, mergeActivity_wf, and_self]; done))
    | refine State.modWop_steady ?_ ?_ 
    | split
    | dsimp only
    | intro _

theorem State.noOp_steady {s : State} {u : State} (k : Steady s u) (a0) :
    Steady s (State.noOp a0 u).2.2 := by
  unfold State.noOp
  with_reducible repeat' first
    | assumption
    | apply steady_ite
    | apply steady_ite_acc
    | apply State.ticketDone_steady
    | apply State.deferred_steady
    | split
    | dsimp only
    | intro _

theorem State.rebase_steady {s : State} {u : State} (k : Steady s u) (a0) (a1) (a2) :
    Steady s (State.rebase a0 a1 a2 u) := by
  unfold State.rebase
  with_reducible repeat' first
    | assumption
    | apply steady_ite
    | (intro x h; simp only [TallyS.canonical, Bool.and_eq_true] at h ⊢; (repeat' split) <;> (simp only [h, Tab.set_wf, Tab.mod_wf, Tab.put_wf, Tab.erase_wf, Tab.remap_wf, Tab.filter_wf, Tab.wf_nil, Tab.foldl_set_wf, Tab.foldl_mod_wf, loaded_wf, mergeActivity_wf, and_self]; done))
    | refine State.modTly_steady ?_ ?_ 
    | split
    | dsimp only
    | intro _

theorem State.clearCount_steady {s : State} {u : State} (k : Steady s u) (a0) (a1) :
    Steady s (State.clearCount a0 a1 u) := by
  unfold State.clearCount
  with_reducible repeat' first
    | assumption
    | apply steady_ite
    | (intro x h; simp only [ObjS.canonical, Bool.and_eq_true] at h ⊢; (repeat' split) <;> (simp only [h, Tab.set_wf, Tab.mod_wf, Tab.put_wf, Tab.erase_wf, Tab.remap_wf, Tab.filter_wf, Tab.wf_nil, Tab.foldl_set_wf, Tab.foldl_mod_wf, loaded_wf, mergeActivity_wf, and_self]; done))
    | (intro x h; simp only [PowerS.canonical, Bool.and_eq_true] at h ⊢; (repeat' split) <;> (simp only [h, Tab.set_wf, Tab.mod_wf, Tab.put_wf, Tab.erase_wf, Tab.remap_wf, Tab.filter_wf, Tab.wf_nil, Tab.foldl_set_wf, Tab.foldl_mod_wf, loaded_wf, mergeActivity_wf, and_self]; done))
    | (intro h; exact h)
    | (intro h; (try split) <;> (simp only [List.length_append, List.length_cons, List.length_nil, List.length_tail]; first | assumption | omega))
    | (intro x h; simp only [FaultS.canonical, Bool.and_eq_true] at h ⊢; (repeat' split) <;> (simp only [h, Tab.set_wf, Tab.mod_wf, Tab.put_wf, Tab.erase_wf, Tab.remap_wf, Tab.filter_wf, Tab.wf_nil, Tab.foldl_set_wf, Tab.foldl_mod_wf, loaded_wf, mergeActivity_wf, and_self]; done))
    | refine State.modFlt_steady ?_ ?_ ?_ 
    | refine State.modPwr_steady ?_ ?_ 
    | refine State.modObj_steady ?_ ?_ 
    | apply State.modHead_steady
    | apply State.modChannel_steady
    | apply State.rebase_steady
    | split
    | dsimp only
    | intro _

theorem State.zeroOp_steady {s : State} {u : State} (k : Steady s u) (a0) (a1) (a2) (a3) (a4) :
    Steady s (State.zeroOp a0 a1 a2 a3 a4 u).2.2 := by
  unfold State.zeroOp
  with_reducible repeat' first
    | assumption
    | apply steady_ite
    | apply steady_ite_acc
    | apply State.manage_steady
    | apply State.answer_steady
    | apply State.notifyObject_steady
    | apply State.clearCount_steady
    | split
    | dsimp only
    | intro _

theorem State.setKey_steady {s : State} {u : State} (k : Steady s u) (a0) (a1) :
    Steady s (State.setKey a0 a1 u) := by
  unfold State.setKey
  with_reducible repeat' first
    | assumption
    | apply steady_ite
    | (intro x h; simp only [WopS.canonical, Bool.and_eq_true] at h ⊢; (repeat' split) <;> (simp only [h, Tab.set_wf, Tab.mod_wf, Tab.put_wf, Tab.erase_wf, Tab.remap_wf, Tab.filter_wf, Tab.wf_nil, Tab.foldl_set_wf, Tab.foldl_mod_wf, loaded_wf, mergeActivity_wf, and_self]; done))
    | refine State.modWop_steady ?_ ?_ 
    | refine forEach_steady (fun _ _ _ => ?_) ?_ _
    | apply State.draw_steady
    | refine steady_snd_of_eq ‹State.draw _ = _› (State.draw_steady ?_)
    | apply State.closeSess_steady
    | split
    | dsimp only
    | intro _

theorem State.roleKeyOp_steady {s : State} {u : State} (k : Steady s u) (a0) (a1) (a2) (a3) :
    Steady s (State.roleKeyOp a0 a1 a2 a3 u).2.2 := by
  unfold State.roleKeyOp
  with_reducible repeat' first
    | assumption
    | apply steady_ite
    | apply steady_ite_acc
    | (intro x h; simp only [ObjS.canonical, Bool.and_eq_true] at h ⊢; (repeat' split) <;> (simp only [h, Tab.set_wf, Tab.mod_wf, Tab.put_wf, Tab.erase_wf, Tab.remap_wf, Tab.filter_wf, Tab.wf_nil, Tab.foldl_set_wf, Tab.foldl_mod_wf, loaded_wf, mergeActivity_wf, and_self]; done))
    | refine State.modObj_steady ?_ ?_ 
    | apply State.manage_steady
    | apply State.security_steady
    | apply State.answer_steady
    | apply State.deferred_steady
    | apply State.storeConfig_steady
    | apply State.setKey_steady
    | split
    | dsimp only
    | intro _

theorem State.openRefused_steady {s u t : State} (k : Steady s u) (r)
    (e : State.openRefused r u = some t) : Steady s t := by
  unfold State.openRefused at e
  split at e
  · cases e; exact State.security_steady k _ _ _ _
  · split at e
    · cases e; exact k
    · cases e

theorem State.freshSession_steady {s : State} {u : State} (k : Steady s u) (a0) (a1) :
    Steady s (State.freshSession a0 a1 u).2 := by
  unfold State.freshSession
  with_reducible repeat' first
    | assumption
    | apply steady_ite
    | apply steady_ite_snd
    | apply State.draw_steady
    | refine steady_snd_of_eq ‹State.draw _ = _› (State.draw_steady ?_)
    | split
    | dsimp only
    | intro _

theorem State.beginSess_steady {s : State} {u : State} (k : Steady s u) (a0) (a1) :
    Steady s (State.beginSess a0 a1 u) := by
  unfold State.beginSess
  with_reducible repeat' first
    | assumption
    | apply steady_ite
    | (intro x h; simp only [WopS.canonical, Bool.and_eq_true] at h ⊢; (repeat' split) <;> (simp only [h, Tab.set_wf, Tab.mod_wf, Tab.put_wf, Tab.erase_wf, Tab.remap_wf, Tab.filter_wf, Tab.wf_nil, Tab.foldl_set_wf, Tab.foldl_mod_wf, loaded_wf, mergeActivity_wf, and_self]; done))
    | refine State.modWop_steady ?_ ?_ 
    | apply State.draw_steady
    | refine steady_snd_of_eq ‹State.draw _ = _› (State.draw_steady ?_)
    | split
    | dsimp only
    | intro _

theorem State.mailboxOpenOp_steady {s : State} {u : State} (k : Steady s u) (a0) (a1) (a2) :
    Steady s (State.mailboxOpenOp a0 a1 a2 u).2.2 := by
  unfold State.mailboxOpenOp
  with_reducible repeat' first
    | assumption
    | apply steady_ite
    | apply steady_ite_acc
    | apply State.modHead_steady
    | apply State.dropReply_steady
    | apply State.answer_steady
    | refine State.openRefused_steady ?_ _ ‹State.openRefused _ _ = some _›
    | apply State.freshSession_steady
    | refine steady_snd_of_eq ‹State.freshSession _ _ _ = _› (State.freshSession_steady ?_ _ _)
    | apply State.beginSess_steady
    | split
    | dsimp only
    | intro _

theorem State.headResetOp_steady {s : State} {u : State} (k : Steady s u) (a0) (a1) :
    Steady s (State.headResetOp a0 a1 u).2.2 := by
  unfold State.headResetOp
  with_reducible repeat' first
    | assumption
    | apply steady_ite
    | apply steady_ite_acc
    | apply State.manage_steady
    | apply State.modHead_steady
    | apply State.modLink_steady
    | apply State.linkDown_steady
    | apply State.answer_steady
    | split
    | dsimp only
    | intro _

theorem State.reviewSync_steady {s : State} {u : State} (k : Steady s u)  :
    Steady s (State.reviewSync u) := by
  unfold State.reviewSync
  with_reducible repeat' first
    | assumption
    | apply steady_ite
    | apply State.modStr_steady
    | apply State.creditSync_steady
    | apply State.notifyObject_steady
    | split
    | dsimp only
    | intro _

theorem State.settle_steady {s : State} {u : State} (k : Steady s u) (a0) (a1) :
    Steady s (State.settle a0 a1 u) := by
  unfold State.settle
  with_reducible repeat' first
    | assumption
    | apply steady_ite
    | (intro x h; simp only [TractS.canonical, Bool.and_eq_true] at h ⊢; (repeat' split) <;> (simp only [h, Tab.set_wf, Tab.mod_wf, Tab.put_wf, Tab.erase_wf, Tab.remap_wf, Tab.filter_wf, Tab.wf_nil, Tab.foldl_set_wf, Tab.foldl_mod_wf, loaded_wf, mergeActivity_wf, and_self]; done))
    | refine State.modTrc_steady ?_ ?_ 
    | refine forEach_steady (fun _ _ _ => ?_) ?_ _
    | apply State.putEntry_steady
    | apply State.reestablish_steady
    | split
    | dsimp only
    | intro _

theorem State.decisionOp_steady {s : State} {u : State} (k : Steady s u) (a0) (a1) (a2) (a3) :
    Steady s (State.decisionOp a0 a1 a2 a3 u).2.2 := by
  unfold State.decisionOp
  with_reducible repeat' first
    | assumption
    | apply steady_ite
    | apply steady_ite_acc
    | apply State.manage_steady
    | apply State.ticketDone_steady
    | apply State.answer_steady
    | apply State.deferred_steady
    | apply State.reviewSync_steady
    | apply State.settle_steady
    | split
    | dsimp only
    | intro _

theorem State.writeLow_steady {s : State} {u : State} (k : Steady s u) (a0) (a1) (a2) (a3) (a4) :
    Steady s (State.writeLow a0 a1 a2 a3 a4 u).2.2 := by
  unfold State.writeLow
  with_reducible repeat' first
    | assumption
    | apply steady_ite
    | apply steady_ite_acc
    | (intro x h; simp only [ObjS.canonical, Bool.and_eq_true] at h ⊢; (repeat' split) <;> (simp only [h, Tab.set_wf, Tab.mod_wf, Tab.put_wf, Tab.erase_wf, Tab.remap_wf, Tab.filter_wf, Tab.wf_nil, Tab.foldl_set_wf, Tab.foldl_mod_wf, loaded_wf, mergeActivity_wf, and_self]; done))
    | refine State.modObj_steady ?_ ?_ 
    | apply State.manage_steady
    | apply State.draw_steady
    | refine steady_snd_of_eq ‹State.draw _ = _› (State.draw_steady ?_)
    | apply State.answer_steady
    | apply State.putObject_steady
    | apply State.releaseOp_steady
    | apply State.windowOpen_steady
    | apply State.putRecord_steady
    | apply State.scrubCancelOp_steady
    | apply State.rootOp_steady
    | apply State.roleKeyOp_steady
    | apply State.mailboxOpenOp_steady
    | apply State.headResetOp_steady
    | apply State.offerOp_steady
    | apply State.regionOp_steady
    | apply State.decisionOp_steady
    | apply State.rekeyOp_steady
    | apply State.scrubOp_steady
    | split
    | dsimp only
    | intro _

theorem State.restoreOne_steady {s : State} {u : State} (k : Steady s u) (a0) (a1) :
    Steady s (State.restoreOne a0 a1 u).2 := by
  unfold State.restoreOne
  with_reducible repeat' first
    | assumption
    | apply steady_ite
    | apply steady_ite_snd
    | (intro x h; simp only [ObjS.canonical, Bool.and_eq_true] at h ⊢; (repeat' split) <;> (simp only [h, Tab.set_wf, Tab.mod_wf, Tab.put_wf, Tab.erase_wf, Tab.remap_wf, Tab.filter_wf, Tab.wf_nil, Tab.foldl_set_wf, Tab.foldl_mod_wf, loaded_wf, mergeActivity_wf, and_self]; done))
    | refine State.modObj_steady ?_ ?_ 
    | apply State.noteWriter_steady
    | apply State.storeConfig_steady
    | apply State.notifyObject_steady
    | apply State.applyCfg_steady
    | apply State.setSnap_steady
    | apply State.setLimits_steady
    | apply State.optionsOp_steady
    | split
    | dsimp only
    | intro _

theorem State.restoreWaits_steady {s : State} {u : State} (k : Steady s u) (a0) :
    Steady s (State.restoreWaits a0 u) := by
  unfold State.restoreWaits
  with_reducible repeat' first
    | assumption
    | apply steady_ite
    | (intro x h; simp only [ObjS.canonical, Bool.and_eq_true] at h ⊢; (repeat' split) <;> (simp only [h, Tab.set_wf, Tab.mod_wf, Tab.put_wf, Tab.erase_wf, Tab.remap_wf, Tab.filter_wf, Tab.wf_nil, Tab.foldl_set_wf, Tab.foldl_mod_wf, loaded_wf, mergeActivity_wf, and_self]; done))
    | refine State.modObj_steady ?_ ?_ 
    | split
    | dsimp only
    | intro _

theorem State.restoreRun_steady {s : State} {u : State} (k : Steady s u) (a0) (a1) (a2) (a3) (a4) :
    Steady s (State.restoreRun a0 a1 a2 a3 a4 u) := by
  induction a4 generalizing u a0 a1 a2 a3 with
  | nil =>
    unfold State.restoreRun
    with_reducible repeat' first
      | assumption
      | apply steady_ite
      | apply State.ticketDone_steady
      | apply State.restoreOne_steady
      | refine steady_snd_of_eq ‹State.restoreOne _ _ _ = _› (State.restoreOne_steady ?_ _ _)
      | apply State.restoreWaits_steady
      | split
      | dsimp only
      | intro _
  | cons _ _ ih =>
    unfold State.restoreRun
    with_reducible repeat' first
      | assumption
      | apply steady_ite
      | apply State.ticketDone_steady
      | apply State.restoreOne_steady
      | refine steady_snd_of_eq ‹State.restoreOne _ _ _ = _› (State.restoreOne_steady ?_ _ _)
      | apply State.restoreWaits_steady
      | refine ih ?_ _ _ _ _
      | split
      | dsimp only
      | intro _

theorem State.restoreOp_steady {s : State} {u : State} (k : Steady s u) (a0) :
    Steady s (State.restoreOp a0 u).2.2 := by
  unfold State.restoreOp
  with_reducible repeat' first
    | assumption
    | apply steady_ite
    | apply steady_ite_acc
    | apply State.answer_steady
    | apply State.deferred_steady
    | apply State.restoreRun_steady
    | split
    | dsimp only
    | intro _

theorem State.sanitizeAll_steady {s : State} {u : State} (k : Steady s u) (a0) (a1) (a2) :
    Steady s (State.sanitizeAll a0 a1 a2 u).2 := by
  induction a2 generalizing u a0 a1 with
  | nil =>
    unfold State.sanitizeAll
    with_reducible repeat' first
      | assumption
      | apply steady_ite
      | apply steady_ite_snd
      | apply State.sanitizeExtent_steady
      | split
      | dsimp only
      | intro _
  | cons _ _ ih =>
    unfold State.sanitizeAll
    with_reducible repeat' first
      | assumption
      | apply steady_ite
      | apply steady_ite_snd
      | apply State.sanitizeExtent_steady
      | refine ih ?_ _ _
      | split
      | dsimp only
      | intro _

theorem State.sanitizeOp_steady {s : State} {u : State} (k : Steady s u) (a0) (a1) (a2) :
    Steady s (State.sanitizeOp a0 a1 a2 u).2.2 := by
  unfold State.sanitizeOp
  with_reducible repeat' first
    | assumption
    | apply steady_ite
    | apply steady_ite_acc
    | apply State.ticketDone_steady
    | apply State.answer_steady
    | apply State.deferred_steady
    | apply State.sanitizeAll_steady
    | refine steady_snd_of_eq ‹State.sanitizeAll _ _ _ _ = _› (State.sanitizeAll_steady ?_ _ _ _)
    | split
    | dsimp only
    | intro _

theorem State.commandOp_steady {s : State} {u : State} (k : Steady s u) (a0) (a1) :
    Steady s (State.commandOp a0 a1 u).2.2 := by
  unfold State.commandOp
  with_reducible repeat' first
    | assumption
    | apply steady_ite
    | apply steady_ite_acc
    | apply State.answer_steady
    | apply State.noOp_steady
    | apply State.restoreOp_steady
    | apply State.sanitizeOp_steady
    | split
    | dsimp only
    | intro _

theorem State.writeHigh_steady {s : State} {u : State} (k : Steady s u) (a0) (a1) (a2) (a3) (a4) :
    Steady s (State.writeHigh a0 a1 a2 a3 a4 u).2.2 := by
  unfold State.writeHigh
  with_reducible repeat' first
    | assumption
    | apply steady_ite
    | apply steady_ite_acc
    | apply State.draw_steady
    | refine steady_snd_of_eq ‹State.draw _ = _› (State.draw_steady ?_)
    | apply State.answer_steady
    | apply State.marginOp_steady
    | apply State.commitOp_steady
    | apply State.latchReleaseOp_steady
    | apply State.putObject_steady
    | apply State.fireOp_steady
    | apply State.setCursor_steady
    | apply State.fenceOp_steady
    | apply State.readmitOp_steady
    | apply State.stickyOp_steady
    | apply State.easyOp_steady
    | apply State.clearFOp_steady
    | apply State.snapOp_steady
    | apply State.latchOp_steady
    | apply State.marginOnOp_steady
    | apply State.measureOp_steady
    | apply State.coreOnOp_steady
    | apply State.coreOffOp_steady
    | apply State.limitsOp_steady
    | apply State.updateOp_steady
    | apply State.activateOp_steady
    | apply State.segmentOp_steady
    | apply State.optionsOp_steady
    | apply State.protectOp_steady
    | apply State.commandOp_steady
    | apply State.resetOp_steady
    | split
    | dsimp only
    | intro _

theorem State.writeValue_steady {s : State} {u : State} (k : Steady s u) (a0) (a1) (a2) (a3) (a4) :
    Steady s (State.writeValue a0 a1 a2 a3 a4 u).2.2 := by
  unfold State.writeValue
  with_reducible repeat' first
    | assumption
    | apply steady_ite
    | apply steady_ite_acc
    | apply State.answer_steady
    | apply State.setSel_steady
    | apply State.zeroOp_steady
    | apply State.writeLow_steady
    | apply State.writeHigh_steady
    | split
    | dsimp only
    | intro _

theorem State.deriveKeys_steady {s : State} {u : State} (k : Steady s u)  :
    Steady s (State.deriveKeys u) := by
  unfold State.deriveKeys
  with_reducible repeat' first
    | assumption
    | apply steady_ite
    | (intro x h; simp only [ExtS.canonical, Bool.and_eq_true] at h ⊢; (repeat' split) <;> (simp only [h, Tab.set_wf, Tab.mod_wf, Tab.put_wf, Tab.erase_wf, Tab.remap_wf, Tab.filter_wf, Tab.wf_nil, Tab.foldl_set_wf, Tab.foldl_mod_wf, loaded_wf, mergeActivity_wf, and_self]; done))
    | refine State.modExt_steady ?_ ?_ 
    | split
    | dsimp only
    | intro _

theorem State.startReview_steady {s : State} {u : State} (k : Steady s u)  :
    Steady s (State.startReview u) := by
  unfold State.startReview
  with_reducible repeat' first
    | assumption
    | apply steady_ite
    | apply State.modStr_steady
    | apply State.reviewSync_steady
    | apply State.settle_steady
    | split
    | dsimp only
    | intro _

theorem State.rekeyResume_steady {s : State} {u : State} (k : Steady s u)  :
    Steady s (State.rekeyResume u) := by
  unfold State.rekeyResume
  with_reducible repeat' first
    | assumption
    | apply steady_ite
    | (intro x h; simp only [IntegS.canonical, Bool.and_eq_true] at h ⊢; (repeat' split) <;> (simp only [h, Tab.set_wf, Tab.mod_wf, Tab.put_wf, Tab.erase_wf, Tab.remap_wf, Tab.filter_wf, Tab.wf_nil, Tab.foldl_set_wf, Tab.foldl_mod_wf, loaded_wf, mergeActivity_wf, and_self]; done))
    | refine State.modItg_steady ?_ ?_ 
    | apply State.rekeyFinish_steady
    | split
    | dsimp only
    | intro _

theorem State.requeueBad_steady {s : State} {u : State} (k : Steady s u)  :
    Steady s (State.requeueBad u) := by
  unfold State.requeueBad
  with_reducible repeat' first
    | assumption
    | apply steady_ite
    | refine forEach_steady (fun _ _ _ => ?_) ?_ _
    | apply State.modEntry_steady
    | apply State.queueMig_steady
    | split
    | dsimp only
    | intro _

theorem execDataReady_steady {s : State} {u : State} (k : Steady s u)  :
    SteadyR s (execDataReady u) := by
  unfold execDataReady
  with_reducible repeat' first
    | assumption
    | apply steady_ite
    | apply steadyR_ite
    | (intro x h; simp only [PowerS.canonical, Bool.and_eq_true] at h ⊢; (repeat' split) <;> (simp only [h, Tab.set_wf, Tab.mod_wf, Tab.put_wf, Tab.erase_wf, Tab.remap_wf, Tab.filter_wf, Tab.wf_nil, Tab.foldl_set_wf, Tab.foldl_mod_wf, loaded_wf, mergeActivity_wf, and_self]; done))
    | apply State.modStr_steady
    | refine State.modPwr_steady ?_ ?_ 
    | apply State.modEasy_steady
    | refine forEach_steady (fun _ _ _ => ?_) ?_ _
    | apply State.boundSync_steady
    | apply State.creditSync_steady
    | apply State.startTime_steady
    | apply State.rebuildSync_steady
    | apply State.easyAtReady_steady
    | apply State.recordOpen_steady
    | apply State.deriveKeys_steady
    | apply State.startReview_steady
    | apply State.rekeyResume_steady
    | apply State.requeueBad_steady
    | apply SteadyR.next
    | split
    | dsimp only
    | intro _

theorem State.restoreGoesOn_steady {s : State} {u : State} (k : Steady s u) (a0) :
    Steady s (State.restoreGoesOn a0 u) := by
  unfold State.restoreGoesOn
  with_reducible repeat' first
    | assumption
    | apply steady_ite
    | (intro x h; simp only [ObjS.canonical, Bool.and_eq_true] at h ⊢; (repeat' split) <;> (simp only [h, Tab.set_wf, Tab.mod_wf, Tab.put_wf, Tab.erase_wf, Tab.remap_wf, Tab.filter_wf, Tab.wf_nil, Tab.foldl_set_wf, Tab.foldl_mod_wf, loaded_wf, mergeActivity_wf, and_self]; done))
    | refine State.modObj_steady ?_ ?_ 
    | apply State.restoreRun_steady
    | split
    | dsimp only
    | intro _

theorem State.commit_steady {s : State} {u : State} (k : Steady s u) (a0) :
    Steady s (State.commit a0 u) := by
  unfold State.commit
  with_reducible repeat' first
    | assumption
    | apply steady_ite
    | (intro x h; simp only [ObjS.canonical, Bool.and_eq_true] at h ⊢; (repeat' split) <;> (simp only [h, Tab.set_wf, Tab.mod_wf, Tab.put_wf, Tab.erase_wf, Tab.remap_wf, Tab.filter_wf, Tab.wf_nil, Tab.foldl_set_wf, Tab.foldl_mod_wf, loaded_wf, mergeActivity_wf, and_self]; done))
    | refine State.modObj_steady ?_ ?_ 
    | refine forEach_steady (fun _ _ _ => ?_) ?_ _
    | apply State.emit_steady
    | apply State.respondTo_steady
    | apply State.applyCfg_steady
    | apply State.restoreGoesOn_steady
    | split
    | dsimp only
    | intro _

theorem execConfigCommit_steady {s : State} {u : State} (k : Steady s u) (a0) :
    SteadyR s (execConfigCommit a0 u) := by
  unfold execConfigCommit
  with_reducible repeat' first
    | assumption
    | apply steady_ite
    | apply steadyR_ite
    | apply State.commit_steady
    | apply SteadyR.next
    | split
    | dsimp only
    | intro _

theorem execPoolAddressWrite_steady {s : State} {u : State} (k : Steady s u) (a0) :
    SteadyR s (execPoolAddressWrite a0 u) := by
  unfold execPoolAddressWrite
  with_reducible repeat' first
    | assumption
    | apply steady_ite
    | apply steadyR_ite
    | apply accessed_steady
    | apply respondAccess_steady
    | apply State.putObject_steady
    | apply SteadyR.next
    | split
    | dsimp only
    | intro _

theorem State.dropTag_steady {s : State} {u : State} (k : Steady s u)  :
    Steady s (State.dropTag u) := by
  unfold State.dropTag
  with_reducible repeat' first
    | assumption
    | apply steady_ite
    | (intro x h; simp only [WopS.canonical, Bool.and_eq_true] at h ⊢; (repeat' split) <;> (simp only [h, Tab.set_wf, Tab.mod_wf, Tab.put_wf, Tab.erase_wf, Tab.remap_wf, Tab.filter_wf, Tab.wf_nil, Tab.foldl_set_wf, Tab.foldl_mod_wf, loaded_wf, mergeActivity_wf, and_self]; done))
    | refine State.modWop_steady ?_ ?_ 
    | apply State.countFrame_steady
    | split
    | dsimp only
    | intro _

theorem execRoleKeyWrite_steady {s : State} {u : State} (k : Steady s u) (a0) (a1) (a2) :
    SteadyR s (execRoleKeyWrite a0 a1 a2 u) := by
  unfold execRoleKeyWrite
  with_reducible repeat' first
    | assumption
    | apply steady_ite
    | apply steadyR_ite
    | apply State.answer_steady
    | apply guarded_steady
    | apply accessed_steady
    | apply respondAccess_steady
    | apply State.roleKeyOp_steady
    | apply SteadyR.next
    | split
    | dsimp only
    | intro _

theorem execSessionOpenTimeout_steady {s : State} {u : State} (k : Steady s u) (a0) :
    SteadyR s (execSessionOpenTimeout a0 u) := by
  unfold execSessionOpenTimeout
  with_reducible repeat' first
    | assumption
    | apply steady_ite
    | apply steadyR_ite
    | apply State.closeSess_steady
    | apply SteadyR.next
    | split
    | dsimp only
    | intro _

theorem execAdvertise_steady {s : State} {u : State} (k : Steady s u) (a0) (a1) (a2) :
    SteadyR s (execAdvertise a0 a1 a2 u) := by
  unfold execAdvertise
  with_reducible repeat' first
    | assumption
    | apply steady_ite
    | apply steadyR_ite
    | (intro x h; simp only [WopS.canonical, Bool.and_eq_true] at h ⊢; (repeat' split) <;> (simp only [h, Tab.set_wf, Tab.mod_wf, Tab.put_wf, Tab.erase_wf, Tab.remap_wf, Tab.filter_wf, Tab.wf_nil, Tab.foldl_set_wf, Tab.foldl_mod_wf, loaded_wf, mergeActivity_wf, and_self]; done))
    | refine State.modWop_steady ?_ ?_ 
    | apply State.countFrame_steady
    | apply State.report_steady
    | apply State.notifyObject_steady
    | apply SteadyR.next
    | split
    | dsimp only
    | intro _

theorem State.suspectList_steady {s : State} {u : State} (k : Steady s u) (a0) :
    Steady s (State.suspectList a0 u).2 := by
  unfold State.suspectList
  with_reducible repeat' first
    | assumption
    | apply steady_ite
    | apply steady_ite_snd
    | apply State.setSel_steady
    | split
    | dsimp only
    | intro _

theorem execSuspectListRead_steady {s : State} {u : State} (k : Steady s u) (a0) :
    SteadyR s (execSuspectListRead a0 u) := by
  unfold execSuspectListRead
  with_reducible repeat' first
    | assumption
    | apply steady_ite
    | apply steadyR_ite
    | apply State.emit_steady
    | apply accessed_steady
    | apply State.suspectList_steady
    | refine steady_snd_of_eq ‹State.suspectList _ _ = _› (State.suspectList_steady ?_ _)
    | apply SteadyR.next
    | split
    | dsimp only
    | intro _

theorem State.touch_steady {s : State} {u : State} (k : Steady s u) (a0) :
    Steady s (State.touch a0 u) := by
  unfold State.touch
  with_reducible repeat' first
    | assumption
    | apply steady_ite
    | apply State.modSession_steady
    | split
    | dsimp only
    | intro _

theorem State.mailboxAccess_steady {s : State} {a6 : Req → Nat → Asker → State → State} (ka6 : ∀ x0 x1 x2 v, Steady s v → Steady s (a6 x0 x1 x2 v)) {u : State} (k : Steady s u) (a0) (a1) (a2) (a3) (a4) (a5) :
    Steady s (State.mailboxAccess a0 a1 a2 a3 a4 a5 a6 u) := by
  unfold State.mailboxAccess
  with_reducible repeat' first
    | assumption
    | apply steady_ite
    | (intro x h; simp only [WopS.canonical, Bool.and_eq_true] at h ⊢; (repeat' split) <;> (simp only [h, Tab.set_wf, Tab.mod_wf, Tab.put_wf, Tab.erase_wf, Tab.remap_wf, Tab.filter_wf, Tab.wf_nil, Tab.foldl_set_wf, Tab.foldl_mod_wf, loaded_wf, mergeActivity_wf, and_self]; done))
    | refine State.modWop_steady ?_ ?_ 
    | apply State.modSession_steady
    | apply State.mbAccess_steady
    | apply State.mbReturn_steady
    | apply State.touch_steady
    | refine ka6 _ _ _  _ ?_
    | split
    | dsimp only
    | intro _

theorem State.readObject_steady {s : State} {u : State} (k : Steady s u) (a0) (a1) (a2) (a3) :
    Steady s (State.readObject a0 a1 a2 a3 u).2 := by
  unfold State.readObject
  with_reducible repeat' first
    | assumption
    | apply steady_ite
    | apply steady_ite_snd
    | apply State.mailboxReplyOp_steady
    | refine steady_snd_of_eq ‹State.mailboxReplyOp _ _ = _› (State.mailboxReplyOp_steady ?_ _)
    | apply State.readWindow_steady
    | refine steady_snd_of_eq ‹State.readWindow _ _ = _› (State.readWindow_steady ?_ _)
    | apply State.suspectList_steady
    | refine steady_snd_of_eq ‹State.suspectList _ _ = _› (State.suspectList_steady ?_ _)
    | split
    | dsimp only
    | intro _

theorem execObjectRead_steady {s : State} {u : State} (k : Steady s u) (a0) (a1) (a2) (a3) (a4) (a5) (a6) :
    SteadyR s (execObjectRead a0 a1 a2 a3 a4 a5 a6 u) := by
  unfold execObjectRead
  with_reducible repeat' first
    | assumption
    | apply steady_ite
    | apply steadyR_ite
    | apply State.respondTo_steady
    | apply mailboxed_steady
    | apply State.mailboxAccess_steady
    | apply State.readObject_steady
    | refine steady_snd_of_eq ‹State.readObject _ _ _ _ _ = _› (State.readObject_steady ?_ _ _ _ _)
    | apply SteadyR.next
    | split
    | dsimp only
    | intro _

theorem finishWrite_steady {s : State} {u : Acc} (k : Steady s u.2.2) (a0) (a1) (a2) (a3) :
    Steady s (finishWrite a0 a1 a2 a3 u) := by
  unfold finishWrite
  with_reducible repeat' first
    | assumption
    | apply steady_ite
    | apply State.afterWrite_steady
    | apply respond_steady
    | split
    | dsimp only
    | intro _

theorem State.writeObject_steady {s : State} {u : State} (k : Steady s u) (a0) (a1) (a2) (a3) (a4) :
    Steady s (State.writeObject a0 a1 a2 a3 a4 u).2.2 := by
  unfold State.writeObject
  with_reducible repeat' first
    | assumption
    | apply steady_ite
    | apply steady_ite_acc
    | apply guarded_steady
    | apply State.writeValue_steady
    | split
    | dsimp only
    | intro _

theorem execObjectWrite_steady {s : State} {u : State} (k : Steady s u) (a0) (a1) (a2) (a3) (a4) (a5) (a6) (a7) :
    SteadyR s (execObjectWrite a0 a1 a2 a3 a4 a5 a6 a7 u) := by
  unfold execObjectWrite
  with_reducible repeat' first
    | assumption
    | apply steady_ite
    | apply steadyR_ite
    | apply mailboxed_steady
    | apply State.mailboxAccess_steady
    | apply finishWrite_steady
    | apply State.writeObject_steady
    | apply SteadyR.next
    | split
    | dsimp only
    | intro _

theorem execMailboxOpenRequest_steady {s : State} {u : State} (k : Steady s u) (a0) (a1) (a2) :
    SteadyR s (execMailboxOpenRequest a0 a1 a2 u) := by
  unfold execMailboxOpenRequest
  with_reducible repeat' first
    | assumption
    | apply steady_ite
    | apply steadyR_ite
    | apply State.mbAccess_steady
    | apply mailboxed_steady
    | apply State.mailboxOpenOp_steady
    | apply SteadyR.next
    | split
    | dsimp only
    | intro _

theorem execEqEnable_steady {s : State} {u : State} (k : Steady s u) (a0) (a1) (a2) (a3) (a4) (a5) :
    SteadyR s (execEqEnable a0 a1 a2 a3 a4 a5 u) := by
  unfold execEqEnable
  with_reducible repeat' first
    | assumption
    | apply steady_ite
    | apply steadyR_ite
    | apply State.modEq_steady
    | apply SteadyR.next
    | split
    | dsimp only
    | intro _

theorem execEqCiWrite_steady {s : State} {u : State} (k : Steady s u) (a0) (a1) :
    SteadyR s (execEqCiWrite a0 a1 u) := by
  unfold execEqCiWrite
  with_reducible repeat' first
    | assumption
    | apply steady_ite
    | apply steadyR_ite
    | apply State.modEq_steady
    | apply SteadyR.next
    | split
    | dsimp only
    | intro _

theorem execEqStatusClear_steady {s : State} {u : State} (k : Steady s u) (a0) (a1) (a2) :
    SteadyR s (execEqStatusClear a0 a1 a2 u) := by
  unfold execEqStatusClear
  with_reducible repeat' first
    | assumption
    | apply steady_ite
    | apply steadyR_ite
    | apply State.modEq_steady
    | apply SteadyR.next
    | split
    | dsimp only
    | intro _

theorem execEqCoalesceIntervalEnd_steady {s : State} {u : State} (k : Steady s u) (a0) :
    SteadyR s (execEqCoalesceIntervalEnd a0 u) := by
  unfold execEqCoalesceIntervalEnd
  with_reducible repeat' first
    | assumption
    | apply steady_ite
    | apply steadyR_ite
    | apply State.msix_steady
    | apply State.modEq_steady
    | apply SteadyR.next
    | split
    | dsimp only
    | intro _

theorem execHeadReset_steady {s : State} {u : State} (k : Steady s u) (a0) :
    SteadyR s (execHeadReset a0 u) := by
  unfold execHeadReset
  with_reducible repeat' first
    | assumption
    | apply steady_ite
    | apply steadyR_ite
    | apply accessed_steady
    | apply respondAccess_steady
    | apply State.headResetOp_steady
    | apply SteadyR.next
    | split
    | dsimp only
    | intro _

theorem execHeadResetHoldEnd_steady {s : State} {u : State} (k : Steady s u) (a0) :
    SteadyR s (execHeadResetHoldEnd a0 u) := by
  unfold execHeadResetHoldEnd
  with_reducible repeat' first
    | assumption
    | apply steady_ite
    | apply steadyR_ite
    | apply State.modLink_steady
    | apply State.train_steady
    | apply SteadyR.next
    | split
    | dsimp only
    | intro _

theorem execKeelBridgeAccess_steady {s : State} {u : State} (k : Steady s u) (a0) (a1) (a2) :
    SteadyR s (execKeelBridgeAccess a0 a1 a2 u) := by
  unfold execKeelBridgeAccess
  with_reducible repeat' first
    | assumption
    | apply steady_ite
    | apply steadyR_ite
    | apply State.emit_steady
    | apply State.draw_steady
    | refine steady_snd_of_eq ‹State.draw _ = _› (State.draw_steady ?_)
    | apply SteadyR.next
    | split
    | dsimp only
    | intro _

theorem execKeelBridgeTimeout_steady {s : State} {u : State} (k : Steady s u) (a0) (a1) :
    SteadyR s (execKeelBridgeTimeout a0 a1 u) := by
  unfold execKeelBridgeTimeout
  with_reducible repeat' first
    | assumption
    | apply steady_ite
    | apply steadyR_ite
    | apply State.emit_steady
    | apply SteadyR.next
    | split
    | dsimp only
    | intro _

theorem execFullScanComplete_steady {s : State} {u : State} (k : Steady s u) (a0) (a1) :
    SteadyR s (execFullScanComplete a0 a1 u) := by
  unfold execFullScanComplete
  with_reducible repeat' first
    | assumption
    | apply steady_ite
    | apply steadyR_ite
    | (intro x h; simp only [TractS.canonical, Bool.and_eq_true] at h ⊢; (repeat' split) <;> (simp only [h, Tab.set_wf, Tab.mod_wf, Tab.put_wf, Tab.erase_wf, Tab.remap_wf, Tab.filter_wf, Tab.wf_nil, Tab.foldl_set_wf, Tab.foldl_mod_wf, loaded_wf, mergeActivity_wf, and_self]; done))
    | refine State.modTrc_steady ?_ ?_ 
    | apply State.modStr_steady
    | apply State.startTime_steady
    | apply State.fullScan_steady
    | apply SteadyR.next
    | split
    | dsimp only
    | intro _

theorem execSuspectRelease_steady {s : State} {u : State} (k : Steady s u) (a0) (a1) (a2) :
    SteadyR s (execSuspectRelease a0 a1 a2 u) := by
  unfold execSuspectRelease
  with_reducible repeat' first
    | assumption
    | apply steady_ite
    | apply steadyR_ite
    | apply guarded_steady
    | apply accessed_steady
    | apply respondAccess_steady
    | apply State.decisionOp_steady
    | apply SteadyR.next
    | split
    | dsimp only
    | intro _

theorem execSuspectDiscard_steady {s : State} {u : State} (k : Steady s u) (a0) (a1) (a2) :
    SteadyR s (execSuspectDiscard a0 a1 a2 u) := by
  unfold execSuspectDiscard
  with_reducible repeat' first
    | assumption
    | apply steady_ite
    | apply steadyR_ite
    | apply guarded_steady
    | apply accessed_steady
    | apply respondAccess_steady
    | apply State.decisionOp_steady
    | apply SteadyR.next
    | split
    | dsimp only
    | intro _

theorem State.sendAdvertise_steady {s : State} {u : State} (k : Steady s u)  :
    Steady s (State.sendAdvertise u) := by
  unfold State.sendAdvertise
  with_reducible repeat' first
    | assumption
    | apply steady_ite
    | apply State.emit_steady
    | apply State.countFrame_steady
    | split
    | dsimp only
    | intro _

theorem execConfigObjectWrite_steady {s : State} {u : State} (k : Steady s u) (a0) (a1) (a2) (a3) :
    SteadyR s (execConfigObjectWrite a0 a1 a2 a3 u) := by
  unfold execConfigObjectWrite
  with_reducible repeat' first
    | assumption
    | apply steady_ite
    | apply steadyR_ite
    | apply accessed_steady
    | apply finishWrite_steady
    | apply State.writeObject_steady
    | apply SteadyR.next
    | split
    | dsimp only
    | intro _

theorem State.applyDeferred_steady {s : State} {u : State} (k : Steady s u) (a0) (a1) (a2) (a3) :
    Steady s (State.applyDeferred a0 a1 a2 a3 u).2 := by
  unfold State.applyDeferred
  with_reducible repeat' first
    | assumption
    | apply steady_ite
    | apply steady_ite_snd
    | (intro x h; simp only [ObjS.canonical, Bool.and_eq_true] at h ⊢; (repeat' split) <;> (simp only [h, Tab.set_wf, Tab.mod_wf, Tab.put_wf, Tab.erase_wf, Tab.remap_wf, Tab.filter_wf, Tab.wf_nil, Tab.foldl_set_wf, Tab.foldl_mod_wf, loaded_wf, mergeActivity_wf, and_self]; done))
    | refine State.modObj_steady ?_ ?_ 
    | apply State.noteWriter_steady
    | apply State.storeConfig_steady
    | apply State.notifyObject_steady
    | apply State.applyCfg_steady
    | apply State.setKey_steady
    | apply State.setRegion_steady
    | refine steady_snd_of_eq ‹State.setRegion _ _ _ = _› (State.setRegion_steady ?_ _ _)
    | apply State.clearSticky_steady
    | apply State.setSnap_steady
    | apply State.setLimits_steady
    | split
    | dsimp only
    | intro _

theorem State.storeDeferred_steady {s : State} {u : State} (k : Steady s u) (a0) :
    Steady s (State.storeDeferred a0 u) := by
  unfold State.storeDeferred
  with_reducible repeat' first
    | assumption
    | apply steady_ite
    | (intro x h; simp only [ObjS.canonical, Bool.and_eq_true] at h ⊢; (repeat' split) <;> (simp only [h, Tab.set_wf, Tab.mod_wf, Tab.put_wf, Tab.erase_wf, Tab.remap_wf, Tab.filter_wf, Tab.wf_nil, Tab.foldl_set_wf, Tab.foldl_mod_wf, loaded_wf, mergeActivity_wf, and_self]; done))
    | refine State.modObj_steady ?_ ?_ 
    | apply State.ticketDone_steady
    | apply State.noteWriter_steady
    | apply State.storeConfig_steady
    | apply State.applyDeferred_steady
    | refine steady_snd_of_eq ‹State.applyDeferred _ _ _ _ _ = _› (State.applyDeferred_steady ?_ _ _ _ _)
    | split
    | dsimp only
    | intro _

theorem execPersistWriteDeferredDone_steady {s : State} {u : State} (k : Steady s u) (a0) :
    SteadyR s (execPersistWriteDeferredDone a0 u) := by
  unfold execPersistWriteDeferredDone
  with_reducible repeat' first
    | assumption
    | apply steady_ite
    | apply steadyR_ite
    | apply accessed_steady
    | apply State.storeDeferred_steady
    | apply SteadyR.next
    | split
    | dsimp only
    | intro _

theorem execNoOperation_steady {s : State} {u : State} (k : Steady s u) (a0) :
    SteadyR s (execNoOperation a0 u) := by
  unfold execNoOperation
  with_reducible repeat' first
    | assumption
    | apply steady_ite
    | apply steadyR_ite
    | apply guarded_steady
    | apply accessed_steady
    | apply respondAccess_steady
    | apply State.noOp_steady
    | apply SteadyR.next
    | split
    | dsimp only
    | intro _

theorem execRestoreDefaults_steady {s : State} {u : State} (k : Steady s u) (a0) :
    SteadyR s (execRestoreDefaults a0 u) := by
  unfold execRestoreDefaults
  with_reducible repeat' first
    | assumption
    | apply steady_ite
    | apply steadyR_ite
    | apply guarded_steady
    | apply accessed_steady
    | apply respondAccess_steady
    | apply State.restoreOp_steady
    | apply SteadyR.next
    | split
    | dsimp only
    | intro _

theorem execSanitizeExtents_steady {s : State} {u : State} (k : Steady s u) (a0) (a1) (a2) :
    SteadyR s (execSanitizeExtents a0 a1 a2 u) := by
  unfold execSanitizeExtents
  with_reducible repeat' first
    | assumption
    | apply steady_ite
    | apply steadyR_ite
    | apply guarded_steady
    | apply accessed_steady
    | apply respondAccess_steady
    | apply State.sanitizeOp_steady
    | apply SteadyR.next
    | split
    | dsimp only
    | intro _

theorem execTallySample_steady {s : State} {u : State} (k : Steady s u)  :
    SteadyR s (execTallySample u) := by
  unfold execTallySample
  with_reducible repeat' first
    | assumption
    | apply steady_ite
    | apply steadyR_ite
    | (intro x h; simp only [TallyS.canonical, Bool.and_eq_true] at h ⊢; (repeat' split) <;> (simp only [h, Tab.set_wf, Tab.mod_wf, Tab.put_wf, Tab.erase_wf, Tab.remap_wf, Tab.filter_wf, Tab.wf_nil, Tab.filterMap_range_wf, Tab.foldl_set_wf, Tab.foldl_mod_wf, loaded_wf, mergeActivity_wf, and_self]; done))
    | refine State.modTly_steady ?_ ?_ 
    | apply SteadyR.next
    | split
    | dsimp only
    | intro _

theorem State.countRequest_steady {s : State} {u : State} (k : Steady s u)  :
    Steady s (State.countRequest u) := by
  unfold State.countRequest
  with_reducible repeat' first
    | assumption
    | apply steady_ite
    | (intro x h; simp only [WopS.canonical, Bool.and_eq_true] at h ⊢; (repeat' split) <;> (simp only [h, Tab.set_wf, Tab.mod_wf, Tab.put_wf, Tab.erase_wf, Tab.remap_wf, Tab.filter_wf, Tab.wf_nil, Tab.foldl_set_wf, Tab.foldl_mod_wf, loaded_wf, mergeActivity_wf, and_self]; done))
    | refine State.modWop_steady ?_ ?_ 
    | split
    | dsimp only
    | intro _

theorem execSolicit_steady {s : State} {u : State} (k : Steady s u) (a0) (a1) (a2) (a3) :
    SteadyR s (execSolicit a0 a1 a2 a3 u) := by
  unfold execSolicit
  with_reducible repeat' first
    | assumption
    | apply steady_ite
    | apply steadyR_ite
    | (intro x h; simp only [WopS.canonical, Bool.and_eq_true] at h ⊢; (repeat' split) <;> (simp only [h, Tab.set_wf, Tab.mod_wf, Tab.put_wf, Tab.erase_wf, Tab.remap_wf, Tab.filter_wf, Tab.wf_nil, Tab.foldl_set_wf, Tab.foldl_mod_wf, loaded_wf, mergeActivity_wf, and_self]; done))
    | refine State.modWop_steady ?_ ?_ 
    | apply State.emit_steady
    | apply State.countFrame_steady
    | apply State.countRequest_steady
    | apply SteadyR.next
    | split
    | dsimp only
    | intro _

theorem execAdvertiseAnswerTimer_steady {s : State} {u : State} (k : Steady s u)  :
    SteadyR s (execAdvertiseAnswerTimer u) := by
  unfold execAdvertiseAnswerTimer
  with_reducible repeat' first
    | assumption
    | apply steady_ite
    | apply steadyR_ite
    | (intro x h; simp only [WopS.canonical, Bool.and_eq_true] at h ⊢; (repeat' split) <;> (simp only [h, Tab.set_wf, Tab.mod_wf, Tab.put_wf, Tab.erase_wf, Tab.remap_wf, Tab.filter_wf, Tab.wf_nil, Tab.foldl_set_wf, Tab.foldl_mod_wf, loaded_wf, mergeActivity_wf, and_self]; done))
    | refine State.modWop_steady ?_ ?_ 
    | apply State.sendAdvertise_steady
    | apply SteadyR.next
    | split
    | dsimp only
    | intro _

theorem execAdvertisePeriod_steady {s : State} {u : State} (k : Steady s u)  :
    SteadyR s (execAdvertisePeriod u) := by
  unfold execAdvertisePeriod
  with_reducible repeat' first
    | assumption
    | apply steady_ite
    | apply steadyR_ite
    | apply State.sendAdvertise_steady
    | apply SteadyR.next
    | split
    | dsimp only
    | intro _

theorem State.wopAnswer_steady {s : State} {u : State} (k : Steady s u) (a0) (a1) (a2) (a3) :
    Steady s (State.wopAnswer a0 a1 a2 a3 u) := by
  unfold State.wopAnswer
  with_reducible repeat' first
    | assumption
    | apply steady_ite
    | apply State.emit_steady
    | apply State.countFrame_steady
    | split
    | dsimp only
    | intro _

theorem execOpenSession_steady {s : State} {u : State} (k : Steady s u) (a0) (a1) (a2) (a3) (a4) (a5) :
    SteadyR s (execOpenSession a0 a1 a2 a3 a4 a5 u) := by
  unfold execOpenSession
  with_reducible repeat' first
    | assumption
    | apply steady_ite
    | apply steadyR_ite
    | apply State.countFrame_steady
    | apply State.recordSess_steady
    | refine State.openRefused_steady ?_ _ ‹State.openRefused _ _ = some _›
    | apply State.freshSession_steady
    | refine steady_snd_of_eq ‹State.freshSession _ _ _ = _› (State.freshSession_steady ?_ _ _)
    | apply State.beginSess_steady
    | apply State.dropTag_steady
    | apply State.countRequest_steady
    | apply State.wopAnswer_steady
    | apply SteadyR.next
    | split
    | dsimp only
    | intro _

theorem State.wopRequest_steady {s : State} {a5 : State → State} (ka5 : ∀  v, Steady s v → Steady s (a5  v)) {u : State} (k : Steady s u) (a0) (a1) (a2) (a3) (a4) :
    Steady s (State.wopRequest a0 a1 a2 a3 a4 a5 u) := by
  unfold State.wopRequest
  with_reducible repeat' first
    | assumption
    | apply steady_ite
    | apply State.emit_steady
    | apply State.countFrame_steady
    | apply State.modSession_steady
    | apply State.dropTag_steady
    | apply State.touch_steady
    | apply State.countRequest_steady
    | apply State.wopAnswer_steady
    | refine ka5  _ ?_
    | split
    | dsimp only
    | intro _

theorem State.wopReply_steady {s : State} {u : State} (k : Steady s u) (a0) (a1) (a2) (a3) (a4) (a5) :
    Steady s (State.wopReply a0 a1 a2 a3 a4 a5 u) := by
  unfold State.wopReply
  with_reducible repeat' first
    | assumption
    | apply steady_ite
    | apply State.respondTo_steady
    | split
    | dsimp only
    | intro _

theorem execClose_steady {s : State} {u : State} (k : Steady s u) (a0) (a1) (a2) :
    SteadyR s (execClose a0 a1 a2 u) := by
  unfold execClose
  with_reducible repeat' first
    | assumption
    | apply steady_ite
    | apply steadyR_ite
    | apply State.closeSess_steady
    | apply State.wopRequest_steady
    | apply State.wopReply_steady
    | apply SteadyR.next
    | split
    | dsimp only
    | intro _

theorem execRead_steady {s : State} {u : State} (k : Steady s u) (a0) (a1) (a2) (a3) (a4) (a5) :
    SteadyR s (execRead a0 a1 a2 a3 a4 a5 u) := by
  unfold execRead
  with_reducible repeat' first
    | assumption
    | apply steady_ite
    | apply steadyR_ite
    | apply State.readObject_steady
    | refine steady_snd_of_eq ‹State.readObject _ _ _ _ _ = _› (State.readObject_steady ?_ _ _ _ _)
    | apply State.wopRequest_steady
    | apply State.wopReply_steady
    | apply SteadyR.next
    | split
    | dsimp only
    | intro _

theorem execWrite_steady {s : State} {u : State} (k : Steady s u) (a0) (a1) (a2) (a3) (a4) (a5) (a6) :
    SteadyR s (execWrite a0 a1 a2 a3 a4 a5 a6 u) := by
  unfold execWrite
  with_reducible repeat' first
    | assumption
    | apply steady_ite
    | apply steadyR_ite
    | apply finishWrite_steady
    | apply State.writeObject_steady
    | apply State.wopRequest_steady
    | apply SteadyR.next
    | split
    | dsimp only
    | intro _

theorem State.readItems_steady {s : State} {u : State} (k : Steady s u) (a0) (a1) (a2) :
    Steady s (State.readItems a0 a1 a2 u).2 := by
  induction a2 generalizing u a0 a1 with
  | nil =>
    unfold State.readItems
    with_reducible repeat' first
      | assumption
      | apply steady_ite
      | apply steady_ite_snd
      | apply State.readObject_steady
      | refine steady_snd_of_eq ‹State.readObject _ _ _ _ _ = _› (State.readObject_steady ?_ _ _ _ _)
      | split
      | dsimp only
      | intro _
  | cons _ _ ih =>
    unfold State.readItems
    with_reducible repeat' first
      | assumption
      | apply steady_ite
      | apply steady_ite_snd
      | apply State.readObject_steady
      | refine steady_snd_of_eq ‹State.readObject _ _ _ _ _ = _› (State.readObject_steady ?_ _ _ _ _)
      | refine ih ?_ _ _
      | split
      | dsimp only
      | intro _

theorem execReadMulti_steady {s : State} {u : State} (k : Steady s u) (a0) (a1) (a2) (a3) (a4) :
    SteadyR s (execReadMulti a0 a1 a2 a3 a4 u) := by
  unfold execReadMulti
  with_reducible repeat' first
    | assumption
    | apply steady_ite
    | apply steadyR_ite
    | apply State.wopRequest_steady
    | apply State.wopReply_steady
    | apply State.readItems_steady
    | refine steady_snd_of_eq ‹State.readItems _ _ _ _ = _› (State.readItems_steady ?_ _ _ _)
    | apply SteadyR.next
    | split
    | dsimp only
    | intro _

theorem State.sendSegments_steady {s : State} {u : State} (k : Steady s u) (a0) (a1) (a2) :
    Steady s (State.sendSegments a0 a1 a2 u) := by
  unfold State.sendSegments
  with_reducible repeat' first
    | assumption
    | apply steady_ite
    | refine forEach_steady (fun _ _ _ => ?_) ?_ _
    | apply State.emit_steady
    | apply State.countFrame_steady
    | split
    | dsimp only
    | intro _

theorem execBulkStart_steady {s : State} {u : State} (k : Steady s u) (a0) (a1) (a2) (a3) (a4) (a5) (a6) (a7) :
    SteadyR s (execBulkStart a0 a1 a2 a3 a4 a5 a6 a7 u) := by
  unfold execBulkStart
  with_reducible repeat' first
    | assumption
    | apply steady_ite
    | apply steadyR_ite
    | (intro x h; simp only [WopS.canonical, Bool.and_eq_true] at h ⊢; (repeat' split) <;> (simp only [h, Tab.set_wf, Tab.mod_wf, Tab.put_wf, Tab.erase_wf, Tab.remap_wf, Tab.filter_wf, Tab.wf_nil, Tab.foldl_set_wf, Tab.foldl_mod_wf, loaded_wf, mergeActivity_wf, and_self]; done))
    | refine State.modWop_steady ?_ ?_ 
    | apply State.wopRequest_steady
    | apply State.wopReply_steady
    | apply State.sendSegments_steady
    | apply SteadyR.next
    | split
    | dsimp only
    | intro _

theorem State.bulkSegment_steady {s : State} {u : State} (k : Steady s u) (a0) (a1) (a2) :
    Steady s (State.bulkSegment a0 a1 a2 u) := by
  unfold State.bulkSegment
  with_reducible repeat' first
    | assumption
    | apply steady_ite
    | apply State.emit_steady
    | apply State.countFrame_steady
    | apply State.endBulk_steady
    | apply State.putBulk_steady
    | apply State.imageWrite_steady
    | refine steady_snd_of_eq ‹State.imageWrite _ _ _ = _› (State.imageWrite_steady ?_ _ _)
    | split
    | dsimp only
    | intro _

theorem State.bulkHeard_steady {s : State} {u : State} (k : Steady s u) (a0) :
    Steady s (State.bulkHeard a0 u) := by
  unfold State.bulkHeard
  with_reducible repeat' first
    | assumption
    | apply steady_ite
    | apply State.countFrame_steady
    | apply State.touch_steady
    | split
    | dsimp only
    | intro _

theorem execBulkData_steady {s : State} {u : State} (k : Steady s u) (a0) (a1) (a2) (a3) (a4) :
    SteadyR s (execBulkData a0 a1 a2 a3 a4 u) := by
  unfold execBulkData
  with_reducible repeat' first
    | assumption
    | apply steady_ite
    | apply steadyR_ite
    | apply State.countFrame_steady
    | apply State.bulkSegment_steady
    | apply State.bulkHeard_steady
    | apply SteadyR.next
    | split
    | dsimp only
    | intro _

theorem execBulkAck_steady {s : State} {u : State} (k : Steady s u) (a0) (a1) (a2) (a3) :
    SteadyR s (execBulkAck a0 a1 a2 a3 u) := by
  unfold execBulkAck
  with_reducible repeat' first
    | assumption
    | apply steady_ite
    | apply steadyR_ite
    | apply State.countFrame_steady
    | apply State.endBulk_steady
    | apply State.putBulk_steady
    | apply State.sendSegments_steady
    | apply State.bulkHeard_steady
    | apply SteadyR.next
    | split
    | dsimp only
    | intro _

theorem execBulkOutOfOrderAck_steady {s : State} {u : State} (k : Steady s u) (a0) :
    SteadyR s (execBulkOutOfOrderAck a0 u) := by
  unfold execBulkOutOfOrderAck
  with_reducible repeat' first
    | assumption
    | apply steady_ite
    | apply steadyR_ite
    | apply State.emit_steady
    | apply State.countFrame_steady
    | apply State.putBulk_steady
    | apply SteadyR.next
    | split
    | dsimp only
    | intro _

theorem execBulkTimeout_steady {s : State} {u : State} (k : Steady s u) (a0) :
    SteadyR s (execBulkTimeout a0 u) := by
  unfold execBulkTimeout
  with_reducible repeat' first
    | assumption
    | apply steady_ite
    | apply steadyR_ite
    | apply State.endBulk_steady
    | apply SteadyR.next
    | split
    | dsimp only
    | intro _

theorem execSubscribe_steady {s : State} {u : State} (k : Steady s u) (a0) (a1) (a2) (a3) (a4) (a5) (a6) (a7) (a8) (a9) :
    SteadyR s (execSubscribe a0 a1 a2 a3 a4 a5 a6 a7 a8 a9 u) := by
  unfold execSubscribe
  with_reducible repeat' first
    | assumption
    | apply steady_ite
    | apply steadyR_ite
    | apply State.modSession_steady
    | apply State.wopRequest_steady
    | apply State.wopReply_steady
    | apply SteadyR.next
    | split
    | dsimp only
    | intro _

theorem execKeepalive_steady {s : State} {u : State} (k : Steady s u) (a0) (a1) (a2) (a3) :
    SteadyR s (execKeepalive a0 a1 a2 a3 u) := by
  unfold execKeepalive
  with_reducible repeat' first
    | assumption
    | apply steady_ite
    | apply steadyR_ite
    | apply State.wopRequest_steady
    | apply State.wopReply_steady
    | apply SteadyR.next
    | split
    | dsimp only
    | intro _

theorem execStrangerFrame_steady {s : State} {u : State} (k : Steady s u) (a0) :
    SteadyR s (execStrangerFrame a0 u) := by
  unfold execStrangerFrame
  with_reducible repeat' first
    | assumption
    | apply steady_ite
    | apply steadyR_ite
    | apply State.countFrame_steady
    | apply State.dropTag_steady
    | apply SteadyR.next
    | split
    | dsimp only
    | intro _

theorem execNeighborDiscovery_steady {s : State} {u : State} (k : Steady s u)  :
    SteadyR s (execNeighborDiscovery u) := by
  unfold execNeighborDiscovery
  with_reducible repeat' first
    | assumption
    | apply steady_ite
    | apply steadyR_ite
    | apply State.networkAnswer_steady
    | apply SteadyR.next
    | split
    | dsimp only
    | intro _

theorem execSessionIdleTimeout_steady {s : State} {u : State} (k : Steady s u) (a0) :
    SteadyR s (execSessionIdleTimeout a0 u) := by
  unfold execSessionIdleTimeout
  with_reducible repeat' first
    | assumption
    | apply steady_ite
    | apply steadyR_ite
    | apply State.closeSess_steady
    | apply SteadyR.next
    | split
    | dsimp only
    | intro _

theorem execCloseSession_steady {s : State} {u : State} (k : Steady s u) (a0) :
    SteadyR s (execCloseSession a0 u) := by
  unfold execCloseSession
  with_reducible repeat' first
    | assumption
    | apply steady_ite
    | apply steadyR_ite
    | apply accessed_steady
    | apply finishWrite_steady
    | apply State.writeObject_steady
    | apply SteadyR.next
    | split
    | dsimp only
    | intro _

theorem execTagFailureSecond_steady {s : State} {u : State} (k : Steady s u)  :
    SteadyR s (execTagFailureSecond u) := by
  unfold execTagFailureSecond
  with_reducible repeat' first
    | assumption
    | apply steady_ite
    | apply steadyR_ite
    | (intro x h; simp only [WopS.canonical, Bool.and_eq_true] at h ⊢; (repeat' split) <;> (simp only [h, Tab.set_wf, Tab.mod_wf, Tab.put_wf, Tab.erase_wf, Tab.remap_wf, Tab.filter_wf, Tab.wf_nil, Tab.foldl_set_wf, Tab.foldl_mod_wf, loaded_wf, mergeActivity_wf, and_self]; done))
    | refine State.modWop_steady ?_ ?_ 
    | apply State.securityFrom_steady
    | apply State.draw_steady
    | refine steady_snd_of_eq ‹State.draw _ = _› (State.draw_steady ?_)
    | apply SteadyR.next
    | split
    | dsimp only
    | intro _

theorem execPlcaModeWrite_steady {s : State} {u : State} (k : Steady s u) (a0) :
    SteadyR s (execPlcaModeWrite a0 u) := by
  unfold execPlcaModeWrite
  with_reducible repeat' first
    | assumption
    | apply steady_ite
    | apply steadyR_ite
    | apply accessed_steady
    | apply respondAccess_steady
    | apply State.putObject_steady
    | apply SteadyR.next
    | split
    | dsimp only
    | intro _

theorem execPlcaBeacon_steady {s : State} {u : State} (k : Steady s u)  :
    SteadyR s (execPlcaBeacon u) := by
  unfold execPlcaBeacon
  with_reducible repeat' first
    | assumption
    | apply steady_ite
    | apply steadyR_ite
    | (intro x h; simp only [WopS.canonical, Bool.and_eq_true] at h ⊢; (repeat' split) <;> (simp only [h, Tab.set_wf, Tab.mod_wf, Tab.put_wf, Tab.erase_wf, Tab.remap_wf, Tab.filter_wf, Tab.wf_nil, Tab.foldl_set_wf, Tab.foldl_mod_wf, loaded_wf, mergeActivity_wf, and_self]; done))
    | refine State.modWop_steady ?_ ?_ 
    | apply SteadyR.next
    | split
    | dsimp only
    | intro _

theorem execT1sPathFailure_steady {s : State} {u : State} (k : Steady s u) (a0) :
    SteadyR s (execT1sPathFailure a0 u) := by
  unfold execT1sPathFailure
  with_reducible repeat' first
    | assumption
    | apply steady_ite
    | apply steadyR_ite
    | apply State.report_steady
    | apply SteadyR.next
    | split
    | dsimp only
    | intro _

end Sys2Proof.Machine
end

