-- ==== Sys2Proof/Laws/SteadyStep.lean ====
section
/-! SUPPORT. What every operation and meaning leaves true (management ready and the clock). -/

set_option Elab.async false

set_option linter.unusedTactic false
set_option linter.unreachableTactic false
set_option linter.unnecessarySeqFocus false
set_option linter.unusedSimpArgs false

namespace Sys2Proof.Machine

theorem State.coxReturns_steady {s : State} {u : State} (k : Steady s u)  :
    Steady s (State.coxReturns u) := by
  unfold State.coxReturns
  with_reducible repeat' first
    | assumption
    | apply steady_ite
    | apply State.modCox_steady
    | split
    | dsimp only
    | intro _

theorem State.corePeriods_steady {s : State} {u : State} (k : Steady s u)  :
    Steady s (State.corePeriods u) := by
  unfold State.corePeriods
  with_reducible repeat' first
    | assumption
    | apply steady_ite
    | (intro x; (try dsimp only); (repeat' split) <;> (simp only [Nat.le_refl]; done))
    | (intro x; dsimp only; omega)
    | (intro x h; simp only [WbS.canonical, Bool.and_eq_true] at h ⊢; (repeat' split) <;> (simp only [h, Tab.set_wf, Tab.mod_wf, Tab.put_wf, Tab.erase_wf, Tab.remap_wf, Tab.filter_wf, Tab.wf_nil, Tab.foldl_set_wf, Tab.foldl_mod_wf, loaded_wf, mergeActivity_wf, and_self]; done))
    | refine State.modWb_steady ?_ ?_ ?_ 
    | refine forEach_steady (fun _ _ _ => ?_) ?_ _
    | apply State.modPort_steady
    | split
    | dsimp only
    | intro _

theorem State.sampleInput_steady {s : State} {u : State} (k : Steady s u)  :
    Steady s (State.sampleInput u) := by
  unfold State.sampleInput
  with_reducible repeat' first
    | assumption
    | apply steady_ite
    | (intro x h; simp only [PowerS.canonical, Bool.and_eq_true] at h ⊢; (repeat' split) <;> (simp only [h, Tab.set_wf, Tab.mod_wf, Tab.put_wf, Tab.erase_wf, Tab.remap_wf, Tab.filter_wf, Tab.wf_nil, Tab.foldl_set_wf, Tab.foldl_mod_wf, loaded_wf, mergeActivity_wf, and_self]; done))
    | refine State.modPwr_steady ?_ ?_ 
    | apply State.draw_steady
    | refine steady_snd_of_eq ‹State.draw _ = _› (State.draw_steady ?_)
    | split
    | dsimp only
    | intro _

theorem tick_steady {s : State} {u : State} (k : Steady s u)  :
    Steady s (tick u) := by
  unfold tick
  with_reducible repeat' first
    | assumption
    | apply steady_ite
    | (intro x h; simp only [ThermS.canonical, Bool.and_eq_true] at h ⊢; (repeat' split) <;> (simp only [h, Tab.set_wf, Tab.mod_wf, Tab.put_wf, Tab.erase_wf, Tab.remap_wf, Tab.filter_wf, Tab.wf_nil, Tab.foldl_set_wf, Tab.foldl_mod_wf, loaded_wf, mergeActivity_wf, and_self]; done))
    | apply State.modTim_steady
    | refine State.modThm_steady ?_ ?_ 
    | apply State.startSync_steady
    | apply State.corePeriods_steady
    | apply State.sampleInput_steady
    | split
    | dsimp only
    | intro _

theorem State.resumeClear_steady {s : State} {u : State} (k : Steady s u)  :
    Steady s (State.resumeClear u) := by
  unfold State.resumeClear
  with_reducible repeat' first
    | assumption
    | apply steady_ite
    | apply State.flashAsk_steady
    | split
    | dsimp only
    | intro _

theorem State.orphanEnd_steady {s : State} {u : State} (k : Steady s u)  :
    Steady s (State.orphanEnd u) := by
  unfold State.orphanEnd
  with_reducible repeat' first
    | assumption
    | apply steady_ite
    | apply State.modCox_steady
    | apply State.storeWrite_steady
    | split
    | dsimp only
    | intro _

theorem State.settleActivation_steady {s : State} {u : State} (k : Steady s u)  :
    Steady s (State.settleActivation u) := by
  unfold State.settleActivation
  with_reducible repeat' first
    | assumption
    | apply steady_ite
    | apply State.modImg_steady
    | apply State.ticketDone_steady
    | split
    | dsimp only
    | intro _

theorem State.settleEnded_steady {s : State} {u : State} (k : Steady s u)  :
    Steady s (State.settleEnded u) := by
  unfold State.settleEnded
  with_reducible repeat' first
    | assumption
    | apply steady_ite
    | (intro x h; simp only [ObjS.canonical, Bool.and_eq_true] at h ⊢; (repeat' split) <;> (simp only [h, Tab.set_wf, Tab.mod_wf, Tab.put_wf, Tab.erase_wf, Tab.remap_wf, Tab.filter_wf, Tab.wf_nil, Tab.foldl_set_wf, Tab.foldl_mod_wf, loaded_wf, mergeActivity_wf, and_self]; done))
    | refine State.modObj_steady ?_ ?_ 
    | refine forEach_steady (fun _ _ _ => ?_) ?_ _
    | apply State.ticketDone_steady
    | split
    | dsimp only
    | intro _

theorem State.resumeTimeouts_steady {s : State} {u : State} (k : Steady s u)  :
    Steady s (State.resumeTimeouts u) := by
  unfold State.resumeTimeouts
  with_reducible repeat' first
    | assumption
    | apply steady_ite
    | (intro x h; simp only [ExtS.canonical, Bool.and_eq_true] at h ⊢; (repeat' split) <;> (simp only [h, Tab.set_wf, Tab.mod_wf, Tab.put_wf, Tab.erase_wf, Tab.remap_wf, Tab.filter_wf, Tab.wf_nil, Tab.foldl_set_wf, Tab.foldl_mod_wf, loaded_wf, mergeActivity_wf, and_self]; done))
    | refine State.modExt_steady ?_ ?_ 
    | split
    | dsimp only
    | intro _

theorem runMailbox_steady {s : State} {u : State} (k : Steady s u) (a0) :
    Steady s (runMailbox a0 u) := by
  unfold runMailbox
  with_reducible repeat' first
    | assumption
    | apply steady_ite
    | apply Res.stateOr_steady
    | apply execGetShutdownState_steady
    | apply execMailboxOpenReply_steady
    | apply execSanitize_steady
    | apply execGetPoisonList_steady
    | apply execSetShutdownState_steady
    | apply execSecureErase_steady
    | apply execAddDynamicCapacityResponse_steady
    | apply execReleaseDynamicCapacity_steady
    | apply execGetDynamicCapacityExtentList_steady
    | apply execObjectRead_steady
    | apply execObjectWrite_steady
    | apply execSetExtentHint_steady
    | apply execGetExtentState_steady
    | apply execUnsupportedOpcode_steady
    | apply execGetHealthInfo_steady
    | apply execMailboxOpenRequest_steady
    | split
    | dsimp only
    | intro _

theorem State.runDoorbell_steady {s : State} {u : State} (k : Steady s u) (a0) :
    Steady s (State.runDoorbell a0 u) := by
  unfold State.runDoorbell
  with_reducible repeat' first
    | assumption
    | apply steady_ite
    | apply State.modHead_steady
    | apply runMailbox_steady
    | split
    | dsimp only
    | intro _

theorem execManagementReady_steady {s : State} {u : State} (k : Steady s u)  :
    SteadyR s (execManagementReady u) := by
  unfold execManagementReady
  with_reducible repeat' first
    | assumption
    | apply steady_ite
    | apply steadyR_ite
    | apply State.modStr_steady
    | refine forEach_steady (fun _ _ _ => ?_) ?_ _
    | apply State.record_steady
    | apply State.startTime_steady
    | apply State.mapStep_steady
    | apply State.startSync_steady
    | apply State.healthSync_steady
    | apply State.probeWaiting_steady
    | apply State.coxReturns_steady
    | apply State.plcaStart_steady
    | apply State.resumeClear_steady
    | apply State.orphanEnd_steady
    | apply State.settleActivation_steady
    | apply State.settleEnded_steady
    | apply State.resumeTimeouts_steady
    | apply State.sendAdvertise_steady
    | apply State.sendAddressProbe_steady
    | apply State.runDoorbell_steady
    | apply SteadyR.next
    | split
    | dsimp only
    | intro _

theorem State.withFetchWord_steady {s : State} {u : State} (k : Steady s u) (a1) (a2) :
    Steady s (State.withFetchWord u a1 a2) := by
  unfold State.withFetchWord
  with_reducible repeat' first
    | assumption
    | apply steady_ite
    | apply State.modPending_steady
    | split
    | dsimp only
    | intro _

end Sys2Proof.Machine
end

