-- ==== Sys2Proof/Machine/Bar.lean ====
section
/-! DEFINITION. What a host reads of a head over CXL.io: BAR0 and BAR2 by offset, the DVSECs, the list of features (03 R63, R66, R67,
R86–R89, 04 R94, R110, 06 R150). The opcode table has no row for such a read, so no command calls these; they give the registers their
contents (notes/assumptions/74.md). -/

namespace Sys2Proof.Machine

/-- EQ_CTRL (04 R110). -/
def EqS.ctrl (q : EqS) : Nat := bit q.enable * 2 ^ 31 + q.size % 16 * 2 ^ 16 + q.mask.toNat

/-- EQ_STATUS (04 R110): ACTIVE while the queue is enabled and the link is up. -/
def State.eqStatus (s : State) (h : Nat) : Nat :=
  let q := (s.head h).eq
  bit q.overflow * 2 ^ 31 + bit q.ciErr * 2 ^ 30 + bit (q.enable && s.linkUp h) * 2 ^ 29

/-- A register of the event queue page (04 R110). -/
def State.eqPage (s : State) (h offset : Nat) : Nat :=
  let q := (s.head h).eq
  match offset with
  | 0x000 => q.base
  | 0x008 => q.mirror
  | 0x010 => q.ctrl
  | 0x018 => q.coal
  | 0x020 => q.ci.toNat
  | 0x028 => q.pi.toNat
  | 0x030 => s.eqStatus h
  | 0x038 => q.dropped
  | _ => 0

/-- INFLIGHT (03 R89). -/
def State.inflightWord (s : State) (h : Nat) : Nat := s.cfg (0x2100 + h) 1 % 2 ^ 16 * 2 ^ 16 + (s.head h).inflight % 2 ^ 16

/-- A register of the Aflar port page (03 R89); writes to the page are ignored, so that no command writes it. -/
def State.portPage (s : State) (h offset : Nat) : Nat :=
  match offset with
  | 0x000 => (s.aflIdent h).toNat
  | 0x008 => (s.linkStatus h).toNat
  | 0x010 => (s.boundStatus h).toNat
  | 0x018 => s.inflightWord h
  | 0x020 => (s.link h).downCount % 2 ^ 32
  | _ => 0

/-- The blocks of BAR0 (03 R86). -/
inductive BarBlock where
  | component | device | eventQueue | counters | port | reserved
  deriving DecidableEq, Repr

/-- The block of an offset of BAR0 (03 R86). -/
def barBlock (offset : Nat) : BarBlock :=
  if offset < 0x10000 then .component
  else if offset < 0x20000 then .device
  else if offset < 0x21000 then .eventQueue
  else if offset < 0x22000 then .counters
  else if offset < 0x23000 then .port
  else .reserved

/-- A read of BAR0 (03 R86): an unlisted offset reads zero; none in the two standard blocks, whose layout the source leaves to the
standard. -/
def State.bar0 (s : State) (h offset : Nat) : Option Nat :=
  match barBlock offset with
  | .component => none
  | .device => none
  | .eventQueue => some (s.eqPage h (offset - 0x20000))
  | .counters => some (s.counterPage h (offset - 0x21000))
  | .port => some (s.portPage h (offset - 0x22000))
  | .reserved => some 0

/-- A vector's entry of the MSI-X table in BAR2 (03 R86, R113): address, data, mask bit. -/
def State.msixEntry (s : State) (h v : Nat) : Nat × Nat × Bool :=
  let l := s.link h
  ((l.msixTable.getD v (0, 0)).1, (l.msixTable.getD v (0, 0)).2, testBit l.msixMask v)

/-- The pending bit array at BAR2 + 0x1000 (03 R86). -/
def State.pendingBits (s : State) (h : Nat) : Nat := (s.link h).msixPending

/-- The header of the Aflar DVSEC: vendor, identifier, revision (03 R88). -/
def aflHeader : Nat × Nat × Nat := (0x1FA4, 0x0001, 0)

/-- A register of the Aflar DVSEC (03 R88). -/
def State.aflDvsec (s : State) (h offset : Nat) : Nat :=
  match offset with
  | 0x0C => (s.aflIdent h).toNat
  | 0x10 => Config.serial % 2 ^ 64
  | 0x18 => 0x20000
  | 0x1C => bit (decide (s.cfg (0x2100 + h) 2 = 1)) * 2 + 1
  | _ => 0

/-- The control bits of the CXL DVSEC that the spec names: Mem_Enable, Viral_Enable, Memory_Active (03 R67, R75). -/
def State.cxlControl (s : State) (h : Nat) : Bool × Bool × Bool :=
  ((s.link h).memEnable, (s.link h).viralEnable, s.memoryActive h)

/-- CXL Reset Capable (03 R63). -/
def cxlResetCapable : Bool := false

/-- The DOE protocols of a function (03 R63). -/
inductive DoeProtocol where
  | discovery | cmaSpdm | ideKm | cdat
  deriving DecidableEq, Repr

/-- Every DOE protocol that is supported (03 R63). -/
def doeProtocols : List DoeProtocol := [.discovery, .cmaSpdm, .ideKm, .cdat]

/-- Receiver margining is supported for time and for voltage; ASPM L0s, L1 and L0p are not (03 R63). -/
def marginingSupported : Bool × Bool := (true, true)

/-- ASPM L0s, L1 and L0p are advertised as not supported (03 R63). -/
def aspmSupported : Bool × Bool × Bool := (false, false, false)

/-- The class code of function 0 (03 R86). -/
def classCodeOf : Nat := 0x050210

end Sys2Proof.Machine
end

