-- ==== Sys2Proof/Machine/Message.lean ====
section
/-! DEFINITION. The formats of the Wobry Object Protocol: the header, its tag, the payload of responses, the tag of a mailbox access (12
R287, R288, R292, R299); the frames of the seat bus (15 R357). -/

namespace Sys2Proof.Machine

/-- The WOP header but for its tag (R287). -/
structure WopHeader where
  service : Nat := 0
  /-- Bit 0 response, bit 1 serial-addressed, bit 2 multicast. -/
  flags : Nat := 0
  status : Nat := 0
  session : Nat := 0
  seq : Nat := 0
  /-- Destination pool address; of a message of the module, its own. -/
  pool : Nat := 0
  manager : Nat := 0
  /-- Destination serial where bit 1 of the flags is set. -/
  serial : Nat := 0
  deriving DecidableEq, Repr

/-- The header's 32 bytes with a payload of a length and a tag (R287). -/
def WopHeader.bytes (h : WopHeader) (len : Nat) (tag : Word64) : List Byte :=
  be 1 1 ++ be 1 h.service ++ be 1 h.flags ++ be 1 h.status ++ be 2 h.session ++ be 2 len ++ be 4 h.seq ++ be 2 h.pool ++ be 2 h.manager
    ++ be 8 h.serial ++ be 8 tag.toNat

/-- The tag of a message under a key: the CMAC over the header with the tag zero, then the payload (R292). -/
def WopHeader.tagOf (h : WopHeader) (k : Config.Key) (payload : List Byte) : Word64 := cmacTag k (h.bytes payload.length 0 ++ payload)

/-- A whole message (R287). -/
def WopHeader.message (h : WopHeader) (k : Config.Key) (payload : List Byte) : List Byte :=
  h.bytes payload.length (h.tagOf k payload) ++ payload

/-- A message whose length R287 allows. -/
def wopLength (payload : List Byte) : Bool := decide (payload.length ≤ 1168)

/-- The payload of a READ's response after the echoed sequence (R288). -/
def readPayload (idx mem ty ticket : Nat) (value : List Byte) : List Byte :=
  be 2 idx ++ be 1 mem ++ be 1 ty ++ be 2 value.length ++ zeros 2 ++ be 4 ticket ++ value

/-- The payload of a WRITE's response after the echoed sequence (R288). -/
def writePayload (idx mem ticket : Nat) : List Byte := be 2 idx ++ be 1 mem ++ zeros 1 ++ be 4 ticket

/-- The header of a message that the module sends in a session, with its next sequence and its present pool address (R287, R293, R301). -/
def State.ownHeader (s : State) (sess svc status : Nat) (response : Bool) : WopHeader :=
  { service := svc, flags := bit response, status := status, session := sess, seq := (s.session sess).modSeq + 1, pool := s.cfg 0x1101 0
    manager := (s.session sess).manager }

/-- A response of a session as sent: the echoed sequence, then the payload (R288). -/
def State.response (s : State) (sess svc status seq : Nat) (payload : List Byte) : List Byte :=
  (s.ownHeader sess svc status true).message (s.sessionKey sess) (be 4 seq ++ payload)

/-- An ADVERTISE as sent (R288, R290, R292). -/
def State.advertisement (s : State) : List Byte :=
  ({ service := 2, flags := 4, pool := s.cfg 0x1101 0 } : WopHeader).message s.keyDisc s.advertiseBytes

/-- The tag of a mailbox access of a session: that of the READ or WRITE with the same fields, Flags bit 1 set with the module's serial,
pool address and manager number zero (R299). -/
def State.mailboxTag (s : State) (sess seq : Nat) (write : Bool) (idx mem : Nat) (value : List Byte) : Word64 :=
  let payload := if write then be 2 idx ++ be 1 mem ++ zeros 1 ++ be 2 value.length ++ zeros 2 ++ value else be 2 idx ++ be 1 mem ++ zeros 1
  ({ service := if write then 6 else 5, flags := 2, session := sess, seq := seq, serial := Config.serial } : WopHeader).tagOf
    (s.sessionKey sess) payload

/-! ## The seat bus (15 R357) -/

/-- The 7-bit address of Seat n. -/
def seatAddress (n : Nat) : Nat := 0x28 + n

/-- The write part of a transaction: the address with write, the command, up to four parameter bytes, the CRC-8 of them all. -/
def seatWrite (n cmd : Nat) (params : List Byte) : List Byte :=
  let l := be 1 (2 * seatAddress n) ++ be 1 cmd ++ params
  l ++ be 1 (crc8 0 l)

/-- The read part: the address with read, the status, up to four data bytes, the CRC-8 of them all. -/
def seatRead (n status : Nat) (data : List Byte) : List Byte :=
  let l := be 1 (2 * seatAddress n + 1) ++ be 1 status ++ data
  l ++ be 1 (crc8 0 l)

end Sys2Proof.Machine
end

