-- ==== Sys2Proof/WellFormed.lean ====
section
/-! DEFINITION. Which commands are well formed: every operand lies in the range that the spec numbers its unit by. A command
outside them names nothing that exists; it is no event of the module. -/

namespace Sys2Proof

/-- Every operand of the command names something that exists. -/
def Instr.wellFormed : Instr → Bool
  | .memrd head dpa _ _ _ => decide (head < 8) && decide (dpa < 0xE0000000000)
  | .readLineArrival _ _ _ _ _ => true
  | .lineOrderPointMerge _ _ => true
  | .lookupResponseHoldExpiry _ => true
  | .memwr head dpa _ _ => decide (head < 8) && decide (dpa < 0xE0000000000)
  | .memwrptl head dpa _ _ _ => decide (head < 8) && decide (dpa < 0xE0000000000)
  | .mirrorWriteAck _ _ => true
  | .gpfPhase1 head => decide (head < 8)
  | .gpfPhase2 head => decide (head < 8)
  | .setShutdownState head _ => decide (head < 8)
  | .getShutdownState head => decide (head < 8)
  | .getPoisonList head => decide (head < 8)
  | .sanitize head => decide (head < 8)
  | .secureErase head => decide (head < 8)
  | .addDynamicCapacityResponse head ext _ => decide (head < 8) && decide (ext < 57344)
  | .releaseDynamicCapacity head ext => decide (head < 8) && decide (ext < 57344)
  | .getDynamicCapacityExtentList head => decide (head < 8)
  | .objectRead head _ _ _ _ idx mem => decide (head < 8) && decide (idx < 65536) && decide (mem < 256)
  | .objectWrite head _ _ _ _ idx mem value => decide (head < 8) && decide (idx < 65536) && decide (mem < 256) && decide (value.length ≤ 256)
  | .setExtentHint head _ _ _ _ => decide (head < 8)
  | .getExtentState head _ _ _ => decide (head < 8)
  | .unsupportedOpcode head _ => decide (head < 8)
  | .getHealthInfo head => decide (head < 8)
  | .mailboxOpenRequest head _ _ => decide (head < 8)
  | .mailboxOpenReply head => decide (head < 8)
  | .memEnableWrite head _ _ => decide (head < 8)
  | .viralReceived head => decide (head < 8)
  | .ideCheckFailure head => decide (head < 8)
  | .ideKmRequest head _ => decide (head < 8)
  | .functionLevelReset head => decide (head < 8)
  | .perstAssert port link => decide (port < 4) && decide (link < 2)
  | .perstRelease port link => decide (port < 4) && decide (link < 2)
  | .linkUp head _ _ => decide (head < 8)
  | .speedChangeRequest head _ _ => decide (head < 8)
  | .equalisationComplete head _ => decide (head < 8)
  | .linkRecoveryEntry head => decide (head < 8)
  | .linkDown head => decide (head < 8)
  | .cableRemoved port => decide (port < 4)
  | .cableMated port => decide (port < 4)
  | .bifurcationRequest port _ => decide (port < 4)
  | .eqEnable head _ _ _ _ _ => decide (head < 8)
  | .eqDisable head => decide (head < 8)
  | .eqCiWrite head _ => decide (head < 8)
  | .eqStatusClear head _ _ => decide (head < 8)
  | .eqCoalesceIntervalEnd head => decide (head < 8)
  | .headStall head => decide (head < 8)
  | .headReset head => decide (head < 8)
  | .headResetHoldEnd head => decide (head < 8)
  | .inFlightCapWrite head _ => decide (head < 8)
  | .extentOffer _ _ _ _ region => decide (region < 256)
  | .regionChangeComplete ext => decide (ext < 57344)
  | .extentRelease _ _ _ _ => true
  | .extentReleaseForced _ _ _ _ => true
  | .offerTimeout head ext => decide (head < 8) && decide (ext < 57344)
  | .extentDrainComplete head ext => decide (head < 8) && decide (ext < 57344)
  | .regionCreate region _ => decide (region < 256)
  | .regionMaskChange region _ => decide (region < 256)
  | .regionDelete region => decide (region < 256)
  | .configCommit domain => decide (domain < 256)
  | .keelBridgeAccess domain _ _ => decide (domain < 256)
  | .keelBridgeTimeout domain _ => decide (domain < 256)
  | .faultMessageTaken => true
  | .fatalLineAssert _ => true
  | .clockLost clock => decide (clock < 14)
  | .stickyBitPersist _ => true
  | .stickyBitClear member _ => decide (member < 16)
  | .quietTimerExpiry _ => true
  | .probeComplete _ _ => true
  | .probeTimeout _ => true
  | .operatorFence _ _ => true
  | .operatorReadmit _ _ => true
  | .latchRelease _ _ => true
  | .engineTimeout _ tract => decide (tract < 16777216)
  | .easyAllEnterCommand _ => true
  | .easyAllLeaveCommand _ => true
  | .t4ClearTimer => true
  | .stagingParityRecomputeDone part => decide (part < 16)
  | .wearBandReloadDone part => decide (part < 16)
  | .stagingPartRestoreDone part => decide (part < 16)
  | .sramInitDone _ _ => true
  | .sramPatrol _ _ _ _ => true
  | .sense ch die granule line slot _ => decide (ch < 36) && decide (die < 16) && decide (granule < 134217728) && decide (line < 4) && decide (slot < 16)
  | .abort ch die plane => decide (ch < 36) && decide (die < 16) && decide (plane < 4)
  | .esense ch die granule line _ => decide (ch < 36) && decide (die < 16) && decide (granule < 134217728) && decide (line < 4)
  | .hsense ch die granule => decide (ch < 36) && decide (die < 16) && decide (granule < 134217728)
  | .load ch die plane _ => decide (ch < 36) && decide (die < 16) && decide (plane < 4)
  | .prog ch die granule => decide (ch < 36) && decide (die < 16) && decide (granule < 134217728)
  | .clrseg ch die sector segment => decide (ch < 36) && decide (die < 16) && decide (sector < 524288) && decide (segment < 16)
  | .status ch die => decide (ch < 36) && decide (die < 16)
  | .trim ch die _ => decide (ch < 36) && decide (die < 16)
  | .check ch die plane => decide (ch < 36) && decide (die < 16) && decide (plane < 4)
  | .abortReport ch die plane _ _ => decide (ch < 36) && decide (die < 16) && decide (plane < 4)
  | .planeOperationEnd ch die plane _ => decide (ch < 36) && decide (die < 16) && decide (plane < 4)
  | .senseTimeout _ => true
  | .abortTimeout ch die plane => decide (ch < 36) && decide (die < 16) && decide (plane < 4)
  | .programStatusTimeout ch die plane => decide (ch < 36) && decide (die < 16) && decide (plane < 4)
  | .commandParityError ch die _ => decide (ch < 36) && decide (die < 16)
  | .channelTimingError ch _ => decide (ch < 36)
  | .channelTrainingDone ch => decide (ch < 36)
  | .channelTrainingTimeout ch => decide (ch < 36)
  | .coalescingDelayExpiry _ => true
  | .drainUnitSelect pair tract row findings _ => decide (pair < 8) && decide (tract < 16777216) && decide (row < 512) && (findings.all fun f => decide (f.position < 9 ∧ f.line < 4))
  | .drainProgramsStart _ => true
  | .drainUnitComplete _ => true
  | .starvationThreshold _ => true
  | .nodeHoldExpiry _ => true
  | .ledgerDelta => true
  | .ledgerFullSet => true
  | .ledgerRecordDurable _ => true
  | .inputDip => true
  | .sealRecordDurable _ => true
  | .inputDipRecovered => true
  | .flushComplete => true
  | .keelTurnOn => true
  | .inputLoss => true
  | .overvoltage => true
  | .overvoltageClear => true
  | .keelTurnOff => true
  | .breakerTrip => true
  | .breakerLatchRelease => true
  | .bladePairImbalance _ _ => true
  | .inputGoodAgain => true
  | .inputGoodResetTimer ga => decide (ga < 64)
  | .bankBelow40v => true
  | .bankBelow41v => true
  | .corePowerOffRequest => true
  | .corePowerOnRequest => true
  | .gaSample pins => decide (pins < 64)
  | .modrstAssert _ ga => decide (ga < 64)
  | .modrstRelease ga => decide (ga < 64)
  | .moduleReset _ _ ga => decide (ga < 64)
  | .haltNLow _ _ => true
  | .haltNSwitchWrite _ => true
  | .extestLoad _ => true
  | .keelRailsQualified ga _ _ => decide (ga < 64)
  | .keelRailRetry => true
  | .domainQualified domain _ => decide (domain < 256)
  | .powerGoodDrop domain _ => decide (domain < 256)
  | .stepTimeout => true
  | .railFailure domain _ => decide (domain < 256)
  | .powerDownStep ga => decide (ga < 64)
  | .railFailToFall domain _ => decide (domain < 256)
  | .seatPingTimer => true
  | .domainStatusPoll => true
  | .seatBusFailure seat _ => decide (1 ≤ seat ∧ seat ≤ 8)
  | .seatBusStuck seat => decide (1 ≤ seat ∧ seat ≤ 8)
  | .ping seat => decide (1 ≤ seat ∧ seat ≤ 8)
  | .domainOn seat domain => decide (1 ≤ seat ∧ seat ≤ 8) && decide (domain < 256)
  | .domainOff seat domain => decide (1 ≤ seat ∧ seat ≤ 8) && decide (domain < 256)
  | .domainStatus seat domain => decide (1 ≤ seat ∧ seat ≤ 8) && decide (domain < 256)
  | .readV seat domain => decide (1 ≤ seat ∧ seat ≤ 8) && decide (domain < 256)
  | .readI seat domain => decide (1 ≤ seat ∧ seat ≤ 8) && decide (domain < 256)
  | .margin seat domain _ => decide (1 ≤ seat ∧ seat ≤ 8) && decide (domain < 256)
  | .charger seat _ => decide (1 ≤ seat ∧ seat ≤ 8)
  | .capMeasure seat => decide (1 ≤ seat ∧ seat ≤ 8)
  | .capResult seat => decide (1 ≤ seat ∧ seat ≤ 8)
  | .haltRelease seat => decide (1 ≤ seat ∧ seat ≤ 8)
  | .faultRead seat => decide (1 ≤ seat ∧ seat ≤ 8)
  | .seatSelfShutdown seat => decide (1 ≤ seat ∧ seat ≤ 8)
  | .latchClear _ => true
  | .marginingEnable _ => true
  | .marginRequest domain _ => decide (domain < 256)
  | .bankReady _ => true
  | .bankReadyTimeout => true
  | .bankLowVoltage _ => true
  | .boostFault => true
  | .capacitanceMeasurementDue => true
  | .measureNow _ => true
  | .measurementComplete _ _ => true
  | .thermalConversion input _ _ => decide (input < 44)
  | .levelFall input => decide (input < 44)
  | .limitsWrite _ _ _ _ _ _ => true
  | .healthRecompute => true
  | .migrationStart tract => decide (tract < 16777216)
  | .migrationRowCopy tract findings => decide (tract < 16777216) && (findings.all fun f => decide (f.position < 9 ∧ f.line < 4))
  | .sealVerified tract => decide (tract < 16777216)
  | .sourceReadsDrained tract => decide (tract < 16777216)
  | .sourceClearComplete tract => decide (tract < 16777216)
  | .checkpointVerified tract => decide (tract < 16777216)
  | .wearEpoch => true
  | .wearCheckpointWriteback => true
  | .heatPeriod => true
  | .refreshVisit pt findings => decide (pt < 16777216) && (findings.all fun f => decide (f.position < 9 ∧ f.line < 2048))
  | .rekeyRequest _ region => decide (region < 256)
  | .rekeySpan region _ findings _ => decide (region < 256) && (findings.all fun f => decide (f.position < 9 ∧ f.line < 8))
  | .reEstablishment tract => decide (tract < 16777216)
  | .debugWindowOpen ww dpa _ _ => decide (ww < 4) && decide (dpa < 0xE0000000000)
  | .debugWindowClose ww => decide (ww < 4)
  | .debugWindowExpiry ww => decide (ww < 4)
  | .debugRead dpa _ => decide (dpa < 0xE0000000000)
  | .rootDecisionAdopt _ => true
  | .rootDecisionReject _ => true
  | .scrubRewrite granule => decide (granule < 134217728)
  | .rebuildStep group findings => decide (group < 4) && (findings.all fun f => decide (f.position < 9 ∧ f.line < 2048))
  | .scrubDpaPass _ _ _ _ => true
  | .scrubPhysicalPass _ _ _ _ => true
  | .scrubRow _ findings => (findings.all fun f => decide (f.position < 9 ∧ f.line < 4))
  | .scrubCancel _ => true
  | .patrolRow pt row findings => decide (pt < 16777216) && decide (row < 512) && (findings.all fun f => decide (f.position < 9 ∧ f.line < 4))
  | .fullScanComplete _ _ => true
  | .dataReady => true
  | .suspectRelease _ _ _ => true
  | .suspectDiscard _ _ _ => true
  | .suspectListRead _ => true
  | .coxResetRelease _ _ => true
  | .managementReady => true
  | .watchdogExpiry => true
  | .orphanLimit => true
  | .flashProgramDone _ => true
  | .flashEraseDone _ => true
  | .flashSuspend => true
  | .flashResume => true
  | .journalCompaction => true
  | .optionsWrite _ _ _ _ _ _ => true
  | .updateBegin _ _ => true
  | .imageData _ data => decide (data.length ≤ 1024)
  | .imageSegment _ data => decide (data.length ≤ 1024)
  | .updateCommit _ _ _ => true
  | .activate _ => true
  | .trialConfirm => true
  | .pageWriteDone _ => true
  | .operatingTimeCellWrite => true
  | .blockProtectionWrite _ => true
  | .configObjectWrite _ idx mem value => decide (idx < 65536) && decide (mem < 256) && decide (value.length ≤ 256)
  | .persistWriteDeferredDone slot => decide (slot < 32)
  | .noOperation _ => true
  | .restoreDefaults _ => true
  | .sanitizeExtents _ _ _ => true
  | .logbookWriteOut _ => true
  | .stagingLoss => true
  | .windowRead _ => true
  | .areaFClear _ => true
  | .snapshotDefinitionWrite _ _ _ _ => true
  | .snapshotNow _ => true
  | .snapshotPeriodic _ => true
  | .tallySample => true
  | .bandwidthWindowEnd => true
  | .solicit _ _ _ _ => true
  | .advertiseAnswerTimer => true
  | .advertisePeriod => true
  | .advertise _ _ _ => true
  | .openSession _ _ _ _ _ _ => true
  | .close _ _ _ => true
  | .read _ _ _ _ idx mem => decide (idx < 65536) && decide (mem < 256)
  | .write _ _ _ _ idx mem value => decide (idx < 65536) && decide (mem < 256) && decide (value.length ≤ 256)
  | .readMulti _ _ _ _ items => decide (1 ≤ items.length ∧ items.length ≤ 16)
  | .bulkStart _ _ _ _ idx mem _ _ => decide (idx < 65536) && decide (mem < 256)
  | .bulkData _ _ _ _ data => decide (data.length ≤ 1024)
  | .bulkAck _ _ _ _ => true
  | .bulkOutOfOrderAck _ => true
  | .bulkTimeout _ => true
  | .subscribe _ _ _ _ slot _ _ idx mem _ => decide (slot < 8) && decide (idx < 65536) && decide (mem < 256)
  | .subscriptionIntervalEnd _ slot => decide (slot < 32)
  | .keepalive _ _ _ _ => true
  | .strangerFrame _ => true
  | .icmpv6Echo => true
  | .neighborDiscovery => true
  | .sessionOpenTimeout _ => true
  | .sessionIdleTimeout _ => true
  | .closeSession _ => true
  | .roleKeyWrite _ _ _ => true
  | .tagFailureSecond => true
  | .poolAddressWrite _ => true
  | .plcaModeWrite _ => true
  | .plcaBeaconLoss => true
  | .plcaBeacon => true
  | .t1sPathFailure _ => true
  | .mailboxReplyExpiry head => decide (head < 8)
  | .bankCharged => true
  | .haltNHigh => true
  | .rootRebuildComplete _ _ _ => true
  | .eraseMinimumRunEnd => true

end Sys2Proof
end

