-- ==== Sys2Proof/Tests/Slice0.lean ====
section
/-! SUPPORT. Tests: the well-formedness checks, the spec's worked examples (each test cites the chapter of its expected result), and for
every statement with hypotheses a concrete state and operands that meet them, clause by clause. -/

set_option Elab.async false

namespace Sys2Proof.Tests

open Sys2Proof Sys2Proof.Machine

/-! ## Small states -/

/-- At management ready in Standby. -/
def up : State := { State.reset with cox := { state := 2 } }

/-- A link up with CXL.mem enabled, at 32 GT/s and 256-byte flits. -/
def linkOn : LinkS := { state := 3, speed := 5, width := 16, flit := 2, memEnable := true }

/-- In data service: every domain on, the maps loaded, head 0's link up, and extent 0 assigned to head 0. -/
def serving : State :=
  { up with
    pwr := { state := .dataService, seqState := 2, domains := (List.range 176).map fun d => (d, { state := 3 }) }
    bank := { state := 2, mv := 72000, boost := true, measured := true }
    hst := { ports := [(0, { rwdWithheld := false, reqWithheld := false })], links := [(0, linkOn)] }
    ext := { pairs := [(0, { state := .assigned })], extents := [(0, { region := 0 })], regions := [(0, { mask := 255, gen := 1, keyed := true })] }
    med := { channels := (List.range 36).map fun c => (c, { state := 2 }) }
    str := { phase := .normalService, powered := true, mapsLoaded := true, rootDone := true, dataReady := true, began := true } }

/-- `serving` with the tract of line 1 mapped. -/
def mapped : State := serving.modEntry 0 fun e => { e with state := .mapped }

/-- A read of line 1 by head 0 that waits for its own line. -/
def aRead : ReadS := { line := 1, order := 1, waiting := [.own] }

/-- `serving` with that read in flight as number 1. -/
def reading (r : ReadS) : State := { serving with rdp := { reads := [(1, r)], nextId := 2, order := 2 } }

/-- `serving` with an open entry of line 1. -/
def buffered (e : Entry) : State := { serving with wb := { ents := [(1, { opened := some e })], dirty := [0] } }

/-- `serving` with the pair of extent 0 and head 0 in a state. -/
def pairIn (p : PairState) : State := { serving with ext := { serving.ext with pairs := [(0, { state := p })] } }

/-- `serving` with head 0's event queue. -/
def queueing (q : EqS) : State := serving.modHead 0 fun x => { x with eq := q }

/-- `serving` with link 0 in a state of its own. -/
def linked (l : LinkS) : State := { serving with hst := { ports := [(0, { rwdWithheld := false, reqWithheld := false, cable := true })], links := [(0, l)] } }

/-- `serving` with sessions, those of T1S. -/
def talking (z : SessS) : State := { serving with wop := { sess := [(0, z)] } }

/-- A Custodian's session. -/
def custodianSession : SessS := { opened := true, role := .custodian, used := true, highest := 1 }

/-- `talking` with a bulk transfer in progress, and image B Receiving. -/
def bulking (b : BulkS) : State :=
  { (talking custodianSession).modWop fun w => { w with bulks := [b], nextBulk := 2 } with img := { b := { state := 2, len := 2048 } } }

/-- `serving` with a unit's record. -/
def unitIn (src : Nat) (u : UnitS) : State := { serving with flt := { units := [(src, u)] } }

/-- `serving` in Easy-all for the Operator's reason, its flush ended. -/
def inEasy (e : EasyS) : State := { serving with pwr := { serving.pwr with state := .easyAll }, easy := e }

/-- `serving` with a fault message waiting. -/
def told (m : Word64) : State := { serving with flt := { queue := [m] } }

/-- `serving` with plane 0 of die 0 in a state. -/
def planed (p : PlaneS) : State := { serving with med := { channels := serving.med.channels, planes := [(0, p)] } }

/-- A granule that holds a line. -/
def full : Granule := { blank := false, line0 := { blank := false, ct := 1, tag := 1 } }

/-- `serving` with a migration of tract 0, its entry and its source's first granule. -/
def moving (m : Migration) (g : Granule) : State :=
  (({ serving with med := { channels := serving.med.channels, granules := if g.blank then [] else [(placeGranule 0 0, g)] } } : State).modEntry 0
    fun e => { e with state := .mapped, mig := decide (m.state ≠ .queued) }).modTrc fun x => { x with migs := [m] }

/-- `serving` with a scrub pass over the first row, tract 0 mapped, its first granule full. -/
def passing (p : ScrubPass) : State :=
  { moving {} full with trc := { map := mapped.trc.map }, scr := { passes := [p] } }

/-- `serving` with its input stage, sequencer or bank changed. -/
def powered (f : PowerS → PowerS) : State := { serving with pwr := f serving.pwr }
def banked (b : BankS) : State := { serving with bank := b }

/-- `serving` with seat 1's record, and with domain 32 in a state. -/
def seated (z : SeatS) : State := { serving with seat := { seats := [(1, z)] } }
def domained (d : Nat) (x : DomainS) : State := serving.modPwr fun p => { p with domains := [(d, x)] }

/-- At management ready in Standby, with the boot flash or an image in a state. -/
def flashing (f : FlashS) : State := { up with fls := f }
def imaged (b : ImageS) : State := { up with img := { b := b } }

/-- At management ready with the parameter store's queue. -/
def storing (w : PageWrite) : State := { up with par := { queue := [w] } }

/-- `mapped` with line 0 written once, and a debug window over it. -/
def windowed : State :=
  { mapped with itg := { windows := [(0, { first := 0, len := 64, life := 1 })], blocks := [(0, { minors := 1 })] } }

/-- In `windowed`, the line that a write of 7 sealed decides as 7. -/
theorem windowed_decides : windowed.decideLine (windowed.block (lineOf 0 / 64)) (lineOf 0) (sealLine 0 2 0 0 1 7 false) = .data 7 := by
  have hl : lineOf 0 = 0 := by decide +kernel
  have hm : (windowed.block 0).minor 0 = 1 := by decide +kernel
  have hr : windowed.regionOf 0 = 0 := by decide +kernel
  have hg : windowed.genOf 0 (windowed.block 0).kg = 2 := by decide +kernel
  have hj : (windowed.block 0).major = 0 := by decide +kernel
  simp [State.decideLine, sealLine, hm, hr, hg, hj, hl]

/-! ## Well-formedness: for each check a command that fails it alone, and the same command at the edge of its range -/

theorem test_illFormed_refused : (([.memrd 8 0 0 0 .both, .memrd 0 0xE0000000000 0 0 .both, .addDynamicCapacityResponse 0 57344 false,
   .objectRead 0 false 0 0 .valid 65536 0, .objectRead 0 false 0 0 .valid 0 256,
   .objectWrite 0 false 0 0 .valid 0 0 (List.replicate 257 0), .perstAssert 4 0, .perstAssert 0 2, .extentOffer byOperator 0 0 0 256,
   .configCommit 256, .clockLost 14, .stickyBitClear 16 0, .engineTimeout 0 16777216, .stagingParityRecomputeDone 16,
   .sense 36 0 0 0 0 {}, .sense 0 16 0 0 0 {}, .sense 0 0 134217728 0 0 {}, .sense 0 0 0 4 0 {}, .sense 0 0 0 0 16 {}, .abort 0 0 4,
   .clrseg 0 0 524288 0] ++
  [.clrseg 0 0 0 16, .drainUnitSelect 8 0 0 [] .verified, .drainUnitSelect 0 0 512 [] .verified,
   .drainUnitSelect 0 0 0 [{ position := 9, line := 0, errors := 0 }] .verified,
   .drainUnitSelect 0 0 0 [{ position := 0, line := 4, errors := 0 }] .verified, .inputGoodResetTimer 64, .gaSample 64,
   .seatBusFailure 0 false, .seatBusFailure 9 false, .thermalConversion 44 0 false, .refreshVisit 16777216 [],
   .refreshVisit 0 [{ position := 9, line := 0, errors := 0 }], .refreshVisit 0 [{ position := 0, line := 2048, errors := 0 }],
   .rekeySpan 0 0 [{ position := 9, line := 0, errors := 0 }] .verified,
   .rekeySpan 0 0 [{ position := 0, line := 8, errors := 0 }] .verified, .debugWindowOpen 4 0 0 0, .rebuildStep 4 [],
   .imageData 0 (List.replicate 1025 0), .persistWriteDeferredDone 32, .readMulti (.pool 0) 0 0 false [],
   .readMulti (.pool 0) 0 0 false (List.replicate 17 { index := 0, member := 0 }),
   .subscribe (.pool 0) 0 0 false 8 .faultClasses 0 0 0 0] : List Instr).all fun c => !c.wellFormed) = true := by decide +kernel

theorem test_atTheEdge_wellFormed : (([.memrd 7 0 0 0 .both, .memrd 0 15393162788863 0 0 .both, .addDynamicCapacityResponse 0 57343 false,
   .objectRead 0 false 0 0 .valid 65535 0, .objectRead 0 false 0 0 .valid 0 255,
   .objectWrite 0 false 0 0 .valid 0 0 (List.replicate 256 0), .perstAssert 3 0, .perstAssert 0 1, .extentOffer byOperator 0 0 0 255,
   .configCommit 255, .clockLost 13, .stickyBitClear 15 0, .engineTimeout 0 16777215, .stagingParityRecomputeDone 15,
   .sense 35 0 0 0 0 {}, .sense 0 15 0 0 0 {}, .sense 0 0 134217727 0 0 {}, .sense 0 0 0 3 0 {}, .sense 0 0 0 0 15 {}, .abort 0 0 3,
   .clrseg 0 0 524287 0] ++
  [.clrseg 0 0 0 15, .drainUnitSelect 7 0 0 [] .verified, .drainUnitSelect 0 0 511 [] .verified,
   .drainUnitSelect 0 0 0 [{ position := 8, line := 0, errors := 0 }] .verified,
   .drainUnitSelect 0 0 0 [{ position := 0, line := 3, errors := 0 }] .verified, .inputGoodResetTimer 63, .gaSample 63,
   .seatBusFailure 1 false, .seatBusFailure 8 false, .thermalConversion 43 0 false, .refreshVisit 16777215 [],
   .refreshVisit 0 [{ position := 8, line := 0, errors := 0 }], .refreshVisit 0 [{ position := 0, line := 2047, errors := 0 }],
   .rekeySpan 0 0 [{ position := 8, line := 0, errors := 0 }] .verified,
   .rekeySpan 0 0 [{ position := 0, line := 7, errors := 0 }] .verified, .debugWindowOpen 3 0 0 0, .rebuildStep 3 [],
   .imageData 0 (List.replicate 1024 0), .persistWriteDeferredDone 31, .readMulti (.pool 0) 0 0 false [{ index := 0, member := 0 }],
   .readMulti (.pool 0) 0 0 false (List.replicate 16 { index := 0, member := 0 }),
   .subscribe (.pool 0) 0 0 false 7 .faultClasses 0 0 0 0] : List Instr).all Instr.wellFormed) = true := by decide +kernel

/-! ## The spec's worked examples -/

/-- 00, the example of R4: DPA 0x2A3_4567_89C0 is line 3 of granule 1,929 of tract 0x2A3456, in extent 0x2A34. -/
theorem test_dpa_decomposes :
    tractOfLine (lineOf 0x2A3456789C0) = 0x2A3456 ∧ extentOf 0x2A3456789C0 = 0x2A34
      ∧ lineOf 0x2A3456789C0 % 16384 = 0x789 * 4 + 3 ∧ lineOf 0x2A3456789C0 / 64 % 256 = 120
      ∧ lineOf 0x2A3456789C0 % 64 = 39 := by decide +kernel

/-- 05, the trace of R120: on physical tract 0x7A1B3C granule 1,929 lies at CH10.D14.0x43678F1, in plane 0, with its parity on CH14. -/
theorem test_placement :
    rowOfPt 0x7A1B3C = 30 ∧ inRow 0x7A1B3C = 0x21B3C ∧ parityPos 0x7A1B3C 241 = 5
      ∧ placeGranule 0x7A1B3C 1929 = granAddr 10 14 0x43678F1 ∧ planeOf (granAddr 10 14 0x43678F1) % 4 = 0
      ∧ parityAddr 0x7A1B3C 241 = granAddr 14 14 0x43678F1 ∧ stripeRow (granAddr 14 14 0x43678F1) = 0x0F1 := by decide +kernel

/-- 08, the example of R195: granule 1,929 moves to granule 0x14A2F1 of PG2, die 13. -/
theorem test_migrated_placement :
    rowOfPt 0xB40A51 = 45 ∧ granOf (placeGranule 0xB40A51 1929) = 0x14A2F1 ∧ dieOf (placeGranule 0xB40A51 1929) % 16 = 13
      ∧ dieOf (placeGranule 0xB40A51 1929) / 16 / 9 = 2 := by decide +kernel

/-- 09, the table of R221: where the nodes of that line lie. -/
theorem test_node_positions :
    nodeAt 0x7A1B3C .block 120 = (0xF7086C, 0xF1E00) ∧ nodeAt 0x7A1B3C .l1 15 = (0xFF110D, 0x9E3C0)
      ∧ nodeAt 0x7A1B3C .l1m 15 = (0xE7130D, 0x9E3C0) ∧ nodeAt 0x7A1B3C .l2 1 = (0xE71421, 0xB3C40)
      ∧ nodeAt 0x7A1B3C .l2m 1 = (0xF71461, 0xB3C40) ∧ nodeAt 0x7A1B3C .l3 0 = (0xF31484, 0x36780)
      ∧ nodeAt 0x3C0F21 .l3 0 = (0xEB9480, 0x1E420) := by decide +kernel

/-- 11, the example of R262: the message of die 7 of CH14. -/
theorem test_fault_message : faultMsg 231 0x13 (some 0x168B0FC6) false = 0x39C4C0005A2C3F1A := by decide +kernel

/-- 04, the example of R112, item 1: the record of PI 70 goes to slot 6, and PI becomes 71. -/
theorem test_event_queue_slot :
    let t := (queueing { base := 0x4000000000, enable := true, ci := 10, pi := 70, seq := 70, mask := 0xFFFF }).eqPost 0 5 0 0 []
    (t.head 0).eq.pi = 71 ∧ t.out.head? = some (.eqRecord 0 0x4000000180 5 0 0 70 0 0 1 []) := by decide +kernel

/-- 04, the example of R112, item 3: with 64 records unread the next is dropped. -/
theorem test_event_queue_drop :
    let q := ((queueing { base := 0x4000000000, enable := true, ci := 10, pi := 74, seq := 74, mask := 0xFFFF }).eqPost 0 5 0 0 []).head 0
    q.eq.overflow = true ∧ q.eq.dropped = 1 ∧ q.eq.pi = 74 ∧ q.eq.seq = 75 := by decide +kernel

/-- 04, the example of R112, items 4 and 5: EQ_CI = 42 is taken; EQ_CI = 80 is beyond PI, ignored, and sets CI_ERR. -/
theorem test_event_queue_ci :
    let s := queueing { enable := true, ci := 10, pi := 75 }
    exec (.eqCiWrite 0 42) s = .next (s.modEq 0 fun q => { q with ci := 42 })
      ∧ exec (.eqCiWrite 0 80) s = .next (s.modEq 0 fun q => { q with ciErr := true }) := by
  refine ⟨rfl, rfl⟩

/-- 15, the example of R367: 7,380 µs is 3,690 µF, and a step of 9 mV is 18 mΩ. -/
theorem test_capacitance : (serving.measured 7380 9).bank.uFRaw = 3690 ∧ (serving.measured 7380 9).bank.esr = 18 := by decide +kernel

/-- 02, the example of R60: 54,012 mV and 4,262 mA read as 230,199 mW. -/
theorem test_input_power :
    (powered fun p => { p with inputMv := 54012, pairA := 2140, pairB := 2122 }).value 0 0x5080 2 = be 4 230199 := by decide +kernel

/-- 14, the example of R341: 20,625,000,000 B in a window of 250 ms is 82,500,000,000 B/s. -/
theorem test_bandwidth :
    ∃ t, exec .bandwidthWindowEnd (({ serving with tly := { snap := [(10, 20625000000)] } } : State).setCfg 0x4200 1 250) = .next t
      ∧ t.tly.rates = [0, 0, 82500000000, 0, 0, 0, 0, 0] := ⟨_, rfl, by decide +kernel⟩

/-- 13, the example of R308: on a row R/RW/RW/RW an Observer's write is refused 0x03, and on a row —/W/W/W an Operator's read 0x04. -/
theorem test_rights : accessCheck 0x2101 1 2 .observer 0 = 0x03 ∧ accessCheck 0x2101 1 2 .operator 0 = 0
      ∧ accessCheck 0x2121 0 1 .operator 0 = 0x04 := by decide +kernel

/-- 13, the example after R311: ticket counter 0x4D2 and slot 0x0B make ticket 0x9A4B. -/
theorem test_ticket :
    let s := { serving with obj := { ticketNext := 0x4D2, slots := (List.range 11).map fun n => (n, { state := 1 }) } }
    let r := s.ticketStart byOperator 0x2121 0
    r.1 = some 0x0B ∧ (r.2.slot 0x0B).ticket = 0x9A4B := by decide +kernel

/-- The table gives no row bits: no word puts a command in front. -/
theorem test_no_word : State.reset.withFetchWord 16 0x1234 = State.reset := rfl

/-- 01, the example of R30: the entry of tract 0x2A3456 lies in parts 5 and 13, at 0x151A18 of their map areas. -/
theorem test_map_place : pairOfTract 0x2A3456 = 5 ∧ mapOffset 0x2A3456 = 0x151A18 := by decide

/-- 03, the example of R89: STATE 3, SPEED 6, WIDTH 8, FLIT 1, CXL.mem served and the head admitting. -/
theorem test_link_status :
    let s := linked { linkOn with speed := 6, width := 8, flit := 1 }
    s.linkStatus 0 = 0x36430400 := by decide +kernel

/-- 17, the example of R410: cells 0–7 hold 993–1,000 and 8–31 hold 969–992, and the write of 1,001 into cell 8 is torn: the count is
1,001, in cell 8. -/
theorem test_cycle_cells :
    countedCell 1 ((((List.range 8).map fun i => some (993 + i)) ++ ((List.range 24).map fun i => some (969 + i))).set 8 none) = (8, 1001) := by
  decide +kernel

/-! ## Witnesses of the hypotheses -/

theorem witness_ReadDecidedAtLookup :
    ∃ s : State, ∃ h : Nat, ∃ dpa : Nat, ∃ copies : MapCopies, s.takes h = true ∧ s.reqCredit h = true ∧ (s.head h).viral = false ∧ s.serves h dpa
      = true ∧ s.readOf s.rdp.nextId = none ∧ copies ≠ .none ∧ ∃ o, ((((s.entry (tractOfLine (lineOf dpa))).state = .zero ∧ o = LineOutcome.zero) ∨
      ((s.entry (tractOfLine (lineOf dpa))).state = .suspect ∧ o = .poison (some .dirtyShutdown)) ∨ ((s.entry (tractOfLine (lineOf dpa))).state =
      .integrityLost ∧ s.modeNow = .normal ∧ o = .poison (some .integrity)))) := by
  refine ⟨serving, 0, 64, .both, ?_, ?_, ?_, ?_, ?_, ?_, .zero, ?_⟩ <;> decide +kernel

theorem witness_RefusedReadsArePoisoned :
    (∃ s : State, ∃ h : Nat, s.takes h = true ∧ s.reqCredit h = true ∧ (s.head h).viral = true)
    ∧ (∃ s : State, ∃ h : Nat, ∃ dpa : Nat, s.takes h = true ∧ s.reqCredit h = true ∧ (s.head h).viral = false ∧ s.serves h dpa = false) := by
  refine ⟨⟨serving.modHead 0 fun x => { x with viral := true }, 0, ?_, ?_, ?_⟩, ⟨serving, 0, 2^28, ?_, ?_, ?_, ?_⟩⟩ <;> decide +kernel

theorem witness_MappedReadSensesItsLine :
    ∃ s : State, ∃ h : Nat, ∃ dpa : Nat, ∃ copies : MapCopies, s.takes h = true ∧ s.reqCredit h = true ∧ (s.head h).viral = false ∧ s.serves h dpa
      = true ∧ s.readOf s.rdp.nextId = none ∧ copies ≠ .none ∧ (s.entry (tractOfLine (lineOf dpa))).state = .mapped ∧ s.missingNodes (lineOf dpa) =
      [] ∧ s.registered (s.lineAddr (lineOf dpa)).1 = none ∧ s.lostAt (s.lineAddr (lineOf dpa)).1 = false := by
  refine ⟨{ mapped with itg := { mapped.itg with cache := (List.range 4).map fun l => l * 2 ^ 32 } }, 0, 64, .both, ?_, ?_, ?_, ?_, ?_, ?_, ?_, ?_,
      ?_, ?_⟩ <;> decide +kernel

theorem witness_LineArrivalDecides :
    ∃ s : State, ∃ rid : Nat, ∃ r : ReadS, ∃ errors : Nat, ∃ sensed : Option StoredLine, s.readOf rid = some r ∧ r.waiting = [.own] ∧ r.outcome =
      none ∧ errors ≤ 7 ∧ ∃ l, l = sensed.getD r.base ∧ ∃ o, (((s.decideLine r.block r.line l = .zero ∧ o = LineOutcome.zero) ∨ (∃ d, s.decideLine
      r.block r.line l = .data d ∧ o = .data d) ∨ (s.decideLine r.block r.line l = .poison ∧ o = .poison (some .media)))) := by
  refine ⟨reading aRead, 1, aRead, 7, none, ?_, ?_, ?_, ?_, {}, ?_, .zero, ?_⟩ <;> decide +kernel

theorem witness_MergeAnswersRead :
    (∃ s : State, ∃ rid : Nat, ∃ r : ReadS, s.readOf rid = some r ∧ r.probe.covers = true)
    ∧ (∃ s : State, ∃ rid : Nat, ∃ r : ReadS, s.readOf rid = some r ∧ r.probe.covers = false ∧ ∃ o, r.outcome = some o)
    ∧ (∃ s : State, ∃ rid : Nat, ∃ r : ReadS, s.readOf rid = some r ∧ ∃ o : LineOutcome, r.final = some o ∧ r.holding = false ∧ s.mergeWaits r =
      false ∧ r.discard = false ∧ ((o = .zero ∨ ∃ d, o = .data d)))
    ∧ (∃ s : State, ∃ rid : Nat, ∃ r : ReadS, s.readOf rid = some r ∧ ∃ o : LineOutcome, r.final = some o ∧ r.holding = false ∧ s.mergeWaits r =
      false ∧ r.discard = false ∧ o = .poison none)
    ∧ (∃ s : State, ∃ rid : Nat, ∃ r : ReadS, s.readOf rid = some r ∧ ∃ o : LineOutcome, r.final = some o ∧ r.holding = false ∧ s.mergeWaits r =
      false ∧ r.discard = false ∧ o = .poison (some .media)) := by
  refine ⟨⟨reading { line := 1, order := 1, probe := { opened := some { order := 1, full := true, data := 9 } } }, 1,
      { line := 1, order := 1, probe := { opened := some { order := 1, full := true, data := 9 } } }, ?_, ?_⟩, ⟨reading
      { line := 1, order := 1, outcome := some .zero }, 1, { line := 1, order := 1, outcome := some .zero }, ?_, ?_, .zero, ?_⟩, ⟨reading
      { line := 1, order := 1, outcome := some .zero }, 1, { line := 1, order := 1, outcome := some .zero }, ?_, .zero, ?_, ?_, ?_, ?_, ?_⟩,
      ⟨reading { line := 1, order := 1, outcome := some (.poison none) }, 1, { line := 1, order := 1, outcome := some (.poison none) }, ?_, .poison
      none, ?_, ?_, ?_, ?_, ?_⟩, ⟨reading { line := 1, order := 1, outcome := some (.poison (some .media)) }, 1,
      { line := 1, order := 1, outcome := some (.poison (some .media)) }, ?_, .poison (some .media), ?_, ?_, ?_, ?_, ?_⟩⟩ <;> decide +kernel

theorem witness_WritesEnterTheBuffer :
    ∃ s : State, ∃ h : Nat, ∃ dpa : Nat, s.takes h = true ∧ s.str.review = 0 ∧ (s.head h).viral = false ∧ s.serves h dpa = true ∧ s.slotFor? (dpa /
      64) = true := by
  refine ⟨serving, 0, 64, ?_, ?_, ?_, ?_, ?_⟩ <;> decide +kernel

theorem witness_MirrorAckCompletesWrites :
    (∃ s : State, ∃ key : Nat, ∃ e : Entry, (s.lineEnts key).opened = some e ∧ e.state = .pending ∧ e.sealing = false)
    ∧ (∃ s : State, ∃ key : Nat, ∃ e : Entry, (s.lineEnts key).opened = some e ∧ e.state = .pending ∧ e.sealing = true) := by
  refine ⟨⟨buffered { owed := [{ head := 0 }, { head := 0, partl := true }] }, 1, { owed := [{ head := 0 }, { head := 0, partl := true }] }, ?_,
      ?_, ?_⟩, ⟨buffered { owed := [{ head := 0 }], sealing := true }, 1, { owed := [{ head := 0 }], sealing := true }, ?_, ?_, ?_⟩⟩ <;>
      decide +kernel

theorem witness_PersistentFlushAnswered :
    (∃ s : State, ∃ h : Nat, s.linkUp h = true)
    ∧ (∃ s : State, ∃ h : Nat, s.linkUp h = false) := by
  refine ⟨⟨serving, 0, ?_⟩, ⟨serving, 1, ?_⟩⟩ <;> decide +kernel

theorem witness_MailboxReports :
    (∃ s : State, ∃ h : Nat, s.linkUp h = true ∧ s.domainOn 0 = true ∧ s.coxUp = true ∧ ∃ v, v ≤ 1)
    ∧ (∃ s : State, ∃ h : Nat, s.linkUp h = true ∧ s.domainOn 0 = true ∧ s.coxUp = true ∧ s.extentsIn h .assigned .releasing = [])
    ∧ (∃ s : State, ∃ h : Nat, s.linkUp h = true ∧ s.domainOn 0 = true ∧ s.coxUp = true ∧ ∃ first, ∃ count, 1 ≤ count ∧ count ≤ 64 ∧ first + count
      ≤ extents)
    ∧ (∃ s : State, ∃ h : Nat, s.linkUp h = true ∧ s.domainOn 0 = true ∧ s.coxUp = true ∧ ∃ e, (s.pair e h).state = .free) := by
  refine ⟨⟨serving, 0, ?_, ?_, ?_, 1, ?_⟩, ⟨pairIn .free, 0, ?_, ?_, ?_, ?_⟩, ⟨serving, 0, ?_, ?_, ?_, 57280, 64, ?_, ?_, ?_⟩, ⟨pairIn .free, 0,
      ?_, ?_, ?_, 3, ?_⟩⟩ <;> decide +kernel

theorem witness_HostSanitize :
    (∃ s : State, ∃ h : Nat, s.linkUp h = true ∧ s.domainOn 0 = true ∧ s.coxUp = true ∧ s.cfg (0x2100 + h) 3 = 0)
    ∧ (∃ s : State, ∃ h : Nat, s.linkUp h = true ∧ s.domainOn 0 = true ∧ s.coxUp = true ∧ s.cfg (0x2100 + h) 3 ≠ 0 ∧ ((s.extentsIn h .assigned
      .assigned).filter fun e => decide (s.headsOf e = [h])).any s.suspectIn = true)
    ∧ (∃ s : State, ∃ h : Nat, s.linkUp h = true ∧ s.domainOn 0 = true ∧ s.coxUp = true ∧ s.cfg (0x2100 + h) 3 ≠ 0 ∧ ((s.extentsIn h .assigned
      .assigned).filter fun e => decide (s.headsOf e = [h])).any s.suspectIn = false) := by
  refine ⟨⟨serving.setCfg 0x2100 3 0, 0, ?_, ?_, ?_, ?_⟩, ⟨(serving.setCfg 0x2100 3 1).modEntry 0 fun e => { e with state := .suspect }, 0, ?_, ?_,
      ?_, ?_, ?_⟩, ⟨serving.setCfg 0x2100 3 1, 0, ?_, ?_, ?_, ?_, ?_⟩⟩ <;> decide +kernel

theorem witness_HostMovesItsExtents :
    (∃ s : State, ∃ h : Nat, ∃ e : Nat, s.linkUp h = true ∧ s.domainOn 0 = true ∧ s.coxUp = true ∧ (s.pair e h).state = .offered)
    ∧ (∃ s : State, ∃ h : Nat, ∃ e : Nat, s.linkUp h = true ∧ s.domainOn 0 = true ∧ s.coxUp = true ∧ (s.pair e h).state ≠ .offered)
    ∧ (∃ s : State, ∃ h : Nat, ∃ e : Nat, s.linkUp h = true ∧ s.domainOn 0 = true ∧ s.coxUp = true ∧ ((s.pair e h).state = .assigned ∨ (s.pair e
      h).state = .releasing)) := by
  refine ⟨⟨pairIn .offered, 0, 0, ?_, ?_, ?_, ?_⟩, ⟨serving, 0, 0, ?_, ?_, ?_, ?_⟩, ⟨serving, 0, 0, ?_, ?_, ?_, ?_⟩⟩ <;> decide +kernel

theorem witness_ExtentHint :
    (∃ s : State, ∃ h : Nat, ∃ form : Bool, ∃ first : Nat, ∃ count : Nat, ∃ hint : Nat, s.linkUp h = true ∧ s.domainOn 0 = true ∧ s.coxUp = true ∧
      Tab.wf (fun _ => {}) s.ext.extents = true ∧ form = true ∧ 1 ≤ count ∧ count ≤ 256 ∧ hint ≤ 2 ∧ (∀ e, first ≤ e → e < first + count → (s.pair
      e h).state = .assigned))
    ∧ (∃ s : State, ∃ h : Nat, ∃ form : Bool, ∃ first : Nat, ∃ count : Nat, ∃ hint : Nat, s.linkUp h = true ∧ s.domainOn 0 = true ∧ s.coxUp = true
      ∧ Tab.wf (fun _ => {}) s.ext.extents = true ∧ (((∃ e, first ≤ e ∧ e < first + count ∧ (s.pair e h).state ≠ .assigned) ∨ 2 < hint ∨ count = 0
      ∨ 256 < count ∨ form = false))) := by
  refine ⟨⟨serving, 0, true, 0, 1, 2, ?_, ?_, ?_, ?_, ?_, ?_, ?_, ?_, ?_⟩, ⟨serving, 0, true, 0, 1, 3, ?_, ?_, ?_, ?_, Or.inr (Or.inl ?_)⟩⟩ <;>
      decide +kernel

theorem witness_OfferOfExtents :
    (∃ s : State, ∃ req : Req, ∃ first : Nat, ∃ count : Nat, ∃ mask : Nat, ∃ region : Nat, ∃ n : Nat, s.coxUp = true ∧ mayWrite 0x2121 0 req = 0 ∧
      1 ≤ count ∧ count ≤ 4096 ∧ first + count ≤ extents ∧ region ≤ 63 ∧ mask ≤ 255 ∧ s.noBlock 0x2121 0 = false ∧ s.freeSlot = some n ∧
      s.offerRefusal first count mask region = none ∧ (∀ e, first ≤ e → e < first + count → (s.extent e).region = region))
    ∧ (∃ s : State, ∃ req : Req, ∃ first : Nat, ∃ count : Nat, ∃ mask : Nat, ∃ region : Nat, ∃ n : Nat, s.coxUp = true ∧ mayWrite 0x2121 0 req = 0
      ∧ 1 ≤ count ∧ count ≤ 4096 ∧ first + count ≤ extents ∧ region ≤ 63 ∧ mask ≤ 255 ∧ s.noBlock 0x2121 0 = false ∧ s.freeSlot = some n ∧ ∃ e,
      s.offerRefusal first count mask region = some e) := by
  refine ⟨⟨{ serving with ext := { serving.ext with pairs := [] } }, byOperator, 0, 1, 2, 0, 0, ?_, ?_, ?_, ?_, ?_, ?_, ?_, ?_, ?_, ?_, ?_⟩,
      ⟨serving, byOperator, 0, 1, 2, 1, 0, ?_, ?_, ?_, ?_, ?_, ?_, ?_, ?_, ?_, (serving.offerRefusal 0 1 2 1).getD 0, ?_⟩⟩ <;> decide +kernel

theorem witness_PairsMove :
    (∃ s : State, ∃ h : Nat, ∃ e : Nat, ∃ req, ∃ n, s.coxUp = true ∧ mayWrite 0x2121 1 req = 0 ∧ e < extents ∧ h < 8 ∧ s.noBlock 0x2121 1 = false ∧
      s.freeSlot = some n ∧ (s.pair e h).state = .assigned)
    ∧ (∃ s : State, ∃ h : Nat, ∃ e : Nat, ∃ req, ∃ n, s.coxUp = true ∧ mayWrite 0x2121 1 req = 0 ∧ e < extents ∧ h < 8 ∧ s.noBlock 0x2121 1 = false
      ∧ s.freeSlot = some n ∧ ((s.pair e h).state = .assigned ∨ (s.pair e h).state = .releasing))
    ∧ (∃ s : State, ∃ h : Nat, ∃ e : Nat, s.coxUp = true ∧ (s.pair e h).state = .offered)
    ∧ (∃ s : State, ∃ h : Nat, ∃ e : Nat, s.coxUp = true ∧ (s.pair e h).state = .releasing)
    ∧ (∃ s : State, ∃ h : Nat, ∃ e : Nat, (s.pair e h).state = .draining ∧ s.extentBusy e h = false) := by
  refine ⟨⟨serving, 0, 0, byOperator, 0, ?_, ?_, ?_, ?_, ?_, ?_, ?_⟩, ⟨serving, 0, 0, byOperator, 0, ?_, ?_, ?_, ?_, ?_, ?_, ?_⟩, ⟨pairIn .offered,
      0, 0, ?_, ?_⟩, ⟨pairIn .releasing, 0, 0, ?_, ?_⟩, ⟨pairIn .draining, 0, 0, ?_, ?_⟩⟩ <;> decide +kernel

theorem witness_Regions :
    (∃ s : State, ∃ e, ∃ c, (s.extent e).changing = some c)
    ∧ (∃ s : State, ∃ r, s.coxUp = true ∧ r ≤ 63 ∧ s.noBlock 0x2140 r = false ∧ s.configLocked = false ∧ s.storeBusy = false ∧ ∃ mask, 1 ≤ mask ∧
      mask ≤ 255 ∧ (s.region r).mask = 0)
    ∧ (∃ s : State, ∃ r, s.coxUp = true ∧ r ≤ 63 ∧ s.noBlock 0x2140 r = false ∧ s.configLocked = false ∧ s.storeBusy = false ∧ ∃ mask, 1 ≤ mask ∧
      mask ≤ 255 ∧ (s.region r).mask ≠ 0 ∧ s.heldOutside r mask = false)
    ∧ (∃ s : State, ∃ r, s.coxUp = true ∧ r ≤ 63 ∧ s.noBlock 0x2140 r = false ∧ s.configLocked = false ∧ s.storeBusy = false ∧ (s.region r).mask ≠
      0 ∧ s.extentsOf r = 0 ∧ (s.ext.extents.any fun e => match e.2.changing with | some c => c.1 / 256 == r | none => false) = false) := by
  refine ⟨⟨{ serving with ext := { serving.ext with extents := [(0, { changing := some (1, 0) })], pairs := [] } }, 0, (1, 0), ?_⟩, ⟨serving, 63,
      ?_, ?_, ?_, ?_, ?_, 255, ?_, ?_, ?_⟩, ⟨serving, 0, ?_, ?_, ?_, ?_, ?_, 255, ?_, ?_, ?_, ?_⟩,
      ⟨{ serving with ext := { regions := [(0, { mask := 255, gen := 1, keyed := true })] } }, 0, ?_, ?_, ?_, ?_, ?_, ?_, ?_, ?_⟩⟩ <;> decide +kernel

theorem witness_LinkControls :
    (∃ s : State, ∃ h : Nat, s.canonical = true ∧ s.linkUp h = true ∧ ∃ need, need = decide (s.cfg (0x2000 + h / 2) 3 = 1))
    ∧ (∃ s : State, ∃ h : Nat, s.canonical = true ∧ s.linkUp h = true ∧ (s.head h).viral = false ∧ s.flt.queue.length < 256)
    ∧ (∃ s : State, ∃ h : Nat, s.canonical = true ∧ s.linkUp h = true ∧ s.keelOn = true ∧ s.flt.queue.length < 256) := by
  refine ⟨⟨serving, 0, ?_, ?_, false, ?_⟩, ⟨serving, 0, ?_, ?_, ?_, ?_⟩, ⟨serving, 0, ?_, ?_, ?_, ?_⟩⟩ <;> decide +kernel

theorem witness_LinkTraining :
    (∃ s : State, ∃ h : Nat, ∃ width, ∃ flit, (s.link h).state = 1 ∧ ((width = 4 ∨ width = 8 ∨ (width = 16 ∧ (s.port (h / 2)).bifurcated = false)))
      ∧ flit ≤ 2)
    ∧ (∃ s : State, ∃ h : Nat, ∃ speed, s.linkUp h = true ∧ ((speed = 5 ∨ speed = 6)))
    ∧ (∃ s : State, ∃ h : Nat, ∃ asked, ∃ reached, ∃ r, s.linkUp h = true ∧ asked ≤ 6 ∧ 1 ≤ reached ∧ reached ≤ asked ∧ r = min reached
      (s.rateLimit h))
    ∧ (∃ s : State, ∃ h : Nat, ∃ recent, s.linkUp h = true ∧ recent = s.tim.opTime :: (s.link h).recoveries.filter (fun x => decide (s.tim.opTime <
      x + 1000)) ∧ recent.length ≤ 64)
    ∧ (∃ s : State, ∃ h : Nat, ∃ recent, s.linkUp h = true ∧ recent = s.tim.opTime :: (s.link h).recoveries.filter (fun x => decide (s.tim.opTime <
      x + 1000)) ∧ 64 < recent.length ∧ s.keelOn = true ∧ s.flt.queue.length < 256)
    ∧ (∃ s : State, ∃ h : Nat, (s.link h).state = 0 ∧ s.absent h = false ∧ s.isOut (srcPort (h / 2)) = false ∧ s.isOut (srcHead h) = false ∧
      s.domainOn 1 = true ∧ s.domainOn (12 + h / 2) = true ∧ (s.port (h / 2)).cable = true ∧ (s.link h).held = false)
    ∧ (∃ s : State, ∃ h : Nat, (s.link h).state = 0 ∧ s.absent h = false ∧ s.isOut (srcPort (h / 2)) = false ∧ s.isOut (srcHead h) = false ∧
      s.domainOn 1 = true ∧ s.domainOn (12 + h / 2) = true ∧ (s.link h).perstLow = false ∧ (s.link h).held = false)
    ∧ (∃ s : State, ∃ h : Nat, (s.link h).state = 0 ∧ s.absent h = false ∧ s.isOut (srcPort (h / 2)) = false ∧ s.isOut (srcHead h) = false ∧
      s.domainOn 1 = true ∧ s.domainOn (12 + h / 2) = true ∧ (s.port (h / 2)).cable = true ∧ (s.link h).perstLow = false ∧ (s.link h).held = true)
      := by
  refine ⟨⟨linked { state := 1 }, 0, 16, 2, ?_, ?_, ?_⟩, ⟨serving, 0, 6, ?_, ?_⟩, ⟨serving, 0, 6, 6, 6, ?_, ?_, ?_, ?_, ?_⟩, ⟨serving, 0, [0], ?_,
      ?_, ?_⟩, ⟨linked { linkOn with recoveries := List.replicate 64 0 }, 0, List.replicate 65 0, ?_, ?_, ?_, ?_, ?_⟩, ⟨linked
      { perstLow := true, limit32 := true }, 0, ?_, ?_, ?_, ?_, ?_, ?_, ?_, ?_⟩, ⟨(linked {}).modPort 0 fun p => { p with cable := false }, 0, ?_,
      ?_, ?_, ?_, ?_, ?_, ?_, ?_⟩, ⟨linked { held := true }, 0, ?_, ?_, ?_, ?_, ?_, ?_, ?_, ?_, ?_⟩⟩ <;> decide +kernel

theorem witness_LinkLoss :
    (∃ s : State, ∃ h : Nat, s.linkUp h = true ∧ s.absent h = false ∧ s.isOut (srcPort (h / 2)) = false ∧ (s.link h).perstLow = false)
    ∧ (∃ s : State, ∃ h : Nat, s.linkUp h = true ∧ s.coxUp = true ∧ s.domainOn 0 = true) := by
  refine ⟨⟨reading aRead, 0, ?_, ?_, ?_, ?_⟩, ⟨{ reading aRead with cox := { state := 2 } }, 0, ?_, ?_, ?_⟩⟩ <;> decide +kernel

theorem witness_EventQueuePage :
    (∃ s : State, ∃ h : Nat, ∃ q : EqS, s.canonical = true ∧ s.linkUp h = true ∧ (s.head h).eq = q ∧ q.enable = true)
    ∧ (∃ s : State, ∃ h : Nat, ∃ q : EqS, s.canonical = true ∧ s.linkUp h = true ∧ (s.head h).eq = q ∧ ∃ base, ∃ mirror, ∃ coal, ∃ size, ∃ mask,
      q.enable = false ∧ ∃ q', q' = { q with base := base / 4096 * 4096, mirror := mirror / 8 * 8, coal := coal % 1024, size := size % 16, mask := mask } ∧ size % 16 ≤ 8 ∧ base / 4096 * 4096 % (4096 * 2 ^ (size % 16)) = 0)
    ∧ (∃ s : State, ∃ h : Nat, ∃ q : EqS, s.canonical = true ∧ s.linkUp h = true ∧ (s.head h).eq = q ∧ ∃ base, ∃ mirror, ∃ coal, ∃ size, ∃ mask,
      q.enable = false ∧ ∃ q', q' = { q with base := base / 4096 * 4096, mirror := mirror / 8 * 8, coal := coal % 1024, size := size % 16, mask := mask } ∧ (8 < size % 16 ∨ base / 4096 * 4096 % (4096 * 2 ^ (size % 16)) ≠ 0))
    ∧ (∃ s : State, ∃ h : Nat, ∃ q : EqS, s.canonical = true ∧ s.linkUp h = true ∧ (s.head h).eq = q ∧ ∃ ci, (q.pi - ci).toNat ≤ 64 * 2 ^ q.size ∧
      (ci - q.ci).toNat ≤ (q.pi - q.ci).toNat)
    ∧ (∃ s : State, ∃ h : Nat, ∃ q : EqS, s.canonical = true ∧ s.linkUp h = true ∧ (s.head h).eq = q ∧ ∃ ci, (64 * 2 ^ q.size < (q.pi - ci).toNat ∨
      (q.pi - q.ci).toNat < (ci - q.ci).toNat))
    ∧ (∃ s : State, ∃ h : Nat, ∃ q : EqS, s.canonical = true ∧ s.linkUp h = true ∧ (s.head h).eq = q ∧ q.coalescing = true ∧ q.pi = q.signalledPi)
    ∧ (∃ s : State, ∃ h : Nat, ∃ q : EqS, s.canonical = true ∧ s.linkUp h = true ∧ (s.head h).eq = q ∧ q.coalescing = true ∧ q.pi ≠ q.signalledPi)
      := by
  refine ⟨⟨queueing { base := 4096, pi := 5, ci := 1, enable := true, coal := 3, signalledPi := 5, coalescing := true, ciErr := true }, 0,
      { base := 4096, pi := 5, ci := 1, enable := true, coal := 3, signalledPi := 5, coalescing := true, ciErr := true }, ?_, ?_, ?_, ?_⟩,
      ⟨serving, 0, {}, ?_, ?_, ?_, 4096, 64, 1023, 0, 0, ?_, { base := 4096, mirror := 64, coal := 1023, mask := 0 }, ?_, ?_, ?_⟩, ⟨serving, 0, {},
      ?_, ?_, ?_, 4096, 64, 1023, 9, 0, ?_, { base := 4096, mirror := 64, coal := 1023, size := 9, mask := 0 }, ?_, ?_⟩, ⟨queueing
      { base := 4096, pi := 5, ci := 1, enable := true, coal := 3, signalledPi := 5, coalescing := true, ciErr := true }, 0,
      { base := 4096, pi := 5, ci := 1, enable := true, coal := 3, signalledPi := 5, coalescing := true, ciErr := true }, ?_, ?_, ?_, 5, ?_⟩,
      ⟨queueing { base := 4096, pi := 5, ci := 1, enable := true, coal := 3, signalledPi := 5, coalescing := true, ciErr := true }, 0,
      { base := 4096, pi := 5, ci := 1, enable := true, coal := 3, signalledPi := 5, coalescing := true, ciErr := true }, ?_, ?_, ?_, 6, ?_⟩,
      ⟨queueing { base := 4096, pi := 5, ci := 1, enable := true, coal := 3, signalledPi := 5, coalescing := true, ciErr := true }, 0,
      { base := 4096, pi := 5, ci := 1, enable := true, coal := 3, signalledPi := 5, coalescing := true, ciErr := true }, ?_, ?_, ?_, ?_, ?_⟩,
      ⟨queueing { enable := true, coalescing := true, pi := 1 }, 0, { enable := true, coalescing := true, pi := 1 }, ?_, ?_, ?_, ?_, ?_⟩⟩ <;>
      decide +kernel

theorem witness_StoredObjects :
    (∃ s : State, s.canonical = true ∧ s.coxUp = true ∧ s.configLocked = false ∧ s.storeBusy = false ∧ ∃ p, ∃ m, p < 4 ∧ m ≤ 1 ∧ s.domainOn 1 = true)
    ∧ (∃ s : State, s.canonical = true ∧ s.coxUp = true ∧ s.configLocked = false ∧ s.storeBusy = false ∧ ∃ pool, pool ≤ 0xFFFF)
    ∧ (∃ s : State, s.canonical = true ∧ s.coxUp = true ∧ s.configLocked = false ∧ s.storeBusy = false ∧ ∃ m, m ≤ 2)
    ∧ (∃ s : State, s.canonical = true ∧ s.coxUp = true ∧ s.configLocked = false ∧ s.storeBusy = false ∧ ∃ h, ∃ cap, h < 8 ∧ 64 ≤ cap ∧ cap ≤ 4096
      ∧ s.domainOn 0 = true)
    ∧ (∃ s : State, s.canonical = true ∧ s.coxUp = true ∧ s.configLocked = false ∧ s.storeBusy = false ∧ ∃ h, ∃ cap, h < 8 ∧ cap ≤ 4096 ∧
      s.domainOn 0 = true ∧ s.obj.shadow = [(objKey (0x2100 + h) 1, cap + 1)] ∧ s.obj.waiting = [(0, .row byOperator (0x2100 + h) 1)]) := by
  refine ⟨⟨serving, ?_, ?_, ?_, ?_, 3, 1, ?_, ?_, ?_⟩, ⟨serving, ?_, ?_, ?_, ?_, 0xFFFF, ?_⟩, ⟨serving, ?_, ?_, ?_, ?_, 2, ?_⟩, ⟨serving, ?_, ?_,
      ?_, ?_, 7, 64, ?_, ?_, ?_, ?_⟩, ⟨{ serving with obj := { shadow := [(objKey (0x2100 + 7) 1, 4097)], waiting := [(0, .row byOperator (0x2100 + 7) 1)] } }, ?_, ?_, ?_, ?_, 7, 4096, ?_, ?_, ?_, ?_, ?_⟩⟩ <;> decide +kernel

theorem witness_ManagementNetwork :
    (∃ s : State, s.t1sUp = true ∧ s.wop.frames.length = 12 ∧ s.wop.counts.length = 4 ∧ ∃ d : FrameDrop, d ≠ .tag ∧ ((s.coxUp = true ∨ byMac d =
      true)))
    ∧ (∃ s : State, s.t1sUp = true ∧ s.wop.frames.length = 12 ∧ s.wop.counts.length = 4 ∧ s.coxUp = true)
    ∧ (∃ s : State, s.t1sUp = true ∧ s.wop.frames.length = 12 ∧ s.wop.counts.length = 4 ∧ s.cfg 0x1100 0 = 1 ∧ s.hasNode = true) := by
  refine ⟨⟨serving, ?_, ?_, ?_, .port, ?_, ?_⟩, ⟨serving, ?_, ?_, ?_, ?_⟩, ⟨serving.setCfg 0x1100 2 3, ?_, ?_, ?_, ?_, ?_⟩⟩ <;> decide +kernel

theorem witness_Discovery :
    (∃ s : State, s.t1sUp = true ∧ s.coxUp = true ∧ ∃ f, ∃ a, ∃ b, s.meetsFilter f a b = true)
    ∧ (∃ s : State, s.t1sUp = true ∧ s.coxUp = true ∧ ∃ f, ∃ a, ∃ b, s.meetsFilter f a b = false)
    ∧ (∃ s : State, s.t1sUp = true ∧ s.coxUp = true ∧ ∃ dst, s.addressed dst = true)
    ∧ (∃ s : State, s.t1sUp = true ∧ s.coxUp = true ∧ ∃ dst, s.addressed dst = false)
    ∧ (∃ s : State, s.t1sUp = true ∧ s.coxUp = true ∧ s.cfg 0x1101 1 = 1)
    ∧ (∃ s : State, s.t1sUp = true ∧ s.coxUp = true ∧ s.wop.answerDue = true)
    ∧ (∃ s : State, s.t1sUp = true ∧ s.coxUp = true ∧ s.cfg 0x1101 3 ≠ 0)
    ∧ (∃ s : State, s.t1sUp = true ∧ s.coxUp = true ∧ s.cfg 0x1101 3 = 0)
    ∧ (∃ s : State, s.t1sUp = true ∧ s.coxUp = true ∧ ∃ serial, serial ≠ Config.serial ∧ s.cfg 0x1101 1 = 1 ∧ s.flt.queue.length < 256)
    ∧ (∃ s : State, s.t1sUp = true ∧ s.coxUp = true ∧ ∃ pool, pool ≠ s.cfg 0x1101 0) := by
  refine ⟨⟨serving, ?_, ?_, 0, 0, 0, ?_⟩, ⟨serving, ?_, ?_, 3, 0, 0, ?_⟩, ⟨serving.setCfg 0x1101 1 1, ?_, ?_, .pool 0, ?_⟩, ⟨serving, ?_, ?_, .pool
      9, ?_⟩, ⟨serving.setCfg 0x1101 1 1, ?_, ?_, ?_⟩, ⟨serving.modWop fun w => { w with answerDue := true }, ?_, ?_, ?_⟩, ⟨serving, ?_, ?_, ?_⟩,
      ⟨serving.setCfg 0x1101 3 0, ?_, ?_, ?_⟩, ⟨serving.setCfg 0x1101 1 1, ?_, ?_, Config.serial + 1, Nat.succ_ne_self _, ?_, ?_⟩, ⟨serving, ?_,
      ?_, 1, ?_⟩⟩ <;> decide +kernel

theorem witness_Sessions :
    (∃ s : State, s.canonical = true ∧ s.coxUp = true ∧ ∃ dst, ∃ role, s.t1sUp = true ∧ s.addressed dst = true ∧ role ≠ .vendor ∧ nth s.wop.keys
      (roleCode role) ≠ 0 ∧ Tab.countWhere (fun (x : SessS) => decide (x.path = 0)) s.wop.sess < 16)
    ∧ (∃ s : State, s.canonical = true ∧ s.coxUp = true ∧ ∃ dst, ∃ role, s.t1sUp = true ∧ s.addressed dst = true ∧ role ≠ .vendor ∧ nth s.wop.keys
      (roleCode role) = 0)
    ∧ (∃ s : State, s.canonical = true ∧ s.coxUp = true ∧ ∃ dst, ∃ sess, ∃ seq, s.addressed dst = true ∧ newRequest s sess seq)
    ∧ (∃ s : State, s.canonical = true ∧ s.coxUp = true ∧ ∃ sess, s.hasSession sess = true ∧ (s.session sess).used = false)
    ∧ (∃ s : State, s.canonical = true ∧ s.coxUp = true ∧ ∃ sess, s.hasSession sess = true)
    ∧ (∃ s : State, s.canonical = true ∧ s.coxUp = true ∧ ∃ sess, sess < 65536 ∧ s.hasSession sess = true)
    ∧ (∃ s : State, s.canonical = true ∧ s.coxUp = true ∧ ∃ sess, ∃ role, s.hasSession sess = true ∧ mayWrite 0x1201 (roleCode role) (s.holderReq
      sess) = 0 ∧ roleCode role < s.wop.keys.length ∧ s.configLocked = false ∧ s.storeBusy = false)
    ∧ (∃ s : State, s.canonical = true ∧ s.coxUp = true ∧ s.wop.tagFails ≠ 0 ∧ s.flt.queue.length < 256)
    ∧ (∃ s : State, s.canonical = true ∧ s.coxUp = true ∧ ∃ h, ∃ role, s.linkUp h = true ∧ s.domainOn 0 = true ∧ (s.head h).openReply = none ∧ role
      ≠ .vendor ∧ nth s.wop.keys (roleCode role) ≠ 0 ∧ Tab.countWhere (fun (x : SessS) => decide (x.path = h + 1)) s.wop.sess < 2)
    ∧ (∃ s : State, s.canonical = true ∧ s.coxUp = true ∧ ∃ h, ∃ n, ∃ at_, s.linkUp h = true ∧ s.domainOn 0 = true ∧ (s.head h).openReply = some
      (n, at_)) := by
  refine ⟨⟨(talking custodianSession).setCfg 0x1101 1 1, ?_, ?_, .pool 0, .custodian, ?_, ?_, ?_, ?_, ?_⟩, ⟨(talking custodianSession).setCfg
      0x1101 1 1, ?_, ?_, .pool 0, .operator, ?_, ?_, ?_, ?_⟩, ⟨(talking custodianSession).setCfg 0x1101 1 1, ?_, ?_, .pool 0, 0, 2, ?_, ?_⟩,
      ⟨talking { custodianSession with used := false }, ?_, ?_, 0, ?_, ?_⟩, ⟨(talking custodianSession).setCfg 0x1101 1 1, ?_, ?_, 0, ?_⟩,
      ⟨(talking custodianSession).setCfg 0x1101 1 1, ?_, ?_, 0, ?_, ?_⟩, ⟨(talking custodianSession).setCfg 0x1101 1 1, ?_, ?_, 0, .custodian, ?_,
      ?_, ?_, ?_, ?_⟩, ⟨(talking custodianSession).modWop fun w => { w with tagFails := 1 }, ?_, ?_, ?_, ?_⟩, ⟨(talking custodianSession).setCfg
      0x1101 1 1, ?_, ?_, 0, .custodian, ?_, ?_, ?_, ?_, ?_, ?_⟩, ⟨(talking { custodianSession with path := 1, opened := false }).modHead 0 fun x
      => { x with openReply := some (0, 5000) }, ?_, ?_, 0, 0, 5000, ?_, ?_, ?_⟩⟩ <;> first | decide +kernel | (unfold newRequest; decide +kernel)

theorem witness_SessionRequests :
    (∃ s : State, ∃ dst : WopAddr, ∃ sess : Nat, ∃ seq : Nat, s.canonical = true ∧ s.addressed dst = true ∧ newRequest s sess seq ∧ ∃ idx, ∃ mem,
      accessCheck idx mem 1 (s.session sess).role 0 ≠ 0)
    ∧ (∃ s : State, ∃ dst : WopAddr, ∃ sess : Nat, ∃ seq : Nat, s.canonical = true ∧ s.addressed dst = true ∧ newRequest s sess seq ∧ ∃ pool, pool
      ≤ 0xFFFF ∧ (s.session sess).role ≠ .observer ∧ s.configLocked = false ∧ s.storeBusy = false)
    ∧ (∃ s : State, ∃ dst : WopAddr, ∃ sess : Nat, ∃ seq : Nat, s.canonical = true ∧ s.addressed dst = true ∧ newRequest s sess seq ∧ ∃ slot, ∃
      mask, slot ≤ 7 ∧ mask ≤ 15 ∧ s.slotsInUse < 32)
    ∧ (∃ s : State, ∃ dst : WopAddr, ∃ sess : Nat, ∃ seq : Nat, s.canonical = true ∧ s.addressed dst = true ∧ newRequest s sess seq ∧ ∃ slot, ∃ x,
      Tab.rd {} (s.session sess).subs slot = x ∧ x.running = true ∧ x.heldCount = 0)
    ∧ (∃ s : State, ∃ dst : WopAddr, ∃ sess : Nat, ∃ seq : Nat, s.canonical = true ∧ s.addressed dst = true ∧ newRequest s sess seq ∧ ∃ slot, ∃ x,
      Tab.rd {} (s.session sess).subs slot = x ∧ x.running = true ∧ x.heldCount ≠ 0)
    ∧ (∃ s : State, ∃ dst : WopAddr, ∃ sess : Nat, ∃ seq : Nat, s.canonical = true ∧ s.addressed dst = true ∧ newRequest s sess seq ∧ ∃ seq', ∃ x,
      (s.session sess).answered.find? (fun y => y.seq == seq') = some x) := by
  refine ⟨⟨(talking { custodianSession with role := .observer }).setCfg 0x1101 1 1, .pool 0, 0, 2, ?_, ?_, ?_, 0x1201, 2, ?_⟩, ⟨(talking
      custodianSession).setCfg 0x1101 1 1, .pool 0, 0, 2, ?_, ?_, ?_, 0xFFFF, ?_, ?_, ?_, ?_⟩, ⟨(talking custodianSession).setCfg 0x1101 1 1, .pool
      0, 0, 2, ?_, ?_, ?_, 7, 15, ?_, ?_, ?_⟩, ⟨(talking
      { custodianSession with subs := [(0, { running := true, kind := .faultClasses })] }).setCfg 0x1101 1 1, .pool 0, 0, 2, ?_, ?_, ?_, 0,
      { running := true, kind := .faultClasses }, ?_, ?_, ?_⟩, ⟨(talking
      { custodianSession with subs := [(0, { running := true, kind := .faultClasses, heldCount := 1 })] }).setCfg 0x1101 1 1, .pool 0, 0, 2, ?_,
      ?_, ?_, 0, { running := true, kind := .faultClasses, heldCount := 1 }, ?_, ?_, ?_⟩, ⟨(talking
      { custodianSession with answered := [{ seq := 1 }] }).setCfg 0x1101 1 1, .pool 0, 0, 2, ?_, ?_, ?_, 1, { seq := 1 }, ?_⟩⟩ <;>
      first | decide +kernel | (unfold newRequest; decide +kernel)

theorem witness_BulkTransfer :
    (∃ s : State, ∃ dst : WopAddr, ∃ sess : Nat, s.canonical = true ∧ s.t1sUp = true ∧ s.coxUp = true ∧ s.addressed dst = true ∧ ∃ seq, ∃ idx, ∃
      mem, ∃ fromModule, ∃ total, newRequest s sess seq ∧ s.bulkStatus (s.holderReq sess) sess idx mem fromModule total = 0)
    ∧ (∃ s : State, ∃ dst : WopAddr, ∃ sess : Nat, ∃ bulk : Nat, s.canonical = true ∧ s.t1sUp = true ∧ s.coxUp = true ∧ s.addressed dst = true ∧ ∃
      b, ∃ data, s.bulkOf sess bulk false = some b ∧ data.length = 1024 ∧ b.next % 1024 = 0 ∧ b.next + 1024 ≤ b.total ∧ ((s.bulkHeard
      sess).imageWrite b.next data).1 = 0 ∧ b.next + 1024 = b.total)
    ∧ (∃ s : State, ∃ dst : WopAddr, ∃ sess : Nat, ∃ bulk : Nat, s.canonical = true ∧ s.t1sUp = true ∧ s.coxUp = true ∧ s.addressed dst = true ∧ ∃
      b, ∃ data, s.bulkOf sess bulk false = some b ∧ data.length = 1024 ∧ b.next % 1024 = 0 ∧ b.next + 1024 ≤ b.total ∧ ((s.bulkHeard
      sess).imageWrite b.next data).1 = 0 ∧ b.next + 1024 ≠ b.total ∧ b.sinceAck < 7)
    ∧ (∃ s : State, ∃ dst : WopAddr, ∃ sess : Nat, ∃ bulk : Nat, s.canonical = true ∧ s.t1sUp = true ∧ s.coxUp = true ∧ s.addressed dst = true ∧ ∃
      b, ∃ data, s.bulkOf sess bulk false = some b ∧ data.length = 1024 ∧ b.next % 1024 = 0 ∧ b.next + 1024 ≤ b.total ∧ ((s.bulkHeard
      sess).imageWrite b.next data).1 = 0 ∧ b.next + 1024 ≠ b.total ∧ 7 ≤ b.sinceAck)
    ∧ (∃ s : State, ∃ dst : WopAddr, ∃ sess : Nat, ∃ bulk : Nat, s.canonical = true ∧ s.t1sUp = true ∧ s.coxUp = true ∧ s.addressed dst = true ∧ ∃
      b, ∃ next, s.bulkOf sess bulk true = some b ∧ b.next ≤ next ∧ next ≤ b.sent ∧ next = b.total)
    ∧ (∃ s : State, ∃ dst : WopAddr, ∃ sess : Nat, ∃ bulk : Nat, s.canonical = true ∧ s.t1sUp = true ∧ s.coxUp = true ∧ s.addressed dst = true ∧ ∃
      b, ∃ next, s.bulkOf sess bulk true = some b ∧ b.next ≤ next ∧ next ≤ b.sent ∧ next ≠ b.total)
    ∧ (∃ s : State, ∃ dst : WopAddr, ∃ bulk : Nat, s.canonical = true ∧ s.t1sUp = true ∧ s.coxUp = true ∧ s.addressed dst = true ∧ ∃ b,
      (s.wop.bulks.find? fun x => x.number == bulk && x.outOfOrder) = some b)
    ∧ (∃ s : State, ∃ dst : WopAddr, s.canonical = true ∧ s.t1sUp = true ∧ s.coxUp = true ∧ s.addressed dst = true) := by
  refine ⟨⟨({ talking custodianSession with img := { b := { state := 2, len := 2048 } } }).setCfg 0x1101 1 1, .pool 0, 0, ?_, ?_, ?_, ?_, 2,
      0x6001, 0, false, 2048, ?_, ?_⟩, ⟨(bulking ({ number := 1, sess := 0, key := objKey 0x6001 0, total := 2048, next := 1024 })).setCfg 0x1101 1
      1, .pool 0, 0, 1, ?_, ?_, ?_, ?_, { number := 1, sess := 0, key := objKey 0x6001 0, total := 2048, next := 1024 }, List.replicate 1024 0, ?_,
      ?_, ?_, ?_, ?_, ?_⟩, ⟨(bulking ({ number := 1, sess := 0, key := objKey 0x6001 0, total := 2048, sinceAck := 6 })).setCfg 0x1101 1 1, .pool
      0, 0, 1, ?_, ?_, ?_, ?_, { number := 1, sess := 0, key := objKey 0x6001 0, total := 2048, sinceAck := 6 }, List.replicate 1024 0, ?_, ?_, ?_,
      ?_, ?_, ?_, ?_⟩, ⟨(bulking ({ number := 1, sess := 0, key := objKey 0x6001 0, total := 2048, sinceAck := 7 })).setCfg 0x1101 1 1, .pool 0, 0,
      1, ?_, ?_, ?_, ?_, { number := 1, sess := 0, key := objKey 0x6001 0, total := 2048, sinceAck := 7 }, List.replicate 1024 0, ?_, ?_, ?_, ?_,
      ?_, ?_, ?_⟩, ⟨(bulking ({ number := 1, sess := 0, key := objKey 0x6001 0, total := 2048, fromModule := true, sent := 2048 })).setCfg 0x1101 1
      1, .pool 0, 0, 1, ?_, ?_, ?_, ?_, { number := 1, sess := 0, key := objKey 0x6001 0, total := 2048, fromModule := true, sent := 2048 }, 2048,
      ?_, ?_, ?_, ?_⟩, ⟨(bulking ({ number := 1, sess := 0, key := objKey 0x6001 0, total := 2048, fromModule := true, sent := 2048 })).setCfg
      0x1101 1 1, .pool 0, 0, 1, ?_, ?_, ?_, ?_, { number := 1, sess := 0, key := objKey 0x6001 0, total := 2048, fromModule := true, sent := 2048 }, 1024, ?_, ?_, ?_, ?_⟩, ⟨(bulking ({ number := 1, sess := 0, key := objKey 0x6001 0, total := 2048, outOfOrder := true })).setCfg 0x1101 1 1, .pool 0, 1, ?_, ?_, ?_, ?_, { number := 1, sess := 0, key := objKey 0x6001 0, total := 2048, outOfOrder := true }, ?_⟩, ⟨(bulking ({ number := 1, sess := 0, key := objKey 0x6001 0, total := 2048 })).setCfg 0x1101 1 1, .pool 0, ?_, ?_, ?_, ?_⟩⟩ <;> first | decide +kernel | (unfold newRequest; decide +kernel)

theorem witness_MailboxObjects :
    (∃ s : State, ∃ h : Nat, s.canonical = true ∧ s.linkUp h = true ∧ s.domainOn 0 = true ∧ s.coxUp = true ∧ ∃ idx, ∃ mem, mayWrite idx mem
      { role := .observer, path := h + 1 } ≠ 0)
    ∧ (∃ s : State, ∃ h : Nat, s.canonical = true ∧ s.linkUp h = true ∧ s.domainOn 0 = true ∧ s.coxUp = true ∧ ∃ sess, ∃ seq, ∃ pool, 1 ≤ sess ∧
      sess < 65536 ∧ s.answers sess (h + 1) = true ∧ (s.session sess).highest < seq ∧ (s.session sess).answered.find? (fun x => x.seq == seq) =
      none ∧ (s.session sess).role ≠ .observer ∧ pool ≤ 0xFFFF ∧ s.configLocked = false ∧ s.storeBusy = false) := by
  refine ⟨⟨{ serving with wop := { sess := [(32768, { custodianSession with path := 1 })] } }, 0, ?_, ?_, ?_, ?_, 0x1101, 0, ?_⟩,
      ⟨{ serving with wop := { sess := [(32768, { custodianSession with path := 1 })] } }, 0, ?_, ?_, ?_, ?_, 32768, 2, 3, ?_, ?_, ?_, ?_, ?_, ?_,
      ?_, ?_, ?_⟩⟩ <;> decide +kernel

theorem witness_ObjectWrites :
    (∃ s : State, s.canonical = true ∧ s.coxUp = true ∧ ∃ req, ∃ idx, ∃ mem, mayWrite idx mem req ≠ 0)
    ∧ (∃ s : State, s.canonical = true ∧ s.coxUp = true ∧ ∃ req, mayWrite 0x1102 3 req = 0 ∧ s.configLocked = false ∧ s.storeBusy = false)
    ∧ (∃ s : State, s.canonical = true ∧ s.coxUp = true ∧ ∃ req, mayWrite 0x4000 0x11 req = 0)
    ∧ (∃ s : State, s.canonical = true ∧ s.coxUp = true ∧ ∃ req, ∃ n, mayWrite 0x7000 0 req = 0 ∧ s.freeSlot = some n ∧ s.obj.restoring = none)
    ∧ (∃ s : State, s.canonical = true ∧ s.coxUp = true ∧ ∃ req, ∃ n, mayWrite 0x7000 0 req = 0 ∧ s.freeSlot = some n ∧ ∃ e, Role.atLeast req.role
      .custodian = true ∧ e < extents ∧ s.domainOn 2 = true ∧ s.str.mapsLoaded = true ∧ s.suspectIn e = false)
    ∧ (∃ s : State, s.canonical = true ∧ s.coxUp = true ∧ ∃ req, ∃ n, mayWrite 0x7000 0 req = 0 ∧ s.freeSlot = some n ∧ ∃ e, Role.atLeast req.role
      .custodian = true ∧ e < extents ∧ s.domainOn 2 = true ∧ s.str.mapsLoaded = true ∧ s.suspectIn e = true)
    ∧ (∃ s : State, s.canonical = true ∧ s.coxUp = true ∧ ∃ n, ∃ m, Tab.rd (0, 0) s.obj.deferred n = (objKey 0x1100 0 + 1, m) ∧ (s.slot n).state =
      1 ∧ s.configLocked = false)
    ∧ (∃ s : State, s.canonical = true ∧ s.coxUp = true ∧ ∃ d, s.domainOn d = true)
    ∧ (∃ s : State, s.canonical = true ∧ s.coxUp = true ∧ ∃ d, s.domainOn d = false) := by
  refine ⟨⟨serving, ?_, ?_, { role := .observer, path := 0 }, 0x1101, 0, ?_⟩, ⟨serving, ?_, ?_, byCustodian, ?_, ?_, ?_⟩, ⟨serving, ?_, ?_,
      byCustodian, ?_⟩, ⟨serving, ?_, ?_, byCustodian, 0, ?_, ?_, ?_⟩, ⟨serving, ?_, ?_, byCustodian, 0, ?_, ?_, 0, ?_, ?_, ?_, ?_, ?_⟩,
      ⟨(serving.setCfg 0x2100 3 1).modEntry 0 fun e => { e with state := .suspect }, ?_, ?_, byCustodian, 0, ?_, ?_, 0, ?_, ?_, ?_, ?_, ?_⟩,
      ⟨{ serving with obj := { slots := [(0, { state := 1 })], deferred := [(0, (objKey 0x1100 0 + 1, 0))] } }, ?_, ?_, 0, 0, ?_, ?_, ?_⟩,
      ⟨serving, ?_, ?_, 0, ?_⟩, ⟨up, ?_, ?_, 0, ?_⟩⟩ <;> decide +kernel

theorem witness_UnitsReport :
    (∃ s : State, s.keelOn = true ∧ ∃ h, 0 < (s.head h).inflight)
    ∧ (∃ s : State, s.keelOn = true ∧ ∃ src, (unitKind src = some .engine ∨ essentialEngine src = true))
    ∧ (∃ s : State, s.keelOn = true ∧ ∃ ch, (s.channel ch).state = 1)
    ∧ (∃ s : State, s.keelOn = true ∧ ∃ ch, (s.channel ch).state = 2)
    ∧ (∃ s : State, s.keelOn = true ∧ s.t1sUp = true)
    ∧ (∃ s : State, s.keelOn = true ∧ ∃ unit, ∃ u, ∃ a, ∃ l, s.unitOf unit = some u ∧ u.starved = false ∧ u.left = a :: l)
    ∧ (∃ s : State, s.keelOn = true ∧ ∃ m, kindClass (msgKind m) = 3)
    ∧ (∃ s : State, s.keelOn = true ∧ ∃ kind, kindClass kind ≠ 3 ∧ 1 ≤ kindClass kind) := by
  refine ⟨⟨reading aRead |>.modHead 0 fun x => { x with inflight := 1 }, ?_, 0, ?_⟩, ⟨serving, ?_, 0x297, ?_⟩,
      ⟨{ serving with med := { channels := [(35, { state := 1 })] } }, ?_, 35, ?_⟩, ⟨serving, ?_, 35, ?_⟩, ⟨serving, ?_, ?_⟩,
      ⟨{ serving with wb := { units := [{ id := 1, left := [2 ^ 27], images := [(2 ^ 27, {})] }] } }, ?_, 1,
      { id := 1, left := [2 ^ 27], images := [(2 ^ 27, {})] }, 2 ^ 27, [], ?_, ?_, ?_⟩, ⟨serving, ?_, faultMsg 0x291 0x55 none true, ?_⟩, ⟨serving,
      ?_, 0x12, ?_, ?_⟩⟩ <;> decide +kernel

theorem witness_FaultCollector :
    (∃ s : State, ∃ m : Word64, ∃ rest : List Word64, ∃ c : Nat, s.flt.queue = m :: rest ∧ c = kindClass (msgKind m) ∧ s.flt.classes.length = 4 ∧ c
      = 0)
    ∧ (∃ s : State, ∃ m : Word64, ∃ rest : List Word64, ∃ c : Nat, s.flt.queue = m :: rest ∧ c = kindClass (msgKind m) ∧ s.flt.classes.length = 4 ∧
      c = 2 ∧ ∃ d, fenceTarget (msgSource m) (msgKind m) (msgAddr m) (msgAv m) = some d ∧ unitKind d = some .die ∧ (s.unit d).state = .active ∧
      s.isOut (srcChannel (d / 16)) = false ∧ s.otherUnits (groupOfDie d) d = [])
    ∧ (∃ s : State, ∃ m : Word64, ∃ rest : List Word64, ∃ c : Nat, s.flt.queue = m :: rest ∧ c = kindClass (msgKind m) ∧ s.flt.classes.length = 4 ∧
      c = 3 ∧ s.cause 0 = true) := by
  refine ⟨⟨told (faultMsg 5 0x02 none false), faultMsg 5 0x02 none false, [], 0, ?_, ?_, ?_, ?_⟩, ⟨told (faultMsg 5 0x13 none false), faultMsg 5
      0x13 none false, [], 2, ?_, ?_, ?_, ?_, 5, ?_, ?_, ?_, ?_, ?_⟩, ⟨{ told (faultMsg 0x291 0x55 none true) with easy := { causes := 1 } },
      faultMsg 0x291 0x55 none true, [], 3, ?_, ?_, ?_, ?_, ?_⟩⟩ <;> decide +kernel

theorem witness_ClocksAndStickyBits :
    (∃ s : State, ∃ c, c ≤ 13 ∧ c ∉ s.pwr.lostClocks ∧ s.keelOn = true ∧ s.flt.queue.length < 256)
    ∧ (∃ s : State, ∃ src, src ∈ s.flt.stickyDue ∧ s.coxUp = true)
    ∧ (∃ s : State, s.coxUp = true ∧ s.configLocked = false ∧ s.storeBusy = false) := by
  refine ⟨⟨serving, 0, ?_, ?_, ?_, ?_⟩, ⟨{ serving with flt := { sticky := [5], stickyDue := [5] } }, 5, ?_, ?_⟩,
      ⟨{ serving with flt := { sticky := [5, 6, 70], stickyDue := [5] } }, ?_, ?_, ?_⟩⟩ <;> decide +kernel

theorem witness_FencesAndProbes :
    (∃ s : State, ∃ src : Nat, ∃ u : UnitS, s.canonical = true ∧ s.unit src = u ∧ u.state = .fenced ∧ u.quiet ≠ 0 ∧ 3 ≤ s.recoveryCount src ∧
      s.keelOn = true ∧ s.flt.queue.length < 256)
    ∧ (∃ s : State, ∃ src : Nat, ∃ u : UnitS, s.canonical = true ∧ s.unit src = u ∧ u.state = .fenced ∧ u.quiet ≠ 0 ∧ s.recoveryCount src < 3 ∧
      s.probeBlocked src = true)
    ∧ (∃ s : State, ∃ src : Nat, ∃ u : UnitS, s.canonical = true ∧ s.unit src = u ∧ u.state = .fenced ∧ u.quiet ≠ 0 ∧ s.recoveryCount src < 3 ∧
      s.probeBlocked src = false)
    ∧ (∃ s : State, ∃ src : Nat, ∃ u : UnitS, s.canonical = true ∧ s.unit src = u ∧ u.state = .probing ∧ u.waitsChannel = false ∧ s.keelOn = true ∧
      s.flt.queue.length < 256 ∧ ∃ find : ProbeFind, s.probePasses src find = true ∧ (unitKind src = some .die ∨ unitKind src = some .channel))
    ∧ (∃ s : State, ∃ src : Nat, ∃ u : UnitS, s.canonical = true ∧ s.unit src = u ∧ u.state = .probing ∧ u.waitsChannel = false ∧ s.keelOn = true ∧
      s.flt.queue.length < 256 ∧ ∃ find : ProbeFind, find.pass = true ∧ (unitKind src = some .port ∨ unitKind src = some .head ∨ unitKind src =
      some .engine ∨ unitKind src = some .t1s))
    ∧ (∃ s : State, ∃ src : Nat, ∃ u : UnitS, s.canonical = true ∧ s.unit src = u ∧ u.state = .probing ∧ u.waitsChannel = false ∧ s.keelOn = true ∧
      s.flt.queue.length < 256 ∧ ∃ find : ProbeFind, find.pass = true ∧ unitKind src = some .part)
    ∧ (∃ s : State, ∃ src : Nat, ∃ u : UnitS, s.canonical = true ∧ s.unit src = u ∧ u.state = .probing ∧ u.waitsChannel = false ∧ s.keelOn = true ∧
      s.flt.queue.length < 256 ∧ unitKind src = some .die)
    ∧ (∃ s : State, ∃ src : Nat, ∃ u : UnitS, s.canonical = true ∧ s.unit src = u ∧ u.state = .probing ∧ u.waitsChannel = false ∧ s.keelOn = true ∧
      s.flt.queue.length < 256 ∧ ∃ find : ProbeFind, unitKind src = some .channel ∧ find.trained = false)
    ∧ (∃ s : State, ∃ src : Nat, ∃ u : UnitS, s.canonical = true ∧ s.unit src = u ∧ u.state = .probing ∧ u.waitsChannel = false ∧ s.keelOn = true ∧
      s.flt.queue.length < 256 ∧ ∃ find : ProbeFind, s.probePasses src find = false)
    ∧ (∃ s : State, ∃ src : Nat, ∃ u : UnitS, s.canonical = true ∧ s.unit src = u ∧ ∃ req, ∃ n, s.coxUp = true ∧ s.freeSlot = some n ∧ unitKind src
      ≠ none ∧ mayWrite 0x4003 0 req = 0 ∧ u.state = .active ∧ s.fenceRefused req src = false)
    ∧ (∃ s : State, ∃ src : Nat, ∃ u : UnitS, s.canonical = true ∧ s.unit src = u ∧ ∃ req, ∃ n, s.coxUp = true ∧ s.freeSlot = some n ∧ unitKind src
      ≠ none ∧ mayWrite 0x4003 0 req = 0 ∧ (u.state = .fenced ∨ u.state = .held) ∧ s.recoveryCount src < 3 ∧ s.probeBlocked src = false ∧ s.cause 0
      = false)
    ∧ (∃ s : State, ∃ src : Nat, ∃ u : UnitS, s.canonical = true ∧ s.unit src = u ∧ ∃ req, ∃ n, s.coxUp = true ∧ s.freeSlot = some n ∧ unitKind src
      ≠ none ∧ mayWrite 0x4003 1 req = 0 ∧ u.state = .latched) := by
  refine ⟨⟨unitIn 5 { state := .fenced, quiet := 1, readmissions := [0, 0, 0] }, 5, { state := .fenced, quiet := 1, readmissions := [0, 0, 0] },
      ?_, ?_, ?_, ?_, ?_, ?_, ?_⟩, ⟨{ unitIn 5 { state := .fenced, quiet := 1 } with cox := {} }, 5, { state := .fenced, quiet := 1 }, ?_, ?_, ?_,
      ?_, ?_, ?_⟩, ⟨unitIn 5 { state := .fenced, quiet := 1 }, 5, { state := .fenced, quiet := 1 }, ?_, ?_, ?_, ?_, ?_, ?_⟩, ⟨unitIn 5
      { state := .probing }, 5, { state := .probing }, ?_, ?_, ?_, ?_, ?_, ?_, {}, ?_, ?_⟩, ⟨unitIn 0x280 { state := .probing }, 0x280,
      { state := .probing }, ?_, ?_, ?_, ?_, ?_, ?_, {}, ?_, ?_⟩, ⟨unitIn 0x270 { state := .probing }, 0x270, { state := .probing }, ?_, ?_, ?_,
      ?_, ?_, ?_, {}, ?_, ?_⟩, ⟨unitIn 5 { state := .probing }, 5, { state := .probing }, ?_, ?_, ?_, ?_, ?_, ?_, ?_⟩, ⟨unitIn 0x240
      { state := .probing }, 0x240, { state := .probing }, ?_, ?_, ?_, ?_, ?_, ?_, { trained := false }, ?_, ?_⟩, ⟨unitIn 5 { state := .probing },
      5, { state := .probing }, ?_, ?_, ?_, ?_, ?_, ?_, { dies := [{ wrong := 1 }] }, ?_⟩, ⟨serving, 5, {}, ?_, ?_, byOperator, 0, ?_, ?_, ?_, ?_,
      ?_, ?_⟩, ⟨unitIn 5 { state := .fenced, quiet := 1 }, 5, { state := .fenced, quiet := 1 }, ?_, ?_, byOperator, 0, ?_, ?_, ?_, ?_, ?_, ?_, ?_,
      ?_⟩, ⟨unitIn 5 { state := .latched, readmissions := [0, 0, 0] }, 5, { state := .latched, readmissions := [0, 0, 0] }, ?_, ?_, byCustodian, 0,
      ?_, ?_, ?_, ?_, ?_⟩⟩ <;> decide +kernel

theorem witness_EasyAll :
    (∃ s : State, ∃ req, ∃ n, s.coxUp = true ∧ mayWrite 0x4040 2 req = 0 ∧ s.freeSlot = some n ∧ s.inService = true ∧ s.easy.state = .out)
    ∧ (∃ s : State, ∃ req, ∃ n, s.coxUp = true ∧ mayWrite 0x4040 2 req = 0 ∧ s.freeSlot = some n ∧ s.pwr.state = .easyAll ∧ s.easy.causes = 8 ∧
      s.easyFlushed = true ∧ s.easy.thenDown = false ∧ s.pwr.resetAsked = false ∧ s.pwr.mediaOnlyUp = false ∧ s.anyFast = true)
    ∧ (∃ s : State, ∃ req, ∃ n, s.coxUp = true ∧ mayWrite 0x4040 2 req = 0 ∧ s.freeSlot = some n ∧ s.pwr.state = .easyAll ∧ s.cause 0 = true)
    ∧ (∃ s : State, s.wb.flushing = true ∧ s.flushedOut = true ∧ s.pwr.state = .easyAll ∧ s.easy.state = .quiescing ∧ s.easy.thenDown = false ∧
      s.pwr.resetAsked = false ∧ s.cause 2 = false ∧ s.wb.flushBroken = false ∧ s.wb.ents = [])
    ∧ (∃ s : State, s.wb.flushing = true ∧ s.flushedOut = true ∧ s.pwr.state = .easyAll ∧ s.easy.state = .quiescing ∧ s.easy.thenDown = false ∧
      s.pwr.resetAsked = false ∧ s.cause 2 = false ∧ (s.wb.flushBroken = true ∨ s.wb.ents ≠ []))
    ∧ (∃ s : State, s.wb.flushing = true ∧ s.flushedOut = true ∧ s.pwr.state = .easyAll ∧ s.easy.state = .quiescing ∧ s.easy.thenDown = false ∧
      s.pwr.resetAsked = false ∧ s.cause 2 = false ∧ s.easy.causes ≠ 0)
    ∧ (∃ s : State, s.cause 2 = true ∧ s.thm.level ≤ 2 ∧ s.pwr.seqState ≠ 3) := by
  refine ⟨⟨serving, byOperator, 0, ?_, ?_, ?_, ?_, ?_⟩, ⟨inEasy { state := .flushed, causes := 8 }, byOperator, 0, ?_, ?_, ?_, ?_, ?_, ?_, ?_, ?_,
      ?_, ?_⟩, ⟨inEasy { state := .flushed, causes := 1 }, byOperator, 0, ?_, ?_, ?_, ?_, ?_⟩,
      ⟨{ inEasy { state := .quiescing, causes := 8 } with wb := { flushing := true, dirty := [0], durable := [0] } }, ?_, ?_, ?_, ?_, ?_, ?_, ?_,
      ?_, ?_⟩, ⟨{ inEasy { state := .quiescing, causes := 8 } with wb := { flushing := true, flushBroken := true, dirty := [0], durable := [0] } },
      ?_, ?_, ?_, ?_, ?_, ?_, ?_, ?_⟩, ⟨{ inEasy { state := .quiescing, causes := 8 } with wb := { flushing := true } }, ?_, ?_, ?_, ?_, ?_, ?_,
      ?_, ?_⟩, ⟨inEasy { causes := 4 }, ?_, ?_, ?_⟩⟩ <;> decide +kernel

theorem witness_StagingSram :
    (∃ s : State, ∃ n : Nat, s.canonical = true ∧ n ∈ s.stg.parityDue)
    ∧ (∃ s : State, ∃ n : Nat, s.canonical = true ∧ n ∈ s.stg.bandDue)
    ∧ (∃ s : State, ∃ n : Nat, s.canonical = true ∧ n < 16 ∧ n ∈ s.stg.restoring ∧ (s.unit (srcPart n)).state = .probing ∧ (s.unit (srcPart
      n)).waitsChannel = false)
    ∧ (∃ s : State, ∃ n : Nat, s.canonical = true ∧ n ≤ 17)
    ∧ (∃ s : State, ∃ n : Nat, s.canonical = true ∧ n < 16 ∧ s.keelOn = true ∧ s.flt.queue.length < 256)
    ∧ (∃ s : State, ∃ n : Nat, s.canonical = true ∧ 32 ≤ n ∧ n < 100 ∧ s.keelOn = true ∧ s.coreOn = true ∧ s.flt.queue.length < 256)
    ∧ (∃ s : State, s.canonical = true)
    ∧ (∃ s : State, ∃ n : Nat, s.canonical = true ∧ (s.sram n).ready = true ∧ s.partOut n = false ∧ s.keelOn = true ∧ s.flt.queue.length < 256) := by
  refine ⟨⟨{ serving with stg := { parityDue := [0] } }, 0, ?_, ?_⟩, ⟨{ serving with stg := { bandDue := [8] } }, 8, ?_, ?_⟩,
      ⟨{ unitIn 0x278 { state := .probing } with stg := { restoring := [8] } }, 8, ?_, ?_, ?_, ?_, ?_⟩, ⟨serving, 17, ?_, ?_⟩, ⟨serving, 15, ?_,
      ?_, ?_, ?_⟩, ⟨serving, 32, ?_, ?_, ?_, ?_, ?_, ?_⟩, ⟨serving, ?_⟩, ⟨{ serving with stg := { srams := [(17, { ready := true })] } }, 17, ?_,
      ?_, ?_, ?_, ?_⟩⟩ <;> decide +kernel

theorem witness_CoxResets :
    (∃ s : State, s.keelOn = true ∧ s.flt.queue.length < 256)
    ∧ (∃ s : State, s.keelOn = true ∧ s.cox.orphan ≠ 0 ∧ s.cox.orphanLimit = false ∧ s.str.dataReady = true ∧ s.flt.queue.length < 256)
    ∧ (∃ s : State, s.keelOn = true ∧ ∃ find : BootFind, ∃ o, s.pwr.modrstLow = false ∧ find.lostRecords = [] ∧ find.lostObjects = [] ∧ s.cox.state
      = 0 ∧ s.cox.dead = false ∧ s.fls.optionCut = false ∧ s.fls.optionWords = some o ∧ s.fls.flags = [] ∧ s.img.trial = none ∧ (if s.img.activeB
      then find.validB else find.validA) = true ∧ 3 ≤ (s.image' s.img.activeB).state ∧ (s.image' s.img.activeB).state ≠ 4 ∧ o.rollbackMin ≤
      (s.image' s.img.activeB).rollback)
    ∧ (∃ s : State, s.keelOn = true ∧ ∃ find : BootFind, s.pwr.modrstLow = false ∧ find.lostRecords = [] ∧ find.lostObjects = [] ∧ s.cox.state = 0
      ∧ s.cox.dead = false ∧ s.fls.optionCut = false ∧ s.fls.optionWords = none ∧ s.fls.flags = [] ∧ s.img.trial = none ∧ find.validA = false ∧
      find.validB = false)
    ∧ (∃ s : State, s.keelOn = true ∧ s.pwr.modrstLow = true) := by
  refine ⟨⟨serving, ?_, ?_⟩, ⟨{ serving with cox := { orphan := 1 } }, ?_, ?_, ?_, ?_, ?_⟩, ⟨State.reset, ?_, { validA := true, validB := false },
      {}, ?_, ?_, ?_, ?_, ?_, ?_, ?_, ?_, ?_, ?_, ?_, ?_, ?_⟩, ⟨{ State.reset with fls := { optionWords := none } }, ?_,
      { validA := false, validB := false }, ?_, ?_, ?_, ?_, ?_, ?_, ?_, ?_, ?_, ?_, ?_⟩, ⟨powered fun p => { p with modrstLow := true }, ?_, ?_⟩⟩
      <;> decide +kernel

theorem witness_Thermal :
    (∃ s : State, ∃ i : Nat, s.keelOn = true ∧ i < 44 ∧ s.thm.counts.length = 4)
    ∧ (∃ s : State, ∃ i : Nat, ∃ r, ∃ broken, s.keelOn = true ∧ i < 44 ∧ s.thm.counts.length = 4 ∧ badConversion (s.input i) r broken = true ∧
      (s.input i).faulty = false ∧ s.flt.queue.length < 256)
    ∧ (∃ s : State, ∃ i : Nat, s.keelOn = true ∧ (s.input i).belowSince ≠ 0 ∧ 1 ≤ (s.input i).level)
    ∧ (∃ s : State, ∃ kind, ∃ t1, ∃ t2, ∃ t3, ∃ t4, ∃ hyst, s.coxUp = true ∧ s.configLocked = false ∧ s.storeBusy = false ∧ kind ≤ 4 ∧ limitsOk
      kind [t1, t2, t3, t4] hyst = true)
    ∧ (∃ s : State, ∃ kind, ∃ t1, ∃ t2, ∃ t3, ∃ t4, ∃ hyst, s.coxUp = true ∧ s.configLocked = false ∧ s.storeBusy = false ∧ kind ≤ 4 ∧ limitsOk
      kind [t1, t2, t3, t4] hyst = false)
    ∧ (∃ s : State, s.coxUp = true) := by
  refine ⟨⟨serving, 43, ?_, ?_, ?_⟩, ⟨serving, 43, 1501, false, ?_, ?_, ?_, ?_, ?_, ?_⟩,
      ⟨{ serving with thm := { inputs := [(43, { level := 1, belowSince := 1 })], level := 1 } }, 43, ?_, ?_, ?_⟩, ⟨serving, 4, 100, 120, 140, 160,
      10, ?_, ?_, ?_, ?_, ?_⟩, ⟨serving, 4, 100, 120, 140, 160, 9, ?_, ?_, ?_, ?_, ?_⟩, ⟨serving, ?_⟩⟩ <;> decide +kernel

theorem witness_ChannelBus :
    (∃ s : State, ∃ ch : Nat, ∃ die : Nat, s.canonical = true ∧ s.busOk ch die = true ∧ ∃ g, ∃ slot, slot < 16 ∧ (s.plane (planeOf (granAddr ch die
      g))).senses? = true)
    ∧ (∃ s : State, ∃ ch : Nat, ∃ die : Nat, s.canonical = true ∧ s.busOk ch die = true ∧ ∃ g, ∃ p, s.plane (planeOf (granAddr ch die g)) = p ∧
      p.senses? = true ∧ p.jobs = [] ∧ (if s.cfg 0x3000 7 = 0 then p.slots = 0 else p.engineSenses < s.cfg 0x3000 7 ∧ p.slots < 16))
    ∧ (∃ s : State, ∃ ch : Nat, ∃ die : Nat, s.canonical = true ∧ s.busOk ch die = true ∧ ∃ plane, ∃ p, s.plane (planeKey ch die plane) = p ∧
      p.state = .granted)
    ∧ (∃ s : State, ∃ ch : Nat, ∃ die : Nat, s.canonical = true ∧ s.busOk ch die = true ∧ ∃ g, ∃ a, ∃ j, ∃ p, a = granAddr ch die g ∧ s.plane
      (planeOf a) = p ∧ p.op = some j ∧ p.state = .granted ∧ j.clear = false ∧ j.target = a ∧ p.result ≠ 3 ∧ p.buffer = j.image ∧ (p.room = true ∨
      s.hasRoom j = true) ∧ Tab.rd 0 s.med.clearing (sectorOf a) = 0)
    ∧ (∃ s : State, ∃ ch : Nat, ∃ die : Nat, s.canonical = true ∧ s.busOk ch die = true ∧ ∃ sector, ∃ segment, ∃ a, ∃ j, ∃ p, a = granAddr ch die
      (sector * 256 + segment * 16) ∧ s.plane (planeOf a) = p ∧ p.op = some j ∧ p.state = .granted ∧ j.clear = true ∧ j.target = a ∧ p.result ≠ 3 ∧
      (p.room = true ∨ s.hasRoom j = true))
    ∧ (∃ s : State, ∃ ch : Nat, ∃ die : Nat, s.canonical = true ∧ (((s.channel ch).state = 1 ∧ s.dieOut (ch * 16 + die) = false) ∨ (s.unit (ch * 16
      + die)).state = .probing))
    ∧ (∃ s : State, ∃ ch : Nat, ∃ die : Nat, s.canonical = true ∧ ∃ plane, ∃ p, s.plane (planeKey ch die plane) = p ∧ p.state = .granted ∧
      p.waiting ≠ []) := by
  refine ⟨⟨serving, 0, 0, ?_, ?_, 5, 3, ?_, ?_⟩, ⟨serving, 0, 0, ?_, ?_, 0, {}, ?_, ?_, ?_, ?_⟩, ⟨planed
      { state := .granted, op := some { target := 0, image := full } }, 0, 0, ?_, ?_, 0,
      { state := .granted, op := some { target := 0, image := full } }, ?_, ?_⟩, ⟨planed
      { state := .granted, op := some { target := 0, image := full }, buffer := full }, 0, 0, ?_, ?_, 0, 0, { target := 0, image := full },
      { state := .granted, op := some { target := 0, image := full }, buffer := full }, ?_, ?_, ?_, ?_, ?_, ?_, ?_, ?_, ?_, ?_⟩, ⟨planed
      { state := .granted, op := some { engine := .clear, clear := true } }, 0, 0, ?_, ?_, 0, 0, 0, { engine := .clear, clear := true },
      { state := .granted, op := some { engine := .clear, clear := true } }, ?_, ?_, ?_, ?_, ?_, ?_, ?_, ?_⟩,
      ⟨{ serving with med := { channels := [(0, { state := 1 })] } }, 0, 0, ?_, ?_⟩, ⟨planed
      { state := .granted, op := some { target := 0, image := full }, waiting := [(1, 20000)] }, 0, 0, ?_, 0,
      { state := .granted, op := some { target := 0, image := full }, waiting := [(1, 20000)] }, ?_, ?_, ?_⟩⟩ <;> decide +kernel

theorem witness_PlaneEnds :
    (∃ s : State, ∃ ch : Nat, ∃ die : Nat, ∃ plane : Nat, ∃ k : Nat, ∃ p : PlaneS, s.canonical = true ∧ k = planeKey ch die plane ∧ s.plane k = p ∧
      ∃ a, ∃ b, ∃ l, p.state = .sensing ∧ p.senses = a :: b :: l ∧ p.waiting = [])
    ∧ (∃ s : State, ∃ ch : Nat, ∃ die : Nat, ∃ plane : Nat, ∃ k : Nat, ∃ p : PlaneS, s.canonical = true ∧ k = planeKey ch die plane ∧ s.plane k = p
      ∧ ∃ j, p.op = some j ∧ p.state = .granted ∧ p.result = 3 ∧ j.clear = true)
    ∧ (∃ s : State, ∃ ch : Nat, ∃ die : Nat, ∃ plane : Nat, ∃ k : Nat, ∃ p : PlaneS, s.canonical = true ∧ k = planeKey ch die plane ∧ s.plane k = p
      ∧ ∃ j, p.op = some j ∧ p.state = .granted ∧ p.result = 3 ∧ j.clear = false ∧ j.retried = false)
    ∧ (∃ s : State, ∃ ch : Nat, ∃ die : Nat, ∃ plane : Nat, ∃ k : Nat, ∃ p : PlaneS, s.canonical = true ∧ k = planeKey ch die plane ∧ s.plane k = p
      ∧ ∃ j, p.op = some j ∧ p.state = .granted ∧ p.result = 3 ∧ j.clear = false ∧ j.retried = true ∧ (s.channel (dieOf j.target / 16)).bad.length
      < 64 ∧ (s.trc.dirtyPts.any fun d => d.1 == ptOfAddr j.target && s.cleared d.1) = false)
    ∧ (∃ s : State, ∃ ch : Nat, ∃ die : Nat, ∃ plane : Nat, ∃ k : Nat, ∃ p : PlaneS, s.canonical = true ∧ k = planeKey ch die plane ∧ s.plane k = p
      ∧ ∃ j, p.op = some j ∧ p.state = .granted ∧ p.result = 3 ∧ (j.engine = .drain ∨ j.clear = true ∨ (j.engine, j.owner, j.target) ∈ s.med.work))
    ∧ (∃ s : State, ∃ ch : Nat, ∃ die : Nat, ∃ plane : Nat, ∃ k : Nat, ∃ p : PlaneS, s.canonical = true ∧ k = planeKey ch die plane ∧ s.plane k = p
      ∧ ∃ j, (j.engine = .drain ∨ j.clear = true ∨ (j.engine, j.owner, j.target) ∈ s.med.work) ∧ p.op = some j ∧ p.state = .aborting ∧ p.result ≠ 3
      ∧ p.waiting ≠ [] ∧ p.senses = [] ∧ p.engineSenses = 0)
    ∧ (∃ s : State, ∃ ch : Nat, ∃ die : Nat, ∃ plane : Nat, ∃ k : Nat, ∃ p : PlaneS, s.canonical = true ∧ k = planeKey ch die plane ∧ s.plane k = p
      ∧ p.state = .aborting ∧ p.abortRepeated = false)
    ∧ (∃ s : State, ∃ ch : Nat, ∃ die : Nat, ∃ plane : Nat, ∃ k : Nat, ∃ p : PlaneS, s.canonical = true ∧ k = planeKey ch die plane ∧ s.plane k = p
      ∧ p.state = .aborting ∧ p.abortRepeated = true ∧ s.keelOn = true ∧ s.flt.queue.length < 256)
    ∧ (∃ s : State, ∃ ch : Nat, ∃ die : Nat, ∃ plane : Nat, ∃ k : Nat, ∃ p : PlaneS, s.canonical = true ∧ k = planeKey ch die plane ∧ s.plane k = p
      ∧ ∃ rid, ∃ r, s.readOf rid = some r ∧ ReadSrc.own ∈ r.waiting)
    ∧ (∃ s : State, ∃ ch : Nat, ∃ die : Nat, ∃ plane : Nat, ∃ k : Nat, ∃ p : PlaneS, s.canonical = true ∧ k = planeKey ch die plane ∧ s.plane k = p
      ∧ ∃ g, ∃ p', s.plane (planeOf (granAddr ch die g)) = p' ∧ 0 < p'.engineSenses)
    ∧ (∃ s : State, ∃ ch : Nat, ∃ die : Nat, ∃ plane : Nat, ∃ k : Nat, ∃ p : PlaneS, s.canonical = true ∧ k = planeKey ch die plane ∧ s.plane k = p
      ∧ (s.busOk ch die = true ∨ s.trimOk ch die = true))
    ∧ (∃ s : State, ∃ ch : Nat, ∃ die : Nat, ∃ plane : Nat, ∃ k : Nat, ∃ p : PlaneS, s.canonical = true ∧ k = planeKey ch die plane ∧ s.plane k = p
      ∧ (s.channel ch).state = 1) := by
  refine ⟨⟨planed { state := .sensing, senses := [1, 2] }, 0, 0, 0, 0, { state := .sensing, senses := [1, 2] }, ?_, ?_, ?_, 1, 2, [], ?_, ?_, ?_⟩,
      ⟨planed { state := .granted, result := 3, op := some { engine := .clear, clear := true } }, 0, 0, 0, 0,
      { state := .granted, result := 3, op := some { engine := .clear, clear := true } }, ?_, ?_, ?_, { engine := .clear, clear := true }, ?_, ?_,
      ?_, ?_⟩, ⟨planed { state := .granted, result := 3, op := some { target := 0, image := full } }, 0, 0, 0, 0,
      { state := .granted, result := 3, op := some { target := 0, image := full } }, ?_, ?_, ?_, { target := 0, image := full }, ?_, ?_, ?_, ?_,
      ?_⟩, ⟨planed { state := .granted, result := 3, op := some { target := 0, image := full, retried := true } }, 0, 0, 0, 0,
      { state := .granted, result := 3, op := some { target := 0, image := full, retried := true } }, ?_, ?_, ?_,
      { target := 0, image := full, retried := true }, ?_, ?_, ?_, ?_, ?_, ?_, ?_⟩, ⟨planed
      { state := .granted, result := 3, op := some { target := 0, image := full } }, 0, 0, 0, 0,
      { state := .granted, result := 3, op := some { target := 0, image := full } }, ?_, ?_, ?_, { target := 0, image := full }, ?_, ?_, ?_, ?_⟩,
      ⟨planed { state := .aborting, op := some { target := 0, image := full }, waiting := [(7, 20000)] }, 0, 0, 0, 0,
      { state := .aborting, op := some { target := 0, image := full }, waiting := [(7, 20000)] }, ?_, ?_, ?_, { target := 0, image := full }, ?_,
      ?_, ?_, ?_, ?_, ?_, ?_⟩, ⟨planed { state := .aborting, op := some { target := 0, image := full } }, 0, 0, 0, 0,
      { state := .aborting, op := some { target := 0, image := full } }, ?_, ?_, ?_, ?_, ?_⟩, ⟨planed
      { state := .aborting, abortRepeated := true, op := some { target := 0, image := full } }, 0, 0, 0, 0,
      { state := .aborting, abortRepeated := true, op := some { target := 0, image := full } }, ?_, ?_, ?_, ?_, ?_, ?_, ?_⟩, ⟨reading aRead, 0, 0,
      0, 0, {}, ?_, ?_, ?_, 1, aRead, ?_, ?_⟩, ⟨planed { engineSenses := 1, state := .sensing, senses := [1] }, 0, 0, 0, 0,
      { engineSenses := 1, state := .sensing, senses := [1] }, ?_, ?_, ?_, 0, { engineSenses := 1, state := .sensing, senses := [1] }, ?_, ?_⟩,
      ⟨serving, 0, 0, 0, 0, {}, ?_, ?_, ?_, ?_⟩, ⟨{ serving with med := { channels := [(0, { state := 1 })] } }, 0, 0, 0, 0, {}, ?_, ?_, ?_, ?_⟩⟩
      <;> decide +kernel

theorem witness_DrainUnits :
    (∃ s : State, s.canonical = true ∧ ∃ key, ∃ e, (s.lineEnts key).opened = some e ∧ isNodeKey key = false)
    ∧ (∃ s : State, s.canonical = true ∧ ∃ key, ∃ e, (s.lineEnts key).opened = some e ∧ isNodeKey key = true)
    ∧ (∃ s : State, s.canonical = true ∧ ∃ tract, ∃ row, ∃ tree : TreeFind, ∃ es, tractNamed tract = true ∧ s.rowBusy tract row = false ∧ s.running
      tract = none ∧ s.rowEntries tract row = es ∧ s.drainRuns tract = true ∧ (s.wb.flushing = true → s.flushDrains = true) ∧ s.rowNext
      (pairOfTract tract) tract row = true ∧ (s.rowWraps tract es = true → s.rowBusy tract (row / 2 * 2 + (1 - row % 2)) = false) ∧ tract <
      logicalTracts ∧ tree = .unrecoverable)
    ∧ (∃ s : State, s.canonical = true ∧ ∃ tract, ∃ row, ∃ tree : TreeFind, ∃ es, tractNamed tract = true ∧ s.rowBusy tract row = false ∧ s.running
      tract = none ∧ s.rowEntries tract row = es ∧ s.drainRuns tract = true ∧ (s.wb.flushing = true → s.flushDrains = true) ∧ s.rowNext
      (pairOfTract tract) tract row = true ∧ (s.rowWraps tract es = true → s.rowBusy tract (row / 2 * 2 + (1 - row % 2)) = false) ∧ (logicalTracts
      ≤ tract ∨ tree ≠ .unrecoverable))
    ∧ (∃ s : State, s.canonical = true ∧ ∃ unit, ∃ u, s.unitOf unit = some u ∧ u.started = false ∧ s.nodesAcked u = true ∧ s.drainRuns u.tract = true)
    ∧ (∃ s : State, s.canonical = true ∧ ∃ unit, ∃ u, s.unitOf unit = some u ∧ u.started = true ∧ u.left = [] ∧ s.badTableDue = false) := by
  refine ⟨⟨buffered { state := .dirty, aged := true, be := 1#64 }, ?_, 1, { state := .dirty, aged := true, be := 1#64 }, ?_, ?_⟩,
      ⟨{ serving with wb := { ents := [(logicalTracts * 16384, { opened := some { state := .dirty, aged := true, be := 1#64 } })] } }, ?_,
      logicalTracts * 16384, { state := .dirty, aged := true, be := 1#64 }, ?_, ?_⟩,
      ⟨{ mapped with wb := { ents := [(1, { opened := some { state := .dirty, aged := true, be := 1#64 } })], dirty := [0], durable := [0] } }, ?_,
      0, 0, .unrecoverable, [(1, { state := .dirty, aged := true, be := 1#64 })], ?_, ?_, ?_, ?_, ?_, ?_, ?_, ?_, ?_, ?_⟩,
      ⟨{ mapped with wb := { ents := [(1, { opened := some { state := .dirty, aged := true, be := 1#64 } })], dirty := [0], durable := [0] } }, ?_,
      0, 0, .verified, [(1, { state := .dirty, aged := true, be := 1#64 })], ?_, ?_, ?_, ?_, ?_, ?_, ?_, ?_, ?_⟩,
      ⟨{ serving with wb := { units := [{ id := 1, keys := [1], images := [(0, full)] }], ents := [(1, { drain := some { state := .draining } })], nextUnit := 2 } }, ?_, 1, { id := 1, keys := [1], images := [(0, full)] }, ?_, ?_, ?_, ?_⟩, ⟨{ serving with wb := { units := [{ id := 1, keys := [1], images := [(0, full)], started := true }], ents := [(1, { drain := some { state := .draining } })], nextUnit := 2, inProgram := [(0, full)] } }, ?_, 1, { id := 1, keys := [1], images := [(0, full)], started := true }, ?_, ?_, ?_, ?_⟩⟩ <;> decide +kernel

theorem witness_LedgerAndDips :
    (∃ s : State, s.coreOn = true ∧ s.wb.dirty ≠ s.wb.lastListed)
    ∧ (∃ r : LedgerRec, r.whole = false ∧ r.kind ≠ 2)
    ∧ (∃ s : State, ∃ seq, ∃ r : LedgerRec, (s.wb.writing.find? fun r => r.seq == seq && (r.kind == 1 || r.kind == 2)) = some r)
    ∧ (∃ s : State, s.pwr.dip = false ∧ s.pwr.switchClosed = true ∧ s.coreOn = true)
    ∧ (∃ s : State, ∃ seq, ∃ r : LedgerRec, (s.wb.writing.find? fun r => r.seq == seq && r.kind == 3) = some r ∧ s.pwr.dip = false ∧ s.sealWaits =
      false ∧ (∀ x ∈ s.wb.writing, x.kind = 3 → x.seq = seq))
    ∧ (∃ s : State, s.pwr.dip = true ∧ s.keelOn = true ∧ s.flt.queue.length < 256) := by
  refine ⟨⟨buffered { state := .dirty }, ?_, ?_⟩, ⟨{ kind := 1, whole := false }, ?_, ?_⟩,
      ⟨{ serving with wb := { writing := [{ kind := 1, seq := 1, added := [0] }], ledgerSeq := 2, dirty := [0], dipHeld := true } }, 1,
      { kind := 1, seq := 1, added := [0] }, ?_⟩, ⟨buffered { state := .dirty }, ?_, ?_, ?_⟩,
      ⟨{ serving with wb := { writing := [{ kind := 3, seq := 1, added := [0] }], ledgerSeq := 2, dirty := [0], dipHeld := true } }, 1,
      { kind := 3, seq := 1, added := [0] }, ?_, ?_, ?_, ?_⟩, ⟨{ serving with pwr := { serving.pwr with dip := true }, wb := { dipHeld := true } },
      ?_, ?_, ?_⟩⟩ <;> decide +kernel

theorem witness_Migrations :
    (∃ s : State, ∃ tract : Nat, ∃ m : Migration, s.canonical = true ∧ ∃ dst, (s.trc.migs.find? fun m => m.tract == tract && decide (m.state =
      .queued)) = some m ∧ s.migRoom m.cause = true ∧ s.drains tract = false ∧ s.nextMig m = true ∧ s.thm.level < 2 ∧ s.isOut 0x298 = false ∧
      (m.cause = 1 ∨ (s.entry tract).state = .mapped) ∧ s.destination tract = some dst)
    ∧ (∃ s : State, ∃ tract : Nat, ∃ m : Migration, s.canonical = true ∧ s.running tract = some m ∧ (∀ x ∈ s.trc.migs, x.tract = tract → x = m) ∧ ∃
      g, m.state = .copying ∧ m.cursor ≠ 512 ∧ s.isOut 0x298 = false ∧ s.nodesBusy m = false ∧ s.sealIndex m.src = some g ∧ m.cursor < g / 8)
    ∧ (∃ s : State, ∃ tract : Nat, ∃ m : Migration, s.canonical = true ∧ s.running tract = some m ∧ (∀ x ∈ s.trc.migs, x.tract = tract → x = m) ∧ ∃
      g, m.state = .copying ∧ m.cursor ≠ 512 ∧ s.isOut 0x298 = false ∧ s.nodesBusy m = false ∧ s.sealIndex m.src = some g ∧ g / 8 ≤ m.cursor)
    ∧ (∃ s : State, ∃ tract : Nat, ∃ m : Migration, s.canonical = true ∧ s.running tract = some m ∧ (∀ x ∈ s.trc.migs, x.tract = tract → x = m) ∧
      m.state = .copying ∧ m.cursor ≠ 512 ∧ s.isOut 0x298 = false ∧ s.sealIndex m.src = none ∧ logicalTracts ≤ tract ∧ s.engineWorks .migration
      tract = false ∧ s.trc.migs = [m])
    ∧ (∃ s : State, ∃ tract : Nat, ∃ m : Migration, s.canonical = true ∧ s.running tract = some m ∧ (∀ x ∈ s.trc.migs, x.tract = tract → x = m) ∧
      m.state = .sealing ∧ s.engineWorks .migration tract = false)
    ∧ (∃ s : State, ∃ tract : Nat, ∃ m : Migration, s.canonical = true ∧ s.running tract = some m ∧ (∀ x ∈ s.trc.migs, x.tract = tract → x = m) ∧
      m.state = .sealed ∧ Tab.rd 0 s.trc.readsOn m.src = 0)
    ∧ (∃ s : State, ∃ tract : Nat, ∃ m : Migration, s.canonical = true ∧ s.running tract = some m ∧ (∀ x ∈ s.trc.migs, x.tract = tract → x = m) ∧
      m.state = .clearing ∧ s.cleared m.src = true)
    ∧ (∃ s : State, ∃ tract : Nat, ∃ m : Migration, s.canonical = true ∧ s.running tract = some m ∧ (∀ x ∈ s.trc.migs, x.tract = tract → x = m) ∧
      m.state = .releasing) := by
  refine ⟨⟨moving { state := .queued, src := 0, dst := 234637, gen := 2 } full, 0, { state := .queued, src := 0, dst := 234637, gen := 2 }, ?_,
      (moving {} full).destination 0 |>.getD 0, ?_, ?_, ?_, ?_, ?_, ?_, ?_, ?_⟩, ⟨(moving { state := .copying, src := 0, dst := 234637, gen := 2 }
      {}).modMed fun x => { x with granules := [(placeGranule 0 16, full)] }, 0, { state := .copying, src := 0, dst := 234637, gen := 2 }, ?_, ?_,
      ?_, 16, ?_, ?_, ?_, ?_, ?_, ?_⟩, ⟨moving { state := .copying, src := 0, dst := 234637, gen := 2 } full, 0,
      { state := .copying, src := 0, dst := 234637, gen := 2 }, ?_, ?_, ?_, 0, ?_, ?_, ?_, ?_, ?_, ?_⟩, ⟨serving.modTrc fun x =>
      { x with migs := [{ tract := logicalTracts, state := .copying, src := 240000, dst := 234637, gen := 2 }] }, logicalTracts,
      { tract := logicalTracts, state := .copying, src := 240000, dst := 234637, gen := 2 }, ?_, ?_, ?_, ?_, ?_, ?_, ?_, ?_, ?_, ?_⟩, ⟨moving
      { state := .sealing, src := 0, dst := 234637, gen := 2 } full, 0, { state := .sealing, src := 0, dst := 234637, gen := 2 }, ?_, ?_, ?_, ?_,
      ?_⟩, ⟨moving { state := .sealed, src := 0, dst := 234637, gen := 2 } full, 0, { state := .sealed, src := 0, dst := 234637, gen := 2 }, ?_,
      ?_, ?_, ?_, ?_⟩, ⟨moving { state := .clearing, src := 0, dst := 234637, gen := 2 } full, 0,
      { state := .clearing, src := 0, dst := 234637, gen := 2 }, ?_, ?_, ?_, ?_, ?_⟩, ⟨moving
      { state := .releasing, src := 0, dst := 234637, gen := 2 } full, 0, { state := .releasing, src := 0, dst := 234637, gen := 2 }, ?_, ?_, ?_,
      ?_⟩⟩ <;> decide +kernel

theorem witness_WearAndRefresh :
    (∃ s : State, s.canonical = true)
    ∧ (∃ s : State, s.canonical = true)
    ∧ (∃ s : State, s.canonical = true ∧ ∃ pt, ∃ n, s.tractAt pt = some n ∧ s.isOut 0x29A = false ∧ s.coreOn = true)
    ∧ (∃ s : State, s.canonical = true ∧ ∃ n, ∃ pt, n < logicalTracts ∧ (s.entry n).state = .integrityLost ∧ s.str.dataReady = true ∧ s.drains n =
      false ∧ s.running n = none ∧ s.trc.migs = [] ∧ s.blankFor n = some pt) := by
  refine ⟨⟨mapped.modTrc fun x => { x with epoch := [(0, 5), (600, 7)], peak := [(0, 3)] }, ?_⟩, ⟨mapped.modTrc fun x =>
      { x with peak := [(0, 3)] }, ?_⟩, ⟨mapped, ?_, 0, 0, ?_, ?_, ?_⟩, ⟨serving.modEntry 0 fun e => { e with state := .integrityLost }, ?_, 0,
      (serving.blankFor 0).getD 0, ?_, ?_, ?_, ?_, ?_, ?_, ?_⟩⟩ <;> decide +kernel

theorem witness_HeatPeriod :
    (∃ s : State, s.canonical = true)
    ∧ (∃ s : State, s.canonical = true ∧ ∃ ch, ∃ die, ∃ plane, ∃ k, ∃ p, ∃ j, ∃ n, (∀ m ∈ s.trc.migs, m.state = .copying → m.cursor < 512) ∧ k =
      planeKey ch die plane ∧ s.plane k = p ∧ p.op = some j ∧ p.state = .granted ∧ p.result = 3 ∧ j.clear = false ∧ s.tractAt (ptOfAddr j.target) =
      some n ∧ n < logicalTracts) := by
  refine ⟨⟨mapped.modTrc fun x => { x with act := [(0, { heat := 1, programs := 1 }), (3, { heat := 31 }), (5, { programs := 70000 })] }, ?_⟩,
      ⟨mapped.modMed fun m => { m with planes := [(0, { state := .granted, result := 3, op := some { target := 0, image := full } })] }, ?_, 0, 0,
      0, 0, { state := .granted, result := 3, op := some { target := 0, image := full } }, { target := 0, image := full }, 0, ?_, ?_, ?_, ?_, ?_,
      ?_, ?_, ?_, ?_⟩⟩ <;> decide +kernel

theorem witness_KeysAndRoot :
    (∃ s : State, s.canonical = true ∧ ∃ req, ∃ region, ∃ n, s.coxUp = true ∧ mayWrite 0x3201 0 req = 0 ∧ region ≤ 63 ∧ s.itg.rekeyState ≠ 1 ∧
      (s.region region).mask ≠ 0 ∧ s.domainOn 3 = true ∧ s.freeSlot = some n ∧ s.rekeySpans region ≠ [])
    ∧ (∃ s : State, s.canonical = true ∧ ∃ req, ∃ region, ∃ n, s.coxUp = true ∧ mayWrite 0x3201 0 req = 0 ∧ region ≤ 63 ∧ s.itg.rekeyState ≠ 1 ∧
      (s.region region).mask ≠ 0 ∧ s.domainOn 3 = true ∧ s.freeSlot = some n ∧ s.rekeySpans region = [])
    ∧ (∃ s : State, s.canonical = true ∧ ∃ span, s.itg.rekeyState = 1 ∧ span ∈ s.itg.rekeyLeft ∧ s.coreOn = true ∧ ((s.block span).minors = 0 ∨ bit
      (s.block span).kg ≠ (s.region s.itg.rekeyRegion).gen % 2) ∧ (∃ j ∈ s.itg.rekeyLeft, j ≠ span))
    ∧ (∃ s : State, s.canonical = true ∧ ∃ span, ∃ tree : TreeFind, s.itg.rekeyState = 1 ∧ span ∈ s.itg.rekeyLeft ∧ s.coreOn = true ∧ (s.block
      span).minors ≠ 0 ∧ bit (s.block span).kg = (s.region s.itg.rekeyRegion).gen % 2 ∧ s.spanBusy span = false ∧ s.wb.durable.contains (span /
      256) = true ∧ tree ≠ .unrecoverable)
    ∧ (∃ s : State, s.canonical = true ∧ s.coxUp = true ∧ ∃ ww, ww ≤ 3 ∧ s.domainOn 3 = true ∧ ∃ dpa, ∃ len, ∃ life, dpa % 64 = 0 ∧ 1 ≤ len ∧ len ≤
      2 ^ 28 ∧ dpa + len ≤ dpaSize ∧ 1 ≤ life ∧ life ≤ 86400)
    ∧ (∃ s : State, s.canonical = true ∧ ∃ dpa, s.inWindow dpa = true ∧ s.cox.options.dbgLock = false ∧ s.coreOn = true ∧ (s.entry (tractOfLine
      (lineOf dpa))).state = .zero)
    ∧ (∃ s : State, s.canonical = true ∧ ∃ dpa, s.inWindow dpa = true ∧ s.cox.options.dbgLock = false ∧ s.coreOn = true ∧ ((s.entry (tractOfLine
      (lineOf dpa))).state = .suspect ∨ (s.entry (tractOfLine (lineOf dpa))).state = .integrityLost))
    ∧ (∃ s : State, s.canonical = true ∧ ∃ dpa l, s.inWindow dpa = true ∧ s.cox.options.dbgLock = false ∧ s.coreOn = true ∧ (s.entry (tractOfLine
      (lineOf dpa))).state = .mapped ∧ ∃ d, s.decideLine (s.block (lineOf dpa / 64)) (lineOf dpa) l = .data d)
    ∧ (∃ s : State, s.canonical = true ∧ ∃ dpa, s.inWindow dpa = false ∧ s.cox.options.dbgLock = false ∧ s.coreOn = true)
    ∧ (∃ s : State, s.canonical = true ∧ ∃ req, ∃ n, s.coxUp = true ∧ mayWrite 0x3200 2 req = 0 ∧ s.domainOn 3 = true ∧ 2 ≤ s.itg.rootState ∧
      s.freeSlot = some n)
    ∧ (∃ s : State, s.canonical = true ∧ s.str.phase = .rootRebuild ∧ s.str.rootDone = false ∧ s.itg.record.state = 2)
    ∧ (∃ s : State, s.canonical = true ∧ s.str.phase = .rootRebuild ∧ s.str.rootDone = false ∧ s.itg.record.state = 2 ∧ s.str.clean = true)
    ∧ (∃ s : State, s.canonical = true ∧ s.str.phase = .rootRebuild ∧ s.str.rootDone = false ∧ ∃ e, (s.itg.record.state ≠ 2 ∨ (e = false ∧
      s.str.clean = false))) := by
  refine ⟨⟨{ serving with itg := { blocks := [(0, { kg := true, minors := 1 })] } }, ?_, byCustodian, 0, 0, ?_, ?_, ?_, ?_, ?_, ?_, ?_, ?_⟩,
      ⟨serving, ?_, byCustodian, 0, 0, ?_, ?_, ?_, ?_, ?_, ?_, ?_, ?_⟩,
      ⟨{ serving with itg := { blocks := [(0, { kg := false, minors := 1 }), (1, { kg := true, minors := 1 })], rekeyState := 1, rekeyLeft := [0, 1, 2] } }, ?_, 0, ?_, ?_, ?_, ?_, ?_⟩, ⟨{ serving with itg := { blocks := [(0, { kg := true, minors := 1 }), (1, { kg := true, minors := 1 })], rekeyState := 1, rekeyLeft := [0, 1] }, wb := { durable := [0] } }, ?_, 0, .verified, ?_, ?_, ?_, ?_, ?_, ?_, ?_, ?_⟩, ⟨serving, ?_, ?_, 3, ?_, ?_, 0, 2 ^ 28, 86400, ?_, ?_, ?_, ?_, ?_, ?_⟩, ⟨{ serving with itg := { windows := [(0, { first := 0, len := 64, life := 1 })] } }, ?_, 0, ?_, ?_, ?_, ?_⟩, ⟨({ serving with itg := { windows := [(0, { first := 0, len := 64, life := 1 })] } } : State).modEntry 0 fun e => { e with state := .suspect }, ?_, 0, ?_, ?_, ?_, ?_⟩, ⟨windowed, ?_, 0, sealLine 0 2 0 0 1 7 false, ?_, ?_, ?_, ?_, 7, windowed_decides⟩, ⟨serving, ?_, 0, ?_, ?_, ?_⟩, ⟨{ serving with itg := { rootState := 2 }, str := { phase := .awaitingCustodian } }, ?_, byCustodian, 0, ?_, ?_, ?_, ?_, ?_⟩, ⟨{ serving with str := { phase := .rootRebuild }, itg := { record := { state := 2 } } }, ?_, ?_, ?_, ?_⟩, ⟨{ serving with str := { phase := .rootRebuild, clean := true }, itg := { record := { state := 2 } } }, ?_, ?_, ?_, ?_, ?_⟩, ⟨{ serving with str := { phase := .rootRebuild }, itg := { record := { state := 1 } } }, ?_, ?_, ?_, true, ?_⟩⟩ <;> decide +kernel

theorem witness_ScrubAndRebuild :
    (∃ s : State, ∃ req, ∃ mode, ∃ first, ∃ len, ∃ n, s.coxUp = true ∧ mayWrite 0x3301 0 req = 0 ∧ mode ≤ 1 ∧ 1 ≤ len ∧ s.coreOn = true ∧
      s.scr.passes.length < 4 ∧ s.freeSlot = some n ∧ first % 64 = 0 ∧ len % 64 = 0 ∧ first + len ≤ dpaSize)
    ∧ (∃ s : State, ∃ req, ∃ mode, ∃ first, ∃ len, ∃ n, s.coxUp = true ∧ mayWrite 0x3301 0 req = 0 ∧ mode ≤ 1 ∧ 1 ≤ len ∧ s.coreOn = true ∧
      s.scr.passes.length < 4 ∧ s.freeSlot = some n ∧ first / 2 ^ 27 < 576 ∧ first % 2 ^ 27 + len ≤ 2 ^ 27)
    ∧ (∃ s : State, ∃ ticket, ∃ p, s.coxUp = true ∧ (s.scr.passes.find? fun p => p.ticket == ticket) = some p)
    ∧ (∃ s : State, ∃ ticket, ∃ p, ∃ pt, ∃ row, ∃ n, (s.scr.passes.find? fun p => p.ticket == ticket) = some p ∧ s.isOut 0x299 = false ∧ p.repair =
      false ∧ s.passRow p = some (pt, row, n) ∧ s.unitOnRow pt row = false ∧ ((stripe pt row).all fun a => (s.image a).blank) = false ∧ p.cancel =
      false ∧ p.cursor + 1 < passRows p)
    ∧ (∃ s : State, ∃ ticket, ∃ p, ∃ pt, ∃ row, ∃ n, (s.scr.passes.find? fun p => p.ticket == ticket) = some p ∧ s.isOut 0x299 = false ∧ p.repair =
      false ∧ s.passRow p = some (pt, row, n) ∧ s.unitOnRow pt row = false ∧ ((stripe pt row).all fun a => (s.image a).blank) = false ∧ (p.cancel =
      true ∨ passRows p ≤ p.cursor + 1))
    ∧ (∃ s : State, ∃ a, ∃ n, a ∈ s.scr.rewrite ∧ s.isOut 0x299 = false ∧ s.coreOn = true ∧ s.tractAt (ptOfAddr a) = some n ∧ s.registered a = none
      ∧ s.lostAt a = false ∧ s.dieOut (dieOf a) = false ∧ s.badGranule a = false ∧ (s.image a).blank = false)
    ∧ (∃ s : State, ∃ pt, ∃ row, ∃ n, s.tractAt pt = some n ∧ s.isOut 0x299 = false ∧ s.cfg 0x3300 1 ≠ 0 ∧ row < 512 ∧ s.unitOnRow pt row = false ∧
      s.coreOn = true)
    ∧ (∃ s : State, ∃ g, ∃ r, s.rebuild g = r ∧ r.state = 1 ∧ s.isOut 0x29B = false ∧ s.inEasy = false ∧ s.coreOn = true ∧ s.engineWorks .rebuild g
      = false ∧ s.tractBusy (s.rebuildTracts g) = false ∧ r.cursor + 1 < 262144)
    ∧ (∃ s : State, ∃ g, ∃ r, s.rebuild g = r ∧ r.state = 1 ∧ s.isOut 0x29B = false ∧ s.inEasy = false ∧ s.coreOn = true ∧ s.engineWorks .rebuild g
      = false ∧ s.tractBusy (s.rebuildTracts g) = false ∧ 262144 ≤ r.cursor) := by
  refine ⟨⟨serving, byOperator, 1, 0, 64, 0, ?_, ?_, ?_, ?_, ?_, ?_, ?_, ?_, ?_, ?_⟩, ⟨serving, byOperator, 1, 0, 64, 0, ?_, ?_, ?_, ?_, ?_, ?_,
      ?_, ?_, ?_⟩, ⟨passing { ticket := 5, first := 0, len := 4096, start := 0 }, 5, { ticket := 5, first := 0, len := 4096, start := 0 }, ?_, ?_⟩,
      ⟨passing { ticket := 5, first := 0, len := 4096, start := 0 }, 5, { ticket := 5, first := 0, len := 4096, start := 0 }, 0, 0, 0, ?_, ?_, ?_,
      ?_, ?_, ?_, ?_, ?_⟩, ⟨passing { ticket := 5, first := 0, len := 4096, cancel := true }, 5,
      { ticket := 5, first := 0, len := 4096, cancel := true }, 0, 0, 0, ?_, ?_, ?_, ?_, ?_, ?_, ?_⟩,
      ⟨{ moving {} full with trc := { map := mapped.trc.map }, scr := { rewrite := [placeGranule 0 0] } }, placeGranule 0 0, 0, ?_, ?_, ?_, ?_, ?_,
      ?_, ?_, ?_, ?_⟩, ⟨{ moving {} full with trc := { map := mapped.trc.map }, scr := { rewrite := [placeGranule 0 0] } }, 0, 511, 0, ?_, ?_, ?_,
      ?_, ?_, ?_⟩, ⟨{ serving with scr := { rebuilds := [(0, { unit := 5, state := 1, cursor := 0 })] } }, 0,
      { unit := 5, state := 1, cursor := 0 }, ?_, ?_, ?_, ?_, ?_, ?_, ?_, ?_⟩,
      ⟨{ unitIn 5 { state := .rebuilding } with scr := { rebuilds := [(0, { unit := 5, state := 1, cursor := 262144 })] } }, 0,
      { unit := 5, state := 1, cursor := 262144 }, ?_, ?_, ?_, ?_, ?_, ?_, ?_, ?_⟩⟩ <;> decide +kernel

theorem witness_StartAndReview :
    (∃ s : State, s.canonical = true ∧ s.str.phase = .fullScan ∧ s.channelsReady = true)
    ∧ (∃ s : State, s.canonical = true ∧ s.keelOn = true ∧ s.cox.state = 1 ∧ s.str.keelFailed = false ∧ (s.sram 16).ready = true ∧ s.managed = true
      ∧ s.pwr.modrstLow = false ∧ (∀ h, (s.head h).doorbell = none))
    ∧ (∃ s : State, s.canonical = true ∧ s.readyForData = true ∧ s.itg.rekeyState ≠ 1 ∧ s.anyFast = true ∧ s.pwr.reqOff = false ∧ s.easy.causes = 0
      ∧ s.suspects = [])
    ∧ (∃ s : State, s.canonical = true ∧ s.readyForData = true ∧ s.itg.rekeyState ≠ 1 ∧ s.anyFast = true ∧ s.pwr.reqOff = false ∧ s.easy.causes = 0
      ∧ s.suspects ≠ [] ∧ s.cfg 0x3190 1 = 0)
    ∧ (∃ s : State, s.canonical = true ∧ ∃ req, ∃ first, ∃ count, ∃ n, s.coxUp = true ∧ mayWrite 0x3190 2 req = 0 ∧ 1 ≤ count ∧ first + count ≤
      logicalTracts ∧ s.domainOn 2 = true ∧ s.str.dataReady = true ∧ s.freeSlot = some n)
    ∧ (∃ s : State, s.canonical = true ∧ s.coxUp = true ∧ s.domainOn 2 = true) := by
  refine ⟨⟨{ serving with str := { phase := .fullScan } }, ?_, ?_, ?_⟩,
      ⟨{ serving with cox := { state := 1 }, stg := { srams := [(16, { ready := true })] } }, ?_, ?_, ?_, ?_, ?_, ?_, ?_, fun _ => rfl⟩,
      ⟨{ serving with pwr := { serving.pwr with state := .coreStart }, str := { phase := .mapLoad, powered := true, mapsLoaded := true, rootDone := true, began := true }, stg := { srams := (List.range 16).map fun n => (n, { ready := true }) } }, ?_, ?_, ?_, ?_, ?_, ?_, ?_⟩, ⟨State.modEntry 0 (fun e => { e with state := .suspect }) { serving with pwr := { serving.pwr with state := .coreStart }, str := { phase := .mapLoad, powered := true, mapsLoaded := true, rootDone := true, began := true }, stg := { srams := (List.range 16).map fun n => (n, { ready := true }) } }, ?_, ?_, ?_, ?_, ?_, ?_, ?_, ?_⟩, ⟨serving.modEntry 0 fun e => { e with state := .suspect }, ?_, byCustodian, 0, 1, 0, ?_, ?_, ?_, ?_, ?_, ?_, ?_⟩, ⟨serving.modEntry 0 fun e => { e with state := .suspect }, ?_, ?_, ?_⟩⟩ <;> decide +kernel

theorem witness_InputStage :
    (∃ s : State, s.inService = true ∧ s.pwr.switchClosed = true ∧ s.flt.queue.length < 256 ∧ s.pwr.breaker = false)
    ∧ (∃ s : State, s.pwr.state = .standby ∧ s.pwr.switchClosed = true ∧ s.pwr.keelPath = true)
    ∧ (∃ s : State, s.pwr.breaker = true)
    ∧ (∃ s : State, s.pwr.breaker = false ∧ s.pwr.state = .off ∧ s.pwr.overvoltage = false)
    ∧ (∃ s : State, s.pwr.breaker = false ∧ s.pwr.state = .off ∧ s.pwr.overvoltage = true ∧ s.pwr.inputLow = false)
    ∧ (∃ s : State, s.pwr.overvoltage = true ∧ s.pwr.inputLow = true)
    ∧ (∃ s : State, s.pwr.state = .off)
    ∧ (∃ s : State, s.pwr.breaker = false ∧ s.pwr.overvoltage = false ∧ s.pwr.switchClosed = false ∧ s.pwr.state = .standby)
    ∧ (∃ s : State, s.pwr.breaker = false ∧ s.pwr.overvoltage = false ∧ s.pwr.switchClosed = false ∧ s.pwr.state = .holdUpFlush)
    ∧ (∃ s : State, s.pwr.state = .holdUpFlush ∧ s.pwr.resetOnGood = true ∧ s.pwr.inputGood = true ∧ s.wb.flushing = false ∧ s.pwr.seqState ≠ 3 ∧
      s.pwr.seqState ≠ 5)
    ∧ (∃ s : State, s.pwr.state = .holdUpFlush ∧ s.pwr.resetOnGood = true ∧ s.pwr.inputGood = true ∧ s.wb.flushing = false ∧ s.pwr.seqState = 5 ∧
      s.pwr.modrstLow = false)
    ∧ (∃ s : State, ∃ timeTorn, ∃ cycleTorn, ∃ cells, s.pwr.state = .off ∧ s.pwr.switchClosed = true ∧ s.pwr.keelPath = true ∧ s.tim.tear timeTorn
      cycleTorn = cells)
    ∧ (∃ s : State, s.keelOn = true ∧ s.bank.state = 4) := by
  refine ⟨⟨serving, ?_, ?_, ?_, ?_⟩, ⟨up, ?_, ?_, ?_⟩, ⟨powered fun p => { p with breaker := true, keelPath := false, switchClosed := false }, ?_⟩,
      ⟨{ State.reset with pwr := { state := .off, switchClosed := false } }, ?_, ?_, ?_⟩,
      ⟨{ State.reset with pwr := { state := .off, overvoltage := true, switchClosed := false, inputLow := false } }, ?_, ?_, ?_, ?_⟩,
      ⟨{ State.reset with pwr := { state := .off, overvoltage := true, switchClosed := false, inputLow := true } }, ?_, ?_⟩,
      ⟨{ State.reset with pwr := { state := .off, switchClosed := true } }, ?_⟩, ⟨{ up with pwr := { switchClosed := false, inputGood := false } },
      ?_, ?_, ?_, ?_⟩, ⟨powered fun p => { p with state := .holdUpFlush, switchClosed := false, inputGood := false }, ?_, ?_, ?_, ?_⟩, ⟨powered fun
      p => { p with state := .holdUpFlush, switchClosed := false, resetOnGood := true, inputGood := true }, ?_, ?_, ?_, ?_, ?_, ?_⟩, ⟨powered fun p
      => { p with state := .holdUpFlush, switchClosed := false, resetOnGood := true, inputGood := true, seqState := 5, domains := [] }, ?_, ?_, ?_,
      ?_, ?_, ?_⟩, ⟨{ State.reset with pwr := { state := .off, switchClosed := true } }, true, false, State.reset.tim.tear true false, ?_, ?_, ?_,
      ?_⟩, ⟨{ (powered fun p => { p with state := .holdUpFlush, switchClosed := false }) with bank := { state := 4 } }, ?_, ?_⟩⟩ <;> decide +kernel

theorem witness_RequestsAndSideband :
    (∃ s : State, s.coxUp = true ∧ s.inService = true)
    ∧ (∃ s : State, s.canStart = true)
    ∧ (∃ s : State, s.coxUp = true ∧ s.pwr.state = .standby ∧ s.pwr.latch.latched = true)
    ∧ (∃ s : State, ∃ us, s.inService = true ∧ 10 ≤ us)
    ∧ (∃ us, us < 2)
    ∧ (∃ s : State, s.pwr.resetAsked = false)
    ∧ (∃ s : State, s.pwr.resetAsked = true ∧ s.pwr.state = .standby ∧ s.pwr.seqState ≠ 3)
    ∧ (∃ s : State, ∃ req, s.coxUp = true ∧ mayWrite 0x7001 0 req = 0 ∧ s.inService = true)
    ∧ (∃ s : State, ∃ req, s.coxUp = true ∧ mayWrite 0x7001 0 req = 0 ∧ ∃ v, v ≠ 1)
    ∧ (∃ s : State, ∃ a, ∃ b, s.keelOn = true ∧ s.flt.queue.length < 256 ∧ 2000 < a + b ∧ min a b * 5 < a + b)
    ∧ (∃ s : State, ∃ a, ∃ b, s.keelOn = true ∧ s.flt.queue.length < 256 ∧ ((a + b ≤ 2000 ∨ a + b ≤ min a b * 5)))
    ∧ (∃ s : State, s.keelOn = true ∧ s.inService = true)
    ∧ (∃ s : State, s.keelOn = true ∧ ∃ i : TapInstr, (s.inService = false ∨ i ≠ .extest)) := by
  refine ⟨⟨serving, ?_, ?_⟩, ⟨up, ?_⟩, ⟨{ up with pwr := { latch := { latched := true } } }, ?_, ?_, ?_⟩, ⟨serving, 10, ?_, ?_⟩, ⟨1, ?_⟩, ⟨powered
      fun p => { p with modrstLow := true }, ?_⟩, ⟨{ up with pwr := { resetAsked := true, modrstLow := true } }, ?_, ?_, ?_⟩, ⟨serving,
      byCustodian, ?_, ?_, ?_⟩, ⟨serving, byCustodian, ?_, ?_, 0, ?_⟩, ⟨serving, 2001, 0, ?_, ?_, ?_, ?_⟩, ⟨serving, 2000, 0, ?_, ?_, ?_⟩,
      ⟨serving, ?_, ?_⟩, ⟨serving, ?_, .samplePreload, ?_⟩⟩ <;> decide +kernel

theorem witness_GeographicAddress :
    (∃ s : State, s.keelOn = true ∧ ∃ p, p ≠ s.pwr.gaLatched ∧ s.pwr.gaDiffer = 0 ∧ s.pwr.gaMismatch = false)
    ∧ (∃ s : State, s.keelOn = true ∧ ∃ p, p ≠ s.pwr.gaLatched ∧ 1 ≤ s.pwr.gaDiffer) := by
  refine ⟨⟨serving, ?_, 5, ?_, ?_, ?_⟩, ⟨powered fun p => { p with gaDiffer := 1 }, ?_, 5, ?_, ?_⟩⟩ <;> decide +kernel

theorem witness_PowerSequence :
    (∃ s : State, ∃ d : Nat, s.canonical = true ∧ s.keelOn = true ∧ s.flt.queue.length < 256 ∧ ∃ drops, ((s.domain d).state = 1 ∨ (s.domain
      d).state = 2) ∧ max (s.domain d).drops drops < 8)
    ∧ (∃ s : State, ∃ d : Nat, s.canonical = true ∧ s.keelOn = true ∧ s.flt.queue.length < 256 ∧ ∃ drops, ((s.domain d).state = 1 ∨ (s.domain
      d).state = 2) ∧ 8 ≤ max (s.domain d).drops drops ∧ s.probeOf d = none ∧ s.pwr.mediaOnlyUp = false)
    ∧ (∃ s : State, ∃ d : Nat, s.canonical = true ∧ s.keelOn = true ∧ s.flt.queue.length < 256 ∧ ((stepDomains s.pwr.step).find? fun x =>
      !s.domainOn x && !s.offByFence x) = some d ∧ s.pwr.seqState = 1 ∧ s.pwr.paused = false ∧ s.probeOf d = none ∧ s.pwr.mediaOnlyUp = false)
    ∧ (∃ s : State, ∃ d : Nat, s.canonical = true ∧ s.keelOn = true ∧ s.flt.queue.length < 256 ∧ d < 176 ∧ (s.domain d).state = 3 ∧ s.pwr.seqState
      ≠ 3 ∧ s.pwr.mediaOnlyUp = false)
    ∧ (∃ s : State, ∃ d : Nat, s.canonical = true ∧ s.keelOn = true ∧ s.flt.queue.length < 256 ∧ d < 176 ∧ (s.domain d).state = 3 ∧ ∃ ns, 200 ≤ ns
      ∧ ns < 5000)
    ∧ (∃ s : State, s.canonical = true ∧ s.keelOn = true ∧ s.flt.queue.length < 256 ∧ ∃ ns, ns < 200)
    ∧ (∃ s : State, s.canonical = true ∧ s.keelOn = true ∧ s.flt.queue.length < 256 ∧ s.pwr.seqState = 3 ∧ s.pwr.mediaOnlyDown = false ∧ 1 <
      s.pwr.step)
    ∧ (∃ s : State, s.canonical = true ∧ s.keelOn = true ∧ s.flt.queue.length < 256 ∧ s.pwr.seqState = 3 ∧ s.pwr.mediaOnlyDown = false ∧ s.pwr.step
      ≤ 1 ∧ s.pwr.state = .easyAll ∧ s.pwr.resetAsked = false)
    ∧ (∃ s : State, ∃ d : Nat, s.canonical = true ∧ s.keelOn = true ∧ s.flt.queue.length < 256 ∧ s.pwr.seqState = 3 ∧ d < 176)
    ∧ (∃ s : State, s.canonical = true ∧ s.keelOn = true ∧ s.flt.queue.length < 256 ∧ ∃ ns, 1000 ≤ ns ∧ s.pwr.haltSeen = false ∧ s.haltLow = true)
    ∧ (∃ s : State, s.canonical = true ∧ s.keelOn = true ∧ s.flt.queue.length < 256 ∧ ∃ ns, 1000 ≤ ns ∧ s.haltSwitch = false)
    ∧ (∃ s : State, s.canonical = true ∧ s.keelOn = true ∧ s.flt.queue.length < 256 ∧ (∀ x ∈ s.pwr.haltDrivers, x = 9))
    ∧ (∃ s : State, s.canonical = true ∧ s.keelOn = true ∧ s.flt.queue.length < 256 ∧ s.haltLow = true)
    ∧ (∃ s : State, s.canonical = true ∧ s.keelOn = true ∧ s.flt.queue.length < 256 ∧ ∃ req, ∃ n, s.coxUp = true ∧ mayWrite 0x5010 1 req = 0 ∧
      s.freeSlot = some n ∧ s.pwr.latch.latched = true)
    ∧ (∃ s : State, s.canonical = true ∧ s.keelOn = true ∧ s.flt.queue.length < 256 ∧ ∃ req, ∃ n, s.coxUp = true ∧ mayWrite 0x5010 1 req = 0 ∧
      s.freeSlot = some n ∧ s.pwr.latch.latched = false)
    ∧ (∃ s : State, s.canonical = true ∧ s.keelOn = true ∧ s.flt.queue.length < 256 ∧ s.coxUp = true)
    ∧ (∃ s : State, ∃ d : Nat, s.canonical = true ∧ s.keelOn = true ∧ s.flt.queue.length < 256 ∧ s.coxUp = true ∧ ∃ p : Int, d < 176 ∧ -5 ≤ p ∧ p ≤
      5 ∧ s.pwr.marginOn = true ∧ s.domainOn d = true ∧ s.pwr.state ≠ .holdUpFlush ∧ s.pwr.state ≠ .coreStart) := by
  refine ⟨⟨domained 32 { state := 1, drops := 0 }, 32, ?_, ?_, ?_, 7, ?_, ?_⟩, ⟨domained 32 { state := 1, drops := 0 }, 32, ?_, ?_, ?_, 8, ?_, ?_,
      ?_, ?_⟩, ⟨serving.modPwr fun p => { p with seqState := 1, step := 15, domains := p.domains.filter fun x => decide (x.1 ≠ 12) }, 12, ?_, ?_,
      ?_, ?_, ?_, ?_, ?_, ?_⟩, ⟨serving, 175, ?_, ?_, ?_, ?_, ?_, ?_, ?_⟩, ⟨serving, 175, ?_, ?_, ?_, ?_, ?_, 200, ?_, ?_⟩, ⟨serving, ?_, ?_, ?_,
      199, ?_⟩, ⟨powered fun p => { p with seqState := 3, step := 2 }, ?_, ?_, ?_, ?_, ?_, ?_⟩, ⟨powered fun p =>
      { p with seqState := 3, step := 1, state := .easyAll }, ?_, ?_, ?_, ?_, ?_, ?_, ?_, ?_⟩, ⟨powered fun p =>
      { p with seqState := 3, step := 15 }, 0, ?_, ?_, ?_, ?_, ?_⟩, ⟨powered fun p => { p with haltDrivers := [2] }, ?_, ?_, ?_, 1000, ?_, ?_, ?_⟩,
      ⟨serving.setCfg 0x1102 3 0, ?_, ?_, ?_, 1000, ?_, ?_⟩, ⟨powered fun p =>
      { p with haltDrivers := [9], haltSeen := true, haltOutside := true }, ?_, ?_, ?_, ?_⟩, ⟨powered fun p => { p with haltDrivers := [2] }, ?_,
      ?_, ?_, ?_⟩, ⟨powered fun p => { p with latch := { latched := true } }, ?_, ?_, ?_, byCustodian, 0, ?_, ?_, ?_, ?_⟩, ⟨serving, ?_, ?_, ?_,
      byCustodian, 0, ?_, ?_, ?_, ?_⟩, ⟨serving, ?_, ?_, ?_, ?_⟩, ⟨powered fun p => { p with marginOn := true }, 32, ?_, ?_, ?_, ?_, 5, ?_, ?_, ?_,
      ?_, ?_, ?_, ?_⟩⟩ <;> decide +kernel

theorem witness_SeatBus :
    (∃ s : State, ∃ n : Nat, s.canonical = true ∧ s.keelOn = true ∧ (s.seatOf n).silent = false ∧ ∃ d, owns n d = true ∧ (s.domain d).state = 0)
    ∧ (∃ s : State, ∃ n : Nat, s.canonical = true ∧ s.keelOn = true ∧ (s.seatOf n).silent = false ∧ ∃ d, owns n d = true ∧ (s.domain d).state ≠ 0)
    ∧ (∃ s : State, ∃ n : Nat, s.canonical = true ∧ s.keelOn = true ∧ (s.seatOf n).silent = false ∧ ∃ d, owns n d = true ∧ d < 12 ∧ s.inService =
      true)
    ∧ (∃ s : State, ∃ n : Nat, s.canonical = true ∧ s.keelOn = true ∧ (s.seatOf n).silent = false ∧ ∃ d, owns n d = true ∧ s.domainOn d = true ∧ (d
      < 12 → s.inService = false))
    ∧ (∃ s : State, ∃ n : Nat, s.canonical = true ∧ s.keelOn = true ∧ (s.seatOf n).silent = false ∧ ∃ d, owns n d = true ∧ ∃ p : Int, s.domainOn d
      = true ∧ -5 ≤ p ∧ p ≤ 5)
    ∧ (∃ s : State, ∃ n : Nat, s.canonical = true ∧ s.keelOn = true ∧ (s.seatOf n).silent = false ∧ ∃ d, owns n d = true ∧ ∃ p : Int, (p < -5 ∨ 5 <
      p))
    ∧ (∃ s : State, ∃ n : Nat, s.canonical = true ∧ s.keelOn = true ∧ (s.seatOf n).silent = false ∧ ∃ d, owns n d = false)
    ∧ (∃ s : State, ∃ n : Nat, s.canonical = true ∧ s.keelOn = true ∧ (s.seatOf n).silent = false ∧ n = 1 ∧ s.bankCharged = true)
    ∧ (∃ s : State, ∃ n : Nat, s.canonical = true ∧ s.keelOn = true ∧ (s.seatOf n).silent = false ∧ n = 1 ∧ s.bankCharged = false)
    ∧ (∃ s : State, ∃ n : Nat, s.canonical = true ∧ s.keelOn = true ∧ (s.seatOf n).silent = false ∧ n ≠ 1)
    ∧ (∃ s : State, ∃ n : Nat, s.canonical = true ∧ s.keelOn = true ∧ (s.seatOf n).silent = false ∧ s.faultPresent n = true)
    ∧ (∃ s : State, ∃ n : Nat, s.canonical = true ∧ s.keelOn = true ∧ (s.seatOf n).silent = false ∧ s.faultPresent n = false)
    ∧ (∃ s : State, ∃ n : Nat, s.canonical = true ∧ s.keelOn = true ∧ (s.seatOf n).silent = false ∧ (s.pwr.seqState = 1 ∨ s.pwr.seqState = 3)) := by
  refine ⟨⟨{ serving with pwr := { serving.pwr with domains := [] } }, (seatOfDomain 32), ?_, ?_, ?_, 32, ?_, ?_⟩, ⟨serving, (seatOfDomain 32), ?_,
      ?_, ?_, 32, ?_, ?_⟩, ⟨serving, (seatOfDomain 3), ?_, ?_, ?_, 3, ?_, ?_, ?_⟩, ⟨serving, (seatOfDomain 32), ?_, ?_, ?_, 32, ?_, ?_, ?_⟩,
      ⟨serving, (seatOfDomain 32), ?_, ?_, ?_, 32, ?_, -5, ?_, ?_, ?_⟩, ⟨serving, (seatOfDomain 32), ?_, ?_, ?_, 32, ?_, -6, ?_⟩, ⟨serving, 1, ?_,
      ?_, ?_, 32, ?_⟩, ⟨serving, 1, ?_, ?_, ?_, ?_, ?_⟩, ⟨up, 1, ?_, ?_, ?_, ?_, ?_⟩, ⟨serving, 2, ?_, ?_, ?_, ?_⟩,
      ⟨{ serving with seat := { seats := [(2, { fault := 3, faultDomain := 32 })] }, pwr := { domains := [(32, { state := 4 })], haltDrivers := [2] } }, 2, ?_, ?_, ?_, ?_⟩, ⟨powered fun p => { p with haltDrivers := [2] }, 2, ?_, ?_, ?_, ?_⟩, ⟨powered fun p => { p with seqState := 3, step := 14 }, 1, ?_, ?_, ?_, ?_⟩⟩ <;> decide +kernel

theorem witness_SeatRetries :
    (∃ s : State, ∃ n : Nat, s.canonical = true ∧ s.keelOn = true ∧ (s.seatOf n).silent = false ∧ ∃ c ∈ [Instr.seatBusFailure n true,
      .seatBusFailure n false, .seatBusStuck n], (s.seatOf n).failures < 3)
    ∧ (∃ s : State, ∃ n : Nat, s.canonical = true ∧ s.keelOn = true ∧ (s.seatOf n).silent = false ∧ ∃ c ∈ [Instr.seatBusFailure n true,
      .seatBusFailure n false, .seatBusStuck n], 3 ≤ (s.seatOf n).failures ∧ s.flt.queue.length < 256)
    ∧ (∃ s : State, ∃ n : Nat, s.canonical = true ∧ s.keelOn = true ∧ (s.seatOf n).silent = false ∧ (s.seatOf n).failures < 3)
    ∧ (∃ s : State, ∃ n : Nat, s.canonical = true ∧ s.keelOn = true ∧ (s.seatOf n).silent = false ∧ Tab.rd 0 s.tly.bases (objKey 0x5050 0 + 2 ^ 24
      * 3) = 0) := by
  refine ⟨⟨seated { failures := 2 }, 1, ?_, ?_, ?_, .seatBusFailure 1 true, ?_, ?_⟩, ⟨seated { failures := 3 }, 1, ?_, ?_, ?_, .seatBusFailure 1
      true, ?_, ?_, ?_⟩, ⟨seated { failures := 2 }, 1, ?_, ?_, ?_, ?_⟩, ⟨seated { failures := 2 }, 1, ?_, ?_, ?_, ?_⟩⟩ <;> decide +kernel

theorem witness_HoldUpBank :
    (∃ s : State, s.bank.boost = true ∧ (s.bank.state = 1 ∨ s.bank.state = 5) ∧ s.bank.measured = false ∧ s.bank.measuring = none ∧ s.wb.flushing =
      false ∧ s.thm.level < 3)
    ∧ (∃ s : State, s.bank.boost = true ∧ (s.bank.state = 1 ∨ s.bank.state = 5) ∧ s.bank.measured = false ∧ s.bank.measuring = none ∧ 3 ≤ s.thm.level)
    ∧ (∃ s : State, s.bank.boost = true ∧ (s.bank.state = 1 ∨ s.bank.state = 5) ∧ ∃ mv, 70000 ≤ mv ∧ s.bank.measured = true ∧ 2400 ≤ s.bank.uF ∧
      s.bank.deferred = false)
    ∧ (∃ s : State, s.bank.notReady = false ∧ s.flt.queue.length < 256 ∧ s.pwr.state = .coreStart ∧ s.bank.boost = true ∧ s.bank.state ≠ 2)
    ∧ (∃ s : State, s.bank.notReady = false ∧ s.flt.queue.length < 256 ∧ ∃ mv, s.inService = true ∧ s.bank.state = 2 ∧ mv < 70000)
    ∧ (∃ s : State, s.bank.notReady = false ∧ s.flt.queue.length < 256 ∧ s.inService = true ∧ s.bank.boost = true)
    ∧ (∃ s : State, (s.inService = true ∨ s.inEasy = true) ∧ s.bank.state = 2 ∧ s.bank.measuring = none ∧ s.bankCharged = true ∧ s.wb.flushing =
      false ∧ s.thm.level < 3)
    ∧ (∃ s : State, (s.inService = true ∨ s.inEasy = true) ∧ s.bank.state = 2 ∧ s.bank.measuring = none ∧ (s.wb.flushing = true ∨ 3 ≤ s.thm.level))
    ∧ (∃ s : State, ∃ req, ∃ n, s.coxUp = true ∧ mayWrite 0x5040 4 req = 0 ∧ s.freeSlot = some n ∧ s.bankCharged = true ∧ s.bank.measuring = none ∧
      s.wb.flushing = false ∧ s.thm.level < 3)
    ∧ (∃ s : State, ∃ req, ∃ n, s.coxUp = true ∧ mayWrite 0x5040 4 req = 0 ∧ s.freeSlot = some n ∧ s.bankCharged = false)
    ∧ (∃ s : State, s.bank.measuring ≠ none ∧ s.bank.deferred = false) := by
  refine ⟨⟨banked { state := 1, boost := true }, ?_, ?_, ?_, ?_, ?_, ?_⟩, ⟨{ banked { state := 5, boost := true } with thm := { level := 3 } }, ?_,
      ?_, ?_, ?_, ?_⟩, ⟨banked { state := 1, boost := true, measured := true, uF := 2400 }, ?_, ?_, 70000, ?_, ?_, ?_, ?_⟩,
      ⟨{ (powered fun p => { p with state := .coreStart }) with bank := { state := 1, boost := true } }, ?_, ?_, ?_, ?_, ?_⟩, ⟨serving, ?_, ?_,
      69999, ?_, ?_, ?_⟩, ⟨serving, ?_, ?_, ?_, ?_⟩, ⟨serving, ?_, ?_, ?_, ?_, ?_, ?_⟩, ⟨{ serving with wb := { flushing := true } }, ?_, ?_, ?_,
      ?_⟩, ⟨serving, byCustodian, 0, ?_, ?_, ?_, ?_, ?_, ?_, ?_⟩, ⟨banked { state := 1 }, byCustodian, 0, ?_, ?_, ?_, ?_⟩, ⟨banked
      { state := 3, boost := true, measuring := some 0 }, ?_, ?_⟩⟩ <;> decide +kernel

theorem witness_FlashAndImages :
    (∃ s : State, s.fls.counts.length = 5 ∧ ∃ c, ∃ n, s.fls.running = some (.program c n) ∧ s.keelOn = true ∧ s.flt.queue.length < 256)
    ∧ (∃ s : State, s.fls.counts.length = 5 ∧ ∃ n, s.fls.running = some (.erase n))
    ∧ (∃ s : State, s.fls.counts.length = 5 ∧ ∃ n, s.fls.running = some (.erase n))
    ∧ (∃ s : State, s.fls.counts.length = 5 ∧ ∃ n, s.fls.running = some (.erase n) ∧ n = optionSector ∧ s.fls.queue = [] ∧ s.fls.suspended = none ∧
      s.par.bp ≠ 3)
    ∧ (∃ s : State, s.fls.counts.length = 5 ∧ ∃ n, s.fls.running = some (.erase n) ∧ s.fls.depth < 7 ∧ s.fls.minimumRun = false)
    ∧ (∃ s : State, s.fls.counts.length = 5 ∧ ∃ n, s.fls.running = some (.erase n))
    ∧ (∃ s : State, s.fls.counts.length = 5 ∧ ∃ n, s.fls.depth = 1 ∧ s.fls.running = none ∧ s.fls.queue = [] ∧ s.fls.suspended = some n)
    ∧ (∃ s : State, s.fls.counts.length = 5 ∧ s.coxUp = true ∧ journalDue ≤ s.ext.journalUsed ∧ s.onBank = false)
    ∧ (∃ s : State, s.fls.counts.length = 5 ∧ s.coxUp = true ∧ ∃ req, ∃ n, ∃ r, ∃ b, ∃ w, mayWrite 0x6010 0 req = 0 ∧ r ≤ 255 ∧ b ≤ 3 ∧ 10 ≤ w ∧ w
      ≤ 1000 ∧ s.fls.optionWrite = none ∧ s.freeSlot = some n)
    ∧ (∃ s : State, s.fls.counts.length = 5 ∧ s.coxUp = true ∧ ∃ req, ∃ n, s.freeSlot = some n ∧ s.img.trial = none ∧ ∃ len, mayWrite 0x6000 16 req
      = 0 ∧ 8192 ≤ len ∧ len ≤ 6291456 ∧ ((s.image' s.spareImage).state = 0 ∨ (s.image' s.spareImage).state = 3 ∨ (s.image' s.spareImage).state = 4))
    ∧ (∃ s : State, s.fls.counts.length = 5 ∧ s.coxUp = true ∧ ∃ req, ∃ n, s.freeSlot = some n ∧ s.img.trial = none ∧ mayWrite 0x6000 17 req = 0 ∧
      (s.image' s.spareImage).state = 2 ∧ s.noPrograms = false)
    ∧ (∃ s : State, s.fls.counts.length = 5 ∧ s.coxUp = true ∧ ∃ req, ∃ n, s.freeSlot = some n ∧ s.img.trial = none ∧ mayWrite 0x6000 18 req = 0 ∧
      (s.image' s.spareImage).state = 3)
    ∧ (∃ s : State, s.fls.counts.length = 5 ∧ s.coxUp = true ∧ ∃ o, ∃ data : List Byte, data ≠ [] ∧ data.length % 8 = 0 ∧ o % 8 = 0 ∧ (∀ k, k <
      data.length / 8 → (s.image' s.spareImage).refuses (o + 8 * k) = false) ∧ (s.image' s.spareImage).state = 2 ∧ s.noPrograms = false)
    ∧ (∃ s : State, s.fls.counts.length = 5 ∧ s.coxUp = true ∧ ∃ o, ∃ data : List Byte, data ≠ [] ∧ data.length % 8 = 0 ∧ o % 8 = 0 ∧ (∀ k, k <
      data.length / 8 → (s.image' s.spareImage).refuses (o + 8 * k) = false) ∧ (s.image' s.spareImage).state = 2 ∧ s.noPrograms = false ∧
      data.length ≤ 240)
    ∧ (∃ s : State, s.fls.counts.length = 5 ∧ s.coxUp = true ∧ ∃ b, s.img.trial = some b ∧ s.img.runsB = b) := by
  refine ⟨⟨flashing { running := some (.program 2 7) }, ?_, 2, 7, ?_, ?_, ?_⟩, ⟨flashing { running := some (.erase 7), startedAt := 0 }, ?_, 7,
      ?_⟩, ⟨flashing { running := some (.erase 7) }, ?_, 7, ?_⟩, ⟨flashing
      { running := some (.erase 4095), optionWrite := some ({}, 0, 2), flags := [4095] }, ?_, optionSector, ?_, ?_, ?_, ?_, ?_⟩, ⟨flashing
      { running := some (.erase 7), depth := 6 }, ?_, 7, ?_, ?_, ?_⟩, ⟨flashing { running := some (.erase 7), minimumRun := true }, ?_, 7, ?_⟩,
      ⟨flashing { suspended := some 7, depth := 1 }, ?_, 7, ?_, ?_, ?_, ?_⟩, ⟨{ up with ext := { journalUsed := 67584 } }, ?_, ?_, ?_, ?_⟩, ⟨up,
      ?_, ?_, byCustodian, 0, 255, 3, 10, ?_, ?_, ?_, ?_, ?_, ?_, ?_⟩, ⟨up, ?_, ?_, byCustodian, 0, ?_, ?_, 8192, ?_, ?_, ?_, ?_⟩, ⟨imaged
      { state := 2 }, ?_, ?_, byCustodian, 0, ?_, ?_, ?_, ?_, ?_⟩, ⟨imaged { state := 3 }, ?_, ?_, byCustodian, 0, ?_, ?_, ?_, ?_⟩, ⟨imaged
      { state := 2, len := 8192 }, ?_, ?_, 0, List.replicate 248 0, ?_, ?_, ?_, ?_, ?_, ?_⟩, ⟨imaged { state := 2, len := 8192 }, ?_, ?_, 0,
      List.replicate 240 0, ?_, ?_, ?_, ?_, ?_, ?_, ?_⟩, ⟨{ up with img := { trial := some true, runsB := true, b := { state := 6 } } }, ?_, ?_,
      true, ?_, ?_⟩⟩ <;> decide +kernel

theorem witness_StoreLogTally :
    (∃ s : State, s.coxUp = true ∧ ∃ w, ∃ rest, s.par.queue = w :: rest ∧ w.failedOnce = false)
    ∧ (∃ s : State, s.coxUp = true ∧ ∃ w, ∃ rest, s.par.queue = w :: rest ∧ w.failedOnce = true ∧ 0 < s.par.spares ∧ s.flt.queue.length < 256)
    ∧ (∃ s : State, s.coxUp = true ∧ s.par.bp ≠ 3)
    ∧ (∃ s : State, s.coxUp = true ∧ ∃ v, (v = 1 ∨ v = 2) ∧ s.par.bp ≠ 3)
    ∧ (∃ s : State, s.coxUp = true ∧ ∃ r, ∃ rest, s.par.bp ≠ 3 ∧ s.log.staged = r :: rest ∧ s.log.lostNow = 0)
    ∧ (∃ s : State, s.coxUp = true)
    ∧ (∃ s : State, s.coxUp = true ∧ ∃ req, ∃ n, mayWrite 0x4100 3 req = 0 ∧ s.log.clearing = none ∧ s.freeSlot = some n)
    ∧ (∃ s : State, s.coxUp = true ∧ ∃ d, ∃ trigger, ∃ param, ∃ objs : List ObjRef, d ≤ 3 ∧ snapParamOk trigger param = true ∧ objs.length ≤ 32 ∧
      objs.all snapAllowed = true ∧ s.configLocked = false ∧ s.storeBusy = false)
    ∧ (∃ s : State, s.coxUp = true ∧ ∃ d, ∃ x, d ≤ 3 ∧ Tab.rd {} s.log.defs d = x ∧ x.trigger ≠ 0)
    ∧ (∃ s : State, s.coxUp = true ∧ ∃ d, ∃ x, d ≤ 3 ∧ Tab.rd {} s.log.defs d = x ∧ x.trigger = 1)
    ∧ (∃ s : State, s.log.lostNow ≠ 0 ∧ s.ringUsed < 65536)
    ∧ (∃ s : State, s.tallyRuns = true ∧ s.tly.winDiscard = false) := by
  refine ⟨⟨storing { copy1 := 1 }, ?_, { copy1 := 1 }, [], ?_, ?_⟩, ⟨storing { failedOnce := true, page := 9 }, ?_,
      { failedOnce := true, page := 9 }, [], ?_, ?_, ?_, ?_⟩, ⟨up, ?_, ?_⟩, ⟨storing { copy1 := 1 }, ?_, 1, ?_, ?_⟩,
      ⟨{ up with log := { staged := [{ seq := 1, body := .queueLoss 0 }] } }, ?_, { seq := 1, body := .queueLoss 0 }, [], ?_, ?_, ?_⟩,
      ⟨{ up with log := { areaC := [{ seq := 1, body := .queueLoss 0 }] } }, ?_⟩, ⟨up, ?_, byCustodian, 0, ?_, ?_, ?_⟩, ⟨up, ?_, 3, 1, 86400,
      [{ index := 0x1101, member := 0 }], ?_, ?_, ?_, ?_, ?_, ?_⟩, ⟨{ up with log := { defs := [(3, { trigger := 6 })] } }, ?_, 3,
      { trigger := 6 }, ?_, ?_, ?_⟩, ⟨{ up with log := { defs := [(3, { trigger := 1 })] } }, ?_, 3, { trigger := 1 }, ?_, ?_, ?_⟩,
      ⟨{ up with log := { lostNow := 2, lostFirst := 7 } }, ?_, ?_⟩, ⟨serving, ?_, ?_⟩⟩ <;> decide +kernel

theorem witness_StepTakesTheFront :
    (∃ s : State, ∃ c, ∃ rest, s.pending = c :: rest)
    ∧ (∃ s : State, s.pending = [] ∧ s.keelOn = true)
    ∧ (∃ s : State, s.pending = [] ∧ s.keelOn = false) := by
  refine ⟨⟨{ serving with pending := [.domainOn 2 32] }, .domainOn 2 32, [], ?_⟩, ⟨serving, ?_, ?_⟩,
      ⟨{ State.reset with pwr := { state := .off } }, ?_, ?_⟩⟩ <;> decide +kernel

theorem witness_EveryCommandFrame :
    ∃ c : Instr, ∃ s : State, ∃ t : State, exec c s = .next t := by
  refine ⟨.faultMessageTaken, State.reset, _, rfl⟩

theorem witness_EveryStepKeepsTheTables :
    ∃ s : State, ∃ t : State, step s = .next t ∧ s.canonical = true ∧ s.flt.queue.length ≤ 256 := by
  refine ⟨serving, tick serving, rfl, ?_, ?_⟩ <;> decide +kernel

theorem witness_EveryStepOnlyAdds :
    ∃ s : State, ∃ t : State, step s = .next t := by
  refine ⟨serving, tick serving, rfl⟩

end Sys2Proof.Tests
end

section
/-! PROOFS. GA[5:0] sampled again (02 R53). The next state of GA_SAMPLE is the state with the sample recorded, in the case where 0x1102.02
changes followed by a NOTIFY, and where it becomes set also by a C0 message. A NOTIFY and a C0 message change none of the fields that the
statement speaks of but the fault queue, so each clause is read off the recorded sample. -/

namespace Sys2Proof.Machine

variable (s : State)

/-! ## What a change of an object's value leaves unchanged (R296) -/

/-- The NOTIFY messages for an object's change touch the Wobry path and the outputs alone. -/
theorem State.notifyObject_frame (idx mem : Nat) : Frame noticeFields s (s.notifyObject idx mem) :=
  (State.notifyObject_keep (covers_self _) (Keep.refl _ s) idx mem).frame (by decide +kernel)

@[simp] theorem State.notifyObject_gaLatched (idx mem : Nat) : (s.notifyObject idx mem).pwr.gaLatched = s.pwr.gaLatched :=
  s.notifyObject_frame idx mem .pwrGaLatched (by decide)

@[simp] theorem State.notifyObject_gaDiffer (idx mem : Nat) : (s.notifyObject idx mem).pwr.gaDiffer = s.pwr.gaDiffer :=
  s.notifyObject_frame idx mem .pwrGaDiffer (by decide)

@[simp] theorem State.notifyObject_gaMismatch (idx mem : Nat) : (s.notifyObject idx mem).pwr.gaMismatch = s.pwr.gaMismatch :=
  s.notifyObject_frame idx mem .pwrGaMismatch (by decide)

@[simp] theorem State.notifyObject_faultQueue (idx mem : Nat) : (s.notifyObject idx mem).flt.queue = s.flt.queue :=
  s.notifyObject_frame idx mem .fltQueue (by decide)

/-! ## A message of class C0 (01 R23) -/

@[simp] theorem State.queueFault_pwr (m : Word64) : (s.queueFault m).pwr = s.pwr := rfl

theorem State.queueFault_queue_of_room (m : Word64) (room : s.flt.queue.length < 256) :
    (s.queueFault m).flt.queue = s.flt.queue ++ [m] := by
  simp [State.queueFault, room]

/-- A kind of class C0 has no sticky line and no fatal line: its message joins the queue, and nothing more happens. -/
theorem State.report_of_classC0 {src kind : Nat} {addr : Option Nat} (keel : s.keelOn = true) (c0 : kindClass kind = 0) :
    s.report src kind addr = s.queueFault (faultMsg src kind addr false) := by
  simp [State.report, State.when, keel, c0]

/-! ## The sample recorded -/

/-- A sample of GA[5:0] recorded: the pins, how many samples in succession have differed from the latch, and the mismatch. -/
def State.gaRecorded (pins differ : Nat) (mismatch : Bool) (s : State) : State :=
  s.modPwr fun p => { p with gaPins := pins, gaNow := pins % 64, gaDiffer := differ, gaMismatch := mismatch }

variable (pins differ : Nat) (mismatch : Bool)

@[simp] theorem State.gaRecorded_gaLatched : (s.gaRecorded pins differ mismatch).pwr.gaLatched = s.pwr.gaLatched := rfl
@[simp] theorem State.gaRecorded_gaDiffer : (s.gaRecorded pins differ mismatch).pwr.gaDiffer = differ := rfl
@[simp] theorem State.gaRecorded_gaMismatch : (s.gaRecorded pins differ mismatch).pwr.gaMismatch = mismatch := rfl
@[simp] theorem State.gaRecorded_flt : (s.gaRecorded pins differ mismatch).flt = s.flt := rfl
@[simp] theorem State.gaRecorded_keelOn : (s.gaRecorded pins differ mismatch).keelOn = s.keelOn := rfl

/-- 0x1102.02 reads as the mismatch, to every holder. -/
@[simp] theorem State.value_gaMismatch (holder : Nat) : s.value holder 0x1102 2 = boolByte s.pwr.gaMismatch := rfl

/-! ## GA_SAMPLE, case by case -/

variable {s pins}

/-- A sample that equals the latched value: the mismatch clears, with a NOTIFY where it was set. -/
theorem execGaSample_latched (keel : s.keelOn = true) :
    execGaSample s.pwr.gaLatched s = .next (if s.pwr.gaMismatch
      then (s.gaRecorded s.pwr.gaLatched 0 false).notifyObject 0x1102 2 else s.gaRecorded s.pwr.gaLatched 0 false) := by
  simp [execGaSample, keel, State.gaRecorded]

/-- The first sample that differs is only counted. -/
theorem execGaSample_firstDiffering (keel : s.keelOn = true) (differs : pins ≠ s.pwr.gaLatched) (first : s.pwr.gaDiffer = 0)
    (clear : s.pwr.gaMismatch = false) : execGaSample pins s = .next (s.gaRecorded pins 1 false) := by
  simp [execGaSample, keel, differs, first, clear, State.gaRecorded, State.modPwr]

/-- A further sample that differs, while the mismatch is clear: it is set and reported. -/
theorem execGaSample_mismatchSet (keel : s.keelOn = true) (differs : pins ≠ s.pwr.gaLatched) (further : 1 ≤ s.pwr.gaDiffer)
    (clear : s.pwr.gaMismatch = false) :
    execGaSample pins s
      = .next (((s.gaRecorded pins (s.pwr.gaDiffer + 1) true).queueFault (faultMsg 0x2F7 0x82 none false)).notifyObject 0x1102 2) := by
  have isQueued : (s.gaRecorded pins (s.pwr.gaDiffer + 1) true).report 0x2F7 0x82 none
      = (s.gaRecorded pins (s.pwr.gaDiffer + 1) true).queueFault (faultMsg 0x2F7 0x82 none false) :=
    State.report_of_classC0 _ (by simpa using keel) (by decide)
  rw [← isQueued]
  simp [execGaSample, keel, differs, further, clear, State.gaRecorded, State.modPwr]

/-- A further sample that differs, while the mismatch is set: it stays set, and is not reported again. -/
theorem execGaSample_mismatchStays (keel : s.keelOn = true) (differs : pins ≠ s.pwr.gaLatched) (stands : s.pwr.gaMismatch = true) :
    execGaSample pins s = .next (s.gaRecorded pins (s.pwr.gaDiffer + 1) true) := by
  simp [execGaSample, keel, differs, stands, State.gaRecorded, State.modPwr]

theorem frameOf_gaSample : frameOf (.gaSample pins)
    = reportFields ++ [Field.pwrGaPins, Field.pwrGaNow, Field.pwrGaDiffer, Field.pwrGaMismatch] := rfl

/-- What GA_SAMPLE answers lies within its frame, so a clause about it is its next state and what holds of that. -/
theorem does_gaSample {P : State → Prop} {t : State} (next : execGaSample pins s = .next t) (holds : P t) : Does (.gaSample pins) s P := by
  refine ⟨t, next, (execGaSample_keep (covers_self _) (Keep.refl _ s) pins).frame ?_ next, holds⟩
  rw [frameOf_gaSample]
  decide +kernel

end Sys2Proof.Machine

open Sys2Proof Sys2Proof.Machine

/-- Settles O48, from the next state of GA_SAMPLE in each of its four cases: the sample equals the latch, is the first that differs, sets the
mismatch, or finds it set. -/
theorem geographicAddress : Obligations.GeographicAddress := by
  unfold Obligations.GeographicAddress
  intro s keel
  refine ⟨?equal, ?first, ?further⟩
  case equal =>
    refine does_gaSample (execGaSample_latched keel) ?_
    cases s.pwr.gaMismatch <;> simp [boolByte]
  case first =>
    intro p differs first clear
    exact does_gaSample (execGaSample_firstDiffering keel differs first clear) (by simp [boolByte])
  case further =>
    intro p differs further
    cases mismatch : s.pwr.gaMismatch with
    | false =>
      refine does_gaSample (execGaSample_mismatchSet keel differs further mismatch) ?_
      have joins (room : s.flt.queue.length < 256) := State.queueFault_queue_of_room
        (s.gaRecorded p (s.pwr.gaDiffer + 1) true) (faultMsg 0x2F7 0x82 none false) room
      simp +contextual [boolByte, queued, joins]
    | true => exact does_gaSample (execGaSample_mismatchStays keel differs mismatch) (by simp [boolByte])

end

section
/-! PROOFS. The hint of a range of extents (04 R101, R106). A range is accepted exactly where the command is well formed and every extent of it
is Assigned to the head. An accepted one writes the hint of one extent after another; a write leaves the other extents of a table in
canonical form as they are, and a second write of the same hint changes nothing more, so that the state after is read off membership in the
range. The mailbox's return comes last and touches no extent. -/

namespace Sys2Proof.Machine

variable (s : State)

/-! ## A write of one key of a table -/

theorem Tab.rd_mod_ne {α : Type} [DecidableEq α] (d : α) (t : Tab α) {j k : Nat} (f : α → α) (other : j ≠ k)
    (canonical : Tab.wf (fun _ => d) t = true) : Tab.rd d (Tab.mod d t k f) j = Tab.rd d t j :=
  Tab.get_put_ne _ t _ other canonical

/-! ## A mailbox command and its return (03 R86, 04 R104) -/

/-- A mailbox command of a head whose link is up runs at once, while CD0 is powered and Cox is up. -/
theorem mailboxed_of_up {s : State} {h : Nat} (link : s.linkUp h = true) (cd0 : s.domainOn 0 = true) (cox : s.coxUp = true) (c : Instr)
    (op : State → State) : mailboxed h c op s = op s := by
  simp [mailboxed, link, cd0, cox]

/-- An MSI-X message is sent, kept pending in its link, or dropped: it touches the links and the outputs alone. -/
theorem State.msix_cases (h v : Nat) :
    s.msix h v = s ∨ (∃ f, s.msix h v = s.modLink h f) ∨ s.msix h v = s.emit (.msix h v) := by
  unfold State.msix
  dsimp only
  split
  · exact .inl rfl
  · split
    · exact .inr (.inl ⟨_, rfl⟩)
    · exact .inr (.inr rfl)

@[simp] theorem State.msix_ext (h v : Nat) : (s.msix h v).ext = s.ext := by
  obtain unsent | ⟨f, pending⟩ | sent := s.msix_cases h v
  · rw [unsent]
  · rw [pending]; rfl
  · rw [sent]; rfl

/-- The messages of a vector aside, an MSI-X message of it adds no output. -/
theorem State.msix_out_others (h v : Nat) :
    (s.msix h v).out.filter (fun o => decide (o ≠ .msix h v)) = s.out.filter fun o => decide (o ≠ .msix h v) := by
  obtain unsent | ⟨f, pending⟩ | sent := s.msix_cases h v
  · rw [unsent]
  · rw [pending]; rfl
  · simp [sent, State.emit]

@[simp] theorem State.mbReturn_ext (h opcode ret : Nat) (payload : List Byte) : (s.mbReturn h opcode ret payload).ext = s.ext :=
  State.msix_ext _ h 0

@[simp] theorem State.mbReturn_extent (h opcode ret : Nat) (payload : List Byte) (e : Nat) :
    (s.mbReturn h opcode ret payload).extent e = s.extent e := by
  simp [State.extent]

theorem State.returned_mbReturn (h opcode ret : Nat) (payload : List Byte) :
    returned h opcode ret payload (s.mbReturn h opcode ret payload) := by
  unfold returned State.mbReturn
  rw [State.msix_out_others]
  simp [State.emit]

/-! ## The hint of one extent written -/

/-- The hint of an extent written, with its word of the journal (17 R390). -/
def State.putHint (hint e : Nat) (s : State) : State := (s.modExtent e fun x => { x with hint := hint }).journal

variable (hint e : Nat)

@[simp] theorem State.putHint_extents :
    (s.putHint hint e).ext.extents = Tab.mod {} s.ext.extents e fun x => { x with hint := hint } := rfl

@[simp] theorem State.putHint_extent_same : (s.putHint hint e).extent e = { s.extent e with hint := hint } := by
  simp [State.extent]

theorem State.putHint_extent_ne {j : Nat} (other : j ≠ e) (canonical : Tab.wf (fun _ => {}) s.ext.extents = true) :
    (s.putHint hint e).extent j = s.extent j := by
  simpa [State.extent] using Tab.rd_mod_ne _ s.ext.extents _ other canonical

/-! ## The hint of every extent of a list written -/

/-- The extents of the list take the hint, the others stay. -/
theorem State.forEach_putHint_extent (l : List Nat) (canonical : Tab.wf (fun _ => {}) s.ext.extents = true) (j : Nat) :
    (forEach l (State.putHint hint) s).extent j = if j ∈ l then { s.extent j with hint := hint } else s.extent j := by
  induction l generalizing s with
  | nil => simp [forEach]
  | cons a r ih =>
    have stillCanonical : Tab.wf (fun _ => {}) (s.putHint hint a).ext.extents = true := by
      rw [State.putHint_extents]
      exact Tab.mod_wf _ _ _ _ canonical
    rw [forEach, ih _ stillCanonical]
    by_cases first : j = a
    · subst first
      simp
    · simp [first, s.putHint_extent_ne hint a first canonical]

/-! ## Set Extent Hint, accepted and refused -/

/-- What R106 asks of the command, and R104 of its form. -/
def State.hintAllowed (h : Nat) (form : Bool) (first count hint : Nat) : Prop :=
  form = true ∧ (1 ≤ count ∧ count ≤ 256 ∧ hint ≤ 2) ∧ ∀ e, first ≤ e → e < first + count → (s.pair e h).state = .assigned

variable {s hint} {h first count : Nat} {form : Bool}

theorem mem_range' {j : Nat} : j ∈ range' first count ↔ first ≤ j ∧ j < first + count := List.mem_range'_1

/-- The model's test of the command decides `hintAllowed`. -/
theorem State.hintTest_iff :
    (form && decide (1 ≤ count ∧ count ≤ 256 ∧ hint ≤ 2)
      && (range' first count).all fun e => decide ((s.pair e h).state = .assigned)) = true ↔ s.hintAllowed h form first count hint := by
  simp only [Bool.and_eq_true, List.all_eq_true, decide_eq_true_eq, mem_range', and_imp, and_assoc, State.hintAllowed]

theorem State.setHint_of_allowed (allowed : s.hintAllowed h form first count hint) :
    s.setHint h form first count hint = (forEach (range' first count) (State.putHint hint) s).mbReturn h 0xC010 0 [] :=
  if_pos (State.hintTest_iff.mpr allowed)

theorem State.setHint_of_not_allowed (refused : ¬ s.hintAllowed h form first count hint) :
    s.setHint h form first count hint = s.mbReturn h 0xC010 1 [] :=
  if_neg (mt State.hintTest_iff.mp refused)

/-- A command that R106 or R104 refuses: an extent not Assigned to the head, a hint above 2, a count outside 1–256, a wrong form. -/
theorem State.not_hintAllowed
    (refusal : (∃ e, first ≤ e ∧ e < first + count ∧ (s.pair e h).state ≠ .assigned) ∨ 2 < hint ∨ count = 0 ∨ 256 < count ∨ form = false) :
    ¬ s.hintAllowed h form first count hint := by
  rintro ⟨wellFormed, ⟨atLeastOne, atMost256, hintInRange⟩, assigned⟩
  obtain ⟨e, from_first, to_last, unassigned⟩ | aboveTwo | empty | tooMany | malformed := refusal
  · exact unassigned (assigned e from_first to_last)
  · omega
  · omega
  · omega
  · simp [malformed] at wellFormed

/-- While the mailbox runs commands, SET_EXTENT_HINT is Set Extent Hint. -/
theorem exec_setExtentHint_of_up (link : s.linkUp h = true) (cd0 : s.domainOn 0 = true) (cox : s.coxUp = true) :
    exec (.setExtentHint h form first count hint) s = .next (s.setHint h form first count hint) :=
  congrArg Host.Outcome.next (mailboxed_of_up link cd0 cox _ _)

theorem frameOf_setExtentHint : frameOf (.setExtentHint h form first count hint)
    = [Field.hstLinks, Field.hstHeads, Field.extExtents, Field.extJournalUsed, Field.flsCounts, Field.out] := rfl

theorem exec_setExtentHint_frame {t : State} (next : exec (.setExtentHint h form first count hint) s = .next t) :
    Frame (frameOf (.setExtentHint h form first count hint)) s t := by
  refine (execSetExtentHint_keep (covers_self _) (Keep.refl _ s) h form first count hint).frame ?_ next
  rw [frameOf_setExtentHint]
  decide +kernel

end Sys2Proof.Machine

open Sys2Proof Sys2Proof.Machine

/-- Settles O12: an allowed command writes the hint of the extents of its range one after another and returns Success, any other returns Invalid
Input alone. -/
theorem extentHint : Obligations.ExtentHint := by
  unfold Obligations.ExtentHint
  intro s h form first count hint link cd0 cox canonical
  refine ⟨?accepted, ?refused⟩
  case accepted =>
    intro wellFormed atLeastOne atMost256 hintInRange assigned
    have next := exec_setExtentHint_of_up (form := form) (first := first) (count := count) (hint := hint) link cd0 cox
    rw [State.setHint_of_allowed ⟨wellFormed, ⟨atLeastOne, atMost256, hintInRange⟩, assigned⟩] at next
    have frame := exec_setExtentHint_frame next
    have extentAfter (e : Nat) := s.forEach_putHint_extent hint (range' first count) canonical e
    refine ⟨_, next, frame, ?inside, ?outside, frame .extPairs (by simp [frameOf_setExtentHint]), State.returned_mbReturn _ _ _ _ _⟩
    case inside =>
      intro e from_first to_last
      have inRange : e ∈ range' first count := mem_range'.mpr ⟨from_first, to_last⟩
      simpa [inRange] using extentAfter e
    case outside =>
      intro e elsewhere
      have notInRange : e ∉ range' first count := by
        rw [mem_range']
        omega
      simpa [notInRange] using extentAfter e
  case refused =>
    intro refusal
    rw [exec_setExtentHint_of_up link cd0 cox, State.setHint_of_not_allowed (State.not_hintAllowed refusal)]
    rfl

end

section
/-! PROOFS. The heat of a tract (08 R190, R192). The end of a heat period goes through the tracts listed in the activity table. The canonical
table lists each of them once, so that each loses one level at most once, and a tract that it does not list has no program and no heat to
lose: every tract has the activity that R192 gives it. A program that ends on a tract's place counts in the completion of the plane's
operation; what precedes that count moves no tract, and what follows it, the plane's next grant, changes no activity and no migration. -/

namespace Sys2Proof.Machine

variable (s : State)

/-! ## The keys that a table lists -/

theorem Tab.get_of_not_listed {α : Type} (d : Nat → α) (t : Tab α) {k : Nat} (unlisted : k ∉ t.map Prod.fst) : Tab.get d t k = d k := by
  induction t with
  | nil => rfl
  | cons e r ih =>
    obtain ⟨j, v⟩ := e
    simp only [List.map_cons, List.mem_cons, not_or] at unlisted
    obtain ⟨notFirst, notLater⟩ := unlisted
    simp [Tab.get, Ne.symm notFirst, ih notLater]

theorem Tab.le_of_listed {α : Type} [DecidableEq α] (d : Nat → α) (t : Tab α) {lo k : Nat} (canonical : Tab.wfFrom d lo t = true)
    (listed : k ∈ t.map Prod.fst) : lo ≤ k := by
  induction t generalizing lo with
  | nil => simp at listed
  | cons e r ih =>
    obtain ⟨j, v⟩ := e
    simp only [Tab.wfFrom, Bool.and_eq_true, decide_eq_true_eq] at canonical
    obtain ⟨⟨first, -⟩, rest⟩ := canonical
    obtain rfl | later := List.mem_cons.mp listed
    · exact first
    · have := ih rest later
      omega

/-- A table in canonical form lists each key once. -/
theorem Tab.nodup_keys {α : Type} [DecidableEq α] (d : Nat → α) (t : Tab α) {lo : Nat} (canonical : Tab.wfFrom d lo t = true) :
    (t.map Prod.fst).Nodup := by
  induction t generalizing lo with
  | nil => exact List.nodup_nil
  | cons e r ih =>
    obtain ⟨j, v⟩ := e
    simp only [Tab.wfFrom, Bool.and_eq_true] at canonical
    obtain ⟨-, rest⟩ := canonical
    refine List.nodup_cons.mpr ⟨fun again => ?_, ih rest⟩
    have := Tab.le_of_listed d r rest again
    omega

/-! ## The activity of the tracts -/

theorem State.act_wf_of_canonical {s : State} (canonical : s.canonical = true) : Tab.wf (fun _ => {}) s.trc.act = true := by
  simp only [State.canonical, TractS.canonical, Bool.and_eq_true] at canonical
  tauto

theorem State.activity_of_act_eq {s t : State} (act : t.trc.act = s.trc.act) (n : Nat) : t.activity n = s.activity n :=
  congrArg (fun acts => Tab.rd ({} : Activity) acts n) act

section
variable (f : Activity → Activity) {n m : Nat}

theorem State.modActivity_activity_same : (s.modActivity n f).activity n = f (s.activity n) :=
  Tab.rd_mod_same _ _ _ _

theorem State.modActivity_activity_ne (other : m ≠ n) (canonical : Tab.wf (fun _ => {}) s.trc.act = true) :
    (s.modActivity n f).activity m = s.activity m :=
  Tab.rd_mod_ne _ _ f other canonical

/-- Each tract of a list without repetition has its activity changed once, the others keep theirs. -/
theorem State.forEach_modActivity_activity {l : List Nat} (once : l.Nodup) (canonical : Tab.wf (fun _ => {}) s.trc.act = true) :
    (forEach l (fun t => State.modActivity t f) s).activity n = if n ∈ l then f (s.activity n) else s.activity n := by
  induction l generalizing s with
  | nil => simp [forEach]
  | cons a r ih =>
    obtain ⟨notAgain, onceLater⟩ := List.nodup_cons.mp once
    have stillCanonical : Tab.wf (fun _ => {}) (s.modActivity a f).trc.act = true := Tab.mod_wf _ _ _ _ canonical
    rw [forEach, ih _ onceLater stillCanonical]
    by_cases first : n = a
    · subst first
      simp [notAgain, s.modActivity_activity_same]
    · simp [first, s.modActivity_activity_ne f first canonical]

end

/-! ## The end of a heat period -/

/-- What the end of a heat period makes of a tract's activity (R192). -/
def Activity.periodEnd (a : Activity) : Activity := { a with heat := max (a.heat - 1) (heatLevel a.programs), programs := 0 }

/-- A tract without activity has nothing to lose. -/
theorem Activity.periodEnd_idle : ({} : Activity).periodEnd = {} := by decide

@[simp] theorem heatLevel_zero : heatLevel 0 = 0 := by decide

/-- Within the 5 bits of HEAT a period of n programs gives floor(log2(1 + n / 10)). -/
theorem heatLevel_eq_log2 {n : Nat} (fits : n < 10 * (2 ^ 32 - 1)) : heatLevel n = Nat.log2 (1 + n / 10) := by
  have below : Nat.log2 (1 + n / 10) < 32 := (Nat.log2_lt (by omega)).mpr (by omega)
  exact Nat.min_eq_right (by omega)

/-- The state after a heat period. -/
def State.heatPeriodEnded (s : State) : State :=
  forEach (s.trc.act.map Prod.fst) (fun t => State.modActivity t Activity.periodEnd) s

theorem exec_heatPeriod : exec .heatPeriod s = .next s.heatPeriodEnded := rfl

theorem State.heatPeriodEnded_activity {s : State} (canonical : s.canonical = true) (n : Nat) :
    s.heatPeriodEnded.activity n = (s.activity n).periodEnd := by
  have act := State.act_wf_of_canonical canonical
  rw [State.heatPeriodEnded, s.forEach_modActivity_activity _ (Tab.nodup_keys _ _ act) act]
  split
  · rfl
  · next unlisted =>
    have idle : s.activity n = {} := Tab.get_of_not_listed _ _ unlisted
    rw [idle, Activity.periodEnd_idle]

theorem exec_heatPeriod_frame {t : State} (next : exec .heatPeriod s = .next t) : Frame (frameOf .heatPeriod) s t :=
  (execHeatPeriod_keep (covers_self _) (Keep.refl _ s)).frame (by decide +kernel) next

/-! ## A program that ends -/

/-- One more granule program in the present heat period. -/
def Activity.programmed (a : Activity) : Activity := { a with programs := a.programs + 1 }

/-- Which tract lies on a place is read off the map alone. -/
theorem State.tractAt_of_map_eq {s t : State} (map : t.trc.map = s.trc.map) (pt : Nat) : t.tractAt pt = s.tractAt pt := by
  unfold State.tractAt State.moved State.entry
  rw [map]

theorem State.heatOf_of_logical {s : State} {a n : Nat} (placed : s.tractAt (ptOfAddr a) = some n) (logical : n < logicalTracts) :
    s.heatOf a = s.modActivity n Activity.programmed := by
  simp only [State.heatOf, placed, if_pos logical]
  rfl

variable (j : Job)

theorem State.countOp_frame : Frame [Field.scrEngines, Field.trcRefreshed] s (s.countOp j) :=
  (State.countOp_keep (covers_self _) (Keep.refl _ s) j).frame (by decide +kernel)

/-- What the completion of a program does before it counts for heat: the engine's count, the cells, the wear cycle. -/
def State.programmedCells : State := ((s.countOp j).putGranule j.target j.image).wear j.target

@[simp] theorem State.programDone_trc : (s.programDone j).trc = s.trc := by
  unfold State.programDone
  split <;> rfl

variable {s j} {n : Nat}

theorem State.completeOp_of_program (program : j.clear = false) :
    s.completeOp j = (((s.programmedCells j).heatOf j.target).modDie (dieOf j.target) fun d =>
      { d with programs := d.programs + 1 }).programDone j := by
  simp only [State.completeOp, program]
  rfl

/-- A completed program on a logical tract's place adds 1 to the tract's programs, and changes no migration. -/
theorem State.completeOp_trc_of_program (program : j.clear = false) (placed : s.tractAt (ptOfAddr j.target) = some n)
    (logical : n < logicalTracts) :
    (s.completeOp j).trc.act = (s.modActivity n Activity.programmed).trc.act ∧ (s.completeOp j).trc.migs = s.trc.migs := by
  have map : (s.programmedCells j).trc.map = s.trc.map := s.countOp_frame j .trcMap (by decide)
  have act : (s.programmedCells j).trc.act = s.trc.act := s.countOp_frame j .trcAct (by decide)
  have migs : (s.programmedCells j).trc.migs = s.trc.migs := s.countOp_frame j .trcMigs (by decide)
  have stillPlaced : (s.programmedCells j).tractAt (ptOfAddr j.target) = some n := (State.tractAt_of_map_eq map _).trans placed
  rw [State.completeOp_of_program program, State.heatOf_of_logical stillPlaced logical, State.programDone_trc]
  exact ⟨congrArg (fun acts => Tab.mod ({} : Activity) acts n Activity.programmed) act, migs⟩

/-- The same of a plane whose operation is that program. -/
theorem State.opComplete_trc_of_program {k : Nat} (op : (s.plane k).op = some j) (program : j.clear = false)
    (placed : s.tractAt (ptOfAddr j.target) = some n) (logical : n < logicalTracts) :
    (s.opComplete k).trc.act = (s.modActivity n Activity.programmed).trc.act ∧ (s.opComplete k).trc.migs = s.trc.migs := by
  rw [State.opComplete, op]
  exact State.completeOp_trc_of_program (s := (s.modPlane k fun p => { p with result := 0 }).release j) program placed logical

/-! ## What follows on the plane -/

/-- The plane's next grant, and the grants of the planes that waited for the governor, touch planes and reserved room alone. -/
theorem State.nextGrants_frame (s : State) (k : Nat) : Frame [Field.medPlanes, Field.medReserved] s (s.nextOp k).grantIdle :=
  (State.grantIdle_keep (covers_self _) (State.nextOp_keep (covers_self _) (Keep.refl _ s) k)).frame (by decide +kernel)

theorem forEach_eq_self {α : Type} {l : List α} {f : α → State → State} (same : ∀ a ∈ l, f a s = s) : forEach l f s = s := by
  induction l with
  | nil => rfl
  | cons a r ih =>
    rw [forEach, same a List.mem_cons_self]
    exact ih fun b later => same b (List.mem_cons_of_mem a later)

/-- While no migration has copied its last row, none goes on. -/
theorem State.migSync_of_noneCopied (noneCopied : ∀ m ∈ s.trc.migs, m.state = .copying → m.cursor < 512) : s.migSync = s := by
  refine forEach_eq_self fun m listed => if_neg ?_
  rintro ⟨copying, copied, -⟩
  have := noneCopied m listed copying
  omega

variable {ch die plane : Nat}

theorem exec_planeOperationEnd_done (granted : (s.plane (planeKey ch die plane)).state = .granted)
    (runs : (s.plane (planeKey ch die plane)).result = 3) :
    exec (.planeOperationEnd ch die plane .done) s
      = .next (((s.opComplete (planeKey ch die plane)).nextOp (planeKey ch die plane)).grantIdle).migSync :=
  if_pos ⟨granted, runs⟩

theorem exec_planeOperationEnd_frame {result : OpResult} {t : State} (next : exec (.planeOperationEnd ch die plane result) s = .next t) :
    Frame (frameOf (.planeOperationEnd ch die plane result)) s t := by
  refine (execPlaneOperationEnd_keep (covers_self _) (Keep.refl _ s) ch die plane result).frame ?_ next
  change _ &&& fieldSet (mediumFields ++ [Field.medFailures, Field.trcAbandoned, Field.free]) = _
  decide +kernel

/-- A program that ends on a logical tract's place, while no migration has copied its last row: the activity is that of one more
program. -/
theorem State.planeOperationEnd_act {k : Nat} (op : (s.plane k).op = some j) (program : j.clear = false)
    (placed : s.tractAt (ptOfAddr j.target) = some n) (logical : n < logicalTracts)
    (noneCopied : ∀ m ∈ s.trc.migs, m.state = .copying → m.cursor < 512) :
    (((s.opComplete k).nextOp k).grantIdle).migSync.trc.act = (s.modActivity n Activity.programmed).trc.act := by
  obtain ⟨act, migs⟩ := State.opComplete_trc_of_program op program placed logical
  have grants := (s.opComplete k).nextGrants_frame k
  have actKept : ((s.opComplete k).nextOp k).grantIdle.trc.act = (s.opComplete k).trc.act := grants .trcAct (by decide)
  have migsKept : ((s.opComplete k).nextOp k).grantIdle.trc.migs = (s.opComplete k).trc.migs := grants .trcMigs (by decide)
  rw [State.migSync_of_noneCopied (by rwa [migsKept, migs]), actKept, act]

end Sys2Proof.Machine

open Sys2Proof Sys2Proof.Machine

/-- Settles O42: a heat period's end gives every tract, listed in the table or not, the activity of R192; a program that ends counts once,
for the tract on whose place it ends. -/
theorem heatPeriod : Obligations.HeatPeriod := by
  unfold Obligations.HeatPeriod
  intro s canonical
  refine ⟨?periodEnd, ?programEnd⟩
  case periodEnd =>
    refine ⟨_, exec_heatPeriod s, exec_heatPeriod_frame s (exec_heatPeriod s), fun n => ?_⟩
    rw [State.heatPeriodEnded_activity canonical]
    refine ⟨rfl, fun fits => ?formula, fun idle => ?losesOne, rfl⟩
    case formula => rw [Activity.periodEnd, heatLevel_eq_log2 fits]
    case losesOne => simp [Activity.periodEnd, idle]
  case programEnd =>
    rintro ch die plane _ _ j n noneCopied rfl rfl op granted runs program placed logical
    have next := exec_planeOperationEnd_done granted runs
    have act := State.planeOperationEnd_act op program placed logical noneCopied
    have activity (m : Nat) := State.activity_of_act_eq act m
    refine ⟨_, next, exec_planeOperationEnd_frame next, ?_, fun m other => ?_⟩
    · rw [activity, State.modActivity_activity_same]
      rfl
    · rw [activity, State.modActivity_activity_ne s _ other (State.act_wf_of_canonical canonical)]

end

section
/-! PROOFS. What holds of every command and of every step: a command ends in a next state, within the fields listed for it, and a step
leaves the tables canonical, the fault queue within its bound, and takes nothing back. The case of each command is the lemma about its
meaning under Laws/; what the cases share is that no frame lists the queue. -/

namespace Sys2Proof.Machine

variable {s t : State} {c : Instr}

/-! ## Frames -/

/-- A command changes nothing outside its frame: the fields that its meaning touches are among those listed for it. -/
theorem exec_frame (next : exec c s = .next t) : Frame (frameOf c) s t := by
  cases c with
  | memrd => exact (execMemrd_keep (covers_self _) (Keep.refl _ s) _ _ _ _ _).frame (by dsimp only [frameOf]; decide +kernel) next
  | readLineArrival => exact (execReadLineArrival_keep (covers_self _) (Keep.refl _ s) _ _ _ _ _).frame (by dsimp only [frameOf]; decide +kernel) next
  | lineOrderPointMerge => exact (execLineOrderPointMerge_keep (covers_self _) (Keep.refl _ s) _ _).frame (by dsimp only [frameOf]; decide +kernel) next
  | lookupResponseHoldExpiry => exact (execLookupResponseHoldExpiry_keep (covers_self _) (Keep.refl _ s) _).frame (by dsimp only [frameOf]; decide +kernel) next
  | memwr => exact (execMemwr_keep (covers_self _) (Keep.refl _ s) _ _ _ _).frame (by dsimp only [frameOf]; decide +kernel) next
  | memwrptl => exact (execMemwrptl_keep (covers_self _) (Keep.refl _ s) _ _ _ _ _).frame (by dsimp only [frameOf]; decide +kernel) next
  | mirrorWriteAck => exact (execMirrorWriteAck_keep (covers_self _) (Keep.refl _ s) _ _).frame (by dsimp only [frameOf]; decide +kernel) next
  | gpfPhase1 => exact (execGpfPhase1_keep (covers_self _) (Keep.refl _ s) _).frame (by dsimp only [frameOf]; decide +kernel) next
  | gpfPhase2 => exact (execGpfPhase2_keep (covers_self _) (Keep.refl _ s) _).frame (by dsimp only [frameOf]; decide +kernel) next
  | setShutdownState => exact (execSetShutdownState_keep (covers_self _) (Keep.refl _ s) _ _).frame (by dsimp only [frameOf]; decide +kernel) next
  | getShutdownState => exact (execGetShutdownState_keep (covers_self _) (Keep.refl _ s) _).frame (by dsimp only [frameOf]; decide +kernel) next
  | getPoisonList => exact (execGetPoisonList_keep (covers_self _) (Keep.refl _ s) _).frame (by dsimp only [frameOf]; decide +kernel) next
  | sanitize => exact (execSanitize_keep (covers_self _) (Keep.refl _ s) _).frame (by dsimp only [frameOf]; decide +kernel) next
  | secureErase => exact (execSecureErase_keep (covers_self _) (Keep.refl _ s) _).frame (by dsimp only [frameOf]; decide +kernel) next
  | addDynamicCapacityResponse => exact (execAddDynamicCapacityResponse_keep (covers_self _) (Keep.refl _ s) _ _ _).frame (by dsimp only [frameOf]; decide +kernel) next
  | releaseDynamicCapacity => exact (execReleaseDynamicCapacity_keep (covers_self _) (Keep.refl _ s) _ _).frame (by dsimp only [frameOf]; decide +kernel) next
  | getDynamicCapacityExtentList => exact (execGetDynamicCapacityExtentList_keep (covers_self _) (Keep.refl _ s) _).frame (by dsimp only [frameOf]; decide +kernel) next
  | objectRead => exact (execObjectRead_keep (covers_self _) (Keep.refl _ s) _ _ _ _ _ _ _).frame (by dsimp only [frameOf]; decide +kernel) next
  | objectWrite => exact (execObjectWrite_keep (covers_self _) (Keep.refl _ s) _ _ _ _ _ _ _ _).frame (by dsimp only [frameOf]; decide +kernel) next
  | setExtentHint => exact (execSetExtentHint_keep (covers_self _) (Keep.refl _ s) _ _ _ _ _).frame (by dsimp only [frameOf]; decide +kernel) next
  | getExtentState => exact (execGetExtentState_keep (covers_self _) (Keep.refl _ s) _ _ _ _).frame (by dsimp only [frameOf]; decide +kernel) next
  | unsupportedOpcode => exact (execUnsupportedOpcode_keep (covers_self _) (Keep.refl _ s) _ _).frame (by dsimp only [frameOf]; decide +kernel) next
  | getHealthInfo => exact (execGetHealthInfo_keep (covers_self _) (Keep.refl _ s) _).frame (by dsimp only [frameOf]; decide +kernel) next
  | mailboxOpenRequest => exact (execMailboxOpenRequest_keep (covers_self _) (Keep.refl _ s) _ _ _).frame (by dsimp only [frameOf]; decide +kernel) next
  | mailboxOpenReply => exact (execMailboxOpenReply_keep (covers_self _) (Keep.refl _ s) _).frame (by dsimp only [frameOf]; decide +kernel) next
  | memEnableWrite => exact (execMemEnableWrite_keep (covers_self _) (Keep.refl _ s) _ _ _).frame (by dsimp only [frameOf]; decide +kernel) next
  | viralReceived => exact (execViralReceived_keep (covers_self _) (Keep.refl _ s) _).frame (by dsimp only [frameOf]; decide +kernel) next
  | ideCheckFailure => exact (execIdeCheckFailure_keep (covers_self _) (Keep.refl _ s) _).frame (by dsimp only [frameOf]; decide +kernel) next
  | ideKmRequest => exact (execIdeKmRequest_keep (covers_self _) (Keep.refl _ s) _ _).frame (by dsimp only [frameOf]; decide +kernel) next
  | functionLevelReset => exact (execFunctionLevelReset_keep (covers_self _) (Keep.refl _ s) _).frame (by dsimp only [frameOf]; decide +kernel) next
  | perstAssert => exact (execPerstAssert_keep (covers_self _) (Keep.refl _ s) _ _).frame (by dsimp only [frameOf]; decide +kernel) next
  | perstRelease => exact (execPerstRelease_keep (covers_self _) (Keep.refl _ s) _ _).frame (by dsimp only [frameOf]; decide +kernel) next
  | linkUp => exact (execLinkUp_keep (covers_self _) (Keep.refl _ s) _ _ _).frame (by dsimp only [frameOf]; decide +kernel) next
  | speedChangeRequest => exact (execSpeedChangeRequest_keep (covers_self _) (Keep.refl _ s) _ _ _).frame (by dsimp only [frameOf]; decide +kernel) next
  | equalisationComplete => exact (execEqualisationComplete_keep (covers_self _) (Keep.refl _ s) _ _).frame (by dsimp only [frameOf]; decide +kernel) next
  | linkRecoveryEntry => exact (execLinkRecoveryEntry_keep (covers_self _) (Keep.refl _ s) _).frame (by dsimp only [frameOf]; decide +kernel) next
  | linkDown => exact (execLinkDown_keep (covers_self _) (Keep.refl _ s) _).frame (by dsimp only [frameOf]; decide +kernel) next
  | cableRemoved => exact (execCableRemoved_keep (covers_self _) (Keep.refl _ s) _).frame (by dsimp only [frameOf]; decide +kernel) next
  | cableMated => exact (execCableMated_keep (covers_self _) (Keep.refl _ s) _).frame (by dsimp only [frameOf]; decide +kernel) next
  | bifurcationRequest => exact (execBifurcationRequest_keep (covers_self _) (Keep.refl _ s) _ _).frame (by dsimp only [frameOf]; decide +kernel) next
  | eqEnable => exact (execEqEnable_keep (covers_self _) (Keep.refl _ s) _ _ _ _ _ _).frame (by dsimp only [frameOf]; decide +kernel) next
  | eqDisable => exact (execEqDisable_keep (covers_self _) (Keep.refl _ s) _).frame (by dsimp only [frameOf]; decide +kernel) next
  | eqCiWrite => exact (execEqCiWrite_keep (covers_self _) (Keep.refl _ s) _ _).frame (by dsimp only [frameOf]; decide +kernel) next
  | eqStatusClear => exact (execEqStatusClear_keep (covers_self _) (Keep.refl _ s) _ _ _).frame (by dsimp only [frameOf]; decide +kernel) next
  | eqCoalesceIntervalEnd => exact (execEqCoalesceIntervalEnd_keep (covers_self _) (Keep.refl _ s) _).frame (by dsimp only [frameOf]; decide +kernel) next
  | headStall => exact (execHeadStall_keep (covers_self _) (Keep.refl _ s) _).frame (by dsimp only [frameOf]; decide +kernel) next
  | headReset => exact (execHeadReset_keep (covers_self _) (Keep.refl _ s) _).frame (by dsimp only [frameOf]; decide +kernel) next
  | headResetHoldEnd => exact (execHeadResetHoldEnd_keep (covers_self _) (Keep.refl _ s) _).frame (by dsimp only [frameOf]; decide +kernel) next
  | inFlightCapWrite => exact (execInFlightCapWrite_keep (covers_self _) (Keep.refl _ s) _ _).frame (by dsimp only [frameOf]; decide +kernel) next
  | extentOffer => exact (execExtentOffer_keep (covers_self _) (Keep.refl _ s) _ _ _ _ _).frame (by dsimp only [frameOf]; decide +kernel) next
  | regionChangeComplete => exact (execRegionChangeComplete_keep (covers_self _) (Keep.refl _ s) _).frame (by dsimp only [frameOf]; decide +kernel) next
  | extentRelease => exact (execExtentRelease_keep (covers_self _) (Keep.refl _ s) _ _ _ _).frame (by dsimp only [frameOf]; decide +kernel) next
  | extentReleaseForced => exact (execExtentReleaseForced_keep (covers_self _) (Keep.refl _ s) _ _ _ _).frame (by dsimp only [frameOf]; decide +kernel) next
  | offerTimeout => exact (execOfferTimeout_keep (covers_self _) (Keep.refl _ s) _ _).frame (by dsimp only [frameOf]; decide +kernel) next
  | extentDrainComplete => exact (execExtentDrainComplete_keep (covers_self _) (Keep.refl _ s) _ _).frame (by dsimp only [frameOf]; decide +kernel) next
  | regionCreate => exact (execRegionCreate_keep (covers_self _) (Keep.refl _ s) _ _).frame (by dsimp only [frameOf]; decide +kernel) next
  | regionMaskChange => exact (execRegionMaskChange_keep (covers_self _) (Keep.refl _ s) _ _).frame (by dsimp only [frameOf]; decide +kernel) next
  | regionDelete => exact (execRegionDelete_keep (covers_self _) (Keep.refl _ s) _).frame (by dsimp only [frameOf]; decide +kernel) next
  | configCommit => exact (execConfigCommit_keep (covers_self _) (Keep.refl _ s) _).frame (by dsimp only [frameOf]; decide +kernel) next
  | keelBridgeAccess _ addr _ => exact (execKeelBridgeAccess_keep (covers_self _) (Keep.refl _ s) _ addr _).frame (by dsimp only [frameOf]; decide +kernel) next
  | keelBridgeTimeout _ addr => exact (execKeelBridgeTimeout_keep (covers_self _) (Keep.refl _ s) _ addr).frame (by dsimp only [frameOf]; decide +kernel) next
  | faultMessageTaken => exact (execFaultMessageTaken_keep (covers_self _) (Keep.refl _ s)).frame (by dsimp only [frameOf]; decide +kernel) next
  | fatalLineAssert => exact (execFatalLineAssert_keep (covers_self _) (Keep.refl _ s) _).frame (by dsimp only [frameOf]; decide +kernel) next
  | clockLost => exact (execClockLost_keep (covers_self _) (Keep.refl _ s) _).frame (by dsimp only [frameOf]; decide +kernel) next
  | stickyBitPersist => exact (execStickyBitPersist_keep (covers_self _) (Keep.refl _ s) _).frame (by dsimp only [frameOf]; decide +kernel) next
  | stickyBitClear => exact (execStickyBitClear_keep (covers_self _) (Keep.refl _ s) _ _).frame (by dsimp only [frameOf]; decide +kernel) next
  | quietTimerExpiry => exact (execQuietTimerExpiry_keep (covers_self _) (Keep.refl _ s) _).frame (by dsimp only [frameOf]; decide +kernel) next
  | probeComplete => exact (execProbeComplete_keep (covers_self _) (Keep.refl _ s) _ _).frame (by dsimp only [frameOf]; decide +kernel) next
  | probeTimeout => exact (execProbeTimeout_keep (covers_self _) (Keep.refl _ s) _).frame (by dsimp only [frameOf]; decide +kernel) next
  | operatorFence => exact (execOperatorFence_keep (covers_self _) (Keep.refl _ s) _ _).frame (by dsimp only [frameOf]; decide +kernel) next
  | operatorReadmit => exact (execOperatorReadmit_keep (covers_self _) (Keep.refl _ s) _ _).frame (by dsimp only [frameOf]; decide +kernel) next
  | latchRelease => exact (execLatchRelease_keep (covers_self _) (Keep.refl _ s) _ _).frame (by dsimp only [frameOf]; decide +kernel) next
  | engineTimeout => exact (execEngineTimeout_keep (covers_self _) (Keep.refl _ s) _ _).frame (by dsimp only [frameOf]; decide +kernel) next
  | easyAllEnterCommand => exact (execEasyAllEnterCommand_keep (covers_self _) (Keep.refl _ s) _).frame (by dsimp only [frameOf]; decide +kernel) next
  | easyAllLeaveCommand => exact (execEasyAllLeaveCommand_keep (covers_self _) (Keep.refl _ s) _).frame (by dsimp only [frameOf]; decide +kernel) next
  | t4ClearTimer => exact (execT4ClearTimer_keep (covers_self _) (Keep.refl _ s)).frame (by dsimp only [frameOf]; decide +kernel) next
  | stagingParityRecomputeDone => exact (execStagingParityRecomputeDone_keep (covers_self _) (Keep.refl _ s) _).frame (by dsimp only [frameOf]; decide +kernel) next
  | wearBandReloadDone => exact (execWearBandReloadDone_keep (covers_self _) (Keep.refl _ s) _).frame (by dsimp only [frameOf]; decide +kernel) next
  | stagingPartRestoreDone => exact (execStagingPartRestoreDone_keep (covers_self _) (Keep.refl _ s) _).frame (by dsimp only [frameOf]; decide +kernel) next
  | sramInitDone => exact (execSramInitDone_keep (covers_self _) (Keep.refl _ s) _ _).frame (by dsimp only [frameOf]; decide +kernel) next
  | sramPatrol => exact (execSramPatrol_keep (covers_self _) (Keep.refl _ s) _ _ _ _).frame (by dsimp only [frameOf]; decide +kernel) next
  | sense => exact (execSense_keep (covers_self _) (Keep.refl _ s) _ _ _ _ _ _).frame (by dsimp only [frameOf]; decide +kernel) next
  | abort => exact (execAbort_keep (covers_self _) (Keep.refl _ s) _ _ _).frame (by dsimp only [frameOf]; decide +kernel) next
  | esense => exact (execEsense_keep (covers_self _) (Keep.refl _ s) _ _ _ _ _).frame (by dsimp only [frameOf]; decide +kernel) next
  | hsense => exact (execHsense_keep (covers_self _) (Keep.refl _ s) _ _ _).frame (by dsimp only [frameOf]; decide +kernel) next
  | load => exact (execLoad_keep (covers_self _) (Keep.refl _ s) _ _ _ _).frame (by dsimp only [frameOf]; decide +kernel) next
  | prog => exact (execProg_keep (covers_self _) (Keep.refl _ s) _ _ _).frame (by dsimp only [frameOf]; decide +kernel) next
  | clrseg => exact (execClrseg_keep (covers_self _) (Keep.refl _ s) _ _ _ _).frame (by dsimp only [frameOf]; decide +kernel) next
  | status => exact (execStatus_keep (covers_self _) (Keep.refl _ s) _ _).frame (by dsimp only [frameOf]; decide +kernel) next
  | trim => exact (execTrim_keep (covers_self _) (Keep.refl _ s) _ _ _).frame (by dsimp only [frameOf]; decide +kernel) next
  | check => exact (execCheck_keep (covers_self _) (Keep.refl _ s) _ _ _).frame (by dsimp only [frameOf]; decide +kernel) next
  | abortReport => exact (execAbortReport_keep (covers_self _) (Keep.refl _ s) _ _ _ _ _).frame (by dsimp only [frameOf]; decide +kernel) next
  | planeOperationEnd => exact (execPlaneOperationEnd_keep (covers_self _) (Keep.refl _ s) _ _ _ _).frame (by dsimp only [frameOf]; decide +kernel) next
  | senseTimeout => exact (execSenseTimeout_keep (covers_self _) (Keep.refl _ s) _).frame (by dsimp only [frameOf]; decide +kernel) next
  | abortTimeout => exact (execAbortTimeout_keep (covers_self _) (Keep.refl _ s) _ _ _).frame (by dsimp only [frameOf]; decide +kernel) next
  | programStatusTimeout => exact (execProgramStatusTimeout_keep (covers_self _) (Keep.refl _ s) _ _ _).frame (by dsimp only [frameOf]; decide +kernel) next
  | commandParityError => exact (execCommandParityError_keep (covers_self _) (Keep.refl _ s) _ _ _).frame (by dsimp only [frameOf]; decide +kernel) next
  | channelTimingError => exact (execChannelTimingError_keep (covers_self _) (Keep.refl _ s) _ _).frame (by dsimp only [frameOf]; decide +kernel) next
  | channelTrainingDone => exact (execChannelTrainingDone_keep (covers_self _) (Keep.refl _ s) _).frame (by dsimp only [frameOf]; decide +kernel) next
  | channelTrainingTimeout => exact (execChannelTrainingTimeout_keep (covers_self _) (Keep.refl _ s) _).frame (by dsimp only [frameOf]; decide +kernel) next
  | coalescingDelayExpiry => exact (execCoalescingDelayExpiry_keep (covers_self _) (Keep.refl _ s) _).frame (by dsimp only [frameOf]; decide +kernel) next
  | drainUnitSelect => exact (execDrainUnitSelect_keep (covers_self _) (Keep.refl _ s) _ _ _ _ _).frame (by dsimp only [frameOf]; decide +kernel) next
  | drainProgramsStart => exact (execDrainProgramsStart_keep (covers_self _) (Keep.refl _ s) _).frame (by dsimp only [frameOf]; decide +kernel) next
  | drainUnitComplete => exact (execDrainUnitComplete_keep (covers_self _) (Keep.refl _ s) _).frame (by dsimp only [frameOf]; decide +kernel) next
  | starvationThreshold => exact (execStarvationThreshold_keep (covers_self _) (Keep.refl _ s) _).frame (by dsimp only [frameOf]; decide +kernel) next
  | nodeHoldExpiry => exact (execNodeHoldExpiry_keep (covers_self _) (Keep.refl _ s) _).frame (by dsimp only [frameOf]; decide +kernel) next
  | ledgerDelta => exact (execLedgerDelta_keep (covers_self _) (Keep.refl _ s)).frame (by dsimp only [frameOf]; decide +kernel) next
  | ledgerFullSet => exact (execLedgerFullSet_keep (covers_self _) (Keep.refl _ s)).frame (by dsimp only [frameOf]; decide +kernel) next
  | ledgerRecordDurable => exact (execLedgerRecordDurable_keep (covers_self _) (Keep.refl _ s) _).frame (by dsimp only [frameOf]; decide +kernel) next
  | inputDip => exact (execInputDip_keep (covers_self _) (Keep.refl _ s)).frame (by dsimp only [frameOf]; decide +kernel) next
  | sealRecordDurable => exact (execSealRecordDurable_keep (covers_self _) (Keep.refl _ s) _).frame (by dsimp only [frameOf]; decide +kernel) next
  | inputDipRecovered => exact (execInputDipRecovered_keep (covers_self _) (Keep.refl _ s)).frame (by dsimp only [frameOf]; decide +kernel) next
  | flushComplete => exact (execFlushComplete_keep (covers_self _) (Keep.refl _ s)).frame (by dsimp only [frameOf]; decide +kernel) next
  | keelTurnOn => exact (execKeelTurnOn_keep (covers_self _) (Keep.refl _ s)).frame (by dsimp only [frameOf]; decide +kernel) next
  | inputLoss => exact (execInputLoss_keep (covers_self _) (Keep.refl _ s)).frame (by dsimp only [frameOf]; decide +kernel) next
  | overvoltage => exact (execOvervoltage_keep (covers_self _) (Keep.refl _ s)).frame (by dsimp only [frameOf]; decide +kernel) next
  | overvoltageClear => exact (execOvervoltageClear_keep (covers_self _) (Keep.refl _ s)).frame (by dsimp only [frameOf]; decide +kernel) next
  | keelTurnOff => exact (execKeelTurnOff_keep (covers_self _) (Keep.refl _ s)).frame (by dsimp only [frameOf]; decide +kernel) next
  | breakerTrip => exact (execBreakerTrip_keep (covers_self _) (Keep.refl _ s)).frame (by dsimp only [frameOf]; decide +kernel) next
  | breakerLatchRelease => exact (execBreakerLatchRelease_keep (covers_self _) (Keep.refl _ s)).frame (by dsimp only [frameOf]; decide +kernel) next
  | bladePairImbalance => exact (execBladePairImbalance_keep (covers_self _) (Keep.refl _ s) _ _).frame (by dsimp only [frameOf]; decide +kernel) next
  | inputGoodAgain => exact (execInputGoodAgain_keep (covers_self _) (Keep.refl _ s)).frame (by dsimp only [frameOf]; decide +kernel) next
  | inputGoodResetTimer => exact (execInputGoodResetTimer_keep (covers_self _) (Keep.refl _ s) _).frame (by dsimp only [frameOf]; decide +kernel) next
  | bankBelow40v => exact (execBankBelow40v_keep (covers_self _) (Keep.refl _ s)).frame (by dsimp only [frameOf]; decide +kernel) next
  | bankBelow41v => exact (execBankBelow41v_keep (covers_self _) (Keep.refl _ s)).frame (by dsimp only [frameOf]; decide +kernel) next
  | corePowerOffRequest => exact (execCorePowerOffRequest_keep (covers_self _) (Keep.refl _ s)).frame (by dsimp only [frameOf]; decide +kernel) next
  | corePowerOnRequest => exact (execCorePowerOnRequest_keep (covers_self _) (Keep.refl _ s)).frame (by dsimp only [frameOf]; decide +kernel) next
  | gaSample => exact (execGaSample_keep (covers_self _) (Keep.refl _ s) _).frame (by dsimp only [frameOf]; decide +kernel) next
  | modrstAssert => exact (execModrstAssert_keep (covers_self _) (Keep.refl _ s) _ _).frame (by dsimp only [frameOf]; decide +kernel) next
  | modrstRelease => exact (execModrstRelease_keep (covers_self _) (Keep.refl _ s) _).frame (by dsimp only [frameOf]; decide +kernel) next
  | moduleReset => exact (execModuleReset_keep (covers_self _) (Keep.refl _ s) _ _ _).frame (by dsimp only [frameOf]; decide +kernel) next
  | haltNLow => exact (execHaltNLow_keep (covers_self _) (Keep.refl _ s) _ _).frame (by dsimp only [frameOf]; decide +kernel) next
  | haltNSwitchWrite => exact (execHaltNSwitchWrite_keep (covers_self _) (Keep.refl _ s) _).frame (by dsimp only [frameOf]; decide +kernel) next
  | extestLoad => exact (execExtestLoad_keep (covers_self _) (Keep.refl _ s) _).frame (by dsimp only [frameOf]; decide +kernel) next
  | keelRailsQualified => exact (execKeelRailsQualified_keep (covers_self _) (Keep.refl _ s) _ _ _).frame (by dsimp only [frameOf]; decide +kernel) next
  | keelRailRetry => exact by cases next; exact Frame.refl _ s
  | domainQualified => exact (execDomainQualified_keep (covers_self _) (Keep.refl _ s) _ _).frame (by dsimp only [frameOf]; decide +kernel) next
  | powerGoodDrop => exact (execPowerGoodDrop_keep (covers_self _) (Keep.refl _ s) _ _).frame (by dsimp only [frameOf]; decide +kernel) next
  | stepTimeout => exact (execStepTimeout_keep (covers_self _) (Keep.refl _ s)).frame (by dsimp only [frameOf]; decide +kernel) next
  | railFailure => exact (execRailFailure_keep (covers_self _) (Keep.refl _ s) _ _).frame (by dsimp only [frameOf]; decide +kernel) next
  | powerDownStep => exact (execPowerDownStep_keep (covers_self _) (Keep.refl _ s) _).frame (by dsimp only [frameOf]; decide +kernel) next
  | railFailToFall => exact (execRailFailToFall_keep (covers_self _) (Keep.refl _ s) _ _).frame (by dsimp only [frameOf]; decide +kernel) next
  | seatPingTimer => exact (execSeatPingTimer_keep (covers_self _) (Keep.refl _ s)).frame (by dsimp only [frameOf]; decide +kernel) next
  | domainStatusPoll => exact (execDomainStatusPoll_keep (covers_self _) (Keep.refl _ s)).frame (by dsimp only [frameOf]; decide +kernel) next
  | seatBusFailure => exact (execSeatBusFailure_keep (covers_self _) (Keep.refl _ s) _ _).frame (by dsimp only [frameOf]; decide +kernel) next
  | seatBusStuck => exact (execSeatBusStuck_keep (covers_self _) (Keep.refl _ s) _).frame (by dsimp only [frameOf]; decide +kernel) next
  | ping => exact (execPing_keep (covers_self _) (Keep.refl _ s) _).frame (by dsimp only [frameOf]; decide +kernel) next
  | domainOn => exact (execDomainOn_keep (covers_self _) (Keep.refl _ s) _ _).frame (by dsimp only [frameOf]; decide +kernel) next
  | domainOff => exact (execDomainOff_keep (covers_self _) (Keep.refl _ s) _ _).frame (by dsimp only [frameOf]; decide +kernel) next
  | domainStatus => exact (execDomainStatus_keep (covers_self _) (Keep.refl _ s) _ _).frame (by dsimp only [frameOf]; decide +kernel) next
  | readV => exact (execReadV_keep (covers_self _) (Keep.refl _ s) _ _).frame (by dsimp only [frameOf]; decide +kernel) next
  | readI => exact (execReadI_keep (covers_self _) (Keep.refl _ s) _ _).frame (by dsimp only [frameOf]; decide +kernel) next
  | margin => exact (execMargin_keep (covers_self _) (Keep.refl _ s) _ _ _).frame (by dsimp only [frameOf]; decide +kernel) next
  | charger => exact (execCharger_keep (covers_self _) (Keep.refl _ s) _ _).frame (by dsimp only [frameOf]; decide +kernel) next
  | capMeasure => exact (execCapMeasure_keep (covers_self _) (Keep.refl _ s) _).frame (by dsimp only [frameOf]; decide +kernel) next
  | capResult => exact (execCapResult_keep (covers_self _) (Keep.refl _ s) _).frame (by dsimp only [frameOf]; decide +kernel) next
  | haltRelease => exact (execHaltRelease_keep (covers_self _) (Keep.refl _ s) _).frame (by dsimp only [frameOf]; decide +kernel) next
  | faultRead => exact (execFaultRead_keep (covers_self _) (Keep.refl _ s) _).frame (by dsimp only [frameOf]; decide +kernel) next
  | seatSelfShutdown => exact (execSeatSelfShutdown_keep (covers_self _) (Keep.refl _ s) _).frame (by dsimp only [frameOf]; decide +kernel) next
  | latchClear => exact (execLatchClear_keep (covers_self _) (Keep.refl _ s) _).frame (by dsimp only [frameOf]; decide +kernel) next
  | marginingEnable => exact (execMarginingEnable_keep (covers_self _) (Keep.refl _ s) _).frame (by dsimp only [frameOf]; decide +kernel) next
  | marginRequest => exact (execMarginRequest_keep (covers_self _) (Keep.refl _ s) _ _).frame (by dsimp only [frameOf]; decide +kernel) next
  | bankReady => exact (execBankReady_keep (covers_self _) (Keep.refl _ s) _).frame (by dsimp only [frameOf]; decide +kernel) next
  | bankReadyTimeout => exact (execBankReadyTimeout_keep (covers_self _) (Keep.refl _ s)).frame (by dsimp only [frameOf]; decide +kernel) next
  | bankLowVoltage => exact (execBankLowVoltage_keep (covers_self _) (Keep.refl _ s) _).frame (by dsimp only [frameOf]; decide +kernel) next
  | boostFault => exact (execBoostFault_keep (covers_self _) (Keep.refl _ s)).frame (by dsimp only [frameOf]; decide +kernel) next
  | capacitanceMeasurementDue => exact (execCapacitanceMeasurementDue_keep (covers_self _) (Keep.refl _ s)).frame (by dsimp only [frameOf]; decide +kernel) next
  | measureNow => exact (execMeasureNow_keep (covers_self _) (Keep.refl _ s) _).frame (by dsimp only [frameOf]; decide +kernel) next
  | measurementComplete => exact (execMeasurementComplete_keep (covers_self _) (Keep.refl _ s) _ _).frame (by dsimp only [frameOf]; decide +kernel) next
  | thermalConversion => exact (execThermalConversion_keep (covers_self _) (Keep.refl _ s) _ _ _).frame (by dsimp only [frameOf]; decide +kernel) next
  | levelFall => exact (execLevelFall_keep (covers_self _) (Keep.refl _ s) _).frame (by dsimp only [frameOf]; decide +kernel) next
  | limitsWrite => exact (execLimitsWrite_keep (covers_self _) (Keep.refl _ s) _ _ _ _ _ _).frame (by dsimp only [frameOf]; decide +kernel) next
  | healthRecompute => exact (execHealthRecompute_keep (covers_self _) (Keep.refl _ s)).frame (by dsimp only [frameOf]; decide +kernel) next
  | migrationStart => exact (execMigrationStart_keep (covers_self _) (Keep.refl _ s) _).frame (by dsimp only [frameOf]; decide +kernel) next
  | migrationRowCopy tract findings => exact (execMigrationRowCopy_keep (covers_self _) (Keep.refl _ s) tract findings).frame (by dsimp only [frameOf]; decide +kernel) next
  | sealVerified => exact (execSealVerified_keep (covers_self _) (Keep.refl _ s) _).frame (by dsimp only [frameOf]; decide +kernel) next
  | sourceReadsDrained => exact (execSourceReadsDrained_keep (covers_self _) (Keep.refl _ s) _).frame (by dsimp only [frameOf]; decide +kernel) next
  | sourceClearComplete => exact (execSourceClearComplete_keep (covers_self _) (Keep.refl _ s) _).frame (by dsimp only [frameOf]; decide +kernel) next
  | checkpointVerified => exact (execCheckpointVerified_keep (covers_self _) (Keep.refl _ s) _).frame (by dsimp only [frameOf]; decide +kernel) next
  | wearEpoch => exact (execWearEpoch_keep (covers_self _) (Keep.refl _ s)).frame (by dsimp only [frameOf]; decide +kernel) next
  | wearCheckpointWriteback => exact (execWearCheckpointWriteback_keep (covers_self _) (Keep.refl _ s)).frame (by dsimp only [frameOf]; decide +kernel) next
  | heatPeriod => exact (execHeatPeriod_keep (covers_self _) (Keep.refl _ s)).frame (by dsimp only [frameOf]; decide +kernel) next
  | refreshVisit => exact (execRefreshVisit_keep (covers_self _) (Keep.refl _ s) _ _).frame (by dsimp only [frameOf]; decide +kernel) next
  | rekeyRequest => exact (execRekeyRequest_keep (covers_self _) (Keep.refl _ s) _ _).frame (by dsimp only [frameOf]; decide +kernel) next
  | rekeySpan => exact (execRekeySpan_keep (covers_self _) (Keep.refl _ s) _ _ _ _).frame (by dsimp only [frameOf]; decide +kernel) next
  | reEstablishment => exact (execReEstablishment_keep (covers_self _) (Keep.refl _ s) _).frame (by dsimp only [frameOf]; decide +kernel) next
  | debugWindowOpen => exact (execDebugWindowOpen_keep (covers_self _) (Keep.refl _ s) _ _ _ _).frame (by dsimp only [frameOf]; decide +kernel) next
  | debugWindowClose => exact (execDebugWindowClose_keep (covers_self _) (Keep.refl _ s) _).frame (by dsimp only [frameOf]; decide +kernel) next
  | debugWindowExpiry => exact (execDebugWindowExpiry_keep (covers_self _) (Keep.refl _ s) _).frame (by dsimp only [frameOf]; decide +kernel) next
  | debugRead => exact (execDebugRead_keep (covers_self _) (Keep.refl _ s) _ _).frame (by dsimp only [frameOf]; decide +kernel) next
  | rootDecisionAdopt => exact (execRootDecisionAdopt_keep (covers_self _) (Keep.refl _ s) _).frame (by dsimp only [frameOf]; decide +kernel) next
  | rootDecisionReject => exact (execRootDecisionReject_keep (covers_self _) (Keep.refl _ s) _).frame (by dsimp only [frameOf]; decide +kernel) next
  | scrubRewrite => exact (execScrubRewrite_keep (covers_self _) (Keep.refl _ s) _).frame (by dsimp only [frameOf]; decide +kernel) next
  | rebuildStep => exact (execRebuildStep_keep (covers_self _) (Keep.refl _ s) _ _).frame (by dsimp only [frameOf]; decide +kernel) next
  | scrubDpaPass => exact (execScrubDpaPass_keep (covers_self _) (Keep.refl _ s) _ _ _ _).frame (by dsimp only [frameOf]; decide +kernel) next
  | scrubPhysicalPass => exact (execScrubPhysicalPass_keep (covers_self _) (Keep.refl _ s) _ _ _ _).frame (by dsimp only [frameOf]; decide +kernel) next
  | scrubRow => exact (execScrubRow_keep (covers_self _) (Keep.refl _ s) _ _).frame (by dsimp only [frameOf]; decide +kernel) next
  | scrubCancel => exact (execScrubCancel_keep (covers_self _) (Keep.refl _ s) _).frame (by dsimp only [frameOf]; decide +kernel) next
  | patrolRow => exact (execPatrolRow_keep (covers_self _) (Keep.refl _ s) _ _ _).frame (by dsimp only [frameOf]; decide +kernel) next
  | fullScanComplete => exact (execFullScanComplete_keep (covers_self _) (Keep.refl _ s) _ _).frame (by dsimp only [frameOf]; decide +kernel) next
  | dataReady => exact (execDataReady_keep (covers_self _) (Keep.refl _ s)).frame (by dsimp only [frameOf]; decide +kernel) next
  | suspectRelease => exact (execSuspectRelease_keep (covers_self _) (Keep.refl _ s) _ _ _).frame (by dsimp only [frameOf]; decide +kernel) next
  | suspectDiscard => exact (execSuspectDiscard_keep (covers_self _) (Keep.refl _ s) _ _ _).frame (by dsimp only [frameOf]; decide +kernel) next
  | suspectListRead => exact (execSuspectListRead_keep (covers_self _) (Keep.refl _ s) _).frame (by dsimp only [frameOf]; decide +kernel) next
  | coxResetRelease => exact (execCoxResetRelease_keep (covers_self _) (Keep.refl _ s) _ _).frame (by dsimp only [frameOf]; decide +kernel) next
  | managementReady => exact (execManagementReady_keep (covers_self _) (Keep.refl _ s)).frame (by dsimp only [frameOf]; decide +kernel) next
  | watchdogExpiry => exact (execWatchdogExpiry_keep (covers_self _) (Keep.refl _ s)).frame (by dsimp only [frameOf]; decide +kernel) next
  | orphanLimit => exact (execOrphanLimit_keep (covers_self _) (Keep.refl _ s)).frame (by dsimp only [frameOf]; decide +kernel) next
  | flashProgramDone => exact (execFlashProgramDone_keep (covers_self _) (Keep.refl _ s) _).frame (by dsimp only [frameOf]; decide +kernel) next
  | flashEraseDone => exact (execFlashEraseDone_keep (covers_self _) (Keep.refl _ s) _).frame (by dsimp only [frameOf]; decide +kernel) next
  | flashSuspend => exact (execFlashSuspend_keep (covers_self _) (Keep.refl _ s)).frame (by dsimp only [frameOf]; decide +kernel) next
  | flashResume => exact (execFlashResume_keep (covers_self _) (Keep.refl _ s)).frame (by dsimp only [frameOf]; decide +kernel) next
  | journalCompaction => exact (execJournalCompaction_keep (covers_self _) (Keep.refl _ s)).frame (by dsimp only [frameOf]; decide +kernel) next
  | optionsWrite => exact (execOptionsWrite_keep (covers_self _) (Keep.refl _ s) _ _ _ _ _ _).frame (by dsimp only [frameOf]; decide +kernel) next
  | updateBegin => exact (execUpdateBegin_keep (covers_self _) (Keep.refl _ s) _ _).frame (by dsimp only [frameOf]; decide +kernel) next
  | imageData => exact (execImageData_keep (covers_self _) (Keep.refl _ s) _ _).frame (by dsimp only [frameOf]; decide +kernel) next
  | imageSegment => exact (execImageSegment_keep (covers_self _) (Keep.refl _ s) _ _).frame (by dsimp only [frameOf]; decide +kernel) next
  | updateCommit => exact (execUpdateCommit_keep (covers_self _) (Keep.refl _ s) _ _ _).frame (by dsimp only [frameOf]; decide +kernel) next
  | activate => exact (execActivate_keep (covers_self _) (Keep.refl _ s) _).frame (by dsimp only [frameOf]; decide +kernel) next
  | trialConfirm => exact (execTrialConfirm_keep (covers_self _) (Keep.refl _ s)).frame (by dsimp only [frameOf]; decide +kernel) next
  | pageWriteDone => exact (execPageWriteDone_keep (covers_self _) (Keep.refl _ s) _).frame (by dsimp only [frameOf]; decide +kernel) next
  | operatingTimeCellWrite => exact (execOperatingTimeCellWrite_keep (covers_self _) (Keep.refl _ s)).frame (by dsimp only [frameOf]; decide +kernel) next
  | blockProtectionWrite => exact (execBlockProtectionWrite_keep (covers_self _) (Keep.refl _ s) _).frame (by dsimp only [frameOf]; decide +kernel) next
  | configObjectWrite => exact (execConfigObjectWrite_keep (covers_self _) (Keep.refl _ s) _ _ _ _).frame (by dsimp only [frameOf]; decide +kernel) next
  | persistWriteDeferredDone => exact (execPersistWriteDeferredDone_keep (covers_self _) (Keep.refl _ s) _).frame (by dsimp only [frameOf]; decide +kernel) next
  | noOperation => exact (execNoOperation_keep (covers_self _) (Keep.refl _ s) _).frame (by dsimp only [frameOf]; decide +kernel) next
  | restoreDefaults => exact (execRestoreDefaults_keep (covers_self _) (Keep.refl _ s) _).frame (by dsimp only [frameOf]; decide +kernel) next
  | sanitizeExtents => exact (execSanitizeExtents_keep (covers_self _) (Keep.refl _ s) _ _ _).frame (by dsimp only [frameOf]; decide +kernel) next
  | logbookWriteOut => exact (execLogbookWriteOut_keep (covers_self _) (Keep.refl _ s) _).frame (by dsimp only [frameOf]; decide +kernel) next
  | stagingLoss => exact (execStagingLoss_keep (covers_self _) (Keep.refl _ s)).frame (by dsimp only [frameOf]; decide +kernel) next
  | windowRead => exact (execWindowRead_keep (covers_self _) (Keep.refl _ s) _).frame (by dsimp only [frameOf]; decide +kernel) next
  | areaFClear => exact (execAreaFClear_keep (covers_self _) (Keep.refl _ s) _).frame (by dsimp only [frameOf]; decide +kernel) next
  | snapshotDefinitionWrite => exact (execSnapshotDefinitionWrite_keep (covers_self _) (Keep.refl _ s) _ _ _ _).frame (by dsimp only [frameOf]; decide +kernel) next
  | snapshotNow => exact (execSnapshotNow_keep (covers_self _) (Keep.refl _ s) _).frame (by dsimp only [frameOf]; decide +kernel) next
  | snapshotPeriodic => exact (execSnapshotPeriodic_keep (covers_self _) (Keep.refl _ s) _).frame (by dsimp only [frameOf]; decide +kernel) next
  | tallySample => exact (execTallySample_keep (covers_self _) (Keep.refl _ s)).frame (by dsimp only [frameOf]; decide +kernel) next
  | bandwidthWindowEnd => exact (execBandwidthWindowEnd_keep (covers_self _) (Keep.refl _ s)).frame (by dsimp only [frameOf]; decide +kernel) next
  | solicit => exact (execSolicit_keep (covers_self _) (Keep.refl _ s) _ _ _ _).frame (by dsimp only [frameOf]; decide +kernel) next
  | advertiseAnswerTimer => exact (execAdvertiseAnswerTimer_keep (covers_self _) (Keep.refl _ s)).frame (by dsimp only [frameOf]; decide +kernel) next
  | advertisePeriod => exact (execAdvertisePeriod_keep (covers_self _) (Keep.refl _ s)).frame (by dsimp only [frameOf]; decide +kernel) next
  | advertise => exact (execAdvertise_keep (covers_self _) (Keep.refl _ s) _ _ _).frame (by dsimp only [frameOf]; decide +kernel) next
  | openSession _ _ seq => exact (execOpenSession_keep (covers_self _) (Keep.refl _ s) _ _ seq _ _ _).frame (by dsimp only [frameOf]; decide +kernel) next
  | close => exact (execClose_keep (covers_self _) (Keep.refl _ s) _ _ _).frame (by dsimp only [frameOf]; decide +kernel) next
  | read => exact (execRead_keep (covers_self _) (Keep.refl _ s) _ _ _ _ _ _).frame (by dsimp only [frameOf]; decide +kernel) next
  | write => exact (execWrite_keep (covers_self _) (Keep.refl _ s) _ _ _ _ _ _ _).frame (by dsimp only [frameOf]; decide +kernel) next
  | readMulti => exact (execReadMulti_keep (covers_self _) (Keep.refl _ s) _ _ _ _ _).frame (by dsimp only [frameOf]; decide +kernel) next
  | bulkStart => exact (execBulkStart_keep (covers_self _) (Keep.refl _ s) _ _ _ _ _ _ _ _).frame (by dsimp only [frameOf]; decide +kernel) next
  | bulkData => exact (execBulkData_keep (covers_self _) (Keep.refl _ s) _ _ _ _ _).frame (by dsimp only [frameOf]; decide +kernel) next
  | bulkAck => exact (execBulkAck_keep (covers_self _) (Keep.refl _ s) _ _ _ _).frame (by dsimp only [frameOf]; decide +kernel) next
  | bulkOutOfOrderAck => exact (execBulkOutOfOrderAck_keep (covers_self _) (Keep.refl _ s) _).frame (by dsimp only [frameOf]; decide +kernel) next
  | bulkTimeout => exact (execBulkTimeout_keep (covers_self _) (Keep.refl _ s) _).frame (by dsimp only [frameOf]; decide +kernel) next
  | subscribe => exact (execSubscribe_keep (covers_self _) (Keep.refl _ s) _ _ _ _ _ _ _ _ _ _).frame (by dsimp only [frameOf]; decide +kernel) next
  | subscriptionIntervalEnd => exact (execSubscriptionIntervalEnd_keep (covers_self _) (Keep.refl _ s) _ _).frame (by dsimp only [frameOf]; decide +kernel) next
  | keepalive => exact (execKeepalive_keep (covers_self _) (Keep.refl _ s) _ _ _ _).frame (by dsimp only [frameOf]; decide +kernel) next
  | strangerFrame => exact (execStrangerFrame_keep (covers_self _) (Keep.refl _ s) _).frame (by dsimp only [frameOf]; decide +kernel) next
  | icmpv6Echo => exact (execIcmpv6Echo_keep (covers_self _) (Keep.refl _ s)).frame (by dsimp only [frameOf]; decide +kernel) next
  | neighborDiscovery => exact (execNeighborDiscovery_keep (covers_self _) (Keep.refl _ s)).frame (by dsimp only [frameOf]; decide +kernel) next
  | sessionOpenTimeout => exact (execSessionOpenTimeout_keep (covers_self _) (Keep.refl _ s) _).frame (by dsimp only [frameOf]; decide +kernel) next
  | sessionIdleTimeout => exact (execSessionIdleTimeout_keep (covers_self _) (Keep.refl _ s) _).frame (by dsimp only [frameOf]; decide +kernel) next
  | closeSession => exact (execCloseSession_keep (covers_self _) (Keep.refl _ s) _).frame (by dsimp only [frameOf]; decide +kernel) next
  | roleKeyWrite => exact (execRoleKeyWrite_keep (covers_self _) (Keep.refl _ s) _ _ _).frame (by dsimp only [frameOf]; decide +kernel) next
  | tagFailureSecond => exact (execTagFailureSecond_keep (covers_self _) (Keep.refl _ s)).frame (by dsimp only [frameOf]; decide +kernel) next
  | poolAddressWrite => exact (execPoolAddressWrite_keep (covers_self _) (Keep.refl _ s) _).frame (by dsimp only [frameOf]; decide +kernel) next
  | plcaModeWrite => exact (execPlcaModeWrite_keep (covers_self _) (Keep.refl _ s) _).frame (by dsimp only [frameOf]; decide +kernel) next
  | plcaBeaconLoss => exact (execPlcaBeaconLoss_keep (covers_self _) (Keep.refl _ s)).frame (by dsimp only [frameOf]; decide +kernel) next
  | plcaBeacon => exact (execPlcaBeacon_keep (covers_self _) (Keep.refl _ s)).frame (by dsimp only [frameOf]; decide +kernel) next
  | t1sPathFailure check => exact (execT1sPathFailure_keep (covers_self _) (Keep.refl _ s) check).frame (by dsimp only [frameOf]; decide +kernel) next
  | mailboxReplyExpiry => exact (execMailboxReplyExpiry_keep (covers_self _) (Keep.refl _ s) _).frame (by dsimp only [frameOf]; decide +kernel) next
  | bankCharged => exact (execBankCharged_keep (covers_self _) (Keep.refl _ s)).frame (by dsimp only [frameOf]; decide +kernel) next
  | haltNHigh => exact (execHaltNHigh_keep (covers_self _) (Keep.refl _ s)).frame (by dsimp only [frameOf]; decide +kernel) next
  | rootRebuildComplete => exact (execRootRebuildComplete_keep (covers_self _) (Keep.refl _ s) _ _ _).frame (by dsimp only [frameOf]; decide +kernel) next
  | eraseMinimumRunEnd => exact (execEraseMinimumRunEnd_keep (covers_self _) (Keep.refl _ s)).frame (by dsimp only [frameOf]; decide +kernel) next

/-- No frame lists the queue. -/
theorem pending_not_mem_frameOf (c : Instr) : Field.pending ∉ frameOf c := by
  cases c <;> (dsimp only [frameOf]; decide +kernel)

theorem exec_pending (next : exec c s = .next t) : t.pending = s.pending :=
  exec_frame next .pending (pending_not_mem_frameOf c)

/-- A clause about a command is its next state and what holds of it: the frame is that of every command. -/
theorem does_of_next {P : State → Prop} (next : exec c s = .next t) (holds : P t) : Does c s P :=
  ⟨t, next, exec_frame next, holds⟩

/-! ## Completion -/

theorem execRailFailure_completes (domain : Nat) (overcurrent : Bool) (s : State) :
    ∃ t, execRailFailure domain overcurrent s = .next t := by
  unfold execRailFailure
  dsimp only
  repeat' split
  all_goals exact ⟨_, rfl⟩

/-- A drop of 5 µs or more is a rail failure (15 R353). -/
theorem execPowerGoodDrop_completes (domain lowNs : Nat) (s : State) : ∃ t, execPowerGoodDrop domain lowNs s = .next t := by
  unfold execPowerGoodDrop
  dsimp only
  split
  · exact ⟨_, rfl⟩
  split
  · exact ⟨_, rfl⟩
  split
  · split
    · exact ⟨_, rfl⟩
    · exact execRailFailure_completes ..
  · exact ⟨_, rfl⟩

/-- Every branch of every meaning answers a next state. -/
theorem exec_completes (c : Instr) (s : State) : ∃ t, exec c s = .next t := by
  cases c
  -- meanings that are one next state, or one object access
  case lookupResponseHoldExpiry | memwr | memwrptl | gpfPhase1 | gpfPhase2 | setShutdownState | getShutdownState | getPoisonList |
    sanitize | secureErase | addDynamicCapacityResponse | releaseDynamicCapacity | getDynamicCapacityExtentList | objectRead |
    objectWrite | setExtentHint | getExtentState | unsupportedOpcode | getHealthInfo | mailboxOpenRequest | mailboxOpenReply |
    viralReceived | perstRelease | linkDown | cableRemoved | cableMated | bifurcationRequest | headReset | inFlightCapWrite | extentOffer |
    extentRelease | extentReleaseForced | regionCreate | regionMaskChange | regionDelete | stickyBitClear | operatorFence |
    operatorReadmit | latchRelease | easyAllEnterCommand | easyAllLeaveCommand | coalescingDelayExpiry | nodeHoldExpiry | keelTurnOn |
    corePowerOffRequest | corePowerOnRequest | modrstRelease | moduleReset | haltNSwitchWrite | keelRailRetry | seatPingTimer |
    domainStatusPoll | seatBusFailure | seatBusStuck | ping | domainOn | domainOff | domainStatus | readV | readI | margin | charger |
    capMeasure | capResult | haltRelease | faultRead | latchClear | marginingEnable | marginRequest | measureNow | limitsWrite |
    wearEpoch | wearCheckpointWriteback | heatPeriod | rekeyRequest | debugWindowOpen | debugWindowClose | debugWindowExpiry |
    rootDecisionAdopt | rootDecisionReject | scrubDpaPass | scrubPhysicalPass | scrubCancel | suspectRelease | suspectDiscard |
    suspectListRead | flashResume | optionsWrite | updateBegin | imageData | imageSegment | updateCommit | activate |
    blockProtectionWrite | configObjectWrite | persistWriteDeferredDone | noOperation | restoreDefaults | sanitizeExtents | stagingLoss |
    windowRead | areaFClear | snapshotDefinitionWrite | snapshotNow | close | read | write | readMulti | bulkStart | subscribe |
    keepalive | icmpv6Echo | neighborDiscovery | closeSession | roleKeyWrite | poolAddressWrite | plcaModeWrite | t1sPathFailure |
    mailboxReplyExpiry | eraseMinimumRunEnd =>
    exact ⟨_, rfl⟩
  case railFailure => exact execRailFailure_completes ..
  case powerGoodDrop => exact execPowerGoodDrop_completes ..
  -- meanings that branch
  all_goals
    dsimp only [exec, execMemrd, execReadLineArrival, execLineOrderPointMerge, execMirrorWriteAck, execMemEnableWrite, execIdeCheckFailure,
    execIdeKmRequest, execFunctionLevelReset, execPerstAssert, execLinkUp, execSpeedChangeRequest, execEqualisationComplete,
    execLinkRecoveryEntry, execEqEnable, execEqDisable, execEqCiWrite, execEqStatusClear, execEqCoalesceIntervalEnd, execHeadStall,
    execHeadResetHoldEnd, execRegionChangeComplete, execOfferTimeout, execExtentDrainComplete, execConfigCommit, execKeelBridgeAccess,
    execKeelBridgeTimeout, execFaultMessageTaken, execFatalLineAssert, execClockLost, execStickyBitPersist, execQuietTimerExpiry,
    execProbeComplete, execProbeTimeout, execEngineTimeout, execT4ClearTimer, execStagingParityRecomputeDone, execWearBandReloadDone,
    execStagingPartRestoreDone, execSramInitDone, execSramPatrol, execSense, execAbort, execEsense, execHsense, execLoad, execProg,
    execClrseg, execStatus, execTrim, execCheck, execAbortReport, execPlaneOperationEnd, execSenseTimeout, execAbortTimeout,
    execProgramStatusTimeout, execCommandParityError, execChannelTimingError, execChannelTrainingDone, execChannelTrainingTimeout,
    execDrainUnitSelect, execDrainProgramsStart, execDrainUnitComplete, execStarvationThreshold, execLedgerDelta, execLedgerFullSet,
    execLedgerRecordDurable, execInputDip, execSealRecordDurable, execInputDipRecovered, execFlushComplete, execInputLoss, execOvervoltage,
    execOvervoltageClear, execKeelTurnOff, execBreakerTrip, execBreakerLatchRelease, execBladePairImbalance, execInputGoodAgain,
    execInputGoodResetTimer, execBankBelow40v, execBankBelow41v, execGaSample, execModrstAssert, execHaltNLow, execExtestLoad,
    execKeelRailsQualified, execDomainQualified, execStepTimeout, execPowerDownStep, execRailFailToFall, execSeatSelfShutdown,
    execBankReady, execBankReadyTimeout, execBankLowVoltage, execBoostFault, execCapacitanceMeasurementDue, execMeasurementComplete,
    execThermalConversion, execLevelFall, execHealthRecompute, execMigrationStart, execMigrationRowCopy, execSealVerified,
    execSourceReadsDrained, execSourceClearComplete, execCheckpointVerified, execRefreshVisit, execRekeySpan, execReEstablishment,
    execDebugRead, execScrubRewrite, execRebuildStep, execScrubRow, execPatrolRow, execFullScanComplete, execDataReady,
    execCoxResetRelease, execManagementReady, execWatchdogExpiry, execOrphanLimit, execFlashProgramDone, execFlashEraseDone,
    execFlashSuspend, execJournalCompaction, execTrialConfirm, execPageWriteDone, execOperatingTimeCellWrite, execLogbookWriteOut,
    execSnapshotPeriodic, execTallySample, execBandwidthWindowEnd, execSolicit, execAdvertiseAnswerTimer, execAdvertisePeriod,
    execAdvertise, execOpenSession, execBulkData, execBulkAck, execBulkOutOfOrderAck, execBulkTimeout, execSubscriptionIntervalEnd,
    execStrangerFrame, execSessionOpenTimeout, execSessionIdleTimeout, execTagFailureSecond, execPlcaBeaconLoss, execPlcaBeacon,
    execBankCharged, execHaltNHigh, execRootRebuildComplete]
    repeat' split
    all_goals exact ⟨_, rfl⟩

/-! ## What every command leaves true -/

theorem Steady.trans {u : State} (first : Steady s t) (second : Steady t u) : Steady s u where
  canonical := second.canonical ∘ first.canonical
  out := first.out.trans second.out
  free := Nat.le_trans first.free second.free
  queue := second.queue ∘ first.queue
  dirty := Nat.le_trans first.dirty second.dirty

theorem exec_steady (c : Instr) (s : State) : SteadyR s (exec c s) := by
  cases c with
  | memrd => exact execMemrd_steady (Steady.refl s) _ _ _ _ _
  | readLineArrival => exact execReadLineArrival_steady (Steady.refl s) _ _ _ _ _
  | lineOrderPointMerge => exact execLineOrderPointMerge_steady (Steady.refl s) _ _
  | lookupResponseHoldExpiry => exact execLookupResponseHoldExpiry_steady (Steady.refl s) _
  | memwr => exact execMemwr_steady (Steady.refl s) _ _ _ _
  | memwrptl => exact execMemwrptl_steady (Steady.refl s) _ _ _ _ _
  | mirrorWriteAck => exact execMirrorWriteAck_steady (Steady.refl s) _ _
  | gpfPhase1 => exact execGpfPhase1_steady (Steady.refl s) _
  | gpfPhase2 => exact execGpfPhase2_steady (Steady.refl s) _
  | setShutdownState => exact execSetShutdownState_steady (Steady.refl s) _ _
  | getShutdownState => exact execGetShutdownState_steady (Steady.refl s) _
  | getPoisonList => exact execGetPoisonList_steady (Steady.refl s) _
  | sanitize => exact execSanitize_steady (Steady.refl s) _
  | secureErase => exact execSecureErase_steady (Steady.refl s) _
  | addDynamicCapacityResponse => exact execAddDynamicCapacityResponse_steady (Steady.refl s) _ _ _
  | releaseDynamicCapacity => exact execReleaseDynamicCapacity_steady (Steady.refl s) _ _
  | getDynamicCapacityExtentList => exact execGetDynamicCapacityExtentList_steady (Steady.refl s) _
  | objectRead => exact execObjectRead_steady (Steady.refl s) _ _ _ _ _ _ _
  | objectWrite => exact execObjectWrite_steady (Steady.refl s) _ _ _ _ _ _ _ _
  | setExtentHint => exact execSetExtentHint_steady (Steady.refl s) _ _ _ _ _
  | getExtentState => exact execGetExtentState_steady (Steady.refl s) _ _ _ _
  | unsupportedOpcode => exact execUnsupportedOpcode_steady (Steady.refl s) _ _
  | getHealthInfo => exact execGetHealthInfo_steady (Steady.refl s) _
  | mailboxOpenRequest => exact execMailboxOpenRequest_steady (Steady.refl s) _ _ _
  | mailboxOpenReply => exact execMailboxOpenReply_steady (Steady.refl s) _
  | memEnableWrite => exact execMemEnableWrite_steady (Steady.refl s) _ _ _
  | viralReceived => exact execViralReceived_steady (Steady.refl s) _
  | ideCheckFailure => exact execIdeCheckFailure_steady (Steady.refl s) _
  | ideKmRequest => exact execIdeKmRequest_steady (Steady.refl s) _ _
  | functionLevelReset => exact execFunctionLevelReset_steady (Steady.refl s) _
  | perstAssert => exact execPerstAssert_steady (Steady.refl s) _ _
  | perstRelease => exact execPerstRelease_steady (Steady.refl s) _ _
  | linkUp => exact execLinkUp_steady (Steady.refl s) _ _ _
  | speedChangeRequest => exact execSpeedChangeRequest_steady (Steady.refl s) _ _ _
  | equalisationComplete => exact execEqualisationComplete_steady (Steady.refl s) _ _
  | linkRecoveryEntry => exact execLinkRecoveryEntry_steady (Steady.refl s) _
  | linkDown => exact execLinkDown_steady (Steady.refl s) _
  | cableRemoved => exact execCableRemoved_steady (Steady.refl s) _
  | cableMated => exact execCableMated_steady (Steady.refl s) _
  | bifurcationRequest => exact execBifurcationRequest_steady (Steady.refl s) _ _
  | eqEnable => exact execEqEnable_steady (Steady.refl s) _ _ _ _ _ _
  | eqDisable => exact execEqDisable_steady (Steady.refl s) _
  | eqCiWrite => exact execEqCiWrite_steady (Steady.refl s) _ _
  | eqStatusClear => exact execEqStatusClear_steady (Steady.refl s) _ _ _
  | eqCoalesceIntervalEnd => exact execEqCoalesceIntervalEnd_steady (Steady.refl s) _
  | headStall => exact execHeadStall_steady (Steady.refl s) _
  | headReset => exact execHeadReset_steady (Steady.refl s) _
  | headResetHoldEnd => exact execHeadResetHoldEnd_steady (Steady.refl s) _
  | inFlightCapWrite => exact execInFlightCapWrite_steady (Steady.refl s) _ _
  | extentOffer => exact execExtentOffer_steady (Steady.refl s) _ _ _ _ _
  | regionChangeComplete => exact execRegionChangeComplete_steady (Steady.refl s) _
  | extentRelease => exact execExtentRelease_steady (Steady.refl s) _ _ _ _
  | extentReleaseForced => exact execExtentReleaseForced_steady (Steady.refl s) _ _ _ _
  | offerTimeout => exact execOfferTimeout_steady (Steady.refl s) _ _
  | extentDrainComplete => exact execExtentDrainComplete_steady (Steady.refl s) _ _
  | regionCreate => exact execRegionCreate_steady (Steady.refl s) _ _
  | regionMaskChange => exact execRegionMaskChange_steady (Steady.refl s) _ _
  | regionDelete => exact execRegionDelete_steady (Steady.refl s) _
  | configCommit => exact execConfigCommit_steady (Steady.refl s) _
  | keelBridgeAccess _ addr _ => exact execKeelBridgeAccess_steady (Steady.refl s) _ addr _
  | keelBridgeTimeout _ addr => exact execKeelBridgeTimeout_steady (Steady.refl s) _ addr
  | faultMessageTaken => exact execFaultMessageTaken_steady (Steady.refl s)
  | fatalLineAssert => exact execFatalLineAssert_steady (Steady.refl s) _
  | clockLost => exact execClockLost_steady (Steady.refl s) _
  | stickyBitPersist => exact execStickyBitPersist_steady (Steady.refl s) _
  | stickyBitClear => exact execStickyBitClear_steady (Steady.refl s) _ _
  | quietTimerExpiry => exact execQuietTimerExpiry_steady (Steady.refl s) _
  | probeComplete => exact execProbeComplete_steady (Steady.refl s) _ _
  | probeTimeout => exact execProbeTimeout_steady (Steady.refl s) _
  | operatorFence => exact execOperatorFence_steady (Steady.refl s) _ _
  | operatorReadmit => exact execOperatorReadmit_steady (Steady.refl s) _ _
  | latchRelease => exact execLatchRelease_steady (Steady.refl s) _ _
  | engineTimeout => exact execEngineTimeout_steady (Steady.refl s) _ _
  | easyAllEnterCommand => exact execEasyAllEnterCommand_steady (Steady.refl s) _
  | easyAllLeaveCommand => exact execEasyAllLeaveCommand_steady (Steady.refl s) _
  | t4ClearTimer => exact execT4ClearTimer_steady (Steady.refl s)
  | stagingParityRecomputeDone => exact execStagingParityRecomputeDone_steady (Steady.refl s) _
  | wearBandReloadDone => exact execWearBandReloadDone_steady (Steady.refl s) _
  | stagingPartRestoreDone => exact execStagingPartRestoreDone_steady (Steady.refl s) _
  | sramInitDone => exact execSramInitDone_steady (Steady.refl s) _ _
  | sramPatrol => exact execSramPatrol_steady (Steady.refl s) _ _ _ _
  | sense => exact execSense_steady (Steady.refl s) _ _ _ _ _ _
  | abort => exact execAbort_steady (Steady.refl s) _ _ _
  | esense => exact execEsense_steady (Steady.refl s) _ _ _ _ _
  | hsense => exact execHsense_steady (Steady.refl s) _ _ _
  | load => exact execLoad_steady (Steady.refl s) _ _ _ _
  | prog => exact execProg_steady (Steady.refl s) _ _ _
  | clrseg => exact execClrseg_steady (Steady.refl s) _ _ _ _
  | status => exact execStatus_steady (Steady.refl s) _ _
  | trim => exact execTrim_steady (Steady.refl s) _ _ _
  | check => exact execCheck_steady (Steady.refl s) _ _ _
  | abortReport => exact execAbortReport_steady (Steady.refl s) _ _ _ _ _
  | planeOperationEnd => exact execPlaneOperationEnd_steady (Steady.refl s) _ _ _ _
  | senseTimeout => exact execSenseTimeout_steady (Steady.refl s) _
  | abortTimeout => exact execAbortTimeout_steady (Steady.refl s) _ _ _
  | programStatusTimeout => exact execProgramStatusTimeout_steady (Steady.refl s) _ _ _
  | commandParityError => exact execCommandParityError_steady (Steady.refl s) _ _ _
  | channelTimingError => exact execChannelTimingError_steady (Steady.refl s) _ _
  | channelTrainingDone => exact execChannelTrainingDone_steady (Steady.refl s) _
  | channelTrainingTimeout => exact execChannelTrainingTimeout_steady (Steady.refl s) _
  | coalescingDelayExpiry => exact execCoalescingDelayExpiry_steady (Steady.refl s) _
  | drainUnitSelect => exact execDrainUnitSelect_steady (Steady.refl s) _ _ _ _ _
  | drainProgramsStart => exact execDrainProgramsStart_steady (Steady.refl s) _
  | drainUnitComplete => exact execDrainUnitComplete_steady (Steady.refl s) _
  | starvationThreshold => exact execStarvationThreshold_steady (Steady.refl s) _
  | nodeHoldExpiry => exact execNodeHoldExpiry_steady (Steady.refl s) _
  | ledgerDelta => exact execLedgerDelta_steady (Steady.refl s)
  | ledgerFullSet => exact execLedgerFullSet_steady (Steady.refl s)
  | ledgerRecordDurable => exact execLedgerRecordDurable_steady (Steady.refl s) _
  | inputDip => exact execInputDip_steady (Steady.refl s)
  | sealRecordDurable => exact execSealRecordDurable_steady (Steady.refl s) _
  | inputDipRecovered => exact execInputDipRecovered_steady (Steady.refl s)
  | flushComplete => exact execFlushComplete_steady (Steady.refl s)
  | keelTurnOn => exact execKeelTurnOn_steady (Steady.refl s)
  | inputLoss => exact execInputLoss_steady (Steady.refl s)
  | overvoltage => exact execOvervoltage_steady (Steady.refl s)
  | overvoltageClear => exact execOvervoltageClear_steady (Steady.refl s)
  | keelTurnOff => exact execKeelTurnOff_steady (Steady.refl s)
  | breakerTrip => exact execBreakerTrip_steady (Steady.refl s)
  | breakerLatchRelease => exact execBreakerLatchRelease_steady (Steady.refl s)
  | bladePairImbalance => exact execBladePairImbalance_steady (Steady.refl s) _ _
  | inputGoodAgain => exact execInputGoodAgain_steady (Steady.refl s)
  | inputGoodResetTimer => exact execInputGoodResetTimer_steady (Steady.refl s) _
  | bankBelow40v => exact execBankBelow40v_steady (Steady.refl s)
  | bankBelow41v => exact execBankBelow41v_steady (Steady.refl s)
  | corePowerOffRequest => exact execCorePowerOffRequest_steady (Steady.refl s)
  | corePowerOnRequest => exact execCorePowerOnRequest_steady (Steady.refl s)
  | gaSample => exact execGaSample_steady (Steady.refl s) _
  | modrstAssert => exact execModrstAssert_steady (Steady.refl s) _ _
  | modrstRelease => exact execModrstRelease_steady (Steady.refl s) _
  | moduleReset => exact execModuleReset_steady (Steady.refl s) _ _ _
  | haltNLow => exact execHaltNLow_steady (Steady.refl s) _ _
  | haltNSwitchWrite => exact execHaltNSwitchWrite_steady (Steady.refl s) _
  | extestLoad => exact execExtestLoad_steady (Steady.refl s) _
  | keelRailsQualified => exact execKeelRailsQualified_steady (Steady.refl s) _ _ _
  | keelRailRetry => exact execKeelRailRetry_steady (Steady.refl s)
  | domainQualified => exact execDomainQualified_steady (Steady.refl s) _ _
  | powerGoodDrop => exact execPowerGoodDrop_steady (Steady.refl s) _ _
  | stepTimeout => exact execStepTimeout_steady (Steady.refl s)
  | railFailure => exact execRailFailure_steady (Steady.refl s) _ _
  | powerDownStep => exact execPowerDownStep_steady (Steady.refl s) _
  | railFailToFall => exact execRailFailToFall_steady (Steady.refl s) _ _
  | seatPingTimer => exact execSeatPingTimer_steady (Steady.refl s)
  | domainStatusPoll => exact execDomainStatusPoll_steady (Steady.refl s)
  | seatBusFailure => exact execSeatBusFailure_steady (Steady.refl s) _ _
  | seatBusStuck => exact execSeatBusStuck_steady (Steady.refl s) _
  | ping => exact execPing_steady (Steady.refl s) _
  | domainOn => exact execDomainOn_steady (Steady.refl s) _ _
  | domainOff => exact execDomainOff_steady (Steady.refl s) _ _
  | domainStatus => exact execDomainStatus_steady (Steady.refl s) _ _
  | readV => exact execReadV_steady (Steady.refl s) _ _
  | readI => exact execReadI_steady (Steady.refl s) _ _
  | margin => exact execMargin_steady (Steady.refl s) _ _ _
  | charger => exact execCharger_steady (Steady.refl s) _ _
  | capMeasure => exact execCapMeasure_steady (Steady.refl s) _
  | capResult => exact execCapResult_steady (Steady.refl s) _
  | haltRelease => exact execHaltRelease_steady (Steady.refl s) _
  | faultRead => exact execFaultRead_steady (Steady.refl s) _
  | seatSelfShutdown => exact execSeatSelfShutdown_steady (Steady.refl s) _
  | latchClear => exact execLatchClear_steady (Steady.refl s) _
  | marginingEnable => exact execMarginingEnable_steady (Steady.refl s) _
  | marginRequest => exact execMarginRequest_steady (Steady.refl s) _ _
  | bankReady => exact execBankReady_steady (Steady.refl s) _
  | bankReadyTimeout => exact execBankReadyTimeout_steady (Steady.refl s)
  | bankLowVoltage => exact execBankLowVoltage_steady (Steady.refl s) _
  | boostFault => exact execBoostFault_steady (Steady.refl s)
  | capacitanceMeasurementDue => exact execCapacitanceMeasurementDue_steady (Steady.refl s)
  | measureNow => exact execMeasureNow_steady (Steady.refl s) _
  | measurementComplete => exact execMeasurementComplete_steady (Steady.refl s) _ _
  | thermalConversion => exact execThermalConversion_steady (Steady.refl s) _ _ _
  | levelFall => exact execLevelFall_steady (Steady.refl s) _
  | limitsWrite => exact execLimitsWrite_steady (Steady.refl s) _ _ _ _ _ _
  | healthRecompute => exact execHealthRecompute_steady (Steady.refl s)
  | migrationStart => exact execMigrationStart_steady (Steady.refl s) _
  | migrationRowCopy tract findings => exact execMigrationRowCopy_steady (Steady.refl s) tract findings
  | sealVerified => exact execSealVerified_steady (Steady.refl s) _
  | sourceReadsDrained => exact execSourceReadsDrained_steady (Steady.refl s) _
  | sourceClearComplete => exact execSourceClearComplete_steady (Steady.refl s) _
  | checkpointVerified => exact execCheckpointVerified_steady (Steady.refl s) _
  | wearEpoch => exact execWearEpoch_steady (Steady.refl s)
  | wearCheckpointWriteback => exact execWearCheckpointWriteback_steady (Steady.refl s)
  | heatPeriod => exact execHeatPeriod_steady (Steady.refl s)
  | refreshVisit => exact execRefreshVisit_steady (Steady.refl s) _ _
  | rekeyRequest => exact execRekeyRequest_steady (Steady.refl s) _ _
  | rekeySpan => exact execRekeySpan_steady (Steady.refl s) _ _ _ _
  | reEstablishment => exact execReEstablishment_steady (Steady.refl s) _
  | debugWindowOpen => exact execDebugWindowOpen_steady (Steady.refl s) _ _ _ _
  | debugWindowClose => exact execDebugWindowClose_steady (Steady.refl s) _
  | debugWindowExpiry => exact execDebugWindowExpiry_steady (Steady.refl s) _
  | debugRead => exact execDebugRead_steady (Steady.refl s) _ _
  | rootDecisionAdopt => exact execRootDecisionAdopt_steady (Steady.refl s) _
  | rootDecisionReject => exact execRootDecisionReject_steady (Steady.refl s) _
  | scrubRewrite => exact execScrubRewrite_steady (Steady.refl s) _
  | rebuildStep => exact execRebuildStep_steady (Steady.refl s) _ _
  | scrubDpaPass => exact execScrubDpaPass_steady (Steady.refl s) _ _ _ _
  | scrubPhysicalPass => exact execScrubPhysicalPass_steady (Steady.refl s) _ _ _ _
  | scrubRow => exact execScrubRow_steady (Steady.refl s) _ _
  | scrubCancel => exact execScrubCancel_steady (Steady.refl s) _
  | patrolRow => exact execPatrolRow_steady (Steady.refl s) _ _ _
  | fullScanComplete => exact execFullScanComplete_steady (Steady.refl s) _ _
  | dataReady => exact execDataReady_steady (Steady.refl s)
  | suspectRelease => exact execSuspectRelease_steady (Steady.refl s) _ _ _
  | suspectDiscard => exact execSuspectDiscard_steady (Steady.refl s) _ _ _
  | suspectListRead => exact execSuspectListRead_steady (Steady.refl s) _
  | coxResetRelease => exact execCoxResetRelease_steady (Steady.refl s) _ _
  | managementReady => exact execManagementReady_steady (Steady.refl s)
  | watchdogExpiry => exact execWatchdogExpiry_steady (Steady.refl s)
  | orphanLimit => exact execOrphanLimit_steady (Steady.refl s)
  | flashProgramDone => exact execFlashProgramDone_steady (Steady.refl s) _
  | flashEraseDone => exact execFlashEraseDone_steady (Steady.refl s) _
  | flashSuspend => exact execFlashSuspend_steady (Steady.refl s)
  | flashResume => exact execFlashResume_steady (Steady.refl s)
  | journalCompaction => exact execJournalCompaction_steady (Steady.refl s)
  | optionsWrite => exact execOptionsWrite_steady (Steady.refl s) _ _ _ _ _ _
  | updateBegin => exact execUpdateBegin_steady (Steady.refl s) _ _
  | imageData => exact execImageData_steady (Steady.refl s) _ _
  | imageSegment => exact execImageSegment_steady (Steady.refl s) _ _
  | updateCommit => exact execUpdateCommit_steady (Steady.refl s) _ _ _
  | activate => exact execActivate_steady (Steady.refl s) _
  | trialConfirm => exact execTrialConfirm_steady (Steady.refl s)
  | pageWriteDone => exact execPageWriteDone_steady (Steady.refl s) _
  | operatingTimeCellWrite => exact execOperatingTimeCellWrite_steady (Steady.refl s)
  | blockProtectionWrite => exact execBlockProtectionWrite_steady (Steady.refl s) _
  | configObjectWrite => exact execConfigObjectWrite_steady (Steady.refl s) _ _ _ _
  | persistWriteDeferredDone => exact execPersistWriteDeferredDone_steady (Steady.refl s) _
  | noOperation => exact execNoOperation_steady (Steady.refl s) _
  | restoreDefaults => exact execRestoreDefaults_steady (Steady.refl s) _
  | sanitizeExtents => exact execSanitizeExtents_steady (Steady.refl s) _ _ _
  | logbookWriteOut => exact execLogbookWriteOut_steady (Steady.refl s) _
  | stagingLoss => exact execStagingLoss_steady (Steady.refl s)
  | windowRead => exact execWindowRead_steady (Steady.refl s) _
  | areaFClear => exact execAreaFClear_steady (Steady.refl s) _
  | snapshotDefinitionWrite => exact execSnapshotDefinitionWrite_steady (Steady.refl s) _ _ _ _
  | snapshotNow => exact execSnapshotNow_steady (Steady.refl s) _
  | snapshotPeriodic => exact execSnapshotPeriodic_steady (Steady.refl s) _
  | tallySample => exact execTallySample_steady (Steady.refl s)
  | bandwidthWindowEnd => exact execBandwidthWindowEnd_steady (Steady.refl s)
  | solicit => exact execSolicit_steady (Steady.refl s) _ _ _ _
  | advertiseAnswerTimer => exact execAdvertiseAnswerTimer_steady (Steady.refl s)
  | advertisePeriod => exact execAdvertisePeriod_steady (Steady.refl s)
  | advertise => exact execAdvertise_steady (Steady.refl s) _ _ _
  | openSession _ _ seq => exact execOpenSession_steady (Steady.refl s) _ _ seq _ _ _
  | close => exact execClose_steady (Steady.refl s) _ _ _
  | read => exact execRead_steady (Steady.refl s) _ _ _ _ _ _
  | write => exact execWrite_steady (Steady.refl s) _ _ _ _ _ _ _
  | readMulti => exact execReadMulti_steady (Steady.refl s) _ _ _ _ _
  | bulkStart => exact execBulkStart_steady (Steady.refl s) _ _ _ _ _ _ _ _
  | bulkData => exact execBulkData_steady (Steady.refl s) _ _ _ _ _
  | bulkAck => exact execBulkAck_steady (Steady.refl s) _ _ _ _
  | bulkOutOfOrderAck => exact execBulkOutOfOrderAck_steady (Steady.refl s) _
  | bulkTimeout => exact execBulkTimeout_steady (Steady.refl s) _
  | subscribe => exact execSubscribe_steady (Steady.refl s) _ _ _ _ _ _ _ _ _ _
  | subscriptionIntervalEnd => exact execSubscriptionIntervalEnd_steady (Steady.refl s) _ _
  | keepalive => exact execKeepalive_steady (Steady.refl s) _ _ _ _
  | strangerFrame => exact execStrangerFrame_steady (Steady.refl s) _
  | icmpv6Echo => exact execIcmpv6Echo_steady (Steady.refl s)
  | neighborDiscovery => exact execNeighborDiscovery_steady (Steady.refl s)
  | sessionOpenTimeout => exact execSessionOpenTimeout_steady (Steady.refl s) _
  | sessionIdleTimeout => exact execSessionIdleTimeout_steady (Steady.refl s) _
  | closeSession => exact execCloseSession_steady (Steady.refl s) _
  | roleKeyWrite => exact execRoleKeyWrite_steady (Steady.refl s) _ _ _
  | tagFailureSecond => exact execTagFailureSecond_steady (Steady.refl s)
  | poolAddressWrite => exact execPoolAddressWrite_steady (Steady.refl s) _
  | plcaModeWrite => exact execPlcaModeWrite_steady (Steady.refl s) _
  | plcaBeaconLoss => exact execPlcaBeaconLoss_steady (Steady.refl s)
  | plcaBeacon => exact execPlcaBeacon_steady (Steady.refl s)
  | t1sPathFailure check => exact execT1sPathFailure_steady (Steady.refl s) check
  | mailboxReplyExpiry => exact execMailboxReplyExpiry_steady (Steady.refl s) _
  | bankCharged => exact execBankCharged_steady (Steady.refl s)
  | haltNHigh => exact execHaltNHigh_steady (Steady.refl s)
  | rootRebuildComplete => exact execRootRebuildComplete_steady (Steady.refl s) _ _ _
  | eraseMinimumRunEnd => exact execEraseMinimumRunEnd_steady (Steady.refl s)

/-- What a step leaves true: the command's, or on an empty queue the millisecond's. -/
theorem step_steady (next : step s = .next t) : Steady s t := by
  unfold step at next
  split at next
  · cases next
    exact tick_steady (Steady.refl s)
  · next c rest _ =>
    have dequeued : Steady s (s.modPending fun _ => rest) := State.modPending_steady (Steady.refl s)
    exact dequeued.trans (exec_steady c _ t next)

end Sys2Proof.Machine

open Sys2Proof Sys2Proof.Machine

/-- Settles O56: a command completes, and its frame does not list the queue. -/
theorem everyCommandCompletes : Obligations.EveryCommandCompletes := by
  intro c s
  obtain ⟨t, next⟩ := exec_completes c s
  exact ⟨t, next, exec_pending next⟩

/-- Settles O57. -/
theorem everyCommandFrame : Obligations.EveryCommandFrame :=
  fun _ _ _ next => exec_frame next

/-- Settles O58: both are part of what a step leaves true. -/
theorem everyStepKeepsTheTables : Obligations.EveryStepKeepsTheTables := by
  intro s t next canonical bounded
  have steady := step_steady next
  exact ⟨steady.canonical canonical, steady.queue bounded⟩

/-- Settles O59. -/
theorem everyStepOnlyAdds : Obligations.EveryStepOnlyAdds := by
  intro s t next
  have steady := step_steady next
  exact ⟨steady.out, steady.free, steady.dirty⟩

end

section
/-! PROOFS. Reading the fields of a state after the operations of the machine: what each leaves alone. Each lemma of what an operation leaves alone
holds the equations that the proofs below read. -/

namespace Sys2Proof.Machine

/-! ## Groups that a set of fields leaves alone -/

/-- Two sets are disjoint: no field of one is in the other. -/
theorem testBit_of_disjoint {m g : Nat} (k : m &&& g = 0) {i : Nat} (h : g.testBit i = true) : m.testBit i = false := by
  have disjoint := congrArg (Nat.testBit · i) k
  simpa only [Nat.testBit_and, h, Bool.and_true, Nat.zero_testBit] using disjoint

theorem Keep.tim {m : Nat} {s t : State} (h : Keep m s t) (k : m &&& 0x7f = 0) : t.tim = s.tim := by
  have blank : ∀ x : TimeS, x.blank m = x := fun x => by simp (disch := decide) [TimeS.blank, testBit_of_disjoint k]
  have same := congrArg State.tim h
  rwa [State.mask, State.mask, blank, blank] at same

theorem Keep.obj {m : Nat} {s t : State} (h : Keep m s t) (k : m &&& 0xfff80 = 0) : t.obj = s.obj := by
  have blank : ∀ x : ObjS, x.blank m = x := fun x => by simp (disch := decide) [ObjS.blank, testBit_of_disjoint k]
  have same := congrArg State.obj h
  rwa [State.mask, State.mask, blank, blank] at same

theorem Keep.pwr {m : Nat} {s t : State} (h : Keep m s t) (k : m &&& 0xfffffffffff00000 = 0) : t.pwr = s.pwr := by
  have blank : ∀ x : PowerS, x.blank m = x := fun x => by simp (disch := decide) [PowerS.blank, testBit_of_disjoint k]
  have same := congrArg State.pwr h
  rwa [State.mask, State.mask, blank, blank] at same

theorem Keep.seat {m : Nat} {s t : State} (h : Keep m s t) (k : m &&& 0x1f0000000000000000 = 0) : t.seat = s.seat := by
  have blank : ∀ x : SeatBusS, x.blank m = x := fun x => by simp (disch := decide) [SeatBusS.blank, testBit_of_disjoint k]
  have same := congrArg State.seat h
  rwa [State.mask, State.mask, blank, blank] at same

theorem Keep.bank {m : Nat} {s t : State} (h : Keep m s t) (k : m &&& 0xffffe00000000000000000 = 0) : t.bank = s.bank := by
  have blank : ∀ x : BankS, x.blank m = x := fun x => by simp (disch := decide) [BankS.blank, testBit_of_disjoint k]
  have same := congrArg State.bank h
  rwa [State.mask, State.mask, blank, blank] at same

theorem Keep.thm {m : Nat} {s t : State} (h : Keep m s t) (k : m &&& 0x1f0000000000000000000000 = 0) : t.thm = s.thm := by
  have blank : ∀ x : ThermS, x.blank m = x := fun x => by simp (disch := decide) [ThermS.blank, testBit_of_disjoint k]
  have same := congrArg State.thm h
  rwa [State.mask, State.mask, blank, blank] at same

theorem Keep.hlt {m : Nat} {s t : State} (h : Keep m s t) (k : m &&& 0x3ffe00000000000000000000000 = 0) : t.hlt = s.hlt := by
  have blank : ∀ x : HealthS, x.blank m = x := fun x => by simp (disch := decide) [HealthS.blank, testBit_of_disjoint k]
  have same := congrArg State.hlt h
  rwa [State.mask, State.mask, blank, blank] at same

theorem Keep.hst {m : Nat} {s t : State} (h : Keep m s t) (k : m &&& 0x1c00000000000000000000000000 = 0) : t.hst = s.hst := by
  have blank : ∀ x : HostS, x.blank m = x := fun x => by simp (disch := decide) [HostS.blank, testBit_of_disjoint k]
  have same := congrArg State.hst h
  rwa [State.mask, State.mask, blank, blank] at same

theorem Keep.ext {m : Nat} {s t : State} (h : Keep m s t) (k : m &&& 0x7e000000000000000000000000000 = 0) : t.ext = s.ext := by
  have blank : ∀ x : ExtS, x.blank m = x := fun x => by simp (disch := decide) [ExtS.blank, testBit_of_disjoint k]
  have same := congrArg State.ext h
  rwa [State.mask, State.mask, blank, blank] at same

theorem Keep.rdp {m : Nat} {s t : State} (h : Keep m s t) (k : m &&& 0x780000000000000000000000000000 = 0) : t.rdp = s.rdp := by
  have blank : ∀ x : ReadPathS, x.blank m = x := fun x => by simp (disch := decide) [ReadPathS.blank, testBit_of_disjoint k]
  have same := congrArg State.rdp h
  rwa [State.mask, State.mask, blank, blank] at same

theorem Keep.wb {m : Nat} {s t : State} (h : Keep m s t) (k : m &&& 0xffffff800000000000000000000000000000 = 0) : t.wb = s.wb := by
  have blank : ∀ x : WbS, x.blank m = x := fun x => by simp (disch := decide) [WbS.blank, testBit_of_disjoint k]
  have same := congrArg State.wb h
  rwa [State.mask, State.mask, blank, blank] at same

theorem Keep.med {m : Nat} {s t : State} (h : Keep m s t) (k : m &&& 0x7ff000000000000000000000000000000000000 = 0) : t.med = s.med := by
  have blank : ∀ x : MediaS, x.blank m = x := fun x => by simp (disch := decide) [MediaS.blank, testBit_of_disjoint k]
  have same := congrArg State.med h
  rwa [State.mask, State.mask, blank, blank] at same

theorem Keep.trc {m : Nat} {s t : State} (h : Keep m s t) (k : m &&& 0x7ffffff800000000000000000000000000000000000000 = 0) : t.trc = s.trc := by
  have blank : ∀ x : TractS, x.blank m = x := fun x => by simp (disch := decide) [TractS.blank, testBit_of_disjoint k]
  have same := congrArg State.trc h
  rwa [State.mask, State.mask, blank, blank] at same

theorem Keep.itg {m : Nat} {s t : State} (h : Keep m s t) (k : m &&& 0x1fffff8000000000000000000000000000000000000000000000 = 0) : t.itg = s.itg := by
  have blank : ∀ x : IntegS, x.blank m = x := fun x => by simp (disch := decide) [IntegS.blank, testBit_of_disjoint k]
  have same := congrArg State.itg h
  rwa [State.mask, State.mask, blank, blank] at same

theorem Keep.scr {m : Nat} {s t : State} (h : Keep m s t) (k : m &&& 0x7fe000000000000000000000000000000000000000000000000000 = 0) : t.scr = s.scr := by
  have blank : ∀ x : ScrubS, x.blank m = x := fun x => by simp (disch := decide) [ScrubS.blank, testBit_of_disjoint k]
  have same := congrArg State.scr h
  rwa [State.mask, State.mask, blank, blank] at same

theorem Keep.stg {m : Nat} {s t : State} (h : Keep m s t) (k : m &&& 0xf800000000000000000000000000000000000000000000000000000 = 0) : t.stg = s.stg := by
  have blank : ∀ x : StagingS, x.blank m = x := fun x => by simp (disch := decide) [StagingS.blank, testBit_of_disjoint k]
  have same := congrArg State.stg h
  rwa [State.mask, State.mask, blank, blank] at same

theorem Keep.flt {m : Nat} {s t : State} (h : Keep m s t) (k : m &&& 0xffff0000000000000000000000000000000000000000000000000000000 = 0) : t.flt = s.flt := by
  have blank : ∀ x : FaultS, x.blank m = x := fun x => by simp (disch := decide) [FaultS.blank, testBit_of_disjoint k]
  have same := congrArg State.flt h
  rwa [State.mask, State.mask, blank, blank] at same

theorem Keep.easy {m : Nat} {s t : State} (h : Keep m s t) (k : m &&& 0x7f00000000000000000000000000000000000000000000000000000000000 = 0) : t.easy = s.easy := by
  have blank : ∀ x : EasyS, x.blank m = x := fun x => by simp (disch := decide) [EasyS.blank, testBit_of_disjoint k]
  have same := congrArg State.easy h
  rwa [State.mask, State.mask, blank, blank] at same

theorem Keep.str {m : Nat} {s t : State} (h : Keep m s t) (k : m &&& 0xfff8000000000000000000000000000000000000000000000000000000000000 = 0) : t.str = s.str := by
  have blank : ∀ x : StartS, x.blank m = x := fun x => by simp (disch := decide) [StartS.blank, testBit_of_disjoint k]
  have same := congrArg State.str h
  rwa [State.mask, State.mask, blank, blank] at same

theorem Keep.cox {m : Nat} {s t : State} (h : Keep m s t) (k : m &&& 0xfffff0000000000000000000000000000000000000000000000000000000000000000 = 0) : t.cox = s.cox := by
  have blank : ∀ x : CoxS, x.blank m = x := fun x => by simp (disch := decide) [CoxS.blank, testBit_of_disjoint k]
  have same := congrArg State.cox h
  rwa [State.mask, State.mask, blank, blank] at same

theorem Keep.fls {m : Nat} {s t : State} (h : Keep m s t) (k : m &&& 0xfff000000000000000000000000000000000000000000000000000000000000000000000 = 0) : t.fls = s.fls := by
  have blank : ∀ x : FlashS, x.blank m = x := fun x => by simp (disch := decide) [FlashS.blank, testBit_of_disjoint k]
  have same := congrArg State.fls h
  rwa [State.mask, State.mask, blank, blank] at same

theorem Keep.img {m : Nat} {s t : State} (h : Keep m s t) (k : m &&& 0xff000000000000000000000000000000000000000000000000000000000000000000000000 = 0) : t.img = s.img := by
  have blank : ∀ x : ImagesS, x.blank m = x := fun x => by simp (disch := decide) [ImagesS.blank, testBit_of_disjoint k]
  have same := congrArg State.img h
  rwa [State.mask, State.mask, blank, blank] at same

theorem Keep.par {m : Nat} {s t : State} (h : Keep m s t) (k : m &&& 0x7f00000000000000000000000000000000000000000000000000000000000000000000000000 = 0) : t.par = s.par := by
  have blank : ∀ x : ParamS, x.blank m = x := fun x => by simp (disch := decide) [ParamS.blank, testBit_of_disjoint k]
  have same := congrArg State.par h
  rwa [State.mask, State.mask, blank, blank] at same

theorem Keep.log {m : Nat} {s t : State} (h : Keep m s t) (k : m &&& 0xfff8000000000000000000000000000000000000000000000000000000000000000000000000000 = 0) : t.log = s.log := by
  have blank : ∀ x : LogS, x.blank m = x := fun x => by simp (disch := decide) [LogS.blank, testBit_of_disjoint k]
  have same := congrArg State.log h
  rwa [State.mask, State.mask, blank, blank] at same

theorem Keep.wop {m : Nat} {s t : State} (h : Keep m s t) (k : m &&& 0x3ff8000000000000000000000000000000000000000000000000000000000000000000000000000000000 = 0) : t.wop = s.wop := by
  have blank : ∀ x : WopS, x.blank m = x := fun x => by simp (disch := decide) [WopS.blank, testBit_of_disjoint k]
  have same := congrArg State.wop h
  rwa [State.mask, State.mask, blank, blank] at same

theorem Keep.out {m : Nat} {s t : State} (h : Keep m s t) (k : m.testBit 338 = false) : t.out = s.out := field_same h .out k

/-! ## What an accessor reads -/

/-- A link but for the pending bits of its vectors, which every MSI-X message may set (03 R86). -/
def State.coreLink (s : State) (h : Nat) : LinkS := { s.link h with msixPending := 0 }

theorem State.port_congr {s t : State} (e : t.hst.ports = s.hst.ports) : t.port = s.port := by
  funext h
  simp only [State.port, e]

theorem State.link_congr {s t : State} (e : t.hst.links = s.hst.links) : t.link = s.link := by
  funext h
  simp only [State.link, e]

theorem State.coreLink_congr {s t : State} (e : t.hst.links = s.hst.links) : t.coreLink = s.coreLink := by
  funext h
  unfold State.coreLink
  rw [State.link_congr e]

theorem State.linkUp_congr {s t : State} (e : t.hst.links = s.hst.links) : t.linkUp = s.linkUp := by
  funext h
  unfold State.linkUp
  rw [State.link_congr e]

theorem State.head_congr {s t : State} (e : t.hst.heads = s.hst.heads) : t.head = s.head := by
  funext h
  simp only [State.head, e]

theorem State.unit_congr {s t : State} (e : t.flt.units = s.flt.units) : t.unit = s.unit := by
  funext h
  simp only [State.unit, e]

theorem State.isOut_congr {s t : State} (e : t.flt.units = s.flt.units) : t.isOut = s.isOut := by
  funext h
  unfold State.isOut
  rw [State.unit_congr e]

theorem State.domain_congr {s t : State} (e : t.pwr.domains = s.pwr.domains) : t.domain = s.domain := by
  funext h
  simp only [State.domain, e]

theorem State.pair_congr {s t : State} (e : t.ext.pairs = s.ext.pairs) : t.pair = s.pair := by
  funext i h
  simp only [State.pair, e]

theorem State.extent_congr {s t : State} (e : t.ext.extents = s.ext.extents) : t.extent = s.extent := by
  funext h
  simp only [State.extent, e]

theorem State.region_congr {s t : State} (e : t.ext.regions = s.ext.regions) : t.region = s.region := by
  funext h
  simp only [State.region, e]

theorem State.plane_congr {s t : State} (e : t.med.planes = s.med.planes) : t.plane = s.plane := by
  funext h
  simp only [State.plane, e]

theorem State.channel_congr {s t : State} (e : t.med.channels = s.med.channels) : t.channel = s.channel := by
  funext h
  simp only [State.channel, e]

theorem State.seatOf_congr {s t : State} (e : t.seat.seats = s.seat.seats) : t.seatOf = s.seatOf := by
  funext h
  simp only [State.seatOf, e]

theorem State.rebuild_congr {s t : State} (e : t.scr.rebuilds = s.scr.rebuilds) : t.rebuild = s.rebuild := by
  funext h
  simp only [State.rebuild, e]

theorem State.session_congr {s t : State} (e : t.wop.sess = s.wop.sess) : t.session = s.session := by
  funext h
  simp only [State.session, e]

theorem State.slot_congr {s t : State} (e : t.obj.slots = s.obj.slots) : t.slot = s.slot := by
  funext h
  simp only [State.slot, e]

theorem State.cfg_congr {s t : State} (e : t.obj.vals = s.obj.vals) : t.cfg = s.cfg := by
  funext i m
  simp only [State.cfg, e]

theorem State.entry_congr {s t : State} (e : t.trc.map = s.trc.map) : t.entry = s.entry := by
  funext h
  simp only [State.entry, e]

theorem State.activity_congr {s t : State} (e : t.trc.act = s.trc.act) : t.activity = s.activity := by
  funext h
  simp only [State.activity, e]

theorem State.lineEnts_congr {s t : State} (e : t.wb.ents = s.wb.ents) : t.lineEnts = s.lineEnts := by
  funext h
  simp only [State.lineEnts, e]

theorem State.readOf_congr {s t : State} (e : t.rdp.reads = s.rdp.reads) : t.readOf = s.readOf := by
  funext h
  simp only [State.readOf, e]

theorem State.keelOn_congr {s t : State} (e : t.pwr.state = s.pwr.state) : t.keelOn = s.keelOn := by
  simp only [State.keelOn, e]

theorem State.coxUp_congr {s t : State} (e0 : t.cox.state = s.cox.state) (e1 : t.pwr.state = s.pwr.state) : t.coxUp = s.coxUp := by
  simp only [State.coxUp, State.keelOn, e0, e1]

theorem State.inService_congr {s t : State} (e : t.pwr.state = s.pwr.state) : t.inService = s.inService := by
  simp only [State.inService, e]

/-! ## What a group update leaves an accessor -/

@[simp] theorem State.modTim_keeps (f : TimeS → TimeS) (s : State) :
    (s.modTim f).port = s.port ∧ (s.modTim f).link = s.link ∧ (s.modTim f).coreLink = s.coreLink ∧ (s.modTim f).linkUp = s.linkUp ∧
    (s.modTim f).head = s.head ∧ (s.modTim f).unit = s.unit ∧ (s.modTim f).isOut = s.isOut ∧ (s.modTim f).domain = s.domain ∧
    (s.modTim f).domainOn = s.domainOn ∧ (s.modTim f).pair = s.pair ∧ (s.modTim f).extent = s.extent ∧
    (s.modTim f).region = s.region ∧ (s.modTim f).plane = s.plane ∧ (s.modTim f).die = s.die ∧ (s.modTim f).channel = s.channel ∧
    (s.modTim f).sram = s.sram ∧ (s.modTim f).seatOf = s.seatOf ∧ (s.modTim f).rebuild = s.rebuild ∧
    (s.modTim f).session = s.session ∧ (s.modTim f).slot = s.slot ∧ (s.modTim f).input = s.input ∧ (s.modTim f).source = s.source ∧
    (s.modTim f).cfg = s.cfg ∧ (s.modTim f).sel = s.sel ∧ (s.modTim f).entry = s.entry ∧ (s.modTim f).activity = s.activity ∧
    (s.modTim f).lineEnts = s.lineEnts ∧ (s.modTim f).readOf = s.readOf ∧ (s.modTim f).keelOn = s.keelOn ∧
    (s.modTim f).coxUp = s.coxUp ∧ (s.modTim f).inService = s.inService :=
  ⟨rfl, rfl, rfl, rfl, rfl, rfl, rfl, rfl, rfl, rfl, rfl, rfl, rfl, rfl, rfl, rfl, rfl, rfl, rfl, rfl, rfl, rfl, rfl, rfl, rfl, rfl,
    rfl, rfl, rfl, rfl, rfl⟩

@[simp] theorem State.modObj_keeps (f : ObjS → ObjS) (s : State) :
    (s.modObj f).port = s.port ∧ (s.modObj f).link = s.link ∧ (s.modObj f).coreLink = s.coreLink ∧ (s.modObj f).linkUp = s.linkUp ∧
    (s.modObj f).head = s.head ∧ (s.modObj f).unit = s.unit ∧ (s.modObj f).isOut = s.isOut ∧ (s.modObj f).domain = s.domain ∧
    (s.modObj f).domainOn = s.domainOn ∧ (s.modObj f).pair = s.pair ∧ (s.modObj f).extent = s.extent ∧
    (s.modObj f).region = s.region ∧ (s.modObj f).plane = s.plane ∧ (s.modObj f).die = s.die ∧ (s.modObj f).channel = s.channel ∧
    (s.modObj f).sram = s.sram ∧ (s.modObj f).seatOf = s.seatOf ∧ (s.modObj f).rebuild = s.rebuild ∧
    (s.modObj f).session = s.session ∧ (s.modObj f).input = s.input ∧ (s.modObj f).source = s.source ∧ (s.modObj f).entry = s.entry ∧
    (s.modObj f).activity = s.activity ∧ (s.modObj f).lineEnts = s.lineEnts ∧ (s.modObj f).readOf = s.readOf ∧
    (s.modObj f).keelOn = s.keelOn ∧ (s.modObj f).coxUp = s.coxUp ∧ (s.modObj f).inService = s.inService :=
  ⟨rfl, rfl, rfl, rfl, rfl, rfl, rfl, rfl, rfl, rfl, rfl, rfl, rfl, rfl, rfl, rfl, rfl, rfl, rfl, rfl, rfl, rfl, rfl, rfl, rfl, rfl,
    rfl, rfl⟩

@[simp] theorem State.modPwr_keeps (f : PowerS → PowerS) (s : State) :
    (s.modPwr f).port = s.port ∧ (s.modPwr f).link = s.link ∧ (s.modPwr f).coreLink = s.coreLink ∧ (s.modPwr f).linkUp = s.linkUp ∧
    (s.modPwr f).head = s.head ∧ (s.modPwr f).unit = s.unit ∧ (s.modPwr f).isOut = s.isOut ∧ (s.modPwr f).pair = s.pair ∧
    (s.modPwr f).extent = s.extent ∧ (s.modPwr f).region = s.region ∧ (s.modPwr f).plane = s.plane ∧ (s.modPwr f).die = s.die ∧
    (s.modPwr f).channel = s.channel ∧ (s.modPwr f).sram = s.sram ∧ (s.modPwr f).seatOf = s.seatOf ∧
    (s.modPwr f).rebuild = s.rebuild ∧ (s.modPwr f).session = s.session ∧ (s.modPwr f).slot = s.slot ∧ (s.modPwr f).input = s.input ∧
    (s.modPwr f).source = s.source ∧ (s.modPwr f).cfg = s.cfg ∧ (s.modPwr f).sel = s.sel ∧ (s.modPwr f).entry = s.entry ∧
    (s.modPwr f).activity = s.activity ∧ (s.modPwr f).lineEnts = s.lineEnts ∧ (s.modPwr f).readOf = s.readOf :=
  ⟨rfl, rfl, rfl, rfl, rfl, rfl, rfl, rfl, rfl, rfl, rfl, rfl, rfl, rfl, rfl, rfl, rfl, rfl, rfl, rfl, rfl, rfl, rfl, rfl, rfl, rfl⟩

@[simp] theorem State.modSeat_keeps (f : SeatBusS → SeatBusS) (s : State) :
    (s.modSeat f).port = s.port ∧ (s.modSeat f).link = s.link ∧ (s.modSeat f).coreLink = s.coreLink ∧
    (s.modSeat f).linkUp = s.linkUp ∧ (s.modSeat f).head = s.head ∧ (s.modSeat f).unit = s.unit ∧ (s.modSeat f).isOut = s.isOut ∧
    (s.modSeat f).domain = s.domain ∧ (s.modSeat f).domainOn = s.domainOn ∧ (s.modSeat f).pair = s.pair ∧
    (s.modSeat f).extent = s.extent ∧ (s.modSeat f).region = s.region ∧ (s.modSeat f).plane = s.plane ∧ (s.modSeat f).die = s.die ∧
    (s.modSeat f).channel = s.channel ∧ (s.modSeat f).sram = s.sram ∧ (s.modSeat f).rebuild = s.rebuild ∧
    (s.modSeat f).session = s.session ∧ (s.modSeat f).slot = s.slot ∧ (s.modSeat f).input = s.input ∧
    (s.modSeat f).source = s.source ∧ (s.modSeat f).cfg = s.cfg ∧ (s.modSeat f).sel = s.sel ∧ (s.modSeat f).entry = s.entry ∧
    (s.modSeat f).activity = s.activity ∧ (s.modSeat f).lineEnts = s.lineEnts ∧ (s.modSeat f).readOf = s.readOf ∧
    (s.modSeat f).keelOn = s.keelOn ∧ (s.modSeat f).coxUp = s.coxUp ∧ (s.modSeat f).inService = s.inService :=
  ⟨rfl, rfl, rfl, rfl, rfl, rfl, rfl, rfl, rfl, rfl, rfl, rfl, rfl, rfl, rfl, rfl, rfl, rfl, rfl, rfl, rfl, rfl, rfl, rfl, rfl, rfl,
    rfl, rfl, rfl, rfl⟩

@[simp] theorem State.modBank_keeps (f : BankS → BankS) (s : State) :
    (s.modBank f).port = s.port ∧ (s.modBank f).link = s.link ∧ (s.modBank f).coreLink = s.coreLink ∧
    (s.modBank f).linkUp = s.linkUp ∧ (s.modBank f).head = s.head ∧ (s.modBank f).unit = s.unit ∧ (s.modBank f).isOut = s.isOut ∧
    (s.modBank f).domain = s.domain ∧ (s.modBank f).domainOn = s.domainOn ∧ (s.modBank f).pair = s.pair ∧
    (s.modBank f).extent = s.extent ∧ (s.modBank f).region = s.region ∧ (s.modBank f).plane = s.plane ∧ (s.modBank f).die = s.die ∧
    (s.modBank f).channel = s.channel ∧ (s.modBank f).sram = s.sram ∧ (s.modBank f).seatOf = s.seatOf ∧
    (s.modBank f).rebuild = s.rebuild ∧ (s.modBank f).session = s.session ∧ (s.modBank f).slot = s.slot ∧
    (s.modBank f).input = s.input ∧ (s.modBank f).source = s.source ∧ (s.modBank f).cfg = s.cfg ∧ (s.modBank f).sel = s.sel ∧
    (s.modBank f).entry = s.entry ∧ (s.modBank f).activity = s.activity ∧ (s.modBank f).lineEnts = s.lineEnts ∧
    (s.modBank f).readOf = s.readOf ∧ (s.modBank f).keelOn = s.keelOn ∧ (s.modBank f).coxUp = s.coxUp ∧
    (s.modBank f).inService = s.inService :=
  ⟨rfl, rfl, rfl, rfl, rfl, rfl, rfl, rfl, rfl, rfl, rfl, rfl, rfl, rfl, rfl, rfl, rfl, rfl, rfl, rfl, rfl, rfl, rfl, rfl, rfl, rfl,
    rfl, rfl, rfl, rfl, rfl⟩

@[simp] theorem State.modThm_keeps (f : ThermS → ThermS) (s : State) :
    (s.modThm f).port = s.port ∧ (s.modThm f).link = s.link ∧ (s.modThm f).coreLink = s.coreLink ∧ (s.modThm f).linkUp = s.linkUp ∧
    (s.modThm f).head = s.head ∧ (s.modThm f).unit = s.unit ∧ (s.modThm f).isOut = s.isOut ∧ (s.modThm f).domain = s.domain ∧
    (s.modThm f).domainOn = s.domainOn ∧ (s.modThm f).pair = s.pair ∧ (s.modThm f).extent = s.extent ∧
    (s.modThm f).region = s.region ∧ (s.modThm f).plane = s.plane ∧ (s.modThm f).die = s.die ∧ (s.modThm f).channel = s.channel ∧
    (s.modThm f).sram = s.sram ∧ (s.modThm f).seatOf = s.seatOf ∧ (s.modThm f).rebuild = s.rebuild ∧
    (s.modThm f).session = s.session ∧ (s.modThm f).slot = s.slot ∧ (s.modThm f).source = s.source ∧ (s.modThm f).cfg = s.cfg ∧
    (s.modThm f).sel = s.sel ∧ (s.modThm f).entry = s.entry ∧ (s.modThm f).activity = s.activity ∧
    (s.modThm f).lineEnts = s.lineEnts ∧ (s.modThm f).readOf = s.readOf ∧ (s.modThm f).keelOn = s.keelOn ∧
    (s.modThm f).coxUp = s.coxUp ∧ (s.modThm f).inService = s.inService :=
  ⟨rfl, rfl, rfl, rfl, rfl, rfl, rfl, rfl, rfl, rfl, rfl, rfl, rfl, rfl, rfl, rfl, rfl, rfl, rfl, rfl, rfl, rfl, rfl, rfl, rfl, rfl,
    rfl, rfl, rfl, rfl⟩

@[simp] theorem State.modHlt_keeps (f : HealthS → HealthS) (s : State) :
    (s.modHlt f).port = s.port ∧ (s.modHlt f).link = s.link ∧ (s.modHlt f).coreLink = s.coreLink ∧ (s.modHlt f).linkUp = s.linkUp ∧
    (s.modHlt f).head = s.head ∧ (s.modHlt f).unit = s.unit ∧ (s.modHlt f).isOut = s.isOut ∧ (s.modHlt f).domain = s.domain ∧
    (s.modHlt f).domainOn = s.domainOn ∧ (s.modHlt f).pair = s.pair ∧ (s.modHlt f).extent = s.extent ∧
    (s.modHlt f).region = s.region ∧ (s.modHlt f).plane = s.plane ∧ (s.modHlt f).die = s.die ∧ (s.modHlt f).channel = s.channel ∧
    (s.modHlt f).sram = s.sram ∧ (s.modHlt f).seatOf = s.seatOf ∧ (s.modHlt f).rebuild = s.rebuild ∧
    (s.modHlt f).session = s.session ∧ (s.modHlt f).slot = s.slot ∧ (s.modHlt f).input = s.input ∧ (s.modHlt f).source = s.source ∧
    (s.modHlt f).cfg = s.cfg ∧ (s.modHlt f).sel = s.sel ∧ (s.modHlt f).entry = s.entry ∧ (s.modHlt f).activity = s.activity ∧
    (s.modHlt f).lineEnts = s.lineEnts ∧ (s.modHlt f).readOf = s.readOf ∧ (s.modHlt f).keelOn = s.keelOn ∧
    (s.modHlt f).coxUp = s.coxUp ∧ (s.modHlt f).inService = s.inService :=
  ⟨rfl, rfl, rfl, rfl, rfl, rfl, rfl, rfl, rfl, rfl, rfl, rfl, rfl, rfl, rfl, rfl, rfl, rfl, rfl, rfl, rfl, rfl, rfl, rfl, rfl, rfl,
    rfl, rfl, rfl, rfl, rfl⟩

@[simp] theorem State.modHst_keeps (f : HostS → HostS) (s : State) :
    (s.modHst f).unit = s.unit ∧ (s.modHst f).isOut = s.isOut ∧ (s.modHst f).domain = s.domain ∧ (s.modHst f).domainOn = s.domainOn ∧
    (s.modHst f).pair = s.pair ∧ (s.modHst f).extent = s.extent ∧ (s.modHst f).region = s.region ∧ (s.modHst f).plane = s.plane ∧
    (s.modHst f).die = s.die ∧ (s.modHst f).channel = s.channel ∧ (s.modHst f).sram = s.sram ∧ (s.modHst f).seatOf = s.seatOf ∧
    (s.modHst f).rebuild = s.rebuild ∧ (s.modHst f).session = s.session ∧ (s.modHst f).slot = s.slot ∧ (s.modHst f).input = s.input ∧
    (s.modHst f).source = s.source ∧ (s.modHst f).cfg = s.cfg ∧ (s.modHst f).sel = s.sel ∧ (s.modHst f).entry = s.entry ∧
    (s.modHst f).activity = s.activity ∧ (s.modHst f).lineEnts = s.lineEnts ∧ (s.modHst f).readOf = s.readOf ∧
    (s.modHst f).keelOn = s.keelOn ∧ (s.modHst f).coxUp = s.coxUp ∧ (s.modHst f).inService = s.inService :=
  ⟨rfl, rfl, rfl, rfl, rfl, rfl, rfl, rfl, rfl, rfl, rfl, rfl, rfl, rfl, rfl, rfl, rfl, rfl, rfl, rfl, rfl, rfl, rfl, rfl, rfl, rfl⟩

@[simp] theorem State.modExt_keeps (f : ExtS → ExtS) (s : State) :
    (s.modExt f).port = s.port ∧ (s.modExt f).link = s.link ∧ (s.modExt f).coreLink = s.coreLink ∧ (s.modExt f).linkUp = s.linkUp ∧
    (s.modExt f).head = s.head ∧ (s.modExt f).unit = s.unit ∧ (s.modExt f).isOut = s.isOut ∧ (s.modExt f).domain = s.domain ∧
    (s.modExt f).domainOn = s.domainOn ∧ (s.modExt f).plane = s.plane ∧ (s.modExt f).die = s.die ∧ (s.modExt f).channel = s.channel ∧
    (s.modExt f).sram = s.sram ∧ (s.modExt f).seatOf = s.seatOf ∧ (s.modExt f).rebuild = s.rebuild ∧
    (s.modExt f).session = s.session ∧ (s.modExt f).slot = s.slot ∧ (s.modExt f).input = s.input ∧ (s.modExt f).source = s.source ∧
    (s.modExt f).cfg = s.cfg ∧ (s.modExt f).sel = s.sel ∧ (s.modExt f).entry = s.entry ∧ (s.modExt f).activity = s.activity ∧
    (s.modExt f).lineEnts = s.lineEnts ∧ (s.modExt f).readOf = s.readOf ∧ (s.modExt f).keelOn = s.keelOn ∧
    (s.modExt f).coxUp = s.coxUp ∧ (s.modExt f).inService = s.inService :=
  ⟨rfl, rfl, rfl, rfl, rfl, rfl, rfl, rfl, rfl, rfl, rfl, rfl, rfl, rfl, rfl, rfl, rfl, rfl, rfl, rfl, rfl, rfl, rfl, rfl, rfl, rfl,
    rfl, rfl⟩

@[simp] theorem State.modRdp_keeps (f : ReadPathS → ReadPathS) (s : State) :
    (s.modRdp f).port = s.port ∧ (s.modRdp f).link = s.link ∧ (s.modRdp f).coreLink = s.coreLink ∧ (s.modRdp f).linkUp = s.linkUp ∧
    (s.modRdp f).head = s.head ∧ (s.modRdp f).unit = s.unit ∧ (s.modRdp f).isOut = s.isOut ∧ (s.modRdp f).domain = s.domain ∧
    (s.modRdp f).domainOn = s.domainOn ∧ (s.modRdp f).pair = s.pair ∧ (s.modRdp f).extent = s.extent ∧
    (s.modRdp f).region = s.region ∧ (s.modRdp f).plane = s.plane ∧ (s.modRdp f).die = s.die ∧ (s.modRdp f).channel = s.channel ∧
    (s.modRdp f).sram = s.sram ∧ (s.modRdp f).seatOf = s.seatOf ∧ (s.modRdp f).rebuild = s.rebuild ∧
    (s.modRdp f).session = s.session ∧ (s.modRdp f).slot = s.slot ∧ (s.modRdp f).input = s.input ∧ (s.modRdp f).source = s.source ∧
    (s.modRdp f).cfg = s.cfg ∧ (s.modRdp f).sel = s.sel ∧ (s.modRdp f).entry = s.entry ∧ (s.modRdp f).activity = s.activity ∧
    (s.modRdp f).lineEnts = s.lineEnts ∧ (s.modRdp f).keelOn = s.keelOn ∧ (s.modRdp f).coxUp = s.coxUp ∧
    (s.modRdp f).inService = s.inService :=
  ⟨rfl, rfl, rfl, rfl, rfl, rfl, rfl, rfl, rfl, rfl, rfl, rfl, rfl, rfl, rfl, rfl, rfl, rfl, rfl, rfl, rfl, rfl, rfl, rfl, rfl, rfl,
    rfl, rfl, rfl, rfl⟩

@[simp] theorem State.modWb_keeps (f : WbS → WbS) (s : State) :
    (s.modWb f).port = s.port ∧ (s.modWb f).link = s.link ∧ (s.modWb f).coreLink = s.coreLink ∧ (s.modWb f).linkUp = s.linkUp ∧
    (s.modWb f).head = s.head ∧ (s.modWb f).unit = s.unit ∧ (s.modWb f).isOut = s.isOut ∧ (s.modWb f).domain = s.domain ∧
    (s.modWb f).domainOn = s.domainOn ∧ (s.modWb f).pair = s.pair ∧ (s.modWb f).extent = s.extent ∧ (s.modWb f).region = s.region ∧
    (s.modWb f).plane = s.plane ∧ (s.modWb f).die = s.die ∧ (s.modWb f).channel = s.channel ∧ (s.modWb f).sram = s.sram ∧
    (s.modWb f).seatOf = s.seatOf ∧ (s.modWb f).rebuild = s.rebuild ∧ (s.modWb f).session = s.session ∧ (s.modWb f).slot = s.slot ∧
    (s.modWb f).input = s.input ∧ (s.modWb f).source = s.source ∧ (s.modWb f).cfg = s.cfg ∧ (s.modWb f).sel = s.sel ∧
    (s.modWb f).entry = s.entry ∧ (s.modWb f).activity = s.activity ∧ (s.modWb f).readOf = s.readOf ∧ (s.modWb f).keelOn = s.keelOn ∧
    (s.modWb f).coxUp = s.coxUp ∧ (s.modWb f).inService = s.inService :=
  ⟨rfl, rfl, rfl, rfl, rfl, rfl, rfl, rfl, rfl, rfl, rfl, rfl, rfl, rfl, rfl, rfl, rfl, rfl, rfl, rfl, rfl, rfl, rfl, rfl, rfl, rfl,
    rfl, rfl, rfl, rfl⟩

@[simp] theorem State.modMed_keeps (f : MediaS → MediaS) (s : State) :
    (s.modMed f).port = s.port ∧ (s.modMed f).link = s.link ∧ (s.modMed f).coreLink = s.coreLink ∧ (s.modMed f).linkUp = s.linkUp ∧
    (s.modMed f).head = s.head ∧ (s.modMed f).unit = s.unit ∧ (s.modMed f).isOut = s.isOut ∧ (s.modMed f).domain = s.domain ∧
    (s.modMed f).domainOn = s.domainOn ∧ (s.modMed f).pair = s.pair ∧ (s.modMed f).extent = s.extent ∧
    (s.modMed f).region = s.region ∧ (s.modMed f).sram = s.sram ∧ (s.modMed f).seatOf = s.seatOf ∧ (s.modMed f).rebuild = s.rebuild ∧
    (s.modMed f).session = s.session ∧ (s.modMed f).slot = s.slot ∧ (s.modMed f).input = s.input ∧ (s.modMed f).source = s.source ∧
    (s.modMed f).cfg = s.cfg ∧ (s.modMed f).sel = s.sel ∧ (s.modMed f).entry = s.entry ∧ (s.modMed f).activity = s.activity ∧
    (s.modMed f).lineEnts = s.lineEnts ∧ (s.modMed f).readOf = s.readOf ∧ (s.modMed f).keelOn = s.keelOn ∧
    (s.modMed f).coxUp = s.coxUp ∧ (s.modMed f).inService = s.inService :=
  ⟨rfl, rfl, rfl, rfl, rfl, rfl, rfl, rfl, rfl, rfl, rfl, rfl, rfl, rfl, rfl, rfl, rfl, rfl, rfl, rfl, rfl, rfl, rfl, rfl, rfl, rfl,
    rfl, rfl⟩

@[simp] theorem State.modTrc_keeps (f : TractS → TractS) (s : State) :
    (s.modTrc f).port = s.port ∧ (s.modTrc f).link = s.link ∧ (s.modTrc f).coreLink = s.coreLink ∧ (s.modTrc f).linkUp = s.linkUp ∧
    (s.modTrc f).head = s.head ∧ (s.modTrc f).unit = s.unit ∧ (s.modTrc f).isOut = s.isOut ∧ (s.modTrc f).domain = s.domain ∧
    (s.modTrc f).domainOn = s.domainOn ∧ (s.modTrc f).pair = s.pair ∧ (s.modTrc f).extent = s.extent ∧
    (s.modTrc f).region = s.region ∧ (s.modTrc f).plane = s.plane ∧ (s.modTrc f).die = s.die ∧ (s.modTrc f).channel = s.channel ∧
    (s.modTrc f).sram = s.sram ∧ (s.modTrc f).seatOf = s.seatOf ∧ (s.modTrc f).rebuild = s.rebuild ∧
    (s.modTrc f).session = s.session ∧ (s.modTrc f).slot = s.slot ∧ (s.modTrc f).input = s.input ∧ (s.modTrc f).source = s.source ∧
    (s.modTrc f).cfg = s.cfg ∧ (s.modTrc f).sel = s.sel ∧ (s.modTrc f).lineEnts = s.lineEnts ∧ (s.modTrc f).readOf = s.readOf ∧
    (s.modTrc f).keelOn = s.keelOn ∧ (s.modTrc f).coxUp = s.coxUp ∧ (s.modTrc f).inService = s.inService :=
  ⟨rfl, rfl, rfl, rfl, rfl, rfl, rfl, rfl, rfl, rfl, rfl, rfl, rfl, rfl, rfl, rfl, rfl, rfl, rfl, rfl, rfl, rfl, rfl, rfl, rfl, rfl,
    rfl, rfl, rfl⟩

@[simp] theorem State.modItg_keeps (f : IntegS → IntegS) (s : State) :
    (s.modItg f).port = s.port ∧ (s.modItg f).link = s.link ∧ (s.modItg f).coreLink = s.coreLink ∧ (s.modItg f).linkUp = s.linkUp ∧
    (s.modItg f).head = s.head ∧ (s.modItg f).unit = s.unit ∧ (s.modItg f).isOut = s.isOut ∧ (s.modItg f).domain = s.domain ∧
    (s.modItg f).domainOn = s.domainOn ∧ (s.modItg f).pair = s.pair ∧ (s.modItg f).extent = s.extent ∧
    (s.modItg f).region = s.region ∧ (s.modItg f).plane = s.plane ∧ (s.modItg f).die = s.die ∧ (s.modItg f).channel = s.channel ∧
    (s.modItg f).sram = s.sram ∧ (s.modItg f).seatOf = s.seatOf ∧ (s.modItg f).rebuild = s.rebuild ∧
    (s.modItg f).session = s.session ∧ (s.modItg f).slot = s.slot ∧ (s.modItg f).input = s.input ∧ (s.modItg f).source = s.source ∧
    (s.modItg f).cfg = s.cfg ∧ (s.modItg f).sel = s.sel ∧ (s.modItg f).entry = s.entry ∧ (s.modItg f).activity = s.activity ∧
    (s.modItg f).lineEnts = s.lineEnts ∧ (s.modItg f).readOf = s.readOf ∧ (s.modItg f).keelOn = s.keelOn ∧
    (s.modItg f).coxUp = s.coxUp ∧ (s.modItg f).inService = s.inService :=
  ⟨rfl, rfl, rfl, rfl, rfl, rfl, rfl, rfl, rfl, rfl, rfl, rfl, rfl, rfl, rfl, rfl, rfl, rfl, rfl, rfl, rfl, rfl, rfl, rfl, rfl, rfl,
    rfl, rfl, rfl, rfl, rfl⟩

@[simp] theorem State.modScr_keeps (f : ScrubS → ScrubS) (s : State) :
    (s.modScr f).port = s.port ∧ (s.modScr f).link = s.link ∧ (s.modScr f).coreLink = s.coreLink ∧ (s.modScr f).linkUp = s.linkUp ∧
    (s.modScr f).head = s.head ∧ (s.modScr f).unit = s.unit ∧ (s.modScr f).isOut = s.isOut ∧ (s.modScr f).domain = s.domain ∧
    (s.modScr f).domainOn = s.domainOn ∧ (s.modScr f).pair = s.pair ∧ (s.modScr f).extent = s.extent ∧
    (s.modScr f).region = s.region ∧ (s.modScr f).plane = s.plane ∧ (s.modScr f).die = s.die ∧ (s.modScr f).channel = s.channel ∧
    (s.modScr f).sram = s.sram ∧ (s.modScr f).seatOf = s.seatOf ∧ (s.modScr f).session = s.session ∧ (s.modScr f).slot = s.slot ∧
    (s.modScr f).input = s.input ∧ (s.modScr f).source = s.source ∧ (s.modScr f).cfg = s.cfg ∧ (s.modScr f).sel = s.sel ∧
    (s.modScr f).entry = s.entry ∧ (s.modScr f).activity = s.activity ∧ (s.modScr f).lineEnts = s.lineEnts ∧
    (s.modScr f).readOf = s.readOf ∧ (s.modScr f).keelOn = s.keelOn ∧ (s.modScr f).coxUp = s.coxUp ∧
    (s.modScr f).inService = s.inService :=
  ⟨rfl, rfl, rfl, rfl, rfl, rfl, rfl, rfl, rfl, rfl, rfl, rfl, rfl, rfl, rfl, rfl, rfl, rfl, rfl, rfl, rfl, rfl, rfl, rfl, rfl, rfl,
    rfl, rfl, rfl, rfl⟩

@[simp] theorem State.modStg_keeps (f : StagingS → StagingS) (s : State) :
    (s.modStg f).port = s.port ∧ (s.modStg f).link = s.link ∧ (s.modStg f).coreLink = s.coreLink ∧ (s.modStg f).linkUp = s.linkUp ∧
    (s.modStg f).head = s.head ∧ (s.modStg f).unit = s.unit ∧ (s.modStg f).isOut = s.isOut ∧ (s.modStg f).domain = s.domain ∧
    (s.modStg f).domainOn = s.domainOn ∧ (s.modStg f).pair = s.pair ∧ (s.modStg f).extent = s.extent ∧
    (s.modStg f).region = s.region ∧ (s.modStg f).plane = s.plane ∧ (s.modStg f).die = s.die ∧ (s.modStg f).channel = s.channel ∧
    (s.modStg f).seatOf = s.seatOf ∧ (s.modStg f).rebuild = s.rebuild ∧ (s.modStg f).session = s.session ∧
    (s.modStg f).slot = s.slot ∧ (s.modStg f).input = s.input ∧ (s.modStg f).source = s.source ∧ (s.modStg f).cfg = s.cfg ∧
    (s.modStg f).sel = s.sel ∧ (s.modStg f).entry = s.entry ∧ (s.modStg f).activity = s.activity ∧
    (s.modStg f).lineEnts = s.lineEnts ∧ (s.modStg f).readOf = s.readOf ∧ (s.modStg f).keelOn = s.keelOn ∧
    (s.modStg f).coxUp = s.coxUp ∧ (s.modStg f).inService = s.inService :=
  ⟨rfl, rfl, rfl, rfl, rfl, rfl, rfl, rfl, rfl, rfl, rfl, rfl, rfl, rfl, rfl, rfl, rfl, rfl, rfl, rfl, rfl, rfl, rfl, rfl, rfl, rfl,
    rfl, rfl, rfl, rfl⟩

@[simp] theorem State.modFlt_keeps (f : FaultS → FaultS) (s : State) :
    (s.modFlt f).port = s.port ∧ (s.modFlt f).link = s.link ∧ (s.modFlt f).coreLink = s.coreLink ∧ (s.modFlt f).linkUp = s.linkUp ∧
    (s.modFlt f).head = s.head ∧ (s.modFlt f).domain = s.domain ∧ (s.modFlt f).domainOn = s.domainOn ∧ (s.modFlt f).pair = s.pair ∧
    (s.modFlt f).extent = s.extent ∧ (s.modFlt f).region = s.region ∧ (s.modFlt f).plane = s.plane ∧ (s.modFlt f).die = s.die ∧
    (s.modFlt f).channel = s.channel ∧ (s.modFlt f).sram = s.sram ∧ (s.modFlt f).seatOf = s.seatOf ∧
    (s.modFlt f).rebuild = s.rebuild ∧ (s.modFlt f).session = s.session ∧ (s.modFlt f).slot = s.slot ∧ (s.modFlt f).input = s.input ∧
    (s.modFlt f).cfg = s.cfg ∧ (s.modFlt f).sel = s.sel ∧ (s.modFlt f).entry = s.entry ∧ (s.modFlt f).activity = s.activity ∧
    (s.modFlt f).lineEnts = s.lineEnts ∧ (s.modFlt f).readOf = s.readOf ∧ (s.modFlt f).keelOn = s.keelOn ∧
    (s.modFlt f).coxUp = s.coxUp ∧ (s.modFlt f).inService = s.inService :=
  ⟨rfl, rfl, rfl, rfl, rfl, rfl, rfl, rfl, rfl, rfl, rfl, rfl, rfl, rfl, rfl, rfl, rfl, rfl, rfl, rfl, rfl, rfl, rfl, rfl, rfl, rfl,
    rfl, rfl⟩

@[simp] theorem State.modEasy_keeps (f : EasyS → EasyS) (s : State) :
    (s.modEasy f).port = s.port ∧ (s.modEasy f).link = s.link ∧ (s.modEasy f).coreLink = s.coreLink ∧
    (s.modEasy f).linkUp = s.linkUp ∧ (s.modEasy f).head = s.head ∧ (s.modEasy f).unit = s.unit ∧ (s.modEasy f).isOut = s.isOut ∧
    (s.modEasy f).domain = s.domain ∧ (s.modEasy f).domainOn = s.domainOn ∧ (s.modEasy f).pair = s.pair ∧
    (s.modEasy f).extent = s.extent ∧ (s.modEasy f).region = s.region ∧ (s.modEasy f).plane = s.plane ∧ (s.modEasy f).die = s.die ∧
    (s.modEasy f).channel = s.channel ∧ (s.modEasy f).sram = s.sram ∧ (s.modEasy f).seatOf = s.seatOf ∧
    (s.modEasy f).rebuild = s.rebuild ∧ (s.modEasy f).session = s.session ∧ (s.modEasy f).slot = s.slot ∧
    (s.modEasy f).input = s.input ∧ (s.modEasy f).source = s.source ∧ (s.modEasy f).cfg = s.cfg ∧ (s.modEasy f).sel = s.sel ∧
    (s.modEasy f).entry = s.entry ∧ (s.modEasy f).activity = s.activity ∧ (s.modEasy f).lineEnts = s.lineEnts ∧
    (s.modEasy f).readOf = s.readOf ∧ (s.modEasy f).keelOn = s.keelOn ∧ (s.modEasy f).coxUp = s.coxUp ∧
    (s.modEasy f).inService = s.inService :=
  ⟨rfl, rfl, rfl, rfl, rfl, rfl, rfl, rfl, rfl, rfl, rfl, rfl, rfl, rfl, rfl, rfl, rfl, rfl, rfl, rfl, rfl, rfl, rfl, rfl, rfl, rfl,
    rfl, rfl, rfl, rfl, rfl⟩

@[simp] theorem State.modStr_keeps (f : StartS → StartS) (s : State) :
    (s.modStr f).port = s.port ∧ (s.modStr f).link = s.link ∧ (s.modStr f).coreLink = s.coreLink ∧ (s.modStr f).linkUp = s.linkUp ∧
    (s.modStr f).head = s.head ∧ (s.modStr f).unit = s.unit ∧ (s.modStr f).isOut = s.isOut ∧ (s.modStr f).domain = s.domain ∧
    (s.modStr f).domainOn = s.domainOn ∧ (s.modStr f).pair = s.pair ∧ (s.modStr f).extent = s.extent ∧
    (s.modStr f).region = s.region ∧ (s.modStr f).plane = s.plane ∧ (s.modStr f).die = s.die ∧ (s.modStr f).channel = s.channel ∧
    (s.modStr f).sram = s.sram ∧ (s.modStr f).seatOf = s.seatOf ∧ (s.modStr f).rebuild = s.rebuild ∧
    (s.modStr f).session = s.session ∧ (s.modStr f).slot = s.slot ∧ (s.modStr f).input = s.input ∧ (s.modStr f).source = s.source ∧
    (s.modStr f).cfg = s.cfg ∧ (s.modStr f).sel = s.sel ∧ (s.modStr f).entry = s.entry ∧ (s.modStr f).activity = s.activity ∧
    (s.modStr f).lineEnts = s.lineEnts ∧ (s.modStr f).readOf = s.readOf ∧ (s.modStr f).keelOn = s.keelOn ∧
    (s.modStr f).coxUp = s.coxUp ∧ (s.modStr f).inService = s.inService :=
  ⟨rfl, rfl, rfl, rfl, rfl, rfl, rfl, rfl, rfl, rfl, rfl, rfl, rfl, rfl, rfl, rfl, rfl, rfl, rfl, rfl, rfl, rfl, rfl, rfl, rfl, rfl,
    rfl, rfl, rfl, rfl, rfl⟩

@[simp] theorem State.modCox_keeps (f : CoxS → CoxS) (s : State) :
    (s.modCox f).port = s.port ∧ (s.modCox f).link = s.link ∧ (s.modCox f).coreLink = s.coreLink ∧ (s.modCox f).linkUp = s.linkUp ∧
    (s.modCox f).head = s.head ∧ (s.modCox f).unit = s.unit ∧ (s.modCox f).isOut = s.isOut ∧ (s.modCox f).domain = s.domain ∧
    (s.modCox f).domainOn = s.domainOn ∧ (s.modCox f).pair = s.pair ∧ (s.modCox f).extent = s.extent ∧
    (s.modCox f).region = s.region ∧ (s.modCox f).plane = s.plane ∧ (s.modCox f).die = s.die ∧ (s.modCox f).channel = s.channel ∧
    (s.modCox f).sram = s.sram ∧ (s.modCox f).seatOf = s.seatOf ∧ (s.modCox f).rebuild = s.rebuild ∧
    (s.modCox f).session = s.session ∧ (s.modCox f).slot = s.slot ∧ (s.modCox f).input = s.input ∧ (s.modCox f).source = s.source ∧
    (s.modCox f).cfg = s.cfg ∧ (s.modCox f).sel = s.sel ∧ (s.modCox f).entry = s.entry ∧ (s.modCox f).activity = s.activity ∧
    (s.modCox f).lineEnts = s.lineEnts ∧ (s.modCox f).readOf = s.readOf ∧ (s.modCox f).keelOn = s.keelOn ∧
    (s.modCox f).inService = s.inService :=
  ⟨rfl, rfl, rfl, rfl, rfl, rfl, rfl, rfl, rfl, rfl, rfl, rfl, rfl, rfl, rfl, rfl, rfl, rfl, rfl, rfl, rfl, rfl, rfl, rfl, rfl, rfl,
    rfl, rfl, rfl, rfl⟩

@[simp] theorem State.modFls_keeps (f : FlashS → FlashS) (s : State) :
    (s.modFls f).port = s.port ∧ (s.modFls f).link = s.link ∧ (s.modFls f).coreLink = s.coreLink ∧ (s.modFls f).linkUp = s.linkUp ∧
    (s.modFls f).head = s.head ∧ (s.modFls f).unit = s.unit ∧ (s.modFls f).isOut = s.isOut ∧ (s.modFls f).domain = s.domain ∧
    (s.modFls f).domainOn = s.domainOn ∧ (s.modFls f).pair = s.pair ∧ (s.modFls f).extent = s.extent ∧
    (s.modFls f).region = s.region ∧ (s.modFls f).plane = s.plane ∧ (s.modFls f).die = s.die ∧ (s.modFls f).channel = s.channel ∧
    (s.modFls f).sram = s.sram ∧ (s.modFls f).seatOf = s.seatOf ∧ (s.modFls f).rebuild = s.rebuild ∧
    (s.modFls f).session = s.session ∧ (s.modFls f).slot = s.slot ∧ (s.modFls f).input = s.input ∧ (s.modFls f).source = s.source ∧
    (s.modFls f).cfg = s.cfg ∧ (s.modFls f).sel = s.sel ∧ (s.modFls f).entry = s.entry ∧ (s.modFls f).activity = s.activity ∧
    (s.modFls f).lineEnts = s.lineEnts ∧ (s.modFls f).readOf = s.readOf ∧ (s.modFls f).keelOn = s.keelOn ∧
    (s.modFls f).coxUp = s.coxUp ∧ (s.modFls f).inService = s.inService :=
  ⟨rfl, rfl, rfl, rfl, rfl, rfl, rfl, rfl, rfl, rfl, rfl, rfl, rfl, rfl, rfl, rfl, rfl, rfl, rfl, rfl, rfl, rfl, rfl, rfl, rfl, rfl,
    rfl, rfl, rfl, rfl, rfl⟩

@[simp] theorem State.modImg_keeps (f : ImagesS → ImagesS) (s : State) :
    (s.modImg f).port = s.port ∧ (s.modImg f).link = s.link ∧ (s.modImg f).coreLink = s.coreLink ∧ (s.modImg f).linkUp = s.linkUp ∧
    (s.modImg f).head = s.head ∧ (s.modImg f).unit = s.unit ∧ (s.modImg f).isOut = s.isOut ∧ (s.modImg f).domain = s.domain ∧
    (s.modImg f).domainOn = s.domainOn ∧ (s.modImg f).pair = s.pair ∧ (s.modImg f).extent = s.extent ∧
    (s.modImg f).region = s.region ∧ (s.modImg f).plane = s.plane ∧ (s.modImg f).die = s.die ∧ (s.modImg f).channel = s.channel ∧
    (s.modImg f).sram = s.sram ∧ (s.modImg f).seatOf = s.seatOf ∧ (s.modImg f).rebuild = s.rebuild ∧
    (s.modImg f).session = s.session ∧ (s.modImg f).slot = s.slot ∧ (s.modImg f).input = s.input ∧ (s.modImg f).source = s.source ∧
    (s.modImg f).cfg = s.cfg ∧ (s.modImg f).sel = s.sel ∧ (s.modImg f).entry = s.entry ∧ (s.modImg f).activity = s.activity ∧
    (s.modImg f).lineEnts = s.lineEnts ∧ (s.modImg f).readOf = s.readOf ∧ (s.modImg f).keelOn = s.keelOn ∧
    (s.modImg f).coxUp = s.coxUp ∧ (s.modImg f).inService = s.inService :=
  ⟨rfl, rfl, rfl, rfl, rfl, rfl, rfl, rfl, rfl, rfl, rfl, rfl, rfl, rfl, rfl, rfl, rfl, rfl, rfl, rfl, rfl, rfl, rfl, rfl, rfl, rfl,
    rfl, rfl, rfl, rfl, rfl⟩

@[simp] theorem State.modPar_keeps (f : ParamS → ParamS) (s : State) :
    (s.modPar f).port = s.port ∧ (s.modPar f).link = s.link ∧ (s.modPar f).coreLink = s.coreLink ∧ (s.modPar f).linkUp = s.linkUp ∧
    (s.modPar f).head = s.head ∧ (s.modPar f).unit = s.unit ∧ (s.modPar f).isOut = s.isOut ∧ (s.modPar f).domain = s.domain ∧
    (s.modPar f).domainOn = s.domainOn ∧ (s.modPar f).pair = s.pair ∧ (s.modPar f).extent = s.extent ∧
    (s.modPar f).region = s.region ∧ (s.modPar f).plane = s.plane ∧ (s.modPar f).die = s.die ∧ (s.modPar f).channel = s.channel ∧
    (s.modPar f).sram = s.sram ∧ (s.modPar f).seatOf = s.seatOf ∧ (s.modPar f).rebuild = s.rebuild ∧
    (s.modPar f).session = s.session ∧ (s.modPar f).slot = s.slot ∧ (s.modPar f).input = s.input ∧ (s.modPar f).source = s.source ∧
    (s.modPar f).cfg = s.cfg ∧ (s.modPar f).sel = s.sel ∧ (s.modPar f).entry = s.entry ∧ (s.modPar f).activity = s.activity ∧
    (s.modPar f).lineEnts = s.lineEnts ∧ (s.modPar f).readOf = s.readOf ∧ (s.modPar f).keelOn = s.keelOn ∧
    (s.modPar f).coxUp = s.coxUp ∧ (s.modPar f).inService = s.inService :=
  ⟨rfl, rfl, rfl, rfl, rfl, rfl, rfl, rfl, rfl, rfl, rfl, rfl, rfl, rfl, rfl, rfl, rfl, rfl, rfl, rfl, rfl, rfl, rfl, rfl, rfl, rfl,
    rfl, rfl, rfl, rfl, rfl⟩

@[simp] theorem State.modLog_keeps (f : LogS → LogS) (s : State) :
    (s.modLog f).port = s.port ∧ (s.modLog f).link = s.link ∧ (s.modLog f).coreLink = s.coreLink ∧ (s.modLog f).linkUp = s.linkUp ∧
    (s.modLog f).head = s.head ∧ (s.modLog f).unit = s.unit ∧ (s.modLog f).isOut = s.isOut ∧ (s.modLog f).domain = s.domain ∧
    (s.modLog f).domainOn = s.domainOn ∧ (s.modLog f).pair = s.pair ∧ (s.modLog f).extent = s.extent ∧
    (s.modLog f).region = s.region ∧ (s.modLog f).plane = s.plane ∧ (s.modLog f).die = s.die ∧ (s.modLog f).channel = s.channel ∧
    (s.modLog f).sram = s.sram ∧ (s.modLog f).seatOf = s.seatOf ∧ (s.modLog f).rebuild = s.rebuild ∧
    (s.modLog f).session = s.session ∧ (s.modLog f).slot = s.slot ∧ (s.modLog f).input = s.input ∧ (s.modLog f).source = s.source ∧
    (s.modLog f).cfg = s.cfg ∧ (s.modLog f).sel = s.sel ∧ (s.modLog f).entry = s.entry ∧ (s.modLog f).activity = s.activity ∧
    (s.modLog f).lineEnts = s.lineEnts ∧ (s.modLog f).readOf = s.readOf ∧ (s.modLog f).keelOn = s.keelOn ∧
    (s.modLog f).coxUp = s.coxUp ∧ (s.modLog f).inService = s.inService :=
  ⟨rfl, rfl, rfl, rfl, rfl, rfl, rfl, rfl, rfl, rfl, rfl, rfl, rfl, rfl, rfl, rfl, rfl, rfl, rfl, rfl, rfl, rfl, rfl, rfl, rfl, rfl,
    rfl, rfl, rfl, rfl, rfl⟩

@[simp] theorem State.modTly_keeps (f : TallyS → TallyS) (s : State) :
    (s.modTly f).port = s.port ∧ (s.modTly f).link = s.link ∧ (s.modTly f).coreLink = s.coreLink ∧ (s.modTly f).linkUp = s.linkUp ∧
    (s.modTly f).head = s.head ∧ (s.modTly f).unit = s.unit ∧ (s.modTly f).isOut = s.isOut ∧ (s.modTly f).domain = s.domain ∧
    (s.modTly f).domainOn = s.domainOn ∧ (s.modTly f).pair = s.pair ∧ (s.modTly f).extent = s.extent ∧
    (s.modTly f).region = s.region ∧ (s.modTly f).plane = s.plane ∧ (s.modTly f).die = s.die ∧ (s.modTly f).channel = s.channel ∧
    (s.modTly f).sram = s.sram ∧ (s.modTly f).seatOf = s.seatOf ∧ (s.modTly f).rebuild = s.rebuild ∧
    (s.modTly f).session = s.session ∧ (s.modTly f).slot = s.slot ∧ (s.modTly f).input = s.input ∧ (s.modTly f).source = s.source ∧
    (s.modTly f).cfg = s.cfg ∧ (s.modTly f).sel = s.sel ∧ (s.modTly f).entry = s.entry ∧ (s.modTly f).activity = s.activity ∧
    (s.modTly f).lineEnts = s.lineEnts ∧ (s.modTly f).readOf = s.readOf ∧ (s.modTly f).keelOn = s.keelOn ∧
    (s.modTly f).coxUp = s.coxUp ∧ (s.modTly f).inService = s.inService :=
  ⟨rfl, rfl, rfl, rfl, rfl, rfl, rfl, rfl, rfl, rfl, rfl, rfl, rfl, rfl, rfl, rfl, rfl, rfl, rfl, rfl, rfl, rfl, rfl, rfl, rfl, rfl,
    rfl, rfl, rfl, rfl, rfl⟩

@[simp] theorem State.modWop_keeps (f : WopS → WopS) (s : State) :
    (s.modWop f).port = s.port ∧ (s.modWop f).link = s.link ∧ (s.modWop f).coreLink = s.coreLink ∧ (s.modWop f).linkUp = s.linkUp ∧
    (s.modWop f).head = s.head ∧ (s.modWop f).unit = s.unit ∧ (s.modWop f).isOut = s.isOut ∧ (s.modWop f).domain = s.domain ∧
    (s.modWop f).domainOn = s.domainOn ∧ (s.modWop f).pair = s.pair ∧ (s.modWop f).extent = s.extent ∧
    (s.modWop f).region = s.region ∧ (s.modWop f).plane = s.plane ∧ (s.modWop f).die = s.die ∧ (s.modWop f).channel = s.channel ∧
    (s.modWop f).sram = s.sram ∧ (s.modWop f).seatOf = s.seatOf ∧ (s.modWop f).rebuild = s.rebuild ∧ (s.modWop f).slot = s.slot ∧
    (s.modWop f).input = s.input ∧ (s.modWop f).source = s.source ∧ (s.modWop f).cfg = s.cfg ∧ (s.modWop f).sel = s.sel ∧
    (s.modWop f).entry = s.entry ∧ (s.modWop f).activity = s.activity ∧ (s.modWop f).lineEnts = s.lineEnts ∧
    (s.modWop f).readOf = s.readOf ∧ (s.modWop f).keelOn = s.keelOn ∧ (s.modWop f).coxUp = s.coxUp ∧
    (s.modWop f).inService = s.inService :=
  ⟨rfl, rfl, rfl, rfl, rfl, rfl, rfl, rfl, rfl, rfl, rfl, rfl, rfl, rfl, rfl, rfl, rfl, rfl, rfl, rfl, rfl, rfl, rfl, rfl, rfl, rfl,
    rfl, rfl, rfl, rfl⟩

@[simp] theorem State.modFree_keeps (f : Nat → Nat) (s : State) :
    (s.modFree f).port = s.port ∧ (s.modFree f).link = s.link ∧ (s.modFree f).coreLink = s.coreLink ∧
    (s.modFree f).linkUp = s.linkUp ∧ (s.modFree f).head = s.head ∧ (s.modFree f).unit = s.unit ∧ (s.modFree f).isOut = s.isOut ∧
    (s.modFree f).domain = s.domain ∧ (s.modFree f).domainOn = s.domainOn ∧ (s.modFree f).pair = s.pair ∧
    (s.modFree f).extent = s.extent ∧ (s.modFree f).region = s.region ∧ (s.modFree f).plane = s.plane ∧ (s.modFree f).die = s.die ∧
    (s.modFree f).channel = s.channel ∧ (s.modFree f).sram = s.sram ∧ (s.modFree f).seatOf = s.seatOf ∧
    (s.modFree f).rebuild = s.rebuild ∧ (s.modFree f).session = s.session ∧ (s.modFree f).slot = s.slot ∧
    (s.modFree f).input = s.input ∧ (s.modFree f).source = s.source ∧ (s.modFree f).cfg = s.cfg ∧ (s.modFree f).sel = s.sel ∧
    (s.modFree f).entry = s.entry ∧ (s.modFree f).activity = s.activity ∧ (s.modFree f).lineEnts = s.lineEnts ∧
    (s.modFree f).readOf = s.readOf ∧ (s.modFree f).keelOn = s.keelOn ∧ (s.modFree f).coxUp = s.coxUp ∧
    (s.modFree f).inService = s.inService :=
  ⟨rfl, rfl, rfl, rfl, rfl, rfl, rfl, rfl, rfl, rfl, rfl, rfl, rfl, rfl, rfl, rfl, rfl, rfl, rfl, rfl, rfl, rfl, rfl, rfl, rfl, rfl,
    rfl, rfl, rfl, rfl, rfl⟩

@[simp] theorem State.modOut_keeps (f : List Out → List Out) (s : State) :
    (s.modOut f).port = s.port ∧ (s.modOut f).link = s.link ∧ (s.modOut f).coreLink = s.coreLink ∧ (s.modOut f).linkUp = s.linkUp ∧
    (s.modOut f).head = s.head ∧ (s.modOut f).unit = s.unit ∧ (s.modOut f).isOut = s.isOut ∧ (s.modOut f).domain = s.domain ∧
    (s.modOut f).domainOn = s.domainOn ∧ (s.modOut f).pair = s.pair ∧ (s.modOut f).extent = s.extent ∧
    (s.modOut f).region = s.region ∧ (s.modOut f).plane = s.plane ∧ (s.modOut f).die = s.die ∧ (s.modOut f).channel = s.channel ∧
    (s.modOut f).sram = s.sram ∧ (s.modOut f).seatOf = s.seatOf ∧ (s.modOut f).rebuild = s.rebuild ∧
    (s.modOut f).session = s.session ∧ (s.modOut f).slot = s.slot ∧ (s.modOut f).input = s.input ∧ (s.modOut f).source = s.source ∧
    (s.modOut f).cfg = s.cfg ∧ (s.modOut f).sel = s.sel ∧ (s.modOut f).entry = s.entry ∧ (s.modOut f).activity = s.activity ∧
    (s.modOut f).lineEnts = s.lineEnts ∧ (s.modOut f).readOf = s.readOf ∧ (s.modOut f).keelOn = s.keelOn ∧
    (s.modOut f).coxUp = s.coxUp ∧ (s.modOut f).inService = s.inService :=
  ⟨rfl, rfl, rfl, rfl, rfl, rfl, rfl, rfl, rfl, rfl, rfl, rfl, rfl, rfl, rfl, rfl, rfl, rfl, rfl, rfl, rfl, rfl, rfl, rfl, rfl, rfl,
    rfl, rfl, rfl, rfl, rfl⟩

@[simp] theorem State.modPending_keeps (f : List Instr → List Instr) (s : State) :
    (s.modPending f).port = s.port ∧ (s.modPending f).link = s.link ∧ (s.modPending f).coreLink = s.coreLink ∧
    (s.modPending f).linkUp = s.linkUp ∧ (s.modPending f).head = s.head ∧ (s.modPending f).unit = s.unit ∧
    (s.modPending f).isOut = s.isOut ∧ (s.modPending f).domain = s.domain ∧ (s.modPending f).domainOn = s.domainOn ∧
    (s.modPending f).pair = s.pair ∧ (s.modPending f).extent = s.extent ∧ (s.modPending f).region = s.region ∧
    (s.modPending f).plane = s.plane ∧ (s.modPending f).die = s.die ∧ (s.modPending f).channel = s.channel ∧
    (s.modPending f).sram = s.sram ∧ (s.modPending f).seatOf = s.seatOf ∧ (s.modPending f).rebuild = s.rebuild ∧
    (s.modPending f).session = s.session ∧ (s.modPending f).slot = s.slot ∧ (s.modPending f).input = s.input ∧
    (s.modPending f).source = s.source ∧ (s.modPending f).cfg = s.cfg ∧ (s.modPending f).sel = s.sel ∧
    (s.modPending f).entry = s.entry ∧ (s.modPending f).activity = s.activity ∧ (s.modPending f).lineEnts = s.lineEnts ∧
    (s.modPending f).readOf = s.readOf ∧ (s.modPending f).keelOn = s.keelOn ∧ (s.modPending f).coxUp = s.coxUp ∧
    (s.modPending f).inService = s.inService :=
  ⟨rfl, rfl, rfl, rfl, rfl, rfl, rfl, rfl, rfl, rfl, rfl, rfl, rfl, rfl, rfl, rfl, rfl, rfl, rfl, rfl, rfl, rfl, rfl, rfl, rfl, rfl,
    rfl, rfl, rfl, rfl, rfl⟩

/-! ## What an operation leaves alone -/

@[simp] theorem State.modPort_keeps (s : State) (a0) (a1) :
    (State.modPort a0 a1 s).pwr = s.pwr ∧ (State.modPort a0 a1 s).hst.links = s.hst.links ∧
    (State.modPort a0 a1 s).hst.heads = s.hst.heads ∧ (State.modPort a0 a1 s).rdp = s.rdp ∧ (State.modPort a0 a1 s).wb = s.wb ∧
    (State.modPort a0 a1 s).flt = s.flt ∧ (State.modPort a0 a1 s).easy = s.easy ∧ (State.modPort a0 a1 s).cox = s.cox ∧
    (State.modPort a0 a1 s).out = s.out ∧ (State.modPort a0 a1 s).head = s.head := by
  have k := State.modPort_keep (covers_self _) (Keep.refl _ s) a0 a1
  exact ⟨k.pwr (by decide), field_same k .hstLinks (by decide), field_same k .hstHeads (by decide), k.rdp (by decide), k.wb (by decide),
    k.flt (by decide), k.easy (by decide), k.cox (by decide), k.out (by decide), State.head_congr (field_same k .hstHeads (by decide))⟩

@[simp] theorem State.modLink_keeps (s : State) (a0) (a1) :
    (State.modLink a0 a1 s).pwr = s.pwr ∧ (State.modLink a0 a1 s).hst.ports = s.hst.ports ∧
    (State.modLink a0 a1 s).hst.heads = s.hst.heads ∧ (State.modLink a0 a1 s).rdp = s.rdp ∧ (State.modLink a0 a1 s).wb = s.wb ∧
    (State.modLink a0 a1 s).flt = s.flt ∧ (State.modLink a0 a1 s).easy = s.easy ∧ (State.modLink a0 a1 s).cox = s.cox ∧
    (State.modLink a0 a1 s).out = s.out ∧ (State.modLink a0 a1 s).head = s.head ∧ (State.modLink a0 a1 s).isOut = s.isOut := by
  have k := State.modLink_keep (covers_self _) (Keep.refl _ s) a0 a1
  exact ⟨k.pwr (by decide), field_same k .hstPorts (by decide), field_same k .hstHeads (by decide), k.rdp (by decide), k.wb (by decide),
    k.flt (by decide), k.easy (by decide), k.cox (by decide), k.out (by decide),
    State.head_congr (field_same k .hstHeads (by decide)), State.isOut_congr (field_same k .fltUnits (by decide))⟩

@[simp] theorem State.modHead_keeps (s : State) (a0) (a1) :
    (State.modHead a0 a1 s).pwr = s.pwr ∧ (State.modHead a0 a1 s).hst.ports = s.hst.ports ∧
    (State.modHead a0 a1 s).hst.links = s.hst.links ∧ (State.modHead a0 a1 s).rdp = s.rdp ∧ (State.modHead a0 a1 s).wb = s.wb ∧
    (State.modHead a0 a1 s).med = s.med ∧ (State.modHead a0 a1 s).trc = s.trc ∧ (State.modHead a0 a1 s).itg = s.itg ∧
    (State.modHead a0 a1 s).flt = s.flt ∧ (State.modHead a0 a1 s).easy = s.easy ∧ (State.modHead a0 a1 s).cox = s.cox ∧
    (State.modHead a0 a1 s).wop = s.wop ∧ (State.modHead a0 a1 s).out = s.out ∧ (State.modHead a0 a1 s).link = s.link ∧
    (State.modHead a0 a1 s).coreLink = s.coreLink ∧ (State.modHead a0 a1 s).unit = s.unit ∧ (State.modHead a0 a1 s).isOut = s.isOut ∧
    (State.modHead a0 a1 s).channel = s.channel ∧ (State.modHead a0 a1 s).rebuild = s.rebuild ∧
    (State.modHead a0 a1 s).session = s.session ∧ (State.modHead a0 a1 s).lineEnts = s.lineEnts := by
  have k := State.modHead_keep (covers_self _) (Keep.refl _ s) a0 a1
  exact ⟨k.pwr (by decide), field_same k .hstPorts (by decide), field_same k .hstLinks (by decide), k.rdp (by decide), k.wb (by decide),
    k.med (by decide), k.trc (by decide), k.itg (by decide), k.flt (by decide), k.easy (by decide), k.cox (by decide),
    k.wop (by decide), k.out (by decide), State.link_congr (field_same k .hstLinks (by decide)),
    State.coreLink_congr (field_same k .hstLinks (by decide)), State.unit_congr (field_same k .fltUnits (by decide)),
    State.isOut_congr (field_same k .fltUnits (by decide)), State.channel_congr (field_same k .medChannels (by decide)),
    State.rebuild_congr (field_same k .scrRebuilds (by decide)), State.session_congr (field_same k .wopSess (by decide)),
    State.lineEnts_congr (field_same k .wbEnts (by decide))⟩

@[simp] theorem State.modUnit_keeps (s : State) (a0) (a1) :
    (State.modUnit a0 a1 s).tim = s.tim ∧ (State.modUnit a0 a1 s).flt.queue = s.flt.queue ∧
    (State.modUnit a0 a1 s).flt.classes = s.flt.classes := by
  have k := State.modUnit_keep (covers_self _) (Keep.refl _ s) a0 a1
  exact ⟨k.tim (by decide), field_same k .fltQueue (by decide), field_same k .fltClasses (by decide)⟩

@[simp] theorem State.modDomain_keeps (s : State) (a0) (a1) :
    (State.modDomain a0 a1 s).seat = s.seat ∧ (State.modDomain a0 a1 s).flt = s.flt ∧ (State.modDomain a0 a1 s).out = s.out := by
  have k := State.modDomain_keep (covers_self _) (Keep.refl _ s) a0 a1
  exact ⟨k.seat (by decide), k.flt (by decide), k.out (by decide)⟩

@[simp] theorem State.modPair_keeps (s : State) (a0) (a1) (a2) :
    (State.modPair a0 a1 a2 s).extent = s.extent := by
  have k := State.modPair_keep (covers_self _) (Keep.refl _ s) a0 a1 a2
  exact State.extent_congr (field_same k .extExtents (by decide))

@[simp] theorem State.modExtent_keeps (s : State) (a0) (a1) :
    (State.modExtent a0 a1 s).ext.regions = s.ext.regions := by
  have k := State.modExtent_keep (covers_self _) (Keep.refl _ s) a0 a1
  exact field_same k .extRegions (by decide)

@[simp] theorem State.modRegion_keeps (s : State) (a0) (a1) :
    (State.modRegion a0 a1 s).itg = s.itg := by
  have k := State.modRegion_keep (covers_self _) (Keep.refl _ s) a0 a1
  exact k.itg (by decide)

@[simp] theorem State.modPlane_keeps (s : State) (a0) (a1) :
    (State.modPlane a0 a1 s).wb = s.wb ∧ (State.modPlane a0 a1 s).med.granules = s.med.granules ∧
    (State.modPlane a0 a1 s).med.dies = s.med.dies ∧ (State.modPlane a0 a1 s).med.clearing = s.med.clearing ∧
    (State.modPlane a0 a1 s).med.governor = s.med.governor ∧ (State.modPlane a0 a1 s).med.reserved = s.med.reserved ∧
    (State.modPlane a0 a1 s).med.work = s.med.work ∧ (State.modPlane a0 a1 s).med.checks = s.med.checks ∧
    (State.modPlane a0 a1 s).med.checksWear = s.med.checksWear ∧ (State.modPlane a0 a1 s).med.failures = s.med.failures ∧
    (State.modPlane a0 a1 s).trc = s.trc ∧ (State.modPlane a0 a1 s).itg = s.itg ∧ (State.modPlane a0 a1 s).flt = s.flt ∧
    (State.modPlane a0 a1 s).out = s.out ∧ (State.modPlane a0 a1 s).channel = s.channel := by
  have k := State.modPlane_keep (covers_self _) (Keep.refl _ s) a0 a1
  exact ⟨k.wb (by decide), field_same k .medGranules (by decide), field_same k .medDies (by decide), field_same k .medClearing (by decide),
    field_same k .medGovernor (by decide), field_same k .medReserved (by decide), field_same k .medWork (by decide),
    field_same k .medChecks (by decide), field_same k .medChecksWear (by decide), field_same k .medFailures (by decide),
    k.trc (by decide), k.itg (by decide), k.flt (by decide), k.out (by decide),
    State.channel_congr (field_same k .medChannels (by decide))⟩

@[simp] theorem State.modDie_keeps (s : State) (a0) (a1) :
    (State.modDie a0 a1 s).pwr = s.pwr ∧ (State.modDie a0 a1 s).flt = s.flt ∧ (State.modDie a0 a1 s).easy = s.easy ∧
    (State.modDie a0 a1 s).out = s.out ∧ (State.modDie a0 a1 s).plane = s.plane ∧ (State.modDie a0 a1 s).entry = s.entry := by
  have k := State.modDie_keep (covers_self _) (Keep.refl _ s) a0 a1
  exact ⟨k.pwr (by decide), k.flt (by decide), k.easy (by decide), k.out (by decide),
    State.plane_congr (field_same k .medPlanes (by decide)), State.entry_congr (field_same k .trcMap (by decide))⟩

@[simp] theorem State.modChannel_keeps (s : State) (a0) (a1) :
    (State.modChannel a0 a1 s).pwr = s.pwr ∧ (State.modChannel a0 a1 s).med.granules = s.med.granules ∧
    (State.modChannel a0 a1 s).med.planes = s.med.planes ∧ (State.modChannel a0 a1 s).med.dies = s.med.dies ∧
    (State.modChannel a0 a1 s).med.clearing = s.med.clearing ∧ (State.modChannel a0 a1 s).med.governor = s.med.governor ∧
    (State.modChannel a0 a1 s).med.reserved = s.med.reserved ∧ (State.modChannel a0 a1 s).med.work = s.med.work ∧
    (State.modChannel a0 a1 s).med.checks = s.med.checks ∧ (State.modChannel a0 a1 s).med.checksWear = s.med.checksWear ∧
    (State.modChannel a0 a1 s).med.failures = s.med.failures ∧ (State.modChannel a0 a1 s).flt = s.flt ∧
    (State.modChannel a0 a1 s).head = s.head ∧ (State.modChannel a0 a1 s).plane = s.plane ∧
    (State.modChannel a0 a1 s).readOf = s.readOf ∧ (State.modChannel a0 a1 s).keelOn = s.keelOn := by
  have k := State.modChannel_keep (covers_self _) (Keep.refl _ s) a0 a1
  exact ⟨k.pwr (by decide), field_same k .medGranules (by decide), field_same k .medPlanes (by decide), field_same k .medDies (by decide),
    field_same k .medClearing (by decide), field_same k .medGovernor (by decide), field_same k .medReserved (by decide),
    field_same k .medWork (by decide), field_same k .medChecks (by decide), field_same k .medChecksWear (by decide),
    field_same k .medFailures (by decide), k.flt (by decide), State.head_congr (field_same k .hstHeads (by decide)),
    State.plane_congr (field_same k .medPlanes (by decide)), State.readOf_congr (field_same k .rdpReads (by decide)),
    State.keelOn_congr (field_same k .pwrState (by decide))⟩

@[simp] theorem State.modSram_keeps (s : State) (a0) (a1) :
    (State.modSram a0 a1 s).pwr = s.pwr ∧ (State.modSram a0 a1 s).flt = s.flt ∧ (State.modSram a0 a1 s).head = s.head := by
  have k := State.modSram_keep (covers_self _) (Keep.refl _ s) a0 a1
  exact ⟨k.pwr (by decide), k.flt (by decide), State.head_congr (field_same k .hstHeads (by decide))⟩

@[simp] theorem State.modSeatOf_keeps (s : State) (a0) (a1) :
    (State.modSeatOf a0 a1 s).out = s.out := by
  have k := State.modSeatOf_keep (covers_self _) (Keep.refl _ s) a0 a1
  exact k.out (by decide)

@[simp] theorem State.modRebuild_keeps (s : State) (a0) (a1) :
    (State.modRebuild a0 a1 s).unit = s.unit := by
  have k := State.modRebuild_keep (covers_self _) (Keep.refl _ s) a0 a1
  exact State.unit_congr (field_same k .fltUnits (by decide))

@[simp] theorem State.modSession_keeps (s : State) (a0) (a1) :
    (State.modSession a0 a1 s).tim = s.tim ∧ (State.modSession a0 a1 s).img = s.img ∧ (State.modSession a0 a1 s).par = s.par ∧
    (State.modSession a0 a1 s).wop.plca = s.wop.plca ∧ (State.modSession a0 a1 s).wop.frames = s.wop.frames ∧
    (State.modSession a0 a1 s).wop.counts = s.wop.counts ∧ (State.modSession a0 a1 s).wop.conflict = s.wop.conflict ∧
    (State.modSession a0 a1 s).wop.answerDue = s.wop.answerDue ∧ (State.modSession a0 a1 s).wop.keys = s.wop.keys ∧
    (State.modSession a0 a1 s).wop.keyDraws = s.wop.keyDraws ∧ (State.modSession a0 a1 s).wop.tagFails = s.wop.tagFails ∧
    (State.modSession a0 a1 s).wop.bulks = s.wop.bulks ∧ (State.modSession a0 a1 s).wop.nextBulk = s.wop.nextBulk ∧
    (State.modSession a0 a1 s).out = s.out ∧ (State.modSession a0 a1 s).head = s.head ∧ (State.modSession a0 a1 s).cfg = s.cfg := by
  have k := State.modSession_keep (covers_self _) (Keep.refl _ s) a0 a1
  exact ⟨k.tim (by decide), k.img (by decide), k.par (by decide), field_same k .wopPlca (by decide), field_same k .wopFrames (by decide),
    field_same k .wopCounts (by decide), field_same k .wopConflict (by decide), field_same k .wopAnswerDue (by decide),
    field_same k .wopKeys (by decide), field_same k .wopKeyDraws (by decide), field_same k .wopTagFails (by decide),
    field_same k .wopBulks (by decide), field_same k .wopNextBulk (by decide), k.out (by decide),
    State.head_congr (field_same k .hstHeads (by decide)), State.cfg_congr (field_same k .objVals (by decide))⟩

@[simp] theorem State.modSource_keeps (s : State) (a0) (a1) :
    (State.modSource a0 a1 s).flt.queue = s.flt.queue ∧ (State.modSource a0 a1 s).flt.taken = s.flt.taken ∧
    (State.modSource a0 a1 s).flt.classes = s.flt.classes := by
  have k := State.modSource_keep (covers_self _) (Keep.refl _ s) a0 a1
  exact ⟨field_same k .fltQueue (by decide), field_same k .fltTaken (by decide), field_same k .fltClasses (by decide)⟩

@[simp] theorem State.modEq_keeps (s : State) (a0) (a1) :
    (State.modEq a0 a1 s).hst.links = s.hst.links ∧ (State.modEq a0 a1 s).out = s.out ∧ (State.modEq a0 a1 s).link = s.link ∧
    (State.modEq a0 a1 s).coreLink = s.coreLink ∧ (State.modEq a0 a1 s).linkUp = s.linkUp := by
  have k := State.modEq_keep (covers_self _) (Keep.refl _ s) a0 a1
  exact ⟨field_same k .hstLinks (by decide), k.out (by decide), State.link_congr (field_same k .hstLinks (by decide)),
    State.coreLink_congr (field_same k .hstLinks (by decide)), State.linkUp_congr (field_same k .hstLinks (by decide))⟩

@[simp] theorem State.modEntry_keeps (s : State) (a0) (a1) :
    (State.modEntry a0 a1 s).pwr = s.pwr ∧ (State.modEntry a0 a1 s).trc.ckptB = s.trc.ckptB ∧
    (State.modEntry a0 a1 s).trc.migs = s.trc.migs ∧ (State.modEntry a0 a1 s).flt = s.flt ∧ (State.modEntry a0 a1 s).easy = s.easy := by
  have k := State.modEntry_keep (covers_self _) (Keep.refl _ s) a0 a1
  exact ⟨k.pwr (by decide), field_same k .trcCkptB (by decide), field_same k .trcMigs (by decide), k.flt (by decide), k.easy (by decide)⟩

@[simp] theorem State.modActivity_keeps (s : State) (a0) (a1) :
    (State.modActivity a0 a1 s).pwr = s.pwr ∧ (State.modActivity a0 a1 s).wb = s.wb ∧
    (State.modActivity a0 a1 s).trc.map = s.trc.map ∧ (State.modActivity a0 a1 s).trc.ckptA = s.trc.ckptA ∧
    (State.modActivity a0 a1 s).trc.ckptB = s.trc.ckptB ∧ (State.modActivity a0 a1 s).trc.peak = s.trc.peak ∧
    (State.modActivity a0 a1 s).trc.peakBase = s.trc.peakBase ∧ (State.modActivity a0 a1 s).trc.peakCkpt = s.trc.peakCkpt ∧
    (State.modActivity a0 a1 s).trc.peakCkptB = s.trc.peakCkptB ∧ (State.modActivity a0 a1 s).trc.baseCkpt = s.trc.baseCkpt ∧
    (State.modActivity a0 a1 s).trc.actCkpt = s.trc.actCkpt ∧ (State.modActivity a0 a1 s).trc.actCkptB = s.trc.actCkptB ∧
    (State.modActivity a0 a1 s).trc.directory = s.trc.directory ∧ (State.modActivity a0 a1 s).trc.scans = s.trc.scans ∧
    (State.modActivity a0 a1 s).trc.counted = s.trc.counted ∧ (State.modActivity a0 a1 s).trc.epoch = s.trc.epoch ∧
    (State.modActivity a0 a1 s).trc.dirtyPts = s.trc.dirtyPts ∧ (State.modActivity a0 a1 s).trc.migs = s.trc.migs ∧
    (State.modActivity a0 a1 s).trc.readsOn = s.trc.readsOn ∧ (State.modActivity a0 a1 s).trc.lastRow = s.trc.lastRow ∧
    (State.modActivity a0 a1 s).trc.completed = s.trc.completed ∧ (State.modActivity a0 a1 s).trc.abandoned = s.trc.abandoned ∧
    (State.modActivity a0 a1 s).trc.retired = s.trc.retired ∧ (State.modActivity a0 a1 s).trc.refreshed = s.trc.refreshed ∧
    (State.modActivity a0 a1 s).trc.sweep = s.trc.sweep ∧ (State.modActivity a0 a1 s).trc.lastScan = s.trc.lastScan ∧
    (State.modActivity a0 a1 s).trc.decided = s.trc.decided ∧ (State.modActivity a0 a1 s).trc.counts = s.trc.counts ∧
    (State.modActivity a0 a1 s).trc.spareRows = s.trc.spareRows ∧ (State.modActivity a0 a1 s).flt = s.flt ∧
    (State.modActivity a0 a1 s).easy = s.easy ∧ (State.modActivity a0 a1 s).free = s.free ∧
    (State.modActivity a0 a1 s).extent = s.extent ∧ (State.modActivity a0 a1 s).cfg = s.cfg ∧
    (State.modActivity a0 a1 s).entry = s.entry := by
  have k := State.modActivity_keep (covers_self _) (Keep.refl _ s) a0 a1
  exact ⟨k.pwr (by decide), k.wb (by decide), field_same k .trcMap (by decide), field_same k .trcCkptA (by decide),
    field_same k .trcCkptB (by decide), field_same k .trcPeak (by decide), field_same k .trcPeakBase (by decide),
    field_same k .trcPeakCkpt (by decide), field_same k .trcPeakCkptB (by decide), field_same k .trcBaseCkpt (by decide),
    field_same k .trcActCkpt (by decide), field_same k .trcActCkptB (by decide), field_same k .trcDirectory (by decide),
    field_same k .trcScans (by decide), field_same k .trcCounted (by decide), field_same k .trcEpoch (by decide),
    field_same k .trcDirtyPts (by decide), field_same k .trcMigs (by decide), field_same k .trcReadsOn (by decide),
    field_same k .trcLastRow (by decide), field_same k .trcCompleted (by decide), field_same k .trcAbandoned (by decide),
    field_same k .trcRetired (by decide), field_same k .trcRefreshed (by decide), field_same k .trcSweep (by decide),
    field_same k .trcLastScan (by decide), field_same k .trcDecided (by decide), field_same k .trcCounts (by decide),
    field_same k .trcSpareRows (by decide), k.flt (by decide), k.easy (by decide), field_same k .free (by decide),
    State.extent_congr (field_same k .extExtents (by decide)), State.cfg_congr (field_same k .objVals (by decide)),
    State.entry_congr (field_same k .trcMap (by decide))⟩

@[simp] theorem State.setCfg_keeps (s : State) (a0) (a1) (a2) :
    (State.setCfg a0 a1 a2 s).wop = s.wop := by
  have k := State.setCfg_keep (covers_self _) (Keep.refl _ s) a0 a1 a2
  exact k.wop (by decide)

@[simp] theorem State.emit_keeps (s : State) (a0) :
    (State.emit a0 s).pwr = s.pwr ∧ (State.emit a0 s).bank = s.bank ∧ (State.emit a0 s).thm = s.thm ∧ (State.emit a0 s).hst = s.hst ∧
    (State.emit a0 s).ext = s.ext ∧ (State.emit a0 s).wb = s.wb ∧ (State.emit a0 s).trc = s.trc ∧ (State.emit a0 s).itg = s.itg ∧
    (State.emit a0 s).scr = s.scr ∧ (State.emit a0 s).flt = s.flt ∧ (State.emit a0 s).easy = s.easy ∧ (State.emit a0 s).str = s.str ∧
    (State.emit a0 s).wop = s.wop ∧ (State.emit a0 s).free = s.free ∧ (State.emit a0 s).link = s.link ∧
    (State.emit a0 s).coreLink = s.coreLink ∧ (State.emit a0 s).head = s.head ∧ (State.emit a0 s).pair = s.pair ∧
    (State.emit a0 s).region = s.region ∧ (State.emit a0 s).plane = s.plane ∧ (State.emit a0 s).seatOf = s.seatOf ∧
    (State.emit a0 s).session = s.session ∧ (State.emit a0 s).slot = s.slot ∧ (State.emit a0 s).cfg = s.cfg ∧
    (State.emit a0 s).entry = s.entry ∧ (State.emit a0 s).inService = s.inService := by
  have k := State.emit_keep (covers_self _) (Keep.refl _ s) a0
  exact ⟨k.pwr (by decide), k.bank (by decide), k.thm (by decide), k.hst (by decide), k.ext (by decide), k.wb (by decide),
    k.trc (by decide), k.itg (by decide), k.scr (by decide), k.flt (by decide), k.easy (by decide), k.str (by decide),
    k.wop (by decide), field_same k .free (by decide), State.link_congr (field_same k .hstLinks (by decide)),
    State.coreLink_congr (field_same k .hstLinks (by decide)), State.head_congr (field_same k .hstHeads (by decide)),
    State.pair_congr (field_same k .extPairs (by decide)), State.region_congr (field_same k .extRegions (by decide)),
    State.plane_congr (field_same k .medPlanes (by decide)), State.seatOf_congr (field_same k .seatSeats (by decide)),
    State.session_congr (field_same k .wopSess (by decide)), State.slot_congr (field_same k .objSlots (by decide)),
    State.cfg_congr (field_same k .objVals (by decide)), State.entry_congr (field_same k .trcMap (by decide)),
    State.inService_congr (field_same k .pwrState (by decide))⟩

@[simp] theorem State.countPages_keeps (s : State) (a0) (a1) :
    (State.countPages a0 a1 s).tim = s.tim ∧ (State.countPages a0 a1 s).pwr = s.pwr := by
  have k := State.countPages_keep (covers_self _) (Keep.refl _ s) a0 a1
  exact ⟨k.tim (by decide), k.pwr (by decide)⟩

@[simp] theorem State.storeWrite_keeps (s : State) (a0) :
    (State.storeWrite a0 s).tim = s.tim ∧ (State.storeWrite a0 s).pwr = s.pwr ∧ (State.storeWrite a0 s).bank = s.bank ∧
    (State.storeWrite a0 s).wb = s.wb ∧ (State.storeWrite a0 s).trc = s.trc ∧ (State.storeWrite a0 s).itg = s.itg ∧
    (State.storeWrite a0 s).flt = s.flt ∧ (State.storeWrite a0 s).easy = s.easy ∧ (State.storeWrite a0 s).str = s.str ∧
    (State.storeWrite a0 s).cox = s.cox ∧ (State.storeWrite a0 s).log = s.log ∧ (State.storeWrite a0 s).unit = s.unit ∧
    (State.storeWrite a0 s).region = s.region ∧ (State.storeWrite a0 s).rebuild = s.rebuild ∧
    (State.storeWrite a0 s).keelOn = s.keelOn := by
  have k := State.storeWrite_keep (covers_self _) (Keep.refl _ s) a0
  exact ⟨k.tim (by decide), k.pwr (by decide), k.bank (by decide), k.wb (by decide), k.trc (by decide), k.itg (by decide),
    k.flt (by decide), k.easy (by decide), k.str (by decide), k.cox (by decide), k.log (by decide),
    State.unit_congr (field_same k .fltUnits (by decide)), State.region_congr (field_same k .extRegions (by decide)),
    State.rebuild_congr (field_same k .scrRebuilds (by decide)), State.keelOn_congr (field_same k .pwrState (by decide))⟩

@[simp] theorem State.msix_keeps (s : State) (a0) (a1) :
    (State.msix a0 a1 s).hst.heads = s.hst.heads ∧ (State.msix a0 a1 s).wb = s.wb ∧ (State.msix a0 a1 s).itg = s.itg ∧
    (State.msix a0 a1 s).head = s.head ∧ (State.msix a0 a1 s).pair = s.pair ∧ (State.msix a0 a1 s).session = s.session ∧
    (State.msix a0 a1 s).cfg = s.cfg ∧ (State.msix a0 a1 s).entry = s.entry := by
  have k := State.msix_keep (covers_self _) (Keep.refl _ s) a0 a1
  exact ⟨field_same k .hstHeads (by decide), k.wb (by decide), k.itg (by decide), State.head_congr (field_same k .hstHeads (by decide)),
    State.pair_congr (field_same k .extPairs (by decide)), State.session_congr (field_same k .wopSess (by decide)),
    State.cfg_congr (field_same k .objVals (by decide)), State.entry_congr (field_same k .trcMap (by decide))⟩

@[simp] theorem State.stage_keeps (s : State) (a0) :
    (State.stage a0 s).2.wop = s.wop := by
  have k := State.stage_keep (covers_self _) (Keep.refl _ s) a0
  exact k.wop (by decide)

@[simp] theorem State.notify_keeps (s : State) (a0) (a1) :
    (State.notify a0 a1 s).tim = s.tim ∧ (State.notify a0 a1 s).pwr = s.pwr ∧ (State.notify a0 a1 s).hst = s.hst ∧
    (State.notify a0 a1 s).flt = s.flt ∧ (State.notify a0 a1 s).log = s.log ∧ (State.notify a0 a1 s).coreLink = s.coreLink ∧
    (State.notify a0 a1 s).head = s.head := by
  have k := State.notify_keep (covers_self _) (Keep.refl _ s) a0 a1
  exact ⟨k.tim (by decide), k.pwr (by decide), k.hst (by decide), k.flt (by decide), k.log (by decide),
    State.coreLink_congr (field_same k .hstLinks (by decide)), State.head_congr (field_same k .hstHeads (by decide))⟩

@[simp] theorem State.notifyObject_keeps (s : State) (a0) (a1) :
    (State.notifyObject a0 a1 s).pwr = s.pwr ∧ (State.notifyObject a0 a1 s).thm = s.thm ∧ (State.notifyObject a0 a1 s).wb = s.wb ∧
    (State.notifyObject a0 a1 s).flt = s.flt ∧ (State.notifyObject a0 a1 s).easy = s.easy ∧ (State.notifyObject a0 a1 s).str = s.str ∧
    (State.notifyObject a0 a1 s).cox = s.cox ∧ (State.notifyObject a0 a1 s).fls = s.fls ∧ (State.notifyObject a0 a1 s).par = s.par ∧
    (State.notifyObject a0 a1 s).log = s.log ∧ (State.notifyObject a0 a1 s).wop.conflict = s.wop.conflict ∧
    (State.notifyObject a0 a1 s).cfg = s.cfg ∧ (State.notifyObject a0 a1 s).keelOn = s.keelOn := by
  have k := State.notifyObject_keep (covers_self _) (Keep.refl _ s) a0 a1
  exact ⟨k.pwr (by decide), k.thm (by decide), k.wb (by decide), k.flt (by decide), k.easy (by decide), k.str (by decide),
    k.cox (by decide), k.fls (by decide), k.par (by decide), k.log (by decide), field_same k .wopConflict (by decide),
    State.cfg_congr (field_same k .objVals (by decide)), State.keelOn_congr (field_same k .pwrState (by decide))⟩

@[simp] theorem State.logE_keeps (s : State) (a0) :
    (State.logE a0 s).2.hst = s.hst ∧ (State.logE a0 s).2.coreLink = s.coreLink ∧ (State.logE a0 s).2.head = s.head := by
  have k := State.logE_keep (covers_self _) (Keep.refl _ s) a0
  exact ⟨k.hst (by decide), State.coreLink_congr (field_same k .hstLinks (by decide)),
    State.head_congr (field_same k .hstHeads (by decide))⟩

@[simp] theorem State.record_keeps (s : State) (a0) :
    (State.record a0 s).flt = s.flt ∧ (State.record a0 s).keelOn = s.keelOn := by
  have k := State.record_keep (covers_self _) (Keep.refl _ s) a0
  exact ⟨k.flt (by decide), State.keelOn_congr (field_same k .pwrState (by decide))⟩

@[simp] theorem State.powerEvent_keeps (s : State) (a0) :
    (State.powerEvent a0 s).pwr = s.pwr ∧ (State.powerEvent a0 s).bank = s.bank ∧ (State.powerEvent a0 s).wb = s.wb ∧
    (State.powerEvent a0 s).flt = s.flt ∧ (State.powerEvent a0 s).easy = s.easy ∧ (State.powerEvent a0 s).domain = s.domain := by
  have k := State.powerEvent_keep (covers_self _) (Keep.refl _ s) a0
  exact ⟨k.pwr (by decide), k.bank (by decide), k.wb (by decide), k.flt (by decide), k.easy (by decide),
    State.domain_congr (field_same k .pwrDomains (by decide))⟩

@[simp] theorem State.manage_keeps (s : State) (a0) (a1) (a2) (a3) (a4) (a5) (a6) (a7) :
    (State.manage a0 a1 a2 a3 a4 a5 a6 a7 s).tim = s.tim ∧ (State.manage a0 a1 a2 a3 a4 a5 a6 a7 s).obj = s.obj ∧
    (State.manage a0 a1 a2 a3 a4 a5 a6 a7 s).pwr = s.pwr ∧ (State.manage a0 a1 a2 a3 a4 a5 a6 a7 s).thm = s.thm ∧
    (State.manage a0 a1 a2 a3 a4 a5 a6 a7 s).scr = s.scr ∧ (State.manage a0 a1 a2 a3 a4 a5 a6 a7 s).str = s.str ∧
    (State.manage a0 a1 a2 a3 a4 a5 a6 a7 s).cox = s.cox ∧ (State.manage a0 a1 a2 a3 a4 a5 a6 a7 s).log.defs = s.log.defs ∧
    (State.manage a0 a1 a2 a3 a4 a5 a6 a7 s).wop.keys = s.wop.keys ∧
    (State.manage a0 a1 a2 a3 a4 a5 a6 a7 s).wop.bulks = s.wop.bulks ∧ (State.manage a0 a1 a2 a3 a4 a5 a6 a7 s).link = s.link ∧
    (State.manage a0 a1 a2 a3 a4 a5 a6 a7 s).head = s.head ∧ (State.manage a0 a1 a2 a3 a4 a5 a6 a7 s).slot = s.slot ∧
    (State.manage a0 a1 a2 a3 a4 a5 a6 a7 s).inService = s.inService := by
  have k := State.manage_keep (covers_self _) (Keep.refl _ s) a0 a1 a2 a3 a4 a5 a6 a7
  exact ⟨k.tim (by decide), k.obj (by decide), k.pwr (by decide), k.thm (by decide), k.scr (by decide), k.str (by decide),
    k.cox (by decide), field_same k .logDefs (by decide), field_same k .wopKeys (by decide), field_same k .wopBulks (by decide),
    State.link_congr (field_same k .hstLinks (by decide)), State.head_congr (field_same k .hstHeads (by decide)),
    State.slot_congr (field_same k .objSlots (by decide)), State.inService_congr (field_same k .pwrState (by decide))⟩

@[simp] theorem State.queueFault_keeps (s : State) (a0) :
    (State.queueFault a0 s).tim = s.tim ∧ (State.queueFault a0 s).bank = s.bank ∧ (State.queueFault a0 s).wb = s.wb ∧
    (State.queueFault a0 s).flt.taken = s.flt.taken ∧ (State.queueFault a0 s).flt.classes = s.flt.classes ∧
    (State.queueFault a0 s).flt.sticky = s.flt.sticky ∧ (State.queueFault a0 s).flt.stickyDue = s.flt.stickyDue ∧
    (State.queueFault a0 s).flt.stickyAgain = s.flt.stickyAgain ∧ (State.queueFault a0 s).flt.units = s.flt.units ∧
    (State.queueFault a0 s).flt.sources = s.flt.sources ∧ (State.queueFault a0 s).flt.fences = s.flt.fences ∧
    (State.queueFault a0 s).flt.lastC3 = s.flt.lastC3 ∧ (State.queueFault a0 s).flt.lastC3At = s.flt.lastC3At ∧
    (State.queueFault a0 s).flt.lastC3Cycle = s.flt.lastC3Cycle ∧ (State.queueFault a0 s).flt.cmdSlots = s.flt.cmdSlots ∧
    (State.queueFault a0 s).easy = s.easy ∧ (State.queueFault a0 s).coreLink = s.coreLink ∧ (State.queueFault a0 s).head = s.head ∧
    (State.queueFault a0 s).inService = s.inService := by
  have k := State.queueFault_keep (covers_self _) (Keep.refl _ s) a0
  exact ⟨k.tim (by decide), k.bank (by decide), k.wb (by decide), field_same k .fltTaken (by decide), field_same k .fltClasses (by decide),
    field_same k .fltSticky (by decide), field_same k .fltStickyDue (by decide), field_same k .fltStickyAgain (by decide),
    field_same k .fltUnits (by decide), field_same k .fltSources (by decide), field_same k .fltFences (by decide),
    field_same k .fltLastC3 (by decide), field_same k .fltLastC3At (by decide), field_same k .fltLastC3Cycle (by decide),
    field_same k .fltCmdSlots (by decide), k.easy (by decide), State.coreLink_congr (field_same k .hstLinks (by decide)),
    State.head_congr (field_same k .hstHeads (by decide)), State.inService_congr (field_same k .pwrState (by decide))⟩

@[simp] theorem State.setSticky_keeps (s : State) (a0) :
    (State.setSticky a0 s).tim = s.tim ∧ (State.setSticky a0 s).pwr = s.pwr ∧ (State.setSticky a0 s).flt.queue = s.flt.queue ∧
    (State.setSticky a0 s).flt.lost = s.flt.lost ∧ (State.setSticky a0 s).flt.taken = s.flt.taken ∧
    (State.setSticky a0 s).flt.classes = s.flt.classes ∧ (State.setSticky a0 s).flt.units = s.flt.units ∧
    (State.setSticky a0 s).flt.sources = s.flt.sources ∧ (State.setSticky a0 s).flt.fences = s.flt.fences ∧
    (State.setSticky a0 s).flt.lastC3 = s.flt.lastC3 ∧ (State.setSticky a0 s).flt.lastC3At = s.flt.lastC3At ∧
    (State.setSticky a0 s).flt.lastC3Cycle = s.flt.lastC3Cycle ∧ (State.setSticky a0 s).flt.cmdSlots = s.flt.cmdSlots ∧
    (State.setSticky a0 s).easy = s.easy ∧ (State.setSticky a0 s).coreLink = s.coreLink ∧ (State.setSticky a0 s).head = s.head ∧
    (State.setSticky a0 s).inService = s.inService := by
  have k := State.setSticky_keep (covers_self _) (Keep.refl _ s) a0
  exact ⟨k.tim (by decide), k.pwr (by decide), field_same k .fltQueue (by decide), field_same k .fltLost (by decide),
    field_same k .fltTaken (by decide), field_same k .fltClasses (by decide), field_same k .fltUnits (by decide),
    field_same k .fltSources (by decide), field_same k .fltFences (by decide), field_same k .fltLastC3 (by decide),
    field_same k .fltLastC3At (by decide), field_same k .fltLastC3Cycle (by decide), field_same k .fltCmdSlots (by decide),
    k.easy (by decide), State.coreLink_congr (field_same k .hstLinks (by decide)),
    State.head_congr (field_same k .hstHeads (by decide)), State.inService_congr (field_same k .pwrState (by decide))⟩

@[simp] theorem State.headEvent_keeps (s : State) (a0) (a1) (a2) (a3) :
    (State.headEvent a0 a1 a2 a3 s).pwr = s.pwr ∧ (State.headEvent a0 a1 a2 a3 s).thm = s.thm ∧
    (State.headEvent a0 a1 a2 a3 s).hlt = s.hlt ∧ (State.headEvent a0 a1 a2 a3 s).hst.ports = s.hst.ports ∧
    (State.headEvent a0 a1 a2 a3 s).rdp = s.rdp ∧ (State.headEvent a0 a1 a2 a3 s).wb = s.wb ∧
    (State.headEvent a0 a1 a2 a3 s).flt = s.flt ∧ (State.headEvent a0 a1 a2 a3 s).easy = s.easy ∧
    (State.headEvent a0 a1 a2 a3 s).cox = s.cox ∧ (State.headEvent a0 a1 a2 a3 s).pair = s.pair := by
  have k := State.headEvent_keep (covers_self _) (Keep.refl _ s) a0 a1 a2 a3
  exact ⟨k.pwr (by decide), k.thm (by decide), k.hlt (by decide), field_same k .hstPorts (by decide), k.rdp (by decide), k.wb (by decide),
    k.flt (by decide), k.easy (by decide), k.cox (by decide), State.pair_congr (field_same k .extPairs (by decide))⟩

@[simp] theorem State.linkEvent_keeps (s : State) (a0) :
    (State.linkEvent a0 s).flt = s.flt := by
  have k := State.linkEvent_keep (covers_self _) (Keep.refl _ s) a0
  exact k.flt (by decide)

@[simp] theorem State.boundSync_keeps (s : State) :
    (State.boundSync s).obj = s.obj ∧ (State.boundSync s).pwr = s.pwr ∧ (State.boundSync s).thm = s.thm ∧
    (State.boundSync s).hst.ports = s.hst.ports ∧ (State.boundSync s).rdp = s.rdp ∧ (State.boundSync s).wb = s.wb ∧
    (State.boundSync s).flt = s.flt ∧ (State.boundSync s).easy = s.easy ∧ (State.boundSync s).cox = s.cox ∧
    (State.boundSync s).unit = s.unit ∧ (State.boundSync s).rebuild = s.rebuild := by
  have k := State.boundSync_keep (covers_self _) (Keep.refl _ s)
  exact ⟨k.obj (by decide), k.pwr (by decide), k.thm (by decide), field_same k .hstPorts (by decide), k.rdp (by decide), k.wb (by decide),
    k.flt (by decide), k.easy (by decide), k.cox (by decide), State.unit_congr (field_same k .fltUnits (by decide)),
    State.rebuild_congr (field_same k .scrRebuilds (by decide))⟩

@[simp] theorem State.fire_keeps (s : State) (a0) (a1) (a2) :
    (State.fire a0 a1 a2 s).log.defs = s.log.defs ∧ (State.fire a0 a1 a2 s).out = s.out := by
  have k := State.fire_keep (covers_self _) (Keep.refl _ s) a0 a1 a2
  exact ⟨field_same k .logDefs (by decide), k.out (by decide)⟩

@[simp] theorem State.fireWhere_keeps (s : State) (a0) (a1) :
    (State.fireWhere a0 a1 s).pwr = s.pwr ∧ (State.fireWhere a0 a1 s).thm = s.thm ∧ (State.fireWhere a0 a1 s).hst = s.hst ∧
    (State.fireWhere a0 a1 s).wb = s.wb ∧ (State.fireWhere a0 a1 s).flt = s.flt ∧ (State.fireWhere a0 a1 s).easy = s.easy ∧
    (State.fireWhere a0 a1 s).coreLink = s.coreLink := by
  have k := State.fireWhere_keep (covers_self _) (Keep.refl _ s) a0 a1
  exact ⟨k.pwr (by decide), k.thm (by decide), k.hst (by decide), k.wb (by decide), k.flt (by decide), k.easy (by decide),
    State.coreLink_congr (field_same k .hstLinks (by decide))⟩

@[simp] theorem State.creditSync_keeps (s : State) :
    (State.creditSync s).tim = s.tim ∧ (State.creditSync s).obj = s.obj ∧ (State.creditSync s).pwr = s.pwr ∧
    (State.creditSync s).wb = s.wb ∧ (State.creditSync s).easy = s.easy ∧ (State.creditSync s).cox = s.cox ∧
    (State.creditSync s).coreLink = s.coreLink := by
  have k := State.creditSync_keep (covers_self _) (Keep.refl _ s)
  exact ⟨k.tim (by decide), k.obj (by decide), k.pwr (by decide), k.wb (by decide), k.easy (by decide), k.cox (by decide),
    State.coreLink_congr (field_same k .hstLinks (by decide))⟩

@[simp] theorem State.withholdAll_keeps (s : State) :
    (State.withholdAll s).pwr = s.pwr ∧ (State.withholdAll s).hst.links = s.hst.links ∧
    (State.withholdAll s).hst.heads = s.hst.heads ∧ (State.withholdAll s).wb = s.wb ∧ (State.withholdAll s).flt = s.flt ∧
    (State.withholdAll s).easy = s.easy ∧ (State.withholdAll s).coreLink = s.coreLink := by
  have k := State.withholdAll_keep (covers_self _) (Keep.refl _ s)
  exact ⟨k.pwr (by decide), field_same k .hstLinks (by decide), field_same k .hstHeads (by decide), k.wb (by decide), k.flt (by decide),
    k.easy (by decide), State.coreLink_congr (field_same k .hstLinks (by decide))⟩

@[simp] theorem State.zeroMargins_keeps (s : State) :
    (State.zeroMargins s).pwr.state = s.pwr.state ∧ (State.zeroMargins s).pwr.switchClosed = s.pwr.switchClosed ∧
    (State.zeroMargins s).pwr.keelPath = s.pwr.keelPath ∧ (State.zeroMargins s).pwr.breaker = s.pwr.breaker ∧
    (State.zeroMargins s).pwr.inputGood = s.pwr.inputGood ∧ (State.zeroMargins s).pwr.overvoltage = s.pwr.overvoltage ∧
    (State.zeroMargins s).pwr.lossCount = s.pwr.lossCount ∧ (State.zeroMargins s).pwr.tripCount = s.pwr.tripCount ∧
    (State.zeroMargins s).bank = s.bank ∧ (State.zeroMargins s).hst = s.hst ∧ (State.zeroMargins s).wb = s.wb ∧
    (State.zeroMargins s).flt = s.flt ∧ (State.zeroMargins s).easy = s.easy ∧ (State.zeroMargins s).coreLink = s.coreLink := by
  have k := State.zeroMargins_keep (covers_self _) (Keep.refl _ s)
  exact ⟨field_same k .pwrState (by decide), field_same k .pwrSwitchClosed (by decide), field_same k .pwrKeelPath (by decide),
    field_same k .pwrBreaker (by decide), field_same k .pwrInputGood (by decide), field_same k .pwrOvervoltage (by decide),
    field_same k .pwrLossCount (by decide), field_same k .pwrTripCount (by decide), k.bank (by decide), k.hst (by decide),
    k.wb (by decide), k.flt (by decide), k.easy (by decide), State.coreLink_congr (field_same k .hstLinks (by decide))⟩

@[simp] theorem State.easyBegin_keeps (s : State) (a0) :
    (State.easyBegin a0 s).pwr.modrstLow = s.pwr.modrstLow ∧ (State.easyBegin a0 s).easy.causes = s.easy.causes := by
  have k := State.easyBegin_keep (covers_self _) (Keep.refl _ s) a0
  exact ⟨field_same k .pwrModrstLow (by decide), field_same k .easyCauses (by decide)⟩

@[simp] theorem State.easyEnter_keeps (s : State) (a0) :
    (State.easyEnter a0 s).pwr.inputMv = s.pwr.inputMv ∧ (State.easyEnter a0 s).pwr.pairA = s.pwr.pairA ∧
    (State.easyEnter a0 s).pwr.pairB = s.pwr.pairB ∧ (State.easyEnter a0 s).pwr.peakMw = s.pwr.peakMw ∧
    (State.easyEnter a0 s).pwr.switchClosed = s.pwr.switchClosed ∧ (State.easyEnter a0 s).pwr.keelPath = s.pwr.keelPath ∧
    (State.easyEnter a0 s).pwr.breaker = s.pwr.breaker ∧ (State.easyEnter a0 s).pwr.inputGood = s.pwr.inputGood ∧
    (State.easyEnter a0 s).pwr.overvoltage = s.pwr.overvoltage ∧ (State.easyEnter a0 s).pwr.inputLow = s.pwr.inputLow ∧
    (State.easyEnter a0 s).pwr.dip = s.pwr.dip ∧ (State.easyEnter a0 s).pwr.shortDips = s.pwr.shortDips ∧
    (State.easyEnter a0 s).pwr.lossCount = s.pwr.lossCount ∧ (State.easyEnter a0 s).pwr.tripCount = s.pwr.tripCount ∧
    (State.easyEnter a0 s).pwr.reqOff = s.pwr.reqOff ∧ (State.easyEnter a0 s).pwr.seqState = s.pwr.seqState ∧
    (State.easyEnter a0 s).pwr.step = s.pwr.step ∧ (State.easyEnter a0 s).pwr.fastDown = s.pwr.fastDown ∧
    (State.easyEnter a0 s).pwr.mediaOnlyDown = s.pwr.mediaOnlyDown ∧ (State.easyEnter a0 s).pwr.mediaOnlyUp = s.pwr.mediaOnlyUp ∧
    (State.easyEnter a0 s).pwr.paused = s.pwr.paused ∧ (State.easyEnter a0 s).pwr.latch = s.pwr.latch ∧
    (State.easyEnter a0 s).pwr.haltDrivers = s.pwr.haltDrivers ∧ (State.easyEnter a0 s).pwr.haltSeen = s.pwr.haltSeen ∧
    (State.easyEnter a0 s).pwr.haltHold = s.pwr.haltHold ∧ (State.easyEnter a0 s).pwr.haltOutside = s.pwr.haltOutside ∧
    (State.easyEnter a0 s).pwr.counts = s.pwr.counts ∧ (State.easyEnter a0 s).pwr.haltCount = s.pwr.haltCount ∧
    (State.easyEnter a0 s).pwr.haltSource = s.pwr.haltSource ∧ (State.easyEnter a0 s).pwr.haltTime = s.pwr.haltTime ∧
    (State.easyEnter a0 s).pwr.gaLatched = s.pwr.gaLatched ∧ (State.easyEnter a0 s).pwr.gaPins = s.pwr.gaPins ∧
    (State.easyEnter a0 s).pwr.gaNow = s.pwr.gaNow ∧ (State.easyEnter a0 s).pwr.gaDiffer = s.pwr.gaDiffer ∧
    (State.easyEnter a0 s).pwr.gaMismatch = s.pwr.gaMismatch ∧ (State.easyEnter a0 s).pwr.modrstLow = s.pwr.modrstLow ∧
    (State.easyEnter a0 s).pwr.tap = s.pwr.tap ∧ (State.easyEnter a0 s).pwr.lostClocks = s.pwr.lostClocks ∧
    (State.easyEnter a0 s).pwr.keelFallback = s.pwr.keelFallback ∧ (State.easyEnter a0 s).pwr.marginOn = s.pwr.marginOn ∧
    (State.easyEnter a0 s).rdp = s.rdp ∧ (State.easyEnter a0 s).flt.sticky = s.flt.sticky ∧
    (State.easyEnter a0 s).flt.units = s.flt.units ∧ (State.easyEnter a0 s).flt.fences = s.flt.fences ∧
    (State.easyEnter a0 s).flt.lastC3 = s.flt.lastC3 ∧ (State.easyEnter a0 s).easy.slots = s.easy.slots ∧
    (State.easyEnter a0 s).slot = s.slot := by
  have k := State.easyEnter_keep (covers_self _) (Keep.refl _ s) a0
  exact ⟨field_same k .pwrInputMv (by decide), field_same k .pwrPairA (by decide), field_same k .pwrPairB (by decide),
    field_same k .pwrPeakMw (by decide), field_same k .pwrSwitchClosed (by decide), field_same k .pwrKeelPath (by decide),
    field_same k .pwrBreaker (by decide), field_same k .pwrInputGood (by decide), field_same k .pwrOvervoltage (by decide),
    field_same k .pwrInputLow (by decide), field_same k .pwrDip (by decide), field_same k .pwrShortDips (by decide),
    field_same k .pwrLossCount (by decide), field_same k .pwrTripCount (by decide), field_same k .pwrReqOff (by decide),
    field_same k .pwrSeqState (by decide), field_same k .pwrStep (by decide), field_same k .pwrFastDown (by decide),
    field_same k .pwrMediaOnlyDown (by decide), field_same k .pwrMediaOnlyUp (by decide), field_same k .pwrPaused (by decide),
    field_same k .pwrLatch (by decide), field_same k .pwrHaltDrivers (by decide), field_same k .pwrHaltSeen (by decide),
    field_same k .pwrHaltHold (by decide), field_same k .pwrHaltOutside (by decide), field_same k .pwrCounts (by decide),
    field_same k .pwrHaltCount (by decide), field_same k .pwrHaltSource (by decide), field_same k .pwrHaltTime (by decide),
    field_same k .pwrGaLatched (by decide), field_same k .pwrGaPins (by decide), field_same k .pwrGaNow (by decide),
    field_same k .pwrGaDiffer (by decide), field_same k .pwrGaMismatch (by decide), field_same k .pwrModrstLow (by decide),
    field_same k .pwrTap (by decide), field_same k .pwrLostClocks (by decide), field_same k .pwrKeelFallback (by decide),
    field_same k .pwrMarginOn (by decide), k.rdp (by decide), field_same k .fltSticky (by decide), field_same k .fltUnits (by decide),
    field_same k .fltFences (by decide), field_same k .fltLastC3 (by decide), field_same k .easySlots (by decide),
    State.slot_congr (field_same k .objSlots (by decide))⟩

@[simp] theorem State.report_keeps (s : State) (a0) (a1) (a2) :
    (State.report a0 a1 a2 s).pwr.dip = s.pwr.dip ∧ (State.report a0 a1 a2 s).pwr.shortDips = s.pwr.shortDips ∧
    (State.report a0 a1 a2 s).bank = s.bank ∧ (State.report a0 a1 a2 s).thm = s.thm ∧
    (State.report a0 a1 a2 s).wb.writing = s.wb.writing ∧ (State.report a0 a1 a2 s).wb.starvedCount = s.wb.starvedCount ∧
    (State.report a0 a1 a2 s).itg = s.itg ∧ (State.report a0 a1 a2 s).flt.units = s.flt.units ∧
    (State.report a0 a1 a2 s).str = s.str ∧ (State.report a0 a1 a2 s).cox = s.cox ∧ (State.report a0 a1 a2 s).fls = s.fls ∧
    (State.report a0 a1 a2 s).par.retired = s.par.retired ∧ (State.report a0 a1 a2 s).par.spares = s.par.spares ∧
    (State.report a0 a1 a2 s).channel = s.channel ∧ (State.report a0 a1 a2 s).entry = s.entry := by
  have k := State.report_keep (covers_self _) (Keep.refl _ s) a0 a1 a2
  exact ⟨field_same k .pwrDip (by decide), field_same k .pwrShortDips (by decide), k.bank (by decide), k.thm (by decide),
    field_same k .wbWriting (by decide), field_same k .wbStarvedCount (by decide), k.itg (by decide),
    field_same k .fltUnits (by decide), k.str (by decide), k.cox (by decide), k.fls (by decide), field_same k .parRetired (by decide),
    field_same k .parSpares (by decide), State.channel_congr (field_same k .medChannels (by decide)),
    State.entry_congr (field_same k .trcMap (by decide))⟩

@[simp] theorem State.ticketDone_keeps (s : State) (a0) (a1) (a2) :
    (State.ticketDone a0 a1 a2 s).pwr = s.pwr ∧ (State.ticketDone a0 a1 a2 s).bank = s.bank ∧
    (State.ticketDone a0 a1 a2 s).ext = s.ext ∧ (State.ticketDone a0 a1 a2 s).trc = s.trc ∧
    (State.ticketDone a0 a1 a2 s).itg = s.itg ∧ (State.ticketDone a0 a1 a2 s).scr = s.scr ∧
    (State.ticketDone a0 a1 a2 s).flt = s.flt ∧ (State.ticketDone a0 a1 a2 s).easy = s.easy ∧
    (State.ticketDone a0 a1 a2 s).str = s.str ∧ (State.ticketDone a0 a1 a2 s).cox = s.cox ∧
    (State.ticketDone a0 a1 a2 s).fls = s.fls ∧ (State.ticketDone a0 a1 a2 s).img = s.img ∧
    (State.ticketDone a0 a1 a2 s).pair = s.pair ∧ (State.ticketDone a0 a1 a2 s).region = s.region ∧
    (State.ticketDone a0 a1 a2 s).entry = s.entry ∧ (State.ticketDone a0 a1 a2 s).coxUp = s.coxUp := by
  have k := State.ticketDone_keep (covers_self _) (Keep.refl _ s) a0 a1 a2
  exact ⟨k.pwr (by decide), k.bank (by decide), k.ext (by decide), k.trc (by decide), k.itg (by decide), k.scr (by decide),
    k.flt (by decide), k.easy (by decide), k.str (by decide), k.cox (by decide), k.fls (by decide), k.img (by decide),
    State.pair_congr (field_same k .extPairs (by decide)), State.region_congr (field_same k .extRegions (by decide)),
    State.entry_congr (field_same k .trcMap (by decide)),
    State.coxUp_congr (field_same k .coxState (by decide)) (field_same k .pwrState (by decide))⟩

@[simp] theorem State.ticketStart_keeps (s : State) (a0) (a1) (a2) :
    (State.ticketStart a0 a1 a2 s).2.tim = s.tim ∧ (State.ticketStart a0 a1 a2 s).2.pwr = s.pwr ∧
    (State.ticketStart a0 a1 a2 s).2.bank = s.bank ∧ (State.ticketStart a0 a1 a2 s).2.thm = s.thm ∧
    (State.ticketStart a0 a1 a2 s).2.hst = s.hst ∧ (State.ticketStart a0 a1 a2 s).2.ext = s.ext ∧
    (State.ticketStart a0 a1 a2 s).2.wb = s.wb ∧ (State.ticketStart a0 a1 a2 s).2.trc = s.trc ∧
    (State.ticketStart a0 a1 a2 s).2.itg = s.itg ∧ (State.ticketStart a0 a1 a2 s).2.scr = s.scr ∧
    (State.ticketStart a0 a1 a2 s).2.stg = s.stg ∧ (State.ticketStart a0 a1 a2 s).2.flt = s.flt ∧
    (State.ticketStart a0 a1 a2 s).2.easy = s.easy ∧ (State.ticketStart a0 a1 a2 s).2.cox = s.cox ∧
    (State.ticketStart a0 a1 a2 s).2.img = s.img ∧ (State.ticketStart a0 a1 a2 s).2.log.areaF = s.log.areaF ∧
    (State.ticketStart a0 a1 a2 s).2.pair = s.pair ∧ (State.ticketStart a0 a1 a2 s).2.extent = s.extent ∧
    (State.ticketStart a0 a1 a2 s).2.region = s.region ∧ (State.ticketStart a0 a1 a2 s).2.coxUp = s.coxUp ∧
    (State.ticketStart a0 a1 a2 s).2.inService = s.inService := by
  have k := State.ticketStart_keep (covers_self _) (Keep.refl _ s) a0 a1 a2
  exact ⟨k.tim (by decide), k.pwr (by decide), k.bank (by decide), k.thm (by decide), k.hst (by decide), k.ext (by decide),
    k.wb (by decide), k.trc (by decide), k.itg (by decide), k.scr (by decide), k.stg (by decide), k.flt (by decide),
    k.easy (by decide), k.cox (by decide), k.img (by decide), field_same k .logAreaF (by decide),
    State.pair_congr (field_same k .extPairs (by decide)), State.extent_congr (field_same k .extExtents (by decide)),
    State.region_congr (field_same k .extRegions (by decide)),
    State.coxUp_congr (field_same k .coxState (by decide)) (field_same k .pwrState (by decide)),
    State.inService_congr (field_same k .pwrState (by decide))⟩

@[simp] theorem State.storeConfig_keeps (s : State) :
    (State.storeConfig s).thm = s.thm ∧ (State.storeConfig s).wop = s.wop := by
  have k := State.storeConfig_keep (covers_self _) (Keep.refl _ s)
  exact ⟨k.thm (by decide), k.wop (by decide)⟩

@[simp] theorem State.noteWriter_keeps (s : State) (a0) (a1) (a2) :
    (State.noteWriter a0 a1 a2 s).wop = s.wop := by
  have k := State.noteWriter_keep (covers_self _) (Keep.refl _ s) a0 a1 a2
  exact k.wop (by decide)

@[simp] theorem State.keepAnswer_keeps (s : State) (a0) (a1) :
    (State.keepAnswer a0 a1 s).wop.plca = s.wop.plca ∧ (State.keepAnswer a0 a1 s).wop.frames = s.wop.frames ∧
    (State.keepAnswer a0 a1 s).wop.counts = s.wop.counts ∧ (State.keepAnswer a0 a1 s).wop.conflict = s.wop.conflict ∧
    (State.keepAnswer a0 a1 s).wop.answerDue = s.wop.answerDue ∧ (State.keepAnswer a0 a1 s).wop.keys = s.wop.keys ∧
    (State.keepAnswer a0 a1 s).wop.keyDraws = s.wop.keyDraws ∧ (State.keepAnswer a0 a1 s).wop.tagFails = s.wop.tagFails ∧
    (State.keepAnswer a0 a1 s).wop.bulks = s.wop.bulks ∧ (State.keepAnswer a0 a1 s).wop.nextBulk = s.wop.nextBulk := by
  have k := State.keepAnswer_keep (covers_self _) (Keep.refl _ s) a0 a1
  exact ⟨field_same k .wopPlca (by decide), field_same k .wopFrames (by decide), field_same k .wopCounts (by decide),
    field_same k .wopConflict (by decide), field_same k .wopAnswerDue (by decide), field_same k .wopKeys (by decide),
    field_same k .wopKeyDraws (by decide), field_same k .wopTagFails (by decide), field_same k .wopBulks (by decide),
    field_same k .wopNextBulk (by decide)⟩

@[simp] theorem State.closeSess_keeps (s : State) (a0) :
    (State.closeSess a0 s).wop.keys = s.wop.keys := by
  have k := State.closeSess_keep (covers_self _) (Keep.refl _ s) a0
  exact field_same k .wopKeys (by decide)

@[simp] theorem State.applyMode_keeps (s : State) (a0) :
    (State.applyMode a0 s).pwr = s.pwr ∧ (State.applyMode a0 s).wb = s.wb ∧ (State.applyMode a0 s).flt = s.flt ∧
    (State.applyMode a0 s).easy = s.easy ∧ (State.applyMode a0 s).cox = s.cox := by
  have k := State.applyMode_keep (covers_self _) (Keep.refl _ s) a0
  exact ⟨k.pwr (by decide), k.wb (by decide), k.flt (by decide), k.easy (by decide), k.cox (by decide)⟩

@[simp] theorem State.signalViral_keeps (s : State) (a0) :
    (State.signalViral a0 s).pwr = s.pwr ∧ (State.signalViral a0 s).wb = s.wb ∧ (State.signalViral a0 s).easy = s.easy := by
  have k := State.signalViral_keep (covers_self _) (Keep.refl _ s) a0
  exact ⟨k.pwr (by decide), k.wb (by decide), k.easy (by decide)⟩

@[simp] theorem State.train_keeps (s : State) (a0) :
    (State.train a0 s).pwr = s.pwr ∧ (State.train a0 s).wb = s.wb ∧ (State.train a0 s).flt = s.flt ∧
    (State.train a0 s).easy = s.easy ∧ (State.train a0 s).cox = s.cox := by
  have k := State.train_keep (covers_self _) (Keep.refl _ s) a0
  exact ⟨k.pwr (by decide), k.wb (by decide), k.flt (by decide), k.easy (by decide), k.cox (by decide)⟩

@[simp] theorem State.securityFrom_keeps (s : State) (a0) (a1) (a2) (a3) (a4) :
    (State.securityFrom a0 a1 a2 a3 a4 s).wop.tagFails = s.wop.tagFails ∧ (State.securityFrom a0 a1 a2 a3 a4 s).free = s.free := by
  have k := State.securityFrom_keep (covers_self _) (Keep.refl _ s) a0 a1 a2 a3 a4
  exact ⟨field_same k .wopTagFails (by decide), field_same k .free (by decide)⟩

@[simp] theorem State.security_keeps (s : State) (a0) (a1) (a2) (a3) :
    (State.security a0 a1 a2 a3 s).pwr.tap = s.pwr.tap ∧ (State.security a0 a1 a2 a3 s).itg = s.itg ∧
    (State.security a0 a1 a2 a3 s).str = s.str := by
  have k := State.security_keep (covers_self _) (Keep.refl _ s) a0 a1 a2 a3
  exact ⟨field_same k .pwrTap (by decide), k.itg (by decide), k.str (by decide)⟩

@[simp] theorem State.easySlots_keeps (s : State) (a0) (a1) :
    (State.easySlots a0 a1 s).pwr = s.pwr ∧ (State.easySlots a0 a1 s).wb = s.wb ∧ (State.easySlots a0 a1 s).itg = s.itg ∧
    (State.easySlots a0 a1 s).easy.state = s.easy.state ∧ (State.easySlots a0 a1 s).easy.causes = s.easy.causes ∧
    (State.easySlots a0 a1 s).easy.thenDown = s.easy.thenDown ∧ (State.easySlots a0 a1 s).coreLink = s.coreLink := by
  have k := State.easySlots_keep (covers_self _) (Keep.refl _ s) a0 a1
  exact ⟨k.pwr (by decide), k.wb (by decide), k.itg (by decide), field_same k .easyState (by decide), field_same k .easyCauses (by decide),
    field_same k .easyThenDown (by decide), State.coreLink_congr (field_same k .hstLinks (by decide))⟩

@[simp] theorem State.easyLeave_keeps (s : State) :
    (State.easyLeave s).flt = s.flt ∧ (State.easyLeave s).easy.causes = s.easy.causes := by
  have k := State.easyLeave_keep (covers_self _) (Keep.refl _ s)
  exact ⟨k.flt (by decide), field_same k .easyCauses (by decide)⟩

@[simp] theorem State.easyCheck_keeps (s : State) :
    (State.easyCheck s).itg = s.itg := by
  have k := State.easyCheck_keep (covers_self _) (Keep.refl _ s)
  exact k.itg (by decide)

/-! ## An entry of a table after a write -/

@[simp] theorem State.modPort_port (n : Nat) (f : PortS → PortS) (s : State) : (s.modPort n f).port n = f (s.port n) :=
  Tab.rd_mod_same _ _ _ _

@[simp] theorem State.modLink_link (n : Nat) (f : LinkS → LinkS) (s : State) : (s.modLink n f).link n = f (s.link n) :=
  Tab.rd_mod_same _ _ _ _

@[simp] theorem State.modHead_head (n : Nat) (f : HeadS → HeadS) (s : State) : (s.modHead n f).head n = f (s.head n) :=
  Tab.rd_mod_same _ _ _ _

theorem State.modHead_head_ne {n m : Nat} (f : HeadS → HeadS) {s : State} (other : m ≠ n) (wf : Tab.wf (fun _ => {}) s.hst.heads = true) :
    (s.modHead n f).head m = s.head m :=
  Tab.rd_mod_ne _ _ f other wf

@[simp] theorem State.modUnit_unit (n : Nat) (f : UnitS → UnitS) (s : State) : (s.modUnit n f).unit n = f (s.unit n) :=
  Tab.rd_mod_same _ _ _ _

theorem State.modUnit_unit_ne {n m : Nat} (f : UnitS → UnitS) {s : State} (other : m ≠ n) (wf : Tab.wf (fun _ => {}) s.flt.units = true) :
    (s.modUnit n f).unit m = s.unit m :=
  Tab.rd_mod_ne _ _ f other wf

@[simp] theorem State.modDomain_domain (n : Nat) (f : DomainS → DomainS) (s : State) : (s.modDomain n f).domain n = f (s.domain n) :=
  Tab.rd_mod_same _ _ _ _

@[simp] theorem State.modRegion_region (n : Nat) (f : RegionS → RegionS) (s : State) : (s.modRegion n f).region n = f (s.region n) :=
  Tab.rd_mod_same _ _ _ _

@[simp] theorem State.modPlane_plane (n : Nat) (f : PlaneS → PlaneS) (s : State) : (s.modPlane n f).plane n = f (s.plane n) :=
  Tab.rd_mod_same _ _ _ _

@[simp] theorem State.modChannel_channel (n : Nat) (f : ChannelS → ChannelS) (s : State) : (s.modChannel n f).channel n = f (s.channel n) :=
  Tab.rd_mod_same _ _ _ _

@[simp] theorem State.modSram_sram (n : Nat) (f : SramS → SramS) (s : State) : (s.modSram n f).sram n = f (s.sram n) :=
  Tab.rd_mod_same _ _ _ _

@[simp] theorem State.modRebuild_rebuild (n : Nat) (f : RebuildS → RebuildS) (s : State) : (s.modRebuild n f).rebuild n = f (s.rebuild n) :=
  Tab.rd_mod_same _ _ _ _

@[simp] theorem State.modSession_session (n : Nat) (f : SessS → SessS) (s : State) : (s.modSession n f).session n = f (s.session n) :=
  Tab.rd_mod_same _ _ _ _

@[simp] theorem State.modSlot_slot (n : Nat) (f : Slot → Slot) (s : State) : (s.modSlot n f).slot n = f (s.slot n) :=
  Tab.rd_mod_same _ _ _ _

@[simp] theorem State.modInput_input (n : Nat) (f : SensorS → SensorS) (s : State) : (s.modInput n f).input n = f (s.input n) :=
  Tab.rd_mod_same _ _ _ _

@[simp] theorem State.modPair_pair (e h : Nat) (f : PairS → PairS) (s : State) : (s.modPair e h f).pair e h = f (s.pair e h) :=
  Tab.rd_mod_same _ _ _ _

@[simp] theorem State.modEntry_entry (n : Nat) (f : MapEntry → MapEntry) (s : State) : (s.modEntry n f).entry n = f (s.entry n) :=
  Tab.get_put_same _ _ _ _

theorem State.modEntry_entry_ne {n m : Nat} (f : MapEntry → MapEntry) {s : State} (other : m ≠ n) (wf : Tab.wf shipEntry s.trc.map = true) :
    (s.modEntry n f).entry m = s.entry m :=
  Tab.get_put_ne _ _ _ other wf

@[simp] theorem State.setCfg_cfg (idx mem v : Nat) (s : State) : (s.setCfg idx mem v).cfg idx mem = v :=
  Tab.get_put_same _ _ _ _

/-! ## The tables of a canonical state -/

theorem State.canonical_obj {s : State} (canonical : s.canonical = true) : s.obj.canonical = true := by
  simp only [State.canonical, Bool.and_eq_true] at canonical
  tauto

theorem State.obj_vals_wf {s : State} (canonical : s.canonical = true) : Tab.wf defaultOf s.obj.vals = true := by
  have group := State.canonical_obj canonical
  simp only [ObjS.canonical, Bool.and_eq_true] at group
  tauto

theorem State.canonical_hst {s : State} (canonical : s.canonical = true) : s.hst.canonical = true := by
  simp only [State.canonical, Bool.and_eq_true] at canonical
  tauto

theorem State.hst_heads_wf {s : State} (canonical : s.canonical = true) : Tab.wf (fun _ => {}) s.hst.heads = true := by
  have group := State.canonical_hst canonical
  simp only [HostS.canonical, Bool.and_eq_true] at group
  tauto

theorem State.canonical_wb {s : State} (canonical : s.canonical = true) : s.wb.canonical = true := by
  simp only [State.canonical, Bool.and_eq_true] at canonical
  tauto

theorem State.wb_ents_wf {s : State} (canonical : s.canonical = true) : Tab.wf (fun _ => {}) s.wb.ents = true := by
  have group := State.canonical_wb canonical
  simp only [WbS.canonical] at group
  tauto

theorem State.canonical_trc {s : State} (canonical : s.canonical = true) : s.trc.canonical = true := by
  simp only [State.canonical, Bool.and_eq_true] at canonical
  tauto

theorem State.trc_map_wf {s : State} (canonical : s.canonical = true) : Tab.wf shipEntry s.trc.map = true := by
  have group := State.canonical_trc canonical
  simp only [TractS.canonical, Bool.and_eq_true] at group
  tauto

theorem State.trc_peak_wf {s : State} (canonical : s.canonical = true) : Tab.wf (fun _ => 0) s.trc.peak = true := by
  have group := State.canonical_trc canonical
  simp only [TractS.canonical, Bool.and_eq_true] at group
  tauto

theorem State.trc_epoch_wf {s : State} (canonical : s.canonical = true) : Tab.wf (fun _ => 0) s.trc.epoch = true := by
  have group := State.canonical_trc canonical
  simp only [TractS.canonical, Bool.and_eq_true] at group
  tauto

theorem State.canonical_flt {s : State} (canonical : s.canonical = true) : s.flt.canonical = true := by
  simp only [State.canonical, Bool.and_eq_true] at canonical
  tauto

theorem State.flt_units_wf {s : State} (canonical : s.canonical = true) : Tab.wf (fun _ => {}) s.flt.units = true := by
  have group := State.canonical_flt canonical
  simp only [FaultS.canonical, Bool.and_eq_true] at group
  tauto

theorem State.canonical_wop {s : State} (canonical : s.canonical = true) : s.wop.canonical = true := by
  simp only [State.canonical, Bool.and_eq_true] at canonical
  tauto

theorem State.wop_sess_wf {s : State} (canonical : s.canonical = true) : Tab.wf (fun _ => {}) s.wop.sess = true := by
  have group := State.canonical_wop canonical
  simp only [WopS.canonical] at group
  tauto

@[simp] theorem State.reserveSeq_keeps (s : State) :
    (State.reserveSeq s).tim = s.tim := by
  have k := State.reserveSeq_keep (covers_self _) (Keep.refl _ s)
  exact k.tim (by decide)

@[simp] theorem State.draw_keeps (s : State) :
    (State.draw s).2.flt = s.flt ∧ (State.draw s).2.wop = s.wop ∧ (State.draw s).2.keelOn = s.keelOn := by
  have k := State.draw_keep (covers_self _) (Keep.refl _ s)
  exact ⟨k.flt (by decide), k.wop (by decide), State.keelOn_congr (field_same k .pwrState (by decide))⟩

@[simp] theorem State.cxlEvent_keeps (s : State) (a0) (a1) :
    (State.cxlEvent a0 a1 s).ext = s.ext ∧ (State.cxlEvent a0 a1 s).pair = s.pair ∧ (State.cxlEvent a0 a1 s).slot = s.slot ∧
    (State.cxlEvent a0 a1 s).coxUp = s.coxUp := by
  have k := State.cxlEvent_keep (covers_self _) (Keep.refl _ s) a0 a1
  exact ⟨k.ext (by decide), State.pair_congr (field_same k .extPairs (by decide)), State.slot_congr (field_same k .objSlots (by decide)),
    State.coxUp_congr (field_same k .coxState (by decide)) (field_same k .pwrState (by decide))⟩

@[simp] theorem State.plcaStart_keeps (s : State) :
    (State.plcaStart s).flt = s.flt := by
  have k := State.plcaStart_keep (covers_self _) (Keep.refl _ s)
  exact k.flt (by decide)

@[simp] theorem State.afterCfg_keeps (s : State) (a0) (a1) :
    (State.afterCfg a0 a1 s).wop.sess = s.wop.sess := by
  have k := State.afterCfg_keep (covers_self _) (Keep.refl _ s) a0 a1
  exact field_same k .wopSess (by decide)

@[simp] theorem State.setCursor_keeps (s : State) (a0) (a1) (a2) :
    (State.setCursor a0 a1 a2 s).out = s.out := by
  have k := State.setCursor_keep (covers_self _) (Keep.refl _ s) a0 a1 a2
  exact k.out (by decide)

@[simp] theorem State.freeTract_keeps (s : State) (a0) (a1) :
    (State.freeTract a0 a1 s).trc.migs = s.trc.migs ∧ (State.freeTract a0 a1 s).entry = s.entry := by
  have k := State.freeTract_keep (covers_self _) (Keep.refl _ s) a0 a1
  exact ⟨field_same k .trcMigs (by decide), State.entry_congr (field_same k .trcMap (by decide))⟩

@[simp] theorem State.heatOf_keeps (s : State) (a0) :
    (State.heatOf a0 s).pwr = s.pwr ∧ (State.heatOf a0 s).flt = s.flt ∧ (State.heatOf a0 s).easy = s.easy := by
  have k := State.heatOf_keep (covers_self _) (Keep.refl _ s) a0
  exact ⟨k.pwr (by decide), k.flt (by decide), k.easy (by decide)⟩

@[simp] theorem State.wear_keeps (s : State) (a0) :
    (State.wear a0 s).pwr = s.pwr ∧ (State.wear a0 s).med = s.med ∧ (State.wear a0 s).flt = s.flt ∧ (State.wear a0 s).easy = s.easy := by
  have k := State.wear_keep (covers_self _) (Keep.refl _ s) a0
  exact ⟨k.pwr (by decide), k.med (by decide), k.flt (by decide), k.easy (by decide)⟩

@[simp] theorem State.putGranule_keeps (s : State) (a0) (a1) :
    (State.putGranule a0 a1 s).pwr = s.pwr ∧ (State.putGranule a0 a1 s).flt = s.flt ∧ (State.putGranule a0 a1 s).easy = s.easy := by
  have k := State.putGranule_keep (covers_self _) (Keep.refl _ s) a0 a1
  exact ⟨k.pwr (by decide), k.flt (by decide), k.easy (by decide)⟩

@[simp] theorem State.checkpointB_keeps (s : State) (a0) :
    (State.checkpointB a0 s).trc.map = s.trc.map ∧ (State.checkpointB a0 s).trc.ckptA = s.trc.ckptA ∧
    (State.checkpointB a0 s).trc.peak = s.trc.peak ∧ (State.checkpointB a0 s).trc.peakBase = s.trc.peakBase ∧
    (State.checkpointB a0 s).trc.peakCkpt = s.trc.peakCkpt ∧ (State.checkpointB a0 s).trc.peakCkptB = s.trc.peakCkptB ∧
    (State.checkpointB a0 s).trc.baseCkpt = s.trc.baseCkpt ∧ (State.checkpointB a0 s).trc.actCkpt = s.trc.actCkpt ∧
    (State.checkpointB a0 s).trc.actCkptB = s.trc.actCkptB ∧ (State.checkpointB a0 s).trc.directory = s.trc.directory ∧
    (State.checkpointB a0 s).trc.scans = s.trc.scans ∧ (State.checkpointB a0 s).trc.counted = s.trc.counted ∧
    (State.checkpointB a0 s).trc.dirtyPts = s.trc.dirtyPts ∧ (State.checkpointB a0 s).trc.migs = s.trc.migs ∧
    (State.checkpointB a0 s).trc.readsOn = s.trc.readsOn ∧ (State.checkpointB a0 s).trc.lastRow = s.trc.lastRow ∧
    (State.checkpointB a0 s).trc.completed = s.trc.completed ∧ (State.checkpointB a0 s).trc.abandoned = s.trc.abandoned ∧
    (State.checkpointB a0 s).trc.retired = s.trc.retired ∧ (State.checkpointB a0 s).trc.refreshed = s.trc.refreshed ∧
    (State.checkpointB a0 s).trc.sweep = s.trc.sweep ∧ (State.checkpointB a0 s).trc.lastScan = s.trc.lastScan ∧
    (State.checkpointB a0 s).trc.decided = s.trc.decided ∧ (State.checkpointB a0 s).trc.counts = s.trc.counts ∧
    (State.checkpointB a0 s).trc.spareRows = s.trc.spareRows := by
  have k := State.checkpointB_keep (covers_self _) (Keep.refl _ s) a0
  exact ⟨field_same k .trcMap (by decide), field_same k .trcCkptA (by decide), field_same k .trcPeak (by decide),
    field_same k .trcPeakBase (by decide), field_same k .trcPeakCkpt (by decide), field_same k .trcPeakCkptB (by decide),
    field_same k .trcBaseCkpt (by decide), field_same k .trcActCkpt (by decide), field_same k .trcActCkptB (by decide),
    field_same k .trcDirectory (by decide), field_same k .trcScans (by decide), field_same k .trcCounted (by decide),
    field_same k .trcDirtyPts (by decide), field_same k .trcMigs (by decide), field_same k .trcReadsOn (by decide),
    field_same k .trcLastRow (by decide), field_same k .trcCompleted (by decide), field_same k .trcAbandoned (by decide),
    field_same k .trcRetired (by decide), field_same k .trcRefreshed (by decide), field_same k .trcSweep (by decide),
    field_same k .trcLastScan (by decide), field_same k .trcDecided (by decide), field_same k .trcCounts (by decide),
    field_same k .trcSpareRows (by decide)⟩

@[simp] theorem State.checkpointA_keeps (s : State) (a0) :
    (State.checkpointA a0 s).trc.ckptB = s.trc.ckptB ∧ (State.checkpointA a0 s).trc.migs = s.trc.migs ∧
    (State.checkpointA a0 s).entry = s.entry := by
  have k := State.checkpointA_keep (covers_self _) (Keep.refl _ s) a0
  exact ⟨field_same k .trcCkptB (by decide), field_same k .trcMigs (by decide), State.entry_congr (field_same k .trcMap (by decide))⟩

@[simp] theorem State.checkpoint_keeps (s : State) (a0) :
    (State.checkpoint a0 s).trc.map = s.trc.map ∧ (State.checkpoint a0 s).trc.peak = s.trc.peak ∧
    (State.checkpoint a0 s).trc.peakBase = s.trc.peakBase ∧ (State.checkpoint a0 s).trc.peakCkpt = s.trc.peakCkpt ∧
    (State.checkpoint a0 s).trc.peakCkptB = s.trc.peakCkptB ∧ (State.checkpoint a0 s).trc.baseCkpt = s.trc.baseCkpt ∧
    (State.checkpoint a0 s).trc.actCkpt = s.trc.actCkpt ∧ (State.checkpoint a0 s).trc.actCkptB = s.trc.actCkptB ∧
    (State.checkpoint a0 s).trc.directory = s.trc.directory ∧ (State.checkpoint a0 s).trc.scans = s.trc.scans ∧
    (State.checkpoint a0 s).trc.counted = s.trc.counted ∧ (State.checkpoint a0 s).trc.dirtyPts = s.trc.dirtyPts ∧
    (State.checkpoint a0 s).trc.migs = s.trc.migs ∧ (State.checkpoint a0 s).trc.readsOn = s.trc.readsOn ∧
    (State.checkpoint a0 s).trc.lastRow = s.trc.lastRow ∧ (State.checkpoint a0 s).trc.completed = s.trc.completed ∧
    (State.checkpoint a0 s).trc.abandoned = s.trc.abandoned ∧ (State.checkpoint a0 s).trc.retired = s.trc.retired ∧
    (State.checkpoint a0 s).trc.refreshed = s.trc.refreshed ∧ (State.checkpoint a0 s).trc.sweep = s.trc.sweep ∧
    (State.checkpoint a0 s).trc.lastScan = s.trc.lastScan ∧ (State.checkpoint a0 s).trc.decided = s.trc.decided ∧
    (State.checkpoint a0 s).trc.counts = s.trc.counts ∧ (State.checkpoint a0 s).trc.spareRows = s.trc.spareRows ∧
    (State.checkpoint a0 s).entry = s.entry := by
  have k := State.checkpoint_keep (covers_self _) (Keep.refl _ s) a0
  exact ⟨field_same k .trcMap (by decide), field_same k .trcPeak (by decide), field_same k .trcPeakBase (by decide),
    field_same k .trcPeakCkpt (by decide), field_same k .trcPeakCkptB (by decide), field_same k .trcBaseCkpt (by decide),
    field_same k .trcActCkpt (by decide), field_same k .trcActCkptB (by decide), field_same k .trcDirectory (by decide),
    field_same k .trcScans (by decide), field_same k .trcCounted (by decide), field_same k .trcDirtyPts (by decide),
    field_same k .trcMigs (by decide), field_same k .trcReadsOn (by decide), field_same k .trcLastRow (by decide),
    field_same k .trcCompleted (by decide), field_same k .trcAbandoned (by decide), field_same k .trcRetired (by decide),
    field_same k .trcRefreshed (by decide), field_same k .trcSweep (by decide), field_same k .trcLastScan (by decide),
    field_same k .trcDecided (by decide), field_same k .trcCounts (by decide), field_same k .trcSpareRows (by decide),
    State.entry_congr (field_same k .trcMap (by decide))⟩

@[simp] theorem State.putEntry_keeps (s : State) (a0) (a1) :
    (State.putEntry a0 a1 s).pwr = s.pwr ∧ (State.putEntry a0 a1 s).wb = s.wb ∧ (State.putEntry a0 a1 s).trc.peak = s.trc.peak ∧
    (State.putEntry a0 a1 s).trc.peakBase = s.trc.peakBase ∧ (State.putEntry a0 a1 s).trc.peakCkpt = s.trc.peakCkpt ∧
    (State.putEntry a0 a1 s).trc.peakCkptB = s.trc.peakCkptB ∧ (State.putEntry a0 a1 s).trc.baseCkpt = s.trc.baseCkpt ∧
    (State.putEntry a0 a1 s).trc.actCkpt = s.trc.actCkpt ∧ (State.putEntry a0 a1 s).trc.actCkptB = s.trc.actCkptB ∧
    (State.putEntry a0 a1 s).trc.directory = s.trc.directory ∧ (State.putEntry a0 a1 s).trc.scans = s.trc.scans ∧
    (State.putEntry a0 a1 s).trc.counted = s.trc.counted ∧ (State.putEntry a0 a1 s).trc.dirtyPts = s.trc.dirtyPts ∧
    (State.putEntry a0 a1 s).trc.migs = s.trc.migs ∧ (State.putEntry a0 a1 s).trc.readsOn = s.trc.readsOn ∧
    (State.putEntry a0 a1 s).trc.lastRow = s.trc.lastRow ∧ (State.putEntry a0 a1 s).trc.completed = s.trc.completed ∧
    (State.putEntry a0 a1 s).trc.abandoned = s.trc.abandoned ∧ (State.putEntry a0 a1 s).trc.retired = s.trc.retired ∧
    (State.putEntry a0 a1 s).trc.refreshed = s.trc.refreshed ∧ (State.putEntry a0 a1 s).trc.sweep = s.trc.sweep ∧
    (State.putEntry a0 a1 s).trc.lastScan = s.trc.lastScan ∧ (State.putEntry a0 a1 s).trc.decided = s.trc.decided ∧
    (State.putEntry a0 a1 s).trc.counts = s.trc.counts ∧ (State.putEntry a0 a1 s).trc.spareRows = s.trc.spareRows ∧
    (State.putEntry a0 a1 s).flt = s.flt ∧ (State.putEntry a0 a1 s).easy = s.easy ∧ (State.putEntry a0 a1 s).extent = s.extent ∧
    (State.putEntry a0 a1 s).cfg = s.cfg := by
  have k := State.putEntry_keep (covers_self _) (Keep.refl _ s) a0 a1
  exact ⟨k.pwr (by decide), k.wb (by decide), field_same k .trcPeak (by decide), field_same k .trcPeakBase (by decide),
    field_same k .trcPeakCkpt (by decide), field_same k .trcPeakCkptB (by decide), field_same k .trcBaseCkpt (by decide),
    field_same k .trcActCkpt (by decide), field_same k .trcActCkptB (by decide), field_same k .trcDirectory (by decide),
    field_same k .trcScans (by decide), field_same k .trcCounted (by decide), field_same k .trcDirtyPts (by decide),
    field_same k .trcMigs (by decide), field_same k .trcReadsOn (by decide), field_same k .trcLastRow (by decide),
    field_same k .trcCompleted (by decide), field_same k .trcAbandoned (by decide), field_same k .trcRetired (by decide),
    field_same k .trcRefreshed (by decide), field_same k .trcSweep (by decide), field_same k .trcLastScan (by decide),
    field_same k .trcDecided (by decide), field_same k .trcCounts (by decide), field_same k .trcSpareRows (by decide),
    k.flt (by decide), k.easy (by decide), State.extent_congr (field_same k .extExtents (by decide)),
    State.cfg_congr (field_same k .objVals (by decide))⟩

@[simp] theorem State.complete_keeps (s : State) (a0) (a1) (a2) :
    (State.complete a0 a1 a2 s).lineEnts = s.lineEnts := by
  have k := State.complete_keep (covers_self _) (Keep.refl _ s) a0 a1 a2
  exact State.lineEnts_congr (field_same k .wbEnts (by decide))

@[simp] theorem State.discardOpen_keeps (s : State) (a0) :
    (State.discardOpen a0 s).itg = s.itg := by
  have k := State.discardOpen_keep (covers_self _) (Keep.refl _ s) a0
  exact k.itg (by decide)

@[simp] theorem State.countEcc_keeps (s : State) (a0) :
    (State.countEcc a0 s).flt = s.flt ∧ (State.countEcc a0 s).entry = s.entry := by
  have k := State.countEcc_keep (covers_self _) (Keep.refl _ s) a0
  exact ⟨k.flt (by decide), State.entry_congr (field_same k .trcMap (by decide))⟩

@[simp] theorem State.queueRewrite_keeps (s : State) (a0) :
    (State.queueRewrite a0 s).flt = s.flt := by
  have k := State.queueRewrite_keep (covers_self _) (Keep.refl _ s) a0
  exact k.flt (by decide)

@[simp] theorem State.sqSeen_keeps (s : State) (a0) (a1) :
    (State.sqSeen a0 a1 s).out = s.out ∧ (State.sqSeen a0 a1 s).plane = s.plane := by
  have k := State.sqSeen_keep (covers_self _) (Keep.refl _ s) a0 a1
  exact ⟨k.out (by decide), State.plane_congr (field_same k .medPlanes (by decide))⟩

@[simp] theorem State.queueMig_keeps (s : State) (a0) (a1) :
    (State.queueMig a0 a1 s).trc.peak = s.trc.peak ∧ (State.queueMig a0 a1 s).trc.epoch = s.trc.epoch ∧
    (State.queueMig a0 a1 s).free = s.free := by
  have k := State.queueMig_keep (covers_self _) (Keep.refl _ s) a0 a1
  exact ⟨field_same k .trcPeak (by decide), field_same k .trcEpoch (by decide), field_same k .free (by decide)⟩

@[simp] theorem State.readsGrown_keeps (s : State) (a0) :
    (State.readsGrown a0 s).tim = s.tim ∧ (State.readsGrown a0 s).wb = s.wb ∧ (State.readsGrown a0 s).med = s.med ∧
    (State.readsGrown a0 s).scr = s.scr ∧ (State.readsGrown a0 s).flt = s.flt ∧ (State.readsGrown a0 s).activity = s.activity := by
  have k := State.readsGrown_keep (covers_self _) (Keep.refl _ s) a0
  exact ⟨k.tim (by decide), k.wb (by decide), k.med (by decide), k.scr (by decide), k.flt (by decide),
    State.activity_congr (field_same k .trcAct (by decide))⟩

@[simp] theorem State.countSenses_keeps (s : State) (a0) (a1) :
    (State.countSenses a0 a1 s).ext = s.ext ∧ (State.countSenses a0 a1 s).wb = s.wb ∧ (State.countSenses a0 a1 s).itg = s.itg ∧
    (State.countSenses a0 a1 s).isOut = s.isOut ∧ (State.countSenses a0 a1 s).channel = s.channel ∧
    (State.countSenses a0 a1 s).entry = s.entry := by
  have k := State.countSenses_keep (covers_self _) (Keep.refl _ s) a0 a1
  exact ⟨k.ext (by decide), k.wb (by decide), k.itg (by decide), State.isOut_congr (field_same k .fltUnits (by decide)),
    State.channel_congr (field_same k .medChannels (by decide)), State.entry_congr (field_same k .trcMap (by decide))⟩

@[simp] theorem State.countSense_keeps (s : State) (a0) :
    (State.countSense a0 s).out = s.out ∧ (State.countSense a0 s).plane = s.plane ∧ (State.countSense a0 s).entry = s.entry := by
  have k := State.countSense_keep (covers_self _) (Keep.refl _ s) a0
  exact ⟨k.out (by decide), State.plane_congr (field_same k .medPlanes (by decide)), State.entry_congr (field_same k .trcMap (by decide))⟩

@[simp] theorem State.eccSeen_keeps (s : State) (a0) (a1) (a2) (a3) :
    (State.eccSeen a0 a1 a2 a3 s).med.granules = s.med.granules ∧ (State.eccSeen a0 a1 a2 a3 s).itg = s.itg ∧
    (State.eccSeen a0 a1 a2 a3 s).extent = s.extent ∧ (State.eccSeen a0 a1 a2 a3 s).region = s.region ∧
    (State.eccSeen a0 a1 a2 a3 s).readOf = s.readOf := by
  have k := State.eccSeen_keep (covers_self _) (Keep.refl _ s) a0 a1 a2 a3
  exact ⟨field_same k .medGranules (by decide), k.itg (by decide), State.extent_congr (field_same k .extExtents (by decide)),
    State.region_congr (field_same k .extRegions (by decide)), State.readOf_congr (field_same k .rdpReads (by decide))⟩

@[simp] theorem State.modRead_keeps (s : State) (a0) (a1) :
    (State.modRead a0 a1 s).trc = s.trc ∧ (State.modRead a0 a1 s).flt = s.flt ∧ (State.modRead a0 a1 s).head = s.head := by
  have k := State.modRead_keep (covers_self _) (Keep.refl _ s) a0 a1
  exact ⟨k.trc (by decide), k.flt (by decide), State.head_congr (field_same k .hstHeads (by decide))⟩

@[simp] theorem State.addJob_keeps (s : State) (a0) :
    (State.addJob a0 s).wb = s.wb ∧ (State.addJob a0 s).isOut = s.isOut := by
  have k := State.addJob_keep (covers_self _) (Keep.refl _ s) a0
  exact ⟨k.wb (by decide), State.isOut_congr (field_same k .fltUnits (by decide))⟩

@[simp] theorem State.clearDie_keeps (s : State) (a0) (a1) :
    (State.clearDie a0 a1 s).scr = s.scr := by
  have k := State.clearDie_keep (covers_self _) (Keep.refl _ s) a0 a1
  exact k.scr (by decide)

@[simp] theorem State.startClear_keeps (s : State) (a0) :
    (State.startClear a0 s).pwr = s.pwr ∧ (State.startClear a0 s).trc = s.trc ∧ (State.startClear a0 s).flt = s.flt ∧
    (State.startClear a0 s).easy = s.easy := by
  have k := State.startClear_keep (covers_self _) (Keep.refl _ s) a0
  exact ⟨k.pwr (by decide), k.trc (by decide), k.flt (by decide), k.easy (by decide)⟩

@[simp] theorem State.readSensed_keeps (s : State) (a0) :
    (State.readSensed a0 s).readOf = s.readOf := by
  have k := State.readSensed_keep (covers_self _) (Keep.refl _ s) a0
  exact State.readOf_congr (field_same k .rdpReads (by decide))

@[simp] theorem State.decided_keeps (s : State) (a0) (a1) :
    (State.decided a0 a1 s).med.granules = s.med.granules ∧ (State.decided a0 a1 s).trc.map = s.trc.map ∧
    (State.decided a0 a1 s).itg = s.itg ∧ (State.decided a0 a1 s).flt = s.flt := by
  have k := State.decided_keep (covers_self _) (Keep.refl _ s) a0 a1
  exact ⟨field_same k .medGranules (by decide), field_same k .trcMap (by decide), k.itg (by decide), k.flt (by decide)⟩

@[simp] theorem State.alarm_keeps (s : State) (a0) (a1) :
    (State.alarm a0 a1 s).ext = s.ext ∧ (State.alarm a0 a1 s).wb.nextUnit = s.wb.nextUnit ∧
    (State.alarm a0 a1 s).itg.blocks = s.itg.blocks ∧ (State.alarm a0 a1 s).itg.rekeyState = s.itg.rekeyState ∧
    (State.alarm a0 a1 s).itg.rekeyLeft = s.itg.rekeyLeft := by
  have k := State.alarm_keep (covers_self _) (Keep.refl _ s) a0 a1
  exact ⟨k.ext (by decide), field_same k .wbNextUnit (by decide), field_same k .itgBlocks (by decide),
    field_same k .itgRekeyState (by decide), field_same k .itgRekeyLeft (by decide)⟩

@[simp] theorem State.countTagFail_keeps (s : State) :
    (State.countTagFail s).ext = s.ext ∧ (State.countTagFail s).wb = s.wb ∧ (State.countTagFail s).itg.blocks = s.itg.blocks ∧
    (State.countTagFail s).itg.rekeyState = s.itg.rekeyState ∧ (State.countTagFail s).itg.rekeyLeft = s.itg.rekeyLeft ∧
    (State.countTagFail s).flt = s.flt := by
  have k := State.countTagFail_keep (covers_self _) (Keep.refl _ s)
  exact ⟨k.ext (by decide), k.wb (by decide), field_same k .itgBlocks (by decide), field_same k .itgRekeyState (by decide),
    field_same k .itgRekeyLeft (by decide), k.flt (by decide)⟩

@[simp] theorem State.destroy_keeps (s : State) (a0) :
    (State.destroy a0 s).flt = s.flt := by
  have k := State.destroy_keep (covers_self _) (Keep.refl _ s) a0
  exact k.flt (by decide)

@[simp] theorem State.cutOff_keeps (s : State) (a0) :
    (State.cutOff a0 s).flt = s.flt := by
  have k := State.cutOff_keep (covers_self _) (Keep.refl _ s) a0
  exact k.flt (by decide)

@[simp] theorem State.engineCount_keeps (s : State) (a0) (a1) (a2) :
    (State.engineCount a0 a1 a2 s).wb = s.wb ∧ (State.engineCount a0 a1 a2 s).trc = s.trc ∧
    (State.engineCount a0 a1 a2 s).scr.patrol = s.scr.patrol ∧ (State.engineCount a0 a1 a2 s).scr.passes = s.scr.passes ∧
    (State.engineCount a0 a1 a2 s).entry = s.entry := by
  have k := State.engineCount_keep (covers_self _) (Keep.refl _ s) a0 a1 a2
  exact ⟨k.wb (by decide), k.trc (by decide), field_same k .scrPatrol (by decide), field_same k .scrPasses (by decide),
    State.entry_congr (field_same k .trcMap (by decide))⟩

@[simp] theorem State.countOp_keeps (s : State) (a0) :
    (State.countOp a0 s).pwr = s.pwr ∧ (State.countOp a0 s).flt = s.flt ∧ (State.countOp a0 s).easy = s.easy := by
  have k := State.countOp_keep (covers_self _) (Keep.refl _ s) a0
  exact ⟨k.pwr (by decide), k.flt (by decide), k.easy (by decide)⟩

@[simp] theorem State.unitDone_keeps (s : State) (a0) (a1) :
    (State.unitDone a0 a1 s).wb.ents = s.wb.ents ∧ (State.unitDone a0 a1 s).isOut = s.isOut := by
  have k := State.unitDone_keep (covers_self _) (Keep.refl _ s) a0 a1
  exact ⟨field_same k .wbEnts (by decide), State.isOut_congr (field_same k .fltUnits (by decide))⟩

@[simp] theorem State.programDone_keeps (s : State) (a0) :
    (State.programDone a0 s).pwr = s.pwr ∧ (State.programDone a0 s).flt = s.flt ∧ (State.programDone a0 s).easy = s.easy := by
  have k := State.programDone_keep (covers_self _) (Keep.refl _ s) a0
  exact ⟨k.pwr (by decide), k.flt (by decide), k.easy (by decide)⟩

@[simp] theorem State.completeOp_keeps (s : State) (a0) :
    (State.completeOp a0 s).itg = s.itg := by
  have k := State.completeOp_keep (covers_self _) (Keep.refl _ s) a0
  exact k.itg (by decide)

@[simp] theorem State.closeWindow_keeps (s : State) (a0) :
    (State.closeWindow a0 s).tim = s.tim ∧ (State.closeWindow a0 s).itg.rekeyLeft = s.itg.rekeyLeft := by
  have k := State.closeWindow_keep (covers_self _) (Keep.refl _ s) a0
  exact ⟨k.tim (by decide), field_same k .itgRekeyLeft (by decide)⟩

@[simp] theorem State.dirtySync_keeps (s : State) :
    (State.dirtySync s).wb.ents = s.wb.ents ∧ (State.dirtySync s).wb.units = s.wb.units ∧
    (State.dirtySync s).wb.inProgram = s.wb.inProgram ∧ (State.dirtySync s).trc = s.trc ∧ (State.dirtySync s).itg = s.itg ∧
    (State.dirtySync s).entry = s.entry := by
  have k := State.dirtySync_keep (covers_self _) (Keep.refl _ s)
  exact ⟨field_same k .wbEnts (by decide), field_same k .wbUnits (by decide), field_same k .wbInProgram (by decide), k.trc (by decide),
    k.itg (by decide), State.entry_congr (field_same k .trcMap (by decide))⟩

@[simp] theorem State.giveUp_keeps (s : State) (a0) (a1) :
    (State.giveUp a0 a1 s).entry = s.entry := by
  have k := State.giveUp_keep (covers_self _) (Keep.refl _ s) a0 a1
  exact State.entry_congr (field_same k .trcMap (by decide))

@[simp] theorem State.unreserve_keeps (s : State) (a0) :
    (State.unreserve a0 s).med.granules = s.med.granules ∧ (State.unreserve a0 s).med.dies = s.med.dies ∧
    (State.unreserve a0 s).med.channels = s.med.channels ∧ (State.unreserve a0 s).med.clearing = s.med.clearing ∧
    (State.unreserve a0 s).med.governor = s.med.governor ∧ (State.unreserve a0 s).med.work = s.med.work ∧
    (State.unreserve a0 s).med.checks = s.med.checks ∧ (State.unreserve a0 s).med.checksWear = s.med.checksWear ∧
    (State.unreserve a0 s).med.failures = s.med.failures ∧ (State.unreserve a0 s).trc = s.trc ∧ (State.unreserve a0 s).flt = s.flt := by
  have k := State.unreserve_keep (covers_self _) (Keep.refl _ s) a0
  exact ⟨field_same k .medGranules (by decide), field_same k .medDies (by decide), field_same k .medChannels (by decide),
    field_same k .medClearing (by decide), field_same k .medGovernor (by decide), field_same k .medWork (by decide),
    field_same k .medChecks (by decide), field_same k .medChecksWear (by decide), field_same k .medFailures (by decide),
    k.trc (by decide), k.flt (by decide)⟩

@[simp] theorem State.endGrant_keeps (s : State) (a0) :
    (State.endGrant a0 s).itg = s.itg := by
  have k := State.endGrant_keep (covers_self _) (Keep.refl _ s) a0
  exact k.itg (by decide)

@[simp] theorem State.dropWork_keeps (s : State) (a0) (a1) (a2) :
    (State.dropWork a0 a1 a2 s).pwr = s.pwr ∧ (State.dropWork a0 a1 a2 s).flt = s.flt ∧ (State.dropWork a0 a1 a2 s).easy = s.easy ∧
    (State.dropWork a0 a1 a2 s).entry = s.entry := by
  have k := State.dropWork_keep (covers_self _) (Keep.refl _ s) a0 a1 a2
  exact ⟨k.pwr (by decide), k.flt (by decide), k.easy (by decide), State.entry_congr (field_same k .trcMap (by decide))⟩

@[simp] theorem State.giveUpPt_keeps (s : State) (a0) (a1) :
    (State.giveUpPt a0 a1 s).trc.map = s.trc.map ∧ (State.giveUpPt a0 a1 s).trc.migs = s.trc.migs ∧
    (State.giveUpPt a0 a1 s).entry = s.entry := by
  have k := State.giveUpPt_keep (covers_self _) (Keep.refl _ s) a0 a1
  exact ⟨field_same k .trcMap (by decide), field_same k .trcMigs (by decide), State.entry_congr (field_same k .trcMap (by decide))⟩

@[simp] theorem State.zeroReads_keeps (s : State) (a0) :
    (State.zeroReads a0 s).wb = s.wb ∧ (State.zeroReads a0 s).trc.map = s.trc.map ∧ (State.zeroReads a0 s).trc.sweep = s.trc.sweep := by
  have k := State.zeroReads_keep (covers_self _) (Keep.refl _ s) a0
  exact ⟨k.wb (by decide), field_same k .trcMap (by decide), field_same k .trcSweep (by decide)⟩

@[simp] theorem State.request_keeps (s : State) (a0) (a1) (a2) (a3) :
    (State.request a0 a1 a2 a3 s).pwr = s.pwr ∧ (State.request a0 a1 a2 a3 s).trc = s.trc ∧
    (State.request a0 a1 a2 a3 s).flt = s.flt ∧ (State.request a0 a1 a2 a3 s).easy = s.easy := by
  have k := State.request_keep (covers_self _) (Keep.refl _ s) a0 a1 a2 a3
  exact ⟨k.pwr (by decide), k.trc (by decide), k.flt (by decide), k.easy (by decide)⟩

@[simp] theorem State.markReconstructed_keeps (s : State) (a0) :
    (State.markReconstructed a0 s).flt = s.flt := by
  have k := State.markReconstructed_keep (covers_self _) (Keep.refl _ s) a0
  exact k.flt (by decide)

@[simp] theorem State.issue_keeps (s : State) (a0) (a1) (a2) :
    (State.issue a0 a1 a2 s).flt = s.flt ∧ (State.issue a0 a1 a2 s).head = s.head ∧ (State.issue a0 a1 a2 s).readOf = s.readOf := by
  have k := State.issue_keep (covers_self _) (Keep.refl _ s) a0 a1 a2
  exact ⟨k.flt (by decide), State.head_congr (field_same k .hstHeads (by decide)), State.readOf_congr (field_same k .rdpReads (by decide))⟩

@[simp] theorem State.cachePut_keeps (s : State) (a0) (a1) :
    (State.cachePut a0 a1 s).flt = s.flt := by
  have k := State.cachePut_keep (covers_self _) (Keep.refl _ s) a0 a1
  exact k.flt (by decide)

@[simp] theorem State.loseTracts_keeps (s : State) (a0) (a1) (a2) :
    (State.loseTracts a0 a1 a2 s).wb.ents = s.wb.ents ∧ (State.loseTracts a0 a1 a2 s).wb.units = s.wb.units := by
  have k := State.loseTracts_keep (covers_self _) (Keep.refl _ s) a0 a1 a2
  exact ⟨field_same k .wbEnts (by decide), field_same k .wbUnits (by decide)⟩

@[simp] theorem State.release_keeps (s : State) (a0) :
    (State.release a0 s).itg = s.itg ∧ (State.release a0 s).flt = s.flt := by
  have k := State.release_keep (covers_self _) (Keep.refl _ s) a0
  exact ⟨k.itg (by decide), k.flt (by decide)⟩

@[simp] theorem State.grantIdle_keeps (s : State) :
    (State.grantIdle s).thm = s.thm ∧ (State.grantIdle s).flt = s.flt := by
  have k := State.grantIdle_keep (covers_self _) (Keep.refl _ s)
  exact ⟨k.thm (by decide), k.flt (by decide)⟩

@[simp] theorem State.bufferSync_keeps (s : State) :
    (State.bufferSync s).rdp = s.rdp ∧ (State.bufferSync s).wb.ents = s.wb.ents ∧ (State.bufferSync s).wb.units = s.wb.units ∧
    (State.bufferSync s).wb.inProgram = s.wb.inProgram ∧ (State.bufferSync s).wb.dirty = s.wb.dirty ∧
    (State.bufferSync s).trc = s.trc ∧ (State.bufferSync s).itg = s.itg ∧ (State.bufferSync s).entry = s.entry ∧
    (State.bufferSync s).lineEnts = s.lineEnts := by
  have k := State.bufferSync_keep (covers_self _) (Keep.refl _ s)
  exact ⟨k.rdp (by decide), field_same k .wbEnts (by decide), field_same k .wbUnits (by decide), field_same k .wbInProgram (by decide),
    field_same k .wbDirty (by decide), k.trc (by decide), k.itg (by decide), State.entry_congr (field_same k .trcMap (by decide)),
    State.lineEnts_congr (field_same k .wbEnts (by decide))⟩

@[simp] theorem State.raisePeak_keeps (s : State) (a0) (a1) :
    (State.raisePeak a0 a1 s).trc.map = s.trc.map ∧ (State.raisePeak a0 a1 s).trc.ckptA = s.trc.ckptA ∧
    (State.raisePeak a0 a1 s).trc.ckptB = s.trc.ckptB ∧ (State.raisePeak a0 a1 s).trc.act = s.trc.act ∧
    (State.raisePeak a0 a1 s).trc.peakBase = s.trc.peakBase ∧ (State.raisePeak a0 a1 s).trc.peakCkpt = s.trc.peakCkpt ∧
    (State.raisePeak a0 a1 s).trc.peakCkptB = s.trc.peakCkptB ∧ (State.raisePeak a0 a1 s).trc.baseCkpt = s.trc.baseCkpt ∧
    (State.raisePeak a0 a1 s).trc.actCkpt = s.trc.actCkpt ∧ (State.raisePeak a0 a1 s).trc.actCkptB = s.trc.actCkptB ∧
    (State.raisePeak a0 a1 s).trc.directory = s.trc.directory ∧ (State.raisePeak a0 a1 s).trc.scans = s.trc.scans ∧
    (State.raisePeak a0 a1 s).trc.counted = s.trc.counted ∧ (State.raisePeak a0 a1 s).trc.epoch = s.trc.epoch ∧
    (State.raisePeak a0 a1 s).trc.dirtyPts = s.trc.dirtyPts ∧ (State.raisePeak a0 a1 s).trc.migs = s.trc.migs ∧
    (State.raisePeak a0 a1 s).trc.readsOn = s.trc.readsOn ∧ (State.raisePeak a0 a1 s).trc.lastRow = s.trc.lastRow ∧
    (State.raisePeak a0 a1 s).trc.completed = s.trc.completed ∧ (State.raisePeak a0 a1 s).trc.abandoned = s.trc.abandoned ∧
    (State.raisePeak a0 a1 s).trc.retired = s.trc.retired ∧ (State.raisePeak a0 a1 s).trc.refreshed = s.trc.refreshed ∧
    (State.raisePeak a0 a1 s).trc.sweep = s.trc.sweep ∧ (State.raisePeak a0 a1 s).trc.lastScan = s.trc.lastScan ∧
    (State.raisePeak a0 a1 s).trc.decided = s.trc.decided ∧ (State.raisePeak a0 a1 s).trc.counts = s.trc.counts ∧
    (State.raisePeak a0 a1 s).trc.spareRows = s.trc.spareRows := by
  have k := State.raisePeak_keep (covers_self _) (Keep.refl _ s) a0 a1
  exact ⟨field_same k .trcMap (by decide), field_same k .trcCkptA (by decide), field_same k .trcCkptB (by decide),
    field_same k .trcAct (by decide), field_same k .trcPeakBase (by decide), field_same k .trcPeakCkpt (by decide),
    field_same k .trcPeakCkptB (by decide), field_same k .trcBaseCkpt (by decide), field_same k .trcActCkpt (by decide),
    field_same k .trcActCkptB (by decide), field_same k .trcDirectory (by decide), field_same k .trcScans (by decide),
    field_same k .trcCounted (by decide), field_same k .trcEpoch (by decide), field_same k .trcDirtyPts (by decide),
    field_same k .trcMigs (by decide), field_same k .trcReadsOn (by decide), field_same k .trcLastRow (by decide),
    field_same k .trcCompleted (by decide), field_same k .trcAbandoned (by decide), field_same k .trcRetired (by decide),
    field_same k .trcRefreshed (by decide), field_same k .trcSweep (by decide), field_same k .trcLastScan (by decide),
    field_same k .trcDecided (by decide), field_same k .trcCounts (by decide), field_same k .trcSpareRows (by decide)⟩

@[simp] theorem State.mapCopyFailed_keeps (s : State) (a0) :
    (State.mapCopyFailed a0 s).rdp = s.rdp ∧ (State.mapCopyFailed a0 s).wb.inProgram = s.wb.inProgram ∧
    (State.mapCopyFailed a0 s).med = s.med ∧ (State.mapCopyFailed a0 s).trc.map = s.trc.map ∧
    (State.mapCopyFailed a0 s).trc.migs = s.trc.migs ∧ (State.mapCopyFailed a0 s).itg = s.itg ∧
    (State.mapCopyFailed a0 s).unit = s.unit ∧ (State.mapCopyFailed a0 s).isOut = s.isOut ∧
    (State.mapCopyFailed a0 s).channel = s.channel ∧ (State.mapCopyFailed a0 s).rebuild = s.rebuild := by
  have k := State.mapCopyFailed_keep (covers_self _) (Keep.refl _ s) a0
  exact ⟨k.rdp (by decide), field_same k .wbInProgram (by decide), k.med (by decide), field_same k .trcMap (by decide),
    field_same k .trcMigs (by decide), k.itg (by decide), State.unit_congr (field_same k .fltUnits (by decide)),
    State.isOut_congr (field_same k .fltUnits (by decide)), State.channel_congr (field_same k .medChannels (by decide)),
    State.rebuild_congr (field_same k .scrRebuilds (by decide))⟩

@[simp] theorem State.countTraffic_keeps (s : State) (a0) (a1) (a2) :
    (State.countTraffic a0 a1 a2 s).rdp = s.rdp ∧ (State.countTraffic a0 a1 a2 s).wb = s.wb ∧
    (State.countTraffic a0 a1 a2 s).med = s.med ∧ (State.countTraffic a0 a1 a2 s).trc = s.trc ∧
    (State.countTraffic a0 a1 a2 s).itg = s.itg ∧ (State.countTraffic a0 a1 a2 s).str = s.str ∧
    (State.countTraffic a0 a1 a2 s).out = s.out ∧ (State.countTraffic a0 a1 a2 s).head = s.head ∧
    (State.countTraffic a0 a1 a2 s).unit = s.unit ∧ (State.countTraffic a0 a1 a2 s).isOut = s.isOut ∧
    (State.countTraffic a0 a1 a2 s).pair = s.pair ∧ (State.countTraffic a0 a1 a2 s).channel = s.channel ∧
    (State.countTraffic a0 a1 a2 s).rebuild = s.rebuild ∧ (State.countTraffic a0 a1 a2 s).entry = s.entry ∧
    (State.countTraffic a0 a1 a2 s).lineEnts = s.lineEnts := by
  have k := State.countTraffic_keep (covers_self _) (Keep.refl _ s) a0 a1 a2
  exact ⟨k.rdp (by decide), k.wb (by decide), k.med (by decide), k.trc (by decide), k.itg (by decide), k.str (by decide),
    k.out (by decide), State.head_congr (field_same k .hstHeads (by decide)), State.unit_congr (field_same k .fltUnits (by decide)),
    State.isOut_congr (field_same k .fltUnits (by decide)), State.pair_congr (field_same k .extPairs (by decide)),
    State.channel_congr (field_same k .medChannels (by decide)), State.rebuild_congr (field_same k .scrRebuilds (by decide)),
    State.entry_congr (field_same k .trcMap (by decide)), State.lineEnts_congr (field_same k .wbEnts (by decide))⟩

@[simp] theorem State.startSeal_keeps (s : State) :
    (State.startSeal s).pwr = s.pwr ∧ (State.startSeal s).wb.dipHeld = s.wb.dipHeld ∧ (State.startSeal s).port = s.port := by
  have k := State.startSeal_keep (covers_self _) (Keep.refl _ s)
  exact ⟨k.pwr (by decide), field_same k .wbDipHeld (by decide), State.port_congr (field_same k .hstPorts (by decide))⟩

@[simp] theorem State.sealMore_keeps (s : State) :
    (State.sealMore s).rdp = s.rdp ∧ (State.sealMore s).wb.dirty = s.wb.dirty ∧ (State.sealMore s).wb.durable = s.wb.durable ∧
    (State.sealMore s).wb.ledger = s.wb.ledger ∧ (State.sealMore s).head = s.head ∧ (State.sealMore s).lineEnts = s.lineEnts := by
  have k := State.sealMore_keep (covers_self _) (Keep.refl _ s)
  exact ⟨k.rdp (by decide), field_same k .wbDirty (by decide), field_same k .wbDurable (by decide), field_same k .wbLedger (by decide),
    State.head_congr (field_same k .hstHeads (by decide)), State.lineEnts_congr (field_same k .wbEnts (by decide))⟩

@[simp] theorem State.pairCount_keeps (s : State) (a0) (a1) :
    (State.pairCount a0 a1 s).ext = s.ext ∧ (State.pairCount a0 a1 s).rdp = s.rdp ∧ (State.pairCount a0 a1 s).wb.ents = s.wb.ents ∧
    (State.pairCount a0 a1 s).wb.units = s.wb.units ∧ (State.pairCount a0 a1 s).wb.nextUnit = s.wb.nextUnit ∧
    (State.pairCount a0 a1 s).wb.inProgram = s.wb.inProgram ∧ (State.pairCount a0 a1 s).wb.dirty = s.wb.dirty ∧
    (State.pairCount a0 a1 s).wb.durable = s.wb.durable ∧ (State.pairCount a0 a1 s).wb.lastListed = s.wb.lastListed ∧
    (State.pairCount a0 a1 s).wb.writing = s.wb.writing ∧ (State.pairCount a0 a1 s).wb.ledger = s.wb.ledger ∧
    (State.pairCount a0 a1 s).wb.ledgerSeq = s.wb.ledgerSeq ∧ (State.pairCount a0 a1 s).wb.ledgerNext = s.wb.ledgerNext ∧
    (State.pairCount a0 a1 s).wb.durableSeq = s.wb.durableSeq ∧ (State.pairCount a0 a1 s).wb.highWater = s.wb.highWater ∧
    (State.pairCount a0 a1 s).wb.costHeld = s.wb.costHeld ∧ (State.pairCount a0 a1 s).wb.ledgerHeld = s.wb.ledgerHeld ∧
    (State.pairCount a0 a1 s).wb.dipHeld = s.wb.dipHeld ∧ (State.pairCount a0 a1 s).wb.flushing = s.wb.flushing ∧
    (State.pairCount a0 a1 s).wb.flushFrom = s.wb.flushFrom ∧ (State.pairCount a0 a1 s).wb.flushBroken = s.wb.flushBroken ∧
    (State.pairCount a0 a1 s).wb.singlePairs = s.wb.singlePairs ∧ (State.pairCount a0 a1 s).wb.starvedCount = s.wb.starvedCount ∧
    (State.pairCount a0 a1 s).wb.hostShutdown = s.wb.hostShutdown ∧ (State.pairCount a0 a1 s).wb.lastDirty = s.wb.lastDirty ∧
    (State.pairCount a0 a1 s).wb.dirtyCount = s.wb.dirtyCount ∧ (State.pairCount a0 a1 s).itg = s.itg := by
  have k := State.pairCount_keep (covers_self _) (Keep.refl _ s) a0 a1
  exact ⟨k.ext (by decide), k.rdp (by decide), field_same k .wbEnts (by decide), field_same k .wbUnits (by decide),
    field_same k .wbNextUnit (by decide), field_same k .wbInProgram (by decide), field_same k .wbDirty (by decide),
    field_same k .wbDurable (by decide), field_same k .wbLastListed (by decide), field_same k .wbWriting (by decide),
    field_same k .wbLedger (by decide), field_same k .wbLedgerSeq (by decide), field_same k .wbLedgerNext (by decide),
    field_same k .wbDurableSeq (by decide), field_same k .wbHighWater (by decide), field_same k .wbCostHeld (by decide),
    field_same k .wbLedgerHeld (by decide), field_same k .wbDipHeld (by decide), field_same k .wbFlushing (by decide),
    field_same k .wbFlushFrom (by decide), field_same k .wbFlushBroken (by decide), field_same k .wbSinglePairs (by decide),
    field_same k .wbStarvedCount (by decide), field_same k .wbHostShutdown (by decide), field_same k .wbLastDirty (by decide),
    field_same k .wbDirtyCount (by decide), k.itg (by decide)⟩

@[simp] theorem State.dirtyJoin_keeps (s : State) (a0) :
    (State.dirtyJoin a0 s).rdp = s.rdp ∧ (State.dirtyJoin a0 s).wb.ents = s.wb.ents := by
  have k := State.dirtyJoin_keep (covers_self _) (Keep.refl _ s) a0
  exact ⟨k.rdp (by decide), field_same k .wbEnts (by decide)⟩

@[simp] theorem State.enter_keeps (s : State) (a0) (a1) :
    (State.enter a0 a1 s).head = s.head := by
  have k := State.enter_keep (covers_self _) (Keep.refl _ s) a0 a1
  exact State.head_congr (field_same k .hstHeads (by decide))

@[simp] theorem State.climb_keeps (s : State) (a0) :
    (State.climb a0 s).itg.blocks = s.itg.blocks := by
  have k := State.climb_keep (covers_self _) (Keep.refl _ s) a0
  exact field_same k .itgBlocks (by decide)

@[simp] theorem State.setBlock_keeps (s : State) (a0) (a1) :
    (State.setBlock a0 a1 s).ext = s.ext ∧ (State.setBlock a0 a1 s).wb = s.wb ∧
    (State.setBlock a0 a1 s).itg.rekeyState = s.itg.rekeyState ∧ (State.setBlock a0 a1 s).itg.rekeyLeft = s.itg.rekeyLeft := by
  have k := State.setBlock_keep (covers_self _) (Keep.refl _ s) a0 a1
  exact ⟨k.ext (by decide), k.wb (by decide), field_same k .itgRekeyState (by decide), field_same k .itgRekeyLeft (by decide)⟩

@[simp] theorem State.freshBlocks_keeps (s : State) (a0) (a1) (a2) :
    (State.freshBlocks a0 a1 a2 s).trc = s.trc := by
  have k := State.freshBlocks_keep (covers_self _) (Keep.refl _ s) a0 a1 a2
  exact k.trc (by decide)

@[simp] theorem State.renew_keeps (s : State) (a0) (a1) (a2) :
    (State.renew a0 a1 a2 s).itg.rootState = s.itg.rootState ∧ (State.renew a0 a1 a2 s).itg.record = s.itg.record ∧
    (State.renew a0 a1 a2 s).itg.alarms = s.itg.alarms ∧ (State.renew a0 a1 a2 s).itg.tagFails = s.itg.tagFails ∧
    (State.renew a0 a1 a2 s).itg.recovered = s.itg.recovered ∧ (State.renew a0 a1 a2 s).itg.reestablished = s.itg.reestablished ∧
    (State.renew a0 a1 a2 s).itg.activity = s.itg.activity ∧ (State.renew a0 a1 a2 s).itg.overflows = s.itg.overflows ∧
    (State.renew a0 a1 a2 s).itg.treeGen = s.itg.treeGen ∧ (State.renew a0 a1 a2 s).itg.rekeyRegion = s.itg.rekeyRegion ∧
    (State.renew a0 a1 a2 s).itg.rekeyState = s.itg.rekeyState ∧ (State.renew a0 a1 a2 s).itg.rekeyLeft = s.itg.rekeyLeft ∧
    (State.renew a0 a1 a2 s).itg.rekeyExtents = s.itg.rekeyExtents ∧ (State.renew a0 a1 a2 s).itg.rekeySlot = s.itg.rekeySlot ∧
    (State.renew a0 a1 a2 s).itg.windows = s.itg.windows ∧ (State.renew a0 a1 a2 s).itg.counts = s.itg.counts := by
  have k := State.renew_keep (covers_self _) (Keep.refl _ s) a0 a1 a2
  exact ⟨field_same k .itgRootState (by decide), field_same k .itgRecord (by decide), field_same k .itgAlarms (by decide),
    field_same k .itgTagFails (by decide), field_same k .itgRecovered (by decide), field_same k .itgReestablished (by decide),
    field_same k .itgActivity (by decide), field_same k .itgOverflows (by decide), field_same k .itgTreeGen (by decide),
    field_same k .itgRekeyRegion (by decide), field_same k .itgRekeyState (by decide), field_same k .itgRekeyLeft (by decide),
    field_same k .itgRekeyExtents (by decide), field_same k .itgRekeySlot (by decide), field_same k .itgWindows (by decide),
    field_same k .itgCounts (by decide)⟩

@[simp] theorem State.zeroExtent_keeps (s : State) (a0) :
    (State.zeroExtent a0 s).obj = s.obj ∧ (State.zeroExtent a0 s).ext = s.ext := by
  have k := State.zeroExtent_keep (covers_self _) (Keep.refl _ s) a0
  exact ⟨k.obj (by decide), k.ext (by decide)⟩

@[simp] theorem State.usedMajor_keeps (s : State) (a0) :
    (State.usedMajor a0 s).wb = s.wb := by
  have k := State.usedMajor_keep (covers_self _) (Keep.refl _ s) a0
  exact k.wb (by decide)

@[simp] theorem State.nodeEntries_keeps (s : State) (a0) (a1) :
    (State.nodeEntries a0 a1 s).ext = s.ext ∧ (State.nodeEntries a0 a1 s).wb.nextUnit = s.wb.nextUnit ∧
    (State.nodeEntries a0 a1 s).itg = s.itg := by
  have k := State.nodeEntries_keep (covers_self _) (Keep.refl _ s) a0 a1
  exact ⟨k.ext (by decide), field_same k .wbNextUnit (by decide), k.itg (by decide)⟩

@[simp] theorem State.requestAll_keeps (s : State) (a0) (a1) (a2) :
    (State.requestAll a0 a1 a2 s).trc = s.trc ∧ (State.requestAll a0 a1 a2 s).entry = s.entry := by
  have k := State.requestAll_keep (covers_self _) (Keep.refl _ s) a0 a1 a2
  exact ⟨k.trc (by decide), State.entry_congr (field_same k .trcMap (by decide))⟩

@[simp] theorem State.dispatch_keeps (s : State) (a0) (a1) (a2) :
    (State.dispatch a0 a1 a2 s).rdp.order = s.rdp.order ∧ (State.dispatch a0 a1 a2 s).med.granules = s.med.granules := by
  have k := State.dispatch_keep (covers_self _) (Keep.refl _ s) a0 a1 a2
  exact ⟨field_same k .rdpOrder (by decide), field_same k .medGranules (by decide)⟩

@[simp] theorem State.levelling_keeps (s : State) :
    (State.levelling s).trc.peak = s.trc.peak ∧ (State.levelling s).trc.peakBase = s.trc.peakBase ∧
    (State.levelling s).trc.epoch = s.trc.epoch ∧ (State.levelling s).free = s.free := by
  have k := State.levelling_keep (covers_self _) (Keep.refl _ s)
  exact ⟨field_same k .trcPeak (by decide), field_same k .trcPeakBase (by decide), field_same k .trcEpoch (by decide),
    field_same k .free (by decide)⟩

@[simp] theorem State.stopPasses_keeps (s : State) :
    (State.stopPasses s).flt = s.flt := by
  have k := State.stopPasses_keep (covers_self _) (Keep.refl _ s)
  exact k.flt (by decide)

@[simp] theorem State.countMig_keeps (s : State) (a0) :
    (State.countMig a0 s).pwr = s.pwr ∧ (State.countMig a0 s).trc.migs = s.trc.migs ∧ (State.countMig a0 s).flt = s.flt ∧
    (State.countMig a0 s).easy = s.easy ∧ (State.countMig a0 s).entry = s.entry := by
  have k := State.countMig_keep (covers_self _) (Keep.refl _ s) a0
  exact ⟨k.pwr (by decide), field_same k .trcMigs (by decide), k.flt (by decide), k.easy (by decide),
    State.entry_congr (field_same k .trcMap (by decide))⟩

@[simp] theorem State.placed_keeps (s : State) (a0) :
    (State.placed a0 s).pwr = s.pwr ∧ (State.placed a0 s).trc.ckptA = s.trc.ckptA ∧ (State.placed a0 s).trc.ckptB = s.trc.ckptB ∧
    (State.placed a0 s).trc.migs = s.trc.migs ∧ (State.placed a0 s).flt = s.flt ∧ (State.placed a0 s).easy = s.easy ∧
    (State.placed a0 s).entry = s.entry := by
  have k := State.placed_keep (covers_self _) (Keep.refl _ s) a0
  exact ⟨k.pwr (by decide), field_same k .trcCkptA (by decide), field_same k .trcCkptB (by decide), field_same k .trcMigs (by decide),
    k.flt (by decide), k.easy (by decide), State.entry_congr (field_same k .trcMap (by decide))⟩

@[simp] theorem State.modMig_keeps (s : State) (a0) (a1) :
    (State.modMig a0 a1 s).pwr = s.pwr ∧ (State.modMig a0 a1 s).flt = s.flt ∧ (State.modMig a0 a1 s).easy = s.easy := by
  have k := State.modMig_keep (covers_self _) (Keep.refl _ s) a0 a1
  exact ⟨k.pwr (by decide), k.flt (by decide), k.easy (by decide)⟩

@[simp] theorem State.endEpoch_keeps (s : State) (a0) :
    (State.endEpoch a0 s).trc.ckptB = s.trc.ckptB ∧ (State.endEpoch a0 s).trc.peakBase = s.trc.peakBase ∧
    (State.endEpoch a0 s).entry = s.entry := by
  have k := State.endEpoch_keep (covers_self _) (Keep.refl _ s) a0
  exact ⟨field_same k .trcCkptB (by decide), field_same k .trcPeakBase (by decide), State.entry_congr (field_same k .trcMap (by decide))⟩

@[simp] theorem State.lostEntries_keeps (s : State) (a0) :
    (State.lostEntries a0 s).wb.nextUnit = s.wb.nextUnit := by
  have k := State.lostEntries_keep (covers_self _) (Keep.refl _ s) a0
  exact field_same k .wbNextUnit (by decide)

@[simp] theorem State.busCount_keeps (s : State) (a0) (a1) (a2) :
    (State.busCount a0 a1 a2 s).med.granules = s.med.granules ∧ (State.busCount a0 a1 a2 s).med.dies = s.med.dies ∧
    (State.busCount a0 a1 a2 s).med.clearing = s.med.clearing ∧ (State.busCount a0 a1 a2 s).med.governor = s.med.governor ∧
    (State.busCount a0 a1 a2 s).med.work = s.med.work ∧ (State.busCount a0 a1 a2 s).med.checks = s.med.checks ∧
    (State.busCount a0 a1 a2 s).med.checksWear = s.med.checksWear ∧ (State.busCount a0 a1 a2 s).med.failures = s.med.failures ∧
    (State.busCount a0 a1 a2 s).trc = s.trc ∧ (State.busCount a0 a1 a2 s).out = s.out := by
  have k := State.busCount_keep (covers_self _) (Keep.refl _ s) a0 a1 a2
  exact ⟨field_same k .medGranules (by decide), field_same k .medDies (by decide), field_same k .medClearing (by decide),
    field_same k .medGovernor (by decide), field_same k .medWork (by decide), field_same k .medChecks (by decide),
    field_same k .medChecksWear (by decide), field_same k .medFailures (by decide), k.trc (by decide), k.out (by decide)⟩

@[simp] theorem State.markRow_keeps (s : State) (a0) (a1) :
    (State.markRow a0 a1 s).wb = s.wb ∧ (State.markRow a0 a1 s).itg = s.itg := by
  have k := State.markRow_keep (covers_self _) (Keep.refl _ s) a0 a1
  exact ⟨k.wb (by decide), k.itg (by decide)⟩

@[simp] theorem State.rekeyFinish_keeps (s : State) :
    (State.rekeyFinish s).itg.rekeyLeft = s.itg.rekeyLeft := by
  have k := State.rekeyFinish_keep (covers_self _) (Keep.refl _ s)
  exact field_same k .itgRekeyLeft (by decide)

@[simp] theorem State.spanDone_keeps (s : State) (a0) :
    (State.spanDone a0 s).wb = s.wb := by
  have k := State.spanDone_keep (covers_self _) (Keep.refl _ s) a0
  exact k.wb (by decide)

@[simp] theorem State.takeKey_keeps (s : State) (a0) :
    (State.takeKey a0 s).wb = s.wb := by
  have k := State.takeKey_keep (covers_self _) (Keep.refl _ s) a0
  exact k.wb (by decide)

@[simp] theorem State.reportFound_keeps (s : State) (a0) (a1) (a2) :
    (State.reportFound a0 a1 a2 s).ext = s.ext ∧ (State.reportFound a0 a1 a2 s).wb.nextUnit = s.wb.nextUnit ∧
    (State.reportFound a0 a1 a2 s).trc.migs = s.trc.migs ∧ (State.reportFound a0 a1 a2 s).itg = s.itg := by
  have k := State.reportFound_keep (covers_self _) (Keep.refl _ s) a0 a1 a2
  exact ⟨k.ext (by decide), field_same k .wbNextUnit (by decide), field_same k .trcMigs (by decide), k.itg (by decide)⟩

@[simp] theorem State.unseal_keeps (s : State) :
    (State.unseal s).wb.durable = s.wb.durable ∧ (State.unseal s).wb.ledger = s.wb.ledger := by
  have k := State.unseal_keep (covers_self _) (Keep.refl _ s)
  exact ⟨field_same k .wbDurable (by decide), field_same k .wbLedger (by decide)⟩

@[simp] theorem State.dipEnd_keeps (s : State) :
    (State.dipEnd s).pwr = s.pwr ∧ (State.dipEnd s).wb.durable = s.wb.durable ∧ (State.dipEnd s).wb.ledger = s.wb.ledger ∧
    (State.dipEnd s).flt = s.flt := by
  have k := State.dipEnd_keep (covers_self _) (Keep.refl _ s)
  exact ⟨k.pwr (by decide), field_same k .wbDurable (by decide), field_same k .wbLedger (by decide), k.flt (by decide)⟩

@[simp] theorem State.rebuildRow_keeps (s : State) (a0) (a1) (a2) (a3) :
    (State.rebuildRow a0 a1 a2 a3 s).scr.rebuilds = s.scr.rebuilds := by
  have k := State.rebuildRow_keep (covers_self _) (Keep.refl _ s) a0 a1 a2 a3
  exact field_same k .scrRebuilds (by decide)

@[simp] theorem State.recordOpen_keeps (s : State) :
    (State.recordOpen s).itg.rootState = s.itg.rootState ∧ (State.recordOpen s).str = s.str := by
  have k := State.recordOpen_keep (covers_self _) (Keep.refl _ s)
  exact ⟨field_same k .itgRootState (by decide), k.str (by decide)⟩

@[simp] theorem State.adoptRoot_keeps (s : State) :
    (State.adoptRoot s).trc = s.trc ∧ (State.adoptRoot s).entry = s.entry := by
  have k := State.adoptRoot_keep (covers_self _) (Keep.refl _ s)
  exact ⟨k.trc (by decide), State.entry_congr (field_same k .trcMap (by decide))⟩

@[simp] theorem State.sweepEnds_keeps (s : State) :
    (State.sweepEnds s).wb = s.wb ∧ (State.sweepEnds s).trc = s.trc := by
  have k := State.sweepEnds_keep (covers_self _) (Keep.refl _ s)
  exact ⟨k.wb (by decide), k.trc (by decide)⟩

@[simp] theorem State.refrSync_keeps (s : State) (a0) :
    (State.refrSync a0 s).wb = s.wb ∧ (State.refrSync a0 s).trc.sweep = s.trc.sweep ∧ (State.refrSync a0 s).scr = s.scr := by
  have k := State.refrSync_keep (covers_self _) (Keep.refl _ s) a0
  exact ⟨k.wb (by decide), field_same k .trcSweep (by decide), k.scr (by decide)⟩

@[simp] theorem State.takeEngineSlot_keeps (s : State) (a0) :
    (State.takeEngineSlot a0 s).med.granules = s.med.granules ∧ (State.takeEngineSlot a0 s).out = s.out := by
  have k := State.takeEngineSlot_keep (covers_self _) (Keep.refl _ s) a0
  exact ⟨field_same k .medGranules (by decide), k.out (by decide)⟩

@[simp] theorem State.nodeRecovered_keeps (s : State) (a0) :
    (State.nodeRecovered a0 s).ext = s.ext ∧ (State.nodeRecovered a0 s).wb.nextUnit = s.wb.nextUnit ∧
    (State.nodeRecovered a0 s).itg.blocks = s.itg.blocks ∧ (State.nodeRecovered a0 s).itg.rekeyState = s.itg.rekeyState ∧
    (State.nodeRecovered a0 s).itg.rekeyLeft = s.itg.rekeyLeft := by
  have k := State.nodeRecovered_keep (covers_self _) (Keep.refl _ s) a0
  exact ⟨k.ext (by decide), field_same k .wbNextUnit (by decide), field_same k .itgBlocks (by decide),
    field_same k .itgRekeyState (by decide), field_same k .itgRekeyLeft (by decide)⟩

@[simp] theorem State.halfLost_keeps (s : State) (a0) (a1) :
    (State.halfLost a0 a1 s).wb.nextUnit = s.wb.nextUnit := by
  have k := State.halfLost_keep (covers_self _) (Keep.refl _ s) a0 a1
  exact field_same k .wbNextUnit (by decide)

@[simp] theorem State.dropNodesAt_keeps (s : State) (a0) (a1) :
    (State.dropNodesAt a0 a1 s).trc = s.trc := by
  have k := State.dropNodesAt_keep (covers_self _) (Keep.refl _ s) a0 a1
  exact k.trc (by decide)

@[simp] theorem State.abortPlane_keeps (s : State) (a0) :
    (State.abortPlane a0 s).med.granules = s.med.granules ∧ (State.abortPlane a0 s).med.dies = s.med.dies ∧
    (State.abortPlane a0 s).med.clearing = s.med.clearing ∧ (State.abortPlane a0 s).med.governor = s.med.governor ∧
    (State.abortPlane a0 s).med.reserved = s.med.reserved ∧ (State.abortPlane a0 s).med.work = s.med.work ∧
    (State.abortPlane a0 s).med.checks = s.med.checks ∧ (State.abortPlane a0 s).med.checksWear = s.med.checksWear ∧
    (State.abortPlane a0 s).med.failures = s.med.failures ∧ (State.abortPlane a0 s).channel = s.channel := by
  have k := State.abortPlane_keep (covers_self _) (Keep.refl _ s) a0
  exact ⟨field_same k .medGranules (by decide), field_same k .medDies (by decide), field_same k .medClearing (by decide),
    field_same k .medGovernor (by decide), field_same k .medReserved (by decide), field_same k .medWork (by decide),
    field_same k .medChecks (by decide), field_same k .medChecksWear (by decide), field_same k .medFailures (by decide),
    State.channel_congr (field_same k .medChannels (by decide))⟩

@[simp] theorem State.evacuation_keeps (s : State) :
    (State.evacuation s).trc.peak = s.trc.peak ∧ (State.evacuation s).trc.peakBase = s.trc.peakBase ∧
    (State.evacuation s).trc.epoch = s.trc.epoch ∧ (State.evacuation s).free = s.free := by
  have k := State.evacuation_keep (covers_self _) (Keep.refl _ s)
  exact ⟨field_same k .trcPeak (by decide), field_same k .trcPeakBase (by decide), field_same k .trcEpoch (by decide),
    field_same k .free (by decide)⟩

@[simp] theorem State.rewrite_keeps (s : State) (a0) (a1) (a2) (a3) :
    (State.rewrite a0 a1 a2 a3 s).tim = s.tim ∧ (State.rewrite a0 a1 a2 a3 s).med.granules = s.med.granules ∧
    (State.rewrite a0 a1 a2 a3 s).trc.map = s.trc.map ∧ (State.rewrite a0 a1 a2 a3 s).trc.sweep = s.trc.sweep ∧
    (State.rewrite a0 a1 a2 a3 s).unit = s.unit ∧ (State.rewrite a0 a1 a2 a3 s).isOut = s.isOut ∧
    (State.rewrite a0 a1 a2 a3 s).channel = s.channel ∧ (State.rewrite a0 a1 a2 a3 s).rebuild = s.rebuild := by
  have k := State.rewrite_keep (covers_self _) (Keep.refl _ s) a0 a1 a2 a3
  exact ⟨k.tim (by decide), field_same k .medGranules (by decide), field_same k .trcMap (by decide), field_same k .trcSweep (by decide),
    State.unit_congr (field_same k .fltUnits (by decide)), State.isOut_congr (field_same k .fltUnits (by decide)),
    State.channel_congr (field_same k .medChannels (by decide)), State.rebuild_congr (field_same k .scrRebuilds (by decide))⟩

@[simp] theorem State.noteOldest_keeps (s : State) (a0) (a1) :
    (State.noteOldest a0 a1 s).wb = s.wb ∧ (State.noteOldest a0 a1 s).trc = s.trc := by
  have k := State.noteOldest_keep (covers_self _) (Keep.refl _ s) a0 a1
  exact ⟨k.wb (by decide), k.trc (by decide)⟩

@[simp] theorem State.repair_keeps (s : State) (a0) (a1) :
    (State.repair a0 a1 s).scr = s.scr := by
  have k := State.repair_keep (covers_self _) (Keep.refl _ s) a0 a1
  exact k.scr (by decide)

@[simp] theorem State.persistCursor_keeps (s : State) (a0) :
    (State.persistCursor a0 s).wb = s.wb ∧ (State.persistCursor a0 s).flt = s.flt ∧ (State.persistCursor a0 s).entry = s.entry := by
  have k := State.persistCursor_keep (covers_self _) (Keep.refl _ s) a0
  exact ⟨k.wb (by decide), k.flt (by decide), State.entry_congr (field_same k .trcMap (by decide))⟩

@[simp] theorem State.rowSensed_keeps (s : State) (a0) (a1) (a2) :
    (State.rowSensed a0 a1 a2 s).scr.patrol = s.scr.patrol ∧ (State.rowSensed a0 a1 a2 s).scr.passes = s.scr.passes := by
  have k := State.rowSensed_keep (covers_self _) (Keep.refl _ s) a0 a1 a2
  exact ⟨field_same k .scrPatrol (by decide), field_same k .scrPasses (by decide)⟩

@[simp] theorem State.repairRow_keeps (s : State) (a0) (a1) (a2) (a3) :
    (State.repairRow a0 a1 a2 a3 s).scr.patrol = s.scr.patrol := by
  have k := State.repairRow_keep (covers_self _) (Keep.refl _ s) a0 a1 a2 a3
  exact field_same k .scrPatrol (by decide)

@[simp] theorem State.rootMismatch_keeps (s : State) :
    (State.rootMismatch s).trc = s.trc := by
  have k := State.rootMismatch_keep (covers_self _) (Keep.refl _ s)
  exact k.trc (by decide)

@[simp] theorem State.rootUnverified_keeps (s : State) :
    (State.rootUnverified s).trc = s.trc := by
  have k := State.rootUnverified_keep (covers_self _) (Keep.refl _ s)
  exact k.trc (by decide)

@[simp] theorem State.startTime_keeps (s : State) (a0) :
    (State.startTime a0 s).pwr = s.pwr ∧ (State.startTime a0 s).flt = s.flt ∧ (State.startTime a0 s).easy = s.easy := by
  have k := State.startTime_keep (covers_self _) (Keep.refl _ s) a0
  exact ⟨k.pwr (by decide), k.flt (by decide), k.easy (by decide)⟩

@[simp] theorem State.replayLedger_keeps (s : State) :
    (State.replayLedger s).pwr = s.pwr ∧ (State.replayLedger s).flt = s.flt ∧ (State.replayLedger s).easy = s.easy := by
  have k := State.replayLedger_keep (covers_self _) (Keep.refl _ s)
  exact ⟨k.pwr (by decide), k.flt (by decide), k.easy (by decide)⟩

@[simp] theorem State.markSuspects_keeps (s : State) :
    (State.markSuspects s).pwr = s.pwr ∧ (State.markSuspects s).flt = s.flt ∧ (State.markSuspects s).easy = s.easy := by
  have k := State.markSuspects_keep (covers_self _) (Keep.refl _ s)
  exact ⟨k.pwr (by decide), k.flt (by decide), k.easy (by decide)⟩

@[simp] theorem State.mapLoad_keeps (s : State) :
    (State.mapLoad s).pwr.mediaOnlyUp = s.pwr.mediaOnlyUp := by
  have k := State.mapLoad_keep (covers_self _) (Keep.refl _ s)
  exact field_same k .pwrMediaOnlyUp (by decide)

@[simp] theorem State.mapStep_keeps (s : State) :
    (State.mapStep s).flt.units = s.flt.units := by
  have k := State.mapStep_keep (covers_self _) (Keep.refl _ s)
  exact field_same k .fltUnits (by decide)

@[simp] theorem State.cutFlash_keeps (s : State) :
    (State.cutFlash s).tim = s.tim ∧ (State.cutFlash s).pwr = s.pwr ∧ (State.cutFlash s).cox = s.cox ∧
    (State.cutFlash s).wop.conflict = s.wop.conflict ∧ (State.cutFlash s).wop.keys = s.wop.keys ∧
    (State.cutFlash s).wop.keyDraws = s.wop.keyDraws ∧ (State.cutFlash s).wop.tagFails = s.wop.tagFails ∧
    (State.cutFlash s).wop.nextBulk = s.wop.nextBulk := by
  have k := State.cutFlash_keep (covers_self _) (Keep.refl _ s)
  exact ⟨k.tim (by decide), k.pwr (by decide), k.cox (by decide), field_same k .wopConflict (by decide), field_same k .wopKeys (by decide),
    field_same k .wopKeyDraws (by decide), field_same k .wopTagFails (by decide), field_same k .wopNextBulk (by decide)⟩

@[simp] theorem State.coxReset_keeps (s : State) :
    (State.coxReset s).flt = s.flt ∧ (State.coxReset s).img.trial = s.img.trial := by
  have k := State.coxReset_keep (covers_self _) (Keep.refl _ s)
  exact ⟨k.flt (by decide), field_same k .imgTrial (by decide)⟩

@[simp] theorem State.writeOutSome_keeps (s : State) (a0) :
    (State.writeOutSome a0 s).pwr = s.pwr ∧ (State.writeOutSome a0 s).trc = s.trc := by
  have k := State.writeOutSome_keep (covers_self _) (Keep.refl _ s) a0
  exact ⟨k.pwr (by decide), k.trc (by decide)⟩

@[simp] theorem State.startQuiet_keeps (s : State) (a0) :
    (State.startQuiet a0 s).flt.queue = s.flt.queue ∧ (State.startQuiet a0 s).flt.classes = s.flt.classes := by
  have k := State.startQuiet_keep (covers_self _) (Keep.refl _ s) a0
  exact ⟨field_same k .fltQueue (by decide), field_same k .fltClasses (by decide)⟩

@[simp] theorem State.verdict_keeps (s : State) (a0) :
    (State.verdict a0 s).flt.units = s.flt.units ∧ (State.verdict a0 s).flt.fences = s.flt.fences := by
  have k := State.verdict_keep (covers_self _) (Keep.refl _ s) a0
  exact ⟨field_same k .fltUnits (by decide), field_same k .fltFences (by decide)⟩

@[simp] theorem State.rebuildSync_keeps (s : State) (a0) :
    (State.rebuildSync a0 s).pwr = s.pwr ∧ (State.rebuildSync a0 s).flt = s.flt := by
  have k := State.rebuildSync_keep (covers_self _) (Keep.refl _ s) a0
  exact ⟨k.pwr (by decide), k.flt (by decide)⟩

@[simp] theorem State.rebuildFence_keeps (s : State) (a0) (a1) :
    (State.rebuildFence a0 a1 s).flt = s.flt := by
  have k := State.rebuildFence_keep (covers_self _) (Keep.refl _ s) a0 a1
  exact k.flt (by decide)

@[simp] theorem State.stacksOff_keeps (s : State) (a0) :
    (State.stacksOff a0 s).flt = s.flt := by
  have k := State.stacksOff_keep (covers_self _) (Keep.refl _ s) a0
  exact k.flt (by decide)

@[simp] theorem State.fencePart_keeps (s : State) (a0) :
    (State.fencePart a0 s).flt = s.flt := by
  have k := State.fencePart_keep (covers_self _) (Keep.refl _ s) a0
  exact k.flt (by decide)

@[simp] theorem State.fenceT1s_keeps (s : State) :
    (State.fenceT1s s).flt = s.flt := by
  have k := State.fenceT1s_keep (covers_self _) (Keep.refl _ s)
  exact k.flt (by decide)

@[simp] theorem State.fenceEffects_keeps (s : State) (a0) :
    (State.fenceEffects a0 s).flt.units = s.flt.units ∧ (State.fenceEffects a0 s).flt.fences = s.flt.fences := by
  have k := State.fenceEffects_keep (covers_self _) (Keep.refl _ s) a0
  exact ⟨field_same k .fltUnits (by decide), field_same k .fltFences (by decide)⟩

@[simp] theorem State.startProbe_keeps (s : State) (a0) :
    (State.startProbe a0 s).flt.queue = s.flt.queue ∧ (State.startProbe a0 s).flt.classes = s.flt.classes := by
  have k := State.startProbe_keep (covers_self _) (Keep.refl _ s) a0
  exact ⟨field_same k .fltQueue (by decide), field_same k .fltClasses (by decide)⟩

@[simp] theorem State.probeWaiting_keeps (s : State) :
    (State.probeWaiting s).flt.queue = s.flt.queue ∧ (State.probeWaiting s).flt.classes = s.flt.classes := by
  have k := State.probeWaiting_keep (covers_self _) (Keep.refl _ s)
  exact ⟨field_same k .fltQueue (by decide), field_same k .fltClasses (by decide)⟩

@[simp] theorem State.cmdDone_keeps (s : State) (a0) (a1) :
    (State.cmdDone a0 a1 s).tim = s.tim ∧ (State.cmdDone a0 a1 s).flt.queue = s.flt.queue ∧
    (State.cmdDone a0 a1 s).flt.lost = s.flt.lost ∧ (State.cmdDone a0 a1 s).flt.overflow = s.flt.overflow ∧
    (State.cmdDone a0 a1 s).flt.highMark = s.flt.highMark ∧ (State.cmdDone a0 a1 s).flt.taken = s.flt.taken ∧
    (State.cmdDone a0 a1 s).flt.classes = s.flt.classes ∧ (State.cmdDone a0 a1 s).flt.sticky = s.flt.sticky ∧
    (State.cmdDone a0 a1 s).flt.stickyDue = s.flt.stickyDue ∧ (State.cmdDone a0 a1 s).flt.stickyAgain = s.flt.stickyAgain ∧
    (State.cmdDone a0 a1 s).flt.units = s.flt.units ∧ (State.cmdDone a0 a1 s).flt.sources = s.flt.sources ∧
    (State.cmdDone a0 a1 s).flt.fences = s.flt.fences ∧ (State.cmdDone a0 a1 s).flt.lastC3 = s.flt.lastC3 ∧
    (State.cmdDone a0 a1 s).flt.lastC3At = s.flt.lastC3At ∧ (State.cmdDone a0 a1 s).flt.lastC3Cycle = s.flt.lastC3Cycle ∧
    (State.cmdDone a0 a1 s).coxUp = s.coxUp := by
  have k := State.cmdDone_keep (covers_self _) (Keep.refl _ s) a0 a1
  exact ⟨k.tim (by decide), field_same k .fltQueue (by decide), field_same k .fltLost (by decide), field_same k .fltOverflow (by decide),
    field_same k .fltHighMark (by decide), field_same k .fltTaken (by decide), field_same k .fltClasses (by decide),
    field_same k .fltSticky (by decide), field_same k .fltStickyDue (by decide), field_same k .fltStickyAgain (by decide),
    field_same k .fltUnits (by decide), field_same k .fltSources (by decide), field_same k .fltFences (by decide),
    field_same k .fltLastC3 (by decide), field_same k .fltLastC3At (by decide), field_same k .fltLastC3Cycle (by decide),
    State.coxUp_congr (field_same k .coxState (by decide)) (field_same k .pwrState (by decide))⟩

@[simp] theorem State.probeStopped_keeps (s : State) (a0) :
    (State.probeStopped a0 s).pwr.state = s.pwr.state ∧ (State.probeStopped a0 s).flt = s.flt := by
  have k := State.probeStopped_keep (covers_self _) (Keep.refl _ s) a0
  exact ⟨field_same k .pwrState (by decide), k.flt (by decide)⟩

@[simp] theorem State.react_keeps (s : State) (a0) :
    (State.react a0 s).flt.taken = s.flt.taken := by
  have k := State.react_keep (covers_self _) (Keep.refl _ s) a0
  exact field_same k .fltTaken (by decide)

@[simp] theorem State.journal_keeps (s : State) :
    (State.journal s).ext.regions = s.ext.regions ∧ (State.journal s).pair = s.pair ∧ (State.journal s).extent = s.extent := by
  have k := State.journal_keep (covers_self _) (Keep.refl _ s)
  exact ⟨field_same k .extRegions (by decide), State.pair_congr (field_same k .extPairs (by decide)),
    State.extent_congr (field_same k .extExtents (by decide))⟩

@[simp] theorem State.movePair_keeps (s : State) (a0) (a1) (a2) (a3) :
    (State.movePair a0 a1 a2 a3 s).ext.extents = s.ext.extents ∧ (State.movePair a0 a1 a2 a3 s).ext.regions = s.ext.regions ∧
    (State.movePair a0 a1 a2 a3 s).slot = s.slot ∧ (State.movePair a0 a1 a2 a3 s).coxUp = s.coxUp := by
  have k := State.movePair_keep (covers_self _) (Keep.refl _ s) a0 a1 a2 a3
  exact ⟨field_same k .extExtents (by decide), field_same k .extRegions (by decide), State.slot_congr (field_same k .objSlots (by decide)),
    State.coxUp_congr (field_same k .coxState (by decide)) (field_same k .pwrState (by decide))⟩

@[simp] theorem State.optionFailed_keeps (s : State) :
    (State.optionFailed s).flt = s.flt ∧ (State.optionFailed s).fls.counts = s.fls.counts := by
  have k := State.optionFailed_keep (covers_self _) (Keep.refl _ s)
  exact ⟨k.flt (by decide), field_same k .flsCounts (by decide)⟩

@[simp] theorem State.frontWrite_keeps (s : State) (a0) :
    (State.frontWrite a0 s).pwr = s.pwr ∧ (State.frontWrite a0 s).flt = s.flt := by
  have k := State.frontWrite_keep (covers_self _) (Keep.refl _ s) a0
  exact ⟨k.pwr (by decide), k.flt (by decide)⟩

@[simp] theorem State.offerTo_keeps (s : State) (a0) (a1) :
    (State.offerTo a0 a1 s).ext.regions = s.ext.regions := by
  have k := State.offerTo_keep (covers_self _) (Keep.refl _ s) a0 a1
  exact field_same k .extRegions (by decide)

@[simp] theorem State.flashKick_keeps (s : State) :
    (State.flashKick s).obj = s.obj ∧ (State.flashKick s).flt = s.flt ∧ (State.flashKick s).cox = s.cox ∧
    (State.flashKick s).fls.depth = s.fls.depth ∧ (State.flashKick s).fls.counts = s.fls.counts ∧
    (State.flashKick s).fls.optionWords = s.fls.optionWords ∧ (State.flashKick s).fls.optionWrite = s.fls.optionWrite ∧
    (State.flashKick s).img = s.img ∧ (State.flashKick s).out = s.out := by
  have k := State.flashKick_keep (covers_self _) (Keep.refl _ s)
  exact ⟨k.obj (by decide), k.flt (by decide), k.cox (by decide), field_same k .flsDepth (by decide), field_same k .flsCounts (by decide),
    field_same k .flsOptionWords (by decide), field_same k .flsOptionWrite (by decide), k.img (by decide), k.out (by decide)⟩

@[simp] theorem State.flashAsk_keeps (s : State) (a0) :
    (State.flashAsk a0 s).cox = s.cox ∧ (State.flashAsk a0 s).fls.optionWrite = s.fls.optionWrite ∧
    (State.flashAsk a0 s).img = s.img ∧ (State.flashAsk a0 s).log = s.log := by
  have k := State.flashAsk_keep (covers_self _) (Keep.refl _ s) a0
  exact ⟨k.cox (by decide), field_same k .flsOptionWrite (by decide), k.img (by decide), k.log (by decide)⟩

@[simp] theorem State.sectorErased_keeps (s : State) (a0) :
    (State.sectorErased a0 s).fls.counts = s.fls.counts := by
  have k := State.sectorErased_keep (covers_self _) (Keep.refl _ s) a0
  exact field_same k .flsCounts (by decide)

@[simp] theorem State.imageWrite_keeps (s : State) (a0) (a1) :
    (State.imageWrite a0 a1 s).2.wop = s.wop ∧ (State.imageWrite a0 a1 s).2.out = s.out := by
  have k := State.imageWrite_keep (covers_self _) (Keep.refl _ s) a0 a1
  exact ⟨k.wop (by decide), k.out (by decide)⟩

@[simp] theorem State.orphanStart_keeps (s : State) :
    (State.orphanStart s).flt = s.flt := by
  have k := State.orphanStart_keep (covers_self _) (Keep.refl _ s)
  exact k.flt (by decide)

@[simp] theorem State.clockBack_keeps (s : State) (a0) :
    (State.clockBack a0 s).flt = s.flt := by
  have k := State.clockBack_keep (covers_self _) (Keep.refl _ s) a0
  exact k.flt (by decide)

@[simp] theorem State.startRebuild_keeps (s : State) (a0) (a1) :
    (State.startRebuild a0 a1 s).pwr = s.pwr ∧ (State.startRebuild a0 a1 s).flt = s.flt := by
  have k := State.startRebuild_keep (covers_self _) (Keep.refl _ s) a0 a1
  exact ⟨k.pwr (by decide), k.flt (by decide)⟩

@[simp] theorem State.probeCounts_keeps (s : State) (a0) (a1) :
    (State.probeCounts a0 a1 s).pwr = s.pwr ∧ (State.probeCounts a0 a1 s).stg = s.stg ∧ (State.probeCounts a0 a1 s).flt = s.flt := by
  have k := State.probeCounts_keep (covers_self _) (Keep.refl _ s) a0 a1
  exact ⟨k.pwr (by decide), k.stg (by decide), k.flt (by decide)⟩

@[simp] theorem State.latchOptions_keeps (s : State) :
    (State.latchOptions s).fls = s.fls := by
  have k := State.latchOptions_keep (covers_self _) (Keep.refl _ s)
  exact k.fls (by decide)

@[simp] theorem State.offerStep_keeps (s : State) (a0) :
    (State.offerStep a0 s).ext.regions = s.ext.regions := by
  have k := State.offerStep_keep (covers_self _) (Keep.refl _ s) a0
  exact field_same k .extRegions (by decide)

@[simp] theorem State.recordFault_keeps (s : State) (a0) :
    (State.recordFault a0 s).2.pwr = s.pwr ∧ (State.recordFault a0 s).2.flt = s.flt := by
  have k := State.recordFault_keep (covers_self _) (Keep.refl _ s) a0
  exact ⟨k.pwr (by decide), k.flt (by decide)⟩

@[simp] theorem State.countHour_keeps (s : State) (a0) :
    (State.countHour a0 s).flt.queue = s.flt.queue ∧ (State.countHour a0 s).flt.taken = s.flt.taken ∧
    (State.countHour a0 s).flt.classes = s.flt.classes := by
  have k := State.countHour_keep (covers_self _) (Keep.refl _ s) a0
  exact ⟨field_same k .fltQueue (by decide), field_same k .fltTaken (by decide), field_same k .fltClasses (by decide)⟩

@[simp] theorem State.countMessage_keeps (s : State) (a0) (a1) :
    (State.countMessage a0 a1 s).tim = s.tim ∧ (State.countMessage a0 a1 s).pwr = s.pwr ∧
    (State.countMessage a0 a1 s).flt.queue = s.flt.queue ∧ (State.countMessage a0 a1 s).flt.units = s.flt.units ∧
    (State.countMessage a0 a1 s).flt.fences = s.flt.fences ∧ (State.countMessage a0 a1 s).flt.lastC3 = s.flt.lastC3 ∧
    (State.countMessage a0 a1 s).easy = s.easy := by
  have k := State.countMessage_keep (covers_self _) (Keep.refl _ s) a0 a1
  exact ⟨k.tim (by decide), k.pwr (by decide), field_same k .fltQueue (by decide), field_same k .fltUnits (by decide),
    field_same k .fltFences (by decide), field_same k .fltLastC3 (by decide), k.easy (by decide)⟩

@[simp] theorem State.queueLossCheck_keeps (s : State) :
    (State.queueLossCheck s).pwr = s.pwr ∧ (State.queueLossCheck s).flt.queue = s.flt.queue ∧
    (State.queueLossCheck s).flt.taken = s.flt.taken ∧ (State.queueLossCheck s).flt.classes = s.flt.classes ∧
    (State.queueLossCheck s).flt.units = s.flt.units ∧ (State.queueLossCheck s).flt.fences = s.flt.fences ∧
    (State.queueLossCheck s).flt.lastC3 = s.flt.lastC3 := by
  have k := State.queueLossCheck_keep (covers_self _) (Keep.refl _ s)
  exact ⟨k.pwr (by decide), field_same k .fltQueue (by decide), field_same k .fltTaken (by decide), field_same k .fltClasses (by decide),
    field_same k .fltUnits (by decide), field_same k .fltFences (by decide), field_same k .fltLastC3 (by decide)⟩

@[simp] theorem State.optionWord_keeps (s : State) :
    (State.optionWord s).fls.counts = s.fls.counts := by
  have k := State.optionWord_keep (covers_self _) (Keep.refl _ s)
  exact field_same k .flsCounts (by decide)

@[simp] theorem State.seatTx_keeps (s : State) (a0) :
    (State.seatTx a0 s).out = s.out := by
  have k := State.seatTx_keep (covers_self _) (Keep.refl _ s) a0
  exact k.out (by decide)

@[simp] theorem State.beginStep_keeps (s : State) (a0) :
    (State.beginStep a0 s).pwr.state = s.pwr.state ∧ (State.beginStep a0 s).pwr.mediaOnlyUp = s.pwr.mediaOnlyUp ∧
    (State.beginStep a0 s).flt = s.flt ∧ (State.beginStep a0 s).easy = s.easy := by
  have k := State.beginStep_keep (covers_self _) (Keep.refl _ s) a0
  exact ⟨field_same k .pwrState (by decide), field_same k .pwrMediaOnlyUp (by decide), k.flt (by decide), k.easy (by decide)⟩

@[simp] theorem State.advance_keeps (s : State) (a0) :
    (State.advance a0 s).bank = s.bank := by
  have k := State.advance_keep (covers_self _) (Keep.refl _ s) a0
  exact k.bank (by decide)

@[simp] theorem State.coreStart_keeps (s : State) :
    (State.coreStart s).pwr.reqOff = s.pwr.reqOff := by
  have k := State.coreStart_keep (covers_self _) (Keep.refl _ s)
  exact field_same k .pwrReqOff (by decide)

@[simp] theorem State.startSync_keeps (s : State) :
    (State.startSync s).pwr.switchClosed = s.pwr.switchClosed ∧ (State.startSync s).pwr.inputGood = s.pwr.inputGood := by
  have k := State.startSync_keep (covers_self _) (Keep.refl _ s)
  exact ⟨field_same k .pwrSwitchClosed (by decide), field_same k .pwrInputGood (by decide)⟩

@[simp] theorem State.startDown_keeps (s : State) (a0) (a1) :
    (State.startDown a0 a1 s).flt = s.flt := by
  have k := State.startDown_keep (covers_self _) (Keep.refl _ s) a0 a1
  exact k.flt (by decide)

@[simp] theorem State.measure_keeps (s : State) (a0) :
    (State.measure a0 s).seat = s.seat ∧ (State.measure a0 s).out = s.out := by
  have k := State.measure_keep (covers_self _) (Keep.refl _ s) a0
  exact ⟨k.seat (by decide), k.out (by decide)⟩

@[simp] theorem State.measureSync_keeps (s : State) :
    (State.measureSync s).pwr = s.pwr ∧ (State.measureSync s).thm = s.thm ∧ (State.measureSync s).wb = s.wb ∧
    (State.measureSync s).itg = s.itg ∧ (State.measureSync s).flt = s.flt ∧ (State.measureSync s).easy = s.easy ∧
    (State.measureSync s).slot = s.slot := by
  have k := State.measureSync_keep (covers_self _) (Keep.refl _ s)
  exact ⟨k.pwr (by decide), k.thm (by decide), k.wb (by decide), k.itg (by decide), k.flt (by decide), k.easy (by decide),
    State.slot_congr (field_same k .objSlots (by decide))⟩

@[simp] theorem State.pauseSync_keeps (s : State) :
    (State.pauseSync s).thm = s.thm := by
  have k := State.pauseSync_keep (covers_self _) (Keep.refl _ s)
  exact k.thm (by decide)

@[simp] theorem State.reachT4_keeps (s : State) :
    (State.reachT4 s).thm = s.thm := by
  have k := State.reachT4_keep (covers_self _) (Keep.refl _ s)
  exact k.thm (by decide)

@[simp] theorem State.answerWaiting_keeps (s : State) :
    (State.answerWaiting s).flt = s.flt := by
  have k := State.answerWaiting_keep (covers_self _) (Keep.refl _ s)
  exact k.flt (by decide)

@[simp] theorem State.powerLost_keeps (s : State) :
    (State.powerLost s).pwr.switchClosed = s.pwr.switchClosed := by
  have k := State.powerLost_keep (covers_self _) (Keep.refl _ s)
  exact field_same k .pwrSwitchClosed (by decide)

@[simp] theorem State.keelReset_keeps (s : State) (a0) :
    (State.keelReset a0 s).trc.map = s.trc.map := by
  have k := State.keelReset_keep (covers_self _) (Keep.refl _ s) a0
  exact field_same k .trcMap (by decide)

@[simp] theorem State.healthSync_keeps (s : State) :
    (State.healthSync s).bank = s.bank ∧ (State.healthSync s).thm = s.thm ∧ (State.healthSync s).hlt.peaks = s.hlt.peaks ∧
    (State.healthSync s).hlt.predictedAt = s.hlt.predictedAt ∧ (State.healthSync s).flt = s.flt := by
  have k := State.healthSync_keep (covers_self _) (Keep.refl _ s)
  exact ⟨k.bank (by decide), k.thm (by decide), field_same k .hltPeaks (by decide), field_same k .hltPredictedAt (by decide),
    k.flt (by decide)⟩

@[simp] theorem State.setLatch_keeps (s : State) (a0) (a1) (a2) :
    (State.setLatch a0 a1 a2 s).flt = s.flt := by
  have k := State.setLatch_keep (covers_self _) (Keep.refl _ s) a0 a1 a2
  exact k.flt (by decide)

@[simp] theorem State.haltSync_keeps (s : State) (a0) :
    (State.haltSync a0 s).pwr = s.pwr := by
  have k := State.haltSync_keep (covers_self _) (Keep.refl _ s) a0
  exact k.pwr (by decide)

@[simp] theorem State.wearFlush_keeps (s : State) :
    (State.wearFlush s).pwr = s.pwr ∧ (State.wearFlush s).wb = s.wb ∧ (State.wearFlush s).itg = s.itg ∧
    (State.wearFlush s).easy = s.easy := by
  have k := State.wearFlush_keep (covers_self _) (Keep.refl _ s)
  exact ⟨k.pwr (by decide), k.wb (by decide), k.itg (by decide), k.easy (by decide)⟩

@[simp] theorem State.mediumIdle_keeps (s : State) :
    (State.mediumIdle s).pwr.resetAsked = s.pwr.resetAsked ∧ (State.mediumIdle s).wb.ents = s.wb.ents ∧
    (State.mediumIdle s).wb.ledger = s.wb.ledger ∧ (State.mediumIdle s).wb.flushBroken = s.wb.flushBroken ∧
    (State.mediumIdle s).itg = s.itg := by
  have k := State.mediumIdle_keep (covers_self _) (Keep.refl _ s)
  exact ⟨field_same k .pwrResetAsked (by decide), field_same k .wbEnts (by decide), field_same k .wbLedger (by decide),
    field_same k .wbFlushBroken (by decide), k.itg (by decide)⟩

@[simp] theorem State.flushMigrations_keeps (s : State) :
    (State.flushMigrations s).pwr.resetAsked = s.pwr.resetAsked ∧ (State.flushMigrations s).wb.ents = s.wb.ents ∧
    (State.flushMigrations s).wb.ledger = s.wb.ledger ∧ (State.flushMigrations s).wb.flushBroken = s.wb.flushBroken ∧
    (State.flushMigrations s).itg = s.itg := by
  have k := State.flushMigrations_keep (covers_self _) (Keep.refl _ s)
  exact ⟨field_same k .pwrResetAsked (by decide), field_same k .wbEnts (by decide), field_same k .wbLedger (by decide),
    field_same k .wbFlushBroken (by decide), k.itg (by decide)⟩

@[simp] theorem State.measureEnd_keeps (s : State) (a0) :
    (State.measureEnd a0 s).pwr = s.pwr := by
  have k := State.measureEnd_keep (covers_self _) (Keep.refl _ s) a0
  exact k.pwr (by decide)

@[simp] theorem State.measured_keeps (s : State) (a0) (a1) :
    (State.measured a0 a1 s).pwr = s.pwr := by
  have k := State.measured_keep (covers_self _) (Keep.refl _ s) a0 a1
  exact k.pwr (by decide)

@[simp] theorem State.predict_keeps (s : State) :
    (State.predict s).bank = s.bank ∧ (State.predict s).hlt.peaks = s.hlt.peaks ∧ (State.predict s).flt = s.flt := by
  have k := State.predict_keep (covers_self _) (Keep.refl _ s)
  exact ⟨k.bank (by decide), field_same k .hltPeaks (by decide), k.flt (by decide)⟩

@[simp] theorem State.refit_keeps (s : State) :
    (State.refit s).tim = s.tim ∧ (State.refit s).bank = s.bank ∧ (State.refit s).hlt.peaks = s.hlt.peaks := by
  have k := State.refit_keep (covers_self _) (Keep.refl _ s)
  exact ⟨k.tim (by decide), k.bank (by decide), field_same k .hltPeaks (by decide)⟩

@[simp] theorem State.ontoBank_keeps (s : State) :
    (State.ontoBank s).pwr.inputMv = s.pwr.inputMv ∧ (State.ontoBank s).pwr.pairA = s.pwr.pairA ∧
    (State.ontoBank s).pwr.pairB = s.pwr.pairB ∧ (State.ontoBank s).pwr.peakMw = s.pwr.peakMw ∧
    (State.ontoBank s).pwr.switchClosed = s.pwr.switchClosed ∧ (State.ontoBank s).pwr.keelPath = s.pwr.keelPath ∧
    (State.ontoBank s).pwr.breaker = s.pwr.breaker ∧ (State.ontoBank s).pwr.inputGood = s.pwr.inputGood ∧
    (State.ontoBank s).pwr.overvoltage = s.pwr.overvoltage ∧ (State.ontoBank s).pwr.inputLow = s.pwr.inputLow ∧
    (State.ontoBank s).pwr.dip = s.pwr.dip ∧ (State.ontoBank s).pwr.shortDips = s.pwr.shortDips ∧
    (State.ontoBank s).pwr.lossCount = s.pwr.lossCount ∧ (State.ontoBank s).pwr.tripCount = s.pwr.tripCount ∧
    (State.ontoBank s).pwr.reqOff = s.pwr.reqOff ∧ (State.ontoBank s).pwr.seqState = s.pwr.seqState ∧
    (State.ontoBank s).pwr.step = s.pwr.step ∧ (State.ontoBank s).pwr.fastDown = s.pwr.fastDown ∧
    (State.ontoBank s).pwr.mediaOnlyDown = s.pwr.mediaOnlyDown ∧ (State.ontoBank s).pwr.mediaOnlyUp = s.pwr.mediaOnlyUp ∧
    (State.ontoBank s).pwr.paused = s.pwr.paused ∧ (State.ontoBank s).pwr.domains = s.pwr.domains ∧
    (State.ontoBank s).pwr.latch = s.pwr.latch ∧ (State.ontoBank s).pwr.haltDrivers = s.pwr.haltDrivers ∧
    (State.ontoBank s).pwr.haltSeen = s.pwr.haltSeen ∧ (State.ontoBank s).pwr.haltHold = s.pwr.haltHold ∧
    (State.ontoBank s).pwr.haltOutside = s.pwr.haltOutside ∧ (State.ontoBank s).pwr.counts = s.pwr.counts ∧
    (State.ontoBank s).pwr.haltCount = s.pwr.haltCount ∧ (State.ontoBank s).pwr.haltSource = s.pwr.haltSource ∧
    (State.ontoBank s).pwr.haltTime = s.pwr.haltTime ∧ (State.ontoBank s).pwr.gaLatched = s.pwr.gaLatched ∧
    (State.ontoBank s).pwr.gaPins = s.pwr.gaPins ∧ (State.ontoBank s).pwr.gaNow = s.pwr.gaNow ∧
    (State.ontoBank s).pwr.gaDiffer = s.pwr.gaDiffer ∧ (State.ontoBank s).pwr.gaMismatch = s.pwr.gaMismatch ∧
    (State.ontoBank s).pwr.modrstLow = s.pwr.modrstLow ∧ (State.ontoBank s).pwr.tap = s.pwr.tap ∧
    (State.ontoBank s).pwr.lostClocks = s.pwr.lostClocks ∧ (State.ontoBank s).pwr.keelFallback = s.pwr.keelFallback ∧
    (State.ontoBank s).pwr.marginOn = s.pwr.marginOn ∧ (State.ontoBank s).wb = s.wb ∧ (State.ontoBank s).flt = s.flt ∧
    (State.ontoBank s).easy = s.easy := by
  have k := State.ontoBank_keep (covers_self _) (Keep.refl _ s)
  exact ⟨field_same k .pwrInputMv (by decide), field_same k .pwrPairA (by decide), field_same k .pwrPairB (by decide),
    field_same k .pwrPeakMw (by decide), field_same k .pwrSwitchClosed (by decide), field_same k .pwrKeelPath (by decide),
    field_same k .pwrBreaker (by decide), field_same k .pwrInputGood (by decide), field_same k .pwrOvervoltage (by decide),
    field_same k .pwrInputLow (by decide), field_same k .pwrDip (by decide), field_same k .pwrShortDips (by decide),
    field_same k .pwrLossCount (by decide), field_same k .pwrTripCount (by decide), field_same k .pwrReqOff (by decide),
    field_same k .pwrSeqState (by decide), field_same k .pwrStep (by decide), field_same k .pwrFastDown (by decide),
    field_same k .pwrMediaOnlyDown (by decide), field_same k .pwrMediaOnlyUp (by decide), field_same k .pwrPaused (by decide),
    field_same k .pwrDomains (by decide), field_same k .pwrLatch (by decide), field_same k .pwrHaltDrivers (by decide),
    field_same k .pwrHaltSeen (by decide), field_same k .pwrHaltHold (by decide), field_same k .pwrHaltOutside (by decide),
    field_same k .pwrCounts (by decide), field_same k .pwrHaltCount (by decide), field_same k .pwrHaltSource (by decide),
    field_same k .pwrHaltTime (by decide), field_same k .pwrGaLatched (by decide), field_same k .pwrGaPins (by decide),
    field_same k .pwrGaNow (by decide), field_same k .pwrGaDiffer (by decide), field_same k .pwrGaMismatch (by decide),
    field_same k .pwrModrstLow (by decide), field_same k .pwrTap (by decide), field_same k .pwrLostClocks (by decide),
    field_same k .pwrKeelFallback (by decide), field_same k .pwrMarginOn (by decide), k.wb (by decide), k.flt (by decide),
    k.easy (by decide)⟩

@[simp] theorem State.seatFault_keeps (s : State) (a0) (a1) (a2) :
    (State.seatFault a0 a1 a2 s).flt = s.flt := by
  have k := State.seatFault_keep (covers_self _) (Keep.refl _ s) a0 a1 a2
  exact k.flt (by decide)

@[simp] theorem State.pullHalt_keeps (s : State) (a0) :
    (State.pullHalt a0 s).flt = s.flt := by
  have k := State.pullHalt_keep (covers_self _) (Keep.refl _ s) a0
  exact k.flt (by decide)

@[simp] theorem State.seatReply_keeps (s : State) (a0) (a1) :
    (State.seatReply a0 a1 s).pwr = s.pwr ∧ (State.seatReply a0 a1 s).bank = s.bank ∧ (State.seatReply a0 a1 s).domain = s.domain := by
  have k := State.seatReply_keep (covers_self _) (Keep.refl _ s) a0 a1
  exact ⟨k.pwr (by decide), k.bank (by decide), State.domain_congr (field_same k .pwrDomains (by decide))⟩

@[simp] theorem State.chanSync_keeps (s : State) (a0) :
    (State.chanSync a0 s).pwr = s.pwr ∧ (State.chanSync a0 s).flt = s.flt := by
  have k := State.chanSync_keep (covers_self _) (Keep.refl _ s) a0
  exact ⟨k.pwr (by decide), k.flt (by decide)⟩

@[simp] theorem State.judge_keeps (s : State) (a0) :
    (State.judge a0 s).thm.counts = s.thm.counts ∧ (State.judge a0 s).flt = s.flt := by
  have k := State.judge_keep (covers_self _) (Keep.refl _ s) a0
  exact ⟨field_same k .thmCounts (by decide), k.flt (by decide)⟩

@[simp] theorem State.countFrame_keeps (s : State) (a0) :
    (State.countFrame a0 s).tim = s.tim ∧ (State.countFrame a0 s).img = s.img ∧ (State.countFrame a0 s).par = s.par ∧
    (State.countFrame a0 s).wop.sess = s.wop.sess ∧ (State.countFrame a0 s).wop.bulks = s.wop.bulks ∧
    (State.countFrame a0 s).wop.nextBulk = s.wop.nextBulk ∧ (State.countFrame a0 s).out = s.out ∧
    (State.countFrame a0 s).session = s.session ∧ (State.countFrame a0 s).cfg = s.cfg := by
  have k := State.countFrame_keep (covers_self _) (Keep.refl _ s) a0
  exact ⟨k.tim (by decide), k.img (by decide), k.par (by decide), field_same k .wopSess (by decide), field_same k .wopBulks (by decide),
    field_same k .wopNextBulk (by decide), k.out (by decide), State.session_congr (field_same k .wopSess (by decide)),
    State.cfg_congr (field_same k .objVals (by decide))⟩

@[simp] theorem State.endBulk_keeps (s : State) (a0) :
    (State.endBulk a0 s).out = s.out := by
  have k := State.endBulk_keep (covers_self _) (Keep.refl _ s) a0
  exact k.out (by decide)

@[simp] theorem State.recordSess_keeps (s : State) (a0) :
    (State.recordSess a0 s).head = s.head := by
  have k := State.recordSess_keep (covers_self _) (Keep.refl _ s) a0
  exact State.head_congr (field_same k .hstHeads (by decide))

@[simp] theorem State.putBulk_keeps (s : State) (a0) :
    (State.putBulk a0 s).out = s.out := by
  have k := State.putBulk_keep (covers_self _) (Keep.refl _ s) a0
  exact k.out (by decide)

@[simp] theorem State.freshSession_keeps (s : State) (a0) (a1) :
    (State.freshSession a0 a1 s).2.tim = s.tim ∧ (State.freshSession a0 a1 s).2.head = s.head := by
  have k := State.freshSession_keep (covers_self _) (Keep.refl _ s) a0 a1
  exact ⟨k.tim (by decide), State.head_congr (field_same k .hstHeads (by decide))⟩

@[simp] theorem State.beginSess_keeps (s : State) (a0) (a1) :
    (State.beginSess a0 a1 s).tim = s.tim ∧ (State.beginSess a0 a1 s).head = s.head := by
  have k := State.beginSess_keep (covers_self _) (Keep.refl _ s) a0 a1
  exact ⟨k.tim (by decide), State.head_congr (field_same k .hstHeads (by decide))⟩

@[simp] theorem State.countRequest_keeps (s : State) :
    (State.countRequest s).tim = s.tim ∧ (State.countRequest s).img = s.img ∧ (State.countRequest s).par = s.par ∧
    (State.countRequest s).wop.sess = s.wop.sess ∧ (State.countRequest s).wop.bulks = s.wop.bulks ∧
    (State.countRequest s).wop.nextBulk = s.wop.nextBulk ∧ (State.countRequest s).out = s.out ∧
    (State.countRequest s).session = s.session ∧ (State.countRequest s).cfg = s.cfg := by
  have k := State.countRequest_keep (covers_self _) (Keep.refl _ s)
  exact ⟨k.tim (by decide), k.img (by decide), k.par (by decide), field_same k .wopSess (by decide), field_same k .wopBulks (by decide),
    field_same k .wopNextBulk (by decide), k.out (by decide), State.session_congr (field_same k .wopSess (by decide)),
    State.cfg_congr (field_same k .objVals (by decide))⟩

@[simp] theorem State.wopAnswer_keeps (s : State) (a0) (a1) (a2) (a3) :
    (State.wopAnswer a0 a1 a2 a3 s).wop.sess = s.wop.sess := by
  have k := State.wopAnswer_keep (covers_self _) (Keep.refl _ s) a0 a1 a2 a3
  exact field_same k .wopSess (by decide)

@[simp] theorem State.wopReply_keeps (s : State) (a0) (a1) (a2) (a3) (a4) (a5) :
    (State.wopReply a0 a1 a2 a3 a4 a5 s).wop.bulks = s.wop.bulks ∧
    (State.wopReply a0 a1 a2 a3 a4 a5 s).wop.nextBulk = s.wop.nextBulk ∧ (State.wopReply a0 a1 a2 a3 a4 a5 s).cfg = s.cfg := by
  have k := State.wopReply_keep (covers_self _) (Keep.refl _ s) a0 a1 a2 a3 a4 a5
  exact ⟨field_same k .wopBulks (by decide), field_same k .wopNextBulk (by decide), State.cfg_congr (field_same k .objVals (by decide))⟩

@[simp] theorem State.sendSegments_keeps (s : State) (a0) (a1) (a2) :
    (State.sendSegments a0 a1 a2 s).wop.bulks = s.wop.bulks ∧ (State.sendSegments a0 a1 a2 s).wop.nextBulk = s.wop.nextBulk := by
  have k := State.sendSegments_keep (covers_self _) (Keep.refl _ s) a0 a1 a2
  exact ⟨field_same k .wopBulks (by decide), field_same k .wopNextBulk (by decide)⟩

@[simp] theorem State.bulkHeard_keeps (s : State) (a0) :
    (State.bulkHeard a0 s).wop.bulks = s.wop.bulks ∧ (State.bulkHeard a0 s).out = s.out := by
  have k := State.bulkHeard_keep (covers_self _) (Keep.refl _ s) a0
  exact ⟨field_same k .wopBulks (by decide), k.out (by decide)⟩

end Sys2Proof.Machine
end

section
/-! PROOFS. What the operations that every family shares do: outputs, fault messages, entry into Easy-all, deferred operations, the answer to an
object access. -/

namespace Sys2Proof.Machine

variable (s : State)

@[simp] theorem State.when_true (f : State → State) : s.when true f = f s := rfl

@[simp] theorem State.when_false (f : State → State) : s.when false f = s := rfl

/-! ## Outputs (03 R86) -/

@[simp] theorem State.emit_out (o : Out) : (s.emit o).out = s.out ++ [o] := rfl

/-- An MSI-X message changes of its link the pending bits alone. -/
theorem State.msix_link_same (h v : Nat) : (s.msix h v).link h = { s.link h with msixPending := ((s.msix h v).link h).msixPending } := by
  unfold State.msix
  dsimp only
  split
  · rfl
  · split <;> simp

@[simp] theorem State.msix_linkUp_same (h v : Nat) : (s.msix h v).linkUp h = s.linkUp h := by
  unfold State.linkUp
  rw [State.msix_link_same]

/-! ## The answer to an object access (R310) -/

/-- While Cox is up an access has its effect. -/
theorem accessed_of_up {s : State} (cox : s.coxUp = true) (out : State) : accessed s out = .next out := by
  simp [accessed, cox]

theorem accepted_emit (req : Req) (idx mem ticket : Nat) : accepted req idx mem (s.emit (.access req idx mem 0 ticket)) :=
  ⟨ticket, by simp⟩

theorem respondAccess_eq (req : Req) (idx mem status ticket : Nat) (known : status ≠ held) :
    respondAccess req idx mem (status, ticket, s) = s.emit (.access req idx mem status ticket) := by
  simp [respondAccess, respond, known, State.respondTo]

@[simp] theorem respondAccess_done (req : Req) (idx mem ticket : Nat) :
    respondAccess req idx mem (0, ticket, s) = s.emit (.access req idx mem 0 ticket) :=
  respondAccess_eq s req idx mem 0 ticket (by decide)

@[simp] theorem reply_eq (req : Req) (idx mem status ticket : Nat) :
    reply req idx mem (status, ticket, s) = s.emit (.access req idx mem status ticket) := rfl

theorem guarded_of_may {req : Req} {idx mem : Nat} (may : mayWrite idx mem req = 0) (f : State → Acc) : guarded req idx mem f s = f s := by
  simp [guarded, may]

/-! ## Deferred operations (R319–R321) -/

/-- The slot of a deferred operation that starts: Running, with no outcome yet. -/
def State.startedSlot (req : Req) (idx mem n : Nat) (s : State) : Slot :=
  { ticket := s.obj.ticketNext * 32 + n, state := 1, outcome := 1, progress := 255, index := idx, mem := mem, req := req, start := s.tim.opTime }

theorem State.ticketStart_fst {s : State} {n : Nat} (free : s.freeSlot = some n) (req : Req) (idx mem : Nat) :
    (s.ticketStart req idx mem).1 = some n := by
  simp [State.ticketStart, free]

theorem State.ticketStart_slot {s : State} {n : Nat} (free : s.freeSlot = some n) (req : Req) (idx mem : Nat) :
    (s.ticketStart req idx mem).2.slot n = s.startedSlot req idx mem n := by
  simp [State.ticketStart, free, State.slot, State.startedSlot]

theorem State.deferred_eq {s : State} {n : Nat} (free : s.freeSlot = some n) (req : Req) (idx mem : Nat) (f : Nat → State → State) :
    s.deferred req idx mem f = (0, ((s.ticketStart req idx mem).2.slot n).ticket, f n (s.ticketStart req idx mem).2) := by
  have first := State.ticketStart_fst free req idx mem
  rw [State.deferred]
  split
  · next none => simp [none] at first
  · next started => simp_all

/-- A deferred access that finds a slot: its operation runs on the state with the slot taken, and it is accepted. -/
theorem respondAccess_deferred {s : State} {n : Nat} (free : s.freeSlot = some n) (req : Req) (idx mem : Nat) (f : Nat → State → State) :
    respondAccess req idx mem (s.deferred req idx mem f)
      = (f n (s.ticketStart req idx mem).2).emit (.access req idx mem 0 ((s.ticketStart req idx mem).2.slot n).ticket) := by
  rw [State.deferred_eq free, respondAccess_done]

/-- The slot of an operation that ends while Cox is up. -/
theorem State.ticketDone_slot {s : State} {n : Nat} (running : (s.slot n).state = 1) (cox : s.coxUp = true) (outcome : Nat) (result : List Byte) :
    (s.ticketDone n outcome result).slot n
      = { s.slot n with state := 2, outcome := outcome, stop := s.tim.opTime, result := result } := by
  simp [State.ticketDone, running, cox]

/-! ## Fault messages (01 R23, 11 R262, R270) -/

theorem State.queueFault_reported (m : Word64) : reported s (s.queueFault m) m := by
  unfold reported queued State.queueFault
  by_cases room : s.flt.queue.length < 256 <;> simp [room]

theorem State.setSticky_sticky (src : Nat) : src ∈ (s.setSticky src).flt.sticky := by
  have listed (l : List Nat) : src ∈ insertSorted src l := by
    induction l with
    | nil => simp [insertSorted]
    | cons a r ih =>
      unfold insertSorted
      split
      · simp_all
      · split <;> simp_all
  unfold State.setSticky
  by_cases already : src ∈ s.flt.sticky <;> by_cases clearing : s.stickyClearing src = true <;> simp_all

/-- A kind below C3: the sticky bit from C1 on, and the queue. -/
theorem State.report_of_below {s : State} (keel : s.keelOn = true) {kind : Nat} (below : kindClass kind ≠ 3) (src : Nat) (addr : Option Nat) :
    s.report src kind addr
      = (s.when (decide (1 ≤ kindClass kind)) (State.setSticky src)).queueFault (faultMsg src kind addr false) := by
  have notFatal : (kindClass kind == 3) = false := by simpa using below
  simp [State.report, keel, below, notFatal]

@[simp] theorem State.setSticky_queue (src : Nat) : (s.setSticky src).flt.queue = s.flt.queue :=
  field_same (State.setSticky_keep (covers_self _) (Keep.refl _ s) src) .fltQueue (by decide)

theorem reported_of_eq {s u t : State} {m : Word64} (queue : u.flt.queue = s.flt.queue) (lost : u.flt.lost = s.flt.lost) (r : reported u t m) :
    reported s t m := by
  simpa only [reported, queued, queue, lost] using r

theorem queued_of_reported {s t : State} {m : Word64} (room : s.flt.queue.length < 256) (r : reported s t m) : queued s t m := by
  simpa only [reported, room, if_true] using r

/-- A message below C3 joins the queue or is counted as lost. -/
theorem State.report_reported {s : State} (keel : s.keelOn = true) {kind : Nat} (below : kindClass kind ≠ 3) (src : Nat) (addr : Option Nat) :
    reported s (s.report src kind addr) (faultMsg src kind addr false) := by
  rw [State.report_of_below keel below]
  refine reported_of_eq ?_ ?_ (State.queueFault_reported _ _)
  · unfold State.when; split <;> simp
  · unfold State.when; split <;> simp

theorem State.report_queued_of_below {s : State} (keel : s.keelOn = true) {kind : Nat} (below : kindClass kind ≠ 3) (src : Nat) (addr : Option Nat)
    (room : s.flt.queue.length < 256) : queued s (s.report src kind addr) (faultMsg src kind addr false) :=
  queued_of_reported room (State.report_reported keel below src addr)

/-! ## The fault queue only grows while a head signals viral (R75, R76) -/

theorem State.queueFault_prefix (m : Word64) : s.flt.queue <+: (s.queueFault m).flt.queue := by
  simp only [State.queueFault, State.modFlt_flt]
  split
  · exact List.prefix_append _ _
  · exact List.prefix_rfl

theorem State.enterViral_prefix (h : Nat) : s.flt.queue <+: (s.enterViral h).flt.queue := by
  unfold State.enterViral
  split
  · exact List.prefix_rfl
  · simpa using State.queueFault_prefix (s.modHead h fun d => { d with viral := true }) (faultMsg (srcHead h) 0x49 none false)

theorem State.signalViral_prefix (h : Nat) : s.flt.queue <+: (s.signalViral h).flt.queue := by
  unfold State.signalViral
  split
  · exact State.enterViral_prefix (s.emit _) h
  · exact List.prefix_rfl

theorem forEach_prefix {α : Type} (l : List α) (f : α → State → State) (grows : ∀ a s, s.flt.queue <+: (f a s).flt.queue) (s : State) :
    s.flt.queue <+: (forEach l f s).flt.queue := by
  induction l generalizing s with
  | nil => exact List.prefix_rfl
  | cons a r ih => exact (grows a s).trans (ih (f a s))

/-- Data service ends: the heads stop and the flush begins. -/
def State.stopped (s : State) : State :=
  ((s.modPwr fun p => { p with state := .easyAll }).modEasy fun e =>
    { e with state := .quiescing, entries := e.entries + 1, volatileEntries := e.volatileEntries + 1 }).modWb fun w =>
    { w with flushing := true, flushFrom := w.nextUnit }

theorem State.easyBegin_eq (viral : Bool) : s.easyBegin viral
    = ((((if viral then forEach allHeads State.signalViral s.stopped.withholdAll else s.stopped.withholdAll).boundSync).fireWhere
        (fun d => decide (d.trigger = 4)) 0).zeroMargins) := rfl

theorem State.easyBegin_flt (viral : Bool) :
    (s.easyBegin viral).flt = (if viral then forEach allHeads State.signalViral s.stopped.withholdAll else s.stopped.withholdAll).flt := by
  rw [State.easyBegin_eq]
  simp

theorem State.easyBegin_prefix (viral : Bool) : s.flt.queue <+: (s.easyBegin viral).flt.queue := by
  have same : s.stopped.withholdAll.flt = s.flt := by simp [State.stopped]
  rw [State.easyBegin_flt]
  cases viral with
  | false => exact same ▸ List.prefix_rfl
  | true =>
    rw [if_pos rfl, ← same]
    exact forEach_prefix allHeads State.signalViral (fun h s => State.signalViral_prefix s h) s.stopped.withholdAll

theorem State.easyEnter_prefix (bitNo : Nat) : s.flt.queue <+: (s.easyEnter bitNo).flt.queue := by
  unfold State.easyEnter
  generalize causes : (s.modEasy fun e => { e with causes := e.causes ||| (1#8 <<< bitNo) }) = u
  have same : s.flt = u.flt := by simp [← causes]
  rw [same]
  dsimp only
  split
  · exact State.easyBegin_prefix u _
  · split
    · exact forEach_prefix allHeads State.signalViral (fun h s => State.signalViral_prefix s h) u
    · exact List.prefix_rfl

theorem State.fatal_prefix (m : Word64) : s.flt.queue <+: (s.fatal m).flt.queue := by
  have entered := State.easyEnter_prefix (s.modFlt fun x => { x with lastC3 := m, lastC3At := s.tim.opTime, lastC3Cycle := s.tim.cycles }) 0
  exact entered

/-! ## Entry into Easy-all (R279, R282) -/

/-- A cause's bit set. -/
def State.causeSet (bitNo : Nat) (s : State) : State := s.modEasy fun e => { e with causes := e.causes ||| (1#8 <<< bitNo) }

theorem State.easyEnter_eq (bitNo : Nat) : s.easyEnter bitNo
    = if (s.causeSet bitNo).inService then (s.causeSet bitNo).easyBegin (bitNo == 0)
      else if bitNo = 0 then forEach allHeads State.signalViral (s.causeSet bitNo) else s.causeSet bitNo := rfl

/-- A cause other than C3: no head signals viral. -/
theorem State.easyEnter_of_quiet {bitNo : Nat} (quiet : bitNo ≠ 0) : s.easyEnter bitNo
    = if (s.causeSet bitNo).inService
      then (((s.causeSet bitNo).stopped.withholdAll.boundSync).fireWhere (fun d => decide (d.trigger = 4)) 0).zeroMargins
      else s.causeSet bitNo := by
  have silent : (bitNo == 0) = false := by simpa using quiet
  rw [State.easyEnter_eq, State.easyBegin_eq, silent, if_neg quiet]
  rfl

@[simp] theorem forEach_signalViral_causes (l : List Nat) : (forEach l State.signalViral s).easy = s.easy := by
  induction l generalizing s with
  | nil => rfl
  | cons a r ih => rw [forEach, ih]; simp

/-- The cause's bit is set, whatever the state. -/
theorem State.easyEnter_causes (bitNo : Nat) : (s.easyEnter bitNo).easy.causes = s.easy.causes ||| (1#8 <<< bitNo) := by
  unfold State.easyEnter
  dsimp only
  split
  · simp
  · split <;> simp

theorem State.easyEnter_cause {bitNo : Nat} (known : bitNo < 8) : (s.easyEnter bitNo).cause bitNo = true := by
  simp [State.cause, State.easyEnter_causes, known]

end Sys2Proof.Machine
end

section
/-! PROOFS. The three statements of tier 1: the flush of R150, the front of the queue, the state after reset. -/

namespace Sys2Proof.Machine

variable {s : State}

/-! ## A millisecond (notes/assumptions/1.md) -/

/-- Core start that begins with the millisecond leaves operating time alone. -/
theorem State.startSync_opTime (s : State) : s.startSync.tim.opTime = s.tim.opTime :=
  field_same (State.startSync_keep (covers_self _) (Keep.refl _ s)) .timOpTime (by decide)

theorem State.corePeriods_opTime (s : State) : s.corePeriods.tim.opTime = s.tim.opTime :=
  field_same (State.corePeriods_keep (covers_self _) (Keep.refl _ s)) .timOpTime (by decide)

theorem State.sampleInput_opTime (s : State) : s.sampleInput.tim.opTime = s.tim.opTime :=
  field_same (State.sampleInput_keep (covers_self _) (Keep.refl _ s)) .timOpTime (by decide)

theorem tick_opTime (keel : s.keelOn = true) : (tick s).tim.opTime = s.tim.opTime + 1 := by
  simp [tick, keel, State.startSync_opTime, State.corePeriods_opTime, State.sampleInput_opTime]

theorem tick_of_off (keel : s.keelOn = false) : tick s = s := by
  simp [tick, keel]

end Sys2Proof.Machine

open Sys2Proof Sys2Proof.Machine

/-- Settles O8: the answer of either phase is the whole effect of its command, and depends on the link alone. -/
theorem persistentFlushAnswered : Obligations.PersistentFlushAnswered := by
  intro s h
  refine ⟨fun up => ⟨?phase1, ?phase2⟩, fun down => ⟨?down1, ?down2⟩⟩
  case phase1 => simp [exec, execGpfPhase1, up]; rfl
  case phase2 => simp [exec, execGpfPhase2, up]; rfl
  case down1 => simp [exec, execGpfPhase1, down]
  case down2 => simp [exec, execGpfPhase2, down]

/-- Settles O55: the two branches of a step. -/
theorem stepTakesTheFront : Obligations.StepTakesTheFront := by
  intro s
  refine ⟨?front, ?empty⟩
  case front =>
    intro c rest front
    simp only [step, front]
    rfl
  case empty =>
    intro empty
    exact ⟨by simp only [step, empty], tick_opTime, tick_of_off⟩

/-- Settles O60: each part is read off the state after reset. -/
theorem resetState : Obligations.ResetState := by
  refine ⟨?canonical, rfl, rfl, fun idx mem => rfl, rfl, fun h => rfl, fun k => rfl⟩
  case canonical => decide +kernel

end

section
/-! PROOFS. What an event record, a viral signal and the entry into Easy-all leave of the links: everything but the pending bits of their
vectors. -/

namespace Sys2Proof.Machine

variable (s : State)

/-! ## Links but for the pending bits of their vectors (03 R86) -/

/-- A function of the state that each item keeps is kept by all of them. -/
theorem forEach_same {α β : Type} (g : State → β) (l : List α) {f : α → State → State} (same : ∀ a s, g (f a s) = g s) (s : State) :
    g (forEach l f s) = g s := by
  induction l generalizing s with
  | nil => rfl
  | cons a r ih => rw [forEach, ih, same]

/-- A write of another key that leaves an entry listed changes nothing at a key, in whatever form the table is. -/
theorem Tab.rd_mod_ne_of_listed {α : Type} [DecidableEq α] (d : α) (t : Tab α) {j k : Nat} (f : α → α) (other : j ≠ k)
    (listed : f (Tab.rd d t k) ≠ d) : Tab.rd d (Tab.mod d t k f) j = Tab.rd d t j := by
  rw [Tab.mod, Tab.set, Tab.put, if_neg listed]
  exact Tab.get_insert_ne _ _ _ other

@[simp] theorem State.msix_coreLink (h v : Nat) : (s.msix h v).coreLink = s.coreLink := by
  unfold State.msix
  dsimp only
  split
  · rfl
  · next on =>
    split
    · funext j
      by_cases same : j = h
      · subst same
        simp [State.coreLink]
      · have kept := Tab.rd_mod_ne_of_listed {} s.hst.links
          (fun l => { l with msixPending := l.msixPending - bit (testBit l.msixPending v) * 2 ^ v + 2 ^ v }) same ?listed
        · exact congrArg (fun l : LinkS => { l with msixPending := 0 }) kept
        · intro isDefault
          have off : (s.link h).msixOn = false := congrArg LinkS.msixOn isDefault
          simp [off] at on
    · rfl

@[simp] theorem State.eqSignal_coreLink (h : Nat) : (s.eqSignal h).coreLink = s.coreLink := by
  unfold State.eqSignal
  dsimp only
  split
  · simp
  · split <;> simp

@[simp] theorem State.eqPost_coreLink (h type source logSeq : Nat) (payload : List Byte) :
    (s.eqPost h type source logSeq payload).coreLink = s.coreLink := by
  unfold State.eqPost
  generalize noticed : s.when _ _ = u
  have same : u.coreLink = s.coreLink := by
    rw [← noticed, State.when]
    split <;> simp
  rw [← same]
  dsimp only
  split
  · rfl
  · split
    · simp
    · split <;> simp

@[simp] theorem State.headEvent_coreLink (heads : List Nat) (type source : Nat) (payload : List Byte) :
    (s.headEvent heads type source payload).coreLink = s.coreLink := by
  unfold State.headEvent
  split
  · rfl
  · rw [forEach_same State.coreLink _ fun h s => by simp]
    simp

@[simp] theorem State.linkEvent_coreLink (h : Nat) : (s.linkEvent h).coreLink = s.coreLink := by
  simp [State.linkEvent]

@[simp] theorem State.boundSyncHead_coreLink (h : Nat) : (s.boundSyncHead h).coreLink = s.coreLink := by
  unfold State.boundSyncHead
  dsimp only
  split <;> simp

@[simp] theorem State.boundSync_coreLink : s.boundSync.coreLink = s.coreLink :=
  forEach_same State.coreLink _ (fun h s => by simp) s

@[simp] theorem State.enterViral_coreLink (h : Nat) : (s.enterViral h).coreLink = s.coreLink := by
  unfold State.enterViral
  split <;> simp

@[simp] theorem State.signalViral_coreLink (h : Nat) : (s.signalViral h).coreLink = s.coreLink := by
  unfold State.signalViral
  split <;> simp

@[simp] theorem forEach_signalViral_coreLink (l : List Nat) : (forEach l State.signalViral s).coreLink = s.coreLink :=
  forEach_same State.coreLink _ (fun h s => by simp) s

@[simp] theorem State.easyBegin_coreLink (viral : Bool) : (s.easyBegin viral).coreLink = s.coreLink := by
  rw [State.easyBegin_eq]
  cases viral <;> simp [State.stopped]

@[simp] theorem State.easyEnter_coreLink (bitNo : Nat) : (s.easyEnter bitNo).coreLink = s.coreLink := by
  unfold State.easyEnter
  dsimp only
  split
  · simp
  · split <;> simp

@[simp] theorem State.report_coreLink (src kind : Nat) (addr : Option Nat) : (s.report src kind addr).coreLink = s.coreLink := by
  unfold State.report State.fatal State.when
  dsimp only
  repeat' split
  all_goals simp

@[simp] theorem State.easyCheck_coreLink : s.easyCheck.coreLink = s.coreLink := by
  unfold State.easyCheck State.easyLeave
  repeat' split
  all_goals simp

@[simp] theorem State.linkTrained_coreLink : s.linkTrained.coreLink = s.coreLink := by
  unfold State.linkTrained State.easyClear
  split <;> simp

/-! ## What the pending bits leave of a link -/

end Sys2Proof.Machine
end

section
/-! PROOFS. Training (03 R66, R68, R69). The statement does not ask for tables in canonical form. A table of links that lists 5 before 4 hides the
entry of 4, which reads as a link that is down. A mated cable takes link 5 down, for its head is fenced; its entry comes to the default and leaves
the table, and then link 4 reads as the entry that was hidden, which does not train. -/

namespace Sys2Proof.Machine

/-- Port 2 bifurcated and powered, head 5 fenced; the table of links lists 5 before 4. -/
def linksOutOfOrder : State :=
  { State.reset with
    hst := { ports := [(2, { bifurcated := true })], links := [(5, { state := 1 }), (4, { state := 7 })] }
    flt := { units := [(srcHead 5, { state := .fenced })] }
    pwr := { State.reset.pwr with domains := [(1, { state := 3 }), (14, { state := 3 })] } }

/-- The state that a mated cable leaves. -/
def linksOutOfOrderMated : State := (linksOutOfOrder.modPort 2 fun p => { p with cable := true }).portSync 2

theorem linksOutOfOrder_cableMated : exec (.cableMated 2) linksOutOfOrder = .next linksOutOfOrderMated := rfl

theorem linksOutOfOrderMated_state : (linksOutOfOrderMated.link 4).state = 7 := by decide +kernel

end Sys2Proof.Machine

open Sys2Proof Sys2Proof.Machine

/-- Refutes O17: the clause of CABLE_MATED fails for link 4 where the table of links lists link 5, which a fence takes down, before it. -/
theorem not_linkTraining : ¬ Obligations.LinkTraining := by
  intro holds
  obtain ⟨-, -, -, -, trains⟩ := holds linksOutOfOrder 4
  obtain ⟨-, mated, -⟩ := trains (by decide +kernel) (by decide +kernel) (by decide +kernel) (by decide +kernel) (by decide +kernel) (by decide +kernel)
  obtain ⟨t, next, -, -, trained⟩ := mated (by decide +kernel) (by decide +kernel)
  rw [linksOutOfOrder_cableMated] at next
  cases next
  rw [linksOutOfOrderMated_state] at trained
  contradiction

end

section
/-! PROOFS. The loss of a link (03 R80). A full reset writes the entries of its link and its head; after that a write of another entry leaves them,
whatever the form of the table, and the events that the reset brings find the head's event queue disabled. -/

namespace Sys2Proof.Machine

/-! ## An entry that no write of another key reaches -/

/-- A key is found before any larger one, or is not listed at all. -/
def Tab.settled {α : Type} (t : Tab α) (k : Nat) : Prop :=
  match t with
  | [] => True
  | (j, _) :: r => j = k ∨ (j < k ∧ Tab.settled r k) ∨ (k < j ∧ k ∉ r.map Prod.fst)

section
variable {α : Type} (d : Nat → α) {t : Tab α} {k : Nat}

theorem Tab.settled_of_not_listed (unlisted : k ∉ t.map Prod.fst) : Tab.settled t k := by
  induction t with
  | nil => trivial
  | cons e r ih =>
    simp only [List.map_cons, List.mem_cons, not_or] at unlisted
    obtain ⟨notFirst, notLater⟩ := unlisted
    obtain below | above : e.1 < k ∨ k < e.1 := by omega
    · exact .inr (.inl ⟨below, ih notLater⟩)
    · exact .inr (.inr ⟨above, notLater⟩)

theorem Tab.not_listed_erase : k ∉ (Tab.erase t k).map Prod.fst := by
  induction t with
  | nil => simp [Tab.erase]
  | cons e r ih =>
    unfold Tab.erase
    split
    · exact ih
    · next other => simpa [Ne.symm other] using ih

theorem Tab.listed_of_listed_erase {j : Nat} (listed : k ∈ (Tab.erase t j).map Prod.fst) : k ∈ t.map Prod.fst := by
  induction t with
  | nil => exact listed
  | cons e r ih =>
    unfold Tab.erase at listed
    split at listed
    · exact List.mem_cons_of_mem _ (ih listed)
    · simp only [List.map_cons, List.mem_cons] at listed ⊢
      exact listed.imp_right ih

theorem Tab.settled_insert_same (v : α) : Tab.settled (Tab.insert t k v) k := by
  induction t with
  | nil => exact .inl rfl
  | cons e r ih =>
    unfold Tab.insert
    split
    · exact .inl rfl
    · split
      · exact .inl rfl
      · exact .inr (.inl ⟨by omega, ih⟩)

theorem Tab.listed_insert {j : Nat} (v : α) (other : k ≠ j) : k ∈ (Tab.insert t j v).map Prod.fst ↔ k ∈ t.map Prod.fst := by
  induction t with
  | nil => simp [Tab.insert, other]
  | cons e r ih =>
    unfold Tab.insert
    split
    · next same => simp [← same]
    · split
      · simp [other]
      · simp only [List.map_cons, List.mem_cons]
        exact or_congr_right ih

theorem Tab.settled_insert {j : Nat} (v : α) (other : k ≠ j) (settled : Tab.settled t k) : Tab.settled (Tab.insert t j v) k := by
  induction t with
  | nil => exact Tab.settled_of_not_listed (by simpa [Tab.insert] using other)
  | cons e r ih =>
    obtain ⟨i, w⟩ := e
    unfold Tab.insert
    simp only [Tab.settled] at settled
    split
    · next same =>
      subst same
      exact settled
    · split
      · simp only [Tab.settled]
        obtain rfl | ⟨below, later⟩ | ⟨above, unlisted⟩ := settled
        · obtain first | last : j < i ∨ i < j := by omega
          · exact .inr (.inl ⟨first, .inl rfl⟩)
          · omega
        · exact .inr (.inl ⟨by omega, .inr (.inl ⟨below, later⟩)⟩)
        · obtain before | after : j < k ∨ k < j := by omega
          · exact .inr (.inl ⟨before, .inr (.inr ⟨above, unlisted⟩)⟩)
          · refine .inr (.inr ⟨after, ?_⟩)
            simp only [List.map_cons, List.mem_cons, not_or]
            exact ⟨by omega, unlisted⟩
      · simp only [Tab.settled]
        obtain same | ⟨below, later⟩ | ⟨above, unlisted⟩ := settled
        · exact .inl same
        · exact .inr (.inl ⟨below, ih later⟩)
        · exact .inr (.inr ⟨above, by rwa [Tab.listed_insert v other]⟩)

theorem Tab.settled_erase {j : Nat} (other : k ≠ j) (settled : Tab.settled t k) : Tab.settled (Tab.erase t j) k := by
  induction t with
  | nil => trivial
  | cons e r ih =>
    obtain ⟨i, w⟩ := e
    unfold Tab.erase
    simp only [Tab.settled] at settled
    split
    · next same =>
      obtain wrong | ⟨-, later⟩ | ⟨-, unlisted⟩ := settled
      · omega
      · exact ih later
      · exact Tab.settled_of_not_listed fun listed => unlisted (Tab.listed_of_listed_erase listed)
    · obtain same | ⟨below, later⟩ | ⟨above, unlisted⟩ := settled
      · exact .inl same
      · exact .inr (.inl ⟨below, ih later⟩)
      · exact .inr (.inr ⟨above, fun listed => unlisted (Tab.listed_of_listed_erase listed)⟩)

theorem Tab.get_erase_of_settled {j : Nat} (other : k ≠ j) (settled : Tab.settled t k) : Tab.get d (Tab.erase t j) k = Tab.get d t k := by
  induction t with
  | nil => rfl
  | cons e r ih =>
    obtain ⟨i, w⟩ := e
    simp only [Tab.settled] at settled
    unfold Tab.erase
    split
    · next same =>
      obtain wrong | ⟨below, later⟩ | ⟨above, unlisted⟩ := settled
      · omega
      · rw [ih later, Tab.get, if_neg (by omega), if_neg (by omega)]
      · rw [Tab.get_of_not_listed d _ fun listed => unlisted (Tab.listed_of_listed_erase listed), Tab.get, if_neg (by omega),
          if_pos (by omega)]
    · obtain same | ⟨below, later⟩ | ⟨above, unlisted⟩ := settled
      · simp [Tab.get, same]
      · simp only [Tab.get, ih later]
      · simp [Tab.get, above]

/-- A key that reads as no unlisted key would has been found. -/
theorem Tab.settled_of_get_ne (found : Tab.get d t k ≠ d k) : Tab.settled t k := by
  induction t with
  | nil => trivial
  | cons e r ih =>
    obtain ⟨i, w⟩ := e
    simp only [Tab.get] at found
    split at found
    · next same => exact .inl same
    · split at found
      · exact absurd rfl found
      · exact .inr (.inl ⟨by omega, ih found⟩)

variable [DecidableEq α]

theorem Tab.settled_put_same (v : α) : Tab.settled (Tab.put d t k v) k := by
  unfold Tab.put
  split
  · exact Tab.settled_of_not_listed Tab.not_listed_erase
  · exact Tab.settled_insert_same v

/-- Every write keeps what is settled. -/
theorem Tab.settled_put {j : Nat} (v : α) (settled : Tab.settled t k) : Tab.settled (Tab.put d t j v) k := by
  obtain rfl | other := eq_or_ne k j
  · exact Tab.settled_put_same d v
  · unfold Tab.put
    split
    · exact Tab.settled_erase other settled
    · exact Tab.settled_insert v other settled

theorem Tab.get_put_of_settled {j : Nat} (v : α) (other : k ≠ j) (settled : Tab.settled t k) :
    Tab.get d (Tab.put d t j v) k = Tab.get d t k := by
  unfold Tab.put
  split
  · exact Tab.get_erase_of_settled d other settled
  · exact Tab.get_insert_ne d t v other

theorem Tab.settled_mod_same (d : α) (f : α → α) : Tab.settled (Tab.mod d t k f) k := by
  unfold Tab.mod Tab.set
  exact Tab.settled_put_same _ _

theorem Tab.settled_mod (d : α) {j : Nat} (f : α → α) (settled : Tab.settled t k) : Tab.settled (Tab.mod d t j f) k := by
  unfold Tab.mod Tab.set
  exact Tab.settled_put _ _ settled

theorem Tab.rd_mod_of_settled (d : α) {j : Nat} (f : α → α) (other : k ≠ j) (settled : Tab.settled t k) :
    Tab.rd d (Tab.mod d t j f) k = Tab.rd d t k := Tab.get_put_of_settled _ _ other settled

end

/-! ## A port, a link, a head of which a property holds, and which no write of another hides -/

/-- A property of port `p`; of one that every port has nothing need be known of the table. -/
def State.PortIs (p : Nat) (P : PortS → Prop) (s : State) : Prop := (∀ x, P x) ∨ (Tab.settled s.hst.ports p ∧ P (s.port p))

/-- A property of the link of head `h`. -/
def State.LinkIs (h : Nat) (P : LinkS → Prop) (s : State) : Prop := Tab.settled s.hst.links h ∧ P (s.link h)

/-- A property of head `h`. -/
def State.HeadIs (h : Nat) (P : HeadS → Prop) (s : State) : Prop := Tab.settled s.hst.heads h ∧ P (s.head h)

section
variable {s t : State} {h n : Nat}

theorem State.PortIs.congr {P : PortS → Prop} (ports : t.hst.ports = s.hst.ports) (is : s.PortIs h P) : t.PortIs h P := by
  simpa only [State.PortIs, State.port, ports] using is

theorem State.LinkIs.congr {P : LinkS → Prop} (links : t.hst.links = s.hst.links) (is : s.LinkIs h P) : t.LinkIs h P := by
  simpa only [State.LinkIs, State.link, links] using is

theorem State.HeadIs.congr {P : HeadS → Prop} (heads : t.hst.heads = s.hst.heads) (is : s.HeadIs h P) : t.HeadIs h P := by
  simpa only [State.HeadIs, State.head, heads] using is

theorem State.PortIs.holds {P : PortS → Prop} (is : s.PortIs h P) : P (s.port h) :=
  is.elim (fun always => always _) fun found => found.2

theorem State.PortIs.modPort {P : PortS → Prop} {f : PortS → PortS} (is : s.PortIs h P) (keeps : n = h → P (s.port h) → P (f (s.port h))) :
    (s.modPort n f).PortIs h P := by
  obtain always | ⟨settled, holds⟩ := is
  · exact .inl always
  have still : Tab.settled (Tab.mod {} s.hst.ports n f) h := Tab.settled_mod {} f settled
  refine .inr ⟨still, ?_⟩
  obtain rfl | other := eq_or_ne n h
  · rw [State.modPort_port]
    exact keeps rfl holds
  · have same : Tab.rd {} (Tab.mod {} s.hst.ports n f) h = Tab.rd {} s.hst.ports h := Tab.rd_mod_of_settled {} f other.symm settled
    exact (congrArg P same).mpr holds

theorem State.LinkIs.modLink {P : LinkS → Prop} {f : LinkS → LinkS} (is : s.LinkIs h P) (keeps : n = h → P (s.link h) → P (f (s.link h))) :
    (s.modLink n f).LinkIs h P := by
  obtain ⟨settled, holds⟩ := is
  have still : Tab.settled (Tab.mod {} s.hst.links n f) h := Tab.settled_mod {} f settled
  refine ⟨still, ?_⟩
  obtain rfl | other := eq_or_ne n h
  · rw [State.modLink_link]
    exact keeps rfl holds
  · have same : Tab.rd {} (Tab.mod {} s.hst.links n f) h = Tab.rd {} s.hst.links h := Tab.rd_mod_of_settled {} f other.symm settled
    exact (congrArg P same).mpr holds

theorem State.HeadIs.modHead {P : HeadS → Prop} {f : HeadS → HeadS} (is : s.HeadIs h P) (keeps : n = h → P (s.head h) → P (f (s.head h))) :
    (s.modHead n f).HeadIs h P := by
  obtain ⟨settled, holds⟩ := is
  have still : Tab.settled (Tab.mod {} s.hst.heads n f) h := Tab.settled_mod {} f settled
  refine ⟨still, ?_⟩
  obtain rfl | other := eq_or_ne n h
  · rw [State.modHead_head]
    exact keeps rfl holds
  · have same : Tab.rd {} (Tab.mod {} s.hst.heads n f) h = Tab.rd {} s.hst.heads h := Tab.rd_mod_of_settled {} f other.symm settled
    exact (congrArg P same).mpr holds

theorem State.HeadIs.modHead_other {P : HeadS → Prop} (is : s.HeadIs h P) (other : n ≠ h) (f : HeadS → HeadS) : (s.modHead n f).HeadIs h P :=
  is.modHead fun same => absurd same other

theorem State.HeadIs.modEq_other {P : HeadS → Prop} (is : s.HeadIs h P) (other : n ≠ h) (f : EqS → EqS) : (s.modEq n f).HeadIs h P :=
  is.modHead_other other _

theorem State.HeadIs.msix {P : HeadS → Prop} (is : s.HeadIs h P) (j v : Nat) : (s.msix j v).HeadIs h P := is.congr (by simp)

theorem State.HeadIs.eqSignal_other {P : HeadS → Prop} (is : s.HeadIs h P) (other : n ≠ h) : (s.eqSignal n).HeadIs h P := by
  unfold State.eqSignal
  dsimp only
  split
  · exact is.congr (by simp)
  · split
    · exact is
    · exact (is.modEq_other other _).msix _ _

/-- A write of the entry itself settles it. -/
theorem State.modLink_is {P : LinkS → Prop} (s : State) {f : LinkS → LinkS} (holds : P (f (s.link h))) : (s.modLink h f).LinkIs h P := by
  have settled : Tab.settled (Tab.mod {} s.hst.links h f) h := Tab.settled_mod_same {} f
  exact ⟨settled, by rwa [State.modLink_link]⟩

theorem State.modHead_is {P : HeadS → Prop} (s : State) {f : HeadS → HeadS} (holds : P (f (s.head h))) : (s.modHead h f).HeadIs h P := by
  have settled : Tab.settled (Tab.mod {} s.hst.heads h f) h := Tab.settled_mod_same {} f
  exact ⟨settled, by rwa [State.modHead_head]⟩

theorem State.modPort_is {P : PortS → Prop} (s : State) {f : PortS → PortS} (holds : P (f (s.port h))) : (s.modPort h f).PortIs h P := by
  have settled : Tab.settled (Tab.mod {} s.hst.ports h f) h := Tab.settled_mod_same {} f
  exact .inr ⟨settled, by rwa [State.modPort_port]⟩

end

/-- What each item of a list keeps, all of them keep. -/
theorem forEach_keeps {α : Type} {P : State → Prop} (l : List α) {f : α → State → State} (keeps : ∀ a s, P s → P (f a s)) {s : State} (holds : P s) :
    P (forEach l f s) := by
  induction l generalizing s with
  | nil => exact holds
  | cons a r ih => exact ih (keeps a s holds)

/-! ## Event records and the links (03 R86) -/

/-- A property of a link that its pending bits do not decide. -/
def LinkS.Unpended (P : LinkS → Prop) : Prop := ∀ l p, P l → P { l with msixPending := p }

section
variable {s : State} {h : Nat} {P : LinkS → Prop} (unpended : LinkS.Unpended P)
include unpended

theorem State.LinkIs.msix (is : s.LinkIs h P) (j v : Nat) : (s.msix j v).LinkIs h P := by
  unfold State.msix
  dsimp only
  split
  · exact is
  · split
    · exact is.modLink fun _ holds => unpended _ _ holds
    · exact is.congr rfl

theorem State.LinkIs.eqSignal (is : s.LinkIs h P) (j : Nat) : (s.eqSignal j).LinkIs h P := by
  unfold State.eqSignal
  dsimp only
  split
  · exact is.msix unpended _ _
  · split
    · exact is
    · exact (is.congr (by simp)).msix unpended _ _

theorem State.LinkIs.eqPost (is : s.LinkIs h P) (j type source logSeq : Nat) (payload : List Byte) :
    (s.eqPost j type source logSeq payload).LinkIs h P := by
  unfold State.eqPost
  generalize noticed : s.when _ _ = u
  have isNoticed : u.LinkIs h P := is.congr (by rw [← noticed, State.when]; split <;> simp)
  dsimp only
  split
  · exact isNoticed
  · split
    · exact isNoticed.congr (by simp)
    · split
      · exact isNoticed.congr (by simp)
      · exact (isNoticed.congr (by simp)).eqSignal unpended _

theorem State.LinkIs.headEvent (is : s.LinkIs h P) (heads : List Nat) (type source : Nat) (payload : List Byte) :
    (s.headEvent heads type source payload).LinkIs h P := by
  unfold State.headEvent
  split
  · exact is
  · exact forEach_keeps heads (fun j s is => is.eqPost unpended j _ _ _ _) (is.congr (by simp))

theorem State.LinkIs.boundSync (is : s.LinkIs h P) : s.boundSync.LinkIs h P := by
  refine forEach_keeps allHeads (fun j s is => ?_) is
  unfold State.boundSyncHead
  dsimp only
  split
  · exact is
  · exact ((is.congr (by simp)).headEvent unpended _ _ _ _).msix unpended _ _

/-- Easy-all for a cause other than C3, in which no head signals viral. -/
theorem State.LinkIs.easyEnter (is : s.LinkIs h P) {bitNo : Nat} (quiet : bitNo ≠ 0) : (s.easyEnter bitNo).LinkIs h P := by
  have entered : (s.causeSet bitNo).stopped.withholdAll.LinkIs h P := is.congr (by simp [State.stopped, State.causeSet])
  have begun := State.LinkIs.boundSync unpended entered
  rw [State.easyEnter_of_quiet s quiet]
  split
  · exact begun.congr (by simp)
  · exact is.congr rfl

end

/-! ## Event records and the heads whose event queue is disabled (04 R112) -/

/-- A property of a head of which it follows that its event queue is disabled, and which BOUND_STATUS does not decide. -/
structure HeadS.Silent (P : HeadS → Prop) : Prop where
  disabled : ∀ d, P d → d.eq.enable = false
  unbound : ∀ d b, P d → P { d with bound := b }

section
variable {s : State} {h : Nat} {P : HeadS → Prop} (silent : HeadS.Silent P)
include silent

theorem State.HeadIs.eqPost (is : s.HeadIs h P) (j type source logSeq : Nat) (payload : List Byte) :
    (s.eqPost j type source logSeq payload).HeadIs h P := by
  unfold State.eqPost
  generalize noticed : s.when _ _ = u
  have isNoticed : u.HeadIs h P := is.congr (by rw [← noticed, State.when]; split <;> simp)
  have disabled := silent.disabled _ isNoticed.2
  dsimp only
  split
  · exact isNoticed
  · next enabled =>
    have other : j ≠ h := by
      rintro rfl
      simp [disabled] at enabled
    split
    · exact isNoticed.modEq_other other _
    · split
      · exact (isNoticed.modEq_other other _).modHead_other other _
      · refine State.HeadIs.eqSignal_other ?_ other
        refine State.HeadIs.congr (s := State.modHead j _ _) rfl ?_
        refine State.HeadIs.modHead_other ?_ other _
        refine State.HeadIs.modEq_other ?_ other _
        exact isNoticed.congr rfl

theorem State.HeadIs.headEvent (is : s.HeadIs h P) (heads : List Nat) (type source : Nat) (payload : List Byte) :
    (s.headEvent heads type source payload).HeadIs h P := by
  unfold State.headEvent
  split
  · exact is
  · exact forEach_keeps heads (fun j s is => is.eqPost silent j _ _ _ _) (is.congr (by simp))

theorem State.HeadIs.boundSync (is : s.HeadIs h P) : s.boundSync.HeadIs h P := by
  refine forEach_keeps allHeads (fun j s is => ?_) is
  unfold State.boundSyncHead
  dsimp only
  split
  · exact is
  · have bound := is.modHead (n := j) (f := fun d => { d with bound := s.boundStatus j }) fun _ holds => silent.unbound _ _ holds
    exact (bound.headEvent silent _ _ _ _).msix _ _

/-- Easy-all for a cause other than C3, in which no head signals viral. -/
theorem State.HeadIs.easyEnter (is : s.HeadIs h P) {bitNo : Nat} (quiet : bitNo ≠ 0) : (s.easyEnter bitNo).HeadIs h P := by
  have entered : (s.causeSet bitNo).stopped.withholdAll.HeadIs h P := is.congr (by simp [State.stopped, State.causeSet])
  have begun := State.HeadIs.boundSync silent entered
  rw [State.easyEnter_of_quiet s quiet]
  split
  · exact begun.congr (by simp)
  · exact is.congr rfl

end

/-! ## A full reset of a head (03 R80) -/

/-- The records of a head that its link's loss writes: the link, its port, the reads and the write entries, the head. -/
def State.linkReset (h : Nat) (s : State) : State :=
  let wasUp := s.linkUp h
  let s := s.modLink h fun l => let c := clearedLink l; if wasUp then { c with downCount := c.downCount + 1 } else c
  let s := s.when wasUp (State.modPort (h / 2) fun p => { p with downCount := p.downCount + 1 })
  let s := s.modRdp fun r => { r with reads := r.reads.map fun e =>
    if e.2.head = h then (e.1, { e.2 with discard := true }) else e }
  let s := s.modWb fun w => { w with ents := Tab.remap {} (fun _ l =>
    { opened := l.opened.map (dropOwed h), drain := l.drain.map (dropOwed h) }) w.ents }
  s.modHead h fun d => { d with viral := false, eq := {}, doorbell := none }

/-- The record of the loss of a link that was up. -/
def State.lossPosted (h : Nat) (wasUp : Bool) (s : State) : State :=
  if wasUp then s.headEvent [h] 7 0x3FF (payload32 (be 4 (s.linkStatus h).toNat)) else s

/-- BOUND_STATUS after the loss, and Easy-all where it was the last fast link. -/
def State.lossBound (s : State) : State :=
  let s := s.boundSync
  if (s.inService || s.inEasy) && !s.anyFast then s.easyEnter 5 else s

theorem State.linkDown_eq (s : State) (h : Nat) : s.linkDown h
    = if (s.link h).state = 0 ∨ (s.link h).state = 4 then s else ((s.linkReset h).lossPosted h (s.linkUp h)).lossBound := rfl

/-- A head after its reset: not viral, its event queue at its defaults, no mailbox command waiting. -/
def HeadS.Fresh (d : HeadS) : Prop := d.viral = false ∧ d.eq = {} ∧ d.doorbell = none

theorem HeadS.silent_fresh : HeadS.Silent HeadS.Fresh where
  disabled := fun d ⟨_, eq, _⟩ => by rw [eq]
  unbound := fun _ _ fresh => fresh

/-- A head that has been reset, with what is known of its link and of its port, and its reads in flight to be discarded. -/
structure State.Lost (h : Nat) (Q : LinkS → Prop) (R : PortS → Prop) (s : State) : Prop where
  link : s.LinkIs h Q
  port : s.PortIs (h / 2) R
  head : s.HeadIs h HeadS.Fresh
  reads : ∀ e ∈ s.rdp.reads, e.2.head = h → e.2.discard = true

/-- A property of a port that its cable alone decides. -/
def PortS.Cabled (R : PortS → Prop) : Prop := ∀ p q, q.cable = p.cable → R p → R q

/-- A property of a link that is down or training, and that another reset leaves. -/
structure LinkS.Down (Q : LinkS → Prop) : Prop where
  unpended : LinkS.Unpended Q
  cleared : ∀ l, Q l → l.state = 0 ∨ (l.state = 1 ∧ Q (clearedLink l))

section
variable {s : State} {h : Nat} {Q : LinkS → Prop} {R : PortS → Prop}

theorem State.PortIs.boundSync (is : s.PortIs h R) : s.boundSync.PortIs h R := is.congr (by simp)

theorem State.PortIs.forEach_modPort (is : s.PortIs h R) (cabled : PortS.Cabled R) (l : List Nat) {f : Nat → State → State}
    (modifies : ∀ p s, ∃ g : PortS → PortS, f p s = s.modPort p g ∧ ∀ x, (g x).cable = x.cable) : (forEach l f s).PortIs h R := by
  refine forEach_keeps l (fun p s is => ?_) is
  obtain ⟨g, eq, cable⟩ := modifies p s
  rw [eq]
  exact is.modPort fun _ holds => cabled _ _ (cable _) holds

theorem State.PortIs.easyEnter (is : s.PortIs h R) (cabled : PortS.Cabled R) {bitNo : Nat} (quiet : bitNo ≠ 0) : (s.easyEnter bitNo).PortIs h R := by
  have entered : (s.causeSet bitNo).stopped.PortIs h R := is.congr (by simp [State.stopped, State.causeSet])
  have held : (s.causeSet bitNo).stopped.withholdAll.PortIs h R :=
    entered.forEach_modPort cabled _ fun p s => ⟨_, rfl, fun _ => rfl⟩
  rw [State.easyEnter_of_quiet s quiet]
  split
  · exact held.congr (by simp)
  · exact is.congr rfl

theorem State.Lost.congr {t : State} (hst : t.hst = s.hst) (reads : t.rdp.reads = s.rdp.reads) (lost : s.Lost h Q R) : t.Lost h Q R where
  link := lost.link.congr (by rw [hst])
  port := lost.port.congr (by rw [hst])
  head := lost.head.congr (by rw [hst])
  reads := by rw [reads]; exact lost.reads

theorem State.LinkIs.linkReset {P : LinkS → Prop} (is : s.LinkIs h P) (j : Nat)
    (keeps : j = h → P (s.link h) → P (if s.linkUp h then { clearedLink (s.link h) with downCount := (s.link h).downCount + 1 }
      else clearedLink (s.link h))) : (s.linkReset j).LinkIs h P := by
  refine State.LinkIs.congr (s := s.modLink j fun l => let c := clearedLink l; if s.linkUp j then { c with downCount := c.downCount + 1 } else c) ?_ ?_
  · unfold State.linkReset State.when; dsimp only; split <;> simp
  · refine is.modLink ?_
    rintro rfl holds
    exact keeps rfl holds

theorem State.PortIs.linkReset (is : s.PortIs h R) (cabled : PortS.Cabled R) (j : Nat) : (s.linkReset j).PortIs h R := by
  refine State.PortIs.congr (s := s.when (s.linkUp j) (State.modPort (j / 2) fun p => { p with downCount := p.downCount + 1 })) ?_ ?_
  · unfold State.linkReset State.when; dsimp only; split <;> simp [State.modPort, State.modLink]
  · unfold State.when
    split
    · exact is.modPort fun _ holds => cabled (s.port h) _ rfl holds
    · exact is

theorem State.LinkIs.lossPosted {P : LinkS → Prop} (unpended : LinkS.Unpended P) (is : s.LinkIs h P) (j : Nat) (wasUp : Bool) :
    (s.lossPosted j wasUp).LinkIs h P := by
  unfold State.lossPosted
  split
  · exact is.headEvent unpended _ _ _ _
  · exact is

theorem State.LinkIs.lossBound {P : LinkS → Prop} (unpended : LinkS.Unpended P) (is : s.LinkIs h P) : s.lossBound.LinkIs h P := by
  unfold State.lossBound
  dsimp only
  split
  · exact State.LinkIs.easyEnter unpended (is.boundSync unpended) (by decide)
  · exact is.boundSync unpended

theorem State.PortIs.lossPosted (is : s.PortIs h R) (j : Nat) (wasUp : Bool) : (s.lossPosted j wasUp).PortIs h R := by
  unfold State.lossPosted
  split
  · exact is.congr (by simp)
  · exact is

theorem State.PortIs.lossBound (is : s.PortIs h R) (cabled : PortS.Cabled R) : s.lossBound.PortIs h R := by
  unfold State.lossBound
  dsimp only
  split
  · exact State.PortIs.easyEnter is.boundSync cabled (by decide)
  · exact is.boundSync

theorem State.HeadIs.lossPosted {P : HeadS → Prop} (silent : HeadS.Silent P) (is : s.HeadIs h P) (j : Nat) (wasUp : Bool) :
    (s.lossPosted j wasUp).HeadIs h P := by
  unfold State.lossPosted
  split
  · exact is.headEvent silent _ _ _ _
  · exact is

theorem State.HeadIs.lossBound {P : HeadS → Prop} (silent : HeadS.Silent P) (is : s.HeadIs h P) : s.lossBound.HeadIs h P := by
  unfold State.lossBound
  dsimp only
  split
  · exact State.HeadIs.easyEnter silent (is.boundSync silent) (by decide)
  · exact is.boundSync silent

@[simp] theorem State.lossPosted_rdp (s : State) (j : Nat) (wasUp : Bool) : (s.lossPosted j wasUp).rdp = s.rdp := by
  unfold State.lossPosted
  split <;> simp

@[simp] theorem State.lossBound_rdp (s : State) : s.lossBound.rdp = s.rdp := by
  unfold State.lossBound
  dsimp only
  split <;> simp

theorem State.LinkIs.linkDown_other {P : LinkS → Prop} (unpended : LinkS.Unpended P) (is : s.LinkIs h P) {j : Nat} (other : j ≠ h) :
    (s.linkDown j).LinkIs h P := by
  rw [State.linkDown_eq]
  split
  · exact is
  · exact State.LinkIs.lossBound unpended (State.LinkIs.lossPosted unpended (is.linkReset j fun same => absurd same other) j _)

theorem State.PortIs.linkDown (is : s.PortIs h R) (cabled : PortS.Cabled R) (j : Nat) : (s.linkDown j).PortIs h R := by
  rw [State.linkDown_eq]
  split
  · exact is
  · exact ((is.linkReset cabled j).lossPosted j _).lossBound cabled

theorem State.Lost.events (down : LinkS.Down Q) (cabled : PortS.Cabled R) (lost : s.Lost h Q R) (j : Nat) (wasUp : Bool) :
    (s.lossPosted j wasUp).lossBound.Lost h Q R where
  link := (lost.link.lossPosted down.unpended j wasUp).lossBound down.unpended
  port := (lost.port.lossPosted j wasUp).lossBound cabled
  head := (lost.head.lossPosted HeadS.silent_fresh j wasUp).lossBound HeadS.silent_fresh
  reads := by simpa using lost.reads

/-- The reset of another head, or of the same again, keeps a head reset. -/
theorem State.Lost.linkReset (down : LinkS.Down Q) (cabled : PortS.Cabled R) (lost : s.Lost h Q R) {j : Nat} (moves : (s.link j).state ≠ 0) :
    (s.linkReset j).Lost h Q R where
  link := lost.link.linkReset j fun same holds => by
    obtain idle | ⟨training, cleared⟩ := down.cleared _ holds
    · exact absurd (same ▸ idle) moves
    · have notUp : s.linkUp h = false := by simp [State.linkUp, training]
      simpa [notUp] using cleared
  port := lost.port.linkReset cabled j
  head := by
    refine State.HeadIs.congr (s := s.modHead j fun d => { d with viral := false, eq := {}, doorbell := none }) ?_ ?_
    · unfold State.linkReset State.when; dsimp only; split <;> simp [State.modHead]
    · exact lost.head.modHead fun _ _ => ⟨rfl, rfl, rfl⟩
  reads := by
    have reads : (s.linkReset j).rdp.reads = s.rdp.reads.map fun e => if e.2.head = j then (e.1, { e.2 with discard := true }) else e := by
      unfold State.linkReset State.when; dsimp only; split <;> simp
    rw [reads]
    intro e listed
    obtain ⟨e, before, rfl⟩ := List.mem_map.mp listed
    split
    · exact fun _ => rfl
    · exact lost.reads e before

theorem State.Lost.linkDown (down : LinkS.Down Q) (cabled : PortS.Cabled R) (lost : s.Lost h Q R) (j : Nat) : (s.linkDown j).Lost h Q R := by
  rw [State.linkDown_eq]
  split
  · exact lost
  · next moves => exact (lost.linkReset down cabled fun idle => moves (.inl idle)).events down cabled j _

theorem State.Lost.whenDown (down : LinkS.Down Q) (cabled : PortS.Cabled R) (lost : s.Lost h Q R) (c : Bool) (j : Nat) :
    (s.when c (State.linkDown j)).Lost h Q R := by
  cases c
  · exact lost
  · exact lost.linkDown down cabled j

theorem State.Lost.applyMode (cabled : PortS.Cabled R) (lost : s.Lost h Q R) (p : Nat) : (s.applyMode p).Lost h Q R := by
  unfold State.applyMode
  split
  · exact ⟨lost.link.congr (by simp), lost.port.modPort fun _ holds => cabled (s.port (h / 2)) _ rfl holds, lost.head.congr (by simp), by simpa using lost.reads⟩
  · exact lost

/-- A link trains again only while nothing holds it. -/
theorem State.Lost.train (started : s.linkHeld h = true ∨ ∀ l, Q l → Q { l with state := 1 }) (lost : s.Lost h Q R) (j : Nat) :
    (s.train j).Lost h Q R := by
  unfold State.train
  split
  · next free =>
    refine ⟨State.LinkIs.congr (s := s.modLink j fun l => { l with state := 1 }) (by simp) ?_, lost.port.congr (by simp), ?_, by simpa using lost.reads⟩
    · refine lost.link.modLink ?_
      rintro rfl holds
      obtain isHeld | keeps := started
      · simp [isHeld] at free
      · exact keeps _ holds
    · have trained : (s.modLink j fun l => { l with state := 1 }).HeadIs h HeadS.Fresh := lost.head.congr (by simp)
      exact trained.modHead fun _ fresh => fresh
  · exact lost

/-- The mode of the port is applied, and its links train unless they are held. -/
theorem State.Lost.portSyncEnd (cabled : PortS.Cabled R)
    (started : ∀ s : State, s.Lost h Q R → s.linkHeld h = true ∨ ∀ l, Q l → Q { l with state := 1 }) (lost : s.Lost h Q R) (p : Nat) :
    (((s.applyMode p).train (2 * p)).train (2 * p + 1)).Lost h Q R := by
  have applied := lost.applyMode cabled p
  have first := applied.train (started _ applied) (2 * p)
  exact first.train (started _ first) (2 * p + 1)

theorem State.Lost.portSync (down : LinkS.Down Q) (cabled : PortS.Cabled R)
    (started : ∀ s : State, s.Lost h Q R → s.linkHeld h = true ∨ ∀ l, Q l → Q { l with state := 1 }) (lost : s.Lost h Q R) (p : Nat) :
    (s.portSync p).Lost h Q R := by
  exact State.Lost.portSyncEnd cabled started ((lost.whenDown down cabled _ (2 * p)).whenDown down cabled _ (2 * p + 1)) p

theorem State.linkDown_of_up (up : s.linkUp h = true) : s.linkDown h = ((s.linkReset h).lossPosted h true).lossBound := by
  have moves : ¬ ((s.link h).state = 0 ∨ (s.link h).state = 4) := by
    simp only [State.linkUp, decide_eq_true_eq] at up
    omega
  rw [State.linkDown_eq, if_neg moves, up]

/-- The head of a link that goes down, but for its event queue and its reset. -/
theorem State.linkDown_head {P : HeadS → Prop} (up : s.linkUp h = true) (silent : HeadS.Silent P)
    (reset : P { s.head h with viral := false, eq := {}, doorbell := none }) : (s.linkDown h).HeadIs h P := by
  have written : (s.linkReset h).HeadIs h P := by
    refine State.HeadIs.congr (s := s.modHead h fun d => { d with viral := false, eq := {}, doorbell := none }) ?_ (State.modHead_is s reset)
    simp [State.linkReset, up, State.modHead]
  rw [State.linkDown_of_up up]
  exact (written.lossPosted silent h true).lossBound silent

/-- The loss of a link that is up resets its head. -/
theorem State.linkDown_lost (up : s.linkUp h = true) (down : LinkS.Down Q) (cabled : PortS.Cabled R)
    (link : Q { clearedLink (s.link h) with downCount := (s.link h).downCount + 1 }) (port : R (s.port (h / 2))) : (s.linkDown h).Lost h Q R := by
  rw [State.linkDown_of_up up]
  refine State.Lost.events down cabled ?_ h _
  refine ⟨?_, ?_, ?_, ?_⟩
  · refine State.LinkIs.congr (s := s.modLink h fun l => let c := clearedLink l; { c with downCount := c.downCount + 1 }) ?_ (State.modLink_is s link)
    simp [State.linkReset, up]
  · refine State.PortIs.congr (s := s.modPort (h / 2) fun p => { p with downCount := p.downCount + 1 }) ?_ (State.modPort_is s (cabled (s.port (h / 2)) _ rfl port))
    simp [State.linkReset, up, State.modPort]
  · refine State.HeadIs.congr (s := s.modHead h fun d => { d with viral := false, eq := {}, doorbell := none }) ?_
      (State.modHead_is s ⟨rfl, rfl, rfl⟩)
    simp [State.linkReset, up, State.modHead]
  · have reads : (s.linkReset h).rdp.reads = s.rdp.reads.map fun e => if e.2.head = h then (e.1, { e.2 with discard := true }) else e := by
      simp [State.linkReset, up]
    rw [reads]
    intro e listed
    obtain ⟨e, before, rfl⟩ := List.mem_map.mp listed
    split
    · exact fun _ => rfl
    · next other => exact fun same => absurd same other

/-- A link that is up and now held goes down with its port's links. -/
theorem State.portSync_lost {P : LinkS → Prop} (unpended : LinkS.Unpended P) (down : LinkS.Down Q) (cabled : PortS.Cabled R)
    (link : s.LinkIs h P) (port : s.PortIs (h / 2) R) (up : ∀ s : State, s.LinkIs h P → s.linkUp h = true)
    (held : ∀ s : State, R (s.port (h / 2)) → P (s.link h) ∨ Q (s.link h) → s.linkHeld h = true)
    (cleared : ∀ l, P l → Q { clearedLink l with downCount := l.downCount + 1 }) : (s.portSync (h / 2)).Lost h Q R := by
  have started (s : State) (lost : s.Lost h Q R) : s.linkHeld h = true ∨ ∀ l, Q l → Q { l with state := 1 } :=
    .inl (held s lost.port.holds (.inr lost.link.2))
  have goesDown {u : State} (link : u.LinkIs h P) (port : u.PortIs (h / 2) R) : (u.when (u.linkHeld h) (State.linkDown h)).Lost h Q R := by
    rw [held u port.holds (.inl link.2), State.when_true]
    exact State.linkDown_lost (up u link) down cabled (cleared _ link.2) port.holds
  obtain even | odd : h = 2 * (h / 2) ∨ h = 2 * (h / 2) + 1 := by omega
  · have first : (s.when (s.linkHeld (2 * (h / 2))) (State.linkDown (2 * (h / 2)))).Lost h Q R := by
      rw [← even]
      exact goesDown link port
    exact State.Lost.portSyncEnd cabled started (first.whenDown down cabled _ _) (h / 2)
  · have first : (s.when (s.linkHeld (2 * (h / 2))) (State.linkDown (2 * (h / 2)))).LinkIs h P
        ∧ (s.when (s.linkHeld (2 * (h / 2))) (State.linkDown (2 * (h / 2)))).PortIs (h / 2) R := by
      unfold State.when
      split
      · exact ⟨link.linkDown_other unpended (by omega), port.linkDown cabled _⟩
      · exact ⟨link, port⟩
    refine State.Lost.portSyncEnd cabled started ?_ (h / 2)
    rw [← odd]
    exact goesDown first.1 first.2

end

/-- A link that is up has been found in the table. -/
theorem State.linkIs_of_up {s : State} {h : Nat} (up : s.linkUp h = true) {P : LinkS → Prop} (holds : P (s.link h)) : s.LinkIs h P := by
  refine ⟨Tab.settled_of_get_ne (fun _ => {}) fun isDefault => ?_, holds⟩
  have down : (s.link h).state = 0 := congrArg LinkS.state isDefault
  simp [State.linkUp, down] at up

/-! ## The four ways in which a link goes down -/

/-- Of a link that a loss leaves down or training: what its reset clears, and the count of its losses. -/
def LinkS.LostOnce (n : Nat) (l : LinkS) : Prop := l.state ≤ 1 ∧ l.memEnable = false ∧ l.ideMem = 0 ∧ l.downCount = n

theorem LinkS.down_lostOnce (n : Nat) : LinkS.Down (LinkS.LostOnce n) where
  unpended := fun _ _ lost => lost
  cleared := fun l ⟨low, _, _, count⟩ => by
    obtain idle | training : l.state = 0 ∨ l.state = 1 := by omega
    · exact .inl idle
    · exact .inr ⟨training, Nat.zero_le _, rfl, rfl, count⟩

theorem PortS.cabled_true : PortS.Cabled fun _ => True := fun _ _ _ _ => trivial

/-- Of a link that PERST_N holds down. -/
def LinkS.Asserted (n : Nat) (l : LinkS) : Prop := l.state = 0 ∧ l.perstLow = true ∧ l.perstCount = n

theorem LinkS.down_asserted (n : Nat) : LinkS.Down (LinkS.Asserted n) where
  unpended := fun _ _ held => held
  cleared := fun _ ⟨idle, _, _⟩ => .inl idle

theorem LinkS.down_idle : LinkS.Down fun l => l.state = 0 where
  unpended := fun _ _ idle => idle
  cleared := fun _ idle => .inl idle

theorem LinkS.down_held : LinkS.Down fun l => l.state = 0 ∧ l.held = true where
  unpended := fun _ _ held => held
  cleared := fun _ ⟨idle, _⟩ => .inl idle

theorem PortS.cabled_unplugged : PortS.Cabled fun p => p.cable = false := fun _ _ same unplugged => same.trans unplugged

variable {s : State} {h : Nat}

theorem State.linkDown_portSync_lost (up : s.linkUp h = true) :
    ((s.linkDown h).portSync (h / 2)).Lost h (LinkS.LostOnce ((s.link h).downCount + 1)) fun _ => True := by
  have lost : (s.linkDown h).Lost h (LinkS.LostOnce ((s.link h).downCount + 1)) fun _ => True :=
    State.linkDown_lost up (LinkS.down_lostOnce _) PortS.cabled_true ⟨Nat.zero_le _, rfl, rfl, rfl⟩ trivial
  exact lost.portSync (LinkS.down_lostOnce _) PortS.cabled_true (fun s _ => .inr fun l ⟨_, lost⟩ => ⟨Nat.le_refl 1, lost⟩) (h / 2)

/-- PERST_N asserted on a link that is up and not fenced. -/
def State.perstAsserted (h : Nat) (s : State) : State :=
  (s.modLink h fun l => { l with perstLow := true, perstCount := l.perstCount + 1 }).portSync (h / 2)

theorem exec_perstAssert_of_high (present : s.absent h = false) (inService : s.isOut (srcPort (h / 2)) = false)
    (high : (s.link h).perstLow = false) : exec (.perstAssert (h / 2) (h % 2)) s = .next (s.perstAsserted h) := by
  have number : 2 * (h / 2) + h % 2 = h := by omega
  have next : exec (.perstAssert (h / 2) (h % 2)) s = execPerstAssert (h / 2) (h % 2) s := rfl
  simp [next, execPerstAssert, number, present, inService, high, State.perstAsserted]

theorem State.perstAsserted_lost (up : s.linkUp h = true) :
    (s.perstAsserted h).Lost h (LinkS.Asserted ((s.link h).perstCount + 1)) fun _ => True := by
  refine State.portSync_lost (P := fun l => 2 ≤ l.state ∧ l.state ≤ 3 ∧ l.perstLow = true ∧ l.perstCount = (s.link h).perstCount + 1)
    (fun _ _ holds => holds) (LinkS.down_asserted _) PortS.cabled_true ?link ?port ?up ?held ?cleared
  case link =>
    obtain ⟨low, high⟩ : 2 ≤ (s.link h).state ∧ (s.link h).state ≤ 3 := by simpa [State.linkUp] using up
    exact State.modLink_is s ⟨low, high, rfl, rfl⟩
  case port => exact .inl fun _ => trivial
  case up =>
    rintro u ⟨-, low, high, -⟩
    simp [State.linkUp, low, high]
  case held =>
    rintro u - (⟨-, -, asserted, -⟩ | ⟨-, asserted, -⟩) <;> simp [State.linkHeld, asserted]
  case cleared => exact fun l ⟨_, _, asserted, count⟩ => ⟨rfl, asserted, count⟩

/-- The cable of a port removed. -/
def State.unplugged (p : Nat) (s : State) : State := (s.modPort p fun x => { x with cable := false }).portSync p

theorem State.unplugged_lost (up : s.linkUp h = true) : (s.unplugged (h / 2)).Lost h (fun l => l.state = 0) fun p => p.cable = false := by
  refine State.portSync_lost (P := fun l => 2 ≤ l.state ∧ l.state ≤ 3)
    (fun _ _ holds => holds) LinkS.down_idle PortS.cabled_unplugged ?link (State.modPort_is s rfl) ?up ?held (fun _ _ => rfl)
  case link =>
    have range : 2 ≤ (s.link h).state ∧ (s.link h).state ≤ 3 := by simpa [State.linkUp] using up
    exact (State.linkIs_of_up (P := fun l => 2 ≤ l.state ∧ l.state ≤ 3) up range).congr (by simp)
  case up =>
    rintro u ⟨-, low, high⟩
    simp [State.linkUp, low, high]
  case held =>
    rintro u unplugged -
    simp [State.linkHeld, unplugged]

/-- A head's reset object written. -/
def State.resetWritten (h : Nat) (s : State) : State :=
  (s.modLink h fun l => { l with held := true }).modHead h fun d => { d with resetReq := 1 }

theorem State.resetWritten_linkUp (up : s.linkUp h = true) : (s.resetWritten h).linkUp h = true := by
  simpa [State.resetWritten, State.linkUp] using up

theorem State.resetWritten_lost (up : s.linkUp h = true) :
    ((s.resetWritten h).linkDown h).Lost h (fun l => l.state = 0 ∧ l.held = true) fun _ => True :=
  State.linkDown_lost (State.resetWritten_linkUp up) LinkS.down_held PortS.cabled_true ⟨rfl, by simp [State.resetWritten, clearedLink, clearedIo]⟩
    trivial

theorem HeadS.silent_resetAsked : HeadS.Silent fun d => d.resetReq = 1 ∧ d.eq = {} where
  disabled := fun d ⟨_, eq⟩ => by rw [eq]
  unbound := fun _ _ asked => asked

theorem State.resetWritten_head (up : s.linkUp h = true) :
    ((s.resetWritten h).linkDown h).HeadIs h fun d => d.resetReq = 1 ∧ d.eq = {} :=
  State.linkDown_head (State.resetWritten_linkUp up) HeadS.silent_resetAsked ⟨by simp [State.resetWritten], rfl⟩

theorem exec_headReset_of_up (cox : s.coxUp = true) (cd0 : s.domainOn 0 = true) : exec (.headReset h) s
    = .next ((((s.resetWritten h).linkDown h).manage 1 byOperator 0 (0x2100 + h) 4 0 0 [1]).emit (.access byOperator (0x2100 + h) 4 0 0)) := by
  have next : exec (.headReset h) s = execHeadReset h s := rfl
  rw [next, execHeadReset, accessed_of_up cox, State.headResetOp, cd0]
  exact congrArg Host.Outcome.next (respondAccess_done _ _ _ _ _)

end Sys2Proof.Machine

open Sys2Proof Sys2Proof.Machine

/-- Settles O18: each way ends in a full reset of the head, and what follows it (the port's mode, the other link, the training) keeps the head
reset. -/
theorem linkLoss : Obligations.LinkLoss := by
  intro s h up
  refine ⟨?linkDown, ?perst, ?cable, ?headReset⟩
  case linkDown =>
    obtain ⟨⟨-, -, mem, ide, count⟩, -, ⟨-, viral, eq, doorbell⟩, reads⟩ := State.linkDown_portSync_lost up
    exact does_of_next rfl ⟨viral, eq, doorbell, mem, ide, count, reads⟩
  case perst =>
    intro present inService high
    obtain ⟨⟨-, idle, asserted, count⟩, -, ⟨-, -, eq, -⟩, reads⟩ := State.perstAsserted_lost up
    exact does_of_next (exec_perstAssert_of_high present inService high) ⟨asserted, count, idle, eq, reads⟩
  case cable =>
    obtain ⟨⟨-, idle⟩, unplugged, ⟨-, -, eq, -⟩, reads⟩ := State.unplugged_lost up
    exact does_of_next rfl ⟨unplugged.holds, idle, eq, reads⟩
  case headReset =>
    intro cox cd0
    obtain ⟨⟨-, idle, held⟩, -, -, -⟩ := State.resetWritten_lost up
    obtain ⟨-, asked, eq⟩ := State.resetWritten_head up
    refine does_of_next (exec_headReset_of_up cox cd0) ⟨?_, ?_, ?_, ?_, accepted_emit _ _ _ _ _⟩ <;> simpa

end

section
/-! PROOFS. The event queue page of a head (04 R110–R113): each command writes the queue of one head, and the other heads of a canonical table stay. -/

namespace Sys2Proof.Machine

variable {s : State} {h : Nat} {c : Instr}

@[simp] theorem State.modEq_head (f : EqS → EqS) (s : State) : (s.modEq h f).head h = { s.head h with eq := f (s.head h).eq } :=
  State.modHead_head h _ s

theorem State.modEq_head_ne (f : EqS → EqS) {j : Nat} (other : j ≠ h) (canonical : s.canonical = true) : (s.modEq h f).head j = s.head j :=
  State.modHead_head_ne _ other (State.hst_heads_wf canonical)

/-- A command whose whole effect is a write of a head's queue. -/
theorem does_modEq {f : EqS → EqS} {q' : EqS} (canonical : s.canonical = true) (next : exec c s = .next (s.modEq h f))
    (written : f (s.head h).eq = q') :
    Does c s fun t => t.head h = { s.head h with eq := q' } ∧ ∀ j, j ≠ h → t.head j = s.head j := by
  subst written
  exact does_of_next next ⟨State.modEq_head f s, fun j other => State.modEq_head_ne f other canonical⟩

/-- Coalescing ends with a message: PI has advanced. -/
theorem exec_eqCoalesceIntervalEnd_advanced (coalescing : (s.head h).eq.coalescing = true) (advanced : (s.head h).eq.pi ≠ (s.head h).eq.signalledPi) :
    exec (.eqCoalesceIntervalEnd h) s = .next ((s.modEq h fun q => { q with signalledPi := q.pi }).msix h 2) := by
  simp [exec, execEqCoalesceIntervalEnd, coalescing, advanced]

/-- A vector of a link that is up: no message while MSI-X is off. -/
theorem State.msix_of_off (off : (s.link h).msixOn = false) (v : Nat) : s.msix h v = s := by
  simp [State.msix, off]

/-- It is sent. -/
theorem State.msix_of_sent (up : s.linkUp h = true) (on : (s.link h).msixOn = true) {v : Nat} (d3 : (s.link h).d3hot = false)
    (function : (s.link h).msixFnMask = false) (vector : testBit (s.link h).msixMask v = false) : s.msix h v = s.emit (.msix h v) := by
  simp [State.msix, up, on, d3, function, vector]

/-- It is pending while the function is in D3hot or the vector is masked. -/
theorem State.msix_of_masked (up : s.linkUp h = true) (on : (s.link h).msixOn = true) {v : Nat}
    (masked : (s.link h).d3hot = true ∨ (s.link h).msixFnMask = true ∨ testBit (s.link h).msixMask v = true) :
    s.msix h v = s.modLink h fun l => { l with msixPending := l.msixPending - bit (testBit l.msixPending v) * 2 ^ v + 2 ^ v } := by
  simp only [State.msix, up, on, Bool.not_true, Bool.or_self, Bool.false_eq_true, if_false]
  rw [if_pos (by simpa [or_assoc] using masked)]

/-- The pending bit of a vector set. -/
theorem testBit_pended (p v : Nat) : testBit (p - bit (testBit p v) * 2 ^ v + 2 ^ v) v = true := by
  have positive : 0 < 2 ^ v := Nat.two_pow_pos v
  cases already : testBit p v with
  | true =>
    have atLeast : 2 ^ v ≤ p := by
      by_contra below
      simp [testBit, Nat.div_eq_of_lt (not_le.mp below)] at already
    simpa [bit, Nat.sub_add_cancel atLeast] using already
  | false =>
    simp only [testBit, beq_eq_false_iff_ne] at already
    simp only [testBit, bit, Bool.false_eq_true, if_false, zero_mul, Nat.sub_zero, Nat.add_div_right p positive, beq_iff_eq]
    omega

end Sys2Proof.Machine

open Sys2Proof Sys2Proof.Machine

/-- Settles O19: the five commands of the page, each by its write of the queue. -/
theorem eventQueuePage : Obligations.EventQueuePage := by
  intro s h q canonical up queue
  subst queue
  refine ⟨?enable, ?disable, ?consumer, ?status, ?coalesce⟩
  case enable =>
    intro base mirror coal size mask
    have next : exec (.eqEnable h base mirror coal size mask) s = _ := if_pos up
    refine ⟨fun on => does_modEq canonical next (by simp [on]), ?_⟩
    rintro off _ rfl
    refine ⟨fun small aligned => does_modEq canonical next ?_, fun refused => does_modEq canonical next ?_⟩
    · simp [off, ringOk, small, aligned]
    · have bad : ringOk base (size % 16) = false := by
        simp only [ringOk, decide_eq_false_iff_not]
        omega
      simp [off, bad]
  case disable => exact does_modEq canonical (if_pos up) rfl
  case consumer =>
    intro ci
    have next : exec (.eqCiWrite h ci) s = _ := if_pos up
    refine ⟨fun ⟨within, forward⟩ => does_modEq canonical next ?_, fun beyond => does_modEq canonical next ?_⟩
    · exact if_neg (by simp only [EqS.ringSize]; omega)
    · exact if_pos beyond
  case status => exact fun o c => does_modEq canonical (if_pos up) rfl
  case coalesce =>
    intro running
    refine ⟨fun same => ?_, fun advanced => ?_⟩
    · refine does_modEq canonical (f := fun q => { q with coalescing := false }) ?_ rfl
      simp [exec, execEqCoalesceIntervalEnd, running, same]
    · have next := exec_eqCoalesceIntervalEnd_advanced running advanced
      refine does_of_next next ⟨by simp, fun off => ?_, fun on => ⟨fun d3 function vector => ?_, fun masked => ?_⟩⟩
      · rw [State.msix_of_off (by simpa using off)]
        simp
      · rw [State.msix_of_sent (by simpa using up) (by simpa using on) (by simpa using d3) (by simpa using function) (by simpa using vector)]
        simp
      · rw [State.msix_of_masked (by simpa using up) (by simpa using on) (by simpa using masked)]
        simpa using testBit_pended (s.link h).msixPending 2

end

section
/-! PROOFS. The management network and discovery (12 R284–R291). -/

namespace Sys2Proof.Machine

variable {s : State}

theorem nth_modNth_same {l : List Nat} {i : Nat} (listed : i < l.length) (f : Nat → Nat) : nth (modNth l i f) i = f (nth l i) := by
  simp [nth, modNth, listed]

theorem nth_modNth_ne (l : List Nat) {i j : Nat} (other : j ≠ i) (f : Nat → Nat) : nth (modNth l i f) j = nth l j := by
  simp [nth, modNth, other.symm]

@[simp] theorem length_modNth (l : List Nat) (i : Nat) (f : Nat → Nat) : (modNth l i f).length = l.length := by
  simp [modNth]

theorem dropPlace_lt (d : FrameDrop) : dropPlace d < 12 := by
  cases d <;> decide

/-! ## Frames -/

theorem exec_strangerFrame_counted {d : FrameDrop} (path : s.t1sUp = true) (heard : s.coxUp = true ∨ byMac d = true) (other : d ≠ .tag) :
    exec (.strangerFrame d) s = .next (s.countFrame (dropPlace d)) := by
  have listens : (!s.t1sUp || !(s.coxUp || byMac d)) = false := by
    obtain cox | mac := heard <;> simp [*]
  simp only [exec, execStrangerFrame, listens, Bool.false_eq_true, other, if_false]

theorem exec_strangerFrame_tag (path : s.t1sUp = true) (cox : s.coxUp = true) : exec (.strangerFrame .tag) s = .next s.dropTag := by
  simp [exec, execStrangerFrame, path, cox]

theorem exec_icmpv6Echo : exec .icmpv6Echo s = .next (s.networkAnswer true) := rfl

theorem exec_neighborDiscovery : exec .neighborDiscovery s = .next (s.networkAnswer false) := rfl

theorem State.networkAnswer_of_up (path : s.t1sUp = true) (cox : s.coxUp = true) (echo : Bool) :
    s.networkAnswer echo = ((s.countFrame 1).countFrame 0).emit (.icmpReply echo) := by
  simp [State.networkAnswer, path, cox]

theorem State.follows_of_follower (path : s.t1sUp = true) (mode : s.cfg 0x1100 0 = 1) (node : s.hasNode = true) : s.follows = true := by
  simp [State.follows, path, mode, node]

/-! ## SOLICIT and ADVERTISE -/

theorem exec_solicit_group (path : s.t1sUp = true) (cox : s.coxUp = true) (f a b : Nat) :
    exec (.solicit none f a b) s = .next (if (s.countRequest.countFrame 1).meetsFilter f a b
      then (s.countRequest.countFrame 1).modWop fun w => { w with answerDue := true } else s.countRequest.countFrame 1) := by
  simp only [exec, execSolicit, path, cox, Option.isSome_none, Option.all_none, Bool.not_true, Bool.false_eq_true, if_false]
  split <;> rfl

theorem State.countedRequest_meetsFilter (f a b : Nat) : (s.countRequest.countFrame 1).meetsFilter f a b = s.meetsFilter f a b := rfl

theorem State.sendAdvertise_of_up (path : s.t1sUp = true) : s.sendAdvertise = (s.countFrame 0).emit (.advertise s.advertiseBytes) := by
  simp [State.sendAdvertise, path]

/-- Another module claims the pool address. -/
theorem exec_advertise_conflict (path : s.t1sUp = true) (cox : s.coxUp = true) {serial : Nat} (other : serial ≠ Config.serial)
    (valid : s.cfg 0x1101 1 = 1) : exec (.advertise serial (s.cfg 0x1101 0) true) s
      = .next (((((s.countFrame 1).modWop fun w => { w with conflict := true }).notifyObject 0x1101 2).report 0x2F5 0x8A
          (some (s.cfg 0x1101 0 % 65536)))) := by
  simp only [exec, execAdvertise, path, cox, Bool.not_true, Bool.or_self, Bool.false_eq_true, if_false]
  exact if_pos ⟨trivial, other, valid, rfl⟩

theorem exec_advertise_noConflict (path : s.t1sUp = true) (cox : s.coxUp = true) {serial pool : Nat} (other : pool ≠ s.cfg 0x1101 0) :
    exec (.advertise serial pool true) s = .next (s.countFrame 1) := by
  simp only [exec, execAdvertise, path, cox, Bool.not_true, Bool.or_self, Bool.false_eq_true, if_false]
  exact if_neg fun claim => other claim.2.2.2

theorem State.keelOn_of_t1sUp (path : s.t1sUp = true) : s.keelOn = true := by
  simp only [State.t1sUp, Bool.and_eq_true] at path
  tauto

end Sys2Proof.Machine

open Sys2Proof Sys2Proof.Machine

/-- Settles O21: each command counts one frame, but for the beacon, which counts itself and the opportunity of its cycle. -/
theorem managementNetwork : Obligations.ManagementNetwork := by
  intro s path frames counts
  refine ⟨?stranger, ?tag, ?answers, ?plca⟩
  case stranger =>
    intro d other heard
    refine does_of_next (exec_strangerFrame_counted path heard other) ⟨?_, rfl, rfl⟩
    exact nth_modNth_same (frames ▸ dropPlace_lt d) _
  case tag =>
    intro cox
    exact does_of_next (exec_strangerFrame_tag path cox) ⟨nth_modNth_same (by omega) _, rfl, rfl⟩
  case answers =>
    intro cox
    have answered : nth (modNth (modNth s.wop.frames 1 (· + 1)) 0 (· + 1)) 0 = nth s.wop.frames 0 + 1 := by
      rw [nth_modNth_same (by rw [length_modNth]; omega), nth_modNth_ne _ (by decide)]
    refine ⟨does_of_next exec_icmpv6Echo ?_, does_of_next exec_neighborDiscovery ?_⟩
    all_goals
      rw [State.networkAnswer_of_up path cox]
      exact ⟨rfl, answered⟩
  case plca =>
    intro mode node
    have follows := State.follows_of_follower path mode node
    refine ⟨if_pos follows, does_of_next (if_pos follows) ⟨rfl, ?_, ?_⟩⟩
    · exact (nth_modNth_ne _ (by decide) _).trans (nth_modNth_same (by omega) _)
    · exact (nth_modNth_same (by rw [length_modNth]; omega) _).trans (congrArg (· + 1) (nth_modNth_ne _ (by decide) _))

/-- Settles O22: a request to the group, to the module, to another; the two timers; the claims of another module. -/
theorem discovery : Obligations.Discovery := by
  intro s path cox
  refine ⟨?meets, ?fails, ?single, ?foreign, ?serial, ?pool, ?answerTimer, ?period, ?noPeriod, ?conflict, ?noConflict⟩
  case meets =>
    intro f a b meets
    have next := exec_solicit_group path cox f a b
    rw [State.countedRequest_meetsFilter, if_pos meets] at next
    exact does_of_next next ⟨rfl, rfl⟩
  case fails =>
    intro f a b fails
    have next := exec_solicit_group path cox f a b
    rw [State.countedRequest_meetsFilter, fails] at next
    exact does_of_next next ⟨rfl, rfl⟩
  case single =>
    intro dst f a b addressed
    refine does_of_next (t := (((s.countRequest.countFrame 1).countFrame 0).emit (.wop 0 1 0x0D 0 []))) ?_ ⟨rfl, rfl⟩
    simp [exec, execSolicit, path, cox, addressed]
  case foreign =>
    intro dst f a b foreign
    simp [exec, execSolicit, path, cox, foreign, State.countFrame]
  case serial => exact decide_eq_true rfl
  case pool =>
    intro valid
    simp [State.addressed, valid]
  case answerTimer =>
    intro due
    refine does_of_next (if_pos ⟨due, cox⟩) ?_
    rw [State.sendAdvertise_of_up (s := s.modWop _) path]
    exact ⟨rfl, rfl⟩
  case period =>
    intro period
    refine does_of_next (if_pos ⟨cox, period⟩) ?_
    rw [State.sendAdvertise_of_up path]
    rfl
  case noPeriod => exact fun none => if_neg fun sends => sends.2 none
  case conflict =>
    intro serial other valid room
    refine does_of_next (exec_advertise_conflict path cox other valid) ?_
    generalize noticed : ((s.countFrame 1).modWop fun w => { w with conflict := true }).notifyObject 0x1101 2 = u
    have keel : u.keelOn = true := by
      rw [← noticed]
      simpa [State.countFrame] using State.keelOn_of_t1sUp path
    have flt : u.flt = s.flt := by simp [← noticed, State.countFrame]
    have conflict : u.wop.conflict = true := by simp [← noticed]
    rw [State.report_of_classC0 u keel (by decide)]
    refine ⟨conflict, ?_⟩
    have joins := State.queueFault_queue_of_room u (faultMsg 0x2F5 0x8A (some (s.cfg 0x1101 0 % 65536)) false) (by rwa [flt])
    rw [queued, joins, flt]
  case noConflict => exact fun serial pool other => does_of_next (exec_advertise_noConflict path cox other) ⟨rfl, rfl⟩

end

section
/-! PROOFS. The power domains (15 R346, R361): of what brings or takes a link, an event or Easy-all, only the margins' return to 0 writes them. -/

namespace Sys2Proof.Machine

/-- A property of domain `d`, which no write of another domain hides. -/
def State.DomainIs (d : Nat) (P : DomainS → Prop) (s : State) : Prop := Tab.settled s.pwr.domains d ∧ P (s.domain d)

/-- A property that a margin's return to 0 keeps. -/
def DomainS.Unmargined (P : DomainS → Prop) : Prop := ∀ x, P x → P { x with margin := 0 }

section
variable {s t : State} {d n : Nat} {P : DomainS → Prop}

theorem State.DomainIs.congr (domains : t.pwr.domains = s.pwr.domains) (is : s.DomainIs d P) : t.DomainIs d P := by
  simpa only [State.DomainIs, State.domain, domains] using is

theorem State.DomainIs.modDomain {f : DomainS → DomainS} (is : s.DomainIs d P) (keeps : n = d → P (s.domain d) → P (f (s.domain d))) :
    (s.modDomain n f).DomainIs d P := by
  obtain ⟨settled, holds⟩ := is
  have still : Tab.settled (Tab.mod {} s.pwr.domains n f) d := Tab.settled_mod {} f settled
  refine ⟨still, ?_⟩
  obtain rfl | other := eq_or_ne n d
  · rw [State.modDomain_domain]
    exact keeps rfl holds
  · have same : Tab.rd {} (Tab.mod {} s.pwr.domains n f) d = Tab.rd {} s.pwr.domains d := Tab.rd_mod_of_settled {} f other.symm settled
    exact (congrArg P same).mpr holds

/-- A write of the domain itself settles it. -/
theorem State.modDomain_is (s : State) {f : DomainS → DomainS} (holds : P (f (s.domain d))) : (s.modDomain d f).DomainIs d P := by
  have settled : Tab.settled (Tab.mod {} s.pwr.domains d f) d := Tab.settled_mod_same {} f
  exact ⟨settled, by rwa [State.modDomain_domain]⟩

theorem State.DomainIs.zeroMargins (unmargined : DomainS.Unmargined P) (is : s.DomainIs d P) : s.zeroMargins.DomainIs d P := by
  refine forEach_keeps _ (fun n s is => ?_) is
  have written : (s.modDomain n fun x => { x with margin := 0 }).DomainIs d P := is.modDomain fun _ holds => unmargined _ holds
  exact written.congr (by simp)

theorem State.DomainIs.forEach_signalViral (is : s.DomainIs d P) (l : List Nat) : (forEach l State.signalViral s).DomainIs d P :=
  forEach_keeps l (fun _ _ is => is.congr (by simp)) is

theorem State.DomainIs.easyBegin (unmargined : DomainS.Unmargined P) (is : s.DomainIs d P) (viral : Bool) : (s.easyBegin viral).DomainIs d P := by
  rw [State.easyBegin_eq]
  have held : s.stopped.withholdAll.DomainIs d P := is.congr (by simp [State.stopped])
  have signalled : (if viral then forEach allHeads State.signalViral s.stopped.withholdAll else s.stopped.withholdAll).DomainIs d P := by
    split
    · exact held.forEach_signalViral _
    · exact held
  revert signalled
  generalize (if viral then forEach allHeads State.signalViral s.stopped.withholdAll else s.stopped.withholdAll) = u
  exact fun signalled => State.DomainIs.zeroMargins unmargined (signalled.congr (by simp))

theorem State.DomainIs.easyEnter (unmargined : DomainS.Unmargined P) (is : s.DomainIs d P) (bitNo : Nat) : (s.easyEnter bitNo).DomainIs d P := by
  have entered : (s.causeSet bitNo).DomainIs d P := is.congr (by simp [State.causeSet])
  rw [State.easyEnter_eq]
  split
  · exact entered.easyBegin unmargined _
  · split
    · exact entered.forEach_signalViral _
    · exact entered

theorem State.DomainIs.report (unmargined : DomainS.Unmargined P) (is : s.DomainIs d P) (src kind : Nat) (addr : Option Nat) :
    (s.report src kind addr).DomainIs d P := by
  unfold State.report
  split
  · exact is
  generalize sticky : s.when (decide (1 ≤ kindClass kind)) (State.setSticky src) = u
  have stuck : u.DomainIs d P := by
    refine is.congr ?_
    rw [← sticky, State.when]
    split <;> simp
  dsimp only
  rw [sticky]
  split
  · refine State.DomainIs.easyEnter unmargined ?_ 0
    split
    · exact stuck.congr (by simp)
    · exact stuck.congr (by simp)
  · exact stuck.congr (by simp)

theorem State.DomainIs.linkDown (unmargined : DomainS.Unmargined P) (is : s.DomainIs d P) (h : Nat) : (s.linkDown h).DomainIs d P := by
  rw [State.linkDown_eq]
  split
  · exact is
  · have reset : (s.linkReset h).DomainIs d P := is.congr (by unfold State.linkReset State.when; dsimp only; split <;> simp)
    have posted (wasUp : Bool) : ((s.linkReset h).lossPosted h wasUp).DomainIs d P := by
      unfold State.lossPosted
      split
      · exact reset.congr (by simp)
      · exact reset
    unfold State.lossBound
    dsimp only
    split
    · exact State.DomainIs.easyEnter unmargined ((posted (s.linkUp h)).congr (by simp)) 5
    · exact (posted (s.linkUp h)).congr (by simp)

theorem State.DomainIs.portSync (unmargined : DomainS.Unmargined P) (is : s.DomainIs d P) (p : Nat) : (s.portSync p).DomainIs d P := by
  have whenDown {u : State} (c : Bool) (h : Nat) (is : u.DomainIs d P) : (u.when c (State.linkDown h)).DomainIs d P := by
    cases c
    · exact is
    · exact is.linkDown unmargined h
  have first := whenDown (s.linkHeld (2 * p)) (2 * p) is
  have second := whenDown ((s.when (s.linkHeld (2 * p)) (State.linkDown (2 * p))).linkHeld (2 * p + 1)) (2 * p + 1) first
  exact second.congr (by simp [State.portSync])

theorem State.DomainIs.linksSync (unmargined : DomainS.Unmargined P) (is : s.DomainIs d P) : s.linksSync.DomainIs d P :=
  forEach_keeps _ (fun p _ is => is.portSync unmargined p) is

theorem State.DomainIs.domainSync (unmargined : DomainS.Unmargined P) (is : s.DomainIs d P) (n : Nat) : (s.domainSync n).DomainIs d P := by
  unfold State.domainSync
  split
  · exact forEach_keeps _ (fun _ _ is => is.congr (by simp)) is
  · split
    · exact is.linksSync unmargined
    · split
      · split
        · exact is
        · exact is.congr (by simp)
      · split
        · exact is.congr (by simp)
        · exact is

end

end Sys2Proof.Machine
end

section
/-! PROOFS. The seat bus (15 R356–R358): each transaction is a reply of its Seat, and an operation that the reply grants follows it. -/

namespace Sys2Proof.Machine

variable {s : State} {n : Nat} {c : Instr}

/-! ## A transaction -/

/-- A Seat's answer as the statement says it: the status and data sent, the failures cleared, the transaction counted. -/
def State.Replied (s : State) (n status : Nat) (data : List Nat) (t : State) : Prop :=
  t.out = s.out ++ [.seat n status data] ∧ (t.seatOf n).failures = 0 ∧ t.seat.transactions = s.seat.transactions + 1

/-- One answered transaction. -/
def State.pinged (k : Nat) (s : State) : State := (s.modSeatOf k fun x => { x with failures := 0 }).seatTx 1

@[simp] theorem State.pinged_seats (k : Nat) (s : State) : (s.pinged k).seat.seats = Tab.mod {} s.seat.seats k fun x => { x with failures := 0 } := rfl

theorem State.pinged_transactions (k : Nat) (s : State) : (s.pinged k).seat.transactions = s.seat.transactions + 1 := rfl

@[simp] theorem State.pinged_seatOf (k : Nat) (s : State) : (s.pinged k).seatOf k = { s.seatOf k with failures := 0 } := by
  rw [State.seatOf, State.pinged_seats, Tab.rd_mod_same]
  rfl

theorem State.seatReply_eq (on : s.keelOn = true) (speaks : (s.seatOf n).silent = false) (r : Nat × List Nat) :
    s.seatReply n r = (s.pinged n).emit (.seat n r.1 r.2) := by
  simp [State.seatReply, on, speaks, State.pinged]

theorem State.seatReply_replied (on : s.keelOn = true) (speaks : (s.seatOf n).silent = false) (status : Nat) (data : List Nat) :
    s.Replied n status data (s.seatReply n (status, data)) := by
  rw [State.seatReply_eq on speaks]
  exact ⟨by simp [State.pinged], by simp, State.pinged_transactions n s⟩

/-- A transaction that only replies. -/
theorem does_seatReply (on : s.keelOn = true) (speaks : (s.seatOf n).silent = false) {status : Nat} {data : List Nat}
    (next : exec c s = .next (s.seatReply n (status, data))) : Does c s (s.Replied n status data) :=
  does_of_next next (State.seatReply_replied on speaks status data)

/-- The operation of a reply other than success does not act. -/
theorem State.seatAct_refused {status : Nat} (refused : status ≠ 0) (data : List Nat) (act : State → State) :
    s.seatAct n (status, data) act = s.seatReply n (status, data) := by
  unfold State.seatAct State.seatReply
  simp only [refused, if_false]
  split <;> rfl

theorem State.seatAct_granted (on : s.keelOn = true) (speaks : (s.seatOf n).silent = false) (data : List Nat) (act : State → State) :
    s.seatAct n (0, data) act = act (s.seatReply n (0, data)) := by
  simp [State.seatAct, on, speaks]

/-- The operation that the Seat grants acts, and keeps what the reply did where it leaves the outputs and the seat bus alone. -/
theorem does_seatAct (on : s.keelOn = true) (speaks : (s.seatOf n).silent = false) {data : List Nat} {act : State → State}
    (next : exec c s = .next (s.seatAct n (0, data) act)) {P : State → Prop} (holds : P (act (s.seatReply n (0, data)))) : Does c s P :=
  does_of_next (next.trans (by rw [State.seatAct_granted on speaks])) holds

theorem State.Replied.same {status : Nat} {data : List Nat} {t u : State} (replied : s.Replied n status data t) (out : u.out = t.out)
    (seat : u.seat = t.seat) : s.Replied n status data u := by
  obtain ⟨sent, cleared, counted⟩ := replied
  exact ⟨out.trans sent, by simpa only [State.seatOf, seat] using cleared, by rw [seat, counted]⟩

theorem State.Replied.mem {status : Nat} {data : List Nat} {t : State} (replied : s.Replied n status data t) : Out.seat n status data ∈ t.out := by
  simp [replied.1]

/-! ## The timer and the poll -/

theorem forEach_pinged_transactions (l : List Nat) (s : State) :
    (forEach l State.pinged s).seat.transactions = s.seat.transactions + l.length := by
  induction l generalizing s with
  | nil => rfl
  | cons k r ih =>
    rw [forEach, ih, State.pinged_transactions, List.length_cons]
    omega

theorem forEach_append {α : Type} (l r : List α) (f : α → State → State) (s : State) : forEach (l ++ r) f s = forEach r f (forEach l f s) := by
  induction l generalizing s with
  | nil => rfl
  | cons a l ih => exact ih (f a s)

/-- A ping clears the failures of its Seat, and those of no other Seat come back: each write clears. -/
theorem forEach_pinged_failures {l : List Nat} (pinged : n ∈ l) (s : State) : ((forEach l State.pinged s).seatOf n).failures = 0 := by
  have stays : ∀ (l : List Nat) (s : State), Tab.settled s.seat.seats n ∧ (s.seatOf n).failures = 0 →
      Tab.settled (forEach l State.pinged s).seat.seats n ∧ ((forEach l State.pinged s).seatOf n).failures = 0 := by
    intro l s
    refine forEach_keeps (P := fun s => Tab.settled s.seat.seats n ∧ (s.seatOf n).failures = 0) l (fun k s ⟨settled, cleared⟩ => ?_)
    refine ⟨by simpa using Tab.settled_mod _ _ settled, ?_⟩
    by_cases same : n = k
    · subst same
      simp [State.seatOf]
    · rw [State.seatOf, State.pinged_seats, Tab.rd_mod_of_settled _ _ same settled]
      exact cleared
  obtain ⟨before, after, rfl⟩ := List.append_of_mem pinged
  rw [forEach_append]
  refine (stays after _ ⟨by simpa using Tab.settled_mod_same _ _, ?_⟩).2
  simp [State.seatOf]

/-! ## What the operations act on -/

/-- A domain switched off. -/
def State.domainGone (d : Nat) (s : State) : State :=
  ((if (s.domain d).margin = 0 then s else s.powerEvent 16).modDomain d fun _ => {}).domainSync d

/-- A domain's margin written. -/
def State.margined (d : Nat) (percent : Int) (s : State) : State :=
  if (s.domain d).margin = percent then s else (s.modDomain d fun x => { x with margin := percent }).powerEvent 16

/-- A Seat lets go of HALT_N. -/
def State.haltLetGo (n : Nat) (s : State) : State :=
  (s.modPwr fun p => { p with haltDrivers := removeNat n p.haltDrivers }).haltSync (s.haltSwitch && s.haltLow)

theorem State.domainGone_domain (d : Nat) (s : State) : (s.domainGone d).domain d = {} := by
  have off : ((if (s.domain d).margin = 0 then s else s.powerEvent 16).modDomain d fun _ => {}).DomainIs d (· = {}) := State.modDomain_is _ rfl
  have unmargined : DomainS.Unmargined (· = {}) := by
    rintro _ rfl
    rfl
  exact (off.domainSync unmargined d).2

/-- An operation of several steps takes back nothing that has been sent. -/
theorem State.domainGone_out (d : Nat) (s : State) : s.out <+: (s.domainGone d).out := by
  refine (State.domainSync_steady (State.modDomain_steady ?_ d _) d).out
  split
  · exact Steady.refl s
  · exact State.powerEvent_steady (Steady.refl s) 16

theorem State.margined_out (d : Nat) (percent : Int) (s : State) : s.out <+: (s.margined d percent).out := by
  unfold State.margined
  split
  · exact List.prefix_rfl
  · exact (State.powerEvent_steady (State.modDomain_steady (Steady.refl s) d _) 16).out

@[simp] theorem State.margined_domain (d : Nat) (percent : Int) (s : State) :
    (s.margined d percent).domain d = { s.domain d with margin := percent } := by
  unfold State.margined
  split
  · next same => rw [← same]
  · simp

theorem State.haltLetGo_out (n : Nat) (s : State) : s.out <+: (s.haltLetGo n).out := by
  unfold State.haltLetGo State.haltSync
  dsimp only
  split
  · exact List.prefix_rfl
  · simp

end Sys2Proof.Machine

open Sys2Proof Sys2Proof.Machine

/-- Settles O50, transaction by transaction. -/
theorem seatBus : Obligations.SeatBus := by
  intro s n _ on speaks R
  have replies : ∀ {c : Instr} {status : Nat} {data : List Nat}, exec c s = .next (s.seatReply n (status, data)) → R c status data :=
    fun next => does_seatReply on speaks next
  have refuses : ∀ {c : Instr} {status : Nat} {r : Nat × List Nat} {act : State → State}, exec c s = .next (s.seatAct n r act) →
      r = (status, []) → status ≠ 0 → R c status [] := fun next answer refused =>
    replies (next.trans (by rw [answer, State.seatAct_refused refused]))
  have replied := State.seatReply_replied on speaks
  refine ⟨replies rfl, replies rfl, ?owned, ?foreign, ?seat1, ?others, ?held, ?let_go, ?timer, ?poll⟩
  case owned =>
    intro d owned
    refine ⟨replies ?status, ?volts, replies ?amps, ?on, ?failed, ?service, ?off, ?within, ?beyond⟩
    case status => simp [exec, execDomainStatus, owned]
    case volts =>
      have notBank : ¬ (d = 255 ∧ n = 1) := by
        rintro ⟨rfl, -⟩
        simp [owns] at owned
      exact replies (by simp [exec, execReadV, owned, notBank])
    case amps => simp [exec, execReadI, owned]
    case on =>
      intro off
      have next : exec (.domainOn n d) s = .next (s.seatAct n (0, []) (State.modDomain d fun x => { x with state := 1, drops := 0 })) := by
        simp [exec, execDomainOn, owned, off]
      exact ⟨does_seatAct on speaks next ((replied 0 []).same (by simp) (by simp)), does_seatAct on speaks next (by simp)⟩
    case failed =>
      intro failed
      have next : exec (.domainOn n d) s = .next (s.seatAct n (2, []) (State.modDomain d fun x => { x with state := 1, drops := 0 })) := by
        simp [exec, execDomainOn, owned, failed]
      rw [State.seatAct_refused (by decide)] at next
      exact ⟨replies next, does_of_next next (by simp)⟩
    case service =>
      intro core service
      exact refuses rfl (by simp [owned, core, service]) (by decide)
    case off =>
      intro domainOn quiet
      have state : (s.domain d).state = 3 := by simpa [State.domainOn] using domainOn
      have allowed : ¬ (d < 12 ∧ s.inService = true) := fun ⟨core, service⟩ => by simp [quiet core] at service
      have next : exec (.domainOff n d) s = .next (s.seatAct n (0, []) (State.domainGone d)) := by
        simp [exec, execDomainOff, owned, state, allowed]
        rfl
      refine does_seatAct on speaks next ⟨State.domainGone_domain d _, ?_⟩
      exact (State.domainGone_out d _).subset (replied 0 []).mem
    case within =>
      intro p domainOn above below
      have next : exec (.margin n d p) s = .next (s.seatAct n (0, []) (State.margined d p)) := by
        simp [exec, execMargin, owned, domainOn, above, below]
        rfl
      refine does_seatAct on speaks next ⟨by simp, ?_⟩
      exact (State.margined_out d p _).subset (replied 0 []).mem
    case beyond =>
      intro p beyond
      have outside : ¬ (s.domainOn d = true ∧ -5 ≤ p ∧ p ≤ 5) := by omega
      exact refuses rfl (by simp [owned, outside]) (by decide)
  case foreign =>
    intro d foreign
    refine ⟨replies ?_, replies ?_, refuses rfl (by simp [foreign]) (by decide), refuses rfl (by simp [foreign]) (by decide)⟩
    · simp [exec, execDomainStatus, foreign]
    · simp [exec, execReadI, foreign]
  case seat1 =>
    rintro rfl
    refine ⟨replies rfl, replies rfl, fun v => ?charger, fun charged => ?measure, fun empty => ?empty⟩
    case charger =>
      exact ⟨does_seatAct on speaks rfl ((replied 0 []).same (by simp) (by simp)), does_seatAct on speaks rfl (by simp)⟩
    case measure =>
      have next : exec (.capMeasure 1) s = .next (s.seatAct 1 (0, []) (State.measure none)) := by
        simp [exec, execCapMeasure, charged]
      exact ⟨does_seatAct on speaks next ((replied 0 []).same (by simp) (by simp)), does_seatAct on speaks next (by simp [State.measure])⟩
    case empty => exact refuses rfl (by simp [empty]) (by decide)
  case others =>
    intro other
    refine ⟨replies ?_, refuses rfl (by simp [other]) (by decide), fun v => refuses rfl (by simp [other]) (by decide)⟩
    simp [exec, execCapResult, other]
  case held => exact fun present => refuses rfl (by simp [present]) (by decide)
  case let_go =>
    intro gone
    have next : exec (.haltRelease n) s = .next (s.seatAct n (0, []) (State.haltLetGo n)) := by
      simp [exec, execHaltRelease, gone]
      rfl
    refine does_seatAct on speaks next ⟨by simp [State.haltLetGo, removeNat], ?_⟩
    exact (State.haltLetGo_out n _).subset (replied 0 []).mem
  case timer =>
    have next : exec .seatPingTimer s = .next (forEach ((range' 1 8).filter fun k => !(s.seatOf k).silent) State.pinged s) := by
      simp [exec, execSeatPingTimer, on]
      rfl
    refine does_of_next next ⟨forEach_pinged_transactions _ s, fun first last => forEach_pinged_failures ?_ s⟩
    simp [mem_range', speaks]
    omega
  case poll =>
    intro running
    have next : exec .domainStatusPoll s = .next (s.seatTx ((stepDomains s.pwr.step).filter fun d => s.seatAnswers d).length) :=
      congrArg Host.Outcome.next (if_pos running)
    exact does_of_next next rfl

end

section
/-! PROOFS. The mailbox commands of a head (04 R95–R109): each runs at once while the link, CD0 and Cox are up, and its return comes last. -/

namespace Sys2Proof.Machine

variable {s : State} {h : Nat} {c : Instr}

/-- What a mailbox command of a head needs to run at once. -/
structure State.Serves (s : State) (h : Nat) : Prop where
  link : s.linkUp h = true
  cd0 : s.domainOn 0 = true
  cox : s.coxUp = true

theorem State.Serves.next (serves : s.Serves h) {op : State → State} (dispatch : exec c s = .next (mailboxed h c op s)) :
    exec c s = .next (op s) := by
  rw [dispatch, mailboxed_of_up serves.link serves.cd0 serves.cox]

theorem does_mailbox (serves : s.Serves h) {op : State → State} {P : State → Prop} (dispatch : exec c s = .next (mailboxed h c op s))
    (holds : P (op s)) : Does c s P :=
  does_of_next (serves.next dispatch) holds

/-- A command that only reports: its answer is the payload that it names. -/
theorem State.Serves.reports (serves : s.Serves h) {op : State → State} {opcode ret : Nat} {payload : List Byte}
    (dispatch : exec c s = .next (mailboxed h c op s)) (answer : op s = s.mbReturn h opcode ret payload) :
    exec c s = .next ((s.emit (.mailbox h opcode ret payload)).msix h 0) := by
  rw [serves.next dispatch, answer]
  rfl

/-- An accepted hint, poison list or extent list: a return with Success whatever its payload. -/
theorem does_returned (serves : s.Serves h) {op : State → State} {opcode ret : Nat} {payload : List Byte}
    (dispatch : exec c s = .next (mailboxed h c op s)) (answer : op s = s.mbReturn h opcode ret payload) :
    Does c s (returned h opcode ret payload) :=
  does_mailbox serves dispatch (by rw [answer]; exact State.returned_mbReturn s h opcode ret payload)

end Sys2Proof.Machine

open Sys2Proof Sys2Proof.Machine

/-- Settles O9, command by command. -/
theorem mailboxReports : Obligations.MailboxReports := by
  intro s h link cd0 cox back
  have serves : s.Serves h := ⟨link, cd0, cox⟩
  refine ⟨?shutdown, serves.reports rfl rfl, ?poison, ?noPoison, ?extents, ?states, ?free, ?unsupported, ?health⟩
  case shutdown =>
    intro v known
    have accepts : s.setShutdown h v = ((s.modWb fun w => { w with hostShutdown := v }).storeWrite 84).mbReturn h opSetShutdown mbSuccess [] :=
      if_neg (by omega)
    refine does_mailbox serves rfl ?_
    rw [accepts]
    exact ⟨by simp [State.mbReturn], State.returned_mbReturn _ h _ _ _⟩
  case poison =>
    exact does_mailbox serves rfl ⟨_, State.returned_mbReturn s h _ _ _⟩
  case noPoison =>
    intro none
    exact serves.reports rfl (by simp [State.poisonList, none, boolByte, be, byteOf, opPoisonList, mbSuccess])
  case extents => exact serves.reports rfl (by simp [State.capacityList, List.length_insertionSort, opCapacityList, mbSuccess])
  case states =>
    intro first count least most within
    exact serves.reports rfl (by simp [State.extentStates, least, most, within, opExtentState, mbSuccess])
  case free =>
    intro e free
    simp [State.extentEntry, free, be, byteOf]
  case unsupported => exact fun op => does_returned serves rfl rfl
  case health => exact does_mailbox serves rfl ⟨_, State.returned_mbReturn s h _ _ _⟩

end

section
/-! PROOFS. A pair of an extent and a head moves (04 R95): its state is written, and nothing else of the extents but the journal's count. -/

namespace Sys2Proof.Machine

variable {s : State} {h e : Nat}

@[simp] theorem State.movePair_state (st : PairState) (cause : Nat) (s : State) : ((s.movePair e h st cause).pair e h).state = st := by
  have journalled (s : State) : s.journal.pair = s.pair := by simp
  cases st <;> simp [State.movePair, journalled]

theorem maskBits_one (small : h < 8) : maskBits (2 ^ h) = [h] := by
  interval_cases h <;> decide

end Sys2Proof.Machine

open Sys2Proof Sys2Proof.Machine

/-- Settles O11: of each command, the move of the pair and the return. -/
theorem hostMovesItsExtents : Obligations.HostMovesItsExtents := by
  intro s h e link cd0 cox
  have serves : s.Serves h := ⟨link, cd0, cox⟩
  refine ⟨fun offered => ⟨?accept, ?decline⟩, fun notOffered a => ?none, fun held => ?release⟩
  case accept =>
    have answer : s.capacityResponse h e true = (s.movePair e h .assigned 1).mbReturn h opCapacityResponse mbSuccess [] := if_pos offered
    refine does_mailbox serves rfl ?_
    rw [answer]
    exact ⟨by simp [State.mbReturn], by simp, by simp, State.returned_mbReturn _ h _ _ _⟩
  case decline =>
    have answer : s.capacityResponse h e false = (s.movePair e h .free 2).mbReturn h opCapacityResponse mbSuccess [] := if_pos offered
    refine does_mailbox serves rfl ?_
    rw [answer]
    exact ⟨by simp [State.mbReturn], State.returned_mbReturn _ h _ _ _⟩
  case none => exact serves.reports rfl (if_neg notOffered)
  case release =>
    have answer : s.capacityRelease h e = (s.movePair e h .draining 4).mbReturn h opCapacityRelease mbSuccess [] := by
      unfold State.capacityRelease
      obtain assigned | releasing := held
      · rw [assigned]
      · rw [releasing]
    refine does_mailbox serves rfl ?_
    rw [answer]
    exact ⟨by simp [State.mbReturn], by simp, State.returned_mbReturn _ h _ _ _⟩

end

section
/-! PROOFS. The releases of a pair (04 R95, R446). -/

namespace Sys2Proof.Machine

variable {s : State} {h e n : Nat}

/-- A release of one pair that has the transition. -/
theorem State.releaseAll_one (small : h < 8) {forced : Bool} {t : State} (moves : s.releasePair e h forced = (true, t)) :
    s.releaseAll forced (2 ^ h) (range' e 1) = ((1, 0xFFFF), t) := by
  simp [range', State.releaseAll, State.releaseExtent, maskBits_one small, moves, bit]

theorem State.slot_ticketStart_running (free : s.freeSlot = some n) (req : Req) (idx mem : Nat) :
    ((s.ticketStart req idx mem).2.slot n).state = 1 := by
  rw [State.ticketStart_slot free]
  rfl

/-- The release of one pair as an access: the pair moves and the ticket is Done. -/
theorem respondAccess_releaseOp {req : Req} {forced : Bool} {move : State → State} (within : e < extents) (small : h < 8)
    (block : s.noBlock 0x2121 1 = false) (free : s.freeSlot = some n) (may : mayWrite 0x2121 1 req = 0)
    (moves : (s.ticketStart req 0x2121 1).2.releasePair e h forced = (true, move (s.ticketStart req 0x2121 1).2)) :
    respondAccess req 0x2121 1 (guarded req 0x2121 1 (State.releaseOp req e 1 (2 ^ h) forced) s)
      = ((move (s.ticketStart req 0x2121 1).2).ticketDone n 0 (extentResult 1 0xFFFF)).emit
        (.access req 0x2121 1 0 ((s.ticketStart req 0x2121 1).2.slot n).ticket) := by
  have mask : 2 ^ h ≤ 255 := by interval_cases h <;> decide
  have valid : ¬ (extents < e + 1 ∨ extents ≤ e ∨ 255 < 2 ^ h) := by omega
  rw [guarded_of_may s may, State.releaseOp, if_neg valid, block, Bool.false_and, if_neg (by decide), respondAccess_deferred free]
  dsimp only
  rw [State.releaseAll_one small moves]
  rfl

/-- What a release's move of the pair keeps and writes. -/
structure Moves (e h : Nat) (st : PairState) (move : State → State) : Prop where
  coxUp : ∀ s, (move s).coxUp = s.coxUp
  slot : ∀ s, (move s).slot = s.slot
  extents : ∀ s, (move s).ext.extents = s.ext.extents
  pair : ∀ s, ((move s).pair e h).state = st

theorem moves_alone (st : PairState) (cause : Nat) : Moves e h st (State.movePair e h st cause) where
  coxUp s := by simp
  slot s := by simp
  extents s := by simp
  pair s := by simp

theorem moves_told (st : PairState) (cause : Nat) (o : Out) : Moves e h st (fun s => (s.movePair e h st cause).cxlEvent h o) where
  coxUp s := by simp
  slot s := by simp
  extents s := by simp
  pair s := by simp

/-- A release of one pair as a command: the ticket is Done with success and the access accepted. -/
theorem does_release {c : Instr} {req : Req} {forced : Bool} {st : PairState} {move : State → State} (cox : s.coxUp = true)
    (dispatch : exec c s = accessed s (respondAccess req 0x2121 1 (guarded req 0x2121 1 (State.releaseOp req e 1 (2 ^ h) forced) s)))
    (within : e < extents) (small : h < 8) (block : s.noBlock 0x2121 1 = false) (free : s.freeSlot = some n) (may : mayWrite 0x2121 1 req = 0)
    (moves : Moves e h st move) (transition : ∀ u : State, u.pair = s.pair → u.releasePair e h forced = (true, move u)) :
    Does c s fun t => (t.pair e h).state = st ∧ t.ext.extents = s.ext.extents ∧ (t.slot n).outcome = 0 ∧ accepted req 0x2121 1 t := by
  rw [accessed_of_up cox, respondAccess_releaseOp within small block free may (transition _ (by simp))] at dispatch
  refine does_of_next dispatch ⟨?_, ?_, ?_, accepted_emit _ _ _ _ _⟩
  · simpa using moves.pair _
  · simpa using moves.extents (s.ticketStart req 0x2121 1).2
  · have running : ((move (s.ticketStart req 0x2121 1).2).slot n).state = 1 := by rw [moves.slot, State.slot_ticketStart_running free]
    have up : (move (s.ticketStart req 0x2121 1).2).coxUp = true := by simpa [moves.coxUp] using cox
    have done := State.ticketDone_slot running up 0 (extentResult 1 0xFFFF)
    simp [done]

end Sys2Proof.Machine

open Sys2Proof Sys2Proof.Machine

/-- Settles O14, transition by transition. -/
theorem pairsMove : Obligations.PairsMove := by
  intro s h e
  refine ⟨?operator, ?offered, ?releasing, ?drained⟩
  case operator =>
    intro req n cox may within small block free
    refine ⟨fun assigned => ?_, fun held => ?_⟩
    · refine does_release cox rfl within small block free may (moves_told .releasing 4 (.capacityEvent h e false)) fun u same => ?_
      simp [State.releasePair, same, assigned]
    · obtain assigned | releasing := held
      · refine does_release cox rfl within small block free may (moves_told .draining 5 (.capacityEvent h e false)) fun u same => ?_
        simp [State.releasePair, same, assigned]
      · refine does_release cox rfl within small block free may (moves_alone .draining 5) fun u same => ?_
        simp [State.releasePair, same, releasing]
  case offered =>
    intro cox offered
    have next : exec (.offerTimeout h e) s = .next (s.movePair e h .free 3) := by simp [exec, execOfferTimeout, cox, offered]
    exact does_of_next next (by simp)
  case releasing =>
    intro cox releasing
    have next : exec (.offerTimeout h e) s = .next (s.movePair e h .draining 3) := by simp [exec, execOfferTimeout, cox, releasing]
    exact does_of_next next (by simp)
  case drained =>
    intro draining idle
    have next : exec (.extentDrainComplete h e) s = .next (s.movePair e h .free (s.pair e h).cause) :=
      if_pos ⟨draining, by simp [idle]⟩
    exact does_of_next next (by simp)

end

section
/-! PROOFS. The standard Sanitize and Secure Erase of a head (04 R108): each of its own extents gets other physical tracts and leaves a running
re-key, and no later extent brings a span of it back. -/

namespace Sys2Proof.Machine

variable {s : State}

/-! ## The spans of a re-key that are left (09 R210) -/

theorem State.spanDone_rekeyLeft (i : Nat) (s : State) : (s.spanDone i).itg.rekeyLeft ⊆ s.itg.rekeyLeft := by
  simp [State.spanDone]

theorem State.finishUnit_rekeyLeft (u : DrainUnit) (s : State) : (s.finishUnit u).itg.rekeyLeft ⊆ s.itg.rekeyLeft := by
  unfold State.finishUnit
  dsimp only
  rw [← forEach_same (fun s : State => s.itg.rekeyLeft) (u.images.map fun i => stripeRow i.1).dedup
    (f := State.markRow (s.entry u.tract).pt) (fun _ _ => by simp) s]
  generalize forEach _ _ s = marked
  cases u.keys.isEmpty with
  | false => simp
  | true =>
    simp only [State.when_true]
    refine List.Subset.trans ?_ (State.spanDone_rekeyLeft (u.tract * 256 + u.row / 2) marked)
    simp [State.spanDone]

theorem State.runUnit_rekeyLeft (id : Nat) (s : State) : (s.runUnit id).itg.rekeyLeft ⊆ s.itg.rekeyLeft := by
  unfold State.runUnit
  split
  · exact List.Subset.refl _
  · next u _ =>
    dsimp only
    refine List.Subset.trans (State.finishUnit_rekeyLeft u _) ?_
    rw [forEach_same (fun s : State => s.itg.rekeyLeft) _ fun _ _ => by simp,
      forEach_same (fun s : State => s.itg.rekeyLeft) _ fun _ _ => by simp]
    simp only [State.modMed_itg]
    rw [forEach_same (fun s : State => s.itg.rekeyLeft)]
    · exact List.Subset.refl _
    · intro p s
      split
      · split <;> simp
      · rfl

theorem forEach_subset {α β : Type} (g : State → List β) (l : List α) {f : α → State → State} (shrinks : ∀ a s, g (f a s) ⊆ g s) (s : State) :
    g (forEach l f s) ⊆ g s := by
  induction l generalizing s with
  | nil => exact List.Subset.refl _
  | cons a r ih => exact List.Subset.trans (ih (f a s)) (shrinks a s)

theorem State.runUnits_rekeyLeft (e : Nat) (s : State) : (s.runUnits e).itg.rekeyLeft ⊆ s.itg.rekeyLeft :=
  forEach_subset (fun s : State => s.itg.rekeyLeft) _ State.runUnit_rekeyLeft s

/-- The spans of the extent leave; those of the others stay. -/
theorem State.zeroExtent_rekeyLeft (e : Nat) (s : State) :
    (s.zeroExtent e).itg.rekeyLeft = s.itg.rekeyLeft.filter fun i => decide (i / 65536 ≠ e) := by
  unfold State.zeroExtent
  simp
  rw [forEach_same (fun s : State => s.itg.rekeyLeft) _ fun _ _ => by simp,
    forEach_same (fun s : State => s.itg.rekeyLeft) _ fun _ _ => by split <;> simp]

theorem State.sanitizeExtent_rekeyLeft (e : Nat) (s : State) : (s.sanitizeExtent e).itg.rekeyLeft ⊆ s.itg.rekeyLeft := by
  rw [State.sanitizeExtent, State.zeroExtent_rekeyLeft]
  exact List.Subset.trans (List.filter_subset_self _) (State.runUnits_rekeyLeft e s)

theorem State.sanitized_rekeyLeft {e : Nat} {l : List Nat} (listed : e ∈ l) (s : State) :
    ∀ i ∈ (forEach l State.sanitizeExtent s).itg.rekeyLeft, i / 65536 ≠ e := by
  obtain ⟨before, after, rfl⟩ := List.append_of_mem listed
  rw [forEach_append, forEach]
  intro i left
  have kept := forEach_subset (fun s : State => s.itg.rekeyLeft) after State.sanitizeExtent_rekeyLeft _ left
  simp only [State.sanitizeExtent, State.zeroExtent_rekeyLeft] at kept
  simpa using (List.mem_filter.mp kept).2

/-- Each tract of a zeroed extent has another physical tract. -/
theorem State.zeroed_pt {old new : State} {e u : Nat} (zeroed : State.zeroed old new e = true) (inside : u / 256 = e) :
    (new.entry u).pt ≠ (old.entry u).pt := by
  have member : u ∈ range' (e * 256) 256 := by
    rw [mem_range']
    omega
  have differs := List.all_eq_true.mp zeroed u member
  exact fun same => (of_decide_eq_true differs) same.symm

end Sys2Proof.Machine

open Sys2Proof Sys2Proof.Machine

/-- Settles O10: the three refusals, and what success leaves. -/
theorem hostSanitize : Obligations.HostSanitize := by
  intro s h link cd0 cox own back
  have serves : s.Serves h := ⟨link, cd0, cox⟩
  refine ⟨?notPermitted, ?suspect, ?permitted⟩
  case notPermitted =>
    intro off
    have answer (op : Nat) : s.hostSanitize h op = s.mbReturn h op mbUnsupported [] := if_pos off
    exact ⟨serves.reports rfl (answer _), serves.reports rfl (answer _)⟩
  case suspect =>
    intro on suspect
    have answer (op : Nat) : s.hostSanitize h op = s.mbReturn h op mbBusy [] := by
      refine (if_neg on).trans (if_pos ?_)
      rw [suspect, Bool.true_or]
    exact ⟨serves.reports rfl (answer _), serves.reports rfl (answer _)⟩
  case permitted =>
    intro on clear P
    have holds (op : Nat) : P op (s.hostSanitize h op) := by
      dsimp only [P]
      by_cases zeroed : (own.all fun e => State.zeroed s (forEach own State.sanitizeExtent s) e) = true
      · have answer : s.hostSanitize h op = (forEach own State.sanitizeExtent s).mbReturn h op mbSuccess [] := by
          refine (if_neg on).trans (if_neg ?_)
          rw [clear, zeroed]
          decide
        rw [if_pos zeroed, answer]
        refine ⟨State.returned_mbReturn _ h _ _ _, fun e mine => ?_, fun e mine u inside => ?_⟩
        · simpa [State.mbReturn] using State.sanitized_rekeyLeft mine s
        · simpa [State.mbReturn] using State.zeroed_pt (List.all_eq_true.mp zeroed e mine) inside
      · rw [if_neg zeroed]
        refine (if_neg on).trans (if_pos ?_)
        rw [Bool.not_eq_true] at zeroed
        rw [zeroed]
        simp
    exact ⟨does_mailbox serves rfl (holds _), does_mailbox serves rfl (holds _)⟩

end

section
/-! PROOFS. A region change of an extent whose units still run (04 R98, 09 R210). The units of the extent are run to completion first; where the last
span of a running re-key is among them, the re-key ends with it, and its region has another key generation after the change. -/

namespace Sys2Proof.Machine

/-! ## No physical tract for a placement -/

/-- No cold tract finds a place: the width of the cold band leaves nothing below the retirement limit (R194, R195). -/
theorem State.blankFor_none {s : State} {t : Nat} (logical : t < logicalTracts) (cold : (s.extent (t / 256)).hint = 2)
    (wide : retireLimit ≤ s.cfg 0x3100 0 / 2048) : s.blankFor t = none := by
  have band : s.band t = .cold := by simp [State.band, Nat.not_le.mpr logical, cold]
  have noScore (pt : Nat) : s.score .cold pt = none := by
    simp only [State.score, Nat.sub_eq_zero_of_le wide, Nat.not_lt_zero, if_false]
  have stays (f : Option (Nat × Nat) → Nat → Option (Nat × Nat)) (same : ∀ acc pt, f acc pt = acc) (l : List Nat) : l.foldl f none = none := by
    induction l with
    | nil => rfl
    | cons a r ih => rw [List.foldl_cons, same, ih]
  simp only [State.blankFor, State.destination, band]
  rw [stays]
  · rfl
  · intro acc pt
    simp [noScore]

/-! ## Tracts whose migrations are past their seal -/

/-- A migration of a tract that has been sealed, its source being cleared. -/
def clearingMigration (t : Nat) : Migration := { tract := t, state := .clearing, src := t, dst := 234637 + t }

/-- No entries in the buffer, and no place for a tract of extent 0. -/
structure State.Crowded (s : State) : Prop where
  ents : s.wb.ents = []
  cold : (s.extent 0).hint = 2
  wide : retireLimit ≤ s.cfg 0x3100 0 / 2048

/-- A migration past its seal is abandoned at its destination. -/
def State.settledAt (t : Nat) (s : State) : State :=
  (((s.modTrc fun x => { x with migs := x.migs.filter fun x => x.tract != t }).putEntry t fun e => { e with mig := false, pt := 234637 + t }).modActivity
    t fun a => { a with occ := 0, reads := 0, gen := 0 }).modTrc fun x => { x with dirtyPts := x.dirtyPts ++ [(t, false)] }

theorem State.abandon_clearing {s : State} {t : Nat} {rest : List Migration} (migs : s.trc.migs = clearingMigration t :: rest) :
    s.abandon t false false = s.settledAt t := by
  have running : s.running t = some (clearingMigration t) := by simp [State.running, migs, clearingMigration]
  rw [State.abandon, running]
  rfl

/-- The renewal of a tract of a crowded state whose migration is past its seal. -/
def State.renewedAt (t : Nat) (s : State) : State :=
  (s.settledAt t).modTrc fun x => { x with migs := x.migs.filter fun m => m.tract != t }

theorem State.Crowded.renewedAt {s : State} (crowded : s.Crowded) (t : Nat) : (s.renewedAt t).Crowded where
  ents := by simpa [State.renewedAt, State.settledAt] using crowded.ents
  cold := by simpa [State.renewedAt, State.settledAt] using crowded.cold
  wide := by simpa [State.renewedAt, State.settledAt] using crowded.wide

theorem State.renewedAt_migs {s : State} {t : Nat} {rest : List Nat} (migs : s.trc.migs = (t :: rest).map clearingMigration) (fresh : t ∉ rest) :
    (s.renewedAt t).trc.migs = rest.map clearingMigration := by
  have others : (rest.map clearingMigration).filter (fun m => m.tract != t) = rest.map clearingMigration := by
    rw [List.filter_eq_self]
    intro m listed
    obtain ⟨u, member, rfl⟩ := List.mem_map.mp listed
    have other : u ≠ t := by
      rintro rfl
      exact fresh member
    simpa [clearingMigration] using other
  simp [State.renewedAt, State.settledAt, migs, others, clearingMigration]

@[simp] theorem State.renewedAt_map (s : State) (t : Nat) :
    (s.renewedAt t).trc.map = Tab.put shipEntry s.trc.map t { s.entry t with mig := false, pt := 234637 + t } := by
  simp [State.renewedAt, State.settledAt, State.putEntry, State.modEntry, State.entry]

theorem State.renew_eq {s : State} {t : Nat} {rest : List Nat} (crowded : s.Crowded) (inside : t < 256)
    (migs : s.trc.migs = (t :: rest).map clearingMigration) : (s.discardOpen t).renew t .zero false = s.renewedAt t := by
  have noEntries : s.discardOpen t = s := by simp [State.discardOpen, crowded.ents, forEach]
  have noPlace : (s.renewedAt t).blankFor t = none := by
    have after := crowded.renewedAt t
    refine State.blankFor_none (lt_trans inside (by decide)) ?_ after.wide
    rw [Nat.div_eq_of_lt inside]
    exact after.cold
  rw [noEntries, State.renew, State.abandon_clearing migs]
  change (match (s.renewedAt t).blankFor t with | none => s.renewedAt t | some pt => _) = _
  rw [noPlace]

/-- Every tract of the list ends at its migration's destination. -/
theorem renewals_pt {l : List Nat} (distinct : l.Nodup) (inside : ∀ t ∈ l, t < 256) {s : State} (crowded : s.Crowded)
    (migs : s.trc.migs = l.map clearingMigration) {u : Nat}
    (done : u ∈ l ∨ (Tab.settled s.trc.map u ∧ (s.entry u).pt = 234637 + u)) :
    ((forEach l (fun t => fun s => (s.discardOpen t).renew t .zero false) s).entry u).pt = 234637 + u := by
  induction l generalizing s with
  | nil =>
    obtain listed | ⟨-, placed⟩ := done
    · simp at listed
    · exact placed
  | cons t rest ih =>
    obtain ⟨fresh, distinctRest⟩ := List.nodup_cons.mp distinct
    rw [forEach, State.renew_eq crowded (inside t (by simp)) migs]
    refine ih distinctRest (fun t listed => inside t (List.mem_cons_of_mem _ listed)) (crowded.renewedAt t) (State.renewedAt_migs migs fresh) ?_
    by_cases same : u = t
    · subst same
      exact .inr ⟨by rw [State.renewedAt_map]; exact Tab.settled_put_same _ _, by rw [State.entry, State.renewedAt_map, Tab.get_put_same]⟩
    · obtain listed | ⟨settled, placed⟩ := done
      · exact .inl ((List.mem_cons.mp listed).resolve_left same)
      · refine .inr ⟨by rw [State.renewedAt_map]; exact Tab.settled_put _ _ settled, ?_⟩
        rw [State.entry, State.renewedAt_map, Tab.get_put_of_settled _ _ same settled]
        exact placed

/-! ## The change -/

/-- A region change takes effect. -/
def State.regionChanged (e : Nat) (c : Nat × Nat) (s : State) : State :=
  ((((s.sanitizeExtent e).modExtent e fun x => { x with region := c.1 / 256, hint := 0, changing := none }).journal).offerTo e (c.1 % 256)).offerStep c.2

theorem exec_regionChangeComplete_of_zeroed {s : State} {e : Nat} {c : Nat × Nat} (changing : (s.extent e).changing = some c)
    (zeroed : State.zeroed s (s.sanitizeExtent e) e = true) : exec (.regionChangeComplete e) s = .next (s.regionChanged e c) := by
  simp [exec, execRegionChangeComplete, changing, zeroed, State.regionChanged]

theorem State.regionChanged_regions (e : Nat) (c : Nat × Nat) (s : State) : (s.regionChanged e c).ext.regions = (s.runUnits e).ext.regions := by
  simp [State.regionChanged, State.sanitizeExtent]

/-! ## The state of the refutation -/

open Sys2Proof.Tests

/-- A change of extent 0 into region 0, while the re-key of region 0 has its last span in extent 0, with the span's unit done but for its end; each
tract of the extent has a migration past its seal. -/
def rekeyEnding : State :=
  { serving with
    ext := { serving.ext with extents := [(0, { changing := some (0, 0), hint := 2 })], pairs := [] }
    obj := { serving.obj with vals := [(objKey 0x3100 0, 10 ^ 9)] }
    wb := { units := [{ id := 1 }] }
    trc := { migs := (List.range' 0 256).map clearingMigration }
    itg := { rekeyState := 1, rekeyRegion := 0, rekeyLeft := [0] } }

theorem rekeyEnding_changing : (rekeyEnding.extent 0).changing = some (0, 0) := by
  decide

theorem rekeyEnding_region : rekeyEnding.ext.regions = [(0, { mask := 255, gen := 1, keyed := true })] := by
  decide

/-- The re-key ends with the unit: the region has its next generation. -/
theorem rekeyEnding_regions : (rekeyEnding.runUnits 0).ext.regions = [(0, { mask := 255, gen := 2, keyed := true })] := by
  decide +kernel

theorem rekeyEnding_crowded : (rekeyEnding.runUnits 0).Crowded where
  ents := by decide +kernel
  cold := by decide +kernel
  wide := by decide +kernel

theorem rekeyEnding_migs : (rekeyEnding.runUnits 0).trc.migs = (List.range' 0 256).map clearingMigration := by
  decide +kernel

theorem rekeyEnding_windows : (rekeyEnding.runUnits 0).itg.windows = [] := by
  decide +kernel

/-- Without a debug window none is closed. -/
theorem closeWindows_none {s : State} (none : s.itg.windows = []) (e : Nat) : forEach [0, 1, 2, 3] (fun w => fun s : State =>
    let d := Tab.rd {} s.itg.windows w
    if d.len ≠ 0 ∧ d.first / 2 ^ 28 ≤ e ∧ e ≤ (d.first + d.len - 1) / 2 ^ 28 then s.closeWindow w else s) s = s := by
  have closed (w : Nat) : (Tab.rd {} s.itg.windows w).len = 0 := by
    rw [none]
    rfl
  simp [forEach, closed]

theorem rekeyEnding_zeroed : State.zeroed rekeyEnding (rekeyEnding.sanitizeExtent 0) 0 = true := by
  refine List.all_eq_true.mpr fun u listed => decide_eq_true ?_
  have inside : u < 256 := by
    rw [mem_range'] at listed
    omega
  have placed := renewals_pt (l := List.range' 0 256) List.nodup_range' (fun t member => by simpa using List.mem_range'_1.mp member)
    rekeyEnding_crowded rekeyEnding_migs (u := u) (.inl (List.mem_range'_1.mpr (by omega)))
  have after : ((rekeyEnding.sanitizeExtent 0).entry u).pt = 234637 + u := by
    rw [State.sanitizeExtent, State.zeroExtent, closeWindows_none rekeyEnding_windows]
    simpa [range'] using placed
  have before : (rekeyEnding.entry u).pt = u := by
    have logical : u < logicalTracts := lt_trans inside (by decide)
    have small : u < 229376 := lt_trans inside (by decide)
    change (shipEntry u).pt = u
    simp [shipEntry, logical, Nat.div_eq_of_lt small, Nat.mod_eq_of_lt small]
  rw [before, after]
  omega

end Sys2Proof.Machine

open Sys2Proof Sys2Proof.Machine

/-- Refutes O15: a region change that brings the last span of a running re-key to its end changes the key generation of the re-keyed region, so the
regions are not as before. -/
theorem not_regions : ¬ Obligations.Regions := by
  unfold Obligations.Regions
  intro holds
  have change := (holds rekeyEnding).1 0 (0, 0) rekeyEnding_changing
  simp only [rekeyEnding_zeroed, if_true] at change
  obtain ⟨t, next, -, -, same, -⟩ := change
  rw [exec_regionChangeComplete_of_zeroed rekeyEnding_changing rekeyEnding_zeroed] at next
  obtain rfl := Host.Outcome.next.inj next
  rw [State.regionChanged_regions, rekeyEnding_regions, rekeyEnding_region] at same
  exact absurd same (by decide)

end

section
/-! PROOFS. What a unit reports (01 R23, 11 R262–R270): below C3 the message alone; at C3 the fatal line too, which acts at once. -/

namespace Sys2Proof.Machine

variable {s : State} {c : Instr}

/-! ## Easy-all begins (11 R279) -/

theorem State.forEach_signalViral_pwr (l : List Nat) (s : State) : (forEach l State.signalViral s).pwr = s.pwr :=
  forEach_same State.pwr l (fun h s => by simp) s

theorem State.forEach_signalViral_wb (l : List Nat) (s : State) : (forEach l State.signalViral s).wb = s.wb :=
  forEach_same State.wb l (fun h s => by simp) s

theorem State.easyBegin_state (viral : Bool) (s : State) : (s.easyBegin viral).pwr.state = .easyAll := by
  rw [State.easyBegin_eq]
  cases viral <;> simp [State.forEach_signalViral_pwr, State.stopped]

theorem State.easyBegin_flushing (viral : Bool) (s : State) : (s.easyBegin viral).wb.flushing = true := by
  rw [State.easyBegin_eq]
  cases viral <;> simp [State.forEach_signalViral_wb, State.stopped]

/-- From data service a cause ends it, and the flush begins. -/
theorem State.easyEnter_begins (service : s.inService = true) (bitNo : Nat) :
    (s.easyEnter bitNo).pwr.state = .easyAll ∧ (s.easyEnter bitNo).wb.flushing = true := by
  have still : (s.causeSet bitNo).inService = true := by simpa [State.causeSet] using service
  rw [State.easyEnter_eq, if_pos still]
  exact ⟨State.easyBegin_state _ _, State.easyBegin_flushing _ _⟩

/-! ## A C3 message -/

/-- The state in which a C3 message's fatal line is asserted. -/
def State.messaged (src : Nat) (m : Word64) (s : State) : State :=
  let u := (s.setSticky src).queueFault m
  if s.flt.queue.length < 256 then u else u.modFlt fun x => { x with classes := modNth x.classes 3 (· + 1) }

theorem State.report_of_fatal (keel : s.keelOn = true) {kind : Nat} (fatal : kindClass kind = 3) (src : Nat) (addr : Option Nat) :
    s.report src kind addr = (s.messaged src (faultMsg src kind addr true)).fatal (faultMsg src kind addr true) := by
  simp [State.report, keel, fatal, State.messaged]

theorem State.messaged_queued (src : Nat) (m : Word64) (room : s.flt.queue.length < 256) : queued s (s.messaged src m) m := by
  unfold State.messaged
  dsimp only
  rw [if_pos room]
  exact queued_of_reported room (reported_of_eq (by simp) (by simp) (State.queueFault_reported (s := s.setSticky src) m))

theorem State.messaged_sticky (src : Nat) (m : Word64) : src ∈ (s.messaged src m).flt.sticky := by
  have sticky : src ∈ ((s.setSticky src).queueFault m).flt.sticky := by simpa using State.setSticky_sticky s src
  unfold State.messaged
  dsimp only
  split
  · exact sticky
  · simpa using sticky

theorem State.messaged_inService (src : Nat) (m : Word64) (s : State) : (s.messaged src m).inService = s.inService := by
  unfold State.messaged
  dsimp only
  split <;> simp

theorem queued_trans {t u : State} {m : Word64} (joins : queued s t m) (grows : t.flt.queue <+: u.flt.queue) : queued s u m :=
  List.IsPrefix.trans joins grows

/-- What a fatal line does: the last C3 is kept, and the module is in Easy-all for cause 0, or enters it. -/
theorem State.fatal_lastC3 (m : Word64) (s : State) : (s.fatal m).flt.lastC3 = m := by
  simp [State.fatal]

theorem State.fatal_cause (m : Word64) (s : State) : (s.fatal m).cause 0 = true :=
  State.easyEnter_cause _ (by decide)

theorem State.fatal_begins (service : s.inService = true) (m : Word64) : (s.fatal m).pwr.state = .easyAll ∧ (s.fatal m).wb.flushing = true :=
  State.easyEnter_begins (by simpa using service) 0

theorem State.fatal_sticky (m : Word64) (s : State) : (s.fatal m).flt.sticky = s.flt.sticky := by
  simp [State.fatal]

theorem State.report_fatal_queued (keel : s.keelOn = true) {kind : Nat} (fatal : kindClass kind = 3) (src : Nat) (addr : Option Nat)
    (room : s.flt.queue.length < 256) : queued s (s.report src kind addr) (faultMsg src kind addr true) := by
  rw [State.report_of_fatal keel fatal]
  exact queued_trans (State.messaged_queued src _ room) (State.fatal_prefix _ _)

/-- From C1 on the source's bit is set. -/
theorem State.report_sticky (keel : s.keelOn = true) {kind : Nat} (sticky : 1 ≤ kindClass kind) (src : Nat) (addr : Option Nat) :
    src ∈ (s.report src kind addr).flt.sticky := by
  by_cases fatal : kindClass kind = 3
  · rw [State.report_of_fatal keel fatal, State.fatal_sticky]
    exact State.messaged_sticky src _
  · rw [State.report_of_below keel fatal]
    simpa [sticky] using State.setSticky_sticky s src

end Sys2Proof.Machine

open Sys2Proof Sys2Proof.Machine

/-- Settles O28, unit by unit. -/
theorem unitsReport : Obligations.UnitsReport := by
  intro s keel
  refine ⟨?stall, ?engine, ?training, ?timing, ?t1s, ?starvation, ?fatal, ?below⟩
  case stall => exact fun h inflight => if_pos inflight
  case engine => exact fun src tract known => if_pos known
  case training => exact fun ch training => if_pos training
  case timing =>
    intro ch e trained
    have next : exec (.channelTimingError ch e) s = _ := if_pos trained
    refine does_of_next next ?_
    by_cases above : 250 < e.natAbs
    · rw [if_pos above]
      refine ⟨by simp, ?_⟩
      rw [if_pos above]
      exact reported_of_eq (by simp) (by simp) (State.report_reported (by simpa using keel) (by decide) (srcChannel ch) none)
    · rw [if_neg above]
      exact ⟨by simp, by simp [above]⟩
  case t1s =>
    intro up check
    simp [exec, execT1sPathFailure, up]
  case starvation =>
    intro unit u a l found fresh left
    have next : exec (.starvationThreshold unit) s = .next ((s.modWb fun w => { w with
        starvedCount := w.starvedCount + 1
        units := w.units.map fun x => if x.id = unit then { x with starved := true } else x }).report (dieOf a) 0x14 (some (granOf a))) := by
      simp [exec, execStarvationThreshold, found, fresh, left]
    refine does_of_next next ⟨by simp, ?_⟩
    exact reported_of_eq (by simp) (by simp) (State.report_reported (by simpa using keel) (by decide) (dieOf a) (some (granOf a)))
  case fatal =>
    intro m fatal
    have next : exec (.fatalLineAssert m) s = .next (s.report (msgSource m) (msgKind m) (if msgAv m then some (msgAddr m) else none)) := if_pos fatal
    generalize (if msgAv m then some (msgAddr m) else none) = addr at next ⊢
    refine does_of_next next ⟨?_, ?_, State.report_sticky keel (by omega) _ addr, fun room => ?_, fun service => ?_⟩
    · rw [State.report_of_fatal keel fatal, State.fatal_lastC3]
    · rw [State.report_of_fatal keel fatal]
      exact State.fatal_cause _ _
    · have joined := State.report_fatal_queued keel fatal (msgSource m) addr room
      rw [State.report_of_fatal keel fatal] at joined ⊢
      rwa [State.fatal_lastC3]
    · rw [State.report_of_fatal keel fatal]
      exact State.fatal_begins (by rwa [State.messaged_inService]) _
  case below =>
    exact fun src kind addr below => ⟨State.report_reported keel below src addr, fun sticky => State.report_sticky keel sticky src addr⟩

end

section
/-! PROOFS. A sticky bit whose message came again while its clear waited for the store (11 R270). The bits that a write clears leave out those that are
listed as set again; the statement says nothing of that list. -/

namespace Sys2Proof.Machine

open Sys2Proof.Tests

/-- Cox is up; source 0 has its sticky bit set, and set again since its clear was asked for. -/
def stickySetAgain : State := { up with flt := { sticky := [0], stickyAgain := [0] } }

/-- The state that a write of ones to 0x4010.00 leaves. -/
def stickySetAgainCleared : State := respondAccess byOperator 0x4010 0 (stickySetAgain.stickyOp byOperator 0 1)

theorem stickySetAgain_clear : exec (.stickyBitClear 0 1) stickySetAgain = .next stickySetAgainCleared :=
  accessed_of_up (by decide) _

/-- The bit stays set. -/
theorem stickySetAgainCleared_sticky : stickySetAgainCleared.flt.sticky = [0] := by
  decide +kernel

end Sys2Proof.Machine

open Sys2Proof Sys2Proof.Machine

/-- Refutes O30: a sticky bit that is listed as set again stays, though the write names it. -/
theorem not_clocksAndStickyBits : ¬ Obligations.ClocksAndStickyBits := by
  intro holds
  obtain ⟨-, -, clears⟩ := holds stickySetAgain
  obtain ⟨t, next, -, sticky, -⟩ := clears 0 1 (by decide) (by decide) (by decide)
  rw [stickySetAgain_clear] at next
  obtain rfl := Host.Outcome.next.inj next
  rw [stickySetAgainCleared_sticky] at sticky
  exact absurd sticky (by decide)

end

section
/-! PROOFS. The hold-up bank (15 R362–R368). -/

namespace Sys2Proof.Machine

variable {s : State} {c : Instr}

/-- The bank of a state in which a measurement starts at once. -/
theorem State.measureSync_bank_started (deferred : s.bank.deferred = true) (charged : s.bankCharged = true) (flushed : s.wb.flushing = false)
    (cool : s.thm.level < 3) : s.measureSync.bank = { s.bank with state := 3, measuring := some (s.bank.measuring.getD 0), deferred := false } := by
  have free : s.measureFree = true := by simp [State.measureFree, charged, flushed, cool]
  rw [State.measureSync, if_pos ⟨deferred, free⟩]
  rcases measuring : s.bank.measuring with _ | _ | n <;> simp [State.measure]

/-- It waits while a flush runs or the level is T3 or above. -/
theorem State.measureSync_of_busy (busy : s.wb.flushing = true ∨ 3 ≤ s.thm.level) : s.measureSync = s := by
  have notFree : s.measureFree = false := by
    obtain flushing | hot := busy
    · simp [State.measureFree, flushing]
    · simp [State.measureFree, Nat.not_lt.mpr hot]
  simp [State.measureSync, notFree]

theorem State.measureSync_of_none (none : s.bank.deferred = false) : s.measureSync = s := by
  simp [State.measureSync, none]

theorem State.keelOn_of_service (service : s.inService = true) : s.keelOn = true := by
  have state : s.pwr.state = .dataService := by simpa [State.inService] using service
  simp [State.keelOn, state]

/-- The bank is not ready: the state, and the message where the failure is the first. -/
theorem State.bankFail_bank (s : State) : s.bankFail.bank = { s.bank with state := 5, notReady := true } := by
  unfold State.bankFail
  dsimp only
  split <;> simp

theorem State.bankFail_queued (keel : s.keelOn = true) (first : s.bank.notReady = false) (room : s.flt.queue.length < 256) :
    queued s s.bankFail (faultMsg 0x2B9 0x65 none false) := by
  have joined := State.report_queued_of_below (s := s.modBank fun b => { b with state := 5, notReady := true }) (by simpa using keel)
    (kind := 0x65) (by decide) 0x2B9 none (by simpa using room)
  simpa [State.bankFail, first, queued] using joined

/-! ## The end of a measurement -/

/-- What a measurement gives. -/
theorem State.measured_bank (us mv : Nat) (s : State) : (s.measured us mv).bank = { s.bank with
    uFRaw := us / 2, uF := Config.normalise (us / 2) s.bankTemp, esr := 2 * mv, temp := s.bankTemp, measuredAt := s.tim.opTime, measured := true,
    capTime := us, capStep := mv, mv := 72000 } := by
  simp [State.measured]

theorem State.measureEnd_bank (outcome : Nat) (s : State) : (s.measureEnd outcome).bank = { s.bank with measuring := none, deferred := false } := by
  unfold State.measureEnd
  dsimp only
  split <;> simp

theorem State.bankCharged_congr {t : State} (bank : t.bank = s.bank) : t.bankCharged = s.bankCharged := by
  simp only [State.bankCharged, bank]

/-- What a measurement that is asked for does with its slot. -/
def State.measureAsked (n : Nat) (s : State) : State :=
  if s.bankCharged && s.bank.measuring.isNone then
    (s.modBank fun b => { b with deferred := true, measuring := some (n + 1) }).measureSync
  else s.ticketDone n 0x07 []

/-- The bank is judged by its measurement. -/
def State.measurementJudged (s : State) : State :=
  if s.bank.uF < bankEndOfLife then s.bankFail
  else if s.pwr.state = .coreStart ∨ s.bank.notReady then s.modBank fun b => { b with state := 1 }
  else s.modBank fun b => { b with state := 2 }

end Sys2Proof.Machine

open Sys2Proof Sys2Proof.Machine

/-- Settles O52: charge, readiness, failure and measurement in turn. -/
theorem holdUpBank : Obligations.HoldUpBank := by
  intro s
  refine ⟨?charge, ?failure, ?due, ?asked, ?complete⟩
  case charge =>
    intro boost charging
    refine ⟨fun unmeasured idle => ⟨fun flushed cool => ?now, fun hot => ?later⟩, fun mv high measured good free => ?ready⟩
    case now =>
      have next : exec .bankCharged s = _ := if_pos ⟨boost, charging, by simp [unmeasured], idle⟩
      refine does_of_next next ?_
      have charged : (s.modBank fun b => { b with mv := 72000, deferred := true }).bankCharged = true := by
        obtain first | fifth := charging
        · simp [State.bankCharged, boost, first]
        · simp [State.bankCharged, boost, fifth]
      rw [State.measureSync_bank_started (by simp) charged (by simpa using flushed) (by simpa using cool)]
      simp [idle]
    case later =>
      have next : exec .bankCharged s = _ := if_pos ⟨boost, charging, by simp [unmeasured], idle⟩
      refine does_of_next next ?_
      rw [State.measureSync_of_busy (.inr (by simpa using hot))]
      simp
    case ready =>
      have next : exec (.bankReady mv) s = _ := if_pos ⟨boost, charging, high, by simpa using measured, good⟩
      refine does_of_next next ?_
      rw [State.measureSync_of_none (by simpa using free)]
      simp
  case failure =>
    intro ready room P
    have fails (keel : s.keelOn = true) : P s.bankFail := by
      refine ⟨?_, ?_, State.bankFail_queued keel ready room⟩
      · rw [State.bankFail_bank]
      · rw [State.bankFail_bank]
    refine ⟨fun starting boost notReady => ?timeout, fun mv service two low => ?low, fun service boost => ?boost⟩
    case timeout =>
      exact does_of_next (if_pos ⟨starting, boost, notReady⟩) (fails (by simp [State.keelOn, starting]))
    case low =>
      have next : exec (.bankLowVoltage mv) s = _ := if_pos ⟨service, .inl two, low⟩
      refine does_of_next next ⟨⟨?_, ?_, ?_⟩, ?_⟩
      · rw [State.bankFail_bank]
      · rw [State.bankFail_bank]
      · have joined := State.bankFail_queued (s := s.modBank fun b => { b with mv := mv }) (by simpa using State.keelOn_of_service service)
          (by simpa using ready) (by simpa using room)
        simpa [queued] using joined
      · rw [State.bankFail_bank]
        simp
    case boost => exact does_of_next (if_pos ⟨service, boost⟩) (fails (State.keelOn_of_service service))
  case due =>
    intro runs two idle
    have next : exec .capacitanceMeasurementDue s = .next (s.modBank fun b => { b with deferred := true }).measureSync :=
      if_pos ⟨by simpa using runs, by simp [two], by simp [two]⟩
    refine ⟨fun charged flushed cool => ?_, fun busy => ?_⟩
    · refine does_of_next next ?_
      rw [State.measureSync_bank_started (s := s.modBank fun b => { b with deferred := true }) (by simp) charged (by simpa using flushed)
        (by simpa using cool)]
      simp [idle]
    · refine does_of_next next ?_
      rw [State.measureSync_of_busy (by simpa using busy)]
      simp
  case asked =>
    intro req n cox may free
    have next : exec (.measureNow req) s = .next ((State.measureAsked n (s.ticketStart req 0x5040 4).2).emit
        (.access req 0x5040 4 0 ((s.ticketStart req 0x5040 4).2.slot n).ticket)) := by
      have dispatch : exec (.measureNow req) s = accessed s (respondAccess req 0x5040 4 (guarded req 0x5040 4 (State.measureOp req) s)) := rfl
      rw [dispatch, accessed_of_up cox, guarded_of_may s may, State.measureOp, respondAccess_deferred free]
      rfl
    have running := State.slot_ticketStart_running free req 0x5040 4
    have bank : (s.ticketStart req 0x5040 4).2.bank = s.bank := by simp
    refine ⟨fun charged idle flushed cool => ?_, fun empty => ?_⟩
    · have begins : State.measureAsked n (s.ticketStart req 0x5040 4).2
          = ((s.ticketStart req 0x5040 4).2.modBank fun b => { b with deferred := true, measuring := some (n + 1) }).measureSync := by
        simp [State.measureAsked, State.bankCharged_congr bank, charged, idle]
      have after := State.measureSync_bank_started
        (s := (s.ticketStart req 0x5040 4).2.modBank fun b => { b with deferred := true, measuring := some (n + 1) })
        (by simp) ((State.bankCharged_congr bank).trans charged) (by simpa using flushed) (by simpa using cool)
      rw [begins] at next
      refine does_of_next next ⟨?_, ?_, ?_, accepted_emit _ _ _ _ _⟩
      · simp [after]
      · simp [after]
      · simpa using running
    · have ends : State.measureAsked n (s.ticketStart req 0x5040 4).2 = (s.ticketStart req 0x5040 4).2.ticketDone n 0x07 [] := by
        simp [State.measureAsked, State.bankCharged_congr bank, empty]
      rw [ends] at next
      refine does_of_next next ⟨by simp, ?_, accepted_emit _ _ _ _ _⟩
      have done := State.ticketDone_slot running (by simpa using cox) 7 []
      simp [done]
  case complete =>
    intro us mv running now
    have next : exec (.measurementComplete us mv) s = .next (State.measurementJudged ((s.measured us mv).measureEnd 0x00)).refit.predict.healthSync :=
      if_pos ⟨by simpa [Option.isSome_iff_ne_none] using running, by simp [now]⟩
    have bank : ((s.measured us mv).measureEnd 0x00).bank = { s.bank with
        uFRaw := us / 2, uF := Config.normalise (us / 2) s.bankTemp, esr := 2 * mv, temp := s.bankTemp, measuredAt := s.tim.opTime, measured := true,
        capTime := us, capStep := mv, mv := 72000, measuring := none, deferred := false } := by
      rw [State.measureEnd_bank, State.measured_bank]
    have power : ((s.measured us mv).measureEnd 0x00).pwr.state = s.pwr.state := by simp
    refine does_of_next next ?_
    have judged : (State.measurementJudged ((s.measured us mv).measureEnd 0x00)).refit.predict.healthSync.bank
        = (State.measurementJudged ((s.measured us mv).measureEnd 0x00)).bank := by simp
    rw [judged]
    unfold State.measurementJudged
    rw [bank, power]
    by_cases worn : Config.normalise (us / 2) s.bankTemp < bankEndOfLife
    · rw [if_pos worn, State.bankFail_bank, bank]
      have low : Config.normalise (us / 2) s.bankTemp < 2400 := worn
      simp [low]
    · rw [if_neg worn]
      have good : ¬ Config.normalise (us / 2) s.bankTemp < 2400 := worn
      by_cases held : s.pwr.state = .coreStart ∨ s.bank.notReady = true
      · simp [held, bank, good]
      · simp [held, bank, good]

end

section
/-! PROOFS. Host reads and writes at the line order point (05 R116–R121, 06 R135–R139, 03 R76, 04 R96). -/

namespace Sys2Proof.Machine

variable {s : State} {h dpa rid : Nat} {c : Instr}

/-! ## The reads in flight -/

/-- A read written in the list of reads. -/
theorem State.readOf_modRead {r : ReadS} (found : s.readOf rid = some r) (f : ReadS → ReadS) : (s.modRead rid f).readOf rid = some (f r) := by
  obtain ⟨e, first, value⟩ := Option.map_eq_some_iff.mp found
  have number : e.1 = rid := by simpa using List.find?_some first
  have mapped : ∀ l : List (Nat × ReadS), (l.find? fun e => e.1 == rid) = some e →
      ((l.map fun e => if e.1 = rid then (rid, f e.2) else e).find? fun e => e.1 == rid) = some (rid, f e.2) := by
    intro l
    induction l with
    | nil => simp
    | cons x l ih =>
      intro found
      by_cases same : x.1 = rid
      · have isFirst : x = e := by simpa [List.find?_cons, same] using found
        subst isFirst
        simp [same]
      · have later : (l.find? fun e => e.1 == rid) = some e := by simpa [List.find?_cons, same] using found
        simp [same, ih later]
  simp only [State.readOf, State.modRead, State.modRdp_rdp, mapped _ first]
  simp [value]

/-- A read that enters under a number of its own. -/
theorem readOf_append {s t : State} {r : ReadS} (fresh : s.readOf rid = none) (reads : t.rdp.reads = s.rdp.reads ++ [(rid, r)]) :
    t.readOf rid = some r := by
  have none : (s.rdp.reads.find? fun e => e.1 == rid) = none := by simpa [State.readOf] using fresh
  simp [State.readOf, reads, List.find?_append, none]

/-! ## A read that is refused -/

/-- The stray access is counted at its head. -/
theorem State.strayAccess_stray (kind : Nat) (s : State) : ((s.strayAccess h dpa kind).head h).stray = (s.head h).stray + 1 := by
  have posted (s : State) (type source seq : Nat) (payload : List Byte) : ((s.eqPost h type source seq payload).head h).stray = (s.head h).stray := by
    unfold State.eqPost State.eqSignal State.when
    dsimp only
    split <;> (repeat' split) <;> simp
  unfold State.strayAccess State.headEvent
  simp only [List.isEmpty_cons, Bool.false_eq_true, if_false, forEach, posted]
  simp

theorem State.answerPoisoned_out (latency : Nat) (s : State) : (s.answerPoisoned h dpa latency).out = s.out ++ [.readResponse h dpa true 0] := by
  simp [State.answerPoisoned, State.countTraffic]

theorem State.answerPoisoned_stray (latency : Nat) (s : State) : ((s.answerPoisoned h dpa latency).head h).stray = (s.head h).stray := by
  simp [State.answerPoisoned, State.countTraffic, HeadS.measured]

/-- A read that is taken, while its head is not viral. -/
theorem exec_memrd_taken (takes : s.takes h = true) (credit : s.reqCredit h = true) (queued latency : Nat) (copies : MapCopies) :
    exec (.memrd h dpa queued latency copies) s
      = .next (if (s.head h).viral then (s.countTraffic h 0 1).answerPoisoned h dpa latency
        else if !s.serves h dpa then ((s.countTraffic h 0 1).strayAccess h dpa 0).answerPoisoned h dpa latency
        else (s.countTraffic h 0 1).acceptRead h dpa queued copies) := by
  have viral : ((s.countTraffic h 0 1).head h).viral = (s.head h).viral := by simp
  have serves : (s.countTraffic h 0 1).serves h dpa = s.serves h dpa := by simp [State.serves]
  simp only [exec, execMemrd, takes, credit, Bool.not_true, Bool.or_self, Bool.false_eq_true, if_false, viral, serves]
  split
  · rfl
  · split <;> rfl

end Sys2Proof.Machine

open Sys2Proof Sys2Proof.Machine

/-- Settles O2: a viral head, and a stray read. -/
theorem refusedReadsArePoisoned : Obligations.RefusedReadsArePoisoned := by
  intro s h dpa queued latency copies takes credit
  have next := exec_memrd_taken (dpa := dpa) takes credit queued latency copies
  refine ⟨fun viral => ?_, fun calm stray => ?_⟩
  · rw [if_pos viral] at next
    exact does_of_next next ⟨by rw [State.answerPoisoned_out]; simp, by rw [State.answerPoisoned_stray]; simp⟩
  · rw [calm, stray] at next
    refine does_of_next next ⟨?_, ?_⟩
    · simp [State.answerPoisoned_out]
    · simp [State.answerPoisoned_stray, State.strayAccess_stray]

end

section
/-! PROOFS. A read that is accepted (05 R116–R121): it enters the line order point, and the state of its tract's map entry decides it or sends it on. -/

namespace Sys2Proof.Machine

variable {s : State} {h dpa : Nat}

/-- A copy of a map entry that fails its check: the failing word is reported, in a class below C3, so that no head is touched. -/
theorem State.report_head_of_below {kind : Nat} (below : kindClass kind ≠ 3) (src : Nat) (addr : Option Nat) (s : State) :
    (s.report src kind addr).head = s.head := by
  unfold State.report State.when
  simp only [below, if_false]
  split
  · rfl
  · split <;> simp

@[simp] theorem State.badWord_head (which word : Nat) (s : State) : (s.badWord which word).head = s.head := by
  unfold State.badWord State.partFailing
  dsimp only
  split
  · rw [State.report_head_of_below (by decide)]
    simp only [State.modSram_keeps]
    rw [State.report_head_of_below (by decide)]
    simp
  · rw [State.report_head_of_below (by decide)]
    simp

@[simp] theorem State.mapCopyFailed_head (tract : Nat) (s : State) : (s.mapCopyFailed tract).head = s.head := by
  simp [State.mapCopyFailed]

/-- The read as it enters the line order point. -/
def State.newRead (h dpa : Nat) (s : State) : ReadS :=
  { head := h, line := lineOf dpa, order := s.rdp.order, mode := s.modeNow, probe := s.lineEnts (lineOf dpa), threshold := s.cfg 0x3300 0
    pt := ptOfAddr (s.lineAddr (lineOf dpa)).1 + 1, place := s.lineAddr (lineOf dpa) }

/-- The state in which a new read has entered, before what the state of its tract's entry makes of it. -/
def State.entered (h dpa : Nat) (copies : MapCopies) (s : State) : State :=
  let pending := match (s.lineEnts (lineOf dpa)).opened with
    | some e => decide (e.state = .pending)
    | none => false
  let u := s.modRdp fun x =>
    { x with
      reads := x.reads ++ [(s.rdp.nextId, s.newRead h dpa)], nextId := x.nextId + 1, order := x.order + 1
      counts := [nth x.counts 0 + 1, nth x.counts 1 + 1, nth x.counts 2, nth x.counts 3 + bit pending] }
  let u := u.modTrc fun x => { x with counts := modNth x.counts 0 (· + 1) }
  let u := u.modHead h fun d => { d with inflight := d.inflight + 1 }
  u.when (decide (copies = .one)) (State.mapCopyFailed (tractOfLine (lineOf dpa)))

/-- A read whose outcome is known at the lookup: its response is held. -/
def State.heldRead (rid : Nat) (o : LineOutcome) (s : State) : State := s.modRead rid fun r => { r with outcome := some o, holding := true }

theorem State.acceptRead_eq {copies : MapCopies} (known : copies ≠ .none) (queued : Nat) : s.acceptRead h dpa queued copies
    = (match ((s.entered h dpa copies).entry (tractOfLine (lineOf dpa))).state with
      | .zero => (s.entered h dpa copies).heldRead s.rdp.nextId .zero
      | .suspect => (s.entered h dpa copies).heldRead s.rdp.nextId (.poison (some .dirtyShutdown))
      | .integrityLost => (s.entered h dpa copies).heldRead s.rdp.nextId (failedOutcome (s.newRead h dpa).mode)
      | .mapped => (s.entered h dpa copies).dispatch s.rdp.nextId (lineOf dpa) queued) := by
  unfold State.acceptRead
  simp only [known, if_false]
  rfl

section
variable (h dpa) (copies : MapCopies) (s : State)

theorem State.entered_reads : (s.entered h dpa copies).rdp.reads = s.rdp.reads ++ [(s.rdp.nextId, s.newRead h dpa)] := by
  unfold State.entered State.when
  dsimp only
  split <;> simp

theorem State.entered_order : (s.entered h dpa copies).rdp.order = s.rdp.order + 1 := by
  unfold State.entered State.when
  dsimp only
  split <;> simp

theorem State.entered_nextId : (s.entered h dpa copies).rdp.nextId = s.rdp.nextId + 1 := by
  unfold State.entered State.when
  dsimp only
  split <;> simp

theorem State.entered_inflight : ((s.entered h dpa copies).head h).inflight = (s.head h).inflight + 1 := by
  unfold State.entered State.when
  dsimp only
  split <;> simp

/-- What the entry of a read leaves as it was. -/
theorem State.entered_keeps : (s.entered h dpa copies).trc.map = s.trc.map ∧ (s.entered h dpa copies).entry = s.entry
    ∧ (s.entered h dpa copies).trc.migs = s.trc.migs ∧ (s.entered h dpa copies).itg = s.itg ∧ (s.entered h dpa copies).wb.inProgram = s.wb.inProgram
    ∧ (s.entered h dpa copies).unit = s.unit ∧ (s.entered h dpa copies).isOut = s.isOut ∧ (s.entered h dpa copies).rebuild = s.rebuild
    ∧ (s.entered h dpa copies).channel = s.channel ∧ (s.entered h dpa copies).med = s.med := by
  have map : (s.entered h dpa copies).trc.map = s.trc.map := by
    unfold State.entered State.when
    dsimp only
    split <;> simp
  refine ⟨map, State.entry_congr map, ?_⟩
  unfold State.entered State.when
  dsimp only
  split <;> simp

end

end Sys2Proof.Machine

open Sys2Proof Sys2Proof.Machine

/-- Settles O1: each of the three states of the tract's entry holds the response with its outcome. -/
theorem readDecidedAtLookup : Obligations.ReadDecidedAtLookup := by
  intro s h dpa queued latency copies takes credit calm serves fresh known o decided
  have next := exec_memrd_taken (dpa := dpa) takes credit queued latency copies
  rw [calm, serves] at next
  simp only [Bool.false_eq_true, if_false, Bool.not_true] at next
  generalize counted : s.countTraffic h 0 1 = u at next
  have same : u.rdp = s.rdp ∧ u.head = s.head ∧ u.trc.map = s.trc.map ∧ u.entry = s.entry ∧ u.modeNow = s.modeNow := by
    subst counted
    exact ⟨by simp, by simp, by simp, by simp, by simp [State.modeNow]⟩
  obtain ⟨rdp, head, map, entry, mode⟩ := same
  have holds : u.acceptRead h dpa queued copies = (u.entered h dpa copies).heldRead s.rdp.nextId o := by
    rw [State.acceptRead_eq known, (State.entered_keeps h dpa copies u).2.1, entry, rdp]
    obtain ⟨zero, rfl⟩ | ⟨suspect, rfl⟩ | ⟨lost, normal, rfl⟩ := decided
    · rw [zero]
    · rw [suspect]
    · rw [lost]
      simp [State.newRead, mode, normal, failedOutcome]
  rw [holds] at next
  have found : (u.entered h dpa copies).readOf s.rdp.nextId = some (u.newRead h dpa) :=
    readOf_append fresh (by rw [State.entered_reads, rdp])
  refine does_of_next next ⟨⟨_, State.readOf_modRead found _, rfl, rfl, ?_, rfl, rfl⟩, ?_, ?_, ?_, ?_⟩
  · simp [State.newRead, rdp]
  · simp [State.heldRead, State.modRead, State.entered_order, rdp]
  · simp [State.heldRead, State.modRead, State.entered_nextId, rdp]
  · simp [State.heldRead, State.entered_inflight, head]
  · simp [State.heldRead, (State.entered_keeps h dpa copies u).1, map]

end

section
/-! PROOFS. A read of a mapped line (05 R120, R121): it waits for its own line, and the line as it arrives decides it (09 R217, 10 R240). -/

namespace Sys2Proof.Machine
variable {s : State} {h dpa rid line : Nat}

/-- With every node cached there is nothing to fetch. -/
theorem State.nodeFetches_of_cached (cached : s.missingNodes line = []) : s.nodeFetches line = some [] := by
  simp [State.nodeFetches, cached]

/-- A read that waits for its own line is not decided yet. -/
theorem State.decideRead_of_waiting {r : ReadS} {src : ReadSrc} (found : s.readOf rid = some r) (waits : r.waiting = [src]) :
    s.decideRead rid = s := by
  unfold State.decideRead
  rw [found]
  dsimp only
  split
  · simp_all
  · rfl

/-- A read whose row can be sensed and whose nodes are cached waits for its own line alone. -/
theorem State.dispatch_own {r : ReadS} (found : s.readOf rid = some r) (cached : s.missingNodes line = [])
    (unregistered : s.registered (s.lineAddr line).1 = none) (whole : s.lostAt (s.lineAddr line).1 = false) (queued : Nat) :
    (∃ r', (s.dispatch rid line queued).readOf rid = some r' ∧ r'.head = r.head ∧ r'.line = r.line ∧ r'.outcome = r.outcome ∧ r'.waiting = [.own])
      ∧ (s.dispatch rid line queued).head = s.head := by
  have fetches (f : ReadS → ReadS) : (s.modRead rid f).nodeFetches line = some [] :=
    State.nodeFetches_of_cached (by simpa [State.missingNodes, State.modRead] using cached)
  unfold State.dispatch
  simp only [fetches, unregistered, whole, Option.isNone_none, Bool.and_false, Bool.false_eq_true, if_false, Option.isSome_none, Bool.false_and,
    List.flatMap_nil, List.nil_append, Option.map_none, List.any_nil, Bool.or_false, List.map_nil]
  generalize placed : s.modRead rid _ = a
  have read : ∃ r', a.readOf rid = some r' ∧ r'.head = r.head ∧ r'.line = r.line ∧ r'.outcome = r.outcome := by
    subst placed
    exact ⟨_, State.readOf_modRead found _, rfl, rfl, rfl⟩
  have same : a.head = s.head := by
    subst placed
    simp [State.modRead]
  obtain ⟨r₁, found, head, line, outcome⟩ := read
  generalize counted : a.modItg _ = b
  generalize waits : b.modRead rid _ = c
  have read : ∃ r', c.readOf rid = some r' ∧ r'.head = r.head ∧ r'.line = r.line ∧ r'.outcome = r.outcome ∧ r'.waiting = [.own] := by
    have found : b.readOf rid = some r₁ := by simpa [← counted] using found
    subst waits
    exact ⟨_, State.readOf_modRead found _, head, line, outcome, rfl⟩
  have same : c.head = s.head := by
    subst waits counted
    simpa [State.modRead] using same
  obtain ⟨r₂, found, own⟩ := read
  rw [found]
  dsimp only
  generalize listed : c.modRead rid _ = d
  have read : ∃ r', d.readOf rid = some r' ∧ r'.head = r.head ∧ r'.line = r.line ∧ r'.outcome = r.outcome ∧ r'.waiting = [.own] := by
    subst listed
    exact ⟨_, State.readOf_modRead found _, own⟩
  have same : d.head = s.head := by
    subst listed
    simpa [State.modRead] using same
  obtain ⟨r₃, found, head, line, outcome, waiting⟩ := read
  rw [State.decideRead_of_waiting (r := r₃) (by simpa using found) waiting]
  exact ⟨⟨r₃, by simpa using found, head, line, outcome, waiting⟩, by simpa using same⟩
end Sys2Proof.Machine

open Sys2Proof Sys2Proof.Machine

/-- Settles O3: the read enters, its row can be sensed, and no node is missing. -/
theorem mappedReadSensesItsLine : Obligations.MappedReadSensesItsLine := by
  intro s h dpa queued latency copies takes credit calm serves fresh known mapped cached unregistered whole
  have next := exec_memrd_taken (dpa := dpa) takes credit queued latency copies
  rw [calm, serves] at next
  simp only [Bool.false_eq_true, if_false, Bool.not_true] at next
  have rdp : (s.countTraffic h 0 1).rdp = s.rdp := by simp
  obtain ⟨-, entry, migs, itg, inProgram, unit, isOut, rebuild, channel, med⟩ := State.entered_keeps h dpa copies (s.countTraffic h 0 1)
  have found := readOf_append (s := s) (t := (s.countTraffic h 0 1).entered h dpa copies) fresh (by rw [State.entered_reads, rdp])
  have order := State.entered_order h dpa copies (s.countTraffic h 0 1)
  have inflight := State.entered_inflight h dpa copies (s.countTraffic h 0 1)
  rw [State.acceptRead_eq known, rdp, entry, show (s.countTraffic h 0 1).entry = s.entry by simp, mapped] at next
  dsimp only at next
  generalize (s.countTraffic h 0 1).entered h dpa copies = u at *
  have address : u.lineAddr (lineOf dpa) = s.lineAddr (lineOf dpa) := by
    simp [State.lineAddr, State.readPt, State.running, entry, migs]
  have sensed := State.dispatch_own found (line := lineOf dpa) (by simpa [State.missingNodes, itg] using cached)
    (by simpa [State.registered, address, inProgram] using unregistered)
    (by simpa [State.lostAt, State.dieOut, State.dieLost, State.notHealthy, State.rebuilt, State.badGranule, address, unit, isOut, rebuild, channel] using whole)
    queued
  obtain ⟨⟨r, found, head, line, outcome, waiting⟩, heads⟩ := sensed
  refine does_of_next next ⟨⟨r, found, head, line, outcome, waiting⟩, ?_, ?_, ?_⟩
  · simp [order]
  · simp [heads, inflight]
  · simp [med]

end

section
/-! PROOFS. The own line of a read arrives (10 R240): the errors are counted, a row with enough of them is noted for a rewrite, and the line decides. -/

namespace Sys2Proof.Machine

variable {s t u : State} {rid : Nat}

/-! ## A row that is noted for a rewrite -/

/-- The map's entries differ at most in REFR. -/
def State.SameButRefr (s t : State) : Prop := ∀ n, t.entry n = { s.entry n with refr := (t.entry n).refr }

theorem State.SameButRefr.of_entry_eq (same : t.entry = s.entry) : s.SameButRefr t := fun n => by rw [same]

theorem State.SameButRefr.trans (first : s.SameButRefr t) (second : t.SameButRefr u) : s.SameButRefr u := fun n => by
  rw [second n, first n]

theorem shipEntry_refr (n : Nat) : (shipEntry n).refr = false := by
  unfold shipEntry
  split <;> rfl

/-- An entry with REFR set is never the shipment entry, so that it is written in place. -/
theorem State.SameButRefr.setRefr (n : Nat) (s : State) : s.SameButRefr (s.modEntry n fun e => { e with refr := true }) := by
  intro k
  have notShip : ({ Tab.get shipEntry s.trc.map n with refr := true } : MapEntry) ≠ shipEntry n := fun same => by
    simpa [shipEntry_refr] using congrArg MapEntry.refr same
  simp only [State.entry, State.modEntry, State.modTrc_trc, Tab.put, notShip, if_false]
  by_cases same : k = n
  · subst same
    rw [Tab.get_insert_same]
  · rw [Tab.get_insert_ne _ _ _ same]

theorem State.SameButRefr.queueRewrite (a : Nat) (s : State) : s.SameButRefr (s.queueRewrite a) := by
  unfold State.queueRewrite
  split
  · exact .of_entry_eq rfl
  · split
    · dsimp only
      split
      · exact (SameButRefr.of_entry_eq (by simp)).trans (.setRefr _ _)
      · exact .of_entry_eq (by simp)
    · exact .of_entry_eq (by simp)

theorem State.SameButRefr.sqSeen (a : Nat) (sq : SenseStatus) (s : State) : s.SameButRefr (s.sqSeen a sq) := by
  unfold State.sqSeen
  dsimp only
  split
  · exact (SameButRefr.of_entry_eq (by simp)).trans (.queueRewrite _ _)
  · exact .of_entry_eq (by simp)

theorem State.SameButRefr.eccSeen (r : ReadS) (a errors : Nat) (sq : SenseStatus) (s : State) : s.SameButRefr (s.eccSeen r a errors sq) := by
  unfold State.eccSeen
  dsimp only
  generalize counted : State.countSense a _ = v
  have counts : s.SameButRefr v := .of_entry_eq (by subst counted; simp)
  have seen : s.SameButRefr ((v.sqSeen a sq).countEcc (eccBin errors)) :=
    (counts.trans (.sqSeen a sq v)).trans (.of_entry_eq (by simp))
  split
  · exact seen.trans (.queueRewrite _ _)
  · exact seen

/-! ## A read that is decided -/

/-- The judgement of a line reads its extent's region and the region's key generation. -/
theorem State.decideLine_congr (extent : t.extent = s.extent) (region : t.region = s.region) : t.decideLine = s.decideLine := by
  unfold State.decideLine State.regionOf State.genOf
  rw [extent, region]

theorem State.decided_readOf {r : ReadS} (found : s.readOf rid = some r) (o : LineOutcome) :
    (s.decided rid o).readOf rid = some { r with outcome := some o, waiting := [] } := by
  unfold State.decided
  rw [found]
  dsimp only
  refine forEach_keeps (P := fun u => u.readOf rid = some { r with outcome := some o, waiting := [] }) r.pts (fun pt u same => ?_)
    (State.readOf_modRead found _)
  simpa using same

/-- A read that waits for nothing is decided by its line: zero, data, or the poison of the medium. -/
theorem State.decideRead_line {r : ReadS} {l : StoredLine} {o : LineOutcome} (found : s.readOf rid = some r) (undecided : r.outcome = none)
    (waits : r.waiting = []) (own : r.own = some l)
    (decides : s.decideLine r.block r.line l = .zero ∧ o = .zero ∨ (∃ d, s.decideLine r.block r.line l = .data d ∧ o = .data d)
      ∨ s.decideLine r.block r.line l = .poison ∧ o = .poison (some .media)) :
    s.decideRead rid = (s.modItg fun x => { x with counts := modNth (modNth x.counts 0 (· + 1)) 2 (· + 1) }).decided rid o := by
  unfold State.decideRead
  rw [found]
  dsimp only
  rw [undecided, waits, own]
  dsimp only
  rw [State.decideLine_congr (s := s) (by simp) (by simp)]
  obtain ⟨zero, rfl⟩ | ⟨d, data, rfl⟩ | ⟨poison, rfl⟩ := decides
  · rw [zero]
  · rw [data]
  · rw [poison]

/-- The own line of a read as it is taken up: the read no longer waits for it. -/
def State.ownTaken (rid : Nat) (l : StoredLine) (s : State) : State :=
  (s.modRead rid fun r => { r with waiting := r.waiting.filter fun x => decide (x ≠ .own) }).modRead rid fun r => { r with own := some l }

theorem State.ownTaken_readOf {r : ReadS} (found : s.readOf rid = some r) (l : StoredLine) :
    (s.ownTaken rid l).readOf rid = some { r with waiting := r.waiting.filter fun x => decide (x ≠ .own), own := some l } :=
  State.readOf_modRead (State.readOf_modRead found _) _

@[simp] theorem State.ownTaken_keeps (l : StoredLine) (s : State) :
    (s.ownTaken rid l).trc = s.trc ∧ (s.ownTaken rid l).itg = s.itg ∧ (s.ownTaken rid l).med = s.med ∧ (s.ownTaken rid l).extent = s.extent
      ∧ (s.ownTaken rid l).region = s.region := by
  simp [State.ownTaken, State.modRead]

theorem State.ownArrival_eq {errors : Nat} (few : errors ≤ 7) (r : ReadS) (sensed : Option StoredLine) (sq : SenseStatus) (s : State) :
    s.ownArrival rid r errors sensed sq = ((s.eccSeen r r.place.1 errors sq).ownTaken rid (sensed.getD r.base)).decideRead rid := by
  unfold State.ownArrival
  simp only [few, if_true]
  rfl

end Sys2Proof.Machine

open Sys2Proof Sys2Proof.Machine

/-- Settles O4: the line is taken as it was sensed, and the read waits for nothing else. -/
theorem lineArrivalDecides : Obligations.LineArrivalDecides := by
  intro s rid r errors sensed sq found waits undecided few l line o decides
  have next : exec (.readLineArrival rid .own errors sensed sq) s = .next (s.ownArrival rid r errors sensed sq) := by
    simp [exec, execReadLineArrival, found, waits, undecided]
  rw [State.ownArrival_eq few, ← line] at next
  have refr := State.SameButRefr.eccSeen r r.place.1 errors sq s
  have found : (s.eccSeen r r.place.1 errors sq).readOf rid = some r := by simpa using found
  have kept : (s.eccSeen r r.place.1 errors sq).itg = s.itg ∧ (s.eccSeen r r.place.1 errors sq).med.granules = s.med.granules
      ∧ (s.eccSeen r r.place.1 errors sq).decideLine = s.decideLine :=
    ⟨by simp, by simp, State.decideLine_congr (by simp) (by simp)⟩
  obtain ⟨itg, granules, same⟩ := kept
  generalize s.eccSeen r r.place.1 errors sq = u at *
  have found := State.ownTaken_readOf found l
  rw [← same, ← State.decideLine_congr (s := u) (t := u.ownTaken rid l) (by simp) (by simp)] at decides
  rw [State.decideRead_line found undecided (by simp [waits]) rfl decides] at next
  refine does_of_next next ⟨⟨_, State.decided_readOf ((congrFun (by simp) rid).trans found) o, rfl, rfl, rfl, rfl, rfl⟩, ?_, ?_, ?_⟩
  · exact refr.trans (.of_entry_eq (State.entry_congr (by simp)))
  · simp [granules]
  · simp [itg]

end

section
/-! PROOFS. Host writes (06 R135–R139, R154): a write enters the open entry of its line; the mirror acknowledge makes the entry Dirty. -/

namespace Sys2Proof.Machine

variable {s : State} {h dpa key : Nat}

theorem expandBe_allOnes : expandBe (BitVec.allOnes 64) = BitVec.allOnes 512 := by decide +kernel

/-- A write that enables every byte replaces the line. -/
theorem mergeBytes_allOnes (old new : Line) : mergeBytes (BitVec.allOnes 64) old new = new := by
  rw [mergeBytes, expandBe_allOnes, BitVec.not_allOnes, BitVec.and_zero, BitVec.zero_or, BitVec.and_allOnes]

theorem mem_insertSorted_self (k : Nat) (l : List Nat) : k ∈ insertSorted k l := by
  induction l with
  | nil => simp [insertSorted]
  | cons j r ih =>
    simp only [insertSorted]
    split
    · simp [*]
    · split <;> simp [ih]

/-- A write whose FULL says that it enables every byte is merged by its byte enables, full or not. -/
theorem Entry.merge_by_enables {e : Entry} {p : Put} {order : Nat} (full : p.full = true → p.be = BitVec.allOnes 64) :
    (e.merge p order).data = mergeBytes p.be e.data p.data ∧ (e.merge p order).be = e.be ||| p.be := by
  unfold Entry.merge
  cases whole : p.full with
  | true => simp only [full whole, if_true, mergeBytes_allOnes, BitVec.or_allOnes, and_self]
  | false => simp

/-- What an open entry takes over from a write, of a line with or without an open entry. -/
def Entry.afterWrite (l : LineEnts) (p : Put) (order slot : Nat) : Entry :=
  match l.opened with
  | some e => e.merge p order
  | none => ({ first := order, slot := slot } : Entry).merge p order

theorem State.lineEnts_set (t : Nat) (l : LineEnts) (s : State) :
    ((s.modWb fun w => { w with ents := Tab.set {} w.ents key l }).dirtyJoin t).lineEnts key = l := by
  simp [State.lineEnts]

theorem State.lineEnts_bufferSync (s : State) : s.bufferSync.lineEnts = s.lineEnts := by simp

/-- The line's entry after a write: the merged one, apart from the bit that says whether its completion waits for a seal. -/
theorem State.enter_opened (key : Nat) (p : Put) (s : State) : ∃ slot sealing,
    ((s.enter key p).lineEnts key).opened = some { Entry.afterWrite (s.lineEnts key) p s.rdp.order slot with sealing := sealing } := by
  unfold State.enter Entry.afterWrite
  cases opened : (s.lineEnts key).opened with
  | some e =>
    dsimp only
    rw [if_pos (by simp [opened]), State.lineEnts_set, opened]
    exact ⟨0, _, rfl⟩
  | none =>
    dsimp only
    rw [if_neg (by simp [opened]), State.lineEnts_bufferSync, State.lineEnts_set, opened]
    exact ⟨_, _, rfl⟩

/-- A write enters, and joins its tract to the ledger's dirty set. -/
theorem State.enter_dirty (key : Nat) (p : Put) (s : State) : key / 16384 ∈ (s.enter key p).wb.dirty := by
  unfold State.enter
  dsimp only
  split <;> simp [State.dirtyJoin, mem_insertSorted_self]

theorem State.enter_order (key : Nat) (p : Put) (s : State) : (s.enter key p).rdp.order = s.rdp.order + 1 := by
  unfold State.enter
  dsimp only
  split <;> simp

/-- A write that is taken, into an extent that its head serves, enters the buffer. -/
theorem State.hostWrite_of_taken (takes : s.takes h = true) (normal : s.str.review = 0) (calm : (s.head h).viral = false)
    (serves : s.serves h dpa = true) (slot : s.slotFor? (dpa / 64) = true) (kind : Nat) (p : Put) :
    ∃ t : State, t.lineEnts = s.lineEnts ∧ t.rdp.order = s.rdp.order ∧ (t.head h).inflight = (s.head h).inflight + 1
      ∧ s.hostWrite h dpa kind p = (t.enter (dpa / 64) p).sealMore := by
  unfold State.hostWrite
  have viral : (((s.countTraffic h 1 1).countTraffic h 3 64).head h).viral = false := by simpa using calm
  have served : ((s.countTraffic h 1 1).countTraffic h 3 64).serves h dpa = true := by simpa [State.serves] using serves
  simp only [lineOf, takes, normal, slot, viral, served, ne_eq, not_true_eq_false, decide_false, Bool.not_true, Bool.or_self, Bool.false_eq_true,
    if_false]
  exact ⟨_, by simp, by simp, by simp, rfl⟩

/-- What a write that is taken leaves: its line's entry, the ledger's dirty set, the order point and the head's count. -/
theorem State.hostWrite_entered (takes : s.takes h = true) (normal : s.str.review = 0) (calm : (s.head h).viral = false)
    (serves : s.serves h dpa = true) (slot : s.slotFor? (dpa / 64) = true) (kind : Nat) (p : Put) :
    (∃ slot sealing, ((s.hostWrite h dpa kind p).lineEnts (dpa / 64)).opened
        = some { Entry.afterWrite (s.lineEnts (dpa / 64)) p s.rdp.order slot with sealing := sealing })
      ∧ dpa / 64 / 16384 ∈ (s.hostWrite h dpa kind p).wb.dirty ∧ (s.hostWrite h dpa kind p).rdp.order = s.rdp.order + 1
      ∧ ((s.hostWrite h dpa kind p).head h).inflight = (s.head h).inflight + 1 := by
  obtain ⟨t, ents, order, inflight, taken⟩ := State.hostWrite_of_taken takes normal calm serves slot kind p
  obtain ⟨n, sealing, opened⟩ := State.enter_opened (dpa / 64) p t
  rw [ents, order] at opened
  rw [taken]
  refine ⟨⟨n, sealing, by simpa using opened⟩, ?_, ?_, ?_⟩
  · simpa using State.enter_dirty (dpa / 64) p t
  · simpa [order] using State.enter_order (dpa / 64) p t
  · simpa using inflight

end Sys2Proof.Machine

open Sys2Proof Sys2Proof.Machine

/-- Settles O6: by what the line's entry takes over from a write. -/
theorem writesEnterTheBuffer : Obligations.WritesEnterTheBuffer := by
  intro s h dpa data poison takes normal calm serves slot
  refine ⟨?_, fun be => ?_⟩
  · obtain ⟨⟨n, sealing, opened⟩, dirty, order, inflight⟩ := State.hostWrite_entered takes normal calm serves slot 1
      { head := h, full := true, poison := poison, be := BitVec.allOnes 64, data := data, owed := [{ head := h }] }
    refine does_of_next rfl ⟨⟨_, opened, ?_⟩, dirty, order, inflight⟩
    unfold Entry.afterWrite
    cases (s.lineEnts (dpa / 64)).opened with
    | some e => simp [Entry.merge]
    | none => simp [Entry.merge]
  · obtain ⟨⟨n, sealing, opened⟩, dirty, order, inflight⟩ := State.hostWrite_entered takes normal calm serves slot 2
      { head := h, full := decide (be = BitVec.allOnes 64), poison := poison, be := be, data := data, owed := [{ head := h, partl := true }] }
    refine does_of_next rfl ⟨⟨_, opened, ?_⟩, dirty, inflight⟩
    unfold Entry.afterWrite
    cases (s.lineEnts (dpa / 64)).opened with
    | some e =>
      obtain ⟨data, enables⟩ := Entry.merge_by_enables (e := e) (order := s.rdp.order)
        (p := { head := h, full := decide (be = BitVec.allOnes 64), poison := poison, be := be, data := data, owed := [{ head := h, partl := true }] })
        of_decide_eq_true
      exact ⟨rfl, rfl, rfl, data, enables, rfl, by simp only [Entry.merge, decide_eq_true_eq]⟩
    | none =>
      obtain ⟨data, enables⟩ := Entry.merge_by_enables (e := { first := s.rdp.order, slot := n }) (order := s.rdp.order)
        (p := { head := h, full := decide (be = BitVec.allOnes 64), poison := poison, be := be, data := data, owed := [{ head := h, partl := true }] })
        of_decide_eq_true
      exact ⟨rfl, rfl, rfl, data, enables.trans BitVec.zero_or, by simp only [Entry.merge, Bool.false_or], by simp only [Entry.merge, Bool.false_or, ite_self]⟩

end

section
/-! PROOFS. The mirror acknowledge (06 R135, R138, R154): the entry is Dirty, and its completions follow. -/

namespace Sys2Proof.Machine

variable {key : Nat}

/-- The completions of an entry go out in their order, without those to be discarded. -/
theorem State.complete_out (key latency : Nat) (owed : List Owed) (s : State) :
    (s.complete key latency owed).out = s.out ++ (owed.filter fun o => !o.discard).map (fun o => Out.completion o.head (key * 64)) := by
  unfold State.complete
  induction owed generalizing s with
  | nil => simp [forEach]
  | cons o owed ih =>
    rw [forEach, ih]
    cases discard : o.discard with
    | true => simp [discard]
    | false => simp [discard]

/-- An acknowledged entry: Dirty, and with nothing owed unless a seal must list its tract first. -/
def Entry.acknowledged (e : Entry) (single : Bool) : Entry :=
  { e with state := .dirty, single := single, acked := e.order, owed := if e.sealing then e.owed else [] }

theorem exec_mirrorWriteAck {s : State} {e : Entry} (opened : (s.lineEnts key).opened = some e) (pending : e.state = .pending) (latency : Nat) :
    ∃ (t : State) (single : Bool), (t.lineEnts key).opened = some (e.acknowledged single) ∧ t.out = s.out
      ∧ exec (.mirrorWriteAck key latency) s = .next (if e.sealing then t else t.complete key latency e.owed) := by
  simp only [exec, execMirrorWriteAck, opened, pending, ne_eq, not_true_eq_false, if_false]
  refine ⟨_, s.memberOut (pairOfTract (key / 16384)) || s.memberOut (pairOfTract (key / 16384) + 8), ?_, ?_, rfl⟩
  · simp only [State.lineEnts, State.modWb_wb, Tab.rd_set_same]
    rfl
  · simp

end Sys2Proof.Machine

open Sys2Proof Sys2Proof.Machine

/-- Settles O7: with and without a seal that must list the tract first. -/
theorem mirrorAckCompletesWrites : Obligations.MirrorAckCompletesWrites := by
  intro s key latency e opened pending
  obtain ⟨t, single, found, out, next⟩ := exec_mirrorWriteAck opened pending latency
  refine ⟨fun free => ?_, fun sealing => ?_⟩
  · rw [free, if_neg Bool.false_ne_true] at next
    refine does_of_next next ⟨⟨e.acknowledged single, by simpa using found, rfl, ?_, rfl, rfl, rfl⟩, ?_⟩
    · simp [Entry.acknowledged, free]
    · rw [State.complete_out, out]
  · rw [sealing, if_pos rfl] at next
    exact does_of_next next ⟨_, found, rfl, by simp [Entry.acknowledged, sealing], rfl⟩

end

section
/-! PROOFS. The commit of a block that a restore of the defaults waits for (01 R20, 13 R315): the restore goes on, and stages the next object of the
block. The statement says nothing of a running restore. -/

namespace Sys2Proof.Machine

open Sys2Proof.Tests

/-- The in-flight cap of head 0 waits for the commit of domain 0, and a restore waits for it too: the cap of head 1 is the next object that it writes. -/
def restoreHeld : State :=
  { serving with obj := {
      shadow := [(objKey 0x2100 1, 65)], waiting := [(0, .row byOperator 0x2100 1)]
      restoring := some { slot := 0, done := 0, refused := 0, left := [objKey 0x2101 1], domain := 0 } } }

theorem exec_configCommit {s : State} {d : Nat} (on : s.domainOn d = true) : exec (.configCommit d) s = .next (s.commit d) := if_pos on

/-- The cap of head 1 is staged. -/
theorem restoreHeld_shadow : (restoreHeld.commit 0).obj.shadow ≠ [] := by
  decide +kernel

end Sys2Proof.Machine

open Sys2Proof Sys2Proof.Machine

/-- Refutes O20: a restore that waits for the block stages its next object with the commit, so that the block has one staged again. -/
theorem not_storedObjects : ¬ Obligations.StoredObjects := by
  intro holds
  obtain ⟨-, -, -, -, -, commits⟩ := holds restoreHeld (by decide) (by decide) (by decide) (by decide)
  obtain ⟨t, next, -, -, shadow, -⟩ := commits 0 64 (by decide) (by decide) (by decide) rfl rfl
  rw [exec_configCommit (by decide)] at next
  obtain rfl := Host.Outcome.next.inj next
  exact restoreHeld_shadow shadow

end

section
/-! PROOFS. The sessions (12 R292–R296): what a NOTIFY, a record of the Logbook and the end of a session leave of them. -/

namespace Sys2Proof.Machine

variable {s t u : State} {n sess : Nat}

/-! ## The listed sessions -/

theorem State.hasSession_iff : s.hasSession n = true ↔ n ∈ s.wop.sess.map Prod.fst := by
  simp [State.hasSession]

theorem Tab.set_of_ne {α : Type} [DecidableEq α] {d v : α} (live : v ≠ d) (t : Tab α) (k : Nat) : Tab.set d t k v = Tab.insert t k v := by
  simp [Tab.set, Tab.put, live]

theorem Tab.listed_insert_same {α : Type} (t : Tab α) (k : Nat) (v : α) : k ∈ (Tab.insert t k v).map Prod.fst := by
  induction t with
  | nil => simp [Tab.insert]
  | cons e r ih =>
    simp only [Tab.insert]
    split
    · simp
    · split
      · simp
      · simp [ih]

theorem Tab.insert_ne_nil {α : Type} (t : Tab α) (k : Nat) (v : α) : Tab.insert t k v ≠ [] := fun none => by
  simpa [none] using Tab.listed_insert_same t k v

/-- A listed session that is rewritten is listed still. -/
theorem State.hasSession_modSession {f : SessS → SessS} (live : f (s.session sess) ≠ {}) :
    (s.modSession sess f).hasSession n = true ↔ n = sess ∨ s.hasSession n = true := by
  have inserted : (s.modSession sess f).wop.sess = Tab.insert s.wop.sess sess (f (s.session sess)) := Tab.set_of_ne live _ _
  rw [State.hasSession_iff, State.hasSession_iff, inserted]
  by_cases same : n = sess
  · subst same
    simpa using Tab.listed_insert_same s.wop.sess n (f (s.session n))
  · rw [Tab.listed_insert _ same]
    simp [same]

theorem State.session_modSession_ne {f : SessS → SessS} (live : f (s.session sess) ≠ {}) (other : n ≠ sess) :
    (s.modSession sess f).session n = s.session n := by
  have inserted : (s.modSession sess f).wop.sess = Tab.insert s.wop.sess sess (f (s.session sess)) := Tab.set_of_ne live _ _
  unfold State.session Tab.rd
  rw [inserted, Tab.get_insert_ne _ _ _ other]

/-! ## Sessions that are told of a change -/

/-- What NOTIFY messages leave of the sessions: all but the subscriptions and the sequence of the module. -/
structure State.Told (s t : State) : Prop where
  session : ∀ n, t.session n = { s.session n with subs := (t.session n).subs, modSeq := (t.session n).modSeq }
  listed : ∀ n, t.hasSession n = true ↔ s.hasSession n = true

theorem State.Told.of_sess_eq (same : t.wop.sess = s.wop.sess) : s.Told t where
  session n := by rw [State.session, State.session, same]
  listed n := by rw [State.hasSession, State.hasSession, same]

theorem State.Told.trans (first : s.Told t) (second : t.Told u) : s.Told u where
  session n := by rw [second.session n, first.session n]
  listed n := (second.listed n).trans (first.listed n)

theorem State.Told.modSession {f : SessS → SessS} (known : s.hasSession sess = true) (live : f (s.session sess) ≠ {})
    (keeps : f (s.session sess) = { s.session sess with subs := (f (s.session sess)).subs, modSeq := (f (s.session sess)).modSeq }) :
    s.Told (s.modSession sess f) where
  session n := by
    by_cases same : n = sess
    · subst same
      simpa using keeps
    · rw [State.session_modSession_ne live same]
  listed n := by
    rw [State.hasSession_modSession live]
    exact ⟨fun either => either.elim (fun same => same ▸ known) id, .inr⟩

theorem State.Told.sendNotify (known : s.hasSession sess = true) (k kind lost : Nat) (content : List Byte) :
    s.Told (s.sendNotify sess k kind lost content) := by
  have counted : s.Told (s.modSession sess fun z => { z with modSeq := z.modSeq + 1 }) :=
    .modSession known (fun none => Nat.succ_ne_zero _ (congrArg SessS.modSeq none)) rfl
  unfold State.sendNotify
  exact counted.trans (.of_sess_eq (by simp))

/-- A subscription that is set makes its session differ from a blank one. -/
theorem SessS.live_of_subs (z : SessS) (k : Nat) {y : SubSlot} (live : y ≠ {}) : { z with subs := Tab.set {} z.subs k y } ≠ ({} : SessS) := fun none => by
  have subs := congrArg SessS.subs none
  rw [Tab.set_of_ne live] at subs
  exact Tab.insert_ne_nil _ _ _ subs

theorem State.Told.notifySlot (known : s.hasSession sess = true) (k kind : Nat) (content : List Byte) :
    s.Told (s.notifySlot sess k kind content) := by
  have put {y : SubSlot} (running : y.running = true) : s.Told (s.modSession sess fun z => { z with subs := Tab.set {} z.subs k y }) :=
    .modSession known (SessS.live_of_subs _ _ fun none => by rw [none] at running; cases running) rfl
  unfold State.notifySlot
  dsimp only
  split
  next running => exact put running
  next =>
    split
    · exact .sendNotify known _ _ _ _
    · exact (put rfl).trans (.sendNotify (((put rfl).listed sess).mpr known) _ _ _ _)

theorem State.Told.notify (want : SubSlot → Bool) (content : List Byte) (s : State) : s.Told (s.notify want content) := by
  unfold State.notify
  split
  · exact .of_sess_eq rfl
  next up =>
    clear up
    have known : ∀ x ∈ s.wop.sess.flatMap fun e => e.2.subs.map fun k => (e.1, k.1, k.2), s.hasSession x.1 = true := by
      intro x member
      obtain ⟨e, listed, inside⟩ := List.mem_flatMap.mp member
      obtain ⟨k, -, rfl⟩ := List.mem_map.mp inside
      exact State.hasSession_iff.mpr (List.mem_map_of_mem listed)
    generalize (s.wop.sess.flatMap fun e => e.2.subs.map fun k => (e.1, k.1, k.2)) = l at known
    induction l generalizing s with
    | nil => exact .of_sess_eq rfl
    | cons x l ih =>
      rw [forEach]
      have first : s.Told (if want x.2.2 then s.notifySlot x.1 x.2.1 (subCode x.2.2.kind) content else s) := by
        split
        · exact .notifySlot (known x (List.mem_cons_self ..)) _ _ _
        · exact .of_sess_eq rfl
      refine first.trans (ih _ fun y member => ?_)
      exact (first.listed _).mpr (known y (List.mem_cons_of_mem _ member))

theorem State.Told.notifyObject (idx mem : Nat) (s : State) : s.Told (s.notifyObject idx mem) := by
  unfold State.notifyObject
  exact .notify _ _ s

theorem State.Told.record (body : LogBody) (s : State) : s.Told (s.record body) := by
  have staged : s.Told (s.stage body).2 := .of_sess_eq (by simp)
  unfold State.record State.logE
  by_cases full : (s.stage body).1 = 0
  · simpa only [full, if_true] using staged
  · simp only [full, if_false]
    exact staged.trans (.notify _ _ _)

theorem State.Told.manage (code : Nat) (req : Req) (outcome idx mem ticket sess : Nat) (value : List Byte) (s : State) :
    s.Told (s.manage code req outcome idx mem ticket sess value) := .record _ s

/-! ## The end of a session -/

/-- Sessions may have ended; those that remain are as they were, but for what NOTIFY messages change. -/
structure State.Ended (s t : State) : Prop where
  canonical : t.canonical = true
  remains : ∀ n, t.hasSession n = true → s.hasSession n = true ∧ (t.session n).role = (s.session n).role

theorem State.Ended.trans (first : s.Ended t) (second : t.Ended u) : s.Ended u where
  canonical := second.canonical
  remains n listed := by
    obtain ⟨before, role⟩ := second.remains n listed
    obtain ⟨origin, same⟩ := first.remains n before
    exact ⟨origin, role.trans same⟩

theorem State.Told.ended (told : s.Told t) (canonical : t.canonical = true) : s.Ended t where
  canonical := canonical
  remains n listed := ⟨(told.listed n).mp listed, by rw [told.session n]⟩

/-- A session is taken off the list, with its transfers and selectors. -/
def State.forgetSess (n : Nat) (s : State) : State :=
  (s.modWop fun w => { w with sess := Tab.erase w.sess n, bulks := w.bulks.filter fun b => decide (b.sess ≠ n) }).modObj fun o =>
    { o with selectors := o.selectors.filter fun e => decide (e.1 / 2 ^ 24 ≠ n) }

theorem State.closeSess_of_listed (listed : s.hasSession n = true) : s.closeSess n
    = (s.forgetSess n).manage 5 { role := (s.session n).role, path := (s.session n).path } 0 0 0 0 n [] := by
  unfold State.closeSess
  simp only [listed, Bool.not_true, Bool.false_eq_true, if_false]
  rfl

theorem State.forgetSess_sess (n : Nat) (s : State) : (s.forgetSess n).wop.sess = Tab.erase s.wop.sess n := by
  simp [State.forgetSess]

theorem State.forgetSess_remains (canonical : s.canonical = true) {j : Nat} (listed : (s.forgetSess n).hasSession j = true) :
    s.hasSession j = true ∧ (s.forgetSess n).session j = s.session j := by
  rw [State.hasSession_iff, State.forgetSess_sess] at listed
  have other : j ≠ n := fun same => Tab.not_listed_erase (same ▸ listed)
  refine ⟨State.hasSession_iff.mpr (Tab.listed_of_listed_erase listed), ?_⟩
  unfold State.session Tab.rd
  rw [State.forgetSess_sess, Tab.get_erase_ne _ _ other (State.wop_sess_wf canonical)]

theorem State.closeSess_ended (canonical : s.canonical = true) (n : Nat) : s.Ended (s.closeSess n) where
  canonical := (State.closeSess_steady (Steady.refl s) n).canonical canonical
  remains j listed := by
    cases known : s.hasSession n with
    | false =>
      have same : s.closeSess n = s := by simp [State.closeSess, known]
      rw [same] at listed ⊢
      exact ⟨listed, rfl⟩
    | true =>
      rw [State.closeSess_of_listed known] at listed ⊢
      have told := State.Told.manage 5 { role := (s.session n).role, path := (s.session n).path } 0 0 0 0 n [] (s.forgetSess n)
      obtain ⟨before, same⟩ := State.forgetSess_remains canonical ((told.listed j).mp listed)
      exact ⟨before, by rw [told.session j, same]⟩

theorem State.closeSess_hasSession (n : Nat) (s : State) : (s.closeSess n).hasSession n = false := by
  cases listed : s.hasSession n with
  | false => simp [State.closeSess, listed]
  | true =>
    rw [State.closeSess_of_listed listed, Bool.eq_false_iff, ne_eq, (State.Told.manage _ _ _ _ _ _ _ _ _).listed n, State.hasSession_iff,
      State.forgetSess_sess]
    exact Tab.not_listed_erase

end Sys2Proof.Machine

end

section
/-! PROOFS. Requests of a session over T1S (12 R286, R289, R293), and the accesses that they end in. -/

namespace Sys2Proof.Machine

variable {s t u : State} {n sess seq : Nat} {dst : WopAddr}

/-! ## Bytes -/

theorem beVal_append (l r : List Byte) : beVal (l ++ r) = r.foldl (fun acc b => acc * 256 + b.toNat) (beVal l) := by
  simp [beVal, List.foldl_append]

theorem be_succ (k v : Nat) : be (k + 1) v = be k (v / 256) ++ [byteOf v] := by
  unfold be
  rw [List.range_succ, List.map_append]
  congr 1
  · refine List.map_congr_left fun i inside => ?_
    have small : i < k := List.mem_range.mp inside
    rw [Nat.div_div_eq_div_mul, show 256 = 2 ^ 8 by decide, ← Nat.pow_add, show 8 + 8 * (k - 1 - i) = 8 * (k + 1 - 1 - i) by omega]
  · simp

/-- A number that fits is read back from its bytes. -/
theorem beVal_be {k v : Nat} (fits : v < 256 ^ k) : beVal (be k v) = v := by
  induction k generalizing v with
  | zero => simp [be, beVal, Nat.lt_one_iff.mp (by simpa using fits)]
  | succ k ih =>
    have rest : v / 256 < 256 ^ k := by
      rw [Nat.div_lt_iff_lt_mul (by decide)]
      simpa [Nat.pow_succ] using fits
    rw [be_succ, beVal_append, ih rest]
    simp [byteOf]
    omega

@[simp] theorem length_be (k v : Nat) : (be k v).length = k := by simp [be]

/-! ## A request that is heard -/

/-- The state in which a new request of a session is executed. -/
def State.heard (sess seq : Nat) (s : State) : State :=
  ((s.countRequest.countFrame 1).touch sess).modSession sess fun z => { z with highest := seq }

theorem State.heard_session (sess seq : Nat) (s : State) :
    (s.heard sess seq).session sess = { s.session sess with used := true, lastAt := s.tim.opTime, highest := seq } := by
  simp [State.heard, State.touch]

@[simp] theorem State.heard_out (sess seq : Nat) (s : State) : (s.heard sess seq).out = s.out := by
  simp [State.heard, State.touch]

theorem State.wopRequest_new (new : newRequest s sess seq) (named : s.addressed dst = true) (svc : Nat) (body : State → State) :
    s.wopRequest dst sess seq true svc body = body (s.heard sess seq) := by
  obtain ⟨path, cox, -, answers, above, unanswered⟩ := new
  unfold State.wopRequest
  simp only [path, cox, named, answers, unanswered, Bool.not_true, Bool.false_eq_true, if_false, Nat.not_le.mpr above]
  rfl

theorem State.hasSession_of_answers {path : Nat} (answers : s.answers sess path = true) : s.hasSession sess = true := by
  simp only [State.answers, Bool.and_eq_true] at answers
  exact answers.1.1

theorem State.hasSession_heard (sess seq : Nat) (s : State) : (s.heard sess seq).hasSession sess = true := by
  have touched : ((s.countRequest.countFrame 1).touch sess).hasSession sess = true :=
    (State.hasSession_modSession fun none => Bool.false_ne_true (congrArg SessS.used none).symm).mpr (.inl rfl)
  have used : (((s.countRequest.countFrame 1).touch sess).session sess).used = true := by simp [State.touch]
  exact (State.hasSession_modSession fun none => Bool.false_ne_true ((congrArg SessS.used none).symm.trans used)).mpr (.inl rfl)

/-! ## The response -/

theorem State.wopReply_of_known (known : s.hasSession sess = true) (seq svc status ticket : Nat) (value : List Byte) :
    s.wopReply sess seq svc status ticket value
      = ((s.keepAnswer sess { seq := seq, service := svc, status := status, ticket := ticket, value := value }).modWop fun w =>
          { w with frames := modNth w.frames 0 (· + 1) }).emit (.wop sess svc status ticket value) := by
  simp [State.wopReply, State.respondTo, known]

theorem State.wopReply_out (known : s.hasSession sess = true) (seq svc status ticket : Nat) (value : List Byte) :
    (s.wopReply sess seq svc status ticket value).out = s.out ++ [.wop sess svc status ticket value] := by
  simp [State.wopReply_of_known known, State.keepAnswer]

theorem State.wopReply_session (known : s.hasSession sess = true) (seq svc status ticket : Nat) (value : List Byte) :
    (s.wopReply sess seq svc status ticket value).session sess
      = { s.session sess with
          answered := ((s.session sess).answered ++ [({ seq := seq, service := svc, status := status, ticket := ticket, value := value } : Stored)]).drop
            ((s.session sess).answered.length - 3)
          modSeq := (s.session sess).modSeq + 1 } := by
  rw [State.wopReply_of_known known,
    State.session_congr (s := s.keepAnswer sess { seq := seq, service := svc, status := status, ticket := ticket, value := value }) (by simp)]
  simp [State.keepAnswer]

theorem State.hasSession_congr (same : t.wop.sess = s.wop.sess) : t.hasSession = s.hasSession := by
  unfold State.hasSession
  rw [same]

theorem State.hasSession_wopReply (known : s.hasSession sess = true) (seq svc status ticket : Nat) (value : List Byte) :
    (s.wopReply sess seq svc status ticket value).hasSession sess = true := by
  rw [State.wopReply_of_known known,
    State.hasSession_congr (s := s.keepAnswer sess { seq := seq, service := svc, status := status, ticket := ticket, value := value }) (by simp)]
  exact (State.hasSession_modSession fun none => Nat.succ_ne_zero _ (congrArg SessS.modSeq none)).mpr (.inl rfl)

/-- The response just kept is among those kept. -/
theorem mem_keptAnswers (l : List Stored) (x : Stored) : x ∈ (l ++ [x]).drop (l.length - 3) := by
  rw [List.drop_append_of_le_length (by omega)]
  simp

end Sys2Proof.Machine

end

section
/-! PROOFS. How sessions open and close (12 R292, R294, R295, R299). -/

namespace Sys2Proof.Machine

variable {s t u : State} {n sess seq h : Nat} {dst : WopAddr} {role : Role}

/-! ## A session that begins -/

theorem State.beginSess_session (n : Nat) (x : SessS) (s : State) :
    (s.beginSess n x).session n = { x with nonce := s.free, lastAt := s.tim.opTime } := by
  simp [State.beginSess, State.session, State.draw]

theorem State.openRefused_of_known (below : role ≠ .vendor) (key : nth s.wop.keys (roleCode role) ≠ 0) : s.openRefused role = none := by
  simp [State.openRefused, below, key]

theorem State.openRefused_of_unset (below : role ≠ .vendor) (unset : nth s.wop.keys (roleCode role) = 0) : s.openRefused role = some s := by
  simp [State.openRefused, below, unset]

/-- The state in which a T1S session has begun. -/
def State.sessionBegun (role : Role) (manager nonce : Nat) (s : State) : Nat × State :=
  let r := (s.countRequest.countFrame 1).freshSession 1 0x7FFF
  (r.1, (r.2.beginSess r.1 { opened := true, role := role, modSeq := 1, manager := manager, peer := nonce }).recordSess r.1)

theorem exec_openSession_begun (path : s.t1sUp = true) (cox : s.coxUp = true) (named : s.addressed dst = true) (below : role ≠ .vendor)
    (key : nth s.wop.keys (roleCode role) ≠ 0) (room : Tab.countWhere (fun (x : SessS) => decide (x.path = 0)) s.wop.sess < 16)
    (seq manager nonce : Nat) :
    exec (.openSession dst role seq manager nonce true) s
      = .next ((s.sessionBegun role manager nonce).2.wopAnswer (s.sessionBegun role manager nonce).1 svcOpen 0
          ((s.sessionBegun role manager nonce).2.openBytes (s.sessionBegun role manager nonce).1)) := by
  have few : ¬ 16 ≤ Tab.countWhere (fun (x : SessS) => decide (x.path = 0)) (s.countRequest.countFrame 1).wop.sess := by
    simpa [State.countRequest, State.countFrame] using room
  simp only [exec, execOpenSession, path, cox, named, State.openRefused_of_known below key, Bool.not_true, Bool.false_eq_true, if_false, few]
  rfl

theorem State.sessionBegun_session (role : Role) (manager nonce : Nat) (s : State) :
    ∃ x : SessS, (s.sessionBegun role manager nonce).2.session (s.sessionBegun role manager nonce).1 = x ∧ x.opened = true ∧ x.role = role
      ∧ x.path = 0 ∧ x.manager = manager ∧ x.peer = nonce := by
  unfold State.sessionBegun State.recordSess
  dsimp only
  refine ⟨_, (State.Told.manage _ _ _ _ _ _ _ _ _).session _, ?_⟩
  simp only [State.beginSess_session, and_self]

theorem exec_openSession_unset (path : s.t1sUp = true) (cox : s.coxUp = true) (named : s.addressed dst = true) (below : role ≠ .vendor)
    (unset : nth s.wop.keys (roleCode role) = 0) (seq manager nonce : Nat) (tagOk : Bool) :
    exec (.openSession dst role seq manager nonce tagOk) s = .next ((s.countRequest.countFrame 1).wopAnswer 0 svcOpen 0x03 []) := by
  simp only [exec, execOpenSession, path, cox, named, State.openRefused_of_unset below unset, Bool.not_true, Bool.false_eq_true, if_false]

/-! ## Sessions that end -/

/-- What a command has sent stays sent when a session closes. -/
theorem State.mem_out_closeSess {o : Out} (sent : o ∈ s.out) (n : Nat) : o ∈ (s.closeSess n).out :=
  (State.closeSess_steady (Steady.refl s) n).out.subset sent

theorem State.closeSess_bulks (known : s.hasSession n = true) : ∀ b ∈ (s.closeSess n).wop.bulks, b.sess ≠ n := by
  intro b member
  rw [State.closeSess_of_listed known] at member
  have kept : b ∈ (s.forgetSess n).wop.bulks := by simpa using member
  have filtered : (s.forgetSess n).wop.bulks = s.wop.bulks.filter fun b => decide (b.sess ≠ n) := by simp [State.forgetSess]
  rw [filtered] at kept
  simpa using (List.mem_filter.mp kept).2

/-- The Custodian's write that names a session is answered before the session closes. -/
theorem exec_closeSession_known (cox : s.coxUp = true) (small : n < 65536) (known : s.hasSession n = true) :
    exec (.closeSession n) s
      = .next (((s.manage 1 byCustodian 0 0x1202 1 0 n (be 2 n)).emit (.access byCustodian 0x1202 1 0 0)).closeSess n) := by
  have value : beVal (be 2 n) = n := beVal_be (by simpa using small)
  have row : rowOf 0x1202 1 = some ⟨0x1202, 1, 0x01, 1, 2, 0x0A, false, 2, 0, 0, 65535, false, 255⟩ := by decide +kernel
  have written : s.writeObject byCustodian 0 0x1202 1 (be 2 n) = (s.manage 1 byCustodian 0 0x1202 1 0 n (be 2 n)).answer 0 := by
    rw [State.writeObject, guarded_of_may s (by decide +kernel)]
    unfold State.writeValue
    simp [row, commandDenied, formOk, reservedOk, selectorKeys, objKey, State.writeLow, value, known, testBit]
  refine (accessed_of_up cox _).trans ?_
  rw [written]
  simp [finishWrite, State.answer, respond, held, State.respondTo, State.afterWrite, value]

/-! ## Security events -/

theorem State.keelOn_of_coxUp (cox : s.coxUp = true) : s.keelOn = true := by
  simp only [State.coxUp, Bool.and_eq_true] at cox
  exact cox.2

/-- A security event is recorded, and reported to the fault collector. -/
theorem State.securityFrom_queued (keel : t.keelOn = true) (flt : t.flt = s.flt) (room : s.flt.queue.length < 256)
    (kind region count dpa source : Nat) : queued s (t.securityFrom kind region count dpa source) (faultMsg 0x2FB 0x89 none false) := by
  have reports := State.report_queued_of_below (s := t.record (.security kind region count dpa source)) (by simpa using keel) (kind := 0x89) (by decide)
    0x2FB none (by simpa [flt] using room)
  simpa [queued, flt, State.securityFrom] using reports

/-! ## The keys of the roles -/

/-- A listed session of a canonical table stands in it with its value. -/
theorem Tab.mem_of_listed {α : Type} [DecidableEq α] {d : α} {tab : Tab α} {lo k : Nat} (canonical : Tab.wfFrom (fun _ => d) lo tab = true)
    (listed : k ∈ tab.map Prod.fst) : (k, Tab.rd d tab k) ∈ tab := by
  induction tab generalizing lo with
  | nil => simp at listed
  | cons e r ih =>
    obtain ⟨j, v⟩ := e
    simp only [Tab.wfFrom, Bool.and_eq_true, decide_eq_true_eq] at canonical
    obtain ⟨-, rest⟩ := canonical
    by_cases first : j = k
    · subst first
      simp [Tab.rd, Tab.get]
    · have later : k ∈ r.map Prod.fst := by simpa [Ne.symm first] using listed
      have above : ¬ k < j := Nat.not_lt.mpr (by have := Tab.le_of_listed _ _ rest later; omega)
      have read : Tab.rd d ((j, v) :: r) k = Tab.rd d r k := by simp [Tab.rd, Tab.get, first, above]
      rw [read]
      exact List.mem_cons_of_mem _ (ih rest later)

/-- Sessions that are closed one after the other: none of them is open at the end, and the others keep their role. -/
theorem closeSessions_ended (l : List Nat) (canonical : s.canonical = true) :
    s.Ended (forEach l State.closeSess s) ∧ ∀ n ∈ l, (forEach l State.closeSess s).hasSession n = false := by
  induction l generalizing s with
  | nil => exact ⟨⟨canonical, fun n listed => ⟨listed, rfl⟩⟩, by simp⟩
  | cons k l ih =>
    have first := State.closeSess_ended canonical k
    obtain ⟨rest, closed⟩ := ih first.canonical
    refine ⟨first.trans rest, fun n member => ?_⟩
    rcases List.mem_cons.mp member with rfl | later
    · refine Bool.eq_false_iff.mpr fun listed => ?_
      have before := (rest.remains n listed).1
      rw [State.closeSess_hasSession] at before
      exact Bool.false_ne_true before
    · exact closed n later

/-- A new key ends every other session of its role. -/
theorem State.setKey_ended (canonical : s.canonical = true) (role : Role) (sess : Nat) :
    ∀ n, n ≠ sess → (s.setKey (roleCode role) sess).hasSession n = true → ((s.setKey (roleCode role) sess).session n).role ≠ role := by
  intro n other listed same
  unfold State.setKey at listed same
  dsimp only at listed same
  generalize keyed : State.modWop _ s.draw.2 = v at listed same
  have sessions : v.wop.sess = s.wop.sess := by
    subst keyed
    simp
  have steady : Steady s v := by
    subst keyed
    exact State.modWop_steady (fun x canonical => canonical) (State.draw_steady (Steady.refl s))
  obtain ⟨ended, closed⟩ := closeSessions_ended ((v.wop.sess.filter fun e => decide (roleCode e.2.role = roleCode role ∧ e.1 ≠ sess)).map Prod.fst)
    (steady.canonical canonical)
  obtain ⟨before, kept⟩ := ended.remains n listed
  have member := Tab.mem_of_listed (State.wop_sess_wf (steady.canonical canonical)) (State.hasSession_iff.mp before)
  have shut := closed n (List.mem_map.mpr ⟨_, List.mem_filter.mpr ⟨member, ?_⟩, rfl⟩)
  · rw [listed] at shut
    exact Bool.false_ne_true shut.symm
  · rw [kept] at same
    simpa [State.session, other] using congrArg roleCode same

theorem closeSessions_keys (l : List Nat) (s : State) : (forEach l State.closeSess s).wop.keys = s.wop.keys := by
  refine forEach_keeps (P := fun t => t.wop.keys = s.wop.keys) l (fun n t same => ?_) rfl
  simpa using same

theorem State.setKey_keys {role : Nat} (known : role < s.wop.keys.length) (sess : Nat) : nth (s.setKey role sess).wop.keys role = 2 := by
  unfold State.setKey
  dsimp only
  rw [closeSessions_keys, State.modWop_wop]
  exact nth_modNth_same (by simpa using known) _

theorem exec_roleKeyWrite_set (cox : s.coxUp = true) (known : s.hasSession sess = true)
    (may : mayWrite 0x1201 (roleCode role) (s.holderReq sess) = 0) (free : s.configLocked = false) (idle : s.storeBusy = false) :
    exec (.roleKeyWrite sess role true) s
      = .next (((s.storeConfig.manage 1 (s.holderReq sess) 0 0x1201 (roleCode role) 0 sess []).setKey (roleCode role) sess).emit
          (.access (s.holderReq sess) 0x1201 (roleCode role) 0 0)) := by
  refine (accessed_of_up cox _).trans ?_
  simp only [known, Bool.not_true, Bool.false_eq_true, if_false, guarded_of_may s may, State.roleKeyOp, free, idle]
  rw [State.answer, respondAccess_done]

/-! ## Sessions of a head's mailbox -/

theorem State.mbAccess_eq (h opcode status ticket : Nat) (value : List Byte) (s : State) :
    s.mbAccess h opcode status ticket value = s.mbReturn h opcode 0 (le 2 status ++ le 2 value.length ++ le 4 ticket ++ value) := rfl

/-- The state in which a session of a head's mailbox waits for its reply to be read. -/
def State.replyKept (h : Nat) (role : Role) (nonce : Nat) (s : State) : State :=
  let r := s.freshSession 0x8000 0x8000
  (r.2.beginSess r.1 { role := role, path := h + 1, peer := nonce }).modHead h fun d =>
    { d with openReply := some (r.1, (r.2.beginSess r.1 { role := role, path := h + 1, peer := nonce }).tim.opTime + 5000) }

theorem State.mailboxOpenOp_kept (none : (s.head h).openReply = none) (below : role ≠ .vendor) (key : nth s.wop.keys (roleCode role) ≠ 0)
    (room : Tab.countWhere (fun (x : SessS) => decide (x.path = h + 1)) s.wop.sess < 2) (nonce : Nat) :
    s.mailboxOpenOp h role nonce = (s.replyKept h role nonce).answer 0 := by
  have same : s.dropReply h = s := by simp [State.dropReply, none]
  simp only [State.mailboxOpenOp, State.openRefused_of_known below key, same, Nat.not_le.mpr room, if_false]
  rfl

/-- The state in which the reply has been read: the session is open. -/
def State.replyRead (h n : Nat) (s : State) : State :=
  ((s.modSession n fun x => { x with opened := true }).modHead h fun d => { d with openReply := none }).recordSess n

theorem State.replyRead_opened (h n : Nat) (s : State) : ((s.replyRead h n).session n).opened = true := by
  unfold State.replyRead State.recordSess
  rw [(State.Told.manage _ _ _ _ _ _ _ _ _).session n]
  simp

theorem State.mailboxReplyOp_read {due : Nat} (waits : (s.head h).openReply = some (n, due)) :
    ∃ v, s.mailboxReplyOp h = (some v, s.replyRead h n) := by
  unfold State.mailboxReplyOp
  rw [waits]
  exact ⟨_, rfl⟩

end Sys2Proof.Machine

open Sys2Proof Sys2Proof.Machine

/-- Settles O23, clause by clause. -/
theorem sessions : Obligations.Sessions := by
  intro s canonical cox
  refine ⟨?_, ?_, ?_, ?_, ?_, ?_, ?_, ?_, ?_, ?_⟩
  · intro dst role seq manager nonce path named below key room
    obtain ⟨x, session, opened, isRole, onPath, manages, peer⟩ := State.sessionBegun_session role manager nonce s
    refine does_of_next (exec_openSession_begun path cox named below key room seq manager nonce)
      ⟨(s.sessionBegun role manager nonce).1, (s.sessionBegun role manager nonce).2.openBytes (s.sessionBegun role manager nonce).1, ?_⟩
    simp [session, opened, isRole, onPath, manages, peer, State.wopAnswer]
  · intro dst role seq manager nonce tagOk path named below unset
    exact does_of_next (exec_openSession_unset path cox named below unset seq manager nonce tagOk) ⟨by simp, by simp [State.wopAnswer]⟩
  · intro dst sess seq named new
    have known := State.hasSession_heard sess seq s
    have next : exec (.close dst sess seq) s = .next (((s.heard sess seq).wopReply sess seq svcClose 0 0 []).closeSess sess) :=
      congrArg Host.Outcome.next (State.wopRequest_new new named svcClose _)
    have listed : ((s.heard sess seq).wopReply sess seq svcClose 0 0 []).hasSession sess = true := State.hasSession_wopReply known ..
    refine does_of_next next ⟨State.closeSess_hasSession _ _, State.closeSess_bulks listed, State.mem_out_closeSess ?_ _⟩
    simp [State.wopReply_out known]
  · intro sess known unused
    exact does_of_next (if_pos ⟨cox, by simp [unused]⟩) (State.closeSess_hasSession _ _)
  · intro sess known
    exact does_of_next (if_pos cox) (State.closeSess_hasSession _ _)
  · intro sess small known
    exact does_of_next (exec_closeSession_known cox small known) ⟨State.closeSess_hasSession _ _, State.mem_out_closeSess (by simp) _⟩
  · intro sess role known may listed free idle
    refine does_of_next (exec_roleKeyWrite_set cox known may free idle) ⟨?_, ?_, accepted_emit _ _ _ _ _⟩
    · exact State.setKey_keys (s := s.storeConfig.manage 1 (s.holderReq sess) 0 0x1201 (roleCode role) 0 sess []) (by simpa using listed) sess
    · exact State.setKey_ended ((State.manage_steady (State.storeConfig_steady (Steady.refl s)) ..).canonical canonical) role sess
  · intro failures room
    have next : exec .tagFailureSecond s = _ := if_pos ⟨failures, cox⟩
    refine does_of_next next ⟨?_, ?_, ?_⟩
    · simp
    · simp [State.draw]
    · exact State.securityFrom_queued (by simpa using State.keelOn_of_coxUp cox) (by simp) room _ _ _ _ _
  · intro h role nonce link cd0 none below key room
    have serves : s.Serves h := ⟨link, cd0, cox⟩
    refine does_mailbox serves rfl ?_
    rw [State.mailboxOpenOp_kept none below key room]
    refine ⟨⟨(s.freshSession 0x8000 0x8000).1, ?_, ?_⟩, ?_⟩
    · simp [State.answer, State.mbAccess, State.replyKept]
    · simp [State.answer, State.mbAccess, State.replyKept, State.beginSess_session]
    · simpa [State.answer, State.mbAccess_eq] using State.returned_mbReturn (s.replyKept h role nonce) h opObjectWrite 0 (le 2 0 ++ le 2 0 ++ le 4 0)
  · intro h n due link cd0 waits
    have serves : s.Serves h := ⟨link, cd0, cox⟩
    refine ⟨?_, ?_⟩
    · obtain ⟨v, read⟩ := State.mailboxReplyOp_read waits
      refine does_mailbox serves rfl ?_
      simp only [read]
      refine ⟨?_, ?_, _, State.returned_mbReturn _ h _ _ _⟩
      · simp [State.mbAccess, State.replyRead]
      · simpa [State.mbAccess] using State.replyRead_opened h n s
    · have next : exec (.mailboxReplyExpiry h) s = _ := rfl
      refine does_of_next next ⟨?_, ?_⟩
      · simp [State.dropReply, waits]
      · rw [Bool.eq_false_iff, ne_eq, State.hasSession_iff]
        simpa [State.dropReply, waits] using Tab.not_listed_erase

end

section
/-! PROOFS. A write of the pool address (12 R289, 13 R310): stored, and told to its subscribers. -/

namespace Sys2Proof.Machine

variable {s : State} {req : Req} {pool : Nat}

theorem rowOf_poolAddress : rowOf 0x1101 0 = some ⟨0x1101, 1, 0x00, 1, 2, 0x7F, true, 2, 0, 0, 65535, false, 255⟩ := by decide +kernel

theorem State.setCfg_cfg_ne {idx mem idx' mem' : Nat} (other : objKey idx' mem' ≠ objKey idx mem) (canonical : s.canonical = true) (v : Nat) :
    (s.setCfg idx mem v).cfg idx' mem' = s.cfg idx' mem' :=
  Tab.get_put_ne _ _ _ other (State.obj_vals_wf canonical)

/-- An object of the keel island that is stored: it takes effect at once (R310). -/
def State.stored (req : Req) (idx mem v : Nat) (value : List Byte) (s : State) : State :=
  ((s.storeConfig.noteWriter req idx mem).manage 1 req 0 idx mem 0 0 value).applyCfg idx mem v

theorem State.putObject_stored {idx mem v : Nat} {r : ObjRow} (row : rowOf idx mem = some r) (range : s.inRange r idx mem v = true)
    (persist : r.persist = true) (keel : r.dataPlane = false) (free : s.configLocked = false) (idle : s.storeBusy = false) (value : List Byte) :
    s.putObject req idx mem v value = (0, 0, s.stored req idx mem v value) := by
  simp [State.putObject, row, range, persist, keel, free, idle, ObjRow.staged, State.stored, State.when]

theorem State.Told.stored (req : Req) (mem v : Nat) (value : List Byte) (s : State) : s.Told (s.stored req 0x1101 mem v value) := by
  have managed : s.Told ((s.storeConfig.noteWriter req 0x1101 mem).manage 1 req 0 0x1101 mem 0 0 value) :=
    .trans (.of_sess_eq (by simp)) (.manage _ _ _ _ _ _ _ _ _)
  unfold State.stored State.applyCfg
  dsimp only
  refine managed.trans (.trans (.of_sess_eq ?_) (.notifyObject _ _ _))
  split
  · simp
  · simp

theorem State.stored_pool_cfg (canonical : s.canonical = true) (req : Req) (pool : Nat) (value : List Byte) :
    (s.stored req 0x1101 0 pool value).cfg 0x1101 0 = pool := by
  have steady : Steady s ((s.storeConfig.noteWriter req 0x1101 0).manage 1 req 0 0x1101 0 0 0 value) :=
    State.manage_steady (State.noteWriter_steady (State.storeConfig_steady (Steady.refl s)) ..) ..
  unfold State.stored State.applyCfg
  generalize (s.storeConfig.noteWriter req 0x1101 0).manage 1 req 0 0x1101 0 0 0 value = u at steady
  have after : ((u.setCfg 0x1101 0 pool).afterCfg 0x1101 0).cfg 0x1101 0 = pool := by
    have canonical : (u.setCfg 0x1101 0 pool).canonical = true := (State.setCfg_steady steady ..).canonical canonical
    simp [State.afterCfg, State.setCfg_cfg_ne (idx := 0x1101) (mem := 1) (idx' := 0x1101) (mem' := 0) (by decide) canonical]
  dsimp only
  split
  · simpa using after
  · simpa using after

theorem State.inRange_pool (fits : pool ≤ 0xFFFF) :
    s.inRange ⟨0x1101, 1, 0x00, 1, 2, 0x7F, true, 2, 0, 0, 65535, false, 255⟩ 0x1101 0 pool = true := by
  simp [State.inRange, State.pairedLimit, fits]

theorem State.writeObject_pool (may : mayWrite 0x1101 0 req = 0) (fits : pool ≤ 0xFFFF) (free : s.configLocked = false) (idle : s.storeBusy = false)
    (holder : Nat) : s.writeObject req holder 0x1101 0 (be 2 pool) = (0, 0, s.stored req 0x1101 0 pool (be 2 pool)) := by
  have value : beVal (be 2 pool) = pool := beVal_be (by omega)
  rw [State.writeObject, guarded_of_may s may, ← State.putObject_stored rowOf_poolAddress (State.inRange_pool fits) rfl rfl free idle]
  unfold State.writeValue
  simp [rowOf_poolAddress, commandDenied, formOk, reservedOk, selectorKeys, objKey, State.writeLow, value, testBit]

/-- A write that is answered by a session: the object is as stored, and the response is the last output. -/
theorem finishWrite_stored {idx mem : Nat} (plain : idx < 0x6000) (other : ¬ (idx = 0x1202 ∧ mem = 1)) (who : Asker) (value : List Byte) (s : State) :
    finishWrite who idx mem value (0, 0, s) = s.respondTo who 0 0 [] := by
  have notRestart : ¬ (idx = 0x6000 ∧ mem = 0x12) := by omega
  have notReset : idx ≠ 0x7001 := by omega
  simp [finishWrite, respond, held, State.afterWrite, notRestart, notReset, other]

end Sys2Proof.Machine
end

section
/-! PROOFS. Requests of a session over T1S, service by service (12 R288, R293, R296). -/

namespace Sys2Proof.Machine

variable {s : State} {n sess seq slot : Nat} {dst : WopAddr}

/-! ## What a heard request leaves -/

theorem State.holderReq_heard (small : sess < 65536) (answers : s.answers sess 0 = true) (seq : Nat) :
    (s.heard sess seq).holderReq sess = { role := (s.session sess).role, path := 0 } := by
  have path : (s.session sess).path = 0 := by
    simp only [State.answers, Bool.and_eq_true, decide_eq_true_eq] at answers
    exact answers.2
  simp [State.holderReq, Nat.not_le.mpr small, State.heard_session, path]

@[simp] theorem State.heard_keeps (sess seq : Nat) (s : State) :
    (s.heard sess seq).cfg = s.cfg ∧ (s.heard sess seq).tim = s.tim ∧ (s.heard sess seq).par = s.par := by
  simp [State.heard, State.touch]

theorem State.heard_canonical (canonical : s.canonical = true) (sess seq : Nat) : (s.heard sess seq).canonical = true :=
  (State.modSession_steady (State.touch_steady (State.countFrame_steady (State.countRequest_steady (Steady.refl s)) _) _) _ _).canonical canonical

/-- What a response leaves of the session that it answers. -/
theorem State.wopReply_heard_session (seq svc status ticket : Nat) (value : List Byte) (s : State) :
    ∃ x : SessS, ((s.heard sess seq).wopReply sess seq svc status ticket value).session sess = x ∧ x.lastAt = s.tim.opTime ∧ x.used = true
      ∧ x.highest = seq ∧ x.subs = (s.session sess).subs
      ∧ ({ seq := seq, service := svc, status := status, ticket := ticket, value := value } : Stored) ∈ x.answered := by
  refine ⟨_, State.wopReply_session (State.hasSession_heard sess seq s) .., ?_⟩
  rw [State.heard_session]
  exact ⟨rfl, rfl, rfl, rfl, mem_keptAnswers _ _⟩

theorem State.wopReply_heard_out (sess seq svc status ticket : Nat) (value : List Byte) (s : State) :
    ((s.heard sess seq).wopReply sess seq svc status ticket value).out = s.out ++ [.wop sess svc status ticket value] := by
  rw [State.wopReply_out (State.hasSession_heard sess seq s), State.heard_out]

/-! ## Reads -/

theorem State.readObject_refused {req : Req} {idx mem : Nat} (refused : accessCheck idx mem 1 req.role req.path ≠ 0) (holder : Nat) (s : State) :
    s.readObject req holder idx mem = ((accessCheck idx mem 1 req.role req.path, 0, []), s) := by
  simp [State.readObject, refused]

/-- Every role reads the pool address, on every path. -/
theorem State.readObject_pool (req : Req) (holder : Nat) (s : State) :
    s.readObject req holder 0x1101 0 = ((0, 0, s.value holder 0x1101 0), s) := by
  have may : accessCheck 0x1101 0 1 req.role req.path = 0 := by
    unfold accessCheck
    rw [rowOf_poolAddress]
    cases req.role <;> simp [ObjRow.anyHas, ObjRow.rights, roleCode, testBit]
  simp [State.readObject, may, rowOf_poolAddress, testBit, ObjRow.dataPlane]

theorem State.value_pool (holder : Nat) (s : State) : s.value holder 0x1101 0 = be 2 (s.cfg 0x1101 0) := rfl

/-! ## Subscriptions -/

/-- A listed value that is replaced by one alike leaves the table alike. -/
theorem Tab.map_insert_of_listed {α β : Type} [DecidableEq α] {d : α} {tab : Tab α} {lo k : Nat} (canonical : Tab.wfFrom (fun _ => d) lo tab = true)
    (listed : k ∈ tab.map Prod.fst) {g : α → β} {v : α} (alike : g v = g (Tab.rd d tab k)) :
    (Tab.insert tab k v).map (fun e => g e.2) = tab.map fun e => g e.2 := by
  induction tab generalizing lo with
  | nil => simp at listed
  | cons e r ih =>
    obtain ⟨j, w⟩ := e
    simp only [Tab.wfFrom, Bool.and_eq_true, decide_eq_true_eq] at canonical
    obtain ⟨-, rest⟩ := canonical
    by_cases first : j = k
    · subst first
      simpa [Tab.insert, Tab.rd, Tab.get] using alike
    · have later : k ∈ r.map Prod.fst := by simpa [Ne.symm first] using listed
      have above : ¬ k < j := Nat.not_lt.mpr (by have := Tab.le_of_listed _ _ rest later; omega)
      have read : Tab.rd d ((j, w) :: r) k = Tab.rd d r k := by simp [Tab.rd, Tab.get, first, above]
      simp only [Tab.insert, first, above, if_false, List.map_cons]
      rw [ih rest later (by rw [← read]; exact alike)]

theorem State.slotsInUse_modSession {f : SessS → SessS} (canonical : s.canonical = true) (known : s.hasSession sess = true)
    (live : f (s.session sess) ≠ {}) (same : (f (s.session sess)).subs = (s.session sess).subs) :
    (s.modSession sess f).slotsInUse = s.slotsInUse := by
  have inserted : (s.modSession sess f).wop.sess = Tab.insert s.wop.sess sess (f (s.session sess)) := Tab.set_of_ne live _ _
  unfold State.slotsInUse
  rw [inserted, Tab.map_insert_of_listed (g := fun x => x.subs.length) (State.wop_sess_wf canonical) (State.hasSession_iff.mp known)
    (congrArg List.length same)]

theorem State.heard_slotsInUse (canonical : s.canonical = true) (known : s.hasSession sess = true) (seq : Nat) :
    (s.heard sess seq).slotsInUse = s.slotsInUse := by
  have counted : (s.countRequest.countFrame 1).wop.sess = s.wop.sess := by simp [State.countRequest, State.countFrame]
  have canonical₁ : (s.countRequest.countFrame 1).canonical = true :=
    (State.countFrame_steady (State.countRequest_steady (Steady.refl s)) _).canonical canonical
  have canonical₂ : ((s.countRequest.countFrame 1).touch sess).canonical = true :=
    (State.touch_steady (State.countFrame_steady (State.countRequest_steady (Steady.refl s)) _) _).canonical canonical
  have known₁ : (s.countRequest.countFrame 1).hasSession sess = true := by rw [State.hasSession_congr counted, known]
  have live : ({ (s.countRequest.countFrame 1).session sess with used := true, lastAt := (s.countRequest.countFrame 1).tim.opTime } : SessS) ≠ {} :=
    fun none => Bool.false_ne_true (congrArg SessS.used none).symm
  have touched : ((s.countRequest.countFrame 1).touch sess).slotsInUse = s.slotsInUse := by
    rw [State.touch, State.slotsInUse_modSession canonical₁ known₁ live rfl, State.slotsInUse, counted, State.slotsInUse]
  have known₂ : ((s.countRequest.countFrame 1).touch sess).hasSession sess = true := (State.hasSession_modSession live).mpr (.inl rfl)
  have used : (((s.countRequest.countFrame 1).touch sess).session sess).used = true := by simp [State.touch]
  rw [State.heard, State.slotsInUse_modSession canonical₂ known₂ (fun none => Bool.false_ne_true ((congrArg SessS.used none).symm.trans used)) rfl,
    touched]

/-- A slot for the fault classes is taken while one of the 32 is left. -/
theorem State.subscribeStatus_taken {req : Req} {mask : Nat} (within : slot ≤ 7) (known : mask ≤ 15) (room : s.slotsInUse < 32) :
    s.subscribeStatus req sess slot .faultClasses 0 0 mask = 0 := by
  have inside : ¬ 7 < slot := by omega
  have small : ¬ 15 < mask := by omega
  have left : ¬ 32 ≤ s.slotsInUse := by omega
  simp [State.subscribeStatus, inside, small, left]

/-- A request whose only output is its response. -/
theorem does_reply {c : Instr} {svc status ticket : Nat} {value : List Byte}
    (next : exec c s = .next ((s.heard sess seq).wopReply sess seq svc status ticket value)) :
    Does c s fun t => t.out = s.out ++ [.wop sess svc status ticket value] ∧ (t.session sess).highest = seq := by
  refine does_of_next next ⟨State.wopReply_heard_out .., ?_⟩
  obtain ⟨x, session, -, -, highest, -⟩ := State.wopReply_heard_session (sess := sess) seq svc status ticket value s
  rw [session, highest]

theorem does_replyOut {c : Instr} {svc status ticket : Nat} {value : List Byte}
    (next : exec c s = .next ((s.heard sess seq).wopReply sess seq svc status ticket value)) :
    Does c s fun t => t.out = s.out ++ [.wop sess svc status ticket value] :=
  does_of_next next (State.wopReply_heard_out ..)

/-- Every role but the Observer writes the pool address, on every path. -/
theorem mayWrite_pool {req : Req} (writer : req.role ≠ .observer) : mayWrite 0x1101 0 req = 0 := by
  unfold mayWrite accessCheck
  rw [rowOf_poolAddress]
  cases role : req.role with
  | observer => exact absurd role writer
  | operator => simp [ObjRow.anyHas, ObjRow.rights, roleCode, testBit]
  | custodian => simp [ObjRow.anyHas, ObjRow.rights, roleCode, testBit]
  | vendor => simp [ObjRow.anyHas, ObjRow.rights, roleCode, testBit]

theorem State.Told.hasSession {t : State} (told : s.Told t) (known : s.hasSession n = true) : t.hasSession n = true :=
  (told.listed n).mpr known

theorem State.Told.highest {t : State} (told : s.Told t) (n : Nat) : (t.session n).highest = (s.session n).highest := by
  rw [told.session n]

theorem State.sendNotify_session (sess k kind lost : Nat) (content : List Byte) (s : State) :
    (s.sendNotify sess k kind lost content).session sess = { s.session sess with modSeq := (s.session sess).modSeq + 1 } := by
  have same : (s.sendNotify sess k kind lost content).wop.sess = (s.modSession sess fun z => { z with modSeq := z.modSeq + 1 }).wop.sess := by
    simp [State.sendNotify]
  rw [State.session_congr same]
  simp

end Sys2Proof.Machine

open Sys2Proof Sys2Proof.Machine

/-- Settles O24, service by service. -/
theorem sessionRequests : Obligations.SessionRequests := by
  intro s dst sess seq canonical named new
  obtain ⟨path, cox, small, answers, above, unanswered⟩ := id new
  have known := State.hasSession_heard sess seq s
  have holder := State.holderReq_heard small answers seq
  refine ⟨?_, ?_, ?_, ?_, ?_, ?_, ?_, ?_⟩
  · have next : exec (.keepalive dst sess seq true) s
        = .next ((s.heard sess seq).wopReply sess seq svcKeepalive 0 0 (be 4 ((s.heard sess seq).cfg 0x1202 2))) :=
      congrArg Host.Outcome.next (State.wopRequest_new new named svcKeepalive _)
    obtain ⟨x, session, lastAt, used, highest, -, kept⟩ := State.wopReply_heard_session (sess := sess) seq svcKeepalive 0 0
      (be 4 ((s.heard sess seq).cfg 0x1202 2)) s
    refine does_of_next next ⟨?_, ?_⟩
    · rw [State.wopReply_heard_out]
      simp
    · rw [session]
      exact ⟨lastAt, used, highest, _, kept, rfl, rfl, rfl⟩
  · have next : exec (.read dst sess seq true 0x1101 0) s = .next ((s.heard sess seq).wopReply sess seq svcRead 0 0 (s.value sess 0x1101 0)) := by
      refine congrArg Host.Outcome.next ((State.wopRequest_new new named svcRead _).trans ?_)
      simp only [State.readObject_pool, State.value_pool, State.heard_keeps]
    exact does_reply next
  · intro idx mem refused
    have next : exec (.read dst sess seq true idx mem) s
        = .next ((s.heard sess seq).wopReply sess seq svcRead (accessCheck idx mem 1 (s.session sess).role 0) 0 []) := by
      refine congrArg Host.Outcome.next ((State.wopRequest_new new named svcRead _).trans ?_)
      rw [holder, State.readObject_refused (req := { role := (s.session sess).role, path := 0 }) refused]
    exact does_replyOut next
  · intro pool fits role free idle
    have written := State.writeObject_pool (s := s.heard sess seq) (req := (s.heard sess seq).holderReq sess) (holder := sess)
      (mayWrite_pool (by rw [holder]; exact role)) fits (by simpa [State.configLocked] using free) (by simpa [State.storeBusy] using idle)
    have next : exec (.write dst sess seq true 0x1101 0 (be 2 pool)) s
        = .next (((s.heard sess seq).stored ((s.heard sess seq).holderReq sess) 0x1101 0 pool (be 2 pool)).wopReply sess seq svcWrite 0 0 []) := by
      refine congrArg Host.Outcome.next ((State.wopRequest_new new named svcWrite _).trans ?_)
      rw [written, finishWrite_stored (by decide) (by decide)]
      rfl
    have told := State.Told.stored ((s.heard sess seq).holderReq sess) 0 pool (be 2 pool) (s.heard sess seq)
    refine does_of_next next ⟨?_, ?_, ?_⟩
    · simpa using State.stored_pool_cfg (State.heard_canonical canonical sess seq) ((s.heard sess seq).holderReq sess) pool (be 2 pool)
    · rw [State.wopReply_out (told.hasSession known)]
      simp
    · rw [State.wopReply_session (told.hasSession known)]
      exact (told.highest sess).trans (by rw [State.heard_session])
  · have next : exec (.readMulti dst sess seq true [{ index := 0x1101, member := 0 }]) s
        = .next ((s.heard sess seq).wopReply sess seq svcReadMulti 0 0
            (be 1 1 ++ zeros 3 ++ be 1 0 ++ be 1 2 ++ be 2 2 ++ s.value sess 0x1101 0)) := by
      refine congrArg Host.Outcome.next ((State.wopRequest_new new named svcReadMulti _).trans ?_)
      simp [State.readItems, State.readObject_pool, rowOf_poolAddress, State.value_pool]
    exact does_replyOut next
  · intro slot minMs mask within few room
    have status := State.subscribeStatus_taken (s := s.heard sess seq) (req := (s.heard sess seq).holderReq sess) (sess := sess) within few
      (by rw [State.heard_slotsInUse canonical (State.hasSession_of_answers answers)]; exact room)
    have next : exec (.subscribe dst sess seq true slot .faultClasses minMs 0 0 mask) s
        = .next (((s.heard sess seq).modSession sess fun z =>
            { z with subs := Tab.set {} z.subs slot { kind := .faultClasses, minMs := minMs, mask := mask } }).wopReply sess seq svcSubscribe 0 0 []) := by
      refine congrArg Host.Outcome.next ((State.wopRequest_new new named svcSubscribe _).trans ?_)
      simp [status]
    have listed := (State.hasSession_modSession (s := s.heard sess seq) (sess := sess) (n := sess)
      (f := fun z => { z with subs := Tab.set {} z.subs slot { kind := .faultClasses, minMs := minMs, mask := mask } })
      (SessS.live_of_subs _ _ (by simp))).mpr (.inl rfl)
    refine does_of_next next ⟨?_, ?_⟩
    · rw [State.wopReply_session listed]
      simp
    · rw [State.wopReply_out listed]
      simp
  · intro slot x found running
    refine ⟨fun none => ?_, fun held => ?_⟩
    · have next : exec (.subscriptionIntervalEnd sess slot) s
          = .next (s.modSession sess fun z => { z with subs := Tab.set {} z.subs slot { x with running := false } }) := by
        simp [exec, execSubscriptionIntervalEnd, cox, found, running, none]
      exact does_of_next next ⟨by simp, by simp⟩
    · have next : exec (.subscriptionIntervalEnd sess slot) s
          = .next ((s.modSession sess fun z => { z with subs := Tab.set {} z.subs slot { x with heldCount := 0, heldContent := [] } }).sendNotify
              sess slot (subCode x.kind) x.heldCount x.heldContent) := by
        simp [exec, execSubscriptionIntervalEnd, cox, found, running, held]
      exact does_of_next next ⟨by simp [State.sendNotify_session], by simp [State.sendNotify]⟩
  · intro seq' idx mem x stored
    have next : exec (.read dst sess seq' true idx mem) s
        = .next (((((s.countRequest.countFrame 1).touch sess).modSession sess fun z => { z with modSeq := z.modSeq + 1 }).countFrame 0).emit
            (.wop sess x.service x.status x.ticket x.value)) := by
      simp [exec, execRead, State.wopRequest, path, cox, named, answers, stored]
    exact does_of_next next ⟨by simp [State.touch], by simp [State.touch]⟩

end

section
/-! PROOFS. Objects through a head's mailbox (04 R105, 12 R299). -/

namespace Sys2Proof.Machine

variable {s : State} {h sess seq : Nat}

/-- The statuses of R308. -/
theorem accessCheck_lt (idx mem dir : Nat) (role : Role) (path : Nat) : accessCheck idx mem dir role path < 5 := by
  unfold accessCheck
  split
  · decide
  · split
    · decide
    · split
      · decide
      · split
        · decide
        · split <;> decide

theorem State.respondTo_mailbox_returned (h sess seq opcode status ticket : Nat) (value : List Byte) (s : State) :
    returned h opcode 0 (le 2 status ++ le 2 value.length ++ le 4 ticket ++ value) (s.respondTo (.mailbox h sess seq opcode) status ticket value) := by
  unfold State.respondTo
  exact State.returned_mbReturn _ h opcode 0 _

@[simp] theorem State.respondTo_mailbox_cfg (h sess seq opcode status ticket : Nat) (value : List Byte) (s : State) :
    (s.respondTo (.mailbox h sess seq opcode) status ticket value).cfg = s.cfg := by
  unfold State.respondTo State.mbAccess
  dsimp only
  split <;> simp [State.keepAnswer]

theorem State.respondTo_mailbox_highest (h sess seq opcode status ticket : Nat) (value : List Byte) (s : State) :
    ((s.respondTo (.mailbox h sess seq opcode) status ticket value).session sess).highest = (s.session sess).highest := by
  unfold State.respondTo State.mbAccess
  dsimp only
  split <;> simp [State.keepAnswer]

/-- A write that is refused leaves the state as it is, apart from the answer. -/
theorem finishWrite_refused {idx mem : Nat} {req : Req} (refused : mayWrite idx mem req ≠ 0) (who : Asker) (holder : Nat) (value : List Byte) (s : State) :
    finishWrite who idx mem value (s.writeObject req holder idx mem value) = s.respondTo who (mayWrite idx mem req) 0 [] := by
  have notHeld : mayWrite idx mem req ≠ held := by
    have := accessCheck_lt idx mem 2 req.role req.path
    unfold mayWrite held
    omega
  simp [finishWrite, State.writeObject, guarded, refused, State.answer, respond, notHeld]

/-- The state in which a new request of a mailbox session is executed. -/
def State.mailboxHeard (sess seq : Nat) (s : State) : State := (s.touch sess).modSession sess fun z => { z with highest := seq }

theorem State.mailboxAccess_new (answers : s.answers sess (h + 1) = true) (above : (s.session sess).highest < seq) (nonzero : 1 ≤ sess)
    (unanswered : (s.session sess).answered.find? (fun x => x.seq == seq) = none) (opcode : Nat) (body : Req → Nat → Asker → State → State) :
    s.mailboxAccess h opcode true sess seq .valid body = body (s.holderReq sess) sess (.mailbox h sess seq opcode) (s.mailboxHeard sess seq) := by
  have notZero : sess ≠ 0 := by omega
  simp [State.mailboxAccess, notZero, answers, unanswered, Nat.not_le.mpr above, State.mailboxHeard]

theorem State.mailboxHeard_highest (sess seq : Nat) (s : State) : ((s.mailboxHeard sess seq).session sess).highest = seq := by
  simp [State.mailboxHeard]

theorem State.mailboxHeard_canonical (canonical : s.canonical = true) (sess seq : Nat) : (s.mailboxHeard sess seq).canonical = true :=
  (State.modSession_steady (State.touch_steady (Steady.refl s) _) _ _).canonical canonical

end Sys2Proof.Machine

open Sys2Proof Sys2Proof.Machine

/-- Settles O26: reads and writes without a session, and a write in one. -/
theorem mailboxObjects : Obligations.MailboxObjects := by
  intro s h canonical link cd0 cox
  have serves : s.Serves h := ⟨link, cd0, cox⟩
  refine ⟨?read, ?malformed, ?refused, ?write⟩
  case read =>
    refine does_mailbox serves rfl ?_
    simp only [State.mailboxAccess, Bool.not_true, Bool.false_eq_true, if_false, if_true, State.readObject_pool, State.value_pool]
    simpa using State.respondTo_mailbox_returned h 0 0 opObjectRead 0 0 (be 2 (s.cfg 0x1101 0)) s
  case malformed =>
    intro seq idx mem
    exact serves.reports rfl rfl
  case refused =>
    intro idx mem value refused
    refine does_mailbox serves rfl ?_
    simp only [State.mailboxAccess, Bool.not_true, Bool.false_eq_true, if_false, if_true, finishWrite_refused refused]
    simpa using State.respondTo_mailbox_returned h 0 0 opObjectWrite (mayWrite idx mem { role := .observer, path := h + 1 }) 0 [] s
  case write =>
    intro sess seq pool nonzero small answers above unanswered role fits free idle
    have req : s.holderReq sess = { role := (s.session sess).role, path := (s.session sess).path } := by
      simp [State.holderReq, Nat.not_le.mpr small]
    have written := State.writeObject_pool (s := s.mailboxHeard sess seq) (req := s.holderReq sess) (holder := sess)
      (mayWrite_pool (by rw [req]; exact role)) fits (by simpa [State.configLocked, State.mailboxHeard, State.touch] using free)
      (by simpa [State.storeBusy, State.mailboxHeard, State.touch] using idle)
    have told := State.Told.stored (s.holderReq sess) 0 pool (be 2 pool) (s.mailboxHeard sess seq)
    refine does_mailbox serves rfl ?_
    rw [State.mailboxAccess_new answers above nonzero unanswered, written, finishWrite_stored (by decide) (by decide)]
    refine ⟨?_, ?_, ?_⟩
    · rw [State.respondTo_mailbox_cfg]
      exact State.stored_pool_cfg (State.mailboxHeard_canonical canonical sess seq) (s.holderReq sess) pool (be 2 pool)
    · simpa using State.respondTo_mailbox_returned h sess seq opObjectWrite 0 0 []
        ((s.mailboxHeard sess seq).stored (s.holderReq sess) 0x1101 0 pool (be 2 pool))
    · rw [State.respondTo_mailbox_highest, told.highest, State.mailboxHeard_highest]

end

section
/-! PROOFS. Bulk transfer (12 R298): a transfer is found by its number, replaced, and ended. -/

namespace Sys2Proof.Machine

variable {s : State} {sess seq bulk : Nat} {dst : WopAddr} {b : BulkS}

/-! ## The list of transfers -/

theorem State.bulkOf_spec {fromModule : Bool} (found : s.bulkOf sess bulk fromModule = some b) : b ∈ s.wop.bulks ∧ b.number = bulk := by
  have named := List.find?_some found
  simp only [Bool.and_eq_true, beq_iff_eq] at named
  obtain ⟨⟨number, -⟩, -⟩ := named
  exact ⟨List.mem_of_find?_eq_some found, number⟩

theorem State.endBulk_bulks (bulk : Nat) (s : State) : ∀ x ∈ (s.endBulk bulk).wop.bulks, x.number ≠ bulk := by
  intro x member
  have filtered : (s.endBulk bulk).wop.bulks = s.wop.bulks.filter fun x => decide (x.number ≠ bulk) := rfl
  rw [filtered] at member
  simpa using (List.mem_filter.mp member).2

/-- A transfer of the list that is replaced stands in it with its new value. -/
theorem State.mem_putBulk {old new : BulkS} (listed : old ∈ s.wop.bulks) (same : old.number = new.number) : new ∈ (s.putBulk new).wop.bulks := by
  have mapped : (s.putBulk new).wop.bulks = s.wop.bulks.map fun x => if x.number = new.number then new else x := rfl
  rw [mapped]
  exact List.mem_map.mpr ⟨old, listed, if_pos same⟩

@[simp] theorem State.endBulk_out (bulk : Nat) (s : State) : (s.endBulk bulk).out = s.out := rfl

@[simp] theorem State.putBulk_out (b : BulkS) (s : State) : (s.putBulk b).out = s.out := rfl

/-! ## A segment in order -/

/-- The state in which a segment in order has been programmed. -/
def State.segmentTaken (sess : Nat) (b : BulkS) (data : List Byte) (sinceAck : Nat) (s : State) : State :=
  ((s.bulkHeard sess).imageWrite b.next data).2.putBulk { b with next := b.next + 1024, sinceAck := sinceAck, outOfOrder := false }

theorem State.segmentTaken_out (sess : Nat) (b : BulkS) (data : List Byte) (sinceAck : Nat) (s : State) :
    (s.segmentTaken sess b data sinceAck).out = s.out := by
  simp [State.segmentTaken]

theorem State.mem_segmentTaken (listed : b ∈ s.wop.bulks) (sess : Nat) (data : List Byte) (sinceAck : Nat) :
    { b with next := b.next + 1024, sinceAck := sinceAck, outOfOrder := false } ∈ (s.segmentTaken sess b data sinceAck).wop.bulks :=
  State.mem_putBulk (old := b) (by simpa using listed) rfl

theorem exec_bulkData_inOrder (path : s.t1sUp = true) (cox : s.coxUp = true) (named : s.addressed dst = true)
    (found : s.bulkOf sess bulk false = some b) {data : List Byte} (whole : data.length = 1024) (aligned : b.next % 1024 = 0)
    (within : b.next + 1024 ≤ b.total) (programs : ((s.bulkHeard sess).imageWrite b.next data).1 = 0) :
    exec (.bulkData dst sess bulk b.next data) s
      = .next (if b.next + 1024 = b.total then
          (((s.segmentTaken sess b data 0).countFrame 0).emit (.bulkAck bulk b.total)).endBulk bulk
        else if 7 ≤ b.sinceAck then ((s.segmentTaken sess b data 0).countFrame 0).emit (.bulkAck bulk (b.next + 1024))
        else s.segmentTaken sess b data (b.sinceAck + 1)) := by
  obtain ⟨-, rfl⟩ := State.bulkOf_spec found
  have some : data.isEmpty = false := by
    cases data with
    | nil => simp at whole
    | cons => rfl
  have inside : ¬ b.total < b.next + 1024 := by omega
  have next : exec (.bulkData dst sess b.number b.next data) s = .next ((s.bulkHeard sess).bulkSegment b b.next data) := by
    simp [exec, execBulkData, path, cox, named, found]
  rw [next]
  unfold State.bulkSegment
  simp only [lt_irrefl, if_false, some, segmentBytes, windowSegments, whole, aligned, inside, programs, ne_eq, not_true_eq_false, false_and,
    or_self, decide_false, Bool.or_self, Bool.false_eq_true]
  by_cases last : b.next + 1024 = b.total
  · simp [last, State.segmentTaken]
  · by_cases due : 7 ≤ b.sinceAck
    · simp [last, due, State.segmentTaken]
    · simp [last, due, State.segmentTaken]

/-! ## A transfer that begins, and its acknowledgements -/

theorem State.bulkStatus_heard (sess seq : Nat) (req : Req) (n idx mem : Nat) (fromModule : Bool) (total : Nat) :
    (s.heard sess seq).bulkStatus req n idx mem fromModule total = s.bulkStatus req n idx mem fromModule total := by
  have img : (s.heard sess seq).img = s.img := by simp [State.heard, State.touch]
  have bulks : (s.heard sess seq).wop.bulks = s.wop.bulks := by simp [State.heard, State.touch]
  simp only [State.bulkStatus, State.image', State.spareImage, img, bulks]
  rfl

/-- The segments that go out leave the transfers as they are, and only add outputs. -/
theorem State.sendSegments_spec (b : BulkS) (a stop : Nat) (s : State) :
    (s.sendSegments b a stop).wop.bulks = s.wop.bulks ∧ s.out <+: (s.sendSegments b a stop).out :=
  ⟨by simp, (State.sendSegments_steady (Steady.refl s) ..).out⟩

theorem exec_bulkAck_known (path : s.t1sUp = true) (cox : s.coxUp = true) (named : s.addressed dst = true)
    (found : s.bulkOf sess bulk true = some b) {offset : Nat} (from_ : b.next ≤ offset) (to_ : offset ≤ b.sent) :
    exec (.bulkAck dst sess bulk offset) s
      = .next (if offset = b.total then (s.bulkHeard sess).endBulk bulk
        else ((s.bulkHeard sess).putBulk { b with next := offset, sent := min b.total (offset + 8192) }).sendSegments b offset
          (min b.total (offset + 8192))) := by
  have inside : ¬ (offset < b.next ∨ b.sent < offset) := by omega
  simp only [exec, execBulkAck, path, cox, named, found, inside, Bool.not_true, Bool.or_self, Bool.false_eq_true, if_false]
  split
  · rfl
  · rfl

theorem State.holderReq_heard_eq (sess seq : Nat) (s : State) : (s.heard sess seq).holderReq sess = s.holderReq sess := by
  unfold State.holderReq
  rw [State.heard_session]

/-- The transfer that a BULK_START begins. -/
def State.newBulk (sess idx mem : Nat) (fromModule : Bool) (total : Nat) (s : State) : BulkS :=
  let data := if fromModule then s.value sess idx mem else []
  let size := if fromModule then data.length else total
  { number := s.wop.nextBulk, sess := sess, key := objKey idx mem, fromModule := fromModule, total := size, data := data
    sent := if fromModule then min size (windowSegments * segmentBytes) else 0 }

/-- The state in which a transfer is listed and its number answered. -/
def State.bulkAnswered (sess seq idx mem : Nat) (fromModule : Bool) (total : Nat) (s : State) : State :=
  ((s.heard sess seq).modWop fun w =>
      { w with bulks := w.bulks ++ [(s.heard sess seq).newBulk sess idx mem fromModule total], nextBulk := w.nextBulk % 0xFFFF + 1 }).wopReply
    sess seq svcBulkStart 0 0 (be 2 (s.heard sess seq).wop.nextBulk ++ be 1 windowSegments ++ zeros 1 ++ be 2 segmentBytes)

def State.bulkStarted (sess seq idx mem : Nat) (fromModule : Bool) (total : Nat) (s : State) : State :=
  if fromModule then (s.bulkAnswered sess seq idx mem fromModule total).sendSegments ((s.heard sess seq).newBulk sess idx mem fromModule total) 0
      (min ((s.heard sess seq).newBulk sess idx mem fromModule total).total (windowSegments * segmentBytes))
  else s.bulkAnswered sess seq idx mem fromModule total

theorem State.bulkAnswered_spec (sess seq idx mem : Nat) (fromModule : Bool) (total : Nat) (s : State) :
    (s.bulkAnswered sess seq idx mem fromModule total).wop.nextBulk = s.wop.nextBulk % 0xFFFF + 1
      ∧ (s.heard sess seq).newBulk sess idx mem fromModule total ∈ (s.bulkAnswered sess seq idx mem fromModule total).wop.bulks
      ∧ Out.wop sess svcBulkStart 0 0 (be 2 s.wop.nextBulk ++ be 1 8 ++ zeros 1 ++ be 2 1024)
        ∈ (s.bulkAnswered sess seq idx mem fromModule total).out := by
  have nextBulk : (s.heard sess seq).wop.nextBulk = s.wop.nextBulk := by simp [State.heard, State.touch]
  have known : ((s.heard sess seq).modWop fun w =>
      { w with bulks := w.bulks ++ [(s.heard sess seq).newBulk sess idx mem fromModule total], nextBulk := w.nextBulk % 0xFFFF + 1 }).hasSession sess
        = true := State.hasSession_heard sess seq s
  unfold State.bulkAnswered
  refine ⟨by simp [nextBulk], by simp, ?_⟩
  rw [State.wopReply_out known, nextBulk]
  simp [windowSegments, segmentBytes]

theorem State.bulkStarted_spec (sess seq idx mem : Nat) (fromModule : Bool) (total : Nat) (s : State) :
    (s.bulkStarted sess seq idx mem fromModule total).wop.nextBulk = s.wop.nextBulk % 0xFFFF + 1
      ∧ (s.heard sess seq).newBulk sess idx mem fromModule total ∈ (s.bulkStarted sess seq idx mem fromModule total).wop.bulks
      ∧ Out.wop sess svcBulkStart 0 0 (be 2 s.wop.nextBulk ++ be 1 8 ++ zeros 1 ++ be 2 1024)
        ∈ (s.bulkStarted sess seq idx mem fromModule total).out := by
  obtain ⟨nextBulk, listed, answered⟩ := State.bulkAnswered_spec sess seq idx mem fromModule total s
  unfold State.bulkStarted
  split
  · exact ⟨by simpa using nextBulk, by simpa using listed, (State.sendSegments_spec ..).2.subset answered⟩
  · exact ⟨nextBulk, listed, answered⟩

end Sys2Proof.Machine

open Sys2Proof Sys2Proof.Machine

/-- Settles O25: by what becomes of the transfer in the list. -/
theorem bulkTransfer : Obligations.BulkTransfer := by
  intro s dst sess bulk canonical path cox named
  refine ⟨?start, ?data, ?ack, ?outOfOrder, ?timeout⟩
  case start =>
    intro seq idx mem fromModule total new status
    have known := State.hasSession_heard sess seq s
    have next : exec (.bulkStart dst sess seq true idx mem fromModule total) s = .next (s.bulkStarted sess seq idx mem fromModule total) := by
      refine congrArg Host.Outcome.next ((State.wopRequest_new new named svcBulkStart _).trans ?_)
      have accepted : (s.heard sess seq).bulkStatus ((s.heard sess seq).holderReq sess) sess idx mem fromModule total = 0 := by
        rw [State.bulkStatus_heard, State.holderReq_heard_eq, status]
      simp only [accepted, ne_eq, not_true_eq_false, if_false]
      rfl
    obtain ⟨nextBulk, listed, answered⟩ := State.bulkStarted_spec sess seq idx mem fromModule total s
    exact does_of_next next ⟨nextBulk, ⟨_, listed, rfl, rfl, rfl, rfl, rfl⟩, answered⟩
  case data =>
    intro b data found whole aligned within programs
    obtain ⟨listed, rfl⟩ := State.bulkOf_spec found
    have next := exec_bulkData_inOrder path cox named found whole aligned within programs
    refine ⟨fun last => ?_, fun more few => ?_, fun more due => ?_⟩
    · rw [if_pos last] at next
      exact does_of_next next ⟨State.endBulk_bulks _ _, by simp [State.segmentTaken_out]⟩
    · rw [if_neg more, if_neg (by omega)] at next
      exact does_of_next next ⟨⟨_, State.mem_segmentTaken listed sess data _, rfl, rfl, rfl⟩, State.segmentTaken_out ..⟩
    · rw [if_neg more, if_pos due] at next
      refine does_of_next next ⟨⟨{ b with next := b.next + 1024, sinceAck := 0, outOfOrder := false }, ?_, rfl, rfl, rfl⟩, by simp [State.segmentTaken_out]⟩
      simpa using State.mem_segmentTaken listed sess data 0
  case ack =>
    intro b offset found from_ to_
    obtain ⟨listed, rfl⟩ := State.bulkOf_spec found
    have next := exec_bulkAck_known path cox named found from_ to_
    refine ⟨fun last => ?_, fun more => ?_⟩
    · rw [if_pos last] at next
      exact does_of_next next ⟨State.endBulk_bulks _ _, by simp⟩
    · rw [if_neg more] at next
      refine does_of_next next ⟨{ b with next := offset, sent := min b.total (offset + 8192) }, ?_, rfl, rfl, rfl⟩
      rw [(State.sendSegments_spec ..).1]
      exact State.mem_putBulk (old := b) (by simpa using listed) rfl
  case outOfOrder =>
    intro b found
    have named := List.find?_some found
    simp only [Bool.and_eq_true, beq_iff_eq] at named
    obtain ⟨rfl, -⟩ := named
    have next : exec (.bulkOutOfOrderAck b.number) s
        = .next (((s.putBulk { b with outOfOrder := false, sinceAck := 0 }).countFrame 0).emit (.bulkAck b.number b.next)) := by
      simp [exec, execBulkOutOfOrderAck, found, path, cox]
    refine does_of_next next ⟨⟨{ b with outOfOrder := false, sinceAck := 0 }, ?_, rfl, rfl, rfl⟩, by simp⟩
    simpa using State.mem_putBulk (old := b) (new := { b with outOfOrder := false, sinceAck := 0 }) (List.mem_of_find?_eq_some found) rfl
  case timeout =>
    exact does_of_next (if_pos cox) (State.endBulk_bulks _ _)

end

section
/-! PROOFS. A staging part that is restored while the maps have still to be loaded (06 R159, 18 R413): with its re-admission every part is ready, the
maps are loaded, and with them the base of the peak counts. The statement says nothing of the start's phase. -/

namespace Sys2Proof.Machine

open Sys2Proof.Tests

/-- Part 0 is probed, in a start that waits for it to load the maps; a base of 1 is noted for the peak counts, and the checkpoint has 0. -/
def partAwaited : State :=
  { serving with
    stg := { srams := (List.range 16).map fun n => (n, { ready := true }), restoring := [0] }
    flt := { units := [(srcPart 0, { state := .probing })] }
    str := { phase := .mapLoad, powered := true }
    trc := { peakBase := 1 } }

/-- The state in which the copy of one of the first eight parts has been made, before the part is re-admitted. -/
def State.partCopied (part : Nat) (s : State) : State :=
  let s := s.modStg fun x => { x with restoring := removeNat part x.restoring, bandDue := removeNat part x.bandDue }
  (s.modWb fun w =>
    { w with
      singlePairs := w.singlePairs - bit (testBit w.singlePairs (part % 8)) * 2 ^ (part % 8)
      ents := Tab.remap {} (fun key l => if pairOfTract (key / 16384) = part % 8 then
        { opened := l.opened.map unsingle, drain := l.drain.map unsingle } else l) w.ents }).restoreBand part

theorem exec_stagingPartRestoreDone_low {s : State} {part : Nat} (due : s.stg.restoring.contains part = true)
    (probing : (s.unit (srcPart part)).state = .probing) (low : part < 8) :
    exec (.stagingPartRestoreDone part) s = .next ((s.partCopied part).readmit (srcPart part)).probeWaiting := by
  simp only [exec, execStagingPartRestoreDone, due, probing, and_self, if_true, Nat.not_le.mpr low, if_false]
  rfl

/-- The base is the checkpoint's. -/
theorem partRestored_peakBase : ((partAwaited.partCopied 0).readmit (srcPart 0)).probeWaiting.trc.peakBase = 0 := by
  decide +kernel

end Sys2Proof.Machine

open Sys2Proof Sys2Proof.Machine

/-- Refutes O33: the re-admission of the part loads the maps, and the base of the peak counts is the checkpoint's, not the one before. -/
theorem not_stagingSram : ¬ Obligations.StagingSram := by
  intro holds
  obtain ⟨-, -, restored, -⟩ := holds partAwaited 0 (by decide)
  obtain ⟨t, next, -, -, -, base⟩ := restored (by decide) (by decide) (by decide) (by decide)
  rw [exec_stagingPartRestoreDone_low (by decide) (by decide) (by decide)] at next
  obtain rfl := Host.Outcome.next.inj next
  rw [partRestored_peakBase] at base
  exact absurd base (by decide)

end

section
/-! PROOFS. The resets of Cox, the orphan limit, and the start of an image (17 R395–R405). -/

namespace Sys2Proof.Machine

variable {s : State}

/-! ## A reset of Cox -/

/-- The replies of the heads' mailboxes are dropped. -/
theorem repliesDropped_keeps (s : State) :
    (forEach allHeads (fun h => State.modHead h fun d => { d with openReply := none }) s).cox = s.cox
      ∧ (forEach allHeads (fun h => State.modHead h fun d => { d with openReply := none }) s).wop = s.wop :=
  ⟨forEach_same State.cox _ (fun h s => by simp) s, forEach_same State.wop _ (fun h s => by simp) s⟩

/-- What a reset of Cox leaves of Cox itself. -/
theorem State.coxReset_cox (s : State) : s.coxReset.cox
    = { s.cox.invalidated with state := 0, dead := false, byWatchdog := true, resetAt := s.tim.opTime, startCause := 3 } := by
  unfold State.coxReset
  dsimp only
  split
  · simp [repliesDropped_keeps]
  · simp [repliesDropped_keeps]

/-- Every session and transfer is gone. -/
theorem State.coxReset_wop (s : State) : s.coxReset.wop.sess = [] ∧ s.coxReset.wop.bulks = [] := by
  unfold State.coxReset
  dsimp only
  split
  · simp [repliesDropped_keeps]
  · simp [repliesDropped_keeps]

theorem State.orphanStart_orphan (s : State) : s.orphanStart.cox.orphan ≠ 0 := by
  unfold State.orphanStart
  split
  · assumption
  · simp

theorem State.orphanStart_resets (s : State) : s.orphanStart.cox.resets = s.cox.resets := by
  unfold State.orphanStart
  split <;> simp

/-- The state of a watchdog reset before Cox itself is reset. -/
def State.watchdogReported (s : State) : State :=
  (((s.modCox fun c => { c with resets := c.resets + 1, lastReset := [s.tim.opTime, s.tim.cycles, s.firmware, 0], byActivate := false }).storeWrite
    93).report 0x2F1 0x83 none).orphanStart

theorem State.watchdogReported_resets (s : State) : s.watchdogReported.cox.resets = s.cox.resets + 1 := by
  rw [State.watchdogReported, State.orphanStart_resets]
  simp

theorem State.watchdogReported_queued (keel : s.keelOn = true) (room : s.flt.queue.length < 256) :
    queued s s.watchdogReported (faultMsg 0x2F1 0x83 none false) := by
  have joins := State.report_queued_of_below (s := (s.modCox fun c => { c with
      resets := c.resets + 1, lastReset := [s.tim.opTime, s.tim.cycles, s.firmware, 0], byActivate := false }).storeWrite 93)
    (by simpa using keel) (kind := 0x83) (by decide) 0x2F1 none (by simpa using room)
  simpa [State.watchdogReported, queued] using joins

/-! ## The release of Cox -/

theorem State.latchOptions_of_words {o : Options} (whole : s.fls.optionCut = false) (words : s.fls.optionWords = some o) : s.latchOptions
    = (s.modCox fun c => { c with options := o.latched, optionState := 0, watchdogMs := o.latched.wdtBoot * 10 }).modPar fun p =>
        { p with bp := o.latched.bpReset } := by
  simp [State.latchOptions, whole, words]

theorem State.latchOptions_of_none (whole : s.fls.optionCut = false) (words : s.fls.optionWords = none) : s.latchOptions
    = (s.modCox fun c => { c with options := {}, optionState := 3, watchdogMs := ({} : Options).wdtBoot * 10 }).modPar fun p =>
        { p with bp := ({} : Options).bpReset } := by
  simp [State.latchOptions, whole, words]

/-- Latching changes the boot's timeout and rollback minimum of no option word. -/
theorem Options.latched_wdtBoot (o : Options) : o.latched.wdtBoot = o.wdtBoot ∧ o.latched.rollbackMin = o.rollbackMin := by
  unfold Options.latched
  split <;> exact ⟨rfl, rfl⟩

/-- A release that has no record to replace and no sector to erase: the options are latched and an image is chosen. -/
theorem exec_coxResetRelease_plain {find : BootFind} (keel : s.keelOn = true) (released : s.pwr.modrstLow = false) (records : find.lostRecords = [])
    (objects : find.lostObjects = []) (reset : s.cox.state = 0) (live : s.cox.dead = false) (flags : s.fls.flags = []) :
    exec (.coxResetRelease s.cox.byWatchdog find) s = .next ((s.modCox CoxS.invalidated).latchOptions.selectImage find) := by
  have noFlag : (s.modCox CoxS.invalidated).latchOptions.fls.flags = [] := by simpa using flags
  simp only [exec, execCoxResetRelease, keel, reset, live, released, noFlag, forEach, State.readRecords, records, objects, Bool.false_eq_true,
    not_false_eq_true, and_self, if_true, List.filter_nil, ite_self]

theorem State.selectImage_of_noTrial {find : BootFind} (trial : s.img.trial = none) : s.selectImage find = s.selectActive find := by
  simp [State.selectImage, trial]

theorem State.selectActive_of_bootable {find : BootFind} (boots : s.bootable find s.img.activeB = true) : s.selectActive find
    = (s.modImg fun x => { x with runsB := s.img.activeB }).modCox fun c => { c with state := 1 } := by
  simp [State.selectActive, boots]

theorem State.selectActive_of_none {find : BootFind} (a : find.validA = false) (b : find.validB = false) :
    s.selectActive find = s.modCox fun c => { c with dead := true } := by
  simp [State.selectActive, State.bootable, a, b]

end Sys2Proof.Machine

open Sys2Proof Sys2Proof.Machine

/-- Settles O34: the watchdog, the orphan limit, and the releases with an image, with none, and while MODRST_N is low. -/
theorem coxResets : Obligations.CoxResets := by
  intro s keel
  refine ⟨?watchdog, ?orphan, ?image, ?none, ?held⟩
  case watchdog =>
    intro room
    have next : exec .watchdogExpiry s = .next s.watchdogReported.coxReset := if_pos keel
    obtain ⟨sess, bulks⟩ := State.coxReset_wop s.watchdogReported
    refine does_of_next next ⟨?_, ?_, ?_, sess, bulks, ?_, ?_⟩
    · rw [State.coxReset_cox]
    · rw [State.coxReset_cox]
    · rw [State.coxReset_cox]
      exact State.watchdogReported_resets s
    · rw [State.coxReset_cox]
      exact State.orphanStart_orphan _
    · exact queued_trans (State.watchdogReported_queued keel room) (by simp)
  case orphan =>
    intro runs below ready room
    have next : exec .orphanLimit s = .next ((s.modCox fun c => { c with orphanLimit := true }).report 0x2F1 0x84 none) :=
      if_pos ⟨keel, runs, by simp [below], ready⟩
    have joins := State.report_fatal_queued (s := s.modCox fun c => { c with orphanLimit := true }) (by simpa using keel) (kind := 0x84) (by decide)
      0x2F1 none (by simpa using room)
    refine does_of_next next ⟨by simp, ?_, by simpa [queued] using joins⟩
    rw [State.report_of_fatal (by simpa using keel) (by decide)]
    exact State.fatal_cause _ _
  case image =>
    intro find o released records objects reset live whole words flags trial valid started sound minimum
    have next := exec_coxResetRelease_plain keel released records objects reset live flags
    rw [State.latchOptions_of_words (by simpa using whole) (o := o) (by simpa using words)] at next
    generalize latched : State.modPar _ (State.modCox _ (s.modCox CoxS.invalidated)) = u at next
    obtain ⟨sameTimeout, sameMinimum⟩ := Options.latched_wdtBoot o
    have img : u.img = s.img := by subst latched; simp
    have options : u.cox.options = o.latched := by subst latched; simp
    have boots : u.bootable find u.img.activeB = true := by
      simp only [State.bootable, State.image', img, options, sameMinimum, Bool.and_eq_true, decide_eq_true_eq]
      exact ⟨⟨valid, started, sound⟩, minimum⟩
    rw [State.selectImage_of_noTrial (by rw [img, trial]), State.selectActive_of_bootable boots] at next
    refine does_of_next next ⟨by simp, by simp [img], by simp [options], ?_, ?_, ?_, ?_⟩
    · subst latched; simp [CoxS.invalidated]
    · subst latched; simp [CoxS.invalidated]
    · subst latched; simp [sameTimeout]
    · subst latched; simp
  case none =>
    intro find released records objects reset live whole words flags trial a b
    have next := exec_coxResetRelease_plain keel released records objects reset live flags
    rw [State.latchOptions_of_none (by simpa using whole) (by simpa using words), State.selectImage_of_noTrial (by simpa using trial),
      State.selectActive_of_none a b] at next
    exact does_of_next next ⟨by simpa [CoxS.invalidated] using reset, by simp, by simp, by simp⟩
  case held =>
    intro byWatchdog find low
    exact if_neg (by simp [low])

end

section
/-! PROOFS. What the fault collector is told and counts stays: the queue of R23 only grows at its end,
and the counts of R267's classes never fall, for every operation short of a reset of the keel island. -/
namespace Sys2Proof.Machine

/-- The fault queue of `u` continues that of `s`, and no class has a lower count. -/
structure Grows (s u : State) : Prop where
  queue : s.flt.queue <+: u.flt.queue
  classes : ∀ i, nth s.flt.classes i ≤ nth u.flt.classes i

theorem Grows.refl (s : State) : Grows s s := ⟨List.prefix_refl _, fun _ => Nat.le_refl _⟩

theorem Grows.trans {s t u : State} (first : Grows s t) (second : Grows t u) : Grows s u :=
  ⟨first.queue.trans second.queue, fun i => (first.classes i).trans (second.classes i)⟩

/-- An operation that touches neither the queue nor the classes. -/
theorem Grows.keep {s u : State} {f : State → State} (kept : ∀ v, (f v).flt.queue = v.flt.queue ∧ (f v).flt.classes = v.flt.classes)
    (k : Grows s u) : Grows s (f u) := by
  obtain ⟨queue, classes⟩ := kept u
  exact ⟨queue ▸ k.queue, fun i => classes ▸ k.classes i⟩

theorem grows_ite {s a b : State} {c : Prop} {d : Decidable c} (h : Grows s a) (k : Grows s b) : Grows s (if c then a else b) := by
  split <;> assumption

theorem forEach_grows {α : Type} {s u : State} {f : α → State → State} (step : ∀ a v, Grows s v → Grows s (f a v))
    (k : Grows s u) (l : List α) : Grows s (forEach l f u) := by
  induction l generalizing u with
  | nil => exact k
  | cons a l ih => exact ih (step a u k)

theorem State.when_grows {s u : State} {f : State → State} (step : Grows s u → Grows s (f u)) (k : Grows s u) (c : Bool) :
    Grows s (u.when c f) := by
  cases c with
  | true => exact step k
  | false => exact k

theorem nth_le_nth_modNth (l : List Nat) (n i : Nat) : nth l i ≤ nth (modNth l n (· + 1)) i := by
  by_cases same : i = n
  · subst same
    by_cases listed : i < l.length
    · rw [nth_modNth_same listed]; omega
    · simp [nth, modNth, listed]
  · rw [nth_modNth_ne l same]

theorem State.queueFault_grows {s u : State} (k : Grows s u) (m : Word64) : Grows s (State.queueFault m u) := by
  refine k.trans ⟨(queueFault_prefix (m := m) u), fun i => ?_⟩
  simp only [State.queueFault, State.modFlt]
  split <;> exact Nat.le_refl _

theorem State.countClass_grows {s u : State} (k : Grows s u) (n : Nat) :
    Grows s (u.modFlt fun x => { x with classes := modNth x.classes n (· + 1) }) :=
  k.trans ⟨List.prefix_refl _, nth_le_nth_modNth _ _⟩

theorem State.enterViral_grows {s u : State} (k : Grows s u) (a0) :
    Grows s (State.enterViral a0 u) := by
  unfold State.enterViral
  with_reducible repeat' first
    | assumption
    | apply grows_ite
    | refine Grows.keep (f := State.modHead _ _) (fun _ => ⟨by simp, by simp⟩) ?_
    | refine Grows.keep (f := State.linkEvent _) (fun _ => ⟨by simp, by simp⟩) ?_
    | apply State.queueFault_grows

theorem State.signalViral_grows {s u : State} (k : Grows s u) (a0) :
    Grows s (State.signalViral a0 u) := by
  unfold State.signalViral
  with_reducible repeat' first
    | assumption
    | apply grows_ite
    | refine Grows.keep (f := State.emit _) (fun _ => ⟨by simp, by simp⟩) ?_
    | apply State.enterViral_grows

theorem State.easyBegin_grows {s u : State} (k : Grows s u) (a0) :
    Grows s (State.easyBegin a0 u) := by
  unfold State.easyBegin
  with_reducible repeat' first
    | assumption
    | apply grows_ite
    | refine Grows.keep (f := State.modPwr _) (fun _ => ⟨rfl, rfl⟩) ?_
    | refine Grows.keep (f := State.modEasy _) (fun _ => ⟨rfl, rfl⟩) ?_
    | refine Grows.keep (f := State.modWb _) (fun _ => ⟨rfl, rfl⟩) ?_
    | refine forEach_grows (fun _ _ _ => ?_) ?_ _
    | refine Grows.keep (f := State.boundSync) (fun _ => ⟨by simp, by simp⟩) ?_
    | refine Grows.keep (f := State.withholdAll) (fun _ => ⟨by simp, by simp⟩) ?_
    | apply State.signalViral_grows
    | refine Grows.keep (f := State.zeroMargins) (fun _ => ⟨by simp, by simp⟩) ?_
    | refine Grows.keep (f := State.fireWhere _ _) (fun _ => ⟨by simp, by simp⟩) ?_

theorem State.easyEnter_grows {s u : State} (k : Grows s u) (a0) :
    Grows s (State.easyEnter a0 u) := by
  unfold State.easyEnter
  with_reducible repeat' first
    | assumption
    | apply grows_ite
    | refine Grows.keep (f := State.modEasy _) (fun _ => ⟨rfl, rfl⟩) ?_
    | refine forEach_grows (fun _ _ _ => ?_) ?_ _
    | apply State.signalViral_grows
    | apply State.easyBegin_grows

theorem State.fatal_grows {s u : State} (k : Grows s u) (a0) :
    Grows s (State.fatal a0 u) := by
  unfold State.fatal
  with_reducible repeat' first
    | assumption
    | apply grows_ite
    | refine Grows.keep (f := State.modFlt _) (fun _ => ⟨rfl, rfl⟩) ?_
    | apply State.easyEnter_grows

theorem State.report_grows {s u : State} (k : Grows s u) (src kind : Nat) (addr : Option Nat) :
    Grows s (State.report src kind addr u) := by
  unfold State.report
  have told : Grows s ((u.when (decide (1 ≤ kindClass kind)) (State.setSticky src)).queueFault (faultMsg src kind addr (kindClass kind == 3))) :=
    State.queueFault_grows (State.when_grows (Grows.keep (f := State.setSticky src) fun _ => ⟨by simp, by simp⟩) k _) _
  dsimp only
  split
  · exact k
  · split
    · split
      · exact State.fatal_grows told _
      · exact State.fatal_grows (State.countClass_grows told _) _
    · exact told

theorem State.linkDown_grows {s u : State} (k : Grows s u) (a0) :
    Grows s (State.linkDown a0 u) := by
  unfold State.linkDown
  with_reducible repeat' first
    | assumption
    | apply grows_ite
    | refine Grows.keep (f := State.modRdp _) (fun _ => ⟨rfl, rfl⟩) ?_
    | refine Grows.keep (f := State.modWb _) (fun _ => ⟨rfl, rfl⟩) ?_
    | apply State.when_grows
    | refine Grows.keep (f := State.modHead _ _) (fun _ => ⟨by simp, by simp⟩) ?_
    | refine Grows.keep (f := State.modLink _ _) (fun _ => ⟨by simp, by simp⟩) ?_
    | refine Grows.keep (f := State.headEvent _ _ _ _) (fun _ => ⟨by simp, by simp⟩) ?_
    | refine Grows.keep (f := State.boundSync) (fun _ => ⟨by simp, by simp⟩) ?_
    | refine Grows.keep (f := State.modPort _ _) (fun _ => ⟨by simp, by simp⟩) ?_
    | apply State.easyEnter_grows
    | split
    | dsimp only
    | intro _

theorem State.portSync_grows {s u : State} (k : Grows s u) (a0) :
    Grows s (State.portSync a0 u) := by
  unfold State.portSync
  with_reducible repeat' first
    | assumption
    | apply grows_ite
    | apply State.when_grows
    | apply State.linkDown_grows
    | refine Grows.keep (f := State.train _) (fun _ => ⟨by simp, by simp⟩) ?_
    | refine Grows.keep (f := State.applyMode _) (fun _ => ⟨by simp, by simp⟩) ?_
    | split
    | dsimp only
    | intro _

theorem State.linksSync_grows {s u : State} (k : Grows s u)  :
    Grows s (State.linksSync u) := by
  unfold State.linksSync
  with_reducible repeat' first
    | assumption
    | apply grows_ite
    | refine forEach_grows (fun _ _ _ => ?_) ?_ _
    | apply State.portSync_grows

theorem State.securityFrom_grows {s u : State} (k : Grows s u) (a0) (a1) (a2) (a3) (a4) :
    Grows s (State.securityFrom a0 a1 a2 a3 a4 u) := by
  unfold State.securityFrom
  with_reducible repeat' first
    | assumption
    | apply grows_ite
    | refine Grows.keep (f := State.record _) (fun _ => ⟨by simp, by simp⟩) ?_
    | apply State.report_grows

theorem State.security_grows {s u : State} (k : Grows s u) (a0) (a1) (a2) (a3) :
    Grows s (State.security a0 a1 a2 a3 u) := by
  unfold State.security
  with_reducible repeat' first
    | assumption
    | apply grows_ite
    | apply State.securityFrom_grows

theorem State.easyCheck_grows {s u : State} (k : Grows s u)  :
    Grows s (State.easyCheck u) := by
  unfold State.easyCheck
  with_reducible repeat' first
    | assumption
    | apply grows_ite
    | refine Grows.keep (f := State.easyLeave) (fun _ => ⟨by simp, by simp⟩) ?_
    | apply State.easyEnter_grows

theorem State.spareCheck_grows {s u : State} (k : Grows s u) (a0) :
    Grows s (State.spareCheck a0 u) := by
  unfold State.spareCheck
  with_reducible repeat' first
    | assumption
    | apply grows_ite
    | refine Grows.keep (f := State.modTrc _) (fun _ => ⟨rfl, rfl⟩) ?_
    | apply State.report_grows

theorem State.freeTract_grows {s u : State} (k : Grows s u) (a0) (a1) :
    Grows s (State.freeTract a0 a1 u) := by
  unfold State.freeTract
  with_reducible repeat' first
    | assumption
    | apply grows_ite
    | refine Grows.keep (f := State.modTrc _) (fun _ => ⟨rfl, rfl⟩) ?_
    | refine forEach_grows (fun _ _ _ => ?_) ?_ _
    | apply State.when_grows
    | refine Grows.keep (f := State.storeWrite _) (fun _ => ⟨by simp, by simp⟩) ?_
    | refine Grows.keep (f := State.modChannel _ _) (fun _ => ⟨by simp, by simp⟩) ?_
    | apply State.spareCheck_grows
    | split
    | dsimp only
    | intro _

theorem State.alarm_grows {s u : State} (k : Grows s u) (a0) (a1) :
    Grows s (State.alarm a0 a1 u) := by
  unfold State.alarm
  with_reducible repeat' first
    | assumption
    | apply grows_ite
    | refine Grows.keep (f := State.modItg _) (fun _ => ⟨rfl, rfl⟩) ?_
    | refine Grows.keep (f := State.headEvent _ _ _ _) (fun _ => ⟨by simp, by simp⟩) ?_
    | apply State.report_grows
    | apply State.security_grows

theorem State.decideRead_grows {s u : State} (k : Grows s u) (a0) :
    Grows s (State.decideRead a0 u) := by
  unfold State.decideRead
  with_reducible repeat' first
    | assumption
    | apply grows_ite
    | refine Grows.keep (f := State.modItg _) (fun _ => ⟨rfl, rfl⟩) ?_
    | refine Grows.keep (f := State.modRead _ _) (fun _ => ⟨by simp, by simp⟩) ?_
    | refine Grows.keep (f := State.decided _ _) (fun _ => ⟨by simp, by simp⟩) ?_
    | apply State.alarm_grows
    | refine Grows.keep (f := State.countTagFail) (fun _ => ⟨by simp, by simp⟩) ?_
    | split
    | dsimp only

theorem State.cannotRebuild_grows {s u : State} (k : Grows s u) (a0) :
    Grows s (State.cannotRebuild a0 u) := by
  unfold State.cannotRebuild
  with_reducible repeat' first
    | assumption
    | apply grows_ite
    | apply State.report_grows
    | refine Grows.keep (f := State.countEcc _) (fun _ => ⟨by simp, by simp⟩) ?_
    | refine Grows.keep (f := State.modRead _ _) (fun _ => ⟨by simp, by simp⟩) ?_
    | refine Grows.keep (f := State.decided _ _) (fun _ => ⟨by simp, by simp⟩) ?_
    | apply State.decideRead_grows
    | split

theorem State.freeDone_grows {s u : State} (k : Grows s u)  :
    Grows s (State.freeDone u) := by
  unfold State.freeDone
  with_reducible repeat' first
    | assumption
    | apply grows_ite
    | refine forEach_grows (fun _ _ _ => ?_) ?_ _
    | apply State.freeTract_grows

theorem State.giveUp_grows {s u : State} (k : Grows s u) (a0) (a1) :
    Grows s (State.giveUp a0 a1 u) := by
  unfold State.giveUp
  with_reducible repeat' first
    | assumption
    | apply grows_ite
    | refine Grows.keep (f := State.modTrc _) (fun _ => ⟨rfl, rfl⟩) ?_
    | refine Grows.keep (f := State.startClear _) (fun _ => ⟨by simp, by simp⟩) ?_
    | apply State.freeDone_grows

theorem State.giveUpPt_grows {s u : State} (k : Grows s u) (a0) (a1) :
    Grows s (State.giveUpPt a0 a1 u) := by
  unfold State.giveUpPt
  with_reducible repeat' first
    | assumption
    | apply grows_ite
    | refine Grows.keep (f := State.modMed _) (fun _ => ⟨rfl, rfl⟩) ?_
    | refine Grows.keep (f := State.modTrc _) (fun _ => ⟨rfl, rfl⟩) ?_
    | apply State.giveUp_grows

theorem State.abandon_grows {s u : State} (k : Grows s u) (a0) (a1) (a2) :
    Grows s (State.abandon a0 a1 a2 u) := by
  unfold State.abandon
  with_reducible repeat' first
    | assumption
    | apply grows_ite
    | refine Grows.keep (f := State.modTrc _) (fun _ => ⟨rfl, rfl⟩) ?_
    | refine Grows.keep (f := State.modActivity _ _) (fun _ => ⟨by simp, by simp⟩) ?_
    | refine Grows.keep (f := State.modEntry _ _) (fun _ => ⟨by simp, by simp⟩) ?_
    | refine Grows.keep (f := State.putEntry _ _) (fun _ => ⟨by simp, by simp⟩) ?_
    | apply State.giveUp_grows
    | refine Grows.keep (f := State.dropWork _ _ _) (fun _ => ⟨by simp, by simp⟩) ?_
    | apply State.giveUpPt_grows
    | split

theorem State.reconstruct_grows {s u : State} (k : Grows s u) (a0) :
    Grows s (State.reconstruct a0 u) := by
  unfold State.reconstruct
  with_reducible repeat' first
    | assumption
    | apply grows_ite
    | refine Grows.keep (f := State.modRead _ _) (fun _ => ⟨by simp, by simp⟩) ?_
    | apply State.cannotRebuild_grows
    | refine Grows.keep (f := State.markReconstructed _) (fun _ => ⟨by simp, by simp⟩) ?_
    | refine Grows.keep (f := State.issue _ _ _) (fun _ => ⟨by simp, by simp⟩) ?_
    | split

theorem State.nodeDone_grows {s u : State} (k : Grows s u) (a0) (a1) (a2) (a3) :
    Grows s (State.nodeDone a0 a1 a2 a3 u) := by
  unfold State.nodeDone
  with_reducible repeat' first
    | assumption
    | apply grows_ite
    | refine Grows.keep (f := State.modItg _) (fun _ => ⟨rfl, rfl⟩) ?_
    | apply State.when_grows
    | refine Grows.keep (f := State.countEcc _) (fun _ => ⟨by simp, by simp⟩) ?_
    | refine Grows.keep (f := State.queueRewrite _) (fun _ => ⟨by simp, by simp⟩) ?_
    | refine Grows.keep (f := State.modRead _ _) (fun _ => ⟨by simp, by simp⟩) ?_
    | apply State.alarm_grows
    | apply State.decideRead_grows
    | refine Grows.keep (f := State.cachePut _ _) (fun _ => ⟨by simp, by simp⟩) ?_
    | split
    | dsimp only
    | intro _

theorem State.loseTracts_grows {s u : State} (k : Grows s u) (a0) (a1) (a2) :
    Grows s (State.loseTracts a0 a1 a2 u) := by
  unfold State.loseTracts
  with_reducible repeat' first
    | assumption
    | apply grows_ite
    | refine forEach_grows (fun _ _ _ => ?_) ?_ _
    | refine Grows.keep (f := State.putEntry _ _) (fun _ => ⟨by simp, by simp⟩) ?_
    | apply State.alarm_grows
    | apply State.abandon_grows

theorem State.nodeLost_grows {s u : State} (k : Grows s u) (a0) (a1) :
    Grows s (State.nodeLost a0 a1 u) := by
  unfold State.nodeLost
  with_reducible repeat' first
    | assumption
    | apply grows_ite
    | refine Grows.keep (f := State.decided _ _) (fun _ => ⟨by simp, by simp⟩) ?_
    | apply State.loseTracts_grows
    | split

theorem State.nodeLast_grows {s u : State} (k : Grows s u) (a0) (a1) (a2) (a3) :
    Grows s (State.nodeLast a0 a1 a2 a3 u) := by
  unfold State.nodeLast
  with_reducible repeat' first
    | assumption
    | apply grows_ite
    | apply State.report_grows
    | refine Grows.keep (f := State.countEcc _) (fun _ => ⟨by simp, by simp⟩) ?_
    | apply State.nodeDone_grows
    | apply State.nodeLost_grows
    | split

theorem State.nodeRetry_grows {s u : State} (k : Grows s u) (a0) (a1) (a2) (a3) :
    Grows s (State.nodeRetry a0 a1 a2 a3 u) := by
  unfold State.nodeRetry
  with_reducible repeat' first
    | assumption
    | apply grows_ite
    | apply State.when_grows
    | apply State.report_grows
    | refine Grows.keep (f := State.modRead _ _) (fun _ => ⟨by simp, by simp⟩) ?_
    | refine Grows.keep (f := State.markReconstructed _) (fun _ => ⟨by simp, by simp⟩) ?_
    | refine Grows.keep (f := State.issue _ _ _) (fun _ => ⟨by simp, by simp⟩) ?_
    | apply State.nodeLast_grows
    | split
    | dsimp only
    | intro _

theorem State.dropDie_grows {s u : State} (k : Grows s u) (a0) :
    Grows s (State.dropDie a0 u) := by
  unfold State.dropDie
  with_reducible repeat' first
    | assumption
    | apply grows_ite
    | refine forEach_grows (fun _ _ _ => ?_) ?_ _
    | refine Grows.keep (f := State.modPlane _ _) (fun _ => ⟨by simp, by simp⟩) ?_
    | refine Grows.keep (f := State.cutOff _) (fun _ => ⟨by simp, by simp⟩) ?_
    | apply State.freeDone_grows
    | refine Grows.keep (f := State.programDone _) (fun _ => ⟨by simp, by simp⟩) ?_
    | refine Grows.keep (f := State.unreserve _) (fun _ => ⟨by simp, by simp⟩) ?_
    | refine Grows.keep (f := State.release _) (fun _ => ⟨by simp, by simp⟩) ?_
    | refine Grows.keep (f := State.grantIdle) (fun _ => ⟨by simp, by simp⟩) ?_

theorem State.fenceMigrations_grows {s u : State} (k : Grows s u) (a0) :
    Grows s (State.fenceMigrations a0 u) := by
  unfold State.fenceMigrations
  with_reducible repeat' first
    | assumption
    | apply grows_ite
    | refine forEach_grows (fun _ _ _ => ?_) ?_ _
    | apply State.abandon_grows

theorem State.moveBlank_grows {s u : State} (k : Grows s u) (a0) :
    Grows s (State.moveBlank a0 u) := by
  unfold State.moveBlank
  with_reducible repeat' first
    | assumption
    | apply grows_ite
    | refine Grows.keep (f := State.modTrc _) (fun _ => ⟨rfl, rfl⟩) ?_
    | refine Grows.keep (f := State.putEntry _ _) (fun _ => ⟨by simp, by simp⟩) ?_
    | apply State.giveUpPt_grows
    | refine Grows.keep (f := State.countMig _) (fun _ => ⟨by simp, by simp⟩) ?_
    | refine Grows.keep (f := State.placed _) (fun _ => ⟨by simp, by simp⟩) ?_

theorem State.copyEnds_grows {s u : State} (k : Grows s u) (a0) :
    Grows s (State.copyEnds a0 u) := by
  unfold State.copyEnds
  with_reducible repeat' first
    | assumption
    | apply grows_ite
    | apply State.moveBlank_grows
    | refine Grows.keep (f := State.request _ _ _ _) (fun _ => ⟨by simp, by simp⟩) ?_
    | refine Grows.keep (f := State.modMig _ _) (fun _ => ⟨by simp, by simp⟩) ?_
    | split

theorem State.migSync_grows {s u : State} (k : Grows s u)  :
    Grows s (State.migSync u) := by
  unfold State.migSync
  with_reducible repeat' first
    | assumption
    | apply grows_ite
    | refine forEach_grows (fun _ _ _ => ?_) ?_ _
    | apply State.copyEnds_grows

theorem State.lineAbsent_grows {s u : State} (k : Grows s u) (a0) (a1) :
    Grows s (State.lineAbsent a0 a1 u) := by
  unfold State.lineAbsent
  with_reducible repeat' first
    | assumption
    | apply grows_ite
    | refine Grows.keep (f := State.modRead _ _) (fun _ => ⟨by simp, by simp⟩) ?_
    | apply State.cannotRebuild_grows
    | apply State.reconstruct_grows
    | apply State.nodeRetry_grows
    | split

theorem State.waitedRead_grows {s u : State} (k : Grows s u) (a0) (a1) :
    Grows s (State.waitedRead a0 a1 u) := by
  unfold State.waitedRead
  with_reducible repeat' first
    | assumption
    | apply grows_ite
    | apply State.lineAbsent_grows
    | split

theorem State.mediaBack_grows {s u : State} (k : Grows s u)  :
    Grows s (State.mediaBack u) := by
  unfold State.mediaBack
  with_reducible repeat' first
    | assumption
    | apply grows_ite
    | refine Grows.keep (f := State.modPwr _) (fun _ => ⟨rfl, rfl⟩) ?_
    | refine Grows.keep (f := State.modEasy _) (fun _ => ⟨rfl, rfl⟩) ?_
    | apply State.easyCheck_grows

theorem State.loadMaps_grows {s u : State} (k : Grows s u)  :
    Grows s (State.loadMaps u) := by
  unfold State.loadMaps
  with_reducible repeat' first
    | assumption
    | apply grows_ite
    | refine Grows.keep (f := State.modTrc _) (fun _ => ⟨rfl, rfl⟩) ?_
    | refine Grows.keep (f := State.modMed _) (fun _ => ⟨rfl, rfl⟩) ?_
    | refine forEach_grows (fun _ _ _ => ?_) ?_ _
    | apply State.freeTract_grows

theorem State.mapLoad_grows {s u : State} (k : Grows s u)  :
    Grows s (State.mapLoad u) := by
  unfold State.mapLoad
  with_reducible repeat' first
    | assumption
    | apply grows_ite
    | refine Grows.keep (f := State.modStr _) (fun _ => ⟨rfl, rfl⟩) ?_
    | refine Grows.keep (f := State.modWb _) (fun _ => ⟨rfl, rfl⟩) ?_
    | refine Grows.keep (f := State.storeWrite _) (fun _ => ⟨by simp, by simp⟩) ?_
    | refine Grows.keep (f := State.startTime _) (fun _ => ⟨by simp, by simp⟩) ?_
    | refine Grows.keep (f := State.replayLedger) (fun _ => ⟨by simp, by simp⟩) ?_
    | apply State.loadMaps_grows
    | refine Grows.keep (f := State.markSuspects) (fun _ => ⟨by simp, by simp⟩) ?_

theorem State.mapStep_grows {s u : State} (k : Grows s u)  :
    Grows s (State.mapStep u) := by
  unfold State.mapStep
  with_reducible repeat' first
    | assumption
    | apply grows_ite
    | apply State.mediaBack_grows
    | apply State.mapLoad_grows

theorem State.verdict_grows {s u : State} (k : Grows s u) (a0) :
    Grows s (State.verdict a0 u) := by
  unfold State.verdict
  with_reducible repeat' first
    | assumption
    | apply grows_ite
    | refine Grows.keep (f := State.modWb _) (fun _ => ⟨rfl, rfl⟩) ?_
    | apply State.report_grows
    | split

theorem State.lostReads_grows {s u : State} (k : Grows s u) (a0) :
    Grows s (State.lostReads a0 u) := by
  unfold State.lostReads
  with_reducible repeat' first
    | assumption
    | apply grows_ite
    | refine forEach_grows (fun _ _ _ => ?_) ?_ _
    | apply State.waitedRead_grows

theorem State.fenceDie_grows {s u : State} (k : Grows s u) (a0) :
    Grows s (State.fenceDie a0 u) := by
  unfold State.fenceDie
  with_reducible repeat' first
    | assumption
    | apply grows_ite
    | apply State.migSync_grows
    | apply State.lostReads_grows
    | apply State.dropDie_grows

theorem State.fenceEngine_grows {s u : State} (k : Grows s u) (a0) :
    Grows s (State.fenceEngine a0 u) := by
  unfold State.fenceEngine
  with_reducible repeat' first
    | assumption
    | apply grows_ite
    | refine forEach_grows (fun _ _ _ => ?_) ?_ _
    | refine Grows.keep (f := State.stopPasses) (fun _ => ⟨by simp, by simp⟩) ?_
    | refine Grows.keep (f := State.rebuildSync _) (fun _ => ⟨by simp, by simp⟩) ?_
    | apply State.abandon_grows

theorem State.fenceEffects_grows {s u : State} (k : Grows s u) (a0) :
    Grows s (State.fenceEffects a0 u) := by
  unfold State.fenceEffects
  with_reducible repeat' first
    | assumption
    | apply grows_ite
    | refine forEach_grows (fun _ _ _ => ?_) ?_ _
    | refine Grows.keep (f := State.boundSync) (fun _ => ⟨by simp, by simp⟩) ?_
    | refine Grows.keep (f := State.modChannel _ _) (fun _ => ⟨by simp, by simp⟩) ?_
    | apply State.mapStep_grows
    | apply State.linksSync_grows
    | refine Grows.keep (f := State.rebuildFence _ _) (fun _ => ⟨by simp, by simp⟩) ?_
    | refine Grows.keep (f := State.stacksOff _) (fun _ => ⟨by simp, by simp⟩) ?_
    | apply State.fenceMigrations_grows
    | apply State.fenceDie_grows
    | refine Grows.keep (f := State.fencePart _) (fun _ => ⟨by simp, by simp⟩) ?_
    | apply State.fenceEngine_grows
    | refine Grows.keep (f := State.fenceT1s) (fun _ => ⟨by simp, by simp⟩) ?_
    | split

theorem State.reactionFence_grows {s u : State} (k : Grows s u) (a0) :
    Grows s (State.reactionFence a0 u) := by
  unfold State.reactionFence
  with_reducible repeat' first
    | assumption
    | apply grows_ite
    | refine Grows.keep (f := State.modFlt _) (fun _ => ⟨rfl, rfl⟩) ?_
    | refine Grows.keep (f := State.boundSync) (fun _ => ⟨by simp, by simp⟩) ?_
    | refine Grows.keep (f := State.modUnit _ _) (fun _ => ⟨by simp, by simp⟩) ?_
    | refine Grows.keep (f := State.startQuiet _) (fun _ => ⟨by simp, by simp⟩) ?_
    | apply State.verdict_grows
    | apply State.fenceEffects_grows
    | refine Grows.keep (f := State.probeWaiting) (fun _ => ⟨by simp, by simp⟩) ?_
    | refine Grows.keep (f := State.cmdDone _ _) (fun _ => ⟨by simp, by simp⟩) ?_
    | refine Grows.keep (f := State.probeStopped _) (fun _ => ⟨by simp, by simp⟩) ?_
    | split

theorem State.react_grows {s u : State} (k : Grows s u) (a0) :
    Grows s (State.react a0 u) := by
  unfold State.react
  with_reducible repeat' first
    | assumption
    | apply grows_ite
    | refine Grows.keep (f := State.modEasy _) (fun _ => ⟨rfl, rfl⟩) ?_
    | apply State.easyEnter_grows
    | apply State.fatal_grows
    | refine Grows.keep (f := State.startQuiet _) (fun _ => ⟨by simp, by simp⟩) ?_
    | apply State.reactionFence_grows
    | split
    | dsimp only

theorem State.corePowered_grows {s u : State} (k : Grows s u)  :
    Grows s (State.corePowered u) := by
  unfold State.corePowered
  with_reducible repeat' first
    | assumption
    | apply grows_ite
    | refine Grows.keep (f := State.modPwr _) (fun _ => ⟨rfl, rfl⟩) ?_
    | refine Grows.keep (f := State.modStr _) (fun _ => ⟨rfl, rfl⟩) ?_
    | refine Grows.keep (f := State.powerEvent _) (fun _ => ⟨by simp, by simp⟩) ?_
    | refine Grows.keep (f := State.startTime _) (fun _ => ⟨by simp, by simp⟩) ?_
    | apply State.mapStep_grows
    | apply State.linksSync_grows

theorem State.advance_grows {s u : State} (k : Grows s u) (n : Nat) : Grows s (State.advance n u) := by
  induction n generalizing u with
  | zero =>
    unfold State.advance
    with_reducible repeat' first
      | assumption
  | succ n ih =>
    unfold State.advance
    with_reducible repeat' first
      | assumption
      | apply grows_ite
      | refine Grows.keep (f := State.modPwr _) (fun _ => ⟨rfl, rfl⟩) ?_
      | apply State.mediaBack_grows
      | apply State.corePowered_grows
      | refine Grows.keep (f := State.beginStep _) (fun _ => ⟨by simp, by simp⟩) ?_
      | refine ih ?_

theorem State.afterFlush_grows {s u : State} (k : Grows s u)  :
    Grows s (State.afterFlush u) := by
  unfold State.afterFlush
  with_reducible repeat' first
    | assumption
    | apply grows_ite
    | apply State.easyCheck_grows
    | refine Grows.keep (f := State.startDown _ _) (fun _ => ⟨by simp, by simp⟩) ?_
    | refine Grows.keep (f := State.measureSync) (fun _ => ⟨by simp, by simp⟩) ?_

theorem State.easyNext_grows {s u : State} (k : Grows s u)  :
    Grows s (State.easyNext u) := by
  unfold State.easyNext
  with_reducible repeat' first
    | assumption
    | apply grows_ite
    | apply State.afterFlush_grows

theorem State.pauseSync_grows {s u : State} (k : Grows s u)  :
    Grows s (State.pauseSync u) := by
  unfold State.pauseSync
  with_reducible repeat' first
    | assumption
    | apply grows_ite
    | refine Grows.keep (f := State.modPwr _) (fun _ => ⟨rfl, rfl⟩) ?_
    | apply State.advance_grows

theorem State.reachT4_grows {s u : State} (k : Grows s u)  :
    Grows s (State.reachT4 u) := by
  unfold State.reachT4
  with_reducible repeat' first
    | assumption
    | apply grows_ite
    | apply State.easyEnter_grows
    | refine Grows.keep (f := State.startDown _ _) (fun _ => ⟨by simp, by simp⟩) ?_
    | apply State.easyNext_grows
    | apply State.pauseSync_grows

theorem State.levelSync_grows {s u : State} (k : Grows s u) (a0) :
    Grows s (State.levelSync a0 u) := by
  unfold State.levelSync
  with_reducible repeat' first
    | assumption
    | apply grows_ite
    | refine Grows.keep (f := State.modThm _) (fun _ => ⟨rfl, rfl⟩) ?_
    | refine Grows.keep (f := State.headEvent _ _ _ _) (fun _ => ⟨by simp, by simp⟩) ?_
    | refine Grows.keep (f := State.boundSync) (fun _ => ⟨by simp, by simp⟩) ?_
    | refine Grows.keep (f := State.fireWhere _ _) (fun _ => ⟨by simp, by simp⟩) ?_
    | apply State.report_grows
    | refine Grows.keep (f := State.measureSync) (fun _ => ⟨by simp, by simp⟩) ?_
    | apply State.pauseSync_grows
    | apply State.reachT4_grows
    | refine Grows.keep (f := State.healthSync) (fun _ => ⟨by simp, by simp⟩) ?_
    | refine Grows.keep (f := State.grantIdle) (fun _ => ⟨by simp, by simp⟩) ?_

end Sys2Proof.Machine
end

section
/-! PROOFS. Thermal conversions, levels and limits, and the health figures (O35). -/
namespace Sys2Proof.Machine
/-- The highest level of the 44 inputs. -/
def State.topLevel (s : State) : Nat := ((List.range 44).map fun j => (s.input j).level).foldl max 0

theorem State.topLevel_congr {s t : State} (same : t.thm.inputs = s.thm.inputs) : t.topLevel = s.topLevel := by
  simp only [State.topLevel, State.input, same]

/-- The module's level takes its new value (R373). -/
def State.withTopLevel (s : State) : State := s.modThm fun t => { t with level := s.topLevel, counts := modNth t.counts 2 (· + 1) }

/-- What a change of the module's level from `old` to `new` brings about. -/
def State.levelTold (i old new : Nat) (s : State) : State :=
  let s := s.report (srcInput i) 0x70 (some (s16 (s.given i)))
  let s := s.headEvent allHeads 5 (srcInput i)
    (payload32 (be 1 new ++ be 1 old ++ be 2 s.hottest ++ s32 (s.given s.hottest)))
  let s := s.fireWhere (fun d => decide (d.trigger = 5 ∧ d.param ≤ new)) 0
  let s := s.boundSync.healthSync
  let s := if new = 4 then s.reachT4 else s.pauseSync
  if new < old then s.grantIdle.measureSync else s

theorem State.levelSync_eq (i : Nat) (s : State) :
    s.levelSync i = if s.topLevel = s.thm.level then s else s.withTopLevel.levelTold i s.thm.level s.topLevel := rfl

theorem State.levelTold_thm (i old new : Nat) (s : State) : (s.levelTold i old new).thm = s.thm := by
  unfold State.levelTold
  dsimp only
  split <;> split <;> simp

theorem State.levelSync_inputs (i : Nat) (s : State) : (s.levelSync i).thm.inputs = s.thm.inputs := by
  rw [State.levelSync_eq]
  split
  · rfl
  · rw [State.levelTold_thm, State.withTopLevel, State.modThm_thm]

theorem State.levelSync_level (i : Nat) (s : State) : (s.levelSync i).thm.level = s.topLevel := by
  rw [State.levelSync_eq]
  split
  case isTrue same => exact same.symm
  case isFalse => rw [State.levelTold_thm]; rfl

theorem State.levelSync_conversions (i : Nat) (s : State) : nth (s.levelSync i).thm.counts 0 = nth s.thm.counts 0 := by
  rw [State.levelSync_eq]
  split
  · rfl
  · rw [State.levelTold_thm]
    exact nth_modNth_ne _ (by decide) _

/-- A conversion is taken (R369): its counts and the input's readings. -/
def State.sampled (i : Nat) (r : Int) (broken : Bool) (s : State) : State :=
  (s.modThm fun t => { t with counts := modNth (modNth t.counts 0 (· + 1)) 1 (· + bit (s.input i).fast) }).modInput i
    fun x => x.take r (badConversion (s.input i) r broken)

/-- A first bad conversion is counted and reported (R374). -/
def State.sampleTold (i : Nat) (r : Int) (told : Prop) [Decidable told] (s : State) : State :=
  if told then (s.modThm fun t => { t with counts := modNth t.counts 3 (· + 1) }).report (srcInput i) 0x71 (some (s16 r)) else s

/-- The health figures follow where the input's fault bit moved. -/
def State.faultSynced (i : Nat) (was : Bool) (s : State) : State := if (s.input i).faulty = was then s else s.healthSync

theorem exec_thermalConversion {s : State} {i : Nat} (keel : s.keelOn = true) (input : i < 44) (r : Int) (broken : Bool) :
    exec (.thermalConversion i r broken) s = .next (((((s.sampled i r broken).sampleTold i r
      (badConversion (s.input i) r broken = true ∧ ¬ (s.input i).faulty = true)).judge i).faultSynced i (s.input i).faulty).levelSync i) := by
  have inRange : decide (44 ≤ i) = false := by simp; omega
  simp only [exec, execThermalConversion, keel, inRange, Bool.not_true, Bool.or_false]
  rfl

theorem State.input_congr_of {s t : State} (same : t.thm.inputs = s.thm.inputs) (i : Nat) : t.input i = s.input i := by
  simp only [State.input, same]

theorem State.sampled_input (i : Nat) (r : Int) (broken : Bool) (s : State) :
    (s.sampled i r broken).input i = (s.input i).take r (badConversion (s.input i) r broken) :=
  State.modInput_input i _ _

theorem State.sampled_conversions {i : Nat} {r : Int} {broken : Bool} {s : State} (four : s.thm.counts.length = 4) :
    nth (s.sampled i r broken).thm.counts 0 = nth s.thm.counts 0 + 1 := by
  simp only [State.sampled, State.modInput, State.modThm_thm]
  rw [nth_modNth_ne _ (by decide), nth_modNth_same (by omega)]

theorem State.sampleTold_inputs (i : Nat) (r : Int) (told : Prop) [Decidable told] (s : State) :
    (s.sampleTold i r told).thm.inputs = s.thm.inputs := by
  unfold State.sampleTold
  split <;> simp

theorem State.sampleTold_conversions (i : Nat) (r : Int) (told : Prop) [Decidable told] (s : State) :
    nth (s.sampleTold i r told).thm.counts 0 = nth s.thm.counts 0 := by
  unfold State.sampleTold
  split
  · simp [nth_modNth_ne]
  · rfl

theorem State.judge_reading (i : Nat) (s : State) : ((s.judge i).input i).reading = (s.input i).reading
    ∧ ((s.judge i).input i).seen = (s.input i).seen ∧ ((s.judge i).input i).faulty = (s.input i).faulty := by
  simp only [State.judge, State.modInput_input, and_self]

theorem State.judge_counts (i : Nat) (s : State) : (s.judge i).thm.counts = s.thm.counts := by simp

theorem State.faultSynced_thm (i : Nat) (was : Bool) (s : State) : (s.faultSynced i was).thm = s.thm := by
  unfold State.faultSynced
  split <;> simp

theorem SensorS.take_faulty (x : SensorS) (r : Int) (bad : Bool) :
    (x.take r bad).faulty = (bad || (x.faulty && decide (x.good + 1 < 100))) := by
  cases bad <;> simp [SensorS.take]

/-- A conversion gives its input the reading, and the module the highest level (R369–R374). -/
theorem does_thermalConversion {s : State} {i : Nat} {r : Int} {broken : Bool} (keel : s.keelOn = true) (input : i < 44)
    (four : s.thm.counts.length = 4) :
    Does (.thermalConversion i r broken) s (fun t => (t.input i).reading = r ∧ (t.input i).seen = true
      ∧ (t.input i).faulty = (badConversion (s.input i) r broken || ((s.input i).faulty && decide ((s.input i).good + 1 < 100)))
      ∧ t.thm.level = ((List.range 44).map fun j => (t.input j).level).foldl max 0 ∧ nth t.thm.counts 0 = nth s.thm.counts 0 + 1) := by
  refine does_of_next (exec_thermalConversion keel input r broken) ?_
  generalize htold : (s.sampled i r broken).sampleTold i r (badConversion (s.input i) r broken = true ∧ ¬ (s.input i).faulty = true) = told
  generalize hjudged : (told.judge i).faultSynced i (s.input i).faulty = judged
  have taken : told.input i = (s.input i).take r (badConversion (s.input i) r broken) := by
    rw [← htold, State.input_congr_of (State.sampleTold_inputs ..), State.sampled_input]
  have synced : judged.thm = (told.judge i).thm := by rw [← hjudged, State.faultSynced_thm]
  have kept (j : Nat) : (judged.levelSync i).input j = (told.judge i).input j :=
    State.input_congr_of ((State.levelSync_inputs i judged).trans (by rw [synced])) j
  have top : (judged.levelSync i).thm.level = (judged.levelSync i).topLevel := by
    rw [State.levelSync_level, State.topLevel_congr (State.levelSync_inputs i judged)]
  obtain ⟨reading, seen, faulty⟩ := State.judge_reading i told
  refine ⟨?_, ?_, ?_, top, ?_⟩
  · rw [kept, reading, taken]; rfl
  · rw [kept, seen, taken]; rfl
  · rw [kept, faulty, taken, SensorS.take_faulty]
  · rw [State.levelSync_conversions, synced, State.judge_counts, ← htold, State.sampleTold_conversions, State.sampled_conversions four]

theorem State.faultSynced_flt (i : Nat) (was : Bool) (s : State) : (s.faultSynced i was).flt = s.flt := by
  unfold State.faultSynced
  split <;> simp

/-- A first bad conversion is reported (R374). -/
theorem does_thermalConversion_bad {s : State} {i : Nat} {r : Int} {broken : Bool} (keel : s.keelOn = true) (input : i < 44)
    (bad : badConversion (s.input i) r broken = true) (sound : (s.input i).faulty = false) (room : s.flt.queue.length < 256) :
    Does (.thermalConversion i r broken) s fun t => queued s t (faultMsg (srcInput i) 0x71 (some (s16 r)) false) := by
  refine does_of_next (exec_thermalConversion keel input r broken) ?_
  generalize htold : (s.sampled i r broken).sampleTold i r (badConversion (s.input i) r broken = true ∧ ¬ (s.input i).faulty = true) = told
  generalize hjudged : (told.judge i).faultSynced i (s.input i).faulty = judged
  have reported : queued s told (faultMsg (srcInput i) 0x71 (some (s16 r)) false) := by
    rw [← htold, State.sampleTold, if_pos ⟨bad, by simp [sound]⟩]
    exact State.report_queued_of_below (s := (s.sampled i r broken).modThm _) keel (by decide) (srcInput i) (some (s16 r)) room
  have same : judged.flt = told.flt := by rw [← hjudged, State.faultSynced_flt]; simp
  have onward : told.flt.queue <+: (judged.levelSync i).flt.queue := by
    rw [← same]
    exact (State.levelSync_grows (Grows.refl judged) i).queue
  exact reported.trans onward

/-- A level falls by one and the module's level follows (R373). -/
theorem does_levelFall {s : State} {i : Nat} (keel : s.keelOn = true) (since : (s.input i).belowSince ≠ 0) (risen : 1 ≤ (s.input i).level) :
    Does (.levelFall i) s fun t => (t.input i).level = (s.input i).level - 1
      ∧ t.thm.level = ((List.range 44).map fun j => (t.input j).level).foldl max 0 := by
  refine does_of_next (if_pos ⟨keel, since, risen⟩) ?_
  generalize hfallen : s.modInput i _ = fallen
  have level : (fallen.input i).level = (s.input i).level - 1 := by rw [← hfallen, State.modInput_input]
  refine ⟨?_, ?_⟩
  · rw [State.input_congr_of (State.levelSync_inputs i fallen), level]
  · exact (State.levelSync_level i fallen).trans (State.topLevel_congr (State.levelSync_inputs i fallen)).symm
/-- A record's write, where the configuration takes it at once. -/
theorem State.putRecord_eq {s : State} (unlocked : s.configLocked = false) (idle : s.storeBusy = false) (req : Req) (idx mem : Nat)
    (value : List Byte) (apply : State → State) :
    s.putRecord req idx mem value apply
      = (0, 0, (apply (s.storeConfig.manage 1 req 0 idx mem 0 0 (value.take 64))).notifyObject idx mem) := by
  simp [State.putRecord, unlocked, idle, State.answer]

theorem does_limitsWrite {s : State} {kind hyst : Nat} {t1 t2 t3 t4 : Int} (cox : s.coxUp = true) (unlocked : s.configLocked = false)
    (idle : s.storeBusy = false) (known : kind ≤ 4) (ok : limitsOk kind [t1, t2, t3, t4] hyst = true) :
    Does (.limitsWrite kind t1 t2 t3 t4 hyst) s fun t =>
      t.thm = { s.thm with limits := s.thm.limits.set kind [t1, t2, t3, t4, (hyst : Int)] } ∧ accepted byOperator 0x5110 kind t := by
  refine does_of_next (accessed_of_up cox _) ?_
  have op : s.limitsOp byOperator kind [t1, t2, t3, t4] hyst = _ :=
    (if_neg (by omega)).trans ((if_neg (by simp [ok])).trans (State.putRecord_eq unlocked idle ..))
  rw [op, respondAccess_done]
  refine ⟨?_, accepted_emit ..⟩
  simp [State.setLimits]

theorem exec_limitsWrite_refused {s : State} {kind hyst : Nat} {t1 t2 t3 t4 : Int} (cox : s.coxUp = true) (known : kind ≤ 4)
    (bad : limitsOk kind [t1, t2, t3, t4] hyst = false) :
    exec (.limitsWrite kind t1 t2 t3 t4 hyst) s = .next (s.emit (.access byOperator 0x5110 kind 0x06 0)) := by
  have op : s.limitsOp byOperator kind [t1, t2, t3, t4] hyst = (0x06, 0, s) := (if_neg (by omega)).trans (if_pos (by simp [bad]))
  exact (accessed_of_up cox _).trans (congrArg Host.Outcome.next ((congrArg _ op).trans (respondAccess_eq s byOperator 0x5110 kind 0x06 0 (by decide))))

/-- The hour's highest peak joins those kept (R379). -/
def State.peakKept (s : State) : State :=
  s.modHlt fun h =>
    let l := h.peaks ++ [s.topPeak]
    let l := l.drop (l.length - 721)
    { h with peaks := l, mediaHours := mediaLife l }

theorem exec_healthRecompute {s : State} (cox : s.coxUp = true) :
    exec .healthRecompute s = .next s.peakKept.refit.predict.healthSync := if_pos cox

theorem State.predict_at (s : State) : s.predict.hlt.predictedAt = s.tim.opTime := rfl

theorem State.healthSync_state (s : State) : s.healthSync.hlt.state = s.healthSync.hlt.indicators.foldl max 0 := by
  have kept (l : List Nat) (u : State) : (forEach l (fun k => State.headEvent allHeads 8 0x3FF (healthPayload k)) u).hlt = u.hlt :=
    forEach_keeps (P := fun v => v.hlt = u.hlt) l (fun k v same => by simp [same]) rfl
  simp only [State.healthSync, kept]
  simp

theorem State.healthSync_kept (s : State) : s.healthSync.hlt.peaks = s.hlt.peaks ∧ s.healthSync.hlt.predictedAt = s.hlt.predictedAt := by
  simp

theorem does_healthRecompute {s : State} (cox : s.coxUp = true) :
    Does .healthRecompute s fun t => t.hlt.peaks = (s.hlt.peaks ++ [s.topPeak]).drop (s.hlt.peaks.length + 1 - 721)
      ∧ t.hlt.predictedAt = s.tim.opTime ∧ t.hlt.state = t.hlt.indicators.foldl max 0 := by
  refine does_of_next (exec_healthRecompute cox) ?_
  obtain ⟨peaks, predicted⟩ := State.healthSync_kept s.peakKept.refit.predict
  refine ⟨?_, ?_, State.healthSync_state _⟩
  · rw [peaks]
    have kept : s.peakKept.refit.predict.hlt.peaks = s.peakKept.hlt.peaks := by simp
    rw [kept]
    simp [State.peakKept]
  · rw [predicted, State.predict_at]; simp [State.peakKept]

end Sys2Proof.Machine
open Sys2Proof Sys2Proof.Machine
/-- Settles O35, by what levelSync keeps of the inputs and of the counts: the readings stand before it, and it alone sets the level. -/
theorem thermal : Obligations.Thermal := by
  unfold Obligations.Thermal
  intro s i
  refine ⟨fun r broken keel input four => ⟨does_thermalConversion keel input four, does_thermalConversion_bad keel input⟩,
    does_levelFall, fun kind t1 t2 t3 t4 hyst cox unlocked idle known => ⟨does_limitsWrite cox unlocked idle known,
      exec_limitsWrite_refused cox known⟩, does_healthRecompute⟩
end

section
/-! PROOFS. The commands on a channel's bus (O36). -/
namespace Sys2Proof.Machine

theorem State.sensed_out (ch die g l : Nat) (sq : SenseStatus) (s : State) :
    (s.sensed ch die g l sq).out = s.out ++ [.sensedLine ch die g l (granLine (s.granule (granAddr ch die g)) l)
      (lineEcc (granLine (s.granule (granAddr ch die g)) l)) sq] := by
  simp [State.sensed]

theorem State.sensed_plane (ch die g l : Nat) (sq : SenseStatus) (s : State) (k : Nat) : (s.sensed ch die g l sq).plane k = s.plane k := by
  simp [State.sensed]

theorem State.granule_congr' {s t : State} (same : t.med.granules = s.med.granules) (a : Nat) : t.granule a = s.granule a := by
  simp only [State.granule, same]

theorem State.busCount_plane (ch k lines : Nat) (s : State) (n : Nat) : (s.busCount ch k lines).plane n = s.plane n := by simp [State.busCount]

theorem does_sense {s : State} {ch die g l slot : Nat} {sq : SenseStatus} (bus : s.busOk ch die = true) (slots : slot < 16)
    (sensing : (s.plane (planeOf (granAddr ch die g))).senses? = true) :
    Does (.sense ch die g l slot sq) s fun t =>
      t.out = s.out ++ [.sensedLine ch die g l (granLine (s.granule (granAddr ch die g)) l) (lineEcc (granLine (s.granule (granAddr ch die g)) l)) sq]
      ∧ (slot < (s.plane (planeOf (granAddr ch die g))).slots → t.plane (planeOf (granAddr ch die g)) = s.plane (planeOf (granAddr ch die g))) := by
  refine does_of_next (if_pos (by simp [bus, sensing, slots])) ?_
  refine ⟨?_, fun held => ?_⟩
  · rw [State.sensed_out, State.granule_congr' (s := s) (by simp)]
    simp
  · rw [State.sensed_plane, State.modPlane_plane, State.busCount_plane, if_pos (Or.inl held)]

theorem State.engineSlot_iff {s : State} {k : Nat} : s.engineSlot k = true ↔ (s.plane k).senses? = true ∧ (s.plane k).jobs = []
    ∧ (if s.cfg 0x3000 7 = 0 then (s.plane k).slots = 0 else (s.plane k).engineSenses < s.cfg 0x3000 7 ∧ (s.plane k).slots < 16) := by
  simp only [State.engineSlot]
  split <;> simp [and_assoc]

theorem does_esense {s : State} {ch die g l : Nat} {sq : SenseStatus} (bus : s.busOk ch die = true)
    (free : s.engineSlot (planeOf (granAddr ch die g)) = true) :
    Does (.esense ch die g l sq) s fun t =>
      t.out = s.out ++ [.sensedLine ch die g l (granLine (s.granule (granAddr ch die g)) l) (lineEcc (granLine (s.granule (granAddr ch die g)) l)) sq]
      ∧ t.plane (planeOf (granAddr ch die g)) = { s.plane (planeOf (granAddr ch die g)) with
          state := .sensing, engineSenses := (s.plane (planeOf (granAddr ch die g))).engineSenses + 1 } := by
  refine does_of_next (if_pos (by simp [bus, free])) ⟨?_, ?_⟩
  · rw [State.sensed_out, State.granule_congr' (s := s) (by simp)]
    simp
  · rw [State.sensed_plane, State.takeEngineSlot, State.modPlane_plane, State.busCount_plane]

theorem does_hsense {s : State} {ch die g : Nat} (bus : s.busOk ch die = true)
    (free : s.engineSlot (planeOf (granAddr ch die g)) = true) :
    Does (.hsense ch die g) s fun t =>
      t.out = s.out ++ [.sensedHeader ch die g
        (if (s.granule (granAddr ch die g)).blank then none else some (headerWord (s.granule (granAddr ch die g)).hdr))]
      ∧ t.plane (planeOf (granAddr ch die g)) = { s.plane (planeOf (granAddr ch die g)) with
          state := .sensing, engineSenses := (s.plane (planeOf (granAddr ch die g))).engineSenses + 1 } := by
  refine does_of_next (if_pos (by simp [bus, free])) ⟨?_, ?_⟩
  · simp
  · simp [State.takeEngineSlot, State.busCount]

theorem does_load {s : State} {ch die plane : Nat} {image : Granule} (bus : s.busOk ch die = true) :
    Does (.load ch die plane image) s fun t =>
      t.plane (planeKey ch die plane) = { s.plane (planeKey ch die plane) with buffer := image } ∧ t.med.granules = s.med.granules := by
  refine does_of_next (if_pos bus) ⟨?_, by simp⟩
  simp

theorem exec_status_next {s : State} {ch die : Nat} (bus : s.busOk ch die = true) :
    exec (.status ch die) s = .next (s.emit (.channelResult ch die ((List.range 4).map fun p => (s.plane (planeKey ch die p)).result))) :=
  if_pos bus

theorem State.abortPlane_plane {s : State} {k : Nat} (granted : (s.plane k).state = .granted) :
    (s.abortPlane k).plane k = { s.plane k with state := .aborting, abortRepeated := false } := by
  rw [State.abortPlane, State.modPlane_plane, if_pos granted]

theorem does_abort {s : State} {ch die plane : Nat} (bus : s.busOk ch die = true) (granted : (s.plane (planeKey ch die plane)).state = .granted) :
    Does (.abort ch die plane) s fun t =>
      t.plane (planeKey ch die plane) = { s.plane (planeKey ch die plane) with state := .aborting, abortRepeated := false } :=
  does_of_next (if_pos bus) (State.abortPlane_plane granted)

theorem State.modMed_plane {f : MediaS → MediaS} (same : ∀ m, (f m).planes = m.planes) (s : State) (k : Nat) :
    (s.modMed f).plane k = s.plane k := by
  simp only [State.plane, State.modMed_med, same]

theorem State.modChannel_plane (c : Nat) (f : ChannelS → ChannelS) (s : State) (k : Nat) : (s.modChannel c f).plane k = s.plane k := rfl

theorem does_check {s : State} {ch die plane : Nat} (granted : (s.plane (planeKey ch die plane)).state = .granted)
    (reads : (s.plane (planeKey ch die plane)).waiting ≠ []) :
    Does (.check ch die plane) s fun t =>
      t.plane (planeKey ch die plane) = { s.plane (planeKey ch die plane) with
        state := .aborting, abortRepeated := false, checks := (s.plane (planeKey ch die plane)).checks + 1 }
      ∧ (t.channel ch).checks = (s.channel ch).checks + 1 ∧ t.med.checks = s.med.checks + 1 := by
  refine does_of_next (if_pos (by simp [granted, reads])) ⟨?_, ?_, ?_⟩
  · refine (State.modMed_plane (by intro _; rfl) _ _).trans ?_
    rw [State.modChannel_plane, State.modPlane_plane, State.abortPlane_plane granted]
  · have counted (u : State) : ((u.modChannel ch fun c => { c with checks := c.checks + 1 }).channel ch).checks = (u.channel ch).checks + 1 := by
      rw [State.modChannel_channel]
    exact (counted _).trans (by simp)
  · simp

theorem does_trim {s : State} {ch die reg : Nat} (answers : s.trimOk ch die = true) :
    Does (.trim ch die reg) s fun t => t.out = s.out ++ [.channelResult ch die [reg, Config.freeNat s.free]] ∧ t.free = s.free + 1 := by
  refine does_of_next (if_pos answers) ?_
  simp [State.draw]

theorem State.modPlane_of {s : State} {k : Nat} {p : PlaneS} (before : s.plane k = p) (f : PlaneS → PlaneS) : (s.modPlane k f).plane k = f p := by
  rw [State.modPlane_plane, before]

theorem State.unreserve_plane {s : State} {k : Nat} {j : Job} (op : (s.plane k).op = some j) :
    (s.unreserve k).plane k = { s.plane k with room := false } := by
  rw [State.unreserve]
  split
  · split
    · exact State.modPlane_of rfl _
    case isFalse shut => rw [← Bool.eq_false_iff.mpr shut]
  case h_2 none => rw [op] at none; cases none

theorem does_prog {s : State} {ch die g : Nat} {j : Job} (bus : s.busOk ch die = true)
    (op : (s.plane (planeOf (granAddr ch die g))).op = some j) (granted : (s.plane (planeOf (granAddr ch die g))).state = .granted)
    (program : j.clear = false) (target : j.target = granAddr ch die g) (idle : (s.plane (planeOf (granAddr ch die g))).result ≠ 3)
    (loaded : (s.plane (planeOf (granAddr ch die g))).buffer = j.image)
    (room : (s.plane (planeOf (granAddr ch die g))).room = true ∨ s.hasRoom j = true)
    (still : Tab.rd 0 s.med.clearing (sectorOf (granAddr ch die g)) = 0) :
    Does (.prog ch die g) s fun t =>
      t.plane (planeOf (granAddr ch die g)) = { s.plane (planeOf (granAddr ch die g)) with result := 3, room := false }
        ∧ t.med.governor = s.med.governor + 1 ∧ t.med.granules = s.med.granules := by
  have next : exec (.prog ch die g) s = .next ((((s.busCount ch 3 0).unreserve (planeOf (granAddr ch die g))).modMed
      fun m => { m with governor := m.governor + 1 }).modPlane (planeOf (granAddr ch die g)) fun p => { p with result := 3 }) := by
    simp only [exec, execProg, op]
    exact if_pos (by simpa [bus, granted, program, target, idle, loaded, still] using room)
  refine does_of_next next ⟨?_, ?_, ?_⟩
  · refine State.modPlane_of (p := { s.plane (planeOf (granAddr ch die g)) with room := false })
      ((State.modMed_plane (by intro _; rfl) _ _).trans ?_) _
    rw [State.unreserve_plane (j := j) (by rw [State.busCount_plane, op]), State.busCount_plane]
  · simp
  · simp

theorem State.wear_epoch (a : Nat) (s : State) : (s.wear a).trc.epoch = Tab.mod 0 s.trc.epoch a (· + 1) := by
  rw [State.wear, State.modTrc_trc]

theorem State.wear_epoch_same (a : Nat) (s : State) : Tab.rd 0 (s.wear a).trc.epoch a = Tab.rd 0 s.trc.epoch a + 1 := by
  rw [State.wear_epoch, Tab.rd_mod_same]

theorem State.wear_epoch_ne {a b : Nat} (other : b ≠ a) {s : State} (wf : Tab.wf (fun _ => 0) s.trc.epoch = true) :
    Tab.rd 0 (s.wear a).trc.epoch b = Tab.rd 0 s.trc.epoch b := by
  rw [State.wear_epoch, Tab.rd_mod_ne _ _ _ other wf]
theorem State.wear_epoch_wf (a : Nat) {s : State} (wf : Tab.wf (fun _ => 0) s.trc.epoch = true) :
    Tab.wf (fun _ => 0) (s.wear a).trc.epoch = true := by
  rw [State.wear_epoch]
  exact Tab.mod_wf _ _ _ _ wf

/-- Wearing a run of granules leaves the epoch of a granule below the run. -/
theorem State.wears_epoch_below (n a b : Nat) (below : b < a) {s : State} (wf : Tab.wf (fun _ => 0) s.trc.epoch = true) :
    Tab.rd 0 (forEach (range' a n) State.wear s).trc.epoch b = Tab.rd 0 s.trc.epoch b := by
  induction n generalizing a s with
  | zero => rfl
  | succ n ih => exact (ih (a + 1) (by omega) (State.wear_epoch_wf a wf)).trans (State.wear_epoch_ne (by omega) wf)

theorem State.wears_epoch (n a i : Nat) (listed : i < n) {s : State} (wf : Tab.wf (fun _ => 0) s.trc.epoch = true) :
    Tab.rd 0 (forEach (range' a n) State.wear s).trc.epoch (a + i) = Tab.rd 0 s.trc.epoch (a + i) + 1 := by
  induction n generalizing a i s with
  | zero => omega
  | succ n ih =>
    have worn := State.wear_epoch_wf a wf
    cases i with
    | zero => exact (State.wears_epoch_below n (a + 1) a (by omega) worn).trans (State.wear_epoch_same a s)
    | succ i =>
      have rest := ih (a + 1) i (by omega) worn
      rw [show a + 1 + i = a + (i + 1) by omega, State.wear_epoch_ne (by omega) wf] at rest
      exact rest

/-- Wearing changes only the epochs. -/
theorem State.wears_med (a n : Nat) (s : State) : (forEach (range' a n) State.wear s).med = s.med :=
  forEach_keeps (P := fun v => v.med = s.med) _ (fun _ _ same => by simpa using same) rfl

theorem does_clrseg {s : State} {ch die sector segment a : Nat} {j : Job} (canonical : s.canonical = true) (bus : s.busOk ch die = true)
    (address : a = granAddr ch die (sector * 256 + segment * 16)) (op : (s.plane (planeOf a)).op = some j)
    (granted : (s.plane (planeOf a)).state = .granted) (clears : j.clear = true) (target : j.target = a)
    (idle : (s.plane (planeOf a)).result ≠ 3) (room : (s.plane (planeOf a)).room = true ∨ s.hasRoom j = true) :
    Does (.clrseg ch die sector segment) s fun t =>
      t.plane (planeOf a) = { s.plane (planeOf a) with result := 3, room := false }
        ∧ t.med.governor = s.med.governor + 2 ∧ t.med.granules = s.med.granules
        ∧ ∀ i, i < 16 → Tab.rd 0 t.trc.epoch (a + i) = Tab.rd 0 s.trc.epoch (a + i) + 1 := by
  subst address
  generalize ha : granAddr ch die (sector * 256 + segment * 16) = a at *
  have next : exec (.clrseg ch die sector segment) s = .next ((forEach (range' a 16) State.wear
      (((s.busCount ch 4 0).unreserve (planeOf a)).modMed fun m => { m with governor := m.governor + 2 })).modPlane
        (planeOf a) fun p => { p with result := 3 }) := by
    simp only [exec, execClrseg, ha, op]
    exact if_pos (by simpa [bus, granted, clears, target, idle] using room)
  generalize hready : ((s.busCount ch 4 0).unreserve (planeOf a)).modMed _ = ready at next
  have plane : ready.plane (planeOf a) = { s.plane (planeOf a) with room := false } := by
    rw [← hready]
    refine (State.modMed_plane (by intro _; rfl) _ _).trans ?_
    rw [State.unreserve_plane (j := j) (by rw [State.busCount_plane, op]), State.busCount_plane]
  have governor : ready.med.governor = s.med.governor + 2 := by rw [← hready]; simp
  have granules : ready.med.granules = s.med.granules := by rw [← hready]; simp
  have epoch : ready.trc.epoch = s.trc.epoch := by rw [← hready]; simp
  have worn : (forEach (range' a 16) State.wear ready).med = ready.med := State.wears_med a 16 ready
  refine does_of_next next ⟨?_, ?_, ?_, fun i listed => ?_⟩
  · exact State.modPlane_of (p := { s.plane (planeOf a) with room := false }) (by rw [State.plane, worn]; exact plane) _
  · simp [State.modPlane, worn, governor]
  · simp [State.modPlane, worn, granules]
  · have counted := State.wears_epoch 16 a i listed (epoch ▸ State.trc_epoch_wf canonical)
    rw [epoch] at counted
    simpa using counted

theorem State.trimOk_of {s : State} {ch die : Nat} (answers : ((s.channel ch).state = 1 ∧ s.dieOut (ch * 16 + die) = false)
    ∨ (s.unit (ch * 16 + die)).state = .probing) : s.trimOk ch die = true := by
  rcases answers with ⟨training, here⟩ | probing
  · simp [State.trimOk, training, here]
  · simp [State.trimOk, probing]
end Sys2Proof.Machine
open Sys2Proof Sys2Proof.Machine
/-- Settles O36, command by command: each leaves what the statement names of its plane, and a clear wears the segment's sixteen granules once. -/
theorem channelBus : Obligations.ChannelBus := by
  unfold Obligations.ChannelBus
  intro s ch die canonical
  refine ⟨fun bus => ⟨fun g l slot sq => does_sense bus, ?engine, fun plane image => does_load bus, exec_status_next bus, ?abort, ?prog, ?clrseg⟩,
    fun reg answers => does_trim (State.trimOk_of answers), ?check⟩
  case engine =>
    rintro g p rfl sensing jobs free
    have slot := State.engineSlot_iff.mpr ⟨sensing, jobs, free⟩
    exact ⟨fun l sq => does_esense bus slot, does_hsense bus slot⟩
  case abort => rintro plane p rfl granted; exact does_abort bus granted
  case prog =>
    rintro g a j p rfl rfl op granted program target idle loaded room still
    exact does_prog bus op granted program target idle loaded room still
  case clrseg =>
    rintro sector segment a j p address rfl op granted clears target idle room
    exact does_clrseg canonical bus address op granted clears target idle room
  case check => rintro plane p rfl granted reads; exact does_check granted reads
end

section
/-! PROOFS. A channel that ends its training while the maps have still to be loaded (07 R173, 18 R413): with it every channel is ready, the maps are
loaded, and the tracts given up before are freed, which takes their entries off the channel's bad-granule list. The statement says nothing of the
start's phase. -/

namespace Sys2Proof.Machine

open Sys2Proof.Tests

/-- Channel 0 trains, the last of the 36, in a start that waits for it to load the maps; its bad list holds a granule of physical tract 0, which
has been given up. -/
def channelAwaited : State :=
  { serving with
    stg := { srams := (List.range 16).map fun n => (n, { ready := true }) }
    str := { phase := .mapLoad, powered := true }
    trc := { dirtyPts := [(0, false)] }
    med := { channels := (List.range 36).map fun c => (c, if c = 0 then { state := 1, bad := [0] } else { state := 2 }) } }

theorem exec_channelTrainingDone_training {s : State} {ch : Nat} (training : (s.channel ch).state = 1) :
    exec (.channelTrainingDone ch) s = .next (s.modChannel ch fun c => { c with state := 2 }).mapStep :=
  if_pos training

theorem channelAwaited_bad : (((channelAwaited.modChannel 0 fun c => { c with state := 2 }).mapStep).channel 0).bad = [] := by
  decide +kernel

end Sys2Proof.Machine

open Sys2Proof Sys2Proof.Machine

/-- Refutes O37: the end of channel 0's training loads the maps, and channel 0 loses the bad granule that it had listed. -/
theorem not_planeEnds : ¬ Obligations.PlaneEnds := by
  intro holds
  obtain ⟨-, -, -, -, -, -, -, trained⟩ := holds channelAwaited 0 0 0 _ _ (by decide +kernel) rfl rfl
  obtain ⟨t, next, -, channel⟩ := trained (by decide +kernel)
  rw [exec_channelTrainingDone_training (by decide +kernel)] at next
  obtain rfl := Host.Outcome.next.inj next
  have bad := congrArg ChannelS.bad channel
  rw [channelAwaited_bad] at bad
  exact absurd bad (by decide +kernel)

end

section
/-! PROOFS. Drain units: their selection, their start and their end (O38). -/
namespace Sys2Proof.Machine

/-! ## The entries of a row -/

theorem State.ageEntry_lineEnts {s : State} {key : Nat} {e : Entry} (opened : (s.lineEnts key).opened = some e) :
    (s.ageEntry key).lineEnts key = { s.lineEnts key with opened := some { e with aged := true } } := by
  rw [State.ageEntry, State.lineEnts, State.modWb_wb, Tab.rd_mod_same, ← State.lineEnts, opened, Option.map_some]

theorem does_coalescingDelayExpiry {s : State} {key : Nat} {e : Entry} (opened : (s.lineEnts key).opened = some e)
    (line : isNodeKey key = false) : Does (.coalescingDelayExpiry key) s fun t =>
      t.lineEnts key = { s.lineEnts key with opened := some { e with aged := true } } := by
  have next : exec (.coalescingDelayExpiry key) s = .next (s.ageEntry key) := by simp [exec, execCoalescingDelayExpiry, line]
  exact does_of_next next (State.ageEntry_lineEnts opened)

theorem does_nodeHoldExpiry {s : State} {key : Nat} {e : Entry} (opened : (s.lineEnts key).opened = some e)
    (node : isNodeKey key = true) : Does (.nodeHoldExpiry key) s fun t =>
      t.lineEnts key = { s.lineEnts key with opened := some { e with aged := true } } := by
  have next : exec (.nodeHoldExpiry key) s = .next (s.ageEntry key) := by simp [exec, execNodeHoldExpiry, node]
  exact does_of_next next (State.ageEntry_lineEnts opened)

/-- Pairing some elements of a list with their keys keeps the order of the keys. -/
theorem map_fst_filterMap_sublist {α β : Type} (g : α → Option β) (l : List (Nat × α)) :
    ((l.filterMap fun e => (g e.2).map fun x => (e.1, x)).map Prod.fst).Sublist (l.map Prod.fst) := by
  induction l with
  | nil => exact List.Sublist.slnil
  | cons e l ih =>
    cases found : g e.2 with
    | none => simpa [List.filterMap_cons, found] using ih.cons e.1
    | some x => simpa [List.filterMap_cons, found] using ih.cons_cons e.1

theorem State.rowEntries_nodup {s : State} (canonical : s.canonical = true) (tract row : Nat) :
    ((s.rowEntries tract row).map Prod.fst).Nodup :=
  ((map_fst_filterMap_sublist (fun l : LineEnts => l.opened) _).trans (List.filter_sublist.map _)).nodup
    (Tab.nodup_keys _ _ (State.wb_ents_wf canonical))

/-! ## A unit begins -/

theorem nextUnit_step {f : State → State} (kept : ∀ v, (f v).wb.nextUnit = v.wb.nextUnit) {s : State} {n : Nat} (before : s.wb.nextUnit = n) :
    (f s).wb.nextUnit = n :=
  (kept s).trans before

theorem nextUnit_ite {n : Nat} {c : Prop} {d : Decidable c} {a b : State} (yes : a.wb.nextUnit = n) (no : b.wb.nextUnit = n) :
    (if c then a else b).wb.nextUnit = n := by
  split <;> assumption

theorem nextUnit_forEach {α : Type} {l : List α} {f : α → State → State} (kept : ∀ a v, (f a v).wb.nextUnit = v.wb.nextUnit) {s : State} {n : Nat}
    (before : s.wb.nextUnit = n) : (forEach l f s).wb.nextUnit = n :=
  (forEach_same (fun v => v.wb.nextUnit) l kept s).trans before

/-- The unit with number `n` has begun on a row, with the entries `es`. -/
def Begun (tract row : Nat) (es : List (Nat × Entry)) (n : Nat) (t : State) : Prop :=
  (∃ u ∈ t.wb.units, u.id = n ∧ u.tract = tract ∧ u.row = row ∧ u.keys = es.map Prod.fst ∧ u.started = false)
    ∧ t.wb.nextUnit = n + 1 ∧ ∀ x ∈ es, t.lineEnts x.1 = { opened := none, drain := some { x.2 with state := .draining } }

/-- What is left of a line whose open entry has been taken. -/
def takenEnts (e : Entry) : LineEnts := { opened := none, drain := some { e with state := .draining } }

/-- The entries taken go to the draining side of their lines. -/
def drainedEnts (es : List (Nat × Entry)) (t : Tab LineEnts) : Tab LineEnts :=
  es.foldl (fun acc e => Tab.set {} acc e.1 (takenEnts e.2)) t

theorem drainedEnts_rd_ne {es : List (Nat × Entry)} {k : Nat} (other : k ∉ es.map Prod.fst) (t : Tab LineEnts) :
    Tab.rd {} (drainedEnts es t) k = Tab.rd {} t k := by
  induction es generalizing t with
  | nil => rfl
  | cons e es ih =>
    obtain ⟨here, later⟩ : k ≠ e.1 ∧ k ∉ es.map Prod.fst := by simpa using other
    have stored : Tab.set {} t e.1 (takenEnts e.2) = Tab.insert t e.1 (takenEnts e.2) := Tab.set_of_ne (by simp [takenEnts]) t e.1
    exact (ih later _).trans ((congrArg (Tab.rd {} · k) stored).trans (Tab.get_insert_ne _ _ _ here))

theorem drainedEnts_rd {es : List (Nat × Entry)} (nodup : (es.map Prod.fst).Nodup) {x : Nat × Entry} (listed : x ∈ es) (t : Tab LineEnts) :
    Tab.rd {} (drainedEnts es t) x.1 = takenEnts x.2 := by
  induction es generalizing t with
  | nil => cases listed
  | cons e es ih =>
    obtain ⟨fresh, rest⟩ := List.nodup_cons.mp nodup
    rcases List.mem_cons.mp listed with rfl | listed
    · exact (drainedEnts_rd_ne fresh _).trans (Tab.rd_set_same ..)
    · exact ih rest listed _

theorem State.startUnit_begun {s : State} {t row n : Nat} {es : List (Nat × Entry)} (nodup : (es.map Prod.fst).Nodup) (next : s.wb.nextUnit = n)
    {images : List (Nat × Granule)} {m : DrainMethod} {nodes : List Nat} {mode : Mode} :
    Begun t row es n (s.startUnit t row es images m nodes mode) := by
  refine ⟨⟨{ id := s.wb.nextUnit, pair := pairOfTract t, tract := t, row := row, method := m, keys := es.map Prod.fst
             images := images, left := images.map Prod.fst, nodes := nodes, mode := mode }, ?_, next, rfl, rfl, rfl, rfl⟩, ?_, fun x listed => ?_⟩
  · simp [State.startUnit, State.pairCount]
  · simp [State.startUnit, State.pairCount, next]
  · have ents : (s.startUnit t row es images m nodes mode).wb.ents = drainedEnts es s.wb.ents := by
      simp [State.startUnit, State.pairCount, drainedEnts, takenEnts]
    rw [State.lineEnts, ents]
    exact drainedEnts_rd nodup listed _

theorem State.stored_nextUnit (t i0 : Nat) (b : CounterBlock) (s : State) : ((s.setBlock i0 b).nodeEntries t i0).wb.nextUnit = s.wb.nextUnit := by
  simp

theorem State.drainData_begun {s : State} {t row : Nat} {es : List (Nat × Entry)} (nodup : (es.map Prod.fst).Nodup) (fs : List Finding) :
    Begun t row es s.wb.nextUnit (s.drainData t row es fs) := by
  unfold State.drainData
  extract_lets zeroed mode pt i0 keyed b wraps changed major minorOf rows cur at' count method full images failed b' told alarmed worn stored
  have zeroedNext : zeroed.wb.nextUnit = s.wb.nextUnit := nextUnit_ite (nextUnit_step (f := State.putEntry t _) (by simp) rfl) rfl
  have keyedNext : keyed.wb.nextUnit = s.wb.nextUnit := nextUnit_step (f := State.takeKey i0) (by simp) zeroedNext
  have found (a k : Nat) (v : State) : (((v.reportFound pt row fs).lostEntries es).countSenses a k).wb.nextUnit = v.wb.nextUnit := by simp
  have toldNext : told.wb.nextUnit = s.wb.nextUnit := (found _ _ keyed).trans keyedNext
  have alarmedNext : alarmed.wb.nextUnit = s.wb.nextUnit := nextUnit_forEach (fun _ _ => by simp) toldNext
  have wornNext : worn.wb.nextUnit = s.wb.nextUnit :=
    nextUnit_ite (nextUnit_step (f := State.usedMajor _) (by simp) (nextUnit_step (f := State.modItg _) (by simp) alarmedNext)) alarmedNext
  have storedNext : stored.wb.nextUnit = s.wb.nextUnit := (State.stored_nextUnit _ _ _ worn).trans wornNext
  have begun : Begun t row es s.wb.nextUnit (stored.startUnit t row es images method (nodeKeysOf pt i0) mode) :=
    State.startUnit_begun nodup storedNext
  exact begun

theorem State.halfLost_nextUnit (key : Nat) (e : Entry) (s : State) : (s.halfLost key e).wb.nextUnit = s.wb.nextUnit := by simp

theorem State.halvesLost_nextUnit (l : List (Nat × Entry)) (s : State) :
    (forEach l (fun e => State.halfLost e.1 e.2) s).wb.nextUnit = s.wb.nextUnit := by
  induction l generalizing s with
  | nil => rfl
  | cons e l ih => rw [forEach, ih, State.halfLost_nextUnit]

theorem State.drainNodes_begun {s : State} {t row : Nat} {es : List (Nat × Entry)} (nodup : (es.map Prod.fst).Nodup) (fs : List Finding) :
    Begun t row es s.wb.nextUnit (s.drainNodes t row es fs) := by
  unfold State.drainNodes
  extract_lets pt changed method full images half told
  have found : ((s.reportFound pt row fs).lostEntries es).wb.nextUnit = s.wb.nextUnit := by simp
  have toldNext : told.wb.nextUnit = s.wb.nextUnit := (State.halvesLost_nextUnit half _).trans found
  have begun : Begun t row es s.wb.nextUnit (told.startUnit t row es images method [] told.modeNow) := State.startUnit_begun nodup toldNext
  exact begun

/-! ## The selection -/

theorem exec_drainUnitSelect {s : State} {tract row : Nat} {fs : List Finding} {tree : TreeFind} (named : tractNamed tract = true)
    (free : s.rowBusy tract row = false) (settled : s.running tract = none) (runs : s.drainRuns tract = true)
    (flush : s.wb.flushing = true → s.flushDrains = true) (next : s.rowNext (pairOfTract tract) tract row = true)
    (wraps : s.rowWraps tract (s.rowEntries tract row) = true → s.rowBusy tract (row / 2 * 2 + (1 - row % 2)) = false) :
    exec (.drainUnitSelect (pairOfTract tract) tract row fs tree) s = .next (if tract < logicalTracts then
      s.pathChecked tree tract (tract * 2 ^ 20 + row * 2048) (State.drainData tract row (s.rowEntries tract row) fs)
      else s.drainNodes tract row (s.rowEntries tract row) fs) := by
  have passes : ¬ (pairOfTract tract ≠ pairOfTract tract ∨ (!tractNamed tract) = true ∨ s.rowBusy tract row = true
      ∨ (!s.drainRuns tract) = true ∨ (s.wb.flushing = true ∧ (!s.flushDrains) = true)) := by
    simp [named, free, runs]
    exact flush
  have fits : ¬ ((!s.rowNext (pairOfTract tract) tract row) = true
      ∨ (s.rowWraps tract (s.rowEntries tract row) = true ∧ s.rowBusy tract (row / 2 * 2 + (1 - row % 2)) = true)) := by
    simp [next]
    exact wraps
  simp only [exec, execDrainUnitSelect, if_neg passes, settled, if_neg fits]
  split <;> rfl

theorem State.loseTracts_single (t : Nat) (mode : Mode) (dpa : Nat) (s : State) :
    ((s.loseTracts [t] mode dpa).entry t).state = .integrityLost ∧ (s.loseTracts [t] mode dpa).wb.units = s.wb.units
      ∧ (s.loseTracts [t] mode dpa).wb.ents = s.wb.ents := by
  refine ⟨?_, by simp, by simp⟩
  have lost (v : State) : ((v.putEntry t fun e => { e with state := .integrityLost }).entry t).state = .integrityLost := by
    rw [State.putEntry]
    have kept (w : State) : (w.checkpoint t).entry t = w.entry t := by simp
    rw [kept, State.modEntry_entry]
  exact lost _

theorem does_drainUnitSelect_lost {s : State} {tract row : Nat} {fs : List Finding} (named : tractNamed tract = true)
    (free : s.rowBusy tract row = false) (settled : s.running tract = none) (runs : s.drainRuns tract = true)
    (flush : s.wb.flushing = true → s.flushDrains = true) (next : s.rowNext (pairOfTract tract) tract row = true)
    (wraps : s.rowWraps tract (s.rowEntries tract row) = true → s.rowBusy tract (row / 2 * 2 + (1 - row % 2)) = false)
    (logical : tract < logicalTracts) : Does (.drainUnitSelect (pairOfTract tract) tract row fs .unrecoverable) s fun t =>
        (t.entry tract).state = .integrityLost ∧ t.wb.units = s.wb.units ∧ t.wb.ents = s.wb.ents := by
  refine does_of_next (exec_drainUnitSelect named free settled runs flush next wraps) ?_
  rw [if_pos logical]
  exact State.loseTracts_single ..

theorem State.pathChecked_begun {s : State} {t row : Nat} {es : List (Nat × Entry)} (nodup : (es.map Prod.fst).Nodup) (fs : List Finding)
    {tree : TreeFind} (found : tree ≠ .unrecoverable) (dpa : Nat) :
    Begun t row es s.wb.nextUnit (s.pathChecked tree t dpa (State.drainData t row es fs)) := by
  cases tree with
  | verified => exact State.drainData_begun nodup fs
  | recovered =>
    have same : (s.nodeRecovered dpa).wb.nextUnit = s.wb.nextUnit := by simp
    exact same ▸ State.drainData_begun (s := s.nodeRecovered dpa) nodup fs
  | unrecoverable => exact absurd rfl found

theorem does_drainUnitSelect {s : State} {tract row : Nat} {fs : List Finding} {tree : TreeFind} (canonical : s.canonical = true)
    (named : tractNamed tract = true)
    (free : s.rowBusy tract row = false) (settled : s.running tract = none) (runs : s.drainRuns tract = true)
    (flush : s.wb.flushing = true → s.flushDrains = true) (next : s.rowNext (pairOfTract tract) tract row = true)
    (wraps : s.rowWraps tract (s.rowEntries tract row) = true → s.rowBusy tract (row / 2 * 2 + (1 - row % 2)) = false)
    (kept : logicalTracts ≤ tract ∨ tree ≠ .unrecoverable) : Does (.drainUnitSelect (pairOfTract tract) tract row fs tree) s
      (Begun tract row (s.rowEntries tract row) s.wb.nextUnit) := by
  refine does_of_next (exec_drainUnitSelect named free settled runs flush next wraps) ?_
  have nodup := State.rowEntries_nodup canonical tract row
  split
  case isTrue logical => exact State.pathChecked_begun nodup fs (kept.resolve_left (by omega)) _
  case isFalse => exact State.drainNodes_begun nodup fs

/-! ## The start of its programs -/

theorem unitOf_map {l : List DrainUnit} {unit : Nat} {u : DrainUnit} {f : DrainUnit → DrainUnit} (named : ∀ x, (f x).id = x.id)
    (found : l.find? (fun u => u.id == unit) = some u) : (l.map f).find? (fun u => u.id == unit) = some (f u) := by
  rw [List.find?_map]
  have same : ((fun u : DrainUnit => u.id == unit) ∘ f) = fun u => u.id == unit := funext fun x => by simp [named]
  rw [same, found, Option.map_some]

theorem id_of_unitOf {l : List DrainUnit} {unit : Nat} {u : DrainUnit} (found : l.find? (fun u => u.id == unit) = some u) : u.id = unit := by
  simpa using List.find?_some found

/-- One image of a unit that starts: its program's job, or nothing where its die is out. -/
def State.drainJob (unit : Nat) (i : Nat × Granule) (s : State) : State :=
  if s.dieOut (dieOf i.1) then s.unitDone unit i.1
  else s.addJob { engine := .drain, target := i.1, image := i.2, unit := unit }

theorem State.drainJob_dieOut (unit : Nat) (i : Nat × Granule) (s : State) (d : Nat) : (s.drainJob unit i).dieOut d = s.dieOut d := by
  unfold State.drainJob
  split <;> simp [State.dieOut]

theorem State.drainJob_ents (unit : Nat) (i : Nat × Granule) (s : State) : (s.drainJob unit i).wb.ents = s.wb.ents := by
  unfold State.drainJob
  split <;> simp

theorem State.drainJob_unitOf {s : State} {unit : Nat} {u : DrainUnit} (found : s.unitOf unit = some u) (i : Nat × Granule) :
    (s.drainJob unit i).unitOf unit
      = some (if s.dieOut (dieOf i.1) then { u with left := u.left.filter fun b => b != i.1 } else u) := by
  unfold State.drainJob
  split
  · rw [State.unitOf, State.unitDone, State.modWb_wb]
    refine (unitOf_map (fun x => ?_) found).trans (by rw [if_pos (id_of_unitOf found)])
    split <;> rfl
  · have units : (s.addJob { engine := .drain, target := i.1, image := i.2, unit := unit }).wb.units = s.wb.units := by simp
    rw [State.unitOf, units]
    exact found

/-- The images of a unit that starts: those whose die is out need no program. -/
theorem State.drainJobs_unitOf {s : State} {unit : Nat} {u : DrainUnit} (found : s.unitOf unit = some u) (images : List (Nat × Granule)) :
    ∃ u', (forEach images (State.drainJob unit) s).unitOf unit = some u' ∧ u' = { u with left := u'.left }
      ∧ ∀ a, a ∈ u'.left ↔ a ∈ u.left ∧ ¬ (s.dieOut (dieOf a) = true ∧ a ∈ images.map Prod.fst) := by
  induction images generalizing s u with
  | nil => exact ⟨u, found, rfl, fun a => by simp⟩
  | cons i images ih =>
    obtain ⟨u', later, same, left⟩ := ih (State.drainJob_unitOf found i)
    refine ⟨u', later, ?_, fun a => ?_⟩
    · rw [same]
      split <;> rfl
    · rw [left, State.drainJob_dieOut]
      by_cases out : s.dieOut (dieOf i.1) = true
      · by_cases here : a = i.1
        · simp [out, here]
        · simp [out, here]
      · by_cases here : a = i.1
        · simp [out, here]
        · simp [out, here]

theorem does_drainProgramsStart {s : State} {unit : Nat} {u : DrainUnit} (found : s.unitOf unit = some u) (fresh : u.started = false)
    (acked : s.nodesAcked u = true) (runs : s.drainRuns u.tract = true) :
    Does (.drainProgramsStart unit) s fun t => (∃ u', t.unitOf unit = some u' ∧ u' = { u with started := true, left := u'.left }
        ∧ ∀ a, a ∈ u'.left ↔ a ∈ u.left ∧ ¬ (s.dieOut (dieOf a) = true ∧ a ∈ u.images.map Prod.fst)) ∧ t.wb.ents = s.wb.ents := by
  generalize hstarted : (s.modWb fun w =>
    { w with
      units := w.units.map fun x => if x.id = unit then { x with started := true } else x
      counts := modNth w.counts (u.pair * 8 + 5) (· + u.images.length) }) = started
  have next : exec (.drainProgramsStart unit) s = .next (forEach u.images (State.drainJob unit) started) := by
    simp only [exec, execDrainProgramsStart, found, ← hstarted]
    exact if_neg (by simp [fresh, acked, runs])
  have begun : started.unitOf unit = some { u with started := true } := by
    rw [← hstarted, State.unitOf, State.modWb_wb]
    refine (unitOf_map (fun x => ?_) found).trans (by rw [if_pos (id_of_unitOf found)])
    split <;> rfl
  obtain ⟨u', later, same, left⟩ := State.drainJobs_unitOf begun u.images
  have out (d : Nat) : started.dieOut d = s.dieOut d := by rw [← hstarted]; rfl
  refine does_of_next next ⟨⟨u', later, same, fun a => by rw [left, out]⟩, ?_⟩
  refine (forEach_same (fun v => v.wb.ents) u.images (fun i v => State.drainJob_ents unit i v) started).trans ?_
  rw [← hstarted, State.modWb_wb]

/-! ## Its end -/

/-- The entries of a unit are freed. -/
def freedEnts (keys : List Nat) (t : Tab LineEnts) : Tab LineEnts :=
  keys.foldl (fun acc k => Tab.mod {} acc k fun l => { l with drain := none }) t

theorem freedEnts_keeps {keys : List Nat} {k : Nat} {t : Tab LineEnts} (wf : Tab.wf (fun _ => {}) t = true)
    (free : (Tab.rd {} t k).drain = none) : (Tab.rd {} (freedEnts keys t) k).drain = none := by
  induction keys generalizing t with
  | nil => exact free
  | cons j keys ih =>
    refine ih (Tab.mod_wf _ _ _ _ wf) ?_
    by_cases same : k = j
    · rw [same, Tab.rd_mod_same]
    · rw [Tab.rd_mod_ne _ _ _ same wf, free]

theorem freedEnts_rd {keys : List Nat} {k : Nat} (listed : k ∈ keys) {t : Tab LineEnts} (wf : Tab.wf (fun _ => {}) t = true) :
    (Tab.rd {} (freedEnts keys t) k).drain = none := by
  induction keys generalizing t with
  | nil => cases listed
  | cons j keys ih =>
    have wf' := Tab.mod_wf ({} : LineEnts) t j (fun l => { l with drain := none }) wf
    rcases List.mem_cons.mp listed with rfl | listed
    · exact freedEnts_keeps (keys := keys) wf' (by rw [Tab.rd_mod_same])
    · exact ih listed wf'

/-- Granules taken off a table one by one. -/
def erasedAll {α : Type} (images : List (Nat × Granule)) (t : Tab α) : Tab α := images.foldl (fun acc i => Tab.erase acc i.1) t

theorem erasedAll_listed {α : Type} {l : List (Nat × Granule)} {a : Nat} {t : Tab α} (after : a ∈ (erasedAll l t).map Prod.fst) :
    a ∈ t.map Prod.fst ∧ a ∉ l.map Prod.fst := by
  induction l generalizing t with
  | nil => exact ⟨after, by simp⟩
  | cons i l ih =>
    obtain ⟨before, later⟩ := ih after
    refine ⟨Tab.listed_of_listed_erase before, fun listed => ?_⟩
    rcases List.mem_cons.mp listed with rfl | listed
    · exact Tab.not_listed_erase before
    · exact later listed

theorem erasedAll_find? {α : Type} {l : List (Nat × Granule)} {a : Nat} (listed : a ∈ l.map Prod.fst) (t : Tab α) :
    (erasedAll l t).find? (fun e => e.1 == a) = none := by
  refine List.find?_eq_none.mpr fun e still same => ?_
  obtain rfl : e.1 = a := by simpa using same
  exact (erasedAll_listed (List.mem_map_of_mem still)).2 listed

/-- A finished unit gives up its entries and images. -/
def State.unitFreed (u : DrainUnit) (s : State) : State :=
  s.modWb fun w =>
    { w with
      units := w.units.filter fun x => x.id != u.id
      inProgram := erasedAll u.images w.inProgram
      ents := freedEnts u.keys w.ents }

/-- The rows of a finished unit are marked for a rebuild (R261). -/
def State.rowsMarked (u : DrainUnit) (s : State) : State :=
  forEach (u.images.map fun i => stripeRow i.1).dedup (State.markRow (s.entry u.tract).pt) s

theorem State.finishUnit_eq (u : DrainUnit) (s : State) :
    s.finishUnit u = (((s.rowsMarked u).unitFreed u).when u.keys.isEmpty (State.spanDone (u.tract * 256 + u.row / 2))).dirtySync.bufferSync := rfl

theorem State.rowsMarked_kept (u : DrainUnit) (s : State) : (s.rowsMarked u).wb = s.wb ∧ (s.rowsMarked u).itg = s.itg :=
  ⟨forEach_same (fun v => v.wb) _ (fun _ _ => by simp) s, forEach_same (fun v => v.itg) _ (fun _ _ => by simp) s⟩

theorem State.spanDone_left (i : Nat) (s : State) : (s.spanDone i).itg.rekeyLeft = s.itg.rekeyLeft.filter fun j => j != i := by
  rw [State.spanDone]
  have kept (v : State) : v.rekeyFinish.itg.rekeyLeft = v.itg.rekeyLeft := by
    rw [State.rekeyFinish]
    split <;> simp
  rw [kept, State.modItg_itg]

theorem State.finishUnit_kept (u : DrainUnit) (s : State) : (s.finishUnit u).wb.units = ((s.rowsMarked u).unitFreed u).wb.units
    ∧ (s.finishUnit u).wb.ents = ((s.rowsMarked u).unitFreed u).wb.ents
    ∧ (s.finishUnit u).wb.inProgram = ((s.rowsMarked u).unitFreed u).wb.inProgram := by
  rw [State.finishUnit_eq]
  simp only [State.when]
  split <;> simp

theorem does_drainUnitComplete {s : State} {unit : Nat} {u : DrainUnit} (canonical : s.canonical = true) (found : s.unitOf unit = some u)
    (started : u.started = true) (done : u.left = []) (table : s.badTableDue = false) : Does (.drainUnitComplete unit) s fun t =>
      (∀ x ∈ t.wb.units, x.id ≠ unit) ∧ (∀ key ∈ u.keys, (t.lineEnts key).drain = none) ∧ (∀ i ∈ u.images, t.registered i.1 = none)
        ∧ (u.keys = [] → t.itg.rekeyLeft = s.itg.rekeyLeft.filter fun i => i != u.tract * 256 + u.row / 2) := by
  have next : exec (.drainUnitComplete unit) s = .next (s.finishUnit u) := by
    simp [exec, execDrainUnitComplete, found, started, done, table]
  obtain ⟨units, ents, images⟩ := State.finishUnit_kept u s
  obtain ⟨wb, itg⟩ := State.rowsMarked_kept u s
  refine does_of_next next ⟨fun x listed => ?_, fun key listed => ?_, fun i listed => ?_, fun none => ?_⟩
  · rw [units, State.unitFreed, State.modWb_wb] at listed
    have other := (List.mem_filter.mp listed).2
    rw [id_of_unitOf found] at other
    simpa using other
  · rw [State.lineEnts, ents, State.unitFreed, State.modWb_wb, wb]
    exact freedEnts_rd listed (State.wb_ents_wf canonical)
  · rw [State.registered, images, State.unitFreed, State.modWb_wb, erasedAll_find? (List.mem_map_of_mem listed), Option.map_none]
  · have left : (s.finishUnit u).itg.rekeyLeft = (((s.rowsMarked u).unitFreed u).spanDone (u.tract * 256 + u.row / 2)).itg.rekeyLeft := by
      rw [State.finishUnit_eq, none]
      simp [State.when]
    rw [left, State.spanDone_left, State.unitFreed, State.modWb_itg, itg]
end Sys2Proof.Machine
open Sys2Proof Sys2Proof.Machine
/-- Settles O38: a unit's entries and number are set last, by `startUnit`; its images leave one by one, and its end frees what it held. -/
theorem drainUnits : Obligations.DrainUnits := by
  unfold Obligations.DrainUnits
  intro s canonical
  refine ⟨fun key e opened => ⟨does_coalescingDelayExpiry opened, does_nodeHoldExpiry opened⟩, ?select,
    fun unit u found fresh acked runs => does_drainProgramsStart found fresh acked runs,
    fun unit u found started done table => does_drainUnitComplete canonical found started done table⟩
  case select =>
    rintro tract row fs tree es named free settled rfl runs flush next wraps
    exact ⟨fun logical lost => lost ▸ does_drainUnitSelect_lost named free settled runs flush next wraps logical,
      does_drainUnitSelect canonical named free settled runs flush next wraps⟩
end

section
/-! PROOFS. The ledger's records and input dips (O39). -/
namespace Sys2Proof.Machine

/-! ## Records -/

theorem mem_insertRec (r : LedgerRec) (l : List LedgerRec) : r ∈ insertRec r l := by
  induction l with
  | nil => simp [insertRec]
  | cons x l ih =>
    unfold insertRec
    split
    · exact List.mem_cons_self
    · exact List.mem_cons_of_mem _ ih

/-- A record whose check fails stops the replay, unless it is a full set. -/
theorem replay_torn {r : LedgerRec} {l : List LedgerRec} (torn : r.whole = false) (kind : r.kind ≠ 2) : replay (r :: l) = [] := by
  simp [replay, torn, kind]

theorem State.startRec_writing (kind : Nat) (added removed : List Nat) (s : State) :
    (s.startRec kind added removed).wb.writing = s.wb.writing ++ [s.newRec kind added removed] := by
  rw [State.startRec, State.modWb_wb]

/-- What a record leaves once it is durable (R153). -/
theorem State.recDurable_wb (r : LedgerRec) (s : State) : r ∈ (s.recDurable r).wb.ledger
    ∧ (s.recDurable r).wb.durable = replay (s.recDurable r).wb.ledger ∧ (s.recDurable r).wb.writing = s.wb.writing.filter (fun x => x.seq != r.seq)
    ∧ (r.kind = 2 → (s.recDurable r).wb.ledger = r :: s.wb.ledger.filter fun x => decide (r.seq < x.seq)) := by
  rw [State.recDurable, State.modWb_wb]
  refine ⟨?_, rfl, rfl, fun full => if_pos full⟩
  dsimp only
  split
  · exact List.mem_cons_self
  · exact mem_insertRec r _

theorem does_ledgerDelta {s : State} (core : s.coreOn = true) (changed : s.wb.dirty ≠ s.wb.lastListed) : Does .ledgerDelta s fun t =>
    t.wb.lastListed = s.wb.dirty
      ∧ t.wb.writing = s.wb.writing ++ [s.newRec 1 (s.wb.dirty.filter fun x => !s.wb.lastListed.contains x) (s.wb.lastListed.filter fun x => !s.wb.dirty.contains x)]
      ∧ t.wb.ledgerSeq = (s.wb.ledgerSeq + 1) % 2 ^ 32 := by
  refine does_of_next (if_neg (by simp [core, changed])) ⟨?_, ?_, ?_⟩
  · simp [State.startRec]
  · simp [State.startRec]
  · simp [State.startRec]

theorem does_ledgerFullSet {s : State} (core : s.coreOn = true) : Does .ledgerFullSet s fun t =>
    t.wb.writing = s.wb.writing ++ [s.newRec 2 s.wb.dirty []] :=
  does_of_next (if_pos core) (State.startRec_writing ..)

theorem does_ledgerRecordDurable {s : State} {seq : Nat} {r : LedgerRec}
    (found : (s.wb.writing.find? fun r => r.seq == seq && (r.kind == 1 || r.kind == 2)) = some r) :
    Does (.ledgerRecordDurable seq) s fun t => r ∈ t.wb.ledger ∧ t.wb.durable = replay t.wb.ledger ∧ (∀ x ∈ t.wb.writing, x.seq ≠ seq)
        ∧ (r.kind = 2 → t.wb.ledger = r :: s.wb.ledger.filter fun x => decide (r.seq < x.seq)) := by
  have next : exec (.ledgerRecordDurable seq) s = .next (s.recDurable r) := by
    simp only [exec, execLedgerRecordDurable, found]
  have named : r.seq = seq := by
    have := List.find?_some found
    simp at this
    exact this.1
  obtain ⟨kept, durable, writing, full⟩ := State.recDurable_wb r s
  refine does_of_next next ⟨kept, durable, fun x listed => ?_, full⟩
  rw [writing, named] at listed
  simpa using (List.mem_filter.mp listed).2

/-! ## An input dip -/

theorem State.PortIs.of_forEach {P : PortS → Prop} {f : PortS → PortS} (sets : ∀ x, P (f x)) {l : List Nat} {p : Nat} (listed : p ∈ l) (s : State) :
    (forEach l (fun p => State.modPort p f) s).PortIs p P := by
  have keeps (l : List Nat) (s : State) (is : s.PortIs p P) : (forEach l (fun p => State.modPort p f) s).PortIs p P :=
    forEach_keeps l (fun _ _ is => is.modPort fun _ _ => sets _) is
  induction l generalizing s with
  | nil => cases listed
  | cons q l ih =>
    rcases List.mem_cons.mp listed with rfl | listed
    · refine keeps l _ (.inr ⟨?_, ?_⟩)
      · exact Tab.settled_mod_same (t := s.hst.ports) {} f
      · rw [State.modPort_port]
        exact sets _
    · exact ih listed _

/-- While a dip holds them, RwD credit returns are withheld on every port (R147). -/
theorem State.creditSync_rwd {s : State} (held : s.wb.dipHeld = true) {p : Nat} (port : p < 4) : (s.creditSync.port p).rwdWithheld = true := by
  refine (State.PortIs.of_forEach (P := fun x => x.rwdWithheld = true) (l := [0, 1, 2, 3]) (fun x => ?_) ?_ s).holds
  · simp [State.rwdHeld, held]
  · simp; omega

theorem State.startSeal_port (p : Nat) (s : State) : s.startSeal.port p = s.port p := by simp

/-- The state in which a dip has begun, before its seal record. -/
def State.dipBegun (s : State) : State := ((s.modPwr fun p => { p with dip := true }).modWb fun w => { w with dipHeld := true }).creditSync

theorem does_inputDip {s : State} (fresh : s.pwr.dip = false) (closed : s.pwr.switchClosed = true) (core : s.coreOn = true) :
    Does .inputDip s fun t => t.pwr.dip = true ∧ t.wb.dipHeld = true ∧ (∀ p, p < 4 → (t.port p).rwdWithheld = true)
      ∧ t.wb.writing = s.wb.writing ++ [s.newRec 3 (s.wb.dirty.filter fun x => !s.wb.durable.contains x) []] := by
  have next : exec .inputDip s = .next s.dipBegun.startSeal := (if_neg (by simp [fresh, closed])).trans (if_pos core)
  refine does_of_next next ⟨?_, ?_, fun p port => ?_, ?_⟩
  · simp [State.dipBegun]
  · simp [State.dipBegun]
  · rw [State.startSeal_port]
    exact State.creditSync_rwd (by simp) port
  · simp [State.dipBegun, State.startSeal, State.startRec, State.newRec]

/-! ## The end of a seal -/

theorem State.dipEnd_held {s : State} (ended : s.pwr.dip = false) (sealed : s.sealWriting = false) : s.dipEnd.wb.dipHeld = false := by
  rw [State.dipEnd]
  split
  · simp
  case isFalse idle => simpa [ended, sealed] using idle

theorem State.dipEnd_kept (s : State) : s.dipEnd.wb.ledger = s.wb.ledger ∧ s.dipEnd.wb.durable = s.wb.durable := by simp

theorem State.sealMore_kept (s : State) : s.sealMore.wb.ledger = s.wb.ledger ∧ s.sealMore.wb.durable = s.wb.durable := by simp

theorem State.unseal_kept (s : State) : s.unseal.wb.ledger = s.wb.ledger ∧ s.unseal.wb.durable = s.wb.durable := by simp

theorem exec_sealRecordDurable {s : State} {seq : Nat} {r : LedgerRec}
    (found : (s.wb.writing.find? fun r => r.seq == seq && r.kind == 3) = some r) :
    exec (.sealRecordDurable seq) s = .next (s.recDurable r).unseal.sealMore.dipEnd := by
  simp only [exec, execSealRecordDurable, found]

theorem does_sealRecordDurable {s : State} {seq : Nat} {r : LedgerRec}
    (found : (s.wb.writing.find? fun r => r.seq == seq && r.kind == 3) = some r) :
    Does (.sealRecordDurable seq) s (fun t => r ∈ t.wb.ledger ∧ t.wb.durable = replay t.wb.ledger) := by
  obtain ⟨kept, durable, -, -⟩ := State.recDurable_wb r s
  refine does_of_next (exec_sealRecordDurable found) ?_
  rw [(State.dipEnd_kept _).1, (State.dipEnd_kept _).2, (State.sealMore_kept _).1, (State.sealMore_kept _).2, (State.unseal_kept _).1,
    (State.unseal_kept _).2]
  exact ⟨kept, durable⟩

/-- Without an entry that waits for a seal there is nothing to unseal. -/
theorem State.unseal_none {s : State} (idle : s.sealWaits = false) : s.unseal = s := by
  rw [State.unseal, List.filter_eq_nil_iff.mpr ?unsealed]
  case unsealed =>
    intro e listed
    have open' := (List.any_eq_false.mp idle) e listed
    cases opened : e.2.opened with
    | none => simp
    | some x =>
      rw [opened] at open'
      simp only [Bool.not_eq_true] at open'
      simp [open']
  rfl

theorem State.sealMore_none {s : State} (idle : s.sealWaits = false) : s.sealMore = s := if_neg (by simp [idle])

theorem does_sealRecordDurable_last {s : State} {seq : Nat} {r : LedgerRec}
    (found : (s.wb.writing.find? fun r => r.seq == seq && r.kind == 3) = some r) (ended : s.pwr.dip = false) (idle : s.sealWaits = false)
    (last : ∀ x ∈ s.wb.writing, x.kind = 3 → x.seq = seq) : Does (.sealRecordDurable seq) s fun t => t.wb.dipHeld = false := by
  obtain ⟨-, -, writing, -⟩ := State.recDurable_wb r s
  have named : r.seq = seq := by
    have := List.find?_some found
    simp at this
    exact this.1
  have stillNone : (s.recDurable r).sealWaits = false := by simpa [State.sealWaits, State.recDurable] using idle
  refine does_of_next (exec_sealRecordDurable found) ?_
  rw [State.unseal_none stillNone, State.sealMore_none stillNone]
  refine State.dipEnd_held (by simpa [State.recDurable] using ended) ?_
  rw [State.sealWriting, writing, named]
  refine List.any_eq_false.mpr fun x listed sealing => ?_
  obtain ⟨before, other⟩ := List.mem_filter.mp listed
  exact absurd (last x before (by simpa using sealing)) (by simpa using other)

theorem does_inputDipRecovered {s : State} (dip : s.pwr.dip = true) (keel : s.keelOn = true) (room : s.flt.queue.length < 256) :
    Does .inputDipRecovered s fun t => t.pwr.dip = false ∧ t.pwr.shortDips = s.pwr.shortDips + 1 ∧ queued s t (faultMsg 0x2BA 0x61 none false)
      ∧ ((∀ x ∈ s.wb.writing, x.kind ≠ 3) → t.wb.dipHeld = false) := by
  generalize hended : (s.modPwr fun p => { p with dip := false, shortDips := p.shortDips + 1 }) = ended
  have next : exec .inputDipRecovered s = .next (ended.report 0x2BA 0x61 none).dipEnd := by
    rw [← hended]
    exact if_pos dip
  have same : ended.flt = s.flt := by rw [← hended]; simp
  have told : queued ended (ended.report 0x2BA 0x61 none) (faultMsg 0x2BA 0x61 none false) :=
    State.report_queued_of_below (by rw [← hended]; exact keel) (by decide) 0x2BA none (by rw [same]; exact room)
  refine does_of_next next ⟨?_, ?_, ?_, fun unsealed => ?_⟩
  · rw [← hended]; simp
  · rw [← hended]; simp
  · rw [queued, same] at told
    have kept (v : State) : v.dipEnd.flt = v.flt := by simp
    rw [queued, kept]
    exact told
  · refine State.dipEnd_held (by rw [← hended]; simp) (List.any_eq_false.mpr fun x listed sealing => unsealed x ?_ (by simpa using sealing))
    rw [← hended] at listed
    simpa using listed
end Sys2Proof.Machine
open Sys2Proof Sys2Proof.Machine
/-- Settles O39: records join what is being written and the ledger; a dip holds RwD credit on every port until its seal is durable. -/
theorem ledgerAndDips : Obligations.LedgerAndDips := by
  unfold Obligations.LedgerAndDips
  intro s
  exact ⟨does_ledgerDelta, does_ledgerFullSet, fun _ _ _ => rfl, fun _ _ => replay_torn, fun _ _ => does_ledgerRecordDurable,
    does_inputDip, fun _ _ found => ⟨does_sealRecordDurable found, does_sealRecordDurable_last found⟩, does_inputDipRecovered⟩
end

section
/-! PROOFS. A migration from its start to the checkpoint that ends it (O40). -/
namespace Sys2Proof.Machine

/-! ## The running migration of a tract -/

/-- The migration of tract `t` that runs, in a list of migrations. -/
def runningIn (l : List Migration) (t : Nat) : Option Migration := l.find? fun m => m.tract == t && decide (m.state ≠ .queued)

theorem State.running_eq (s : State) (t : Nat) : s.running t = runningIn s.trc.migs t := rfl

theorem runningIn_some {l : List Migration} {t : Nat} {m : Migration} (found : runningIn l t = some m) : m ∈ l ∧ m.tract = t ∧ m.state ≠ .queued := by
  refine ⟨List.mem_of_find?_eq_some found, ?_⟩
  simpa using List.find?_some found

/-- A change that leaves the tract and whether the migration is queued keeps the running one in its place. -/
theorem runningIn_map {l : List Migration} {t : Nat} {m : Migration} {f : Migration → Migration}
    (kept : ∀ x, (f x).tract = x.tract ∧ (f x).state = x.state) (found : runningIn l t = some m) : runningIn (l.map f) t = some (f m) := by
  rw [runningIn, List.find?_map]
  have same : ((fun m : Migration => m.tract == t && decide (m.state ≠ .queued)) ∘ f) = fun m => m.tract == t && decide (m.state ≠ .queued) :=
    funext fun x => by simp [kept]
  rw [same]
  exact congrArg (Option.map f) found

theorem runningIn_append {l l' : List Migration} {t : Nat} {m : Migration} (found : runningIn l t = some m) : runningIn (l ++ l') t = some m := by
  rw [runningIn, List.find?_append]
  rw [runningIn] at found
  rw [found, Option.some_or]

/-- A change of the only migration of a tract. -/
theorem State.running_modMig {s : State} {t : Nat} {m : Migration} {f : Migration → Migration} (found : s.running t = some m)
    (only : ∀ x ∈ s.trc.migs, x.tract = t → x = m) (tract : (f m).tract = t) (state : (f m).state ≠ .queued) :
    (s.modMig t f).running t = some (f m) := by
  obtain ⟨-, here, runs⟩ := runningIn_some found
  have same (x : Migration) (listed : x ∈ s.trc.migs) :
      ((fun m : Migration => m.tract == t && decide (m.state ≠ .queued)) ∘ fun m => if m.tract = t then f m else m) x
        = (x.tract == t && decide (x.state ≠ .queued)) := by
    by_cases mine : x.tract = t
    · obtain rfl := only x listed mine
      simp [mine, tract, state, runs]
    · simp [mine]
  rw [State.running_eq, State.modMig, State.modTrc_trc, runningIn, List.find?_map, List.find?_congr same]
  refine (congrArg _ found).trans ?_
  simp [here]

/-! ## The start -/

/-- The migration begins its copy. -/
def State.copyBegun (tract dst gen : Nat) (s : State) : State :=
  (s.modMig tract fun m => { m with state := .copying, src := (s.entry tract).pt, dst := dst, gen := gen, cursor := 0 }).modTrc
    fun x => { x with lastRow := rowOfPt dst }

theorem State.copyBegun_canonical {s : State} (canonical : s.canonical = true) (tract dst gen : Nat) :
    (s.copyBegun tract dst gen).entry = s.entry ∧ Tab.wf shipEntry (s.copyBegun tract dst gen).trc.map = true := by
  refine ⟨rfl, ?_⟩
  exact State.trc_map_wf canonical

theorem does_migrationStart {s : State} {tract dst : Nat} {m : Migration} (canonical : s.canonical = true)
    (found : (s.trc.migs.find? fun m => m.tract == tract && decide (m.state = .queued)) = some m) (room : s.migRoom m.cause = true)
    (calm : s.drains tract = false) (first : s.nextMig m = true) (cool : s.thm.level < 2) (engine : s.isOut 0x298 = false)
    (mapped : m.cause = 1 ∨ (s.entry tract).state = .mapped) (place : s.destination tract = some dst) :
    Does (.migrationStart tract) s fun t => t.entry tract = { s.entry tract with mig := true }
        ∧ (∀ j, j ≠ tract → t.entry j = s.entry j)
        ∧ ∃ x ∈ t.trc.migs, x.tract = tract ∧ x.state = .copying ∧ x.src = (s.entry tract).pt ∧ x.dst = dst ∧ x.cursor = 0 := by
  have next : exec (.migrationStart tract) s = .next ((s.copyBegun tract dst
      (if m.gen = 0 then (s.activity tract).gen + 1 else m.gen)).modEntry tract fun e => { e with mig := true }) := by
    simp only [exec, execMigrationStart, found]
    refine (if_pos ?_).trans ?_
    · rcases mapped with power | mapped
      · simp [power ▸ room, calm, first, cool, engine, power]
      · simp [room, calm, first, cool, engine, mapped]
    · rw [place]
      rfl
  generalize (if m.gen = 0 then (s.activity tract).gen + 1 else m.gen) = gen at next
  obtain ⟨entry, wf⟩ := State.copyBegun_canonical canonical tract dst gen
  have listed := List.mem_of_find?_eq_some found
  have named : m.tract = tract := by
    have := List.find?_some found
    simp at this
    exact this.1
  refine does_of_next next ⟨?_, fun j other => ?_, { m with state := .copying, src := (s.entry tract).pt, dst := dst, gen := gen, cursor := 0 },
    ?_, named, rfl, rfl, rfl, rfl⟩
  · rw [State.modEntry_entry, entry]
  · rw [State.entry, State.modEntry, State.modTrc_trc]
    exact (Tab.get_put_ne _ _ _ other wf).trans (congrFun entry j)
  · rw [State.modEntry, State.modTrc_trc]
    exact List.mem_map.mpr ⟨m, listed, if_pos named⟩

/-! ## The copy of a row -/

theorem State.SameButRefr.forEach {α : Type} {f : α → State → State} (step : ∀ (a : α) (s : State), s.SameButRefr (f a s)) (l : List α) (s : State) :
    s.SameButRefr (forEach l f s) := by
  induction l generalizing s with
  | nil => exact .of_entry_eq rfl
  | cons a l ih => exact (step a s).trans (ih (f a s))

theorem State.SameButRefr.when {f : State → State} (step : ∀ s : State, s.SameButRefr (f s)) (c : Bool) (s : State) : s.SameButRefr (s.when c f) := by
  cases c with
  | true => exact step s
  | false => exact .of_entry_eq rfl

theorem State.SameButRefr.reportFound (pt row : Nat) (fs : List Finding) (s : State) : s.SameButRefr (s.reportFound pt row fs) := by
  unfold State.reportFound
  refine .forEach (fun f v => ?_) fs s
  dsimp only
  have seen := (SameButRefr.sqSeen (atPosition pt row f.position) f.sq v).trans
    (.when (State.SameButRefr.queueRewrite (atPosition pt row f.position))
      (decide (s.cfg 0x3300 0 ≤ f.errors ∧ f.errors ≤ 7)) (v.sqSeen (atPosition pt row f.position) f.sq))
  split
  · exact seen.trans (.of_entry_eq (by simp))
  · exact seen

/-- The migration that runs for a tract: it copies from `src` to `dst` and has come to row `cursor`. -/
def Copies (tract src dst cursor : Nat) (s : State) : Prop :=
  ∃ x, s.running tract = some x ∧ x.state = .copying ∧ x.cursor = cursor ∧ x.src = src ∧ x.dst = dst

section
variable {s t : State} {tract src dst cursor : Nat}

theorem Copies.congr (copies : Copies tract src dst cursor s) (same : t.trc.migs = s.trc.migs) : Copies tract src dst cursor t := by
  obtain ⟨x, found, rest⟩ := copies
  exact ⟨x, by rw [State.running_eq, same]; exact found, rest⟩

theorem Migration.addCause_kept (m : Migration) (cause : Nat) : (m.addCause cause).tract = m.tract ∧ (m.addCause cause).state = m.state
    ∧ (m.addCause cause).cursor = m.cursor ∧ (m.addCause cause).src = m.src ∧ (m.addCause cause).dst = m.dst := by
  unfold Migration.addCause
  split
  · exact ⟨rfl, rfl, rfl, rfl, rfl⟩
  · split <;> exact ⟨rfl, rfl, rfl, rfl, rfl⟩

theorem Copies.queueMig (copies : Copies tract src dst cursor s) (n cause : Nat) : Copies tract src dst cursor (s.queueMig n cause) := by
  unfold State.queueMig
  split
  · exact copies
  · obtain ⟨x, found, state, at', source, place⟩ := copies
    split
    · have kept (x : Migration) : (if x.tract = n then x.addCause cause else x).tract = x.tract
          ∧ (if x.tract = n then x.addCause cause else x).state = x.state ∧ (if x.tract = n then x.addCause cause else x).cursor = x.cursor
          ∧ (if x.tract = n then x.addCause cause else x).src = x.src ∧ (if x.tract = n then x.addCause cause else x).dst = x.dst := by
        split
        · exact Migration.addCause_kept x cause
        · exact ⟨rfl, rfl, rfl, rfl, rfl⟩
      obtain ⟨-, state', at'', source', place'⟩ := kept x
      refine ⟨if x.tract = n then x.addCause cause else x, ?_, state'.trans state, at''.trans at', source'.trans source, place'.trans place⟩
      rw [State.running_eq, State.modTrc_trc]
      exact runningIn_map (fun x => ⟨(kept x).1, (kept x).2.1⟩) found
    · refine ⟨x, ?_, state, at', source, place⟩
      rw [State.running_eq, State.modTrc_trc]
      exact runningIn_append found

theorem Copies.readsGrown (copies : Copies tract src dst cursor s) (n : Nat) : Copies tract src dst cursor (s.readsGrown n) := by
  unfold State.readsGrown
  split
  · exact copies.queueMig n 3
  · exact copies

theorem Copies.holdCount (copies : Copies tract src dst cursor s) (n : Nat) : Copies tract src dst cursor (s.holdCount n) := by
  unfold State.holdCount
  split
  · exact copies
  · split
    · exact copies.congr rfl
    · split
      · exact copies
      · dsimp only
        split
        · exact copies.congr rfl
        · exact (copies.congr (t := State.modActivity _ _ (s.modTrc _)) (by simp)).readsGrown _

theorem Copies.countSenses (copies : Copies tract src dst cursor s) (a n : Nat) : Copies tract src dst cursor (s.countSenses a n) := by
  unfold State.countSenses
  split
  case h_1 held placed =>
    split
    · exact ((copies.holdCount held).congr (t := State.modActivity held _ (s.holdCount held)) (by simp)).readsGrown held
    · exact copies
  case h_2 => exact copies
end


/-! The source's granules are read as before, whatever becomes of the migrations. -/

theorem State.lostAt_modTrc (f : TractS → TractS) (s : State) : (s.modTrc f).lostAt = s.lostAt := by
  funext a
  simp [State.lostAt, State.dieOut, State.dieLost, State.rebuilt, State.badGranule, State.notHealthy]

theorem State.image_modTrc (f : TractS → TractS) (s : State) : (s.modTrc f).image = s.image := by
  funext a
  have granule : (s.modTrc f).granule = s.granule := rfl
  simp [State.image, granule]

theorem State.rebuildLine_modTrc (f : TractS → TractS) (s : State) : (s.modTrc f).rebuildLine = s.rebuildLine := by
  funext a k
  rw [State.rebuildLine, State.rebuildLine, State.lostAt_modTrc, State.image_modTrc]

theorem State.blankAt_modTrc (f : TractS → TractS) (s : State) : (s.modTrc f).blankAt = s.blankAt := by
  funext a
  rw [State.blankAt, State.blankAt, State.rebuildLine_modTrc, State.lostAt_modTrc, State.image_modTrc]

theorem State.sealIndex_modMig (t : Nat) (f : Migration → Migration) (pt : Nat) (s : State) : (s.modMig t f).sealIndex pt = s.sealIndex pt := by
  rw [State.sealIndex, State.sealIndex, State.modMig, State.blankAt_modTrc]

/-- The migration's lost lines of the row are noted. -/
def Migration.withLost (m : Migration) (fs : List Finding) (s : State) : Migration :=
  { m with lost := m.lost ++ (fs.filter fun f => decide (8 ≤ f.errors) && !s.usable m.src m.cursor fs f).map fun f =>
      lostKey (atPosition m.src m.cursor f.position) f.line }

/-- The images of a row that is copied are requested. -/
def State.rowRequested (tract : Nat) (m : Migration) (fs : List Finding) (images : List (Nat × Granule)) (s : State) : State :=
  ((((s.reportFound m.src m.cursor fs).countSenses (placeGranule m.src (m.cursor * 8)) 32).requestAll .migration tract images).engineCount 0 0 1).engineCount 0 1 8

theorem exec_migrationRowCopy {s : State} {tract g : Nat} {m : Migration} {fs : List Finding} (found : s.running tract = some m)
    (copying : m.state = .copying) (unfinished : m.cursor ≠ 512) (engine : s.isOut 0x298 = false) (calm : s.nodesBusy m = false)
    (seal' : s.sealIndex m.src = some g) : ∃ images, exec (.migrationRowCopy tract fs) s =
      (let v := (s.modMig tract fun _ => m.withLost fs s).rowRequested tract (m.withLost fs s) fs images
      if g / 8 ≤ m.cursor then .next ((v.moveNodes (m.withLost fs s)).modMig tract fun m => { m with cursor := 512 }).migSync
      else .next (v.modMig tract fun m => { m with cursor := m.cursor + 1 })) := by
  refine ⟨(s.modMig tract fun _ => m.withLost fs s).copyRow (m.withLost fs s) m.cursor g, ?_⟩
  have sealed : (s.modMig tract fun _ => m.withLost fs s).sealIndex m.src = some g := (State.sealIndex_modMig ..).trans seal'
  simp only [exec, execMigrationRowCopy, found]
  rw [if_neg (by simp [copying, unfinished, engine, calm])]
  simp only [Migration.withLost, State.rowRequested] at sealed ⊢
  rw [sealed]

theorem Copies.rowRequested {s : State} {tract src dst cursor : Nat} (copies : Copies tract src dst cursor s) (m : Migration)
    (fs : List Finding) (images : List (Nat × Granule)) : Copies tract src dst cursor (s.rowRequested tract m fs images) := by
  unfold State.rowRequested
  have found : Copies tract src dst cursor (s.reportFound m.src m.cursor fs) := copies.congr (by simp)
  exact (found.countSenses (placeGranule m.src (m.cursor * 8)) 32).congr (by simp)

theorem State.SameButRefr.rowRequested (tract : Nat) (m : Migration) (fs : List Finding) (images : List (Nat × Granule)) (s : State) :
    s.SameButRefr (s.rowRequested tract m fs images) :=
  (State.SameButRefr.reportFound m.src m.cursor fs s).trans (.of_entry_eq (by simp [State.rowRequested]))

theorem Copies.next {s : State} {tract src dst cursor : Nat} (copies : Copies tract src dst cursor s) :
    Copies tract src dst (cursor + 1) (s.modMig tract fun m => { m with cursor := m.cursor + 1 }) := by
  obtain ⟨x, found, state, at', source, place⟩ := copies
  obtain ⟨-, here, -⟩ := runningIn_some found
  refine ⟨{ x with cursor := x.cursor + 1 }, ?_, state, by rw [at'], source, place⟩
  rw [State.running_eq, State.modMig, State.modTrc_trc]
  refine (runningIn_map (fun y => ?_) found).trans (by rw [if_pos here])
  split <;> exact ⟨rfl, rfl⟩

/-- Every migration of the tract has come to its last row. -/
def Finished (tract : Nat) (s : State) : Prop := ∀ x ∈ s.trc.migs, x.tract = tract → x.cursor = 512

section
variable {s t : State} {tract : Nat}

theorem Finished.of_subset (done : Finished tract s) (fewer : ∀ x ∈ t.trc.migs, x ∈ s.trc.migs) : Finished tract t :=
  fun x listed => done x (fewer x listed)

theorem Finished.congr (done : Finished tract s) (same : t.trc.migs = s.trc.migs) : Finished tract t :=
  done.of_subset fun _ listed => same ▸ listed

theorem Finished.modMig (done : Finished tract s) (n : Nat) {f : Migration → Migration} (kept : ∀ x, (f x).tract = x.tract ∧ (f x).cursor = x.cursor) :
    Finished tract (s.modMig n f) := by
  intro x listed here
  rw [State.modMig, State.modTrc_trc] at listed
  obtain ⟨y, before, rfl⟩ := List.mem_map.mp listed
  have same : (if y.tract = n then f y else y).tract = y.tract ∧ (if y.tract = n then f y else y).cursor = y.cursor := by
    split
    · exact kept y
    · exact ⟨rfl, rfl⟩
  exact same.2.trans (done y before (same.1.symm.trans here))

theorem Finished.moveBlank (done : Finished tract s) (m : Migration) : Finished tract (s.moveBlank m) := by
  refine (done.of_subset (t := s.modTrc fun x => { x with migs := x.migs.filter fun y => y.tract != m.tract }) fun x listed => ?_).congr ?_
  · rw [State.modTrc_trc] at listed
    exact List.mem_of_mem_filter listed
  · simp [State.moveBlank]

theorem Finished.copyEnds (done : Finished tract s) (m : Migration) : Finished tract (s.copyEnds m) := by
  unfold State.copyEnds
  split
  · split
    · exact done.moveBlank m
    · exact (done.modMig m.tract (f := fun m => { m with state := .sealing }) fun _ => ⟨rfl, rfl⟩).congr (by simp)
  · exact done

theorem Finished.migSync (done : Finished tract s) : Finished tract s.migSync := by
  unfold State.migSync
  exact forEach_keeps s.trc.migs (fun m _ done => done.copyEnds m) done

theorem Finished.last (tract : Nat) (s : State) : Finished tract (s.modMig tract fun m => { m with cursor := 512 }) := by
  intro x listed here
  rw [State.modMig, State.modTrc_trc] at listed
  obtain ⟨y, -, rfl⟩ := List.mem_map.mp listed
  split at here
  case isTrue mine => rw [if_pos mine]
  case isFalse other => exact absurd here other

theorem Finished.of_running (done : Finished tract s) {x : Migration} (found : s.running tract = some x) : x.cursor = 512 := by
  obtain ⟨listed, here, -⟩ := runningIn_some found
  exact done x listed here
end

section
variable {s : State} {tract : Nat} {m : Migration}

theorem Copies.begun (found : s.running tract = some m) (only : ∀ x ∈ s.trc.migs, x.tract = tract → x = m) (copying : m.state = .copying)
    (fs : List Finding) : Copies tract m.src m.dst m.cursor (s.modMig tract fun _ => m.withLost fs s) := by
  obtain ⟨-, here, runs⟩ := runningIn_some found
  exact ⟨m.withLost fs s, State.running_modMig found only here runs, copying, rfl, rfl, rfl⟩

theorem does_migrationRowCopy {g : Nat} {fs : List Finding} (found : s.running tract = some m)
    (only : ∀ x ∈ s.trc.migs, x.tract = tract → x = m)
    (copying : m.state = .copying) (unfinished : m.cursor ≠ 512) (engine : s.isOut 0x298 = false) (calm : s.nodesBusy m = false)
    (seal' : s.sealIndex m.src = some g) (before : m.cursor < g / 8) :
    Does (.migrationRowCopy tract fs) s fun t => (∃ x, t.running tract = some x ∧ x.state = .copying
      ∧ x.cursor = m.cursor + 1 ∧ x.src = m.src ∧ x.dst = m.dst) ∧ ∀ j, (t.entry j).pt = (s.entry j).pt ∧ (t.entry j).state = (s.entry j).state := by
  obtain ⟨images, next⟩ := exec_migrationRowCopy (fs := fs) found copying unfinished engine calm seal'
  refine does_of_next (next.trans (if_neg (by omega))) ⟨?_, fun j => ?_⟩
  · exact ((Copies.begun found only copying fs).rowRequested (m.withLost fs s) fs images).next
  · have refr : s.SameButRefr (((s.modMig tract fun _ => m.withLost fs s).rowRequested tract (m.withLost fs s) fs images).modMig tract
        fun m => { m with cursor := m.cursor + 1 }) :=
      ((State.SameButRefr.of_entry_eq rfl).trans (.rowRequested tract (m.withLost fs s) fs images (s.modMig tract fun _ => m.withLost fs s))).trans
        (.of_entry_eq rfl)
    rw [refr j]
    exact ⟨rfl, rfl⟩

theorem does_migrationRowCopy_last {g : Nat} {fs : List Finding} (found : s.running tract = some m)
    (copying : m.state = .copying) (unfinished : m.cursor ≠ 512) (engine : s.isOut 0x298 = false) (calm : s.nodesBusy m = false)
    (seal' : s.sealIndex m.src = some g) (last : g / 8 ≤ m.cursor) :
    Does (.migrationRowCopy tract fs) s fun t => ∀ x, t.running tract = some x → x.cursor = 512 := by
  obtain ⟨images, next⟩ := exec_migrationRowCopy (fs := fs) found copying unfinished engine calm seal'
  exact does_of_next (next.trans (if_pos last)) fun x running => (Finished.last tract _).migSync.of_running running

theorem State.moveBlank_ends (m : Migration) (s : State) : (s.moveBlank m).running m.tract = none
    ∧ ((s.moveBlank m).entry m.tract).pt = m.dst ∧ ((s.moveBlank m).entry m.tract).mig = false := by
  have migs : (s.moveBlank m).trc.migs = s.trc.migs.filter fun y => y.tract != m.tract := by simp [State.moveBlank]
  have placed (v : State) : ((v.putEntry m.tract fun e => { e with mig := false, badg := false, pt := m.dst }).entry m.tract)
      = { v.entry m.tract with mig := false, badg := false, pt := m.dst } := by
    have kept (w : State) : (w.checkpoint m.tract).entry m.tract = w.entry m.tract := by simp
    rw [State.putEntry, kept, State.modEntry_entry]
  have entry : (s.moveBlank m).entry m.tract = { s.entry m.tract with mig := false, badg := false, pt := m.dst } := by
    rw [State.moveBlank]
    have kept (w : State) : (((w.placed m).countMig m.cause).giveUpPt m.src false).entry = w.entry := by simp
    rw [kept, placed]
    rfl
  refine ⟨?_, by rw [entry], by rw [entry]⟩
  rw [State.running_eq, migs]
  refine List.find?_eq_none.mpr fun x listed => ?_
  have other : x.tract ≠ m.tract := by simpa using (List.mem_filter.mp listed).2
  simp [other]

theorem does_migrationRowCopy_blank {fs : List Finding} (found : s.running tract = some m) (copying : m.state = .copying)
    (unfinished : m.cursor ≠ 512) (engine : s.isOut 0x298 = false) (blank : s.sealIndex m.src = none) (own : logicalTracts ≤ tract)
    (idle : s.engineWorks .migration tract = false) (alone : s.trc.migs = [m]) :
    Does (.migrationRowCopy tract fs) s fun t =>
      t.running tract = none ∧ (t.entry tract).pt = m.dst ∧ (t.entry tract).mig = false := by
  obtain ⟨-, here, -⟩ := runningIn_some found
  have system : decide (m.tract < logicalTracts) = false := by simp; omega
  have calm : s.nodesBusy m = false := by simp only [State.nodesBusy, system, Bool.false_and]
  generalize hlast : ({ m.withLost fs s with cursor := 512 } : Migration) = last
  generalize hw : ((s.modMig tract fun _ => m.withLost fs s).modMig tract fun m => { m with cursor := 512 }) = w
  have migs : w.trc.migs = [last] := by
    rw [← hw, ← hlast]
    simp [State.modMig, alone, here, Migration.withLost]
  have next : exec (.migrationRowCopy tract fs) s = .next w.migSync := by
    have unsealed : (s.modMig tract fun _ => m.withLost fs s).sealIndex m.src = none := (State.sealIndex_modMig ..).trans blank
    have still (v : State) : v.moveNodes (m.withLost fs s) = v := if_pos (own.trans_eq here.symm)
    rw [← hw]
    simp only [exec, execMigrationRowCopy, found]
    rw [if_neg (by simp [copying, unfinished, engine, calm])]
    simp only [Migration.withLost] at unsealed still ⊢
    rw [unsealed]
    simp only [still]
  have due : last.state = .copying ∧ last.cursor = 512 ∧ ¬ w.engineWorks .migration last.tract = true := by
    rw [← hlast, ← hw]
    refine ⟨copying, rfl, ?_⟩
    have works : ((s.modMig tract fun _ => m.withLost fs s).modMig tract fun m => { m with cursor := 512 }).engineWorks .migration m.tract
        = s.engineWorks .migration m.tract := rfl
    rw [show ({ m.withLost fs s with cursor := 512 } : Migration).tract = m.tract from rfl, works, here, idle]
    exact Bool.false_ne_true
  have unsealed : w.sealIndex last.src = none := by
    rw [← hlast, ← hw, State.sealIndex_modMig, State.sealIndex_modMig]
    exact blank
  have moved : w.migSync = w.moveBlank last := by
    rw [State.migSync, migs]
    simp only [forEach, State.copyEnds, if_pos due, unsealed]
  have tract' : last.tract = tract := by rw [← hlast]; exact here
  have dst : last.dst = m.dst := by rw [← hlast]; rfl
  refine does_of_next (next.trans (congrArg _ moved)) ?_
  rw [← tract', ← dst]
  exact State.moveBlank_ends last w

/-! ## The seal and what follows it -/

theorem does_sealVerified (found : s.running tract = some m) (only : ∀ x ∈ s.trc.migs, x.tract = tract → x = m) (sealing : m.state = .sealing)
    (idle : s.engineWorks .migration tract = false) : Does (.sealVerified tract) s fun t =>
      t.running tract = some { m with state := .sealed } ∧ t.readPt tract = m.dst ∧ t.trc.map = s.trc.map := by
  obtain ⟨-, here, -⟩ := runningIn_some found
  have next : exec (.sealVerified tract) s
      = .next (((s.modMig tract fun m => { m with state := .sealed }).dropNodesAt tract m.src).dirtySync).bufferSync := by
    simp only [exec, execSealVerified, found]
    exact if_neg (by simp [sealing, idle])
  generalize ht : (((s.modMig tract fun m => { m with state := .sealed }).dropNodesAt tract m.src).dirtySync).bufferSync = t at next
  have trc : t.trc = (s.modMig tract fun m => { m with state := .sealed }).trc := by rw [← ht]; simp
  have running : t.running tract = some { m with state := .sealed } := by
    rw [State.running_eq, trc]
    exact State.running_modMig (f := fun m => { m with state := .sealed }) found only here (by simp)
  refine does_of_next next ⟨running, ?_, ?_⟩
  · rw [State.readPt, running]
    simp
  · rw [trc]; rfl

theorem does_sourceReadsDrained (found : s.running tract = some m) (only : ∀ x ∈ s.trc.migs, x.tract = tract → x = m)
    (sealed : m.state = .sealed) (read : Tab.rd 0 s.trc.readsOn m.src = 0) : Does (.sourceReadsDrained tract) s fun t =>
      t.running tract = some { m with state := .clearing } ∧ t.trc.map = s.trc.map ∧ (systemTract tract = true → t.directoryPt tract = m.dst) := by
  obtain ⟨-, here, -⟩ := runningIn_some found
  generalize hv : ((s.modMig tract fun m => { m with state := .clearing }).when (systemTract tract) (State.putDirectory tract m.dst)) = v
  have next : exec (.sourceReadsDrained tract) s = .next (v.startClear m.src) := by
    rw [← hv]
    simp only [exec, execSourceReadsDrained, found]
    exact if_pos ⟨sealed, read⟩
  have kept : v.trc.migs = (s.modMig tract fun m => { m with state := .clearing }).trc.migs ∧ v.trc.map = s.trc.map := by
    rw [← hv, State.when]
    split
    · simp [State.putDirectory, State.modMig]
    · exact ⟨rfl, rfl⟩
  have cleared : (v.startClear m.src).trc = v.trc := by simp
  refine does_of_next next ⟨?_, ?_, fun system => ?_⟩
  · rw [State.running_eq, cleared, kept.1]
    exact State.running_modMig (f := fun m => { m with state := .clearing }) found only here (by simp)
  · rw [cleared, kept.2]
  · rw [State.directoryPt, cleared, ← hv, State.when, system, if_pos rfl]
    have placed (w : State) : (w.putDirectory tract m.dst).trc.directory = Tab.put (fun u => (shipEntry u).pt) w.trc.directory tract m.dst := by
      simp [State.putDirectory]
    rw [placed, Tab.get_put_same]

theorem State.releasing_modMig (listed : ∃ x ∈ s.trc.migs, x.tract = tract) :
    ∃ x, (s.modMig tract fun m => { m with state := .releasing }).running tract = some x ∧ x.state = .releasing := by
  obtain ⟨y, listed, here⟩ := listed
  generalize hl : (s.modMig tract fun m => { m with state := .releasing }).trc.migs = l
  have changed : l = s.trc.migs.map fun m => if m.tract = tract then { m with state := .releasing } else m := by rw [← hl]; rfl
  have some' : (runningIn l tract).isSome := by
    refine List.find?_isSome.mpr ⟨{ y with state := .releasing }, ?_, by simp [here]⟩
    rw [changed]
    exact List.mem_map.mpr ⟨y, listed, if_pos here⟩
  obtain ⟨x, found⟩ := Option.isSome_iff_exists.mp some'
  refine ⟨x, by rw [State.running_eq, hl]; exact found, ?_⟩
  obtain ⟨inList, mine, -⟩ := runningIn_some found
  rw [changed] at inList
  obtain ⟨z, -, rfl⟩ := List.mem_map.mp inList
  split at mine
  case isTrue yes => rw [if_pos yes]
  case isFalse no => exact absurd mine no

theorem State.queueMig_listed (listed : ∃ x ∈ s.trc.migs, x.tract = tract) (n cause : Nat) : ∃ x ∈ (s.queueMig n cause).trc.migs, x.tract = tract := by
  obtain ⟨x, listed, here⟩ := listed
  unfold State.queueMig
  split
  · exact ⟨x, listed, here⟩
  · split
    · refine ⟨if x.tract = n then x.addCause cause else x, ?_, ?_⟩
      · rw [State.modTrc_trc]
        exact List.mem_map.mpr ⟨x, listed, rfl⟩
      · split
        · exact (Migration.addCause_kept x cause).1.trans here
        · exact here
    · refine ⟨x, ?_, here⟩
      rw [State.modTrc_trc]
      exact List.mem_append_left _ listed

theorem State.endEpoch_listed (listed : ∃ x ∈ s.trc.migs, x.tract = tract) (pt : Nat) : ∃ x ∈ (s.endEpoch pt).trc.migs, x.tract = tract := by
  unfold State.endEpoch
  dsimp only
  split
  · split
    · split
      · exact State.queueMig_listed (by simpa [State.raisePeak] using listed) _ 2
      · simpa [State.raisePeak] using listed
    · simpa [State.raisePeak] using listed
  · simpa [State.raisePeak] using listed

/-- The source's clear is complete, and the entry in copy A of the checkpoint names the destination. -/
def State.sourceLeft (m : Migration) (s : State) : State :=
  (((s.endEpoch m.src).modEntry m.tract fun e => { e with pt := m.dst }).checkpointA m.tract).placed m

theorem State.sourceLeft_entry (m : Migration) (s : State) : (s.sourceLeft m).entry m.tract = { s.entry m.tract with pt := m.dst } := by
  have kept (v : State) : ((v.checkpointA m.tract).placed m).entry m.tract = v.entry m.tract := by simp
  have before : (s.endEpoch m.src).entry = s.entry := by simp
  rw [State.sourceLeft, kept, State.modEntry_entry, before]

theorem State.sourceLeft_ckptA (m : Migration) (s : State) :
    Tab.get shipEntry (s.sourceLeft m).trc.ckptA m.tract = ckptEntry ((s.sourceLeft m).entry m.tract) := by
  have kept (v : State) : (v.placed m).trc.ckptA = v.trc.ckptA ∧ (v.placed m).entry = v.entry := by simp
  have written (v : State) : (v.checkpointA m.tract).trc.ckptA = Tab.put shipEntry (v.ckptProgram 0 m.tract).trc.ckptA m.tract (ckptEntry (v.entry m.tract)) := by
    rw [State.checkpointA, State.modTrc_trc]
  have same (v : State) : (v.checkpointA m.tract).entry = v.entry := by simp
  rw [State.sourceLeft, (kept _).1, (kept _).2, written, Tab.get_put_same, same]

theorem does_sourceClearComplete (found : s.running tract = some m) (clearing : m.state = .clearing) (cleared : s.cleared m.src = true) :
    Does (.sourceClearComplete tract) s fun t =>
        (∃ x, t.running tract = some x ∧ x.state = .releasing) ∧ t.entry tract = { s.entry tract with pt := m.dst }
          ∧ Tab.get shipEntry t.trc.ckptA tract = ckptEntry (t.entry tract) ∧ t.trc.ckptB = s.trc.ckptB := by
  obtain ⟨listed, rfl, -⟩ := runningIn_some found
  have next : exec (.sourceClearComplete m.tract) s = .next ((s.sourceLeft m).modMig m.tract fun m => { m with state := .releasing }) := by
    simp only [exec, execSourceClearComplete, found, clearing, cleared, and_self, if_true, State.sourceLeft]
  have still : ∃ x ∈ (s.sourceLeft m).trc.migs, x.tract = m.tract := by
    have kept (v : State) (f : MapEntry → MapEntry) : (((v.modEntry m.tract f).checkpointA m.tract).placed m).trc.migs = v.trc.migs := by simp
    rw [State.sourceLeft, kept]
    exact State.endEpoch_listed ⟨m, listed, rfl⟩ m.src
  have entry := State.sourceLeft_entry m s
  have ckptA := State.sourceLeft_ckptA m s
  have ckptB : (s.sourceLeft m).trc.ckptB = s.trc.ckptB := by simp [State.sourceLeft]
  generalize s.sourceLeft m = u at next still entry ckptA ckptB
  exact does_of_next next ⟨State.releasing_modMig still, entry, ckptA, ckptB⟩

theorem does_checkpointVerified (canonical : s.canonical = true) (found : s.running tract = some m) (releasing : m.state = .releasing) :
    Does (.checkpointVerified tract) s fun t => (∀ x ∈ t.trc.migs, x.tract ≠ tract)
        ∧ t.entry tract = { s.entry tract with mig := false, badg := false, refr := false } ∧ ∀ j, j ≠ tract → t.entry j = s.entry j := by
  generalize hv : ((s.checkpointB tract).modTrc fun x => { x with migs := x.migs.filter fun y => y.tract != tract }) = v
  have next : exec (.checkpointVerified tract) s = .next (((v.modEntry tract fun e => { e with mig := false, badg := false, refr := false }).countMig
      m.cause).freeTract m.src false) := by
    rw [← hv]
    simp only [exec, execCheckpointVerified, found]
    exact if_pos releasing
  have map : v.trc.map = s.trc.map := by rw [← hv]; simp
  have entry : v.entry = s.entry := by funext n; rw [State.entry, State.entry, map]
  have kept (w : State) : ((w.countMig m.cause).freeTract m.src false).trc.migs = w.trc.migs
      ∧ ((w.countMig m.cause).freeTract m.src false).entry = w.entry := by simp
  refine does_of_next next ⟨fun x listed => ?_, ?_, fun j other => ?_⟩
  · rw [(kept _).1, State.modEntry, State.modTrc_trc, ← hv, State.modTrc_trc] at listed
    simpa using (List.mem_filter.mp listed).2
  · rw [(kept _).2, State.modEntry_entry, entry]
  · rw [(kept _).2, State.entry, State.modEntry, State.modTrc_trc]
    exact (Tab.get_put_ne _ _ _ other (by rw [map]; exact State.trc_map_wf canonical)).trans (congrFun entry j)
end
end Sys2Proof.Machine
open Sys2Proof Sys2Proof.Machine
/-- Settles O40: each stage changes the tract's one migration, found again by its tract, and the map's entry where R197 says so. -/
theorem migrations : Obligations.Migrations := by
  unfold Obligations.Migrations
  intro s tract m canonical
  refine ⟨fun dst => does_migrationStart canonical, fun found only => ⟨?copy, ?blank, does_sealVerified found only, does_sourceReadsDrained found only,
    does_sourceClearComplete found, does_checkpointVerified canonical found⟩⟩
  case copy =>
    exact fun g fs copying unfinished engine calm seal' => ⟨does_migrationRowCopy found only copying unfinished engine calm seal',
      does_migrationRowCopy_last found copying unfinished engine calm seal'⟩
  case blank =>
    exact fun fs copying unfinished engine blank own idle alone => does_migrationRowCopy_blank found copying unfinished engine blank own idle alone
end

section
/-! PROOFS. The wear epoch, refresh visits and the re-establishment of a lost tract (O41). -/
namespace Sys2Proof.Machine

/-! ## The wear epoch -/

theorem State.endEpoch_epoch (pt : Nat) (s : State) : (s.endEpoch pt).trc.epoch = s.trc.epoch.filter fun e => ptOfAddr e.1 != pt := by
  unfold State.endEpoch
  dsimp only
  split
  · split
    · split <;> simp [State.raisePeak]
    · simp [State.raisePeak]
  · simp [State.raisePeak]

theorem State.endEpoch_free (pt : Nat) (s : State) : (s.endEpoch pt).free = s.free + 1 := by
  unfold State.endEpoch
  dsimp only
  split
  · split
    · split <;> simp [State.raisePeak]
    · simp [State.raisePeak]
  · simp [State.raisePeak]

theorem State.endEpoch_peak (pt : Nat) (s : State) : (s.endEpoch pt).trc.peak = (s.raisePeak pt (s.epochUnits pt)).trc.peak := by
  unfold State.endEpoch
  dsimp only
  split
  · split
    · split <;> simp
    · simp
  · simp

theorem State.endEpoch_peak_wf (pt : Nat) {s : State} (wf : Tab.wf (fun _ => 0) s.trc.peak = true) :
    Tab.wf (fun _ => 0) (s.endEpoch pt).trc.peak = true := by
  rw [State.endEpoch_peak, State.raisePeak, State.modTrc_trc]
  dsimp only
  exact Tab.mod_wf _ _ _ _ wf

theorem State.endEpoch_peakOf {pt j : Nat} (other : j ≠ pt) {s : State} (wf : Tab.wf (fun _ => 0) s.trc.peak = true) :
    (s.endEpoch pt).peakOf j = s.peakOf j := by
  have base : (s.endEpoch pt).trc.peakBase = s.trc.peakBase := by simp
  rw [State.peakOf, State.peakOf, State.endEpoch_peak, base, State.raisePeak, State.modTrc_trc, Tab.rd_mod_ne _ _ _ other wf]

theorem State.endEpochs_epoch {l : List Nat} {s : State} {e : Nat × Nat} (listed : e ∈ (forEach l State.endEpoch s).trc.epoch) :
    e ∈ s.trc.epoch ∧ ptOfAddr e.1 ∉ l := by
  induction l generalizing s with
  | nil => exact ⟨listed, by simp⟩
  | cons pt l ih =>
    obtain ⟨before, later⟩ := ih listed
    rw [State.endEpoch_epoch] at before
    obtain ⟨before, other⟩ := List.mem_filter.mp before
    have other : ptOfAddr e.1 ≠ pt := by simpa using other
    exact ⟨before, by simp [other, later]⟩

theorem State.endEpochs_free (l : List Nat) (s : State) : (forEach l State.endEpoch s).free = s.free + l.length := by
  induction l generalizing s with
  | nil => rfl
  | cons pt l ih =>
    rw [forEach, ih, State.endEpoch_free, List.length_cons]
    omega

theorem State.endEpochs_peakOf {l : List Nat} {j : Nat} (other : j ∉ l) {s : State} (wf : Tab.wf (fun _ => 0) s.trc.peak = true) :
    (forEach l State.endEpoch s).peakOf j = s.peakOf j := by
  induction l generalizing s with
  | nil => rfl
  | cons pt l ih =>
    obtain ⟨here, later⟩ : j ≠ pt ∧ j ∉ l := by simpa using other
    rw [forEach, ih later (State.endEpoch_peak_wf pt wf), State.endEpoch_peakOf here wf]

theorem does_wearEpoch {s : State} (canonical : s.canonical = true) : Does .wearEpoch s fun t => t.trc.epoch = []
    ∧ t.free = s.free + ((s.trc.epoch.map fun e => ptOfAddr e.1).dedup).length
    ∧ ∀ pt, (∀ e ∈ s.trc.epoch, ptOfAddr e.1 ≠ pt) → t.peakOf pt = s.peakOf pt := by
  have next : exec .wearEpoch s = .next (((forEach (s.trc.epoch.map fun e => ptOfAddr e.1).dedup State.endEpoch s).levelling).evacuation) := rfl
  have kept (v : State) : v.levelling.evacuation.trc.epoch = v.trc.epoch ∧ v.levelling.evacuation.free = v.free
      ∧ v.levelling.evacuation.trc.peak = v.trc.peak ∧ v.levelling.evacuation.trc.peakBase = v.trc.peakBase := by simp
  refine does_of_next next ⟨?_, ?_, fun pt unused => ?_⟩
  · rw [(kept _).1]
    refine List.eq_nil_iff_forall_not_mem.mpr fun e listed => ?_
    obtain ⟨before, other⟩ := State.endEpochs_epoch listed
    exact other (List.mem_dedup.mpr (List.mem_map.mpr ⟨e, before, rfl⟩))
  · rw [(kept _).2.1, State.endEpochs_free]
  · rw [State.peakOf, (kept _).2.2.1, (kept _).2.2.2]
    refine State.endEpochs_peakOf (fun listed => ?_) (State.trc_peak_wf canonical)
    obtain ⟨e, before, same⟩ := List.mem_map.mp (List.mem_dedup.mp listed)
    exact unused e before same

/-! ## A refresh visit -/

theorem find?_insert_same {α : Type} (t : Tab α) (a : Nat) (v : α) : (Tab.insert t a v).find? (fun e => e.1 == a) = some (a, v) := by
  induction t with
  | nil => simp [Tab.insert]
  | cons e t ih =>
    unfold Tab.insert
    split
    · simp
    · split
      · simp
      case isFalse other _ => rw [List.find?_cons_of_neg (by simpa using other), ih]

theorem find?_insert_ne {α : Type} {a b : Nat} (other : a ≠ b) (t : Tab α) (v : α) :
    (Tab.insert t b v).find? (fun e => e.1 == a) = t.find? (fun e => e.1 == a) := by
  induction t with
  | nil => simp [Tab.insert, other.symm]
  | cons e t ih =>
    unfold Tab.insert
    split
    case isTrue same => simp [same, other.symm]
    case isFalse =>
      split
      · simp [List.find?_cons, other.symm]
      · simp only [List.find?_cons, ih]

/-- The image that a visit programs at address `a`: as it stands, with the epoch of now. -/
def State.refreshed (s : State) (a : Nat) : Granule := { s.image a with hdr := { (s.image a).hdr with epoch := s.epochNow, writer := 2 } }

/-- Address `a`, which no die or list of bad granules keeps from being programmed, has the image `g` registered. -/
def Registers (a : Nat) (g : Granule) (s : State) : Prop := s.registered a = some g ∧ s.image a = g

/-- What a visit that began in `s` has left of address `a` so far. -/
structure Visiting (a : Nat) (s v : State) : Prop where
  tim : v.tim = s.tim
  present : v.lostAt a = false ∧ v.dieOut (dieOf a) = false ∧ v.badGranule a = false
  image : (v.registered a = none ∧ v.image a = s.image a) ∨ Registers a (s.refreshed a) v

theorem State.request_wb {e : Engine} {owner a : Nat} {g : Granule} {s : State} (there : s.dieOut (dieOf a) = false) (good : s.badGranule a = false) :
    (s.request e owner a g).wb.inProgram = Tab.insert s.wb.inProgram a g := by
  rw [State.request, if_neg (by simp [there, good])]
  dsimp only
  split <;> simp

theorem State.request_wb_or (e : Engine) (owner a : Nat) (g : Granule) (s : State) :
    (s.request e owner a g).wb.inProgram = s.wb.inProgram ∨ (s.request e owner a g).wb.inProgram = Tab.insert s.wb.inProgram a g := by
  unfold State.request
  split
  · exact .inl rfl
  · refine .inr ?_
    dsimp only
    split <;> simp

/-- A rewrite of another address leaves the images registered, and the image read, at `a`. -/
theorem State.rewrite_other {e : Engine} {owner a b writer : Nat} (other : a ≠ b) (s : State) :
    (s.rewrite e owner b writer).registered a = s.registered a ∧ (s.rewrite e owner b writer).image a = s.image a := by
  have granules : (s.rewrite e owner b writer).granule = s.granule := by
    funext n
    have same : (s.rewrite e owner b writer).med.granules = s.med.granules := by simp
    rw [State.granule, State.granule, same]
  have programs : (s.rewrite e owner b writer).wb.inProgram = s.wb.inProgram
      ∨ ∃ g, (s.rewrite e owner b writer).wb.inProgram = Tab.insert s.wb.inProgram b g := by
    unfold State.rewrite
    dsimp only
    split
    · exact .inl rfl
    · have before : (s.countSenses b 4).wb.inProgram = s.wb.inProgram := by simp
      rcases State.request_wb_or e owner b _ (s.countSenses b 4) with same | inserted
      · exact .inl (same.trans before)
      · exact .inr ⟨_, inserted.trans (by rw [before])⟩
  rcases programs with same | ⟨g, inserted⟩
  · exact ⟨by rw [State.registered, State.registered, same], by rw [State.image, State.image, granules, same]⟩
  · refine ⟨by rw [State.registered, State.registered, inserted, find?_insert_ne other], ?_⟩
    rw [State.image, State.image, granules, inserted, Tab.get_insert_ne _ _ _ other]

theorem State.rewrite_present (e : Engine) (owner b writer a : Nat) (s : State) : (s.rewrite e owner b writer).lostAt a = s.lostAt a
    ∧ (s.rewrite e owner b writer).dieOut (dieOf a) = s.dieOut (dieOf a) ∧ (s.rewrite e owner b writer).badGranule a = s.badGranule a := by
  simp [State.lostAt, State.dieOut, State.dieLost, State.rebuilt, State.badGranule, State.notHealthy]

theorem State.rewrite_registers {owner a : Nat} {s : State} (e : Engine) (here : s.lostAt a = false) (there : s.dieOut (dieOf a) = false)
    (good : s.badGranule a = false) (live : (s.image a).blank = false) : Registers a (s.refreshed a) (s.rewrite e owner a 2) := by
  have counted (v : State) : (v.countSenses a 4).dieOut (dieOf a) = v.dieOut (dieOf a) ∧ (v.countSenses a 4).badGranule a = v.badGranule a
      ∧ (v.countSenses a 4).wb.inProgram = v.wb.inProgram := by simp [State.dieOut, State.badGranule]
  obtain ⟨out, bad, programs⟩ := counted s
  have inserted : (s.rewrite e owner a 2).wb.inProgram = Tab.insert s.wb.inProgram a (s.refreshed a) := by
    unfold State.rewrite
    dsimp only
    rw [if_neg (by simp [here, live]), State.request_wb (out.trans there) (bad.trans good), programs]
    rfl
  refine ⟨?_, ?_⟩
  · rw [State.registered, inserted, find?_insert_same, Option.map_some]
  · rw [State.image, inserted, Tab.get_insert_same]

theorem State.refreshed_again {s v : State} (tim : v.tim = s.tim) {a : Nat} (image : v.image a = s.image a ∨ v.image a = s.refreshed a) :
    v.refreshed a = s.refreshed a := by
  have now : v.epochNow = s.epochNow := by rw [State.epochNow, State.epochNow, tim]
  rcases image with same | fresh
  · rw [State.refreshed, State.refreshed, same, now]
  · rw [State.refreshed, now, fresh]
    rfl

section
variable {a b owner : Nat} {e : Engine} {s v : State}

theorem Visiting.fresh (visiting : Visiting a s v) : v.refreshed a = s.refreshed a :=
  State.refreshed_again visiting.tim (visiting.image.imp (fun untouched => untouched.2) fun done => done.2)

theorem Visiting.registers (visiting : Visiting a s v) (live : (v.image a).blank = false) : Registers a (s.refreshed a) (v.rewrite e owner a 2) := by
  obtain ⟨here, there, good⟩ := visiting.present
  exact visiting.fresh ▸ State.rewrite_registers e here there good live

theorem State.rewrite_blank (blank : (v.image b).blank = true) : v.rewrite e owner b 2 = v := by
  simp [State.rewrite, blank]

theorem Visiting.rewrite (visiting : Visiting a s v) : Visiting a s (v.rewrite e owner b 2) := by
  obtain ⟨lost, out, bad⟩ := State.rewrite_present e owner b 2 a v
  refine ⟨(show (v.rewrite e owner b 2).tim = v.tim by simp).trans visiting.tim, by rw [lost, out, bad]; exact visiting.present, ?_⟩
  by_cases other : a = b
  · subst other
    cases live : (v.image a).blank with
    | false => exact .inr (visiting.registers live)
    | true => rw [State.rewrite_blank live]; exact visiting.image
  · obtain ⟨registered, image⟩ := State.rewrite_other (e := e) (owner := owner) (writer := 2) other v
    simp only [Registers, registered, image]
    exact visiting.image

theorem Visiting.still (visiting : Visiting a s v) (done : Registers a (s.refreshed a) v) : Registers a (s.refreshed a) (v.rewrite e owner b 2) := by
  by_cases other : a = b
  · subst other
    cases live : (v.image a).blank with
    | false => exact visiting.registers live
    | true => rw [State.rewrite_blank live]; exact done
  · obtain ⟨registered, image⟩ := State.rewrite_other (e := e) (owner := owner) (writer := 2) other v
    exact ⟨registered.trans done.1, image.trans done.2⟩

theorem Visiting.rewrites_still (visiting : Visiting a s v) (done : Registers a (s.refreshed a) v) (l : List Nat) :
    Registers a (s.refreshed a) (forEach l (fun b => State.rewrite e owner b 2) v) := by
  induction l generalizing v with
  | nil => exact done
  | cons b l ih => exact ih visiting.rewrite (visiting.still done)

/-- Once its turn has come, a live image of the visit is registered with the epoch of now. -/
theorem Visiting.rewrites (visiting : Visiting a s v) (before : v.registered a = none) (live : (s.image a).blank = false) {l : List Nat} (listed : a ∈ l) :
    Registers a (s.refreshed a) (forEach l (fun b => State.rewrite e owner b 2) v) := by
  induction l generalizing v with
  | nil => cases listed
  | cons b l ih =>
    by_cases here : a = b
    · subst here
      have image : v.image a = s.image a := visiting.image.elim (fun untouched => untouched.2) fun done => by
        rw [done.1] at before; cases before
      exact visiting.rewrite.rewrites_still (visiting.registers (image ▸ live)) l
    · obtain ⟨registered, -⟩ := State.rewrite_other (e := e) (owner := owner) (writer := 2) here v
      exact ih visiting.rewrite (registered.trans before) ((List.mem_cons.mp listed).resolve_left here)
end

/-- The visit's rewrites. -/
def State.visited (pt : Nat) (fs : List Finding) (s : State) : State :=
  forEach (((List.range 512).flatMap fun row => (stripe pt row).filter fun a => !(s.image a).blank && !s.lostAt a).filter fun a =>
    s.refreshDue pt fs a && (s.registered a).isNone) (fun a => State.rewrite .refresh pt a 2) s

theorem State.visited_registered {s : State} {pt row a : Nat} {fs : List Finding} (inRange : row < 512) (inRow : a ∈ stripe pt row)
    (live : (s.image a).blank = false) (here : s.lostAt a = false) (there : s.dieOut (dieOf a) = false) (good : s.badGranule a = false)
    (before : s.registered a = none) (due : s.refreshDue pt fs a = true) : (s.visited pt fs).registered a = some (s.refreshed a) := by
  have visiting : Visiting a s s := ⟨rfl, ⟨here, there, good⟩, .inl ⟨before, rfl⟩⟩
  refine (visiting.rewrites before live (List.mem_filter.mpr ⟨List.mem_flatMap.mpr ⟨row, List.mem_range.mpr inRange,
    List.mem_filter.mpr ⟨inRow, ?_⟩⟩, ?_⟩)).1
  · simp [live, here]
  · simp [due, before]

theorem exec_refreshVisit {s : State} {pt n : Nat} {fs : List Finding} (placed : s.tractAt pt = some n) (engine : s.isOut 0x29A = false)
    (core : s.coreOn = true) : ∃ k rewrite c z o old, exec (.refreshVisit pt fs) s = .next
      (let v := ((((s.visited pt fs).engineCount 2 0 1).engineCount 2 1 k).modScr fun x => { x with rewrite := x.rewrite.filter rewrite }).refrSync n
      let v := (v.when z (State.zeroReads n)).when o (State.noteOldest n old)
      let v := v.modTrc fun x => { x with sweep := (x.sweep + 1) % occupiedTracts }
      v.when c State.sweepEnds) := by
  simp only [exec, execRefreshVisit, placed, engine, core, State.visited]
  exact ⟨_, _, _, _, _, _, rfl⟩

/-- The end of a visit: the counts, the rewrite queue, REFR and the sweep. -/
def State.visitEnded (k n old : Nat) (rewrite : Nat → Bool) (z o c : Bool) (s : State) : State :=
  let v := (((s.engineCount 2 0 1).engineCount 2 1 k).modScr fun x => { x with rewrite := x.rewrite.filter rewrite }).refrSync n
  let v := (v.when z (State.zeroReads n)).when o (State.noteOldest n old)
  let v := v.modTrc fun x => { x with sweep := (x.sweep + 1) % occupiedTracts }
  v.when c State.sweepEnds

theorem State.when_same {β : Type} (g : State → β) {f : State → State} (same : ∀ v, g (f v) = g v) (c : Bool) (s : State) : g (s.when c f) = g s := by
  cases c with
  | true => exact same s
  | false => rfl

theorem State.visitEnded_sweep (k n old : Nat) (rewrite : Nat → Bool) (z o c : Bool) (s : State) :
    (s.visitEnded k n old rewrite z o c).trc.sweep = (s.trc.sweep + 1) % occupiedTracts := by
  have zeroed (v : State) : (v.when z (State.zeroReads n)).trc.sweep = v.trc.sweep := State.when_same (·.trc.sweep) (fun _ => by simp) z v
  have noted (v : State) : (v.when o (State.noteOldest n old)).trc.sweep = v.trc.sweep := State.when_same (·.trc.sweep) (fun _ => by simp) o v
  have ended (v : State) : (v.when c State.sweepEnds).trc.sweep = v.trc.sweep := State.when_same (·.trc.sweep) (fun _ => by simp) c v
  rw [State.visitEnded, ended, State.modTrc_trc, noted, zeroed]
  simp

theorem State.visitEnded_inProgram (k n old : Nat) (rewrite : Nat → Bool) (z o c : Bool) (s : State) :
    (s.visitEnded k n old rewrite z o c).wb.inProgram = s.wb.inProgram := by
  have zeroed (v : State) : (v.when z (State.zeroReads n)).wb = v.wb := State.when_same (·.wb) (fun _ => by simp) z v
  have noted (v : State) : (v.when o (State.noteOldest n old)).wb = v.wb := State.when_same (·.wb) (fun _ => by simp) o v
  have ended (v : State) : (v.when c State.sweepEnds).wb = v.wb := State.when_same (·.wb) (fun _ => by simp) c v
  rw [State.visitEnded, ended, State.modTrc_wb, noted, zeroed]
  simp

/-- Of the map, a visit changes REFR of its tract's entry, and never sets it. -/
theorem State.visitEnded_map (k n old : Nat) (rewrite : Nat → Bool) (z o c : Bool) (s : State) : ∃ keep : MapEntry → Bool,
    (s.visitEnded k n old rewrite z o c).trc.map = (s.modEntry n fun e => { e with refr := e.refr && keep e }).trc.map := by
  have zeroed (v : State) : (v.when z (State.zeroReads n)).trc.map = v.trc.map := State.when_same (·.trc.map) (fun _ => by simp) z v
  have noted (v : State) : (v.when o (State.noteOldest n old)).trc.map = v.trc.map := State.when_same (·.trc.map) (fun _ => by simp) o v
  have ended (v : State) : (v.when c State.sweepEnds).trc.map = v.trc.map := State.when_same (·.trc.map) (fun _ => by simp) c v
  generalize hv : (((s.engineCount 2 0 1).engineCount 2 1 k).modScr fun x => { x with rewrite := x.rewrite.filter rewrite }) = v
  have before : v.trc.map = s.trc.map := by rw [← hv]; simp
  refine ⟨fun e => v.scr.rewrite.any fun a => ptOfAddr a == e.pt, ?_⟩
  have whole : s.visitEnded k n old rewrite z o c = (((((v.refrSync n).when z (State.zeroReads n)).when o (State.noteOldest n old)).modTrc
      fun x => { x with sweep := (x.sweep + 1) % occupiedTracts })).when c State.sweepEnds := by rw [← hv]; rfl
  have swept (w : State) : (w.modTrc fun x => { x with sweep := (x.sweep + 1) % occupiedTracts }).trc.map = w.trc.map := rfl
  rw [whole, ended, swept, noted, zeroed, State.refrSync, State.modEntry, State.modEntry, State.modTrc_trc, State.modTrc_trc, before]

theorem State.visited_kept (pt : Nat) (fs : List Finding) (s : State) :
    (s.visited pt fs).trc.map = s.trc.map ∧ (s.visited pt fs).trc.sweep = s.trc.sweep := by
  unfold State.visited
  generalize List.filter _ (List.flatMap _ (List.range 512)) = due
  exact forEach_keeps (P := fun v => v.trc.map = s.trc.map ∧ v.trc.sweep = s.trc.sweep) due (fun _ _ kept => by simpa using kept) ⟨rfl, rfl⟩

theorem does_refreshVisit {s : State} {pt n : Nat} {fs : List Finding} (canonical : s.canonical = true) (placed : s.tractAt pt = some n)
    (engine : s.isOut 0x29A = false) (core : s.coreOn = true) : Does (.refreshVisit pt fs) s fun t =>
      t.entry n = { s.entry n with refr := (t.entry n).refr } ∧ ((t.entry n).refr = true → (s.entry n).refr = true) ∧ (∀ j, j ≠ n → t.entry j = s.entry j)
        ∧ t.trc.sweep = (s.trc.sweep + 1) % occupiedTracts
        ∧ ∀ row a, row < 512 → a ∈ stripe pt row → (s.image a).blank = false → s.lostAt a = false → s.dieOut (dieOf a) = false →
          s.badGranule a = false → s.registered a = none → s.refreshDue pt fs a = true →
          t.registered a = some { s.image a with hdr := { (s.image a).hdr with epoch := s.epochNow, writer := 2 } } := by
  obtain ⟨k, rewrite, c, z, o, old, next⟩ := exec_refreshVisit (fs := fs) placed engine core
  have sweep := State.visitEnded_sweep k n old rewrite z o c (s.visited pt fs)
  have programs := State.visitEnded_inProgram k n old rewrite z o c (s.visited pt fs)
  obtain ⟨keep, map⟩ := State.visitEnded_map k n old rewrite z o c (s.visited pt fs)
  have next : exec (.refreshVisit pt fs) s = .next ((s.visited pt fs).visitEnded k n old rewrite z o c) := next
  generalize (s.visited pt fs).visitEnded k n old rewrite z o c = t at next sweep programs map
  have entry (j : Nat) : t.entry j = ((s.visited pt fs).modEntry n fun e => { e with refr := e.refr && keep e }).entry j := by
    rw [State.entry, State.entry, map]
  have before (j : Nat) : (s.visited pt fs).entry j = s.entry j := by rw [State.entry, State.entry, (State.visited_kept pt fs s).1]
  have here : t.entry n = { s.entry n with refr := (s.entry n).refr && keep (s.entry n) } := by
    rw [entry, State.modEntry_entry, before]
  refine does_of_next next ⟨?_, ?_, fun j other => ?_, ?_, fun row a inRange inRow live lost out bad untouched due => ?_⟩
  · rw [here]
  · rw [here]
    exact fun kept => (Bool.and_eq_true_iff.mp kept).1
  · have wf : Tab.wf shipEntry (s.visited pt fs).trc.map = true := by rw [(State.visited_kept pt fs s).1]; exact State.trc_map_wf canonical
    rw [entry, State.modEntry_entry_ne _ other wf, before]
  · rw [sweep, (State.visited_kept pt fs s).2]
  · rw [State.registered, programs]
    exact State.visited_registered inRange inRow live lost out bad untouched due

/-! ## A lost tract -/

theorem State.renew_entry {s : State} {n pt : Nat} {st : TractState} {pz : Bool} (settled : s.running n = none) (migs : s.trc.migs = [])
    (place : s.blankFor n = some pt) : (s.renew n st pz).entry n = { state := st, pt := pt } := by
  have alone : s.abandon n false false = s := by simp [State.abandon, settled]
  have same : (s.modTrc fun x => { x with migs := x.migs.filter fun m => m.tract != n }) = s := by
    have none : s.trc = { s.trc with migs := s.trc.migs.filter fun m => m.tract != n } := by rw [migs, List.filter_nil, ← migs]
    exact (congrArg (fun x => { s with trc := x }) none).symm
  rw [State.renew, alone]
  dsimp only
  rw [same, place]
  dsimp only
  have placed (v : State) : (v.putEntry n fun _ => { state := st, pt := pt }).entry n = { state := st, pt := pt } := by
    have kept (w : State) : (w.checkpoint n).entry n = w.entry n := by simp
    rw [State.putEntry, kept, State.modEntry_entry]
  have later (v : State) (f : TractS → TractS) (kept : ∀ x, (f x).map = x.map) (old : Nat) :
      (((v.modTrc f).giveUpPt old false).freshBlocks n pt pz).entry n = v.entry n := by
    have map : (((v.modTrc f).giveUpPt old false).freshBlocks n pt pz).trc.map = v.trc.map := by simp [kept]
    rw [State.entry, State.entry, map]
  exact (later _ _ (by intro _; rfl) _).trans (placed s)

theorem does_reEstablishment {s : State} {n pt : Nat} (logical : n < logicalTracts) (lost : (s.entry n).state = .integrityLost)
    (ready : s.str.dataReady = true) (calm : s.drains n = false) (settled : s.running n = none) (migs : s.trc.migs = [])
    (place : s.blankFor n = some pt) : Does (.reEstablishment n) s fun t =>
      t.entry n = { state := .mapped, pt := pt } ∧ t.itg.reestablished = s.itg.reestablished + 1 := by
  have next : exec (.reEstablishment n) s = .next (s.reestablish n) := if_pos ⟨logical, lost, ready, by simp [calm], by simp [place]⟩
  refine does_of_next next ⟨?_, ?_⟩
  · exact State.renew_entry settled migs place
  · simp [State.reestablish]
end Sys2Proof.Machine
open Sys2Proof Sys2Proof.Machine
/-- Settles O41: an epoch ends tract by tract, and a visit registers each due image once, whatever it rewrites before and after. -/
theorem wearAndRefresh : Obligations.WearAndRefresh := by
  unfold Obligations.WearAndRefresh
  intro s canonical
  exact ⟨does_wearEpoch canonical, rfl, fun pt n fs => does_refreshVisit canonical, fun n pt => does_reEstablishment⟩
end

section
/-! PROOFS. The re-keying of a region, debug windows and reads, and the judgement of the root (O43). -/
namespace Sys2Proof.Machine

/-! ## Re-keying (R210) -/

/-- A region's re-key has begun with the spans that are left of it. -/
def State.rekeyBegun (region n : Nat) (s : State) : State :=
  (s.modItg fun x =>
    { x with rekeyRegion := region, rekeyState := 1, rekeyLeft := s.rekeySpans region, rekeySlot := n
             rekeyExtents := [s.extentsOf region - rekeyExtentsLeft (s.rekeySpans region), s.extentsOf region] }).storeWrite 85

theorem State.rekeyOp_eq {s : State} {region : Nat} (known : region ≤ 63) (idle : s.itg.rekeyState ≠ 1) (used : (s.region region).mask ≠ 0)
    (core : s.domainOn 3 = true) (req : Req) :
    s.rekeyOp req region = s.deferred req 0x3201 0 (fun n => fun s => (s.rekeyBegun region n).rekeyFinish) := by
  rw [State.rekeyOp, if_neg (by omega), if_neg (by simp [idle, used]), if_neg (by simp [core])]
  rfl

theorem exec_rekeyRequest {s : State} {req : Req} {region n : Nat} (cox : s.coxUp = true) (may : mayWrite 0x3201 0 req = 0) (known : region ≤ 63)
    (idle : s.itg.rekeyState ≠ 1) (used : (s.region region).mask ≠ 0) (core : s.domainOn 3 = true) (free : s.freeSlot = some n) :
    ∃ ticket, exec (.rekeyRequest req region) s = .next (((((s.ticketStart req 0x3201 0).2).rekeyBegun region n).rekeyFinish).emit
      (.access req 0x3201 0 0 ticket)) := by
  refine ⟨((s.ticketStart req 0x3201 0).2.slot n).ticket, (accessed_of_up cox _).trans ?_⟩
  rw [guarded_of_may s may, State.rekeyOp_eq known idle used core, respondAccess_deferred free]

theorem State.ticketStart_rekeySpans (req : Req) (idx mem region : Nat) (s : State) :
    (s.ticketStart req idx mem).2.rekeySpans region = s.rekeySpans region := by
  have blocks : (s.ticketStart req idx mem).2.itg.blocks = s.itg.blocks := by simp
  have extent : (s.ticketStart req idx mem).2.extent = s.extent := by simp
  have region' : (s.ticketStart req idx mem).2.region = s.region := by simp
  rw [State.rekeySpans, State.rekeySpans, blocks, extent, region']

theorem State.rekeyFinish_left {s : State} (left : s.itg.rekeyLeft ≠ []) : s.rekeyFinish = s := if_neg fun done => left done.2

theorem does_rekeyRequest {s : State} {req : Req} {region n : Nat} (cox : s.coxUp = true) (may : mayWrite 0x3201 0 req = 0) (known : region ≤ 63)
    (idle : s.itg.rekeyState ≠ 1) (used : (s.region region).mask ≠ 0) (core : s.domainOn 3 = true) (free : s.freeSlot = some n)
    (left : s.rekeySpans region ≠ []) : Does (.rekeyRequest req region) s fun t => t.itg.rekeyState = 1 ∧ t.itg.rekeyRegion = region
        ∧ t.itg.rekeyLeft = s.rekeySpans region ∧ t.itg.rekeySlot = n ∧ t.region region = s.region region ∧ accepted req 0x3201 0 t := by
  obtain ⟨ticket, next⟩ := exec_rekeyRequest cox may known idle used core free
  have begun : ((s.ticketStart req 0x3201 0).2.rekeyBegun region n).itg.rekeyLeft = s.rekeySpans region := by
    simp [State.rekeyBegun, State.ticketStart_rekeySpans]
  rw [State.rekeyFinish_left (by rw [begun]; exact left)] at next
  refine does_of_next next ⟨?_, ?_, ?_, ?_, ?_, accepted_emit ..⟩
  · simp [State.rekeyBegun]
  · simp [State.rekeyBegun]
  · simpa using begun
  · simp [State.rekeyBegun]
  · simp [State.rekeyBegun]

/-- A re-key without spans left gives its region the next key generation. -/
theorem State.rekeyFinish_done {s : State} (running : s.itg.rekeyState = 1) (done : s.itg.rekeyLeft = []) : s.rekeyFinish.itg.rekeyState = 2
    ∧ s.rekeyFinish.region s.itg.rekeyRegion = { s.region s.itg.rekeyRegion with gen := (s.region s.itg.rekeyRegion).gen + 1, keyed := true } := by
  have keyed (v : State) (f : IntegS → IntegS) (n : Nat) : (((v.modRegion s.itg.rekeyRegion fun x => { x with gen := x.gen + 1, keyed := true }).storeWrite 86).modItg
      f |>.ticketDone n 0 []).region s.itg.rekeyRegion = { v.region s.itg.rekeyRegion with gen := (v.region s.itg.rekeyRegion).gen + 1, keyed := true } := by
    have kept (w : State) : ((w.storeWrite 86).modItg f |>.ticketDone n 0 []).region = w.region := by simp
    rw [kept, State.modRegion_region]
  rw [State.rekeyFinish, if_pos ⟨running, done⟩]
  refine ⟨by simp, keyed s _ _⟩

theorem does_rekeyRequest_empty {s : State} {req : Req} {region n : Nat} (cox : s.coxUp = true) (may : mayWrite 0x3201 0 req = 0) (known : region ≤ 63)
    (idle : s.itg.rekeyState ≠ 1) (used : (s.region region).mask ≠ 0) (core : s.domainOn 3 = true) (free : s.freeSlot = some n)
    (none : s.rekeySpans region = []) : Does (.rekeyRequest req region) s fun t => t.itg.rekeyState = 2
        ∧ t.region region = { s.region region with gen := (s.region region).gen + 1, keyed := true } ∧ accepted req 0x3201 0 t := by
  obtain ⟨ticket, next⟩ := exec_rekeyRequest cox may known idle used core free
  generalize hv : ((s.ticketStart req 0x3201 0).2.rekeyBegun region n) = v at next
  have left : v.itg.rekeyLeft = [] := by rw [← hv]; simp [State.rekeyBegun, State.ticketStart_rekeySpans, none]
  have running : v.itg.rekeyState = 1 := by rw [← hv]; simp [State.rekeyBegun]
  have region' : v.itg.rekeyRegion = region := by rw [← hv]; simp [State.rekeyBegun]
  have before : v.region region = s.region region := by rw [← hv]; simp [State.rekeyBegun]
  obtain ⟨state, key⟩ := State.rekeyFinish_done running left
  rw [region', before] at key
  refine does_of_next next ⟨?_, ?_, accepted_emit ..⟩
  · simpa using state
  · simpa using key

theorem does_rekeySpan_done {s : State} {span : Nat} {fs : List Finding} {tree : TreeFind} (running : s.itg.rekeyState = 1)
    (listed : span ∈ s.itg.rekeyLeft) (core : s.coreOn = true)
    (keyed : (s.block span).minors = 0 ∨ bit (s.block span).kg ≠ (s.region s.itg.rekeyRegion).gen % 2) (more : ∃ j ∈ s.itg.rekeyLeft, j ≠ span) :
    Does (.rekeySpan s.itg.rekeyRegion span fs tree) s fun t => t.itg.rekeyLeft = s.itg.rekeyLeft.filter (fun j => j != span)
          ∧ t.itg.blocks = s.itg.blocks ∧ t.itg.rekeyState = 1 ∧ t.ext.regions = s.ext.regions := by
  have next : exec (.rekeySpan s.itg.rekeyRegion span fs tree) s = .next (s.spanDone span) :=
    (if_neg (by simp [running, listed, core])).trans (if_pos keyed)
  obtain ⟨j, inLeft, other⟩ := more
  have left : s.itg.rekeyLeft.filter (fun j => j != span) ≠ [] := fun none => by
    have kept : j ∈ s.itg.rekeyLeft.filter (fun j => j != span) := List.mem_filter.mpr ⟨inLeft, by simp [other]⟩
    rw [none] at kept
    cases kept
  have done : s.spanDone span = s.modItg fun x =>
      let l := x.rekeyLeft.filter fun j => j != span
      { x with rekeyLeft := l, rekeyExtents := [nth x.rekeyExtents 1 - rekeyExtentsLeft l, nth x.rekeyExtents 1] } :=
    State.rekeyFinish_left (by rw [State.modItg_itg]; exact left)
  rw [done] at next
  exact does_of_next next ⟨rfl, rfl, running, rfl⟩

/-- A unit that re-keys a span has begun: the span's counter block names the other key generation, and nothing else of the re-key moves. -/
def Rekeys (span : Nat) (s t : State) : Prop :=
  t.block span = { s.block span with kg := !(s.block span).kg } ∧ t.itg.rekeyLeft = s.itg.rekeyLeft
    ∧ (∃ u ∈ t.wb.units, u.id = s.wb.nextUnit ∧ u.tract = span / 256 ∧ u.row = span % 256 * 2 ∧ u.keys = [])
    ∧ t.itg.rekeyState = s.itg.rekeyState ∧ t.ext.regions = s.ext.regions

theorem State.setBlock_block (i : Nat) (b : CounterBlock) (s : State) : (s.setBlock i b).block i = b := by
  have climbed (v : State) : (v.climb i).itg.blocks = v.itg.blocks := by simp
  rw [State.block, State.setBlock, climbed, State.modItg_itg]
  exact Tab.rd_set_same ..

theorem State.startUnit_itg (t row : Nat) (es : List (Nat × Entry)) (images : List (Nat × Granule)) (m : DrainMethod) (nodes : List Nat) (mode : Mode)
    (s : State) : (s.startUnit t row es images m nodes mode).itg = s.itg ∧ (s.startUnit t row es images m nodes mode).ext = s.ext := by
  simp [State.startUnit]

theorem Rekeys.of_stored {s v : State} {span : Nat} (block : v.block span = s.block span) (left : v.itg.rekeyLeft = s.itg.rekeyLeft)
    (state : v.itg.rekeyState = s.itg.rekeyState) (regions : v.ext.regions = s.ext.regions) (next : v.wb.nextUnit = s.wb.nextUnit)
    (pt : Nat) (images : List (Nat × Granule)) (mode : Mode) :
    Rekeys span s (((v.setBlock span { v.block span with kg := !(v.block span).kg }).nodeEntries (span / 256) span).startUnit (span / 256)
      (span % 256 * 2) [] images .fullStripe (nodeKeysOf pt span) mode) := by
  generalize hw : (v.setBlock span { v.block span with kg := !(v.block span).kg }).nodeEntries (span / 256) span = w
  obtain ⟨itg, ext⟩ := State.startUnit_itg (span / 256) (span % 256 * 2) [] images .fullStripe (nodeKeysOf pt span) mode w
  have kept : w.itg.rekeyLeft = v.itg.rekeyLeft ∧ w.itg.rekeyState = v.itg.rekeyState ∧ w.ext = v.ext ∧ w.wb.nextUnit = v.wb.nextUnit := by
    rw [← hw]; simp
  have stored : w.block span = { v.block span with kg := !(v.block span).kg } := by
    have same (u : State) : (u.nodeEntries (span / 256) span).block span = u.block span := by simp [State.block]
    rw [← hw, same, State.setBlock_block]
  obtain ⟨⟨u, listed, number, tract, row, keys, -⟩, -, -⟩ := State.startUnit_begun (t := span / 256) (row := span % 256 * 2) (es := []) (s := w)
    (n := s.wb.nextUnit) (images := images) (m := .fullStripe) (nodes := nodeKeysOf pt span) (mode := mode) List.nodup_nil (kept.2.2.2.trans next)
  refine ⟨?_, ?_, ⟨u, listed, number, tract, row, keys⟩, ?_, ?_⟩
  · rw [State.block, itg, ← State.block, stored, block]
  · rw [itg, kept.1, left]
  · rw [itg, kept.2.1, state]
  · rw [ext, kept.2.2.1, regions]

theorem State.rekeyUnit_rekeys (s : State) (span : Nat) (fs : List Finding) : Rekeys span s (s.rekeyUnit span fs) := by
  unfold State.rekeyUnit
  extract_lets t pt b g first cur new failed changed images mode told alarmed
  have toldKept : told.itg.blocks = s.itg.blocks ∧ told.itg.rekeyLeft = s.itg.rekeyLeft ∧ told.itg.rekeyState = s.itg.rekeyState
      ∧ told.ext.regions = s.ext.regions ∧ told.wb.nextUnit = s.wb.nextUnit := by simp [told]
  have alarmedKept : alarmed.itg.blocks = s.itg.blocks ∧ alarmed.itg.rekeyLeft = s.itg.rekeyLeft ∧ alarmed.itg.rekeyState = s.itg.rekeyState
      ∧ alarmed.ext.regions = s.ext.regions ∧ alarmed.wb.nextUnit = s.wb.nextUnit :=
    forEach_keeps (P := fun v => v.itg.blocks = s.itg.blocks ∧ v.itg.rekeyLeft = s.itg.rekeyLeft ∧ v.itg.rekeyState = s.itg.rekeyState
      ∧ v.ext.regions = s.ext.regions ∧ v.wb.nextUnit = s.wb.nextUnit) failed (fun _ _ kept => by simpa using kept) toldKept
  obtain ⟨blocks, left, state, regions, next⟩ := alarmedKept
  have block : alarmed.block span = s.block span := by rw [State.block, State.block, blocks]
  have rekeys := Rekeys.of_stored block left state regions next pt images mode
  rw [block] at rekeys
  exact rekeys

theorem State.pathChecked_rekeys {s : State} {tree : TreeFind} (found : tree ≠ .unrecoverable) (tract dpa span : Nat) (fs : List Finding) :
    Rekeys span s (s.pathChecked tree tract dpa (State.rekeyUnit span fs)) := by
  cases tree with
  | verified => exact State.rekeyUnit_rekeys s span fs
  | recovered =>
    obtain ⟨block, left, units, state, regions⟩ := State.rekeyUnit_rekeys (s.nodeRecovered dpa) span fs
    have same : (s.nodeRecovered dpa).block span = s.block span ∧ (s.nodeRecovered dpa).itg.rekeyLeft = s.itg.rekeyLeft
        ∧ (s.nodeRecovered dpa).itg.rekeyState = s.itg.rekeyState ∧ (s.nodeRecovered dpa).ext.regions = s.ext.regions
        ∧ (s.nodeRecovered dpa).wb.nextUnit = s.wb.nextUnit := by simp [State.block]
    obtain ⟨block', left', state', regions', next'⟩ := same
    exact ⟨by rw [← block']; exact block, left.trans left', next' ▸ units, state.trans state', regions.trans regions'⟩
  | unrecoverable => exact absurd rfl found

theorem does_rekeySpan {s : State} {span : Nat} {fs : List Finding} {tree : TreeFind} (running : s.itg.rekeyState = 1)
    (listed : span ∈ s.itg.rekeyLeft) (core : s.coreOn = true)
    (old : (s.block span).minors ≠ 0) (key : bit (s.block span).kg = (s.region s.itg.rekeyRegion).gen % 2) (free : s.spanBusy span = false)
    (durable : s.wb.durable.contains (span / 256) = true) (found : tree ≠ .unrecoverable) :
    Does (.rekeySpan s.itg.rekeyRegion span fs tree) s fun t =>
          t.block span = { s.block span with kg := !(s.block span).kg } ∧ t.itg.rekeyLeft = s.itg.rekeyLeft
          ∧ (∃ u ∈ t.wb.units, u.id = s.wb.nextUnit ∧ u.tract = span / 256 ∧ u.row = span % 256 * 2 ∧ u.keys = [])
          ∧ t.itg.rekeyState = 1 ∧ t.ext.regions = s.ext.regions := by
  have next : exec (.rekeySpan s.itg.rekeyRegion span fs tree) s
      = .next (s.pathChecked tree (span / 256) (span * 4096) (State.rekeyUnit span fs)) :=
    (if_neg (by simp [running, listed, core])).trans ((if_neg fun stale => stale.elim old fun other => other key).trans ((if_neg (by simp [free])).trans (if_neg (by
      rw [durable]; simp))))
  rw [← running]
  exact does_of_next next (State.pathChecked_rekeys found ..)

/-! ## Debug windows and reads (R238, R239) -/

/-- A debug window is set (R238). -/
def State.windowSet (ww : Nat) (w : DebugWin) (s : State) : State := s.modItg fun x => { x with windows := Tab.set {} x.windows ww w }

theorem State.closeWindow_len (ww : Nat) (s : State) : (Tab.rd {} (s.closeWindow ww).itg.windows ww).len = 0 := by
  rw [State.closeWindow]
  split
  case isTrue shut => exact shut
  case isFalse =>
    have kept (v : State) (r d : Nat) : (v.security 4 r 0 d).itg = v.itg := by simp
    rw [kept, State.modItg_itg]
    dsimp only
    rw [Tab.rd_set_same]

section
variable {s : State} {ww : Nat}

theorem does_debugWindowClose (cox : s.coxUp = true) (known : ww ≤ 3) (core : s.domainOn 3 = true) : Does (.debugWindowClose ww) s fun t =>
    (Tab.rd {} t.itg.windows ww).len = 0 ∧ accepted byCustodian 0x3240 ww t := by
  generalize hv : (s.manage 1 byCustodian 0 0x3240 ww 0 0 (be 8 0 ++ be 8 0 ++ be 4 0 ++ zeros 4)).closeWindow ww = v
  have op : State.windowOpen byCustodian ww 0 0 0 s = (0, 0, v) := by
    rw [← hv, State.windowOpen, if_neg (by omega), if_neg (by simp), if_neg (by simp [core])]
    rfl
  have next : exec (.debugWindowClose ww) s = .next (v.emit (.access byCustodian 0x3240 ww 0 0)) :=
    (accessed_of_up cox _).trans (congrArg _ ((congrArg _ op).trans (respondAccess_done ..)))
  refine does_of_next next ⟨?_, accepted_emit ..⟩
  have kept : (v.emit (.access byCustodian 0x3240 ww 0 0)).itg = v.itg := by simp
  rw [kept, ← hv]
  exact State.closeWindow_len ..

theorem does_debugWindowOpen {dpa len life : Nat} (cox : s.coxUp = true) (known : ww ≤ 3) (core : s.domainOn 3 = true) (aligned : dpa % 64 = 0)
    (some' : 1 ≤ len) (short : len ≤ 2 ^ 28) (inside : dpa + len ≤ dpaSize) (alive : 1 ≤ life) (day : life ≤ 86400) :
    Does (.debugWindowOpen ww dpa len life) s fun t =>
      Tab.rd {} t.itg.windows ww = { first := dpa, len := len, life := life, opened := s.tim.opTime } ∧ accepted byCustodian 0x3240 ww t := by
  generalize hv : (s.manage 1 byCustodian 0 0x3240 ww 0 0 (be 8 dpa ++ be 8 len ++ be 4 life ++ zeros 4)).closeWindow ww = v
  have time : v.tim = s.tim := by rw [← hv]; simp
  have op : State.windowOpen byCustodian ww dpa len life s = (0, 0, (v.windowSet ww { first := dpa, len := len, life := life, opened := v.tim.opTime }).security 3 (v.regionOf (dpa / 64)) 0 dpa) := by
    rw [← hv, State.windowOpen, if_neg (by omega), if_neg (by simp; omega), if_neg (by simp [core])]
    dsimp only
    rw [if_neg (by omega)]
    rfl
  have next := (accessed_of_up cox (respondAccess byCustodian 0x3240 ww (State.windowOpen byCustodian ww dpa len life s))).trans
    (congrArg _ ((congrArg _ op).trans (respondAccess_done ..)))
  refine does_of_next next ⟨?_, accepted_emit ..⟩
  have kept (w : State) (r : Nat) : (w.security 3 r 0 dpa).itg = w.itg := by simp
  have emitted (w : State) : (w.emit (.access byCustodian 0x3240 ww 0 0)).itg = w.itg := by simp
  rw [emitted, kept, State.windowSet, State.modItg_itg, ← time]
  exact Tab.rd_set_same ..

variable {dpa : Nat}

theorem exec_debugRead_plain (inside : s.inWindow dpa = true) (unlocked : s.cox.options.dbgLock = false) (core : s.coreOn = true) (o : Option StoredLine) :
    exec (.debugRead dpa o) s = .next (s.debugPlain dpa o) :=
  (if_neg (by simp [unlocked, core])).trans (if_pos inside)

theorem State.debugPlain_zero (zero : (s.entry (tractOfLine (lineOf dpa))).state = .zero) (o : Option StoredLine) :
    s.debugPlain dpa o = s.emit (.debugData dpa false 0) := by
  rw [State.debugPlain]
  dsimp only
  rw [zero]

theorem State.debugPlain_poisoned (bad : (s.entry (tractOfLine (lineOf dpa))).state = .suspect ∨ (s.entry (tractOfLine (lineOf dpa))).state = .integrityLost)
    (o : Option StoredLine) : s.debugPlain dpa o = s.emit (.debugData dpa true 0) := by
  rw [State.debugPlain]
  dsimp only
  rcases bad with suspect | lost
  · rw [suspect]
  · rw [lost]

theorem State.debugPlain_data {l : StoredLine} {d : Line} (mapped : (s.entry (tractOfLine (lineOf dpa))).state = .mapped)
    (decided : s.decideLine (s.block (lineOf dpa / 64)) (lineOf dpa) l = .data d) : s.debugPlain dpa (some l) = s.emit (.debugData dpa false d) := by
  rw [State.debugPlain]
  dsimp only
  rw [mapped]
  dsimp only [State.debugLine]
  rw [decided]

theorem exec_debugRead_stored (outside : s.inWindow dpa = false) (unlocked : s.cox.options.dbgLock = false) (core : s.coreOn = true) (l : StoredLine) :
    exec (.debugRead dpa (some l)) s = .next (s.emit (.debugStored dpa (some (l, lineMeta l)))) :=
  (if_neg (by simp [unlocked, core])).trans (if_neg (by simp [outside]))
end

/-! ## The root (R236, R237) -/

section
variable {s : State}

theorem State.adoptRoot_kept (s : State) : s.adoptRoot.itg.rootState = 1 ∧ s.adoptRoot.str.rootDone = true ∧ s.adoptRoot.itg.record.state = 1
    ∧ s.adoptRoot.trc.map = s.trc.map := by
  refine ⟨?_, ?_, ?_, ?_⟩
  · simp [State.adoptRoot]
  · simp [State.adoptRoot]
  · simp [State.adoptRoot, State.recordOpen, State.putRecordOf]
  · simp

/-- Every logical tract is marked as lost. -/
def State.allLost (s : State) : State :=
  forEach (List.range logicalTracts) (fun t => State.putEntry t fun e => { e with state := .integrityLost }) s

theorem State.putEntry_map (t : Nat) (f : MapEntry → MapEntry) (s : State) : (s.putEntry t f).trc.map = (s.modEntry t f).trc.map := by
  simp [State.putEntry]

theorem State.putEntry_wf {s : State} (wf : Tab.wf shipEntry s.trc.map = true) (t : Nat) (f : MapEntry → MapEntry) :
    Tab.wf shipEntry (s.putEntry t f).trc.map = true := by
  rw [State.putEntry_map, State.modEntry, State.modTrc_trc]
  exact Tab.put_wf _ _ _ _ wf

theorem State.lost_still {l : List Nat} {x : Nat} {s : State} (wf : Tab.wf shipEntry s.trc.map = true) (lost : (s.entry x).state = .integrityLost) :
    ((forEach l (fun t => State.putEntry t fun e => { e with state := .integrityLost }) s).entry x).state = .integrityLost := by
  induction l generalizing s with
  | nil => exact lost
  | cons t l ih =>
    refine ih (State.putEntry_wf wf t _) ?_
    rw [State.entry, State.putEntry_map, ← State.entry]
    by_cases same : x = t
    · rw [same, State.modEntry_entry]
    · rw [State.modEntry_entry_ne _ same wf, lost]

theorem State.lost_each {l : List Nat} {x : Nat} (listed : x ∈ l) {s : State} (wf : Tab.wf shipEntry s.trc.map = true) :
    ((forEach l (fun t => State.putEntry t fun e => { e with state := .integrityLost }) s).entry x).state = .integrityLost := by
  induction l generalizing s with
  | nil => cases listed
  | cons t l ih =>
    have wf' := State.putEntry_wf wf t fun e => { e with state := .integrityLost }
    rcases List.mem_cons.mp listed with rfl | listed
    · refine State.lost_still (l := l) (s := s.putEntry x fun e => { e with state := .integrityLost }) wf' ?_
      rw [State.entry, State.putEntry_map, ← State.entry, State.modEntry_entry]
    · exact ih listed wf'

theorem exec_rootDecision {req : Req} {n : Nat} (cox : s.coxUp = true) (may : mayWrite 0x3200 2 req = 0) (core : s.domainOn 3 = true)
    (judged : 2 ≤ s.itg.rootState) (free : s.freeSlot = some n) (adopt : Bool) : ∃ ticket,
    accessed s (respondAccess req 0x3200 2 (guarded req 0x3200 2 (State.rootOp req adopt) s))
      = .next ((((if adopt then (s.ticketStart req 0x3200 2).2 else (s.ticketStart req 0x3200 2).2.allLost).adoptRoot).ticketDone n 0 []).emit
        (.access req 0x3200 2 0 ticket)) := by
  have op : State.rootOp req adopt s = s.deferred req 0x3200 2 (fun n => fun s =>
      ((if adopt then s else s.allLost).adoptRoot).ticketDone n 0 []) := by
    rw [State.rootOp, if_neg (by simp [core]), if_neg (by omega)]
    rfl
  refine ⟨((s.ticketStart req 0x3200 2).2.slot n).ticket, (accessed_of_up cox _).trans ?_⟩
  rw [guarded_of_may s may, op, respondAccess_deferred free]

theorem does_rootDecisionAdopt {req : Req} {n : Nat} (cox : s.coxUp = true) (may : mayWrite 0x3200 2 req = 0) (core : s.domainOn 3 = true)
    (judged : 2 ≤ s.itg.rootState) (free : s.freeSlot = some n) : Does (.rootDecisionAdopt req) s fun t =>
      t.itg.rootState = 1 ∧ t.str.rootDone = true ∧ t.itg.record.state = 1 ∧ t.trc.map = s.trc.map ∧ accepted req 0x3200 2 t := by
  obtain ⟨ticket, next⟩ := exec_rootDecision cox may core judged free true
  obtain ⟨root, done, record, map⟩ := State.adoptRoot_kept (s.ticketStart req 0x3200 2).2
  refine does_of_next next ⟨?_, ?_, ?_, ?_, accepted_emit ..⟩
  · simpa using root
  · simpa using done
  · simpa using record
  · simp

theorem does_rootDecisionReject {req : Req} {n : Nat} (canonical : s.canonical = true) (cox : s.coxUp = true) (may : mayWrite 0x3200 2 req = 0)
    (core : s.domainOn 3 = true) (judged : 2 ≤ s.itg.rootState) (free : s.freeSlot = some n) : Does (.rootDecisionReject req) s fun t =>
      t.itg.rootState = 1 ∧ t.str.rootDone = true ∧ (∀ x, x < logicalTracts → (t.entry x).state = .integrityLost) ∧ accepted req 0x3200 2 t := by
  obtain ⟨ticket, next⟩ := exec_rootDecision cox may core judged free false
  rw [if_neg (by simp)] at next
  obtain ⟨root, done, -, map⟩ := State.adoptRoot_kept (s.ticketStart req 0x3200 2).2.allLost
  refine does_of_next next ⟨?_, ?_, fun x logical => ?_, accepted_emit ..⟩
  · simpa using root
  · simpa using done
  · have kept (v : State) (o : Out) : (((v.adoptRoot).ticketDone n 0 []).emit o).entry = v.entry := by simp
    have wf : Tab.wf shipEntry (s.ticketStart req 0x3200 2).2.trc.map = true := by
      have same : (s.ticketStart req 0x3200 2).2.trc.map = s.trc.map := by simp
      rw [same]
      exact State.trc_map_wf canonical
    rw [kept]
    exact State.lost_each (List.mem_range.mpr logical) wf

theorem State.abandon_entry {s : State} (wf : Tab.wf shipEntry s.trc.map = true) (t : Nat) (again retire : Bool) (x : Nat) :
    ((s.abandon t again retire).entry x).state = (s.entry x).state := by
  have modified (v : State) (f : MapEntry → MapEntry) (same : ∀ e, (f e).state = e.state) (map : v.trc.map = s.trc.map) :
      ((v.modEntry t f).entry x).state = (s.entry x).state := by
    have entry : v.entry = s.entry := by funext y; rw [State.entry, map, State.entry]
    by_cases at' : x = t
    · rw [at', State.modEntry_entry, same, entry]
    · rw [State.modEntry_entry_ne _ at' (map ▸ wf), entry]
  rw [State.abandon]
  split
  case h_1 => rfl
  case h_2 m running =>
    dsimp only
    split
    case isTrue =>
      have kept (v : State) : (((v.dropWork .migration t m.dst).giveUp m.dst retire).entry x) = v.entry x := by simp
      rw [kept]
      exact modified _ _ (fun _ => rfl) rfl
    case isFalse =>
      have put (v : State) (map : v.trc.map = s.trc.map) :
          (((v.putEntry t fun e => { e with mig := false, pt := m.dst }).modActivity t fun a => { a with occ := 0, reads := 0, gen := m.gen }).entry x).state
            = (s.entry x).state := by
        have kept (v : State) (f : Activity → Activity) : (v.modActivity t f).entry x = v.entry x := by simp
        rw [kept, State.entry, State.putEntry_map, ← State.entry]
        exact modified _ _ (fun _ => rfl) map
      split
      case isTrue =>
        have kept (v : State) : (v.giveUpPt m.src false).entry x = v.entry x := by simp
        rw [kept]
        exact put _ rfl
      case isFalse =>
        have kept (v : State) : (v.modTrc fun x => { x with dirtyPts := x.dirtyPts ++ [(m.src, false)] }).entry x = v.entry x := rfl
        rw [kept]
        exact put _ rfl

/-- A tract's pair is lost as a whole, whatever runs on it. -/
theorem State.loseTracts_pair {s : State} (canonical : s.canonical = true) (x : Nat) (mode : Mode) (dpa : Nat) :
    ((s.loseTracts (nodePair x) mode dpa).entry x).state = .integrityLost := by
  have wfOf {u : State} (k : Steady s u) : Tab.wf shipEntry u.trc.map = true := State.trc_map_wf (k.canonical canonical)
  have lost {u : State} (k : Steady s u) (t : Nat) (done : x = t ∨ (u.entry x).state = .integrityLost) :
      (((u.abandon t false false).putEntry t fun e => { e with state := .integrityLost }).entry x).state = .integrityLost := by
    rw [State.entry, State.putEntry_map, ← State.entry]
    by_cases same : x = t
    · rw [same, State.modEntry_entry]
    · rw [State.modEntry_entry_ne _ same (wfOf (State.abandon_steady k ..)), State.abandon_entry (wfOf k)]
      exact done.resolve_left same
  have alarmed : Steady s (s.alarm mode dpa) := State.alarm_steady (Steady.refl s) ..
  rw [State.loseTracts, nodePair, forEach, forEach, forEach]
  rcases Nat.even_or_odd' x with ⟨m, even | odd⟩
  · refine lost (State.putEntry_steady (State.abandon_steady alarmed ..) ..) _ (.inr ?_)
    exact lost alarmed _ (.inl (by omega))
  · exact lost (State.putEntry_steady (State.abandon_steady alarmed ..) ..) _ (.inl (by omega))

theorem State.halfZeroed_entry {s : State} (canonical : s.canonical = true) (x : Nat) : ((s.halfZeroed x).entry x).state = .integrityLost := by
  unfold State.halfZeroed
  extract_lets m old kept stored climbed i9 r
  have storedSteady : Steady s stored := State.putNode_steady (Steady.refl s) ..
  have climbedSteady : Steady s climbed := by
    exact forEach_steady (fun l u k => State.climbOne_steady k ..) storedSteady _
  refine State.loseTracts_pair (s := climbed.modItg _) ?_ x _ _
  refine (State.modItg_steady (fun x tables => ?_) climbedSteady).canonical canonical
  simp only [IntegS.canonical, Bool.and_eq_true] at tables ⊢
  simp only [tables, Tab.put_wf, and_self]

/-- The start of the judgement of a rebuilt root: its halves that are lost have been given up, and the time noted. -/
def State.rebuilt' (halves : List Nat) (s : State) : State :=
  let s := forEach halves State.halfZeroed s
  s.modStr fun x => { x with times := modNth x.times 4 fun _ => s.tim.opTime - x.origin }

theorem State.rootMismatch_kept (s : State) : s.rootMismatch.itg.rootState = 3 ∧ s.rootMismatch.itg.alarms = s.itg.alarms + 1
    ∧ s.rootMismatch.str.phase = .awaitingCustodian ∧ s.rootMismatch.str.rootDone = s.str.rootDone := by
  refine ⟨?_, ?_, ?_, ?_⟩ <;> simp [State.rootMismatch]

theorem State.rootUnverified_kept (s : State) : if s.cfg 0x3200 1 = 0 then s.rootUnverified.itg.rootState = 1 ∧ s.rootUnverified.str.rootDone = true
    else s.rootUnverified.itg.rootState = 2 ∧ s.rootUnverified.str.phase = .awaitingCustodian := by
  rw [State.rootUnverified]
  split
  case isTrue =>
    obtain ⟨root, done, -, -⟩ := State.adoptRoot_kept s
    exact ⟨root, done⟩
  case isFalse => exact ⟨rfl, rfl⟩

theorem State.rootUnverified_root (s : State) : s.rootUnverified.itg.rootState ≠ 0 := by
  rw [State.rootUnverified]
  split
  case isTrue =>
    obtain ⟨root, -⟩ := State.adoptRoot_kept s
    rw [root]
    decide
  case isFalse => exact Nat.succ_ne_zero 1

/-- The judgement of a root (R236, R237). -/
def State.judgedRoot (equal recordReads : Bool) (halves : List Nat) (s : State) : State :=
  if !recordReads then s.rootMismatch
  else if s.itg.record.state = 2 ∧ equal && halves.isEmpty then (s.modItg fun x => { x with rootState := 0 }).modStr fun x => { x with rootDone := true }
  else if s.itg.record.state = 2 ∧ s.str.clean then s.rootMismatch
  else s.rootUnverified

theorem exec_rootRebuildComplete (phase : s.str.phase = .rootRebuild) (undone : s.str.rootDone = false) (equal recordReads : Bool) (halves : List Nat) :
    exec (.rootRebuildComplete equal recordReads halves) s = .next ((s.rebuilt' halves).judgedRoot equal recordReads halves) := by
  refine (if_neg (by simp [phase, undone])).trans ?_
  rw [State.judgedRoot, apply_ite Host.Outcome.next, apply_ite Host.Outcome.next, apply_ite Host.Outcome.next]
  rfl

/-- Without lost halves the judgement begins from the same root, record and review of the start. -/
theorem State.rebuilt'_none (s : State) : (s.rebuilt' []).itg = s.itg ∧ (s.rebuilt' []).str.clean = s.str.clean
    ∧ (s.rebuilt' []).str.rootDone = s.str.rootDone ∧ (s.rebuilt' []).cfg = s.cfg := ⟨rfl, rfl, rfl, rfl⟩

section
variable (phase : s.str.phase = .rootRebuild) (undone : s.str.rootDone = false)
include phase undone

theorem does_rootRebuildComplete_equal (closed : s.itg.record.state = 2) : Does (.rootRebuildComplete true true []) s fun t =>
    t.itg.rootState = 0 ∧ t.str.rootDone = true := by
  refine does_of_next (exec_rootRebuildComplete phase undone ..) ?_
  rw [State.judgedRoot, if_neg (by simp), if_pos ⟨closed, rfl⟩]
  exact ⟨rfl, rfl⟩

theorem does_rootRebuildComplete_unread (e : Bool) : Does (.rootRebuildComplete e false []) s fun t => t.itg.rootState = 3
    ∧ t.itg.alarms = s.itg.alarms + 1 ∧ t.str.phase = .awaitingCustodian ∧ t.str.rootDone = false := by
  obtain ⟨root, alarms, waits, done⟩ := State.rootMismatch_kept (s.rebuilt' [])
  refine does_of_next (exec_rootRebuildComplete phase undone ..) ?_
  rw [State.judgedRoot, if_pos (by simp)]
  exact ⟨root, alarms, waits, done.trans undone⟩

theorem does_rootRebuildComplete_differs (closed : s.itg.record.state = 2) (clean : s.str.clean = true) :
    Does (.rootRebuildComplete false true []) s fun t => t.itg.rootState = 3 ∧ t.str.phase = .awaitingCustodian ∧ t.str.rootDone = false := by
  obtain ⟨root, -, waits, done⟩ := State.rootMismatch_kept (s.rebuilt' [])
  refine does_of_next (exec_rootRebuildComplete phase undone ..) ?_
  rw [State.judgedRoot, if_neg (by simp), if_neg (by simp), if_pos ⟨closed, clean⟩]
  exact ⟨root, waits, done.trans undone⟩

theorem does_rootRebuildComplete_unverified {e : Bool} (unclean : s.itg.record.state ≠ 2 ∨ (e = false ∧ s.str.clean = false)) :
    Does (.rootRebuildComplete e true []) s fun t =>
      (if s.cfg 0x3200 1 = 0 then t.itg.rootState = 1 ∧ t.str.rootDone = true else t.itg.rootState = 2 ∧ t.str.phase = .awaitingCustodian) := by
  obtain ⟨itg, clean, -, -⟩ := State.rebuilt'_none s
  have unequal : ¬ ((s.rebuilt' []).itg.record.state = 2 ∧ (e && ([] : List Nat).isEmpty) = true) := by
    rw [itg]
    rcases unclean with opened | ⟨rfl, -⟩ <;> simp [*]
  have unlike : ¬ ((s.rebuilt' []).itg.record.state = 2 ∧ (s.rebuilt' []).str.clean = true) := by
    rw [itg, clean]
    rcases unclean with opened | ⟨-, dirty⟩ <;> simp [*]
  have judged : (s.rebuilt' []).judgedRoot e true [] = (s.rebuilt' []).rootUnverified := by
    rw [State.judgedRoot, if_neg (by simp), if_neg unequal, if_neg unlike]
  refine does_of_next (exec_rootRebuildComplete phase undone ..) ?_
  rw [judged]
  exact State.rootUnverified_kept (s.rebuilt' [])

theorem does_rootRebuildComplete_half (canonical : s.canonical = true) (e : Bool) (x : Nat) : Does (.rootRebuildComplete e true [x]) s fun t =>
    (t.entry x).state = .integrityLost ∧ t.itg.rootState ≠ 0 := by
  have lost (v : State) (map : v.trc.map = (s.halfZeroed x).trc.map) : (v.entry x).state = .integrityLost := by
    rw [State.entry, map, ← State.entry]
    exact State.halfZeroed_entry canonical x
  have begun : (s.rebuilt' [x]).trc.map = (s.halfZeroed x).trc.map := by
    rw [State.rebuilt', forEach, forEach]
    generalize s.halfZeroed x = u
    rfl
  have unequal : ¬ ((s.rebuilt' [x]).itg.record.state = 2 ∧ (e && [x].isEmpty) = true) := by simp
  refine does_of_next (exec_rootRebuildComplete phase undone ..) ?_
  rw [State.judgedRoot, if_neg (by simp), if_neg unequal]
  split
  case isTrue =>
    obtain ⟨root, -⟩ := State.rootMismatch_kept (s.rebuilt' [x])
    have map (v : State) : v.rootMismatch.trc.map = v.trc.map := by simp
    exact ⟨lost _ ((map _).trans begun), by rw [root]; decide⟩
  case isFalse =>
    have map (v : State) : v.rootUnverified.trc.map = v.trc.map := by simp
    exact ⟨lost _ ((map _).trans begun), State.rootUnverified_root _⟩
end
end
end Sys2Proof.Machine

open Sys2Proof Sys2Proof.Machine

/-- Settles O43, clause by clause: re-keying, debug windows and reads, the Custodian's decision, and the judgement of the root. -/
theorem keysAndRoot : Obligations.KeysAndRoot := by
  unfold Obligations.KeysAndRoot
  intro s canonical
  refine ⟨fun req region n cox may region63 idle masked core free => ⟨fun spans => ?_, fun none => ?_⟩,
    fun span fs tree running listed core => ⟨fun left => ?_, fun minors kg quiet durable reads => ?_⟩,
    fun cox ww window core => ⟨fun dpa len life aligned long short inside lives short' => ?_, ?_⟩,
    fun ww => ?_, fun dpa l inside unlocked core => ⟨fun zero o => ?_, fun lost o => ?_, fun mapped d data => ?_⟩,
    fun dpa l outside unlocked core => ?_, fun req n cox may core judged free => ⟨?_, ?_⟩,
    fun phase undone => ⟨fun closed => ?_, fun e => ?_, fun closed clean => ?_, fun e unclean => ?_, fun e x => ?_⟩⟩
  · exact does_rekeyRequest cox may region63 idle masked core free spans
  · exact does_rekeyRequest_empty cox may region63 idle masked core free none
  · exact does_rekeySpan_done running listed core left
  · exact does_rekeySpan running listed core minors kg quiet durable reads
  · exact does_debugWindowOpen cox window core aligned long short inside lives short'
  · exact does_debugWindowClose cox window core
  · exact does_of_next rfl (State.closeWindow_len ww s)
  · exact (exec_debugRead_plain inside unlocked core o).trans (congrArg _ (State.debugPlain_zero zero o))
  · exact (exec_debugRead_plain inside unlocked core o).trans (congrArg _ (State.debugPlain_poisoned lost o))
  · exact (exec_debugRead_plain inside unlocked core _).trans (congrArg _ (State.debugPlain_data mapped data))
  · exact exec_debugRead_stored outside unlocked core l
  · exact does_rootDecisionAdopt cox may core judged free
  · exact does_rootDecisionReject canonical cox may core judged free
  · exact does_rootRebuildComplete_equal phase undone closed
  · exact does_rootRebuildComplete_unread phase undone e
  · exact does_rootRebuildComplete_differs phase undone closed clean
  · exact does_rootRebuildComplete_unverified phase undone unclean
  · exact does_rootRebuildComplete_half phase undone canonical e x
end

section
/-! PROOFS. The collector takes a fault message (O29). -/
namespace Sys2Proof.Machine

section
variable {s : State} {m : Word64} {rest : List Word64}

/-- The message has left the queue and is counted. -/
def State.taking (m : Word64) (rest : List Word64) (s : State) : State :=
  (s.modFlt fun x => { x with queue := rest }).countMessage (msgSource m) (kindClass (msgKind m))

/-- What follows the reaction: the log entry, the notifications and the snapshots. -/
def State.recorded (m : Word64) (s : State) : State :=
  let cls := kindClass (msgKind m)
  let r := s.recordFault m
  let s := r.2.notify (fun x => decide (x.kind = .faultClasses) && testBit x.mask cls) (be 8 m.toNat)
  let s := s.fireWhere (fun d => decide (d.trigger = 2 ∧ d.param ≤ cls) || decide (d.trigger = 3 ∧ d.param = msgKind m)) r.1
  s.queueLossCheck

theorem exec_faultMessageTaken (queue : s.flt.queue = m :: rest) : exec .faultMessageTaken s = .next (((s.taking m rest).react m).recorded m) := by
  simp only [exec, execFaultMessageTaken, queue]
  rfl

theorem State.recorded_keeps (m : Word64) (s : State) : (s.recorded m).flt.queue = s.flt.queue ∧ (s.recorded m).flt.taken = s.flt.taken
    ∧ (s.recorded m).flt.classes = s.flt.classes ∧ (s.recorded m).flt.units = s.flt.units ∧ (s.recorded m).flt.fences = s.flt.fences
    ∧ (s.recorded m).flt.lastC3 = s.flt.lastC3 ∧ (s.recorded m).pwr.state = s.pwr.state := by
  refine ⟨?_, ?_, ?_, ?_, ?_, ?_, ?_⟩ <;> simp [State.recorded]

theorem State.taking_keeps (m : Word64) (rest : List Word64) (s : State) : (s.taking m rest).flt.queue = rest
    ∧ (s.taking m rest).flt.taken = s.flt.taken + 1 ∧ (s.taking m rest).flt.classes = modNth s.flt.classes (kindClass (msgKind m)) (· + 1)
    ∧ (s.taking m rest).flt.units = s.flt.units ∧ (s.taking m rest).flt.fences = s.flt.fences ∧ (s.taking m rest).flt.lastC3 = s.flt.lastC3
    ∧ (s.taking m rest).pwr.state = s.pwr.state := by
  refine ⟨?_, ?_, ?_, ?_, ?_, ?_, ?_⟩
  · simp [State.taking]
  · rw [State.taking, State.countMessage]
    split <;> simp
  · rw [State.taking, State.countMessage]
    split <;> simp
  · simp [State.taking]
  · simp [State.taking]
  · simp [State.taking]
  · simp [State.taking]

/-! ## The reactions -/

theorem State.react_info (cls : kindClass (msgKind m) = 0) : s.react m = s := by
  rw [State.react]
  dsimp only
  rw [cls]
  simp

theorem State.react_standing (cls : kindClass (msgKind m) = 3) (stands : s.cause 0 = true) : (s.react m).flt.lastC3 = s.flt.lastC3
    ∧ (s.react m).pwr.state = s.pwr.state := by
  have stood (v : State) (easy : v.easy = s.easy) : (if v.cause 0 then v else v.fatal m) = v :=
    if_pos (by rw [State.cause, easy]; exact stands)
  have quieted (v : State) : (v.startQuiet (msgSource m)).easy = v.easy ∧ (v.startQuiet (msgSource m)).flt.lastC3 = v.flt.lastC3
      ∧ (v.startQuiet (msgSource m)).pwr.state = v.pwr.state := ⟨rfl, rfl, rfl⟩
  obtain ⟨easy, lastC3, power⟩ := quieted s
  rw [State.react]
  dsimp only
  rw [cls]
  have same (v : State) (easy : v.easy = s.easy) (lastC3 : v.flt.lastC3 = s.flt.lastC3) (power : v.pwr.state = s.pwr.state) :
      (if v.cause 0 then v else v.fatal m).flt.lastC3 = s.flt.lastC3 ∧ (if v.cause 0 then v else v.fatal m).pwr.state = s.pwr.state := by
    rw [stood v easy]
    exact ⟨lastC3, power⟩
  simp only
  split
  case isTrue => exact same _ easy lastC3 power
  case isFalse => exact ⟨rfl, rfl⟩

theorem eq_of_guarded_some {p : Prop} [Decidable p] {a d : Nat} (guarded : (if p then some a else none) = some d) : p ∧ a = d := by
  split at guarded
  case isTrue holds => exact ⟨holds, Option.some.inj guarded⟩
  case isFalse => cases guarded

theorem lt_of_unitKind_die {d : Nat} (die : unitKind d = some .die) : d < 0x240 := by
  by_contra above
  rw [unitKind, if_neg above] at die
  (repeat' split at die) <;> cases die

/-- A die that a message fences is the message's source, or is named by its channel. -/
theorem fenceTarget_source {src kind addr d : Nat} {av : Bool} (target : fenceTarget src kind addr av = some d) (die : unitKind d = some .die) :
    src = d ∨ src = srcChannel (d / 16) := by
  have below : d < 0x240 := lt_of_unitKind_die die
  have other (n : Nat) (above : 0x240 ≤ n) : some n ≠ some d := fun same => absurd (Option.some.inj same) (by omega)
  rw [fenceTarget] at target
  split at target
  case isTrue => exact .inl (eq_of_guarded_some target).2
  split at target
  case isTrue => exact .inl (eq_of_guarded_some target).2
  split at target
  case isTrue =>
    obtain ⟨⟨channel, -⟩, at'⟩ := eq_of_guarded_some target
    have range : 0x240 ≤ src := by
      by_contra below
      rw [unitKind, if_pos (by omega)] at channel
      cases channel
    exact .inr (by rw [srcChannel]; omega)
  split at target
  case isTrue => exact .inl (eq_of_guarded_some target).2
  split at target
  case isTrue => exact .inl (eq_of_guarded_some target).2
  split at target
  case isTrue => exact .inl (eq_of_guarded_some target).2
  split at target
  case isTrue => exact .inl (eq_of_guarded_some target).2
  split at target
  case isTrue =>
    split at target
    case isTrue => exact absurd target (other _ (Nat.le_add_right_of_le (by decide)))
    case isFalse => exact absurd (congrArg some (eq_of_guarded_some target).2) (other 0x2F5 (by decide))
  split at target
  case isTrue => exact absurd target (other 0x2F5 (by decide))
  case isFalse => cases target

/-- A fence reaction is counted, its unit is Fenced and its quiet timer runs. -/
def State.fenceMarked (d : Nat) (s : State) : State :=
  ((s.modFlt fun x => { x with fences := x.fences + 1 }).modUnit d fun u => { u with state := .fenced }).startQuiet d

theorem State.fenceMarked_unit (d : Nat) (s : State) : ((s.fenceMarked d).unit d).state = .fenced
    ∧ ((s.fenceMarked d).unit d).quiet = s.tim.opTime + 1 ∧ (s.fenceMarked d).flt.fences = s.flt.fences + 1 := by
  refine ⟨?_, ?_, rfl⟩
  · simp [State.fenceMarked, State.startQuiet]
  · simp [State.fenceMarked, State.startQuiet]

theorem State.reactionFence_active {d : Nat} (active : (s.unit d).state = .active) (channel : s.isOut (srcChannel (d / 16)) = false) :
    ((s.reactionFence d).unit d).state = .fenced ∧ ((s.reactionFence d).unit d).quiet = s.tim.opTime + 1
      ∧ (s.reactionFence d).flt.fences = s.flt.fences + 1 := by
  have kept (v : State) (r : Option (Nat × Nat)) : ((v.fenceEffects d).verdict r).flt.units = v.flt.units
      ∧ ((v.fenceEffects d).verdict r).flt.fences = v.flt.fences := by
    constructor <;> simp
  have fences : s.reactionFence d = ((s.fenceMarked d).fenceEffects d).verdict ((s.modFlt fun x => { x with fences := x.fences + 1 }).fenceVerdict d) := by
    have active' : ((s.modFlt fun x => { x with fences := x.fences + 1 }).unit d).state = .active := active
    have channel' : (s.modFlt fun x => { x with fences := x.fences + 1 }).isOut (srcChannel (d / 16)) = false := channel
    rw [State.reactionFence]
    dsimp only
    rw [if_neg (by simp [channel']), active']
    rfl
  obtain ⟨units, counted⟩ := kept (s.fenceMarked d) ((s.modFlt fun x => { x with fences := x.fences + 1 }).fenceVerdict d)
  rw [fences, State.unit, units, counted, ← State.unit]
  exact State.fenceMarked_unit d s

theorem State.react_fences {d : Nat} (cls : kindClass (msgKind m) = 2)
    (target : fenceTarget (msgSource m) (msgKind m) (msgAddr m) (msgAv m) = some d) (die : unitKind d = some .die)
    (active : (s.unit d).state = .active) (channel : s.isOut (srcChannel (d / 16)) = false) :
    ((s.react m).unit d).state = .fenced ∧ ((s.react m).unit d).quiet = s.tim.opTime + 1 ∧ (s.react m).flt.fences = s.flt.fences + 1 := by
  have unfenced : ¬ (s.unit (msgSource m)).state = .fenced := by
    rcases fenceTarget_source target die with same | named
    · rw [same, active]
      decide
    · rw [named]
      intro fenced
      rw [State.isOut, fenced] at channel
      cases channel
  obtain ⟨state, quiet, fences⟩ := State.reactionFence_active active channel
  have entered (v : State) (n : Nat) : (v.easyEnter n).flt.units = v.flt.units ∧ (v.easyEnter n).flt.fences = v.flt.fences := by
    constructor <;> simp
  rw [State.react]
  dsimp only
  rw [cls, target, if_neg (by simp [unfenced])]
  simp only [die, Option.bind_some, reactionMember]
  split
  case isTrue =>
    obtain ⟨units, counted⟩ := entered ((s.reactionFence d).modEasy fun e => { e with stopUnits := insertSorted d e.stopUnits }) 1
    rw [State.unit, units, counted]
    exact ⟨state, quiet, fences⟩
  case isFalse => exact ⟨state, quiet, fences⟩
end
end Sys2Proof.Machine

open Sys2Proof Sys2Proof.Machine

/-- Settles O29: the message leaves the queue and is counted before the reaction, which only adds to both; each reaction is looked up
by the class. -/
theorem faultCollector : Obligations.FaultCollector := by
  unfold Obligations.FaultCollector
  intro s m rest c queue cls width
  obtain ⟨takenQueue, taken, classes, units, fences, lastC3, power⟩ := State.taking_keeps m rest s
  obtain ⟨queue', taken', classes', units', fences', lastC3', power'⟩ := State.recorded_keeps m ((s.taking m rest).react m)
  refine ⟨does_of_next (exec_faultMessageTaken queue) ⟨?_, ?_, ?_⟩, fun info => does_of_next (exec_faultMessageTaken queue) ⟨?_, ?_, ?_⟩,
    fun fencing d target die active channel alone => does_of_next (exec_faultMessageTaken queue) ?_,
    fun fatal stands => does_of_next (exec_faultMessageTaken queue) ?_⟩
  · rw [queue']
    calc rest = (s.taking m rest).flt.queue := takenQueue.symm
      _ <+: ((s.taking m rest).react m).flt.queue := (State.react_grows (Grows.refl (s.taking m rest)) m).queue
  · have kept (v : State) : (v.react m).flt.taken = v.flt.taken := by simp
    rw [taken', kept, taken]
  · have grown := (State.react_grows (Grows.refl (s.taking m rest)) m).classes c
    have short : c < s.flt.classes.length := by rw [cls, width, kindClass]; split <;> [skip; split] <;> [skip; skip; split] <;> decide
    rw [classes, ← cls, nth_modNth_same short] at grown
    rw [classes']
    exact grown
  · rw [units', State.react_info (cls ▸ info), units]
  · rw [queue', State.react_info (cls ▸ info), takenQueue]
  · rw [power', State.react_info (cls ▸ info), power]
  · have same : (s.taking m rest).unit = s.unit := by funext j; rw [State.unit, units, State.unit]
    have out (j : Nat) : (s.taking m rest).isOut j = s.isOut j := by rw [State.isOut, same, State.isOut]
    have fenced := State.react_fences (s := s.taking m rest) (cls ▸ fencing) target die (by rw [same]; exact active) (by rw [out]; exact channel)
    have time : (s.taking m rest).tim.opTime = s.tim.opTime := by simp [State.taking]
    rw [State.unit, units', fences', ← State.unit, ← fences, ← time]
    exact fenced
  · have easy : (s.taking m rest).easy = s.easy := by simp [State.taking]
    obtain ⟨last, state⟩ := State.react_standing (s := s.taking m rest) (m := m) (cls ▸ fatal) (by rw [State.cause, easy]; exact stands)
    exact ⟨by rw [lastC3', last, lastC3], by rw [power', state, power]⟩
end

section
/-! PROOFS. The quiet timer, probes, and the Operator's fence, re-admission and release (O31). -/
namespace Sys2Proof.Machine

/-! ## The links' review queues nothing -/

section
variable {s : State}

theorem State.easyEnter_flt {bitNo : Nat} (quiet : bitNo ≠ 0) (s : State) : (s.easyEnter bitNo).flt = s.flt := by
  rw [State.easyEnter_of_quiet s quiet]
  split <;> simp [State.causeSet, State.stopped]

theorem State.easyEnter_keelOn (bitNo : Nat) (on : s.keelOn = true) : (s.easyEnter bitNo).keelOn = true := by
  rw [State.easyEnter_eq]
  split
  case isTrue service => rw [State.keelOn, State.easyBegin_state]; rfl
  case isFalse =>
    have kept (v : State) (pwr : v.pwr = s.pwr) : v.keelOn = true := by rw [State.keelOn, pwr]; exact on
    split
    · exact kept _ (State.forEach_signalViral_pwr _ _)
    · exact kept _ rfl

/-- The fault collector as before, and the keel still on. -/
def State.FltSame (s u : State) : Prop := u.flt = s.flt ∧ (s.keelOn = true → u.keelOn = true)

theorem State.FltSame.of_kept {u v : State} (same : s.FltSame u) (flt : v.flt = u.flt) (pwr : v.pwr.state = u.pwr.state) : s.FltSame v :=
  ⟨flt.trans same.1, fun on => by rw [State.keelOn, pwr]; exact same.2 on⟩

theorem State.FltSame.when {u : State} (same : s.FltSame u) {c : Bool} {f : State → State} (kept : s.FltSame (f u)) : s.FltSame (u.when c f) := by
  cases c
  · exact same
  · exact kept

theorem State.FltSame.linkReset {u : State} (same : s.FltSame u) (h : Nat) : s.FltSame (u.linkReset h) := by
  refine same.of_kept ?_ ?_
  · simp [State.linkReset]
    refine (State.when_same (fun v : State => v.flt) (f := State.modPort (h / 2) fun p => { p with downCount := p.downCount + 1 }) (by intro v; simp) _ _).trans ?_
    simp
  · simp [State.linkReset]
    refine (State.when_same (fun v : State => v.pwr.state) (f := State.modPort (h / 2) fun p => { p with downCount := p.downCount + 1 }) (by intro v; simp) _ _).trans ?_
    simp

theorem State.FltSame.lossBound {u : State} (same : s.FltSame u) : s.FltSame u.lossBound := by
  rw [State.lossBound]
  have bound : s.FltSame u.boundSync := same.of_kept (by simp) (by simp)
  split
  case isTrue => exact ⟨(State.easyEnter_flt (by decide) _).trans bound.1, fun on => State.easyEnter_keelOn 5 (bound.2 on)⟩
  case isFalse => exact bound

theorem State.FltSame.linkDown {u : State} (same : s.FltSame u) (h : Nat) : s.FltSame (u.linkDown h) := by
  rw [State.linkDown_eq]
  split
  case isTrue => exact same
  case isFalse =>
    refine State.FltSame.lossBound ?_
    rw [State.lossPosted]
    split
    case isTrue => exact (same.linkReset h).of_kept (by simp) (by simp)
    case isFalse => exact same.linkReset h

theorem State.FltSame.portSync {u : State} (same : s.FltSame u) (p : Nat) : s.FltSame (u.portSync p) := by
  have first : s.FltSame (u.when (u.linkHeld (2 * p)) (State.linkDown (2 * p))) := same.when (same.linkDown _)
  have second := first.when (c := (u.when (u.linkHeld (2 * p)) (State.linkDown (2 * p))).linkHeld (2 * p + 1)) (first.linkDown (2 * p + 1))
  have trained (v : State) : (((v.applyMode p).train (2 * p)).train (2 * p + 1)).flt = v.flt
      ∧ (((v.applyMode p).train (2 * p)).train (2 * p + 1)).pwr.state = v.pwr.state := by
    constructor <;> simp
  exact second.of_kept (trained _).1 (trained _).2

theorem State.FltSame.linksSync {u : State} (same : s.FltSame u) : s.FltSame u.linksSync := by
  rw [State.linksSync]
  exact forEach_keeps (P := s.FltSame) _ (fun p v kept => kept.portSync p) same
end

/-! ## A probe's start -/

section
variable {s : State} {src : Nat}

/-- A unit whose probe starts. -/
def probing (u : UnitS) : UnitS := { u with state := .probing, fromHeld := decide (u.state = .held), quiet := 0, waitsChannel := false }

theorem State.startProbe_flt (src : Nat) (s : State) : (s.startProbe src).flt = (s.modUnit src probing).flt := by
  have powered : (forEach (probeDomains src) (fun d => fun s => if (s.domain d).state = 3 then s else s.modDomain d fun x => { x with state := 1 })
      (s.modUnit src probing)).flt = (s.modUnit src probing).flt := by
    refine forEach_keeps (P := fun v => v.flt = (s.modUnit src probing).flt) _ (fun d v kept => ?_) rfl
    split
    · exact kept
    · exact kept
  rw [State.startProbe]
  split <;> exact powered

theorem State.startProbe_unit (src : Nat) (s : State) : (s.startProbe src).unit src = probing (s.unit src) := by
  rw [State.unit, State.startProbe_flt, ← State.unit, State.modUnit_unit]

theorem State.startProbe_unit_ne {j : Nat} (other : j ≠ src) (wf : Tab.wf (fun _ => {}) s.flt.units = true) :
    (s.startProbe src).unit j = s.unit j := by
  rw [State.unit, State.startProbe_flt, ← State.unit, State.modUnit_unit_ne _ other wf]

theorem State.startProbe_units_wf (wf : Tab.wf (fun _ => {}) s.flt.units = true) (src : Nat) : Tab.wf (fun _ => {}) (s.startProbe src).flt.units = true := by
  rw [State.startProbe_flt]
  exact Tab.mod_wf {} s.flt.units src probing wf

/-- A listed entry is the one that is read. -/
theorem Tab.rd_of_mem {α : Type} [DecidableEq α] {d : α} {tab : Tab α} {lo : Nat} (canonical : Tab.wfFrom (fun _ => d) lo tab = true) {e : Nat × α}
    (listed : e ∈ tab) : Tab.rd d tab e.1 = e.2 := by
  have stands := Tab.mem_of_listed canonical (List.mem_map_of_mem (f := Prod.fst) listed)
  exact congrArg Prod.snd (List.inj_on_of_nodup_map (Tab.nodup_keys _ _ canonical) stands listed rfl)

theorem State.probeWaiting_unit (wf : Tab.wf (fun _ => {}) s.flt.units = true) (waits : (s.unit src).waitsChannel = false) :
    s.probeWaiting.unit src = s.unit src := by
  have unlisted : src ∉ (s.flt.units.filter fun u => u.2.waitsChannel).map Prod.fst := by
    intro listed
    obtain ⟨e, stands, rfl⟩ := List.mem_map.mp listed
    obtain ⟨stands, waiting⟩ := List.mem_filter.mp stands
    rw [State.unit, Tab.rd_of_mem wf stands, waiting] at waits
    cases waits
  rw [State.probeWaiting]
  generalize (s.flt.units.filter fun u => u.2.waitsChannel).map Prod.fst = l at unlisted
  induction l generalizing s with
  | nil => rfl
  | cons j l ih =>
    obtain ⟨other, unlisted⟩ := not_or.mp (mt List.mem_cons.mpr unlisted)
    rw [forEach]
    by_cases blocked : s.probeBlocked j
    · rw [if_pos blocked]
      exact ih wf waits unlisted
    · rw [if_neg blocked]
      have same : (s.startProbe j).unit src = s.unit src := State.startProbe_unit_ne other wf
      rw [ih (State.startProbe_units_wf wf j) (same ▸ waits) unlisted, same]
end

/-! ## The quiet timer -/

section
variable {s : State} {src : Nat} {u : UnitS}

/-- A unit that is latched. -/
def State.latchedUnit (src : Nat) (s : State) : State := s.modUnit src fun u => { u with state := .latched, quiet := 0, waitsChannel := false }

theorem State.askProbe_latched (spent : 3 ≤ s.recoveryCount src) (on : s.keelOn = true) (room : s.flt.queue.length < 256) :
    ((s.askProbe src).unit src).state = .latched ∧ queued s (s.askProbe src) (faultMsg src 0x03 none false) := by
  have latched : s.askProbe src = (((s.latchedUnit src).storeWrite 89).report src 0x03 none).cmdDone src 0x07 := if_pos spent
  have units (v : State) : (((v.storeWrite 89).report src 0x03 none).cmdDone src 0x07).flt.units = v.flt.units := by simp
  have reported := State.report_queued_of_below (s := (s.latchedUnit src).storeWrite 89) on (kind := 0x03) (by decide) src none room
  have kept (v : State) : (v.cmdDone src 0x07).flt.queue = v.flt.queue := by simp
  rw [latched]
  refine ⟨?_, ?_⟩
  · rw [State.unit, units, ← State.unit, State.latchedUnit, State.modUnit_unit]
  · rw [queued, kept]
    exact reported

theorem State.askProbe_waits (left : s.recoveryCount src < 3) (blocked : s.probeBlocked src = true) :
    s.askProbe src = s.modUnit src fun u => { u with quiet := 0, waitsChannel := true } := by
  rw [State.askProbe, if_neg (by omega), if_pos blocked]

theorem State.askProbe_starts (left : s.recoveryCount src < 3) (free : s.probeBlocked src = false) : s.askProbe src = s.startProbe src := by
  rw [State.askProbe, if_neg (by omega), if_neg (by simp [free])]

theorem exec_quietTimerExpiry (fenced : (s.unit src).state = .fenced) (quiet : (s.unit src).quiet ≠ 0) :
    exec (.quietTimerExpiry src) s = .next (s.askProbe src) := if_pos ⟨fenced, quiet⟩

/-! ## A failed probe -/

theorem State.probeFailed_unit (waits : (s.unit src).waitsChannel = false) :
    ((s.probeFailed src).unit src).state = (if (s.unit src).fromHeld then .held else .fenced) ∧ ((s.probeFailed src).unit src).waitsChannel = false := by
  have kept (v : State) : ((((v.probeStopped src).report src 0x01 none).cmdDone src 0x07).boundSync).flt.units = v.flt.units := by simp
  rw [State.unit, State.probeFailed, kept, ← State.unit]
  cases (s.unit src).fromHeld
  · exact ⟨by simp [State.startQuiet], by simp [State.startQuiet]⟩
  · exact ⟨by simp, by simpa using waits⟩

theorem State.probeFailed_queued (on : s.keelOn = true) (room : s.flt.queue.length < 256) :
    queued s (s.probeFailed src) (faultMsg src 0x01 none false) := by
  have reported (v : State) (queue : v.flt.queue = s.flt.queue) (pwr : v.pwr = s.pwr) :
      queued s ((((v.probeStopped src).report src 0x01 none).cmdDone src 0x07).boundSync) (faultMsg src 0x01 none false) := by
    have stopped : (v.probeStopped src).flt.queue = s.flt.queue := by simp [queue]
    have power : (v.probeStopped src).pwr.state = s.pwr.state := by simp [pwr]
    have message := State.report_queued_of_below (s := v.probeStopped src) (by rw [State.keelOn, power]; exact on) (kind := 0x01) (by decide) src none
      (by rw [stopped]; exact room)
    have kept (w : State) : ((w.cmdDone src 0x07).boundSync).flt.queue = w.flt.queue := by simp
    rw [queued, kept, ← stopped]
    exact message
  rw [State.probeFailed]
  cases (s.unit src).fromHeld <;> exact reported _ rfl rfl

theorem State.probeFailed_steadyWaits (canonical : s.canonical = true) (waits : (s.unit src).waitsChannel = false) :
    (s.probeFailed src).probeWaiting.unit src = (s.probeFailed src).unit src := by
  refine State.probeWaiting_unit ?_ (State.probeFailed_unit waits).2
  exact State.flt_units_wf ((State.probeFailed_steady (Steady.refl s) src).canonical canonical)

/-- What follows a failed probe, whichever way it failed. -/
theorem State.probeFailed_ends (canonical : s.canonical = true) (waits : (s.unit src).waitsChannel = false) (on : s.keelOn = true)
    (room : s.flt.queue.length < 256) : ((s.probeFailed src).probeWaiting.unit src).state = (if (s.unit src).fromHeld then .held else .fenced)
      ∧ queued s (s.probeFailed src).probeWaiting (faultMsg src 0x01 none false) := by
  refine ⟨?_, ?_⟩
  · rw [State.probeFailed_steadyWaits canonical waits]
    exact (State.probeFailed_unit waits).1
  · have kept (w : State) : w.probeWaiting.flt.queue = w.flt.queue := by simp
    rw [queued, kept]
    exact State.probeFailed_queued on room
end

/-! ## A re-admission -/

section
variable {s : State} {src : Nat}

/-- The state of a unit that is re-admitted. -/
def readmitState (src : Nat) : UnitState :=
  match unitKind src with
  | some .die => .rebuilding
  | some .channel => .rebuilding
  | _ => .active

/-- A unit that is re-admitted now. -/
def readmittedUnit (src now : Nat) (u : UnitS) : UnitS :=
  { u with state := readmitState src, fromHeld := false, readmissions := now :: u.readmissions.filter fun t => decide (now < t + 86400000) }

/-- The unit's record of a re-admission. -/
def State.readmitNoted (src : Nat) (s : State) : State :=
  ((s.modUnit src (readmittedUnit src s.tim.opTime)).modSource src fun x => { x with hour := [] }).storeWrite 89

/-- The unit's record of a re-admission, and the power of its domains. -/
def State.readmitMarked (src : Nat) (s : State) : State :=
  forEach (probeDomains src) (fun d => State.modDomain d fun x => { x with state := 3 }) (s.readmitNoted src)

/-- What a re-admission does for the unit's kind. -/
def State.readmitKind (src : Nat) (s : State) : State :=
  match unitKind src with
  | some .die => s.startRebuild (groupOfDie src) src
  | some .channel => ((s.modChannel (src - 0x240) fun x => { x with state := 2 }).startRebuild (groupOfChannel (src - 0x240)) src)
  | some .port => (s.clockBack (src - 0x280)).linksSync
  | some .head => s.linksSync
  | some .engine => if src = 0x29B then forEach [0, 1, 2, 3] State.rebuildSync s else s
  | some .t1s => if s.coxUp then s.plcaStart else s
  | _ => s

theorem State.readmit_eq (src : Nat) (s : State) : s.readmit src
    = ((((s.readmitMarked src).readmitKind src).report src 0x02 none).cmdDone src 0x00).boundSync.mapStep := rfl

theorem State.readmitMarked_kept (src : Nat) (s : State) : (s.readmitMarked src).flt.queue = s.flt.queue ∧ (s.readmitMarked src).pwr.state = s.pwr.state
    ∧ ((s.readmitMarked src).unit src).state = readmitState src ∧ ((s.readmitMarked src).unit src).waitsChannel = (s.unit src).waitsChannel := by
  have flt : (s.readmitMarked src).flt = (s.readmitNoted src).flt := forEach_same (fun v : State => v.flt) _ (by intro _ _; rfl) _
  have power : (s.readmitMarked src).pwr.state = (s.readmitNoted src).pwr.state := forEach_same (fun v : State => v.pwr.state) _ (by intro _ _; rfl) _
  have unit : (s.readmitNoted src).unit src = readmittedUnit src s.tim.opTime (s.unit src) := State.modUnit_unit src _ s
  refine ⟨?_, ?_, ?_, ?_⟩
  · rw [flt]
    rfl
  · rw [power]
    rfl
  · rw [State.unit, flt, ← State.unit, unit, readmittedUnit]
  · rw [State.unit, flt, ← State.unit, unit, readmittedUnit]

theorem State.readmitKind_same (src : Nat) (s : State) : s.FltSame (s.readmitKind src) := by
  have same : s.FltSame s := ⟨rfl, id⟩
  rw [State.readmitKind]
  split
  · exact same.of_kept (by simp) (by simp)
  · exact same.of_kept (by simp) (by simp)
  · exact (same.of_kept (v := s.clockBack (src - 0x280)) rfl rfl).linksSync
  · exact same.linksSync
  · split
    · exact forEach_keeps (P := s.FltSame) _ (fun g v kept => kept.of_kept (by simp) (by simp)) same
    · exact same
  · split
    · exact same.of_kept rfl rfl
    · exact same
  · exact same

theorem State.readmit_unit (src : Nat) (s : State) : ((s.readmit src).unit src).state = readmitState src
    ∧ ((s.readmit src).unit src).waitsChannel = (s.unit src).waitsChannel := by
  have kept (v : State) : ((v.report src 0x02 none).cmdDone src 0x00).boundSync.mapStep.flt.units = v.flt.units := by simp
  obtain ⟨-, -, state, waits⟩ := State.readmitMarked_kept src s
  rw [State.unit, State.readmit_eq, kept, (State.readmitKind_same src _).1, ← State.unit]
  exact ⟨state, waits⟩

theorem State.readmit_queued (on : s.keelOn = true) (room : s.flt.queue.length < 256) :
    queued s (s.readmit src) (faultMsg src 0x02 none false) := by
  obtain ⟨queue, power, -, -⟩ := State.readmitMarked_kept src s
  obtain ⟨flt, still⟩ := State.readmitKind_same src (s.readmitMarked src)
  rw [← queue, ← flt] at room
  have reported := State.report_queued_of_below (s := (s.readmitMarked src).readmitKind src)
    (still (by rw [State.keelOn, power]; exact on)) (kind := 0x02) (by decide) src none room
  have kept (v : State) : ((v.cmdDone src 0x00).boundSync).flt.queue = v.flt.queue := by simp
  rw [State.readmit_eq, queued, ← queue, ← flt]
  refine List.IsPrefix.trans reported ?_
  rw [← kept]
  exact (State.mapStep_grows (Grows.refl _)).queue

theorem State.readmit_ends (canonical : s.canonical = true) (waits : (s.unit src).waitsChannel = false) (on : s.keelOn = true)
    (room : s.flt.queue.length < 256) : ((s.readmit src).probeWaiting.unit src).state = readmitState src
      ∧ queued s (s.readmit src).probeWaiting (faultMsg src 0x02 none false) := by
  obtain ⟨state, waits'⟩ := State.readmit_unit src s
  refine ⟨?_, ?_⟩
  · rw [State.probeWaiting_unit (State.flt_units_wf ((State.readmit_steady (Steady.refl s) src).canonical canonical)) (waits'.trans waits)]
    exact state
  · have kept (w : State) : w.probeWaiting.flt.queue = w.flt.queue := by simp
    rw [queued, kept]
    exact State.readmit_queued on room

/-! ## The end of a probe -/

theorem State.probeCounts_kept (src : Nat) (find : ProbeFind) (s : State) : (s.probeCounts src find).flt = s.flt
    ∧ (s.probeCounts src find).pwr = s.pwr ∧ (s.probeCounts src find).stg = s.stg := by
  refine ⟨?_, ?_, ?_⟩ <;> simp

theorem State.probeCounts_passes (src : Nat) (find : ProbeFind) (s : State) : (s.probeCounts src find).probePasses src find = s.probePasses src find := by
  have out : (s.probeCounts src find).isOut = s.isOut := by
    funext j
    rw [State.isOut, State.isOut, State.unit, (State.probeCounts_kept src find s).1, State.unit]
  have dies : (s.probeCounts src find).probedDies src find = s.probedDies src find := by rw [State.probedDies, out, State.probedDies]
  rw [State.probePasses, dies, State.probePasses]

/-- The part of a probe's end that the counters of the dies do not touch. -/
theorem State.probeCounts_ready (canonical : s.canonical = true) (waits : (s.unit src).waitsChannel = false) (on : s.keelOn = true)
    (find : ProbeFind) : (s.probeCounts src find).canonical = true ∧ ((s.probeCounts src find).unit src).waitsChannel = false
      ∧ (s.probeCounts src find).keelOn = true ∧ ((s.probeCounts src find).unit src) = s.unit src := by
  obtain ⟨flt, pwr, -⟩ := State.probeCounts_kept src find s
  have same : (s.probeCounts src find).unit src = s.unit src := by rw [State.unit, flt, State.unit]
  refine ⟨(State.probeCounts_steady (Steady.refl s) src find).canonical canonical, same ▸ waits, ?_, same⟩
  rw [State.keelOn, pwr]
  exact on

theorem exec_probeComplete_failed {find : ProbeFind} (runs : (s.unit src).state = .probing) (fails : s.probePasses src find = false) :
    exec (.probeComplete src find) s = .next ((s.probeCounts src find).probeFailed src).probeWaiting :=
  (if_neg (not_not.mpr runs)).trans (if_pos (by rw [State.probeCounts_passes, fails]; rfl))

theorem exec_probeComplete_part {find : ProbeFind} (runs : (s.unit src).state = .probing) (passes : s.probePasses src find = true)
    (part : unitKind src = some .part) : exec (.probeComplete src find) s
      = .next (((s.probeCounts src find).modSram (src - 0x270) fun x => { x with ready := true }).modStg fun x =>
        { x with restoring := insertSorted (src - 0x270) x.restoring }) := by
  refine (if_neg (not_not.mpr runs)).trans ((if_neg (by rw [State.probeCounts_passes, passes]; decide)).trans ?_)
  rw [part]

theorem exec_probeComplete_passed {find : ProbeFind} (runs : (s.unit src).state = .probing) (passes : s.probePasses src find = true)
    (whole : unitKind src ≠ some .part) : exec (.probeComplete src find) s = .next ((s.probeCounts src find).readmit src).probeWaiting := by
  refine (if_neg (not_not.mpr runs)).trans ((if_neg (by rw [State.probeCounts_passes, passes]; decide)).trans ?_)
  split
  · next part => exact absurd part whole
  · rfl
end

/-! ## The Operator's commands -/

section
variable {s : State} {src n : Nat} {req : Req}

theorem State.fenceRefused_of_same {t : State} (flt : t.flt = s.flt) (hst : t.hst = s.hst) (stg : t.stg = s.stg) (req : Req) (src : Nat) :
    t.fenceRefused req src = s.fenceRefused req src := by
  have unit : t.unit = s.unit := by funext j; rw [State.unit, flt, State.unit]
  have out : t.isOut = s.isOut := by funext j; rw [State.isOut, unit, State.isOut]
  have healthy : t.notHealthy = s.notHealthy := by funext j; rw [State.notHealthy, unit, State.notHealthy]
  have others : t.otherUnits = s.otherUnits := by funext g j; rw [State.otherUnits, State.groupUnits, flt, healthy, ← State.groupUnits, ← State.otherUnits]
  have link : t.linkUp = s.linkUp := by funext h; rw [State.linkUp, State.link, hst, ← State.link, ← State.linkUp]
  have parts : t.stagingLoses = s.stagingLoses := by
    funext j
    have part : t.partOut = s.partOut := by funext m; rw [State.partOut, out, State.partOut]
    rw [State.stagingLoses, part, stg, ← State.stagingLoses]
  rw [State.fenceRefused, others, link, parts, ← State.fenceRefused]

theorem State.ticketStart_unit (req : Req) (idx mem : Nat) (s : State) : (s.ticketStart req idx mem).2.unit = s.unit := by
  have flt : (s.ticketStart req idx mem).2.flt = s.flt := by simp
  funext j
  rw [State.unit, flt, State.unit]

theorem exec_operatorFence (cox : s.coxUp = true) (free : s.freeSlot = some n) (known : unitKind src ≠ none) (may : mayWrite 0x4003 0 req = 0) :
    ∃ ticket, exec (.operatorFence req src) s = .next ((((s.ticketStart req 0x4003 0).2.operatorFenceNow req src).2.ticketDone n
      ((s.ticketStart req 0x4003 0).2.operatorFenceNow req src).1 []).emit (.access req 0x4003 0 0 ticket)) := by
  have op : State.fenceOp req src s = s.deferred req 0x4003 0 (fun n => fun s => (s.operatorFenceNow req src).2.ticketDone n (s.operatorFenceNow req src).1 []) :=
    if_neg known
  refine ⟨((s.ticketStart req 0x4003 0).2.slot n).ticket, (accessed_of_up cox _).trans ?_⟩
  rw [guarded_of_may s may, op, respondAccess_deferred free]

theorem State.operatorFenceNow_active (active : (s.unit src).state = .active) (granted : s.fenceRefused req src = false) :
    s.operatorFenceNow req src = (0x00, (s.hold src).fenceEffects src) := by
  simp only [State.operatorFenceNow, active, granted, Bool.false_eq_true, if_false]

theorem does_operatorFence (cox : s.coxUp = true) (free : s.freeSlot = some n) (known : unitKind src ≠ none) (may : mayWrite 0x4003 0 req = 0)
    (active : (s.unit src).state = .active) (granted : s.fenceRefused req src = false) : Does (.operatorFence req src) s fun t =>
      (t.unit src).state = .held ∧ accepted req 0x4003 0 t := by
  obtain ⟨ticket, next⟩ := exec_operatorFence cox free known may
  have active' : ((s.ticketStart req 0x4003 0).2.unit src).state = .active := by rw [State.ticketStart_unit]; exact active
  have granted' : (s.ticketStart req 0x4003 0).2.fenceRefused req src = false := by
    rw [State.fenceRefused_of_same (s := s) (by simp) (by simp) (by simp)]
    exact granted
  rw [State.operatorFenceNow_active active' granted'] at next
  generalize (s.ticketStart req 0x4003 0).2 = v at next
  have kept (w : State) (outcome : Nat) (o : Out) : (((w.fenceEffects src).ticketDone n outcome []).emit o).flt.units = w.flt.units := by simp
  refine does_of_next next ⟨?_, accepted_emit ..⟩
  rw [State.unit, kept, ← State.unit, State.hold, State.modUnit_unit]

theorem exec_operatorReadmit (cox : s.coxUp = true) (free : s.freeSlot = some n) (known : unitKind src ≠ none) (may : mayWrite 0x4003 0 req = 0)
    (out : (s.unit src).state = .fenced ∨ (s.unit src).state = .held) (noFatal : s.cause 0 = false) :
    ∃ ticket, exec (.operatorReadmit req src) s = .next ((((((s.ticketStart req 0x4003 0).2.cmdDone src 0x07).modFlt fun x =>
      { x with cmdSlots := Tab.set 0 x.cmdSlots src (n + 1) }).askProbe src)).emit (.access req 0x4003 0 0 ticket)) := by
  have easy : (s.ticketStart req 0x4003 0).2.easy = s.easy := by simp
  have op : State.readmitOp req src s = s.deferred req 0x4003 0 (fun n => fun s =>
    let st := (s.unit src).state
    if (st = .fenced ∨ st = .held) ∧ ¬ (s.inEasy ∧ s.cause 0) then
      ((s.cmdDone src 0x07).modFlt fun x => { x with cmdSlots := Tab.set 0 x.cmdSlots src (n + 1) }).askProbe src
    else s.ticketDone n 0x07 []) := if_neg known
  refine ⟨((s.ticketStart req 0x4003 0).2.slot n).ticket, (accessed_of_up cox _).trans ?_⟩
  rw [guarded_of_may s may, op, respondAccess_deferred free]
  have asked : (((s.ticketStart req 0x4003 0).2.unit src).state = .fenced ∨ ((s.ticketStart req 0x4003 0).2.unit src).state = .held)
      ∧ ¬ ((s.ticketStart req 0x4003 0).2.inEasy ∧ (s.ticketStart req 0x4003 0).2.cause 0) := by
    rw [State.ticketStart_unit, State.cause, easy, ← State.cause, noFatal]
    exact ⟨out, by simp⟩
  exact congrArg (fun x : State => Host.Outcome.next (x.emit (.access req 0x4003 0 0 ((s.ticketStart req 0x4003 0).2.slot n).ticket))) (if_pos asked)

/-- What a probe's start is decided by, when only the operations of the fault collector changed. -/
theorem State.probeBlocked_of_same {t : State} (units : t.flt.units = s.flt.units) (cox : t.coxUp = s.coxUp) (src : Nat) :
    t.probeBlocked src = s.probeBlocked src := by
  have unit : t.unit = s.unit := by funext j; rw [State.unit, units, State.unit]
  have out : t.isOut = s.isOut := by funext j; rw [State.isOut, unit, State.isOut]
  rw [State.probeBlocked, cox, out, units, ← State.probeBlocked]

theorem State.recoveryCount_of_same {t : State} (units : t.flt.units = s.flt.units) (time : t.tim = s.tim) (src : Nat) :
    t.recoveryCount src = s.recoveryCount src := by
  rw [State.recoveryCount, State.unit, units, time, ← State.unit, ← State.recoveryCount]

theorem does_operatorReadmit (cox : s.coxUp = true) (free : s.freeSlot = some n) (known : unitKind src ≠ none) (may : mayWrite 0x4003 0 req = 0)
    (out : (s.unit src).state = .fenced ∨ (s.unit src).state = .held) (left : s.recoveryCount src < 3) (unblocked : s.probeBlocked src = false)
    (noFatal : s.cause 0 = false) : Does (.operatorReadmit req src) s fun t => t.unit src = probing (s.unit src) ∧ accepted req 0x4003 0 t := by
  obtain ⟨ticket, next⟩ := exec_operatorReadmit cox free known may out noFatal
  generalize state : ((s.ticketStart req 0x4003 0).2.cmdDone src 0x07).modFlt (fun x => { x with cmdSlots := Tab.set 0 x.cmdSlots src (n + 1) }) = v at next
  have units : v.flt.units = s.flt.units := by rw [← state]; simp
  have time : v.tim = s.tim := by rw [← state]; simp
  have up : v.coxUp = s.coxUp := by rw [← state]; simp
  have same : v.unit src = s.unit src := by rw [State.unit, units, State.unit]
  rw [State.askProbe_starts (by rw [State.recoveryCount_of_same units time]; exact left) (by rw [State.probeBlocked_of_same units up]; exact unblocked)] at next
  refine does_of_next next ⟨?_, accepted_emit ..⟩
  exact (State.startProbe_unit src v).trans (congrArg probing same)

theorem exec_latchRelease (cox : s.coxUp = true) (free : s.freeSlot = some n) (known : unitKind src ≠ none) (may : mayWrite 0x4003 1 req = 0)
    (latched : (s.unit src).state = .latched) : ∃ ticket, exec (.latchRelease req src) s = .next ((((((s.ticketStart req 0x4003 1).2.modUnit src
      fun u => { u with state := .fenced, readmissions := [] }).startQuiet src).storeWrite 89).ticketDone n 0 []).emit (.access req 0x4003 1 0 ticket)) := by
  have op : State.latchReleaseOp req src s = s.deferred req 0x4003 1 (fun n => fun s =>
    if (s.unit src).state = .latched then
      (((s.modUnit src fun u => { u with state := .fenced, readmissions := [] }).startQuiet src).storeWrite 89).ticketDone n 0 []
    else s.ticketDone n 0x07 []) := if_neg known
  refine ⟨((s.ticketStart req 0x4003 1).2.slot n).ticket, (accessed_of_up cox _).trans ?_⟩
  rw [guarded_of_may s may, op, respondAccess_deferred free]
  have latched' : ((s.ticketStart req 0x4003 1).2.unit src).state = .latched := by rw [State.ticketStart_unit]; exact latched
  exact congrArg (fun x : State => Host.Outcome.next (x.emit (.access req 0x4003 1 0 ((s.ticketStart req 0x4003 1).2.slot n).ticket))) (if_pos latched')

theorem does_latchRelease (cox : s.coxUp = true) (free : s.freeSlot = some n) (known : unitKind src ≠ none) (may : mayWrite 0x4003 1 req = 0)
    (latched : (s.unit src).state = .latched) : Does (.latchRelease req src) s fun t =>
        t.unit src = { s.unit src with state := .fenced, readmissions := [], quiet := s.tim.opTime + 1, waitsChannel := false }
          ∧ (t.slot n).state = 2 ∧ (t.slot n).outcome = 0 ∧ accepted req 0x4003 1 t := by
  obtain ⟨ticket, next⟩ := exec_latchRelease cox free known may latched
  have time : (s.ticketStart req 0x4003 1).2.tim = s.tim := by simp
  have same : (s.ticketStart req 0x4003 1).2.unit src = s.unit src := congrFun (State.ticketStart_unit ..) src
  have running := State.slot_ticketStart_running free req 0x4003 1
  have up : (s.ticketStart req 0x4003 1).2.coxUp = true := by simpa using cox
  generalize (s.ticketStart req 0x4003 1).2 = v at *
  have done := State.ticketDone_slot (s := ((v.modUnit src fun u => { u with state := .fenced, readmissions := [] }).startQuiet src).storeWrite 89)
    running up 0 []
  have kept (w : State) (o : Out) : ((w.ticketDone n 0 []).emit o).flt.units = w.flt.units := by simp
  refine does_of_next next ⟨?_, ?_, ?_, accepted_emit ..⟩
  · rw [State.unit, kept, ← State.unit, ← same, ← time]
    simp [State.startQuiet]
  · exact congrArg Slot.state done
  · exact congrArg Slot.outcome done
end
end Sys2Proof.Machine

open Sys2Proof Sys2Proof.Machine

/-- Settles O31: a probe's start, its two ends and a re-admission each set the unit's record once, and no later step of theirs returns to it. -/
theorem fencesAndProbes : Obligations.FencesAndProbes := by
  unfold Obligations.FencesAndProbes
  intro s src u canonical unit
  subst unit
  have wf := State.flt_units_wf canonical
  have readmits (waits : (s.unit src).waitsChannel = false) (on : s.keelOn = true) (room : s.flt.queue.length < 256) (find : ProbeFind) :
      ((((s.probeCounts src find).readmit src).probeWaiting.unit src).state = readmitState src
        ∧ queued s ((s.probeCounts src find).readmit src).probeWaiting (faultMsg src 0x02 none false)) := by
    obtain ⟨canonical', waits', on', -⟩ := State.probeCounts_ready canonical waits on find
    have flt := (State.probeCounts_kept src find s).1
    have ends := State.readmit_ends canonical' waits' on' (flt ▸ room)
    rwa [queued, flt] at ends
  have fallsBack (waits : (s.unit src).waitsChannel = false) (on : s.keelOn = true) (room : s.flt.queue.length < 256) (find : ProbeFind) :
      ((((s.probeCounts src find).probeFailed src).probeWaiting.unit src).state = (if (s.unit src).fromHeld then .held else .fenced)
        ∧ queued s ((s.probeCounts src find).probeFailed src).probeWaiting (faultMsg src 0x01 none false)) := by
    obtain ⟨canonical', waits', on', same⟩ := State.probeCounts_ready canonical waits on find
    have flt := (State.probeCounts_kept src find s).1
    have ends := State.probeFailed_ends canonical' waits' on' (flt ▸ room)
    rwa [queued, flt, same] at ends
  refine ⟨fun fenced quiet => ⟨fun spent on room => ?_, fun left blocked => ?_, fun left free => ?_⟩,
    fun runs waits on room => ⟨fun find passes kind => ?_, fun find passes kind => ?_, fun find passes part => ?_, fun d die => ?_,
      fun find channel untrained => ?_, fun find fails => ?_, ?_⟩,
    fun req n cox free known => ⟨fun may active granted => ?_, fun may out left unblocked noFatal => ?_, fun may latched => ?_⟩⟩
  · exact does_of_next (exec_quietTimerExpiry fenced quiet) (State.askProbe_latched spent on room)
  · refine does_of_next (exec_quietTimerExpiry fenced quiet) ?_
    rw [State.askProbe_waits left blocked]
    exact ⟨State.modUnit_unit .., fun j other => State.modUnit_unit_ne _ other wf⟩
  · refine does_of_next (exec_quietTimerExpiry fenced quiet) ?_
    rw [State.askProbe_starts left free]
    refine ⟨(State.startProbe_unit src s).trans ?_, fun j other => State.startProbe_unit_ne other wf⟩
    rw [probing, fenced]
    rfl
  · refine does_of_next (exec_probeComplete_passed runs passes fun part => ?_) ?_
    · rw [part] at kind
      rcases kind with die | channel <;> contradiction
    · have state : readmitState src = .rebuilding := by rcases kind with die | channel <;> simp only [readmitState, *]
      exact state ▸ readmits waits on room find
  · have whole : unitKind src ≠ some .part := fun part => by simp [part] at kind
    have good : s.probePasses src find = true := by
      rw [State.probePasses]
      rcases kind with port | head | engine | t1s <;> simp only [*]
    refine does_of_next (exec_probeComplete_passed runs good whole) ?_
    have state : readmitState src = .active := by rcases kind with port | head | engine | t1s <;> simp only [readmitState, *]
    exact state ▸ readmits waits on room find
  · have good : s.probePasses src find = true := by rw [State.probePasses, part]; exact passes
    refine does_of_next (exec_probeComplete_part runs good part) ⟨?_, ?_, ?_⟩
    · exact mem_insertSorted_self ..
    · rw [State.sram, State.modStg_stg, ← State.sram, State.modSram_sram]
    · exact (State.probeCounts_ready canonical waits on find).2.2.2
  · simp [State.probePasses, State.probedDies, die, dieProbePasses]
  · rw [State.probePasses, channel, untrained]
    rfl
  · exact does_of_next (exec_probeComplete_failed runs fails) (fallsBack waits on room find)
  · exact does_of_next (if_pos runs) (State.probeFailed_ends canonical waits on room)
  · exact does_operatorFence cox free known may active granted
  · exact does_operatorReadmit cox free known may out left unblocked noFatal
  · exact does_latchRelease cox free known may latched
end

section
/-! PROOFS. Easy-all: the causes, the flush and its end (O32). -/
namespace Sys2Proof.Machine

/-! ## What the media's housekeeping leaves of Easy-all: everything -/

/-- Easy-all and the power state as before. -/
def State.EasySame (s u : State) : Prop := u.easy = s.easy ∧ u.pwr.state = s.pwr.state

section
variable {s u : State}

theorem State.EasySame.refl (s : State) : s.EasySame s := ⟨rfl, rfl⟩

theorem State.EasySame.keep (same : s.EasySame u) {v : State} (easy : v.easy = u.easy) (power : v.pwr.state = u.pwr.state) : s.EasySame v :=
  ⟨easy.trans same.1, power.trans same.2⟩

theorem State.EasySame.modTrc (same : s.EasySame u) (f : TractS → TractS) : s.EasySame (u.modTrc f) := ⟨same.1, same.2⟩
theorem State.EasySame.modMed (same : s.EasySame u) (f : MediaS → MediaS) : s.EasySame (u.modMed f) := ⟨same.1, same.2⟩
theorem State.EasySame.modStr (same : s.EasySame u) (f : StartS → StartS) : s.EasySame (u.modStr f) := ⟨same.1, same.2⟩
theorem State.EasySame.modWb (same : s.EasySame u) (f : WbS → WbS) : s.EasySame (u.modWb f) := ⟨same.1, same.2⟩
theorem State.EasySame.modChannel (same : s.EasySame u) (k : Nat) (f : ChannelS → ChannelS) : s.EasySame (u.modChannel k f) := ⟨same.1, same.2⟩
theorem State.EasySame.modPlane (same : s.EasySame u) (k : Nat) (f : PlaneS → PlaneS) : s.EasySame (u.modPlane k f) := ⟨same.1, same.2⟩
theorem State.EasySame.modDie (same : s.EasySame u) (k : Nat) (f : DieS → DieS) : s.EasySame (u.modDie k f) := ⟨same.1, same.2⟩

theorem State.EasySame.when (same : s.EasySame u) {c : Bool} {f : State → State} (kept : s.EasySame (f u)) : s.EasySame (u.when c f) := by
  cases c
  · exact same
  · exact kept

theorem State.EasySame.report (same : s.EasySame u) {kind : Nat} (below : kindClass kind ≠ 3) (src : Nat) (addr : Option Nat) :
    s.EasySame (u.report src kind addr) := by
  rw [State.report]
  split
  case isTrue => exact same
  case isFalse =>
    have raised : s.EasySame (u.when (decide (1 ≤ kindClass kind)) (State.setSticky src)) := same.when (same.keep (by simp) (by simp))
    exact raised.keep (by simp [below]) (by simp [below])

theorem State.EasySame.spareCheck (same : s.EasySame u) (row : Nat) : s.EasySame (u.spareCheck row) := by
  rw [State.spareCheck]
  split
  case isTrue => exact (same.modTrc _).report (by decide) ..
  case isFalse => exact same

theorem State.EasySame.freeTract (same : s.EasySame u) (pt : Nat) (retire : Bool) : s.EasySame (u.freeTract pt retire) := by
  unfold State.freeTract
  extract_lets listed filtered stored settled
  have kept : s.EasySame stored := by
    have first : s.EasySame filtered := forEach_keeps (P := s.EasySame) _ (fun c v kept => kept.modChannel c _) same
    exact first.when (first.keep (by simp) (by simp))
  split
  case isTrue => exact ((kept.modTrc _).modTrc _).spareCheck _
  case isFalse => exact kept.modTrc _

theorem State.EasySame.forEach {α : Type} (same : s.EasySame u) (l : List α) {f : α → State → State} (kept : ∀ a v, s.EasySame v → s.EasySame (f a v)) :
    s.EasySame (forEach l f u) := forEach_keeps (P := s.EasySame) l kept same

theorem State.EasySame.freeDone (same : s.EasySame u) : s.EasySame u.freeDone := by
  rw [State.freeDone]
  exact same.forEach _ fun d v kept => kept.freeTract d.1 d.2

theorem State.EasySame.giveUp (same : s.EasySame u) (pt : Nat) (retire : Bool) : s.EasySame (u.giveUp pt retire) := by
  rw [State.giveUp]
  exact (same.keep (by simp) (by simp)).freeDone

theorem State.EasySame.giveUpPt (same : s.EasySame u) (pt : Nat) (retire : Bool) : s.EasySame (u.giveUpPt pt retire) := by
  rw [State.giveUpPt]
  split
  case isTrue => exact same.giveUp pt retire
  case isFalse => exact (same.modTrc _).modMed _

theorem State.EasySame.abandon (same : s.EasySame u) (t : Nat) (again retire : Bool) : s.EasySame (u.abandon t again retire) := by
  rw [State.abandon]
  split
  case h_1 => exact same
  case h_2 m running =>
    dsimp only
    split
    case isTrue => exact (same.keep (by simp) (by simp)).giveUp ..
    case isFalse =>
      split
      case isTrue => exact (same.keep (by simp) (by simp)).giveUpPt ..
      case isFalse => exact same.keep (by simp) (by simp)

theorem State.EasySame.moveBlank (same : s.EasySame u) (m : Migration) : s.EasySame (u.moveBlank m) := by
  rw [State.moveBlank]
  exact (same.keep (by simp) (by simp)).giveUpPt ..

theorem State.EasySame.copyEnds (same : s.EasySame u) (m : Migration) : s.EasySame (u.copyEnds m) := by
  rw [State.copyEnds]
  split
  case isTrue =>
    split
    case h_1 => exact same.moveBlank m
    case h_2 => exact same.keep (by simp) (by simp)
  case isFalse => exact same

theorem State.EasySame.completeOp (same : s.EasySame u) (j : Job) : s.EasySame (u.completeOp j) := by
  unfold State.completeOp
  extract_lets d counted granules died key mask done image
  split
  case isTrue =>
    have erased : s.EasySame granules :=
      State.EasySame.forEach (same.keep (v := counted) (by simp [counted]) (by simp [counted])) _ fun a v kept => kept.keep (by simp) (by simp)
    exact ((erased.modDie _ _).modMed _).freeDone
  case isFalse => exact same.keep (by simp [image, counted]) (by simp [image, counted])

theorem State.EasySame.finishPlane (same : s.EasySame u) (k : Nat) : s.EasySame (u.finishPlane k) := by
  rw [State.finishPlane]
  split
  case isTrue => exact same
  case isFalse =>
    refine State.EasySame.modPlane ?_ _ _
    refine same.forEach _ fun x v kept => State.EasySame.completeOp ?_ x.1
    split
    case isTrue => exact kept.forEach _ fun a w still => still.keep (by simp) (by simp)
    case isFalse => exact kept

theorem State.EasySame.flushMigrations (same : s.EasySame u) : s.EasySame u.flushMigrations := by
  rw [State.flushMigrations]
  exact same.forEach _ fun m v kept => kept.abandon ..

theorem State.EasySame.mediumIdle (same : s.EasySame u) : s.EasySame u.mediumIdle := by
  rw [State.mediumIdle, State.migSync]
  refine State.EasySame.forEach (State.EasySame.modMed ?_ _) _ fun m v kept => kept.copyEnds m
  exact same.forEach _ fun k v kept => kept.finishPlane k
end

/-! ## The end of the flush (R281) -/

section
variable {s : State}

theorem State.easyCheck_of_cause (stands : s.easy.causes ≠ 0) : s.easyCheck = s := if_neg fun ready => stands ready.2.1

theorem State.easyCheck_wb (easyAll : s.pwr.state = .easyAll) : s.easyCheck.wb = s.wb := by
  rw [State.easyCheck]
  split
  case isFalse => rfl
  case isTrue =>
    split
    case isTrue => simp [State.easyLeave]
    case isFalse =>
      have out : ¬ (s.causeSet 5).inService = true := by
        rw [State.inService, State.causeSet, State.modEasy_pwr, easyAll]
        decide
      rw [State.easyEnter_of_quiet s (by decide), if_neg out]
      rfl

/-- The flush closes the root's record and leaves a flush-complete record, unless it failed. -/
def State.flushRecorded (s : State) : State := if s.flushFails then s else s.recordClosing.flushRecord

/-- The flush has ended, and its record stands. -/
def State.flushDone (s : State) : State :=
  (s.flushRecorded.modWb fun w => { w with flushing := false }).modEasy fun e => { e with state := if e.state = .quiescing then .flushed else e.state }

/-- The medium idle, before the flush ends. -/
def State.flushQuiet (s : State) : State := s.flushMigrations.mediumIdle.wearFlush

theorem State.flushQuiet_easy (s : State) : s.EasySame s.flushQuiet :=
  ((State.EasySame.refl s).flushMigrations.mediumIdle).keep (by simp [State.flushQuiet]) (by simp [State.flushQuiet])

theorem State.flushQuiet_kept (s : State) : s.flushQuiet.wb.flushBroken = s.wb.flushBroken ∧ s.flushQuiet.wb.ents = s.wb.ents
    ∧ s.flushQuiet.wb.ledger = s.wb.ledger ∧ s.flushQuiet.itg.record = s.itg.record ∧ s.flushQuiet.pwr.resetAsked = s.pwr.resetAsked := by
  refine ⟨?_, ?_, ?_, ?_, ?_⟩ <;> simp [State.flushQuiet]

theorem State.flushRecorded_easy (s : State) : s.flushRecorded.easy = s.easy ∧ s.flushRecorded.pwr = s.pwr := by
  rw [State.flushRecorded]
  split <;> exact ⟨rfl, rfl⟩

/-- The figures of the hold-up bank at the end of a flush on hold-up. -/
def State.flushHeld (s : State) : State :=
  let s := if s.pwr.state = .holdUpFlush ∧ s.bank.state = 4 then
      let d := s.draw
      d.2.modBank fun b =>
        { b with
          mv := Config.freeNat d.1 % (b.flushStartMv + 1), flushEndMv := Config.freeNat d.1 % (b.flushStartMv + 1)
          flushUs := (s.tim.opTime - b.flushMark) * 1000, flushMark := s.tim.opTime }
    else s
  s.when (decide (s.pwr.state = .holdUpFlush)) (State.powerEvent 5)

theorem State.flushEnd_steps (s : State) : s.flushEnd = (s.flushQuiet.flushDone.flushHeld.easySlots false 0x00).afterFlush := rfl

theorem State.flushHeld_of_powered (powered : s.pwr.state ≠ .holdUpFlush) : s.flushHeld = s := by
  rw [State.flushHeld, if_neg fun held => powered held.1]
  exact if_neg (by simp [powered])

theorem State.flushEnd_eq (easyAll : s.pwr.state = .easyAll) (stays : s.easy.thenDown = false) (unasked : s.pwr.resetAsked = false)
    (cool : s.cause 2 = false) : s.flushEnd = (s.flushQuiet.flushDone.easySlots false 0x00).easyCheck.measureSync := by
  obtain ⟨easy, power⟩ := State.flushQuiet_easy s
  have asked := (State.flushQuiet_kept s).2.2.2.2
  obtain ⟨recordedEasy, recordedPower⟩ := State.flushRecorded_easy s.flushQuiet
  have power' : s.flushQuiet.flushDone.pwr.state = .easyAll := by
    rw [State.flushDone, State.modEasy_pwr, State.modWb_pwr, recordedPower, power, easyAll]
  have settled : (s.flushQuiet.flushDone.easySlots false 0x00).pwr.state = .easyAll := by simpa using power'
  have notHeld : ¬ s.flushQuiet.flushDone.pwr.state = .holdUpFlush := by rw [power']; decide
  have notHeld' : ¬ (s.flushQuiet.flushDone.easySlots false 0x00).pwr.state = .holdUpFlush := by rw [settled]; decide
  have after : (s.flushQuiet.flushDone.easySlots false 0x00).afterFlush = (s.flushQuiet.flushDone.easySlots false 0x00).easyCheck.measureSync := by
    have kept (v : State) : (v.easySlots false 0x00).easy.thenDown = v.easy.thenDown ∧ (v.easySlots false 0x00).pwr.resetAsked = v.pwr.resetAsked
        ∧ (v.easySlots false 0x00).cause 2 = v.cause 2 := by
      refine ⟨?_, ?_, ?_⟩ <;> simp [State.cause]
    obtain ⟨down, reset, heat⟩ := kept s.flushQuiet.flushDone
    have cool' : s.flushQuiet.flushDone.cause 2 = false := by
      rw [State.cause, State.flushDone, State.modEasy_easy, State.modWb_easy, recordedEasy, easy]
      exact cool
    rw [State.afterFlush, if_neg notHeld', if_neg, if_neg (by rw [heat, cool']; decide)]
    rw [reset, down, State.flushDone, State.modEasy_pwr, State.modWb_pwr, recordedPower, asked, unasked, State.modEasy_easy, State.modWb_easy,
      recordedEasy, easy, stays]
    decide
  have skipped := State.flushHeld_of_powered notHeld
  rw [State.flushEnd_steps, skipped, after]

theorem exec_flushComplete (flushing : s.wb.flushing = true) (out : s.flushedOut = true) : exec .flushComplete s = .next s.flushEnd :=
  if_pos (by rw [flushing, out]; rfl)

section
variable (easyAll : s.pwr.state = .easyAll) (stays : s.easy.thenDown = false) (unasked : s.pwr.resetAsked = false) (cool : s.cause 2 = false)
include easyAll stays unasked cool

theorem State.flushEnd_wb : s.flushEnd.wb = s.flushQuiet.flushDone.wb ∧ s.flushEnd.itg.record = s.flushQuiet.flushDone.itg.record := by
  have power : (s.flushQuiet.flushDone.easySlots false 0x00).pwr.state = .easyAll := by
    have kept (v : State) : (v.easySlots false 0x00).pwr = v.pwr := by simp
    rw [kept, State.flushDone, State.modEasy_pwr, State.modWb_pwr, (State.flushRecorded_easy _).2, (State.flushQuiet_easy s).2, easyAll]
  have kept (v : State) : v.measureSync.wb = v.wb ∧ (v.easySlots false 0x00).wb = v.wb
      ∧ ((v.easySlots false 0x00).easyCheck.measureSync).itg.record = v.itg.record := by
    refine ⟨?_, ?_, ?_⟩ <;> simp
  rw [State.flushEnd_eq easyAll stays unasked cool]
  exact ⟨by rw [(kept _).1, State.easyCheck_wb power, (kept _).2.1], (kept _).2.2⟩

theorem does_flushComplete_whole (flushing : s.wb.flushing = true) (out : s.flushedOut = true) (whole : s.wb.flushBroken = false)
    (drained : s.wb.ents = []) : Does .flushComplete s fun t => t.wb.flushing = false ∧ t.wb.dirty = [] ∧ t.wb.durable = []
        ∧ (∃ r, t.wb.ledger = [r] ∧ r.kind = 4) ∧ t.itg.record.state = 2 := by
  obtain ⟨wb, record⟩ := State.flushEnd_wb easyAll stays unasked cool
  obtain ⟨broken, ents, -, -, -⟩ := State.flushQuiet_kept s
  have recorded : s.flushQuiet.flushRecorded = s.flushQuiet.recordClosing.flushRecord := if_neg (by rw [State.flushFails, broken, ents, whole, drained]; decide)
  refine does_of_next (exec_flushComplete flushing out) ?_
  rw [wb, record, State.flushDone, recorded]
  exact ⟨rfl, rfl, rfl, ⟨_, rfl, rfl⟩, rfl⟩

theorem does_flushComplete_broken (flushing : s.wb.flushing = true) (out : s.flushedOut = true) (fails : s.wb.flushBroken = true ∨ s.wb.ents ≠ []) :
    Does .flushComplete s fun t => t.wb.flushing = false ∧ t.wb.ledger = s.wb.ledger ∧ t.itg.record = s.itg.record := by
  obtain ⟨wb, record⟩ := State.flushEnd_wb easyAll stays unasked cool
  obtain ⟨broken, ents, ledger, kept, -⟩ := State.flushQuiet_kept s
  have recorded : s.flushQuiet.flushRecorded = s.flushQuiet := if_pos (by rw [State.flushFails, broken, ents]; rcases fails with broke | left <;> simp [*])
  refine does_of_next (exec_flushComplete flushing out) ?_
  rw [wb, record, State.flushDone, recorded, ← ledger, ← kept]
  generalize s.flushQuiet = v
  exact ⟨rfl, rfl, rfl⟩

theorem does_flushComplete_stays (flushing : s.wb.flushing = true) (out : s.flushedOut = true) (quiescing : s.easy.state = .quiescing)
    (stands : s.easy.causes ≠ 0) : Does .flushComplete s fun t => t.pwr.state = .easyAll ∧ t.easy.state = .flushed ∧ t.easy.causes = s.easy.causes := by
  obtain ⟨easy, power⟩ := State.flushQuiet_easy s
  obtain ⟨recordedEasy, recordedPower⟩ := State.flushRecorded_easy s.flushQuiet
  have kept (v : State) : (v.easySlots false 0x00).measureSync.pwr.state = v.pwr.state ∧ (v.easySlots false 0x00).measureSync.easy.state = v.easy.state
      ∧ (v.easySlots false 0x00).measureSync.easy.causes = v.easy.causes ∧ (v.easySlots false 0x00).easy.causes = v.easy.causes := by
    refine ⟨?_, ?_, ?_, ?_⟩ <;> simp
  obtain ⟨power', state', causes', before⟩ := kept s.flushQuiet.flushDone
  have causes : s.flushQuiet.flushDone.easy.causes = s.easy.causes := by
    rw [State.flushDone, State.modEasy_easy, State.modWb_easy, recordedEasy, easy]
  refine does_of_next (exec_flushComplete flushing out) ?_
  rw [State.flushEnd_eq easyAll stays unasked cool, State.easyCheck_of_cause (by rw [before, causes]; exact stands), power', state', causes', causes]
  refine ⟨?_, ?_, rfl⟩
  · rw [State.flushDone, State.modEasy_pwr, State.modWb_pwr, recordedPower, power, easyAll]
  · rw [State.flushDone, State.modEasy_easy, State.modWb_easy, recordedEasy, easy]
    exact if_pos quiescing
end
end

/-! ## The command of Easy-all (R279) -/

section
variable {s : State} {n : Nat}

theorem State.ticketDone_slot_ne {m : Nat} (busy : (s.slot n).state ≠ 0) (other : n ≠ m) (outcome : Nat) (result : List Byte) :
    (s.ticketDone m outcome result).slot n = s.slot n := by
  have settled : Tab.settled s.obj.slots n := Tab.settled_of_get_ne (fun _ => {}) fun blank => busy (by rw [State.slot, Tab.rd, blank])
  rw [State.ticketDone]
  split
  case isTrue => rfl
  case isFalse =>
    split
    case isTrue => rfl
    case isFalse =>
      have kept (v : State) (o : Nat) (t : Slot) : (v.manage 3 t.req o t.index t.mem t.ticket 0 []).slot n = v.slot n := by simp
      rw [kept]
      exact Tab.rd_mod_of_settled {} (fun t => { t with state := 2, outcome := outcome, stop := s.tim.opTime, result := result }) other settled

/-- The slot of an operation that has ended well. -/
def State.EndedWell (n : Nat) (s : State) : Prop := (s.slot n).state = 2 ∧ (s.slot n).outcome = 0

theorem State.EndedWell.ticketDone (ended : s.EndedWell n) (m : Nat) : (s.ticketDone m 0 []).EndedWell n := by
  by_cases same : n = m
  · have stays : s.ticketDone m 0 [] = s := if_pos (by rw [← same, ended.1]; decide)
    rw [stays]
    exact ended
  · rw [State.EndedWell, State.ticketDone_slot_ne (by rw [ended.1]; decide) same]
    exact ended

theorem ticketsDone_endedWell {l : List (Nat × Bool)} (up : s.coxUp = true) (running : (s.slot n).state = 1) (listed : n ∈ l.map Prod.fst) :
    (forEach l (fun x => State.ticketDone x.1 0 []) s).EndedWell n := by
  induction l generalizing s with
  | nil => cases listed
  | cons x l ih =>
    rw [forEach]
    by_cases same : n = x.1
    · have slot := State.ticketDone_slot running up 0 []
      refine forEach_keeps (P := State.EndedWell n) l (fun y v kept => kept.ticketDone y.1) ?_
      rw [← same, State.EndedWell, slot]
      exact ⟨rfl, rfl⟩
    · have later : n ∈ l.map Prod.fst := (List.mem_cons.mp listed).resolve_left same
      refine ih ?_ ?_ later
      · simpa using up
      · rw [State.ticketDone_slot_ne (by rw [running]; decide) same]
        exact running

theorem State.easyEnter_quiescing (service : s.inService = true) {bitNo : Nat} (quiet : bitNo ≠ 0) : (s.easyEnter bitNo).easy.state = .quiescing := by
  have still : (s.causeSet bitNo).inService = true := service
  rw [State.easyEnter_of_quiet s quiet, if_pos still]
  simp [State.stopped]

theorem exec_easyEnter {req : Req} (cox : s.coxUp = true) (may : mayWrite 0x4040 2 req = 0) (free : s.freeSlot = some n) :
    exec (.easyAllEnterCommand req) s = .next (((s.ticketStart req 0x4040 2).2.easyIn n).emit
      (.access req 0x4040 2 0 ((s.ticketStart req 0x4040 2).2.slot n).ticket)) := by
  have op : State.easyOp req 1 s = s.deferred req 0x4040 2 State.easyIn := rfl
  refine (accessed_of_up cox _).trans ?_
  rw [guarded_of_may s may, op, respondAccess_deferred free]

theorem exec_easyLeave {req : Req} (cox : s.coxUp = true) (may : mayWrite 0x4040 2 req = 0) (free : s.freeSlot = some n) :
    exec (.easyAllLeaveCommand req) s = .next (((s.ticketStart req 0x4040 2).2.easyOut n).emit
      (.access req 0x4040 2 0 ((s.ticketStart req 0x4040 2).2.slot n).ticket)) := by
  have op : State.easyOp req 2 s = s.deferred req 0x4040 2 State.easyOut := rfl
  refine (accessed_of_up cox _).trans ?_
  rw [guarded_of_may s may, op, respondAccess_deferred free]

theorem State.easyIn_service (service : s.inService = true) (out : s.easy.state = .out) (n : Nat) :
    s.easyIn n = (s.modEasy fun e => { e with slots := e.slots ++ [(n, false)] }).easyEnter 3 := by
  have power : s.pwr.state = .dataService := of_decide_eq_true service
  rw [State.easyIn, if_neg (by rw [power]; decide), if_neg]
  rw [State.beforeService, State.easyFlushed, power, out]
  decide

theorem does_easyAllEnterCommand {req : Req} (cox : s.coxUp = true) (may : mayWrite 0x4040 2 req = 0) (free : s.freeSlot = some n)
    (service : s.inService = true) (out : s.easy.state = .out) : Does (.easyAllEnterCommand req) s fun t =>
      t.pwr.state = .easyAll ∧ t.easy.state = .quiescing ∧ t.cause 3 = true
        ∧ t.wb.flushing = true ∧ (n, false) ∈ t.easy.slots ∧ (t.slot n).state = 1 ∧ accepted req 0x4040 2 t := by
  have running := State.slot_ticketStart_running free req 0x4040 2
  have next := exec_easyEnter cox may free
  have power : (s.ticketStart req 0x4040 2).2.inService = true := by simpa using service
  have out' : (s.ticketStart req 0x4040 2).2.easy.state = .out := by simpa using out
  generalize (s.ticketStart req 0x4040 2).2 = v at *
  rw [State.easyIn_service power out'] at next
  have power' : (v.modEasy fun e => { e with slots := e.slots ++ [(n, false)] }).inService = true := power
  obtain ⟨state, flushing⟩ := State.easyEnter_begins power' 3
  have kept (w : State) : (w.easyEnter 3).easy.slots = w.easy.slots ∧ (w.easyEnter 3).slot n = w.slot n := by constructor <;> simp
  obtain ⟨slots, slot⟩ := kept (v.modEasy fun e => { e with slots := e.slots ++ [(n, false)] })
  have emitted {w : State} {o : Out} : (w.emit o).easy = w.easy ∧ (w.emit o).slot n = w.slot n := ⟨rfl, rfl⟩
  refine does_of_next next ⟨state, State.easyEnter_quiescing power' (by decide), State.easyEnter_cause _ (by decide), flushing, ?_, ?_, accepted_emit ..⟩
  · rw [emitted.1, slots]
    simp
  · rw [emitted.2, slot]
    exact running

theorem does_easyAllLeaveCommand_refused {req : Req} (cox : s.coxUp = true) (may : mayWrite 0x4040 2 req = 0) (free : s.freeSlot = some n)
    (easyAll : s.pwr.state = .easyAll) (fatal : s.cause 0 = true) : Does (.easyAllLeaveCommand req) s fun t => t.pwr.state = .easyAll
        ∧ t.easy.causes = s.easy.causes ∧ (t.slot n).state = 2 ∧ (t.slot n).outcome = 7 ∧ accepted req 0x4040 2 t := by
  have running := State.slot_ticketStart_running free req 0x4040 2
  have next := exec_easyLeave cox may free
  have up : (s.ticketStart req 0x4040 2).2.coxUp = true := by simpa using cox
  have easy : (s.ticketStart req 0x4040 2).2.easy = s.easy := by simp
  have power : (s.ticketStart req 0x4040 2).2.pwr = s.pwr := by simp
  generalize (s.ticketStart req 0x4040 2).2 = v at *
  have refused : v.easyOut n = v.ticketDone n 0x07 [] := if_pos (.inr (.inl (by rw [State.cause, easy]; exact fatal)))
  have slot := State.ticketDone_slot running up 0x07 []
  have kept (o : Out) : ((v.ticketDone n 0x07 []).emit o).pwr = v.pwr ∧ ((v.ticketDone n 0x07 []).emit o).easy = v.easy := by constructor <;> simp
  rw [refused] at next
  refine does_of_next next ⟨?_, ?_, congrArg Slot.state slot, congrArg Slot.outcome slot, accepted_emit ..⟩
  · rw [(kept _).1, power, easyAll]
  · rw [(kept _).2, easy]

/-- The leave has been asked for, and no cause stands. -/
def State.leaveAsked (n : Nat) (s : State) : State := s.modEasy fun e => { e with causes := 0, slots := e.slots ++ [(n, true)] }

/-- With the command the only cause, a leave leaves none. -/
theorem State.easyOut_last (easyAll : s.pwr.state = .easyAll) (last : s.easy.causes = 8) (n : Nat) : s.easyOut n
    = (s.leaveAsked n).easyCheck := by
  have bits (k : Nat) : s.cause k = (8#8).getLsbD k := by rw [State.cause, last]; rfl
  have leaves : s.leaveBits = 8#8 := by rw [State.leaveBits, bits, bits]; simp
  rw [State.easyOut, if_neg (by rw [easyAll, bits, bits, bits]; decide), if_neg (by rw [State.beforeService, easyAll]; decide), leaves,
    if_neg (by decide)]
  have cleared : (s.modEasy fun e => { e with causes := e.causes &&& ~~~8#8, stopUnits := if (8#8).getLsbD 1 then [] else e.stopUnits, slots := e.slots ++ [(n, true)] })
      = s.leaveAsked n := by
    rw [State.leaveAsked, State.modEasy, State.modEasy, last]
    rfl
  exact congrArg State.easyCheck cleared

theorem State.anyFast_of_same {t : State} (hst : t.hst = s.hst) : t.anyFast = s.anyFast := by
  have link : t.link = s.link := by funext h; rw [State.link, hst, State.link]
  have fast : t.fastLink = s.fastLink := by funext h; rw [State.fastLink, State.linkUp, link, State.fastLink, State.linkUp]
  rw [State.anyFast, fast, State.anyFast]

theorem State.easySlots_eq (s : State) : s.easySlots true 0 = forEach (s.easy.slots.filter fun x => x.2 == true) (fun x => State.ticketDone x.1 0 [])
    (s.modEasy fun e => { e with slots := e.slots.filter fun x => x.2 != true }) := rfl

theorem State.easySlots_endedWell (up : s.coxUp = true) (running : (s.slot n).state = 1) (listed : (n, true) ∈ s.easy.slots) :
    (s.easySlots true 0).EndedWell n := by
  have mine : (n, true) ∈ s.easy.slots.filter fun x => x.2 == true := List.mem_filter.mpr ⟨listed, rfl⟩
  rw [State.easySlots_eq]
  exact ticketsDone_endedWell up running (List.mem_map_of_mem (f := Prod.fst) mine)

/-- Back in data service, before the operations that waited for it end. -/
def State.leaving (s : State) : State := (((s.modPwr fun p => { p with state := .dataService }).modEasy fun e => { e with state := .out }).creditSync).boundSync

theorem State.leaving_kept (s : State) : s.leaving.pwr.state = .dataService ∧ s.leaving.easy.state = .out ∧ s.leaving.easy.causes = s.easy.causes
    ∧ s.leaving.easy.slots = s.easy.slots ∧ s.leaving.obj = s.obj ∧ s.leaving.cox = s.cox := by
  refine ⟨?_, ?_, ?_, ?_, ?_, ?_⟩ <;> simp [State.leaving]

theorem State.easyLeave_ends (up : s.coxUp = true) (running : (s.slot n).state = 1) (listed : (n, true) ∈ s.easy.slots) :
    s.easyLeave.pwr.state = .dataService ∧ s.easyLeave.easy.state = .out ∧ s.easyLeave.easy.causes = s.easy.causes ∧ s.easyLeave.EndedWell n := by
  obtain ⟨power, state, causes, slots, obj, cox⟩ := State.leaving_kept s
  have leaves : s.easyLeave = s.leaving.easySlots true 0 := rfl
  have kept (v : State) : (v.easySlots true 0).pwr = v.pwr ∧ (v.easySlots true 0).easy.state = v.easy.state
      ∧ (v.easySlots true 0).easy.causes = v.easy.causes := by
    refine ⟨?_, ?_, ?_⟩ <;> simp
  obtain ⟨power', state', causes'⟩ := kept s.leaving
  rw [leaves, power', state', causes']
  refine ⟨power, state, causes, ?_⟩
  refine State.easySlots_endedWell ?_ ?_ ?_
  · rw [State.coxUp, Bool.and_eq_true] at up ⊢
    rw [cox, State.keelOn, power]
    exact ⟨up.1, rfl⟩
  · rw [State.slot, obj]
    exact running
  · rw [slots]
    exact listed

/-- With the command the only cause, a leave returns the module to data service. -/
theorem State.easyOut_leaves (easyAll : s.pwr.state = .easyAll) (last : s.easy.causes = 8) (flushed : s.easyFlushed = true)
    (stays : s.easy.thenDown = false) (unasked : s.pwr.resetAsked = false) (whole : s.pwr.mediaOnlyUp = false) (fast : s.anyFast = true) (n : Nat) :
    s.easyOut n = (s.leaveAsked n).easyLeave := by
  have power : (s.leaveAsked n).pwr = s.pwr := rfl
  have ready : (s.leaveAsked n).easyFlushed = true := flushed
  have fast' : (s.leaveAsked n).anyFast = true := fast
  have down : (s.leaveAsked n).easy.thenDown = false := stays
  rw [State.easyOut_last easyAll last, State.easyCheck, if_pos, if_pos fast']
  rw [power, easyAll, unasked, whole, down]
  exact ⟨rfl, rfl, ready, by decide⟩

theorem State.easyOut_ends (up : s.coxUp = true) (running : (s.slot n).state = 1) (leaves : s.easyOut n = (s.leaveAsked n).easyLeave) :
    (s.easyOut n).pwr.state = .dataService ∧ (s.easyOut n).easy.state = .out ∧ (s.easyOut n).easy.causes = 0 ∧ (s.easyOut n).EndedWell n := by
  have listed : (n, true) ∈ (s.leaveAsked n).easy.slots := List.mem_append_right _ (List.mem_singleton.mpr rfl)
  rw [leaves]
  exact State.easyLeave_ends (s := s.leaveAsked n) up running listed

theorem does_easyAllLeaveCommand {req : Req} (cox : s.coxUp = true) (may : mayWrite 0x4040 2 req = 0) (free : s.freeSlot = some n)
    (easyAll : s.pwr.state = .easyAll) (last : s.easy.causes = 8) (flushed : s.easyFlushed = true) (stays : s.easy.thenDown = false)
    (unasked : s.pwr.resetAsked = false) (whole : s.pwr.mediaOnlyUp = false) (fast : s.anyFast = true) :
    Does (.easyAllLeaveCommand req) s fun t => t.pwr.state = .dataService
          ∧ t.easy.state = .out ∧ t.easy.causes = 0 ∧ (t.slot n).state = 2 ∧ (t.slot n).outcome = 0 ∧ accepted req 0x4040 2 t := by
  have running := State.slot_ticketStart_running free req 0x4040 2
  have up : (s.ticketStart req 0x4040 2).2.coxUp = true := by simpa using cox
  have easy : (s.ticketStart req 0x4040 2).2.easy = s.easy := by simp
  have power : (s.ticketStart req 0x4040 2).2.pwr = s.pwr := by simp
  have fast' : (s.ticketStart req 0x4040 2).2.anyFast = true := by rw [State.anyFast_of_same (s := s) (by simp)]; exact fast
  have leaves : (s.ticketStart req 0x4040 2).2.easyOut n = ((s.ticketStart req 0x4040 2).2.leaveAsked n).easyLeave := by
    refine State.easyOut_leaves ?_ ?_ ?_ ?_ ?_ ?_ fast' n
    · rw [power, easyAll]
    · rw [easy, last]
    · rw [State.easyFlushed, easy]; exact flushed
    · rw [easy, stays]
    · rw [power, unasked]
    · rw [power, whole]
  obtain ⟨service, out, causes, state, outcome⟩ := State.easyOut_ends up running leaves
  exact does_of_next (exec_easyLeave cox may free) ⟨service, out, causes, state, outcome, accepted_emit ..⟩
end

/-! ## The cause of T4 (R282) -/

/-- The cause of T4 does not stand. -/
def State.Cool (s : State) : Prop := s.cause 2 = false

section
variable {s u : State}

theorem State.Cool.keep (cool : s.Cool) {v : State} (easy : v.easy.causes = s.easy.causes) : v.Cool := by
  rw [State.Cool, State.cause, easy]
  exact cool

theorem State.Cool.same (cool : s.Cool) {v : State} (same : s.EasySame v) : v.Cool := cool.keep (congrArg EasyS.causes same.1)

theorem State.Cool.easyEnter (cool : s.Cool) {bitNo : Nat} (other : 2 ≠ bitNo) : (s.easyEnter bitNo).Cool := by
  have unset : (1#8 <<< bitNo).getLsbD 2 = false := by
    rw [BitVec.getLsbD_shiftLeft]
    by_cases below : 2 < bitNo
    · simp [below]
    · have small : 2 - bitNo ≠ 0 := by omega
      simp [BitVec.getLsbD_one, small]
  rw [State.Cool, State.cause, State.easyEnter_causes, BitVec.getLsbD_or, unset, Bool.or_false]
  exact cool

theorem State.Cool.when (cool : s.Cool) {c : Bool} {f : State → State} (kept : (f s).Cool) : (s.when c f).Cool := by
  cases c
  · exact cool
  · exact kept

theorem State.linkReset_causes (h : Nat) (s : State) : (s.linkReset h).easy.causes = s.easy.causes := by
  simp [State.linkReset]
  refine (State.when_same (fun v : State => v.easy.causes) (f := State.modPort (h / 2) fun p => { p with downCount := p.downCount + 1 }) (by intro v; simp) _ _).trans ?_
  simp

theorem State.Cool.linkDown (cool : s.Cool) (h : Nat) : (s.linkDown h).Cool := by
  rw [State.linkDown_eq]
  split
  case isTrue => exact cool
  case isFalse =>
    have posted : ((s.linkReset h).lossPosted h (s.linkUp h)).Cool := by
      have reset : (s.linkReset h).Cool := cool.keep (State.linkReset_causes h s)
      rw [State.lossPosted]
      split
      case isTrue => exact reset.keep (by simp)
      case isFalse => exact reset
    have bound : ((s.linkReset h).lossPosted h (s.linkUp h)).boundSync.Cool := posted.keep (by simp)
    rw [State.lossBound]
    split
    case isTrue => exact bound.easyEnter (by decide)
    case isFalse => exact bound

theorem State.Cool.linksSync (cool : s.Cool) : s.linksSync.Cool := by
  rw [State.linksSync]
  refine forEach_keeps (P := State.Cool) _ (fun p v kept => ?_) cool
  have first : (v.when (v.linkHeld (2 * p)) (State.linkDown (2 * p))).Cool := kept.when (kept.linkDown _)
  have second := first.when (c := (v.when (v.linkHeld (2 * p)) (State.linkDown (2 * p))).linkHeld (2 * p + 1)) (first.linkDown (2 * p + 1))
  have trained (w : State) : (((w.applyMode p).train (2 * p)).train (2 * p + 1)).easy.causes = w.easy.causes := by simp
  exact second.keep (trained _)

theorem State.Cool.easyCheck (cool : s.Cool) : s.easyCheck.Cool := by
  rw [State.easyCheck]
  split
  case isFalse => exact cool
  case isTrue =>
    split
    case isTrue => exact cool.keep (by simp)
    case isFalse => exact cool.easyEnter (by decide)

theorem State.Cool.mediaBack (cool : s.Cool) : s.mediaBack.Cool := by
  rw [State.mediaBack]
  split
  case isFalse => exact cool
  case isTrue => exact State.Cool.easyCheck (cool.keep rfl)

theorem State.EasySame.loadMaps (same : s.EasySame u) : s.EasySame u.loadMaps := by
  rw [State.loadMaps]
  exact State.EasySame.forEach ((same.modTrc _).modMed _) _ fun d v kept => kept.freeTract d.1 d.2

theorem State.Cool.mapLoad (cool : s.Cool) : s.mapLoad.Cool := by
  have loaded : s.loadMaps.Cool := cool.same (State.EasySame.refl s).loadMaps
  unfold State.mapLoad
  extract_lets clean replayed noted counted
  have kept : noted.Cool := loaded.keep (by simp [noted, replayed])
  split
  case isTrue => exact kept.keep rfl
  case isFalse => exact kept.keep (by simp [counted])

theorem State.Cool.mapStep (cool : s.Cool) : s.mapStep.Cool := by
  rw [State.mapStep]
  split
  case isTrue => exact cool.mapLoad.mediaBack
  case isFalse => exact cool.mediaBack

theorem State.Cool.corePowered (cool : s.Cool) : s.corePowered.Cool := by
  rw [State.corePowered]
  split
  case isTrue => exact State.Cool.mapStep (cool.keep rfl)
  case isFalse => exact State.Cool.mapStep (State.Cool.linksSync (cool.keep (by simp)))

theorem State.Cool.advance (cool : s.Cool) (fuel : Nat) : (s.advance fuel).Cool := by
  induction fuel generalizing s with
  | zero => exact cool
  | succ n ih =>
    rw [State.advance]
    split
    case isFalse => exact cool
    case isTrue =>
      split
      case isTrue => exact State.Cool.mediaBack (cool.keep rfl)
      case isFalse =>
        split
        case isTrue => exact cool.corePowered
        case isFalse => exact ih (cool.keep (by simp))

theorem State.Cool.pauseSync (cool : s.Cool) : s.pauseSync.Cool := by
  rw [State.pauseSync]
  split
  case isTrue =>
    refine State.Cool.advance ?_ 17
    exact cool.keep rfl
  case isFalse => exact cool

/-- The cause of T4 is cleared. -/
def State.cooled (s : State) : State := s.modEasy fun e => { e with causes := e.causes &&& ~~~(1#8 <<< 2) }

theorem State.cooled_cool (s : State) : s.cooled.Cool := by
  rw [State.Cool, State.cause, State.cooled, State.modEasy_easy, BitVec.getLsbD_and]
  exact Bool.and_false _

theorem exec_t4ClearTimer (stands : s.cause 2 = true) (level : s.thm.level ≤ 2) (settled : s.pwr.seqState ≠ 3) : exec .t4ClearTimer s
    = .next (if s.pwr.state = .easyAllMediaOff then
      ((s.cooled.modPwr fun p => { p with mediaOnlyUp := true, seqState := 1, step := 4, paused := false }).modEasy fun e =>
        { e with state := .leaving }).advance 17
    else if s.pwr.state = .coreStart then s.cooled.pauseSync else s.cooled.easyCheck) := by
  refine (if_pos ⟨stands, level, settled⟩).trans ?_
  rw [apply_ite Host.Outcome.next, apply_ite Host.Outcome.next]
  rfl

theorem does_t4ClearTimer (stands : s.cause 2 = true) (level : s.thm.level ≤ 2) (settled : s.pwr.seqState ≠ 3) :
    Does .t4ClearTimer s fun t => t.cause 2 = false := by
  have cool := State.cooled_cool s
  refine does_of_next (exec_t4ClearTimer stands level settled) ?_
  split
  case isTrue =>
    refine State.Cool.advance ?_ 17
    exact cool.keep rfl
  case isFalse =>
    split
    case isTrue => exact cool.pauseSync
    case isFalse => exact cool.easyCheck
end
end Sys2Proof.Machine

open Sys2Proof Sys2Proof.Machine

/-- Settles O32: the causes, the flush's end and T4's cause, each by the rule for its bit. -/
theorem easyAll : Obligations.EasyAll := by
  unfold Obligations.EasyAll
  intro s
  refine ⟨fun req n cox may free => ⟨fun service out => ?_, fun inEasyAll last flushed stays unasked whole fast => ?_, fun inEasyAll fatal => ?_⟩,
    fun flushing out inEasyAll quiescing stays unasked cool => ⟨fun whole drained => ?_, fun fails => ?_, fun stands => ?_⟩,
    fun stands level settled => ?_⟩
  · exact does_easyAllEnterCommand cox may free service out
  · exact does_easyAllLeaveCommand cox may free inEasyAll last flushed stays unasked whole fast
  · exact does_easyAllLeaveCommand_refused cox may free inEasyAll fatal
  · exact does_flushComplete_whole inEasyAll stays unasked cool flushing out whole drained
  · exact does_flushComplete_broken inEasyAll stays unasked cool flushing out fails
  · exact does_flushComplete_stays inEasyAll stays unasked cool flushing out quiescing stands
  · exact does_t4ClearTimer stands level settled
end

section
/-! PROOFS. Scrub passes, the patrol, the rewrite queue, and the rebuild of a re-admitted unit (O44). -/
namespace Sys2Proof.Machine

/-! ## Passes (R247–R249) -/

section
variable {s : State} {req : Req} {n mode first len : Nat}

/-- A pass that starts. -/
def State.passStarted (kind mode first len n : Nat) (s : State) : State :=
  s.modScr fun x => { x with passes := x.passes ++
    [{ ticket := (s.slot n).ticket, kind := kind, repair := decide (mode = 1), first := first, len := len, start := s.tim.opTime }] }

theorem State.scrubOp_deferred {kind : Nat} (known : mode ≤ 1) (some : 1 ≤ len) (core : s.coreOn = true) (room : s.scr.passes.length < 4)
    (range : (if kind = 0 then decide (first % 64 ≠ 0 ∨ len % 64 ≠ 0 ∨ dpaSize < first + len)
      else decide (576 ≤ first / 2 ^ 27 ∨ 2 ^ 27 < first % 2 ^ 27 + len)) = false) :
    s.scrubOp req kind mode first len = s.deferred req 0x3301 0 (State.passStarted kind mode first len) := by
  have good : ¬ (decide (1 < mode ∨ len = 0) = true) := by simp; omega
  unfold State.scrubOp
  extract_lets bad
  have fine : bad = false := by simp only [bad, range, Bool.or_false]; simpa using good
  rw [if_neg (by simp [fine]), if_neg (by simp [core]), if_neg (by omega)]
  rfl

theorem does_scrubPass {kind : Nat} {i : Instr} (cox : s.coxUp = true) (may : mayWrite 0x3301 0 req = 0) (free : s.freeSlot = some n)
    (deferred : s.scrubOp req kind mode first len = s.deferred req 0x3301 0 (State.passStarted kind mode first len))
    (op : exec i s = accessed s (respondAccess req 0x3301 0 (guarded req 0x3301 0 (State.scrubOp req kind mode first len) s))) : Does i s fun t =>
      t.scr.passes = s.scr.passes ++ [{ ticket := (t.slot n).ticket, kind := kind, repair := decide (mode = 1), first := first, len := len, start := s.tim.opTime }]
        ∧ (t.slot n).state = 1 ∧ accepted req 0x3301 0 t := by
  have running := State.slot_ticketStart_running free req 0x3301 0
  have next : exec i s = .next (((s.ticketStart req 0x3301 0).2.passStarted kind mode first len n).emit
      (.access req 0x3301 0 0 ((s.ticketStart req 0x3301 0).2.slot n).ticket)) := by
    rw [op, accessed_of_up cox, guarded_of_may s may, deferred, respondAccess_deferred free]
  have scr : (s.ticketStart req 0x3301 0).2.scr = s.scr := by simp
  have time : (s.ticketStart req 0x3301 0).2.tim = s.tim := by simp
  rw [← scr, ← time]
  exact does_of_next next ⟨rfl, running, accepted_emit ..⟩

theorem State.modPass_passes (ticket : Nat) (f : ScrubPass → ScrubPass) (s : State) :
    (s.modPass ticket f).scr.passes = s.scr.passes.map fun p => if p.ticket = ticket then f p else p := rfl

theorem does_scrubCancel {ticket : Nat} {p : ScrubPass} (cox : s.coxUp = true) (found : (s.scr.passes.find? fun p => p.ticket == ticket) = some p) :
    Does (.scrubCancel ticket) s fun t =>
      (∀ x ∈ t.scr.passes, x.ticket = ticket → x.cancel = true) ∧ t.scr.passes.length = s.scr.passes.length ∧ accepted byOperator 0x3301 1 t := by
  have listed : (s.scr.passes.any fun p => p.ticket == ticket) = true := by
    rw [List.any_eq_true]
    exact ⟨p, List.mem_of_find?_eq_some found, by simpa using List.find?_some found⟩
  have op : s.scrubCancelOp byOperator ticket
      = (0, 0, (s.modPass ticket fun p => { p with cancel := true }).manage 1 byOperator 0 0x3301 1 0 0 (be 4 ticket)) := if_pos listed
  have next : exec (.scrubCancel ticket) s = .next (((s.modPass ticket fun p => { p with cancel := true }).manage 1 byOperator 0 0x3301 1 0 0 (be 4 ticket)).emit
      (.access byOperator 0x3301 1 0 0)) := by
    refine (accessed_of_up cox _).trans ?_
    rw [op, respondAccess_eq _ _ _ _ _ _ (by decide)]
  have passes (v : State) (l : List Byte) (o : Out) : ((v.manage 1 byOperator 0 0x3301 1 0 0 l).emit o).scr.passes = v.scr.passes := by simp
  refine does_of_next next ⟨fun x marked same => ?_, ?_, accepted_emit ..⟩
  · rw [passes, State.modPass_passes, List.mem_map] at marked
    obtain ⟨q, -, rfl⟩ := marked
    by_cases mine : q.ticket = ticket
    · rw [if_pos mine]
    · rw [if_neg mine] at same
      exact absurd same mine
  · rw [passes, State.modPass_passes, List.length_map]
end

/-! ## A row of a pass (R242, R249, R250) -/

section
variable {s : State} {ticket : Nat} {p : ScrubPass} {fs : List Finding} {pt row n : Nat}

/-- A pass past a row, with the row's counts and its first lost place. -/
def ScrubPass.past (c : List Nat) (firstLost : ScrubPass → Nat) (q : ScrubPass) : ScrubPass :=
  { q with cursor := q.cursor + 1, counts := (List.range 11).map fun k => nth q.counts k + nth c k, firstLost := firstLost q }

theorem State.visitRow_passes (at' : s.passRow p = some (pt, row, n)) (written : ((stripe pt row).all fun a => (s.image a).blank) = false)
    (reads : p.repair = false) : ∃ firstLost, (s.visitRow p fs).scr.passes
      = s.scr.passes.map fun q => if q.ticket = p.ticket then ScrubPass.past (s.rowCounts pt row fs false) firstLost q else q := by
  have kept (v : State) : (((v.rowSensed pt row fs).engineCount 1 0 1).engineCount 1 1 9).scr.passes = v.scr.passes := by simp
  refine ⟨fun q => if q.firstLost = 0 then (match fs.filter (fun f => decide (8 ≤ f.errors) && !s.rebuildable pt row fs f) with
    | f :: _ => lostPlace q n pt row f | [] => 0) else q.firstLost, ?_⟩
  rw [State.visitRow, at']
  dsimp only
  rw [if_neg (by rw [written]; decide), reads]
  rw [State.modPass_passes, if_neg (by decide), kept]
  rfl

/-- The pass of a ticket, after a change that keeps the tickets. -/
theorem find?_pass {l : List ScrubPass} {f : ScrubPass → ScrubPass} (keeps : ∀ q, (f q).ticket = q.ticket)
    (found : (l.find? fun q => q.ticket == ticket) = some p) :
    ((l.map fun q => if q.ticket = ticket then f q else q).find? fun q => q.ticket == ticket) = some (f p) := by
  have same : ((fun q : ScrubPass => q.ticket == ticket) ∘ fun q => if q.ticket = ticket then f q else q) = fun q => q.ticket == ticket := by
    funext q
    by_cases mine : q.ticket = ticket <;> simp [mine, keeps]
  have own : p.ticket = ticket := by simpa using List.find?_some found
  rw [List.find?_map, same, found, Option.map_some, if_pos own]

theorem exec_scrubRow (found : (s.scr.passes.find? fun p => p.ticket == ticket) = some p) (engine : s.isOut 0x299 = false)
    (at' : s.passRow p = some (pt, row, n)) (free : s.unitOnRow pt row = false) {q : ScrubPass}
    (after : ((s.visitRow p fs).scr.passes.find? fun p => p.ticket == ticket) = some q) : exec (.scrubRow ticket fs) s
      = .next (if q.cancel then (s.visitRow p fs).endPass q 1 else if passRows q ≤ q.cursor then (s.visitRow p fs).endPass q 0 else s.visitRow p fs) := by
  simp only [exec, execScrubRow, found, at', engine, free, Bool.or_self, Bool.false_eq_true, if_false, after]
  rw [apply_ite Host.Outcome.next, apply_ite Host.Outcome.next]

theorem State.endPass_passes (q : ScrubPass) (status : Nat) (s : State) :
    ∀ x ∈ (s.endPass q status).scr.passes, x.ticket ≠ q.ticket := by
  have kept (v : State) (m : Nat) (l : List Byte) : (v.ticketDone m 0 l).scr.passes = v.scr.passes := by simp
  intro x listed
  rw [State.endPass, kept] at listed
  simpa using (List.mem_filter.mp listed).2

section
variable (found : (s.scr.passes.find? fun p => p.ticket == ticket) = some p) (engine : s.isOut 0x299 = false) (reads : p.repair = false)
  (at' : s.passRow p = some (pt, row, n)) (free : s.unitOnRow pt row = false) (written : ((stripe pt row).all fun a => (s.image a).blank) = false)
include found engine reads at' free written

/-- The pass after its row, and the command that visits it. -/
theorem State.scrubRow_visited (fs : List Finding) : ∃ firstLost, let q := ScrubPass.past (s.rowCounts pt row fs false) firstLost p
    ((s.visitRow p fs).scr.passes.find? fun p => p.ticket == ticket) = some q ∧ exec (.scrubRow ticket fs) s
      = .next (if q.cancel then (s.visitRow p fs).endPass q 1 else if passRows q ≤ q.cursor then (s.visitRow p fs).endPass q 0 else s.visitRow p fs) := by
  obtain ⟨firstLost, passes⟩ := State.visitRow_passes (fs := fs) at' written reads
  have own : p.ticket = ticket := by simpa using List.find?_some found
  have after : ((s.visitRow p fs).scr.passes.find? fun p => p.ticket == ticket) = some (ScrubPass.past (s.rowCounts pt row fs false) firstLost p) := by
    rw [passes, own]
    exact find?_pass (fun q => rfl) found
  exact ⟨firstLost, after, exec_scrubRow found engine at' free after⟩

theorem does_scrubRow (goesOn : p.cancel = false) (more : p.cursor + 1 < passRows p) : Does (.scrubRow ticket fs) s fun t => ∃ x ∈ t.scr.passes,
    x.ticket = ticket ∧ x.cursor = p.cursor + 1 ∧ x.counts = (List.range 11).map fun k => nth p.counts k + nth (s.rowCounts pt row fs false) k := by
  obtain ⟨firstLost, after, next⟩ := State.scrubRow_visited found engine reads at' free written fs
  have own : p.ticket = ticket := by simpa using List.find?_some found
  have left : ¬ passRows (ScrubPass.past (s.rowCounts pt row fs false) firstLost p) ≤ (ScrubPass.past (s.rowCounts pt row fs false) firstLost p).cursor :=
    Nat.not_le.mpr more
  rw [if_neg (by rw [ScrubPass.past, goesOn]; decide), if_neg left] at next
  exact does_of_next next ⟨_, List.mem_of_find?_eq_some after, own, rfl, rfl⟩

theorem does_scrubRow_ends (ends : p.cancel = true ∨ passRows p ≤ p.cursor + 1) :
    Does (.scrubRow ticket fs) s fun t => ∀ x ∈ t.scr.passes, x.ticket ≠ ticket := by
  obtain ⟨firstLost, -, next⟩ := State.scrubRow_visited found engine reads at' free written fs
  have own : p.ticket = ticket := by simpa using List.find?_some found
  refine does_of_next next ?_
  rw [← own]
  split
  case isTrue => exact State.endPass_passes _ 1 _
  case isFalse goesOn =>
    have last : passRows (ScrubPass.past (s.rowCounts pt row fs false) firstLost p) ≤ (ScrubPass.past (s.rowCounts pt row fs false) firstLost p).cursor :=
      ends.resolve_left goesOn
    rw [if_pos last]
    exact State.endPass_passes _ 0 _
end
end

/-! ## The rewrite queue (R250, R251) -/

section
variable {s u : State} {a n : Nat}

/-- Two states that differ only in what counting a sense writes. -/
structure State.Sensed (s u : State) : Prop where
  flt : u.flt = s.flt
  scr : u.scr = s.scr
  med : u.med = s.med
  wb : u.wb = s.wb
  tim : u.tim = s.tim
  gens : ∀ t, (u.activity t).gen = (s.activity t).gen

/-- A write that counts a read leaves the generation of every tract, whatever the form of the table. -/
theorem State.modActivity_gen {f : Activity → Activity} (t : Nat) (gen : ∀ x, (f x).gen = x.gen) (counts : f (s.activity t) ≠ {}) (k : Nat) :
    ((s.modActivity t f).activity k).gen = (s.activity k).gen := by
  by_cases same : k = t
  · rw [same, State.activity, State.modActivity, State.modTrc_trc, Tab.rd_mod_same, gen, State.activity]
  · have insert : (s.modActivity t f).trc.act = Tab.insert s.trc.act t (f (s.activity t)) := if_neg counts
    rw [State.activity, insert]
    exact congrArg Activity.gen (Tab.get_insert_ne _ _ _ same)

theorem State.Sensed.trans {v : State} (first : s.Sensed u) (second : u.Sensed v) : s.Sensed v :=
  ⟨second.flt.trans first.flt, second.scr.trans first.scr, second.med.trans first.med, second.wb.trans first.wb, second.tim.trans first.tim,
    fun t => (second.gens t).trans (first.gens t)⟩

theorem State.Sensed.readsGrown (sensed : s.Sensed u) (t : Nat) : s.Sensed (u.readsGrown t) := by
  have act : (u.readsGrown t).activity = u.activity := by simp
  refine sensed.trans ⟨?_, ?_, ?_, ?_, ?_, fun k => by rw [act]⟩ <;> simp

theorem State.Sensed.modActivity (sensed : s.Sensed u) (t : Nat) {f : Activity → Activity} (gen : ∀ x, (f x).gen = x.gen)
    (counts : f (u.activity t) ≠ {}) : s.Sensed (u.modActivity t f) :=
  sensed.trans ⟨rfl, rfl, rfl, rfl, rfl, State.modActivity_gen t gen counts⟩

theorem State.Sensed.holdCount (sensed : s.Sensed u) (t : Nat) : s.Sensed (u.holdCount t) := by
  have noted (v : State) (f : TractS → TractS) (act : (f v.trc).act = v.trc.act) : v.Sensed (v.modTrc f) :=
    ⟨rfl, rfl, rfl, rfl, rfl, fun t => by rw [State.activity, State.modTrc_trc, act, State.activity]⟩
  rw [State.holdCount]
  split
  case isTrue => exact sensed
  case isFalse =>
    split
    case isTrue => exact sensed.trans (noted u _ rfl)
    case isFalse =>
      split
      case h_1 => exact sensed
      case h_2 k l counted =>
        have held := sensed.trans (noted u (fun x => { x with counted := l ++ [t] }) rfl)
        dsimp only
        split
        case isTrue => exact held
        case isFalse =>
          refine (held.modActivity k (f := fun x => { x with senses := 0, reads := x.reads + 1 }) (fun _ => rfl) fun blank => ?_).readsGrown k
          exact Nat.succ_ne_zero _ (congrArg Activity.reads blank)

theorem State.Sensed.countSenses (sensed : s.Sensed u) (a m : Nat) (some : 1 ≤ m) : s.Sensed (u.countSenses a m) := by
  rw [State.countSenses]
  split
  case h_2 => exact sensed
  case h_1 t at' =>
    split
    case isFalse => exact sensed
    case isTrue =>
      refine ((sensed.holdCount t).modActivity t (f := fun x => { x with senses := (x.senses + m) % 262144, reads := x.reads + (x.senses + m) / 262144 })
        (fun _ => rfl) fun blank => ?_).readsGrown t
      have senses := congrArg Activity.senses blank
      have reads := congrArg Activity.reads blank
      simp only at senses reads
      omega

theorem State.Sensed.isOut (sensed : s.Sensed u) : u.isOut = s.isOut := by
  have unit : u.unit = s.unit := by funext j; rw [State.unit, sensed.flt, State.unit]
  funext j
  rw [State.isOut, unit, State.isOut]

theorem State.Sensed.dieOut (sensed : s.Sensed u) : u.dieOut = s.dieOut := by
  funext d
  rw [State.dieOut, sensed.isOut, State.dieOut]

theorem State.Sensed.badGranule (sensed : s.Sensed u) : u.badGranule = s.badGranule := by
  funext b
  rw [State.badGranule, State.channel, sensed.med, State.badGranule, State.channel]

theorem State.Sensed.lostAt (sensed : s.Sensed u) : u.lostAt = s.lostAt := by
  have unit : u.unit = s.unit := by funext j; rw [State.unit, sensed.flt, State.unit]
  have healthy : u.notHealthy = s.notHealthy := by funext j; rw [State.notHealthy, unit, State.notHealthy]
  have rebuilt : u.rebuilt = s.rebuilt := by funext b; rw [State.rebuilt, State.rebuild, sensed.scr, State.rebuilt, State.rebuild]
  funext b
  rw [State.lostAt, sensed.dieOut, State.dieLost, healthy, rebuilt, sensed.badGranule, State.lostAt, State.dieLost]

theorem State.Sensed.image (sensed : s.Sensed u) : u.image = s.image := by
  have granule : u.granule = s.granule := by funext b; rw [State.granule, sensed.med, State.granule]
  funext b
  rw [State.image, granule, sensed.wb, State.image]

/-- The generation that a header is repaired with, written out. -/
theorem State.rowGen_eq : State.rowGen = fun s a t =>
    let gens := (((stripe (ptOfAddr a) (stripeRow a)).filter fun b => b != a && !s.lostAt b).map s.image).filterMap fun g =>
      if g.blank || g.torn || g.hdr.tract != t then none else some g.hdr.gen
    let most := gens.foldl (fun (acc : Nat × Nat) v => if acc.1 < gens.count v then (gens.count v, v) else acc) (0, (s.activity t).gen)
    most.2 := rfl

theorem State.Sensed.rowGen (sensed : s.Sensed u) (a t : Nat) : u.rowGen a t = s.rowGen a t := by
  rw [State.rowGen_eq]
  beta_reduce
  rw [sensed.lostAt, sensed.image, sensed.gens]

theorem State.Sensed.repairHeader (sensed : s.Sensed u) (a t : Nat) : u.repairHeader a t = s.repairHeader a t := by
  delta State.repairHeader State.headerFor State.epochNow
  rw [sensed.rowGen, sensed.gens, sensed.tim]

theorem exec_scrubRewrite (listed : a ∈ s.scr.rewrite) (engine : s.isOut 0x299 = false) (core : s.coreOn = true) (idle : s.registered a = none)
    (at' : s.tractAt (ptOfAddr a) = some n) : exec (.scrubRewrite a) s
      = .next (((((s.modScr fun x => { x with rewrite := x.rewrite.filter fun b => b != a }).countSenses a 4).repair a n)).refrSync n) := by
  have still : (s.modScr fun x => { x with rewrite := x.rewrite.filter fun b => b != a }).tractAt (ptOfAddr a) = some n := at'
  refine (if_pos (by simp [listed, engine, core, idle])).trans ?_
  rw [still]

theorem does_scrubRewrite (listed : a ∈ s.scr.rewrite) (engine : s.isOut 0x299 = false) (core : s.coreOn = true) (at' : s.tractAt (ptOfAddr a) = some n)
    (idle : s.registered a = none) (whole : s.lostAt a = false) (serves : s.dieOut (dieOf a) = false) (good : s.badGranule a = false)
    (written : (s.image a).blank = false) : Does (.scrubRewrite a) s fun t =>
      a ∉ t.scr.rewrite ∧ t.registered a = some { s.image a with hdr := s.repairHeader a n, torn := false } := by
  have taken : (s.modScr fun x => { x with rewrite := x.rewrite.filter fun b => b != a }).Sensed
      ((s.modScr fun x => { x with rewrite := x.rewrite.filter fun b => b != a }).countSenses a 4) :=
    State.Sensed.countSenses ⟨rfl, rfl, rfl, rfl, rfl, fun _ => rfl⟩ a 4 (by decide)
  have next := exec_scrubRewrite listed engine core idle at'
  generalize sensed : (s.modScr fun x => { x with rewrite := x.rewrite.filter fun b => b != a }).countSenses a 4 = u at taken next
  have whole' : u.lostAt a = false := by rw [taken.lostAt]; exact whole
  have image : u.image a = s.image a := congrFun taken.image a
  have header : u.repairHeader a n = s.repairHeader a n := taken.repairHeader a n
  have served : u.dieOut (dieOf a) = false := taken.dieOut ▸ serves
  have good' : u.badGranule a = false := taken.badGranule ▸ good
  have repaired : u.repair a n = u.request .scrub 0 a { s.image a with hdr := s.repairHeader a n, torn := false } := by
    rw [State.repair]
    dsimp only
    rw [if_neg (by rw [whole', image, written]; decide), image, header]
  refine does_of_next next ⟨?_, ?_⟩
  · have kept (v : State) : ((v.repair a n).refrSync n).scr.rewrite = v.scr.rewrite := by simp
    rw [kept, taken.scr]
    simp
  · have kept (v : State) : (v.refrSync n).registered a = v.registered a := rfl
    rw [kept, repaired, State.registered, State.request_wb served good', find?_insert_same]
    rfl
end

/-! ## The patrol (R247) -/

/-- The patrol's counters, and its place after a tract's last row. -/
def State.patrolCounted (row : Nat) (c : List Nat) (s : State) : State :=
  s.modScr fun x =>
    { x with
      ecc := [nth x.ecc 0 + nth c 1, nth x.ecc 1 + nth c 2, nth x.ecc 2 + nth c 3, nth x.ecc 3 + nth c 4, nth x.ecc 4 + nth c 5,
        nth x.ecc 5 + nth c 6, nth x.ecc 6, nth x.ecc 7]
      patrol := if row = 511 then (x.patrol + 1) % occupiedTracts else x.patrol }

theorem does_patrolRow {s : State} {pt row n : Nat} {fs : List Finding} (at' : s.tractAt pt = some n) (engine : s.isOut 0x299 = false)
    (runs : s.cfg 0x3300 1 ≠ 0) (inTract : row < 512) (free : s.unitOnRow pt row = false) (core : s.coreOn = true) :
    Does (.patrolRow pt row fs) s fun t => t.scr.patrol = if row = 511 then (s.scr.patrol + 1) % occupiedTracts else s.scr.patrol := by
  have passes : ¬ (s.isOut 0x299 || decide (s.cfg 0x3300 1 = 0) || decide (512 ≤ row) || s.unitOnRow pt row || !s.coreOn) = true := by
    simp [engine, runs, inTract, free, core]
  have kept (v : State) : (((((v.rowSensed pt row fs).engineCount 1 0 1).engineCount 1 1 9)).repairRow n pt row fs).scr.patrol = v.scr.patrol := by simp
  have next : exec (.patrolRow pt row fs) s
      = .next ((((((s.patrolCounted row (s.rowCounts pt row fs true)).rowSensed pt row fs).engineCount 1 0 1).engineCount 1 1 9)).repairRow n pt row fs) := by
    simp only [exec, execPatrolRow, at']
    rw [if_neg passes]
    rfl
  exact does_of_next next (kept _)

/-! ## The rebuild of a re-admitted unit (R257–R261) -/

section
variable {s : State} {g : Nat}

/-- The rebuild of a group at the same place, of the same units. -/
def SamePlace (g : Nat) (s u : State) : Prop := (u.rebuild g).cursor = (s.rebuild g).cursor ∧ (u.rebuild g).unit = (s.rebuild g).unit
  ∧ (u.rebuild g).second = (s.rebuild g).second

theorem SamePlace.of_rebuilds {u v : State} (same : SamePlace g s u) (rebuilds : v.scr.rebuilds = u.scr.rebuilds) : SamePlace g s v := by
  have rebuild : v.rebuild g = u.rebuild g := by rw [State.rebuild, rebuilds, State.rebuild]
  rw [SamePlace, rebuild]
  exact same

theorem SamePlace.modRebuild {u : State} (same : SamePlace g s u) {f : RebuildS → RebuildS}
    (place : ∀ r, (f r).cursor = r.cursor ∧ (f r).unit = r.unit ∧ (f r).second = r.second) : SamePlace g s (u.modRebuild g f) := by
  obtain ⟨cursor, unit, second⟩ := place (u.rebuild g)
  have modified : (u.modRebuild g f).rebuild g = f (u.rebuild g) := Tab.rd_mod_same _ _ _ _
  rw [SamePlace, modified, cursor, unit, second]
  exact same

theorem State.persistCursor_same (g : Nat) (s : State) : SamePlace g s (s.persistCursor g) := by
  rw [State.persistCursor]
  split
  case isTrue =>
    have moved : SamePlace g s (s.modRebuild g fun r => { r with persisted := (s.rebuild g).cursor }) :=
      SamePlace.modRebuild ⟨rfl, rfl, rfl⟩ fun r => ⟨rfl, rfl, rfl⟩
    exact moved.of_rebuilds rfl
  case isFalse => exact ⟨rfl, rfl, rfl⟩

/-- Rows of a tract rebuilt, but for those written since. -/
def State.rebuildRows (rows : List Nat) (pt n : Nat) (fs : List Finding) (skip : List Nat) (s : State) : State :=
  forEach rows (fun row => fun s => if skip.contains row then s else s.rebuildRow pt row n fs) s

theorem State.rebuildRows_rebuilds (rows : List Nat) (pt n : Nat) (fs : List Finding) (skip : List Nat) (s : State) :
    (s.rebuildRows rows pt n fs skip).scr.rebuilds = s.scr.rebuilds := by
  refine forEach_same (fun v : State => v.scr.rebuilds) rows (fun row v => ?_) s
  split
  case isTrue => rfl
  case isFalse => simp

/-- The rows of a tract that were written since its rebuild began. -/
def State.rebuildSkips (pt : Nat) (s : State) : List Nat :=
  (List.range 512).filter fun row => (s.rebuild (rowOfPt pt / 16)).touched.contains (rowOfPt pt * 2 ^ 27 + inRow pt * 512 + row)

theorem State.rebuildTract_placed {pt n : Nat} (at' : s.tractAt pt = some n) (fs : List Finding) : s.rebuildTract fs pt
    = (s.rebuildRows (List.range 512) pt n fs (s.rebuildSkips pt)).modRebuild (rowOfPt pt / 16) fun r =>
      { r with skipped := r.skipped + (s.rebuildSkips pt).length } := by
  rw [State.rebuildTract, at']
  rfl

theorem SamePlace.rebuildTract {u : State} (same : SamePlace g s u) {pt : Nat} (mine : rowOfPt pt / 16 = g) (fs : List Finding) :
    SamePlace g s (u.rebuildTract fs pt) := by
  cases at' : u.tractAt pt with
  | some n =>
    rw [State.rebuildTract_placed at', mine]
    exact (same.of_rebuilds (State.rebuildRows_rebuilds (List.range 512) pt n fs (u.rebuildSkips pt) u)).modRebuild fun r => ⟨rfl, rfl, rfl⟩
  | none =>
    rw [State.rebuildTract, at']
    dsimp only
    split
    case isTrue => exact same
    case isFalse =>
      generalize (stripe pt 0).filter u.readmitted = l
      have kept (a : Nat) (v : State) : (State.clearDie pt a v).scr.rebuilds = v.scr.rebuilds := by simp
      exact same.of_rebuilds (forEach_same (fun v : State => v.scr.rebuilds) l kept u)

theorem rowOfPt_rebuildTracts {pt : Nat} (early : (s.rebuild g).cursor < 262144) (listed : pt ∈ s.rebuildTracts g) : rowOfPt pt / 16 = g := by
  have group (u row : Nat) (mine : row ∈ (if u < 0x240 then [g * 16 + u % 16] else if u < 0x264 then (range' (g * 16) 16) else [])) : row / 16 = g := by
    split at mine
    case isTrue =>
      rw [List.mem_singleton.mp mine]
      omega
    case isFalse =>
      split at mine
      case isTrue =>
        have bounds := mem_range'.mp mine
        omega
      case isFalse => cases mine
  obtain ⟨row, rows, rfl⟩ := List.mem_map.mp listed
  have rowOf : rowOfPt (row * 262144 + (s.rebuild g).cursor) = row := by rw [rowOfPt]; omega
  rw [rowOf]
  rcases List.mem_append.mp (List.mem_dedup.mp rows) with first | second
  · exact group _ _ first
  · exact group _ _ second

theorem State.rebuildTracts_of_same {u : State} (same : SamePlace g s u) : u.rebuildTracts g = s.rebuildTracts g := by
  obtain ⟨cursor, unit, second⟩ := same
  rw [State.rebuildTracts, cursor, unit, second, State.rebuildTracts]

/-- The tracts of the next place rebuilt, and the cursor past it. -/
def State.rebuiltHere (g : Nat) (fs : List Finding) (s : State) : State :=
  ((forEach (s.rebuildTracts g) (State.rebuildTract fs) s).engineCount 3 0 1).modRebuild g fun r => { r with cursor := r.cursor + 1 }

theorem State.rebuiltHere_rebuild (early : (s.rebuild g).cursor < 262144) (fs : List Finding) :
    ((s.rebuiltHere g fs).rebuild g).cursor = (s.rebuild g).cursor + 1 ∧ ((s.rebuiltHere g fs).rebuild g).unit = (s.rebuild g).unit := by
  have here (l : List Nat) (mine : ∀ pt ∈ l, rowOfPt pt / 16 = g) {u : State} (same : SamePlace g s u) :
      SamePlace g s (forEach l (State.rebuildTract fs) u) := by
    induction l generalizing u with
    | nil => exact same
    | cons pt l ih => exact ih (fun b later => mine b (List.mem_cons_of_mem _ later)) (same.rebuildTract (mine pt List.mem_cons_self) fs)
  obtain ⟨cursor, unit, -⟩ := here (s.rebuildTracts g) (fun pt listed => rowOfPt_rebuildTracts early listed) ⟨rfl, rfl, rfl⟩
  have counted (v : State) : (((v.engineCount 3 0 1).modRebuild g fun r => { r with cursor := r.cursor + 1 }).rebuild g)
      = { v.rebuild g with cursor := (v.rebuild g).cursor + 1 } := by
    exact Tab.rd_mod_same ({} : RebuildS) _ g fun r => { r with cursor := r.cursor + 1 }
  rw [State.rebuiltHere, counted, cursor, unit]
  exact ⟨rfl, rfl⟩

/-- A unit of a rebuild that ends is Active again. -/
def State.backActive (k : Nat) (s : State) : State := if (s.unit k).state = .rebuilding then s.modUnit k fun x => { x with state := .active } else s

theorem State.rebuildDone_eq (g : Nat) (s : State) : s.rebuildDone g
    = ((((s.backActive (s.rebuild g).unit).backActive (s.rebuild g).second).modRebuild g fun _ => {}).storeWrite 88).boundSync := rfl

/-- The first unit stays Active when the second is made so, whatever the form of the table. -/
theorem State.backActive_active {k : Nat} (rebuilding : (s.unit k).state = .rebuilding) (j : Nat) :
    (((s.backActive k).backActive j).unit k).state = .active := by
  have first : s.backActive k = s.modUnit k fun x => { x with state := .active } := if_pos rebuilding
  have active : ((s.backActive k).unit k).state = .active := by rw [first, State.modUnit_unit]
  have settled : Tab.settled (s.backActive k).flt.units k := by
    rw [first]
    exact Tab.settled_mod_same ({} : UnitS) fun x => { x with state := .active }
  generalize s.backActive k = v at *
  rw [State.backActive]
  split
  case isFalse => exact active
  case isTrue again =>
    have other : k ≠ j := fun same => by rw [← same, active] at again; cases again
    have kept : (v.modUnit j fun x => { x with state := .active }).unit k = v.unit k := Tab.rd_mod_of_settled ({} : UnitS) (fun x => { x with state := .active }) other settled
    rw [kept]
    exact active

section
variable (runs : (s.rebuild g).state = 1) (engine : s.isOut 0x29B = false) (service : s.inEasy = false) (core : s.coreOn = true)
  (idle : s.engineWorks .rebuild g = false)
include runs engine service core idle

theorem does_rebuildStep {fs : List Finding} (free : s.tractBusy (s.rebuildTracts g) = false) (early : (s.rebuild g).cursor + 1 < 262144) :
    Does (.rebuildStep g fs) s fun t => (t.rebuild g).cursor = (s.rebuild g).cursor + 1 ∧ (t.rebuild g).unit = (s.rebuild g).unit := by
  have same := State.persistCursor_same g s
  have tracts := State.rebuildTracts_of_same same
  have free' : (s.persistCursor g).tractBusy ((s.persistCursor g).rebuildTracts g) = false := by
    have kept (l : List Nat) : (s.persistCursor g).tractBusy l = s.tractBusy l := by simp [State.tractBusy]
    rw [tracts, kept, free]
  have next : exec (.rebuildStep g fs) s = .next ((s.persistCursor g).rebuiltHere g fs) := by
    refine (if_neg (by simp [runs, engine, service, core, idle])).trans ?_
    refine (if_neg (by omega)).trans ((if_neg (by rw [free']; decide)).trans ?_)
    exact congrArg Host.Outcome.next (if_neg (by omega))
  obtain ⟨cursor, unit, -⟩ := same
  obtain ⟨cursor', unit'⟩ := State.rebuiltHere_rebuild (s := s.persistCursor g) (by rw [cursor]; omega) fs
  exact does_of_next next ⟨by rw [cursor', cursor], by rw [unit', unit]⟩

theorem does_rebuildStep_last {fs : List Finding} (last : 262144 ≤ (s.rebuild g).cursor) : Does (.rebuildStep g fs) s fun t => t.rebuild g = {}
        ∧ ((s.unit (s.rebuild g).unit).state = .rebuilding → (t.unit (s.rebuild g).unit).state = .active) := by
  have next : exec (.rebuildStep g fs) s = .next ((s.persistCursor g).rebuildDone g) :=
    (if_neg (by simp [runs, engine, service, core, idle])).trans (if_pos last)
  obtain ⟨-, unit, -⟩ := State.persistCursor_same g s
  have flt : (s.persistCursor g).flt = s.flt := by simp
  have kept (v : State) : (((v.modRebuild g fun _ => {}).storeWrite 88).boundSync).rebuild g = (v.modRebuild g fun _ => {}).rebuild g
      ∧ (((v.modRebuild g fun _ => {}).storeWrite 88).boundSync).unit = v.unit := by
    constructor <;> simp
  refine does_of_next next ?_
  rw [State.rebuildDone_eq, (kept _).1, (kept _).2]
  refine ⟨Tab.rd_mod_same ({} : RebuildS) _ g fun _ => {}, fun rebuilding => ?_⟩
  rw [unit]
  refine State.backActive_active ?_ _
  rw [State.unit, flt]
  exact rebuilding
end
end
end Sys2Proof.Machine

open Sys2Proof Sys2Proof.Machine

/-- Settles O44: each step of a pass, of the patrol and of a rebuild moves its own place, and what it senses or rewrites leaves that place. -/
theorem scrubAndRebuild : Obligations.ScrubAndRebuild := by
  unfold Obligations.ScrubAndRebuild
  intro s
  refine ⟨fun req mode first len n cox may known some core room free => ⟨fun start whole inside => ?_, fun die inside => ?_⟩,
    fun ticket p cox found => does_scrubCancel cox found,
    fun ticket fs p pt row n found engine reads at' free written =>
      ⟨fun goesOn more => does_scrubRow found engine reads at' free written goesOn more,
        fun ends => does_scrubRow_ends found engine reads at' free written ends⟩,
    fun a n listed engine core at' idle whole serves good written => does_scrubRewrite listed engine core at' idle whole serves good written,
    fun pt row n fs at' engine runs inTract free core => does_patrolRow at' engine runs inTract free core,
    fun g r fs same runs engine service core idle free => ?_⟩
  · refine does_scrubPass cox may free (State.scrubOp_deferred known some core room ?_) rfl
    rw [if_pos rfl]
    exact decide_eq_false (by omega)
  · refine does_scrubPass cox may free (State.scrubOp_deferred known some core room ?_) rfl
    rw [if_neg (by decide)]
    exact decide_eq_false (by omega)
  · subst same
    exact ⟨fun early => does_rebuildStep runs engine service core idle free early, fun last => does_rebuildStep_last runs engine service core idle last⟩
end

section
/-! PROOFS. The input stage: losses, the breaker, the return of the input, and the bank's last voltages (O46). -/
namespace Sys2Proof.Machine

/-! ## The module goes onto the bank (R39, R41, R365) -/

section
variable {s : State}

/-- The message of an input event is the only thing it leaves. -/
theorem State.inputEvent_eq (on : s.keelOn = true) : s.inputEvent = s.queueFault (faultMsg 0x2BA 0x61 none false) :=
  State.report_of_below on (kind := 0x61) (by decide) 0x2BA none

/-- An input event, and its power record. -/
def State.inputTold (k : Nat) (s : State) : State := s.inputEvent.powerEvent k

theorem State.inputTold_kept (on : s.keelOn = true) (k : Nat) : (s.inputTold k).pwr = s.pwr ∧ (s.inputTold k).wb = s.wb
    ∧ (s.inputTold k).bank = s.bank := by
  rw [State.inputTold, State.inputEvent_eq on]
  refine ⟨?_, ?_, ?_⟩ <;> simp

theorem State.inputTold_queued (on : s.keelOn = true) (room : s.flt.queue.length < 256) (k : Nat) :
    queued s (s.inputTold k) (faultMsg 0x2BA 0x61 none false) := by
  have told := State.report_queued_of_below (s := s) on (kind := 0x61) (by decide) 0x2BA none room
  have kept (v : State) : (v.powerEvent k).flt.queue = v.flt.queue := by simp
  rw [queued, State.inputTold, kept]
  exact told

/-- What the input figures of the power state keep while the module goes onto the bank. -/
structure InputSame (p q : PowerS) : Prop where
  inputGood : q.inputGood = p.inputGood
  overvoltage : q.overvoltage = p.overvoltage
  breaker : q.breaker = p.breaker
  keelPath : q.keelPath = p.keelPath
  lossCount : q.lossCount = p.lossCount
  tripCount : q.tripCount = p.tripCount

/-- The switch open, and the flush begun on the bank. -/
def State.ontoFlush (s : State) : State :=
  (((((s.modPwr fun p => { p with switchClosed := false, dip := false }).easyEnter 4).ontoBank).modPwr fun p => { p with state := .holdUpFlush }).zeroMargins)

theorem State.ontoFlush_flushing (service : s.inService = true) : s.ontoFlush.wb.flushing = true := by
  have service' : (s.modPwr fun p => { p with switchClosed := false, dip := false }).inService = true := service
  have kept (v : State) : ((v.ontoBank).modPwr fun p => { p with state := .holdUpFlush }).zeroMargins.wb = v.wb := by simp
  rw [State.ontoFlush, kept]
  exact (State.easyEnter_begins service' 4).2

theorem State.switchOpens_service (service : s.inService = true) : s.switchOpens = s.ontoFlush := by
  have power : (s.modPwr fun p => { p with switchClosed := false, dip := false }).pwr.state = .dataService := of_decide_eq_true service
  rw [State.switchOpens]
  dsimp only
  rw [power]
  exact if_pos (State.ontoFlush_flushing service)

theorem State.ontoBank_bank (s : State) : s.ontoBank.bank.state = 4 ∧ s.ontoBank.bank.boost = false := by
  rw [State.ontoBank, State.modPwr_bank, State.modBank_bank]
  constructor <;> split <;> rfl

theorem State.ontoFlush_kept (s : State) : s.ontoFlush.pwr.state = .holdUpFlush ∧ s.ontoFlush.pwr.switchClosed = false ∧ InputSame s.pwr s.ontoFlush.pwr
    ∧ s.ontoFlush.bank.state = 4 ∧ s.ontoFlush.bank.boost = false ∧ s.ontoFlush.cause 4 = true ∧ s.ontoFlush.flt = s.flt := by
  have cause : ((s.modPwr fun p => { p with switchClosed := false, dip := false }).easyEnter 4).cause 4 = true := State.easyEnter_cause _ (by decide)
  have flt := State.easyEnter_flt (bitNo := 4) (by decide) (s.modPwr fun p => { p with switchClosed := false, dip := false })
  refine ⟨?_, ?_, ⟨?_, ?_, ?_, ?_, ?_, ?_⟩, ?_, ?_, ?_, ?_⟩
  · simp [State.ontoFlush]
  · simp [State.ontoFlush]
  · simp [State.ontoFlush]
  · simp [State.ontoFlush]
  · simp [State.ontoFlush]
  · simp [State.ontoFlush]
  · simp [State.ontoFlush]
  · simp [State.ontoFlush]
  · have kept (v : State) : ((v.modPwr fun p => { p with state := .holdUpFlush }).zeroMargins).bank = v.bank := by simp
    rw [State.ontoFlush, kept]
    exact (State.ontoBank_bank _).1
  · have kept (v : State) : ((v.modPwr fun p => { p with state := .holdUpFlush }).zeroMargins).bank = v.bank := by simp
    rw [State.ontoFlush, kept]
    exact (State.ontoBank_bank _).2
  · have kept (v : State) : ((v.ontoBank).modPwr fun p => { p with state := .holdUpFlush }).zeroMargins.easy = v.easy := by simp
    rw [State.cause, State.ontoFlush, kept]
    exact cause
  · have kept (v : State) : ((v.ontoBank).modPwr fun p => { p with state := .holdUpFlush }).zeroMargins.flt = v.flt := by simp
    rw [State.ontoFlush, kept, flt]
    rfl
end

/-! ## Input losses (R39, R43, R44) -/

section
variable {s : State}

/-- What an input event in data service leaves behind, whatever the event. -/
def OntoBank (s t : State) : Prop := t.pwr.state = .holdUpFlush ∧ t.pwr.switchClosed = false ∧ t.pwr.inputGood = false ∧ t.bank.state = 4
        ∧ t.bank.boost = false ∧ t.wb.flushing = true ∧ t.cause 4 = true ∧ queued s t (faultMsg 0x2BA 0x61 none false)

/-- From data service an input event flushes on the bank, and keeps the figures of the input as the event set them. -/
theorem OntoBank.of_service {p : PowerS → PowerS} (state : ∀ x, (p x).state = x.state) (lost : (p s.pwr).inputGood = false)
    (service : s.inService = true) (room : s.flt.queue.length < 256) (k : Nat) :
    OntoBank s (((s.modPwr p).inputTold k).switchOpens) ∧ InputSame (p s.pwr) (((s.modPwr p).inputTold k).switchOpens).pwr := by
  have on : (s.modPwr p).keelOn = true := by
    rw [State.keelOn, State.modPwr_pwr, state]
    exact State.keelOn_of_service service
  obtain ⟨pwr, -, -⟩ := State.inputTold_kept on k
  have service' : ((s.modPwr p).inputTold k).inService = true := by
    rw [State.inService, pwr, State.modPwr_pwr, state]
    exact service
  have told : queued s ((s.modPwr p).inputTold k) (faultMsg 0x2BA 0x61 none false) := State.inputTold_queued (s := s.modPwr p) on room k
  obtain ⟨power, closed, same, bank, boost, cause, flt⟩ := State.ontoFlush_kept ((s.modPwr p).inputTold k)
  rw [State.switchOpens_service service']
  rw [pwr, State.modPwr_pwr] at same
  refine ⟨⟨power, closed, same.inputGood.trans lost, bank, boost, State.ontoFlush_flushing service', cause, ?_⟩, same⟩
  rw [queued, flt]
  exact told

section
variable (service : s.inService = true) (closed : s.pwr.switchClosed = true) (room : s.flt.queue.length < 256)
include service room

theorem does_breakerTrip (whole : s.pwr.breaker = false) : Does .breakerTrip s fun t => OntoBank s t ∧ t.pwr.breaker = true ∧ t.pwr.keelPath = false
        ∧ t.pwr.tripCount = s.pwr.tripCount + 1 := by
  have on := State.keelOn_of_service service
  have next : exec .breakerTrip s = .next (((s.modPwr fun p =>
      { p with breaker := true, keelPath := false, inputGood := false, resetOnGood := false, tripCount := p.tripCount + 1 }).inputTold 3).switchOpens) :=
    (if_neg (by simp [whole])).trans (if_pos on)
  obtain ⟨bank, same⟩ := OntoBank.of_service (p := fun p =>
    { p with breaker := true, keelPath := false, inputGood := false, resetOnGood := false, tripCount := p.tripCount + 1 }) (fun _ => rfl) rfl service room 3
  exact does_of_next next ⟨bank, same.breaker, same.keelPath, same.tripCount⟩

include closed

theorem does_inputLoss : Does .inputLoss s fun t => OntoBank s t ∧ t.pwr.lossCount = s.pwr.lossCount + 1 := by
  have on := State.keelOn_of_service service
  have next : exec .inputLoss s = .next (((s.modPwr fun p => { p with inputGood := false, inputLow := true, lossCount := p.lossCount + 1 }).inputTold 1).switchOpens) :=
    (if_pos on).trans (if_pos closed)
  obtain ⟨bank, same⟩ := OntoBank.of_service (p := fun p => { p with inputGood := false, inputLow := true, lossCount := p.lossCount + 1 })
    (fun _ => rfl) rfl service room 1
  exact does_of_next next ⟨bank, same.lossCount⟩

theorem does_overvoltage : Does .overvoltage s fun t => OntoBank s t ∧ t.pwr.overvoltage = true ∧ t.pwr.lossCount = s.pwr.lossCount + 1 := by
  have on := State.keelOn_of_service service
  have next : exec .overvoltage s = .next (((s.modPwr fun p => { p with inputGood := false, overvoltage := true, lossCount := p.lossCount + 1 }).inputTold 2).switchOpens) :=
    if_pos ⟨on, closed⟩
  obtain ⟨bank, same⟩ := OntoBank.of_service (p := fun p => { p with inputGood := false, overvoltage := true, lossCount := p.lossCount + 1 })
    (fun _ => rfl) rfl service room 2
  exact does_of_next next ⟨bank, same.overvoltage, same.lossCount⟩
end

theorem does_inputLoss_standby (standby : s.pwr.state = .standby) (closed : s.pwr.switchClosed = true) (path : s.pwr.keelPath = true) :
    Does .inputLoss s fun t => t.pwr.state = .standby ∧ t.pwr.switchClosed = false := by
  have on : s.keelOn = true := by rw [State.keelOn, standby]; rfl
  have next : exec .inputLoss s = .next (((s.modPwr fun p => { p with inputGood := false, inputLow := true, lossCount := p.lossCount + 1 }).inputTold 1).switchOpens) :=
    (if_pos on).trans (if_pos closed)
  obtain ⟨pwr, -, -⟩ := State.inputTold_kept (s := s.modPwr fun p => { p with inputGood := false, inputLow := true, lossCount := p.lossCount + 1 }) on 1
  generalize (s.modPwr fun p => { p with inputGood := false, inputLow := true, lossCount := p.lossCount + 1 }).inputTold 1 = v at *
  have stays : v.switchOpens = v.modPwr fun p => { p with switchClosed := false, dip := false } := by
    have state : (v.modPwr fun p => { p with switchClosed := false, dip := false }).pwr.state = .standby := by
      rw [State.modPwr_pwr, pwr]
      exact standby
    have keel : (v.modPwr fun p => { p with switchClosed := false, dip := false }).pwr.keelPath = true := by
      rw [State.modPwr_pwr, pwr]
      exact path
    rw [State.switchOpens]
    dsimp only
    rw [state]
    exact if_pos keel
  rw [stays] at next
  refine does_of_next next ⟨?_, rfl⟩
  rw [State.modPwr_pwr, pwr]
  exact standby

/-! ## The power lost (R52) -/

/-- Off, with an empty write buffer, and Cox without power. -/
def Dark (s : State) : Prop := s.pwr.state = .off ∧ s.wb.ents = [] ∧ s.cox.state = 0

theorem Dark.keep {v : State} (dark : Dark s) (power : v.pwr.state = s.pwr.state) (ents : v.wb.ents = s.wb.ents) (cox : v.cox = s.cox) : Dark v := by
  obtain ⟨off, none, idle⟩ := dark
  exact ⟨power.trans off, ents.trans none, by rw [cox, idle]⟩

theorem State.linkReset_kept (h : Nat) (s : State) : (s.linkReset h).pwr = s.pwr ∧ (s.linkReset h).cox = s.cox := by
  have kept (v : State) (c : Bool) : (v.when c (State.modPort (h / 2) fun p => { p with downCount := p.downCount + 1 })).pwr = v.pwr
      ∧ (v.when c (State.modPort (h / 2) fun p => { p with downCount := p.downCount + 1 })).cox = v.cox :=
    ⟨State.when_same State.pwr (by intro w; simp) c v, State.when_same State.cox (by intro w; simp) c v⟩
  constructor <;> simp [State.linkReset, kept]

theorem State.linkReset_ents (h : Nat) {s : State} (none : s.wb.ents = []) : (s.linkReset h).wb.ents = [] := by
  have kept (v : State) (c : Bool) : (v.when c (State.modPort (h / 2) fun p => { p with downCount := p.downCount + 1 })).wb = v.wb :=
    State.when_same State.wb (by intro w; simp) c v
  simp [State.linkReset, kept, none, Tab.remap]

theorem State.lossBound_of_dark (dark : Dark s.boundSync) : s.lossBound = s.boundSync := by
  obtain ⟨off, -, -⟩ := dark
  rw [State.lossBound]
  generalize s.boundSync = v at *
  have out : v.inService = false ∧ v.inEasy = false := by
    rw [State.inService, State.inEasy, off]
    exact ⟨rfl, by simp⟩
  exact if_neg (by rw [out.1, out.2]; simp)

theorem Dark.linkDown (dark : Dark s) (h : Nat) : Dark (s.linkDown h) := by
  obtain ⟨pwr, cox⟩ := State.linkReset_kept h s
  have reset : Dark (s.linkReset h) := ⟨by rw [pwr, dark.1], State.linkReset_ents h dark.2.1, by rw [cox, dark.2.2]⟩
  have posted : Dark ((s.linkReset h).lossPosted h (s.linkUp h)) := by
    rw [State.lossPosted]
    split
    case isTrue => exact reset.keep (by simp) (by simp) (by simp)
    case isFalse => exact reset
  have bound := posted.keep (v := ((s.linkReset h).lossPosted h (s.linkUp h)).boundSync) (by simp) (by simp) (by simp)
  rw [State.linkDown_eq]
  split
  case isTrue => exact dark
  case isFalse =>
    rw [State.lossBound_of_dark bound]
    exact bound

theorem Dark.when (dark : Dark s) {c : Bool} {f : State → State} (kept : Dark (f s)) : Dark (s.when c f) := by
  cases c
  · exact dark
  · exact kept

theorem Dark.linksSync (dark : Dark s) : Dark s.linksSync := by
  rw [State.linksSync]
  refine forEach_keeps (P := Dark) _ (fun p v kept => ?_) dark
  have first : Dark (v.when (v.linkHeld (2 * p)) (State.linkDown (2 * p))) := kept.when (kept.linkDown _)
  have second := first.when (c := (v.when (v.linkHeld (2 * p)) (State.linkDown (2 * p))).linkHeld (2 * p + 1)) (first.linkDown (2 * p + 1))
  have trained (w : State) : (((w.applyMode p).train (2 * p)).train (2 * p + 1)).pwr.state = w.pwr.state
      ∧ (((w.applyMode p).train (2 * p)).train (2 * p + 1)).wb.ents = w.wb.ents
      ∧ (((w.applyMode p).train (2 * p)).train (2 * p + 1)).cox = w.cox := by
    refine ⟨?_, ?_, ?_⟩ <;> simp
  exact second.keep (trained _).1 (trained _).2.1 (trained _).2.2

theorem State.coreLost_ents (torn keel : Bool) (s : State) : (s.coreLost torn keel).wb.ents = [] := by
  rw [State.coreLost]
  rfl

theorem State.powerLost_dark (s : State) : Dark s.powerLost := by
  unfold State.powerLost
  extract_lets held lost off idle drained
  refine Dark.linksSync (s := drained) ⟨rfl, ?_, rfl⟩
  exact State.coreLost_ents true true held

theorem State.powerLost_switch (s : State) : s.powerLost.pwr.switchClosed = s.pwr.switchClosed := by
  simp

theorem does_keelTurnOff (standby : s.pwr.state = .standby) : Does .keelTurnOff s fun t =>
    t.pwr.state = .off ∧ t.pwr.switchClosed = false ∧ t.cox.state = 0 := by
  have next : exec .keelTurnOff s = .next (s.modPwr fun p => { p with inputGood := false, inputLow := true, switchClosed := false }).powerLost :=
    if_pos standby
  obtain ⟨off, -, idle⟩ := State.powerLost_dark (s.modPwr fun p => { p with inputGood := false, inputLow := true, switchClosed := false })
  exact does_of_next next ⟨off, State.powerLost_switch _, idle⟩

theorem does_bankBelow40v (on : s.keelOn = true) (bank : s.bank.state = 4) : Does .bankBelow40v s fun t =>
    t.pwr.state = .off ∧ t.wb.ents = [] ∧ t.cox.state = 0 :=
  does_of_next (if_pos ⟨on, bank⟩) (State.powerLost_dark s)

/-! ## The return of the input (R43, R408) -/

theorem State.inputReturns_off (whole : s.pwr.breaker = false) (fine : s.pwr.overvoltage = false) (high : s.pwr.inputLow = false)
    (off : s.pwr.state = .off) : s.inputReturns = s.modPwr fun p => { p with inputGood := true, switchClosed := true, keelPath := true } := by
  have off' : (s.modPwr fun p => { p with inputGood := true }).pwr.state = .off := off
  rw [State.inputReturns, if_neg (by rw [whole, fine, high]; decide)]
  dsimp only
  rw [off']
  rfl

theorem State.inputReturns_standby (whole : s.pwr.breaker = false) (fine : s.pwr.overvoltage = false) (high : s.pwr.inputLow = false)
    (standby : s.pwr.state = .standby) (opened : s.pwr.switchClosed = false) :
    s.inputReturns = ((s.modPwr fun p => { p with inputGood := true, switchClosed := true }).powerEvent 4).startSync := by
  have standby' : (s.modPwr fun p => { p with inputGood := true }).pwr.state = .standby := standby
  have opened' : ¬ (s.modPwr fun p => { p with inputGood := true }).pwr.switchClosed = true := Bool.eq_false_iff.mp opened
  rw [State.inputReturns, if_neg (by rw [whole, fine, high]; decide)]
  dsimp only
  rw [standby']
  exact if_neg opened'

theorem State.inputReturns_flush (whole : s.pwr.breaker = false) (fine : s.pwr.overvoltage = false) (high : s.pwr.inputLow = false)
    (flush : s.pwr.state = .holdUpFlush) (opened : s.pwr.switchClosed = false) : ∃ bank : BankS → BankS,
      s.inputReturns = ((s.modBank bank).modPwr fun p => { p with inputGood := true, switchClosed := true, resetOnGood := true }).inputTold 4 := by
  have flush' : (s.modPwr fun p => { p with inputGood := true }).pwr.state = .holdUpFlush := flush
  have opened' : ¬ (s.modPwr fun p => { p with inputGood := true }).pwr.switchClosed = true := Bool.eq_false_iff.mp opened
  refine ⟨fun b => { b with state := if s.pwr.seqState ≠ 5 then 1 else 0, boost := s.pwr.seqState ≠ 5 }, ?_⟩
  rw [State.inputReturns, if_neg (by rw [whole, fine, high]; decide)]
  dsimp only
  rw [flush']
  exact if_neg opened'

theorem State.inputReturns_stays (still : s.pwr.breaker = true ∨ s.pwr.overvoltage = true ∨ s.pwr.inputLow = true) : s.inputReturns = s := by
  refine if_pos ?_
  rcases still with trip | risen | low <;> simp [*]

theorem exec_keelTurnOn (whole : s.pwr.breaker = false) (off : s.pwr.state = .off) (fine : s.pwr.overvoltage = false) : exec .keelTurnOn s
    = .next (s.modPwr fun p => { p with inputLow := false, inputGood := true, switchClosed := true, keelPath := true }) :=
  congrArg Host.Outcome.next (State.inputReturns_off (s := s.modPwr fun p => { p with inputLow := false }) whole fine rfl off)

theorem exec_overvoltageClear (whole : s.pwr.breaker = false) (off : s.pwr.state = .off) (risen : s.pwr.overvoltage = true)
    (high : s.pwr.inputLow = false) : exec .overvoltageClear s
      = .next (s.modPwr fun p => { p with overvoltage := false, inputGood := true, switchClosed := true, keelPath := true }) :=
  (if_pos risen).trans (congrArg Host.Outcome.next (State.inputReturns_off (s := s.modPwr fun p => { p with overvoltage := false }) whole rfl high off))

theorem exec_overvoltageClear_low (risen : s.pwr.overvoltage = true) (low : s.pwr.inputLow = true) :
    exec .overvoltageClear s = .next (s.modPwr fun p => { p with overvoltage := false }) :=
  (if_pos risen).trans (congrArg Host.Outcome.next (State.inputReturns_stays (s := s.modPwr fun p => { p with overvoltage := false }) (.inr (.inr low))))

theorem exec_inputLoss_off (off : s.pwr.state = .off) : exec .inputLoss s
    = .next (s.modPwr fun p => { p with inputGood := false, inputLow := true, switchClosed := false }) := by
  have dark : (s.modPwr fun p => { p with inputGood := false, inputLow := true }).keelOn = false := decide_eq_false (not_not.mpr off)
  refine (if_neg ?_).trans rfl
  rw [dark]
  decide

theorem does_inputGoodAgain_standby (whole : s.pwr.breaker = false) (fine : s.pwr.overvoltage = false) (opened : s.pwr.switchClosed = false)
    (standby : s.pwr.state = .standby) : Does .inputGoodAgain s fun t => t.pwr.switchClosed = true ∧ t.pwr.inputGood = true := by
  have on : s.keelOn = true := by rw [State.keelOn, standby]; rfl
  have returns : s.inputRises = (((s.modPwr fun p => { p with inputLow := false }).modPwr fun p => { p with inputGood := true, switchClosed := true }).powerEvent 4).startSync :=
    State.inputReturns_standby (s := s.modPwr fun p => { p with inputLow := false }) whole fine rfl standby opened
  have next : exec .inputGoodAgain s = .next s.inputRises := if_pos on
  have kept (v : State) : (v.powerEvent 4).startSync.pwr.switchClosed = v.pwr.switchClosed ∧ (v.powerEvent 4).startSync.pwr.inputGood = v.pwr.inputGood := by
    constructor <;> simp
  rw [returns] at next
  exact does_of_next next ⟨(kept _).1, (kept _).2⟩

theorem does_inputGoodAgain_flush (whole : s.pwr.breaker = false) (fine : s.pwr.overvoltage = false) (opened : s.pwr.switchClosed = false)
    (flush : s.pwr.state = .holdUpFlush) : Does .inputGoodAgain s fun t => t.pwr.switchClosed = true ∧ t.pwr.resetOnGood = true
        ∧ t.pwr.state = .holdUpFlush ∧ t.wb = s.wb := by
  have on : s.keelOn = true := by rw [State.keelOn, flush]; rfl
  obtain ⟨bank, returns⟩ := State.inputReturns_flush (s := s.modPwr fun p => { p with inputLow := false }) whole fine rfl flush opened
  have next : exec .inputGoodAgain s = .next s.inputRises := if_pos on
  have on' : (((s.modPwr fun p => { p with inputLow := false }).modBank bank).modPwr fun p =>
      { p with inputGood := true, switchClosed := true, resetOnGood := true }).keelOn = true := on
  obtain ⟨pwr, wb, -⟩ := State.inputTold_kept on' 4
  have rises : s.inputRises = (s.modPwr fun p => { p with inputLow := false }).inputReturns := rfl
  rw [rises, returns] at next
  refine does_of_next next ⟨?_, ?_, ?_, wb⟩
  · rw [pwr]; rfl
  · rw [pwr]; rfl
  · rw [pwr]; exact flush

/-! ## Resets of the keel (R44, R405) -/

/-- What a keel reset leaves: standby, the pins latched, Cox without power, the cause of the start, and the map. -/
theorem State.keelReset_kept (cold : Bool) (s : State) : (s.keelReset cold).pwr.state = .standby ∧ (s.keelReset cold).pwr.gaLatched = s.pwr.gaNow
    ∧ (s.keelReset cold).pwr.resetAsked = false ∧ (s.keelReset cold).cox.state = 0 ∧ (s.keelReset cold).str.kind = (if cold then 1 else 2)
    ∧ (s.keelReset cold).trc.map = s.trc.map := by
  refine ⟨?_, ?_, ?_, ?_, ?_, ?_⟩
  · simp [State.keelReset, State.pwrAfter]
  · cases cold <;> simp [State.keelReset, State.pwrAfter]
  · simp [State.keelReset, State.pwrAfter]
  · simp [State.keelReset]
  · simp [State.keelReset]
  · simp

theorem State.keelReset_time (s : State) : (s.keelReset true).tim = s.tim.coldStart := by
  simp [State.keelReset]

theorem State.fullReset_kept (s : State) : s.fullReset.pwr.state = .standby ∧ s.fullReset.pwr.gaLatched = s.pwr.gaNow
    ∧ s.fullReset.pwr.resetAsked = false ∧ s.fullReset.cox.state = 0 ∧ s.fullReset.str.kind = 2 ∧ s.fullReset.trc.map = s.trc.map := by
  have written : ∃ v : State, s.fullReset = v.keelReset false ∧ v.pwr = s.pwr ∧ v.trc = s.trc := by
    by_cases silent : s.noPrograms
    · exact ⟨s, by rw [State.fullReset, if_pos silent], rfl, rfl⟩
    · refine ⟨s.writeOutSome 20150, by rw [State.fullReset, if_neg silent], ?_, ?_⟩ <;> simp
  obtain ⟨v, resets, pwr, trc⟩ := written
  obtain ⟨state, pins, asked, cox, kind, map⟩ := State.keelReset_kept false v
  rw [resets]
  exact ⟨state, by rw [pins, pwr], asked, cox, kind, by rw [map, trc]⟩

section
variable (flush : s.pwr.state = .holdUpFlush) (onGood : s.pwr.resetOnGood = true) (good : s.pwr.inputGood = true) (flushed : s.wb.flushing = false)
include flush onGood good flushed

theorem does_inputGoodResetTimer (notDown : s.pwr.seqState ≠ 3) (notDone : s.pwr.seqState ≠ 5) (ga : Nat) : Does (.inputGoodResetTimer ga) s fun t =>
    t.pwr.resetAsked = true ∧ t.pwr.seqState = 3 ∧ t.pwr.fastDown = false := by
  have next : exec (.inputGoodResetTimer ga) s
      = .next (((s.pinsNow ga).modPwr fun p => { p with resetAsked := true, resetOnGood := false }).startDown false false) := by
    have due : (s.pinsNow ga).pwr.state = .holdUpFlush ∧ (s.pinsNow ga).pwr.resetOnGood = true ∧ (s.pinsNow ga).pwr.inputGood = true
        ∧ ¬ (s.pinsNow ga).wb.flushing = true := ⟨flush, onGood, good, Bool.eq_false_iff.mp flushed⟩
    exact (if_pos due).trans ((if_neg notDone).trans (if_neg notDown))
  exact does_of_next next ⟨rfl, rfl, rfl⟩

theorem does_inputGoodResetTimer_down (done : s.pwr.seqState = 5) (released : s.pwr.modrstLow = false) (ga : Nat) :
    Does (.inputGoodResetTimer ga) s fun t => t.pwr.state = .standby ∧ t.pwr.gaLatched = ga % 64 ∧ t.pwr.resetAsked = false
        ∧ t.cox.state = 0 ∧ t.str.kind = 2 ∧ t.trc.map = s.trc.map := by
  have resets : exec (.inputGoodResetTimer ga) s = .next (((s.pinsNow ga).modPwr fun p =>
      { p with resetAsked := true, resetOnGood := false }).modPwr fun p => { p with state := .standby, seqState := 0 }).fullReset := by
    have due : (s.pinsNow ga).pwr.state = .holdUpFlush ∧ (s.pinsNow ga).pwr.resetOnGood = true ∧ (s.pinsNow ga).pwr.inputGood = true
        ∧ ¬ (s.pinsNow ga).wb.flushing = true := ⟨flush, onGood, good, Bool.eq_false_iff.mp flushed⟩
    have asked : (((s.pinsNow ga).modPwr fun p => { p with resetAsked := true, resetOnGood := false }).modPwr fun p =>
        { p with state := .standby, seqState := 0 }).tryReset = (((s.pinsNow ga).modPwr fun p =>
          { p with resetAsked := true, resetOnGood := false }).modPwr fun p => { p with state := .standby, seqState := 0 }).fullReset :=
      if_pos ⟨rfl, Bool.eq_false_iff.mp released, rfl, show (0 : Nat) ≠ 3 by decide⟩
    exact (if_pos due).trans ((if_pos done).trans (congrArg Host.Outcome.next asked))
  exact does_of_next resets (State.fullReset_kept _)
end

theorem does_keelRailsQualified {cells : TimeS} {timeTorn cycleTorn : Bool} (off : s.pwr.state = .off) (closed : s.pwr.switchClosed = true)
    (path : s.pwr.keelPath = true) (torn : s.tim.tear timeTorn cycleTorn = cells) (ga : Nat) :
    Does (.keelRailsQualified ga timeTorn cycleTorn) s fun t => t.pwr.state = .standby ∧ t.pwr.gaLatched = ga % 64 ∧ t.cox.state = 0 ∧ t.str.kind = 1
        ∧ t.tim.cycles = (countedCell 1 cells.cycleCells).2 + 1 ∧ t.tim.opTime = (countedCell 32768 cells.timeCells).2 := by
  have next : exec (.keelRailsQualified ga timeTorn cycleTorn) s = .next (((s.pinsNow ga).modTim (TimeS.tear timeTorn cycleTorn)).keelReset true) :=
    if_pos ⟨off, closed, path⟩
  obtain ⟨state, pins, -, cox, kind, -⟩ := State.keelReset_kept true ((s.pinsNow ga).modTim (TimeS.tear timeTorn cycleTorn))
  have time := State.keelReset_time ((s.pinsNow ga).modTim (TimeS.tear timeTorn cycleTorn))
  refine does_of_next next ⟨state, pins, cox, kind, ?_, ?_⟩
  · rw [time, ← torn]
    rfl
  · rw [time, ← torn]
    rfl
end
end Sys2Proof.Machine

open Sys2Proof Sys2Proof.Machine

/-- Settles O46: a loss, a return and a reset of the keel, each with what it writes of the input, the bank and the flush. -/
theorem inputStage : Obligations.InputStage := by
  unfold Obligations.InputStage
  intro s
  refine ⟨fun service closed room => ⟨does_inputLoss service closed room, does_overvoltage service closed room,
      fun whole => does_breakerTrip service room whole⟩,
    does_inputLoss_standby, does_keelTurnOff, fun tripped => if_pos tripped,
    fun whole off => ⟨fun fine => exec_keelTurnOn whole off fine, fun risen high => exec_overvoltageClear whole off risen high⟩,
    exec_overvoltageClear_low, exec_inputLoss_off,
    fun whole fine opened => ⟨does_inputGoodAgain_standby whole fine opened, does_inputGoodAgain_flush whole fine opened⟩,
    fun flush onGood good flushed => ⟨does_inputGoodResetTimer flush onGood good flushed, does_inputGoodResetTimer_down flush onGood good flushed⟩,
    fun ga timeTorn cycleTorn cells off closed path torn => does_keelRailsQualified off closed path torn ga, rfl,
    fun on bank => ⟨if_pos ⟨on, bank⟩, does_bankBelow40v on bank⟩⟩
end

section
/-! PROOFS. Core power, the full module reset, the blade pairs, and the test access port (O47). -/
namespace Sys2Proof.Machine

/-! ## The module reset (R58, R405) -/

section
variable {s : State}

/-- From data service a reset that is asked for waits for the flush. -/
theorem State.askReset_service (service : s.inService = true) : s.askReset = (s.easyBegin false).modPwr fun p => { p with resetAsked := true } := by
  have power : s.pwr.state = .dataService := of_decide_eq_true service
  rw [State.askReset]
  dsimp only
  rw [power]

/-- What a reset that is asked for in data service leaves. -/
theorem State.askReset_kept (service : s.inService = true) : s.askReset.pwr.resetAsked = true ∧ s.askReset.pwr.state = .easyAll
    ∧ s.askReset.wb.flushing = true ∧ s.askReset.pwr.modrstLow = s.pwr.modrstLow ∧ s.out <+: s.askReset.out := by
  have kept : (s.easyBegin false).pwr.modrstLow = s.pwr.modrstLow := by simp
  have state := State.easyBegin_state false s
  have flushing := State.easyBegin_flushing false s
  have out := (State.easyBegin_steady (Steady.refl s) false).out
  rw [State.askReset_service service]
  generalize s.easyBegin false = v at *
  exact ⟨rfl, state, flushing, kept, out⟩

theorem does_modrstAssert {us : Nat} (service : s.inService = true) (long : 10 ≤ us) (ga : Nat) : Does (.modrstAssert us ga) s fun t =>
    t.pwr.modrstLow = true ∧ t.pwr.resetAsked = true ∧ t.pwr.state = .easyAll ∧ t.wb.flushing = true := by
  have on := State.keelOn_of_service service
  have next : exec (.modrstAssert us ga) s = .next ((s.pinsNow ga).modPwr fun p => { p with modrstLow := true }).askReset := by
    refine (if_neg (by omega)).trans ((if_neg ?_).trans (if_neg (by omega)))
    have still : (s.pinsNow ga).keelOn = true := on
    rw [still]
    decide
  have service' : ((s.pinsNow ga).modPwr fun p => { p with modrstLow := true }).inService = true := service
  obtain ⟨asked, state, flushing, low, -⟩ := State.askReset_kept service'
  exact does_of_next next ⟨low.trans rfl, asked, state, flushing⟩

theorem exec_modrstRelease_unasked (unasked : s.pwr.resetAsked = false) (ga : Nat) :
    exec (.modrstRelease ga) s = .next ((s.pinsNow ga).modPwr fun p => { p with modrstLow := false }) := by
  have idle : ((s.pinsNow ga).modPwr fun p => { p with modrstLow := false }).tryReset = (s.pinsNow ga).modPwr fun p => { p with modrstLow := false } := by
    have unasked' : ¬ ((s.pinsNow ga).modPwr fun p => { p with modrstLow := false }).pwr.resetAsked = true := Bool.eq_false_iff.mp unasked
    exact if_neg fun ready => unasked' ready.1
  exact congrArg Host.Outcome.next idle

theorem does_modrstRelease (asked : s.pwr.resetAsked = true) (standby : s.pwr.state = .standby) (settled : s.pwr.seqState ≠ 3) (ga : Nat) :
    Does (.modrstRelease ga) s fun t => t.pwr.resetAsked = false ∧ t.pwr.gaLatched = ga % 64
      ∧ t.pwr.state = .standby ∧ t.cox.state = 0 ∧ t.str.kind = 2 := by
  have resets : ((s.pinsNow ga).modPwr fun p => { p with modrstLow := false }).tryReset
      = ((s.pinsNow ga).modPwr fun p => { p with modrstLow := false }).fullReset := if_pos ⟨asked, Bool.false_ne_true, standby, settled⟩
  obtain ⟨state, pins, unasked, cox, kind, -⟩ := State.fullReset_kept ((s.pinsNow ga).modPwr fun p => { p with modrstLow := false })
  have next : exec (.modrstRelease ga) s = .next ((s.pinsNow ga).modPwr fun p => { p with modrstLow := false }).tryReset := rfl
  rw [resets] at next
  exact does_of_next next ⟨unasked, pins, state, cox, kind⟩

/-- A module reset that is granted is answered before it begins. -/
theorem exec_moduleReset {req : Req} (cox : s.coxUp = true) (may : mayWrite 0x7001 0 req = 0) (ga : Nat) : exec (.moduleReset req 1 ga) s
    = .next ((((s.pinsNow ga).manage 1 req 0 0x7001 0 0 0 (be 1 1)).emit (.access req 0x7001 0 0 0)).askReset) := by
  have granted : guarded req 0x7001 0 (State.resetOp req 1) (s.pinsNow ga) = (0x00, 0, (s.pinsNow ga).manage 1 req 0 0x7001 0 0 0 (be 1 1)) := by
    rw [guarded_of_may _ may]
    exact if_pos rfl
  have next : exec (.moduleReset req 1 ga) s = accessed (s.pinsNow ga) (if (guarded req 0x7001 0 (State.resetOp req 1) (s.pinsNow ga)).1 = 0
      then (respondAccess req 0x7001 0 (guarded req 0x7001 0 (State.resetOp req 1) (s.pinsNow ga))).askReset
      else respondAccess req 0x7001 0 (guarded req 0x7001 0 (State.resetOp req 1) (s.pinsNow ga))) := rfl
  have up : (s.pinsNow ga).coxUp = true := cox
  rw [next, accessed_of_up up, granted, if_pos rfl, respondAccess_eq _ _ _ _ _ _ (by decide)]

theorem exec_moduleReset_refused {req : Req} {v : Nat} (cox : s.coxUp = true) (may : mayWrite 0x7001 0 req = 0) (other : v ≠ 1) (ga : Nat) :
    exec (.moduleReset req v ga) s = .next ((s.pinsNow ga).emit (.access req 0x7001 0 0x06 0)) := by
  have refused : guarded req 0x7001 0 (State.resetOp req v) (s.pinsNow ga) = (0x06, 0, s.pinsNow ga) := by
    rw [guarded_of_may _ may]
    exact if_neg other
  have next : exec (.moduleReset req v ga) s = accessed (s.pinsNow ga) (if (guarded req 0x7001 0 (State.resetOp req v) (s.pinsNow ga)).1 = 0
      then (respondAccess req 0x7001 0 (guarded req 0x7001 0 (State.resetOp req v) (s.pinsNow ga))).askReset
      else respondAccess req 0x7001 0 (guarded req 0x7001 0 (State.resetOp req v) (s.pinsNow ga))) := rfl
  have up : (s.pinsNow ga).coxUp = true := cox
  rw [next, accessed_of_up up, refused, if_neg (show ¬ (0x06 : Nat) = 0 by decide), respondAccess_eq _ _ _ _ _ _ (by decide)]

theorem does_moduleReset {req : Req} (cox : s.coxUp = true) (may : mayWrite 0x7001 0 req = 0) (service : s.inService = true) (ga : Nat) :
    Does (.moduleReset req 1 ga) s fun t => Out.access req 0x7001 0 0 0 ∈ t.out ∧ t.pwr.resetAsked = true ∧ t.pwr.state = .easyAll := by
  have next := exec_moduleReset cox may ga
  have service' : (((s.pinsNow ga).manage 1 req 0 0x7001 0 0 0 (be 1 1)).emit (.access req 0x7001 0 0 0)).inService = true := by
    have kept (v : State) : ((v.manage 1 req 0 0x7001 0 0 0 (be 1 1)).emit (.access req 0x7001 0 0 0)).inService = v.inService := by simp
    exact (kept _).trans service
  have sent : Out.access req 0x7001 0 0 0 ∈ (((s.pinsNow ga).manage 1 req 0 0x7001 0 0 0 (be 1 1)).emit (.access req 0x7001 0 0 0)).out :=
    List.mem_append_right _ (List.mem_singleton.mpr rfl)
  generalize ((s.pinsNow ga).manage 1 req 0 0x7001 0 0 0 (be 1 1)).emit (.access req 0x7001 0 0 0) = v at *
  obtain ⟨asked, state, -, -, out⟩ := State.askReset_kept service'
  exact does_of_next next ⟨out.subset sent, asked, state⟩

/-! ## The blade pairs and the test access port (R42, R61, R62) -/

theorem does_bladePairImbalance {a b : Nat} (on : s.keelOn = true) (room : s.flt.queue.length < 256) (much : 2000 < a + b) (apart : min a b * 5 < a + b) :
    Does (.bladePairImbalance a b) s fun t => queued s t (faultMsg 0x2B0 0x60 none false) ∧ t.pwr.pairA = a ∧ t.pwr.pairB = b := by
  have reports : (if 2000 < a + b ∧ min a b * 5 < a + b then (s.modPwr fun p => { p with pairA := a, pairB := b }).report 0x2B0 0x60 none
      else s.modPwr fun p => { p with pairA := a, pairB := b }) = (s.modPwr fun p => { p with pairA := a, pairB := b }).report 0x2B0 0x60 none :=
    if_pos ⟨much, apart⟩
  have next : exec (.bladePairImbalance a b) s = .next ((s.modPwr fun p => { p with pairA := a, pairB := b }).report 0x2B0 0x60 none) :=
    (if_pos on).trans (congrArg Host.Outcome.next reports)
  have below := State.report_of_below (s := s.modPwr fun p => { p with pairA := a, pairB := b }) on (kind := 0x60) (by decide) 0x2B0 none
  have told : queued s ((s.modPwr fun p => { p with pairA := a, pairB := b }).report 0x2B0 0x60 none) (faultMsg 0x2B0 0x60 none false) :=
    State.report_queued_of_below (s := s.modPwr fun p => { p with pairA := a, pairB := b }) on (kind := 0x60) (by decide) 0x2B0 none room
  have kept (v : State) (m : Word64) : (v.queueFault m).pwr = v.pwr := by simp
  refine does_of_next next ⟨told, ?_, ?_⟩
  · rw [below, kept]
    rfl
  · rw [below, kept]
    rfl

theorem exec_bladePairImbalance_even {a b : Nat} (on : s.keelOn = true) (even : a + b ≤ 2000 ∨ a + b ≤ min a b * 5) :
    exec (.bladePairImbalance a b) s = .next (s.modPwr fun p => { p with pairA := a, pairB := b }) :=
  (if_pos on).trans (congrArg Host.Outcome.next (if_neg (by omega)))

theorem does_extestLoad (on : s.keelOn = true) (service : s.inService = true) : Does (.extestLoad .extest) s fun t =>
    t.pwr.tap = .bypass ∧ Out.jtag .bypass ∈ t.out := by
  have next : exec (.extestLoad .extest) s = .next (((s.modPwr fun p => { p with tap := .bypass }).emit (.jtag .bypass)).security 8 0xFF 0 0) :=
    (if_neg (by simp [on])).trans (if_pos ⟨service, rfl⟩)
  have sent : Out.jtag .bypass ∈ ((s.modPwr fun p => { p with tap := .bypass }).emit (.jtag .bypass)).out :=
    List.mem_append_right _ (List.mem_singleton.mpr rfl)
  have kept (v : State) : (v.security 8 0xFF 0 0).pwr.tap = v.pwr.tap := by simp
  exact does_of_next next ⟨kept _, (State.security_steady (Steady.refl _) ..).out.subset sent⟩

theorem exec_extestLoad_plain {i : TapInstr} (on : s.keelOn = true) (plain : s.inService = false ∨ i ≠ .extest) :
    exec (.extestLoad i) s = .next ((s.modPwr fun p => { p with tap := i }).emit (.jtag i)) := by
  refine (if_neg (by simp [on])).trans (if_neg fun ⟨service, extest⟩ => ?_)
  rcases plain with out | other
  · exact Bool.false_ne_true (out.symm.trans service)
  · exact other extest

/-! ## Core power (R42, R317) -/

theorem State.coreOff_service (service : s.inService = true) : s.coreOff.pwr.reqOff = true ∧ s.coreOff.cause 6 = true ∧ s.coreOff.easy.thenDown = true
    ∧ s.coreOff.pwr.state = .easyAll ∧ s.coreOff.wb.flushing = true := by
  have service' : (s.modPwr fun p => { p with reqOff := true }).inService = true := service
  have reqOff : (s.modPwr fun p => { p with reqOff := true }).pwr.reqOff = true := rfl
  have off : s.coreOff = ((s.modPwr fun p => { p with reqOff := true }).easyEnter 6).coreDown := if_pos (by rw [service']; rfl)
  rw [off]
  generalize s.modPwr (fun p => { p with reqOff := true }) = v at *
  obtain ⟨state, flushing⟩ := State.easyEnter_begins service' 6
  have quiescing := State.easyEnter_quiescing service' (bitNo := 6) (by decide)
  have cause : (v.easyEnter 6).cause 6 = true := State.easyEnter_cause v (by decide)
  have kept : (v.easyEnter 6).pwr.reqOff = v.pwr.reqOff := by simp
  generalize v.easyEnter 6 = w at *
  have down : w.coreDown = w.modEasy fun e => { e with thenDown := true } := by
    have flushed : (w.modEasy fun e => { e with thenDown := true }).easyFlushed = false := by
      rw [State.easyFlushed, State.modEasy_easy, quiescing]
      rfl
    rw [State.coreDown]
    rw [if_neg (by rw [State.modEasy_pwr, state]; decide), if_neg (by rw [flushed]; simp), if_neg (by rw [State.modEasy_pwr, state]; decide)]
  rw [down]
  exact ⟨kept.trans reqOff, cause, rfl, state, flushing⟩

theorem does_corePowerOffRequest (cox : s.coxUp = true) (service : s.inService = true) : Does .corePowerOffRequest s fun t =>
    t.pwr.reqOff = true ∧ t.cause 6 = true ∧ t.easy.thenDown = true ∧ t.pwr.state = .easyAll ∧ t.wb.flushing = true ∧ accepted byOperator 0x5080 8 t := by
  have next : exec .corePowerOffRequest s = .next ((((s.manage 1 byOperator 0 0x5080 8 0 0 (be 1 1)).coreOff).notifyObject 0x5080 8).emit
      (.access byOperator 0x5080 8 0 0)) := by
    refine (accessed_of_up cox _).trans ?_
    rw [State.coreOffOp, State.answer, respondAccess_eq _ _ _ _ _ _ (by decide)]
  have service' : (s.manage 1 byOperator 0 0x5080 8 0 0 (be 1 1)).inService = true := by simpa using service
  have kept (v : State) : (v.notifyObject 0x5080 8).pwr = v.pwr ∧ (v.notifyObject 0x5080 8).easy = v.easy ∧ (v.notifyObject 0x5080 8).wb = v.wb := by
    refine ⟨?_, ?_, ?_⟩ <;> simp
  obtain ⟨reqOff, cause, down, state, flushing⟩ := State.coreOff_service service'
  generalize (s.manage 1 byOperator 0 0x5080 8 0 0 (be 1 1)).coreOff = v at *
  obtain ⟨pwr, easy, wb⟩ := kept v
  generalize v.notifyObject 0x5080 8 = w at *
  refine does_of_next next ⟨?_, ?_, ?_, ?_, ?_, accepted_emit ..⟩
  · exact (congrArg PowerS.reqOff pwr).trans reqOff
  · exact (congrArg (fun e : EasyS => e.causes.getLsbD 6) easy).trans cause
  · exact (congrArg EasyS.thenDown easy).trans down
  · exact (congrArg PowerS.state pwr).trans state
  · exact (congrArg WbS.flushing wb).trans flushing

/-- The core is starting, and not only its media. -/
def Starting (s : State) : Prop := s.pwr.state = .coreStart ∧ s.pwr.mediaOnlyUp = false

theorem Starting.keep {v : State} (starting : Starting s) (state : v.pwr.state = s.pwr.state) (media : v.pwr.mediaOnlyUp = s.pwr.mediaOnlyUp) : Starting v :=
  ⟨state.trans starting.1, media.trans starting.2⟩

theorem State.lossBound_of_starting (starting : Starting s.boundSync) : s.lossBound = s.boundSync := by
  obtain ⟨state, -⟩ := starting
  rw [State.lossBound]
  generalize s.boundSync = v at *
  have out : v.inService = false ∧ v.inEasy = false := by
    rw [State.inService, State.inEasy, state]
    exact ⟨rfl, by simp⟩
  exact if_neg (by rw [out.1, out.2]; simp)

theorem Starting.linkDown (starting : Starting s) (h : Nat) : Starting (s.linkDown h) := by
  have pwr := (State.linkReset_kept h s).1
  have reset : Starting (s.linkReset h) := starting.keep (by rw [pwr]) (by rw [pwr])
  have posted : Starting ((s.linkReset h).lossPosted h (s.linkUp h)) := by
    rw [State.lossPosted]
    split
    case isTrue => exact reset.keep (by simp) (by simp)
    case isFalse => exact reset
  have bound := posted.keep (v := ((s.linkReset h).lossPosted h (s.linkUp h)).boundSync) (by simp) (by simp)
  rw [State.linkDown_eq]
  split
  case isTrue => exact starting
  case isFalse =>
    rw [State.lossBound_of_starting bound]
    exact bound

theorem Starting.when (starting : Starting s) {c : Bool} {f : State → State} (kept : Starting (f s)) : Starting (s.when c f) := by
  cases c
  · exact starting
  · exact kept

theorem Starting.linksSync (starting : Starting s) : Starting s.linksSync := by
  rw [State.linksSync]
  refine forEach_keeps (P := Starting) _ (fun p v kept => ?_) starting
  have first : Starting (v.when (v.linkHeld (2 * p)) (State.linkDown (2 * p))) := kept.when (kept.linkDown _)
  have second := first.when (c := (v.when (v.linkHeld (2 * p)) (State.linkDown (2 * p))).linkHeld (2 * p + 1)) (first.linkDown (2 * p + 1))
  have trained (w : State) : (((w.applyMode p).train (2 * p)).train (2 * p + 1)).pwr.state = w.pwr.state
      ∧ (((w.applyMode p).train (2 * p)).train (2 * p + 1)).pwr.mediaOnlyUp = w.pwr.mediaOnlyUp := by
    constructor <;> simp
  exact second.keep (trained _).1 (trained _).2

theorem State.mediaBack_of_starting (starting : Starting s) : s.mediaBack = s :=
  if_neg fun back => Bool.false_ne_true (starting.2.symm.trans back.1)

theorem State.mapLoad_power (s : State) : s.mapLoad.pwr.state = s.pwr.state := by
  have loaded := (State.EasySame.refl s).loadMaps.2
  unfold State.mapLoad
  extract_lets clean replayed noted counted
  have kept : noted.pwr.state = s.pwr.state := by simpa [noted, replayed] using loaded
  split
  case isTrue => exact kept
  case isFalse =>
    have marked : (counted.markSuspects.modStr fun x => { x with phase := .fullScan }).pwr.state = counted.pwr.state := by simp
    exact marked.trans (by simpa [counted] using kept)

theorem Starting.mapStep (starting : Starting s) : Starting s.mapStep := by
  rw [State.mapStep]
  split
  case isTrue =>
    have loaded : Starting s.mapLoad := starting.keep (State.mapLoad_power s) (by simp)
    rw [State.mediaBack_of_starting loaded]
    exact loaded
  case isFalse =>
    rw [State.mediaBack_of_starting starting]
    exact starting

theorem Starting.corePowered (starting : Starting s) : Starting s.corePowered := by
  rw [State.corePowered]
  split
  case isTrue => exact Starting.mapStep (starting.keep rfl rfl)
  case isFalse => exact Starting.mapStep (Starting.linksSync (starting.keep (by simp) (by simp)))

theorem Starting.advance (starting : Starting s) (fuel : Nat) : Starting (s.advance fuel) := by
  induction fuel generalizing s with
  | zero => exact starting
  | succ n ih =>
    rw [State.advance]
    split
    case isFalse => exact starting
    case isTrue =>
      rw [if_neg (by rw [starting.2]; simp)]
      split
      case isTrue => exact starting.corePowered
      case isFalse => exact ih (starting.keep (by simp) (by simp))

theorem State.coreStart_kept (s : State) : s.coreStart.pwr.state = .coreStart ∧ s.coreStart.pwr.reqOff = s.pwr.reqOff ∧ s.coreStart.bank.boost = true := by
  refine ⟨?_, by simp, ?_⟩
  · unfold State.coreStart
    extract_lets now asked easy bank noted
    have begun : Starting (noted.powerEvent 6) := by
      have starting : Starting noted := ⟨rfl, rfl⟩
      exact starting.keep (by simp) (by simp)
    exact (begun.advance 17).1
  · unfold State.coreStart
    extract_lets now asked easy bank noted
    have kept (v : State) : ((v.powerEvent 6).advance 17).bank.boost = v.bank.boost := by simp
    exact kept noted


theorem State.canStart_of_same {v : State} (can : s.canStart = true) (pwr : v.pwr = s.pwr) (cox : v.cox = s.cox) (str : v.str = s.str) :
    v.canStart = true := by
  rw [← can, State.canStart, State.canStart, State.coxUp, State.coxUp, State.keelOn, State.keelOn, State.haltLow, State.haltLow, pwr, cox, str]

theorem does_corePowerOnRequest (can : s.canStart = true) : Does .corePowerOnRequest s fun t => t.pwr.state = .coreStart ∧ t.pwr.reqOff = false
    ∧ t.bank.boost = true ∧ accepted byOperator 0x5080 8 t := by
  have facts := can
  simp only [State.canStart, Bool.and_eq_true, Bool.not_eq_true', decide_eq_true_eq] at facts
  obtain ⟨⟨⟨⟨⟨⟨⟨⟨⟨standby, cox⟩, -⟩, latched⟩, halt⟩, hold⟩, -⟩, -⟩, -⟩, -⟩ := facts
  have asked : (s.modPwr fun p => { p with reqOff := false }).canStart = true := can
  have reqOff : (s.modPwr fun p => { p with reqOff := false }).pwr.reqOff = false := rfl
  have free : ¬ (s.pwr.state = .standby ∧ (s.pwr.latch.latched ∨ s.haltLow ∨ s.pwr.haltHold)) := by
    rw [latched, halt, hold]
    simp
  have kept (v : State) : ((v.manage 1 byOperator 0 0x5080 8 0 0 (be 1 0)).notifyObject 0x5080 8).pwr = v.pwr
      ∧ ((v.manage 1 byOperator 0 0x5080 8 0 0 (be 1 0)).notifyObject 0x5080 8).cox = v.cox
      ∧ ((v.manage 1 byOperator 0 0x5080 8 0 0 (be 1 0)).notifyObject 0x5080 8).str = v.str := by
    refine ⟨?_, ?_, ?_⟩ <;> simp
  have next : exec .corePowerOnRequest s = .next
      (((((s.modPwr fun p => { p with reqOff := false }).manage 1 byOperator 0 0x5080 8 0 0 (be 1 0)).notifyObject 0x5080 8).coreStart).emit
        (.access byOperator 0x5080 8 0 0)) := by
    refine (accessed_of_up cox _).trans ?_
    rw [State.coreOnOp, if_neg free]
    generalize (s.modPwr fun p => { p with reqOff := false }) = v at *
    obtain ⟨pwr, cox', str⟩ := kept v
    dsimp only
    rw [if_pos (State.canStart_of_same asked pwr cox' str), State.answer, respondAccess_eq _ _ _ _ _ _ (by decide)]
  generalize (s.modPwr fun p => { p with reqOff := false }) = v at *
  obtain ⟨pwr, -, -⟩ := kept v
  generalize (v.manage 1 byOperator 0 0x5080 8 0 0 (be 1 0)).notifyObject 0x5080 8 = w at *
  obtain ⟨state, off, boost⟩ := State.coreStart_kept w
  refine does_of_next next ⟨state, ?_, boost, accepted_emit ..⟩
  exact off.trans ((congrArg PowerS.reqOff pwr).trans reqOff)

theorem exec_corePowerOnRequest_latched (cox : s.coxUp = true) (standby : s.pwr.state = .standby) (latched : s.pwr.latch.latched = true) :
    exec .corePowerOnRequest s = .next (s.emit (.access byOperator 0x5080 8 0x07 0)) := by
  refine (accessed_of_up cox _).trans ?_
  rw [State.coreOnOp, if_pos ⟨standby, .inl latched⟩, State.answer, respondAccess_eq _ _ _ _ _ _ (by decide)]
end
end Sys2Proof.Machine
open Sys2Proof Sys2Proof.Machine

/-- Settles O47, by each request's own way: the Easy-all that a power-off or a reset begins, and the start that a power-on begins. -/
theorem requestsAndSideband : Obligations.RequestsAndSideband := by
  intro s
  refine ⟨does_corePowerOffRequest, does_corePowerOnRequest, exec_corePowerOnRequest_latched, ?_, ?_, ?_, ?_, ?_, ?_, ?_⟩
  case refine_1 => exact fun us ga service long => does_modrstAssert service long ga
  case refine_2 => exact fun us ga short => if_pos short
  case refine_3 => exact fun ga unasked => exec_modrstRelease_unasked unasked ga
  case refine_4 => exact fun ga asked standby seq => does_modrstRelease asked standby seq ga
  case refine_5 =>
    exact fun req ga cox may => ⟨fun service => does_moduleReset cox may service ga, fun v other => exec_moduleReset_refused cox may other ga⟩
  case refine_6 =>
    exact fun a b on room => ⟨fun large uneven => does_bladePairImbalance on room large uneven, fun even => exec_bladePairImbalance_even on even⟩
  case refine_7 => exact fun on => ⟨fun service => does_extestLoad on service, fun i plain => exec_extestLoad_plain on plain⟩
end

section
/-! PROOFS. The parameter store's pages, the Logbook and its snapshots, and Tally's sample (O54). -/
namespace Sys2Proof.Machine

/-! ## Staging (R324, R327) -/

section
variable {s : State}

/-- The record that is staged next. -/
def State.nextRec (body : LogBody) (s : State) : LogRec := { seq := s.log.next, time := s.tim.opTime, cycles := s.tim.cycles, body := body }

theorem State.reserveSeq_log (s : State) : s.reserveSeq.log.staged = s.log.staged ∧ s.reserveSeq.log.next = s.log.next := by
  unfold State.reserveSeq
  split
  case isTrue => exact ⟨by simp, by simp⟩
  case isFalse => exact ⟨rfl, rfl⟩

theorem State.stage_fits {body : LogBody} (fits : s.ringUsed + body.size ≤ (if body.privileged then 131072 else 126976)) :
    (s.stage body).2.log.staged = s.log.staged ++ [s.nextRec body] := by
  obtain ⟨staged, next⟩ := State.reserveSeq_log s
  have tim : s.reserveSeq.tim = s.tim := by simp
  rw [State.stage, if_pos fits]
  generalize s.reserveSeq = v at *
  show v.log.staged ++ [{ seq := v.log.next, time := v.tim.opTime, cycles := v.tim.cycles, body := body }] = _
  rw [staged, next, tim]
  rfl

theorem State.stage_room {body : LogBody} (room : s.ringUsed + body.size ≤ 126976) : (s.stage body).2.log.staged = s.log.staged ++ [s.nextRec body] :=
  State.stage_fits (by split <;> omega)

theorem State.stage_cases (body : LogBody) (s : State) :
    (s.stage body).2.log.staged = s.log.staged ++ [s.nextRec body] ∨ (s.stage body).2.log.staged = s.log.staged := by
  by_cases fits : s.ringUsed + body.size ≤ (if body.privileged then 131072 else 126976)
  case pos => exact .inl (State.stage_fits fits)
  case neg =>
    refine .inr ?_
    rw [State.stage, if_neg fits]
    rfl

theorem State.stage_prefix (body : LogBody) (s : State) : s.log.staged <+: (s.stage body).2.log.staged := by
  rcases State.stage_cases body s with added | same
  · rw [added]
    exact List.prefix_append ..
  · rw [same]

theorem State.logE_staged (body : LogBody) (s : State) : (s.logE body).2.log.staged = (s.stage body).2.log.staged := by
  rw [State.logE]
  split
  case isTrue => rfl
  case isFalse =>
    have kept (want : SubSlot → Bool) (content : List Byte) (v : State) : (v.notify want content).log = v.log := by simp
    exact congrArg LogS.staged (kept ..)

theorem State.record_room {body : LogBody} (room : s.ringUsed + body.size ≤ 126976) : (s.record body).log.staged = s.log.staged ++ [s.nextRec body] :=
  (State.logE_staged body s).trans (State.stage_room room)

theorem State.record_prefix (body : LogBody) (s : State) : s.log.staged <+: (s.record body).log.staged := by
  rw [State.record, State.logE_staged]
  exact State.stage_prefix body s

theorem State.record_used (body : LogBody) (s : State) : (s.record body).ringUsed ≤ s.ringUsed + body.size := by
  have staged := State.logE_staged body s
  rw [State.record, State.ringUsed, staged]
  rcases State.stage_cases body s with added | same
  · rw [added, List.map_append, List.sum_append]
    exact Nat.le_of_eq rfl
  · rw [same]
    exact Nat.le_add_right ..

/-! ## Snapshots (R332–R337) -/

theorem State.fire_prefix (n trigger cause : Nat) (s : State) : s.log.staged <+: (s.fire n trigger cause).log.staged := by
  rw [State.fire]
  dsimp only
  split
  case isTrue => exact List.prefix_rfl
  case isFalse =>
    exact forEach_keeps (P := fun v => s.log.staged <+: v.log.staged) _ (fun p v kept => kept.trans (State.stage_prefix ..)) List.prefix_rfl

theorem State.fire_empty {n : Nat} (trigger cause : Nat) (set : (Tab.rd {} s.log.defs n).trigger ≠ 0) (empty : (Tab.rd {} s.log.defs n).objs = []) :
    s.fire n trigger cause = (s.stage (.snapshot n trigger 0 0 cause [])).2 := by
  rw [State.fire]
  dsimp only
  rw [if_neg set, empty]
  rfl

theorem State.fire_empty_staged {n : Nat} (trigger cause : Nat) (set : (Tab.rd {} s.log.defs n).trigger ≠ 0) (empty : (Tab.rd {} s.log.defs n).objs = [])
    (room : s.ringUsed ≤ 126900) : ∃ r ∈ (s.fire n trigger cause).log.staged, r.body = .snapshot n trigger 0 0 cause [] := by
  have size : (LogBody.snapshot n trigger 0 0 cause []).size = 24 := by simp [LogBody.size, LogBody.bytes, pad8]
  rw [State.fire_empty trigger cause set empty, State.stage_room (by omega)]
  exact ⟨_, List.mem_append_right _ (List.mem_singleton.mpr rfl), rfl⟩

/-! ## The parameter store (R406–R411) -/

theorem does_pageWriteDone_verified {w : PageWrite} {rest : List PageWrite} (cox : s.coxUp = true) (front : s.par.queue = w :: rest) :
    Does (.pageWriteDone true) s fun t => t.par.queue = (w.after w.firstBad).toList ++ rest := by
  have next : exec (.pageWriteDone true) s = .next ((s.countPages (pageArea w.page) 1).frontWrite (w.after w.firstBad)) := by
    rw [exec, execPageWriteDone, front]
    exact if_neg (by simp [cox])
  refine does_of_next next ?_
  show (w.after w.firstBad).toList ++ s.par.queue.tail = _
  rw [front]
  rfl

theorem does_pageWriteDone_again {w : PageWrite} {rest : List PageWrite} (cox : s.coxUp = true) (front : s.par.queue = w :: rest)
    (first : w.failedOnce = false) : Does (.pageWriteDone false) s fun t => t.par.queue = { w with failedOnce := true } :: rest := by
  have next : exec (.pageWriteDone false) s = .next ((s.countPages (pageArea w.page) 1).frontWrite (some { w with failedOnce := true })) := by
    rw [exec, execPageWriteDone, front]
    refine (if_neg (by simp [cox])).trans ?_
    rw [first]
    rfl
  refine does_of_next next ?_
  show { w with failedOnce := true } :: s.par.queue.tail = _
  rw [front]
  rfl

/-- The page's write moves to a spare, and the page is retired. -/
def State.pageRetired (w : PageWrite) (s : State) : State :=
  ((s.frontWrite (some { w with page := 1024 + (1024 - s.par.spares), failedOnce := false })).modPar fun p =>
    { p with retired := p.retired ++ [w.page], spares := p.spares - 1 }).storeWrite 64

theorem State.pageFailed_spare {w : PageWrite} (spare : 0 < s.par.spares) : s.pageFailed w = (s.pageRetired w).report 0x2F3 0x87 (some w.page) :=
  if_pos spare

theorem State.pageRetired_kept (w : PageWrite) (s : State) : (s.pageRetired w).flt = s.flt ∧ (s.pageRetired w).pwr = s.pwr := by
  unfold State.pageRetired
  exact ⟨by simp, by simp⟩

theorem State.storeWrite_par (page : Nat) (s : State) : (s.storeWrite page).par.spares = s.par.spares ∧ (s.storeWrite page).par.retired = s.par.retired :=
  ⟨rfl, rfl⟩

theorem State.pageRetired_par (w : PageWrite) (s : State) : (s.pageRetired w).par.spares = s.par.spares - 1
    ∧ (s.pageRetired w).par.retired = s.par.retired ++ [w.page] := by
  unfold State.pageRetired
  rw [(State.storeWrite_par ..).1, (State.storeWrite_par ..).2]
  exact ⟨rfl, rfl⟩

theorem does_pageWriteDone_retired {w : PageWrite} {rest : List PageWrite} (cox : s.coxUp = true) (front : s.par.queue = w :: rest)
    (second : w.failedOnce = true) (spare : 0 < s.par.spares) (room : s.flt.queue.length < 256) : Does (.pageWriteDone false) s fun t =>
      t.par.spares = s.par.spares - 1 ∧ t.par.retired = s.par.retired ++ [w.page] ∧ queued s t (faultMsg 0x2F3 0x87 (some w.page) false) := by
  have next : exec (.pageWriteDone false) s = .next (((s.countPages (pageArea w.page) 1).pageRetired w).report 0x2F3 0x87 (some w.page)) := by
    rw [exec, execPageWriteDone, front]
    refine (if_neg (by simp [cox])).trans ?_
    rw [second]
    exact congrArg Host.Outcome.next (State.pageFailed_spare (s := s.countPages (pageArea w.page) 1) spare)
  have flt : (s.countPages (pageArea w.page) 1).flt = s.flt ∧ (s.countPages (pageArea w.page) 1).pwr = s.pwr := ⟨rfl, rfl⟩
  have par : (s.countPages (pageArea w.page) 1).par.spares = s.par.spares ∧ (s.countPages (pageArea w.page) 1).par.retired = s.par.retired := ⟨rfl, rfl⟩
  generalize s.countPages (pageArea w.page) 1 = u at *
  obtain ⟨queue, pwr⟩ := State.pageRetired_kept w u
  obtain ⟨spares, retired⟩ := State.pageRetired_par w u
  rw [flt.1] at queue
  rw [flt.2] at pwr
  rw [par.1] at spares
  rw [par.2] at retired
  generalize u.pageRetired w = v at *
  have on : v.keelOn = true := by
    rw [State.keelOn, pwr]
    exact State.keelOn_of_coxUp cox
  have told := State.report_queued_of_below on (kind := 0x87) (by decide) 0x2F3 (some w.page) (by rw [queue]; exact room)
  rw [queued, queue] at told
  have kept : (v.report 0x2F3 0x87 (some w.page)).par.spares = v.par.spares ∧ (v.report 0x2F3 0x87 (some w.page)).par.retired = v.par.retired := by
    constructor <;> simp
  refine does_of_next next ⟨?_, ?_, told⟩
  · exact kept.1.trans spares
  · exact kept.2.trans retired

theorem does_operatingTimeCellWrite (cox : s.coxUp = true) (free : s.par.bp ≠ 3) : Does .operatingTimeCellWrite s fun t => t.tim = { s.tim with
    cellDue := max s.tim.cellDue s.tim.opTime + 32768, cellWrites := s.tim.cellWrites + 1,
    timeCells := s.tim.timeCells.set (s.tim.cellWrites % 32) (some (max s.tim.cellDue s.tim.opTime + 32768)) } :=
  does_of_next (if_pos ⟨cox, free⟩) rfl

theorem does_blockProtectionWrite {v : Nat} (cox : s.coxUp = true) (known : v = 1 ∨ v = 2) (free : s.par.bp ≠ 3) :
    Does (.blockProtectionWrite v) s fun t => t.par.bp = v ∧ accepted byCustodian 0x6100 2 t := by
  have op : s.protectOp byCustodian v = (((s.manage 1 byCustodian 0 0x6100 2 0 0 (be 1 v)).modPar fun p => { p with bp := v }).notifyObject 0x6100 2).answer 0x00 :=
    (if_neg (by omega)).trans (if_neg free)
  have kept (w : State) : (w.notifyObject 0x6100 2).par = w.par := by simp
  refine does_of_next (accessed_of_up cox _) ?_
  rw [op, State.answer, respondAccess_eq _ _ _ _ _ _ (by decide)]
  exact ⟨congrArg ParamS.bp (kept _), accepted_emit ..⟩

/-! ## The Logbook's areas (R323–R327, R338–R341) -/

/-- The oldest staged record is written to area C, and to area F while that takes records. -/
def State.writtenOut (r : LogRec) (rest : List LogRec) (s : State) : State :=
  let toF := decide (s.log.areaF.length < 4096) && s.log.clearing.isNone
  let copies := 1 + bit toF
  (s.modLog fun l =>
    { l with
      staged := rest, areaC := l.areaC ++ [r], lastDurable := r.seq
      areaF := if toF then l.areaF ++ [r] else l.areaF
      counts := modNth l.counts 1 (· + r.body.size * copies) }).modFls fun f => { f with counts := modNth f.counts 0 (· + r.body.size / 8 * copies) }

theorem State.writeOutOne_eq {r : LogRec} {rest : List LogRec} (staged : s.log.staged = r :: rest) : s.writeOutOne = (s.writtenOut r rest).eraseAhead := by
  rw [State.writeOutOne, staged]
  rfl

theorem State.eraseAhead_kept (s : State) : s.eraseAhead.log.staged = s.log.staged ∧ s.eraseAhead.log.lastDurable = s.log.lastDurable
    ∧ s.eraseAhead.log.lostNow = s.log.lostNow ∧ s.eraseAhead.log.areaF = s.log.areaF
    ∧ (sectorsFor 0 s.log.areaC ≤ 376 → s.eraseAhead.log.areaC = s.log.areaC) := by
  unfold State.eraseAhead
  split
  case isTrue full => exact ⟨rfl, rfl, rfl, rfl, fun roomy => absurd full.1 (by omega)⟩
  case isFalse => exact ⟨rfl, rfl, rfl, rfl, fun _ => rfl⟩

theorem does_logbookWriteOut {r : LogRec} {rest : List LogRec} (cox : s.coxUp = true) (free : s.par.bp ≠ 3) (staged : s.log.staged = r :: rest)
    (whole : s.log.lostNow = 0) : Does (.logbookWriteOut 1) s fun t => t.log.staged = rest ∧ t.log.lastDurable = r.seq
      ∧ (sectorsFor 0 (s.log.areaC ++ [r]) ≤ 376 → t.log.areaC = s.log.areaC ++ [r])
      ∧ (s.log.areaF.length < 4096 → s.log.clearing = none → t.log.areaF = s.log.areaF ++ [r]) := by
  obtain ⟨kept, durable, lost, areaF, areaC⟩ := State.eraseAhead_kept (s.writtenOut r rest)
  have one : min 1 s.log.staged.length = 1 := by simp [staged]
  have next : exec (.logbookWriteOut 1) s = .next (s.writtenOut r rest).eraseAhead := by
    refine (if_pos ⟨cox, free⟩).trans (congrArg Host.Outcome.next ?_)
    rw [one, State.writeOut, State.writeOut, State.writeOutOne_eq staged]
    exact if_neg fun lossy => lossy.1 (lost.trans whole)
  refine does_of_next next ⟨kept, durable, areaC, fun few idle => areaF.trans ?_⟩
  show (if decide (s.log.areaF.length < 4096) && s.log.clearing.isNone then s.log.areaF ++ [r] else s.log.areaF) = _
  exact if_pos (by simp [few, idle])

theorem does_stagingLoss (lossy : s.log.lostNow ≠ 0) (room : s.ringUsed < 65536) : Does .stagingLoss s fun t => t.log.lostNow = 0
    ∧ ∃ r, t.log.staged = s.log.staged ++ [r] ∧ r.body = .stagingLoss s.log.lostNow s.log.lostFirst := by
  have size : (LogBody.stagingLoss s.log.lostNow s.log.lostFirst).size = 32 := by simp [LogBody.size, LogBody.bytes, pad8, zeros]
  have next : exec .stagingLoss s = .next ((s.record (.stagingLoss s.log.lostNow s.log.lostFirst)).modLog fun l => { l with lostNow := 0, lostFirst := 0 }) :=
    congrArg Host.Outcome.next (if_pos ⟨lossy, room⟩)
  have staged := State.record_room (s := s) (body := .stagingLoss s.log.lostNow s.log.lostFirst) (by omega)
  generalize s.record (.stagingLoss s.log.lostNow s.log.lostFirst) = v at *
  exact does_of_next next ⟨rfl, _, staged, rfl⟩

theorem State.readWindow_out (holder : Nat) (s : State) : (s.readWindow holder).2.out = s.out := by
  have moved (a q : Nat) : (s.setCursor holder a q).out = s.out := by simp
  rw [State.readWindow]
  generalize s.cursor holder = at'
  obtain ⟨area, q⟩ := at'
  dsimp only
  split
  case isTrue => rfl
  case isFalse =>
    split
    case isTrue => exact moved ..
    case isFalse =>
      split
      case h_1 => exact moved ..
      case h_2 => rfl

theorem does_windowRead (cox : s.coxUp = true) (holder : Nat) :
    Does (.windowRead holder) s fun t => t.out = s.out ++ [.wop holder 5 0 0 (s.readWindow holder).1] := by
  refine does_of_next (accessed_of_up cox _) ?_
  show (s.readWindow holder).2.out ++ _ = _
  rw [State.readWindow_out]
  rfl

theorem does_areaFClear {req : Req} {n : Nat} (cox : s.coxUp = true) (may : mayWrite 0x4100 3 req = 0) (idle : s.log.clearing = none)
    (free : s.freeSlot = some n) : Does (.areaFClear req) s fun t =>
      t.log.clearing = some (n, 256) ∧ t.log.areaF = s.log.areaF ∧ accepted req 0x4100 3 t := by
  have kept (o : FlashOp) (v : State) : (v.flashAsk o).log = v.log := by simp
  have started : (s.ticketStart req 0x4100 3).2.log.areaF = s.log.areaF := by simp
  have op : s.clearFOp req = _ := if_neg (by simp [idle])
  refine does_of_next (accessed_of_up cox _) ?_
  rw [guarded_of_may _ may, op, respondAccess_deferred free]
  generalize (s.ticketStart req 0x4100 3).2 = v at *
  exact ⟨congrArg LogS.clearing (kept ..), (congrArg LogS.areaF (kept ..)).trans started, accepted_emit ..⟩

theorem does_snapshotDefinitionWrite {d trigger param : Nat} {objs : List ObjRef} (cox : s.coxUp = true) (known : d ≤ 3)
    (ok : snapParamOk trigger param = true) (few : objs.length ≤ 32) (allowed : objs.all snapAllowed = true) (unlocked : s.configLocked = false)
    (idle : s.storeBusy = false) : Does (.snapshotDefinitionWrite d trigger param objs) s fun t =>
      Tab.rd {} t.log.defs d = { trigger := trigger, param := param, objs := objs } ∧ accepted byOperator 0x4120 d t := by
  have kept (v : State) : (v.notifyObject 0x4120 d).log = v.log := by simp
  have op : s.snapOp byOperator d trigger param objs = _ :=
    (if_neg (by omega)).trans ((if_neg (by simp only [ok, allowed]; simpa using few)).trans (State.putRecord_eq unlocked idle ..))
  refine does_of_next (accessed_of_up cox _) ?_
  rw [op, respondAccess_eq _ _ _ _ _ _ (by decide)]
  exact ⟨(congrArg (fun l : LogS => Tab.rd {} l.defs d) (kept _)).trans (Tab.rd_set_same ..), accepted_emit ..⟩

theorem State.manage_kept (code : Nat) (req : Req) (outcome idx mem ticket sess : Nat) (value : List Byte) (s : State) :
    (s.manage code req outcome idx mem ticket sess value).log.defs = s.log.defs := by simp

theorem State.fire_defs (n trigger cause : Nat) (s : State) : (s.fire n trigger cause).log.defs = s.log.defs := by simp

theorem does_snapshotNow {d : Nat} (cox : s.coxUp = true) (known : d ≤ 3) (set : (Tab.rd {} s.log.defs d).trigger ≠ 0) :
    Does (.snapshotNow d) s fun t => s.log.staged <+: t.log.staged ∧ t.log.defs = s.log.defs
      ∧ ((Tab.rd {} s.log.defs d).objs = [] → s.ringUsed ≤ 65536 → ∃ r ∈ t.log.staged, r.body = .snapshot d 6 0 0 0 []) ∧ accepted byOperator 0x4121 0 t := by
  have managed : s.log.staged <+: (s.manage 1 byOperator 0 0x4121 0 0 0 (be 1 d)).log.staged := State.record_prefix ..
  have used : (s.manage 1 byOperator 0 0x4121 0 0 0 (be 1 d)).ringUsed ≤ s.ringUsed + 40 := by
    have size : (LogBody.management 1 byOperator 0 0x4121 0 0 0 (be 1 d)).size = 40 := by simp [LogBody.size, LogBody.bytes, pad8, zeros]
    exact size ▸ State.record_used (.management 1 byOperator 0 0x4121 0 0 0 (be 1 d)) s
  have defs := State.manage_kept 1 byOperator 0 0x4121 0 0 0 (be 1 d) s
  have op : s.fireOp byOperator d = ((s.manage 1 byOperator 0 0x4121 0 0 0 (be 1 d)).fire d 6 0).answer 0x00 :=
    (if_neg (by omega)).trans (if_neg set)
  refine does_of_next (accessed_of_up cox _) ?_
  rw [op, State.answer, respondAccess_eq _ _ _ _ _ _ (by decide)]
  generalize s.manage 1 byOperator 0 0x4121 0 0 0 (be 1 d) = v at *
  rw [← defs] at set ⊢
  exact ⟨managed.trans (State.fire_prefix ..), State.fire_defs .., fun empty room => State.fire_empty_staged 6 0 set empty (by omega), accepted_emit ..⟩

theorem does_snapshotPeriodic {d : Nat} (cox : s.coxUp = true) (periodic : (Tab.rd {} s.log.defs d).trigger = 1) :
    Does (.snapshotPeriodic d) s fun t => s.log.staged <+: t.log.staged ∧ t.out = s.out
      ∧ ((Tab.rd {} s.log.defs d).objs = [] → s.ringUsed ≤ 65536 → ∃ r ∈ t.log.staged, r.body = .snapshot d 1 0 0 0 []) :=
  does_of_next (if_pos ⟨periodic, cox⟩) ⟨State.fire_prefix .., by simp, fun empty room =>
    State.fire_empty_staged 1 0 (by rw [periodic]; decide) empty (by omega)⟩

/-! ## Tally (R324, R340) -/

/-- The listed counts that are not 0. -/
def tallied (f : Nat → Nat) (keys : List Nat) : Tab Nat := keys.filterMap fun k => if f k = 0 then none else some (k, f k)

theorem rd_tallied_above {f : Nat → Nat} {keys : List Nat} {k : Nat} (above : ∀ j ∈ keys, k < j) : Tab.rd 0 (tallied f keys) k = 0 := by
  induction keys with
  | nil => rfl
  | cons j rest ih =>
    have later := ih fun i listed => above i (List.mem_cons_of_mem _ listed)
    have before := above j (List.mem_cons_self ..)
    by_cases zero : f j = 0
    · rw [tallied, List.filterMap_cons_none (by simp [zero])]
      exact later
    · rw [tallied, List.filterMap_cons_some (b := (j, f j)) (by simp [zero])]
      exact (if_neg (by omega)).trans (if_pos before)

theorem rd_tallied {f : Nat → Nat} {keys : List Nat} (sorted : keys.Pairwise (· < ·)) {k : Nat} (listed : k ∈ keys) : Tab.rd 0 (tallied f keys) k = f k := by
  induction keys with
  | nil => exact absurd listed List.not_mem_nil
  | cons j rest ih =>
    obtain ⟨first, others⟩ := List.pairwise_cons.mp sorted
    by_cases zero : f j = 0
    case pos =>
      rw [tallied, List.filterMap_cons_none (by simp [zero])]
      rcases List.mem_cons.mp listed with rfl | later
      · exact (rd_tallied_above first).trans zero.symm
      · exact ih others later
    case neg =>
      rw [tallied, List.filterMap_cons_some (b := (j, f j)) (by simp [zero])]
      rcases List.mem_cons.mp listed with rfl | later
      · exact if_pos rfl
      · have before := first k later
        exact (if_neg (by omega)).trans ((if_neg (by omega)).trans (ih others later))

theorem rd_tallied_range {f : Nat → Nat} {n k : Nat} (below : k < n) : Tab.rd 0 (tallied f (List.range n)) k = f k :=
  rd_tallied List.pairwise_lt_range (List.mem_range.mpr below)

/-- The counter of number k as a sample takes it: 48 bits. -/
def State.tallyNow (s : State) (k : Nat) : Nat := s.counterNow (k / 8) (k % 8) % 2 ^ 48

/-- The sum of number k, with its growth since the last sample. -/
def State.tallyGrown (s : State) (k : Nat) : Nat := Tab.rd 0 s.tly.snap k + (s.tallyNow k + 2 ^ 48 - Tab.rd 0 s.tly.latched k) % 2 ^ 48

/-- What a sample of the counters numbered by keys leaves. -/
def State.tallySampled (keys : List Nat) (s : State) : State :=
  s.modTly fun t =>
    { t with
      number := t.number + 1, time := s.tim.opTime % 2 ^ 48
      snap := tallied s.tallyGrown keys, latched := tallied s.tallyNow keys
      winStart := if t.winDiscard then rateSlots.map s.tallyGrown else t.winStart
      winDiscard := false
      wear := [s.topPeak, s.medianPeak, s.lowPeak]
      counts := modNth t.counts 0 (· + 1) }

theorem exec_tallySample (runs : s.tallyRuns = true) : exec .tallySample s = .next (s.tallySampled (List.range (blocks * 8))) := if_pos runs

theorem State.tallySampled_tly (keys : List Nat) (s : State) : (s.tallySampled keys).tly.number = s.tly.number + 1
    ∧ (s.tallySampled keys).tly.time = s.tim.opTime % 2 ^ 48 ∧ (s.tallySampled keys).tly.latched = tallied s.tallyNow keys
    ∧ (s.tallySampled keys).tly.snap = tallied s.tallyGrown keys :=
  ⟨rfl, rfl, rfl, rfl⟩

theorem does_tallySample (runs : s.tallyRuns = true) : Does .tallySample s fun t => t.tly.number = s.tly.number + 1 ∧ t.tly.time = s.tim.opTime % 2 ^ 48
    ∧ ∀ k, k < blocks * 8 → Tab.rd 0 t.tly.latched k = s.counterNow (k / 8) (k % 8) % 2 ^ 48
      ∧ Tab.rd 0 t.tly.snap k = Tab.rd 0 s.tly.snap k
        + (s.counterNow (k / 8) (k % 8) % 2 ^ 48 + 2 ^ 48 - Tab.rd 0 s.tly.latched k) % 2 ^ 48 := by
  obtain ⟨number, time, latched, snap⟩ := State.tallySampled_tly (List.range (blocks * 8)) s
  refine does_of_next (exec_tallySample runs) ⟨number, time, fun k below => ?_⟩
  rw [latched, snap, rd_tallied_range below, rd_tallied_range below]
  exact ⟨rfl, rfl⟩

theorem nth_map_range (f : Nat → Nat) {n i : Nat} (below : i < n) : nth ((List.range n).map f) i = f i := by
  simp [nth, below]

theorem does_bandwidthWindowEnd (runs : s.tallyRuns = true) (kept : s.tly.winDiscard = false) : Does .bandwidthWindowEnd s fun t =>
    t.tly.winSnap = s.tly.number ∧ t.tly.winStart = rateSlots.map (fun k => Tab.rd 0 s.tly.snap k)
      ∧ ∀ i, i < 8 → nth t.tly.rates i = (nth t.tly.winStart i - nth s.tly.winStart i) * 1000 / s.cfg 0x4200 1 :=
  does_of_next (if_pos ⟨runs, by simp [kept]⟩) ⟨rfl, rfl, fun _ below => nth_map_range _ below⟩

end
end Sys2Proof.Machine
open Sys2Proof Sys2Proof.Machine

/-- Settles O54, by each command's own branch, with what staging adds to the ring and the table that Tally samples. -/
theorem storeLogTally : Obligations.StoreLogTally := by
  intro s
  refine ⟨fun cox => ⟨?_, does_operatingTimeCellWrite cox, fun v known => does_blockProtectionWrite cox known, ?_, does_windowRead cox, ?_, ?_, ?_⟩,
    does_stagingLoss, does_tallySample, does_bandwidthWindowEnd⟩
  case refine_1 =>
    exact fun w rest front => ⟨does_pageWriteDone_verified cox front, does_pageWriteDone_again cox front, does_pageWriteDone_retired cox front⟩
  case refine_2 => exact fun r rest free staged whole => does_logbookWriteOut cox free staged whole
  case refine_3 => exact fun req n may idle free => does_areaFClear cox may idle free
  case refine_4 => exact fun d trigger param objs known ok few allowed unlocked idle => does_snapshotDefinitionWrite cox known ok few allowed unlocked idle
  case refine_5 =>
    rintro d x known rfl
    exact ⟨does_snapshotNow cox known, does_snapshotPeriodic cox⟩
end

section
/-! PROOFS. The boot flash's controller, the journal, the options, and an update up to its trial (O53). -/
namespace Sys2Proof.Machine

/-! ## The flash controller (R389–R394) -/

section
variable {s : State}

theorem State.flashKick_kept (s : State) : s.flashKick.fls.counts = s.fls.counts ∧ s.flashKick.fls.optionWords = s.fls.optionWords
    ∧ s.flashKick.fls.optionWrite = s.fls.optionWrite ∧ s.flashKick.fls.depth = s.fls.depth := by
  refine ⟨?_, ?_, ?_, ?_⟩ <;> simp

theorem State.flashKick_rest (s : State) : s.flashKick.cox = s.cox ∧ s.flashKick.flt = s.flt ∧ s.flashKick.img = s.img ∧ s.flashKick.obj = s.obj
    ∧ s.flashKick.out = s.out := by
  refine ⟨?_, ?_, ?_, ?_, ?_⟩ <;> simp

theorem State.optionWord_counts (s : State) : s.optionWord.fls.counts = s.fls.counts := by simp

/-- The last word of the options is in: they are written, and their ticket ends. -/
def State.optionsWritten (o : Options) (k : Nat) (s : State) : State :=
  (((s.modFls fun f => { f with optionWords := some o, optionWrite := none, optionCut := false }).modCox fun c => { c with optionState := 1 }).ticketDone k
    0x00 []).notifyObject 0x6010 0

theorem State.optionWord_last {o : Options} {k : Nat} (last : s.fls.optionWrite = some (o, k, 1)) : s.optionWord = s.optionsWritten o k := by
  rw [State.optionWord, last]
  exact if_neg (by decide)

theorem State.optionsWritten_kept (o : Options) (k : Nat) (s : State) : (s.optionsWritten o k).fls.optionWords = some o
    ∧ (s.optionsWritten o k).fls.optionWrite = none ∧ (s.optionsWritten o k).cox.optionState = 1 := by
  have kept (v : State) : ((v.ticketDone k 0x00 []).notifyObject 0x6010 0).fls = v.fls ∧ ((v.ticketDone k 0x00 []).notifyObject 0x6010 0).cox = v.cox := by
    constructor <;> simp
  rw [State.optionsWritten, (kept _).1, (kept _).2]
  exact ⟨rfl, rfl, rfl⟩

/-- A program's end is counted, and the controller is free. -/
def State.programOver (s : State) : State := s.modFls fun f => { f with running := none, counts := modNth f.counts 0 (· + 1) }

theorem does_flashProgramDone {c n : Nat} (five : s.fls.counts.length = 5) (runs : s.fls.running = some (.program c n)) :
    Does (.flashProgramDone true) s fun t => nth t.fls.counts 0 = nth s.fls.counts 0 + 1
      ∧ ∀ o k, s.fls.optionWrite = some (o, k, 1) → t.fls.optionWords = some o ∧ t.fls.optionWrite = none ∧ t.cox.optionState = 1 := by
  have next : exec (.flashProgramDone true) s = .next s.programOver.optionWord.flashKick := by
    rw [exec, execFlashProgramDone, runs]
    rfl
  have counted : nth s.programOver.fls.counts 0 = nth s.fls.counts 0 + 1 := nth_modNth_same (by omega) _
  have write : s.programOver.fls.optionWrite = s.fls.optionWrite := rfl
  generalize s.programOver = v at *
  obtain ⟨counts, words, written, -⟩ := State.flashKick_kept v.optionWord
  have cox := (State.flashKick_rest v.optionWord).1
  refine does_of_next next ⟨?_, fun o k last => ?_⟩
  · rw [counts, State.optionWord_counts, counted]
  · rw [words, written, cox, State.optionWord_last (write.trans last)]
    exact State.optionsWritten_kept o k v

theorem does_flashProgramDone_failed {c n : Nat} (five : s.fls.counts.length = 5) (runs : s.fls.running = some (.program c n)) (on : s.keelOn = true)
    (room : s.flt.queue.length < 256) : Does (.flashProgramDone false) s fun t => nth t.fls.counts 3 = nth s.fls.counts 3 + 1
      ∧ queued s t (faultMsg 0x2F2 0x86 (some n) false) := by
  have next : exec (.flashProgramDone false) s
      = .next (((s.programOver.modFls fun f => { f with counts := modNth f.counts 3 (· + 1) }).report 0x2F2 0x86 (some n)).optionFailed).flashKick := by
    rw [exec, execFlashProgramDone, runs]
    rfl
  have counted : nth (modNth s.programOver.fls.counts 3 (· + 1)) 3 = nth s.fls.counts 3 + 1 := by
    rw [nth_modNth_same (by simpa [State.programOver, length_modNth] using by omega)]
    exact congrArg (· + 1) (nth_modNth_ne _ (by decide) _)
  have flt : s.programOver.flt = s.flt := rfl
  have pwr : s.programOver.pwr = s.pwr := rfl
  generalize s.programOver = v at *
  have told := State.report_queued_of_below (s := v.modFls fun f => { f with counts := modNth f.counts 3 (· + 1) })
    (by rw [← on, State.keelOn, State.keelOn, ← pwr]; rfl) (kind := 0x86) (by decide) 0x2F2 (some n) (by rw [State.modFls_flt, flt]; exact room)
  have fls : ((v.modFls fun f => { f with counts := modNth f.counts 3 (· + 1) }).report 0x2F2 0x86 (some n)).fls.counts = modNth v.fls.counts 3 (· + 1) := by
    simp
  rw [queued, State.modFls_flt, flt] at told
  generalize (v.modFls fun f => { f with counts := modNth f.counts 3 (· + 1) }).report 0x2F2 0x86 (some n) = w at *
  have kept : w.optionFailed.flashKick.fls.counts = w.fls.counts ∧ w.optionFailed.flashKick.flt = w.flt := by constructor <;> simp
  refine does_of_next next ⟨?_, ?_⟩
  · rw [kept.1, fls, counted]
  · rw [queued, kept.2]
    exact told

/-- An erase's end: its sector is unflagged, and the controller is free. -/
def State.eraseOver (n : Nat) (s : State) : State :=
  s.modFls fun f =>
    { f with
      running := none, minimumRun := false, ran := 0, flags := removeNat n f.flags, counts := modNth f.counts 1 (· + 1)
      optionWords := if n = optionSector then none else f.optionWords }

theorem exec_flashEraseDone {n : Nat} (runs : s.fls.running = some (.erase n)) :
    exec (.flashEraseDone true) s = .next ((s.eraseOver n).sectorErased n).flashKick := by
  rw [exec, execFlashEraseDone, runs]
  rfl

theorem exec_flashEraseDone_goesOn {n : Nat} (runs : s.fls.running = some (.erase n)) : exec (.flashEraseDone false) s = .next s := by
  rw [exec, execFlashEraseDone, runs]
  rfl

theorem does_flashEraseDone {n : Nat} (five : s.fls.counts.length = 5) (runs : s.fls.running = some (.erase n)) :
    Does (.flashEraseDone true) s fun t => nth t.fls.counts 1 = nth s.fls.counts 1 + 1 := by
  have counted : nth (s.eraseOver n).fls.counts 1 = nth s.fls.counts 1 + 1 := nth_modNth_same (by omega) _
  have kept (v : State) : (v.sectorErased n).flashKick.fls.counts = v.fls.counts := by simp
  refine does_of_next (exec_flashEraseDone runs) ?_
  rw [kept, counted]

theorem State.flashNext_of_empty (empty : s.fls.queue = []) : s.flashNext = none := by
  rw [State.flashNext, empty]
  rfl

theorem State.flashSuspendNow_idle (idle : s.fls.running = none) : s.flashSuspendNow = s := by
  rw [State.flashSuspendNow, idle]

theorem State.flashKick_program {c n : Nat} (runs : s.fls.running = some (.program c n)) : s.flashKick = s := by
  have goesOn : s.flashSuspendNow = s := by rw [State.flashSuspendNow, runs]
  rw [State.flashKick, goesOn]
  exact if_pos (by rw [runs]; rfl)

theorem State.flashKick_idle (idle : s.fls.running = none) : s.flashKick =
    match s.flashNext with
    | some (.program c n) => s.flashStart (.program c n)
    | next =>
      match s.fls.suspended with
      | some n =>
        if s.fls.depth = 0 then
          s.modFls fun f => { f with running := some (.erase n), suspended := none, startedAt := s.tim.opTime, minimumRun := true }
        else s
      | none =>
        match next with
        | some o => s.flashStart o
        | none => s := by
  rw [State.flashKick, State.flashSuspendNow_idle idle]
  exact if_neg (by rw [idle]; simp)

theorem State.flashKick_next {c n : Nat} (idle : s.fls.running = none) (next : s.flashNext = some (.program c n)) :
    s.flashKick = s.flashStart (.program c n) := by
  rw [State.flashKick_idle idle, next]

/-- With an erase suspended a program may start; the erase stays suspended. -/
theorem State.flashKick_held {n : Nat} (idle : s.fls.running = none) (held : s.fls.suspended = some n) (asked : s.fls.depth ≠ 0)
    (long : s.fls.minimumRun = false) : s.flashKick.fls.suspended = some n ∧ s.flashKick.fls.minimumRun = false := by
  rw [State.flashKick_idle idle]
  split
  case h_1 => exact ⟨held, rfl⟩
  case h_2 =>
    rw [held]
    dsimp only
    rw [if_neg asked]
    exact ⟨held, long⟩

theorem State.flashKick_again {n : Nat} (idle : s.fls.running = none) (held : s.fls.suspended = some n) (last : s.fls.depth = 0) (empty : s.fls.queue = []) :
    s.flashKick = s.modFls fun f => { f with running := some (.erase n), suspended := none, startedAt := s.tim.opTime, minimumRun := true } := by
  rw [State.flashKick_idle idle, State.flashNext_of_empty empty, held]
  exact if_pos last

/-- The only operation that waits is a program of a sector that is not suspended: it starts. -/
theorem State.flashAsk_program {c n : Nat} (idle : s.fls.running = none) (empty : s.fls.queue = []) (whole : s.fls.suspended = none) (can : s.par.bp ≠ 3) :
    s.flashAsk (.program c n) = (s.modFls fun f => { f with queue := f.queue ++ [.program c n] }).flashStart (.program c n) := by
  have next : (s.modFls fun f => { f with queue := f.queue ++ [.program c n] }).flashNext = some (.program c n) := by
    rw [State.flashNext]
    simp [State.noPrograms, empty, whole, can]
  exact State.flashKick_next idle next

theorem does_flashEraseDone_options (runs : s.fls.running = some (.erase optionSector)) (empty : s.fls.queue = []) (whole : s.fls.suspended = none)
    (can : s.par.bp ≠ 3) : Does (.flashEraseDone true) s fun t =>
      t.fls.running = some (.program 4 optionSector) ∧ optionSector ∉ t.fls.flags ∧ t.fls.optionWords = none := by
  have next := exec_flashEraseDone runs
  have erased : (s.eraseOver optionSector).sectorErased optionSector = (s.eraseOver optionSector).flashAsk (.program 4 optionSector) := rfl
  have flags : (s.eraseOver optionSector).fls.flags = removeNat optionSector s.fls.flags := rfl
  have words : (s.eraseOver optionSector).fls.optionWords = none := rfl
  rw [erased, State.flashAsk_program rfl (by exact empty) (by exact whole) (by exact can)] at next
  generalize s.eraseOver optionSector = v at *
  rw [State.flashKick_program (c := 4) (n := optionSector) rfl] at next
  refine does_of_next next ⟨rfl, ?_, words⟩
  show optionSector ∉ v.fls.flags
  rw [flags, removeNat]
  simp

theorem State.flashSuspendNow_erase {n : Nat} (runs : s.fls.running = some (.erase n)) (asked : s.fls.depth ≠ 0) (long : s.fls.minimumRun = false) :
    s.flashSuspendNow = s.modFls fun f => { f with running := none, suspended := some n, ran := f.ran + (s.tim.opTime - f.startedAt) } := by
  rw [State.flashSuspendNow, runs]
  exact if_pos ⟨asked, by simp [long]⟩

theorem State.flashKick_suspends {n : Nat} (runs : s.fls.running = some (.erase n)) (asked : s.fls.depth ≠ 0) (long : s.fls.minimumRun = false) :
    s.flashKick.fls.suspended = some n ∧ s.flashKick.fls.minimumRun = false := by
  have stops := State.flashSuspendNow_erase runs asked long
  have kick : s.flashKick = s.flashSuspendNow.flashKick := by
    rw [State.flashKick, State.flashKick, stops]
    rfl
  rw [kick, stops]
  exact State.flashKick_held rfl rfl asked long

theorem does_flashSuspend {n : Nat} (runs : s.fls.running = some (.erase n)) (few : s.fls.depth < 7) (long : s.fls.minimumRun = false) :
    Does .flashSuspend s fun t => t.fls.depth = s.fls.depth + 1 ∧ t.fls.suspended = some n := by
  have next : exec .flashSuspend s = .next (s.modFls fun f => { f with depth := f.depth + 1 }).flashKick := if_pos few
  have stopped := State.flashKick_suspends (s := s.modFls fun f => { f with depth := f.depth + 1 }) runs (Nat.succ_ne_zero _) long
  exact does_of_next next ⟨(State.flashKick_kept _).2.2.2, stopped.1⟩

theorem State.flashKick_runs {o : FlashOp} (runs : s.fls.running = some o) (goesOn : s.fls.depth = 0) : s.flashKick = s := by
  have same : s.flashSuspendNow = s := by
    rw [State.flashSuspendNow]
    split
    case h_1 => exact if_neg (by simp [goesOn])
    case h_2 => rfl
  rw [State.flashKick, same]
  exact if_pos (by rw [runs]; rfl)

theorem does_eraseMinimumRunEnd {n : Nat} (runs : s.fls.running = some (.erase n)) : Does .eraseMinimumRunEnd s fun t =>
    t.fls.minimumRun = false ∧ (s.fls.depth ≠ 0 → t.fls.suspended = some n) := by
  have next : exec .eraseMinimumRunEnd s = .next (s.modFls fun f => { f with minimumRun := false }).flashKick := rfl
  by_cases asked : s.fls.depth = 0
  case pos =>
    have goesOn := State.flashKick_runs (s := s.modFls fun f => { f with minimumRun := false }) runs asked
    exact does_of_next (next.trans (congrArg Host.Outcome.next goesOn)) ⟨rfl, fun other => absurd asked other⟩
  case neg =>
    obtain ⟨stopped, long⟩ := State.flashKick_suspends (s := s.modFls fun f => { f with minimumRun := false }) runs asked rfl
    exact does_of_next next ⟨long, fun _ => stopped⟩

theorem does_flashResume {n : Nat} (last : s.fls.depth = 1) (idle : s.fls.running = none) (empty : s.fls.queue = []) (held : s.fls.suspended = some n) :
    Does .flashResume s fun t => t.fls.depth = 0 ∧ t.fls.running = some (.erase n) ∧ t.fls.suspended = none ∧ t.fls.minimumRun = true := by
  have next : exec .flashResume s = .next (s.modFls fun f => { f with depth := f.depth - 1 }).flashKick := rfl
  have zero : s.fls.depth - 1 = 0 := by omega
  have kick := State.flashKick_again (s := s.modFls fun f => { f with depth := f.depth - 1 }) idle held zero empty
  exact does_of_next (next.trans (congrArg Host.Outcome.next kick)) ⟨zero, rfl, rfl, rfl⟩

/-! ## The journal and the options (R395–R397) -/

theorem does_journalCompaction (cox : s.coxUp = true) (due : journalDue ≤ s.ext.journalUsed) (main : s.onBank = false) : Does .journalCompaction s fun t =>
    t.ext.journalUsed = extents + 1 ∧ t.ext.journalGen = 1 - s.ext.journalGen ∧ t.ext.pairs = s.ext.pairs :=
  does_of_next (if_pos ⟨cox, due, by simp [main]⟩) ⟨rfl, rfl, rfl⟩

theorem does_optionsWrite {req : Req} {n r b w : Nat} (g x : Bool) (cox : s.coxUp = true) (may : mayWrite 0x6010 0 req = 0) (level : r ≤ 255) (mode : b ≤ 3)
    (least : 10 ≤ w) (most : w ≤ 1000) (idle : s.fls.optionWrite = none) (free : s.freeSlot = some n) : Does (.optionsWrite req r b w g x) s fun t =>
      t.cox.options = s.cox.options ∧ accepted req 0x6010 0 t
        ∧ t.fls.optionWrite = some ({ rollbackMin := r, bpReset := b, wdtBoot := w, dbgLock := g, t1sOff := x }, n, 2) := by
  have op : s.optionsOp req { rollbackMin := r, bpReset := b, wdtBoot := w, dbgLock := g, t1sOff := x } = _ :=
    (if_neg (by dsimp only; omega)).trans (if_neg (by simp [idle]))
  have kept (o : FlashOp) (v : State) : (v.flashAsk o).cox = v.cox ∧ (v.flashAsk o).fls.optionWrite = v.fls.optionWrite := by constructor <;> simp
  have started : (s.ticketStart req 0x6010 0).2.cox = s.cox := by simp
  refine does_of_next (accessed_of_up cox _) ?_
  rw [guarded_of_may _ may, op, respondAccess_deferred free]
  generalize (s.ticketStart req 0x6010 0).2 = v at *
  exact ⟨(congrArg CoxS.options (kept ..).1).trans (congrArg CoxS.options started), accepted_emit .., (kept ..).2⟩

/-! ## Updates (R398–R401) -/

theorem State.image'_congr {t : State} (same : t.img = s.img) (b : Bool) : t.image' b = s.image' b := by
  rw [State.image', State.image', same]

theorem State.modImage_same (b : Bool) (f : ImageS → ImageS) (s : State) : (s.modImage b f).image' b = f (s.image' b) := by
  cases b <;> rfl

theorem State.modImage_other {b c : Bool} (other : c ≠ b) (f : ImageS → ImageS) (s : State) : (s.modImage b f).image' c = s.image' c := by
  cases b
  · cases c
    · exact absurd rfl other
    · rfl
  · cases c
    · rfl
    · exact absurd rfl other

theorem active_ne_spare (s : State) : s.img.activeB ≠ s.spareImage := by
  simp [State.spareImage]

theorem does_updateBegin {req : Req} {n len : Nat} (cox : s.coxUp = true) (free : s.freeSlot = some n) (steady : s.img.trial = none)
    (may : mayWrite 0x6000 16 req = 0) (least : 8192 ≤ len) (most : len ≤ 6291456)
    (unused : (s.image' s.spareImage).state = 0 ∨ (s.image' s.spareImage).state = 3 ∨ (s.image' s.spareImage).state = 4) :
    Does (.updateBegin req len) s fun t => t.img.slot = some n ∧ accepted req 0x6000 16 t
      ∧ t.image' s.spareImage = { state := 1, len := len, toErase := (len + 4095) / 4096 } ∧ t.image' s.img.activeB = s.image' s.img.activeB := by
  have op : s.updateOp req len = _ := (if_neg (by omega)).trans (if_neg (by rw [steady]; simpa [or_iff_not_imp_left] using unused))
  have asked (o : FlashOp) (v : State) : (v.flashAsk o).img = v.img := by simp
  have started : (s.ticketStart req 0x6000 16).2.img = s.img := by simp
  refine does_of_next (accessed_of_up cox _) ?_
  rw [guarded_of_may _ may, op, respondAccess_deferred free]
  generalize (s.ticketStart req 0x6000 16).2 = v at *
  refine ⟨congrArg ImagesS.slot (asked ..), accepted_emit .., ?_, ?_⟩
  · exact (State.image'_congr (asked ..) _).trans (State.modImage_same ..)
  · exact (State.image'_congr (asked ..) _).trans ((State.modImage_other (active_ne_spare s) ..).trans (State.image'_congr started _))

/-- The commit's end: the image Valid, or Invalid where its digest or signature does not check. -/
def State.committed (b pass : Bool) (n : Nat) (s : State) : State :=
  if pass then
    let s := (s.modImage b fun i => { i with state := 3 }).modFls fun f => { f with counts := modNth f.counts 0 (· + 1) }
    s.ticketDone n 0x00 []
  else (s.modImage b fun i => { i with state := 4 }).ticketDone n 0x07 []

theorem State.commitOp_eq (req : Req) (pass : Bool) (received : (s.image' s.spareImage).state = 2) (can : s.noPrograms = false) :
    s.commitOp req pass = s.deferred req 0x6000 17 (State.committed s.spareImage pass) :=
  if_neg (by simp [received, can])

theorem State.ticketDone_img (n outcome : Nat) (result : List Byte) (s : State) : (s.ticketDone n outcome result).img = s.img := by simp

theorem State.committed_image (b pass : Bool) (n : Nat) (s : State) :
    (s.committed b pass n).image' b = { s.image' b with state := if pass then 3 else 4 } := by
  cases pass
  case false => exact (State.image'_congr (State.ticketDone_img ..) b).trans (State.modImage_same ..)
  case true =>
    refine (State.image'_congr (State.ticketDone_img ..) b).trans ?_
    exact (State.image'_congr (s := s.modImage b fun i => { i with state := 3 }) rfl b).trans (State.modImage_same ..)

theorem State.committed_outcome {n : Nat} (b pass : Bool) (running : (s.slot n).state = 1) (cox : s.coxUp = true) :
    ((s.committed b pass n).slot n).outcome = if pass then 0 else 7 := by
  cases pass
  case false => exact congrArg Slot.outcome (State.ticketDone_slot (s := s.modImage b fun i => { i with state := 4 }) running cox 7 [])
  case true =>
    exact congrArg Slot.outcome (State.ticketDone_slot (s := (s.modImage b fun i => { i with state := 3 }).modFls fun f =>
      { f with counts := modNth f.counts 0 (· + 1) }) running cox 0 [])

theorem does_updateCommit {req : Req} {n : Nat} (d g : Bool) (cox : s.coxUp = true) (free : s.freeSlot = some n) (may : mayWrite 0x6000 17 req = 0)
    (received : (s.image' s.spareImage).state = 2) (can : s.noPrograms = false) : Does (.updateCommit req d g) s fun t =>
      t.image' s.spareImage = { s.image' s.spareImage with state := if d && g then 3 else 4 }
        ∧ (t.slot n).outcome = (if d && g then 0 else 7) ∧ accepted req 0x6000 17 t := by
  have started : (s.ticketStart req 0x6000 17).2.img = s.img := by simp
  have slot : ((s.ticketStart req 0x6000 17).2.slot n).state = 1 := by rw [State.ticketStart_slot free]; rfl
  have up : (s.ticketStart req 0x6000 17).2.coxUp = true := by simpa using cox
  refine does_of_next (accessed_of_up cox _) ?_
  rw [guarded_of_may _ may, State.commitOp_eq req (d && g) received can, respondAccess_deferred free]
  generalize (s.ticketStart req 0x6000 17).2 = v at *
  have image := State.committed_image s.spareImage (d && g) n v
  rw [State.image'_congr started] at image
  have outcome := State.committed_outcome s.spareImage (d && g) slot up
  generalize v.committed s.spareImage (d && g) n = w at *
  exact ⟨image, outcome, accepted_emit ..⟩

/-! ## Image data (R399, R401) -/

theorem mem_insertSorted_of_mem {j : Nat} (k : Nat) {l : List Nat} (listed : j ∈ l) : j ∈ insertSorted k l := by
  induction l with
  | nil => exact absurd listed List.not_mem_nil
  | cons i rest ih =>
    rw [insertSorted]
    split
    case isTrue => exact listed
    case isFalse =>
      split
      case isTrue => exact List.mem_cons_of_mem _ listed
      case isFalse =>
        rcases List.mem_cons.mp listed with rfl | later
        · exact List.mem_cons_self ..
        · exact List.mem_cons_of_mem _ (ih later)

/-- One word of image data is programmed. -/
def State.programWord (b : Bool) (offset : Nat) (data : List Byte) (k : Nat) : State → State :=
  State.modImage b fun i =>
    { i.header (offset + 8 * k) ((data.drop (8 * k)).take 8) with words := insertSorted (offset + 8 * k) i.words }

theorem ImageS.header_state (i : ImageS) (o : Nat) (w : List Byte) : (i.header o w).state = i.state := by
  unfold ImageS.header
  split
  case isTrue => rfl
  case isFalse => split <;> rfl

theorem State.programWord_image (b : Bool) (offset : Nat) (data : List Byte) (k : Nat) (s : State) :
    ((s.programWord b offset data k).image' b).state = (s.image' b).state
      ∧ ((s.programWord b offset data k).image' b).words = insertSorted (offset + 8 * k) (s.image' b).words := by
  rw [State.programWord, State.modImage_same]
  exact ⟨ImageS.header_state .., rfl⟩

/-- Words that are programmed stay programmed. -/
theorem State.programWord_words_kept {j : Nat} {b : Bool} {offset : Nat} {data : List Byte} (l : List Nat) (listed : j ∈ (s.image' b).words) :
    j ∈ ((forEach l (State.programWord b offset data) s).image' b).words := by
  refine forEach_keeps (P := fun v => j ∈ (v.image' b).words) l (fun k v kept => ?_) listed
  rw [(State.programWord_image b offset data k v).2]
  exact mem_insertSorted_of_mem _ kept

theorem State.programWord_words {b : Bool} {offset : Nat} {data : List Byte} {l : List Nat} {k : Nat} (listed : k ∈ l) :
    offset + 8 * k ∈ ((forEach l (State.programWord b offset data) s).image' b).words := by
  induction l generalizing s with
  | nil => exact absurd listed List.not_mem_nil
  | cons j rest ih =>
    rcases List.mem_cons.mp listed with rfl | later
    · refine State.programWord_words_kept (s := s.programWord b offset data k) rest ?_
      rw [(State.programWord_image b offset data k s).2]
      exact mem_insertSorted_self ..
    · exact ih later

/-- What image data leaves: the image goes on receiving, every word of the data is programmed, and the other image is as it was. -/
def Programmed (b : Bool) (offset words : Nat) (s t : State) : Prop :=
  (t.image' b).state = 2 ∧ (∀ k, k < words → offset + 8 * k ∈ (t.image' b).words) ∧ t.image' (!b) = s.image' (!b)

theorem State.programImage_programmed {b : Bool} (offset : Nat) (data : List Byte) (receiving : (s.image' b).state = 2) :
    Programmed b offset (data.length / 8) s (s.programImage b offset data) := by
  have image (c : Bool) : (s.programImage b offset data).image' c
      = (forEach (List.range (data.length / 8)) (State.programWord b offset data) s).image' c := rfl
  refine ⟨?_, fun k below => ?_, ?_⟩
  · rw [image]
    exact forEach_keeps (P := fun v => (v.image' b).state = 2) _ (fun k v kept => (State.programWord_image b offset data k v).1.trans kept) receiving
  · rw [image]
    exact State.programWord_words (List.mem_range.mpr below)
  · rw [image]
    exact forEach_keeps (P := fun v => v.image' (!b) = s.image' (!b)) _ (fun k v kept => (State.modImage_other (by simp) ..).trans kept) rfl

theorem State.imageWrite_programs {o : Nat} {data : List Byte} (some' : data ≠ []) (words : data.length % 8 = 0) (aligned : o % 8 = 0)
    (free : ∀ k, k < data.length / 8 → (s.image' s.spareImage).refuses (o + 8 * k) = false) (receiving : (s.image' s.spareImage).state = 2)
    (can : s.noPrograms = false) : s.imageWrite o data = (0, s.programImage s.spareImage o data) := by
  have open' : ((List.range (data.length / 8)).any fun k => (s.image' s.spareImage).refuses (o + 8 * k)) = false := by
    simpa [List.any_eq_false] using free
  refine (if_neg ?_).trans ((if_neg ?_).trans (if_neg ?_))
  · simp [some', words]
  · rw [open']
    simp [aligned]
  · simp [receiving, can]

theorem does_imageData {o : Nat} {data : List Byte} (cox : s.coxUp = true)
    (writes : s.imageWrite o data = (0, s.programImage s.spareImage o data)) (receiving : (s.image' s.spareImage).state = 2) :
    Does (.imageData o data) s fun t => Programmed s.spareImage o (data.length / 8) s t ∧ accepted byOperator 0x6001 0 t := by
  have next : exec (.imageData o data) s = .next ((s.programImage s.spareImage o data).emit (.access byOperator 0x6001 0 0 0)) := by
    refine (accessed_of_up cox _).trans ?_
    rw [writes]
    dsimp only
    rw [State.answer, respondAccess_eq _ _ _ _ _ _ (by decide)]
  exact does_of_next next ⟨State.programImage_programmed o data receiving, accepted_emit ..⟩

theorem does_imageSegment {o : Nat} {data : List Byte} (cox : s.coxUp = true) (short : data.length ≤ 240)
    (writes : s.imageWrite o data = (0, s.programImage s.spareImage o data)) (receiving : (s.image' s.spareImage).state = 2) :
    Does (.imageSegment o data) s fun t => Programmed s.spareImage o (data.length / 8) s t ∧ accepted byOperator 0x6001 1 t := by
  have next : exec (.imageSegment o data) s = .next ((s.programImage s.spareImage o data).emit (.access byOperator 0x6001 1 0 0)) := by
    refine (accessed_of_up cox _).trans ?_
    rw [State.segmentOp, if_neg (by omega), writes]
    dsimp only
    rw [State.answer, respondAccess_eq _ _ _ _ _ _ (by decide)]
  exact does_of_next next ⟨State.programImage_programmed o data receiving, accepted_emit ..⟩

theorem does_trialConfirm {b : Bool} (cox : s.coxUp = true) (trial : s.img.trial = some b) (runs : s.img.runsB = b) : Does .trialConfirm s fun t =>
    t.img.activeB = b ∧ t.img.trial = none ∧ (t.image' b).state = 5 ∧ (t.image' (!b)).state = 3 := by
  have next : exec .trialConfirm s = .next ((((s.modImage (!b) fun i => { i with state := 3 }).modImage b fun i => { i with state := 5 }).modImg fun x =>
      { x with activeB := b, trial := none, attempts := 0 }).storeWrite 92) := by
    rw [exec, execTrialConfirm, trial]
    exact if_pos ⟨cox, runs⟩
  have image (v : State) (c : Bool) : ((v.modImg fun x => { x with activeB := b, trial := none, attempts := 0 }).storeWrite 92).image' c = v.image' c := rfl
  refine does_of_next next ⟨rfl, rfl, ?_, ?_⟩
  · rw [image, State.modImage_same]
  · rw [image, State.modImage_other (by simp), State.modImage_same]

/-! ## The activation (R400, R403) -/

/-- Cox is down; neither the outputs nor the slots have changed, nor the image b, which is neither erased nor received. -/
structure CoxCut (b : Bool) (s t : State) : Prop where
  cox : t.cox.state = 0
  out : t.out = s.out
  slots : t.obj.slots = s.obj.slots
  image : t.image' b = s.image' b
  whole : (s.image' b).state ≠ 1 ∧ (s.image' b).state ≠ 2

theorem CoxCut.keep {b : Bool} {t u : State} (cut : CoxCut b s t) (cox : u.cox = t.cox) (out : u.out = t.out) (slots : u.obj.slots = t.obj.slots)
    (image : u.image' b = t.image' b) : CoxCut b s u :=
  { cox := cox ▸ cut.cox, out := out.trans cut.out, slots := slots.trans cut.slots, image := image.trans cut.image, whole := cut.whole }

/-- With Cox down an operation's end is put off (R319). -/
theorem CoxCut.ticketDone {b : Bool} {t : State} (cut : CoxCut b s t) (n outcome : Nat) (result : List Byte) : CoxCut b s (t.ticketDone n outcome result) := by
  have down : t.coxUp = false := by simp [State.coxUp, cut.cox]
  rw [State.ticketDone]
  dsimp only
  split
  case isTrue => exact cut
  case isFalse =>
    rw [down]
    exact cut.keep rfl rfl rfl rfl

theorem CoxCut.cutImage {b : Bool} {t : State} (cut : CoxCut b s t) (c : Bool) : CoxCut b s (t.cutImage c) := by
  rw [State.cutImage]
  split
  case isFalse => exact cut
  case isTrue busy =>
    have other : b ≠ c := by
      rintro rfl
      rw [cut.image] at busy
      exact busy.elim cut.whole.1 cut.whole.2
    have marked : CoxCut b s (t.modImage c fun i => { i with state := 4, toErase := 0, words := [] }) :=
      cut.keep rfl rfl rfl (State.modImage_other other ..)
    generalize (t.modImage c fun i => { i with state := 4, toErase := 0, words := [] }) = v at *
    dsimp only
    split
    case h_1 n slot => exact (marked.ticketDone n 7 []).keep rfl rfl rfl rfl
    case h_2 => exact marked

theorem CoxCut.cutOptions {b : Bool} {t : State} (cut : CoxCut b s t) : CoxCut b s t.cutOptions := by
  rw [State.cutOptions]
  split
  case h_1 =>
    refine CoxCut.ticketDone (t := t.modFls fun f =>
      { f with optionWrite := none, optionCut := f.flags.contains optionSector || f.optionWords.isNone }) ?_ _ 7 []
    exact cut.keep rfl rfl rfl rfl
  case h_2 => exact cut

theorem CoxCut.cutFlash {b : Bool} {t : State} (cut : CoxCut b s t) : CoxCut b s t.cutFlash :=
  (((cut.keep (u := t.flashReset) rfl rfl rfl rfl).cutImage false).cutImage true).cutOptions

theorem State.coxReset_cut {b : Bool} (whole : (s.image' b).state ≠ 1 ∧ (s.image' b).state ≠ 2) : CoxCut b s s.coxReset := by
  unfold State.coxReset
  extract_lets reset cut sessions waits replies paused
  have begun : CoxCut b s reset := { cox := rfl, out := rfl, slots := rfl, image := rfl, whole := whole }
  have flash : CoxCut b s cut := begun.cutFlash
  have waiting : CoxCut b s waits := flash.keep rfl rfl rfl rfl
  have replied : CoxCut b s replies := by
    refine forEach_keeps (P := CoxCut b s) _ (fun h v kept => ?_) waiting
    exact kept.keep rfl rfl rfl rfl
  have stopped : CoxCut b s paused := replied.keep rfl rfl rfl rfl
  split
  case isTrue => exact stopped
  case isFalse => exact stopped.keep rfl rfl rfl rfl

theorem State.coxReset_trial (s : State) : s.coxReset.img.trial = s.img.trial := by simp

/-- The spare image begins its trial. -/
def State.trialBegun (b : Bool) (n : Nat) (s : State) : State :=
  ((s.modImage b fun i => { i with state := 6 }).modImg fun x => { x with trial := some b, attempts := 0, activateSlot := some n }).storeWrite 92

theorem State.activateOp_eq {n : Nat} {req : Req} (free : s.freeSlot = some n) (steady : s.img.trial = none) (valid : (s.image' s.spareImage).state = 3) :
    s.activateOp req = (0, ((s.ticketStart req 0x6000 18).2.slot n).ticket, (s.ticketStart req 0x6000 18).2.trialBegun s.spareImage n) :=
  (if_neg (by simp [steady, valid])).trans (State.deferred_eq free ..)

theorem State.trialBegun_kept (b : Bool) (n : Nat) (s : State) : ((s.trialBegun b n).image' b).state = 6 ∧ (s.trialBegun b n).img.trial = some b
    ∧ (s.trialBegun b n).img.activateSlot = some n ∧ (s.trialBegun b n).obj = s.obj := by
  refine ⟨?_, rfl, rfl, rfl⟩
  have image : (s.trialBegun b n).image' b = (s.modImage b fun i => { i with state := 6 }).image' b := rfl
  rw [image, State.modImage_same]

theorem does_activate {req : Req} {n : Nat} (cox : s.coxUp = true) (free : s.freeSlot = some n) (steady : s.img.trial = none)
    (may : mayWrite 0x6000 18 req = 0) (valid : (s.image' s.spareImage).state = 3) : Does (.activate req) s fun t => t.img.trial = some s.spareImage
      ∧ (t.image' s.spareImage).state = 6 ∧ t.cox.state = 0 ∧ t.cox.byActivate = true ∧ (t.slot n).state = 1 ∧ accepted req 0x6000 18 t := by
  have slot : ((s.ticketStart req 0x6000 18).2.slot n).state = 1 := by rw [State.ticketStart_slot free]; rfl
  have next : exec (.activate req) s = .next ((((s.ticketStart req 0x6000 18).2.trialBegun s.spareImage n).emit
      (.access req 0x6000 18 0 ((s.ticketStart req 0x6000 18).2.slot n).ticket)).coxReset.modCox fun c => { c with byActivate := true }) := by
    refine (accessed_of_up cox _).trans ?_
    rw [guarded_of_may _ may, State.activateOp_eq free steady valid, respondAccess_eq _ _ _ _ _ _ (by decide)]
    rfl
  generalize (s.ticketStart req 0x6000 18).2 = v at *
  obtain ⟨image, trial, -, obj⟩ := State.trialBegun_kept s.spareImage n v
  generalize s.spareImage = b at *
  have told : accepted req 0x6000 18 ((v.trialBegun b n).emit (.access req 0x6000 18 0 (v.slot n).ticket)) := accepted_emit ..
  have image' : ((v.trialBegun b n).emit (.access req 0x6000 18 0 (v.slot n).ticket)).image' b = (v.trialBegun b n).image' b := rfl
  have trial' : ((v.trialBegun b n).emit (.access req 0x6000 18 0 (v.slot n).ticket)).img.trial = (v.trialBegun b n).img.trial := rfl
  have obj' : ((v.trialBegun b n).emit (.access req 0x6000 18 0 (v.slot n).ticket)).obj = (v.trialBegun b n).obj := rfl
  generalize (v.trialBegun b n).emit (.access req 0x6000 18 0 (v.slot n).ticket) = w at *
  have six : (w.image' b).state = 6 := (congrArg ImageS.state image').trans image
  have cut : CoxCut b w w.coxReset := State.coxReset_cut (by rw [six]; decide)
  have began := State.coxReset_trial w
  generalize w.coxReset = u at *
  refine does_of_next next ⟨?_, ?_, cut.cox, rfl, ?_, ?_⟩
  · exact began.trans (trial'.trans trial)
  · exact (congrArg ImageS.state cut.image).trans six
  · have slots : u.obj.slots = v.obj.slots := cut.slots.trans ((congrArg ObjS.slots obj').trans (congrArg ObjS.slots obj))
    rw [State.slot] at slot ⊢
    rw [← slots] at slot
    exact slot
  · obtain ⟨ticket, last⟩ := told
    exact ⟨ticket, (congrArg List.getLast? cut.out).trans last⟩

end
end Sys2Proof.Machine
open Sys2Proof Sys2Proof.Machine

/-- Settles O53, by the controller's choice of its next operation and by each image operation's own branch. -/
theorem flashAndImages : Obligations.FlashAndImages := by
  intro s five
  refine ⟨?_, ?_, fun n last idle empty held => does_flashResume last idle empty held, fun cox => ⟨does_journalCompaction cox, ?_, ?_, ?_, ?_⟩⟩
  case refine_1 => exact fun c n runs => ⟨does_flashProgramDone five runs, does_flashProgramDone_failed five runs⟩
  case refine_2 =>
    intro n runs
    refine ⟨exec_flashEraseDone_goesOn runs, does_flashEraseDone five runs, ?_, does_flashSuspend runs, does_eraseMinimumRunEnd runs⟩
    rintro rfl empty whole can
    exact does_flashEraseDone_options runs empty whole can
  case refine_3 => exact fun req n r b w g x may level mode least most idle free => does_optionsWrite g x cox may level mode least most idle free
  case refine_4 =>
    intro req n free steady
    refine ⟨fun len may least most unused => does_updateBegin cox free steady may least most unused, ?_, does_activate cox free steady⟩
    exact fun d g may received can => does_updateCommit d g cox free may received can
  case refine_5 =>
    intro o data some' words aligned free receiving can
    have writes := State.imageWrite_programs some' words aligned free receiving can
    have active : s.img.activeB = !s.spareImage := by simp [State.spareImage]
    obtain ⟨t, next, frame, ⟨state, programmed, other⟩, told⟩ := does_imageData cox writes receiving
    rw [active]
    refine ⟨⟨t, next, frame, ⟨state, programmed, other⟩, told⟩, fun short => ?_⟩
    obtain ⟨u, next', frame', ⟨state', programmed', other'⟩, told'⟩ := does_imageSegment cox short writes receiving
    exact ⟨u, next', frame', ⟨state', programmed', other'⟩, told'⟩
  case refine_6 => exact fun b trial runs => does_trialConfirm cox trial runs
end

section
/-! PROOFS. Power domains (O49): a rail's failure starts the probe that waits for it. -/
namespace Sys2Proof.Machine

open Sys2Proof.Tests

/-- In data service, every rail on, with die 0 of channel 0 in its probe and the channel itself waiting for that probe's end. -/
def railAwaited : State :=
  { serving with flt := { units := [(0, { state := .probing }), (srcChannel 0, { state := .fenced, waitsChannel := true })] } }

/-- The state of a rail's overcurrent before HALT_N is pulled. -/
def State.railCut (d : Nat) (s : State) : State :=
  let seat := seatOfDomain d
  ((((s.modDomain d fun _ => {}).seatFault seat 3 d).report (srcSeat seat) 0x64 (some (powerAddr d))).setLatch d 2 (srcSeat seat)).railGone d

theorem exec_railFailure_overcurrent {s : State} {d : Nat} (keel : s.keelOn = true) (known : d < 176) (on : (s.domain d).state = 3) :
    exec (.railFailure d true) s = .next ((s.railCut d).pullHalt (seatOfDomain d)) := by
  refine (if_neg (by simpa [keel] using known)).trans ((if_neg ?_).trans (if_pos rfl))
  rw [on]
  decide

/-- The die's probe ends, so the channel's begins, and asks for its rails. -/
theorem railCut_domain : (((railAwaited.railCut 32).pullHalt (seatOfDomain 32)).domain 32).state = 1 := by
  decide +kernel

end Sys2Proof.Machine

open Sys2Proof Sys2Proof.Machine

/-- Refutes O49: the failed rail of a die in its probe is asked for again at once, by the probe of the channel that waits for the die's. -/
theorem not_powerSequence : ¬ Obligations.PowerSequence := by
  intro holds
  obtain ⟨-, -, rail, -⟩ := holds railAwaited 32 (by decide) (by decide) (by decide)
  obtain ⟨⟨t, next, -, off, -⟩, -⟩ := rail (by decide) (by decide)
  rw [exec_railFailure_overcurrent (by decide) (by decide) (by decide)] at next
  obtain rfl := Host.Outcome.next.inj next
  rw [railCut_domain] at off
  exact absurd off (by decide)

end

section
/-! PROOFS. The commands of 0x7000.00 (O27): a sanitize that brings a re-key to its end. -/
namespace Sys2Proof.Machine

open Sys2Proof.Tests

/-- `rekeyEnding` with the re-key's ticket in slot 0, where the sanitize's ticket starts. -/
def rekeyInSlot : State := { rekeyEnding with itg := { rekeyEnding.itg with rekeySlot := 0 } }

/-- The state in which the sanitize's ticket runs. -/
def sanitizeStarted : State := (rekeyInSlot.ticketStart byCustodian 0x7000 0).2

theorem sanitizeStarted_trc : sanitizeStarted.trc = rekeyEnding.trc := by
  simp [sanitizeStarted, rekeyInSlot]

theorem sanitizeStarted_crowded : (sanitizeStarted.runUnits 0).Crowded where
  ents := by decide +kernel
  cold := by decide +kernel
  wide := by decide +kernel

theorem sanitizeStarted_migs : (sanitizeStarted.runUnits 0).trc.migs = (List.range' 0 256).map clearingMigration := by
  decide +kernel

theorem sanitizeStarted_windows : (sanitizeStarted.runUnits 0).itg.windows = [] := by
  decide +kernel

/-- The re-key ends the ticket of its slot. -/
theorem sanitizeStarted_slot : ((sanitizeStarted.runUnits 0).slot 0).state = 2 ∧ ((sanitizeStarted.runUnits 0).slot 0).result = [] := by
  decide +kernel

theorem sanitizeStarted_zeroed : State.zeroed sanitizeStarted (sanitizeStarted.sanitizeExtent 0) 0 = true := by
  refine List.all_eq_true.mpr fun u listed => decide_eq_true ?_
  have inside : u < 256 := by
    rw [mem_range'] at listed
    omega
  have placed := renewals_pt (l := List.range' 0 256) List.nodup_range' (fun t member => by simpa using List.mem_range'_1.mp member)
    sanitizeStarted_crowded sanitizeStarted_migs (u := u) (.inl (List.mem_range'_1.mpr (by omega)))
  have after : ((sanitizeStarted.sanitizeExtent 0).entry u).pt = 234637 + u := by
    rw [State.sanitizeExtent, State.zeroExtent, closeWindows_none sanitizeStarted_windows]
    simpa [range'] using placed
  have before : (sanitizeStarted.entry u).pt = u := by
    have logical : u < logicalTracts := lt_trans inside (by decide)
    have small : u < 229376 := lt_trans inside (by decide)
    rw [State.entry, sanitizeStarted_trc]
    change (shipEntry u).pt = u
    simp [shipEntry, logical, Nat.div_eq_of_lt small, Nat.mod_eq_of_lt small]
  rw [before, after]
  omega

theorem sanitizeExtent_slot (e n : Nat) (s : State) : (s.sanitizeExtent e).slot n = (s.runUnits e).slot n := by
  rw [State.sanitizeExtent, State.slot, State.slot]
  simp

theorem State.ticketDone_ended {s : State} {n : Nat} (ended : (s.slot n).state = 2) (outcome : Nat) (result : List Byte) : s.ticketDone n outcome result = s :=
  if_pos (by rw [ended]; decide)

/-- The sanitize of one extent whose tracts are all renewed. -/
theorem State.sanitizeAll_one {s : State} {e : Nat} (whole : s.suspectIn e = false) (zeroed : State.zeroed s (s.sanitizeExtent e) e = true) :
    s.sanitizeAll 0 0xFFFF (range' e 1) = ((1, 0xFFFF), s.sanitizeExtent e) :=
  if_neg (by rw [whole, zeroed]; decide)

theorem exec_sanitizeExtents_one {s : State} {req : Req} {e n : Nat} (cox : s.coxUp = true) (may : mayWrite 0x7000 0 req = 0)
    (custodian : Role.atLeast req.role .custodian = true) (known : e < extents) (free : s.freeSlot = some n)
    (on : (s.ticketStart req 0x7000 0).2.domainOn 2 = true) (loaded : (s.ticketStart req 0x7000 0).2.str.mapsLoaded = true)
    (whole : (s.ticketStart req 0x7000 0).2.suspectIn e = false)
    (zeroed : State.zeroed (s.ticketStart req 0x7000 0).2 ((s.ticketStart req 0x7000 0).2.sanitizeExtent e) e = true) :
    exec (.sanitizeExtents req e 1) s = .next ((((s.ticketStart req 0x7000 0).2.sanitizeExtent e).ticketDone n 0 (be 2 1 ++ be 2 0xFFFF)).emit
      (.access req 0x7000 0 0 ((s.ticketStart req 0x7000 0).2.slot n).ticket)) := by
  have op : s.sanitizeOp req e 1 = _ := (if_neg (by simp [custodian])).trans (if_neg (by omega))
  refine (accessed_of_up cox _).trans (congrArg Host.Outcome.next ?_)
  rw [guarded_of_may _ may, op, respondAccess_deferred free]
  generalize (s.ticketStart req 0x7000 0).2 = v at *
  rw [if_neg (by simp [on]), if_neg (by simp [loaded])]
  dsimp only
  rw [State.sanitizeAll_one whole zeroed]
  rfl

theorem State.emit_slot (o : Out) (n : Nat) (s : State) : (s.emit o).slot n = s.slot n := rfl

theorem sanitizeResult_empty : ((((sanitizeStarted.sanitizeExtent 0).ticketDone 0 0 (be 2 1 ++ be 2 0xFFFF)).emit
    (.access byCustodian 0x7000 0 0 (sanitizeStarted.slot 0).ticket)).slot 0).result = [] := by
  obtain ⟨state, result⟩ := sanitizeStarted_slot
  rw [← sanitizeExtent_slot] at state result
  rw [State.emit_slot, State.ticketDone_ended state]
  exact result

end Sys2Proof.Machine

open Sys2Proof Sys2Proof.Machine

/-- Refutes O27: the sanitize brings the last span of a re-key to its end, which ends the ticket in its own slot, with no result. -/
theorem not_objectWrites : ¬ Obligations.ObjectWrites := by
  intro holds
  obtain ⟨-, -, -, commands, -⟩ := holds rekeyInSlot (by decide) (by decide)
  obtain ⟨-, -, sanitize⟩ := commands byCustodian 0 (by decide) (by decide)
  obtain ⟨t, next, -, -, -, done⟩ := (sanitize 0 (by decide) (by decide) (by decide) (by decide)).1 (by decide)
  rw [exec_sanitizeExtents_one (n := 0) (by decide) (by decide) (by decide) (by decide) (by decide) (by decide) (by decide) (by decide)
    sanitizeStarted_zeroed] at next
  obtain rfl := Host.Outcome.next.inj next
  have empty := sanitizeResult_empty
  rcases done with ⟨-, result, -⟩ | ⟨-, result, -⟩
  · exact absurd (empty.symm.trans result) (by decide)
  · exact absurd (empty.symm.trans result) (by decide)

end
